-- ==== Sys2Proof/Word.lean ====
section
/-! DEFINITION. The machine word of the Fyolmer parts (00_scope.md, "Bits, words and nonets"). -/

namespace Sys2Proof

/-- The machine word: 36 bits, bit 0 least significant. -/
abbrev Word := BitVec 36

end Sys2Proof
end

