-- ==== Sys2Proof/Syntax.lean ====
section
/-! DEFINITION. The commands of the block: one constructor of Instr for each row of
spec/opcode_table.json, with the operands the row needs. -/

namespace Sys2Proof

/-- A 72-bit capability with its tag, as a pair of words (R87, R92). -/
structure Cap where
  hi : Word
  lo : Word
  tag : Bool
  deriving DecidableEq, Repr, Inhabited

/-- What every instruction command names: the core that issues it, the guard predicate and the
negate bit of its word (R161, R162). -/
structure Iss where
  core : BitVec 7
  q : BitVec 3
  neg : Bool
  deriving DecidableEq, Repr, Inhabited

/-- The request stamp of Table 8.2 (R371). -/
structure Stamp where
  cls : BitVec 2
  die : BitVec 3
  core : BitVec 7
  ctx : BitVec 2
  comp : BitVec 8
  priv : BitVec 2
  set : Bool
  epoch : BitVec 16
  deriving DecidableEq, Repr, Inhabited

/-- One direction of a link of Table 11.1: a region crossbar port (toward the port or from it), a die
bridge out of a die through a port, or a Causeway link out of or into the package. -/
inductive LinkDir where
  | xbarTo (region : BitVec 5) (port : BitVec 3)
  | xbarFrom (region : BitVec 5) (port : BitVec 3)
  | bridge (die : BitVec 3) (port : BitVec 2)
  | cwyOut (link : BitVec 2)
  | cwyIn (link : BitVec 2)
  deriving DecidableEq, Repr, Inhabited

/-- How a region error manager answers a report (R40, R41, R46, R49): it records it only, holds one
core block or the channel block, cannot contain it, reports a crossbar violation, or the error lies in
the die services of the die. -/
inductive Containment where
  | record
  | holdBlock (b : BitVec 2)
  | holdChannels
  | uncontained
  | crossbarViolation
  | dieServices
  deriving DecidableEq, Repr, Inhabited

/-- What a package learns of its peer when a Causeway link reaches Up or a join is asked for (R536, R539): strap, serial
number, membership (0 where the peer belongs to no stack), position, stack identity, track time, whether a synthetic reference of
it is not Off, and, for a joiner, whether its synthetic and remote references are Off, whether it is Up with every member, whether
it is in Mire. -/
structure PeerFacts where
  strap : BitVec 2
  serial : BitVec 64
  members : BitVec 4
  pos : BitVec 2
  stackId : BitVec 64
  time : BitVec 72
  synth : Bool
  refsOff : Bool
  upWithAll : Bool
  mire : Bool
  deriving DecidableEq, Repr, Inhabited

/-- One reference in a synchronisation packet (R543): lock state and stamp. -/
structure RefSample where
  state : BitVec 3
  stamp : Word
  deriving DecidableEq, Repr, Inhabited

/-- One channel's inputs at its sample instant (R457, R458): the voltages that its two converters meet on SNA and SNB (in a
self-test frame, their test references), in microvolts, and the level of ball FB. -/
structure Sample where
  a : Int
  b : Int
  fb : Bool
  deriving DecidableEq, Repr, Inhabited

/-- The port whose ring a KICK names (R553). -/
inductive PortId where
  | eth (i : BitVec 2)
  | can (die : BitVec 3)
  deriving DecidableEq, Repr, Inhabited

/-- A CAN frame on the bus (Table 11.11). -/
structure CanFrame where
  id : BitVec 29
  xtd : Bool
  rtr : Bool
  fdf : Bool
  brs : Bool
  esi : Bool
  dlc : BitVec 4
  data : List (BitVec 8)
  deriving DecidableEq, Repr, Inhabited

/-- What the bus makes of a transmission attempt (R563, R564, ISO 11898-1): a frame sent has its start-of-frame bit `age` fabric cycles
ago. -/
inductive CanOutcome where
  | sent (age : BitVec 32)
  | lostArbitration
  | error
  deriving DecidableEq, Repr, Inhabited

/-- The traffic that a unit of the fabric carries, with the classes of R36. -/
inductive Traffic where
  | access (comp : BitVec 8)
  | reedEvent
  | sluice
  | samples
  | errorReport
  | dma
  | migration
  | sweeper
  | externalMemory
  | network
  | flash
  deriving DecidableEq, Repr, Inhabited

/-- What a receiver makes of a frame on the bus (R563, R564, ISO 11898-1): good, in error, or in error with a dominant bit first
after its own error flag. -/
inductive CanReceipt where
  | good
  | error
  | dominant
  deriving DecidableEq, Repr, Inhabited

/-- What the SFDP tables of a flash device say (R566, R567): whether the signature is there, the length of the basic parameter table,
the modes of CTL.MODE it supports with the fast read instructions of 1-4-4 and 4-4-4, the quad enable requirement, the sequence that
enables 4-4-4, the density in octets, 4-byte addressing, the log2 sizes and the instructions of the erase types, the log2 page size, the busy
polling method, and the program instruction of the 4-byte address instruction table. -/
structure SfdpFacts where
  signature : Bool
  dwords : Nat
  modes : BitVec 3
  read144 : BitVec 8
  read444 : BitVec 8
  quadEnable : BitVec 3
  enable444 : BitVec 5
  density : Word
  fourByte : Bool
  eraseLog2 : BitVec 20
  eraseCode : BitVec 32
  pageLog2 : BitVec 4
  busyPoll : BitVec 6
  program : Option (BitVec 8)
  deriving DecidableEq, Repr, Inhabited

/-- One image set as the flash port reads it at boot (R566, R587, R588): what its SFDP says, and the octets that the port can
read, as runs of octets with the flash address of the first; a read of any other octet fails. -/
structure FlashSet where
  sfdp : SfdpFacts
  octets : List (Nat × List (BitVec 8))
  deriving DecidableEq, Repr, Inhabited

/-- What the Carrs meet at handover (R241, R582, R583): whether what the checker has of the Carr image and of the choice agrees with
the primary, and a die whose random source fails its test before the target-cache keys are drawn. -/
structure HandoverFacts where
  agrees : Bool
  rngFail : Option (BitVec 3)
  deriving DecidableEq, Repr, Inhabited

/-- A ball that has cells in the boundary register (R680, R681, R697): GD_m or FB_m of a channel, a position of the service strip, or
a position of an EMP strip (Table 15.3). -/
inductive Ball where
  | gd (m : BitVec 10)
  | fb (m : BitVec 10)
  | service (k : BitVec 6)
  | emp (j : BitVec 1) (k : BitVec 7)
  deriving DecidableEq, Repr, Inhabited

/-- A content of the boundary register (R697): the balls whose input, output and enable cells hold 1. -/
structure BoundaryCells where
  inp : List Ball
  out : List Ball
  en : List Ball
  deriving DecidableEq, Repr, Inhabited

/-- An instruction of the test access port, and what a scan under SAMPLE/PRELOAD then leaves in the boundary register (R644, IEEE
1149.1). -/
structure TapLoad where
  code : BitVec 8
  cells : BoundaryCells
  deriving DecidableEq, Repr, Inhabited

/-- A Carr command that draws from the random source (R583, R604): its buffer, and whether the source passes its test. -/
structure CarrStart where
  addr : BitVec 30
  rng : Bool
  deriving DecidableEq, Repr, Inhabited

/-- A block DMA descriptor (Table 3.9, R321, R391): its compartment and privilege, the authorities of
its source and destination, the number of words, and whether capability copy is asked for. -/
structure DmaDesc where
  comp : BitVec 8
  priv : BitVec 2
  src : Cap
  dst : Cap
  count : BitVec 30
  copyCaps : Bool
  deriving DecidableEq, Repr, Inhabited

/-- What a page of another package answers (R546, R548): the word, a refusal, or that the page is unpopulated, powered down or
isolated there; or, there or in this package, that a block's port found the parity of the request wrong (R35). An access within the
package takes no other answer from outside. -/
inductive RemoteAnswer where
  | data (w : Word)
  | refused
  | unpopulated
  | down
  | isolated
  | parity
  deriving DecidableEq, Repr, Inhabited

/-- What a bank or port answers to a core's buffered store (R32, R35, R242): that it is performed, or that the parity of the
request was wrong. -/
structure StoreReceipt where
  core : BitVec 7
  parity : Bool
  deriving DecidableEq, Repr, Inhabited

/-- A transfer that a crossbar output grants (R35, R37): its virtual channel, and whether the request arrives at the port of its
block with wrong parity. -/
structure CrossbarUnit where
  timed : Bool
  parity : Bool
  deriving DecidableEq, Repr, Inhabited

/-- The master's time in a synchronisation packet (R543, R544): track time as it left, and the next step that the master is about
to take (0 for none) with the track time at which it takes it. -/
structure MasterTime where
  now : BitVec 72
  step : BitVec 72
  stepAt : BitVec 72
  deriving DecidableEq, Repr, Inhabited

/-- A write to STEP_HI (R427): the word, and whether a synthetic reference of another package of the stack is not Off then. -/
structure StepWrite where
  value : Word
  synth : Bool
  deriving DecidableEq, Repr, Inhabited

/-- A round trip measured on a link (R427, R543): its length in nanoseconds, and whether the far package has a synthetic reference
that is not Off. -/
structure RoundTrip where
  ns : BitVec 19
  synth : Bool
  deriving DecidableEq, Repr, Inhabited

/-- A rising crossing at a PHREF ball (R711): how many fabric cycles ago, and how far below the threshold, in mV, the input lay
since the last one. -/
structure Crossing where
  age : BitVec 24
  low : BitVec 12
  deriving DecidableEq, Repr, Inhabited

/-- The level of a channel's ball FB (R469), and for how many fabric cycles it has had it. -/
structure FbLevel where
  chan : BitVec 10
  fb : Bool
  age : BitVec 32
  deriving DecidableEq, Repr, Inhabited

/-- A frame on a die's CAN bus, what its receiver makes of it, and how many fabric cycles ago its start-of-frame bit was (R563,
R564). -/
structure CanArrival where
  frame : CanFrame
  receipt : CanReceipt
  age : BitVec 32
  deriving DecidableEq, Repr, Inhabited

/-- A die bridge transfer or a Causeway packet as it arrives (R527): its octets, and its CRC. -/
structure UnitBits where
  octets : List (BitVec 8)
  crc : BitVec 32
  deriving DecidableEq, Repr, Inhabited

/-- A credit that returns (R523, R527): its virtual channel, and the sequence number that an acknowledgement with it names. -/
structure CreditReturn where
  timed : Bool
  ack : Option (BitVec 12)
  deriving DecidableEq, Repr, Inhabited

/-- The commands, one constructor per row of spec/opcode_table.json. -/
inductive Instr where
  /-- ADD (R169): Adds Wa and Wb modulo 2^36, writes the wrapped result and sets PSW.AOV on signed overflow. -/
  | add (i : Iss) (d : BitVec 5) (a : BitVec 5) (b : BitVec 5)
  /-- SUB (R169): Subtracts Wb from Wa modulo 2^36 and sets PSW.AOV on signed overflow. -/
  | sub (i : Iss) (d : BitVec 5) (a : BitVec 5) (b : BitVec 5)
  /-- ADDV (R168): Adds Wa and Wb and raises the arithmetic fault on signed overflow, writing nothing. -/
  | addv (i : Iss) (d : BitVec 5) (a : BitVec 5) (b : BitVec 5)
  /-- SUBV (R168): Subtracts Wb from Wa and raises the arithmetic fault on signed overflow, writing nothing. -/
  | subv (i : Iss) (d : BitVec 5) (a : BitVec 5) (b : BitVec 5)
  /-- AND (R167): Writes the bitwise AND of Wa and Wb to Wd. -/
  | and_ (i : Iss) (d : BitVec 5) (a : BitVec 5) (b : BitVec 5)
  /-- OR (R167): Writes the bitwise OR of Wa and Wb to Wd. -/
  | or_ (i : Iss) (d : BitVec 5) (a : BitVec 5) (b : BitVec 5)
  /-- XOR (R167): Writes the bitwise exclusive OR of Wa and Wb to Wd. -/
  | xor_ (i : Iss) (d : BitVec 5) (a : BitVec 5) (b : BitVec 5)
  /-- ANDN (R167): Writes Wa AND NOT Wb to Wd. -/
  | andn (i : Iss) (d : BitVec 5) (a : BitVec 5) (b : BitVec 5)
  /-- NOR (R167): Writes NOT (Wa OR Wb) to Wd. -/
  | nor (i : Iss) (d : BitVec 5) (a : BitVec 5) (b : BitVec 5)
  /-- SHL (R170): Shifts Wa left by b[5:0], giving 0 for amounts 36 to 63. -/
  | shl (i : Iss) (d : BitVec 5) (a : BitVec 5) (b : BitVec 5)
  /-- SHR (R170): Shifts Wa right with zeros in, giving 0 for amounts 36 to 63. -/
  | shr (i : Iss) (d : BitVec 5) (a : BitVec 5) (b : BitVec 5)
  /-- SAR (R170): Shifts Wa right with sign bits in, giving all sign bits for amounts 36 to 63. -/
  | sar (i : Iss) (d : BitVec 5) (a : BitVec 5) (b : BitVec 5)
  /-- ROL (R170): Rotates Wa left by the amount modulo 36. -/
  | rol (i : Iss) (d : BitVec 5) (a : BitVec 5) (b : BitVec 5)
  /-- MIN (R167): Writes the signed minimum of Wa and Wb. -/
  | min_ (i : Iss) (d : BitVec 5) (a : BitVec 5) (b : BitVec 5)
  /-- MAX (R167): Writes the signed maximum of Wa and Wb. -/
  | max_ (i : Iss) (d : BitVec 5) (a : BitVec 5) (b : BitVec 5)
  /-- MINU (R167): Writes the unsigned minimum of Wa and Wb. -/
  | minu (i : Iss) (d : BitVec 5) (a : BitVec 5) (b : BitVec 5)
  /-- MAXU (R167): Writes the unsigned maximum of Wa and Wb. -/
  | maxu (i : Iss) (d : BitVec 5) (a : BitVec 5) (b : BitVec 5)
  /-- CLZ (R167): Writes the number of leading zeros of Wa, 0 to 36. -/
  | clz (i : Iss) (d : BitVec 5) (a : BitVec 5)
  /-- POPC (R167): Writes the number of ones in Wa. -/
  | popc (i : Iss) (d : BitVec 5) (a : BitVec 5)
  /-- SXH (R167): Writes Wa[17:0] sign-extended. -/
  | sxh (i : Iss) (d : BitVec 5) (a : BitVec 5)
  /-- SXN (R167): Writes Wa[8:0] sign-extended. -/
  | sxn (i : Iss) (d : BitVec 5) (a : BitVec 5)
  /-- ADDI (R171): Adds the sign-extended immediate to Wa and sets AOV on signed overflow. -/
  | addi (i : Iss) (d : BitVec 5) (a : BitVec 5) (imm : BitVec 16)
  /-- ANDI (R171): ANDs Wa with the zero-extended immediate. -/
  | andi (i : Iss) (d : BitVec 5) (a : BitVec 5) (imm : BitVec 16)
  /-- ORI (R171): ORs Wa with the zero-extended immediate. -/
  | ori (i : Iss) (d : BitVec 5) (a : BitVec 5) (imm : BitVec 16)
  /-- XORI (R171): Exclusive-ORs Wa with the zero-extended immediate. -/
  | xori (i : Iss) (d : BitVec 5) (a : BitVec 5) (imm : BitVec 16)
  /-- SHI (R171): Shifts or rotates Wa by an immediate amount, with imm[7:6] selecting the shift kind. -/
  | shi (i : Iss) (d : BitVec 5) (a : BitVec 5) (kind : BitVec 2) (amt : BitVec 6)
  /-- LHI (R171): Loads a[1:0] concatenated with the immediate into the high half of Wd. -/
  | lhi (i : Iss) (d : BitVec 5) (top : BitVec 2) (imm : BitVec 16)
  /-- LLO (R171): Writes a[1:0] concatenated with the immediate into Wd[17:0], keeping the high half. -/
  | llo (i : Iss) (d : BitVec 5) (top : BitVec 2) (imm : BitVec 16)
  /-- CEQ (R172): Sets Q[d] to whether Wa equals Wb. -/
  | ceq (i : Iss) (d : BitVec 3) (a : BitVec 5) (b : BitVec 5)
  /-- CNE (R172): Sets Q[d] to whether Wa differs from Wb. -/
  | cne (i : Iss) (d : BitVec 3) (a : BitVec 5) (b : BitVec 5)
  /-- CLT (R172): Sets Q[d] to the signed comparison Wa < Wb. -/
  | clt (i : Iss) (d : BitVec 3) (a : BitVec 5) (b : BitVec 5)
  /-- CLE (R172): Sets Q[d] to the signed comparison Wa <= Wb. -/
  | cle (i : Iss) (d : BitVec 3) (a : BitVec 5) (b : BitVec 5)
  /-- CLTU (R172): Sets Q[d] to the unsigned comparison Wa < Wb. -/
  | cltu (i : Iss) (d : BitVec 3) (a : BitVec 5) (b : BitVec 5)
  /-- CLEU (R172): Sets Q[d] to the unsigned comparison Wa <= Wb. -/
  | cleu (i : Iss) (d : BitVec 3) (a : BitVec 5) (b : BitVec 5)
  /-- CEQI (R172): Sets Q[d[2:0]] to whether Wa equals the sign-extended immediate. -/
  | ceqi (i : Iss) (d : BitVec 3) (a : BitVec 5) (imm : BitVec 16)
  /-- CNEI (R172): Sets Q[d[2:0]] to whether Wa differs from the immediate. -/
  | cnei (i : Iss) (d : BitVec 3) (a : BitVec 5) (imm : BitVec 16)
  /-- CLTI (R172): Sets Q[d[2:0]] to the signed comparison Wa < immediate. -/
  | clti (i : Iss) (d : BitVec 3) (a : BitVec 5) (imm : BitVec 16)
  /-- CLTUI (R172): Sets Q[d[2:0]] to the unsigned comparison Wa < zero-extended immediate. -/
  | cltui (i : Iss) (d : BitVec 3) (a : BitVec 5) (imm : BitVec 16)
  /-- QAND (R172): Sets Q[d] to Q[a] AND Q[b]. -/
  | qand (i : Iss) (d : BitVec 3) (a : BitVec 3) (b : BitVec 3)
  /-- QOR (R172): Sets Q[d] to Q[a] OR Q[b]. -/
  | qor (i : Iss) (d : BitVec 3) (a : BitVec 3) (b : BitVec 3)
  /-- QXOR (R172): Sets Q[d] to Q[a] XOR Q[b]. -/
  | qxor (i : Iss) (d : BitVec 3) (a : BitVec 3) (b : BitVec 3)
  /-- QANDN (R172): Sets Q[d] to Q[a] AND NOT Q[b]. -/
  | qandn (i : Iss) (d : BitVec 3) (a : BitVec 3) (b : BitVec 3)
  /-- QNZ (R172): Sets Q[d] to whether Wa is non-zero. -/
  | qnz (i : Iss) (d : BitVec 3) (a : BitVec 5)
  /-- QTOW (R172): Copies the predicates Q7 to Q0 into Wd[7:0]. -/
  | qtow (i : Iss) (d : BitVec 5)
  /-- WTOQ (R172): Copies Wa[7:1] into predicates Q1 to Q7. -/
  | wtoq (i : Iss) (a : BitVec 5)
  /-- MUL (R174): Starts a signed multiply whose product writes MH:ML exactly 4 cycles after issue. -/
  | mul (i : Iss) (a : BitVec 5) (b : BitVec 5)
  /-- MULU (R174): Starts an unsigned multiply whose product writes MH:ML 4 cycles after issue. -/
  | mulu (i : Iss) (a : BitVec 5) (b : BitVec 5)
  /-- MUL_RESULT_WRITE (R176): A multiply in flight writes its product into MH:ML, in issue order, replacing any earlier MTM value. -/
  | mulResultWrite (core : BitVec 7) (ctx : BitVec 2)
  /-- MFMH (R175): Reads MH into Wd, seeing the previous product if fewer than 4 cycles have passed since a MUL. -/
  | mfmh (i : Iss) (d : BitVec 5)
  /-- MFML (R175): Reads ML into Wd under the exposed latency of the multiplier. -/
  | mfml (i : Iss) (d : BitVec 5)
  /-- MTM (R177): Writes MH and ML from Wa and Wb in the cycle of issue. -/
  | mtm (i : Iss) (a : BitVec 5) (b : BitVec 5)
  /-- DIV (R179): Starts a signed 36-cycle division, faulting on a zero divisor. -/
  | div (i : Iss) (a : BitVec 5) (b : BitVec 5)
  /-- DIVU (R179): Starts an unsigned 36-cycle division, faulting on a zero divisor. -/
  | divu (i : Iss) (a : BitVec 5) (b : BitVec 5)
  /-- DIV_COMPLETE (R179): A division completes after 36 cycles and writes DQ and DM. -/
  | divComplete (core : BitVec 7) (ctx : BitVec 2)
  /-- MFDQ (R173): Reads DQ into Wd. -/
  | mfdq (i : Iss) (d : BitVec 5)
  /-- MFDM (R173): Reads DM into Wd. -/
  | mfdm (i : Iss) (d : BitVec 5)
  /-- MTD (R173): Writes DQ and DM from Wa and Wb. -/
  | mtd (i : Iss) (a : BitVec 5) (b : BitVec 5)
  /-- LDW (R184): Loads a word through a checked capability into Wd. -/
  | ldw (i : Iss) (d : BitVec 5) (a : BitVec 4) (disp : BitVec 16)
  /-- LDH (R184): Loads a selected half, zero-extended. -/
  | ldh (i : Iss) (d : BitVec 5) (a : BitVec 4) (disp : BitVec 15) (sel : Bool)
  /-- LDHS (R184): Loads a selected half, sign-extended. -/
  | ldhs (i : Iss) (d : BitVec 5) (a : BitVec 4) (disp : BitVec 15) (sel : Bool)
  /-- LDN (R184): Loads a selected nonet, zero-extended. -/
  | ldn (i : Iss) (d : BitVec 5) (a : BitVec 4) (disp : BitVec 14) (sel : BitVec 2)
  /-- LDNS (R184): Loads a selected nonet, sign-extended. -/
  | ldns (i : Iss) (d : BitVec 5) (a : BitVec 4) (disp : BitVec 14) (sel : BitVec 2)
  /-- LDO (R185): Loads an octet from a nonet and raises the octet-parity fault when its ninth bit is wrong. -/
  | ldo (i : Iss) (d : BitVec 5) (a : BitVec 4) (disp : BitVec 14) (sel : BitVec 2)
  /-- LDPC (R184): Loads the word at PCC.cursor plus the immediate, checked against PCC. -/
  | ldpc (i : Iss) (d : BitVec 5) (imm : BitVec 16)
  /-- LOAD_DATA_RETURN (R223): The data of a load holding stage M returns and the load completes. -/
  | loadDataReturn (core : BitVec 7) (answer : RemoteAnswer)
  /-- STW (R184): Stores Wd through a checked capability into the store buffer, clearing the word's tag. -/
  | stw (i : Iss) (d : BitVec 5) (a : BitVec 4) (disp : BitVec 16)
  /-- STH (R184): Stores Wd[17:0] into the selected half of a word. -/
  | sth (i : Iss) (d : BitVec 5) (a : BitVec 4) (disp : BitVec 15) (sel : Bool)
  /-- STN (R184): Stores Wd[8:0] into the selected nonet of a word. -/
  | stn (i : Iss) (d : BitVec 5) (a : BitVec 4) (disp : BitVec 14) (sel : BitVec 2)
  /-- STO (R186): Stores Wd[7:0] into a nonet with its parity bit. -/
  | sto (i : Iss) (d : BitVec 5) (a : BitVec 4) (disp : BitVec 14) (sel : BitVec 2)
  /-- STORE_ACK (R242): A bank or port acknowledges a buffered store and its store buffer entry frees. -/
  | storeAck (receipt : StoreReceipt)
  /-- LATE_STORE_ERROR (R296): A store error reported after buffering is taken on vector 7 at the issuing context's next boundary. -/
  | lateStoreError (core : BitVec 7)
  /-- CLD (R110): Loads a capability pair, keeping the tag only with LoadCap and no revoked base under the filter. -/
  | cld (i : Iss) (d : BitVec 4) (a : BitVec 4) (disp : BitVec 16)
  /-- CST (R110): Stores a capability pair, checking StoreCap and StoreLocal and applying the revocation filter. -/
  | cst (i : Iss) (d : BitVec 4) (a : BitVec 4) (disp : BitVec 16)
  /-- CSTEPI (R199): Moves a capability cursor by a sign-extended immediate, clearing the tag if unrepresentable. -/
  | cstepi (i : Iss) (d : BitVec 4) (a : BitVec 4) (imm : BitVec 16)
  /-- CMOVE (R204): Copies W[b] words between capabilities, resumably, keeping pair tags under the stated conditions. -/
  | cmove (i : Iss) (d : BitVec 4) (a : BitVec 4) (b : BitVec 5)
  /-- STM (R204): Stores the masked registers to consecutive words, resumably. -/
  | stm (i : Iss) (a : BitVec 4) (b : BitVec 5) (disp : BitVec 11)
  /-- LDM (R204): Loads the masked registers from consecutive words, resumably. -/
  | ldm (i : Iss) (a : BitVec 4) (b : BitVec 5) (disp : BitVec 11)
  /-- BR (R196): Transfers to the branch address plus the offset. -/
  | br (i : Iss) (off : BitVec 26)
  /-- CALL (R196): Pushes the return address on the shadow stack, advances CWP and transfers. -/
  | call (i : Iss) (off : BitVec 26)
  /-- FCALL (R196): Writes the return address to W7, pushes it on the shadow stack and transfers. -/
  | fcall (i : Iss) (off : BitVec 26)
  /-- GCALL (R289): Calls through GE_k into a compartment, pushing a marker and a buffered return capability. -/
  | gcall (i : Iss) (k : BitVec 3)
  /-- JR (R196): Sets the PCC cursor to Wa. -/
  | jr (i : Iss) (a : BitVec 5)
  /-- CALLR (R196): Calls the address in Wa with a window advance. -/
  | callr (i : Iss) (a : BitVec 5)
  /-- FCALLR (R196): Flat-calls the address in Wa with the link in W7. -/
  | fcallr (i : Iss) (a : BitVec 5)
  /-- RET (R196): Checks W8 against the shadow stack, lowers CWP and returns. -/
  | ret (i : Iss)
  /-- FRET (R196): Checks W7 against the shadow stack and returns. -/
  | fret (i : Iss)
  /-- CJR (R196): Loads PCC from a tagged, unsealed, executable capability register. -/
  | cjr (i : Iss) (a : BitVec 4)
  /-- CGETTAG (R198): Reads the tag of a capability register. -/
  | cgettag (i : Iss) (d : BitVec 5) (a : BitVec 4)
  /-- CGETPERM (R198): Reads the permissions of a capability register. -/
  | cgetperm (i : Iss) (d : BitVec 5) (a : BitVec 4)
  /-- CGETTYPE (R198): Reads the OTYPE of a capability register. -/
  | cgettype (i : Iss) (d : BitVec 5) (a : BitVec 4)
  /-- CGETADDR (R198): Reads the cursor of a capability register. -/
  | cgetaddr (i : Iss) (d : BitVec 5) (a : BitVec 4)
  /-- CGETBASE (R198): Reads the decoded base of a capability register. -/
  | cgetbase (i : Iss) (d : BitVec 5) (a : BitVec 4)
  /-- CGETTOP (R198): Reads the decoded top of a capability register. -/
  | cgettop (i : Iss) (d : BitVec 5) (a : BitVec 4)
  /-- CGETLEN (R198): Reads top minus base of a capability register. -/
  | cgetlen (i : Iss) (d : BitVec 5) (a : BitVec 4)
  /-- CMOVR (R198): Copies one capability register to another with tag and seal. -/
  | cmovr (i : Iss) (d : BitVec 4) (a : BitVec 4)
  /-- CCLRTAG (R198): Copies a capability register with its tag cleared. -/
  | cclrtag (i : Iss) (d : BitVec 4) (a : BitVec 4)
  /-- CGETPCC (R198): Copies PCC with the cursor of this instruction into Cd. -/
  | cgetpcc (i : Iss) (d : BitVec 4)
  /-- CPOINT (R111): Sets a capability cursor to Wa, clearing the tag when unrepresentable. -/
  | cpoint (i : Iss) (d : BitVec 4) (a : BitVec 4) (b : BitVec 5)
  /-- CSTEP (R111): Moves a capability cursor by signed Wa, clearing the tag when unrepresentable. -/
  | cstep (i : Iss) (d : BitVec 4) (a : BitVec 4) (b : BitVec 5)
  /-- CMASKP (R111): Masks the permissions of a capability with Wa[11:0]. -/
  | cmaskp (i : Iss) (d : BitVec 4) (a : BitVec 4) (b : BitVec 5)
  /-- CNARROW (R111): Narrows a capability's bounds to the cursor and length, rounded as encoding requires. -/
  | cnarrow (i : Iss) (d : BitVec 4) (a : BitVec 4) (b : BitVec 5)
  /-- CNARROWX (R111): Narrows a capability's bounds exactly or faults with INEXACT. -/
  | cnarrowx (i : Iss) (d : BitVec 4) (a : BitVec 4) (b : BitVec 5)
  /-- CSEAL (R112): Seals a capability with the software type named by a Seal capability's cursor. -/
  | cseal (i : Iss) (d : BitVec 4) (a : BitVec 4) (b : BitVec 4)
  /-- CUNSEAL (R112): Unseals a software-sealed capability with a matching Unseal capability. -/
  | cunseal (i : Iss) (d : BitVec 4) (a : BitVec 4) (b : BitVec 4)
  /-- CSEALH (R112): Seals a capability to hardware type 56 or 59 under Executive with System. -/
  | csealh (i : Iss) (d : BitVec 4) (a : BitVec 4) (k : BitVec 5)
  /-- CINVOKE (R113): Transfers into a matching software-sealed code and data pair. -/
  | cinvoke (i : Iss) (a : BitVec 4) (b : BitVec 4)
  /-- CSIZEUP (R103): Rounds a length up to the next exactly representable size. -/
  | csizeup (i : Iss) (d : BitVec 5) (a : BitVec 5)
  /-- CBASEMASK (R103): Returns the base alignment mask for a length. -/
  | cbasemask (i : Iss) (d : BitVec 5) (a : BitVec 5)
  /-- NOP (R212): Does nothing for one issue cycle. -/
  | nop (i : Iss)
  /-- MFS (R154): Reads a W-kind special register, latching CYCH on a read of CYCL. -/
  | mfs (i : Iss) (d : BitVec 5) (num : BitVec 5)
  /-- MTS (R158): Writes a W-kind special register, leaving RO fields unchanged. -/
  | mts (i : Iss) (a : BitVec 5) (num : BitVec 5)
  /-- CMFS (R154): Reads a C-kind special register into Cd. -/
  | cmfs (i : Iss) (d : BitVec 4) (num : BitVec 5)
  /-- CMTS (R276): Writes a C-kind special register, with the checks for TSP and FSP and the reload of handler roots. -/
  | cmts (i : Iss) (a : BitVec 4) (num : BitVec 5)
  /-- TRAP (R212): Enters system vector 16 + k. -/
  | trap (i : Iss) (k : BitVec 3)
  /-- BREAK (R667): Halts the context when BRKEN permits, or else enters vector 0. -/
  | break_ (i : Iss)
  /-- WAIT (R263): Puts the context into Waiting until an interrupt above its MLV is pending. -/
  | wait (i : Iss)
  /-- FENCE (R192): Completes only after every earlier store of the context has completed and late errors are delivered. -/
  | fence (i : Iss)
  /-- GBAR (R398): Waits until no access of an earlier gate epoch is outstanding and discards the prefetch queue. -/
  | gbar (i : Iss)
  /-- SWITCH (R389): Makes the inactive Ready rule set active, exchanges TSPs and raises EPOCH. -/
  | switch (i : Iss) (a : BitVec 4)
  /-- RFE (R283): Checks the fault frame and restores the saved state, or raises a restore violation. -/
  | rfe (i : Iss)
  /-- GRET (R290): Returns from a gate call, checking the marker and restoring compartment, privilege and window. -/
  | gret (i : Iss)
  /-- RVPROBE (R129): Tests every tagged capability register of the core and clears revoked ones, resumably. -/
  | rvprobe (i : Iss)
  /-- TLBI (R322): Removes TLB entries for a page or section and posts the invalidation package-wide. -/
  | tlbi (i : Iss) (a : BitVec 5)
  /-- TLBIA (R325): Removes every TLB entry and posts the removal package-wide. -/
  | tlbia (i : Iss)
  /-- TLBSYNC (R326): Completes when every earlier posted invalidation has been acknowledged. -/
  | tlbsync (i : Iss)
  /-- INTERRUPT_ENTRY (R269): A pending interrupt above its context's MLV is taken and its handler entered. -/
  | interruptEntry (core : BitVec 7)
  /-- CONTEXT_SELECT (R261): At an instruction boundary the core selects the Ready context that issues next. -/
  | contextSelect (core : BitVec 7)
  /-- PREFETCH (R224): The fetch unit reads the next word into a free prefetch queue entry. -/
  | prefetch (core : BitVec 7)
  /-- ECC_WRITEBACK (R26): A corrected single-bit error is written back in the next unused bank slot unless a store intervened. -/
  | eccWriteback (addr : BitVec 30)
  /-- TIMED_DEADLINE_STEAL (R33): A remote timed request reaching its deadline takes slot D within the steal limit. -/
  | timedDeadlineSteal (bank : BitVec 7)
  /-- REGFILE_PARITY_ERROR (R30): A register-file parity error stops the core and its region error manager holds the core in reset. -/
  | regfileParityError (core : BitVec 7)
  /-- REGION_ERROR_REPORT (R40): The region error manager records and counts a report and may hold a block in reset. -/
  | regionErrorReport (region : BitVec 5) (cause : BitVec 5) (info : BitVec 30) (response : Containment)
  /-- HEARTBEAT_TIMEOUT (R46): A region silent for 4,096 fabric cycles is isolated by the die error manager. -/
  | heartbeatTimeout (region : BitVec 5)
  /-- CROSSBAR_GRANT (R37): A crossbar output grants one transfer, timed before bulk with the bulk guarantee. -/
  | crossbarGrant (region : BitVec 5) (output : BitVec 3) (input : BitVec 3) (unit : CrossbarUnit)
  /-- UNIT_TRANSMIT (R524): A sender transmits a unit on a link, spending a credit; `dest` is the crossbar output asked for by
  a unit that enters a crossbar. -/
  | unitTransmit (link : LinkDir) (traffic : Traffic) (dest : BitVec 3)
  /-- UNIT_RECEIVE (R527): A receiver accepts a unit with the expected sequence and good CRC, or discards it and sends a NAK. -/
  | unitReceive (link : LinkDir) (timed : Bool) (seq : BitVec 12) (bits : UnitBits)
  /-- CREDIT_RETURN (R523): A returned credit reaches the sender. -/
  | creditReturn (link : LinkDir) (credit : CreditReturn)
  /-- NAK (R528): A received NAK makes the sender retransmit from the named sequence. -/
  | nak (link : LinkDir) (seq : BitVec 12)
  /-- LANE_LOCK_LOSS (R529): Loss of lock on a lane starts a retrain of the link. -/
  | laneLockLoss (link : LinkDir)
  /-- RETRAIN_EXCHANGE (R530): After lane training the ends exchange ackseq and free and the senders resume. -/
  | retrainExchange (link : LinkDir)
  /-- RETRAIN_ATTEMPT_END (R531): A retrain attempt times out; after the last attempt a bridge enters Mire or a Causeway link goes Down. -/
  | retrainAttemptEnd (link : LinkDir)
  /-- LINK_UP (R536): A Causeway link reaches Up and the ends exchange strap, serial number and membership. -/
  | linkUp (link : BitVec 2) (peer : PeerFacts)
  /-- STACK_DECLARE (R537): 10 ms after its first link is Up a package that outranks its free peers declares a stack. -/
  | stackDeclare
  /-- JOIN_REQUEST (R539): The master admits or refuses a package's request to join the stack. -/
  | joinRequest (link : BitVec 2) (peer : PeerFacts)
  /-- MEMBER_REMOVAL (R541): A member with no Up link for LEAVETO is removed and its requests answered with bus errors. -/
  | memberRemoval (pos : BitVec 2)
  /-- LEAVE (R541): A write of STKCTL.LEAVE removes the package from the stack. -/
  | leave
  /-- SYNC_PACKET (R543): A follower receives the master's track time and reference stamps and corrects its rate. -/
  | syncPacket (link : BitVec 2) (time : MasterTime) (refs : List RefSample)
  /-- SYNC_TIMEOUT (R543): No valid synchronisation packet for 16 µs sets HOLD. -/
  | syncTimeout
  /-- ROUND_TRIP_MEASURE (R543): Each end measures the link round trip every 1 ms and updates the one-way delay. -/
  | roundTripMeasure (link : BitVec 2) (trip : RoundTrip)
  /-- REMOTE_REQUEST (R547): A remote register page request arrives over Causeway and is admitted by RADM and the target gates or refused. -/
  | remoteRequest (st : Stamp) (addr : BitVec 24) (store : Bool) (value : Word)
  /-- FEAT_ACCEPT_WRITE (R73): Sets only offered feature bits, refusing unoffered bits or a write while enabled. -/
  | featAcceptWrite (pg : BitVec 15) (value : Word)
  /-- EN (R76): A write of CTL.EN enables the unit, refused without accepted BASE and held during a drain. -/
  | en (pg : BitVec 15) (value : Word)
  /-- ENABLED_FOLLOWS (R77): STAT.ENABLED follows CTL.EN within 64 fabric cycles. -/
  | enabledFollows (pg : BitVec 15)
  /-- SRST (R703): A write of CTL.SRST returns the unit to its reset values except FEAT_OFFER and LOCK. -/
  | srst (pg : BitVec 15)
  /-- ERR_FIRST_RELEASE (R79): A write of 1 to ERR_FIRST.V releases the first-error capture. -/
  | errFirstRelease (pg : BitVec 15)
  /-- ERR_COUNT_CLR (R80): A write of ERR_COUNT.CLR sets COUNT to 0. -/
  | errCountClr (pg : BitVec 15)
  /-- LK (R82): A write of LOCK.LK locks the page's lockable registers until a reset. -/
  | lk (pg : BitVec 15)
  /-- REGISTER_WRITE (R13): A write to a register with no behaviour of its own sets its fields by their access codes. -/
  | registerWrite (st : Stamp) (addr : BitVec 24) (value : Word)
  /-- START (R124): A write of SWP CTL.START begins a sweep, making EPOCH odd and activating the filter. -/
  | start (region : BitVec 5)
  /-- SWEEP_PAIR (R122): The sweeper reads a pair and clears both tags if its base is revoked and it is unwritten. -/
  | sweepPair (region : BitVec 5)
  /-- SWEEP_END (R126): At the end of a sweep EPOCH becomes even, SWEEPING clears and DONE is set. -/
  | sweepEnd (region : BitVec 5)
  /-- RING (R307): A write of DBELL bit 0 sets the CORE page's doorbell interrupt. -/
  | ring (core : BitVec 7)
  /-- CTXBIND_START (R264): Binds a task from a checked task-state block into an Empty context and makes it Ready. -/
  | ctxbindStart (core : BitVec 7) (ctx : BitVec 2) (addr : BitVec 30)
  /-- CTXBIND_STOP (R264): Saves a Waiting context to its block if needed, clears it and makes it Empty. -/
  | ctxbindStop (core : BitVec 7) (ctx : BitVec 2)
  /-- FLUSH (R241): A write of TCCTL.FLUSH invalidates every target-cache entry of the core. -/
  | flush (core : BitVec 7)
  /-- PMCTL_CLR (R257): A write of PMCTL.CLR sets every performance counter to 0. -/
  | pmctlClr (core : BitVec 7)
  /-- TTB_WRITE (R310): A write to TTB takes effect from the core's next access without invalidating TLB entries. -/
  | ttbWrite (core : BitVec 7) (value : Word)
  /-- INVALIDATION_ARRIVAL (R324): A core or DMA engine performs a posted invalidation and acknowledges it once its accesses complete. -/
  | invalidationArrival (core : BitVec 7) (post : Nat)
  /-- INVALIDATION_ACK (R326): An acknowledgement of a posted invalidation reaches the poster. -/
  | invalidationAck (core : BitVec 7) (post : Nat)
  /-- WALK_RELEASE (R339): Sedge's release of a page makes each held walk repeat its L2 load. -/
  | walkRelease (vpn : BitVec 20)
  /-- HOLD_LIMIT_EXPIRY (R340): A walk held more than 65,536 core cycles raises translation cause 8. -/
  | holdLimitExpiry (core : BitVec 7)
  /-- REGISTER (R366): Registers a managed L2 entry with Sedge, marks its table page and places and zeroes a frame. -/
  | register (die : BitVec 3) (entry : BitVec 30) (comp : BitVec 8) (vpn : BitVec 20) (place : Word)
  /-- SEDGE_RELEASE (R366): Writes a registered entry invalid, invalidates it and frees its frame. -/
  | sedgeRelease (die : BitVec 3) (entry : BitVec 30)
  /-- MOVE (R366): Starts a migration of a page to a destination allowed by Table 7.8. -/
  | move (die : BitVec 3) (entry : BitVec 30) (place : Word)
  /-- POOL (R342): Donates a range of free frames to the die's pool. -/
  | pool (die : BitVec 3) (first : BitVec 30) (count : BitVec 20)
  /-- RECLAIM (R366): Withdraws the FREE frames of a range from the pool. -/
  | reclaim (die : BitVec 3) (first : BitVec 30) (count : BitVec 20)
  /-- TMOVE (R366): Requests the migration of a context to another core. -/
  | tmove (die : BitVec 3) (source : BitVec 12) (ctx : BitVec 2) (place : Word)
  /-- PIN (R366): Sets or clears PIN in a directory entry. -/
  | pin (die : BitVec 3) (entry : BitVec 30) (pin : Bool)
  /-- SEDGE_COMMAND_DONE (R365): A Sedge command ends, setting CMDRES and CMDDONE. -/
  | sedgeCommandDone (die : BitVec 3)
  /-- COMPCLS_WRITE (R346): A write to COMPCLS_c updates every Sedge copy or is refused. -/
  | compclsWrite (die : BitVec 3) (c : BitVec 8) (value : Word)
  /-- SEDGE_SRST (R710): CTL.SRST of a SEDGE page resets the page but leaves every COMPCLS copy unchanged. -/
  | sedgeSrst (die : BitVec 3)
  /-- HEAT_REPORT (R351): A bank or port reports one access in 64 to a pool frame and Sedge adds it to the page's heat. -/
  | heatReport (frame : BitVec 20) (die : BitVec 3)
  /-- HEAT_HALVING (R351): Every HPERIOD all heat counters are halved. -/
  | heatHalving (die : BitVec 3)
  /-- HEAT_MIGRATION_START (R352): Sedge starts a heat-driven page migration when remote heat exceeds the threshold. -/
  | heatMigrationStart (die : BitVec 3) (index : BitVec 13)
  /-- MIGRATION_FRAME_GRANT (R355): A destination frame is reserved, the entry written held and the invalidation posted. -/
  | migrationFrameGrant (die : BitVec 3)
  /-- MIGRATION_COPY_PAIR (R356): Sedge copies one pair with both tags, applying the revocation filter. -/
  | migrationCopyPair (die : BitVec 3)
  /-- MIGRATION_MAKE (R355): After the last pair Sedge writes the entry valid with the new PFN and posts the release. -/
  | migrationMake (die : BitVec 3)
  /-- MIGRATION_CONFIRM (R355): The destination records the frame mapped and the source frame is freed. -/
  | migrationConfirm (die : BitVec 3)
  /-- TASK_MIGRATION_START (R360): Sedge starts moving an eligible Waiting context to another core. -/
  | taskMigrationStart (die : BitVec 3) (source : BitVec 7) (ctx : BitVec 2) (dest : BitVec 7)
  /-- TASK_MIGRATION_COMMIT (R363): The move commits, moving routes and making the destination Waiting and the source Empty. -/
  | taskMigrationCommit (die : BitVec 3)
  /-- HELDMAX_READ (R364): A read of HELDMAX returns the longest held wait and clears it. -/
  | heldmaxRead (die : BitVec 3)
  /-- FRAMES_0_READ (R344): A read of FRAMES_0 latches FRAMES_1 in the same cycle. -/
  | frames0Read (die : BitVec 3)
  /-- RSLOAD (R385): Starts loading a rule set from a sealed image. -/
  | rsload (core : BitVec 7) (set : Bool) (va : BitVec 30)
  /-- RSLOAD_DONE (R386): The loader reaches Ready or Fault and sets SETDONE. -/
  | rsloadDone (core : BitVec 7)
  /-- RSCTL_CLEAR (R394): Sets a set that is not in use to Empty. -/
  | rsctlClear (core : BitVec 7) (set : Bool)
  /-- RSCTL_COMMIT (R394): Commits an Open set under the checks of R377. -/
  | rsctlCommit (core : BitVec 7) (set : Bool)
  /-- RSDATA_WRITE (R393): Writes a rule-set word directly, opening a free set or editing an in-use set with a new epoch. -/
  | rsdataWrite (core : BitVec 7) (value : Word)
  /-- TARGET_GATE_WRITE (R381): A target gate entry write completes after earlier granted accesses and is in force thereafter. -/
  | targetGateWrite (gate : BitVec 8) (index : BitVec 4) (value : Word)
  /-- GATECFG_WRITE (R405): Changes GATE_MODE in Boot or Proof once no request under the old mode is outstanding. -/
  | gatecfgWrite (value : Word)
  /-- CROSSING_DETECTED (R711): A tracked reference detects a rising crossing and updates its lock state and stamp. -/
  | crossingDetected (ref : BitVec 3) (seen : Crossing)
  /-- CROSSING_TIMEOUT (R411): No crossing within 1.25 periods moves a Locked reference to Holdover. -/
  | crossingTimeout (ref : BitVec 3)
  /-- HOLDMAX_EXPIRY (R414): A reference still in Holdover after HOLDMAX cycles goes to Lost. -/
  | holdmaxExpiry (ref : BitVec 3)
  /-- REFCFG_WRITE (R417): A write to REFCFG_i changes the reference's configuration, turns it off, or is refused. -/
  | refcfgWrite (ref : BitVec 3) (value : Word)
  /-- SYNTHETIC_LOCK (R418): A synthetic reference enters Locked in the fabric cycle after SRC = 3 is written. -/
  | syntheticLock (ref : BitVec 3)
  /-- PHREF_SRST (R707): CTL.SRST of the PHREF page turns off every reference with retirements. -/
  | phrefSrst
  /-- TT_LO_READ (R424): A read of TT_LO latches the high bits of track time into TT_HI. -/
  | ttLoRead
  /-- RATE_WRITE (R426): Sets the track time rate, ignored when out of range or on a follower. -/
  | rateWrite (value : Word)
  /-- STEP_HI (R427): A write of STEP_HI steps track time forward and propagates the step to followers. -/
  | stepHi (value : StepWrite)
  /-- TTIME_SRST (R706): CTL.SRST of TTIME resets RATE and controls while track time runs on. -/
  | ttimeSrst
  /-- INS_0 (R432): A store to INS_0 takes a staging slot and clears the words staged. -/
  | ins0 (st : Stamp) (die : BitVec 3) (value : Word)
  /-- INS_STAGE (R432): A store to INS_1 or INS_2 stages an event word in the requester's slot. -/
  | insStage (st : Stamp) (die : BitVec 3) (index : Bool) (value : Word)
  /-- INS_3 (R434): A store to INS_3 submits the staged event, which Reed arms, pends or refuses. -/
  | ins3 (st : Stamp) (die : BitVec 3) (value : Word)
  /-- CANCEL (R439): A store to CANCEL retires an entry or holds a vital cancel pending. -/
  | cancel (st : Stamp) (die : BitVec 3) (value : Word)
  /-- STAGING_SLOT_EXPIRY (R433): A REEDEV slot frees after 65,536 fabric cycles without access by its requester. -/
  | stagingSlotExpiry (die : BitVec 3) (slot : BitVec 4)
  /-- PENDING_INSERT_DISCARD (R437): An unmatched vital insert is discarded at INSWIN or 25 µs before its trigger, with a safe state. -/
  | pendingInsertDiscard (die : BitVec 3) (index : BitVec 12)
  /-- PENDING_CANCEL_EXPIRY (R439): An unmatched vital cancel expires, retiring the entry with a safe state. -/
  | pendingCancelExpiry (die : BitVec 3) (key : BitVec 12)
  /-- EVENT_DISPATCH (R440): Reed dispatches an Armed event to its channel block 20 µs before its trigger. -/
  | eventDispatch (die : BitVec 3) (index : BitVec 12)
  /-- GDON (R470): At its trigger the event turns the gate drive on, if vital only under a matching commit. -/
  | gdon (die : BitVec 3) (index : BitVec 12)
  /-- GDOFF (R470): At its trigger the event turns the gate drive off. -/
  | gdoff (die : BitVec 3) (index : BitVec 12)
  /-- LEVEL (R470): At its trigger the event sets the dimming level to ARG. -/
  | level (die : BitVec 3) (index : BitVec 12)
  /-- BURST (R475): At its trigger the event turns the gate drive on at a rising crossing for ARG cycles. -/
  | burst (die : BitVec 3) (index : BitVec 12)
  /-- BURST_END (R475): The gate drive of a burst turns off at the rising crossing ARG cycles later. -/
  | burstEnd (chan : BitVec 10)
  /-- TOGGLE (R470): At its trigger the event inverts the gate drive. -/
  | toggle (die : BitVec 3) (index : BitVec 12)
  /-- MARK (R478): At its trigger the event closes the channel's metering interval. -/
  | mark (die : BitVec 3) (index : BitVec 12)
  /-- IRQ (R713): At its trigger the event is pushed into EVFIFO, or dropped with a capture when full. -/
  | irq (die : BitVec 3) (index : BitVec 12)
  /-- EVFIFO_READ (R449): A read of EVFIFO removes and returns the oldest entry. -/
  | evfifoRead (die : BitVec 3)
  /-- EVCNT_0_READ (R447): A read of EVCNT_0 latches EVCNT_1. -/
  | evcnt0Read (die : BitVec 3)
  /-- SAMPLE_FRAME (R457): A 4 µs frame samples every channel and the modes process the samples. -/
  | sampleFrame (region : BitVec 5) (samples : List Sample)
  /-- SELFTEST (R463): A write of CBK CTL.SELFTEST in Proof schedules the converter self-test frame and sets CHKRES. -/
  | selftest (region : BitVec 5)
  /-- CBK_ENABLE (R462): A CBK enable is refused when NFR is 0 or the ring lies outside one own-region bank. -/
  | cbkEnable (region : BitVec 5)
  /-- PROVING_CYCLE_END (R473): At the end of each reference cycle a Lamp channel judges its RMS current. -/
  | provingCycleEnd (chan : BitVec 10)
  /-- FEEDBACK_TIMEOUT (R469): FB differing from GD for longer than FBTIME enters the safe state with cause 10. -/
  | feedbackTimeout (ball : FbLevel)
  /-- AXLE_SUPERVISION_TIMEOUT (R482): An axle condition lasting longer than SUPTIME sets DISTURBED and enters the safe state. -/
  | axleSupervisionTimeout (chan : BitVec 10)
  /-- CHCFG_WRITE (R464): A write to CHCFG is performed only while the channel is Quiet and the mode rules allow it. -/
  | chcfgWrite (chan : BitVec 10) (value : Word)
  /-- CHCTL_SAFE (R501): A write of CHCTL.SAFE puts the channel in its safe state with cause 9. -/
  | chctlSafe (chan : BitVec 10)
  /-- REL (R506): A write of CHCTL.REL takes a non-vital channel out of its safe state. -/
  | rel (chan : BitVec 10)
  /-- CHCTL_GD_ON (R483): A write of CHCTL.GD on sets a non-vital Generic channel lit at once. -/
  | chctlGdOn (chan : BitVec 10)
  /-- CHCTL_GD_OFF (R483): A write of CHCTL.GD off clears lit and ends a burst at once. -/
  | chctlGdOff (chan : BitVec 10)
  /-- AXEV_READ (R516): A read of AXEV_0 removes the oldest wheel event and latches AXEV_1. -/
  | axevRead (region : BitVec 5)
  /-- M1_READ (R517): A read of M1 of a Heater channel latches M2. -/
  | m1Read (chan : BitVec 10)
  /-- CHAN_SRST (R709): CTL.SRST of a CHAN page resets configuration only on channels where it would be allowed. -/
  | chanSrst (region : BitVec 5) (j : BitVec 2)
  /-- PARG (R486): A store to PARG stages ARG in the requester's proposal slot. -/
  | parg (st : Stamp) (region : BitVec 5) (lane : BitVec 2) (value : Word)
  /-- PROPOSE (R487): Submits a proposal that opens, joins, matches, mismatches or dissents in the channel's window. -/
  | propose (st : Stamp) (region : BitVec 5) (lane : BitVec 2) (value : Word)
  /-- SAFE (R487): A PCMD SAFE puts the channel in its safe state with cause 9. -/
  | safe (st : Stamp) (region : BitVec 5) (lane : BitVec 2) (value : Word)
  /-- RELEASE (R505): A PCMD RELEASE opens or completes a matched release of the channel's safe state. -/
  | release (st : Stamp) (region : BitVec 5) (lane : BitVec 2) (value : Word)
  /-- WITHDRAW (R487): A PCMD WITHDRAW removes the lane's open proposal and frees its token. -/
  | withdraw (st : Stamp) (region : BitVec 5) (lane : BitVec 2) (value : Word)
  /-- PRES_READ (R486): A read of PRES returns the result and frees the slot when no ARG is staged. -/
  | presRead (st : Stamp) (region : BitVec 5) (lane : BitVec 2)
  /-- PROP_SLOT_EXPIRY (R486): A proposal slot frees 65,536 fabric cycles after its requester's last access. -/
  | propSlotExpiry (region : BitVec 5) (lane : BitVec 2) (slot : BitVec 3)
  /-- WINDOW_EXPIRY (R492): A window reaching T0 + CWIN without k matching proposals closes, with a safe state for proposals. -/
  | windowExpiry (chan : BitVec 10) (key : BitVec 12)
  /-- COMMIT_RELEASE (R495): A commit is released after its Reed entry becomes Free. -/
  | commitRelease (chan : BitVec 10) (key : BitVec 12)
  /-- CHOLD_EXPIRY (R495): A commit whose entry was never Armed within CHOLD is released and counted UNUSED. -/
  | choldExpiry (chan : BitVec 10) (key : BitVec 12)
  /-- SLUICE_ENABLE (R484): A Sluice enable is refused unless the lane bindings meet the pairing and die rules. -/
  | sluiceEnable (region : BitVec 5)
  /-- LANE_WRITE (R485): A write binding a lane is performed only while disabled in Boot or Proof. -/
  | laneWrite (region : BitVec 5) (lane : BitVec 2) (value : Word)
  /-- SLUICE_SRST (R708): CTL.SRST of SLUICE idles every window, resets tokens and registers in Boot or Proof. -/
  | sluiceSrst (region : BitVec 5)
  /-- VENKICK (R508): A kick of the VITAL_EN generator with the expected value from a bound compartment. -/
  | venkick (st : Stamp) (gen : Bool) (seq : BitVec 18)
  /-- VEN_WINDOW_END (R509): At the end of a window the generator advances NEXT or stops when unkicked. -/
  | venWindowEnd (gen : Bool)
  /-- ARM (R511): A write of VENCTL.ARM starts the generator, or is refused. -/
  | arm (gen : Bool)
  /-- STOP (R509): A write of VENCTL.STOP stops the generator with reason 5. -/
  | stop (gen : Bool)
  /-- TXKICK (R553): A write of TXKICK makes the port look again for owned transmit descriptors. -/
  | txkick (port : PortId)
  /-- RXKICK (R553): A write of RXKICK makes the port look again for owned receive descriptors. -/
  | rxkick (port : PortId)
  /-- ETH_FRAME_RECEIVE (R555): A received Ethernet frame is filtered, checked, timestamped and written to a receive descriptor. -/
  | ethFrameReceive (port : BitVec 2) (octets : List (BitVec 8))
  /-- ETH_FRAME_TRANSMIT (R556): The port transmits the frame of an owned descriptor with padding, FCS and timestamps. -/
  | ethFrameTransmit (port : BitVec 2)
  /-- CAN_FRAME_RECEIVE (R564): A CAN frame matching a filter is delivered to a receive descriptor. -/
  | canFrameReceive (die : BitVec 3) (arrival : CanArrival)
  /-- CAN_FRAME_TRANSMIT (R564): The controller transmits a CAN frame in ring order, retrying after lost arbitration. -/
  | canFrameTransmit (die : BitVec 3) (outcome : CanOutcome)
  /-- CAN_BUSOFF_RECOVERY (R563): After 128 occurrences of 11 recessive bits a bus-off controller recovers. -/
  | canBusoffRecovery (die : BitVec 3)
  /-- FLASH_ENABLE (R566): A flash port enable reads the SFDP tables or is refused. -/
  | flashEnable (port : Bool) (sfdp : SfdpFacts)
  /-- COPY (R570): Copies flash octets packed into memory. -/
  | copy (port : Bool)
  /-- PROGRAM (R570): Programs flash from packed memory words. -/
  | program (port : Bool)
  /-- ERASE (R570): Erases one flash block of the selected type. -/
  | erase (port : Bool) (etype : BitVec 2)
  /-- FLASH_COMMAND_DONE (R570): A flash command ends, setting FLRES and DONE. -/
  | flashCommandDone (port : Bool) (octets : List (BitVec 8))
  /-- EMP_ENABLE (R575): An external memory port enable initialises and trains the memory or fails. -/
  | empEnable (port : Bool) (trained : Bool) (channel : BitVec 2)
  /-- MR4_POLL (R577): At least every 16 ms the port reads MR4 and sets its refresh interval. -/
  | mr4Poll (port : Bool) (rate : BitVec 3)
  /-- SCRUB_BURST (R578): Every SCRUBINT µs the port reads and corrects one burst. -/
  | scrubBurst (port : Bool)
  /-- BOOT_IMAGE_CHECK (R591): The primary Carr chooses and checks Carr and application images from the flash sets. -/
  | bootImageCheck (setA : FlashSet) (setB : FlashSet) (rngFail : Option (BitVec 3))
  /-- HANDOVER (R597): The Carrs write Boot values, offers, gates and the boot context and start the first application instruction in Proof. -/
  | handover (facts : HandoverFacts)
  /-- ATTEST (R608): Writes a signed attestation report for a nonce. -/
  | attest (st : Stamp) (start : CarrStart)
  /-- IDKEY (R605): Writes the identity public key. -/
  | idkey (st : Stamp) (addr : BitVec 30)
  /-- CHAL (R605): Writes a fresh nonce, withdrawing any earlier one. -/
  | chal (st : Stamp) (start : CarrStart)
  /-- DBGRESP (R609): A checked signed request puts a debug token in force, moving Run to Proof for Halt or Full. -/
  | dbgresp (st : Stamp) (addr : BitVec 30)
  /-- DBGEND (R611): Ends the debug token in force and releases halted contexts. -/
  | dbgend (st : Stamp) (addr : BitVec 30)
  /-- LCTRANS (R603): A signed lifecycle transition to Field, Service or Retired. -/
  | lctrans (st : Stamp) (addr : BitVec 30)
  /-- REVOKE (R607): Blows the revocation fuses of a slot, effective at next boot. -/
  | revoke (st : Stamp) (addr : BitVec 30)
  /-- SVNADV (R605): Raises the minimum SVN fuses to the running images' SVNs. -/
  | svnadv (st : Stamp) (addr : BitVec 30)
  /-- PROVISION (R603): From the test access port programs root hashes and generates the identity key. -/
  | provision (st : Stamp) (start : CarrStart)
  /-- CARR_COMMAND_DONE (R604): A Carr command ends, setting CMDRES and DONE. -/
  | carrCommandDone
  /-- TOKEN_EXPIRY (R611): A debug token ends when its DURATION elapses. -/
  | tokenExpiry
  /-- DOM_REQUEST (R615): A write of DOM_i.REQ or PDOM_j.REQ requests a power state or is refused. -/
  | domRequest (dom : BitVec 10) (value : Word)
  /-- DRAIN_END (R618): A domain completes its drain and enters the target transition, then acts on any held request. -/
  | drainEnd (dom : BitVec 10)
  /-- TRANSITION_DONE (R616): A domain completes its state transition, clearing banks and restoring pages as needed. -/
  | transitionDone (dom : BitVec 10)
  /-- DOM_RST (R635): A write of DOM_i.RST holds a domain in reset for 64 fabric cycles. -/
  | domRst (dom : BitVec 10)
  /-- DOM_RST_RELEASE (R635): After 64 fabric cycles the domain leaves reset under R617. -/
  | domRstRelease (dom : BitVec 10)
  /-- SUPPLY_FAULT (R629): A supply below its threshold for 2 µs acts as PORST_N. -/
  | supplyFault
  /-- SUPPLY_RESTORE (R629): A supply back in range for 10 ms releases the reset. -/
  | supplyRestore
  /-- PORST_N_ASSERT (R631): An assertion of PORST_N forces outputs low and resets the package. -/
  | porstNAssert (long : Bool)
  /-- PORST_N_RELEASE (R535): Release of PORST_N samples the straps and starts Boot. -/
  | porstNRelease (straps : BitVec 4)
  /-- SYSRST_N_ASSERT (R631): An assertion of SYSRST_N resets the package as Table 13.7 states. -/
  | sysrstNAssert (long : Bool)
  /-- SYSRST_N_RELEASE (R632): Release of SYSRST_N starts Boot with straps kept. -/
  | sysrstNRelease
  /-- SWRST (R633): A write of SWRST with the right KEY resets the package as SYSRST_N does. -/
  | swrst (value : Word)
  /-- DIERST (R634): Resets one die in Boot or Proof. -/
  | dierst (value : Word)
  /-- GO (R637): A write of SRCTL.GO moves Proof to Run when its conditions hold. -/
  | go
  /-- PROOF (R636): A write of SRCTL.PROOF moves Run or Degraded to Proof. -/
  | proof
  /-- REGREL (R639): Releases an isolated region in Proof. -/
  | regrel (value : Word)
  /-- FRZ_N_FALL (R647): A falling FRZ_N held 20 ns freezes every clock and forces the outputs. -/
  | frzNFall (long : Bool)
  /-- FRZ_N_RELEASE (R651): Release of FRZ_N resumes the clocks only from Boot or Proof with Full debug. -/
  | frzNRelease
  /-- TAP_IR_UPDATE (R644): The TAP loads an instruction, unlisted codes acting as BYPASS. -/
  | tapIrUpdate (load : TapLoad)
  /-- EXTEST (R646): EXTEST drives the boundary cells, with GD and VITAL_EN forced low outside Blank. -/
  | extest (inp : List Ball) (out : List Ball) (en : List Ball)
  /-- IDCODE (R645): IDCODE returns the part's identification word. -/
  | idcode
  /-- FRZSEL (R653): Loads the read-out selector. -/
  | frzsel (value : Word)
  /-- FRZREAD (R654): Captures the selected read-out word and advances the selector index. -/
  | frzread
  /-- DBGACC (R660): An Update-DR of DBGACC starts one debug master access. -/
  | dbgacc (dr : BitVec 68)
  /-- HALT (R664): Stops a context at its next boundary. -/
  | halt (st : Stamp) (core : BitVec 7) (ctx : BitVec 2)
  /-- STEP (R665): Lets a halted context issue one instruction and halts it again. -/
  | step (st : Stamp) (core : BitVec 7) (ctx : BitVec 2)
  /-- RUN (R666): Releases a halted context. -/
  | run (st : Stamp) (core : BitVec 7) (ctx : BitVec 2)
  /-- DBGRDATA_ACCESS (R668): Reads or writes a halted context's register named by DBGRIDX. -/
  | dbgrdataAccess (st : Stamp) (write : Option Word)
  /-- RESERVED_ENCODING (R164): An issued instruction word with a reserved encoding, such as an all-zero word, raises the illegal-instruction fault whatever its guard. -/
  | reservedEncoding (core : BitVec 7) (word : Word)
  /-- BLOCK_DMA_DESCRIPTOR (R391): A block DMA engine runs a descriptor, translating through its DMA TLB, checking each access against the Ready set of the descriptor's compartment and copying tags as CMOVE does. -/
  | blockDmaDescriptor (core : BitVec 7) (desc : DmaDesc)
  /-- ETH_LINK_CHANGE (R554): The SGMII link of an Ethernet port comes up or goes down, and STAT.LINK follows it. -/
  | ethLinkChange (port : BitVec 2) (up : Bool)
  /-- DIE_RESET_RELEASE (R710): A die leaves its die reset, its Sedge copies COMPCLS from die 0, its Carr restarts under the primary and die services restores its pages. -/
  | dieResetRelease (die : BitVec 3)
  /-- PHASE_CONTROL_EDGE (R471): A channel's gate drive changes level on its own schedule: lamp phase control at each crossing, LED and Generic PWM periods, warm current, heater turn-on or turn-off at a rising crossing, and axle excitation. -/
  | phaseControlEdge (chan : BitVec 10)
  deriving DecidableEq, Repr

end Sys2Proof
end

