-- ==== Sys2Proof/Config.lean ====
section
/-! DEFINITION. What the spec leaves open: constants with no body, of which nothing can be proved. A free
value takes the counter of the State (field fresh, notes/assumptions/4.md) or the operands it depends on. -/

namespace Sys2Proof

/-- A value the spec does not state, of w bits: the k-th one used in a run (notes/assumptions/4.md). -/
opaque Config.freeValue (w : Nat) : Nat → BitVec w

/-- The private key that IDKEY holds, wrapped under a key in the Carr ROM that the spec does not give (Table 12.1;
notes/assumptions/9.md). -/
opaque Config.unwrapKey : BitVec 416 → Nat

/-- The keyed scramble of a transfer address that gives the target-cache index (R237); the spec names no
function (notes/assumptions/10.md). -/
opaque Config.tcScramble : Word → Nat → BitVec 6

end Sys2Proof
end

