-- ==== Sys2Proof/Machine/KMap.lean ====
section
/-! DEFINITION. Sparse tables in one canonical form: a list of (key, value) pairs with strictly rising
keys and no entry equal to what an unlisted key reads as. Memory, registers and every indexed unit of
the State are held so. Also the bit-field helpers that read and write fields [hi:lo] of a word. -/

namespace Sys2Proof.Machine

/-- A sparse table: strictly rising keys, no entry equal to the default of its key. -/
abbrev KMap (α : Type) := List (Nat × α)

/-- The value listed for a key, or the default of the key. -/
def kget {α : Type} (d : Nat → α) (m : KMap α) (k : Nat) : α :=
  match m with
  | [] => d k
  | (j, v) :: r => if j = k then v else kget d r k

/-- The table without the key. -/
def kerase {α : Type} (m : KMap α) (k : Nat) : KMap α := m.filter (fun e => e.1 != k)

/-- Puts an entry at its place in a rising list that does not list its key. -/
def kput {α : Type} (m : KMap α) (k : Nat) (v : α) : KMap α :=
  match m with
  | [] => [(k, v)]
  | (j, u) :: r => if k < j then (k, v) :: (j, u) :: r else (j, u) :: kput r k v

/-- Writes a key, keeping the canonical form: writing the default of the key removes the entry. -/
def kset {α : Type} [DecidableEq α] (d : Nat → α) (m : KMap α) (k : Nat) (v : α) : KMap α :=
  if v = d k then kerase m k else kput (kerase m k) k v

/-- The canonical form. -/
def kwf {α : Type} [DecidableEq α] (d : Nat → α) (m : KMap α) : Bool :=
  match m with
  | [] => true
  | (j, v) :: r => decide (v ≠ d j) && r.all (fun e => decide (j < e.1)) && kwf d r

/-- Keeps the entries whose key satisfies a test (a reset of a group of registers or words). -/
def kkeep {α : Type} (m : KMap α) (f : Nat → Bool) : KMap α := m.filter (fun e => f e.1)

/-- Field [hi:lo] of a word, as a number. -/
def fld (w : Word) (hi lo : Nat) : Nat := (w.toNat >>> lo) % 2 ^ (hi + 1 - lo)

/-- Bit b of a word. -/
def bit (w : Word) (b : Nat) : Bool := w.getLsbD b

/-- The mask of bits [hi:lo]. -/
def fmask (hi lo : Nat) : Word := BitVec.ofNat 36 ((2 ^ (hi + 1 - lo) - 1) * 2 ^ lo)

/-- A word with the value v placed at bits [hi:lo], other bits 0. -/
def fval (hi lo v : Nat) : Word := BitVec.ofNat 36 ((v % 2 ^ (hi + 1 - lo)) * 2 ^ lo)

/-- The word with bits [hi:lo] replaced by the low bits of v. -/
def setFld (w : Word) (hi lo v : Nat) : Word := (w &&& ~~~(fmask hi lo)) ||| fval hi lo v

/-- The word with bit b replaced. -/
def setBit (w : Word) (b : Nat) (v : Bool) : Word := setFld w b b (if v then 1 else 0)

/-- A number of n bits read as signed two's complement. -/
def signed (n v : Nat) : Int := if 2 ^ (n - 1) ≤ v then (v : Int) - (2 ^ n : Nat) else v

/-- An integer reduced modulo 2^36. -/
def wordOfInt (x : Int) : Word := BitVec.ofInt 36 x

/-- A word read as signed. -/
def sval (w : Word) : Int := w.toInt

/-- Adds one to field [hi:lo], stopping at its largest value (a saturating counter). -/
def incSat (w : Word) (hi lo : Nat) : Word :=
  if fld w hi lo + 1 < 2 ^ (hi + 1 - lo) then setFld w hi lo (fld w hi lo + 1) else setFld w hi lo (2 ^ (hi + 1 - lo) - 1)

/-- One as a number. -/
def bnat (b : Bool) : Nat := if b then 1 else 0

/-- Digits of a square root, most significant first, on fuel. -/
def isqrtAux (n fuel r : Nat) : Nat :=
  match fuel with
  | 0 => r
  | f + 1 => if (r + 2 ^ f) * (r + 2 ^ f) ≤ n then isqrtAux n f (r + 2 ^ f) else isqrtAux n f r

/-- The integer square root of a number below 2^128 (R473). -/
def isqrt (n : Nat) : Nat := isqrtAux n 64 0

end Sys2Proof.Machine
end

