-- ==== Sys2Proof/Machine/State.lean ====
section
/-! DEFINITION. The State of the package: every piece of state the spec gives it, as plain data, and
State.reset. Register pages are one table of words keyed by DIEF, PAGE and offset (Table 2.3); engines,
queues and buffers that are no register have structures of their own. -/

namespace Sys2Proof.Machine

/-- The parts of the family (R2). -/
inductive Part where
  | tfw2 | tfw4 | tfw8 | tfw8x
  deriving DecidableEq, Repr, Inhabited

/-- The safety run states (R636), numbered by SRSTAT.STATE. -/
inductive Safety where
  | boot | proof | run | degraded | mire
  deriving DecidableEq, Repr, Inhabited

/-- The lifecycle states (R602), numbered by LCSTAT.LCS. -/
inductive Lifecycle where
  | blank | provisioned | field | service | retired
  deriving DecidableEq, Repr, Inhabited

/-- The ECC condition of a stored word (R26, R28): clean, one bit in error (its corrected value is the
data held), or two bits in error. -/
inductive Ecc where
  | good | single | double
  deriving DecidableEq, Repr, Inhabited

/-- One stored word: 36 data bits, tag, ECC condition (00_scope.md, R29). -/
structure MemWord where
  data : Word
  tag : Bool
  ecc : Ecc
  deriving DecidableEq, Repr, Inhabited

/-- The states of a hardware context (R260). -/
inductive CtxState where
  | empty | ready | waiting
  deriving DecidableEq, Repr, Inhabited

/-- A late store error that is due to a context (R296). -/
structure LateErr where
  cause : Nat
  addr : Nat
  tsb : Nat
  comp : BitVec 8
  deriving DecidableEq, Repr, Inhabited

/-- A load of Proof whose result the next instruction does not see (R214): destination (capability or
word register index of Table 14.4) and value. -/
structure ProofLoad where
  isCap : Bool
  reg : Nat
  val : Cap
  deriving DecidableEq, Repr, Inhabited

/-- A division in progress (R179): the quotient and remainder it will write, and the core cycle at which it completes. -/
structure DivState where
  dq : Word
  dm : Word
  due : Nat
  deriving DecidableEq, Repr, Inhabited

/-- A product in flight (R174): its two words, and the core cycle at which it writes MH:ML. -/
structure MulState where
  mh : Word
  ml : Word
  due : Nat
  deriving DecidableEq, Repr, Inhabited

/-- One hardware task context (Table 4.1). `atBreak` says that a BREAK halted it (R667), `barrier` is the epoch that a GBAR it
waits on read (R398), `cych` its register CYCH (Table 4.4). `w` holds W0-W7 at 0-7, P[0]-P[191] at 8-199 and the fault
bank at 200-223; `c` holds C0-C7 at 0-7 and the windowed capability registers at 8-71. -/
structure Ctx where
  st : CtxState
  w : KMap Word
  c : KMap Cap
  q : BitVec 8
  mh : Word
  ml : Word
  dq : Word
  dm : Word
  muls : List MulState
  div : Option DivState
  pcc : Cap
  psw : Word
  win : Word
  mlv : BitVec 4
  vba : Word
  ssp : Word
  tspA : Cap
  tspB : Cap
  setB : Bool
  fsp : Cap
  hcc : Cap
  hdc : Cap
  ge : KMap Cap
  srb : List Cap
  spilln : Nat
  rsm0 : Word
  rsm1 : Word
  lates : List LateErr
  halted : Bool
  atBreak : Bool
  stepping : Bool
  proofLoad : Option ProofLoad
  lastLoad : Option (Bool × Nat)
  fresh : Bool
  barrier : Option (BitVec 16)
  cych : Word
  deriving DecidableEq, Repr, Inhabited

/-- A TLB entry: virtual page, whose bits [19:10] are its section number, frame and write protection (R318). -/
structure TlbEntry where
  vpn : Nat
  frame : Nat
  wp : Bool
  deriving DecidableEq, Repr, Inhabited

/-- The kinds of access of ERR_ATTR.KIND (Table 8.14), numbered in that order. -/
inductive Kind where
  | fetch | load | store | capLoad | capStore | shadowRead | shadowWrite | dbgRead | dbgWrite
  deriving DecidableEq, Repr, Inhabited

/-- One word waiting in the store buffer (R190), with the stamp it took (R396), the task-state block
base (R296), the bits of the word it writes (R184), its place in a capability pair (a pair is two entries
acknowledged together), and the core cycle of its arrival at the arbiter of its bank (R32). -/
structure SbEntry where
  pa : Nat
  va : Nat
  data : Word
  mask : Word
  tag : Bool
  pair : Bool
  kind : Kind
  stamp : Stamp
  tsb : Nat
  since : Nat
  deriving DecidableEq, Repr, Inhabited

/-- One entry of the prefetch queue (R224): the virtual address and the word read, or none when the
entry is marked (R230). -/
structure PqEntry where
  va : Nat
  word : Option Word
  deriving DecidableEq, Repr, Inhabited

/-- A target-cache entry (R236). -/
structure TcEntry where
  comp : BitVec 8
  tag : Nat
  target : Nat
  deriving DecidableEq, Repr, Inhabited

/-- An access that holds stage M until its data returns (R223): the destination, the part selected, the
addresses, the stamp of its access, whether it addresses another package, the word to store when it is a store to a page of another
package (notes/assumptions/12.md), whether it is a word of a multi-word instruction or of the shadow stack, which the instruction
reads when it is sent again (notes/assumptions/12.md), and the core cycle of its arrival at the arbiter of its bank (R32). -/
structure MLoad where
  isCap : Bool
  reg : Nat
  part : Nat
  sel : Nat
  pa : Nat
  va : Nat
  keepTag : Bool
  stamp : Stamp
  inProof : Bool
  remote : Bool
  store : Option Word
  probe : Bool
  since : Nat
  deriving DecidableEq, Repr, Inhabited

/-- A walk that waits on a held entry (R339): the virtual address, the L2 entry's address, the core
cycle at which the wait of this access began, whether the release has reached the core, whether an invalidation
restarts the walk from its L1 load (R324), and whether the access is a write of an entry to a handler (R281). -/
structure HeldWalk where
  va : Nat
  e2a : Nat
  since : Nat
  released : Bool
  restart : Bool := false
  entry : Bool := false
  deriving DecidableEq, Repr, Inhabited

/-- The states of a rule set (Table 8.7). -/
inductive RsState where
  | empty | loading | ready | fault | open
  deriving DecidableEq, Repr, Inhabited

/-- A rule set (R383, R384): its state, the word that image words 4 to 217 (the slot rules) hold where `words`
lists none (R406 gives every slot one rule), the other image words, IMGVA, the record of its last fault, and
whether a running descriptor depends on it (R391). -/
structure RuleSet where
  st : RsState
  fill : Word
  words : KMap Word
  imgva : Nat
  fcode : Nat
  fslot : Nat
  fwin : Nat
  dma : Bool
  deriving DecidableEq, Repr, Inhabited

/-- The slots of a bank used in a fabric cycle (R31, R32): the fabric cycle, the uses of slot I and of slot D by its own ports, and
the grants to other requests; those beyond the cycle's slots go on into the next ones. -/
structure Slots where
  tick : Nat
  i : Nat
  d : Nat
  lent : Nat
  deriving DecidableEq, Repr, Inhabited

/-- Why the issuing instruction of a core is held (R243, R244, R397): a store needs this number of free entries of the store buffer;
a data access follows a store to a page that has not completed; the master gate of a block has accesses of four epochs outstanding. -/
inductive Stall where
  | buffer (need : Nat)
  | page
  | epoch (gate : Nat)
  deriving DecidableEq, Repr, Inhabited

/-- One core block: the core, its TLBs, store buffer, prefetch queue, target cache and master gate. A second-level set is its four
ways from the oldest fill on, with the ways that an invalidation has emptied (Table 7.7). `arrived` is the source whose word has
returned for an instruction that waits for it in stage M, `irqAt` the core cycle at which the interrupt that is due became due
(R252), `dmaAt` the core cycle at which the DMA engine's waiting descriptor reached the arbiter (R32), `unitHeld` the page and the
core cycle since which a walk of the DMA engine (0), of the rule-set loader (1), of a CTXBIND STOP (2) or of the commit of a task's
move (3) waits on a held entry (R340). `multiNow` counts the fabric cycles of this HPERIOD with more than one Ready context and
`readyNow` says whether any context was Ready in it, the other two hold the values of the last period (R363).
`stall` is why the issuing instruction is held, `midway` holds RSM_0 and RSM_1 as they were before the multi-word instruction that
is in progress (R210), `undo` the issuing context before its store to a page of another package that has not completed (R66, R244),
`fetchAt` the address of a fetch that waits at the arbiter of another block's bank and its arrival (R32). -/
structure Core where
  ctxs : KMap Ctx
  cur : Nat
  itlb : List TlbEntry
  dtlb : List TlbEntry
  l2tlb : KMap (List (Option TlbEntry))
  dmatlb : List TlbEntry
  sb : List SbEntry
  pq : List PqEntry
  fetchStop : Bool
  tc : KMap (Option TcEntry)
  tcKey : Word
  cyc : Nat
  mstage : Option MLoad
  arrived : Option Nat
  irqAt : Option Nat
  stall : Option Stall
  midway : Option (Word × Word)
  undo : Option Ctx
  fetchAt : Option (Nat × Nat)
  dmaAt : Option Nat
  unitHeld : KMap (Option (Nat × Nat))
  held : Option HeldWalk
  setA : RuleSet
  setB : RuleSet
  epoch : BitVec 16
  rsload : List (Bool × Nat)
  multiNow : Nat
  multiLast : Nat
  readyNow : Bool
  readyLast : Bool
  deriving DecidableEq, Repr, Inhabited

/-- What a posted invalidation names (R322, R325). -/
inductive Scope where
  | page (vpn : Nat)
  | sect (sec : Nat)
  | all
  deriving DecidableEq, Repr, Inhabited

/-- Who posted an invalidation: a context of a core, or the Sedge of a die (R322, R355). -/
inductive Poster where
  | core (n : Nat) (ctx : Nat)
  | sedge (die : Nat)
  deriving DecidableEq, Repr, Inhabited

/-- A posted invalidation outstanding (R322 to R326): the core blocks (core and block DMA engine) that have
not performed it yet, and those whose acknowledgement is on its way. -/
structure Post where
  id : Nat
  poster : Poster
  scope : Scope
  todo : List Nat
  acking : List Nat
  deriving DecidableEq, Repr, Inhabited

/-- The states of a power domain (Table 13.3), numbered by STATE. -/
inductive Power where
  | run | trim | hold | retain | off
  deriving DecidableEq, Repr, Inhabited

/-- A power domain (R614 to R620, Table 13.11): present state, requested state, the state it is in
transition to with the tick at which the transition ends, drain, queued request, reset hold with the tick
of its release, last refusal, WAKE and TRIMDIV, and the TRIMDIV in force (R616). -/
structure Dom where
  st : Power
  req : Nat
  target : Option (Power × Nat)
  drain : Option Power
  queued : Option Nat
  held : Bool
  rstUntil : Option Nat
  why : Nat
  wake : Bool
  trimdiv : Nat
  clkdiv : Nat
  deriving DecidableEq, Repr, Inhabited

/-- A credit pool of one virtual channel of a link direction (R522): credits held by the sender, units
in flight, units in the receive buffer, credits in flight back. -/
structure Pool where
  s : Nat
  f : Nat
  b : Nat
  r : Nat
  deriving DecidableEq, Repr, Inhabited

/-- The states of a link (Table 11.4, Table 11.7), numbered by CWYSTAT.STATE. -/
inductive LinkState where
  | off | training | up | retrain | down | wait
  deriving DecidableEq, Repr, Inhabited

/-- One direction of a link: its pools, sequences (R527), replay buffer (R528), NAK count (R529), the sequence that the NAK on its way
back names (R527), retrain attempts (R531), the
units of each virtual channel that wait for a grant and the fabric cycle of the last grant (R43, R526); for a crossbar output the
bulk guarantee count and the inputs granted last (R37, R38), for a crossbar input the outputs its timed and bulk units ask for, in
order of transmission (R526). -/
structure Link where
  timed : Pool
  bulk : Pool
  st : LinkState
  txSeq : Nat
  rxSeq : Nat
  replay : List (Nat × Bool)
  nakSeq : Nat
  nakRun : Nat
  nakOut : Option Nat
  attempts : Nat
  bulkSkip : Nat
  rrTimed : Nat
  rrBulk : Nat
  tDst : List Nat
  bDst : List Nat
  tWait : Nat
  bWait : Nat
  sentAt : Option Nat
  deriving DecidableEq, Repr, Inhabited

/-- A synchronisation packet as the master sends it (R543, R544): track time at departure, the stamps and lock states of the eight
references, and the next step to be taken, with its track time. -/
structure SyncSent where
  now : Nat
  refs : List RefSample
  step : Option (Nat × Nat)
  deriving DecidableEq, Repr, Inhabited

/-- The Causeway link unit (Table 11.7): lanes locked, peer facts, delay, Wait reason, tick since it left
Up, the tick at which it first reached Up, whether the far end has a synthetic reference that is not Off (R427), the join request
of the package at the far end that waits for the master (R538), and the last synchronisation packet sent over the link (R543). -/
structure Cwy where
  lanes : BitVec 4
  ppos : BitVec 2
  pmem : Bool
  peer : Option PeerFacts
  waitWhy : Nat
  delay : Nat
  downSince : Nat
  upSince : Option Nat
  synth : Bool
  joining : Option PeerFacts
  sent : Option SyncSent
  deriving DecidableEq, Repr, Inhabited

/-- Stack membership (R537 to R542, Table 11.6). -/
structure Stack where
  role : BitVec 2
  pos : BitVec 2
  members : BitVec 4
  orphan : Bool
  id : BitVec 64
  deriving DecidableEq, Repr, Inhabited

/-- Synchronisation of a stack (R543, R544): of a follower HOLD, good packets in a row, tick of the last packet, rate in force, the
master's rate as measured, and the master's time and the tick from which it is measured; the steps to be taken, each with its track
time and amount, and the track time of the last step accepted. -/
structure Sync where
  hold : Bool
  good : Nat
  last : Nat
  rate : Word
  base : Int
  anchor : Option (Nat × Nat)
  steps : List (Nat × Nat)
  seen : Nat
  deriving DecidableEq, Repr, Inhabited

/-- Track time just before its rate changed or it was stepped: the tick, the time, its accumulator and the rate that had
been in force (R425, R481). -/
structure TtMark where
  tick : Nat
  tt : Nat
  sub : Nat
  rate : Int
  deriving DecidableEq, Repr, Inhabited

/-- The states of a phase reference (Table 9.2), numbered by REFSTAT.STATE. -/
inductive RefState where
  | off | acquire | locked | holdover | lost
  deriving DecidableEq, Repr, Inhabited

/-- A phase reference (R410 to R421): state, stamp, remainder of the stamp's advance, tracked period in
fabric cycles, phase error still to remove (in parts of a fraction step, 256 × the period to a step), SLEW, the ticks of
the last valid crossing, periods seen in Acquire (for SRC 4: the last period measured over a whole cycle), the detector of
SRC 2 with its last sample below midscale, that sample's tick, and the instant it detected (R711), and for SRC 4 the tick and
the master's stamp from which the period is measured (R421). -/
structure Ref where
  st : RefState
  stamp : Word
  sub : Nat
  period : Nat
  err : Int
  slew : Bool
  lastCross : Option Nat
  periods : List Nat
  armed : Bool
  code : Nat
  codeAt : Nat
  due : Option Nat
  mark : Option (Nat × Word)
  deriving DecidableEq, Repr, Inhabited

/-- The states of an event entry (R447), numbered by EVST.ST. -/
inductive EvState where
  | free | pending | armed | fire
  deriving DecidableEq, Repr, Inhabited

/-- One entry of Reed's table (R431, R447): state, its four words, the compartment charged, the die of the
first insert, the tick of acceptance, and whether the event now named is dispatched. -/
structure Event where
  st : EvState
  trig : Word
  period : Word
  ctrl : Word
  arg : Word
  comp : BitVec 8
  pdie : BitVec 3
  since : Nat
  dispatched : Bool
  deriving DecidableEq, Repr, Inhabited

/-- A staging slot of REEDEV (R432): its requester, the words staged, the result, and the tick of the last
access. -/
structure Slot where
  die : BitVec 3
  core : BitVec 7
  ctx : BitVec 2
  w0 : Option Word
  w1 : Option Word
  w2 : Option Word
  result : Option (Nat × Nat)
  last : Nat
  deriving DecidableEq, Repr, Inhabited

/-- A pending vital cancel (R439). -/
structure PendCancel where
  key : BitVec 12
  comp : BitVec 8
  die : BitVec 3
  since : Nat
  deriving DecidableEq, Repr, Inhabited

/-- Reed of one die (R431 on). -/
structure Reed where
  ev : KMap Event
  slots : KMap (Option Slot)
  fifo : List Word
  cancels : List PendCancel
  evcnt1 : Word
  deriving DecidableEq, Repr, Inhabited

/-- The states of a directory entry (Table 7.17). -/
inductive DirState where
  | placed | moving | lost
  deriving DecidableEq, Repr, Inhabited

/-- A directory entry of Sedge (Table 7.17): with the heat of each die (R351), the count of periods without heat (R354), and whether
the mark of its table page counts it (R333, R675). -/
structure DirEnt where
  v : Bool
  st : DirState
  pin : Bool
  comp : BitVec 8
  vpn : Nat
  eaddr : Nat
  pfn : Nat
  marked : Bool
  heatL : Nat
  heat : KMap Nat
  coldPeriods : Nat
  deriving DecidableEq, Repr, Inhabited

/-- The state of a pool frame (R344). -/
inductive Frame where
  | none | free | reserved | mapped
  deriving DecidableEq, Repr, Inhabited

/-- The stages of a page migration (R355): decided, entry held with the invalidation posted, copying, entry made. -/
inductive MigStage where
  | start | breaking | copying | made
  deriving DecidableEq, Repr, Inhabited

/-- A page migration in progress (R355): directory index, destination frame, stage, next pair, whether it is the
MOVE command in progress, the posted invalidation awaited. -/
structure Migration where
  index : Nat
  dest : Nat
  stage : MigStage
  pair : Nat
  byMove : Bool
  post : Nat
  deriving DecidableEq, Repr, Inhabited

/-- A task migration in progress (R360): source core and context, destination core and context, whether
it is the TMOVE command in progress. -/
structure TaskMig where
  src : Nat
  ctx : Nat
  dst : Nat
  dctx : Nat
  byCmd : Bool
  deriving DecidableEq, Repr, Inhabited

/-- Sedge of one die (R341 on). `busy` is the command in progress with its result and index, `waitMove` the
directory index and destination of a MOVE that waits for a migration in progress, `relPost` the posted invalidation and directory
index of a RELEASE, `lastHalf` the tick of the last halving. -/
structure Sedge where
  dir : KMap DirEnt
  pool : KMap Frame
  mig : Option Migration
  tmig : Option TaskMig
  busy : Option (Nat × Nat × Nat)
  waitMove : Option (Nat × Word)
  relPost : Option (Nat × Nat)
  frames1 : Word
  lastMig : Option Nat
  lastHalf : Nat
  deriving DecidableEq, Repr, Inhabited

/-- A sweep in progress (R121 to R126): the pair read next, phase, pairs cleared so far, whether it clears
every tag, whether it was started in clear-all mode, and the core cycle at which its request reached the arbiter of its bank (R32). -/
structure Sweep where
  on : Bool
  clearAll : Bool
  phase : Bool
  addr : Nat
  cleared : Nat
  asked : Option Nat := none
  deriving DecidableEq, Repr, Inhabited

/-- A BURST or GDOFF that waits for its rising crossing (R475): the reference and the entry index of its event, the stamp
of the crossing, and the ARG of a BURST. -/
structure Armed where
  ref : Nat
  idx : Nat
  at_ : Nat
  arg : Nat
  deriving DecidableEq, Repr, Inhabited

/-- A channel's own state (R470 to R483, R501): outputs, safe state, burst, proving, metering, axle. `cycAt` is the
reference cycle in progress, `measMode` the mode whose measurements M0 to M3 show while the channel is Off (R709), `supA` to `supC`
the ticks since which an envelope or the carrier is out of bounds; a burst in progress has `burstLeft` fraction
steps left from stamp `burstFrom` of its reference; `edges` counts the edges of GD that wait
for their 100 ns (R444); `fbSince` is the tick at which the comparison of R469 last restarted; `iA` to `qB` are the filtered
products of R480, in parts of 2^-16 code. -/
structure Chan where
  lit : Bool
  level : Nat
  gd : Bool
  fb : Bool
  safe : Bool
  cause : Nat
  proved : Bool
  darkok : Bool
  disturbed : Bool
  burstOn : Bool
  burstRef : Nat
  burstIdx : Nat
  burstFrom : Word
  burstLeft : Nat
  burstArm : List Armed
  offArm : List Armed
  gdSince : Nat
  edges : Nat
  fbSince : Nat
  sumA : Nat
  sumB : Nat
  nSamp : Nat
  rms : Word
  skip : Nat
  changed : Bool
  provfail : Nat
  enacc : BitVec 72
  encyc : Int
  encycShown : Word
  enlast : BitVec 72
  m2 : Word
  cycles : Nat
  cyclesNow : Nat
  minA : Nat
  maxA : Nat
  totA : Nat
  minB : Nat
  maxB : Nat
  totB : Nat
  nMark : Nat
  g0 : Word
  g1 : Word
  g2 : Word
  iA : Int
  qA : Int
  iB : Int
  qB : Int
  envA : Nat
  envB : Nat
  carrier : Nat
  phase : Nat
  dampA : Option Nat
  dampB : Option Nat
  common : Bool
  firstB : Bool
  wheelTT : Nat
  dampedA : Nat
  dampedB : Nat
  supA : Option Nat
  supB : Option Nat
  supC : Option Nat
  cycAt : Option Nat
  measMode : Nat
  cnt0 : Nat
  cnt1 : Nat
  single : Nat
  deriving DecidableEq, Repr, Inhabited

/-- A proposal in a window (R489): lane, stamp die, whether it is a RELEASE, ACTION and ARG. -/
structure Proposal where
  lane : Nat
  die : BitVec 3
  release : Bool
  action : Nat
  arg : Nat
  deriving DecidableEq, Repr, Inhabited

/-- An open window of the voter (R489): channel, key, T0 in track time, proposals in order. -/
structure Window where
  chan : Nat
  key : BitVec 12
  t0 : Nat
  props : List Proposal
  deriving DecidableEq, Repr, Inhabited

/-- A held commit (R492): channel, key, ACTION, ARG, lanes that hold it with their stamp dies, dissents
counted, start of CHOLD in track time, whether an entry of Reed has been Armed for it (R495), and the tick of
the commit (R493). -/
structure Commit where
  chan : Nat
  key : BitVec 12
  action : Nat
  arg : Nat
  lanes : List (Nat × BitVec 3)
  dissents : List Nat
  start : Nat
  armed : Bool
  tick : Nat
  deriving DecidableEq, Repr, Inhabited

/-- A proposal slot of a lane (R486). -/
structure PSlot where
  die : BitVec 3
  core : BitVec 7
  ctx : BitVec 2
  arg : Option Nat
  result : Option Nat
  last : Nat
  deriving DecidableEq, Repr, Inhabited

/-- The Sluice voter of a region (R484 on): `noSlot` lists the requesters of each lane whose last submission found no
slot (result 17), `safeInfo` holds KEY and LANES of SAFE_c. -/
structure Voter where
  wins : List Window
  commits : List Commit
  slots : KMap (Option PSlot)
  noSlot : List (Nat × BitVec 3 × BitVec 7 × BitVec 2)
  safeInfo : KMap Word
  deriving DecidableEq, Repr, Inhabited

/-- The channel block of a region: AXFIFO and the AXEV_1 latch (R481, R516), self-test (R463: requested, and whether the
frame in progress is the test frame), frames written (R461). -/
structure Block where
  axfifo : List (Word × Word)
  axev1 : Word
  testPending : Bool
  testNow : Bool
  chkDone : Bool
  chkPass : Bool
  frame : Nat
  index : Nat
  smptt : Word
  deriving DecidableEq, Repr, Inhabited

/-- A VITAL_EN generator (R507 to R512, R718); `kick0` and `kick1` hold the dies from which each compartment has kicked in this
window. -/
structure Ven where
  running : Bool
  toggling : Bool
  why : Nat
  next : BitVec 18
  kick0 : BitVec 8
  kick1 : BitVec 8
  winStart : Nat
  stopAt : Option Nat
  deriving DecidableEq, Repr, Inhabited

/-- A ring's position (R553): next index, stopped at a descriptor it does not own. -/
structure Ring where
  idx : Nat
  stopped : Bool
  deriving DecidableEq, Repr, Inhabited

/-- An Ethernet port: link, rings, and the frame last sent on it with its FCS (R556). -/
structure Eth where
  link : Bool
  tx : Ring
  rx : Ring
  wire : List (BitVec 8)
  deriving DecidableEq, Repr, Inhabited

/-- One entry of a PRP duplicate table (R560): source address, sequence number, tick of reception. -/
structure PrpEntry where
  src : Nat
  seq : Nat
  since : Nat
  deriving DecidableEq, Repr, Inhabited

/-- The CAN FD controller of a die (R563, R564): error counters, bus-off, a write of CTL.EN = 1 since bus-off, a transmit
descriptor taken and not ended, rings, and the frame last sent. -/
structure Can where
  txErr : Nat
  rxErr : Nat
  busOff : Bool
  restart : Bool
  taken : Bool
  tx : Ring
  rx : Ring
  wire : Option CanFrame
  deriving DecidableEq, Repr, Inhabited

/-- A command in progress at a flash port (R570): OP, the registers it was started with, and ETYPE. -/
structure FlashJob where
  op : Nat
  addr : Nat
  mem : Nat
  len : Nat
  etype : Nat
  deriving DecidableEq, Repr, Inhabited

/-- What a flash port issues to its flash (R568, R570): the instruction, where the tables name one, the flash address and the octets
that go with it. -/
structure FlashSend where
  code : Option (BitVec 8)
  addr : Nat
  octets : List (BitVec 8)
  deriving DecidableEq, Repr, Inhabited

/-- A flash port (R566 to R572): the SFDP facts after enable, hold by Carr, the command in progress, and what the latest command
issued to the flash. -/
structure Flash where
  sfdp : Option SfdpFacts
  carr : Bool
  busy : Option FlashJob
  sent : List FlashSend
  deriving DecidableEq, Repr, Inhabited

/-- An external memory port (R575 to R580): trained with its density in force, self-refresh, scrub position and the tick of the last
burst. -/
structure Emp where
  trained : Bool
  dens : Nat
  rate : Nat
  selfref : Bool
  scrub : Nat
  scrubAt : Option Nat
  deriving DecidableEq, Repr, Inhabited

/-- A debug token in force (R609, R610): granted state, scope, and ticks left of its DURATION. -/
structure Token where
  state : Nat
  dieMask : BitVec 8
  tgMask : BitVec 16
  ranges : List (Nat × Nat)
  expires : Nat
  deriving DecidableEq, Repr, Inhabited

/-- What the fuses hold (Table 12.1). -/
structure Fuses where
  roothash : KMap (BitVec 384)
  rvk : KMap Nat
  dbgslot : BitVec 4
  prov : Nat
  fieldF : Nat
  retired : Nat
  minsvnC : Nat
  minsvnA : Nat
  serno : BitVec 64
  featOff : KMap Word
  idkey : BitVec 416
  idzero : Nat
  deriving DecidableEq, Repr, Inhabited

/-- A command of Carr in progress (R604, R612): its OP, the RESULT it will show, and what an abandonment starts from: the fuses
before it, and whether a service request was held. -/
structure CarrJob where
  op : Nat
  result : Nat
  fusesWere : Fuses
  svcWas : Bool
  deriving DecidableEq, Repr, Inhabited

/-- The primary Carr after boot: the outstanding nonce with its tick, the token, the command in progress. -/
structure Carr where
  nonce : Option (BitVec 384 × Nat)
  token : Option Token
  busy : Option CarrJob
  deriving DecidableEq, Repr, Inhabited

/-- An accepted image's facts that boot keeps (Table 12.2, R597, R608); `head` is the signed part of its header, as the primary
staged it for the checker (R582, R589). -/
structure Image where
  src : Bool
  slot : Nat
  iver : Nat
  svn : Nat
  cfeat : Nat
  qcmin : Nat
  qcmax : Nat
  policy : Nat
  entry : Nat
  comp0 : Nat
  bootcore : Nat
  full : KMap Word
  baseline : KMap Word
  head : List (BitVec 8)
  load : Nat
  blen : Nat
  digest : BitVec 384
  deriving DecidableEq, Repr, Inhabited

/-- Where boot stands (R591 to R597). -/
inductive BootPhase where
  | start | accepted | holding | done
  deriving DecidableEq, Repr, Inhabited

/-- The boot facts: phase, images in force, outcome, rejection codes, service reason, random-source
failure, lifecycle change waiting for the next boot (LCSTAT.PEND). -/
structure Boot where
  phase : BootPhase
  carr : Option Image
  app : Option Image
  outcome : Nat
  rej : KMap Nat
  svcWhy : Nat
  rngFail : Option (BitVec 3)
  pend : Nat
  deriving DecidableEq, Repr, Inhabited

/-- The levels of the balls PORST_N, SYSRST_N and FRZ_N, the supply condition, and whether a reset by PORST_N or a supply,
or one by SYSRST_N, holds the package (R629, R631); `io33` says that VDD_IO33 is in range (R630). -/
structure Pins where
  porst : Bool
  sysrst : Bool
  frz : Bool
  supplyBad : Bool
  io33 : Bool
  porHeld : Bool
  sysHeld : Bool
  deriving DecidableEq, Repr, Inhabited

/-- A freeze in force: safety run state, lifecycle and debug state at the edge, whether release resumes
(R651). -/
structure Freeze where
  safety : Safety
  lcs : Lifecycle
  dbg : Nat
  resume : Bool
  deriving DecidableEq, Repr, Inhabited

/-- The test access port (R644, R653, R660, R697): instruction, selector, data register of the read-out and of DBGACC, whether EXTEST
is in force, what the boundary cells hold, and what the last capture took. -/
structure Tap where
  ir : BitVec 8
  sel : Word
  dr : BitVec 68
  extest : Bool
  cells : BoundaryCells
  seen : BoundaryCells
  deriving DecidableEq, Repr, Inhabited

/-- The answer of the last register access made by a unit-level command (the model's own field): the word,
the fault vector and cause the requester would take (0 for none). -/
structure Reply where
  data : Word
  vec : Nat
  cause : Nat
  deriving DecidableEq, Repr, Inhabited

/-- The whole package. `heatCnt` counts the accesses that a bank, or an external memory port (128 on), has granted to pool frames
since its last heat report, and `heatDue` holds the reports on their way, as the frame and the requester's die (R351). `events`
holds, by the key of a register, what hardware events have set or counted in it in the fabric cycle `evTick`: a software access
that clears the register leaves it (R17). `slots` holds, by bank, the slots used, `badPorts` the block ports (a core block, or 128 +
g for the channel block of region g) at which the next request arrives with wrong parity (R35). -/
structure State where
  part : Part
  pending : List Instr
  fresh : Nat
  busReply : Reply
  mem : KMap MemWord
  eccWb : List Nat
  regs : KMap Word
  evTick : Nat
  events : KMap Word
  enHeld : List Nat
  cores : KMap Core
  marks : KMap Nat
  heatCnt : KMap Nat
  heatDue : List (Nat × Nat)
  steals : KMap (Nat × Nat)
  slots : KMap Slots
  badPorts : List Nat
  safety : Safety
  lcs : Lifecycle
  heldSvc : Bool
  boot : Boot
  fuses : Fuses
  fusesRead : Fuses
  offers : KMap Word
  bootLocks : List Nat
  straps : BitVec 4
  pins : Pins
  frozen : Option Freeze
  doms : KMap Dom
  isol : BitVec 32
  dieRst : List Nat
  tt : Nat
  ttSub : Nat
  ttRateWas : Int
  ttMarks : List TtMark
  ticks : Nat
  sync : Sync
  refs : KMap Ref
  reeds : KMap Reed
  sedges : KMap Sedge
  posts : List Post
  postId : Nat
  sweeps : KMap Sweep
  chans : KMap Chan
  voters : KMap Voter
  blocks : KMap Block
  vens : KMap Ven
  links : KMap Link
  cwys : KMap Cwy
  stack : Stack
  eths : KMap Eth
  prps : KMap (List PrpEntry)
  cans : KMap Can
  flashes : KMap Flash
  emps : KMap Emp
  carr : Carr
  tap : Tap
  deriving DecidableEq, Repr

/-- No meaning raises a fault: an access the spec says has no target takes the bus error the spec names
(R57), which is a next state. The one reason stands for a command that reaches a part of the device whose
effect the spec does not give; the model has none, so no meaning raises it (safe). -/
inductive Fault where
  | noEffectGiven (what : String)
  deriving DecidableEq, Repr

/-- The reasons a command has no meaning. `notModelled` is raised by an arm of exec whose command has no
meaning yet; safe: the run stops. -/
inductive Refusal where
  | notModelled (mnemonic : String)
  deriving DecidableEq, Repr

/-- A bank of which no slot is used. -/
def Slots.init : Slots := { tick := 0, i := 0, d := 0, lent := 0 }

/-- The null capability (R105). -/
def Cap.null : Cap := { hi := 0, lo := 0, tag := false }

/-- A context in which nothing is held: Empty, registers zero and null (R265). -/
def Ctx.init : Ctx :=
  { st := .empty, w := [], c := [], q := 0, mh := 0, ml := 0, dq := 0, dm := 0, muls := [], div := none,
    pcc := Cap.null, psw := 0, win := 0, mlv := 0, vba := 0, ssp := 0, tspA := Cap.null, tspB := Cap.null,
    setB := false, fsp := Cap.null, hcc := Cap.null, hdc := Cap.null, ge := [], srb := [], spilln := 0,
    rsm0 := 0, rsm1 := 0, lates := [], halted := false, atBreak := false, stepping := false, proofLoad := none,
    lastLoad := none, fresh := false, barrier := none, cych := 0 }

/-- An Empty rule set. -/
def RuleSet.init : RuleSet :=
  { st := .empty, fill := 0, words := [], imgva := 0, fcode := 0, fslot := 0, fwin := 0, dma := false }

/-- A core block after reset. -/
def Core.init : Core :=
  { ctxs := [], cur := 0, itlb := [], dtlb := [], l2tlb := [], dmatlb := [], sb := [], pq := [],
    fetchStop := false, tc := [], tcKey := 0, cyc := 0, mstage := none, arrived := none, irqAt := none,
    stall := none, midway := none, undo := none, fetchAt := none, dmaAt := none, unitHeld := [], held := none,
    setA := RuleSet.init, setB := RuleSet.init, epoch := 0, rsload := [],
    multiNow := 0, multiLast := 0, readyNow := false, readyLast := true }

/-- A domain in Run (Table 14.8: every present domain is in Run in Boot). -/
def Dom.init : Dom :=
  { st := .run, req := 0, target := none, drain := none, queued := none, held := false, rstUntil := none,
    why := 0, wake := true, trimdiv := 0, clkdiv := 0 }

/-- A phase reference after reset: Off. -/
def Ref.init : Ref :=
  { st := .off, stamp := 0, sub := 0, period := 0, err := 0, slew := false, lastCross := none,
    periods := [], armed := false, code := 0, codeAt := 0, due := none, mark := none }

/-- A free event entry. -/
def Event.init : Event :=
  { st := .free, trig := 0, period := 0, ctrl := 0, arg := 0, comp := 0, pdie := 0, since := 0,
    dispatched := false }

/-- Reed after reset: every entry Free, no slot held. -/
def Reed.init : Reed := { ev := [], slots := [], fifo := [], cancels := [], evcnt1 := 0 }

/-- An unused directory entry. -/
def DirEnt.init : DirEnt :=
  { v := false, st := .placed, pin := false, comp := 0, vpn := 0, eaddr := 0, pfn := 0, marked := false, heatL := 0,
    heat := [], coldPeriods := 0 }

/-- Sedge after reset: empty directory and pool. -/
def Sedge.init : Sedge :=
  { dir := [], pool := [], mig := none, tmig := none, busy := none, waitMove := none, relPost := none,
    frames1 := 0, lastMig := none, lastHalf := 0 }

/-- A sweeper at rest. -/
def Sweep.init : Sweep := { on := false, clearAll := false, phase := false, addr := 0, cleared := 0 }

/-- A channel after reset: Off with GD low, level 65,535 (Table 10.12). -/
def Chan.init : Chan :=
  { lit := false, level := 65535, gd := false, fb := false, safe := false, cause := 0, proved := false,
    darkok := false, disturbed := false, burstOn := false, burstRef := 0, burstIdx := 0, burstFrom := 0, burstLeft := 0,
    burstArm := [], offArm := [], gdSince := 0, edges := 0, fbSince := 0, sumA := 0, sumB := 0, nSamp := 0, rms := 0, skip := 0,
    changed := false, provfail := 0, enacc := 0, encyc := 0, encycShown := 0, enlast := 0, m2 := 0, cycles := 0,
    cyclesNow := 0, minA := 65535, maxA := 0, totA := 0, minB := 65535, maxB := 0, totB := 0, nMark := 0,
    g0 := 0, g1 := 0, g2 := 0, iA := 0, qA := 0, iB := 0, qB := 0, envA := 0, envB := 0, carrier := 0, phase := 0, dampA := none, dampB := none,
    common := false, firstB := false, wheelTT := 0, dampedA := 0, dampedB := 0, supA := none, supB := none, supC := none,
    cycAt := none, measMode := 0, cnt0 := 0, cnt1 := 0, single := 0 }

/-- A voter after reset: no window, no commit (R498). -/
def Voter.init : Voter := { wins := [], commits := [], slots := [], noSlot := [], safeInfo := [] }

/-- A channel block after reset. -/
def Block.init : Block :=
  { axfifo := [], axev1 := 0, testPending := false, testNow := false, chkDone := false, chkPass := false, frame := 0, index := 0,
    smptt := 0 }

/-- A generator never armed (VENSTAT.WHY = 1). -/
def Ven.init : Ven :=
  { running := false, toggling := false, why := 1, next := 0, kick0 := 0, kick1 := 0, winStart := 0, stopAt := none }

/-- A ring at its first descriptor. -/
def Ring.init : Ring := { idx := 0, stopped := false }

/-- A Causeway link unit after reset. -/
def Cwy.init : Cwy :=
  { lanes := 0, ppos := 0, pmem := false, peer := none, waitWhy := 0, delay := 0, downSince := 0,
    upSince := none, synth := false, joining := none, sent := none }

/-- A package alone, at position 0 (R61). -/
def Stack.init : Stack := { role := 0, pos := 0, members := 0, orphan := false, id := 0 }

/-- No synchronisation running. -/
def Sync.init : Sync := { hold := false, good := 0, last := 0, rate := 0, base := 0, anchor := none, steps := [], seen := 0 }

/-- An Ethernet port after reset. -/
def Eth.init : Eth := { link := false, tx := Ring.init, rx := Ring.init, wire := [] }

/-- A CAN FD controller after reset: error active. -/
def Can.init : Can :=
  { txErr := 0, rxErr := 0, busOff := false, restart := false, taken := false, tx := Ring.init, rx := Ring.init, wire := none }

/-- A flash port after reset: held by Carr during Boot (R571, R598). -/
def Flash.init : Flash := { sfdp := none, carr := true, busy := none, sent := [] }

/-- An external memory port after reset: disabled. -/
def Emp.init : Emp := { trained := false, dens := 0, rate := 0, selfref := false, scrub := 0, scrubAt := none }

/-- Carr with no nonce, no token and no command. -/
def Carr.init : Carr := { nonce := none, token := none, busy := none }

/-- Fuses with nothing blown (a Blank part). -/
def Fuses.init : Fuses :=
  { roothash := [], rvk := [], dbgslot := 0, prov := 0, fieldF := 0, retired := 0, minsvnC := 0, minsvnA := 0,
    serno := 0, featOff := [], idkey := 0, idzero := 0 }

/-- Boot before any image is read. -/
def Boot.init : Boot :=
  { phase := .start, carr := none, app := none, outcome := 0, rej := [], svcWhy := 0, rngFail := none,
    pend := 7 }

/-- Every ball at its idle level. -/
def Pins.init : Pins := { porst := true, sysrst := true, frz := true, supplyBad := false, io33 := true, porHeld := false, sysHeld := false }

/-- The test access port in Test-Logic-Reset: IDCODE selected (Table 14.1). -/
def Tap.init : Tap :=
  { ir := 2, sel := 0, dr := 0, extest := false, cells := ⟨[], [], []⟩, seen := ⟨[], [], []⟩ }

/-- The package right after the release of PORST_N, before Carr has read an image. -/
def State.reset : State :=
  { part := .tfw8x, pending := [], fresh := 0, busReply := { data := 0, vec := 0, cause := 0 }, mem := [],
    eccWb := [], regs := [], evTick := 0, events := [], enHeld := [], cores := [], marks := [], heatCnt := [], heatDue := [],
    steals := [], slots := [], badPorts := [], safety := .boot, lcs := .blank,
    heldSvc := false, boot := Boot.init, fuses := Fuses.init, fusesRead := Fuses.init, offers := [],
    bootLocks := [], straps := 0, pins := Pins.init, frozen := none, doms := [], isol := 0, dieRst := [],
    tt := 0, ttSub := 0, ttRateWas := 0, ttMarks := [], ticks := 0, sync := Sync.init, refs := [], reeds := [], sedges := [], posts := [],
    postId := 0, sweeps := [], chans := [], voters := [], blocks := [], vens := [], links := [], cwys := [],
    stack := Stack.init, eths := [], prps := [], cans := [], flashes := [], emps := [], carr := Carr.init,
    tap := Tap.init }

end Sys2Proof.Machine
end

