-- ==== Sys2Proof/Machine/RegTable.lean ====
section
/-! DEFINITION. The field tables of the register pages (R13, R71, R135, R256, R305, R364, R402, R403, R404,
R430, R449, R516, R517, R519 to R521, R532, R549, R561, R565, R572, R580, R612, R642, R643, R677): for
each unit type its registers with the bits, access code and reset value of each field. A field whose Reset
column reads Boot, Fuse or Strap is listed with 0 here; those values are written at start-up or computed on read. -/

namespace Sys2Proof.Machine

/-- The access codes of Table 0.6. -/
inductive Acc where
  | rw | ro | wc | ws | rc | wo
  deriving DecidableEq, Repr

/-- One field: bits [hi:lo], access code, reset value. -/
structure Fld where
  hi : Nat
  lo : Nat
  acc : Acc
  rst : Nat
  deriving DecidableEq, Repr

/-- One register, or a group of `cnt` of them at a stride: its first offset, whether the chapter marks it
lockable (R82), and its fields. -/
structure RegRow where
  off : Nat
  cnt : Nat
  stride : Nat
  lock : Bool
  flds : List Fld
  deriving DecidableEq, Repr

/-- The unit types of Table 2.4, Table 2.5 and Table 2.6. -/
inductive UnitTy where
  | dsv | dem | pwr | brg | reed | reedev | sedge | carr | canfd | xbar | rem | swp | core | mgate | bank | dma | cbk | chan | sluice | prop | tgate | pkg | phref | ttime | frz | cwy | eth | prp | flash | emp
  deriving DecidableEq, Repr

/-- PAGE_ID.TYPE of a unit (Table 2.4 to Table 2.6). -/
def UnitTy.code (u : UnitTy) : Nat :=
  match u with
  | .dsv => 1
  | .dem => 2
  | .pwr => 3
  | .brg => 4
  | .reed => 5
  | .reedev => 6
  | .sedge => 7
  | .carr => 8
  | .canfd => 9
  | .xbar => 16
  | .rem => 17
  | .swp => 18
  | .core => 24
  | .mgate => 25
  | .bank => 26
  | .dma => 27
  | .cbk => 32
  | .chan => 33
  | .sluice => 34
  | .prop => 35
  | .tgate => 36
  | .pkg => 64
  | .phref => 65
  | .ttime => 66
  | .frz => 67
  | .cwy => 68
  | .eth => 69
  | .prp => 70
  | .flash => 71
  | .emp => 72

/-- The common registers of every page (R71), without the unit-specific fields. -/
def commonRows : List RegRow :=
  [⟨0, 1, 1, false, [⟨35, 24, .ro, 0⟩, ⟨17, 14, .ro, 0⟩, ⟨13, 3, .ro, 0⟩]⟩,
   ⟨1, 1, 1, false, [⟨35, 32, .ro, 0⟩, ⟨31, 28, .ro, 0⟩, ⟨17, 9, .ro, 0⟩, ⟨8, 0, .ro, 0⟩]⟩,
   ⟨2, 1, 1, false, [⟨35, 1, .ro, 0⟩, ⟨0, 0, .ro, 0⟩]⟩,
   ⟨3, 1, 1, true, [⟨35, 1, .rw, 0⟩, ⟨0, 0, .rw, 0⟩]⟩,
   ⟨4, 1, 1, true, [⟨1, 1, .wo, 0⟩, ⟨0, 0, .rw, 0⟩]⟩,
   ⟨5, 1, 1, false, [⟨5, 5, .ro, 0⟩, ⟨4, 4, .ro, 0⟩, ⟨3, 3, .ro, 0⟩, ⟨2, 2, .wc, 0⟩, ⟨1, 1, .ro, 0⟩, ⟨0, 0, .ro, 0⟩]⟩,
   ⟨6, 1, 1, false, [⟨35, 35, .wc, 0⟩, ⟨34, 30, .ro, 0⟩, ⟨29, 0, .ro, 0⟩]⟩,
   ⟨7, 1, 1, false, [⟨35, 35, .wo, 0⟩, ⟨17, 0, .ro, 0⟩]⟩,
   ⟨8, 1, 1, true, [⟨0, 0, .rw, 0⟩]⟩,
   ⟨9, 1, 1, false, [⟨0, 0, .wc, 0⟩]⟩,
   ⟨10, 1, 1, false, [⟨1, 1, .ro, 0⟩, ⟨0, 0, .ws, 0⟩]⟩]

/-- Registers of a DSV page (Table 10.16). -/
def rowsDsv : List RegRow :=
  [⟨64, 1, 1, true, [⟨35, 35, .rw, 1⟩, ⟨33, 26, .rw, 0⟩, ⟨25, 18, .rw, 0⟩, ⟨17, 0, .rw, 1000⟩]⟩,
   ⟨65, 1, 1, false, [⟨17, 0, .wo, 0⟩]⟩,
   ⟨66, 1, 1, false, [⟨35, 35, .ro, 0⟩, ⟨34, 32, .ro, 1⟩, ⟨17, 0, .ro, 0⟩]⟩,
   ⟨67, 1, 1, false, [⟨1, 1, .wo, 0⟩, ⟨0, 0, .wo, 0⟩]⟩]

/-- Registers of a PWR page (Table 13.11). -/
def rowsPwr : List RegRow :=
  [⟨8, 1, 1, false, [⟨1, 1, .rw, 0⟩]⟩,
   ⟨9, 1, 1, false, [⟨1, 1, .wc, 0⟩]⟩,
   ⟨16, 44, 1, true, [⟨35, 33, .rw, 0⟩, ⟨32, 30, .ro, 0⟩, ⟨29, 29, .ro, 0⟩, ⟨28, 28, .ro, 0⟩, ⟨27, 27, .ro, 0⟩, ⟨26, 26, .rw, 1⟩, ⟨25, 24, .rw, 0⟩, ⟨23, 20, .ro, 0⟩, ⟨0, 0, .wo, 0⟩]⟩,
   ⟨64, 7, 1, true, [⟨35, 33, .rw, 0⟩, ⟨32, 30, .ro, 0⟩, ⟨29, 29, .ro, 0⟩, ⟨28, 28, .ro, 0⟩, ⟨27, 27, .ro, 0⟩, ⟨23, 20, .ro, 0⟩, ⟨0, 0, .wo, 0⟩]⟩]

/-- Registers of a BRG page (Table 11.4). -/
def rowsBrg : List RegRow :=
  [⟨16, 3, 1, false, [⟨35, 33, .ro, 0⟩, ⟨32, 30, .ro, 0⟩]⟩,
   ⟨20, 3, 1, false, [⟨35, 30, .ro, 16⟩, ⟨29, 24, .ro, 32⟩, ⟨23, 18, .ro, 0⟩, ⟨17, 12, .ro, 0⟩]⟩,
   ⟨24, 3, 1, false, [⟨35, 18, .ro, 0⟩, ⟨17, 0, .ro, 0⟩]⟩,
   ⟨28, 3, 1, false, [⟨17, 0, .ro, 0⟩]⟩,
   ⟨32, 1, 1, true, [⟨3, 0, .rw, 8⟩]⟩]

/-- Registers of a REED page (Table 9.8). -/
def rowsReed : List RegRow :=
  [⟨8, 1, 1, false, [⟨3, 3, .rw, 0⟩, ⟨2, 2, .rw, 0⟩, ⟨1, 1, .rw, 0⟩]⟩,
   ⟨9, 1, 1, false, [⟨3, 3, .wc, 0⟩, ⟨2, 2, .wc, 0⟩, ⟨1, 1, .wc, 0⟩]⟩,
   ⟨16, 1, 1, true, [⟨19, 0, .rw, 1000⟩]⟩,
   ⟨17, 1, 1, false, [⟨35, 18, .ro, 4096⟩, ⟨17, 0, .ro, 0⟩]⟩,
   ⟨18, 1, 1, false, [⟨35, 18, .ro, 0⟩, ⟨17, 0, .ro, 0⟩]⟩,
   ⟨19, 1, 1, false, [⟨35, 35, .rc, 0⟩, ⟨34, 27, .rc, 0⟩, ⟨26, 15, .rc, 0⟩, ⟨14, 12, .rc, 0⟩, ⟨11, 0, .rc, 0⟩]⟩,
   ⟨20, 1, 1, false, [⟨17, 0, .ro, 0⟩]⟩,
   ⟨21, 1, 1, false, [⟨17, 0, .ro, 0⟩]⟩,
   ⟨256, 256, 1, true, [⟨25, 13, .rw, 4096⟩, ⟨12, 0, .ro, 0⟩]⟩]

/-- Registers of a REEDEV page (Table 9.9). -/
def rowsReedev : List RegRow :=
  [⟨16, 4, 1, false, [⟨35, 0, .wo, 0⟩]⟩,
   ⟨20, 1, 1, false, [⟨35, 31, .ro, 31⟩, ⟨11, 0, .ro, 0⟩]⟩,
   ⟨21, 1, 1, false, [⟨35, 35, .wo, 0⟩, ⟨11, 0, .wo, 0⟩]⟩,
   ⟨22, 1, 1, false, [⟨11, 0, .rw, 0⟩]⟩,
   ⟨23, 4, 1, false, [⟨35, 0, .ro, 0⟩]⟩,
   ⟨27, 1, 1, false, [⟨35, 33, .ro, 0⟩, ⟨32, 32, .ro, 0⟩, ⟨31, 24, .ro, 0⟩, ⟨23, 21, .ro, 0⟩]⟩]

/-- Registers of a SEDGE page (Table 7.12, Table 7.13, Table 7.14). -/
def rowsSedge : List RegRow :=
  [⟨2, 1, 1, false, [⟨3, 3, .ro, 0⟩, ⟨2, 2, .ro, 0⟩, ⟨1, 1, .ro, 0⟩]⟩,
   ⟨4, 1, 1, false, [⟨3, 3, .rw, 0⟩, ⟨2, 2, .rw, 0⟩]⟩,
   ⟨5, 1, 1, false, [⟨10, 10, .ro, 0⟩, ⟨9, 9, .ro, 0⟩, ⟨8, 8, .ro, 0⟩]⟩,
   ⟨8, 1, 1, false, [⟨2, 2, .rw, 0⟩, ⟨1, 1, .rw, 0⟩]⟩,
   ⟨9, 1, 1, false, [⟨2, 2, .wc, 0⟩, ⟨1, 1, .wc, 0⟩]⟩,
   ⟨16, 1, 1, false, [⟨35, 32, .wo, 0⟩]⟩,
   ⟨17, 1, 1, false, [⟨35, 35, .rw, 0⟩, ⟨29, 0, .rw, 0⟩]⟩,
   ⟨18, 1, 1, false, [⟨27, 20, .rw, 0⟩, ⟨19, 0, .rw, 0⟩]⟩,
   ⟨19, 1, 1, false, [⟨35, 35, .rw, 0⟩, ⟨29, 10, .rw, 0⟩]⟩,
   ⟨20, 1, 1, false, [⟨35, 32, .ro, 0⟩, ⟨31, 27, .ro, 0⟩, ⟨12, 0, .ro, 0⟩]⟩,
   ⟨21, 1, 1, false, [⟨12, 0, .rw, 0⟩]⟩,
   ⟨22, 4, 1, false, [⟨35, 0, .ro, 0⟩]⟩,
   ⟨26, 1, 1, false, [⟨35, 18, .ro, 0⟩, ⟨17, 0, .ro, 0⟩]⟩,
   ⟨27, 1, 1, false, [⟨35, 18, .ro, 0⟩, ⟨17, 0, .ro, 0⟩]⟩,
   ⟨28, 1, 1, true, [⟨35, 18, .rw, 512⟩, ⟨17, 9, .rw, 16⟩]⟩,
   ⟨29, 1, 1, true, [⟨35, 18, .rw, 64⟩, ⟨17, 0, .rw, 128⟩]⟩,
   ⟨30, 1, 1, false, [⟨35, 0, .ro, 0⟩]⟩,
   ⟨31, 1, 1, false, [⟨35, 0, .ro, 0⟩]⟩,
   ⟨32, 1, 1, false, [⟨17, 0, .ro, 0⟩]⟩,
   ⟨33, 1, 1, false, [⟨17, 0, .rc, 0⟩]⟩,
   ⟨34, 1, 1, false, [⟨13, 0, .ro, 0⟩]⟩,
   ⟨256, 256, 1, true, [⟨35, 34, .rw, 0⟩, ⟨33, 33, .rw, 0⟩, ⟨32, 32, .rw, 0⟩, ⟨31, 24, .rw, 0⟩, ⟨22, 20, .rw, 0⟩, ⟨19, 18, .rw, 0⟩, ⟨17, 10, .rw, 0⟩, ⟨9, 9, .rw, 0⟩]⟩]

/-- Registers of a CARR page (Table 12.13). -/
def rowsCarr : List RegRow :=
  [⟨2, 1, 1, false, [⟨5, 1, .ro, 0⟩]⟩,
   ⟨5, 1, 1, false, [⟨9, 9, .ro, 0⟩, ⟨8, 8, .ro, 0⟩]⟩,
   ⟨8, 1, 1, false, [⟨1, 1, .rw, 0⟩]⟩,
   ⟨9, 1, 1, false, [⟨1, 1, .wc, 0⟩]⟩,
   ⟨16, 1, 1, false, [⟨35, 33, .ro, 0⟩, ⟨32, 30, .ro, 7⟩, ⟨29, 27, .ro, 0⟩, ⟨26, 24, .ro, 0⟩, ⟨23, 23, .ro, 0⟩]⟩,
   ⟨17, 1, 1, false, [⟨35, 31, .ro, 0⟩, ⟨30, 30, .ro, 0⟩, ⟨29, 29, .ro, 0⟩, ⟨28, 27, .ro, 0⟩, ⟨26, 25, .ro, 0⟩, ⟨19, 16, .ro, 0⟩, ⟨15, 12, .ro, 0⟩, ⟨11, 8, .ro, 0⟩, ⟨7, 4, .ro, 0⟩]⟩,
   ⟨18, 1, 1, false, [⟨31, 0, .ro, 0⟩]⟩,
   ⟨19, 1, 1, false, [⟨31, 0, .ro, 0⟩]⟩,
   ⟨20, 1, 1, false, [⟨35, 28, .ro, 0⟩, ⟨27, 20, .ro, 0⟩, ⟨15, 8, .ro, 0⟩, ⟨7, 0, .ro, 0⟩]⟩,
   ⟨21, 1, 1, false, [⟨35, 32, .ro, 0⟩, ⟨31, 28, .ro, 0⟩, ⟨27, 24, .ro, 0⟩]⟩,
   ⟨24, 1, 1, false, [⟨35, 32, .wo, 0⟩, ⟨29, 0, .wo, 0⟩]⟩,
   ⟨25, 1, 1, false, [⟨35, 32, .ro, 0⟩, ⟨31, 27, .ro, 31⟩]⟩,
   ⟨26, 1, 1, false, [⟨35, 35, .ro, 0⟩, ⟨34, 33, .ro, 0⟩, ⟨16, 0, .ro, 0⟩]⟩]

/-- Registers of a CANFD page (Table 11.12, Table 11.9). -/
def rowsCanfd : List RegRow :=
  [⟨4, 1, 1, false, [⟨5, 5, .rw, 0⟩, ⟨3, 3, .rw, 0⟩, ⟨2, 2, .rw, 0⟩]⟩,
   ⟨5, 1, 1, false, [⟨10, 9, .ro, 0⟩]⟩,
   ⟨16, 1, 1, true, [⟨29, 0, .rw, 0⟩]⟩,
   ⟨17, 1, 1, true, [⟨29, 0, .rw, 0⟩]⟩,
   ⟨18, 1, 1, true, [⟨7, 0, .rw, 0⟩]⟩,
   ⟨19, 1, 1, false, [⟨29, 0, .rw, 0⟩]⟩,
   ⟨20, 1, 1, false, [⟨3, 0, .rw, 1⟩]⟩,
   ⟨21, 1, 1, false, [⟨0, 0, .wo, 0⟩]⟩,
   ⟨22, 1, 1, false, [⟨29, 0, .rw, 0⟩]⟩,
   ⟨23, 1, 1, false, [⟨3, 0, .rw, 1⟩]⟩,
   ⟨24, 1, 1, false, [⟨0, 0, .wo, 0⟩]⟩,
   ⟨25, 1, 1, true, [⟨35, 28, .rw, 0⟩, ⟨27, 20, .rw, 0⟩, ⟨19, 13, .rw, 0⟩, ⟨12, 6, .rw, 0⟩]⟩,
   ⟨26, 1, 1, true, [⟨35, 31, .rw, 0⟩, ⟨30, 26, .rw, 0⟩, ⟨25, 22, .rw, 0⟩, ⟨21, 18, .rw, 0⟩, ⟨17, 17, .rw, 0⟩, ⟨16, 10, .rw, 0⟩]⟩,
   ⟨27, 1, 1, false, [⟨35, 27, .ro, 0⟩, ⟨26, 18, .ro, 0⟩]⟩,
   ⟨32, 16, 1, true, [⟨35, 35, .rw, 0⟩, ⟨34, 34, .rw, 0⟩, ⟨28, 0, .rw, 0⟩]⟩,
   ⟨48, 16, 1, true, [⟨28, 0, .rw, 0⟩]⟩]

/-- Registers of a XBAR page (Table 11.4). -/
def rowsXbar : List RegRow :=
  [⟨16, 7, 1, false, [⟨35, 32, .ro, 4⟩, ⟨31, 28, .ro, 8⟩, ⟨27, 24, .ro, 0⟩, ⟨23, 20, .ro, 0⟩]⟩]

/-- Registers of a SWP page (Table 3.12, Table 3.13). -/
def rowsSwp : List RegRow :=
  [⟨2, 1, 1, false, [⟨2, 2, .ro, 0⟩, ⟨1, 1, .ro, 0⟩]⟩,
   ⟨4, 1, 1, false, [⟨3, 3, .rw, 0⟩, ⟨2, 2, .wo, 0⟩]⟩,
   ⟨5, 1, 1, false, [⟨9, 9, .ro, 0⟩, ⟨8, 8, .ro, 0⟩]⟩,
   ⟨8, 1, 1, false, [⟨1, 1, .rw, 0⟩]⟩,
   ⟨9, 1, 1, false, [⟨1, 1, .wc, 0⟩]⟩,
   ⟨16, 1, 1, false, [⟨35, 0, .ro, 0⟩]⟩,
   ⟨17, 1, 1, false, [⟨30, 30, .ro, 0⟩, ⟨29, 0, .ro, 0⟩]⟩,
   ⟨18, 1, 1, true, [⟨29, 0, .rw, 0⟩]⟩,
   ⟨19, 1, 1, true, [⟨29, 6, .rw, 0⟩]⟩,
   ⟨20, 1, 1, true, [⟨29, 6, .rw, 0⟩]⟩,
   ⟨21, 1, 1, true, [⟨29, 10, .rw, 0⟩]⟩,
   ⟨22, 1, 1, true, [⟨29, 10, .rw, 0⟩]⟩,
   ⟨23, 1, 1, false, [⟨17, 0, .ro, 0⟩]⟩]

/-- Registers of a CORE page (Table 5.11, Table 6.11, Table 6.12, Table 7.2). -/
def rowsCore : List RegRow :=
  [⟨8, 1, 1, false, [⟨1, 1, .rw, 0⟩]⟩,
   ⟨9, 1, 1, false, [⟨1, 1, .wc, 0⟩]⟩,
   ⟨64, 1, 1, false, [⟨7, 7, .rw, 0⟩, ⟨6, 5, .rw, 0⟩, ⟨4, 4, .rw, 0⟩, ⟨3, 3, .wo, 0⟩]⟩,
   ⟨65, 1, 1, false, [⟨35, 0, .ro, 0⟩]⟩,
   ⟨66, 1, 1, false, [⟨35, 0, .ro, 0⟩]⟩,
   ⟨67, 1, 1, false, [⟨35, 0, .ro, 0⟩]⟩,
   ⟨68, 1, 1, false, [⟨35, 0, .ro, 0⟩]⟩,
   ⟨69, 1, 1, false, [⟨35, 0, .ro, 0⟩]⟩,
   ⟨70, 1, 1, false, [⟨35, 0, .ro, 0⟩]⟩,
   ⟨71, 1, 1, false, [⟨35, 0, .ro, 0⟩]⟩,
   ⟨72, 1, 1, false, [⟨35, 0, .ro, 0⟩]⟩,
   ⟨73, 1, 1, false, [⟨35, 0, .ro, 0⟩]⟩,
   ⟨74, 1, 1, false, [⟨11, 0, .ro, 0⟩]⟩,
   ⟨75, 1, 1, false, [⟨0, 0, .wo, 0⟩]⟩,
   ⟨80, 40, 1, true, [⟨35, 35, .rw, 0⟩, ⟨34, 33, .rw, 0⟩, ⟨32, 29, .rw, 0⟩, ⟨17, 14, .rw, 0⟩, ⟨13, 3, .rw, 0⟩]⟩,
   ⟨120, 1, 1, true, [⟨31, 28, .rw, 14⟩, ⟨27, 24, .rw, 14⟩, ⟨23, 20, .rw, 14⟩, ⟨19, 16, .rw, 14⟩, ⟨15, 12, .rw, 14⟩, ⟨11, 8, .rw, 14⟩, ⟨3, 0, .rw, 14⟩]⟩,
   ⟨121, 1, 1, true, [⟨31, 28, .rw, 14⟩, ⟨27, 24, .rw, 14⟩, ⟨23, 20, .rw, 14⟩, ⟨19, 16, .rw, 14⟩, ⟨15, 12, .rw, 14⟩, ⟨11, 8, .rw, 14⟩, ⟨7, 4, .rw, 14⟩, ⟨3, 0, .rw, 14⟩]⟩,
   ⟨122, 1, 1, true, [⟨3, 0, .rw, 14⟩]⟩,
   ⟨123, 1, 1, false, [⟨0, 0, .wo, 0⟩]⟩,
   ⟨128, 4, 1, true, [⟨35, 34, .ro, 0⟩, ⟨33, 32, .rw, 0⟩, ⟨31, 28, .ro, 0⟩, ⟨27, 8, .ro, 0⟩]⟩,
   ⟨132, 1, 1, false, [⟨35, 33, .wo, 0⟩, ⟨32, 31, .wo, 0⟩, ⟨29, 0, .wo, 0⟩]⟩,
   ⟨136, 32, 1, true, [⟨9, 8, .rw, 2⟩, ⟨7, 0, .rw, 0⟩]⟩,
   ⟨176, 1, 1, true, [⟨35, 35, .rw, 0⟩, ⟨29, 10, .rw, 0⟩]⟩]

/-- Registers of a MGATE page (Table 8.13, Table 8.14). -/
def rowsMgate : List RegRow :=
  [⟨2, 1, 1, false, [⟨2, 2, .ro, 0⟩, ⟨1, 1, .ro, 0⟩]⟩,
   ⟨5, 1, 1, false, [⟨8, 8, .ro, 0⟩]⟩,
   ⟨8, 1, 1, false, [⟨1, 1, .rw, 0⟩]⟩,
   ⟨9, 1, 1, false, [⟨1, 1, .wc, 0⟩]⟩,
   ⟨16, 1, 1, false, [⟨35, 34, .ro, 0⟩, ⟨33, 31, .ro, 0⟩, ⟨30, 24, .ro, 0⟩, ⟨23, 22, .ro, 0⟩, ⟨21, 14, .ro, 0⟩, ⟨13, 12, .ro, 0⟩]⟩,
   ⟨17, 1, 1, false, [⟨35, 33, .ro, 0⟩, ⟨32, 32, .ro, 0⟩, ⟨31, 22, .ro, 0⟩, ⟨21, 19, .ro, 0⟩, ⟨15, 0, .ro, 0⟩]⟩,
   ⟨18, 1, 1, false, [⟨35, 35, .ro, 0⟩, ⟨15, 0, .ro, 0⟩]⟩,
   ⟨19, 2, 1, false, [⟨35, 33, .ro, 0⟩, ⟨32, 32, .ro, 0⟩, ⟨31, 28, .ro, 0⟩, ⟨27, 20, .ro, 0⟩, ⟨19, 16, .ro, 0⟩, ⟨15, 6, .ro, 0⟩, ⟨5, 4, .ro, 0⟩]⟩,
   ⟨21, 2, 1, false, [⟨29, 0, .ro, 0⟩]⟩,
   ⟨23, 1, 1, true, [⟨35, 35, .wo, 0⟩, ⟨29, 0, .wo, 0⟩]⟩,
   ⟨24, 1, 1, true, [⟨35, 35, .rw, 0⟩, ⟨9, 0, .rw, 0⟩]⟩,
   ⟨25, 1, 1, true, [⟨35, 0, .rw, 0⟩]⟩,
   ⟨26, 1, 1, true, [⟨35, 35, .wo, 0⟩, ⟨1, 1, .wo, 0⟩, ⟨0, 0, .wo, 0⟩]⟩,
   ⟨32, 16, 1, true, [⟨35, 15, .rw, 0⟩, ⟨11, 0, .rw, 0⟩]⟩]

/-- Registers of a CBK page (Table 10.11). -/
def rowsCbk : List RegRow :=
  [⟨4, 1, 1, false, [⟨3, 3, .wo, 0⟩, ⟨2, 2, .rw, 0⟩]⟩,
   ⟨5, 1, 1, false, [⟨8, 8, .ro, 0⟩]⟩,
   ⟨8, 1, 1, false, [⟨2, 2, .rw, 0⟩, ⟨1, 1, .rw, 0⟩]⟩,
   ⟨9, 1, 1, false, [⟨2, 2, .wc, 0⟩, ⟨1, 1, .wc, 0⟩]⟩,
   ⟨16, 1, 1, true, [⟨29, 0, .rw, 0⟩]⟩,
   ⟨17, 1, 1, true, [⟨17, 9, .rw, 0⟩]⟩,
   ⟨18, 1, 1, false, [⟨35, 18, .ro, 0⟩, ⟨8, 0, .ro, 0⟩]⟩,
   ⟨19, 1, 1, false, [⟨35, 0, .ro, 0⟩]⟩,
   ⟨20, 1, 1, false, [⟨35, 35, .ro, 0⟩, ⟨34, 34, .ro, 0⟩]⟩,
   ⟨24, 1, 1, false, [⟨35, 35, .rc, 0⟩, ⟨34, 34, .rc, 0⟩, ⟨33, 29, .rc, 0⟩, ⟨17, 0, .rc, 0⟩]⟩,
   ⟨25, 1, 1, false, [⟨35, 0, .ro, 0⟩]⟩]

/-- Registers of a CHAN page (Table 10.12). -/
def rowsChan : List RegRow :=
  [⟨64, 8, 32, true, [⟨35, 33, .rw, 0⟩, ⟨32, 32, .rw, 0⟩, ⟨31, 29, .rw, 0⟩, ⟨28, 28, .rw, 0⟩, ⟨27, 27, .rw, 0⟩, ⟨26, 26, .rw, 0⟩, ⟨25, 18, .rw, 10⟩, ⟨17, 17, .rw, 0⟩]⟩,
   ⟨65, 8, 32, false, [⟨35, 33, .ro, 0⟩, ⟨32, 32, .ro, 0⟩, ⟨31, 31, .ro, 0⟩, ⟨30, 30, .ro, 0⟩, ⟨29, 26, .ro, 0⟩, ⟨25, 25, .ro, 0⟩, ⟨24, 24, .ro, 0⟩, ⟨23, 23, .ro, 0⟩, ⟨22, 22, .ro, 0⟩, ⟨21, 21, .ro, 1⟩, ⟨20, 18, .ro, 0⟩, ⟨15, 0, .ro, 65535⟩]⟩,
   ⟨66, 8, 32, false, [⟨3, 3, .wo, 0⟩, ⟨2, 2, .wo, 0⟩, ⟨1, 0, .wo, 0⟩]⟩,
   ⟨67, 8, 32, true, [⟨33, 18, .rw, 32768⟩, ⟨15, 0, .rw, 32768⟩]⟩,
   ⟨68, 8, 32, true, [⟨35, 18, .rw, 0⟩, ⟨17, 0, .rw, 0⟩]⟩,
   ⟨69, 8, 32, true, [⟨35, 18, .rw, 0⟩, ⟨17, 0, .rw, 0⟩]⟩,
   ⟨70, 8, 32, true, [⟨35, 18, .rw, 0⟩, ⟨17, 0, .rw, 0⟩]⟩,
   ⟨71, 8, 32, true, [⟨35, 18, .rw, 0⟩]⟩,
   ⟨72, 8, 32, false, [⟨35, 0, .ro, 0⟩]⟩,
   ⟨73, 8, 32, false, [⟨35, 0, .ro, 0⟩]⟩,
   ⟨74, 8, 32, false, [⟨35, 0, .ro, 0⟩]⟩,
   ⟨75, 8, 32, false, [⟨35, 0, .ro, 0⟩]⟩]

/-- Registers of a SLUICE page (Table 10.14). -/
def rowsSluice : List RegRow :=
  [⟨2, 1, 1, false, [⟨1, 1, .ro, 0⟩]⟩,
   ⟨4, 1, 1, false, [⟨2, 2, .rw, 0⟩]⟩,
   ⟨5, 1, 1, false, [⟨8, 8, .ro, 0⟩]⟩,
   ⟨8, 1, 1, false, [⟨3, 3, .rw, 0⟩, ⟨2, 2, .rw, 0⟩, ⟨1, 1, .rw, 0⟩]⟩,
   ⟨9, 1, 1, false, [⟨3, 3, .wc, 0⟩, ⟨2, 2, .wc, 0⟩, ⟨1, 1, .wc, 0⟩]⟩,
   ⟨16, 1, 1, true, [⟨24, 14, .rw, 50⟩, ⟨13, 0, .rw, 1000⟩]⟩,
   ⟨17, 3, 1, true, [⟨35, 35, .rw, 0⟩, ⟨34, 27, .rw, 0⟩]⟩,
   ⟨20, 3, 1, false, [⟨17, 12, .ro, 32⟩, ⟨11, 6, .ro, 0⟩, ⟨5, 0, .ro, 0⟩]⟩,
   ⟨23, 1, 1, false, [⟨35, 18, .ro, 0⟩, ⟨17, 0, .ro, 0⟩]⟩,
   ⟨24, 1, 1, false, [⟨35, 24, .ro, 0⟩, ⟨23, 12, .ro, 0⟩, ⟨11, 0, .ro, 0⟩]⟩,
   ⟨32, 24, 1, false, [⟨35, 35, .ro, 0⟩, ⟨34, 31, .ro, 0⟩, ⟨30, 19, .ro, 0⟩, ⟨18, 16, .ro, 0⟩]⟩]

/-- Registers of a PROP page (Table 10.15). -/
def rowsProp : List RegRow :=
  [⟨16, 1, 1, false, [⟨17, 0, .wo, 0⟩]⟩,
   ⟨17, 1, 1, false, [⟨35, 32, .wo, 0⟩, ⟨31, 28, .wo, 0⟩, ⟨27, 23, .wo, 0⟩, ⟨11, 0, .wo, 0⟩]⟩,
   ⟨18, 1, 1, false, [⟨35, 31, .ro, 31⟩]⟩,
   ⟨19, 1, 1, true, [⟨29, 0, .rw, 0⟩]⟩,
   ⟨20, 1, 1, true, [⟨29, 0, .rw, 0⟩]⟩,
   ⟨21, 1, 1, true, [⟨35, 35, .rw, 0⟩, ⟨3, 0, .rw, 0⟩]⟩,
   ⟨22, 1, 1, false, [⟨35, 0, .ro, 0⟩]⟩]

/-- Registers of a TGATE page (Table 8.16). -/
def rowsTgate : List RegRow :=
  [⟨16, 1, 1, false, [⟨35, 0, .ro, 0⟩]⟩,
   ⟨17, 1, 1, false, [⟨35, 0, .ro, 0⟩]⟩,
   ⟨32, 16, 1, true, [⟨35, 15, .rw, 0⟩, ⟨11, 0, .rw, 0⟩]⟩]

/-- Registers of a PKG page (Table 11.6, Table 13.12, Table 8.18). -/
def rowsPkg : List RegRow :=
  [⟨8, 1, 1, false, [⟨1, 1, .rw, 0⟩]⟩,
   ⟨9, 1, 1, false, [⟨1, 1, .wc, 0⟩]⟩,
   ⟨40, 1, 1, true, [⟨1, 0, .rw, 0⟩]⟩,
   ⟨48, 1, 1, false, [⟨35, 34, .ro, 0⟩, ⟨33, 32, .ro, 0⟩, ⟨31, 28, .ro, 0⟩, ⟨27, 27, .ro, 0⟩]⟩,
   ⟨49, 1, 1, false, [⟨35, 0, .ro, 0⟩]⟩,
   ⟨50, 1, 1, false, [⟨27, 0, .ro, 0⟩]⟩,
   ⟨51, 1, 1, false, [⟨35, 0, .ro, 0⟩]⟩,
   ⟨52, 1, 1, false, [⟨27, 0, .ro, 0⟩]⟩,
   ⟨53, 1, 1, true, [⟨35, 34, .ro, 0⟩, ⟨33, 33, .rw, 0⟩, ⟨16, 0, .rw, 2000⟩]⟩,
   ⟨54, 1, 1, false, [⟨0, 0, .wo, 0⟩]⟩,
   ⟨55, 1, 1, true, [⟨35, 0, .rw, 0⟩]⟩,
   ⟨56, 1, 1, true, [⟨19, 12, .rw, 0⟩, ⟨11, 0, .rw, 0⟩]⟩,
   ⟨64, 1, 1, false, [⟨35, 33, .ro, 0⟩]⟩,
   ⟨65, 1, 1, true, [⟨1, 1, .wo, 0⟩, ⟨0, 0, .wo, 0⟩]⟩,
   ⟨66, 1, 1, true, [⟨35, 35, .wo, 0⟩, ⟨4, 0, .wo, 0⟩]⟩,
   ⟨67, 1, 1, false, [⟨31, 0, .ro, 0⟩]⟩,
   ⟨68, 1, 1, false, [⟨35, 35, .wc, 0⟩, ⟨34, 30, .ro, 0⟩, ⟨29, 27, .ro, 0⟩, ⟨26, 20, .ro, 0⟩]⟩,
   ⟨69, 1, 1, true, [⟨35, 27, .wo, 0⟩]⟩,
   ⟨70, 1, 1, true, [⟨35, 35, .wo, 0⟩, ⟨2, 0, .wo, 0⟩]⟩]

/-- Registers of a PHREF page (Table 9.3). -/
def rowsPhref : List RegRow :=
  [⟨8, 1, 1, false, [⟨8, 1, .rw, 0⟩]⟩,
   ⟨9, 1, 1, false, [⟨8, 1, .wc, 0⟩]⟩,
   ⟨16, 8, 4, true, [⟨35, 33, .rw, 0⟩, ⟨32, 32, .rw, 0⟩, ⟨31, 22, .rw, 0⟩, ⟨19, 17, .rw, 0⟩, ⟨16, 16, .rw, 0⟩, ⟨15, 14, .rw, 1⟩, ⟨13, 8, .rw, 8⟩, ⟨7, 0, .rw, 10⟩]⟩,
   ⟨17, 8, 4, true, [⟨16, 0, .rw, 0⟩]⟩,
   ⟨18, 8, 4, false, [⟨35, 33, .ro, 0⟩, ⟨32, 32, .ro, 0⟩, ⟨31, 20, .ro, 0⟩, ⟨16, 0, .ro, 0⟩]⟩,
   ⟨19, 8, 4, false, [⟨35, 0, .ro, 0⟩]⟩,
   ⟨48, 8, 2, true, [⟨35, 0, .rw, 0⟩]⟩,
   ⟨49, 8, 2, true, [⟨35, 0, .rw, 0⟩]⟩]

/-- Registers of a TTIME page (Table 9.4). -/
def rowsTtime : List RegRow :=
  [⟨4, 1, 1, false, [⟨2, 2, .rw, 0⟩]⟩,
   ⟨5, 1, 1, false, [⟨10, 9, .ro, 0⟩, ⟨8, 8, .ro, 0⟩]⟩,
   ⟨8, 1, 1, false, [⟨1, 1, .rw, 0⟩]⟩,
   ⟨9, 1, 1, false, [⟨1, 1, .wc, 0⟩]⟩,
   ⟨16, 1, 1, false, [⟨35, 0, .ro, 0⟩]⟩,
   ⟨17, 1, 1, false, [⟨35, 0, .ro, 0⟩]⟩,
   ⟨18, 1, 1, true, [⟨35, 0, .rw, 0⟩]⟩,
   ⟨19, 1, 1, false, [⟨35, 0, .wo, 0⟩]⟩,
   ⟨20, 1, 1, false, [⟨35, 0, .wo, 0⟩]⟩,
   ⟨21, 1, 1, false, [⟨17, 0, .ro, 0⟩]⟩]

/-- Registers of a FRZ page (Table 14.13). -/
def rowsFrz : List RegRow :=
  [⟨5, 1, 1, false, [⟨10, 9, .ro, 0⟩, ⟨8, 8, .ro, 0⟩]⟩,
   ⟨8, 1, 1, false, [⟨1, 1, .rw, 0⟩]⟩,
   ⟨9, 1, 1, false, [⟨1, 1, .wc, 0⟩]⟩,
   ⟨16, 1, 1, false, [⟨35, 29, .rw, 0⟩, ⟨28, 27, .rw, 0⟩, ⟨26, 26, .rw, 0⟩]⟩,
   ⟨17, 1, 1, false, [⟨35, 33, .wo, 0⟩, ⟨32, 26, .wo, 0⟩, ⟨25, 24, .wo, 0⟩]⟩,
   ⟨18, 1, 1, false, [⟨35, 32, .ro, 0⟩]⟩,
   ⟨19, 1, 1, false, [⟨35, 29, .rw, 0⟩, ⟨28, 27, .rw, 0⟩, ⟨8, 0, .rw, 0⟩]⟩,
   ⟨20, 1, 1, false, [⟨35, 0, .rw, 0⟩]⟩,
   ⟨21, 1, 1, false, [⟨35, 35, .ro, 0⟩, ⟨34, 34, .ro, 0⟩]⟩,
   ⟨24, 1, 1, false, [⟨35, 35, .wc, 0⟩, ⟨34, 32, .ro, 0⟩, ⟨17, 0, .ro, 0⟩]⟩,
   ⟨64, 76, 1, false, [⟨35, 0, .rw, 0⟩]⟩]

/-- Registers of a CWY page (Table 11.7). -/
def rowsCwy : List RegRow :=
  [⟨16, 1, 1, false, [⟨35, 33, .ro, 0⟩, ⟨32, 29, .ro, 0⟩, ⟨28, 28, .ro, 0⟩, ⟨27, 26, .ro, 0⟩, ⟨25, 25, .ro, 0⟩, ⟨24, 22, .ro, 0⟩, ⟨17, 0, .ro, 0⟩]⟩,
   ⟨17, 1, 1, false, [⟨35, 30, .ro, 16⟩, ⟨29, 23, .ro, 64⟩, ⟨22, 17, .ro, 0⟩, ⟨16, 10, .ro, 0⟩]⟩,
   ⟨18, 1, 1, false, [⟨35, 18, .ro, 0⟩, ⟨17, 0, .ro, 0⟩]⟩,
   ⟨19, 1, 1, false, [⟨17, 0, .ro, 0⟩]⟩,
   ⟨20, 1, 1, true, [⟨3, 0, .rw, 8⟩]⟩,
   ⟨21, 1, 1, false, [⟨35, 0, .ro, 0⟩]⟩,
   ⟨22, 1, 1, false, [⟨27, 0, .ro, 0⟩]⟩]

/-- Registers of a ETH page (Table 11.9). -/
def rowsEth : List RegRow :=
  [⟨4, 1, 1, false, [⟨4, 4, .rw, 0⟩, ⟨3, 3, .rw, 0⟩, ⟨2, 2, .rw, 0⟩]⟩,
   ⟨5, 1, 1, false, [⟨8, 8, .ro, 0⟩]⟩,
   ⟨8, 1, 1, false, [⟨2, 2, .rw, 0⟩, ⟨1, 1, .rw, 0⟩]⟩,
   ⟨9, 1, 1, false, [⟨2, 2, .wc, 0⟩, ⟨1, 1, .wc, 0⟩]⟩,
   ⟨16, 1, 1, true, [⟨29, 0, .rw, 0⟩]⟩,
   ⟨17, 1, 1, true, [⟨29, 0, .rw, 0⟩]⟩,
   ⟨18, 1, 1, true, [⟨7, 0, .rw, 0⟩]⟩,
   ⟨19, 1, 1, false, [⟨29, 0, .rw, 0⟩]⟩,
   ⟨20, 1, 1, false, [⟨3, 0, .rw, 1⟩]⟩,
   ⟨21, 1, 1, false, [⟨0, 0, .wo, 0⟩]⟩,
   ⟨22, 1, 1, false, [⟨29, 0, .rw, 0⟩]⟩,
   ⟨23, 1, 1, false, [⟨3, 0, .rw, 1⟩]⟩,
   ⟨24, 1, 1, false, [⟨0, 0, .wo, 0⟩]⟩,
   ⟨25, 1, 1, true, [⟨23, 0, .rw, 0⟩]⟩,
   ⟨26, 1, 1, true, [⟨23, 0, .rw, 0⟩]⟩,
   ⟨27, 2, 1, false, [⟨31, 0, .rw, 0⟩]⟩,
   ⟨29, 2, 1, true, [⟨35, 0, .rw, 0⟩]⟩,
   ⟨31, 1, 1, false, [⟨35, 18, .ro, 0⟩, ⟨17, 0, .ro, 0⟩]⟩,
   ⟨32, 1, 1, false, [⟨35, 18, .ro, 0⟩, ⟨17, 0, .ro, 0⟩]⟩]

/-- Registers of a PRP page (Table 11.10). -/
def rowsPrp : List RegRow :=
  [⟨4, 1, 1, false, [⟨3, 3, .rw, 0⟩, ⟨2, 2, .rw, 0⟩]⟩,
   ⟨16, 1, 1, true, [⟨35, 18, .rw, 400⟩]⟩,
   ⟨17, 2, 1, false, [⟨15, 0, .ro, 0⟩]⟩,
   ⟨19, 2, 1, false, [⟨35, 18, .ro, 0⟩, ⟨17, 0, .ro, 0⟩]⟩]

/-- Registers of a FLASH page (Table 11.13). -/
def rowsFlash : List RegRow :=
  [⟨2, 1, 1, false, [⟨1, 1, .ro, 0⟩]⟩,
   ⟨4, 1, 1, false, [⟨6, 6, .rw, 0⟩, ⟨5, 4, .rw, 0⟩, ⟨3, 2, .rw, 0⟩]⟩,
   ⟨5, 1, 1, false, [⟨10, 10, .ro, 0⟩, ⟨9, 9, .ro, 0⟩, ⟨8, 8, .ro, 0⟩]⟩,
   ⟨8, 1, 1, false, [⟨1, 1, .rw, 0⟩]⟩,
   ⟨9, 1, 1, false, [⟨1, 1, .wc, 0⟩]⟩,
   ⟨16, 1, 1, true, [⟨29, 0, .rw, 0⟩]⟩,
   ⟨17, 1, 1, true, [⟨29, 0, .rw, 0⟩]⟩,
   ⟨18, 1, 1, true, [⟨7, 0, .rw, 0⟩]⟩,
   ⟨19, 1, 1, false, [⟨35, 33, .wo, 0⟩, ⟨1, 0, .wo, 0⟩]⟩,
   ⟨20, 1, 1, false, [⟨31, 0, .rw, 0⟩]⟩,
   ⟨21, 1, 1, false, [⟨29, 0, .rw, 0⟩]⟩,
   ⟨22, 1, 1, false, [⟨23, 0, .rw, 0⟩]⟩,
   ⟨23, 1, 1, false, [⟨35, 31, .ro, 31⟩]⟩,
   ⟨24, 1, 1, false, [⟨35, 0, .ro, 0⟩]⟩,
   ⟨25, 1, 1, false, [⟨19, 0, .ro, 0⟩]⟩]

/-- Registers of a EMP page (Table 11.15). -/
def rowsEmp : List RegRow :=
  [⟨4, 1, 1, false, [⟨7, 7, .rw, 0⟩, ⟨6, 5, .rw, 0⟩, ⟨4, 3, .rw, 0⟩]⟩,
   ⟨5, 1, 1, false, [⟨9, 9, .ro, 0⟩, ⟨8, 8, .ro, 0⟩]⟩,
   ⟨16, 1, 1, false, [⟨17, 0, .rw, 10⟩]⟩,
   ⟨17, 1, 1, false, [⟨17, 0, .ro, 0⟩]⟩,
   ⟨18, 1, 1, false, [⟨17, 0, .ro, 0⟩]⟩,
   ⟨19, 1, 1, false, [⟨29, 0, .ro, 0⟩]⟩,
   ⟨20, 1, 1, false, [⟨2, 0, .ro, 0⟩]⟩]

/-- The unit-specific registers of a unit type; DEM, REM, BANK and DMA pages have none. -/
def UnitTy.rows (u : UnitTy) : List RegRow :=
  match u with
  | .dsv => rowsDsv
  | .dem => []
  | .pwr => rowsPwr
  | .brg => rowsBrg
  | .reed => rowsReed
  | .reedev => rowsReedev
  | .sedge => rowsSedge
  | .carr => rowsCarr
  | .canfd => rowsCanfd
  | .xbar => rowsXbar
  | .rem => []
  | .swp => rowsSwp
  | .core => rowsCore
  | .mgate => rowsMgate
  | .bank => []
  | .dma => []
  | .cbk => rowsCbk
  | .chan => rowsChan
  | .sluice => rowsSluice
  | .prop => rowsProp
  | .tgate => rowsTgate
  | .pkg => rowsPkg
  | .phref => rowsPhref
  | .ttime => rowsTtime
  | .frz => rowsFrz
  | .cwy => rowsCwy
  | .eth => rowsEth
  | .prp => rowsPrp
  | .flash => rowsFlash
  | .emp => rowsEmp

/-- Whether a row holds the register at an offset. -/
def RegRow.at (r : RegRow) (off : Nat) : Bool :=
  decide (r.off ≤ off) && decide ((off - r.off) % r.stride = 0) && decide ((off - r.off) / r.stride < r.cnt)

/-- The fields of the register at an offset, the common ones first; none where the offset is Reserved (R68). -/
def UnitTy.fields (u : UnitTy) (off : Nat) : List Fld :=
  ((commonRows ++ u.rows).filter (fun r => r.at off)).flatMap (fun r => r.flds)

/-- Whether R82 protects the register at an offset. No register of the FRZ page is lockable (R677). -/
def UnitTy.lockable (u : UnitTy) (off : Nat) : Bool :=
  (u != .frz) && (commonRows ++ u.rows).any (fun r => r.lock && r.at off)

/-- The reset value of the register at an offset. -/
def UnitTy.resetVal (u : UnitTy) (off : Nat) : Word :=
  (u.fields off).foldl (fun w f => w ||| fval f.hi f.lo f.rst) 0

/-- The value a register holds after a software write (R13, R16): RW takes the written bits, WC clears
and WS sets the bits written 1, RO, RC and WO and every bit of no field stay. -/
def applyWrite (fs : List Fld) (old new : Word) : Word :=
  fs.foldl (fun w f =>
    let m := fmask f.hi f.lo
    match f.acc with
    | .rw => (w &&& ~~~m) ||| (new &&& m)
    | .wc => w &&& ~~~(new &&& m)
    | .ws => w ||| (new &&& m)
    | .ro => w
    | .rc => w
    | .wo => w) old

/-- The mask of the bits a read returns: every field but the WO ones, which read 0 (Table 0.6, R15). -/
def readMask (fs : List Fld) : Word :=
  fs.foldl (fun m f => match f.acc with | .wo => m | _ => m ||| fmask f.hi f.lo) 0

/-- The mask of the bits that a write of 1 clears (WC). -/
def wcMask (fs : List Fld) : Word :=
  fs.foldl (fun m f => match f.acc with | .wc => m ||| fmask f.hi f.lo | _ => m) 0

/-- The mask of the bits a read clears (RC). -/
def rcMask (fs : List Fld) : Word :=
  fs.foldl (fun m f => match f.acc with | .rc => m ||| fmask f.hi f.lo | _ => m) 0

end Sys2Proof.Machine
end

