-- ==== Sys2Proof/Machine/Ops.lean ====
section
/-! DEFINITION. The named operations over registers, memory, cores and contexts on which every meaning
rests: which pages and words exist (R54 to R63), the common registers (R79, R80), reads and writes of a
stored word (R26 to R29, R90, R334), and the registers of a context (R144 to R152). -/

namespace Sys2Proof.Machine

/-! ## What a part holds -/

/-- Dies of a part (Table 0.1). -/
def Part.dies (p : Part) : Nat :=
  match p with
  | .tfw2 => 2
  | .tfw4 => 4
  | .tfw8 => 8
  | .tfw8x => 8

/-- External memory ports of a part (Table 0.1). -/
def Part.emps (p : Part) : Nat :=
  match p with
  | .tfw2 => 0
  | .tfw4 => 1
  | .tfw8 => 1
  | .tfw8x => 2

/-- Ethernet ports and Causeway links of a part (Table 0.1). -/
def Part.ports (p : Part) : Nat :=
  match p with
  | .tfw2 => 2
  | .tfw4 => 4
  | .tfw8 => 4
  | .tfw8x => 4

/-- The PKG FEAT_OFFER of a part (Table 2.18, R85). -/
def Part.pkgOffer (p : Part) : Word :=
  match p with
  | .tfw2 => 0x66007#36
  | .tfw4 => 0x1ff21f#36
  | .tfw8 => 0x1ff3ff#36
  | .tfw8x => 0x1fffff#36

/-- The number of a page: DIEF and PAGE (Table 2.3). -/
def pageNo (dief page : Nat) : Nat := dief * 2048 + page

/-- A page of die d (Table 2.4). -/
def diePg (d p : Nat) : Nat := pageNo d p

/-- Page `o` of region g = 4d + r (Table 2.5). -/
def regionPg (g o : Nat) : Nat := pageNo (g / 4) (64 * (1 + g % 4) + o)

/-- The CORE page of core n (R23, Table 2.5). -/
def corePg (n : Nat) : Nat := regionPg (n / 4) (8 + 4 * (n % 4))

/-- The MGATE page of block n. -/
def mgatePg (n : Nat) : Nat := regionPg (n / 4) (9 + 4 * (n % 4))

/-- The BANK page of block n. -/
def bankPg (n : Nat) : Nat := regionPg (n / 4) (10 + 4 * (n % 4))

/-- The block DMA page of block n. -/
def dmaPg (n : Nat) : Nat := regionPg (n / 4) (11 + 4 * (n % 4))

/-- A package-unit page (Table 2.6). -/
def pkgPg (p : Nat) : Nat := pageNo 8 p

/-- The die services page of a die. -/
def dsvPg (d : Nat) : Nat := diePg d 0

/-- The unit of a region page by its offset (Table 2.5). -/
def unitOfRegion (p : Part) (o : Nat) : Option UnitTy :=
  if o = 0 then some .xbar else if o = 1 then some .rem else if o = 2 then some .swp
  else if 8 ≤ o ∧ o < 24 then
    (if o % 4 = 0 then some .core else if o % 4 = 1 then some .mgate else if o % 4 = 2 then some .bank
     else some .dma)
  else if o = 32 then some .cbk
  else if 33 ≤ o ∧ o ≤ 35 then some .chan
  else if o = 36 then some .sluice
  else if o = 37 ∨ o = 38 then some .prop
  else if o = 39 then (if p = .tfw8x then some .prop else none)
  else if o = 40 then some .tgate
  else none

/-- The unit of a package-unit page (Table 2.6). -/
def unitOfPkg (p : Part) (q : Nat) : Option UnitTy :=
  if q = 0 then some .pkg else if q = 1 then some .phref else if q = 2 then some .ttime
  else if q = 3 then some .frz
  else if 8 ≤ q ∧ q < 8 + p.ports then some .cwy
  else if 16 ≤ q ∧ q < 16 + p.ports then some .eth
  else if q = 20 then (if p = .tfw2 then none else some .prp)
  else if q = 24 ∨ q = 25 then some .flash
  else if 32 ≤ q ∧ q < 32 + p.emps then some .emp
  else none

/-- The unit of a page that a part populates (R63). -/
def unitOf (p : Part) (pg : Nat) : Option UnitTy :=
  let d := pg / 2048
  let q := pg % 2048
  if d < p.dies then
    (if q = 0 then some .dsv else if q = 1 then some .dem else if q = 2 then some .pwr
     else if q = 3 then some .brg else if q = 4 then some .reed else if q = 5 then some .reedev
     else if q = 6 then some .sedge else if q = 7 then some .carr else if q = 8 then some .canfd
     else if 64 ≤ q ∧ q < 320 then unitOfRegion p (q % 64) else none)
  else if d = 8 then unitOfPkg p q
  else none

/-! ## Registers -/

/-- The reset value of a register by its key (page number × 512 + offset). -/
def regDefault (k : Nat) : Word :=
  match unitOf .tfw8x (k / 512) with
  | some u => u.resetVal (k % 512)
  | none => 0

/-- The stored word of a register. -/
def rget (s : State) (pg off : Nat) : Word := kget regDefault s.regs (pg * 512 + off)

/-- Writes the stored word of a register. -/
def rset (s : State) (pg off : Nat) (v : Word) : State :=
  { s with regs := kset regDefault s.regs (pg * 512 + off) v }

/-- A field of a register. -/
def rfld (s : State) (pg off hi lo : Nat) : Nat := fld (rget s pg off) hi lo

/-- Writes a field of a register. -/
def rsetf (s : State) (pg off hi lo v : Nat) : State := rset s pg off (setFld (rget s pg off) hi lo v)

/-- Adds one to a saturating count. -/
def rinc (s : State) (pg off hi lo : Nat) : State := rset s pg off (incSat (rget s pg off) hi lo)

/-- What hardware events have set or counted in a register in the present fabric cycle; 0 where none has (R17). -/
def evNow (s : State) (pg off : Nat) : Word := if s.evTick = s.ticks then kget (fun _ => 0) s.events (pg * 512 + off) else 0

/-- Replaces what hardware events have set or counted in a register in the present fabric cycle (R17). -/
def evPut (s : State) (pg off : Nat) (w : Word) : State :=
  { s with evTick := s.ticks, events := kset (fun _ => 0) (if s.evTick = s.ticks then s.events else []) (pg * 512 + off) w }

/-- One more event of a register in the present fabric cycle. -/
def evCount (s : State) (pg off : Nat) : State := evPut s pg off (evNow s pg off + 1)

/-- Sets a pending interrupt source of a page. -/
def irqPend (s : State) (pg b : Nat) : State :=
  let s1 := evPut s pg 9 (setBit (evNow s pg 9) b true)
  rset s1 pg 9 (setBit (rget s1 pg 9) b true)

/-- An error of a page: captured when no first error is held, counted always (R79, R80). -/
def capture (s : State) (pg cause info : Nat) : State :=
  let w := fval 35 35 1 ||| fval 34 30 cause ||| fval 29 0 info
  let s0 := evPut s pg 7 (incSat (evNow s pg 7) 17 0)
  let s1 := rinc (if bit (evNow s0 pg 6) 35 then s0 else evPut s0 pg 6 w) pg 7 17 0
  if bit (rget s pg 6) 35 then s1 else irqPend (rset s1 pg 6 w) pg 0

/-- ERR_FIRST.V is cleared: an error of the same fabric cycle is then captured as the new first error (R17, R79, R80), with the
request words of a gate (R401). -/
def errRelease (s : State) (pg : Nat) : State :=
  let w := evNow s pg 6
  if bit w 35 then
    let s1 := irqPend (rset s pg 6 w) pg 0
    if unitOf s.part pg = some .mgate ∨ unitOf s.part pg = some .tgate then
      rset (rset s1 pg 16 (evNow s pg 16)) pg 17 (evNow s pg 17)
    else s1
  else rset s pg 6 (setBit (rget s pg 6) 35 false)

/-- Whether the page drives its interrupt line (R81). -/
def pageDrives (s : State) (pg : Nat) : Bool := decide (rget s pg 9 &&& rget s pg 8 ≠ 0)

/-- Whether the page is locked (R82); no register of the FRZ page is lockable (R677). -/
def locked (s : State) (pg : Nat) : Bool := bit (rget s pg 10) 0 && decide (pg ≠ pkgPg 3)

/-- The address of a register of this package (Table 2.3), which a capture of a common cause holds. -/
def regAddr (pg off : Nat) : Nat := 134217728 + pg * 512 + off

/-- An error captured with the address of the register it concerns (Table 2.14). -/
def captureAt (s : State) (pg cause off : Nat) : State := capture s pg cause (regAddr pg off)

/-- Sets STAT.REFUSE and captures cause 2 (R73, R76). -/
def refuseFeature (s : State) (pg off : Nat) : State :=
  captureAt (evPut (rset s pg 5 (setBit (rget s pg 5) 2 true)) pg 5 (fval 2 2 1)) pg 2 off

/-- A write to a lockable register: refused with cause 1 while the page is locked (R82). -/
def unlessLocked (s : State) (pg off : Nat) (f : State → State) : State :=
  if locked s pg then captureAt s pg 1 off else f s

/-- A free value of w bits, and the state that has used it (notes/assumptions/4.md). -/
def freeTake (s : State) : Nat × State := (s.fresh, { s with fresh := s.fresh + 1 })

/-! ## Domains -/

/-- The key of domain i of die d (Table 13.1). -/
def domKey (d i : Nat) : Nat := d * 64 + i

/-- The domain of a page (Table 13.1, Table 13.2). -/
def domOfPage (pg : Nat) : Nat :=
  let d := pg / 2048
  let q := pg % 2048
  if d < 8 then
    if 64 ≤ q then
      let r := q / 64 - 1
      let o := q % 64
      if o < 3 then domKey d (36 + r)
      else if o < 32 then
        (if o % 4 = 2 then domKey d (16 + 4 * r + (o - 8) / 4) else domKey d (4 * r + (o - 8) / 4))
      else domKey d (32 + r)
    else if q = 3 then domKey d 42
    else if q = 4 ∨ q = 5 then domKey d 40
    else if q = 8 then domKey d 43
    else domKey d 41
  else if q = 1 ∨ q = 2 then domKey 0 40
  else if 8 ≤ q ∧ q < 16 then 512 + 2 + (q - 8)
  else if 16 ≤ q ∧ q ≤ 20 then 518
  else if 32 ≤ q then 512 + (q - 32)
  else domKey 0 43

/-- A domain's record. -/
def dom (s : State) (k : Nat) : Dom := kget (fun _ => Dom.init) s.doms k

/-- Writes a domain's record. -/
def setDom (s : State) (k : Nat) (d : Dom) : State := { s with doms := kset (fun _ => Dom.init) s.doms k d }

/-- The domain is in Run, Trim or Hold and out of reset: its units work. -/
def domUp (s : State) (k : Nat) : Bool :=
  let d := dom s k
  !d.held && (d.st == .run || d.st == .trim || d.st == .hold)

/-- The domain answers no access: in Retain or Off, held in reset, or draining (R70, R618). -/
def domDown (s : State) (k : Nat) : Bool := !domUp s k || (dom s k).drain.isSome

/-- The core's domain is in Run or Trim and out of reset: its clock runs, also while the domain drains (Table 13.3, R257, R618). -/
def coreCounts (s : State) (n : Nat) : Bool :=
  let d := dom s (domKey (n / 16) (n % 16))
  !d.held && (d.st == .run || d.st == .trim)

/-- The core's domain lets it issue: Run or Trim, out of reset, not draining (Table 13.3, R618). -/
def coreRuns (s : State) (n : Nat) : Bool := coreCounts s n && (dom s (domKey (n / 16) (n % 16))).drain.isNone

/-- What Trim multiplies the cycle counts of a core by (R622, Table 13.11). -/
def trimScale (s : State) (n : Nat) : Nat :=
  let d := dom s (domKey (n / 16) (n % 16))
  if d.st = .trim then 2 ^ (min d.clkdiv 2 + 1) else 1

/-! ## Isolation and reach -/

/-- Region g = 4d + r is isolated (R47, R48), or its die is in a die reset (R634). -/
def isolatedRegion (s : State) (g : Nat) : Bool := s.isol.getLsbD g || s.dieRst.contains (g / 4)

/-- How an address answers a request; `parity`: its block's port finds the parity of the request wrong (R35). -/
inductive Reach where
  | ok | unpopulated | isolated | down | parity
  deriving DecidableEq, Repr

/-- The size in words of an external memory port's range (R576). -/
def empWords (dens : Nat) : Nat :=
  if dens = 1 then 67108864 else if dens = 2 then 134217728 else if dens = 3 then 268435456 else 0

/-- The state of an external memory port. -/
def emp (s : State) (i : Nat) : Emp := kget (fun _ => Emp.init) s.emps i

/-- The reach of a physical word address of a memory space (R54 to R57, R48, R618), the parity at its block's port apart. -/
def unitReach (s : State) (pa : Nat) : Reach :=
  let sp := pa / 134217728
  if sp = 0 then
    if pa / 1048576 < s.part.dies then
      (if isolatedRegion s (pa / 262144) then .isolated
       else if domDown s (domKey (pa / 1048576) (16 + pa / 65536 % 16)) then .down else .ok)
    else .unpopulated
  else if sp < 4 then .unpopulated
  else
    let i := (sp - 4) / 2
    let e := emp s i
    if i < s.part.emps ∧ e.trained = true ∧ pa % 268435456 < empWords e.dens then
      (if domDown s (512 + i) then .down else .ok)
    else .unpopulated

/-- Whether an address lies in a bank of the part. -/
def inBanks (s : State) (pa : Nat) : Bool := decide (pa / 65536 < 16 * s.part.dies)

/-- The reach of a request to a physical word address: at a bank that answers, the port of its block checks its parity (R35). -/
def memReach (s : State) (pa : Nat) : Reach :=
  match unitReach s pa with
  | .ok => if inBanks s pa && s.badPorts.contains (pa / 65536) then .parity else .ok
  | r => r

/-- The reach of a page. -/
def pageReach (s : State) (pg : Nat) : Reach :=
  match unitOf s.part pg with
  | none => .unpopulated
  | some _ =>
    let d := pg / 2048
    let q := pg % 2048
    if d < 8 ∧ (s.dieRst.contains d || (decide (64 ≤ q) && s.isol.getLsbD (4 * d + q / 64 - 1))) = true then .isolated
    else if domDown s (domOfPage pg) then .down
    else .ok

/-- The block port at which a request for a page arrives: of a core block, or of the channel block of region g (128 + g); a page of
another unit has none (R35, Table 2.5). -/
def portOfPage (pg : Nat) : Option Nat :=
  let g := 4 * (pg / 2048) + pg % 2048 / 64 - 1
  let o := pg % 64
  if pg / 2048 < 8 ∧ 64 ≤ pg % 2048 then
    (if 8 ≤ o ∧ o < 24 then some (4 * g + (o - 8) / 4) else if 32 ≤ o then some (128 + g) else none)
  else none

/-- The reach of a request for a page: at a block that answers, its port checks the parity of the request (R35). -/
def portReach (s : State) (pg : Nat) : Reach :=
  match pageReach s pg, portOfPage pg with
  | .ok, some p => if s.badPorts.contains p then .parity else .ok
  | r, _ => r

/-- The block port of the address of a request, and the page where its block keeps ERR_FIRST and ERR_COUNT of its port: BANK of a
core block, CBK of a channel block. R35 names no page (DESIGN CHOICE, notes/assumptions/78.md). -/
def portOf (pa : Nat) : Option (Nat × Nat) :=
  if pa / 134217728 = 0 then some (pa / 65536, bankPg (pa / 65536))
  else (portOfPage (pa / 512 % 32768)).map (fun p => (p, if p < 128 then bankPg p else regionPg (p - 128) 32))

/-- A request that fails the parity check of a block's port (R35): it is discarded, and its block captures and counts it. The spec
numbers no cause (notes/assumptions/78.md). -/
def portParity (s : State) (pa : Nat) : State :=
  match portOf pa with
  | some (p, pg) =>
    capture { s with fresh := s.fresh + 1, badPorts := s.badPorts.filter (fun q => q != p) } pg (Config.freeValue 5 s.fresh).toNat pa
  | none => s

/-- The cause of the bus error of a request that fails the parity check of a port, which the spec does not number
(notes/assumptions/78.md). -/
def parityCause (s : State) : Nat × State := ((Config.freeValue 6 s.fresh).toNat, { s with fresh := s.fresh + 1 })

/-- Records an access that reached nothing, or a powered-down unit, at the die services of the requester's
die (R59, R70). -/
def dsvRecord (s : State) (die cause pa : Nat) : State := capture s (dsvPg die) cause pa

/-- The record of an access that reached nothing at a unit of the fabric: the unpopulated and powered-down
ones go to die services (R59, R70); an isolation error is answered by the die error manager and recorded by
no rule. -/
def reachRecord (s : State) (die pa : Nat) (r : Reach) : State :=
  match r with
  | .ok => s
  | .unpopulated => dsvRecord s die 5 pa
  | .isolated => s
  | .down => dsvRecord s die 3 pa
  | .parity => portParity s pa

/-- The record of an access of the device itself that memory does not answer (R57, R59, R70), for the die that made it. An address
of the register page space is no memory address (notes/assumptions/13.md); the access is recorded where it reaches no page, or one
that answers nothing. -/
def memMiss (s : State) (die a : Nat) : State :=
  reachRecord s die a (if a / 134217728 = 1 then
    (if a / 16777216 % 8 = 0 ∨ a / 16777216 % 8 = 4 + s.stack.pos.toNat then portReach s (a / 512 % 32768) else .unpopulated)
    else memReach s a)

/-! ## Stored words -/

/-- What an unlisted word reads as: 0 untagged (Table 13.7; notes/assumptions/6.md). -/
def memDefault (_ : Nat) : MemWord := { data := 0, tag := false, ecc := .good }

/-- The stored word at a physical address. -/
def mget (s : State) (a : Nat) : MemWord := kget memDefault s.mem a

/-- Replaces the stored word at a physical address. -/
def mset (s : State) (a : Nat) (w : MemWord) : State := { s with mem := kset memDefault s.mem a w }

/-- The external memory port of an address, as its page. -/
def empPgOf (a : Nat) : Option Nat := if 4 ≤ a / 134217728 then some (pkgPg (32 + (a / 134217728 - 4) / 2)) else none

/-- A single error that an external memory port corrects is counted (R578). -/
def eccCorrected (s : State) (a : Nat) : State :=
  match empPgOf a with
  | some pg => rset (rinc s pg 17 17 0) pg 19 (fval 29 0 a)
  | none => s

/-- An uncorrectable error of an external memory port is counted and captured (R578). -/
def eccLost (s : State) (a : Nat) : State :=
  match empPgOf a with
  | some pg => capture (rinc s pg 18 17 0) pg 9 a
  | none => s

/-- A corrected word waits for its write-back (R26). -/
def queueWriteback (s : State) (a : Nat) : State :=
  if s.eccWb.contains a then s else { s with eccWb := s.eccWb ++ [a] }

/-- A read of a stored word: its data and tag with a single error corrected and its write-back queued (R26),
none on a double error (R28, R29). -/
def memRead (s : State) (a : Nat) : Option (Word × Bool) × State :=
  let w := mget s a
  match w.ecc with
  | .good => (some (w.data, w.tag), s)
  | .single => (some (w.data, w.tag), eccCorrected (queueWriteback s a) a)
  | .double => (none, eccLost s a)

/-- Whether the word lies in a page that a bank has marked (R333). -/
def marked (s : State) (a : Nat) : Bool := decide (0 < kget (fun _ => 0) s.marks (a / 1024))

/-- The word a write of `new` leaves in a marked page (R334). -/
def markedMerge (old new : Word) : Word :=
  if bit old 33 then setFld (setFld new 35 33 (fld old 35 33)) 29 10 (fld old 29 10)
  else if bit new 33 then setFld new 35 34 0
  else new

/-- Whether a write to a marked page is counted as a discard: R334 kept the MNG or the PFN of the word from it (R335,
notes/assumptions/71.md). -/
def markedDiscard (old new : Word) : Bool :=
  bit old 33 && (!bit new 33 || decide (fld new 29 10 ≠ fld old 29 10))

/-- A requester's write of the bits of `mask` of a stored word, with its tag (R90, R27, R334, R335). The
caller has made every check, a double error under a partial write included. -/
def memWrite (s : State) (a : Nat) (data mask : Word) (tag : Bool) : State :=
  let old := (mget s a).data
  let new := (old &&& ~~~mask) ||| (data &&& mask)
  let s1 := { s with eccWb := s.eccWb.filter (fun b => b != a) }
  if marked s a then
    let s2 := mset s1 a { data := markedMerge old new, tag := false, ecc := .good }
    if markedDiscard old new then
      let pg := diePg (a / 1048576) 6
      capture (rinc s2 pg 32 17 0) pg 8 a
    else s2
  else mset s1 a { data := new, tag := tag, ecc := .good }

/-- A device agent's write of a whole word (Table 3.9). -/
def memPut (s : State) (a : Nat) (data : Word) (tag : Bool) : State := memWrite s a data (~~~0) tag

/-! ## Cores and contexts -/

/-- The core block n. -/
def coreAt (s : State) (n : Nat) : Core := kget (fun _ => Core.init) s.cores n

/-- Writes a core block. -/
def setCore (s : State) (n : Nat) (c : Core) : State := { s with cores := kset (fun _ => Core.init) s.cores n c }

/-- Context h of a core block. -/
def Core.ctx (c : Core) (h : Nat) : Ctx := kget (fun _ => Ctx.init) c.ctxs h

/-- Writes a context of a core block. -/
def Core.setCtx (c : Core) (h : Nat) (x : Ctx) : Core := { c with ctxs := kset (fun _ => Ctx.init) c.ctxs h x }

/-- Context h of core n. -/
def ctxAt (s : State) (n h : Nat) : Ctx := (coreAt s n).ctx h

/-- Writes context h of core n. -/
def setCtx (s : State) (n h : Nat) (x : Ctx) : State := setCore s n ((coreAt s n).setCtx h x)

/-- The cores of the part, in order. -/
def coreNos (s : State) : List Nat := List.range (16 * s.part.dies)

/-! ## PSW and WIN fields (Table 4.5, Table 4.6) -/

/-- PSW.COMP. -/
def Ctx.comp (x : Ctx) : Nat := fld x.psw 29 22
/-- PSW.FB. -/
def Ctx.fb (x : Ctx) : Bool := bit x.psw 4
/-- PSW.PRIV. -/
def Ctx.priv (x : Ctx) : Nat := fld x.psw 1 0
/-- WIN.CWP. -/
def Ctx.cwp (x : Ctx) : Nat := fld x.win 2 0
/-- WIN.HWM. -/
def Ctx.hwm (x : Ctx) : Nat := fld x.win 5 3
/-- RSM_0.KIND (Table 4.17). -/
def Ctx.rsmKind (x : Ctx) : Nat := fld x.rsm0 35 33
/-- SSP.ADDR (Table 6.7). -/
def Ctx.sspAddr (x : Ctx) : Nat := fld x.ssp 29 0
/-- SSP.LIM (Table 6.7). -/
def Ctx.sspLim (x : Ctx) : Nat := fld x.ssp 35 30

/-- The PSW as read: CTX is the context, PROOF the safety run state (Table 4.5, R213). -/
def pswOf (s : State) (h : Nat) (x : Ctx) : Word :=
  setFld (setBit x.psw 5 (s.safety == .proof)) 21 20 h

/-- The active task-state pointer (R275). -/
def Ctx.tsp (x : Ctx) : Cap := if x.setB then x.tspB else x.tspA

/-- The inactive task-state pointer. -/
def Ctx.tspOther (x : Ctx) : Cap := if x.setB then x.tspA else x.tspB

/-- Writes the active task-state pointer. -/
def Ctx.setTsp (x : Ctx) (c : Cap) : Ctx := if x.setB then { x with tspB := c } else { x with tspA := c }

/-- Writes the inactive task-state pointer. -/
def Ctx.setTspOther (x : Ctx) (c : Cap) : Ctx := if x.setB then { x with tspA := c } else { x with tspB := c }

/-! ## Registers of a context (R144 to R152) -/

/-- The physical register that Wk names: 0-7 global, 8-199 windowed, 200-223 fault bank. -/
def Ctx.wIdx (x : Ctx) (k : Nat) : Nat :=
  if k < 8 then k else if x.fb then 192 + k else 24 * x.cwp + k

/-- The physical register that Ck names: 0-7 global, 8-71 windowed. -/
def Ctx.cIdx (x : Ctx) (k : Nat) : Nat := if k < 8 then k else 8 * x.cwp + k

/-- Reads a physical word register; W0 reads 0 (R144). -/
def Ctx.wphys (x : Ctx) (i : Nat) : Word := if i = 0 then 0 else kget (fun _ => 0) x.w i

/-- Writes a physical word register; a write to W0 is discarded (R144). -/
def Ctx.wphysSet (x : Ctx) (i : Nat) (v : Word) : Ctx :=
  if i = 0 then x else { x with w := kset (fun _ => 0) x.w i v }

/-- Reads Wk. -/
def Ctx.wr (x : Ctx) (k : Nat) : Word := x.wphys (x.wIdx k)

/-- Writes Wk. -/
def Ctx.setW (x : Ctx) (k : Nat) (v : Word) : Ctx := x.wphysSet (x.wIdx k) v

/-- Reads a physical capability register; C0 is null (R105). -/
def Ctx.cphys (x : Ctx) (i : Nat) : Cap := if i = 0 then Cap.null else kget (fun _ => Cap.null) x.c i

/-- Writes a physical capability register; a write to C0 is ignored (R105). -/
def Ctx.cphysSet (x : Ctx) (i : Nat) (v : Cap) : Ctx :=
  if i = 0 then x else { x with c := kset (fun _ => Cap.null) x.c i v }

/-- Reads Ck. -/
def Ctx.cr (x : Ctx) (k : Nat) : Cap := x.cphys (x.cIdx k)

/-- Writes Ck. -/
def Ctx.setC (x : Ctx) (k : Nat) (v : Cap) : Ctx := x.cphysSet (x.cIdx k) v

/-- Reads Qk; Q0 reads 1 (R144). -/
def Ctx.qr (x : Ctx) (k : Nat) : Bool := if k = 0 then true else x.q.getLsbD k

/-- Writes Qk; a write to Q0 is discarded (R144). -/
def Ctx.setQ (x : Ctx) (k : Nat) (v : Bool) : Ctx :=
  if k = 0 then x
  else { x with q := BitVec.ofNat 8 ((x.q.toNat / 2 ^ (k + 1)) * 2 ^ (k + 1) + bnat v * 2 ^ k + x.q.toNat % 2 ^ k) }

/-- The predicates in the form of QTOW: bit 0 is 1 (Table 4.10). -/
def Ctx.qw (x : Ctx) : Word := BitVec.ofNat 36 ((x.q.toNat / 2) * 2 + 1)

/-- Sets Q1 to Q7 from bits [7:1] of a word (WTOQ). -/
def Ctx.setQw (x : Ctx) (v : Word) : Ctx := { x with q := BitVec.ofNat 8 ((v.toNat / 2 % 128) * 2) }

/-! ## Performance counters of a core (R256, R257) -/

/-- Adds k to a counter of Table 5.11 for an event of context h: while PMCTL.STOP is 0, the domain is in Run
or Trim, and CTXEN does not select another context. -/
def perf (s : State) (n h off k : Nat) : State :=
  let pm := rget s (corePg n) 64
  if bit pm 4 || (bit pm 7 && decide (fld pm 6 5 ≠ h)) || !coreCounts s n then s
  else evPut (rset s (corePg n) off (rget s (corePg n) off + BitVec.ofNat 36 k)) (corePg n) off
    (evNow s (corePg n) off + BitVec.ofNat 36 k)

/-- The debug state in force (R656): 0 Closed, 1 Observe, 2 Halt, 3 Full. -/
def dbgState (s : State) : Nat :=
  match s.carr.token with
  | some t => t.state
  | none => if s.lcs = .blank then 3 else 0

/-! ## The internal monad of an instruction -/

/-- A fault or trap to be entered: vector, CAUSE, FADDR, FAUX (Table 6.1), FINFO.COMP where it is not the
running compartment (R296), and whether it returns to the instruction after it (TRAP, Table 6.1). -/
structure Trap where
  vec : Nat
  cause : Nat
  faddr : Nat
  faux : Word
  comp : Option Nat := none
  after : Bool := false
  deriving DecidableEq, Repr

/-- Why an instruction does not complete: it faults, it must wait and is sent again, it stops with its progress
recorded for a due interrupt (R204), or the package enters Mire. -/
inductive Stop where
  | trap (t : Trap)
  | wait
  | irq
  | mire (cause : Nat)
  deriving DecidableEq, Repr

/-- A computation over the State that may stop. -/
abbrev X := EStateM Stop State

/-- Raises a fault. -/
def fault {α : Type} (vec cause faddr : Nat) (faux : Word) : X α :=
  throw (.trap { vec := vec, cause := cause, faddr := faddr, faux := faux })

/-- Changes the State. -/
def upd (f : State → State) : X Unit := modify f

/-- Runs a State function that also answers a value. -/
def act {α : Type} (f : State → α × State) : X α := do
  let s ← get
  let r := f s
  set r.2
  return r.1

/-- The outcome of a total change of the State. -/
def done (s : State) : Host.Outcome State Fault Refusal := .next s

end Sys2Proof.Machine
end

