-- ==== Sys2Proof/Machine/Flags.lean ====
section
/-! DEFINITION. The flag and predicate computations: signed overflow (R168, R169), the comparisons of
Table 4.10, and PSW.AOV (Table 4.5). -/

namespace Sys2Proof.Machine

/-- An exact result lies outside the signed range of 36 bits (R168, R169). -/
def overflows (x : Int) : Bool := decide (x < -(2 ^ 35 : Int)) || decide ((2 ^ 35 : Int) ≤ x)

/-- Sets PSW.AOV when the exact result overflows, and otherwise leaves it (R169). -/
def Ctx.setAov (c : Ctx) (x : Int) : Ctx := if overflows x then { c with psw := setBit c.psw 7 true } else c

/-- Signed less-than of two words. -/
def slt (a b : Word) : Bool := decide (sval a < sval b)

/-- Signed less-or-equal of two words. -/
def sle (a b : Word) : Bool := decide (sval a ≤ sval b)

/-- Unsigned less-than of two words (R172). -/
def ult (a b : Word) : Bool := decide (a.toNat < b.toNat)

/-- Unsigned less-or-equal of two words (R172). -/
def ule (a b : Word) : Bool := decide (a.toNat ≤ b.toNat)

end Sys2Proof.Machine
end

