-- ==== Sys2Proof/Machine/Operands.lean ====
section
/-! DEFINITION. The operand forms: instruction words (R161, R164, R166), immediates and displacements
(Table 4.13), parts of a word (R184 to R186), the integer operations of Table 4.9, and the registers an
instruction word reads and writes (R222, R215). -/

namespace Sys2Proof.Machine

/-! ## Instruction words (Table 4.7) -/

/-- The guard, negate and major fields. -/
def encHead (i : Iss) (major : Nat) : Word :=
  fval 35 33 i.q.toNat ||| fval 32 32 (bnat i.neg) ||| fval 31 26 major

/-- A register-format word. -/
def encR (i : Iss) (major d a b fn : Nat) : Word :=
  encHead i major ||| fval 25 21 d ||| fval 20 16 a ||| fval 15 11 b ||| fval 10 0 fn

/-- An immediate-format word. -/
def encI (i : Iss) (major d a imm : Nat) : Word :=
  encHead i major ||| fval 25 21 d ||| fval 20 16 a ||| fval 15 0 imm

/-- A branch-format word. -/
def encB (i : Iss) (major off : Nat) : Word := encHead i major ||| fval 25 0 off

/-- The major opcode of a word (R166). -/
def majorOf (w : Word) : Nat := fld w 31 26

/-- The functions listed for the majors of row 0 and JMP (Table 4.9, Table 4.10, Table 4.11, Table 4.14,
Table 4.16, Table 4.18). -/
def listedFunctions (major : Nat) : List Nat :=
  if major = 0 then [1, 2, 3, 4, 8, 9, 10, 11, 12, 16, 17, 18, 19, 24, 25, 26, 27, 32, 33, 34, 35]
  else if major = 1 then [1, 2, 8, 9, 10, 16, 17, 24, 25, 26]
  else if major = 2 then [1, 2, 3, 4, 5, 6]
  else if major = 3 then [1, 2, 3, 4, 5, 6, 7]
  else if major = 4 then [0, 1, 2, 3, 4, 8, 9, 10, 16, 17, 18, 24, 25, 32, 40, 41, 42]
  else if major = 5 then [1, 2, 3, 4, 5, 6, 7, 8, 9, 10, 16, 17, 18, 19, 20, 24, 25, 26, 27, 32, 33]
  else if major = 36 then [1, 2, 3, 4, 5, 6]
  else []

/-- The fields (d, a, b) that a row of a register-format major marks 0, by function. -/
def zeroFields (major fn : Nat) : Bool × Bool × Bool :=
  if major = 0 then (false, false, decide (32 ≤ fn))
  else if major = 1 then
    (decide (fn = 1 ∨ fn = 2 ∨ fn = 10 ∨ fn = 16 ∨ fn = 17 ∨ fn = 26), decide (fn = 8 ∨ fn = 9 ∨ fn = 24 ∨ fn = 25),
     decide (fn = 8 ∨ fn = 9 ∨ fn = 24 ∨ fn = 25))
  else if major = 3 then (decide (fn = 7), decide (fn = 6), decide (5 ≤ fn))
  else if major = 4 then
    (!decide (fn = 1 ∨ fn = 3), !decide (fn = 2 ∨ fn = 4 ∨ fn = 18 ∨ fn = 40), !decide (1 ≤ fn ∧ fn ≤ 4 ∨ fn = 8))
  else if major = 5 then
    (decide (fn = 27), decide (fn = 10), decide (fn ≤ 10 ∨ fn = 32 ∨ fn = 33))
  else if major = 36 then (true, decide (fn = 4 ∨ fn = 5), true)
  else (false, false, false)

/-- The fields (d, a, b) that name a capability register. -/
def capFields (major fn : Nat) : Bool × Bool × Bool :=
  if major = 4 then (decide (fn = 3), decide (fn = 4 ∨ fn = 18), false)
  else if major = 5 then
    (decide (8 ≤ fn ∧ fn ≤ 26), decide (fn ≤ 9 ∨ (16 ≤ fn ∧ fn ≤ 27)), decide (fn = 24 ∨ fn = 25 ∨ fn = 27))
  else if major = 6 ∨ major = 7 then (false, true, false)
  else if major = 36 then (false, decide (fn = 6), false)
  else if major = 31 then (true, true, false)
  else if 16 ≤ major ∧ major ≤ 21 then (false, true, false)
  else if 24 ≤ major ∧ major ≤ 27 then (false, true, false)
  else if 28 ≤ major ∧ major ≤ 30 then (true, true, false)
  else (false, false, false)

/-- The fields (d, a, b) that name a predicate; CMPI names it with d[2:0] alone and is not listed (R164). -/
def predFields (major fn : Nat) : Bool × Bool × Bool :=
  if major = 2 then (true, false, false)
  else if major = 3 then (decide (fn ≤ 5), decide (fn ≤ 4), decide (fn ≤ 4))
  else (false, false, false)

/-- Whether a word is a reserved encoding (R164). -/
def reserved (w : Word) : Bool :=
  let m := majorOf w
  let d := fld w 25 21
  let a := fld w 20 16
  let b := fld w 15 11
  let fn := fld w 10 0
  let row0 := decide (m ≤ 5) || decide (m = 36)
  let z := zeroFields m fn
  let c := capFields m fn
  let p := predFields m fn
  decide (m = 23) || decide (37 ≤ m) ||
  (row0 && !(listedFunctions m).contains fn) ||
  (row0 && ((z.1 && decide (d ≠ 0)) || (z.2.1 && decide (a ≠ 0)) || (z.2.2 && decide (b ≠ 0)))) ||
  (decide (m = 4 ∧ fn = 8) && decide (7 < b)) ||
  (decide (m = 6 ∨ m = 7) && decide (d ≠ 0)) ||
  (decide (m = 31) && decide (fn ≠ 0)) ||
  (decide (m = 12) && decide (fld w 15 8 ≠ 0)) ||
  (decide (m = 13 ∨ m = 14) && decide (fld w 20 18 ≠ 0)) ||
  (decide (m = 35) && decide (fld w 25 3 ≠ 0)) ||
  ((c.1 && decide (16 ≤ d)) || (c.2.1 && decide (16 ≤ a)) || (c.2.2 && decide (16 ≤ b))) ||
  ((p.1 && decide (8 ≤ d)) || (p.2.1 && decide (8 ≤ a)) || (p.2.2 && decide (8 ≤ b)))

/-! ## Immediates and parts of a word -/

/-- A sign-extended immediate of n bits, as a number. -/
def simm {n : Nat} (v : BitVec n) : Int := v.toInt

/-- A sign-extended immediate as a word. -/
def sximm {n : Nat} (v : BitVec n) : Word := v.signExtend 36

/-- Part k of a word, of `wd` bits (a half of 18 or a nonet of 9; Table 4.13). -/
def part (w : Word) (wd k : Nat) : Nat := fld w (wd * k + wd - 1) (wd * k)

/-- The mask of part k. -/
def partMask (wd k : Nat) : Word := fmask (wd * k + wd - 1) (wd * k)

/-- A part sign-extended to a word. -/
def sxpart (wd v : Nat) : Word := wordOfInt (signed wd v)

/-- The exclusive OR of the low eight bits of a nonet (R8). -/
def octParity (v : Nat) : Nat := ((List.range 8).foldl (fun p i => p + v / 2 ^ i % 2) 0) % 2

/-- A nonet with its parity bit for an octet (R8, R186). -/
def packOctet (v : Nat) : Nat := v % 256 + 256 * octParity v

/-- Whether the ninth bit of a nonet matches its octet (R9, R185). -/
def octetGood (nonet : Nat) : Bool := decide (nonet / 256 % 2 = octParity nonet)

/-! ## Integer operations (Table 4.9, R170) -/

/-- SHL, R170. -/
def shlW (a : Word) (n : Nat) : Word := if n < 36 then a <<< n else 0
/-- SHR, R170. -/
def shrW (a : Word) (n : Nat) : Word := if n < 36 then a >>> n else 0
/-- SAR, R170. -/
def sarW (a : Word) (n : Nat) : Word := a.sshiftRight (if n < 36 then n else 36)
/-- ROL, R170. -/
def rolW (a : Word) (n : Nat) : Word := a.rotateLeft (n % 36)

/-- The shift of SHI that imm[7:6] selects (R171). -/
def shiftKind (k : Nat) (a : Word) (n : Nat) : Word :=
  if k = 0 then shlW a n else if k = 1 then shrW a n else if k = 2 then sarW a n else rolW a n

/-- The number of ones of a word. -/
def popcount (a : Word) : Nat := (List.range 36).foldl (fun n i => n + bnat (bit a i)) 0

/-- The number of leading zeros of a word, counting from bit 35, on fuel. -/
def clzAux (a : Word) (i : Nat) : Nat :=
  match i with
  | 0 => 0
  | j + 1 => if bit a j then 0 else 1 + clzAux a j

/-- The number of leading zeros, 0 to 36. -/
def clzW (a : Word) : Nat := clzAux a 36

/-! ## The registers an instruction word reads and writes -/

/-- The registers of a 32-bit mask, in ascending order. -/
def maskRegs (m : Nat) : List Nat := (List.range 32).filter (fun i => decide (m / 2 ^ i % 2 = 1))

/-- The word and capability registers (capability?, number) that an instruction word reads as operands, by
their names in its format; R222 and R247 compare them with the register just loaded. -/
def readsOf (x : Ctx) (w : Word) : List (Bool × Nat) :=
  let m := majorOf w
  let fn := fld w 10 0
  let d := fld w 25 21
  let a := fld w 20 16
  let b := fld w 15 11
  let c := capFields m fn
  let W := fun k => (false, x.wIdx k)
  let C := fun k => (true, x.cIdx k)
  let ra := if c.2.1 then [C a] else [W a]
  if m = 0 then (if 32 ≤ fn then [W a] else [W a, W b])
  else if m = 1 then (if fn = 8 ∨ fn = 9 ∨ fn = 24 ∨ fn = 25 then [] else [W a, W b])
  else if m = 2 then [W a, W b]
  else if m = 3 then (if fn = 5 ∨ fn = 7 then [W a] else [])
  else if m = 4 then (if fn = 2 ∨ fn = 4 ∨ fn = 18 ∨ fn = 40 then ra else [])
  else if m = 5 then
    (if fn = 10 then [] else if fn ≤ 9 then [C a]
     else if fn = 32 ∨ fn = 33 then [W a]
     else if c.2.2 then [C a, C b] else if fn = 26 then [C a] else [C a, W b])
  else if m = 6 then C a :: W b :: (maskRegs (fld (x.wr b) 31 0)).map W
  else if m = 7 then [C a, W b]
  else if 8 ≤ m ∧ m ≤ 12 then [W a]
  else if m = 14 then [W d]
  else if m = 15 then [W a]
  else if 16 ≤ m ∧ m ≤ 21 then [C a]
  else if 24 ≤ m ∧ m ≤ 27 then [C a, W d]
  else if m = 28 then [C a]
  else if m = 29 then [C a, C d]
  else if m = 30 then [C a]
  else if m = 31 then [C a, C d, W b]
  else if m = 36 then
    (if fn = 6 then [C a] else if fn = 4 then [W 8] else if fn = 5 then [W 7] else [W a])
  else []

/-- Where a multi-word instruction starts: the record of one that resumes, else the start (R204, R206). -/
def startAt (x : Ctx) (start : Nat) : Nat × Nat :=
  if x.rsmKind ≠ 0 then (fld x.rsm0 29 0, fld x.rsm1 31 0) else (0, start)

/-- The registers that an LDM has written in one issue, from the contexts before and after it: all it had left, or, where its
record names it, those that the record no longer lists (R204, Table 4.17). -/
def ldmWrote (old new : Ctx) (w : Word) : List (Bool × Nat) :=
  let left := maskRegs (startAt old (fld (old.wr (fld w 15 11)) 31 0)).2
  let rest := if new.rsmKind = 2 then maskRegs (fld new.rsm1 31 0) else []
  (left.filter (fun i => !rest.contains i)).map (fun i => (false, old.wIdx i))

/-- The registers that an RFE has written, from the contexts before and after it: C6 and C7, and the fault bank where it restored a
long frame (R283, R285). -/
def rfeWrote (old new : Ctx) : List (Bool × Nat) :=
  (true, 6) :: (true, 7) ::
    (if fld new.fsp.lo 29 0 = fld old.fsp.lo 29 0 + 64 then (List.range 24).map (fun k => (false, 200 + k)) else [])

/-- The word and capability registers that an instruction word has written, from the contexts before and after it, loads of R214
left out (R215). -/
def writesOf (x new : Ctx) (w : Word) : List (Bool × Nat) :=
  let m := majorOf w
  let fn := fld w 10 0
  let d := fld w 25 21
  let W := fun k => (false, x.wIdx k)
  let C := fun k => (true, x.cIdx k)
  if m = 0 then [W d]
  else if m = 1 then (if fn = 8 ∨ fn = 9 ∨ fn = 24 ∨ fn = 25 then [W d] else [])
  else if m = 3 then (if fn = 6 then [W d] else [])
  else if m = 4 then
    (if fn = 1 then [W d] else if fn = 3 then [C d]
     else if fn = 24 then rfeWrote x new
     else if fn = 32 then ((List.range 72).filter (fun i => x.cphys i != new.cphys i)).map (fun i => (true, i)) else [])
  else if m = 5 then
    (if fn = 27 then [C 7] else if (8 ≤ fn ∧ fn ≤ 26) then [C d] else [W d])
  else if m = 7 then ldmWrote x new w
  else if 8 ≤ m ∧ m ≤ 14 then [W d]
  else if m = 30 then [C d]
  else if m = 33 then [(false, 24 * (x.cwp + 1) + 8)]
  else if m = 34 then [W 7]
  else if m = 36 then (if fn = 2 then [(false, 24 * (x.cwp + 1) + 8)] else if fn = 3 then [W 7] else [])
  else []

end Sys2Proof.Machine
end

