-- ==== Sys2Proof/Machine/Caps.lean ====
section
/-! DEFINITION. Capabilities: fields, bounds (R99 to R104), cursor movement (R101, R111), checks (R109),
derivation and sealing (R111 to R113), and the bitmap of a sweeper (R118, R127). -/

namespace Sys2Proof.Machine

/-! ## Fields (Table 3.1 to Table 3.4) -/

end Sys2Proof.Machine
namespace Sys2Proof
open Sys2Proof.Machine

/-- PERM. -/
def Cap.perm (c : Cap) : Nat := fld c.hi 35 24
/-- OTYPE. -/
def Cap.otype (c : Cap) : Nat := fld c.hi 23 18
/-- BM. -/
def Cap.bm (c : Cap) : Nat := fld c.hi 17 9
/-- TM. -/
def Cap.tm (c : Cap) : Nat := fld c.hi 8 0
/-- EXP. -/
def Cap.exp (c : Cap) : Nat := fld c.lo 35 30
/-- CURSOR. -/
def Cap.cursor (c : Cap) : Nat := fld c.lo 29 0

end Sys2Proof
namespace Sys2Proof.Machine

/-- The permissions, numbered by their bit of the high word (Table 3.3). -/
inductive Perm where
  | load | store | execute | loadCap | storeCap | storeLocal | glob | seal | unseal | system | invoke | channel
  deriving DecidableEq, Repr

/-- The bit of the high word that holds a permission. -/
def Perm.bit (p : Perm) : Nat :=
  match p with
  | .load => 35
  | .store => 34
  | .execute => 33
  | .loadCap => 32
  | .storeCap => 31
  | .storeLocal => 30
  | .glob => 29
  | .seal => 28
  | .unseal => 27
  | .system => 26
  | .invoke => 25
  | .channel => 24

end Sys2Proof.Machine
namespace Sys2Proof
open Sys2Proof.Machine

/-- Whether the capability holds a permission. -/
def Cap.has (c : Cap) (p : Perm) : Bool := c.hi.getLsbD p.bit

/-- The capability with another object type. -/
def Cap.withType (c : Cap) (t : Nat) : Cap := { c with hi := setFld c.hi 23 18 t }

/-- The capability with another cursor, nothing else changed. -/
def Cap.withCursor (c : Cap) (a : Nat) : Cap := { c with lo := setFld c.lo 29 0 a }

end Sys2Proof
namespace Sys2Proof.Machine

/-! ## Bounds -/

end Sys2Proof.Machine
namespace Sys2Proof
open Sys2Proof.Machine

/-- Base and top of a capability (R99); (0, 0) for an encoding that is out of range. -/
def Cap.bounds (c : Cap) : Nat × Nat :=
  let e := c.exp
  let b9 := c.bm
  let t9 := c.tm
  let a := c.cursor
  if 22 < e then (0, 0)
  else
    let s := e + 9
    let ablk : Int := a / 2 ^ s
    let amid := a / 2 ^ e % 512
    let bblk : Int := if b9 ≤ amid then ablk else ablk - 1
    let base : Int := bblk * 2 ^ s + b9 * 2 ^ e
    let top : Int := (if b9 ≤ t9 then bblk else bblk + 1) * 2 ^ s + t9 * 2 ^ e
    if base < 0 ∨ (2 ^ 30 : Int) < top then (0, 0) else (base.toNat, top.toNat)

/-- The decoded base. -/
def Cap.base (c : Cap) : Nat := c.bounds.1

/-- The decoded top. -/
def Cap.top (c : Cap) : Nat := c.bounds.2

/-- Whether an address lies in the representable region (R100, R101). -/
def Cap.representable (c : Cap) (x : Int) : Bool :=
  decide (0 ≤ x) && decide (x < 2 ^ 30) && decide ((c.base : Int) ≤ x) &&
    decide (x < c.base + 512 * 2 ^ c.exp)

/-- Moves the cursor as CPOINT and CSTEP do: the tag is lost outside the representable region (R101, R111). -/
def Cap.move (c : Cap) (x : Int) : Cap :=
  { hi := c.hi, lo := setFld c.lo 29 0 (x % 2 ^ 30).toNat, tag := c.tag && c.representable x }

/-- Moves the cursor of a capability that may be sealed: a sealed one whose cursor changes loses its tag (R98). -/
def Cap.retarget (c : Cap) (x : Int) : Cap :=
  let p := c.move x
  if c.otype ≠ 0 ∧ p.cursor ≠ c.cursor then { p with tag := false } else p

end Sys2Proof
namespace Sys2Proof.Machine

/-- The exponent search of R102 from e on, on fuel. -/
def encodeAux (rb len e fuel : Nat) : Nat :=
  match fuel with
  | 0 => e
  | f + 1 => if (rb + len + 2 ^ e - 1) / 2 ^ e - rb / 2 ^ e ≤ 511 then e else encodeAux rb len (e + 1) f

/-- The exponent R102 finds for a base and length. -/
def encodeExp (rb len : Nat) : Nat := encodeAux rb len 0 22

/-- The base and top R102 encodes for a base and length. -/
def encodeBounds (rb len : Nat) : Nat × Nat :=
  let e := encodeExp rb len
  (rb / 2 ^ e * 2 ^ e, (rb + len + 2 ^ e - 1) / 2 ^ e * 2 ^ e)

end Sys2Proof.Machine
namespace Sys2Proof
open Sys2Proof.Machine

/-- A capability with the bounds R102 encodes for rb and len, cursor rb, other fields from c. -/
def Cap.narrowed (c : Cap) (rb len : Nat) : Cap :=
  let e := encodeExp rb len
  { hi := setFld (setFld c.hi 17 9 (rb / 2 ^ e)) 8 0 ((rb + len + 2 ^ e - 1) / 2 ^ e),
    lo := setFld (setFld c.lo 35 30 e) 29 0 rb, tag := c.tag }

end Sys2Proof
namespace Sys2Proof.Machine

/-- The smallest exponent of R103 for a length, from e on, on fuel. -/
def sizeExpAux (len e fuel : Nat) : Nat :=
  match fuel with
  | 0 => e
  | f + 1 => if (len + 2 ^ e - 1) / 2 ^ e ≤ 511 then e else sizeExpAux len (e + 1) f

/-- The exponent of CSIZEUP and CBASEMASK (R103). -/
def sizeExp (len : Nat) : Nat := sizeExpAux len 0 22

/-- CSIZEUP of a length (R103). -/
def sizeUp (len : Nat) : Nat := (len + 2 ^ sizeExp len - 1) / 2 ^ sizeExp len * 2 ^ sizeExp len

/-- CBASEMASK of a length: bits [29:e] set (R103). -/
def baseMask (len : Nat) : Word := fmask 29 (sizeExp len)

/-! ## Checks -/

/-- The capability fault causes (Table 3.8), with the address FADDR holds. -/
structure CapFault where
  cause : Nat
  faddr : Nat
  deriving DecidableEq, Repr

/-- The 30 bits FADDR holds of an address. -/
def faddrOf (x : Int) : Nat := (x % 2 ^ 30).toNat

/-- The check of R109: tag, seal, permissions, bounds, in that order. -/
def capCheck (c : Cap) (eff : Int) (n : Nat) (perms : List Perm) : Except CapFault Unit :=
  if !c.tag then .error ⟨1, faddrOf eff⟩
  else if c.otype ≠ 0 then .error ⟨2, faddrOf eff⟩
  else if perms.any (fun p => !c.has p) then .error ⟨3, faddrOf eff⟩
  else if eff < c.base ∨ (c.top : Int) < eff + n then .error ⟨4, faddrOf eff⟩
  else .ok ()

/-! ## Derivation and sealing (R111, R112, R113). Each answers the result or the cause of its fault. -/

/-- CPOINT and CSTEP: the cursor becomes x (R111). -/
def capPoint (c : Cap) (x : Int) : Except Nat Cap :=
  if c.tag && decide (c.otype ≠ 0) then .error 2 else .ok (c.move x)

/-- CMASKP (R111). -/
def capMaskp (c : Cap) (m : Word) : Except Nat Cap :=
  if c.tag && decide (c.otype ≠ 0) then .error 2
  else .ok { c with hi := setFld c.hi 35 24 (Nat.land c.perm (fld m 11 0)) }

/-- CNARROW and CNARROWX (R111). -/
def capNarrow (c : Cap) (wl : Nat) (exact : Bool) : Except Nat Cap :=
  let rb := c.cursor
  let nb := (encodeBounds rb wl).1
  let nt := (encodeBounds rb wl).2
  if !c.tag then .error 1
  else if c.otype ≠ 0 then .error 2
  else if 2 ^ 30 < rb + wl then .error 4
  else if nb < c.base ∨ c.top < nt then .error 4
  else if exact && decide (nb ≠ rb ∨ nt ≠ rb + wl) then .error 7
  else .ok (c.narrowed rb wl)

/-- CSEAL (R112). The fault names its cause and whether the failed operand is ct. -/
def capSeal (cs ct : Cap) : Except (Nat × Bool) Cap :=
  if !cs.tag || !ct.tag then .error (1, cs.tag)
  else if cs.otype ≠ 0 ∨ ct.otype ≠ 0 then .error (2, decide (cs.otype = 0))
  else if !ct.has .seal then .error (3, true)
  else if ct.cursor < ct.base ∨ ct.top ≤ ct.cursor then .error (4, true)
  else if ct.cursor < 1 ∨ 55 < ct.cursor then .error (5, true)
  else .ok (cs.withType ct.cursor)

/-- CUNSEAL (R112): the Global bit is kept only when both hold it. The flag beside a cause says that the register the fault
names is the second operand; a TYPE mismatch, a check on both, names the first (DESIGN CHOICE, notes/assumptions/43.md). -/
def capUnseal (cs ct : Cap) : Except (Nat × Bool) Cap :=
  if !cs.tag || !ct.tag then .error (1, cs.tag)
  else if cs.otype = 0 ∨ ct.otype ≠ 0 then .error (2, decide (cs.otype ≠ 0))
  else if !ct.has .unseal then .error (3, true)
  else if ct.cursor < ct.base ∨ ct.top ≤ ct.cursor then .error (4, true)
  else if 55 < cs.otype ∨ cs.otype ≠ ct.cursor then .error (5, false)
  else
    let u := cs.withType 0
    .ok { u with hi := setBit u.hi 29 (cs.has .glob && ct.has .glob) }

/-- The checks of CSEALH on its operand (R112). -/
def capSealh (cs : Cap) (k : Nat) : Except Nat Cap :=
  if !cs.tag then .error 1
  else if cs.otype ≠ 0 then .error 2
  else if k ≠ 56 ∧ k ≠ 59 then .error 5
  else .ok (cs.withType k)

/-- CINVOKE (R113): the new PCC and the new C7. The flag beside a cause is that of capUnseal; a TYPE mismatch, a check on both
operands, names the first (DESIGN CHOICE, notes/assumptions/43.md). -/
def capInvoke (cc cd : Cap) : Except (Nat × Bool) (Cap × Cap) :=
  if !cc.tag || !cd.tag then .error (1, cc.tag)
  else if cc.otype = 0 ∨ cd.otype = 0 then .error (2, decide (cc.otype ≠ 0))
  else if 55 < cc.otype ∨ cc.otype ≠ cd.otype then .error (5, false)
  else if !cc.has .invoke || !cd.has .invoke then .error (3, cc.has .invoke)
  else if !cc.has .execute || cd.has .execute then .error (3, cc.has .execute)
  else if cc.cursor < cc.base ∨ cc.top ≤ cc.cursor then .error (4, false)
  else .ok (cc.withType 0, cd.withType 0)

/-- A capability the device creates: permissions, type, exact bounds [b, b + len), cursor (R274, Table 6.4). -/
def mkCap (perm ty b len cur : Nat) : Cap :=
  let e := encodeExp b len
  { hi := fval 35 24 perm ||| fval 23 18 ty ||| fval 17 9 (b / 2 ^ e) ||| fval 8 0 ((b + len + 2 ^ e - 1) / 2 ^ e),
    lo := fval 35 30 e ||| fval 29 0 cur, tag := true }

/-! ## Revocation -/

/-- The SWP page of a region. -/
def swpPg (g : Nat) : Nat := regionPg g 2

/-- The sweeper of a region. -/
def sweep (s : State) (g : Nat) : Sweep := kget (fun _ => Sweep.init) s.sweeps g

/-- The filter is active while any SWP page of the package is sweeping (R127). -/
def filtering (s : State) : Bool := (List.range (4 * s.part.dies)).any (fun g => (sweep s g).on)

/-- The word address of the bitmap bit of a base, and its bit, when the base lies in the covered range (R118). An address past
2^30 wraps, as every address of the space has 30 bits; R118 is silent on it (DESIGN CHOICE, notes/assumptions/13.md). -/
def bitmapAt (s : State) (g x : Nat) : Option (Nat × Nat) :=
  let lo := fld (rget s (swpPg g) 19) 29 6 * 64
  let hi := fld (rget s (swpPg g) 20) 29 6 * 64
  if x < lo ∨ hi ≤ x then none
  else
    let gr := (x - lo) / 64
    some ((fld (rget s (swpPg g) 18) 29 0 + gr / 32) % 2 ^ 30, gr % 32)

end Sys2Proof.Machine
end

