-- ==== Sys2Proof/Machine/Gates.lean ====
section
/-! DEFINITION. Gates (R367 to R406): slots, rules, the master and target checks, the request stamp, and the
capture of a refusal. -/

namespace Sys2Proof.Machine

/-! ## Slots (Table 8.5, Table 8.6) -/

/-- The group of a page of a die (Table 8.6). -/
def pageGroup (q : Nat) : Option Nat :=
  if q ≤ 1 then some 0 else if q = 2 then some 1 else if q = 3 then some 2
  else if q = 4 ∨ q = 5 then some 3 else if q = 6 then some 4 else if q = 7 then some 5
  else if q = 8 then some 6
  else if 64 ≤ q ∧ q < 320 then
    let r := q / 64 - 1
    let o := q % 64
    if o ≤ 2 ∨ o = 40 then some (8 + 10 * r)
    else if 8 ≤ o ∧ o < 24 then some (9 + 10 * r + (o - 8) / 4)
    else if 32 ≤ o ∧ o ≤ 35 then some (13 + 10 * r)
    else if o = 36 then some (14 + 10 * r)
    else if 37 ≤ o ∧ o ≤ 39 then some (15 + 10 * r + (o - 37))
    else none
  else none

/-- The slot of a page of this package (R374, R375). -/
def slotOfPage (pg : Nat) : Option Nat :=
  let d := pg / 2048
  let q := pg % 2048
  if d < 8 then (pageGroup q).map (fun g => 256 + 48 * d + g)
  else if d = 8 then
    if q ≤ 3 then some (136 + q)
    else if 8 ≤ q ∧ q < 12 then some 140
    else if 16 ≤ q ∧ q ≤ 20 then some 141
    else if q = 24 ∨ q = 25 then some 142
    else if q = 32 ∨ q = 33 then some 143
    else none
  else none

/-- Where a register address leads (Table 2.3, R61, R62): a page of this package, or a position of the stack. -/
inductive PageAddr where
  | here (pg off : Nat)
  | there (pos : Nat)
  | reserved
  deriving DecidableEq, Repr

/-- Decodes an address of the register page space. -/
def pageAddr (s : State) (pa : Nat) : PageAddr :=
  let psel := pa / 16777216 % 8
  let pg := pa / 512 % 32768
  if psel = 0 ∨ psel = 4 + s.stack.pos.toNat then .here pg (pa % 512)
  else if 4 ≤ psel then .there (psel - 4)
  else .reserved

/-- The slot of a physical address (Table 8.5); none where no slot matches (R369). -/
def slotOf (s : State) (pa : Nat) : Option Nat :=
  let sp := pa / 134217728
  if sp = 0 then (if pa / 65536 < 128 then some (pa / 65536) else none)
  else if sp = 1 then
    match pageAddr s pa with
    | .here pg _ => slotOfPage pg
    | .there k => some (144 + k)
    | .reserved => none
  else if sp < 4 then none
  else some (128 + (sp - 4) / 2)

/-- The unit of an address within its slot's windows (Table 8.5). -/
def slotUnit (slot pa : Nat) : Nat := if slot < 128 then pa / 1024 % 64 else pa % 268435456 / 65536

/-! ## Rules (Table 8.3, Table 8.4) -/

/-- Whether a rule grants a kind of access at a privilege. Debug kinds follow the DBG field; `opened` says that
a token opens a Locked column (R400, R662). -/
def grants (rule : Nat) (k : Kind) (priv : Nat) (opened : Bool) : Bool :=
  let col := rule / 2 ^ (if priv = 0 then 8 else if priv = 1 then 5 else 2) % 8
  let dbg := rule % 4
  match k with
  | .fetch => decide (priv ≤ 2 ∧ col % 2 = 1)
  | .load | .capLoad | .shadowRead => decide (priv ≤ 2 ∧ col / 4 = 1)
  | .store | .capStore | .shadowWrite => decide (priv ≤ 2 ∧ col / 2 % 2 = 1)
  | .dbgRead => decide (dbg = 1 ∨ dbg = 3) || (decide (dbg = 2) && opened)
  | .dbgWrite => decide (dbg = 3) || (decide (dbg = 2) && opened)

/-- The code of a kind in ERR_ATTR (Table 8.14). -/
def Kind.code (k : Kind) : Nat :=
  match k with
  | .fetch => 0
  | .load => 1
  | .store => 2
  | .capLoad => 3
  | .capStore => 4
  | .shadowRead => 5
  | .shadowWrite => 5
  | .dbgRead => 6
  | .dbgWrite => 7

/-- The gate fault cause of a master refusal (Table 8.11). -/
def Kind.cause (k : Kind) : Nat :=
  match k with
  | .fetch => 3
  | .load | .capLoad | .shadowRead | .dbgRead => 1
  | .store | .capStore | .shadowWrite | .dbgWrite => 2

/-- The capture cause of a target gate's refusal: a debug access has its own (Table 8.13, Table 8.15). -/
def Kind.targetCause (k : Kind) : Nat :=
  match k with
  | .dbgRead | .dbgWrite => 10
  | _ => 9

/-- Whether a kind writes. -/
def Kind.writes (k : Kind) : Bool :=
  match k with
  | .store | .capStore | .shadowWrite | .dbgWrite => true
  | _ => false

/-- An image word of a rule set (Table 8.8). -/
def RuleSet.word (r : RuleSet) (i : Nat) : Word :=
  kget (fun j => if 4 ≤ j ∧ j < 218 then r.fill else 0) r.words i

/-- Writes an image word of a rule set. -/
def RuleSet.setWord (r : RuleSet) (i : Nat) (v : Word) : RuleSet :=
  { r with words := kset (fun j => if 4 ≤ j ∧ j < 218 then r.fill else 0) r.words i v }

/-- The rule of a slot (Table 8.8). -/
def RuleSet.rule (r : RuleSet) (slot : Nat) : Nat :=
  fld (r.word (4 + slot / 3)) (12 * (slot % 3) + 10) (12 * (slot % 3))

/-- Window w of a slot (Table 8.8). -/
def RuleSet.window (r : RuleSet) (slot w : Nat) : Word := r.word (218 + 4 * slot + w)

/-- Header COMP of a rule set. -/
def RuleSet.comp (r : RuleSet) : Nat := fld (r.word 2) 7 0

/-- The window of a slot that covers a unit, if any (R376): at most one after R377. -/
def RuleSet.windowOf (r : RuleSet) (slot u : Nat) : Option Nat :=
  (List.range 4).find? (fun w =>
    let x := r.window slot w
    bit x 35 && decide (fld x 23 12 ≤ u ∧ u ≤ fld x 11 0))

/-- master_check (R378): none when granted, the FAUX window when refused. Nothing is granted under a set that is
not Ready (Table 8.7); R58 alone decides a fetch from a page (R373). -/
def masterCheck (r : RuleSet) (slot pa : Nat) (k : Kind) (priv : Nat) (opened : Bool) : Option Nat :=
  let w := if slot ≤ 129 then r.windowOf slot (slotUnit slot pa) else none
  let rule := match w with | some i => fld (r.window slot i) 34 24 | none => r.rule slot
  if r.st == .ready && (grants rule k priv opened || (k == .fetch && decide (130 ≤ slot))) then none
  else some (w.getD 4)

/-! ## Target gates (R380) -/

/-- One entry (Table 8.17) grants an access. -/
def targetGrants (e : Word) (st : Stamp) (unit : Nat) (k : Kind) (opened : Bool) : Bool :=
  bit e 35 && (bit e 34 || decide (fld e 33 26 = st.comp.toNat)) &&
  decide (fld e 11 6 ≤ unit ∧ unit ≤ fld e 5 0) && grants (fld e 25 15) k st.priv.toNat opened

/-- target_check (R380) over the 16 entries of an MGATE or TGATE page. -/
def targetCheck (s : State) (pg unit : Nat) (st : Stamp) (k : Kind) (opened : Nat → Bool) : Bool :=
  (List.range 16).any (fun i => targetGrants (rget s pg (32 + i)) st unit k (opened i))

/-- The gate mode (Table 8.1): 0 MASTER, 1 TARGET, else BOTH. -/
def gateMode (s : State) : Nat := rfld s (pkgPg 0) 40 1 0

/-- The target gate page and unit in front of a page, for the pages that have one (Table 8.1). -/
def pageTarget (pg : Nat) : Option (Nat × Nat) :=
  let q := pg % 2048
  if pg / 2048 < 8 ∧ 64 ≤ q ∧ 32 ≤ q % 64 ∧ q % 64 ≤ 40 then some (pg - q % 64 + 40, q % 64 - 32) else none

/-- The target gate that an address meets, with its unit (Table 8.1). -/
def targetOf (s : State) (pa : Nat) : Option (Nat × Nat) :=
  let sp := pa / 134217728
  if sp = 0 then (if pa / 65536 < 128 then some (mgatePg (pa / 65536), pa / 1024 % 64) else none)
  else if sp = 1 then
    match pageAddr s pa with
    | .here pg _ => pageTarget pg
    | _ => none
  else none

/-- Whether the master gate checks an address in the present mode (Table 8.1). -/
def masterChecks (s : State) (pa : Nat) : Bool := (targetOf s pa).isNone || decide (gateMode s ≠ 1)

/-! ## Stamps and captures -/

/-- The rule set of a core block. -/
def Core.set (c : Core) (b : Bool) : RuleSet := if b then c.setB else c.setA

/-- Writes a rule set of a core block. -/
def Core.putSet (c : Core) (b : Bool) (r : RuleSet) : Core := if b then { c with setB := r } else { c with setA := r }

/-- The stamp of an access of context h of core n at a privilege (Table 8.2). -/
def stampOf (s : State) (n h priv : Nat) : Stamp :=
  let c := coreAt s n
  let x := c.ctx h
  { cls := 0, die := BitVec.ofNat 3 (n / 16), core := BitVec.ofNat 7 n, ctx := BitVec.ofNat 2 h,
    comp := BitVec.ofNat 8 x.comp, priv := BitVec.ofNat 2 priv, set := x.setB, epoch := c.epoch }

/-- ERR_REQ of a stamp (Table 8.14). -/
def reqWord (t : Stamp) : Word :=
  fval 35 34 t.cls.toNat ||| fval 33 31 t.die.toNat ||| fval 30 24 t.core.toNat ||| fval 23 22 t.ctx.toNat |||
  fval 21 14 t.comp.toNat ||| fval 13 12 t.priv.toNat

/-- ERR_ATTR of a refused access (Table 8.14). -/
def attrWord (t : Stamp) (k : Kind) (slot win : Nat) : Word :=
  fval 35 33 k.code ||| fval 32 32 (bnat t.set) ||| fval 31 22 slot ||| fval 21 19 win ||| fval 15 0 t.epoch.toNat

/-- FAUX for vector 12 (Table 8.12). -/
def gateFaux (wher : Nat) (t : Stamp) (slot win : Nat) : Word :=
  fval 35 34 wher ||| fval 33 33 (bnat t.set) ||| fval 32 23 slot ||| fval 22 20 win ||| fval 15 0 t.epoch.toNat

/-- A gate captures a refusal: ERR_FIRST, ERR_REQ and ERR_ATTR together (R401). -/
def gateCapture (s : State) (pg cause pa : Nat) (t : Stamp) (k : Kind) (slot win : Nat) : State :=
  let s0 := if bit (evNow s pg 6) 35 then s else evPut (evPut s pg 16 (reqWord t)) pg 17 (attrWord t k slot win)
  let s1 := if bit (rget s pg 6) 35 then s0 else rset (rset s0 pg 16 (reqWord t)) pg 17 (attrWord t k slot win)
  capture s1 pg cause pa

/-- Whether the debug token in force names entry i of a target gate on a die (R610). -/
def tokenEntry (s : State) (die i : Nat) : Bool :=
  match s.carr.token with
  | some t => t.dieMask.getLsbD die && t.tgMask.getLsbD i
  | none => false

/-- Whether a slot lies in a range of the debug token in force (R610). -/
def tokenSlot (s : State) (slot : Nat) : Bool :=
  match s.carr.token with
  | some t => t.ranges.any (fun r => decide (r.1 ≤ slot) && decide (slot ≤ r.2))
  | none => false

/-- Whether the target gate in front of an address grants an access (R367, R380); a token opens the entries it names (R610). -/
def targetOk (s : State) (st : Stamp) (pa : Nat) (k : Kind) : Bool :=
  match targetOf s pa with
  | none => true
  | some (pg, u) => decide (gateMode s = 0) || targetCheck s pg u st k (tokenEntry s (pg / 2048))

/-- The capture of a target gate's refusal (R380, R401). -/
def targetCapture (s : State) (st : Stamp) (pa : Nat) (k : Kind) : State :=
  match targetOf s pa with
  | none => s
  | some (pg, _) => gateCapture s pg k.targetCause pa st k ((slotOf s pa).getD 0) 7

end Sys2Proof.Machine
end

