-- ==== Sys2Proof/Machine/Units.lean ====
section
/-! DEFINITION. Access to the timing units and channels: track time, phase references, Reed, channels, voters, vital
enables, and the compartment classes they consult (R408, R425, R486, Table 7.14). -/

namespace Sys2Proof.Machine

/-! ## Pages -/

/-- The PHREF page. -/
def phrefPg : Nat := pkgPg 1
/-- The TTIME page. -/
def ttimePg : Nat := pkgPg 2
/-- The FRZ page. -/
def frzPg : Nat := pkgPg 3
/-- The REED page of a die. -/
def reedPg (d : Nat) : Nat := diePg d 4
/-- The SEDGE page of a die. -/
def sedgePg (d : Nat) : Nat := diePg d 6
/-- The CARR page of a die. -/
def carrPg (d : Nat) : Nat := diePg d 7
/-- The PWR page of a die. -/
def pwrPg (d : Nat) : Nat := diePg d 2
/-- The CBK page of a region. -/
def cbkPg (g : Nat) : Nat := regionPg g 32
/-- The SLUICE page of a region. -/
def sluicePg (g : Nat) : Nat := regionPg g 36
/-- The PROP page of a lane of a region. -/
def propPg (g l : Nat) : Nat := regionPg g (37 + l)
/-- The REM page of a region. -/
def remPg (g : Nat) : Nat := regionPg g 1

/-! ## Units -/

/-- A phase reference. -/
def ref (s : State) (i : Nat) : Ref := kget (fun _ => Ref.init) s.refs i
/-- Writes a phase reference. -/
def setRef (s : State) (i : Nat) (r : Ref) : State := { s with refs := kset (fun _ => Ref.init) s.refs i r }
/-- Reed of a die. -/
def reed (s : State) (d : Nat) : Reed := kget (fun _ => Reed.init) s.reeds d
/-- Writes Reed of a die. -/
def setReed (s : State) (d : Nat) (r : Reed) : State := { s with reeds := kset (fun _ => Reed.init) s.reeds d r }
/-- An entry of Reed's table. -/
def Reed.entry (r : Reed) (i : Nat) : Event := kget (fun _ => Event.init) r.ev i
/-- Writes an entry of Reed's table. -/
def Reed.putEntry (r : Reed) (i : Nat) (e : Event) : Reed := { r with ev := kset (fun _ => Event.init) r.ev i e }
/-- A package channel. -/
def chan (s : State) (m : Nat) : Chan := kget (fun _ => Chan.init) s.chans m
/-- Writes a package channel. -/
def setChan (s : State) (m : Nat) (c : Chan) : State := { s with chans := kset (fun _ => Chan.init) s.chans m c }
/-- The voter of a region. -/
def voter (s : State) (g : Nat) : Voter := kget (fun _ => Voter.init) s.voters g
/-- Writes the voter of a region. -/
def setVoter (s : State) (g : Nat) (v : Voter) : State := { s with voters := kset (fun _ => Voter.init) s.voters g v }
/-- The channel block of a region. -/
def block (s : State) (g : Nat) : Block := kget (fun _ => Block.init) s.blocks g
/-- Writes the channel block of a region. -/
def setBlock (s : State) (g : Nat) (b : Block) : State := { s with blocks := kset (fun _ => Block.init) s.blocks g b }
/-- A vital enable generator: 0 on die 0, 1 on die 1. -/
def ven (s : State) (i : Nat) : Ven := kget (fun _ => Ven.init) s.vens i
/-- Writes a vital enable generator. -/
def setVen (s : State) (i : Nat) (v : Ven) : State := { s with vens := kset (fun _ => Ven.init) s.vens i v }
/-- Sedge of a die. -/
def sedge (s : State) (d : Nat) : Sedge := kget (fun _ => Sedge.init) s.sedges d
/-- Writes Sedge of a die. -/
def setSedge (s : State) (d : Nat) (x : Sedge) : State := { s with sedges := kset (fun _ => Sedge.init) s.sedges d x }
/-- A directory entry of Sedge. -/
def Sedge.entry (x : Sedge) (i : Nat) : DirEnt := kget (fun _ => DirEnt.init) x.dir i
/-- Writes a directory entry of Sedge. -/
def Sedge.putEntry (x : Sedge) (i : Nat) (e : DirEnt) : Sedge := { x with dir := kset (fun _ => DirEnt.init) x.dir i e }
/-- The state of a frame in a die's pool. -/
def poolAt (s : State) (d f : Nat) : Frame := kget (fun _ => Frame.none) (sedge s d).pool f
/-- The die whose pool holds a frame. -/
def poolDie (s : State) (f : Nat) : Option Nat := (List.range s.part.dies).find? (fun d => poolAt s d f != .none)
/-- Writes the sweeper of a region. -/
def setSweep (s : State) (g : Nat) (w : Sweep) : State := { s with sweeps := kset (fun _ => Sweep.init) s.sweeps g w }

/-! ## Time -/

/-- Fabric cycles of a microsecond: 300 MHz (00_scope.md). -/
def ticksPerUs : Nat := 300

/-- The role of the package in track time (Table 9.4): 0 alone, 1 master, 2 follower. -/
def ttRole (s : State) : Nat := s.stack.role.toNat

/-- The rate of track time in force, in units of 2^-40 (R425, R429, R543). -/
def ttRate (s : State) : Int := if ttRole s = 2 then sval s.sync.rate else sval (rget s ttimePg 18)

/-- Notes track time at a tick, before its rate changes or it is stepped; a sample frame looks 1,200 ticks back (R481). -/
def ttMark (s : State) (tick : Nat) : State :=
  { s with ttMarks := { tick := tick, tt := s.tt, sub := s.ttSub, rate := s.ttRateWas } ::
      s.ttMarks.filter (fun m => decide (s.ticks ≤ m.tick + 1200)) }

/-- Track time after one fabric cycle of 10/3 ns at the rate in force (R425). The accumulator counts units of
1/(3 * 2^40) ns. The cycle's tick is counted already. -/
def ttAdvance (s : State) : State :=
  let s0 := if ttRate s = s.ttRateWas then s else { ttMark s (s.ticks - 1) with ttRateWas := ttRate s }
  let u := s.ttSub + (10 * (2 ^ 40 + ttRate s)).toNat
  { s0 with tt := (s.tt + u / (3 * 2 ^ 40)) % 2 ^ 72, ttSub := u % (3 * 2 ^ 40) }

/-- Track time at an earlier tick, through the changes of rate and the steps since then (R425, R481). -/
def ttAt (s : State) (tick : Nat) : Nat :=
  let now : TtMark := { tick := s.ticks, tt := s.tt, sub := s.ttSub, rate := s.ttRateWas }
  let m := s.ttMarks.foldl (fun b m => if tick < m.tick then m else b) now
  let u : Int := (m.tt * (3 * 2 ^ 40) + m.sub : Nat) - ((m.tick - tick : Nat) : Int) * (10 * (2 ^ 40 + m.rate))
  (u / (3 * 2 ^ 40) % 2 ^ 72).toNat

/-! ## Stamps -/

/-- A stamp difference read as signed (R408). -/
def stampDiff (later earlier : Word) : Int := sval (later - earlier)

/-- SYNST of a reference (R419). -/
def synst (s : State) (i : Nat) : Nat :=
  (rget s phrefPg (48 + 2 * i)).toNat + 2 ^ 36 * (rget s phrefPg (49 + 2 * i)).toNat

/-- The stamp of a synthetic reference at the present track time (R419). -/
def synStamp (s : State) (i : Nat) : Word :=
  let t := signed 72 ((s.tt + 2 ^ 72 - synst s i) % 2 ^ 72)
  wordOfInt ((t * (rfld s phrefPg (17 + 4 * i) 16 0 : Nat) * 2 ^ 24) / 10 ^ 12)

/-- REFCFG.SRC in force; values 5 to 7 act as 0 (Table 9.3). -/
def refSrc (s : State) (i : Nat) : Nat :=
  let v := rfld s phrefPg (16 + 4 * i) 35 33
  if 5 ≤ v then 0 else v

/-- The current stamp of a reference (R407, R419). -/
def refNow (s : State) (i : Nat) : Word :=
  if refSrc s i = 3 ∧ (ref s i).st = .locked then synStamp s i else (ref s i).stamp

/-- The tracked period of a reference in fabric cycles; for a synthetic one that of FREQ. -/
def refPeriod (s : State) (i : Nat) : Nat :=
  if refSrc s i = 3 then 300000000000 / max 1 (rfld s phrefPg (17 + 4 * i) 16 0) else (ref s i).period

/-- A stamp difference converted to fabric cycles at the tracked period (R434). -/
def stampTicks (s : State) (i : Nat) (d : Int) : Int := d * (refPeriod s i : Nat) / 2 ^ 24

/-! ## Compartment classes (Table 7.14) -/

/-- COMPCLS_c as the Sedge of a die holds it. -/
def compcls (s : State) (d c : Nat) : Word := rget s (sedgePg d) (256 + c)

/-- COMPCLS.VITAL. -/
def clsVital (w : Word) : Bool := bit w 32
/-- COMPCLS.TIMED. -/
def clsTimed (w : Word) : Bool := bit w 33
/-- COMPCLS.PAIR. -/
def clsPair (w : Word) : Nat := fld w 31 24
/-- COMPCLS.HDIE. -/
def clsDie (w : Word) : Nat := fld w 22 20
/-- COMPCLS.HREG. -/
def clsReg (w : Word) : Nat := fld w 19 18

/-! ## Channel registers (Table 10.12) -/

/-- The CHAN page of package channel m. -/
def chanPg (m : Nat) : Nat := regionPg (m / 24) (33 + m % 24 / 8)

/-- The offset of register k of package channel m. -/
def chanOff (m k : Nat) : Nat := 64 + 32 * (m % 24 % 8) + k

/-- Register k of package channel m. -/
def chanReg (s : State) (m k : Nat) : Word := rget s (chanPg m) (chanOff m k)

/-- CHCFG. -/
def chcfg (s : State) (m : Nat) : Word := chanReg s m 0
/-- CHCFG.MODE: 0 Off, 1 Lamp, 2 Heater, 3 Axle, 4 Generic. -/
def chMode (s : State) (m : Nat) : Nat := fld (chcfg s m) 35 33
/-- CHCFG.VITAL. -/
def chVital (s : State) (m : Nat) : Bool := bit (chcfg s m) 32
/-- CHCFG.REF. -/
def chRef (s : State) (m : Nat) : Nat := fld (chcfg s m) 31 29
/-- CHCFG.PROF: LED. -/
def chLed (s : State) (m : Nat) : Bool := bit (chcfg s m) 28

/-- The channels of the part: 96 for each die. -/
def chanCount (s : State) : Nat := 96 * s.part.dies

/-- Whether the driver of channel m is seen to conduct (R454, R458). -/
def conducts (s : State) (m : Nat) : Bool := (chan s m).fb != bit (chcfg s m) 27

/-- Whether the region of a channel works: not isolated, its channel block domain up. -/
def chanUp (s : State) (m : Nat) : Bool :=
  decide (m < chanCount s) && !isolatedRegion s (m / 24) && domUp s (domKey (m / 96) (32 + m / 24 % 4))

end Sys2Proof.Machine
end

