-- ==== Sys2Proof/Machine/PageOps.lean ====
section
/-! DEFINITION. What every register page does: whether its unit works, the path of a request to it (R57, R67, R70,
R380), the write of a register without behaviour of its own (R13, R82), and the reset of a page (R703). -/

namespace Sys2Proof.Machine

/-- Whether the clocks run: no freeze, no package reset in force (R629, R631, R647). -/
def clocked (s : State) : Bool := s.frozen.isNone && !s.pins.porHeld && !s.pins.sysHeld

/-- Whether the unit of a page works and answers. -/
def unitWorks (s : State) (pg : Nat) : Bool := clocked s && (pageReach s pg == .ok)

/-- An effect that reaches the unit of a page; nothing where the unit does not work. -/
def unitDo (s : State) (pg : Nat) (f : State → State) : State := if unitWorks s pg then f s else s

/-- The answer of an access: a word. -/
def replyWord (s : State) (w : Word) : State := { s with busReply := { data := w, vec := 0, cause := 0 } }

/-- The answer of an access: the fault its requester takes. -/
def replyFault (s : State) (vec cause : Nat) : State := { s with busReply := { data := 0, vec := vec, cause := cause } }

/-- The bus error cause of an access that its target does not answer (Table 6.1, R35). -/
def Reach.cause (r : Reach) (s : State) : Nat × State :=
  match r with
  | .ok => (0, s)
  | .unpopulated => (1, s)
  | .isolated => (4, s)
  | .down => (3, s)
  | .parity => parityCause s

/-- The answer to an access that its target does not answer: recorded (R59, R70, R35), a bus error for the requester. -/
def unreached (s : State) (die pg off : Nat) (r : Reach) : State :=
  let c := r.cause (reachRecord s die (regAddr pg off) r)
  replyFault c.2 8 c.1

/-- A requester's access to a register: reach (R57, R70, R48), target gate (R380), then the unit. -/
def unitRequest (s : State) (st : Stamp) (pg off : Nat) (k : Kind) (f : State → State) : State :=
  if !clocked s then s
  else
    match portReach s pg with
    | .ok =>
      if targetOk s st (regAddr pg off) k then f (replyWord s 0)
      else replyFault (targetCapture s st (regAddr pg off) k) 12 4
    | r => unreached s st.die.toNat pg off r

/-- A write of a register by its fields' access codes (R13 to R16); a WC bit that an event has set in the same cycle stays (R17). -/
def writeFields (s : State) (pg off : Nat) (v : Word) : State :=
  match unitOf s.part pg with
  | some u => rset s pg off (applyWrite (u.fields off) (rget s pg off) v ||| (evNow s pg off &&& wcMask (u.fields off)))
  | none => s

/-- A write of a register with no behaviour of its own: refused where the page is locked and the register lockable
(R82). -/
def plainWrite (s : State) (pg off : Nat) (v : Word) : State :=
  match unitOf s.part pg with
  | some u => if u.lockable off && locked s pg then captureAt s pg 1 off else writeFields s pg off v
  | none => s

/-- The registers of a page return to their reset values, except LOCK (R703); FEAT_OFFER is held apart. -/
def resetPage (s : State) (pg : Nat) : State :=
  { s with regs := kkeep s.regs (fun k => decide (k / 512 ≠ pg) || decide (k % 512 = 10)) }

/-- A write of EN = 1 (R76, R78): refused while BASE is not accepted, and where the unit's chapter gives a reason
(its cause); held while the unit's domain drains. -/
def enable (s : State) (pg : Nat) (why : Option Nat) : State :=
  if (dom s (domOfPage pg)).drain.isSome then { s with enHeld := if s.enHeld.contains pg then s.enHeld else s.enHeld ++ [pg] }
  else if bit (rget s pg 3) 0 = false then refuseFeature s pg 4
  else
    match why with
    | some c => captureAt (rset s pg 5 (setBit (rget s pg 5) 2 true)) pg c 4
    | none => rset s pg 4 (setBit (rget s pg 4) 0 true)

/-- The domain of a page that its die can reach completes a shutdown (R618): STAT.DRAIN reads 1. -/
def draining (s : State) (pg : Nat) : Bool :=
  (pageReach s pg == .down) && (dom s (domOfPage pg)).drain.isSome && !(dom s (domOfPage pg)).held

/-- A write of EN = 1 that is held: its page's domain drains (R78). R618 answers every other new request to the domain with a
bus error (notes/assumptions/77.md). -/
def enHolds (s : State) (pg off : Nat) (v : Word) : Bool :=
  clocked s && decide (off = 4) && bit v 0 && !bit v 1 && draining s pg

/-- A write of EN = 1 to a page whose domain drains is held; a locked page captures cause 1 instead (R78, R82). -/
def holdEn (s : State) (pg : Nat) : State := unlessLocked s pg 4 (fun s => enable s pg none)

/-- CTL.EN of a page. -/
def enabled (s : State) (pg : Nat) : Bool := bit (rget s pg 4) 0

/-- The written value of a field that a chapter protects is replaced by the one held. -/
def keepFld (held new : Word) (hi lo : Nat) : Word := setFld new hi lo (fld held hi lo)

end Sys2Proof.Machine
end

