-- ==== Sys2Proof/Machine/Arbiter.lean ====
section
/-! DEFINITION. The block arbiter of a bank (R31 to R34, R93, R334, Table 1.3): the slots that its own ports and other requests use,
the requests that wait for a slot with their deadlines, and the order in which they are served (notes/assumptions/74.md). -/

namespace Sys2Proof.Machine

/-! ## Slots (R31) -/

/-- Two core cycles of a fabric cycle give each slot twice. -/
def slotsPerTick : Nat := 2

/-- The slots of bank b that the present fabric cycle has used, with what earlier grants still take of it. -/
def slotsNow (s : State) (b : Nat) : Slots :=
  let u := kget (fun _ => Slots.init) s.slots b
  if u.tick = s.ticks then u
  else { tick := s.ticks, i := 0, d := 0, lent := u.lent - 2 * slotsPerTick * (s.ticks - u.tick) }

/-- k slots of bank b are left unused in the present fabric cycle (R32). -/
def slotFree (s : State) (b k : Nat) : Bool :=
  let u := slotsNow s b
  decide (u.i + u.d + u.lent + k ≤ 2 * slotsPerTick)

/-- The core clock of the package: two core cycles to a fabric cycle (R25). -/
def coreNow (s : State) : Nat := 2 * s.ticks

/-- A remote timed request has taken a slot D of bank b in the present fabric cycle (R33). -/
def stolenNow (s : State) (b : Nat) : Bool :=
  let p := kget (fun _ => (0, 0)) s.steals b
  decide (p.2 ≠ 0 ∧ p.1 = coreNow s)

/-- What makes an access: the instruction port or the data port of a core, or another agent of a die. -/
inductive Agent where
  | fetch (n : Nat)
  | data (n : Nat)
  | die (d : Nat)
  deriving DecidableEq, Repr

/-- The die of a requester. -/
def Agent.dieOf (g : Agent) : Nat :=
  match g with
  | .fetch n => n / 16
  | .data n => n / 16
  | .die d => d

/-- The core whose port makes the access. -/
def Agent.coreOf (g : Agent) : Option Nat :=
  match g with
  | .fetch n => some n
  | .data n => some n
  | .die _ => none

/-- The core cycles that an access to bank b loses to others (R32, R33, R248): the data port in its own bank where slot D has been
stolen, another requester where the bank's own ports have used every slot (notes/assumptions/74.md). -/
def slotLost (s : State) (b : Nat) (g : Agent) : Nat :=
  let u := slotsNow s b
  if g = .fetch b then 0
  else if g = .data b then (if stolenNow s b ∧ u.d = 1 then 1 else 0)
  else if 2 * slotsPerTick ≤ u.i + u.d then 1 else 0

/-- An access takes k slots of bank b: those of its own port, which owns them (R31), or slots left unused (R32). -/
def Slots.take (u : Slots) (b : Nat) (g : Agent) (k : Nat) : Slots :=
  if g = .fetch b then { u with i := u.i + k } else if g = .data b then { u with d := u.d + k } else { u with lent := u.lent + k }

/-- An access takes k slots of a bank, and the cycles that a core loses by it count in PC_MEMSTALL (R31, R32, R248). -/
def bookSlots (s : State) (b : Nat) (g : Agent) (k : Nat) : State :=
  let s1 := match g.coreOf with
    | some n => perf s n (coreAt s n).cur 69 (slotLost s b g)
    | none => s
  { s1 with slots := kset (fun _ => Slots.init) s1.slots b ((slotsNow s b).take b g k) }

/-! ## Granted accesses (R31, R351) -/

/-- The place that grants an access: a bank, or an external memory port (128 on). -/
def grantorOf (pa : Nat) : Nat := if pa / 134217728 = 0 then pa / 65536 else 128 + (pa / 134217728 - 4) / 2

/-- Accesses granted to a pool frame by a requester on a die: its bank or port reports each 64th (R351). -/
def noteHeat (s : State) (die pa count : Nat) : State :=
  if (poolDie s (pa / 1024)).isSome then
    let k := kget (fun _ => 0) s.heatCnt (grantorOf pa) + count
    { s with heatCnt := kset (fun _ => 0) s.heatCnt (grantorOf pa) (k % 64)
             heatDue := s.heatDue ++ List.replicate (k / 64) (pa / 1024, die) }
  else s

/-- A bank or port grants an access of k slots: the slots are used, and the access counts for the report of heat. -/
def noteAccess (s : State) (g : Agent) (pa k : Nat) : State :=
  noteHeat (if inBanks s pa then bookSlots s (pa / 65536) g k else s) g.dieOf pa 1

/-- A bank or port grants accesses of one slot each to one frame. -/
def noteMany (s : State) (g : Agent) (pa count : Nat) : State :=
  noteHeat (if inBanks s pa then bookSlots s (pa / 65536) g count else s) g.dieOf pa count

/-- The slots that a write of a word takes: two in a marked page (R334). -/
def writeSlots (s : State) (pa : Nat) : Nat := if marked s pa then 2 else 1

/-- A read of a stored word by a requester. -/
def readFor (s : State) (g : Agent) (pa : Nat) : Option (Word × Bool) × State := memRead (noteAccess s g pa 1) pa

/-- A write of a stored word by a requester. -/
def putFor (s : State) (g : Agent) (pa : Nat) (w : Word) (tag : Bool) : State :=
  memPut (noteAccess s g pa (writeSlots s pa)) pa w tag

/-! ## Waiting requests (R32, Table 1.3) -/

/-- The requesters of Table 1.3, numbered in the order that breaks a tie (R32). -/
inductive Requester where
  | timed | dma | bulk
  deriving DecidableEq, Repr

/-- The budget of a requester in core cycles (Table 1.3). -/
def Requester.budget (r : Requester) : Nat :=
  match r with
  | .timed => 24
  | .dma => 64
  | .bulk => 256

/-- The place of a requester in a tie (R32). -/
def Requester.rank (r : Requester) : Nat :=
  match r with
  | .timed => 0
  | .dma => 1
  | .bulk => 2

/-- The virtual channel of an access by its compartment (R36): timed for a timed compartment. -/
def stampRequester (s : State) (st : Stamp) : Requester :=
  if clsTimed (compcls s st.die.toNat st.comp.toNat) then .timed else .bulk

/-! ## Waits on a held entry (R339, R340) -/

/-- A walk that a unit of block n makes for a page (0 DMA engine, 1 rule-set loader, 2 CTXBIND STOP, 3 the commit of a task's move)
has waited on a held entry for more than 65,536 core cycles (R340). -/
def heldTooLong (s : State) (n u vpn : Nat) : Bool :=
  match kget (fun _ => none) (coreAt s n).unitHeld u with
  | some (p, t) => p == vpn && decide (65536 < coreNow s - t)
  | none => false

/-- The unit waits on the held entry of a page; the time of a wait on it goes on. -/
def unitWaits (s : State) (n u vpn : Nat) : State :=
  let c := coreAt s n
  match kget (fun _ => none) c.unitHeld u with
  | some (p, _) => if p = vpn then s else setCore s n { c with unitHeld := kset (fun _ => none) c.unitHeld u (some (vpn, coreNow s)) }
  | none => setCore s n { c with unitHeld := kset (fun _ => none) c.unitHeld u (some (vpn, coreNow s)) }

/-- The unit waits on no entry. -/
def unitGoesOn (s : State) (n u : Nat) : State :=
  setCore s n { coreAt s n with unitHeld := kset (fun _ => none) (coreAt s n).unitHeld u none }

/-- A request that waits at a bank: what asks, and its deadline (R32). -/
structure Waiting where
  who : Requester
  deadline : Nat
  deriving DecidableEq, Repr

/-- The request of a requester that arrived at a cycle. -/
def waitingFrom (r : Requester) (since : Nat) : Waiting := { who := r, deadline := since + r.budget }

/-- a is served before b (R32): the earlier deadline, in a tie the lower rank. -/
def Waiting.before (a b : Waiting) : Bool :=
  decide (a.deadline < b.deadline) || (decide (a.deadline = b.deadline) && decide (a.who.rank < b.who.rank))

/-- The request at bank b of the access that holds stage M of core n. -/
def loadWaits (s : State) (n b : Nat) : Option Waiting :=
  match (coreAt s n).mstage with
  | some m =>
    if n ≠ b ∧ m.pa / 65536 = b ∧ m.remote = false then some (waitingFrom (stampRequester s m.stamp) m.since) else none
  | none => none

/-- The request at bank b of the oldest buffered store of core n. -/
def storeWaits (s : State) (n b : Nat) : Option Waiting :=
  match (coreAt s n).sb with
  | e :: _ => if n ≠ b ∧ e.pa / 65536 = b then some (waitingFrom (stampRequester s e.stamp) e.since) else none
  | [] => none

/-- The request at bank b of the fetch that core n waits for. -/
def fetchWaits (s : State) (n b : Nat) : Option Waiting :=
  match (coreAt s n).fetchAt with
  | some (pa, t) =>
    if n ≠ b ∧ pa / 65536 = b then some (waitingFrom (stampRequester s (stampOf s n (coreAt s n).cur 0)) t) else none
  | none => none

/-- The request at bank b of the DMA engine of its block. -/
def dmaWaits (s : State) (b : Nat) : Option Waiting := (coreAt s b).dmaAt.map (waitingFrom .dma)

/-- The request at bank b of the sweeper of its region (R128). -/
def sweepWaits (s : State) (b : Nat) : Option Waiting :=
  let w := sweep s (b / 4)
  match w.asked with
  | some t => if w.on && decide (w.addr / 65536 = b) then some (waitingFrom .bulk t) else none
  | none => none

/-- The requests that wait at bank b: of the cores that `live` admits, of the block's DMA engine and of the region's sweeper. -/
def waitingAt (s : State) (b : Nat) (live : Nat → Bool) : List Waiting :=
  (coreNos s).flatMap (fun n => if live n then
      (loadWaits s n b).toList ++ (storeWaits s n b).toList ++ (fetchWaits s n b).toList else []) ++
    (dmaWaits s b).toList ++ (sweepWaits s b).toList

/-- A request of k slots at bank b may be served now: they are unused, and no other request goes first (R31, R32, R93). -/
def grantNow (s : State) (b : Nat) (live : Nat → Bool) (w : Waiting) (k : Nat) : Bool :=
  slotFree s b k && (waitingAt s b live).all (fun v => !v.before w)

/-- A request of k slots of a unit that repeats it until it is granted: an address outside the banks has no arbiter of slots. -/
def unitGranted (s : State) (pa : Nat) (live : Nat → Bool) (since k : Nat) : Bool :=
  !inBanks s pa || grantNow s (pa / 65536) live (waitingFrom .bulk since) k

end Sys2Proof.Machine
end

