-- ==== Sys2Proof/Machine/Translate.lean ====
section
/-! DEFINITION. Translation (R308 to R331): the walk, the TLBs, held entries, and posted invalidations. -/

namespace Sys2Proof.Machine

/-- FAUX for vector 11 (Table 7.6). -/
def walkFaux (lvl ea : Nat) : Word := fval 35 34 lvl ||| fval 29 0 ea

/-- table_load of R313: a physical word load with no gate check (R314). -/
def tableLoad (n va lvl a : Nat) : X Word := do
  if 1 ≤ a / 134217728 ∧ a / 134217728 ≤ 3 then fault 11 4 va (walkFaux lvl a)
  let s ← get
  match memReach s a with
  | .ok =>
    let r ← act (fun s => readFor s (.data n) a)
    match r with
    | some (w, _) => return w
    | none => fault 11 6 va (walkFaux lvl a)
  | r => do
    upd (fun s => reachRecord s (n / 16) a r)
    fault 11 5 va (walkFaux lvl a)

/-- A list of at most `cap` entries with one more at the end: the oldest filled entry leaves (Table 7.7). -/
def fillTo {α : Type} (cap : Nat) (l : List α) (e : α) : List α := (l ++ [e]).drop (l.length + 1 - cap)

/-- The ways of the second-level set of a page, the next to be replaced first once all four have been filled (Table 7.7). -/
def l2Set (c : Core) (vpn : Nat) : List (Option TlbEntry) := kget (fun _ => []) c.l2tlb (vpn % 64)

/-- Fills the first-level TLB of the access (R318). -/
def Core.fillL1 (c : Core) (k : Kind) (e : TlbEntry) : Core :=
  match k with
  | .fetch => { c with itlb := fillTo 16 c.itlb e }
  | _ => { c with dtlb := fillTo 16 c.dtlb e }

/-- Fills the second-level TLB, its ways in turn whether or not an invalidation has emptied one (Table 7.7,
notes/assumptions/75.md), and the first-level TLB after a walk (R318, R319). -/
def Core.fillWalk (c : Core) (k : Kind) (e : TlbEntry) : Core :=
  { c.fillL1 k e with l2tlb := kset (fun _ => []) c.l2tlb (e.vpn % 64) (fillTo 4 (l2Set c e.vpn) (some e)) }

/-- The first-level TLB of an access. -/
def Core.l1 (c : Core) (k : Kind) : List TlbEntry :=
  match k with
  | .fetch => c.itlb
  | _ => c.dtlb

/-- The entry of a list of TLB entries for a page. -/
def tlbFind (l : List TlbEntry) (vpn : Nat) : Option TlbEntry := l.find? (fun e => e.vpn == vpn)

/-- A translation found: the entry, and the level and address a WP fault reports (R313). -/
structure Xlat where
  e : TlbEntry
  lvl : Nat
  ea : Nat
  deriving DecidableEq, Repr

/-- The L2 part of the walk at e2a (R313); `hold` acts on a held entry. -/
def walkL2 (n va e2a : Nat) (hold : X Xlat) : X Xlat := do
  let e2 ← tableLoad n va 2 e2a
  if fld e2 31 30 ≠ 0 then fault 11 3 va (walkFaux 2 e2a)
  if fld e2 35 34 = 0 then fault 11 2 va (walkFaux 2 e2a)
  if bit e2 33 = false ∧ 2 ≤ fld e2 35 34 then fault 11 3 va (walkFaux 2 e2a)
  if fld e2 35 34 = 3 then fault 11 9 va (walkFaux 2 e2a)
  if fld e2 35 34 = 1 then
    return { e := { vpn := va / 1024, frame := fld e2 29 10, wp := bit e2 32 }, lvl := 2, ea := e2a }
  hold

/-- The walk of R313 from the L1 load. -/
def walk (n ttb va : Nat) (hold : Nat → X Xlat) : X Xlat := do
  let e1a := ttb * 1024 + va / 1048576
  let e1 ← tableLoad n va 1 e1a
  if fld e1 35 34 = 0 then fault 11 1 va (walkFaux 1 e1a)
  if fld e1 35 34 = 3 then fault 11 3 va (walkFaux 1 e1a)
  if fld e1 35 34 = 2 then
    if bit e1 33 = true ∨ fld e1 31 30 ≠ 0 ∨ fld e1 19 10 ≠ 0 then fault 11 3 va (walkFaux 1 e1a)
    return { e := { vpn := va / 1024, frame := fld e1 29 20 * 1024 + va / 1024 % 1024, wp := bit e1 32 },
             lvl := 1, ea := e1a }
  if fld e1 33 30 ≠ 0 then fault 11 3 va (walkFaux 1 e1a)
  let e2a := fld e1 29 10 * 1024 + va / 1024 % 1024
  walkL2 n va e2a (hold e2a)

/-- A held walk is released; its wait counts in HELDMAX of the core's die (R339, R364). -/
def releaseWalk (s : State) (n : Nat) : State :=
  match (coreAt s n).held with
  | none => s
  | some w =>
    let pg := sedgePg (n / 16)
    let t := min 262143 ((coreAt s n).cyc - w.since)
    let s1 := rset (evPut s pg 33 (fval 17 0 (max (fld (evNow s pg 33) 17 0) t))) pg 33 (fval 17 0 (max (rfld s pg 33 17 0) t))
    setCore s1 n { coreAt s1 n with held := some { w with released := true } }

/-- The hold limit of a walk that has waited since a core cycle has passed (R340). -/
def holdPassed (s : State) (n since : Nat) : Bool := decide (65536 < (coreAt s n).cyc - since)

/-- The walk of a core meets a held entry: translation cause 8 past the hold limit (R340), else the access waits (R339), and the core
keeps the page, the entry's address and the cycle at which the wait of this access began. -/
def holdWalk (n va since : Nat) (e2a : Nat) : X Xlat := do
  let s ← get
  if holdPassed s n since then do
    upd (fun s => releaseWalk s n)
    fault 11 8 va (walkFaux 2 e2a)
  else do
    upd (fun s => setCore s n { coreAt s n with held := some { va := va, e2a := e2a, since := since, released := false } })
    throw .wait

/-- The walk of an access of a core, resumed at its L2 load after a release (R339), or from its L1 load after an
invalidation of its page (R324); the time it has waited goes on (R340). -/
def coreWalk (n va : Nat) : X Xlat := do
  let s ← get
  let c := coreAt s n
  let ttb := fld (rget s (corePg n) 176) 29 10
  match c.held with
  | some hw =>
    if hw.va / 1024 = va / 1024 then
      if hw.restart then walk n ttb va (holdWalk n va hw.since)
      else if hw.released then walkL2 n va hw.e2a (holdWalk n va hw.since hw.e2a)
      else holdWalk n va hw.since hw.e2a
    else walk n ttb va (holdWalk n va c.cyc)
  | none => walk n ttb va (holdWalk n va c.cyc)

/-- What a unit's accesses leave of the wait of a core's own access: as it was. -/
def keepHeld (s s1 : State) (n : Nat) : State := setCore s1 n { coreAt s1 n with held := (coreAt s n).held }

/-- Finds the translation of a page: first-level TLB, second-level TLB, walk (R313, R318, R319). A completed walk fills the
TLBs before its WP bit is looked at, as the pseudocode of R313 does, so cause 7 after a walk leaves them filled; R316 says of a
walk that faults that it fills none (DESIGN CHOICE, notes/assumptions/75.md). -/
def lookup (n va : Nat) (k : Kind) : X Xlat := do
  let s ← get
  let c := coreAt s n
  match tlbFind (c.l1 k) (va / 1024) with
  | some e => return { e := e, lvl := 0, ea := 0 }
  | none =>
    match tlbFind ((l2Set c (va / 1024)).filterMap (fun e => e)) (va / 1024) with
    | some e =>
      upd (fun s => setCore s n ((coreAt s n).fillL1 k e))
      return { e := e, lvl := 0, ea := 0 }
    | none =>
      let t ← coreWalk n va
      upd (fun s => setCore s n { (coreAt s n).fillWalk k t.e with held := none })
      return t

/-- translate (R313) for an access of core n. -/
def translate (n va : Nat) (k : Kind) : X Nat := do
  let s ← get
  if !bit (rget s (corePg n) 176) 35 then return va
  let t ← lookup n va k
  if k.writes ∧ t.e.wp then fault 11 7 va (walkFaux t.lvl t.ea)
  return t.e.frame * 1024 + va % 1024

/-! ## Invalidation (R322 to R327) -/

/-- Whether a page falls in the scope of an invalidation. -/
def Scope.covers (p : Scope) (vpn : Nat) : Bool :=
  match p with
  | .page v => v == vpn
  | .sect t => t == vpn / 1024
  | .all => true

/-- Removes the matching entries from the TLBs of a core block and its DMA engine, and restarts a matching walk
in progress from its L1 load (R322, R324). -/
def Core.invalidate (c : Core) (p : Scope) : Core :=
  let keep := fun (e : TlbEntry) => !p.covers e.vpn
  { c with
    itlb := c.itlb.filter keep, dtlb := c.dtlb.filter keep, dmatlb := c.dmatlb.filter keep,
    l2tlb := (c.l2tlb.map (fun e => (e.1, e.2.map (fun o => o.filter keep)))).filter (fun e => e.2.any Option.isSome),
    held := match c.held with
      | some hw => some (if p.covers (hw.va / 1024) then { hw with released := true, restart := true } else hw)
      | none => none }

/-- Whether a core block has an access outstanding under a matching translation (R324). -/
def Core.outstanding (c : Core) (p : Scope) : Bool :=
  c.sb.any (fun e => p.covers (e.va / 1024)) ||
  (match c.mstage with | some m => p.covers (m.va / 1024) | none => false)

/-- Core blocks that must acknowledge a post: those not in Retain or Off and not isolated (R327), and not held in reset: a core in
reset has no TLB entry (R320) and R327 is silent on it (DESIGN CHOICE, notes/assumptions/75.md). -/
def postTargets (s : State) : List Nat :=
  (coreNos s).filter (fun n =>
    let d := dom s (domKey (n / 16) (n % 16))
    !d.held && d.st != .off && d.st != .retain && !isolatedRegion s (n / 4))

/-- A core block performs the posted invalidations that it has not performed yet (R324, R327). -/
def performPosts (s : State) (n : Nat) : State :=
  setCore s n (s.posts.foldl (fun c p => if p.todo.contains n then c.invalidate p.scope else c) (coreAt s n))

/-- Posts an invalidation to the core blocks of a list (R322, R325, R355); one with no receiver is complete at
once and is not kept. -/
def postInval (s : State) (p : Poster) (sc : Scope) (dests : List Nat) : State :=
  if dests.isEmpty then { s with postId := s.postId + 1 }
  else { s with postId := s.postId + 1,
                posts := s.posts ++ [{ id := s.postId, poster := p, scope := sc, todo := dests, acking := [] }] }

/-- TLBI and TLBIA: the issuing block at once, every other block by post (R322, R325). -/
def tlbInvalidate (s : State) (n h : Nat) (sc : Scope) : State :=
  postInval (setCore s n ((coreAt s n).invalidate sc)) (.core n h) sc ((postTargets s).filter (fun m => m != n))

/-- Removes the invalidations of a core block that has left service: its acknowledgement is given at once
(R327). -/
def ackAll (s : State) (n : Nat) : State :=
  let rest := s.posts.map (fun p =>
    { p with todo := p.todo.filter (fun m => m != n), acking := p.acking.filter (fun m => m != n) })
  { s with posts := rest.filter (fun p => !(p.todo.isEmpty && p.acking.isEmpty)) }

end Sys2Proof.Machine
end

