-- ==== Sys2Proof/Machine/Resolve.lean ====
section
/-! DEFINITION. What an access and an entry share: the checks of an address (R370 to R382, Table 6.1), a word written at once
(R281), the state that an entry saves and RFE restores (R178, R274, R281, R283, R284), the wake of a core (R623). -/

namespace Sys2Proof.Machine

/-! ## The checks of an address -/

/-- The bus error of an access that its target does not answer (Table 6.1, R35, R48, R57, R618). -/
def busFault {α : Type} (n va pa : Nat) (r : Reach) : X α := do
  upd (fun s => reachRecord s (n / 16) pa r)
  let c ← if r = .parity then act parityCause else pure (match r with | .unpopulated => 1 | .isolated => 4 | _ => 3)
  fault 8 c va 0

/-- The instruction fault of a fetch that its target does not answer (Table 6.1, R35, R48, R57, R618). -/
def fetchFault {α : Type} (n va pa : Nat) (r : Reach) : X α := do
  upd (fun s => reachRecord s (n / 16) pa r)
  let c ← if r = .parity then act parityCause else pure (match r with | .isolated => 4 | _ => 2)
  fault 9 c va 0

/-- The master gate's check of a core's access (R370, R378, R382). -/
def masterGate (n h : Nat) (st : Stamp) (pa : Nat) (k : Kind) : X Unit := do
  let s ← get
  match slotOf s pa with
  | none => return ()
  | some slot =>
    if masterChecks s pa then
      match masterCheck ((coreAt s n).set (ctxAt s n h).setB) slot pa k st.priv.toNat false with
      | none => return ()
      | some w => do
        upd (fun s => gateCapture s (mgatePg n) 8 pa st k slot w)
        fault 12 k.cause pa (gateFaux 1 st slot w)

/-- The target gate's check of an access that is refused precisely (Table 8.10). -/
def targetGate (st : Stamp) (pa : Nat) (k : Kind) : X Unit := do
  let s ← get
  if targetOk s st pa k then return ()
  else do
    upd (fun s => targetCapture s st pa k)
    fault 12 4 pa (gateFaux 2 st ((slotOf s pa).getD 0) 7)

/-- Translation and master gate of a data access: the physical address and the stamp (R371). -/
def resolve (n h va priv : Nat) (k : Kind) : X (Nat × Stamp) := do
  let pa ← translate n va k
  let s ← get
  let st := stampOf s n h priv
  masterGate n h st pa k
  return (pa, st)

/-- Whether an address lies in the register page space. -/
def isPage (pa : Nat) : Bool := decide (pa / 134217728 = 1)

/-- A word written at its bank or port at once, with precise errors (multi-word stores and entry writes,
notes/assumptions/14.md). -/
def writeThrough (n va pa : Nat) (st : Stamp) (k : Kind) (data : Word) (tag : Bool) : X Unit := do
  let s ← get
  match memReach s pa with
  | .ok =>
    targetGate st pa k
    upd (fun s => putFor s (.data n) pa data tag)
  | r => busFault n va pa r

/-! ## Saved state -/

/-- The base of the active task-state block of a context (R274, R296). -/
def Ctx.tsbBase (x : Ctx) : Nat := x.tsp.cursor % 2 ^ 30 / 32 * 32

/-- Every multiply in flight writes MH:ML, in issue order (R176, R178). -/
def Ctx.finishMuls (x : Ctx) : Ctx :=
  x.muls.foldl (fun y m => { y with mh := m.mh, ml := m.ml }) { x with muls := [] }

/-- The products of a context that are due by a core cycle write MH:ML, in issue order (R174, R176, R177). -/
def Ctx.landDue (x : Ctx) (cyc : Nat) : Ctx :=
  (x.muls.takeWhile (fun m => decide (m.due ≤ cyc))).foldl (fun y m => { y with mh := m.mh, ml := m.ml })
    { x with muls := x.muls.dropWhile (fun m => decide (m.due ≤ cyc)) }

/-- A load of Proof whose result is not yet visible writes its register (R214). -/
def Ctx.landLoad (x : Ctx) : Ctx :=
  match x.proofLoad with
  | none => x
  | some p =>
    let y := { x with proofLoad := none }
    if p.isCap then y.cphysSet p.reg p.val else y.wphysSet p.reg p.val.lo

/-- The words of the interrupted state in the order of Table 6.3 and Table 6.4: PSW, WIN, MLV, SSP, MH, ML, DQ,
DM, QW, RSM_0, RSM_1. -/
def Ctx.saveWords (s : State) (h : Nat) (x : Ctx) : List Word :=
  [pswOf s h x, x.win, x.mlv.setWidth 36, x.ssp, x.mh, x.ml, x.dq, x.dm, x.qw, x.rsm0, x.rsm1]

/-- A page of this package as a core's load or store reaches it: reach, then target gate. -/
def pageGate (n va pa pg : Nat) (st : Stamp) (k : Kind) : X Unit := do
  let s ← get
  match portReach s pg with
  | .ok => targetGate st pa k
  | r => busFault n va pa r

/-- Whether an address names a page of another package that is a member of the stack (R61, R62, R548). -/
def remoteMember (s : State) (pa : Nat) : Bool :=
  isPage pa && (match pageAddr s pa with | .there k => s.stack.members.getLsbD k | _ => false)

/-- An access of another form than a word load or store at a register page: after the page's reach and its target gate
(R705) it is refused (R64). -/
def pageForm {α : Type} (n va pa : Nat) (st : Stamp) (k : Kind) : X α := do
  let s ← get
  match pageAddr s pa with
  | .here pg _ => pageGate n va pa pg st k
  | _ => if !remoteMember s pa then busFault n va pa .unpopulated
  fault 8 2 va 0

/-- One word written by an entry (virtual address, data, tag): translated, checked by the gates at Executive
privilege and performed at once (R281, notes/assumptions/14.md, notes/assumptions/15.md). A register page takes no
such write (R64). -/
def entryWrite (n h : Nat) (w : Nat × Word × Bool) : X Unit := do
  let (pa, st) ← resolve n h w.1 0 .store
  if isPage pa then pageForm n w.1 pa st .store
  writeThrough n w.1 pa st .store w.2.1 w.2.2

/-- Untagged words at consecutive addresses. -/
def untagged (a : Nat) (ws : List Word) : List (Nat × Word × Bool) :=
  ws.zipIdx.map (fun p => (a + p.2, p.1, false))

/-- A capability as two tagged words at a pair address. -/
def capWords (a : Nat) (c : Cap) : List (Nat × Word × Bool) := [(a, c.hi, c.tag), (a + 1, c.lo, c.tag)]

/-- The state that an entry saved (Table 6.3, Table 6.4). -/
structure Saved where
  pcc : Cap
  words : List Word
  c6 : Cap
  c7 : Cap
  bank : List Word
  deriving DecidableEq, Repr

/-- The k-th saved word: 0 PSW, 1 WIN, 2 MLV, 3 SSP, 4 MH, 5 ML, 6 DQ, 7 DM, 8 QW, 9 RSM_0, 10 RSM_1. -/
def Saved.word (v : Saved) (k : Nat) : Word := (v.words[k]?).getD 0

/-- The defined fields of PSW that a context holds (Table 4.5). -/
def pswMask : Word := fmask 29 22 ||| fmask 7 7 ||| fmask 4 4 ||| fmask 1 0

/-- Restores the fault bank from saved words. -/
def Ctx.putBank (x : Ctx) (ws : List Word) : Ctx := ws.zipIdx.foldl (fun y p => y.wphysSet (200 + p.2) p.1) x

/-- The context that RFE restores (R283, R284). A saved PCC that is sealed loses its tag where RADJ moves its cursor (R98), and FSP
its tag where its cursor leaves the representable region (R101). -/
def Ctx.restored (x : Ctx) (long : Bool) (radj : Word) (v : Saved) : Ctx :=
  let y := if long then x.putBank v.bank else x
  let z := (y.cphysSet 6 v.c6).cphysSet 7 v.c7
  let q := z.setQw (v.word 8)
  { q with
    psw := v.word 0 &&& pswMask
    win := v.word 1 &&& fmask 5 0
    mlv := (v.word 2).setWidth 4
    ssp := v.word 3
    mh := v.word 4, ml := v.word 5, dq := v.word 6, dm := v.word 7
    rsm0 := v.word 9 &&& (fmask 35 33 ||| fmask 29 0)
    rsm1 := v.word 10 &&& fmask 31 0
    pcc := v.pcc.retarget (v.pcc.cursor + sval radj)
    fsp := x.fsp.move (x.fsp.cursor + (if long then 64 else 16) : Nat) }

/-- The words that entries of the queue hold; a marked entry holds none (R230). -/
def pqWords (q : List PqEntry) : Nat := (q.filter (fun e => e.word.isSome)).length

/-- Discards the queue; each word counts in PC_PFDISC (R227, R228). -/
def discardPq (s : State) (n h : Nat) : State :=
  let c := coreAt s n
  perf (setCore s n { c with pq := [], fetchStop := false }) n h 71 (pqWords c.pq)

/-! ## Wake -/

/-- A core in Hold with WAKE = 1 and a context that has become Ready begins to return to Run, and REQ reads Run (R616, R623). -/
def wakeCore (s : State) (n : Nat) : State :=
  let k := domKey (n / 16) (n % 16)
  let d := dom s k
  if d.st = .hold ∧ d.wake = true ∧ d.held = false ∧ d.target = none ∧ (List.range 4).any (fun h => (ctxAt s n h).st == .ready) then
    setDom s k { d with req := 0, target := some (.run, s.ticks + 16) }
  else s

end Sys2Proof.Machine
end

