-- ==== Sys2Proof/Machine/Revoke.lean ====
section
/-! DEFINITION. The revocation test (R118 to R120, R127, R139) and the tag that the filter leaves (R110). -/

namespace Sys2Proof.Machine

/-- revoked(x) through the sweeper of region g (R118); a bitmap read that fails counts as revoked and is
captured with cause 0o10 (R139). An address of no memory word counts as a failed read (notes/assumptions/13.md). -/
def revoked (s : State) (g x : Nat) : Bool × State :=
  match bitmapAt s g x with
  | none => (false, s)
  | some (a, b) =>
    match memReach s a with
    | .ok =>
      match readFor s (.die (g / 4)) a with
      | (some (w, _), s1) => (bit w b, s1)
      | (none, s1) => (true, capture s1 (swpPg g) 8 a)
    | _ => (true, capture (memMiss s (g / 4) a) (swpPg g) 8 a)

/-- The tag a capability pair carries through a load or store: kept unless the filter is active and its base is
revoked (R110). -/
def filterTag (s : State) (g : Nat) (c : Cap) : Bool × State :=
  if c.tag && filtering s then
    let r := revoked s g c.base
    (!r.1, r.2)
  else (c.tag, s)

end Sys2Proof.Machine
end

