-- ==== Sys2Proof/Machine/Select.lean ====
section
/-! DEFINITION. Selection of the issuing context (R261) and pending interrupts (R268 to R270). -/

namespace Sys2Proof.Machine

/-! ## When a core issues -/

/-- Whether core n exists and runs: it is clocked and out of reset, its region is not isolated
and the package is past boot and not in Mire (R30, R640, R647). -/
def coreLive (s : State) (n : Nat) : Bool :=
  decide (n < 16 * s.part.dies) && s.frozen.isNone && s.safety != .mire && s.safety != .boot && coreRuns s n &&
  !isolatedRegion s (n / 4)

/-- Whether core n issues now: no load holds stage M and no division occupies it (R143, R179, R223). -/
def coreIssues (s : State) (n : Nat) : Bool :=
  coreLive s n && (coreAt s n).mstage.isNone && ((ctxAt s n (coreAt s n).cur).div).isNone

/-! ## Selection and pending interrupts -/

/-- CTX_h.PRI of a core. -/
def ctxPri (s : State) (n h : Nat) : Nat := rfld s (corePg n) (128 + h) 33 32

/-- A context that may be selected: Ready, and not halted unless it steps (R260, R664, R665). -/
def Ctx.selectable (x : Ctx) : Bool := x.st == .ready && (!x.halted || x.stepping)

/-- The better of two candidates (MLV, PRI, h): highest MLV, then highest PRI, then lowest h (R261). -/
def better (a b : Nat × Nat × Nat) : Nat × Nat × Nat :=
  if a.1 < b.1 ∨ (a.1 = b.1 ∧ a.2.1 < b.2.1) then b else a

/-- The best of a list of candidates, taken in order of h (R261). -/
def bestOf (l : List (Nat × Nat × Nat)) : Option (Nat × Nat × Nat) :=
  match l with
  | [] => none
  | a :: r => some (r.foldl better a)

/-- The context R261 selects, if `up h` gives a raised level to a context that would become Ready. -/
def selectWith (s : State) (n : Nat) (up : Nat → Option Nat) : Option Nat :=
  (bestOf ((List.range 4).filterMap (fun h =>
    let x := ctxAt s n h
    match up h with
    | some l => some (l, ctxPri s n h, h)
    | none => if x.selectable then some (x.mlv.toNat, ctxPri s n h, h) else none))).map (fun t => t.2.2)

/-- The context that R261 selects. -/
def selected (s : State) (n : Nat) : Option Nat := selectWith s n (fun _ => none)

/-- The route register of a line. -/
def route (s : State) (n i : Nat) : Word := rget s (corePg n) (80 + i)

/-- Whether line i of core n is pending (R268). -/
def linePending (s : State) (n i : Nat) : Bool :=
  let r := route s n i
  bit r 35 && decide (1 ≤ fld r 32 29 ∧ fld r 32 29 ≤ 14) && pageDrives s (fld r 17 14 * 2048 + fld r 13 3)

/-- The interrupt that R270 takes for a context: highest level above its MLV, then lowest line, as
(level, line). -/
def lineFor (s : State) (n h : Nat) : Option (Nat × Nat) :=
  ((List.range 40).filter (fun i =>
    linePending s n i && decide (fld (route s n i) 34 33 = h ∧ (ctxAt s n h).mlv.toNat < fld (route s n i) 32 29))).foldl
    (fun b i =>
      let l := fld (route s n i) 32 29
      match b with
      | none => some (l, i)
      | some (l0, i0) => if l0 < l then some (l, i) else some (l0, i0)) none

/-- A context to which an interrupt may be taken: Ready or Waiting, not halted (R263, R664), and not at a handler's first
instruction (R301). -/
def Ctx.interruptible (x : Ctx) : Bool :=
  (x.st == .ready || x.st == .waiting) && (!x.halted || x.stepping) && !x.fresh

/-- The issuing context is at a handler's first instruction, before whose issue no line is compared with MLV (R301). -/
def handlerFirst (s : State) (n : Nat) : Bool :=
  (ctxAt s n (coreAt s n).cur).fresh && (ctxAt s n (coreAt s n).cur).selectable

/-- A late store error of the issuing context is due at its boundary, ahead of an interrupt and of a change of context
(R296, R299, R301). -/
def lateDue (s : State) (n : Nat) : Bool :=
  let x := ctxAt s n (coreAt s n).cur
  x.selectable && !x.fresh && !x.lates.isEmpty

/-- A Waiting context that a pending interrupt makes Ready, at its own mask level (R263). -/
def woken (s : State) (n k : Nat) : Option Nat :=
  let x := ctxAt s n k
  if x.st = .waiting ∧ x.halted = false ∧ (lineFor s n k).isSome then some x.mlv.toNat else none

/-- The interrupt due on a core: (context, level, line), taken when the context at that level would be selected;
none before a handler's first instruction has issued (R269, R270, R301). Of two contexts that would both be selected at the level of
their line, the lower number is served first: R270 orders only the lines of one context (DESIGN CHOICE,
notes/assumptions/76.md). -/
def interruptDue (s : State) (n : Nat) : Option (Nat × Nat × Nat) :=
  if handlerFirst s n then none else
  (List.range 4).foldl (fun b h =>
    match b with
    | some x => some x
    | none =>
      if (ctxAt s n h).interruptible then
        match lineFor s n h with
        | some (l, i) =>
          if selectWith s n (fun k => if k = h then some l else woken s n k) = some h then some (h, l, i) else none
        | none => none
      else none) none

end Sys2Proof.Machine
end

