-- ==== Sys2Proof/Machine/GateCmds.lean ====
section
/-! DEFINITION. Rule sets: loading and commit (R377, R384 to R387), direct writes (R393, R394), readiness (R388),
epochs (R395 to R397); target gate entries (R381), GATECFG (R405), and the block DMA engine (R321, R391). -/

namespace Sys2Proof.Machine

/-! ## Sets -/

/-- A set is in use: active in a context that is not Empty, or needed by a running descriptor. -/
def setInUse (c : Core) (b : Bool) : Bool :=
  (c.set b).dma || (List.range 4).any (fun h => (c.ctx h).st != .empty && (c.ctx h).setB == b)

/-- A load of a set is in progress. -/
def setLoading (c : Core) (b : Bool) : Bool := c.rsload.any (fun x => x.1 == b)

/-- Writes a rule set of core block n. -/
def putRules (s : State) (n : Nat) (b : Bool) (r : RuleSet) : State := setCore s n ((coreAt s n).putSet b r)

/-- ready(x, c) of a core's set (R388): Ready, COMP = c, and no load in progress on it. -/
def setReady (c : Core) (b : Bool) (comp : Nat) : Bool :=
  (c.set b).st == .ready && decide ((c.set b).comp = comp) && !setLoading c b

/-- The epochs of the accesses that a master gate has outstanding (R397, R398). -/
def Core.epochs (c : Core) : List (BitVec 16) :=
  ((c.sb.map (fun e => e.stamp.epoch)) ++ (match c.mstage with | some m => [m.stamp.epoch] | none => [])).eraseDups

/-- The Ready set whose COMP is a compartment; set A when both are (R391, R392). -/
def readySetOf (c : Core) (comp : Nat) : Option Bool :=
  if setReady c false comp then some false else if setReady c true comp then some true else none

/-! ## Commit (R377, R384, R385) -/

/-- The reserved bits of an image word (Table 8.8). -/
def imageReserved (i : Nat) : Word :=
  if i = 2 then fmask 35 8
  else if i = 3 ∨ 738 ≤ i then ~~~0
  else if 4 ≤ i ∧ i < 218 then fval 11 11 1 ||| fval 23 23 1 ||| fval 35 35 1
  else 0

/-- The slot of the first reserved bit set in an image word. -/
def reservedSlot (r : RuleSet) (i : Nat) : Option Nat :=
  let w := r.word i &&& imageReserved i
  if w = 0 then none
  else if 4 ≤ i ∧ i < 218 then some (3 * (i - 4) + (if bit w 11 then 0 else if bit w 23 then 1 else 2))
  else some 0

/-- A window's range fault (R377). -/
def windowBad (r : RuleSet) (slot w : Nat) : Bool :=
  let x := r.window slot w
  bit x 35 && (decide (fld x 11 0 < fld x 23 12) || (decide (slot < 128) && decide (63 < fld x 23 12 ∨ 63 < fld x 11 0)))

/-- A window that covers a unit of an earlier window of its slot (R377). -/
def windowOverlaps (r : RuleSet) (slot w : Nat) : Bool :=
  let x := r.window slot w
  bit x 35 && (List.range w).any (fun v =>
    let y := r.window slot v
    bit y 35 && decide (fld y 23 12 ≤ fld x 11 0 ∧ fld x 23 12 ≤ fld y 11 0))

/-- The slots and windows of an image, in order. -/
def allWindows : List (Nat × Nat) := (List.range 130).flatMap (fun s => (List.range 4).map (fun w => (s, w)))

/-- The fault of a commit: FCODE, FSLOT and FWIN; reserved bits, then ranges, then overlaps. -/
def commitFault (r : RuleSet) (words : List Nat) (wins : List (Nat × Nat)) : Option (Nat × Nat × Nat) :=
  match words.filterMap (reservedSlot r) with
  | sl :: _ => some (4, sl, 0)
  | [] =>
    match wins.find? (fun p => windowBad r p.1 p.2) with
    | some p => some (5, p.1, p.2)
    | none => (wins.find? (fun p => windowOverlaps r p.1 p.2)).map (fun p => (6, p.1, p.2))

/-- A set becomes Fault with its reason; the gate captures cause 0o13 (Table 8.13). -/
def setFault (s : State) (n : Nat) (b : Bool) (code slot win : Nat) : State :=
  let c := coreAt s n
  let r := c.set b
  capture (setCore s n (c.putSet b { r with st := .fault, fcode := code, fslot := slot, fwin := win })) (mgatePg n) 11 r.imgva

/-- The commit of a set (R377, R385). -/
def commitSet (s : State) (n : Nat) (b : Bool) : State :=
  let c := coreAt s n
  match commitFault (c.set b) (List.range 768) allWindows with
  | some (code, slot, win) => setFault s n b code slot win
  | none => setCore s n (c.putSet b { c.set b with st := .ready, fcode := 0, fslot := 0, fwin := 0 })

/-- A refused command of the section (R387). -/
def refuseCmd (s : State) (n : Nat) (v : Word) : State := capture s (mgatePg n) 12 (fld v 29 0)

/-! ## The DMA TLB and the loader -/

/-- A walk of unit u of block n that reads a held entry waits (R339), and ends with cause 8 at the hold limit (R340). -/
def unitHold (n u va e2a : Nat) : X Xlat := do
  let s ← get
  if heldTooLong s n u (va / 1024) then fault 11 8 va (walkFaux 2 e2a)
  upd (fun s => unitWaits s n u (va / 1024))
  throw .wait

/-- A translation by the block's DMA engine, for itself (u = 0) or for the loader (u = 1): the core's TTB and the engine's own TLB
of 16 entries (R321, Table 7.7). -/
def dmaTranslate (n u va : Nat) (write : Bool) : X Nat := do
  let s ← get
  let ttb := rget s (corePg n) 176
  if !bit ttb 35 then return va
  match tlbFind (coreAt s n).dmatlb (va / 1024) with
  | some e =>
    if write && e.wp then fault 11 7 va 0
    return e.frame * 1024 + va % 1024
  | none =>
    let t ← walk n (fld ttb 29 10) va (unitHold n u va)
    upd (fun s => unitGoesOn s n u)
    upd (fun s => setCore s n { coreAt s n with dmatlb := fillTo 16 (coreAt s n).dmatlb t.e })
    if write && t.e.wp then fault 11 7 va (walkFaux t.lvl t.ea)
    return t.e.frame * 1024 + va % 1024

/-- A word that the loader reads: no gate checks it; an address that answers no memory word is a bus error (R385). -/
def loaderRead (n va : Nat) : X (Word × Bool) := do
  let pa ← dmaTranslate n 1 va false
  let s ← get
  match memReach s pa with
  | .ok =>
    let r ← act (fun s => readFor s (.die (n / 16)) pa)
    match r with
    | some w => return w
    | none => fault 10 1 va 0
  | r => busFault n va pa r

/-- Image words 2 to 767 in order. -/
def loadWords (n va : Nat) (b : Bool) : List Nat → X Unit
  | [] => return ()
  | i :: r => do
    let w ← loaderRead n (va + i)
    upd (fun s => setCore s n ((coreAt s n).putSet b (((coreAt s n).set b).setWord i w.1)))
    loadWords n va b r

/-- The load of R385: SELF, then the words. -/
def loadImage (n va : Nat) (b : Bool) : X Bool := do
  let hi ← loaderRead n va
  let lo ← loaderRead n (va + 1)
  let c : Cap := { hi := hi.1, lo := lo.1, tag := hi.2 && lo.2 }
  let t ← act (fun s => filterTag s (n / 4) c)
  if t = false ∨ c.otype ≠ 59 ∨ c.base ≠ va ∨ c.top ≠ va + 768 ∨ va % 2 = 1 then return false
  upd (fun s => setCore s n ((coreAt s n).putSet b { (coreAt s n).set b with words := [], fill := 0 }))
  loadWords n va b ((List.range 766).map (fun i => i + 2))
  return true

/-- The load of a set ends, and IRQ_PEND.SETDONE is set (Table 8.13). -/
def endLoad (s : State) (n : Nat) (b : Bool) : State :=
  irqPend (setCore s n { coreAt s n with rsload := (coreAt s n).rsload.filter (fun x => x.1 != b) }) (mgatePg n) 1

/-- A write or a CLEAR of a set whose load runs ends that load: the set is no longer Loading, and an Open set becomes Ready or Fault
only through COMMIT (R393, R394; DESIGN CHOICE, notes/assumptions/24.md). -/
def stopLoad (s : State) (n : Nat) (b : Bool) : State :=
  if setLoading (coreAt s n) b then endLoad s n b else s

/-- The load ends: Ready, Fault, or still waiting on a held entry. IMGVA is set before the commit (R385). -/
def finishLoad (s : State) (n : Nat) (b : Bool) (va : Nat) : State :=
  let ended := fun (s : State) => endLoad (unitGoesOn s n 1) n b
  let tagVa := fun (s : State) => setCore s n ((coreAt s n).putSet b { (coreAt s n).set b with imgva := va })
  match (loadImage n va b) s with
  | .ok true s1 => ended (commitSet (tagVa s1) n b)
  | .ok false s1 => ended (setFault s1 n b 1 0 0)
  | .error (.trap t) s1 => ended (setFault s1 n b (if t.vec = 11 then 2 else 3) 0 0)
  | .error _ s1 => setCore s n { coreAt s n with unitHeld := (coreAt s1 n).unitHeld }

/-! ## Commands of the MGATE page -/

/-- A write to RSLOAD (R385, R387). -/
def rsloadStore (s : State) (n : Nat) (v : Word) : State :=
  unlessLocked s (mgatePg n) 23 (fun s =>
    let c := coreAt s n
    let b := bit v 35
    if setInUse c b || setLoading c b then refuseCmd s n v
    else setCore s n { c.putSet b { c.set b with st := .loading } with rsload := c.rsload ++ [(b, fld v 29 0)] })

/-- RSLOAD (R385). -/
def execRsload (core : BitVec 7) (b : Bool) (va : BitVec 30) (s : State) : Host.Outcome State Fault Refusal :=
  done (unitDo s (mgatePg core.toNat) (fun s =>
    rsloadStore s core.toNat (fval 35 35 (bnat b) ||| va.setWidth 36)))

/-- RSLOAD_DONE (R385, R386): the loader has read the image and commits it (notes/assumptions/24.md). -/
def execRsloadDone (core : BitVec 7) (s : State) : Host.Outcome State Fault Refusal :=
  let n := core.toNat
  done (unitDo s (mgatePg n) (fun s =>
    match (coreAt s n).rsload with
    | (b, va) :: _ => finishLoad s n b va
    | [] => s))

/-- RSCTL.CLEAR (R387, R394): an Empty set holds no rules (Table 8.7, notes/assumptions/73.md). -/
def clearSet (s : State) (n : Nat) (b : Bool) (v : Word) : State :=
  let c := coreAt s n
  if setInUse c b then refuseCmd s n v
  else putRules (stopLoad s n b) n b { RuleSet.init with imgva := (c.set b).imgva }

/-- RSCTL.COMMIT (R385, R387, R394). -/
def commitOpen (s : State) (n : Nat) (b : Bool) (v : Word) : State :=
  if (((coreAt s n).set b).st == .open) = false then refuseCmd s n v else irqPend (commitSet s n b) (mgatePg n) 1

/-- A write to RSCTL. -/
def rsctlStore (s : State) (n : Nat) (v : Word) : State :=
  unlessLocked s (mgatePg n) 26 (fun s =>
    let s1 := if bit v 0 then clearSet s n (bit v 35) v else s
    if bit v 1 then commitOpen s1 n (bit v 35) v else s1)

/-- RSCTL_CLEAR (R394). -/
def execRsctlClear (core : BitVec 7) (b : Bool) (s : State) : Host.Outcome State Fault Refusal :=
  done (unitDo s (mgatePg core.toNat) (fun s => rsctlStore s core.toNat (fval 35 35 (bnat b) ||| fval 0 0 1)))

/-- RSCTL_COMMIT (R394). -/
def execRsctlCommit (core : BitVec 7) (b : Bool) (s : State) : Host.Outcome State Fault Refusal :=
  done (unitDo s (mgatePg core.toNat) (fun s => rsctlStore s core.toNat (fval 35 35 (bnat b) ||| fval 1 1 1)))

/-- The slots that an image word affects (Table 8.8). -/
def slotsOfWord (i : Nat) : List Nat :=
  if 4 ≤ i ∧ i < 218 then [3 * (i - 4), 3 * (i - 4) + 1, 3 * (i - 4) + 2]
  else if 218 ≤ i ∧ i < 738 then [(i - 218) / 4] else []

/-- The set that RSIDX names. -/
def rsSel (s : State) (n : Nat) : Bool := bit (rget s (mgatePg n) 24) 35

/-- A write of word i of an in-use set is refused: word 2, or a slot that fails the checks of a commit (R377, R393). -/
def rsdataRefused (r : RuleSet) (i : Nat) (v : Word) : Bool :=
  let wins := (slotsOfWord i).flatMap (fun sl => if sl < 130 then (List.range 4).map (fun w => (sl, w)) else [])
  decide (i = 2) || (commitFault (r.setWord i v) [i] wins).isSome

/-- A write to RSDATA (R393, R395). -/
def rsdataWrite (s : State) (n : Nat) (v : Word) : State :=
  let c := coreAt s n
  let b := rsSel s n
  let i := rfld s (mgatePg n) 24 9 0
  let r := c.set b
  if i < 2 ∨ 768 ≤ i then s
  else if setInUse c b then
    if rsdataRefused r i v then refuseCmd s n v
    else setCore s n { c.putSet b (r.setWord i v) with epoch := c.epoch + 1 }
  else putRules (stopLoad s n b) n b { r.setWord i v with st := .open }

/-- A write to RSDATA, lockable (R402). -/
def rsdataStore (s : State) (n : Nat) (v : Word) : State :=
  unlessLocked s (mgatePg n) 25 (fun s => rsdataWrite s n v)

/-- An RSDATA write would open a new epoch while accesses of 4 are outstanding: it is held (R397). -/
def rsdataWaits (s : State) (n : Nat) (v : Word) : Bool :=
  let c := coreAt s n
  let i := rfld s (mgatePg n) 24 9 0
  !locked s (mgatePg n) && decide (2 ≤ i ∧ i < 768) && setInUse c (rsSel s n) && !rsdataRefused (c.set (rsSel s n)) i v &&
    decide (4 ≤ c.epochs.length)

/-- Core m waits for an epoch of the master gate of block n; its cycles count in PC_MEMSTALL (R397). -/
def epochStall (s : State) (m n : Nat) : State := setCore s m { coreAt s m with stall := some (.epoch n) }

/-- RSDATA_WRITE (R393): held while it would open a fifth epoch. -/
def execRsdataWrite (core : BitVec 7) (v : Word) (s : State) : Host.Outcome State Fault Refusal :=
  let n := core.toNat
  done (unitDo s (mgatePg n) (fun s =>
    if rsdataWaits s n v then epochStall s n n else rsdataStore s n v))

/-- A read of RSDATA: words 0 and 1 read as 0 (R393). -/
def rsdataLoad (s : State) (n : Nat) : Word :=
  let i := rfld s (mgatePg n) 24 9 0
  if i < 2 ∨ 768 ≤ i then 0 else ((coreAt s n).set (rsSel s n)).word i

/-! ## Target gates and the mode -/

/-- The page of a target gate: a bank's (0 to 127) or a region's (128 on). -/
def gatePg (gate : Nat) : Nat := if gate < 128 then mgatePg gate else regionPg (gate - 128) 40

/-- TARGET_GATE_WRITE (R381): in force for every access after it. -/
def execTargetGateWrite (gate : BitVec 8) (index : BitVec 4) (v : Word) (s : State) : Host.Outcome State Fault Refusal :=
  let g := gate.toNat
  done (if g < 160 then unitDo s (gatePg g) (fun s => plainWrite s (gatePg g) (32 + index.toNat) v) else s)

/-- Whether a request of any core is outstanding (R405). -/
def anyOutstanding (s : State) : Bool := s.cores.any (fun p => !p.2.sb.isEmpty || p.2.mstage.isSome)

/-- A write to GATECFG (R404, R405). -/
def gatecfgStore (s : State) (v : Word) : State :=
  unlessLocked s (pkgPg 0) 40 (fun s =>
    if s.safety = .boot ∨ s.safety = .proof then writeFields s (pkgPg 0) 40 v else captureAt s (pkgPg 0) 24 40)

/-- GATECFG_WRITE (R405): a write to be performed is held while a request checked under the mode before is outstanding. -/
def execGatecfgWrite (v : Word) (s : State) : Host.Outcome State Fault Refusal :=
  done (unitDo s (pkgPg 0) (fun s => 
    if (s.safety = .boot ∨ s.safety = .proof) ∧ locked s (pkgPg 0) = false ∧ anyOutstanding s = true then s
    else gatecfgStore s v))

/-! ## Block DMA (R321, R391, Table 3.9) -/

/-- The stamp of a descriptor's access (Table 8.2). -/
def dmaStamp (s : State) (n : Nat) (x : DmaDesc) (b : Bool) : Stamp :=
  { cls := 1, die := BitVec.ofNat 3 (n / 16), core := BitVec.ofNat 7 n, ctx := 0, comp := x.comp, priv := x.priv, set := b,
    epoch := (coreAt s n).epoch }

/-- The master gate's check of a descriptor's access against the set of its compartment (R369, R391); with no such set, FAUX and
ERR_ATTR name no window. -/
def dmaMaster (n pa : Nat) (x : DmaDesc) (k : Kind) : X Stamp := do
  let s ← get
  let b := readySetOf (coreAt s n) x.comp.toNat
  let st := dmaStamp s n x (b.getD false)
  match slotOf s pa with
  | none => return st
  | some slot =>
    if masterChecks s pa then
      match b with
      | none => do
        upd (fun s => gateCapture s (mgatePg n) 13 pa st k slot 7)
        fault 12 k.cause pa (gateFaux 1 st slot 7)
      | some b =>
        match masterCheck ((coreAt s n).set b) slot pa k x.priv.toNat false with
        | some w => do
          upd (fun s => gateCapture s (mgatePg n) 8 pa st k slot w)
          fault 12 k.cause pa (gateFaux 1 st slot w)
        | none => return st
    else return st

/-- The checks of a descriptor's access after its translation: the master gate, reach and the target gate (R371, R391). A register
page takes no such access (R64). -/
def dmaGate (n va pa : Nat) (x : DmaDesc) (k : Kind) : X Unit := do
  let st ← dmaMaster n pa x k
  if isPage pa then pageForm n va pa st k
  let s ← get
  match memReach s pa with
  | .ok => targetGate st pa k
  | r => busFault n va pa r

/-- A bus error whose cause the spec does not state: a free value (notes/assumptions/4.md). -/
def busError (va : Nat) : X (Word × Bool) := do
  let c ← act (fun s => ((Config.freeValue 6 s.fresh).toNat, { s with fresh := s.fresh + 1 }))
  fault 8 c va 0

/-- A word read by a descriptor; a double-bit error is a bus error (R28). -/
def dmaRead (n va : Nat) (x : DmaDesc) (k : Kind) : X (Word × Bool) := do
  let pa ← dmaTranslate n 0 va false
  dmaGate n va pa x k
  let r ← act (fun s => readFor s (.die (n / 16)) pa)
  match r with
  | some w => return w
  | none => busError va

/-- A word written by a descriptor. -/
def dmaWrite (n va : Nat) (x : DmaDesc) (k : Kind) (w : Word) (tag : Bool) : X Unit := do
  let pa ← dmaTranslate n 0 va true
  dmaGate n va pa x k
  upd (fun s => putFor s (.die (n / 16)) pa w tag)

/-- The tag of a copied pair (Table 3.9): a local capability only with StoreLocal. -/
def dmaTag (dst c : Cap) : Bool := c.tag && (c.has .glob || dst.has .storeLocal)

/-- The units of a descriptor, pairs where capabilities are copied, in ascending order. -/
def dmaCopy (n : Nat) (x : DmaDesc) (pairs : Bool) (fuel i : Nat) : X Unit :=
  match fuel with
  | 0 => return ()
  | f + 1 =>
    let len := x.count.toNat
    if len ≤ i then return ()
    else if pairs && decide (i + 1 < len) then do
      let hi ← dmaRead n (x.src.cursor + i) x .capLoad
      let lo ← dmaRead n (x.src.cursor + i + 1) x .capLoad
      let c : Cap := { hi := hi.1, lo := lo.1, tag := hi.2 && lo.2 }
      let t ← act (fun s => filterTag s (n / 4) { c with tag := dmaTag x.dst c })
      dmaWrite n (x.dst.cursor + i) x .capStore c.hi t
      dmaWrite n (x.dst.cursor + i + 1) x .capStore c.lo t
      dmaCopy n x pairs f (i + 2)
    else do
      let w ← dmaRead n (x.src.cursor + i) x .load
      dmaWrite n (x.dst.cursor + i) x .store w.1 false
      dmaCopy n x pairs f (i + 1)

/-- A descriptor's checks of its authorities (R109), then its copy. -/
def dmaRun (n : Nat) (x : DmaDesc) : X Unit := do
  match capCheck x.src (x.src.cursor : Nat) x.count.toNat [.load] with
  | .error e => fault 3 e.cause e.faddr 0
  | .ok _ =>
    match capCheck x.dst (x.dst.cursor : Nat) x.count.toNat [.store] with
    | .error e => fault 3 e.cause e.faddr 0
    | .ok _ =>
      let pairs := x.copyCaps && decide (x.src.cursor % 2 = 0 ∧ x.dst.cursor % 2 = 0) && x.src.has .loadCap && x.dst.has .storeCap
      dmaCopy n x pairs x.count.toNat 0

/-- A running descriptor depends on the set of its compartment, or on none (R391). -/
def dmaDepends (s : State) (n : Nat) (b : Option Bool) : State :=
  let c := coreAt s n
  setCore s n { c with setA := { c.setA with dma := b == some false }, setB := { c.setB with dma := b == some true } }

/-- The descriptor of block n runs to its end, or waits on a held entry (R339) and depends on its set meanwhile (R391). -/
def dmaAnswer (s : State) (n : Nat) (x : DmaDesc) : State :=
  match (dmaRun n x) s with
  | .ok _ s1 => replyWord (unitGoesOn (dmaDepends s1 n none) n 0) 0
  | .error (.trap t) s1 => replyFault (unitGoesOn (dmaDepends s1 n none) n 0) t.vec t.cause
  | .error _ s1 =>
    dmaDepends (setCore s n { coreAt s n with unitHeld := (coreAt s1 n).unitHeld }) n (readySetOf (coreAt s n) x.comp.toNat)

/-- BLOCK_DMA_DESCRIPTOR (R31, R32, R321, R391, Table 3.9): the descriptor waits until the arbiter of its block grants it, and then
runs; an access that is refused ends it. Its end is answered in busReply; a held page makes the whole of it wait
(notes/assumptions/25.md, notes/assumptions/74.md). -/
def execBlockDmaDescriptor (core : BitVec 7) (x : DmaDesc) (s : State) : Host.Outcome State Fault Refusal :=
  let n := core.toNat
  let since := (coreAt s n).dmaAt.getD (coreNow s)
  done (if unitWorks s (dmaPg n) = true ∧ s.safety ≠ .mire ∧ s.safety ≠ .boot then
    if grantNow s n (coreLive s) (waitingFrom .dma since) 1 then
      dmaAnswer (setCore s n { coreAt s n with dmaAt := none }) n x
    else
      dmaDepends (setCore s n { coreAt s n with dmaAt := some since }) n (readySetOf (coreAt s n) x.comp.toNat)
  else s)

end Sys2Proof.Machine
end

