-- ==== Sys2Proof/Machine/Channel.lean ====
section
/-! DEFINITION. Channels: the gate drive each mode asks for (R470 to R472, R475, R479, R483), the safe state (R501 to
R503), retirement of a channel's events (R445), Quiet (R714), and the vital enables' stop (R509). -/

namespace Sys2Proof.Machine

/-! ## Event words (Table 9.5) -/

/-- REF of an event. -/
def Event.refNo (e : Event) : Nat := fld e.ctrl 35 33
/-- VITAL of an event. -/
def Event.vital (e : Event) : Bool := bit e.ctrl 32
/-- ACTION of an event. -/
def Event.action (e : Event) : Nat := fld e.ctrl 31 28
/-- CHAN of an event: 127 for none. -/
def Event.chan (e : Event) : Nat := fld e.ctrl 27 21
/-- COUNT of an event. -/
def Event.count (e : Event) : Nat := fld e.ctrl 20 9
/-- KEY of an event. -/
def Event.key (e : Event) : Nat := fld e.arg 35 24
/-- ARG of an event. -/
def Event.argv (e : Event) : Nat := fld e.arg 17 0
/-- An output action (Table 9.6). -/
def isOutput (action : Nat) : Bool := decide (1 ≤ action ∧ action ≤ 5)
/-- An entry that holds an event. -/
def Event.live (e : Event) : Bool := e.st != .free

/-! ## Retirement -/

/-- Two compartments name each other in PAIR, as the Sedge of a die holds them (R347). -/
def pairOf (s : State) (d a b : Nat) : Bool :=
  decide (a ≠ b) && decide (clsPair (compcls s d a) = b) && decide (clsPair (compcls s d b) = a)

/-- Whether a pending cancel is of an entry: a vital one with its KEY, of its compartment or of the pair (R439). -/
def cancelOf (s : State) (d : Nat) (c : PendCancel) (e : Event) : Bool :=
  e.vital && decide (c.key.toNat = e.key) && (decide (c.comp = e.comp) || pairOf s d c.comp.toNat e.comp.toNat)

/-- An entry becomes Free (R443, R445): no cancel of it is pending any longer (R439). -/
def freeEntry (s : State) (d i : Nat) : State :=
  let r := reed s d
  setReed s d { r.putEntry i Event.init with cancels := r.cancels.filter (fun c => !cancelOf s d c (r.entry i)) }

/-- An entry is retired unfired: RETCNT and IRQ_PEND.RETIRE (R445). -/
def retireEntry (s : State) (d i : Nat) : State := irqPend (rinc (freeEntry s d i) (reedPg d) 20 17 0) (reedPg d) 2

/-- Retires every live entry of a die that satisfies a test, in order of index (R415, R445, R501). -/
def retireWhere (s : State) (d : Nat) (f : Event → Bool) : State :=
  ((reed s d).ev.filter (fun p => p.2.live && f p.2)).foldl (fun s p => retireEntry s d p.1) s

/-! ## Gate drive -/

/-- The gate drive takes a level at once, whatever edges of it wait: the instant of the edge, and the feedback timing that
restarts at it (R469). -/
def setGd (s : State) (m : Nat) (v : Bool) : State :=
  let c := chan s m
  if c.gd = v then setChan s m { c with edges := 0 }
  else setChan s m { c with gd := v, edges := 0, gdSince := s.ticks, fbSince := s.ticks }

/-- Trailing-edge phase control: high for level / 65,536 of each half period of the reference (R471). A reference that
is not running gives no crossing. -/
def phaseHigh (s : State) (m level : Nat) : Bool :=
  let i := chRef s m
  let st := (ref s i).st
  decide (65535 ≤ level) ||
    ((st == .locked || st == .holdover) && decide ((refNow s i).toNat % 2 ^ 23 < level * 128))

/-- Pulse-width modulation at P2.PWM Hz: periods start at multiples of the period in track time (R471). A frequency
of 0 gives a level the spec does not state (notes/assumptions/4.md). -/
def pwmHigh (s : State) (m level : Nat) : Bool :=
  let f := fld (chanReg s m 6) 17 0
  if 65535 ≤ level then true
  else if level = 0 then false
  else if f = 0 then (Config.freeValue 1 s.fresh).toNat == 1
  else decide (s.tt * f % 1000000000 * 65536 < level * 1000000000)

/-- The level a Lamp channel applies: LEVEL when lit, WARM when an unlit filament (R471, R472). -/
def lampLevel (s : State) (m : Nat) : Nat :=
  if (chan s m).lit then (chan s m).level
  else if chLed s m then 0 else min (fld (chanReg s m 5) 17 0) 65535

/-- The excitation of an Axle channel at this instant (R479): a square wave of EXCFREQ with continuous phase, while
the CHAN page is enabled. The phase accumulates in units of 1 / 300,000,000 of a
period. -/
def axleHigh (s : State) (m : Nat) : Bool :=
  bit (rget s (chanPg m) 5) 0 && decide ((chan s m).phase < 150000000)

/-- The gate drive that the channel's mode asks for now (Table 10.8, R470 to R472, R475, R479, R483); none in Boot (Table 14.9). -/
def gdWanted (s : State) (m : Nat) : Bool :=
  let c := chan s m
  let mode := chMode s m
  if s.safety = .boot then false
  else if mode = 1 then !c.safe && (if chLed s m then pwmHigh s m (lampLevel s m) else phaseHigh s m (lampLevel s m))
  else if mode = 2 then !c.safe && c.burstOn
  else if mode = 3 then s.safety != .mire && axleHigh s m
  else if mode = 4 then !c.safe && (c.burstOn || (c.lit && pwmHigh s m c.level))
  else false

/-- The level of the gate drive once every edge that waits has been placed. -/
def Chan.gdNext (c : Chan) : Bool := c.gd != decide (c.edges % 2 = 1)

/-- The fabric cycles by which an edge asked for now is delayed: it follows the previous one, and those that wait, by 100 ns
each (R444). -/
def Chan.edgeDelay (c : Chan) (now : Nat) : Nat := c.gdSince + 30 * (c.edges + 1) - now

/-- Asks the gate drive for a level: an edge less than 100 ns after the previous one waits until 100 ns have passed (R444,
notes/assumptions/19.md). -/
def gdTo (s : State) (m : Nat) (v : Bool) : State :=
  let c := chan s m
  if v = c.gdNext then s
  else if c.edgeDelay s.ticks = 0 then setGd s m v else setChan s m { c with edges := c.edges + 1 }

/-- Brings the gate drive to what the mode asks for (R444); a free value that decides it is used up. -/
def applyGd (s : State) (m : Nat) : State :=
  let s1 := gdTo s m (gdWanted s m)
  if chMode s m ≠ 0 ∧ fld (chanReg s m 6) 17 0 = 0 then { s1 with fresh := s1.fresh + 1 } else s1

/-- The next edge that waits is placed once 100 ns have passed since the last one (R444). -/
def edgeTick (s : State) (m : Nat) : State :=
  let c := chan s m
  if c.edges = 0 ∨ s.ticks < c.gdSince + 30 then s
  else setChan s m { c with gd := !c.gd, edges := c.edges - 1, gdSince := s.ticks, fbSince := s.ticks }

/-- Nothing forces the output balls low: no freeze, and neither reset ball is low (R504, R630, R648). -/
def outputsFree (s : State) : Bool := s.frozen.isNone && s.pins.porst && s.pins.sysrst

/-- The level that ball GD is driven to: low in Boot, while the outputs are forced low, and in a region without power or isolated
(R451, Table 14.9, R630, R648). -/
def gdBall (s : State) (m : Nat) : Bool := (chan s m).gd && outputsFree s && chanUp s m && s.safety != .boot

/-- An output of VDD_IO33 at its ball: undriven without that supply (R504, R630). -/
def padOf (s : State) (level : Bool) : Option Bool := if s.pins.io33 then some level else none

/-- The edges of GD that the forcing of the outputs, and its end, make: the comparison of R469 restarts at them. -/
def gdEdges (s : State) : State :=
  { s with chans := s.chans.map (fun p => (p.1, if p.2.gd then { p.2 with fbSince := s.ticks } else p.2)) }

/-- A change of lit or level (R470, R473): the cycle that contains it is not judged, nor the cycle after it. With no whole cycle
in progress, the cycle that contains it is one that is not followed, and the next is the cycle after it. -/
def setLit (s : State) (m : Nat) (lit : Bool) (level : Nat) : State :=
  let c := chan s m
  if c.lit = lit ∧ c.level = level then s
  else if c.cycAt.isSome then setChan s m { c with lit := lit, level := level, changed := true }
  else setChan s m { c with lit := lit, level := level, skip := 1 }

/-- No cycle of CHCFG.REF is followed any longer; a change within it lets the next one go unjudged, and a cycle that was to go
unjudged itself has gone (R473). -/
def Chan.noCycle (c : Chan) : Chan :=
  { c with cycAt := none, sumA := 0, sumB := 0, nSamp := 0, encyc := 0, changed := false
           skip := if c.changed then 1 else if c.cycAt.isSome then 0 else c.skip }

/-! ## The safe state -/

/-- The windows and commits of a channel return to Idle (R501, Table 10.5). -/
def clearVoter (s : State) (m : Nat) : State :=
  let v := voter s (m / 24)
  setVoter s (m / 24)
    { v with wins := v.wins.filter (fun w => w.chan != m), commits := v.commits.filter (fun c => c.chan != m) }

/-- The safe outputs of a mode (Table 10.8). -/
def safeOutputs (s : State) (m : Nat) : State :=
  let mode := chMode s m
  let s1 := if mode = 1 then setLit s m false 65535 else if mode = 4 then setLit s m false (chan s m).level else s
  let c := chan s1 m
  let s2 := setChan s1 m { c with burstOn := false, burstArm := [], offArm := [],
                                  disturbed := c.disturbed || decide (mode = 3) }
  if mode = 3 ∧ s.safety ≠ .mire then s2 else setGd s2 m false

/-- The channel enters its safe state (R501, R502): a channel that is in it keeps the latched cause. KEY and the lanes
present go to SAFE_c. -/
def safeEnter (s : State) (m cause key lanes : Nat) : State :=
  if (chan s m).safe then s
  else
    let g := m / 24
    let c := m % 24
    let s1 := setChan s m { chan s m with safe := true, cause := cause }
    let v := voter s1 g
    let s2 := setVoter s1 g { v with safeInfo := kset (fun _ => 0) v.safeInfo c (fval 30 19 key ||| fval 18 16 lanes) }
    let s3 := clearVoter s2 m
    let s4 := retireWhere s3 (m / 96) (fun e => decide (e.chan = m % 96) && isOutput e.action)
    let s5 := safeOutputs s4 m
    let s6 := irqPend (capture s5 (sluicePg g) 8 (32 * cause + c)) (sluicePg g) 1
    if cause = 10 ∨ cause = 11 then irqPend s6 (cbkPg g) 2 else s6

/-- The channel leaves its safe state: SAFE and CAUSE are cleared, and nothing more (R506). -/
def safeLeave (s : State) (m : Nat) : State :=
  setChan s m { chan s m with safe := false, cause := 0 }

/-! ## Quiet -/

/-- No state of the channel's mode drives GD high at any time (R714). -/
def gdHeldLow (s : State) (m : Nat) : Bool :=
  let c := chan s m
  let mode := chMode s m
  if mode = 1 then !c.lit && (chLed s m || decide (fld (chanReg s m 5) 17 0 = 0))
  else if mode = 2 then !c.burstOn && c.burstArm.isEmpty
  else if mode = 4 then !c.lit && !c.burstOn && c.burstArm.isEmpty
  else true

/-- Whether a channel is Quiet (R714). -/
def quiet (s : State) (m : Nat) : Bool :=
  let v := voter s (m / 24)
  gdHeldLow s m && !(reed s (m / 96)).ev.any (fun p => p.2.live && decide (p.2.chan = m % 96)) &&
    !v.wins.any (fun w => w.chan == m) && !v.commits.any (fun c => c.chan == m)

/-- Whether a mode allows an action (Table 10.3, R467). -/
def actionAllowed (mode action : Nat) : Bool :=
  if action = 6 ∨ action = 7 then decide (1 ≤ mode ∧ mode ≤ 4)
  else if action = 2 then decide (mode = 1 ∨ mode = 2 ∨ mode = 4)
  else if action = 4 then decide (mode = 2 ∨ mode = 4)
  else decide (action = 1 ∨ action = 3 ∨ action = 5) && decide (mode = 1 ∨ mode = 4)

/-! ## Vital enables -/

/-- A running generator stops for a reason (R509); a higher reason of the same step, a fabric cycle, replaces it. -/
def venStop (s : State) (i why : Nat) : State :=
  let v := ven s i
  if v.running then
    setVen s i { v with running := false, toggling := false, why := why, kick0 := 0, kick1 := 0, stopAt := some s.ticks }
  else if v.stopAt = some s.ticks ∧ v.why < why then setVen s i { v with why := why }
  else s

/-- Whether the ball of a vital enable toggles: its generator does, and nothing forces the output low (R504, R508, R630). -/
def venToggles (s : State) (i : Nat) : Bool := (ven s i).toggling && outputsFree s

/-- Every running generator stops (R509: the safety run state left Run and Degraded, or Mire). -/
def venStopAll (s : State) (why : Nat) : State := venStop (venStop s 0 why) 1 why

/-- A Sluice mismatch stops the generators whose DROPMM is 1 (R509). -/
def venMismatch (s : State) : State :=
  [0, 1].foldl (fun s i => if bit (rget s (dsvPg i) 64) 35 then venStop s i 6 else s) s

end Sys2Proof.Machine
end

