-- ==== Sys2Proof/Machine/Links.lean ====
section
/-! DEFINITION. The links of the fabric (R522 to R534): which exist, the credit pools of a direction, its replay buffer,
the start of a retrain, and the failover of a Causeway group. -/

namespace Sys2Proof.Machine

/-- The key of a link direction. -/
def linkKey (l : LinkDir) : Nat :=
  match l with
  | .xbarTo g p => 8 * g.toNat + p.toNat
  | .xbarFrom g p => 256 + 8 * g.toNat + p.toNat
  | .bridge d p => 512 + 4 * d.toNat + p.toNat
  | .cwyOut i => 544 + i.toNat
  | .cwyIn i => 548 + i.toNat

/-- The timed capacity of a link direction by its key (Table 11.1). -/
def timedCap (k : Nat) : Nat := if k < 512 then 4 else 16

/-- The bulk capacity of a link direction by its key (Table 11.1). -/
def bulkCap (k : Nat) : Nat := if k < 512 then 8 else if k < 544 then 32 else 64

/-- The capacity of a virtual channel. -/
def capOf (k : Nat) (timed : Bool) : Nat := if timed then timedCap k else bulkCap k

/-- The units a replay buffer holds (Table 11.1). -/
def replayCap (k : Nat) : Nat := if k < 544 then 32 else 128

/-- A pool at rest: every credit with the sender. -/
def Pool.full (c : Nat) : Pool := { s := c, f := 0, b := 0, r := 0 }

/-- A link direction after reset: pools full; crossbars Up, Causeway Off, and a bridge yet to be trained (Table 11.4,
notes/assumptions/87.md). -/
def linkDefault (k : Nat) : Link :=
  { timed := Pool.full (timedCap k), bulk := Pool.full (bulkCap k), st := if k < 512 then .up else .off, txSeq := 0,
    rxSeq := 0, replay := [], nakSeq := 0, nakRun := 0, nakOut := none, attempts := 0, bulkSkip := 0, rrTimed := 0, rrBulk := 0,
    tDst := [], bDst := [], tWait := 0, bWait := 0, sentAt := none }

/-- A link direction by its key. -/
def linkAt (s : State) (k : Nat) : Link := kget linkDefault s.links k

/-- Writes a link direction. -/
def setLink (s : State) (k : Nat) (l : Link) : State := { s with links := kset linkDefault s.links k l }

/-- The pool of a virtual channel. -/
def Link.pool (l : Link) (timed : Bool) : Pool := if timed then l.timed else l.bulk

/-- Writes the pool of a virtual channel. -/
def Link.setPool (l : Link) (timed : Bool) (p : Pool) : Link :=
  if timed then { l with timed := p } else { l with bulk := p }

/-- The outputs that the units of a virtual channel of a crossbar input ask for. -/
def Link.dests (l : Link) (timed : Bool) : List Nat := if timed then l.tDst else l.bDst

/-- Writes the outputs asked for. -/
def Link.setDests (l : Link) (timed : Bool) (d : List Nat) : Link :=
  if timed then { l with tDst := d } else { l with bDst := d }

/-! ## The mesh (R23, Table 1.1) -/

/-- Columns of the mesh. -/
def meshCols (p : Part) : Nat :=
  match p with
  | .tfw2 => 2
  | .tfw4 => 2
  | .tfw8 => 4
  | .tfw8x => 4

/-- The die at the far end of a bridge port: port 0 the next column up, port 1 the next column down, port 2 the other
row. -/
def bridgePeer (p : Part) (d port : Nat) : Option Nat :=
  let c := meshCols p
  let e := if port = 0 then (if d % c + 1 < c then d + 1 else p.dies)
    else if port = 1 then (if 0 < d % c then d - 1 else p.dies)
    else if port = 2 then (if d < c then d + c else d - c)
    else p.dies
  if d < p.dies ∧ e < p.dies then some e else none

/-- The port of the peer that faces back. -/
def backPort (port : Nat) : Nat := if port = 0 then 1 else if port = 1 then 0 else port

/-- The key of the other direction of a link. -/
def reverseKey (p : Part) (k : Nat) : Nat :=
  if k < 256 then k + 256
  else if k < 512 then k - 256
  else if k < 544 then
    match bridgePeer p ((k - 512) / 4) (k % 4) with
    | some e => 512 + 4 * e + backPort (k % 4)
    | none => k
  else if k < 548 then k + 4
  else k - 4

/-- Whether a link exists in the part. -/
def linkExists (p : Part) (k : Nat) : Bool :=
  if k < 512 then decide (k % 256 / 8 < 4 * p.dies) && decide (k % 8 < 7)
  else if k < 544 then (bridgePeer p ((k - 512) / 4) (k % 4)).isSome
  else decide ((k - 544) % 4 < p.ports)

/-- The page that shows a link: XBAR, BRG or CWY. -/
def linkPg (k : Nat) : Nat :=
  if k < 512 then regionPg (k % 256 / 8) 0
  else if k < 544 then diePg ((k - 512) / 4) 3
  else pkgPg (8 + (k - 544) % 4)

/-- Whether a link's unit works. -/
def linkWorks (s : State) (k : Nat) : Bool := linkExists s.part k && unitWorks s (linkPg k)

/-- The bridge port of die d on the way to another die of the package: along the row to its column first, then along the column
(R42). -/
def meshPort (p : Part) (d dest : Nat) : Option Nat :=
  let c := meshCols p
  if dest = d ∨ p.dies ≤ dest then none
  else if d % c < dest % c then some 0
  else if dest % c < d % c then some 1
  else some 2

/-! ## Causeway groups (R534) -/

/-- A Causeway link unit. -/
def cwy (s : State) (i : Nat) : Cwy := kget (fun _ => Cwy.init) s.cwys i

/-- Writes a Causeway link unit. -/
def setCwy (s : State) (i : Nat) (c : Cwy) : State := { s with cwys := kset (fun _ => Cwy.init) s.cwys i c }

/-- The state of a Causeway link. -/
def cwyState (s : State) (i : Nat) : LinkState := (linkAt s (544 + i)).st

/-- The state of both directions of a Causeway link. -/
def setCwyState (s : State) (i : Nat) (x : LinkState) : State :=
  let s1 := setLink s (544 + i) { linkAt s (544 + i) with st := x }
  setLink s1 (548 + i) { linkAt s1 (548 + i) with st := x }

/-- The links that join this package to the peer of link i. -/
def groupOf (s : State) (i : Nat) : List Nat :=
  (List.range s.part.ports).filter (fun j =>
    match (cwy s i).peer, (cwy s j).peer with
    | some a, some b => a.serial == b.serial
    | _, _ => i == j)

/-- The link of a group that carries its traffic: the lowest in Up. -/
def activeLink (s : State) (i : Nat) : Option Nat := (groupOf s i).find? (fun j => cwyState s j == .up)

/-- The register that counts NAKs received and units retransmitted by this package's sender. -/
def countOff (k : Nat) : Option Nat := if k < 544 then some (24 + k % 4) else if k < 548 then some 18 else none

/-- The sender counts units retransmitted; saturates. -/
def countReplay (s : State) (k n : Nat) : State :=
  match countOff k with
  | some o => rsetf s (linkPg k) o 17 0 (min 262143 (rfld s (linkPg k) o 17 0 + n))
  | none => s

/-- The units of a virtual channel that wait for a grant. -/
def Link.waits (l : Link) (timed : Bool) : Nat := if timed then l.tWait else l.bWait

/-- Units of a virtual channel that wait for a grant, `n` more. -/
def Link.addWaits (l : Link) (timed : Bool) (n : Nat) : Link :=
  if timed then { l with tWait := l.tWait + n } else { l with bWait := l.bWait + n }

/-- A unit of the replay buffer of a link that left Up is retransmitted on another link, where a credit is there for it; else it is
the first to wait there: what follows it in its virtual channel waits behind it (R534). -/
def replayOn (s : State) (k : Nat) (timed : Bool) : State :=
  let l := linkAt s k
  let p := l.pool timed
  if 0 < p.s ∧ l.replay.length < 128 ∧ l.waits timed = 0 then
    countReplay (setLink s k { l.setPool timed { p with s := p.s - 1, f := p.f + 1 } with
      txSeq := (l.txSeq + 1) % 4096, replay := l.replay ++ [(l.txSeq, timed)] }) k 1
  else setLink s k (l.addWaits timed 1)

/-- The replay buffer of a direction that left Up goes to another direction, in order, before any later unit (R534). -/
def failoverUnits (s : State) (k m : Nat) : State :=
  let l := linkAt s k
  l.replay.foldl (fun s u => replayOn s m u.2) (setLink s k { l with replay := [] })

/-- The units that wait for a grant move to another direction (R534). -/
def failoverWaits (s : State) (k m : Nat) : State :=
  let l := linkAt s k
  let s1 := setLink s k { l with tWait := 0, bWait := 0 }
  setLink s1 m (((linkAt s1 m).addWaits true l.tWait).addWaits false l.bWait)

/-- The units that moved to another link are as good as accepted here: the receiver expects the next one (R534). -/
def Link.moved (l : Link) : Link := { l with rxSeq := l.txSeq }

/-- The failover of one direction of a Causeway link. -/
def failoverDir (s : State) (k m : Nat) : State :=
  let s1 := failoverWaits (failoverUnits s k m) k m
  setLink s1 k (linkAt s1 k).moved

/-- The failover of a Causeway link (R534). -/
def failover (s : State) (i : Nat) : State :=
  match (groupOf s i).find? (fun j => j != i && cwyState s j == .up) with
  | some j => failoverDir (failoverDir s (544 + i) (544 + j)) (548 + i) (548 + j)
  | none => s

/-! ## Retrain (R529, R530) -/

/-- What is in flight on a direction is discarded: units and credits (R530). -/
def Link.drop (l : Link) : Link :=
  { l with timed := { l.timed with f := 0, r := 0 }, bulk := { l.bulk with f := 0, r := 0 }, st := .retrain, nakRun := 0, nakOut := none,
           attempts := 0 }

/-- A bridge end notes a retrain: RETRAINS counts, cause 0o10 is captured (Table 11.4). -/
def noteRetrain (s : State) (k : Nat) : State :=
  capture (rinc s (linkPg k) (28 + k % 4) 17 0) (linkPg k) 8 (k % 4)

/-- A bridge or Causeway link starts to retrain: both directions stop, its pages count and capture, after the credit
violation that caused it where one did (R525, R529, R530). -/
def startRetrain (s : State) (k : Nat) (violation : Bool) : State :=
  let r := reverseKey s.part k
  let s1 := setLink s k (linkAt s k).drop
  let s2 := setLink s1 r (linkAt s1 r).drop
  if k < 544 then
    noteRetrain (noteRetrain (if violation then capture s2 (linkPg r) 9 (r % 4) else s2) k) r
  else
    let i := (k - 544) % 4
    let pg := linkPg k
    let s3 := setCwy s2 i { cwy s2 i with downSince := s.ticks }
    failover (capture (rinc (if violation then capture s3 pg 9 0 else s3) pg 19 17 0) pg 8 0) i

end Sys2Proof.Machine
end

