-- ==== Sys2Proof/Machine/Sedge.lean ====
section
/-! DEFINITION. Sedge: frames and their books (R342 to R345), placement (R346 to R349, Table 7.8), the commands of Table
7.15, heat (R351 to R354), page migration (R355 to R359), and the reads of the SEDGE page (R344, R364). -/

namespace Sys2Proof.Machine

/-! ## Entries and frames -/

/-- Sedge's field write of KIND, MNG and PFN, as one read-modify-write at the bank (R26, R28, R336); a bank that does not answer,
or has lost the word, keeps it as it is. The read and the write are two grants of the bank. -/
def fieldWrite (s : State) (ea kind : Nat) (mng : Bool) (pfn : Nat) : State :=
  if memReach s ea = .ok then
    match readFor (noteAccess s (.die (ea / 1048576)) ea 1) (.die (ea / 1048576)) ea with
    | (some (w, _), s1) =>
      mset { s1 with eccWb := s1.eccWb.filter (fun b => b != ea) } ea
        { data := setFld (setBit (setFld w 35 34 kind) 33 mng) 29 10 pfn, tag := false, ecc := .good }
    | (none, s1) => s1
  else s

/-- One registered entry more, or one less, in a table page (R333). -/
def markPage (s : State) (ea : Nat) (more : Bool) : State :=
  let n := kget (fun _ => 0) s.marks (ea / 1024)
  { s with marks := kset (fun _ => 0) s.marks (ea / 1024) (if more then n + 1 else n - 1) }

/-- Writes the state of a frame in a die's pool. -/
def setPool (s : State) (d f : Nat) (x : Frame) : State :=
  let y := sedge s d
  setSedge s d { y with pool := kset (fun _ => Frame.none) y.pool f x }

/-- A frame of on-chip memory. -/
def onChip (f : Nat) : Bool := decide (f < 8192)

/-- The region of an on-chip frame. -/
def frameRegion (f : Nat) : Nat := f / 256

/-- The free frames of all pools that satisfy a test, as (die of the pool, frame). -/
def freeFrames (s : State) (ok : Nat → Bool) : List (Nat × Nat) :=
  (List.range s.part.dies).flatMap (fun d =>
    ((sedge s d).pool.filter (fun p => p.2 == .free && ok p.1)).map (fun p => (d, p.1)))

/-- One of a list, by a free value: the spec does not say which (notes/assumptions/4.md). -/
def pickOne {α : Type} (s : State) (l : List α) : Option α × State :=
  match l with
  | [] => (none, s)
  | [x] => (some x, s)
  | _ => (l[(Config.freeValue 20 s.fresh).toNat % l.length]?, { s with fresh := s.fresh + 1 })

/-- Entries of a die's directory that satisfy a test, as (index, entry). -/
def Sedge.entries (x : Sedge) (f : DirEnt → Bool) : List (Nat × DirEnt) := x.dir.filter (fun p => p.2.v && f p.2)

/-- The directory entry of an L2 entry. -/
def Sedge.find (x : Sedge) (ea : Nat) : Option (Nat × DirEnt) := (x.entries (fun e => e.eaddr == ea)).head?

/-- Writes a directory entry of a die. -/
def putDir (s : State) (d i : Nat) (e : DirEnt) : State := setSedge s d ((sedge s d).putEntry i e)

/-! ## Placement (Table 7.8) -/

/-- MODE of a class; 3 acts as Fixed. -/
def clsMode (w : Word) : Nat := if fld w 35 34 = 3 then 0 else fld w 35 34

/-- Whether a die is in DIEMASK or is HDIE. -/
def clsDies (w : Word) (d : Nat) : Bool := bit w (10 + d) || decide (clsDie w = d)

/-- The home region's number. -/
def clsHome (w : Word) : Nat := 4 * clsDie w + clsReg w

/-- Where a page may lie at REGISTER and by MOVE (Table 7.8); `exact` says that ARG_2 names the frame. -/
def pageAllowed (w : Word) (f : Nat) (exact : Bool) : Bool :=
  let home := onChip f && decide (frameRegion f = clsHome w)
  let timed := !clsTimed w || home
  let vital := !clsVital w || (onChip f && decide (f / 1024 = clsDie w))
  let mode :=
    if clsTimed w || clsVital w then true
    else if clsMode w = 0 then exact || home
    else if clsMode w = 1 then home || (onChip f && clsDies w (f / 1024))
    else onChip f || bit w 9
  timed && vital && mode

/-- Whether a page is placed in its home region where no place is asked for: also one of a VITAL compartment, of which Table 7.8 says
only banks of HDIE (DESIGN CHOICE, notes/assumptions/85.md). -/
def pagePrefers (w : Word) (f : Nat) : Bool := onChip f && decide (frameRegion f = clsHome w)

/-- Where heat may move a page (Table 7.8). -/
def heatAllowed (w : Word) (f : Nat) : Bool :=
  !clsTimed w &&
  (if clsVital w then decide (1 ≤ clsMode w) && onChip f && decide (f / 1024 = clsDie w)
   else if clsMode w = 0 then false
   else if clsMode w = 1 then onChip f && clsDies w (f / 1024)
   else onChip f || bit w 9)

/-- Whether a frame answers an ARG_2: any where LOC is 0, the exact frame, or one of a die and region (Table 7.13). -/
def placeMatches (place : Word) (f : Nat) : Bool :=
  if fld place 29 10 = 0 then true
  else if bit place 35 then decide (f / 256 = fld place 29 18)
  else decide (f = fld place 29 10)

/-- A place by die and region that Table 7.8 forbids whatever its frames are: what the table allows of a place that ARG_2 does not
name exactly rests on the frame's region alone (R348). -/
def placeForbidden (w place : Word) : Bool :=
  decide (fld place 29 10 ≠ 0) && bit place 35 && !pageAllowed w (fld place 29 18 * 256) false

/-- The frame that a placement takes: result 0 with (pool die, frame), 4 no free frame allowed, 5 place forbidden, 6 the
exact frame not free in a pool (Table 7.16). -/
def placeFrame (s : State) (w place : Word) : Nat × Option (Nat × Nat) × State :=
  let exact := decide (fld place 29 10 ≠ 0) && !bit place 35
  if exact then
    let f := fld place 29 10
    if pageAllowed w f true = false then (5, none, s)
    else
      match (freeFrames s (fun x => x == f)).head? with
      | some p => (0, some p, s)
      | none => (6, none, s)
  else
    let ok := freeFrames s (fun f => placeMatches place f && pageAllowed w f false)
    if placeForbidden w place then (5, none, s)
    else if ok.isEmpty then (4, none, s)
    else
      let home := ok.filter (fun p => pagePrefers w p.2)
      let r := pickOne s (if home.isEmpty then ok else home)
      (0, r.1, r.2)

/-! ## Posts and releases -/

/-- Sedge posts an invalidation of a page (R355); answers its number. -/
def sedgePost (s : State) (d vpn : Nat) : Nat × State :=
  (s.postId, postInval s (.sedge d) (.page vpn) (postTargets s))

/-- A post is complete (R326). -/
def postDone (s : State) (id : Nat) : Bool := !s.posts.any (fun p => p.id == id)

/-- The release of a page reaches every core: each walk held on it repeats its L2 load (R339). -/
def releasePage (s : State) (vpn : Nat) : State :=
  (coreNos s).foldl (fun s n =>
    match (coreAt s n).held with
    | some w => if w.va / 1024 = vpn then releaseWalk s n else s
    | none => s) s

/-! ## Commands (Table 7.15) -/

/-- A command ends its work with a result and an index; SEDGE_COMMAND_DONE reports it (R365). -/
def cmdBusy (s : State) (d op result index : Nat) : State := setSedge s d { sedge s d with busy := some (op, result, index) }

/-- Every word of a frame is written 0 with tag 0 (R343), by 1,024 writes of the Sedge of a die. -/
def zeroFrame (s : State) (d f : Nat) : State :=
  let s1 := noteMany s (.die d) (f * 1024) 1024
  { s1 with mem := kkeep s1.mem (fun a => decide (a / 1024 ≠ f)) }

/-- The ARG_2 that REGISTER heeds: Table 7.15 gives it for Fixed alone, the row of Table 7.8 for neither TIMED nor VITAL. -/
def registerPlace (w place : Word) : Word := if clsTimed w || clsVital w || decide (clsMode w ≠ 0) then 0 else place

/-- REGISTER (R332, R333, R343, R366). An entry whose word its bank has lost is in no required state (R28). -/
def cmdRegister (s : State) (d ea comp vpn : Nat) (place : Word) : State :=
  let r := if memReach s ea = .ok then readFor s (.die d) ea else (none, s)
  let w := (r.1.map Prod.fst).getD 0
  if 1048576 * s.part.dies ≤ ea ∨ memReach s ea ≠ .ok then cmdBusy s d 1 1 0
  else if bit w 33 = false ∨ fld w 35 34 ≠ 0 then cmdBusy r.2 d 1 2 0
  else
    match (List.range 8192).find? (fun i => !((sedge s d).entry i).v) with
    | none => cmdBusy r.2 d 1 3 0
    | some i =>
      match placeFrame r.2 (compcls s d comp) (registerPlace (compcls s d comp) place) with
      | (_, some (pd, f), s1) =>
        let s2 := markPage (fieldWrite (zeroFrame (setPool s1 pd f .mapped) d f) ea 1 true f) ea true
        let e : DirEnt := { DirEnt.init with v := true, comp := BitVec.ofNat 8 comp, vpn := vpn, eaddr := ea, pfn := f, marked := true }
        cmdBusy (putDir s2 d i e) d 1 0 i
      | (r, none, s1) => cmdBusy s1 d 1 r 0

/-- A migration that has been decided and has not begun ends with the RELEASE of its page. -/
def dropStart (s : State) (d i : Nat) : State :=
  let x := sedge s d
  match x.mig with
  | some m => if m.stage = .start ∧ m.index = i then setSedge s d { x with mig := none } else s
  | none => s

/-- RELEASE (R366): the entry is written invalid and the invalidation posted; the frame is freed when it is done. -/
def cmdRelease (s : State) (d ea : Nat) : State :=
  match (sedge s d).find ea with
  | some (i, e) =>
    if e.st = .moving then cmdBusy s d 2 2 i
    else
      let r := sedgePost (fieldWrite (dropStart s d i) ea 0 false 0) d e.vpn
      let s1 := cmdBusy r.2 d 2 0 i
      setSedge s1 d { sedge s1 d with relPost := some (r.1, i) }
  | none => cmdBusy s d 2 2 0

/-- The end of a RELEASE: the directory entry goes, its table page loses a mark, its frame is free again. -/
def endRelease (s : State) (d i : Nat) : State :=
  let e := (sedge s d).entry i
  let s0 := putDir s d i DirEnt.init
  let s1 := if e.marked then markPage s0 e.eaddr false else s0
  let s2 := if e.st = .lost then s1 else match poolDie s1 e.pfn with | some pd => setPool s1 pd e.pfn .free | none => s1
  setSedge s2 d { sedge s2 d with relPost := none }

/-- A feature of a SEDGE page is in force: accepted, and the unit enabled (Table 2.12, Table 7.12): 1 EXTPOOL, 2 HEATMIG, 3
TASKMIG. -/
def sedgeFeature (s : State) (d k : Nat) : Bool := enabled s (sedgePg d) && bit (rget s (sedgePg d) 3) k

/-- POOL (R342, R364): free frames join the die's pool; frames of external memory only with EXTPOOL. A range with a frame that some
pool holds already, or with no populated memory behind it, is refused with result 6: R342 and Table 7.15 do not say (DESIGN CHOICE,
notes/assumptions/85.md). -/
def cmdPool (s : State) (d first count : Nat) : State :=
  let fs := (List.range count).map (fun i => first / 1024 + i)
  let bad := fun f =>
    (onChip f && decide (f / 1024 ≠ d)) || (!onChip f && !sedgeFeature s d 1) || (memReach s (f * 1024) == .unpopulated) ||
      (poolDie s f).isSome
  if 16384 < (sedge s d).pool.length + count ∨ fs.any bad = true then cmdBusy s d 4 6 0
  else cmdBusy (fs.foldl (fun s f => setPool s d f .free) s) d 4 0 0

/-- RECLAIM (R366): the frames of the range that are FREE leave the pool. -/
def cmdReclaim (s : State) (d first count : Nat) : State :=
  let x := sedge s d
  let lo := first / 1024
  let s1 := setSedge s d { x with pool := x.pool.filter (fun p => !(p.2 == .free && decide (lo ≤ p.1 ∧ p.1 < lo + count))) }
  cmdBusy s1 d 5 0 0

/-- PIN (R366). -/
def cmdPin (s : State) (d ea : Nat) (pin : Bool) : State :=
  match (sedge s d).find ea with
  | some (i, e) => cmdBusy (putDir s d i { e with pin := pin }) d 7 0 i
  | none => cmdBusy s d 7 2 0

/-- A migration begins: its destination is chosen (R355). -/
def beginMig (s : State) (d i f : Nat) (byMove : Bool) : State :=
  setSedge s d { sedge s d with mig := some { index := i, dest := f, stage := .start, pair := 0, byMove := byMove, post := 0 } }

/-- A MOVE that may start chooses its destination, or ends with the result of Table 7.16. -/
def tryMove (s : State) (d i : Nat) (place : Word) : State :=
  let e := (sedge s d).entry i
  match placeFrame s (compcls s d e.comp.toNat) place with
  | (_, some (_, f), s1) => beginMig (cmdBusy s1 d 3 0 i) d i f true
  | (r, none, s1) => cmdBusy s1 d 3 r i

/-- MOVE (R348, R354, R366): it waits while a migration is in progress. -/
def cmdMove (s : State) (d ea : Nat) (place : Word) : State :=
  match (sedge s d).find ea with
  | some (i, e) =>
    if (sedge s d).mig.isSome ∧ e.st = .moving then cmdBusy s d 3 2 i
    else if e.st ≠ .placed then cmdBusy s d 3 2 i
    else if (sedge s d).mig.isSome then
      let s1 := cmdBusy s d 3 0 i
      setSedge s1 d { sedge s1 d with waitMove := some (i, place) }
    else tryMove s d i place
  | none => cmdBusy s d 3 2 0

/-! ## Migration (R355 to R358) -/

/-- A migration is over; a MOVE gets its result. -/
def closeMig (s : State) (d result : Nat) : State :=
  let x := sedge s d
  let byMove := match x.mig with | some m => m.byMove | none => false
  setSedge s d { x with
    mig := none, lastMig := if byMove then x.lastMig else some s.ticks
    busy := match x.busy with
      | some (op, r, i) => some (op, if byMove then result else r, i)
      | none => none }

/-- A MOVE that waited for the migration before it starts, where its page is still placed. -/
def startWaiting (s : State) (d : Nat) : State :=
  match (sedge s d).mig, (sedge s d).waitMove with
  | none, some (i, place) =>
    let s1 := setSedge s d { sedge s d with waitMove := none }
    if ((sedge s1 d).entry i).st = .placed then tryMove s1 d i place else cmdBusy s1 d 3 2 i
  | _, _ => s

/-- A migration is over, and a MOVE that waited starts. -/
def endMig (s : State) (d result : Nat) : State := startWaiting (closeMig s d result) d

/-- The destination frame is reserved, the entry written held, the invalidation posted (R355). A frame that is no longer
free ends the migration, and so does a page that is no longer placed (R358). What MODE and DIEMASK of the compartment allow is judged
where the migration is decided and not again here: R348 speaks of every migration and names no instant (DESIGN CHOICE,
notes/assumptions/85.md). -/
def migGrant (s : State) (d : Nat) (m : Migration) : State :=
  let e := (sedge s d).entry m.index
  match poolDie s m.dest with
  | none => endMig s d 4
  | some pd =>
    if e.st ≠ .placed then endMig s d 8
    else if poolAt s pd m.dest = .free then
      let s1 := putDir (setPool s pd m.dest .reserved) d m.index { e with st := .moving }
      let r := sedgePost (fieldWrite s1 e.eaddr 2 true e.pfn) d e.vpn
      setSedge r.2 d { sedge r.2 d with mig := some { m with stage := .breaking, post := r.1 } }
    else endMig s d 4

/-- An uncorrectable source pair ends the migration (R358). -/
def migAbandon (s : State) (d : Nat) (m : Migration) (src : Nat) : State :=
  let e := (sedge s d).entry m.index
  let s1 := putDir (fieldWrite s e.eaddr 1 true e.pfn) d m.index { e with st := .placed, pin := true }
  let s2 := match poolDie s1 m.dest with | some pd => setPool s1 pd m.dest .free | none => s1
  releasePage (endMig (capture s2 (sedgePg d) 10 src) d 8) e.vpn

/-- The banks of the next pair, the source's and the destination's, have two slots each left unused for Sedge (R32, R93). Its requests
are made and granted in one step and wait at no arbiter (notes/assumptions/74.md). -/
def copyGranted (s : State) (d : Nat) (m : Migration) : Bool :=
  let e := (sedge s d).entry m.index
  unitGranted s (e.pfn * 1024 + 2 * m.pair) (coreLive s) (coreNow s) 2 &&
  unitGranted s (m.dest * 1024 + 2 * m.pair) (coreLive s) (coreNow s) 2

/-- A request of the copy that fails the parity check of a port is an error of the source pair: R358 names the uncorrectable one alone
(DESIGN CHOICE, notes/assumptions/78.md). -/
def copyParity (s : State) (src dst : Nat) : Option Nat :=
  if memReach s src = .parity then some src else if memReach s dst = .parity then some dst else none

/-- One pair is copied with both tags as one unit, the revocation filter applied (R356, notes/assumptions/23.md). -/
def migCopy (s : State) (d : Nat) (m : Migration) : State :=
  let e := (sedge s d).entry m.index
  let src := e.pfn * 1024 + 2 * m.pair
  let dst := m.dest * 1024 + 2 * m.pair
  match copyParity s src dst, copyGranted s d m with
  | some a, _ => migAbandon (portParity s a) d m src
  | none, false => s
  | none, true =>
    match readFor s (.die d) src with
    | (none, s1) => migAbandon s1 d m src
    | (some (hi, t0), s1) =>
      match readFor s1 (.die d) (src + 1) with
      | (none, s2) => migAbandon s2 d m (src + 1)
      | (some (lo, t1), s2) =>
        let r := filterTag s2 (4 * d) { hi := hi, lo := lo, tag := t0 && t1 }
        let keep := r.1 || !(t0 && t1)
        let s3 := putFor (putFor r.2 (.die d) dst hi (t0 && keep)) (.die d) (dst + 1) lo (t1 && keep)
        setSedge s3 d { sedge s3 d with mig := some { m with stage := .copying, pair := m.pair + 1 } }

/-- The entry is written valid with the new frame and the release is posted (R355). -/
def migMake (s : State) (d : Nat) (m : Migration) : State :=
  let e := (sedge s d).entry m.index
  let s1 := releasePage (fieldWrite s e.eaddr 1 true m.dest) e.vpn
  setSedge s1 d { sedge s1 d with mig := some { m with stage := .made } }

/-- The destination maps its frame, then the source frees its own (R355); MIGCNT counts. The heat counters and the count of cold
periods, of the page where it lay, start again from 0: R355 does not say (DESIGN CHOICE, notes/assumptions/85.md). -/
def migConfirm (s : State) (d : Nat) (m : Migration) : State :=
  let e := (sedge s d).entry m.index
  let s1 := match poolDie s m.dest with | some pd => setPool s pd m.dest .mapped | none => s
  let s2 := match poolDie s1 e.pfn with | some pd => setPool s1 pd e.pfn .free | none => s1
  let s3 := putDir s2 d m.index { e with st := .placed, pfn := m.dest, heatL := 0, heat := [], coldPeriods := 0 }
  endMig (rset s3 (sedgePg d) 30 (rget s3 (sedgePg d) 30 + 1)) d 0

/-- Whether Sedge of a die works: its unit does, outside Mire (R353). -/
def sedgeWorks (s : State) (d : Nat) : Bool := unitWorks s (sedgePg d) && s.safety != .mire

/-- A step of the migration in progress, when it is at a stage. One that heat has decided goes on where HEATEN is cleared or the
safety run state leaves Run and Degraded for another than Mire: R353 speaks of making a migration (DESIGN CHOICE,
notes/assumptions/85.md). -/
def migStep (s : State) (d : Nat) (ok : Migration → Bool) (f : State → Nat → Migration → State) : State :=
  match (sedge s d).mig with
  | some m => if sedgeWorks s d && ok m then f s d m else s
  | none => s

/-! ## Isolation (R358, R359) -/

/-- An entry whose frame lies in an isolated region becomes lost (R359). -/
def loseEntry (s : State) (d i : Nat) : State :=
  let e := (sedge s d).entry i
  let s1 := putDir (fieldWrite s e.eaddr 3 true e.pfn) d i { e with st := .lost }
  irqPend (capture s1 (sedgePg d) 11 e.eaddr) (sedgePg d) 2

/-- A migration that an isolation ends (R358): back to its source, or lost with its destination free again. -/
def migIsolate (s : State) (d : Nat) (gone : Nat → Bool) : State :=
  match (sedge s d).mig with
  | none => s
  | some m =>
    let e := (sedge s d).entry m.index
    if onChip e.pfn = true ∧ gone e.pfn = true then
      let s1 := match poolDie s m.dest with
        | some pd => if poolAt s pd m.dest = .reserved then setPool s pd m.dest .free else s
        | none => s
      releasePage (closeMig (loseEntry s1 d m.index) d 8) e.vpn
    else if onChip m.dest = true ∧ gone m.dest = true then
      releasePage (closeMig (putDir (fieldWrite s e.eaddr 1 true e.pfn) d m.index { e with st := .placed }) d 8) e.vpn
    else s

/-- A RELEASE of an entry is in progress. -/
def releasing (s : State) (d i : Nat) : Bool := match (sedge s d).relPost with | some (_, k) => k == i | none => false

/-- On-chip frames leave service (an isolated region, a die or a bank in reset) as every Sedge sees it (R358, R359, Table
13.7). An entry whose RELEASE is in progress has been written already (R366). A MOVE that waited starts when the losses are known. -/
def sedgeLose (s : State) (gone : Nat → Bool) : State :=
  (List.range s.part.dies).foldl (fun s d =>
    let s1 := migIsolate s d gone
    let lost := (sedge s1 d).entries (fun e => onChip e.pfn && gone e.pfn && e.st != .lost)
    let s2 := (lost.filter (fun p => !releasing s1 d p.1)).foldl (fun s p => loseEntry s d p.1) s1
    let x := sedge s2 d
    startWaiting (setSedge s2 d { x with pool := x.pool.filter (fun p => !(onChip p.1 && gone p.1)) }) d) s

/-- The isolation of a region as every Sedge sees it (R358, R359). -/
def sedgeIsolate (s : State) (g : Nat) : State := sedgeLose s (fun f => decide (frameRegion f = g))

/-! ## Heat (R351 to R354) -/

/-- One more, in a field of 9 bits that stops at 511. -/
def heatUp (n : Nat) : Nat := min 511 (n + 1)

/-- HEATR and HDIE of a directory entry: the largest remote counter and its die (R351); of equal ones the lowest die, which R351
does not say (DESIGN CHOICE, notes/assumptions/85.md). -/
def DirEnt.remote (e : DirEnt) : Nat × Nat :=
  e.heat.foldl (fun b p => if b.1 < p.2 then (p.2, p.1) else b) (0, 0)

/-- Heat moves are enabled and due: HEATMIG in force (R364), CTL.HEATEN, Run or Degraded, no migration in progress, the gap after
the last heat-driven one over (R353, R354). -/
def heatReady (s : State) (d : Nat) : Bool :=
  let pg := sedgePg d
  sedgeFeature s d 2 && bit (rget s pg 4) 2 && (s.safety == .run || s.safety == .degraded) && (sedge s d).mig.isNone &&
  (match (sedge s d).lastMig with
   | none => true
   | some t => decide (t + rfld s pg 29 35 18 * 1024 ≤ s.ticks))

/-- The free frames of a die's banks that heat may move a page to, in the region with the most of them (R352). -/
def heatFrames (s : State) (w : Word) (t : Nat) : List (Nat × Nat) :=
  let all := (freeFrames s (fun f => onChip f && decide (f / 1024 = t))).filter (fun p => p.1 == t && heatAllowed w p.2)
  let n := fun r => (all.filter (fun p => decide (frameRegion p.2 % 4 = r))).length
  let most := (List.range 4).foldl (fun b r => max b (n r)) 0
  all.filter (fun p => decide (n (frameRegion p.2 % 4) = most))

/-- A heat-driven migration of an entry (R352). -/
def heatStart (s : State) (d i : Nat) : State :=
  let e := (sedge s d).entry i
  let w := compcls s d e.comp.toNat
  let r := e.remote
  if e.v && !e.pin && e.st == .placed && !releasing s d i && decide (2 * e.heatL + rfld s (sedgePg d) 28 17 9 ≤ r.1) then
    let p := pickOne s (heatFrames s w r.2)
    match p.1 with
    | some (_, f) => beginMig p.2 d i f false
    | none => s
  else s

/-- FREE frames of a die's pool (R344). -/
def freeCount (s : State) (d : Nat) : Nat := ((sedge s d).pool.filter (fun p => p.2 == .free)).length

/-- The demotion of a cold page to an external frame of the die's pool (R354). -/
def demoteStart (s : State) (d i : Nat) : State :=
  let e := (sedge s d).entry i
  let w := compcls s d e.comp.toNat
  if e.v && !e.pin && e.st == .placed && !releasing s d i && onChip e.pfn && !clsTimed w && !clsVital w && decide (clsMode w = 2) &&
      bit w 9 && decide (2 ≤ e.coldPeriods) && decide (freeCount s d < rfld s (sedgePg d) 29 17 0) then
    let p := pickOne s ((freeFrames s (fun f => !onChip f)).filter (fun p => p.1 == d))
    match p.1 with
    | some (_, f) => beginMig p.2 d i f false
    | none => s
  else s

/-- The entry after a halving of its counters (R351, R354). -/
def DirEnt.halve (e : DirEnt) : DirEnt :=
  let cold := e.heatL = 0 ∧ e.heat = []
  { e with heatL := e.heatL / 2, heat := (e.heat.map (fun p => (p.1, p.2 / 2))).filter (fun p => p.2 != 0)
           coldPeriods := if cold then e.coldPeriods + 1 else 0 }

/-- The cores of a die begin a new period of their load (R363). -/
def loadPeriod (s : State) (d : Nat) : State :=
  (List.range 16).foldl (fun s k =>
    let n := 16 * d + k
    let c := coreAt s n
    setCore s n { c with multiLast := c.multiNow, readyLast := c.readyNow, multiNow := 0, readyNow := false }) s

/-- Every HPERIOD the counters are halved; then the first page due for demotion starts (R351, R354). -/
def heatHalve (s : State) (d : Nat) : State :=
  let x := sedge s d
  let s1 := loadPeriod (setSedge s d { x with dir := x.dir.map (fun p => (p.1, p.2.halve)), lastHalf := s.ticks }) d
  if heatReady s1 d then
    ((sedge s1 d).entries (fun _ => true)).foldl (fun s p => if (sedge s d).mig.isSome then s else demoteStart s d p.1) s1
  else s1

/-! ## Compartment classes (R346, R347) -/

/-- A write of COMPCLS_c is refused for its value (R347). A PAIR that names c itself is judged by the class that c holds before the
write: R347 does not say (DESIGN CHOICE, notes/assumptions/85.md). -/
def compclsRefused (s : State) (c : Nat) (v : Word) : Bool :=
  let old := compcls s 0 c
  let pair := compcls s 0 (clsPair v)
  let moves := clsTimed v != clsTimed old || clsVital v != clsVital old || decide (clsDie v ≠ clsDie old) ||
    decide (clsReg v ≠ clsReg old)
  decide (s.part.dies ≤ clsDie v) || (clsVital v && clsVital pair && decide (clsDie pair = clsDie v)) ||
  (moves && (List.range s.part.dies).any (fun d => !((sedge s d).entries (fun e => decide (e.comp.toNat = c))).isEmpty))

/-- A write of COMPCLS_c through the SEDGE page of a die (R346, R347). -/
def compclsStore (s : State) (d c : Nat) (v : Word) : State :=
  let pg := sedgePg d
  if (List.range s.part.dies).any (fun k => locked s (sedgePg k)) then captureAt s pg 1 (256 + c)
  else if compclsRefused s c v then capture s pg 12 c
  else (List.range s.part.dies).foldl (fun s k => writeFields s (sedgePg k) (256 + c) v) s

/-! ## Commands of the table -/

/-- A command written to a SEDGE page (R365): ignored with cause 0o11 while one is in progress; nothing in Mire
(R353). -/
def sedgeCmd (s : State) (d : Nat) (f : State → State) : State :=
  if s.safety = .mire then s else if (sedge s d).busy.isSome then captureAt s (sedgePg d) 9 16 else f s

/-- REGISTER (R366). -/
def execRegister (die : BitVec 3) (entry : BitVec 30) (comp : BitVec 8) (vpn : BitVec 20) (place : Word) (s : State) :
    Host.Outcome State Fault Refusal :=
  done (unitDo s (sedgePg die.toNat) (fun s =>
    sedgeCmd s die.toNat (fun s => cmdRegister s die.toNat entry.toNat comp.toNat vpn.toNat place)))

/-- SEDGE_RELEASE (R366). -/
def execSedgeRelease (die : BitVec 3) (entry : BitVec 30) (s : State) : Host.Outcome State Fault Refusal :=
  done (unitDo s (sedgePg die.toNat) (fun s => sedgeCmd s die.toNat (fun s => cmdRelease s die.toNat entry.toNat)))

/-- MOVE (R366). -/
def execMove (die : BitVec 3) (entry : BitVec 30) (place : Word) (s : State) : Host.Outcome State Fault Refusal :=
  done (unitDo s (sedgePg die.toNat) (fun s => sedgeCmd s die.toNat (fun s => cmdMove s die.toNat entry.toNat place)))

/-- POOL (R342, R366). -/
def execPool (die : BitVec 3) (first : BitVec 30) (count : BitVec 20) (s : State) : Host.Outcome State Fault Refusal :=
  done (unitDo s (sedgePg die.toNat) (fun s =>
    sedgeCmd s die.toNat (fun s => cmdPool s die.toNat first.toNat count.toNat)))

/-- RECLAIM (R366). -/
def execReclaim (die : BitVec 3) (first : BitVec 30) (count : BitVec 20) (s : State) : Host.Outcome State Fault Refusal :=
  done (unitDo s (sedgePg die.toNat) (fun s =>
    sedgeCmd s die.toNat (fun s => cmdReclaim s die.toNat first.toNat count.toNat)))

/-- PIN (R366). -/
def execPin (die : BitVec 3) (entry : BitVec 30) (pin : Bool) (s : State) : Host.Outcome State Fault Refusal :=
  done (unitDo s (sedgePg die.toNat) (fun s => sedgeCmd s die.toNat (fun s => cmdPin s die.toNat entry.toNat pin)))

/-- SEDGE_COMMAND_DONE (R365): the command in progress has finished its work; a RELEASE frees its frame. -/
def execSedgeCommandDone (die : BitVec 3) (s : State) : Host.Outcome State Fault Refusal :=
  let d := die.toNat
  let x := sedge s d
  done (if sedgeWorks s d then
    match x.busy with
    | none => s
    | some (op, r, i) =>
      let waits := (decide (op = 3) && ((match x.mig with | some m => m.byMove | none => false) || x.waitMove.isSome)) ||
        (decide (op = 6) && (match x.tmig with | some t => t.byCmd | none => false)) ||
        (match x.relPost with | some (id, _) => !postDone s id | none => false)
      if waits then s
      else
        let s1 := match x.relPost with | some (_, k) => endRelease s d k | none => s
        let s2 := setSedge s1 d { sedge s1 d with busy := none }
        irqPend (rset s2 (sedgePg d) 20 (fval 35 32 op ||| fval 31 27 r ||| fval 12 0 i)) (sedgePg d) 1
  else s)

/-- COMPCLS_WRITE (R346, R347). -/
def execCompclsWrite (die : BitVec 3) (c : BitVec 8) (v : Word) (s : State) : Host.Outcome State Fault Refusal :=
  done (unitDo s (sedgePg die.toNat) (fun s => compclsStore s die.toNat c.toNat v))

/-- CTL.SRST of a SEDGE page: its registers return to their reset values, COMPCLS, the directory and the pool stay (R703,
R710, Table 13.7). -/
def sedgeReset (s : State) (d : Nat) : State :=
  let pg := sedgePg d
  unlessLocked s pg 4 (fun s =>
    { s with regs := kkeep s.regs (fun k => decide (k / 512 ≠ pg) || decide (k % 512 = 10) || decide (256 ≤ k % 512)) })

/-- SEDGE_SRST (R710). -/
def execSedgeSrst (die : BitVec 3) (s : State) : Host.Outcome State Fault Refusal :=
  done (unitDo s (sedgePg die.toNat) (fun s => sedgeReset s die.toNat))

/-- HEAT_REPORT (R351): a report of a bank or port, of one access in 64 to a pool frame with the requester's die, reaches Sedge;
with no such report on its way it has no effect. -/
def execHeatReport (frame : BitVec 20) (die : BitVec 3) (s : State) : Host.Outcome State Fault Refusal :=
  let f := frame.toNat
  let r := die.toNat
  done (if s.heatDue.contains (f, r) = false then s else (List.range s.part.dies).foldl (fun s d =>
    if sedgeWorks s d then
      ((sedge s d).entries (fun e => decide (e.pfn = f) && e.st != .lost)).foldl (fun s p =>
        let e := p.2
        putDir s d p.1 (if onChip f ∧ f / 1024 = r then { e with heatL := heatUp e.heatL }
          else { e with heat := kset (fun _ => 0) e.heat r (heatUp (kget (fun _ => 0) e.heat r)) })) s
    else s) { s with heatDue := s.heatDue.erase (f, r) })

/-- HEAT_HALVING (R351, R354): every HPERIOD. -/
def execHeatHalving (die : BitVec 3) (s : State) : Host.Outcome State Fault Refusal :=
  let d := die.toNat
  done (if sedgeWorks s d = true ∧ (sedge s d).lastHalf + rfld s (sedgePg d) 28 35 18 * 1024 ≤ s.ticks then heatHalve s d else s)

/-- HEAT_MIGRATION_START (R352 to R354). -/
def execHeatMigrationStart (die : BitVec 3) (index : BitVec 13) (s : State) : Host.Outcome State Fault Refusal :=
  let d := die.toNat
  let i := index.toNat
  done (if sedgeWorks s d && heatReady s d then
    let s1 := heatStart s d i
    if (sedge s1 d).mig.isSome then s1 else demoteStart s d i
  else s)

/-- MIGRATION_FRAME_GRANT (R344, R355). -/
def execMigrationFrameGrant (die : BitVec 3) (s : State) : Host.Outcome State Fault Refusal :=
  done (migStep s die.toNat (fun m => m.stage == .start) migGrant)

/-- MIGRATION_COPY_PAIR (R356, R357): after every acknowledgement of the invalidation. -/
def execMigrationCopyPair (die : BitVec 3) (s : State) : Host.Outcome State Fault Refusal :=
  done (migStep s die.toNat (fun m =>
    (m.stage == .copying || (m.stage == .breaking && postDone s m.post)) && decide (m.pair < 512)) migCopy)

/-- MIGRATION_MAKE (R355). -/
def execMigrationMake (die : BitVec 3) (s : State) : Host.Outcome State Fault Refusal :=
  done (migStep s die.toNat (fun m => m.stage == .copying && decide (m.pair = 512)) migMake)

/-- MIGRATION_CONFIRM (R344, R345, R355). -/
def execMigrationConfirm (die : BitVec 3) (s : State) : Host.Outcome State Fault Refusal :=
  done (migStep s die.toNat (fun m => m.stage == .made) migConfirm)

/-! ## Reads -/

/-- A read of HELDMAX returns and clears it (Table 7.13); the waits that end in the same fabric cycle stay (R17). -/
def heldmaxLoad (s : State) (d : Nat) : Word × State :=
  (rget s (sedgePg d) 33, rset s (sedgePg d) 33 (evNow s (sedgePg d) 33))

/-- HELDMAX_READ (R364). -/
def execHeldmaxRead (die : BitVec 3) (s : State) : Host.Outcome State Fault Refusal :=
  done (unitDo s (sedgePg die.toNat) (fun s => let r := heldmaxLoad s die.toNat; replyWord r.2 r.1))

/-- Frames of a die's pool in a state. -/
def poolCount (s : State) (d : Nat) (x : Frame) : Nat := ((sedge s d).pool.filter (fun p => p.2 == x)).length

/-- A read of FRAMES_0 latches FRAMES_1 (R344). -/
def frames0Load (s : State) (d : Nat) : Word × State :=
  let x := sedge s d
  (fval 35 18 (poolCount s d .free) ||| fval 17 0 (poolCount s d .mapped),
   setSedge s d { x with frames1 := fval 35 18 (poolCount s d .reserved) ||| fval 17 0 x.pool.length })

/-- FRAMES_0_READ (R344). -/
def execFrames0Read (die : BitVec 3) (s : State) : Host.Outcome State Fault Refusal :=
  done (unitDo s (sedgePg die.toNat) (fun s => let r := frames0Load s die.toNat; replyWord r.2 r.1))

end Sys2Proof.Machine
end

