-- ==== Sys2Proof/Machine/StoreBuf.lean ====
section
/-! DEFINITION. The drain of a core's store buffer: a word reaches its bank or port and is written, or its error becomes
a late store error (R190, R242, R296, R298, R396). -/

namespace Sys2Proof.Machine

/-- A late store error of a context, or its capture when the context is Empty (R296, R298). -/
def lateError (s : State) (n : Nat) (e : SbEntry) (cause : Nat) : State :=
  let h := e.stamp.ctx.toNat
  let x := ctxAt s n h
  if x.st = .empty then capture s (corePg n) 8 e.va
  else setCtx s n h { x with lates := x.lates ++ [{ cause := cause, addr := e.va, tsb := e.tsb, comp := e.stamp.comp }] }

/-- A buffered word is written: in the slots it takes (R31, R334), and with the single error of a word that it writes in part counted
by the port that corrects it (R26, R578). -/
def storeWord (s : State) (n : Nat) (e : SbEntry) : State :=
  let s1 := noteAccess s (.data n) e.pa (writeSlots s e.pa)
  memWrite (if e.mask ≠ ~~~0 ∧ (mget s e.pa).ecc = .single then eccCorrected s1 e.pa else s1) e.pa e.data e.mask e.tag

/-- A buffered store, a word or the two words of a pair, reaches its bank or port as one unit (R93): reach, target gate under its
stamp (R396), ECC of a partial write, then the write (R242, R334). It has one late error at most (R296). A store in flight from an
isolated region is answered with an isolation error, wherever it goes (R48). -/
def performStore (s : State) (n : Nat) (e : SbEntry) (rest : List SbEntry) : State :=
  if isolatedRegion s (n / 4) then lateError s n e 1
  else
  match memReach s e.pa with
  | .ok =>
    if !targetOk s e.stamp e.pa e.kind then lateError (targetCapture s e.stamp e.pa e.kind) n e 2
    else if e.mask ≠ ~~~0 ∧ (mget s e.pa).ecc = .double then lateError (eccLost s e.pa) n e 3
    else (e :: rest).foldl (fun s e => storeWord s n e) s
  | r => lateError (reachRecord s (n / 16) e.pa r) n e 1

/-- The words that leave the buffer with its oldest, and those that stay: both words of a capability pair leave together (R93). -/
def sbUnit (e : SbEntry) (rest : List SbEntry) : List SbEntry × List SbEntry := if e.pair then (rest.take 1, rest.drop 1) else ([], rest)

/-- The oldest store leaves the buffer: one word, or both words of a capability pair as one unit (R93, R242). -/
def drainOne (s : State) (n : Nat) : State :=
  let c := coreAt s n
  match c.sb with
  | [] => s
  | e :: rest => performStore (setCore s n { c with sb := (sbUnit e rest).2 }) n e (sbUnit e rest).1

/-- Drains the buffer, on fuel. -/
def drainAux (s : State) (n fuel : Nat) : State :=
  match fuel with
  | 0 => s
  | f + 1 => drainAux (drainOne s n) n f

/-- Drains the whole buffer of a core: its 4 words (notes/assumptions/14.md). -/
def drainAll (s : State) (n : Nat) : State := drainAux s n 4

/-- The state of the writes of an entry or of a STOP that have failed: nothing of the core changes but the drain of its store buffer
(R280). -/
def unentered (s s1 : State) (n : Nat) : State := setCore s1 n (coreAt (drainAll s n) n)

end Sys2Proof.Machine
end

