-- ==== Sys2Proof/Machine/Reset.lean ====
section
/-! DEFINITION. What resets clear and keep (R595, R596, R617, R619, R632, R675, Table 13.7): register fields, cores, banks,
channel blocks, dies, the package; the Boot values that die services restores. -/

namespace Sys2Proof.Machine

/-! ## Boot values (R406, R595 to R597) -/

/-- FEAT_OFFER of a page (Table 2.10, R85, R595): PKG shows the fuses alone; before Carr writes it, BASE. A flash port
offers PROG while its tables name a program instruction (R571). -/
def offer (s : State) (pg : Nat) : Word :=
  if pg = pkgPg 0 then s.part.pkgOffer
  else
    match unitOf s.part pg with
    | none => 0
    | some u =>
      let w := kget (fun _ => 1) s.offers u.code
      if u = .flash then
        let f := kget (fun _ => Flash.init) s.flashes (pg % 2)
        setBit w 1 (bit w 1 && (match f.sfdp with | some t => t.program.isSome | none => false))
      else w

/-- The rule 0o3776 of every slot of a word (R406). -/
def openRules : Word := fval 10 0 2046 ||| fval 22 12 2046 ||| fval 34 24 2046

/-- Set A as the first application instruction finds it (R406). -/
def bootSet (comp : Nat) : RuleSet := ({ RuleSet.init with st := .ready, fill := openRules }).setWord 2 (fval 7 0 comp)

/-- Entry 0 of a target gate as the first application instruction finds it (R406). -/
def bootEntry (last : Nat) : Word := fval 35 34 3 ||| fval 25 15 2046 ||| fval 5 0 last

/-- Whether the handover has written the Boot values. -/
def booted (s : State) : Bool := s.boot.phase == .done

/-- PSW.COMP of the boot context. -/
def bootComp (s : State) : Nat := match s.boot.app with | some i => i.comp0 | none => 0

/-- The entries of the target gates in a group of domains (R406, Table 13.1). -/
def restoreGates (s : State) (p : Nat → Bool) : State :=
  (List.range (16 * s.part.dies)).foldl (fun s n =>
    let s1 := if p (domKey (n / 16) (16 + n % 16)) then rset s (mgatePg n) 32 (bootEntry 63) else s
    if n % 4 = 0 ∧ p (domKey (n / 16) (32 + n / 4 % 4)) = true then rset s1 (regionPg (n / 4) 40) 32 (bootEntry 8) else s1) s

/-- Die services restores the pages of a group of domains (R596): the target gate entries, the locks that Carr set, the
enabled CARR pages. -/
def restorePages (s : State) (p : Nat → Bool) : State :=
  if booted s then
    let s1 := (List.range s.part.dies).foldl (fun s d =>
      if p (domKey d 41) then
        rset (rset (rset s (carrPg d) 3 (offer s (carrPg d))) (carrPg d) 4 1) (carrPg d) 5 1 else s) (restoreGates s p)
    s1.bootLocks.foldl (fun s pg => if p (domOfPage pg) then rset s pg 10 3 else s) s1
  else s

/-! ## Registers -/

/-- The domain that holds a register: its page's, but the bank's for a BTG entry (Table 13.1). -/
def domOfReg (k : Nat) : Nat :=
  let pg := k / 512
  let d := pg / 2048
  let q := pg % 2048
  if d < 8 ∧ 64 ≤ q ∧ 8 ≤ q % 64 ∧ q % 64 < 24 ∧ q % 4 = 1 ∧ 32 ≤ k % 512 ∧ k % 512 < 48 then
    domKey d (16 + 4 * (q / 64 - 1) + (q % 64 - 8) / 4)
  else domOfPage pg

/-- The registers of a group of domains return to their reset values (R617). -/
def clearDoms (s : State) (p : Nat → Bool) : State := { s with regs := kkeep s.regs (fun k => !p (domOfReg k)) }

/-! ## Memory -/

/-- Tags of a group of words are cleared, data is kept. -/
def clearTags (s : State) (p : Nat → Bool) : State :=
  let cleared := s.mem.map (fun e => if p e.1 then (e.1, { e.2 with tag := false }) else e)
  { s with mem := cleared.filter (fun e => decide (e.2 ≠ memDefault e.1)) }

/-- A group of words reads 0 with tag 0 (R619). -/
def clearWords (s : State) (p : Nat → Bool) : State :=
  { s with mem := kkeep s.mem (fun a => !p a), eccWb := s.eccWb.filter (fun a => !p a) }

/-- The addresses of bank n. -/
def inBank (n a : Nat) : Bool := decide (a / 65536 = n)

/-- The addresses of the range of an external memory port. -/
def inEmp (i a : Nat) : Bool := decide (4 + 2 * i ≤ a / 134217728 ∧ a / 134217728 < 6 + 2 * i)

/-! ## Cores -/

/-- A late store error that no context will take is captured by the CORE page (R298). -/
def captureLate (s : State) (n : Nat) (e : LateErr) : State := capture s (corePg n) 8 e.addr

/-- A core block is reset: every context is Empty, its TLBs and target cache are empty, its rule sets hold what R406
gives (notes/assumptions/26.md). Stores issued before complete; their errors, and those that wait for a context, are captured (R298,
R635). Its invalidations count as acknowledged (R327). -/
def coreReset (s : State) (n : Nat) (key : Word) : State :=
  let c := coreAt s n
  let fresh := { Core.init with sb := c.sb, tcKey := key, setA := if booted s then bootSet (bootComp s) else RuleSet.init }
  let s1 := drainAll (setCore s n fresh) n
  ackAll (c.ctxs.foldl (fun s p => p.2.lates.foldl (fun s e => captureLate s n e) s) s1) n

/-- Every buffered store and late error of a core whose domain powers down (R618): its contexts are Empty. -/
def coreDrain (s : State) (n : Nat) : State := drainAll s n

/-! ## Units -/

/-- The channel block of a region is reset (R498); the balls FB keep their levels. -/
def blockReset (s : State) (g : Nat) : State :=
  let s1 := (List.range 24).foldl (fun s c => setChan s (24 * g + c) { Chan.init with fb := (chan s (24 * g + c)).fb }) s
  setBlock (setVoter s1 g Voter.init) g Block.init

/-- The links of a region's crossbar return to their reset state. -/
def crossbarReset (s : State) (g : Nat) : State :=
  { s with links := kkeep s.links (fun k => decide (512 ≤ k) || decide (k % 256 / 8 ≠ g)) }

/-- The reset of one domain (Table 13.7): its logic, its registers, the frames concerned; what die services restores is
written at the release. -/
def domLogic (s : State) (k : Nat) : State :=
  let d := k / 64
  let i := k % 64
  let s1 := clearDoms s (fun x => x == k)
  if 512 ≤ k then
    let j := k - 512
    if j < 2 then
      { clearWords s1 (inEmp j) with emps := kset (fun _ => Emp.init) s1.emps j Emp.init }
    else if j < 6 then
      if cwyState s1 (j - 2) = .up then startRetrain s1 (544 + (j - 2)) false else s1
    else
      { s1 with prps := [], eths := (List.range 4).foldl (fun m e =>
          kset (fun _ => Eth.init) m e { Eth.init with link := (kget (fun _ => Eth.init) m e).link }) s1.eths }
  else if i < 16 then coreReset s1 (16 * d + i) (coreAt s1 (16 * d + i)).tcKey
  else if i < 32 then
    let n := 16 * d + (i - 16)
    let s2 := sedgeLose (clearTags s1 (inBank n)) (fun f => decide (f / 64 = n))
    { s2 with steals := kset (fun _ => (0, 0)) s2.steals n (0, 0) }
  else if i < 36 then blockReset s1 (4 * d + (i - 32))
  else if i < 40 then
    let g := 4 * d + (i - 36)
    crossbarReset (sedgeIsolate (setSweep s1 g Sweep.init) g) g
  else s1

/-- A domain enters reset (R624, R635): drain and held request are discarded. `until` is the tick of its release, none
where software releases it (R30, R41) or the region is isolated (R47). -/
def domHold (s : State) (k : Nat) (release : Option Nat) : State :=
  let x := dom s k
  let s1 := setDom s k { x with target := none, drain := none, queued := none, held := true, rstUntil := release }
  domLogic { s1 with enHeld := s1.enHeld.filter (fun pg => domOfPage pg != k) } k

/-- A domain leaves reset under R617, its pages restored; a domain that was switched off or gated keeps its state. -/
def domRelease (s : State) (k : Nat) : State :=
  restorePages (setDom s k { dom s k with held := false, rstUntil := none }) (fun j => j == k)

/-! ## A die (R634, R710) -/

/-- The domains of a die, but those of its isolated regions, are in Run. -/
def dieDoms (s : State) (d : Nat) : State :=
  { s with doms := kkeep s.doms (fun k => decide (k / 64 ≠ d) || (kget (fun _ => Dom.init) s.doms k).held &&
      decide (k % 64 < 40) && s.isol.getLsbD (4 * d + (if k % 64 < 32 then k % 16 / 4 else k % 4))) }

/-- New target-cache keys for a list of cores, from Carr's random source (R241, notes/assumptions/4.md). -/
def newKeys (s : State) (ns : List Nat) : State :=
  ns.foldl (fun s n =>
    { setCore s n { coreAt s n with tcKey := Config.freeValue 36 s.fresh } with fresh := s.fresh + 1 }) s

/-- The cores of a die. -/
def dieCores (d : Nat) : List Nat := (List.range 16).map (fun k => 16 * d + k)

/-- Frames of other dies' pools that the directory and the migration of a die hold are free again, so that the books agree when its
directory is cleared (R344, R345; DESIGN CHOICE, notes/assumptions/80.md). -/
def freeFramesOf (s : State) (d : Nat) : State :=
  let x := sedge s d
  let mine := (x.entries (fun e => e.st != .lost)).map (fun p => p.2.pfn) ++
    (match x.mig with | some m => if m.stage = .start then [] else [m.dest] | none => [])
  mine.foldl (fun s f =>
    match poolDie s f with
    | some k => if k = d then s else setPool s k f .free
    | none => s) s

/-- A frame of external memory that an entry or a migration of another die holds (R344). -/
def heldElsewhere (s : State) (d f : Nat) : Bool :=
  !onChip f && (List.range s.part.dies).any (fun k => decide (k ≠ d) &&
    (!((sedge s k).entries (fun e => e.st != .lost && decide (e.pfn = f))).isEmpty ||
      (match (sedge s k).mig with | some m => m.stage != .start && decide (m.dest = f) | none => false)))

/-- The directory and pool of a die are cleared; its pool keeps the frames of external memory that other dies hold, so that the
books agree (R344, R345; DESIGN CHOICE, notes/assumptions/80.md). -/
def clearSedge (s : State) (d : Nat) : State :=
  let s1 := freeFramesOf s d
  setSedge s1 d { Sedge.init with pool := (sedge s1 d).pool.filter (fun p => heldElsewhere s1 d p.1) }

/-- The marks of a die's pages are lost (R675): an entry registered before counts in none. -/
def clearMarks (s : State) (d : Nat) : State :=
  let s1 := (List.range s.part.dies).foldl (fun s k => setSedge s k { sedge s k with
    dir := (sedge s k).dir.map (fun p => (p.1, { p.2 with marked := p.2.marked && decide (p.2.eaddr / 1048576 ≠ d) })) }) s
  { s1 with marks := kkeep s.marks (fun p => decide (p / 1024 ≠ d)) }

/-- A die is reset (Table 13.7): its banks keep data and lose tags and marks (R675), its directory and Reed table are
cleared, every Sedge treats its frames as R359 states. -/
def dieReset (s : State) (d : Nat) : State :=
  let mine := fun k => decide (k < 512) && decide (k / 64 = d)
  let s0 := { s with enHeld := s.enHeld.filter (fun pg => !mine (domOfPage pg)) }
  let s1 := dieDoms (clearDoms s0 mine) d
  let s2 := (dieCores d).foldl (fun s n => coreReset s n 0) s1
  let s3 := clearTags s2 (fun a => decide (a / 1048576 = d))
  let s4 := { clearMarks s3 d with steals := kkeep s3.steals (fun n => decide (n / 16 ≠ d)),
                                   heatCnt := kkeep s3.heatCnt (fun n => decide (n / 16 ≠ d)) }
  let s5 := (List.range 4).foldl (fun s r => crossbarReset (setSweep (blockReset s (4 * d + r)) (4 * d + r) Sweep.init) (4 * d + r)) s4
  let s6 := clearSedge (setReed s5 d Reed.init) d
  let s7 := { s6 with dieRst := if s6.dieRst.contains d then s6.dieRst else s6.dieRst ++ [d]
                      cans := kset (fun _ => Can.init) s6.cans d Can.init
                      links := kkeep s6.links (fun k => !(decide (512 ≤ k ∧ k < 544) &&
                        (decide ((k - 512) / 4 = d) || bridgePeer s.part ((k - 512) / 4) (k % 4) == some d))) }
  sedgeLose (newKeys s7 (dieCores d)) (fun f => decide (f / 1024 = d))

/-- The COMPCLS registers of die 0 are copied to a die (R710). -/
def copyClasses (s : State) (d : Nat) : State :=
  (List.range 256).foldl (fun s c => rset s (sedgePg d) (256 + c) (rget s (sedgePg 0) (256 + c))) s

/-! ## The package -/

/-- The lifecycle state of the fuses (R602). -/
def fuseLcs (f : Fuses) : Lifecycle :=
  if 2 ≤ f.retired then .retired else if 2 ≤ f.fieldF then .field else if 2 ≤ f.prov then .provisioned else .blank

/-- A group of three fuses with exactly two blown has its third blown (R586). -/
def repair3 (n : Nat) : Nat := if n = 2 then 3 else n

/-- The repair of every fuse group at a boot (R586). -/
def Fuses.repair (f : Fuses) : Fuses :=
  { f with rvk := (f.rvk.map (fun p => (p.1, repair3 p.2))), prov := repair3 f.prov, fieldF := repair3 f.fieldF,
           retired := repair3 f.retired, idzero := repair3 f.idzero }

/-- ROOTHASH_k. -/
def Fuses.hash (f : Fuses) (k : Nat) : BitVec 384 := kget (fun _ => 0) f.roothash k

/-- One fuse that Carr programs: a bit of ROOTHASH_k, DBGSLOT or IDKEY, or the next of a group or of a thermometer code. -/
inductive Fuse where
  | hash (k i : Nat)
  | dbg (i : Nat)
  | key (i : Nat)
  | prov
  | field
  | retired
  | zero
  | rvk (k : Nat)
  | minC
  | minA
  deriving DecidableEq, Repr

/-- One fuse of a group is programmed: the count of blown fuses rises by one, up to what the command programs. -/
def blowOne (n target : Nat) : Nat := if n < target then n + 1 else n

/-- One fuse is programmed toward what a command programs; a fuse that the command leaves is not blown (R586). -/
def Fuses.blow (want f : Fuses) (x : Fuse) : Fuses :=
  match x with
  | .hash k i => { f with roothash := kset (fun _ => 0) f.roothash k (f.hash k ||| (want.hash k &&& BitVec.ofNat 384 (2 ^ i))) }
  | .dbg i => { f with dbgslot := f.dbgslot ||| (want.dbgslot &&& BitVec.ofNat 4 (2 ^ i)) }
  | .key i => { f with idkey := f.idkey ||| (want.idkey &&& BitVec.ofNat 416 (2 ^ i)) }
  | .prov => { f with prov := blowOne f.prov want.prov }
  | .field => { f with fieldF := blowOne f.fieldF want.fieldF }
  | .retired => { f with retired := blowOne f.retired want.retired }
  | .zero => { f with idzero := blowOne f.idzero want.idzero }
  | .rvk k =>
    let n := blowOne (kget (fun _ => 0) f.rvk k) (kget (fun _ => 0) want.rvk k)
    { f with rvk := kset (fun _ => 0) f.rvk k n }
  | .minC => { f with minsvnC := blowOne f.minsvnC want.minsvnC }
  | .minA => { f with minsvnA := blowOne f.minsvnA want.minsvnA }

/-- The order in which the fuses of a command are programmed, one at a time, group by group (R586); PROV comes last
(DESIGN CHOICE, notes/assumptions/34.md). -/
def fuseOrder : List Fuse :=
  (List.range 4).flatMap (fun k => (List.range 384).map (Fuse.hash k)) ++ (List.range 4).map Fuse.dbg ++
  (List.range 416).map Fuse.key ++ (List.range 4).flatMap (fun k => List.replicate 3 (Fuse.rvk k)) ++
  List.replicate 3 .field ++ List.replicate 3 .retired ++ List.replicate 3 .zero ++ List.replicate 64 .minC ++
  List.replicate 64 .minA ++ List.replicate 3 .prov

/-- The fuses when a command that programs `want` has programmed n of them. -/
def Fuses.partly (f want : Fuses) (n : Nat) : Fuses := (fuseOrder.take n).foldl (Fuses.blow want) f

/-- The fuses after a reset: a command in progress is abandoned, and how many fuses it had programmed is a free value (R586, R612,
notes/assumptions/34.md). -/
def abandonedFuses (s : State) : Fuses :=
  match s.carr.busy with
  | none => s.fuses
  | some j => j.fusesWere.partly s.fuses ((Config.freeValue 12 s.fresh).toNat % (fuseOrder.length + 1))

/-- The service request that Carr holds after a reset: one that an abandoned command made is not held (R603, R612). -/
def abandonedSvc (s : State) : Bool :=
  match s.carr.busy with
  | none => s.heldSvc
  | some j => j.svcWas

/-- The reset of the package (Table 13.7). `power` is the column of PORST_N: track time 0, memory cleared, LASTMIRE and a held
service request lost; otherwise on-chip and external data stay without tags. -/
def pkgReset (s : State) (power : Bool) : State :=
  let kept := if power then [] else kkeep s.regs (fun k => decide (k = pkgPg 0 * 512 + 68))
  let r := { State.reset with
    part := s.part, pending := s.pending, fresh := s.fresh + bnat s.carr.busy.isSome, busReply := s.busReply, regs := kept,
    mem := if power then [] else (clearTags s (fun _ => true)).mem
    heldSvc := !power && abandonedSvc s, fuses := abandonedFuses s, fusesRead := s.fusesRead, straps := s.straps, pins := s.pins,
    tt := if power then 0 else s.tt, ttSub := if power then 0 else s.ttSub, ticks := s.ticks, tap := s.tap,
    postId := s.postId, lcs := s.lcs,
    chans := (s.chans.filter (fun p => p.2.fb)).map (fun p => (p.1, { Chan.init with fb := true })),
    eths := (s.eths.filter (fun p => p.2.link)).map (fun p => (p.1, { Eth.init with link := true })) }
  newKeys r (coreNos r)

/-- A boot starts at the release of a reset (R584, R586, R602): the fuses are repaired and read, a held service request is
consumed, GATECFG.MODE takes its strap (R404), and a low FRZ_N freezes the device (R650). -/
def bootStart (s : State) : State :=
  let f := s.fuses.repair
  let l := fuseLcs f
  let svc := s.heldSvc && l != .retired
  let s0 := rset s (pkgPg 0) 40 (fval 1 0 (s.straps.toNat / 4))
  { s0 with
    fuses := f, fusesRead := f, lcs := if svc then .service else l, heldSvc := false,
    boot := { Boot.init with svcWhy := if svc then 1 else 0 }
    frozen := if s.pins.frz then none
      else some { safety := .boot, lcs := if svc then .service else l, dbg := if l = .blank then 3 else 0, resume := l == .blank } }

end Sys2Proof.Machine
end

