-- ==== Sys2Proof/Machine/Mire.lean ====
section
/-! DEFINITION. The transitions of the safety run state that a rule makes on its own (R636, R638, R640, R641), the isolation
of a region (R46 to R49, R445, R624), and the end of a debug token (R611, R669). -/

namespace Sys2Proof.Machine

/-! ## Debug token -/

/-- RUN of a context (R666): a context halted at a BREAK goes on after it (R667). -/
def Ctx.released (x : Ctx) : Ctx :=
  let y := { x with halted := false, stepping := false, atBreak := false }
  if x.atBreak then { y with pcc := x.pcc.move (x.pcc.cursor + 1) } else y

/-- Every halted context of the package is released (R669). -/
def releaseHalted (s : State) : State :=
  (coreNos s).foldl (fun s n => (List.range 4).foldl (fun s h =>
    if (ctxAt s n h).halted then setCtx s n h (ctxAt s n h).released else s) s) s

/-- The token in force ends: halted contexts are released and BRKEN is cleared (R669). -/
def endToken (s : State) : State :=
  match s.carr.token with
  | none => s
  | some _ => rsetf (releaseHalted { s with carr := { s.carr with token := none } }) frzPg 16 26 26 0

/-! ## Mire -/

/-- Every entry of every Reed becomes Free, every window and commit goes (R446, Table 14.9). -/
def freeAll (s : State) : State :=
  (List.range s.part.dies).foldl (fun s d =>
    let s1 := setReed s d { reed s d with ev := [], cancels := [] }
    (List.range 4).foldl (fun s r => setVoter s (4 * d + r) { voter s (4 * d + r) with wins := [], commits := [] }) s1) s

/-- Every channel that has power goes to its safe state with cause 13 (R640), and the excitation of an Axle channel that is in it
already stops (R479). -/
def channelsSafe (s : State) : State :=
  (List.range (chanCount s)).foldl (fun s m => if chanUp s m then setGd (safeEnter s m 13 0 0) m false else s) s

/-- Entry to Mire (R640, R641): a second cause changes nothing. -/
def mireEnter (s : State) (cause die core : Nat) : State :=
  if s.safety = .mire then s
  else
    let s1 := { endToken s with safety := .mire }
    let s2 := rset (evPut s1 (pkgPg 0) 68 (fval 35 35 1)) (pkgPg 0) 68 (fval 35 35 1 ||| fval 34 30 cause ||| fval 29 27 die |||
      (if cause = 3 ∨ cause = 4 then fval 26 20 core else 0))
    channelsSafe (freeAll (venStopAll s2 7))

/-! ## Proof -/

/-- Entry to Proof (R636, R638): the generators stop, every CBK page clears CHKRES. -/
def toProof (s : State) : State :=
  let s1 := venStopAll { s with safety := .proof } 4
  (List.range (4 * s.part.dies)).foldl (fun s g =>
    setBlock s g { block s g with chkDone := false, chkPass := false }) s1

/-! ## Isolation -/

/-- The domains of a region. -/
def regionDoms (g : Nat) : List Nat :=
  let d := g / 4
  let r := g % 4
  (List.range 4).map (fun b => domKey d (4 * r + b)) ++ (List.range 4).map (fun b => domKey d (16 + 4 * r + b)) ++
    [domKey d (32 + r), domKey d (36 + r)]

/-- A request to isolate a region (R46, R47, R49): its events are retired (R445), its domains held in reset (R624), its
frames lost (R359); Run becomes Degraded. A second region of one die moves the package to Mire; an isolated region is
isolated already. In Mire a region is isolated as in any other state: R46, R47 and R359 name no exception
(notes/assumptions/48.md). -/
def isolate (s : State) (g : Nat) : State :=
  let d := g / 4
  if s.isol.getLsbD g then s
  else if (List.range 4).any (fun r => s.isol.getLsbD (4 * d + r)) then mireEnter s 2 d 0
  else
    let s1 := retireWhere s d (fun e => decide (24 * (g % 4) ≤ e.chan ∧ e.chan < 24 * (g % 4) + 24))
    let s1 := { s1 with isol := s1.isol ||| BitVec.ofNat 32 (2 ^ g) }
    let s3 := (regionDoms g).foldl (fun s k => domHold s k none) (sedgeIsolate s1 g)
    if s3.safety = .run then { s3 with safety := .degraded } else s3

end Sys2Proof.Machine
end

