-- ==== Sys2Proof/Machine/CorePage.lean ====
section
/-! DEFINITION. The CORE page's own commands (R30, R241, R257, R264, R265, R307, R310, R350, R392): binding and unbinding a
task, the doorbell, the flush of the target cache, the counters, TTB, and a register-file parity error. -/

namespace Sys2Proof.Machine

/-! ## CTXBIND START (R264, R350, R392) -/

/-- Physical words read by the core page's engine; none where one cannot be read. -/
def physWords (s : State) (die : Nat) (addrs : List Nat) : Option (List (Word × Bool)) × State :=
  addrs.foldl (fun r a =>
    match r with
    | (none, s) => (none, s)
    | (some l, s) =>
      if memReach s a = .ok then
        match readFor s (.die die) a with
        | (some w, s1) => (some (l ++ [w]), s1)
        | (none, s1) => (none, s1)
      else (none, memMiss s die a)) (some [], s)

/-- The pair at words i and i + 1 of a block, as a capability: tagged when both words are (R93). -/
def pairAt (ws : List (Word × Bool)) (i : Nat) : Cap :=
  let a := (ws[i]?).getD (0, false)
  let b := (ws[i + 1]?).getD (0, false)
  { hi := a.1, lo := b.1, tag := a.2 && b.2 }

/-- The state saved in a block (Table 6.3). -/
def savedOf (ws : List (Word × Bool)) : Saved :=
  { pcc := pairAt ws 2, words := (List.range 11).map (fun k => ((ws[4 + k]?).getD (0, false)).1), c6 := pairAt ws 16,
    c7 := pairAt ws 18, bank := [] }

/-- SELF as START checks it: tagged, unsealed, Load, Store, LoadCap and StoreCap, 32 words at a 32-word-aligned base. -/
def selfOk (c : Cap) : Bool :=
  c.tag && decide (c.otype = 0) && c.has .load && c.has .store && c.has .loadCap && c.has .storeCap &&
  decide (c.base % 32 = 0) && decide (c.top = c.base + 32)

/-- The placement rule of a vital or timed compartment's task (R350). -/
def placeOk (s : State) (n comp : Nat) : Bool :=
  let w := compcls s (n / 16) comp
  (!clsVital w || decide (clsDie w = n / 16)) && (!clsTimed w || decide (4 * clsDie w + clsReg w = n / 4))

/-- A refused CTXBIND (R265): INFO is the ADDR written (Table 6.11). -/
def bindRefused (s : State) (n a : Nat) : State := capture s (corePg n) 9 a

/-- The context that START makes (R264, R392): restored as by RFE, with the sealed SELF as its pointer. -/
def boundCtx (v : Saved) (self : Cap) (b : Bool) : Ctx :=
  let x := { (Ctx.init.restored false 0 v) with fsp := Cap.null, setB := b, st := .ready }
  x.setTsp ((self.withType 58).withCursor (self.base + fld (v.word 0) 1 0))

/-- CTXBIND START. -/
def bindStart (s : State) (n h a : Nat) : State :=
  if (ctxAt s n h).st ≠ .empty then bindRefused s n a
  else
    match physWords s (n / 16) ((List.range 20).map (fun k => a + k)) with
    | (none, s1) => bindRefused s1 n a
    | (some ws, s1) =>
      let self := pairAt ws 0
      let v := savedOf ws
      let comp := fld (v.word 0) 29 22
      match readySetOf (coreAt s1 n) comp with
      | none => bindRefused s1 n a
      | some b =>
        if selfOk self = false ∨ placeOk s1 n comp = false ∨ fld (v.word 0) 1 0 = 3 then bindRefused s1 n a
        else wakeCore (setCtx (putFor s1 (.data n) (a + 15) 0 false) n h (boundCtx v self b)) n

/-- CTXBIND_START (R264, R265). -/
def execCtxbindStart (core : BitVec 7) (h : BitVec 2) (addr : BitVec 30) (s : State) : Host.Outcome State Fault Refusal :=
  done (unitDo s (corePg core.toNat) (fun s => bindStart s core.toNat h.toNat addr.toNat))

/-! ## CTXBIND STOP (R264) -/

/-- The words that STOP writes to the task-state block, as a first-level entry does (Table 6.3). -/
def stopWords (s : State) (h : Nat) (x : Ctx) : List (Nat × Word × Bool) :=
  let t := x.tsbBase
  capWords (t + 2) x.pcc ++ untagged (t + 4) (x.saveWords s h) ++ [(t + 15, fval 35 35 1, false)] ++
  capWords (t + 16) (x.cr 6) ++ capWords (t + 18) (x.cr 7)

/-- The context is cleared and Empty; a late store error that waited for it is captured (R298). -/
def stopClear (s : State) (n h : Nat) : State :=
  (ctxAt s n h).lates.foldl (fun s e => captureLate s n e) (setCtx s n h Ctx.init)

/-- A write of the block by a STOP reads a held entry: the STOP waits (R339), and at the hold limit its block cannot be written
(R340). The answer says whether it waits. -/
def stopHeld (s s1 : State) (n a : Nat) : Bool × State :=
  match (coreAt s1 n).held with
  | some w =>
    if heldTooLong s n 2 (w.va / 1024) then (false, bindRefused (unitGoesOn s n 2) n a) else (true, unitWaits s n 2 (w.va / 1024))
  | none => (true, s)

/-- CTXBIND STOP: whether it waits on a held entry, and what it leaves. A block that cannot be written refuses the STOP; `a` is the
ADDR written with it (notes/assumptions/28.md). -/
def bindStop (s : State) (n h a : Nat) : Bool × State :=
  let x := (ctxAt s n h).landLoad.finishMuls
  if (ctxAt s n h).st ≠ .waiting then (false, bindRefused s n a)
  else if x.fb then (false, stopClear s n h)
  else if x.tsp.tag = false ∨ x.tsp.otype ≠ 58 then (false, bindRefused s n a)
  else
    match ((stopWords s h x).forM (entryWrite n h)) (drainAll s n) with
    | .ok _ s1 => (false, stopClear (unitGoesOn (keepHeld s s1 n) n 2) n h)
    | .error .wait s1 => stopHeld s s1 n a
    | .error _ s1 => (false, bindRefused (unitGoesOn (unentered (drainAll s n) s1 n) n 2) n a)

/-- CTXBIND_STOP (R264, R265), with an ADDR of 0. -/
def execCtxbindStop (core : BitVec 7) (h : BitVec 2) (s : State) : Host.Outcome State Fault Refusal :=
  done (unitDo s (corePg core.toNat) (fun s => (bindStop s core.toNat h.toNat 0).2))

/-- A store to CTXBIND (Table 6.12). -/
def ctxbindStore (s : State) (n : Nat) (v : Word) : State :=
  if fld v 35 33 = 1 then bindStart s n (fld v 32 31) (fld v 29 0)
  else if fld v 35 33 = 2 then (bindStop s n (fld v 32 31) (fld v 29 0)).2
  else s

/-- A store to CTXBIND waits for a held entry. -/
def ctxbindWaits (s : State) (n : Nat) (v : Word) : Bool :=
  decide (fld v 35 33 = 2) && (bindStop s n (fld v 32 31) (fld v 29 0)).1

/-! ## Other registers -/

/-- A store to DBELL (R307). -/
def dbellStore (s : State) (n : Nat) (v : Word) : State := if bit v 0 then irqPend s (corePg n) 1 else s

/-- RING (R307). -/
def execRing (core : BitVec 7) (s : State) : Host.Outcome State Fault Refusal :=
  done (unitDo s (corePg core.toNat) (fun s => dbellStore s core.toNat 1))

/-- A store to TCCTL: FLUSH invalidates every target-cache entry (R241). -/
def tcctlStore (s : State) (n : Nat) (v : Word) : State :=
  if bit v 0 then setCore s n { coreAt s n with tc := [] } else s

/-- FLUSH (R241). -/
def execFlush (core : BitVec 7) (s : State) : Host.Outcome State Fault Refusal :=
  done (unitDo s (corePg core.toNat) (fun s => tcctlStore s core.toNat 1))

/-- Every performance counter is 0 (R257), but for what the present fabric cycle has counted (R17). -/
def clearCounters (s : State) (n : Nat) : State :=
  (List.range 9).foldl (fun s k => rset s (corePg n) (65 + k) (evNow s (corePg n) (65 + k))) s

/-- A store to PMCTL (R256, R257). -/
def pmctlStore (s : State) (n : Nat) (v : Word) : State :=
  let s1 := writeFields s (corePg n) 64 v
  if bit v 3 then clearCounters s1 n else s1

/-- PMCTL_CLR (R257): the other fields stay. -/
def execPmctlClr (core : BitVec 7) (s : State) : Host.Outcome State Fault Refusal :=
  done (unitDo s (corePg core.toNat) (fun s => clearCounters s core.toNat))

/-- TTB_WRITE (R310): in force from the core's next access; no TLB entry is removed. -/
def execTtbWrite (core : BitVec 7) (v : Word) (s : State) : Host.Outcome State Fault Refusal :=
  done (unitDo s (corePg core.toNat) (fun s => plainWrite s (corePg core.toNat) 176 v))

/-! ## Register-file parity (R30) -/

/-- REGFILE_PARITY_ERROR (R30): the region error manager captures the report, whose cause the spec does not number
(notes/assumptions/4.md), and holds the core's domain in reset until software releases it. -/
def execRegfileParityError (core : BitVec 7) (s : State) : Host.Outcome State Fault Refusal :=
  let n := core.toNat
  done (unitDo s (corePg n) (fun s =>
    let c := (Config.freeValue 5 s.fresh).toNat
    let i := (Config.freeValue 30 (s.fresh + 1)).toNat
    domHold (capture { s with fresh := s.fresh + 2 } (remPg (n / 4)) c i) (domKey (n / 16) (n % 16)) none))

end Sys2Proof.Machine
end

