-- ==== Sys2Proof/Machine/PortDma.lean ====
section
/-! DEFINITION. Packed octets and the DMA of the ports (R8, R9, R550 to R553): the window, the stamp, words and octet strings,
descriptor rings. -/

namespace Sys2Proof.Machine

/-! ## Packed octets (R8) -/

/-- Four octets in one word, the first in nonet 3; an octet that is absent is packed as 0. -/
def packFour (l : List (BitVec 8)) : Word :=
  (List.range 4).foldl (fun w k => setFld w (35 - 9 * k) (27 - 9 * k) (packOctet ((l[k]?).getD 0).toNat)) 0

/-- The number of words that hold n octets. -/
def wordsFor (n : Nat) : Nat := (n + 3) / 4

/-- The words that hold an octet string. -/
def packWords (l : List (BitVec 8)) : List Word :=
  (List.range (wordsFor l.length)).map (fun k => packFour (l.drop (4 * k)))

/-- The first k octets of a word; none where one of them is corrupt (R9). -/
def unpackWord (w : Word) (k : Nat) : Option (List (BitVec 8)) :=
  (List.range k).foldl (fun r i =>
    match r with
    | none => none
    | some l => if octetGood (part w 9 (3 - i)) then some (l ++ [BitVec.ofNat 8 (part w 9 (3 - i))]) else none) (some [])

/-! ## Port DMA (R550 to R552) -/

/-- A port with DMA: its page and the die of its stamp (0 for package units). -/
structure Port where
  pg : Nat
  die : Nat
  deriving DecidableEq, Repr

/-- Why a DMA access of a port fails: outside the window (R550), a corrupt octet (R552), refused by the gate, the target or
ECC. -/
inductive DmaErr where
  | window | parity | bus
  deriving DecidableEq, Repr

/-- A computation of a port's DMA. -/
abbrev P := EStateM DmaErr State

/-- The stamp of a port's requests (R551). -/
def portStamp (s : State) (p : Port) : Stamp :=
  { cls := 1, die := BitVec.ofNat 3 p.die, core := 0, ctx := 0, comp := BitVec.ofNat 8 (rfld s p.pg 18 7 0), priv := 1,
    set := false, epoch := 0 }

/-- DMALO to DMAHI inclusive (R550). -/
def inWindow (s : State) (p : Port) (a : Nat) : Bool :=
  decide (rfld s p.pg 16 29 0 ≤ a) && decide (a ≤ rfld s p.pg 17 29 0)

/-- The checks of a DMA access: the window, the target and its gate. -/
def portCheck (p : Port) (a : Nat) (k : Kind) : P Unit := do
  let s ← get
  if inWindow s p a then
    match memReach s a with
    | .ok =>
      if targetOk s (portStamp s p) a k then return ()
      else do
        modify (fun s => targetCapture s (portStamp s p) a k)
        throw .bus
    | r => do
      modify (fun s => reachRecord s p.die a r)
      throw .bus
  else do
    modify (fun s => capture s p.pg 8 a)
    throw .window

/-- A word read by a port. -/
def portRead (p : Port) (a : Nat) : P Word := do
  portCheck p a .load
  let s ← get
  match readFor s (.die p.die) a with
  | (some w, s1) => do
    set s1
    return w.1
  | (none, s1) => do
    set s1
    throw .bus

/-- A word written by a port, with tag 0 (R552). -/
def portWrite (p : Port) (a : Nat) (w : Word) : P Unit := do
  portCheck p a .store
  modify (fun s => putFor s (.die p.die) a w false)

/-- Octets read by a port; a corrupt one captures cause 4 (R552). -/
def portOctets (p : Port) (a n : Nat) : P (List (BitVec 8)) :=
  (List.range (wordsFor n)).foldlM (fun l k => do
    let w ← portRead p (a + k)
    match unpackWord w (min 4 (n - 4 * k)) with
    | some o => return l ++ o
    | none => do
      modify (fun s => capture s p.pg 4 (a + k))
      throw .parity) []

/-- Octets written by a port, packed (R552). -/
def portPutOctets (p : Port) (a : Nat) (l : List (BitVec 8)) : P Unit :=
  ((packWords l).zipIdx).forM (fun w => portWrite p (a + w.2) w.1)

/-- The STATUS of a DMA error (Table 11.8, Table 11.11); of a refusal the spec states none (notes/assumptions/4.md). -/
def dmaStatus (s : State) (e : DmaErr) : Nat × State :=
  match e with
  | .window => (3, s)
  | .parity => (4, s)
  | .bus => ((Config.freeValue 5 s.fresh).toNat, { s with fresh := s.fresh + 1 })

/-! ## Rings (R553) -/

/-- LOG2N of a ring, from its CFG register. -/
def ringLog (s : State) (pg cfg : Nat) : Nat := rfld s pg cfg 3 0

/-- Whether a ring's LOG2N lets it be enabled (Table 11.9). -/
def ringSizeOk (s : State) (pg cfg : Nat) : Bool := decide (1 ≤ ringLog s pg cfg) && decide (ringLog s pg cfg ≤ 10)

/-- The address of the descriptor a ring is at. -/
def ringAt (s : State) (pg base : Nat) (r : Ring) : Nat := rfld s pg base 29 0 + 4 * r.idx

/-- A ring goes to its next descriptor. -/
def Ring.next (r : Ring) (s : State) (pg cfg : Nat) : Ring := { r with idx := (r.idx + 1) % 2 ^ ringLog s pg cfg }

/-- A track-time stamp of a port: within 8 ns of the true one (R557). -/
def portTime (s : State) : Word × State :=
  (wordOfInt ((s.tt : Int) + ((Config.freeValue 5 s.fresh).toNat % 17 : Nat) - 8), { s with fresh := s.fresh + 1 })

end Sys2Proof.Machine
end

