-- ==== Sys2Proof/Machine/Ether.lean ====
section
/-! DEFINITION. The Ethernet ports and the PRP unit (R553 to R560). -/

namespace Sys2Proof.Machine

/-! ## Pages and units -/

/-- The page of an Ethernet port. -/
def ethPg (i : Nat) : Nat := pkgPg (16 + i)

/-- The PRP page. -/
def prpPg : Nat := pkgPg 20

/-- The DMA of an Ethernet port. -/
def ethPort (i : Nat) : Port := { pg := ethPg i, die := 0 }

/-- An Ethernet port. -/
def eth (s : State) (i : Nat) : Eth := kget (fun _ => Eth.init) s.eths i

/-- Writes an Ethernet port. -/
def setEth (s : State) (i : Nat) (e : Eth) : State := { s with eths := kset (fun _ => Eth.init) s.eths i e }

/-- A ring of an Ethernet port is enabled: CTL.EN and its own bit. -/
def ethOn (s : State) (i b : Nat) : Bool := enabled s (ethPg i) && bit (rget s (ethPg i) 4) b

/-- Whether a port works in the part. -/
def ethWorks (s : State) (i : Nat) : Bool := decide (i < s.part.ports) && unitWorks s (ethPg i)

/-- Whether PRP pair j is enabled (R560). -/
def paired (s : State) (j : Nat) : Bool := unitWorks s prpPg && enabled s prpPg && bit (rget s prpPg 4) (2 + j)

/-! ## CRC-32 of IEEE 802.3 (Table 0.4; notes/assumptions/31.md) -/

/-- One bit of the reflected CRC. -/
def crcBit (c : BitVec 32) : BitVec 32 := if c.getLsbD 0 then (c >>> 1) ^^^ 0xEDB88320#32 else c >>> 1

/-- One octet of the CRC. -/
def crcOctet (c : BitVec 32) (o : BitVec 8) : BitVec 32 :=
  (List.range 8).foldl (fun x _ => crcBit x) (c ^^^ o.setWidth 32)

/-- The CRC-32 of an octet string. -/
def crc32 (l : List (BitVec 8)) : BitVec 32 := ~~~(l.foldl crcOctet (BitVec.allOnes 32))

/-- The FCS of a frame, in the order of transmission. -/
def fcs (l : List (BitVec 8)) : List (BitVec 8) := (List.range 4).map (fun k => (crc32 l >>> (8 * k)).setWidth 8)

/-! ## Octet fields -/

/-- A number of k octets at an offset of a frame, most significant first; absent octets read as 0. -/
def octNum (l : List (BitVec 8)) (at_ k : Nat) : Nat :=
  (List.range k).foldl (fun n i => 256 * n + ((l[at_ + i]?).getD 0).toNat) 0

/-- A number as k octets, most significant first. -/
def numOct (n k : Nat) : List (BitVec 8) := (List.range k).map (fun i => BitVec.ofNat 8 (n / 256 ^ (k - 1 - i)))

/-- Octets written over a frame from an offset; those beyond its end are dropped. -/
def overlay (l : List (BitVec 8)) (at_ : Nat) (o : List (BitVec 8)) : List (BitVec 8) :=
  l.zipIdx.map (fun p => if at_ ≤ p.2 ∧ p.2 < at_ + o.length then (o[p.2 - at_]?).getD p.1 else p.1)

/-- The Ethertype of a frame. -/
def ethertype (l : List (BitVec 8)) : Nat := octNum l 12 2

/-! ## Transmission (R556 to R558, R560) -/

/-- A frame padded to 60 octets (R556). -/
def padded (l : List (BitVec 8)) : List (BitVec 8) := l ++ List.replicate (60 - l.length) 0

/-- The originTimestamp of R558: 48-bit seconds and 32-bit nanoseconds of track time plus PTPOFS. -/
def originTime (s : State) (i : Nat) : List (BitVec 8) :=
  let ofs := signed 72 ((rget s (ethPg i) 29).toNat + 2 ^ 36 * (rget s (ethPg i) 30).toNat)
  let t := (((s.tt : Int) + ofs) % (2 ^ 72 : Nat)).toNat
  numOct (t / 10 ^ 9) 6 ++ numOct (t % 10 ^ 9) 4

/-- The size of the link service data unit of a frame, without its MAC header and VLAN tag (IEC 62439-3;
notes/assumptions/32.md). -/
def lsduOf (l : List (BitVec 8)) : Nat := l.length - (if ethertype l = 0x8100 then 18 else 14)

/-- A frame with its redundancy control trailer (R560). -/
def withRct (l : List (BitVec 8)) (seq lan : Nat) : List (BitVec 8) :=
  l ++ numOct seq 2 ++ numOct (lan * 4096 + (lsduOf l + 6) % 4096) 2 ++ numOct 0x88FB 2

/-- A frame leaves a port whose link is up, with its FCS, and is counted. -/
def wireSend (s : State) (i : Nat) (l : List (BitVec 8)) : State :=
  if (eth s i).link then rinc (setEth s i { eth s i with wire := l ++ fcs l }) (ethPg i) 32 35 18 else s

/-- A frame of port i's ring is sent: on both ports of an enabled pair, with trailers, where i is the lower (R560). -/
def frameSend (s : State) (i : Nat) (l : List (BitVec 8)) : State :=
  let j := i / 2
  if i % 2 = 0 ∧ paired s j = true then
    let seq := rfld s prpPg (17 + j) 15 0
    let s1 := wireSend (wireSend s i (withRct l seq 0xA)) (i + 1) (withRct l seq 0xB)
    rsetf s1 prpPg (17 + j) 15 0 (seq + 1)
  else wireSend s i l

/-- A transmit descriptor at work: its frame is read, changed for one-step, padded and sent; its timestamp. -/
def txFrame (i a : Nat) (d0 : Word) : P Nat := do
  let len := fld d0 15 0
  if 1518 < len then return 2
  let d1 ← portRead (ethPort i) (a + 1)
  let l ← portOctets (ethPort i) (fld d1 29 0) len
  let d3 ← portRead (ethPort i) (a + 3)
  modify (fun s => frameSend s i (padded (if bit d0 33 then overlay l (fld d3 15 0 + 34) (originTime s i) else l)))
  if bit d0 34 then
    let s ← get
    let t := portTime s
    set t.2
    portWrite (ethPort i) (a + 2) t.1
  return 0

/-- A transmit ring ends a descriptor: STATUS is written, OWN cleared last, the interrupt pends, the ring goes on. A
descriptor that cannot be written leaves the ring at rest. -/
def txEnd (s : State) (i a : Nat) (d0 : Word) (status : Nat) : State :=
  match (portWrite (ethPort i) a (setFld (setBit d0 35 false) 31 27 status)) s with
  | .ok _ s1 =>
    let e := eth s1 i
    irqPend (setEth s1 i { e with tx := e.tx.next s1 (ethPg i) 20 }) (ethPg i) 1
  | .error _ s1 => setEth s1 i { eth s1 i with tx := { (eth s1 i).tx with stopped := true } }

/-- A transmit ring looks at its descriptor (R553). -/
def ethTransmit (s : State) (i : Nat) : State :=
  let e := eth s i
  let a := ringAt s (ethPg i) 19 e.tx
  match (portRead (ethPort i) a) s with
  | .error _ s1 => setEth s1 i { eth s1 i with tx := { e.tx with stopped := true } }
  | .ok d0 s1 =>
    if bit d0 35 then
      match (txFrame i a d0) s1 with
      | .ok st s2 => txEnd s2 i a d0 st
      | .error x s2 => let r := dmaStatus s2 x; txEnd r.2 i a d0 r.1
    else setEth s1 i { e with tx := { e.tx with stopped := true } }

/-- ETH_FRAME_TRANSMIT (R553, R556 to R558, R560): the port takes the next owned descriptor; a pair sends while either of
its links is up. -/
def execEthFrameTransmit (port : BitVec 2) (s : State) : Host.Outcome State Fault Refusal :=
  let i := port.toNat
  let up := (eth s i).link || (decide (i % 2 = 0) && paired s (i / 2) && (eth s (i + 1)).link)
  done (if ethWorks s i && ethOn s i 2 && up && !(eth s i).tx.stopped then ethTransmit s i else s)

/-! ## Reception (R555, R557, R560) -/

/-- The port's own address, from MAC_HI and MAC_LO. -/
def macOf (s : State) (i : Nat) : Nat := rfld s (ethPg i) 25 23 0 * 2 ^ 24 + rfld s (ethPg i) 26 23 0

/-- Whether the port takes frames for a destination: its own, broadcast, or a multicast hash bin that is set (R555). -/
def ethAccepts (s : State) (i : Nat) (l : List (BitVec 8)) : Bool :=
  let dst := octNum l 0 6
  let bin := (crc32 (l.take 6)).toNat / 2 ^ 26
  decide (dst = macOf s i) || decide (dst = 2 ^ 48 - 1) ||
  (decide (dst / 2 ^ 40 % 2 = 1) && bit (rget s (ethPg i) (27 + bin / 32)) (bin % 32))

/-- A frame arrives whole: 64 to 1,522 octets with a good FCS (R555). -/
def ethGood (l : List (BitVec 8)) : Bool :=
  decide (64 ≤ l.length) && decide (l.length ≤ 1522) && (fcs (l.take (l.length - 4)) == l.drop (l.length - 4))

/-- A frame put into the receive ring of port i: STATUS and RCT in D0, the timestamp while RXTS is 1. -/
def rxFrame (i a status : Nat) (rct : Bool) (l : List (BitVec 8)) : P Unit := do
  let d1 ← portRead (ethPort i) (a + 1)
  portPutOctets (ethPort i) (fld d1 29 0) l
  let s ← get
  let ts := bit (rget s (ethPg i) 4) 4
  if ts then
    let t := portTime s
    set t.2
    portWrite (ethPort i) (a + 2) t.1
  portWrite (ethPort i) a (fval 34 34 (bnat ts) ||| fval 32 32 (bnat rct) ||| fval 31 27 status ||| fval 15 0 l.length)

/-- A receive descriptor ends, with or without an error of its DMA. -/
def rxEnd (s : State) (i : Nat) : State :=
  let e := eth s i
  irqPend (setEth s i { e with rx := e.rx.next s (ethPg i) 23 }) (ethPg i) 2

/-- A frame with no receive descriptor is dropped and counted (R555). -/
def rxDrop (s : State) (i : Nat) : State := rinc (setEth s i { eth s i with rx := { (eth s i).rx with stopped := true } }) (ethPg i) 32 17 0

/-- A frame received on port `from_` is delivered on the receive ring of port i. -/
def deliver (s : State) (from_ i status : Nat) (rct : Bool) (l : List (BitVec 8)) : State :=
  let e := eth s i
  let a := ringAt s (ethPg i) 22 e.rx
  if !ethWorks s i || !ethOn s i 3 || e.rx.stopped then rinc s (ethPg i) 32 17 0
  else
    match (portRead (ethPort i) a) s with
    | .error _ s1 => rxDrop s1 i
    | .ok d0 s1 =>
      if bit d0 35 then
        match (rxFrame i a status rct l) s1 with
        | .ok _ s2 => rinc (rxEnd s2 i) (ethPg from_) 31 35 18
        | .error x s2 =>
          let r := dmaStatus s2 x
          match (portWrite (ethPort i) a (setFld (setBit d0 35 false) 31 27 r.1)) r.2 with
          | .ok _ s3 => rxEnd s3 i
          | .error _ s3 => rxDrop s3 i
      else rxDrop s1 i

/-- Whether a frame ends in a redundancy control trailer (R560; notes/assumptions/32.md). -/
def hasRct (l : List (BitVec 8)) : Bool :=
  let n := l.length
  let w := octNum l (n - 4) 2
  decide (20 ≤ n) && decide (octNum l (n - 2) 2 = 0x88FB) && decide (w / 4096 = 0xA ∨ w / 4096 = 0xB) &&
  decide (w % 4096 = lsduOf l % 4096)

/-- The duplicate table of a pair. -/
def prpTable (s : State) (j : Nat) : List PrpEntry := kget (fun _ => []) s.prps j

/-- FORGET in fabric cycles. -/
def prpForget (s : State) : Nat := max 1 (rfld s prpPg 16 35 18) * 1000 * ticksPerUs

/-- The entries that are not yet forgotten, the newest 1,024 with one more in (R560). -/
def prpPut (s : State) (j : Nat) (e : PrpEntry) : State :=
  let live := (prpTable s j).filter (fun x => decide (s.ticks ≤ x.since + prpForget s))
  { s with prps := kset (fun _ => []) s.prps j ((live ++ [e]).drop (live.length + 1 - 1024)) }

/-- Whether a frame of a source and number was received within FORGET. -/
def prpSeen (s : State) (j src seq : Nat) : Bool :=
  (prpTable s j).any (fun x => decide (x.src = src) && decide (x.seq = seq) && decide (s.ticks ≤ x.since + prpForget s))

/-- A good frame of a port, its FCS removed: as received, or through the PRP unit (R560). -/
def prpReceive (s : State) (i : Nat) (l : List (BitVec 8)) : State :=
  let j := i / 2
  if paired s j && hasRct l then
    let n := l.length
    let bare := l.take (n - 6)
    let seq := octNum l (n - 6) 2
    let lan := octNum l (n - 4) 2 / 4096
    let src := octNum l 6 6
    if ethertype l = 0x88F7 then deliver s i i 0 true bare
    else if lan ≠ 0xA + i % 2 then deliver (rinc s prpPg (19 + j) 17 0) i (2 * j) 5 true bare
    else if prpSeen s j src seq then rinc s prpPg (19 + j) 35 18
    else deliver (prpPut s j { src := src, seq := seq, since := s.ticks }) i (2 * j) 0 true bare
  else deliver s i i 0 false l

/-- ETH_FRAME_RECEIVE (R555, R557, R560). `octets` is the frame with its FCS. -/
def execEthFrameReceive (port : BitVec 2) (octets : List (BitVec 8)) (s : State) : Host.Outcome State Fault Refusal :=
  let i := port.toNat
  done (if ethWorks s i && (eth s i).link && enabled s (ethPg i) && (ethOn s i 3 || paired s (i / 2)) && ethAccepts s i octets then
    if ethGood octets then prpReceive s i (octets.take (octets.length - 4)) else rinc s (ethPg i) 31 17 0
  else s)

/-- ETH_LINK_CHANGE (R554). -/
def execEthLinkChange (port : BitVec 2) (up : Bool) (s : State) : Host.Outcome State Fault Refusal :=
  let i := port.toNat
  done (if ethWorks s i then setEth s i { eth s i with link := up } else s)

end Sys2Proof.Machine
end

