-- ==== Sys2Proof/Machine/Fabric.lean ====
section
/-! DEFINITION. The fabric (R30 to R49, R522 to R534): region and die error managers, crossbar grants, and the units,
credits, NAKs and retrains of the links. -/

namespace Sys2Proof.Machine

/-! ## Error managers -/

/-- REGION_ERROR_REPORT (R40, R41, R46, R49): the report is captured and counted at the REM page; the manager holds a block
in reset, or its region is isolated; an error in the die services moves the package to Mire. -/
def execRegionErrorReport (region : BitVec 5) (cause : BitVec 5) (info : BitVec 30) (response : Containment) (s : State) :
    Host.Outcome State Fault Refusal :=
  let g := region.toNat
  let d := g / 4
  done (unitDo s (remPg g) (fun s =>
    let s1 := capture s (remPg g) cause.toNat info.toNat
    match response with
    | .record => s1
    | .holdBlock b =>
      let i := 4 * (g % 4) + b.toNat
      domHold (domHold s1 (domKey d i) none) (domKey d (16 + i)) none
    | .holdChannels => domHold s1 (domKey d (32 + g % 4)) none
    | .uncontained => isolate s1 g
    | .crossbarViolation => isolate (capture s1 (regionPg g 0) 9 (info.toNat % 8)) g
    | .dieServices => mireEnter s 2 d 0))

/-- HEARTBEAT_TIMEOUT (R46, R47): a region silent for 4,096 fabric cycles is isolated. -/
def execHeartbeatTimeout (region : BitVec 5) (s : State) : Host.Outcome State Fault Refusal :=
  let g := region.toNat
  done (if g < 4 * s.part.dies then unitDo s (diePg (g / 4) 1) (fun s => isolate s g) else s)

/-! ## Crossbar -/

/-- The output that the oldest buffered unit of a crossbar input asks for (R526). -/
def headDest (s : State) (g p : Nat) (timed : Bool) : Option Nat :=
  let l := linkAt s (256 + 8 * g + p)
  if (l.pool timed).b = 0 then none else (l.dests timed).head?

/-- The inputs of a crossbar whose oldest unit of a virtual channel asks for an output that has a credit for it. -/
def requesters (s : State) (g o : Nat) (timed : Bool) : List Nat :=
  if ((linkAt s (8 * g + o)).pool timed).s = 0 then []
  else (List.range 7).filter (fun p => headDest s g p timed == some o)

/-- The next input in round-robin order after the one granted last (R38). -/
def nextInput (last : Nat) (l : List Nat) : Option Nat :=
  match l.find? (fun p => last < p) with
  | some p => some p
  | none => l.head?

/-- The grant that an output makes next: timed before bulk, but bulk when it has waited through 7 grants (R37, R38). -/
def grantNext (s : State) (g o : Nat) : Option (Nat × Bool) :=
  let l := linkAt s (8 * g + o)
  let t := requesters s g o true
  let b := requesters s g o false
  if b.isEmpty = false ∧ (t.isEmpty = true ∨ 7 ≤ l.bulkSkip) then (nextInput l.rrBulk b).map (fun p => (p, false))
  else (nextInput l.rrTimed t).map (fun p => (p, true))

/-- A granted unit leaves its input's buffer, whose credit starts back, and is in flight to the output's port (R523, R524). -/
def grant (s : State) (g o p : Nat) (timed : Bool) : State :=
  let waits := !(requesters s g o false).isEmpty
  let i := linkAt s (256 + 8 * g + p)
  let q := i.pool timed
  let s1 := setLink s (256 + 8 * g + p)
    ((i.setPool timed { q with b := q.b - 1, r := q.r + 1 }).setDests timed ((i.dests timed).drop 1))
  let l := linkAt s1 (8 * g + o)
  let t := l.pool timed
  let l1 := l.setPool timed { t with s := t.s - 1, f := t.f + 1 }
  setLink s1 (8 * g + o) (if timed then { l1 with rrTimed := p, bulkSkip := if waits then l.bulkSkip + 1 else 0 }
    else { l1 with rrBulk := p, bulkSkip := 0 })

/-- The block port behind a crossbar output (Table 1.1): of a core block, or of the channel block. -/
def blockPort (g o : Nat) : Option Nat := if o < 4 then some (4 * g + o) else if o = 4 then some (128 + g) else none

/-- A granted request arrives at its block's port with wrong parity (R35). -/
def portFails (s : State) (g o : Nat) : State :=
  match blockPort g o with
  | some p => { s with badPorts := s.badPorts.filter (fun q => q != p) ++ [p] }
  | none => s

/-- CROSSBAR_GRANT (R35, R37, R38, R526): the transfer that the rules grant next at the output; any other is not granted. -/
def execCrossbarGrant (region : BitVec 5) (output : BitVec 3) (input : BitVec 3) (u : CrossbarUnit) (s : State) :
    Host.Outcome State Fault Refusal :=
  let g := region.toNat
  let o := output.toNat
  done (if linkWorks s (linkKey (.xbarTo region output)) = true ∧ grantNext s g o = some (input.toNat, u.timed) then
    let s1 := grant s g o input.toNat u.timed
    if u.parity then portFails s1 g o else s1
  else s)

/-! ## Units and credits -/

/-- The sequence numbers of a link: 8 bits on a bridge, 12 on Causeway (R527). -/
def seqMod (k : Nat) : Nat := if k < 544 then 256 else 4096

/-- The virtual channel of a class of traffic (R36): COMPCLS is the same in every die (R346). -/
def onTimed (s : State) (t : Traffic) : Bool :=
  match t with
  | .access comp => clsTimed (compcls s 0 comp.toNat)
  | .reedEvent | .sluice | .samples | .errorReport => true
  | .dma | .migration | .sweeper | .externalMemory | .network | .flash => false

/-- A unit of a direction is transmitted, with a credit and a place in the replay buffer (R524, R527, R528). -/
def Link.send (l : Link) (k : Nat) (timed : Bool) : Link :=
  let p := l.pool timed
  { l.setPool timed { p with s := p.s - 1, f := p.f + 1 } with
    txSeq := (l.txSeq + 1) % seqMod k, replay := l.replay ++ [(l.txSeq, timed)] }

/-- A direction of a bridge or of Causeway grants one waiting unit in a fabric cycle (notes/assumptions/82.md): timed before bulk,
but bulk when it has waited through 7 grants (R37, R43, R526); with a credit and room in the replay buffer. -/
def linkGrant (s : State) (k : Nat) : State :=
  let l := linkAt s k
  let t := decide (0 < l.tWait ∧ 0 < l.timed.s)
  let b := decide (0 < l.bWait ∧ 0 < l.bulk.s)
  if l.st ≠ .up ∨ l.sentAt = some s.ticks ∨ replayCap k ≤ l.replay.length then s
  else if b && (!t || decide (7 ≤ l.bulkSkip)) then
    setLink s k { l.send k false with bWait := l.bWait - 1, bulkSkip := 0, sentAt := some s.ticks }
  else if t then
    setLink s k { l.send k true with tWait := l.tWait - 1, bulkSkip := if b then l.bulkSkip + 1 else 0, sentAt := some s.ticks }
  else s

/-- A unit may ask for a direction of a bridge, when it lies on its way (R42), or of Causeway, when it is its group's (R534). -/
def onItsWay (s : State) (k dest : Nat) : Bool :=
  if k < 544 then meshPort s.part ((k - 512) / 4) dest == some (k % 4)
  else decide (548 ≤ k) || activeLink s (k - 544) == some (k - 544)

/-- UNIT_TRANSMIT (R36, R39, R42, R43, R524, R526 to R528): at a crossbar input the unit is sent with a credit (the crossbar's own
transmissions are its grants); at a bridge or Causeway it waits for its grant, which it may get at once. -/
def transmit (s : State) (k : Nat) (timed : Bool) (dest : Nat) : State :=
  let l := linkAt s k
  let p := l.pool timed
  if (l.st ≠ .up ∧ (l.st ≠ .retrain ∨ k < 512)) ∨ k < 256 then s
  else if k < 512 then
    (if 0 < p.s ∧ dest < 7 then
      setLink s k ((l.setPool timed { p with s := p.s - 1, f := p.f + 1 }).setDests timed (l.dests timed ++ [dest]))
    else s)
  else if onItsWay s k dest then linkGrant (setLink s k (l.addWaits timed 1)) k
  else s

/-- The link that carries what goes to the member at a position: the active one of its group, or, while none is Up, the lowest, where
it waits (R531, R534). -/
def linkTo (s : State) (pos : Nat) : Option Nat :=
  match (List.range s.part.ports).find? (fun i => (cwy s i).pmem && decide ((cwy s i).ppos.toNat = pos)) with
  | some i => some ((activeLink s i).getD i)
  | none => none

/-- A request to a register page of another package goes out as a Causeway packet, in the virtual channel of its compartment (R36,
R546). -/
def remoteSend (s : State) (pa : Nat) (st : Stamp) : State :=
  match pageAddr s pa with
  | .there k =>
    match linkTo s k with
    | some i => linkGrant (setLink s (544 + i) ((linkAt s (544 + i)).addWaits (onTimed s (.access st.comp)) 1)) (544 + i)
    | none => s
  | _ => s

/-- The waiting units of the links after a fabric cycle. -/
def linksTick (s : State) : State :=
  s.links.foldl (fun s p =>
    if 512 ≤ p.1 ∧ 0 < p.2.tWait + p.2.bWait ∧ linkWorks s p.1 = true then linkGrant s p.1 else s) s

/-- UNIT_TRANSMIT. -/
def execUnitTransmit (link : LinkDir) (traffic : Traffic) (dest : BitVec 3) (s : State) : Host.Outcome State Fault Refusal :=
  let k := linkKey link
  done (if linkWorks s k then transmit s k (onTimed s traffic) dest.toNat else s)

/-- A unit that arrives at a full buffer (R525): a crossbar reports it and its region is isolated (R46); a bridge or a
Causeway link retrains. -/
def creditViolation (s : State) (k : Nat) : State :=
  if k < 512 then isolate (capture s (linkPg k) 8 (k % 8)) (k % 256 / 8) else startRetrain s k true

/-- One octet of the CRC-16 of a bridge transfer: polynomial 0x1021, the most significant bit first, from 0 (R527,
notes/assumptions/31.md). -/
def crc16Octet (c : BitVec 16) (o : BitVec 8) : BitVec 16 :=
  (List.range 8).foldl (fun x _ => if x.getLsbD 15 then (x <<< 1) ^^^ 0x1021#16 else x <<< 1) (c ^^^ (o.setWidth 16 <<< 8))

/-- Whether the CRC of a unit is that of its octets: CRC-16 on a bridge, CRC-32 on Causeway (R527). -/
def crcGood (k : Nat) (b : UnitBits) : Bool :=
  if k < 544 then decide ((b.octets.foldl crc16Octet 0).setWidth 32 = b.crc) else decide (crc32 b.octets = b.crc)

/-- The arrival of a unit (R525, R527): accepted with the next expected sequence and a good CRC, else discarded, with a NAK that
names the next expected sequence; a discarded unit keeps its credit and stays in flight until its retransmission is accepted (R522,
R528). -/
def receive (s : State) (k : Nat) (timed : Bool) (seq : Nat) (good : Bool) : State :=
  let l := linkAt s k
  let p := l.pool timed
  if l.st ≠ .up then s
  else if p.b = capOf k timed then creditViolation s k
  else if p.f = 0 then s
  else if k < 512 then setLink s k (l.setPool timed { p with f := p.f - 1, b := p.b + 1 })
  else if good = true ∧ seq % seqMod k = l.rxSeq then
    setLink s k { l.setPool timed { p with f := p.f - 1, b := p.b + 1 } with rxSeq := (l.rxSeq + 1) % seqMod k, nakOut := none }
  else setLink s k { l with nakOut := some l.rxSeq }

/-- UNIT_RECEIVE (R525, R527). -/
def execUnitReceive (link : LinkDir) (timed : Bool) (seq : BitVec 12) (bits : UnitBits) (s : State) :
    Host.Outcome State Fault Refusal :=
  let k := linkKey link
  done (if linkWorks s k then receive s k timed seq.toNat (crcGood k bits) else s)

/-- The place of a sequence number in a replay buffer. -/
def replayIndex (k : Nat) (l : Link) (seq : Nat) : Nat :=
  match l.replay with
  | [] => 0
  | (q, _) :: _ => (seq % seqMod k + seqMod k - q) % seqMod k

/-- The units that the receiver has accepted leave the replay buffer (R527, R528). -/
def Link.acked (l : Link) (k : Nat) : Link := { l with replay := l.replay.drop (replayIndex k l l.rxSeq) }

/-- A credit reaches the sender (R523): one on its way, or, but at a crossbar input, that of a unit which has just left the receive
buffer. A unit that leaves the buffer of a link that retrains sends none: the exchange counts its place free (R530). -/
def creditBack (s : State) (k : Nat) (timed : Bool) : State :=
  let l := linkAt s k
  let p := l.pool timed
  if l.st = .retrain ∧ 512 ≤ k then setLink s k (l.setPool timed { p with b := p.b - 1 })
  else if l.st ≠ .up then s
  else if 0 < p.r then setLink s k (l.setPool timed { p with s := p.s + 1, r := p.r - 1 })
  else if 0 < p.b ∧ ¬(256 ≤ k ∧ k < 512) then setLink s k (l.setPool timed { p with s := p.s + 1, b := p.b - 1 })
  else s

/-- An acknowledgement reaches the sender (R527 to R529): the units up to the sequence it names leave the replay buffer; one that names a
sequence outside the buffer, and not the last acknowledged, makes the link retrain. -/
def ackReceived (s : State) (k seq : Nat) : State :=
  let l := linkAt s k
  let first := match l.replay with | [] => l.txSeq | (q, _) :: _ => q
  let n := (seq % seqMod k + 1 + seqMod k - first) % seqMod k
  if l.st ≠ .up then s
  else if l.replay.length < n then startRetrain s k false
  else setLink s k { l with replay := l.replay.drop n }

/-- CREDIT_RETURN (R523, R527, R529): with the acknowledgement that travels with it. A crossbar port has no sequence numbers. -/
def execCreditReturn (link : LinkDir) (c : CreditReturn) (s : State) : Host.Outcome State Fault Refusal :=
  let k := linkKey link
  done (if linkWorks s k then
    let s1 := creditBack s k c.timed
    match c.ack with
    | some a => if 512 ≤ k then ackReceived s1 k a.toNat else s1
    | none => s1
  else s)

/-! ## Retry and retrain -/

/-- RETRYMAX of the sender of a link direction; 0 acts as 1 (Table 11.4, Table 11.7). -/
def retryMax (s : State) (k : Nat) : Nat :=
  max 1 (if k < 544 then rfld s (linkPg k) 32 3 0 else rfld s (linkPg k) 20 3 0)

/-- The sender counts NAKs received. -/
def countNak (s : State) (k : Nat) : State :=
  match countOff k with
  | some o => rinc s (linkPg k) o 35 18
  | none => s

/-- A NAK received (R528, R529): every unit from the named sequence onward is retransmitted with the credit it has; the
RETRYMAX-th in a row for one sequence, or a sequence outside the replay buffer, makes the link retrain. -/
def nakReceived (s : State) (k seq : Nat) : State :=
  let l := linkAt s k
  let i := replayIndex k l seq
  let s1 := countNak s k
  let run := if 0 < l.nakRun ∧ l.nakSeq = seq then l.nakRun + 1 else 1
  if l.replay.length ≤ i ∨ retryMax s k ≤ run then startRetrain s1 k false
  else countReplay (setLink s1 k { l with replay := l.replay.drop i, nakSeq := seq, nakRun := run, nakOut := none }) k (l.replay.length - i)

/-- NAK (R528, R529). -/
def execNak (link : LinkDir) (seq : BitVec 12) (s : State) : Host.Outcome State Fault Refusal :=
  let k := linkKey link
  done (if linkWorks s k = true ∧ 512 ≤ k ∧ (linkAt s k).st = .up then nakReceived s k (seq.toNat % seqMod k) else s)

/-- The lanes of a Causeway link after a loss of lock: which are still locked the command does not say, not all
(notes/assumptions/4.md). -/
def lanesLost (s : State) (k : Nat) : State :=
  if k < 544 then s
  else
    let i := (k - 544) % 4
    setCwy { s with fresh := s.fresh + 1 } i { cwy s i with lanes := BitVec.ofNat 4 ((Config.freeValue 4 s.fresh).toNat % 15) }

/-- The lanes of a Causeway link that has trained are locked. -/
def lanesLocked (s : State) (k : Nat) : State :=
  if k < 544 then s else setCwy s ((k - 544) % 4) { cwy s ((k - 544) % 4) with lanes := 15 }

/-- LANE_LOCK_LOSS (R529, R530): the link retrains. A crossbar port has no lanes. -/
def execLaneLockLoss (link : LinkDir) (s : State) : Host.Outcome State Fault Refusal :=
  let k := linkKey link
  done (if linkWorks s k = true ∧ 512 ≤ k ∧ (linkAt s k).st = .up then lanesLost (startRetrain s k false) k else s)

/-- The exchange of ackseq and free on one direction (R530, R531): the sender drops what was accepted, takes the free
count as its credits and retransmits the rest, one credit each. -/
def exchange (s : State) (k : Nat) : State :=
  let l := (linkAt s k).acked k
  let n := fun t => (l.replay.filter (fun e => e.2 == t)).length
  let take := fun t => { (l.pool t) with s := capOf k t - (l.pool t).b - n t, f := n t, r := 0 }
  countReplay (setLink s k { l with timed := take true, bulk := take false, st := .up, attempts := 0 }) k l.replay.length

/-- RETRAIN_EXCHANGE (R530, R531): both directions of the link resume. Units that went to another link of the group are
not sent again (R534). A bridge that has not been trained since its reset comes Up by it (notes/assumptions/87.md). -/
def execRetrainExchange (link : LinkDir) (s : State) : Host.Outcome State Fault Refusal :=
  let k := linkKey link
  done (if linkWorks s k = true ∧ 512 ≤ k ∧ ((linkAt s k).st = .retrain ∨ (k < 544 ∧ (linkAt s k).st = .off)) then
    exchange (exchange (lanesLocked s k) k) (reverseKey s.part k) else s)

/-- A bridge whose last attempt failed (R45, Table 11.2). -/
def bridgeFailed (s : State) (k : Nat) : State :=
  let r := reverseKey s.part k
  let s1 := setLink (setLink s k { linkAt s k with st := .down }) r { linkAt s r with st := .down }
  mireEnter (capture (capture s1 (linkPg k) 10 (k % 4)) (linkPg r) 10 (r % 4)) 1 ((k - 512) / 4) 0

/-- A Causeway link whose last attempt failed goes Down; its units go to another link of the group (R534, Table 11.2). -/
def causewayDown (s : State) (k : Nat) : State :=
  let i := (k - 544) % 4
  failover (capture (setCwyState s i .down) (linkPg k) 10 0) i

/-- RETRAIN_ATTEMPT_END (R531, Table 11.2): an attempt has timed out; the third ends the retrain. -/
def execRetrainAttemptEnd (link : LinkDir) (s : State) : Host.Outcome State Fault Refusal :=
  let k := linkKey link
  let r := reverseKey s.part k
  done (if linkWorks s k = true ∧ 512 ≤ k ∧ (linkAt s k).st = .retrain then
    let n := (linkAt s k).attempts + 1
    let s1 := setLink (setLink s k { linkAt s k with attempts := n }) r { linkAt s r with attempts := n }
    if n < 3 then s1 else if k < 544 then bridgeFailed s1 k else causewayDown s1 k
  else s)

end Sys2Proof.Machine
end

