-- ==== Sys2Proof/Machine/Phref.lean ====
section
/-! DEFINITION. Phase references and track time: lock states (R410 to R416), configuration (R417, R420, R707, R712),
synthetic and copied references (R418 to R421), and the commands of the PHREF and TTIME pages (R423 to R428, R706). -/

namespace Sys2Proof.Machine

/-! ## States of a reference -/

/-- STATE of REFSTAT (Table 9.2). -/
def RefState.num (x : RefState) : Nat :=
  match x with
  | .off => 0
  | .acquire => 1
  | .locked => 2
  | .holdover => 3
  | .lost => 4

/-- The loss of a reference on one die's Reed (R415, R417): every event and pending insert that names it is retired,
their channels enter the safe state with cause 8, and the page captures cause 0o12 once. -/
def reedRefGone (s : State) (i d : Nat) : State :=
  let es := (reed s d).ev.filter (fun p => p.2.live && decide (p.2.refNo = i))
  let s1 := es.foldl (fun s p =>
    if ((reed s d).entry p.1).live then
      let s1 := retireEntry s d p.1
      if isOutput p.2.action && decide (p.2.chan ≠ 127) then safeEnter s1 (96 * d + p.2.chan) 8 p.2.key 0 else s1
    else s) s
  if es.isEmpty then s1 else capture s1 (reedPg d) 10 i

/-- A channel whose burst runs or waits on a reference that is gone enters its safe state (R476, R483). -/
def burstRefGone (s : State) (i : Nat) : State :=
  (s.chans.filter (fun p =>
    decide (chMode s p.1 = 2 ∨ chMode s p.1 = 4) && ((p.2.burstOn && decide (p.2.burstRef = i)) ||
      p.2.burstArm.any (fun a => a.ref == i) || p.2.offArm.any (fun a => a.ref == i)))).foldl (fun s p => safeEnter s p.1 8 0 0) s

/-- Everything that named a reference that entered Lost or Off (R415, R417, R476). -/
def refGone (s : State) (i : Nat) : State :=
  burstRefGone ((List.range s.part.dies).foldl (fun s d => reedRefGone s i d) s) i

/-- A reference changes state: IRQ_PEND.STCHG; entry to Lost counts, captures and retires (R415); one in Holdover flywheels,
with no error to remove. -/
def refTo (s : State) (i : Nat) (st : RefState) : State :=
  let r := ref s i
  if r.st = st then s
  else
    let s1 := irqPend (setRef s i { r with st := st }) phrefPg (1 + i)
    match st with
    | .lost => refGone (capture (rinc s1 phrefPg (18 + 4 * i) 31 20) phrefPg 9 i) i
    | .off => refGone (setRef s1 i Ref.init) i
    | .holdover => setRef s1 i { ref s1 i with err := 0 }
    | _ => s1

/-- Whether a reference's stamp moves. -/
def RefState.runs (st : RefState) : Bool := st == .locked || st == .holdover

/-- A reference with SRC 4 is a copy of one of this package: on the stack master, or in a package alone (R421). -/
def isCopy (s : State) (i : Nat) : Bool := decide (refSrc s i = 4 ∧ ttRole s ≠ 2)

/-- The source of a copy, as it is now. -/
def copySource (s : State) (i : Nat) : Ref :=
  let k := rfld s phrefPg (16 + 4 * i) 19 17
  { ref s k with stamp := refNow s k, period := refPeriod s k }

/-- A copy takes its source's place at once; it enters Locked from Off or Acquire first (R409, R421). -/
def copyTake (s : State) (i : Nat) (src : Ref) : State :=
  let s1 := if src.st.runs && !(ref s i).st.runs then refTo (refTo s i .locked) i src.st else refTo s i src.st
  setRef s1 i { src with st := (ref s1 i).st }

/-- A running copy whose stamp is not its source's removes the difference as R412 states, for a stamp never steps (R409). -/
def copySlew (s : State) (i : Nat) (src : Ref) : State :=
  let s1 := refTo s i src.st
  let r := ref s1 i
  setRef s1 i { src with
    st := r.st, stamp := r.stamp, sub := r.sub, slew := true, err := src.err + stampDiff src.stamp r.stamp * (256 * src.period : Nat) }

/-- A copy follows its source (R421): at once where that advances its stamp by at most `most` fraction steps (R409). -/
def refCopy (most : Int) (s : State) (i : Nat) : State :=
  if isCopy s i then
    let src := copySource s i
    let e := stampDiff src.stamp (ref s i).stamp
    if src.st.runs && (ref s i).st.runs && !decide (0 ≤ e ∧ e ≤ most) then copySlew s i src else copyTake s i src
  else s

/-- Every copied reference follows its source. -/
def refCopies (s : State) : State := (List.range 8).foldl (refCopy 0) s

/-- A measured period lies within 1/70 s to 1/15 s, in fabric cycles. -/
def periodInRange (p : Nat) : Bool := decide (300000000 ≤ 70 * p ∧ 15 * p ≤ 300000000)

/-- LOCKN in force; 0 and 1 act as 2. -/
def lockN (s : State) (i : Nat) : Nat := max 2 (rfld s phrefPg (16 + 4 * i) 13 8)

/-- HOLDMAX in force; 0 acts as 1. -/
def holdMax (s : State) (i : Nat) : Nat := max 1 (rfld s phrefPg (16 + 4 * i) 7 0)

/-- The lock condition of Acquire: LOCKN consecutive periods in range, each within 0.5 % of their mean. -/
def locksNow (n : Nat) (ps : List Nat) : Bool :=
  let sum := ps.foldl (· + ·) 0
  decide (ps.length = n) && ps.all (fun p => periodInRange p && decide (200 * (n * p) ≤ 201 * sum ∧ 199 * sum ≤ 200 * (n * p)))

/-- The stamp of a reference that follows a crossing seen `age` fabric cycles ago at a period. -/
def stampAfter (cycle age period : Nat) : Word :=
  BitVec.ofNat 36 (cycle * 2 ^ 24 + age * 2 ^ 24 / max 1 period)

/-- The phase of the stamp at a crossing `age` fabric cycles ago, as a signed distance from the nearest whole
cycle, in fraction steps. -/
def phaseError (r : Ref) (age : Nat) : Int :=
  signed 24 ((r.stamp.toNat + 2 ^ 36 - age * 2 ^ 24 / max 1 r.period % 2 ^ 36) % 2 ^ 24)

/-- A crossing in Acquire (Table 9.2, R416). -/
def crossAcquire (s : State) (i at_ age : Nat) : State :=
  let r := ref s i
  match r.lastCross with
  | none => setRef s i { r with lastCross := some at_, periods := [] }
  | some t0 =>
    let p := at_ - t0
    let n := lockN s i
    let ps := (r.periods ++ [p]).drop (r.periods.length + 1 - n)
    if periodInRange p = false then setRef s i { r with lastCross := some at_, periods := [] }
    else if locksNow n ps then
      refTo (setRef s i { r with
        lastCross := some at_, periods := [], period := p, err := 0, slew := false, sub := 0,
        stamp := stampAfter (r.stamp.toNat / 2 ^ 24 + 1) age p }) i .locked
    else setRef s i { r with lastCross := some at_, periods := ps }

/-- A crossing in Locked (R411, R412): the last valid period becomes the tracked one and the phase error is to be
removed (notes/assumptions/18.md). -/
def crossLocked (s : State) (i at_ age : Nat) : State :=
  let r := ref s i
  let p := at_ - r.lastCross.getD at_
  if periodInRange p = false ∨ r.period < 50 * (p - r.period) ∨ r.period < 50 * (r.period - p) then refTo s i .holdover
  else
    let e := phaseError r age
    setRef s i { r with lastCross := some at_, period := p, sub := 0, err := -e * (256 * p : Nat), slew := r.slew && decide (e ≠ 0) }

/-- A crossing in Holdover (R413). -/
def crossHoldover (s : State) (i at_ age : Nat) : State :=
  let r := ref s i
  let e := phaseError r age
  if -(2 ^ 21 : Int) ≤ e ∧ e ≤ 2 ^ 21 then
    refTo (setRef s i { r with lastCross := some at_, err := -e * (256 * r.period : Nat), slew := decide (e ≠ 0) }) i .locked
  else refTo s i .lost

/-- A crossing at `at_`, seen `age` fabric cycles later (Table 9.2). -/
def crossing (s : State) (i at_ age : Nat) : State :=
  match (ref s i).st with
  | .off => s
  | .acquire => crossAcquire s i at_ age
  | .locked => crossLocked s i at_ age
  | .holdover => crossHoldover s i at_ age
  | .lost => refTo (setRef s i { ref s i with lastCross := some at_, periods := [] }) i .acquire

/-- HYST of a reference in mV (Table 9.3). -/
def hystMv (s : State) (i : Nat) : Nat := 10 * 2 ^ rfld s phrefPg (16 + 4 * i) 15 14

/-- The input delay of a PHREF ball: 40 ns (Table 15.8). -/
def phrefDelay : Nat := 12

/-- CROSSING_DETECTED (R410 to R413, R416, R711): the comparator of a PHREF ball switched `x.age` fabric cycles ago, its input
having lain `x.low` mV below the threshold since the last crossing detected, which arms it where that exceeds HYST; or the detector of a
sense source has found the crossing in its samples. -/
def execCrossingDetected (i : BitVec 3) (x : Crossing) (s : State) : Host.Outcome State Fault Refusal :=
  let k := i.toNat
  let t := s.ticks - x.age.toNat - phrefDelay
  done (unitDo s phrefPg (fun s =>
    if refSrc s k = 1 then (if hystMv s k < x.low.toNat then refCopies (crossing s k t (s.ticks - t)) else s)
    else if refSrc s k = 2 then
      match (ref s k).due with
      | some t => refCopies (crossing (setRef s k { ref s k with due := none }) k t (s.ticks - t))
      | none => s
    else s))

/-- CROSSING_TIMEOUT (R411): no crossing for 1.25 tracked periods. -/
def execCrossingTimeout (i : BitVec 3) (s : State) : Host.Outcome State Fault Refusal :=
  let k := i.toNat
  let r := ref s k
  done (unitDo s phrefPg (fun s =>
    if (refSrc s k = 1 ∨ refSrc s k = 2) ∧ r.st = .locked ∧ 5 * r.period ≤ 4 * (s.ticks - r.lastCross.getD s.ticks) then
      refCopies (refTo s k .holdover)
    else s))

/-- HOLDMAX_EXPIRY (R414): a reference in Holdover for HOLDMAX cycles since its last valid crossing; a copy follows its source
(R421). -/
def execHoldmaxExpiry (i : BitVec 3) (s : State) : Host.Outcome State Fault Refusal :=
  let k := i.toNat
  let r := ref s k
  done (unitDo s phrefPg (fun s =>
    if r.st = .holdover ∧ ¬ (refSrc s k = 4 ∧ ttRole s ≠ 2) ∧ holdMax s k * r.period ≤ s.ticks - r.lastCross.getD s.ticks then
      refCopies (refTo s k .lost)
    else s))

/-! ## Configuration -/

/-- Whether a REFCFG write changes the source, SRC together with the input it selects (R417). -/
def sourceChanges (held new : Word) : Bool :=
  decide (fld held 35 33 ≠ fld new 35 33) ||
  (decide (fld new 35 33 = 2) && decide (fld held 32 22 ≠ fld new 32 22)) ||
  (decide (fld new 35 33 = 4) && decide (fld held 19 17 ≠ fld new 19 17))

/-- Whether a REFCFG write is refused (R417, R420, R712). -/
def refcfgRefused (s : State) (i : Nat) (v : Word) : Bool :=
  let held := rget s phrefPg (16 + 4 * i)
  let src := fld v 35 33
  let f := rfld s phrefPg (17 + 4 * i) 16 0
  decide (1 ≤ src ∧ src ≤ 4) &&
  ((decide ((ref s i).st ≠ .off) && sourceChanges held v) || (decide (src = 2) && decide (chanCount s ≤ fld v 31 22)) ||
   (decide (src = 3) && decide (f < 15000 ∨ 70000 < f)))

/-- A write to REFCFG_i (R410, R417, R418, R420, R421, R712). -/
def refcfgStore (s : State) (i : Nat) (v : Word) : State :=
  unlessLocked s phrefPg (16 + 4 * i) (fun s =>
    if refcfgRefused s i v then capture s phrefPg 8 i
    else
      let s1 := writeFields s phrefPg (16 + 4 * i) v
      let src := refSrc s1 i
      if src = 0 then refCopies (refTo s1 i .off)
      else if (src = 1 ∨ src = 2) ∧ (ref s i).st = .off then refCopies (refTo (setRef s1 i Ref.init) i .acquire)
      else refCopies s1)

/-- REFCFG_WRITE (R417). -/
def execRefcfgWrite (i : BitVec 3) (v : Word) (s : State) : Host.Outcome State Fault Refusal :=
  done (unitDo s phrefPg (fun s => refcfgStore s i.toNat v))

/-- A write to REFSYN_i or SYNST_i: refused while the reference has SRC = 3 (R712). -/
def synStore (s : State) (i off : Nat) (v : Word) : State :=
  unlessLocked s phrefPg off (fun s => if refSrc s i = 3 then capture s phrefPg 8 i else writeFields s phrefPg off v)

/-- SYNTHETIC_LOCK (R418). -/
def execSyntheticLock (i : BitVec 3) (s : State) : Host.Outcome State Fault Refusal :=
  let k := i.toNat
  done (unitDo s phrefPg (fun s =>
    if refSrc s k = 3 ∧ (ref s k).st = .off then refCopies (refTo s k .locked) else s))

/-- CTL.SRST of the PHREF page (R707). -/
def phrefReset (s : State) : State :=
  unlessLocked s phrefPg 4 (fun s => resetPage ((List.range 8).foldl (fun s i => refTo s i .off) s) phrefPg)

/-- PHREF_SRST (R707). -/
def execPhrefSrst (s : State) : Host.Outcome State Fault Refusal := done (unitDo s phrefPg phrefReset)

/-! ## Track time -/

/-- The read of TT_LO latches TT_HI (R424). -/
def ttLoRead (s : State) : Word × State :=
  (BitVec.ofNat 36 s.tt, rset s ttimePg 17 (BitVec.ofNat 36 (s.tt / 2 ^ 36)))

/-- TT_LO_READ (R424). -/
def execTtLoRead (s : State) : Host.Outcome State Fault Refusal :=
  done (unitDo s ttimePg (fun s => let r := ttLoRead s; replyWord r.2 r.1))

/-- A write of RATE (R426, R428). -/
def rateStore (s : State) (v : Word) : State :=
  unlessLocked s ttimePg 18 (fun s =>
    if ttRole s = 2 then captureAt s ttimePg 8 18
    else if sval v < -(2 ^ 30 : Int) ∨ (2 ^ 30 : Int) < sval v then captureAt s ttimePg 9 18
    else rset s ttimePg 18 v)

/-- RATE_WRITE (R425, R426, R428). -/
def execRateWrite (v : Word) (s : State) : Host.Outcome State Fault Refusal :=
  done (unitDo s ttimePg (fun s => rateStore s v))

/-- Track time jumps: it is noted before (R481), and T0 of every open window and the start of every CHOLD period move by the same
amount (R490). -/
def ttJump (s : State) (amount : Int) : State :=
  let move := fun (t : Nat) => ((t : Int) + amount).toNat
  { ttMark s s.ticks with
    tt := (((s.tt : Int) + amount) % (2 ^ 72 : Nat)).toNat
    voters := s.voters.map (fun p => (p.1, { p.2 with
      wins := p.2.wins.map (fun w => { w with t0 := move w.t0 })
      commits := p.2.commits.map (fun c => { c with start := move c.start }) })) }

/-- A synthetic reference of a package of the stack that is not Off (R427): one of this package, or one that the far end of a
link to a member has shown (notes/assumptions/83.md). -/
def synthOn (s : State) : Bool :=
  (List.range 8).any (fun i => decide (refSrc s i = 3 ∧ (ref s i).st ≠ .off)) || s.cwys.any (fun p => p.2.pmem && p.2.synth)

/-- The track time over which a step of the stack master reaches every follower, in ns: two packets and the longest delay of a
link (R543; DESIGN CHOICE, notes/assumptions/83.md). -/
def stepLead (s : State) : Nat := s.cwys.foldl (fun n p => if p.2.pmem then max n p.2.delay else n) 0 + 2000

/-- A step that is accepted (R427, R544): in a package alone it is taken at once. The master of a stack takes it, with its
followers, in the fabric cycle of a track time that all of them learn in time. -/
def stepTake (s : State) (amount : Int) : State :=
  let y := s.sync
  if s.stack.members = 0 ∨ s.stack.members = 1 then ttJump s amount
  else
    let at_ := max s.tt y.seen + stepLead s
    { s with sync := { y with steps := y.steps ++ [(at_, amount.toNat)], seen := at_ } }

/-- A step whose track time has come is taken (R544). -/
def stepDue (s : State) : State :=
  match s.sync.steps with
  | [] => s
  | (at_, amount) :: rest =>
    if at_ ≤ s.tt then
      let y := { s.sync with steps := rest, anchor := s.sync.anchor.map (fun p => (p.1 + amount, p.2)) }
      { ttJump s amount with sync := y }
    else s

/-- A write of STEP_HI (R427, R428, R544): every write clears STEP_LO afterwards. -/
def stepStore (s : State) (v : Word) : State :=
  let amount := signed 72 ((rget s ttimePg 19).toNat + 2 ^ 36 * v.toNat)
  let s1 :=
    if ttRole s = 2 then captureAt s ttimePg 8 20
    else if bit (rget s ttimePg 4) 2 = false ∨ synthOn s = true ∨ amount < 0 then captureAt s ttimePg 10 20
    else stepTake s amount
  rset s1 ttimePg 19 0

/-- STEP_HI (R427, R490): whether another package of the stack has a synthetic reference that is not Off comes with the write
(notes/assumptions/83.md). -/
def execStepHi (v : StepWrite) (s : State) : Host.Outcome State Fault Refusal :=
  done (unitDo s ttimePg (fun s =>
    if v.synth && ttRole s != 2 then rset (captureAt s ttimePg 10 20) ttimePg 19 0 else stepStore s v.value))

/-- A write of STEP_LO: the low word of the next step; ignored on a follower (R427, R428). -/
def stepLoStore (s : State) (v : Word) : State :=
  if ttRole s = 2 then captureAt s ttimePg 8 19 else rset s ttimePg 19 v

/-- CTL.SRST of the TTIME page (R706): track time, SYNCERR and the discipline of a follower stay. -/
def ttimeReset (s : State) : State :=
  unlessLocked s ttimePg 4 (fun s => rset (resetPage s ttimePg) ttimePg 21 (rget s ttimePg 21))

/-- TTIME_SRST (R706). -/
def execTtimeSrst (s : State) : Host.Outcome State Fault Refusal := done (unitDo s ttimePg ttimeReset)

end Sys2Proof.Machine
end

