-- ==== Sys2Proof/Machine/Stack.lean ====
section
/-! DEFINITION. Causeway stacks (R533 to R545): links that reach Up, the declaration of a stack, admission and removal of
members, and the synchronisation of track time and references. -/

namespace Sys2Proof.Machine

/-- CASC_ROLE as sampled (Table 11.5): 0 Alone, 1 Master, 2 Follower, 3 Auto. -/
def roleStrap (s : State) : Nat := s.straps.toNat % 4

/-- The Causeway links train: the package is not strapped Alone and STKCFG.CWYEN is 1 (R535, R536). -/
def causewayOn (s : State) : Bool := decide (roleStrap s ≠ 0) && bit (rget s (pkgPg 0) 53) 33

/-- This package's serial number. -/
def ownSerial (s : State) : BitVec 64 := s.fusesRead.serno

/-- Membership or role changed (Table 11.6). -/
def stackChanged (s : State) : State := irqPend s (pkgPg 0) 1

/-! ## Links -/

/-- A link waits, with a reason: both pages show it (R537, R539, Table 11.7). -/
def linkWaits (s : State) (i why : Nat) : State :=
  capture (setCwyState (setCwy s i { cwy s i with waitWhy := why }) i .wait) (pkgPg (8 + i)) 11 why

/-- Whether a peer is a member: of this package's stack where it has one (Table 11.7). -/
def peerIn (k : Stack) (p : PeerFacts) : Bool := decide (p.members ≠ 0) && (k.role == 0 || p.stackId == k.id)

/-- What the ends exchange when a link reaches Up (R536). -/
def linkFacts (s : State) (i : Nat) (peer : PeerFacts) : State :=
  let c := cwy s i
  setCwy s i { c with
    lanes := 15, peer := some peer, ppos := peer.pos, pmem := peerIn s.stack peer, waitWhy := 0, synth := peer.synth,
    upSince := some (c.upSince.getD s.ticks) }

/-- The pools of a link that trains from nothing; a link that was Down is restored by the exchange (R530, R531). -/
def linkPools (s : State) (i : Nat) : State :=
  if cwyState s i = .down then exchange (exchange s (544 + i)) (548 + i)
  else setLink (setLink s (544 + i) (linkDefault (544 + i))) (548 + i) (linkDefault (548 + i))

/-- LINK_UP (R536, R537): two peers strapped Master hold the link in Wait with reason 5. -/
def execLinkUp (link : BitVec 2) (peer : PeerFacts) (s : State) : Host.Outcome State Fault Refusal :=
  let i := link.toNat
  done (if linkWorks s (544 + i) = true ∧ causewayOn s = true ∧ cwyState s i ≠ .up ∧ cwyState s i ≠ .retrain then
    let s1 := linkFacts (linkPools s i) i peer
    if roleStrap s = 1 ∧ peer.strap = 1 then linkWaits (capture s1 (pkgPg 0) 27 i) i 5
    else setCwyState s1 i .up
  else s)

/-- Links in Up. -/
def upLinks (s : State) : List Nat := (List.range s.part.ports).filter (fun i => cwyState s i == .up)

/-! ## Formation (R537) -/

/-- Whether this package outranks a peer: strap Master over Auto, then the lower serial number; a Follower is outranked. -/
def outranks (s : State) (p : PeerFacts) : Bool :=
  let own := roleStrap s
  if p.strap = 2 then true
  else if own = 1 ∧ p.strap ≠ 1 then true
  else if own ≠ 1 ∧ p.strap = 1 then false
  else decide (ownSerial s < p.serial)

/-- The tick at which the first link reached Up. -/
def firstUp (s : State) : Option Nat :=
  (List.range s.part.ports).foldl (fun b i =>
    match b, (cwy s i).upSince with
    | some x, some y => some (min x y)
    | none, y => y
    | x, none => x) none

/-- Whether this package may declare a stack now. -/
def mayDeclare (s : State) : Bool :=
  s.stack.role == 0 && (roleStrap s == 1 || roleStrap s == 3) && causewayOn s && !(upLinks s).isEmpty &&
  (match firstUp s with | some t => decide (t + 10000 * ticksPerUs ≤ s.ticks) | none => false) &&
  (upLinks s).all (fun i => match (cwy s i).peer with
    | some p => decide (p.members ≠ 0) || outranks s p
    | none => true)

/-- Every link shows whether its peer is a member of the stack. -/
def showMembers (s : State) : State :=
  (List.range s.part.ports).foldl (fun s i =>
    setCwy s i { cwy s i with pmem := match (cwy s i).peer with | some p => peerIn s.stack p | none => false }) s

/-- STACK_DECLARE (R537). -/
def execStackDeclare (s : State) : Host.Outcome State Fault Refusal :=
  done (unitDo s (pkgPg 0) (fun s =>
    if mayDeclare s then
      stackChanged (showMembers { s with stack := { role := 1, pos := 0, members := 1, orphan := false, id := ownSerial s } })
    else s))

/-! ## Admission (R538 to R540) -/

/-- 10 ms of track time. -/
def tenMs : Nat := 10000000

/-- A reference with a synthetic or remote source is not Off (R539). -/
def refsBusy (s : State) : Bool := (List.range 8).any (fun i => decide (3 ≤ refSrc s i ∧ (ref s i).st ≠ .off))

/-- The case of R539 under which a stack whose master this package is refuses a joiner. -/
def masterRefuses (s : State) (p : PeerFacts) : Nat :=
  if s.stack.members = 15 then 1
  else if !p.upWithAll then 2
  else if !p.refsOff then 3
  else if p.members ≠ 0 then 4
  else if p.strap = 1 then 5
  else if s.tt + tenMs < p.time.toNat then 6
  else if p.mire || s.safety == .mire then 7
  else 0

/-- The case of R539 under which a stack refuses this package; `former` says that it is the stack's former master. -/
def joinerRefused (s : State) (p : PeerFacts) (former : Bool) : Nat :=
  if p.members = 15 then 1
  else if !p.upWithAll then 2
  else if refsBusy s then 3
  else if roleStrap s = 1 ∧ former = false then 5
  else if p.time.toNat + tenMs < s.tt ∧ former = false then 6
  else if p.mire || s.safety == .mire then 7
  else 0

/-- The lowest free position from 1 to 3. -/
def freePos (members : BitVec 4) : Nat :=
  if members.getLsbD 1 = false then 1 else if members.getLsbD 2 = false then 2 else 3

/-- One more member. -/
def withMember (members : BitVec 4) (k : Nat) : BitVec 4 := members ||| BitVec.ofNat 4 (2 ^ k)

/-- Every link to a package shows it as the member at a position (R533, Table 11.7). -/
def flagPeer (s : State) (p : PeerFacts) (k : Nat) : State :=
  (List.range s.part.ports).foldl (fun s j =>
    if ((cwy s j).peer.map (fun q => q.serial)) = some p.serial then
      setCwy s j { cwy s j with peer := some p, pmem := true, ppos := BitVec.ofNat 2 k, synth := p.synth }
    else s) s

/-- The package at the far end of link i is a member, at position k (R540, R541). -/
def memberAt (s : State) (i : Nat) (p : PeerFacts) (k : Nat) (orphan : Bool) : State :=
  let s1 := { s with stack := { s.stack with members := withMember s.stack.members k, orphan := orphan } }
  flagPeer (setCwy s1 i { cwy s1 i with peer := some p }) p k

/-- HOLD of a follower changes: IRQ_PEND.SYNC of TTIME (Table 9.4). -/
def holdTo (s : State) (h : Bool) : State :=
  if s.sync.hold = h then s else irqPend { s with sync := { s.sync with hold := h } } ttimePg 1

/-- The master admits the package at the far end of link i (R538, R540). -/
def admitPeer (s : State) (i : Nat) (p : PeerFacts) : State :=
  stackChanged (memberAt s i p (freePos s.stack.members) s.stack.orphan)

/-- This package is admitted: as follower it takes the lowest free position and loads a track time ahead of its own (R540), a
jump of R490; the former master of an orphaned stack is its master again (R539). A follower's HOLD stands until its time is the
master's (R429, R543; notes/assumptions/84.md). -/
def admitted (s : State) (i : Nat) (p : PeerFacts) (former : Bool) : State :=
  let k := if former then 0 else freePos p.members
  let st : Stack := { role := if former then 1 else 2, pos := BitVec.ofNat 2 k, members := withMember p.members k, orphan := false,
                      id := p.stackId }
  let s1 := showMembers (setCwy { s with stack := st } i { cwy s i with peer := some p, ppos := p.pos, synth := p.synth })
  let s2 := if former = false ∧ s1.tt < p.time.toNat then ttJump s1 ((p.time.toNat : Int) - s1.tt) else ttMark s1 s1.ticks
  holdTo (stackChanged { s2 with sync := { Sync.init with last := s1.ticks } }) (!former)

/-- The case of R539 under which an orphaned stack refuses its former master: case 5 does not apply, and its master's limits (1, 4,
6) are its own. -/
def orphanRefuses (s : State) (p : PeerFacts) : Nat :=
  if !p.upWithAll then 2 else if !p.refsOff then 3 else if p.mire || s.safety == .mire then 7 else 0

/-- A stack refuses this package: the joiner holds the link in Wait (R539). -/
def joinRefused (s : State) (i why : Nat) : State := linkWaits (capture s (pkgPg 0) 25 why) i why

/-- A follower takes the former master of its orphaned stack back, or learns that the far end is a member; the master of another
stack refuses it (R539, R540). -/
def followerJoin (s : State) (i : Nat) (p : PeerFacts) : State :=
  if s.stack.orphan = true ∧ p.serial = s.stack.id ∧ p.members = 0 then
    match orphanRefuses s p with
    | 0 => stackChanged (memberAt s i p 0 false)
    | w => capture s (pkgPg 0) 25 w
  else if p.stackId = s.stack.id ∧ p.members.getLsbD p.pos.toNat = true ∧ p.pos ≠ s.stack.pos then
    let s1 := memberAt s i p p.pos.toNat s.stack.orphan
    if s1.stack = s.stack then s1 else stackChanged s1
  else if p.members ≠ 0 ∧ p.stackId ≠ s.stack.id ∧ p.pos = 0 then joinRefused s i 4
  else s

/-- The master decides a join request that waits (R538, R539). -/
def joinDecide (s : State) (i : Nat) (p : PeerFacts) : State :=
  let why := masterRefuses s p
  let s1 := setCwy s i { cwy s i with joining := none }
  if why = 0 then admitPeer s1 i p else capture s1 (pkgPg 0) 25 why

/-- The join request that the master decides next: of those that wait, the one with the lowest serial number (R538). -/
def joinNext (s : State) : Option (Nat × PeerFacts) :=
  (List.range s.part.ports).foldl (fun b i =>
    match b, (cwy s i).joining with
    | some x, some p => if p.serial < x.2.serial then some (i, p) else some x
    | none, some p => some (i, p)
    | x, none => x) none

/-- The join requests after a fabric cycle: the master decides one (R538). -/
def joinTick (s : State) : State :=
  if s.stack.role = 1 then (match joinNext s with | some x => joinDecide s x.1 x.2 | none => s) else s

/-- JOIN_REQUEST (R538 to R540): as master, of the package at the far end, which waits for its turn; as a package in no stack, to the
stack of the master at the far end, or to the orphaned stack that was its own; as follower, of the package that rejoins or has been
admitted. -/
def execJoinRequest (link : BitVec 2) (peer : PeerFacts) (s : State) : Host.Outcome State Fault Refusal :=
  let i := link.toNat
  done (if linkWorks s (544 + i) = true ∧ cwyState s i = .up then
    if s.stack.role = 1 then setCwy s i { cwy s i with joining := some peer }
    else if s.stack.role = 2 then followerJoin s i peer
    else if peer.members = 0 then s
    else
      let former := decide (peer.stackId = ownSerial s) && !peer.members.getLsbD 0
      let why := joinerRefused s peer former
      if former = false ∧ (peer.members.getLsbD 0 = false ∨ peer.pos ≠ 0) then s
      else if why = 0 then admitted s i peer former
      else joinRefused s i why
  else s)

/-! ## Removal (R541, R542) -/

/-- Whether every link to a member has been out of Up for LEAVETO. -/
def memberGone (s : State) (k : Nat) : Bool :=
  let limit := rfld s (pkgPg 0) 53 16 0 * ticksPerUs
  (List.range s.part.ports).all (fun i =>
    let c := cwy s i
    !(c.pmem && decide (c.ppos.toNat = k)) || (cwyState s i != .up && decide (c.downSince + limit ≤ s.ticks)))

/-- Whether a link to a member is in Up. -/
def memberReached (s : State) (k : Nat) : Bool :=
  (List.range s.part.ports).any (fun i => (cwy s i).pmem && decide ((cwy s i).ppos.toNat = k) && cwyState s i == .up)

/-- Followers whose master is gone hold their track time; references that follow it go to Holdover (R421, R542). -/
def syncLost (s : State) : State :=
  (List.range 8).foldl (fun s i =>
    if refSrc s i = 4 ∧ (ref s i).st = .locked then refTo s i .holdover else s)
    (holdTo { s with sync := { s.sync with good := 0 } } true)

/-- The links to a position show no member. -/
def forgetPos (s : State) (k : Nat) : State :=
  (List.range s.part.ports).foldl (fun s i =>
    if (cwy s i).pmem = true ∧ (cwy s i).ppos.toNat = k then setCwy s i { cwy s i with pmem := false } else s) s

/-- MEMBER_REMOVAL (R541, R542): of a member out of reach for LEAVETO, or, over a link in Up, of one that has written its
STKCTL.LEAVE. A request to it that is outstanding is answered with a bus error when its answer is taken. -/
def execMemberRemoval (pos : BitVec 2) (s : State) : Host.Outcome State Fault Refusal :=
  let k := pos.toNat
  done (unitDo s (pkgPg 0) (fun s =>
    if s.stack.role ≠ 0 ∧ s.stack.members.getLsbD k = true ∧ pos ≠ s.stack.pos ∧ (memberGone s k || memberReached s k) = true then
      let m := s.stack.members &&& ~~~(BitVec.ofNat 4 (2 ^ k))
      let s1 := forgetPos { s with stack := { s.stack with members := m, orphan := s.stack.orphan || decide (k = 0) } } k
      let s2 := stackChanged (capture s1 (pkgPg 0) 26 k)
      if k = 0 then syncLost s2 else s2
    else s))

/-- A write of STKCTL.LEAVE (R541): the package belongs to no stack, and is its own master; steps accepted are still taken. -/
def leaveStack (s : State) : State :=
  if s.stack.role = 0 then s
  else
    let s1 := (List.range s.part.ports).foldl (fun s i => setCwy s i { cwy s i with pmem := false, joining := none }) s
    let y := { Sync.init with steps := s.sync.steps, seen := s.sync.seen }
    refCopies (stackChanged { holdTo s1 false with stack := Stack.init, sync := y })

/-- LEAVE (R541). -/
def execLeave (s : State) : Host.Outcome State Fault Refusal := done (unitDo s (pkgPg 0) leaveStack)

/-- A Causeway link that goes Off. -/
def linkOff (s : State) (i : Nat) : State :=
  if cwyState s i = .off then s
  else setCwyState (setCwy s i { cwy s i with lanes := 0, downSince := s.ticks, upSince := none, joining := none }) i .off

/-- A write of STKCFG: LEAVETO outside its range is ignored (R542); CWYEN starts or stops the links (R536). -/
def stkcfgStore (s : State) (v : Word) : State :=
  unlessLocked s (pkgPg 0) 53 (fun s =>
    let t := fld v 16 0
    let held := rget s (pkgPg 0) 53
    let s1 := writeFields s (pkgPg 0) 53 (if 1000 ≤ t ∧ t ≤ 100000 then v else keepFld held v 16 0)
    (List.range s.part.ports).foldl (fun s i =>
      if causewayOn s then (if cwyState s i = .off then setCwyState s i .training else s)
      else linkOff s i) s1)

/-! ## Synchronisation (R421, R543) -/

/-- The largest rate correction of a follower: 500 ppm in units of 2^-40. -/
def maxRate : Nat := 549755813

/-- The rate of the master's track time against this package's clock, in units of 2^-40, from two of its times and the fabric
cycles between them. -/
def rateBetween (t0 k0 t1 k1 : Nat) : Int := (((t1 : Int) - t0) * (3 * 2 ^ 40)) / (10 * (max 1 (k1 - k0) : Nat)) - 2 ^ 40

/-- The rate a follower takes from an offset in ns (R429, R543): the master's rate, corrected towards its time. The correction is a
free value, from half of it on, up to 125 ppm for each ns, 500 ppm at most (notes/assumptions/84.md). -/
def syncRate (s : State) (base off : Int) : Word × State :=
  let most := min maxRate (off.natAbs * (maxRate / 4))
  let c : Nat := most - (Config.freeValue 31 s.fresh).toNat % (most / 2 + 1)
  (wordOfInt (if 0 < off then base - c else base + c), { s with fresh := s.fresh + 1 })

/-- The master's rate after a packet (R429): half of what was held and half of what this packet shows since the one before, so that
a follower keeps to its master through any write of RATE (notes/assumptions/84.md). -/
def syncBase (s : State) (time : Nat) : Int :=
  let y := s.sync
  match y.anchor with
  | some p => if p.2 < s.ticks then (y.base + rateBetween p.1 p.2 time s.ticks) / 2 else y.base
  | none => y.base

/-- The synchronisation that a packet of the master's time leaves. -/
def syncFrom (s : State) (time : Nat) (off : Int) (good : Nat) : State :=
  let base := syncBase s time
  let r := syncRate s base off
  { r.2 with sync := { s.sync with good := good, last := s.ticks, rate := r.1, base := base, anchor := some (time, s.ticks) } }

/-- The state that a packet's code names. -/
def refStateOf (c : Nat) : RefState :=
  if c = 1 then .acquire else if c = 2 then .locked else if c = 3 then .holdover else if c = 4 then .lost else .off

/-- The period that the master's stamps show since the mark (R421): measured over each whole cycle, and until the first one
over what has passed of it; no reference is faster than 70 Hz (R409). -/
def Ref.measured (r : Ref) (stamp : Word) (now : Nat) : Ref :=
  match r.mark with
  | none => { r with mark := some (now, stamp) }
  | some (t0, x0) =>
    let d := (stampDiff stamp x0).toNat
    let p := max 4285715 ((now - t0) * 2 ^ 24 / max 1 d)
    if d = 0 then r
    else if 2 ^ 24 ≤ d then { r with period := p, periods := [p], mark := some (now, stamp) }
    else if r.periods.isEmpty then { r with period := p } else r

/-- A reference with SRC 4 takes its state and stamp from a packet that left the master `delay` ns ago (R421). One that begins to
run takes the stamp, as it enters Locked from Off or Acquire, once two packets have shown the period; one that is Lost goes to Acquire
first (R409). A running one removes the difference, for its stamp never steps: at once, or as R412 states after a return from
Holdover; out of a Holdover by loss of synchronisation it goes by R413. -/
def remoteRef (s : State) (i delay : Nat) (x : RefSample) : State :=
  let r := (ref s i).measured x.stamp s.ticks
  let st := refStateOf x.state.toNat
  let now : Word := x.stamp + (if r.period = 0 then 0 else BitVec.ofNat 36 (delay * 3 * 2 ^ 24 / (10 * r.period)))
  let e := stampDiff now r.stamp
  let r1 := { r with lastCross := some s.ticks }
  if s.sync.hold then setRef s i { ref s i with mark := none }
  else if st.runs = false then refTo (setRef s i { r1 with mark := none, periods := [] }) i st
  else if r.st = .lost then refTo (setRef s i r) i .acquire
  else if r.st.runs = false ∧ (ref s i).mark = none then setRef s i r
  else if r.st.runs = false then
    refTo (refTo (setRef s i { r1 with stamp := now, sub := 0, err := 0, slew := false }) i .locked) i st
  else if r.st = .holdover ∧ st = .locked ∧ ¬(-(2 ^ 21 : Int) ≤ e ∧ e ≤ 2 ^ 21) then refTo s i .lost
  else
    let s1 := refTo (setRef s i r1) i st
    setRef s1 i { ref s1 i with err := e * (256 * r.period : Nat)
                                slew := (r.slew || (decide (r.st = .holdover) && decide (st = .locked))) && decide (e ≠ 0) }

/-- A follower learns of a step that its master is about to take (R544): it takes it in the fabric cycle of the same track time. -/
def stepLearn (s : State) (time : MasterTime) : State :=
  let at_ := time.stepAt.toNat
  if time.step = 0 ∨ at_ ≤ s.sync.seen then s
  else { s with sync := { s.sync with steps := s.sync.steps ++ [(at_, time.step.toNat)], seen := at_ } }

/-- The master's time in a packet, in the follower's count of the steps taken: one of the two may have taken a step that the other
is yet to take (R544). -/
def masterNow (s : State) (time : MasterTime) : Nat :=
  let ahead := time.step ≠ 0 ∧ s.sync.steps.all (fun p => p.1 != time.stepAt.toNat) = true
  let behind := if time.step = 0 then s.sync.steps.foldl (fun n p => n + p.2) 0 else 0
  (if ahead then time.now.toNat + time.step.toNat else time.now.toNat) - behind

/-- The references that follow their master's, after a packet (R421). -/
def remoteRefs (s : State) (delay : Nat) (refs : List RefSample) : State :=
  (List.range 8).foldl (fun s i =>
    if refSrc s i = 4 then
      match refs[rfld s phrefPg (16 + 4 * i) 19 17]? with
      | some x => remoteRef s i delay x
      | none => s
    else s) s

/-- SYNC_PACKET (R421, R429, R543, R544): on a follower, over the link to its master. The offset from the master's time, which is the
packet's time and the link's delay, corrects the rate; 8 packets in a row within 8 ns end HOLD. -/
def execSyncPacket (link : BitVec 2) (time : MasterTime) (refs : List RefSample) (s : State) :
    Host.Outcome State Fault Refusal :=
  let i := link.toNat
  let delay := (cwy s i).delay
  done (if s.stack.role = 2 ∧ clocked s = true ∧ s.stack.orphan = false ∧ cwyState s i = .up ∧ (cwy s i).pmem = true ∧
      (cwy s i).ppos = 0 then
    let s0 := stepLearn s time
    let t := masterNow s0 time
    let off : Int := (s0.tt : Int) - ((t + delay : Nat) : Int)
    let good := if -8 ≤ off ∧ off ≤ 8 then min 8 (s.sync.good + 1) else 0
    let s1 := rset (syncFrom s0 t off good) ttimePg 21 (fval 17 0 ((max (-131072) (min off 131071)) % 2 ^ 18).toNat)
    remoteRefs (holdTo s1 (s.sync.hold && decide (good < 8))) delay refs
  else s)

/-- The packet that the master sends now (R543, R544). -/
def syncSent (s : State) : SyncSent :=
  { now := s.tt, step := s.sync.steps.head?
    refs := (List.range 8).map (fun i => { state := BitVec.ofNat 3 ((ref s i).st.num), stamp := refNow s i }) }

/-- The master's packets, on every link in Up once every 1 µs (R543). -/
def syncTick (s : State) : State :=
  if s.stack.role = 1 ∧ s.ticks % ticksPerUs = 0 then
    (upLinks s).foldl (fun t i => setCwy t i { cwy t i with sent := some (syncSent s) }) s
  else s

/-- What a stack does by itself in a fabric cycle: its master decides a join request and sends its packets (R538, R543). -/
def stackTick (s : State) : State := syncTick (joinTick s)

/-- SYNC_TIMEOUT (R421, R543): no packet for 16 µs. -/
def execSyncTimeout (s : State) : Host.Outcome State Fault Refusal :=
  done (if s.stack.role = 2 ∧ clocked s = true ∧ s.sync.last + 16 * ticksPerUs ≤ s.ticks then syncLost s else s)

/-- ROUND_TRIP_MEASURE (R427, R543): half the round trip is the one-way delay, and the far end shows whether it has a synthetic
reference that is not Off (notes/assumptions/83.md). -/
def execRoundTripMeasure (link : BitVec 2) (trip : RoundTrip) (s : State) : Host.Outcome State Fault Refusal :=
  let i := link.toNat
  done (if linkWorks s (544 + i) = true ∧ cwyState s i = .up then
    setCwy s i { cwy s i with delay := trip.ns.toNat / 2, synth := trip.synth } else s)

end Sys2Proof.Machine
end

