-- ==== Sys2Proof/Machine/Clock.lean ====
section
/-! DEFINITION. One fabric cycle of 10/3 ns (00_scope.md): what time alone changes. Everything that happens at an instant is a
command of its own; a cycle moves the clocks that those commands compare (notes/assumptions/8.md). -/

namespace Sys2Proof.Machine

/-- The part of an error that a fabric cycle removes, between two bounds, and the error left, in parts of a fraction step (256 × the
period to a step). -/
def slewPart (lo hi err : Int) : Int × Int :=
  let d := max lo (min hi err)
  (d, err - d)

/-- The most that a reference moves against its period in a fabric cycle: 1/256 of its advance (R412), or, where it follows its
master's stamp (R421), all that R409 allows: no step back, and at most 4 fraction steps on. -/
def slewBounds (follows : Bool) (period : Nat) : Int × Int :=
  if follows then (-(2 ^ 32), max 0 (1024 * (period : Int) - 2 ^ 32)) else (-(2 ^ 24), 2 ^ 24)

/-- A tracked reference after a fabric cycle (R412, R413): its stamp advances at the tracked period, and SLEW clears when the
error is gone. -/
def Ref.tick (r : Ref) (follows : Bool) : Ref :=
  if (r.st = .locked ∨ r.st = .holdover) ∧ r.period ≠ 0 then
    let d := slewPart (slewBounds follows r.period).1 (slewBounds follows r.period).2 r.err
    let u := r.sub + ((2 ^ 32 : Int) + d.1).toNat
    { r with
      stamp := r.stamp + BitVec.ofNat 36 (u / (256 * r.period)), sub := u % (256 * r.period)
      err := d.2, slew := r.slew && (r.st != .locked || decide (d.2 ≠ 0)) }
  else r

/-- A reference after a fabric cycle: a synthetic one is read from track time (R419), one that follows its master's stamp keeps to
it unless it returns from Holdover (R413, R421), a copy waits for its source. -/
def refTick (s : State) (i : Nat) : State :=
  if refSrc s i = 3 ∨ isCopy s i = true then s
  else setRef s i ((ref s i).tick (decide (refSrc s i = 4) && !(ref s i).slew))

/-- A copy after a fabric cycle (R409, R421): with its source, or at its own pace towards it. -/
def copyTick (s : State) (i : Nat) : State :=
  let s1 := refCopy 4 s i
  let apart := isCopy s i && (ref s1 i).st.runs && decide ((ref s1 i).stamp ≠ (copySource s i).stamp)
  if apart then setRef s1 i ((ref s1 i).tick false) else s1

/-- The references after a fabric cycle. -/
def refsTick (s : State) : State := (List.range 8).foldl copyTick ((List.range 8).foldl refTick s)

/-- Whether the clock of a core runs (Table 13.3). -/
def coreClock (s : State) (n : Nat) : Bool :=
  let d := dom s (domKey (n / 16) (n % 16))
  !d.held && !isolatedRegion s (n / 4) && (d.st == .run || d.st == .trim)

/-- The cycles of a wait: in stage M PC_MEMSTALL counts those of a load, and PC_SBSTALL those of an instruction that waits behind a store
to a page (R223, R244, R248); then those of a fetch at another block's arbiter (R248), of a walk on a held entry (R339), of a store
that finds too few free entries (R243), and of an older epoch (R397). A wait whose reason has gone counts no more. -/
def waitCycles (s : State) (n : Nat) : State :=
  let c := coreAt s n
  match c.stall, c.mstage, c.fetchAt, c.held with
  | some .page, _, _, _ => perf s n c.cur 70 2
  | some (.buffer k), _, _, _ => if 4 < c.sb.length + k then perf s n c.cur 70 2 else setCore s n { c with stall := none }
  | some (.epoch g), _, _, _ =>
    if 4 ≤ (coreAt s g).epochs.length then perf s n c.cur 69 2 else setCore s n { c with stall := none }
  | none, some m, _, _ => if m.store.isSome then s else perf s n c.cur 69 2
  | none, none, some _, _ => perf s n c.cur 69 2
  | none, none, none, some w => if w.released then s else perf s n c.cur 69 2
  | none, none, none, none => s

/-- The products of a context that were due before a core cycle have written MH:ML (R174, R176). -/
def landMuls (c : Core) (cyc : Nat) : Core :=
  (List.range 4).foldl (fun c h => if (c.ctx h).muls.isEmpty then c else c.setCtx h ((c.ctx h).landDue (cyc - 1))) c

/-- The core cycle at which the interrupt that is due became due (R252). -/
def irqSeen (s : State) (n : Nat) : Option Nat :=
  let c := coreAt s n
  if (interruptDue s n).isSome then some (c.irqAt.getD c.cyc) else none

/-- A core after a fabric cycle, two core cycles: CYCL (R160, R622), the waits, and the interrupt that is due. -/
def coreTick (s : State) (n : Nat) : State :=
  if coreClock s n then
    let c := coreAt s n
    let ready := ((List.range 4).filter (fun h => (c.ctx h).st == .ready)).length
    let s1 := setCore s n { landMuls c (c.cyc + 2) with
      cyc := c.cyc + 2, multiNow := c.multiNow + (if 1 < ready then 1 else 0), readyNow := c.readyNow || decide (0 < ready) }
    waitCycles (setCore s1 n { coreAt s1 n with irqAt := irqSeen s1 n }) n
  else s

/-- The excitation phase of an Axle channel after a fabric cycle (R479). -/
def axleTick (s : State) (m : Nat) : State :=
  if chMode s m = 3 ∧ chanUp s m = true ∧ bit (rget s (chanPg m) 5) 0 = true then
    let c := chan s m
    setChan s m { c with phase := (c.phase + fld (chanReg s m 4) 35 18) % 300000000 }
  else s

/-- A burst in progress after a fabric cycle: what is left of it is counted from the last stamp that is not a whole cycle old
(R475). -/
def burstTick (s : State) (m : Nat) : State :=
  let c := chan s m
  let d := stampDiff (refNow s c.burstRef) c.burstFrom
  if c.burstOn = true ∧ 2 ^ 24 ≤ d then
    setChan s m { c with burstFrom := refNow s c.burstRef, burstLeft := c.burstLeft - d.toNat }
  else s

/-- A channel after a fabric cycle. -/
def chanTick (s : State) (m : Nat) : State := edgeTick (burstTick (axleTick s m) m) m

/-- A fabric cycle; no clock runs in a freeze or a package reset (R631, R647, R649). -/
def tick (s : State) : State :=
  if clocked s then
    let s1 := refsTick (stepDue (ttAdvance { s with ticks := s.ticks + 1 }))
    (List.range (chanCount s)).foldl chanTick ((coreNos s).foldl coreTick (linksTick (stackTick s1)))
  else s

end Sys2Proof.Machine
end

