-- ==== Sys2Proof/Machine/Crypto.lean ====
section
/-! DEFINITION. SHA-384 (FIPS 180-4) and ECDSA on brainpoolP384r1 (RFC 5639), the standards Table 0.4 takes for hashes and
signatures; their constants and formulas are the standards' own (PRESUMED, notes/assumptions/9.md). -/

namespace Sys2Proof.Machine

/-! ## SHA-384 -/

/-- The 80 round constants: the first 64 bits of the fractional parts of the cube roots of the first 80 primes. -/
def shaK : List (BitVec 64) :=
  [0x428a2f98d728ae22, 0x7137449123ef65cd, 0xb5c0fbcfec4d3b2f, 0xe9b5dba58189dbbc, 0x3956c25bf348b538,
   0x59f111f1b605d019, 0x923f82a4af194f9b, 0xab1c5ed5da6d8118, 0xd807aa98a3030242, 0x12835b0145706fbe] ++
  [0x243185be4ee4b28c, 0x550c7dc3d5ffb4e2, 0x72be5d74f27b896f, 0x80deb1fe3b1696b1, 0x9bdc06a725c71235,
   0xc19bf174cf692694, 0xe49b69c19ef14ad2, 0xefbe4786384f25e3, 0x0fc19dc68b8cd5b5, 0x240ca1cc77ac9c65] ++
  [0x2de92c6f592b0275, 0x4a7484aa6ea6e483, 0x5cb0a9dcbd41fbd4, 0x76f988da831153b5, 0x983e5152ee66dfab,
   0xa831c66d2db43210, 0xb00327c898fb213f, 0xbf597fc7beef0ee4, 0xc6e00bf33da88fc2, 0xd5a79147930aa725] ++
  [0x06ca6351e003826f, 0x142929670a0e6e70, 0x27b70a8546d22ffc, 0x2e1b21385c26c926, 0x4d2c6dfc5ac42aed,
   0x53380d139d95b3df, 0x650a73548baf63de, 0x766a0abb3c77b2a8, 0x81c2c92e47edaee6, 0x92722c851482353b] ++
  [0xa2bfe8a14cf10364, 0xa81a664bbc423001, 0xc24b8b70d0f89791, 0xc76c51a30654be30, 0xd192e819d6ef5218,
   0xd69906245565a910, 0xf40e35855771202a, 0x106aa07032bbd1b8, 0x19a4c116b8d2d0c8, 0x1e376c085141ab53] ++
  [0x2748774cdf8eeb99, 0x34b0bcb5e19b48a8, 0x391c0cb3c5c95a63, 0x4ed8aa4ae3418acb, 0x5b9cca4f7763e373,
   0x682e6ff3d6b2b8a3, 0x748f82ee5defb2fc, 0x78a5636f43172f60, 0x84c87814a1f0ab72, 0x8cc702081a6439ec] ++
  [0x90befffa23631e28, 0xa4506cebde82bde9, 0xbef9a3f7b2c67915, 0xc67178f2e372532b, 0xca273eceea26619c,
   0xd186b8c721c0c207, 0xeada7dd6cde0eb1e, 0xf57d4f7fee6ed178, 0x06f067aa72176fba, 0x0a637dc5a2c898a6] ++
  [0x113f9804bef90dae, 0x1b710b35131c471b, 0x28db77f523047d84, 0x32caab7b40c72493, 0x3c9ebe0a15c9bebc,
   0x431d67c49c100d4c, 0x4cc5d4becb3e42b6, 0x597f299cfc657e2a, 0x5fcb6fab3ad6faec, 0x6c44198c4a475817]

/-- The initial hash value: the same bits of the square roots of the 9th to 16th primes. -/
def shaInit : List (BitVec 64) :=
  [0xcbbb9d5dc1059ed8, 0x629a292a367cd507, 0x9159015a3070dd17, 0x152fecd8f70e5939,
   0x67332667ffc00b31, 0x8eb44a8768581511, 0xdb0c2e0d64f98fa7, 0x47b5481dbefa4fa4]

/-- The function of three rotations of a round, and of two rotations and a shift of the message schedule. -/
def shaSum (x : BitVec 64) (a b c : Nat) : BitVec 64 := x.rotateRight a ^^^ x.rotateRight b ^^^ x.rotateRight c
def shaMix (x : BitVec 64) (a b c : Nat) : BitVec 64 := x.rotateRight a ^^^ x.rotateRight b ^^^ (x >>> c)

/-- The words of a block, each of 8 octets. -/
def shaWords : Nat → List (BitVec 8) → List (BitVec 64)
  | 0, _ => []
  | n + 1, l => BitVec.ofNat 64 ((l.take 8).foldl (fun a o => 256 * a + o.toNat) 0) :: shaWords n (l.drop 8)

/-- The message schedule, the newest word first, after n words more than the block's 16. -/
def shaExtend : Nat → List (BitVec 64) → List (BitVec 64)
  | 0, w => w
  | n + 1, w =>
    shaExtend n ((shaMix (w.getD 1 0) 19 61 6 + w.getD 6 0 + shaMix (w.getD 14 0) 1 8 7 + w.getD 15 0) :: w)

/-- One round on the working variables a to h. -/
def shaRound (v : List (BitVec 64)) (k w : BitVec 64) : List (BitVec 64) :=
  match v with
  | [a, b, c, d, e, f, g, h] =>
    let t := h + shaSum e 14 18 41 + ((e &&& f) ^^^ (~~~e &&& g)) + k + w
    [t + shaSum a 28 34 39 + ((a &&& b) ^^^ (a &&& c) ^^^ (b &&& c)), a, b, c, d + t, e, f, g]
  | _ => v

/-- The hash value after one block of 128 octets. -/
def shaBlock (hv : List (BitVec 64)) (block : List (BitVec 8)) : List (BitVec 64) :=
  let w := (shaExtend 64 (shaWords 16 block).reverse).reverse
  let v := (shaK.zip w).foldl (fun v p => shaRound v p.1 p.2) hv
  (hv.zip v).map (fun p => p.1 + p.2)

/-- The hash value after n blocks. -/
def shaBlocks : Nat → List (BitVec 64) → List (BitVec 8) → List (BitVec 64)
  | 0, hv, _ => hv
  | n + 1, hv, l => shaBlocks n (shaBlock hv (l.take 128)) (l.drop 128)

/-- A message padded to whole blocks: a 1 bit, zeros, and its length in bits as 128 bits. -/
def shaPad (m : List (BitVec 8)) : List (BitVec 8) :=
  m ++ [0x80] ++ List.replicate ((239 - m.length % 128) % 128) 0 ++
    (List.range 16).map (fun i => BitVec.ofNat 8 (8 * m.length / 256 ^ (15 - i)))

/-- SHA-384 of a string of octets: the first six words of the hash value. -/
@[irreducible] def sha384 (m : List (BitVec 8)) : BitVec 384 :=
  let p := shaPad m
  BitVec.ofNat 384 (((shaBlocks (p.length / 128) shaInit p).take 6).foldl (fun a x => 2 ^ 64 * a + x.toNat) 0)

/-! ## The curve -/

/-- The field, the coefficients, the order and the base point of brainpoolP384r1. -/
def curveP : Nat :=
  0x8CB91E82A3386D280F5D6F7E50E641DF152F7109ED5456B412B1DA197FB71123ACD3A729901D1A71874700133107EC53
def curveA : Nat :=
  0x7BC382C63D8C150C3C72080ACE05AFA0C2BEA28E4FB22787139165EFBA91F90F8AA5814A503AD4EB04A8C7DD22CE2826
def curveB : Nat :=
  0x4A8C7DD22CE28268B39B55416F0447C2FB77DE107DCD2A62E880EA53EEB62D57CB4390295DBC9943AB78696FA504C11
def curveN : Nat :=
  0x8CB91E82A3386D280F5D6F7E50E641DF152F7109ED5456B31F166E6CAC0425A7CF3AB6AF6B7FC3103B883202E9046565
def curveGx : Nat :=
  0x1D1C64F068CF45FFA2A63A81B7C13F6B8847A3E77EF14FE3DB7FCAFE0CBD10E8E826E03436D646AAEF87B2E247D4AF1E
def curveGy : Nat :=
  0x8ABE1D7520F9C2A45CB1EB8E95CFD55262B70B29FEEC5864E19C054FF99129280E4646217791811142820341263C5315

/-- A point in Jacobian coordinates, standing for (x / z², y / z³); z = 0 is the point at infinity. -/
structure JPoint where
  x : Nat
  y : Nat
  z : Nat
  deriving DecidableEq, Repr, Inhabited

/-- The point at infinity. -/
def JPoint.zero : JPoint := { x := 1, y := 1, z := 0 }

/-- a - b modulo the field. -/
def subP (a b : Nat) : Nat := (a + (curveP - b % curveP)) % curveP

/-- Twice a point. -/
def JPoint.double (q : JPoint) : JPoint :=
  if q.z = 0 ∨ q.y = 0 then JPoint.zero
  else
    let yy := q.y * q.y % curveP
    let zz := q.z * q.z % curveP
    let s := 4 * q.x * yy % curveP
    let m := (3 * q.x * q.x + curveA * (zz * zz % curveP)) % curveP
    let x := subP (m * m) (2 * s)
    { x := x, y := subP (m * subP s x) (8 * (yy * yy % curveP)), z := 2 * q.y * q.z % curveP }

/-- The sum of two points. -/
def JPoint.add (q r : JPoint) : JPoint :=
  if q.z = 0 then r
  else if r.z = 0 then q
  else
    let z1 := q.z * q.z % curveP
    let z2 := r.z * r.z % curveP
    let u := q.x * z2 % curveP
    let v := q.y * (z2 * r.z % curveP) % curveP
    let h := subP (r.x * z1) u
    let k := subP (r.y * (z1 * q.z % curveP)) v
    if h = 0 then (if k = 0 then q.double else JPoint.zero)
    else
      let hh := h * h % curveP
      let hhh := hh * h % curveP
      let w := u * hh % curveP
      let x := subP (k * k) (hhh + 2 * w)
      { x := x, y := subP (k * subP w x) (v * hhh), z := h * (q.z * r.z % curveP) % curveP }

/-- k times a point, for k below 2 ^ fuel. -/
def JPoint.mul : Nat → Nat → JPoint → JPoint
  | 0, _, _ => JPoint.zero
  | fuel + 1, k, q =>
    if k = 0 then JPoint.zero
    else
      let r := (JPoint.mul fuel (k / 2) q).double
      if k % 2 = 1 then r.add q else r

/-- b to the power e modulo m, for e below 2 ^ fuel. -/
def powMod (m : Nat) : Nat → Nat → Nat → Nat
  | 0, _, _ => 1
  | fuel + 1, b, e =>
    if e = 0 then 1
    else
      let r := powMod m fuel b (e / 2)
      if e % 2 = 1 then r * r % m * b % m else r * r % m

/-- The inverse modulo a prime. -/
def invMod (m a : Nat) : Nat := powMod m 384 (a % m) (m - 2)

/-- The coordinates of a point that is not at infinity. -/
def JPoint.affineX (q : JPoint) : Nat := q.x * invMod curveP (q.z * q.z % curveP) % curveP
def JPoint.affineY (q : JPoint) : Nat := q.y * invMod curveP (q.z * q.z % curveP * q.z % curveP) % curveP

/-- The base point, and k times it. -/
def baseMul (k : Nat) : JPoint := JPoint.mul 384 k { x := curveGx, y := curveGy, z := 1 }

/-- Whether (x, y) is a point of the curve. -/
def onCurve (x y : Nat) : Bool :=
  decide (x < curveP) && decide (y < curveP) && decide (y * y % curveP = (x * x * x + curveA * x + curveB) % curveP)

/-! ## ECDSA -/

/-- A number of octets, the first of them most significant. -/
def octetsNum (l : List (BitVec 8)) : Nat := l.foldl (fun a o => 256 * a + o.toNat) 0

/-- Whether r and s, 48 octets each, are a signature over a digest by the key 0x04, X, Y, a point of the curve (Table 12.2, Table
12.10, R589, R591). -/
@[irreducible] def ecdsaVerify (pubkey : List (BitVec 8)) (digest : BitVec 384) (sig : List (BitVec 8)) : Bool :=
  let qx := octetsNum ((pubkey.drop 1).take 48)
  let qy := octetsNum ((pubkey.drop 49).take 48)
  let r := octetsNum (sig.take 48)
  let s := octetsNum ((sig.drop 48).take 48)
  if pubkey.head? = some 4 ∧ onCurve qx qy = true ∧ 1 ≤ r ∧ r < curveN ∧ 1 ≤ s ∧ s < curveN then
    let w := invMod curveN s
    let t := (baseMul (digest.toNat * w % curveN)).add (JPoint.mul 384 (r * w % curveN) { x := qx, y := qy, z := 1 })
    decide (t.z ≠ 0) && decide (t.affineX % curveN = r)
  else false

/-- A number as 48 octets. -/
def num48 (v : Nat) : List (BitVec 8) := (List.range 48).map (fun i => BitVec.ofNat 8 (v / 256 ^ (47 - i)))

/-- The signature by a private key over a digest with the secret number k. -/
@[irreducible] def ecdsaSign (d : Nat) (digest : BitVec 384) (k : Nat) : List (BitVec 8) :=
  let r := (baseMul k).affineX % curveN
  num48 r ++ num48 (invMod curveN k * (digest.toNat + r * d) % curveN)

/-- The public key of a private key: 0x04, X, Y. -/
@[irreducible] def publicKey (d : Nat) : List (BitVec 8) := [4] ++ num48 (baseMul d).affineX ++ num48 (baseMul d).affineY

end Sys2Proof.Machine
end

