-- ==== Sys2Proof/Machine/CarrOps.lean ====
section
/-! DEFINITION. Carr after boot (R602 to R611): commands, signed requests, the attestation report, the debug token, lifecycle
transitions. A command does its work when it is written; CARR_COMMAND_DONE reports it (notes/assumptions/34.md). -/

namespace Sys2Proof.Machine

/-! ## Numbers of states -/

/-- The number of a lifecycle state (Table 12.13). -/
def Lifecycle.num (l : Lifecycle) : Nat :=
  match l with
  | .blank => 0
  | .provisioned => 1
  | .field => 2
  | .service => 3
  | .retired => 4

/-- The number of a safety run state (Table 13.12). -/
def Safety.num (x : Safety) : Nat :=
  match x with
  | .boot => 0
  | .proof => 1
  | .run => 2
  | .degraded => 3
  | .mire => 4

/-- The number of a part: its bit of PARTS (Table 12.2). -/
def Part.num (p : Part) : Nat :=
  match p with
  | .tfw2 => 0
  | .tfw4 => 1
  | .tfw8 => 2
  | .tfw8x => 3

/-! ## Fuses (R584, R585) -/

/-- Slot k is revoked. -/
def Fuses.revoked (f : Fuses) (k : Nat) : Bool := decide (2 ≤ kget (fun _ => 0) f.rvk k)

/-- Slot k is valid (R585). -/
def Fuses.valid (f : Fuses) (k : Nat) : Bool := decide (k < 4) && decide (f.hash k ≠ 0) && !f.revoked k

/-- The valid slots, slot k at bit k. -/
def Fuses.validMask (f : Fuses) : Nat := (List.range 4).foldl (fun n k => if f.valid k then n + 2 ^ k else n) 0

/-- The valid slot whose ROOTHASH is a hash. -/
def Fuses.slotOf (f : Fuses) (h : BitVec 384) : Option Nat := (List.range 4).find? (fun k => f.valid k && f.hash k == h)

/-- The wrapped identity key; zero when IDZERO is set (Table 12.1). -/
def Fuses.identity (f : Fuses) : BitVec 416 := if 2 ≤ f.idzero then 0 else f.idkey

/-! ## Buffers (R604, R661) -/

/-- A computation of a command: it answers, or ends with a result of Table 12.14. -/
abbrev K := EStateM Nat State

/-- A word of DBGBUF; a word beyond it reads 0 (R15). -/
def dbgBufWord (s : State) (a : Nat) : Word :=
  if a < regAddr frzPg 140 then rget s frzPg (a % 512) else 0

/-- An address within DBGBUF. -/
def inDbgBuf (a : Nat) : Bool := decide (regAddr frzPg 64 ≤ a) && decide (a < regAddr frzPg 140)

/-- The words of a command's buffer: DBGBUF for the debug master, else memory. -/
def carrWords (dbg : Bool) (a n : Nat) : K (List Word) := do
  let s ← get
  if dbg then
    if inDbgBuf a then return (List.range n).map (fun k => dbgBufWord s (a + k)) else throw 4
  else
    match physWords s 0 ((List.range n).map (fun k => a + k)) with
    | (some ws, s1) => do
      set s1
      return ws.map (fun w => w.1)
    | (none, s1) => do
      set s1
      throw 4

/-- The octets of a command's buffer; a corrupt octet captures cause 4 and counts as a malformed request (R9;
notes/assumptions/35.md). -/
def carrRead (dbg : Bool) (a n : Nat) : K (List (BitVec 8)) := do
  let ws ← carrWords dbg a (wordsFor n)
  (ws.zipIdx).foldlM (fun l w =>
    match unpackWord w.1 (min 4 (n - 4 * w.2)) with
    | some o => return l ++ o
    | none => do
      modify (fun s => capture s (carrPg 0) 4 (a + w.2))
      throw 6) []

/-- A word written to a command's buffer; one beyond DBGBUF has no effect (R16). -/
def carrPutWord (dbg : Bool) (a : Nat) (w : Word) : K Unit := do
  let s ← get
  if dbg then
    if inDbgBuf a then set (rset s frzPg (a % 512) w) else return ()
  else if memReach s a = .ok then set (putFor s (.die 0) a w false)
  else do
    set (memMiss s 0 a)
    throw 4

/-- Octets written to a command's buffer, packed. -/
def carrWrite (dbg : Bool) (a : Nat) (l : List (BitVec 8)) : K Unit := do
  if dbg && !inDbgBuf a then throw 4
  ((packWords l).zipIdx).forM (fun w => carrPutWord dbg (a + w.2) w.1)

/-! ## The random source (R583) -/

/-- The random source of a die's Carr fails its test: VSTAT and LCSTAT show the die, and a package in Boot is held there. -/
def rngFailed (s : State) (d : BitVec 3) : State :=
  { s with boot := { s.boot with rngFail := some d, phase := if s.safety = .boot then .holding else s.boot.phase } }

/-- The test before a use of the random source. A command whose test fails draws nothing; the spec states no RESULT for it, so that
it is a free value (R583, notes/assumptions/36.md). -/
def randomUse (rng : Bool) : K Unit := do
  if rng then return ()
  let s ← get
  set (rngFailed { s with fresh := s.fresh + 1 } 0)
  throw (Config.freeValue 5 s.fresh).toNat

/-! ## Attestation (R608, Table 12.11) -/

/-- The measurement of an image; 0 where there is none. -/
def measure (i : Option Image) : BitVec 384 := match i with | some x => x.digest | none => 0

/-- A number of an image, 0 where there is none. -/
def ofImage (i : Option Image) (f : Image → Nat) : Nat := match i with | some x => f x | none => 0

/-- FEAT_OFFER of every populated page, 5 octets each, in ascending page address order. -/
def offerOctets (s : State) : List (BitVec 8) :=
  (List.range (9 * 2048)).flatMap (fun pg =>
    match unitOf s.part pg with
    | some _ => numOct (offer s pg).toNat 5
    | none => [])

/-- Octets 0x000 to 0x0FF of the report. -/
def reportBody (s : State) (nonce : List (BitVec 8)) : List (BitVec 8) :=
  let c := s.boot.carr
  let p := s.boot.app
  let tok := match s.carr.token with | some t => t.state | none => 0
  numOct 0x54465752 4 ++ numOct 1 2 ++ numOct 0x160 2 ++ numOct s.fusesRead.serno.toNat 8 ++ nonce ++ numOct s.tt 9 ++
  numOct 0 3 ++ numOct s.lcs.num 1 ++ numOct tok 1 ++ numOct s.safety.num 1 ++ numOct s.boot.outcome 1 ++ numOct 9 1 ++
  numOct s.part.num 1 ++ numOct (ofImage c (fun i => bnat i.src)) 1 ++ numOct (ofImage p (fun i => bnat i.src)) 1 ++
  numOct (ofImage c (fun i => i.iver)) 4 ++ numOct (ofImage c (fun i => i.svn)) 4 ++
  numOct (ofImage p (fun i => i.iver)) 4 ++ numOct (ofImage p (fun i => i.svn)) 4 ++
  numOct (ofImage c (fun i => i.slot)) 1 ++ numOct (ofImage p (fun i => i.slot)) 1 ++
  numOct s.fusesRead.validMask 1 ++ numOct 0 1 ++ numOct (measure c).toNat 48 ++ numOct (measure p).toNat 48 ++
  numOct (sha384 (offerOctets s)).toNat 48 ++ numOct 0 8

/-- The identity private key, a number from 1 to the curve's order less 1 (Table 12.1; notes/assumptions/9.md). -/
def privateKey (s : State) : Nat := 1 + Config.unwrapKey s.fusesRead.identity % (curveN - 1)

/-- The secret number of a signature, from Carr's random source (R583; notes/assumptions/4.md). -/
def secretNumber (s : State) : Nat := 1 + (Config.freeValue 384 s.fresh).toNat % (curveN - 1)

/-- The signed report. -/
def report (s : State) (nonce : List (BitVec 8)) : List (BitVec 8) :=
  let b := reportBody s nonce
  b ++ ecdsaSign (privateKey s) (sha384 b) (secretNumber s)

/-- ATTEST. -/
def cmdAttest (dbg rng : Bool) (a : Nat) : K Unit := do
  let n ← carrRead dbg a 48
  randomUse rng
  let s ← get
  set { s with fresh := s.fresh + 1 }
  carrWrite dbg a (report s n)

/-- IDKEY: the public key and 3 zero octets. -/
def cmdIdkey (dbg : Bool) (a : Nat) : K Unit := do
  let s ← get
  carrWrite dbg a (publicKey (privateKey s) ++ numOct 0 3)

/-- CHAL: a fresh nonce from Carr's random source (notes/assumptions/4.md); an earlier one is withdrawn. -/
def cmdChal (dbg rng : Bool) (a : Nat) : K Unit := do
  randomUse rng
  let s ← get
  let v := Config.freeValue 384 s.fresh
  set { s with fresh := s.fresh + 1 }
  carrWrite dbg a (numOct v.toNat 48)
  modify (fun s => { s with carr := { s.carr with nonce := some (v, s.ticks) } })

/-! ## Signed requests (R606, Table 12.10) -/

/-- The octets of a signed request from an offset. -/
def reqOcts (r : List (BitVec 8)) (at_ n : Nat) : List (BitVec 8) := (r.drop at_).take n

/-- Every octet of a range is 0. -/
def reqZero (r : List (BitVec 8)) (at_ n : Nat) : Bool := (reqOcts r at_ n).all (fun o => o == 0)

/-- ARG. -/
def reqArg (r : List (BitVec 8)) : Nat := octNum r 5 1

/-- Result 5: the outstanding nonce, issued less than 60 s earlier; a request that carries it withdraws it. -/
def checkNonce (r : List (BitVec 8)) : K Unit := do
  let s ← get
  match s.carr.nonce with
  | none => throw 5
  | some (v, t) =>
    if octNum r 0x10 48 = v.toNat then
      set { s with carr := { s.carr with nonce := none } }
      if s.ticks < t + 60000000 * ticksPerUs then return () else throw 5
    else throw 5

/-- Result 6: MAGIC, OP, serial number, reserved octets, and the values Table 12.10 allows. -/
def reqFormed (s : State) (op : Nat) (r : List (BitVec 8)) : Bool :=
  decide (octNum r 0 4 = 0x54465751) && decide (octNum r 4 1 = op) && decide (octNum r 8 8 = s.fusesRead.serno.toNat) &&
  reqZero r 6 2 && reqZero r 0x41 1 && reqZero r 0x58 8 && reqZero r 0xC1 15 && (decide (op = 4) || reqZero r 0x40 24) &&
  (decide (op ≠ 4) || (decide (1 ≤ reqArg r ∧ reqArg r ≤ 3) && decide (1 ≤ octNum r 0x54 4 ∧ octNum r 0x54 4 ≤ 86400))) &&
  (decide (op ≠ 7) || decide (reqArg r ≤ 3))

/-- Result 7: the signer's slot may sign this request. -/
def reqSlotOk (f : Fuses) (op : Nat) (r : List (BitVec 8)) : Bool :=
  match f.slotOf (sha384 (reqOcts r 0x60 97)) with
  | none => false
  | some k => (decide (op ≠ 4) || f.dbgslot.getLsbD k) && (decide (op ≠ 7) || decide (k ≠ reqArg r))

/-- The checks of a signed request in the order of their results (R606). -/
def checkRequest (op : Nat) (r : List (BitVec 8)) : K Unit := do
  checkNonce r
  let s ← get
  if !reqFormed s op r then throw 6
  if !reqSlotOk s.fusesRead op r then throw 7
  if !ecdsaVerify (reqOcts r 0x60 97) (sha384 (r.take 0xD0)) (reqOcts r 0xD0 96) then throw 8

/-- The highest debug state of a token (Table 12.12). -/
def tokenLimit (l : Lifecycle) : Nat :=
  match l with
  | .blank => 3
  | .provisioned => 3
  | .field => 2
  | .service => 3
  | .retired => 0

/-- The token that a DBGRESP asks for (R609, Table 12.10). -/
def tokenOf (s : State) (r : List (BitVec 8)) : Token :=
  { state := min (reqArg r) (tokenLimit s.lcs), dieMask := BitVec.ofNat 8 (octNum r 0x40 1),
    tgMask := BitVec.ofNat 16 (octNum r 0x42 2),
    ranges := ((List.range 4).map (fun i => (octNum r (0x44 + 4 * i) 2, octNum r (0x46 + 4 * i) 2))).filter (fun p => decide (p.1 ≤ p.2)),
    expires := s.ticks + octNum r 0x54 4 * 1000000 * ticksPerUs }

/-- A token is put in force; one of Halt or Full moves Run or Degraded to Proof in this step (R609, R658). In Mire a token ends at
once (R611), so that no debug state but Closed occurs there outside Blank (R21, Table 14.7, notes/assumptions/36.md). -/
def grantToken (s : State) (t : Token) : State :=
  if s.safety = .mire ∧ s.lcs ≠ .blank then s else
  let s1 := { s with carr := { s.carr with token := some t } }
  if 2 ≤ t.state ∧ (s.safety = .run ∨ s.safety = .degraded) then toProof s1 else s1

/-- Whether CTL.FEAT_ACCEPT of the CARR page accepts a feature (Table 12.5, R605). -/
def carrAccepts (b : Nat) : K Unit := do
  let s ← get
  if bit (rget s (carrPg 0) 3) b then return () else throw 11

/-- DBGRESP (R609, R658). -/
def cmdDbgresp (dbg : Bool) (a : Nat) : K Unit := do
  let r ← carrRead dbg a 304
  checkRequest 4 r
  carrAccepts 2
  modify (fun s => grantToken s (tokenOf s r))

/-! ## Lifecycle (R603, Table 12.8) -/

/-- Writes the fuses; Carr reads them at the next boot (R584, R586). -/
def setFuses (s : State) (f : Fuses → Fuses) : State := { s with fuses := f s.fuses }

/-- The state that takes effect at the next boot (LCSTAT.PEND). -/
def setPend (s : State) (l : Lifecycle) : State := { s with boot := { s.boot with pend := l.num } }

/-- A transition (Table 12.8); none where the table lists it not. -/
def lcTransition (s : State) (target : Nat) : Option State :=
  let open_ := decide (s.lcs = .provisioned ∨ s.lcs = .field)
  if target = 2 ∧ s.lcs = .provisioned then some (setPend (setFuses s (fun f => { f with fieldF := 3 })) .field)
  else if target = 3 ∧ open_ = true then some (setPend { s with heldSvc := true } .service)
  else if target = 4 ∧ (open_ = true ∨ s.lcs = .service) then
    some (mireEnter { setFuses s (fun f => { f with retired := 3, idzero := 3 }) with lcs := .retired } 6 0 0)
  else none

/-- LCTRANS (R603). -/
def cmdLctrans (dbg : Bool) (a : Nat) : K Unit := do
  let r ← carrRead dbg a 304
  checkRequest 6 r
  let s ← get
  match lcTransition s (reqArg r) with
  | none => throw 10
  | some s1 => do
    carrAccepts 3
    set s1

/-- REVOKE (R607): a revocation that would leave no valid slot is refused. -/
def cmdRevoke (dbg : Bool) (a : Nat) : K Unit := do
  let r ← carrRead dbg a 304
  checkRequest 7 r
  let s ← get
  let f := { s.fuses with rvk := kset (fun _ => 0) s.fuses.rvk (reqArg r) 3 }
  if f.validMask = 0 then throw 9
  carrAccepts 4
  set (setFuses s (fun _ => f))

/-- SVNADV (R605): the minima rise to the running images' numbers. -/
def cmdSvnadv : K Unit := do
  carrAccepts 5
  modify (fun s => setFuses s (fun f => { f with
    minsvnC := max f.minsvnC (min 64 (ofImage s.boot.carr (fun i => i.svn)))
    minsvnA := max f.minsvnA (min 64 (ofImage s.boot.app (fun i => i.svn))) }))

/-- PROVISION (R603, Table 12.8): the four ROOTHASH values and DBGSLOT in that order, packed
(notes/assumptions/36.md); at least one hash is programmed. The identity key comes from Carr's random source. -/
def cmdProvision (dbg rng : Bool) (a : Nat) : K Unit := do
  let r ← carrRead dbg a 193
  let hs := (List.range 4).map (fun k => BitVec.ofNat 384 (octNum r (48 * k) 48))
  if hs.all (fun h => h == 0) then throw 6
  randomUse rng
  modify (fun s =>
    let f := { s.fuses with
      roothash := hs.zipIdx.foldl (fun m h => kset (fun _ => 0) m h.2 h.1) []
      dbgslot := BitVec.ofNat 4 (octNum r 192 1), prov := 3, idkey := Config.freeValue 416 s.fresh }
    { s with fuses := f, fusesRead := f, fresh := s.fresh + 1, lcs := .provisioned })

/-! ## Commands (R604, R605, R612) -/

/-- The lifecycle states of a command (Table 12.9). -/
def carrLcOk (op : Nat) (l : Lifecycle) : Bool :=
  if op = 4 then l != .retired
  else if op = 5 then true
  else if op = 9 then l == .blank
  else if op = 8 then l == .provisioned || l == .field
  else l == .provisioned || l == .field || l == .service

/-- The requesters of a command (R604, R612): PROVISION only from the test access port, whose accesses carry CLASS 2
(notes/assumptions/36.md). -/
def carrFrom (die op : Nat) (st : Stamp) : Bool :=
  decide (die = 0) && decide (st.cls ≠ 3) && !(decide (st.cls = 0) && decide (st.priv ≠ 0)) &&
  (if st.cls = 2 then decide (op ≤ 5) || decide (op = 9) else decide (op ≠ 9))

/-- A command: the checks of die, lifecycle and requester, then its work. -/
def carrBody (die : Nat) (st : Stamp) (op a : Nat) (rng : Bool) : K Unit := do
  let s ← get
  let dbg := decide (st.cls = 2)
  if die ≠ 0 then throw 3
  if !carrLcOk op s.lcs then throw 2
  if !carrFrom die op st then throw 3
  if op = 1 then do
    carrAccepts 1
    cmdAttest dbg rng a
  else if op = 2 then do
    carrAccepts 1
    cmdIdkey dbg a
  else if op = 3 then do
    carrAccepts 2
    cmdChal dbg rng a
  else if op = 4 then cmdDbgresp dbg a
  else if op = 5 then do
    carrAccepts 2
    modify endToken
  else if op = 6 then cmdLctrans dbg a
  else if op = 7 then cmdRevoke dbg a
  else if op = 8 then cmdSvnadv
  else cmdProvision dbg rng a

/-- A command that began at `was` has done its work; CMDRES will show its result. Results 4 to 10 are captured. -/
def carrEnded (was s : State) (op r : Nat) : State :=
  let s1 := { s with carr := { s.carr with busy := some { op := op, result := r, fusesWere := was.fuses, svcWas := was.heldSvc } } }
  if 4 ≤ r ∧ r ≤ 10 then capture s1 (carrPg 0) 9 r else s1

/-- Carr takes commands: after boot, or while a Blank part waits for PROVISION (R593, Table 12.8). -/
def carrAnswers (s : State) : Bool := s.safety != .boot || s.lcs == .blank

/-- A write to CMD of a die's CARR page (R604); an OP of no command has no effect (notes/assumptions/17.md). The error registers are
those of die 0 (R612). -/
def carrCmd (s : State) (die : Nat) (st : Stamp) (op a : Nat) (rng : Bool) : State :=
  if !carrAnswers s then s
  else if s.carr.busy.isSome then capture s (carrPg 0) 8 (regAddr (carrPg die) 24)
  else if op = 0 ∨ 9 < op then s
  else
    match (carrBody die st op a rng) s with
    | .ok _ s1 => carrEnded s s1 op 0
    | .error r s1 => carrEnded s s1 op r

/-- A store to CMD: whether the random source passes the test that a command makes is a free value (R583,
notes/assumptions/36.md). -/
def carrStore (s : State) (die : Nat) (st : Stamp) (op a : Nat) : State :=
  if op = 1 ∨ op = 3 ∨ op = 9 then
    carrCmd { s with fresh := s.fresh + 1 } die st op a ((Config.freeValue 1 s.fresh).getLsbD 0)
  else carrCmd s die st op a true

/-- ATTEST (R605, R608). -/
def execAttest (st : Stamp) (start : CarrStart) (s : State) : Host.Outcome State Fault Refusal :=
  done (unitDo s (carrPg 0) (fun s => carrCmd s 0 st 1 start.addr.toNat start.rng))

/-- IDKEY (R605). -/
def execIdkey (st : Stamp) (addr : BitVec 30) (s : State) : Host.Outcome State Fault Refusal :=
  done (unitDo s (carrPg 0) (fun s => carrCmd s 0 st 2 addr.toNat true))

/-- CHAL (R605). -/
def execChal (st : Stamp) (start : CarrStart) (s : State) : Host.Outcome State Fault Refusal :=
  done (unitDo s (carrPg 0) (fun s => carrCmd s 0 st 3 start.addr.toNat start.rng))

/-- DBGRESP (R606, R609, R658). -/
def execDbgresp (st : Stamp) (addr : BitVec 30) (s : State) : Host.Outcome State Fault Refusal :=
  done (unitDo s (carrPg 0) (fun s => carrCmd s 0 st 4 addr.toNat true))

/-- DBGEND (R611, R669). -/
def execDbgend (st : Stamp) (addr : BitVec 30) (s : State) : Host.Outcome State Fault Refusal :=
  done (unitDo s (carrPg 0) (fun s => carrCmd s 0 st 5 addr.toNat true))

/-- LCTRANS (R603, R606). -/
def execLctrans (st : Stamp) (addr : BitVec 30) (s : State) : Host.Outcome State Fault Refusal :=
  done (unitDo s (carrPg 0) (fun s => carrCmd s 0 st 6 addr.toNat true))

/-- REVOKE (R606, R607). -/
def execRevoke (st : Stamp) (addr : BitVec 30) (s : State) : Host.Outcome State Fault Refusal :=
  done (unitDo s (carrPg 0) (fun s => carrCmd s 0 st 7 addr.toNat true))

/-- SVNADV (R605). -/
def execSvnadv (st : Stamp) (addr : BitVec 30) (s : State) : Host.Outcome State Fault Refusal :=
  done (unitDo s (carrPg 0) (fun s => carrCmd s 0 st 8 addr.toNat true))

/-- PROVISION (R603, R605). -/
def execProvision (st : Stamp) (start : CarrStart) (s : State) : Host.Outcome State Fault Refusal :=
  done (unitDo s (carrPg 0) (fun s => carrCmd s 0 st 9 start.addr.toNat start.rng))

/-- CARR_COMMAND_DONE (R604): CMDRES and DONE are set. -/
def execCarrCommandDone (s : State) : Host.Outcome State Fault Refusal :=
  done (unitDo s (carrPg 0) (fun s =>
    match s.carr.busy with
    | none => s
    | some j =>
      irqPend (rset { s with carr := { s.carr with busy := none } } (carrPg 0) 25 (fval 35 32 j.op ||| fval 31 27 j.result))
        (carrPg 0) 1))

/-- TOKEN_EXPIRY (R611): Carr's counter has counted DURATION. -/
def execTokenExpiry (s : State) : Host.Outcome State Fault Refusal :=
  done (match clocked s, s.carr.token with
    | true, some t => if t.expires ≤ s.ticks then endToken s else s
    | _, _ => s)

end Sys2Proof.Machine
end

