-- ==== Sys2Proof/Machine/FlashOps.lean ====
section
/-! DEFINITION. The flash ports (R566 to R572): enable, COPY, PROGRAM, ERASE and their ends. What the flash itself holds
lies outside the package. -/

namespace Sys2Proof.Machine

/-- The page of a flash port. -/
def flashPg (i : Nat) : Nat := pkgPg (24 + i)

/-- The DMA of a flash port. -/
def flashPort (i : Nat) : Port := { pg := flashPg i, die := 0 }

/-- A flash port. -/
def flash (s : State) (i : Nat) : Flash := kget (fun _ => Flash.init) s.flashes i

/-- Writes a flash port. -/
def setFlash (s : State) (i : Nat) (f : Flash) : State := { s with flashes := kset (fun _ => Flash.init) s.flashes i f }

/-- The case of R567 that refuses an enable: 1 no signature, 2 a short table, 3 a mode the tables do not support. -/
def sfdpWhy (s : State) (i : Nat) (t : SfdpFacts) : Nat :=
  if t.signature = false then 1
  else if t.dwords < 16 then 2
  else if t.modes.getLsbD (rfld s (flashPg i) 4 3 2) = false then 3
  else 0

/-- What the tables say decides the enable (R566, R567). -/
def flashJudge (s : State) (i : Nat) (t : SfdpFacts) : State :=
  let pg := flashPg i
  match sfdpWhy s i t with
  | 0 => setFlash s i { flash s i with sfdp := some t }
  | w =>
    let s1 := rset (setFlash s i { flash s i with sfdp := none }) pg 4 (setBit (rget s pg 4) 0 false)
    capture (rset s1 pg 5 (setBit (rget s1 pg 5) 2 true)) pg 9 w

/-- FLASH_ENABLE (R76, R566, R567): CTL.EN is written 1, and the port reads the tables. -/
def execFlashEnable (port : Bool) (t : SfdpFacts) (s : State) : Host.Outcome State Fault Refusal :=
  let i := bnat port
  let pg := flashPg i
  done (unitDo s pg (fun s => unlessLocked s pg 4 (fun s =>
    let s1 := if enabled s pg then s else enable s pg none
    if enabled s1 pg then flashJudge s1 i t else s1)))

/-- The size of an erase type in octets; 0 where it is absent (Table 11.13). -/
def eraseSize (t : SfdpFacts) (e : Nat) : Nat :=
  let k := t.eraseLog2.toNat / 2 ^ (5 * e) % 32
  if k = 0 then 0 else 2 ^ k

/-- A command ends: FLRES, then DONE (R570). -/
def flashEnd (s : State) (i result : Nat) : State := irqPend (rset s (flashPg i) 23 (fval 35 31 result)) (flashPg i) 1

/-- Why a command is refused (R568, R570, R571, Table 11.13): 1 busy or held, 2 beyond the density, 3 unsupported, as in a mode that the
tables do not name, 6 a misaligned erase; 0 for none. -/
def flashWhy (s : State) (i op e : Nat) : Nat :=
  let f := flash s i
  let a := rfld s (flashPg i) 20 31 0
  let n := rfld s (flashPg i) 22 23 0
  if f.busy.isSome ∨ f.carr = true then 1
  else
    match f.sfdp with
    | none => 3
    | some t =>
      let writes := bit (rget s (flashPg i) 4) 6 && t.program.isSome
      if t.modes.getLsbD (rfld s (flashPg i) 4 3 2) = false then 3
      else if op = 1 then (if t.density.toNat < a + n then 2 else 0)
      else if op = 2 then (if writes = false then 3 else if t.density.toNat < a + n then 2 else 0)
      else if writes = false ∨ eraseSize t e = 0 then 3
      else if a % eraseSize t e ≠ 0 then 6
      else if t.density.toNat < a + eraseSize t e then 2
      else 0

/-- FLCMD starts one command (R570): 1 COPY, 2 PROGRAM, 3 ERASE; a port that Carr holds refuses, enabled or not (R571). -/
def flcmd (s : State) (i op e : Nat) : State :=
  if (enabled s (flashPg i) = false ∧ (flash s i).carr = false) ∨ op = 0 ∨ 3 < op then s
  else
    match flashWhy s i op e with
    | 0 =>
      let j : FlashJob :=
        { op := op, addr := rfld s (flashPg i) 20 31 0, mem := rfld s (flashPg i) 21 29 0, len := rfld s (flashPg i) 22 23 0, etype := e }
      setFlash (rset s (flashPg i) 23 (fval 35 31 31)) i { flash s i with busy := some j, sent := [] }
    | w => flashEnd s i w

/-- COPY (R570). -/
def execCopy (port : Bool) (s : State) : Host.Outcome State Fault Refusal :=
  done (unitDo s (flashPg (bnat port)) (fun s => flcmd s (bnat port) 1 0))

/-- PROGRAM (R570, R571). -/
def execProgram (port : Bool) (s : State) : Host.Outcome State Fault Refusal :=
  done (unitDo s (flashPg (bnat port)) (fun s => flcmd s (bnat port) 2 0))

/-- ERASE (R570, R571). -/
def execErase (port : Bool) (etype : BitVec 2) (s : State) : Host.Outcome State Fault Refusal :=
  done (unitDo s (flashPg (bnat port)) (fun s => flcmd s (bnat port) 3 etype.toNat))

/-- The result of a DMA error (Table 11.13); of a refusal the spec states none (notes/assumptions/4.md). -/
def flashDmaResult (s : State) (e : DmaErr) : Nat × State :=
  match e with
  | .window => (4, s)
  | .parity => (5, s)
  | .bus => ((Config.freeValue 5 s.fresh).toNat, { s with fresh := s.fresh + 1 })

/-- The fast read instruction of the mode in force: the tables of R566 name those of 1-4-4 and 4-4-4. -/
def readCode (s : State) (i : Nat) (t : SfdpFacts) : Option (BitVec 8) :=
  match rfld s (flashPg i) 4 3 2 with
  | 1 => some t.read144
  | 2 => some t.read444
  | _ => none

/-- Octets to program, page by page (R570): none crosses a page of the flash. -/
def pageSends (code : Option (BitVec 8)) (size a fuel : Nat) (l : List (BitVec 8)) : List FlashSend :=
  match fuel with
  | 0 => []
  | f + 1 =>
    if l.isEmpty then []
    else
      let n := max 1 (size - a % size)
      { code := code, addr := a, octets := l.take n } :: pageSends code size (a + n) f (l.drop n)

/-- What a port has issued to its flash. -/
def flashSends (s : State) (i : Nat) (l : List FlashSend) : State := setFlash s i { flash s i with sent := l }

/-- A command in progress ends (R568, R570): COPY writes the octets that the flash gave, PROGRAM sends those that it takes, ERASE
its address. -/
def flashMove (i : Nat) (j : FlashJob) (octets : List (BitVec 8)) : P Unit := do
  let s ← get
  match (flash s i).sfdp with
  | none => return ()
  | some t =>
    if j.op = 1 then do
      modify (fun s => flashSends s i [{ code := readCode s i t, addr := j.addr, octets := [] }])
      portPutOctets (flashPort i) j.mem ((octets ++ List.replicate j.len 0).take j.len)
    else if j.op = 2 then do
      let l ← portOctets (flashPort i) j.mem j.len
      modify (fun s => flashSends s i (pageSends t.program (2 ^ t.pageLog2.toNat) j.addr l.length l))
    else
      modify (fun s => flashSends s i [{ code := some (t.eraseCode >>> (8 * j.etype) |>.setWidth 8), addr := j.addr, octets := [] }])

/-- FLASH_COMMAND_DONE (R550, R552, R570): the command in progress ends. `octets` is what a COPY read from the flash. -/
def execFlashCommandDone (port : Bool) (octets : List (BitVec 8)) (s : State) : Host.Outcome State Fault Refusal :=
  let i := bnat port
  done (unitDo s (flashPg i) (fun s =>
    match (flash s i).busy with
    | none => s
    | some j =>
      let s1 := setFlash s i { flash s i with busy := none }
      match (flashMove i j octets) s1 with
      | .ok _ s2 => flashEnd s2 i 0
      | .error e s2 => let r := flashDmaResult s2 e; flashEnd r.2 i r.1))

end Sys2Proof.Machine
end

