-- ==== Sys2Proof/Machine/BootOps.lean ====
section
/-! DEFINITION. Boot (R581 to R598): the choice and the checks of images, version agreement, and the handover to the first
application instruction. -/

namespace Sys2Proof

/-! ## What the flash port reads (R587, R588) -/

/-- The octets of a set from a flash address, at most n of them: those of the first run that holds the address, up to its end. -/
def FlashSet.read (f : FlashSet) (a n : Nat) : List (BitVec 8) :=
  match f.octets.find? (fun e => decide (e.1 ≤ a) && decide (a < e.1 + e.2.length)) with
  | some e => (e.2.drop (a - e.1)).take n
  | none => []

/-- The directory (R587). -/
def FlashSet.dir (f : FlashSet) : List (BitVec 8) := f.read 0 16

/-- Where the directory puts an image: CARR_OFF or APP_OFF. -/
def FlashSet.at_ (f : FlashSet) (app : Bool) : Nat := Machine.octNum f.dir (if app then 8 else 4) 4

/-- The header of an image. -/
def FlashSet.header (f : FlashSet) (app : Bool) : List (BitVec 8) := f.read (f.at_ app) 768

/-- The body of an image, at header + 0x300: as many of its BLEN octets as the port can read (R588). -/
def FlashSet.body (f : FlashSet) (app : Bool) : List (BitVec 8) := f.read (f.at_ app + 768) (Machine.octNum (f.header app) 0x28 4)

end Sys2Proof

namespace Sys2Proof.Machine

/-! ## The image header (Table 12.2) -/

/-- The reserved octets of a header, as (offset, length). -/
def reservedOctets : List (Nat × Nat) := [(0x15, 3), (0x26, 2), (0x36, 74), (0xE1, 31), (0x2E0, 32)]

/-- The octets of a Carr image's header that Table 12.2 gives as 0: QCMIN, QCMAX and POLICY; LOAD, ENTRY, COMP0 and BOOTCORE. -/
def carrZeroOctets : List (Nat × Nat) := [(0x1C, 9), (0x2C, 10)]

/-- Whether a directory names images (R587). -/
def dirOk (dir : List (BitVec 8)) : Bool :=
  decide (octNum dir 0 4 = 0x46594F4C) && decide (octNum dir 4 4 % 256 = 0) && decide (octNum dir 8 4 % 256 = 0) &&
  decide (octNum dir 12 4 = 0)

/-- Whether a header is well formed (code 2): HVER, KIND, reserved octets, the CFEAT bits of Table 12.5, SVN and NADM within their
ranges, and BLEN, LOAD and ENTRY, which a Carr image gives as 0 but for BLEN (R588, notes/assumptions/36.md). -/
def headerOk (s : State) (app : Bool) (h : List (BitVec 8)) : Bool :=
  let words := octNum h 0x28 4 / 9 * 2
  let load := octNum h 0x2C 4
  let top := s.part.dies * 1048576
  decide (octNum h 4 2 = 1) && decide (octNum h 6 1 = if app then 2 else 1) &&
  reservedOctets.all (fun p => reqZero h p.1 p.2) && decide (octNum h 0x18 4 < 64) &&
  decide (octNum h 0xC 4 ≤ 64) && decide (octNum h 0x25 1 ≤ 32) &&
  (if app then decide (octNum h 0x28 4 % 9 = 0) && decide (load % 2 = 0) && decide (load + words ≤ top) &&
    decide (octNum h 0x30 4 < top)
  else carrZeroOctets.all (fun p => reqZero h p.1 p.2))

/-- The minimum SVN of the fuses for a kind of image. -/
def minSvn (s : State) (app : Bool) : Nat := if app then s.fusesRead.minsvnA else s.fusesRead.minsvnC

/-- The octets that are hashed and signed (R589). -/
def signedOctets (h body : List (BitVec 8)) : List (BitVec 8) := h.take 0x280 ++ body.take (octNum h 0x28 4)

/-- The mode in which the primary enables a port: 4-4-4 or else 1-4-4 (R591). -/
def bootMode (t : SfdpFacts) : Nat := if t.modes.getLsbD 2 then 2 else 1

/-- Whether the primary's enable of a port succeeds (R567, R591). -/
def flashSetOn (f : FlashSet) : Bool := f.sfdp.signature && decide (16 ≤ f.sfdp.dwords) && f.sfdp.modes.getLsbD (bootMode f.sfdp)

/-- The checks of an image before its body is read (R591): a code of Table 12.4, or 0 to go on. A directory or header that the port
cannot read is a failed read. -/
def headCheck (s : State) (app : Bool) (f : FlashSet) : Nat :=
  let h := f.header app
  if flashSetOn f = false ∨ f.dir.length < 16 then 8
  else if dirOk f.dir = false then 1
  else if h.length < 768 then 8
  else if octNum h 0 4 ≠ (if app then 0x54465741 else 0x54465743) then 1
  else if headerOk s app h = false then 2
  else if octNum h 0x14 1 / 2 ^ s.part.num % 2 = 0 then 3
  else if octNum h 0x10 4 / 2 ^ 9 % 2 = 0 then 4
  else if s.fusesRead.valid (octNum h 7 1) = false ∨ s.fusesRead.hash (octNum h 7 1) ≠ sha384 (reqOcts h 0x80 97) then 5
  else if octNum h 0xC 4 < minSvn s app then 7
  else 0

/-- The words of a body that has been read are loaded as pairs, with tag 0 (R590). -/
def bootBody (s : State) (load : Nat) (body : List (BitVec 8)) : State :=
  (List.range (body.length / 9)).foldl (fun s k =>
    let v := octNum body (9 * k) 9
    memPut (memPut s (load + 2 * k) (BitVec.ofNat 36 (v / 2 ^ 36)) false) (load + 2 * k + 1) (BitVec.ofNat 36 v) false) s

/-- The check of one image (R591): its code, and the state with what was loaded. -/
def imageCheck (s : State) (app : Bool) (f : FlashSet) : Nat × State :=
  match headCheck s app f with
  | 0 =>
    let h := f.header app
    let b := f.body app
    let s1 := if app then bootBody s (octNum h 0x2C 4) b else s
    if b.length < octNum h 0x28 4 then (8, s1)
    else if ecdsaVerify (reqOcts h 0x80 97) (sha384 (signedOctets h b)) (reqOcts h 0x280 96) then (15, s1)
    else (6, s1)
  | c => (c, s)

/-- The masks of a header's admission entries, by TYPE (Table 12.3); 0o1 for a type that is absent (R595). -/
def masksOf (h : List (BitVec 8)) (at_ : Nat) : KMap Word :=
  (List.range (min 32 (octNum h 0x25 1))).foldl (fun m i =>
    kset (fun _ => 1) m (octNum h (0x100 + 12 * i) 2) (BitVec.ofNat 36 (octNum h (0x100 + 12 * i + at_) 5))) []

/-- What boot keeps of an accepted image. -/
def imageOf (src app : Bool) (f : FlashSet) : Image :=
  let h := f.header app
  { src := src, slot := octNum h 7 1, iver := octNum h 8 4, svn := octNum h 0xC 4, cfeat := octNum h 0x18 4,
    qcmin := octNum h 0x1C 4, qcmax := octNum h 0x20 4, policy := octNum h 0x24 1, entry := octNum h 0x30 4,
    comp0 := octNum h 0x34 1, bootcore := octNum h 0x35 1, full := masksOf h 2, baseline := masksOf h 7,
    head := h.take 0x280, load := octNum h 0x2C 4, blen := octNum h 0x28 4, digest := sha384 (signedOctets h (f.body app)) }

/-! ## The choice (R591, R592) -/

/-- The primary enables the flash port of a set at 104 MHz (R566, R567, R591); the port stays enabled. -/
def bootPort (s : State) (i : Nat) (f : FlashSet) : State :=
  let s1 := flashJudge (rset s (flashPg i) 4 (fval 5 4 2 ||| fval 3 2 (bootMode f.sfdp) ||| 1)) i f.sfdp
  if flashSetOn f then rset s1 (flashPg i) 5 (setBit (rget s1 (flashPg i) 5) 0 true) else s1

/-- A rejection code is recorded: 0 CREJ_A, 1 CREJ_B, 2 AREJ_A, 3 AREJ_B (Table 12.13). -/
def setRej (s : State) (k c : Nat) : State :=
  { s with boot := { s.boot with rej := kset (fun _ => 0) s.boot.rej k c } }

/-- The first accepted image of a kind, of set A and then of set B. -/
def chooseImage (s : State) (app : Bool) (a b : FlashSet) : Option Image × State :=
  let k := if app then 2 else 0
  let ra := imageCheck (bootPort s 0 a) app a
  let s1 := setRej ra.2 k ra.1
  if ra.1 = 15 then (some (imageOf false app a), s1)
  else
    let rb := imageCheck (bootPort s1 1 b) app b
    (if rb.1 = 15 then some (imageOf true app b) else none, setRej rb.2 (k + 1) rb.1)

/-- The OUTCOME of Table 12.6. POLICY values that the table does not list hold as 0 does. -/
def outcomeOf (c p : Image) : Nat :=
  if p.cfeat &&& c.cfeat ≠ p.cfeat then 3
  else if p.qcmin ≤ c.iver ∧ c.iver ≤ p.qcmax then 0
  else if p.policy = 1 then 1
  else 2

/-- Version agreement (R594, R602): outcomes 2 and 3 make this boot one of lifecycle Service. -/
def agree (s : State) (c p : Image) : State :=
  let o := outcomeOf c p
  let s1 := { s with boot := { s.boot with phase := .accepted, carr := some c, app := some p, outcome := o } }
  if 2 ≤ o ∧ s.lcs ≠ .service then { s1 with lcs := .service, boot := { s1.boot with svcWhy := o } } else s1

/-- The package holds in Boot (R591, R593). -/
def holdInBoot (s : State) : State := { s with boot := { s.boot with phase := .holding } }

/-- The primary chooses and checks the images (R591 to R594). -/
def bootImages (s : State) (a b : FlashSet) : State :=
  match chooseImage s false a b with
  | (none, s1) => holdInBoot s1
  | (some c, s1) =>
    match chooseImage s1 true a b with
    | (none, s2) => holdInBoot { s2 with boot := { s2.boot with carr := some c } }
    | (some p, s2) => agree s2 c p

/-- BOOT_IMAGE_CHECK (R583, R591 to R594): every Carr tests its random source at every boot; a Blank or Retired part loads no image
(Table 12.8). -/
def execBootImageCheck (a b : FlashSet) (rng : Option (BitVec 3)) (s : State) : Host.Outcome State Fault Refusal :=
  done (if clocked s = true ∧ s.safety = .boot ∧ s.boot.phase = .start then
    match rng with
    | some d => rngFailed s d
    | none => if s.lcs = .blank ∨ s.lcs = .retired then s else bootImages s a b
  else s)

/-! ## Handover (R595 to R598) -/

/-- Every unit type that has an offer of its own; PKG is the exception (R595). -/
def offerTypes : List UnitTy :=
  [.dsv, .dem, .pwr, .brg, .reed, .reedev, .sedge, .carr, .canfd, .xbar, .rem, .swp, .core, .mgate, .bank, .dma, .cbk,
   .chan, .sluice, .prop, .tgate, .phref, .ttime, .frz, .cwy, .eth, .prp, .flash, .emp]

/-- The feature bits that the chapter of a unit names (R702), on a part that has the option (Table 0.2). -/
def featBits (s : State) (u : UnitTy) : Word :=
  if u = .sluice ∧ s.part ≠ .tfw8x then 0
  else ((u.rows.filter (fun r => r.off == 2)).flatMap (fun r => r.flds)).foldl (fun w f => w ||| fmask f.hi f.lo) 0

/-- FUSEFEAT of a type: what the fuses leave of the features the unit names, with BASE (Table 12.1). -/
def fuseFeat (s : State) (u : UnitTy) : Word := (featBits s u &&& ~~~(kget (fun _ => 0) s.fusesRead.featOff u.code)) ||| 1

/-- The offer of a type (R595). -/
def offerOf (s : State) (c p : Image) (u : UnitTy) : Word :=
  let cm := kget (fun _ => 1) (if s.boot.outcome = 1 then c.baseline else c.full) u.code
  (fuseFeat s u &&& cm &&& kget (fun _ => 1) p.full u.code) ||| 1

/-- FEAT_OFFER of every type is written (R595, R597). -/
def writeOffers (s : State) (c p : Image) : State :=
  offerTypes.foldl (fun s u => { s with offers := kset (fun _ => 1) s.offers u.code (offerOf s c p u) }) s

/-- The roots of the boot context (R106, Table 3.7), the cursor of PCC at the entry point. -/
def bootCtx (p : Image) : Ctx :=
  let x := { Ctx.init with
    st := .ready, psw := fval 29 22 p.comp0,
    pcc := { hi := 0xb26000100#36, lo := fval 35 30 0x16 ||| fval 29 0 p.entry, tag := true } }
  (x.cphysSet 1 { hi := 0xde3000100#36, lo := 0x580000000#36, tag := true }).cphysSet 2 { hi := 0x38000040#36, lo := 0, tag := true }

/-- Every rule set as R406 gives it. -/
def bootSets (s : State) (comp : Nat) : State :=
  (coreNos s).foldl (fun s n => setCore s n { coreAt s n with setA := bootSet comp, setB := RuleSet.init }) s

/-- The flash ports are released, PROGEN is 0 (R598). -/
def releaseFlash (s : State) : State :=
  [0, 1].foldl (fun s i => rsetf (setFlash s i { flash s i with carr := false }) (flashPg i) 4 6 6 0) s

/-- The pages whose LOCK Carr sets: in Field the flash ports that an accepted image came from; the CARR pages (R597, R598). -/
def carrLocks (s : State) (c p : Image) : List Nat :=
  (if s.lcs = .field then (if c.src = p.src then [flashPg (bnat c.src)] else [flashPg 0, flashPg 1]) else []) ++
  (List.range s.part.dies).map carrPg

/-- The clear-all sweeps of the external memory ranges are complete (R597, step 3). -/
def sweepExternal (s : State) : State := clearTags s (fun a => inEmp 0 a || inEmp 1 a)

/-- What the Carrs write before the first application instruction (R597, steps 1 to 7). -/
def handover (s : State) (c p : Image) : State :=
  let s1 := writeOffers s c p
  let s2 := bootSets (sweepExternal (newKeys s1 (coreNos s1))) p.comp0
  let n := p.bootcore % 128
  let s3 := if n < 16 * s.part.dies then setCtx s2 n 0 (bootCtx p) else s2
  let s4 := { releaseFlash s3 with bootLocks := carrLocks s c p }
  restorePages { s4 with boot := { s4.boot with phase := .done } } (fun _ => true)

/-- The body octets that the checker rebuilds from the words that the primary loaded, read in pairs (R582, R590); none where a word
cannot be read. -/
def rebuiltBody (s : State) (p : Image) : Option (List (BitVec 8)) × State :=
  match physWords s 1 ((List.range (p.blen / 9 * 2)).map (fun k => p.load + k)) with
  | (some ws, s1) =>
    (some ((List.range (p.blen / 9)).flatMap (fun k =>
      numOct (((ws[2 * k]?).getD (0, false)).1.toNat * 2 ^ 36 + ((ws[2 * k + 1]?).getD (0, false)).1.toNat) 9)), s1)
  | (none, s1) => (none, s1)

/-- The checker's measurement of the application image is the primary's (R582): it hashes the header that the primary staged and the
body it rebuilds. A measurement that agrees is of the octets whose signature the primary verified. -/
def checkerAgrees (s : State) (p : Image) : Bool × State :=
  match rebuiltBody s p with
  | (some b, s1) => (decide (sha384 (p.head ++ b) = p.digest), s1)
  | (none, s1) => (false, s1)

/-- The end of the handover (R582, R597, step 8): Proof and the first application instruction, or Mire where the checker differs. -/
def finishHandover (s : State) (c p : Image) (agrees : Bool) : State :=
  match checkerAgrees s p with
  | (ok, s1) => if ok && agrees then toProof (handover s1 c p) else mireEnter (handover s1 c p) 5 0 0

/-- HANDOVER (R241, R582, R583, R597, R636): the first application instruction issues in Proof; where the checker differs the package
enters Mire before it. The keys of step 2 use the random source: where its test fails the package is held in Boot. -/
def execHandover (facts : HandoverFacts) (s : State) : Host.Outcome State Fault Refusal :=
  done (match s.boot.phase, s.boot.carr, s.boot.app with
    | .accepted, some c, some p =>
      if clocked s = true ∧ s.safety = .boot then
        match facts.rngFail with
        | some d => rngFailed s d
        | none => finishHandover s c p facts.agrees
      else s
    | _, _, _ => s)

end Sys2Proof.Machine
end

