-- ==== Sys2Proof/Machine/CanFd.lean ====
section
/-! DEFINITION. The CAN FD controllers (R562 to R565): filters, rings, error counters and bus-off of ISO 11898-1. -/

namespace Sys2Proof.Machine

/-- The CANFD page of a die. -/
def canPg (d : Nat) : Nat := diePg d 8

/-- The DMA of a die's controller. -/
def canPort (d : Nat) : Port := { pg := canPg d, die := d }

/-- The controller of a die. -/
def can (s : State) (d : Nat) : Can := kget (fun _ => Can.init) s.cans d

/-- Writes the controller of a die. -/
def setCan (s : State) (d : Nat) (c : Can) : State := { s with cans := kset (fun _ => Can.init) s.cans d c }

/-- A ring is enabled: CTL.EN and its own bit. -/
def canOn (s : State) (d b : Nat) : Bool := enabled s (canPg d) && bit (rget s (canPg d) 4) b

/-- Whether the controller of a die works. -/
def canWorks (s : State) (d : Nat) : Bool := decide (d < s.part.dies) && unitWorks s (canPg d)

/-- ESTATE (Table 11.12): 0 error active, 1 error passive, 2 bus-off (ISO 11898-1). -/
def Can.estate (c : Can) : Nat := if c.busOff then 2 else if 127 < c.txErr ∨ 127 < c.rxErr then 1 else 0

/-- The octets of a data length code: 0 to 8, and 12 to 64 in an FD frame (ISO 11898-1; notes/assumptions/33.md). -/
def dlcOctets (fdf : Bool) (dlc : Nat) : Nat :=
  if dlc ≤ 8 then dlc
  else if fdf then ([12, 16, 20, 24, 32, 48, 64][dlc - 9]?).getD 64
  else 8

/-- The data octets of a frame; a remote frame has none. -/
def canOctets (f : CanFrame) : List (BitVec 8) :=
  let n := if f.rtr then 0 else dlcOctets f.fdf f.dlc.toNat
  (f.data ++ List.replicate n 0).take n

/-! ## Descriptors (Table 11.11) -/

/-- D0 of a frame, without OWN. -/
def canD0 (f : CanFrame) (ts : Bool) : Word :=
  fval 34 34 (bnat ts) ||| fval 33 33 (bnat f.fdf) ||| fval 32 32 (bnat f.brs) ||| fval 31 31 (bnat f.xtd) |||
  fval 30 30 (bnat f.rtr) ||| fval 29 29 (bnat f.esi) ||| fval 28 0 f.id.toNat

/-- The frame that a descriptor and its data describe. -/
def canFrameOf (d0 : Word) (dlc : Nat) (data : List (BitVec 8)) : CanFrame :=
  { id := BitVec.ofNat 29 (fld d0 28 0), xtd := bit d0 31, rtr := bit d0 30, fdf := bit d0 33, brs := bit d0 32, esi := bit d0 29,
    dlc := BitVec.ofNat 4 dlc, data := data }

/-- A descriptor ends: STATUS in D3, then OWN is cleared; the ring goes on. One that cannot be written leaves the ring at
rest. -/
def canTxEnd (s : State) (d a : Nat) (d0 d3 : Word) (status : Nat) : State :=
  let fin : P Unit := do
    portWrite (canPort d) (a + 3) (setFld d3 31 27 status)
    portWrite (canPort d) a (setBit d0 35 false)
  match fin s with
  | .ok _ s1 => setCan s1 d { can s1 d with taken := false, tx := (can s1 d).tx.next s1 (canPg d) 20 }
  | .error _ s1 => setCan s1 d { can s1 d with taken := false, tx := { (can s1 d).tx with stopped := true } }

/-! ## Transmission (R563, R564) -/

/-- What an attempt does to the error counters (ISO 11898-1; notes/assumptions/33.md): a frame sent lowers the transmit
counter, an error raises it by 8, above 255 the controller is bus-off. -/
def Can.attempt (c : Can) (o : CanOutcome) : Can :=
  match o with
  | .sent _ => { c with txErr := c.txErr - 1 }
  | .lostArbitration => c
  | .error => { c with txErr := c.txErr + 8, busOff := decide (255 < c.txErr + 8), restart := false }

/-- The timestamp of a frame: the track time of its start-of-frame bit, `age` fabric cycles ago (R564). -/
def sofTime (s : State) (age : Nat) : Word := BitVec.ofNat 36 (ttAt s (s.ticks - age))

/-- An attempt to transmit the frame of an owned descriptor. -/
def canAttempt (s : State) (d a : Nat) (d0 d3 : Word) (f : CanFrame) (o : CanOutcome) : State :=
  let c := (can s d).attempt o
  let s1 := setCan s d { c with taken := true }
  match o with
  | .sent age =>
    let s2 := setCan s1 d { c with taken := true, wire := some f }
    if bit d0 34 then
      match (portWrite (canPort d) (a + 2) (sofTime s2 age.toNat)) s2 with
      | .ok _ s3 => canTxEnd s3 d a d0 d3 0
      | .error e s3 => let r := dmaStatus s3 e; canTxEnd r.2 d a d0 d3 r.1
    else canTxEnd s2 d a d0 d3 0
  | .lostArbitration => s1
  | .error => if c.busOff then canTxEnd s1 d a d0 d3 1 else s1

/-- The transmit ring looks at its descriptor (R553, R564). -/
def canTransmit (s : State) (d : Nat) (o : CanOutcome) : State :=
  let c := can s d
  let a := ringAt s (canPg d) 19 c.tx
  let look : P (Word × Word × Word) := do
    let d0 ← portRead (canPort d) a
    let d1 ← portRead (canPort d) (a + 1)
    let d3 ← portRead (canPort d) (a + 3)
    return (d0, d1, d3)
  match look s with
  | .error _ s1 => setCan s1 d { can s1 d with tx := { c.tx with stopped := true } }
  | .ok (d0, d1, d3) s1 =>
    if bit d0 35 then
      let n := if bit d0 30 then 0 else dlcOctets (bit d0 33) (fld d3 35 32)
      match (portOctets (canPort d) (fld d1 29 0) n) s1 with
      | .error e s2 => let r := dmaStatus s2 e; canTxEnd r.2 d a d0 d3 r.1
      | .ok l s2 => canAttempt s2 d a d0 d3 (canFrameOf d0 (fld d3 35 32) l) o
    else setCan s1 d { c with tx := { c.tx with stopped := true } }

/-- CAN_FRAME_TRANSMIT (R563, R564): one attempt in ring order; a frame that loses arbitration or meets an error is tried
again before the next descriptor is taken. -/
def execCanFrameTransmit (die : BitVec 3) (o : CanOutcome) (s : State) : Host.Outcome State Fault Refusal :=
  let d := die.toNat
  done (if canWorks s d && canOn s d 2 && !(can s d).busOff && !(can s d).tx.stopped then canTransmit s d o else s)

/-- A descriptor that is being sent when its ring is disabled ends with STATUS 6 (Table 11.11). -/
def canAbort (s : State) (d : Nat) : State :=
  if (can s d).taken then
    let a := ringAt s (canPg d) 19 (can s d).tx
    let look : P (Word × Word) := do
      let d0 ← portRead (canPort d) a
      let d3 ← portRead (canPort d) (a + 3)
      return (d0, d3)
    match look s with
    | .ok (d0, d3) s1 => canTxEnd s1 d a d0 d3 6
    | .error _ s1 => setCan s1 d { can s1 d with taken := false }
  else s

/-! ## Reception (R564) -/

/-- Whether a frame matches a valid filter. -/
def canMatches (s : State) (d : Nat) (f : CanFrame) : Bool :=
  (List.range 16).any (fun k =>
    let x := rget s (canPg d) (32 + k)
    let m := rget s (canPg d) (48 + k)
    bit x 35 && (bit x 34 == f.xtd) && decide ((f.id.toNat ^^^ fld x 28 0) &&& fld m 28 0 = 0))

/-- A good frame lowers the receive error counter (ISO 11898-1; notes/assumptions/33.md): to a value from 119 to 127 above
127. -/
def canRxGood (s : State) (d : Nat) : State :=
  let c := can s d
  if 127 < c.rxErr then
    setCan { s with fresh := s.fresh + 1 } d { c with rxErr := 119 + (Config.freeValue 4 s.fresh).toNat % 9 }
  else setCan s d { c with rxErr := c.rxErr - 1 }

/-- A frame in error raises the receive error counter, by 8 where a dominant bit follows the error flag (ISO 11898-1;
notes/assumptions/33.md). -/
def canRxBad (s : State) (d k : Nat) : State := setCan s d { can s d with rxErr := min 511 ((can s d).rxErr + k) }

/-- A frame into the descriptor at a: data, timestamp, D3, then D0 with OWN cleared. -/
def canRxFrame (d a : Nat) (f : CanFrame) (age : Nat) : P Unit := do
  let d1 ← portRead (canPort d) (a + 1)
  portPutOctets (canPort d) (fld d1 29 0) (canOctets f)
  let s ← get
  portWrite (canPort d) (a + 2) (sofTime s age)
  portWrite (canPort d) (a + 3) (fval 35 32 f.dlc.toNat)
  portWrite (canPort d) a (canD0 f true)

/-- The receive ring stops at a descriptor. -/
def canRxStop (s : State) (d : Nat) : State := setCan s d { can s d with rx := { (can s d).rx with stopped := true } }

/-- The receive ring goes on. -/
def canRxNext (s : State) (d : Nat) : State := setCan s d { can s d with rx := (can s d).rx.next s (canPg d) 23 }

/-- A frame is delivered to the receive ring. -/
def canDeliver (s : State) (d : Nat) (f : CanFrame) (age : Nat) : State :=
  let a := ringAt s (canPg d) 22 (can s d).rx
  match (portRead (canPort d) a) s with
  | .error _ s1 => canRxStop s1 d
  | .ok d0 s1 =>
    if bit d0 35 then
      match (canRxFrame d a f age) s1 with
      | .ok _ s2 => canRxNext s2 d
      | .error e s2 =>
        let r := dmaStatus s2 e
        let fin : P Unit := do
          portWrite (canPort d) (a + 3) (fval 35 32 f.dlc.toNat ||| fval 31 27 r.1)
          portWrite (canPort d) a (setBit d0 35 false)
        match fin r.2 with
        | .ok _ s3 => canRxNext s3 d
        | .error _ s3 => canRxStop s3 d
    else canRxStop s1 d

/-- A good frame (R563, R564): into the receive ring, while that is enabled, where it matches a filter. -/
def canReceive (s : State) (d : Nat) (f : CanFrame) (age : Nat) : State :=
  let s1 := canRxGood s d
  if canOn s1 d 3 && canMatches s1 d f && !(can s1 d).rx.stopped then canDeliver s1 d f age else s1

/-- CAN_FRAME_RECEIVE (R563, R564): the controller keeps its error counters whether or not the receive ring is enabled. -/
def execCanFrameReceive (die : BitVec 3) (x : CanArrival) (s : State) : Host.Outcome State Fault Refusal :=
  let d := die.toNat
  done (if canWorks s d && enabled s (canPg d) && !(can s d).busOff then
    match x.receipt with
    | .good => canReceive s d x.frame x.age.toNat
    | .error => canRxBad s d 1
    | .dominant => canRxBad s d 8
  else s)

/-- CAN_BUSOFF_RECOVERY (R563): only while AUTOREC is 1 or after a write of CTL.EN = 1. -/
def execCanBusoffRecovery (die : BitVec 3) (s : State) : Host.Outcome State Fault Refusal :=
  let d := die.toNat
  let c := can s d
  done (if canWorks s d && c.busOff && (bit (rget s (canPg d) 4) 5 || c.restart) then
    setCan s d { c with busOff := false, restart := false, txErr := 0, rxErr := 0 }
  else s)

end Sys2Proof.Machine
end

