-- ==== Sys2Proof/Machine/ReedOps.lean ====
section
/-! DEFINITION. Reed: staging slots (R432, R433), insertion (R434 to R438), cancels (R439), dispatch, firing and
retirement of events (R440 to R447), EVFIFO (R713), and the commit each vital firing needs (R441, R493, R495). -/

namespace Sys2Proof.Machine

/-! ## Staging slots -/

/-- The slot a requester holds on a REEDEV page (R432). -/
def Reed.slotOf (r : Reed) (st : Stamp) : Option Nat :=
  (List.range 16).find? (fun i =>
    match kget (fun _ => none) r.slots i with
    | some x => decide (x.die = st.die ∧ x.core = st.core ∧ x.ctx = st.ctx)
    | none => false)

/-- The slot a requester holds, or the first free one (R432). -/
def Reed.slotFor (r : Reed) (st : Stamp) : Option Nat :=
  match r.slotOf st with
  | some i => some i
  | none => (List.range 16).find? (fun i => (kget (fun _ => (none : Option Slot)) r.slots i).isNone)

/-- The contents of a requester's slot; an empty one of its own where it holds none. -/
def Reed.slotAt (r : Reed) (i : Nat) (st : Stamp) : Slot :=
  (kget (fun _ => none) r.slots i).getD
    { die := st.die, core := st.core, ctx := st.ctx, w0 := none, w1 := none, w2 := none, result := none, last := 0 }

/-- Writes a slot. -/
def putSlot (s : State) (d i : Nat) (x : Slot) : State :=
  let r := reed s d
  setReed s d { r with slots := kset (fun _ => none) r.slots i (some { x with last := s.ticks }) }

/-- A store that stages words: it takes the requester's slot or a free one, and is dropped where there is none
(R432). -/
def stageWith (s : State) (d : Nat) (st : Stamp) (f : Slot → Slot) : State :=
  match (reed s d).slotFor st with
  | some i => putSlot s d i (f ((reed s d).slotAt i st))
  | none => s

/-- A store to INS_0: the words already staged and the result held are cleared (R432, R433). -/
def ins0Store (s : State) (d : Nat) (st : Stamp) (v : Word) : State :=
  stageWith s d st (fun x => { x with w0 := some v, w1 := none, w2 := none, result := none })

/-- A store to INS_1 or INS_2. -/
def insStageStore (s : State) (d : Nat) (st : Stamp) (second : Bool) (v : Word) : State :=
  stageWith s d st (fun x => if second then { x with w2 := some v } else { x with w1 := some v })

/-! ## Insertion -/

/-- An event as its four words spell it; reserved bits read 0 (Table 9.5). -/
def eventOf (w0 w1 w2 w3 : Word) : Event :=
  { Event.init with trig := w0, period := w1, ctrl := w2 &&& ~~~(fmask 8 0), arg := w3 &&& ~~~(fmask 23 18) }

/-- Two events have equal words (R436). -/
def Event.sameWords (a b : Event) : Bool :=
  decide (a.trig = b.trig ∧ a.period = b.period ∧ a.ctrl = b.ctrl ∧ a.arg = b.arg)

/-- 2,047 cycles in fraction steps (R408). -/
def maxAhead : Nat := 2047 * 2 ^ 24

/-- Row 8 of Table 9.7: the words do not form an event of the channel. -/
def badWords (s : State) (d : Nat) (e : Event) : Bool :=
  let a := e.action
  let m := 96 * d + e.chan
  decide (a = 0 ∨ 8 ≤ a) || (decide (96 ≤ e.chan) && decide (e.chan ≠ 127)) || (decide (e.chan = 127) && isOutput a) ||
  (decide (e.chan < 96) && !actionAllowed (chMode s m) a) ||
  (decide (e.chan < 96) && isOutput a && !e.vital && chVital s m) || (e.vital && !isOutput a) ||
  (decide (a = 4) && (decide (e.argv = 0) || (decide (e.period ≠ 0) && decide (e.period.toNat ≤ e.argv * 2 ^ 24))))

/-- The live entry of a die's table that satisfies a test, lowest index first. -/
def Reed.findLive (r : Reed) (f : Event → Bool) : Option (Nat × Event) := r.ev.find? (fun p => p.2.live && f p.2)

/-- The entry charged to a compartment, as EVQUOTA_c.USED counts (R448). -/
def Reed.used (r : Reed) (comp : Nat) : Nat := (r.ev.filter (fun p => p.2.live && decide (p.2.comp.toNat = comp))).length

/-- The first Free entry of the 4,096. -/
def Reed.freeIndex (r : Reed) : Option Nat := (List.range 4096).find? (fun i => !(r.entry i).live)

/-- The pending insert of the PAIR compartment with the same KEY (R436). -/
def pairPending (s : State) (d comp : Nat) (e : Event) : Option (Nat × Event) :=
  if e.vital then
    (reed s d).findLive (fun x => x.st == .pending && decide (x.key = e.key) && pairOf s d comp x.comp.toNat)
  else none

/-- How Table 9.7 decides. -/
inductive Decision where
  | refused (code : Nat)
  | mismatch (i : Nat) (p : Event)
  | matched (i : Nat) (p : Event)
  | take (i : Nat)
  deriving DecidableEq, Repr

/-- Rows 10 of Table 9.7: a vital insert from a wrong requester. -/
def vitalRefused (s : State) (d : Nat) (st : Stamp) (e : Event) : Bool :=
  let comp := st.comp.toNat
  e.vital && (decide (st.cls = 3) || !clsVital (compcls s d comp) ||
    ((reed s d).findLive (fun x => x.st == .pending && decide (x.key = e.key) && decide (x.pdie = st.die) &&
      (decide (x.comp = st.comp) || pairOf s d comp x.comp.toNat))).isSome)

/-- Row 9 of Table 9.7: the KEY is held by another live entry of the compartment, or of its pair. -/
def keyHeld (s : State) (d comp : Nat) (e : Event) : Bool :=
  let exempt := (pairPending s d comp e).map (fun p => p.1)
  (reed s d).ev.any (fun p => p.2.live && decide (p.2.key = e.key) && decide (some p.1 ≠ exempt) &&
    (decide (p.2.comp.toNat = comp) || (e.vital && pairOf s d comp p.2.comp.toNat)))

/-- The decision of an insertion: the first row of Table 9.7 whose condition holds (R434). An insert that meets its pair's
pending one takes no entry and is charged to no compartment, so that of row 7 only the lack of a Free entry bears on it (R436,
notes/assumptions/53.md). -/
def decideInsert (s : State) (d : Nat) (st : Stamp) (e : Event) : Decision :=
  let i := e.refNo
  let r := ref s i
  let comp := st.comp.toNat
  let diff := stampDiff e.trig (refNow s i)
  let q := rfld s (reedPg d) (256 + comp) 25 13
  if r.st = .off ∨ r.st = .acquire ∨ r.st = .lost then .refused 3
  else if e.vital = true ∧ r.st = .holdover then .refused 4
  else if badWords s d e then .refused 8
  else if vitalRefused s d st e then .refused 10
  else if stampTicks s i diff < 25 * (ticksPerUs : Int) then .refused 5
  else if (maxAhead : Int) < diff ∨ (e.count ≠ 0 ∧ (e.period.toNat < 16384 ∨ maxAhead < e.period.toNat)) ∨
      (e.count = 0 ∧ e.period ≠ 0) then .refused 6
  else if keyHeld s d comp e then .refused 9
  else
    match (reed s d).freeIndex, pairPending s d comp e with
    | none, _ => .refused 7
    | some _, some (k, p) => if p.sameWords e then .matched k p else .mismatch k p
    | some k, none => if (reed s d).used comp = q then .refused 7 else .take k

/-- An entry becomes Armed: a commit held for its channel and KEY has its entry (R495). -/
def armEntry (s : State) (d k : Nat) (e : Event) : State :=
  let s1 := setReed s d ((reed s d).putEntry k { e with st := .armed, since := s.ticks })
  let m := 96 * d + e.chan
  let v := voter s1 (m / 24)
  if e.chan < 96 then
    setVoter s1 (m / 24) { v with commits := v.commits.map (fun c =>
      if c.chan = m ∧ c.key.toNat = e.key then { c with armed := true } else c) }
  else s1

/-- The channel named by an event enters its safe state, where it names one. -/
def eventSafe (s : State) (d : Nat) (e : Event) (cause : Nat) : State :=
  if e.chan < 96 ∧ 96 * d + e.chan < chanCount s then safeEnter s (96 * d + e.chan) cause e.key 0 else s

/-- The effect of a decided insertion, with the result and the entry INSRES shows (Table 9.7, R436, R438). -/
def insertEffect (s : State) (d : Nat) (st : Stamp) (e : Event) (x : Decision) : (Nat × Nat) × State :=
  match x with
  | .refused c => ((c, 0), s)
  | .mismatch k p =>
    ((11, k), eventSafe (eventSafe (capture (retireEntry s d k) (reedPg d) 9 e.key) d p 6) d e 6)
  | .matched k p => ((0, k), armEntry s d k p)
  | .take k =>
    let n := { e with comp := st.comp, pdie := st.die, since := s.ticks }
    if e.vital then ((1, k), setReed s d ((reed s d).putEntry k { n with st := .pending }))
    else ((0, k), armEntry s d k n)

/-- INSWIN in fabric cycles; 0 acts as 1 µs (Table 9.8). -/
def insWindow (s : State) (d : Nat) : Nat := max 1 (rfld s (reedPg d) 16 19 0) * ticksPerUs

/-- A Pending insert is due for its discard (R437): INSWIN after its acceptance, or 25 µs before its trigger. -/
def discardDue (s : State) (d : Nat) (e : Event) : Bool :=
  e.st == .pending && (decide (insWindow s d ≤ s.ticks - e.since) ||
    decide (stampTicks s e.refNo (stampDiff e.trig (refNow s e.refNo)) ≤ 25 * (ticksPerUs : Int)))

/-- The discard of an unmatched insert (R437, R445). -/
def discard (s : State) (d k : Nat) : State :=
  let e := (reed s d).entry k
  eventSafe (capture (retireEntry s d k) (reedPg d) 8 k) d e 5

/-- The unmatched inserts of a KEY whose time is over are discarded before an insert is decided (R437). -/
def discardKey (s : State) (d key : Nat) : State :=
  ((reed s d).ev.filter (fun p => decide (p.2.key = key) && discardDue s d p.2)).foldl (fun s p => discard s d p.1) s

/-- A store to INS_3 (R433, R434). In Boot and Mire Reed accepts no insert (R446). -/
def ins3Store (s : State) (d : Nat) (st : Stamp) (v : Word) : State :=
  match (reed s d).slotFor st with
  | none => s
  | some i =>
    let x := (reed s d).slotAt i st
    if s.safety = .boot ∨ s.safety = .mire then putSlot s d i x
    else
      match x.w0, x.w1, x.w2 with
      | some a, some b, some c =>
        let e := eventOf a b c v
        let s := discardKey s d e.key
        let r := insertEffect s d st e (decideInsert s d st e)
        putSlot r.2 d i { x with result := some r.1 }
      | _, _, _ => putSlot s d i { x with result := some (2, 0) }

/-! ## Cancels -/

/-- The expiry of the first unmatched cancel of a KEY (R439, R445): it retires its entry, and the channel enters the safe state. -/
def expireCancel (s : State) (d key : Nat) : State :=
  let r := reed s d
  match r.cancels.find? (fun c => decide (c.key.toNat = key ∧ insWindow s d ≤ s.ticks - c.since)) with
  | none => s
  | some c =>
    let s1 := setReed s d { r with cancels := r.cancels.filter (fun x => !decide (x = c)) }
    match r.findLive (cancelOf s d c) with
    | some (k, e) => eventSafe (retireEntry s1 d k) d e 5
    | none => s1

/-- The result and effect of a CANCEL (R439): 13 retired, 14 pending, 15 no entry. A pending cancel whose INSWIN is over matches
none. -/
def cancelEffect (s0 : State) (d : Nat) (st : Stamp) (v : Word) : (Nat × Nat) × State :=
  let key := fld v 11 0
  let comp := st.comp.toNat
  if bit v 35 then
    let s := expireCancel (expireCancel s0 d key) d key
    let r := reed s d
    match r.findLive (fun e => e.vital && decide (e.key = key) &&
        (decide (e.comp = st.comp) || pairOf s d comp e.comp.toNat)) with
    | none => ((15, 0), s)
    | some (k, _) =>
      if r.cancels.any (fun c => decide (c.key.toNat = key) && pairOf s d comp c.comp.toNat) then ((13, k), freeEntry s d k)
      else if r.cancels.any (fun c => decide (c.key.toNat = key ∧ c.comp = st.comp)) then ((14, k), s)
      else
        ((14, k), setReed s d { r with cancels := r.cancels ++
          [{ key := BitVec.ofNat 12 key, comp := st.comp, die := st.die, since := s.ticks }] })
  else
    match (reed s0 d).findLive (fun e => !e.vital && decide (e.key = key) && decide (e.comp = st.comp)) with
    | some (k, _) => ((13, k), freeEntry s0 d k)
    | none => ((15, 0), s0)

/-- A store to CANCEL (R432, R439). -/
def cancelStore (s : State) (d : Nat) (st : Stamp) (v : Word) : State :=
  match (reed s d).slotFor st with
  | none => s
  | some i =>
    let x := (reed s d).slotAt i st
    let r := cancelEffect s d st v
    putSlot r.2 d i { x with result := some r.1 }

/-- A load of INSRES (R432, R433); a slot held is accessed by it. -/
def insresLoad (s : State) (d : Nat) (st : Stamp) : Word × State :=
  match (reed s d).slotOf st with
  | none => (fval 35 31 12, s)
  | some i =>
    let x := (reed s d).slotAt i st
    (match x.result with
      | some (c, k) => fval 35 31 c ||| fval 11 0 k
      | none => fval 35 31 31, putSlot s d i x)

/-- INS_0 (R432). -/
def execIns0 (st : Stamp) (die : BitVec 3) (v : Word) (s : State) : Host.Outcome State Fault Refusal :=
  done (unitRequest s st (diePg die.toNat 5) 16 .store (fun s => ins0Store s die.toNat st v))

/-- INS_1 and INS_2 (R432). -/
def execInsStage (st : Stamp) (die : BitVec 3) (second : Bool) (v : Word) (s : State) : Host.Outcome State Fault Refusal :=
  done (unitRequest s st (diePg die.toNat 5) (17 + bnat second) .store (fun s => insStageStore s die.toNat st second v))

/-- INS_3 (R433, R434). -/
def execIns3 (st : Stamp) (die : BitVec 3) (v : Word) (s : State) : Host.Outcome State Fault Refusal :=
  done (unitRequest s st (diePg die.toNat 5) 19 .store (fun s => ins3Store s die.toNat st v))

/-- CANCEL (R439). -/
def execCancel (st : Stamp) (die : BitVec 3) (v : Word) (s : State) : Host.Outcome State Fault Refusal :=
  done (unitRequest s st (diePg die.toNat 5) 21 .store (fun s => cancelStore s die.toNat st v))

/-! ## Expiries -/

/-- STAGING_SLOT_EXPIRY (R433). -/
def execStagingSlotExpiry (die : BitVec 3) (slot : BitVec 4) (s : State) : Host.Outcome State Fault Refusal :=
  let d := die.toNat
  done (unitDo s (diePg d 5) (fun s =>
    let r := reed s d
    match kget (fun _ => (none : Option Slot)) r.slots slot.toNat with
    | some x => if 65536 ≤ s.ticks - x.last then setReed s d { r with slots := kset (fun _ => none) r.slots slot.toNat none } else s
    | none => s))

/-- PENDING_INSERT_DISCARD (R437): an unmatched insert at INSWIN after its acceptance, or 25 µs before its trigger. -/
def execPendingInsertDiscard (die : BitVec 3) (index : BitVec 12) (s : State) : Host.Outcome State Fault Refusal :=
  let d := die.toNat
  let k := index.toNat
  done (unitDo s (reedPg d) (fun s => if discardDue s d ((reed s d).entry k) then discard s d k else s))

/-- PENDING_CANCEL_EXPIRY (R439, R445): an unmatched vital cancel retires its entry, unfired, and its channel enters
the safe state. -/
def execPendingCancelExpiry (die : BitVec 3) (key : BitVec 12) (s : State) : Host.Outcome State Fault Refusal :=
  let d := die.toNat
  done (unitDo s (reedPg d) (fun s => expireCancel s d key.toNat))

/-! ## Dispatch -/

/-- The time from now to an event's trigger in fabric cycles, at the tracked period (R440). -/
def ticksAhead (s : State) (e : Event) : Int := stampTicks s e.refNo (stampDiff e.trig (refNow s e.refNo))

/-- The time from now to an event's trigger in parts of a fabric cycle, 2^24 to a cycle: two triggers of one reference that
differ do not tie. -/
def timeAhead (s : State) (e : Event) : Int := stampDiff e.trig (refNow s e.refNo) * (refPeriod s e.refNo : Nat)

/-- Whether event a (index i) is dispatched before event b (index j): by trigger, then CHAN, then index (R435, R440). -/
def before (s : State) (i : Nat) (a : Event) (j : Nat) (b : Event) : Bool :=
  let x := timeAhead s a
  let y := timeAhead s b
  decide (x < y) || (decide (x = y) && (decide (a.chan < b.chan) || (decide (a.chan = b.chan) && decide (i < j))))

/-- A dispatch (R440, R442, R494): a vital event is refused in Holdover without HOLDVIT, and on a channel that is not
vital. -/
def dispatch (s : State) (d k : Nat) : State :=
  let e := (reed s d).entry k
  if e.vital = true ∧ (ref s e.refNo).st = .holdover ∧ bit (rget s phrefPg (16 + 4 * e.refNo)) 16 = false then
    eventSafe (retireEntry s d k) d e 7
  else if e.vital = true ∧ chVital s (96 * d + e.chan) = false then retireEntry s d k
  else setReed s d ((reed s d).putEntry k { e with dispatched := true, st := if e.count = 0 then .fire else .armed })

/-- Whether Reed of a die fires events: its unit works and the safety run state is past Boot and not Mire (R446). -/
def reedFires (s : State) (d : Nat) : Bool :=
  unitWorks s (reedPg d) && s.safety != .boot && s.safety != .mire

/-- EVENT_DISPATCH (R440, R442): 20 µs before its trigger, in order of trigger. -/
def execEventDispatch (die : BitVec 3) (index : BitVec 12) (s : State) : Host.Outcome State Fault Refusal :=
  let d := die.toNat
  let k := index.toNat
  let r := reed s d
  let e := r.entry k
  if reedFires s d = true ∧ e.st = .armed ∧ e.dispatched = false ∧ ticksAhead s e ≤ 20 * (ticksPerUs : Int) ∧
      r.ev.any (fun p => p.2.st == .armed && !p.2.dispatched && before s p.1 p.2 k e) = false then done (dispatch s d k)
  else done s

/-! ## Firing -/

/-- After a firing (R443): a series goes on, with its next dispatch at once where that is due (R440). -/
def afterFiring (s : State) (d k : Nat) : State :=
  let e := (reed s d).entry k
  if e.live = false then s
  else if e.count = 0 then freeEntry s d k
  else
    let n := { e with trig := e.trig + e.period, dispatched := false, st := .armed,
                      ctrl := if e.count = 4095 then e.ctrl else setFld e.ctrl 20 9 (e.count - 1) }
    let s1 := setReed s d ((reed s d).putEntry k n)
    if stampTicks s e.refNo (e.period.toNat : Int) < 20 * (ticksPerUs : Int) then dispatch s1 d k else s1

/-- An event's edge waits for the edges before it, and longer than the placement of R422 allows (R444,
notes/assumptions/19.md). -/
def lateEdge (s : State) (d k m : Nat) : State :=
  if 3 < (chan s m).edgeDelay s.ticks then
    irqPend (rinc (capture s (reedPg d) 11 k) (reedPg d) 21 17 0) (reedPg d) 3
  else s

/-- An action that has changed the channel's state takes effect at the gate drive (R444, R470). -/
def drive (s : State) (d k m : Nat) (f : State → State) : State :=
  let s1 := f s
  let s2 := if gdWanted s1 m != (chan s1 m).gdNext then lateEdge s1 d k m else s1
  applyGd s2 m

/-- The fabric cycles since an event's trigger. -/
def sinceTrigger (s : State) (e : Event) : Nat := (stampTicks s e.refNo (stampDiff (refNow s e.refNo) e.trig)).toNat

/-- The commit that a voter holds for an event of a channel at its trigger (R50, R51): one made in the fabric cycle of the
trigger, or later, counts as absent (R493). -/
def commitFor (s : State) (m : Nat) (e : Event) : Option Commit :=
  (voter s (m / 24)).commits.find? (fun c => decide (c.chan = m ∧ c.key.toNat = e.key ∧ c.tick + sinceTrigger s e < s.ticks))

/-- An output event at its trigger: refused in the safe state (R468) and, when vital, without its commit (R441, R493);
else its action is applied. -/
def fireOutput (s : State) (d k : Nat) (f : Event → State → State) : State :=
  let e := (reed s d).entry k
  let m := 96 * d + e.chan
  if chanUp s m = false ∨ (chan s m).safe = true then retireEntry s d k
  else if e.vital then
    match commitFor s m e with
    | none => safeEnter (rinc (retireEntry s d k) (sluicePg (m / 24)) 23 17 0) m 3 e.key 0
    | some c =>
      if c.action = e.action ∧ c.arg = e.argv then afterFiring (drive s d k m (f e)) d k
      else safeEnter (retireEntry s d k) m 4 e.key 0
  else afterFiring (drive s d k m (f e)) d k

/-- Whether an event of a given action is dispatched and has reached its trigger (R440, R441). -/
def triggered (s : State) (d k action : Nat) : Bool :=
  let e := (reed s d).entry k
  reedFires s d && e.live && e.dispatched && decide (e.action = action) &&
    decide (0 ≤ stampDiff (refNow s e.refNo) e.trig)

/-- The stamp of the rising crossing at or after a stamp (R475). -/
def nextCrossing (w : Word) : Nat := (w.toNat + 2 ^ 24 - 1) / 2 ^ 24 * 2 ^ 24 % 2 ^ 36

/-- What waits for a crossing of a reference, with one more: of one reference only the latest waits (R475). -/
def armFor (a : Armed) (l : List Armed) : List Armed := l.filter (fun b => b.ref != a.ref) ++ [a]

/-- GDON: a lit Lamp or Generic channel (R470, R483). -/
def gdonAct (s : State) (m : Nat) : State := setLit s m true (chan s m).level

/-- GDOFF (entry k): a Lamp is unlit; a Generic channel's burst ends as well; a Heater's ends at the rising crossing at or after
the trigger, and one that waited for that crossing does not begin (R470, R475, R483). -/
def gdoffAct (s : State) (m k : Nat) (e : Event) : State :=
  if chMode s m = 2 then
    let c := chan s m
    let x := nextCrossing e.trig
    let arm := c.burstArm.filter (fun a => !(a.ref == e.refNo && (a.at_ == x)))
    if x = e.trig.toNat then setChan s m { c with burstOn := false, burstArm := arm }
    else
      setChan s m { c with burstArm := arm, offArm := armFor { ref := e.refNo, idx := k, at_ := x, arg := 0 } c.offArm }
  else
    let s1 := setLit s m false (chan s m).level
    setChan s1 m { chan s1 m with burstOn := false, burstArm := [], offArm := [] }

/-- A burst begins at the stamp of its crossing: ARG cycles are left of it; bursts that wait on other references wait on (R475). -/
def Chan.burst (c : Chan) (a : Armed) : Chan :=
  { c with burstOn := true, burstRef := a.ref, burstIdx := a.idx, burstArm := c.burstArm.filter (fun b => b.ref != a.ref),
           burstFrom := BitVec.ofNat 36 a.at_, burstLeft := a.arg * 2 ^ 24 }

/-- BURST (entry k): on at the rising crossing at or after the trigger, off ARG cycles later (R475). -/
def burstAct (s : State) (m k : Nat) (e : Event) : State :=
  let x := nextCrossing e.trig
  let a : Armed := { ref := e.refNo, idx := k, at_ := x, arg := e.argv }
  setChan s m (if x = e.trig.toNat then (chan s m).burst a else { chan s m with burstArm := armFor a (chan s m).burstArm })

/-- GDON (R441, R470, R483, R493). -/
def execGdon (die : BitVec 3) (index : BitVec 12) (s : State) : Host.Outcome State Fault Refusal :=
  let d := die.toNat
  let k := index.toNat
  done (if triggered s d k 1 then fireOutput s d k (fun e s => gdonAct s (96 * d + e.chan)) else s)

/-- GDOFF (R441, R470, R475, R483, R493). -/
def execGdoff (die : BitVec 3) (index : BitVec 12) (s : State) : Host.Outcome State Fault Refusal :=
  let d := die.toNat
  let k := index.toNat
  done (if triggered s d k 2 then fireOutput s d k (fun e s => gdoffAct s (96 * d + e.chan) k e) else s)

/-- LEVEL (R441, R470, R483, R493). -/
def execLevel (die : BitVec 3) (index : BitVec 12) (s : State) : Host.Outcome State Fault Refusal :=
  let d := die.toNat
  let k := index.toNat
  done (if triggered s d k 3 then
    fireOutput s d k (fun e s => setLit s (96 * d + e.chan) (chan s (96 * d + e.chan)).lit (e.argv % 65536)) else s)

/-- BURST (R441, R475, R483, R493). -/
def execBurst (die : BitVec 3) (index : BitVec 12) (s : State) : Host.Outcome State Fault Refusal :=
  let d := die.toNat
  let k := index.toNat
  done (if triggered s d k 4 then fireOutput s d k (fun e s => burstAct s (96 * d + e.chan) k e) else s)

/-- TOGGLE (R441, R470, R483, R493). -/
def execToggle (die : BitVec 3) (index : BitVec 12) (s : State) : Host.Outcome State Fault Refusal :=
  let d := die.toNat
  let k := index.toNat
  done (if triggered s d k 5 then
    fireOutput s d k (fun e s =>
      setLit s (96 * d + e.chan) (!(chan s (96 * d + e.chan)).lit) (chan s (96 * d + e.chan)).level) else s)

/-- BURST_END (R475): the rising crossing ARG cycles after the turn-on. -/
def execBurstEnd (m : BitVec 10) (s : State) : Host.Outcome State Fault Refusal :=
  let k := m.toNat
  let c := chan s k
  if clocked s = true ∧ chanUp s k = true ∧ c.burstOn = true ∧
      (c.burstLeft : Int) ≤ stampDiff (refNow s c.burstRef) c.burstFrom then
    done (drive s (k / 96) c.burstIdx k (fun s => setChan s k { c with burstOn := false }))
  else done s

/-- The effect of MARK in a mode (R478, R483): a Heater closes its metering interval, a Generic channel its statistics. -/
def markAct (s : State) (m : Nat) : State :=
  let c := chan s m
  if chMode s m = 2 then
    setChan s m { c with enlast := c.enacc, enacc := 0, cycles := c.cyclesNow, cyclesNow := 0 }
  else if chMode s m = 4 then
    setChan s m { c with
      g0 := fval 35 18 c.minA ||| fval 17 0 c.maxA
      g1 := fval 35 18 c.minB ||| fval 17 0 c.maxB
      g2 := fval 35 18 (c.totA / max 1 c.nMark) ||| fval 17 0 (c.totB / max 1 c.nMark)
      minA := 65535, maxA := 0, totA := 0, minB := 65535, maxB := 0, totB := 0, nMark := 0 }
  else s

/-- MARK (R478, R483): metering continues in the safe state. -/
def execMark (die : BitVec 3) (index : BitVec 12) (s : State) : Host.Outcome State Fault Refusal :=
  let d := die.toNat
  let k := index.toNat
  let e := (reed s d).entry k
  done (if triggered s d k 6 then
    afterFiring (if e.chan < 96 ∧ chanUp s (96 * d + e.chan) = true then markAct s (96 * d + e.chan) else s) d k else s)

/-- IRQ (R713): the event is pushed into EVFIFO of 16 entries. -/
def execIrq (die : BitVec 3) (index : BitVec 12) (s : State) : Host.Outcome State Fault Refusal :=
  let d := die.toNat
  let k := index.toNat
  let e := (reed s d).entry k
  let r := reed s d
  let w := fval 35 35 1 ||| fval 34 27 e.comp.toNat ||| fval 26 15 e.key ||| fval 14 12 e.refNo ||| fval 11 0 k
  done (if triggered s d k 7 then
    afterFiring (if r.fifo.length < 16 then irqPend (evCount (setReed s d { r with fifo := r.fifo ++ [w] }) (reedPg d) 19) (reedPg d) 1
      else capture s (reedPg d) 12 k) d k else s)

/-! ## Reads -/

/-- A read of EVFIFO removes and returns the oldest entry (Table 9.8); one that arrived in the same fabric cycle stays (R17). -/
def evfifoLoad (s : State) (d : Nat) : Word × State :=
  match (reed s d).fifo with
  | [] => (0, s)
  | w :: rest =>
    if (reed s d).fifo.length ≤ (evNow s (reedPg d) 19).toNat then (0, s) else (w, setReed s d { reed s d with fifo := rest })

/-- EVFIFO_READ (R449). -/
def execEvfifoRead (die : BitVec 3) (s : State) : Host.Outcome State Fault Refusal :=
  done (unitDo s (reedPg die.toNat) (fun s => let r := evfifoLoad s die.toNat; replyWord r.2 r.1))

/-- The entries of a die in a state. -/
def Reed.countIn (r : Reed) (st : EvState) : Nat := (r.ev.filter (fun p => p.2.st == st)).length

/-- A read of EVCNT_0 latches EVCNT_1 (R447). -/
def evcnt0Load (s : State) (d : Nat) : Word × State :=
  let r := reed s d
  let pend := r.countIn .pending
  let armed := r.countIn .armed
  let fire := r.countIn .fire
  (fval 35 18 (4096 - pend - armed - fire) ||| fval 17 0 pend,
   setReed s d { r with evcnt1 := fval 35 18 armed ||| fval 17 0 fire })

/-- EVCNT_0_READ (R447). -/
def execEvcnt0Read (die : BitVec 3) (s : State) : Host.Outcome State Fault Refusal :=
  done (unitDo s (reedPg die.toNat) (fun s => let r := evcnt0Load s die.toNat; replyWord r.2 r.1))

end Sys2Proof.Machine
end

