-- ==== Sys2Proof/Machine/ChannelOps.lean ====
section
/-! DEFINITION. The channel block: sample frames and what the modes make of them (R457 to R461, R473, R477, R480 to
R483, R711), self-test (R463), proving and supervision (R469, R473, R474, R482), and the commands of the CBK and CHAN
pages (R462, R464 to R466, R483, R506, R516, R518, R709). -/

namespace Sys2Proof.Machine

/-- Whether the channel block of a region works. -/
def blockWorks (s : State) (g : Nat) : Bool := unitWorks s (cbkPg g)

/-- An effect on a channel whose block works. -/
def chanDo (s : State) (m : Nat) (f : State → State) : State := if m < chanCount s ∧ blockWorks s (m / 24) = true then f s else s

/-! ## Samples -/

/-- CODE of a voltage in microvolts: floor(V / 1.8 V × 65,536), clamped (R458). -/
def sampleCode (uv : Int) : Nat := (max 0 (min 65535 (uv * 65536 / 1800000))).toNat
/-- CLIP of a voltage in microvolts: at or beyond 0 V or 1.8 V (R458). -/
def sampleClip (uv : Int) : Bool := decide (uv ≤ 0 ∨ 1800000 ≤ uv)

/-- SNAOFF. -/
def snaOff (s : State) (m : Nat) : Nat := fld (chanReg s m 3) 33 18
/-- SNBOFF. -/
def snbOff (s : State) (m : Nat) : Nat := fld (chanReg s m 3) 15 0

/-- A free value of w bits (notes/assumptions/4.md). -/
def freeBits (s : State) (w : Nat) : Nat × State := ((Config.freeValue w s.fresh).toNat, { s with fresh := s.fresh + 1 })

/-- A Lamp channel adds a sample to the sums of its proving cycle (R473). -/
def lampSample (s : State) (m a b : Nat) : State :=
  let c := chan s m
  let x := (a : Int) - snaOff s m
  let y := (b : Int) - snbOff s m
  setChan s m { c with sumA := c.sumA + (x * x).toNat, sumB := c.sumB + (y * y).toNat, nSamp := c.nSamp + 1 }

/-- A Heater channel adds the product of a sample to its energy (R477). -/
def heaterSample (s : State) (m a b : Nat) : State :=
  let c := chan s m
  let p := (((a : Int) - snaOff s m) * ((b : Int) - snbOff s m)) / 65536
  setChan s m { c with enacc := c.enacc + BitVec.ofInt 72 p, encyc := c.encyc + p }

/-- A Generic channel's statistics since the previous MARK (R483). -/
def genericSample (s : State) (m a b : Nat) : State :=
  let c := chan s m
  setChan s m { c with
    minA := min c.minA a, maxA := max c.maxA a, totA := c.totA + a
    minB := min c.minB b, maxB := max c.maxB b, totB := c.totB + b, nMark := c.nMark + 1 }

/-- A timer that runs while a condition holds. -/
def timer (old : Option Nat) (on : Bool) (now : Nat) : Option Nat := if on then some (old.getD now) else none

/-- A sensor that recovers with no common instant counts in SINGLE (R481). -/
def axleSingle (was now_ common : Bool) : Nat := bnat (was && !now_ && !common)

/-- The wheel event of a channel is pushed to AXFIFO; a full FIFO captures cause 0o13 (R481, Table 10.11). -/
def wheelEvent (s : State) (m : Nat) (dir : Bool) (tt : Nat) : State :=
  let g := m / 24
  let c := chan s m
  let n := ((if dir then c.cnt1 else c.cnt0) + 1) % 2 ^ 18
  let s1 := setChan s m (if dir then { c with cnt1 := n } else { c with cnt0 := n })
  let b := block s1 g
  let w := fval 35 35 1 ||| fval 34 34 (bnat dir) ||| fval 33 29 (m % 24) ||| fval 17 0 n
  if b.axfifo.length < 32 then
    irqPend (evCount (setBlock s1 g { b with axfifo := b.axfifo ++ [(w, BitVec.ofNat 36 tt)] }) (cbkPg g) 24) (cbkPg g) 1
  else capture s1 (cbkPg g) 11 0

/-- The excitation at a sample instant, `age` fabric cycles ago, as the two demodulators see it (R479, R480): +1 while the
square wave is high and -1 while it is low, in phase and a quarter period ahead; 0 while the channel does not excite. -/
def excitation (s : State) (m age : Nat) : Int × Int :=
  let exc := fld (chanReg s m 4) 35 18
  let p := ((chan s m).phase + 300000000 - exc * age % 300000000) % 300000000
  let sign := fun (x : Nat) => if x % 300000000 < 150000000 then (1 : Int) else -1
  if bit (rget s (chanPg m) 5) 0 = true ∧ s.safety ≠ .mire then (sign p, sign (p + 75000000)) else (0, 0)

/-- A first-order low-pass of 50 µs at 4 µs to a sample: the new sample has weight 1 - exp(-4/50), in units of 2^-32
(R480). Values are in parts of 2^-16 code. -/
def lowPass (y x : Int) : Int := y + (x * 65536 - y) * 330212778 / 2 ^ 32

/-- The envelope of the filtered products, in codes (R480); the free value is what the spec's silence on the number format
leaves of it: one code either way (notes/assumptions/11.md). -/
def envelope (i q : Int) (free : Nat) : Nat := isqrt (i * i + q * q).toNat / 65536 + free % 3 - 1

/-- An Axle channel at a sample instant `at_` (tick) with the codes of SNA and SNB: the measured carrier is a value whose
arithmetic the spec does not state (notes/assumptions/11.md); envelopes, damping, wheels and supervision (R480 to R482). -/
def axleSample (s : State) (m at_ a b : Nat) : State :=
  let fa := freeBits s 2
  let fb := freeBits fa.2 2
  let ec := freeBits fb.2 18
  let tie := freeBits ec.2 1
  let s0 := tie.2
  let x := excitation s0 m (s0.ticks - at_)
  let va := (a : Int) - snaOff s0 m
  let vb := (b : Int) - snbOff s0 m
  let c0 := chan s0 m
  let s1 := setChan s0 m { c0 with iA := lowPass c0.iA (va * x.1), qA := lowPass c0.qA (va * x.2),
                                   iB := lowPass c0.iB (vb * x.1), qB := lowPass c0.qB (vb * x.2) }
  let c := chan s1 m
  let tt := ttAt s1 at_
  let ea := envelope c.iA c.qA fa.1
  let eb := envelope c.iB c.qB fb.1
  let wthr := fld (chanReg s m 6) 35 18
  let wmin := fld (chanReg s m 6) 17 0 * ticksPerUs
  let lo := fld (chanReg s m 5) 35 18
  let hi := fld (chanReg s m 5) 17 0
  let exc := fld (chanReg s m 4) 35 18
  let da := decide (ea < wthr)
  let db := decide (eb < wthr)
  let wasA := c.dampA.isSome
  let wasB := c.dampB.isSome
  let both := da && db && !c.common
  let common := c.common || (da && db)
  let lenA := match c.dampA with | some t => if da then c.dampedA else max c.dampedA (at_ - t) | none => c.dampedA
  let lenB := match c.dampB with | some t => if db then c.dampedB else max c.dampedB (at_ - t) | none => c.dampedB
  let past := !da && !db
  let c1 := { c with
    envA := ea, envB := eb, carrier := ec.1
    dampA := timer c.dampA da at_, dampB := timer c.dampB db at_
    firstB := if both then (if wasA then false else if wasB then true else tie.1 == 1) else c.firstB
    wheelTT := if both then tt else c.wheelTT
    common := common && !past, dampedA := if past then 0 else lenA, dampedB := if past then 0 else lenB
    single := (c.single + axleSingle wasA da common + axleSingle wasB db common) % 2 ^ 36
    supA := timer c.supA (!da && decide (ea < lo ∨ hi < ea)) at_
    supB := timer c.supB (!db && decide (eb < lo ∨ hi < eb)) at_
    supC := timer c.supC (decide (exc < 100 * (ec.1 - exc) ∨ exc < 100 * (exc - ec.1))) at_ }
  let s2 := setChan s1 m c1
  if past && common && decide (wmin ≤ lenA) && decide (wmin ≤ lenB) then wheelEvent s2 m c1.firstB c1.wheelTT else s2

/-- HYST of a reference in codes times 1,800 (Table 9.3, R711). -/
def hystCodes (s : State) (i : Nat) : Nat := hystMv s i * 65536

/-- The detector of a reference with SRC 2 at a sample of its input (R711): arming below midscale less HYST, the
crossing by linear interpolation from the last sample below midscale. -/
def senseDetect (s : State) (m a b at_ : Nat) (i : Nat) : State :=
  let cfg := rget s phrefPg (16 + 4 * i)
  if refSrc s i = 2 ∧ fld cfg 31 22 = m ∧ (ref s i).st ≠ .off then
    let v := if bit cfg 32 then b else a
    let r := ref s i
    if v < 32768 then
      setRef s i { r with armed := r.armed || decide (v * 1800 + hystCodes s i < 32768 * 1800), code := v, codeAt := at_ }
    else if r.armed then
      setRef s i { r with armed := false
                          due := some (r.codeAt + (at_ - r.codeAt) * (32768 - r.code) / max 1 (v - r.code)) }
    else s
  else s

/-- The level of ball FB, seen to have changed at a tick: the comparison of R469 starts or ends with it. -/
def fbSeen (s : State) (m : Nat) (fb : Bool) (at_ : Nat) : State :=
  let c := chan s m
  if c.fb = fb then s else setChan s m { c with fb := fb, fbSince := max c.fbSince at_ }

/-- A proving or metering cycle is dropped while its reference does not run. -/
def dropCycle (s : State) (m : Nat) : State :=
  let st := (ref s (chRef s m)).st
  if st = .locked ∨ st = .holdover then s else setChan s m (chan s m).noCycle

/-- One channel's sample of a frame that ends now (R457, R459): channel c was sampled 50c fabric cycles after the
frame's start. -/
def useSample (s : State) (g : Nat) (test : Bool) (p : Sample × Nat) : State :=
  let m := 24 * g + p.2
  let age := 1200 - 50 * p.2
  let at_ := s.ticks - age
  let s1 := fbSeen s m p.1.fb at_
  if test then s1
  else
    let a := sampleCode p.1.a
    let b := sampleCode p.1.b
    let s2 := (List.range 8).foldl (senseDetect · m a b at_ ·) (dropCycle s1 m)
    let mode := chMode s2 m
    if mode = 1 then lampSample s2 m a b
    else if mode = 2 then heaterSample s2 m a b
    else if mode = 3 then axleSample s2 m at_ a b
    else if mode = 4 then genericSample s2 m a b
    else s2

/-- The sample halves of a channel (Table 10.2). -/
def sampleWord (s : State) (m : Nat) (test : Bool) (x : Sample) : Word :=
  let fb := bnat (x.fb != bit (chcfg s m) 27)
  fval 35 35 (bnat (sampleClip x.a || test)) ||| fval 34 34 fb ||| fval 33 18 (sampleCode x.a) |||
  fval 17 17 (bnat (sampleClip x.b || test)) ||| fval 16 16 fb ||| fval 15 0 (sampleCode x.b)

/-- The ring takes a completed frame: 24 words, then SMPPOS and SMPTT advance (R460, R461). A failed write captures
cause 0o11. -/
def ringWrite (s : State) (g : Nat) (test : Bool) (xs : List Sample) : State :=
  let pg := cbkPg g
  if enabled s pg && bit (rget s pg 4) 2 then
    let b := block s g
    let nfr := max 1 (rfld s pg 17 17 9)
    let idx := if b.frame = 0 then 0 else (b.index + 1) % nfr
    let base := rfld s pg 16 29 0 + 24 * idx
    let s1 := xs.zipIdx.foldl (fun s p =>
      let pa := (base + p.2) % 2 ^ 30
      if memReach s pa = .ok then putFor s (.die (g / 4)) pa (sampleWord s (24 * g + p.2) test p.1) false
      else capture (memMiss s (g / 4) pa) pg 9 pa) s
    setBlock s1 g { block s1 g with frame := b.frame + 1, index := idx, smptt := BitVec.ofNat 36 (ttAt s (s.ticks - 1200)) }
  else s

/-- The judgement of a self-test frame (R463): channels 0 to 11 carry the conversions of 0.45 V, 12 to 23 those of
1.35 V (notes/assumptions/20.md). -/
def judgeTest (s : State) (g : Nat) (xs : List Sample) : State :=
  let near := fun (ys : List Nat) (want : Nat) =>
    let n := ys.foldl (· + ·) 0
    decide (12 * want ≤ n + 12 * 64 ∧ n ≤ 12 * want + 12 * 64)
  let a := xs.map (fun x => sampleCode x.a)
  let b := xs.map (fun x => sampleCode x.b)
  let ok := near (a.take 12) 16384 && near (b.take 12) 16384 && near (a.drop 12) 49152 && near (b.drop 12) 49152
  let s1 := setBlock s g { block s g with testPending := false, testNow := false, chkDone := true, chkPass := ok }
  if ok then s1 else capture s1 (cbkPg g) 12 0

/-- SAMPLE_FRAME (R457 to R461, R463): a frame of 24 channels is complete; where a self-test is requested, the frame that
begins now is its frame. -/
def execSampleFrame (region : BitVec 5) (samples : List Sample) (s : State) : Host.Outcome State Fault Refusal :=
  let g := region.toNat
  let xs := samples.take 24
  done (if blockWorks s g = true ∧ xs.length = 24 then
    let test := (block s g).testNow
    let s1 := xs.zipIdx.foldl (fun s p => useSample s g test p) s
    let s2 := ringWrite s1 g test xs
    if test then judgeTest s2 g xs else setBlock s2 g { block s2 g with testNow := (block s2 g).testPending }
  else s)

/-! ## The CBK page -/

/-- A write of CTL.SELFTEST = 1 (R463). -/
def selftestReq (s : State) (g : Nat) : State :=
  if s.safety = .proof then setBlock s g { block s g with testPending := true } else captureAt s (cbkPg g) 8 4

/-- SELFTEST (R463). -/
def execSelftest (region : BitVec 5) (s : State) : Host.Outcome State Fault Refusal :=
  let g := region.toNat
  done (unitDo s (cbkPg g) (fun s => unlessLocked s (cbkPg g) 4 (fun s => selftestReq s g)))

/-- Why a CBK enable is refused (R462): NFR is 0, or the ring lies outside one bank of the block's own region. -/
def cbkWhy (s : State) (g : Nat) : Option Nat :=
  let nfr := rfld s (cbkPg g) 17 17 9
  let lo := rfld s (cbkPg g) 16 29 0
  let hi := lo + 24 * nfr - 1
  if nfr = 0 ∨ lo / 65536 ≠ hi / 65536 ∨ lo / 262144 ≠ g then some 10 else none

/-- CBK_ENABLE (R76, R462). -/
def execCbkEnable (region : BitVec 5) (s : State) : Host.Outcome State Fault Refusal :=
  let pg := cbkPg region.toNat
  done (unitDo s pg (fun s => unlessLocked s pg 4 (fun s => enable s pg (cbkWhy s region.toNat))))

/-- A read of AXEV_0 removes the oldest event and latches AXEV_1 (Table 10.11); one that arrived in the same fabric
cycle stays (R17). -/
def axevLoad (s : State) (g : Nat) : Word × State :=
  let b := block s g
  match b.axfifo with
  | [] => (0, s)
  | (w, t) :: rest =>
    if b.axfifo.length ≤ (evNow s (cbkPg g) 24).toNat then (0, s) else (w, setBlock s g { b with axfifo := rest, axev1 := t })

/-- AXEV_READ (R516). -/
def execAxevRead (region : BitVec 5) (s : State) : Host.Outcome State Fault Refusal :=
  done (unitDo s (cbkPg region.toNat) (fun s => let r := axevLoad s region.toNat; replyWord r.2 r.1))

/-! ## Proving and supervision -/

/-- The end of a proving cycle: RMSA and RMSB of its samples, and its judgement (R473, R474). A cycle with no sample has no
RMS and is not judged (notes/assumptions/20.md). -/
def judgeLamp (s : State) (m : Nat) : State :=
  let c := chan s m
  let a := isqrt (c.sumA / c.nSamp)
  let b := isqrt (c.sumB / c.nSamp)
  let c1 := { c with rms := if c.nSamp = 0 then c.rms else fval 35 18 a ||| fval 17 0 b }
  if c.changed then setChan s m { c1 with changed := false, skip := 1 }
  else if c.skip ≠ 0 then setChan s m { c1 with skip := 0 }
  else if c.nSamp = 0 then s
  else
    let p0 := chanReg s m 4
    if c.lit = true ∧ fld p0 35 18 ≤ a ∧ a ≤ fld p0 17 0 then setChan s m { c1 with proved := true, darkok := false }
    else if c.lit = false ∧ a ≤ fld (chanReg s m 5) 35 18 then setChan s m { c1 with darkok := true, proved := false }
    else
      let s1 := irqPend (setChan s m { c1 with proved := false, darkok := false, provfail := (c.provfail + 1) % 2 ^ 36 })
        (cbkPg (m / 24)) 2
      if bit (chcfg s m) 17 then safeEnter s1 m 11 0 0 else s1

/-- The end of a cycle that is not judged: what a change of lit or level leaves unjudged passes with it (R473). -/
def Chan.aged (c : Chan) : Chan := { c with skip := bnat c.changed, changed := false }

/-- The end of a whole cycle of CHCFG.REF in a mode (R473, R477, R478). -/
def cycleEnd (s : State) (m : Nat) : State :=
  if chMode s m = 1 then judgeLamp s m
  else if chMode s m = 2 then
    let c := chan s m
    setChan s m { c with encycShown := wordOfInt c.encyc, cyclesNow := c.cyclesNow + 1 }
  else setChan s m (chan s m).aged

/-- PROVING_CYCLE_END (R473, R474, R477): the channel's reference has begun a new cycle. -/
def execProvingCycleEnd (m : BitVec 10) (s : State) : Host.Outcome State Fault Refusal :=
  let k := m.toNat
  let i := chRef s k
  let cyc := (refNow s i).toNat / 2 ^ 24
  done (chanDo s k (fun s =>
    if ((ref s i).st = .locked ∨ (ref s i).st = .holdover) ∧ (chan s k).cycAt ≠ some cyc then
      let s1 := if (chan s k).cycAt.isSome then cycleEnd s k else s
      setChan s1 k { chan s1 k with cycAt := some cyc, sumA := 0, sumB := 0, nSamp := 0, encyc := 0 }
    else s))

/-- FEEDBACK_TIMEOUT (R469): ball FB has had a level for `l.age` fabric cycles; where FB, so seen, has differed from GD for longer
than FBTIME since the last edge of either, the channel enters its safe state, and the page shows the fault (R516). GD is the level at
the ball. -/
def execFeedbackTimeout (l : FbLevel) (s : State) : Host.Outcome State Fault Refusal :=
  let k := l.chan.toNat
  done (chanDo s k (fun s =>
    let c := chan s k
    let s1 := setChan s k { c with fb := l.fb, fbSince := max c.fbSince (s.ticks - l.age.toNat) }
    if bit (chcfg s k) 26 && (conducts s1 k != gdBall s k) &&
        decide (max 1 (fld (chcfg s k) 25 18) * ticksPerUs < s.ticks - (chan s1 k).fbSince) then
      irqPend (safeEnter s1 k 10 0 0) (cbkPg (k / 24)) 2
    else s1))

/-- AXLE_SUPERVISION_TIMEOUT (R482): a condition has lasted longer than SUPTIME. -/
def execAxleSupervisionTimeout (m : BitVec 10) (s : State) : Host.Outcome State Fault Refusal :=
  let k := m.toNat
  let c := chan s k
  let limit := fld (chanReg s k 7) 35 18 * ticksPerUs
  let late := fun (t : Option Nat) => match t with | some t => decide (limit < s.ticks - t) | none => false
  done (chanDo s k (fun s =>
    if chMode s k = 3 ∧ (late c.supA || late c.supB || late c.supC || late c.dampA || late c.dampB) = true then
      safeEnter (setChan s k { c with disturbed := true }) k 12 0 0
    else s))

/-! ## Configuration and control -/

/-- A refused write of a CHAN page (R518). -/
def chanRefuse (s : State) (m cause : Nat) : State := capture s (chanPg m) cause (m % 24)

/-- Whether a write to CHCFG is performed (R464 to R466). -/
def chcfgAllowed (s : State) (m : Nat) (v : Word) : Bool :=
  let mode := fld v 35 33
  let vital := bit v 32
  quiet s m && decide (mode ≤ 4) && !(vital && decide (mode = 0 ∨ mode = 3)) &&
  (!((vital || chVital s m) && (decide (mode ≠ chMode s m) || (vital != chVital s m))) ||
    s.safety == .boot || s.safety == .proof)

/-- What a new CHCFG changes beside the register: a cycle in progress ends with a change of MODE or REF, the comparison of R469
restarts with one of FBPOL or FBEN, and with one of MODE the gate drive goes low (R451), 100 ns after its last edge at the earliest
(R444), and nothing is watched any longer of what an Axle channel watches (R480 to R482). A channel that goes Off goes on to show
its measurements (R709). -/
def reconfigured (s0 s1 : State) (m : Nat) : State :=
  let c := chan s1 m
  let newMode := chMode s1 m != chMode s0 m
  let c1 := if newMode || (chRef s1 m != chRef s0 m) then c.noCycle else c
  let c2 := if fld (chcfg s1 m) 27 26 = fld (chcfg s0 m) 27 26 then c1 else { c1 with fbSince := s1.ticks }
  if newMode then
    gdTo (setChan s1 m { c2 with
      supA := none, supB := none, supC := none, dampA := none, dampB := none, common := false, dampedA := 0, dampedB := 0
      iA := 0, qA := 0, iB := 0, qB := 0, measMode := if chMode s1 m = 0 then chMode s0 m else 0 }) m false
  else setChan s1 m c2

/-- A write to CHCFG (R464 to R466, R517). -/
def chcfgStore (s : State) (m : Nat) (v : Word) : State :=
  unlessLocked s (chanPg m) (chanOff m 0) (fun s =>
    if chcfgAllowed s m v then reconfigured s (writeFields s (chanPg m) (chanOff m 0) v) m else chanRefuse s m 8)

/-- A write to P0: in Axle mode EXCFREQ outside 28,000 to 43,000 is refused (R479). -/
def p0Store (s : State) (m : Nat) (v : Word) : State :=
  unlessLocked s (chanPg m) (chanOff m 4) (fun s =>
    if chMode s m = 3 ∧ (fld v 35 18 < 28000 ∨ 43000 < fld v 35 18) then chanRefuse s m 8
    else writeFields s (chanPg m) (chanOff m 4) v)

/-- CHCTL.REL (R506). -/
def relReq (s : State) (m : Nat) : State :=
  if chVital s m then chanRefuse s m 9
  else if (chan s m).safe = false then s
  else if (chan s m).gd = false ∧ conducts s m = false ∧ s.safety ≠ .mire then safeLeave s m
  else chanRefuse s m 9

/-- CHCTL.GD (R483, Table 10.12). -/
def gdReq (s : State) (m v : Nat) : State :=
  if v = 0 then s
  else if v = 3 ∨ chVital s m = true ∨ chMode s m ≠ 4 ∨ (v = 2 ∧ (chan s m).safe = true) then chanRefuse s m 9
  else
    let s1 := setLit s m (decide (v = 2)) (chan s m).level
    applyGd (setChan s1 m { chan s1 m with burstOn := false, burstArm := [], offArm := [] }) m

/-- A write to CHCTL: SAFE, then REL, then GD. -/
def chctlStore (s : State) (m : Nat) (v : Word) : State :=
  let s1 := if bit v 3 then safeEnter s m 9 0 0 else s
  let s2 := if bit v 2 then relReq s1 m else s1
  gdReq s2 m (fld v 1 0)

/-- CHCFG_WRITE (R464). -/
def execChcfgWrite (m : BitVec 10) (v : Word) (s : State) : Host.Outcome State Fault Refusal :=
  done (chanDo s m.toNat (fun s => chcfgStore s m.toNat v))

/-- CHCTL_SAFE (R501): cause 9. -/
def execChctlSafe (m : BitVec 10) (s : State) : Host.Outcome State Fault Refusal :=
  done (chanDo s m.toNat (fun s => safeEnter s m.toNat 9 0 0))

/-- REL (R506). -/
def execRel (m : BitVec 10) (s : State) : Host.Outcome State Fault Refusal :=
  done (chanDo s m.toNat (fun s => relReq s m.toNat))

/-- CHCTL_GD_ON (R483). -/
def execChctlGdOn (m : BitVec 10) (s : State) : Host.Outcome State Fault Refusal :=
  done (chanDo s m.toNat (fun s => gdReq s m.toNat 2))

/-- CHCTL_GD_OFF (R483). -/
def execChctlGdOff (m : BitVec 10) (s : State) : Host.Outcome State Fault Refusal :=
  done (chanDo s m.toNat (fun s => gdReq s m.toNat 1))

/-- The mode whose measurements M0 to M3 show: of a channel that is Off, the last one (R709). -/
def measMode (s : State) (m : Nat) : Nat := if chMode s m = 0 then (chan s m).measMode else chMode s m

/-- A read of M1; on a Heater channel it latches M2 (R517). -/
def m1Load (s : State) (m : Nat) : Word × State :=
  let c := chan s m
  let mode := measMode s m
  if mode = 2 then (c.enlast.setWidth 36, setChan s m { c with m2 := (c.enlast >>> 36).setWidth 36 })
  else if mode = 1 then (BitVec.ofNat 36 c.provfail, s)
  else if mode = 3 then (fval 35 18 c.cnt0 ||| fval 17 0 c.cnt1, s)
  else if mode = 4 then (c.g1, s)
  else (0, s)

/-- M1_READ (R517). -/
def execM1Read (m : BitVec 10) (s : State) : Host.Outcome State Fault Refusal :=
  done (chanDo s m.toNat (fun s => let r := m1Load s m.toNat; replyWord r.2 r.1))

/-- CTL.SRST of CHAN_j (R709): common registers, and the configuration of the channels where a CHCFG write of the
reset value would be performed. -/
def chanReset (s : State) (g j : Nat) : State :=
  let pg := regionPg g (33 + j)
  unlessLocked s pg 4 (fun s =>
    let ok := fun k => chcfgAllowed s (24 * g + 8 * j + k) (regDefault (pg * 512 + 64 + 32 * k))
    (List.range 8).foldl (fun t k => reconfigured s t (24 * g + 8 * j + k)) { s with regs := kkeep s.regs (fun key =>
        decide (key / 512 ≠ pg) || decide (key % 512 = 10) ||
        (decide (64 ≤ key % 512) && !(decide (key % 32 < 8) && ok (key % 512 / 32 - 2)))) })

/-- CHAN_SRST (R709). -/
def execChanSrst (region : BitVec 5) (j : BitVec 2) (s : State) : Host.Outcome State Fault Refusal :=
  done (unitDo s (regionPg region.toNat (33 + j.toNat)) (fun s =>
    if j.toNat = 3 then s else chanReset s region.toNat j.toNat))

/-! ## Edges on the channel's own schedule -/

/-- What waits for a crossing that has come, with the time since it in parts of a fabric cycle (R475). -/
def armsDue (s : State) (l : List Armed) (on : Bool) : List (Int × Bool × Armed) :=
  (l.filter (fun a => decide (0 ≤ stampDiff (refNow s a.ref) (BitVec.ofNat 36 a.at_)))).map (fun a =>
    (stampDiff (refNow s a.ref) (BitVec.ofNat 36 a.at_) * (refPeriod s a.ref : Nat), on, a))

/-- A crossing into a list in order: the earlier first, and at one crossing the GDOFF, for a BURST that it was to stop waits no
longer (R475). -/
def inOrder (x : Int × Bool × Armed) (l : List (Int × Bool × Armed)) : List (Int × Bool × Armed) :=
  match l with
  | [] => [x]
  | y :: rest => if y.1 < x.1 ∨ (y.1 = x.1 ∧ x.2.1 = false) then x :: y :: rest else y :: inOrder x rest

/-- A BURST that waited begins, or a GDOFF that waited ends what burst there is (R475). -/
def burstEdge (s : State) (m : Nat) (x : Int × Bool × Armed) : State :=
  let a := x.2.2
  drive s (m / 96) a.idx m (fun s => setChan s m
    (if x.2.1 then (chan s m).burst a
    else { chan s m with burstOn := false, offArm := (chan s m).offArm.filter (fun b => b.ref != a.ref) }))

/-- The crossings that a channel waits for and that have come, in their order (R475). -/
def burstEdges (s : State) (m : Nat) : State :=
  ((armsDue s (chan s m).burstArm true ++ armsDue s (chan s m).offArm false).foldr inOrder []).foldl (burstEdge · m ·) s

/-- PHASE_CONTROL_EDGE (R471, R472, R475, R479, R483): the gate drive follows the channel's own schedule. -/
def execPhaseControlEdge (m : BitVec 10) (s : State) : Host.Outcome State Fault Refusal :=
  done (chanDo s m.toNat (fun s => applyGd (burstEdges s m.toNat) m.toNat))

end Sys2Proof.Machine
end

