-- ==== Sys2Proof/Machine/EmpOps.lean ====
section
/-! DEFINITION. The external memory ports (R573 to R580): training, refresh rate, patrol scrub. -/

namespace Sys2Proof.Machine

/-- The page of an external memory port. -/
def empPg (i : Nat) : Nat := pkgPg (32 + i)

/-- Writes an external memory port. -/
def setEmp (s : State) (i : Nat) (e : Emp) : State := { s with emps := kset (fun _ => Emp.init) s.emps i e }

/-- Why an enable is refused: DENS is 0 (Table 11.15). -/
def empWhy (s : State) (i : Nat) : Option Nat := if rfld s (empPg i) 4 4 3 = 0 then some 10 else none

/-- The end of the training (R575, R576, R580): RATE and DENS are in force, or the port is disabled with cause 0o10. -/
def empJudge (s : State) (i : Nat) (ok : Bool) (channel : Nat) : State :=
  let pg := empPg i
  let r := rfld s pg 4 6 5
  if ok then setEmp s i { emp s i with trained := true, dens := rfld s pg 4 4 3, rate := if r = 3 then 0 else r }
  else capture (rset (setEmp s i { emp s i with trained := false }) pg 4 (setBit (rget s pg 4) 0 false)) pg 8 channel

/-- EMP_ENABLE (R76, R575): CTL.EN is written 1, and the memory is initialised and trained. -/
def execEmpEnable (port : Bool) (trained : Bool) (channel : BitVec 2) (s : State) : Host.Outcome State Fault Refusal :=
  let i := bnat port
  let pg := empPg i
  done (unitDo s pg (fun s => unlessLocked s pg 4 (fun s =>
    let s1 := if enabled s pg then s else enable s pg (empWhy s i)
    if enabled s1 pg then empJudge s1 i trained channel.toNat else s1)))

/-- MR4_POLL (R577). -/
def execMr4Poll (port : Bool) (rate : BitVec 3) (s : State) : Host.Outcome State Fault Refusal :=
  let i := bnat port
  done (unitDo s (empPg i) (fun s => if (emp s i).trained then rset s (empPg i) 20 (fval 2 0 rate.toNat) else s))

/-- One word of a burst is read and corrected (R578). -/
def scrubWord (s : State) (a : Nat) : State :=
  let w := mget s a
  match w.ecc with
  | .good => s
  | .single => eccCorrected { mset s a { w with ecc := .good } with eccWb := s.eccWb.filter (fun b => b != a) } a
  | .double => eccLost s a

/-- One burst of 16 words is read and corrected, in ascending order (R573, R578). -/
def scrubBurst (s : State) (i : Nat) : State :=
  let e := emp s i
  let base := (4 + 2 * i) * 134217728 + e.scrub
  let s1 := (List.range 16).foldl (fun s k => scrubWord s (base + k)) s
  setEmp s1 i { e with scrub := (e.scrub + 16) % empWords e.dens, scrubAt := some s.ticks }

/-- A burst is due: SCRUBINT µs have passed since the last one; 0 acts as 1 (R578, Table 11.15). -/
def scrubDue (s : State) (i : Nat) : Bool :=
  match (emp s i).scrubAt with
  | some t => decide (t + max 1 (rfld s (empPg i) 16 17 0) * ticksPerUs ≤ s.ticks)
  | none => true

/-- SCRUB_BURST (R578): while SCRUBEN is 1, once every SCRUBINT µs. -/
def execScrubBurst (port : Bool) (s : State) : Host.Outcome State Fault Refusal :=
  let i := bnat port
  done (unitDo s (empPg i) (fun s =>
    if (emp s i).trained && bit (rget s (empPg i) 4) 7 && scrubDue s i then scrubBurst s i else s))

end Sys2Proof.Machine
end

