-- ==== Sys2Proof/Machine/Sluice.lean ====
section
/-! DEFINITION. Sluice: lanes (R484, R485, R715), proposal slots (R486), the decision of a submission (R487 to R492),
commits and their release (R495), dissents (R496), tokens (R497), receipts (R499), release of the safe state (R505)
and the commands of the SLUICE and PROP pages. -/

namespace Sys2Proof.Machine

/-! ## Lanes -/

/-- CTL.V3 in force (R485, R519): 0 without lane C or while VOTE3 is not accepted. -/
def v3On (s : State) (g : Nat) : Bool :=
  decide (s.part = .tfw8x) && bit (rget s (sluicePg g) 4) 2 && bit (rget s (sluicePg g) 3) 1

/-- LANE_l of a region. -/
def laneReg (s : State) (g l : Nat) : Word := rget s (sluicePg g) (17 + l)

/-- A lane is bound (R715). -/
def laneBound (s : State) (g l : Nat) : Bool := bit (laneReg s g l) 35 && (decide (l < 2) || (decide (l = 2) && v3On s g))

/-- The compartment of a lane. -/
def laneComp (s : State) (g l : Nat) : Nat := fld (laneReg s g l) 34 27

/-- The bindings meet R484, with V3 as given. -/
def laneOk (s : State) (g : Nat) (v3 : Bool) : Bool :=
  let d := g / 4
  let a := compcls s d (laneComp s g 0)
  let b := compcls s d (laneComp s g 1)
  let c := compcls s d (laneComp s g 2)
  bit (laneReg s g 0) 35 && bit (laneReg s g 1) 35 && clsVital a && clsVital b &&
  decide (clsPair a = laneComp s g 1) && decide (clsPair b = laneComp s g 0) && decide (clsDie a ≠ clsDie b) &&
  (!v3 || (bit (laneReg s g 2) 35 && clsVital c && decide (clsDie c ≠ clsDie a) && decide (clsDie c ≠ clsDie b)))

/-- A commit without lane C: one that lane C held with one other lane is none. -/
def Commit.withoutC (c : Commit) : Option Commit :=
  let ls := c.lanes.filter (fun p => p.1 != 2)
  if ls.length < 2 then none else some { c with lanes := ls, dissents := c.dissents.filter (fun l => l != 2) }

/-- V3 has gone to 0 (R492, R497, R715): lane C takes part in no window and no commit. A window that only it was in, and a commit
that it held with one other lane, return to Idle (DESIGN CHOICE, notes/assumptions/86.md). -/
def dropLaneC (s0 s1 : State) (g : Nat) : State :=
  if v3On s0 g && !v3On s1 g then
    let v := voter s1 g
    let wins := v.wins.map (fun w => { w with props := w.props.filter (fun p => p.lane != 2) })
    setVoter s1 g { v with wins := wins.filter (fun w => !w.props.isEmpty), commits := v.commits.filterMap Commit.withoutC }
  else s1

/-- Bindings and V3 may change: EN is 0 and the safety run state is Boot or Proof (R485). -/
def mayBind (s : State) (g : Nat) : Bool := !enabled s (sluicePg g) && (s.safety == .boot || s.safety == .proof)

/-! ## Windows, commits and tokens -/

/-- CWIN in ns. -/
def cwin (s : State) (g : Nat) : Nat := rfld s (sluicePg g) 16 24 14 * 1000

/-- CHOLD in ns; 0 acts as 1 ms. -/
def chold (s : State) (g : Nat) : Nat := max 1 (rfld s (sluicePg g) 16 13 0) * 1000000

/-- The open window of a channel and KEY. -/
def Voter.window (v : Voter) (m : Nat) (key : BitVec 12) : Option Window :=
  v.wins.find? (fun w => decide (w.chan = m ∧ w.key = key))

/-- The commit held for a channel and KEY. -/
def Voter.commit (v : Voter) (m : Nat) (key : BitVec 12) : Option Commit :=
  v.commits.find? (fun c => decide (c.chan = m ∧ c.key = key))

/-- OPEN tokens of a lane (R497). -/
def Voter.openTok (v : Voter) (l : Nat) : Nat := (v.wins.filter (fun w => w.props.any (fun p => p.lane == l))).length

/-- HELD tokens of a lane (R497). -/
def Voter.heldTok (v : Voter) (l : Nat) : Nat := (v.commits.filter (fun c => c.lanes.any (fun p => p.1 == l))).length

/-- FREE tokens of a lane: 32 in all (R497). -/
def Voter.freeTok (v : Voter) (l : Nat) : Nat := 32 - v.openTok l - v.heldTok l

/-- Windows and commits of a channel (R491). -/
def Voter.count (v : Voter) (m : Nat) : Nat :=
  (v.wins.filter (fun w => w.chan == m)).length + (v.commits.filter (fun c => c.chan == m)).length

/-- The voter without the window of a channel and KEY. -/
def Voter.dropWin (v : Voter) (m : Nat) (key : BitVec 12) : Voter :=
  { v with wins := v.wins.filter (fun w => !decide (w.chan = m ∧ w.key = key)) }

/-- The voter without the commit of a channel and KEY. -/
def Voter.dropCommit (v : Voter) (m : Nat) (key : BitVec 12) : Voter :=
  { v with commits := v.commits.filter (fun c => !decide (c.chan = m ∧ c.key = key)) }

/-- Writes the window of a channel and KEY in place, or at the end. -/
def Voter.putWin (v : Voter) (w : Window) : Voter :=
  if (v.window w.chan w.key).isSome then
    { v with wins := v.wins.map (fun x => if x.chan = w.chan ∧ x.key = w.key then w else x) }
  else { v with wins := v.wins ++ [w] }

/-- Lanes present in a list of lanes, lane A at bit 0. -/
def laneMask (ls : List Nat) : Nat := (List.range 3).foldl (fun n l => if ls.contains l then n + 2 ^ l else n) 0

/-! ## Receipts -/

/-- One receipt word: a failed write captures cause 0o14 (R499); die services record what answers no access (R59). -/
def receiptWord (g : Nat) (r : Bool × State) (w : Nat × Word × Bool) : Bool × State :=
  let pa := w.1 % 2 ^ 30
  if memReach r.2 pa = .ok then (r.1, putFor r.2 (.die (g / 4)) pa w.2.1 w.2.2)
  else
    let s := memMiss r.2 (g / 4) pa
    (true, if r.1 then s else capture s (sluicePg g) 12 pa)

/-- The receipt of a commit into the ring of a lane (R499, Table 10.6). -/
def writeReceipt (s : State) (g : Nat) (c : Commit) (l : Nat) : State :=
  let pg := propPg g l
  let cfg := rget s pg 21
  if laneBound s g l && bit cfg 35 then
    let seq := rget s pg 22
    let off := 8 * (seq.toNat % 2 ^ min 10 (fld cfg 3 0))
    let a := fld (rget s pg 19) 29 0 + off
    let v := (fld (rget s pg 20) 29 0 + off) % 2 ^ 30
    let cp := mkCap 0 61 v 8 v
    let cmd := fval 35 32 1 ||| fval 31 28 c.action ||| fval 27 23 (c.chan % 24) ||| fval 11 0 c.key.toNat
    let ws : List (Nat × Word × Bool) :=
      [(a, cp.hi, true), (a + 1, cp.lo, true), (a + 2, cmd, false),
       (a + 3, fval 35 33 (laneMask (c.lanes.map (fun p => p.1))) ||| fval 17 0 c.arg, false),
       (a + 4, BitVec.ofNat 36 s.tt, false), (a + 5, BitVec.ofNat 36 (s.tt / 2 ^ 36), false),
       (a + 6, seq, false), (a + 7, 0, false)]
    let r := ws.foldl (receiptWord g) (false, s)
    rset r.2 pg 22 (seq + 1)
  else s

/-! ## Decisions -/

/-- A submission as Sluice decides it: region, lane, stamp, OP, ACTION, package channel, block channel, KEY, ARG. -/
structure Submit where
  g : Nat
  lane : Nat
  st : Stamp
  op : Nat
  action : Nat
  chan : Nat
  key : BitVec 12
  arg : Option Nat
  deriving DecidableEq, Repr

/-- A submission of PCMD (Table 10.15). -/
def submitOf (g lane : Nat) (st : Stamp) (v : Word) (arg : Option Nat) : Submit :=
  { g := g, lane := lane, st := st, op := fld v 35 32, action := fld v 31 28, chan := fld v 27 23,
    key := BitVec.ofNat 12 (fld v 11 0), arg := arg }

/-- The package channel of a submission. -/
def Submit.m (x : Submit) : Nat := 24 * x.g + x.chan

/-- A dissent is counted and reported (R496). -/
def dissent (s : State) (g m lane : Nat) : State :=
  irqPend (capture (rinc s (sluicePg g) 24 23 12) (sluicePg g) 10 (65536 * lane + m % 24)) (sluicePg g) 2

/-- The safe state by Sluice: SLCNT of causes 1 and 2, and a mismatch stops the generators (R492, R509). -/
def sluiceSafe (s : State) (m cause : Nat) (key : BitVec 12) (lanes : Nat) : State :=
  let pg := sluicePg (m / 24)
  let s1 := if cause = 1 then rinc s pg 23 17 0 else if cause = 2 then rinc s pg 24 35 24 else s
  let s2 := clearVoter (safeEnter s1 m cause key.toNat lanes) m
  if cause = 2 then venMismatch s2 else s2

/-- Whether a Reed entry of a channel with a KEY is Armed (R495). -/
def armedFor (s : State) (m : Nat) (key : BitVec 12) : Bool :=
  (reed s (m / 96)).ev.any (fun p => p.2.st == .armed && decide (p.2.chan = m % 96 ∧ p.2.key = key.toNat))

/-- A commit is made: the matching proposals hold it, the others dissent, receipts are written (R492, R495, R499). -/
def makeCommit (s : State) (x : Submit) (w : Window) : State :=
  let arg := x.arg.getD 0
  let agree := fun (p : Proposal) => !p.release && p.action == x.action && p.arg == arg
  let others := w.props.filter (fun p => !p.release && !agree p)
  let c : Commit := { chan := x.m, key := x.key, action := x.action, arg := arg,
                      lanes := (w.props.filter agree).map (fun p => (p.lane, p.die)) ++ [(x.lane, x.st.die)],
                      dissents := others.map (fun p => p.lane), start := s.tt, armed := armedFor s x.m x.key, tick := s.ticks }
  let v := (voter s x.g).dropWin x.m x.key
  let s1 := setVoter s x.g { v with commits := v.commits ++ [c] }
  let s2 := irqPend (rinc s1 (sluicePg x.g) 23 35 18) (sluicePg x.g) 3
  let s3 := others.foldl (fun s p => dissent s x.g x.m p.lane) s2
  (List.range 3).foldl (fun s l => writeReceipt s x.g c l) s3

/-- The channel may leave its safe state: GD low, FB not conducting, not in Mire (R505, R506). -/
def canRelease (s : State) (m : Nat) : Bool := !(chan s m).gd && !conducts s m && s.safety != .mire

/-- The first refusal of Table 10.4 that applies: rows 8, 13, 9, 10, 15, 16, 12, 11. -/
def submitRefusal (s : State) (x : Submit) : Option Nat :=
  let v := voter s x.g
  let w := v.window x.m x.key
  let c := v.commit x.m x.key
  let mine := match w with | some w => w.props.any (fun p => p.lane == x.lane) | none => false
  let ask := decide (x.op = 1 ∨ x.op = 3)
  let v3 := v3On s x.g
  if enabled s (sluicePg x.g) = false ∨ laneBound s x.g x.lane = false ∨ x.st.comp.toNat ≠ laneComp s x.g x.lane then some 8
  else if x.op = 0 ∨ 4 < x.op ∨ 23 < x.chan ∨
      (x.op = 1 ∧ (actionAllowed (chMode s x.m) x.action = false ∨ x.arg.isNone = true)) then some 13
  else if chVital s x.m = false then some 9
  else if x.op = 1 ∧ (chan s x.m).safe = true then some 10
  else if (x.op = 3 ∧ (chan s x.m).safe = false) ∨ (x.op = 4 ∧ mine = false) then some 15
  else if (ask = true ∧ mine = true) ∨
      (x.op = 1 ∧ (match c with
        | some c => !v3 || c.lanes.any (fun p => p.1 == x.lane) || c.dissents.contains x.lane
        | none => false) = true) then some 16
  else if (match w with | some w => w.props.any (fun p => p.lane != x.lane && p.die == x.st.die) | none => false) = true ∨
      (x.op = 1 ∧ (match c with | some c => c.lanes.any (fun p => p.1 != x.lane && p.2 == x.st.die) | none => false) = true)
  then some 12
  else if ask = true ∧ (v.freeTok x.lane = 0 ∨ (w.isNone = true ∧ (x.op = 3 ∨ c.isNone = true) ∧ 4 ≤ v.count x.m)) then some 11
  else none

/-- A proposal joins its window, or opens one with T0 now (R489, Table 10.5, R717). -/
def joinWindow (s : State) (x : Submit) : State :=
  let v := voter s x.g
  let p : Proposal := { lane := x.lane, die := x.st.die, release := decide (x.op = 3), action := x.action, arg := x.arg.getD 0 }
  match v.window x.m x.key with
  | some w => setVoter s x.g (v.putWin { w with props := w.props ++ [p] })
  | none => setVoter s x.g (v.putWin { chan := x.m, key := x.key, t0 := s.tt, props := [p] })

/-- An accepted PROPOSE (rows 14, 1, 2, 3 and 0 of Table 10.4). -/
def propose (s : State) (x : Submit) : Nat × State :=
  let v := voter s x.g
  let arg := x.arg.getD 0
  match v.commit x.m x.key with
  | some c =>
    if c.action = x.action ∧ c.arg = arg then
      (2, setVoter s x.g { v with commits := v.commits.map (fun y =>
        if y.chan = x.m ∧ y.key = x.key then { y with lanes := y.lanes ++ [(x.lane, x.st.die)] } else y) })
    else
      (3, dissent (setVoter s x.g { v with commits := v.commits.map (fun y =>
        if y.chan = x.m ∧ y.key = x.key then { y with dissents := y.dissents ++ [x.lane] } else y) }) x.g x.m x.lane)
  | none =>
    match v.window x.m x.key with
    | none => (0, joinWindow s x)
    | some w =>
      let asks := w.props.filter (fun p => !p.release)
      if asks.any (fun p => p.action == x.action && p.arg == arg) then (1, makeCommit s x w)
      else if !v3On s x.g && !asks.isEmpty then
        (14, sluiceSafe s x.m 2 x.key (laneMask (x.lane :: w.props.map (fun p => p.lane))))
      else (0, joinWindow s x)

/-- An accepted RELEASE (rows 18, 6 and 5 of Table 10.4, R505). -/
def releaseOp (s : State) (x : Submit) : Nat × State :=
  let v := voter s x.g
  match v.window x.m x.key with
  | some w =>
    if w.props.any (fun p => p.release) then
      if canRelease s x.m then (5, safeLeave (setVoter s x.g (v.dropWin x.m x.key)) x.m) else (18, s)
    else (6, joinWindow s x)
  | none => (6, joinWindow s x)

/-- A window that has reached T0 + CWIN closes (R489, R492, R505): the safe state where proposals were present. -/
def closeWindow (s : State) (g : Nat) (w : Window) : State :=
  let asks := w.props.filter (fun p => !p.release)
  let s1 := setVoter s g ((voter s g).dropWin w.chan w.key)
  if asks.isEmpty then s1
  else sluiceSafe s1 w.chan (if 2 ≤ asks.length then 2 else 1) w.key (laneMask (asks.map (fun p => p.lane)))

/-- The window of a submission closes first where it is past its time (R489). -/
def closeIfPast (s : State) (x : Submit) : State :=
  match (voter s x.g).window x.m x.key with
  | some w => if w.t0 + cwin s x.g ≤ s.tt then closeWindow s x.g w else s
  | none => s

/-- Sluice performs a submission: its result and its effect (R487, Table 10.4). -/
def decideSubmit (s : State) (x : Submit) : Nat × State :=
  match submitRefusal s x with
  | some r => (r, s)
  | none =>
    let v := voter s x.g
    let lanes := match v.window x.m x.key, v.commit x.m x.key with
      | some w, _ => laneMask (w.props.map (fun p => p.lane))
      | none, some c => laneMask (c.lanes.map (fun p => p.1))
      | none, none => 0
    if x.op = 2 then (4, sluiceSafe s x.m 9 x.key lanes)
    else if x.op = 4 then
      match v.window x.m x.key with
      | some w =>
        let ps := w.props.filter (fun p => p.lane != x.lane)
        (7, setVoter s x.g (if ps.isEmpty then v.dropWin x.m x.key else v.putWin { w with props := ps }))
      | none => (15, s)
    else if x.op = 3 then releaseOp s x
    else propose s x

/-- The results that refuse (R487). -/
def refusedResult (r : Nat) : Bool := decide (8 ≤ r) && decide (r ≠ 14)

/-! ## Slots of a PROP page -/

/-- The slot a requester holds in a lane (R486). -/
def Voter.slotOf (v : Voter) (l : Nat) (st : Stamp) : Option Nat :=
  ((List.range 8).map (fun i => 8 * l + i)).find? (fun i =>
    match kget (fun _ => none) v.slots i with
    | some x => decide (x.die = st.die ∧ x.core = st.core ∧ x.ctx = st.ctx)
    | none => false)

/-- The slot a requester holds, or the first free one. -/
def Voter.slotFor (v : Voter) (l : Nat) (st : Stamp) : Option Nat :=
  match v.slotOf l st with
  | some i => some i
  | none => ((List.range 8).map (fun i => 8 * l + i)).find? (fun i => (kget (fun _ => (none : Option PSlot)) v.slots i).isNone)

/-- The contents of a slot; an empty one of the requester's own where it is free. -/
def Voter.slotAt (v : Voter) (i : Nat) (st : Stamp) : PSlot :=
  (kget (fun _ => none) v.slots i).getD { die := st.die, core := st.core, ctx := st.ctx, arg := none, result := none, last := 0 }

/-- Writes a slot of a lane. -/
def putPSlot (s : State) (g i : Nat) (x : PSlot) : State :=
  let v := voter s g
  setVoter s g { v with slots := kset (fun _ => none) v.slots i (some { x with last := s.ticks }) }

/-- The mark of a requester whose submission found no slot. -/
def slotMark (l : Nat) (st : Stamp) : Nat × BitVec 3 × BitVec 7 × BitVec 2 := (l, st.die, st.core, st.ctx)

/-- Sets or clears the mark of a requester. -/
def markSlot (s : State) (g l : Nat) (st : Stamp) (on : Bool) : State :=
  let v := voter s g
  let ls := v.noSlot.filter (fun x => !decide (x = slotMark l st))
  setVoter s g { v with noSlot := if on then ls ++ [slotMark l st] else ls }

/-- A store to PARG (R486). -/
def pargStore (s : State) (g l : Nat) (st : Stamp) (v : Word) : State :=
  let s1 := markSlot s g l st false
  match (voter s1 g).slotFor l st with
  | some i => putPSlot s1 g i { (voter s1 g).slotAt i st with arg := some (fld v 17 0), result := none }
  | none => s1

/-- A store to PCMD (R486, R487): decided at once, the staged ARG cleared. -/
def pcmdStore (s : State) (g l : Nat) (st : Stamp) (v : Word) : State :=
  let s1 := markSlot s g l st false
  match (voter s1 g).slotFor l st with
  | none => capture (markSlot s1 g l st true) (propPg g l) 8 (fld v 29 0)
  | some i =>
    let y := (voter s1 g).slotAt i st
    let x := submitOf g l st v y.arg
    let r := decideSubmit (closeIfPast s1 x) x
    let s2 := putPSlot r.2 g i { y with arg := none, result := some r.1 }
    if refusedResult r.1 then capture s2 (propPg g l) 8 (fld v 29 0) else s2

/-- A read of PRES (R486): the slot frees when no ARG is staged in it. -/
def presLoad (s : State) (g l : Nat) (st : Stamp) : Word × State :=
  let v := voter s g
  match v.slotOf l st with
  | none => (fval 35 31 (if v.noSlot.contains (slotMark l st) then 17 else 31), s)
  | some i =>
    let y := v.slotAt i st
    (fval 35 31 (y.result.getD 31),
     if y.arg.isNone then setVoter s g { v with slots := kset (fun _ => none) v.slots i none } else putPSlot s g i y)

/-! ## Commands -/

/-- PARG (R486). -/
def execParg (st : Stamp) (region : BitVec 5) (lane : BitVec 2) (v : Word) (s : State) : Host.Outcome State Fault Refusal :=
  done (unitRequest s st (propPg region.toNat lane.toNat) 16 .store (fun s => pargStore s region.toNat lane.toNat st v))

/-- PCMD PROPOSE (R487, Table 10.4): the word's OP field is set to 1. -/
def execPropose (st : Stamp) (region : BitVec 5) (lane : BitVec 2) (v : Word) (s : State) : Host.Outcome State Fault Refusal :=
  done (unitRequest s st (propPg region.toNat lane.toNat) 17 .store
    (fun s => pcmdStore s region.toNat lane.toNat st (setFld v 35 32 1)))

/-- PCMD SAFE (R487): OP 2. -/
def execSafe (st : Stamp) (region : BitVec 5) (lane : BitVec 2) (v : Word) (s : State) : Host.Outcome State Fault Refusal :=
  done (unitRequest s st (propPg region.toNat lane.toNat) 17 .store
    (fun s => pcmdStore s region.toNat lane.toNat st (setFld v 35 32 2)))

/-- PCMD RELEASE (R505): OP 3. -/
def execRelease (st : Stamp) (region : BitVec 5) (lane : BitVec 2) (v : Word) (s : State) : Host.Outcome State Fault Refusal :=
  done (unitRequest s st (propPg region.toNat lane.toNat) 17 .store
    (fun s => pcmdStore s region.toNat lane.toNat st (setFld v 35 32 3)))

/-- PCMD WITHDRAW (R487): OP 4. -/
def execWithdraw (st : Stamp) (region : BitVec 5) (lane : BitVec 2) (v : Word) (s : State) : Host.Outcome State Fault Refusal :=
  done (unitRequest s st (propPg region.toNat lane.toNat) 17 .store
    (fun s => pcmdStore s region.toNat lane.toNat st (setFld v 35 32 4)))

/-- PRES_READ (R486). -/
def execPresRead (st : Stamp) (region : BitVec 5) (lane : BitVec 2) (s : State) : Host.Outcome State Fault Refusal :=
  done (unitRequest s st (propPg region.toNat lane.toNat) 18 .load (fun s =>
    let r := presLoad s region.toNat lane.toNat st
    replyWord r.2 r.1))

/-- PROP_SLOT_EXPIRY (R486). -/
def execPropSlotExpiry (region : BitVec 5) (lane : BitVec 2) (slot : BitVec 3) (s : State) :
    Host.Outcome State Fault Refusal :=
  let g := region.toNat
  let i := 8 * lane.toNat + slot.toNat
  done (unitDo s (propPg g lane.toNat) (fun s =>
    let v := voter s g
    match kget (fun _ => (none : Option PSlot)) v.slots i with
    | some x => if 65536 ≤ s.ticks - x.last then setVoter s g { v with slots := kset (fun _ => none) v.slots i none } else s
    | none => s))

/-- WINDOW_EXPIRY (R489, R492, R505). -/
def execWindowExpiry (m : BitVec 10) (key : BitVec 12) (s : State) : Host.Outcome State Fault Refusal :=
  let g := m.toNat / 24
  done (unitDo s (sluicePg g) (fun s =>
    match (voter s g).window m.toNat key with
    | some w => if w.t0 + cwin s g ≤ s.tt then closeWindow s g w else s
    | none => s))

/-- COMMIT_RELEASE (R495): the entry was Armed and has become Free. -/
def execCommitRelease (m : BitVec 10) (key : BitVec 12) (s : State) : Host.Outcome State Fault Refusal :=
  let k := m.toNat
  let g := k / 24
  done (unitDo s (sluicePg g) (fun s =>
    match (voter s g).commit k key with
    | some c =>
      if c.armed && !(reed s (k / 96)).ev.any (fun p => p.2.live && p.2.st != .pending &&
          decide (p.2.chan = k % 96 ∧ p.2.key = key.toNat)) then setVoter s g ((voter s g).dropCommit k key)
      else s
    | none => s))

/-- CHOLD_EXPIRY (R495): no entry has become Armed within CHOLD; counted UNUSED. -/
def execCholdExpiry (m : BitVec 10) (key : BitVec 12) (s : State) : Host.Outcome State Fault Refusal :=
  let k := m.toNat
  let g := k / 24
  done (unitDo s (sluicePg g) (fun s =>
    match (voter s g).commit k key with
    | some c =>
      if !c.armed && decide (c.start + chold s g ≤ s.tt) then
        rinc (setVoter s g ((voter s g).dropCommit k key)) (sluicePg g) 24 11 0
      else s
    | none => s))

/-- SLUICE_ENABLE (R76, R484). -/
def execSluiceEnable (region : BitVec 5) (s : State) : Host.Outcome State Fault Refusal :=
  let g := region.toNat
  let pg := sluicePg g
  done (unitDo s pg (fun s =>
    unlessLocked s pg 4 (fun s => enable s pg (if laneOk s g (v3On s g) then none else some 9))))

/-- A write of SLCFG: a CWIN outside 2 to 2,000 leaves CWIN as it is (R519, Table 10.14). -/
def slcfgStore (s : State) (g : Nat) (v : Word) : State :=
  let pg := sluicePg g
  unlessLocked s pg 16 (fun s =>
    writeFields s pg 16 (if 2 ≤ fld v 24 14 ∧ fld v 24 14 ≤ 2000 then v else keepFld (rget s pg 16) v 24 14))

/-- A write of LANE_l (R485, R519). -/
def laneStore (s : State) (g l : Nat) (v : Word) : State :=
  let pg := sluicePg g
  if l = 2 ∧ s.part ≠ .tfw8x then s
  else unlessLocked s pg (17 + l) (fun s => if mayBind s g then writeFields s pg (17 + l) v else captureAt s pg 9 (17 + l))

/-- LANE_WRITE (R485). -/
def execLaneWrite (region : BitVec 5) (lane : BitVec 2) (v : Word) (s : State) : Host.Outcome State Fault Refusal :=
  done (unitDo s (sluicePg region.toNat) (fun s =>
    if lane.toNat = 3 then s else laneStore s region.toNat lane.toNat v))

/-- CTL.SRST of the SLUICE page (R708). -/
def sluiceReset (s : State) (g : Nat) : State :=
  let pg := sluicePg g
  unlessLocked s pg 4 (fun s =>
    if mayBind s g then
      let v := voter s g
      resetPage (setVoter s g { v with wins := [], commits := [], safeInfo := [] }) pg
    else captureAt s pg 9 4)

/-- SLUICE_SRST (R708). -/
def execSluiceSrst (region : BitVec 5) (s : State) : Host.Outcome State Fault Refusal :=
  done (unitDo s (sluicePg region.toNat) (fun s => sluiceReset s region.toNat))

end Sys2Proof.Machine
end

