-- ==== Sys2Proof/Machine/Enable.lean ====
section
/-! DEFINITION. Why a unit refuses to be enabled beyond R76 (R462, R484, Table 11.15). -/

namespace Sys2Proof.Machine

/-- The region of a region page. -/
def pgRegion (pg : Nat) : Nat := 4 * (pg / 2048) + (pg % 2048 / 64 - 1)

/-- The cause with which a unit refuses a write of EN = 1. -/
def enableWhy (s : State) (pg : Nat) : Option Nat :=
  match unitOf s.part pg with
  | some .cbk => cbkWhy s (pgRegion pg)
  | some .sluice => if laneOk s (pgRegion pg) (v3On s (pgRegion pg)) then none else some 9
  | some .emp => empWhy s (pg % 2048 - 32)
  | _ => none

end Sys2Proof.Machine
end

