-- ==== Sys2Proof/Machine/PowerOps.lean ====
section
/-! DEFINITION. Power domains (R613 to R624, R635, Tables 13.1 to 13.5, 13.11): requests, refusals, drains, transitions and
domain resets. -/

namespace Sys2Proof.Machine

/-! ## Which domains (Tables 13.1 and 13.2) -/

/-- Whether a domain is present in the part. -/
def domPresent (p : Part) (k : Nat) : Bool :=
  if k < 512 then decide (k / 64 < p.dies) && decide (k % 64 < 44)
  else
    let j := k - 512
    if j < 2 then decide (j < p.emps) else if j < 6 then decide (j - 2 < p.ports) else decide (j = 6)

/-- The states permitted for a domain, by number. -/
def domPermits (k : Nat) : List Nat :=
  if k < 512 then
    (if k % 64 < 16 then [0, 1, 2, 4] else if k % 64 < 32 then [0, 3, 4] else if k % 64 < 40 then [0, 4] else [0])
  else if k - 512 < 2 then [0, 3, 4] else [0, 4]

/-- The power state of a number (Table 13.3). -/
def powerOf (r : Nat) : Power :=
  if r = 1 then .trim else if r = 2 then .hold else if r = 3 then .retain else if r = 4 then .off else .run

/-- The number of a power state (Table 13.3). -/
def Power.num (p : Power) : Nat :=
  match p with
  | .run => 0
  | .trim => 1
  | .hold => 2
  | .retain => 3
  | .off => 4

/-- The PWR page and register of a domain (Table 13.11). -/
def domReg (k : Nat) : Nat × Nat := if k < 512 then (pwrPg (k / 64), 16 + k % 64) else (pwrPg 0, 64 + (k - 512))

/-- The index that INFO shows: the domain's, or 0o100 + j (Table 13.11). -/
def domIndex (k : Nat) : Nat := if k < 512 then k % 64 else 64 + (k - 512)

/-! ## Refusals (R615, Table 13.4) -/

/-- A Sedge pool frame in MAPPED or RESERVED, or a marked table page, among the pages of a group. -/
def holdsFrames (s : State) (inside : Nat → Bool) : Bool :=
  (List.range s.part.dies).any (fun d =>
    (sedge s d).pool.any (fun p => inside p.1 && (p.2 == .mapped || p.2 == .reserved))) ||
  s.marks.any (fun p => inside p.1 && decide (0 < p.2))

/-- The channel block of a region is in use (Table 13.4, reason 5). -/
def blockBusy (s : State) (g : Nat) : Bool :=
  (List.range 24).any (fun c => !quiet s (24 * g + c)) || enabled s (sluicePg g) ||
  (List.range 8).any (fun i => decide (refSrc s i = 2) &&
    decide (rfld s phrefPg (16 + 4 * i) 31 22 / 24 = g))

/-- Another domain of a region is in Run, Trim or Hold, or its sweeper is sweeping (Table 13.4, reason 6). -/
def regionBusy (s : State) (g : Nat) : Bool :=
  (regionDoms g).any (fun k => decide (k % 64 < 36) &&
    ((dom s k).st == .run || (dom s k).st == .trim || (dom s k).st == .hold)) || (sweep s g).on

/-- The reason for which a request is refused; 0 for none (Table 13.4). In Boot no domain leaves Run but at Carr's request, so that
a request for another state names one that is not permitted (Table 14.8, R670; notes/assumptions/27.md). -/
def domWhy (s : State) (k r : Nat) : Nat :=
  let x := dom s k
  let n := 16 * (k / 64) + k % 64
  if domPresent s.part k = false ∨ (domPermits k).contains r = false ∨ (x.st = .off ∧ r = 3) ∨ (s.safety = .boot ∧ r ≠ 0) then 1
  else if s.safety = .mire then 2
  else if x.held then 7
  else if k < 512 then
    let i := k % 64
    let d := k / 64
    if i < 16 then
      (if (r = 4 ∧ (List.range 4).any (fun h => (ctxAt s n h).st != .empty) = true) ∨
          (r = 2 ∧ (List.range 4).any (fun h => (ctxAt s n h).st == .ready) = true) then 3 else 0)
    else if i < 32 then
      (if (r = 3 ∨ r = 4) ∧ holdsFrames s (fun f => decide (f / 64 = 16 * d + (i - 16))) = true then 4 else 0)
    else if i < 36 then (if r = 4 ∧ blockBusy s (4 * d + (i - 32)) = true then 5 else 0)
    else if i < 40 then (if r = 4 ∧ regionBusy s (4 * d + (i - 36)) = true then 6 else 0)
    else 0
  else if k - 512 < 2 then
    (if (r = 3 ∨ r = 4) ∧ holdsFrames s (fun f => inEmp (k - 512) (f * 1024)) = true then 4 else 0)
  else 0

/-- A refusal: WHY is set and a cause captured. -/
def domRefuse (s : State) (k cause why : Nat) : State :=
  capture (setDom s k { dom s k with why := why }) (domReg k).1 cause (128 * why + domIndex k)

/-! ## Transitions (R616, R618, Table 13.5) -/

/-- The fabric cycles of a transition after its drain (Table 13.5), with the clear of R619 and the restore of R617. -/
def transTime (k : Nat) (from_ dest : Power) : Nat :=
  match from_, dest with
  | .off, .run => 20 * ticksPerUs + 64 + (if k < 512 ∧ 16 ≤ k % 64 ∧ k % 64 < 32 then 16384 else 0)
  | .retain, .run => (if k < 512 then 5 else 10) * ticksPerUs + 64
  | .hold, .run => 16
  | .run, .hold => 16
  | _, .off => 2 * ticksPerUs
  | _, .retain => 2 * ticksPerUs
  | _, _ => 64

/-- A domain begins to go where its request asks: leaves to Run first where it is in another state, drains first where
Table 13.5 says so (R616, R618); a domain in Trim changes to another TRIMDIV. -/
def domBegin (s : State) (k : Nat) : State :=
  let x := dom s k
  let dest := powerOf x.req
  let go := fun p => setDom s k { x with target := some (p, s.ticks + transTime k x.st p) }
  if x.st = .trim ∧ dest = .trim then go .trim
  else if x.st = .run then
    match dest with
    | .trim => go .trim
    | .run => s
    | p => setDom s k { x with drain := some p }
  else if x.st = .retain ∧ dest = .off then go .off
  else go .run

/-- A request that is held: the domain drains or changes (R620), but not in Mire (Table 14.8). -/
def domQueues (s : State) (k : Nat) : Bool :=
  domPresent s.part k && s.safety != .mire && ((dom s k).drain.isSome || (dom s k).target.isSome)

/-- A request for the present state, which has no effect (R615); in Trim, one that leaves TRIMDIV as the divider in force. A request
in Mire, and one to a domain held in reset, is refused whatever it names (R624, Table 14.8). -/
def domKeeps (s : State) (k r : Nat) : Bool :=
  let x := dom s k
  domPresent s.part k && (domPermits k).contains r && s.safety != .mire && !x.held && x.st == powerOf r &&
    !(decide (r = 1) && decide (x.clkdiv ≠ x.trimdiv))

/-- The reason for which a request that arrives now is refused; 0 where it is held, performed or without effect (R615). -/
def requestWhy (s : State) (k r : Nat) : Nat := if domQueues s k || domKeeps s k r then 0 else domWhy s k r

/-- A request for a power state (R615, R616, R620). -/
def domRequest (s : State) (k r : Nat) : State :=
  if domQueues s k then setDom s k { dom s k with queued := some r }
  else if domKeeps s k r then s
  else if requestWhy s k r ≠ 0 then domRefuse s k 8 (requestWhy s k r)
  else domBegin (setDom s k { dom s k with req := r }) k

/-- The words of a bank are lost in Off, and read 0 with tag 0 and valid ECC when it leaves Off, whatever brings it back (R614,
R619): they are 0 from the entry to Off on, while nothing can read them. -/
def bankCleared (s : State) (k : Nat) : State :=
  if k < 512 ∧ 16 ≤ k % 64 ∧ k % 64 < 32 then clearWords s (inBank (16 * (k / 64) + (k % 64 - 16))) else s

/-- An external memory port enters or leaves self-refresh (R579). -/
def empSelfref (s : State) (k : Nat) (on : Bool) : State :=
  if 512 ≤ k ∧ k < 514 then
    { s with emps := kset (fun _ => Emp.init) s.emps (k - 512) { emp s (k - 512) with selfref := on } } else s

/-- The logic of a domain that enters Retain: lost, but the memory and what an external memory port keeps of its training
(R579, Table 13.3). -/
def retainLogic (s : State) (k : Nat) : State := empSelfref (clearDoms s (fun j => j == k)) k true

/-- A Causeway link whose domain is Off comes up with reset values: the link untrained, every credit at its sender (R522, R617). -/
def cwyOff (s : State) (k : Nat) : State :=
  if 514 ≤ k ∧ k < 518 then
    let i := k - 514
    setCwy (setLink (setLink s (544 + i) (linkDefault (544 + i))) (548 + i) (linkDefault (548 + i))) i Cwy.init
  else s

/-- A domain enters a state at the end of its transition (R614, R616, R617, R619). -/
def domEnter (s : State) (k : Nat) (dest : Power) : State :=
  let x := dom s k
  let s1 := setDom s k { x with st := dest, target := none, drain := none, clkdiv := if dest = .trim then x.trimdiv else x.clkdiv }
  match dest with
  | .off => cwyOff (domLogic (bankCleared s1 k) k) k
  | .retain => retainLogic s1 k
  | .run =>
    if x.st = .off then restorePages (bankCleared s1 k) (fun j => j == k)
    else if x.st = .retain then restorePages (empSelfref s1 k false) (fun j => j == k)
    else s1
  | _ => s1

/-- A page whose write of EN = 1 was held takes it when the drain ends, where its unit has kept its logic (R78). -/
def takeHeldEn (s : State) (k : Nat) : State :=
  let mine := s.enHeld.filter (fun pg => domOfPage pg == k)
  let s1 := { s with enHeld := s.enHeld.filter (fun pg => domOfPage pg != k) }
  if domUp s1 k then mine.foldl (fun s pg => enable s pg (enableWhy s pg)) s1 else s1

/-- What follows the entry to a state: DONE at the requested one, the second half of a change through Run, then the held
request as if it arrived now (R616, R620). -/
def domArrived (s : State) (k : Nat) (drained : Bool) : State :=
  let x := dom s k
  let s1 := if drained then takeHeldEn s k else s
  let s2 := if x.st = powerOf x.req then irqPend s1 (domReg k).1 1 else domBegin s1 k
  match x.queued with
  | some r => domRequest (setDom s2 k { dom s2 k with queued := none }) k r
  | none => s2

/-- A transition that has lasted its time. -/
def domTransition (s : State) (k : Nat) : State :=
  let x := dom s k
  match x.target with
  | some (dest, t) => if t ≤ s.ticks then domArrived (domEnter s k dest) k x.drain.isSome else s
  | none => s

/-! ## Drains (R618) -/

/-- The credits held at the receiving end of a link direction go back (R618). -/
def linkHome (s : State) (k : Nat) : State :=
  let l := linkAt s k
  setLink s k { l with
    timed := { l.timed with b := 0, r := l.timed.r + l.timed.b }, bulk := { l.bulk with b := 0, r := l.bulk.r + l.bulk.b } }

/-- The crossbar credits held for a port go back (R618). -/
def creditsHome (s : State) (g p : Nat) : State := linkHome s (8 * g + p)

/-- The accesses of a domain are complete: buffered stores, credits, and a core's posted invalidations, performed and acknowledged
by the device (R298, R327, R618). The accesses of an external memory port, and the frames and accesses of the Ethernet ports, are
steps of their own, so that none is under way when a drain ends. -/
def drainUnits (s : State) (k : Nat) : State :=
  if k < 512 then
    let d := k / 64
    let i := k % 64
    if i < 16 then
      ackAll (performPosts (creditsHome (drainAll s (16 * d + i)) (4 * d + i / 4) (i % 4)) (16 * d + i)) (16 * d + i)
    else if i < 32 then creditsHome s (4 * d + (i - 16) / 4) (i % 4)
    else if i < 36 then creditsHome s (4 * d + (i - 32)) 4
    else if i < 40 then creditsHome (creditsHome s (4 * d + (i - 36)) 5) (4 * d + (i - 36)) 6
    else s
  else if 514 ≤ k ∧ k < 518 then linkHome (linkHome s (544 + (k - 514))) (548 + (k - 514))
  else s

/-- The drain of a domain is complete; the entry to the target state begins (R618, Table 13.5). -/
def drainDone (s : State) (k : Nat) : State :=
  let x := dom s k
  match x.drain, x.target with
  | some p, none =>
    let s1 := drainUnits s k
    setDom s1 k { dom s1 k with target := some (p, s.ticks + transTime k .run p) }
  | _, _ => s

/-! ## Domain reset (R635) -/

/-- Why a reset of a domain is refused; 0 for none. -/
def rstWhy (s : State) (k : Nat) : Nat :=
  let g := 4 * (k / 64) + (k % 64 - 32)
  if domPresent s.part k = false ∨ (k < 512 ∧ 40 ≤ k % 64) then 1
  else if s.safety = .mire then 2
  else if k < 512 ∧ isolatedRegion s (4 * (k / 64) + (if k % 64 < 32 then k % 16 / 4 else k % 4)) = true then 7
  else if k < 512 ∧ 32 ≤ k % 64 ∧ k % 64 < 36 ∧ (s.safety = .run ∨ s.safety = .degraded) ∧
      (List.range 24).any (fun c => chVital s (24 * g + c) && !(chan s (24 * g + c)).safe) = true then 5
  else 0

/-- DOM_i.RST (R635): reset for 64 fabric cycles. It also ends a reset that the region error manager holds
(notes/assumptions/27.md). -/
def domReset (s : State) (k : Nat) : State :=
  let why := rstWhy s k
  if why ≠ 0 then domRefuse s k 9 why else domHold s k (some (s.ticks + 64))

/-- WAKE and TRIMDIV of a store to DOM_i; PDOM_j has neither (Table 13.11). -/
def domFields (s : State) (k : Nat) (v : Word) : State :=
  if domPresent s.part k = true ∧ k < 512 then setDom s k { dom s k with wake := bit v 26, trimdiv := fld v 25 24 } else s

/-- A store to DOM_i or PDOM_j (Table 13.11): WAKE and TRIMDIV, then RST, or else the request. A store whose reset or request is
refused changes nothing else (R615, notes/assumptions/27.md). -/
def domStore (s : State) (k : Nat) (v : Word) : State :=
  let r := domReg k
  unlessLocked s r.1 r.2 (fun s =>
    let s1 := domFields s k v
    if bit v 0 then domReset (if rstWhy s k = 0 then s1 else s) k
    else if requestWhy s1 k (fld v 35 33) = 0 then domRequest s1 k (fld v 35 33)
    else domRefuse s k 8 (requestWhy s1 k (fld v 35 33)))

/-! ## Commands -/

/-- DOM_REQUEST (R615, R616, R618, R620). -/
def execDomRequest (k : BitVec 10) (v : Word) (s : State) : Host.Outcome State Fault Refusal :=
  done (unitDo s (domReg k.toNat).1 (fun s => domStore s k.toNat (setBit v 0 false)))

/-- DRAIN_END (R618). -/
def execDrainEnd (k : BitVec 10) (s : State) : Host.Outcome State Fault Refusal :=
  done (if clocked s = true ∧ s.safety ≠ .mire then drainDone s k.toNat else s)

/-- TRANSITION_DONE (R616, R617, R619, R620). -/
def execTransitionDone (k : BitVec 10) (s : State) : Host.Outcome State Fault Refusal :=
  done (if clocked s = true ∧ s.safety ≠ .mire then domTransition s k.toNat else s)

/-- DOM_RST (R635). -/
def execDomRst (k : BitVec 10) (s : State) : Host.Outcome State Fault Refusal :=
  done (unitDo s (domReg k.toNat).1 (fun s => unlessLocked s (domReg k.toNat).1 (domReg k.toNat).2 (fun s => domReset s k.toNat)))

/-- DOM_RST_RELEASE (R635): after 64 fabric cycles. -/
def execDomRstRelease (k : BitVec 10) (s : State) : Host.Outcome State Fault Refusal :=
  done (match clocked s, (dom s k.toNat).rstUntil with
    | true, some t => if t ≤ s.ticks then domRelease s k.toNat else s
    | _, _ => s)

end Sys2Proof.Machine
end

