-- ==== Sys2Proof/Machine/Sweeper.lean ====
section
/-! DEFINITION. The sweeper of a region (R121 to R128, R135 to R140): START, one pair, the end. -/

namespace Sys2Proof.Machine

/-- The first word of the extension range, and the word after its last; none while it is empty (R140). -/
def xRange (s : State) (g : Nat) : Option (Nat × Nat) :=
  let lo := rfld s (swpPg g) 21 29 10
  let hi := rfld s (swpPg g) 22 29 10
  if lo = 0 ∧ hi = 0 then none else some (lo * 1024, (hi + 1) * 1024)

/-- The words of the bitmap of a page: one for each 32 granules of the range (R118). -/
def bitmapWords (s : State) (g : Nat) : Nat :=
  ((rfld s (swpPg g) 20 29 6 - rfld s (swpPg g) 19 29 6) + 31) / 32

/-- A START is refused for its configuration (R138): the bitmap range is unpopulated where its first or its last word is. -/
def badSweepConfig (s : State) (g : Nat) : Bool :=
  let base := rfld s (swpPg g) 18 29 0
  let last := base + bitmapWords s g - 1
  decide (rfld s (swpPg g) 20 29 6 ≤ rfld s (swpPg g) 19 29 6) || (memReach s base == .unpopulated) ||
  (memReach s last == .unpopulated) || decide (rfld s (swpPg g) 22 29 10 < rfld s (swpPg g) 21 29 10)

/-- A write of CTL.START = 1 (R124, R137, R138); with CLRALL, EPOCH stays (Table 3.12). It acts whatever CTL.EN is: R138 names the
refusals of a START and CTL.EN = 0 is none of them (DESIGN CHOICE, notes/assumptions/79.md). -/
def sweepStart (s : State) (g : Nat) : State :=
  let pg := swpPg g
  if (sweep s g).on then captureAt s pg 9 4
  else if badSweepConfig s g then captureAt s pg 10 4
  else
    let all := bit (rget s pg 4) 3
    let s1 := setSweep s g { on := true, clearAll := all, phase := false, addr := g * 262144, cleared := 0 }
    if all then s1 else rset s1 pg 16 (rget s1 pg 16 + 1)

/-- The sweep of a region is over: both ranges are read (R121). -/
def sweepOver (s : State) (g : Nat) : Bool :=
  let w := sweep s g
  w.phase && (match xRange s g with | some (_, e) => decide (e ≤ w.addr) | none => true)

/-- Where the sweep goes after a pair (R121). -/
def sweepNext (s : State) (g : Nat) (w : Sweep) : Sweep :=
  if w.phase = false ∧ (g + 1) * 262144 ≤ w.addr + 2 then
    match xRange s g with
    | some (lo, _) => { w with phase := true, addr := lo }
    | none => { w with phase := true, addr := w.addr + 2 }
  else { w with addr := w.addr + 2 }

/-- A word whose tag the sweeper of a region clears: its data stays, written back whole (R26, R27, R122), by a write of its bank or
port (R351). -/
def untagWord (s : State) (g a : Nat) : State :=
  let s1 := noteAccess s (.die (g / 4)) a (writeSlots s a)
  mset { s1 with eccWb := s1.eccWb.filter (fun b => b != a) } a { mget s1 a with tag := false, ecc := .good }

/-- The sweeper reads a pair and clears both tags when its base is revoked (R122), or when it clears every tag. A pair
that cannot be read (its bank answers no access, R48, R57, or has lost a word) stays and the sweep goes on: R122 does not say what a
read that fails does (DESIGN CHOICE, notes/assumptions/79.md). -/
def sweepPair (s : State) (g : Nat) : State :=
  let w := sweep s g
  let a := w.addr
  if memReach s a ≠ .ok then setSweep (memMiss s (g / 4) a) g (sweepNext s g w)
  else
    let x := readFor s (.die (g / 4)) a
    let y := readFor x.2 (.die (g / 4)) (a + 1)
    match x.1, y.1 with
    | some (hi, t), some (lo, u) =>
      if (if w.clearAll then t || u else t && u) then
        let c : Cap := { hi := hi, lo := lo, tag := true }
        let r := if w.clearAll then (true, y.2) else revoked y.2 g c.base
        if r.1 then setSweep (untagWord (untagWord r.2 g a) g (a + 1)) g (sweepNext s g { w with cleared := w.cleared + 1 })
        else setSweep r.2 g (sweepNext s g w)
      else setSweep y.2 g (sweepNext s g w)
    | _, _ => setSweep y.2 g (sweepNext s g w)

/-- START (R124, R137, R138). -/
def execStart (region : BitVec 5) (s : State) : Host.Outcome State Fault Refusal :=
  let g := region.toNat
  done (unitDo s (swpPg g) (fun s => unlessLocked s (swpPg g) 4 (fun s => sweepStart s g)))

/-- The request of the sweeper for its next pair: made where the bank grants it the two slots that are left unused (R32, R93, R128),
else it waits at the arbiter. -/
def sweepTurn (s : State) (g : Nat) : State :=
  let w := sweep s g
  let since := w.asked.getD (coreNow s)
  if unitGranted s w.addr (coreLive s) since 2 then sweepPair (setSweep s g { w with asked := none }) g
  else setSweep s g { w with asked := some since }

/-- SWEEP_PAIR (R121, R122, R128). -/
def execSweepPair (region : BitVec 5) (s : State) : Host.Outcome State Fault Refusal :=
  let g := region.toNat
  done (unitDo s (swpPg g) (fun s => if (sweep s g).on && !sweepOver s g then sweepTurn s g else s))

/-- SWEEP_END (R126): EPOCH becomes even, SWEEPING clears, DONE is set and CLEARED shows the pairs cleared. SCUR returns to 0 in
PHASE and ADDR, as R135 speaks of the pair read next and there is none (DESIGN CHOICE, notes/assumptions/79.md). -/
def execSweepEnd (region : BitVec 5) (s : State) : Host.Outcome State Fault Refusal :=
  let g := region.toNat
  let pg := swpPg g
  done (unitDo s pg (fun s =>
    let w := sweep s g
    if w.on && sweepOver s g then
      let s1 := setSweep s g Sweep.init
      let s2 := if w.clearAll then s1 else rset s1 pg 16 (rget s1 pg 16 + 1)
      irqPend (rset s2 pg 23 (fval 17 0 (min w.cleared 262143))) pg 1
    else s))

end Sys2Proof.Machine
end

