-- ==== Sys2Proof/Machine/Vital.lean ====
section
/-! DEFINITION. The vital enables VITAL_EN_A and VITAL_EN_B (R507 to R512, R718): kicks, windows, arming and stop. -/

namespace Sys2Proof.Machine

/-- VENCFG of a generator. -/
def vencfg (s : State) (i : Nat) : Word := rget s (dsvPg i) 64

/-- The length of a window in fabric cycles. -/
def venWindow (s : State) (i : Nat) : Nat := fld (vencfg s i) 17 0 * ticksPerUs

/-- The window has been kicked: by both compartments with the expected value, from different dies (R508). -/
def Ven.kicked (v : Ven) : Bool :=
  (List.range 8).any (fun a => v.kick0.getLsbD a && (List.range 8).any (fun b => v.kick1.getLsbD b && a != b))

/-- One more die among those that have kicked. -/
def kickFrom (kicks : BitVec 8) (die : BitVec 3) : BitVec 8 := kicks ||| BitVec.ofNat 8 (2 ^ die.toNat)

/-- The end of a window (R508 to R510): NEXT advances and the output toggles, or the generator stops, in the fabric cycle of that
end. -/
def venWindowEnd (s : State) (i : Nat) : State :=
  let v := ven s i
  if v.running ∧ v.winStart + venWindow s i ≤ s.ticks then
    if v.kicked then
      setVen s i { v with toggling := true, next := v.next + 1, kick0 := 0, kick1 := 0, winStart := v.winStart + venWindow s i }
    else setVen s i { ven (venStop s i 2) i with stopAt := some (v.winStart + venWindow s i) }
  else s

/-- A store to VENKICK (R508, R509); a window that is over ends first. A wrong value is a reason to stop also in the fabric cycle
in which the generator has stopped for a lower one. -/
def kickStore (s : State) (i : Nat) (st : Stamp) (v : Word) : State :=
  let s1 := venWindowEnd s i
  let g := ven s1 i
  let c := st.comp.toNat
  let cfg := vencfg s i
  if c ≠ fld cfg 33 26 ∧ c ≠ fld cfg 25 18 then capture s1 (dsvPg i) 17 (256 * st.die.toNat + c)
  else if fld v 17 0 ≠ g.next.toNat then venStop s1 i 3
  else if g.running = false then s1
  else if c = fld cfg 33 26 then setVen s1 i { g with kick0 := kickFrom g.kick0 st.die }
  else setVen s1 i { g with kick1 := kickFrom g.kick1 st.die }

/-- Whether ARM is refused (R511). -/
def armRefused (s : State) (i : Nat) : Bool :=
  let cfg := vencfg s i
  let a := fld cfg 33 26
  let b := fld cfg 25 18
  !(clsVital (compcls s i a) && clsVital (compcls s i b) && pairOf s i a b) ||
  decide (fld cfg 17 0 < 100 ∨ 100000 < fld cfg 17 0) || (ven s i).running || !(s.safety == .run || s.safety == .degraded)

/-- ARM (R508, R510, R511, R718). -/
def venArm (s : State) (i : Nat) : State :=
  if armRefused s i then captureAt s (dsvPg i) 16 67
  else setVen s i { ven s i with running := true, toggling := false, why := 0, kick0 := 0, kick1 := 0, winStart := s.ticks, stopAt := none }

/-- A write of VENCTL: STOP alone where both are set (R509, R510). -/
def venctlStore (s : State) (i : Nat) (v : Word) : State :=
  if bit v 1 then venStop s i 5 else if bit v 0 then venArm s i else s

/-- A write of VENCFG: ignored while the generator runs (R512). -/
def vencfgStore (s : State) (i : Nat) (v : Word) : State :=
  unlessLocked s (dsvPg i) 64 (fun s =>
    if (ven s i).running then captureAt s (dsvPg i) 16 64 else writeFields s (dsvPg i) 64 v)

/-- VENKICK (R508). -/
def execVenkick (st : Stamp) (gen : Bool) (seq : BitVec 18) (s : State) : Host.Outcome State Fault Refusal :=
  done (unitRequest s st (dsvPg (bnat gen)) 65 .store (fun s => kickStore s (bnat gen) st (seq.setWidth 36)))

/-- VEN_WINDOW_END (R508, R509). -/
def execVenWindowEnd (gen : Bool) (s : State) : Host.Outcome State Fault Refusal :=
  done (unitDo s (dsvPg (bnat gen)) (fun s => venWindowEnd s (bnat gen)))

/-- ARM (R511). -/
def execArm (gen : Bool) (s : State) : Host.Outcome State Fault Refusal :=
  done (unitDo s (dsvPg (bnat gen)) (fun s => venArm s (bnat gen)))

/-- STOP (R509). -/
def execStop (gen : Bool) (s : State) : Host.Outcome State Fault Refusal :=
  done (unitDo s (dsvPg (bnat gen)) (fun s => venStop s (bnat gen) 5))

end Sys2Proof.Machine
end

