-- ==== Sys2Proof/Machine/Ctl.lean ====
section
/-! DEFINITION. The common registers of every page (R73 to R83, R702, R703): FEAT_ACCEPT, CTL with the actions of each
unit, SRST, STAT.ENABLED, ERR_FIRST, ERR_COUNT and LOCK. -/

namespace Sys2Proof.Machine

/-! ## FEAT_ACCEPT (R73, R74) -/

/-- The effect of accepted features beside the register: without VOTE3, V3 of a SLUICE page is 0 (R485, R715). -/
def featFollow (s0 s : State) (pg : Nat) : State :=
  if unitOf s.part pg = some .sluice ∧ bit (rget s pg 3) 1 = false then
    dropLaneC s0 (rset s pg 4 (setBit (rget s pg 4) 2 false)) (pgRegion pg)
  else s

/-- A write to FEAT_ACCEPT: only offered bits are set; none while CTL.EN is 1. -/
def featStore (s : State) (pg : Nat) (v : Word) : State :=
  unlessLocked s pg 3 (fun s =>
    if enabled s pg then captureAt s pg 2 3
    else
      let s1 := featFollow s (rset s pg 3 (v &&& offer s pg)) pg
      if v &&& ~~~(offer s pg) ≠ 0 then refuseFeature s1 pg 3 else s1)

/-- FEAT_ACCEPT_WRITE (R73, R74). -/
def execFeatAcceptWrite (pg : BitVec 15) (v : Word) (s : State) : Host.Outcome State Fault Refusal :=
  done (unitDo s pg.toNat (fun s => featStore s pg.toNat v))

/-! ## CTL.SRST (R703; notes/assumptions/30.md) -/

/-- The values of a page that Carr writes at start-up (R406, R597). -/
def bootPage (s : State) (pg : Nat) : State :=
  if booted s then
    match unitOf s.part pg with
    | some .carr => rset (rset (rset s pg 3 (offer s pg)) pg 4 1) pg 5 1
    | some .mgate => rset s pg 32 (bootEntry 63)
    | some .tgate => rset s pg 32 (bootEntry 8)
    | _ => s
  else s

/-- What a reset of the PKG page leaves: LASTMIRE (Table 13.7), and GATECFG as R405 lets it change: to its strap in Boot
and Proof. -/
def resetPkg (s : State) : State :=
  let pg := pkgPg 0
  let m := if s.safety = .boot ∨ s.safety = .proof then fval 1 0 (s.straps.toNat / 4) else rget s pg 40
  let s1 := rset (rset (resetPage s pg) pg 40 m) pg 68 (rget s pg 68)
  (List.range s.part.ports).foldl linkOff s1

/-- The parts of a unit that its reset clears beside its registers. -/
def resetUnit (s : State) (pg : Nat) (u : UnitTy) : State :=
  let d := pg / 2048
  let q := pg % 2048
  match u with
  | .swp => setSweep s (pgRegion pg) Sweep.init
  | .cbk => setBlock s (pgRegion pg) Block.init
  | .reed => setReed s d { reed s d with fifo := [], evcnt1 := 0 }
  | .reedev => setReed s d { reed s d with slots := [] }
  | .dsv => setVen s d Ven.init
  | .eth => setEth s (q - 16) { Eth.init with link := (eth s (q - 16)).link }
  | .prp => { s with prps := [] }
  | .canfd => setCan s d Can.init
  | .flash => setFlash s (q - 24) { Flash.init with carr := (flash s (q - 24)).carr }
  | .emp => setEmp s (q - 32) { emp s (q - 32) with trained := false }
  | _ => s

/-- A write of CTL.SRST = 1 on a page: as its chapter says (R485, R706 to R710), else its registers and its unit return to
their reset values. -/
def srstPage (s : State) (pg : Nat) : State :=
  match unitOf s.part pg with
  | none => s
  | some .phref => phrefReset s
  | some .ttime => ttimeReset s
  | some .sedge => sedgeReset s (pg / 2048)
  | some .sluice => sluiceReset s (pgRegion pg)
  | some .chan => chanReset s (pgRegion pg) (pg % 64 - 33)
  | some .pkg => unlessLocked s pg 4 resetPkg
  | some u => unlessLocked s pg 4 (fun s =>
      bootPage (resetUnit { resetPage s pg with enHeld := s.enHeld.filter (fun p => p != pg) } pg u) pg)

/-- SRST (R703). -/
def execSrst (pg : BitVec 15) (s : State) : Host.Outcome State Fault Refusal :=
  done (unitDo s pg.toNat (fun s => srstPage s pg.toNat))

/-! ## CTL -/

/-- The unit-specific fields of a CTL write as the unit takes them: V3 where R485 performs its change (with the state that
records a refusal), RATE and DENS while disabled (R580), a port's ring enables where LOG2N allows them (Table 11.9). -/
def ctlFields (s : State) (pg : Nat) (v : Word) : Word × State :=
  let held := rget s pg 4
  let ring := fun (r : Word × State) (b cfg : Nat) =>
    if bit r.1 b = true ∧ bit held b = false ∧ ringSizeOk s pg cfg = false then
      (setBit r.1 b false, captureAt r.2 pg 9 4) else r
  match unitOf s.part pg with
  | some .sluice =>
    let g := pgRegion pg
    let offered := bit (rget s pg 3) 1
    if bit v 2 = bit held 2 ∧ (bit v 2 = false ∨ offered = true) then (v, s)
    else if mayBind s g = true ∧ (bit v 2 = false ∨ offered = true) then (v, s)
    else (keepFld held v 2 2, captureAt s pg 9 4)
  | some .emp => (if enabled s pg then keepFld held v 6 3 else v, s)
  | some .eth => ring (ring (v, s) 2 20) 3 23
  | some .canfd => ring (ring (v, s) 2 20) 3 23
  | _ => (v, s)

/-- A ring that is enabled begins at its first descriptor (R553). -/
def ringStart (was now : Bool) (r : Ring) : Ring := if !was && now then Ring.init else r

/-- What a unit does when CTL has changed from a held value: rings begin (R553) or end (Table 11.11), a CAN controller may
leave bus-off (R563); a flash port that is disabled forgets its tables, an external memory port its training, and one that is enabled
awaits them anew (R566, R575). -/
def ctlFollow (s : State) (pg : Nat) (held : Word) (wrote : Bool) : State :=
  let now := rget s pg 4
  let on := fun (w : Word) (b : Nat) => bit w 0 && bit w b
  let q := pg % 2048
  let d := pg / 2048
  match unitOf s.part pg with
  | some .eth =>
    let e := eth s (q - 16)
    setEth s (q - 16) { e with tx := ringStart (on held 2) (on now 2) e.tx, rx := ringStart (on held 3) (on now 3) e.rx }
  | some .canfd =>
    let s1 := if on held 2 && !on now 2 then canAbort s d else s
    let c := can s1 d
    setCan s1 d { c with
      tx := ringStart (on held 2) (on now 2) c.tx, rx := ringStart (on held 3) (on now 3) c.rx
      restart := c.restart || (c.busOff && wrote && bit now 0) }
  | some .flash => if bit now 0 && bit held 0 then s else setFlash s (q - 24) { flash s (q - 24) with sfdp := none }
  | some .emp => if bit now 0 && bit held 0 then s else setEmp s (q - 32) { emp s (q - 32) with trained := false }
  | _ => s

/-- CTL.EN as written (R76 to R78); a write of EN = 1 is judged whether or not EN is 1 (R462, R484). -/
def ctlEn (s : State) (pg : Nat) (on : Bool) : State :=
  if on then enable s pg (enableWhy s pg)
  else
    { rset s pg 4 (setBit (rget s pg 4) 0 false) with enHeld := s.enHeld.filter (fun p => p != pg) }

/-- The actions in a CTL write: START of a sweeper, SELFTEST of a channel block. -/
def ctlAct (s : State) (pg : Nat) (v : Word) : State :=
  match unitOf s.part pg with
  | some .swp => if bit v 2 then sweepStart s (pgRegion pg) else s
  | some .cbk => if bit v 3 then selftestReq s (pgRegion pg) else s
  | _ => s

/-- A write to CTL: SRST alone (R703), or the unit-specific fields, EN, and the actions. -/
def ctlStore (s : State) (pg : Nat) (v : Word) : State :=
  if bit v 1 then srstPage s pg
  else unlessLocked s pg 4 (fun s =>
    let held := rget s pg 4
    let r := ctlFields s pg v
    let s0 := writeFields r.2 pg 4 (keepFld held r.1 0 0)
    let s1 := if unitOf s.part pg = some .sluice then dropLaneC s s0 (pgRegion pg) else s0
    ctlAct (ctlFollow (ctlEn s1 pg (bit v 0)) pg held (bit v 0)) pg v)

/-- EN (R76, R78): a write of CTL without SRST; one of EN = 1 is held while the page's domain drains. -/
def execEn (pg : BitVec 15) (v : Word) (s : State) : Host.Outcome State Fault Refusal :=
  done (if enHolds s pg.toNat 4 (setBit v 1 false) then holdEn s pg.toNat
    else unitDo s pg.toNat (fun s => ctlStore s pg.toNat (setBit v 1 false)))

/-! ## STAT, ERR_FIRST, ERR_COUNT, LOCK -/

/-- Whether an enabled unit has come up: a flash port after its tables, an external memory port after its training. -/
def unitReady (s : State) (pg : Nat) : Bool :=
  match unitOf s.part pg with
  | some .flash => (flash s (pg % 2048 - 24)).sfdp.isSome
  | some .emp => (emp s (pg % 2048 - 32)).trained
  | _ => true

/-- The gate drives of a CHAN page after STAT.ENABLED has changed: an Axle channel excites only while the page is enabled (R479). -/
def excitationFollows (s : State) (pg : Nat) : State :=
  if unitOf s.part pg = some .chan then
    (List.range 8).foldl (fun s k =>
      let m := 24 * pgRegion pg + 8 * (pg % 64 - 33) + k
      if chMode s m = 3 then applyGd s m else s) s
  else s

/-- ENABLED_FOLLOWS (R77). -/
def execEnabledFollows (pg : BitVec 15) (s : State) : Host.Outcome State Fault Refusal :=
  let p := pg.toNat
  done (unitDo s p (fun s => excitationFollows (rset s p 5 (setBit (rget s p 5) 0 (enabled s p && unitReady s p))) p))

/-- ERR_FIRST_RELEASE (R79): V clears, CAUSE and INFO stay. -/
def execErrFirstRelease (pg : BitVec 15) (s : State) : Host.Outcome State Fault Refusal :=
  done (unitDo s pg.toNat (fun s => errRelease s pg.toNat))

/-- A write of ERR_COUNT: the errors of the same fabric cycle are counted after the clear (R17, R80). -/
def errCountStore (s : State) (pg : Nat) (v : Word) : State := if bit v 35 then rset s pg 7 (evNow s pg 7) else s

/-- ERR_COUNT_CLR (R80). -/
def execErrCountClr (pg : BitVec 15) (s : State) : Host.Outcome State Fault Refusal :=
  done (unitDo s pg.toNat (fun s => errCountStore s pg.toNat (fval 35 35 1)))

/-- LK (R82, R83). -/
def execLk (pg : BitVec 15) (s : State) : Host.Outcome State Fault Refusal :=
  done (unitDo s pg.toNat (fun s => rset s pg.toNat 10 (setBit (rget s pg.toNat 10) 0 true)))

end Sys2Proof.Machine
end

