-- ==== Sys2Proof/Machine/TaskMove.lean ====
section
/-! DEFINITION. The start of a task migration (R353, R354, R360, R362, Table 7.8) and the CMD register of a SEDGE page
(Table 7.13, Table 7.15). -/

namespace Sys2Proof.Machine

/-! ## Where a task may run -/

/-- The cores that Table 7.8 allows a compartment's tasks; heat never moves those of a Fixed one. -/
def taskAllowed (w : Word) (n : Nat) (heat : Bool) : Bool :=
  (!clsTimed w || decide (n / 4 = clsHome w)) && (!clsVital w || decide (n / 16 = clsDie w)) &&
  (if clsMode w = 0 then !heat
   else clsTimed w || clsVital w || decide (clsMode w = 2) || clsDies w (n / 16))

/-- The lines routed to a context (R360). -/
def routesTo (s : State) (n h : Nat) : List Nat :=
  (List.range 40).filter (fun i =>
    let r := rget s (corePg n) (80 + i)
    bit r 35 && decide (fld r 34 33 = h))

/-- What R360 asks of the source context: Waiting, nothing buffered or due, no call outstanding, its registers on the CORE
page not locked; and not halted (R664). -/
def taskMovable (s : State) (n h : Nat) : Bool :=
  let x := ctxAt s n h
  x.st == .waiting && !x.halted && x.lates.isEmpty && x.srb.isEmpty && decide (x.spilln = 0) &&
  !(coreAt s n).sb.any (fun e => decide (e.stamp.ctx.toNat = h)) && !locked s (corePg n)

/-- Whether the core block n works. -/
def coreThere (s : State) (n : Nat) : Bool :=
  decide (n < 16 * s.part.dies) && !isolatedRegion s (n / 4) && domUp s (domKey (n / 16) (n % 16))

/-- The Empty contexts of a core. -/
def emptyCtxs (s : State) (n : Nat) : List Nat := (List.range 4).filter (fun h => (ctxAt s n h).st == .empty)

/-- Whether a context may move to a core (R360). -/
def taskEligible (s : State) (n h m : Nat) (heat : Bool) : Bool :=
  let comp := (ctxAt s n h).comp
  coreThere s n && coreThere s m && decide (n ≠ m) && taskMovable s n h && !(emptyCtxs s m).isEmpty &&
  (readySetOf (coreAt s m) comp).isSome && taskAllowed (compcls s (n / 16) comp) m heat &&
  (routesTo s n h).all (fun i => !bit (rget s (corePg m) (80 + i)) 35 && !locked s (corePg m))

/-- A migration of a context begins; the context of the destination is any Empty one (notes/assumptions/4.md). -/
def beginTask (s : State) (d n h m : Nat) (byCmd : Bool) : State :=
  let r := pickOne s (emptyCtxs s m)
  match r.1 with
  | some k => setSedge r.2 d { sedge r.2 d with tmig := some { src := n, ctx := h, dst := m, dctx := k, byCmd := byCmd } }
  | none => s

/-- The end of a task migration without its commit (R362): a TMOVE gets result 7. -/
def abandonTask (s : State) (d : Nat) : State :=
  let x := sedge s d
  match x.tmig with
  | some t => setSedge s d { x with tmig := none, busy := if t.byCmd then some (6, 7, 0) else x.busy }
  | none => s

/-- A context becomes Ready: a migration of it is abandoned (R362). -/
def readyAbandons (s : State) (n h : Nat) : State :=
  (List.range s.part.dies).foldl (fun s d =>
    match (sedge s d).tmig with
    | some t => if t.src = n ∧ t.ctx = h then abandonTask s d else s
    | none => s) s

/-! ## TMOVE and the start by heat -/

/-- TMOVE (R348, R360, R366): a core of the die and region asked for, or any; result 5 where Table 7.8 forbids the place,
7 where no core is eligible, while TASKMIG is not in force (R364, notes/assumptions/54.md), or while a task migration of this Sedge is
in progress (notes/assumptions/39.md). -/
def cmdTmove (s : State) (d n h : Nat) (place : Word) : State :=
  let g := fld place 29 18
  if g ≠ 0 ∧ taskAllowed (compcls s (n / 16) (ctxAt s n h).comp) (4 * g) false = false then cmdBusy s d 6 5 0 else
  let r := pickOne s ((coreNos s).filter (fun m => (decide (g = 0) || decide (m / 4 = g)) && taskEligible s n h m false))
  match (if sedgeFeature s d 3 then r.1 else none), (sedge s d).tmig with
  | some m, none => beginTask (cmdBusy r.2 d 6 0 0) d n h m true
  | _, _ => cmdBusy s d 6 7 0

/-- TMOVE (R366). -/
def execTmove (die : BitVec 3) (source : BitVec 12) (ctx : BitVec 2) (place : Word) (s : State) :
    Host.Outcome State Fault Refusal :=
  done (unitDo s (sedgePg die.toNat) (fun s =>
    sedgeCmd s die.toNat (fun s => cmdTmove s die.toNat source.toNat ctx.toNat place)))

/-- Whether heat may move tasks from one core to another (R353, R364, R354, R363). -/
def taskHeat (s : State) (d n m : Nat) : Bool :=
  sedgeFeature s d 3 && bit (rget s (sedgePg d) 4) 3 && (s.safety == .run || s.safety == .degraded) && (sedge s d).tmig.isNone &&
  decide (rfld s (sedgePg d) 28 35 18 * 1024 < 2 * (coreAt s n).multiLast) && !(coreAt s m).readyLast

/-- TASK_MIGRATION_START (R353, R354, R360, R363): a move by heat. -/
def execTaskMigrationStart (die : BitVec 3) (source : BitVec 7) (ctx : BitVec 2) (dest : BitVec 7) (s : State) :
    Host.Outcome State Fault Refusal :=
  let d := die.toNat
  let n := source.toNat
  let m := dest.toNat
  done (if sedgeWorks s d && taskHeat s d n m && taskEligible s n ctx.toNat m true
    then beginTask s d n ctx.toNat m false else s)

/-! ## CMD (Table 7.13) -/

/-- A store to CMD: the command of OP with ARG_0 to ARG_2; an OP of no command has no effect but R365's while one is in progress
(notes/assumptions/17.md). -/
def sedgeCmdStore (s : State) (d : Nat) (v : Word) : State :=
  let pg := sedgePg d
  let a0 := rfld s pg 17 29 0
  let a1 := rget s pg 18
  let a2 := rget s pg 19
  sedgeCmd s d (fun s =>
    match fld v 35 32 with
    | 1 => cmdRegister s d a0 (fld a1 27 20) (fld a1 19 0) a2
    | 2 => cmdRelease s d a0
    | 3 => cmdMove s d a0 a2
    | 4 => cmdPool s d a0 (fld a1 19 0)
    | 5 => cmdReclaim s d a0 (fld a1 19 0)
    | 6 => cmdTmove s d (fld a1 19 8) (fld a1 7 6) a2
    | 7 => cmdPin s d a0 (bit a1 0)
    | _ => s)

/-- DIR_0 to DIR_3 of a directory entry (Table 7.17). -/
def dirWord (e : DirEnt) (k : Nat) : Word :=
  match k with
  | 0 => fval 35 35 (bnat e.v) ||| fval 34 33 (match e.st with | .placed => 0 | .moving => 1 | .lost => 2) |||
      fval 32 32 (bnat e.pin) ||| fval 31 24 e.comp.toNat ||| fval 19 0 e.vpn
  | 1 => fval 29 0 e.eaddr
  | 2 => fval 29 10 e.pfn
  | _ => fval 35 27 e.heatL ||| fval 26 18 e.remote.1 ||| fval 17 15 e.remote.2

end Sys2Proof.Machine
end

