-- ==== Sys2Proof/Machine/Entry.lean ====
section
/-! DEFINITION. Entry to a handler
(R272, R273, R277, R280, R281) and the wait of R178. Taking a fault, a trap or an interrupt is one operation,
`enter`; the return is in System. -/

namespace Sys2Proof.Machine

/-! ## Entry -/

/-- The level FLVL gives a vector; 0 and 15 act as 14 (Table 6.12). -/
def flvl (s : State) (n v : Nat) : Nat :=
  let l :=
    if v < 8 then rfld s (corePg n) 120 (4 * v + 3) (4 * v)
    else if v < 16 then rfld s (corePg n) 121 (4 * (v - 8) + 3) (4 * (v - 8))
    else rfld s (corePg n) 122 3 0
  if l = 0 ∨ l = 15 then 14 else l

/-- FINFO (Table 6.5). -/
def finfo (vec ovec h comp cause : Nat) (long esc : Bool) : Word :=
  fval 35 30 vec ||| fval 29 24 ovec ||| fval 23 23 (bnat long) ||| fval 22 22 (bnat esc) ||| fval 21 20 h |||
  fval 19 12 comp ||| fval 11 6 cause

/-- What an entry is about to do: the frame's place and size, the words it writes, and the vector entered. -/
structure EntryPlan where
  vec : Nat
  esc : Bool
  frame : Nat
  size : Nat
  long : Bool
  writes : List (Nat × Word × Bool)
  deriving DecidableEq, Repr

/-- The checks of R272 and R280 and the words R281 writes, for vector v with return address `ret`. Every condition
of R280 that State shows answers the Mire cause. -/
def entryPlan (s : State) (n h : Nat) (x : Ctx) (t : Trap) (ret : Cap) (perm : Nat) : Except Nat EntryPlan :=
  let esc := decide (t.vec < 24 ∧ t.vec ≠ 1 ∧ flvl s n t.vec ≤ x.mlv.toNat)
  let v := if esc then 1 else t.vec
  let long := x.fb
  let size := if long then 64 else 16
  let f := x.fsp.cursor - size
  let ceil := x.priv
  let tb := x.tsbBase
  if esc ∧ x.mlv = 15 then .error 3
  else if !x.fsp.tag ∨ x.fsp.otype ≠ 0 then .error 4
  else if x.fsp.cursor < size ∨ f < x.fsp.base then .error 4
  else if !x.hcc.tag ∨ !x.hcc.has .execute then .error 4
  else if !long ∧ (!x.tsp.tag ∨ x.tsp.otype ≠ 58) then .error 4
  else
    let saved := x.saveWords s h
    let state :=
      if long then
        capWords (f + 16) ret ++ untagged (f + 18) saved ++ capWords (f + 30) (x.cr 6) ++ capWords (f + 32) (x.cr 7) ++
        untagged (f + 34) ((List.range 24).map (fun i => x.wphys (200 + i)))
      else
        capWords (tb + 2) ret ++ untagged (tb + 4) saved ++ [(tb + 15, fval 35 35 1, false)] ++
        capWords (tb + 16) (x.cr 6) ++ capWords (tb + 18) (x.cr 7)
    let fseal := mkCap perm 60 f size (f + ceil)
    let frame :=
      capWords f fseal ++
      untagged (f + 2) [finfo v t.vec h (t.comp.getD x.comp) t.cause long esc, fval 29 0 t.faddr, t.faux, 0,
                        BitVec.ofNat 36 (coreAt s n).cyc]
    .ok { vec := v, esc := esc, frame := f, size := size, long := long, writes := state ++ frame }

/-- The permissions of the handler's C7: Load, Store, LoadCap (R281, R282). -/
def handlerPerm : Nat := 0xD00

/-- The context after the writes of an entry (R273, R277, R281). -/
def Ctx.entered (x : Ctx) (p : EntryPlan) (level : Nat) : Ctx :=
  let y := if p.long then x else x.setTsp (x.tsp.withCursor (x.tsp.cursor / 4 * 4 + x.priv))
  let z := (y.setC 6 x.hdc).setC 7 (mkCap handlerPerm 0 p.frame p.size p.frame)
  { z with
    fsp := x.fsp.withCursor p.frame
    rsm0 := setFld x.rsm0 35 33 0
    psw := setBit (setFld (setBit x.psw 4 true) 1 0 0) 7 false
    mlv := if p.vec = 1 then 15 else if 24 ≤ p.vec then BitVec.ofNat 4 level else x.mlv
    pcc := x.hcc.retarget (x.vba.toNat + 8 * p.vec)
    fresh := true, lastLoad := none, stepping := false, barrier := none }

/-- Entry (R281): a fault, trap or interrupt of context h with return address `ret`; `level` is an interrupt
line's. -/
def enter (n h : Nat) (t : Trap) (ret : Cap) (level : Nat) : X Unit := do
  upd (fun s =>
    let x := (ctxAt s n h).landLoad.finishMuls
    setCtx (drainAll s n) n h { (ctxAt (drainAll s n) n h) with
      w := x.w, c := x.c, mh := x.mh, ml := x.ml, muls := [], div := none, proofLoad := none })
  let perm ← act (fun s => ((Config.freeValue 12 s.fresh).toNat, { s with fresh := s.fresh + 1 }))
  let s ← get
  let x := ctxAt s n h
  match entryPlan s n h x t ret perm with
  | .error c => throw (.mire c)
  | .ok p =>
    p.writes.forM (entryWrite n h)
    upd (fun s => let s1 := discardPq (setCtx s n h (x.entered p level)) n h
                  setCore s1 n { coreAt s1 n with
                    held := none, arrived := none, stall := none, midway := none, undo := none, fetchAt := none })

/-- Runs an entry to a next state, which ends a step (R665); `fin` is what a completed entry does besides. A write that fails enters
Mire with the core as it was (R280); a write whose walk meets a held entry leaves everything for the next attempt (R339). -/
def runEntry (s : State) (n h : Nat) (t : Trap) (ret : Cap) (level : Nat) (fin : State → State) : State :=
  match (enter n h t ret level) s with
  | .ok _ s1 =>
    let s2 := fin s1
    if (ctxAt s n h).stepping then irqPend s2 (pkgPg 3) 1 else s2
  | .error (.mire c) s1 => mireEnter (unentered s s1 n) c (n / 16) n
  | .error (.trap _) s1 => mireEnter (unentered s s1 n) 4 (n / 16) n
  | .error _ s1 => setCore s n { coreAt s n with held := (coreAt s1 n).held.map (fun w => { w with entry := true }) }

/-- A precise fault of the issuing instruction: the return address is its own, or that of the instruction after it (Table 6.1). -/
def takeTrap (s : State) (n h : Nat) (t : Trap) : State :=
  let p := (ctxAt s n h).pcc
  runEntry s n h t (if t.after then p.move (p.cursor + 1) else p) 0 (fun s => s)

/-! ## The response to an interrupt (R252) -/

/-- The latency that Table 5.4 adds to a fetch of core n at a physical address; 110 to 400 cycles from external memory, which one
being open (notes/assumptions/16.md). -/
def fetchAdded (s : State) (n pa : Nat) : Nat × State :=
  let b := pa / 65536
  if 134217728 ≤ pa then
    if isPage pa then (0, s) else (110 + (Config.freeValue 9 s.fresh).toNat % 291, { s with fresh := s.fresh + 1 })
  else if b = n then (0, s)
  else if b / 4 = n / 4 then (6, s)
  else if b / 16 = n / 16 then (14, s)
  else (38, s)

/-- The cycles that Table 5.5 adds to the fetch of a virtual address, and the physical address it finds. -/
def xlatAdded (s : State) (n va : Nat) : Nat × Nat × State :=
  let ttb := fld (rget s (corePg n) 176) 29 10
  if bit (rget s (corePg n) 176) 35 = false then (0, va, s)
  else
    match lookup n va .fetch s with
    | .ok t _ =>
      let pa := t.e.frame * 1024 + va % 1024
      if (tlbFind (coreAt s n).itlb (va / 1024)).isSome then (0, pa, s)
      else if t.lvl = 0 then (3, pa, s)
      else
        let l1 := fetchAdded s n (ttb * 1024 + va / 1048576)
        if t.lvl = 1 then (6 + l1.1, pa, l1.2)
        else
          let l2 := fetchAdded l1.2 n t.ea
          (8 + l1.1 + l2.1, pa, l2.2)
    | .error _ _ => (0, va, s)

/-- The IRQLAT value of a response (R252, R622, Table 5.7): 12 cycles, 2 more from WAIT, 32 more from Hold (R623), the cycles since the
interrupt became due while an access, an instruction or a page store held the core, and the fetch of the vector word
(notes/assumptions/16.md). -/
def irqLatency (s : State) (n h line : Nat) : Nat × State :=
  let c := coreAt s n
  let x := xlatAdded s n ((ctxAt s n h).vba.toNat + 8 * (24 + line))
  let f := fetchAdded x.2.2 n x.2.1
  let held := match c.irqAt with
    | some t => c.cyc - t
    | none => 0
  (min 4095 ((12 + (if (ctxAt s n h).st = .waiting then 2 else 0)) * trimScale s n +
    (if (dom s (domKey (n / 16) (n % 16))).st = .hold then 32 else 0) + held + x.1 + f.1), f.2)

/-- Changes the issuing context: the queue is discarded (R227, R262), and a held walk of the other context with its access; a
load of Proof of the context left lands, as the next instruction is another context's (R214), and the load-use stall of R222 is
between two instructions of one context that follow each other. -/
def switchCtx (s : State) (n h : Nat) : State :=
  if (coreAt s n).cur = h then s
  else
    let s1 := discardPq s n (coreAt s n).cur
    let s2 := setCtx s1 n (coreAt s n).cur (ctxAt s1 n (coreAt s n).cur).landLoad
    let s3 := setCtx s2 n h { ctxAt s2 n h with lastLoad := none }
    setCore s3 n { coreAt s3 n with
      cur := h, held := none, arrived := none, stall := none, midway := none, fetchAt := none }

/-- What the entry of an interrupt does beside the entry: a division of the context that issued is abandoned (R182), the context
becomes Ready and issues (R263, R269), and IRQLAT shows the response (R252). -/
def interruptTaken (n h lat : Nat) (s : State) : State :=
  let h0 := (coreAt s n).cur
  let s1 := setCtx s n h0 { ctxAt s n h0 with div := none }
  let s2 := readyAbandons s1 n h
  let s3 := switchCtx (setCtx s2 n h { ctxAt s2 n h with st := .ready }) n h
  rset (setCore s3 n { coreAt s3 n with irqAt := none }) (corePg n) 74 (fval 11 0 lat)

/-- The entry of a due interrupt: the line's vector is entered (R263, R269, R273, Table 6.1). -/
def takeInterrupt (s : State) (n h level line : Nat) : State :=
  let r := route s n line
  let lat := irqLatency s n h line
  runEntry lat.2 n h
    { vec := 24 + line, cause := 0, faddr := 0, faux := fval 17 14 (fld r 17 14) ||| fval 13 3 (fld r 13 3) }
    (ctxAt s n h).pcc level (interruptTaken n h lat.1)

/-- A Waiting context becomes Ready when an interrupt routed to it is pending above its MLV (R263); a halted one keeps
its state (R664). No line is compared before a handler's first instruction (R301). -/
def wakeContexts (s : State) (n : Nat) : State :=
  if handlerFirst s n then s else
  (List.range 4).foldl (fun s h =>
    let x := ctxAt s n h
    if x.st = .waiting ∧ x.halted = false ∧ (lineFor s n h).isSome then
      setCtx (readyAbandons s n h) n h { x with st := .ready } else s) s

/-- The oldest late store error of a context on vector 7 (R296, R297). -/
def takeLate (s : State) (n h : Nat) : State :=
  let x := ctxAt s n h
  match x.lates with
  | e :: _ =>
    runEntry s n h { vec := 7, cause := e.cause, faddr := e.addr, faux := BitVec.ofNat 36 e.tsb, comp := some e.comp.toNat }
      x.pcc 0 (fun s => setCtx s n h { ctxAt s n h with lates := (ctxAt s n h).lates.drop 1 })
  | [] => s

/-- Takes the interrupt that is due on a core, if any (R269). -/
def takeDue (s : State) (n : Nat) : State :=
  match interruptDue s n with
  | some (h, l, i) => takeInterrupt s n h l i
  | none => s

end Sys2Proof.Machine
end

