-- ==== Sys2Proof/Machine/DebugOps.lean ====
section
/-! DEFINITION. Halted contexts and their registers (R663 to R669, Table 14.4), and the FRZ page as software writes it. -/

namespace Sys2Proof.Machine

/-! ## DBGCTL (R663 to R666) -/

/-- A write that only the debug master makes: from another stamp it is ignored and captured (R663). -/
def byDebug (s : State) (st : Stamp) (off : Nat) (f : State → State) : State :=
  if st.cls = 2 then f s else capture s frzPg 8 off

/-- A refused DBGCTL. -/
def dbgRefuse (s : State) (n : Nat) : State := capture s frzPg 9 n

/-- The core's domain is in Run, Trim or Hold (R664). -/
def haltable (s : State) (n : Nat) : Bool :=
  decide (n < 16 * s.part.dies) && !isolatedRegion s (n / 4) && domUp s (domKey (n / 16) (n % 16))

/-- A context stops (R664): a MUL in flight completes, a DIV is abandoned. -/
def Ctx.stopped (x : Ctx) : Ctx := { x.finishMuls with div := none, halted := true, stepping := false }

/-- The event of R299 that is due at a context's boundary is performed: its late store error, or the interrupt due. -/
def haltEntry (s : State) (n h : Nat) : State :=
  if coreIssues s n = true ∧ (ctxAt s n h).fresh = false then
    if (coreAt s n).cur = h ∧ (ctxAt s n h).lates.isEmpty = false then takeLate s n h
    else if (interruptDue s n).map (fun t => t.1) = some h then takeDue s n
    else s
  else s

/-- HALT (R664): an entry that is due at the same boundary is performed first. -/
def haltCtx (s : State) (n h : Nat) : State :=
  if (ctxAt s n h).st = .empty ∨ haltable s n = false then dbgRefuse s n
  else if (ctxAt s n h).halted then s
  else
    let s1 := haltEntry s n h
    irqPend (setCtx s1 n h (ctxAt s1 n h).stopped) frzPg 1

/-- STEP (R665): the context issues one instruction; at a BREAK, the one after it (notes/assumptions/38.md). -/
def stepCtx (s : State) (n h : Nat) : State :=
  let x := ctxAt s n h
  if x.halted then setCtx s n h { x.released with halted := true, stepping := true } else dbgRefuse s n

/-- RUN (R666). -/
def runCtx (s : State) (n h : Nat) : State :=
  let x := ctxAt s n h
  if x.halted then setCtx s n h x.released else dbgRefuse s n

/-- A DBGCTL operation: 1 HALT, 2 STEP, 3 RUN; refused outside Halt and Full (R663). The core it names is the one that
DBGHSTAT shows. -/
def dbgctl (s : State) (st : Stamp) (op n h : Nat) : State :=
  byDebug s st 17 (fun s =>
    let s1 := rset s frzPg 17 (fval 32 26 n)
    if dbgState s < 2 then dbgRefuse s1 n
    else if op = 1 then haltCtx s1 n h
    else if op = 2 then stepCtx s1 n h
    else if op = 3 then runCtx s1 n h
    else s1)

/-- HALT (R664). -/
def execHalt (st : Stamp) (core : BitVec 7) (h : BitVec 2) (s : State) : Host.Outcome State Fault Refusal :=
  done (unitRequest s st frzPg 17 .dbgWrite (fun s => dbgctl s st 1 core.toNat h.toNat))

/-- STEP (R665). -/
def execStep (st : Stamp) (core : BitVec 7) (h : BitVec 2) (s : State) : Host.Outcome State Fault Refusal :=
  done (unitRequest s st frzPg 17 .dbgWrite (fun s => dbgctl s st 2 core.toNat h.toNat))

/-- RUN (R666, R667). -/
def execRun (st : Stamp) (core : BitVec 7) (h : BitVec 2) (s : State) : Host.Outcome State Fault Refusal :=
  done (unitRequest s st frzPg 17 .dbgWrite (fun s => dbgctl s st 3 core.toNat h.toNat))

/-! ## Context registers (Table 14.4) -/

/-- A word of a capability. -/
def capWord (c : Cap) (low : Bool) : Word × Bool := (if low then c.lo else c.hi, c.tag)

/-- A capability with one word written and its tag cleared (R668). -/
def capPut (c : Cap) (low : Bool) (v : Word) : Cap :=
  if low then { c with lo := v, tag := false } else { c with hi := v, tag := false }

/-- GE_k. -/
def Ctx.gateEntry (x : Ctx) (k : Nat) : Cap := kget (fun _ => Cap.null) x.ge k

/-- The register of an index, as the read-out and DBGRDATA show it; none beyond the table. -/
def ctxReg (s : State) (h : Nat) (x : Ctx) (i : Nat) : Option (Word × Bool) :=
  if i < 224 then some (x.wphys i, false)
  else if i < 240 then some (capWord (x.cphys ((i - 224) / 2)) (i % 2 == 1))
  else if i < 368 then some (capWord (x.cphys (8 + (i - 240) / 2)) (i % 2 == 1))
  else if i < 370 then some (capWord x.pcc (i % 2 == 1))
  else if i < 382 then
    some ((([pswOf s h x, x.win, x.mlv.setWidth 36, x.vba, x.ssp, x.mh, x.ml, x.dq, x.dm, x.qw, x.rsm0, x.rsm1])[i - 370]?).getD 0, false)
  else if i < 384 then some (capWord x.tsp (i % 2 == 1))
  else if i < 386 then some (capWord x.tspOther (i % 2 == 1))
  else if i < 388 then some (capWord x.fsp (i % 2 == 1))
  else if i < 404 then some (capWord (x.gateEntry ((i - 388) / 2)) (i % 2 == 1))
  else none

/-- A write of PSW by a debugger: AOV, and PRIV toward Task (R668). -/
def Ctx.debugPsw (x : Ctx) (v : Word) : Ctx :=
  { x with psw := setFld (setBit x.psw 7 (bit v 7)) 1 0 (if fld v 1 0 ≤ 2 then max (fld x.psw 1 0) (fld v 1 0) else fld x.psw 1 0) }

/-- A write of one of the words at indexes 0o562 to 0o575. -/
def Ctx.debugSpecial (x : Ctx) (k : Nat) (v : Word) : Ctx :=
  match k with
  | 0 => x.debugPsw v
  | 1 => { x with win := v &&& fmask 5 0 }
  | 2 => { x with mlv := v.setWidth 4 }
  | 3 => { x with vba := setFld v 8 0 0 }
  | 4 => { x with ssp := v }
  | 5 => { x with mh := v }
  | 6 => { x with ml := v }
  | 7 => { x with dq := v }
  | 8 => { x with dm := v }
  | 9 => x.setQw v
  | 10 => { x with rsm0 := v &&& (fmask 35 33 ||| fmask 29 0) }
  | _ => { x with rsm1 := v &&& fmask 31 0 }

/-- A register written by a debugger (R668). -/
def ctxRegSet (x : Ctx) (i : Nat) (v : Word) : Ctx :=
  let low := i % 2 == 1
  if i < 224 then x.wphysSet i v
  else if i < 240 then x.cphysSet ((i - 224) / 2) (capPut (x.cphys ((i - 224) / 2)) low v)
  else if i < 368 then x.cphysSet (8 + (i - 240) / 2) (capPut (x.cphys (8 + (i - 240) / 2)) low v)
  else if i < 370 then { x with pcc := capPut x.pcc low v }
  else if i < 382 then x.debugSpecial (i - 370) v
  else if i < 384 then x.setTsp (capPut x.tsp low v)
  else if i < 386 then x.setTspOther (capPut x.tspOther low v)
  else if i < 388 then { x with fsp := capPut x.fsp low v }
  else { x with ge := kset (fun _ => Cap.null) x.ge ((i - 388) / 2) (capPut (x.gateEntry ((i - 388) / 2)) low v) }

/-- Whether DBGRIDX and DBGRDATA reach a context's registers (R657, R668). -/
def regReach (s : State) (n h i : Nat) (write : Bool) : Bool :=
  (ctxAt s n h).halted && decide (i < 404) && (s.lcs == .blank || tokenSlot s n) &&
  (if write then decide (dbgState s = 3) else decide (2 ≤ dbgState s))

/-- The register that DBGRIDX names: core, context, index. -/
def dbgTarget (s : State) : Nat × Nat × Nat := (rfld s frzPg 19 35 29, rfld s frzPg 19 28 27, rfld s frzPg 19 8 0)

/-- A refused access captures cause 0o12 with the index; DBGRSTAT shows it (Table 14.13). -/
def regRefuse (s : State) (i : Nat) : State := capture (rset s frzPg 21 0) frzPg 10 i

/-- A read of DBGRDATA (R668). -/
def dbgrdataLoad (s : State) : Word × State :=
  let (n, h, i) := dbgTarget s
  match regReach s n h i false, ctxReg s h (ctxAt s n h) i with
  | true, some (w, t) => (w, rset s frzPg 21 (fval 35 35 (bnat t) ||| fval 34 34 1))
  | _, _ => (0, regRefuse s i)

/-- A write of DBGRDATA (R663, R668). -/
def dbgrdataStore (s : State) (st : Stamp) (v : Word) : State :=
  byDebug s st 20 (fun s =>
    let (n, h, i) := dbgTarget s
    if regReach s n h i true then rset (setCtx s n h (ctxRegSet (ctxAt s n h) i v)) frzPg 21 (fval 34 34 1)
    else regRefuse s i)

/-- DBGRDATA_ACCESS (R668). -/
def execDbgrdataAccess (st : Stamp) (write : Option Word) (s : State) : Host.Outcome State Fault Refusal :=
  done (match write with
    | some v => unitRequest s st frzPg 20 .dbgWrite (fun s => dbgrdataStore s st v)
    | none => unitRequest s st frzPg 20 .dbgRead (fun s => let r := dbgrdataLoad s; replyWord r.2 r.1))

/-- A store to a unit register of the FRZ page (R663). -/
def frzStore (s : State) (st : Stamp) (off : Nat) (v : Word) : State :=
  if off = 17 then dbgctl s st (fld v 35 33) (fld v 32 26) (fld v 25 24)
  else if off = 20 then dbgrdataStore s st v
  else if off = 16 ∨ off = 19 ∨ (64 ≤ off ∧ off < 140) then byDebug s st off (fun s => writeFields s frzPg off v)
  else writeFields s frzPg off v

/-- DBGHSTAT: the halted contexts of the core last named in DBGCTL. -/
def dbgHstat (s : State) : Word :=
  (List.range 4).foldl (fun w h => setBit w (32 + h) (ctxAt s (rfld s frzPg 17 32 26) h).halted) 0

/-- Whether a context of the package is halted (FRZ STAT.ANYHALT). -/
def anyHalt (s : State) : Bool := s.cores.any (fun c => c.2.ctxs.any (fun x => x.2.halted))

end Sys2Proof.Machine
end

