-- ==== Sys2Proof/Machine/Readout.lean ====
section
/-! DEFINITION. What a load of a register shows (R13, R15, R68, R71, R612 and the register tables of the chapters): the
stored fields, and over them the fields that show the state of a unit. -/

namespace Sys2Proof.Machine

/-! ## Common registers -/

/-- PAGE_ID of a page (Table 2.8). -/
def pageIdWord (u : UnitTy) (pg : Nat) : Word :=
  fval 35 24 u.code ||| fval 17 14 (pg / 2048) ||| fval 13 3 (pg % 2048)

/-- PAGE_VER of B1 silicon (Table 2.9; MAJOR and MINOR: notes/assumptions/40.md). -/
def pageVerWord : Word := fval 35 32 1 ||| fval 31 28 1

/-- The unit bits of STAT. -/
def unitStat (s : State) (u : UnitTy) (pg : Nat) : Word :=
  let d := pg / 2048
  let q := pg % 2048
  match u with
  | .swp => fval 9 9 (bnat (filtering s)) ||| fval 8 8 (bnat (sweep s (pgRegion pg)).on)
  | .sedge =>
    let x := sedge s d
    fval 10 10 (bnat x.tmig.isSome) ||| fval 9 9 (bnat x.mig.isSome) ||| fval 8 8 (bnat x.busy.isSome)
  | .mgate => fval 8 8 (bnat (epochPend (coreAt s (blockOf pg))))
  | .ttime => fval 10 9 (ttRole s) ||| fval 8 8 (bnat s.sync.hold)
  | .cbk => fval 8 8 (bnat (bit (rget s pg 5) 0))
  | .sluice => fval 8 8 (bnat (laneOk s (pgRegion pg) (v3On s (pgRegion pg))))
  | .eth => fval 8 8 (bnat (eth s (q - 16)).link)
  | .canfd => fval 10 9 (can s d).estate
  | .flash =>
    let f := flash s (q - 24)
    fval 10 10 (bnat (match f.sfdp with | some t => t.fourByte | none => false)) ||| fval 9 9 (bnat f.carr) |||
    fval 8 8 (bnat f.busy.isSome)
  | .emp => fval 9 9 (bnat (emp s (q - 32)).selfref) ||| fval 8 8 (bnat (emp s (q - 32)).trained)
  | .carr => fval 9 9 (bnat (d == 0)) ||| fval 8 8 (bnat s.carr.busy.isSome)
  | .frz => fval 10 9 (dbgState s) ||| fval 8 8 (bnat (anyHalt s))
  | _ => 0
where
  /-- The block of an MGATE page. -/
  blockOf (pg : Nat) : Nat := 4 * pgRegion pg + (pg % 64 - 8) / 4
  /-- EPOCH.PEND: an access of an earlier epoch is outstanding. -/
  epochPend (c : Core) : Bool := c.epochs.any (fun e => e != c.epoch)

/-- STAT (Table 2.13). -/
def statWord (s : State) (u : UnitTy) (pg : Nat) : Word :=
  unitStat s u pg ||| fval 4 4 (bnat (bit (rget s pg 6) 35)) ||| fval 3 3 (bnat (bit (rget s pg 10) 0)) |||
  fval 2 2 (bnat (bit (rget s pg 5) 2)) ||| fval 1 1 (bnat (dom s (domOfPage pg)).drain.isSome) |||
  fval 0 0 (bnat (bit (rget s pg 5) 0))

/-! ## Registers that show a unit -/

/-- DOM_i and PDOM_j (Table 13.11); a domain that is not present reads STATE Off. -/
def domWord (s : State) (k : Nat) : Word :=
  if domPresent s.part k then
    let d := dom s k
    let w := fval 35 33 d.req ||| fval 32 30 d.st.num ||| fval 29 29 (bnat d.drain.isSome) |||
      fval 28 28 (bnat d.queued.isSome) ||| fval 27 27 (bnat d.held) ||| fval 23 20 d.why
    if k < 512 then w ||| fval 26 26 (bnat d.wake) ||| fval 25 24 d.trimdiv else w
  else fval 32 30 Power.off.num ||| fval 23 20 (dom s k).why

/-- VENSTAT of dies 0 and 1 (Table 10.16). -/
def venstat (s : State) (i : Nat) : Word :=
  let v := ven s i
  fval 35 35 (bnat v.toggling) ||| fval 34 32 v.why ||| fval 17 0 v.next.toNat

/-- The DSV registers; those of a vital enable are on dies 0 and 1 (Table 10.16). -/
def dsvShown (s : State) (d off : Nat) (w : Word) : Word :=
  if 64 ≤ off ∧ 2 ≤ d then 0 else if off = 66 then venstat s d else w

/-- The PWR registers. -/
def pwrShown (s : State) (d off : Nat) (w : Word) : Word :=
  if 16 ≤ off ∧ off < 60 then domWord s (domKey d (off - 16))
  else if 64 ≤ off ∧ off < 71 then (if d = 0 then domWord s (512 + (off - 64)) else 0)
  else w

/-- STATE of BRGSTAT_p (Table 11.4). -/
def brgState (s : State) (k : Nat) : Nat :=
  if linkExists s.part k then
    match (linkAt s k).st with
    | .off => 0
    | .training => 1
    | .up => 2
    | .retrain => 3
    | .down => 4
    | .wait => 1
  else 0

/-- Credits held for sending and units buffered of a link, in the fields of a credit register. -/
def credWord (s : State) (out inn th tl bh bl oh ol ph pl : Nat) : Word :=
  fval th tl (linkAt s out).timed.s ||| fval bh bl (linkAt s out).bulk.s ||| fval oh ol (linkAt s inn).timed.b |||
  fval ph pl (linkAt s inn).bulk.b

/-- The BRG registers. -/
def brgShown (s : State) (d off : Nat) (w : Word) : Word :=
  let k := 512 + 4 * d + off % 4
  if 16 ≤ off ∧ off < 19 then
    fval 35 33 (brgState s k) ||| fval 32 30 (if brgState s k = 0 then 0 else (bridgePeer s.part d (off - 16)).getD 0)
  else if 20 ≤ off ∧ off < 23 then
    (if linkExists s.part k then credWord s k (reverseKey s.part k) 35 30 29 24 23 18 17 12 else 0)
  else w

/-- The XBAR registers. -/
def xbarShown (s : State) (g off : Nat) (w : Word) : Word :=
  if 16 ≤ off ∧ off < 23 then
    credWord s (8 * g + (off - 16)) (256 + 8 * g + (off - 16)) 35 32 31 28 27 24 23 20
  else w

/-- STATE of CWYSTAT (Table 11.7). -/
def cwyNum (x : LinkState) : Nat :=
  match x with
  | .off => 0
  | .training => 1
  | .up => 2
  | .retrain => 3
  | .down => 4
  | .wait => 5

/-- The CWY registers. -/
def cwyShown (s : State) (i off : Nat) (w : Word) : Word :=
  let c := cwy s i
  let serial := match c.peer with | some p => p.serial.toNat | none => 0
  match off with
  | 16 => fval 35 33 (cwyNum (cwyState s i)) ||| fval 32 29 c.lanes.toNat |||
      fval 28 28 (bnat (activeLink s i == some i)) ||| fval 27 26 c.ppos.toNat ||| fval 25 25 (bnat c.pmem) |||
      fval 24 22 c.waitWhy ||| fval 17 0 c.delay
  | 17 => credWord s (544 + i) (548 + i) 35 30 29 23 22 17 16 10
  | 21 => fval 35 0 (serial % 2 ^ 36)
  | 22 => fval 27 0 (serial / 2 ^ 36)
  | _ => w

/-- The REED registers. -/
def reedShown (s : State) (d off : Nat) (w : Word) : Word :=
  if off = 18 then (reed s d).evcnt1
  else if 256 ≤ off then setFld w 12 0 ((reed s d).used (off - 256))
  else w

/-- ST of EVST (Table 9.9). -/
def EvState.num (x : EvState) : Nat :=
  match x with
  | .free => 0
  | .pending => 1
  | .armed => 2
  | .fire => 3

/-- The REEDEV registers: the entry EVIDX names. -/
def reedevShown (s : State) (d off : Nat) (w : Word) : Word :=
  let e := (reed s d).entry (rfld s (diePg d 5) 22 11 0)
  match off with
  | 23 => e.trig
  | 24 => e.period
  | 25 => e.ctrl
  | 26 => e.arg
  | 27 =>
    let m := 96 * d + e.chan
    fval 35 33 e.st.num |||
    fval 32 32 (bnat (e.live && decide (e.chan < 96) && (((voter s (m / 24)).commit m (BitVec.ofNat 12 e.key)).isSome))) |||
    fval 31 24 e.comp.toNat ||| fval 23 21 e.pdie.toNat
  | _ => w

/-- The SEDGE registers. -/
def sedgeShown (s : State) (d off : Nat) (w : Word) : Word :=
  let x := sedge s d
  if 22 ≤ off ∧ off < 26 then dirWord (x.entry (rfld s (sedgePg d) 21 12 0)) (off - 22)
  else if off = 27 then x.frames1
  else if off = 34 then fval 13 0 (x.entries (fun _ => true)).length
  else w

/-- The Carr registers: every die shows what the primary holds (R612). -/
def carrShown (s : State) (off : Nat) (w : Word) : Word :=
  let b := s.boot
  let f := s.fusesRead
  let num := fun (i : Option Image) (g : Image → Nat) => match i with | some x => g x | none => 0
  let rej := fun (k : Nat) => kget (fun _ => 0) b.rej k
  match off with
  | 6 => rget s (carrPg 0) 6
  | 7 => rget s (carrPg 0) 7
  | 8 => rget s (carrPg 0) 8
  | 9 => rget s (carrPg 0) 9
  | 16 =>
    fval 35 33 s.lcs.num ||| fval 32 30 b.pend ||| fval 29 27 b.svcWhy |||
    (match b.rngFail with | some d => fval 26 24 d.toNat ||| fval 23 23 1 | none => 0)
  | 17 =>
    fval 35 31 b.outcome ||| fval 30 30 (num b.carr (fun i => bnat i.src)) ||| fval 29 29 (num b.app (fun i => bnat i.src)) |||
    fval 28 27 (num b.carr (fun i => i.slot)) ||| fval 26 25 (num b.app (fun i => i.slot)) ||| fval 19 16 (rej 0) |||
    fval 15 12 (rej 1) ||| fval 11 8 (rej 2) ||| fval 7 4 (rej 3)
  | 18 => fval 31 0 (num b.carr (fun i => i.iver))
  | 19 => fval 31 0 (num b.app (fun i => i.iver))
  | 20 => fval 35 28 (num b.carr (fun i => i.svn)) ||| fval 27 20 (num b.app (fun i => i.svn)) ||| fval 15 8 f.minsvnC |||
      fval 7 0 f.minsvnA
  | 21 => fval 35 32 f.validMask ||| fval 31 28 (((List.range 4).filter f.revoked).foldl (fun m k => m + 2 ^ k) 0) |||
      fval 27 24 f.dbgslot.toNat
  | 25 => rget s (carrPg 0) 25
  | 26 =>
    (match s.carr.token with
      | some t => fval 35 35 1 ||| fval 34 33 t.state ||| fval 16 0 ((t.expires - s.ticks) / (1000000 * ticksPerUs))
      | none => 0)
  | _ => w

/-- The CORE registers. -/
def coreShown (s : State) (n off : Nat) (w : Word) : Word :=
  if 128 ≤ off ∧ off < 132 then
    let x := ctxAt s n (off - 128)
    let st := match x.st with | .empty => 0 | .ready => 1 | .waiting => 2
    fval 35 34 st ||| (w &&& fmask 33 32) ||| fval 31 28 x.srb.length ||| fval 27 8 x.spilln
  else w

/-- STATE of RSSTAT (Table 8.7). -/
def RsState.num (x : RsState) : Nat :=
  match x with
  | .empty => 0
  | .loading => 1
  | .ready => 2
  | .fault => 3
  | .open => 4

/-- RSSTAT of a set (Table 8.14): USERS are the contexts whose active set it is. -/
def rsstat (c : Core) (b : Bool) : Word :=
  let r := c.set b
  let users := ((List.range 4).filter (fun h => (c.ctx h).setB == b)).foldl (fun m h => m + 2 ^ h) 0
  fval 35 33 r.st.num ||| fval 32 32 (bnat r.dma) ||| fval 31 28 users ||| fval 27 20 r.comp ||| fval 19 16 r.fcode |||
  fval 15 6 r.fslot ||| fval 5 4 r.fwin

/-- The MGATE registers. -/
def mgateShown (s : State) (n off : Nat) (w : Word) : Word :=
  let c := coreAt s n
  match off with
  | 18 => fval 35 35 (bnat (c.epochs.any (fun e => e != c.epoch))) ||| fval 15 0 c.epoch.toNat
  | 19 => rsstat c false
  | 20 => rsstat c true
  | 21 => fval 29 0 c.setA.imgva
  | 22 => fval 29 0 c.setB.imgva
  | 25 => rsdataLoad s n
  | _ => w

/-- The SWP registers. -/
def swpShown (s : State) (g off : Nat) (w : Word) : Word :=
  if off = 17 then fval 30 30 (bnat (sweep s g).phase) ||| fval 29 0 (sweep s g).addr else w

/-- The CBK registers. -/
def cbkShown (s : State) (g off : Nat) (w : Word) : Word :=
  let b := block s g
  match off with
  | 18 => fval 35 18 (b.frame % 2 ^ 18) ||| fval 8 0 b.index
  | 19 => b.smptt
  | 20 => fval 35 35 (bnat b.chkDone) ||| fval 34 34 (bnat b.chkPass)
  | 25 => b.axev1
  | _ => w

/-- CHSTAT (Table 10.12). -/
def chstat (s : State) (m : Nat) : Word :=
  let c := chan s m
  fval 35 33 (chMode s m) ||| fval 32 32 (bnat (gdBall s m)) ||| fval 31 31 (bnat (conducts s m)) ||| fval 30 30 (bnat c.safe) |||
  fval 29 26 c.cause ||| fval 25 25 (bnat c.lit) ||| fval 24 24 (bnat c.proved) ||| fval 23 23 (bnat c.darkok) |||
  fval 22 22 (bnat c.disturbed) ||| fval 21 21 (bnat (quiet s m)) ||| fval 20 18 ((voter s (m / 24)).count m) |||
  fval 15 0 c.level

/-- M0, M2 and M3 by the channel's mode (Table 10.12). -/
def chMeas (s : State) (m k : Nat) : Word :=
  let c := chan s m
  match measMode s m, k with
  | 1, 0 => c.rms
  | 2, 0 => c.encycShown
  | 3, 0 => fval 35 18 c.envA ||| fval 17 0 c.envB
  | 4, 0 => c.g0
  | 2, 2 => c.m2
  | 3, 2 => BitVec.ofNat 36 c.single
  | 4, 2 => c.g2
  | 2, 3 => BitVec.ofNat 36 c.cycles
  | 3, 3 => BitVec.ofNat 36 c.carrier
  | _, _ => 0

/-- The package channel of an offset of a CHAN page. -/
def chanOfOff (pg off : Nat) : Nat := 24 * pgRegion pg + 8 * (pg % 64 - 33) + (off - 64) / 32

/-- The CHAN registers. -/
def chanShown (s : State) (pg off : Nat) (w : Word) : Word :=
  if 64 ≤ off ∧ off < 320 then
    let m := chanOfOff pg off
    match off % 32 with
    | 1 => chstat s m
    | 8 => chMeas s m 0
    | 9 => (m1Load s m).1
    | 10 => chMeas s m 2
    | 11 => chMeas s m 3
    | _ => w
  else w

/-- The SLUICE registers. -/
def sluiceShown (s : State) (g off : Nat) (w : Word) : Word :=
  let v := voter s g
  if 20 ≤ off ∧ off < 23 then
    let l := off - 20
    if l = 2 ∧ s.part ≠ .tfw8x then 0
    else fval 17 12 (v.freeTok l) ||| fval 11 6 (v.openTok l) ||| fval 5 0 (v.heldTok l)
  else if 32 ≤ off ∧ off < 56 then
    let c := chan s (24 * g + (off - 32))
    fval 35 35 (bnat c.safe) ||| fval 34 31 c.cause ||| kget (fun _ => 0) v.safeInfo (off - 32)
  else w

/-- The PKG registers. -/
def pkgShown (s : State) (off : Nat) (w : Word) : Word :=
  let k := s.stack
  let serial := s.fusesRead.serno.toNat
  match off with
  | 48 => fval 35 34 k.role.toNat ||| fval 33 32 k.pos.toNat ||| fval 31 28 k.members.toNat ||| fval 27 27 (bnat k.orphan)
  | 49 => fval 35 0 (serial % 2 ^ 36)
  | 50 => fval 27 0 (serial / 2 ^ 36)
  | 51 => fval 35 0 (k.id.toNat % 2 ^ 36)
  | 52 => fval 27 0 (k.id.toNat / 2 ^ 36)
  | 53 => setFld w 35 34 (roleStrap s)
  | 64 => fval 35 33 s.safety.num
  | 67 => fval 31 0 s.isol.toNat
  | _ => w

/-- The tracked frequency of a reference in mHz; 0 while none is tracked. -/
def refFreq (s : State) (i : Nat) : Nat :=
  let r := ref s i
  if (r.st = .locked ∨ r.st = .holdover) ∧ refPeriod s i ≠ 0 then min 131071 (300000000000 / refPeriod s i) else 0

/-- The PHREF registers. -/
def phrefShown (s : State) (off : Nat) (w : Word) : Word :=
  if 16 ≤ off ∧ off < 48 then
    let i := (off - 16) / 4
    let r := ref s i
    match off % 4 with
    | 2 => fval 35 33 r.st.num ||| fval 32 32 (bnat r.slew) ||| (w &&& fmask 31 20) ||| fval 16 0 (refFreq s i)
    | 3 => refNow s i
    | _ => w
  else w

/-- The FLASH registers. -/
def flashShown (s : State) (i off : Nat) (w : Word) : Word :=
  match off, (flash s i).sfdp with
  | 24, some t => t.density
  | 25, some t => fval 19 0 t.eraseLog2.toNat
  | _, _ => w

/-- What a load of a register shows, side effects apart. -/
def shown (s : State) (pg off : Nat) : Word :=
  match unitOf s.part pg with
  | none => 0
  | some u =>
    let d := pg / 2048
    let q := pg % 2048
    let w := rget s pg off &&& readMask (u.fields off)
    match off with
    | 0 => pageIdWord u pg
    | 1 => pageVerWord
    | 2 => offer s pg
    | 5 => statWord s u pg
    | _ =>
      match u with
      | .dsv => dsvShown s d off w
      | .pwr => pwrShown s d off w
      | .brg => brgShown s d off w
      | .reed => reedShown s d off w
      | .reedev => reedevShown s d off w
      | .sedge => sedgeShown s d off w
      | .carr => carrShown s off w
      | .canfd => if off = 27 then fval 35 27 (can s d).txErr ||| fval 26 18 (can s d).rxErr else w
      | .xbar => xbarShown s (pgRegion pg) off w
      | .swp => swpShown s (pgRegion pg) off w
      | .core => coreShown s (4 * pgRegion pg + (pg % 64 - 8) / 4) off w
      | .mgate => mgateShown s (4 * pgRegion pg + (pg % 64 - 8) / 4) off w
      | .cbk => cbkShown s (pgRegion pg) off w
      | .chan => chanShown s pg off w
      | .sluice => sluiceShown s (pgRegion pg) off w
      | .pkg => pkgShown s off w
      | .phref => phrefShown s off w
      | .ttime => if off = 16 then BitVec.ofNat 36 s.tt else w
      | .frz => if off = 18 then dbgHstat s else w
      | .cwy => cwyShown s (q - 8) off w
      | .flash => flashShown s (q - 24) off w
      | _ => w

end Sys2Proof.Machine
end

