-- ==== Sys2Proof/Machine/ResetCmds.lean ====
section
/-! DEFINITION. Resets of the package and of a die, and the safety run state as software moves it (R19, R629 to R639, R710). -/

namespace Sys2Proof.Machine

/-! ## Reset balls and supplies (R629 to R631) -/

/-- The package is reset by PORST_N or a supply and held. -/
def holdPower (s : State) : State := pkgReset { s with pins := { s.pins with porHeld := true } } true

/-- The level of a reset ball changes: the outputs are forced low, or free again (R630, R631), which makes edges of GD. -/
def resetBall (s : State) (p : Pins) : State := gdEdges { s with pins := p }

/-- The package is reset by SYSRST_N and held. -/
def holdSystem (s : State) : State := pkgReset { s with pins := { s.pins with sysHeld := true } } false

/-- A reset that nothing holds any longer starts Boot. -/
def bootWhenFree (s : State) : State := if s.pins.porHeld || s.pins.sysHeld then s else bootStart s

/-- SUPPLY_FAULT (R629): the command names no supply, so that whether it is VDD_IO33, without which the outputs are undriven
(R630), is a free value (notes/assumptions/4.md). -/
def execSupplyFault (s : State) : Host.Outcome State Fault Refusal :=
  let io := s.pins.io33 && (Config.freeValue 1 s.fresh).getLsbD 0
  done (holdPower { s with pins := { s.pins with supplyBad := true, io33 := io }, fresh := s.fresh + 1 })

/-- SUPPLY_RESTORE (R629): the reset ends unless PORST_N is low. -/
def execSupplyRestore (s : State) : Host.Outcome State Fault Refusal :=
  done (if s.pins.supplyBad then
    let s1 := { s with pins := { s.pins with supplyBad := false, io33 := true, porHeld := !s.pins.porst } }
    bootWhenFree s1
  else s)

/-- PORST_N_ASSERT (R630, R631): `long` says that it lasts 200 ns or more. -/
def execPorstNAssert (long : Bool) (s : State) : Host.Outcome State Fault Refusal :=
  let s1 := resetBall s { s.pins with porst := false }
  done (if long then holdPower s1 else s1)

/-- PORST_N_RELEASE (R535, R631, R632): at the end of a reset the straps are sampled and Boot starts. -/
def execPorstNRelease (straps : BitVec 4) (s : State) : Host.Outcome State Fault Refusal :=
  done (if s.pins.porst then s
    else if s.pins.porHeld then
      bootWhenFree { s with straps := straps, pins := { s.pins with porst := true, porHeld := s.pins.supplyBad } }
    else resetBall s { s.pins with porst := true })

/-- SYSRST_N_ASSERT (R630, R631). -/
def execSysrstNAssert (long : Bool) (s : State) : Host.Outcome State Fault Refusal :=
  let s1 := resetBall s { s.pins with sysrst := false }
  done (if long then holdSystem s1 else s1)

/-- SYSRST_N_RELEASE (R631, R632): the straps are kept. -/
def execSysrstNRelease (s : State) : Host.Outcome State Fault Refusal :=
  done (if s.pins.sysrst then s
    else if s.pins.sysHeld then bootWhenFree { s with pins := { s.pins with sysrst := true, sysHeld := false } }
    else resetBall s { s.pins with sysrst := true })

/-! ## SWRST and DIERST (R633, R634) -/

/-- The package resets as by SYSRST_N and boots. -/
def softReset (s : State) : State := bootStart (pkgReset s false)

/-- A refusal of Table 13.9. -/
def srRefuse (s : State) (info : Nat) : State := capture s (pkgPg 0) 29 info

/-- A write of SWRST (R633). -/
def swrstStore (s : State) (v : Word) : State :=
  unlessLocked s (pkgPg 0) 69 (fun s =>
    if s.safety = .mire then s else if fld v 35 27 = 341 then softReset s else srRefuse s 9)

/-- SWRST (R633). -/
def execSwrst (v : Word) (s : State) : Host.Outcome State Fault Refusal :=
  done (unitDo s (pkgPg 0) (fun s => swrstStore s v))

/-- A write of DIERST (R634); a die that the part lacks is not reset. -/
def dierstStore (s : State) (v : Word) : State :=
  let d := fld v 2 0
  unlessLocked s (pkgPg 0) 70 (fun s =>
    if bit v 35 = false then s
    else if s.safety ≠ .boot ∧ s.safety ≠ .proof then srRefuse s 8
    else if d < 2 then softReset s
    else if d < s.part.dies then dieReset s d
    else s)

/-- DIERST (R634). -/
def execDierst (v : Word) (s : State) : Host.Outcome State Fault Refusal :=
  done (unitDo s (pkgPg 0) (fun s => dierstStore s v))

/-- DIE_RESET_RELEASE (R596, R617, R710). -/
def execDieResetRelease (die : BitVec 3) (s : State) : Host.Outcome State Fault Refusal :=
  let d := die.toNat
  done (if clocked s && s.dieRst.contains d then
    restorePages (copyClasses { s with dieRst := s.dieRst.filter (fun x => x != d) } d) (fun k => decide (k < 512 ∧ k / 64 = d))
  else s)

/-! ## SRCTL and REGREL (R636 to R639) -/

/-- A region with a vital channel whose self-test has not passed since the entry to Proof. -/
def untested (s : State) (g : Nat) : Bool :=
  (List.range 24).any (fun c => chVital s (24 * g + c)) && !((block s g).chkDone && (block s g).chkPass)

/-- Why GO is refused; 0 for none (Table 13.9). -/
def goWhy (s : State) : Nat :=
  if s.safety ≠ .proof then 1
  else if s.lcs = .service then 2
  else if s.isol ≠ 0 then 3
  else if (List.range (4 * s.part.dies)).any (untested s) then 4
  else if (match s.carr.token with | some t => decide (2 ≤ t.state) | none => false) = true then 5
  else 0

/-- SRCTL.GO (R637). -/
def goAct (s : State) : State :=
  match goWhy s with
  | 0 => { s with safety := .run }
  | w => srRefuse s w

/-- SRCTL.PROOF (R636). -/
def proofAct (s : State) : State :=
  if s.safety = .run ∨ s.safety = .degraded then toProof s else srRefuse s 6

/-- A write of SRCTL: PROOF, then GO. -/
def srctlStore (s : State) (v : Word) : State :=
  unlessLocked s (pkgPg 0) 65 (fun s =>
    let s1 := if bit v 1 then proofAct s else s
    if bit v 0 then goAct s1 else s1)

/-- GO (R637). -/
def execGo (s : State) : Host.Outcome State Fault Refusal := done (unitDo s (pkgPg 0) (fun s => srctlStore s 1))

/-- PROOF (R636, R638). -/
def execProof (s : State) : Host.Outcome State Fault Refusal := done (unitDo s (pkgPg 0) (fun s => srctlStore s 2))

/-- A region leaves isolation: every domain in Run, pages restored under R617 (R639). -/
def regionReturn (s : State) (g : Nat) : State :=
  let s1 := { s with isol := s.isol &&& ~~~(BitVec.ofNat 32 (2 ^ g)) }
  let s2 := (regionDoms g).foldl (fun s k =>
    setDom s k { Dom.init with wake := (dom s k).wake, trimdiv := (dom s k).trimdiv, why := (dom s k).why }) s1
  restorePages s2 (fun k => (regionDoms g).contains k)

/-- A write of REGREL (R639). -/
def regrelStore (s : State) (v : Word) : State :=
  let g := fld v 4 0
  unlessLocked s (pkgPg 0) 66 (fun s =>
    if bit v 35 = false then s
    else if s.safety = .proof ∧ s.isol.getLsbD g = true then regionReturn s g
    else srRefuse s 7)

/-- REGREL (R639). -/
def execRegrel (v : Word) (s : State) : Host.Outcome State Fault Refusal :=
  done (unitDo s (pkgPg 0) (fun s => regrelStore s v))

end Sys2Proof.Machine
end

