-- ==== Sys2Proof/Machine/Pages.lean ====
section
/-! DEFINITION. Register pages as software reads and writes them: loads with their effects (R17, R68, R69), stores by
register (R13, R64 to R70, and the register tables of the chapters), the stores that wait (R123, R397, R405), and the commands
that name a register (R13, R547, R548, R553). -/

namespace Sys2Proof.Machine

/-! ## Loads -/

/-- A load of a register: the word, and the state after the load. -/
def pageLoad (s : State) (st : Stamp) (pg off : Nat) : Word × State :=
  let d := pg / 2048
  match unitOf s.part pg, off with
  | some .sedge, 26 => frames0Load s d
  | some .sedge, 33 => heldmaxLoad s d
  | some .reed, 17 => evcnt0Load s d
  | some .reed, 19 => evfifoLoad s d
  | some .reedev, 20 => insresLoad s d st
  | some .prop, 18 => presLoad s (pgRegion pg) (pg % 64 - 37) st
  | some .cbk, 24 => axevLoad s (pgRegion pg)
  | some .ttime, 16 => ttLoRead s
  | some .frz, 20 => dbgrdataLoad s
  | some .chan, off => if 64 ≤ off ∧ off < 320 ∧ off % 32 = 9 then m1Load s (chanOfOff pg off) else (shown s pg off, s)
  | _, _ => (shown s pg off, s)

/-! ## Stores -/

/-- A store to a sweeper's register: ignored while it sweeps (R136). A page both locked and sweeping captures cause 0o11 for it and
not cause 1: R82 and R136 name no order, and a START there captures cause 1 (DESIGN CHOICE, notes/assumptions/79.md). -/
def swpStore (s : State) (pg off : Nat) (v : Word) : State :=
  if 18 ≤ off ∧ off < 23 ∧ (sweep s (pgRegion pg)).on = true then captureAt s pg 9 off else plainWrite s pg off v

/-- A store to a register of the CORE page. -/
def coreStore (s : State) (pg n off : Nat) (v : Word) : State :=
  match off with
  | 64 => pmctlStore s n v
  | 75 => tcctlStore s n v
  | 123 => dbellStore s n v
  | 132 => ctxbindStore s n v
  | _ => plainWrite s pg off v

/-- A store to a register of the MGATE page. -/
def mgateStore (s : State) (pg n off : Nat) (v : Word) : State :=
  match off with
  | 23 => rsloadStore s n v
  | 25 => rsdataStore s n v
  | 26 => rsctlStore s n v
  | _ => plainWrite s pg off v

/-- A store to a register of a CHAN page. -/
def chanStore (s : State) (pg off : Nat) (v : Word) : State :=
  let m := chanOfOff pg off
  if 64 ≤ off ∧ off < 320 then
    match off % 32 with
    | 0 => chcfgStore s m v
    | 2 => chctlStore s m v
    | 4 => p0Store s m v
    | _ => plainWrite s pg off v
  else plainWrite s pg off v

/-- A store to a register of the PKG page. -/
def pkgStore (s : State) (off : Nat) (v : Word) : State :=
  match off with
  | 40 => gatecfgStore s v
  | 53 => stkcfgStore s v
  | 54 => if bit v 0 then leaveStack s else s
  | 65 => srctlStore s v
  | 66 => regrelStore s v
  | 69 => swrstStore s v
  | 70 => dierstStore s v
  | _ => plainWrite s (pkgPg 0) off v

/-- A store to a register of the PHREF page. -/
def phrefStore (s : State) (off : Nat) (v : Word) : State :=
  if 16 ≤ off ∧ off < 48 then
    let i := (off - 16) / 4
    match off % 4 with
    | 0 => refcfgStore s i v
    | 1 => synStore s i off v
    | _ => s
  else if 48 ≤ off ∧ off < 64 then synStore s ((off - 48) / 2) off v
  else plainWrite s phrefPg off v

/-- A store to a register of the TTIME page. -/
def ttimeStore (s : State) (off : Nat) (v : Word) : State :=
  match off with
  | 18 => rateStore s v
  | 19 => stepLoStore s v
  | 20 => stepStore s v
  | _ => plainWrite s ttimePg off v

/-- A ring looks again at its descriptor (R553). -/
def Ring.kicked (r : Ring) : Ring := { r with stopped := false }

/-- TXKICK and RXKICK of a port (R553). -/
def kickRing (s : State) (port : PortId) (tx : Bool) : State :=
  match port with
  | .eth i =>
    let e := eth s i.toNat
    setEth s i.toNat (if tx then { e with tx := e.tx.kicked } else { e with rx := e.rx.kicked })
  | .can d =>
    let c := can s d.toNat
    setCan s d.toNat (if tx then { c with tx := c.tx.kicked } else { c with rx := c.rx.kicked })

/-- A store to a register of a port with rings. -/
def portStore (s : State) (port : PortId) (pg off : Nat) (v : Word) : State :=
  match off with
  | 21 => if bit v 0 then kickRing s port true else s
  | 24 => if bit v 0 then kickRing s port false else s
  | _ => plainWrite s pg off v

/-- A store to a register of a DSV page; those of a vital enable are on dies 0 and 1 (Table 10.16). -/
def dsvStore (s : State) (st : Stamp) (d off : Nat) (v : Word) : State :=
  if 64 ≤ off ∧ 2 ≤ d then s
  else
    match off with
    | 64 => vencfgStore s d v
    | 65 => kickStore s d st v
    | 67 => venctlStore s d v
    | _ => plainWrite s (dsvPg d) off v

/-- A store to a register of a REEDEV page. -/
def reedevStore (s : State) (st : Stamp) (d off : Nat) (v : Word) : State :=
  match off with
  | 16 => ins0Store s d st v
  | 17 => insStageStore s d st false v
  | 18 => insStageStore s d st true v
  | 19 => ins3Store s d st v
  | 21 => cancelStore s d st v
  | _ => plainWrite s (diePg d 5) off v

/-- A store to a unit-specific register. -/
def unitStore (s : State) (st : Stamp) (u : UnitTy) (pg off : Nat) (v : Word) : State :=
  let d := pg / 2048
  let q := pg % 2048
  let g := pgRegion pg
  let n := 4 * g + (pg % 64 - 8) / 4
  match u with
  | .dsv => dsvStore s st d off v
  | .pwr =>
    if 16 ≤ off ∧ off < 60 then domStore s (domKey d (off - 16)) v
    else if 64 ≤ off ∧ off < 71 then (if d = 0 then domStore s (512 + (off - 64)) v else s)
    else plainWrite s pg off v
  | .reedev => reedevStore s st d off v
  | .sedge =>
    if off = 16 then sedgeCmdStore s d v
    else if 256 ≤ off then compclsStore s d (off - 256) v
    else plainWrite s pg off v
  | .carr => if off = 24 then carrStore s d st (fld v 35 32) (fld v 29 0) else plainWrite s pg off v
  | .canfd => portStore s (.can (BitVec.ofNat 3 d)) pg off v
  | .eth => portStore s (.eth (BitVec.ofNat 2 (q - 16))) pg off v
  | .swp => swpStore s pg off v
  | .core => coreStore s pg n off v
  | .mgate => mgateStore s pg n off v
  | .chan => chanStore s pg off v
  | .sluice =>
    if off = 16 then slcfgStore s g v
    else if 17 ≤ off ∧ off < 20 then laneStore s g (off - 17) v
    else plainWrite s pg off v
  | .prop =>
    if off = 16 then pargStore s g (pg % 64 - 37) st v
    else if off = 17 then pcmdStore s g (pg % 64 - 37) st v
    else plainWrite s pg off v
  | .pkg => pkgStore s off v
  | .phref => phrefStore s off v
  | .ttime => ttimeStore s off v
  | .frz => frzStore s st off v
  | .flash => if off = 19 then flcmd s (q - 24) (fld v 35 33) (fld v 1 0) else plainWrite s pg off v
  | _ => plainWrite s pg off v

/-- A store to a register. -/
def pageStore (s : State) (st : Stamp) (pg off : Nat) (v : Word) : State :=
  match unitOf s.part pg with
  | none => s
  | some u =>
    match off with
    | 3 => featStore s pg v
    | 4 => ctlStore s pg v
    | 6 => if bit v 35 then errRelease s pg else s
    | 7 => errCountStore s pg v
    | _ => unitStore s st u pg off v

/-! ## Stores that wait -/

/-- Whether a core has a buffered store or a load outstanding. -/
def outstanding (c : Core) : Bool := !c.sb.isEmpty || c.mstage.isSome

/-- A core's store to a register waits: START for the core's earlier stores (R123), a fifth epoch (R397), a write of
GATECFG for every request under the earlier mode (R405), STOP for a held entry. -/
def pageStoreWaits (s : State) (st : Stamp) (pg off : Nat) (v : Word) : Bool :=
  let n := 4 * pgRegion pg + (pg % 64 - 8) / 4
  match unitOf s.part pg, off with
  | some .swp, 4 => bit v 2 && decide (st.cls = 0) && !(coreAt s st.core.toNat).sb.isEmpty
  | some .mgate, 25 => rsdataWaits s n v
  | some .core, 132 => ctxbindWaits s n v
  | some .pkg, 40 =>
    (s.safety == .boot || s.safety == .proof) && !locked s pg && (coreNos s).any (fun k => outstanding (coreAt s k))
  | _, _ => false

/-- A store that waits leaves no effect but the count of its wait on a held entry (R340). -/
def pageStoreHeld (s : State) (pg off : Nat) (v : Word) : State :=
  match unitOf s.part pg, off with
  | some .core, 132 => ctxbindStore s (4 * pgRegion pg + (pg % 64 - 8) / 4) v
  | _, _ => s

/-! ## Requests -/

/-- PAGE_ID and STAT of a page whose domain is in Retain or Off, as die services answers them (R69), or drains, with DRAIN = 1
(Table 2.13, R618, notes/assumptions/77.md). -/
def poweredDownRead (s : State) (pg off : Nat) : Option Word :=
  let d := dom s (domOfPage pg)
  if pageReach s pg = .down ∧ (off = 0 ∨ off = 5) ∧ (d.st = .retain ∨ d.st = .off ∨ draining s pg = true) then
    match unitOf s.part pg with
    | some u => some (if off = 0 then pageIdWord u pg else if draining s pg then statWord s u pg else fval 5 5 1)
    | none => none
  else none

/-- A core whose request for RSDATA waits for an epoch counts its cycles (R397). -/
def requestWaits (s : State) (st : Stamp) (pg off : Nat) : State :=
  if unitOf s.part pg = some .mgate ∧ off = 25 ∧ st.cls = 0 then
    epochStall s st.core.toNat (4 * pgRegion pg + (pg % 64 - 8) / 4)
  else s

/-- A requester's load or store of a register of this package (R57, R67 to R70, R380); a store that waits has no effect yet
(notes/assumptions/17.md). -/
def pageRequest (s : State) (st : Stamp) (addr : Nat) (write : Option Word) (k : Kind) : State :=
  let pg := addr / 512
  let off := addr % 512
  match write, poweredDownRead s pg off with
  | none, some w => if clocked s then replyWord s w else s
  | none, none => unitRequest s st pg off k (fun s => let r := pageLoad s st pg off; replyWord r.2 r.1)
  | some v, _ =>
    if enHolds s pg off v then
      (if targetOk s st (regAddr pg off) k then replyWord (holdEn s pg) 0
       else replyFault (targetCapture s st (regAddr pg off) k) 12 4)
    else if pageStoreWaits s st pg off v then requestWaits (pageStoreHeld s pg off v) st pg off
    else unitRequest s st pg off k (fun s => pageStore s st pg off v)

/-- REGISTER_WRITE (R13). -/
def execRegisterWrite (st : Stamp) (addr : BitVec 24) (v : Word) (s : State) : Host.Outcome State Fault Refusal :=
  done (pageRequest s st addr.toNat (some v) .store)

/-- TXKICK (R553). -/
def execTxkick (port : PortId) (s : State) : Host.Outcome State Fault Refusal :=
  done (unitDo s (match port with | .eth i => ethPg i.toNat | .can d => canPg d.toNat) (fun s => kickRing s port true))

/-- RXKICK (R553). -/
def execRxkick (port : PortId) (s : State) : Host.Outcome State Fault Refusal :=
  done (unitDo s (match port with | .eth i => ethPg i.toNat | .can d => canPg d.toNat) (fun s => kickRing s port false))

/-! ## Remote requests (R546 to R548) -/

/-- The stamp of a remote request at the receiving port (R546). -/
def remoteStamp (st : Stamp) : Stamp := { st with cls := 3, set := false, epoch := 0 }

/-- Whether RADM admits a page's group or slot (R547). -/
def radmAdmits (s : State) (pg : Nat) : Bool :=
  if pg / 2048 < 8 then
    match pageGroup (pg % 2048) with
    | some g => if g < 36 then bit (rget s (pkgPg 0) 55) g else bit (rget s (pkgPg 0) 56) (g - 36)
    | none => false
  else
    match slotOfPage pg with
    | some k => bit (rget s (pkgPg 0) 56) (12 + (k - 136))
    | none => false

/-- A refused remote request (R548). -/
def remoteRefused (s : State) (pg : Nat) : State :=
  replyFault (capture s (pkgPg 0) 28 (pg / 2048 * 2 ^ 14 + pg % 2048 * 8)) 12 4

/-- A remote request reaches a page that does not answer it: its requester takes a bus error, which the die services of the
requester's die, in its own package, records (R59, R70). -/
def remoteMisses (s : State) (pg off : Nat) (write : Option Word) : Bool :=
  (portReach s pg != .ok) && (portReach s pg != .parity) &&
  (match write with | some v => !enHolds s pg off v | none => (poweredDownRead s pg off).isNone)

/-- REMOTE_REQUEST (R546 to R548): a page that the part does not hold is unpopulated (R57, R704). -/
def execRemoteRequest (st : Stamp) (addr : BitVec 24) (store : Bool) (v : Word) (s : State) :
    Host.Outcome State Fault Refusal :=
  let t := remoteStamp st
  let pg := addr.toNat / 512
  let k := if store then Kind.store else Kind.load
  done (if !clocked s then s
    else if (unitOf s.part pg).isSome && !radmAdmits s pg then remoteRefused s pg
    else if (portReach s pg == .ok) && !targetOk s t (regAddr pg (addr.toNat % 512)) k then
      remoteRefused (targetCapture s t (regAddr pg (addr.toNat % 512)) k) pg
    else if remoteMisses s pg (addr.toNat % 512) (if store then some v else none) then
      let c := (portReach s pg).cause s
      replyFault c.2 8 c.1
    else pageRequest s t addr.toNat (if store then some v else none) k)

end Sys2Proof.Machine
end

