-- ==== Sys2Proof/Machine/Access.lean ====
section
/-! DEFINITION. A core's accesses after their capability check: translation, master gate, address class,
target gate and the unit (rank 1 and rank 4 of Table 6.10, R705); the store buffer and its drain (R190,
R242, R296); the prefetch queue (R224 to R231). -/

namespace Sys2Proof.Machine

/-- A word of memory as a core's load gets it from its bank or port: reach, target gate, ECC (R28). -/
def memLoad (n va pa : Nat) (st : Stamp) (k : Kind) : X (Word × Bool) := do
  let s ← get
  match memReach s pa with
  | .ok =>
    targetGate st pa k
    let r ← act (fun s => readFor s (.data n) pa)
    match r with
    | some w => return w
    | none => fault 10 1 va 0
  | r => busFault n va pa r

/-- The word of the store buffer's view of an address (R189, R190): stored bits over a word of memory. -/
def sbMerge (sb : List SbEntry) (pa : Nat) (w : Word × Bool) : Word × Bool :=
  sb.foldl (fun w e => if e.pa = pa then ((w.1 &&& ~~~e.mask) ||| (e.data &&& e.mask), e.tag) else w) w

/-- The bits of a word that the store buffer holds. -/
def sbMask (sb : List SbEntry) (pa : Nat) : Word :=
  sb.foldl (fun m e => if e.pa = pa then m ||| e.mask else m) 0

/-- A word as a load of the core sees it: from the buffer where it holds the whole word, else from memory with
the buffered bits over it. -/
def seenLoad (n va pa : Nat) (st : Stamp) (k : Kind) : X (Word × Bool) := do
  let s ← get
  let sb := (coreAt s n).sb
  if sbMask sb pa = ~~~0 then return sbMerge sb pa (0, false)
  else do
    let w ← memLoad n va pa st k
    return sbMerge sb pa w

/-- A register page load of a core (R63 to R70). -/
def corePageLoad (n va pa : Nat) (st : Stamp) (k : Kind) : X Word := do
  let s ← get
  match pageAddr s pa with
  | .here pg off =>
    match poweredDownRead s pg off with
    | some w => return w
    | none =>
      pageGate n va pa pg st k
      act (fun s => pageLoad s st pg off)
  | _ => busFault n va pa .unpopulated

/-- A register page store of a core: never buffered, complete at the unit (R66); the cycles in which its unit makes it wait count in
PC_SBSTALL (R244), those for an older epoch in PC_MEMSTALL (R397). A write of EN = 1 to a page whose domain drains is held (R78). -/
def corePageStore (n va pa : Nat) (st : Stamp) (v : Word) : X Unit := do
  let s ← get
  match pageAddr s pa with
  | .here pg off =>
    if enHolds s pg off v then do
      targetGate st pa .store
      upd (fun s => holdEn s pg)
      return ()
    pageGate n va pa pg st .store
    if pageStoreWaits s st pg off v then do
      upd (fun s => let s1 := pageStoreHeld s pg off v
                    let why := if unitOf s1.part pg = some .mgate then .epoch (4 * pgRegion pg + (pg % 64 - 8) / 4) else .page
                    setCore s1 n { coreAt s1 n with stall := some why })
      throw .wait
    upd (fun s => pageStore s st pg off v)
  | _ => busFault n va pa .unpopulated

/-! ## The store buffer -/

/-- Puts words into the store buffer; a store that finds too few free entries waits, and its cycles count in
PC_SBSTALL (R243). -/
def bufferStore (n : Nat) (es : List SbEntry) : X Unit := do
  let s ← get
  let c := coreAt s n
  if 4 < c.sb.length + es.length then do
    upd (fun s => setCore s n { coreAt s n with stall := some (.buffer es.length) })
    throw .wait
  else upd (fun s => setCore s n { c with sb := c.sb ++ es })

/-- The buffer entry of a store. -/
def sbEntry (s : State) (n h va pa : Nat) (st : Stamp) (k : Kind) (data mask : Word) (tag pair : Bool) : SbEntry :=
  { pa := pa, va := va, data := data, mask := mask, tag := tag, pair := pair, kind := k, stamp := st,
    tsb := (ctxAt s n h).tsbBase, since := coreNow s }

/-! ## The prefetch queue and the fetch of the issuing word -/

/-- The address classes of a fetch on its physical address (R48, R57, R58, R705), and the word's ECC (R28). -/
def fetchUnit (n va pa : Nat) (st : Stamp) : X Word := do
  let s ← get
  if isPage pa then fault 9 3 va 0
  match memReach s pa with
  | .ok =>
    targetGate st pa .fetch
    let r ← act (fun s => readFor s (.fetch n) pa)
    match r with
    | some (w, _) => return w
    | none => fault 9 1 va 0
  | r => fetchFault n va pa r

/-- A fetch from another block's bank waits at its arbiter until it is granted (R31, R32). -/
def awaitFetch (n pa : Nat) (st : Stamp) : X Unit := do
  let s ← get
  if pa / 65536 ≠ n ∧ inBanks s pa = true ∧ memReach s pa = .ok then do
    let since := match (coreAt s n).fetchAt with
      | some (p, t) => if p = pa then t else coreNow s
      | none => coreNow s
    if grantNow s (pa / 65536) (coreLive s) (waitingFrom (stampRequester s st) since) 1 then
      upd (fun s => setCore s n { coreAt s n with fetchAt := none })
    else do
      upd (fun s => setCore s n { coreAt s n with fetchAt := some (pa, since) })
      throw .wait

/-- The word at an address from its unit: translation, gates, the bank or port. -/
def demandFetch (n h va priv : Nat) : X Unit := do
  let (pa, st) ← resolve n h va priv .fetch
  awaitFetch n pa st
  let _ ← fetchUnit n va pa st

/-- The fetch of the word that issues (rank 1 of Table 6.10): the check against PCC, and, unless the queue holds
the word, a demand fetch (R109, R226, R231). The issue of the word ends the stop of R225. -/
def fetchIssue (n h : Nat) : X Unit := do
  let s ← get
  let x := ctxAt s n h
  let va := x.pcc.cursor
  match capCheck x.pcc va 1 [.execute] with
  | .error e => fault 3 e.cause e.faddr 15
  | .ok _ =>
    match (coreAt s n).pq with
    | e :: rest =>
      if e.va = va then do
        upd (fun s => setCore s n { coreAt s n with pq := rest, fetchStop := false })
        if e.word.isNone then demandFetch n h va x.priv
      else do
        upd (fun s => discardPq s n h)
        demandFetch n h va x.priv
    | [] => do
      upd (fun s => setCore s n { coreAt s n with fetchStop := false })
      demandFetch n h va x.priv

end Sys2Proof.Machine
end

