-- ==== Sys2Proof/Machine/Issue.lean ====
section
/-! DEFINITION. The issue of one instruction word: whether the core can issue, the fetch and decode ranks, the
guard, the body, and what follows (R143, R162 to R164, R208 to R210, R214, R215, R218 to R222, R299,
Table 6.10). A word that the core cannot issue now has no effect (notes/assumptions/17.md). -/

namespace Sys2Proof.Machine

/-- How a body ends: the next word in order, an instruction that still holds the pipeline, a transfer whose target
the body has set, or a tail-chain into a handler (R285). -/
inductive Next where
  | seq | hold | jump | chain
  deriving DecidableEq, Repr

/-- One instruction as its meaning describes it: the word (for FAUX and the operand lists), the RSM KIND of a
resumable one, the faults of decode (rank 2), the lost cycles of a conditional transfer (Table 5.2), the body. -/
structure Insn where
  raw : Word
  kind : Nat
  dec : State → Nat → Nat → Option Trap
  brCost : Nat
  body : Nat → Nat → X Next

/-- Core n may issue behind its store to a page of another package, which has not completed: no data access, but an instruction of
registers alone (R244). -/
def runsAhead (s : State) (n : Nat) : Bool :=
  let c := coreAt s n
  coreLive s n && c.undo.isSome && (match c.mstage with | some m => m.store.isSome | none => false) && (c.ctx c.cur).div.isNone

/-- The context at whose instruction boundary core n stands: the issuing one while it may issue, whether or not R261 selects
another one next (R299). -/
def atBoundary (s : State) (n : Nat) : Option Nat :=
  if (coreIssues s n || runsAhead s n) = true ∧ (ctxAt s n (coreAt s n).cur).selectable then some (coreAt s n).cur else none

/-- The context that issues on core n, when one does (R143, R261). -/
def issuer (s : State) (n : Nat) : Option Nat :=
  if coreIssues s n ∧ selected s n = some (coreAt s n).cur then some (coreAt s n).cur else none

/-- The destination of a load of R214 and R222, by its physical register; of an LDM the register of its last word (Table 5.3). -/
def loadDst (x : Ctx) (w : Word) : Option (Bool × Nat) :=
  let m := majorOf w
  if m = 7 then (maskRegs (fld (x.wr (fld w 15 11)) 31 0)).getLast?.map (fun i => (false, x.wIdx i))
  else if 16 ≤ m ∧ m ≤ 22 then some (false, x.wIdx (fld w 25 21))
  else if m = 28 then some (true, x.cIdx (fld w 25 21))
  else none

/-- Illegal instruction (Table 6.1, vector 6). -/
def illegal (x : Ctx) (w : Word) : Trap := { vec := 6, cause := 0, faddr := x.pcc.cursor, faux := fval 31 0 (fld w 31 0) }

/-- Privilege fault (Table 6.1, vector 5). -/
def privFault (x : Ctx) (num : Nat) : Trap := { vec := 5, cause := 0, faddr := x.pcc.cursor, faux := BitVec.ofNat 36 num }

/-- No fault at decode. -/
def decNone : State → Nat → Nat → Option Trap := fun _ _ _ => none

/-- The faults of decode: a word of another KIND than the resume record's, then the instruction's own (R209). -/
def decodeFault (i : Insn) (s : State) (n h : Nat) : Option Trap :=
  let x := ctxAt s n h
  if x.rsmKind ≠ 0 ∧ x.rsmKind ≠ i.kind then some (illegal x i.raw) else i.dec s n h

/-- Whether the instruction executes: its guard, which a resumed one does not evaluate again (R162, R208). -/
def executes (iss : Iss) (x : Ctx) : Bool := decide (x.rsmKind ≠ 0) || (x.qr iss.q.toNat != iss.neg)

/-- The next word in order: the cursor moves by one (R101), and KIND becomes 0 (R210). -/
def Ctx.advance (x : Ctx) : Ctx :=
  { x with pcc := x.pcc.move (x.pcc.cursor + 1), rsm0 := setFld x.rsm0 35 33 0 }

/-- The context after a body, for the registers that the instruction wrote: of one that has completed no word is left (R204, R215). -/
def Ctx.begun (x : Ctx) (nx : Next) : Ctx := if nx = .seq then { x with rsm0 := setFld x.rsm0 35 33 0 } else x

/-- The load-use stall (R222): outside Proof, an instruction reads the register that the instruction before it loaded. -/
def loadUse (s : State) (n h : Nat) (old : Ctx) (raw : Word) : State :=
  match old.lastLoad with
  | some r => if s.safety != .proof && (readsOf old raw).contains r then perf s n h 68 1 else s
  | none => s

/-- What an issue does after its body: the load of Proof before it lands unless the instruction wrote its register
(R214, R215), the counters (R256), the cursor. -/
def afterIssue (s : State) (n h : Nat) (i : Insn) (iss : Iss) (old : Ctx) (ran : Bool) (nx : Next) : State :=
  let x := ctxAt s n h
  let x1 := match old.proofLoad with
    | none => x
    | some p =>
      if ran && (writesOf old (x.begun nx) i.raw).contains (p.isCap, p.reg) then x
      else if p.isCap then x.cphysSet p.reg p.val else x.wphysSet p.reg p.val.lo
  let x2 := { x1 with fresh := nx == .chain, stepping := false, lastLoad := loadDst old i.raw, barrier := none }
  let x3 := match nx with | .seq => x2.advance | _ => x2
  let s0 := setCtx s n h x3
  let s1 := perf (setCore s0 n { coreAt s0 n with arrived := none, stall := none, midway := none }) n h 65 1
  let s2 := if ran then s1 else perf s1 n h 66 1
  let s3 := if iss.q = 0 ∧ iss.neg = false then s2 else perf s2 n h 67 i.brCost
  let s4 := loadUse s3 n h old i.raw
  if old.stepping then irqPend s4 (pkgPg 3) 1 else s4

/-- A body, whose issue and load-use stall count even when it faults (R219, R222, R256). -/
def counted (n h : Nat) (i : Insn) : X Next := fun s =>
  match i.body n h s with
  | .error (.trap t) s1 => .error (.trap t) (loadUse (perf s1 n h 65 1) n h (ctxAt s n h) i.raw)
  | r => r

/-- The fetch, decode, guard and body of an instruction (Table 6.10). -/
def issueX (n h : Nat) (iss : Iss) (i : Insn) : X (Bool × Next) := do
  fetchIssue n h
  let s ← get
  match decodeFault i s n h with
  | some t => throw (.trap t)
  | none =>
    if executes iss (ctxAt s n h) then do
      let nx ← counted n h i
      return (true, nx)
    else return (false, .seq)

/-- Whether the instruction's own effect has taken its core out of service: a reset of the package, its die or its
domain, an isolation, or Mire; what would follow the instruction then does not happen. -/
def coreGone (s : State) (n : Nat) : Bool :=
  s.safety == .boot || s.safety == .mire || isolatedRegion s (n / 4) || (dom s (domKey (n / 16) (n % 16))).held

/-- A load of Proof whose result an instruction that has not completed did not see stays on its way, unless the instruction, an LDM,
has written the register (R214, R215). -/
def keepLoad (old new : Ctx) (w : Word) : Ctx :=
  { new with proofLoad := old.proofLoad.filter (fun p => !(decide (majorOf w = 7 ∧ new.rsmKind = 2) &&
      (ldmWrote old new w).contains (p.isCap, p.reg))) }

/-- The state of an instruction that has to wait: what it looked at stays, its place in the stream and the loads
and steps before it stay as they were, with the word in decode, behind which a fetch has stopped (R225). -/
def waitState (s0 s1 : State) (n h : Nat) (w : Word) : State :=
  let c0 := coreAt s0 n
  let c1 := coreAt s1 n
  let c2 := if c0.pq.head?.map (fun e => e.va) = some (c0.ctx h).pcc.cursor then
      { c1 with pq := c0.pq, fetchStop := c0.fetchStop } else c1
  setCore s1 n (c2.setCtx h (keepLoad (ctxAt s0 n h) (c1.ctx h) w))

/-- A resumable instruction that stops for the due interrupt: a step ends with its entry (R294, R665). -/
def stopDue (s : State) (n h : Nat) (stepping : Bool) : State :=
  if stepping then
    let s1 := takeDue (setCtx s n h { ctxAt s n h with stepping := true }) n
    setCtx s1 n h { ctxAt s1 n h with stepping := false }
  else takeDue s n

/-- An instruction of registers alone, which makes no data access (R244): of Tables 4.9 to 4.12, an immediate or capability
instruction of registers, NOP, BR, JR or CJR. -/
def registerOnly (w : Word) : Bool :=
  let m := majorOf w
  let fn := fld w 10 0
  decide (m ≤ 3) || (decide (m = 4) && decide (fn = 0)) || decide (m = 5) || decide (8 ≤ m ∧ m ≤ 14) || decide (m = 30) ||
    decide (m = 32) || (decide (m = 36) && decide (fn = 1 ∨ fn = 6))

/-- An instruction behind a store to a page that has not completed waits; its cycles count in PC_SBSTALL (R244). -/
def pageStall (s : State) (n : Nat) : State := setCore s n { coreAt s n with stall := some .page }

/-- The context that a store to a page of another package leaves behind for its refusal, with the load of Proof that it did not see
(R66, R214). -/
def keepUndo (s : State) (n : Nat) (old : Ctx) : State :=
  let c := coreAt s n
  match c.mstage, c.undo with
  | some _, some u => setCore s n { c with undo := some { u with proofLoad := u.proofLoad.or old.proofLoad } }
  | _, _ => s

/-- The state after core n issues an instruction. A late store error that is due, an interrupt and a change of context come before
the instruction by their own commands, but for one in progress between two words (R204); its own fault comes before them, but for
TRAP, which is no fault of Table 6.10 (R296, R299, R304, notes/assumptions/17.md). Behind a store to a page of another package
an instruction of registers alone completes, and any other waits (R244). -/
def issueState (s : State) (iss : Iss) (i : Insn) : State :=
  let n := iss.core.toNat
  match atBoundary s n with
  | none => s
  | some h =>
    let x := ctxAt s n h
    let blocked := (coreAt s n).midway.isNone && (lateDue s n || decide (selected s n ≠ some h))
    let ahead := (coreAt s n).mstage.isSome
    match (issueX n h iss i) (setCtx s n h { x with proofLoad := none }) with
    | .ok r s1 =>
      if blocked then s else if ahead && !registerOnly i.raw then pageStall s n
      else if coreGone s1 n then s1 else afterIssue (keepUndo s1 n x) n h i iss x r.1 r.2
    | .error (.trap t) s1 =>
      if t.after && blocked then s else if ahead then pageStall s n
      else takeTrap (setCtx s1 n h (keepLoad x (ctxAt s1 n h) i.raw)) n h t
    | .error .wait s1 => if blocked then s else if ahead then pageStall s n else waitState s s1 n h i.raw
    | .error .irq s1 => if blocked then s else stopDue (afterIssue s1 n h i iss x true .hold) n h x.stepping
    | .error (.mire c) s1 => mireEnter s1 c (n / 16) n

/-- The instruction at the boundary of the issuing context of core n has a precise fault that State shows, before a late store error,
an interrupt or a change of context (R299, Table 6.10): its fetch faults, or its access has been held past the hold limit (R340). -/
def boundaryFault (s : State) (n : Nat) : Bool :=
  match atBoundary s n with
  | none => false
  | some h =>
    (coreAt s n).midway.isNone && (coreAt s n).mstage.isNone &&
    ((match (coreAt s n).held with | some w => !w.entry && !w.released && holdPassed s n w.since | none => false) ||
     (match (fetchIssue n h) s with | .error (.trap _) _ => true | _ => false))

/-- The outcome of core n issuing an instruction. -/
def issue (s : State) (iss : Iss) (i : Insn) : Host.Outcome State Fault Refusal := done (issueState s iss i)

/-! ## Bodies -/

/-- Changes the context. -/
def modCtx (n h : Nat) (f : Ctx → Ctx) : X Unit := upd (fun s => setCtx s n h (f (ctxAt s n h)))

/-- An instruction that only changes registers of its context, with no fault (R267). -/
def regInsn (raw : Word) (f : Ctx → Ctx) : Insn :=
  { raw := raw, kind := 0, dec := decNone, brCost := 0, body := fun n h => do
      modCtx n h f
      return .seq }

/-- An instruction that changes registers of its context or raises a fault. -/
def tryInsn (raw : Word) (f : Ctx → Except Trap Ctx) : Insn :=
  { raw := raw, kind := 0, dec := decNone, brCost := 0, body := fun n h => do
      let s ← get
      match f (ctxAt s n h) with
      | .ok y =>
        upd (fun s => setCtx s n h y)
        return .seq
      | .error t => throw (.trap t) }

/-- Arithmetic fault (Table 6.1, vector 13). -/
def arithFault (x : Ctx) (cause : Nat) : Trap := { vec := 13, cause := cause, faddr := x.pcc.cursor, faux := 0 }

/-- Capability fault (Table 6.1, vector 3): FAUX[3:0] is the register checked, 0o17 for PCC. -/
def capFault (cause faddr reg : Nat) : Trap := { vec := 3, cause := cause, faddr := faddr, faux := fval 3 0 reg }

end Sys2Proof.Machine
end

