-- ==== Sys2Proof/Machine/Alu.lean ====
section
/-! DEFINITION. The integer, constant, compare and predicate instructions (R167 to R172). -/

namespace Sys2Proof.Machine

/-- A REG instruction without flags: Wd := f Wa Wb (Table 4.9). -/
def regOp (fn : Nat) (f : Word → Word → Word) (i : Iss) (d a b : BitVec 5) : Insn :=
  regInsn (encR i 0 d.toNat a.toNat b.toNat fn) (fun x => x.setW d.toNat (f (x.wr a.toNat) (x.wr b.toNat)))

/-- A REG instruction on one operand (Table 4.9). -/
def regOp1 (fn : Nat) (f : Word → Word) (i : Iss) (d a : BitVec 5) : Insn :=
  regInsn (encR i 0 d.toNat a.toNat 0 fn) (fun x => x.setW d.toNat (f (x.wr a.toNat)))

/-- ADD and SUB: the wrapped result, and AOV on signed overflow of the exact one (R169). -/
def regArith (fn : Nat) (f : Int → Int → Int) (i : Iss) (d a b : BitVec 5) : Insn :=
  regInsn (encR i 0 d.toNat a.toNat b.toNat fn) (fun x =>
    let r := f (sval (x.wr a.toNat)) (sval (x.wr b.toNat))
    (x.setW d.toNat (wordOfInt r)).setAov r)

/-- ADDV and SUBV: the arithmetic fault on signed overflow, writing nothing (R168). -/
def regArithV (fn : Nat) (f : Int → Int → Int) (i : Iss) (d a b : BitVec 5) : Insn :=
  tryInsn (encR i 0 d.toNat a.toNat b.toNat fn) (fun x =>
    let r := f (sval (x.wr a.toNat)) (sval (x.wr b.toNat))
    if overflows r then .error (arithFault x 1) else .ok (x.setW d.toNat (wordOfInt r)))

/-- An immediate instruction: Wd := f Wa (R171). -/
def immOp (major : Nat) (f : Word → Word) (i : Iss) (d a : BitVec 5) (imm : Nat) : Insn :=
  regInsn (encI i major d.toNat a.toNat imm) (fun x => x.setW d.toNat (f (x.wr a.toNat)))

/-- A CMP instruction: Q[d] := f Wa Wb (Table 4.10). -/
def cmpOp (fn : Nat) (f : Word → Word → Bool) (i : Iss) (d : BitVec 3) (a b : BitVec 5) : Insn :=
  regInsn (encR i 2 d.toNat a.toNat b.toNat fn) (fun x => x.setQ d.toNat (f (x.wr a.toNat) (x.wr b.toNat)))

/-- A CMPI instruction, its compare in d[4:3] (Table 4.10). -/
def cmpiOp (sel : Nat) (f : Word → Bool) (i : Iss) (d : BitVec 3) (a : BitVec 5) (imm : BitVec 16) : Insn :=
  regInsn (encI i 15 (8 * sel + d.toNat) a.toNat imm.toNat) (fun x => x.setQ d.toNat (f (x.wr a.toNat)))

/-- A QOP instruction on two predicates (Table 4.10). -/
def qOp (fn : Nat) (f : Bool → Bool → Bool) (i : Iss) (d a b : BitVec 3) : Insn :=
  regInsn (encR i 3 d.toNat a.toNat b.toNat fn) (fun x => x.setQ d.toNat (f (x.qr a.toNat) (x.qr b.toNat)))

/-- ADD (R169). -/
def execAdd (i : Iss) (d a b : BitVec 5) (s : State) : Host.Outcome State Fault Refusal :=
  issue s i (regArith 1 (· + ·) i d a b)

/-- SUB (R169). -/
def execSub (i : Iss) (d a b : BitVec 5) (s : State) : Host.Outcome State Fault Refusal :=
  issue s i (regArith 2 (· - ·) i d a b)

/-- ADDV (R168). -/
def execAddv (i : Iss) (d a b : BitVec 5) (s : State) : Host.Outcome State Fault Refusal :=
  issue s i (regArithV 3 (· + ·) i d a b)

/-- SUBV (R168). -/
def execSubv (i : Iss) (d a b : BitVec 5) (s : State) : Host.Outcome State Fault Refusal :=
  issue s i (regArithV 4 (· - ·) i d a b)

/-- AND (Table 4.9). -/
def execAnd (i : Iss) (d a b : BitVec 5) (s : State) : Host.Outcome State Fault Refusal :=
  issue s i (regOp 8 (fun a b => a &&& b) i d a b)

/-- OR (Table 4.9). -/
def execOr (i : Iss) (d a b : BitVec 5) (s : State) : Host.Outcome State Fault Refusal :=
  issue s i (regOp 9 (fun a b => a ||| b) i d a b)

/-- XOR (Table 4.9). -/
def execXor (i : Iss) (d a b : BitVec 5) (s : State) : Host.Outcome State Fault Refusal :=
  issue s i (regOp 10 (fun a b => a ^^^ b) i d a b)

/-- ANDN (Table 4.9). -/
def execAndn (i : Iss) (d a b : BitVec 5) (s : State) : Host.Outcome State Fault Refusal :=
  issue s i (regOp 11 (fun a b => a &&& ~~~b) i d a b)

/-- NOR (Table 4.9). -/
def execNor (i : Iss) (d a b : BitVec 5) (s : State) : Host.Outcome State Fault Refusal :=
  issue s i (regOp 12 (fun a b => ~~~(a ||| b)) i d a b)

/-- SHL (Table 4.9, R170). -/
def execShl (i : Iss) (d a b : BitVec 5) (s : State) : Host.Outcome State Fault Refusal :=
  issue s i (regOp 16 (fun a b => shlW a (fld b 5 0)) i d a b)

/-- SHR (Table 4.9, R170). -/
def execShr (i : Iss) (d a b : BitVec 5) (s : State) : Host.Outcome State Fault Refusal :=
  issue s i (regOp 17 (fun a b => shrW a (fld b 5 0)) i d a b)

/-- SAR (Table 4.9, R170). -/
def execSar (i : Iss) (d a b : BitVec 5) (s : State) : Host.Outcome State Fault Refusal :=
  issue s i (regOp 18 (fun a b => sarW a (fld b 5 0)) i d a b)

/-- ROL (Table 4.9, R170). -/
def execRol (i : Iss) (d a b : BitVec 5) (s : State) : Host.Outcome State Fault Refusal :=
  issue s i (regOp 19 (fun a b => rolW a (fld b 5 0)) i d a b)

/-- MIN (Table 4.9). -/
def execMin (i : Iss) (d a b : BitVec 5) (s : State) : Host.Outcome State Fault Refusal :=
  issue s i (regOp 24 (fun a b => if slt a b then a else b) i d a b)

/-- MAX (Table 4.9). -/
def execMax (i : Iss) (d a b : BitVec 5) (s : State) : Host.Outcome State Fault Refusal :=
  issue s i (regOp 25 (fun a b => if slt a b then b else a) i d a b)

/-- MINU (Table 4.9). -/
def execMinu (i : Iss) (d a b : BitVec 5) (s : State) : Host.Outcome State Fault Refusal :=
  issue s i (regOp 26 (fun a b => if ult a b then a else b) i d a b)

/-- MAXU (Table 4.9). -/
def execMaxu (i : Iss) (d a b : BitVec 5) (s : State) : Host.Outcome State Fault Refusal :=
  issue s i (regOp 27 (fun a b => if ult a b then b else a) i d a b)

/-- CLZ (Table 4.9). -/
def execClz (i : Iss) (d a : BitVec 5) (s : State) : Host.Outcome State Fault Refusal :=
  issue s i (regOp1 32 (fun a => BitVec.ofNat 36 (clzW a)) i d a)

/-- POPC (Table 4.9). -/
def execPopc (i : Iss) (d a : BitVec 5) (s : State) : Host.Outcome State Fault Refusal :=
  issue s i (regOp1 33 (fun a => BitVec.ofNat 36 (popcount a)) i d a)

/-- SXH (Table 4.9). -/
def execSxh (i : Iss) (d a : BitVec 5) (s : State) : Host.Outcome State Fault Refusal :=
  issue s i (regOp1 34 (fun a => sxpart 18 (fld a 17 0)) i d a)

/-- SXN (Table 4.9). -/
def execSxn (i : Iss) (d a : BitVec 5) (s : State) : Host.Outcome State Fault Refusal :=
  issue s i (regOp1 35 (fun a => sxpart 9 (fld a 8 0)) i d a)

/-- ADDI (R169, R171). -/
def execAddi (i : Iss) (d a : BitVec 5) (imm : BitVec 16) (s : State) : Host.Outcome State Fault Refusal :=
  issue s i (regInsn (encI i 8 d.toNat a.toNat imm.toNat) (fun x =>
    let r := sval (x.wr a.toNat) + simm imm
    (x.setW d.toNat (wordOfInt r)).setAov r))

/-- ANDI (R171). -/
def execAndi (i : Iss) (d a : BitVec 5) (imm : BitVec 16) (s : State) : Host.Outcome State Fault Refusal :=
  issue s i (immOp 9 (fun a => a &&& imm.setWidth 36) i d a imm.toNat)

/-- ORI (R171). -/
def execOri (i : Iss) (d a : BitVec 5) (imm : BitVec 16) (s : State) : Host.Outcome State Fault Refusal :=
  issue s i (immOp 10 (fun a => a ||| imm.setWidth 36) i d a imm.toNat)

/-- XORI (R171). -/
def execXori (i : Iss) (d a : BitVec 5) (imm : BitVec 16) (s : State) : Host.Outcome State Fault Refusal :=
  issue s i (immOp 11 (fun a => a ^^^ imm.setWidth 36) i d a imm.toNat)

/-- SHI (R170, R171): imm[7:6] selects the shift. -/
def execShi (i : Iss) (d a : BitVec 5) (kind : BitVec 2) (amt : BitVec 6) (s : State) : Host.Outcome State Fault Refusal :=
  issue s i (immOp 12 (fun a => shiftKind kind.toNat a amt.toNat) i d a (64 * kind.toNat + amt.toNat))

/-- LHI (R171). -/
def execLhi (i : Iss) (d : BitVec 5) (top : BitVec 2) (imm : BitVec 16) (s : State) : Host.Outcome State Fault Refusal :=
  issue s i (regInsn (encI i 13 d.toNat top.toNat imm.toNat) (fun x =>
    x.setW d.toNat (fval 35 34 top.toNat ||| fval 33 18 imm.toNat)))

/-- LLO (R171): Wd[35:18] is unchanged. -/
def execLlo (i : Iss) (d : BitVec 5) (top : BitVec 2) (imm : BitVec 16) (s : State) : Host.Outcome State Fault Refusal :=
  issue s i (regInsn (encI i 14 d.toNat top.toNat imm.toNat) (fun x =>
    x.setW d.toNat (setFld (x.wr d.toNat) 17 0 (65536 * top.toNat + imm.toNat))))

/-- CEQ (R172). -/
def execCeq (i : Iss) (d : BitVec 3) (a b : BitVec 5) (s : State) : Host.Outcome State Fault Refusal :=
  issue s i (cmpOp 1 (fun a b => decide (a = b)) i d a b)

/-- CNE (R172). -/
def execCne (i : Iss) (d : BitVec 3) (a b : BitVec 5) (s : State) : Host.Outcome State Fault Refusal :=
  issue s i (cmpOp 2 (fun a b => decide (a ≠ b)) i d a b)

/-- CLT (R172). -/
def execClt (i : Iss) (d : BitVec 3) (a b : BitVec 5) (s : State) : Host.Outcome State Fault Refusal :=
  issue s i (cmpOp 3 slt i d a b)

/-- CLE (R172). -/
def execCle (i : Iss) (d : BitVec 3) (a b : BitVec 5) (s : State) : Host.Outcome State Fault Refusal :=
  issue s i (cmpOp 4 sle i d a b)

/-- CLTU (R172). -/
def execCltu (i : Iss) (d : BitVec 3) (a b : BitVec 5) (s : State) : Host.Outcome State Fault Refusal :=
  issue s i (cmpOp 5 ult i d a b)

/-- CLEU (R172). -/
def execCleu (i : Iss) (d : BitVec 3) (a b : BitVec 5) (s : State) : Host.Outcome State Fault Refusal :=
  issue s i (cmpOp 6 ule i d a b)

/-- CEQI (R172). -/
def execCeqi (i : Iss) (d : BitVec 3) (a : BitVec 5) (imm : BitVec 16) (s : State) : Host.Outcome State Fault Refusal :=
  issue s i (cmpiOp 0 (fun a => decide (a = sximm imm)) i d a imm)

/-- CNEI (R172). -/
def execCnei (i : Iss) (d : BitVec 3) (a : BitVec 5) (imm : BitVec 16) (s : State) : Host.Outcome State Fault Refusal :=
  issue s i (cmpiOp 1 (fun a => decide (a ≠ sximm imm)) i d a imm)

/-- CLTI (R172). -/
def execClti (i : Iss) (d : BitVec 3) (a : BitVec 5) (imm : BitVec 16) (s : State) : Host.Outcome State Fault Refusal :=
  issue s i (cmpiOp 2 (fun a => slt a (sximm imm)) i d a imm)

/-- CLTUI (R172). -/
def execCltui (i : Iss) (d : BitVec 3) (a : BitVec 5) (imm : BitVec 16) (s : State) : Host.Outcome State Fault Refusal :=
  issue s i (cmpiOp 3 (fun a => ult a (imm.setWidth 36)) i d a imm)

/-- QAND (R172). -/
def execQand (i : Iss) (d a b : BitVec 3) (s : State) : Host.Outcome State Fault Refusal :=
  issue s i (qOp 1 (fun p q => p && q) i d a b)

/-- QOR (R172). -/
def execQor (i : Iss) (d a b : BitVec 3) (s : State) : Host.Outcome State Fault Refusal :=
  issue s i (qOp 2 (fun p q => p || q) i d a b)

/-- QXOR (R172). -/
def execQxor (i : Iss) (d a b : BitVec 3) (s : State) : Host.Outcome State Fault Refusal :=
  issue s i (qOp 3 (fun p q => xor p q) i d a b)

/-- QANDN (R172). -/
def execQandn (i : Iss) (d a b : BitVec 3) (s : State) : Host.Outcome State Fault Refusal :=
  issue s i (qOp 4 (fun p q => p && !q) i d a b)

/-- QNZ (R172). -/
def execQnz (i : Iss) (d : BitVec 3) (a : BitVec 5) (s : State) : Host.Outcome State Fault Refusal :=
  issue s i (regInsn (encR i 3 d.toNat a.toNat 0 5) (fun x => x.setQ d.toNat (decide (x.wr a.toNat ≠ 0))))

/-- QTOW (R172). -/
def execQtow (i : Iss) (d : BitVec 5) (s : State) : Host.Outcome State Fault Refusal :=
  issue s i (regInsn (encR i 3 d.toNat 0 0 6) (fun x => x.setW d.toNat x.qw))

/-- WTOQ (R172). -/
def execWtoq (i : Iss) (a : BitVec 5) (s : State) : Host.Outcome State Fault Refusal :=
  issue s i (regInsn (encR i 3 0 a.toNat 0 7) (fun x => x.setQw (x.wr a.toNat)))

end Sys2Proof.Machine
end

