-- ==== Sys2Proof/Machine/CapOps.lean ====
section
/-! DEFINITION. The capability instructions (R103, R111 to R113, R198 to R200). Faults of derivation name the
instruction's address in FADDR and the register that failed its check in FAUX. -/

namespace Sys2Proof.Machine

/-- The fault of a capability instruction, CINVOKE among them: FADDR is the address of the instruction. Table 6.1 allows eff, the
target or PCC.cursor and names none for CINVOKE; CJR and GCALL show the cursor of their target (DESIGN CHOICE,
notes/assumptions/43.md). -/
def capOpFault (x : Ctx) (cause reg : Nat) : Trap := capFault cause x.pcc.cursor reg

/-- A field read: Wd := f Ca (R198, R200). -/
def capGet (fn : Nat) (f : Cap → Nat) (i : Iss) (d : BitVec 5) (a : BitVec 4) : Insn :=
  regInsn (encR i 5 d.toNat a.toNat 0 fn) (fun x => x.setW d.toNat (BitVec.ofNat 36 (f (x.cr a.toNat))))

/-- A derivation with a word operand: Cd := f Ca Wb, or a fault on Ca (R111). -/
def capDerive (fn : Nat) (f : Cap → Word → Except Nat Cap) (i : Iss) (d a : BitVec 4) (b : BitVec 5) : Insn :=
  tryInsn (encR i 5 d.toNat a.toNat b.toNat fn) (fun x =>
    match f (x.cr a.toNat) (x.wr b.toNat) with
    | .ok c => .ok (x.setC d.toNat c)
    | .error e => .error (capOpFault x e a.toNat))

/-- A sealing with a second capability: Cd := f Ca Cb (R112). -/
def capPair (fn : Nat) (f : Cap → Cap → Except (Nat × Bool) Cap) (i : Iss) (d a b : BitVec 4) : Insn :=
  tryInsn (encR i 5 d.toNat a.toNat b.toNat fn) (fun x =>
    match f (x.cr a.toNat) (x.cr b.toNat) with
    | .ok c => .ok (x.setC d.toNat c)
    | .error e => .error (capOpFault x e.1 (if e.2 then b.toNat else a.toNat)))

/-- CGETTAG (R198). -/
def execCgettag (i : Iss) (d : BitVec 5) (a : BitVec 4) (s : State) : Host.Outcome State Fault Refusal :=
  issue s i (capGet 1 (fun c => bnat c.tag) i d a)

/-- CGETPERM (R198). -/
def execCgetperm (i : Iss) (d : BitVec 5) (a : BitVec 4) (s : State) : Host.Outcome State Fault Refusal :=
  issue s i (capGet 2 Cap.perm i d a)

/-- CGETTYPE (R198). -/
def execCgettype (i : Iss) (d : BitVec 5) (a : BitVec 4) (s : State) : Host.Outcome State Fault Refusal :=
  issue s i (capGet 3 Cap.otype i d a)

/-- CGETADDR (R198). -/
def execCgetaddr (i : Iss) (d : BitVec 5) (a : BitVec 4) (s : State) : Host.Outcome State Fault Refusal :=
  issue s i (capGet 4 Cap.cursor i d a)

/-- CGETBASE (R99, R198). -/
def execCgetbase (i : Iss) (d : BitVec 5) (a : BitVec 4) (s : State) : Host.Outcome State Fault Refusal :=
  issue s i (capGet 5 Cap.base i d a)

/-- CGETTOP (R99, R198). -/
def execCgettop (i : Iss) (d : BitVec 5) (a : BitVec 4) (s : State) : Host.Outcome State Fault Refusal :=
  issue s i (capGet 6 Cap.top i d a)

/-- CGETLEN (R198). -/
def execCgetlen (i : Iss) (d : BitVec 5) (a : BitVec 4) (s : State) : Host.Outcome State Fault Refusal :=
  issue s i (capGet 7 (fun c => c.top - c.base) i d a)

/-- CMOVR (R198). -/
def execCmovr (i : Iss) (d a : BitVec 4) (s : State) : Host.Outcome State Fault Refusal :=
  issue s i (regInsn (encR i 5 d.toNat a.toNat 0 8) (fun x => x.setC d.toNat (x.cr a.toNat)))

/-- CCLRTAG (R198). -/
def execCclrtag (i : Iss) (d a : BitVec 4) (s : State) : Host.Outcome State Fault Refusal :=
  issue s i (regInsn (encR i 5 d.toNat a.toNat 0 9) (fun x => x.setC d.toNat { x.cr a.toNat with tag := false }))

/-- CGETPCC (R198). -/
def execCgetpcc (i : Iss) (d : BitVec 4) (s : State) : Host.Outcome State Fault Refusal :=
  issue s i (regInsn (encR i 5 d.toNat 0 0 10) (fun x => x.setC d.toNat x.pcc))

/-- CPOINT (R111). -/
def execCpoint (i : Iss) (d a : BitVec 4) (b : BitVec 5) (s : State) : Host.Outcome State Fault Refusal :=
  issue s i (capDerive 16 (fun c w => capPoint c w.toNat) i d a b)

/-- CSTEP (R111). -/
def execCstep (i : Iss) (d a : BitVec 4) (b : BitVec 5) (s : State) : Host.Outcome State Fault Refusal :=
  issue s i (capDerive 17 (fun c w => capPoint c (c.cursor + sval w)) i d a b)

/-- CMASKP (R111). -/
def execCmaskp (i : Iss) (d a : BitVec 4) (b : BitVec 5) (s : State) : Host.Outcome State Fault Refusal :=
  issue s i (capDerive 18 capMaskp i d a b)

/-- CNARROW (R102, R111). -/
def execCnarrow (i : Iss) (d a : BitVec 4) (b : BitVec 5) (s : State) : Host.Outcome State Fault Refusal :=
  issue s i (capDerive 19 (fun c w => capNarrow c w.toNat false) i d a b)

/-- CNARROWX (R102, R111). -/
def execCnarrowx (i : Iss) (d a : BitVec 4) (b : BitVec 5) (s : State) : Host.Outcome State Fault Refusal :=
  issue s i (capDerive 20 (fun c w => capNarrow c w.toNat true) i d a b)

/-- CSTEPI (R199): CSTEP with the sign-extended immediate. -/
def execCstepi (i : Iss) (d a : BitVec 4) (imm : BitVec 16) (s : State) : Host.Outcome State Fault Refusal :=
  issue s i (tryInsn (encI i 30 d.toNat a.toNat imm.toNat) (fun x =>
    match capPoint (x.cr a.toNat) ((x.cr a.toNat).cursor + simm imm) with
    | .ok c => .ok (x.setC d.toNat c)
    | .error e => .error (capOpFault x e a.toNat)))

/-- CSEAL (R112). -/
def execCseal (i : Iss) (d a b : BitVec 4) (s : State) : Host.Outcome State Fault Refusal :=
  issue s i (capPair 24 capSeal i d a b)

/-- CUNSEAL (R112). -/
def execCunseal (i : Iss) (d a b : BitVec 4) (s : State) : Host.Outcome State Fault Refusal :=
  issue s i (capPair 25 capUnseal i d a b)

/-- CSEALH (R112): PCC must hold System at Executive privilege; the type is k + 32. -/
def execCsealh (i : Iss) (d a : BitVec 4) (k : BitVec 5) (s : State) : Host.Outcome State Fault Refusal :=
  issue s i (tryInsn (encR i 5 d.toNat a.toNat k.toNat 26) (fun x =>
    if x.pcc.has .system = false ∨ x.priv ≠ 0 then .error (capOpFault x 3 15)
    else
      match capSealh (x.cr a.toNat) (k.toNat + 32) with
      | .ok c => .ok (x.setC d.toNat c)
      | .error e => .error (capOpFault x e a.toNat)))

/-- CINVOKE (R113): the queue is discarded, as for every taken transfer (R227). -/
def execCinvoke (i : Iss) (a b : BitVec 4) (s : State) : Host.Outcome State Fault Refusal :=
  issue s i
    { raw := encR i 5 0 a.toNat b.toNat 27, kind := 0, dec := decNone, brCost := 0,
      body := fun n h => do
        let s ← get
        let x := ctxAt s n h
        match capInvoke (x.cr a.toNat) (x.cr b.toNat) with
        | .error e => throw (.trap (capOpFault x e.1 (if e.2 then b.toNat else a.toNat)))
        | .ok p =>
          upd (fun s => discardPq (setCtx s n h ({ x with pcc := p.1 }.setC 7 p.2)) n h)
          return .jump }

/-- Whether R103 defines an exponent for a length: some e of 0 to 22 fits it. -/
def sizeDefined (len : Nat) : Bool := decide ((len + 2 ^ 22 - 1) / 2 ^ 22 ≤ 511)

/-- A length function of R103: Wd := f Wa; a length that no exponent fits gives a value the spec does not state
(notes/assumptions/4.md). -/
def sizeInsn (fn : Nat) (f : Nat → Word) (i : Iss) (d a : BitVec 5) : Insn :=
  { raw := encR i 5 d.toNat a.toNat 0 fn, kind := 0, dec := decNone, brCost := 0,
    body := fun n h => do
      let s ← get
      let len := ((ctxAt s n h).wr a.toNat).toNat
      if sizeDefined len then modCtx n h (fun x => x.setW d.toNat (f len))
      else do
        let k ← act freeTake
        modCtx n h (fun x => x.setW d.toNat (Config.freeValue 36 k))
      return .seq }

/-- CSIZEUP (R103). -/
def execCsizeup (i : Iss) (d a : BitVec 5) (s : State) : Host.Outcome State Fault Refusal :=
  issue s i (sizeInsn 32 (fun len => BitVec.ofNat 36 (sizeUp len)) i d a)

/-- CBASEMASK (R103). -/
def execCbasemask (i : Iss) (d a : BitVec 5) (s : State) : Host.Outcome State Fault Refusal :=
  issue s i (sizeInsn 33 baseMask i d a)

end Sys2Proof.Machine
end

