-- ==== Sys2Proof/Machine/LoadStore.lean ====
section
/-! DEFINITION. Loads and stores of one word or one capability (R109, R110, R183 to R193, R214, R223), the return
of load data, the acknowledgement of a buffered store, and the late store error (R242, R296, R297). -/

namespace Sys2Proof.Machine

/-! ## Loads -/

/-- The word a load of form `p` writes from a word and its part selector (R184, R185): 0 LDW, 1 LDH, 2 LDHS, 3 LDN,
4 LDNS, 5 LDO. -/
def loadValue (p sel : Nat) (w : Word) : Word :=
  if p = 1 then BitVec.ofNat 36 (part w 18 sel)
  else if p = 2 then sxpart 18 (part w 18 sel)
  else if p = 3 then BitVec.ofNat 36 (part w 9 sel)
  else if p = 4 then sxpart 9 (part w 9 sel)
  else if p = 5 then BitVec.ofNat 36 (part w 9 sel % 256)
  else w

/-- The data of a load: a capability pair (form 6) with the tag R110 gives it, or a part of a word, with the parity
check of LDO (R185). A register page takes the word form only (R64). -/
def loadFrom (n : Nat) (m : MLoad) : X Cap := do
  if m.part = 6 then
    if isPage m.pa then pageForm n m.va m.pa m.stamp .capLoad
    let hi ← seenLoad n m.va m.pa m.stamp .capLoad
    let lo ← seenLoad n (m.va + 1) (m.pa + 1) m.stamp .capLoad
    let c : Cap := { hi := hi.1, lo := lo.1, tag := hi.2 && lo.2 && m.keepTag }
    let t ← act (fun s => filterTag s (n / 4) c)
    return { c with tag := t }
  else if isPage m.pa then
    if m.part ≠ 0 then pageForm n m.va m.pa m.stamp .load
    let w ← corePageLoad n m.va m.pa m.stamp .load
    return { hi := 0, lo := w, tag := false }
  else
    let w ← seenLoad n m.va m.pa m.stamp .load
    if m.part = 5 ∧ octetGood (part w.1 9 m.sel) = false then
      upd (fun s => capture s (corePg n) 4 m.va)
      fault 10 2 m.va 0
    return { hi := 0, lo := loadValue m.part m.sel w.1, tag := false }

/-- The result of a load reaches its register: at once, or after the next instruction when the load issued in Proof
(R214). -/
def landValue (n h : Nat) (m : MLoad) (v : Cap) : X Unit :=
  modCtx n h (fun x =>
    if m.inProof then { x with proofLoad := some { isCap := m.isCap, reg := m.reg, val := v } }
    else if m.isCap then x.cphysSet m.reg v
    else x.wphysSet m.reg v.lo)

/-- Whether a load completes in its issue: its own bank, a word the store buffer holds whole, or an address the
core's own decode refuses (Table 5.4, R190, R704). -/
def loadsAtOnce (s : State) (n : Nat) (m : MLoad) : Bool :=
  let sb := (coreAt s n).sb
  !isPage m.pa &&
  (decide (m.pa / 65536 = n) || decide (memReach s m.pa = .unpopulated) ||
   (decide (sbMask sb m.pa = ~~~0) && (decide (m.part ≠ 6) || decide (sbMask sb (m.pa + 1) = ~~~0))))

/-- A load through an authority, as its word names it: checks, translation and master gate at issue, then its data
at once or a wait in stage M (R109, R110, R183, R223). -/
def loadBody (p sel : Nat) (isCap : Bool) (dst : Ctx → Nat) (auth : Ctx → Cap) (reg : Nat) (disp : Int) (n h : Nat) :
    X Next := do
  let s ← get
  let x := ctxAt s n h
  let c := auth x
  let eff := c.cursor + disp
  match capCheck c eff (if p = 6 then 2 else 1) [.load] with
  | .error e => throw (.trap (capFault e.cause e.faddr reg))
  | .ok _ =>
    let va := eff.toNat
    if p = 6 ∧ va % 2 = 1 then fault 4 0 va (fval 3 0 reg)
    let (pa, st) ← resolve n h va x.priv (if p = 6 then .capLoad else .load)
    let s ← get
    let m : MLoad :=
      { isCap := isCap, reg := dst x, part := p, sel := sel, pa := pa, va := va, keepTag := c.has .loadCap, stamp := st,
        inProof := s.safety == .proof, remote := remoteMember s pa, store := none, probe := false, since := coreNow s }
    if m.remote ∧ p ≠ 0 then fault 8 2 va 0
    if loadsAtOnce s n m then
      let v ← loadFrom n m
      landValue n h m v
      return .seq
    else
      upd (fun s => let s1 := setCore s n { coreAt s n with mstage := some m }
                    if m.remote then remoteSend s1 pa st else s1)
      return .hold

/-- A load of Table 4.13: Wd from C[a]. -/
def loadInsn (major p sel : Nat) (i : Iss) (d : BitVec 5) (a : BitVec 4) (imm : Nat) (disp : Int) : Insn :=
  { raw := encI i major d.toNat a.toNat imm, kind := 0, dec := decNone, brCost := 0,
    body := loadBody p sel false (fun x => x.wIdx d.toNat) (fun x => x.cr a.toNat) a.toNat disp }

/-- LDW (R184). -/
def execLdw (i : Iss) (d : BitVec 5) (a : BitVec 4) (disp : BitVec 16) (s : State) : Host.Outcome State Fault Refusal :=
  issue s i (loadInsn 16 0 0 i d a disp.toNat (simm disp))

/-- LDH (R184). -/
def execLdh (i : Iss) (d : BitVec 5) (a : BitVec 4) (disp : BitVec 15) (sel : Bool) (s : State) :
    Host.Outcome State Fault Refusal :=
  issue s i (loadInsn 17 1 (bnat sel) i d a (2 * disp.toNat + bnat sel) (simm disp))

/-- LDHS (R184). -/
def execLdhs (i : Iss) (d : BitVec 5) (a : BitVec 4) (disp : BitVec 15) (sel : Bool) (s : State) :
    Host.Outcome State Fault Refusal :=
  issue s i (loadInsn 18 2 (bnat sel) i d a (2 * disp.toNat + bnat sel) (simm disp))

/-- LDN (R184). -/
def execLdn (i : Iss) (d : BitVec 5) (a : BitVec 4) (disp : BitVec 14) (sel : BitVec 2) (s : State) :
    Host.Outcome State Fault Refusal :=
  issue s i (loadInsn 19 3 sel.toNat i d a (4 * disp.toNat + sel.toNat) (simm disp))

/-- LDNS (R184). -/
def execLdns (i : Iss) (d : BitVec 5) (a : BitVec 4) (disp : BitVec 14) (sel : BitVec 2) (s : State) :
    Host.Outcome State Fault Refusal :=
  issue s i (loadInsn 20 4 sel.toNat i d a (4 * disp.toNat + sel.toNat) (simm disp))

/-- LDO (R185). -/
def execLdo (i : Iss) (d : BitVec 5) (a : BitVec 4) (disp : BitVec 14) (sel : BitVec 2) (s : State) :
    Host.Outcome State Fault Refusal :=
  issue s i (loadInsn 21 5 sel.toNat i d a (4 * disp.toNat + sel.toNat) (simm disp))

/-- LDPC (R184): the word at PCC.cursor + imm, checked against PCC. -/
def execLdpc (i : Iss) (d : BitVec 5) (imm : BitVec 16) (s : State) : Host.Outcome State Fault Refusal :=
  issue s i
    { raw := encI i 22 d.toNat 0 imm.toNat, kind := 0, dec := decNone, brCost := 0,
      body := loadBody 0 0 false (fun x => x.wIdx d.toNat) (fun x => x.pcc) 15 (simm imm) }

/-- CLD (R110, R187). -/
def execCld (i : Iss) (d a : BitVec 4) (disp : BitVec 16) (s : State) : Host.Outcome State Fault Refusal :=
  issue s i
    { raw := encI i 28 d.toNat a.toNat disp.toNat, kind := 0, dec := decNone, brCost := 0,
      body := loadBody 6 0 true (fun x => x.cIdx d.toNat) (fun x => x.cr a.toNat) a.toNat (simm disp) }

/-! ## Stores -/

/-- Whether an address names a proposal page of this or of another package (R95). -/
def isProp (pa : Nat) : Bool :=
  let q := pa / 512 % 2048
  isPage pa && decide (pa / 1048576 % 16 < 8 ∧ 64 ≤ q ∧ q < 320 ∧ 37 ≤ q % 64 ∧ q % 64 ≤ 39)

/-- A virtual address that translates is that of a proposal page (R95). -/
def atProp (s : State) (n va : Nat) : Bool :=
  match translate n va .load s with
  | .ok pa _ => isProp pa
  | .error _ _ => false

/-- The permissions that a store of some words from a virtual address on needs (R95, R109): Channel too where one of them, if its
address translates, is that of a proposal page, which is 512 words. The check is made before the translation has any effect (R86,
notes/assumptions/43.md). -/
def storePerms (s : State) (n va words : Nat) : List Perm :=
  if atProp s n va || (List.range ((min words (2 ^ 30) - 1) / 512)).any (fun k => atProp s n (va + 512 * (k + 1))) ||
      (decide (2 ≤ words) && atProp s n (va + words - 1)) then [.store, .channel] else [.store]

/-- A store to a register page (R64, R66): a word at once at the unit, or, at another package, an access outstanding in stage M, behind
which instructions of registers alone issue (R244); any other form is a bus error after the gates. -/
def storePage (n h va pa : Nat) (st : Stamp) (word : Bool) (v : Word) : X Next := do
  let s ← get
  if remoteMember s pa then
    if !word then fault 8 2 va 0
    let m : MLoad :=
      { isCap := false, reg := 0, part := 0, sel := 0, pa := pa, va := va, keepTag := false, stamp := st, inProof := false,
        remote := true, store := some v, probe := false, since := coreNow s }
    upd (fun s => remoteSend (setCore s n { coreAt s n with mstage := some m, undo := some (ctxAt s n h) }) pa st)
    return .seq
  else if word then
    corePageStore n va pa st v
    return .seq
  else pageForm n va pa st .store

/-- A data store of the bits of `mask` (R109, R184, R186, R190): checks, translation, gate, then the store buffer. -/
def storeBody (a : Nat) (disp : Int) (word : Bool) (val : Ctx → Word) (mask : Word) (n h : Nat) : X Next := do
  let s ← get
  let x := ctxAt s n h
  let c := x.cr a
  let eff := c.cursor + disp
  match capCheck c eff 1 (storePerms s n eff.toNat 1) with
  | .error e => throw (.trap (capFault e.cause e.faddr a))
  | .ok _ =>
    let va := eff.toNat
    let (pa, st) ← resolve n h va x.priv .store
    if isPage pa then storePage n h va pa st word (val x)
    else do
      let s ← get
      if memReach s pa = .unpopulated then busFault n va pa .unpopulated
      bufferStore n [sbEntry s n h va pa st .store (val x) mask false false]
      return .seq

/-- A store of Table 4.13. -/
def storeInsn (major : Nat) (i : Iss) (d : BitVec 5) (a : BitVec 4) (imm : Nat) (disp : Int) (word : Bool)
    (f : Word → Word) (mask : Word) : Insn :=
  { raw := encI i major d.toNat a.toNat imm, kind := 0, dec := decNone, brCost := 0,
    body := storeBody a.toNat disp word (fun x => f (x.wr d.toNat)) mask }

/-- STW (R184). -/
def execStw (i : Iss) (d : BitVec 5) (a : BitVec 4) (disp : BitVec 16) (s : State) : Host.Outcome State Fault Refusal :=
  issue s i (storeInsn 24 i d a disp.toNat (simm disp) true (fun w => w) (~~~0))

/-- STH (R184). -/
def execSth (i : Iss) (d : BitVec 5) (a : BitVec 4) (disp : BitVec 15) (sel : Bool) (s : State) :
    Host.Outcome State Fault Refusal :=
  issue s i (storeInsn 25 i d a (2 * disp.toNat + bnat sel) (simm disp) false
    (fun w => BitVec.ofNat 36 (w.toNat * 2 ^ (18 * bnat sel))) (partMask 18 (bnat sel)))

/-- STN (R184). -/
def execStn (i : Iss) (d : BitVec 5) (a : BitVec 4) (disp : BitVec 14) (sel : BitVec 2) (s : State) :
    Host.Outcome State Fault Refusal :=
  issue s i (storeInsn 26 i d a (4 * disp.toNat + sel.toNat) (simm disp) false
    (fun w => BitVec.ofNat 36 (w.toNat * 2 ^ (9 * sel.toNat))) (partMask 9 sel.toNat))

/-- STO (R186). -/
def execSto (i : Iss) (d : BitVec 5) (a : BitVec 4) (disp : BitVec 14) (sel : BitVec 2) (s : State) :
    Host.Outcome State Fault Refusal :=
  issue s i (storeInsn 27 i d a (4 * disp.toNat + sel.toNat) (simm disp) false
    (fun w => BitVec.ofNat 36 (packOctet w.toNat * 2 ^ (9 * sel.toNat))) (partMask 9 sel.toNat))

/-- CST (R110, R187): the pair enters the buffer as two entries. The filter tests it as it issues, and a pair that waits in the buffer
when the filter becomes active keeps its tag: R110 and R132 do not say when a buffered pair is tested (DESIGN CHOICE,
notes/assumptions/79.md). -/
def cstBody (d a : Nat) (disp : Int) (n h : Nat) : X Next := do
  let s ← get
  let x := ctxAt s n h
  let c := x.cr a
  let v := x.cr d
  let eff := c.cursor + disp
  match capCheck c eff 2 (storePerms s n eff.toNat 2) with
  | .error e => throw (.trap (capFault e.cause e.faddr a))
  | .ok _ =>
    let va := eff.toNat
    if va % 2 = 1 then fault 4 0 va (fval 3 0 a)
    if v.tag ∧ c.has .storeCap = false then throw (.trap (capFault 3 va a))
    if v.tag ∧ v.has .glob = false ∧ c.has .storeLocal = false then throw (.trap (capFault 6 va a))
    let (pa, st) ← resolve n h va x.priv .capStore
    if isPage pa then storePage n h va pa st false 0
    else do
      let s ← get
      if memReach s pa = .unpopulated then busFault n va pa .unpopulated
      let t ← act (fun s => filterTag s (n / 4) v)
      let s ← get
      bufferStore n [sbEntry s n h va pa st .capStore v.hi (~~~0) t true,
                       sbEntry s n h (va + 1) (pa + 1) st .capStore v.lo (~~~0) t false]
      return .seq

/-- CST (R110, R187). -/
def execCst (i : Iss) (d a : BitVec 4) (disp : BitVec 16) (s : State) : Host.Outcome State Fault Refusal :=
  issue s i
    { raw := encI i 29 d.toNat a.toNat disp.toNat, kind := 0, dec := decNone, brCost := 0,
      body := cstBody d.toNat a.toNat (simm disp) }

/-! ## Words that an instruction waits for (R223, R248 to R250) -/

/-- The source of an address as Table 5.4 counts them: a bank of the package, or an external memory port. -/
def sourceOf (pa : Nat) : Nat := if pa < 134217728 then pa / 65536 else 2048 + pa / 134217728

/-- A word that a multi-word instruction or a shadow-stack read needs: from the core's own bank, or from a source whose first word
has returned, it is there; else the access holds stage M and the instruction is sent again once its data has returned (R223, R249,
R250, notes/assumptions/12.md). -/
def awaitSource (n va pa : Nat) (st : Stamp) : X Unit := do
  let s ← get
  if pa / 65536 ≠ n ∧ (coreAt s n).arrived ≠ some (sourceOf pa) ∧ memReach s pa = .ok then do
    let m : MLoad :=
      { isCap := false, reg := 0, part := 0, sel := 0, pa := pa, va := va, keepTag := false, stamp := st, inProof := false,
        remote := false, store := none, probe := true, since := coreNow s }
    upd (fun s => setCore s n { coreAt s n with mstage := some m })
    throw .wait

/-! ## The return of load data, acknowledgements and late errors -/

/-- The next request at the block port of an address arrives with wrong parity (R35). -/
def arrivesBad (s : State) (pa : Nat) : State :=
  match portOf pa with
  | some (p, _) => { s with badPorts := s.badPorts.filter (fun q => q != p) ++ [p] }
  | none => s

/-- What another package answers to the access that holds stage M (R546, R548, Table 8.10); a request to a package that has
left the stack is answered with a bus error (R541). -/
def remoteReply (n : Nat) (m : MLoad) (answer : RemoteAnswer) : X Cap := do
  let s ← get
  if !remoteMember s m.pa then busFault n m.va m.pa .unpopulated
  else
    match answer with
    | .data w => return { hi := 0, lo := w, tag := false }
    | .refused => fault 12 4 m.pa (gateFaux 2 m.stamp ((slotOf s m.pa).getD 0) 7)
    | .unpopulated => busFault n m.va m.pa .unpopulated
    | .down => busFault n m.va m.pa .down
    | .isolated => busFault n m.va m.pa .isolated
    | .parity => do
      let c ← act parityCause
      fault 8 c m.va 0

/-- The access that holds stage M is made and its instruction completes (R223); a store has issued already. -/
def returnBody (n h : Nat) (m : MLoad) (answer : RemoteAnswer) : X Unit := do
  let v ← if m.remote then remoteReply n m answer else loadFrom n m
  if m.store.isNone then do
    landValue n h m v
    modCtx n h Ctx.advance

/-- The access that failed is refused to the context as it was at the access: what has issued behind a store is undone (R66, R244). -/
def refused (s : State) (n h : Nat) (m : MLoad) (u : Option Ctx) (t : Trap) : State :=
  match u with
  | some x => takeTrap (if m.store.isSome then setCtx s n h x else s) n h t
  | none => takeTrap s n h t

/-- The access in stage M of core n is served: the instruction completes, faults, or, waiting for this word, goes on when it is sent
again. -/
def returnLoad (s : State) (n : Nat) (m : MLoad) (answer : RemoteAnswer) : State :=
  let h := m.stamp.ctx.toNat
  let c := coreAt s n
  if m.probe then setCore s n { c with mstage := none, arrived := some (sourceOf m.pa) }
  else
    match (returnBody n h m answer) (setCore s n { c with mstage := none, undo := none, stall := none }) with
    | .ok _ s1 => s1
    | .error (.trap t) s1 => refused s1 n h m c.undo t
    | .error _ s1 => s1

/-- The request in stage M of core n waits at the arbiter of another block's bank, which serves another one first or has no slots
left (R31, R32); a pair takes two (R93). -/
def loadHeldBack (s : State) (n : Nat) (m : MLoad) : Bool :=
  decide (memReach s m.pa = .ok) && (match loadWaits s n (m.pa / 65536) with
    | some w => !grantNow s (m.pa / 65536) (coreLive s) w (if m.part = 6 then 2 else 1)
    | none => false)

/-- LOAD_DATA_RETURN (R32, R35, R223): the data of the access that holds stage M returns; `answer` is another package's, or says
that the request arrives at its block's port with wrong parity. With nothing in stage M, while the core does not run, or before the
bank's arbiter grants it, it has no effect. -/
def execLoadDataReturn (core : BitVec 7) (answer : RemoteAnswer) (s : State) : Host.Outcome State Fault Refusal :=
  let n := core.toNat
  match coreLive s n, (coreAt s n).mstage with
  | true, some m =>
    done (if loadHeldBack s n m then s
      else returnLoad (if answer = .parity ∧ m.remote = false then arrivesBad s m.pa else s) n m answer)
  | _, _ => done s

/-- The slots that the oldest store of a core takes: one for each word, two in a marked page (R93, R334). -/
def storeSlots (s : State) (n : Nat) : Nat :=
  match (coreAt s n).sb with
  | e :: rest => (e :: (sbUnit e rest).1).foldl (fun k e => k + writeSlots s e.pa) 0
  | [] => 0

/-- The oldest store of core n waits at the arbiter of another block's bank (R31, R32). -/
def storeHeldBack (s : State) (n : Nat) : Bool :=
  match (coreAt s n).sb with
  | e :: _ => decide (memReach s e.pa = .ok) && (match storeWaits s n (e.pa / 65536) with
      | some w => !grantNow s (e.pa / 65536) (coreLive s) w (storeSlots s n)
      | none => false)
  | [] => false

/-- The oldest store of core n arrives at the port of its block, with wrong parity where the command says so (R35). -/
def storeArrives (s : State) (n : Nat) (bad : Bool) : State :=
  match bad, (coreAt s n).sb with
  | true, e :: _ => arrivesBad s e.pa
  | _, _ => s

/-- STORE_ACK (R32, R35, R190, R242): the oldest buffered store completes at its bank or port and its entry frees; one that arrives
with wrong parity is discarded there, and its context has a late store error. With an empty buffer, while the core does not run, or
before the bank's arbiter grants it, it has no effect. -/
def execStoreAck (r : StoreReceipt) (s : State) : Host.Outcome State Fault Refusal :=
  let n := r.core.toNat
  done (if coreLive s n = false ∨ storeHeldBack s n = true then s else drainOne (storeArrives s n r.parity) n)

/-- LATE_STORE_ERROR (R296, R297, R299, R303): the issuing context takes its oldest late store error on vector 7, which abandons
a division; with none due, between two words of a multi-word instruction, or where the instruction at the boundary faults, it has no
effect. -/
def execLateStoreError (core : BitVec 7) (s : State) : Host.Outcome State Fault Refusal :=
  let n := core.toNat
  done (if coreLive s n = true ∧ (coreAt s n).mstage.isNone = true ∧ (coreAt s n).midway.isNone = true ∧ lateDue s n = true ∧
      boundaryFault s n = false then takeLate s n (coreAt s n).cur else s)

end Sys2Proof.Machine
end

