-- ==== Sys2Proof/Machine/Control.lean ====
section
/-! DEFINITION. Control transfers (R194 to R197, R233 to R239), the shadow stack (R286 to R288) and the gate call
and its return (R114, R289 to R291, R388, R390, R397). -/

namespace Sys2Proof.Machine

/-! ## Transfers -/

/-- A transfer guarded by Q0 with negate 0 is unconditional (R233). -/
def uncond (iss : Iss) : Bool := decide (iss.q = 0) && !iss.neg

/-- The queue after a taken transfer: it is discarded (R227), but for words fetched from a target of the target cache that E has
confirmed (R240). -/
def transferPq (s : State) (n h target : Nat) (hit : Bool) : State :=
  if hit && decide (((coreAt s n).pq.head?.map (fun e => e.va)) = some target) then s else discardPq s n h

/-- The end of a taken transfer: the context changes, the queue is discarded, and an unconditional transfer
counts the cycles it loses (Table 5.2). -/
def transfer (n h : Nat) (iss : Iss) (lost : Nat × Bool) (f : Ctx → Ctx) : X Next := do
  upd (fun s => setCtx s n h (f (ctxAt s n h)))
  upd (fun s => transferPq s n h (ctxAt s n h).pcc.cursor lost.2)
  if uncond iss then upd (fun s => perf s n h 67 lost.1)
  return .jump

/-- PCC with its cursor at a target (R195). -/
def Ctx.goto (x : Ctx) (t : Int) : Ctx := { x with pcc := x.pcc.move t }

/-- The window-exhaustion fault (R149). -/
def windowFault (x : Ctx) : Trap := { vec := 15, cause := 0, faddr := x.pcc.cursor, faux := 0 }

/-- A control-flow fault (Table 6.8). -/
def flowFault (x : Ctx) (cause : Nat) (expected : Word) : Trap :=
  { vec := 14, cause := cause, faddr := x.pcc.cursor, faux := expected }

/-- The illegal instruction of R153: CALL, CALLR, RET, GCALL and GRET in the fault bank, at decode. -/
def decBank (raw : Word) : State → Nat → Nat → Option Trap := fun s n h =>
  let x := ctxAt s n h
  if x.fb then some (illegal x raw) else none

/-! ## The shadow stack -/

/-- The base of the shadow region (Table 6.7). -/
def Ctx.sspBase (x : Ctx) : Nat := x.sspAddr / 2 ^ x.sspLim * 2 ^ x.sspLim

/-- The address of the k-th spilled pair, counted from 1, at the top of the region. -/
def Ctx.spillAt (x : Ctx) (k : Nat) : Nat := x.sspBase + 2 ^ x.sspLim - 2 * k

/-- LIM is defined (R288). -/
def Ctx.sspOk (x : Ctx) : Bool := decide (4 ≤ x.sspLim ∧ x.sspLim ≤ 20)

/-- An access of the shadow stack: translated and checked at Executive privilege (R286), never a register page
(R64). -/
def shadowResolve (n h va : Nat) (k : Kind) : X (Nat × Stamp) := do
  let (pa, st) ← resolve n h va 0 k
  if isPage pa then pageForm n va pa st k
  return (pa, st)

/-- A word of the shadow region as the core sees it: its own buffered store, or memory once its source has returned it (R223). -/
def shadowLoad (n va pa : Nat) (st : Stamp) : X (Word × Bool) := do
  let s ← get
  if sbMask (coreAt s n).sb pa ≠ ~~~0 then awaitSource n va pa st
  seenLoad n va pa st .shadowRead

/-- The buffer entries of words written to the shadow region, each with its tag and place in a pair. -/
def shadowEntries (n h : Nat) : List (Nat × Word × Bool × Bool) → X (List SbEntry)
  | [] => return []
  | (va, w, tag, pair) :: r => do
    let (pa, st) ← shadowResolve n h va .shadowWrite
    let s ← get
    if memReach s pa = .unpopulated then busFault n va pa .unpopulated
    let es ← shadowEntries n h r
    return sbEntry s n h va pa st .shadowWrite w (~~~0) tag pair :: es

/-- The checks of a push that leaves `spilled` pairs at the top (R288). With no spilled pair the bound is the top of the region,
and a push that would bring ADDR to it faults, so the last word stays free: R288 names only the lowest spilled pair (DESIGN
CHOICE, notes/assumptions/76.md). -/
def pushFault (x : Ctx) (spilled : Nat) : Option Trap :=
  if !x.sspOk ∨ x.spillAt spilled ≤ x.sspAddr + 1 then some (flowFault x 3 0) else none

/-- SSP after a push. -/
def Ctx.pushed (x : Ctx) : Ctx := { x with ssp := setFld x.ssp 29 0 (x.sspAddr + 1) }

/-- SSP after a pop. -/
def Ctx.popped (x : Ctx) : Ctx := { x with ssp := setFld x.ssp 29 0 (x.sspAddr - 1) }

/-- push_shadow (R287): the word enters the store buffer (R242); the caller moves SSP. -/
def pushShadow (n h : Nat) (x : Ctx) (w : Word) : X Unit := do
  match pushFault x x.spilln with
  | some t => throw (.trap t)
  | none =>
    let es ← shadowEntries n h [(x.sspAddr, w, false, false)]
    bufferStore n es

/-- The word at ADDR − 1, after the checks of R288. -/
def topShadow (n h : Nat) (x : Ctx) : X Word := do
  if x.sspOk = false then throw (.trap (flowFault x 3 0))
  if x.sspAddr = x.sspBase then throw (.trap (flowFault x 4 0))
  let (pa, st) ← shadowResolve n h (x.sspAddr - 1) .shadowRead
  let w ← shadowLoad n (x.sspAddr - 1) pa st
  return w.1

/-- check_shadow (R287): FAUX names the word the shadow stack holds. -/
def checkShadow (n h : Nat) (x : Ctx) (t : Word) : X Unit := do
  let w ← topShadow n h x
  if w ≠ t then throw (.trap (flowFault x 1 w))

/-! ## The target cache -/

/-- The entry of the target cache that a transfer at PCC's cursor uses: one of its compartment and address (R236 to R238). -/
def tcLookup (s : State) (n : Nat) (x : Ctx) : Option TcEntry :=
  let c := coreAt s n
  let a := x.pcc.cursor
  (kget (fun _ => none) c.tc (Config.tcScramble c.tcKey a).toNat).filter (fun e => decide (e.comp.toNat = x.comp ∧ e.tag = a))

/-- The lookup and the write of an unconditional register transfer; the cycles it loses and whether the entry's target was right
(R236 to R239, Table 5.2). -/
def targetCache (n : Nat) (x : Ctx) (iss : Iss) (target : Nat) : X (Nat × Bool) := do
  if uncond iss then
    let s ← get
    let c := coreAt s n
    let a := x.pcc.cursor
    let i := (Config.tcScramble c.tcKey a).toNat
    let hit := match tcLookup s n x with
      | some e => decide (e.target = target)
      | none => false
    let e : TcEntry := { comp := BitVec.ofNat 8 x.comp, tag := a, target := target }
    upd (fun s => setCore s n { coreAt s n with tc := kset (fun _ => none) (coreAt s n).tc i (some e) })
    upd (fun s => perf s n (coreAt s n).cur (if hit then 72 else 73) 1)
    return (if hit then 1 else 2, hit)
  else return (0, false)

/-! ## BR, CALL, FCALL and the JMP functions -/

/-- The link of a call: the address after it. -/
def Ctx.link (x : Ctx) : Word := BitVec.ofNat 36 (x.pcc.cursor + 1)

/-- CWP and HWM one window up (R148, Table 4.6). -/
def Ctx.windowUp (x : Ctx) : Ctx :=
  { x with win := setFld (setFld x.win 2 0 (x.cwp + 1)) 5 3 (max x.hwm (x.cwp + 1)) }

/-- CALL and CALLR: window check, push, window, link, target (R196). -/
def callBody (iss : Iss) (target : Ctx → Int) (cached : Bool) (n h : Nat) : X Next := do
  let s ← get
  let x := ctxAt s n h
  if x.cwp = 7 then throw (.trap (windowFault x))
  pushShadow n h x x.link
  let lost ← if cached then targetCache n x iss (target x % 2 ^ 30).toNat else pure (1, false)
  transfer n h iss lost (fun y => (y.pushed.windowUp.setW 8 x.link).goto (target x))

/-- FCALL and FCALLR: link in W7, push, target (R196). -/
def fcallBody (iss : Iss) (target : Ctx → Int) (cached : Bool) (n h : Nat) : X Next := do
  let s ← get
  let x := ctxAt s n h
  pushShadow n h x x.link
  let lost ← if cached then targetCache n x iss (target x % 2 ^ 30).toNat else pure (1, false)
  transfer n h iss lost (fun y => (y.pushed.setW 7 x.link).goto (target x))

/-- BR (R194, R196). -/
def execBr (i : Iss) (off : BitVec 26) (s : State) : Host.Outcome State Fault Refusal :=
  issue s i
    { raw := encB i 32 off.toNat, kind := 0, dec := decNone, brCost := 2,
      body := fun n h => transfer n h i (1, false) (fun x => x.goto (x.pcc.cursor + simm off)) }

/-- CALL (R149, R153, R196). -/
def execCall (i : Iss) (off : BitVec 26) (s : State) : Host.Outcome State Fault Refusal :=
  issue s i
    { raw := encB i 33 off.toNat, kind := 0, dec := decBank (encB i 33 off.toNat), brCost := 2,
      body := callBody i (fun x => x.pcc.cursor + simm off) false }

/-- FCALL (R196). -/
def execFcall (i : Iss) (off : BitVec 26) (s : State) : Host.Outcome State Fault Refusal :=
  issue s i
    { raw := encB i 34 off.toNat, kind := 0, dec := decNone, brCost := 2,
      body := fcallBody i (fun x => x.pcc.cursor + simm off) false }

/-- JR (R196). -/
def execJr (i : Iss) (a : BitVec 5) (s : State) : Host.Outcome State Fault Refusal :=
  issue s i
    { raw := encR i 36 0 a.toNat 0 1, kind := 0, dec := decNone, brCost := 2,
      body := fun n h => do
        let s ← get
        let t := (ctxAt s n h).wr a.toNat
        let lost ← targetCache n (ctxAt s n h) i (t.toNat % 2 ^ 30)
        transfer n h i lost (fun x => x.goto t.toNat) }

/-- CALLR (R149, R153, R196): the target is read in the caller's window. -/
def execCallr (i : Iss) (a : BitVec 5) (s : State) : Host.Outcome State Fault Refusal :=
  issue s i
    { raw := encR i 36 0 a.toNat 0 2, kind := 0, dec := decBank (encR i 36 0 a.toNat 0 2), brCost := 2,
      body := callBody i (fun x => (x.wr a.toNat).toNat) true }

/-- FCALLR (R196). -/
def execFcallr (i : Iss) (a : BitVec 5) (s : State) : Host.Outcome State Fault Refusal :=
  issue s i
    { raw := encR i 36 0 a.toNat 0 3, kind := 0, dec := decNone, brCost := 2,
      body := fcallBody i (fun x => (x.wr a.toNat).toNat) true }

/-- RET (R153, R196, R287): the target popped is the word that W8 matched. -/
def execRet (i : Iss) (s : State) : Host.Outcome State Fault Refusal :=
  issue s i
    { raw := encR i 36 0 0 0 4, kind := 0, dec := decBank (encR i 36 0 0 0 4), brCost := 2,
      body := fun n h => do
        let s ← get
        let x := ctxAt s n h
        if x.cwp = 0 then throw (.trap (flowFault x 2 0))
        checkShadow n h x (x.wr 8)
        transfer n h i (1, false) (fun y =>
          ({ y.popped with win := setFld y.win 2 0 (y.cwp - 1) }).goto (x.wr 8).toNat) }

/-- FRET (R196, R287). -/
def execFret (i : Iss) (s : State) : Host.Outcome State Fault Refusal :=
  issue s i
    { raw := encR i 36 0 0 0 5, kind := 0, dec := decNone, brCost := 2,
      body := fun n h => do
        let s ← get
        let x := ctxAt s n h
        checkShadow n h x (x.wr 7)
        transfer n h i (1, false) (fun y => y.popped.goto (x.wr 7).toNat) }

/-- CJR (R196). -/
def execCjr (i : Iss) (a : BitVec 4) (s : State) : Host.Outcome State Fault Refusal :=
  issue s i
    { raw := encR i 36 0 a.toNat 0 6, kind := 0, dec := decNone, brCost := 2,
      body := fun n h => do
        let s ← get
        let c := (ctxAt s n h).cr a.toNat
        if c.tag = false then throw (.trap (capFault 1 c.cursor a.toNat))
        if c.otype ≠ 0 then throw (.trap (capFault 2 c.cursor a.toNat))
        if c.has .execute = false then throw (.trap (capFault 3 c.cursor a.toNat))
        let lost ← targetCache n (ctxAt s n h) i c.cursor
        transfer n h i lost (fun x => { x with pcc := c }) }

/-! ## Gate calls -/

/-- The wait of an instruction that would open a fifth epoch, counted in PC_MEMSTALL (R397). -/
def epochHold (n : Nat) : X Unit := do
  let s ← get
  if 4 ≤ (coreAt s n).epochs.length then do
    upd (fun s => epochStall s n n)
    throw .wait

/-- The flip of a context's rule sets and task-state pointers with its new compartment (R275, R389, R390). -/
def flipSets (s : State) (n h : Nat) : State :=
  let c := coreAt s n
  let x := c.ctx h
  setCore s n (({ c with epoch := c.epoch + 1 }).setCtx h
    { x with setB := !x.setB, psw := setFld x.psw 29 22 (c.set (!x.setB)).comp })

/-- The gate fault of the ready test (Table 8.11, Table 8.12). -/
def readyFault (s : State) (n h faddr : Nat) : Trap :=
  { vec := 12, cause := 5, faddr := faddr, faux := gateFaux 0 (stampOf s n h 0) 0 7 }

/-- GEATTR_n of a context's gate (Table 6.12): compartment and privilege, 0b11 acting as 0b10. -/
def geattr (s : State) (n h k : Nat) : Nat × Nat :=
  let w := rget s (corePg n) (136 + 8 * h + k)
  (fld w 7 0, min (fld w 9 8) 2)

/-- The marker of a gate call (R289). -/
def gateMarker (crossing : Bool) (priv cwp : Nat) : Word :=
  fval 35 33 7 ||| fval 32 32 (bnat crossing) ||| fval 31 30 priv ||| fval 2 0 cwp

/-- The words a gate call writes to the shadow region: the spilled pair of a full buffer, then the marker. -/
def gateWords (x : Ctx) (marker : Word) : List (Nat × Word × Bool × Bool) :=
  match decide (8 ≤ x.srb.length), x.srb with
  | true, e :: _ =>
    let p := x.spillAt (x.spilln + 1)
    let c := e.withType 57
    [(p, c.hi, c.tag, true), (p + 1, c.lo, c.tag, false), (x.sspAddr, marker, false, false)]
  | _, _ => [(x.sspAddr, marker, false, false)]

/-- The context after a gate call, its flip apart (R289). -/
def Ctx.gateCalled (x : Ctx) (g : Cap) (priv : Nat) : Ctx :=
  let full := decide (8 ≤ x.srb.length)
  let y := x.pushed.windowUp
  { y with
    srb := (if full then x.srb.drop 1 else x.srb) ++ [x.pcc.move (x.pcc.cursor + 1)]
    spilln := if full then x.spilln + 1 else x.spilln
    pcc := g.withType 0
    psw := setFld y.psw 1 0 priv }

/-- GCALL (R114, R149, R153, R289, R291). -/
def gcallBody (iss : Iss) (k n h : Nat) : X Next := do
  let s ← get
  let x := ctxAt s n h
  let g := kget (fun _ => Cap.null) x.ge k
  if g.tag = false then throw (.trap (capFault 1 g.cursor k))
  if g.otype ≠ 56 then throw (.trap (capFault 5 g.cursor k))
  if g.has .invoke = false ∨ g.has .execute = false then throw (.trap (capFault 3 g.cursor k))
  let a := geattr s n h k
  let crossing := decide (a.1 ≠ x.comp)
  if x.cwp = 7 then throw (.trap (windowFault x))
  if crossing ∧ setReady (coreAt s n) (!x.setB) a.1 = false then throw (.trap (readyFault s n h k))
  let spilled := x.spilln + (if 8 ≤ x.srb.length then 1 else 0)
  match pushFault x spilled with
  | some t => throw (.trap t)
  | none =>
    if crossing then epochHold n
    let es ← shadowEntries n h (gateWords x (gateMarker crossing x.priv x.cwp))
    bufferStore n es
    if crossing then upd (fun s => flipSets s n h)
    transfer n h iss (5, false) (fun y => y.gateCalled g a.2)

/-- GCALL (R289). -/
def execGcall (i : Iss) (k : BitVec 3) (s : State) : Host.Outcome State Fault Refusal :=
  issue s i
    { raw := encB i 35 k.toNat, kind := 0, dec := decBank (encB i 35 k.toNat), brCost := 5,
      body := gcallBody i k.toNat }

/-- The return entry of GRET: the newest of the buffer, or the lowest spilled pair (R290). -/
def gretEntry (n h : Nat) (x : Ctx) : X (Cap × Bool) := do
  match x.srb.getLast? with
  | some e => return (e, false)
  | none =>
    if x.spilln = 0 then throw (.trap (flowFault x 5 0))
    let va := x.spillAt x.spilln
    let (pa, st) ← shadowResolve n h va .shadowRead
    let hi ← shadowLoad n va pa st
    let lo ← shadowLoad n (va + 1) (pa + 1) st
    let e : Cap := { hi := hi.1, lo := lo.1, tag := hi.2 && lo.2 }
    if e.tag = false ∨ e.otype ≠ 57 then throw (.trap (flowFault x 7 0))
    return (e, true)

/-- The context after GRET, its flip apart (R290). -/
def Ctx.gateReturned (x : Ctx) (e : Cap) (spilled : Bool) (m : Word) : Ctx :=
  let y := x.popped
  { y with
    srb := if spilled then x.srb else x.srb.dropLast
    spilln := if spilled then x.spilln - 1 else x.spilln
    psw := setFld y.psw 1 0 (fld m 31 30)
    win := setFld y.win 2 0 (fld m 2 0)
    pcc := e.withType 0 }

/-- GRET (R153, R290, R291). -/
def gretBody (iss : Iss) (n h : Nat) : X Next := do
  let s ← get
  let x := ctxAt s n h
  let m ← topShadow n h x
  if fld m 35 33 ≠ 7 ∨ fld m 2 0 + 1 ≠ x.cwp then throw (.trap (flowFault x 8 m))
  let e ← gretEntry n h x
  let s ← get
  let crossing := bit m 32
  let c := coreAt s n
  if crossing ∧ setReady c (!x.setB) (c.set (!x.setB)).comp = false then
    throw (.trap (readyFault s n h x.pcc.cursor))
  if crossing then do
    epochHold n
    upd (fun s => flipSets s n h)
  transfer n h iss (5, false) (fun y => y.gateReturned e.1 e.2 m)

/-- GRET (R290). -/
def execGret (i : Iss) (s : State) : Host.Outcome State Fault Refusal :=
  issue s i
    { raw := encR i 4 0 0 0 25, kind := 0, dec := decBank (encR i 4 0 0 0 25), brCost := 5, body := gretBody i }

end Sys2Proof.Machine
end

