-- ==== Sys2Proof/Machine/CoreEvents.lean ====
section
/-! DEFINITION. What a core block does besides issuing: interrupt entry, context selection, fetch ahead, held walks
and posted invalidations (R224 to R232, R261, R263, R269, R324, R339, R340, R623). An event that is not due has no
effect (notes/assumptions/17.md). -/

namespace Sys2Proof.Machine

/-! ## Interrupts and selection -/

/-- Whether core n may take an interrupt: in Run or Trim as it issues, or in Hold with WAKE = 1 (R623); no load holds
stage M (Table 5.7). -/
def coreWakes (s : State) (n : Nat) : Bool :=
  let d := dom s (domKey (n / 16) (n % 16))
  let up := decide (n < 16 * s.part.dies) && s.frozen.isNone && s.safety != .mire && s.safety != .boot &&
    !isolatedRegion s (n / 4) && (coreAt s n).mstage.isNone && !d.held && d.drain.isNone
  up && (d.st == .run || d.st == .trim || (d.st == .hold && d.wake))

/-- INTERRUPT_ENTRY (R182, R252, R263, R269, R273, R299, R623): the due interrupt is taken, a division of the issuing context is
abandoned, and Waiting contexts whose interrupt is pending become Ready. A late store error of the issuing context that is due
first, or no interrupt due, leaves the entry for later; so does a fault of the instruction at the boundary, and between two words of a
multi-word instruction the instruction itself stops for the interrupt (R204). A core in Hold takes none: it begins to return to Run
where a context becomes Ready (R616, R623). -/
def execInterruptEntry (core : BitVec 7) (s : State) : Host.Outcome State Fault Refusal :=
  let n := core.toNat
  if (coreAt s n).midway.isSome ∨ boundaryFault s n = true then done s
  else if coreWakes s n = true ∧ lateDue s n = false then
    if (dom s (domKey (n / 16) (n % 16))).st = .hold then done (wakeCore (wakeContexts s n) n)
    else
      match interruptDue s n with
      | some (h, l, i) =>
        let s2 := takeInterrupt s n h l i
        done (if s2.safety = .mire then s2 else wakeContexts s2 n)
      | none => done (wakeContexts s n)
  else done (if clocked s = true ∧ s.safety ≠ .mire then wakeContexts s n else s)

/-- CONTEXT_SELECT (R261 to R263, R299): the selected context becomes the issuing one; a late store error of the issuing
context or an interrupt that is due comes first, and so do a fault of the instruction at the boundary and the rest of a multi-word
instruction. -/
def execContextSelect (core : BitVec 7) (s : State) : Host.Outcome State Fault Refusal :=
  let n := core.toNat
  if coreLive s n = true ∧ (coreAt s n).mstage.isNone = true ∧ (ctxAt s n (coreAt s n).cur).div.isNone = true ∧
      lateDue s n = false ∧ (interruptDue s n).isNone = true ∧ (coreAt s n).midway.isNone = true ∧ boundaryFault s n = false then
    let s1 := wakeContexts s n
    match selected s1 n with
    | some h => done (switchCtx s1 n h)
    | none => done s1
  else done s

/-! ## Fetch ahead -/

/-- Whether a word is a conditional transfer (R225, R233): BR, CALL, FCALL, GCALL, a JMP function, GRET or CINVOKE
with another guard than Q0; a reserved word is none of them (R164). -/
def condTransfer (w : Word) : Bool :=
  let m := majorOf w
  let t := decide (32 ≤ m ∧ m ≤ 36) || (decide (m = 4) && decide (fld w 10 0 = 25)) ||
    (decide (m = 5) && decide (fld w 10 0 = 27))
  t && !reserved w && decide (fld w 35 32 ≠ 0)

/-- The physical address of a fetch ahead: translation off, or a hit of the instruction TLB (R226, R229). -/
def aheadPa (s : State) (n va : Nat) : Option Nat :=
  if bit (rget s (corePg n) 176) 35 then
    (tlbFind (coreAt s n).itlb (va / 1024)).map (fun e => e.frame * 1024 + va % 1024)
  else some va

/-- A stored word as a fetch ahead reads it: an error is neither counted nor captured, and the write-back of a corrected one is
the only effect (R229, R230, R232). -/
def aheadRead (s : State) (a : Nat) : Option Word × State :=
  let w := mget s a
  match w.ecc with
  | .good => (some w.data, s)
  | .single => (some w.data, queueWriteback s a)
  | .double => (none, s)

/-- The word a fetch ahead reads; none marks the entry (R230). A refusal or an error is not reported. -/
def aheadWord (s : State) (n h pa : Nat) : Option Word × State :=
  let x := ctxAt s n h
  let st := stampOf s n h x.priv
  let gate := match slotOf s pa with
    | none => true
    | some slot => !masterChecks s pa || (masterCheck ((coreAt s n).set x.setB) slot pa .fetch x.priv false).isNone
  if isPage pa = false ∧ gate = true ∧ memReach s pa = .ok ∧ targetOk s st pa .fetch = true then
    aheadRead (if inBanks s pa then bookSlots s (pa / 65536) (.fetch n) 1 else s) pa
  else if isPage pa = false ∧ gate = true ∧ memReach s pa = .parity then (none, portParity s pa)
  else (none, s)

/-- The target that the target cache gives the word that waits in decode: an unconditional JR, CALLR, FCALLR or CJR (R238). -/
def aheadTarget (s : State) (n h : Nat) (e : PqEntry) : Option Nat :=
  let x := ctxAt s n h
  match e.word with
  | some w =>
    if majorOf w = 36 ∧ fld w 35 32 = 0 ∧ reserved w = false ∧ (fld w 10 0 ≤ 3 ∨ fld w 10 0 = 6) ∧ e.va = x.pcc.cursor then
      (tcLookup s n x).map (fun t => t.target)
    else none
  | none => none

/-- The queue as the next word is to be put into it, and that word's address: after the last word in order, or, behind a transfer
that waits in decode and has a target in the target cache, from that target, the words in order after the transfer being discarded
(R224, R227, R240). `start` is the next instruction to be issued. -/
def aheadNext (s : State) (n h start : Nat) : State × Nat :=
  let c := coreAt s n
  match c.pq with
  | [] => (s, start)
  | e :: rest =>
    match aheadTarget s n h e with
    | none => (s, (rest.getLast?.getD e).va + 1)
    | some t =>
      if (rest.head?.map (fun q => q.va)) = some t then (s, (rest.getLast?.getD e).va + 1)
      else (perf (setCore s n { c with pq := [e] }) n h 71 (pqWords rest), t)

/-- PREFETCH (R224 to R232, R240): the next word of the issuing context enters a free entry of the queue, also while a load holds
stage M or a division is in progress. It is not fetched past PCC's top, into a page that the instruction TLB does not hold, or past
the word after a conditional transfer that waits in decode. -/
def execPrefetch (core : BitVec 7) (s : State) : Host.Outcome State Fault Refusal :=
  let n := core.toNat
  let h := (coreAt s n).cur
  let x := ctxAt s n h
  let busy := x.div.isSome || (match (coreAt s n).mstage with | some m => !m.probe | none => false)
  if coreLive s n = false ∨ selected s n ≠ some h then done s
  else
    let p := aheadNext s n h (x.pcc.cursor + (if busy then 1 else 0))
    let c := coreAt p.1 n
    let stop := match c.pq with
      | e :: _ => (match e.word with | some w => condTransfer w | none => false)
      | [] => false
    if 4 ≤ c.pq.length ∨ (stop = true ∧ c.fetchStop = true) ∨ (capCheck x.pcc (p.2 : Int) 1 [.execute]).isOk = false then done s
    else
      match aheadPa s n p.2 with
      | none => done s
      | some pa =>
        let r := aheadWord p.1 n h pa
        done (setCore r.2 n { coreAt r.2 n with pq := c.pq ++ [{ va := p.2, word := r.1 }], fetchStop := stop })

/-! ## Memory events -/

/-- ECC_WRITEBACK (R26, R27): a corrected word is written back in a slot left unused, unless a store has cancelled it. -/
def execEccWriteback (addr : BitVec 30) (s : State) : Host.Outcome State Fault Refusal :=
  let a := addr.toNat
  if clocked s = true ∧ s.eccWb.contains a = true ∧ unitReach s a = .ok ∧ (inBanks s a = false ∨ slotFree s (a / 65536) 1 = true) then
    let s := if inBanks s a then bookSlots s (a / 65536) (.die (a / 1048576)) 1 else s
    done { mset s a { mget s a with ecc := .good } with eccWb := s.eccWb.filter (fun b => b != a) }
  else done s

/-- A remote timed request that has reached its deadline at bank b (R33): of core n's stage M, or of its oldest store. -/
def timedDue (s : State) (b n : Nat) (store : Bool) : Option Waiting :=
  if coreLive s n then
    (if store then storeWaits s n b else loadWaits s n b).filter
      (fun w => decide (w.who = .timed) && decide (w.deadline ≤ coreNow s))
  else none

/-- The timed request at its deadline that a bank serves first: its core, and whether it is a store (R32, R33). -/
def timedFirst (s : State) (b : Nat) : Option (Nat × Bool) :=
  ((coreNos s).flatMap (fun n => [(n, false), (n, true)])).foldl (fun r p =>
    match r, timedDue s b p.1 p.2 with
    | none, some _ => some p
    | some q, some w => if ((timedDue s b q.1 q.2).map (fun v => w.before v)).getD false then some p else some q
    | _, none => r) none

/-- The limit on steals allows bank b another one: at most one in 8 core cycles (R34). -/
def stealAllowed (s : State) (b : Nat) : Bool :=
  let p := kget (fun _ => (0, 0)) s.steals b
  decide (p.2 = 0) || decide (p.1 + 8 ≤ coreNow s)

/-- A timed request takes slot D: the steal is counted for the bank, and where the data port of its block has requests in both cycles,
one of them loses its cycle, which PC_MEMSTALL counts (R33, R248). -/
def stealSlot (s : State) (b : Nat) : State :=
  let p := kget (fun _ => (0, 0)) s.steals b
  perf { s with steals := kset (fun _ => (0, 0)) s.steals b (coreNow s, p.2 + 1) } b (coreAt s b).cur 69
    (if 2 ≤ (slotsNow s b).d then 1 else 0)

/-- TIMED_DEADLINE_STEAL (R33, R34): the remote timed request of a bank that has reached its deadline takes slot D and is performed;
with none at its deadline, or held back by the limit on steals, it has no effect. -/
def execTimedDeadlineSteal (bank : BitVec 7) (s : State) : Host.Outcome State Fault Refusal :=
  let b := bank.toNat
  if clocked s = true ∧ unitReach s (b * 65536) = .ok ∧ stealAllowed s b = true then
    match timedFirst s b with
    | some (n, true) => done (drainOne (stealSlot s b) n)
    | some (n, false) =>
      match (coreAt s n).mstage with
      | some m => done (returnLoad (stealSlot s b) n m (.data 0))
      | none => done s
    | none => done s
  else done s

/-! ## Invalidations and held walks -/

/-- INVALIDATION_ARRIVAL (R324): the block performs the invalidation; with no access outstanding under a matching
translation its acknowledgement leaves. -/
def execInvalidationArrival (core : BitVec 7) (post : Nat) (s : State) : Host.Outcome State Fault Refusal :=
  let n := core.toNat
  match s.posts.find? (fun p => p.id == post && p.todo.contains n && clocked s) with
  | none => done s
  | some p =>
    let s1 := setCore s n ((coreAt s n).invalidate p.scope)
    if (coreAt s1 n).outstanding p.scope then done s1
    else done { s1 with posts := s1.posts.map (fun q =>
      if q.id = post then { q with todo := q.todo.filter (fun m => m != n), acking := q.acking ++ [n] } else q) }

/-- INVALIDATION_ACK (R326): an acknowledgement reaches the poster; after the last one the post is complete. -/
def execInvalidationAck (core : BitVec 7) (post : Nat) (s : State) : Host.Outcome State Fault Refusal :=
  let n := core.toNat
  let ps := s.posts.map (fun q => if q.id = post then { q with acking := q.acking.filter (fun m => m != n) } else q)
  done { s with posts := ps.filter (fun q => !(q.todo.isEmpty && q.acking.isEmpty)) }

/-- WALK_RELEASE (R339, R364): each walk held on the page repeats its L2 load when its access is next tried. -/
def execWalkRelease (vpn : BitVec 20) (s : State) : Host.Outcome State Fault Refusal :=
  done (if clocked s then releasePage s vpn.toNat else s)

/-- HOLD_LIMIT_EXPIRY (R280, R281, R299, R340): a walk held for more than 65,536 core cycles raises translation cause 8 in the issuing
context, whichever context would be selected next; that of an entry's write is a failed write, which enters Mire. -/
def execHoldLimitExpiry (core : BitVec 7) (s : State) : Host.Outcome State Fault Refusal :=
  let n := core.toNat
  match atBoundary s n, (coreAt s n).held with
  | some h, some w =>
    let s1 := setCore (releaseWalk s n) n { coreAt s n with held := none }
    if w.released = true ∨ holdPassed s n w.since = false then done s
    else if w.entry then done (mireEnter s1 4 (n / 16) n)
    else done (takeTrap s1 n h { vec := 11, cause := 8, faddr := w.va, faux := walkFaux 2 w.e2a })
  | _, _ => done s

end Sys2Proof.Machine
end

