-- ==== Sys2Proof/Machine/MulDiv.lean ====
section
/-! DEFINITION. The multiplier and the divider (R173 to R182). A product in flight writes MH:ML 4 core cycles after the issue of its
multiply: by its own command (MUL_RESULT_WRITE), at the next use of MH or ML from then on, when its cycle has passed, or at an entry (R178);
a division ends by
DIV_COMPLETE, 36 core cycles after its issue. -/

namespace Sys2Proof.Machine

/-- The two words of a product. -/
def productWords (p : Int) : Word × Word := (wordOfInt (p / 2 ^ 36), wordOfInt p)

/-- MUL and MULU: the product is in flight (R174, R176, R622). -/
def mulOp (fn : Nat) (val : Word → Int) (i : Iss) (a b : BitVec 5) : Insn :=
  { raw := encR i 1 0 a.toNat b.toNat fn, kind := 0, dec := decNone, brCost := 0, body := fun n h => do
      upd (fun s =>
        let x := ctxAt s n h
        let p := productWords (val (x.wr a.toNat) * val (x.wr b.toNat))
        setCtx s n h { x with muls := x.muls ++ [{ mh := p.1, ml := p.2, due := (coreAt s n).cyc + 4 * trimScale s n }] })
      return .seq }

/-- MUL (R174). -/
def execMul (i : Iss) (a b : BitVec 5) (s : State) : Host.Outcome State Fault Refusal :=
  issue s i (mulOp 1 sval i a b)

/-- MULU (R174). -/
def execMulu (i : Iss) (a b : BitVec 5) (s : State) : Host.Outcome State Fault Refusal :=
  issue s i (mulOp 2 (fun w => (w.toNat : Int)) i a b)

/-- The oldest multiply of a context writes MH:ML at its cycle (R174, R176, R177). -/
def Ctx.mulWrite (x : Ctx) (cyc : Nat) : Ctx :=
  match x.muls with
  | [] => x
  | m :: r => if m.due ≤ cyc then { x with mh := m.mh, ml := m.ml, muls := r } else x

/-- MUL_RESULT_WRITE (R174, R176, R177): the oldest product in flight of the context, when its 4 core cycles have passed; none
in flight, no effect. -/
def execMulResultWrite (core : BitVec 7) (ctx : BitVec 2) (s : State) : Host.Outcome State Fault Refusal :=
  let n := core.toNat
  done (if clocked s then setCtx s n ctx.toNat ((ctxAt s n ctx.toNat).mulWrite (coreAt s n).cyc) else s)

/-- An instruction that reads or writes MH and ML as they stand in its cycle, after the products that are due (R174, R175). -/
def mulMove (raw : Word) (f : Ctx → Ctx) : Insn :=
  { raw := raw, kind := 0, dec := decNone, brCost := 0, body := fun n h => do
      upd (fun s => setCtx s n h (f ((ctxAt s n h).landDue (coreAt s n).cyc)))
      return .seq }

/-- MFMH (R173, R175): MH as it stands. -/
def execMfmh (i : Iss) (d : BitVec 5) (s : State) : Host.Outcome State Fault Refusal :=
  issue s i (mulMove (encR i 1 d.toNat 0 0 8) (fun x => x.setW d.toNat x.mh))

/-- MFML (R173, R175): ML as it stands. -/
def execMfml (i : Iss) (d : BitVec 5) (s : State) : Host.Outcome State Fault Refusal :=
  issue s i (mulMove (encR i 1 d.toNat 0 0 9) (fun x => x.setW d.toNat x.ml))

/-- MTM (R174, R177): MH and ML at once; a product in flight lands later. -/
def execMtm (i : Iss) (a b : BitVec 5) (s : State) : Host.Outcome State Fault Refusal :=
  issue s i (mulMove (encR i 1 0 a.toNat b.toNat 10) (fun x => { x with mh := x.wr a.toNat, ml := x.wr b.toNat }))

/-- DIV and DIVU: the arithmetic fault on a divisor of 0, else a division in progress that holds the core
(R179, R180, R181, R622). -/
def divOp (fn : Nat) (val : Word → Int) (i : Iss) (a b : BitVec 5) : Insn :=
  { raw := encR i 1 0 a.toNat b.toNat fn, kind := 0, dec := decNone, brCost := 0, body := fun n h => do
      let s ← get
      let x := ctxAt s n h
      let u := val (x.wr a.toNat)
      let v := val (x.wr b.toNat)
      if v = 0 then throw (.trap (arithFault x 2))
      upd (fun s =>
        let x := ctxAt s n h
        let due := (coreAt s n).cyc + 36 * trimScale s n
        setCtx s n h { x with div := some { dq := wordOfInt (u.tdiv v), dm := wordOfInt (u.tmod v), due := due } })
      return .hold }

/-- DIV (R179 to R181). -/
def execDiv (i : Iss) (a b : BitVec 5) (s : State) : Host.Outcome State Fault Refusal :=
  issue s i (divOp 16 sval i a b)

/-- DIVU (R179, R180). -/
def execDivu (i : Iss) (a b : BitVec 5) (s : State) : Host.Outcome State Fault Refusal :=
  issue s i (divOp 17 (fun w => (w.toNat : Int)) i a b)

/-- DIV_COMPLETE (R179): DQ and DM are written and the context goes on after the DIV, when its 36 core cycles have passed; no
division, no effect. -/
def execDivComplete (core : BitVec 7) (ctx : BitVec 2) (s : State) : Host.Outcome State Fault Refusal :=
  let n := core.toNat
  let h := ctx.toNat
  let x := ctxAt s n h
  match x.div with
  | none => done s
  | some r => done (if clocked s = true ∧ r.due ≤ (coreAt s n).cyc then setCtx s n h { x with dq := r.dq, dm := r.dm, div := none }.advance else s)

/-- MFDQ (R173). -/
def execMfdq (i : Iss) (d : BitVec 5) (s : State) : Host.Outcome State Fault Refusal :=
  issue s i (regInsn (encR i 1 d.toNat 0 0 24) (fun x => x.setW d.toNat x.dq))

/-- MFDM (R173). -/
def execMfdm (i : Iss) (d : BitVec 5) (s : State) : Host.Outcome State Fault Refusal :=
  issue s i (regInsn (encR i 1 d.toNat 0 0 25) (fun x => x.setW d.toNat x.dm))

/-- MTD (R173). -/
def execMtd (i : Iss) (a b : BitVec 5) (s : State) : Host.Outcome State Fault Refusal :=
  issue s i (regInsn (encR i 1 0 a.toNat b.toNat 26) (fun x => { x with dq := x.wr a.toNat, dm := x.wr b.toNat }))

end Sys2Proof.Machine
end

