-- ==== Sys2Proof/Machine/Multi.lean ====
section
/-! DEFINITION. The multi-word instructions STM, LDM, CMOVE and RVPROBE (R201 to R211, R129, R130, R294, R295).
Each drains the store buffer and then moves word by word at its banks and ports (notes/assumptions/14.md). -/

namespace Sys2Proof.Machine

/-- The progress record (Table 4.17); the core keeps what it held before (R210). -/
def record (n h kind done rest : Nat) : X Unit := do
  upd (fun s => setCore s n { coreAt s n with
    midway := some ((coreAt s n).midway.getD ((ctxAt s n h).rsm0, (ctxAt s n h).rsm1)) })
  modCtx n h (fun x => { x with rsm0 := fval 35 33 kind ||| fval 29 0 done, rsm1 := BitVec.ofNat 36 rest })

/-- Between two words: with an interrupt due the instruction stops with its progress recorded (R204). The word just
moved counts as issue of a handler's first instruction (R301). -/
def betweenWords (n h kind done rest : Nat) : X Unit := do
  modCtx n h (fun x => { x with fresh := false })
  let s ← get
  if (interruptDue s n).isSome then do
    record n h kind done rest
    throw .irq

/-- A word that a multi-word instruction reads: translation, gates, the wait for its source, the bank or port; a register page
refuses the form (R64). -/
def multiLoad (n h priv va : Nat) (k : Kind) : X (Word × Bool) := do
  let (pa, st) ← resolve n h va priv k
  if isPage pa then pageForm n va pa st k
  awaitSource n va pa st
  memLoad n va pa st k

/-- A word that a multi-word instruction writes. -/
def multiStore (n h priv va : Nat) (k : Kind) (data : Word) (tag : Bool) : X Unit := do
  let (pa, st) ← resolve n h va priv k
  if isPage pa then pageForm n va pa st k
  writeThrough n va pa st k data tag

/-- The words of STM and LDM in ascending order of register (R201, R204). -/
def maskWords (n h kind : Nat) (move : Nat → Nat → X Unit) (regs : List Nat) (count rest : Nat) : X Unit :=
  match regs with
  | [] => return ()
  | i :: r => do
    record n h kind count rest
    move i count
    if !r.isEmpty then betweenWords n h kind (count + 1) (rest - 2 ^ i)
    maskWords n h kind move r (count + 1) (rest - 2 ^ i)

/-- The end of a multi-word instruction: the record holds what it held (R210). -/
def restoreRecord (n h : Nat) : X Unit := upd (fun s =>
  match (coreAt s n).midway with
  | some (r0, r1) => setCtx s n h { ctxAt s n h with rsm0 := r0, rsm1 := r1 }
  | none => s)

/-- STM and LDM (R201 to R206): the whole range is checked, then the words are moved. -/
def maskBody (kind a b : Nat) (disp : Int) (n h : Nat) : X Next := do
  let s ← get
  let x := ctxAt s n h
  let c := x.cr a
  let eff := c.cursor + disp
  let (count, rest) := startAt x (fld (x.wr b) 31 0)
  let regs := maskRegs rest
  let words := count + regs.length
  match capCheck c eff words (if kind = 1 then storePerms s n eff.toNat words else [.load]) with
  | .error e => throw (.trap (capFault e.cause e.faddr a))
  | .ok _ =>
    upd (fun s => drainAll s n)
    if kind = 1 then
      maskWords n h 1 (fun i k => do
        let s ← get
        multiStore n h x.priv (eff.toNat + k) .store ((ctxAt s n h).wr i) false) regs count rest
    else
      maskWords n h 2 (fun i k => do
        let w ← multiLoad n h x.priv (eff.toNat + k) .load
        modCtx n h (fun y => y.setW i w.1)) regs count rest
    restoreRecord n h
    return .seq

/-- STM (R201 to R206). -/
def execStm (i : Iss) (a : BitVec 4) (b : BitVec 5) (disp : BitVec 11) (s : State) : Host.Outcome State Fault Refusal :=
  issue s i
    { raw := encR i 6 0 a.toNat b.toNat disp.toNat, kind := 1, dec := decNone, brCost := 0,
      body := maskBody 1 a.toNat b.toNat (simm disp) }

/-- LDM (R201 to R206). -/
def execLdm (i : Iss) (a : BitVec 4) (b : BitVec 5) (disp : BitVec 11) (s : State) : Host.Outcome State Fault Refusal :=
  issue s i
    { raw := encR i 7 0 a.toNat b.toNat disp.toNat, kind := 2, dec := decNone, brCost := 0,
      body := maskBody 2 a.toNat b.toNat (simm disp) }

/-- The next unit of a CMOVE: its first offset and its words (R204, R207). -/
def cmoveUnit (len count : Nat) (down pairs : Bool) : Nat × Nat :=
  let left := len - count
  if down then
    (if pairs ∧ left % 2 = 0 then (left - 2, 2) else (left - 1, 1))
  else
    (if pairs ∧ count % 2 = 0 ∧ count + 1 < len then (count, 2) else (count, 1))

/-- The tag a copied pair keeps (Table 3.9): the source pair's validity, a local capability only with StoreLocal. -/
def copiedTag (dst c : Cap) : Bool := c.tag && (c.has .glob || dst.has .storeLocal)

/-- Copies one unit: a pair with its tag, or one word whose tag is cleared (R204, Table 3.9). -/
def cmoveCopy (n h priv src dst words : Nat) (cd : Cap) : X Unit := do
  if words = 2 then
    let hi ← multiLoad n h priv src .capLoad
    let lo ← multiLoad n h priv (src + 1) .capLoad
    let c : Cap := { hi := hi.1, lo := lo.1, tag := hi.2 && lo.2 }
    let t ← act (fun s => filterTag s (n / 4) { c with tag := copiedTag cd c })
    multiStore n h priv dst .capStore c.hi t
    multiStore n h priv (dst + 1) .capStore c.lo t
  else
    let w ← multiLoad n h priv src .load
    multiStore n h priv dst .store w.1 false

/-- The units of a CMOVE, on fuel. -/
def cmoveLoop (n h priv s t len : Nat) (down pairs : Bool) (cd : Cap) (fuel count : Nat) : X Unit :=
  match fuel with
  | 0 => return ()
  | f + 1 =>
    if len ≤ count then return ()
    else do
      let u := cmoveUnit len count down pairs
      record n h 3 count 0
      cmoveCopy n h priv (s + u.1) (t + u.1) u.2 cd
      if count + u.2 < len then betweenWords n h 3 (count + u.2) 0
      cmoveLoop n h priv s t len down pairs cd f (count + u.2)

/-- CMOVE (R202 to R204, R207). -/
def cmoveBody (d a b n h : Nat) : X Next := do
  let s ← get
  let x := ctxAt s n h
  let len := (x.wr b).toNat
  let ca := x.cr a
  let cd := x.cr d
  match capCheck ca ca.cursor len [.load] with
  | .error e => throw (.trap (capFault e.cause e.faddr a))
  | .ok _ =>
    match capCheck cd cd.cursor len (storePerms s n cd.cursor len) with
    | .error e => throw (.trap (capFault e.cause e.faddr d))
    | .ok _ =>
      let down := decide (ca.cursor < cd.cursor ∧ cd.cursor < ca.cursor + len)
      let pairs := decide (ca.cursor % 2 = 0 ∧ cd.cursor % 2 = 0) && ca.has .loadCap && cd.has .storeCap
      let count := (startAt x 0).1
      upd (fun s => drainAll s n)
      cmoveLoop n h x.priv ca.cursor cd.cursor len down pairs cd (len - count) count
      restoreRecord n h
      return .seq

/-- CMOVE (R202 to R204, R207). -/
def execCmove (i : Iss) (d a : BitVec 4) (b : BitVec 5) (s : State) : Host.Outcome State Fault Refusal :=
  issue s i
    { raw := encR i 31 d.toNat a.toNat b.toNat 0, kind := 3, dec := decNone, brCost := 0,
      body := cmoveBody d.toNat a.toNat b.toNat }

/-! ## RVPROBE -/

/-- The registers of Table 3.10: the context, and a capability register (0), a gate entry (1) or an entry of the
shadow return buffer (2), with its number. -/
def probeReg (k : Nat) : Nat × Nat × Nat :=
  if k < 284 then (k / 71, 0, 1 + k % 71)
  else
    let j := k - 284
    if j % 16 < 8 then (j / 16, 1, j % 16) else (j / 16, 2, j % 16 - 8)

/-- The capability a probe index names. -/
def Ctx.probeGet (x : Ctx) (kind i : Nat) : Cap :=
  if kind = 0 then x.cphys i
  else if kind = 1 then kget (fun _ => Cap.null) x.ge i
  else (x.srb[i]?).getD Cap.null

/-- Clears the tag of the capability a probe index names. -/
def Ctx.probeClear (x : Ctx) (kind i : Nat) : Ctx :=
  if kind = 0 then x.cphysSet i { x.cphys i with tag := false }
  else if kind = 1 then
    { x with ge := kset (fun _ => Cap.null) x.ge i { kget (fun _ => Cap.null) x.ge i with tag := false } }
  else { x with srb := x.srb.zipIdx.map (fun p => if p.2 = i then { p.1 with tag := false } else p.1) }

/-- Tests one register and clears its tag when its base is revoked (R118, R129). The bitmap is that of the sweeper of the core's own
region: R129 does not say which sweeper's, and R120 names loads, stores and copies alone (DESIGN CHOICE, notes/assumptions/79.md). -/
def probeOne (s : State) (n k : Nat) : State :=
  let (h, kind, i) := probeReg k
  let c := (ctxAt s n h).probeGet kind i
  if c.tag then
    let r := revoked s (n / 4) c.base
    if r.1 then setCtx r.2 n h ((ctxAt r.2 n h).probeClear kind i) else r.2
  else s

/-- The registers from index k on, on fuel. -/
def probeLoop (n h fuel k : Nat) : X Unit :=
  match fuel with
  | 0 => return ()
  | f + 1 => do
    upd (fun s => probeOne s n k)
    if k + 1 < 348 then betweenWords n h 4 (k + 1) 0
    probeLoop n h f (k + 1)

/-- A privilege fault of a SYS function below its level (R212). -/
def decPriv (fn level : Nat) : State → Nat → Nat → Option Trap := fun s n h =>
  let x := ctxAt s n h
  if level < x.priv then some (privFault x fn) else none

/-- RVPROBE (R129, R130): Supervisor; the 348 registers of the core in order, from the recorded index. -/
def execRvprobe (i : Iss) (s : State) : Host.Outcome State Fault Refusal :=
  issue s i
    { raw := encR i 4 0 0 0 32, kind := 4, dec := decPriv 32 1, brCost := 0,
      body := fun n h => do
        let s ← get
        let x := ctxAt s n h
        let k := (startAt x 0).1
        probeLoop n h (348 - k) k
        restoreRecord n h
        return .seq }

end Sys2Proof.Machine
end

