-- ==== Sys2Proof/Machine/System.lean ====
section
/-! DEFINITION. The SYS instructions (R154 to R160, R212, R192, R193, R263, R275 to R279, R322 to R326, R389,
R398, R667), the return from entry with its tail-chain (R254, R283 to R285), and reserved encodings (R164). -/

namespace Sys2Proof.Machine

/-- A SYS instruction that only advances after changing the State. -/
def sysInsn (raw : Word) (dec : State → Nat → Nat → Option Trap) (body : Nat → Nat → X Unit) : Insn :=
  { raw := raw, kind := 0, dec := dec, brCost := 0, body := fun n h => do
      body n h
      return .seq }

/-- NOP (R212). -/
def execNop (i : Iss) (s : State) : Host.Outcome State Fault Refusal :=
  issue s i (sysInsn (encR i 4 0 0 0 0) decNone (fun _ _ => return ()))

/-! ## Special registers (Table 4.4) -/

/-- What an access of a special register requires: none, a privilege level at most, or System. -/
inductive Need where
  | any
  | level (l : Nat)
  | system
  deriving DecidableEq, Repr

/-- The requirement on a read of a word register; none for a number that is no word register. -/
def readNeed (num : Nat) : Option Need :=
  if num ≤ 1 ∨ (5 ≤ num ∧ num ≤ 7) then some .any
  else if num ≤ 4 then some (.level 1)
  else none

/-- The requirement on a write of a word register. -/
def writeNeed (num : Nat) : Option Need :=
  if num ≤ 2 then some (.level 1) else if num ≤ 4 then some .system else none

/-- The requirement on a read of a capability register. -/
def capReadNeed (num : Nat) : Option Need :=
  if num = 8 ∨ num = 9 then some .system else if 16 ≤ num ∧ num ≤ 23 then some (.level 1) else none

/-- The requirement on a write of a capability register. -/
def capWriteNeed (num : Nat) : Option Need :=
  if num = 8 ∨ num = 9 ∨ (16 ≤ num ∧ num ≤ 23) then some .system else none

/-- System: Executive privilege and PCC holding System (R156). -/
def Ctx.hasSystem (x : Ctx) : Bool := decide (x.priv = 0) && x.pcc.has .system

/-- The faults of decode of a special-register access (R154 to R157, rank 2 of Table 6.10). -/
def decSpecial (need : Option Need) (num : Nat) (raw : Word) : State → Nat → Nat → Option Trap := fun s n h =>
  let x := ctxAt s n h
  match need with
  | none => some (illegal x raw)
  | some .any => none
  | some (.level l) => if l < x.priv then some (privFault x num) else none
  | some .system => if x.hasSystem then none else some (capFault 3 x.pcc.cursor 15)

/-- The value of a word register (Table 4.4). -/
def specialRead (s : State) (n h num : Nat) : Word :=
  let x := ctxAt s n h
  if num = 0 then pswOf s h x
  else if num = 1 then x.win
  else if num = 2 then x.mlv.setWidth 36
  else if num = 3 then x.vba
  else if num = 4 then x.ssp
  else if num = 5 then BitVec.ofNat 36 n
  else if num = 6 then BitVec.ofNat 36 (coreAt s n).cyc
  else x.cych

/-- MFS (R154, R155, R160): a read of CYCL latches the high bits. -/
def execMfs (i : Iss) (d num : BitVec 5) (s : State) : Host.Outcome State Fault Refusal :=
  let raw := encR i 4 d.toNat 0 num.toNat 1
  issue s i (sysInsn raw (decSpecial (readNeed num.toNat) num.toNat raw) (fun n h => do
    let s ← get
    let v := specialRead s n h num.toNat
    if num = 6 then
      modCtx n h (fun x => { x with cych := BitVec.ofNat 36 ((coreAt s n).cyc / 2 ^ 36) })
    modCtx n h (fun x => x.setW d.toNat v)))

/-- A write of a word register (R158, Table 4.5, Table 4.6, Table 6.2): fields marked RO stay, AOV is cleared by a
1. -/
def Ctx.specialWrite (x : Ctx) (num : Nat) (v : Word) : Ctx :=
  if num = 0 then { x with psw := if bit v 7 then setBit x.psw 7 false else x.psw }
  else if num = 1 then { x with win := setFld x.win 5 3 (fld v 5 3) }
  else if num = 2 then { x with mlv := BitVec.ofNat 4 (min (fld v 3 0) 14) }
  else if num = 3 then { x with vba := setFld v 8 0 0 }
  else { x with ssp := v }

/-- MTS (R155 to R159). -/
def execMts (i : Iss) (a num : BitVec 5) (s : State) : Host.Outcome State Fault Refusal :=
  let raw := encR i 4 0 a.toNat num.toNat 2
  issue s i (sysInsn raw (decSpecial (writeNeed num.toNat) num.toNat raw) (fun n h =>
    modCtx n h (fun x => x.specialWrite num.toNat (x.wr a.toNat))))

/-- The value of a capability register (R276, Table 4.4). -/
def Ctx.specialCap (x : Ctx) (num : Nat) : Cap :=
  if num = 8 then x.tsp else if num = 9 then x.fsp else kget (fun _ => Cap.null) x.ge (num - 16)

/-- CMFS (R154 to R156, R276). -/
def execCmfs (i : Iss) (d : BitVec 4) (num : BitVec 5) (s : State) : Host.Outcome State Fault Refusal :=
  let raw := encR i 4 d.toNat 0 num.toNat 3
  issue s i (sysInsn raw (decSpecial (capReadNeed num.toNat) num.toNat raw) (fun n h =>
    modCtx n h (fun x => x.setC d.toNat (x.specialCap num.toNat))))

/-- A pair that the core itself reads at a virtual address, at Executive privilege (R93, R279, R283). -/
def readPair (n h va : Nat) : X Cap := do
  if va % 2 = 1 then fault 4 0 va 0
  let (pa, st) ← resolve n h va 0 .capLoad
  if isPage pa then pageForm n va pa st .capLoad
  let hi ← seenLoad n va pa st .capLoad
  let lo ← seenLoad n (va + 1) (pa + 1) st .capLoad
  return { hi := hi.1, lo := lo.1, tag := hi.2 && lo.2 }

/-- A word that the core itself reads at a virtual address, at Executive privilege. -/
def readWord (n h va : Nat) : X Word := do
  let (pa, st) ← resolve n h va 0 .load
  if isPage pa then pageForm n va pa st .load
  let w ← seenLoad n va pa st .load
  return w.1

/-- The check of a new TSP (R276). -/
def tspFault (c : Cap) : Option Nat := if !c.tag then some 1 else if c.otype ≠ 58 then some 5 else none

/-- The check of a new FSP (R278). -/
def fspFault (c : Cap) : Option Nat :=
  if !c.tag then some 1
  else if c.otype ≠ 0 then some 2
  else if !(c.has .load && c.has .store && c.has .loadCap && c.has .storeCap) then some 3
  else if c.cursor % 16 ≠ 0 then some 4
  else none

/-- The write of a capability register (R276, R278, R279). -/
def cmtsBody (a num n h : Nat) : X Unit := do
  let s ← get
  let x := ctxAt s n h
  let c := x.cr a
  if num = 8 then
    match tspFault c with
    | some e => throw (.trap (capFault e x.pcc.cursor a))
    | none => modCtx n h (fun y => y.setTspOther c)
  else if num = 9 then
    match fspFault c with
    | some e => throw (.trap (capFault e x.pcc.cursor a))
    | none =>
      let hcc ← readPair n h (c.top - 4)
      let hdc ← readPair n h (c.top - 2)
      modCtx n h (fun y => { y with fsp := c, hcc := hcc, hdc := hdc })
  else modCtx n h (fun y => { y with ge := kset (fun _ => Cap.null) y.ge (num - 16) c })

/-- CMTS (R155, R156, R276, R278, R279). -/
def execCmts (i : Iss) (a : BitVec 4) (num : BitVec 5) (s : State) : Host.Outcome State Fault Refusal :=
  let raw := encR i 4 0 a.toNat num.toNat 4
  issue s i (sysInsn raw (decSpecial (capWriteNeed num.toNat) num.toNat raw) (cmtsBody a.toNat num.toNat))

/-! ## TRAP, BREAK, WAIT, the barriers -/

/-- TRAP (R212, Table 6.1): vector 16 + k, returning to the instruction after it. -/
def execTrap (i : Iss) (k : BitVec 3) (s : State) : Host.Outcome State Fault Refusal :=
  issue s i (sysInsn (encR i 4 0 0 k.toNat 8) decNone (fun n h => do
    let s ← get
    throw (.trap { vec := 16 + k.toNat, cause := k.toNat, faddr := (ctxAt s n h).pcc.cursor, faux := 0, after := true })))

/-- BREAK (R667): halts the context at the BREAK while the debug state is Halt or Full and BRKEN is 1, else enters
vector 0. -/
def execBreak (i : Iss) (s : State) : Host.Outcome State Fault Refusal :=
  issue s i
    { raw := encR i 4 0 0 0 9, kind := 0, dec := decNone, brCost := 0,
      body := fun n h => do
        let s ← get
        if 2 ≤ dbgState s ∧ bit (rget s (pkgPg 3) 16) 26 = true then do
          modCtx n h (fun x => { x with halted := true, atBreak := true })
          upd (fun s => irqPend s (pkgPg 3) 1)
          return .hold
        else fault 0 0 (ctxAt s n h).pcc.cursor 0 }

/-- WAIT (R212, R263): Supervisor; the context is Waiting at the instruction after it. -/
def execWait (i : Iss) (s : State) : Host.Outcome State Fault Refusal :=
  issue s i (sysInsn (encR i 4 0 0 0 10) (decPriv 10 1) (fun n h => modCtx n h (fun x => { x with st := .waiting })))

/-- FENCE (R192, R193): waits while a store of the context is buffered or a late error of it is due; the wait of a
handler's first instruction is its issue (R301). -/
def execFence (i : Iss) (s : State) : Host.Outcome State Fault Refusal :=
  issue s i (sysInsn (encR i 4 0 0 0 16) decNone (fun n h => do
    let s ← get
    if (coreAt s n).sb.any (fun e => e.stamp.ctx.toNat == h) ∨ (ctxAt s n h).lates ≠ [] then do
      modCtx n h (fun x => { x with fresh := false })
      throw .wait))

/-- The epoch a was opened before the epoch e (R398): EPOCH counts modulo 2^16, and at most four are outstanding. -/
def epochBefore (a e : BitVec 16) : Bool := decide (a ≠ e) && decide ((e - a).toNat < 32768)

/-- GBAR (R398): Supervisor; it takes the present EPOCH, waits while the gate has an access of an earlier epoch outstanding, then
discards the queue. -/
def execGbar (i : Iss) (s : State) : Host.Outcome State Fault Refusal :=
  issue s i (sysInsn (encR i 4 0 0 0 17) (decPriv 17 1) (fun n h => do
    let s ← get
    let e := (ctxAt s n h).barrier.getD (coreAt s n).epoch
    modCtx n h (fun x => { x with barrier := some e })
    if (coreAt s n).epochs.any (fun a => epochBefore a e) then throw .wait
    upd (fun s => discardPq s n h)))

/-- SWITCH (R389, R397): Executive. -/
def execSwitch (i : Iss) (a : BitVec 4) (s : State) : Host.Outcome State Fault Refusal :=
  issue s i (sysInsn (encR i 4 0 a.toNat 0 18) (decPriv 18 0) (fun n h => do
    let s ← get
    let x := ctxAt s n h
    let c := x.cr a.toNat
    if c.tag = false then throw (.trap (capFault 1 x.pcc.cursor a.toNat))
    if c.otype ≠ 59 then throw (.trap (capFault 5 x.pcc.cursor a.toNat))
    let r := (coreAt s n).set (!x.setB)
    if r.st ≠ .ready ∨ r.imgva ≠ c.base then fault 12 6 c.base (gateFaux 0 (stampOf s n h x.priv) 0 7)
    epochHold n
    upd (fun s => discardPq (flipSets s n h) n h)))

/-! ## TLB maintenance -/

/-- Stores of the issuing context still buffered hold TLBI and TLBIA (R323). -/
def storesDone (n h : Nat) : X Unit := do
  let s ← get
  if (coreAt s n).sb.any (fun e => e.stamp.ctx.toNat == h) then throw .wait

/-- TLBI (R322, R323): Supervisor. -/
def execTlbi (i : Iss) (a : BitVec 5) (s : State) : Host.Outcome State Fault Refusal :=
  issue s i (sysInsn (encR i 4 0 a.toNat 0 40) (decPriv 40 1) (fun n h => do
    storesDone n h
    upd (fun s =>
      let w := (ctxAt s n h).wr a.toNat
      tlbInvalidate s n h (if bit w 35 then .sect (fld w 29 20) else .page (fld w 29 10)))))

/-- TLBIA (R323, R325): Supervisor. -/
def execTlbia (i : Iss) (s : State) : Host.Outcome State Fault Refusal :=
  issue s i (sysInsn (encR i 4 0 0 0 41) (decPriv 41 1) (fun n h => do
    storesDone n h
    upd (fun s => tlbInvalidate s n h .all)))

/-- TLBSYNC (R326): Supervisor; waits while an invalidation the context posted is not acknowledged. -/
def execTlbsync (i : Iss) (s : State) : Host.Outcome State Fault Refusal :=
  issue s i (sysInsn (encR i 4 0 0 0 42) (decPriv 42 1) (fun n h => do
    let s ← get
    if s.posts.any (fun p => p.poster == .core n h) then throw .wait))

/-! ## Return from entry -/

/-- Consecutive words read by the core. -/
def readWords (n h : Nat) : List Nat → X (List Word)
  | [] => return []
  | a :: r => do
    let w ← readWord n h a
    let ws ← readWords n h r
    return w :: ws

/-- The saved state of a long frame at f, or of the task-state block at t, the fault bank apart. RFE reads the frame and the block at Executive
privilege, as the entry wrote them: R283 states no privilege of its reads (DESIGN CHOICE, notes/assumptions/15.md). -/
def readSaved (n h : Nat) (long : Bool) (base : Nat) : X Saved := do
  let p := if long then base + 16 else base + 2
  let pcc ← readPair n h p
  let words ← readWords n h ((List.range 11).map (fun k => p + 2 + k))
  let c := if long then base + 30 else base + 16
  let c6 ← readPair n h c
  let c7 ← readPair n h (c + 2)
  return { pcc := pcc, words := words, c6 := c6, c7 := c7, bank := [] }

/-- A restore violation (Table 6.6). -/
def restoreFault (x : Ctx) (cause : Nat) : Trap := { vec := 2, cause := cause, faddr := x.fsp.cursor, faux := 0 }

/-- The checks of RFE before it restores anything, in the order of R283: the frame and its size, the task-state pointer, and of the
saved state its privilege, the ceiling and the compartment; then the reads of its commit: RADJ and the fault bank. -/
def rfeCheck (n h : Nat) (x : Ctx) : X (Bool × Word × Saved) := do
  if x.fb = false then throw (.trap (flowFault x 6 0))
  let f := x.fsp.cursor
  let c ← readPair n h f
  if c.tag = false ∨ c.otype ≠ 60 ∨ c.base ≠ f ∨ c.cursor / 4 * 4 ≠ f then throw (.trap (restoreFault x 1))
  let info ← readWord n h (f + 2)
  let long := bit info 23
  if !long ∧ (x.tsp.tag = false ∨ x.tsp.otype ≠ 58) then throw (.trap (restoreFault x 4))
  let ceil := if long then c.cursor % 4 else x.tsp.cursor % 4
  let st ← readSaved n h long (if long then f else x.tsbBase)
  let psw := st.word 0
  if fld psw 1 0 = 3 then throw (.trap (restoreFault x 3))
  if fld psw 1 0 < ceil then throw (.trap (restoreFault x 2))
  if fld psw 29 22 ≠ x.comp then throw (.trap (restoreFault x 5))
  let radj ← readWord n h (f + 5)
  let bank ← if long then readWords n h ((List.range 24).map (fun k => f + 34 + k)) else pure []
  return (long, radj, { st with bank := bank })

/-- The interrupt that an RFE chains to: pending for the context above the level it would restore, and the context
would be selected at that level (R254, R269). -/
def chainDue (s : State) (n h : Nat) (mlv : BitVec 4) : Option (Nat × Nat) :=
  let s1 := setCtx s n h { ctxAt s n h with mlv := mlv }
  match lineFor s1 n h with
  | some (l, i) => if selectWith s1 n (fun k => if k = h then some l else woken s1 n k) = some h then some (l, i) else none
  | none => none

/-- The tail-chain (R254, R259, R285): the top frame's FINFO, FADDR, FAUX and FCYC are rewritten and the next handler entered at
Executive privilege; IRQLAT shows its 4 cycles (notes/assumptions/16.md). A write of the frame that fails is a precise fault of
the RFE: R280 gives Mire for the writes of an entry and the spec is silent on these (DESIGN CHOICE, notes/assumptions/76.md). -/
def tailChain (n h : Nat) (x : Ctx) (long : Bool) (comp level line : Nat) : X Unit := do
  let s ← get
  let f := x.fsp.cursor
  let r := route s n line
  let v := 24 + line
  let ws : List (Nat × Word × Bool) :=
    [(f + 2, finfo v v h comp 0 long false, false), (f + 3, 0, false),
     (f + 4, fval 17 14 (fld r 17 14) ||| fval 13 3 (fld r 13 3), false),
     (f + 6, BitVec.ofNat 36 (coreAt s n).cyc, false)]
  upd (fun s => drainAll s n)
  ws.forM (entryWrite n h)
  upd (fun s => rset s (corePg n) 74 (fval 11 0 (4 * trimScale s n)))
  modCtx n h (fun y =>
    { (y.cphysSet 6 y.hdc).cphysSet 7 (mkCap handlerPerm 0 f (if long then 64 else 16) f) with
      mlv := BitVec.ofNat 4 level, psw := setFld y.psw 1 0 0, pcc := y.hcc.retarget (y.vba.toNat + 8 * v) })

/-- RFE (R254, R283 to R285). -/
def rfeBody (n h : Nat) : X Next := do
  let s ← get
  let x := ctxAt s n h
  let (long, radj, v) ← rfeCheck n h x
  let s ← get
  match chainDue s n h ((v.word 2).setWidth 4) with
  | some (l, i) =>
    tailChain n h x long (fld (v.word 0) 29 22) l i
    upd (fun s => discardPq s n h)
    return .chain
  | none =>
    if !long then
      upd (fun s => drainAll s n)
      entryWrite n h (x.tsbBase + 15, 0, false)
    modCtx n h (fun y => (y.landDue (coreAt s n).cyc).restored long radj v)
    upd (fun s => discardPq s n h)
    return .jump

/-- RFE (R212, R283): Supervisor. -/
def execRfe (i : Iss) (s : State) : Host.Outcome State Fault Refusal :=
  issue s i { raw := encR i 4 0 0 0 24, kind := 0, dec := decPriv 24 1, brCost := 0, body := rfeBody }

/-! ## Reserved encodings -/

/-- RESERVED_ENCODING (R164): the illegal-instruction fault whatever the guard; a word that is no reserved encoding
is not this event and has no effect. -/
def execReservedEncoding (core : BitVec 7) (word : Word) (s : State) : Host.Outcome State Fault Refusal :=
  if reserved word then
    issue s { core := core, q := BitVec.ofNat 3 (fld word 35 33), neg := bit word 32 }
      { raw := word, kind := 0, dec := fun s n h => some (illegal (ctxAt s n h) word), brCost := 0,
        body := fun _ _ => return .seq }
  else done s

end Sys2Proof.Machine
end

