-- ==== Sys2Proof/Machine/Boundary.lean ====
section
/-! DEFINITION. The boundary register of the test access port (R646, R680 to R682, R697): the balls that have cells, their order, what
they drive and what a capture takes. -/

namespace Sys2Proof.Machine

/-! ## The ball plan (R678 to R681, Tables 15.1 to 15.3) -/

/-- Rows and columns of a package's array (Table 15.1). -/
def Part.balls (p : Part) : Nat :=
  match p with
  | .tfw2 => 38
  | .tfw4 => 50
  | .tfw8 => 68
  | .tfw8x => 68

/-- The columns between the channel fields of neighbouring dies: P of R680. -/
def Part.pitch (p : Part) : Nat :=
  match p with
  | .tfw2 => 19
  | .tfw4 => 25
  | .tfw8 => 17
  | .tfw8x => 17

/-- The EMP strips of a package; TFW8 has both (R682). -/
def Part.empStrips (p : Part) : Nat :=
  match p with
  | .tfw2 => 0
  | .tfw4 => 1
  | .tfw8 => 2
  | .tfw8x => 2

/-- Row index of the first row, first column and width of the service strip (Table 15.2). -/
def Part.service (p : Part) : Nat × Nat × Nat :=
  match p with
  | .tfw2 => (31, 10, 21)
  | .tfw4 => (25, 3, 23)
  | .tfw8 => (34, 9, 54)
  | .tfw8x => (34, 9, 54)

/-- The same of the strip EMP_j. -/
def Part.empStrip (p : Part) (j : Nat) : Nat × Nat × Nat :=
  match p with
  | .tfw2 => (0, 0, 1)
  | .tfw4 => (1, 18, 7)
  | .tfw8 => if j = 0 then (29, 3, 49) else (38, 3, 49)
  | .tfw8x => if j = 0 then (29, 3, 49) else (38, 3, 49)

/-- A position of the service strip whose ball has boundary cells: not VSS, XTAL or a ball of the port itself (R697, Table 15.3). -/
def serviceCells (k : Nat) : Bool := decide (k < 3) || decide (12 ≤ k)

/-- Every ball that has boundary cells (R697). -/
def boundaryBalls (p : Part) : List Ball :=
  (List.range (96 * p.dies)).map (fun m => Ball.gd (BitVec.ofNat 10 m)) ++
  (List.range (96 * p.dies)).map (fun m => Ball.fb (BitVec.ofNat 10 m)) ++
  ((List.range (38 + 2 * p.dies)).filter serviceCells).map (fun k => Ball.service (BitVec.ofNat 6 k)) ++
  (List.range p.empStrips).flatMap (fun j => (List.range 98).map (fun k => Ball.emp (BitVec.ofNat 1 j) (BitVec.ofNat 7 k)))

/-- The channel ball with cells at a place of the array (R680). -/
def channelAt (p : Part) (row col : Nat) : Option Ball :=
  let upper := decide (row ≤ 24)
  let c := if upper then row - 1 else p.balls - row
  let e := (col - 1) / p.pitch
  let q := (col - 1) % p.pitch
  let d := (if upper then 0 else meshCols p) + e
  let m := BitVec.ofNat 10 (96 * d + 24 * (q / 4) + c)
  if e < meshCols p ∧ d < p.dies ∧ c < 24 ∧ q < 16 then
    (if q % 4 = 0 then some (.gd m) else if q % 4 = 1 then some (.fb m) else none)
  else none

/-- The position of a strip at a place of the array (R681). -/
def stripAt (o : Nat × Nat × Nat) (count row col : Nat) : Option Nat :=
  let k := (row - o.1) * o.2.2 + (col - o.2.1)
  if o.1 ≤ row ∧ o.2.1 ≤ col ∧ col < o.2.1 + o.2.2 ∧ k < count then some k else none

/-- The ball with boundary cells at a place of the array. -/
def ballAt (p : Part) (row col : Nat) : Option Ball :=
  match channelAt p row col, stripAt p.service (38 + 2 * p.dies) row col with
  | some b, _ => some b
  | none, some k => if serviceCells k then some (.service (BitVec.ofNat 6 k)) else none
  | none, none =>
    ((List.range p.empStrips).filterMap (fun j =>
      (stripAt (p.empStrip j) 98 row col).map (fun k => Ball.emp (BitVec.ofNat 1 j) (BitVec.ofNat 7 k)))).head?

/-- The balls in the order of the boundary register, from the TDI end: ascending row index, then ascending column (R697). -/
def boundaryOrder (p : Part) : List Ball :=
  (List.range p.balls).flatMap (fun r => (List.range p.balls).filterMap (fun c => ballAt p (r + 1) (c + 1)))

/-- A boundary register as the string of its cells: input, output and enable of each ball in order (R697). -/
def boundaryBits (p : Part) (x : BoundaryCells) : List Bool :=
  (boundaryOrder p).flatMap (fun b => [x.inp.contains b, x.out.contains b, x.en.contains b])

/-! ## What the balls do (R646) -/

/-- GD_m, VITAL_EN_A and VITAL_EN_B. -/
def safetyBall (b : Ball) : Bool :=
  match b with
  | .gd _ => true
  | .service k => decide (k = 16) || decide (k = 17)
  | _ => false

/-- What a ball drives under EXTEST: its output cell where its enable cell is 1; GD and VITAL_EN drive low outside Blank, whatever was
loaded (R646). Which value of an enable cell drives is the model's choice (notes/assumptions/37.md). -/
def extestDrive (s : State) (b : Ball) : Option Bool :=
  if safetyBall b && s.lcs != .blank then padOf s false
  else if s.tap.cells.en.contains b then padOf s (s.tap.cells.out.contains b) else none

/-- What ball GD_m drives; none where it is undriven. -/
def gdPin (s : State) (m : Nat) : Option Bool :=
  if s.tap.extest then extestDrive s (.gd (BitVec.ofNat 10 m)) else padOf s (gdBall s m)

/-- Whether ball VITAL_EN_A or _B toggles. -/
def venPin (s : State) (i : Nat) : Bool := !s.tap.extest && s.pins.io33 && venToggles s i

/-- What the core has at the output cell of a ball: the level of GD_m, or of a vital enable at an instant, `chance` while it toggles;
of every other output the model holds no level. -/
def coreOut (s : State) (chance : Bool) (b : Ball) : Bool :=
  match b with
  | .gd m => gdBall s m.toNat
  | .service k => if k = 16 then venToggles s 0 && chance else if k = 17 then venToggles s 1 && chance else chance
  | _ => chance

/-- What the core has at the enable cell of a ball: 1 for an output, 0 for an input, `chance` for one that is both or that the model
does not hold. -/
def coreEn (chance : Bool) (b : Ball) : Bool :=
  match b with
  | .gd _ => true
  | .fb _ => false
  | .service k =>
    if k = 16 ∨ k = 17 then true
    else if k.toNat < 16 ∨ (18 ≤ k.toNat ∧ k.toNat < 26) ∨ (38 ≤ k.toNat ∧ k.toNat % 2 = 1) then false else chance
  | _ => chance

/-- The level at a ball, as its input cell takes it: what the device drives, or what the outside applies to an input that the model
holds; `chance` for the others. -/
def ballLevel (s : State) (chance : Bool) (b : Ball) : Bool :=
  match b with
  | .gd m => (gdPin s m.toNat).getD chance
  | .fb m => (chan s m.toNat).fb
  | .service k =>
    if k = 0 then s.pins.porst else if k = 1 then s.pins.sysrst else if k = 2 then s.pins.frz
    else if k = 16 ∨ k = 17 then
      (if s.tap.extest then (extestDrive s b).getD chance else ((padOf s (coreOut s chance b)).getD chance))
    else if s.tap.extest then (extestDrive s b).getD chance else chance
  | .emp .. => if s.tap.extest then (extestDrive s b).getD chance else chance

/-- A capture of the boundary register (R644, R697, IEEE 1149.1): every cell takes its level; a level that the model does not hold is a
free value (notes/assumptions/4.md, notes/assumptions/37.md). -/
def captureCells (s : State) : State :=
  let bs := (boundaryBalls s.part).zipIdx
  let chance := fun (j : Nat) => (Config.freeValue 1 (s.fresh + j)).getLsbD 0
  let take := fun (f : Ball → Nat → Bool) => (bs.filter (fun b => f b.1 (3 * b.2))).map (fun b => b.1)
  { s with
    fresh := s.fresh + 3 * bs.length
    tap := { s.tap with seen := {
      inp := take (fun b j => ballLevel s (chance j) b)
      out := take (fun b j => coreOut s (chance (j + 1)) b)
      en := take (fun b j => coreEn (chance (j + 2)) b) } } }

end Sys2Proof.Machine
end

