-- ==== Sys2Proof/Machine/TapOps.lean ====
section
/-! DEFINITION. The test access port (R644 to R646), freeze and its read-out (R647 to R655, Table 14.3), and the debug master
(R659 to R662). -/

namespace Sys2Proof.Machine

/-! ## Freeze -/

/-- What the freezing edge keeps (R651). -/
def freezeOf (s : State) : Freeze :=
  { safety := s.safety, lcs := s.lcs, dbg := dbgState s
    resume := (s.safety == .boot || s.safety == .proof) && decide (dbgState s = 3) }

/-- External memory in service enters self-refresh, or leaves it (R648, Table 14.2). -/
def empsRefresh (s : State) (on : Bool) : State :=
  (List.range s.part.emps).foldl (fun s i =>
    if (emp s i).trained && (dom s (512 + i)).st != .retain then setEmp s i { emp s i with selfref := on } else s) s

/-- The edge freezes the device (R647); one already frozen stays so. -/
def freezeNow (s : State) : State :=
  if s.frozen.isSome ∨ s.pins.porHeld = true ∨ s.pins.sysHeld = true then s
  else empsRefresh { s with frozen := some (freezeOf s) } true

/-- FRZ_N_FALL (R647): a fall that lasts less than 20 ns is none. -/
def execFrzNFall (long : Bool) (s : State) : Host.Outcome State Fault Refusal :=
  done (if long && s.pins.frz then freezeNow { s with pins := { s.pins with frz := false } } else s)

/-- Every die bridge and every Causeway link that is Up retrains (R652). -/
def retrainAll (s : State) : State :=
  let keys := (List.range 32).map (fun j => 512 + j)
  let s1 := keys.foldl (fun s k =>
    if linkExists s.part k && (linkAt s k).st == .up && decide (k < reverseKey s.part k) then startRetrain s k false else s) s
  (List.range s.part.ports).foldl (fun s i => if cwyState s i = .up then startRetrain s (544 + i) false else s) s1

/-- A reference after a freeze (R652). -/
def refThaw (s : State) (i : Nat) : State :=
  let src := refSrc s i
  let tracked := src = 1 ∨ src = 2
  let r := ref s i
  if r.st = .locked ∧ (tracked ∨ (src = 4 ∧ ttRole s = 2)) then refTo s i .holdover
  else if r.st = .acquire ∧ tracked then setRef s i { r with periods := [], lastCross := none }
  else s

/-- FRZINFO after a resumed freeze. -/
def frzInfo (s : State) (f : Freeze) : State :=
  let w := rget s frzPg 24
  rset (evPut s frzPg 24 (fval 35 35 1)) frzPg 24 (fval 35 35 1 ||| fval 34 32 f.safety.num ||| fval 17 0 (min 262143 (fld w 17 0 + 1)))

/-- The clocks restart (R651, R652); a gate drive that the freeze held low rises again, which is an edge of GD (R469). -/
def thaw (s : State) (f : Freeze) : State :=
  let s1 := retrainAll (empsRefresh (gdEdges { s with frozen := none }) false)
  frzInfo (refCopies ((List.range 8).foldl refThaw s1)) f

/-- FRZ_N_RELEASE (R651, R652). -/
def execFrzNRelease (s : State) : Host.Outcome State Fault Refusal :=
  let s1 := { s with pins := { s.pins with frz := true } }
  done (match s.frozen with
    | some f => if f.resume && !s.pins.frz then thaw s1 f else s1
    | none => s1)

/-! ## Instructions of the port (Table 14.1) -/

/-- The instruction of a code: one that is not listed acts as BYPASS. -/
def tapInstr (code : BitVec 8) : BitVec 8 :=
  if [0, 1, 2, 128, 129, 130].contains code.toNat then code else 255

/-- A scan of the boundary register: what it captures, and what it leaves in the cells (R644, IEEE 1149.1). -/
def tapScan (s : State) (x : BoundaryCells) : State :=
  let s1 := captureCells s
  { s1 with tap := { s1.tap with cells := x } }

/-- TAP_IR_UPDATE (R644, R646): an instruction is loaded. SAMPLE/PRELOAD captures the levels of the balls and loads the cells, while
the balls stay as the device drives them; under EXTEST the balls drive what the cells hold. -/
def execTapIrUpdate (load : TapLoad) (s : State) : Host.Outcome State Fault Refusal :=
  let s1 := { s with tap := { s.tap with ir := tapInstr load.code, extest := decide (load.code = 0) } }
  done (if load.code = 1 then tapScan s1 load.cells else s1)

/-- EXTEST (R644, R646): a scan under EXTEST, which captures the levels of the balls and loads the cells that they drive. -/
def execExtest (inp out en : List Ball) (s : State) : Host.Outcome State Fault Refusal :=
  done (tapScan { s with tap := { s.tap with ir := 0, extest := true } } { inp := inp, out := out, en := en })

/-- IDCODE of a part (R645). -/
def Part.idcode (p : Part) : Nat :=
  match p with
  | .tfw2 => 0x92F02573
  | .tfw4 => 0x92F04573
  | .tfw8 => 0x92F08573
  | .tfw8x => 0x92F18573

/-- Selects an instruction other than EXTEST, and loads its data register. -/
def tapSelect (s : State) (ir : BitVec 8) (dr : BitVec 68) : State :=
  { s with tap := { s.tap with ir := ir, dr := dr, extest := false } }

/-- IDCODE (R645). -/
def execIdcode (s : State) : Host.Outcome State Fault Refusal := done (tapSelect s 2 (BitVec.ofNat 68 s.part.idcode))

/-- FRZSEL (Table 14.3). -/
def execFrzsel (v : Word) (s : State) : Host.Outcome State Fault Refusal :=
  done { tapSelect s 128 s.tap.dr with tap := { (tapSelect s 128 s.tap.dr).tap with sel := v } }

/-! ## Read-out (R653 to R655) -/

/-- A domain that is not in Retain or Off (R654). -/
def powered (s : State) (k : Nat) : Bool := (dom s k).st != .retain && (dom s k).st != .off

/-- The stamp of the debug master (R659). -/
def debugStamp (s : State) : Stamp :=
  let n := rfld s frzPg 16 35 29
  let h := rfld s frzPg 16 28 27
  { stampOf s n h 0 with cls := 2 }

/-- A token of the edge opens a slot to the read-out; everything is open in Blank (R654). -/
def readoutOpen (s : State) (f : Freeze) (slot : Option Nat) : Bool :=
  f.lcs == .blank || (decide (1 ≤ f.dbg) && (match slot with | some k => tokenSlot s k | none => false))

/-- Freeze status (Table 14.3). -/
def readoutStatus (s : State) (f : Freeze) (k : Nat) : Option (Word × Bool) :=
  match k with
  | 0 => some (fval 35 33 f.safety.num ||| fval 32 30 f.lcs.num ||| fval 29 28 f.dbg ||| fval 27 27 (bnat f.resume), false)
  | 1 => some (rget s (pkgPg 0) 68, false)
  | 2 => some (shown s (pkgPg 0) 67, false)
  | _ => none

/-- A register page word, as a load would return it. -/
def readoutPage (s : State) (f : Freeze) (a : Nat) : Option (Word × Bool) :=
  match (if a / 134217728 = 1 then pageAddr s a else .reserved) with
  | .here pg off =>
    if (unitOf s.part pg).isSome && powered s (domOfPage pg) && readoutOpen s f (slotOfPage pg)
    then some ((pageLoad s (debugStamp s) pg off).1, false) else none
  | _ => none

/-- A context register (Table 14.4). -/
def readoutReg (s : State) (f : Freeze) (n h i : Nat) : Option (Word × Bool) :=
  if n < 16 * s.part.dies ∧ powered s (domKey (n / 16) (n % 16)) = true ∧ readoutOpen s f (some n) = true
  then ctxReg s h (ctxAt s n h) i else none

/-- A word of a directory or event entry of a die, behind a page's slot. -/
def readoutTable (s : State) (f : Freeze) (d pg : Nat) (w : Word) : Option (Word × Bool) :=
  if d < s.part.dies ∧ powered s (domOfPage pg) = true ∧ readoutOpen s f (slotOfPage pg) = true then some (w, false) else none

/-- A word of an entry of Reed. -/
def evWord (e : Event) (k : Nat) : Word :=
  match k with
  | 0 => e.trig
  | 1 => e.period
  | 2 => e.ctrl
  | _ => e.arg

/-- An on-chip word and its tag; a word with a double-bit error delivers no data and no tag (R28, R29). -/
def readoutMem (s : State) (f : Freeze) (a : Nat) : Option (Word × Bool) :=
  let n := a / 65536
  if n < 16 * s.part.dies ∧ powered s (domKey (n / 16) (16 + n % 16)) = true ∧ readoutOpen s f (some n) = true ∧
    (mget s a).ecc ≠ .double then some ((mget s a).data, (mget s a).tag) else none

/-- The word that a selector names; none where OK is 0 (R654). -/
def readout (s : State) (f : Freeze) (v : Word) : Option (Word × Bool) :=
  match fld v 35 33 with
  | 0 => readoutStatus s f (fld v 1 0)
  | 1 => readoutPage s f (fld v 29 0)
  | 2 => readoutReg s f (fld v 26 20) (fld v 19 18) (fld v 8 0)
  | 3 =>
    let d := fld v 22 20
    readoutTable s f d (sedgePg d) (dirWord ((sedge s d).entry (fld v 14 2)) (fld v 1 0))
  | 4 =>
    let d := fld v 22 20
    readoutTable s f d (reedPg d) (evWord ((reed s d).entry (fld v 13 2)) (fld v 1 0))
  | 5 => readoutMem s f (fld v 29 0)
  | _ => none

/-- The selector after a capture: its index field is one more (notes/assumptions/37.md). -/
def selNext (v : Word) : Word :=
  let up := fun (hi lo : Nat) => setFld v hi lo ((fld v hi lo + 1) % 2 ^ (hi + 1 - lo))
  match fld v 35 33 with
  | 0 => up 1 0
  | 1 => up 29 0
  | 2 => up 8 0
  | 3 => up 14 2
  | 4 => up 13 2
  | 5 => up 29 0
  | _ => v

/-- FRZREAD (R653 to R655); OK is 0 while the device is not frozen. -/
def execFrzread (s : State) : Host.Outcome State Fault Refusal :=
  let r := match s.frozen with | some f => readout s f s.tap.sel | none => none
  let dr := match r with
    | some (w, t) => 2 ^ 37 + bnat t * 2 ^ 36 + w.toNat
    | none => 0
  let s1 := tapSelect s 129 (BitVec.ofNat 68 dr)
  done { s1 with tap := { s1.tap with sel := selNext s.tap.sel } }

/-! ## The debug master (R659 to R662) -/

/-- The pages that the debug master reaches in every debug state: FRZ, and CARR of die 0 (R661). -/
def debugOpen (s : State) (a : Nat) : Bool :=
  decide (a / 134217728 = 1) &&
  (match pageAddr s a with | .here pg _ => decide (pg = frzPg ∨ pg = carrPg 0) | _ => false)

/-- Whether the debug state lets an access go on to the gates (R661, R662, Table 14.7). -/
def debugState (s : State) (a : Nat) (write : Bool) : Bool :=
  if s.lcs = .blank then true
  else if debugOpen s a then
    (s.boot.phase != .holding) ||
    (!write && (match pageAddr s a with | .here pg _ => decide (pg = carrPg 0) | _ => false))
  else if write then decide (dbgState s = 3)
  else decide (1 ≤ dbgState s)

/-- The gates' answer to a debug access, with the capture of a refusal (R401, R659, R662); no gate checks an address in no slot
(R369). -/
def debugGates (s : State) (st : Stamp) (a : Nat) (k : Kind) : Bool × State :=
  if s.lcs = .blank ∨ debugOpen s a = true then (true, s)
  else
    match slotOf s a with
    | none => (true, s)
    | some slot =>
      let n := st.core.toNat
      match (if masterChecks s a then masterCheck ((coreAt s n).set st.set) slot a k 0 (tokenSlot s slot) else none) with
      | some w => (false, gateCapture s (mgatePg n) 10 a st k slot w)
      | none => if targetOk s st a k then (true, s) else (false, targetCapture s st a k)

/-- The answer of a debug access: refused, tag, word. -/
abbrev DebugAnswer := Bool × Bool × Word

/-- The access that the gates let through: a page, a page of another package, or a stored word (R64 to R66). -/
def debugAccess (s : State) (st : Stamp) (a : Nat) (write : Option Word) : DebugAnswer × State :=
  let no : DebugAnswer := (true, false, 0)
  if isPage a then
    match pageAddr s a with
    | .here pg off =>
      if portReach s pg = .ok then
        match write with
        | some v => ((false, false, 0), pageStore s st pg off v)
        | none => let r := pageLoad s st pg off; ((false, false, r.1), r.2)
      else
        match write, poweredDownRead s pg off with
        | none, some w => ((false, false, w), s)
        | _, _ => (no, reachRecord s 0 a (portReach s pg))
    | .there k =>
      if s.stack.members.getLsbD k then
        let v := Config.freeValue 37 s.fresh
        let refused := v.getLsbD 36
        ((refused, false, if refused || write.isSome then 0 else v.setWidth 36), { s with fresh := s.fresh + 1 })
      else (no, reachRecord s 0 a .unpopulated)
    | .reserved => (no, reachRecord s 0 a .unpopulated)
  else
    match memReach s a, write with
    | .ok, some v => ((false, false, 0), putFor s (.die 0) a v false)
    | .ok, none =>
      let r := readFor s (.die 0) a
      (match r.1 with | some w => (false, w.2, w.1) | none => no, r.2)
    | r, _ => (no, reachRecord s 0 a r)

/-- An access of the debug master, refused or made. -/
def debugMaster (s : State) (a : Nat) (write : Option Word) : DebugAnswer × State :=
  let st := debugStamp s
  let k := if write.isSome then Kind.dbgWrite else Kind.dbgRead
  if debugState s a write.isSome then
    let g := debugGates s st a k
    if g.1 then debugAccess g.2 st a write else ((true, false, 0), g.2)
  else ((true, false, 0), s)

/-- The store of a debug access waits for what a core's would. -/
def debugWaits (s : State) (a v : Nat) : Bool :=
  isPage a && (match pageAddr s a with
    | .here pg off => pageStoreWaits s (debugStamp s) pg off (BitVec.ofNat 36 v)
    | _ => false)

/-- DBGACC (R659 to R662): none while the device is frozen or held in reset, or without the IORING domain of die 0. -/
def execDbgacc (dr : BitVec 68) (s : State) : Host.Outcome State Fault Refusal :=
  let op := dr.toNat / 2 ^ 66
  let a := dr.toNat / 2 ^ 36 % 2 ^ 30
  let v := dr.toNat % 2 ^ 36
  let s0 := tapSelect s 130 s.tap.dr
  if clocked s = false ∨ domUp s (domKey 0 43) = false ∨ op = 0 ∨ op = 3 ∨ (op = 2 ∧ debugWaits s a v = true) then done s0
  else
    let r := debugMaster s0 a (if op = 2 then some (BitVec.ofNat 36 v) else none)
    let w := 2 ^ 67 + bnat r.1.1 * 2 ^ 66 + bnat r.1.2.1 * 2 ^ 65 + r.1.2.2.toNat
    done { r.2 with tap := { r.2.tap with dr := BitVec.ofNat 68 w } }

end Sys2Proof.Machine
end

