-- ==== Sys2Proof/Machine/TaskCommit.lean ====
section
/-! DEFINITION. The commit of a task migration (R361 to R363, R392). -/

namespace Sys2Proof.Machine

/-- The context that the destination receives (R361, R392): all that the source held, Waiting, with its own set active. -/
def Ctx.moved (x : Ctx) (b : Bool) : Ctx :=
  let y := x.landLoad.finishMuls
  let z := { y with setB := b, st := .waiting, hcc := Cap.null, hdc := Cap.null, lastLoad := none }
  (z.setTsp x.tsp).setTspOther x.tspOther

/-- The CORE page registers that move with a context: routes, PRI and GEATTR (R361, R363). -/
def moveRoutes (s : State) (t : TaskMig) : State :=
  let a := corePg t.src
  let b := corePg t.dst
  let s1 := (routesTo s t.src t.ctx).foldl (fun s i =>
    let r := rget s a (80 + i)
    rset (rset s b (80 + i) (setFld r 34 33 t.dctx)) a (80 + i) (setBit r 35 false)) s
  let s2 := rset s1 b (128 + t.dctx) (rget s1 a (128 + t.ctx))
  (List.range 8).foldl (fun s k => rset s b (136 + 8 * t.dctx + k) (rget s a (136 + 8 * t.ctx + k))) s2

/-- The handler roots of FSP, read as CMTS of FSP reads them (R279, R361). -/
def reloadRoots (n h : Nat) : X Unit := do
  let s ← get
  let c := (ctxAt s n h).fsp
  if c.tag then do
    let hcc ← readPair n h (c.top - 4)
    let hdc ← readPair n h (c.top - 2)
    modCtx n h (fun y => { y with hcc := hcc, hdc := hdc })

/-- The end of a commit: TMIGCNT counts (R363). -/
def endTask (s : State) (d : Nat) : State :=
  let s1 := setSedge s d { sedge s d with tmig := none }
  rset s1 (sedgePg d) 31 (rget s1 (sedgePg d) 31 + 1)

/-- A handler root of a task that moves lies in a held page: the commit waits, and at the hold limit the root cannot be read (R339,
R340). `s1` is the state in which it was found held. -/
def rootHeld (s s1 : State) (d n : Nat) (ended : State) : State :=
  match (coreAt s1 n).held with
  | some w => if heldTooLong s n 3 (w.va / 1024) then endTask (unitGoesOn ended n 3) d else unitWaits s n 3 (w.va / 1024)
  | none => s

/-- The commit (R361, R363). It waits while a handler root lies in a held page, as CMTS of FSP does (R339), up to the hold limit
(R340). Roots that cannot be read stay null (notes/assumptions/39.md). An invalidation that the context posted before the move stays
posted in the name of its old core and context, so that a TLBSYNC after the move does not wait for it: R326 and R361 do not say
(DESIGN CHOICE, notes/assumptions/85.md). -/
def commitTask (s : State) (d : Nat) (t : TaskMig) (b : Bool) : State :=
  let s1 := setCtx (moveRoutes s t) t.dst t.dctx ((ctxAt s t.src t.ctx).moved b)
  let s2 := setCtx s1 t.src t.ctx Ctx.init
  match (reloadRoots t.dst t.dctx) s2 with
  | .ok _ r => endTask (unitGoesOn (keepHeld s r t.dst) t.dst 3) d
  | .error .wait r => rootHeld s r d t.dst s2
  | .error _ r => endTask (unitGoesOn (setCtx (keepHeld s r t.dst) t.dst t.dctx (ctxAt s2 t.dst t.dctx)) t.dst 3) d

/-- TASK_MIGRATION_COMMIT (R360 to R363): a context that may no longer move stays where it is. -/
def execTaskMigrationCommit (die : BitVec 3) (s : State) : Host.Outcome State Fault Refusal :=
  let d := die.toNat
  done (if sedgeWorks s d then
    match (sedge s d).tmig with
    | some t =>
      match taskEligible s t.src t.ctx t.dst (!t.byCmd) && (ctxAt s t.dst t.dctx).st == .empty,
          readySetOf (coreAt s t.dst) (ctxAt s t.src t.ctx).comp with
      | true, some b => commitTask s d t b
      | _, _ => abandonTask s d
    | none => s
  else s)

end Sys2Proof.Machine
end

