-- ==== Sys2Proof/Machine/Dispatch.lean ====
section
/-! DEFINITION. The meaning of every command: one arm per constructor of Instr, each a direct call of its meaning. -/

namespace Sys2Proof.Machine

/-- The effect of a command on everything but the queue. -/
def exec (i : Instr) (s : State) : Host.Outcome State Fault Refusal :=
  match i with
  | .add iss d a b => Sys2Proof.Machine.execAdd iss d a b s
  | .sub iss d a b => Sys2Proof.Machine.execSub iss d a b s
  | .addv iss d a b => Sys2Proof.Machine.execAddv iss d a b s
  | .subv iss d a b => Sys2Proof.Machine.execSubv iss d a b s
  | .and_ iss d a b => Sys2Proof.Machine.execAnd iss d a b s
  | .or_ iss d a b => Sys2Proof.Machine.execOr iss d a b s
  | .xor_ iss d a b => Sys2Proof.Machine.execXor iss d a b s
  | .andn iss d a b => Sys2Proof.Machine.execAndn iss d a b s
  | .nor iss d a b => Sys2Proof.Machine.execNor iss d a b s
  | .shl iss d a b => Sys2Proof.Machine.execShl iss d a b s
  | .shr iss d a b => Sys2Proof.Machine.execShr iss d a b s
  | .sar iss d a b => Sys2Proof.Machine.execSar iss d a b s
  | .rol iss d a b => Sys2Proof.Machine.execRol iss d a b s
  | .min_ iss d a b => Sys2Proof.Machine.execMin iss d a b s
  | .max_ iss d a b => Sys2Proof.Machine.execMax iss d a b s
  | .minu iss d a b => Sys2Proof.Machine.execMinu iss d a b s
  | .maxu iss d a b => Sys2Proof.Machine.execMaxu iss d a b s
  | .clz iss d a => Sys2Proof.Machine.execClz iss d a s
  | .popc iss d a => Sys2Proof.Machine.execPopc iss d a s
  | .sxh iss d a => Sys2Proof.Machine.execSxh iss d a s
  | .sxn iss d a => Sys2Proof.Machine.execSxn iss d a s
  | .addi iss d a imm => Sys2Proof.Machine.execAddi iss d a imm s
  | .andi iss d a imm => Sys2Proof.Machine.execAndi iss d a imm s
  | .ori iss d a imm => Sys2Proof.Machine.execOri iss d a imm s
  | .xori iss d a imm => Sys2Proof.Machine.execXori iss d a imm s
  | .shi iss d a kind amt => Sys2Proof.Machine.execShi iss d a kind amt s
  | .lhi iss d top imm => Sys2Proof.Machine.execLhi iss d top imm s
  | .llo iss d top imm => Sys2Proof.Machine.execLlo iss d top imm s
  | .ceq iss d a b => Sys2Proof.Machine.execCeq iss d a b s
  | .cne iss d a b => Sys2Proof.Machine.execCne iss d a b s
  | .clt iss d a b => Sys2Proof.Machine.execClt iss d a b s
  | .cle iss d a b => Sys2Proof.Machine.execCle iss d a b s
  | .cltu iss d a b => Sys2Proof.Machine.execCltu iss d a b s
  | .cleu iss d a b => Sys2Proof.Machine.execCleu iss d a b s
  | .ceqi iss d a imm => Sys2Proof.Machine.execCeqi iss d a imm s
  | .cnei iss d a imm => Sys2Proof.Machine.execCnei iss d a imm s
  | .clti iss d a imm => Sys2Proof.Machine.execClti iss d a imm s
  | .cltui iss d a imm => Sys2Proof.Machine.execCltui iss d a imm s
  | .qand iss d a b => Sys2Proof.Machine.execQand iss d a b s
  | .qor iss d a b => Sys2Proof.Machine.execQor iss d a b s
  | .qxor iss d a b => Sys2Proof.Machine.execQxor iss d a b s
  | .qandn iss d a b => Sys2Proof.Machine.execQandn iss d a b s
  | .qnz iss d a => Sys2Proof.Machine.execQnz iss d a s
  | .qtow iss d => Sys2Proof.Machine.execQtow iss d s
  | .wtoq iss a => Sys2Proof.Machine.execWtoq iss a s
  | .mul iss a b => Sys2Proof.Machine.execMul iss a b s
  | .mulu iss a b => Sys2Proof.Machine.execMulu iss a b s
  | .mulResultWrite core ctx => Sys2Proof.Machine.execMulResultWrite core ctx s
  | .mfmh iss d => Sys2Proof.Machine.execMfmh iss d s
  | .mfml iss d => Sys2Proof.Machine.execMfml iss d s
  | .mtm iss a b => Sys2Proof.Machine.execMtm iss a b s
  | .div iss a b => Sys2Proof.Machine.execDiv iss a b s
  | .divu iss a b => Sys2Proof.Machine.execDivu iss a b s
  | .divComplete core ctx => Sys2Proof.Machine.execDivComplete core ctx s
  | .mfdq iss d => Sys2Proof.Machine.execMfdq iss d s
  | .mfdm iss d => Sys2Proof.Machine.execMfdm iss d s
  | .mtd iss a b => Sys2Proof.Machine.execMtd iss a b s
  | .ldw iss d a disp => Sys2Proof.Machine.execLdw iss d a disp s
  | .ldh iss d a disp sel => Sys2Proof.Machine.execLdh iss d a disp sel s
  | .ldhs iss d a disp sel => Sys2Proof.Machine.execLdhs iss d a disp sel s
  | .ldn iss d a disp sel => Sys2Proof.Machine.execLdn iss d a disp sel s
  | .ldns iss d a disp sel => Sys2Proof.Machine.execLdns iss d a disp sel s
  | .ldo iss d a disp sel => Sys2Proof.Machine.execLdo iss d a disp sel s
  | .ldpc iss d imm => Sys2Proof.Machine.execLdpc iss d imm s
  | .loadDataReturn core answer => Sys2Proof.Machine.execLoadDataReturn core answer s
  | .stw iss d a disp => Sys2Proof.Machine.execStw iss d a disp s
  | .sth iss d a disp sel => Sys2Proof.Machine.execSth iss d a disp sel s
  | .stn iss d a disp sel => Sys2Proof.Machine.execStn iss d a disp sel s
  | .sto iss d a disp sel => Sys2Proof.Machine.execSto iss d a disp sel s
  | .storeAck receipt => Sys2Proof.Machine.execStoreAck receipt s
  | .lateStoreError core => Sys2Proof.Machine.execLateStoreError core s
  | .cld iss d a disp => Sys2Proof.Machine.execCld iss d a disp s
  | .cst iss d a disp => Sys2Proof.Machine.execCst iss d a disp s
  | .cstepi iss d a imm => Sys2Proof.Machine.execCstepi iss d a imm s
  | .cmove iss d a b => Sys2Proof.Machine.execCmove iss d a b s
  | .stm iss a b disp => Sys2Proof.Machine.execStm iss a b disp s
  | .ldm iss a b disp => Sys2Proof.Machine.execLdm iss a b disp s
  | .br iss off => Sys2Proof.Machine.execBr iss off s
  | .call iss off => Sys2Proof.Machine.execCall iss off s
  | .fcall iss off => Sys2Proof.Machine.execFcall iss off s
  | .gcall iss k => Sys2Proof.Machine.execGcall iss k s
  | .jr iss a => Sys2Proof.Machine.execJr iss a s
  | .callr iss a => Sys2Proof.Machine.execCallr iss a s
  | .fcallr iss a => Sys2Proof.Machine.execFcallr iss a s
  | .ret iss => Sys2Proof.Machine.execRet iss s
  | .fret iss => Sys2Proof.Machine.execFret iss s
  | .cjr iss a => Sys2Proof.Machine.execCjr iss a s
  | .cgettag iss d a => Sys2Proof.Machine.execCgettag iss d a s
  | .cgetperm iss d a => Sys2Proof.Machine.execCgetperm iss d a s
  | .cgettype iss d a => Sys2Proof.Machine.execCgettype iss d a s
  | .cgetaddr iss d a => Sys2Proof.Machine.execCgetaddr iss d a s
  | .cgetbase iss d a => Sys2Proof.Machine.execCgetbase iss d a s
  | .cgettop iss d a => Sys2Proof.Machine.execCgettop iss d a s
  | .cgetlen iss d a => Sys2Proof.Machine.execCgetlen iss d a s
  | .cmovr iss d a => Sys2Proof.Machine.execCmovr iss d a s
  | .cclrtag iss d a => Sys2Proof.Machine.execCclrtag iss d a s
  | .cgetpcc iss d => Sys2Proof.Machine.execCgetpcc iss d s
  | .cpoint iss d a b => Sys2Proof.Machine.execCpoint iss d a b s
  | .cstep iss d a b => Sys2Proof.Machine.execCstep iss d a b s
  | .cmaskp iss d a b => Sys2Proof.Machine.execCmaskp iss d a b s
  | .cnarrow iss d a b => Sys2Proof.Machine.execCnarrow iss d a b s
  | .cnarrowx iss d a b => Sys2Proof.Machine.execCnarrowx iss d a b s
  | .cseal iss d a b => Sys2Proof.Machine.execCseal iss d a b s
  | .cunseal iss d a b => Sys2Proof.Machine.execCunseal iss d a b s
  | .csealh iss d a k => Sys2Proof.Machine.execCsealh iss d a k s
  | .cinvoke iss a b => Sys2Proof.Machine.execCinvoke iss a b s
  | .csizeup iss d a => Sys2Proof.Machine.execCsizeup iss d a s
  | .cbasemask iss d a => Sys2Proof.Machine.execCbasemask iss d a s
  | .nop iss => Sys2Proof.Machine.execNop iss s
  | .mfs iss d num => Sys2Proof.Machine.execMfs iss d num s
  | .mts iss a num => Sys2Proof.Machine.execMts iss a num s
  | .cmfs iss d num => Sys2Proof.Machine.execCmfs iss d num s
  | .cmts iss a num => Sys2Proof.Machine.execCmts iss a num s
  | .trap iss k => Sys2Proof.Machine.execTrap iss k s
  | .break_ iss => Sys2Proof.Machine.execBreak iss s
  | .wait iss => Sys2Proof.Machine.execWait iss s
  | .fence iss => Sys2Proof.Machine.execFence iss s
  | .gbar iss => Sys2Proof.Machine.execGbar iss s
  | .switch iss a => Sys2Proof.Machine.execSwitch iss a s
  | .rfe iss => Sys2Proof.Machine.execRfe iss s
  | .gret iss => Sys2Proof.Machine.execGret iss s
  | .rvprobe iss => Sys2Proof.Machine.execRvprobe iss s
  | .tlbi iss a => Sys2Proof.Machine.execTlbi iss a s
  | .tlbia iss => Sys2Proof.Machine.execTlbia iss s
  | .tlbsync iss => Sys2Proof.Machine.execTlbsync iss s
  | .interruptEntry core => Sys2Proof.Machine.execInterruptEntry core s
  | .contextSelect core => Sys2Proof.Machine.execContextSelect core s
  | .prefetch core => Sys2Proof.Machine.execPrefetch core s
  | .eccWriteback addr => Sys2Proof.Machine.execEccWriteback addr s
  | .timedDeadlineSteal bank => Sys2Proof.Machine.execTimedDeadlineSteal bank s
  | .regfileParityError core => Sys2Proof.Machine.execRegfileParityError core s
  | .regionErrorReport region cause info response => Sys2Proof.Machine.execRegionErrorReport region cause info response s
  | .heartbeatTimeout region => Sys2Proof.Machine.execHeartbeatTimeout region s
  | .crossbarGrant region output input unit => Sys2Proof.Machine.execCrossbarGrant region output input unit s
  | .unitTransmit link traffic dest => Sys2Proof.Machine.execUnitTransmit link traffic dest s
  | .unitReceive link timed seq bits => Sys2Proof.Machine.execUnitReceive link timed seq bits s
  | .creditReturn link credit => Sys2Proof.Machine.execCreditReturn link credit s
  | .nak link seq => Sys2Proof.Machine.execNak link seq s
  | .laneLockLoss link => Sys2Proof.Machine.execLaneLockLoss link s
  | .retrainExchange link => Sys2Proof.Machine.execRetrainExchange link s
  | .retrainAttemptEnd link => Sys2Proof.Machine.execRetrainAttemptEnd link s
  | .linkUp link peer => Sys2Proof.Machine.execLinkUp link peer s
  | .stackDeclare => Sys2Proof.Machine.execStackDeclare s
  | .joinRequest link peer => Sys2Proof.Machine.execJoinRequest link peer s
  | .memberRemoval pos => Sys2Proof.Machine.execMemberRemoval pos s
  | .leave => Sys2Proof.Machine.execLeave s
  | .syncPacket link time refs => Sys2Proof.Machine.execSyncPacket link time refs s
  | .syncTimeout => Sys2Proof.Machine.execSyncTimeout s
  | .roundTripMeasure link trip => Sys2Proof.Machine.execRoundTripMeasure link trip s
  | .remoteRequest st addr store value => Sys2Proof.Machine.execRemoteRequest st addr store value s
  | .featAcceptWrite pg value => Sys2Proof.Machine.execFeatAcceptWrite pg value s
  | .en pg value => Sys2Proof.Machine.execEn pg value s
  | .enabledFollows pg => Sys2Proof.Machine.execEnabledFollows pg s
  | .srst pg => Sys2Proof.Machine.execSrst pg s
  | .errFirstRelease pg => Sys2Proof.Machine.execErrFirstRelease pg s
  | .errCountClr pg => Sys2Proof.Machine.execErrCountClr pg s
  | .lk pg => Sys2Proof.Machine.execLk pg s
  | .registerWrite st addr value => Sys2Proof.Machine.execRegisterWrite st addr value s
  | .start region => Sys2Proof.Machine.execStart region s
  | .sweepPair region => Sys2Proof.Machine.execSweepPair region s
  | .sweepEnd region => Sys2Proof.Machine.execSweepEnd region s
  | .ring core => Sys2Proof.Machine.execRing core s
  | .ctxbindStart core ctx addr => Sys2Proof.Machine.execCtxbindStart core ctx addr s
  | .ctxbindStop core ctx => Sys2Proof.Machine.execCtxbindStop core ctx s
  | .flush core => Sys2Proof.Machine.execFlush core s
  | .pmctlClr core => Sys2Proof.Machine.execPmctlClr core s
  | .ttbWrite core value => Sys2Proof.Machine.execTtbWrite core value s
  | .invalidationArrival core post => Sys2Proof.Machine.execInvalidationArrival core post s
  | .invalidationAck core post => Sys2Proof.Machine.execInvalidationAck core post s
  | .walkRelease vpn => Sys2Proof.Machine.execWalkRelease vpn s
  | .holdLimitExpiry core => Sys2Proof.Machine.execHoldLimitExpiry core s
  | .register die entry comp vpn place => Sys2Proof.Machine.execRegister die entry comp vpn place s
  | .sedgeRelease die entry => Sys2Proof.Machine.execSedgeRelease die entry s
  | .move die entry place => Sys2Proof.Machine.execMove die entry place s
  | .pool die first count => Sys2Proof.Machine.execPool die first count s
  | .reclaim die first count => Sys2Proof.Machine.execReclaim die first count s
  | .tmove die source ctx place => Sys2Proof.Machine.execTmove die source ctx place s
  | .pin die entry pin => Sys2Proof.Machine.execPin die entry pin s
  | .sedgeCommandDone die => Sys2Proof.Machine.execSedgeCommandDone die s
  | .compclsWrite die c value => Sys2Proof.Machine.execCompclsWrite die c value s
  | .sedgeSrst die => Sys2Proof.Machine.execSedgeSrst die s
  | .heatReport frame die => Sys2Proof.Machine.execHeatReport frame die s
  | .heatHalving die => Sys2Proof.Machine.execHeatHalving die s
  | .heatMigrationStart die index => Sys2Proof.Machine.execHeatMigrationStart die index s
  | .migrationFrameGrant die => Sys2Proof.Machine.execMigrationFrameGrant die s
  | .migrationCopyPair die => Sys2Proof.Machine.execMigrationCopyPair die s
  | .migrationMake die => Sys2Proof.Machine.execMigrationMake die s
  | .migrationConfirm die => Sys2Proof.Machine.execMigrationConfirm die s
  | .taskMigrationStart die source ctx dest => Sys2Proof.Machine.execTaskMigrationStart die source ctx dest s
  | .taskMigrationCommit die => Sys2Proof.Machine.execTaskMigrationCommit die s
  | .heldmaxRead die => Sys2Proof.Machine.execHeldmaxRead die s
  | .frames0Read die => Sys2Proof.Machine.execFrames0Read die s
  | .rsload core set va => Sys2Proof.Machine.execRsload core set va s
  | .rsloadDone core => Sys2Proof.Machine.execRsloadDone core s
  | .rsctlClear core set => Sys2Proof.Machine.execRsctlClear core set s
  | .rsctlCommit core set => Sys2Proof.Machine.execRsctlCommit core set s
  | .rsdataWrite core value => Sys2Proof.Machine.execRsdataWrite core value s
  | .targetGateWrite gate index value => Sys2Proof.Machine.execTargetGateWrite gate index value s
  | .gatecfgWrite value => Sys2Proof.Machine.execGatecfgWrite value s
  | .crossingDetected ref seen => Sys2Proof.Machine.execCrossingDetected ref seen s
  | .crossingTimeout ref => Sys2Proof.Machine.execCrossingTimeout ref s
  | .holdmaxExpiry ref => Sys2Proof.Machine.execHoldmaxExpiry ref s
  | .refcfgWrite ref value => Sys2Proof.Machine.execRefcfgWrite ref value s
  | .syntheticLock ref => Sys2Proof.Machine.execSyntheticLock ref s
  | .phrefSrst => Sys2Proof.Machine.execPhrefSrst s
  | .ttLoRead => Sys2Proof.Machine.execTtLoRead s
  | .rateWrite value => Sys2Proof.Machine.execRateWrite value s
  | .stepHi value => Sys2Proof.Machine.execStepHi value s
  | .ttimeSrst => Sys2Proof.Machine.execTtimeSrst s
  | .ins0 st die value => Sys2Proof.Machine.execIns0 st die value s
  | .insStage st die index value => Sys2Proof.Machine.execInsStage st die index value s
  | .ins3 st die value => Sys2Proof.Machine.execIns3 st die value s
  | .cancel st die value => Sys2Proof.Machine.execCancel st die value s
  | .stagingSlotExpiry die slot => Sys2Proof.Machine.execStagingSlotExpiry die slot s
  | .pendingInsertDiscard die index => Sys2Proof.Machine.execPendingInsertDiscard die index s
  | .pendingCancelExpiry die key => Sys2Proof.Machine.execPendingCancelExpiry die key s
  | .eventDispatch die index => Sys2Proof.Machine.execEventDispatch die index s
  | .gdon die index => Sys2Proof.Machine.execGdon die index s
  | .gdoff die index => Sys2Proof.Machine.execGdoff die index s
  | .level die index => Sys2Proof.Machine.execLevel die index s
  | .burst die index => Sys2Proof.Machine.execBurst die index s
  | .burstEnd chan => Sys2Proof.Machine.execBurstEnd chan s
  | .toggle die index => Sys2Proof.Machine.execToggle die index s
  | .mark die index => Sys2Proof.Machine.execMark die index s
  | .irq die index => Sys2Proof.Machine.execIrq die index s
  | .evfifoRead die => Sys2Proof.Machine.execEvfifoRead die s
  | .evcnt0Read die => Sys2Proof.Machine.execEvcnt0Read die s
  | .sampleFrame region samples => Sys2Proof.Machine.execSampleFrame region samples s
  | .selftest region => Sys2Proof.Machine.execSelftest region s
  | .cbkEnable region => Sys2Proof.Machine.execCbkEnable region s
  | .provingCycleEnd chan => Sys2Proof.Machine.execProvingCycleEnd chan s
  | .feedbackTimeout ball => Sys2Proof.Machine.execFeedbackTimeout ball s
  | .axleSupervisionTimeout chan => Sys2Proof.Machine.execAxleSupervisionTimeout chan s
  | .chcfgWrite chan value => Sys2Proof.Machine.execChcfgWrite chan value s
  | .chctlSafe chan => Sys2Proof.Machine.execChctlSafe chan s
  | .rel chan => Sys2Proof.Machine.execRel chan s
  | .chctlGdOn chan => Sys2Proof.Machine.execChctlGdOn chan s
  | .chctlGdOff chan => Sys2Proof.Machine.execChctlGdOff chan s
  | .axevRead region => Sys2Proof.Machine.execAxevRead region s
  | .m1Read chan => Sys2Proof.Machine.execM1Read chan s
  | .chanSrst region j => Sys2Proof.Machine.execChanSrst region j s
  | .parg st region lane value => Sys2Proof.Machine.execParg st region lane value s
  | .propose st region lane value => Sys2Proof.Machine.execPropose st region lane value s
  | .safe st region lane value => Sys2Proof.Machine.execSafe st region lane value s
  | .release st region lane value => Sys2Proof.Machine.execRelease st region lane value s
  | .withdraw st region lane value => Sys2Proof.Machine.execWithdraw st region lane value s
  | .presRead st region lane => Sys2Proof.Machine.execPresRead st region lane s
  | .propSlotExpiry region lane slot => Sys2Proof.Machine.execPropSlotExpiry region lane slot s
  | .windowExpiry chan key => Sys2Proof.Machine.execWindowExpiry chan key s
  | .commitRelease chan key => Sys2Proof.Machine.execCommitRelease chan key s
  | .choldExpiry chan key => Sys2Proof.Machine.execCholdExpiry chan key s
  | .sluiceEnable region => Sys2Proof.Machine.execSluiceEnable region s
  | .laneWrite region lane value => Sys2Proof.Machine.execLaneWrite region lane value s
  | .sluiceSrst region => Sys2Proof.Machine.execSluiceSrst region s
  | .venkick st gen seq => Sys2Proof.Machine.execVenkick st gen seq s
  | .venWindowEnd gen => Sys2Proof.Machine.execVenWindowEnd gen s
  | .arm gen => Sys2Proof.Machine.execArm gen s
  | .stop gen => Sys2Proof.Machine.execStop gen s
  | .txkick port => Sys2Proof.Machine.execTxkick port s
  | .rxkick port => Sys2Proof.Machine.execRxkick port s
  | .ethFrameReceive port octets => Sys2Proof.Machine.execEthFrameReceive port octets s
  | .ethFrameTransmit port => Sys2Proof.Machine.execEthFrameTransmit port s
  | .canFrameReceive die arrival => Sys2Proof.Machine.execCanFrameReceive die arrival s
  | .canFrameTransmit die outcome => Sys2Proof.Machine.execCanFrameTransmit die outcome s
  | .canBusoffRecovery die => Sys2Proof.Machine.execCanBusoffRecovery die s
  | .flashEnable port sfdp => Sys2Proof.Machine.execFlashEnable port sfdp s
  | .copy port => Sys2Proof.Machine.execCopy port s
  | .program port => Sys2Proof.Machine.execProgram port s
  | .erase port etype => Sys2Proof.Machine.execErase port etype s
  | .flashCommandDone port octets => Sys2Proof.Machine.execFlashCommandDone port octets s
  | .empEnable port trained channel => Sys2Proof.Machine.execEmpEnable port trained channel s
  | .mr4Poll port rate => Sys2Proof.Machine.execMr4Poll port rate s
  | .scrubBurst port => Sys2Proof.Machine.execScrubBurst port s
  | .bootImageCheck setA setB rngFail => Sys2Proof.Machine.execBootImageCheck setA setB rngFail s
  | .handover facts => Sys2Proof.Machine.execHandover facts s
  | .attest st start => Sys2Proof.Machine.execAttest st start s
  | .idkey st addr => Sys2Proof.Machine.execIdkey st addr s
  | .chal st start => Sys2Proof.Machine.execChal st start s
  | .dbgresp st addr => Sys2Proof.Machine.execDbgresp st addr s
  | .dbgend st addr => Sys2Proof.Machine.execDbgend st addr s
  | .lctrans st addr => Sys2Proof.Machine.execLctrans st addr s
  | .revoke st addr => Sys2Proof.Machine.execRevoke st addr s
  | .svnadv st addr => Sys2Proof.Machine.execSvnadv st addr s
  | .provision st start => Sys2Proof.Machine.execProvision st start s
  | .carrCommandDone => Sys2Proof.Machine.execCarrCommandDone s
  | .tokenExpiry => Sys2Proof.Machine.execTokenExpiry s
  | .domRequest dom value => Sys2Proof.Machine.execDomRequest dom value s
  | .drainEnd dom => Sys2Proof.Machine.execDrainEnd dom s
  | .transitionDone dom => Sys2Proof.Machine.execTransitionDone dom s
  | .domRst dom => Sys2Proof.Machine.execDomRst dom s
  | .domRstRelease dom => Sys2Proof.Machine.execDomRstRelease dom s
  | .supplyFault => Sys2Proof.Machine.execSupplyFault s
  | .supplyRestore => Sys2Proof.Machine.execSupplyRestore s
  | .porstNAssert long => Sys2Proof.Machine.execPorstNAssert long s
  | .porstNRelease straps => Sys2Proof.Machine.execPorstNRelease straps s
  | .sysrstNAssert long => Sys2Proof.Machine.execSysrstNAssert long s
  | .sysrstNRelease => Sys2Proof.Machine.execSysrstNRelease s
  | .swrst value => Sys2Proof.Machine.execSwrst value s
  | .dierst value => Sys2Proof.Machine.execDierst value s
  | .go => Sys2Proof.Machine.execGo s
  | .proof => Sys2Proof.Machine.execProof s
  | .regrel value => Sys2Proof.Machine.execRegrel value s
  | .frzNFall long => Sys2Proof.Machine.execFrzNFall long s
  | .frzNRelease => Sys2Proof.Machine.execFrzNRelease s
  | .tapIrUpdate load => Sys2Proof.Machine.execTapIrUpdate load s
  | .extest inp out drive => Sys2Proof.Machine.execExtest inp out drive s
  | .idcode => Sys2Proof.Machine.execIdcode s
  | .frzsel value => Sys2Proof.Machine.execFrzsel value s
  | .frzread => Sys2Proof.Machine.execFrzread s
  | .dbgacc dr => Sys2Proof.Machine.execDbgacc dr s
  | .halt st core ctx => Sys2Proof.Machine.execHalt st core ctx s
  | .step st core ctx => Sys2Proof.Machine.execStep st core ctx s
  | .run st core ctx => Sys2Proof.Machine.execRun st core ctx s
  | .dbgrdataAccess st write => Sys2Proof.Machine.execDbgrdataAccess st write s
  | .reservedEncoding core word => Sys2Proof.Machine.execReservedEncoding core word s
  | .blockDmaDescriptor core desc => Sys2Proof.Machine.execBlockDmaDescriptor core desc s
  | .ethLinkChange port up => Sys2Proof.Machine.execEthLinkChange port up s
  | .dieResetRelease die => Sys2Proof.Machine.execDieResetRelease die s
  | .phaseControlEdge chan => Sys2Proof.Machine.execPhaseControlEdge chan s

end Sys2Proof.Machine
end

