-- ==== Sys2Proof/Safety.lean ====
section
/-! DEFINITION. What a safe run is, and the words the statements are written in: a core that is ready to issue an
instruction, and what an instruction that ran to the next word has left as it was. -/

namespace Sys2Proof.Machine

/-- The step answers a next state. -/
def Proceeds (s : State) : Prop := ∃ t, step s = .next t

/-- Every step from s, k of them, answers a next state. -/
def SafeRun : Nat → State → Prop
  | 0, _ => True
  | k + 1, s => ∃ t, step s = .next t ∧ SafeRun k t

/-- s with the books that t holds of what hardware did in the present fabric cycle (R17) and of the accesses that banks and ports
have granted (R31, R351): an error, an interrupt or an access adds to them beside its own effect. -/
def State.noted (s t : State) : State :=
  { s with evTick := t.evTick, events := t.events, heatCnt := t.heatCnt, heatDue := t.heatDue, slots := t.slots }

/-! ## Issue -/

/-- Context h of the core of iss can issue an instruction of its guard now: it is the issuing context (R143, R261), no late
store error is due before it (R299), no load of Proof is on its way (R214), the word is fetched without a fault (R109,
R226), no multi-word instruction is to resume (R209), and the guard holds (R162). -/
structure Ready (s : State) (iss : Iss) (h : Nat) : Prop where
  issues : issuer s iss.core.toNat = some h
  boundary : (ctxAt s iss.core.toNat h).lates = [] ∨ (ctxAt s iss.core.toNat h).fresh = true
  landed : (ctxAt s iss.core.toNat h).proofLoad = none
  fetched : ∃ s1, fetchIssue iss.core.toNat h (setCtx s iss.core.toNat h (ctxAt s iss.core.toNat h)) = .ok () s1
  whole : (ctxAt s iss.core.toNat h).rsmKind = 0
  guard : ((ctxAt s iss.core.toNat h).qr iss.q.toNat != iss.neg) = true

/-- The pages of the external memory ports, the last of the package, whose counters a corrected fetch or load moves
(Table 2.6, R578). -/
def empPage (pg : Nat) : Bool := decide (pkgPg 32 ≤ pg)

/-- t has every register page of s but the performance counters of core n, the counters of the external memory ports, and
the pending bits of FRZ, where the end of a debug step is signalled (R256, R578, R665). -/
def SameRegs (s t : State) (n : Nat) : Prop :=
  ∀ pg off, off < 512 → ¬ (pg = corePg n ∧ 65 ≤ off ∧ off ≤ 73) → empPage pg = false → ¬ (pg = pkgPg 3 ∧ off = 9) →
    rget t pg off = rget s pg off

/-- The core block n of t is that of s but for its contexts, the words `es` that have entered its store buffer, and what a fetch,
a translation or a register transfer fills: the prefetch queue, the TLBs, the wait of a walk or of a fetch, the target cache; no word
that it waited for is left, no stall, and no multi-word instruction is in progress (R210, R223). -/
def SameBlock (s t : State) (n : Nat) (es : List SbEntry) : Prop :=
  ∃ xs i d l hw q f c a, coreAt t n =
    { coreAt s n with
      ctxs := xs, itlb := i, dtlb := d, l2tlb := l, held := hw, pq := q, fetchStop := f, tc := c, fetchAt := a, arrived := none,
      stall := none, midway := none,
      sb := (coreAt s n).sb ++ es }

/-- The state t after context h of core n issued an instruction whose effect on the context is y and which sent the words `es`
to the store buffer: every other context, every word of memory, every other unit and register is as it was. -/
structure Issued (s t : State) (n h : Nat) (y : Ctx) (es : List SbEntry) : Prop where
  ctx : ∃ l, ctxAt t n h = { y with fresh := false, stepping := false, lastLoad := l, barrier := none }
  contexts : ∀ m k, ¬ (m = n ∧ k = h) → ctxAt t m k = ctxAt s m k
  blocks : ∀ m, m ≠ n → coreAt t m = coreAt s m
  block : SameBlock s t n es
  regs : SameRegs s t n
  rest : t = { s.noted t with cores := t.cores, regs := t.regs, eccWb := t.eccWb }

/-- The state t after an instruction of registers alone: its effect on the context is y, and the cursor of PCC has moved to
the next word (R101, R219). -/
def Ran (s t : State) (n h : Nat) (y : Ctx) : Prop := Issued s t n h { y with pcc := y.pcc.move (y.pcc.cursor + 1) } []

/-! ## Accesses -/

/-- The access of kind k at virtual address va is at physical address pa, without a walk: translation is off, or the first-level
TLB holds the page and its WP bit allows the access (R309, R313, R318). -/
def Translates (s : State) (n va : Nat) (k : Kind) (pa : Nat) : Prop :=
  (bit (rget s (corePg n) 176) 35 = false ∧ pa = va) ∨
  (bit (rget s (corePg n) 176) 35 = true ∧
    ∃ e, tlbFind ((coreAt s n).l1 k) (va / 1024) = some e ∧ (k.writes && e.wp) = false ∧ pa = e.frame * 1024 + va % 1024)

/-- The gates grant context h of core n an access of kind k at physical address pa at a privilege (R370, R378, R380). -/
def Granted (s : State) (n h priv pa : Nat) (k : Kind) : Prop :=
  (∀ slot, slotOf s pa = some slot → masterChecks s pa = true →
    masterCheck ((coreAt s n).set (ctxAt s n h).setB) slot pa k (stampOf s n h priv).priv.toNat false = none) ∧
  targetOk s (stampOf s n h priv) pa k = true

/-- A load of kind k at va reads the word of memory at pa, whose ECC is good or corrects (R26, R28, R183). -/
def CanLoad (s : State) (n h priv va : Nat) (k : Kind) (pa : Nat) : Prop :=
  Translates s n va k pa ∧ Granted s n h priv pa k ∧ memReach s pa = .ok ∧ (mget s pa).ecc ≠ .double

/-- A store of kind k at va writes the word of memory at pa. -/
def CanStore (s : State) (n h priv va : Nat) (k : Kind) (pa : Nat) : Prop :=
  Translates s n va k pa ∧ Granted s n h priv pa k ∧ memReach s pa = .ok

/-- The word and tag at pa as core n sees it: its own buffered stores over memory (R189, R190). -/
def seenWord (s : State) (n pa : Nat) : Word × Bool := sbMerge (coreAt s n).sb pa ((mget s pa).data, (mget s pa).tag)

/-! ## Entries to a handler -/

/-- The words of a frame: 16 of a first-level entry, 64 of one from the fault bank (R281). -/
def Ctx.frameSize (x : Ctx) : Nat := if x.fb then 64 else 16

/-- The base of the frame that an entry of the context makes (R281). -/
def Ctx.frameAt (x : Ctx) : Nat := x.fsp.cursor - x.frameSize

/-- An entry of context h of core n can write the word at a, which is at the physical address a: it is memory, the gates grant
the store at Executive privilege, and its page is no page of marked words. -/
def EntryWord (s : State) (n h a : Nat) : Prop := CanStore s n h 0 a .store a ∧ marked s a = false

/-- An entry of context h of core n on vector vec makes its frame: the vector's level is above the mask level (R272), no
condition of R280 holds, the words of the frame and of the task-state block can be written, and none of them is both. -/
structure CanEnter (s : State) (n h vec : Nat) : Prop where
  drained : (coreAt s n).sb = []
  level : 24 ≤ vec ∨ (vec ≠ 1 ∧ (ctxAt s n h).mlv.toNat < flvl s n vec)
  stack : (ctxAt s n h).fsp.tag = true ∧ (ctxAt s n h).fsp.otype = 0 ∧
    (ctxAt s n h).fsp.base + (ctxAt s n h).frameSize ≤ (ctxAt s n h).fsp.cursor
  handler : (ctxAt s n h).hcc.tag = true ∧ (ctxAt s n h).hcc.otype = 0 ∧ (ctxAt s n h).hcc.has .execute = true
  task : (ctxAt s n h).fb = false → (ctxAt s n h).tsp.tag = true ∧ (ctxAt s n h).tsp.otype = 58
  frame : ∀ a, (ctxAt s n h).frameAt ≤ a → a < (ctxAt s n h).fsp.cursor → EntryWord s n h a
  block : (ctxAt s n h).fb = false → ∀ a, (ctxAt s n h).tsbBase ≤ a → a < (ctxAt s n h).tsbBase + 32 → EntryWord s n h a
  apart : (ctxAt s n h).fb = false → (ctxAt s n h).tsbBase + 32 ≤ (ctxAt s n h).frameAt ∨
    (ctxAt s n h).fsp.cursor ≤ (ctxAt s n h).tsbBase

/-- The state t after an entry from state s (R266, R273, R274, R281): the handler's context, the frame with its sealed
capability, the vector, the cause, the compartment, the address and the auxiliary word, the saved PCC and PSW in the task-state
block or in the long frame, and no other word of memory changed. `ret` is the return address, `comp` the compartment of FINFO,
`level` the level of an interrupt line. -/
structure Entered (s t : State) (n h vec cause faddr : Nat) (faux : Word) (ret : Cap) (comp level : Nat) : Prop where
  pcc : (ctxAt t n h).pcc = (ctxAt s n h).hcc.move ((ctxAt s n h).vba.toNat + 8 * vec)
  psw : (ctxAt t n h).psw = setBit (setFld (setBit (ctxAt s n h).psw 4 true) 1 0 0) 7 false
  mlv : (ctxAt t n h).mlv = if 24 ≤ vec then BitVec.ofNat 4 level else (ctxAt s n h).mlv
  fsp : (ctxAt t n h).fsp = (ctxAt s n h).fsp.withCursor (ctxAt s n h).frameAt
  c6 : (ctxAt t n h).cr 6 = (ctxAt s n h).hdc
  c7 : (ctxAt t n h).cr 7 =
    mkCap 0xD00 0 (ctxAt s n h).frameAt (ctxAt s n h).frameSize (ctxAt s n h).frameAt
  words : ∀ i, 1 ≤ i → (ctxAt t n h).wphys i = (ctxAt s n h).wphys i
  window : (ctxAt t n h).win = (ctxAt s n h).win ∧ (ctxAt t n h).ssp = (ctxAt s n h).ssp ∧ (ctxAt t n h).q = (ctxAt s n h).q
  sealed : (mget t (ctxAt s n h).frameAt).tag = true ∧ fld (mget t (ctxAt s n h).frameAt).data 23 18 = 60
  finfo : (mget t ((ctxAt s n h).frameAt + 2)).data = finfo vec vec h comp cause (ctxAt s n h).fb false
  faddr : (mget t ((ctxAt s n h).frameAt + 3)).data = fval 29 0 faddr
  faux : (mget t ((ctxAt s n h).frameAt + 4)).data = faux
  radj : (mget t ((ctxAt s n h).frameAt + 5)).data = 0
  saved :
    let p := if (ctxAt s n h).fb then (ctxAt s n h).frameAt + 16 else (ctxAt s n h).tsbBase + 2
    mget t p = { data := ret.hi, tag := ret.tag, ecc := .good } ∧
    mget t (p + 1) = { data := ret.lo, tag := ret.tag, ecc := .good } ∧
    mget t (p + 2) = { data := pswOf s h (ctxAt s n h), tag := false, ecc := .good }
  memory : ∀ a, (a < (ctxAt s n h).frameAt ∨ (ctxAt s n h).fsp.cursor ≤ a) →
    ((ctxAt s n h).fb = true ∨ a < (ctxAt s n h).tsbBase ∨ (ctxAt s n h).tsbBase + 32 ≤ a) → mget t a = mget s a
  contexts : ∀ m k, m ≠ n → ctxAt t m k = ctxAt s m k
  state : t.safety = s.safety ∧ t.doms = s.doms

/-! ## Commands to the block -/

/-- Every register but those of `changed` (a page and an offset) is as it was. -/
def RegsKept (s t : State) (changed : Nat → Nat → Prop) : Prop :=
  ∀ pg off, off < 512 → ¬ changed pg off → rget t pg off = rget s pg off

/-- An error has been captured at a page (R79, R80): ERR_COUNT counts it, saturating; ERR_FIRST and the pending bit take it when
no first error is held, and the first error stays otherwise. -/
structure Captured (s t : State) (pg cause info : Nat) : Prop where
  count : fld (rget t pg 7) 17 0 = min 262143 (fld (rget s pg 7) 17 0 + 1)
  first : bit (rget s pg 6) 35 = false →
    rget t pg 6 = (fval 35 35 1 ||| fval 34 30 cause ||| fval 29 0 info) ∧ bit (rget t pg 9) 0 = true
  held : bit (rget s pg 6) 35 = true → rget t pg 6 = rget s pg 6

/-- The registers that a capture at a page writes. -/
def captureRegs (pg : Nat) (p off : Nat) : Prop := p = pg ∧ (off = 6 ∨ off = 7 ∨ off = 9)

/-- The channels of the part other than m are as they were. -/
def ChansKept (s t : State) (m : Nat) : Prop := ∀ k, k ≠ m → chan t k = chan s k

/-- The entries of Reed that an entry of channel m into its safe state retires: the channel's output actions (R445, R501). -/
def Event.outputOf (e : Event) (m : Nat) : Bool := e.live && decide (e.chan = m % 96) && isOutput e.action

/-- Channel m, out of its safe state in s, has entered it in t with a cause (R501, R502, Table 10.8): its outputs are those of the
mode's safe state, its output actions are retired, its windows and commits are gone, and the entry is reported. No other channel
and no memory changes. -/
structure MadeSafe (s t : State) (m cause : Nat) : Prop where
  safe : (chan t m).safe = true ∧ (chan t m).cause = cause
  outputs : chMode s m ≠ 3 → (chan t m).gd = false ∧ (chan t m).burstOn = false ∧ (chan t m).burstArm = []
  dark : chMode s m = 1 ∨ chMode s m = 4 → (chan t m).lit = false
  events : ∀ j, ((reed s (m / 96)).entry j).outputOf m = true → (reed t (m / 96)).entry j = Event.init
  eventsKept : ((reed s (m / 96)).ev.map Prod.fst).Nodup → ∀ j, ((reed s (m / 96)).entry j).outputOf m = false →
    (reed t (m / 96)).entry j = (reed s (m / 96)).entry j
  votes : (∀ w ∈ (voter t (m / 24)).wins, w.chan ≠ m) ∧ (∀ c ∈ (voter t (m / 24)).commits, c.chan ≠ m)
  report : Captured s t (sluicePg (m / 24)) 8 (32 * cause + m % 24) ∧ bit (rget t (sluicePg (m / 24)) 9) 1 = true
  others : ChansKept s t m
  regs : RegsKept s t (fun p off => (p = sluicePg (m / 24) ∧ (off = 6 ∨ off = 7 ∨ off = 9 ∨ off = 23 ∨ off = 24)) ∨
    (p = reedPg (m / 96) ∧ (off = 9 ∨ off = 20)) ∨ (p = cbkPg (m / 24) ∧ off = 9))
  rest : t.mem = s.mem ∧ t.cores = s.cores ∧ t.safety = s.safety ∧ t.refs = s.refs

end Sys2Proof.Machine
end

