-- ==== Sys2Proof/Certificates/Slice0/Obligations.lean ====
section
/-! DEFINITION. The statements about the model for the provers. Each docstring names the rules of spec/ it rests on, and says
where a statement rests on a choice of the model. -/

open Sys2Proof Sys2Proof.Machine

/-! ## The queue and the step -/

/-- A step with a command at the front of the queue runs that command on the state with the rest of the queue. -/
def Obligations.FrontCommandRuns : Prop :=
  ∀ (s : State) (c : Instr) (rest : List Instr), s.pending = c :: rest → step s = exec c { s with pending := rest }

/-- With no command waiting, one fabric cycle passes and the step answers it (the model's choice, notes/assumptions/8.md): no
word of memory, pending command or domain is changed by time alone, nor the safety run state, nor an event of Reed while every
copied reference is in the state of its source (R421). -/
def Obligations.IdleStepIsOneFabricCycle : Prop :=
  ∀ (s : State), s.pending = [] →
    ∃ t, step s = .next t ∧ t.pending = [] ∧ t.mem = s.mem ∧ t.safety = s.safety ∧ t.doms = s.doms ∧
      ((∀ i, i < 8 → refSrc s i = 4 → (ref s i).st = (ref s (rfld s phrefPg (16 + 4 * i) 19 17)).st) → t.reeds = s.reeds) ∧
      (clocked s = true → t.ticks = s.ticks + 1) ∧ (clocked s = false → t = s)

/-- Each step takes exactly the front command off the queue, whatever the command does: commands are run first in, first out, and
none is added. -/
def Obligations.EachStepTakesOneCommand : Prop :=
  ∀ (s t : State), step s = .next t → t.pending = s.pending.tail

/-- The canonical form: memory and the registers list strictly rising keys and no entry equal to what an unlisted key reads as;
the directories and pools of Sedge and the tables of Reed list each key once. -/
def Canonical (s : State) : Prop :=
  kwf memDefault s.mem = true ∧ kwf regDefault s.regs = true ∧
  (∀ d, ((sedge s d).dir.map Prod.fst).Nodup ∧ ((sedge s d).pool.map Prod.fst).Nodup ∧ ((reed s d).ev.map Prod.fst).Nodup)

/-- Every step keeps memory, the registers and the tables of Sedge and Reed in canonical form, so equal contents are equal data. -/
def Obligations.StepsKeepCanonicalForm : Prop :=
  ∀ (s t : State), Canonical s → step s = .next t → Canonical t

/-- The state after reset is in canonical form. -/
def Obligations.ResetIsCanonical : Prop := Canonical State.reset

/-- No command stops the machine: every step answers a next state. -/
def Obligations.EveryStepProceeds : Prop := ∀ (s : State), Proceeds s

/-! ## Registers of a context -/

/-- Word registers: W0 discards writes and reads 0; a write of Wk is what a read of Wk returns, and no other name of the window
changes; the global names are the same registers in every window, W8 to W31 of two windows are different registers, and the
fault bank is a third set (R144, R145, R152). -/
def Rule.WordRegisters : Prop :=
  ∀ (x : Ctx) (k : Nat) (v : Word), k < 32 →
    (∀ j, j < 32 → (x.setW k v).wr j = if j = k ∧ k ≠ 0 then v else x.wr j) ∧
    x.wr 0 = 0 ∧
    x.wIdx k = (if k < 8 then k else if x.fb then 200 + (k - 8) else 8 + (24 * x.cwp + k - 8)) ∧
    (∀ y : Ctx, 8 ≤ k → y.fb = false → x.fb = false → y.cwp ≠ x.cwp → y.w = x.w →
      ∀ j, 8 ≤ j → j < 32 → ({ y with w := (x.setW k v).w } : Ctx).wr j = y.wr j) ∧
    (x.setW k v) = { x with w := (x.setW k v).w }

/-- Capability registers: C0 ignores writes and reads null; C0 to C7 are global, C8 to C15 belong to the window alone (R105,
R146, R152). -/
def Rule.CapabilityRegisters : Prop :=
  ∀ (x : Ctx) (k : Nat) (v : Cap), k < 16 →
    (∀ j, j < 16 → (x.setC k v).cr j = if j = k ∧ k ≠ 0 then v else x.cr j) ∧
    x.cr 0 = Cap.null ∧
    x.cIdx k = (if k < 8 then k else 8 + (8 * x.cwp + k - 8)) ∧
    (x.setC k v) = { x with c := (x.setC k v).c }

/-- Predicates: Q0 reads 1 and discards writes; a write of Qk changes Qk alone (R144). -/
def Rule.PredicateRegisters : Prop :=
  ∀ (x : Ctx) (k : Nat) (v : Bool), k < 8 →
    (∀ j, j < 8 → (x.setQ k v).qr j = if j = k ∧ k ≠ 0 then v else x.qr j) ∧ x.qr 0 = true ∧
    (x.setQ k v) = { x with q := (x.setQ k v).q }

/-- The registers of a context: a register reads what was written to it last, its window's other names and the other windows stay,
and W0, C0 and Q0 read as constants and discard writes (R105, R144 to R146, R152). -/
def Obligations.RegistersReadWhatWasWritten : Prop :=
  Rule.WordRegisters ∧ Rule.CapabilityRegisters ∧ Rule.PredicateRegisters

/-! ## Integer, constant and predicate instructions -/

/-- The result of a two-operand integer instruction (Table 4.9, R167, R169, R170): every register but the destination, every flag
but AOV of ADD and SUB, every word of memory and every other context is unchanged. -/
def Rule.IntegerResults : Prop :=
  ∀ (s : State) (iss : Iss) (h : Nat) (d a b : BitVec 5), Ready s iss h →
    let n := iss.core.toNat
    let x := ctxAt s n h
    let va := x.wr a.toNat
    let vb := x.wr b.toNat
    let amount := (vb &&& 63#36).toNat
    let gives := fun (i : Instr) (y : Ctx) => ∃ t, exec i s = .next t ∧ Ran s t n h y
    let writes := fun (v : Word) => x.setW d.toNat v
    let writesAov := fun (v : Word) (o : Bool) =>
      { x.setW d.toNat v with psw := if o then x.psw ||| 128#36 else x.psw }
    gives (.add iss d a b) (writesAov (va + vb) (va.saddOverflow vb)) ∧
    gives (.sub iss d a b) (writesAov (va - vb) (va.ssubOverflow vb)) ∧
    gives (.and_ iss d a b) (writes (va &&& vb)) ∧
    gives (.or_ iss d a b) (writes (va ||| vb)) ∧
    gives (.xor_ iss d a b) (writes (va ^^^ vb)) ∧
    gives (.andn iss d a b) (writes (va &&& ~~~vb)) ∧
    gives (.nor iss d a b) (writes (~~~(va ||| vb))) ∧
    gives (.shl iss d a b) (writes (va <<< amount)) ∧
    gives (.shr iss d a b) (writes (va >>> amount)) ∧
    gives (.sar iss d a b) (writes (va.sshiftRight amount)) ∧
    gives (.rol iss d a b) (writes (va <<< (amount % 36) ||| va >>> (36 - amount % 36))) ∧
    gives (.min_ iss d a b) (writes (if va.slt vb then va else vb)) ∧
    gives (.max_ iss d a b) (writes (if va.slt vb then vb else va)) ∧
    gives (.minu iss d a b) (writes (if va.ult vb then va else vb)) ∧
    gives (.maxu iss d a b) (writes (if va.ult vb then vb else va))

/-- The results of the one-operand and immediate integer instructions (Table 4.9, R171). -/
def Rule.UnaryAndImmediateResults : Prop :=
  ∀ (s : State) (iss : Iss) (h : Nat) (d a : BitVec 5) (imm : BitVec 16) (top kind : BitVec 2) (amt : BitVec 6),
    Ready s iss h →
    let n := iss.core.toNat
    let x := ctxAt s n h
    let va := x.wr a.toNat
    let gives := fun (i : Instr) (y : Ctx) => ∃ t, exec i s = .next t ∧ Ran s t n h y
    let writes := fun (v : Word) => x.setW d.toNat v
    let sx : Word := imm.signExtend 36
    let zx : Word := imm.setWidth 36
    let k := amt.toNat
    (∃ z, z ≤ 36 ∧ (∀ j, j < z → va.getLsbD (35 - j) = false) ∧ (z < 36 → va.getLsbD (35 - z) = true) ∧
      gives (.clz iss d a) (writes (BitVec.ofNat 36 z))) ∧
    gives (.popc iss d a) (writes (BitVec.ofNat 36 ((List.range 36).filter (fun j => va.getLsbD j)).length)) ∧
    gives (.sxh iss d a) (writes ((va.setWidth 18).signExtend 36)) ∧
    gives (.sxn iss d a) (writes ((va.setWidth 9).signExtend 36)) ∧
    gives (.addi iss d a imm)
      { x.setW d.toNat (va + sx) with psw := if va.saddOverflow sx then x.psw ||| 128#36 else x.psw } ∧
    gives (.andi iss d a imm) (writes (va &&& zx)) ∧
    gives (.ori iss d a imm) (writes (va ||| zx)) ∧
    gives (.xori iss d a imm) (writes (va ^^^ zx)) ∧
    (kind = 0 → gives (.shi iss d a kind amt) (writes (va <<< k))) ∧
    (kind = 1 → gives (.shi iss d a kind amt) (writes (va >>> k))) ∧
    (kind = 2 → gives (.shi iss d a kind amt) (writes (va.sshiftRight k))) ∧
    (kind = 3 → gives (.shi iss d a kind amt) (writes (va <<< (k % 36) ||| va >>> (36 - k % 36)))) ∧
    gives (.lhi iss d top imm) (writes (((top ++ imm : BitVec 18).setWidth 36) <<< 18)) ∧
    gives (.llo iss d top imm) (writes ((x.wr d.toNat >>> 18) <<< 18 ||| (top ++ imm : BitVec 18).setWidth 36))

/-- ADDV and SUBV write the sum or difference when it is in the signed range, and leave AOV alone (R168). -/
def Rule.TrappingArithmeticInRange : Prop :=
  ∀ (s : State) (iss : Iss) (h : Nat) (d a b : BitVec 5), Ready s iss h →
    let n := iss.core.toNat
    let x := ctxAt s n h
    let va := x.wr a.toNat
    let vb := x.wr b.toNat
    (va.saddOverflow vb = false → ∃ t, exec (.addv iss d a b) s = .next t ∧ Ran s t n h (x.setW d.toNat (va + vb))) ∧
    (va.ssubOverflow vb = false → ∃ t, exec (.subv iss d a b) s = .next t ∧ Ran s t n h (x.setW d.toNat (va - vb)))

/-- The two-operand integer instructions write their result and nothing else but AOV, the trapping ones where the result is in range
(R167 to R170, Table 4.9). -/
def Obligations.IntegerInstructions : Prop :=
  Rule.IntegerResults ∧ Rule.TrappingArithmeticInRange

/-- The compare and predicate instructions write only the predicate they name, or, for QTOW, the word register (Table 4.10,
R172). -/
def Rule.CompareAndPredicateResults : Prop :=
  ∀ (s : State) (iss : Iss) (h : Nat) (d p q : BitVec 3) (w a b : BitVec 5) (imm : BitVec 16), Ready s iss h →
    let n := iss.core.toNat
    let x := ctxAt s n h
    let va := x.wr a.toNat
    let vb := x.wr b.toNat
    let sx : Word := imm.signExtend 36
    let zx : Word := imm.setWidth 36
    let vp := x.qr p.toNat
    let vq := x.qr q.toNat
    let gives := fun (i : Instr) (y : Ctx) => ∃ t, exec i s = .next t ∧ Ran s t n h y
    let sets := fun (i : Instr) (v : Bool) => gives i (x.setQ d.toNat v)
    sets (.ceq iss d a b) (va == vb) ∧ sets (.cne iss d a b) (va != vb) ∧
    sets (.clt iss d a b) (va.slt vb) ∧ sets (.cle iss d a b) (va.sle vb) ∧
    sets (.cltu iss d a b) (va.ult vb) ∧ sets (.cleu iss d a b) (va.ule vb) ∧
    sets (.ceqi iss d a imm) (va == sx) ∧ sets (.cnei iss d a imm) (va != sx) ∧
    sets (.clti iss d a imm) (va.slt sx) ∧ sets (.cltui iss d a imm) (va.ult zx) ∧
    sets (.qand iss d p q) (vp && vq) ∧ sets (.qor iss d p q) (vp || vq) ∧
    sets (.qxor iss d p q) (vp != vq) ∧ sets (.qandn iss d p q) (vp && !vq) ∧
    sets (.qnz iss d a) (va != 0) ∧
    (∃ v : Word, (∀ j, j < 36 → v.getLsbD j = (decide (j < 8) && x.qr j)) ∧ gives (.qtow iss w) (x.setW w.toNat v)) ∧
    (∃ y : Ctx, y = { x with q := y.q } ∧ (∀ j, 1 ≤ j → j < 8 → y.qr j = va.getLsbD j) ∧ gives (.wtoq iss a) y)

/-- The one-operand, immediate, compare and predicate instructions write their result alone (R171, R172, Table 4.9, Table 4.10). -/
def Obligations.ImmediateCompareAndPredicateInstructions : Prop :=
  Rule.UnaryAndImmediateResults ∧ Rule.CompareAndPredicateResults

/-! ## Multiplier and divider -/

/-- The multiplier: the product of MUL and MULU is in flight for 4 core cycles, in Trim that many times the divider, and MH:ML are
unchanged until then; MTM writes at once; MFMH and MFML read what stands in their cycle, which is what the last product that is due has written (R173 to R177,
R622). -/
def Rule.Multiplier : Prop :=
  ∀ (s : State) (iss : Iss) (h : Nat) (d a b : BitVec 5), Ready s iss h →
    let n := iss.core.toNat
    let x := ctxAt s n h
    let va := x.wr a.toNat
    let vb := x.wr b.toNat
    let gives := fun (i : Instr) (y : Ctx) => ∃ t, exec i s = .next t ∧ Ran s t n h y
    let cyc := (coreAt s n).cyc
    let y := x.landDue cyc
    (∃ m : MulState, (m.mh ++ m.ml : BitVec 72) = va.signExtend 72 * vb.signExtend 72 ∧ m.due = cyc + 4 * trimScale s n ∧
      gives (.mul iss a b) { x with muls := x.muls ++ [m] }) ∧
    (∃ m : MulState, (m.mh ++ m.ml : BitVec 72) = va.setWidth 72 * vb.setWidth 72 ∧ m.due = cyc + 4 * trimScale s n ∧
      gives (.mulu iss a b) { x with muls := x.muls ++ [m] }) ∧
    gives (.mfmh iss d) (y.setW d.toNat y.mh) ∧
    gives (.mfml iss d) (y.setW d.toNat y.ml) ∧
    gives (.mtm iss a b) { y with mh := va, ml := vb } ∧
    ((∀ m ∈ x.muls, cyc < m.due) → y = x) ∧
    (∀ m rest, x.muls = m :: rest → m.due ≤ cyc → (∀ r ∈ rest, cyc < r.due) → y = { x with mh := m.mh, ml := m.ml, muls := rest })

/-- The oldest product in flight of a context lands in MH:ML in its cycle, replacing what an MTM wrote since; the later ones stay
in flight, and nothing else changes (R174, R176, R177). -/
def Rule.ProductsLandInOrder : Prop :=
  ∀ (s : State) (core : BitVec 7) (ctx : BitVec 2) (m : MulState) (rest : List MulState),
    let n := core.toNat
    let h := ctx.toNat
    clocked s = true → (ctxAt s n h).muls = m :: rest → m.due ≤ (coreAt s n).cyc →
    ∃ t, exec (.mulResultWrite core ctx) s = .next t ∧
      ctxAt t n h = { ctxAt s n h with mh := m.mh, ml := m.ml, muls := rest } ∧
      (∀ i k, ¬ (i = n ∧ k = h) → ctxAt t i k = ctxAt s i k) ∧ t = { s with cores := t.cores }

/-- The divider: DIV and DIVU with a divisor other than 0 occupy the context with the quotient truncated toward zero and the
remainder of the dividend's sign on their way for 36 core cycles, in Trim that many times the divider, DQ and DM unchanged until
they complete; MFDQ, MFDM and MTD move them (R173, R179, R181, R622). -/
def Rule.Divider : Prop :=
  ∀ (s : State) (iss : Iss) (h : Nat) (d a b : BitVec 5), Ready s iss h →
    let n := iss.core.toNat
    let x := ctxAt s n h
    let va := x.wr a.toNat
    let vb := x.wr b.toNat
    let gives := fun (i : Instr) (y : Ctx) => ∃ t, exec i s = .next t ∧ Ran s t n h y
    (vb ≠ 0 → ∃ t, exec (.div iss a b) s = .next t ∧
      Issued s t n h { x with div := some { dq := va.sdiv vb, dm := va.srem vb, due := (coreAt s n).cyc + 36 * trimScale s n } } []) ∧
    (vb ≠ 0 → ∃ t, exec (.divu iss a b) s = .next t ∧
      Issued s t n h { x with div := some { dq := va / vb, dm := va % vb, due := (coreAt s n).cyc + 36 * trimScale s n } } []) ∧
    gives (.mfdq iss d) (x.setW d.toNat x.dq) ∧
    gives (.mfdm iss d) (x.setW d.toNat x.dm) ∧
    gives (.mtd iss a b) { x with dq := va, dm := vb }

/-- A division completes when its cycles have passed: DQ and DM are written and the context goes on after the DIV (R179). -/
def Rule.DivisionCompletes : Prop :=
  ∀ (s : State) (core : BitVec 7) (ctx : BitVec 2) (r : DivState),
    let n := core.toNat
    let h := ctx.toNat
    let x := ctxAt s n h
    clocked s = true → x.div = some r → r.due ≤ (coreAt s n).cyc → x.rsmKind = 0 →
    ∃ t, exec (.divComplete core ctx) s = .next t ∧
      ctxAt t n h = { x with dq := r.dq, dm := r.dm, div := none, pcc := x.pcc.move (x.pcc.cursor + 1) } ∧
      (∀ i k, ¬ (i = n ∧ k = h) → ctxAt t i k = ctxAt s i k) ∧ t = { s with cores := t.cores }

/-- The multiplier and the divider: a product is in flight and lands in order, a quotient and a remainder are written at the end,
and the move instructions read and write the pairs (R173 to R179). -/
def Obligations.MultiplierAndDivider : Prop :=
  Rule.Multiplier ∧ Rule.ProductsLandInOrder ∧ Rule.Divider ∧ Rule.DivisionCompletes

/-! ## Capability instructions -/

/-- The field reads, the moves and CGETPCC never fault, and write the one register they name (Table 4.16, R198, R200). -/
def Rule.CapabilityReads : Prop :=
  ∀ (s : State) (iss : Iss) (h : Nat) (d : BitVec 5) (a e : BitVec 4), Ready s iss h →
    let n := iss.core.toNat
    let x := ctxAt s n h
    let c := x.cr a.toNat
    let gives := fun (i : Instr) (y : Ctx) => ∃ t, exec i s = .next t ∧ Ran s t n h y
    let writes := fun (v : Word) => x.setW d.toNat v
    gives (.cgettag iss d a) (writes (if c.tag then 1 else 0)) ∧
    gives (.cgetperm iss d a) (writes (c.hi >>> 24)) ∧
    gives (.cgettype iss d a) (writes ((c.hi >>> 18) &&& 63#36)) ∧
    gives (.cgetaddr iss d a) (writes (c.lo &&& 0x3fffffff#36)) ∧
    gives (.cgetbase iss d a) (writes (BitVec.ofNat 36 c.bounds.1)) ∧
    gives (.cgettop iss d a) (writes (BitVec.ofNat 36 c.bounds.2)) ∧
    gives (.cgetlen iss d a) (writes (BitVec.ofNat 36 (c.bounds.2 - c.bounds.1))) ∧
    gives (.cmovr iss e a) (x.setC e.toNat c) ∧
    gives (.cclrtag iss e a) (x.setC e.toNat { c with tag := false }) ∧
    gives (.cgetpcc iss e) (x.setC e.toNat x.pcc)

/-- CPOINT, CSTEP and CSTEPI of an unsealed or untagged source move the cursor modulo 2^30 and keep the tag exactly inside the
representable region; CMASKP keeps the permissions that the mask also holds (R100, R101, R111, R199). -/
def Rule.CapabilityCursorsAndPermissions : Prop :=
  ∀ (s : State) (iss : Iss) (h : Nat) (d a : BitVec 4) (b : BitVec 5) (imm : BitVec 16), Ready s iss h →
    let n := iss.core.toNat
    let x := ctxAt s n h
    let c := x.cr a.toNat
    let w := x.wr b.toNat
    let gives := fun (i : Instr) (y : Ctx) => ∃ t, exec i s = .next t ∧ Ran s t n h y
    let inside := fun (v : Int) =>
      decide (0 ≤ v ∧ v < 2 ^ 30 ∧ (c.bounds.1 : Int) ≤ v ∧ v < c.bounds.1 + 512 * 2 ^ c.exp)
    let at_ := fun (v : Int) => x.setC d.toNat
      { hi := c.hi, lo := (c.lo &&& ~~~0x3fffffff#36) ||| BitVec.ofNat 36 (v % 2 ^ 30).toNat, tag := c.tag && inside v }
    (c.tag = false ∨ c.otype = 0) →
    gives (.cpoint iss d a b) (at_ w.toNat) ∧
    gives (.cstep iss d a b) (at_ ((c.lo.toNat % 2 ^ 30 : Nat) + w.toInt)) ∧
    gives (.cstepi iss d a imm) (at_ ((c.lo.toNat % 2 ^ 30 : Nat) + imm.toInt)) ∧
    gives (.cmaskp iss d a b)
      (x.setC d.toNat { c with hi := c.hi &&& ((w <<< 24) ||| 0xffffff#36) })

/-- CNARROW of a tagged unsealed source whose request, rounded as R102 encodes it, lies inside its bounds: the result has
exactly the encoded bounds, which hold the request, the cursor at the requested base, and the source's tag, permissions and
type; CNARROWX does the same where the request is exact (R102, R111). -/
def Rule.CapabilityNarrowing : Prop :=
  ∀ (s : State) (iss : Iss) (h : Nat) (d a : BitVec 4) (b : BitVec 5), Ready s iss h →
    let n := iss.core.toNat
    let x := ctxAt s n h
    let c := x.cr a.toNat
    let len := (x.wr b.toNat).toNat
    let rb := c.lo.toNat % 2 ^ 30
    let nb := (encodeBounds rb len).1
    let nt := (encodeBounds rb len).2
    c.tag = true → c.otype = 0 → rb + len ≤ 2 ^ 30 → c.bounds.1 ≤ nb → nt ≤ c.bounds.2 →
    ∃ r : Cap, r.tag = true ∧ r.perm = c.perm ∧ r.otype = 0 ∧ r.cursor = rb ∧ r.bounds = (nb, nt) ∧ nb ≤ rb ∧
      rb + len ≤ nt ∧
      (∃ t, exec (.cnarrow iss d a b) s = .next t ∧ Ran s t n h (x.setC d.toNat r)) ∧
      (nb = rb → nt = rb + len →
        ∃ t, exec (.cnarrowx iss d a b) s = .next t ∧ Ran s t n h (x.setC d.toNat r))

/-- The instructions that read a capability's fields, move its cursor, clear permissions, test it, and narrow its bounds (R94 to
R104, R199, Table 4.12). -/
def Obligations.CapabilityInstructions : Prop :=
  Rule.CapabilityReads ∧ Rule.CapabilityCursorsAndPermissions ∧ Rule.CapabilityNarrowing

/-- Sealing: under the checks of R112, CSEAL gives the source the type the sealing capability points at, CUNSEAL gives it type 0
and keeps Global only where both hold it, and CSEALH, at Executive privilege under a PCC with System, gives it type 56 or 59;
nothing but the destination register changes (R112). -/
def Rule.Sealing : Prop :=
  ∀ (s : State) (iss : Iss) (h : Nat) (d a b : BitVec 4) (k : BitVec 5), Ready s iss h →
    let n := iss.core.toNat
    let x := ctxAt s n h
    let c := x.cr a.toNat
    let ct := x.cr b.toNat
    let gives := fun (i : Instr) (y : Ctx) => ∃ t, exec i s = .next t ∧ Ran s t n h y
    let typed := fun (ty : Nat) => (c.hi &&& ~~~0xfc0000#36) ||| (BitVec.ofNat 36 ty <<< 18)
    (c.tag = true → ct.tag = true → c.otype = 0 → ct.otype = 0 → ct.has .seal = true →
      ct.bounds.1 ≤ ct.cursor → ct.cursor < ct.bounds.2 → 1 ≤ ct.cursor → ct.cursor ≤ 55 →
      gives (.cseal iss d a b) (x.setC d.toNat { c with hi := typed ct.cursor })) ∧
    (c.tag = true → ct.tag = true → c.otype ≠ 0 → c.otype ≤ 55 → c.otype = ct.cursor → ct.otype = 0 → ct.has .unseal = true →
      ct.bounds.1 ≤ ct.cursor → ct.cursor < ct.bounds.2 →
      gives (.cunseal iss d a b) (x.setC d.toNat
        { c with hi := if ct.has .glob then typed 0 else typed 0 &&& ~~~0x20000000#36 })) ∧
    (x.pcc.has .system = true → x.priv = 0 → c.tag = true → c.otype = 0 → (k = 24 ∨ k = 27) →
      gives (.csealh iss d a k) (x.setC d.toNat { c with hi := typed (k.toNat + 32) }))

/-- CINVOKE of a matching sealed pair: PCC becomes the first with type 0, C7 the second with type 0; no window, shadow stack word
or rule set changes (R113). -/
def Rule.Invocation : Prop :=
  ∀ (s : State) (iss : Iss) (h : Nat) (a b : BitVec 4), Ready s iss h →
    let n := iss.core.toNat
    let x := ctxAt s n h
    let cc := x.cr a.toNat
    let cd := x.cr b.toNat
    cc.tag = true → cd.tag = true → cc.otype ≠ 0 → cc.otype ≤ 55 → cc.otype = cd.otype →
    cc.has .invoke = true → cd.has .invoke = true → cc.has .execute = true → cd.has .execute = false →
    cc.bounds.1 ≤ cc.cursor → cc.cursor < cc.bounds.2 →
    ∃ t, exec (.cinvoke iss a b) s = .next t ∧
      Issued s t n h ({ x with pcc := { cc with hi := cc.hi &&& ~~~0xfc0000#36 } }.setC 7
        { cd with hi := cd.hi &&& ~~~0xfc0000#36 }) []

/-- CSIZEUP and CBASEMASK under the least exponent that fits the length; a length that no exponent fits gives some value, which
the spec does not state (R103; notes/assumptions/4.md). -/
def Rule.SizeAndMask : Prop :=
  ∀ (s : State) (iss : Iss) (h : Nat) (d a : BitVec 5), Ready s iss h →
    let n := iss.core.toNat
    let x := ctxAt s n h
    let len := (x.wr a.toNat).toNat
    let ceil := fun (e : Nat) => (len + 2 ^ e - 1) / 2 ^ e
    (∀ e, e ≤ 22 → ceil e ≤ 511 → (∀ f, f < e → 511 < ceil f) →
      (∃ t, exec (.csizeup iss d a) s = .next t ∧ Ran s t n h (x.setW d.toNat (BitVec.ofNat 36 (ceil e * 2 ^ e)))) ∧
      (∃ t, exec (.cbasemask iss d a) s = .next t ∧
        Ran s t n h (x.setW d.toNat (BitVec.ofNat 36 (2 ^ 30 - 2 ^ e))))) ∧
    (511 < ceil 22 →
      (∃ t v, exec (.csizeup iss d a) s = .next t ∧ ctxAt t n h = { x.setW d.toNat v with
        pcc := x.pcc.move (x.pcc.cursor + 1), fresh := false, stepping := false, lastLoad := none, barrier := none } ∧ t.mem = s.mem) ∧
      (∃ t v, exec (.cbasemask iss d a) s = .next t ∧ ctxAt t n h = { x.setW d.toNat v with
        pcc := x.pcc.move (x.pcc.cursor + 1), fresh := false, stepping := false, lastLoad := none, barrier := none } ∧ t.mem = s.mem))

/-- Sealing and unsealing under an authority, sealed entries and their invocation, and the two instructions of representable lengths
(R97, R112 to R117). -/
def Obligations.SealingAndInvocation : Prop :=
  Rule.Sealing ∧ Rule.Invocation ∧ Rule.SizeAndMask

/-! ## Loads and stores -/

/-- A load through a capability that passes the check of R109, at a word of the core's own bank: the register receives the word,
or its selected part zero- or sign-extended, with the core's own buffered stores over it; in Proof it receives it after the next
instruction; memory is unchanged (R109, R183 to R185, R188, R190, R214). -/
def Rule.LoadsFromOwnBank : Prop :=
  ∀ (s : State) (iss : Iss) (h : Nat) (d : BitVec 5) (a : BitVec 4) (d16 : BitVec 16) (d15 : BitVec 15) (d14 : BitVec 14)
    (half : Bool) (nonet : BitVec 2) (va pa : Nat), Ready s iss h →
    let n := iss.core.toNat
    let x := ctxAt s n h
    let w := (seenWord s n pa).1
    let h18 : BitVec 18 := w.extractLsb' (if half then 18 else 0) 18
    let n9 : BitVec 9 := w.extractLsb' (9 * nonet.toNat) 9
    let lands := fun (v : Word) =>
      if s.safety = .proof then
        { x with proofLoad := some { isCap := false, reg := x.wIdx d.toNat, val := { hi := 0, lo := v, tag := false } } }
      else x.setW d.toNat v
    let gives := fun (i : Instr) (v : Word) => ∃ t, exec i s = .next t ∧ Ran s t n h (lands v)
    let addressed := fun (c : Cap) (disp : Int) =>
      capCheck c (c.cursor + disp) 1 [.load] = .ok () ∧ (va : Int) = c.cursor + disp ∧ CanLoad s n h x.priv va .load pa ∧
      pa / 65536 = n
    (addressed (x.cr a.toNat) d16.toInt → gives (.ldw iss d a d16) w) ∧
    (addressed (x.cr a.toNat) d15.toInt → gives (.ldh iss d a d15 half) (h18.setWidth 36)) ∧
    (addressed (x.cr a.toNat) d15.toInt → gives (.ldhs iss d a d15 half) (h18.signExtend 36)) ∧
    (addressed (x.cr a.toNat) d14.toInt → gives (.ldn iss d a d14 nonet) (n9.setWidth 36)) ∧
    (addressed (x.cr a.toNat) d14.toInt → gives (.ldns iss d a d14 nonet) (n9.signExtend 36)) ∧
    (addressed (x.cr a.toNat) d14.toInt →
      n9.getLsbD 8 = ((List.range 8).foldl (fun p i => p != n9.getLsbD i) false) →
      gives (.ldo iss d a d14 nonet) ((n9.setWidth 8).setWidth 36)) ∧
    (addressed x.pcc d16.toInt → gives (.ldpc iss d d16) w)

/-- A capability load of an even pair of the core's own bank while no sweep runs: the register receives both words, tagged only
where both words are tagged and the authority holds LoadCap (R93, R110, R187, R214). -/
def Rule.CapabilityLoads : Prop :=
  ∀ (s : State) (iss : Iss) (h : Nat) (d a : BitVec 4) (disp : BitVec 16) (va pa : Nat), Ready s iss h →
    let n := iss.core.toNat
    let x := ctxAt s n h
    let c := x.cr a.toNat
    let hi := seenWord s n pa
    let lo := seenWord s n (pa + 1)
    let v : Cap := { hi := hi.1, lo := lo.1, tag := hi.2 && lo.2 && c.has .loadCap }
    capCheck c (c.cursor + disp.toInt) 2 [.load] = .ok () → (va : Int) = c.cursor + disp.toInt → va % 2 = 0 →
    CanLoad s n h x.priv va .capLoad pa → Granted s n h x.priv (pa + 1) .capLoad → (mget s (pa + 1)).ecc ≠ .double →
    pa / 65536 = n → filtering s = false →
    ∃ t, exec (.cld iss d a disp) s = .next t ∧ Ran s t n h
      (if s.safety = .proof then
        { x with proofLoad := some { isCap := true, reg := x.cIdx d.toNat, val := v } } else x.setC d.toNat v)

/-- A load at any other word of memory than the core's own bank, which its store buffer does not hold, leaves its registers alone
and holds stage M (R223); the return of its data, once the bank's arbiter grants it and with good parity, then writes the register,
outside Proof, and the context goes on at the next word (R32, R35). -/
def Rule.LoadsHoldStageM : Prop :=
  ∀ (s : State) (iss : Iss) (h : Nat) (d : BitVec 5) (a : BitVec 4) (disp : BitVec 16) (va pa : Nat), Ready s iss h →
    let n := iss.core.toNat
    let x := ctxAt s n h
    let c := x.cr a.toNat
    capCheck c (c.cursor + disp.toInt) 1 [.load] = .ok () → (va : Int) = c.cursor + disp.toInt →
    CanLoad s n h x.priv va .load pa → pa / 65536 ≠ n → (coreAt s n).sb = [] → s.safety ≠ .proof →
    ∃ t m, exec (.ldw iss d a disp) s = .next t ∧ (coreAt t n).mstage = some m ∧ t.mem = s.mem ∧
      (∃ l, ctxAt t n h = { x with fresh := false, stepping := false, lastLoad := l, barrier := none }) ∧
      m.remote = false ∧ m.pa = pa ∧
      ∀ answer, answer ≠ .parity → loadHeldBack t n m = false → ∃ u, exec (.loadDataReturn iss.core answer) t = .next u ∧ (coreAt u n).mstage = none ∧ u.mem = s.mem ∧
        ∃ l, ctxAt u n h = { x.setW d.toNat (mget s pa).data with
          pcc := x.pcc.move (x.pcc.cursor + 1), fresh := false, stepping := false, lastLoad := l, barrier := none }

/-- A store through a capability that passes the check of R109 enters the store buffer as one word: its address, the bits it
writes, and no tag; no register of the context and no word of memory changes (R90, R109, R183, R184, R186, R190, R242). -/
def Rule.StoresEnterTheBuffer : Prop :=
  ∀ (s : State) (iss : Iss) (h : Nat) (d : BitVec 5) (a : BitVec 4) (d16 : BitVec 16) (d15 : BitVec 15) (d14 : BitVec 14)
    (half : Bool) (nonet : BitVec 2) (va pa : Nat), Ready s iss h →
    let n := iss.core.toNat
    let x := ctxAt s n h
    let c := x.cr a.toNat
    let w := x.wr d.toNat
    let up := if half then 18 else 0
    let parity := (List.range 8).foldl (fun p i => p != w.getLsbD i) false
    let octet : BitVec 9 := BitVec.ofBool parity ++ w.extractLsb' 0 8
    let enters := fun (i : Instr) (data mask : Word) => ∃ t e, exec i s = .next t ∧ Issued s t n h
      { x with pcc := x.pcc.move (x.pcc.cursor + 1) } [e] ∧
      e.pa = pa ∧ e.va = va ∧ e.data &&& e.mask = data &&& mask ∧ e.mask = mask ∧ e.tag = false ∧ e.pair = false
    let addressed := fun (disp : Int) =>
      capCheck c (c.cursor + disp) 1 [.store] = .ok () ∧ (va : Int) = c.cursor + disp ∧ CanStore s n h x.priv va .store pa
    (coreAt s n).sb.length < 4 →
    (addressed d16.toInt → enters (.stw iss d a d16) w (~~~0)) ∧
    (addressed d15.toInt → enters (.sth iss d a d15 half) (w <<< up) (0x3ffff#36 <<< up)) ∧
    (addressed d14.toInt →
      enters (.stn iss d a d14 nonet) (w <<< (9 * nonet.toNat)) (0x1ff#36 <<< (9 * nonet.toNat))) ∧
    (addressed d14.toInt →
      enters (.sto iss d a d14 nonet) ((octet.setWidth 36) <<< (9 * nonet.toNat)) (0x1ff#36 <<< (9 * nonet.toNat)))

/-- A capability store of a pair, while no sweep runs, enters the buffer as two whole words that carry the capability's tag: the
authority holds StoreCap for a tagged one, and StoreLocal for a tagged local one (R110, R187, R242, R243). -/
def Rule.CapabilityStores : Prop :=
  ∀ (s : State) (iss : Iss) (h : Nat) (d a : BitVec 4) (disp : BitVec 16) (va pa : Nat), Ready s iss h →
    let n := iss.core.toNat
    let x := ctxAt s n h
    let c := x.cr a.toNat
    let v := x.cr d.toNat
    capCheck c (c.cursor + disp.toInt) 2 [.store] = .ok () → (va : Int) = c.cursor + disp.toInt → va % 2 = 0 →
    CanStore s n h x.priv va .capStore pa → (v.tag = true → c.has .storeCap = true) →
    (v.tag = true → v.has .glob = false → c.has .storeLocal = true) → filtering s = false → (coreAt s n).sb.length < 3 →
    ∃ t e1 e2, exec (.cst iss d a disp) s = .next t ∧
      Issued s t n h { x with pcc := x.pcc.move (x.pcc.cursor + 1) } [e1, e2] ∧
      e1.pa = pa ∧ e2.pa = pa + 1 ∧ e1.data = v.hi ∧ e2.data = v.lo ∧ e1.mask = ~~~0 ∧ e2.mask = ~~~0 ∧
      e1.tag = v.tag ∧ e2.tag = v.tag ∧ e1.pair = true

/-- The acknowledgement of the oldest buffered word, once its bank's arbiter grants it (R32): its bits are in memory, with its
tag, good ECC, and the entry is free; every other word of memory and every context is unchanged, and every register page but the
core's PC_MEMSTALL and the counters of the external memory ports (R27, R90, R190, R242, R248, R578). -/
def Rule.StoresReachMemory : Prop :=
  ∀ (s : State) (core : BitVec 7) (e : SbEntry) (rest : List SbEntry),
    let n := core.toNat
    coreLive s n = true → (coreAt s n).sb = e :: rest → e.pair = false → memReach s e.pa = .ok →
    targetOk s e.stamp e.pa e.kind = true → storeHeldBack s n = false → (e.mask = ~~~0 ∨ (mget s e.pa).ecc ≠ .double) → marked s e.pa = false →
    ∃ t, exec (.storeAck ⟨core, false⟩) s = .next t ∧ (coreAt t n).sb = rest ∧
      mget t e.pa = { data := ((mget s e.pa).data &&& ~~~e.mask) ||| (e.data &&& e.mask), tag := e.tag, ecc := .good } ∧
      (∀ p, p ≠ e.pa → mget t p = mget s p) ∧
      RegsKept s t (fun p off => (p = corePg n ∧ off = 69) ∨ empPage p = true) ∧ (∀ m k, ctxAt t m k = ctxAt s m k)

/-- The stores: a word or a pair enters the store buffer, and its acknowledgement writes it to memory (R110, R184, R186, R190,
R242). -/
def Obligations.Stores : Prop :=
  Rule.StoresEnterTheBuffer ∧ Rule.CapabilityStores ∧ Rule.StoresReachMemory

/-- In Proof the result of a load is not seen by the next instruction: while a load is on its way, an ADD reads the register as
it was, the load's value is in the register after it, and if the ADD wrote that register the ADD's result stands (R214, R215). -/
def Rule.ProofLoadsLandOneLater : Prop :=
  ∀ (s : State) (iss : Iss) (h : Nat) (d a b : BitVec 5) (r : Nat) (v : Cap),
    let n := iss.core.toNat
    let x := ctxAt s n h
    let x0 : Ctx := { x with proofLoad := none }
    Ready (setCtx s n h x0) iss h → x.proofLoad = some { isCap := false, reg := r, val := v } →
    ∃ t, exec (.or_ iss d a b) s = .next t ∧
      let y := x0.setW d.toNat (x0.wr a.toNat ||| x0.wr b.toNat)
      Ran s t n h (if x0.wIdx d.toNat = r then y else y.wphysSet r v.lo)

/-- The loads: from the core's own bank, of capabilities, from farther away through stage M with the data's return, and in Proof one
instruction later (R110, R183 to R185, R214, R223). -/
def Obligations.Loads : Prop :=
  Rule.LoadsFromOwnBank ∧ Rule.CapabilityLoads ∧ Rule.LoadsHoldStageM ∧ Rule.ProofLoadsLandOneLater

/-! ## Control transfer -/

/-- A word that a shadow-stack push writes at the top of the region: the region is defined and not full, and the word may be
written there (Table 6.7, R242, R286, R287, R288). -/
def CanPush (s : State) (n h : Nat) (pa : Nat) : Prop :=
  let x := ctxAt s n h
  4 ≤ x.sspLim ∧ x.sspLim ≤ 20 ∧
    x.sspAddr + 1 < x.sspAddr / 2 ^ x.sspLim * 2 ^ x.sspLim + 2 ^ x.sspLim - 2 * x.spilln ∧
    CanStore s n h 0 x.sspAddr .shadowWrite pa ∧ (coreAt s n).sb.length < 4

/-- The top word of the shadow stack can be read at pa (Table 6.7, R286, R287, R288), and no word of it is waited for: the store
buffer holds it whole, it lies in the core's own bank, or its source has returned it (R190, R223). -/
def CanPop (s : State) (n h : Nat) (pa : Nat) : Prop :=
  let x := ctxAt s n h
  4 ≤ x.sspLim ∧ x.sspLim ≤ 20 ∧ x.sspAddr ≠ x.sspAddr / 2 ^ x.sspLim * 2 ^ x.sspLim ∧
    CanLoad s n h 0 (x.sspAddr - 1) .shadowRead pa ∧
    (sbMask (coreAt s n).sb pa = ~~~0 ∨ pa / 65536 = n ∨ (coreAt s n).arrived = some (sourceOf pa))

/-- BR, JR and CJR set the cursor of PCC, or PCC, and change nothing else; BR's target is its own address plus its offset
(R194 to R196). -/
def Rule.PlainTransfers : Prop :=
  ∀ (s : State) (iss : Iss) (h : Nat) (a : BitVec 5) (c : BitVec 4) (off : BitVec 26), Ready s iss h →
    let n := iss.core.toNat
    let x := ctxAt s n h
    let cap := x.cr c.toNat
    let goes := fun (i : Instr) (p : Cap) => ∃ t, exec i s = .next t ∧ Issued s t n h { x with pcc := p } []
    goes (.br iss off) (x.pcc.move (x.pcc.cursor + off.toInt)) ∧
    goes (.jr iss a) (x.pcc.move (x.wr a.toNat).toNat) ∧
    (cap.tag = true → cap.otype = 0 → cap.has .execute = true → goes (.cjr iss c) cap)

/-- The calls push the address after them on the shadow stack and go to their target. CALL and CALLR, outside the fault bank and
below window 7, advance the window, raise HWM with it and leave the link in W8 of the window entered; FCALL and FCALLR leave it
in W7 and move no window (R147, R148, R149, R153, R194 to R196, R287). -/
def Rule.Calls : Prop :=
  ∀ (s : State) (iss : Iss) (h : Nat) (a : BitVec 5) (off : BitVec 26) (pa : Nat), Ready s iss h →
    let n := iss.core.toNat
    let x := ctxAt s n h
    let link : Word := BitVec.ofNat 36 (x.pcc.cursor + 1)
    let pushed : Ctx := { x with ssp := setFld x.ssp 29 0 (x.sspAddr + 1) }
    let up : Ctx := { pushed with win := setFld (setFld x.win 2 0 (x.cwp + 1)) 5 3 (max x.hwm (x.cwp + 1)) }
    let calls := fun (i : Instr) (y : Ctx) (target : Int) => ∃ t e, exec i s = .next t ∧
      Issued s t n h { y with pcc := x.pcc.move target } [e] ∧
      e.pa = pa ∧ e.va = x.sspAddr ∧ e.data = link ∧ e.mask = ~~~0 ∧ e.tag = false
    CanPush s n h pa →
    (x.fb = false → x.cwp < 7 →
      calls (.call iss off) (up.setW 8 link) (x.pcc.cursor + off.toInt) ∧
      calls (.callr iss a) (up.setW 8 link) (x.wr a.toNat).toNat) ∧
    calls (.fcall iss off) (pushed.setW 7 link) (x.pcc.cursor + off.toInt) ∧
    calls (.fcallr iss a) (pushed.setW 7 link) (x.wr a.toNat).toNat

/-- The returns: where the link register equals the word at the top of the shadow stack, RET lowers the window by one and FRET
moves none; both pop the word and go to it (R147, R148, R153, R196, R287). -/
def Rule.Returns : Prop :=
  ∀ (s : State) (iss : Iss) (h : Nat) (pa : Nat), Ready s iss h →
    let n := iss.core.toNat
    let x := ctxAt s n h
    let popped : Ctx := { x with ssp := setFld x.ssp 29 0 (x.sspAddr - 1) }
    let top := (seenWord s n pa).1
    CanPop s n h pa →
    (x.fb = false → 0 < x.cwp → x.wr 8 = top →
      ∃ t, exec (.ret iss) s = .next t ∧
        Issued s t n h { popped with win := setFld x.win 2 0 (x.cwp - 1), pcc := x.pcc.move top.toNat } []) ∧
    (x.wr 7 = top →
      ∃ t, exec (.fret iss) s = .next t ∧ Issued s t n h { popped with pcc := x.pcc.move top.toNat } [])

/-- Branches, calls with and without a window, and returns checked against the shadow stack (R196 to R198, R276 to R279). -/
def Obligations.Transfers : Prop :=
  Rule.PlainTransfers ∧ Rule.Calls ∧ Rule.Returns

/-- A gate call inside its compartment with room in the return buffer: the marker of R289 enters the store buffer for the top
of the shadow stack, the return capability the buffer, the window advances, the privilege becomes the gate's, and PCC is the
gate's capability with type 0; the rule sets do not flip (R114, R289, Table 6.12). -/
def Rule.GateCallWithinACompartment : Prop :=
  ∀ (s : State) (iss : Iss) (h : Nat) (k : BitVec 3) (pa : Nat), Ready s iss h →
    let n := iss.core.toNat
    let x := ctxAt s n h
    let g := kget (fun _ => Cap.null) x.ge k.toNat
    let attr := rget s (corePg n) (136 + 8 * h + k.toNat)
    let priv := min (fld attr 9 8) 2
    g.tag = true → g.otype = 56 → g.has .invoke = true → g.has .execute = true → x.fb = false → x.cwp < 7 →
    fld attr 7 0 = x.comp → x.srb.length < 8 → CanPush s n h pa →
    ∃ t e, exec (.gcall iss k) s = .next t ∧
      Issued s t n h
        { x with
          ssp := setFld x.ssp 29 0 (x.sspAddr + 1)
          win := setFld (setFld x.win 2 0 (x.cwp + 1)) 5 3 (max x.hwm (x.cwp + 1))
          srb := x.srb ++ [x.pcc.move (x.pcc.cursor + 1)]
          psw := setFld x.psw 1 0 priv
          pcc := { g with hi := g.hi &&& ~~~0xfc0000#36 } } [e] ∧
      e.pa = pa ∧ e.va = x.sspAddr ∧ e.tag = false ∧ e.mask = ~~~0 ∧
      fld e.data 35 33 = 7 ∧ bit e.data 32 = false ∧ fld e.data 31 30 = x.priv ∧ fld e.data 2 0 = x.cwp

/-- The return of a gate call made within the compartment: the marker at the top of the shadow stack names the window below, the
newest return capability of the buffer becomes PCC with type 0, and the window, the privilege and the buffer are as the call found
them (R290). -/
def Rule.GateReturnWithinACompartment : Prop :=
  ∀ (s : State) (iss : Iss) (h : Nat) (pa : Nat) (e : Cap) (older : List Cap), Ready s iss h →
    let n := iss.core.toNat
    let x := ctxAt s n h
    let m := (seenWord s n pa).1
    CanPop s n h pa → x.fb = false → fld m 35 33 = 7 → bit m 32 = false → fld m 2 0 + 1 = x.cwp → x.srb = older ++ [e] →
    ∃ t, exec (.gret iss) s = .next t ∧
      Issued s t n h
        { x with
          ssp := setFld x.ssp 29 0 (x.sspAddr - 1), win := setFld x.win 2 0 (fld m 2 0), srb := older
          psw := setFld x.psw 1 0 (fld m 31 30), pcc := { e with hi := e.hi &&& ~~~0xfc0000#36 } } []

/-- SWITCH at Executive privilege to a rule set that is Ready and loaded from the capability's base, with no fifth epoch to open:
the sets and the task-state pointers exchange, COMP becomes the new set's, and a new epoch opens (R275, R389, R395, R397). -/
def Rule.SwitchFlipsTheSets : Prop :=
  ∀ (s : State) (iss : Iss) (h : Nat) (a : BitVec 4), Ready s iss h →
    let n := iss.core.toNat
    let x := ctxAt s n h
    let c := x.cr a.toNat
    let new := (coreAt s n).set (!x.setB)
    x.priv = 0 → c.tag = true → c.otype = 59 → new.st = .ready → new.imgva = c.base → (coreAt s n).epochs.length < 4 →
    ∃ t, exec (.switch iss a) s = .next t ∧
      (∃ l, ctxAt t n h = { x with
        setB := !x.setB, psw := setFld x.psw 29 22 new.comp, pcc := x.pcc.move (x.pcc.cursor + 1)
        fresh := false, stepping := false, lastLoad := l, barrier := none }) ∧
      (ctxAt t n h).tsp = x.tspOther ∧ (ctxAt t n h).tspOther = x.tsp ∧
      (coreAt t n).epoch = (coreAt s n).epoch + 1 ∧ (coreAt t n).setA = (coreAt s n).setA ∧
      (coreAt t n).setB = (coreAt s n).setB ∧ t.mem = s.mem ∧ (∀ m k, ¬ (m = n ∧ k = h) → ctxAt t m k = ctxAt s m k)

/-- A gate call within a compartment and its return, and SWITCH, which makes the inactive set and task state the active ones (R289
to R292, R393). -/
def Obligations.GateCallsAndSwitch : Prop :=
  Rule.GateCallWithinACompartment ∧ Rule.GateReturnWithinACompartment ∧ Rule.SwitchFlipsTheSets

/-! ## System instructions -/

/-- NOP, WAIT, the barriers with nothing to wait for, and BREAK in the debug states that stop at it: WAIT puts its context into
Waiting; FENCE and TLBSYNC go on; GBAR goes on where every outstanding epoch is the one it read or a later one (four at most are
outstanding, and EPOCH counts modulo 65,536); BREAK halts the context at its own address and signals it (R192, R212, R263, R326,
R398, R667). -/
def Rule.WaitsAndBarriers : Prop :=
  ∀ (s : State) (iss : Iss) (h : Nat), Ready s iss h →
    let n := iss.core.toNat
    let x := ctxAt s n h
    let gives := fun (i : Instr) (y : Ctx) => ∃ t, exec i s = .next t ∧ Ran s t n h y
    gives (.nop iss) x ∧
    (x.priv ≤ 1 → gives (.wait iss) { x with st := .waiting }) ∧
    ((∀ e ∈ (coreAt s n).sb, e.stamp.ctx.toNat ≠ h) → x.lates = [] → gives (.fence iss) x) ∧
    (x.priv ≤ 1 → (∀ e ∈ (coreAt s n).epochs, let b := x.barrier.getD (coreAt s n).epoch; e = b ∨ 32768 ≤ (b - e).toNat) →
      gives (.gbar iss) x) ∧
    (x.priv ≤ 1 → (∀ p ∈ s.posts, p.poster ≠ .core n h) → gives (.tlbsync iss) x) ∧
    (2 ≤ dbgState s → bit (rget s (pkgPg 3) 16) 26 = true →
      ∃ t, exec (.break_ iss) s = .next t ∧ Issued s t n h { x with halted := true, atBreak := true } [] ∧
        bit (rget t (pkgPg 3) 9) 1 = true)

/-- Reads of the special registers (Table 4.4, Table 4.5, R154, R160, R213, R276): PSW shows the context and whether the safety
run state is Proof; a read of CYCL latches the high bits of the count, which CYCH returns. -/
def Rule.SpecialReads : Prop :=
  ∀ (s : State) (iss : Iss) (h : Nat) (d : BitVec 5) (c : BitVec 4) (k : BitVec 3), Ready s iss h →
    let n := iss.core.toNat
    let x := ctxAt s n h
    let reads := fun (num : BitVec 5) (v : Word) => ∃ t, exec (.mfs iss d num) s = .next t ∧ Ran s t n h (x.setW d.toNat v)
    let psw := setFld (setBit x.psw 5 (decide (s.safety = .proof))) 21 20 h
    let caps := fun (num : BitVec 5) (v : Cap) => ∃ t, exec (.cmfs iss c num) s = .next t ∧ Ran s t n h (x.setC c.toNat v)
    reads 0 psw ∧ reads 1 x.win ∧ reads 5 (BitVec.ofNat 36 n) ∧ reads 7 x.cych ∧
    (∃ t, exec (.mfs iss d 6) s = .next t ∧
      Ran s t n h (({ x with cych := BitVec.ofNat 36 ((coreAt s n).cyc / 2 ^ 36) } : Ctx).setW d.toNat (BitVec.ofNat 36 (coreAt s n).cyc))) ∧
    (x.priv ≤ 1 → reads 2 (x.mlv.setWidth 36) ∧ reads 3 x.vba ∧ reads 4 x.ssp ∧
      caps (16 + k.setWidth 5) (kget (fun _ => Cap.null) x.ge k.toNat)) ∧
    (x.priv = 0 → x.pcc.has .system = true → caps 8 x.tsp ∧ caps 9 x.fsp)

/-- Writes of the special registers (R155 to R159, Table 4.4 to Table 4.6, R276, R278, R279): a write changes only the fields that
are not RO: AOV of PSW, cleared by a 1; HWM of WIN; the mask level; at Executive privilege under a PCC with System the vector base
without its low nine bits, the shadow stack pointer, the inactive task-state pointer and the gate entries. -/
def Rule.SpecialWrites : Prop :=
  ∀ (s : State) (iss : Iss) (h : Nat) (a : BitVec 5) (c : BitVec 4) (k : BitVec 3), Ready s iss h →
    let n := iss.core.toNat
    let x := ctxAt s n h
    let v := x.wr a.toNat
    let cv := x.cr c.toNat
    let pairSeen := fun (p : Nat) =>
      ({ hi := (seenWord s n p).1, lo := (seenWord s n (p + 1)).1, tag := (seenWord s n p).2 && (seenWord s n (p + 1)).2 } : Cap)
    let writes := fun (num : BitVec 5) (y : Ctx) => ∃ t, exec (.mts iss a num) s = .next t ∧ Ran s t n h y
    let caps := fun (num : BitVec 5) (y : Ctx) => ∃ t, exec (.cmts iss c num) s = .next t ∧ Ran s t n h y
    (x.priv ≤ 1 →
      writes 0 { x with psw := if v.getLsbD 7 then x.psw &&& ~~~128#36 else x.psw } ∧
      writes 1 { x with win := (x.win &&& ~~~56#36) ||| (v &&& 56#36) } ∧
      writes 2 { x with mlv := if (v.setWidth 4 : BitVec 4) = 15 then 14 else v.setWidth 4 }) ∧
    (x.priv = 0 → x.pcc.has .system = true →
      writes 3 { x with vba := v &&& ~~~511#36 } ∧
      writes 4 { x with ssp := v } ∧
      (cv.tag = true → cv.otype = 58 → caps 8 (x.setTspOther cv)) ∧
      (∀ p q, cv.tag = true → cv.otype = 0 → cv.has .load = true → cv.has .store = true → cv.has .loadCap = true →
        cv.has .storeCap = true → cv.cursor % 16 = 0 → 4 ≤ cv.top → cv.top % 2 = 0 →
        CanLoad s n h 0 (cv.top - 4) .capLoad p → CanLoad s n h 0 (cv.top - 2) .capLoad q →
        (mget s (p + 1)).ecc ≠ .double → (mget s (q + 1)).ecc ≠ .double → Granted s n h 0 (p + 1) .capLoad →
        Granted s n h 0 (q + 1) .capLoad → memReach s (p + 1) = .ok → memReach s (q + 1) = .ok →
        caps 9 { x with fsp := cv, hcc := pairSeen p, hdc := pairSeen q }) ∧
      caps (16 + k.setWidth 5) { x with ge := kset (fun _ => Cap.null) x.ge k.toNat cv })

/-- TLBI and TLBIA at Supervisor privilege, with no store of the context still buffered: the matching entries leave every TLB of the
issuing block at once, and an invalidation that names the context is posted to every other block in service; one with no other
block to reach is complete at once (R322, R323, R325, R327). -/
def Rule.TlbMaintenance : Prop :=
  ∀ (s : State) (iss : Iss) (h : Nat) (a : BitVec 5), Ready s iss h →
    let n := iss.core.toNat
    let x := ctxAt s n h
    let w := x.wr a.toNat
    let others := (postTargets s).filter (fun m => m != n)
    x.priv ≤ 1 → (∀ e ∈ (coreAt s n).sb, e.stamp.ctx.toNat ≠ h) →
    let effect := fun (i : Instr) (sc : Scope) => ∃ t, exec i s = .next t ∧
      (∀ e ∈ (coreAt t n).itlb ++ (coreAt t n).dtlb ++ (coreAt t n).dmatlb, sc.covers e.vpn = false) ∧
      (∀ b ∈ (coreAt t n).l2tlb, ∀ e, some e ∈ b.2 → sc.covers e.vpn = false) ∧
      t.postId = s.postId + 1 ∧
      (others ≠ [] → t.posts = s.posts ++ [{ id := s.postId, poster := .core n h, scope := sc, todo := others, acking := [] }]) ∧
      (others = [] → t.posts = s.posts) ∧ t.mem = s.mem ∧
      ∃ l, ctxAt t n h = { x with pcc := x.pcc.move (x.pcc.cursor + 1), fresh := false, stepping := false, lastLoad := l, barrier := none }
    (w.getLsbD 35 = false → effect (.tlbi iss a) (.page (fld w 29 10))) ∧
    (w.getLsbD 35 = true → effect (.tlbi iss a) (.sect (fld w 29 20))) ∧
    effect (.tlbia iss) .all

/-- Waits, barriers and prefetch, the special registers as MFS and MTS read and write them, and the maintenance of the TLBs (R144,
R153 to R160, R322, R326, Table 4.13). -/
def Obligations.SystemInstructions : Prop :=
  Rule.WaitsAndBarriers ∧ Rule.SpecialReads ∧ Rule.SpecialWrites ∧ Rule.TlbMaintenance

/-! ## Entries and returns -/

/-- TRAP k enters vector 16 + k and returns to the instruction after it; a reserved encoding, whatever its guard, enters the
illegal-instruction vector with its word in FAUX and its own address to return to; a division by 0 and an overflowing ADDV enter
the arithmetic vector with causes 2 and 1, writing nothing (R164, R168, R180, R212, R266, R267, R281). -/
def Rule.TrapsAndFaultsEnterTheirVectors : Prop :=
  ∀ (s : State) (iss : Iss) (h : Nat) (k : BitVec 3) (word : Word) (d a b : BitVec 5),
    let n := iss.core.toNat
    let x := ctxAt s n h
    (Ready s iss h → CanEnter s n h (16 + k.toNat) →
      ∃ t, exec (.trap iss k) s = .next t ∧ Entered s t n h (16 + k.toNat) k.toNat x.pcc.cursor 0
        (x.pcc.move (x.pcc.cursor + 1)) x.comp 0) ∧
    (Ready s { iss with q := 0, neg := false } h → CanEnter s n h 6 → reserved word = true →
      ∃ t, exec (.reservedEncoding iss.core word) s = .next t ∧
        Entered s t n h 6 0 x.pcc.cursor (word &&& 0xffffffff#36) x.pcc x.comp 0) ∧
    (Ready s iss h → CanEnter s n h 13 → x.wr b.toNat = 0 →
      (∃ t, exec (.div iss a b) s = .next t ∧ Entered s t n h 13 2 x.pcc.cursor 0 x.pcc x.comp 0) ∧
      (∃ t, exec (.divu iss a b) s = .next t ∧ Entered s t n h 13 2 x.pcc.cursor 0 x.pcc x.comp 0)) ∧
    (Ready s iss h → CanEnter s n h 13 → (x.wr a.toNat).saddOverflow (x.wr b.toNat) = true →
      ∃ t, exec (.addv iss d a b) s = .next t ∧ Entered s t n h 13 1 x.pcc.cursor 0 x.pcc x.comp 0)

/-- A privileged system instruction below its privilege enters vector 5, whatever its guard, with its function number in FAUX
(R155, R163, R212, Table 6.1). -/
def Rule.PrivilegeIsChecked : Prop :=
  ∀ (s : State) (iss : Iss) (h : Nat) (a : BitVec 4) (b : BitVec 5),
    let n := iss.core.toNat
    let x := ctxAt s n h
    Ready s { iss with q := 0, neg := false } h → CanEnter s n h 5 →
    let refused := fun (i : Instr) (fn : Nat) =>
      ∃ t, exec i s = .next t ∧ Entered s t n h 5 0 x.pcc.cursor (BitVec.ofNat 36 fn) x.pcc x.comp 0
    (1 < x.priv → refused (.wait iss) 10 ∧ refused (.gbar iss) 17 ∧ refused (.rfe iss) 24 ∧ refused (.rvprobe iss) 32 ∧
      refused (.tlbi iss b) 40 ∧ refused (.tlbia iss) 41 ∧ refused (.tlbsync iss) 42) ∧
    (0 < x.priv → refused (.switch iss a) 18)

/-- An annulled instruction, one whose guard does not hold, changes no register, no memory word and no special register, and makes
no access: the context goes to the next word (R162, R163). Stated for one instruction of every family that decodes without a
fault of its own. -/
def Rule.AnnulledInstructionsOnlyAdvance : Prop :=
  ∀ (s : State) (iss : Iss) (h : Nat) (d a b : BitVec 5) (c e : BitVec 4) (imm : BitVec 16) (off : BitVec 26) (k : BitVec 3),
    let n := iss.core.toNat
    let x := ctxAt s n h
    Ready s { iss with q := 0, neg := false } h → (x.qr iss.q.toNat == iss.neg) = true →
    ∀ i ∈ [Instr.add iss d a b, .addv iss d a b, .addi iss d a imm, .ceq iss k a b, .wtoq iss a, .mul iss a b, .div iss a b,
        .ldw iss d c imm, .stw iss d c imm, .cld iss c e imm, .cst iss c e imm, .cmove iss c e b, .stm iss c b 0, .ldm iss c b 0,
        .br iss off, .fcall iss off, .jr iss a, .fret iss, .cjr iss c, .cgettag iss d c, .cpoint iss c e b, .cnarrow iss c e b,
        .cseal iss c e c, .csealh iss c e b, .cinvoke iss c e, .csizeup iss d a, .nop iss, .trap iss k, .break_ iss, .fence iss],
      ∃ t, exec i s = .next t ∧ Ran s t n h x

/-- Traps and faults enter their vectors, an instruction of a higher privilege does, and one whose guard is false only advances
(R162, R266, R273, R274, R281, Table 6.1). -/
def Obligations.TrapsPrivilegeAndAnnulment : Prop :=
  Rule.TrapsAndFaultsEnterTheirVectors ∧ Rule.PrivilegeIsChecked ∧ Rule.AnnulledInstructionsOnlyAdvance

/-- An interrupt that is due is taken at its core: the context enters the line's vector at the line's level, with the page that
drives it in FAUX, and IRQLAT shows the response; a division of the context is abandoned. Stated where no multi-word instruction is
in progress and no precise fault is first (R204, R299); a core in Hold only begins to return to Run (R182, R263, R266, R269, R270,
R273, R281, Table 6.1; the latency value itself is notes/assumptions/16.md). -/
def Rule.InterruptsEnterTheirLine : Prop :=
  ∀ (s : State) (core : BitVec 7) (h l i : Nat),
    let n := core.toNat
    let x := ctxAt s n h
    coreWakes s n = true → (dom s (domKey (n / 16) (n % 16))).st ≠ .hold → (coreAt s n).midway = none → boundaryFault s n = false →
    lateDue s n = false → interruptDue s n = some (h, l, i) → CanEnter s n h (24 + i) → x.proofLoad = none → (∀ d, d < s.part.dies → (sedge s d).tmig = none) →
    ∃ t, exec (.interruptEntry core) s = .next t ∧ (ctxAt t n h).st = .ready ∧ (coreAt t n).cur = h ∧ (ctxAt t n h).div = none ∧
      (ctxAt t n h).pcc = x.hcc.move (x.vba.toNat + 8 * (24 + i)) ∧ (ctxAt t n h).mlv = BitVec.ofNat 4 l ∧
      (ctxAt t n h).fb = true ∧ (ctxAt t n h).priv = 0 ∧
      (mget t (x.frameAt + 2)).data = finfo (24 + i) (24 + i) h x.comp 0 x.fb false ∧
      (mget t (x.frameAt + 4)).data =
        (fval 17 14 (fld (route s n i) 17 14) ||| fval 13 3 (fld (route s n i) 13 3)) ∧
      0 < (rget t (corePg n) 74).toNat

/-- The oldest late store error of the issuing context enters vector 7 at a boundary, whether or not a division is in progress,
which it abandons, with the store's address, the base of its task-state block and its compartment; the later ones stay due. No
multi-word instruction is in progress and no precise fault is first (R204, R296, R297, R299, R303). -/
def Rule.LateStoreErrorsEnterVectorSeven : Prop :=
  ∀ (s : State) (core : BitVec 7) (h : Nat) (e : LateErr) (rest : List LateErr),
    let n := core.toNat
    let x := ctxAt s n h
    coreLive s n = true → (coreAt s n).mstage = none → (coreAt s n).midway = none → boundaryFault s n = false →
    (coreAt s n).cur = h → x.selectable = true → x.fresh = false → x.proofLoad = none → x.lates = e :: rest → CanEnter s n h 7 →
    ∃ t, exec (.lateStoreError core) s = .next t ∧ (ctxAt t n h).lates = rest ∧ (ctxAt t n h).div = none ∧
      Entered s t n h 7 e.cause e.addr (BitVec.ofNat 36 e.tsb) x.pcc e.comp.toNat 0

/-- A walk held for more than 65,536 core cycles ends in translation cause 8 in the issuing context, at the address of its access,
whichever context would be selected next; that of a write of an entry is a failed write, and the package enters Mire (R280, R281,
R299, R340). -/
def Rule.HeldWalksAreLimited : Prop :=
  ∀ (s : State) (core : BitVec 7) (h : Nat) (w : HeldWalk),
    let n := core.toNat
    let x := ctxAt s n h
    coreIssues s n = true → (coreAt s n).cur = h → x.selectable = true → (coreAt s n).held = some w → w.released = false →
    65536 < (coreAt s n).cyc - w.since →
    (w.entry = false → x.proofLoad = none → CanEnter s n h 11 →
      ∃ t, exec (.holdLimitExpiry core) s = .next t ∧ (coreAt t n).held = none ∧
        Entered s t n h 11 8 w.va (fval 35 34 2 ||| fval 29 0 w.e2a) x.pcc x.comp 0) ∧
    (w.entry = true →
      ∃ t, exec (.holdLimitExpiry core) s = .next t ∧ t.safety = .mire ∧ t.mem = s.mem ∧ (∀ m k, ctxAt t m k = ctxAt s m k) ∧
        fld (rget t (pkgPg 0) 68) 34 30 = 4)

/-- RFE from a first-level entry, every check of R283 passed and no interrupt pending: the context is restored from the task-state
block, PCC moved on by RADJ (a sealed PCC that RADJ moves is untagged, R98), FSP is back above the frame, without its tag where its
cursor leaves the representable region (R101), the valid word of the block is cleared, and no other word of memory changes (R283,
R284). -/
def Rule.ReturnRestoresTheTask : Prop :=
  ∀ (s : State) (iss : Iss) (h : Nat), Ready s iss h →
    let n := iss.core.toNat
    let x := ctxAt s n h
    let f := x.fsp.cursor
    let tb := x.tsbBase
    let g := fun (a : Nat) => (mget s a).data
    let pair := fun (a : Nat) =>
      ({ hi := g a, lo := g (a + 1), tag := (mget s a).tag && (mget s (a + 1)).tag } : Cap)
    let readable := fun (a : Nat) => CanLoad s n h 0 a .load a ∧ CanLoad s n h 0 a .capLoad a
    x.fb = true → x.priv ≤ 1 → (coreAt s n).sb = [] → f % 2 = 0 →
    (pair f).tag = true → (pair f).otype = 60 → (pair f).base = f → (pair f).cursor / 4 * 4 = f →
    bit (g (f + 2)) 23 = false → x.tsp.tag = true → x.tsp.otype = 58 →
    fld (g (tb + 4)) 1 0 ≠ 3 → x.tsp.cursor % 4 ≤ fld (g (tb + 4)) 1 0 → fld (g (tb + 4)) 29 22 = x.comp →
    (∀ a, f ≤ a → a < f + 16 → readable a) → (∀ a, tb ≤ a → a < tb + 32 → readable a) →
    CanStore s n h 0 (tb + 15) .store (tb + 15) → marked s (tb + 15) = false →
    (∀ i, i < 40 → bit (route s n i) 35 = false) →
    ∃ t, exec (.rfe iss) s = .next t ∧
      ((pair (tb + 2)).otype = 0 → (ctxAt t n h).pcc = (pair (tb + 2)).move ((pair (tb + 2)).cursor + (g (f + 5)).toInt)) ∧
      ((pair (tb + 2)).otype ≠ 0 → (ctxAt t n h).pcc = pair (tb + 2) ∨ (ctxAt t n h).pcc.tag = false) ∧
      (ctxAt t n h).comp = x.comp ∧ (ctxAt t n h).priv = fld (g (tb + 4)) 1 0 ∧
      (ctxAt t n h).fb = bit (g (tb + 4)) 4 ∧ bit (ctxAt t n h).psw 7 = bit (g (tb + 4)) 7 ∧
      (ctxAt t n h).win = g (tb + 5) &&& 63#36 ∧ (ctxAt t n h).mlv = (g (tb + 6)).setWidth 4 ∧
      (ctxAt t n h).ssp = g (tb + 7) ∧ (ctxAt t n h).mh = g (tb + 8) ∧ (ctxAt t n h).ml = g (tb + 9) ∧
      (ctxAt t n h).dq = g (tb + 10) ∧ (ctxAt t n h).dm = g (tb + 11) ∧
      (∀ k, 1 ≤ k → k < 8 → (ctxAt t n h).qr k = (g (tb + 12)).getLsbD k) ∧
      (ctxAt t n h).cphys 6 = pair (tb + 16) ∧ (ctxAt t n h).cphys 7 = pair (tb + 18) ∧
      (ctxAt t n h).fsp = x.fsp.move (f + 16 : Nat) ∧
      mget t (tb + 15) = { data := 0, tag := false, ecc := .good } ∧ (∀ a, a ≠ tb + 15 → mget t a = mget s a) ∧
      (∀ i, (ctxAt t n h).wphys i = x.wphys i)

/-- An interrupt that is due enters its line's vector, a late store error vector 7, a walk held too long its fault; RFE restores
what the entry saved (R268 to R275, R296, R299, R339). -/
def Obligations.InterruptsLateErrorsAndReturns : Prop :=
  Rule.InterruptsEnterTheirLine ∧ Rule.LateStoreErrorsEnterVectorSeven ∧ Rule.HeldWalksAreLimited ∧ Rule.ReturnRestoresTheTask

/-! ## Multi-word instructions -/

/-- STM outside a resume, its range checked and every word writable, with no interrupt due: each selected register is in its word,
in ascending order of register, untagged; no other word and no register changes. With no register selected, the store of no word may
lie on a proposal page and need Channel (R95, R201, R203 to R205, R210). -/
def Rule.StoreMultiple : Prop :=
  ∀ (s : State) (iss : Iss) (h : Nat) (a : BitVec 4) (b : BitVec 5) (disp : BitVec 11) (va : Nat), Ready s iss h →
    let n := iss.core.toNat
    let x := ctxAt s n h
    let c := x.cr a.toNat
    let regs := (List.range 32).filter (fun i => (x.wr b.toNat).getLsbD i)
    capCheck c (c.cursor + disp.toInt) regs.length [.store] = .ok () → (va : Int) = c.cursor + disp.toInt →
    (regs = [] → capCheck c (c.cursor + disp.toInt) 0 [.store, .channel] = .ok ()) →
    (coreAt s n).sb = [] → (coreAt s n).midway = none → (∀ j, j < regs.length → CanStore s n h x.priv (va + j) .store (va + j) ∧ marked s (va + j) = false) →
    interruptDue (setCtx s n h { x with fresh := false }) n = none →
    ∃ t, exec (.stm iss a b disp) s = .next t ∧
      (∃ l, ctxAt t n h =
        { x with pcc := x.pcc.move (x.pcc.cursor + 1), fresh := false, stepping := false, lastLoad := l, barrier := none }) ∧
      (∀ j i, regs[j]? = some i → mget t (va + j) = { data := x.wr i, tag := false, ecc := .good }) ∧
      (∀ p, (p < va ∨ va + regs.length ≤ p) → mget t p = mget s p)

/-- A word that a multi-word instruction of core n reads is there: it lies in the core's own bank, or its source has returned it
(R223, R249, R250). -/
def WordThere (s : State) (n pa : Nat) : Prop := pa / 65536 = n ∨ (coreAt s n).arrived = some (sourceOf pa)

/-- LDM outside a resume, its range checked and every word readable and there, with no interrupt due: each selected register but
W0 holds its word, every other word register and all of memory is unchanged (R201, R203 to R206, R210). -/
def Rule.LoadMultiple : Prop :=
  ∀ (s : State) (iss : Iss) (h : Nat) (a : BitVec 4) (b : BitVec 5) (disp : BitVec 11) (va : Nat), Ready s iss h →
    let n := iss.core.toNat
    let x := ctxAt s n h
    let c := x.cr a.toNat
    let regs := (List.range 32).filter (fun i => (x.wr b.toNat).getLsbD i)
    capCheck c (c.cursor + disp.toInt) regs.length [.load] = .ok () → (va : Int) = c.cursor + disp.toInt →
    (coreAt s n).sb = [] → (coreAt s n).midway = none → (∀ j, j < regs.length → CanLoad s n h x.priv (va + j) .load (va + j) ∧ WordThere s n (va + j)) →
    interruptDue (setCtx s n h { x with fresh := false }) n = none →
    ∃ t, exec (.ldm iss a b disp) s = .next t ∧
      (∃ l w, ctxAt t n h =
        { x with w := w, pcc := x.pcc.move (x.pcc.cursor + 1), fresh := false, stepping := false, lastLoad := l, barrier := none }) ∧
      (∀ j i, regs[j]? = some i → (ctxAt t n h).wr i = if i = 0 then 0 else (mget s (va + j)).data) ∧
      (∀ i, i < 32 → i ∉ regs → (ctxAt t n h).wr i = x.wr i) ∧ (∀ p, mget t p = mget s p)

/-- CMOVE outside a resume, both ranges checked and every word reachable, those of the source there, with no interrupt due: the
destination holds what the source held before, overlap or not; where pairs are not copied as capabilities every tag written is 0;
nothing outside the destination changes (R202 to R204, R207, Table 3.9). -/
def Rule.BlockMove : Prop :=
  ∀ (s : State) (iss : Iss) (h : Nat) (d a : BitVec 4) (b : BitVec 5), Ready s iss h →
    let n := iss.core.toNat
    let x := ctxAt s n h
    let ca := x.cr a.toNat
    let cd := x.cr d.toNat
    let len := (x.wr b.toNat).toNat
    let src := ca.cursor
    let dst := cd.cursor
    let pairs := src % 2 = 0 ∧ dst % 2 = 0 ∧ ca.has .loadCap = true ∧ cd.has .storeCap = true
    capCheck ca src len [.load] = .ok () → capCheck cd dst len [.store] = .ok () →
    (len = 0 → capCheck cd dst 0 [.store, .channel] = .ok ()) → (coreAt s n).sb = [] → (coreAt s n).midway = none →
    (∀ j, j < len → CanLoad s n h x.priv (src + j) .load (src + j) ∧ CanLoad s n h x.priv (src + j) .capLoad (src + j) ∧
      WordThere s n (src + j)) →
    (∀ j, j < len → CanStore s n h x.priv (dst + j) .store (dst + j) ∧ CanStore s n h x.priv (dst + j) .capStore (dst + j) ∧
      marked s (dst + j) = false) →
    filtering s = false → interruptDue (setCtx s n h { x with fresh := false }) n = none →
    ∃ t, exec (.cmove iss d a b) s = .next t ∧
      (∃ l, ctxAt t n h =
        { x with pcc := x.pcc.move (x.pcc.cursor + 1), fresh := false, stepping := false, lastLoad := l, barrier := none }) ∧
      (∀ j, j < len → (mget t (dst + j)).data = (mget s (src + j)).data ∧ (mget t (dst + j)).ecc = .good ∧
        (¬ pairs → (mget t (dst + j)).tag = false)) ∧
      (∀ p, (p < dst ∨ dst + len ≤ p) → mget t p = mget s p)

/-- RVPROBE at Supervisor privilege, outside a resume and on a core with no interrupt line enabled: every capability register of
every context of the core, and every gate entry, whose base is revoked has lost its tag, and keeps its bits; the others are as
they were (R118, R129, R130). -/
def Rule.RevocationProbe : Prop :=
  ∀ (s : State) (iss : Iss) (h : Nat), Ready s iss h →
    let n := iss.core.toNat
    let x := ctxAt s n h
    let probed := fun (c : Cap) => { c with tag := c.tag && !(revoked s (n / 4) c.base).1 }
    x.priv ≤ 1 → (∀ i, i < 40 → bit (route s n i) 35 = false) →
    ∃ t, exec (.rvprobe iss) s = .next t ∧ (∀ p, mget t p = mget s p) ∧
      (∀ k i, k < 4 → 1 ≤ i → i < 72 → (ctxAt t n k).cphys i = probed ((ctxAt s n k).cphys i)) ∧
      (∀ k i, k < 4 → i < 8 → kget (fun _ => Cap.null) (ctxAt t n k).ge i = probed (kget (fun _ => Cap.null) (ctxAt s n k).ge i)) ∧
      (∀ k i, (ctxAt t n k).wphys i = (ctxAt s n k).wphys i) ∧
      (ctxAt t n h).pcc = x.pcc.move (x.pcc.cursor + 1)

/-- The multi-word instructions move their words in order, and the probe reads the revocation bitmap (R121, R204 to R208). -/
def Obligations.MultiWordInstructions : Prop :=
  Rule.StoreMultiple ∧ Rule.LoadMultiple ∧ Rule.BlockMove ∧ Rule.RevocationProbe

/-! ## What a core block does besides -/

/-- The context of the highest mask level, then priority, then lowest number issues next; changing it discards the prefetch queue
and keeps every register of both, but that a load of Proof of the context left lands (R214, R227, R261, R262). Stated where no late
store error and no interrupt is due, no precise fault is first, no multi-word instruction is in progress and no Waiting context is to
wake (R204, R299). -/
def Rule.ContextSelection : Prop :=
  ∀ (s : State) (core : BitVec 7) (h : Nat),
    let n := core.toNat
    coreLive s n = true → (coreAt s n).mstage = none → (ctxAt s n (coreAt s n).cur).div = none → lateDue s n = false →
    interruptDue s n = none → (coreAt s n).midway = none → boundaryFault s n = false → (∀ k, k < 4 → (ctxAt s n k).st ≠ .waiting) → h < 4 → (ctxAt s n h).selectable = true →
    (∀ k, k < 4 → k ≠ h → (ctxAt s n k).selectable = true →
      (ctxAt s n k).mlv.toNat < (ctxAt s n h).mlv.toNat ∨
      ((ctxAt s n k).mlv = (ctxAt s n h).mlv ∧
        (ctxPri s n k < ctxPri s n h ∨ (ctxPri s n k = ctxPri s n h ∧ h < k)))) →
    ∃ t, exec (.contextSelect core) s = .next t ∧ (coreAt t n).cur = h ∧
      ((coreAt s n).cur ≠ h → (coreAt t n).pq = [] ∧ ctxAt t n h = { ctxAt s n h with lastLoad := none } ∧
        ctxAt t n (coreAt s n).cur = (ctxAt s n (coreAt s n).cur).landLoad) ∧
      (∀ m k, ¬ (m = n ∧ (coreAt s n).cur ≠ h ∧ (k = h ∨ k = (coreAt s n).cur)) → ctxAt t m k = ctxAt s m k) ∧ t.mem = s.mem

/-- The fetch ahead of the issuing context puts the next word in order into a free entry of the queue, with translation off or a
hit of the instruction TLB; it changes no word of memory and no register of a context (R224, R226, R229, R232). -/
def Rule.FetchAhead : Prop :=
  ∀ (s : State) (core : BitVec 7) (h pa : Nat),
    let n := core.toNat
    let x := ctxAt s n h
    let va := x.pcc.cursor
    issuer s n = some h → (coreAt s n).pq = [] → capCheck x.pcc (va : Nat) 1 [.execute] = .ok () →
    CanLoad s n h x.priv va .fetch pa →
    ∃ t, exec (.prefetch core) s = .next t ∧ (coreAt t n).pq = [{ va := va, word := some (mget s pa).data }] ∧
      (∀ p, mget t p = mget s p) ∧ (∀ m k, ctxAt t m k = ctxAt s m k) ∧ (coreAt t n).sb = (coreAt s n).sb

/-- A corrected single-bit error is written back in a slot that the bank's own ports leave unused, which changes no data bit and no
tag, and takes that slot (R26, R27, R31, R32). -/
def Rule.EccWriteBack : Prop :=
  ∀ (s : State) (addr : BitVec 30),
    clocked s = true → addr.toNat ∈ s.eccWb → unitReach s addr.toNat = .ok →
    (inBanks s addr.toNat = false ∨ slotFree s (addr.toNat / 65536) 1 = true) →
    ∃ t, exec (.eccWriteback addr) s = .next t ∧
      mget t addr.toNat = { mget s addr.toNat with ecc := .good } ∧ (∀ p, p ≠ addr.toNat → mget t p = mget s p) ∧
      addr.toNat ∉ t.eccWb ∧ (∀ m k, ctxAt t m k = ctxAt s m k) ∧
      (inBanks s addr.toNat = true → (slotsNow t (addr.toNat / 65536)).lent = (slotsNow s (addr.toNat / 65536)).lent + 1) ∧
      t = { s with mem := t.mem, eccWb := t.eccWb, slots := t.slots }

/-- A store of a timed compartment that has waited 24 core cycles at another block's bank, the only timed request there at its
deadline, takes the bank's slot D, at least 8 core cycles after the bank's last steal: it is performed, the steal is counted for the
bank; a cycle that the data port of the bank's block, or of the store's core, loses counts in its PC_MEMSTALL; no other word, no
context and no other register changes (R33, R34, R36, R248). -/
def Rule.TimedSteal : Prop :=
  ∀ (s : State) (bank : BitVec 7) (n : Nat) (e : SbEntry) (rest : List SbEntry),
    let b := bank.toNat
    let p := kget (fun _ => (0, 0)) s.steals b
    clocked s = true → unitReach s (b * 65536) = .ok → (p.2 = 0 ∨ p.1 + 8 ≤ 2 * s.ticks) →
    coreLive s n = true → n ≠ b → (coreAt s n).sb = e :: rest → e.pair = false → e.pa / 65536 = b → memReach s e.pa = .ok →
    clsTimed (compcls s e.stamp.die.toNat e.stamp.comp.toNat) = true → e.since + 24 ≤ 2 * s.ticks →
    (∀ m store, (m, store) ≠ (n, true) → timedDue s b m store = none) →
    targetOk s e.stamp e.pa e.kind = true → (e.mask = ~~~0 ∨ (mget s e.pa).ecc ≠ .double) → marked s e.pa = false →
    ∃ t, exec (.timedDeadlineSteal bank) s = .next t ∧ (coreAt t n).sb = rest ∧
      mget t e.pa = { data := ((mget s e.pa).data &&& ~~~e.mask) ||| (e.data &&& e.mask), tag := e.tag, ecc := .good } ∧
      (∀ a, a ≠ e.pa → mget t a = mget s a) ∧
      (kget (fun _ => (0, 0)) t.steals b).2 = p.2 + 1 ∧
      (∀ m, m ≠ b → kget (fun _ => (0, 0)) t.steals m = kget (fun _ => (0, 0)) s.steals m) ∧
      (∀ pg off, off < 512 → ¬ ((pg = corePg b ∨ pg = corePg n) ∧ off = 69) → rget t pg off = rget s pg off) ∧
      (∀ m k, ctxAt t m k = ctxAt s m k)

/-- A posted invalidation: it removes every matching entry of a block when it arrives; with no access outstanding under a matching
translation the acknowledgement leaves; when the last one reaches the poster the post is complete (R322, R324, R326). -/
def Rule.InvalidationsArriveAndAreAcknowledged : Prop :=
  ∀ (s : State) (core : BitVec 7) (p : Post),
    let n := core.toNat
    (clocked s = true → s.posts = [p] → n ∈ p.todo →
      ∃ t, exec (.invalidationArrival core p.id) s = .next t ∧
        (∀ e ∈ (coreAt t n).itlb ++ (coreAt t n).dtlb ++ (coreAt t n).dmatlb, p.scope.covers e.vpn = false) ∧
        (∀ b ∈ (coreAt t n).l2tlb, ∀ e, some e ∈ b.2 → p.scope.covers e.vpn = false) ∧
        ((coreAt t n).outstanding p.scope = true → t.posts = [p]) ∧
        ((coreAt t n).outstanding p.scope = false →
          t.posts = [{ p with todo := p.todo.filter (fun m => m != n), acking := p.acking ++ [n] }]) ∧ t.mem = s.mem) ∧
    (s.posts = [p] → p.todo = [] → p.acking = [n] →
      ∃ t, exec (.invalidationAck core p.id) s = .next t ∧ t.posts = [] ∧ t = { s with posts := t.posts })

/-- The release of a page reaches every core that holds a walk on it: the walk is released, with its entry address kept; every
other walk stays held (R339). -/
def Rule.WalksAreReleased : Prop :=
  ∀ (s : State) (vpn : BitVec 20),
    clocked s = true →
    ∃ t, exec (.walkRelease vpn) s = .next t ∧
      (∀ n w, n < 16 * s.part.dies → (coreAt s n).held = some w → w.va / 1024 = vpn.toNat →
        (coreAt t n).held = some { w with released := true }) ∧
      (∀ n w, (coreAt s n).held = some w → w.va / 1024 ≠ vpn.toNat → (coreAt t n).held = some w) ∧
      (∀ m k, ctxAt t m k = ctxAt s m k) ∧ t.mem = s.mem

/-- What a core block does besides its instructions: it selects a context, fetches ahead, writes a corrected word back, is held off
by a timed access, performs and acknowledges invalidations, and goes on with a walk that is released (R26, R36, R226, R261, R322 to
R326, R339). -/
def Obligations.CoreBlockEvents : Prop :=
  Rule.ContextSelection ∧ Rule.FetchAhead ∧ Rule.EccWriteBack ∧ Rule.TimedSteal ∧ Rule.InvalidationsArriveAndAreAcknowledged ∧ Rule.WalksAreReleased

/-! ## The fabric -/

/-- The isolation of region g as the statements read it: its bit is set, its domains are held in reset until software or a die reset
releases them, Run has become Degraded, and none of the die's events names one of its channels (R47, R445, R624). -/
def Isolated (s t : State) (g : Nat) : Prop :=
  t.isol.getLsbD g = true ∧
  (∀ k ∈ regionDoms g, (dom t k).held = true) ∧
  t.safety = (if s.safety = .run then .degraded else s.safety) ∧
  (∀ i, ((reed t (g / 4)).entry i).live = true →
    ¬ (24 * (g % 4) ≤ ((reed t (g / 4)).entry i).chan ∧ ((reed t (g / 4)).entry i).chan < 24 * (g % 4) + 24))

/-- Errors are contained: a report is captured at the region error manager; a register-file parity error and a contained error
hold the block's domains in reset, core and bank, which empties its contexts, or the channel block's; an uncontained error or a
silent region isolates the region when it is the first of its die and moves the package to Mire when it is the second; an error of
die services moves it to Mire with LASTMIRE cause 2 (R30, R40, R41, R46, R47, R49, R640). -/
def Obligations.ErrorContainment : Prop :=
  ∀ (s : State) (core : BitVec 7) (region : BitVec 5) (cause : BitVec 5) (info : BitVec 30) (b : BitVec 2),
    let n := core.toNat
    let g := region.toNat
    let d := g / 4
    let heldBlock := fun (t : State) (k : Nat) =>
      (dom t (domKey (k / 16) (k % 16))).held = true ∧ (dom t (domKey (k / 16) (k % 16))).rstUntil = none ∧
      (∀ h, (ctxAt t k h).st = .empty) ∧ t.safety = s.safety ∧ t.isol = s.isol
    (unitWorks s (corePg n) = true → ∃ t, exec (.regfileParityError core) s = .next t ∧ heldBlock t n ∧
      fld (rget t (remPg (n / 4)) 7) 17 0 = min 262143 (fld (rget s (remPg (n / 4)) 7) 17 0 + 1)) ∧
    (unitWorks s (remPg g) = true →
      (∃ t, exec (.regionErrorReport region cause info .record) s = .next t ∧ Captured s t (remPg g) cause.toNat info.toNat ∧
        t = { s.noted t with regs := t.regs } ∧ RegsKept s t (captureRegs (remPg g))) ∧
      (∃ t, exec (.regionErrorReport region cause info (.holdBlock b)) s = .next t ∧
        heldBlock t (4 * g + b.toNat) ∧ (dom t (domKey d (16 + (4 * (g % 4) + b.toNat)))).held = true ∧ Captured s t (remPg g) cause.toNat info.toNat) ∧
      (∃ t, exec (.regionErrorReport region cause info .holdChannels) s = .next t ∧
        (dom t (domKey d (32 + g % 4))).held = true ∧ voter t g = Voter.init ∧
        (∀ c, c < 24 → chan t (24 * g + c) = { Chan.init with fb := (chan s (24 * g + c)).fb }) ∧
        Captured s t (remPg g) cause.toNat info.toNat) ∧
      ((∀ r, r < 4 → s.isol.getLsbD (4 * d + r) = false) →
        (∃ t, exec (.regionErrorReport region cause info .uncontained) s = .next t ∧ Isolated s t g) ∧
        (∃ t, exec (.regionErrorReport region cause info .crossbarViolation) s = .next t ∧ Isolated s t g)) ∧
      (s.safety ≠ .mire → ∃ t, exec (.regionErrorReport region cause info .dieServices) s = .next t ∧ t.safety = .mire ∧
        rget t (pkgPg 0) 68 = (fval 35 35 1 ||| fval 34 30 2 ||| fval 29 27 d))) ∧
    (unitWorks s (diePg d 1) = true → g < 4 * s.part.dies →
      ((∀ r, r < 4 → s.isol.getLsbD (4 * d + r) = false) →
        ∃ t, exec (.heartbeatTimeout region) s = .next t ∧ Isolated s t g) ∧
      (s.isol.getLsbD g = false → (∃ r, r < 4 ∧ s.isol.getLsbD (4 * d + r) = true) →
        ∃ t, exec (.heartbeatTimeout region) s = .next t ∧ t.safety = .mire ∧ t.isol = s.isol))

/-- A crossbar output grants, of the inputs whose oldest unit asks for it while it has a credit, the next after the one granted last
in a cyclic order of its 7 inputs; timed units before bulk ones, but a bulk unit after 7 timed grants it waited through. The unit
leaves its input's buffer, with its credit on its way back, and spends a credit of the output; no other link changes. A request that
arrives with wrong parity is noted at the port of its block, which discards it (R35, R37, R38, R523, R524). -/
def Obligations.CrossbarGrants : Prop :=
  ∀ (s : State) (region : BitVec 5) (output input : BitVec 3) (timed parity : Bool),
    let g := region.toNat
    let o := output.toNat
    let p := input.toNat
    let out := 8 * g + o
    let inp := 256 + 8 * g + p
    let last := if timed then (linkAt s out).rrTimed else (linkAt s out).rrBulk
    let turn := fun q => (q + 13 - last) % 7
    linkWorks s out = true → p ∈ requesters s g o timed → last < 7 →
    (∀ q ∈ requesters s g o timed, turn p ≤ turn q) →
    (timed = true → requesters s g o false = [] ∨ (linkAt s out).bulkSkip < 7) →
    (timed = false → requesters s g o true = [] ∨ 7 ≤ (linkAt s out).bulkSkip) →
    let x := (linkAt s inp).pool timed
    let y := (linkAt s out).pool timed
    ∃ t, exec (.crossbarGrant region output input ⟨timed, parity⟩) s = .next t ∧
      (linkAt t inp).pool timed = { x with b := x.b - 1, r := x.r + 1 } ∧
      (linkAt t inp).dests timed = ((linkAt s inp).dests timed).drop 1 ∧
      (linkAt t out).pool timed = { y with s := y.s - 1, f := y.f + 1 } ∧
      (timed = true → (linkAt t out).rrTimed = p ∧
        (linkAt t out).bulkSkip = if requesters s g o false = [] then 0 else (linkAt s out).bulkSkip + 1) ∧
      (timed = false → (linkAt t out).rrBulk = p ∧ (linkAt t out).bulkSkip = 0) ∧
      (linkAt t inp).pool (!timed) = (linkAt s inp).pool (!timed) ∧ (linkAt t out).pool (!timed) = (linkAt s out).pool (!timed) ∧
      (∀ k, k ≠ inp → k ≠ out → linkAt t k = linkAt s k) ∧
      (parity = false → t.badPorts = s.badPorts) ∧ (parity = true → o < 4 → 4 * g + o ∈ t.badPorts) ∧
      (parity = true → o = 4 → 128 + g ∈ t.badPorts) ∧ t = { s with links := t.links, badPorts := t.badPorts }

/-- A link direction in Up. The class of a unit's traffic says its virtual channel. At a crossbar input a unit with a credit is
sent to an output. At a bridge on the unit's way, or at a Causeway link of the group in use, a unit waits for its grant, one in a
fabric cycle: timed before bulk, but bulk when it has waited through 7 grants; the unit granted is sent with a credit and keeps
its place in the replay buffer under its sequence number. The next expected unit with a good CRC enters the receive buffer, and
any other is discarded with its credit still out and a NAK that names the next expected sequence; a credit on its way back reaches
the sender, and the units up to the one that its acknowledgement names leave the replay buffer (R36, R37, R39, R42, R43, R522 to R528; one grant in a fabric cycle is notes/assumptions/82.md). -/
def Obligations.UnitsAndCredits : Prop :=
  ∀ (s : State) (link : LinkDir) (traffic : Traffic) (bits : UnitBits) (dest : BitVec 3) (seq : BitVec 12),
    let k := linkKey link
    let l := linkAt s k
    let timed := onTimed s traffic
    let p := l.pool timed
    linkWorks s k = true → l.st = .up →
    let only := fun (t : State) => (∀ j, j ≠ k → linkAt t j = linkAt s j) ∧ t = { s with links := t.links }
    let sends := fun (y : Link) => ∃ t, exec (.unitTransmit link traffic dest) s = .next t ∧ only t ∧ linkAt t k = y
    let sent := fun (v : Bool) => { l.setPool v { l.pool v with s := (l.pool v).s - 1, f := (l.pool v).f + 1 } with
      txSeq := (l.txSeq + 1) % seqMod k, replay := l.replay ++ [(l.txSeq, v)], sentAt := some s.ticks }
    (0 < p.s → 256 ≤ k → k < 512 → dest.toNat < 7 →
      sends ((l.setPool timed { p with s := p.s - 1, f := p.f + 1 }).setDests timed (l.dests timed ++ [dest.toNat]))) ∧
    (512 ≤ k → onItsWay s k dest.toNat = true → l.replay.length < replayCap k →
      (0 < p.s → l.tWait = 0 → l.bWait = 0 → l.sentAt ≠ some s.ticks → sends { sent timed with bulkSkip := 0 }) ∧
      (timed = true → l.sentAt = some s.ticks → sends { l with tWait := l.tWait + 1 }) ∧
      (timed = false → l.sentAt = some s.ticks → sends { l with bWait := l.bWait + 1 }) ∧
      (timed = false → l.sentAt ≠ some s.ticks → 0 < l.tWait → 0 < l.timed.s → 0 < l.bulk.s →
        (l.bulkSkip < 7 → sends { sent true with tWait := l.tWait - 1, bWait := l.bWait + 1, bulkSkip := l.bulkSkip + 1 }) ∧
        (7 ≤ l.bulkSkip → sends { sent false with bulkSkip := 0 }))) ∧
    (0 < p.f → p.b < capOf k timed → k < 512 → ∃ t, exec (.unitReceive link timed seq bits) s = .next t ∧ only t ∧
      linkAt t k = l.setPool timed { p with f := p.f - 1, b := p.b + 1 }) ∧
    (0 < p.f → p.b < capOf k timed → 512 ≤ k → crcGood k bits = true → seq.toNat % seqMod k = l.rxSeq →
      ∃ t, exec (.unitReceive link timed seq bits) s = .next t ∧ only t ∧
        linkAt t k =
          { l.setPool timed { p with f := p.f - 1, b := p.b + 1 } with rxSeq := (l.rxSeq + 1) % seqMod k, nakOut := none }) ∧
    (0 < p.f → p.b < capOf k timed → 512 ≤ k → (crcGood k bits = false ∨ seq.toNat % seqMod k ≠ l.rxSeq) →
      ∃ t, exec (.unitReceive link timed seq bits) s = .next t ∧ only t ∧ linkAt t k = { l with nakOut := some l.rxSeq }) ∧
    (0 < p.r → ∃ t, exec (.creditReturn link ⟨timed, none⟩) s = .next t ∧ only t ∧
      linkAt t k = l.setPool timed { p with s := p.s + 1, r := p.r - 1 }) ∧
    (∀ q v rest i, 0 < p.r → 512 ≤ k → l.replay = (q, v) :: rest → q < seqMod k → i ≤ rest.length → rest.length + 1 < seqMod k →
      seq.toNat % seqMod k = (q + i) % seqMod k →
      ∃ t, exec (.creditReturn link ⟨timed, some seq⟩) s = .next t ∧ only t ∧
        linkAt t k = { l.setPool timed { p with s := p.s + 1, r := p.r - 1 } with replay := rest.drop i })

/-- The sequence numbers from the oldest unit of the replay buffer of a direction to the one that an acknowledgement names (R528). -/
def ackSpan (l : Link) (k seq : Nat) : Nat :=
  (seq % seqMod k + 1 + seqMod k - (match l.replay with | [] => l.txSeq | (q, _) :: _ => q)) % seqMod k

/-- The credits of a virtual channel, held, in flight, buffered and on their way back, are as many after a transmission, an arrival
at a buffer with room, a credit return or a crossbar grant as before it, on every link; the link of the command is not retraining, and
an acknowledgement names a unit of the replay buffer or the last acknowledged one (R522 to R525). -/
def Obligations.CreditsAreConserved : Prop :=
  ∀ (s t : State) (c : Instr) (link : LinkDir) (traffic : Traffic) (timed : Bool) (dest o i : BitVec 3) (seq : BitVec 12) (bits : UnitBits)
      (parity : Bool) (ack : Option (BitVec 12)) (region : BitVec 5),
    let k := linkKey link
    let l := linkAt s k
    (l.pool timed).b < capOf k timed → l.st ≠ .retrain →
    (∀ a, ack = some a → k < 512 ∨ ackSpan l k a.toNat ≤ l.replay.length) →
    c ∈ [Instr.unitTransmit link traffic dest, .unitReceive link timed seq bits, .creditReturn link ⟨timed, ack⟩,
      .crossbarGrant region o i ⟨timed, parity⟩] →
    exec c s = .next t →
    ∀ j v, let p := (linkAt s j).pool v
      let q := (linkAt t j).pool v
      q.s + q.f + q.b + q.r = p.s + p.f + p.b + p.r

/-- Retry and retrain of a link of the mesh or of Causeway: a NAK has the units from the named one onward sent again, the
RETRYMAX-th in a row, or one outside the replay buffer, starts a retrain, as an acknowledgement outside the buffer and the loss of a
lane do; the exchange brings both directions Up, the sender with the credits the receiver has free less those of the units it sends
again, and so it does a bridge that has not been trained since its reset (notes/assumptions/87.md); the third attempt that fails takes
a bridge, and with it the package to Mire, or a Causeway link, out of service (R45, R528 to R531, Table 11.2). -/
def Obligations.LinkRetryAndRetrain : Prop :=
  ∀ (s : State) (link : LinkDir) (seq : BitVec 12) (timed : Bool),
    let k := linkKey link
    let r := reverseKey s.part k
    let l := linkAt s k
    let i := replayIndex k l (seq.toNat % seqMod k)
    linkWorks s k = true → 512 ≤ k →
    let stopped := fun (t : State) => (linkAt t k).st = .retrain ∧ (linkAt t r).st = .retrain ∧
      (linkAt t k).timed = { l.timed with f := 0, r := 0 } ∧ (linkAt t k).bulk = { l.bulk with f := 0, r := 0 } ∧
      (∀ j, j ≠ k → j ≠ r → (linkAt t j).st = (linkAt s j).st)
    (l.st = .up → i < l.replay.length → l.nakRun = 0 → 1 < retryMax s k →
      ∃ t, exec (.nak link seq) s = .next t ∧
        linkAt t k = { l with replay := l.replay.drop i, nakSeq := seq.toNat % seqMod k, nakRun := 1, nakOut := none } ∧
        (∀ j, j ≠ k → linkAt t j = linkAt s j)) ∧
    (l.st = .up → l.replay.length ≤ i ∨ retryMax s k = 1 → ∃ t, exec (.nak link seq) s = .next t ∧ stopped t) ∧
    (l.st = .up → (l.pool timed).r = 0 → (l.pool timed).b = 0 → l.replay.length < ackSpan l k seq.toNat →
      ∃ t, exec (.creditReturn link ⟨timed, some seq⟩) s = .next t ∧ stopped t) ∧
    (l.st = .up → ∃ t, exec (.laneLockLoss link) s = .next t ∧ stopped t) ∧
    (k < 544 → l.st = .off → ∃ t, exec (.retrainExchange link) s = .next t ∧ (linkAt t k).st = .up ∧ (linkAt t r).st = .up) ∧
    (l.st = .retrain → ∃ t, exec (.retrainExchange link) s = .next t ∧
      (linkAt t k).st = .up ∧ (linkAt t r).st = .up ∧ (linkAt t k).attempts = 0 ∧
      (linkAt t k).replay = l.replay.drop (replayIndex k l l.rxSeq) ∧
      (∀ v, let n := ((linkAt t k).replay.filter (fun e => e.2 == v)).length
        (linkAt t k).pool v = { s := capOf k v - (l.pool v).b - n, f := n, b := (l.pool v).b, r := 0 }) ∧
      (∀ j, j ≠ k → j ≠ r → linkAt t j = linkAt s j)) ∧
    (l.st = .retrain → l.attempts < 2 → ∃ t, exec (.retrainAttemptEnd link) s = .next t ∧
      linkAt t k = { l with attempts := l.attempts + 1 } ∧ (linkAt t r).attempts = l.attempts + 1 ∧
      t = { s with links := t.links }) ∧
    (l.st = .retrain → 2 ≤ l.attempts → ∃ t, exec (.retrainAttemptEnd link) s = .next t ∧
      (linkAt t k).st = .down ∧ (linkAt t r).st = .down ∧ (k < 544 → t.safety = .mire) ∧ (544 ≤ k → t.safety = s.safety))

/-! ## Causeway stacks -/

/-- Stack membership: a link that reaches Up shows its peer, or waits with reason 5 between two packages strapped Master; a
package strapped Master that no stack's link reaches declares a stack of its own, its ID the serial number, 10 ms after its first
link came Up; a request to join waits for its turn at the master, which in a fabric cycle decides the one of the lowest serial
number and admits the package, or refuses it; the master admits, and a package joins, at the lowest free position, a joiner never with
an earlier track time and holding its time at first (notes/assumptions/84.md); a member out of reach is removed, a follower whose
master it is holding its time; LEAVE leaves the package alone, and steps that it knows of are still taken (R536 to R542, R61). -/
def Obligations.StackMembership : Prop :=
  ∀ (s : State) (link : BitVec 2) (peer : PeerFacts) (pos : BitVec 2),
    let i := link.toNat
    let free := freePos s.stack.members
    let noted := fun (t : State) => bit (rget t (pkgPg 0) 9) 1 = true
    (linkWorks s (544 + i) = true → causewayOn s = true → cwyState s i ≠ .up → cwyState s i ≠ .retrain →
      ∃ t, exec (.linkUp link peer) s = .next t ∧ (cwy t i).peer = some peer ∧ t.stack = s.stack ∧
        cwyState t i = (if roleStrap s = 1 ∧ peer.strap = 1 then .wait else .up) ∧
        (cwy t i).waitWhy = (if roleStrap s = 1 ∧ peer.strap = 1 then 5 else 0)) ∧
    (∀ f, unitWorks s (pkgPg 0) = true → s.stack.role = 0 → roleStrap s = 1 → causewayOn s = true → upLinks s ≠ [] →
      firstUp s = some f → f + 3000000 ≤ s.ticks →
      (∀ j ∈ upLinks s, ∀ p, (cwy s j).peer = some p → p.members = 0 ∧ p.strap ≠ 1) →
      ∃ t, exec .stackDeclare s = .next t ∧ noted t ∧
        t.stack = { role := 1, pos := 0, members := 1, orphan := false, id := s.fusesRead.serno } ∧
        t = { s.noted t with stack := t.stack, regs := t.regs, cwys := t.cwys }) ∧
    (linkWorks s (544 + i) = true → cwyState s i = .up → s.stack.role = 1 →
      ∃ t, exec (.joinRequest link peer) s = .next t ∧ cwy t i = { cwy s i with joining := some peer } ∧ t = { s with cwys := t.cwys }) ∧
    (s.stack.role = 1 → i < s.part.ports → (cwy s i).joining = some peer →
      (∀ j q, j < s.part.ports → j ≠ i → (cwy s j).joining = some q → peer.serial < q.serial) →
      let t := joinTick s
      (cwy t i).joining = none ∧ t.tt = s.tt ∧ t.mem = s.mem ∧
      (s.stack.members ≠ 15 → peer.upWithAll = true →
        peer.refsOff = true → peer.members = 0 → peer.strap ≠ 1 → peer.time.toNat ≤ s.tt + 10000000 → peer.mire = false →
        s.safety ≠ .mire → noted t ∧
        t.stack = { s.stack with members := s.stack.members ||| BitVec.ofNat 4 (2 ^ free) } ∧
        (∀ j, j < s.part.ports → (j = i ∨ ((cwy s j).peer.map (fun q => q.serial)) = some peer.serial) →
          (cwy t j).pmem = true ∧ (cwy t j).ppos = BitVec.ofNat 2 free)) ∧
      (s.stack.members = 15 → t.stack = s.stack ∧ Captured s t (pkgPg 0) 25 1)) ∧
    (linkWorks s (544 + i) = true → cwyState s i = .up → s.stack.role = 0 → roleStrap s ≠ 1 → peer.members.getLsbD 0 = true →
      peer.pos = 0 → peer.members ≠ 15 → peer.upWithAll = true → refsBusy s = false → s.tt ≤ peer.time.toNat + 10000000 → peer.mire = false →
      s.safety ≠ .mire → peer.stackId ≠ s.fusesRead.serno →
      ∃ t, exec (.joinRequest link peer) s = .next t ∧ noted t ∧
        t.stack = { role := 2, pos := BitVec.ofNat 2 (freePos peer.members), orphan := false, id := peer.stackId
                    members := peer.members ||| BitVec.ofNat 4 (2 ^ freePos peer.members) } ∧
        t.tt = max s.tt peer.time.toNat ∧ t.sync.hold = true) ∧
    (unitWorks s (pkgPg 0) = true → s.stack.role ≠ 0 → s.stack.members.getLsbD pos.toNat = true → pos ≠ s.stack.pos →
      memberGone s pos.toNat = true →
      ∃ t, exec (.memberRemoval pos) s = .next t ∧ t.stack.members.getLsbD pos.toNat = false ∧
        (∀ k, k ≠ pos.toNat → t.stack.members.getLsbD k = s.stack.members.getLsbD k) ∧
        t.stack.orphan = (s.stack.orphan || decide (pos = 0)) ∧ (pos = 0 → t.sync.hold = true) ∧
        t.stack.role = s.stack.role ∧ t.stack.pos = s.stack.pos ∧ t.stack.id = s.stack.id) ∧
    (unitWorks s (pkgPg 0) = true → s.stack.role ≠ 0 →
      ∃ t, exec .leave s = .next t ∧ t.stack = Stack.init ∧
        t.sync = { Sync.init with steps := s.sync.steps, seen := s.sync.seen } ∧ (∀ j, j < s.part.ports → (cwy t j).pmem = false) ∧
        t.tt = s.tt)

/-- The time of a follower: the master sends its time, its references and its next step on every link in Up once every 1 µs; a
packet over the link to the master, with no step on its way, sets SYNCERR to the offset from the master's time,
which is the packet's time and the link's delay, counts towards the 8 in a row within 8 ns that end HOLD, and sets the rate
towards the master's time, within 500 ppm of the rate the follower takes the master's to be (by how much is a free value,
notes/assumptions/84.md); a step that it learns of is taken whole in the fabric cycle of the track time that the packet names; the
stamp of a running reference that follows the master is not stepped; 16 µs without a packet begins HOLD; half a measured round trip is the delay of a link, and its exchange
shows whether the far end has a synthetic reference (R409, R421, R427, R429, R543, R544). -/
def Obligations.StackTime : Prop :=
  ∀ (s : State) (time step stepAt : BitVec 72) (refs : List RefSample) (link : BitVec 2) (ns : BitVec 19) (synth : Bool),
    let c := cwy s link.toNat
    let off : Int := (s.tt : Int) - ((time.toNat + c.delay : Nat) : Int)
    let near := decide (-8 ≤ off ∧ off ≤ 8)
    let good := if near then min 8 (s.sync.good + 1) else 0
    (s.stack.role = 1 → s.ticks % 300 = 0 → ∀ i ∈ upLinks s,
      (cwy (syncTick s) i).sent = some { now := s.tt, step := (s.sync.steps.head?), refs := (List.range 8).map (fun k => { state := BitVec.ofNat 3 (ref s k).st.num, stamp := refNow s k }) }) ∧
    (s.stack.role = 2 → clocked s = true → s.stack.orphan = false → cwyState s link.toNat = .up → c.pmem = true → c.ppos = 0 →
      (s.sync.steps = [] → ∃ t, exec (.syncPacket link ⟨time, 0, stepAt⟩ refs) s = .next t ∧
        t.sync.good = good ∧ t.sync.hold = (s.sync.hold && decide (good < 8)) ∧ t.sync.last = s.ticks ∧
        (-(2 ^ 34 : Int) ≤ t.sync.base → t.sync.base ≤ 2 ^ 34 →
          t.sync.base - 549755813 ≤ t.sync.rate.toInt ∧ t.sync.rate.toInt ≤ t.sync.base + 549755813 ∧
          (0 < off → t.sync.rate.toInt < t.sync.base) ∧ (off < 0 → t.sync.base < t.sync.rate.toInt)) ∧
        (-131072 ≤ off → off ≤ 131071 → rget t ttimePg 21 = (BitVec.ofInt 18 off).setWidth 36) ∧
        (∀ k x, refSrc s k = 4 → (ref s k).st = .locked → refs[rfld s phrefPg (16 + 4 * k) 19 17]? = some x → x.state = 2 →
          (ref t k).st = .locked ∧ (ref t k).stamp = (ref s k).stamp) ∧
        t.tt = s.tt ∧ t.stack = s.stack) ∧
      (step ≠ 0 → s.sync.seen < stepAt.toNat → ∃ t, exec (.syncPacket link ⟨time, step, stepAt⟩ refs) s = .next t ∧
        t.sync.steps = s.sync.steps ++ [(stepAt.toNat, step.toNat)] ∧ t.sync.seen = stepAt.toNat ∧ t.tt = s.tt)) ∧
    (∀ rest, s.sync.steps = (stepAt.toNat, step.toNat) :: rest →
      (s.tt < stepAt.toNat → stepDue s = s) ∧
      (stepAt.toNat ≤ s.tt → (stepDue s).tt = (s.tt + step.toNat) % 2 ^ 72 ∧ (stepDue s).sync.steps = rest)) ∧
    (s.stack.role = 2 → clocked s = true → s.sync.last + 4800 ≤ s.ticks →
      ∃ t, exec .syncTimeout s = .next t ∧ t.sync = { s.sync with hold := true, good := 0 } ∧ t.tt = s.tt ∧
        (s.sync.hold = false → bit (rget t ttimePg 9) 1 = true)) ∧
    (linkWorks s (544 + link.toNat) = true → cwyState s link.toNat = .up →
      ∃ t, exec (.roundTripMeasure link ⟨ns, synth⟩) s = .next t ∧
        cwy t link.toNat = { cwy s link.toNat with delay := ns.toNat / 2, synth := synth } ∧ t = { s with cwys := t.cwys })

/-! ## Register pages -/

/-- The registers every page has: FEAT_ACCEPT takes only bits offered, and V3 of a SLUICE page is 0, lane C in no window, without
VOTE3 (R485, R715); EN = 1 is taken with BASE accepted and no reason of the unit
against it, refused with cause 2 otherwise, EN = 0 always taken; held while the domain of the page drains, but at a locked page;
ENABLED follows, and with it the drives of Axle channels (R479); ERR_FIRST is released, ERR_COUNT cleared, both but for the errors of the present fabric cycle (R17), LOCK set; a
locked page refuses with cause 1 (R73, R74, R76 to R80, R82). SRST returns a page's registers to their reset values, LOCK apart
(R703; notes/assumptions/30.md). Stated for EN with the unit's own bits 3 and 2 of CTL at 0. -/
def Obligations.CommonRegisters : Prop :=
  ∀ (s : State) (page : BitVec 15) (v : Word) (u : UnitTy),
    let pg := page.toNat
    let only := fun (t : State) (P : Nat → Prop) => RegsKept s t (fun p off => p = pg ∧ P off) ∧ t = { s.noted t with regs := t.regs }
    let quiet := bit v 3 = false ∧ bit v 2 = false ∧ bit (rget s pg 4) 2 = false
    (clocked s = true → draining s pg = true → bit v 0 = true →
      (locked s pg = false → ∃ t, exec (.en page v) s = .next t ∧ pg ∈ t.enHeld ∧ t = { s with enHeld := t.enHeld }) ∧
      (locked s pg = true → ∃ t, exec (.en page v) s = .next t ∧ only t (fun off => captureRegs pg pg off) ∧
        Captured s t pg 1 (regAddr pg 4))) ∧
    (unitWorks s pg = true → unitOf s.part pg = some u →
    (locked s pg = false → enabled s pg = false → u = .sluice → bit (v &&& offer s pg) 1 = false →
      ∃ t, exec (.featAcceptWrite page v) s = .next t ∧ rget t pg 3 = (v &&& offer s pg) ∧ bit (rget t pg 4) 2 = false ∧
        (v3On s (pgRegion pg) = true → ∀ w ∈ (voter t (pgRegion pg)).wins, ∀ p ∈ w.props, p.lane ≠ 2)) ∧
    (locked s pg = false → enabled s pg = false → (u = .sluice → bit (v &&& offer s pg) 1 = true) →
      ∃ t, exec (.featAcceptWrite page v) s = .next t ∧
      only t (fun off => off = 3 ∨ off = 5 ∨ off = 6 ∨ off = 7 ∨ off = 9) ∧ rget t pg 3 = (v &&& offer s pg) ∧
      (v &&& ~~~(offer s pg) = 0 → rget t pg 5 = rget s pg 5 ∧ rget t pg 7 = rget s pg 7) ∧
      (v &&& ~~~(offer s pg) ≠ 0 → bit (rget t pg 5) 2 = true ∧ Captured s t pg 2 (regAddr pg 3))) ∧
    (locked s pg = true → ∃ t, exec (.featAcceptWrite page v) s = .next t ∧ only t (fun off => captureRegs pg pg off) ∧
      Captured s t pg 1 (regAddr pg 3)) ∧
    (locked s pg = false → enabled s pg = true → ∃ t, exec (.featAcceptWrite page v) s = .next t ∧
      only t (fun off => captureRegs pg pg off) ∧ Captured s t pg 2 (regAddr pg 3)) ∧
    (locked s pg = false → enabled s pg = false → quiet → bit v 0 = true → (dom s (domOfPage pg)).drain = none →
      bit (rget s pg 3) 0 = true → (∀ w, enableWhy (rset s pg 4 w) pg = none) →
      ∃ t, exec (.en page v) s = .next t ∧ enabled t pg = true ∧ t.mem = s.mem ∧
        RegsKept s t (fun p off => p = pg ∧ off = 4)) ∧
    (locked s pg = false → enabled s pg = false → quiet → bit v 0 = true → (dom s (domOfPage pg)).drain = none →
      bit (rget s pg 3) 0 = false →
      ∃ t, exec (.en page v) s = .next t ∧ enabled t pg = false ∧ bit (rget t pg 5) 2 = true ∧ Captured s t pg 2 (regAddr pg 4)) ∧
    (locked s pg = false → bit v 0 = false → ∃ t, exec (.en page v) s = .next t ∧ enabled t pg = false) ∧
    (∃ t, exec (.enabledFollows page) s = .next t ∧ (u ≠ .chan → only t (fun off => off = 5)) ∧ t.mem = s.mem ∧
      bit (rget t pg 5) 0 = (enabled s pg && unitReady s pg) ∧
      (∀ b, b ≠ 0 → bit (rget t pg 5) b = bit (rget s pg 5) b)) ∧
    (∃ t, exec (.errFirstRelease page) s = .next t ∧ 
      (bit (evNow s pg 6) 35 = false → only t (fun off => off = 6) ∧ bit (rget t pg 6) 35 = false ∧
        (∀ b, b < 35 → bit (rget t pg 6) b = bit (rget s pg 6) b)) ∧
      (bit (evNow s pg 6) 35 = true → rget t pg 6 = evNow s pg 6 ∧ bit (rget t pg 9) 0 = true)) ∧
    (∃ t, exec (.errCountClr page) s = .next t ∧ only t (fun off => off = 7) ∧ rget t pg 7 = evNow s pg 7 ∧
      (s.evTick ≠ s.ticks → rget t pg 7 = 0)) ∧
    (∃ t, exec (.lk page) s = .next t ∧ only t (fun off => off = 10) ∧ bit (rget t pg 10) 0 = true ∧
      (∀ b, b ≠ 0 → bit (rget t pg 10) b = bit (rget s pg 10) b)) ∧
    (u ∉ [UnitTy.phref, .ttime, .sedge, .sluice, .chan, .pkg, .carr, .mgate, .tgate] → locked s pg = false →
      ∃ t, exec (.srst page) s = .next t ∧ t.mem = s.mem ∧ rget t pg 10 = rget s pg 10 ∧
        RegsKept s t (fun p _ => p = pg) ∧
        (∀ off, off < 512 → off ≠ 10 → rget t pg off = regDefault (pg * 512 + off))))

/-- A write of a register reaches its fields by their access codes, where the unit works and the target gate grants it; the other
outcomes are the capture of a locked page, a gate refusal, the discard of a request that its block's port finds with wrong parity
(R35; its cause is notes/assumptions/78.md), and the bus error of a page that is not there or has no power. A request
from another package reads or writes what RADM and the gates admit and is refused otherwise, with cause 0o34; a bit that
software clears and hardware has set in the same fabric cycle stays 1 (R13, R17, R57, R59, R70,
R82, R380, R547, R548). Stated for IRQ_MASK of every page and for every register of the pages that have no register with an effect
of its own beside the common ones. -/
def Obligations.RegisterRequests : Prop :=
  ∀ (s : State) (st : Stamp) (addr : BitVec 24) (v : Word) (u : UnitTy),
    let pg := addr.toNat / 512
    let off := addr.toNat % 512
    let rst := remoteStamp st
    clocked s = true →
    let answered := fun (t : State) (w : Word) (vec cause : Nat) => t.busReply = { data := w, vec := vec, cause := cause }
    (unitOf s.part pg = some u → portReach s pg = .ok → targetOk s st (regAddr pg off) .store = true →
      (off = 8 ∨ (u ∈ [UnitTy.dem, .brg, .xbar, .rem, .bank, .dma, .cbk, .tgate, .cwy, .prp, .emp] ∧ off ≠ 3 ∧ off ≠ 4 ∧ off ≠ 7)) →
      (off = 6 → bit (evNow s pg 6) 35 = false) →
      ((u.lockable off && locked s pg) = false → ∃ t, exec (.registerWrite st addr v) s = .next t ∧ answered t 0 0 0 ∧
        rget t pg off = (applyWrite (u.fields off) (rget s pg off) v ||| (evNow s pg off &&& wcMask (u.fields off))) ∧
        RegsKept s t (fun p o => p = pg ∧ o = off) ∧
        t = { s with regs := t.regs, busReply := t.busReply }) ∧
      ((u.lockable off && locked s pg) = true → ∃ t, exec (.registerWrite st addr v) s = .next t ∧ answered t 0 0 0 ∧
        Captured s t pg 1 (regAddr pg off) ∧ RegsKept s t (captureRegs pg))) ∧
    (portReach s pg = .ok → pageStoreWaits s st pg off v = false → targetOk s st (regAddr pg off) .store = false →
      ∃ t, exec (.registerWrite st addr v) s = .next t ∧ answered t 0 12 4 ∧ t.mem = s.mem) ∧
    (∀ p, pageReach s pg = .ok → portOfPage pg = some p → p ∈ s.badPorts → off = 8 →
      ∃ t cause, exec (.registerWrite st addr v) s = .next t ∧ answered t 0 8 cause ∧ p ∉ t.badPorts ∧ rget t pg 8 = rget s pg 8 ∧
        t.mem = s.mem) ∧
    (pageReach s pg = .unpopulated → ∃ t, exec (.registerWrite st addr v) s = .next t ∧ answered t 0 8 1 ∧
      Captured s t (dsvPg st.die.toNat) 5 (regAddr pg off) ∧ RegsKept s t (captureRegs (dsvPg st.die.toNat))) ∧
    (pageReach s pg = .down → off = 8 → ∃ t, exec (.registerWrite st addr v) s = .next t ∧ answered t 0 8 3 ∧
      Captured s t (dsvPg st.die.toNat) 3 (regAddr pg off) ∧ RegsKept s t (captureRegs (dsvPg st.die.toNat))) ∧
    (unitOf s.part pg = some u → radmAdmits s pg = true → portReach s pg = .ok → off = 8 →
      targetOk s rst (regAddr pg off) .load = true →
      ∃ t, exec (.remoteRequest st addr false v) s = .next t ∧ answered t (rget s pg off &&& readMask (u.fields off)) 0 0 ∧
        t = { s with busReply := t.busReply }) ∧
    (unitOf s.part pg = some u → radmAdmits s pg = true → portReach s pg = .ok → off = 8 → locked s pg = false →
      targetOk s rst (regAddr pg off) .store = true →
      ∃ t, exec (.remoteRequest st addr true v) s = .next t ∧ answered t 0 0 0 ∧
        rget t pg off = applyWrite (u.fields off) (rget s pg off) v ∧ RegsKept s t (fun p o => p = pg ∧ o = off)) ∧
    (unitOf s.part pg = some u → radmAdmits s pg = false → ∀ store,
      ∃ t, exec (.remoteRequest st addr store v) s = .next t ∧ answered t 0 12 4 ∧
        Captured s t (pkgPg 0) 28 (pg / 2048 * 2 ^ 14 + pg % 2048 * 8) ∧ RegsKept s t (captureRegs (pkgPg 0)))

/-- A sweep: START makes EPOCH odd and begins at the region's first pair, and is refused while one runs or its ranges are no
ranges; its request for the next pair waits at the bank until two of its slots are left unused (R32, R93, R128); a pair that is a
capability with a revoked base loses both tags and keeps its bits, every other pair stays; the end makes
EPOCH even and shows the pairs cleared (R121, R122, R124, R126, R137, R138). -/
def Obligations.Sweeps : Prop :=
  ∀ (s : State) (region : BitVec 5),
    let g := region.toNat
    let pg := swpPg g
    let w := sweep s g
    let a := w.addr
    unitWorks s pg = true →
    (locked s pg = false → w.on = false → badSweepConfig s g = false →
      ∃ t, exec (.start region) s = .next t ∧
        sweep t g = { on := true, clearAll := bit (rget s pg 4) 3, phase := false, addr := g * 262144, cleared := 0 } ∧
        rget t pg 16 = (if bit (rget s pg 4) 3 then rget s pg 16 else rget s pg 16 + 1) ∧
        RegsKept s t (fun p off => p = pg ∧ off = 16) ∧ t = { s with sweeps := t.sweeps, regs := t.regs }) ∧
    (locked s pg = false → w.on = true → ∃ t, exec (.start region) s = .next t ∧ Captured s t pg 9 (regAddr pg 4) ∧
      sweep t g = w) ∧
    (locked s pg = false → w.on = false → badSweepConfig s g = true → ∃ t, exec (.start region) s = .next t ∧
      Captured s t pg 10 (regAddr pg 4) ∧ sweep t g = w) ∧
    let since := w.asked.getD (2 * s.ticks)
    (w.on = true → sweepOver s g = false → unitGranted s a (coreLive s) since 2 = false →
      ∃ t, exec (.sweepPair region) s = .next t ∧ sweep t g = { w with asked := some since } ∧ t = { s with sweeps := t.sweeps }) ∧
    (w.on = true → w.clearAll = false → sweepOver s g = false → unitGranted s a (coreLive s) since 2 = true → memReach s a = .ok → (mget s a).ecc ≠ .double →
      (mget s (a + 1)).ecc ≠ .double →
      let cap := (mget s a).tag && (mget s (a + 1)).tag
      let dead := cap && (revoked s g ({ hi := (mget s a).data, lo := (mget s (a + 1)).data, tag := true } : Cap).base).1
      ∃ t, exec (.sweepPair region) s = .next t ∧
        mget t a = (if dead then { mget s a with tag := false, ecc := .good } else mget s a) ∧
        mget t (a + 1) = (if dead then { mget s (a + 1) with tag := false, ecc := .good } else mget s (a + 1)) ∧
        (∀ p, p ≠ a → p ≠ a + 1 → mget t p = mget s p) ∧
        (sweep t g).cleared = w.cleared + (if dead then 1 else 0) ∧ (sweep t g).on = true ∧
        (a + 2 < (g + 1) * 262144 → (sweep t g).addr = a + 2) ∧ (∀ n h, ctxAt t n h = ctxAt s n h)) ∧
    (w.on = true → w.clearAll = false → sweepOver s g = true →
      ∃ t, exec (.sweepEnd region) s = .next t ∧ sweep t g = Sweep.init ∧ rget t pg 16 = rget s pg 16 + 1 ∧
        rget t pg 23 = fval 17 0 (min w.cleared 262143) ∧ bit (rget t pg 9) 1 = true ∧
        RegsKept s t (fun p off => p = pg ∧ (off = 16 ∨ off = 23 ∨ off = 9)) ∧ t = { s.noted t with sweeps := t.sweeps, regs := t.regs })

/-- The CORE page: RING sets the doorbell's pending bit, FLUSH empties the target cache, PMCTL.CLR clears the counters but for
what the present fabric cycle has counted (R17), TTB takes
its fields and no TLB entry goes (R241, R257, R307, R310); START makes an Empty context Ready with the state of a valid block, whose
valid word it clears, and STOP saves a Waiting context to its block and leaves it Empty; each is refused with cause 0o11 for a
context in another state (R264, R265, R350, R392). -/
def Obligations.CorePageCommands : Prop :=
  ∀ (s : State) (core : BitVec 7) (ctx : BitVec 2) (addr : BitVec 30) (v : Word) (b : Bool),
    let n := core.toNat
    let h := ctx.toNat
    let pg := corePg n
    let x := ctxAt s n h
    let a := addr.toNat
    let g := fun (i : Nat) => (mget s (a + i)).data
    let pair := fun (i : Nat) =>
      ({ hi := g i, lo := g (i + 1), tag := (mget s (a + i)).tag && (mget s (a + i + 1)).tag } : Cap)
    let comp := fld (g 4) 29 22
    let self := pair 0
    let tb := x.tsbBase
    let regs := fun (t : State) (P : Nat → Prop) => RegsKept s t (fun p off => p = pg ∧ P off) ∧ t = { s.noted t with regs := t.regs }
    unitWorks s pg = true →
    (∃ t, exec (.ring core) s = .next t ∧ regs t (fun off => off = 9) ∧ bit (rget t pg 9) 1 = true) ∧
    (∃ t, exec (.flush core) s = .next t ∧ coreAt t n = { coreAt s n with tc := [] } ∧ t = { s with cores := t.cores }) ∧
    (∃ t, exec (.pmctlClr core) s = .next t ∧ regs t (fun off => 65 ≤ off ∧ off ≤ 73) ∧
      (∀ off, 65 ≤ off → off ≤ 73 → rget t pg off = evNow s pg off)) ∧
    (locked s pg = false → ∃ t, exec (.ttbWrite core v) s = .next t ∧ regs t (fun off => off = 176) ∧
      bit (rget t pg 176) 35 = bit v 35 ∧ fld (rget t pg 176) 29 10 = fld v 29 10) ∧
    (x.st = .empty → (∀ i, i < 20 → memReach s (a + i) = .ok ∧ (mget s (a + i)).ecc ≠ .double) → marked s (a + 15) = false →
      selfOk self = true → fld (g 4) 1 0 ≠ 3 → readySetOf (coreAt s n) comp = some b → placeOk s n comp = true →
      ∃ t, exec (.ctxbindStart core ctx addr) s = .next t ∧
        (ctxAt t n h).st = .ready ∧ (ctxAt t n h).pcc = (pair 2).move (pair 2).cursor ∧ (ctxAt t n h).comp = comp ∧ (ctxAt t n h).priv = fld (g 4) 1 0 ∧
        (ctxAt t n h).win = g 5 &&& 63#36 ∧ (ctxAt t n h).ssp = g 7 ∧ (ctxAt t n h).setB = b ∧
        (ctxAt t n h).tsp = (self.withType 58).withCursor (self.base + fld (g 4) 1 0) ∧ (ctxAt t n h).fsp = Cap.null ∧
        (∀ i, (ctxAt t n h).wphys i = 0) ∧
        mget t (a + 15) = { data := 0, tag := false, ecc := .good } ∧ (∀ p, p ≠ a + 15 → mget t p = mget s p) ∧
        (∀ m k, ¬ (m = n ∧ k = h) → ctxAt t m k = ctxAt s m k)) ∧
    (x.st ≠ .empty → ∃ t, exec (.ctxbindStart core ctx addr) s = .next t ∧ Captured s t pg 9 addr.toNat ∧
      t = { s.noted t with regs := t.regs }) ∧
    (x.st = .waiting → x.fb = false → x.tsp.tag = true → x.tsp.otype = 58 → (coreAt s n).sb = [] → x.lates = [] →
      (∀ p, tb ≤ p → p < tb + 32 → EntryWord s n h p) →
      ∃ t, exec (.ctxbindStop core ctx) s = .next t ∧ ctxAt t n h = Ctx.init ∧
        mget t (tb + 2) = { data := x.pcc.hi, tag := x.pcc.tag, ecc := .good } ∧
        mget t (tb + 3) = { data := x.pcc.lo, tag := x.pcc.tag, ecc := .good } ∧
        (mget t (tb + 4)).data = pswOf s h x ∧ (mget t (tb + 5)).data = x.win ∧ (mget t (tb + 7)).data = x.ssp ∧
        bit (mget t (tb + 15)).data 35 = true ∧
        (∀ p, (p < tb ∨ tb + 32 ≤ p) → mget t p = mget s p) ∧
        (∀ m k, ¬ (m = n ∧ k = h) → ctxAt t m k = ctxAt s m k)) ∧
    (x.st ≠ .waiting → ∃ t, exec (.ctxbindStop core ctx) s = .next t ∧ (∃ info, Captured s t pg 9 info) ∧
      t = { s.noted t with regs := t.regs })

/-! ## Sedge -/

/-- The commands of a SEDGE page that has none in progress: POOL makes frames free frames of the die's pool (those of external
memory with EXTPOOL), RECLAIM takes free ones out, REGISTER places a page, of a Fixed compartment in the frame that the command
names, of another in a free frame that Table 7.8 allows, and enters it in the directory and its L2 entry, RELEASE writes the
entry invalid and posts the invalidation, MOVE and, with TASKMIG in force, TMOVE choose where a page or a task goes, PIN sets PIN; the end of a command
shows its result, and a RELEASE ends with its frame free and its entry gone; a command given while one is in progress is refused
with cause 0o11 (R332, R333, R342, R343, R348, R355, R364, R365, R366, Table 7.16). -/
def Obligations.SedgeCommands : Prop :=
  ∀ (s : State) (die : BitVec 3) (entry first : BitVec 30) (count vpn : BitVec 20) (comp : BitVec 8) (place : Word) (pin : Bool)
      (source : BitVec 12) (ctx : BitVec 2) (i pd k : Nat) (e : DirEnt),
    let d := die.toNat
    let ea := entry.toNat
    let f := fld place 29 10
    let lo := first.toNat / 1024
    let inRange := fun (x : Nat) => lo ≤ x ∧ x < lo + count.toNat
    let w := compcls s d comp.toNat
    unitWorks s (sedgePg d) = true → s.safety ≠ .mire →
    ((sedge s d).busy = none →
      ((∀ x, inRange x → (onChip x = true → x / 1024 = d) ∧ (onChip x = false → sedgeFeature s d 1 = true) ∧ memReach s (x * 1024) ≠ .unpopulated ∧ poolDie s x = none) →
        (sedge s d).pool.length + count.toNat ≤ 16384 →
        ∃ t, exec (.pool die first count) s = .next t ∧ (sedge t d).busy = some (4, 0, 0) ∧
          (∀ x, inRange x → poolAt t d x = .free) ∧ (∀ x, ¬ inRange x → poolAt t d x = poolAt s d x) ∧
          t = { s with sedges := t.sedges }) ∧
      (∃ t, exec (.reclaim die first count) s = .next t ∧ (sedge t d).busy = some (5, 0, 0) ∧
        (∀ x, inRange x → poolAt t d x ≠ .free ∧ (poolAt s d x ≠ .free → poolAt t d x = poolAt s d x)) ∧
        (∀ x, ¬ inRange x → poolAt t d x = poolAt s d x) ∧ t = { s with sedges := t.sedges }) ∧
      (ea < 1048576 * s.part.dies → memReach s ea = .ok → (mget s ea).ecc ≠ .double → bit (mget s ea).data 33 = true →
        fld (mget s ea).data 35 34 = 0 → clsTimed w = false → clsVital w = false → clsMode w = 0 →
        (List.range 8192).find? (fun j => !((sedge s d).entry j).v) = some i → f ≠ 0 → bit place 35 = false →
        pageAllowed w f true = true → (freeFrames s (fun x => x == f)).head? = some (pd, f) → ea / 1024 ≠ f →
        ∃ t, exec (.register die entry comp vpn place) s = .next t ∧ (sedge t d).busy = some (1, 0, i) ∧
          (sedge t d).entry i = { DirEnt.init with v := true, comp := comp, vpn := vpn.toNat, eaddr := ea, pfn := f, marked := true } ∧
          poolAt t pd f = .mapped ∧ fld (mget t ea).data 35 34 = 1 ∧ bit (mget t ea).data 33 = true ∧
          fld (mget t ea).data 29 10 = f ∧ (∀ a, a / 1024 = f → mget t a = memDefault a) ∧
          (∀ a, a ≠ ea → a / 1024 ≠ f → mget t a = mget s a) ∧
          kget (fun _ => 0) t.marks (ea / 1024) = kget (fun _ => 0) s.marks (ea / 1024) + 1) ∧
      (ea < 1048576 * s.part.dies → memReach s ea = .ok → (mget s ea).ecc ≠ .double → bit (mget s ea).data 33 = true →
        fld (mget s ea).data 35 34 = 0 → (clsTimed w || clsVital w || decide (clsMode w ≠ 0)) = true →
        (List.range 8192).find? (fun j => !((sedge s d).entry j).v) = some i →
        freeFrames s (fun x => pageAllowed w x false) ≠ [] →
        (∀ q ∈ freeFrames s (fun x => pageAllowed w x false), ea / 1024 ≠ q.2) →
        ∃ t qd g, exec (.register die entry comp vpn place) s = .next t ∧ (sedge t d).busy = some (1, 0, i) ∧
          (qd, g) ∈ freeFrames s (fun x => pageAllowed w x false) ∧ poolAt t qd g = .mapped ∧
          (sedge t d).entry i = { DirEnt.init with v := true, comp := comp, vpn := vpn.toNat, eaddr := ea, pfn := g, marked := true } ∧
          fld (mget t ea).data 35 34 = 1 ∧ bit (mget t ea).data 33 = true ∧ fld (mget t ea).data 29 10 = g % 2 ^ 20 ∧
          (∀ a, a ≠ ea → a / 1024 ≠ g → mget t a = mget s a)) ∧
      ((sedge s d).find ea = some (i, e) → e.st ≠ .moving → memReach s ea = .ok → (mget s ea).ecc ≠ .double →
        ∃ t, exec (.sedgeRelease die entry) s = .next t ∧ (sedge t d).busy = some (2, 0, i) ∧
          (sedge t d).relPost = some (s.postId, i) ∧ fld (mget t ea).data 35 34 = 0 ∧ bit (mget t ea).data 33 = false ∧
          (∀ a, a ≠ ea → mget t a = mget s a) ∧
          (postTargets s ≠ [] → ∃ p ∈ t.posts, p.id = s.postId ∧ p.poster = .sedge d ∧ p.scope = .page e.vpn ∧
            p.todo = postTargets s)) ∧
      ((sedge s d).find ea = some (i, e) → (sedge s d).entry i = e → (sedge s d).mig = none → e.st = .placed → f ≠ 0 →
        bit place 35 = false → pageAllowed (compcls s d e.comp.toNat) f true = true →
        (freeFrames s (fun x => x == f)).head? = some (pd, f) →
        ∃ t, exec (.move die entry place) s = .next t ∧ (sedge t d).busy = some (3, 0, i) ∧ t.mem = s.mem ∧
          (sedge t d).mig = some { index := i, dest := f, stage := .start, pair := 0, byMove := true, post := 0 }) ∧
      (sedgeFeature s d 3 = false → fld place 29 18 = 0 →
        ∃ t, exec (.tmove die source ctx place) s = .next t ∧ t = { s with sedges := t.sedges } ∧ (sedge t d).busy = some (6, 7, 0)) ∧
      ((sedge s d).tmig = none → sedgeFeature s d 3 = true →
        (∃ m ∈ coreNos s, (fld place 29 18 = 0 ∨ m / 4 = fld place 29 18) ∧ taskEligible s source.toNat ctx.toNat m false = true) →
        ∃ t m j, exec (.tmove die source ctx place) s = .next t ∧ (sedge t d).busy = some (6, 0, 0) ∧
          (fld place 29 18 = 0 ∨ m / 4 = fld place 29 18) ∧ taskEligible s source.toNat ctx.toNat m false = true ∧
          (ctxAt s m j).st = .empty ∧
          (sedge t d).tmig = some { src := source.toNat, ctx := ctx.toNat, dst := m, dctx := j, byCmd := true } ∧
          t.mem = s.mem ∧ t.cores = s.cores) ∧
      ((sedge s d).find ea = some (i, e) →
        ∃ t, exec (.pin die entry pin) s = .next t ∧ (sedge t d).busy = some (7, 0, i) ∧ (sedge t d).entry i = { e with pin := pin } ∧
          (∀ j, j ≠ i → (sedge t d).entry j = (sedge s d).entry j) ∧ t = { s with sedges := t.sedges }) ∧
      ((sedge s d).find ea = none → ∃ t, exec (.pin die entry pin) s = .next t ∧ (sedge t d).busy = some (7, 2, 0))) ∧
    ((sedge s d).busy ≠ none → ∃ t, exec (.pin die entry pin) s = .next t ∧ Captured s t (sedgePg d) 9 (regAddr (sedgePg d) 16) ∧
      t = { s.noted t with regs := t.regs }) ∧
    (∀ op r x, (sedge s d).busy = some (op, r, x) → op ≠ 3 → op ≠ 6 →
      ((sedge s d).relPost = none → ∃ t, exec (.sedgeCommandDone die) s = .next t ∧ (sedge t d).busy = none ∧
        rget t (sedgePg d) 20 = (fval 35 32 op ||| fval 31 27 r ||| fval 12 0 x) ∧ bit (rget t (sedgePg d) 9) 1 = true ∧
        t.mem = s.mem) ∧
      (∀ id, (sedge s d).relPost = some (id, k) → postDone s id = true → ((sedge s d).entry k).st ≠ .lost →
        poolDie s ((sedge s d).entry k).pfn = some pd →
        ∃ t, exec (.sedgeCommandDone die) s = .next t ∧ (sedge t d).busy = none ∧ (sedge t d).entry k = DirEnt.init ∧
          poolAt t pd ((sedge s d).entry k).pfn = .free ∧ t.mem = s.mem))

/-- Where the page of a migration goes: a heat report on its way counts an access at the page's own die or at the requester's, is
halved every HPERIOD, and starts a migration to a free frame of the die that leads by 2 × HEATL + THRESH; the destination is
reserved and the entry held with the invalidation posted; pairs are copied with both tags, where the banks have slots left unused
(R32); the entry is written valid with the new
frame and held walks are released; then the destination is mapped and the source free (R344, R351, R352, R355, R356). -/
def Obligations.PageMigration : Prop :=
  ∀ (s : State) (die : BitVec 3) (frame : BitVec 20) (index : BitVec 13) (m : Migration) (pd : Nat), Canonical s →
    let d := die.toNat
    let x := sedge s d
    let e := x.entry m.index
    let src := e.pfn * 1024 + 2 * m.pair
    let dst := m.dest * 1024 + 2 * m.pair
    let h := x.entry index.toNat
    ((frame.toNat, d) ∈ s.heatDue → ∃ t, exec (.heatReport frame die) s = .next t ∧
      t = { s with sedges := t.sedges, heatDue := s.heatDue.erase (frame.toNat, d) } ∧
      (∀ k i, k < s.part.dies → sedgeWorks s k = true → ((sedge s k).entry i).v = true →
        ((sedge s k).entry i).pfn = frame.toNat → ((sedge s k).entry i).st ≠ .lost →
        (onChip frame.toNat = true ∧ frame.toNat / 1024 = d →
          ((sedge t k).entry i).heatL = min 511 (((sedge s k).entry i).heatL + 1)) ∧
        (¬ (onChip frame.toNat = true ∧ frame.toNat / 1024 = d) →
          kget (fun _ => 0) ((sedge t k).entry i).heat d = min 511 (kget (fun _ => 0) ((sedge s k).entry i).heat d + 1))) ∧
      (∀ k i, ((sedge s k).entry i).pfn ≠ frame.toNat → (sedge t k).entry i = (sedge s k).entry i)) ∧
    (sedgeWorks s d = true → x.lastHalf + rfld s (sedgePg d) 28 35 18 * 1024 ≤ s.ticks →
      ∃ t, exec (.heatHalving die) s = .next t ∧ (sedge t d).lastHalf = s.ticks ∧ t.mem = s.mem ∧
        (∀ i, (x.entry i).v = true → ((sedge t d).entry i).heatL = (x.entry i).heatL / 2 ∧
          ((sedge t d).entry i).pfn = (x.entry i).pfn ∧ ((sedge t d).entry i).st = (x.entry i).st)) ∧
    (sedgeWorks s d = true → heatReady s d = true → h.v = true → h.pin = false → h.st = .placed → releasing s d index.toNat = false →
      2 * h.heatL + rfld s (sedgePg d) 28 17 9 ≤ h.remote.1 →
      heatFrames s (compcls s d h.comp.toNat) h.remote.2 ≠ [] →
      ∃ t f, exec (.heatMigrationStart die index) s = .next t ∧ onChip f = true ∧ f / 1024 = h.remote.2 ∧
        heatAllowed (compcls s d h.comp.toNat) f = true ∧ t.mem = s.mem ∧
        (sedge t d).mig = some { index := index.toNat, dest := f, stage := .start, pair := 0, byMove := false, post := 0 }) ∧
    (sedgeWorks s d = true → x.mig = some m → m.stage = .start → poolDie s m.dest = some pd → poolAt s pd m.dest = .free →
      e.st = .placed → memReach s e.eaddr = .ok → (mget s e.eaddr).ecc ≠ .double →
      ∃ t, exec (.migrationFrameGrant die) s = .next t ∧ poolAt t pd m.dest = .reserved ∧
        ((sedge t d).entry m.index).st = .moving ∧ (sedge t d).mig = some { m with stage := .breaking, post := s.postId } ∧
        fld (mget t e.eaddr).data 35 34 = 2 ∧ bit (mget t e.eaddr).data 33 = true ∧
        (∀ a, a ≠ e.eaddr → mget t a = mget s a) ∧
        (postTargets s ≠ [] → ∃ p ∈ t.posts, p.id = s.postId ∧ p.scope = .page e.vpn ∧ p.todo = postTargets s)) ∧
    (sedgeWorks s d = true → x.mig = some m → (m.stage = .copying ∨ (m.stage = .breaking ∧ postDone s m.post = true)) →
      m.pair < 512 → (mget s src).ecc ≠ .double → (mget s (src + 1)).ecc ≠ .double → marked s dst = false → e.pfn ≠ m.dest →
      filtering s = false → memReach s src ≠ .parity → memReach s dst ≠ .parity →
      (copyGranted s d m = false → exec (.migrationCopyPair die) s = .next s) ∧
      (copyGranted s d m = true →
      ∃ t, exec (.migrationCopyPair die) s = .next t ∧ (sedge t d).mig = some { m with stage := .copying, pair := m.pair + 1 } ∧
        mget t dst = { mget s src with ecc := .good } ∧ mget t (dst + 1) = { mget s (src + 1) with ecc := .good } ∧
        (∀ a, a ≠ dst → a ≠ dst + 1 → mget t a = mget s a))) ∧
    (sedgeWorks s d = true → x.mig = some m → m.stage = .copying → m.pair = 512 → memReach s e.eaddr = .ok →
      (mget s e.eaddr).ecc ≠ .double →
      ∃ t, exec (.migrationMake die) s = .next t ∧ (sedge t d).mig = some { m with stage := .made } ∧
        fld (mget t e.eaddr).data 35 34 = 1 ∧ bit (mget t e.eaddr).data 33 = true ∧
        fld (mget t e.eaddr).data 29 10 = m.dest % 2 ^ 20 ∧ (∀ a, a ≠ e.eaddr → mget t a = mget s a) ∧
        (∀ n w, n < 16 * s.part.dies → (coreAt s n).held = some w → w.va / 1024 = e.vpn →
          (coreAt t n).held = some { w with released := true })) ∧
    (∀ qd, sedgeWorks s d = true → x.mig = some m → m.stage = .made → x.waitMove = none → poolDie s m.dest = some pd →
      poolDie s e.pfn = some qd → e.pfn ≠ m.dest →
      ∃ t, exec (.migrationConfirm die) s = .next t ∧ poolAt t pd m.dest = .mapped ∧ poolAt t qd e.pfn = .free ∧
        (sedge t d).mig = none ∧ ((sedge t d).entry m.index).pfn = m.dest ∧ ((sedge t d).entry m.index).st = .placed ∧
        rget t (sedgePg d) 30 = rget s (sedgePg d) 30 + 1 ∧ t.mem = s.mem)

/-- Tasks and classes: heat starts the migration of an eligible context to an Empty one, the commit moves the whole context,
leaves the source Empty and counts; COMPCLS is one register in every die; SRST of a SEDGE page keeps COMPCLS, directory and pool;
HELDMAX is cleared by its read, but for the waits that end in the same fabric cycle (R17), and FRAMES_0 latches FRAMES_1 (R344,
R346, R360, R361, R363, R364, R710). -/
def Obligations.TaskMigrationAndSedgePage : Prop :=
  ∀ (s : State) (die : BitVec 3) (source dest : BitVec 7) (ctx : BitVec 2) (c : BitVec 8) (v : Word) (tm : TaskMig) (b : Bool),
    let d := die.toNat
    let pg := sedgePg d
    let x := ctxAt s tm.src tm.ctx
    (sedgeWorks s d = true → taskHeat s d source.toNat dest.toNat = true →
      taskEligible s source.toNat ctx.toNat dest.toNat true = true →
      ∃ t j, exec (.taskMigrationStart die source ctx dest) s = .next t ∧ (ctxAt s dest.toNat j).st = .empty ∧
        (sedge t d).tmig = some { src := source.toNat, ctx := ctx.toNat, dst := dest.toNat, dctx := j, byCmd := false } ∧
        t.cores = s.cores ∧ t.mem = s.mem) ∧
    (sedgeWorks s d = true → (sedge s d).tmig = some tm → taskEligible s tm.src tm.ctx tm.dst (!tm.byCmd) = true →
      (ctxAt s tm.dst tm.dctx).st = .empty → readySetOf (coreAt s tm.dst) x.comp = some b → x.proofLoad = none →
      (x.fsp.tag = false ∨ ∀ va, va = x.fsp.top - 4 ∨ va = x.fsp.top - 2 → ∃ pa, Translates s tm.dst va .capLoad pa) →
      ∃ t, exec (.taskMigrationCommit die) s = .next t ∧ ctxAt t tm.src tm.ctx = Ctx.init ∧
        (let y := ctxAt t tm.dst tm.dctx
         y.st = .waiting ∧ y.pcc = x.pcc ∧ y.psw = x.psw ∧ y.win = x.win ∧ y.mlv = x.mlv ∧ y.ssp = x.ssp ∧ y.vba = x.vba ∧
         y.tsp = x.tsp ∧ y.fsp = x.fsp ∧ y.setB = b ∧ (∀ k, y.wphys k = x.wphys k) ∧ (∀ k, y.cphys k = x.cphys k)) ∧
        (sedge t d).tmig = none ∧ rget t pg 31 = rget s pg 31 + 1 ∧ (∀ a, mget t a = mget s a)) ∧
    (unitWorks s pg = true → (∀ k, k < s.part.dies → locked s (sedgePg k) = false) → compclsRefused s c.toNat v = false →
      ∃ t, exec (.compclsWrite die c v) s = .next t ∧ t = { s with regs := t.regs } ∧
        (∀ k, k < s.part.dies → let w := compcls t k c.toNat
          fld w 35 34 = fld v 35 34 ∧ clsTimed w = clsTimed v ∧ clsVital w = clsVital v ∧ clsPair w = clsPair v ∧
          clsDie w = clsDie v ∧ clsReg w = clsReg v ∧ fld w 17 10 = fld v 17 10 ∧ bit w 9 = bit v 9) ∧
        RegsKept s t (fun p off => (∃ k, k < s.part.dies ∧ p = sedgePg k) ∧ off = 256 + c.toNat)) ∧
    (unitWorks s pg = true → (∀ k, k < s.part.dies → locked s (sedgePg k) = false) → compclsRefused s c.toNat v = true →
      ∃ t, exec (.compclsWrite die c v) s = .next t ∧ Captured s t pg 12 c.toNat ∧ RegsKept s t (captureRegs pg)) ∧
    (unitWorks s pg = true → locked s pg = false → ∃ t, exec (.sedgeSrst die) s = .next t ∧ t = { s with regs := t.regs } ∧
      (∀ off, off < 256 → off ≠ 10 → rget t pg off = regDefault (pg * 512 + off)) ∧
      RegsKept s t (fun p off => p = pg ∧ off < 256 ∧ off ≠ 10)) ∧
    (unitWorks s pg = true → ∃ t, exec (.heldmaxRead die) s = .next t ∧ t.busReply.data = rget s pg 33 ∧ rget t pg 33 = evNow s pg 33 ∧
      RegsKept s t (fun p off => p = pg ∧ off = 33)) ∧
    (unitWorks s pg = true → ∃ t, exec (.frames0Read die) s = .next t ∧
      t.busReply.data = (fval 35 18 (poolCount s d .free) ||| fval 17 0 (poolCount s d .mapped)) ∧
      (sedge t d).frames1 = (fval 35 18 (poolCount s d .reserved) ||| fval 17 0 (sedge s d).pool.length) ∧
      t = { s with sedges := t.sedges, busReply := t.busReply })

/-! ## Gates -/

/-- RSLOAD of a set that is neither in use nor Loading makes it Loading and queues its load; of any other set it is refused, with
cause 0o14 and the address (R385, R387, Table 8.13). -/
def Rule.RsloadStarts : Prop :=
  ∀ (s : State) (core : BitVec 7) (set : Bool) (va : BitVec 30),
    let n := core.toNat
    let c := coreAt s n
    unitWorks s (mgatePg n) = true → locked s (mgatePg n) = false →
    (setInUse c set = false → setLoading c set = false →
      ∃ t, exec (.rsload core set va) s = .next t ∧ ((coreAt t n).set set).st = .loading ∧
        (coreAt t n).rsload = c.rsload ++ [(set, va.toNat)] ∧ (coreAt t n).set (!set) = c.set (!set) ∧
        t = { s with cores := t.cores }) ∧
    ((setInUse c set || setLoading c set) = true →
      ∃ t, exec (.rsload core set va) s = .next t ∧ Captured s t (mgatePg n) 12 va.toNat ∧ coreAt t n = c ∧
        t = { s.noted t with regs := t.regs })

/-- The end of the oldest load: with translation off, no sweep running and every word of the image readable, an image whose SELF
is a sealed capability of type 59 to its 768 words is in the set with its address, Ready exactly when the commit finds no fault;
any other leaves the set at Fault with code 1. SETDONE is set, the load is no longer in progress, and memory is unchanged (R377,
R385, R386, Table 8.12). With no load queued the command has no effect. -/
def Rule.RsloadEnds : Prop :=
  ∀ (s : State) (core : BitVec 7) (set : Bool) (a : Nat) (rest : List (Bool × Nat)),
    let n := core.toNat
    let c := coreAt s n
    let self : Cap := { hi := (mget s a).data, lo := (mget s (a + 1)).data, tag := (mget s a).tag && (mget s (a + 1)).tag }
    let good := self.tag = true ∧ self.otype = 59 ∧ self.base = a ∧ self.top = a + 768 ∧ a % 2 = 0
    unitWorks s (mgatePg n) = true →
    (c.rsload = [] → exec (.rsloadDone core) s = .next s) ∧
    (c.rsload = (set, a) :: rest → bit (rget s (corePg n) 176) 35 = false → filtering s = false →
      (∀ k, k < 768 → memReach s (a + k) = .ok ∧ (mget s (a + k)).ecc ≠ .double) →
      ∃ t, exec (.rsloadDone core) s = .next t ∧ (coreAt t n).rsload = c.rsload.filter (fun x => x.1 != set) ∧
        bit (rget t (mgatePg n) 9) 1 = true ∧ (∀ p, mget t p = mget s p) ∧
        (coreAt t n).set (!set) = c.set (!set) ∧
        (good →
          (∀ k, 2 ≤ k → k < 768 → ((coreAt t n).set set).word k = (mget s (a + k)).data) ∧ ((coreAt t n).set set).imgva = a ∧
          (commitFault ((coreAt t n).set set) (List.range 768) allWindows = none → ((coreAt t n).set set).st = .ready) ∧
          (commitFault ((coreAt t n).set set) (List.range 768) allWindows ≠ none → ((coreAt t n).set set).st = .fault)) ∧
        (¬ good → ((coreAt t n).set set).st = .fault ∧ ((coreAt t n).set set).fcode = 1))

/-- CLEAR makes a set that is not in use Empty, whatever its state, and ends its load; COMMIT makes an Open set Ready, or Fault with
its reason where it fails the checks of R377, and sets SETDONE. CLEAR of a set in use and COMMIT of a set that is not Open are
refused with cause 0o14 (R377, R387, R394). -/
def Rule.ClearAndCommit : Prop :=
  ∀ (s : State) (core : BitVec 7) (set : Bool),
    let n := core.toNat
    let pg := mgatePg n
    let c := coreAt s n
    unitWorks s pg = true → locked s pg = false →
    (setInUse c set = false →
      ∃ t, exec (.rsctlClear core set) s = .next t ∧ ((coreAt t n).set set).st = .empty ∧ t.mem = s.mem ∧
        (∀ k, ((coreAt t n).set set).word k = 0) ∧ (coreAt t n).set (!set) = c.set (!set) ∧
        (coreAt t n).rsload = c.rsload.filter (fun x => x.1 != set) ∧ RegsKept s t (fun p off => p = pg ∧ off = 9)) ∧
    (setInUse c set = true →
      ∃ t, exec (.rsctlClear core set) s = .next t ∧ Captured s t pg 12 1 ∧ coreAt t n = c ∧ t = { s.noted t with regs := t.regs }) ∧
    ((c.set set).st = .open → commitFault (c.set set) (List.range 768) allWindows = none →
      ∃ t, exec (.rsctlCommit core set) s = .next t ∧ ((coreAt t n).set set).st = .ready ∧ bit (rget t pg 9) 1 = true ∧
        (∀ k, ((coreAt t n).set set).word k = (c.set set).word k) ∧ (coreAt t n).set (!set) = c.set (!set)) ∧
    (∀ code slot win, (c.set set).st = .open → commitFault (c.set set) (List.range 768) allWindows = some (code, slot, win) →
      ∃ t, exec (.rsctlCommit core set) s = .next t ∧ bit (rget t pg 9) 1 = true ∧
        (coreAt t n).set set = { c.set set with st := .fault, fcode := code, fslot := slot, fwin := win }) ∧
    ((c.set set).st ≠ .open →
      ∃ t, exec (.rsctlCommit core set) s = .next t ∧ Captured s t pg 12 2 ∧ coreAt t n = c ∧ t = { s.noted t with regs := t.regs })

/-- A write of RSDATA, of the word that RSIDX names: a set that is not in use takes it and becomes Open, a load of it ending; a
set in use takes a word other than word 2 that passes the checks of R377 and its gate's epoch advances, and refuses any other with
cause 0o14; the write that would open a fifth epoch is held, and its cycles will count in PC_MEMSTALL (R377, R393, R395, R397). -/
def Rule.RsdataWrites : Prop :=
  ∀ (s : State) (core : BitVec 7) (v : Word),
    let n := core.toNat
    let pg := mgatePg n
    let c := coreAt s n
    let sel := bit (rget s pg 24) 35
    let i := fld (rget s pg 24) 9 0
    let r := c.set sel
    let wins := (slotsOfWord i).flatMap (fun sl => if sl < 130 then (List.range 4).map (fun w => (sl, w)) else [])
    let allowed := i ≠ 2 ∧ commitFault (r.setWord i v) [i] wins = none
    let takes := fun (t : State) => ((coreAt t n).set sel).word i = v ∧
      (∀ k, k ≠ i → ((coreAt t n).set sel).word k = r.word k) ∧ (coreAt t n).set (!sel) = c.set (!sel) ∧ t.mem = s.mem
    unitWorks s pg = true → locked s pg = false →
    (i < 2 ∨ 768 ≤ i → exec (.rsdataWrite core v) s = .next s) ∧
    (2 ≤ i → i < 768 →
      (setInUse c sel = false →
        ∃ t, exec (.rsdataWrite core v) s = .next t ∧ takes t ∧ ((coreAt t n).set sel).st = .open ∧ (coreAt t n).epoch = c.epoch ∧
          (coreAt t n).rsload = c.rsload.filter (fun x => x.1 != sel)) ∧
      (setInUse c sel = true → allowed → c.epochs.length < 4 →
        ∃ t, exec (.rsdataWrite core v) s = .next t ∧ takes t ∧ ((coreAt t n).set sel).st = r.st ∧
          (coreAt t n).epoch = c.epoch + 1 ∧ t = { s with cores := t.cores }) ∧
      (setInUse c sel = true → allowed → 4 ≤ c.epochs.length →
        ∃ t, exec (.rsdataWrite core v) s = .next t ∧ coreAt t n = { c with stall := some (.epoch n) } ∧
          t = { s with cores := t.cores }) ∧
      (setInUse c sel = true → ¬ allowed →
        ∃ t, exec (.rsdataWrite core v) s = .next t ∧ coreAt t n = c ∧ Captured s t pg 12 (fld v 29 0)))

/-- A target gate's entry takes a write of its fields, at a bank's gate or a region's; its Reserved bits 14 to 12 stay; a locked
page refuses with cause 1 (R16, R82, R381, Table 8.17). -/
def Rule.TargetGateEntries : Prop :=
  ∀ (s : State) (gate : BitVec 8) (index : BitVec 4) (v : Word),
    let gp := gatePg gate.toNat
    let off := 32 + index.toNat
    (gate.toNat < 160 → unitWorks s gp = true → locked s gp = false →
      ∃ t, exec (.targetGateWrite gate index v) s = .next t ∧
        fld (rget t gp off) 35 15 = fld v 35 15 ∧ fld (rget t gp off) 11 0 = fld v 11 0 ∧
        fld (rget t gp off) 14 12 = fld (rget s gp off) 14 12 ∧
        RegsKept s t (fun p o => p = gp ∧ o = off) ∧ t = { s with regs := t.regs }) ∧
    (gate.toNat < 160 → unitWorks s gp = true → locked s gp = true →
      ∃ t, exec (.targetGateWrite gate index v) s = .next t ∧ Captured s t gp 1 (regAddr gp off) ∧ RegsKept s t (captureRegs gp))

/-- GATECFG takes its mode in Boot and Proof, once no request checked under the mode before is outstanding; in another safety run
state the write is refused with cause 0o30 (R404, R405). -/
def Rule.GateModes : Prop :=
  ∀ (s : State) (v : Word),
    unitWorks s (pkgPg 0) = true → locked s (pkgPg 0) = false →
    (s.safety = .boot ∨ s.safety = .proof → anyOutstanding s = false →
      ∃ t, exec (.gatecfgWrite v) s = .next t ∧ gateMode t = fld v 1 0 ∧
        RegsKept s t (fun p off => p = pkgPg 0 ∧ off = 40) ∧ t = { s with regs := t.regs }) ∧
    (s.safety = .boot ∨ s.safety = .proof → anyOutstanding s = true → exec (.gatecfgWrite v) s = .next s) ∧
    (s.safety ≠ .boot → s.safety ≠ .proof →
      ∃ t, exec (.gatecfgWrite v) s = .next t ∧ gateMode t = gateMode s ∧ Captured s t (pkgPg 0) 24 (regAddr (pkgPg 0) 40))

/-- Rule sets and gate configuration: the load of a set and its end, CLEAR and COMMIT, direct writes, a target gate's entries, and
GATECFG (R377, R381, R384 to R387, R393 to R395, R397, R404, R405). -/
def Obligations.GateConfiguration : Prop :=
  Rule.RsloadStarts ∧ Rule.RsloadEnds ∧ Rule.ClearAndCommit ∧ Rule.RsdataWrites ∧ Rule.TargetGateEntries ∧ Rule.GateModes

/-- A block DMA descriptor that copies words, once the arbiter of its block grants it, every check passed and the ranges apart: the
destination holds the source's words with tag 0, nothing else in memory changes and no core register does; one that the arbiter does
not grant waits, and the set of its compartment is in use meanwhile (R31, R32, R321, R391, Table 3.9; notes/assumptions/25.md, notes/assumptions/74.md). -/
def Obligations.BlockDma : Prop :=
  ∀ (s : State) (core : BitVec 7) (x : DmaDesc) (b : Bool),
    let n := core.toNat
    let len := x.count.toNat
    let src := x.src.cursor
    let dst := x.dst.cursor
    let st := dmaStamp s n x b
    let reach := fun (k : Kind) (a : Nat) => memReach s a = .ok ∧ targetOk s st a k = true ∧
      ∀ slot, slotOf s a = some slot → masterChecks s a = true →
        masterCheck ((coreAt s n).set b) slot a k x.priv.toNat false = none
    unitWorks s (dmaPg n) = true → s.safety ≠ .mire → s.safety ≠ .boot →
    let since := (coreAt s n).dmaAt.getD (2 * s.ticks)
    (grantNow s n (coreLive s) (waitingFrom .dma since) 1 = false →
      ∃ t, exec (.blockDmaDescriptor core x) s = .next t ∧
        (let set := readySetOf (coreAt s n) x.comp.toNat
         coreAt t n = { coreAt s n with
           dmaAt := some since
           setA := { (coreAt s n).setA with dma := set == some false }
           setB := { (coreAt s n).setB with dma := set == some true } }) ∧
        t = { s with cores := t.cores }) ∧
    (grantNow s n (coreLive s) (waitingFrom .dma since) 1 = true → bit (rget s (corePg n) 176) 35 = false →
    readySetOf (coreAt s n) x.comp.toNat = some b → x.copyCaps = false →
    capCheck x.src (src : Nat) len [.load] = .ok () → capCheck x.dst (dst : Nat) len [.store] = .ok () →
    (∀ j, j < len → reach .load (src + j) ∧ (mget s (src + j)).ecc ≠ .double ∧ reach .store (dst + j) ∧ marked s (dst + j) = false) →
    (src + len ≤ dst ∨ dst + len ≤ src) →
    ∃ t, exec (.blockDmaDescriptor core x) s = .next t ∧ t.busReply = { data := 0, vec := 0, cause := 0 } ∧
      (∀ j, j < len → mget t (dst + j) = { data := (mget s (src + j)).data, tag := false, ecc := .good }) ∧
      (∀ a, (a < dst ∨ dst + len ≤ a) → mget t a = mget s a) ∧
      (coreAt t n).dmaAt = none ∧ (coreAt t n).setA.dma = false ∧ (coreAt t n).setB.dma = false ∧ ∀ m h, ctxAt t m h = ctxAt s m h)

/-! ## Phase references and track time -/

/-- No event that names reference k is left in a Reed of the part (R415, R417). -/
def NoEventOf (t : State) (k : Nat) : Prop :=
  ∀ d j, d < t.part.dies → ((reed t d).entry j).live = true → ((reed t d).entry j).refNo ≠ k

/-- The states of a tracked reference, a crossing of a PHREF ball counting only where the input has been below the threshold by
more than HYST since the last one, 40 ns before the comparator switched (R711, Table 15.8): from Lost and from Off by
configuration to Acquire; to Locked after LOCKN consecutive periods in range and near their mean, its stamp going on at the next
cycle; to Holdover at a crossing out of range or off the tracked period by more than 2 %, or after 1.25 periods without one, the
stamp running on; back to Locked or to Lost at the first crossing, by the phase error; to Lost after HOLDMAX cycles, which retires
every event that names it; a synthetic reference locks by itself; a change of source of a reference in use is refused (R410 to
R418, R707, Table 9.2, Table 9.3). -/
def Obligations.PhaseReferences : Prop :=
  ∀ (s : State) (i : BitVec 3) (age : BitVec 24) (low : BitVec 12) (cross ago : Nat) (v : Word),
    let k := i.toNat
    let r := ref s k
    let p := cross - r.lastCross.getD cross
    let ps := (r.periods ++ [p]).drop (r.periods.length + 1 - lockN s k)
    let e := phaseError r ago
    let seen := (refSrc s k = 1 ∧ 10 * 2 ^ fld (rget s phrefPg (16 + 4 * k)) 15 14 < low.toNat ∧ age.toNat + 12 ≤ s.ticks ∧
        cross = s.ticks - age.toNat - 12 ∧ ago = s.ticks - cross) ∨
      (refSrc s k = 2 ∧ r.due = some cross ∧ ago = s.ticks - cross)
    let off := 16 + 4 * k
    unitWorks s phrefPg = true →
    let detects := fun (P : Ref → State → Prop) => seen → ∃ t, exec (.crossingDetected i ⟨age, low⟩) s = .next t ∧ P (ref t k) t
    (refSrc s k = 1 → low.toNat ≤ 10 * 2 ^ fld (rget s phrefPg (16 + 4 * k)) 15 14 →
      ∃ t, exec (.crossingDetected i ⟨age, low⟩) s = .next t ∧ t.refs = s.refs) ∧
    (r.st = .lost → detects (fun y _ => y.st = .acquire ∧ y.lastCross = some cross ∧ y.periods = [] ∧ y.stamp = r.stamp)) ∧
    (r.st = .acquire → r.lastCross.isSome = true → periodInRange p = true → locksNow (lockN s k) ps = true →
      detects (fun y t => y.st = .locked ∧ y.period = p ∧ y.stamp = stampAfter (r.stamp.toNat / 2 ^ 24 + 1) ago p ∧
        bit (rget t phrefPg 9) (1 + k) = true)) ∧
    (r.st = .acquire → r.lastCross.isSome = true → periodInRange p = true → locksNow (lockN s k) ps = false →
      detects (fun y _ => y.st = .acquire ∧ y.periods = ps ∧ y.lastCross = some cross)) ∧
    (r.st = .acquire → r.lastCross.isSome = true → periodInRange p = false →
      detects (fun y _ => y.st = .acquire ∧ y.periods = [] ∧ y.lastCross = some cross)) ∧
    (r.st = .locked → periodInRange p = true → 50 * (p - r.period) ≤ r.period → 50 * (r.period - p) ≤ r.period →
      detects (fun y _ => y.st = .locked ∧ y.period = p ∧ y.stamp = r.stamp ∧ y.lastCross = some cross)) ∧
    (r.st = .locked → (periodInRange p = false ∨ r.period < 50 * (p - r.period) ∨ r.period < 50 * (r.period - p)) →
      detects (fun y t => y.st = .holdover ∧ y.stamp = r.stamp ∧ y.period = r.period ∧ bit (rget t phrefPg 9) (1 + k) = true)) ∧
    (r.st = .holdover → -(2 ^ 21 : Int) ≤ e → e ≤ 2 ^ 21 → detects (fun y _ => y.st = .locked ∧ y.stamp = r.stamp)) ∧
    (r.st = .holdover → ¬ (-(2 ^ 21 : Int) ≤ e ∧ e ≤ 2 ^ 21) → detects (fun y t => y.st = .lost ∧ NoEventOf t k)) ∧
    (∀ l, (refSrc s k = 1 ∨ refSrc s k = 2) → r.st = .locked → r.lastCross = some l → 5 * r.period ≤ 4 * (s.ticks - l) →
      ∃ t, exec (.crossingTimeout i) s = .next t ∧ (ref t k).st = .holdover ∧ (ref t k).stamp = r.stamp ∧
        (ref t k).period = r.period) ∧
    (∀ l, r.st = .holdover → r.lastCross = some l → holdMax s k * r.period ≤ s.ticks - l → refSrc s k ≠ 4 →
      ∃ t, exec (.holdmaxExpiry i) s = .next t ∧ (ref t k).st = .lost ∧ NoEventOf t k) ∧
    (locked s phrefPg = false → (fld v 35 33 = 0 ∨ 5 ≤ fld v 35 33) →
      ∃ t, exec (.refcfgWrite i v) s = .next t ∧ (ref t k).st = .off ∧ (r.st ≠ .off → NoEventOf t k) ∧
        (∀ b, b < 36 → b ≠ 20 → b ≠ 21 → bit (rget t phrefPg off) b = bit v b)) ∧
    (locked s phrefPg = false → (fld v 35 33 = 1 ∨ fld v 35 33 = 2) → r.st = .off → refcfgRefused s k v = false →
      ∃ t, exec (.refcfgWrite i v) s = .next t ∧ (ref t k).st = .acquire ∧
        (∀ b, b < 36 → b ≠ 20 → b ≠ 21 → bit (rget t phrefPg off) b = bit v b)) ∧
    (locked s phrefPg = false → refcfgRefused s k v = true →
      ∃ t, exec (.refcfgWrite i v) s = .next t ∧ rget t phrefPg off = rget s phrefPg off ∧ t.refs = s.refs ∧
        Captured s t phrefPg 8 k) ∧
    (refSrc s k = 3 → r.st = .off → ∃ t, exec (.syntheticLock i) s = .next t ∧ (ref t k).st = .locked) ∧
    (locked s phrefPg = false → ∃ t, exec .phrefSrst s = .next t ∧ (∀ j, j < 8 → (ref t j).st = .off) ∧
      (∀ o, o < 512 → o ≠ 10 → rget t phrefPg o = regDefault (phrefPg * 512 + o)))

/-- Track time: a read of TT_LO latches TT_HI; RATE takes a magnitude up to 2^30 on a package that is no follower; STEP_HI, while
STEPEN is 1 and no synthetic reference runs in this or another package of the stack, adds the staged amount to track time, with
every window's and hold's start moved along: at once in a package alone; the master of a stack notes it for a track time its
followers learn in time (notes/assumptions/83.md), and the step is taken when that time has come. Every write of STEP_HI clears
STEP_LO; SRST keeps track time and SYNCERR (R424 to R428, R490, R544, R706). -/
def Obligations.TrackTime : Prop :=
  ∀ (s : State) (v : Word) (far : Bool) (x : Nat × Nat) (rest : List (Nat × Nat)),
    let amount : Int := signed 72 ((rget s ttimePg 19).toNat + 2 ^ 36 * v.toNat)
    let alone := s.stack.members = 0 ∨ s.stack.members = 1
    let moved := fun (t : State) (n : Nat) => ∀ g,
      (voter t g).wins.map (fun w => w.t0) = (voter s g).wins.map (fun w => w.t0 + n) ∧
      (voter t g).commits.map (fun c => c.start) = (voter s g).commits.map (fun c => c.start + n)
    (s.sync.steps = x :: rest → (x.1 ≤ s.tt → (stepDue s).tt = (s.tt + x.2) % 2 ^ 72 ∧ (stepDue s).sync.steps = rest ∧
      moved (stepDue s) x.2) ∧ (s.tt < x.1 → stepDue s = s)) ∧
    (
    unitWorks s ttimePg = true →
    (∃ t, exec .ttLoRead s = .next t ∧ t.busReply.data = BitVec.ofNat 36 s.tt ∧ rget t ttimePg 17 = BitVec.ofNat 36 (s.tt / 2 ^ 36) ∧
      t.tt = s.tt ∧ RegsKept s t (fun p off => p = ttimePg ∧ off = 17)) ∧
    (locked s ttimePg = false → ttRole s ≠ 2 → -(2 ^ 30 : Int) ≤ v.toInt → v.toInt ≤ 2 ^ 30 →
      ∃ t, exec (.rateWrite v) s = .next t ∧ rget t ttimePg 18 = v ∧ RegsKept s t (fun p off => p = ttimePg ∧ off = 18) ∧
        t = { s with regs := t.regs }) ∧
    (locked s ttimePg = false → ttRole s ≠ 2 → (v.toInt < -(2 ^ 30 : Int) ∨ 2 ^ 30 < v.toInt) →
      ∃ t, exec (.rateWrite v) s = .next t ∧ Captured s t ttimePg 9 (regAddr ttimePg 18) ∧ RegsKept s t (captureRegs ttimePg)) ∧
    (locked s ttimePg = false → ttRole s = 2 →
      ∃ t, exec (.rateWrite v) s = .next t ∧ Captured s t ttimePg 8 (regAddr ttimePg 18) ∧ RegsKept s t (captureRegs ttimePg)) ∧
    (ttRole s ≠ 2 → bit (rget s ttimePg 4) 2 = true → synthOn s = false → 0 ≤ amount → alone →
      ∃ t, exec (.stepHi ⟨v, false⟩) s = .next t ∧ (t.tt : Int) = (s.tt + amount) % 2 ^ 72 ∧ rget t ttimePg 19 = 0 ∧
        moved t amount.toNat) ∧
    (ttRole s ≠ 2 → bit (rget s ttimePg 4) 2 = true → synthOn s = false → 0 ≤ amount → ¬ alone →
      ∃ t, exec (.stepHi ⟨v, false⟩) s = .next t ∧ t.tt = s.tt ∧ rget t ttimePg 19 = 0 ∧
        t.sync.steps = s.sync.steps ++ [(max s.tt s.sync.seen + stepLead s, amount.toNat)] ∧
        t.sync.seen = max s.tt s.sync.seen + stepLead s) ∧
    (ttRole s ≠ 2 → (far = true ∨ bit (rget s ttimePg 4) 2 = false ∨ synthOn s = true ∨ amount < 0) →
      ∃ t, exec (.stepHi ⟨v, far⟩) s = .next t ∧ t.tt = s.tt ∧ t.sync = s.sync ∧ rget t ttimePg 19 = 0 ∧
        Captured s t ttimePg 10 (regAddr ttimePg 20)) ∧
    (ttRole s = 2 → ∃ t, exec (.stepHi ⟨v, far⟩) s = .next t ∧ t.tt = s.tt ∧ t.sync = s.sync ∧ rget t ttimePg 19 = 0 ∧
      Captured s t ttimePg 8 (regAddr ttimePg 20)) ∧
    (locked s ttimePg = false → ∃ t, exec .ttimeSrst s = .next t ∧ t.tt = s.tt ∧ rget t ttimePg 21 = rget s ttimePg 21 ∧
      (∀ o, o < 512 → o ≠ 10 → o ≠ 21 → rget t ttimePg o = regDefault (ttimePg * 512 + o)) ∧ t = { s with regs := t.regs }))

/-! ## Reed -/

/-- The slot i of a die's REEDEV page. -/
def slotAt (s : State) (d i : Nat) : Option Slot := kget (fun _ => none) (reed s d).slots i

/-- An insertion: INS_0 takes a slot and clears what was staged, INS_1 and INS_2 stage, INS_3 decides: refused while the reference
is not running, armed when it is accepted, held as Pending when it is the first of a vital pair, armed when the second has equal
words, discarded with its channels safe when it has others; no insert of its KEY is then due for its discard. A cancel frees the
entry of the requester's compartment. An idle slot, an unmatched insert and an unmatched cancel expire (R432 to R439, R445, Table
9.7). -/
def Obligations.EventInsertion : Prop :=
  ∀ (s : State) (st : Stamp) (die : BitVec 3) (v : Word) (second : Bool) (i k : Nat) (slot : BitVec 4) (index key : BitVec 12)
      (a b c : Word),
    let d := die.toNat
    let old := (reed s d).slotAt i st
    let e := eventOf a b c v
    let ahead := stampTicks s e.refNo (stampDiff e.trig (refNow s e.refNo))
    let diff := stampDiff e.trig (refNow s e.refNo)
    let running := fun (x : RefState) => x = .locked ∨ x = .holdover
    let shows := fun (t : State) (code j : Nat) => ∃ y, slotAt t d i = some y ∧ y.result = some (code, j)
    unitWorks s (diePg d 5) = true →
    ((reed s d).slotFor st = some i →
      (∃ t, exec (.ins0 st die v) s = .next t ∧ (reed t d).ev = (reed s d).ev ∧
        slotAt t d i = some { old with w0 := some v, w1 := none, w2 := none, result := none, last := s.ticks }) ∧
      (∃ t, exec (.insStage st die second v) s = .next t ∧ (reed t d).ev = (reed s d).ev ∧
        slotAt t d i = some { (if second then { old with w2 := some v } else { old with w1 := some v }) with last := s.ticks }) ∧
      (old.w0 = some a → old.w1 = some b → old.w2 = some c → s.safety ≠ .boot → s.safety ≠ .mire →
        (∀ q ∈ (reed s d).ev, q.2.key = e.key → discardDue s d q.2 = false) →
        (¬ running (ref s e.refNo).st → ∃ t, exec (.ins3 st die v) s = .next t ∧ shows t 3 0 ∧ (reed t d).ev = (reed s d).ev) ∧
        (running (ref s e.refNo).st → e.vital = false → badWords s d e = false → 7500 ≤ ahead → diff ≤ 2047 * 2 ^ 24 →
          e.count = 0 → e.period = 0 → keyHeld s d st.comp.toNat e = false → (reed s d).freeIndex = some k →
          (reed s d).used st.comp.toNat ≠ rfld s (reedPg d) (256 + st.comp.toNat) 25 13 →
          ∃ t, exec (.ins3 st die v) s = .next t ∧ shows t 0 k ∧
            (reed t d).entry k = { e with comp := st.comp, pdie := st.die, since := s.ticks, st := .armed } ∧
            (∀ j, j ≠ k → (reed t d).entry j = (reed s d).entry j)) ∧
        ((ref s e.refNo).st = .locked → e.vital = true → badWords s d e = false → vitalRefused s d st e = false → 7500 ≤ ahead →
          diff ≤ 2047 * 2 ^ 24 → e.count = 0 → e.period = 0 → keyHeld s d st.comp.toNat e = false →
          (pairPending s d st.comp.toNat e = none → (reed s d).freeIndex = some k →
            (reed s d).used st.comp.toNat ≠ rfld s (reedPg d) (256 + st.comp.toNat) 25 13 →
            ∃ t, exec (.ins3 st die v) s = .next t ∧ shows t 1 k ∧ ((reed t d).entry k).st = .pending ∧
              ((reed t d).entry k).sameWords e = true) ∧
          (∀ p, (reed s d).freeIndex.isSome = true → pairPending s d st.comp.toNat e = some (k, p) → p.sameWords e = true →
            ∃ t, exec (.ins3 st die v) s = .next t ∧ shows t 0 k ∧ (reed t d).entry k = { p with st := .armed, since := s.ticks }) ∧
          (∀ p, (reed s d).freeIndex.isSome = true → pairPending s d st.comp.toNat e = some (k, p) → p.sameWords e = false →
            ∃ t, exec (.ins3 st die v) s = .next t ∧ shows t 11 k ∧ (reed t d).entry k = Event.init ∧
              Captured s t (reedPg d) 9 e.key))) ∧
      (bit v 35 = false → ∀ p, (reed s d).findLive (fun x => !x.vital && decide (x.key = fld v 11 0) && decide (x.comp = st.comp)) =
          some (k, p) →
        ∃ t, exec (.cancel st die v) s = .next t ∧ shows t 13 k ∧ (reed t d).entry k = Event.init) ∧
      (bit v 35 = false → (reed s d).findLive (fun x => !x.vital && decide (x.key = fld v 11 0) && decide (x.comp = st.comp)) = none →
        ∃ t, exec (.cancel st die v) s = .next t ∧ shows t 15 0 ∧ (reed t d).ev = (reed s d).ev)) ∧
    (∀ x, slotAt s d slot.toNat = some x → 65536 ≤ s.ticks - x.last →
      ∃ t, exec (.stagingSlotExpiry die slot) s = .next t ∧ slotAt t d slot.toNat = none ∧ (reed t d).ev = (reed s d).ev ∧
        t = { s with reeds := t.reeds }) ∧
    (unitWorks s (reedPg d) = true →
      (let x := (reed s d).entry index.toNat
       let m := 96 * d + x.chan
       x.st = .pending → (insWindow s d ≤ s.ticks - x.since ∨
         stampTicks s x.refNo (stampDiff x.trig (refNow s x.refNo)) ≤ 7500) →
       ∃ t, exec (.pendingInsertDiscard die index) s = .next t ∧ (reed t d).entry index.toNat = Event.init ∧
         Captured s t (reedPg d) 8 index.toNat ∧
         (x.chan < 96 → m < chanCount s → (chan s m).safe = false → (chan t m).safe = true ∧ (chan t m).cause = 5)) ∧
      (∀ y j x, (reed s d).cancels.find? (fun z => decide (z.key.toNat = key.toNat ∧ insWindow s d ≤ s.ticks - z.since)) = some y →
        (reed s d).findLive (cancelOf s d y) = some (j, x) →
        let m := 96 * d + x.chan
        ∃ t, exec (.pendingCancelExpiry die key) s = .next t ∧ (reed t d).entry j = Event.init ∧ y ∉ (reed t d).cancels ∧
          (x.chan < 96 → m < chanCount s → (chan s m).safe = false → (chan t m).safe = true ∧ (chan t m).cause = 5)))

/-- An event goes out 20 µs before its trigger in order of trigger, and a vital one not in Holdover without HOLDVIT. At its trigger
an output action is applied to a channel that is up and not safe, with the matching commit where it is vital: GDON and GDOFF light
and unlight, LEVEL sets the level, TOGGLE turns over, BURST runs from a rising crossing for ARG cycles and GDOFF ends a Heater's
burst at one; until that crossing it waits, for each reference apart. A safe channel's event is
retired; a vital event without its commit makes the channel safe with cause 3, with another one with cause 4. MARK closes the
metering interval of a Heater, IRQ puts the event into EVFIFO. An event that has fired is Free, or goes on with its next trigger
(R440 to R443, R447, R449, R470, R475, R478, R493, R713). -/
def Obligations.EventFiring : Prop :=
  ∀ (s : State) (die : BitVec 3) (index : BitVec 12) (w : Word) (rest : List Word) (ch : BitVec 10),
    let d := die.toNat
    let k := index.toNat
    let r := reed s d
    let e := r.entry k
    let m := 96 * d + e.chan
    let x := chan s m
    let mode := chMode s m
    let outputs : List (Instr × Nat) := [(.gdon die index, 1), (.gdoff die index, 2), (.level die index, 3), (.burst die index, 4),
      (.toggle die index, 5)]
    let crossingAfter := (e.trig.toNat / 2 ^ 24 + 1) * 2 ^ 24 % 2 ^ 36
    let spaced := fun (y : Chan) => y.edges = 0 ∧ 30 ≤ s.ticks - y.gdSince
    let later := e.count = 0 ∨ 6000 ≤ stampTicks s e.refNo (e.period.toNat : Nat)
    let permitted := chanUp s m = true ∧ x.safe = false ∧ later ∧
      (e.vital = false ∨ ∃ c, commitFor s m e = some c ∧ c.action = e.action ∧ c.arg = e.argv)
    let fires := fun (c : Instr) (action : Nat) (P : Chan → Prop) =>
      triggered s d k action = true → permitted → ∃ t, exec c s = .next t ∧ P (chan t m)
    (reedFires s d = true → e.st = .armed → e.dispatched = false → ticksAhead s e ≤ 6000 →
      r.ev.any (fun p => p.2.st == .armed && !p.2.dispatched && before s p.1 p.2 k e) = false →
      (e.vital = false ∨ ((ref s e.refNo).st ≠ .holdover ∧ chVital s m = true) →
        ∃ t, exec (.eventDispatch die index) s = .next t ∧ t = { s with reeds := t.reeds } ∧
          (reed t d).entry k = { e with dispatched := true, st := if e.count = 0 then .fire else .armed } ∧
          (∀ j, j ≠ k → (reed t d).entry j = r.entry j)) ∧
      (e.vital = true → (ref s e.refNo).st = .holdover → bit (rget s phrefPg (16 + 4 * e.refNo)) 16 = false →
        ∃ t, exec (.eventDispatch die index) s = .next t ∧ (reed t d).entry k = Event.init ∧
          (e.chan < 96 → m < chanCount s → x.safe = false → (chan t m).safe = true ∧ (chan t m).cause = 7))) ∧
    fires (.gdon die index) 1 (fun y => y.lit = true ∧ y.level = x.level ∧
      (spaced x → mode = 1 ∨ mode = 4 → x.level = 65535 → y.gd = true)) ∧
    (mode ≠ 2 → fires (.gdoff die index) 2 (fun y => y.lit = false ∧ y.burstOn = false ∧
      (spaced x → mode = 4 ∨ (mode = 1 ∧ chLed s m = true) → y.gd = false))) ∧
    (mode = 2 → e.trig.toNat % 2 ^ 24 = 0 → fires (.gdoff die index) 2 (fun y => y.burstOn = false ∧ y.offArm = x.offArm ∧
      (spaced x → y.gd = false))) ∧
    (mode = 2 → e.trig.toNat % 2 ^ 24 ≠ 0 → fires (.gdoff die index) 2 (fun y => y.burstOn = x.burstOn ∧
      y.offArm = armFor { ref := e.refNo, idx := k, at_ := crossingAfter, arg := 0 } x.offArm)) ∧
    fires (.level die index) 3 (fun y => y.level = e.argv % 65536 ∧ y.lit = x.lit) ∧
    (e.trig.toNat % 2 ^ 24 = 0 → fires (.burst die index) 4 (fun y => y.burstOn = true ∧
      y.burstRef = e.refNo ∧ y.burstFrom = e.trig ∧ y.burstLeft = e.argv * 2 ^ 24 ∧ (spaced x → mode = 2 ∨ mode = 4 → y.gd = true))) ∧
    (e.trig.toNat % 2 ^ 24 ≠ 0 → fires (.burst die index) 4 (fun y =>
      y.burstArm = armFor { ref := e.refNo, idx := k, at_ := crossingAfter, arg := e.argv } x.burstArm)) ∧
    fires (.toggle die index) 5 (fun y => y.lit = !x.lit ∧ y.level = x.level) ∧
    (∀ c ∈ outputs, triggered s d k c.2 = true → permitted → ∃ t, exec c.1 s = .next t ∧
      (e.count = 0 → (reed t d).entry k = Event.init) ∧
      (e.count ≠ 0 → 6000 ≤ stampTicks s e.refNo (e.period.toNat : Nat) →
        ((reed t d).entry k).st = .armed ∧ ((reed t d).entry k).trig = e.trig + e.period ∧
        ((reed t d).entry k).count = (if e.count = 4095 then 4095 else e.count - 1)) ∧
      (∀ n, n ≠ m → chan t n = chan s n)) ∧
    (∀ c ∈ outputs, triggered s d k c.2 = true → (chanUp s m = false ∨ x.safe = true) → ∃ t, exec c.1 s = .next t ∧
      (reed t d).entry k = Event.init ∧ t.chans = s.chans ∧ fld (rget t (reedPg d) 20) 17 0 =
        min 262143 (fld (rget s (reedPg d) 20) 17 0 + 1)) ∧
    (∀ c ∈ outputs, triggered s d k c.2 = true → chanUp s m = true → x.safe = false → e.vital = true →
      (commitFor s m e = none → ∃ t, exec c.1 s = .next t ∧ (reed t d).entry k = Event.init ∧ (chan t m).safe = true ∧
        (chan t m).cause = 3) ∧
      (∀ y, commitFor s m e = some y → (y.action ≠ e.action ∨ y.arg ≠ e.argv) →
        ∃ t, exec c.1 s = .next t ∧ (reed t d).entry k = Event.init ∧ (chan t m).safe = true ∧ (chan t m).cause = 4)) ∧
    (let y := chan s ch.toNat
     clocked s = true → chanUp s ch.toNat = true → y.burstOn = true →
     (y.burstLeft : Int) ≤ stampDiff (refNow s y.burstRef) y.burstFrom →
     ∃ t, exec (.burstEnd ch) s = .next t ∧ (chan t ch.toNat).burstOn = false ∧
       (spaced y → chMode s ch.toNat = 2 → (chan t ch.toNat).gd = false) ∧ ChansKept s t ch.toNat) ∧
    (triggered s d k 6 = true → later → e.chan < 96 → chanUp s m = true → mode = 2 → ∃ t, exec (.mark die index) s = .next t ∧
      (chan t m).enlast = x.enacc ∧ (chan t m).enacc = 0 ∧ (chan t m).cycles = x.cyclesNow ∧ (chan t m).gd = x.gd ∧
      ChansKept s t m) ∧
    (triggered s d k 7 = true → r.fifo.length < 16 → ∃ t, exec (.irq die index) s = .next t ∧
      (reed t d).fifo = r.fifo ++ [fval 35 35 1 ||| fval 34 27 e.comp.toNat ||| fval 26 15 e.key ||| fval 14 12 e.refNo |||
        fval 11 0 k] ∧ bit (rget t (reedPg d) 9) 1 = true) ∧
    (unitWorks s (reedPg d) = true →
      (r.fifo = w :: rest → (evNow s (reedPg d) 19).toNat ≤ rest.length → ∃ t, exec (.evfifoRead die) s = .next t ∧ t.busReply.data = w ∧ (reed t d).fifo = rest ∧
        (reed t d).ev = r.ev) ∧
      (r.fifo.length ≤ (evNow s (reedPg d) 19).toNat → ∃ t, exec (.evfifoRead die) s = .next t ∧ t.busReply.data = 0 ∧ t.reeds = s.reeds) ∧
      (∃ t, exec (.evcnt0Read die) s = .next t ∧ t.busReply.data = (fval 35 18 (4096 - r.countIn .pending - r.countIn .armed -
        r.countIn .fire) ||| fval 17 0 (r.countIn .pending)) ∧
        (reed t d).evcnt1 = (fval 35 18 (r.countIn .armed) ||| fval 17 0 (r.countIn .fire)) ∧ (reed t d).ev = r.ev))

/-! ## Channels -/

/-- The stored halves of a sample (R458, Table 10.2): CODE is floor(V / 1.8 V × 65,536), clamped, CLIP is 1 at or beyond 0 V or
1.8 V, and in both halves of a self-test frame. -/
def sampleOf (a b : Int) (fb test : Bool) : Word :=
  let code := fun (uv : Int) => (max 0 (min 65535 (Int.fdiv (uv * 65536) 1800000))).toNat
  let clip := fun (uv : Int) => test || decide (uv ≤ 0 ∨ 1800000 ≤ uv)
  fval 35 35 (bnat (clip a)) ||| fval 34 34 (bnat fb) ||| fval 33 18 (code a) |||
    fval 17 17 (bnat (clip b)) ||| fval 16 16 (bnat fb) ||| fval 15 0 (code b)

/-- A sample frame of a region: a Lamp channel adds the squares of its samples to its cycle while its reference runs, a Heater
channel the product of its samples over 65,536 to its energy, a Generic channel its samples to its statistics, an Axle channel the
products of its samples and its excitation to its low-pass; FB is the level sampled, and its change restarts the feedback timing.
The detector of a reference with SRC 2 arms below midscale less the hysteresis and, armed, detects the crossing by interpolation.
With the ring on, the 24 sample words of the frame go to memory in order of channel, and no other word changes. The frame after
the one in which a self-test is asked for is its frame: it changes no channel's figures, ends the test and passes where each mean
is within 64 codes. No sample changes an output (R457 to R461, R463, R469, R473, R477, R480, R483, R711; the order of a self-test
frame is notes/assumptions/20.md, the weight of the low-pass notes/assumptions/11.md). -/
def Obligations.SampleFrames : Prop :=
  ∀ (s : State) (region : BitVec 5) (xs : List Sample),
    let g := region.toNat
    let pg := cbkPg g
    let at_ := fun (c : Nat) => s.ticks - (1200 - 50 * c)
    let ringOn := enabled s pg && bit (rget s pg 4) 2
    let nfr := max 1 (rfld s pg 17 17 9)
    let idx := if (block s g).frame = 0 then 0 else ((block s g).index + 1) % nfr
    let base := rfld s pg 16 29 0 + 24 * idx
    let test := (block s g).testNow
    let code := fun (uv : Int) => (max 0 (min 65535 (Int.fdiv (uv * 65536) 1800000))).toNat
    blockWorks s g = true → xs.length = 24 →
    ∃ t, exec (.sampleFrame region xs) s = .next t ∧ t.safety = s.safety ∧ t.cores = s.cores ∧
      (∀ m, m / 24 ≠ g → chan t m = chan s m) ∧
      (∀ c (x : Sample), xs[c]? = some x →
        let m := 24 * g + c
        let y := chan s m
        let z := chan t m
        let runs := (ref s (chRef s m)).st = .locked ∨ (ref s (chRef s m)).st = .holdover
        let a : Int := (code x.a : Int) - snaOff s m
        let b : Int := (code x.b : Int) - snbOff s m
        let high := (y.phase + 300000000 - fld (chanReg s m 4) 35 18 * (s.ticks - at_ c) % 300000000) % 300000000 < 150000000
        let filtered := fun (v p : Int) => v + Int.fdiv ((p * 65536 - v) * 330212778) (2 ^ 32)
        z.fb = x.fb ∧ z.gd = y.gd ∧ z.lit = y.lit ∧ z.safe = y.safe ∧ z.cause = y.cause ∧
        (x.fb = y.fb → z.fbSince = y.fbSince) ∧ (x.fb ≠ y.fb → z.fbSince = max y.fbSince (at_ c)) ∧
        (test = false → chMode s m = 1 → runs →
          (z.sumA : Int) = y.sumA + a * a ∧ (z.sumB : Int) = y.sumB + b * b ∧ z.nSamp = y.nSamp + 1) ∧
        (test = false → chMode s m = 2 → z.enacc = y.enacc + BitVec.ofInt 72 (Int.fdiv (a * b) 65536)) ∧
        (test = false → chMode s m = 3 → bit (rget s (chanPg m) 5) 0 = true → s.safety ≠ .mire →
          z.iA = filtered y.iA (if high then a else -a) ∧ z.iB = filtered y.iB (if high then b else -b)) ∧
        (test = false → chMode s m = 4 →
          z.minA = min y.minA (code x.a) ∧ z.maxA = max y.maxA (code x.a) ∧ z.totA = y.totA + code x.a ∧
          z.minB = min y.minB (code x.b) ∧ z.maxB = max y.maxB (code x.b) ∧ z.totB = y.totB + code x.b ∧ z.nMark = y.nMark + 1) ∧
        (test = true → z.enacc = y.enacc ∧ z.sumA = y.sumA ∧ z.nMark = y.nMark ∧ z.iA = y.iA) ∧
        (∀ i, i < 8 → test = false → refSrc s i = 2 → rfld s phrefPg (16 + 4 * i) 31 22 = m →
          (ref s i).st ≠ .off →
          let r := ref s i
          let v := if bit (rget s phrefPg (16 + 4 * i)) 32 then code x.b else code x.a
          let low := v * 1800 + 10 * 2 ^ rfld s phrefPg (16 + 4 * i) 15 14 * 65536 < 32768 * 1800
          (r.armed = true → 32768 ≤ v → ref t i = { r with
            armed := false, due := some (r.codeAt + (at_ c - r.codeAt) * (32768 - r.code) / max 1 (v - r.code)) }) ∧
          (v < 32768 → ref t i = { r with armed := r.armed || decide low, code := v, codeAt := at_ c }) ∧
          (r.armed = false → 32768 ≤ v → ref t i = r))) ∧
      (ringOn = false → t.mem = s.mem ∧ (block t g).frame = (block s g).frame) ∧
      (ringOn = true → (∀ i, i < 24 → memReach s (base + i) = .ok ∧ marked s (base + i) = false ∧ base + i < 2 ^ 30) →
        (block t g).frame = (block s g).frame + 1 ∧ (block t g).index = idx ∧
        (∀ i (x : Sample), xs[i]? = some x →
          mget t (base + i) = { data := sampleOf x.a x.b (x.fb != bit (chcfg s (24 * g + i)) 27) test, tag := false, ecc := .good }) ∧
        (∀ p, (p < base ∨ base + 24 ≤ p) → mget t p = mget s p)) ∧
      (test = false → (block t g).testNow = (block s g).testPending ∧ (block t g).testPending = (block s g).testPending) ∧
      (test = true → (block t g).testPending = false ∧ (block t g).testNow = false ∧ (block t g).chkDone = true ∧
        ((∀ i (x : Sample), xs[i]? = some x → x.a = (if i < 12 then 450000 else 1350000) ∧ x.b = x.a) → (block t g).chkPass = true) ∧
        ((∀ x ∈ xs.take 12, 16448 < code x.a) → ringOn = false → (block t g).chkPass = false ∧ Captured s t pg 12 0))

/-- A channel's first cycle begins without a judgement. The end of a proving cycle: a Lamp channel that is lit and within its bounds
is proved, one that is dark and below its bound is dark, every other outcome is counted and, under its configuration, makes the
channel safe with cause 11; the cycle of a change and the one after it are not judged; a Heater channel shows its cycle's energy and
counts the cycle. A feedback that differs from ball GD for longer than FBTIME makes the channel safe with cause 10 and is shown by
PROVE, of a channel that is safe already too; an Axle condition that lasts longer than SUPTIME makes it safe with cause 12; before
the time nothing happens (R469, R473, R474, R477, R482, R516). -/
def Obligations.ChannelSupervision : Prop :=
  ∀ (s : State) (ch : BitVec 10) (x a b : Nat) (fb : Bool) (age : BitVec 32),
    let m := ch.toNat
    let y := chan s m
    let i := chRef s m
    let now := (refNow s i).toNat / 2 ^ 24
    let inLit := fld (chanReg s m 4) 35 18 ≤ a ∧ a ≤ fld (chanReg s m 4) 17 0
    let inDark := a ≤ fld (chanReg s m 5) 35 18
    let begun := fun (z : Chan) => z.cycAt = some now ∧ z.sumA = 0 ∧ z.sumB = 0 ∧ z.nSamp = 0 ∧ z.encyc = 0
    let limit := fld (chanReg s m 7) 35 18 * 300
    let since := max y.fbSince (s.ticks - age.toNat)
    let differs := bit (chcfg s m) 26 = true ∧ (fb != bit (chcfg s m) 27) ≠ gdBall s m ∧ max 1 (fld (chcfg s m) 25 18) * 300 < s.ticks - since
    m < chanCount s → blockWorks s (m / 24) = true →
    ((ref s i).st = .locked ∨ (ref s i).st = .holdover → y.cycAt = some x → x ≠ now →
      let ends := fun (P : State → Chan → Prop) => ∃ t, exec (.provingCycleEnd ch) s = .next t ∧ ChansKept s t m ∧
        begun (chan t m) ∧ P t (chan t m)
      (chMode s m = 1 → y.changed = true → ends (fun t z => z.changed = false ∧ z.skip = 1 ∧ z.proved = y.proved ∧
        z.safe = y.safe ∧ t.regs = s.regs)) ∧
      (chMode s m = 1 → y.changed = false → y.skip ≠ 0 → ends (fun t z => z.skip = 0 ∧ z.proved = y.proved ∧ z.safe = y.safe ∧
        t.regs = s.regs)) ∧
      (chMode s m = 1 → y.changed = false → y.skip = 0 → y.nSamp ≠ 0 → a < 65536 → b < 65536 →
        a * a ≤ y.sumA / y.nSamp → y.sumA / y.nSamp < (a + 1) * (a + 1) →
        b * b ≤ y.sumB / y.nSamp → y.sumB / y.nSamp < (b + 1) * (b + 1) →
        (y.lit = true → inLit → ends (fun t z => z.proved = true ∧ z.darkok = false ∧ z.safe = y.safe ∧
          z.rms = (fval 35 18 a ||| fval 17 0 b) ∧ t.regs = s.regs)) ∧
        (y.lit = false → inDark → ends (fun t z => z.darkok = true ∧ z.proved = false ∧ z.safe = y.safe ∧
          z.rms = (fval 35 18 a ||| fval 17 0 b) ∧ t.regs = s.regs)) ∧
        (¬ (y.lit = true ∧ inLit) → ¬ (y.lit = false ∧ inDark) →
          ends (fun t z => z.proved = false ∧ z.darkok = false ∧ z.provfail = (y.provfail + 1) % 2 ^ 36 ∧
            bit (rget t (cbkPg (m / 24)) 9) 2 = true ∧
            (y.safe = false → bit (chcfg s m) 17 = true → MadeSafe s t m 11) ∧
            (bit (chcfg s m) 17 = false → z.safe = y.safe ∧ z.gd = y.gd)))) ∧
      (chMode s m = 2 → ends (fun t z => z.encycShown = wordOfInt y.encyc ∧ z.cyclesNow = y.cyclesNow + 1 ∧ z.enacc = y.enacc ∧
        t.regs = s.regs))) ∧
    (y.cycAt = some now → ∃ t, exec (.provingCycleEnd ch) s = .next t ∧ t = s) ∧
    ((ref s i).st = .locked ∨ (ref s i).st = .holdover → y.cycAt = none → ∃ t, exec (.provingCycleEnd ch) s = .next t ∧
      begun (chan t m) ∧ (chan t m).proved = y.proved ∧ (chan t m).skip = y.skip ∧ t = { s with chans := t.chans }) ∧
    (differs → y.safe = false → ∃ t, exec (.feedbackTimeout ⟨ch, fb, age⟩) s = .next t ∧ MadeSafe s t m 10 ∧
      bit (rget t (cbkPg (m / 24)) 9) 2 = true) ∧
    (differs → y.safe = true → ∃ t, exec (.feedbackTimeout ⟨ch, fb, age⟩) s = .next t ∧
      chan t m = { y with fb := fb, fbSince := since } ∧ ChansKept s t m ∧ bit (rget t (cbkPg (m / 24)) 9) 2 = true) ∧
    (¬ differs → ∃ t, exec (.feedbackTimeout ⟨ch, fb, age⟩) s = .next t ∧ chan t m = { y with fb := fb, fbSince := since } ∧
      ChansKept s t m ∧ t = { s with chans := t.chans }) ∧
    (∀ u, chMode s m = 3 → y.safe = false →
      (y.supA = some u ∨ y.supB = some u ∨ y.supC = some u ∨ y.dampA = some u ∨ y.dampB = some u) → limit < s.ticks - u →
      ∃ t, exec (.axleSupervisionTimeout ch) s = .next t ∧ MadeSafe s t m 12 ∧ (chan t m).disturbed = true) ∧
    (y.supA = none → y.supB = none → y.supC = none → y.dampA = none → y.dampB = none →
      ∃ t, exec (.axleSupervisionTimeout ch) s = .next t ∧ t = s)

/-- CHCTL and CHCFG: SAFE makes the channel safe with cause 9 and leaves one that is safe with its cause; REL ends the safe state
of a channel that is not vital, with GD low and no feedback of conduction, outside Mire, and is refused with cause 9 otherwise; GD
drives a Generic channel that is not vital, on outside the safe state only, and is refused with cause 9 otherwise; CHCFG takes its
fields where the channel is Quiet and the vital rules admit them, a new MODE drives GD low, an edge of it at least 100 ns after the
last one, and a channel that goes Off goes on to show its measurements; CHCFG is refused with cause 8 otherwise and with cause 1 on
a locked page. SRST of a CHAN page resets the configuration of the channels for which that write would be performed (R444, R464 to
R466, R483, R501, R506, R518, R709). -/
def Rule.ChannelControl : Prop :=
  ∀ (s : State) (ch : BitVec 10) (v : Word) (region : BitVec 5) (j : BitVec 2),
    let m := ch.toNat
    let y := chan s m
    let spaced := y.edges = 0 ∧ 30 ≤ s.ticks - y.gdSince
    let pg := chanPg m
    let off := chanOff m 0
    let spg := regionPg region.toNat (33 + j.toNat)
    let refused := fun (c : Instr) (cause : Nat) => ∃ t, exec c s = .next t ∧ Captured s t pg cause (m % 24) ∧
      RegsKept s t (captureRegs pg) ∧ t = { s.noted t with regs := t.regs }
    (m < chanCount s → blockWorks s (m / 24) = true →
      (y.safe = false → ∃ t, exec (.chctlSafe ch) s = .next t ∧ MadeSafe s t m 9) ∧
      (y.safe = true → ∃ t, exec (.chctlSafe ch) s = .next t ∧ t = s) ∧
      (chVital s m = false → y.safe = true → y.gd = false → conducts s m = false → s.safety ≠ .mire →
        ∃ t, exec (.rel ch) s = .next t ∧ chan t m = { y with safe := false, cause := 0 } ∧ ChansKept s t m ∧ t.regs = s.regs ∧
          t.mem = s.mem) ∧
      (chVital s m = true ∨ (y.safe = true ∧ (y.gd = true ∨ conducts s m = true ∨ s.safety = .mire)) → refused (.rel ch) 9) ∧
      (chVital s m = false → y.safe = false → ∃ t, exec (.rel ch) s = .next t ∧ t = s) ∧
      (chVital s m = false → chMode s m = 4 → y.safe = false → ∃ t, exec (.chctlGdOn ch) s = .next t ∧
        (chan t m).lit = true ∧ (chan t m).level = y.level ∧ (chan t m).burstOn = false ∧ (chan t m).burstArm = [] ∧ (chan t m).offArm = [] ∧
        (spaced → s.safety ≠ .boot → 65535 ≤ y.level → (chan t m).gd = true) ∧ (spaced → y.level = 0 → (chan t m).gd = false) ∧ ChansKept s t m ∧ t.regs = s.regs) ∧
      (chVital s m = false → chMode s m = 4 → ∃ t, exec (.chctlGdOff ch) s = .next t ∧
        (chan t m).lit = false ∧ (chan t m).level = y.level ∧ (spaced → (chan t m).gd = false) ∧ (chan t m).safe = y.safe ∧
        ChansKept s t m ∧ t.regs = s.regs) ∧
      (chVital s m = true ∨ chMode s m ≠ 4 ∨ y.safe = true → refused (.chctlGdOn ch) 9) ∧
      (chVital s m = true ∨ chMode s m ≠ 4 → refused (.chctlGdOff ch) 9) ∧
      (locked s pg = false → chcfgAllowed s m v = true → ∃ t, exec (.chcfgWrite ch v) s = .next t ∧
        rget t pg off = applyWrite (UnitTy.chan.fields off) (rget s pg off) v ∧ RegsKept s t (fun p o => p = pg ∧ o = off) ∧
        ChansKept s t m ∧ (chMode t m = chMode s m → (chan t m).gd = y.gd ∧ (chan t m).edges = y.edges) ∧
        (chMode t m ≠ chMode s m → (chan t m).gdNext = false ∧ (spaced → (chan t m).gd = false) ∧
          (chMode t m = 0 → (chan t m).measMode = chMode s m)) ∧ (chan t m).lit = y.lit ∧ (chan t m).safe = y.safe ∧
        (chRef t m ≠ chRef s m → (chan t m).cycAt = none) ∧
        (bit (chcfg t m) 26 ≠ bit (chcfg s m) 26 → (chan t m).fbSince = s.ticks)) ∧
      (locked s pg = false → (quiet s m = false ∨ 4 < fld v 35 33 ∨ (bit v 32 = true ∧ (fld v 35 33 = 0 ∨ fld v 35 33 = 3)) ∨
          (s.safety ≠ .boot ∧ s.safety ≠ .proof ∧ (bit v 32 = true ∨ chVital s m = true) ∧
            (fld v 35 33 ≠ chMode s m ∨ bit v 32 ≠ chVital s m))) → refused (.chcfgWrite ch v) 8) ∧
      (locked s pg = true → ∃ t, exec (.chcfgWrite ch v) s = .next t ∧ Captured s t pg 1 (regAddr pg off) ∧
        RegsKept s t (captureRegs pg) ∧ t.chans = s.chans)) ∧
    (j.toNat < 3 → unitWorks s spg = true → locked s spg = false →
      ∃ t, exec (.chanSrst region j) s = .next t ∧ t = { s with regs := t.regs, chans := t.chans } ∧
        (∀ k, (chan t k).lit = (chan s k).lit ∧ (chan t k).safe = (chan s k).safe ∧
          (chMode t k ≠ chMode s k → (chan t k).gdNext = false ∧ (chMode t k = 0 → (chan t k).measMode = chMode s k)) ∧
          (chMode t k = chMode s k → chRef t k = chRef s k → fld (chcfg t k) 27 26 = fld (chcfg s k) 27 26 → chan t k = chan s k)) ∧
        RegsKept s t (fun p _ => p = spg) ∧
        rget t spg 10 = rget s spg 10 ∧ (∀ o, o < 64 → o ≠ 10 → rget t spg o = regDefault (spg * 512 + o)) ∧
        (∀ k r, k < 8 → r < 8 → rget t spg (64 + 32 * k + r) =
          if chcfgAllowed s (24 * region.toNat + 8 * j.toNat + k) (regDefault (spg * 512 + 64 + 32 * k)) = true then
            regDefault (spg * 512 + 64 + 32 * k + r)
          else rget s spg (64 + 32 * k + r)))

/-- The drive of a channel follows its schedule: a lit Lamp under phase control conducts in the first level / 65,536 of each half
period of its reference, at full level always; a burst begins and ends at its crossing; in the safe state the drive is low; the
excitation of an enabled Axle channel is a square wave; an edge less than 100 ns after the previous one waits (R444, R471, R475,
R479, R483, Table 10.8, Table 14.9). A read of M1 of a Heater latches the high part of its energy, and a channel that went Off shows what its mode before showed; a read of AXEV_0 removes the
oldest wheel event and latches its time; EN of a channel block needs a ring of at least one frame within one bank of the region;
SELFTEST is taken in Proof and refused with cause 8 otherwise (R462, R463, R516, R517). -/
def Rule.ChannelDriveAndReads : Prop :=
  ∀ (s : State) (ch : BitVec 10) (region : BitVec 5) (a : Armed) (w e : Word) (rest : List (Word × Word)),
    let m := ch.toNat
    let g := region.toNat
    let pg := cbkPg g
    let y := chan s m
    let spaced := y.edges = 0 ∧ 30 ≤ s.ticks - y.gdSince
    let mm := if chMode s m = 0 then y.measMode else chMode s m
    let half := (refNow s (chRef s m)).toNat % 2 ^ 23
    let runs := (ref s (chRef s m)).st = .locked ∨ (ref s (chRef s m)).st = .holdover
    let reached := fun (x : Armed) => 0 ≤ stampDiff (refNow s x.ref) (BitVec.ofNat 36 x.at_)
    let nfr := rfld s pg 17 17 9
    let lo := rfld s pg 16 29 0
    let edge := fun (P : Chan → Prop) => ∃ t, exec (.phaseControlEdge ch) s = .next t ∧ P (chan t m) ∧ ChansKept s t m ∧
      (chan t m).lit = y.lit ∧ (chan t m).level = y.level ∧ (chan t m).safe = y.safe ∧ t.regs = s.regs ∧ t.mem = s.mem
    let taken := unitWorks s pg = true ∧ locked s pg = false
    let reads := fun (d : Word) (P : Chan → Prop) => ∃ t, exec (.m1Read ch) s = .next t ∧ t.busReply.data = d ∧ P (chan t m) ∧
      ChansKept s t m ∧ t.regs = s.regs
    (m < chanCount s → blockWorks s (m / 24) = true →
      (y.safe = true → chMode s m ≠ 3 → (spaced ∨ (y.gd = false ∧ y.edges = 0)) → edge (fun z => z.gd = false)) ∧
      (y.burstArm = [] → y.offArm = [] → s.ticks - y.gdSince < 30 → edge (fun z => z.gd = y.gd)) ∧
      (chMode s m = 0 ∨ s.safety = .boot → spaced → edge (fun z => z.gd = false)) ∧
      (s.safety ≠ .boot →
        (chMode s m = 1 → chLed s m = false → y.safe = false → y.lit = true → runs → spaced → y.level < 65535 →
          edge (fun z => z.gd = decide (half < y.level * 128))) ∧
        (chMode s m = 1 → y.safe = false → y.lit = true → 65535 ≤ y.level → spaced → edge (fun z => z.gd = true)) ∧
        (chMode s m = 2 → y.safe = false → y.burstArm = [a] → reached a → y.offArm = [] → spaced →
          edge (fun z => z.gd = true ∧ z.burstOn = true ∧ z.burstRef = a.ref ∧ z.burstFrom = BitVec.ofNat 36 a.at_ ∧
            z.burstLeft = a.arg * 2 ^ 24 ∧ z.burstArm = [])) ∧
        (chMode s m = 3 → s.safety ≠ .mire → bit (rget s (chanPg m) 5) 0 = true → spaced →
          edge (fun z => z.gd = decide (y.phase < 150000000)))) ∧
      (chMode s m = 2 → y.burstArm = [] → y.offArm = [a] → reached a → spaced →
        edge (fun z => z.gd = false ∧ z.burstOn = false ∧ z.offArm = [])) ∧
      (chMode s m = 2 → (∀ x ∈ y.burstArm ++ y.offArm, ¬ reached x) → y.burstOn = false → spaced →
        edge (fun z => z.gd = false ∧ z.burstArm = y.burstArm ∧ z.offArm = y.offArm)) ∧
      (mm = 2 → reads (y.enlast.setWidth 36) (fun z => z = { y with m2 := (y.enlast >>> 36).setWidth 36 })) ∧
      (mm = 1 → reads (BitVec.ofNat 36 y.provfail) (fun z => z = y)) ∧
      (mm = 3 → reads (fval 35 18 y.cnt0 ||| fval 17 0 y.cnt1) (fun z => z = y)) ∧
      (mm = 4 → reads y.g1 (fun z => z = y)) ∧
      ((mm = 0 ∨ 5 ≤ mm) → reads 0 (fun z => z = y))) ∧
    (unitWorks s pg = true → (block s g).axfifo = (w, e) :: rest → (evNow s pg 24).toNat ≤ rest.length → ∃ t, exec (.axevRead region) s = .next t ∧
      t.busReply.data = w ∧ block t g = { block s g with axfifo := rest, axev1 := e } ∧ t.chans = s.chans ∧ t.regs = s.regs) ∧
    (unitWorks s pg = true → (block s g).axfifo.length ≤ (evNow s pg 24).toNat → ∃ t, exec (.axevRead region) s = .next t ∧ t.busReply.data = 0 ∧
      t.blocks = s.blocks ∧ t.chans = s.chans ∧ t.regs = s.regs) ∧
    (taken → s.safety = .proof → ∃ t, exec (.selftest region) s = .next t ∧ (block t g).testPending = true ∧
      t = { s with blocks := t.blocks }) ∧
    (taken → s.safety ≠ .proof → ∃ t, exec (.selftest region) s = .next t ∧ Captured s t pg 8 (regAddr pg 4) ∧
      RegsKept s t (captureRegs pg) ∧ t = { s.noted t with regs := t.regs }) ∧
    (taken → (dom s (domOfPage pg)).drain = none → bit (rget s pg 3) 0 = true → 1 ≤ nfr →
      lo / 65536 = (lo + 24 * nfr - 1) / 65536 → lo / 262144 = g →
      ∃ t, exec (.cbkEnable region) s = .next t ∧ enabled t pg = true ∧ RegsKept s t (fun p o => p = pg ∧ o = 4) ∧
        t = { s with regs := t.regs }) ∧
    (taken → (dom s (domOfPage pg)).drain = none → bit (rget s pg 3) 0 = true →
      (nfr = 0 ∨ lo / 65536 ≠ (lo + 24 * nfr - 1) / 65536 ∨ lo / 262144 ≠ g) →
      ∃ t, exec (.cbkEnable region) s = .next t ∧ Captured s t pg 10 (regAddr pg 4) ∧ bit (rget t pg 5) 2 = true ∧
        rget t pg 4 = rget s pg 4)

/-- Channels as software controls them, their drive on its schedule, and the reads and enables of a channel block (R462 to R466,
R471, R475, R479, R483, R501, R506, R516 to R518, R709). -/
def Obligations.ChannelControlAndDrive : Prop :=
  Rule.ChannelControl ∧ Rule.ChannelDriveAndReads

/-! ## Sluice and the vital enables -/

/-- The slot i of the voter of a region. -/
def pslotAt (s : State) (g i : Nat) : Option PSlot := kget (fun _ => none) (voter s g).slots i

/-- A submission to Sluice: PARG stages ARG in the requester's slot; PCMD is decided at once and leaves its result there. A
submission to a voter that is off, by a lane that is not bound or by another compartment gives 8; for a channel or an action there
is not, or without ARG, 13; for a channel that is not vital 9; a PROPOSE for a safe channel 10. The first PROPOSE opens a window;
the second lane's equal one makes the commit and its receipt; with two lanes a different one makes the channel safe with cause 2.
SAFE makes it safe with cause 9; the second RELEASE ends the safe state of a channel that is off; WITHDRAW takes the lane's
proposal back. PRES reads the result and frees the slot (R486 to R492, R499, R501, R505, Table 10.4). -/
def Obligations.SluiceSubmissions : Prop :=
  ∀ (s : State) (st : Stamp) (region : BitVec 5) (lane : BitVec 2) (v : Word) (slot : BitVec 3) (i arg : Nat) (w : Window)
      (p : Proposal),
    let g := region.toNat
    let l := lane.toNat
    let pg := propPg g l
    let vo := voter s g
    let m := 24 * g + fld v 27 23
    let key : BitVec 12 := BitVec.ofNat 12 (fld v 11 0)
    let action := fld v 31 28
    let z := vo.slotAt i st
    let mine : Proposal := { lane := l, die := st.die, release := false, action := action, arg := arg }
    let release : Proposal := { lane := l, die := st.die, release := true, action := action, arg := arg }
    let made : Commit :=
      { chan := m, key := key, action := action, arg := arg, lanes := [(p.lane, p.die), (l, st.die)], dissents := []
        start := s.tt, armed := armedFor s m key, tick := s.ticks }
    let shows := fun (t : State) (code : Nat) => ∃ y, pslotAt t g i = some y ∧ y.result = some code ∧ y.arg = none
    let gives := fun (c : Instr) (code : Nat) (P : State → Prop) => ∃ t, exec c s = .next t ∧ shows t code ∧ P t
    let lane_ := enabled s (sluicePg g) = true ∧ laneBound s g l = true ∧ st.comp.toNat = laneComp s g l
    let valid := lane_ ∧ fld v 27 23 < 24 ∧ chVital s m = true
    let proposes := valid ∧ actionAllowed (chMode s m) action = true ∧ z.arg = some arg ∧ (chan s m).safe = false ∧
      vo.commit m key = none ∧ vo.freeTok l ≠ 0
    let open_ := vo.window m key = some w ∧ s.tt < w.t0 + cwin s g
    let refuses := fun (c : Instr) (code : Nat) => gives c code (fun t => Captured s t pg 8 (fld v 29 0) ∧ t.chans = s.chans ∧
      (voter t g).wins = vo.wins ∧ (voter t g).commits = vo.commits)
    clocked s = true → pageReach s pg = .ok → l < 3 → unitOf s.part pg = some .prop →
    (vo.slotFor l st = some i → targetOk s st (regAddr pg 16) .store = true →
      ∃ t, exec (.parg st region lane v) s = .next t ∧
        pslotAt t g i = some { z with arg := some (fld v 17 0), result := none, last := s.ticks } ∧ t.regs = s.regs ∧ t.chans = s.chans) ∧
    (vo.slotFor l st = some i → targetOk s st (regAddr pg 17) .store = true → vo.window m key = none →
      (∀ c ∈ [Instr.propose st region lane v, .safe st region lane v, .release st region lane v, .withdraw st region lane v],
        (¬ lane_ → refuses c 8) ∧ (lane_ → 24 ≤ fld v 27 23 → refuses c 13)) ∧
      (lane_ → fld v 27 23 < 24 → (actionAllowed (chMode s m) action = false ∨ z.arg = none) →
        refuses (.propose st region lane v) 13) ∧
      (lane_ → fld v 27 23 < 24 → chVital s m = false → refuses (.safe st region lane v) 9 ∧ refuses (.release st region lane v) 9) ∧
      (valid → actionAllowed (chMode s m) action = true → z.arg = some arg → (chan s m).safe = true →
        refuses (.propose st region lane v) 10) ∧
      (valid → (chan s m).safe = false → refuses (.release st region lane v) 15) ∧
      (valid → refuses (.withdraw st region lane v) 15) ∧
      (proposes → vo.count m < 4 → gives (.propose st region lane v) 0 (fun t =>
        (voter t g).window m key = some { chan := m, key := key, t0 := s.tt, props := [mine] } ∧
        (voter t g).commits = vo.commits ∧ t.chans = s.chans ∧ t.regs = s.regs)) ∧
      (valid → (chan s m).safe = false → gives (.safe st region lane v) 4 (fun t => MadeSafe s t m 9)) ∧
      (valid → (chan s m).safe = true → vo.freeTok l ≠ 0 → vo.count m < 4 → gives (.release st region lane v) 6 (fun t =>
        (voter t g).window m key = some { chan := m, key := key, t0 := s.tt, props := [{ release with arg := z.arg.getD 0 }] } ∧
        t.chans = s.chans ∧ t.regs = s.regs))) ∧
    (vo.slotFor l st = some i → targetOk s st (regAddr pg 17) .store = true → open_ →
      (proposes → w.props = [p] → p.lane ≠ l → p.die ≠ st.die → p.release = false →
        (p.action = action → p.arg = arg → gives (.propose st region lane v) 1 (fun t =>
          (voter t g).window m key = none ∧ t.chans = s.chans ∧
          (voter t g).commits = vo.commits ++ [made] ∧
          bit (rget t (sluicePg g) 9) 3 = true ∧
          ((∀ k, k < 3 → bit (rget s (propPg g k) 21) 35 = false) → t.mem = s.mem) ∧
          (∀ k, k < 3 → laneBound s g k = true → bit (rget s (propPg g k) 21) 35 = true →
            (∀ j, j < 3 → j ≠ k → bit (rget s (propPg g j) 21) 35 = false) →
            let seq := rget s (propPg g k) 22
            let at_ := fld (rget s (propPg g k) 19) 29 0 + 8 * (seq.toNat % 2 ^ min 10 (fld (rget s (propPg g k) 21) 3 0))
            (∀ q, q < 8 → memReach s (at_ + q) = .ok ∧ marked s (at_ + q) = false ∧ at_ + q < 2 ^ 30) →
            (mget t (at_ + 2)).data = (fval 35 32 1 ||| fval 31 28 action ||| fval 27 23 (fld v 27 23) ||| fval 11 0 key.toNat) ∧
            (mget t (at_ + 4)).data = BitVec.ofNat 36 s.tt ∧ (mget t (at_ + 6)).data = seq ∧
            (mget t at_).tag = true ∧ (∀ q, (q < at_ ∨ at_ + 8 ≤ q) → mget t q = mget s q) ∧
            rget t (propPg g k) 22 = seq + 1))) ∧
        (¬ (p.action = action ∧ p.arg = arg) → v3On s g = false → gives (.propose st region lane v) 14 (fun t =>
          MadeSafe s t m 2))) ∧
      (valid → (chan s m).safe = true → w.props = [p] → p.lane ≠ l → p.die ≠ st.die → p.release = true →
        (chan s m).gd = false → conducts s m = false → s.safety ≠ .mire → vo.freeTok l ≠ 0 →
        gives (.release st region lane v) 5 (fun t =>
          chan t m = { chan s m with safe := false, cause := 0 } ∧ ChansKept s t m ∧ (voter t g).window m key = none ∧
          t.regs = s.regs)) ∧
      (valid → w.props = [p] → p.lane = l → gives (.withdraw st region lane v) 7 (fun t =>
        (voter t g).window m key = none ∧ (voter t g).commits = vo.commits ∧ t.chans = s.chans ∧ t.regs = s.regs))) ∧
    (targetOk s st (regAddr pg 18) .load = true →
      (vo.slotOf l st = some i → z.arg = none → ∃ t, exec (.presRead st region lane) s = .next t ∧
        t.busReply.data = fval 35 31 (z.result.getD 31) ∧ pslotAt t g i = none ∧ t.regs = s.regs) ∧
      (vo.slotOf l st = none → (l, st.die, st.core, st.ctx) ∉ vo.noSlot → ∃ t, exec (.presRead st region lane) s = .next t ∧
        t.busReply.data = fval 35 31 31 ∧ t.voters = s.voters)) ∧
    (∀ y, pslotAt s g (8 * l + slot.toNat) = some y →
      (65536 ≤ s.ticks - y.last → ∃ t, exec (.propSlotExpiry region lane slot) s = .next t ∧
        pslotAt t g (8 * l + slot.toNat) = none ∧ (voter t g).wins = vo.wins ∧ t = { s with voters := t.voters }) ∧
      (s.ticks - y.last < 65536 → ∃ t, exec (.propSlotExpiry region lane slot) s = .next t ∧ t = s))

/-- What time does in Sluice, and its configuration: a window with proposals that ends makes its channel safe, with cause 1 for
one proposal and 2 for more, and one of releases alone ends; a commit is released when its entry of Reed has become Free, and
counted as unused when no entry was Armed for it in CHOLD. EN needs the bindings of R484; a lane is bound only with EN = 0 in Boot
or Proof, and is refused with cause 9 otherwise; SRST drops windows and commits (R484, R485, R489, R492, R495, R505, R708). -/
def Obligations.SluiceTimeAndConfiguration : Prop :=
  ∀ (s : State) (ch : BitVec 10) (key : BitVec 12) (region : BitVec 5) (lane : BitVec 2) (v : Word) (w : Window) (c : Commit),
    let m := ch.toNat
    let k := m / 24
    let g := region.toNat
    let pg := sluicePg g
    let asks := w.props.filter (fun p => !p.release)
    (unitWorks s (sluicePg k) = true →
      ((voter s k).window m key = some w →
        (w.t0 + cwin s k ≤ s.tt → asks ≠ [] → (chan s m).safe = false → ∃ t, exec (.windowExpiry ch key) s = .next t ∧
          MadeSafe s t m (if 2 ≤ asks.length then 2 else 1)) ∧
        (w.t0 + cwin s k ≤ s.tt → asks = [] → ∃ t, exec (.windowExpiry ch key) s = .next t ∧ (voter t k).window m key = none ∧
          (voter t k).commits = (voter s k).commits ∧ t = { s with voters := t.voters }) ∧
        (s.tt < w.t0 + cwin s k → ∃ t, exec (.windowExpiry ch key) s = .next t ∧ t = s)) ∧
      ((voter s k).commit m key = some c →
        (c.armed = true → (∀ p ∈ (reed s (m / 96)).ev, p.2.chan = m % 96 → p.2.key = key.toNat →
            p.2.st = .free ∨ p.2.st = .pending) →
          ∃ t, exec (.commitRelease ch key) s = .next t ∧ (voter t k).commit m key = none ∧
            (voter t k).wins = (voter s k).wins ∧ t = { s with voters := t.voters }) ∧
        (c.armed = false → ∃ t, exec (.commitRelease ch key) s = .next t ∧ t = s) ∧
        (c.armed = false → c.start + chold s k ≤ s.tt → ∃ t, exec (.choldExpiry ch key) s = .next t ∧
          (voter t k).commit m key = none ∧ t.chans = s.chans ∧
          fld (rget t (sluicePg k) 24) 11 0 = min 4095 (fld (rget s (sluicePg k) 24) 11 0 + 1) ∧
          RegsKept s t (fun p o => p = sluicePg k ∧ o = 24)) ∧
        (c.armed = false → s.tt < c.start + chold s k → ∃ t, exec (.choldExpiry ch key) s = .next t ∧ t = s))) ∧
    (unitWorks s pg = true → locked s pg = false →
      ((dom s (domOfPage pg)).drain = none → bit (rget s pg 3) 0 = true →
        (laneOk s g (v3On s g) = true → ∃ t, exec (.sluiceEnable region) s = .next t ∧ enabled t pg = true ∧
          RegsKept s t (fun p o => p = pg ∧ o = 4)) ∧
        (laneOk s g (v3On s g) = false → ∃ t, exec (.sluiceEnable region) s = .next t ∧ Captured s t pg 9 (regAddr pg 4) ∧
          rget t pg 4 = rget s pg 4 ∧ bit (rget t pg 5) 2 = true)) ∧
      (lane.toNat < 3 → (lane.toNat = 2 → s.part = .tfw8x) →
        (mayBind s g = true → ∃ t, exec (.laneWrite region lane v) s = .next t ∧
          rget t pg (17 + lane.toNat) = applyWrite (UnitTy.sluice.fields (17 + lane.toNat)) (laneReg s g lane.toNat) v ∧
          RegsKept s t (fun p o => p = pg ∧ o = 17 + lane.toNat) ∧ t = { s with regs := t.regs }) ∧
        (mayBind s g = false → ∃ t, exec (.laneWrite region lane v) s = .next t ∧ Captured s t pg 9 (regAddr pg (17 + lane.toNat)) ∧
          RegsKept s t (captureRegs pg) ∧ t = { s.noted t with regs := t.regs })) ∧
      (mayBind s g = true → ∃ t, exec (.sluiceSrst region) s = .next t ∧ (voter t g).wins = [] ∧ (voter t g).commits = [] ∧
        rget t pg 10 = rget s pg 10 ∧ (∀ o, o < 512 → o ≠ 10 → rget t pg o = regDefault (pg * 512 + o)) ∧ t.chans = s.chans) ∧
      (mayBind s g = false → ∃ t, exec (.sluiceSrst region) s = .next t ∧ Captured s t pg 9 (regAddr pg 4) ∧
        t.voters = s.voters))

/-- The vital enables: ARM starts a generator in Run or Degraded with a vital pair and a window in bounds, and is refused
otherwise with cause 16; a kick by one of the two compartments with the expected value is counted in its window, one with another
value stops the generator, one by another compartment is captured; at the end of a window kicked by both from different dies the
expected value advances and the output toggles, otherwise the generator stops; STOP stops it; of several reasons in one fabric
cycle the highest is recorded (R507 to R511, R718). -/
def Obligations.VitalEnables : Prop :=
  ∀ (s : State) (st : Stamp) (gen : Bool) (seq : BitVec 18) (a b : BitVec 3),
    let i := bnat gen
    let pg := dsvPg i
    let x := ven s i
    let cfg := rget s pg 64
    let compA := fld cfg 33 26
    let compB := fld cfg 25 18
    let done := x.winStart + fld cfg 17 0 * 300 ≤ s.ticks
    let only := fun (t : State) => t = { s with vens := t.vens, busReply := t.busReply } ∧ ∀ j, j ≠ i → ven t j = ven s j
    let stopped := fun (t : State) (why : Nat) => (ven t i).running = false ∧ (ven t i).toggling = false ∧ (ven t i).why = why ∧
      (ven t i).next = x.next
    unitWorks s pg = true →
    (clsVital (compcls s i compA) = true → clsVital (compcls s i compB) = true → pairOf s i compA compB = true →
      100 ≤ fld cfg 17 0 → fld cfg 17 0 ≤ 100000 → x.running = false → (s.safety = .run ∨ s.safety = .degraded) →
      ∃ t, exec (.arm gen) s = .next t ∧ only t ∧
        ven t i = { x with
          running := true, toggling := false, why := 0, kick0 := 0, kick1 := 0, winStart := s.ticks, stopAt := none }) ∧
    ((fld cfg 17 0 < 100 ∨ 100000 < fld cfg 17 0 ∨ x.running = true ∨ (s.safety ≠ .run ∧ s.safety ≠ .degraded) ∨
        clsVital (compcls s i compA) = false ∨ clsVital (compcls s i compB) = false ∨ pairOf s i compA compB = false) →
      ∃ t, exec (.arm gen) s = .next t ∧ t.vens = s.vens ∧ Captured s t pg 16 (regAddr pg 67) ∧ RegsKept s t (captureRegs pg)) ∧
    (x.running = true → ¬ done →
      (seq = x.next → st.comp.toNat = compA → ∃ t, exec (.venkick st gen seq) s = .next t ∧ only t ∧
        ven t i = { x with kick0 := x.kick0 ||| BitVec.ofNat 8 (2 ^ st.die.toNat) }) ∧
      (seq = x.next → st.comp.toNat = compB → compA ≠ compB → ∃ t, exec (.venkick st gen seq) s = .next t ∧ only t ∧
        ven t i = { x with kick1 := x.kick1 ||| BitVec.ofNat 8 (2 ^ st.die.toNat) }) ∧
      (seq ≠ x.next → st.comp.toNat = compA ∨ st.comp.toNat = compB → ∃ t, exec (.venkick st gen seq) s = .next t ∧ only t ∧
        stopped t 3) ∧
      (st.comp.toNat ≠ compA → st.comp.toNat ≠ compB → ∃ t, exec (.venkick st gen seq) s = .next t ∧ t.vens = s.vens ∧
        Captured s t pg 17 (256 * st.die.toNat + st.comp.toNat) ∧ RegsKept s t (captureRegs pg)) ∧
      (∃ t, exec (.venWindowEnd gen) s = .next t ∧ t = s)) ∧
    (x.running = true → done →
      (x.kick0.getLsbD a.toNat = true → x.kick1.getLsbD b.toNat = true → a ≠ b → ∃ t, exec (.venWindowEnd gen) s = .next t ∧ only t ∧
        ven t i = { x with
          toggling := true, next := x.next + 1, kick0 := 0, kick1 := 0, winStart := x.winStart + fld cfg 17 0 * 300 }) ∧
      ((∀ c d : BitVec 3, x.kick0.getLsbD c.toNat = true → x.kick1.getLsbD d.toNat = true → c = d) → ∃ t, exec (.venWindowEnd gen) s = .next t ∧ only t ∧ stopped t 2)) ∧
    (x.running = true → ∃ t, exec (.stop gen) s = .next t ∧ only t ∧ stopped t 5) ∧
    (x.running = false → x.stopAt = some s.ticks → x.why < 5 → ∃ t, exec (.stop gen) s = .next t ∧ only t ∧ ven t i = { x with why := 5 }) ∧
    (x.running = false → (x.stopAt ≠ some s.ticks ∨ 5 ≤ x.why) → ∃ t, exec (.stop gen) s = .next t ∧ t = s) ∧
    (x.running = false → x.stopAt = some s.ticks → x.why < 3 → seq ≠ x.next → st.comp.toNat = compA ∨ st.comp.toNat = compB →
      ∃ t, exec (.venkick st gen seq) s = .next t ∧ only t ∧ ven t i = { x with why := 3 })

/-! ## Ports -/

/-- The DMA of a port can make accesses of kind k to the n words from a: they lie in its window and are memory, the target gates
grant them, and they hold no error and lie in no page of marked words (R550, R551). -/
def PortOk (s : State) (p : Port) (a n : Nat) (k : Kind) : Prop :=
  ∀ q, a ≤ q → q < a + n → inWindow s p q = true ∧ memReach s q = .ok ∧ targetOk s (portStamp s p) q k = true ∧
    (mget s q).ecc = .good ∧ marked s q = false

/-- The words from buf hold an octet string, packed with its parity (R8). -/
def HoldsOctets (s : State) (buf : Nat) (l : List (BitVec 8)) : Prop :=
  ∀ k, k < wordsFor l.length → (mget s (buf + k)).data = packFour (l.drop (4 * k))

/-- A stored word, untagged and without error. -/
def plainWord (w : Word) : MemWord := { data := w, tag := false, ecc := .good }

/-- An Ethernet port: a kick lets a ring look again; a ring whose descriptor is not owned stops; an owned transmit descriptor's
frame is sent, padded, with its FCS, and its descriptor released with STATUS 0; the lower port of a PRP pair sends on both with
trailers and counts the sequence; a good frame for the port goes into the owned receive descriptor's buffer, a bad one and one
without a descriptor are counted, a duplicate of a pair is discarded (R553 to R556, R560; the trailer's layout is
notes/assumptions/32.md, the CRC notes/assumptions/31.md). Stated for descriptors without one-step and timestamp. -/
def Obligations.EthernetPorts : Prop :=
  ∀ (s : State) (port : BitVec 2) (l octets : List (BitVec 8)) (up : Bool),
    let i := port.toNat
    let j := i / 2
    let pg := ethPg i
    let p := ethPort i
    let e := eth s i
    let a := ringAt s pg 19 e.tx
    let b := ringAt s pg 22 e.rx
    let d0 := (mget s a).data
    let txBuf := fld (mget s (a + 1)).data 29 0
    let rxBuf := fld (mget s (b + 1)).data 29 0
    let n := wordsFor l.length
    let counted := fun (t : State) (q off hi lo : Nat) => fld (rget t q off) hi lo = min 262143 (fld (rget s q off) hi lo + 1)
    ethWorks s i = true →
    (∃ t, exec (.ethLinkChange port up) s = .next t ∧ eth t i = { e with link := up } ∧ (∀ k, k ≠ i → eth t k = eth s k) ∧
      t = { s with eths := t.eths }) ∧
    (∃ t, exec (.txkick (.eth port)) s = .next t ∧ eth t i = { e with tx := { e.tx with stopped := false } } ∧
      t = { s with eths := t.eths }) ∧
    (∃ t, exec (.rxkick (.eth port)) s = .next t ∧ eth t i = { e with rx := { e.rx with stopped := false } } ∧
      t = { s with eths := t.eths }) ∧
    (ethOn s i 2 = true → e.link = true → e.tx.stopped = false → PortOk s p a 4 .load →
      (bit d0 35 = false → ∃ t, exec (.ethFrameTransmit port) s = .next t ∧ (eth t i).tx.stopped = true ∧ t = { s.noted t with eths := t.eths }) ∧
      (bit d0 35 = true → bit d0 34 = false → bit d0 33 = false → l.length = fld d0 15 0 → l.length ≤ 1518 →
        PortOk s p a 1 .store → PortOk s p txBuf n .load → HoldsOctets s txBuf l →
        ∃ t, exec (.ethFrameTransmit port) s = .next t ∧
          mget t a = plainWord (setFld (setBit d0 35 false) 31 27 0) ∧ (∀ q, q ≠ a → mget t q = mget s q) ∧
          (eth t i).tx.idx = (e.tx.idx + 1) % 2 ^ rfld s pg 20 3 0 ∧ bit (rget t pg 9) 1 = true ∧ counted t pg 32 35 18 ∧
          ((i % 2 = 1 ∨ paired s j = false) → (eth t i).wire = padded l ++ fcs (padded l)) ∧
          (i % 2 = 0 → paired s j = true → (eth s (i + 1)).link = true →
            let seq := rfld s prpPg (17 + j) 15 0
            (eth t i).wire = withRct (padded l) seq 10 ++ fcs (withRct (padded l) seq 10) ∧
            (eth t (i + 1)).wire = withRct (padded l) seq 11 ++ fcs (withRct (padded l) seq 11) ∧
            rfld t prpPg (17 + j) 15 0 = (seq + 1) % 65536))) ∧
    (e.link = true → ethOn s i 3 = true →
      (ethAccepts s i octets = false → ∃ t, exec (.ethFrameReceive port octets) s = .next t ∧ t = s) ∧
      (ethAccepts s i octets = true → ethGood octets = false → ∃ t, exec (.ethFrameReceive port octets) s = .next t ∧
        counted t pg 31 17 0 ∧ t = { s with regs := t.regs }) ∧
      (ethAccepts s i (l ++ fcs l) = true → 60 ≤ l.length → l.length ≤ 1518 →
        ((paired s j && hasRct l) = false → e.rx.stopped = false → PortOk s p b 4 .load →
          (bit (mget s b).data 35 = false → ∃ t, exec (.ethFrameReceive port (l ++ fcs l)) s = .next t ∧ counted t pg 32 17 0 ∧
            (eth t i).rx.stopped = true ∧ t.mem = s.mem) ∧
          (bit (mget s b).data 35 = true → bit (rget s pg 4) 4 = false → PortOk s p b 1 .store → PortOk s p rxBuf n .store →
            (rxBuf + n ≤ b ∨ b + 4 ≤ rxBuf) →
            ∃ t, exec (.ethFrameReceive port (l ++ fcs l)) s = .next t ∧ mget t b = plainWord (fval 15 0 l.length) ∧
              (∀ k, k < n → mget t (rxBuf + k) = plainWord (packFour (l.drop (4 * k)))) ∧
              (∀ q, q ≠ b → (q < rxBuf ∨ rxBuf + n ≤ q) → mget t q = mget s q) ∧
              (eth t i).rx.idx = (e.rx.idx + 1) % 2 ^ rfld s pg 23 3 0 ∧ bit (rget t pg 9) 2 = true ∧ counted t pg 31 35 18)) ∧
        (paired s j = true → hasRct l = true → ethertype l ≠ 0x88F7 → octNum l (l.length - 4) 2 / 4096 = 10 + i % 2 →
          prpSeen s j (octNum l 6 6) (octNum l (l.length - 6) 2) = true →
          ∃ t, exec (.ethFrameReceive port (l ++ fcs l)) s = .next t ∧ counted t prpPg (19 + j) 35 18 ∧ t = { s with regs := t.regs })))

/-- A CAN FD controller: an attempt that succeeds sends the descriptor's frame, lowers the transmit error count and releases the
descriptor with STATUS 0; one that loses arbitration changes nothing of the ring; an error raises the count by 8, and above 255
the controller is bus-off and the descriptor ends with STATUS 1; a good frame that matches a filter goes into the owned receive
descriptor with its D3, its timestamp and D0; one that matches none, or that comes while the ring is not enabled, only lowers the
receive error count, one in error raises it; a timestamp is the track time of the frame's start-of-frame bit; bus-off ends by
recovery where AUTOREC or a write of EN allows it, with both counts 0 (R553, R562 to R564; what ISO 11898-1 says of the counts is
notes/assumptions/33.md). -/
def Obligations.CanControllers : Prop :=
  ∀ (s : State) (die : BitVec 3) (f : CanFrame) (l : List (BitVec 8)) (age : BitVec 32),
    let d := die.toNat
    let pg := canPg d
    let p := canPort d
    let c := can s d
    let a := ringAt s pg 19 c.tx
    let b := ringAt s pg 22 c.rx
    let d0 := (mget s a).data
    let d3 := (mget s (a + 3)).data
    let txBuf := fld (mget s (a + 1)).data 29 0
    let rxBuf := fld (mget s (b + 1)).data 29 0
    let len := if bit d0 30 then 0 else dlcOctets (bit d0 33) (fld d3 35 32)
    let n := wordsFor (canOctets f).length
    let stamp := plainWord (BitVec.ofNat 36 (ttAt s (s.ticks - age.toNat)))
    let tries := fun (o : CanOutcome) (P : State → Prop) => ∃ t, exec (.canFrameTransmit die o) s = .next t ∧ P t ∧ t.regs = s.regs
    let ended := fun (t : State) (status : Nat) =>
      mget t a = plainWord (setBit d0 35 false) ∧ mget t (a + 3) = plainWord (setFld d3 31 27 status) ∧
      mget t (a + 2) = (if status = 0 ∧ bit d0 34 = true then stamp else mget s (a + 2)) ∧
      (∀ q, q ≠ a → q ≠ a + 2 → q ≠ a + 3 → mget t q = mget s q) ∧ (can t d).tx.idx = (c.tx.idx + 1) % 2 ^ rfld s pg 20 3 0 ∧
      (can t d).taken = false
    canWorks s d = true →
    (∃ t, exec (.txkick (.can die)) s = .next t ∧ can t d = { c with tx := { c.tx with stopped := false } } ∧
      t = { s with cans := t.cans }) ∧
    (canOn s d 2 = true → c.busOff = false → c.tx.stopped = false → PortOk s p a 4 .load →
      (bit d0 35 = false → ∀ o, tries o (fun t => (can t d).tx.stopped = true ∧ t = { s.noted t with cans := t.cans })) ∧
      (bit d0 35 = true → l.length = len → PortOk s p txBuf (wordsFor len) .load → HoldsOctets s txBuf l →
        (PortOk s p a 4 .store → tries (.sent age) (fun t => ended t 0 ∧
          (can t d).wire = some (canFrameOf d0 (fld d3 35 32) l) ∧ (can t d).txErr = c.txErr - 1 ∧ (can t d).busOff = false)) ∧
        tries .lostArbitration (fun t => can t d = { c with taken := true } ∧ t = { s.noted t with cans := t.cans }) ∧
        (c.txErr + 8 ≤ 255 → tries .error (fun t => (can t d).txErr = c.txErr + 8 ∧ (can t d).busOff = false ∧
          (can t d).tx = c.tx ∧ t = { s.noted t with cans := t.cans })) ∧
        (255 < c.txErr + 8 → PortOk s p a 4 .store → tries .error (fun t => (can t d).busOff = true ∧ ended t 1)))) ∧
    (enabled s pg = true → c.busOff = false → c.rxErr ≤ 127 →
      (canOn s d 3 = false ∨ canMatches s d f = false → ∃ t, exec (.canFrameReceive die ⟨f, .good, age⟩) s = .next t ∧
        can t d = { c with rxErr := c.rxErr - 1 } ∧ t = { s with cans := t.cans }) ∧
      (canOn s d 3 = true → canMatches s d f = true → c.rx.stopped = false → PortOk s p b 4 .load → bit (mget s b).data 35 = false →
        ∃ t, exec (.canFrameReceive die ⟨f, .good, age⟩) s = .next t ∧ (can t d).rx.stopped = true ∧ t.mem = s.mem ∧ t.regs = s.regs) ∧
      (canOn s d 3 = true → canMatches s d f = true → c.rx.stopped = false → PortOk s p b 4 .load → bit (mget s b).data 35 = true →
        PortOk s p b 4 .store → PortOk s p rxBuf n .store → (rxBuf + n ≤ b ∨ b + 4 ≤ rxBuf) →
        ∃ t, exec (.canFrameReceive die ⟨f, .good, age⟩) s = .next t ∧ mget t b = plainWord (canD0 f true) ∧ mget t (b + 2) = stamp ∧
          mget t (b + 3) = plainWord (fval 35 32 f.dlc.toNat) ∧
          (∀ k, k < n → mget t (rxBuf + k) = plainWord (packFour ((canOctets f).drop (4 * k)))) ∧
          (∀ q, q ≠ b → q ≠ b + 2 → q ≠ b + 3 → (q < rxBuf ∨ rxBuf + n ≤ q) → mget t q = mget s q) ∧
          (can t d).rx.idx = (c.rx.idx + 1) % 2 ^ rfld s pg 23 3 0 ∧ (can t d).rxErr = c.rxErr - 1)) ∧
    (enabled s pg = true → c.busOff = false → ∀ o by_, (o = .error ∧ by_ = 1) ∨ (o = .dominant ∧ by_ = 8) →
      ∃ t, exec (.canFrameReceive die ⟨f, o, age⟩) s = .next t ∧ can t d = { c with rxErr := min 511 (c.rxErr + by_) } ∧
        t = { s with cans := t.cans }) ∧
    (c.busOff = true → (bit (rget s pg 4) 5 = true ∨ c.restart = true) → ∃ t, exec (.canBusoffRecovery die) s = .next t ∧
      can t d = { c with busOff := false, restart := false, txErr := 0, rxErr := 0 } ∧ t = { s with cans := t.cans }) ∧
    ((c.busOff = false ∨ (bit (rget s pg 4) 5 = false ∧ c.restart = false)) → ∃ t, exec (.canBusoffRecovery die) s = .next t ∧ t = s)

/-- A flash port: a write of EN = 1 succeeds where the tables have a signature, 16 words and the mode asked for, and is refused with
the case as INFO otherwise; a command is started with its registers and shows 31, or ends at once: while another runs or Carr holds
the port with result 1, beyond the density with 2, in a mode the tables do not name, a write that is not allowed or an absent erase
type with 3, a misaligned erase with 6; at the end of a COPY its octets are in memory, packed, and no other word has changed; a
PROGRAM sends the octets of memory page by page with the program instruction, an ERASE its address with the instruction of its type;
a transfer outside the window ends with 4; the end pends DONE (R550, R552, R566 to R568, R570, R571, Table 11.13). -/
def Obligations.FlashPorts : Prop :=
  ∀ (s : State) (port : Bool) (x : SfdpFacts) (etype : BitVec 2) (l : List (BitVec 8)),
    let i := bnat port
    let pg := flashPg i
    let p := flashPort i
    let y := flash s i
    let a := rfld s pg 20 31 0
    let mem := rfld s pg 21 29 0
    let n := rfld s pg 22 23 0
    let size := eraseSize x etype.toNat
    let mode := rfld s pg 4 3 2
    let fails := fun (c : Nat) => ∃ t, exec (.flashEnable port x) s = .next t ∧ enabled t pg = false ∧ bit (rget t pg 5) 2 = true ∧
      Captured s t pg 9 c ∧ (flash t i).sfdp = none ∧ t.mem = s.mem
    let starts := fun (c : Instr) (op : Nat) => ∃ t, exec c s = .next t ∧
      flash t i = { y with busy := some { op := op, addr := a, mem := mem, len := n, etype := if op = 3 then etype.toNat else 0 }, sent := [] } ∧ rget t pg 23 = fval 35 31 31 ∧
      RegsKept s t (fun p off => p = pg ∧ off = 23) ∧ t.mem = s.mem
    let ends := fun (c : Instr) (result : Nat) (P : State → Prop) => ∃ t, exec c s = .next t ∧ rget t pg 23 = fval 35 31 result ∧
      bit (rget t pg 9) 1 = true ∧ P t
    let same := fun (t : State) => flash t i = y ∧ t.mem = s.mem ∧ RegsKept s t (fun p off => p = pg ∧ (off = 23 ∨ off = 9))
    let writable := bit (rget s pg 4) 6 = true ∧ x.program.isSome = true
    unitWorks s pg = true →
    (locked s pg = false → (enabled s pg = true ∨ ((dom s (domOfPage pg)).drain = none ∧ bit (rget s pg 3) 0 = true)) →
      (x.signature = true → 16 ≤ x.dwords → x.modes.getLsbD mode = true → ∃ t, exec (.flashEnable port x) s = .next t ∧
        enabled t pg = true ∧ (flash t i).sfdp = some x ∧ RegsKept s t (fun p off => p = pg ∧ off = 4) ∧ t.mem = s.mem) ∧
      (x.signature = false → fails 1) ∧ (x.signature = true → x.dwords < 16 → fails 2) ∧
      (x.signature = true → 16 ≤ x.dwords → x.modes.getLsbD mode = false → fails 3)) ∧
    ((y.carr = true ∨ (enabled s pg = true ∧ y.busy.isSome = true)) →
      ∀ c ∈ [Instr.copy port, .program port, .erase port etype], ends c 1 same) ∧
    (enabled s pg = true → y.busy = none → y.carr = false → y.sfdp = some x → x.modes.getLsbD mode = false →
      ∀ c ∈ [Instr.copy port, .program port, .erase port etype], ends c 3 same) ∧
    (enabled s pg = true → y.busy = none → y.carr = false → y.sfdp = some x → x.modes.getLsbD mode = true →
      (a + n ≤ x.density.toNat → starts (.copy port) 1) ∧
      (x.density.toNat < a + n → ends (.copy port) 2 same) ∧
      (writable → a + n ≤ x.density.toNat → starts (.program port) 2) ∧
      (writable → x.density.toNat < a + n → ends (.program port) 2 same) ∧
      (¬ writable → ends (.program port) 3 same ∧ ends (.erase port etype) 3 same) ∧
      (size = 0 → ends (.erase port etype) 3 same) ∧
      (writable → size ≠ 0 → a % size = 0 → a + size ≤ x.density.toNat → starts (.erase port etype) 3) ∧
      (writable → size ≠ 0 → a % size = 0 → x.density.toNat < a + size → ends (.erase port etype) 2 same) ∧
      (writable → size ≠ 0 → a % size ≠ 0 → ends (.erase port etype) 6 same)) ∧
    (∀ job, y.busy = some job → y.sfdp = some x →
      (job.op = 1 → l.length = job.len → PortOk s p job.mem (wordsFor l.length) .store →
        ends (.flashCommandDone port l) 0 (fun t => (flash t i).busy = none ∧
          (∀ k, k < wordsFor l.length → mget t (job.mem + k) = plainWord (packFour (l.drop (4 * k)))) ∧
          (∀ q, (q < job.mem ∨ job.mem + wordsFor l.length ≤ q) → mget t q = mget s q))) ∧
      (job.op = 1 → 0 < job.len → inWindow s p job.mem = false →
        ends (.flashCommandDone port l) 4 (fun t => (flash t i).busy = none ∧ t.mem = s.mem ∧ Captured s t pg 8 job.mem)) ∧
      (job.op = 2 → l.length = job.len → PortOk s p job.mem (wordsFor l.length) .load → HoldsOctets s job.mem l →
        ends (.flashCommandDone port []) 0 (fun t => (flash t i).busy = none ∧ t.mem = s.mem ∧
          (flash t i).sent = pageSends x.program (2 ^ x.pageLog2.toNat) job.addr l.length l)) ∧
      (job.op = 3 → ends (.flashCommandDone port []) 0 (fun t => (flash t i).busy = none ∧ t.mem = s.mem ∧ (flash t i).sent =
        [{ code := some ((x.eraseCode >>> (8 * job.etype)).setWidth 8), addr := job.addr, octets := [] }])))

/-- An external memory port: a write of EN = 1 that trains puts its density and rate in force, one that does not train leaves it
disabled with cause 0o10 and the channel that failed, one with density 0 is refused; a poll shows the refresh rate; a scrub burst,
due every SCRUBINT µs, rewrites each of its 16 words that has a single error, changes no other word, and goes on (R575 to R578,
R580, Table 11.15). -/
def Obligations.MemoryPorts : Prop :=
  ∀ (s : State) (port : Bool) (channel : BitVec 2) (rate : BitVec 3),
    let i := bnat port
    let pg := empPg i
    let e := emp s i
    let dens := rfld s pg 4 4 3
    let r := rfld s pg 4 6 5
    let base := (4 + 2 * i) * 134217728 + e.scrub
    unitWorks s pg = true →
    let due := ∀ l, e.scrubAt = some l → l + max 1 (rfld s pg 16 17 0) * 300 ≤ s.ticks
    (locked s pg = false → (dom s (domOfPage pg)).drain = none → bit (rget s pg 3) 0 = true →
      (dens ≠ 0 → ∃ t, exec (.empEnable port true channel) s = .next t ∧ enabled t pg = true ∧
        emp t i = { e with trained := true, dens := dens, rate := if r = 3 then 0 else r } ∧ t.mem = s.mem ∧
        RegsKept s t (fun p off => p = pg ∧ off = 4)) ∧
      (dens ≠ 0 → ∃ t, exec (.empEnable port false channel) s = .next t ∧ enabled t pg = false ∧ emp t i = { e with trained := false } ∧ t.mem = s.mem ∧ Captured s t pg 8 channel.toNat) ∧
      (enabled s pg = false → dens = 0 → ∀ ok, ∃ t, exec (.empEnable port ok channel) s = .next t ∧ rget t pg 4 = rget s pg 4 ∧ emp t i = e ∧
        Captured s t pg 10 (regAddr pg 4))) ∧
    (e.trained = true → ∃ t, exec (.mr4Poll port rate) s = .next t ∧ rget t pg 20 = fval 2 0 rate.toNat ∧
      RegsKept s t (fun p off => p = pg ∧ off = 20) ∧ t = { s with regs := t.regs }) ∧
    (e.trained = true → bit (rget s pg 4) 7 = true → ¬ due → ∃ t, exec (.scrubBurst port) s = .next t ∧ t = s) ∧
    (e.trained = true → bit (rget s pg 4) 7 = true → due →
      ∃ t, exec (.scrubBurst port) s = .next t ∧
        (∀ k, k < 16 → mget t (base + k) =
          if (mget s (base + k)).ecc = .single then { mget s (base + k) with ecc := .good } else mget s (base + k)) ∧
        (∀ q, (q < base ∨ base + 16 ≤ q) → mget t q = mget s q) ∧
        (emp t i) = { e with scrub := (e.scrub + 16) % empWords e.dens, scrubAt := some s.ticks } ∧
        ((∀ k, k < 16 → (mget s (base + k)).ecc = .good) → t.regs = s.regs) ∧ t.cores = s.cores)

/-! ## Boot and Carr -/

/-- Boot chooses the first Carr image and the first application image that pass, of set A and then of set B, each at the offset that
the set's directory names, records the code of each that was checked, loads only the body of a checked application image, and
settles the outcome of the two versions; with no image of a kind, or no random source, it holds in Boot. A set whose port does not
enable, or whose directory or header is not read, fails with 8, a wrong directory or magic with 1, a header that is not well formed with 2, one for another part with 3, one for another silicon with 4, one whose key is not
that of a valid slot with 5, one below the fuse minimum with 7, one whose body is not read whole with 8, one whose signature does
not verify with 6, and one that passes every check is accepted (R583, R589 to R594, R602, Table 12.4, Table 12.6). -/
def Rule.BootChoosesImages : Prop :=
  ∀ (s : State) (a b : FlashSet) (d : BitVec 3) (rng : Option (BitVec 3)),
    let starts := clocked s = true ∧ s.safety = .boot ∧ s.boot.phase = .start
    let chooses := starts ∧ s.lcs ≠ .blank ∧ s.lcs ≠ .retired
    let ca := (imageCheck s false a).1
    let cb := (imageCheck s false b).1
    let pa := (imageCheck s true a).1
    let pb := (imageCheck s true b).1
    let c := if ca = 15 then some (imageOf false false a) else if cb = 15 then some (imageOf true false b) else none
    let p := if pa = 15 then some (imageOf false true a) else if pb = 15 then some (imageOf true true b) else none
    let rej := fun (t : State) (k : Nat) => kget (fun _ => 0) t.boot.rej k
    let load := fun (f : FlashSet) => octNum (f.header true) 0x2C 4
    let pairs := fun (f : FlashSet) => (f.body true).length / 9
    let outside := fun (f : FlashSet) (q : Nat) => q < load f ∨ load f + 2 * pairs f ≤ q
    (chooses → ∃ t, exec (.bootImageCheck a b none) s = .next t ∧ t.safety = .boot ∧ t.cores = s.cores ∧ t.fuses = s.fuses ∧
      rej t 0 = ca ∧ (ca ≠ 15 → rej t 1 = cb) ∧ (c ≠ none → rej t 2 = pa) ∧ (c ≠ none → pa ≠ 15 → rej t 3 = pb) ∧
      (c = none → t.boot.phase = .holding ∧ t.mem = s.mem) ∧
      (∀ x, c = some x → p = none → t.boot.phase = .holding ∧ t.boot.carr = some x) ∧
      (∀ x y, c = some x → p = some y → t.boot.phase = .accepted ∧ t.boot.carr = some x ∧ t.boot.app = some y ∧
        t.boot.outcome = (if y.cfeat &&& x.cfeat ≠ y.cfeat then 3 else if y.qcmin ≤ x.iver ∧ x.iver ≤ y.qcmax then 0
          else if y.policy = 1 then 1 else 2) ∧
        (2 ≤ t.boot.outcome → t.lcs = .service) ∧ (t.boot.outcome < 2 → t.lcs = s.lcs)) ∧
      (∀ q, outside a q → (pa = 15 ∨ outside b q) → mget t q = mget s q) ∧
      (c ≠ none → pa = 15 → (∀ q, ¬ outside a q → marked s q = false) → ∀ k, k < pairs a →
        mget t (load a + 2 * k) = { data := BitVec.ofNat 36 (octNum (a.body true) (9 * k) 9 / 2 ^ 36), tag := false, ecc := .good } ∧
        mget t (load a + 2 * k + 1) = { data := BitVec.ofNat 36 (octNum (a.body true) (9 * k) 9), tag := false, ecc := .good })) ∧
    (starts → ∃ t, exec (.bootImageCheck a b (some d)) s = .next t ∧ t.boot.phase = .holding ∧ t.boot.rngFail = some d ∧
      t = { s with boot := t.boot }) ∧
    (¬ starts → ∃ t, exec (.bootImageCheck a b rng) s = .next t ∧ t = s) ∧
    (starts → ¬ chooses → ∃ t, exec (.bootImageCheck a b none) s = .next t ∧ t = s) ∧
    (let h := a.header false
     let found := flashSetOn a = true ∧ 16 ≤ a.dir.length
     let named := found ∧ dirOk a.dir = true
     let reached := named ∧ 768 ≤ h.length
     let formed := reached ∧ octNum h 0 4 = 0x54465743 ∧ headerOk s false h = true
     let fits := formed ∧ octNum h 0x14 1 / 2 ^ s.part.num % 2 = 1 ∧ octNum h 0x10 4 / 2 ^ 9 % 2 = 1
     let keyed := s.fusesRead.valid (octNum h 7 1) = true ∧ s.fusesRead.hash (octNum h 7 1) = sha384 (reqOcts h 0x80 97)
     let current := fits ∧ keyed ∧ minSvn s false ≤ octNum h 0xC 4
     let whole := octNum h 0x28 4 ≤ (a.body false).length
     let signed := ecdsaVerify (reqOcts h 0x80 97) (sha384 (h.take 0x280 ++ (a.body false).take (octNum h 0x28 4)))
       (reqOcts h 0x280 96) = true
     (¬ found → ca = 8) ∧ (found → dirOk a.dir = false → ca = 1) ∧ (named → h.length < 768 → ca = 8) ∧
     (reached → octNum h 0 4 ≠ 0x54465743 → ca = 1) ∧ (reached → octNum h 0 4 = 0x54465743 → headerOk s false h = false → ca = 2) ∧
     (formed → octNum h 0x14 1 / 2 ^ s.part.num % 2 = 0 → ca = 3) ∧
     (formed → octNum h 0x14 1 / 2 ^ s.part.num % 2 = 1 → octNum h 0x10 4 / 2 ^ 9 % 2 = 0 → ca = 4) ∧
     (fits → ¬ keyed → ca = 5) ∧ (fits → keyed → octNum h 0xC 4 < minSvn s false → ca = 7) ∧
     (current → ¬ whole → ca = 8) ∧ (current → whole → ¬ signed → ca = 6) ∧ (current → whole → signed → ca = 15))

/-- The handover: the boot context is Ready with the roots of Table 3.7, its PCC at the entry point, in COMP0 at Executive, every
rule set A grants all, every type's offer is written, the flash ports are released, the package is in Proof with its vital enables
stopped, and memory is as it was loaded, without tags in the external ranges; where the body rebuilt from the words loaded has not
the digest that was verified, or the checker differs otherwise, the package enters Mire with cause 5; where a random source fails it
is held in Boot; before images are accepted it has no effect (R106, R406, R582, R583, R595 to R598, R636, R638). -/
def Rule.HandoverStartsProof : Prop :=
  ∀ (s : State) (x y : Image) (agrees : Bool) (d : BitVec 3) (facts : HandoverFacts),
    let n := y.bootcore % 128
    let accepted := s.boot.phase = .accepted ∧ s.boot.carr = some x ∧ s.boot.app = some y ∧ clocked s = true ∧ s.safety = .boot
    let readable := ∀ k, k < y.blen / 9 * 2 → memReach s (y.load + k) = .ok ∧ (mget s (y.load + k)).ecc = .good
    let word := fun (k : Nat) => (mget s (y.load + k)).data.toNat
    let measured := sha384 (y.head ++ (List.range (y.blen / 9)).flatMap (fun k => numOct (word (2 * k) * 2 ^ 36 + word (2 * k + 1)) 9))
    (accepted → readable → measured = y.digest → ∃ t, exec (.handover ⟨true, none⟩) s = .next t ∧ t.safety = .proof ∧
      t.boot.phase = .done ∧ t.tt = s.tt ∧
      (kwf memDefault s.mem = true → ∀ q, mget t q =
        if 4 ≤ q / 134217728 ∧ q / 134217728 < 8 then { mget s q with tag := false } else mget s q) ∧
      (n < 16 * s.part.dies → (ctxAt t n 0).st = .ready ∧ (ctxAt t n 0).comp = y.comp0 % 256 ∧ (ctxAt t n 0).priv = 0 ∧
        (ctxAt t n 0).pcc = { hi := 0xb26000100#36, lo := fval 35 30 0x16 ||| fval 29 0 y.entry, tag := true } ∧
        (ctxAt t n 0).cr 1 = { hi := 0xde3000100#36, lo := 0x580000000#36, tag := true } ∧
        (ctxAt t n 0).cr 2 = { hi := 0x38000040#36, lo := 0, tag := true } ∧ (∀ k, 1 ≤ k → k < 32 → (ctxAt t n 0).wr k = 0)) ∧
      (∀ m k, ¬ (m = n ∧ k = 0) → ctxAt t m k = ctxAt s m k) ∧
      (∀ m slot, m < 16 * s.part.dies → slot < 642 → (coreAt t m).setA.st = .ready ∧ (coreAt t m).setA.rule slot = 0o3776 ∧
        (coreAt t m).setA.comp = y.comp0 % 256) ∧
      (∀ u ∈ offerTypes, kget (fun _ => 1) t.offers u.code = offerOf s x y u) ∧
      (∀ i, i < 2 → (flash t i).carr = false ∧ (ven t i).running = false) ∧
      (∀ g, g < 4 * s.part.dies → (block t g).chkDone = false) ∧
      (∀ e, e < s.part.dies → locked t (carrPg e) = true) ∧ (s.lcs = .field → locked t (flashPg (bnat x.src)) = true)) ∧
    (accepted → readable → (measured ≠ y.digest ∨ agrees = false) →
      ∃ t, exec (.handover ⟨agrees, none⟩) s = .next t ∧ t.safety = .mire ∧ fld (rget t (pkgPg 0) 68) 34 30 = 5) ∧
    (accepted → ∃ t, exec (.handover ⟨agrees, some d⟩) s = .next t ∧ t.boot.phase = .holding ∧ t.boot.rngFail = some d ∧
      t = { s with boot := t.boot }) ∧
    (s.boot.phase ≠ .accepted → ∃ t, exec (.handover facts) s = .next t ∧ t = s)

/-- Boot chooses and checks the images, and the handover starts the first application instruction in Proof (R582, R590 to R598). -/
def Obligations.BootAndHandover : Prop :=
  Rule.BootChoosesImages ∧ Rule.HandoverStartsProof

/-- A command that began in s has ended: Carr holds it with its result, and what a reset would restore, until the end is reported
(notes/assumptions/34.md). -/
def CarrEnded (s t : State) (op result : Nat) : Prop :=
  t.carr.busy = some { op := op, result := result, fusesWere := s.fuses, svcWas := s.heldSvc }

/-- A command's buffer of n words is memory, without error and unmarked. -/
def CarrBuffer (s : State) (a n : Nat) : Prop :=
  ∀ q, a ≤ q → q < a + n → memReach s q = .ok ∧ (mget s q).ecc = .good ∧ marked s q = false

/-- The octets are in memory at a, packed, and no other word has changed. -/
def OctetsAt (s t : State) (a : Nat) (l : List (BitVec 8)) : Prop :=
  (∀ k, k < wordsFor l.length → mget t (a + k) = plainWord (packFour (l.drop (4 * k)))) ∧
  (∀ q, (q < a ∨ a + wordsFor l.length ≤ q) → mget t q = mget s q)

/-- Commands of Carr: while one is in progress another is refused with cause 0o10; a lifecycle state that does not allow it ends
it with 2, a requester that may not send it with 3, a feature that is not accepted with 0o13. CHAL writes a nonce to the buffer
and holds it; ATTEST writes the report over the nonce given, IDKEY the public key; DBGEND ends the token and releases what is
halted; SVNADV raises the minima for the next boot; PROVISION, from the test access port of a Blank part, programs the roots and
makes it Provisioned; a command whose random source fails its test draws nothing and has no effect but to show the die (its result
is a free value, notes/assumptions/36.md); the end of a command is shown in CMDRES with DONE; a token ends with its duration (R583,
R603 to R605, R608, R611, R669, Table 12.9, Table 12.14). -/
def Obligations.CarrCommands : Prop :=
  ∀ (s : State) (st : Stamp) (addr : BitVec 30) (rng : Bool) (l : List (BitVec 8)) (job : CarrJob),
    let pg := carrPg 0
    let a := addr.toNat
    let accepts := fun (b : Nat) => bit (rget s pg 3) b = true
    let core := st.cls = 0 ∧ st.priv = 0
    let usual := s.lcs = .provisioned ∨ s.lcs = .field ∨ s.lcs = .service
    let ends := fun (c : Instr) (op result : Nat) (P : State → Prop) => ∃ t, exec c s = .next t ∧ CarrEnded s t op result ∧ P t
    let alone := fun (t : State) => t = { s with carr := t.carr }
    let commands : List (Instr × Nat) := [(.attest st ⟨addr, rng⟩, 1), (.idkey st addr, 2), (.chal st ⟨addr, rng⟩, 3), (.dbgresp st addr, 4),
      (.dbgend st addr, 5), (.lctrans st addr, 6), (.revoke st addr, 7), (.svnadv st addr, 8), (.provision st ⟨addr, rng⟩, 9)]
    let undrawn := fun (c : Instr) (op : Nat) => ∃ t r, exec c s = .next t ∧ CarrEnded s t op r ∧ t.boot.rngFail = some 0 ∧
      t.mem = s.mem ∧ t.fuses = s.fuses ∧ t.lcs = s.lcs ∧ t.carr.nonce = s.carr.nonce ∧ t.carr.token = s.carr.token
    let dbgAt := regAddr frzPg 64
    let hash := fun (k : Nat) => BitVec.ofNat 384 (octNum l (48 * k) 48)
    unitWorks s pg = true →
    (carrAnswers s = true → s.carr.busy.isSome = true → ∀ c ∈ commands, ∃ t, exec c.1 s = .next t ∧ Captured s t pg 8 (regAddr pg 24) ∧
      t = { s.noted t with regs := t.regs }) ∧
    (carrAnswers s = true → s.carr.busy = none →
      (∀ c ∈ commands, carrLcOk c.2 s.lcs = false → ends c.1 c.2 2 alone) ∧
      (∀ c ∈ commands, carrLcOk c.2 s.lcs = true → (st.cls = 3 ∨ (st.cls = 0 ∧ st.priv ≠ 0)) → ends c.1 c.2 3 alone) ∧
      (core → usual →
        (¬ accepts 1 → ends (.attest st ⟨addr, rng⟩) 1 11 alone ∧ ends (.idkey st addr) 2 11 alone) ∧
        (¬ accepts 2 → ends (.chal st ⟨addr, rng⟩) 3 11 alone) ∧
        (accepts 2 → undrawn (.chal st ⟨addr, false⟩) 3) ∧
        (accepts 2 → CarrBuffer s a 12 → ends (.chal st ⟨addr, true⟩) 3 0 (fun t => ∃ v : BitVec 384,
          t.carr.nonce = some (v, s.ticks) ∧ OctetsAt s t a (numOct v.toNat 48) ∧ t.regs = s.regs ∧ t.carr.token = s.carr.token)) ∧
        (accepts 1 → CarrBuffer s a 12 → l.length = 48 → HoldsOctets s a l → undrawn (.attest st ⟨addr, false⟩) 1) ∧
        (accepts 1 → CarrBuffer s a 88 → l.length = 48 → HoldsOctets s a l →
          ends (.attest st ⟨addr, true⟩) 1 0 (fun t => OctetsAt s t a (report s l) ∧ (report s l).length = 352 ∧ t.regs = s.regs)) ∧
        (accepts 1 → CarrBuffer s a 25 → ends (.idkey st addr) 2 0 (fun t =>
          OctetsAt s t a (publicKey (privateKey s) ++ [0, 0, 0]) ∧ t.regs = s.regs))) ∧
      (core → accepts 2 → ends (.dbgend st addr) 5 0 (fun t => t.carr.token = none ∧ t.mem = s.mem ∧
        (s.carr.token ≠ none → bit (rget t frzPg 16) 26 = false ∧
          ∀ n h, n < 16 * s.part.dies → h < 4 → (ctxAt t n h).halted = false) ∧
        (s.carr.token = none → t.cores = s.cores ∧ t.regs = s.regs))) ∧
      (core → (s.lcs = .provisioned ∨ s.lcs = .field) → accepts 5 → ends (.svnadv st addr) 8 0 (fun t =>
        t.fuses.minsvnC = max s.fuses.minsvnC (min 64 (ofImage s.boot.carr (fun i => i.svn))) ∧
        t.fuses.minsvnA = max s.fuses.minsvnA (min 64 (ofImage s.boot.app (fun i => i.svn))) ∧
        t = { s with fuses := t.fuses, carr := t.carr })) ∧
      (st.cls = 2 → s.lcs = .blank → a = dbgAt → l.length = 193 → (∀ k, k < 49 → rget s frzPg (64 + k) = packFour (l.drop (4 * k))) →
        ((∃ k, k < 4 ∧ hash k ≠ 0) → undrawn (.provision st ⟨addr, false⟩) 9 ∧ ends (.provision st ⟨addr, true⟩) 9 0 (fun t => t.lcs = .provisioned ∧ t.fusesRead = t.fuses ∧
          t.fuses.prov = 3 ∧ (∀ k, k < 4 → t.fuses.hash k = hash k) ∧ t.fuses.dbgslot = BitVec.ofNat 4 (octNum l 192 1) ∧
          t.mem = s.mem ∧ t.regs = s.regs)) ∧
        ((∀ k, k < 4 → hash k = 0) → ends (.provision st ⟨addr, rng⟩) 9 6 (fun t => t.lcs = .blank ∧ t.fuses = s.fuses ∧
          Captured s t pg 9 6)))) ∧
    (s.carr.busy = some job → ∃ t, exec .carrCommandDone s = .next t ∧ t.carr = { s.carr with busy := none } ∧
      rget t pg 25 = (fval 35 32 job.op ||| fval 31 27 job.result) ∧ bit (rget t pg 9) 1 = true ∧
      RegsKept s t (fun p off => p = pg ∧ (off = 25 ∨ off = 9)) ∧ t = { s.noted t with carr := t.carr, regs := t.regs }) ∧
    (s.carr.busy = none → ∃ t, exec .carrCommandDone s = .next t ∧ t = s) ∧
    (∀ x, s.carr.token = some x →
      (x.expires ≤ s.ticks → ∃ t, exec .tokenExpiry s = .next t ∧ t.carr.token = none ∧ bit (rget t frzPg 16) 26 = false ∧
        (∀ n h, n < 16 * s.part.dies → h < 4 → (ctxAt t n h).halted = false) ∧ t.mem = s.mem) ∧
      (s.ticks < x.expires → ∃ t, exec .tokenExpiry s = .next t ∧ t = s)) ∧
    (s.carr.token = none → ∃ t, exec .tokenExpiry s = .next t ∧ t = s)

/-- Signed requests: a request that does not carry the outstanding nonce ends with 5 and leaves it; one that does withdraws it,
and ends with 5 when 60 s have passed, with 6 when it is not well formed, with 7 when its signer's slot may not sign it, with 8
when the signature does not verify. Then DBGRESP puts its token in force, and one of Halt or Full moves Run or Degraded to Proof;
in Mire no token comes into force (R611, Table 14.7; that the command itself still ends with 0 is notes/assumptions/36.md);
LCTRANS makes a transition of Table 12.8, or ends with 0o12; REVOKE revokes a slot unless no valid one would be left, which ends
with 0o11 (R603, R606, R607, R609, R611, R658). -/
def Obligations.SignedRequests : Prop :=
  ∀ (s : State) (st : Stamp) (addr : BitVec 30) (r : List (BitVec 8)) (v : BitVec 384) (since : Nat),
    let pg := carrPg 0
    let commands : List (Instr × Nat) := [(.dbgresp st addr, 4), (.lctrans st addr, 6), (.revoke st addr, 7)]
    let ends := fun (c : Instr) (op result : Nat) (P : State → Prop) => ∃ t, exec c s = .next t ∧ CarrEnded s t op result ∧ P t
    let fails := fun (t : State) (result : Nat) => Captured s t pg 9 result ∧ t.fuses = s.fuses ∧ t.lcs = s.lcs ∧
      t.carr.token = s.carr.token ∧ t.mem = s.mem ∧ t.safety = s.safety
    let inTime := s.carr.nonce = some (v, since) ∧ octNum r 0x10 48 = v.toNat ∧ s.ticks < since + 60000000 * 300
    let signed := fun (op : Nat) => reqSlotOk s.fusesRead op r = true ∧
      ecdsaVerify (reqOcts r 0x60 97) (sha384 (r.take 0xD0)) (reqOcts r 0xD0 96) = true
    let arg := reqArg r
    let tok := tokenOf s r
    let revoked : Fuses := { s.fuses with rvk := kset (fun _ => 0) s.fuses.rvk arg 3 }
    let open_ := s.lcs = .provisioned ∨ s.lcs = .field
    let listed := (arg = 2 ∧ s.lcs = .provisioned) ∨ (arg = 3 ∧ open_) ∨ (arg = 4 ∧ (open_ ∨ s.lcs = .service))
    let accepts := fun (b : Nat) => bit (rget s pg 3) b = true
    unitWorks s pg = true → carrAnswers s = true → s.carr.busy = none → st.cls = 0 → st.priv = 0 → (open_ ∨ s.lcs = .service) →
    CarrBuffer s addr.toNat 76 → r.length = 304 → HoldsOctets s addr.toNat r →
    (∀ c ∈ commands, (s.carr.nonce = none ∨ (s.carr.nonce = some (v, since) ∧ octNum r 0x10 48 ≠ v.toNat)) →
      ends c.1 c.2 5 (fun t => fails t 5 ∧ t.carr.nonce = s.carr.nonce)) ∧
    (∀ c ∈ commands, s.carr.nonce = some (v, since) → octNum r 0x10 48 = v.toNat → since + 60000000 * 300 ≤ s.ticks →
      ends c.1 c.2 5 (fun t => fails t 5 ∧ t.carr.nonce = none)) ∧
    (∀ c ∈ commands, inTime → reqFormed s c.2 r = false → ends c.1 c.2 6 (fun t => fails t 6 ∧ t.carr.nonce = none)) ∧
    (∀ c ∈ commands, inTime → reqFormed s c.2 r = true → ¬ signed c.2 → ∃ t, exec c.1 s = .next t ∧ t.carr.nonce = none ∧
      (reqSlotOk s.fusesRead c.2 r = false → CarrEnded s t c.2 7 ∧ fails t 7) ∧
      (reqSlotOk s.fusesRead c.2 r = true → CarrEnded s t c.2 8 ∧ fails t 8)) ∧
    (inTime → reqFormed s 4 r = true → ∃ t, exec (.dbgresp st addr) s = .next t ∧ t.carr.nonce = none ∧
      (signed 4 → accepts 2 → s.safety = .mire → CarrEnded s t 4 0 ∧ t.carr.token = s.carr.token ∧ t.safety = .mire) ∧
      (signed 4 → accepts 2 → s.safety ≠ .mire → CarrEnded s t 4 0 ∧ t.carr.token = some tok ∧ tok.state = min arg (tokenLimit s.lcs) ∧
        tok.expires = s.ticks + octNum r 0x54 4 * 1000000 * 300 ∧ t.mem = s.mem ∧ t.regs = s.regs ∧
        (2 ≤ tok.state → s.safety = .run ∨ s.safety = .degraded → t.safety = .proof ∧ (ven t 0).running = false ∧ (ven t 1).running = false) ∧
        (tok.state < 2 ∨ (s.safety ≠ .run ∧ s.safety ≠ .degraded) → t.safety = s.safety ∧ t.vens = s.vens)) ∧
      (signed 4 → ¬ accepts 2 → CarrEnded s t 4 11 ∧ t.carr.token = s.carr.token)) ∧
    (inTime → reqFormed s 6 r = true → ∃ t, exec (.lctrans st addr) s = .next t ∧ t.carr.nonce = none ∧
      (signed 6 → ¬ listed → CarrEnded s t 6 10 ∧ fails t 10) ∧
      (signed 6 → listed → ¬ accepts 3 → CarrEnded s t 6 11 ∧ t.fuses = s.fuses ∧ t.lcs = s.lcs ∧ t.heldSvc = s.heldSvc) ∧
      (signed 6 → listed → accepts 3 → CarrEnded s t 6 0 ∧ (arg = 2 → t.fuses.fieldF = 3 ∧ t.boot.pend = 2 ∧ t.lcs = s.lcs) ∧
        (arg = 3 → t.heldSvc = true ∧ t.boot.pend = 3 ∧ t.lcs = s.lcs ∧ t.fuses = s.fuses) ∧
        (arg = 4 → t.lcs = .retired ∧ t.safety = .mire ∧ t.fuses.retired = 3 ∧ t.fuses.idzero = 3))) ∧
    (inTime → reqFormed s 7 r = true → ∃ t, exec (.revoke st addr) s = .next t ∧ t.carr.nonce = none ∧
      (signed 7 → revoked.validMask = 0 → CarrEnded s t 7 9 ∧ fails t 9) ∧
      (signed 7 → revoked.validMask ≠ 0 → accepts 4 → CarrEnded s t 7 0 ∧ t.fuses = revoked ∧ t.fusesRead = s.fusesRead ∧
        t.regs = s.regs) ∧
      (signed 7 → revoked.validMask ≠ 0 → ¬ accepts 4 → CarrEnded s t 7 11 ∧ t.fuses = s.fuses))

/-! ## Power domains and resets -/

/-- Sedge holds nothing that a loss of frames would change. -/
def SedgeIdle (s : State) : Prop := ∀ d, (sedge s d).dir = [] ∧ (sedge s d).mig = none

/-- A context in which nothing is held. -/
def EmptyContexts (t : State) (n : Nat) : Prop := ∀ h, ctxAt t n h = Ctx.init

/-- Power domains: a request for the present state has no effect; one that Table 13.4 does not refuse is taken: a domain in Run
drains first on its way to Hold, Retain or Off, goes to Trim, or to another TRIMDIV of it, in 64 cycles, and one in another state
goes to Run first; one made during a drain or a transition is held outside Mire; a refused one shows its reason, captures cause 0o10
and changes nothing else; in Boot no domain leaves Run (R670). The end of a drain begins the transition, a Causeway link's credits
being home; the end of a transition enters the state and pends DONE when it is the one asked for; a bank in Off, and one that leaves
it, has lost its words, and a Causeway link in Off its training. A core in Hold that an interrupt wakes begins to return to Run. A
domain reset holds the domain for 64 cycles, empties a core, keeps a bank's data without its tags, and is refused with cause 0o11
for a reason of its own; its end lets the domain go (R614 to R620, R623, R635, R670, R675, Table 13.3 to Table 13.5, Table 13.7). -/
def Obligations.PowerDomains : Prop :=
  ∀ (s : State) (dom_ : BitVec 10) (v : Word) (p : Power) (u : Nat) (c : BitVec 7),
    let k := dom_.toNat
    let x := dom s k
    let pg := (domReg k).1
    let r := fld v 35 33
    let why := domWhy s k r
    let core := k < 512 ∧ k % 64 < 16
    let bank := k < 512 ∧ 16 ≤ k % 64 ∧ k % 64 < 32
    let n := 16 * (k / 64) + k % 16
    let y : Dom := if k < 512 then { x with wake := bit v 26, trimdiv := fld v 25 24 } else x
    let permitted := (domPermits k).contains r = true
    let keeps := permitted ∧ s.safety ≠ .mire ∧ x.held = false ∧ x.st = powerOf r ∧ (r = 1 → y.clkdiv = y.trimdiv)
    let others := fun (t : State) => ∀ j, j ≠ k → dom t j = dom s j
    let taken := fun (z : Dom) => ∃ t, exec (.domRequest dom_ v) s = .next t ∧ dom t k = z ∧ others t ∧ t = { s with doms := t.doms }
    let down := fun (t : State) => dom t k = { x with
      target := none, drain := none, queued := none, held := true, rstUntil := some (s.ticks + 64) }
    (unitWorks s pg = true → locked s pg = false → domPresent s.part k = true →
      (s.safety ≠ .mire → x.drain.isSome = true ∨ x.target.isSome = true → taken { y with queued := some r }) ∧
      (x.drain = none → x.target = none → keeps → taken y) ∧
      (x.drain = none → x.target = none → why = 0 →
        (x.st = .trim → r = 1 → y.clkdiv ≠ y.trimdiv → taken { y with req := r, target := some (.trim, s.ticks + 64) }) ∧
        (x.st = .run → r = 1 → taken { y with req := r, target := some (.trim, s.ticks + 64) }) ∧
        (x.st = .run → 2 ≤ r → r ≤ 4 → taken { y with req := r, drain := some (powerOf r) }) ∧
        (x.st ≠ .run → x.st ≠ powerOf r → ¬ (x.st = .retain ∧ r = 4) →
          taken { y with req := r, target := some (.run, s.ticks + transTime k x.st .run) }) ∧
        (x.st = .retain → r = 4 → taken { y with req := r, target := some (.off, s.ticks + 600) })) ∧
      ((x.drain = none ∧ x.target = none) ∨ s.safety = .mire → why ≠ 0 → ¬ keeps →
        ∃ t, exec (.domRequest dom_ v) s = .next t ∧ dom t k = { x with why := why } ∧
        others t ∧ Captured s t pg 8 (128 * why + domIndex k) ∧ t = { s.noted t with doms := t.doms, regs := t.regs }) ∧
      (x.held = true → s.safety ≠ .mire → permitted → ¬ (x.st = .off ∧ r = 3) → (s.safety = .boot → r = 0) → why = 7) ∧
      (s.safety = .mire → permitted → ¬ (x.st = .off ∧ r = 3) → why = 2) ∧
      (¬ permitted → why = 1) ∧ (s.safety = .boot → r ≠ 0 → why = 1) ∧
      (core → s.safety ≠ .mire → s.safety ≠ .boot → x.held = false → r = 4 → (∃ h, h < 4 ∧ (ctxAt s n h).st ≠ .empty) → why = 3)) ∧
    (clocked s = true → s.safety ≠ .mire →
      (x.drain = some p → x.target = none → (core → (coreAt s n).sb.length ≤ 4) →
        ∃ t, exec (.drainEnd dom_) s = .next t ∧ dom t k = { x with target := some (p, s.ticks + transTime k .run p) } ∧ others t ∧
          (core → (coreAt t n).sb = []) ∧ (¬ core → t.mem = s.mem ∧ t.cores = s.cores) ∧
          (514 ≤ k → k < 518 → ∀ l ∈ [544 + (k - 514), 548 + (k - 514)], (linkAt t l).timed.b = 0 ∧ (linkAt t l).bulk.b = 0 ∧
            (linkAt t l).timed.r = (linkAt s l).timed.r + (linkAt s l).timed.b)) ∧
      (x.drain = none → ∃ t, exec (.drainEnd dom_) s = .next t ∧ t = s) ∧
      (x.target = some (p, u) → u ≤ s.ticks → x.queued = none → s.enHeld = [] → p = powerOf x.req →
        (p = .hold ∨ p = .trim ∨ (p = .run ∧ (x.st = .trim ∨ x.st = .hold)) → ∃ t, exec (.transitionDone dom_) s = .next t ∧
          dom t k = { x with st := p, target := none, drain := none, clkdiv := if p = .trim then x.trimdiv else x.clkdiv } ∧ others t ∧ bit (rget t pg 9) 1 = true ∧
          RegsKept s t (fun q o => q = pg ∧ o = 9) ∧ t = { s.noted t with doms := t.doms, regs := t.regs }) ∧
        (p = .run → x.st = .off → bank → ∃ t, exec (.transitionDone dom_) s = .next t ∧ (dom t k).st = .run ∧
          bit (rget t pg 9) 1 = true ∧ (∀ a, a / 65536 = n → mget t a = memDefault a) ∧
          (∀ a, a / 65536 ≠ n → mget t a = mget s a)) ∧
        (p = .off → bank → SedgeIdle s → Canonical s → ∃ t, exec (.transitionDone dom_) s = .next t ∧ (dom t k).st = .off ∧
          (∀ a, a / 65536 = n → mget t a = memDefault a) ∧ (∀ a, a / 65536 ≠ n → mget t a = mget s a)) ∧
        (p = .off → 514 ≤ k → k < 518 → ∃ t, exec (.transitionDone dom_) s = .next t ∧ (dom t k).st = .off ∧
          cwy t (k - 514) = Cwy.init ∧ (∀ l ∈ [544 + (k - 514), 548 + (k - 514)], linkAt t l = linkDefault l) ∧ t.mem = s.mem) ∧
        (p = .off → core → (coreAt s n).sb = [] → ∃ t, exec (.transitionDone dom_) s = .next t ∧ (dom t k).st = .off ∧
          bit (rget t pg 9) 1 = true ∧ EmptyContexts t n ∧ (coreAt t n).dtlb = [] ∧ (∀ m, m ≠ n → coreAt t m = coreAt s m) ∧
          (∀ o, o < 512 → ¬ (32 ≤ o ∧ o < 48) → rget t (mgatePg n) o = regDefault (mgatePg n * 512 + o)))) ∧
      (x.target = some (.run, u) → u ≤ s.ticks → (x.st = .trim ∨ x.st = .hold) → x.queued = none → s.enHeld = [] →
        2 ≤ x.req → x.req ≤ 4 →
        ∃ t, exec (.transitionDone dom_) s = .next t ∧ others t ∧
          dom t k = { x with st := .run, target := none, drain := some (powerOf x.req) }) ∧
      (x.target = some (p, u) → s.ticks < u → ∃ t, exec (.transitionDone dom_) s = .next t ∧ t = s)) ∧
    (let h := domKey (c.toNat / 16) (c.toNat % 16)
     let z := dom s h
     (coreAt s c.toNat).midway = none → boundaryFault s c.toNat = false → coreWakes s c.toNat = true → lateDue s c.toNat = false →
      z.st = .hold → z.target = none → (∃ j, j < 4 ∧ (ctxAt s c.toNat j).st = .ready) →
      ∃ t, exec (.interruptEntry c) s = .next t ∧ dom t h = { z with req := 0, target := some (.run, s.ticks + 16) } ∧
        ∀ j, j ≠ h → dom t j = dom s j) ∧
    (unitWorks s pg = true → locked s pg = false →
      (rstWhy s k ≠ 0 → ∃ t, exec (.domRst dom_) s = .next t ∧ dom t k = { x with why := rstWhy s k } ∧
        Captured s t pg 9 (128 * rstWhy s k + domIndex k) ∧ t = { s.noted t with doms := t.doms, regs := t.regs }) ∧
      (rstWhy s k = 0 → core → (coreAt s n).sb = [] → ∃ t, exec (.domRst dom_) s = .next t ∧ down t ∧ others t ∧ EmptyContexts t n ∧
        (coreAt t n).itlb = [] ∧ (coreAt t n).dtlb = [] ∧ (∀ m, m ≠ n → coreAt t m = coreAt s m) ∧ t.mem = s.mem) ∧
      (rstWhy s k = 0 → bank → SedgeIdle s → Canonical s → ∃ t, exec (.domRst dom_) s = .next t ∧ down t ∧ others t ∧ t.cores = s.cores ∧
        (∀ a, a / 65536 = n → (mget t a).data = (mget s a).data ∧ (mget t a).tag = false) ∧
        (∀ a, a / 65536 ≠ n → mget t a = mget s a))) ∧
    (clocked s = true → x.rstUntil = some u → u ≤ s.ticks → ∃ t, exec (.domRstRelease dom_) s = .next t ∧
      dom t k = { x with held := false, rstUntil := none } ∧ others t ∧ t.mem = s.mem ∧ t.cores = s.cores) ∧
    (x.rstUntil = none → ∃ t, exec (.domRstRelease dom_) s = .next t ∧ t = s)

/-- The package after a reset, from state s: in Boot before any image is read, every context Empty, every domain in Run, no region
isolated, no token, every gate drive low, every register but LASTMIRE and GATECFG at its reset value; after one by PORST_N or a
supply track time and memory are 0, after the others they stay, without tags (R629, R632, Table 13.7). -/
structure PackageReset (s t : State) (power : Bool) : Prop where
  boot : t.safety = .boot ∧ t.boot.phase = .start ∧ t.boot.carr = none ∧ t.boot.app = none
  cores : ∀ n h, ctxAt t n h = Ctx.init ∧ (coreAt t n).sb = [] ∧ (coreAt t n).dtlb = []
  domains : ∀ k, dom t k = Dom.init
  regions : t.isol = 0 ∧ t.dieRst = [] ∧ t.carr = Carr.init
  channels : ∀ m, (chan t m).gd = false ∧ (chan t m).lit = false ∧ (chan t m).safe = false
  units : t.reeds = [] ∧ t.sedges = [] ∧ t.voters = [] ∧ t.vens = [] ∧ t.refs = [] ∧ t.stack = Stack.init
  registers : ∀ pg off, off < 512 → ¬ (pg = pkgPg 0 ∧ (off = 40 ∨ off = 68)) → rget t pg off = regDefault (pg * 512 + off)
  powerUp : power = true → (∀ a, mget t a = memDefault a) ∧ t.tt = 0 ∧ t.heldSvc = false
  kept : power = false → t.tt = s.tt ∧ rget t (pkgPg 0) 68 = rget s (pkgPg 0) 68 ∧
    ∀ a, (mget t a).data = (mget s a).data ∧ (mget t a).tag = false
  queue : t.pending = s.pending ∧ t.part = s.part

/-- A Carr command that a reset abandons: its fuses are programmed one at a time, and how many of them, in the order of
notes/assumptions/34.md, is left open; with no command in progress the fuses stay (R586, R612). -/
def CommandAbandoned (s t : State) : Prop :=
  (s.carr.busy = none → t.fuses = s.fuses) ∧ ∀ job, s.carr.busy = some job → ∃ n, t.fuses = job.fusesWere.partly s.fuses n

/-- A boot has begun: the lifecycle is that of the fuses, with a held service request in force, the gate mode is its strap, and the
device is frozen while FRZ_N is low (R404, R584, R602, R650). -/
structure BootBegun (s t : State) (straps : BitVec 4) : Prop where
  fuses : t.fuses = s.fuses.repair ∧ t.fusesRead = s.fuses.repair
  mode : gateMode t = straps.toNat / 4
  lifecycle : t.heldSvc = false ∧
    t.lcs = if s.heldSvc = true ∧ fuseLcs s.fuses.repair ≠ .retired then .service else fuseLcs s.fuses.repair
  runs : t.pins.porHeld = false ∧ t.pins.sysHeld = false ∧ t.frozen.isSome = !s.pins.frz

/-- Resets: PORST_N low for long enough, or a supply out of bounds, resets the package and holds it, as SYSRST_N does while it
keeps memory and time; a Carr command in progress is abandoned; the end of the last of them begins a boot, PORST_N's with the straps
sampled; a short pulse moves the ball alone, and what it forces low. SWRST with its key resets the package as SYSRST_N does, another key is refused with INFO 9; DIERST resets a die from 2 on,
the package for die 0 or 1, in Boot or Proof only; the end of a die reset copies the compartment classes of die 0 (R535, R586,
R612, R629 to R634, R675, R710, Table 13.7, Table 13.9). -/
def Obligations.PackageResets : Prop :=
  ∀ (s : State) (straps : BitVec 4) (v : Word) (die : BitVec 3),
    let pins := s.pins
    let pg := pkgPg 0
    let d := fld v 2 0
    let onlyPins := fun (t : State) => t = { s with pins := t.pins }
    let ballMoved := fun (t : State) => t = { s with pins := t.pins, chans := t.chans } ∧
      ∀ m, chan t m = if (chan s m).gd then { chan s m with fbSince := s.ticks } else chan s m
    let booted := fun (c : Instr) => ∃ t, exec c s = .next t ∧ PackageReset s t false ∧
      (s.carr.busy = none → BootBegun s t s.straps) ∧
      ∀ job, s.carr.busy = some job → ∃ n, t.fuses = (job.fusesWere.partly s.fuses n).repair ∧ t.fusesRead = t.fuses
    Canonical s →
    (∃ t, exec .supplyFault s = .next t ∧ PackageReset s t true ∧ CommandAbandoned s t ∧ t.pins.supplyBad = true ∧
      t.pins.porHeld = true ∧ clocked t = false) ∧
    (pins.supplyBad = true → pins.porst = true → pins.sysHeld = false → ∃ t, exec .supplyRestore s = .next t ∧
      BootBegun s t s.straps ∧ t.pins.supplyBad = false ∧ t.mem = s.mem ∧ t.cores = s.cores) ∧
    (pins.supplyBad = true → pins.porst = false → ∃ t, exec .supplyRestore s = .next t ∧ t.pins.porHeld = true ∧ onlyPins t) ∧
    (pins.supplyBad = false → ∃ t, exec .supplyRestore s = .next t ∧ t = s) ∧
    (∃ t, exec (.porstNAssert true) s = .next t ∧ PackageReset s t true ∧ CommandAbandoned s t ∧ t.pins.porst = false ∧ t.pins.porHeld = true) ∧
    (∃ t, exec (.porstNAssert false) s = .next t ∧ t.pins = { pins with porst := false } ∧ ballMoved t) ∧
    (pins.porst = false → pins.porHeld = true → pins.supplyBad = false → pins.sysHeld = false →
      ∃ t, exec (.porstNRelease straps) s = .next t ∧ BootBegun s t straps ∧ t.straps = straps ∧ t.pins.porst = true ∧
        t.mem = s.mem ∧ t.cores = s.cores) ∧
    (pins.porst = false → pins.porHeld = false → ∃ t, exec (.porstNRelease straps) s = .next t ∧ t.pins = { pins with porst := true } ∧
      ballMoved t) ∧
    (pins.porst = true → ∃ t, exec (.porstNRelease straps) s = .next t ∧ t = s) ∧
    (∃ t, exec (.sysrstNAssert true) s = .next t ∧ PackageReset s t false ∧ CommandAbandoned s t ∧ t.pins.sysrst = false ∧ t.pins.sysHeld = true) ∧
    (∃ t, exec (.sysrstNAssert false) s = .next t ∧ t.pins = { pins with sysrst := false } ∧ ballMoved t) ∧
    (pins.sysrst = false → pins.sysHeld = true → pins.porHeld = false →
      ∃ t, exec .sysrstNRelease s = .next t ∧ BootBegun s t s.straps ∧ t.straps = s.straps ∧ t.pins.sysrst = true ∧ t.mem = s.mem) ∧
    (pins.sysrst = false → pins.sysHeld = false → ∃ t, exec .sysrstNRelease s = .next t ∧ t.pins = { pins with sysrst := true } ∧
      ballMoved t) ∧
    (unitWorks s pg = true → locked s pg = false →
      (s.safety ≠ .mire → fld v 35 27 = 0o525 → booted (.swrst v)) ∧
      (s.safety ≠ .mire → fld v 35 27 ≠ 0o525 → ∃ t, exec (.swrst v) s = .next t ∧ Captured s t pg 29 9 ∧ t = { s.noted t with regs := t.regs }) ∧
      (s.safety = .mire → ∃ t, exec (.swrst v) s = .next t ∧ t = s) ∧
      (bit v 35 = true → (s.safety = .boot ∨ s.safety = .proof) → d < 2 → booted (.dierst v)) ∧
      (bit v 35 = true → (s.safety = .boot ∨ s.safety = .proof) → 2 ≤ d → d < s.part.dies → SedgeIdle s →
        (∀ n, (coreAt s n).sb = []) →
        ∃ t, exec (.dierst v) s = .next t ∧ d ∈ t.dieRst ∧ t.safety = s.safety ∧
          (∀ n, n / 16 = d → EmptyContexts t n) ∧ (∀ n h, n / 16 ≠ d → ctxAt t n h = ctxAt s n h) ∧
          reed t d = Reed.init ∧ (∀ e, e ≠ d → (reed t e).ev = (reed s e).ev) ∧
          (∀ m, m / 96 = d → (chan t m).gd = false ∧ (chan t m).lit = false) ∧ (∀ m, m / 96 ≠ d → chan t m = chan s m) ∧
          (∀ a, a / 1048576 = d → (mget t a).data = (mget s a).data ∧ (mget t a).tag = false) ∧
          (∀ a, a / 1048576 ≠ d → mget t a = mget s a)) ∧
      (bit v 35 = true → s.safety ≠ .boot → s.safety ≠ .proof → ∃ t, exec (.dierst v) s = .next t ∧ Captured s t pg 29 8 ∧
        t = { s.noted t with regs := t.regs }) ∧
      (bit v 35 = false → ∃ t, exec (.dierst v) s = .next t ∧ t = s)) ∧
    (clocked s = true → die.toNat ∈ s.dieRst → ∃ t, exec (.dieResetRelease die) s = .next t ∧ die.toNat ∉ t.dieRst ∧
      (∀ c, c < 256 → compcls t die.toNat c = compcls s 0 c) ∧ t.mem = s.mem ∧ t.chans = s.chans ∧ t.cores = s.cores) ∧
    (die.toNat ∉ s.dieRst → ∃ t, exec (.dieResetRelease die) s = .next t ∧ t = s)

/-- The safety run state as software moves it: GO enters Run from Proof when no condition of Table 13.9 holds, and is refused with
the first that does; PROOF enters Proof from Run or Degraded, with the vital enables stopped and the self-tests to be passed
again, and is refused elsewhere; REGREL returns an isolated region to service in Proof, its domains in Run, and is refused
otherwise (R636 to R639). -/
def Obligations.SafetyRunState : Prop :=
  ∀ (s : State) (v : Word),
    let pg := pkgPg 0
    let g := fld v 4 0
    let vitalUntested := ∃ m, m < 96 * s.part.dies ∧ chVital s m = true ∧
      ¬ ((block s (m / 24)).chkDone = true ∧ (block s (m / 24)).chkPass = true)
    let debugged := ∃ x, s.carr.token = some x ∧ 2 ≤ x.state
    let refused := fun (c : Instr) (info : Nat) => ∃ t, exec c s = .next t ∧ Captured s t pg 29 info ∧ RegsKept s t (captureRegs pg) ∧
      t = { s.noted t with regs := t.regs }
    unitWorks s pg = true → locked s pg = false →
    (s.safety = .proof → s.lcs ≠ .service → s.isol = 0 → ¬ vitalUntested → ¬ debugged →
      ∃ t, exec .go s = .next t ∧ t = { s with safety := .run }) ∧
    (s.safety ≠ .proof → refused .go 1) ∧
    (s.safety = .proof → s.lcs = .service → refused .go 2) ∧
    (s.safety = .proof → s.lcs ≠ .service → s.isol ≠ 0 → refused .go 3) ∧
    (s.safety = .proof → s.lcs ≠ .service → s.isol = 0 → vitalUntested → refused .go 4) ∧
    (s.safety = .proof → s.lcs ≠ .service → s.isol = 0 → ¬ vitalUntested → debugged → refused .go 5) ∧
    (s.safety = .run ∨ s.safety = .degraded → ∃ t, exec .proof s = .next t ∧ t.safety = .proof ∧
      (∀ i, i < 2 → (ven t i).running = false ∧
        ((ven s i).running = true → (ven t i).why = 4 ∧ (ven t i).toggling = false) ∧ ((ven s i).running = false → ven t i = ven s i)) ∧
      (∀ k, k < 4 * s.part.dies → (block t k).chkDone = false ∧ (block t k).chkPass = false) ∧
      t = { s with safety := .proof, vens := t.vens, blocks := t.blocks }) ∧
    (s.safety ≠ .run → s.safety ≠ .degraded → refused .proof 6) ∧
    (bit v 35 = false → ∃ t, exec (.regrel v) s = .next t ∧ t = s) ∧
    (bit v 35 = true → s.safety = .proof → s.isol.getLsbD g = true → ∃ t, exec (.regrel v) s = .next t ∧
      t.isol.getLsbD g = false ∧ (∀ j, j ≠ g → t.isol.getLsbD j = s.isol.getLsbD j) ∧
      (∀ k ∈ regionDoms g, (dom t k).st = .run ∧ (dom t k).held = false) ∧ (∀ k, k ∉ regionDoms g → dom t k = dom s k) ∧
      t.safety = .proof ∧ t.mem = s.mem ∧ t.chans = s.chans ∧ t.sedges = s.sedges) ∧
    (bit v 35 = true → ¬ (s.safety = .proof ∧ s.isol.getLsbD g = true) → refused (.regrel v) 7)

/-- What reset leaves: no command waits; the package is in Boot at track time 0; every register reads its reset value, among them
FORGET 400 ms and a ring of two descriptors; every context is Empty, every domain in Run, every reference Off, every entry of Reed
Free, every gate drive low with its level 65,535; the stack has no members (R265, R410, R447, R554, R636, Table 9.2, Table 13.7,
Table 14.8). That unlisted memory reads 0 without tag is the model's choice (notes/assumptions/6.md). -/
def Obligations.ResetState : Prop :=
  State.reset.pending = [] ∧ State.reset.safety = .boot ∧ State.reset.tt = 0 ∧ State.reset.isol = 0 ∧
  State.reset.carr.token = none ∧ State.reset.stack.members = 0 ∧
  (∀ pg off, rget State.reset pg off = regDefault (pg * 512 + off)) ∧
  rfld State.reset prpPg 16 35 18 = 0o620 ∧ (∀ i, i < 4 → rfld State.reset (ethPg i) 20 3 0 = 1) ∧
  (∀ n h, ctxAt State.reset n h = Ctx.init ∧ (ctxAt State.reset n h).st = .empty ∧ (ctxAt State.reset n h).wr 5 = 0) ∧
  (∀ k, (dom State.reset k).st = .run ∧ domUp State.reset k = true) ∧
  (∀ i, (ref State.reset i).st = .off) ∧ (∀ d i, ((reed State.reset d).entry i).st = .free) ∧
  (∀ m, (chan State.reset m).gd = false ∧ (chan State.reset m).lit = false ∧ (chan State.reset m).level = 65535) ∧
  (∀ i, (ven State.reset i).running = false ∧ venstat State.reset i = fval 34 32 1) ∧
  (∀ a, mget State.reset a = memDefault a)

/-! ## The test access port, freeze and debug -/

/-- The test access port: IR takes a listed code, another acts as BYPASS; SAMPLE/PRELOAD captures the levels of the balls and loads
the boundary register with the cells that are shifted in; EXTEST drives each ball from its cells, the gate drives and vital enables in
a Blank part only, else low; IDCODE reads the part's code; FRZSEL takes
the selector and FRZREAD shows the word it names, with OK, and goes on to the next: the status in every state, a memory word where
the freeze was in Blank, OK 0 while the device is not frozen, the token opens nothing or the word has a double-bit error. DBGACC
reads and writes memory in a Blank part, is refused with no debug state, and does nothing while the clocks stand (R644 to R646,
R653 to R655, R659 to R662, Table 14.1, Table 14.3; which field advances is notes/assumptions/37.md). -/
def Rule.TestAccessPort : Prop :=
  ∀ (s : State) (code : BitVec 8) (cells : BoundaryCells) (inp out en : List Ball) (v : Word) (dr : BitVec 68) (f : Freeze) (m : Nat),
    let alone := fun (t : State) => t = { s with tap := t.tap }
    let at_ := fld s.tap.sel 29 0
    let op := dr.toNat / 2 ^ 66
    let a := dr.toNat / 2 ^ 36 % 2 ^ 30
    let w : Word := BitVec.ofNat 36 (dr.toNat % 2 ^ 36)
    let answer := fun (refused tag : Bool) (d : Word) =>
      BitVec.ofNat 68 (2 ^ 67 + bnat refused * 2 ^ 66 + bnat tag * 2 ^ 65 + d.toNat)
    let runs := clocked s = true ∧ domUp s (domKey 0 43) = true
    let samples := fun (t : State) => (m < chanCount s →
        (t.tap.seen.out.contains (.gd (BitVec.ofNat 10 m)) = true ↔ gdBall s m = true) ∧
        t.tap.seen.en.contains (.gd (BitVec.ofNat 10 m)) = true ∧ t.tap.seen.en.contains (.fb (BitVec.ofNat 10 m)) = false ∧
        (t.tap.seen.inp.contains (.fb (BitVec.ofNat 10 m)) = true ↔ (chan s m).fb = true) ∧
        (s.pins.io33 = true → t.tap.seen.inp.contains (.gd (BitVec.ofNat 10 m)) = gdBall s m)) ∧
      (t.tap.seen.inp.contains (.service 0) = true ↔ s.pins.porst = true) ∧
      (t.tap.seen.inp.contains (.service 2) = true ↔ s.pins.frz = true)
    (∃ t, exec (.tapIrUpdate ⟨code, cells⟩) s = .next t ∧ t = { s with tap := t.tap, fresh := t.fresh } ∧
      (code ≠ 1 → alone t ∧ t.tap.cells = s.tap.cells) ∧
      t.tap.extest = decide (code = 0) ∧ t.tap.dr = s.tap.dr ∧ t.tap.sel = s.tap.sel ∧
      (code = 1 → t.tap.cells = cells ∧ samples t) ∧
      (code ∈ [0, 1, 2, 128, 129, 130] → t.tap.ir = code) ∧ (code ∉ [0, 1, 2, 128, 129, 130] → t.tap.ir = 255)) ∧
    (∃ t, exec (.extest inp out en) s = .next t ∧ t = { s with tap := t.tap, fresh := t.fresh } ∧ t.tap.extest = true ∧
      t.tap.cells = ⟨inp, out, en⟩ ∧ (s.pins.io33 = false → gdPin t m = none) ∧
      (s.lcs = .blank → s.pins.io33 = true → ∀ b, extestDrive t b = if en.contains b then some (out.contains b) else none) ∧
      (s.lcs ≠ .blank → s.pins.io33 = true → gdPin t m = some false ∧ extestDrive t (.service 16) = some false ∧
        extestDrive t (.service 17) = some false) ∧ gdPin t m = extestDrive t (.gd (BitVec.ofNat 10 m))) ∧
    (∃ t, exec .idcode s = .next t ∧ alone t ∧ t.tap.ir = 2 ∧ t.tap.dr = BitVec.ofNat 68 s.part.idcode ∧ t.tap.extest = false) ∧
    (∃ t, exec (.frzsel v) s = .next t ∧ alone t ∧ t.tap.sel = v ∧ t.tap.ir = 128) ∧
    (s.frozen = none → ∃ t, exec .frzread s = .next t ∧ alone t ∧ t.tap.dr = 0) ∧
    (s.frozen = some f → s.tap.sel = fval 35 33 0 → ∃ t, exec .frzread s = .next t ∧ alone t ∧ t.tap.sel = fval 1 0 1 ∧
      t.tap.dr = BitVec.ofNat 68 (2 ^ 37 + (fval 35 33 f.safety.num ||| fval 32 30 f.lcs.num ||| fval 29 28 f.dbg |||
        fval 27 27 (bnat f.resume)).toNat)) ∧
    (s.frozen = some f → fld s.tap.sel 35 33 = 5 → at_ / 65536 < 16 * s.part.dies →
      (dom s (domKey (at_ / 1048576) (16 + at_ / 65536 % 16))).st = .run →
      (f.lcs = .blank → (mget s at_).ecc = .double → ∃ t, exec .frzread s = .next t ∧ alone t ∧ t.tap.dr = 0) ∧
      (f.lcs = .blank → (mget s at_).ecc ≠ .double → ∃ t, exec .frzread s = .next t ∧ alone t ∧
        t.tap.dr = BitVec.ofNat 68 (2 ^ 37 + bnat (mget s at_).tag * 2 ^ 36 + (mget s at_).data.toNat)) ∧
      (f.lcs ≠ .blank → (f.dbg = 0 ∨ s.carr.token = none) → ∃ t, exec .frzread s = .next t ∧ alone t ∧ t.tap.dr = 0)) ∧
    (runs → s.lcs = .blank → a / 134217728 ≠ 1 → memReach s a = .ok → marked s a = false → (mget s a).ecc = .good →
      (op = 1 → ∃ t, exec (.dbgacc dr) s = .next t ∧ t = { s.noted t with tap := t.tap } ∧ t.tap.dr = answer false (mget s a).tag (mget s a).data) ∧
      (op = 2 → ∃ t, exec (.dbgacc dr) s = .next t ∧ t.tap.dr = answer false false 0 ∧
        mget t a = { data := w, tag := false, ecc := .good } ∧ (∀ q, q ≠ a → mget t q = mget s q) ∧ t.regs = s.regs ∧
        t.cores = s.cores)) ∧
    (runs → s.lcs ≠ .blank → s.carr.token = none → a / 134217728 ≠ 1 → (op = 1 ∨ op = 2) → ∃ t, exec (.dbgacc dr) s = .next t ∧
      alone t ∧ t.tap.dr = answer true false 0) ∧
    (clocked s = false → ∃ t, exec (.dbgacc dr) s = .next t ∧ alone t ∧ t.tap.ir = 130 ∧ t.tap.dr = s.tap.dr)

/-- Freeze: a fall of FRZ_N that lasts freezes the device at once, holding what the edge saw, with every clock stopped and nothing
else changed but the refresh of external memory; a shorter fall is none. Its release resumes a device that was in Boot or Proof
with debug state Full, memory and every context as they were, and counts it; another stays frozen until a reset (R647 to R652). -/
def Rule.FreezeAndResume : Prop :=
  ∀ (s : State) (f : Freeze),
    (s.frozen = none → s.pins.porHeld = false → s.pins.sysHeld = false → s.pins.frz = true →
      ∃ t, exec (.frzNFall true) s = .next t ∧ clocked t = false ∧ t.pins.frz = false ∧
        t.frozen = some { safety := s.safety, lcs := s.lcs, dbg := dbgState s
                          resume := decide ((s.safety = .boot ∨ s.safety = .proof) ∧ dbgState s = 3) } ∧
        t = { s with frozen := t.frozen, pins := t.pins, emps := t.emps } ∧ step { t with pending := [] } = .next { t with pending := [] }) ∧
    (s.pins.frz = true → ∃ t, exec (.frzNFall false) s = .next t ∧ t = s) ∧
    (s.frozen = some f → f.resume = true → s.pins.frz = false → s.pins.porHeld = false → s.pins.sysHeld = false →
      ∃ t, exec .frzNRelease s = .next t ∧ t.frozen = none ∧ clocked t = true ∧ t.pins.frz = true ∧ t.mem = s.mem ∧
        t.cores = s.cores ∧ t.safety = s.safety ∧ t.tt = s.tt ∧
        rget t frzPg 24 = (fval 35 35 1 ||| fval 34 32 f.safety.num ||| fval 17 0 (min 262143 (rfld s frzPg 24 17 0 + 1)))) ∧
    (s.frozen = some f → f.resume = false → ∃ t, exec .frzNRelease s = .next t ∧ t.frozen = some f ∧ t.pins = { s.pins with frz := true } ∧
      t = { s with pins := t.pins })

/-- The test access port, and the freeze that it reads out (R644 to R655, R659 to R662). -/
def Obligations.TestPortAndFreeze : Prop :=
  Rule.TestAccessPort ∧ Rule.FreezeAndResume

/-- Debug: the debug master in Halt or Full stops a context that is not Empty, its multiplications complete and its division
dropped, and pends HALT; lets a halted one issue one instruction; and lets it run, after the BREAK that it stopped at. It reads
the registers of a halted context it may see, and writes them in Full, as the capability's words untag it. Another requester, an
Empty context, one that is not halted, and a register that is not reached are refused and captured (R656, R657, R663 to R668,
Table 14.4, Table 14.13). -/
def Obligations.DebugCommands : Prop :=
  ∀ (s : State) (st : Stamp) (core : BitVec 7) (ctx : BitVec 2) (v : Word),
    let n := core.toNat
    let h := ctx.toNat
    let x := ctxAt s n h
    let tn := rfld s frzPg 19 35 29
    let th := rfld s frzPg 19 28 27
    let i := rfld s frzPg 19 8 0
    let y := ctxAt s tn th
    let others := fun (t : State) (n h : Nat) => ∀ m k, ¬ (m = n ∧ k = h) → ctxAt t m k = ctxAt s m k
    let named := fun (t : State) => rget t frzPg 17 = fval 32 26 n
    let open_ := y.halted = true ∧ (s.lcs = .blank ∨ tokenSlot s tn = true)
    let notes := fun (t : State) => RegsKept s t (fun p off => p = frzPg ∧ (off = 6 ∨ off = 7 ∨ off = 9 ∨ off = 17 ∨ off = 21)) ∧ t.mem = s.mem
    clocked s = true → pageReach s frzPg = .ok →
    (st.cls = 2 → 2 ≤ dbgState s →
      (x.st ≠ .empty → haltable s n = true → x.halted = false →
        (x.fresh = true ∨ (x.lates = [] ∧ interruptDue s n = none)) →
        ∃ t, exec (.halt st core ctx) s = .next t ∧ (ctxAt t n h).halted = true ∧ (ctxAt t n h).pcc = x.pcc ∧
          (ctxAt t n h).muls = [] ∧ (ctxAt t n h).div = none ∧ (ctxAt t n h).w = x.w ∧ (ctxAt t n h).c = x.c ∧
          (x.muls = [] → (ctxAt t n h).mh = x.mh ∧ (ctxAt t n h).ml = x.ml) ∧
          others t n h ∧ bit (rget t frzPg 9) 1 = true ∧ named t ∧ notes t) ∧
      ((x.st = .empty ∨ haltable s n = false) → ∃ t, exec (.halt st core ctx) s = .next t ∧ Captured s t frzPg 9 n ∧
        t.cores = s.cores ∧ notes t) ∧
      (x.halted = true →
        (∃ t, exec (.step st core ctx) s = .next t ∧ (ctxAt t n h).halted = true ∧ (ctxAt t n h).stepping = true ∧
          (ctxAt t n h).pcc = (if x.atBreak then x.pcc.move (x.pcc.cursor + 1) else x.pcc) ∧ (ctxAt t n h).w = x.w ∧ others t n h ∧ notes t) ∧
        (∃ t, exec (.run st core ctx) s = .next t ∧ (ctxAt t n h).halted = false ∧ (ctxAt t n h).stepping = false ∧
          (ctxAt t n h).pcc = (if x.atBreak then x.pcc.move (x.pcc.cursor + 1) else x.pcc) ∧ (ctxAt t n h).w = x.w ∧ others t n h ∧ notes t)) ∧
      (x.halted = false → ∀ c ∈ [Instr.step st core ctx, .run st core ctx], ∃ t, exec c s = .next t ∧ Captured s t frzPg 9 n ∧
        t.cores = s.cores ∧ notes t)) ∧
    (st.cls = 2 → dbgState s < 2 → ∀ c ∈ [Instr.halt st core ctx, .step st core ctx, .run st core ctx], ∃ t, exec c s = .next t ∧
      Captured s t frzPg 9 n ∧ t.cores = s.cores ∧ notes t) ∧
    (st.cls ≠ 2 → ∀ c ∈ [Instr.halt st core ctx, .step st core ctx, .run st core ctx], ∃ t, exec c s = .next t ∧
      Captured s t frzPg 8 17 ∧ t.cores = s.cores ∧ notes t) ∧
    (open_ → 2 ≤ dbgState s →
      (i < 224 → ∃ t, exec (.dbgrdataAccess st none) s = .next t ∧ t.busReply.data = y.wphys i ∧ t.cores = s.cores ∧
        rget t frzPg 21 = fval 34 34 1 ∧ notes t) ∧
      (224 ≤ i → i < 240 → ∃ t, exec (.dbgrdataAccess st none) s = .next t ∧
        t.busReply.data = (if i % 2 = 1 then (y.cphys ((i - 224) / 2)).lo else (y.cphys ((i - 224) / 2)).hi) ∧ t.cores = s.cores ∧
        rget t frzPg 21 = (fval 35 35 (bnat (y.cphys ((i - 224) / 2)).tag) ||| fval 34 34 1) ∧ notes t)) ∧
    (st.cls = 2 → open_ → dbgState s = 3 →
      (1 ≤ i → i < 224 → ∃ t, exec (.dbgrdataAccess st (some v)) s = .next t ∧ (ctxAt t tn th).wphys i = v ∧
        (∀ j, j ≠ i → (ctxAt t tn th).wphys j = y.wphys j) ∧ (ctxAt t tn th).c = y.c ∧ (ctxAt t tn th).psw = y.psw ∧
        others t tn th ∧ rget t frzPg 21 = fval 34 34 1 ∧ notes t) ∧
      (226 ≤ i → i < 240 → ∃ t, exec (.dbgrdataAccess st (some v)) s = .next t ∧
        ((ctxAt t tn th).cphys ((i - 224) / 2)).tag = false ∧
        (if i % 2 = 1 then ((ctxAt t tn th).cphys ((i - 224) / 2)).lo = v else ((ctxAt t tn th).cphys ((i - 224) / 2)).hi = v) ∧
        (ctxAt t tn th).w = y.w ∧ others t tn th ∧ notes t)) ∧
    ((y.halted = false ∨ 404 ≤ i) → ∃ t, exec (.dbgrdataAccess st none) s = .next t ∧ t.busReply.data = 0 ∧ rget t frzPg 21 = 0 ∧
      Captured s t frzPg 10 i ∧ t.cores = s.cores ∧ notes t) ∧
    (st.cls = 2 → (y.halted = false ∨ 404 ≤ i ∨ dbgState s ≠ 3) → ∃ t, exec (.dbgrdataAccess st (some v)) s = .next t ∧
      Captured s t frzPg 10 i ∧ t.cores = s.cores ∧ notes t) ∧
    (st.cls ≠ 2 → ∃ t, exec (.dbgrdataAccess st (some v)) s = .next t ∧ Captured s t frzPg 8 20 ∧ t.cores = s.cores ∧ notes t)
end

