-- ==== Sys2Proof/Laws/KMap.lean ====
section
/-! SUPPORT. The laws of sparse tables: what a read gives after a write, and that every write keeps the canonical form. -/

namespace Sys2Proof.Machine

variable {α : Type}

@[simp] theorem kget_nil (d : Nat → α) (k : Nat) : kget d [] k = d k := rfl

theorem kget_kerase_same (d : Nat → α) (m : KMap α) (k : Nat) : kget d (kerase m k) k = d k := by
  induction m with
  | nil => rfl
  | cons e r ih =>
    obtain ⟨j, v⟩ := e
    by_cases h : j = k
    · simpa [kerase, h] using ih
    · have : (j != k) = true := by simp [h]
      simp only [kerase, List.filter_cons, this, if_true, kget, h, if_false] at ih ⊢
      exact ih

theorem kget_kerase_other (d : Nat → α) (m : KMap α) {k j : Nat} (h : j ≠ k) :
    kget d (kerase m k) j = kget d m j := by
  induction m with
  | nil => rfl
  | cons e r ih =>
    obtain ⟨i, v⟩ := e
    by_cases hi : i = k
    · subst hi
      have hne : ¬ i = j := fun q => h q.symm
      have hb : (i != i) = false := by simp
      simp only [kerase, List.filter_cons, hb, kget, hne, if_false] at ih ⊢
      exact ih
    · have hb : (i != k) = true := by simp [hi]
      simp only [kerase, List.filter_cons, hb, if_true, kget] at ih ⊢
      split
      · rfl
      · exact ih

theorem kget_kput_same (d : Nat → α) (m : KMap α) (k : Nat) (v : α) (h : ∀ e ∈ m, e.1 ≠ k) :
    kget d (kput m k v) k = v := by
  induction m with
  | nil => simp [kput, kget]
  | cons e r ih =>
    obtain ⟨j, u⟩ := e
    have hj : ¬ j = k := h (j, u) (by simp)
    simp only [kput]
    split
    · simp [kget]
    · simp only [kget, hj, if_false]
      exact ih (fun e he => h e (by simp [he]))

theorem kget_kput_other (d : Nat → α) (m : KMap α) {k j : Nat} (v : α) (h : j ≠ k) :
    kget d (kput m k v) j = kget d m j := by
  induction m with
  | nil => simp [kput, kget, Ne.symm h]
  | cons e r ih =>
    obtain ⟨i, u⟩ := e
    simp only [kput]
    split
    · simp [kget, Ne.symm h]
    · simp only [kget, ih]

theorem kerase_keys (m : KMap α) (k : Nat) : ∀ e ∈ kerase m k, e.1 ≠ k := by
  intro e he
  simpa using (List.mem_filter.mp he).2

/-- Reading the key just written gives the value written. -/
@[simp] theorem kget_kset_same [DecidableEq α] (d : Nat → α) (m : KMap α) (k : Nat) (v : α) :
    kget d (kset d m k v) k = v := by
  unfold kset
  split
  · rename_i h
    rw [kget_kerase_same, h]
  · exact kget_kput_same d _ k v (kerase_keys m k)

/-- Reading another key gives what it gave before. -/
theorem kget_kset_other [DecidableEq α] (d : Nat → α) (m : KMap α) {k j : Nat} (v : α) (h : j ≠ k) :
    kget d (kset d m k v) j = kget d m j := by
  unfold kset
  split
  · exact kget_kerase_other d m h
  · rw [kget_kput_other d _ v h, kget_kerase_other d m h]

/-- A read after a write, in one equation. -/
theorem kget_kset [DecidableEq α] (d : Nat → α) (m : KMap α) (k j : Nat) (v : α) :
    kget d (kset d m k v) j = if j = k then v else kget d m j := by
  split
  · rename_i h
    subst h
    exact kget_kset_same d m j v
  · rename_i h
    exact kget_kset_other d m v h

/-! ## The canonical form -/

theorem kwf_cons [DecidableEq α] (d : Nat → α) (j : Nat) (v : α) (r : KMap α) :
    kwf d ((j, v) :: r) = true ↔ v ≠ d j ∧ (∀ e ∈ r, j < e.1) ∧ kwf d r = true := by
  simp [kwf, and_assoc]

/-- A filtered table keeps the form. -/
theorem kwf_filter [DecidableEq α] (d : Nat → α) (m : KMap α) (p : Nat × α → Bool) (h : kwf d m = true) :
    kwf d (m.filter p) = true := by
  induction m with
  | nil => exact h
  | cons e r ih =>
    obtain ⟨j, v⟩ := e
    rw [kwf_cons] at h
    simp only [List.filter_cons]
    split
    · rw [kwf_cons]
      exact ⟨h.1, fun e he => h.2.1 e (List.mem_filter.mp he).1, ih h.2.2⟩
    · exact ih h.2.2

/-- Keeping the keys of a group keeps the form. -/
theorem kwf_kkeep [DecidableEq α] (d : Nat → α) (m : KMap α) (f : Nat → Bool) (h : kwf d m = true) :
    kwf d (kkeep m f) = true := kwf_filter d m _ h

theorem kwf_kerase [DecidableEq α] (d : Nat → α) (m : KMap α) (k : Nat) (h : kwf d m = true) :
    kwf d (kerase m k) = true := kwf_filter d m _ h

theorem mem_kput (m : KMap α) (k : Nat) (v : α) (e : Nat × α) (h : e ∈ kput m k v) : e = (k, v) ∨ e ∈ m := by
  induction m with
  | nil => simpa [kput] using h
  | cons a r ih =>
    obtain ⟨j, u⟩ := a
    simp only [kput] at h
    split at h
    · simpa using h
    · rcases List.mem_cons.mp h with h | h
      · exact .inr (by simp [h])
      · rcases ih h with h | h
        · exact .inl h
        · exact .inr (by simp [h])

theorem kwf_kput [DecidableEq α] (d : Nat → α) (m : KMap α) (k : Nat) (v : α) (hv : v ≠ d k)
    (hk : ∀ e ∈ m, e.1 ≠ k) (h : kwf d m = true) : kwf d (kput m k v) = true := by
  induction m with
  | nil => simpa [kput, kwf] using hv
  | cons a r ih =>
    obtain ⟨j, u⟩ := a
    rw [kwf_cons] at h
    have hj : j ≠ k := hk (j, u) (by simp)
    simp only [kput]
    split
    · rename_i hlt
      rw [kwf_cons, kwf_cons]
      refine ⟨hv, ?_, h.1, h.2.1, h.2.2⟩
      intro e he
      rcases List.mem_cons.mp he with he | he
      · simpa [he] using hlt
      · exact Nat.lt_trans hlt (h.2.1 e he)
    · rename_i hlt
      rw [kwf_cons]
      refine ⟨h.1, ?_, ih (fun e he => hk e (by simp [he])) h.2.2⟩
      intro e he
      rcases mem_kput r k v e he with he | he
      · simp only [he]
        omega
      · exact h.2.1 e he

/-- Every write keeps the canonical form. -/
theorem kwf_kset [DecidableEq α] (d : Nat → α) (m : KMap α) (k : Nat) (v : α) (h : kwf d m = true) :
    kwf d (kset d m k v) = true := by
  unfold kset
  split
  · exact kwf_kerase d m k h
  · rename_i hv
    exact kwf_kput d _ k v hv (kerase_keys m k) (kwf_kerase d m k h)

/-- A key below every listed one reads as its default. -/
theorem kwf_keys_ge [DecidableEq α] (d : Nat → α) (j : Nat) (m : KMap α) (h : ∀ e ∈ m, j < e.1) : kget d m j = d j := by
  induction m with
  | nil => rfl
  | cons a r ih =>
    obtain ⟨i, u⟩ := a
    have : j < i := h (i, u) (by simp)
    have hne : ¬ i = j := by omega
    simp only [kget, hne, if_false]
    exact ih (fun e he => h e (by simp [he]))

end Sys2Proof.Machine
end

