-- ==== Sys2Proof/Laws/State.lean ====
section
/-! SUPPORT. The fields of the State under its updates, one rewrite for each, and reads of cores, contexts, registers and
words after a write. -/

namespace Sys2Proof.Machine

variable (s : State)

/-! ## setCore -/

@[simp] theorem setCore_part (n : Nat) (c : Core) : (setCore s n c).part = s.part := rfl
@[simp] theorem setCore_pending (n : Nat) (c : Core) : (setCore s n c).pending = s.pending := rfl
@[simp] theorem setCore_fresh (n : Nat) (c : Core) : (setCore s n c).fresh = s.fresh := rfl
@[simp] theorem setCore_busReply (n : Nat) (c : Core) : (setCore s n c).busReply = s.busReply := rfl
@[simp] theorem setCore_mem (n : Nat) (c : Core) : (setCore s n c).mem = s.mem := rfl
@[simp] theorem setCore_eccWb (n : Nat) (c : Core) : (setCore s n c).eccWb = s.eccWb := rfl
@[simp] theorem setCore_regs (n : Nat) (c : Core) : (setCore s n c).regs = s.regs := rfl
@[simp] theorem setCore_evTick (n : Nat) (c : Core) : (setCore s n c).evTick = s.evTick := rfl
@[simp] theorem setCore_events (n : Nat) (c : Core) : (setCore s n c).events = s.events := rfl
@[simp] theorem setCore_enHeld (n : Nat) (c : Core) : (setCore s n c).enHeld = s.enHeld := rfl
@[simp] theorem setCore_marks (n : Nat) (c : Core) : (setCore s n c).marks = s.marks := rfl
@[simp] theorem setCore_heatCnt (n : Nat) (c : Core) : (setCore s n c).heatCnt = s.heatCnt := rfl
@[simp] theorem setCore_heatDue (n : Nat) (c : Core) : (setCore s n c).heatDue = s.heatDue := rfl
@[simp] theorem setCore_steals (n : Nat) (c : Core) : (setCore s n c).steals = s.steals := rfl
@[simp] theorem setCore_slots (n : Nat) (c : Core) : (setCore s n c).slots = s.slots := rfl
@[simp] theorem setCore_badPorts (n : Nat) (c : Core) : (setCore s n c).badPorts = s.badPorts := rfl
@[simp] theorem setCore_safety (n : Nat) (c : Core) : (setCore s n c).safety = s.safety := rfl
@[simp] theorem setCore_lcs (n : Nat) (c : Core) : (setCore s n c).lcs = s.lcs := rfl
@[simp] theorem setCore_heldSvc (n : Nat) (c : Core) : (setCore s n c).heldSvc = s.heldSvc := rfl
@[simp] theorem setCore_boot (n : Nat) (c : Core) : (setCore s n c).boot = s.boot := rfl
@[simp] theorem setCore_fuses (n : Nat) (c : Core) : (setCore s n c).fuses = s.fuses := rfl
@[simp] theorem setCore_fusesRead (n : Nat) (c : Core) : (setCore s n c).fusesRead = s.fusesRead := rfl
@[simp] theorem setCore_offers (n : Nat) (c : Core) : (setCore s n c).offers = s.offers := rfl
@[simp] theorem setCore_bootLocks (n : Nat) (c : Core) : (setCore s n c).bootLocks = s.bootLocks := rfl
@[simp] theorem setCore_straps (n : Nat) (c : Core) : (setCore s n c).straps = s.straps := rfl
@[simp] theorem setCore_pins (n : Nat) (c : Core) : (setCore s n c).pins = s.pins := rfl
@[simp] theorem setCore_frozen (n : Nat) (c : Core) : (setCore s n c).frozen = s.frozen := rfl
@[simp] theorem setCore_doms (n : Nat) (c : Core) : (setCore s n c).doms = s.doms := rfl
@[simp] theorem setCore_isol (n : Nat) (c : Core) : (setCore s n c).isol = s.isol := rfl
@[simp] theorem setCore_dieRst (n : Nat) (c : Core) : (setCore s n c).dieRst = s.dieRst := rfl
@[simp] theorem setCore_tt (n : Nat) (c : Core) : (setCore s n c).tt = s.tt := rfl
@[simp] theorem setCore_ttSub (n : Nat) (c : Core) : (setCore s n c).ttSub = s.ttSub := rfl
@[simp] theorem setCore_ttRateWas (n : Nat) (c : Core) : (setCore s n c).ttRateWas = s.ttRateWas := rfl
@[simp] theorem setCore_ttMarks (n : Nat) (c : Core) : (setCore s n c).ttMarks = s.ttMarks := rfl
@[simp] theorem setCore_ticks (n : Nat) (c : Core) : (setCore s n c).ticks = s.ticks := rfl
@[simp] theorem setCore_sync (n : Nat) (c : Core) : (setCore s n c).sync = s.sync := rfl
@[simp] theorem setCore_refs (n : Nat) (c : Core) : (setCore s n c).refs = s.refs := rfl
@[simp] theorem setCore_reeds (n : Nat) (c : Core) : (setCore s n c).reeds = s.reeds := rfl
@[simp] theorem setCore_sedges (n : Nat) (c : Core) : (setCore s n c).sedges = s.sedges := rfl
@[simp] theorem setCore_posts (n : Nat) (c : Core) : (setCore s n c).posts = s.posts := rfl
@[simp] theorem setCore_postId (n : Nat) (c : Core) : (setCore s n c).postId = s.postId := rfl
@[simp] theorem setCore_sweeps (n : Nat) (c : Core) : (setCore s n c).sweeps = s.sweeps := rfl
@[simp] theorem setCore_chans (n : Nat) (c : Core) : (setCore s n c).chans = s.chans := rfl
@[simp] theorem setCore_voters (n : Nat) (c : Core) : (setCore s n c).voters = s.voters := rfl
@[simp] theorem setCore_blocks (n : Nat) (c : Core) : (setCore s n c).blocks = s.blocks := rfl
@[simp] theorem setCore_vens (n : Nat) (c : Core) : (setCore s n c).vens = s.vens := rfl
@[simp] theorem setCore_links (n : Nat) (c : Core) : (setCore s n c).links = s.links := rfl
@[simp] theorem setCore_cwys (n : Nat) (c : Core) : (setCore s n c).cwys = s.cwys := rfl
@[simp] theorem setCore_stack (n : Nat) (c : Core) : (setCore s n c).stack = s.stack := rfl
@[simp] theorem setCore_eths (n : Nat) (c : Core) : (setCore s n c).eths = s.eths := rfl
@[simp] theorem setCore_prps (n : Nat) (c : Core) : (setCore s n c).prps = s.prps := rfl
@[simp] theorem setCore_cans (n : Nat) (c : Core) : (setCore s n c).cans = s.cans := rfl
@[simp] theorem setCore_flashes (n : Nat) (c : Core) : (setCore s n c).flashes = s.flashes := rfl
@[simp] theorem setCore_emps (n : Nat) (c : Core) : (setCore s n c).emps = s.emps := rfl
@[simp] theorem setCore_carr (n : Nat) (c : Core) : (setCore s n c).carr = s.carr := rfl
@[simp] theorem setCore_tap (n : Nat) (c : Core) : (setCore s n c).tap = s.tap := rfl

/-! ## rset -/

@[simp] theorem rset_part (pg off : Nat) (v : Word) : (rset s pg off v).part = s.part := rfl
@[simp] theorem rset_pending (pg off : Nat) (v : Word) : (rset s pg off v).pending = s.pending := rfl
@[simp] theorem rset_fresh (pg off : Nat) (v : Word) : (rset s pg off v).fresh = s.fresh := rfl
@[simp] theorem rset_busReply (pg off : Nat) (v : Word) : (rset s pg off v).busReply = s.busReply := rfl
@[simp] theorem rset_mem (pg off : Nat) (v : Word) : (rset s pg off v).mem = s.mem := rfl
@[simp] theorem rset_eccWb (pg off : Nat) (v : Word) : (rset s pg off v).eccWb = s.eccWb := rfl
@[simp] theorem rset_evTick (pg off : Nat) (v : Word) : (rset s pg off v).evTick = s.evTick := rfl
@[simp] theorem rset_events (pg off : Nat) (v : Word) : (rset s pg off v).events = s.events := rfl
@[simp] theorem rset_enHeld (pg off : Nat) (v : Word) : (rset s pg off v).enHeld = s.enHeld := rfl
@[simp] theorem rset_cores (pg off : Nat) (v : Word) : (rset s pg off v).cores = s.cores := rfl
@[simp] theorem rset_marks (pg off : Nat) (v : Word) : (rset s pg off v).marks = s.marks := rfl
@[simp] theorem rset_heatCnt (pg off : Nat) (v : Word) : (rset s pg off v).heatCnt = s.heatCnt := rfl
@[simp] theorem rset_heatDue (pg off : Nat) (v : Word) : (rset s pg off v).heatDue = s.heatDue := rfl
@[simp] theorem rset_steals (pg off : Nat) (v : Word) : (rset s pg off v).steals = s.steals := rfl
@[simp] theorem rset_slots (pg off : Nat) (v : Word) : (rset s pg off v).slots = s.slots := rfl
@[simp] theorem rset_badPorts (pg off : Nat) (v : Word) : (rset s pg off v).badPorts = s.badPorts := rfl
@[simp] theorem rset_safety (pg off : Nat) (v : Word) : (rset s pg off v).safety = s.safety := rfl
@[simp] theorem rset_lcs (pg off : Nat) (v : Word) : (rset s pg off v).lcs = s.lcs := rfl
@[simp] theorem rset_heldSvc (pg off : Nat) (v : Word) : (rset s pg off v).heldSvc = s.heldSvc := rfl
@[simp] theorem rset_boot (pg off : Nat) (v : Word) : (rset s pg off v).boot = s.boot := rfl
@[simp] theorem rset_fuses (pg off : Nat) (v : Word) : (rset s pg off v).fuses = s.fuses := rfl
@[simp] theorem rset_fusesRead (pg off : Nat) (v : Word) : (rset s pg off v).fusesRead = s.fusesRead := rfl
@[simp] theorem rset_offers (pg off : Nat) (v : Word) : (rset s pg off v).offers = s.offers := rfl
@[simp] theorem rset_bootLocks (pg off : Nat) (v : Word) : (rset s pg off v).bootLocks = s.bootLocks := rfl
@[simp] theorem rset_straps (pg off : Nat) (v : Word) : (rset s pg off v).straps = s.straps := rfl
@[simp] theorem rset_pins (pg off : Nat) (v : Word) : (rset s pg off v).pins = s.pins := rfl
@[simp] theorem rset_frozen (pg off : Nat) (v : Word) : (rset s pg off v).frozen = s.frozen := rfl
@[simp] theorem rset_doms (pg off : Nat) (v : Word) : (rset s pg off v).doms = s.doms := rfl
@[simp] theorem rset_isol (pg off : Nat) (v : Word) : (rset s pg off v).isol = s.isol := rfl
@[simp] theorem rset_dieRst (pg off : Nat) (v : Word) : (rset s pg off v).dieRst = s.dieRst := rfl
@[simp] theorem rset_tt (pg off : Nat) (v : Word) : (rset s pg off v).tt = s.tt := rfl
@[simp] theorem rset_ttSub (pg off : Nat) (v : Word) : (rset s pg off v).ttSub = s.ttSub := rfl
@[simp] theorem rset_ttRateWas (pg off : Nat) (v : Word) : (rset s pg off v).ttRateWas = s.ttRateWas := rfl
@[simp] theorem rset_ttMarks (pg off : Nat) (v : Word) : (rset s pg off v).ttMarks = s.ttMarks := rfl
@[simp] theorem rset_ticks (pg off : Nat) (v : Word) : (rset s pg off v).ticks = s.ticks := rfl
@[simp] theorem rset_sync (pg off : Nat) (v : Word) : (rset s pg off v).sync = s.sync := rfl
@[simp] theorem rset_refs (pg off : Nat) (v : Word) : (rset s pg off v).refs = s.refs := rfl
@[simp] theorem rset_reeds (pg off : Nat) (v : Word) : (rset s pg off v).reeds = s.reeds := rfl
@[simp] theorem rset_sedges (pg off : Nat) (v : Word) : (rset s pg off v).sedges = s.sedges := rfl
@[simp] theorem rset_posts (pg off : Nat) (v : Word) : (rset s pg off v).posts = s.posts := rfl
@[simp] theorem rset_postId (pg off : Nat) (v : Word) : (rset s pg off v).postId = s.postId := rfl
@[simp] theorem rset_sweeps (pg off : Nat) (v : Word) : (rset s pg off v).sweeps = s.sweeps := rfl
@[simp] theorem rset_chans (pg off : Nat) (v : Word) : (rset s pg off v).chans = s.chans := rfl
@[simp] theorem rset_voters (pg off : Nat) (v : Word) : (rset s pg off v).voters = s.voters := rfl
@[simp] theorem rset_blocks (pg off : Nat) (v : Word) : (rset s pg off v).blocks = s.blocks := rfl
@[simp] theorem rset_vens (pg off : Nat) (v : Word) : (rset s pg off v).vens = s.vens := rfl
@[simp] theorem rset_links (pg off : Nat) (v : Word) : (rset s pg off v).links = s.links := rfl
@[simp] theorem rset_cwys (pg off : Nat) (v : Word) : (rset s pg off v).cwys = s.cwys := rfl
@[simp] theorem rset_stack (pg off : Nat) (v : Word) : (rset s pg off v).stack = s.stack := rfl
@[simp] theorem rset_eths (pg off : Nat) (v : Word) : (rset s pg off v).eths = s.eths := rfl
@[simp] theorem rset_prps (pg off : Nat) (v : Word) : (rset s pg off v).prps = s.prps := rfl
@[simp] theorem rset_cans (pg off : Nat) (v : Word) : (rset s pg off v).cans = s.cans := rfl
@[simp] theorem rset_flashes (pg off : Nat) (v : Word) : (rset s pg off v).flashes = s.flashes := rfl
@[simp] theorem rset_emps (pg off : Nat) (v : Word) : (rset s pg off v).emps = s.emps := rfl
@[simp] theorem rset_carr (pg off : Nat) (v : Word) : (rset s pg off v).carr = s.carr := rfl
@[simp] theorem rset_tap (pg off : Nat) (v : Word) : (rset s pg off v).tap = s.tap := rfl

/-! ## mset -/

@[simp] theorem mset_part (a : Nat) (w : MemWord) : (mset s a w).part = s.part := rfl
@[simp] theorem mset_pending (a : Nat) (w : MemWord) : (mset s a w).pending = s.pending := rfl
@[simp] theorem mset_fresh (a : Nat) (w : MemWord) : (mset s a w).fresh = s.fresh := rfl
@[simp] theorem mset_busReply (a : Nat) (w : MemWord) : (mset s a w).busReply = s.busReply := rfl
@[simp] theorem mset_eccWb (a : Nat) (w : MemWord) : (mset s a w).eccWb = s.eccWb := rfl
@[simp] theorem mset_regs (a : Nat) (w : MemWord) : (mset s a w).regs = s.regs := rfl
@[simp] theorem mset_evTick (a : Nat) (w : MemWord) : (mset s a w).evTick = s.evTick := rfl
@[simp] theorem mset_events (a : Nat) (w : MemWord) : (mset s a w).events = s.events := rfl
@[simp] theorem mset_enHeld (a : Nat) (w : MemWord) : (mset s a w).enHeld = s.enHeld := rfl
@[simp] theorem mset_cores (a : Nat) (w : MemWord) : (mset s a w).cores = s.cores := rfl
@[simp] theorem mset_marks (a : Nat) (w : MemWord) : (mset s a w).marks = s.marks := rfl
@[simp] theorem mset_heatCnt (a : Nat) (w : MemWord) : (mset s a w).heatCnt = s.heatCnt := rfl
@[simp] theorem mset_heatDue (a : Nat) (w : MemWord) : (mset s a w).heatDue = s.heatDue := rfl
@[simp] theorem mset_steals (a : Nat) (w : MemWord) : (mset s a w).steals = s.steals := rfl
@[simp] theorem mset_slots (a : Nat) (w : MemWord) : (mset s a w).slots = s.slots := rfl
@[simp] theorem mset_badPorts (a : Nat) (w : MemWord) : (mset s a w).badPorts = s.badPorts := rfl
@[simp] theorem mset_safety (a : Nat) (w : MemWord) : (mset s a w).safety = s.safety := rfl
@[simp] theorem mset_lcs (a : Nat) (w : MemWord) : (mset s a w).lcs = s.lcs := rfl
@[simp] theorem mset_heldSvc (a : Nat) (w : MemWord) : (mset s a w).heldSvc = s.heldSvc := rfl
@[simp] theorem mset_boot (a : Nat) (w : MemWord) : (mset s a w).boot = s.boot := rfl
@[simp] theorem mset_fuses (a : Nat) (w : MemWord) : (mset s a w).fuses = s.fuses := rfl
@[simp] theorem mset_fusesRead (a : Nat) (w : MemWord) : (mset s a w).fusesRead = s.fusesRead := rfl
@[simp] theorem mset_offers (a : Nat) (w : MemWord) : (mset s a w).offers = s.offers := rfl
@[simp] theorem mset_bootLocks (a : Nat) (w : MemWord) : (mset s a w).bootLocks = s.bootLocks := rfl
@[simp] theorem mset_straps (a : Nat) (w : MemWord) : (mset s a w).straps = s.straps := rfl
@[simp] theorem mset_pins (a : Nat) (w : MemWord) : (mset s a w).pins = s.pins := rfl
@[simp] theorem mset_frozen (a : Nat) (w : MemWord) : (mset s a w).frozen = s.frozen := rfl
@[simp] theorem mset_doms (a : Nat) (w : MemWord) : (mset s a w).doms = s.doms := rfl
@[simp] theorem mset_isol (a : Nat) (w : MemWord) : (mset s a w).isol = s.isol := rfl
@[simp] theorem mset_dieRst (a : Nat) (w : MemWord) : (mset s a w).dieRst = s.dieRst := rfl
@[simp] theorem mset_tt (a : Nat) (w : MemWord) : (mset s a w).tt = s.tt := rfl
@[simp] theorem mset_ttSub (a : Nat) (w : MemWord) : (mset s a w).ttSub = s.ttSub := rfl
@[simp] theorem mset_ttRateWas (a : Nat) (w : MemWord) : (mset s a w).ttRateWas = s.ttRateWas := rfl
@[simp] theorem mset_ttMarks (a : Nat) (w : MemWord) : (mset s a w).ttMarks = s.ttMarks := rfl
@[simp] theorem mset_ticks (a : Nat) (w : MemWord) : (mset s a w).ticks = s.ticks := rfl
@[simp] theorem mset_sync (a : Nat) (w : MemWord) : (mset s a w).sync = s.sync := rfl
@[simp] theorem mset_refs (a : Nat) (w : MemWord) : (mset s a w).refs = s.refs := rfl
@[simp] theorem mset_reeds (a : Nat) (w : MemWord) : (mset s a w).reeds = s.reeds := rfl
@[simp] theorem mset_sedges (a : Nat) (w : MemWord) : (mset s a w).sedges = s.sedges := rfl
@[simp] theorem mset_posts (a : Nat) (w : MemWord) : (mset s a w).posts = s.posts := rfl
@[simp] theorem mset_postId (a : Nat) (w : MemWord) : (mset s a w).postId = s.postId := rfl
@[simp] theorem mset_sweeps (a : Nat) (w : MemWord) : (mset s a w).sweeps = s.sweeps := rfl
@[simp] theorem mset_chans (a : Nat) (w : MemWord) : (mset s a w).chans = s.chans := rfl
@[simp] theorem mset_voters (a : Nat) (w : MemWord) : (mset s a w).voters = s.voters := rfl
@[simp] theorem mset_blocks (a : Nat) (w : MemWord) : (mset s a w).blocks = s.blocks := rfl
@[simp] theorem mset_vens (a : Nat) (w : MemWord) : (mset s a w).vens = s.vens := rfl
@[simp] theorem mset_links (a : Nat) (w : MemWord) : (mset s a w).links = s.links := rfl
@[simp] theorem mset_cwys (a : Nat) (w : MemWord) : (mset s a w).cwys = s.cwys := rfl
@[simp] theorem mset_stack (a : Nat) (w : MemWord) : (mset s a w).stack = s.stack := rfl
@[simp] theorem mset_eths (a : Nat) (w : MemWord) : (mset s a w).eths = s.eths := rfl
@[simp] theorem mset_prps (a : Nat) (w : MemWord) : (mset s a w).prps = s.prps := rfl
@[simp] theorem mset_cans (a : Nat) (w : MemWord) : (mset s a w).cans = s.cans := rfl
@[simp] theorem mset_flashes (a : Nat) (w : MemWord) : (mset s a w).flashes = s.flashes := rfl
@[simp] theorem mset_emps (a : Nat) (w : MemWord) : (mset s a w).emps = s.emps := rfl
@[simp] theorem mset_carr (a : Nat) (w : MemWord) : (mset s a w).carr = s.carr := rfl
@[simp] theorem mset_tap (a : Nat) (w : MemWord) : (mset s a w).tap = s.tap := rfl

/-! ## setDom -/

@[simp] theorem setDom_part (k : Nat) (d : Dom) : (setDom s k d).part = s.part := rfl
@[simp] theorem setDom_pending (k : Nat) (d : Dom) : (setDom s k d).pending = s.pending := rfl
@[simp] theorem setDom_fresh (k : Nat) (d : Dom) : (setDom s k d).fresh = s.fresh := rfl
@[simp] theorem setDom_busReply (k : Nat) (d : Dom) : (setDom s k d).busReply = s.busReply := rfl
@[simp] theorem setDom_mem (k : Nat) (d : Dom) : (setDom s k d).mem = s.mem := rfl
@[simp] theorem setDom_eccWb (k : Nat) (d : Dom) : (setDom s k d).eccWb = s.eccWb := rfl
@[simp] theorem setDom_regs (k : Nat) (d : Dom) : (setDom s k d).regs = s.regs := rfl
@[simp] theorem setDom_evTick (k : Nat) (d : Dom) : (setDom s k d).evTick = s.evTick := rfl
@[simp] theorem setDom_events (k : Nat) (d : Dom) : (setDom s k d).events = s.events := rfl
@[simp] theorem setDom_enHeld (k : Nat) (d : Dom) : (setDom s k d).enHeld = s.enHeld := rfl
@[simp] theorem setDom_cores (k : Nat) (d : Dom) : (setDom s k d).cores = s.cores := rfl
@[simp] theorem setDom_marks (k : Nat) (d : Dom) : (setDom s k d).marks = s.marks := rfl
@[simp] theorem setDom_heatCnt (k : Nat) (d : Dom) : (setDom s k d).heatCnt = s.heatCnt := rfl
@[simp] theorem setDom_heatDue (k : Nat) (d : Dom) : (setDom s k d).heatDue = s.heatDue := rfl
@[simp] theorem setDom_steals (k : Nat) (d : Dom) : (setDom s k d).steals = s.steals := rfl
@[simp] theorem setDom_slots (k : Nat) (d : Dom) : (setDom s k d).slots = s.slots := rfl
@[simp] theorem setDom_badPorts (k : Nat) (d : Dom) : (setDom s k d).badPorts = s.badPorts := rfl
@[simp] theorem setDom_safety (k : Nat) (d : Dom) : (setDom s k d).safety = s.safety := rfl
@[simp] theorem setDom_lcs (k : Nat) (d : Dom) : (setDom s k d).lcs = s.lcs := rfl
@[simp] theorem setDom_heldSvc (k : Nat) (d : Dom) : (setDom s k d).heldSvc = s.heldSvc := rfl
@[simp] theorem setDom_boot (k : Nat) (d : Dom) : (setDom s k d).boot = s.boot := rfl
@[simp] theorem setDom_fuses (k : Nat) (d : Dom) : (setDom s k d).fuses = s.fuses := rfl
@[simp] theorem setDom_fusesRead (k : Nat) (d : Dom) : (setDom s k d).fusesRead = s.fusesRead := rfl
@[simp] theorem setDom_offers (k : Nat) (d : Dom) : (setDom s k d).offers = s.offers := rfl
@[simp] theorem setDom_bootLocks (k : Nat) (d : Dom) : (setDom s k d).bootLocks = s.bootLocks := rfl
@[simp] theorem setDom_straps (k : Nat) (d : Dom) : (setDom s k d).straps = s.straps := rfl
@[simp] theorem setDom_pins (k : Nat) (d : Dom) : (setDom s k d).pins = s.pins := rfl
@[simp] theorem setDom_frozen (k : Nat) (d : Dom) : (setDom s k d).frozen = s.frozen := rfl
@[simp] theorem setDom_isol (k : Nat) (d : Dom) : (setDom s k d).isol = s.isol := rfl
@[simp] theorem setDom_dieRst (k : Nat) (d : Dom) : (setDom s k d).dieRst = s.dieRst := rfl
@[simp] theorem setDom_tt (k : Nat) (d : Dom) : (setDom s k d).tt = s.tt := rfl
@[simp] theorem setDom_ttSub (k : Nat) (d : Dom) : (setDom s k d).ttSub = s.ttSub := rfl
@[simp] theorem setDom_ttRateWas (k : Nat) (d : Dom) : (setDom s k d).ttRateWas = s.ttRateWas := rfl
@[simp] theorem setDom_ttMarks (k : Nat) (d : Dom) : (setDom s k d).ttMarks = s.ttMarks := rfl
@[simp] theorem setDom_ticks (k : Nat) (d : Dom) : (setDom s k d).ticks = s.ticks := rfl
@[simp] theorem setDom_sync (k : Nat) (d : Dom) : (setDom s k d).sync = s.sync := rfl
@[simp] theorem setDom_refs (k : Nat) (d : Dom) : (setDom s k d).refs = s.refs := rfl
@[simp] theorem setDom_reeds (k : Nat) (d : Dom) : (setDom s k d).reeds = s.reeds := rfl
@[simp] theorem setDom_sedges (k : Nat) (d : Dom) : (setDom s k d).sedges = s.sedges := rfl
@[simp] theorem setDom_posts (k : Nat) (d : Dom) : (setDom s k d).posts = s.posts := rfl
@[simp] theorem setDom_postId (k : Nat) (d : Dom) : (setDom s k d).postId = s.postId := rfl
@[simp] theorem setDom_sweeps (k : Nat) (d : Dom) : (setDom s k d).sweeps = s.sweeps := rfl
@[simp] theorem setDom_chans (k : Nat) (d : Dom) : (setDom s k d).chans = s.chans := rfl
@[simp] theorem setDom_voters (k : Nat) (d : Dom) : (setDom s k d).voters = s.voters := rfl
@[simp] theorem setDom_blocks (k : Nat) (d : Dom) : (setDom s k d).blocks = s.blocks := rfl
@[simp] theorem setDom_vens (k : Nat) (d : Dom) : (setDom s k d).vens = s.vens := rfl
@[simp] theorem setDom_links (k : Nat) (d : Dom) : (setDom s k d).links = s.links := rfl
@[simp] theorem setDom_cwys (k : Nat) (d : Dom) : (setDom s k d).cwys = s.cwys := rfl
@[simp] theorem setDom_stack (k : Nat) (d : Dom) : (setDom s k d).stack = s.stack := rfl
@[simp] theorem setDom_eths (k : Nat) (d : Dom) : (setDom s k d).eths = s.eths := rfl
@[simp] theorem setDom_prps (k : Nat) (d : Dom) : (setDom s k d).prps = s.prps := rfl
@[simp] theorem setDom_cans (k : Nat) (d : Dom) : (setDom s k d).cans = s.cans := rfl
@[simp] theorem setDom_flashes (k : Nat) (d : Dom) : (setDom s k d).flashes = s.flashes := rfl
@[simp] theorem setDom_emps (k : Nat) (d : Dom) : (setDom s k d).emps = s.emps := rfl
@[simp] theorem setDom_carr (k : Nat) (d : Dom) : (setDom s k d).carr = s.carr := rfl
@[simp] theorem setDom_tap (k : Nat) (d : Dom) : (setDom s k d).tap = s.tap := rfl

/-! ## setCtx -/

@[simp] theorem setCtx_part (n h : Nat) (x : Ctx) : (setCtx s n h x).part = s.part := rfl
@[simp] theorem setCtx_pending (n h : Nat) (x : Ctx) : (setCtx s n h x).pending = s.pending := rfl
@[simp] theorem setCtx_fresh (n h : Nat) (x : Ctx) : (setCtx s n h x).fresh = s.fresh := rfl
@[simp] theorem setCtx_busReply (n h : Nat) (x : Ctx) : (setCtx s n h x).busReply = s.busReply := rfl
@[simp] theorem setCtx_mem (n h : Nat) (x : Ctx) : (setCtx s n h x).mem = s.mem := rfl
@[simp] theorem setCtx_eccWb (n h : Nat) (x : Ctx) : (setCtx s n h x).eccWb = s.eccWb := rfl
@[simp] theorem setCtx_regs (n h : Nat) (x : Ctx) : (setCtx s n h x).regs = s.regs := rfl
@[simp] theorem setCtx_evTick (n h : Nat) (x : Ctx) : (setCtx s n h x).evTick = s.evTick := rfl
@[simp] theorem setCtx_events (n h : Nat) (x : Ctx) : (setCtx s n h x).events = s.events := rfl
@[simp] theorem setCtx_enHeld (n h : Nat) (x : Ctx) : (setCtx s n h x).enHeld = s.enHeld := rfl
@[simp] theorem setCtx_marks (n h : Nat) (x : Ctx) : (setCtx s n h x).marks = s.marks := rfl
@[simp] theorem setCtx_heatCnt (n h : Nat) (x : Ctx) : (setCtx s n h x).heatCnt = s.heatCnt := rfl
@[simp] theorem setCtx_heatDue (n h : Nat) (x : Ctx) : (setCtx s n h x).heatDue = s.heatDue := rfl
@[simp] theorem setCtx_steals (n h : Nat) (x : Ctx) : (setCtx s n h x).steals = s.steals := rfl
@[simp] theorem setCtx_slots (n h : Nat) (x : Ctx) : (setCtx s n h x).slots = s.slots := rfl
@[simp] theorem setCtx_badPorts (n h : Nat) (x : Ctx) : (setCtx s n h x).badPorts = s.badPorts := rfl
@[simp] theorem setCtx_safety (n h : Nat) (x : Ctx) : (setCtx s n h x).safety = s.safety := rfl
@[simp] theorem setCtx_lcs (n h : Nat) (x : Ctx) : (setCtx s n h x).lcs = s.lcs := rfl
@[simp] theorem setCtx_heldSvc (n h : Nat) (x : Ctx) : (setCtx s n h x).heldSvc = s.heldSvc := rfl
@[simp] theorem setCtx_boot (n h : Nat) (x : Ctx) : (setCtx s n h x).boot = s.boot := rfl
@[simp] theorem setCtx_fuses (n h : Nat) (x : Ctx) : (setCtx s n h x).fuses = s.fuses := rfl
@[simp] theorem setCtx_fusesRead (n h : Nat) (x : Ctx) : (setCtx s n h x).fusesRead = s.fusesRead := rfl
@[simp] theorem setCtx_offers (n h : Nat) (x : Ctx) : (setCtx s n h x).offers = s.offers := rfl
@[simp] theorem setCtx_bootLocks (n h : Nat) (x : Ctx) : (setCtx s n h x).bootLocks = s.bootLocks := rfl
@[simp] theorem setCtx_straps (n h : Nat) (x : Ctx) : (setCtx s n h x).straps = s.straps := rfl
@[simp] theorem setCtx_pins (n h : Nat) (x : Ctx) : (setCtx s n h x).pins = s.pins := rfl
@[simp] theorem setCtx_frozen (n h : Nat) (x : Ctx) : (setCtx s n h x).frozen = s.frozen := rfl
@[simp] theorem setCtx_doms (n h : Nat) (x : Ctx) : (setCtx s n h x).doms = s.doms := rfl
@[simp] theorem setCtx_isol (n h : Nat) (x : Ctx) : (setCtx s n h x).isol = s.isol := rfl
@[simp] theorem setCtx_dieRst (n h : Nat) (x : Ctx) : (setCtx s n h x).dieRst = s.dieRst := rfl
@[simp] theorem setCtx_tt (n h : Nat) (x : Ctx) : (setCtx s n h x).tt = s.tt := rfl
@[simp] theorem setCtx_ttSub (n h : Nat) (x : Ctx) : (setCtx s n h x).ttSub = s.ttSub := rfl
@[simp] theorem setCtx_ttRateWas (n h : Nat) (x : Ctx) : (setCtx s n h x).ttRateWas = s.ttRateWas := rfl
@[simp] theorem setCtx_ttMarks (n h : Nat) (x : Ctx) : (setCtx s n h x).ttMarks = s.ttMarks := rfl
@[simp] theorem setCtx_ticks (n h : Nat) (x : Ctx) : (setCtx s n h x).ticks = s.ticks := rfl
@[simp] theorem setCtx_sync (n h : Nat) (x : Ctx) : (setCtx s n h x).sync = s.sync := rfl
@[simp] theorem setCtx_refs (n h : Nat) (x : Ctx) : (setCtx s n h x).refs = s.refs := rfl
@[simp] theorem setCtx_reeds (n h : Nat) (x : Ctx) : (setCtx s n h x).reeds = s.reeds := rfl
@[simp] theorem setCtx_sedges (n h : Nat) (x : Ctx) : (setCtx s n h x).sedges = s.sedges := rfl
@[simp] theorem setCtx_posts (n h : Nat) (x : Ctx) : (setCtx s n h x).posts = s.posts := rfl
@[simp] theorem setCtx_postId (n h : Nat) (x : Ctx) : (setCtx s n h x).postId = s.postId := rfl
@[simp] theorem setCtx_sweeps (n h : Nat) (x : Ctx) : (setCtx s n h x).sweeps = s.sweeps := rfl
@[simp] theorem setCtx_chans (n h : Nat) (x : Ctx) : (setCtx s n h x).chans = s.chans := rfl
@[simp] theorem setCtx_voters (n h : Nat) (x : Ctx) : (setCtx s n h x).voters = s.voters := rfl
@[simp] theorem setCtx_blocks (n h : Nat) (x : Ctx) : (setCtx s n h x).blocks = s.blocks := rfl
@[simp] theorem setCtx_vens (n h : Nat) (x : Ctx) : (setCtx s n h x).vens = s.vens := rfl
@[simp] theorem setCtx_links (n h : Nat) (x : Ctx) : (setCtx s n h x).links = s.links := rfl
@[simp] theorem setCtx_cwys (n h : Nat) (x : Ctx) : (setCtx s n h x).cwys = s.cwys := rfl
@[simp] theorem setCtx_stack (n h : Nat) (x : Ctx) : (setCtx s n h x).stack = s.stack := rfl
@[simp] theorem setCtx_eths (n h : Nat) (x : Ctx) : (setCtx s n h x).eths = s.eths := rfl
@[simp] theorem setCtx_prps (n h : Nat) (x : Ctx) : (setCtx s n h x).prps = s.prps := rfl
@[simp] theorem setCtx_cans (n h : Nat) (x : Ctx) : (setCtx s n h x).cans = s.cans := rfl
@[simp] theorem setCtx_flashes (n h : Nat) (x : Ctx) : (setCtx s n h x).flashes = s.flashes := rfl
@[simp] theorem setCtx_emps (n h : Nat) (x : Ctx) : (setCtx s n h x).emps = s.emps := rfl
@[simp] theorem setCtx_carr (n h : Nat) (x : Ctx) : (setCtx s n h x).carr = s.carr := rfl
@[simp] theorem setCtx_tap (n h : Nat) (x : Ctx) : (setCtx s n h x).tap = s.tap := rfl

/-! ## Reads after writes -/

/-- The core just written. -/
@[simp] theorem coreAt_setCore_same (n : Nat) (c : Core) : coreAt (setCore s n c) n = c := by simp [coreAt, setCore]

/-- Another core is as it was. -/
theorem coreAt_setCore_other {n m : Nat} (c : Core) (h : m ≠ n) : coreAt (setCore s n c) m = coreAt s m := by
  simp [coreAt, setCore, kget_kset_other _ _ _ h]

/-- The context just written in a core block. -/
@[simp] theorem Core.ctx_setCtx_same (c : Core) (h : Nat) (x : Ctx) : (c.setCtx h x).ctx h = x := by
  simp [Core.ctx, Core.setCtx]

/-- Another context of the block is as it was. -/
theorem Core.ctx_setCtx_other (c : Core) {h k : Nat} (x : Ctx) (hk : k ≠ h) : (c.setCtx h x).ctx k = c.ctx k := by
  simp [Core.ctx, Core.setCtx, kget_kset_other _ _ _ hk]

/-- The context just written. -/
@[simp] theorem ctxAt_setCtx_same (n h : Nat) (x : Ctx) : ctxAt (setCtx s n h x) n h = x := by
  simp [ctxAt, setCtx]

/-- Another context is as it was. -/
theorem ctxAt_setCtx_other {n h m k : Nat} (x : Ctx) (hne : ¬ (m = n ∧ k = h)) :
    ctxAt (setCtx s n h x) m k = ctxAt s m k := by
  unfold ctxAt setCtx
  by_cases hm : m = n
  · subst hm
    have hk : k ≠ h := fun q => hne ⟨rfl, q⟩
    rw [coreAt_setCore_same, Core.ctx_setCtx_other _ _ hk]
  · rw [coreAt_setCore_other s _ hm]

/-- The core block after a write of a context: only its contexts differ. -/
theorem coreAt_setCtx_same (n h : Nat) (x : Ctx) : coreAt (setCtx s n h x) n = (coreAt s n).setCtx h x := by
  simp [setCtx]

theorem coreAt_setCtx_other {n m : Nat} (h : Nat) (x : Ctx) (hm : m ≠ n) : coreAt (setCtx s n h x) m = coreAt s m := by
  simp [setCtx, coreAt_setCore_other s _ hm]

@[simp] theorem coreAt_rset (pg off : Nat) (v : Word) (n : Nat) : coreAt (rset s pg off v) n = coreAt s n := rfl
@[simp] theorem ctxAt_rset (pg off : Nat) (v : Word) (n h : Nat) : ctxAt (rset s pg off v) n h = ctxAt s n h := rfl
@[simp] theorem coreAt_mset (a : Nat) (w : MemWord) (n : Nat) : coreAt (mset s a w) n = coreAt s n := rfl
@[simp] theorem rget_setCore (n : Nat) (c : Core) (pg off : Nat) : rget (setCore s n c) pg off = rget s pg off := rfl
@[simp] theorem rget_setCtx (n h : Nat) (x : Ctx) (pg off : Nat) : rget (setCtx s n h x) pg off = rget s pg off := rfl
@[simp] theorem rget_mset (a : Nat) (w : MemWord) (pg off : Nat) : rget (mset s a w) pg off = rget s pg off := rfl
@[simp] theorem mget_rset (pg off : Nat) (v : Word) (a : Nat) : mget (rset s pg off v) a = mget s a := rfl
@[simp] theorem mget_setCore (n : Nat) (c : Core) (a : Nat) : mget (setCore s n c) a = mget s a := rfl
@[simp] theorem mget_setCtx (n h : Nat) (x : Ctx) (a : Nat) : mget (setCtx s n h x) a = mget s a := rfl

/-- The register just written. -/
@[simp] theorem rget_rset_same (pg off : Nat) (v : Word) : rget (rset s pg off v) pg off = v := by simp [rget, rset]

/-- Another register of any page is as it was. -/
theorem rget_rset_other {pg off pg' off' : Nat} (v : Word) (h : pg' * 512 + off' ≠ pg * 512 + off) :
    rget (rset s pg off v) pg' off' = rget s pg' off' := by
  simp [rget, rset, kget_kset_other _ _ _ h]

/-- The word just written. -/
@[simp] theorem mget_mset_same (a : Nat) (w : MemWord) : mget (mset s a w) a = w := by simp [mget, mset]

/-- Another word is as it was. -/
theorem mget_mset_other {a b : Nat} (w : MemWord) (h : b ≠ a) : mget (mset s a w) b = mget s b := by
  simp [mget, mset, kget_kset_other _ _ _ h]

/-- A write of a word keeps the canonical form of memory. -/
theorem kwf_mset (a : Nat) (w : MemWord) (h : kwf memDefault s.mem = true) : kwf memDefault (mset s a w).mem = true :=
  kwf_kset _ _ _ _ h

/-- A write of a register keeps the canonical form of the registers. -/
theorem kwf_rset (pg off : Nat) (v : Word) (h : kwf regDefault s.regs = true) :
    kwf regDefault (rset s pg off v).regs = true := kwf_kset _ _ _ _ h

end Sys2Proof.Machine
end

