-- ==== Sys2Proof/Laws/Effects.lean ====
section
/-! SUPPORT. What a computation of an instruction can do to the State when it completes: a relation that holds between the
state before and the state after is proved once for each operation and composed by bind. -/

namespace Sys2Proof.Machine

/-- Every completion of m leaves a state that R relates to the state before. -/
def OkKeeps {α : Type} (R : State → State → Prop) (m : X α) : Prop := ∀ s a t, m s = .ok a t → R s t

/-- The two laws a relation needs for composition. -/
structure Pre (R : State → State → Prop) : Prop where
  refl : ∀ s, R s s
  trans : ∀ a b c, R a b → R b c → R a c

section
variable {R : State → State → Prop} {α β : Type}

theorem OkKeeps.pure (h : Pre R) (a : α) : OkKeeps R (Pure.pure a : X α) := by
  intro s b t e
  cases e
  exact h.refl s

theorem OkKeeps.throw (x : Stop) : OkKeeps R (throw x : X α) := by
  intro s b t e
  cases e

theorem OkKeeps.bind (h : Pre R) {m : X α} {f : α → X β} (hm : OkKeeps R m) (hf : ∀ a, OkKeeps R (f a)) :
    OkKeeps R (m >>= f) := by
  intro s b t e
  simp only [Bind.bind, EStateM.bind] at e
  split at e
  · rename_i a s1 h1
    exact h.trans _ _ _ (hm s a s1 h1) (hf a s1 b t e)
  · cases e

theorem OkKeeps.get (h : Pre R) : OkKeeps R (MonadState.get : X State) := by
  intro s b t e
  cases e
  exact h.refl s

theorem OkKeeps.upd {f : State → State} (hf : ∀ s, R s (f s)) : OkKeeps R (upd f) := by
  intro s b t e
  simp only [Sys2Proof.Machine.upd, modify, modifyGet, MonadStateOf.modifyGet, EStateM.modifyGet] at e
  cases e
  exact hf s

theorem OkKeeps.act {f : State → α × State} (hf : ∀ s, R s (f s).2) : OkKeeps R (act f) := by
  intro s b t e
  simp only [Sys2Proof.Machine.act, Bind.bind, EStateM.bind, MonadState.get, getThe, MonadStateOf.get, EStateM.get, set,
    MonadStateOf.set, EStateM.set, Pure.pure, EStateM.pure] at e
  cases e
  exact hf s

theorem OkKeeps.fault (vec cause faddr : Nat) (faux : Word) : OkKeeps R (fault vec cause faddr faux : X α) :=
  OkKeeps.throw _

theorem OkKeeps.bind_throw {m : X α} {f : α → X β} (hf : ∀ a, OkKeeps (fun _ _ => False) (f a)) :
    OkKeeps R (m >>= f) := by
  intro s b t e
  simp only [Bind.bind, EStateM.bind] at e
  split at e
  · rename_i a s1 h1
    exact (hf a s1 b t e).elim
  · cases e

theorem OkKeeps.ite {c : Prop} [Decidable c] {m k : X α} (hm : OkKeeps R m) (hk : OkKeeps R k) :
    OkKeeps R (if c then m else k) := by
  split <;> assumption

end

/-! ## A fetch -/

/-- What a completed fetch or translation of core n may change. -/
structure FetchFrame (n : Nat) (s t : State) : Prop where
  rest : t = { s.noted t with cores := t.cores, regs := t.regs, eccWb := t.eccWb }
  others : ∀ m, m ≠ n → coreAt t m = coreAt s m
  block : ∃ i d l hw q f a, coreAt t n =
    { coreAt s n with itlb := i, dtlb := d, l2tlb := l, held := hw, pq := q, fetchStop := f, fetchAt := a }
  regs : ∀ pg off, off < 512 → ¬ (pg = corePg n ∧ 65 ≤ off ∧ off ≤ 73) →
    empPage pg = false → rget t pg off = rget s pg off

theorem FetchFrame.refl (n : Nat) (s : State) : FetchFrame n s s :=
  ⟨rfl, fun _ _ => rfl, ⟨_, _, _, _, _, _, _, rfl⟩, fun _ _ _ _ _ => rfl⟩

theorem FetchFrame.trans (n : Nat) (a b c : State) (h : FetchFrame n a b) (k : FetchFrame n b c) : FetchFrame n a c := by
  refine ⟨?_, fun m hm => (k.others m hm).trans (h.others m hm), ?_,
    fun pg off h1 h2 h3 => (k.regs pg off h1 h2 h3).trans (h.regs pg off h1 h2 h3)⟩
  · rw [k.rest, h.rest]
    rfl
  · obtain ⟨i, d, l, hw, q, f, u, e1⟩ := h.block
    obtain ⟨i', d', l', hw', q', f', u', e2⟩ := k.block
    exact ⟨i', d', l', hw', q', f', u', by rw [e2, e1]⟩

theorem FetchFrame.pre (n : Nat) : Pre (FetchFrame n) := ⟨FetchFrame.refl n, FetchFrame.trans n⟩

/-- A completed fetch changes no context. -/
theorem FetchFrame.ctx {n : Nat} {s t : State} (h : FetchFrame n s t) (m k : Nat) : ctxAt t m k = ctxAt s m k := by
  unfold ctxAt
  by_cases hm : m = n
  · subst hm
    obtain ⟨i, d, l, hw, q, f, u, e⟩ := h.block
    rw [e]
    rfl
  · rw [h.others m hm]

theorem FetchFrame.of_setCore (n : Nat) (s : State) (i d : List TlbEntry) (l : KMap (List (Option TlbEntry)))
    (hw : Option HeldWalk) (q : List PqEntry) (f : Bool) (a : Option (Nat × Nat)) :
    FetchFrame n s
      (setCore s n { coreAt s n with itlb := i, dtlb := d, l2tlb := l, held := hw, pq := q, fetchStop := f, fetchAt := a }) :=
  ⟨rfl, fun _ hm => coreAt_setCore_other s _ hm, ⟨i, d, l, hw, q, f, a, coreAt_setCore_same s n _⟩, fun _ _ _ _ _ => rfl⟩

/-- The books of events and of granted accesses stand outside what a fetch is looked at for. -/
theorem FetchFrame.of_evPut (n : Nat) (s : State) (pg off : Nat) (w : Word) : FetchFrame n s (evPut s pg off w) :=
  ⟨rfl, fun _ _ => rfl, ⟨_, _, _, _, _, _, _, rfl⟩, fun _ _ _ _ _ => rfl⟩

theorem FetchFrame.of_rset (n : Nat) (s : State) (pg off : Nat) (v : Word) (ho : off < 512)
    (hp : (pg = corePg n ∧ 65 ≤ off ∧ off ≤ 73) ∨ empPage pg = true) : FetchFrame n s (rset s pg off v) := by
  refine ⟨rfl, fun _ _ => rfl, ⟨_, _, _, _, _, _, _, rfl⟩, ?_⟩
  intro p o h1 h2 h3
  apply rget_rset_other
  intro e
  have hpq : p = pg := by omega
  have hoq : o = off := by omega
  subst hpq hoq
  rcases hp with hp | hp
  · exact h2 hp
  · simp [hp] at h3

theorem FetchFrame.perf (n h : Nat) (s : State) (off k : Nat) (ho : 65 ≤ off ∧ off ≤ 73) :
    FetchFrame n s (perf s n h off k) := by
  unfold Sys2Proof.Machine.perf
  dsimp only
  split
  · exact FetchFrame.refl n s
  · exact FetchFrame.trans n _ _ _ (FetchFrame.of_rset n s _ _ _ (by omega) (.inl ⟨rfl, ho.1, ho.2⟩)) (FetchFrame.of_evPut n _ _ _ _)

/-- The accesses of the instruction port and of the data port of core n. -/
def Agent.isPort (g : Agent) (n : Nat) : Prop := g = .fetch n ∨ g = .data n

/-- A granted access of a port of core n changes the books of slots and of granted accesses, and PC_MEMSTALL of its own core. -/
theorem FetchFrame.bookSlots (n : Nat) (s : State) (b k : Nat) (g : Agent) (hg : g.isPort n) : FetchFrame n s (bookSlots s b g k) := by
  have e : g.coreOf = some n := by rcases hg with rfl | rfl <;> rfl
  unfold Sys2Proof.Machine.bookSlots
  simp only [e]
  exact FetchFrame.trans n _ _ _ (FetchFrame.perf n _ s 69 _ (by omega)) ⟨rfl, fun _ _ => rfl, ⟨_, _, _, _, _, _, _, rfl⟩, fun _ _ _ _ _ => rfl⟩

theorem FetchFrame.noteHeat (n : Nat) (s : State) (d a k : Nat) : FetchFrame n s (noteHeat s d a k) := by
  unfold Sys2Proof.Machine.noteHeat
  dsimp only
  split
  · exact ⟨rfl, fun _ _ => rfl, ⟨_, _, _, _, _, _, _, rfl⟩, fun _ _ _ _ _ => rfl⟩
  · exact FetchFrame.refl n s

theorem FetchFrame.noteAccess (n : Nat) (s : State) (g : Agent) (a k : Nat) (hg : g.isPort n) :
    FetchFrame n s (noteAccess s g a k) := by
  unfold Sys2Proof.Machine.noteAccess
  refine FetchFrame.trans n _ _ _ ?_ (FetchFrame.noteHeat n _ _ _ _)
  split
  · exact FetchFrame.bookSlots n s _ _ g hg
  · exact FetchFrame.refl n s

theorem empPgOf_emp (a pg : Nat) (h : empPgOf a = some pg) : empPage pg = true := by
  unfold empPgOf at h
  split at h
  · cases h
    apply decide_eq_true
    unfold pkgPg pageNo
    omega
  · cases h

theorem FetchFrame.irqPend_emp (n : Nat) (s : State) (pg b : Nat) (h : empPage pg = true) : FetchFrame n s (irqPend s pg b) :=
  FetchFrame.trans n _ _ _ (FetchFrame.of_evPut n _ _ _ _) (FetchFrame.of_rset n _ pg _ _ (by omega) (.inr h))

theorem FetchFrame.capture_emp (n : Nat) (s : State) (pg c i : Nat) (h : empPage pg = true) :
    FetchFrame n s (capture s pg c i) := by
  unfold Sys2Proof.Machine.capture rinc
  dsimp only
  have t := FetchFrame.trans n
  have step : ∀ (s : State) (off : Nat) (v : Word), off < 512 → FetchFrame n s (rset s pg off v) :=
    fun s off v ho => FetchFrame.of_rset n s pg off v ho (.inr h)
  have k1 : ∀ (c : Prop) [Decidable c] (a : State) (w : Word), FetchFrame n a (if c then a else evPut a pg 6 w) := by
    intro c _ a w
    split
    · exact FetchFrame.refl n a
    · exact FetchFrame.of_evPut n a _ _ _
  have k2 : FetchFrame n s (evPut s pg 7 (incSat (evNow s pg 7) 17 0)) := FetchFrame.of_evPut n s _ _ _
  split
  · exact t _ _ _ k2 (t _ _ _ (k1 _ _ _) (step _ _ _ (by omega)))
  · exact t _ _ _ k2 (t _ _ _ (k1 _ _ _) (t _ _ _ (step _ _ _ (by omega))
      (t _ _ _ (step _ _ _ (by omega)) (FetchFrame.irqPend_emp n _ pg _ h))))

theorem FetchFrame.eccCorrected (n : Nat) (s : State) (a : Nat) : FetchFrame n s (eccCorrected s a) := by
  unfold Sys2Proof.Machine.eccCorrected
  cases h : empPgOf a with
  | none => exact FetchFrame.refl n s
  | some pg =>
    exact FetchFrame.trans n _ _ _ (FetchFrame.of_rset n _ _ _ _ (by omega) (.inr (empPgOf_emp a pg h)))
      (FetchFrame.of_rset n _ _ _ _ (by omega) (.inr (empPgOf_emp a pg h)))

theorem FetchFrame.eccLost (n : Nat) (s : State) (a : Nat) : FetchFrame n s (eccLost s a) := by
  unfold Sys2Proof.Machine.eccLost
  cases h : empPgOf a with
  | none => exact FetchFrame.refl n s
  | some pg =>
    exact FetchFrame.trans n _ _ _ (FetchFrame.of_rset n _ _ _ _ (by omega) (.inr (empPgOf_emp a pg h)))
      (FetchFrame.capture_emp n _ pg _ _ (empPgOf_emp a pg h))

theorem FetchFrame.queueWriteback (n : Nat) (s : State) (a : Nat) : FetchFrame n s (queueWriteback s a) := by
  unfold Sys2Proof.Machine.queueWriteback
  split
  · exact FetchFrame.refl n s
  · exact ⟨rfl, fun _ _ => rfl, ⟨_, _, _, _, _, _, _, rfl⟩, fun _ _ _ _ _ => rfl⟩

/-- A read of a stored word changes only the write-back list and the counters of an external memory port. -/
theorem FetchFrame.memRead (n : Nat) (s : State) (a : Nat) : FetchFrame n s (memRead s a).2 := by
  unfold Sys2Proof.Machine.memRead
  dsimp only
  split
  · exact FetchFrame.refl n s
  · exact FetchFrame.trans n _ _ _ (FetchFrame.queueWriteback n s a) (FetchFrame.eccCorrected n _ a)
  · exact FetchFrame.eccLost n s a

theorem FetchFrame.readFor (n : Nat) (s : State) (g : Agent) (a : Nat) (hg : g.isPort n) : FetchFrame n s (readFor s g a).2 :=
  FetchFrame.trans n _ _ _ (FetchFrame.noteAccess n s g a 1 hg) (FetchFrame.memRead n _ a)

/-! ## The operations of an access -/

theorem OkKeeps.when {R : State → State → Prop} (h : Pre R) {c : Prop} [Decidable c] {m : X PUnit} (hm : OkKeeps R m) :
    OkKeeps R (if c then m else Pure.pure PUnit.unit) := OkKeeps.ite hm (OkKeeps.pure h _)

theorem tableLoad_keeps (n va lvl a : Nat) : OkKeeps (FetchFrame n) (tableLoad n va lvl a) := by
  unfold tableLoad
  have P := FetchFrame.pre n
  dsimp only
  repeat' first
    | exact OkKeeps.fault _ _ _ _
    | exact OkKeeps.pure P _
    | exact OkKeeps.get P
    | exact OkKeeps.act fun s => FetchFrame.readFor n s _ a (.inr rfl)
    | exact OkKeeps.bind_throw fun _ => OkKeeps.fault _ _ _ _
    | refine OkKeeps.bind P ?_ fun _ => ?_
    | split

theorem walkL2_keeps (n va e2a : Nat) (hold : X Xlat) (hh : OkKeeps (FetchFrame n) hold) :
    OkKeeps (FetchFrame n) (walkL2 n va e2a hold) := by
  unfold walkL2
  have P := FetchFrame.pre n
  dsimp only
  repeat' first
    | exact hh
    | exact tableLoad_keeps _ _ _ _
    | exact OkKeeps.fault _ _ _ _
    | exact OkKeeps.pure P _
    | refine OkKeeps.bind P ?_ fun _ => ?_
    | split

theorem holdWalk_keeps (n va since e2a : Nat) : OkKeeps (FetchFrame n) (holdWalk n va since e2a) := by
  unfold holdWalk
  refine OkKeeps.bind (FetchFrame.pre n) (OkKeeps.get (FetchFrame.pre n)) fun s => ?_
  split
  · exact OkKeeps.bind_throw fun _ => OkKeeps.fault _ _ _ _
  · exact OkKeeps.bind_throw fun _ => OkKeeps.throw _

theorem walk_keeps (n ttb va : Nat) (hold : Nat → X Xlat) (hh : ∀ a, OkKeeps (FetchFrame n) (hold a)) :
    OkKeeps (FetchFrame n) (walk n ttb va hold) := by
  unfold walk
  have P := FetchFrame.pre n
  dsimp only
  repeat' first
    | exact walkL2_keeps _ _ _ _ (hh _)
    | exact tableLoad_keeps _ _ _ _
    | exact OkKeeps.fault _ _ _ _
    | exact OkKeeps.pure P _
    | refine OkKeeps.bind P ?_ fun _ => ?_
    | split

theorem coreWalk_keeps (n va : Nat) : OkKeeps (FetchFrame n) (coreWalk n va) := by
  unfold coreWalk
  have P := FetchFrame.pre n
  dsimp only
  refine OkKeeps.bind P (OkKeeps.get P) fun s => ?_
  repeat' first
    | exact walkL2_keeps _ _ _ _ (holdWalk_keeps _ _ _ _)
    | exact walk_keeps _ _ _ _ fun _ => holdWalk_keeps _ _ _ _
    | exact holdWalk_keeps _ _ _ _
    | exact OkKeeps.throw _
    | split

theorem FetchFrame.fillL1 (n : Nat) (s : State) (k : Kind) (e : TlbEntry) :
    FetchFrame n s (setCore s n ((coreAt s n).fillL1 k e)) := by
  cases k <;> exact FetchFrame.of_setCore n s _ _ _ _ _ _ _

theorem FetchFrame.fillWalk (n : Nat) (s : State) (k : Kind) (e : TlbEntry) :
    FetchFrame n s (setCore s n { (coreAt s n).fillWalk k e with held := none }) := by
  cases k <;> exact FetchFrame.of_setCore n s _ _ _ _ _ _ _

theorem lookup_keeps (n va : Nat) (k : Kind) : OkKeeps (FetchFrame n) (lookup n va k) := by
  unfold lookup
  have P := FetchFrame.pre n
  dsimp only
  repeat' first
    | exact OkKeeps.get P
    | exact coreWalk_keeps _ _
    | exact OkKeeps.pure P _
    | exact OkKeeps.upd fun s => FetchFrame.fillL1 n s k _
    | exact OkKeeps.upd fun s => FetchFrame.fillWalk n s k _
    | refine OkKeeps.bind P ?_ fun _ => ?_
    | split

/-- A translation that completes changes at most what a fetch does. -/
theorem translate_keeps (n va : Nat) (k : Kind) : OkKeeps (FetchFrame n) (translate n va k) := by
  unfold translate
  have P := FetchFrame.pre n
  dsimp only
  repeat' first
    | exact OkKeeps.get P
    | exact lookup_keeps _ _ _
    | exact OkKeeps.fault _ _ _ _
    | exact OkKeeps.pure P _
    | refine OkKeeps.bind P ?_ fun _ => ?_
    | split

theorem masterGate_keeps (n h : Nat) (st : Stamp) (pa : Nat) (k : Kind) : OkKeeps (FetchFrame n) (masterGate n h st pa k) := by
  unfold masterGate
  have P := FetchFrame.pre n
  repeat' first
    | exact OkKeeps.get P
    | exact OkKeeps.pure P _
    | exact OkKeeps.bind_throw fun _ => OkKeeps.fault _ _ _ _
    | refine OkKeeps.bind P ?_ fun _ => ?_
    | split

theorem targetGate_keeps (m : Nat) (st : Stamp) (pa : Nat) (k : Kind) : OkKeeps (FetchFrame m) (targetGate st pa k) := by
  unfold targetGate
  have P := FetchFrame.pre m
  repeat' first
    | exact OkKeeps.get P
    | exact OkKeeps.pure P _
    | exact OkKeeps.bind_throw fun _ => OkKeeps.fault _ _ _ _
    | refine OkKeeps.bind P ?_ fun _ => ?_
    | split

theorem resolve_keeps (n h va priv : Nat) (k : Kind) : OkKeeps (FetchFrame n) (resolve n h va priv k) := by
  unfold resolve
  have P := FetchFrame.pre n
  dsimp only
  repeat' first
    | exact OkKeeps.get P
    | exact translate_keeps _ _ _
    | exact masterGate_keeps _ _ _ _ _
    | exact OkKeeps.pure P _
    | refine OkKeeps.bind P ?_ fun _ => ?_

theorem fetchFault_keeps {α : Type} (n va pa : Nat) (r : Reach) (R : State → State → Prop) :
    OkKeeps R (fetchFault n va pa r : X α) := by
  unfold fetchFault
  refine OkKeeps.bind_throw fun _ => ?_
  dsimp only
  split <;> exact OkKeeps.bind_throw fun _ => OkKeeps.fault _ _ _ _

theorem fetchUnit_keeps (n va pa : Nat) (st : Stamp) : OkKeeps (FetchFrame n) (fetchUnit n va pa st) := by
  unfold fetchUnit
  have P := FetchFrame.pre n
  dsimp only
  repeat' first
    | exact OkKeeps.get P
    | exact targetGate_keeps _ _ _ _
    | exact OkKeeps.act fun s => FetchFrame.readFor n s _ pa (.inl rfl)
    | exact fetchFault_keeps _ _ _ _ _
    | exact OkKeeps.fault _ _ _ _
    | exact OkKeeps.pure P _
    | refine OkKeeps.bind P ?_ fun _ => ?_
    | split

theorem FetchFrame.discardPq (n h : Nat) (s : State) : FetchFrame n s (discardPq s n h) := by
  unfold Sys2Proof.Machine.discardPq
  exact FetchFrame.trans n _ _ _ (FetchFrame.of_setCore n s _ _ _ _ _ _ _) (FetchFrame.perf n h _ _ _ (by omega))

theorem awaitFetch_keeps (n pa : Nat) (st : Stamp) : OkKeeps (FetchFrame n) (awaitFetch n pa st) := by
  unfold awaitFetch
  have P := FetchFrame.pre n
  dsimp only
  repeat' first
    | exact OkKeeps.get P
    | exact OkKeeps.pure P _
    | exact OkKeeps.upd fun s => FetchFrame.of_setCore n s _ _ _ _ _ _ _
    | exact OkKeeps.bind_throw fun _ => OkKeeps.throw _
    | refine OkKeeps.bind P ?_ fun _ => ?_
    | split

theorem demandFetch_keeps (n h va priv : Nat) : OkKeeps (FetchFrame n) (demandFetch n h va priv) := by
  unfold demandFetch
  have P := FetchFrame.pre n
  repeat' first
    | exact resolve_keeps _ _ _ _ _
    | exact awaitFetch_keeps _ _ _
    | exact fetchUnit_keeps _ _ _ _
    | exact OkKeeps.pure P _
    | refine OkKeeps.bind P ?_ fun _ => ?_
    | split

/-- The fetch of the issuing word, once for all: it changes the queue, the TLBs, the wait of a walk, counters, the books, and no
context, no word of memory and no other unit. -/
theorem fetchIssue_keeps (n h : Nat) : OkKeeps (FetchFrame n) (fetchIssue n h) := by
  unfold fetchIssue
  have P := FetchFrame.pre n
  have d : ∀ va priv, OkKeeps (FetchFrame n) (demandFetch n h va priv) := fun _ _ => demandFetch_keeps _ _ _ _
  have q : ∀ (r : State → List PqEntry),
      OkKeeps (FetchFrame n) (upd fun s => setCore s n { coreAt s n with pq := r s, fetchStop := false }) :=
    fun r => OkKeeps.upd fun s => FetchFrame.of_setCore n s _ _ _ _ _ _ _
  refine OkKeeps.bind P (OkKeeps.get P) fun s => ?_
  dsimp only
  split
  · exact OkKeeps.fault _ _ _ _
  · split
    · split
      · refine OkKeeps.bind P (q fun _ => _) fun _ => ?_
        split
        · exact d _ _
        · exact OkKeeps.pure P _
      · exact OkKeeps.bind P (OkKeeps.upd fun s => FetchFrame.discardPq n h s) fun _ => d _ _
    · exact OkKeeps.bind P (q fun s => (coreAt s n).pq) fun _ => d _ _

end Sys2Proof.Machine
end

