-- ==== Sys2Proof/Laws/Fields.lean ====
section
/-! SUPPORT. The laws of bit fields: the bits of a mask, of a placed value and of a word with a field replaced, and what a field
reads after a write of it or of another. -/

namespace Sys2Proof.Machine

/-- The bits of a mask. -/
theorem getLsbD_fmask (hi lo i : Nat) : (fmask hi lo).getLsbD i = (decide (i < 36) && (decide (lo ≤ i) && decide (i ≤ hi))) := by
  unfold fmask
  rw [BitVec.getLsbD_ofNat, Nat.testBit_mul_two_pow, Nat.testBit_two_pow_sub_one]
  congr 1
  rw [Bool.eq_iff_iff]
  simp only [Bool.and_eq_true, decide_eq_true_eq]
  omega

/-- The bits of a placed value. -/
theorem getLsbD_fval (hi lo v i : Nat) :
    (fval hi lo v).getLsbD i = (decide (i < 36) && (decide (lo ≤ i) && (decide (i ≤ hi) && v.testBit (i - lo)))) := by
  unfold fval
  rw [BitVec.getLsbD_ofNat, Nat.testBit_mul_two_pow, Nat.testBit_mod_two_pow]
  congr 1
  rw [Bool.eq_iff_iff]
  simp only [Bool.and_eq_true, decide_eq_true_eq]
  constructor
  · rintro ⟨a, b, c⟩
    exact ⟨a, by omega, c⟩
  · rintro ⟨a, b, c⟩
    exact ⟨a, by omega, c⟩

/-- The bits of a word with a field replaced. -/
theorem getLsbD_setFld (w : Word) (hi lo v i : Nat) :
    (setFld w hi lo v).getLsbD i =
      if lo ≤ i ∧ i ≤ hi then decide (i < 36) && v.testBit (i - lo) else w.getLsbD i := by
  unfold setFld
  rw [BitVec.getLsbD_or, BitVec.getLsbD_and, BitVec.getLsbD_not, getLsbD_fmask, getLsbD_fval]
  by_cases h36 : i < 36
  · by_cases hin : lo ≤ i ∧ i ≤ hi
    · simp [h36, hin.1, hin.2]
    · rw [if_neg hin]
      have : (decide (lo ≤ i) && decide (i ≤ hi)) = false := by
        simp only [Bool.and_eq_false_iff, decide_eq_false_iff_not]
        omega
      rw [← Bool.and_assoc (decide (lo ≤ i)), this]
      simp [h36]
  · have : w.getLsbD i = false := BitVec.getLsbD_of_ge w i (by omega)
    simp [h36, this]

/-- The bits of a field read as a number. -/
theorem testBit_fld (w : Word) (hi lo i : Nat) :
    (fld w hi lo).testBit i = (decide (i < hi + 1 - lo) && w.getLsbD (lo + i)) := by
  unfold fld
  rw [Nat.testBit_mod_two_pow, Nat.testBit_shiftRight]
  rfl

theorem fld_lt (w : Word) (hi lo : Nat) : fld w hi lo < 2 ^ (hi + 1 - lo) := Nat.mod_lt _ (by positivity)

/-- A field reads what was written to it. -/
theorem fld_setFld_same (w : Word) (hi lo v : Nat) (h : hi < 36) : fld (setFld w hi lo v) hi lo = v % 2 ^ (hi + 1 - lo) := by
  apply Nat.eq_of_testBit_eq
  intro i
  rw [testBit_fld, getLsbD_setFld, Nat.testBit_mod_two_pow]
  by_cases hi' : i < hi + 1 - lo
  · have h1 : lo ≤ lo + i ∧ lo + i ≤ hi := by omega
    have h2 : lo + i < 36 := by omega
    simp [hi', h1, h2]
  · simp [hi']

/-- A field reads as before after a write of a field that shares no bit with it. -/
theorem fld_setFld_other (w : Word) (hi lo v hi' lo' : Nat) (h : hi < lo' ∨ hi' < lo) :
    fld (setFld w hi' lo' v) hi lo = fld w hi lo := by
  apply Nat.eq_of_testBit_eq
  intro i
  rw [testBit_fld, testBit_fld, getLsbD_setFld]
  by_cases hi2 : i < hi + 1 - lo
  · have : ¬ (lo' ≤ lo + i ∧ lo + i ≤ hi') := by omega
    rw [if_neg this]
  · simp [hi2]

/-- A bit outside the field is as before. -/
theorem bit_setFld_other (w : Word) (hi lo v b : Nat) (h : b < lo ∨ hi < b) : bit (setFld w hi lo v) b = bit w b := by
  unfold bit
  rw [getLsbD_setFld, if_neg (by omega)]

/-- The bit written. -/
theorem bit_setBit_same (w : Word) (b : Nat) (v : Bool) (h : b < 36) : bit (setBit w b v) b = v := by
  unfold bit setBit
  rw [getLsbD_setFld, if_pos ⟨Nat.le_refl b, Nat.le_refl b⟩]
  cases v <;> simp [h]

/-- Another bit is as before. -/
theorem bit_setBit_other (w : Word) (b c : Nat) (v : Bool) (h : c ≠ b) : bit (setBit w b v) c = bit w c :=
  bit_setFld_other w b b _ c (by omega)

/-- Writing a field the value it holds changes nothing. -/
theorem setFld_self (w : Word) (hi lo v : Nat) (h : fld w hi lo = v) : setFld w hi lo v = w := by
  apply BitVec.eq_of_getLsbD_eq
  intro i hi36
  rw [getLsbD_setFld]
  split
  · rename_i hin
    have := congrArg (fun n => n.testBit (i - lo)) h
    simp only [testBit_fld] at this
    have e : lo + (i - lo) = i := by omega
    have l : i - lo < hi + 1 - lo := by omega
    rw [e] at this
    simp only [l, decide_true, Bool.true_and] at this
    rw [← this]
    simp [hi36]
  · rfl

end Sys2Proof.Machine
end

