-- ==== Sys2Proof/Laws/Issue.lean ====
section
/-! SUPPORT. The issue of one instruction by a core that is ready: the fetch, the body, and what follows it. -/

namespace Sys2Proof.Machine

theorem perf_keeps (n h : Nat) (s : State) (off k : Nat) (ho : 65 ≤ off ∧ off ≤ 73) : FetchFrame n s (perf s n h off k) :=
  FetchFrame.perf n h s off k ho

theorem FetchFrame.ite {n : Nat} {s a b : State} {c : Prop} [Decidable c] (ha : FetchFrame n s a) (hb : FetchFrame n s b) :
    FetchFrame n s (if c then a else b) := by split <;> assumption

/-- t is s but for its cores, registers, list of write-backs, and the books of events and granted accesses. -/
def SameRest (s t : State) : Prop := t = { s.noted t with cores := t.cores, regs := t.regs, eccWb := t.eccWb }

theorem SameRest.trans {a b c : State} (h : SameRest a b) (k : SameRest b c) : SameRest a c := by
  unfold SameRest at *
  rw [k, h]
  rfl

theorem SameRest.setCtx (s : State) (n h : Nat) (x : Ctx) : SameRest s (setCtx s n h x) := rfl

theorem SameRest.irqPend (s : State) (pg b : Nat) : SameRest s (irqPend s pg b) := rfl

/-- The context that follows an instruction of registers alone. -/
def Ctx.after (y : Ctx) (l : Option (Bool × Nat)) : Ctx :=
  { y with pcc := y.pcc.move (y.pcc.cursor + 1), fresh := false, stepping := false, lastLoad := l, barrier := none }

/-- Context h of core n becomes x, and the core holds no word that it waited for, no stall and no multi-word instruction. -/
def landed (s : State) (n h : Nat) (x : Ctx) : State :=
  setCore (setCtx s n h x) n { coreAt (setCtx s n h x) n with arrived := none, stall := none, midway := none }

theorem coreAt_landed (s : State) (n h : Nat) (x : Ctx) :
    coreAt (landed s n h x) n = { (coreAt s n).setCtx h x with arrived := none, stall := none, midway := none } := by
  unfold landed
  rw [coreAt_setCore_same, coreAt_setCtx_same]

theorem coreAt_landed_other (s : State) {n m : Nat} (h : Nat) (x : Ctx) (hm : m ≠ n) : coreAt (landed s n h x) m = coreAt s m := by
  simp only [landed]
  rw [coreAt_setCore_other _ _ hm, coreAt_setCtx_other _ _ _ hm]

theorem ctxAt_landed (s : State) (n h : Nat) (x : Ctx) (m k : Nat) : ctxAt (landed s n h x) m k = ctxAt (setCtx s n h x) m k := by
  unfold ctxAt
  by_cases hm : m = n
  · subst hm
    rw [coreAt_landed, coreAt_setCtx_same]
    rfl
  · rw [coreAt_landed_other _ _ _ hm, coreAt_setCtx_other _ _ _ hm]

/-- What an issue does after a body that ran to the next word, with no load of Proof on its way and no resume record: the
context goes to the next word, and nothing else changes but counters and the signal of a debug step. -/
theorem afterIssue_seq (s : State) (n h : Nat) (i : Insn) (iss : Iss) (old : Ctx) (ran : Bool)
    (hp : old.proofLoad = none) (hk : (ctxAt s n h).rsmKind = 0) :
    ∃ s1, FetchFrame n (landed s n h ((ctxAt s n h).after (loadDst old i.raw))) s1 ∧
      afterIssue s n h i iss old ran .seq = if old.stepping then irqPend s1 (pkgPg 3) 1 else s1 := by
  have e : Ctx.advance { ctxAt s n h with
        fresh := Next.seq == Next.chain, stepping := false, lastLoad := loadDst old i.raw, barrier := none } =
      (ctxAt s n h).after (loadDst old i.raw) := by
    unfold Ctx.advance Ctx.after
    rw [show setFld (ctxAt s n h).rsm0 35 33 0 = (ctxAt s n h).rsm0 from setFld_self _ _ _ _ hk]
    rfl
  unfold afterIssue
  simp only [hp, e]
  refine ⟨_, ?_, rfl⟩
  have t := FetchFrame.trans n
  have p1 := fun s => perf_keeps n h s 65 1 (by omega)
  have p2 := fun s => perf_keeps n h s 66 1 (by omega)
  have p3 := fun s => perf_keeps n h s 67 i.brCost (by omega)
  have p4 := fun s => perf_keeps n h s 68 1 (by omega)
  have k2 : ∀ s, FetchFrame n s (if ran = true then perf s n h 65 1 else perf (perf s n h 65 1) n h 66 1) :=
    fun s => FetchFrame.ite (p1 s) (t _ _ _ (p1 s) (p2 _))
  have k3 : ∀ s, FetchFrame n s (if iss.q = 0 ∧ iss.neg = false then s else perf s n h 67 i.brCost) :=
    fun s => FetchFrame.ite (FetchFrame.refl n s) (p3 s)
  unfold loadUse
  split
  · exact t _ _ _ (t _ _ _ (k2 _) (k3 _)) (FetchFrame.ite (p4 _) (FetchFrame.refl n _))
  · exact t _ _ _ (k2 _) (k3 _)

theorem coreIssues_live (s : State) (n h : Nat) (hi : issuer s n = some h) :
    coreLive s n = true ∧ h = (coreAt s n).cur ∧ (coreAt s n).mstage = none := by
  unfold issuer at hi
  split at hi
  · rename_i hc
    unfold coreIssues at hc
    simp only [Bool.and_eq_true, Option.isNone_iff_eq_none] at hc
    exact ⟨hc.1.1.1, by simpa using hi.symm, hc.1.1.2⟩
  · cases hi

/-- With no access in stage M there is no context to keep behind a store (R244). -/
theorem keepUndo_none (s : State) (n : Nat) (old : Ctx) (h : (coreAt s n).mstage = none) : keepUndo s n old = s := by
  unfold keepUndo
  simp only [h]

theorem foldl_better_mem (r : List (Nat × Nat × Nat)) (a : Nat × Nat × Nat) : r.foldl better a ∈ a :: r := by
  induction r generalizing a with
  | nil => simp
  | cons b r ih =>
    have h := ih (better a b)
    rw [List.foldl_cons]
    have hb : better a b = a ∨ better a b = b := by
      unfold better
      split <;> simp
    rcases hb with e | e <;> rw [e] at h ⊢ <;> simp only [List.mem_cons] at h ⊢ <;> tauto

/-- The context that R261 selects may be selected. -/
theorem selected_selectable (s : State) (n h : Nat) (hs : selected s n = some h) : (ctxAt s n h).selectable = true := by
  unfold selected selectWith bestOf at hs
  split at hs
  · simp at hs
  · rename_i l a r e
    simp only [Option.map_some, Option.some.injEq] at hs
    have m := foldl_better_mem r a
    rw [← e] at m
    simp only [List.mem_filterMap, Option.ite_none_right_eq_some] at m
    obtain ⟨k, _, hk, e2⟩ := m
    have : k = h := by
      rw [← hs, ← Option.some.inj e2]
    rw [← this]
    exact hk

/-- A core that issues stands at a boundary of its issuing context, no late store error is due, and no change of context. -/
theorem issuer_boundary (s : State) (n h : Nat) (hi : issuer s n = some h)
    (hb : (ctxAt s n h).lates = [] ∨ (ctxAt s n h).fresh = true) :
    atBoundary s n = some h ∧ (lateDue s n || decide (selected s n ≠ some h)) = false := by
  unfold issuer at hi
  split at hi
  · rename_i hc
    have e : (coreAt s n).cur = h := Option.some.inj hi
    rw [e] at hc
    have hsel := selected_selectable s n h hc.2
    refine ⟨?_, ?_⟩
    · unfold atBoundary
      rw [e, if_pos ⟨by simp [hc.1], hsel⟩]
    · unfold lateDue
      rw [e, hc.2]
      rcases hb with hb | hb <;> simp [hb]
  · cases hi

/-- A core that issues is not gone after a step that left the safety run state, isolation and domains alone. -/
theorem coreGone_false (s : State) (n : Nat) (hl : coreLive s n = true) : coreGone s n = false := by
  unfold coreLive at hl
  unfold coreGone
  simp only [Bool.and_eq_true, bne_iff_ne, ne_eq, Bool.not_eq_true'] at hl
  obtain ⟨⟨⟨⟨⟨a, b⟩, c⟩, d⟩, e⟩, f⟩ := hl
  unfold coreRuns coreCounts at e
  simp only [Bool.and_eq_true, Bool.not_eq_true'] at e
  simp [c, d, f, e.1.1]

theorem coreGone_congr (s t : State) (n : Nat) (h1 : t.safety = s.safety) (h2 : t.isol = s.isol) (h3 : t.dieRst = s.dieRst)
    (h4 : t.doms = s.doms) : coreGone t n = coreGone s n := by
  unfold coreGone isolatedRegion dom
  rw [h1, h2, h3, h4]

/-- An instruction that a ready core fetches, decodes and executes to the next word. -/
theorem issue_runs (s : State) (iss : Iss) (h : Nat) (i : Insn) (y : Ctx) (hr : Ready s iss h)
    (hdec : ∀ s1, FetchFrame iss.core.toNat (setCtx s iss.core.toNat h (ctxAt s iss.core.toNat h)) s1 →
      i.dec s1 iss.core.toNat h = none)
    (hbody : ∀ s1, FetchFrame iss.core.toNat (setCtx s iss.core.toNat h (ctxAt s iss.core.toNat h)) s1 →
      i.body iss.core.toNat h s1 = .ok .seq (setCtx s1 iss.core.toNat h y))
    (hy : y.rsmKind = 0) : ∃ t, issue s iss i = .next t ∧ Ran s t iss.core.toNat h y := by
  obtain ⟨h1, h2, h3, ⟨s1, h4⟩, h5, h6⟩ := hr
  obtain ⟨n, hn⟩ : ∃ n, n = iss.core.toNat := ⟨_, rfl⟩
  rw [← hn] at h1 h2 h3 h4 h5 h6 hdec hbody ⊢
  have f1 := fetchIssue_keeps n h _ _ _ h4
  have c1 : ctxAt s1 n h = ctxAt s n h := by rw [f1.ctx, ctxAt_setCtx_same]
  have e0 : ({ ctxAt s n h with proofLoad := none } : Ctx) = ctxAt s n h := by
    rw [← h3]
  have edec : decodeFault i s1 n h = none := by
    unfold decodeFault
    rw [c1]
    simp only [h5, ne_eq, not_true_eq_false, false_and, if_false]
    exact hdec s1 f1
  have eexe : executes iss (ctxAt s1 n h) = true := by
    unfold executes
    rw [c1, h6]
    simp
  have ex : issueX n h iss i (setCtx s n h (ctxAt s n h)) = .ok (true, .seq) (setCtx s1 n h y) := by
    unfold issueX
    simp only [Bind.bind, EStateM.bind, h4, MonadState.get, getThe, MonadStateOf.get, EStateM.get, edec, eexe, if_true,
      counted, hbody s1 f1, Pure.pure, EStateM.pure]
  have hl := coreIssues_live s n h h1
  have hgone : coreGone (setCtx s1 n h y) n = false := by
    rw [coreGone_congr s _ n]
    · exact coreGone_false s n hl.1
    all_goals (rw [show setCtx s1 n h y = _ from rfl, f1.rest]; rfl)
  obtain ⟨hat, hb⟩ := issuer_boundary s n h h1 h2
  obtain ⟨s2, f2, e2⟩ := afterIssue_seq (setCtx s1 n h y) n h i iss (ctxAt s n h) true h3 (by rw [ctxAt_setCtx_same]; exact hy)
  refine ⟨if (ctxAt s n h).stepping then irqPend s2 (pkgPg 3) 1 else s2, ?_, ?_⟩
  · unfold issue issueState done
    rw [← e2, ← hn]
    dsimp only
    rw [hat]
    dsimp only
    rw [e0, ex, hb]
    have em : (coreAt (setCtx s1 n h y) n).mstage = none := by
      obtain ⟨_, _, _, _, _, _, _, b1⟩ := f1.block
      rw [coreAt_setCtx_same, b1, coreAt_setCtx_same]
      exact hl.2.2
    simp only [hgone, keepUndo_none _ _ _ em, hl.2.2, Option.isSome_none, Bool.and_false, Bool.false_and, Bool.false_eq_true, if_false]
  · have g : FetchFrame n (landed (setCtx s1 n h y) n h ((ctxAt (setCtx s1 n h y) n h).after (loadDst (ctxAt s n h) i.raw))) s2 := f2
    rw [ctxAt_setCtx_same] at g
    have step : ∀ u, FetchFrame n (landed (setCtx s1 n h y) n h (y.after (loadDst (ctxAt s n h) i.raw))) u →
        Ran s u n h y ∧ Ran s (irqPend u (pkgPg 3) 1) n h y := by
      intro u k
      have k1 : ctxAt u n h = y.after (loadDst (ctxAt s n h) i.raw) := by
        rw [k.ctx, ctxAt_landed, ctxAt_setCtx_same]
      have k2 : ∀ m q, ¬ (m = n ∧ q = h) → ctxAt u m q = ctxAt s m q := by
        intro m q hne
        rw [k.ctx, ctxAt_landed, ctxAt_setCtx_other _ _ hne, ctxAt_setCtx_other _ _ hne, f1.ctx, ctxAt_setCtx_other _ _ hne]
      have k3 : ∀ m, m ≠ n → coreAt u m = coreAt s m := by
        intro m hm
        rw [k.others m hm, coreAt_landed_other _ _ _ hm, coreAt_setCtx_other _ _ _ hm, f1.others m hm,
          coreAt_setCtx_other _ _ _ hm]
      have k4 : SameBlock s u n [] := by
        obtain ⟨i1, d1, l1, w1, q1, g1, u1, b1⟩ := f1.block
        obtain ⟨i2, d2, l2, w2, q2, g2, u2, b2⟩ := k.block
        rw [coreAt_landed, coreAt_setCtx_same, b1, coreAt_setCtx_same] at b2
        exact ⟨_, _, _, _, _, _, _, _, _, by rw [List.append_nil]; exact b2⟩
      have k5 : SameRest s u := (((SameRest.setCtx s n h _).trans f1.rest).trans (SameRest.setCtx s1 n h y)).trans
        ((show SameRest _ (landed _ n h _) from rfl).trans k.rest)
      have k6 : ∀ pg off, off < 512 → ¬ (pg = corePg n ∧ 65 ≤ off ∧ off ≤ 73) → empPage pg = false →
          rget u pg off = rget s pg off := by
        intro pg off a b c
        rw [k.regs pg off a b c]
        exact f1.regs pg off a b c
      refine ⟨⟨⟨_, k1⟩, k2, k3, k4, fun pg off a b c _ => k6 pg off a b c, k5⟩,
        ⟨⟨_, k1⟩, k2, k3, k4, ?_, ?_⟩⟩
      · intro pg off a b c d
        unfold irqPend
        dsimp only
        rw [rget_rset_other _ _ (by
          intro e
          exact d ⟨by omega, by omega⟩)]
        exact k6 pg off a b c
      · exact k5.trans (SameRest.irqPend u _ _)
    split
    · exact (step s2 g).2
    · exact (step s2 g).1

/-- An instruction that only changes registers of its context (Issue.lean), by a core that is ready. -/
theorem regInsn_runs (s : State) (iss : Iss) (h : Nat) (raw : Word) (f : Ctx → Ctx) (hr : Ready s iss h)
    (hf : (f (ctxAt s iss.core.toNat h)).rsmKind = 0) :
    ∃ t, issue s iss (regInsn raw f) = .next t ∧ Ran s t iss.core.toNat h (f (ctxAt s iss.core.toNat h)) := by
  refine issue_runs s iss h _ _ hr (fun _ _ => rfl) ?_ hf
  intro s1 f1
  have c1 : ctxAt s1 iss.core.toNat h = ctxAt s iss.core.toNat h := by rw [f1.ctx, ctxAt_setCtx_same]
  simp only [regInsn, modCtx, upd, modify, modifyGet, MonadStateOf.modifyGet, EStateM.modifyGet, Bind.bind, EStateM.bind,
    Pure.pure, EStateM.pure, c1]

/-- An instruction that changes registers of its context or faults, by a core that is ready, where it does not fault. -/
theorem tryInsn_runs (s : State) (iss : Iss) (h : Nat) (raw : Word) (f : Ctx → Except Trap Ctx) (y : Ctx) (hr : Ready s iss h)
    (hf : f (ctxAt s iss.core.toNat h) = .ok y) (hy : y.rsmKind = 0) :
    ∃ t, issue s iss (tryInsn raw f) = .next t ∧ Ran s t iss.core.toNat h y := by
  refine issue_runs s iss h _ _ hr (fun _ _ => rfl) ?_ hy
  intro s1 f1
  have c1 : ctxAt s1 iss.core.toNat h = ctxAt s iss.core.toNat h := by rw [f1.ctx, ctxAt_setCtx_same]
  simp only [tryInsn, upd, modify, modifyGet, MonadStateOf.modifyGet, EStateM.modifyGet, Bind.bind, EStateM.bind, Pure.pure,
    EStateM.pure, MonadState.get, getThe, MonadStateOf.get, EStateM.get, c1, hf]

end Sys2Proof.Machine
end

