-- ==== Sys2Proof/WellFormed.lean ====
section
/-! DEFINITION. Which commands the spec can send: the ranges of the operands whose Lean type is wider than the spec's
range. A command outside them names a channel, lane, port or gate that no part of the family has, or carries lists of a
length no frame has: the spec sends none, and what a meaning answers on one says nothing of the hardware. -/

namespace Sys2Proof

/-- A channel of the largest part: 24 in each of 32 regions (R2, R457). -/
def chanWf (c : BitVec 10) : Bool := decide (c.toNat < 768)

/-- A ball of the largest package (Table 15.3). -/
def ballWf (b : Ball) : Bool :=
  match b with
  | .gd m => chanWf m
  | .fb m => chanWf m
  | .service k => decide (k.toNat < 54)
  | .emp _ k => decide (k.toNat < 98)

/-- A voter lane: A, B or C (R484). -/
def laneWf (l : BitVec 2) : Bool := decide (l.toNat < 3)

/-- A direction of a link: a region crossbar has seven ports (01, "Region"). -/
def LinkDir.wf (l : LinkDir) : Bool :=
  match l with
  | .xbarTo _ p => decide (p.toNat < 7)
  | .xbarFrom _ p => decide (p.toNat < 7)
  | .bridge _ _ => true
  | .cwyOut _ => true
  | .cwyIn _ => true

/-- A power domain of the largest part: 44 in each die and 7 of the package (Tables 13.1 and 13.2). -/
def domWf (k : BitVec 10) : Bool :=
  if k.toNat < 512 then decide (k.toNat % 64 < 44) else decide (k.toNat < 519)

/-- The octets a CAN frame carries for its DLC (R564, ISO 11898-1): none in a remote frame, at most 8 in a classical one. -/
def CanFrame.octets (f : CanFrame) : Nat :=
  if f.rtr then 0
  else if f.dlc.toNat ≤ 8 then f.dlc.toNat
  else if f.fdf then (([12, 16, 20, 24, 32, 48, 64] : List Nat)[f.dlc.toNat - 9]?).getD 64
  else 8

/-- A CAN frame: as many octets as its DLC says, an 11-bit identifier unless extended, no remote FD frame. -/
def CanFrame.wf (f : CanFrame) : Bool :=
  decide (f.data.length = f.octets) && (f.xtd || decide (f.id.toNat < 2048)) && !(f.fdf && f.rtr)

/-- A direction whose units name a die, not a port of a crossbar. -/
def LinkDir.bridges (l : LinkDir) : Bool :=
  match l with
  | .bridge _ _ => true
  | _ => false

/-- A command of the spec. -/
def Instr.wf (i : Instr) : Bool :=
  match i with
  | .crossbarGrant _ output input _ => decide (output.toNat < 7) && decide (input.toNat < 7)
  | .unitTransmit link _ dest => link.wf && (decide (dest.toNat < 7) || link.bridges)
  | .unitReceive link _ _ _ => link.wf
  | .creditReturn link _ => link.wf
  | .nak link _ => link.wf
  | .laneLockLoss link => link.wf
  | .retrainExchange link => link.wf
  | .retrainAttemptEnd link => link.wf
  | .syncPacket _ _ refs => decide (refs.length = 8)
  | .targetGateWrite gate _ _ => decide (gate.toNat < 160)
  | .burstEnd chan => chanWf chan
  | .sampleFrame _ samples => decide (samples.length = 24)
  | .provingCycleEnd chan => chanWf chan
  | .feedbackTimeout ball => chanWf ball.chan
  | .axleSupervisionTimeout chan => chanWf chan
  | .chcfgWrite chan _ => chanWf chan
  | .chctlSafe chan => chanWf chan
  | .rel chan => chanWf chan
  | .chctlGdOn chan => chanWf chan
  | .chctlGdOff chan => chanWf chan
  | .m1Read chan => chanWf chan
  | .chanSrst _ j => decide (j.toNat < 3)
  | .parg _ _ lane _ => laneWf lane
  | .propose _ _ lane _ => laneWf lane
  | .safe _ _ lane _ => laneWf lane
  | .release _ _ lane _ => laneWf lane
  | .withdraw _ _ lane _ => laneWf lane
  | .presRead _ _ lane => laneWf lane
  | .propSlotExpiry _ lane _ => laneWf lane
  | .windowExpiry chan _ => chanWf chan
  | .commitRelease chan _ => chanWf chan
  | .choldExpiry chan _ => chanWf chan
  | .laneWrite _ lane _ => laneWf lane
  | .canFrameReceive _ arrival => arrival.frame.wf
  | .domRequest dom _ => domWf dom
  | .drainEnd dom => domWf dom
  | .transitionDone dom => domWf dom
  | .domRst dom => domWf dom
  | .domRstRelease dom => domWf dom
  | .extest inp out drive => inp.all ballWf && out.all ballWf && drive.all ballWf
  | .tapIrUpdate load => load.cells.inp.all ballWf && load.cells.out.all ballWf && load.cells.en.all ballWf
  | .phaseControlEdge chan => chanWf chan
  | .add .. | .sub .. | .addv .. | .subv .. | .and_ .. | .or_ .. | .xor_ .. | .andn .. | .nor .. | .shl .. | .shr ..
  | .sar .. | .rol .. | .min_ .. | .max_ .. | .minu .. | .maxu .. | .clz .. | .popc .. | .sxh .. | .sxn .. | .addi ..
  | .andi .. | .ori .. | .xori .. | .shi .. | .lhi .. | .llo .. | .ceq .. | .cne .. | .clt .. | .cle .. | .cltu ..
  | .cleu .. | .ceqi .. | .cnei .. | .clti .. | .cltui .. | .qand .. | .qor .. | .qxor .. | .qandn .. | .qnz ..
  | .qtow .. | .wtoq .. | .mul .. | .mulu .. | .mulResultWrite .. | .mfmh .. | .mfml .. | .mtm .. | .div .. | .divu ..
  | .divComplete .. | .mfdq .. | .mfdm .. | .mtd .. | .ldw .. | .ldh .. | .ldhs .. | .ldn .. | .ldns .. | .ldo ..
  | .ldpc .. | .loadDataReturn .. | .stw .. | .sth .. | .stn .. | .sto .. | .storeAck .. | .lateStoreError ..
  | .cld .. | .cst .. | .cstepi .. | .cmove .. | .stm .. | .ldm .. | .br .. | .call .. | .fcall .. | .gcall ..
  | .jr .. | .callr .. | .fcallr .. | .ret .. | .fret .. | .cjr .. | .cgettag .. | .cgetperm .. | .cgettype ..
  | .cgetaddr .. | .cgetbase .. | .cgettop .. | .cgetlen .. | .cmovr .. | .cclrtag .. | .cgetpcc .. | .cpoint ..
  | .cstep .. | .cmaskp .. | .cnarrow .. | .cnarrowx .. | .cseal .. | .cunseal .. | .csealh .. | .cinvoke ..
  | .csizeup .. | .cbasemask .. | .nop .. | .mfs .. | .mts .. | .cmfs .. | .cmts .. | .trap .. | .break_ .. | .wait ..
  | .fence .. | .gbar .. | .switch .. | .rfe .. | .gret .. | .rvprobe .. | .tlbi .. | .tlbia .. | .tlbsync ..
  | .interruptEntry .. | .contextSelect .. | .prefetch .. | .eccWriteback .. | .timedDeadlineSteal ..
  | .regfileParityError .. | .regionErrorReport .. | .heartbeatTimeout .. | .linkUp .. | .stackDeclare
  | .joinRequest .. | .memberRemoval .. | .leave | .syncTimeout | .roundTripMeasure .. | .remoteRequest ..
  | .featAcceptWrite .. | .en .. | .enabledFollows .. | .srst .. | .errFirstRelease .. | .errCountClr .. | .lk ..
  | .registerWrite .. | .start .. | .sweepPair .. | .sweepEnd .. | .ring .. | .ctxbindStart .. | .ctxbindStop ..
  | .flush .. | .pmctlClr .. | .ttbWrite .. | .invalidationArrival .. | .invalidationAck .. | .walkRelease ..
  | .holdLimitExpiry .. | .register .. | .sedgeRelease .. | .move .. | .pool .. | .reclaim .. | .tmove .. | .pin ..
  | .sedgeCommandDone .. | .compclsWrite .. | .sedgeSrst .. | .heatReport .. | .heatHalving ..
  | .heatMigrationStart .. | .migrationFrameGrant .. | .migrationCopyPair .. | .migrationMake ..
  | .migrationConfirm .. | .taskMigrationStart .. | .taskMigrationCommit .. | .heldmaxRead .. | .frames0Read ..
  | .rsload .. | .rsloadDone .. | .rsctlClear .. | .rsctlCommit .. | .rsdataWrite .. | .gatecfgWrite ..
  | .crossingDetected .. | .crossingTimeout .. | .holdmaxExpiry .. | .refcfgWrite .. | .syntheticLock .. | .phrefSrst
  | .ttLoRead | .rateWrite .. | .stepHi .. | .ttimeSrst | .ins0 .. | .insStage .. | .ins3 .. | .cancel ..
  | .stagingSlotExpiry .. | .pendingInsertDiscard .. | .pendingCancelExpiry .. | .eventDispatch .. | .gdon ..
  | .gdoff .. | .level .. | .burst .. | .toggle .. | .mark .. | .irq .. | .evfifoRead .. | .evcnt0Read ..
  | .selftest .. | .cbkEnable .. | .axevRead .. | .sluiceEnable .. | .sluiceSrst .. | .venkick .. | .venWindowEnd ..
  | .arm .. | .stop .. | .txkick .. | .rxkick .. | .ethFrameReceive .. | .ethFrameTransmit .. | .canFrameTransmit ..
  | .canBusoffRecovery .. | .flashEnable .. | .copy .. | .program .. | .erase .. | .flashCommandDone ..
  | .empEnable .. | .mr4Poll .. | .scrubBurst .. | .bootImageCheck .. | .handover .. | .attest .. | .idkey ..
  | .chal .. | .dbgresp .. | .dbgend .. | .lctrans .. | .revoke .. | .svnadv .. | .provision .. | .carrCommandDone
  | .tokenExpiry | .supplyFault | .supplyRestore | .porstNAssert .. | .porstNRelease .. | .sysrstNAssert ..
  | .sysrstNRelease | .swrst .. | .dierst .. | .go | .proof | .regrel .. | .frzNFall .. | .frzNRelease
  | .idcode | .frzsel .. | .frzread | .dbgacc .. | .halt .. | .step .. | .run ..
  | .dbgrdataAccess .. | .reservedEncoding .. | .blockDmaDescriptor .. | .ethLinkChange .. | .dieResetRelease .. => true

end Sys2Proof
end

