-- ==== Sys2Proof/Tests/Slice0.lean ====
section
/-! SUPPORT. Tests: for every statement with hypotheses a witness that meets them, one-step checks whose expected values come
from the spec, and an ill-formed term for every check of well-formedness. -/

namespace Sys2Proof.Tests

-- The theorems below are evaluated by the kernel: one after another, so that the compile stays small.
set_option Elab.async false

open Sys2Proof Sys2Proof.Machine

/-! ## Small states -/

/-- A capability for execution over all of memory (Table 3.7). -/
def codeCap (a : Nat) : Cap := { hi := 0xb26000100#36, lo := fval 35 30 0x16 ||| fval 29 0 a, tag := true }

/-- A capability for data over all of memory (Table 3.7). -/
def dataCap (a : Nat) : Cap := { hi := 0xde3000100#36, lo := fval 35 30 0x16 ||| fval 29 0 a, tag := true }

/-- A rule set that is Ready and grants every slot everything but debug access. -/
def openSet : RuleSet := { RuleSet.init with st := .ready, fill := 0x7fe7fe7fe#36 }

/-- A Ready context at word 256, at Executive privilege, with C1 at word 4096. -/
def runCtx : Ctx := { Ctx.init with st := .ready, pcc := codeCap 256, c := [(1, dataCap 4096)] }

/-- The package in Run, a Field part, with one Ready context on core 0. -/
def runState : State :=
  { State.reset with safety := .run, lcs := .field, cores := [(0, { Core.init with ctxs := [(0, runCtx)], setA := openSet })] }

/-- The running state with core 0 changed. -/
def withCore (f : Core → Core) : State := setCore runState 0 (f (coreAt runState 0))

/-- The running state with its context changed. -/
def withCtx (f : Ctx → Ctx) : State := setCtx runState 0 0 (f runCtx)

/-- The running state in Proof. -/
def proofState : State := { runState with safety := .proof }

/-- An unguarded instruction of core 0. -/
def i0 : Iss := { core := 0, q := 0, neg := false }

/-- A request of the test access port, and one of core 0 at Executive privilege for compartment 0. -/
def tapStamp : Stamp := { cls := 2, die := 0, core := 0, ctx := 0, comp := 0, priv := 0, set := false, epoch := 0 }
def coreStamp : Stamp := { cls := 0, die := 0, core := 0, ctx := 0, comp := 0, priv := 0, set := false, epoch := 0 }

/-- A word of memory. -/
def word (v : Word) : MemWord := { data := v, tag := false, ecc := .good }

/-! ## Decidable forms of the hypotheses -/

def isNext (o : Host.Outcome State Fault Refusal) : Bool := match o with | .next _ => true | _ => false

theorem next_of {o : Host.Outcome State Fault Refusal} (h : isNext o = true) : ∃ t, o = .next t := by
  cases o with
  | next t => exact ⟨t, rfl⟩
  | fault f => cases h
  | refused r => cases h

def okB {α : Type} (e : Except α Unit) : Bool := match e with | .ok () => true | .error _ => false

theorem ok_of {α : Type} {e : Except α Unit} (h : okB e = true) : e = .ok () := by
  cases e with
  | ok u => rfl
  | error a => cases h

def fetchedB (n h : Nat) (s : State) : Bool := match fetchIssue n h s with | .ok () _ => true | .error _ _ => false

theorem fetched_of {n h : Nat} {s : State} (hb : fetchedB n h s = true) : ∃ s1, fetchIssue n h s = .ok () s1 := by
  unfold fetchedB at hb
  split at hb
  · exact ⟨_, by assumption⟩
  · cases hb

theorem ready_of {s : State} {iss : Iss} {h : Nat}
    (h1 : issuer s iss.core.toNat = some h)
    (h2 : (ctxAt s iss.core.toNat h).lates = [] ∨ (ctxAt s iss.core.toNat h).fresh = true)
    (h3 : (ctxAt s iss.core.toNat h).proofLoad = none)
    (h4 : fetchedB iss.core.toNat h (setCtx s iss.core.toNat h (ctxAt s iss.core.toNat h)) = true)
    (h5 : (ctxAt s iss.core.toNat h).rsmKind = 0)
    (h6 : ((ctxAt s iss.core.toNat h).qr iss.q.toNat != iss.neg) = true) : Ready s iss h :=
  ⟨h1, h2, h3, fetched_of h4, h5, h6⟩

def grantedB (s : State) (n h priv pa : Nat) (k : Kind) : Bool :=
  (match slotOf s pa with
   | some sl => !masterChecks s pa ||
      (masterCheck ((coreAt s n).set (ctxAt s n h).setB) sl pa k (stampOf s n h priv).priv.toNat false).isNone
   | none => true) && targetOk s (stampOf s n h priv) pa k

theorem granted_of {s : State} {n h priv pa : Nat} {k : Kind} (hb : grantedB s n h priv pa k = true) :
    Granted s n h priv pa k := by
  simp only [grantedB, Bool.and_eq_true] at hb
  refine ⟨?_, hb.2⟩
  intro slot hs hm
  have h1 := hb.1
  rw [hs] at h1
  simp only [hm, Bool.not_true, Bool.false_or] at h1
  exact Option.isNone_iff_eq_none.mp h1

/-- With translation off an access reaches the word of its own address. -/
def plainB (s : State) (n h priv a : Nat) (k : Kind) : Bool :=
  !bit (rget s (corePg n) 176) 35 && grantedB s n h priv a k && (memReach s a == .ok)

theorem store_of {s : State} {n h priv a : Nat} {k : Kind} (hb : plainB s n h priv a k = true) :
    CanStore s n h priv a k a := by
  simp only [plainB, Bool.and_eq_true, Bool.not_eq_true', beq_iff_eq] at hb
  exact ⟨.inl ⟨hb.1.1, rfl⟩, granted_of hb.1.2, hb.2⟩

theorem load_of {s : State} {n h priv a : Nat} {k : Kind} (hb : plainB s n h priv a k = true)
    (he : (mget s a).ecc ≠ .double) : CanLoad s n h priv a k a :=
  ⟨(store_of hb).1, (store_of hb).2.1, (store_of hb).2.2, he⟩

theorem range_of {P : Nat → Prop} (lo n : Nat) (f : Nat → Bool) (hf : ∀ a, f a = true → P a)
    (hb : (List.range n).all (fun j => f (lo + j)) = true) : ∀ a, lo ≤ a → a < lo + n → P a := by
  intro a h1 h2
  have := List.all_eq_true.mp hb (a - lo) (List.mem_range.mpr (by omega))
  rw [show lo + (a - lo) = a by omega] at this
  exact hf a this

def entryB (s : State) (n h a : Nat) : Bool := plainB s n h 0 a .store && !marked s a

theorem entry_of {s : State} {n h a : Nat} (hb : entryB s n h a = true) : EntryWord s n h a := by
  simp only [entryB, Bool.and_eq_true, Bool.not_eq_true'] at hb
  exact ⟨store_of hb.1, hb.2⟩

/-! ## Witnesses: the queue, registers and instructions -/

theorem reset_canonical (s : State) (h1 : kwf memDefault s.mem = true) (h2 : kwf regDefault s.regs = true)
    (h3 : s.sedges = []) (h4 : s.reeds = []) : Canonical s := by
  refine ⟨h1, h2, fun d => ?_⟩
  simp [sedge, reed, h3, h4, kget, Sedge.init, Reed.init]

theorem witness_FrontCommandRuns :
    ({ runState with pending := [.nop i0, .leave] } : State).pending = .nop i0 :: [.leave] := rfl

theorem witness_IdleStepIsOneFabricCycle : runState.pending = [] ∧ clocked runState = true ∧
    (∀ i, i < 8 → refSrc runState i = 4 → (ref runState i).st = (ref runState (rfld runState phrefPg (16 + 4 * i) 19 17)).st) ∧
    clocked { runState with pins := { Pins.init with porHeld := true } } = false := by decide +kernel

theorem witness_EachStepTakesOneCommand : ∃ t, step { runState with pending := [.leave, .go] } = .next t :=
  next_of (by decide +kernel)

/-- A state with a word in memory and a register that is not at its reset value. -/
def listedState : State :=
  { runState with mem := [(3, word 5)], regs := [(pkgPg 0 * 512 + 40, 2)], pending := [.add i0 3 0 0] }

theorem witness_StepsKeepCanonicalForm : Canonical listedState ∧ ∃ t, step listedState = .next t :=
  ⟨reset_canonical _ (by decide +kernel) (by decide +kernel) rfl rfl, next_of (by decide +kernel)⟩

theorem witness_RegistersReadWhatWasWritten :
    (0 < 32 ∧ 31 < 32 ∧ 7 < 32 ∧ 8 < 32) ∧ (0 < 16 ∧ 15 < 16) ∧ (0 < 8 ∧ 7 < 8) ∧
    (8 ≤ 8 ∧ ({ runCtx with win := 1 } : Ctx).fb = false ∧ runCtx.fb = false ∧
      ({ runCtx with win := 1 } : Ctx).cwp ≠ runCtx.cwp ∧ ({ runCtx with win := 1 } : Ctx).w = runCtx.w) := by decide +kernel

theorem ready_run : Ready runState i0 0 := by apply ready_of <;> decide +kernel

theorem ready_proof : Ready proofState i0 0 := by apply ready_of <;> decide +kernel

/-- W1 the most positive word, W2 one, W3 the most negative word, W4 seven. -/
def numState : State := withCtx (fun x => { x with w := [(1, 0x7ffffffff#36), (2, 1), (3, 0x800000000#36), (4, 7)] })

theorem witness_IntegerInstructions : Ready numState i0 0 ∧
    ((ctxAt numState 0 0).wr 1).saddOverflow ((ctxAt numState 0 0).wr 0) = false ∧
    ((ctxAt numState 0 0).wr 1).saddOverflow ((ctxAt numState 0 0).wr 2) = true ∧
    ((ctxAt numState 0 0).wr 3).ssubOverflow ((ctxAt numState 0 0).wr 0) = false ∧
    ((ctxAt numState 0 0).wr 3).ssubOverflow ((ctxAt numState 0 0).wr 2) = true :=
  ⟨by apply ready_of <;> decide +kernel, by decide +kernel⟩

theorem witness_ImmediateCompareAndPredicateInstructions : Ready numState i0 0 ∧
    ∀ k : BitVec 2, k = 0 ∨ k = 1 ∨ k = 2 ∨ k = 3 :=
  ⟨by apply ready_of <;> decide +kernel, by decide⟩

/-- Two products in flight, one of them due, and a division that is. -/
def mulState : State :=
  withCtx (fun x => { x with muls := [{ mh := 1, ml := 2, due := 0 }, { mh := 3, ml := 4, due := 2 }], w := [(1, 7)] })
def divState : State := withCtx (fun x => { x with div := some { dq := 5, dm := 6, due := 0 } })

theorem witness_MultiplierAndDivider : Ready mulState i0 0 ∧ (ctxAt mulState 0 0).wr 1 ≠ 0 ∧ clocked mulState = true ∧
    ((ctxAt mulState 0 0).muls = { mh := 1, ml := 2, due := 0 } :: [{ mh := 3, ml := 4, due := 2 }] ∧ 0 ≤ (coreAt mulState 0).cyc ∧
      (∀ r ∈ ([{ mh := 3, ml := 4, due := 2 }] : List MulState), (coreAt mulState 0).cyc < r.due)) ∧
    (∀ m ∈ (ctxAt runState 0 0).muls, (coreAt runState 0).cyc < m.due) ∧ clocked divState = true ∧
    ((ctxAt divState 0 0).div = some { dq := 5, dm := 6, due := 0 } ∧ 0 ≤ (coreAt divState 0).cyc ∧ (ctxAt divState 0 0).rsmKind = 0) :=
  ⟨by apply ready_of <;> decide +kernel, by decide +kernel⟩

/-- C2 a narrow data capability, C3 a sealing one at type 5, C4 a code and C5 a data capability of type 5, C6 a sealing one at
type 55; W1 to W5 lengths. -/
def capState : State :=
  withCtx (fun x => { x with
    w := [(1, 511), (2, 512), (3, BitVec.ofNat 36 (511 * 2 ^ 22)), (4, BitVec.ofNat 36 (511 * 2 ^ 22 + 1)), (5, 2 ^ 30)]
    c := [(1, dataCap 4096), (2, mkCap 0xde3 0 8192 1024 8200), (3, mkCap 0x38 0 0 64 5), (4, mkCap 0x222 5 512 64 575),
      (5, mkCap 0x822 5 1024 64 1024), (6, mkCap 0x38 0 0 64 55), (7, dataCap 0)] })

theorem ready_cap : Ready capState i0 0 := by apply ready_of <;> decide +kernel

theorem witness_CapabilityInstructions :
    let x := ctxAt capState 0 0
    Ready capState i0 0 ∧ ((x.cr 0).tag = false ∨ (x.cr 0).otype = 0) ∧ ((x.cr 2).tag = false ∨ (x.cr 2).otype = 0) ∧
    ((x.cr 2).tag = true ∧ (x.cr 2).otype = 0 ∧ 8200 + 511 ≤ 2 ^ 30 ∧ (x.cr 2).bounds.1 ≤ (encodeBounds 8200 511).1 ∧
      (encodeBounds 8200 511).2 ≤ (x.cr 2).bounds.2 ∧ (encodeBounds 8200 511).1 = 8200 ∧ (encodeBounds 8200 511).2 = 8200 + 511) ∧
    ((x.cr 7).tag = true ∧ (x.cr 7).otype = 0 ∧ 0 + 2 ^ 30 ≤ 2 ^ 30 ∧ (x.cr 7).bounds.1 ≤ (encodeBounds 0 (2 ^ 30)).1 ∧
      (encodeBounds 0 (2 ^ 30)).2 ≤ (x.cr 7).bounds.2) :=
  ⟨ready_cap, by decide +kernel⟩

theorem witness_SealingAndInvocation :
    let x := ctxAt capState 0 0
    let seals := fun (ct : Cap) => ct.tag = true ∧ ct.otype = 0 ∧ ct.has .seal = true ∧ ct.bounds.1 ≤ ct.cursor ∧
      ct.cursor < ct.bounds.2 ∧ 1 ≤ ct.cursor ∧ ct.cursor ≤ 55
    let ceil := fun (k e : Nat) => ((x.wr k).toNat + 2 ^ e - 1) / 2 ^ e
    Ready capState i0 0 ∧ ((x.cr 2).tag = true ∧ (x.cr 2).otype = 0 ∧ seals (x.cr 3) ∧ seals (x.cr 6)) ∧
    ((x.cr 4).tag = true ∧ (x.cr 3).tag = true ∧ (x.cr 4).otype ≠ 0 ∧ (x.cr 4).otype ≤ 55 ∧ (x.cr 4).otype = (x.cr 3).cursor ∧
      (x.cr 3).otype = 0 ∧ (x.cr 3).has .unseal = true ∧ (x.cr 3).bounds.1 ≤ (x.cr 3).cursor ∧
      (x.cr 3).cursor < (x.cr 3).bounds.2) ∧
    (x.pcc.has .system = true ∧ x.priv = 0 ∧ (x.cr 2).tag = true ∧ (x.cr 2).otype = 0) ∧
    ((x.cr 4).tag = true ∧ (x.cr 5).tag = true ∧ (x.cr 4).otype = (x.cr 5).otype ∧ (x.cr 4).has .invoke = true ∧
      (x.cr 5).has .invoke = true ∧ (x.cr 4).has .execute = true ∧ (x.cr 5).has .execute = false ∧
      (x.cr 4).bounds.1 ≤ (x.cr 4).cursor ∧ (x.cr 4).cursor < (x.cr 4).bounds.2) ∧
    (ceil 1 0 ≤ 511) ∧ (ceil 2 1 ≤ 511 ∧ ∀ f, f < 1 → 511 < ceil 2 f) ∧ (ceil 3 22 ≤ 511 ∧ ∀ f, f < 22 → 511 < ceil 3 f) ∧
    511 < ceil 4 22 :=
  ⟨ready_cap, by decide +kernel⟩

theorem canLoad (a : Nat) (k : Kind) (hb : plainB runState 0 0 0 a k = true) (he : (mget runState a).ecc ≠ .double) :
    CanLoad runState 0 0 0 a k a := load_of hb he

/-- The running state with a load of Proof on its way, and one with a word in the store buffer. -/
def landState : State :=
  { withCtx (fun x => { x with proofLoad := some { isCap := false, reg := 5, val := dataCap 7 } }) with safety := .proof }
def sbWord : SbEntry :=
  { pa := 4096, va := 4096, data := 9, mask := ~~~0, tag := false, pair := false, kind := .store, stamp := coreStamp, tsb := 0, since := 0 }
def farState : State := withCtx (fun x => { x with c := [(1, dataCap 65536)] })
def sbState : State := withCore (fun c => { c with sb := [sbWord] })

theorem witness_Loads :
    Ready runState i0 0 ∧ Ready proofState i0 0 ∧
    (capCheck (dataCap 4096) (4096 + (0 : Int)) 1 [.load] = .ok () ∧ CanLoad runState 0 0 0 4096 .load 4096 ∧ 4096 / 65536 = 0) ∧
    (capCheck (codeCap 256) (256 + (32767 : Int)) 1 [.load] = .ok () ∧ CanLoad runState 0 0 0 33023 .load 33023) ∧
    ((0 : BitVec 9).getLsbD 8 = ((List.range 8).foldl (fun p i => p != (0 : BitVec 9).getLsbD i) false)) ∧
    (capCheck (dataCap 4096) (4096 + (-32768 + 28672 : Int)) 2 [.load] = .ok () ∧ CanLoad runState 0 0 0 0 .capLoad 0 ∧
      Granted runState 0 0 0 1 .capLoad ∧ (mget runState 1).ecc ≠ .double ∧ filtering runState = false) ∧
    (Ready farState i0 0 ∧ capCheck (dataCap 65536) (65536 + (0 : Int)) 1 [.load] = .ok () ∧ CanLoad farState 0 0 0 65536 .load 65536 ∧
      65536 / 65536 ≠ 0 ∧ (coreAt farState 0).sb = [] ∧ farState.safety ≠ .proof ∧
      (match exec (.ldw i0 5 1 0) farState with
        | .next t => (coreAt t 0).mstage.any (fun m => !loadHeldBack t 0 m)
        | _ => false) = true) ∧
    (Ready (setCtx landState 0 0 { ctxAt landState 0 0 with proofLoad := none }) i0 0 ∧
      (ctxAt landState 0 0).proofLoad = some { isCap := false, reg := 5, val := dataCap 7 }) := by
  refine ⟨ready_run, ready_proof, ⟨ok_of ?_, load_of ?_ ?_, ?_⟩, ⟨ok_of ?_, load_of ?_ ?_⟩, ?_, ⟨ok_of ?_, load_of ?_ ?_, granted_of ?_, ?_⟩,
    ⟨?_, ok_of ?_, load_of ?_ ?_, ?_⟩, ?_, ?_⟩ <;> first | decide +kernel | (apply ready_of <;> decide +kernel)

theorem witness_Stores :
    (coreAt runState 0).sb.length < 4 ∧ (coreAt runState 0).sb.length < 3 ∧
    (capCheck (dataCap 4096) (4096 + (0 : Int)) 1 [.store] = .ok () ∧ CanStore runState 0 0 0 4096 .store 4096) ∧
    (capCheck (dataCap 4096) (4096 + (0 : Int)) 2 [.store] = .ok () ∧ CanStore runState 0 0 0 4096 .capStore 4096 ∧
      (dataCap 4096).has .storeCap = true ∧ (dataCap 4096).has .storeLocal = true ∧ filtering runState = false) ∧
    (coreLive sbState 0 = true ∧ (coreAt sbState 0).sb = sbWord :: [] ∧ sbWord.pair = false ∧ memReach sbState 4096 = .ok ∧ storeHeldBack sbState 0 = false ∧
      targetOk sbState coreStamp 4096 .store = true ∧ sbWord.mask = ~~~0 ∧ marked sbState 4096 = false) := by
  refine ⟨?_, ?_, ⟨ok_of ?_, store_of ?_⟩, ⟨ok_of ?_, store_of ?_, ?_⟩, ?_⟩ <;> decide +kernel

/-! ## Witnesses: transfers, entries, multi-word instructions -/

/-- A context with a shadow stack of 16 words at 8192 holding one word, in window 1, W1 the address 256, and C2 to execute there. -/
def stackCtx : Ctx :=
  { runCtx with ssp := fval 35 30 4 ||| fval 29 0 8193, win := 9, c := [(1, dataCap 4096), (2, codeCap 512)]
                w := [(1, 256), (7, 300), (32, 300)] }
def stackState : State := { withCtx (fun _ => stackCtx) with mem := [(8192, word 300)] }

/-- The same with the stack at its last word but one. -/
def fullState : State := withCtx (fun _ => { stackCtx with ssp := fval 35 30 4 ||| fval 29 0 8206 })

theorem ready_stack : Ready stackState i0 0 := by apply ready_of <;> decide +kernel

theorem push_stack : CanPush stackState 0 0 8193 := by
  refine ⟨?_, ?_, ?_, store_of ?_, ?_⟩ <;> decide +kernel

theorem pop_stack : CanPop stackState 0 0 8192 := by
  refine ⟨?_, ?_, ?_, load_of ?_ ?_, ?_⟩ <;> decide +kernel

theorem witness_Transfers :
    let x := ctxAt stackState 0 0
    Ready stackState i0 0 ∧ ((x.cr 2).tag = true ∧ (x.cr 2).otype = 0 ∧ (x.cr 2).has .execute = true) ∧
    CanPush stackState 0 0 8193 ∧ CanPush fullState 0 0 8206 ∧ (x.fb = false ∧ x.cwp < 7) ∧
    CanPop stackState 0 0 8192 ∧ (0 < x.cwp ∧ x.wr 8 = (seenWord stackState 0 8192).1 ∧ x.wr 7 = (seenWord stackState 0 8192).1) := by
  refine ⟨ready_stack, ?_, push_stack, ⟨?_, ?_, ?_, store_of ?_, ?_⟩, ?_, pop_stack, ?_⟩ <;> decide +kernel

/-- Gate entry 3 of the context, for its own compartment; a marker on the shadow stack and its capability in the buffer. -/
def gateState : State :=
  { setCtx stackState 0 0 { stackCtx with ge := [(3, mkCap 0x222 56 512 64 512)], srb := [codeCap 260] } with
    mem := [(8192, word (fval 35 33 7))] }

/-- The inactive set loaded from 8192, and C1 the sealed image. -/
def switchState : State :=
  setCore runState 0 { coreAt runState 0 with
    ctxs := [(0, { runCtx with c := [(1, mkCap 0xd80 59 8192 768 8192)] })], setB := { openSet with imgva := 8192 } }

theorem witness_GateCallsAndSwitch :
    let x := ctxAt gateState 0 0
    let g := kget (fun _ => Cap.null) x.ge 3
    let m := (seenWord gateState 0 8192).1
    let y := ctxAt switchState 0 0
    (Ready gateState i0 0 ∧ CanPush gateState 0 0 8193 ∧ CanPop gateState 0 0 8192) ∧
    (g.tag = true ∧ g.otype = 56 ∧ g.has .invoke = true ∧ g.has .execute = true ∧ x.fb = false ∧ x.cwp < 7 ∧
      fld (rget gateState (corePg 0) 139) 7 0 = x.comp ∧ x.srb.length < 8) ∧
    (fld m 35 33 = 7 ∧ bit m 32 = false ∧ fld m 2 0 + 1 = x.cwp ∧ x.srb = [] ++ [codeCap 260]) ∧
    Ready switchState i0 0 ∧ (y.priv = 0 ∧ (y.cr 1).tag = true ∧ (y.cr 1).otype = 59 ∧
      ((coreAt switchState 0).set (!y.setB)).st = .ready ∧ ((coreAt switchState 0).set (!y.setB)).imgva = (y.cr 1).base ∧
      (coreAt switchState 0).epochs.length < 4) := by
  refine ⟨⟨?_, ⟨?_, ?_, ?_, store_of ?_, ?_⟩, ⟨?_, ?_, ?_, load_of ?_ ?_, ?_⟩⟩, ?_, ?_, ?_, ?_⟩ <;>
    first | decide +kernel | (apply ready_of <;> decide +kernel)

/-- A Blank part in which BREAK stops, and a context with C2 a stack for frames, C3 a task-state capability; a part of two dies with
every other core switched off. -/
def blankState : State := { runState with lcs := .blank, regs := [(pkgPg 3 * 512 + 16, setBit 0 26 true)] }
def specialState : State :=
  withCtx (fun x => { x with
    w := [(1, 0x800000000#36), (2, 1024)], c := [(1, dataCap 4096), (2, mkCap 0xd80 0 20480 1024 20992), (3, mkCap 0xd80 58 24576 32 24576)] })
/-- A GBAR that has read epoch 6, with an access of it and one of epoch 7 on their way. -/
def gbarState : State :=
  setCore runState 0 { coreAt runState 0 with
    ctxs := [(0, { runCtx with barrier := some 6 })]
    epoch := 7
    sb := [{ sbWord with stamp := { coreStamp with epoch := 6 } }, { sbWord with stamp := { coreStamp with epoch := 7 } }] }
def loneState : State :=
  { specialState with
    part := .tfw2
    doms := ((List.range 80).filter (fun k => k % 64 < 16 && k != 0)).map (fun k => (k, { Dom.init with st := .off })) }

theorem gbar_waits_for_none : Ready gbarState i0 0 ∧ ((coreAt gbarState 0).epochs.length = 2 ∧ (ctxAt gbarState 0 0).priv ≤ 1 ∧
      (ctxAt gbarState 0 0).barrier.getD (coreAt gbarState 0).epoch = 6) ∧
    ∀ e ∈ (coreAt gbarState 0).epochs,
      e = (6 : BitVec 16) ∨ 32768 ≤ ((6 : BitVec 16) - e).toNat :=
  ⟨by apply ready_of <;> decide +kernel, by decide +kernel, by
    rw [show (coreAt gbarState 0).epochs = [6, 7] by decide +kernel]
    simp only [List.forall_mem_cons]
    exact ⟨by decide, by decide, by simp⟩⟩

theorem witness_SystemInstructions :
    let x := ctxAt specialState 0 0
    let cv := x.cr 2
    Ready runState i0 0 ∧ (x.priv ≤ 1 ∧ x.priv = 0 ∧ x.pcc.has .system = true) ∧
    ((coreAt runState 0).sb = [] ∧ (ctxAt runState 0 0).lates = [] ∧ (coreAt runState 0).epochs = [] ∧ runState.posts = []) ∧
    (Ready gbarState i0 0 ∧ ((coreAt gbarState 0).epochs.length = 2 ∧ (ctxAt gbarState 0 0).priv ≤ 1 ∧
      (ctxAt gbarState 0 0).barrier.getD (coreAt gbarState 0).epoch = 6) ∧ ∀ e ∈ (coreAt gbarState 0).epochs,
      e = (6 : BitVec 16) ∨ 32768 ≤ ((6 : BitVec 16) - e).toNat) ∧
    (Ready blankState i0 0 ∧ 2 ≤ dbgState blankState ∧ bit (rget blankState (pkgPg 3) 16) 26 = true) ∧
    (Ready specialState i0 0 ∧ ((x.cr 3).tag = true ∧ (x.cr 3).otype = 58) ∧
      (cv.tag = true ∧ cv.otype = 0 ∧ cv.has .load = true ∧ cv.has .store = true ∧ cv.has .loadCap = true ∧ cv.has .storeCap = true ∧
        cv.cursor % 16 = 0 ∧ 4 ≤ cv.top ∧ cv.top % 2 = 0) ∧
      CanLoad specialState 0 0 0 (cv.top - 4) .capLoad 21500 ∧ CanLoad specialState 0 0 0 (cv.top - 2) .capLoad 21502 ∧
      ((mget specialState 21501).ecc ≠ .double ∧ (mget specialState 21503).ecc ≠ .double ∧ memReach specialState 21501 = .ok ∧
        memReach specialState 21503 = .ok) ∧
      Granted specialState 0 0 0 21501 .capLoad ∧ Granted specialState 0 0 0 21503 .capLoad) ∧
    ((x.wr 2).getLsbD 35 = false ∧ (x.wr 1).getLsbD 35 = true ∧ (postTargets specialState).filter (fun m => m != 0) ≠ []) ∧
    (Ready loneState i0 0 ∧ (postTargets loneState).filter (fun m => m != 0) = []) := by
  refine ⟨ready_run, ?_, ?_, gbar_waits_for_none, ⟨?_, ?_⟩, ⟨?_, ?_, ?_, load_of ?_ ?_, load_of ?_ ?_, ?_, granted_of ?_, granted_of ?_⟩, ?_, ?_, ?_⟩ <;>
    first | decide +kernel | (apply ready_of <;> decide +kernel)

/-- A context that can enter a handler: frames below 20992, its task-state block at 24576, its handler at 28672. -/
def handlerCtx : Ctx :=
  { runCtx with fsp := mkCap 0xd80 0 20480 1024 20992, hcc := codeCap 28672, tspA := mkCap 0xd80 58 24576 32 24576
                w := [(1, 0x7ffffffff#36), (2, 1)] }
def handlerState : State := withCtx (fun _ => handlerCtx)

theorem enters (s : State) (vec : Nat) (h1 : (coreAt s 0).sb = [])
    (h2 : 24 ≤ vec ∨ (vec ≠ 1 ∧ (ctxAt s 0 0).mlv.toNat < flvl s 0 vec)) (h3 : (ctxAt s 0 0).fsp = handlerCtx.fsp)
    (h4 : (ctxAt s 0 0).hcc = handlerCtx.hcc) (h5 : (ctxAt s 0 0).tsp = handlerCtx.tspA) (h6 : (ctxAt s 0 0).fb = false)
    (hf : (List.range 16).all (fun j => entryB s 0 0 (20976 + j)) = true)
    (hb : (List.range 32).all (fun j => entryB s 0 0 (24576 + j)) = true) : CanEnter s 0 0 vec := by
  have hc : handlerCtx.fsp.cursor = 20992 := by decide +kernel
  have hbase : handlerCtx.fsp.base = 20480 := by decide +kernel
  have hfr : (ctxAt s 0 0).frameAt = 20976 := by
    simp only [Ctx.frameAt, Ctx.frameSize, h6, h3, hc]
    decide
  have ht : (ctxAt s 0 0).tsbBase = 24576 := by
    rw [Ctx.tsbBase, h5]
    decide +kernel
  refine ⟨h1, h2, ⟨?_, ?_, ?_⟩, ⟨?_, ?_⟩, fun _ => ⟨?_, ?_⟩, ?_, fun _ => ?_, fun _ => ?_⟩
  · rw [h3]; decide +kernel
  · rw [h3]; decide +kernel
  · rw [h3, hc, hbase, Ctx.frameSize, h6]; decide
  · rw [h4]; decide +kernel
  · rw [h4]; decide +kernel
  · rw [h5]; decide +kernel
  · rw [h5]; decide +kernel
  · rw [hfr, h3, hc]
    exact range_of 20976 16 _ (fun a h => entry_of h) hf
  · rw [ht]
    exact range_of 24576 32 _ (fun a h => entry_of h) hb
  · rw [ht, hfr, h3, hc]
    omega

/-- A user context whose Q1 is false. -/
def userState : State := withCtx (fun _ => { handlerCtx with psw := 2 })

theorem witness_TrapsPrivilegeAndAnnulment :
    let q1 : Iss := { core := 0, q := 1, neg := false }
    (Ready handlerState i0 0 ∧ CanEnter handlerState 0 0 16 ∧ CanEnter handlerState 0 0 23 ∧ CanEnter handlerState 0 0 6 ∧
      CanEnter handlerState 0 0 13) ∧
    (reserved 0 = true ∧ (ctxAt handlerState 0 0).wr 3 = 0 ∧
      ((ctxAt handlerState 0 0).wr 1).saddOverflow ((ctxAt handlerState 0 0).wr 2) = true) ∧
    (Ready userState i0 0 ∧ CanEnter userState 0 0 5 ∧ 1 < (ctxAt userState 0 0).priv ∧ 0 < (ctxAt userState 0 0).priv) ∧
    (Ready userState { q1 with q := 0, neg := false } 0 ∧ ((ctxAt userState 0 0).qr q1.q.toNat == q1.neg) = true) := by
  refine ⟨⟨?_, ?_, ?_, ?_, ?_⟩, ?_, ⟨?_, ?_, ?_⟩, ?_, ?_⟩ <;>
    first | decide +kernel | (apply ready_of <;> decide +kernel) | (apply enters <;> decide +kernel)

/-- Line 2 of core 0 at level 3, routed from the package page, whose IRQ is pending. -/
def irqState : State :=
  { handlerState with
    regs := [(corePg 0 * 512 + 82, fval 35 35 1 ||| fval 32 29 3 ||| fval 17 14 8), (pkgPg 0 * 512 + 8, 1), (pkgPg 0 * 512 + 9, 1)] }

/-- A context with two late store errors, and one whose walk has waited for 65,537 cycles. -/
def lateState : State :=
  withCtx (fun _ => { handlerCtx with
    lates := [{ cause := 1, addr := 4096, tsb := 24576, comp := 0 }, { cause := 2, addr := 4100, tsb := 24576, comp := 0 }] })
def heldState : State :=
  setCore handlerState 0 { coreAt handlerState 0 with cyc := 65637, held := some { va := 5000, e2a := 77, since := 100, released := false } }

/-- A handler's context, its frame at 20976 and its block at 24576 as an entry leaves them. -/
def rfeState : State :=
  { withCtx (fun _ => { handlerCtx with psw := 16, fsp := mkCap 0xd80 0 20480 1024 20976 }) with
    mem := [(20976, { data := (mkCap 0xd00 60 20976 16 20977).hi, tag := true, ecc := .good }),
      (20977, { data := (mkCap 0xd00 60 20976 16 20977).lo, tag := true, ecc := .good })] }

theorem rfe_words : (List.range 16).all (fun j => plainB rfeState 0 0 0 (20976 + j) .load && plainB rfeState 0 0 0 (20976 + j) .capLoad &&
      decide ((mget rfeState (20976 + j)).ecc ≠ .double)) = true ∧
    (List.range 32).all (fun j => plainB rfeState 0 0 0 (24576 + j) .load && plainB rfeState 0 0 0 (24576 + j) .capLoad &&
      decide ((mget rfeState (24576 + j)).ecc ≠ .double)) = true := by decide +kernel

theorem readable_of {s : State} {a : Nat} (h : (plainB s 0 0 0 a .load && plainB s 0 0 0 a .capLoad &&
    decide ((mget s a).ecc ≠ .double)) = true) : CanLoad s 0 0 0 a .load a ∧ CanLoad s 0 0 0 a .capLoad a := by
  simp only [Bool.and_eq_true, decide_eq_true_eq] at h
  exact ⟨load_of h.1.1 h.2, load_of h.1.2 h.2⟩

theorem witness_InterruptsLateErrorsAndReturns :
    let x := ctxAt rfeState 0 0
    let g := fun (a : Nat) => (mget rfeState a).data
    let p : Cap := { hi := g 20976, lo := g 20977, tag := (mget rfeState 20976).tag && (mget rfeState 20977).tag }
    (coreWakes irqState 0 = true ∧ lateDue irqState 0 = false ∧ interruptDue irqState 0 = some (0, 3, 2) ∧
      (dom irqState (domKey 0 0)).st ≠ .hold ∧ (coreAt irqState 0).midway = none ∧ boundaryFault irqState 0 = false ∧
      (ctxAt irqState 0 0).proofLoad = none ∧ (∀ d, d < irqState.part.dies → (sedge irqState d).tmig = none)) ∧
    CanEnter irqState 0 0 26 ∧
    (coreLive lateState 0 = true ∧ (coreAt lateState 0).midway = none ∧ boundaryFault lateState 0 = false ∧ (coreAt lateState 0).mstage = none ∧ (coreAt lateState 0).cur = 0 ∧
      (ctxAt lateState 0 0).selectable = true ∧ (ctxAt lateState 0 0).fresh = false ∧ (ctxAt lateState 0 0).proofLoad = none ∧
      (ctxAt lateState 0 0).lates = { cause := 1, addr := 4096, tsb := 24576, comp := 0 } ::
        [{ cause := 2, addr := 4100, tsb := 24576, comp := 0 }]) ∧ CanEnter lateState 0 0 7 ∧
    (issuer heldState 0 = some 0 ∧ (coreAt heldState 0).held = some { va := 5000, e2a := 77, since := 100, released := false } ∧
      65536 < (coreAt heldState 0).cyc - 100 ∧ coreIssues heldState 0 = true ∧ (coreAt heldState 0).cur = 0 ∧
      (ctxAt heldState 0 0).selectable = true ∧ (ctxAt heldState 0 0).proofLoad = none ∧
      (let w : HeldWalk := { va := 5000, e2a := 77, since := 100, released := false, entry := true }
       let s := setCore heldState 0 { coreAt heldState 0 with held := some w }
       coreIssues s 0 = true ∧ (coreAt s 0).cur = 0 ∧ (ctxAt s 0 0).selectable = true ∧ (coreAt s 0).held = some w)) ∧
    CanEnter heldState 0 0 11 ∧
    Ready rfeState i0 0 ∧ (x.fb = true ∧ x.priv ≤ 1 ∧ (coreAt rfeState 0).sb = [] ∧ x.fsp.cursor = 20976 ∧ p.tag = true ∧
      p.otype = 60 ∧ p.base = 20976 ∧ p.cursor / 4 * 4 = 20976 ∧ bit (g 20978) 23 = false ∧ x.tsp.tag = true ∧ x.tsp.otype = 58 ∧
      x.tsbBase = 24576 ∧ (g 24578 = 0 ∧ g 24579 = 0) ∧ fld (g 24580) 1 0 ≠ 3 ∧ x.tsp.cursor % 4 ≤ fld (g 24580) 1 0 ∧ fld (g 24580) 29 22 = x.comp) ∧
    (∀ a, 20976 ≤ a → a < 20976 + 16 → CanLoad rfeState 0 0 0 a .load a ∧ CanLoad rfeState 0 0 0 a .capLoad a) ∧
    (∀ a, 24576 ≤ a → a < 24576 + 32 → CanLoad rfeState 0 0 0 a .load a ∧ CanLoad rfeState 0 0 0 a .capLoad a) ∧
    CanStore rfeState 0 0 0 24591 .store 24591 ∧ (marked rfeState 24591 = false ∧ ∀ i, i < 40 → bit (route rfeState 0 i) 35 = false) := by
  refine ⟨?_, ?_, ?_, ?_, ?_, ?_, ?_, ?_, range_of 20976 16 _ (fun a h => readable_of h) rfe_words.1,
      range_of 24576 32 _ (fun a h => readable_of h) rfe_words.2, store_of ?_, ?_⟩ <;>
    first | decide +kernel | (apply ready_of <;> decide +kernel) | (apply enters <;> decide +kernel)

/-- W1 selects every register, W2 the registers 0 and 31, W3 a length of 5, and W4 of 0; C2 a destination that overlaps C1. -/
def multiState : State :=
  withCtx (fun x => { x with w := [(1, 0xffffffff#36), (2, 0x80000001#36), (3, 5)], c := [(1, dataCap 4096), (2, dataCap 4098)] })

theorem witness_MultiWordInstructions :
    let x := ctxAt multiState 0 0
    let both := fun (a : Nat) (k : Kind) => CanLoad multiState 0 0 0 a k a
    let puts := fun (a : Nat) (k : Kind) => CanStore multiState 0 0 0 a k a ∧ marked multiState a = false
    (Ready multiState i0 0 ∧ (coreAt multiState 0).sb = [] ∧ (coreAt multiState 0).midway = none ∧ interruptDue (setCtx multiState 0 0 { x with fresh := false }) 0 = none ∧
      ((List.range 32).filter (fun i => (x.wr 1).getLsbD i)).length = 32 ∧
      ((List.range 32).filter (fun i => (x.wr 2).getLsbD i)).length = 2 ∧ ((List.range 32).filter (fun i => (x.wr 4).getLsbD i)).length = 0) ∧
    (capCheck (x.cr 1) (4096 + (0 : Int)) 32 [.load] = .ok () ∧ capCheck (x.cr 1) (4096 + (0 : Int)) 32 [.store] = .ok ()) ∧
    (∀ a, 4096 ≤ a → a < 4096 + 32 → WordThere multiState 0 a) ∧
    (∀ a, 4096 ≤ a → a < 4096 + 32 → both a .load ∧ puts a .store ∧ both a .capLoad ∧ puts a .capStore) ∧
    ((x.wr 3).toNat = 5 ∧ capCheck (x.cr 1) (4096 : Nat) 5 [.load] = .ok () ∧ capCheck (x.cr 2) (4098 : Nat) 5 [.store] = .ok () ∧
      filtering multiState = false) ∧
    (x.priv ≤ 1 ∧ ∀ i, i < 40 → bit (route multiState 0 i) 35 = false) := by
  refine ⟨⟨?_, ?_⟩, ⟨ok_of ?_, ok_of ?_⟩, fun a h1 h2 => .inl (by omega), range_of 4096 32 (fun a => plainB multiState 0 0 0 a .load && plainB multiState 0 0 0 a .store &&
      plainB multiState 0 0 0 a .capLoad && plainB multiState 0 0 0 a .capStore && !marked multiState a &&
      decide ((mget multiState a).ecc ≠ .double)) (fun a h => ?_) ?_, ⟨?_, ok_of ?_, ok_of ?_, ?_⟩, ?_⟩
  case refine_5 =>
    simp only [Bool.and_eq_true, decide_eq_true_eq, Bool.not_eq_true'] at h
    obtain ⟨⟨⟨⟨⟨h1, h2⟩, h3⟩, h4⟩, h5⟩, h6⟩ := h
    exact ⟨load_of h1 h6, ⟨store_of h2, h5⟩, load_of h3 h6, ⟨store_of h4, h5⟩⟩
  all_goals first | decide +kernel | (apply ready_of <;> decide +kernel)

/-- Contexts 0 and 2 Ready, the second at a higher mask level; a word to write back; an invalidation posted to core 0; a held
walk. -/
def twoState : State := setCtx runState 0 2 { runCtx with mlv := 3 }
def wbState : State := { runState with eccWb := [4096], mem := [(4096, { data := 5, tag := false, ecc := .single })] }
/-- A store of a timed compartment that has waited 40 core cycles at bank 1. -/
def farWord : SbEntry := { sbWord with pa := 65536, va := 65536 }
def stealState : State :=
  { withCore (fun c => { c with sb := [farWord] }) with ticks := 20, regs := [(sedgePg 0 * 512 + 256, fval 33 33 1)] }

theorem steal_alone : ∀ m store, (m, store) ≠ (0, true) → timedDue stealState 1 m store = none := by
  intro m store h
  rcases Nat.eq_zero_or_pos m with rfl | hm
  · cases store with
    | false => decide +kernel
    | true => exact absurd rfl h
  · obtain ⟨c, h0⟩ : ∃ c, stealState.cores = [(0, c)] := ⟨_, rfl⟩
    have hc : coreAt stealState m = Core.init := by
      have hm0 : ¬ 0 = m := by omega
      simp [coreAt, h0, kget, hm0]
    cases store <;> simp [timedDue, storeWaits, loadWaits, hc, Core.init]

def aPost : Post := { id := 4, poster := .core 1 0, scope := .page 7, todo := [0, 2], acking := [] }
def postState : State := { runState with posts := [aPost] }
def ackState : State := { runState with posts := [{ aPost with todo := [], acking := [0] }] }

theorem witness_CoreBlockEvents :
    (coreLive twoState 0 = true ∧ (coreAt twoState 0).mstage = none ∧ (ctxAt twoState 0 (coreAt twoState 0).cur).div = none ∧
      lateDue twoState 0 = false ∧ (coreAt twoState 0).midway = none ∧ boundaryFault twoState 0 = false ∧ interruptDue twoState 0 = none ∧ (∀ k, k < 4 → (ctxAt twoState 0 k).st ≠ .waiting) ∧ (ctxAt twoState 0 2).selectable = true ∧
      (∀ k, k < 4 → k ≠ 2 → (ctxAt twoState 0 k).selectable = true → (ctxAt twoState 0 k).mlv.toNat < (ctxAt twoState 0 2).mlv.toNat)) ∧
    (issuer runState 0 = some 0 ∧ (coreAt runState 0).pq = [] ∧ capCheck (codeCap 256) (256 : Nat) 1 [.execute] = .ok () ∧
      CanLoad runState 0 0 0 256 .fetch 256) ∧
    (clocked wbState = true ∧ (4096#30).toNat ∈ wbState.eccWb ∧ unitReach wbState 4096 = .ok ∧ inBanks wbState 4096 = true ∧
      slotFree wbState (4096 / 65536) 1 = true) ∧
    ((clocked stealState = true ∧ memReach stealState (1 * 65536) = .ok ∧ (kget (fun _ => (0, 0)) stealState.steals 1).2 = 0 ∧
      coreLive stealState 0 = true ∧ (coreAt stealState 0).sb = farWord :: [] ∧ farWord.pair = false ∧ farWord.pa / 65536 = 1 ∧
      memReach stealState 65536 = .ok ∧ clsTimed (compcls stealState 0 0) = true ∧ 0 + 24 ≤ 2 * stealState.ticks ∧
      targetOk stealState coreStamp 65536 .store = true ∧ marked stealState 65536 = false) ∧
      (∀ m store, (m, store) ≠ (0, true) → timedDue stealState 1 m store = none)) ∧
    (clocked postState = true ∧ postState.posts = [aPost] ∧ 0 ∈ aPost.todo ∧ (coreAt postState 0).outstanding aPost.scope = false) ∧
    (ackState.posts = [{ aPost with todo := [], acking := [0] }] ∧ 0 < 4 ∧ ({ aPost with todo := [], acking := [0] } : Post).todo = []) ∧
    (clocked heldState = true ∧ 0 < 16 * heldState.part.dies ∧
      (coreAt heldState 0).held = some { va := 5000, e2a := 77, since := 100, released := false } ∧ 5000 / 1024 = (4#20).toNat) := by
  refine ⟨?_, ⟨?_, ?_, ok_of ?_, load_of ?_ ?_⟩, ?_, ⟨?_, steal_alone⟩, ?_, ?_, ?_⟩ <;> decide +kernel

/-! ## Witnesses: the fabric, register pages, Sedge and gates -/

/-- A state with registers written. -/
def withRegs (s : State) (l : List (Nat × Nat × Word)) : State := l.foldl (fun s r => rset s r.1 r.2.1 r.2.2) s

/-- A state with a link direction written. -/
def withLink (s : State) (k : Nat) (f : Link → Link) : State := setLink s k (f (linkAt s k))

theorem witness_ErrorContainment :
    (unitWorks runState (corePg 127) = true ∧ unitWorks runState (remPg 31) = true ∧ runState.safety ≠ .mire ∧
      ∀ r, r < 4 → runState.isol.getLsbD (4 * 7 + r) = false) ∧
    (let s := { runState with isol := 2 }
     unitWorks s (diePg 0 1) = true ∧ 0 < 4 * s.part.dies ∧ s.safety ≠ .mire ∧ s.isol.getLsbD 0 = false ∧ 1 < 4 ∧
       s.isol.getLsbD (4 * 0 + 1) = true) := by decide +kernel

/-- Units at input 2 of the crossbar of region 0, a timed and a bulk one, that ask for output 5; `skip` is the bulk count of the
output. -/
def xbarState (t b skip : Nat) : State :=
  withLink (withLink runState 258 (fun l => { l with
    timed := { l.timed with s := 4 - t, b := t }, bulk := { l.bulk with s := 8 - b, b := b }, tDst := [5], bDst := [5] }))
    5 (fun l => { l with bulkSkip := skip })

theorem witness_CrossbarGrants :
    (let s := xbarState 1 1 6
     linkWorks s 5 = true ∧ 2 ∈ requesters s 0 5 true ∧ (linkAt s 5).rrTimed < 7 ∧ (∀ q ∈ requesters s 0 5 true, (2 + 13 - 0) % 7 ≤ (q + 13) % 7) ∧
       (linkAt s 5).bulkSkip < 7) ∧
    (let s := xbarState 1 1 7
     linkWorks s 5 = true ∧ 2 ∈ requesters s 0 5 false ∧ (linkAt s 5).rrBulk < 7 ∧ (∀ q ∈ requesters s 0 5 false, (2 + 13) % 7 ≤ (q + 13) % 7) ∧
       7 ≤ (linkAt s 5).bulkSkip) ∧
    (let s := xbarState 0 1 0
     2 ∈ requesters s 0 5 false ∧ requesters s 0 5 true = []) := by decide +kernel

/-- A direction with a unit in flight, one buffered and a credit on its way back. -/
def busyLink (l : Link) : Link := { l with timed := { l.timed with s := l.timed.s - 3, f := 1, b := 1, r := 1 } }
def linkState (k : Nat) : State := withLink runState k (fun l => { busyLink l with st := .up })

/-- The same with timed and bulk units that wait, a bulk count, and the cycle of its last grant. -/
def waitingLink (t b skip : Nat) (at_ : Option Nat) : State :=
  withLink (linkState 512) 512 (fun l => { l with tWait := t, bWait := b, bulkSkip := skip, sentAt := at_ })

theorem witness_UnitsAndCredits :
    (onTimed runState .samples = true ∧ onTimed runState .dma = false) ∧
    (linkWorks (linkState 256) 256 = true ∧ linkKey (.xbarFrom 0 0) = 256 ∧ (linkAt (linkState 256) 256).st = .up ∧
      0 < (linkAt (linkState 256) 256).timed.s ∧ 0 < (linkAt (linkState 256) 256).timed.f ∧
      (linkAt (linkState 256) 256).timed.b < capOf 256 true ∧ 0 < (linkAt (linkState 256) 256).timed.r) ∧
    (linkWorks (linkState 512) 512 = true ∧ linkKey (.bridge 0 0) = 512 ∧ (linkAt (linkState 512) 512).st = .up ∧
      0 < (linkAt (linkState 512) 512).timed.s ∧ (linkAt (linkState 512) 512).replay.length < replayCap 512 ∧
      onItsWay (linkState 512) 512 1 = true ∧ (linkAt (linkState 512) 512).tWait = 0 ∧ (linkAt (linkState 512) 512).bWait = 0 ∧
      (linkAt (linkState 512) 512).sentAt ≠ some (linkState 512).ticks ∧
      0 < (linkAt (linkState 512) 512).timed.f ∧ (linkAt (linkState 512) 512).timed.b < capOf 512 true ∧
      (0#12).toNat % seqMod 512 = (linkAt (linkState 512) 512).rxSeq ∧ (1#12).toNat % seqMod 512 ≠ (linkAt (linkState 512) 512).rxSeq ∧
      0 < (linkAt (linkState 512) 512).timed.r) ∧
    (linkWorks (waitingLink 0 0 0 (some 0)) 512 = true ∧ (linkAt (waitingLink 0 0 0 (some 0)) 512).sentAt = some runState.ticks ∧
      onItsWay (waitingLink 0 0 0 (some 0)) 512 1 = true) ∧
    (∀ skip ∈ [6, 7], linkWorks (waitingLink 1 0 skip none) 512 = true ∧ (linkAt (waitingLink 1 0 skip none) 512).sentAt ≠ some 0 ∧
      0 < (linkAt (waitingLink 1 0 skip none) 512).tWait ∧ 0 < (linkAt (waitingLink 1 0 skip none) 512).timed.s ∧
      0 < (linkAt (waitingLink 1 0 skip none) 512).bulk.s ∧ (linkAt (waitingLink 1 0 skip none) 512).bulkSkip = skip) := by decide +kernel

theorem witness_CreditsAreConserved :
    ((linkAt (linkState 512) 512).pool true).b < capOf 512 true ∧
    (∃ t, exec (.unitTransmit (.bridge 0 0) .samples 1) (linkState 512) = .next t) ∧
    (∃ t, exec (.crossbarGrant 0 5 2 ⟨true, false⟩) (xbarState 1 1 6) = .next t) ∧
    ((linkAt (linkState 512) 512).st ≠ .retrain ∧ ackSpan (linkAt (linkState 512) 512) 512 4095 ≤ (linkAt (linkState 512) 512).replay.length) :=
  ⟨by decide +kernel, next_of (by decide +kernel), next_of (by decide +kernel), by decide +kernel⟩

/-- A link with two units in its replay buffer, in a state, after some failed attempts. -/
def replayState (k : Nat) (x : LinkState) (attempts : Nat) : State :=
  withLink runState k (fun l => { l with st := x, replay := [(5, true), (6, false)], attempts := attempts })

theorem witness_LinkRetryAndRetrain :
    (let s := replayState 512 .up 0
     linkWorks s 512 = true ∧ (linkAt s 512).st = .up ∧ replayIndex 512 (linkAt s 512) 6 < 2 ∧ (linkAt s 512).nakRun = 0 ∧
       1 < retryMax s 512 ∧ 2 ≤ replayIndex 512 (linkAt s 512) 4 ∧ 2 ≤ replayIndex 512 (linkAt s 512) 7) ∧
    (let s := replayState 512 .retrain 1
     linkWorks s 512 = true ∧ (linkAt s 512).st = .retrain ∧ (linkAt s 512).attempts < 2) ∧
    (linkAt (replayState 512 .retrain 2) 512).attempts = 2 ∧
    (let s := replayState 547 .retrain 2
     linkWorks s 547 = true ∧ 544 ≤ 547 ∧ (linkAt s 547).st = .retrain ∧ 2 ≤ (linkAt s 547).attempts) ∧
    (let s := replayState 512 .up 0
     ((linkAt s 512).pool true).r = 0 ∧ ((linkAt s 512).pool true).b = 0 ∧ (linkAt s 512).replay.length < ackSpan (linkAt s 512) 512 7) ∧
    (linkWorks runState 512 = true ∧ (linkAt runState 512).st = .off) := by decide +kernel

/-- A peer, and a package strapped `strap` whose Causeway links train, with link 0 in a state. -/
def aPeer : PeerFacts :=
  { strap := 3, serial := 9, members := 0, pos := 0, stackId := 0, time := 0, synth := false, refsOff := true, upWithAll := true, mire := false }
def cwyUp (s : State) (strap : BitVec 4) (x : LinkState) : State :=
  setCwyState (withRegs { s with straps := strap } [(pkgPg 0, 53, fval 33 33 1)]) 0 x
def stackOf (role pos : BitVec 2) (members : BitVec 4) : Stack := { role := role, pos := pos, members := members, orphan := false, id := 1 }

theorem witness_StackMembership :
    (let s := cwyUp runState 1 .training
     linkWorks s 544 = true ∧ causewayOn s = true ∧ cwyState s 0 ≠ .up ∧ cwyState s 0 ≠ .retrain ∧ roleStrap s = 1) ∧
    (let s := cwyUp (setCwy { runState with ticks := 3000000 } 0 { Cwy.init with peer := some aPeer, upSince := some 0 }) 1 .up
     unitWorks s (pkgPg 0) = true ∧ s.stack.role = 0 ∧ roleStrap s = 1 ∧ causewayOn s = true ∧ upLinks s ≠ [] ∧ firstUp s = some 0 ∧
       0 + 3000000 ≤ s.ticks ∧ (∀ j ∈ upLinks s, (cwy s j).peer = some aPeer) ∧ aPeer.members = 0 ∧ aPeer.strap ≠ 1) ∧
    (let s := cwyUp { runState with stack := stackOf 1 0 1 } 1 .up
     let u := setCwy s 0 { cwy s 0 with joining := some aPeer }
     linkWorks s 544 = true ∧ cwyState s 0 = .up ∧ s.stack.role = 1 ∧ s.stack.members ≠ 15 ∧ aPeer.upWithAll = true ∧
       u.stack.role = 1 ∧ 0 < u.part.ports ∧ (cwy u 0).joining = some aPeer ∧ (∀ j, j < u.part.ports → j ≠ 0 → (cwy u j).joining = none) ∧
       aPeer.refsOff = true ∧ aPeer.time.toNat ≤ s.tt + 10000000 ∧ aPeer.mire = false ∧ s.safety ≠ .mire) ∧
    (let s := cwyUp runState 3 .up
     let p := { aPeer with members := 1, stackId := 7 }
     linkWorks s 544 = true ∧ cwyState s 0 = .up ∧ s.stack.role = 0 ∧ roleStrap s ≠ 1 ∧ p.members.getLsbD 0 = true ∧ p.pos = 0 ∧
       p.members ≠ 15 ∧
       refsBusy s = false ∧ s.tt ≤ p.time.toNat + 10000000 ∧ p.stackId ≠ s.fusesRead.serno) ∧
    (let s := cwyUp { runState with stack := stackOf 1 0 15 } 1 .up
     linkWorks s 544 = true ∧ cwyState s 0 = .up ∧ s.stack.role = 1 ∧ s.stack.members = 15) ∧
    (let s := { runState with stack := stackOf 2 1 3 }
     unitWorks s (pkgPg 0) = true ∧ s.stack.role ≠ 0 ∧ s.stack.members.getLsbD 0 = true ∧ (0 : BitVec 2) ≠ s.stack.pos ∧
       memberGone s 0 = true) := by decide +kernel

/-- A follower whose link 0 reaches the master, 16 µs after its last packet, with reference 0 copied from the master's reference
1. -/
def followState : State :=
  setRef (cwyUp (setCwy { runState with stack := stackOf 2 1 3, ticks := 4800, tt := 100 } 0 { Cwy.init with pmem := true, ppos := 0, delay := 90 })
    3 .up |> fun s => withRegs s [(phrefPg, 16, fval 35 33 4 ||| fval 19 17 1)]) 0 { Ref.init with st := .locked }

theorem witness_StackTime :
    (let s := followState
     s.stack.role = 2 ∧ clocked s = true ∧ s.stack.orphan = false ∧ cwyState s 0 = .up ∧ (cwy s 0).pmem = true ∧ (cwy s 0).ppos = 0 ∧
       refSrc s 0 = 4 ∧ (ref s 0).st = .locked ∧ rfld s phrefPg 16 19 17 = 1 ∧
       ([{ state := 0, stamp := 0 }, { state := 2, stamp := 5 }] : List RefSample)[1]? = some { state := 2, stamp := 5 } ∧
       s.sync.last + 4800 ≤ s.ticks ∧ linkWorks s 544 = true) ∧
    (-8 ≤ (100 : Int) - ((18 + 90 : Nat) : Int) ∧ (100 : Int) - ((2 + 90 : Nat) : Int) ≤ 8 ∧ 8 < (100 : Int) - ((1 + 90 : Nat) : Int) ∧
      (1 : BitVec 72) ≠ 0 ∧ followState.sync.steps = [] ∧ followState.sync.seen < (200#72).toNat) ∧
    (let s := cwyUp { runState with stack := stackOf 1 0 3 } 1 .up
     s.stack.role = 1 ∧ s.ticks % 300 = 0 ∧ 0 ∈ upLinks s) ∧
    (let s := { followState with sync := { followState.sync with steps := [((200#72).toNat, (1#72).toNat)] } }
     s.sync.steps = ((200#72).toNat, (1#72).toNat) :: [] ∧ s.tt < (200#72).toNat ∧ (200#72).toNat ≤ ({ s with tt := 200 } : State).tt) ∧
    (match exec (.syncPacket 0 ⟨2, 0, 0⟩ []) followState with
      | .next t => decide (-(2 ^ 34 : Int) ≤ t.sync.base ∧ t.sync.base ≤ 2 ^ 34)
      | _ => false) = true := by decide +kernel

theorem witness_CommonRegisters :
    (unitWorks runState (remPg 0) = true ∧ unitOf runState.part (remPg 0) = some .rem ∧ locked runState (remPg 0) = false ∧
      enabled runState (remPg 0) = false ∧ UnitTy.rem ∉ [UnitTy.phref, .ttime, .sedge, .sluice, .chan, .pkg, .carr, .mgate, .tgate] ∧
      (1 : Word) &&& ~~~(offer runState (remPg 0)) = 0 ∧ (2 : Word) &&& ~~~(offer runState (remPg 0)) ≠ 0) ∧
    locked (withRegs runState [(remPg 0, 10, 1)]) (remPg 0) = true ∧ enabled (withRegs runState [(remPg 0, 4, 1)]) (remPg 0) = true ∧
    (let s := withRegs runState [(remPg 0, 3, 1)]
     (dom s (domOfPage (remPg 0))).drain = none ∧ bit (rget s (remPg 0) 3) 0 = true ∧ bit (1 : Word) 3 = false ∧ bit (1 : Word) 2 = false ∧
       bit (rget s (remPg 0) 4) 2 = false ∧ bit (1 : Word) 0 = true) ∧
    bit (rget runState (remPg 0) 3) 0 = false ∧
    (let s := setDom runState (domOfPage (remPg 0)) { Dom.init with drain := some .off }
     clocked s = true ∧ draining s (remPg 0) = true ∧ bit (1 : Word) 0 = true) ∧
    bit (evNow runState (remPg 0) 6) 35 = false ∧ runState.evTick = runState.ticks ∧ (capture runState (remPg 0) 1 0).evTick = 0 ∧
    bit (evNow (capture runState (remPg 0) 1 0) (remPg 0) 6) 35 = true := by decide +kernel

theorem enable_rem (w : Word) : enableWhy (rset (withRegs runState [(remPg 0, 3, 1)]) (remPg 0) 4 w) (remPg 0) = none := rfl

/-- The REM page of region 0, register 8, and a page of a die the part does not have. -/
def remAddr : BitVec 24 := BitVec.ofNat 24 (remPg 0 * 512 + 8)

theorem witness_RegisterRequests :
    (clocked runState = true ∧ remAddr.toNat / 512 = remPg 0 ∧ remAddr.toNat % 512 = 8 ∧ pageReach runState (remPg 0) = .ok ∧
      targetOk runState coreStamp (regAddr (remPg 0) 8) .store = true ∧ locked runState (remPg 0) = false ∧
      bit (evNow runState (remPg 0) 6) 35 = false) ∧
    (let s := withRegs runState [(remPg 0, 10, 1)]
     locked s (remPg 0) = true ∧ UnitTy.rem.lockable 8 = true ∧ targetOk s coreStamp (regAddr (remPg 0) 8) .store = true) ∧
    (let s := withRegs runState [(pkgPg 0, 40, 1)]
     pageReach s (regionPg 0 32) = .ok ∧ targetOk s coreStamp (regAddr (regionPg 0 32) 8) .store = false ∧
       pageStoreWaits s coreStamp (regionPg 0 32) 8 0 = false) ∧
    pageReach runState (pkgPg 5) = .unpopulated ∧ pageReach (setDom runState 512 { Dom.init with st := .off }) (pkgPg 32) = .down ∧
    (let s := withRegs runState [(pkgPg 0, 55, ~~~0), (pkgPg 0, 56, ~~~0)]
     radmAdmits s (remPg 0) = true ∧ targetOk s (remoteStamp coreStamp) (regAddr (remPg 0) 8) .load = true ∧
       targetOk s (remoteStamp coreStamp) (regAddr (remPg 0) 8) .store = true) ∧ radmAdmits runState (remPg 0) = false := by decide +kernel

/-- A sweep of region 0 that stands at a capability pair whose base lies in the range of its bitmap and is revoked. -/
def swpRegs (s : State) : State := withRegs s [(swpPg 0, 18, 8192), (swpPg 0, 19, 0), (swpPg 0, 20, 64 * 64)]
def sweepState (phase : Bool) (a : Nat) : State :=
  { swpRegs runState with
    sweeps := [(0, { on := true, clearAll := false, phase := phase, addr := a, cleared := 0 })]
    mem := [(4096, { data := (dataCap 0).hi, tag := true, ecc := .good }), (4097, { data := (dataCap 0).lo, tag := true, ecc := .good }),
      (8192, word 1)] }

theorem witness_Sweeps :
    (let s := swpRegs runState
     unitWorks s (swpPg 0) = true ∧ locked s (swpPg 0) = false ∧ (sweep s 0).on = false ∧ badSweepConfig s 0 = false) ∧
    badSweepConfig runState 0 = true ∧
    (let s := sweepState false 4096
     (sweep s 0).on = true ∧ (sweep s 0).clearAll = false ∧ sweepOver s 0 = false ∧ memReach s 4096 = .ok ∧
       (mget s 4096).ecc ≠ .double ∧ (mget s 4097).ecc ≠ .double ∧ (revoked s 0 (dataCap 0).base).1 = true) ∧
    sweepOver (sweepState true 262144) 0 = true := by decide +kernel

/-- A valid task-state block at 24576 for compartment 0, and a Waiting context with its block there. -/
def bindState : State :=
  setCtx { runState with
    mem := [(24576, { data := (mkCap 0xd80 0 24576 32 24576).hi, tag := true, ecc := .good }),
      (24577, { data := (mkCap 0xd80 0 24576 32 24576).lo, tag := true, ecc := .good })] } 0 1
    { runCtx with st := .waiting, tspA := mkCap 0xd80 58 24576 32 24576 }

theorem witness_CorePageCommands :
    (unitWorks bindState (corePg 0) = true ∧ locked bindState (corePg 0) = false) ∧
    (let g := fun (i : Nat) => (mget bindState (24576 + i)).data
     let self : Cap := { hi := g 0, lo := g 1, tag := (mget bindState 24576).tag && (mget bindState 24577).tag }
     (ctxAt bindState 0 2).st = .empty ∧ (∀ i, i < 20 → memReach bindState (24576 + i) = .ok ∧ (mget bindState (24576 + i)).ecc ≠ .double) ∧
       marked bindState 24591 = false ∧ selfOk self = true ∧ fld (g 4) 1 0 ≠ 3 ∧
       readySetOf (coreAt bindState 0) (fld (g 4) 29 22) = some false ∧ placeOk bindState 0 (fld (g 4) 29 22) = true) ∧
    (ctxAt bindState 0 0).st ≠ .empty ∧ (ctxAt bindState 0 0).st ≠ .waiting ∧
    (let x := ctxAt bindState 0 1
     x.st = .waiting ∧ x.fb = false ∧ x.tsp.tag = true ∧ x.tsp.otype = 58 ∧ (coreAt bindState 0).sb = [] ∧ x.lates = [] ∧ x.tsbBase = 24576) ∧
    (∀ p, 24576 ≤ p → p < 24576 + 32 → EntryWord bindState 0 1 p) := by
  refine ⟨?_, ?_, ?_, ?_, ?_, range_of 24576 32 _ (fun a h => entry_of h) ?_⟩ <;> decide +kernel

/-- A directory with one page of frame 3 in the pool of die 0, frames 4 and 1028 free, the L2 entry at word 2048, hot at die 1. -/
def aPage : DirEnt :=
  { DirEnt.init with v := true, comp := 5, vpn := 7, eaddr := 2048, pfn := 3, heat := [(1, 100)] }
def sedgeSt (f : Sedge → Sedge) : State :=
  let s := withRegs runState [(sedgePg 0, 3, 15), (sedgePg 0, 4, 13), (sedgePg 0, 256 + 5, fval 35 34 2), (sedgePg 1, 256 + 5, fval 35 34 2)]
  setSedge (setSedge { s with mem := [(2048, word (fval 33 33 1 ||| fval 35 34 1 ||| fval 29 10 3)), (2049, word (fval 33 33 1))], marks := [(2, 1)] }
    0 (f { Sedge.init with dir := [(0, aPage)], pool := [(3, .mapped), (4, .free)] })) 1 { Sedge.init with pool := [(1028, .free)] }

theorem witness_SedgeCommands :
    let s := sedgeSt id
    (unitWorks s (sedgePg 0) = true ∧ s.safety ≠ .mire ∧ (sedge s 0).busy = none) ∧
    (poolDie s 5 = none ∧ onChip 5 = true ∧ memReach s (5 * 1024) ≠ .unpopulated ∧ (sedge s 0).pool.length + 1 ≤ 16384) ∧
    (2049 < 1048576 * s.part.dies ∧ memReach s 2049 = .ok ∧ (mget s 2049).ecc ≠ .double ∧ bit (mget s 2049).data 33 = true ∧ fld (mget s 2049).data 35 34 = 0 ∧
      (List.range 8192).find? (fun j => !((sedge s 0).entry j).v) = some 1 ∧
      clsTimed (compcls s 0 6) = false ∧ clsVital (compcls s 0 6) = false ∧ clsMode (compcls s 0 6) = 0 ∧
      pageAllowed (compcls s 0 6) 4 true = true ∧ (freeFrames s (fun x => x == 4)).head? = some (0, 4) ∧ 2049 / 1024 ≠ 4) ∧
    (clsMode (compcls s 0 5) ≠ 0 ∧ freeFrames s (fun x => pageAllowed (compcls s 0 5) x false) ≠ [] ∧
      (∀ q ∈ freeFrames s (fun x => pageAllowed (compcls s 0 5) x false), 2049 / 1024 ≠ q.2)) ∧
    (sedgeFeature s 0 1 = true) ∧
    ((sedge s 0).find 2048 = some (0, aPage) ∧ aPage.st ≠ .moving ∧ aPage.st = .placed ∧ (sedge s 0).entry 0 = aPage ∧
      (sedge s 0).mig = none ∧ postTargets s ≠ []) ∧
    ((sedge s 0).find 77 = none) ∧
    (let t := setCtx s 0 1 { Ctx.init with st := .waiting, psw := fval 29 22 5 }
     let u := setCore t 17 { Core.init with setA := { openSet with words := [(2, 5)] } }
     (sedge u 0).tmig = none ∧ 17 ∈ coreNos u ∧ taskEligible u 0 1 17 false = true) ∧
    (sedge (sedgeSt (fun x => { x with busy := some (7, 0, 0) })) 0).busy ≠ none ∧
    (sedge (sedgeSt (fun x => { x with busy := some (7, 0, 0) })) 0).relPost = none ∧
    (let t := sedgeSt (fun x => { x with busy := some (2, 0, 0), relPost := some (9, 0) })
     (sedge t 0).relPost = some (9, 0) ∧ postDone t 9 = true ∧ ((sedge t 0).entry 0).st ≠ .lost ∧ poolDie t 3 = some 0) := by decide +kernel

/-- The same with a migration of the page to frame 1028 at a stage. -/
def migState (x : MigStage) (pair : Nat) (f : Frame) : State :=
  let s := sedgeSt (fun y => { y with
    dir := [(0, { aPage with st := .moving })], mig := some { index := 0, dest := 1028, stage := x, pair := pair, byMove := false, post := 0 } })
  setSedge s 1 { Sedge.init with pool := [(1028, f)] }

theorem mig_canonical : Canonical (migState .copying 0 .reserved) := by
  refine ⟨by decide +kernel, by decide +kernel, fun d => ?_⟩
  match d with
  | 0 => decide +kernel
  | 1 => decide +kernel
  | d + 2 => exact ⟨List.nodup_nil, List.nodup_nil, List.nodup_nil⟩

theorem witness_PageMigration :
    Canonical (migState .copying 0 .reserved) ∧
    (let s := { sedgeSt id with ticks := 2000000000 }
     sedgeWorks s 0 = true ∧ ((sedge s 0).entry 0).v = true ∧ ((sedge s 0).entry 0).pfn = 3 ∧
       (sedge s 0).lastHalf + rfld s (sedgePg 0) 28 35 18 * 1024 ≤ s.ticks ∧ heatReady s 0 = true ∧ aPage.pin = false ∧ releasing s 0 0 = false ∧
       (3, 0) ∈ ({ s with heatDue := [(3, 0)] } : State).heatDue ∧
       2 * aPage.heatL + rfld s (sedgePg 0) 28 17 9 ≤ aPage.remote.1 ∧ 0 < aPage.remote.1 ∧
       heatFrames s (compcls s 0 5) aPage.remote.2 ≠ []) ∧
    (let s := migState .start 0 .free
     sedgeWorks s 0 = true ∧ poolDie s 1028 = some 1 ∧ poolAt s 1 1028 = .free ∧ memReach s 2048 = .ok ∧ (mget s 2048).ecc ≠ .double) ∧
    (let s := migState .copying 511 .reserved
     sedgeWorks s 0 = true ∧ 511 < 512 ∧ (mget s (3 * 1024 + 1022)).ecc ≠ .double ∧ (mget s (3 * 1024 + 1023)).ecc ≠ .double ∧
       marked s (1028 * 1024 + 1022) = false ∧ filtering s = false) ∧
    ((sedge (migState .copying 512 .reserved) 0).mig =
      some { index := 0, dest := 1028, stage := .copying, pair := 512, byMove := false, post := 0 }) ∧
    (let s := migState .made 512 .reserved
     (sedge s 0).waitMove = none ∧ poolDie s 1028 = some 1 ∧ poolDie s 3 = some 0) :=
  ⟨mig_canonical, by decide +kernel⟩

/-- A Waiting context of compartment 5 on a busy core 0, and core 17 idle with a set of that compartment. -/
def taskState : State :=
  let s := setCore (sedgeSt id) 0 { Core.init with
    ctxs := [(1, { Ctx.init with st := .waiting, psw := fval 29 22 5 })], multiLast := 2000000000 }
  setCore s 17 { Core.init with setA := { openSet with words := [(2, 5)] }, readyLast := false }

theorem witness_TaskMigrationAndSedgePage :
    (sedgeWorks taskState 0 = true ∧ taskHeat taskState 0 0 17 = true ∧ taskEligible taskState 0 1 17 true = true) ∧
    (let s := setSedge taskState 0 { sedge taskState 0 with tmig := some { src := 0, ctx := 1, dst := 17, dctx := 3, byCmd := false } }
     sedgeWorks s 0 = true ∧ taskEligible s 0 1 17 true = true ∧ (ctxAt s 17 3).st = .empty ∧ (ctxAt s 0 1).fsp.tag = false ∧
       readySetOf (coreAt s 17) (ctxAt s 0 1).comp = some false ∧ (ctxAt s 0 1).proofLoad = none) ∧
    (unitWorks taskState (sedgePg 0) = true ∧ (∀ k, k < taskState.part.dies → locked taskState (sedgePg k) = false) ∧
      compclsRefused taskState 6 (fval 35 34 2) = false ∧ compclsRefused taskState 5 (fval 33 33 1) = true) := by decide +kernel

/-- A sealed image of 768 words at 8192 that SELF names, with a load of it queued for set B. -/
def imageState : State :=
  { withCore (fun c => { c with rsload := [(true, 8192)] }) with
    mem := [(8192, { data := (mkCap 0xd80 59 8192 768 8192).hi, tag := true, ecc := .good }),
      (8193, { data := (mkCap 0xd80 59 8192 768 8192).lo, tag := true, ecc := .good })] }

/-- RSIDX written, and buffered stores of some epochs. -/
def rsidx (w : Word) (es : List (BitVec 16)) : State :=
  withRegs (withCore (fun c => { c with sb := es.map (fun e => { sbWord with stamp := { coreStamp with epoch := e } }) })) [(mgatePg 0, 24, w)]

theorem witness_GateConfiguration :
    (unitWorks runState (mgatePg 0) = true ∧ locked runState (mgatePg 0) = false ∧ setInUse (coreAt runState 0) true = false ∧
      setLoading (coreAt runState 0) true = false ∧ setInUse (coreAt runState 0) false = true ∧ (coreAt runState 0).rsload = []) ∧
    (let self : Cap := { hi := (mget imageState 8192).data, lo := (mget imageState 8193).data,
                         tag := (mget imageState 8192).tag && (mget imageState 8193).tag }
     (coreAt imageState 0).rsload = [(true, 8192)] ∧ bit (rget imageState (corePg 0) 176) 35 = false ∧ filtering imageState = false ∧
       self.tag = true ∧ self.otype = 59 ∧ self.base = 8192 ∧ self.top = 8192 + 768) ∧
    (∀ k, k < 768 → memReach imageState (8192 + k) = .ok ∧ (mget imageState (8192 + k)).ecc ≠ .double) ∧
    (mget (withCore (fun c => { c with rsload := [(true, 8192)] })) 8192).tag = false ∧
    (let c := coreAt (withCore (fun c => { c with setB := { openSet with st := .open } })) 0
     (c.set true).st = .open ∧ commitFault (c.set true) (List.range 768) allWindows = none) ∧
    ((commitFault ({ openSet with st := .open, fill := ~~~0 } : RuleSet) (List.range 768) allWindows).isSome = true) ∧
    ((coreAt runState 0).set true).st ≠ .open ∧
    (let s := rsidx (fval 35 35 1 ||| 2) []
     bit (rget s (mgatePg 0) 24) 35 = true ∧ fld (rget s (mgatePg 0) 24) 9 0 = 2 ∧ setInUse (coreAt s 0) true = false) ∧
    (let s := rsidx 767 []
     fld (rget s (mgatePg 0) 24) 9 0 = 767 ∧ (coreAt s 0).epochs.length < 4 ∧ setInUse (coreAt s 0) false = true) ∧
    ((coreAt (rsidx 767 [1, 2, 3, 4]) 0).epochs.length = 4 ∧
      commitFault (((coreAt runState 0).set false).setWord 767 0) [767] ((slotsOfWord 767).flatMap (fun sl =>
        if sl < 130 then (List.range 4).map (fun w => (sl, w)) else [])) = none) ∧
    (fld (rget (rsidx 2 []) (mgatePg 0) 24) 9 0 = 2 ∧ setInUse (coreAt (rsidx 2 []) 0) false = true) ∧
    (fld (rget (rsidx 1 []) (mgatePg 0) 24) 9 0 < 2 ∧ 768 ≤ fld (rget (rsidx 768 []) (mgatePg 0) 24) 9 0) ∧
    (unitWorks runState (gatePg 0) = true ∧ locked runState (gatePg 0) = false ∧ unitWorks runState (gatePg 159) = true ∧
      locked runState (gatePg 159) = false ∧ locked (withRegs runState [(gatePg 0, 10, 1)]) (gatePg 0) = true) ∧
    (unitWorks runState (pkgPg 0) = true ∧ anyOutstanding runState = false ∧ runState.safety ≠ .boot ∧ runState.safety ≠ .proof ∧
      proofState.safety = .proof ∧ anyOutstanding { sbState with safety := .proof } = true) := by decide +kernel

/-- A descriptor that copies four words from 4096 to 4100. -/
def aDesc : DmaDesc := { comp := 0, priv := 0, src := dataCap 4096, dst := dataCap 4100, count := 4, copyCaps := false }

def dmaB (k : Kind) (a : Nat) : Bool :=
  (memReach runState a == .ok) && targetOk runState (dmaStamp runState 0 aDesc false) a k &&
  (match slotOf runState a with
   | some sl => (masterCheck ((coreAt runState 0).set false) sl a k 0 false).isNone
   | none => true)

theorem dma_of {k : Kind} {a : Nat} (h : dmaB k a = true) :
    memReach runState a = .ok ∧ targetOk runState (dmaStamp runState 0 aDesc false) a k = true ∧
    ∀ slot, slotOf runState a = some slot → masterChecks runState a = true →
      masterCheck ((coreAt runState 0).set false) slot a k aDesc.priv.toNat false = none := by
  simp only [dmaB, Bool.and_eq_true, beq_iff_eq] at h
  refine ⟨h.1.1, h.1.2, fun slot hs _ => ?_⟩
  have h2 := h.2
  rw [hs] at h2
  exact Option.isNone_iff_eq_none.mp h2

theorem witness_BlockDma :
    unitWorks runState (dmaPg 0) = true ∧ (runState.safety ≠ .mire ∧ runState.safety ≠ .boot ∧
      grantNow runState 0 (coreLive runState) (waitingFrom .dma ((coreAt runState 0).dmaAt.getD 0)) 1 = true ∧
      (let s := { runState with slots := [(0, { tick := 0, i := 2, d := 2, lent := 0 })] }
       grantNow s 0 (coreLive s) (waitingFrom .dma 0) 1 = false)) ∧
    bit (rget runState (corePg 0) 176) 35 = false ∧ readySetOf (coreAt runState 0) aDesc.comp.toNat = some false ∧
    aDesc.copyCaps = false ∧ capCheck aDesc.src (4096 : Nat) 4 [.load] = .ok () ∧ capCheck aDesc.dst (4100 : Nat) 4 [.store] = .ok () ∧
    (∀ a, 4096 ≤ a → a < 4096 + 8 → dmaB .load a = true ∧ dmaB .store a = true ∧ (mget runState a).ecc ≠ .double ∧
      marked runState a = false) := by
  refine ⟨?_, ?_, ?_, ?_, ?_, ok_of ?_, ok_of ?_, range_of 4096 8 (fun a => dmaB .load a && dmaB .store a &&
    decide ((mget runState a).ecc ≠ .double) && !marked runState a) (fun a h => ?_) ?_⟩
  case refine_8 => simpa [Bool.and_eq_true, and_assoc] using h
  all_goals decide +kernel

/-! ## Witnesses: references, track time, Reed -/

/-- Reference 0 with a source, LOCKN 2 and HOLDMAX 50, in a state of its own, at 12,000,000 fabric cycles after reset. -/
def phState (src : Nat) (r : Ref) : State :=
  setRef (withRegs { runState with ticks := 12000000 } [(phrefPg, 16, fval 35 33 src ||| fval 13 8 2 ||| fval 7 0 50)]) 0 r

/-- A reference of 50 Hz in a state, with its last crossing at a tick. -/
def ref50 (x : RefState) (last : Nat) : Ref := { Ref.init with st := x, period := 6000000, lastCross := some last }

theorem witness_PhaseReferences :
    unitWorks (phState 1 (ref50 .locked 0)) phrefPg = true ∧
    (refSrc (phState 1 (ref50 .lost 0)) 0 = 1 ∧
      10 * 2 ^ fld (rget (phState 1 (ref50 .lost 0)) phrefPg 16) 15 14 < (11#12).toNat ∧
      (88#24).toNat + 12 ≤ (phState 1 (ref50 .lost 0)).ticks ∧
      11999900 = (phState 1 (ref50 .lost 0)).ticks - (88#24).toNat - 12) ∧
    (10#12).toNat ≤ 10 * 2 ^ fld (rget (phState 1 (ref50 .lost 0)) phrefPg 16) 15 14 ∧
    (refSrc (phState 2 { ref50 .lost 0 with due := some 11999900 }) 0 = 2 ∧
      (ref (phState 2 { ref50 .lost 0 with due := some 11999900 }) 0).due = some 11999900) ∧
    (let s := phState 1 { ref50 .acquire 5999900 with periods := [6000000] }
     (ref s 0).lastCross.isSome = true ∧ periodInRange (11999900 - 5999900) = true ∧ locksNow (lockN s 0) [6000000, 6000000] = true) ∧
    (let s := phState 1 (ref50 .acquire 5999900)
     periodInRange (11999900 - 5999900) = true ∧ locksNow (lockN s 0) [6000000] = false) ∧
    periodInRange (11999900 - 9999900) = false ∧
    (periodInRange 6120000 = true ∧ 50 * (6120000 - 6000000) ≤ 6000000 ∧ 50 * (6000000 - 6120000) ≤ 6000000) ∧
    6000000 < 50 * (6120001 - 6000000) ∧
    (let r : Ref := ref50 .holdover 5999900;
     (-(2 ^ 21 : Int)) ≤ phaseError r 0 ∧ phaseError r 0 ≤ 2 ^ 21) ∧
    (let r := { ref50 .holdover 5999900 with stamp := BitVec.ofNat 36 (2 ^ 21 + 1) }
     ¬ (phaseError r 0 ≤ 2 ^ 21)) ∧
    (let s := phState 1 (ref50 .locked 4500000)
     refSrc s 0 = 1 ∧ (ref s 0).st = .locked ∧ (ref s 0).lastCross = some 4500000 ∧ 5 * (ref s 0).period ≤ 4 * (s.ticks - 4500000)) ∧
    (let s := { phState 1 (ref50 .holdover 0) with ticks := 300000000 }
     (ref s 0).st = .holdover ∧ (ref s 0).lastCross = some 0 ∧ holdMax s 0 * (ref s 0).period ≤ s.ticks - 0 ∧ refSrc s 0 ≠ 4) ∧
    (locked (phState 1 (ref50 .locked 0)) phrefPg = false ∧ fld (0 : Word) 35 33 = 0) ∧
    (let s := phState 0 Ref.init
     fld (fval 35 33 2 : Word) 35 33 = 2 ∧ (ref s 0).st = .off ∧ refcfgRefused s 0 (fval 35 33 2) = false) ∧
    refcfgRefused (phState 1 (ref50 .locked 0)) 0 (fval 35 33 2) = true ∧
    (refSrc (phState 3 Ref.init) 0 = 3 ∧ (ref (phState 3 Ref.init) 0).st = .off) := by decide +kernel

/-- Track time that software may step, with STEP_LO staged. -/
def stepState : State := withRegs { runState with tt := 1000 } [(ttimePg, 4, 5), (ttimePg, 19, 7)]

theorem witness_TrackTime :
    (unitWorks stepState ttimePg = true ∧ locked stepState ttimePg = false ∧ ttRole stepState ≠ 2) ∧
    (-(2 ^ 30 : Int) ≤ (0x40000000#36).toInt ∧ (0x40000000#36).toInt ≤ 2 ^ 30) ∧ 2 ^ 30 < (0x40000001#36).toInt ∧
    (bit (rget stepState ttimePg 4) 2 = true ∧ synthOn stepState = false ∧
      0 ≤ signed 72 ((rget stepState ttimePg 19).toNat + 2 ^ 36 * (0#36).toNat)) ∧
    bit (rget runState ttimePg 4) 2 = false ∧
    (let s := { stepState with stack := stackOf 2 1 3 }
     unitWorks s ttimePg = true ∧ locked s ttimePg = false ∧ ttRole s = 2) ∧
    (stepState.stack.members = 0 ∧
      (let s := { stepState with stack := stackOf 1 0 3 }
       ttRole s ≠ 2 ∧ bit (rget s ttimePg 4) 2 = true ∧ synthOn s = false ∧ ¬ (s.stack.members = 0 ∨ s.stack.members = 1))) ∧
    (let s := { stepState with sync := { Sync.init with steps := [(1000, 7), (1001, 8)] } }
     s.sync.steps = (1000, 7) :: [(1001, 8)] ∧ 1000 ≤ s.tt ∧ s.tt < 1001) := by decide +kernel

/-- Reed in Run: reference 0 locked at 50 Hz and at stamp 0, channel 0 a vital or an ordinary Lamp, compartments 1 and 2 a vital
pair on dies 0 and 1 with an event quota of 4. -/
def reedState (vital : Bool) : State :=
  setRef (withRegs runState [(chanPg 0, chanOff 0 0, fval 35 33 1 ||| fval 32 32 (bnat vital)),
    (reedPg 0, 257, fval 25 13 4), (reedPg 0, 258, fval 25 13 4), (reedPg 0, 256, fval 25 13 4),
    (sedgePg 0, 257, fval 32 32 1 ||| fval 31 24 2), (sedgePg 0, 258, fval 32 32 1 ||| fval 31 24 1 ||| fval 22 20 1),
    (sedgePg 1, 257, fval 32 32 1 ||| fval 31 24 2), (sedgePg 1, 258, fval 32 32 1 ||| fval 31 24 1 ||| fval 22 20 1)])
    0 { Ref.init with st := .locked, period := 6000000 }

/-- A stamp of compartment c from die d at Executive privilege, slotted as context 0 of core 0 of that die. -/
def compStamp (d : BitVec 3) (c : BitVec 8) : Stamp :=
  { cls := 0, die := d, core := 0, ctx := 0, comp := c, priv := 0, set := false, epoch := 0 }

/-- The words of a one-shot GDON of channel 0 on reference 0, vital or not, KEY 5, at a trigger. -/
def evCtrl (vital : Bool) (action : Nat) : Word := fval 32 32 (bnat vital) ||| fval 31 28 action
def evArg (key : Nat) : Word := fval 35 24 key
def evAt (vital : Bool) (trig : Word) (st : EvState) (comp : BitVec 8) (pdie : BitVec 3) : Event :=
  { eventOf trig 0 (evCtrl vital 1) (evArg 5) with st := st, comp := comp, pdie := pdie }

/-- Reed of die 0 of a state changed. -/
def withReed (s : State) (f : Reed → Reed) : State := setReed s 0 (f (reed s 0))

/-- The slot of the stamp with its three words staged. -/
def stagedSlot (d : BitVec 3) (vital : Bool) : Slot :=
  { die := d, core := 0, ctx := 0, w0 := some 21000, w1 := some 0, w2 := some (evCtrl vital 1), result := none, last := 0 }

/-- Staged words, and an entry of the table. -/
def insState (d : BitVec 3) (vital : Bool) (ev : KMap Event) : State :=
  withReed (reedState vital) (fun r => { r with slots := [(0, some (stagedSlot d vital))], ev := ev })

def insChecks (s : State) (st : Stamp) (vital : Bool) : Bool :=
  let e := eventOf 21000 0 (evCtrl vital 1) (evArg 5)
  let old := (reed s 0).slotAt 0 st
  unitWorks s (diePg 0 5) && decide ((reed s 0).slotFor st = some 0) &&
  decide (old.w0 = some 21000 ∧ old.w1 = some 0 ∧ old.w2 = some (evCtrl vital 1)) && decide (s.safety = .run) &&
  decide ((ref s e.refNo).st = .locked) && (e.vital == vital) && !badWords s 0 e &&
  decide (7500 ≤ stampTicks s e.refNo (stampDiff e.trig (refNow s e.refNo)) ∧ stampDiff e.trig (refNow s e.refNo) ≤ 2047 * 2 ^ 24) &&
  decide (e.count = 0 ∧ e.period = 0) && !keyHeld s 0 st.comp.toNat e && !vitalRefused s 0 st e &&
  (reed s 0).ev.all (fun q => !decide (q.2.key = e.key) || !discardDue s 0 q.2) && (reed s 0).freeIndex.isSome

theorem witness_EventInsertion :
    (insChecks (insState 0 false []) (compStamp 0 0) false = true ∧ (reed (insState 0 false []) 0).freeIndex = some 0 ∧
      (reed (insState 0 false []) 0).used 0 ≠ rfld (insState 0 false []) (reedPg 0) 256 25 13) ∧
    ¬ ((ref (insState 0 false []) (eventOf 21000 0 (fval 35 33 1) (evArg 5)).refNo).st = .locked ∨
      (ref (insState 0 false []) (eventOf 21000 0 (fval 35 33 1) (evArg 5)).refNo).st = .holdover) ∧
    (insChecks (insState 0 true []) (compStamp 0 1) true = true ∧ (reed (insState 0 true []) 0).freeIndex = some 0 ∧
      pairPending (insState 0 true []) 0 1 (eventOf 21000 0 (evCtrl true 1) (evArg 5)) = none ∧
      (reed (insState 0 true []) 0).used 1 ≠ rfld (insState 0 true []) (reedPg 0) 257 25 13) ∧
    (let p := evAt true 21000 .pending 1 0
     let s := insState 1 true [(0, p)]
     insChecks s (compStamp 1 2) true = true ∧ pairPending s 0 2 (eventOf 21000 0 (evCtrl true 1) (evArg 5)) = some (0, p) ∧
       p.sameWords (eventOf 21000 0 (evCtrl true 1) (evArg 5)) = true) ∧
    (let p := evAt true 22000 .pending 1 0
     let s := insState 1 true [(0, p)]
     insChecks s (compStamp 1 2) true = true ∧ pairPending s 0 2 (eventOf 21000 0 (evCtrl true 1) (evArg 5)) = some (0, p) ∧
       p.sameWords (eventOf 21000 0 (evCtrl true 1) (evArg 5)) = false) ∧
    (let p := evAt false 21000 .armed 0 0
     (reed (insState 0 false [(0, p)]) 0).findLive (fun x => !x.vital && decide (x.key = fld (5 : Word) 11 0) && decide (x.comp = 0)) =
       some (0, p)) ∧
    (reed (insState 0 false []) 0).findLive (fun x => !x.vital && decide (x.key = fld (5 : Word) 11 0) && decide (x.comp = 0)) = none ∧
    (slotAt (insState 0 false []) 0 0 = some (stagedSlot 0 false) ∧
      65536 ≤ ({ insState 0 false [] with ticks := 65536 } : State).ticks - (stagedSlot 0 false).last) ∧
    (let s := { insState 0 true [(0, evAt true 21000 .pending 1 0)] with ticks := 30000000 }
     let x := (reed s 0).entry 0
     unitWorks s (reedPg 0) = true ∧ x.st = .pending ∧ insWindow s 0 ≤ s.ticks - x.since ∧ x.chan < 96 ∧ 96 * 0 + x.chan < chanCount s ∧
       (chan s (96 * 0 + x.chan)).safe = false) ∧
    (let y : PendCancel := { key := 5, comp := 2, die := 1, since := 0 }
     let x := evAt true 21000 .armed 1 0
     let s := { withReed (insState 0 true [(0, x)]) (fun r => { r with cancels := [y] }) with ticks := 30000000 }
     (reed s 0).cancels.find? (fun z => decide (z.key.toNat = (5 : BitVec 12).toNat ∧ insWindow s 0 ≤ s.ticks - z.since)) = some y ∧
       (reed s 0).findLive (cancelOf s 0 y) = some (0, x)) := by decide +kernel

/-- An event of channel 0 at stamp t in a state, dispatched or not, with a reference at stamp `now` and a channel of a mode. -/
def fireState (mode : Nat) (vital : Bool) (now trig : Word) (action : Nat) (arg : Nat) (f : Event → Event) : State :=
  let s := withRegs { reedState vital with ticks := 1000 } [(chanPg 0, chanOff 0 0, fval 35 33 mode ||| fval 32 32 (bnat vital))]
  let s := setRef s 0 { Ref.init with st := .locked, period := 6000000, stamp := now }
  withReed s (fun r => { r with
    ev := [(0, f { eventOf trig 0 (evCtrl vital action) (evArg 5 ||| fval 17 0 arg) with st := .fire, dispatched := true })] })

/-- A commit held for channel 0 and KEY 5. -/
def aCommit (arg : Nat) : Commit :=
  { chan := 0, key := 5, action := 1, arg := arg, lanes := [], dissents := [], start := 0, armed := true, tick := 1 }
def withCommit (s : State) (c : Commit) : State := setVoter s 0 { voter s 0 with commits := [c] }

/-- The premises of a firing: an event at its trigger whose action the channel takes. -/
def firesB (s : State) (action : Nat) : Bool :=
  let e := (reed s 0).entry 0
  triggered s 0 0 action && chanUp s e.chan && !(chan s e.chan).safe && decide (e.count = 0) &&
  (!e.vital || (match commitFor s e.chan e with | some c => decide (c.action = e.action ∧ c.arg = e.argv) | none => false))

theorem witness_EventFiring :
    (let s := fireState 1 true 0 100 1 0 (fun e => { e with st := .armed, dispatched := false })
     let e := (reed s 0).entry 0
     reedFires s 0 = true ∧ e.st = .armed ∧ e.dispatched = false ∧ ticksAhead s e ≤ 6000 ∧
       (reed s 0).ev.any (fun p => p.2.st == .armed && !p.2.dispatched && before s p.1 p.2 0 e) = false ∧
       (ref s e.refNo).st ≠ .holdover ∧ chVital s 0 = true ∧
       (let u := setRef s 0 { Ref.init with st := .holdover, period := 6000000 }
        (ref u e.refNo).st = .holdover ∧ bit (rget u phrefPg (16 + 4 * e.refNo)) 16 = false ∧ ticksAhead u e ≤ 6000 ∧
        e.chan < 96 ∧ (chan u 0).safe = false)) ∧
    firesB (fireState 1 false 100 100 1 0 id) 1 = true ∧ firesB (withCommit (fireState 1 true 100 100 1 0 id) (aCommit 0)) 1 = true ∧
    firesB (fireState 1 false 100 100 2 0 id) 2 = true ∧ firesB (fireState 2 false (2 ^ 24) (2 ^ 24) 2 0 id) 2 = true ∧
    firesB (fireState 1 false 100 100 3 9 id) 3 = true ∧ firesB (fireState 2 false (2 ^ 24) (2 ^ 24) 4 3 id) 4 = true ∧
    firesB (fireState 2 false 100 100 4 3 id) 4 = true ∧ firesB (fireState 2 false 100 100 2 0 id) 2 = true ∧ firesB (fireState 1 false 100 100 5 0 id) 5 = true ∧
    (let s := fireState 1 false 100 100 1 0 (fun e => { e with ctrl := e.ctrl ||| fval 20 9 4095, period := 16777216 })
     let e := (reed s 0).entry 0
     triggered s 0 0 1 = true ∧ e.count ≠ 0 ∧ 6000 ≤ stampTicks s e.refNo (e.period.toNat : Nat)) ∧
    (let s := setChan (fireState 1 false 100 100 1 0 id) 0 { Chan.init with safe := true }
     triggered s 0 0 1 = true ∧ (chan s 0).safe = true) ∧
    (let s := fireState 1 true 100 100 1 0 id
     triggered s 0 0 1 = true ∧ chanUp s 0 = true ∧ (chan s 0).safe = false ∧ commitFor s 0 ((reed s 0).entry 0) = none) ∧
    (let s := withCommit (fireState 1 true 100 100 1 0 id) (aCommit 1)
     triggered s 0 0 1 = true ∧ commitFor s 0 ((reed s 0).entry 0) = some (aCommit 1) ∧ (aCommit 1).arg ≠ ((reed s 0).entry 0).argv) ∧
    (let s := setChan (fireState 2 false (2 ^ 24) 0 1 0 id) 0 { Chan.init with burstOn := true, burstFrom := 0, burstLeft := 2 ^ 24 }
     clocked s = true ∧ chanUp s 0 = true ∧ (chan s 0).burstOn = true ∧
       ((chan s 0).burstLeft : Int) ≤ stampDiff (refNow s (chan s 0).burstRef) (chan s 0).burstFrom) ∧
    (let s := fireState 2 false 100 100 6 0 id
     triggered s 0 0 6 = true ∧ ((reed s 0).entry 0).count = 0 ∧ chanUp s 0 = true ∧ chMode s 0 = 2) ∧
    (let s := fireState 2 false 100 100 7 0 id
     triggered s 0 0 7 = true ∧ (reed s 0).fifo.length < 16 ∧ unitWorks s (reedPg 0) = true) ∧
    (let s := withReed runState (fun r => { r with fifo := [7, 8] })
     (reed s 0).fifo = [7, 8] ∧ (evNow s (reedPg 0) 19).toNat ≤ [(8 : Word)].length ∧
       (reed (evCount (evCount s (reedPg 0) 19) (reedPg 0) 19) 0).fifo.length ≤
         (evNow (evCount (evCount s (reedPg 0) 19) (reedPg 0) 19) (reedPg 0) 19).toNat) := by decide +kernel
/-! ## Witnesses: channels, Sluice, the vital enables -/

/-- Region 0 with channel 0 of a mode on reference 0, locked at 50 Hz, and the channel's state. -/
def chState (mode : Nat) (c : Chan) : State :=
  setChan (setRef (withRegs runState [(chanPg 0, chanOff 0 0, fval 35 33 mode ||| fval 26 26 1 ||| fval 25 18 20 ||| fval 17 17 1)])
    0 { Ref.init with st := .locked, period := 6000000, stamp := 2 ^ 24 }) 0 c

/-- The same with the sample ring of region 0 on, at word 32768 with 4 frames. -/
def ringState (mode : Nat) : State :=
  withRegs (chState mode Chan.init) [(cbkPg 0, 4, 5), (cbkPg 0, 16, 32768), (cbkPg 0, 17, fval 17 9 4)]

/-- A frame of 24 equal samples, of voltages in microvolts; and the code of a voltage. -/
def aFrame (a b : Int) : List Sample := List.replicate 24 { a := a, b := b, fb := false }
def codeAt (uv : Int) : Nat := (max 0 (min 65535 (Int.fdiv (uv * 65536) 1800000))).toNat

/-- Reference 0 on the zero crossings of channel 0. -/
def zeroState (armed : Bool) (code : Nat) : State :=
  setRef (withRegs (chState 1 Chan.init) [(phrefPg, 16, fval 35 33 2)]) 0 { Ref.init with st := .locked, armed := armed, code := code }

theorem witness_SampleFrames :
    (blockWorks (chState 1 Chan.init) 0 = true ∧ (aFrame 800000 1200000).length = 24 ∧ (block (chState 1 Chan.init) 0).testNow = false ∧
      (aFrame 800000 1200000)[0]? = some { a := 800000, b := 1200000, fb := false } ∧ (chan (chState 1 Chan.init) 0).fb = false ∧
      (chan (chState 1 { Chan.init with fb := true }) 0).fb ≠ false) ∧
    (let s := withRegs (chState 3 Chan.init) [(chanPg 0, 5, 1)]
     blockWorks s 0 = true ∧ chMode s 0 = 3 ∧ bit (rget s (chanPg 0) 5) 0 = true ∧ s.safety ≠ .mire) ∧
    (chMode (chState 1 Chan.init) 0 = 1 ∧ (ref (chState 1 Chan.init) (chRef (chState 1 Chan.init) 0)).st = .locked) ∧
    chMode (chState 2 Chan.init) 0 = 2 ∧ chMode (chState 4 Chan.init) 0 = 4 ∧
    (let s := zeroState true 32767
     refSrc s 0 = 2 ∧ rfld s phrefPg 16 31 22 = 0 ∧ (ref s 0).st ≠ .off ∧ (ref s 0).armed = true ∧ 32768 ≤ codeAt 900000) ∧ codeAt 899999 < 32768 ∧
    (ref (zeroState false 20000) 0).armed = false ∧
    (let s := ringState 1
     (enabled s (cbkPg 0) && bit (rget s (cbkPg 0) 4) 2) = true ∧ rfld s (cbkPg 0) 16 29 0 = 32768 ∧ rfld s (cbkPg 0) 17 17 9 = 4) ∧
    (∀ i, i < 24 → memReach (ringState 1) (32768 + i) = .ok ∧ marked (ringState 1) (32768 + i) = false ∧ 32768 + i < 2 ^ 30) ∧
    (let s := setBlock (chState 1 Chan.init) 0 { block (chState 1 Chan.init) 0 with testPending := true, testNow := true }
     blockWorks s 0 = true ∧ (block s 0).testNow = true ∧ (∀ x ∈ (aFrame 451800 0).take 12, 16448 < codeAt x.a) ∧
       (∀ i, i < 24 → ((aFrame 450000 450000).take 12 ++ (aFrame 1350000 1350000).take 12)[i]?.map (fun x => x.a) =
         some (if i < 12 then 450000 else 1350000))) := by decide +kernel

/-- A Lamp channel in its cycle 0 while its reference is in cycle 1: lit or dark, with the sums of 10 samples. -/
def cycleChan (lit : Bool) (sum : Nat) : Chan := { Chan.init with lit := lit, cycAt := some 0, nSamp := 10, sumA := sum, sumB := 0 }

/-- Lamp bounds: 100 to 2,000 lit, below 50 dark. -/
def boundState (c : Chan) : State := withRegs (chState 1 c) [(chanPg 0, chanOff 0 4, fval 35 18 100 ||| fval 17 0 2000),
  (chanPg 0, chanOff 0 5, fval 35 18 50)]

/-- An Axle channel that is supervised for 1 ms. -/
def axleState (c : Chan) : State :=
  { withRegs (chState 3 c) [(chanPg 0, chanOff 0 7, fval 35 18 1000)] with ticks := 300001 }

theorem witness_ChannelSupervision :
    (let s := boundState (cycleChan true 90000)
     0 < chanCount s ∧ blockWorks s 0 = true ∧ (ref s (chRef s 0)).st = .locked ∧ (chan s 0).cycAt = some 0 ∧
       0 ≠ (refNow s (chRef s 0)).toNat / 2 ^ 24 ∧ chMode s 0 = 1 ∧ (chan s 0).changed = false ∧ (chan s 0).skip = 0 ∧
       (chan s 0).nSamp ≠ 0 ∧ 94 * 94 ≤ (chan s 0).sumA / (chan s 0).nSamp ∧ (chan s 0).sumA / (chan s 0).nSamp < 95 * 95 ∧
       0 * 0 ≤ (chan s 0).sumB / (chan s 0).nSamp ∧ (chan s 0).sumB / (chan s 0).nSamp < 1 * 1 ∧ bit (chcfg s 0) 17 = true ∧
       (chan s 0).lit = true ∧ ¬ (100 ≤ 94) ∧ (chan s 0).safe = false) ∧
    (let s := boundState (cycleChan true 9000000)
     948 * 948 ≤ (chan s 0).sumA / (chan s 0).nSamp ∧ (chan s 0).sumA / (chan s 0).nSamp < 949 * 949 ∧
       fld (chanReg s 0 4) 35 18 ≤ 948 ∧ 948 ≤ fld (chanReg s 0 4) 17 0) ∧
    (let s := boundState (cycleChan false 1000)
     (chan s 0).lit = false ∧ 10 * 10 ≤ (chan s 0).sumA / (chan s 0).nSamp ∧ (chan s 0).sumA / (chan s 0).nSamp < 11 * 11 ∧
       10 ≤ fld (chanReg s 0 5) 35 18) ∧
    (let s := withRegs (boundState (cycleChan true 90000)) [(chanPg 0, chanOff 0 0, fval 35 33 1)]
     bit (chcfg s 0) 17 = false) ∧
    (chan (boundState { cycleChan true 0 with changed := true }) 0).changed = true ∧
    (chan (boundState { cycleChan true 0 with skip := 1 }) 0).skip ≠ 0 ∧
    (let s := chState 2 { Chan.init with cycAt := some 0 }
     chMode s 0 = 2 ∧ (chan s 0).cycAt = some 0 ∧ 0 ≠ (refNow s (chRef s 0)).toNat / 2 ^ 24) ∧
    (let s := chState 2 { Chan.init with cycAt := some 1 }
     (chan s 0).cycAt = some ((refNow s (chRef s 0)).toNat / 2 ^ 24)) ∧
    (let s := { chState 1 Chan.init with ticks := 6001 }
     (chan s 0).safe = false ∧ bit (chcfg s 0) 26 = true ∧ (true != bit (chcfg s 0) 27) ≠ (chan s 0).gd ∧
       max 1 (fld (chcfg s 0) 25 18) * 300 < s.ticks - max (chan s 0).fbSince (s.ticks - (6001#32).toNat)) ∧
    (let s := { chState 1 Chan.init with ticks := 6001 }
     ¬ max 1 (fld (chcfg s 0) 25 18) * 300 < s.ticks - max (chan s 0).fbSince (s.ticks - (6000#32).toNat)) ∧
    (let s := chState 1 Chan.init
     (ref s (chRef s 0)).st = .locked ∧ (chan s 0).cycAt = none) ∧
    (let s := axleState { Chan.init with supA := some 0 }
     chMode s 0 = 3 ∧ (chan s 0).safe = false ∧ (chan s 0).supA = some 0 ∧ fld (chanReg s 0 7) 35 18 * 300 < s.ticks - 0) ∧
    (let y := chan (axleState Chan.init) 0
     y.supA = none ∧ y.supB = none ∧ y.supC = none ∧ y.dampA = none ∧ y.dampB = none) := by decide +kernel

/-- A burst of 3 cycles that waits for a stamp of reference 0. -/
def armAt (x : Nat) : Armed := { ref := 0, idx := 0, at_ := x, arg := 3 }

/-- A channel whose drive has been still for 100 ns. -/
def calm (mode : Nat) (c : Chan) : State := { chState mode c with ticks := 30 }

theorem witness_ChannelControlAndDrive :
    (let s := calm 4 Chan.init
     (chan s 0).edges = 0 ∧ 30 ≤ s.ticks - (chan s 0).gdSince ∧ s.safety ≠ .boot ∧ s.ticks - 1 - (chan s 0).gdSince < 30) ∧
    (let s := calm 1 Chan.init
     bit (fval 35 33 1 : Word) 26 ≠ bit (chcfg s 0) 26 ∧ fld (fval 30 28 1 : Word) 30 28 ≠ chRef s 0) ∧
    (let s := calm 4 Chan.init
     0 < chanCount s ∧ blockWorks s 0 = true ∧ (chan s 0).safe = false ∧ chVital s 0 = false ∧ chMode s 0 = 4 ∧
       65535 ≤ (chan (calm 4 { Chan.init with level := 65535 }) 0).level ∧ locked s (chanPg 0) = false ∧
       chcfgAllowed s 0 (fval 35 33 1) = true ∧ 4 < fld (fval 35 33 5 : Word) 35 33) ∧
    (let s := calm 4 { Chan.init with safe := true, cause := 9 }
     (chan s 0).safe = true ∧ (chan s 0).gd = false ∧ conducts s 0 = false ∧ s.safety ≠ .mire) ∧
    (chan (calm 4 { Chan.init with safe := true, gd := true }) 0).gd = true ∧
    locked (withRegs (calm 4 Chan.init) [(chanPg 0, 10, 1)]) (chanPg 0) = true ∧
    ((0#2).toNat < 3 ∧ unitWorks (calm 4 Chan.init) (regionPg 0 33) = true ∧ locked (calm 4 Chan.init) (regionPg 0 33) = false) := by decide +kernel

theorem witness_ChannelControlAndDrive_drive :
    (let s := calm 1 { Chan.init with lit := true, level := 32768 }
     (chan s 0).edges = 0 ∧ 30 ≤ s.ticks - (chan s 0).gdSince ∧
       chMode s 0 = 1 ∧ chLed s 0 = false ∧ (chan s 0).lit = true ∧ (ref s (chRef s 0)).st = .locked ∧ (chan s 0).level < 65535) ∧
    (let s := calm 2 { Chan.init with burstArm := [armAt (2 ^ 24)] }
     (chan s 0).edges = 0 ∧ 30 ≤ s.ticks - (chan s 0).gdSince ∧
       chMode s 0 = 2 ∧ (chan s 0).burstArm = [armAt (2 ^ 24)] ∧ (chan s 0).offArm = [] ∧
       0 ≤ stampDiff (refNow s (armAt (2 ^ 24)).ref) (BitVec.ofNat 36 (armAt (2 ^ 24)).at_)) ∧
    (let s := calm 2 { Chan.init with burstArm := [armAt (2 ^ 25)] }
     (chan s 0).edges = 0 ∧ 30 ≤ s.ticks - (chan s 0).gdSince ∧
       ¬ 0 ≤ stampDiff (refNow s (armAt (2 ^ 25)).ref) (BitVec.ofNat 36 (armAt (2 ^ 25)).at_) ∧ (chan s 0).burstOn = false) ∧
    (let s := calm 2 { Chan.init with offArm := [armAt (2 ^ 24)], burstOn := true }
     (chan s 0).edges = 0 ∧ 30 ≤ s.ticks - (chan s 0).gdSince ∧
       (chan s 0).burstArm = [] ∧ (chan s 0).offArm = [armAt (2 ^ 24)] ∧
       0 ≤ stampDiff (refNow s (armAt (2 ^ 24)).ref) (BitVec.ofNat 36 (armAt (2 ^ 24)).at_)) ∧
    (let s := withRegs (calm 3 Chan.init) [(chanPg 0, 5, 1)]
     (chan s 0).edges = 0 ∧ 30 ≤ s.ticks - (chan s 0).gdSince ∧
       chMode s 0 = 3 ∧ bit (rget s (chanPg 0) 5) 0 = true) ∧ chMode (calm 0 Chan.init) 0 = 0 ∧
    (let s := setBlock runState 0 { block runState 0 with axfifo := [(3, 4)] }
     unitWorks s (cbkPg 0) = true ∧ (block s 0).axfifo = [(3, 4)]) ∧ (block runState 0).axfifo = [] ∧
    (unitWorks proofState (cbkPg 0) = true ∧ locked proofState (cbkPg 0) = false ∧ proofState.safety = .proof) ∧
    (let s := withRegs runState [(cbkPg 0, 3, 1), (cbkPg 0, 16, 32768), (cbkPg 0, 17, fval 17 9 4)]
     unitWorks s (cbkPg 0) = true ∧ locked s (cbkPg 0) = false ∧ (dom s (domOfPage (cbkPg 0))).drain = none ∧
       bit (rget s (cbkPg 0) 3) 0 = true ∧ 1 ≤ rfld s (cbkPg 0) 17 17 9 ∧ 32768 / 65536 = (32768 + 24 * 4 - 1) / 65536 ∧ 32768 / 262144 = 0) ∧
    rfld (withRegs runState [(cbkPg 0, 3, 1)]) (cbkPg 0) 17 17 9 = 0 := by decide +kernel

/-- The voter of region 0 enabled with lanes A and B bound to compartments 1 and 2, channel 0 a vital Lamp, CWIN 1 ms, CHOLD 2 ms.
-/
def sluiceState (f : Voter → Voter) : State :=
  let s := withRegs (reedState true) [(sluicePg 0, 4, 1), (sluicePg 0, 16, fval 24 14 1000 ||| fval 13 0 2),
    (sluicePg 0, 17, fval 35 35 1 ||| fval 34 27 1), (sluicePg 0, 18, fval 35 35 1 ||| fval 34 27 2)]
  setVoter s 0 (f (voter s 0))

/-- A proposal slot of the stamps below with ARG staged. -/
def argSlot (d : BitVec 3) (arg : Option Nat) : PSlot := { die := d, core := 0, ctx := 0, arg := arg, result := none, last := 0 }

/-- PCMD for GDON of channel 0 with KEY 5. -/
def propWord : Word := fval 31 28 1 ||| 5

/-- A proposal of lane A for it, and a window with it. -/
def propA (release : Bool) (arg : Nat) : Proposal := { lane := 0, die := 0, release := release, action := 1, arg := arg }
def winOf (ps : List Proposal) : Window := { chan := 0, key := 5, t0 := 0, props := ps }

/-- Lane l's submission premises: the unit reachable, a slot for the stamp, the gate open, the lane bound to the compartment. -/
def laneB (s : State) (st : Stamp) (l : Nat) : Bool :=
  clocked s && (pageReach s (propPg 0 l) == .ok) && decide (unitOf s.part (propPg 0 l) = some .prop) &&
  decide ((voter s 0).slotFor l st = some (8 * l)) && targetOk s st (regAddr (propPg 0 l) 16) .store &&
  targetOk s st (regAddr (propPg 0 l) 17) .store && targetOk s st (regAddr (propPg 0 l) 18) .load &&
  enabled s (sluicePg 0) && laneBound s 0 l && decide (st.comp.toNat = laneComp s 0 l) && chVital s 0

theorem witness_SluiceSubmissions :
    (let s := sluiceState (fun v => { v with slots := [(0, some (argSlot 0 (some 0)))] })
     let z := (voter s 0).slotAt 0 (compStamp 0 1)
     laneB s (compStamp 0 1) 0 = true ∧ z.arg = some 0 ∧ (voter s 0).window 0 5 = none ∧ (voter s 0).commit 0 5 = none ∧
       fld propWord 27 23 = 0 ∧ fld propWord 11 0 = 5 ∧ actionAllowed (chMode s 0) (fld propWord 31 28) = true ∧ (chan s 0).safe = false ∧
       (voter s 0).freeTok 0 ≠ 0 ∧ (voter s 0).count 0 < 4 ∧ (0 : Nat) < 3) ∧
    (let s := withRegs (sluiceState id) [(sluicePg 0, 4, 0)]
     enabled s (sluicePg 0) = false) ∧
    (24 ≤ fld (fval 27 23 24 : Word) 27 23 ∧ actionAllowed 1 4 = false) ∧
    (let s := withRegs (sluiceState id) [(chanPg 0, chanOff 0 0, fval 35 33 1)]
     chVital s 0 = false) ∧
    (let s := setChan (sluiceState (fun v => { v with slots := [(0, some (argSlot 0 (some 0)))] })) 0 { Chan.init with safe := true }
     laneB s (compStamp 0 1) 0 = true ∧ (chan s 0).safe = true ∧ (voter s 0).freeTok 0 ≠ 0 ∧ (voter s 0).count 0 < 4) ∧
    (let s := sluiceState (fun v => { v with slots := [(8, some (argSlot 1 (some 0)))], wins := [winOf [propA false 0]] })
     laneB s (compStamp 1 2) 1 = true ∧ ((voter s 0).slotAt 8 (compStamp 1 2)).arg = some 0 ∧
       (voter s 0).window 0 5 = some (winOf [propA false 0]) ∧ s.tt < 0 + cwin s 0 ∧ (chan s 0).safe = false ∧
       (voter s 0).commit 0 5 = none ∧ (voter s 0).freeTok 1 ≠ 0 ∧ (propA false 0).lane ≠ 1 ∧ (propA false 0).die ≠ 1 ∧
       bit (rget s (propPg 0 0) 21) 35 = false ∧ bit (rget s (propPg 0 1) 21) 35 = false ∧ bit (rget s (propPg 0 2) 21) 35 = false ∧
       v3On s 0 = false ∧ (propA false 1).arg ≠ 0) ∧
    (let s := withRegs (sluiceState (fun v => { v with slots := [(8, some (argSlot 1 (some 0)))], wins := [winOf [propA false 0]] }))
       [(propPg 0 0, 21, fval 35 35 1), (propPg 0 0, 19, 40960)]
     laneBound s 0 0 = true ∧ bit (rget s (propPg 0 0) 21) 35 = true ∧ bit (rget s (propPg 0 1) 21) 35 = false ∧
       bit (rget s (propPg 0 2) 21) 35 = false ∧ fld (rget s (propPg 0 0) 19) 29 0 = 40960 ∧
       (∀ q, q < 8 → memReach s (40960 + q) = .ok ∧ marked s (40960 + q) = false ∧ 40960 + q < 2 ^ 30)) ∧
    (let s := setChan (sluiceState (fun v => { v with slots := [(8, some (argSlot 1 (some 0)))], wins := [winOf [propA true 0]] })) 0
       { Chan.init with safe := true }
     laneB s (compStamp 1 2) 1 = true ∧ (chan s 0).safe = true ∧ (chan s 0).gd = false ∧ conducts s 0 = false ∧ s.safety ≠ .mire ∧
       (voter s 0).freeTok 1 ≠ 0 ∧ (propA true 0).release = true) ∧
    (let s := sluiceState (fun v => { v with slots := [(0, some { argSlot 0 none with result := some 1 })], wins := [winOf [propA false 0]] })
     laneB s (compStamp 0 1) 0 = true ∧ (voter s 0).slotOf 0 (compStamp 0 1) = some 0 ∧
       ((voter s 0).slotAt 0 (compStamp 0 1)).arg = none) ∧
    ((voter (sluiceState id) 0).slotOf 0 (compStamp 0 1) = none ∧
      ((0 : Nat), (compStamp 0 1).die, (compStamp 0 1).core, (compStamp 0 1).ctx) ∉ (voter (sluiceState id) 0).noSlot) ∧
    (let s := { sluiceState (fun v => { v with slots := [(0, some (argSlot 0 none))] }) with ticks := 65536 }
     pslotAt s 0 (8 * 0 + (0#3).toNat) = some (argSlot 0 none) ∧ 65536 ≤ s.ticks - (argSlot 0 none).last) := by
  refine ⟨?_, ?_, ?_, ?_, ?_, ?_, ?_, ?_, ?_, ?_, ?_⟩ <;> decide +kernel

/-- A commit without its event. -/
def loneCommit (armed : Bool) : Commit :=
  { chan := 0, key := 5, action := 1, arg := 0, lanes := [(0, 0), (1, 1)], dissents := [], start := 0, armed := armed, tick := 1 }

theorem witness_SluiceTimeAndConfiguration :
    (let s := { sluiceState (fun v => { v with wins := [winOf [propA false 0]] }) with tt := 1000000 }
     unitWorks s (sluicePg 0) = true ∧ (voter s 0).window 0 5 = some (winOf [propA false 0]) ∧ 0 + cwin s 0 ≤ s.tt ∧
       (winOf [propA false 0]).props.filter (fun p => !p.release) ≠ [] ∧ (chan s 0).safe = false) ∧
    (winOf [propA true 0]).props.filter (fun p => !p.release) = [] ∧
    (let s := { sluiceState id with tt := 999999 }
     s.tt < 0 + cwin s 0) ∧
    (let s := sluiceState (fun v => { v with commits := [loneCommit true] })
     (voter s 0).commit 0 5 = some (loneCommit true) ∧ (loneCommit true).armed = true ∧ (reed s 0).ev = []) ∧
    (let s := { sluiceState (fun v => { v with commits := [loneCommit false] }) with tt := 2000000 }
     (voter s 0).commit 0 5 = some (loneCommit false) ∧ (loneCommit false).armed = false ∧ 0 + chold s 0 ≤ s.tt) ∧
    (let s := withRegs (sluiceState id) [(sluicePg 0, 4, 0), (sluicePg 0, 3, 1)]
     unitWorks s (sluicePg 0) = true ∧ locked s (sluicePg 0) = false ∧ (dom s (domOfPage (sluicePg 0))).drain = none ∧
       bit (rget s (sluicePg 0) 3) 0 = true ∧ laneOk s 0 (v3On s 0) = true ∧ mayBind { s with safety := .proof } 0 = true ∧
       mayBind s 0 = false) ∧
    laneOk runState 0 (v3On runState 0) = false := by decide +kernel

/-- Generator 0 for compartments 1 and 2 with a window of 1 ms, in a state. -/
def venState (t : Nat) (x : Ven) : State :=
  setVen { withRegs (reedState true) [(dsvPg 0, 64, fval 33 26 1 ||| fval 25 18 2 ||| 1000)] with ticks := t } 0 x

/-- A running generator. -/
def runVen : Ven := { Ven.init with running := true, next := 7 }

theorem witness_VitalEnables :
    (let s := venState 0 Ven.init
     unitWorks s (dsvPg 0) = true ∧ clsVital (compcls s 0 1) = true ∧ clsVital (compcls s 0 2) = true ∧ pairOf s 0 1 2 = true ∧
       fld (rget s (dsvPg 0) 64) 33 26 = 1 ∧ fld (rget s (dsvPg 0) 64) 25 18 = 2 ∧ fld (rget s (dsvPg 0) 64) 17 0 = 1000 ∧
       (ven s 0).running = false ∧ s.safety = .run) ∧
    fld (rget (withRegs runState [(dsvPg 0, 64, 99)]) (dsvPg 0) 64) 17 0 < 100 ∧
    (let s := venState 299999 runVen
     (ven s 0).running = true ∧ ¬ ((ven s 0).winStart + fld (rget s (dsvPg 0) 64) 17 0 * 300 ≤ s.ticks) ∧ (7#18) = (ven s 0).next ∧
       (8#18) ≠ (ven s 0).next ∧ (1 : Nat) ≠ 2) ∧
    (let s := venState 300000 { runVen with kick0 := 1, kick1 := 2 }
     (ven s 0).running = true ∧ (ven s 0).winStart + fld (rget s (dsvPg 0) 64) 17 0 * 300 ≤ s.ticks ∧ (ven s 0).kick0.getLsbD 0 = true ∧
       (ven s 0).kick1.getLsbD 1 = true) ∧
    (ven (venState 300000 runVen) 0).kick0 = 0 ∧
    (let s := venState 300000 { runVen with running := false, why := 2, stopAt := some 300000 }
     (ven s 0).running = false ∧ (ven s 0).stopAt = some s.ticks ∧ (ven s 0).why < 3 ∧ (8#18) ≠ (ven s 0).next) ∧
    ((ven (venState 300000 { runVen with running := false, why := 6, stopAt := some 300000 }) 0).why = 6 ∧
      (ven (venState 300000 Ven.init) 0).stopAt ≠ some 300000) := by decide +kernel
/-! ## Witnesses: ports -/

def portB (s : State) (p : Port) (k : Kind) (q : Nat) : Bool :=
  inWindow s p q && (memReach s q == .ok) && targetOk s (portStamp s p) q k && decide ((mget s q).ecc = .good) && !marked s q

theorem port_of {s : State} {p : Port} {a n : Nat} {k : Kind}
    (hb : (List.range n).all (fun j => portB s p k (a + j)) = true) : PortOk s p a n k := by
  refine range_of a n (portB s p k) (fun q h => ?_) hb
  simp only [portB, Bool.and_eq_true, beq_iff_eq, decide_eq_true_eq, Bool.not_eq_true', and_assoc] at h
  exact h

/-- Octets packed in memory from an address. -/
def octetMem (a : Nat) (l : List (BitVec 8)) : KMap MemWord := (packWords l).zipIdx.map (fun p => (a + p.2, word p.1))

theorem holds_of {s : State} {a : Nat} {l : List (BitVec 8)}
    (hb : (List.range (wordsFor l.length)).all (fun k => (mget s (a + k)).data == packFour (l.drop (4 * k))) = true) :
    HoldsOctets s a l := by
  intro k hk
  have := List.all_eq_true.mp hb k (List.mem_range.mpr hk)
  exact beq_iff_eq.mp this

/-- A port page enabled with both rings at 16384 and 16400, a window over the first million words. -/
def portRegs (pg : Nat) : List (Nat × Nat × Word) :=
  [(pg, 4, 13), (pg, 16, 0), (pg, 17, 1048575), (pg, 19, 16384), (pg, 20, 1), (pg, 22, 16400), (pg, 23, 1)]

/-- A frame of 60 octets to the broadcast address, and one with a trailer of LAN A and sequence 5. -/
def aFrame60 : List (BitVec 8) := List.replicate 6 255 ++ List.replicate 6 1 ++ [8, 0] ++ List.replicate 46 3
def aFrameRct : List (BitVec 8) := withRct aFrame60 5 10

/-- Port 0 with its link up, a descriptor of 60 octets at the head of its transmit ring, an owned receive descriptor. -/
def ethState (own : Bool) : State :=
  setEth { withRegs runState (portRegs (ethPg 0)) with
    mem := [(16384, word (fval 35 35 (bnat own) ||| fval 15 0 60)), (16385, word 20480),
      (16400, word (fval 35 35 (bnat own))), (16401, word 24576)] ++ octetMem 20480 aFrame60 } 0 { Eth.init with link := true }

/-- Ports 0 and 1 as an enabled PRP pair that has received the frame with the trailer. -/
def prpState : State :=
  setEth { withRegs (ethState true) [(prpPg, 4, 5)] with prps := [(0, [{ src := 0x010101010101, seq := 5, since := 0 }])] } 1
    { Eth.init with link := true }

theorem witness_EthernetPorts :
    (ethWorks (ethState true) 0 = true ∧ ethOn (ethState true) 0 2 = true ∧ ethOn (ethState true) 0 3 = true ∧
      (eth (ethState true) 0).link = true ∧ (eth (ethState true) 0).tx.stopped = false) ∧
    PortOk (ethState true) (ethPort 0) 16384 4 .load ∧ bit (mget (ethState false) 16384).data 35 = false ∧
    (let d := (mget (ethState true) 16384).data
     bit d 35 = true ∧ bit d 34 = false ∧ bit d 33 = false ∧ aFrame60.length = fld d 15 0 ∧ aFrame60.length ≤ 1518 ∧
       ringAt (ethState true) (ethPg 0) 19 (eth (ethState true) 0).tx = 16384 ∧ fld (mget (ethState true) 16385).data 29 0 = 20480) ∧
    PortOk (ethState true) (ethPort 0) 16384 1 .store ∧ PortOk (ethState true) (ethPort 0) 20480 15 .load ∧
    HoldsOctets (ethState true) 20480 aFrame60 ∧ paired (ethState true) 0 = false ∧
    (paired prpState 0 = true ∧ (eth prpState 1).link = true) ∧
    (ethAccepts (ethState true) 0 (List.replicate 64 1) = false ∧ ethAccepts (ethState true) 0 (aFrame60 ++ [0, 0, 0, 0]) = true ∧
      ethGood (aFrame60 ++ [0, 0, 0, 0]) = false ∧ ethAccepts (ethState true) 0 (aFrame60 ++ fcs aFrame60) = true) ∧
    ((paired (ethState true) 0 && hasRct aFrame60) = false ∧ (eth (ethState true) 0).rx.stopped = false) ∧
    PortOk (ethState true) (ethPort 0) 16400 4 .load ∧ PortOk (ethState true) (ethPort 0) 16400 1 .store ∧
    (bit (mget (ethState false) 16400).data 35 = false ∧ bit (mget (ethState true) 16400).data 35 = true ∧
      bit (rget (ethState true) (ethPg 0) 4) 4 = false ∧ fld (mget (ethState true) 16401).data 29 0 = 24576) ∧
    PortOk (ethState true) (ethPort 0) 24576 15 .store ∧
    (hasRct aFrameRct = true ∧ ethertype aFrameRct ≠ 0x88F7 ∧ octNum aFrameRct (aFrameRct.length - 4) 2 / 4096 = 10 + 0 % 2 ∧
      ethAccepts prpState 0 (aFrameRct ++ fcs aFrameRct) = true ∧
      prpSeen prpState 0 (octNum aFrameRct 6 6) (octNum aFrameRct (aFrameRct.length - 6) 2) = true) := by
  refine ⟨?_, port_of ?_, ?_, ?_, port_of ?_, port_of ?_, holds_of ?_, ?_, ?_, ?_, ?_, port_of ?_, port_of ?_, ?_, port_of ?_, ?_⟩ <;>
    decide +kernel

/-- The CAN FD controller of die 0 with a descriptor for a frame of 8 octets, an owned receive descriptor, and a filter that takes
identifier 5. -/
def canState (own : Bool) (c : Can) : State :=
  setCan { withRegs runState (portRegs (canPg 0) ++ [(canPg 0, 32, fval 35 35 1 ||| 5), (canPg 0, 48, 0x1fffffff)]) with
    mem := [(16384, word (fval 35 35 (bnat own) ||| 5)), (16385, word 20480), (16387, word (fval 35 32 8)),
      (16400, word (fval 35 35 (bnat own))), (16401, word 24576)] ++ octetMem 20480 (List.replicate 8 7) } 0 c

/-- A frame of 8 octets. -/
def aCan (id : BitVec 29) : CanFrame :=
  { id := id, xtd := false, rtr := false, fdf := false, brs := false, esi := false, dlc := 8, data := List.replicate 8 9 }

theorem witness_CanControllers :
    (canWorks (canState true Can.init) 0 = true ∧ canOn (canState true Can.init) 0 2 = true ∧ canOn (canState true Can.init) 0 3 = true ∧
      (let s := withRegs (canState true Can.init) [(canPg 0, 4, 5)]
       enabled s (canPg 0) = true ∧ canOn s 0 3 = false ∧ (can s 0).busOff = false ∧ (can s 0).rxErr ≤ 127) ∧
      (can (canState true Can.init) 0).busOff = false ∧ (can (canState true Can.init) 0).tx.stopped = false) ∧
    PortOk (canState true Can.init) (canPort 0) 16384 4 .load ∧ bit (mget (canState false Can.init) 16384).data 35 = false ∧
    (let d := (mget (canState true Can.init) 16384).data
     bit d 35 = true ∧ bit d 34 = false ∧ bit d 30 = false ∧
       (List.replicate 8 7 : List (BitVec 8)).length = dlcOctets (bit d 33) (fld (mget (canState true Can.init) 16387).data 35 32) ∧
       fld (mget (canState true Can.init) 16385).data 29 0 = 20480) ∧
    PortOk (canState true Can.init) (canPort 0) 20480 2 .load ∧ HoldsOctets (canState true Can.init) 20480 (List.replicate 8 7) ∧
    PortOk (canState true Can.init) (canPort 0) 16384 4 .store ∧ (Can.init.txErr + 8 ≤ 255 ∧ Can.init.rxErr ≤ 127) ∧
    255 < ({ Can.init with txErr := 248 } : Can).txErr + 8 ∧
    (canMatches (canState true Can.init) 0 (aCan 5) = true ∧ canMatches (canState true Can.init) 0 (aCan 6) = false) ∧
    PortOk (canState true Can.init) (canPort 0) 16400 4 .load ∧ PortOk (canState true Can.init) (canPort 0) 16400 4 .store ∧
    bit (mget (canState true Can.init) 16400).data 35 = true ∧ bit (mget (canState false Can.init) 16400).data 35 = false ∧
    PortOk (canState true Can.init) (canPort 0) 24576 2 .store ∧ wordsFor (canOctets (aCan 5)).length = 2 ∧
    ((can (canState true { Can.init with busOff := true, restart := true }) 0).busOff = true ∧
      (can (canState true { Can.init with busOff := true, restart := true }) 0).restart = true) := by
  refine ⟨?_, port_of ?_, ?_, ?_, port_of ?_, holds_of ?_, port_of ?_, ?_, ?_, ?_, port_of ?_, port_of ?_, ?_, ?_, port_of ?_, ?_, ?_⟩ <;>
    decide +kernel

/-- A device of 16 MB with erase type 0 of 4 KB, in mode 0. -/
def aSfdp : SfdpFacts :=
  { signature := true, dwords := 16, modes := 1, density := 16777216, eraseLog2 := 12, fourByte := false
    read144 := 0xEB, read444 := 0xEC, quadEnable := 0, enable444 := 1, eraseCode := 0x20, pageLog2 := 8, busyPoll := 1, program := some 0x12 }

/-- Flash port 0: enabled or not, with the tables read or not, a job or not; PROGEN 1, addr 4096, memory 20480, 8 octets. -/
def flState (en : Bool) (x : Option SfdpFacts) (job : Option FlashJob) : State :=
  setFlash { withRegs runState [(flashPg 0, 3, 1), (flashPg 0, 4, fval 6 6 1 ||| fval 0 0 (bnat en)), (flashPg 0, 16, 0),
      (flashPg 0, 17, 1048575), (flashPg 0, 20, 4096), (flashPg 0, 21, 20480), (flashPg 0, 22, 8)] with
    mem := octetMem 20480 (List.replicate 8 7) } 0 { sfdp := x, carr := false, busy := job, sent := [] }

def aJob (op mem : Nat) : FlashJob := { op := op, addr := 4096, mem := mem, len := 8, etype := 0 }

theorem witness_FlashPorts :
    (let s := flState false none none
     unitWorks s (flashPg 0) = true ∧ locked s (flashPg 0) = false ∧ enabled s (flashPg 0) = false ∧
       (dom s (domOfPage (flashPg 0))).drain = none ∧ bit (rget s (flashPg 0) 3) 0 = true ∧ (flash s 0).sfdp = none ∧
       rfld s (flashPg 0) 4 3 2 = 0 ∧ aSfdp.signature = true ∧ 16 ≤ aSfdp.dwords ∧ aSfdp.modes.getLsbD 0 = true ∧
       (2#3).getLsbD 0 = false ∧ (15 : Nat) < 16) ∧
    (let s := flState true (some aSfdp) none
     enabled s (flashPg 0) = true ∧ (flash s 0).busy = none ∧ (flash s 0).carr = false ∧ (flash s 0).sfdp = some aSfdp ∧
       rfld s (flashPg 0) 20 31 0 + rfld s (flashPg 0) 22 23 0 ≤ aSfdp.density.toNat ∧
       bit (rget s (flashPg 0) 4) 6 = true ∧ aSfdp.program = some 0x12 ∧ aSfdp.modes.getLsbD 0 = true ∧ rfld s (flashPg 0) 4 3 2 = 0 ∧ eraseSize aSfdp 0 = 4096 ∧ eraseSize aSfdp 1 = 0 ∧
       rfld s (flashPg 0) 20 31 0 % 4096 = 0 ∧ 4096 + 4096 ≤ aSfdp.density.toNat) ∧
    (let s := withRegs (flState true (some aSfdp) none) [(flashPg 0, 20, 16777216)]
     aSfdp.density.toNat < rfld s (flashPg 0) 20 31 0 + rfld s (flashPg 0) 22 23 0) ∧
    rfld (withRegs (flState true (some aSfdp) none) [(flashPg 0, 20, 4097)]) (flashPg 0) 20 31 0 % 4096 ≠ 0 ∧
    bit (rget (withRegs (flState true (some aSfdp) none) [(flashPg 0, 4, 1)]) (flashPg 0) 4) 6 = false ∧
    ((flash (flState true (some aSfdp) (some (aJob 1 20480))) 0).busy = some (aJob 1 20480) ∧
      (List.replicate 8 7 : List (BitVec 8)).length = (aJob 1 20480).len ∧
      inWindow (flState true (some aSfdp) (some (aJob 1 1048576))) (flashPort 0) 1048576 = false ∧
      (flash (flState true (some { aSfdp with modes := 2 }) none) 0).sfdp = some { aSfdp with modes := 2 } ∧
      ({ aSfdp with modes := 2 } : SfdpFacts).modes.getLsbD 0 = false) ∧
    PortOk (flState true (some aSfdp) (some (aJob 1 20480))) (flashPort 0) 20480 2 .store ∧
    PortOk (flState true (some aSfdp) (some (aJob 2 20480))) (flashPort 0) 20480 2 .load ∧
    HoldsOctets (flState true (some aSfdp) (some (aJob 2 20480))) 20480 (List.replicate 8 7) := by
  refine ⟨?_, ?_, ?_, ?_, ?_, ?_, port_of ?_, port_of ?_, holds_of ?_⟩ <;> decide +kernel

/-- External memory port 0: enabled or not, trained or not, with a scrub cursor at 0; DENS 1, scrubbing on. -/
def empState (en trained : Bool) : State :=
  setEmp (withRegs runState [(empPg 0, 3, 1), (empPg 0, 4, fval 4 3 1 ||| fval 7 7 1 ||| fval 0 0 (bnat en))]) 0
    { Emp.init with trained := trained, dens := bnat trained }

theorem witness_MemoryPorts :
    (let s := empState false false
     unitWorks s (empPg 0) = true ∧ locked s (empPg 0) = false ∧ enabled s (empPg 0) = false ∧
       (dom s (domOfPage (empPg 0))).drain = none ∧ bit (rget s (empPg 0) 3) 0 = true ∧ (emp s 0).trained = false ∧
       rfld s (empPg 0) 4 4 3 ≠ 0) ∧
    rfld (withRegs (empState false false) [(empPg 0, 4, 0)]) (empPg 0) 4 4 3 = 0 ∧
    (let s := empState true true
     unitWorks s (empPg 0) = true ∧ (emp s 0).trained = true ∧ bit (rget s (empPg 0) 4) 7 = true ∧ (emp s 0).scrubAt = none ∧
       (let u := setEmp s 0 { emp s 0 with scrubAt := some 0 }
        (emp u 0).scrubAt = some 0 ∧ ¬ 0 + max 1 (rfld u (empPg 0) 16 17 0) * 300 ≤ u.ticks) ∧
       (∀ k, k < 16 → (mget s ((4 + 2 * 0) * 134217728 + (emp s 0).scrub + k)).ecc = .good)) := by decide +kernel
/-! ## Witnesses: boot, Carr, power, resets, test and debug -/

/-- A part with fuses of lifecycle Provisioned in Boot, before images are read. -/
def bootState : State := { State.reset with lcs := .provisioned }

/-- Octets of 0 with others laid over them. -/
def octets (n : Nat) (l : List (Nat × List (BitVec 8))) : List (BitVec 8) :=
  l.foldl (fun o p => overlay o p.1 p.2) (List.replicate n 0)

/-- A test key and the hash of it, and signatures by it that another program (OpenSSL) made. -/
def keyX : Nat :=
  0x81E11FBDC7A066A01295F1F6E07884D431E4ECE9B5998F65D87B30FCA964DCA38D888FFC88A5EB87B1D61B5077A0ADA3
def keyY : Nat :=
  0x1AE40F22729773D89CDED718F37A267DE7A82C2D9CEF9F8873EB1192D1AE315334A2D7BF370ADDFC53A9F15F5334AABB
def keyHash : BitVec 384 :=
  0x3DD92CE6244C9C59E1516FB9EB92329FF0150A0AAA57320E6CCFDF246178AF3DAC9A0C40918D1F0BCCF0DF58D5180F03
def sigDbg : List (BitVec 8) :=
  num48 0x24DA77F9C882BADB75E8FE67452A9726F3818AAA85B547CC249AE13E224265D40BCA7C65FF5668B66B7C0B499663C758 ++
  num48 0x2A9963E39F679C8AAA3D57E927A539F9642E85D9AE05FBE4A8C05FC1FFF86DFB30E8DB43AE96CF20C35D32687274C015
def sigLc : List (BitVec 8) :=
  num48 0xBA7B93040D5F41774E1825CED316FE6C7FF19C10CC2DAAAA551884FED0EADDF2CD879D2B675E7D856BD8CEF08A1FF08 ++
  num48 0xA78FFB9EC7410BD5A6F0432231705DEBB0EE05BEB70D9B12967EF7EAA58275DD7BB4FF386C9C9169193E2D12BF05B8B
def sigRevoke : List (BitVec 8) :=
  num48 0x75DA7FA363791ACE3A9E8779F0836F34C7298B60DEB821586441DED9F67FDF57103BBEE45155AE8595F8E0EB10D64843 ++
  num48 0x4853817C35A2C3AF7DBA2266C17055E2CF79EA36051CDB01F25426FC48918D014F668E121C5265C69FA3E3313DB173D8
def sigCarr : List (BitVec 8) :=
  num48 0x849D3AAA0DA256111DE5274F88714B76FE278F1FE9D45428F96DB7A49327D72F99065ACE4880508ECB1EE67B1CAFDE7D ++
  num48 0x47FD985024BCE02F3ACE2DE4656C356AB9D68601EA3D8FCD8F216BBCF528BFDD0B101B3793E5BD0C0D258A19FB17FED6
def sigApp : List (BitVec 8) :=
  num48 0x112983F4E294DBB8960F478B0250F5ED1E591226CC4C0AF3212F020AC056B0FFAE32CBB0068EDC103F175A0CA5F9E0B9 ++
  num48 0x18805C9B7EAAED557F34C11125BB3C6E1C514F4812A426DA4095CFBF5F22973678D1499503177B249A0274021FAE047C
def keyOcts : List (BitVec 8) := [4] ++ num48 keyX ++ num48 keyY

/-- Fuses whose slot 0 holds the test key's hash and may sign debug requests, and whose slot 1 holds another. -/
def keyFuses : Fuses := { State.reset.fuses with roothash := [(0, keyHash), (1, 1)], dbgslot := 1, prov := 3 }

/-- A directory and a Carr header that is well formed for the parts and the silicon of the given bits (Table 12.1, Table 12.2). -/
def aDir : List (BitVec 8) := octets 16 [(0, numOct 0x46594F4C 4), (4, numOct 0x1000 4), (8, numOct 0x2000 4)]
def aHeader (parts chips : Nat) : List (BitVec 8) :=
  octets 0x300 [(0, numOct 0x54465743 4), (4, numOct 1 2), (6, numOct 1 1), (0x14, numOct parts 1), (0x10, numOct chips 4)]

/-- A set with that directory, the Carr image at 0x1000 and the application image at 0x2000. -/
def setOf (modes : BitVec 3) (dir carr app : List (BitVec 8)) : FlashSet :=
  { sfdp := { aSfdp with modes := modes }, octets := [(0, dir), (0x1000, carr), (0x2000, app)] }
def aSet (enable : Bool) (dir header : List (BitVec 8)) : FlashSet := setOf (if enable then 4 else 1) dir header []

/-- An accepted image. -/
def anImage : Image :=
  { src := false, slot := 0, iver := 1, svn := 1, cfeat := 0, qcmin := 0, qcmax := 9, policy := 0, entry := 256, comp0 := 7,
    bootcore := 3, full := [], baseline := [], head := [], load := 256, blen := 9, digest := sha384 (List.replicate 9 0) }

/-- A Provisioned part with the test key, and a set whose two images that key has signed: the application loads one pair at word
256. -/
def keyBoot : State := { bootState with fuses := keyFuses, fusesRead := keyFuses }
def signedCarr : List (BitVec 8) :=
  octets 0x300 [(0, numOct 0x54465743 4), (4, numOct 1 2), (6, numOct 1 1), (8, numOct 0x01020003 4), (0xC, numOct 1 4),
    (0x10, numOct 512 4), (0x14, numOct 15 1), (0x18, numOct 63 4), (0x80, keyOcts), (0x280, sigCarr)]
def signedApp : List (BitVec 8) :=
  octets 0x300 [(0, numOct 0x54465741 4), (4, numOct 1 2), (6, numOct 2 1), (0xC, numOct 1 4), (0x10, numOct 512 4), (0x14, numOct 15 1),
    (0x1C, numOct 0x01000000 4), (0x20, numOct 0x01ffffff 4), (0x28, numOct 9 4), (0x2C, numOct 256 4), (0x30, numOct 256 4),
    (0x34, numOct 7 1), (0x35, numOct 3 1), (0x80, keyOcts), (0x280, sigApp)]
def signedSet : FlashSet := setOf 4 aDir signedCarr (signedApp ++ [1, 2, 3, 4, 5, 6, 7, 8, 9])

theorem signed_carr : (imageCheck keyBoot false signedSet).1 = 15 := by decide +kernel

theorem signed_app : (imageCheck keyBoot true signedSet).1 = 15 := by decide +kernel

/-- The measurement of the witness image where the words loaded are 0. -/
theorem measured_zero :
    sha384 ([] ++ (List.range (9 / 9)).flatMap (fun _ => numOct 0 9)) = sha384 (List.replicate 9 0) := by rfl

theorem witness_BootAndHandover :
    (clocked bootState = true ∧ bootState.safety = .boot ∧ bootState.boot.phase = .start ∧ bootState.lcs ≠ .blank ∧
      bootState.lcs ≠ .retired) ∧
    (dirOk aDir = true ∧ octNum (aHeader 15 512) 0 4 = 0x54465743 ∧ headerOk bootState false (aHeader 15 512) = true ∧
      octNum (aHeader 15 512) 0x14 1 / 2 ^ bootState.part.num % 2 = 1 ∧ octNum (aHeader 15 512) 0x10 4 / 2 ^ 9 % 2 = 1 ∧
      octNum (aHeader 15 0) 0x10 4 / 2 ^ 9 % 2 = 0 ∧ octNum (aHeader 0 512) 0x14 1 / 2 ^ bootState.part.num % 2 = 0 ∧
      dirOk (octets 16 []) = false ∧ headerOk bootState false (octets 0x300 [(0, numOct 0x54465743 4)]) = false) ∧
    (imageCheck bootState false (aSet false aDir (aHeader 15 512))).1 = 8 ∧ (imageCheck bootState false (aSet true aDir (aHeader 15 0))).1 = 4 ∧
    ((imageCheck bootState false (aSet true aDir (aHeader 15 512))).1 = 5 ∧ (imageCheck bootState false (aSet true (octets 16 []) [])).1 = 1 ∧
      (imageCheck bootState false (aSet true [] [])).1 = 8 ∧ (imageCheck bootState false (aSet true aDir [])).1 = 8 ∧
      (imageCheck bootState false (aSet true aDir (octets 0x300 [(0, numOct 0x54465743 4)]))).1 = 2 ∧
      (imageCheck { keyBoot with fusesRead := { keyFuses with minsvnC := 2 } } false signedSet).1 = 7 ∧
      (imageCheck keyBoot true (setOf 4 aDir [] signedApp)).1 = 8 ∧
      (imageCheck keyBoot false (setOf 4 aDir (overlay signedCarr 0x280 (numOct 0 96)) [])).1 = 6) ∧
    ((imageCheck keyBoot false signedSet).1 = 15 ∧ (imageCheck keyBoot true signedSet).1 = 15 ∧ clocked keyBoot = true ∧ keyBoot.boot.phase = .start) ∧
    (let s := { bootState with boot := { bootState.boot with phase := .accepted, carr := some anImage, app := some anImage } }
     s.boot.phase = .accepted ∧ s.boot.carr = some anImage ∧ s.boot.app = some anImage ∧ clocked s = true ∧ s.safety = .boot ∧
       anImage.bootcore % 128 < 16 * s.part.dies ∧ (∀ k, k < 2 → memReach s (256 + k) = .ok ∧ (mget s (256 + k)).ecc = .good) ∧
       (∀ k, k < 2 → (mget s (256 + k)).data.toNat = 0)) ∧ bootState.boot.phase ≠ .accepted ∧
    (({ bootState with lcs := .blank } : State).lcs = .blank ∧ bootState.boot.phase = .start) := by
  refine ⟨?_, ?_, ?_, ?_, ?_, ⟨signed_carr, signed_app, ?_⟩, ?_, ?_, ?_⟩ <;> decide +kernel

/-- A Field part in Run that accepts every feature of Carr, with the octets in memory at 4096. -/
def carrState (l : List (BitVec 8)) (c : Carr) : State :=
  { withRegs runState [(carrPg 0, 3, 63)] with mem := octetMem 4096 l, carr := c }

def bufB (s : State) (q : Nat) : Bool := (memReach s q == .ok) && decide ((mget s q).ecc = .good) && !marked s q

theorem buffer_of {s : State} {a n : Nat} (hb : (List.range n).all (fun j => bufB s (a + j)) = true) : CarrBuffer s a n := by
  refine range_of a n (bufB s) (fun q h => ?_) hb
  simp only [bufB, Bool.and_eq_true, beq_iff_eq, decide_eq_true_eq, Bool.not_eq_true', and_assoc] at h
  exact h

/-- A Blank part with a provisioning request in DBGBUF: 192 octets of hashes and DBGSLOT. -/
def provState (l : List (BitVec 8)) : State :=
  withRegs { State.reset with lcs := .blank, boot := { State.reset.boot with phase := .holding } }
    ((packWords l).zipIdx.map (fun p => (frzPg, 64 + p.2, p.1)))
def aCarrJob : CarrJob := { op := 3, result := 0, fusesWere := State.reset.fuses, svcWas := false }
def aToken : Token := { state := 3, dieMask := 255, tgMask := 0, ranges := [(0, 641)], expires := 100 }

theorem witness_CarrCommands :
    (let s := carrState (List.replicate 48 5) { Carr.init with busy := some aCarrJob }
     unitWorks s (carrPg 0) = true ∧ carrAnswers s = true ∧ s.carr.busy = some aCarrJob) ∧
    (let s := carrState (List.replicate 48 5) Carr.init
     s.carr.busy = none ∧ carrLcOk 9 s.lcs = false ∧ carrLcOk 1 s.lcs = true ∧ coreStamp.cls = 0 ∧ coreStamp.priv = 0 ∧ s.lcs = .field ∧
       (∀ b, b < 6 → bit (rget s (carrPg 0) 3) b = true) ∧ s.carr.token = none ∧ (List.replicate 48 5 : List (BitVec 8)).length = 48) ∧
    (∀ b, b < 5 → bit (rget runState (carrPg 0) 3) (b + 1) = false) ∧
    CarrBuffer (carrState (List.replicate 48 5) Carr.init) 4096 88 ∧ HoldsOctets (carrState (List.replicate 48 5) Carr.init) 4096 (List.replicate 48 5) ∧
    (let l : List (BitVec 8) := List.replicate 193 1
     let s := provState l
     unitWorks s (carrPg 0) = true ∧ carrAnswers s = true ∧ tapStamp.cls = 2 ∧ s.lcs = .blank ∧ l.length = 193 ∧
       (∀ k, k < 49 → rget s frzPg (64 + k) = packFour (l.drop (4 * k))) ∧ BitVec.ofNat 384 (octNum l (48 * 0) 48) ≠ 0) ∧
    (let l : List (BitVec 8) := List.replicate 193 0
     (∀ k, k < 49 → rget (provState l) frzPg (64 + k) = packFour (l.drop (4 * k))) ∧
       (∀ k, k < 4 → BitVec.ofNat 384 (octNum l (48 * k) 48) = 0)) ∧
    (let s := carrState [] { Carr.init with token := some aToken }
     s.carr.token = some aToken ∧ s.ticks < aToken.expires ∧ aToken.expires ≤ ({ s with ticks := 100 } : State).ticks) := by
  refine ⟨?_, ?_, ?_, buffer_of ?_, holds_of ?_, ?_, ?_, ?_⟩ <;> decide +kernel

/-- A request of 304 octets with nonce 9 for an operation and an argument, with a key and a signature. -/
def aRequest (op arg : Nat) (key sig : List (BitVec 8)) : List (BitVec 8) :=
  octets 304 [(0, numOct 0x54465751 4), (4, numOct op 1), (5, numOct arg 1), (0x10, numOct 9 48), (0x54, numOct (if op = 4 then 60 else 0) 4),
    (0x60, key), (0xD0, sig)]

/-- A state with the request in its buffer and nonce 9 outstanding since tick 0, of a part that the test key may sign for. -/
def reqState (r : List (BitVec 8)) : State :=
  { carrState r { Carr.init with nonce := some (9, 0) } with fuses := keyFuses, fusesRead := keyFuses }

/-- The requests that the test key has signed: a token of Halt, Retired, and the revocation of slot 1. -/
def dbgReq : List (BitVec 8) := aRequest 4 2 keyOcts sigDbg
def lcReq : List (BitVec 8) := aRequest 6 4 keyOcts sigLc
def revokeReq : List (BitVec 8) := aRequest 7 1 keyOcts sigRevoke

/-- A request as `signed` reads it. -/
def signedB (op : Nat) (r : List (BitVec 8)) : Bool :=
  reqSlotOk keyFuses op r && ecdsaVerify (reqOcts r 0x60 97) (sha384 (r.take 0xD0)) (reqOcts r 0xD0 96)

theorem signed_dbg : signedB 4 dbgReq = true := by decide +kernel

theorem signed_lc : signedB 6 lcReq = true := by decide +kernel

theorem signed_revoke : signedB 7 revokeReq = true := by decide +kernel

theorem witness_SignedRequests :
    (let s := { reqState dbgReq with safety := .mire }
     unitWorks s (carrPg 0) = true ∧ carrAnswers s = true ∧ s.safety = .mire) ∧
    (let s := reqState dbgReq
     unitWorks s (carrPg 0) = true ∧ carrAnswers s = true ∧ s.carr.busy = none ∧ coreStamp.cls = 0 ∧ coreStamp.priv = 0 ∧ s.lcs = .field ∧
       dbgReq.length = 304 ∧ s.carr.nonce = some (9, 0) ∧ octNum dbgReq 0x10 48 = (9#384).toNat ∧ s.ticks < 0 + 60000000 * 300 ∧
       s.fusesRead = keyFuses ∧ (∀ b, b < 6 → bit (rget s (carrPg 0) 3) b = true)) ∧
    (octNum (octets 304 []) 0x10 48 ≠ (9#384).toNat ∧ 0 + 60000000 * 300 ≤ ({ reqState dbgReq with ticks := 18000000000 } : State).ticks) ∧
    (CarrBuffer (reqState dbgReq) 4096 76 ∧ HoldsOctets (reqState dbgReq) 4096 dbgReq) ∧
    (CarrBuffer (reqState lcReq) 4096 76 ∧ HoldsOctets (reqState lcReq) 4096 lcReq) ∧
    (CarrBuffer (reqState revokeReq) 4096 76 ∧ HoldsOctets (reqState revokeReq) 4096 revokeReq) ∧
    (reqFormed (reqState dbgReq) 4 dbgReq = true ∧ reqFormed (reqState lcReq) 6 lcReq = true ∧
      reqFormed (reqState revokeReq) 7 revokeReq = true ∧ reqFormed (reqState dbgReq) 7 dbgReq = false) ∧
    (signedB 4 dbgReq = true ∧ signedB 6 lcReq = true ∧ signedB 7 revokeReq = true ∧ reqArg lcReq = 4 ∧ reqArg revokeReq = 1 ∧
      (tokenOf (reqState dbgReq) dbgReq).state = 2) ∧
    (reqSlotOk keyFuses 4 (aRequest 4 2 [4] []) = false ∧ reqSlotOk keyFuses 6 (aRequest 6 4 keyOcts []) = true ∧
      signedB 6 (aRequest 6 4 keyOcts []) = false) ∧
    (({ keyFuses with rvk := kset (fun _ => 0) keyFuses.rvk 1 3 } : Fuses).validMask ≠ 0 ∧
      ({ keyFuses with rvk := [(0, 3), (1, 3)] } : Fuses).validMask = 0) := by
  refine ⟨?_, ?_, ?_, ⟨buffer_of ?_, holds_of ?_⟩, ⟨buffer_of ?_, holds_of ?_⟩, ⟨buffer_of ?_, holds_of ?_⟩, ?_,
    ⟨signed_dbg, signed_lc, signed_revoke, ?_⟩, ?_, ?_⟩ <;> decide +kernel

/-- A domain of a state without contexts in Run. -/
def bare : State := { runState with cores := [] }
def domState (k : Nat) (x : Dom) : State := setDom bare k x

theorem witness_PowerDomains :
    (unitWorks bare (pwrPg 0) = true ∧ locked bare (pwrPg 0) = false ∧ domPresent bare.part 0 = true ∧ domPresent bare.part 16 = true ∧
      bare.safety ≠ .mire ∧ clocked bare = true ∧ bare.enHeld = []) ∧
    (dom (domState 0 { Dom.init with drain := some .hold }) 0).drain.isSome = true ∧
    ((dom bare 0).drain = none ∧ (dom bare 0).target = none ∧ domWhy bare 0 0 = 0 ∧ (dom bare 0).st = powerOf 0 ∧ domWhy bare 0 1 = 0 ∧
      domWhy bare 0 2 = 0 ∧ (dom bare 0).st = .run) ∧
    (let s := domState 0 { Dom.init with st := .hold }
     domWhy s 0 0 = 0 ∧ (dom s 0).st ≠ .run ∧ (dom s 0).st ≠ powerOf 0) ∧
    (let s := domState 16 { Dom.init with st := .retain }
     domWhy s 16 4 = 0 ∧ (dom s 16).st = .retain) ∧
    domWhy bare 0 3 ≠ 0 ∧ (dom (domState 0 { Dom.init with held := true }) 0).held = true ∧ (domPermits 0).contains 4 = true ∧
    (domPermits 0).contains 3 = false ∧ (ctxAt runState 0 0).st ≠ .empty ∧
    (let s := domState 0 { Dom.init with drain := some .hold }
     (dom s 0).drain = some .hold ∧ (dom s 0).target = none ∧ (coreAt s 0).sb.length ≤ 4) ∧
    (let s := { domState 0 { Dom.init with target := some (.hold, 100), req := 2 } with ticks := 100 }
     (dom s 0).target = some (.hold, 100) ∧ 100 ≤ s.ticks ∧ (dom s 0).queued = none ∧ Power.hold = powerOf (dom s 0).req) ∧
    (let s := domState 16 { Dom.init with st := .off, target := some (.run, 0), req := 0 }
     (dom s 16).target = some (.run, 0) ∧ (dom s 16).st = .off ∧ Power.run = powerOf (dom s 16).req) ∧
    (let s := domState 0 { Dom.init with target := some (.off, 0), req := 4 }
     (dom s 0).target = some (.off, 0) ∧ Power.off = powerOf (dom s 0).req ∧ (coreAt s 0).sb = []) ∧
    (let s := domState 0 { Dom.init with st := .hold, target := some (.run, 0), req := 4 }
     (dom s 0).target = some (.run, 0) ∧ (dom s 0).st = .hold ∧ 2 ≤ (dom s 0).req ∧ (dom s 0).req ≤ 4) ∧
    (let s := { bare with isol := 1 }
     rstWhy s 0 ≠ 0) ∧
    (rstWhy bare 0 = 0 ∧ rstWhy bare 16 = 0 ∧ (coreAt bare 0).sb = []) ∧
    (let s := domState 0 { Dom.init with rstUntil := some 0, held := true }
     (dom s 0).rstUntil = some 0) := by decide +kernel

theorem witness_PowerDomains_more :
    (let s := domState 0 { Dom.init with st := .trim, trimdiv := 2 }
     domWhy s 0 1 = 0 ∧ (dom s 0).st = .trim ∧ (dom s 0).clkdiv ≠ (dom s 0).trimdiv) ∧ domWhy { bare with safety := .boot } 0 1 = 1 ∧
    (let s := domState 0 { Dom.init with st := .trim, trimdiv := 2, clkdiv := 2 }
     (domPermits 0).contains 1 = true ∧ (dom s 0).st = powerOf 1 ∧ (dom s 0).clkdiv = (dom s 0).trimdiv) ∧
    (let s := domState 514 { Dom.init with drain := some .off }
     514 ≤ 514 ∧ (dom s 514).drain = some .off ∧ (dom s 514).target = none) ∧
    (let s := setDom runState 0 { Dom.init with st := .hold, wake := true }
     (coreAt s 0).midway = none ∧ boundaryFault s 0 = false ∧ coreWakes s 0 = true ∧ lateDue s 0 = false ∧ (dom s (domKey 0 0)).st = .hold ∧
       (dom s (domKey 0 0)).target = none ∧ (ctxAt s 0 0).st = .ready) ∧
    (let s := domState 16 { Dom.init with target := some (.off, 0), req := 4 }
     (dom s 16).target = some (.off, 0) ∧ Power.off = powerOf (dom s 16).req) ∧
    (let s := domState 514 { Dom.init with target := some (.off, 0), req := 4 }
     (dom s 514).target = some (.off, 0) ∧ Power.off = powerOf (dom s 514).req) := by decide +kernel

theorem witness_PowerDomains_banks : SedgeIdle bare ∧ Canonical bare :=
  ⟨fun _ => ⟨rfl, rfl⟩, reset_canonical bare (by decide +kernel) (by decide +kernel) rfl rfl⟩

/-- Pins of a state. -/
def pinState (f : Pins → Pins) : State := { bare with pins := f bare.pins }

theorem pin_canonical (f : Pins → Pins) : Canonical (pinState f) :=
  reset_canonical (pinState f) (show kwf memDefault bare.mem = true by decide +kernel) (show kwf regDefault bare.regs = true by decide +kernel) rfl rfl

theorem witness_PackageResets :
    Canonical (pinState id) ∧ Canonical (pinState (fun p => { p with porst := false, porHeld := true })) ∧
    (let p := (pinState (fun p => { p with supplyBad := true })).pins
     p.supplyBad = true ∧ p.porst = true ∧ p.sysHeld = false) ∧
    (pinState (fun p => { p with supplyBad := true, porst := false })).pins.porst = false ∧ (pinState id).pins.supplyBad = false ∧
    (let p := (pinState (fun p => { p with porst := false, porHeld := true })).pins
     p.porst = false ∧ p.porHeld = true ∧ p.supplyBad = false ∧ p.sysHeld = false) ∧
    (let p := (pinState (fun p => { p with porst := false })).pins
     p.porst = false ∧ p.porHeld = false) ∧ (pinState id).pins.porst = true ∧
    (let p := (pinState (fun p => { p with sysrst := false, sysHeld := true })).pins
     p.sysrst = false ∧ p.sysHeld = true ∧ p.porHeld = false) ∧
    (pinState (fun p => { p with sysrst := false })).pins.sysHeld = false ∧
    (unitWorks bare (pkgPg 0) = true ∧ locked bare (pkgPg 0) = false ∧ bare.safety ≠ .mire ∧ fld (fval 35 27 0o525 : Word) 35 27 = 0o525 ∧
      bare.safety ≠ .boot ∧ bare.safety ≠ .proof ∧ SedgeIdle bare) ∧
    (let s := { bare with safety := .proof }
     s.safety = .proof ∧ bit (fval 35 35 1 ||| 2 : Word) 35 = true ∧ fld (fval 35 35 1 ||| 2 : Word) 2 0 = 2 ∧ 2 < s.part.dies) ∧
    (∀ n, (coreAt bare n).sb = []) ∧
    (let s := { bare with dieRst := [2] }
     clocked s = true ∧ (2#3).toNat ∈ s.dieRst) ∧ (2#3).toNat ∉ bare.dieRst := by
  refine ⟨pin_canonical _, pin_canonical _, ?_, ?_, ?_, ?_, ?_, ?_, ?_, ?_, ⟨?_, ?_, ?_, ?_, ?_, ?_, fun _ => ⟨rfl, rfl⟩⟩, ?_, fun _ => rfl, ?_, ?_⟩ <;>
    decide +kernel

/-- A TFW2 in Run. -/
def small : State := { bare with part := .tfw2 }

theorem no_vital : (List.range 192).all (fun m => !chVital small m) = true := by decide +kernel

theorem witness_SafetyRunState :
    (unitWorks bare (pkgPg 0) = true ∧ locked bare (pkgPg 0) = false ∧ bare.safety = .run) ∧
    (let s := { small with safety := .proof }
     s.safety = .proof ∧ s.lcs ≠ .service ∧ s.isol = 0 ∧ s.carr.token = none ∧ unitWorks s (pkgPg 0) = true ∧
       (∀ m, m < 96 * s.part.dies → ¬ (chVital s m = true ∧ ¬ ((block s (m / 24)).chkDone = true ∧ (block s (m / 24)).chkPass = true)))) ∧
    ({ bare with lcs := .service } : State).lcs = .service ∧ ({ bare with isol := 1 } : State).isol ≠ 0 ∧
    (let s := { reedState true with safety := .proof }
     chVital s 0 = true ∧ (block s (0 / 24)).chkDone = false) ∧
    (let s := { bare with safety := .proof, carr := { Carr.init with token := some aToken } }
     ∃ x, s.carr.token = some x ∧ 2 ≤ x.state) ∧
    (let s := { bare with safety := .proof, isol := 1 }
     s.safety = .proof ∧ s.isol.getLsbD (fld (fval 35 35 1 : Word) 4 0) = true) ∧ bit (0 : Word) 35 = false := by
  refine ⟨by decide +kernel, ⟨rfl, by decide, rfl, rfl, by decide +kernel, fun m hm h => ?_⟩, rfl, by decide, by decide +kernel,
    ⟨aToken, rfl, by decide⟩, by decide +kernel, by decide⟩
  have := List.all_eq_true.mp no_vital m (List.mem_range.mpr hm)
  simp only [Bool.not_eq_true'] at this
  exact absurd h.1 (by rw [show chVital { small with safety := .proof } m = chVital small m from rfl, this]; decide)

/-- A freeze taken in Proof of a Blank part. -/
def aFreeze : Freeze := { safety := .proof, lcs := .blank, dbg := 3, resume := true }

theorem witness_TestPortAndFreeze :
    (bare.frozen = none ∧ (0#8) ∈ [(0 : BitVec 8), 1, 2, 128, 129, 130] ∧ (3#8) ∉ [(0 : BitVec 8), 1, 2, 128, 129, 130] ∧ bare.lcs ≠ .blank) ∧
    (let s := { bare with frozen := some aFreeze, tap := { Tap.init with sel := fval 35 33 0 } }
     s.frozen = some aFreeze ∧ s.tap.sel = fval 35 33 0) ∧
    (let s := { bare with frozen := some aFreeze, tap := { Tap.init with sel := fval 35 33 5 ||| 4096 } }
     fld s.tap.sel 35 33 = 5 ∧ fld s.tap.sel 29 0 / 65536 < 16 * s.part.dies ∧ (dom s (domKey 0 16)).st = .run ∧ aFreeze.lcs = .blank ∧
       (mget s 4096).ecc ≠ .double ∧ (mget { s with mem := [(4096, { data := 1, tag := true, ecc := .double })] } 4096).ecc = .double) ∧
    ((bare.carr.token = none) ∧ ({ aFreeze with lcs := .field, dbg := 0 } : Freeze).dbg = 0) ∧
    (let s := { bare with lcs := .blank }
     clocked s = true ∧ domUp s (domKey 0 43) = true ∧ 4096 / 134217728 ≠ 1 ∧ memReach s 4096 = .ok ∧ marked s 4096 = false ∧
       (mget s 4096).ecc = .good ∧ (BitVec.ofNat 68 (1 * 2 ^ 66 + 4096 * 2 ^ 36)).toNat / 2 ^ 66 = 1) ∧
    clocked ({ bare with frozen := some aFreeze } : State) = false ∧
    (bare.pins.porHeld = false ∧ bare.pins.sysHeld = false ∧ bare.pins.frz = true) ∧
    (let s := { bare with frozen := some aFreeze, pins := { bare.pins with frz := false } }
     s.frozen = some aFreeze ∧ aFreeze.resume = true ∧ s.pins.frz = false ∧ s.pins.porHeld = false ∧ s.pins.sysHeld = false) ∧
    ({ aFreeze with resume := false } : Freeze).resume = false := by decide +kernel

/-- A Service part under a Full token, whose context 0 of core 0 is halted or not, with DBGREG at register i of it. -/
def dbgStateOf (halted : Bool) (i : Nat) : State :=
  let s := setCtx { runState with lcs := .service, safety := .proof, carr := { Carr.init with token := some aToken } } 0 0
    { runCtx with halted := halted, fresh := true }
  withRegs s [(frzPg, 19, BitVec.ofNat 36 i)]

theorem witness_DebugCommands :
    (let s := dbgStateOf false 5
     clocked s = true ∧ pageReach s frzPg = .ok ∧ tapStamp.cls = 2 ∧ 2 ≤ dbgState s ∧ (ctxAt s 0 0).st ≠ .empty ∧ haltable s 0 = true ∧
       (ctxAt s 0 0).halted = false ∧ (ctxAt s 0 0).fresh = true ∧ (ctxAt s 0 1).st = .empty) ∧
    (let s := dbgStateOf true 5
     (ctxAt s 0 0).halted = true ∧ rfld s frzPg 19 35 29 = 0 ∧ rfld s frzPg 19 28 27 = 0 ∧ rfld s frzPg 19 8 0 = 5 ∧
       tokenSlot s 0 = true ∧ dbgState s = 3 ∧ 1 ≤ 5 ∧ 5 < 224) ∧
    rfld (dbgStateOf true 227) frzPg 19 8 0 = 227 ∧ rfld (dbgStateOf true 404) frzPg 19 8 0 = 404 ∧
    (dbgState runState < 2 ∧ coreStamp.cls ≠ 2 ∧ pageReach runState frzPg = .ok) := by decide +kernel

/-! ## Worked examples and tables of the spec -/

/-- Table 0.5: the octets 0x12, 0x34, 0x56 and 0x78. -/
theorem test_octets_pack : packFour [0x12, 0x34, 0x56, 0x78] = 0o022464126170 := by decide

/-- A corrupt octet is none (R9). -/
theorem test_octets_corrupt : unpackWord 0o422464126170 4 = none ∧ unpackWord 0o022464126170 4 = some [0x12, 0x34, 0x56, 0x78] := by decide

/-- 02, "Pages": the proposal lane B page of channel 230, and the master gate page of core 37. -/
theorem test_page_addresses : regAddr (propPg 9 1) 0 = 0o1010246000 ∧ regAddr (mgatePg 37) 0 = 0o1010215000 ∧
    regAddr (propPg 9 0) 17 = 0o1010245021 := by decide

/-- Table 2.18: FEAT_OFFER of the PKG page by part. -/
theorem test_pkg_offer : Part.tfw2.pkgOffer = 0o1460007 ∧ Part.tfw4.pkgOffer = 0o7771037 ∧ Part.tfw8.pkgOffer = 0o7771777 ∧
    Part.tfw8x.pkgOffer = 0o7777777 := by decide

/-- Table 2.7: the populated pages of each part. -/
theorem test_page_counts :
    ((List.range 320).filter (fun q => (unitOf .tfw8x (2048 * 7 + q)).isSome)).length = 121 ∧
    ((List.range 320).filter (fun q => (unitOf .tfw2 (2048 + q)).isSome)).length = 117 ∧
    ((List.range 64).filter (fun q => (unitOf .tfw2 (pkgPg 0 + q)).isSome)).length = 10 ∧
    ((List.range 64).filter (fun q => (unitOf .tfw8x (pkgPg 0 + q)).isSome)).length = 17 := by decide +kernel

/-- Table 3.5: the bank capability of core 37, and its representable region. -/
theorem test_capability_encoding :
    let c := mkCap (fld 0o664000400000 35 24) 0 0o11200000 65536 0o11200000
    c.hi = 0o664000400000 ∧ c.lo = 0o100011200000 ∧ c.base = 0o11200000 ∧ c.top = 0o11400000 ∧
      c.representable 0o11577777 = true ∧ c.representable 0o11600000 = false := by decide +kernel

/-- Case 2 of 03, "Worked cases": base 1,001 and length 1,000 round to 1,000 and 2,002; Table 3.6. -/
theorem test_capability_rounding :
    let c := mkCap 0 0 1001 1000 1001
    c.base = 1000 ∧ c.top = 2002 ∧ (c.move 2010).tag = true ∧ (c.move 2023).tag = true ∧ (c.move 2023).base = 1000 ∧
      (c.move 2023).top = 2002 ∧ (c.move 999).tag = false ∧ (c.move 2024).tag = false ∧
      (mkCap 0 0 1000 1000 1000).base = 1000 ∧ (mkCap 0 0 1000 1000 1000).top = 2000 := by decide +kernel

/-- Table 3.7: the roots decode to all of memory; C0 is null (R105). -/
theorem test_roots : (codeCap 0).base = 0 ∧ (codeCap 0).top = 2 ^ 30 ∧ (dataCap 0).base = 0 ∧ (dataCap 0).top = 2 ^ 30 ∧
    (runCtx.cphysSet 0 (dataCap 0)).cr 0 = Cap.null := by decide +kernel

/-- 04, "The instruction word": (q3) add w9, w10, w24 and (!q2) ldw w12, [c9 + 5]; NOP. -/
theorem test_instruction_words :
    encR { core := 0, q := 3, neg := false } 0 9 10 24 1 = 0o300112540001 ∧
    encI { core := 0, q := 2, neg := true } 16 12 9 5 = 0o250142200005 ∧ encR i0 4 0 0 0 0 = 0o002000000000 := by decide

/-- What a command leaves, where it answers a next state. -/
def after (i : Instr) (s : State) (p : State → Bool) : Bool := match exec i s with | .next t => p t | _ => false

/-- A word register of context 0 of core 0. -/
def wAt (t : State) (i : Nat) : Word := (ctxAt t 0 0).wr i

/-- The running state with words in W registers. -/
def withW (l : List (Nat × Word)) : State := withCtx (fun x => l.foldl (fun x p => x.setW p.1 p.2) x)

/-- 04: 0o77_600_200 by LHI 0o77 with a = 0, imm = 63, and LLO with a = 3, imm = 128 (R171). -/
theorem test_lhi : after (.lhi i0 1 0 63) runState (fun t => wAt t 1 == 0o77000000) = true := by decide +kernel
theorem test_llo : after (.llo i0 1 3 128) (withW [(1, 0o77000000)]) (fun t => wAt t 1 == 0o77600200) = true := by decide +kernel

/-- R167, R169: the wrapped sum, with AOV. -/
theorem test_add_wraps : after (.add i0 3 1 2) (withW [(1, 0x7ffffffff), (2, 1)])
    (fun t => wAt t 3 == 0x800000000 && bit (ctxAt t 0 0).psw 7) = true := by decide +kernel

/-- R170: amounts from 36 to 63. -/
theorem test_shl_long : after (.shl i0 3 1 2) (withW [(1, 5), (2, 40)]) (fun t => wAt t 3 == 0) = true := by decide +kernel
theorem test_sar_long : after (.sar i0 3 1 2) (withW [(1, 0x800000000), (2, 63)]) (fun t => wAt t 3 == 0xfffffffff) = true := by
  decide +kernel
theorem test_rol : after (.rol i0 3 1 2) (withW [(1, 3), (2, 37)]) (fun t => wAt t 3 == 6) = true := by decide +kernel

/-- Table 4.9: CLZ of 0 and of 1. -/
theorem test_clz_zero : after (.clz i0 3 1) runState (fun t => wAt t 3 == 36) = true := by decide +kernel
theorem test_clz_one : after (.clz i0 3 1) (withW [(1, 1)]) (fun t => wAt t 3 == 35) = true := by decide +kernel

/-- R162: an instruction whose guard fails changes only the pc. -/
theorem test_guard_annuls : after (.add { i0 with q := 1 } 3 1 2) (withW [(1, 5)])
    (fun t => wAt t 3 == 0 && ((ctxAt t 0 0).pcc.cursor == 257)) = true := by decide +kernel

/-- R213, R214 (04, the example in Proof): the load leaves W9, the next instruction reads it as it was. -/
def loadState : State :=
  { setCtx proofState 0 0 { runCtx with c := [(9, dataCap 8192)], w := [(9, 0o17)], psw := 32 } with mem := [(8192, word 0o52)] }
theorem test_proof_load : after (.ldw i0 9 9 0) loadState (fun t => wAt t 9 == 0o17 &&
    after (.add i0 10 9 0) t (fun u => wAt u 10 == 0o17 && wAt u 9 == 0o52)) = true := by decide +kernel
theorem test_run_load : after (.ldw i0 9 9 0) { loadState with safety := .run } (fun t => wAt t 9 == 0o52) = true := by decide +kernel

/-- 04: the STM of W1 = 0o77_600_200 resumed with COUNT 4 and MASK 0o76_000_000 stores W19 to W23 at [c6+4] to [c6+8]. -/
def stmState : State :=
  withCtx (fun x => { x with c := [(6, dataCap 8192)], w := [(19, 19), (20, 20), (21, 21), (22, 22), (23, 23)]
                             rsm0 := fval 35 33 1 ||| 4, rsm1 := 0o76000000 })
theorem test_stm_resumes : after (.stm i0 6 1 0) stmState (fun t =>
    (List.range 5).all (fun k => (mget t (8196 + k)).data == BitVec.ofNat 36 (19 + k)) && (mget t 8195).data == 0 &&
    (mget t 8201).data == 0 && (ctxAt t 0 0).rsmKind == 0) = true := by decide +kernel
theorem test_stm_mask : (List.range 32).filter (fun i => (0o77600200#36).getLsbD i) = [7, 16, 17, 18, 19, 20, 21, 22, 23] := by decide

/-- 03: the granule of 0o123_456_000 is bit 16 of word 2,507 of the bitmap. -/
theorem test_granule : bitmapAt (withRegs runState [(swpPg 0, 18, 8192), (swpPg 0, 19, 0o100000000), (swpPg 0, 20, 0o200000000)]) 0 0o123456000 =
    some (8192 + 2507, 16) := by decide +kernel

/-- Table 9.10: the heater's event words. -/
theorem test_heater_words :
    let e := eventOf 0o176200000000 0o001200000000 0o110057777000 0o010100000004
    e.trig.toNat = 1010 * 2 ^ 24 ∧ e.period.toNat = 10 * 2 ^ 24 ∧ e.refNo = 1 ∧ e.vital = false ∧ e.action = 4 ∧ e.chan = 5 ∧
      e.count = 4095 ∧ e.key = 0o0101 ∧ e.argv = 4 := by decide

/-- Table 9.12: the dimming event, for local channel 38. -/
theorem test_dimming_words :
    let e := eventOf 0o445600000000 0 0o046460000000 0o041200114632
    e.trig.toNat = 2350 * 2 ^ 24 ∧ e.refNo = 0 ∧ e.vital = true ∧ e.action = 3 ∧ e.chan = 38 ∧ e.count = 0 ∧ e.key = 0o0412 ∧
      e.argv = 39322 := by decide

/-- Table 10.10: lane B's PROPOSE at 0.078 µs, with lane A's and lane C's in the window: committed, lane C a dissent, and the
receipt in lane A's ring. -/
def voteState : State :=
  let s := withRegs runState [(sluicePg 9, 3, 3), (sluicePg 9, 4, 5), (sluicePg 9, 16, fval 24 14 50 ||| 2),
    (sluicePg 9, 17, fval 35 35 1 ||| fval 34 27 20), (sluicePg 9, 18, fval 35 35 1 ||| fval 34 27 21),
    (sluicePg 9, 19, fval 35 35 1 ||| fval 34 27 22), (chanPg 230, chanOff 230 0, fval 35 33 1 ||| fval 32 32 1),
    (propPg 9 0, 19, 0o11210000), (propPg 9 0, 21, fval 35 35 1)]
  setVoter { s with tt := 78 } 9 { voter s 9 with
    slots := [(8, some { die := 5, core := 85, ctx := 0, arg := some 39322, result := none, last := 0 })]
    wins := [{ chan := 230, key := 0o412, t0 := 12, props := [
      { lane := 0, die := 2, release := false, action := 3, arg := 39322 }, { lane := 2, die := 6, release := false, action := 3, arg := 39321 }] }] }
def laneBStamp : Stamp := { cls := 0, die := 5, core := 85, ctx := 0, comp := 21, priv := 0, set := false, epoch := 0 }
def tokens (v : Voter) (l : Nat) : Nat × Nat × Nat := (v.freeTok l, v.openTok l, v.heldTok l)
theorem test_vote_commit : after (.propose laneBStamp 9 1 0o046700000412) voteState (fun t =>
    let v := voter t 9
    decide (((kget (fun _ => none) v.slots 8).bind (fun y : PSlot => y.result)) = some 1 ∧ v.wins = [] ∧ tokens v 0 = (31, 0, 1) ∧
      tokens v 1 = (31, 0, 1) ∧ tokens v 2 = (32, 0, 0)) && (mget t (0o11210000 + 3)).data == 0o300000114632 &&
    !(chan t 230).safe) = true := by decide +kernel
theorem test_vote_tokens : tokens (voter voteState 9) 0 = (31, 1, 0) ∧ tokens (voter voteState 9) 2 = (31, 1, 0) ∧
    tokens (voter voteState 9) 1 = (32, 0, 0) := by decide +kernel

/-- With V3 = 0 the same disagreement is a mismatch: cause 2 (10, "A vote of two out of three"). -/
theorem test_vote_mismatch : after (.propose laneBStamp 9 1 0o046700000412)
    (setVoter (withRegs voteState [(sluicePg 9, 4, 1)]) 9 { voter voteState 9 with
      wins := [{ chan := 230, key := 0o412, t0 := 12, props := [{ lane := 0, die := 2, release := false, action := 3, arg := 39321 }] }] })
    (fun t => (chan t 230).safe && (chan t 230).cause == 2 && !(chan t 230).gd) = true := by decide +kernel

/-- Table 11.3: the bulk pool when lock is lost. -/
def poolState : State :=
  cwyUp (withLink runState 545 (fun l => { l with bulk := { s := 20, f := 10, b := 30, r := 4 }, st := .up })) 1 .up
theorem test_lock_loss : after (.laneLockLoss (.cwyOut 1)) poolState (fun t =>
    decide ((linkAt t 545).bulk = { s := 20, f := 0, b := 30, r := 0 })) = true := by decide +kernel

/-- Table 11.3: the exchange of ackseq 1,004 and free 64 with 1,001 to 1,014 in the replay buffer, and the retransmission of ten. -/
theorem test_exchange : after (.retrainExchange (.cwyOut 1)) (withLink poolState 545 (fun l => { l with
      st := .retrain, bulk := { s := 20, f := 0, b := 0, r := 0 }, rxSeq := 1005
      replay := (List.range 14).map (fun i => (1001 + i, false)) })) (fun t =>
    decide ((linkAt t 545).bulk = { s := 54, f := 10, b := 0, r := 0 } ∧ (linkAt t 545).replay.length = 10)) = true := by decide +kernel

/-- Table 0.4: the CRC-32 of IEEE 802.3, by its published check value for the nine octets "123456789". -/
theorem test_crc32 : crc32 [0x31, 0x32, 0x33, 0x34, 0x35, 0x36, 0x37, 0x38, 0x39] = 0xCBF43926 := by decide +kernel

/-- R645: IDCODE of a TFW8X. -/
theorem test_idcode : after .idcode State.reset (fun t => t.tap.dr == 0x92F18573) = true := by decide +kernel

/-- R630: a write of SWRST without its key is refused with INFO 9; R633: DIERST outside Boot and Proof with 8. -/
theorem test_swrst_key : after (.swrst 0) runState (fun t => fld (rget t (pkgPg 0) 6) 29 0 == 9 && fld (rget t (pkgPg 0) 6) 34 30 == 29) = true := by decide +kernel

/-! ## Every check of well-formedness refuses a term -/

theorem test_wf_channel : Instr.wf (.rel 768) = false ∧ Instr.wf (.rel 767) = true ∧ Instr.wf (.m1Read 1023) = false ∧
    Instr.wf (.burstEnd 768) = false ∧ Instr.wf (.windowExpiry 768 0) = false ∧ Instr.wf (.chcfgWrite 768 0) = false := by decide
theorem test_wf_lane : Instr.wf (.presRead tapStamp 0 3) = false ∧ Instr.wf (.presRead tapStamp 0 2) = true ∧
    Instr.wf (.laneWrite 0 3 0) = false ∧ Instr.wf (.propSlotExpiry 0 3 0) = false := by decide
theorem test_wf_link : Instr.wf (.unitTransmit (.xbarTo 0 7) .dma 0) = false ∧ Instr.wf (.unitTransmit (.xbarTo 0 6) .dma 7) = false ∧
    Instr.wf (.unitTransmit (.bridge 0 0) .dma 7) = true ∧
    Instr.wf (.laneLockLoss (.xbarFrom 0 7)) = false ∧ Instr.wf (.crossbarGrant 0 7 0 ⟨true, false⟩) = false ∧
    Instr.wf (.crossbarGrant 0 0 7 ⟨true, false⟩) = false ∧ Instr.wf (.crossbarGrant 0 6 6 ⟨true, false⟩) = true := by decide
theorem test_wf_lists : Instr.wf (.sampleFrame 0 []) = false ∧ Instr.wf (.sampleFrame 0 (aFrame 1 2)) = true ∧
    Instr.wf (.extest [.gd 768] [] []) = false ∧ Instr.wf (.extest [] [.fb 767, .service 16] [.emp 1 97]) = true ∧
    Instr.wf (.extest [] [] [.emp 0 98]) = false := by decide
theorem test_wf_refs : Instr.wf (.syncPacket 0 ⟨0, 0, 0⟩ []) = false := by decide
theorem test_wf_gate : Instr.wf (.targetGateWrite 160 0 0) = false ∧ Instr.wf (.targetGateWrite 159 0 0) = true := by decide
theorem test_wf_page : Instr.wf (.chanSrst 0 3) = false ∧ Instr.wf (.chanSrst 0 2) = true := by decide
theorem test_wf_domain : Instr.wf (.domRst 44) = false ∧ Instr.wf (.domRst 519) = false ∧ Instr.wf (.domRst 43) = true ∧
    Instr.wf (.domRst 518) = true := by decide
theorem test_wf_frame : Instr.wf (.canFrameReceive 0 ⟨aCan 5, .good, 0⟩) = true ∧ Instr.wf (.canFrameReceive 0 ⟨aCan 2048, .good, 0⟩) = false ∧
    Instr.wf (.canFrameReceive 0 ⟨{ aCan 5 with data := [] }, .good, 0⟩) = false ∧
    Instr.wf (.canFrameReceive 0 ⟨{ aCan 5 with fdf := true, rtr := true, data := [] }, .error, 0⟩) = false := by decide
end Sys2Proof.Tests
end

section
/-! The registers of a context (R105, R144 to R146, R152). Word and capability registers are the same construction twice: a register
file whose register 0 is wired to a constant, and an index that leaves the eight global names alone and moves the others by a base.
The laws are proved for the construction, and each read after a write follows from the index being injective. -/

namespace Sys2Proof.Machine

/-! ## A register file whose register 0 is wired -/

section
variable {α : Type}

/-- Register i of a file whose register 0 is wired to z. -/
def regfileGet (z : α) (m : KMap α) (i : Nat) : α := if i = 0 then z else kget (fun _ => z) m i

/-- The file after a write of register i; a write of register 0 is discarded. -/
def regfileSet [DecidableEq α] (z : α) (m : KMap α) (i : Nat) (v : α) : KMap α :=
  if i = 0 then m else kset (fun _ => z) m i v

theorem regfileGet_regfileSet [DecidableEq α] (z : α) (m : KMap α) (i j : Nat) (v : α) :
    regfileGet z (regfileSet z m i v) j = if j = i ∧ i ≠ 0 then v else regfileGet z m j := by
  by_cases hi : i = 0
  · simp [regfileSet, hi]
  · by_cases hj : j = 0
    · simp [regfileGet, hj, Ne.symm hi]
    · simp [regfileGet, regfileSet, hi, hj, kget_kset]

end

/-! ## The physical register that a name stands for -/

/-- Names below 8 are global; the others stand for the registers from a base on. -/
def windowIdx (base k : Nat) : Nat := if k < 8 then k else base + k

theorem windowIdx_inj (base : Nat) {j k : Nat} : windowIdx base j = windowIdx base k ↔ j = k := by
  unfold windowIdx
  split <;> split <;> omega

theorem windowIdx_eq_zero (base : Nat) {k : Nat} : windowIdx base k = 0 ↔ k = 0 :=
  windowIdx_inj base (k := 0)

/-- A read of name j after a write of name k, both with the same base. -/
theorem regfileGet_windowIdx_regfileSet {α : Type} [DecidableEq α] (z : α) (m : KMap α) (base k j : Nat) (v : α) :
    regfileGet z (regfileSet z m (windowIdx base k) v) (windowIdx base j) =
      if j = k ∧ k ≠ 0 then v else regfileGet z m (windowIdx base j) := by
  simp only [regfileGet_regfileSet, windowIdx_inj, ne_eq, windowIdx_eq_zero]

namespace Ctx

/-! ## Word registers -/

/-- Where W8 to W31 lie: in the fault bank while PSW.FB is 1, else in window CWP (R145, R152). -/
def wBase (x : Ctx) : Nat := if x.fb then 192 else 24 * x.cwp

theorem wIdx_eq_windowIdx (x : Ctx) (k : Nat) : x.wIdx k = windowIdx x.wBase k := by
  unfold wIdx windowIdx wBase
  split
  · rfl
  · split <;> rfl

theorem wr_eq_regfileGet (x : Ctx) (k : Nat) : x.wr k = regfileGet 0 x.w (windowIdx x.wBase k) := by
  rw [← wIdx_eq_windowIdx]
  rfl

theorem setW_eq_regfileSet (x : Ctx) (k : Nat) (v : Word) :
    x.setW k v = { x with w := regfileSet 0 x.w (windowIdx x.wBase k) v } := by
  rw [← wIdx_eq_windowIdx]
  unfold setW wphysSet regfileSet
  split <;> rfl

theorem wr_setW (x : Ctx) (k j : Nat) (v : Word) : (x.setW k v).wr j = if j = k ∧ k ≠ 0 then v else x.wr j := by
  rw [setW_eq_regfileSet, wr_eq_regfileGet, wr_eq_regfileGet x j]
  exact regfileGet_windowIdx_regfileSet 0 x.w x.wBase k j v

@[simp] theorem wr_zero (x : Ctx) : x.wr 0 = 0 := rfl

theorem setW_frame (x : Ctx) (k : Nat) (v : Word) : x.setW k v = { x with w := (x.setW k v).w } := by
  rw [setW_eq_regfileSet]

/-- Windows lie 24 registers apart, so two of them share none of W8 to W31 (R145). -/
theorem windowIdx_ne_of_cwp_ne {c d j k : Nat} (hcd : c ≠ d) (hj : 8 ≤ j) (hj' : j < 32) (hk : 8 ≤ k) (hk' : k < 32) :
    windowIdx (24 * c) j ≠ windowIdx (24 * d) k := by
  unfold windowIdx
  rw [if_neg (by omega), if_neg (by omega)]
  omega

/-- A write of a windowed name leaves the registers of every other window as they were. -/
theorem wr_setW_of_cwp_ne (x y : Ctx) {k j : Nat} (v : Word) (hy : y.fb = false) (hx : x.fb = false) (hcwp : y.cwp ≠ x.cwp)
    (hw : y.w = x.w) (hk : 8 ≤ k) (hk' : k < 32) (hj : 8 ≤ j) (hj' : j < 32) :
    ({ y with w := (x.setW k v).w } : Ctx).wr j = y.wr j := by
  have hyBase : y.wBase = 24 * y.cwp := by simp [wBase, hy]
  have hxBase : x.wBase = 24 * x.cwp := by simp [wBase, hx]
  have hne := windowIdx_ne_of_cwp_ne hcwp hj hj' hk hk'
  calc ({ y with w := (x.setW k v).w } : Ctx).wr j
      = regfileGet 0 (x.setW k v).w (windowIdx y.wBase j) := wr_eq_regfileGet _ j
    _ = regfileGet 0 (regfileSet 0 y.w (windowIdx x.wBase k) v) (windowIdx y.wBase j) := by rw [setW_eq_regfileSet, hw]
    _ = regfileGet 0 y.w (windowIdx y.wBase j) := by
        rw [regfileGet_regfileSet, hyBase, hxBase, if_neg fun h => hne h.1]
    _ = y.wr j := (wr_eq_regfileGet y j).symm

theorem wIdx_eq_window (x : Ctx) (k : Nat) :
    x.wIdx k = if k < 8 then k else if x.fb then 200 + (k - 8) else 8 + (24 * x.cwp + k - 8) := by
  unfold wIdx
  split
  · rfl
  · split <;> omega

/-! ## Capability registers -/

theorem cr_eq_regfileGet (x : Ctx) (k : Nat) : x.cr k = regfileGet Cap.null x.c (windowIdx (8 * x.cwp) k) := rfl

theorem setC_eq_regfileSet (x : Ctx) (k : Nat) (v : Cap) :
    x.setC k v = { x with c := regfileSet Cap.null x.c (windowIdx (8 * x.cwp) k) v } := by
  change x.cphysSet (windowIdx (8 * x.cwp) k) v = _
  unfold cphysSet regfileSet
  split <;> rfl

theorem cr_setC (x : Ctx) (k j : Nat) (v : Cap) : (x.setC k v).cr j = if j = k ∧ k ≠ 0 then v else x.cr j := by
  rw [setC_eq_regfileSet]
  exact regfileGet_windowIdx_regfileSet Cap.null x.c (8 * x.cwp) k j v

@[simp] theorem cr_zero (x : Ctx) : x.cr 0 = Cap.null := rfl

theorem setC_frame (x : Ctx) (k : Nat) (v : Cap) : x.setC k v = { x with c := (x.setC k v).c } := by
  rw [setC_eq_regfileSet]

theorem cIdx_eq_window (x : Ctx) (k : Nat) : x.cIdx k = if k < 8 then k else 8 + (8 * x.cwp + k - 8) := by
  unfold cIdx
  split
  · rfl
  · omega

end Ctx

/-! ## Predicates -/

/-- The bits of a number whose bit k is replaced, in the form in which Ctx.setQ replaces it. -/
theorem testBit_replaceBit (n k j : Nat) (v : Bool) :
    ((n / 2 ^ (k + 1)) * 2 ^ (k + 1) + bnat v * 2 ^ k + n % 2 ^ k).testBit j = if j = k then v else n.testBit j := by
  have hsplit : (n / 2 ^ (k + 1)) * 2 ^ (k + 1) + bnat v * 2 ^ k + n % 2 ^ k =
      2 ^ k * (2 ^ 1 * (n / 2 ^ (k + 1)) + bnat v) + n % 2 ^ k := by ring
  have hlow : n % 2 ^ k < 2 ^ k := Nat.mod_lt _ (by positivity)
  have hbit : bnat v < 2 ^ 1 := by cases v <;> decide
  rw [hsplit, Nat.testBit_two_pow_mul_add _ hlow]
  rcases Nat.lt_trichotomy j k with hlt | rfl | hgt
  · simp [hlt, hlt.ne, Nat.testBit_mod_two_pow]
  · cases v <;> simp [bnat]
  · have hplace : j - k - 1 + (k + 1) = j := by omega
    rw [if_neg (by omega), if_neg hgt.ne', Nat.testBit_two_pow_mul_add _ hbit, if_neg (by omega), Nat.testBit_div_two_pow, hplace]

namespace Ctx

@[simp] theorem qr_zero (x : Ctx) : x.qr 0 = true := rfl

theorem setQ_frame (x : Ctx) (k : Nat) (v : Bool) : x.setQ k v = { x with q := (x.setQ k v).q } := by
  unfold setQ
  split <;> rfl

theorem getLsbD_setQ (x : Ctx) {k j : Nat} (v : Bool) (hk : k ≠ 0) (hj : j < 8) :
    (x.setQ k v).q.getLsbD j = if j = k then v else x.q.getLsbD j := by
  unfold setQ
  rw [if_neg hk, BitVec.getLsbD_ofNat, testBit_replaceBit]
  simp [hj, BitVec.testBit_toNat]

theorem qr_setQ (x : Ctx) {k j : Nat} (v : Bool) (hj : j < 8) :
    (x.setQ k v).qr j = if j = k ∧ k ≠ 0 then v else x.qr j := by
  by_cases hk : k = 0
  · simp [setQ, hk]
  · by_cases hj0 : j = 0
    · simp [hj0, Ne.symm hk]
    · simp [qr, hj0, hk, getLsbD_setQ x v hk hj]

end Ctx

/-! ## The statement -/

theorem wordRegisters : Rule.WordRegisters := by
  intro x k v hk
  refine ⟨fun j _ => x.wr_setW k j v, x.wr_zero, x.wIdx_eq_window k, ?_, x.setW_frame k v⟩
  intro y hk8 hy hx hcwp hw j hj8 hj
  exact Ctx.wr_setW_of_cwp_ne x y v hy hx hcwp hw hk8 hk hj8 hj

theorem capabilityRegisters : Rule.CapabilityRegisters := fun x k v _ =>
  ⟨fun j _ => x.cr_setC k j v, x.cr_zero, x.cIdx_eq_window k, x.setC_frame k v⟩

theorem predicateRegisters : Rule.PredicateRegisters := fun x k v _ =>
  ⟨fun _ hj => x.qr_setQ v hj, x.qr_zero, x.setQ_frame k v⟩

/-- Settles O7: the index of a name is injective, so a read after a write is that of the register file; Q is a word of eight bits
with one replaced. -/
theorem registersReadWhatWasWritten : Obligations.RegistersReadWhatWasWritten :=
  ⟨wordRegisters, capabilityRegisters, predicateRegisters⟩

end Sys2Proof.Machine
end

section
/-! A register after a write and after a capture (R79, R80), and a request to the die services, whose page has neither a target gate
nor a port that checks parity (R35, R380). -/

namespace Sys2Proof.Machine

/-! ## Registers after a write and after a capture -/

theorem rget_rset (s : State) {pg off p o : Nat} (v : Word) (hoff : off < 512) (ho : o < 512) :
    rget (rset s pg off v) p o = if p = pg ∧ o = off then v else rget s p o := by
  split
  · next h => rw [h.1, h.2, rget_rset_same]
  · next h => exact rget_rset_other s v (by omega)

/-- A saturating count of 18 bits counts one more, up to its largest value. -/
theorem fld_incSat_count (w : Word) : fld (incSat w 17 0) 17 0 = min 262143 (fld w 17 0 + 1) := by
  have hlt : fld w 17 0 < 2 ^ 18 := fld_lt w 17 0
  unfold incSat
  split <;> rw [fld_setFld_same _ _ _ _ (by decide)] <;> omega

/-- What ERR_FIRST holds after it captures an error (R79). -/
def firstError (cause info : Nat) : Word := fval 35 35 1 ||| fval 34 30 cause ||| fval 29 0 info

@[simp] theorem rget_evPut (s : State) (pg off : Nat) (w : Word) (p o : Nat) : rget (evPut s pg off w) p o = rget s p o := rfl

theorem rget_irqPend (s : State) (pg b : Nat) {p o : Nat} (ho : o < 512) :
    rget (irqPend s pg b) p o = if p = pg ∧ o = 9 then setBit (rget s pg 9) b true else rget s p o := by
  unfold irqPend
  rw [rget_rset _ _ (by decide) ho, rget_evPut, rget_evPut]

theorem rget_rinc (s : State) {pg off hi lo p o : Nat} (hoff : off < 512) (ho : o < 512) :
    rget (rinc s pg off hi lo) p o = if p = pg ∧ o = off then incSat (rget s pg off) hi lo else rget s p o :=
  rget_rset s _ hoff ho

@[simp] theorem rget_evPut_unless (s : State) (c : Prop) [Decidable c] (pg off : Nat) (w : Word) (p o : Nat) :
    rget (if c then s else evPut s pg off w) p o = rget s p o := by
  split <;> rfl

/-- The registers after a capture: ERR_COUNT counts it; without a first error, ERR_FIRST and the pending bit take it. -/
theorem rget_capture (s : State) (pg cause info : Nat) {p o : Nat} (ho : o < 512) :
    rget (capture s pg cause info) p o =
      if p = pg ∧ o = 7 then incSat (rget s pg 7) 17 0
      else if bit (rget s pg 6) 35 then rget s p o
      else if p = pg ∧ o = 6 then firstError cause info
      else if p = pg ∧ o = 9 then setBit (rget s pg 9) 0 true
      else rget s p o := by
  unfold capture
  dsimp only
  by_cases held : bit (rget s pg 6) 35 = true
  · rw [if_pos held, if_pos held, rget_rinc _ (by decide) ho, rget_evPut_unless, rget_evPut_unless, rget_evPut, rget_evPut]
  · rw [if_neg held, if_neg held, rget_irqPend _ _ _ ho]
    simp only [rget_rset _ _ (show 6 < 512 by decide) ho, rget_rset _ _ (show 6 < 512 by decide) (show 9 < 512 by decide),
      rget_rinc _ (show 7 < 512 by decide) ho, rget_rinc _ (show 7 < 512 by decide) (show 9 < 512 by decide), rget_evPut_unless,
      rget_evPut, firstError]
    by_cases h7 : p = pg ∧ o = 7
    · simp [h7]
    · by_cases h9 : p = pg ∧ o = 9
      · simp [h9]
      · simp [h7, h9]

theorem captured_capture (s : State) (pg cause info : Nat) : Captured s (capture s pg cause info) pg cause info where
  count := by
    rw [rget_capture _ _ _ _ (by decide), if_pos ⟨rfl, rfl⟩]
    exact fld_incSat_count _
  first h := by
    rw [rget_capture _ _ _ _ (by decide), rget_capture _ _ _ _ (by decide)]
    simp only [h, true_and]
    exact ⟨rfl, bit_setBit_same _ _ _ (by decide)⟩
  held h := by
    rw [rget_capture _ _ _ _ (by decide), if_neg (by simp), if_pos h]

theorem regsKept_capture (s : State) (pg cause info : Nat) : RegsKept s (capture s pg cause info) (captureRegs pg) := by
  intro p o ho hne
  have h7 : ¬ (p = pg ∧ o = 7) := fun h => hne ⟨h.1, .inr (.inl h.2)⟩
  have h6 : ¬ (p = pg ∧ o = 6) := fun h => hne ⟨h.1, .inl h.2⟩
  have h9 : ¬ (p = pg ∧ o = 9) := fun h => hne ⟨h.1, .inr (.inr h.2)⟩
  rw [rget_capture s pg cause info ho, if_neg h7, if_neg h6, if_neg h9, ite_self]

@[simp] theorem evPut_vens (s : State) (pg off : Nat) (w : Word) : (evPut s pg off w).vens = s.vens := rfl

@[simp] theorem rinc_vens (s : State) (pg off hi lo : Nat) : (rinc s pg off hi lo).vens = s.vens := rfl

@[simp] theorem irqPend_vens (s : State) (pg b : Nat) : (irqPend s pg b).vens = s.vens := rfl

@[simp] theorem evPut_unless_vens (s : State) (c : Prop) [Decidable c] (pg off : Nat) (w : Word) :
    (if c then s else evPut s pg off w).vens = s.vens := by
  split <;> rfl

@[simp] theorem capture_vens (s : State) (pg cause info : Nat) : (capture s pg cause info).vens = s.vens := by
  unfold capture
  dsimp only
  by_cases held : bit (rget s pg 6) 35 = true
  · rw [if_pos held, rinc_vens, evPut_unless_vens, evPut_vens]
  · rw [if_neg held, irqPend_vens, rset_vens, rinc_vens, evPut_unless_vens, evPut_vens]

/-- The answer of an access is no part of what a capture speaks of. -/
theorem captured_replyWord {s t : State} {w : Word} {pg cause info : Nat} (h : Captured (replyWord s w) t pg cause info) :
    Captured s t pg cause info :=
  ⟨h.count, h.first, h.held⟩

/-! ## Requests to the die services -/

theorem unitDo_of_works {s : State} {pg : Nat} (hw : unitWorks s pg = true) (f : State → State) : unitDo s pg f = f s := if_pos hw

theorem portReach_dsvPg (s : State) (d : Nat) : portReach s (dsvPg d) = pageReach s (dsvPg d) := by
  have hport : portOfPage (dsvPg d) = none := by
    unfold portOfPage dsvPg diePg pageNo
    rw [if_neg (by omega)]
  unfold portReach
  rw [hport]
  cases pageReach s (dsvPg d) <;> rfl

/-- No target gate stands in front of the die services (Table 8.1). -/
theorem targetOf_dsvPg (s : State) {d off : Nat} (hd : d < 8) (hoff : off < 512) : targetOf s (regAddr (dsvPg d) off) = none := by
  have hspace : regAddr (dsvPg d) off / 134217728 = 1 := by
    unfold regAddr dsvPg diePg pageNo
    omega
  have hpage : regAddr (dsvPg d) off / 512 % 32768 = dsvPg d := by
    unfold regAddr dsvPg diePg pageNo
    omega
  have hgate : pageTarget (dsvPg d) = none := by
    unfold pageTarget dsvPg diePg pageNo
    exact if_neg (by omega)
  unfold targetOf
  simp only [hspace, one_ne_zero, if_false, if_true]
  unfold pageAddr
  dsimp only
  rw [hpage]
  split
  · next h =>
    split at h
    · cases h
      exact hgate
    · split at h <;> cases h
  · rfl

/-- A request to the die services of a die that works reaches them. -/
theorem unitRequest_dsvPg {s : State} {d off : Nat} (hd : d < 8) (hoff : off < 512) (hw : unitWorks s (dsvPg d) = true)
    (st : Stamp) (k : Kind) (f : State → State) : unitRequest s st (dsvPg d) off k f = f (replyWord s 0) := by
  obtain ⟨hclk, hreach⟩ : clocked s = true ∧ pageReach s (dsvPg d) = .ok := by simpa [unitWorks] using hw
  have hgrant : targetOk s st (regAddr (dsvPg d) off) k = true := by
    unfold targetOk
    rw [targetOf_dsvPg s hd hoff]
  simp [unitRequest, hclk, portReach_dsvPg, hreach, hgrant]

end Sys2Proof.Machine
end

section
/-! The vital enables (R507 to R512, R718). Every command ends in at most one write of a generator: the lemmas say which, case by
case, and the statement follows from what a write of a generator leaves unchanged. -/

namespace Sys2Proof.Machine

/-! ## A write of a generator -/

@[simp] theorem ven_setVen_same (s : State) (i : Nat) (v : Ven) : ven (setVen s i v) i = v := by simp [ven, setVen]

theorem ven_setVen_other (s : State) {i j : Nat} (v : Ven) (h : j ≠ i) : ven (setVen s i v) j = ven s j := by
  simp [ven, setVen, kget_kset_other _ _ _ h]

@[simp] theorem ven_replyWord (s : State) (w : Word) (i : Nat) : ven (replyWord s w) i = ven s i := rfl

@[simp] theorem vencfg_replyWord (s : State) (w : Word) (i : Nat) : vencfg (replyWord s w) i = vencfg s i := rfl

/-- Of the state s, t changes generator i and the answer of the access alone. -/
def OnlyVen (i : Nat) (s t : State) : Prop :=
  t = { s with vens := t.vens, busReply := t.busReply } ∧ ∀ j, j ≠ i → ven t j = ven s j

theorem onlyVen_setVen (s : State) (i : Nat) (v : Ven) : OnlyVen i s (setVen s i v) :=
  ⟨rfl, fun _ h => ven_setVen_other s v h⟩

theorem onlyVen_setVen_replyWord (s : State) (w : Word) (i : Nat) (v : Ven) : OnlyVen i s (setVen (replyWord s w) i v) :=
  ⟨rfl, fun _ h => ven_setVen_other (replyWord s w) v h⟩

section
variable {s : State} {i : Nat}

/-! ## Stops (R509) -/

/-- A generator that has stopped for a reason at an instant. -/
def Ven.stop (v : Ven) (why at_ : Nat) : Ven :=
  { v with running := false, toggling := false, why := why, kick0 := 0, kick1 := 0, stopAt := some at_ }

theorem venStop_of_running (h : (ven s i).running = true) (why : Nat) :
    venStop s i why = setVen s i ((ven s i).stop why s.ticks) := if_pos h

/-- A higher reason of the fabric cycle of the stop replaces the one recorded. -/
theorem venStop_of_higher {why : Nat} (h : (ven s i).running = false) (hat : (ven s i).stopAt = some s.ticks)
    (hwhy : (ven s i).why < why) : venStop s i why = setVen s i { ven s i with why := why } := by
  simp [venStop, h, hat, hwhy]

/-- A reason that is not higher, or comes later, changes nothing. -/
theorem venStop_of_kept {why : Nat} (h : (ven s i).running = false) (hkept : (ven s i).stopAt ≠ some s.ticks ∨ why ≤ (ven s i).why) :
    venStop s i why = s := by
  have : ¬ ((ven s i).stopAt = some s.ticks ∧ (ven s i).why < why) := fun ⟨hat, hlt⟩ =>
    hkept.elim (fun hne => hne hat) (Nat.not_le.mpr hlt)
  simp [venStop, h, this]

/-! ## Windows (R508, R510) -/

/-- The window of a generator is over. -/
def windowOver (s : State) (i : Nat) : Prop := (ven s i).winStart + venWindow s i ≤ s.ticks

/-- A window is kicked by both compartments, from two dies. -/
theorem Ven.kicked_iff (v : Ven) :
    v.kicked = true ↔ ∃ a b : BitVec 3, v.kick0.getLsbD a.toNat = true ∧ v.kick1.getLsbD b.toNat = true ∧ a ≠ b := by
  simp only [Ven.kicked, List.any_eq_true, List.mem_range, Bool.and_eq_true, bne_iff_ne, ne_eq]
  constructor
  · rintro ⟨a, ha, h0, b, hb, h1, hne⟩
    have ea : (BitVec.ofNat 3 a).toNat = a := Nat.mod_eq_of_lt ha
    have eb : (BitVec.ofNat 3 b).toNat = b := Nat.mod_eq_of_lt hb
    exact ⟨BitVec.ofNat 3 a, BitVec.ofNat 3 b, by rwa [ea], by rwa [eb], fun h => hne (by rw [← ea, h, eb])⟩
  · rintro ⟨a, b, h0, h1, hne⟩
    exact ⟨a.toNat, a.isLt, h0, b.toNat, b.isLt, h1, fun h => hne (BitVec.eq_of_toNat_eq h)⟩

theorem venWindowEnd_of_stopped (h : (ven s i).running = false) : venWindowEnd s i = s := by simp [venWindowEnd, h]

theorem venWindowEnd_of_open (h : ¬ windowOver s i) : venWindowEnd s i = s := if_neg fun hc => h hc.2

theorem venWindowEnd_of_kicked (hrun : (ven s i).running = true) (hover : windowOver s i) (hk : (ven s i).kicked = true) :
    venWindowEnd s i = setVen s i { ven s i with
      toggling := true, next := (ven s i).next + 1, kick0 := 0, kick1 := 0, winStart := (ven s i).winStart + venWindow s i } := by
  unfold venWindowEnd
  dsimp only
  rw [if_pos ⟨hrun, hover⟩, if_pos hk]

theorem venWindowEnd_of_not_kicked (hrun : (ven s i).running = true) (hover : windowOver s i) (hk : (ven s i).kicked = false) :
    venWindowEnd s i = setVen s i ((ven s i).stop 2 ((ven s i).winStart + venWindow s i)) := by
  unfold venWindowEnd
  dsimp only
  rw [if_pos ⟨hrun, hover⟩, if_neg (by simp [hk]), venStop_of_running hrun, ven_setVen_same]
  rfl

/-! ## Kicks (R508, R509) -/

section
variable {st : Stamp} {v : Word} (hend : venWindowEnd s i = s)
include hend

/-- A kick by a compartment that is neither of the two is captured. -/
theorem kickStore_of_stranger (hA : st.comp.toNat ≠ fld (vencfg s i) 33 26) (hB : st.comp.toNat ≠ fld (vencfg s i) 25 18) :
    kickStore s i st v = capture s (dsvPg i) 17 (256 * st.die.toNat + st.comp.toNat) := by
  unfold kickStore
  dsimp only
  rw [hend, if_pos ⟨hA, hB⟩]

/-- A wrong value of one of the two compartments is a reason to stop. -/
theorem kickStore_of_wrong (hc : st.comp.toNat = fld (vencfg s i) 33 26 ∨ st.comp.toNat = fld (vencfg s i) 25 18)
    (hv : fld v 17 0 ≠ (ven s i).next.toNat) : kickStore s i st v = venStop s i 3 := by
  unfold kickStore
  dsimp only
  rw [hend, if_neg (by tauto), if_pos hv]

theorem kickStore_of_first (hrun : (ven s i).running = true) (hc : st.comp.toNat = fld (vencfg s i) 33 26)
    (hv : fld v 17 0 = (ven s i).next.toNat) :
    kickStore s i st v = setVen s i { ven s i with kick0 := kickFrom (ven s i).kick0 st.die } := by
  unfold kickStore
  dsimp only
  rw [hend, if_neg (by tauto), if_neg (not_not.mpr hv), if_neg (by simp [hrun]), if_pos hc]

theorem kickStore_of_second (hrun : (ven s i).running = true) (hc : st.comp.toNat = fld (vencfg s i) 25 18)
    (hA : st.comp.toNat ≠ fld (vencfg s i) 33 26) (hv : fld v 17 0 = (ven s i).next.toNat) :
    kickStore s i st v = setVen s i { ven s i with kick1 := kickFrom (ven s i).kick1 st.die } := by
  unfold kickStore
  dsimp only
  rw [hend, if_neg (by tauto), if_neg (not_not.mpr hv), if_neg (by simp [hrun]), if_neg hA]

end

/-- The value of a kick, as the store to VENKICK carries it. -/
theorem fld_setWidth_kick (seq : BitVec 18) : fld (seq.setWidth 36) 17 0 = seq.toNat := by
  simp only [fld, BitVec.toNat_setWidth, Nat.shiftRight_zero]
  omega

/-! ## Arming (R511) -/

theorem armRefused_iff (s : State) (i : Nat) :
    armRefused s i = true ↔
      fld (vencfg s i) 17 0 < 100 ∨ 100000 < fld (vencfg s i) 17 0 ∨ (ven s i).running = true ∨
        (s.safety ≠ .run ∧ s.safety ≠ .degraded) ∨ clsVital (compcls s i (fld (vencfg s i) 33 26)) = false ∨
        clsVital (compcls s i (fld (vencfg s i) 25 18)) = false ∨
        pairOf s i (fld (vencfg s i) 33 26) (fld (vencfg s i) 25 18) = false := by
  simp only [armRefused, Bool.or_eq_true, Bool.not_eq_true', Bool.and_eq_false_iff, Bool.or_eq_false_iff, decide_eq_true_eq,
    beq_eq_false_iff_ne]
  tauto

/-! ## The commands -/

section
variable (gen : Bool) (hw : unitWorks s (dsvPg (bnat gen)) = true)
include hw

theorem exec_arm : exec (.arm gen) s = .next (venArm s (bnat gen)) := congrArg done (unitDo_of_works hw _)

theorem exec_stop : exec (.stop gen) s = .next (venStop s (bnat gen) 5) := congrArg done (unitDo_of_works hw _)

theorem exec_venWindowEnd : exec (.venWindowEnd gen) s = .next (venWindowEnd s (bnat gen)) := congrArg done (unitDo_of_works hw _)

theorem exec_venkick (st : Stamp) (seq : BitVec 18) :
    exec (.venkick st gen seq) s = .next (kickStore (replyWord s 0) (bnat gen) st (seq.setWidth 36)) :=
  congrArg done (unitRequest_dsvPg (by cases gen <;> decide) (by decide) hw _ _ _)

end

end

/-! ## The statement -/

/-- Settles O47: each clause is one branch of the command it names, and that branch writes generator i alone or is a capture. -/
theorem vitalEnables : Obligations.VitalEnables := by
  unfold Obligations.VitalEnables
  intro s st gen seq a b i pg x cfg compA compB done_ only stopped hw
  have kick := exec_venkick gen hw st seq
  have seqEq : seq = x.next → fld (seq.setWidth 36) 17 0 = x.next.toNat := fun h => by rw [fld_setWidth_kick, h]
  have seqNe : seq ≠ x.next → fld (seq.setWidth 36) 17 0 ≠ x.next.toNat := fun h e =>
    h (BitVec.eq_of_toNat_eq ((fld_setWidth_kick seq).symm.trans e))
  have onlyReply : ∀ v, only (setVen (replyWord s 0) i v) := onlyVen_setVen_replyWord s 0 i
  have stoppedOf : ∀ {t why at_}, ven t i = x.stop why at_ → stopped t why := fun h => by simp [stopped, h, Ven.stop]
  refine ⟨?arm, ?refused, ?opened, ?ended, ?stop, ?higher, ?kept, ?wrongLate⟩
  case arm =>
    intro hA hB hpair hmin hmax hstopped hsafe
    have ok : ¬ armRefused s i = true := by
      rw [armRefused_iff]
      rintro (h | h | h | h | h | h | h)
      · exact absurd hmin (Nat.not_le.mpr h)
      · exact absurd hmax (Nat.not_le.mpr h)
      · exact absurd (hstopped.symm.trans h) (by decide)
      · exact hsafe.elim h.1 h.2
      · exact absurd (hA.symm.trans h) (by decide)
      · exact absurd (hB.symm.trans h) (by decide)
      · exact absurd (hpair.symm.trans h) (by decide)
    exact ⟨_, (exec_arm gen hw).trans (congrArg _ (if_neg ok)), onlyVen_setVen s i _, ven_setVen_same s i _⟩
  case refused =>
    intro h
    exact ⟨_, (exec_arm gen hw).trans (congrArg _ (if_pos ((armRefused_iff s i).mpr h))), capture_vens .., captured_capture ..,
      regsKept_capture _ _ _ _⟩
  case opened =>
    intro hrun hopen
    have hend : venWindowEnd (replyWord s 0) i = replyWord s 0 := venWindowEnd_of_open hopen
    refine ⟨?_, ?_, ?_, ?_, ?_⟩
    · intro hseq hc
      exact ⟨_, kick.trans (congrArg _ (kickStore_of_first hend hrun hc (seqEq hseq))), onlyReply _, ven_setVen_same ..⟩
    · intro hseq hc hne
      exact ⟨_, kick.trans (congrArg _ (kickStore_of_second hend hrun hc (fun h => hne (h.symm.trans hc)) (seqEq hseq))),
        onlyReply _, ven_setVen_same ..⟩
    · intro hseq hc
      have hstop := venStop_of_running (s := replyWord s 0) hrun 3
      exact ⟨_, kick.trans (congrArg _ ((kickStore_of_wrong hend hc (seqNe hseq)).trans hstop)), onlyReply _,
        stoppedOf (ven_setVen_same ..)⟩
    · intro hA hB
      exact ⟨_, kick.trans (congrArg _ (kickStore_of_stranger hend hA hB)), capture_vens .., captured_replyWord (captured_capture ..),
        regsKept_capture (replyWord s 0) _ _ _⟩
    · exact ⟨_, exec_venWindowEnd gen hw, venWindowEnd_of_open hopen⟩
  case ended =>
    intro hrun hover
    refine ⟨?_, ?_⟩
    · intro ha hb hne
      have hk := x.kicked_iff.mpr ⟨a, b, ha, hb, hne⟩
      exact ⟨_, (exec_venWindowEnd gen hw).trans (congrArg _ (venWindowEnd_of_kicked hrun hover hk)), onlyVen_setVen s i _,
        ven_setVen_same s i _⟩
    · intro hsame
      have hk : x.kicked = false := Bool.eq_false_iff.mpr fun h => by
        obtain ⟨c, d, hc, hd, hne⟩ := x.kicked_iff.mp h
        exact hne (hsame c d hc hd)
      exact ⟨_, (exec_venWindowEnd gen hw).trans (congrArg _ (venWindowEnd_of_not_kicked hrun hover hk)), onlyVen_setVen s i _,
        stoppedOf (ven_setVen_same ..)⟩
  case stop =>
    intro hrun
    exact ⟨_, (exec_stop gen hw).trans (congrArg _ (venStop_of_running hrun 5)), onlyVen_setVen s i _,
      stoppedOf (ven_setVen_same ..)⟩
  case higher =>
    intro hrun hat hwhy
    exact ⟨_, (exec_stop gen hw).trans (congrArg _ (venStop_of_higher hrun hat hwhy)), onlyVen_setVen s i _, ven_setVen_same s i _⟩
  case kept =>
    intro hrun hkept
    exact ⟨_, exec_stop gen hw, venStop_of_kept hrun hkept⟩
  case wrongLate =>
    intro hrun hat hwhy hseq hc
    have hend : venWindowEnd (replyWord s 0) i = replyWord s 0 := venWindowEnd_of_stopped hrun
    have hwhy3 := venStop_of_higher (s := replyWord s 0) hrun hat hwhy
    exact ⟨_, kick.trans (congrArg _ ((kickStore_of_wrong hend hc (seqNe hseq)).trans hwhy3)), onlyReply _, ven_setVen_same ..⟩

end Sys2Proof.Machine
end

section
/-! The entry to Proof and the vital enables (R509, R636, R638). Entry to Proof is a reason to stop a generator, and of the reasons
of one step VENSTAT.WHY records the highest: a generator that has stopped in this fabric cycle for a lower reason is not left as it
was, as the statement claims of every generator that does not run. -/

namespace Sys2Proof.Machine

/-! ## A stop reaches one generator -/

theorem ven_venStop_other (s : State) {i j : Nat} (why : Nat) (h : j ≠ i) : ven (venStop s i why) j = ven s j := by
  unfold venStop
  dsimp only
  split
  · exact ven_setVen_other s _ h
  · split
    · exact ven_setVen_other s _ h
    · rfl

theorem ven_venStopAll_zero (s : State) (why : Nat) : ven (venStopAll s why) 0 = ven (venStop s 0 why) 0 :=
  ven_venStop_other _ why (by decide)

/-! ## Entry to Proof -/

/-- Writes of channel blocks leave the generators alone. -/
theorem foldl_setBlock_vens (f : State → Nat → Block) (l : List Nat) (s : State) :
    (l.foldl (fun s g => setBlock s g (f s g)) s).vens = s.vens := by
  induction l generalizing s with
  | nil => rfl
  | cons g l ih => exact ih (setBlock s g (f s g))

theorem ven_toProof (s : State) (i : Nat) : ven (toProof s) i = ven (venStopAll { s with safety := .proof } 4) i :=
  congrArg (fun m => kget (fun _ => Ven.init) m i) (foldl_setBlock_vens _ _ _)

/-- Entry to Proof replaces a lower reason for which generator 0 has stopped in the same fabric cycle (R509). -/
theorem ven_toProof_of_higher {s : State} (hrun : (ven s 0).running = false) (hat : (ven s 0).stopAt = some s.ticks)
    (hwhy : (ven s 0).why < 4) : ven (toProof s) 0 = { ven s 0 with why := 4 } := by
  have hstop := venStop_of_higher (s := { s with safety := .proof }) hrun hat hwhy
  rw [ven_toProof, ven_venStopAll_zero, hstop, ven_setVen_same]
  rfl

theorem srctlStore_proof {s : State} (hl : locked s (pkgPg 0) = false) : srctlStore s 2 = proofAct s := by
  unfold srctlStore unlessLocked
  rw [if_neg (by simp [hl])]
  dsimp only
  rw [if_neg (by decide), if_pos (by decide)]

/-- PROOF in Run or Degraded enters Proof (R636). -/
theorem exec_proof {s : State} (hw : unitWorks s (pkgPg 0) = true) (hl : locked s (pkgPg 0) = false)
    (hs : s.safety = .run ∨ s.safety = .degraded) : exec .proof s = .next (toProof s) :=
  calc exec .proof s
      = .next (srctlStore s 2) := congrArg done (unitDo_of_works hw _)
    _ = .next (proofAct s) := congrArg _ (srctlStore_proof hl)
    _ = .next (toProof s) := congrArg _ (if_pos hs)

/-! ## The statement -/

/-- The package in Run at the tick at which the first window of generator 0, of 1 ms, ends without a kick. -/
def unkickedState : State :=
  setVen (rset { State.reset with safety := .run, ticks := 300000 } (dsvPg 0) 64 1000) 0 { Ven.init with running := true, why := 0 }

/-- The package after that window end: generator 0 has stopped in the present fabric cycle. -/
def stoppedState : State := venWindowEnd unkickedState 0

theorem exec_venWindowEnd_unkickedState : exec (.venWindowEnd false) unkickedState = .next stoppedState :=
  exec_venWindowEnd false (by decide)

theorem ven_stoppedState : ven stoppedState 0 = (ven unkickedState 0).stop 2 unkickedState.ticks := by
  unfold stoppedState
  rw [venWindowEnd_of_not_kicked (by decide) (by unfold windowOver; decide) (by decide), ven_setVen_same]
  rfl

/-- Refutes O57: PROOF in the fabric cycle in which a window of generator 0 has ended without a kick. The generator no longer runs,
but it is not left as it was: WHY goes from 2 to 4, the higher of the two reasons of the step (R509). -/
theorem not_safetyRunState : ¬ Obligations.SafetyRunState := by
  unfold Obligations.SafetyRunState
  intro h
  have hw : unitWorks stoppedState (pkgPg 0) = true := by decide
  have hl : locked stoppedState (pkgPg 0) = false := by decide
  have hs : stoppedState.safety = .run := by decide
  have hrun : (ven stoppedState 0).running = false := by rw [ven_stoppedState]; rfl
  have hwhy : (ven stoppedState 0).why = 2 := by rw [ven_stoppedState]; rfl
  have hat : (ven stoppedState 0).stopAt = some stoppedState.ticks := by rw [ven_stoppedState]; decide
  have hnext := ven_toProof_of_higher hrun hat (by omega)
  obtain ⟨-, -, -, -, -, -, enters, -⟩ := h stoppedState 0 hw hl
  obtain ⟨t, ht, -, stops, -⟩ := enters (.inl hs)
  obtain rfl : toProof stoppedState = t := Host.Outcome.next.inj ((exec_proof hw hl (.inl hs)).symm.trans ht)
  obtain ⟨-, -, kept⟩ := stops 0 (by decide)
  have same : (ven (toProof stoppedState) 0).why = 2 := by rw [kept hrun, hwhy]
  rw [hnext] at same
  exact absurd same (show (4 : Nat) ≠ 2 by decide)

end Sys2Proof.Machine
end

namespace Sys2Proof.Machine
open Sys2Proof Sys2Proof.Machine
-- Each lemma rests on the ones before it: the proofs are checked in order.
set_option Elab.async false

/-! ## What a meaning may change

`Within F s t` says that t differs from s in the fields of F only, and is in canonical form where s is. Every function of the
model that answers a State has one lemma, which names its fields; the queue is a field that no meaning names. -/

/-- The fields of the State, by name. -/
inductive Area where
  | part | pending | fresh | busReply | mem | eccWb | regs | evTick | events | enHeld | cores | marks | heatCnt | heatDue
  | steals | slots | badPorts | safety | lcs | heldSvc | boot | fuses | fusesRead | offers | bootLocks | straps | pins | frozen
  | doms | isol | dieRst | tt | ttSub | ttRateWas | ttMarks | ticks | sync | refs | reeds | sedges | posts | postId | sweeps
  | chans | voters | blocks | vens | links | cwys | stack | eths | prps | cans | flashes | emps | carr | tap
  deriving DecidableEq

/-- The fields that a reset of the package writes (R629, R630). -/
abbrev Area.ofReset : List Area :=
  [.fresh, .mem, .eccWb, .regs, .evTick, .events, .enHeld, .cores, .marks, .heatCnt, .heatDue, .steals, .slots,
   .badPorts, .safety, .heldSvc, .boot, .fuses, .offers, .bootLocks, .frozen, .doms, .isol, .dieRst, .tt, .ttSub,
   .ttRateWas, .ttMarks, .sync, .refs, .reeds, .sedges, .posts, .sweeps, .chans, .voters, .blocks, .vens, .links, .cwys,
   .stack, .eths, .prps, .cans, .flashes, .emps, .carr]

/-- s with the fields of F as t has them. -/
def State.upTo (s t : State) (F : List Area) : State where
  part := if .part ∈ F then t.part else s.part
  pending := if .pending ∈ F then t.pending else s.pending
  fresh := if .fresh ∈ F then t.fresh else s.fresh
  busReply := if .busReply ∈ F then t.busReply else s.busReply
  mem := if .mem ∈ F then t.mem else s.mem
  eccWb := if .eccWb ∈ F then t.eccWb else s.eccWb
  regs := if .regs ∈ F then t.regs else s.regs
  evTick := if .evTick ∈ F then t.evTick else s.evTick
  events := if .events ∈ F then t.events else s.events
  enHeld := if .enHeld ∈ F then t.enHeld else s.enHeld
  cores := if .cores ∈ F then t.cores else s.cores
  marks := if .marks ∈ F then t.marks else s.marks
  heatCnt := if .heatCnt ∈ F then t.heatCnt else s.heatCnt
  heatDue := if .heatDue ∈ F then t.heatDue else s.heatDue
  steals := if .steals ∈ F then t.steals else s.steals
  slots := if .slots ∈ F then t.slots else s.slots
  badPorts := if .badPorts ∈ F then t.badPorts else s.badPorts
  safety := if .safety ∈ F then t.safety else s.safety
  lcs := if .lcs ∈ F then t.lcs else s.lcs
  heldSvc := if .heldSvc ∈ F then t.heldSvc else s.heldSvc
  boot := if .boot ∈ F then t.boot else s.boot
  fuses := if .fuses ∈ F then t.fuses else s.fuses
  fusesRead := if .fusesRead ∈ F then t.fusesRead else s.fusesRead
  offers := if .offers ∈ F then t.offers else s.offers
  bootLocks := if .bootLocks ∈ F then t.bootLocks else s.bootLocks
  straps := if .straps ∈ F then t.straps else s.straps
  pins := if .pins ∈ F then t.pins else s.pins
  frozen := if .frozen ∈ F then t.frozen else s.frozen
  doms := if .doms ∈ F then t.doms else s.doms
  isol := if .isol ∈ F then t.isol else s.isol
  dieRst := if .dieRst ∈ F then t.dieRst else s.dieRst
  tt := if .tt ∈ F then t.tt else s.tt
  ttSub := if .ttSub ∈ F then t.ttSub else s.ttSub
  ttRateWas := if .ttRateWas ∈ F then t.ttRateWas else s.ttRateWas
  ttMarks := if .ttMarks ∈ F then t.ttMarks else s.ttMarks
  ticks := if .ticks ∈ F then t.ticks else s.ticks
  sync := if .sync ∈ F then t.sync else s.sync
  refs := if .refs ∈ F then t.refs else s.refs
  reeds := if .reeds ∈ F then t.reeds else s.reeds
  sedges := if .sedges ∈ F then t.sedges else s.sedges
  posts := if .posts ∈ F then t.posts else s.posts
  postId := if .postId ∈ F then t.postId else s.postId
  sweeps := if .sweeps ∈ F then t.sweeps else s.sweeps
  chans := if .chans ∈ F then t.chans else s.chans
  voters := if .voters ∈ F then t.voters else s.voters
  blocks := if .blocks ∈ F then t.blocks else s.blocks
  vens := if .vens ∈ F then t.vens else s.vens
  links := if .links ∈ F then t.links else s.links
  cwys := if .cwys ∈ F then t.cwys else s.cwys
  stack := if .stack ∈ F then t.stack else s.stack
  eths := if .eths ∈ F then t.eths else s.eths
  prps := if .prps ∈ F then t.prps else s.prps
  cans := if .cans ∈ F then t.cans else s.cans
  flashes := if .flashes ∈ F then t.flashes else s.flashes
  emps := if .emps ∈ F then t.emps else s.emps
  carr := if .carr ∈ F then t.carr else s.carr
  tap := if .tap ∈ F then t.tap else s.tap

/-- t differs from s in the fields of F only, and keeps its canonical form. -/
structure Within (F : List Area) (s t : State) : Prop where
  eq : t = s.upTo t F
  canonical : Canonical s → Canonical t

namespace Within
variable {F G : List Area} {s t u : State} {α : Type}

theorem refl (s : State) : Within F s s := ⟨by simp [State.upTo], id⟩

theorem part (h : Within F s t) (hF : Area.part ∉ F := by decide) : t.part = s.part :=
  (congrArg State.part h.eq).trans (if_neg hF)
theorem pending (h : Within F s t) (hF : Area.pending ∉ F := by decide) : t.pending = s.pending :=
  (congrArg State.pending h.eq).trans (if_neg hF)
theorem fresh (h : Within F s t) (hF : Area.fresh ∉ F := by decide) : t.fresh = s.fresh :=
  (congrArg State.fresh h.eq).trans (if_neg hF)
theorem busReply (h : Within F s t) (hF : Area.busReply ∉ F := by decide) : t.busReply = s.busReply :=
  (congrArg State.busReply h.eq).trans (if_neg hF)
theorem mem (h : Within F s t) (hF : Area.mem ∉ F := by decide) : t.mem = s.mem :=
  (congrArg State.mem h.eq).trans (if_neg hF)
theorem eccWb (h : Within F s t) (hF : Area.eccWb ∉ F := by decide) : t.eccWb = s.eccWb :=
  (congrArg State.eccWb h.eq).trans (if_neg hF)
theorem regs (h : Within F s t) (hF : Area.regs ∉ F := by decide) : t.regs = s.regs :=
  (congrArg State.regs h.eq).trans (if_neg hF)
theorem evTick (h : Within F s t) (hF : Area.evTick ∉ F := by decide) : t.evTick = s.evTick :=
  (congrArg State.evTick h.eq).trans (if_neg hF)
theorem events (h : Within F s t) (hF : Area.events ∉ F := by decide) : t.events = s.events :=
  (congrArg State.events h.eq).trans (if_neg hF)
theorem enHeld (h : Within F s t) (hF : Area.enHeld ∉ F := by decide) : t.enHeld = s.enHeld :=
  (congrArg State.enHeld h.eq).trans (if_neg hF)
theorem cores (h : Within F s t) (hF : Area.cores ∉ F := by decide) : t.cores = s.cores :=
  (congrArg State.cores h.eq).trans (if_neg hF)
theorem marks (h : Within F s t) (hF : Area.marks ∉ F := by decide) : t.marks = s.marks :=
  (congrArg State.marks h.eq).trans (if_neg hF)
theorem heatCnt (h : Within F s t) (hF : Area.heatCnt ∉ F := by decide) : t.heatCnt = s.heatCnt :=
  (congrArg State.heatCnt h.eq).trans (if_neg hF)
theorem heatDue (h : Within F s t) (hF : Area.heatDue ∉ F := by decide) : t.heatDue = s.heatDue :=
  (congrArg State.heatDue h.eq).trans (if_neg hF)
theorem steals (h : Within F s t) (hF : Area.steals ∉ F := by decide) : t.steals = s.steals :=
  (congrArg State.steals h.eq).trans (if_neg hF)
theorem slots (h : Within F s t) (hF : Area.slots ∉ F := by decide) : t.slots = s.slots :=
  (congrArg State.slots h.eq).trans (if_neg hF)
theorem badPorts (h : Within F s t) (hF : Area.badPorts ∉ F := by decide) : t.badPorts = s.badPorts :=
  (congrArg State.badPorts h.eq).trans (if_neg hF)
theorem safety (h : Within F s t) (hF : Area.safety ∉ F := by decide) : t.safety = s.safety :=
  (congrArg State.safety h.eq).trans (if_neg hF)
theorem lcs (h : Within F s t) (hF : Area.lcs ∉ F := by decide) : t.lcs = s.lcs :=
  (congrArg State.lcs h.eq).trans (if_neg hF)
theorem heldSvc (h : Within F s t) (hF : Area.heldSvc ∉ F := by decide) : t.heldSvc = s.heldSvc :=
  (congrArg State.heldSvc h.eq).trans (if_neg hF)
theorem boot (h : Within F s t) (hF : Area.boot ∉ F := by decide) : t.boot = s.boot :=
  (congrArg State.boot h.eq).trans (if_neg hF)
theorem fuses (h : Within F s t) (hF : Area.fuses ∉ F := by decide) : t.fuses = s.fuses :=
  (congrArg State.fuses h.eq).trans (if_neg hF)
theorem fusesRead (h : Within F s t) (hF : Area.fusesRead ∉ F := by decide) : t.fusesRead = s.fusesRead :=
  (congrArg State.fusesRead h.eq).trans (if_neg hF)
theorem offers (h : Within F s t) (hF : Area.offers ∉ F := by decide) : t.offers = s.offers :=
  (congrArg State.offers h.eq).trans (if_neg hF)
theorem bootLocks (h : Within F s t) (hF : Area.bootLocks ∉ F := by decide) : t.bootLocks = s.bootLocks :=
  (congrArg State.bootLocks h.eq).trans (if_neg hF)
theorem straps (h : Within F s t) (hF : Area.straps ∉ F := by decide) : t.straps = s.straps :=
  (congrArg State.straps h.eq).trans (if_neg hF)
theorem pins (h : Within F s t) (hF : Area.pins ∉ F := by decide) : t.pins = s.pins :=
  (congrArg State.pins h.eq).trans (if_neg hF)
theorem frozen (h : Within F s t) (hF : Area.frozen ∉ F := by decide) : t.frozen = s.frozen :=
  (congrArg State.frozen h.eq).trans (if_neg hF)
theorem doms (h : Within F s t) (hF : Area.doms ∉ F := by decide) : t.doms = s.doms :=
  (congrArg State.doms h.eq).trans (if_neg hF)
theorem isol (h : Within F s t) (hF : Area.isol ∉ F := by decide) : t.isol = s.isol :=
  (congrArg State.isol h.eq).trans (if_neg hF)
theorem dieRst (h : Within F s t) (hF : Area.dieRst ∉ F := by decide) : t.dieRst = s.dieRst :=
  (congrArg State.dieRst h.eq).trans (if_neg hF)
theorem tt (h : Within F s t) (hF : Area.tt ∉ F := by decide) : t.tt = s.tt :=
  (congrArg State.tt h.eq).trans (if_neg hF)
theorem ttSub (h : Within F s t) (hF : Area.ttSub ∉ F := by decide) : t.ttSub = s.ttSub :=
  (congrArg State.ttSub h.eq).trans (if_neg hF)
theorem ttRateWas (h : Within F s t) (hF : Area.ttRateWas ∉ F := by decide) : t.ttRateWas = s.ttRateWas :=
  (congrArg State.ttRateWas h.eq).trans (if_neg hF)
theorem ttMarks (h : Within F s t) (hF : Area.ttMarks ∉ F := by decide) : t.ttMarks = s.ttMarks :=
  (congrArg State.ttMarks h.eq).trans (if_neg hF)
theorem ticks (h : Within F s t) (hF : Area.ticks ∉ F := by decide) : t.ticks = s.ticks :=
  (congrArg State.ticks h.eq).trans (if_neg hF)
theorem sync (h : Within F s t) (hF : Area.sync ∉ F := by decide) : t.sync = s.sync :=
  (congrArg State.sync h.eq).trans (if_neg hF)
theorem refs (h : Within F s t) (hF : Area.refs ∉ F := by decide) : t.refs = s.refs :=
  (congrArg State.refs h.eq).trans (if_neg hF)
theorem reeds (h : Within F s t) (hF : Area.reeds ∉ F := by decide) : t.reeds = s.reeds :=
  (congrArg State.reeds h.eq).trans (if_neg hF)
theorem sedges (h : Within F s t) (hF : Area.sedges ∉ F := by decide) : t.sedges = s.sedges :=
  (congrArg State.sedges h.eq).trans (if_neg hF)
theorem posts (h : Within F s t) (hF : Area.posts ∉ F := by decide) : t.posts = s.posts :=
  (congrArg State.posts h.eq).trans (if_neg hF)
theorem postId (h : Within F s t) (hF : Area.postId ∉ F := by decide) : t.postId = s.postId :=
  (congrArg State.postId h.eq).trans (if_neg hF)
theorem sweeps (h : Within F s t) (hF : Area.sweeps ∉ F := by decide) : t.sweeps = s.sweeps :=
  (congrArg State.sweeps h.eq).trans (if_neg hF)
theorem chans (h : Within F s t) (hF : Area.chans ∉ F := by decide) : t.chans = s.chans :=
  (congrArg State.chans h.eq).trans (if_neg hF)
theorem voters (h : Within F s t) (hF : Area.voters ∉ F := by decide) : t.voters = s.voters :=
  (congrArg State.voters h.eq).trans (if_neg hF)
theorem blocks (h : Within F s t) (hF : Area.blocks ∉ F := by decide) : t.blocks = s.blocks :=
  (congrArg State.blocks h.eq).trans (if_neg hF)
theorem vens (h : Within F s t) (hF : Area.vens ∉ F := by decide) : t.vens = s.vens :=
  (congrArg State.vens h.eq).trans (if_neg hF)
theorem links (h : Within F s t) (hF : Area.links ∉ F := by decide) : t.links = s.links :=
  (congrArg State.links h.eq).trans (if_neg hF)
theorem cwys (h : Within F s t) (hF : Area.cwys ∉ F := by decide) : t.cwys = s.cwys :=
  (congrArg State.cwys h.eq).trans (if_neg hF)
theorem stack (h : Within F s t) (hF : Area.stack ∉ F := by decide) : t.stack = s.stack :=
  (congrArg State.stack h.eq).trans (if_neg hF)
theorem eths (h : Within F s t) (hF : Area.eths ∉ F := by decide) : t.eths = s.eths :=
  (congrArg State.eths h.eq).trans (if_neg hF)
theorem prps (h : Within F s t) (hF : Area.prps ∉ F := by decide) : t.prps = s.prps :=
  (congrArg State.prps h.eq).trans (if_neg hF)
theorem cans (h : Within F s t) (hF : Area.cans ∉ F := by decide) : t.cans = s.cans :=
  (congrArg State.cans h.eq).trans (if_neg hF)
theorem flashes (h : Within F s t) (hF : Area.flashes ∉ F := by decide) : t.flashes = s.flashes :=
  (congrArg State.flashes h.eq).trans (if_neg hF)
theorem emps (h : Within F s t) (hF : Area.emps ∉ F := by decide) : t.emps = s.emps :=
  (congrArg State.emps h.eq).trans (if_neg hF)
theorem carr (h : Within F s t) (hF : Area.carr ∉ F := by decide) : t.carr = s.carr :=
  (congrArg State.carr h.eq).trans (if_neg hF)
theorem tap (h : Within F s t) (hF : Area.tap ∉ F := by decide) : t.tap = s.tap :=
  (congrArg State.tap h.eq).trans (if_neg hF)

theorem ite_ite_else {c : Prop} [Decidable c] (x y z : α) : (if c then x else if c then y else z) = if c then x else z := by
  by_cases hc : c <;> simp [hc]

/-- Taking fields of F twice is taking them once. -/
theorem upTo_upTo (s t u : State) (F : List Area) : (s.upTo t F).upTo u F = s.upTo u F := by
  simp only [State.upTo, ite_ite_else]

/-- Changes of fields of F, one after the other. -/
theorem eq_trans (h : t = s.upTo t F) (k : u = t.upTo u F) : u = s.upTo u F := by
  rw [← upTo_upTo s t u F, ← h]
  exact k

theorem ite_of_imp {c d : Prop} [Decidable c] [Decidable d] (x y : α) (hcd : c → d) :
    (if d then (if c then x else y) else y) = if c then x else y := by
  by_cases hc : c
  · simp [hc, hcd hc]
  · simp [hc]

theorem eq_mono (h : t = s.upTo t G) (hG : G ⊆ F) : t = s.upTo t F := by
  rw [h]
  simp only [State.upTo, ite_of_imp _ _ (@hG _)]

theorem trans (h : Within F s t) (k : Within F t u) : Within F s u :=
  ⟨eq_trans h.eq k.eq, fun c => k.canonical (h.canonical c)⟩

theorem mono (h : Within G s t) (hG : G ⊆ F) : Within F s t := ⟨eq_mono h.eq hG, h.canonical⟩

/-- A further operation, which changes fields of F only. -/
theorem after (k : Within G t u) (hG : G ⊆ F) (h : Within F s t) : Within F s u := h.trans (k.mono hG)

theorem ite {c : Prop} [Decidable c] (ht : Within F s t) (hu : Within F s u) : Within F s (if c then t else u) := by
  split <;> assumption

theorem of_snd {p : α × State} {a : α} (e : p = (a, t)) (h : Within F s p.2) : Within F s t := by
  rw [e] at h
  exact h

theorem of_pair {β : Type} {p : α × β × State} {a : α} {b : β} (e : p = (a, b, t)) (h : Within F s p.2.2) :
    Within F s t := by
  rw [e] at h
  exact h

theorem foldl {f : State → α → State} {l : List α} (hf : ∀ t x, Within F t (f t x)) (h : Within F s t) :
    Within F s (l.foldl f t) := by
  induction l generalizing t with
  | nil => exact h
  | cons x r ih => exact ih (h.trans (hf t x))

/-! ### One field written -/

theorem setFresh (h : Within F s t) (v) (hF : Area.fresh ∈ F) : Within F s { t with fresh := v } :=
  h.trans (mono (G := [.fresh]) ⟨rfl, id⟩ (by simpa using hF))
theorem setBusReply (h : Within F s t) (v) (hF : Area.busReply ∈ F) : Within F s { t with busReply := v } :=
  h.trans (mono (G := [.busReply]) ⟨rfl, id⟩ (by simpa using hF))
theorem setEccWb (h : Within F s t) (v) (hF : Area.eccWb ∈ F) : Within F s { t with eccWb := v } :=
  h.trans (mono (G := [.eccWb]) ⟨rfl, id⟩ (by simpa using hF))
theorem setEvTick (h : Within F s t) (v) (hF : Area.evTick ∈ F) : Within F s { t with evTick := v } :=
  h.trans (mono (G := [.evTick]) ⟨rfl, id⟩ (by simpa using hF))
theorem setEvents (h : Within F s t) (v) (hF : Area.events ∈ F) : Within F s { t with events := v } :=
  h.trans (mono (G := [.events]) ⟨rfl, id⟩ (by simpa using hF))
theorem setEnHeld (h : Within F s t) (v) (hF : Area.enHeld ∈ F) : Within F s { t with enHeld := v } :=
  h.trans (mono (G := [.enHeld]) ⟨rfl, id⟩ (by simpa using hF))
theorem setCores (h : Within F s t) (v) (hF : Area.cores ∈ F) : Within F s { t with cores := v } :=
  h.trans (mono (G := [.cores]) ⟨rfl, id⟩ (by simpa using hF))
theorem setMarks (h : Within F s t) (v) (hF : Area.marks ∈ F) : Within F s { t with marks := v } :=
  h.trans (mono (G := [.marks]) ⟨rfl, id⟩ (by simpa using hF))
theorem setHeatCnt (h : Within F s t) (v) (hF : Area.heatCnt ∈ F) : Within F s { t with heatCnt := v } :=
  h.trans (mono (G := [.heatCnt]) ⟨rfl, id⟩ (by simpa using hF))
theorem setHeatDue (h : Within F s t) (v) (hF : Area.heatDue ∈ F) : Within F s { t with heatDue := v } :=
  h.trans (mono (G := [.heatDue]) ⟨rfl, id⟩ (by simpa using hF))
theorem setSteals (h : Within F s t) (v) (hF : Area.steals ∈ F) : Within F s { t with steals := v } :=
  h.trans (mono (G := [.steals]) ⟨rfl, id⟩ (by simpa using hF))
theorem setSlots (h : Within F s t) (v) (hF : Area.slots ∈ F) : Within F s { t with slots := v } :=
  h.trans (mono (G := [.slots]) ⟨rfl, id⟩ (by simpa using hF))
theorem setBadPorts (h : Within F s t) (v) (hF : Area.badPorts ∈ F) : Within F s { t with badPorts := v } :=
  h.trans (mono (G := [.badPorts]) ⟨rfl, id⟩ (by simpa using hF))
theorem setSafety (h : Within F s t) (v) (hF : Area.safety ∈ F) : Within F s { t with safety := v } :=
  h.trans (mono (G := [.safety]) ⟨rfl, id⟩ (by simpa using hF))
theorem setLcs (h : Within F s t) (v) (hF : Area.lcs ∈ F) : Within F s { t with lcs := v } :=
  h.trans (mono (G := [.lcs]) ⟨rfl, id⟩ (by simpa using hF))
theorem setHeldSvc (h : Within F s t) (v) (hF : Area.heldSvc ∈ F) : Within F s { t with heldSvc := v } :=
  h.trans (mono (G := [.heldSvc]) ⟨rfl, id⟩ (by simpa using hF))
theorem setBoot (h : Within F s t) (v) (hF : Area.boot ∈ F) : Within F s { t with boot := v } :=
  h.trans (mono (G := [.boot]) ⟨rfl, id⟩ (by simpa using hF))
theorem setFuses (h : Within F s t) (v) (hF : Area.fuses ∈ F) : Within F s { t with fuses := v } :=
  h.trans (mono (G := [.fuses]) ⟨rfl, id⟩ (by simpa using hF))
theorem setFusesRead (h : Within F s t) (v) (hF : Area.fusesRead ∈ F) : Within F s { t with fusesRead := v } :=
  h.trans (mono (G := [.fusesRead]) ⟨rfl, id⟩ (by simpa using hF))
theorem setOffers (h : Within F s t) (v) (hF : Area.offers ∈ F) : Within F s { t with offers := v } :=
  h.trans (mono (G := [.offers]) ⟨rfl, id⟩ (by simpa using hF))
theorem setBootLocks (h : Within F s t) (v) (hF : Area.bootLocks ∈ F) : Within F s { t with bootLocks := v } :=
  h.trans (mono (G := [.bootLocks]) ⟨rfl, id⟩ (by simpa using hF))
theorem setStraps (h : Within F s t) (v) (hF : Area.straps ∈ F) : Within F s { t with straps := v } :=
  h.trans (mono (G := [.straps]) ⟨rfl, id⟩ (by simpa using hF))
theorem setPins (h : Within F s t) (v) (hF : Area.pins ∈ F) : Within F s { t with pins := v } :=
  h.trans (mono (G := [.pins]) ⟨rfl, id⟩ (by simpa using hF))
theorem setFrozen (h : Within F s t) (v) (hF : Area.frozen ∈ F) : Within F s { t with frozen := v } :=
  h.trans (mono (G := [.frozen]) ⟨rfl, id⟩ (by simpa using hF))
theorem setDoms (h : Within F s t) (v) (hF : Area.doms ∈ F) : Within F s { t with doms := v } :=
  h.trans (mono (G := [.doms]) ⟨rfl, id⟩ (by simpa using hF))
theorem setIsol (h : Within F s t) (v) (hF : Area.isol ∈ F) : Within F s { t with isol := v } :=
  h.trans (mono (G := [.isol]) ⟨rfl, id⟩ (by simpa using hF))
theorem setDieRst (h : Within F s t) (v) (hF : Area.dieRst ∈ F) : Within F s { t with dieRst := v } :=
  h.trans (mono (G := [.dieRst]) ⟨rfl, id⟩ (by simpa using hF))
theorem setTt (h : Within F s t) (v) (hF : Area.tt ∈ F) : Within F s { t with tt := v } :=
  h.trans (mono (G := [.tt]) ⟨rfl, id⟩ (by simpa using hF))
theorem setTtSub (h : Within F s t) (v) (hF : Area.ttSub ∈ F) : Within F s { t with ttSub := v } :=
  h.trans (mono (G := [.ttSub]) ⟨rfl, id⟩ (by simpa using hF))
theorem setTtRateWas (h : Within F s t) (v) (hF : Area.ttRateWas ∈ F) : Within F s { t with ttRateWas := v } :=
  h.trans (mono (G := [.ttRateWas]) ⟨rfl, id⟩ (by simpa using hF))
theorem setTtMarks (h : Within F s t) (v) (hF : Area.ttMarks ∈ F) : Within F s { t with ttMarks := v } :=
  h.trans (mono (G := [.ttMarks]) ⟨rfl, id⟩ (by simpa using hF))
theorem setTicks (h : Within F s t) (v) (hF : Area.ticks ∈ F) : Within F s { t with ticks := v } :=
  h.trans (mono (G := [.ticks]) ⟨rfl, id⟩ (by simpa using hF))
theorem setSync (h : Within F s t) (v) (hF : Area.sync ∈ F) : Within F s { t with sync := v } :=
  h.trans (mono (G := [.sync]) ⟨rfl, id⟩ (by simpa using hF))
theorem setRefs (h : Within F s t) (v) (hF : Area.refs ∈ F) : Within F s { t with refs := v } :=
  h.trans (mono (G := [.refs]) ⟨rfl, id⟩ (by simpa using hF))
theorem setPosts (h : Within F s t) (v) (hF : Area.posts ∈ F) : Within F s { t with posts := v } :=
  h.trans (mono (G := [.posts]) ⟨rfl, id⟩ (by simpa using hF))
theorem setPostId (h : Within F s t) (v) (hF : Area.postId ∈ F) : Within F s { t with postId := v } :=
  h.trans (mono (G := [.postId]) ⟨rfl, id⟩ (by simpa using hF))
theorem setSweeps (h : Within F s t) (v) (hF : Area.sweeps ∈ F) : Within F s { t with sweeps := v } :=
  h.trans (mono (G := [.sweeps]) ⟨rfl, id⟩ (by simpa using hF))
theorem setChans (h : Within F s t) (v) (hF : Area.chans ∈ F) : Within F s { t with chans := v } :=
  h.trans (mono (G := [.chans]) ⟨rfl, id⟩ (by simpa using hF))
theorem setVoters (h : Within F s t) (v) (hF : Area.voters ∈ F) : Within F s { t with voters := v } :=
  h.trans (mono (G := [.voters]) ⟨rfl, id⟩ (by simpa using hF))
theorem setBlocks (h : Within F s t) (v) (hF : Area.blocks ∈ F) : Within F s { t with blocks := v } :=
  h.trans (mono (G := [.blocks]) ⟨rfl, id⟩ (by simpa using hF))
theorem setVens (h : Within F s t) (v) (hF : Area.vens ∈ F) : Within F s { t with vens := v } :=
  h.trans (mono (G := [.vens]) ⟨rfl, id⟩ (by simpa using hF))
theorem setLinks (h : Within F s t) (v) (hF : Area.links ∈ F) : Within F s { t with links := v } :=
  h.trans (mono (G := [.links]) ⟨rfl, id⟩ (by simpa using hF))
theorem setCwys (h : Within F s t) (v) (hF : Area.cwys ∈ F) : Within F s { t with cwys := v } :=
  h.trans (mono (G := [.cwys]) ⟨rfl, id⟩ (by simpa using hF))
theorem setStack (h : Within F s t) (v) (hF : Area.stack ∈ F) : Within F s { t with stack := v } :=
  h.trans (mono (G := [.stack]) ⟨rfl, id⟩ (by simpa using hF))
theorem setEths (h : Within F s t) (v) (hF : Area.eths ∈ F) : Within F s { t with eths := v } :=
  h.trans (mono (G := [.eths]) ⟨rfl, id⟩ (by simpa using hF))
theorem setPrps (h : Within F s t) (v) (hF : Area.prps ∈ F) : Within F s { t with prps := v } :=
  h.trans (mono (G := [.prps]) ⟨rfl, id⟩ (by simpa using hF))
theorem setCans (h : Within F s t) (v) (hF : Area.cans ∈ F) : Within F s { t with cans := v } :=
  h.trans (mono (G := [.cans]) ⟨rfl, id⟩ (by simpa using hF))
theorem setFlashes (h : Within F s t) (v) (hF : Area.flashes ∈ F) : Within F s { t with flashes := v } :=
  h.trans (mono (G := [.flashes]) ⟨rfl, id⟩ (by simpa using hF))
theorem setEmps (h : Within F s t) (v) (hF : Area.emps ∈ F) : Within F s { t with emps := v } :=
  h.trans (mono (G := [.emps]) ⟨rfl, id⟩ (by simpa using hF))
theorem setCarr (h : Within F s t) (v) (hF : Area.carr ∈ F) : Within F s { t with carr := v } :=
  h.trans (mono (G := [.carr]) ⟨rfl, id⟩ (by simpa using hF))
theorem setTap (h : Within F s t) (v) (hF : Area.tap ∈ F) : Within F s { t with tap := v } :=
  h.trans (mono (G := [.tap]) ⟨rfl, id⟩ (by simpa using hF))

end Within

/-! ### The tables in canonical form -/

/-- The table of Reed lists each key once. -/
def Reed.Listed (r : Reed) : Prop := (r.ev.map Prod.fst).Nodup

/-- The directory and the pool of Sedge list each key once. -/
def Sedge.Listed (x : Sedge) : Prop := (x.dir.map Prod.fst).Nodup ∧ (x.pool.map Prod.fst).Nodup

theorem canonical_iff (s : State) : Canonical s ↔
    kwf memDefault s.mem = true ∧ kwf regDefault s.regs = true ∧ (∀ d, (sedge s d).Listed) ∧ ∀ d, (reed s d).Listed := by
  unfold Canonical Sedge.Listed Reed.Listed
  refine ⟨fun ⟨a, b, c⟩ => ⟨a, b, fun d => ⟨(c d).1, (c d).2.1⟩, fun d => (c d).2.2⟩, ?_⟩
  rintro ⟨a, b, c, e⟩
  exact ⟨a, b, fun d => ⟨(c d).1, (c d).2, e d⟩⟩

theorem Canonical.mem {s : State} (h : Canonical s) : kwf memDefault s.mem = true := h.1
theorem Canonical.regs {s : State} (h : Canonical s) : kwf regDefault s.regs = true := h.2.1
theorem Canonical.sedge {s : State} (h : Canonical s) (d : Nat) : (sedge s d).Listed := ((canonical_iff s).mp h).2.2.1 d
theorem Canonical.reed {s : State} (h : Canonical s) (d : Nat) : (reed s d).Listed := ((canonical_iff s).mp h).2.2.2 d

/-- The keys of a table after a write: those of the table without the key, with or without the key. -/
theorem nodup_kput {α : Type} (m : KMap α) (k : Nat) (v : α) (hk : ∀ e ∈ m, e.1 ≠ k) (h : (m.map Prod.fst).Nodup) :
    ((kput m k v).map Prod.fst).Nodup := by
  induction m with
  | nil => simp [kput]
  | cons e r ih =>
    obtain ⟨j, u⟩ := e
    have hj : j ≠ k := hk (j, u) (by simp)
    have hr : ∀ e ∈ r, e.1 ≠ k := fun e he => hk e (by simp [he])
    rw [List.map_cons, List.nodup_cons] at h
    simp only [kput]
    split
    · rw [List.map_cons, List.map_cons, List.nodup_cons, List.nodup_cons]
      refine ⟨?_, h⟩
      simp only [List.mem_cons, List.mem_map, not_or, not_exists, not_and]
      exact ⟨hj.symm, hr⟩
    · rw [List.map_cons, List.nodup_cons]
      refine ⟨?_, ih hr h.2⟩
      simp only [List.mem_map, not_exists, not_and]
      intro e he hej
      rcases mem_kput r k v e he with rfl | he
      · exact hj hej.symm
      · exact h.1 (List.mem_map.mpr ⟨e, he, hej⟩)

theorem nodup_filter {α : Type} {m : KMap α} (p : Nat × α → Bool) (h : (m.map Prod.fst).Nodup) :
    ((m.filter p).map Prod.fst).Nodup := h.sublist (List.filter_sublist.map _)

/-- A write lists each key once where the table did. -/
theorem nodup_kset {α : Type} [DecidableEq α] (d : Nat → α) (m : KMap α) (k : Nat) (v : α) (h : (m.map Prod.fst).Nodup) :
    ((kset d m k v).map Prod.fst).Nodup := by
  unfold kset
  split
  · exact nodup_filter _ h
  · exact nodup_kput _ _ _ (kerase_keys m k) (nodup_filter _ h)

/-- Changing the values of a table leaves its keys. -/
theorem nodup_map_snd {α : Type} {m : KMap α} (f : Nat × α → α) (h : (m.map Prod.fst).Nodup) :
    ((m.map (fun p => (p.1, f p))).map Prod.fst).Nodup := by
  rw [List.map_map]
  exact h

theorem Reed.Listed.put {r : Reed} (h : r.Listed) (i : Nat) (e : Event) : (r.putEntry i e).Listed :=
  nodup_kset (fun _ => Event.init) r.ev i e h
theorem Sedge.Listed.put {x : Sedge} (h : x.Listed) (i : Nat) (e : DirEnt) : (x.putEntry i e).Listed :=
  ⟨nodup_kset (fun _ => DirEnt.init) x.dir i e h.1, h.2⟩
theorem Reed.Listed.init : Reed.init.Listed := List.nodup_nil
theorem Sedge.Listed.init : Sedge.init.Listed := ⟨List.nodup_nil, List.nodup_nil⟩

namespace Within
variable {F : List Area} {s t : State}

theorem setMem (h : Within F s t) (m : KMap MemWord) (hF : Area.mem ∈ F)
    (hm : kwf memDefault t.mem = true → kwf memDefault m = true) : Within F s { t with mem := m } :=
  h.trans (Within.mono (G := [.mem]) ⟨rfl, fun c => ⟨hm c.1, c.2⟩⟩ (by simpa using hF))

theorem setRegs (h : Within F s t) (m : KMap Word) (hF : Area.regs ∈ F)
    (hm : kwf regDefault t.regs = true → kwf regDefault m = true) : Within F s { t with regs := m } :=
  h.trans (Within.mono (G := [.regs]) ⟨rfl, fun c => ⟨c.1, hm c.2.1, c.2.2⟩⟩ (by simpa using hF))

theorem mset (h : Within F s t) (a : Nat) (w : MemWord) (hF : Area.mem ∈ F) : Within F s (mset t a w) :=
  h.setMem _ hF fun c => kwf_kset _ _ _ _ c

theorem rset (h : Within F s t) (pg off : Nat) (v : Word) (hF : Area.regs ∈ F) : Within F s (rset t pg off v) :=
  h.setRegs _ hF fun c => kwf_kset _ _ _ _ c

/-- A table with its entries changed one by one, those that hold the default then left out. -/
theorem kwf_map_filter {α : Type} [DecidableEq α] (d : Nat → α) (m : KMap α) (f : Nat × α → α) (h : kwf d m = true) :
    kwf d ((m.map (fun p => (p.1, f p))).filter (fun e => decide (e.2 ≠ d e.1))) = true := by
  induction m with
  | nil => rfl
  | cons e r ih =>
    obtain ⟨j, v⟩ := e
    rw [kwf_cons] at h
    simp only [List.map_cons, List.filter_cons]
    split
    · rename_i hv
      rw [kwf_cons]
      refine ⟨of_decide_eq_true hv, ?_, ih h.2.2⟩
      intro e he
      obtain ⟨q, hq, rfl⟩ := List.mem_map.mp (List.mem_filter.mp he).1
      exact h.2.1 q hq
    · exact ih h.2.2

theorem setReed (h : Within F s t) (d : Nat) (r : Reed) (hF : Area.reeds ∈ F) (hr : Canonical s → Canonical t → r.Listed) :
    Within F s (setReed t d r) := by
  refine ⟨eq_trans h.eq (eq_mono (G := [.reeds]) rfl (by simpa using hF)), fun c => ?_⟩
  have k := h.canonical c
  refine (canonical_iff _).mpr ⟨k.mem, k.regs, k.sedge, fun e => ?_⟩
  have q : Machine.reed (Machine.setReed t d r) e = if e = d then r else Machine.reed t e := kget_kset _ _ _ _ _
  rw [q]
  split
  · exact hr c k
  · exact k.reed e

theorem setSedge (h : Within F s t) (d : Nat) (x : Sedge) (hF : Area.sedges ∈ F) (hx : Canonical s → Canonical t → x.Listed) :
    Within F s (setSedge t d x) := by
  refine ⟨eq_trans h.eq (eq_mono (G := [.sedges]) rfl (by simpa using hF)), fun c => ?_⟩
  have k := h.canonical c
  refine (canonical_iff _).mpr ⟨k.mem, k.regs, fun e => ?_, k.reed⟩
  have q : Machine.sedge (Machine.setSedge t d x) e = if e = d then x else Machine.sedge t e := kget_kset _ _ _ _ _
  rw [q]
  split
  · exact hx c k
  · exact k.sedge e

end Within

theorem Reed.Listed.of_ev {r q : Reed} (h : r.Listed) (e : q.ev = r.ev) : q.Listed := by
  unfold Reed.Listed
  rw [e]
  exact h

theorem Sedge.Listed.of_tables {x y : Sedge} (h : x.Listed) (hd : y.dir = x.dir) (hp : y.pool = x.pool) : y.Listed := by
  unfold Sedge.Listed
  rw [hd, hp]
  exact h

theorem Sedge.Listed.filterPool {x y : Sedge} (h : x.Listed) (p : Nat × Frame → Bool) (hd : y.dir = x.dir)
    (hp : y.pool = x.pool.filter p) : y.Listed := by
  unfold Sedge.Listed
  rw [hd, hp]
  exact ⟨h.1, nodup_filter p h.2⟩

theorem Sedge.Listed.mapDir {x y : Sedge} (h : x.Listed) (f : Nat × DirEnt → DirEnt)
    (hd : y.dir = x.dir.map fun p => (p.1, f p)) (hp : y.pool = x.pool) : y.Listed := by
  unfold Sedge.Listed
  rw [hd, hp]
  exact ⟨nodup_map_snd f h.1, h.2⟩

/-! ### Computations that may stop -/

/-- The state that a computation leaves, completed or stopped. -/
def endOf {ε α : Type} : EStateM.Result ε State α → State
  | .ok _ s => s
  | .error _ s => s

/-- Every end of m is within F of the state before it. -/
structure Stays {ε α : Type} (F : List Area) (m : EStateM ε State α) : Prop where
  at_ : ∀ s, Within F s (endOf (m s))

namespace Stays
variable {ε α β : Type} {F G : List Area} {s t u : State} {m : EStateM ε State α}

theorem mono (h : Stays G m) (hG : G ⊆ F) : Stays F m := ⟨fun s => (h.at_ s).mono hG⟩

theorem ok (h : Stays F m) {a : α} (e : m t = .ok a u) (hs : Within F s t) : Within F s u := by
  have k := h.at_ t
  rw [e] at k
  exact hs.trans k

theorem error (h : Stays F m) {x : ε} (e : m t = .error x u) (hs : Within F s t) : Within F s u := by
  have k := h.at_ t
  rw [e] at k
  exact hs.trans k

theorem pure (a : α) : Stays F (Pure.pure a : EStateM ε State α) := ⟨fun s => .refl s⟩

theorem throw (x : ε) : Stays F (throw x : EStateM ε State α) := ⟨fun s => .refl s⟩

theorem get : Stays F (MonadState.get : EStateM ε State State) := ⟨fun s => .refl s⟩

theorem bind {f : α → EStateM ε State β} (hm : Stays F m) (hf : ∀ a, Stays F (f a)) : Stays F (m >>= f) := by
  refine ⟨fun s => ?_⟩
  simp only [Bind.bind, EStateM.bind]
  split
  · rename_i a s1 h1
    exact (hm.ok h1 (.refl s)).trans ((hf a).at_ s1)
  · rename_i x s1 h1
    exact hm.error h1 (.refl s)

theorem ite {c : Prop} [Decidable c] {k : EStateM ε State α} (hm : Stays F m) (hk : Stays F k) :
    Stays F (if c then m else k) := by split <;> assumption

theorem modify {f : State → State} (hf : ∀ s, Within F s (f s)) : Stays F (modify f : EStateM ε State PUnit) := ⟨hf⟩

theorem forM {f : β → EStateM ε State PUnit} (hf : ∀ x, Stays F (f x)) (l : List β) : Stays F (l.forM f) := by
  induction l with
  | nil => exact pure _
  | cons x r ih => exact bind (hf x) fun _ => ih

theorem foldlM {f : α → β → EStateM ε State α} (hf : ∀ a x, Stays F (f a x)) (l : List β) (a : α) :
    Stays F (l.foldlM f a) := by
  induction l generalizing a with
  | nil => exact pure _
  | cons x r ih => exact bind (hf a x) fun _ => ih _

end Stays

/-- From s, every end of m is within F of s: what follows a read of the state may put back a state computed from it. -/
structure StaysAt {ε α : Type} (F : List Area) (s : State) (m : EStateM ε State α) : Prop where
  end_ : Within F s (endOf (m s))

namespace StaysAt
variable {ε α β : Type} {F : List Area} {s t : State} {m : EStateM ε State α}

theorem of_stays (h : Stays F m) : StaysAt F s m := ⟨h.at_ s⟩

theorem get_then {f : State → EStateM ε State β} (h : ∀ s, StaysAt F s (f s)) : Stays F (MonadState.get >>= f) :=
  ⟨fun s => (h s).end_⟩

theorem set_then {f : PUnit → EStateM ε State β} (h : Within F s t) (hf : ∀ a, Stays F (f a)) :
    StaysAt F s (MonadStateOf.set t >>= f) := ⟨h.trans ((hf _).at_ t)⟩

theorem set_last (h : Within F s t) : StaysAt F s (MonadStateOf.set t : EStateM ε State PUnit) := ⟨h⟩

theorem throw_then (x : ε) (f : α → EStateM ε State β) : StaysAt F s (MonadExcept.throw x >>= f) := ⟨.refl s⟩

theorem then_set (hm : Stays F m) (h : Within F s t) :
    StaysAt F s (m >>= fun _ => (MonadStateOf.set t : EStateM ε State PUnit)) := by
  refine ⟨?_⟩
  simp only [Bind.bind, EStateM.bind, MonadStateOf.set, EStateM.set]
  split
  · exact h
  · exact hm.error ‹_› (.refl s)

end StaysAt

theorem upd_stays {F : List Area} {f : State → State} (hf : ∀ s, Within F s (f s)) : Stays F (upd f) := ⟨hf⟩

theorem act_stays {F : List Area} {α : Type} {f : State → α × State} (hf : ∀ s, Within F s (f s).2) : Stays F (act f) :=
  ⟨hf⟩

theorem fault_stays {F : List Area} {α : Type} (vec cause faddr : Nat) (faux : Word) :
    Stays F (fault vec cause faddr faux : X α) := .throw _


/-! ### The functions of the model, in its order -/

theorem rsetf_within {F : List Area} {s t : State} (h : Within F s t) (pg off hi lo v : Nat)
    (hF : [.regs] ⊆ F := by decide) : Within F s (rsetf t pg off hi lo v) := by
  unfold rsetf
  exact .after (t := t) (.rset (.refl _) _ _ _ (by decide)) hF h

theorem rinc_within {F : List Area} {s t : State} (h : Within F s t) (pg off hi lo : Nat)
    (hF : [.regs] ⊆ F := by decide) : Within F s (rinc t pg off hi lo) := by
  unfold rinc
  exact .after (t := t) (.rset (.refl _) _ _ _ (by decide)) hF h

theorem evPut_within {F : List Area} {s t : State} (h : Within F s t) (pg off : Nat) (w : Word)
    (hF : [.evTick, .events] ⊆ F := by decide) : Within F s (evPut t pg off w) :=
  .after (t := t) ⟨rfl, id⟩ hF h

theorem evCount_within {F : List Area} {s t : State} (h : Within F s t) (pg off : Nat)
    (hF : [.evTick, .events] ⊆ F := by decide) : Within F s (evCount t pg off) := by
  unfold evCount
  exact .after (t := t) (evPut_within (.refl _) ..) hF h

theorem irqPend_within {F : List Area} {s t : State} (h : Within F s t) (pg b : Nat)
    (hF : [.regs, .evTick, .events] ⊆ F := by decide) : Within F s (irqPend t pg b) := by
  unfold irqPend
  exact .after (t := t) (.rset (evPut_within (.refl _) ..) _ _ _ (by decide)) hF h

theorem capture_within {F : List Area} {s t : State} (h : Within F s t) (pg cause info : Nat)
    (hF : [.regs, .evTick, .events] ⊆ F := by decide) : Within F s (capture t pg cause info) := by
  unfold capture
  exact .after (t := t) (.ite (rinc_within (.ite (evPut_within (.refl _) ..) (evPut_within (evPut_within (.refl _) ..) ..))
      ..) (irqPend_within (.rset (rinc_within (.ite (evPut_within (.refl _) ..) (evPut_within (evPut_within (.refl _) ..) ..))
      ..) _ _ _ (by decide)) ..)) hF h

theorem errRelease_within {F : List Area} {s t : State} (h : Within F s t) (pg : Nat)
    (hF : [.regs, .evTick, .events] ⊆ F := by decide) : Within F s (errRelease t pg) := by
  unfold errRelease
  exact .after (t := t) (.ite (.ite (.rset (.rset (irqPend_within (.rset (.refl _) _ _ _ (by decide)) ..) _ _ _
      (by decide)) _ _ _ (by decide)) (irqPend_within (.rset (.refl _) _ _ _ (by decide)) ..)) (.rset (.refl _) _ _ _
      (by decide))) hF h

theorem captureAt_within {F : List Area} {s t : State} (h : Within F s t) (pg cause off : Nat)
    (hF : [.regs, .evTick, .events] ⊆ F := by decide) : Within F s (captureAt t pg cause off) := by
  unfold captureAt
  exact .after (t := t) (capture_within (.refl _) ..) hF h

theorem refuseFeature_within {F : List Area} {s t : State} (h : Within F s t) (pg off : Nat)
    (hF : [.regs, .evTick, .events] ⊆ F := by decide) : Within F s (refuseFeature t pg off) := by
  unfold refuseFeature
  exact .after (t := t) (captureAt_within (evPut_within (.rset (.refl _) _ _ _ (by decide)) ..) ..) hF h

theorem unlessLocked_within {F : List Area} {s t : State} (h : Within F s t) (pg off : Nat) {f : State → State}
    (hf : ∀ u, Within F u (f u)) (hF : [.regs, .evTick, .events] ⊆ F := by decide) : Within F s (unlessLocked t pg off f) := by
  unfold unlessLocked
  exact .ite (captureAt_within h _ _ _ hF) (h.trans (hf t))

theorem freeTake_within {F : List Area} {s t : State} (h : Within F s t)
    (hF : [.fresh] ⊆ F := by decide) : Within F s (freeTake t).2 :=
  .after (t := t) ⟨rfl, id⟩ hF h

theorem setDom_within {F : List Area} {s t : State} (h : Within F s t) (k : Nat) (d : Dom)
    (hF : [.doms] ⊆ F := by decide) : Within F s (setDom t k d) :=
  .after (t := t) ⟨rfl, id⟩ hF h

theorem portParity_within {F : List Area} {s t : State} (h : Within F s t) (pa : Nat)
    (hF : [.fresh, .regs, .evTick, .events, .badPorts] ⊆ F := by decide) : Within F s (portParity t pa) := by
  have base : ∀ l : List Nat, Within [.fresh, .badPorts] t { t with fresh := t.fresh + 1, badPorts := l } := fun _ => ⟨rfl, id⟩
  refine .after (t := t) ?_ hF h
  unfold portParity
  split
  · exact capture_within ((base _).mono (by decide)) ..
  · exact .refl _

theorem parityCause_within {F : List Area} {s t : State} (h : Within F s t)
    (hF : [.fresh] ⊆ F := by decide) : Within F s (parityCause t).2 :=
  .after (t := t) ⟨rfl, id⟩ hF h

theorem dsvRecord_within {F : List Area} {s t : State} (h : Within F s t) (die cause pa : Nat)
    (hF : [.regs, .evTick, .events] ⊆ F := by decide) : Within F s (dsvRecord t die cause pa) := by
  unfold dsvRecord
  exact .after (t := t) (capture_within (.refl _) ..) hF h

theorem reachRecord_within {F : List Area} {s t : State} (h : Within F s t) (die pa : Nat) (r : Reach)
    (hF : [.fresh, .regs, .evTick, .events, .badPorts] ⊆ F := by decide) : Within F s (reachRecord t die pa r) := by
  unfold reachRecord
  refine .after (t := t) ?_ hF h
  split
  · exact .refl _
  · exact dsvRecord_within (.refl _) ..
  · exact .refl _
  · exact dsvRecord_within (.refl _) ..
  · exact portParity_within (.refl _) ..

theorem memMiss_within {F : List Area} {s t : State} (h : Within F s t) (die a : Nat)
    (hF : [.fresh, .regs, .evTick, .events, .badPorts] ⊆ F := by decide) : Within F s (memMiss t die a) := by
  unfold memMiss
  exact .after (t := t) (reachRecord_within (.refl _) ..) hF h

theorem eccCorrected_within {F : List Area} {s t : State} (h : Within F s t) (a : Nat)
    (hF : [.regs] ⊆ F := by decide) : Within F s (eccCorrected t a) := by
  unfold eccCorrected
  refine .after (t := t) ?_ hF h
  split
  · exact .rset (rinc_within (.refl _) ..) _ _ _ (by decide)
  · exact .refl _

theorem eccLost_within {F : List Area} {s t : State} (h : Within F s t) (a : Nat)
    (hF : [.regs, .evTick, .events] ⊆ F := by decide) : Within F s (eccLost t a) := by
  unfold eccLost
  refine .after (t := t) ?_ hF h
  split
  · exact capture_within (rinc_within (.refl _) ..) ..
  · exact .refl _

theorem queueWriteback_within {F : List Area} {s t : State} (h : Within F s t) (a : Nat)
    (hF : [.eccWb] ⊆ F := by decide) : Within F s (queueWriteback t a) := by
  unfold queueWriteback
  exact .after (t := t) (.ite (.refl _) (Within.setEccWb (.refl _) _ (by decide))) hF h

theorem memRead_within {F : List Area} {s t : State} (h : Within F s t) (a : Nat)
    (hF : [.eccWb, .regs, .evTick, .events] ⊆ F := by decide) : Within F s (memRead t a).2 := by
  unfold memRead
  refine .after (t := t) ?_ hF h
  dsimp only
  split
  · exact .refl _
  · exact eccCorrected_within (queueWriteback_within (.refl _) ..) ..
  · exact eccLost_within (.refl _) ..

theorem memWrite_within {F : List Area} {s t : State} (h : Within F s t) (a : Nat) (data mask : Word) (tag : Bool)
    (hF : [.mem, .eccWb, .regs, .evTick, .events] ⊆ F := by decide) : Within F s (memWrite t a data mask tag) := by
  unfold memWrite
  exact .after (t := t) (.ite (.ite (capture_within (rinc_within (.mset (Within.setEccWb (.refl _) _ (by decide)) _ _
      (by decide)) ..) ..) (.mset (Within.setEccWb (.refl _) _ (by decide)) _ _ (by decide))) (.mset (Within.setEccWb
      (.refl _) _ (by decide)) _ _ (by decide))) hF h

theorem memPut_within {F : List Area} {s t : State} (h : Within F s t) (a : Nat) (data : Word) (tag : Bool)
    (hF : [.mem, .eccWb, .regs, .evTick, .events] ⊆ F := by decide) : Within F s (memPut t a data tag) := by
  unfold memPut
  exact .after (t := t) (memWrite_within (.refl _) ..) hF h

theorem setCore_within {F : List Area} {s t : State} (h : Within F s t) (n : Nat) (c : Core)
    (hF : [.cores] ⊆ F := by decide) : Within F s (setCore t n c) :=
  .after (t := t) ⟨rfl, id⟩ hF h

theorem setCtx_within {F : List Area} {s t : State} (h : Within F s t) (n : Nat) (h' : Nat) (x : Ctx)
    (hF : [.cores] ⊆ F := by decide) : Within F s (setCtx t n h' x) := by
  unfold setCtx
  exact .after (t := t) (setCore_within (.refl _) ..) hF h

theorem perf_within {F : List Area} {s t : State} (h : Within F s t) (n : Nat) (h' : Nat) (off k : Nat)
    (hF : [.regs, .evTick, .events] ⊆ F := by decide) : Within F s (perf t n h' off k) := by
  unfold perf
  exact .after (t := t) (.ite (.refl _) (evPut_within (.rset (.refl _) _ _ _ (by decide)) ..)) hF h

theorem gateCapture_within {F : List Area} {s t : State} (h : Within F s t) (pg cause pa : Nat) (t' : Stamp) (k : Kind)
    (slot win : Nat)
    (hF : [.regs, .evTick, .events] ⊆ F := by decide) : Within F s (gateCapture t pg cause pa t' k slot win) := by
  unfold gateCapture
  exact .after (t := t) (capture_within (.ite (.ite (.refl _) (evPut_within (evPut_within (.refl _) ..) ..)) (.rset (.rset
      (.ite (.refl _) (evPut_within (evPut_within (.refl _) ..) ..)) _ _ _ (by decide)) _ _ _ (by decide))) ..) hF h

theorem targetCapture_within {F : List Area} {s t : State} (h : Within F s t) (st : Stamp) (pa : Nat) (k : Kind)
    (hF : [.regs, .evTick, .events] ⊆ F := by decide) : Within F s (targetCapture t st pa k) := by
  unfold targetCapture
  refine .after (t := t) ?_ hF h
  split
  · exact .refl _
  · exact gateCapture_within (.refl _) ..

theorem setRef_within {F : List Area} {s t : State} (h : Within F s t) (i : Nat) (r : Ref)
    (hF : [.refs] ⊆ F := by decide) : Within F s (setRef t i r) :=
  .after (t := t) ⟨rfl, id⟩ hF h

theorem setChan_within {F : List Area} {s t : State} (h : Within F s t) (m : Nat) (c : Chan)
    (hF : [.chans] ⊆ F := by decide) : Within F s (setChan t m c) :=
  .after (t := t) ⟨rfl, id⟩ hF h

theorem setVoter_within {F : List Area} {s t : State} (h : Within F s t) (g : Nat) (v : Voter)
    (hF : [.voters] ⊆ F := by decide) : Within F s (setVoter t g v) :=
  .after (t := t) ⟨rfl, id⟩ hF h

theorem setBlock_within {F : List Area} {s t : State} (h : Within F s t) (g : Nat) (b : Block)
    (hF : [.blocks] ⊆ F := by decide) : Within F s (setBlock t g b) :=
  .after (t := t) ⟨rfl, id⟩ hF h

theorem setVen_within {F : List Area} {s t : State} (h : Within F s t) (i : Nat) (v : Ven)
    (hF : [.vens] ⊆ F := by decide) : Within F s (setVen t i v) :=
  .after (t := t) ⟨rfl, id⟩ hF h

theorem setSweep_within {F : List Area} {s t : State} (h : Within F s t) (g : Nat) (w : Sweep)
    (hF : [.sweeps] ⊆ F := by decide) : Within F s (setSweep t g w) :=
  .after (t := t) ⟨rfl, id⟩ hF h

theorem ttMark_within {F : List Area} {s t : State} (h : Within F s t) (tick : Nat)
    (hF : [.ttMarks] ⊆ F := by decide) : Within F s (ttMark t tick) :=
  .after (t := t) ⟨rfl, id⟩ hF h

theorem ttAdvance_within {F : List Area} {s t : State} (h : Within F s t)
    (hF : [.tt, .ttSub, .ttRateWas, .ttMarks] ⊆ F := by decide) : Within F s (ttAdvance t) := by
  have last : ∀ (u : State) (a b : Nat), Within [.tt, .ttSub] u { u with tt := a, ttSub := b } := fun _ _ _ => ⟨rfl, id⟩
  refine .after (t := t) ?_ hF h
  unfold ttAdvance
  refine .after (last _ _ _) (by decide) (.ite (.refl _) ?_)
  exact .setTtRateWas (ttMark_within (.refl t) ..) _ (by decide)

theorem unitDo_within {F : List Area} {s t : State} (h : Within F s t) (pg : Nat) {f : State → State}
    (hf : ∀ u, Within F u (f u)) : Within F s (unitDo t pg f) := .ite (h.trans (hf t)) h

theorem replyWord_within {F : List Area} {s t : State} (h : Within F s t) (w : Word)
    (hF : [.busReply] ⊆ F := by decide) : Within F s (replyWord t w) :=
  .after (t := t) ⟨rfl, id⟩ hF h

theorem replyFault_within {F : List Area} {s t : State} (h : Within F s t) (vec cause : Nat)
    (hF : [.busReply] ⊆ F := by decide) : Within F s (replyFault t vec cause) :=
  .after (t := t) ⟨rfl, id⟩ hF h

theorem Reach.cause_within {F : List Area} {s t : State} (h : Within F s t) (r : Reach)
    (hF : [.fresh] ⊆ F := by decide) : Within F s (Reach.cause r t).2 := by
  unfold Reach.cause
  refine .after (t := t) ?_ hF h
  split
  · exact .refl _
  · exact .refl _
  · exact .refl _
  · exact .refl _
  · exact parityCause_within (.refl _) ..

theorem unreached_within {F : List Area} {s t : State} (h : Within F s t) (die pg off : Nat) (r : Reach)
    (hF : [.fresh, .busReply, .regs, .evTick, .events, .badPorts] ⊆ F := by decide) :
    Within F s (unreached t die pg off r) := by
  unfold unreached
  exact .after (t := t) (replyFault_within (Reach.cause_within (reachRecord_within (.refl _) ..) ..) ..) hF h

theorem unitRequest_within {F : List Area} {s t : State} (h : Within F s t) (st : Stamp) (pg off : Nat) (k : Kind)
    {f : State → State}
    (hf : ∀ u, Within F u (f u)) (hF : [.fresh, .busReply, .regs, .evTick, .events, .badPorts] ⊆ F := by decide) :
    Within F s (unitRequest t st pg off k f) := by
  have base : Within [.fresh, .busReply, .regs, .evTick, .events, .badPorts] t (replyWord t 0) := replyWord_within (.refl t) ..
  have refused : Within [.fresh, .busReply, .regs, .evTick, .events, .badPorts] t (replyFault (targetCapture t st
      (regAddr pg off) k) 12 4) :=
    replyFault_within (targetCapture_within (.refl t) ..) ..
  have away : ∀ r, Within [.fresh, .busReply, .regs, .evTick, .events, .badPorts] t (unreached t st.die.toNat pg off r) :=
      fun r => unreached_within (.refl t) ..
  unfold unitRequest
  refine .ite h ?_
  split
  · exact .ite ((Within.after base hF h).trans (hf _)) (.after refused hF h)
  · exact .after (away _) hF h

theorem writeFields_within {F : List Area} {s t : State} (h : Within F s t) (pg off : Nat) (v : Word)
    (hF : [.regs] ⊆ F := by decide) : Within F s (writeFields t pg off v) := by
  unfold writeFields
  refine .after (t := t) ?_ hF h
  split
  · exact .rset (.refl _) _ _ _ (by decide)
  · exact .refl _

theorem plainWrite_within {F : List Area} {s t : State} (h : Within F s t) (pg off : Nat) (v : Word)
    (hF : [.regs, .evTick, .events] ⊆ F := by decide) : Within F s (plainWrite t pg off v) := by
  unfold plainWrite
  refine .after (t := t) ?_ hF h
  split
  · exact .ite (captureAt_within (.refl _) ..) (writeFields_within (.refl _) ..)
  · exact .refl _

theorem resetPage_within {F : List Area} {s t : State} (h : Within F s t) (pg : Nat)
    (hF : [.regs] ⊆ F := by decide) : Within F s (resetPage t pg) := by
  unfold resetPage
  exact .after (t := t) (.setRegs (.refl _) _ (by decide) fun canon => kwf_kkeep _ _ _ canon) hF h

theorem enable_within {F : List Area} {s t : State} (h : Within F s t) (pg : Nat) (why : Option Nat)
    (hF : [.regs, .evTick, .events, .enHeld] ⊆ F := by decide) : Within F s (enable t pg why) := by
  unfold enable
  refine .after (t := t) ?_ hF h
  refine .ite ?_ ?_
  · split
    · exact .refl _
    · exact Within.setEnHeld (.refl _) _ (by decide)
  · refine .ite (refuseFeature_within (.refl _) ..) ?_
    split
    · exact captureAt_within (.rset (.refl _) _ _ _ (by decide)) ..
    · exact .rset (.refl _) _ _ _ (by decide)

theorem holdEn_within {F : List Area} {s t : State} (h : Within F s t) (pg : Nat)
    (hF : [.regs, .evTick, .events, .enHeld] ⊆ F := by decide) : Within F s (holdEn t pg) := by
  unfold holdEn
  exact .after (t := t) (unlessLocked_within (.refl _) _ _ fun _ => enable_within (.refl _) ..) hF h

theorem bookSlots_within {F : List Area} {s t : State} (h : Within F s t) (b : Nat) (g : Agent) (k : Nat)
    (hF : [.regs, .evTick, .events, .slots] ⊆ F := by decide) : Within F s (bookSlots t b g k) := by
  unfold bookSlots
  refine .after (t := t) ?_ hF h
  dsimp only
  split
  · exact Within.setSlots (perf_within (.refl _) ..) _ (by decide)
  · exact Within.setSlots (.refl _) _ (by decide)

theorem noteHeat_within {F : List Area} {s t : State} (h : Within F s t) (die pa count : Nat)
    (hF : [.heatCnt, .heatDue] ⊆ F := by decide) : Within F s (noteHeat t die pa count) := by
  unfold noteHeat
  exact .ite (.after (t := t) ⟨rfl, id⟩ hF h) h

theorem noteAccess_within {F : List Area} {s t : State} (h : Within F s t) (g : Agent) (pa k : Nat)
    (hF : [.regs, .evTick, .events, .heatCnt, .heatDue, .slots] ⊆ F := by decide) : Within F s (noteAccess t g pa k) := by
  unfold noteAccess
  exact .after (t := t) (noteHeat_within (.ite (bookSlots_within (.refl _) ..) (.refl _)) ..) hF h

theorem noteMany_within {F : List Area} {s t : State} (h : Within F s t) (g : Agent) (pa count : Nat)
    (hF : [.regs, .evTick, .events, .heatCnt, .heatDue, .slots] ⊆ F := by decide) : Within F s (noteMany t g pa count) := by
  unfold noteMany
  exact .after (t := t) (noteHeat_within (.ite (bookSlots_within (.refl _) ..) (.refl _)) ..) hF h

theorem readFor_within {F : List Area} {s t : State} (h : Within F s t) (g : Agent) (pa : Nat)
    (hF : [.eccWb, .regs, .evTick, .events, .heatCnt, .heatDue, .slots] ⊆ F := by decide) : Within F s (readFor t g pa).2 := by
  unfold readFor
  exact .after (t := t) (memRead_within (noteAccess_within (.refl _) ..) ..) hF h

theorem putFor_within {F : List Area} {s t : State} (h : Within F s t) (g : Agent) (pa : Nat) (w : Word) (tag : Bool)
    (hF : [.mem, .eccWb, .regs, .evTick, .events, .heatCnt, .heatDue, .slots] ⊆ F := by decide) :
    Within F s (putFor t g pa w tag) := by
  unfold putFor
  exact .after (t := t) (memPut_within (noteAccess_within (.refl _) ..) ..) hF h

theorem unitWaits_within {F : List Area} {s t : State} (h : Within F s t) (n u vpn : Nat)
    (hF : [.cores] ⊆ F := by decide) : Within F s (unitWaits t n u vpn) := by
  unfold unitWaits
  refine .after (t := t) ?_ hF h
  dsimp only
  split
  · exact .ite (.refl _) (setCore_within (.refl _) ..)
  · exact setCore_within (.refl _) ..

theorem unitGoesOn_within {F : List Area} {s t : State} (h : Within F s t) (n u : Nat)
    (hF : [.cores] ⊆ F := by decide) : Within F s (unitGoesOn t n u) := by
  unfold unitGoesOn
  exact .after (t := t) (setCore_within (.refl _) ..) hF h

theorem tableLoad_stays {F : List Area} (n va lvl a : Nat)
    (hF : [.fresh, .eccWb, .regs, .evTick, .events, .heatCnt, .heatDue, .slots, .badPorts] ⊆ F := by decide) :
    Stays F (tableLoad n va lvl a) := by
  unfold tableLoad
  refine .mono (G := [.fresh, .eccWb, .regs, .evTick, .events, .heatCnt, .heatDue, .slots, .badPorts]) ?_ hF
  refine .ite ?_ ?_
  · refine .bind (fault_stays ..) fun _ => ?_
    refine .bind .get fun _ => ?_
    split
    · refine .bind (act_stays fun _ => readFor_within (.refl _) ..) fun _ => ?_
      split
      · exact .pure _
      · exact fault_stays ..
    · exact .bind (upd_stays fun _ => reachRecord_within (.refl _) ..) fun _ => fault_stays ..
  · refine .bind .get fun _ => ?_
    split
    · refine .bind (act_stays fun _ => readFor_within (.refl _) ..) fun _ => ?_
      split
      · exact .pure _
      · exact fault_stays ..
    · exact .bind (upd_stays fun _ => reachRecord_within (.refl _) ..) fun _ => fault_stays ..

theorem walkL2_stays {F : List Area} (n va e2a : Nat) {hold : X Xlat} (hh : Stays F hold)
    (hF : [.fresh, .eccWb, .regs, .evTick, .events, .heatCnt, .heatDue, .slots, .badPorts] ⊆ F := by decide) :
    Stays F (walkL2 n va e2a hold) := by
  unfold walkL2
  refine .bind (tableLoad_stays _ _ _ _ hF) fun _ => ?_
  split
  · split
    · split
      · split
        · split
          · exact .bind (fault_stays ..) fun _ => .bind (fault_stays ..) fun _ => .bind (fault_stays ..) fun _ => .bind
              (fault_stays ..) fun _ => .pure _
          · exact .bind (fault_stays ..) fun _ => .bind (fault_stays ..) fun _ => .bind (fault_stays ..) fun _ => .pure _
        · split
          · exact .bind (fault_stays ..) fun _ => .bind (fault_stays ..) fun _ => .bind (fault_stays ..) fun _ => .pure _
          · exact .bind (fault_stays ..) fun _ => .bind (fault_stays ..) fun _ => .pure _
      · split
        · split
          · exact .bind (fault_stays ..) fun _ => .bind (fault_stays ..) fun _ => .bind (fault_stays ..) fun _ => .pure _
          · exact .bind (fault_stays ..) fun _ => .bind (fault_stays ..) fun _ => .pure _
        · split
          · exact .bind (fault_stays ..) fun _ => .bind (fault_stays ..) fun _ => .pure _
          · exact .bind (fault_stays ..) fun _ => .pure _
    · split
      · split
        · split
          · exact .bind (fault_stays ..) fun _ => .bind (fault_stays ..) fun _ => .bind (fault_stays ..) fun _ => .pure _
          · exact .bind (fault_stays ..) fun _ => .bind (fault_stays ..) fun _ => .pure _
        · split
          · exact .bind (fault_stays ..) fun _ => .bind (fault_stays ..) fun _ => .pure _
          · exact .bind (fault_stays ..) fun _ => .pure _
      · split
        · split
          · exact .bind (fault_stays ..) fun _ => .bind (fault_stays ..) fun _ => .pure _
          · exact .bind (fault_stays ..) fun _ => .pure _
        · split
          · exact .bind (fault_stays ..) fun _ => .pure _
          · exact .pure _
  · split
    · split
      · split
        · split
          · exact .bind (fault_stays ..) fun _ => .bind (fault_stays ..) fun _ => .bind (fault_stays ..) fun _ => .bind
              (fault_stays ..) fun _ => hh
          · exact .bind (fault_stays ..) fun _ => .bind (fault_stays ..) fun _ => .bind (fault_stays ..) fun _ => hh
        · split
          · exact .bind (fault_stays ..) fun _ => .bind (fault_stays ..) fun _ => .bind (fault_stays ..) fun _ => hh
          · exact .bind (fault_stays ..) fun _ => .bind (fault_stays ..) fun _ => hh
      · split
        · split
          · exact .bind (fault_stays ..) fun _ => .bind (fault_stays ..) fun _ => .bind (fault_stays ..) fun _ => hh
          · exact .bind (fault_stays ..) fun _ => .bind (fault_stays ..) fun _ => hh
        · split
          · exact .bind (fault_stays ..) fun _ => .bind (fault_stays ..) fun _ => hh
          · exact .bind (fault_stays ..) fun _ => hh
    · split
      · split
        · split
          · exact .bind (fault_stays ..) fun _ => .bind (fault_stays ..) fun _ => .bind (fault_stays ..) fun _ => hh
          · exact .bind (fault_stays ..) fun _ => .bind (fault_stays ..) fun _ => hh
        · split
          · exact .bind (fault_stays ..) fun _ => .bind (fault_stays ..) fun _ => hh
          · exact .bind (fault_stays ..) fun _ => hh
      · split
        · split
          · exact .bind (fault_stays ..) fun _ => .bind (fault_stays ..) fun _ => hh
          · exact .bind (fault_stays ..) fun _ => hh
        · split
          · exact .bind (fault_stays ..) fun _ => hh
          · exact hh

theorem walk_stays {F : List Area} (n ttb va : Nat) {hold : Nat → X Xlat} (hh : ∀ a, Stays F (hold a))
    (hF : [.fresh, .eccWb, .regs, .evTick, .events, .heatCnt, .heatDue, .slots, .badPorts] ⊆ F := by decide) :
    Stays F (walk n ttb va hold) := by
  unfold walk
  dsimp only
  refine .bind (tableLoad_stays _ _ _ _ hF) fun _ => ?_
  split
  · refine .bind (fault_stays ..) fun _ => ?_
    split
    · refine .bind (fault_stays ..) fun _ => ?_
      split
      · split
        · exact .bind (fault_stays ..) fun _ => .pure _
        · exact .pure _
      · split
        · exact .bind (fault_stays ..) fun _ => walkL2_stays _ _ _ (hh _) hF
        · exact walkL2_stays _ _ _ (hh _) hF
    · split
      · split
        · exact .bind (fault_stays ..) fun _ => .pure _
        · exact .pure _
      · split
        · exact .bind (fault_stays ..) fun _ => walkL2_stays _ _ _ (hh _) hF
        · exact walkL2_stays _ _ _ (hh _) hF
  · split
    · refine .bind (fault_stays ..) fun _ => ?_
      split
      · split
        · exact .bind (fault_stays ..) fun _ => .pure _
        · exact .pure _
      · split
        · exact .bind (fault_stays ..) fun _ => walkL2_stays _ _ _ (hh _) hF
        · exact walkL2_stays _ _ _ (hh _) hF
    · split
      · split
        · exact .bind (fault_stays ..) fun _ => .pure _
        · exact .pure _
      · split
        · exact .bind (fault_stays ..) fun _ => walkL2_stays _ _ _ (hh _) hF
        · exact walkL2_stays _ _ _ (hh _) hF

theorem releaseWalk_within {F : List Area} {s t : State} (h : Within F s t) (n : Nat)
    (hF : [.regs, .evTick, .events, .cores] ⊆ F := by decide) : Within F s (releaseWalk t n) := by
  unfold releaseWalk
  refine .after (t := t) ?_ hF h
  dsimp only
  split
  · exact .refl _
  · exact setCore_within (.rset (evPut_within (.refl _) ..) _ _ _ (by decide)) ..

theorem holdWalk_stays {F : List Area} (n va since e2a : Nat)
    (hF : [.regs, .evTick, .events, .cores] ⊆ F := by decide) : Stays F (holdWalk n va since e2a) := by
  unfold holdWalk
  exact .mono (G := [.regs, .evTick, .events, .cores]) (.bind .get fun _ => .ite (.bind (upd_stays fun _ => releaseWalk_within
      (.refl _) ..) fun _ => fault_stays ..) (.bind (upd_stays fun _ => setCore_within (.refl _) ..) fun _ => .throw _)) hF

theorem coreWalk_stays {F : List Area} (n va : Nat)
    (hF : [.fresh, .eccWb, .regs, .evTick, .events, .cores, .heatCnt, .heatDue, .slots, .badPorts] ⊆ F := by decide) :
    Stays F (coreWalk n va) := by
  unfold coreWalk
  refine .mono (G := [.fresh, .eccWb, .regs, .evTick, .events, .cores, .heatCnt, .heatDue, .slots, .badPorts]) ?_ hF
  refine .bind .get fun _ => ?_
  dsimp only
  split
  · exact .ite (.ite (walk_stays _ _ _ fun _ => holdWalk_stays ..) (.ite (walkL2_stays _ _ _ (holdWalk_stays ..))
      (holdWalk_stays ..))) (walk_stays _ _ _ fun _ => holdWalk_stays ..)
  · exact walk_stays _ _ _ fun _ => holdWalk_stays ..

theorem keepHeld_within {F : List Area} {s t : State} (h : Within F s t) (s' : State) (n : Nat)
    (hF : [.cores] ⊆ F := by decide) : Within F s (keepHeld s' t n) := by
  unfold keepHeld
  exact .after (t := t) (setCore_within (.refl _) ..) hF h

theorem lookup_stays {F : List Area} (n va : Nat) (k : Kind)
    (hF : [.fresh, .eccWb, .regs, .evTick, .events, .cores, .heatCnt, .heatDue, .slots, .badPorts] ⊆ F := by decide) :
    Stays F (lookup n va k) := by
  unfold lookup
  refine .mono (G := [.fresh, .eccWb, .regs, .evTick, .events, .cores, .heatCnt, .heatDue, .slots, .badPorts]) ?_ hF
  refine .bind .get fun _ => ?_
  dsimp only
  split
  · exact .pure _
  · split
    · exact .bind (upd_stays fun _ => setCore_within (.refl _) ..) fun _ => .pure _
    · exact .bind (coreWalk_stays ..) fun _ => .bind (upd_stays fun _ => setCore_within (.refl _) ..) fun _ => .pure _

theorem translate_stays {F : List Area} (n va : Nat) (k : Kind)
    (hF : [.fresh, .eccWb, .regs, .evTick, .events, .cores, .heatCnt, .heatDue, .slots, .badPorts] ⊆ F := by decide) :
    Stays F (translate n va k) := by
  unfold translate
  exact .mono (G := [.fresh, .eccWb, .regs, .evTick, .events, .cores, .heatCnt, .heatDue, .slots, .badPorts]) (.bind .get
      fun _ => .ite (.pure _) (.bind (lookup_stays ..) fun _ => .ite (.bind (fault_stays ..) fun _ => .pure _) (.pure _))) hF

theorem performPosts_within {F : List Area} {s t : State} (h : Within F s t) (n : Nat)
    (hF : [.cores] ⊆ F := by decide) : Within F s (performPosts t n) := by
  unfold performPosts
  exact .after (t := t) (setCore_within (.refl _) ..) hF h

theorem postInval_within {F : List Area} {s t : State} (h : Within F s t) (p : Poster) (sc : Scope) (dests : List Nat)
    (hF : [.posts, .postId] ⊆ F := by decide) : Within F s (postInval t p sc dests) := by
  unfold postInval
  exact .ite (.after (t := t) (G := [.posts, .postId]) ⟨rfl, id⟩ hF h) (.after (t := t) ⟨rfl, id⟩ hF h)

theorem tlbInvalidate_within {F : List Area} {s t : State} (h : Within F s t) (n : Nat) (h' : Nat) (sc : Scope)
    (hF : [.cores, .posts, .postId] ⊆ F := by decide) : Within F s (tlbInvalidate t n h' sc) := by
  unfold tlbInvalidate
  exact .after (t := t) (postInval_within (setCore_within (.refl _) ..) ..) hF h

theorem ackAll_within {F : List Area} {s t : State} (h : Within F s t) (n : Nat)
    (hF : [.posts] ⊆ F := by decide) : Within F s (ackAll t n) := by
  unfold ackAll
  refine .after (t := t) ?_ hF h
  dsimp only
  exact Within.setPosts (.refl _) _ (by decide)

theorem busFault_stays {F : List Area} {α : Type} (n va pa : Nat) (r : Reach)
    (hF : [.fresh, .regs, .evTick, .events, .badPorts] ⊆ F := by decide) :
    Stays F (busFault n va pa r : EStateM Stop State α) := by
  unfold busFault
  exact .mono (G := [.fresh, .regs, .evTick, .events, .badPorts]) (.bind (upd_stays fun _ => reachRecord_within (.refl _)
      ..) fun _ => .ite (.bind (act_stays fun _ => parityCause_within (.refl _) ..) fun _ => fault_stays ..) (.bind
      (.pure _) fun _ => fault_stays ..)) hF

theorem fetchFault_stays {F : List Area} {α : Type} (n va pa : Nat) (r : Reach)
    (hF : [.fresh, .regs, .evTick, .events, .badPorts] ⊆ F := by decide) :
    Stays F (fetchFault n va pa r : EStateM Stop State α) := by
  unfold fetchFault
  exact .mono (G := [.fresh, .regs, .evTick, .events, .badPorts]) (.bind (upd_stays fun _ => reachRecord_within (.refl _)
      ..) fun _ => .ite (.bind (act_stays fun _ => parityCause_within (.refl _) ..) fun _ => fault_stays ..) (.bind
      (.pure _) fun _ => fault_stays ..)) hF

theorem masterGate_stays {F : List Area} (n : Nat) (h' : Nat) (st : Stamp) (pa : Nat) (k : Kind)
    (hF : [.regs, .evTick, .events] ⊆ F := by decide) : Stays F (masterGate n h' st pa k) := by
  unfold masterGate
  refine .mono (G := [.regs, .evTick, .events]) ?_ hF
  refine .bind .get fun _ => ?_
  split
  · exact .pure _
  · refine .ite ?_ (.pure _)
    split
    · exact .pure _
    · exact .bind (upd_stays fun _ => gateCapture_within (.refl _) ..) fun _ => fault_stays ..

theorem targetGate_stays {F : List Area} (st : Stamp) (pa : Nat) (k : Kind)
    (hF : [.regs, .evTick, .events] ⊆ F := by decide) : Stays F (targetGate st pa k) := by
  unfold targetGate
  exact .mono (G := [.regs, .evTick, .events]) (.bind .get fun _ => .ite (.pure _) (.bind (upd_stays
      fun _ => targetCapture_within (.refl _) ..) fun _ => fault_stays ..)) hF

theorem resolve_stays {F : List Area} (n : Nat) (h' : Nat) (va priv : Nat) (k : Kind)
    (hF : [.fresh, .eccWb, .regs, .evTick, .events, .cores, .heatCnt, .heatDue, .slots, .badPorts] ⊆ F := by decide) :
    Stays F (resolve n h' va priv k) := by
  unfold resolve
  exact .mono (G := [.fresh, .eccWb, .regs, .evTick, .events, .cores, .heatCnt, .heatDue, .slots, .badPorts]) (.bind
      (translate_stays ..) fun _ => .bind .get fun _ => .bind (masterGate_stays ..) fun _ => .pure _) hF

theorem writeThrough_stays {F : List Area} (n va pa : Nat) (st : Stamp) (k : Kind) (data : Word) (tag : Bool)
    (hF : [.fresh, .mem, .eccWb, .regs, .evTick, .events, .heatCnt, .heatDue, .slots, .badPorts] ⊆ F := by decide) :
    Stays F (writeThrough n va pa st k data tag) := by
  unfold writeThrough
  refine .mono (G := [.fresh, .mem, .eccWb, .regs, .evTick, .events, .heatCnt, .heatDue, .slots, .badPorts]) ?_ hF
  refine .bind .get fun _ => ?_
  split
  · exact .bind (targetGate_stays ..) fun _ => upd_stays fun _ => putFor_within (.refl _) ..
  · exact busFault_stays ..

theorem pageGate_stays {F : List Area} (n va pa pg : Nat) (st : Stamp) (k : Kind)
    (hF : [.fresh, .regs, .evTick, .events, .badPorts] ⊆ F := by decide) : Stays F (pageGate n va pa pg st k) := by
  unfold pageGate
  refine .mono (G := [.fresh, .regs, .evTick, .events, .badPorts]) ?_ hF
  refine .bind .get fun _ => ?_
  split
  · exact targetGate_stays ..
  · exact busFault_stays ..

theorem pageForm_stays {F : List Area} {α : Type} (n va pa : Nat) (st : Stamp) (k : Kind)
    (hF : [.fresh, .regs, .evTick, .events, .badPorts] ⊆ F := by decide) :
    Stays F (pageForm n va pa st k : EStateM Stop State α) := by
  unfold pageForm
  refine .mono (G := [.fresh, .regs, .evTick, .events, .badPorts]) ?_ hF
  refine .bind .get fun _ => ?_
  dsimp only
  split
  · exact .bind (pageGate_stays ..) fun _ => fault_stays ..
  · exact .ite (.bind (busFault_stays ..) fun _ => fault_stays ..) (fault_stays ..)

theorem entryWrite_stays {F : List Area} (n : Nat) (h' : Nat) (w : Nat × Word × Bool)
    (hF : [.fresh, .mem, .eccWb, .regs, .evTick, .events, .cores, .heatCnt, .heatDue, .slots, .badPorts] ⊆ F := by decide) :
    Stays F (entryWrite n h' w) := by
  unfold entryWrite
  exact .mono (G := [.fresh, .mem, .eccWb, .regs, .evTick, .events, .cores, .heatCnt, .heatDue, .slots, .badPorts]) (.bind
      (resolve_stays ..) fun _ => .ite (.bind (pageForm_stays ..) fun _ => writeThrough_stays ..) (writeThrough_stays ..)) hF

theorem discardPq_within {F : List Area} {s t : State} (h : Within F s t) (n : Nat) (h' : Nat)
    (hF : [.regs, .evTick, .events, .cores] ⊆ F := by decide) : Within F s (discardPq t n h') := by
  unfold discardPq
  exact .after (t := t) (perf_within (setCore_within (.refl _) ..) ..) hF h

theorem wakeCore_within {F : List Area} {s t : State} (h : Within F s t) (n : Nat)
    (hF : [.doms] ⊆ F := by decide) : Within F s (wakeCore t n) := by
  unfold wakeCore
  exact .after (t := t) (.ite (setDom_within (.refl _) ..) (.refl _)) hF h

theorem revoked_within {F : List Area} {s t : State} (h : Within F s t) (g x : Nat)
    (hF : [.fresh, .eccWb, .regs, .evTick, .events, .heatCnt, .heatDue, .slots, .badPorts] ⊆ F := by decide) :
    Within F s (revoked t g x).2 := by
  unfold revoked
  refine .after (t := t) ?_ hF h
  split
  · exact .refl _
  · split
    · split
      · exact .of_snd ‹_ = (_, _)› (readFor_within (.refl _) ..)
      · exact capture_within (.of_snd ‹_ = (_, _)› (readFor_within (.refl _) ..)) ..
    · exact capture_within (memMiss_within (.refl _) ..) ..

theorem filterTag_within {F : List Area} {s t : State} (h : Within F s t) (g : Nat) (c : Cap)
    (hF : [.fresh, .eccWb, .regs, .evTick, .events, .heatCnt, .heatDue, .slots, .badPorts] ⊆ F := by decide) :
    Within F s (filterTag t g c).2 := by
  unfold filterTag
  refine .after (t := t) ?_ hF h
  dsimp only
  split
  · exact revoked_within (.refl _) ..
  · exact .refl _

theorem putRules_within {F : List Area} {s t : State} (h : Within F s t) (n : Nat) (b : Bool) (r : RuleSet)
    (hF : [.cores] ⊆ F := by decide) : Within F s (putRules t n b r) := by
  unfold putRules
  exact .after (t := t) (setCore_within (.refl _) ..) hF h

theorem setFault_within {F : List Area} {s t : State} (h : Within F s t) (n : Nat) (b : Bool) (code slot win : Nat)
    (hF : [.regs, .evTick, .events, .cores] ⊆ F := by decide) : Within F s (setFault t n b code slot win) := by
  unfold setFault
  exact .after (t := t) (capture_within (setCore_within (.refl _) ..) ..) hF h

theorem commitSet_within {F : List Area} {s t : State} (h : Within F s t) (n : Nat) (b : Bool)
    (hF : [.regs, .evTick, .events, .cores] ⊆ F := by decide) : Within F s (commitSet t n b) := by
  unfold commitSet
  refine .after (t := t) ?_ hF h
  dsimp only
  split
  · exact setFault_within (.refl _) ..
  · exact setCore_within (.refl _) ..

theorem refuseCmd_within {F : List Area} {s t : State} (h : Within F s t) (n : Nat) (v : Word)
    (hF : [.regs, .evTick, .events] ⊆ F := by decide) : Within F s (refuseCmd t n v) := by
  unfold refuseCmd
  exact .after (t := t) (capture_within (.refl _) ..) hF h

theorem unitHold_stays {F : List Area} (n u va e2a : Nat)
    (hF : [.cores] ⊆ F := by decide) : Stays F (unitHold n u va e2a) := by
  unfold unitHold
  exact .mono (G := [.cores]) (.bind .get fun _ => .ite (.bind (fault_stays ..) fun _ => .bind (upd_stays
      fun _ => unitWaits_within (.refl _) ..) fun _ => .throw _) (.bind (upd_stays fun _ => unitWaits_within (.refl _) ..)
      fun _ => .throw _)) hF

theorem dmaTranslate_stays {F : List Area} (n u va : Nat) (write : Bool)
    (hF : [.fresh, .eccWb, .regs, .evTick, .events, .cores, .heatCnt, .heatDue, .slots, .badPorts] ⊆ F := by decide) :
    Stays F (dmaTranslate n u va write) := by
  unfold dmaTranslate
  refine .mono (G := [.fresh, .eccWb, .regs, .evTick, .events, .cores, .heatCnt, .heatDue, .slots, .badPorts]) ?_ hF
  refine .bind .get fun _ => ?_
  refine .ite (.pure _) ?_
  dsimp only
  split
  · exact .ite (.bind (fault_stays ..) fun _ => .pure _) (.pure _)
  · exact .bind (walk_stays _ _ _ fun _ => unitHold_stays ..) fun _ => .bind (upd_stays fun _ => unitGoesOn_within (.refl _)
      ..) fun _ => .bind (upd_stays fun _ => setCore_within (.refl _) ..) fun _ => .ite (.bind (fault_stays ..) fun _ =>
      .pure _) (.pure _)

theorem loaderRead_stays {F : List Area} (n va : Nat)
    (hF : [.fresh, .eccWb, .regs, .evTick, .events, .cores, .heatCnt, .heatDue, .slots, .badPorts] ⊆ F := by decide) :
    Stays F (loaderRead n va) := by
  unfold loaderRead
  refine .mono (G := [.fresh, .eccWb, .regs, .evTick, .events, .cores, .heatCnt, .heatDue, .slots, .badPorts]) ?_ hF
  refine .bind (dmaTranslate_stays ..) fun _ => ?_
  refine .bind .get fun _ => ?_
  split
  · refine .bind (act_stays fun _ => readFor_within (.refl _) ..) fun _ => ?_
    split
    · exact .pure _
    · exact fault_stays ..
  · exact busFault_stays ..

theorem loadWords_stays {F : List Area} (n va : Nat) (b : Bool) (l : List Nat)
    (hF : [.fresh, .eccWb, .regs, .evTick, .events, .cores, .heatCnt, .heatDue, .slots, .badPorts] ⊆ F := by decide) :
    Stays F (loadWords n va b l) := by
  induction l with
  | nil => exact .pure _
  | cons i r ih =>
    unfold loadWords
    exact .bind (loaderRead_stays _ _ hF) fun _ => .bind
      (upd_stays fun s => .mono (G := [.cores]) (setCore_within (.refl s) ..) (List.Subset.trans (by decide) hF)) fun _ => ih

theorem loadImage_stays {F : List Area} (n va : Nat) (b : Bool)
    (hF : [.fresh, .eccWb, .regs, .evTick, .events, .cores, .heatCnt, .heatDue, .slots, .badPorts] ⊆ F := by decide) :
    Stays F (loadImage n va b) := by
  unfold loadImage
  exact .mono (G := [.fresh, .eccWb, .regs, .evTick, .events, .cores, .heatCnt, .heatDue, .slots, .badPorts]) (.bind
      (loaderRead_stays ..) fun _ => .bind (loaderRead_stays ..) fun _ => .bind (act_stays fun _ => filterTag_within (.refl _)
      ..) fun _ => .ite (.pure _) (.bind (upd_stays fun _ => setCore_within (.refl _) ..) fun _ => .bind (loadWords_stays
      ..) fun _ => .pure _)) hF

theorem endLoad_within {F : List Area} {s t : State} (h : Within F s t) (n : Nat) (b : Bool)
    (hF : [.regs, .evTick, .events, .cores] ⊆ F := by decide) : Within F s (endLoad t n b) := by
  unfold endLoad
  exact .after (t := t) (irqPend_within (setCore_within (.refl _) ..) ..) hF h

theorem stopLoad_within {F : List Area} {s t : State} (h : Within F s t) (n : Nat) (b : Bool)
    (hF : [.regs, .evTick, .events, .cores] ⊆ F := by decide) : Within F s (stopLoad t n b) := by
  unfold stopLoad
  exact .after (t := t) (.ite (endLoad_within (.refl _) ..) (.refl _)) hF h

theorem finishLoad_within {F : List Area} {s t : State} (h : Within F s t) (n : Nat) (b : Bool) (va : Nat)
    (hF : [.fresh, .eccWb, .regs, .evTick, .events, .cores, .heatCnt, .heatDue, .slots, .badPorts] ⊆ F := by decide) :
    Within F s (finishLoad t n b va) := by
  refine .after (t := t) ?_ hF h
  have loaded : Stays [.fresh, .eccWb, .regs, .evTick, .events, .cores, .heatCnt, .heatDue, .slots, .badPorts]
      (loadImage n va b) := loadImage_stays ..
  unfold finishLoad
  dsimp only
  split
  · exact endLoad_within (unitGoesOn_within (commitSet_within (setCore_within (loaded.ok ‹_› (.refl t)) ..) ..) ..) ..
  · exact endLoad_within (unitGoesOn_within (setFault_within (loaded.ok ‹_› (.refl t)) ..) ..) ..
  · exact endLoad_within (unitGoesOn_within (setFault_within (loaded.error ‹_› (.refl t)) ..) ..) ..
  · exact setCore_within (.refl t) ..

theorem rsloadStore_within {F : List Area} {s t : State} (h : Within F s t) (n : Nat) (v : Word)
    (hF : [.regs, .evTick, .events, .cores] ⊆ F := by decide) : Within F s (rsloadStore t n v) := by
  unfold rsloadStore
  exact .after (t := t) (unlessLocked_within (.refl _) _ _ fun _ => .ite (refuseCmd_within (.refl _) ..) (setCore_within
      (.refl _) ..)) hF h

theorem clearSet_within {F : List Area} {s t : State} (h : Within F s t) (n : Nat) (b : Bool) (v : Word)
    (hF : [.regs, .evTick, .events, .cores] ⊆ F := by decide) : Within F s (clearSet t n b v) := by
  unfold clearSet
  exact .after (t := t) (.ite (refuseCmd_within (.refl _) ..) (putRules_within (stopLoad_within (.refl _) ..) ..)) hF h

theorem commitOpen_within {F : List Area} {s t : State} (h : Within F s t) (n : Nat) (b : Bool) (v : Word)
    (hF : [.regs, .evTick, .events, .cores] ⊆ F := by decide) : Within F s (commitOpen t n b v) := by
  unfold commitOpen
  exact .after (t := t) (.ite (refuseCmd_within (.refl _) ..) (irqPend_within (commitSet_within (.refl _) ..) ..)) hF h

theorem rsctlStore_within {F : List Area} {s t : State} (h : Within F s t) (n : Nat) (v : Word)
    (hF : [.regs, .evTick, .events, .cores] ⊆ F := by decide) : Within F s (rsctlStore t n v) := by
  unfold rsctlStore
  exact .after (t := t) (unlessLocked_within (.refl _) _ _ fun _ => .ite (commitOpen_within (.ite (clearSet_within (.refl _)
      ..) (.refl _)) ..) (.ite (clearSet_within (.refl _) ..) (.refl _))) hF h

theorem rsdataWrite_within {F : List Area} {s t : State} (h : Within F s t) (n : Nat) (v : Word)
    (hF : [.regs, .evTick, .events, .cores] ⊆ F := by decide) : Within F s (rsdataWrite t n v) := by
  unfold rsdataWrite
  exact .after (t := t) (.ite (.refl _) (.ite (.ite (refuseCmd_within (.refl _) ..) (setCore_within (.refl _) ..))
      (putRules_within (stopLoad_within (.refl _) ..) ..))) hF h

theorem rsdataStore_within {F : List Area} {s t : State} (h : Within F s t) (n : Nat) (v : Word)
    (hF : [.regs, .evTick, .events, .cores] ⊆ F := by decide) : Within F s (rsdataStore t n v) := by
  unfold rsdataStore
  exact .after (t := t) (unlessLocked_within (.refl _) _ _ fun _ => rsdataWrite_within (.refl _) ..) hF h

theorem epochStall_within {F : List Area} {s t : State} (h : Within F s t) (m n : Nat)
    (hF : [.cores] ⊆ F := by decide) : Within F s (epochStall t m n) := by
  unfold epochStall
  exact .after (t := t) (setCore_within (.refl _) ..) hF h

theorem gatecfgStore_within {F : List Area} {s t : State} (h : Within F s t) (v : Word)
    (hF : [.regs, .evTick, .events] ⊆ F := by decide) : Within F s (gatecfgStore t v) := by
  unfold gatecfgStore
  exact .after (t := t) (unlessLocked_within (.refl _) _ _ fun _ => .ite (writeFields_within (.refl _) ..) (captureAt_within
      (.refl _) ..)) hF h

theorem dmaMaster_stays {F : List Area} (n pa : Nat) (x : DmaDesc) (k : Kind)
    (hF : [.regs, .evTick, .events] ⊆ F := by decide) : Stays F (dmaMaster n pa x k) := by
  unfold dmaMaster
  refine .mono (G := [.regs, .evTick, .events]) ?_ hF
  refine .bind .get fun _ => ?_
  dsimp only
  split
  · exact .pure _
  · refine .ite ?_ (.pure _)
    split
    · exact .bind (upd_stays fun _ => gateCapture_within (.refl _) ..) fun _ => fault_stays ..
    · split
      · exact .bind (upd_stays fun _ => gateCapture_within (.refl _) ..) fun _ => fault_stays ..
      · exact .pure _

theorem dmaGate_stays {F : List Area} (n va pa : Nat) (x : DmaDesc) (k : Kind)
    (hF : [.fresh, .regs, .evTick, .events, .badPorts] ⊆ F := by decide) : Stays F (dmaGate n va pa x k) := by
  unfold dmaGate
  refine .mono (G := [.fresh, .regs, .evTick, .events, .badPorts]) ?_ hF
  refine .bind (dmaMaster_stays ..) fun _ => ?_
  refine .ite ?_ ?_
  · refine .bind (pageForm_stays ..) fun _ => ?_
    refine .bind .get fun _ => ?_
    split
    · exact targetGate_stays ..
    · exact busFault_stays ..
  · refine .bind .get fun _ => ?_
    split
    · exact targetGate_stays ..
    · exact busFault_stays ..

theorem busError_stays {F : List Area} (va : Nat)
    (hF : [.fresh] ⊆ F := by decide) : Stays F (busError va) := by
  unfold busError
  refine .mono (G := [.fresh]) ?_ hF
  refine .bind ?_ fun _ => fault_stays ..
  refine act_stays fun _ => ?_
  dsimp only
  exact Within.setFresh (.refl _) _ (by decide)

theorem dmaRead_stays {F : List Area} (n va : Nat) (x : DmaDesc) (k : Kind)
    (hF : [.fresh, .eccWb, .regs, .evTick, .events, .cores, .heatCnt, .heatDue, .slots, .badPorts] ⊆ F := by decide) :
    Stays F (dmaRead n va x k) := by
  unfold dmaRead
  refine .mono (G := [.fresh, .eccWb, .regs, .evTick, .events, .cores, .heatCnt, .heatDue, .slots, .badPorts]) ?_ hF
  refine .bind (dmaTranslate_stays ..) fun _ => ?_
  refine .bind (dmaGate_stays ..) fun _ => ?_
  refine .bind (act_stays fun _ => readFor_within (.refl _) ..) fun _ => ?_
  split
  · exact .pure _
  · exact busError_stays ..

theorem dmaWrite_stays {F : List Area} (n va : Nat) (x : DmaDesc) (k : Kind) (w : Word) (tag : Bool)
    (hF : [.fresh, .mem, .eccWb, .regs, .evTick, .events, .cores, .heatCnt, .heatDue, .slots, .badPorts] ⊆ F := by decide) :
    Stays F (dmaWrite n va x k w tag) := by
  unfold dmaWrite
  exact .mono (G := [.fresh, .mem, .eccWb, .regs, .evTick, .events, .cores, .heatCnt, .heatDue, .slots, .badPorts]) (.bind
      (dmaTranslate_stays ..) fun _ => .bind (dmaGate_stays ..) fun _ => upd_stays fun _ => putFor_within (.refl _) ..) hF

theorem dmaCopy_stays {F : List Area} (n : Nat) (x : DmaDesc) (pairs : Bool) (fuel i : Nat)
    (hF : [.fresh, .mem, .eccWb, .regs, .evTick, .events, .cores, .heatCnt, .heatDue, .slots, .badPorts] ⊆ F := by decide) :
    Stays F (dmaCopy n x pairs fuel i) := by
  induction fuel generalizing i with
  | zero => exact .pure _
  | succ f ih =>
    have read := fun a k => dmaRead_stays (F := F) n a x k (List.Subset.trans (by decide) hF)
    have write := fun a k w b => dmaWrite_stays (F := F) n a x k w b (List.Subset.trans (by decide) hF)
    unfold dmaCopy
    refine .ite (.pure _) (.ite ?_ ?_)
    · refine .bind (read _ _) fun _ => .bind (read _ _) fun _ => .bind (act_stays fun s => ?_) fun _ =>
        .bind (write _ _ _ _) fun _ => .bind (write _ _ _ _) fun _ => ih _
      exact filterTag_within (.refl s) _ _ (List.Subset.trans (by decide) hF)
    · exact .bind (read _ _) fun _ => .bind (write _ _ _ _) fun _ => ih _

theorem dmaRun_stays {F : List Area} (n : Nat) (x : DmaDesc)
    (hF : [.fresh, .mem, .eccWb, .regs, .evTick, .events, .cores, .heatCnt, .heatDue, .slots, .badPorts] ⊆ F := by decide) :
    Stays F (dmaRun n x) := by
  unfold dmaRun
  refine .mono (G := [.fresh, .mem, .eccWb, .regs, .evTick, .events, .cores, .heatCnt, .heatDue, .slots, .badPorts]) ?_ hF
  dsimp only
  split
  · exact fault_stays ..
  · split
    · exact fault_stays ..
    · exact dmaCopy_stays ..

theorem dmaDepends_within {F : List Area} {s t : State} (h : Within F s t) (n : Nat) (b : Option Bool)
    (hF : [.cores] ⊆ F := by decide) : Within F s (dmaDepends t n b) := by
  unfold dmaDepends
  exact .after (t := t) (setCore_within (.refl _) ..) hF h

theorem dmaAnswer_within {F : List Area} {s t : State} (h : Within F s t) (n : Nat) (x : DmaDesc)
    (hF : [.fresh, .busReply, .mem, .eccWb, .regs, .evTick, .events, .cores, .heatCnt, .heatDue, .slots,
        .badPorts] ⊆ F := by decide) :
    Within F s (dmaAnswer t n x) := by
  unfold dmaAnswer
  refine .after (t := t) ?_ hF h
  dsimp only
  split
  · exact replyWord_within (unitGoesOn_within (dmaDepends_within (Stays.ok (dmaRun_stays ..) ‹_ = EStateM.Result.ok _ _›
      (.refl _)) ..) ..) ..
  · exact replyFault_within (unitGoesOn_within (dmaDepends_within (Stays.error (dmaRun_stays
      ..) ‹_ = EStateM.Result.error _ _› (.refl _)) ..) ..) ..
  · exact dmaDepends_within (setCore_within (.refl _) ..) ..

theorem freeEntry_within {F : List Area} {s t : State} (h : Within F s t) (d i : Nat)
    (hF : [.reeds] ⊆ F := by decide) : Within F s (freeEntry t d i) := by
  unfold freeEntry
  exact .setReed h _ _ (hF (by decide)) fun _ now => .of_ev ((now.reed d).put i Event.init) rfl

theorem retireEntry_within {F : List Area} {s t : State} (h : Within F s t) (d i : Nat)
    (hF : [.regs, .evTick, .events, .reeds] ⊆ F := by decide) : Within F s (retireEntry t d i) := by
  unfold retireEntry
  exact .after (t := t) (irqPend_within (rinc_within (freeEntry_within (.refl _) ..) ..) ..) hF h

theorem retireWhere_within {F : List Area} {s t : State} (h : Within F s t) (d : Nat) (f : Event → Bool)
    (hF : [.regs, .evTick, .events, .reeds] ⊆ F := by decide) : Within F s (retireWhere t d f) := by
  unfold retireWhere
  exact .after (t := t) (.foldl (fun _ _ => retireEntry_within (.refl _) ..) (.refl _)) hF h

theorem setGd_within {F : List Area} {s t : State} (h : Within F s t) (m : Nat) (v : Bool)
    (hF : [.chans] ⊆ F := by decide) : Within F s (setGd t m v) := by
  unfold setGd
  exact .after (t := t) (.ite (setChan_within (.refl _) ..) (setChan_within (.refl _) ..)) hF h

theorem gdTo_within {F : List Area} {s t : State} (h : Within F s t) (m : Nat) (v : Bool)
    (hF : [.chans] ⊆ F := by decide) : Within F s (gdTo t m v) := by
  unfold gdTo
  exact .after (t := t) (.ite (.refl _) (.ite (setGd_within (.refl _) ..) (setChan_within (.refl _) ..))) hF h

theorem applyGd_within {F : List Area} {s t : State} (h : Within F s t) (m : Nat)
    (hF : [.fresh, .chans] ⊆ F := by decide) : Within F s (applyGd t m) := by
  unfold applyGd
  exact .after (t := t) (.ite (Within.setFresh (gdTo_within (.refl _) ..) _ (by decide)) (gdTo_within (.refl _) ..)) hF h

theorem edgeTick_within {F : List Area} {s t : State} (h : Within F s t) (m : Nat)
    (hF : [.chans] ⊆ F := by decide) : Within F s (edgeTick t m) := by
  unfold edgeTick
  exact .after (t := t) (.ite (.refl _) (setChan_within (.refl _) ..)) hF h

theorem gdEdges_within {F : List Area} {s t : State} (h : Within F s t)
    (hF : [.chans] ⊆ F := by decide) : Within F s (gdEdges t) := by
  unfold gdEdges
  refine .after (t := t) ?_ hF h
  dsimp only
  exact Within.setChans (.refl _) _ (by decide)

theorem setLit_within {F : List Area} {s t : State} (h : Within F s t) (m : Nat) (lit : Bool) (level : Nat)
    (hF : [.chans] ⊆ F := by decide) : Within F s (setLit t m lit level) := by
  unfold setLit
  exact .after (t := t) (.ite (.refl _) (.ite (setChan_within (.refl _) ..) (setChan_within (.refl _) ..))) hF h

theorem clearVoter_within {F : List Area} {s t : State} (h : Within F s t) (m : Nat)
    (hF : [.voters] ⊆ F := by decide) : Within F s (clearVoter t m) := by
  unfold clearVoter
  exact .after (t := t) (setVoter_within (.refl _) ..) hF h

theorem safeOutputs_within {F : List Area} {s t : State} (h : Within F s t) (m : Nat)
    (hF : [.chans] ⊆ F := by decide) : Within F s (safeOutputs t m) := by
  unfold safeOutputs
  exact .after (t := t) (.ite (setChan_within (.ite (setLit_within (.refl _) ..) (.ite (setLit_within (.refl _) ..)
      (.refl _))) ..) (setGd_within (setChan_within (.ite (setLit_within (.refl _) ..) (.ite (setLit_within (.refl _) ..)
      (.refl _))) ..) ..)) hF h

theorem safeEnter_within {F : List Area} {s t : State} (h : Within F s t) (m cause key lanes : Nat)
    (hF : [.regs, .evTick, .events, .reeds, .chans, .voters] ⊆ F := by decide) :
    Within F s (safeEnter t m cause key lanes) := by
  unfold safeEnter
  exact .after (t := t) (.ite (.refl _) (.ite (irqPend_within (irqPend_within (capture_within (safeOutputs_within
      (retireWhere_within (clearVoter_within (setVoter_within (setChan_within (.refl _) ..) ..) ..) ..) ..) ..) ..) ..)
      (irqPend_within (capture_within (safeOutputs_within (retireWhere_within (clearVoter_within (setVoter_within
      (setChan_within (.refl _) ..) ..) ..) ..) ..) ..) ..))) hF h

theorem safeLeave_within {F : List Area} {s t : State} (h : Within F s t) (m : Nat)
    (hF : [.chans] ⊆ F := by decide) : Within F s (safeLeave t m) := by
  unfold safeLeave
  exact .after (t := t) (setChan_within (.refl _) ..) hF h

theorem venStop_within {F : List Area} {s t : State} (h : Within F s t) (i why : Nat)
    (hF : [.vens] ⊆ F := by decide) : Within F s (venStop t i why) := by
  unfold venStop
  exact .after (t := t) (.ite (setVen_within (.refl _) ..) (.ite (setVen_within (.refl _) ..) (.refl _))) hF h

theorem venStopAll_within {F : List Area} {s t : State} (h : Within F s t) (why : Nat)
    (hF : [.vens] ⊆ F := by decide) : Within F s (venStopAll t why) := by
  unfold venStopAll
  exact .after (t := t) (venStop_within (venStop_within (.refl _) ..) ..) hF h

theorem venMismatch_within {F : List Area} {s t : State} (h : Within F s t)
    (hF : [.vens] ⊆ F := by decide) : Within F s (venMismatch t) := by
  unfold venMismatch
  exact .after (t := t) (.foldl (fun _ _ => .ite (venStop_within (.refl _) ..) (.refl _)) (.refl _)) hF h

theorem setLink_within {F : List Area} {s t : State} (h : Within F s t) (k : Nat) (l : Link)
    (hF : [.links] ⊆ F := by decide) : Within F s (setLink t k l) :=
  .after (t := t) ⟨rfl, id⟩ hF h

theorem setCwy_within {F : List Area} {s t : State} (h : Within F s t) (i : Nat) (c : Cwy)
    (hF : [.cwys] ⊆ F := by decide) : Within F s (setCwy t i c) :=
  .after (t := t) ⟨rfl, id⟩ hF h

theorem setCwyState_within {F : List Area} {s t : State} (h : Within F s t) (i : Nat) (x : LinkState)
    (hF : [.links] ⊆ F := by decide) : Within F s (setCwyState t i x) := by
  unfold setCwyState
  exact .after (t := t) (setLink_within (setLink_within (.refl _) ..) ..) hF h

theorem countReplay_within {F : List Area} {s t : State} (h : Within F s t) (k n : Nat)
    (hF : [.regs] ⊆ F := by decide) : Within F s (countReplay t k n) := by
  unfold countReplay
  refine .after (t := t) ?_ hF h
  split
  · exact rsetf_within (.refl _) ..
  · exact .refl _

theorem replayOn_within {F : List Area} {s t : State} (h : Within F s t) (k : Nat) (timed : Bool)
    (hF : [.regs, .links] ⊆ F := by decide) : Within F s (replayOn t k timed) := by
  unfold replayOn
  exact .after (t := t) (.ite (countReplay_within (setLink_within (.refl _) ..) ..) (setLink_within (.refl _) ..)) hF h

theorem failoverUnits_within {F : List Area} {s t : State} (h : Within F s t) (k m : Nat)
    (hF : [.regs, .links] ⊆ F := by decide) : Within F s (failoverUnits t k m) := by
  unfold failoverUnits
  exact .after (t := t) (.foldl (fun _ _ => replayOn_within (.refl _) ..) (setLink_within (.refl _) ..)) hF h

theorem failoverWaits_within {F : List Area} {s t : State} (h : Within F s t) (k m : Nat)
    (hF : [.links] ⊆ F := by decide) : Within F s (failoverWaits t k m) := by
  unfold failoverWaits
  exact .after (t := t) (setLink_within (setLink_within (.refl _) ..) ..) hF h

theorem failoverDir_within {F : List Area} {s t : State} (h : Within F s t) (k m : Nat)
    (hF : [.regs, .links] ⊆ F := by decide) : Within F s (failoverDir t k m) := by
  unfold failoverDir
  exact .after (t := t) (setLink_within (failoverWaits_within (failoverUnits_within (.refl _) ..) ..) ..) hF h

theorem failover_within {F : List Area} {s t : State} (h : Within F s t) (i : Nat)
    (hF : [.regs, .links] ⊆ F := by decide) : Within F s (failover t i) := by
  unfold failover
  refine .after (t := t) ?_ hF h
  split
  · exact failoverDir_within (failoverDir_within (.refl _) ..) ..
  · exact .refl _

theorem noteRetrain_within {F : List Area} {s t : State} (h : Within F s t) (k : Nat)
    (hF : [.regs, .evTick, .events] ⊆ F := by decide) : Within F s (noteRetrain t k) := by
  unfold noteRetrain
  exact .after (t := t) (capture_within (rinc_within (.refl _) ..) ..) hF h

theorem startRetrain_within {F : List Area} {s t : State} (h : Within F s t) (k : Nat) (violation : Bool)
    (hF : [.regs, .evTick, .events, .links, .cwys] ⊆ F := by decide) : Within F s (startRetrain t k violation) := by
  unfold startRetrain
  exact .after (t := t) (.ite (noteRetrain_within (noteRetrain_within (.ite (capture_within (setLink_within (setLink_within
      (.refl _) ..) ..) ..) (setLink_within (setLink_within (.refl _) ..) ..)) ..) ..) (failover_within (capture_within
      (rinc_within (.ite (capture_within (setCwy_within (setLink_within (setLink_within (.refl _) ..) ..) ..) ..)
      (setCwy_within (setLink_within (setLink_within (.refl _) ..) ..) ..)) ..) ..) ..)) hF h

theorem fieldWrite_within {F : List Area} {s t : State} (h : Within F s t) (ea kind : Nat) (mng : Bool) (pfn : Nat)
    (hF : [.mem, .eccWb, .regs, .evTick, .events, .heatCnt, .heatDue, .slots] ⊆ F := by decide) :
    Within F s (fieldWrite t ea kind mng pfn) := by
  unfold fieldWrite
  refine .after (t := t) ?_ hF h
  refine .ite ?_ (.refl _)
  split
  · exact .mset (Within.setEccWb (.of_snd ‹_ = (_, _)› (readFor_within (noteAccess_within (.refl _) ..) ..)) _
      (by decide)) _ _ (by decide)
  · exact .of_snd ‹_ = (_, _)› (readFor_within (noteAccess_within (.refl _) ..) ..)

theorem markPage_within {F : List Area} {s t : State} (h : Within F s t) (ea : Nat) (more : Bool)
    (hF : [.marks] ⊆ F := by decide) : Within F s (markPage t ea more) := by
  unfold markPage
  refine .after (t := t) ?_ hF h
  dsimp only
  split
  · exact Within.setMarks (.refl _) _ (by decide)
  · exact Within.setMarks (.refl _) _ (by decide)

theorem setPool_within {F : List Area} {s t : State} (h : Within F s t) (d f : Nat) (x : Frame)
    (hF : [.sedges] ⊆ F := by decide) : Within F s (setPool t d f x) := by
  unfold setPool
  exact .setSedge h _ _ (hF (by decide)) fun _ now =>
    ⟨(now.sedge d).1, nodup_kset (fun _ => Frame.none) _ f x (now.sedge d).2⟩

theorem pickOne_within {F : List Area} {s t : State} (h : Within F s t) {α : Type} (l : List α)
    (hF : [.fresh] ⊆ F := by decide) : Within F s (pickOne t l).2 := by
  unfold pickOne
  refine .after (t := t) ?_ hF h
  split
  · exact .refl _
  · exact .refl _
  · dsimp only
    exact Within.setFresh (.refl _) _ (by decide)

theorem putDir_within {F : List Area} {s t : State} (h : Within F s t) (d i : Nat) (e : DirEnt)
    (hF : [.sedges] ⊆ F := by decide) : Within F s (putDir t d i e) := by
  unfold putDir
  exact .after (t := t) (.setSedge (.refl _) _ _ (by decide) fun canon now => (now.sedge _).put _ _) hF h

theorem placeFrame_within {F : List Area} {s t : State} (h : Within F s t) (w place : Word)
    (hF : [.fresh] ⊆ F := by decide) : Within F s (placeFrame t w place).2.2 := by
  unfold placeFrame
  refine .after (t := t) ?_ hF h
  dsimp only
  split
  · split
    · exact .refl _
    · split
      · exact .refl _
      · exact .refl _
  · split
    · exact .refl _
    · split
      · exact .refl _
      · exact pickOne_within (.refl _) ..

theorem sedgePost_within {F : List Area} {s t : State} (h : Within F s t) (d vpn : Nat)
    (hF : [.posts, .postId] ⊆ F := by decide) : Within F s (sedgePost t d vpn).2 := by
  unfold sedgePost
  exact .after (t := t) (postInval_within (.refl _) ..) hF h

theorem releasePage_within {F : List Area} {s t : State} (h : Within F s t) (vpn : Nat)
    (hF : [.regs, .evTick, .events, .cores] ⊆ F := by decide) : Within F s (releasePage t vpn) := by
  unfold releasePage
  refine .after (t := t) ?_ hF h
  refine .foldl (fun _ _ => ?_) (.refl _)
  split
  · exact .ite (releaseWalk_within (.refl _) ..) (.refl _)
  · exact .refl _

theorem cmdBusy_within {F : List Area} {s t : State} (h : Within F s t) (d op result index : Nat)
    (hF : [.sedges] ⊆ F := by decide) : Within F s (cmdBusy t d op result index) := by
  unfold cmdBusy
  exact .after (t := t) (.setSedge (.refl _) _ _ (by decide) fun canon now => .of_tables (now.sedge _) rfl rfl) hF h

theorem zeroFrame_within {F : List Area} {s t : State} (h : Within F s t) (d f : Nat)
    (hF : [.mem, .regs, .evTick, .events, .heatCnt, .heatDue, .slots] ⊆ F := by decide) : Within F s (zeroFrame t d f) := by
  unfold zeroFrame
  refine .after (t := t) ?_ hF h
  dsimp only
  exact .setMem (noteMany_within (.refl _) ..) _ (by decide) fun canon => kwf_kkeep _ _ _ canon

theorem cmdRegister_within {F : List Area} {s t : State} (h : Within F s t) (d ea comp vpn : Nat) (place : Word)
    (hF : [.fresh, .mem, .eccWb, .regs, .evTick, .events, .marks, .heatCnt, .heatDue, .slots, .sedges] ⊆ F := by decide) :
    Within F s (cmdRegister t d ea comp vpn place) := by
  have read : Within [.eccWb, .regs, .evTick, .events, .heatCnt, .heatDue, .slots] t
      (if memReach t ea = .ok then readFor t (.die d) ea else (none, t)).2 := by
    split
    · exact readFor_within (.refl t) ..
    · exact .refl t
  refine .after (t := t) ?_ hF h
  unfold cmdRegister
  dsimp only
  refine .ite (cmdBusy_within (.refl t) ..) (.ite (cmdBusy_within (read.mono (by decide)) ..) ?_)
  split
  · exact cmdBusy_within (read.mono (by decide)) ..
  · generalize (if memReach t ea = .ok then readFor t (.die d) ea else (none, t)).2 = r at read ⊢
    have placed : ∀ w p, Within [.fresh, .mem, .eccWb, .regs, .evTick, .events, .marks, .heatCnt, .heatDue, .slots, .sedges] t
        (placeFrame r w p).2.2 := fun w p => placeFrame_within (read.mono (by decide)) ..
    split
    · exact cmdBusy_within (putDir_within (markPage_within (fieldWrite_within (zeroFrame_within
        (setPool_within (.of_pair ‹_› (placed _ _)) ..) ..) ..) ..) ..) ..
    · exact cmdBusy_within (.of_pair ‹_› (placed _ _)) ..

theorem dropStart_within {F : List Area} {s t : State} (h : Within F s t) (d i : Nat)
    (hF : [.sedges] ⊆ F := by decide) : Within F s (dropStart t d i) := by
  unfold dropStart
  refine .after (t := t) ?_ hF h
  dsimp only
  split
  · exact .ite (.setSedge (.refl _) _ _ (by decide) fun canon now => .of_tables (now.sedge _) rfl rfl) (.refl _)
  · exact .refl _

theorem cmdRelease_within {F : List Area} {s t : State} (h : Within F s t) (d ea : Nat)
    (hF : [.mem, .eccWb, .regs, .evTick, .events, .heatCnt, .heatDue, .slots, .sedges, .posts, .postId] ⊆ F := by decide) :
    Within F s (cmdRelease t d ea) := by
  unfold cmdRelease
  refine .after (t := t) ?_ hF h
  dsimp only
  split
  · exact .ite (cmdBusy_within (.refl _) ..) (.setSedge (cmdBusy_within (sedgePost_within (fieldWrite_within (dropStart_within
      (.refl _) ..) ..) ..) ..) _ _ (by decide) fun canon now => .of_tables (now.sedge _) rfl rfl)
  · exact cmdBusy_within (.refl _) ..

theorem endRelease_within {F : List Area} {s t : State} (h : Within F s t) (d i : Nat)
    (hF : [.marks, .sedges] ⊆ F := by decide) : Within F s (endRelease t d i) := by
  unfold endRelease
  refine .after (t := t) ?_ hF h
  refine .setSedge ?_ _ _ (by decide) fun canon now => .of_tables (now.sedge _) rfl rfl
  refine .ite (.ite (markPage_within (putDir_within (.refl _) ..) ..) (putDir_within (.refl _) ..)) ?_
  split
  · exact setPool_within (.ite (markPage_within (putDir_within (.refl _) ..) ..) (putDir_within (.refl _) ..)) ..
  · exact .ite (markPage_within (putDir_within (.refl _) ..) ..) (putDir_within (.refl _) ..)

theorem cmdPool_within {F : List Area} {s t : State} (h : Within F s t) (d first count : Nat)
    (hF : [.sedges] ⊆ F := by decide) : Within F s (cmdPool t d first count) := by
  unfold cmdPool
  exact .after (t := t) (.ite (cmdBusy_within (.refl _) ..) (cmdBusy_within (.foldl (fun _ _ => setPool_within (.refl _) ..)
      (.refl _)) ..)) hF h

theorem cmdReclaim_within {F : List Area} {s t : State} (h : Within F s t) (d first count : Nat)
    (hF : [.sedges] ⊆ F := by decide) : Within F s (cmdReclaim t d first count) := by
  unfold cmdReclaim
  refine .after (t := t) ?_ hF h
  refine cmdBusy_within ?_ ..
  with_reducible refine .setSedge ?_ _ _ (by decide) fun _ now => ?_
  · exact .refl _
  · exact .filterPool (now.sedge _) _ rfl rfl

theorem cmdPin_within {F : List Area} {s t : State} (h : Within F s t) (d ea : Nat) (pin : Bool)
    (hF : [.sedges] ⊆ F := by decide) : Within F s (cmdPin t d ea pin) := by
  unfold cmdPin
  refine .after (t := t) ?_ hF h
  split
  · exact cmdBusy_within (putDir_within (.refl _) ..) ..
  · exact cmdBusy_within (.refl _) ..

theorem beginMig_within {F : List Area} {s t : State} (h : Within F s t) (d i f : Nat) (byMove : Bool)
    (hF : [.sedges] ⊆ F := by decide) : Within F s (beginMig t d i f byMove) := by
  unfold beginMig
  exact .after (t := t) (.setSedge (.refl _) _ _ (by decide) fun canon now => .of_tables (now.sedge _) rfl rfl) hF h

theorem tryMove_within {F : List Area} {s t : State} (h : Within F s t) (d i : Nat) (place : Word)
    (hF : [.fresh, .sedges] ⊆ F := by decide) : Within F s (tryMove t d i place) := by
  have place : ∀ w, Within [.fresh] t (placeFrame t w place).2.2 := fun w => placeFrame_within (.refl t) ..
  refine .after (t := t) ?_ hF h
  unfold tryMove
  dsimp only
  split
  · exact beginMig_within (cmdBusy_within (.of_pair ‹_› ((place _).mono (by decide))) ..) ..
  · exact cmdBusy_within (.of_pair ‹_› ((place _).mono (by decide))) ..

theorem cmdMove_within {F : List Area} {s t : State} (h : Within F s t) (d ea : Nat) (place : Word)
    (hF : [.fresh, .sedges] ⊆ F := by decide) : Within F s (cmdMove t d ea place) := by
  unfold cmdMove
  refine .after (t := t) ?_ hF h
  dsimp only
  split
  · exact .ite (cmdBusy_within (.refl _) ..) (.ite (cmdBusy_within (.refl _) ..) (.ite (.setSedge (cmdBusy_within (.refl _)
      ..) _ _ (by decide) fun canon now => .of_tables (now.sedge _) rfl rfl) (tryMove_within (.refl _) ..)))
  · exact cmdBusy_within (.refl _) ..

theorem closeMig_within {F : List Area} {s t : State} (h : Within F s t) (d result : Nat)
    (hF : [.sedges] ⊆ F := by decide) : Within F s (closeMig t d result) := by
  unfold closeMig
  exact .after (t := t) (.setSedge (.refl _) _ _ (by decide) fun canon now => .of_tables (now.sedge _) rfl rfl) hF h

theorem startWaiting_within {F : List Area} {s t : State} (h : Within F s t) (d : Nat)
    (hF : [.fresh, .sedges] ⊆ F := by decide) : Within F s (startWaiting t d) := by
  unfold startWaiting
  refine .after (t := t) ?_ hF h
  dsimp only
  split
  · refine .ite ?_ ?_
    · refine tryMove_within ?_ ..
      with_reducible refine .setSedge ?_ _ _ (by decide) fun _ now => ?_
      · exact .refl _
      · exact .of_tables (now.sedge _) rfl rfl
    · refine cmdBusy_within ?_ ..
      with_reducible refine .setSedge ?_ _ _ (by decide) fun _ now => ?_
      · exact .refl _
      · exact .of_tables (now.sedge _) rfl rfl
  · exact .refl _

theorem endMig_within {F : List Area} {s t : State} (h : Within F s t) (d result : Nat)
    (hF : [.fresh, .sedges] ⊆ F := by decide) : Within F s (endMig t d result) := by
  unfold endMig
  exact .after (t := t) (startWaiting_within (closeMig_within (.refl _) ..) ..) hF h

theorem migGrant_within {F : List Area} {s t : State} (h : Within F s t) (d : Nat) (m : Migration)
    (hF : [.fresh, .mem, .eccWb, .regs, .evTick, .events, .heatCnt, .heatDue, .slots, .sedges, .posts,
        .postId] ⊆ F := by decide) :
    Within F s (migGrant t d m) := by
  unfold migGrant
  refine .after (t := t) ?_ hF h
  dsimp only
  split
  · exact endMig_within (.refl _) ..
  · exact .ite (endMig_within (.refl _) ..) (.ite (.setSedge (sedgePost_within (fieldWrite_within (putDir_within
      (setPool_within (.refl _) ..) ..) ..) ..) _ _ (by decide) fun canon now => .of_tables (now.sedge _) rfl rfl)
      (endMig_within (.refl _) ..))

theorem migAbandon_within {F : List Area} {s t : State} (h : Within F s t) (d : Nat) (m : Migration) (src : Nat)
    (hF : [.fresh, .mem, .eccWb, .regs, .evTick, .events, .cores, .heatCnt, .heatDue, .slots, .sedges] ⊆ F := by decide) :
    Within F s (migAbandon t d m src) := by
  unfold migAbandon
  refine .after (t := t) ?_ hF h
  refine releasePage_within ?_ ..
  refine endMig_within ?_ ..
  refine capture_within ?_ ..
  split
  · exact setPool_within (putDir_within (fieldWrite_within (.refl _) ..) ..) ..
  · exact putDir_within (fieldWrite_within (.refl _) ..) ..

theorem migCopy_within {F : List Area} {s t : State} (h : Within F s t) (d : Nat) (m : Migration)
    (hF : [.fresh, .mem, .eccWb, .regs, .evTick, .events, .cores, .heatCnt, .heatDue, .slots, .badPorts,
        .sedges] ⊆ F := by decide) :
    Within F s (migCopy t d m) := by
  refine .after (t := t) ?_ hF h
  have read : ∀ {u}, Within [.fresh, .mem, .eccWb, .regs, .evTick, .events, .cores, .heatCnt, .heatDue, .slots, .badPorts,
      .sedges] t u → ∀ a, Within [.fresh, .mem, .eccWb, .regs, .evTick, .events, .cores, .heatCnt, .heatDue, .slots,
      .badPorts, .sedges] t (readFor u (.die d) a).2 := fun k a => readFor_within k ..
  have left : ∀ {u}, Within [.fresh, .mem, .eccWb, .regs, .evTick, .events, .cores, .heatCnt, .heatDue, .slots, .badPorts,
      .sedges] t u → ∀ a, Within [.fresh, .mem, .eccWb, .regs, .evTick, .events, .cores, .heatCnt, .heatDue, .slots,
      .badPorts, .sedges] t (migAbandon u d m a) := fun k a => migAbandon_within k ..
  have noted : ∀ u m', Within [.fresh, .mem, .eccWb, .regs, .evTick, .events, .cores, .heatCnt, .heatDue, .slots, .badPorts,
      .sedges] u (setSedge u d { sedge u d with mig := m' }) := fun u m' =>
    .setSedge (.refl u) _ _ (by decide) fun _ now => .of_tables (now.sedge d) rfl rfl
  unfold migCopy
  dsimp only
  split
  · exact left (portParity_within (.refl t) ..) _
  · exact .refl t
  · split
    next s1 e1 => exact left (.of_snd e1 (read (.refl t) _)) _
    next s1 e1 =>
      have k1 := Within.of_snd e1 (read (.refl t) _)
      split
      next s2 e2 => exact left (.of_snd e2 (read k1 _)) _
      next s2 e2 =>
        refine .after (noted _ _) (by decide) ?_
        exact putFor_within (putFor_within (filterTag_within (.of_snd e2 (read k1 _)) ..) ..) ..

theorem migMake_within {F : List Area} {s t : State} (h : Within F s t) (d : Nat) (m : Migration)
    (hF : [.mem, .eccWb, .regs, .evTick, .events, .cores, .heatCnt, .heatDue, .slots, .sedges] ⊆ F := by decide) :
    Within F s (migMake t d m) := by
  unfold migMake
  exact .after (t := t) (.setSedge (releasePage_within (fieldWrite_within (.refl _) ..) ..) _ _ (by decide) fun canon now =>
      .of_tables (now.sedge _) rfl rfl) hF h

theorem migConfirm_within {F : List Area} {s t : State} (h : Within F s t) (d : Nat) (m : Migration)
    (hF : [.fresh, .regs, .sedges] ⊆ F := by decide) : Within F s (migConfirm t d m) := by
  unfold migConfirm
  refine .after (t := t) ?_ hF h
  refine endMig_within ?_ ..
  refine .rset ?_ _ _ _ (by decide)
  refine putDir_within ?_ ..
  split
  · refine setPool_within ?_ ..
    split
    · exact setPool_within (.refl _) ..
    · exact .refl _
  · split
    · exact setPool_within (.refl _) ..
    · exact .refl _

theorem migStep_within {F : List Area} {s t : State} (h : Within F s t) (d : Nat) (ok : Migration → Bool)
    {f : State → Nat → Migration → State} (hf : ∀ u m, Within F u (f u d m)) : Within F s (migStep t d ok f) := by
  unfold migStep
  split
  · exact .ite (h.trans (hf t _)) h
  · exact h

theorem loseEntry_within {F : List Area} {s t : State} (h : Within F s t) (d i : Nat)
    (hF : [.mem, .eccWb, .regs, .evTick, .events, .heatCnt, .heatDue, .slots, .sedges] ⊆ F := by decide) :
    Within F s (loseEntry t d i) := by
  unfold loseEntry
  exact .after (t := t) (irqPend_within (capture_within (putDir_within (fieldWrite_within (.refl _) ..) ..) ..) ..) hF h

theorem migIsolate_within {F : List Area} {s t : State} (h : Within F s t) (d : Nat) (gone : Nat → Bool)
    (hF : [.mem, .eccWb, .regs, .evTick, .events, .cores, .heatCnt, .heatDue, .slots, .sedges] ⊆ F := by decide) :
    Within F s (migIsolate t d gone) := by
  unfold migIsolate
  refine .after (t := t) ?_ hF h
  dsimp only
  split
  · exact .refl _
  · refine .ite ?_ (.ite (releasePage_within (closeMig_within (putDir_within (fieldWrite_within (.refl _) ..) ..) ..) ..)
      (.refl _))
    refine releasePage_within ?_ ..
    refine closeMig_within ?_ ..
    refine loseEntry_within ?_ ..
    split
    · exact .ite (setPool_within (.refl _) ..) (.refl _)
    · exact .refl _

theorem sedgeLose_within {F : List Area} {s t : State} (h : Within F s t) (gone : Nat → Bool)
    (hF : [.fresh, .mem, .eccWb, .regs, .evTick, .events, .cores, .heatCnt, .heatDue, .slots, .sedges] ⊆ F := by decide) :
    Within F s (sedgeLose t gone) := by
  unfold sedgeLose
  refine .after (t := t) ?_ hF h
  refine .foldl (fun _ _ => ?_) (.refl _)
  refine startWaiting_within ?_ ..
  with_reducible refine .setSedge ?_ _ _ (by decide) fun _ now => ?_
  · exact .foldl (fun _ _ => loseEntry_within (.refl _) ..) (migIsolate_within (.refl _) ..)
  · exact .filterPool (now.sedge _) _ rfl rfl

theorem sedgeIsolate_within {F : List Area} {s t : State} (h : Within F s t) (g : Nat)
    (hF : [.fresh, .mem, .eccWb, .regs, .evTick, .events, .cores, .heatCnt, .heatDue, .slots, .sedges] ⊆ F := by decide) :
    Within F s (sedgeIsolate t g) := by
  unfold sedgeIsolate
  exact .after (t := t) (sedgeLose_within (.refl _) ..) hF h

theorem heatStart_within {F : List Area} {s t : State} (h : Within F s t) (d i : Nat)
    (hF : [.fresh, .sedges] ⊆ F := by decide) : Within F s (heatStart t d i) := by
  unfold heatStart
  refine .after (t := t) ?_ hF h
  refine .ite ?_ (.refl _)
  dsimp only
  split
  · exact beginMig_within (pickOne_within (.refl _) ..) ..
  · exact .refl _

theorem demoteStart_within {F : List Area} {s t : State} (h : Within F s t) (d i : Nat)
    (hF : [.fresh, .sedges] ⊆ F := by decide) : Within F s (demoteStart t d i) := by
  unfold demoteStart
  refine .after (t := t) ?_ hF h
  refine .ite ?_ (.refl _)
  dsimp only
  split
  · exact beginMig_within (pickOne_within (.refl _) ..) ..
  · exact .refl _

theorem loadPeriod_within {F : List Area} {s t : State} (h : Within F s t) (d : Nat)
    (hF : [.cores] ⊆ F := by decide) : Within F s (loadPeriod t d) := by
  unfold loadPeriod
  exact .after (t := t) (.foldl (fun _ _ => setCore_within (.refl _) ..) (.refl _)) hF h

theorem heatHalve_within {F : List Area} {s t : State} (h : Within F s t) (d : Nat)
    (hF : [.fresh, .cores, .sedges] ⊆ F := by decide) : Within F s (heatHalve t d) := by
  unfold heatHalve
  refine .after (t := t) ?_ hF h
  refine .ite ?_ ?_
  · refine .foldl (fun _ _ => .ite (.refl _) (demoteStart_within (.refl _) ..)) ?_
    refine loadPeriod_within ?_ ..
    with_reducible refine .setSedge ?_ _ _ (by decide) fun _ now => ?_
    · exact .refl _
    · exact .mapDir (now.sedge _) _ rfl rfl
  · refine loadPeriod_within ?_ ..
    with_reducible refine .setSedge ?_ _ _ (by decide) fun _ now => ?_
    · exact .refl _
    · exact .mapDir (now.sedge _) _ rfl rfl

theorem compclsStore_within {F : List Area} {s t : State} (h : Within F s t) (d c : Nat) (v : Word)
    (hF : [.regs, .evTick, .events] ⊆ F := by decide) : Within F s (compclsStore t d c v) := by
  unfold compclsStore
  exact .after (t := t) (.ite (captureAt_within (.refl _) ..) (.ite (capture_within (.refl _) ..) (.foldl
      (fun _ _ => writeFields_within (.refl _) ..) (.refl _)))) hF h

theorem sedgeCmd_within {F : List Area} {s t : State} (h : Within F s t) (d : Nat) {f : State → State}
    (hf : ∀ u, Within F u (f u)) (hF : [.regs, .evTick, .events] ⊆ F := by decide) : Within F s (sedgeCmd t d f) :=
  .ite h (.ite (captureAt_within h _ _ _ hF) (h.trans (hf t)))

theorem sedgeReset_within {F : List Area} {s t : State} (h : Within F s t) (d : Nat)
    (hF : [.regs, .evTick, .events] ⊆ F := by decide) : Within F s (sedgeReset t d) := by
  unfold sedgeReset
  exact .after (t := t) (unlessLocked_within (.refl _) _ _ fun _ => .setRegs (.refl _) _ (by decide)
      fun canon => kwf_kkeep _ _ _ canon) hF h

theorem heldmaxLoad_within {F : List Area} {s t : State} (h : Within F s t) (d : Nat)
    (hF : [.regs] ⊆ F := by decide) : Within F s (heldmaxLoad t d).2 := by
  unfold heldmaxLoad
  exact .after (t := t) (.rset (.refl _) _ _ _ (by decide)) hF h

theorem frames0Load_within {F : List Area} {s t : State} (h : Within F s t) (d : Nat)
    (hF : [.sedges] ⊆ F := by decide) : Within F s (frames0Load t d).2 := by
  unfold frames0Load
  exact .after (t := t) (.setSedge (.refl _) _ _ (by decide) fun canon now => .of_tables (now.sedge _) rfl rfl) hF h

theorem lateError_within {F : List Area} {s t : State} (h : Within F s t) (n : Nat) (e : SbEntry) (cause : Nat)
    (hF : [.regs, .evTick, .events, .cores] ⊆ F := by decide) : Within F s (lateError t n e cause) := by
  unfold lateError
  exact .after (t := t) (.ite (capture_within (.refl _) ..) (setCtx_within (.refl _) ..)) hF h

theorem storeWord_within {F : List Area} {s t : State} (h : Within F s t) (n : Nat) (e : SbEntry)
    (hF : [.mem, .eccWb, .regs, .evTick, .events, .heatCnt, .heatDue, .slots] ⊆ F := by decide) :
    Within F s (storeWord t n e) := by
  unfold storeWord
  exact .after (t := t) (memWrite_within (.ite (eccCorrected_within (noteAccess_within (.refl _) ..) ..) (noteAccess_within
      (.refl _) ..)) ..) hF h

theorem performStore_within {F : List Area} {s t : State} (h : Within F s t) (n : Nat) (e : SbEntry) (rest : List SbEntry)
    (hF : [.fresh, .mem, .eccWb, .regs, .evTick, .events, .cores, .heatCnt, .heatDue, .slots, .badPorts] ⊆ F := by decide) :
    Within F s (performStore t n e rest) := by
  unfold performStore
  refine .after (t := t) ?_ hF h
  refine .ite (lateError_within (.refl _) ..) ?_
  split
  · exact .ite (lateError_within (targetCapture_within (.refl _) ..) ..) (.ite (lateError_within (eccLost_within (.refl _) ..)
      ..) (.foldl (fun _ _ => storeWord_within (.refl _) ..) (.refl _)))
  · exact lateError_within (reachRecord_within (.refl _) ..) ..

theorem drainOne_within {F : List Area} {s t : State} (h : Within F s t) (n : Nat)
    (hF : [.fresh, .mem, .eccWb, .regs, .evTick, .events, .cores, .heatCnt, .heatDue, .slots, .badPorts] ⊆ F := by decide) :
    Within F s (drainOne t n) := by
  unfold drainOne
  refine .after (t := t) ?_ hF h
  dsimp only
  split
  · exact .refl _
  · exact performStore_within (setCore_within (.refl _) ..) ..

theorem drainAux_within {F : List Area} {s t : State} (h : Within F s t) (n fuel : Nat)
    (hF : [.fresh, .mem, .eccWb, .regs, .evTick, .events, .cores, .heatCnt, .heatDue, .slots, .badPorts] ⊆ F := by decide) :
    Within F s (drainAux t n fuel) := by
  induction fuel generalizing t with
  | zero => exact h
  | succ f ih => exact ih (drainOne_within h n hF)

theorem drainAll_within {F : List Area} {s t : State} (h : Within F s t) (n : Nat)
    (hF : [.fresh, .mem, .eccWb, .regs, .evTick, .events, .cores, .heatCnt, .heatDue, .slots, .badPorts] ⊆ F := by decide) :
    Within F s (drainAll t n) := by
  unfold drainAll
  exact .after (t := t) (drainAux_within (.refl _) ..) hF h

theorem unentered_within {F : List Area} {s t : State} (h : Within F s t) (s' : State) (n : Nat)
    (hF : [.fresh, .mem, .eccWb, .regs, .evTick, .events, .cores, .heatCnt, .heatDue, .slots, .badPorts] ⊆ F := by decide) :
    Within F s (unentered s' t n) := by
  unfold unentered
  exact .after (t := t) (setCore_within (.refl _) ..) hF h

theorem restoreGates_within {F : List Area} {s t : State} (h : Within F s t) (p : Nat → Bool)
    (hF : [.regs] ⊆ F := by decide) : Within F s (restoreGates t p) := by
  unfold restoreGates
  exact .after (t := t) (.foldl (fun _ _ => .ite (.rset (.ite (.rset (.refl _) _ _ _ (by decide)) (.refl _)) _ _ _
      (by decide)) (.ite (.rset (.refl _) _ _ _ (by decide)) (.refl _))) (.refl _)) hF h

theorem restorePages_within {F : List Area} {s t : State} (h : Within F s t) (p : Nat → Bool)
    (hF : [.regs] ⊆ F := by decide) : Within F s (restorePages t p) := by
  unfold restorePages
  exact .after (t := t) (.ite (.foldl (fun _ _ => .ite (.rset (.refl _) _ _ _ (by decide)) (.refl _)) (.foldl (fun _ _ => .ite
      (.rset (.rset (.rset (.refl _) _ _ _ (by decide)) _ _ _ (by decide)) _ _ _ (by decide)) (.refl _)) (restoreGates_within
      (.refl _) ..))) (.refl _)) hF h

theorem clearDoms_within {F : List Area} {s t : State} (h : Within F s t) (p : Nat → Bool)
    (hF : [.regs] ⊆ F := by decide) : Within F s (clearDoms t p) := by
  unfold clearDoms
  exact .after (t := t) (.setRegs (.refl _) _ (by decide) fun canon => kwf_kkeep _ _ _ canon) hF h

theorem clearTags_within {F : List Area} {s t : State} (h : Within F s t) (p : Nat → Bool)
    (hF : [.mem] ⊆ F := by decide) : Within F s (clearTags t p) := by
  refine .after (t := t) ?_ hF h
  have e : t.mem.map (fun e => if p e.1 then (e.1, { e.2 with tag := false }) else e) =
      t.mem.map (fun e => (e.1, if p e.1 then { e.2 with tag := false } else e.2)) := by
    congr 1
    funext e
    split <;> rfl
  unfold clearTags
  simp only [e]
  exact .setMem (.refl t) _ (by decide) fun c => Within.kwf_map_filter _ _ _ c

theorem clearWords_within {F : List Area} {s t : State} (h : Within F s t) (p : Nat → Bool)
    (hF : [.mem, .eccWb] ⊆ F := by decide) : Within F s (clearWords t p) := by
  refine .after (t := t) ⟨rfl, fun c => ?_⟩ hF h
  exact ⟨kwf_kkeep memDefault t.mem (fun a => !p a) c.1, c.2⟩

theorem captureLate_within {F : List Area} {s t : State} (h : Within F s t) (n : Nat) (e : LateErr)
    (hF : [.regs, .evTick, .events] ⊆ F := by decide) : Within F s (captureLate t n e) := by
  unfold captureLate
  exact .after (t := t) (capture_within (.refl _) ..) hF h

theorem coreReset_within {F : List Area} {s t : State} (h : Within F s t) (n : Nat) (key : Word)
    (hF : [.fresh, .mem, .eccWb, .regs, .evTick, .events, .cores, .heatCnt, .heatDue, .slots, .badPorts,
        .posts] ⊆ F := by decide) :
    Within F s (coreReset t n key) := by
  unfold coreReset
  exact .after (t := t) (ackAll_within (.foldl (fun _ _ => .foldl (fun _ _ => captureLate_within (.refl _) ..) (.refl _))
      (drainAll_within (setCore_within (.refl _) ..) ..)) ..) hF h

theorem coreDrain_within {F : List Area} {s t : State} (h : Within F s t) (n : Nat)
    (hF : [.fresh, .mem, .eccWb, .regs, .evTick, .events, .cores, .heatCnt, .heatDue, .slots, .badPorts] ⊆ F := by decide) :
    Within F s (coreDrain t n) := by
  unfold coreDrain
  exact .after (t := t) (drainAll_within (.refl _) ..) hF h

theorem blockReset_within {F : List Area} {s t : State} (h : Within F s t) (g : Nat)
    (hF : [.chans, .voters, .blocks] ⊆ F := by decide) : Within F s (blockReset t g) := by
  unfold blockReset
  exact .after (t := t) (setBlock_within (setVoter_within (.foldl (fun _ _ => setChan_within (.refl _) ..) (.refl _)) ..)
      ..) hF h

theorem crossbarReset_within {F : List Area} {s t : State} (h : Within F s t) (g : Nat)
    (hF : [.links] ⊆ F := by decide) : Within F s (crossbarReset t g) := by
  unfold crossbarReset
  exact .after (t := t) (Within.setLinks (.refl _) _ (by decide)) hF h

theorem domLogic_within {F : List Area} {s t : State} (h : Within F s t) (k : Nat)
    (hF : [.fresh, .mem, .eccWb, .regs, .evTick, .events, .cores, .heatCnt, .heatDue, .steals, .slots, .badPorts, .sedges,
        .posts, .sweeps, .chans, .voters, .blocks, .links, .cwys, .eths, .prps, .emps] ⊆ F := by decide) :
    Within F s (domLogic t k) := by
  refine .after (t := t) ?_ hF h
  have cleared : Within [.fresh, .mem, .eccWb, .regs, .evTick, .events, .cores, .heatCnt, .heatDue, .steals, .slots,
      .badPorts, .sedges, .posts, .sweeps, .chans, .voters, .blocks, .links, .cwys, .eths, .prps, .emps] t (clearDoms t
      fun x => x == k) := clearDoms_within (.refl t) ..
  have pairs : ∀ u a b, Within [.fresh, .mem, .eccWb, .regs, .evTick, .events, .cores, .heatCnt, .heatDue, .steals, .slots,
      .badPorts, .sedges, .posts, .sweeps, .chans, .voters, .blocks, .links, .cwys, .eths, .prps,
      .emps] u { u with prps := a, eths := b } := fun u a b => .setEths (.setPrps (.refl u) a (by decide)) b (by decide)
  unfold domLogic
  dsimp only
  generalize clearDoms t (fun x => x == k) = u at cleared ⊢
  refine .trans cleared ?_
  split
  · split
    · exact .setEmps (clearWords_within (.refl u) ..) _ (by decide)
    · split
      · exact .ite (startRetrain_within (.refl u) ..) (.refl u)
      · exact pairs u _ _
  · split
    · exact coreReset_within (.refl u) ..
    · split
      · exact .setSteals (sedgeLose_within (clearTags_within (.refl u) ..) ..) _ (by decide)
      · split
        · exact blockReset_within (.refl u) ..
        · split
          · exact crossbarReset_within (sedgeIsolate_within (setSweep_within (.refl u) ..) ..) ..
          · exact .refl u

theorem domHold_within {F : List Area} {s t : State} (h : Within F s t) (k : Nat) (release : Option Nat)
    (hF : [.fresh, .mem, .eccWb, .regs, .evTick, .events, .enHeld, .cores, .heatCnt, .heatDue, .steals, .slots, .badPorts,
        .doms, .sedges, .posts, .sweeps, .chans, .voters, .blocks, .links, .cwys, .eths, .prps, .emps] ⊆ F := by decide) :
    Within F s (domHold t k release) := by
  unfold domHold
  exact .after (t := t) (domLogic_within (Within.setEnHeld (setDom_within (.refl _) ..) _ (by decide)) ..) hF h

theorem domRelease_within {F : List Area} {s t : State} (h : Within F s t) (k : Nat)
    (hF : [.regs, .doms] ⊆ F := by decide) : Within F s (domRelease t k) := by
  unfold domRelease
  exact .after (t := t) (restorePages_within (setDom_within (.refl _) ..) ..) hF h

theorem dieDoms_within {F : List Area} {s t : State} (h : Within F s t) (d : Nat)
    (hF : [.doms] ⊆ F := by decide) : Within F s (dieDoms t d) := by
  unfold dieDoms
  exact .after (t := t) (Within.setDoms (.refl _) _ (by decide)) hF h

theorem newKeys_within {F : List Area} {s t : State} (h : Within F s t) (ns : List Nat)
    (hF : [.fresh, .cores] ⊆ F := by decide) : Within F s (newKeys t ns) := by
  unfold newKeys
  refine .after (t := t) ?_ hF h
  refine .foldl (fun _ _ => ?_) (.refl _)
  dsimp only
  exact Within.setFresh (setCore_within (.refl _) ..) _ (by decide)

theorem freeFramesOf_within {F : List Area} {s t : State} (h : Within F s t) (d : Nat)
    (hF : [.sedges] ⊆ F := by decide) : Within F s (freeFramesOf t d) := by
  unfold freeFramesOf
  refine .after (t := t) ?_ hF h
  refine .foldl (fun _ _ => ?_) (.refl _)
  split
  · exact .ite (.refl _) (setPool_within (.refl _) ..)
  · exact .refl _

theorem clearSedge_within {F : List Area} {s t : State} (h : Within F s t) (d : Nat)
    (hF : [.sedges] ⊆ F := by decide) : Within F s (clearSedge t d) := by
  unfold clearSedge
  exact .after (t := t) (.setSedge (freeFramesOf_within (.refl _) ..) _ _ (by decide)
      fun canon now => ⟨List.nodup_nil, nodup_filter _ (now.sedge _).2⟩) hF h

theorem clearMarks_within {F : List Area} {s t : State} (h : Within F s t) (d : Nat)
    (hF : [.marks, .sedges] ⊆ F := by decide) : Within F s (clearMarks t d) := by
  unfold clearMarks
  refine .after (t := t) ?_ hF h
  dsimp only
  refine Within.setMarks ?_ _ (by decide)
  refine .foldl (fun _ _ => ?_) (.refl _)
  with_reducible refine .setSedge ?_ _ _ (by decide) fun _ now => ?_
  · exact .refl _
  · exact .mapDir (now.sedge _) _ rfl rfl

theorem dieReset_within {F : List Area} {s t : State} (h : Within F s t) (d : Nat)
    (hF : [.fresh, .mem, .eccWb, .regs, .evTick, .events, .enHeld, .cores, .marks, .heatCnt, .heatDue, .steals, .slots,
        .badPorts, .doms, .dieRst, .reeds, .sedges, .posts, .sweeps, .chans, .voters, .blocks, .links,
        .cans] ⊆ F := by decide) :
    Within F s (dieReset t d) := by
  refine .after (t := t) ?_ hF h
  have held : ∀ u v, Within [.fresh, .mem, .eccWb, .regs, .evTick, .events, .enHeld, .cores, .marks, .heatCnt, .heatDue,
      .steals, .slots, .badPorts, .doms, .dieRst, .reeds, .sedges, .posts, .sweeps, .chans, .voters, .blocks, .links,
      .cans] t u → Within [.fresh, .mem, .eccWb, .regs, .evTick, .events, .enHeld, .cores, .marks, .heatCnt, .heatDue,
      .steals, .slots, .badPorts, .doms, .dieRst, .reeds, .sedges, .posts, .sweeps, .chans, .voters, .blocks, .links,
      .cans] t { u with enHeld := v } := fun u v k => .setEnHeld k v (by decide)
  have counts : ∀ u a b, Within [.fresh, .mem, .eccWb, .regs, .evTick, .events, .enHeld, .cores, .marks, .heatCnt, .heatDue,
      .steals, .slots, .badPorts, .doms, .dieRst, .reeds, .sedges, .posts, .sweeps, .chans, .voters, .blocks, .links,
      .cans] t u → Within [.fresh, .mem, .eccWb, .regs, .evTick, .events, .enHeld, .cores, .marks, .heatCnt, .heatDue,
      .steals, .slots, .badPorts, .doms, .dieRst, .reeds, .sedges, .posts, .sweeps, .chans, .voters, .blocks, .links,
      .cans] t { u with steals := a, heatCnt := b } := fun u a b k =>
    .setHeatCnt (.setSteals k a (by decide)) b (by decide)
  have units : ∀ u a b c, Within [.fresh, .mem, .eccWb, .regs, .evTick, .events, .enHeld, .cores, .marks, .heatCnt, .heatDue,
      .steals, .slots, .badPorts, .doms, .dieRst, .reeds, .sedges, .posts, .sweeps, .chans, .voters, .blocks, .links,
      .cans] t u → Within [.fresh, .mem, .eccWb, .regs, .evTick, .events, .enHeld, .cores, .marks, .heatCnt, .heatDue,
      .steals, .slots, .badPorts, .doms, .dieRst, .reeds, .sedges, .posts, .sweeps, .chans, .voters, .blocks, .links,
      .cans] t { u with dieRst := a, cans := b, links := c } := fun u a b c k =>
    .setLinks (.setCans (.setDieRst k a (by decide)) b (by decide)) c (by decide)
  unfold dieReset
  dsimp only
  refine sedgeLose_within (newKeys_within (units _ _ _ _ (clearSedge_within ?_ ..)) ..) ..
  refine .setReed (.foldl (fun _ _ => ?_) ?_) _ _ (by decide) fun _ _ => .init
  · exact crossbarReset_within (setSweep_within (blockReset_within (.refl _) ..) ..) ..
  · refine counts _ _ _ (clearMarks_within (clearTags_within (.foldl (fun _ _ => coreReset_within (.refl _) ..) ?_) ..) ..)
    exact dieDoms_within (clearDoms_within (held _ _ (.refl t)) ..) ..

theorem copyClasses_within {F : List Area} {s t : State} (h : Within F s t) (d : Nat)
    (hF : [.regs] ⊆ F := by decide) : Within F s (copyClasses t d) := by
  unfold copyClasses
  exact .after (t := t) (.foldl (fun _ _ => .rset (.refl _) _ _ _ (by decide)) (.refl _)) hF h

theorem pkgReset_within {F : List Area} {s t : State} (h : Within F s t) (power : Bool)
    (hF : Area.ofReset ⊆ F := by decide) : Within F s (pkgReset t power) := by
  refine .after (t := t) ?_ hF h
  have tagless : Canonical t → kwf memDefault (clearTags t fun _ => true).mem = true := fun c =>
    ((clearTags_within (F := [.mem]) (.refl t) _).canonical c).mem
  unfold pkgReset
  dsimp only
  refine newKeys_within ⟨rfl, fun c => (canonical_iff _).mpr ⟨?_, ?_, fun d => ?_, fun d => ?_⟩⟩ ..
  · dsimp only
    split
    · rfl
    · exact tagless c
  · dsimp only
    split
    · rfl
    · exact kwf_kkeep _ _ _ c.regs
  · exact Sedge.Listed.init
  · exact Reed.Listed.init

theorem bootStart_within {F : List Area} {s t : State} (h : Within F s t)
    (hF : [.regs, .lcs, .heldSvc, .boot, .fuses, .fusesRead, .frozen] ⊆ F := by decide) : Within F s (bootStart t) := by
  have base : ∀ (u : State) (a b : Fuses) (c : Lifecycle) (e : Bool) (g : Boot) (k : Option Freeze),
      Within [.regs, .lcs, .heldSvc, .boot, .fuses, .fusesRead,
          .frozen] u { u with fuses := a, fusesRead := b, lcs := c, heldSvc := e, boot := g, frozen := k } :=
    fun _ _ _ _ _ _ _ => ⟨rfl, id⟩
  unfold bootStart
  exact .after (base _ _ _ _ _ _ _) hF (.rset h _ _ _ (hF (by decide)))

theorem releaseHalted_within {F : List Area} {s t : State} (h : Within F s t)
    (hF : [.cores] ⊆ F := by decide) : Within F s (releaseHalted t) := by
  unfold releaseHalted
  exact .after (t := t) (.foldl (fun _ _ => .foldl (fun _ _ => .ite (setCtx_within (.refl _) ..) (.refl _)) (.refl _))
      (.refl _)) hF h

theorem endToken_within {F : List Area} {s t : State} (h : Within F s t)
    (hF : [.regs, .cores, .carr] ⊆ F := by decide) : Within F s (endToken t) := by
  unfold endToken
  refine .after (t := t) ?_ hF h
  dsimp only
  split
  · exact .refl _
  · exact rsetf_within (releaseHalted_within (Within.setCarr (.refl _) _ (by decide)) ..) ..

theorem freeAll_within {F : List Area} {s t : State} (h : Within F s t)
    (hF : [.reeds, .voters] ⊆ F := by decide) : Within F s (freeAll t) := by
  unfold freeAll
  exact .after (t := t) (.foldl (fun _ _ => .foldl (fun _ _ => setVoter_within (.refl _) ..) (.setReed (.refl _) _ _
      (by decide) fun canon now => .init)) (.refl _)) hF h

theorem channelsSafe_within {F : List Area} {s t : State} (h : Within F s t)
    (hF : [.regs, .evTick, .events, .reeds, .chans, .voters] ⊆ F := by decide) : Within F s (channelsSafe t) := by
  unfold channelsSafe
  exact .after (t := t) (.foldl (fun _ _ => .ite (setGd_within (safeEnter_within (.refl _) ..) ..) (.refl _)) (.refl _)) hF h

theorem mireEnter_within {F : List Area} {s t : State} (h : Within F s t) (cause die core : Nat)
    (hF : [.regs, .evTick, .events, .cores, .safety, .reeds, .chans, .voters, .vens, .carr] ⊆ F := by decide) :
    Within F s (mireEnter t cause die core) := by
  unfold mireEnter
  refine .after (t := t) ?_ hF h
  refine .ite (.refl _) ?_
  refine channelsSafe_within ?_ ..
  refine freeAll_within ?_ ..
  refine venStopAll_within ?_ ..
  refine .rset ?_ _ _ _ (by decide)
  refine evPut_within ?_ ..
  dsimp only
  exact Within.setSafety (endToken_within (.refl _) ..) _ (by decide)

theorem toProof_within {F : List Area} {s t : State} (h : Within F s t)
    (hF : [.safety, .blocks, .vens] ⊆ F := by decide) : Within F s (toProof t) := by
  unfold toProof
  exact .after (t := t) (.foldl (fun _ _ => setBlock_within (.refl _) ..) (venStopAll_within (Within.setSafety (.refl _) _
      (by decide)) ..)) hF h

theorem isolate_within {F : List Area} {s t : State} (h : Within F s t) (g : Nat)
    (hF : [.fresh, .mem, .eccWb, .regs, .evTick, .events, .enHeld, .cores, .heatCnt, .heatDue, .steals, .slots, .badPorts,
        .safety, .doms, .isol, .reeds, .sedges, .posts, .sweeps, .chans, .voters, .blocks, .vens, .links, .cwys, .eths, .prps,
        .emps, .carr] ⊆ F := by decide) :
    Within F s (isolate t g) := by
  unfold isolate
  exact .after (t := t) (.ite (.refl _) (.ite (mireEnter_within (.refl _) ..) (.ite (Within.setSafety (.foldl
      (fun _ _ => domHold_within (.refl _) ..) (sedgeIsolate_within (Within.setIsol (retireWhere_within (.refl _) ..) _
      (by decide)) ..)) _ (by decide)) (.foldl (fun _ _ => domHold_within (.refl _) ..) (sedgeIsolate_within (Within.setIsol
      (retireWhere_within (.refl _) ..) _ (by decide)) ..))))) hF h

theorem physWords_within {F : List Area} {s t : State} (h : Within F s t) (die : Nat) (addrs : List Nat)
    (hF : [.fresh, .eccWb, .regs, .evTick, .events, .heatCnt, .heatDue, .slots, .badPorts] ⊆ F := by decide) :
    Within F s (physWords t die addrs).2 := by
  have step : ∀ (l : List Nat) (r : Option (List (Word × Bool)) × State), Within [.fresh, .eccWb, .regs, .evTick, .events,
      .heatCnt, .heatDue, .slots, .badPorts] t r.2 → Within [.fresh, .eccWb, .regs, .evTick, .events, .heatCnt, .heatDue,
      .slots, .badPorts] t (l.foldl (fun r a =>
      match r with
      | (none, s) => (none, s)
      | (some l, s) =>
        if memReach s a = .ok then
          match readFor s (.die die) a with
          | (some w, s1) => (some (l ++ [w]), s1)
          | (none, s1) => (none, s1)
        else (none, memMiss s die a)) r).2 := by
    intro l
    induction l with
    | nil => exact fun _ k => k
    | cons a l ih =>
      intro r k
      refine ih _ ?_
      obtain ⟨_ | w, u⟩ := r
      · exact k
      · dsimp only
        split
        · have read : Within [.fresh, .eccWb, .regs, .evTick, .events, .heatCnt, .heatDue, .slots, .badPorts] t (readFor u
            (.die die) a).2 := readFor_within k ..
          split
          · exact .of_snd ‹_› read
          · exact .of_snd ‹_› read
        · exact memMiss_within k ..
  exact .after (step addrs _ (.refl t)) hF h

theorem bindRefused_within {F : List Area} {s t : State} (h : Within F s t) (n a : Nat)
    (hF : [.regs, .evTick, .events] ⊆ F := by decide) : Within F s (bindRefused t n a) := by
  unfold bindRefused
  exact .after (t := t) (capture_within (.refl _) ..) hF h

theorem bindStart_within {F : List Area} {s t : State} (h : Within F s t) (n : Nat) (h' : Nat) (a : Nat)
    (hF : [.fresh, .mem, .eccWb, .regs, .evTick, .events, .cores, .heatCnt, .heatDue, .slots, .badPorts,
        .doms] ⊆ F := by decide) :
    Within F s (bindStart t n h' a) := by
  unfold bindStart
  refine .after (t := t) ?_ hF h
  refine .ite (bindRefused_within (.refl _) ..) ?_
  dsimp only
  split
  · exact bindRefused_within (.of_snd ‹_ = (_, _)› (physWords_within (.refl _) ..)) ..
  · split
    · exact bindRefused_within (.of_snd ‹_ = (_, _)› (physWords_within (.refl _) ..)) ..
    · exact .ite (bindRefused_within (.of_snd ‹_ = (_, _)› (physWords_within (.refl _) ..)) ..) (wakeCore_within
        (setCtx_within (putFor_within (.of_snd ‹_ = (_, _)› (physWords_within (.refl _) ..)) ..) ..) ..)

theorem stopClear_within {F : List Area} {s t : State} (h : Within F s t) (n : Nat) (h' : Nat)
    (hF : [.regs, .evTick, .events, .cores] ⊆ F := by decide) : Within F s (stopClear t n h') := by
  unfold stopClear
  exact .after (t := t) (.foldl (fun _ _ => captureLate_within (.refl _) ..) (setCtx_within (.refl _) ..)) hF h

theorem stopHeld_within {F : List Area} {s t : State} (h : Within F s t) (s1 : State) (n a : Nat)
    (hF : [.regs, .evTick, .events, .cores] ⊆ F := by decide) : Within F s (stopHeld t s1 n a).2 := by
  unfold stopHeld
  refine .after (t := t) ?_ hF h
  split
  · split
    · exact bindRefused_within (unitGoesOn_within (.refl _) ..) ..
    · exact unitWaits_within (.refl _) ..
  · exact .refl _

theorem bindStop_within {F : List Area} {s t : State} (h : Within F s t) (n : Nat) (h' : Nat) (a : Nat)
    (hF : [.fresh, .mem, .eccWb, .regs, .evTick, .events, .cores, .heatCnt, .heatDue, .slots, .badPorts] ⊆ F := by decide) :
    Within F s (bindStop t n h' a).2 := by
  refine .after (t := t) ?_ hF h
  have written : Stays [.fresh, .mem, .eccWb, .regs, .evTick, .events, .cores, .heatCnt, .heatDue, .slots, .badPorts]
      ((stopWords t h' (ctxAt t n h').landLoad.finishMuls).forM (entryWrite n h')) :=
    .forM (fun _ => entryWrite_stays ..) _
  have drained : Within [.fresh, .mem, .eccWb, .regs, .evTick, .events, .cores, .heatCnt, .heatDue, .slots, .badPorts] t
      (drainAll t n) := drainAll_within (.refl t) ..
  unfold bindStop
  dsimp only
  split
  · exact bindRefused_within (.refl t) ..
  · split
    · exact stopClear_within (.refl t) ..
    · split
      · exact bindRefused_within (.refl t) ..
      · split
        · exact stopClear_within (unitGoesOn_within (keepHeld_within (written.ok ‹_› drained) ..) ..) ..
        · exact stopHeld_within (.refl t) ..
        · exact bindRefused_within (unitGoesOn_within (unentered_within (written.error ‹_› drained) ..) ..) ..

theorem ctxbindStore_within {F : List Area} {s t : State} (h : Within F s t) (n : Nat) (v : Word)
    (hF : [.fresh, .mem, .eccWb, .regs, .evTick, .events, .cores, .heatCnt, .heatDue, .slots, .badPorts,
        .doms] ⊆ F := by decide) :
    Within F s (ctxbindStore t n v) := by
  unfold ctxbindStore
  exact .after (t := t) (.ite (bindStart_within (.refl _) ..) (.ite (bindStop_within (.refl _) ..) (.refl _))) hF h

theorem dbellStore_within {F : List Area} {s t : State} (h : Within F s t) (n : Nat) (v : Word)
    (hF : [.regs, .evTick, .events] ⊆ F := by decide) : Within F s (dbellStore t n v) := by
  unfold dbellStore
  exact .after (t := t) (.ite (irqPend_within (.refl _) ..) (.refl _)) hF h

theorem tcctlStore_within {F : List Area} {s t : State} (h : Within F s t) (n : Nat) (v : Word)
    (hF : [.cores] ⊆ F := by decide) : Within F s (tcctlStore t n v) := by
  unfold tcctlStore
  exact .after (t := t) (.ite (setCore_within (.refl _) ..) (.refl _)) hF h

theorem clearCounters_within {F : List Area} {s t : State} (h : Within F s t) (n : Nat)
    (hF : [.regs] ⊆ F := by decide) : Within F s (clearCounters t n) := by
  unfold clearCounters
  exact .after (t := t) (.foldl (fun _ _ => .rset (.refl _) _ _ _ (by decide)) (.refl _)) hF h

theorem pmctlStore_within {F : List Area} {s t : State} (h : Within F s t) (n : Nat) (v : Word)
    (hF : [.regs] ⊆ F := by decide) : Within F s (pmctlStore t n v) := by
  unfold pmctlStore
  exact .after (t := t) (.ite (clearCounters_within (writeFields_within (.refl _) ..) ..) (writeFields_within (.refl _)
      ..)) hF h

theorem portCheck_stays {F : List Area} (p : Port) (a : Nat) (k : Kind)
    (hF : [.fresh, .regs, .evTick, .events, .badPorts] ⊆ F := by decide) : Stays F (portCheck p a k) := by
  unfold portCheck
  refine .mono (G := [.fresh, .regs, .evTick, .events, .badPorts]) ?_ hF
  refine .bind .get fun _ => ?_
  refine .ite ?_ (.bind (.modify fun _ => capture_within (.refl _) ..) fun _ => .throw _)
  split
  · exact .ite (.pure _) (.bind (.modify fun _ => targetCapture_within (.refl _) ..) fun _ => .throw _)
  · exact .bind (.modify fun _ => reachRecord_within (.refl _) ..) fun _ => .throw _

theorem portRead_stays {F : List Area} (p : Port) (a : Nat)
    (hF : [.fresh, .eccWb, .regs, .evTick, .events, .heatCnt, .heatDue, .slots, .badPorts] ⊆ F := by decide) :
    Stays F (portRead p a) := by
  refine .mono (G := [.fresh, .eccWb, .regs, .evTick, .events, .heatCnt, .heatDue, .slots, .badPorts]) ?_ hF
  unfold portRead
  refine .bind (portCheck_stays ..) fun _ => (StaysAt.get_then fun s => ?_)
  have read : Within [.fresh, .eccWb, .regs, .evTick, .events, .heatCnt, .heatDue, .slots, .badPorts] s (readFor s
      (.die p.die) a).2 := readFor_within (.refl s) ..
  split
  · exact .set_then (.of_snd ‹_› read) fun _ => .pure _
  · exact .set_then (.of_snd ‹_› read) fun _ => .throw _

theorem portWrite_stays {F : List Area} (p : Port) (a : Nat) (w : Word)
    (hF : [.fresh, .mem, .eccWb, .regs, .evTick, .events, .heatCnt, .heatDue, .slots, .badPorts] ⊆ F := by decide) :
    Stays F (portWrite p a w) := by
  unfold portWrite
  exact .mono (G := [.fresh, .mem, .eccWb, .regs, .evTick, .events, .heatCnt, .heatDue, .slots, .badPorts]) (.bind
      (portCheck_stays ..) fun _ => .modify fun _ => putFor_within (.refl _) ..) hF

theorem portOctets_stays {F : List Area} (p : Port) (a n : Nat)
    (hF : [.fresh, .eccWb, .regs, .evTick, .events, .heatCnt, .heatDue, .slots, .badPorts] ⊆ F := by decide) :
    Stays F (portOctets p a n) := by
  unfold portOctets
  refine .mono (G := [.fresh, .eccWb, .regs, .evTick, .events, .heatCnt, .heatDue, .slots, .badPorts]) ?_ hF
  refine .foldlM (fun _ _ => ?_) _ _
  refine .bind (portRead_stays ..) fun _ => ?_
  split
  · exact .pure _
  · exact .bind (.modify fun _ => capture_within (.refl _) ..) fun _ => .throw _

theorem portPutOctets_stays {F : List Area} (p : Port) (a : Nat) (l : List (BitVec 8))
    (hF : [.fresh, .mem, .eccWb, .regs, .evTick, .events, .heatCnt, .heatDue, .slots, .badPorts] ⊆ F := by decide) :
    Stays F (portPutOctets p a l) := by
  unfold portPutOctets
  exact .mono (G := [.fresh, .mem, .eccWb, .regs, .evTick, .events, .heatCnt, .heatDue, .slots, .badPorts]) (.forM
      (fun _ => portWrite_stays ..) _) hF

theorem dmaStatus_within {F : List Area} {s t : State} (h : Within F s t) (e : DmaErr)
    (hF : [.fresh] ⊆ F := by decide) : Within F s (dmaStatus t e).2 := by
  unfold dmaStatus
  refine .after (t := t) ?_ hF h
  split
  · exact .refl _
  · exact .refl _
  · dsimp only
    exact Within.setFresh (.refl _) _ (by decide)

theorem portTime_within {F : List Area} {s t : State} (h : Within F s t)
    (hF : [.fresh] ⊆ F := by decide) : Within F s (portTime t).2 := by
  unfold portTime
  refine .after (t := t) ?_ hF h
  dsimp only
  exact Within.setFresh (.refl _) _ (by decide)

theorem setEth_within {F : List Area} {s t : State} (h : Within F s t) (i : Nat) (e : Eth)
    (hF : [.eths] ⊆ F := by decide) : Within F s (setEth t i e) :=
  .after (t := t) ⟨rfl, id⟩ hF h

theorem wireSend_within {F : List Area} {s t : State} (h : Within F s t) (i : Nat) (l : List (BitVec 8))
    (hF : [.regs, .eths] ⊆ F := by decide) : Within F s (wireSend t i l) := by
  unfold wireSend
  exact .after (t := t) (.ite (rinc_within (setEth_within (.refl _) ..) ..) (.refl _)) hF h

theorem frameSend_within {F : List Area} {s t : State} (h : Within F s t) (i : Nat) (l : List (BitVec 8))
    (hF : [.regs, .eths] ⊆ F := by decide) : Within F s (frameSend t i l) := by
  unfold frameSend
  exact .after (t := t) (.ite (rsetf_within (wireSend_within (wireSend_within (.refl _) ..) ..) ..) (wireSend_within (.refl _)
      ..)) hF h

theorem txFrame_stays {F : List Area} (i a : Nat) (d0 : Word)
    (hF : [.fresh, .mem, .eccWb, .regs, .evTick, .events, .heatCnt, .heatDue, .slots, .badPorts, .eths] ⊆ F := by decide) :
    Stays F (txFrame i a d0) := by
  refine .mono (G := [.fresh, .mem, .eccWb, .regs, .evTick, .events, .heatCnt, .heatDue, .slots, .badPorts, .eths]) ?_ hF
  have stamped : Stays [.fresh, .mem, .eccWb, .regs, .evTick, .events, .heatCnt, .heatDue, .slots, .badPorts, .eths] (do
      let s ← MonadState.get
      MonadStateOf.set (portTime s).2
      portWrite (ethPort i) (a + 2) (portTime s).1
      pure (f := P) 0) := StaysAt.get_then fun s =>
    .set_then (portTime_within (.refl s) ..) fun _ => .bind (portWrite_stays ..) fun _ => .pure _
  unfold txFrame
  refine .ite (.pure _) (.bind (portRead_stays ..) fun _ => .bind (portOctets_stays ..) fun _ => .bind (portRead_stays ..)
      fun _ =>
    .bind (.modify fun s => frameSend_within (.refl s) ..) fun _ => ?_)
  exact .ite stamped (.pure _)

theorem txEnd_within {F : List Area} {s t : State} (h : Within F s t) (i a : Nat) (d0 : Word) (status : Nat)
    (hF : [.fresh, .mem, .eccWb, .regs, .evTick, .events, .heatCnt, .heatDue, .slots, .badPorts, .eths] ⊆ F := by decide) :
    Within F s (txEnd t i a d0 status) := by
  unfold txEnd
  refine .after (t := t) ?_ hF h
  dsimp only
  split
  · exact irqPend_within (setEth_within (Stays.ok (portWrite_stays ..) ‹_ = EStateM.Result.ok _ _› (.refl _)) ..) ..
  · exact setEth_within (Stays.error (portWrite_stays ..) ‹_ = EStateM.Result.error _ _› (.refl _)) ..

theorem ethTransmit_within {F : List Area} {s t : State} (h : Within F s t) (i : Nat)
    (hF : [.fresh, .mem, .eccWb, .regs, .evTick, .events, .heatCnt, .heatDue, .slots, .badPorts, .eths] ⊆ F := by decide) :
    Within F s (ethTransmit t i) := by
  unfold ethTransmit
  refine .after (t := t) ?_ hF h
  dsimp only
  split
  · exact setEth_within (Stays.error (portRead_stays ..) ‹_ = EStateM.Result.error _ _› (.refl _)) ..
  · refine .ite ?_ (setEth_within (Stays.ok (portRead_stays ..) ‹_ = EStateM.Result.ok _ _› (.refl _)) ..)
    split
    · exact txEnd_within (Stays.ok (txFrame_stays ..) ‹_ = EStateM.Result.ok _ _› (Stays.ok (portRead_stays
        ..) ‹_ = EStateM.Result.ok _ _› (.refl _))) ..
    · exact txEnd_within (dmaStatus_within (Stays.error (txFrame_stays ..) ‹_ = EStateM.Result.error _ _› (Stays.ok
        (portRead_stays ..) ‹_ = EStateM.Result.ok _ _› (.refl _))) ..) ..

theorem rxFrame_stays {F : List Area} (i a status : Nat) (rct : Bool) (l : List (BitVec 8))
    (hF : [.fresh, .mem, .eccWb, .regs, .evTick, .events, .heatCnt, .heatDue, .slots, .badPorts] ⊆ F := by decide) :
    Stays F (rxFrame i a status rct l) := by
  refine .mono (G := [.fresh, .mem, .eccWb, .regs, .evTick, .events, .heatCnt, .heatDue, .slots, .badPorts]) ?_ hF
  have write : ∀ k w, Stays [.fresh, .mem, .eccWb, .regs, .evTick, .events, .heatCnt, .heatDue, .slots, .badPorts] (portWrite
      (ethPort i) k w) := fun k w => portWrite_stays ..
  unfold rxFrame
  refine .bind (portRead_stays ..) fun _ => .bind (portPutOctets_stays ..) fun _ => StaysAt.get_then fun s => ?_
  dsimp only
  split
  · exact .set_then (portTime_within (.refl s) ..) fun _ => .bind (write _ _) fun _ => write _ _
  · exact .of_stays (write _ _)

theorem rxEnd_within {F : List Area} {s t : State} (h : Within F s t) (i : Nat)
    (hF : [.regs, .evTick, .events, .eths] ⊆ F := by decide) : Within F s (rxEnd t i) := by
  unfold rxEnd
  exact .after (t := t) (irqPend_within (setEth_within (.refl _) ..) ..) hF h

theorem rxDrop_within {F : List Area} {s t : State} (h : Within F s t) (i : Nat)
    (hF : [.regs, .eths] ⊆ F := by decide) : Within F s (rxDrop t i) := by
  unfold rxDrop
  exact .after (t := t) (rinc_within (setEth_within (.refl _) ..) ..) hF h

theorem deliver_within {F : List Area} {s t : State} (h : Within F s t) (from_ i status : Nat) (rct : Bool) (l : List (BitVec 8))
    (hF : [.fresh, .mem, .eccWb, .regs, .evTick, .events, .heatCnt, .heatDue, .slots, .badPorts, .eths] ⊆ F := by decide) :
    Within F s (deliver t from_ i status rct l) := by
  unfold deliver
  refine .after (t := t) ?_ hF h
  refine .ite (rinc_within (.refl _) ..) ?_
  dsimp only
  split
  · exact rxDrop_within (Stays.error (portRead_stays ..) ‹_ = EStateM.Result.error _ _› (.refl _)) ..
  · refine .ite ?_ (rxDrop_within (Stays.ok (portRead_stays ..) ‹_ = EStateM.Result.ok _ _› (.refl _)) ..)
    split
    · exact rinc_within (rxEnd_within (Stays.ok (rxFrame_stays ..) ‹_ = EStateM.Result.ok _ _› (Stays.ok (portRead_stays
        ..) ‹_ = EStateM.Result.ok _ _› (.refl _))) ..) ..
    · split
      · exact rxEnd_within (Stays.ok (portWrite_stays ..) ‹_ = EStateM.Result.ok _ _› (dmaStatus_within (Stays.error
          (rxFrame_stays ..) ‹_ = EStateM.Result.error _ _› (Stays.ok (portRead_stays ..) ‹_ = EStateM.Result.ok _ _›
          (.refl _))) ..)) ..
      · exact rxDrop_within (Stays.error (portWrite_stays ..) ‹_ = EStateM.Result.error _ _› (dmaStatus_within (Stays.error
          (rxFrame_stays ..) ‹_ = EStateM.Result.error _ _› (Stays.ok (portRead_stays ..) ‹_ = EStateM.Result.ok _ _›
          (.refl _))) ..)) ..

theorem prpPut_within {F : List Area} {s t : State} (h : Within F s t) (j : Nat) (e : PrpEntry)
    (hF : [.prps] ⊆ F := by decide) : Within F s (prpPut t j e) := by
  unfold prpPut
  refine .after (t := t) ?_ hF h
  dsimp only
  exact Within.setPrps (.refl _) _ (by decide)

theorem prpReceive_within {F : List Area} {s t : State} (h : Within F s t) (i : Nat) (l : List (BitVec 8))
    (hF : [.fresh, .mem, .eccWb, .regs, .evTick, .events, .heatCnt, .heatDue, .slots, .badPorts, .eths,
        .prps] ⊆ F := by decide) :
    Within F s (prpReceive t i l) := by
  unfold prpReceive
  exact .after (t := t) (.ite (.ite (deliver_within (.refl _) ..) (.ite (deliver_within (rinc_within (.refl _) ..) ..) (.ite
      (rinc_within (.refl _) ..) (deliver_within (prpPut_within (.refl _) ..) ..)))) (deliver_within (.refl _) ..)) hF h

theorem grant_within {F : List Area} {s t : State} (h : Within F s t) (g o p : Nat) (timed : Bool)
    (hF : [.links] ⊆ F := by decide) : Within F s (grant t g o p timed) := by
  unfold grant
  exact .after (t := t) (setLink_within (setLink_within (.refl _) ..) ..) hF h

theorem portFails_within {F : List Area} {s t : State} (h : Within F s t) (g o : Nat)
    (hF : [.badPorts] ⊆ F := by decide) : Within F s (portFails t g o) := by
  unfold portFails
  refine .after (t := t) ?_ hF h
  split
  · exact Within.setBadPorts (.refl _) _ (by decide)
  · exact .refl _

theorem linkGrant_within {F : List Area} {s t : State} (h : Within F s t) (k : Nat)
    (hF : [.links] ⊆ F := by decide) : Within F s (linkGrant t k) := by
  unfold linkGrant
  exact .after (t := t) (.ite (.refl _) (.ite (setLink_within (.refl _) ..) (.ite (setLink_within (.refl _) ..)
      (.refl _)))) hF h

theorem transmit_within {F : List Area} {s t : State} (h : Within F s t) (k : Nat) (timed : Bool) (dest : Nat)
    (hF : [.links] ⊆ F := by decide) : Within F s (transmit t k timed dest) := by
  unfold transmit
  exact .after (t := t) (.ite (.refl _) (.ite (.ite (setLink_within (.refl _) ..) (.refl _)) (.ite (linkGrant_within
      (setLink_within (.refl _) ..) ..) (.refl _)))) hF h

theorem remoteSend_within {F : List Area} {s t : State} (h : Within F s t) (pa : Nat) (st : Stamp)
    (hF : [.links] ⊆ F := by decide) : Within F s (remoteSend t pa st) := by
  unfold remoteSend
  refine .after (t := t) ?_ hF h
  split
  · split
    · exact linkGrant_within (setLink_within (.refl _) ..) ..
    · exact .refl _
  · exact .refl _

theorem linksTick_within {F : List Area} {s t : State} (h : Within F s t)
    (hF : [.links] ⊆ F := by decide) : Within F s (linksTick t) := by
  unfold linksTick
  exact .after (t := t) (.foldl (fun _ _ => .ite (linkGrant_within (.refl _) ..) (.refl _)) (.refl _)) hF h

theorem creditViolation_within {F : List Area} {s t : State} (h : Within F s t) (k : Nat)
    (hF : [.fresh, .mem, .eccWb, .regs, .evTick, .events, .enHeld, .cores, .heatCnt, .heatDue, .steals, .slots, .badPorts,
        .safety, .doms, .isol, .reeds, .sedges, .posts, .sweeps, .chans, .voters, .blocks, .vens, .links, .cwys, .eths, .prps,
        .emps, .carr] ⊆ F := by decide) :
    Within F s (creditViolation t k) := by
  unfold creditViolation
  exact .after (t := t) (.ite (isolate_within (capture_within (.refl _) ..) ..) (startRetrain_within (.refl _) ..)) hF h

theorem receive_within {F : List Area} {s t : State} (h : Within F s t) (k : Nat) (timed : Bool) (seq : Nat) (good : Bool)
    (hF : [.fresh, .mem, .eccWb, .regs, .evTick, .events, .enHeld, .cores, .heatCnt, .heatDue, .steals, .slots, .badPorts,
        .safety, .doms, .isol, .reeds, .sedges, .posts, .sweeps, .chans, .voters, .blocks, .vens, .links, .cwys, .eths, .prps,
        .emps, .carr] ⊆ F := by decide) :
    Within F s (receive t k timed seq good) := by
  unfold receive
  exact .after (t := t) (.ite (.refl _) (.ite (creditViolation_within (.refl _) ..) (.ite (.refl _) (.ite (setLink_within
      (.refl _) ..) (.ite (setLink_within (.refl _) ..) (setLink_within (.refl _) ..)))))) hF h

theorem creditBack_within {F : List Area} {s t : State} (h : Within F s t) (k : Nat) (timed : Bool)
    (hF : [.links] ⊆ F := by decide) : Within F s (creditBack t k timed) := by
  unfold creditBack
  exact .after (t := t) (.ite (setLink_within (.refl _) ..) (.ite (.refl _) (.ite (setLink_within (.refl _) ..) (.ite
      (setLink_within (.refl _) ..) (.refl _))))) hF h

theorem ackReceived_within {F : List Area} {s t : State} (h : Within F s t) (k seq : Nat)
    (hF : [.regs, .evTick, .events, .links, .cwys] ⊆ F := by decide) : Within F s (ackReceived t k seq) := by
  unfold ackReceived
  exact .after (t := t) (.ite (.refl _) (.ite (startRetrain_within (.refl _) ..) (setLink_within (.refl _) ..))) hF h

theorem countNak_within {F : List Area} {s t : State} (h : Within F s t) (k : Nat)
    (hF : [.regs] ⊆ F := by decide) : Within F s (countNak t k) := by
  unfold countNak
  refine .after (t := t) ?_ hF h
  split
  · exact rinc_within (.refl _) ..
  · exact .refl _

theorem nakReceived_within {F : List Area} {s t : State} (h : Within F s t) (k seq : Nat)
    (hF : [.regs, .evTick, .events, .links, .cwys] ⊆ F := by decide) : Within F s (nakReceived t k seq) := by
  unfold nakReceived
  exact .after (t := t) (.ite (startRetrain_within (countNak_within (.refl _) ..) ..) (countReplay_within (setLink_within
      (countNak_within (.refl _) ..) ..) ..)) hF h

theorem lanesLost_within {F : List Area} {s t : State} (h : Within F s t) (k : Nat)
    (hF : [.fresh, .cwys] ⊆ F := by decide) : Within F s (lanesLost t k) := by
  unfold lanesLost
  exact .after (t := t) (.ite (.refl _) (setCwy_within (Within.setFresh (.refl _) _ (by decide)) ..)) hF h

theorem lanesLocked_within {F : List Area} {s t : State} (h : Within F s t) (k : Nat)
    (hF : [.cwys] ⊆ F := by decide) : Within F s (lanesLocked t k) := by
  unfold lanesLocked
  exact .after (t := t) (.ite (.refl _) (setCwy_within (.refl _) ..)) hF h

theorem exchange_within {F : List Area} {s t : State} (h : Within F s t) (k : Nat)
    (hF : [.regs, .links] ⊆ F := by decide) : Within F s (exchange t k) := by
  unfold exchange
  exact .after (t := t) (countReplay_within (setLink_within (.refl _) ..) ..) hF h

theorem bridgeFailed_within {F : List Area} {s t : State} (h : Within F s t) (k : Nat)
    (hF : [.regs, .evTick, .events, .cores, .safety, .reeds, .chans, .voters, .vens, .links, .carr] ⊆ F := by decide) :
    Within F s (bridgeFailed t k) := by
  unfold bridgeFailed
  exact .after (t := t) (mireEnter_within (capture_within (capture_within (setLink_within (setLink_within (.refl _) ..) ..)
      ..) ..) ..) hF h

theorem causewayDown_within {F : List Area} {s t : State} (h : Within F s t) (k : Nat)
    (hF : [.regs, .evTick, .events, .links] ⊆ F := by decide) : Within F s (causewayDown t k) := by
  unfold causewayDown
  exact .after (t := t) (failover_within (capture_within (setCwyState_within (.refl _) ..) ..) ..) hF h

theorem reedRefGone_within {F : List Area} {s t : State} (h : Within F s t) (i d : Nat)
    (hF : [.regs, .evTick, .events, .reeds, .chans, .voters] ⊆ F := by decide) : Within F s (reedRefGone t i d) := by
  unfold reedRefGone
  exact .after (t := t) (.ite (.foldl (fun _ _ => .ite (.ite (safeEnter_within (retireEntry_within (.refl _) ..) ..)
      (retireEntry_within (.refl _) ..)) (.refl _)) (.refl _)) (capture_within (.foldl (fun _ _ => .ite (.ite
      (safeEnter_within (retireEntry_within (.refl _) ..) ..) (retireEntry_within (.refl _) ..)) (.refl _)) (.refl _)) ..)) hF h

theorem burstRefGone_within {F : List Area} {s t : State} (h : Within F s t) (i : Nat)
    (hF : [.regs, .evTick, .events, .reeds, .chans, .voters] ⊆ F := by decide) : Within F s (burstRefGone t i) := by
  unfold burstRefGone
  exact .after (t := t) (.foldl (fun _ _ => safeEnter_within (.refl _) ..) (.refl _)) hF h

theorem refGone_within {F : List Area} {s t : State} (h : Within F s t) (i : Nat)
    (hF : [.regs, .evTick, .events, .reeds, .chans, .voters] ⊆ F := by decide) : Within F s (refGone t i) := by
  unfold refGone
  exact .after (t := t) (burstRefGone_within (.foldl (fun _ _ => reedRefGone_within (.refl _) ..) (.refl _)) ..) hF h

theorem refTo_within {F : List Area} {s t : State} (h : Within F s t) (i : Nat) (st : RefState)
    (hF : [.regs, .evTick, .events, .refs, .reeds, .chans, .voters] ⊆ F := by decide) : Within F s (refTo t i st) := by
  unfold refTo
  refine .after (t := t) ?_ hF h
  refine .ite (.refl _) ?_
  dsimp only
  split
  · exact refGone_within (capture_within (rinc_within (irqPend_within (setRef_within (.refl _) ..) ..) ..) ..) ..
  · exact refGone_within (setRef_within (irqPend_within (setRef_within (.refl _) ..) ..) ..) ..
  · exact setRef_within (irqPend_within (setRef_within (.refl _) ..) ..) ..
  · exact irqPend_within (setRef_within (.refl _) ..) ..

theorem copyTake_within {F : List Area} {s t : State} (h : Within F s t) (i : Nat) (src : Ref)
    (hF : [.regs, .evTick, .events, .refs, .reeds, .chans, .voters] ⊆ F := by decide) : Within F s (copyTake t i src) := by
  unfold copyTake
  exact .after (t := t) (setRef_within (.ite (refTo_within (refTo_within (.refl _) ..) ..) (refTo_within (.refl _) ..)) ..) hF h

theorem copySlew_within {F : List Area} {s t : State} (h : Within F s t) (i : Nat) (src : Ref)
    (hF : [.regs, .evTick, .events, .refs, .reeds, .chans, .voters] ⊆ F := by decide) : Within F s (copySlew t i src) := by
  unfold copySlew
  exact .after (t := t) (setRef_within (refTo_within (.refl _) ..) ..) hF h

theorem refCopy_within {F : List Area} {s t : State} (h : Within F s t) (most : Int) (i : Nat)
    (hF : [.regs, .evTick, .events, .refs, .reeds, .chans, .voters] ⊆ F := by decide) : Within F s (refCopy most t i) := by
  unfold refCopy
  exact .after (t := t) (.ite (.ite (copySlew_within (.refl _) ..) (copyTake_within (.refl _) ..)) (.refl _)) hF h

theorem refCopies_within {F : List Area} {s t : State} (h : Within F s t)
    (hF : [.regs, .evTick, .events, .refs, .reeds, .chans, .voters] ⊆ F := by decide) : Within F s (refCopies t) := by
  unfold refCopies
  exact .after (t := t) (.foldl (fun _ _ => refCopy_within (.refl _) ..) (.refl _)) hF h

theorem crossAcquire_within {F : List Area} {s t : State} (h : Within F s t) (i at_ age : Nat)
    (hF : [.regs, .evTick, .events, .refs, .reeds, .chans, .voters] ⊆ F := by decide) :
    Within F s (crossAcquire t i at_ age) := by
  unfold crossAcquire
  refine .after (t := t) ?_ hF h
  dsimp only
  split
  · exact setRef_within (.refl _) ..
  · exact .ite (setRef_within (.refl _) ..) (.ite (refTo_within (setRef_within (.refl _) ..) ..) (setRef_within (.refl _) ..))

theorem crossLocked_within {F : List Area} {s t : State} (h : Within F s t) (i at_ age : Nat)
    (hF : [.regs, .evTick, .events, .refs, .reeds, .chans, .voters] ⊆ F := by decide) :
    Within F s (crossLocked t i at_ age) := by
  unfold crossLocked
  exact .after (t := t) (.ite (refTo_within (.refl _) ..) (setRef_within (.refl _) ..)) hF h

theorem crossHoldover_within {F : List Area} {s t : State} (h : Within F s t) (i at_ age : Nat)
    (hF : [.regs, .evTick, .events, .refs, .reeds, .chans, .voters] ⊆ F := by decide) :
    Within F s (crossHoldover t i at_ age) := by
  unfold crossHoldover
  exact .after (t := t) (.ite (refTo_within (setRef_within (.refl _) ..) ..) (refTo_within (.refl _) ..)) hF h

theorem crossing_within {F : List Area} {s t : State} (h : Within F s t) (i at_ age : Nat)
    (hF : [.regs, .evTick, .events, .refs, .reeds, .chans, .voters] ⊆ F := by decide) : Within F s (crossing t i at_ age) := by
  unfold crossing
  refine .after (t := t) ?_ hF h
  dsimp only
  split
  · exact .refl _
  · exact crossAcquire_within (.refl _) ..
  · exact crossLocked_within (.refl _) ..
  · exact crossHoldover_within (.refl _) ..
  · exact refTo_within (setRef_within (.refl _) ..) ..

theorem refcfgStore_within {F : List Area} {s t : State} (h : Within F s t) (i : Nat) (v : Word)
    (hF : [.regs, .evTick, .events, .refs, .reeds, .chans, .voters] ⊆ F := by decide) : Within F s (refcfgStore t i v) := by
  unfold refcfgStore
  exact .after (t := t) (unlessLocked_within (.refl _) _ _ fun _ => .ite (capture_within (.refl _) ..) (.ite (refCopies_within
      (refTo_within (writeFields_within (.refl _) ..) ..) ..) (.ite (refCopies_within (refTo_within (setRef_within
      (writeFields_within (.refl _) ..) ..) ..) ..) (refCopies_within (writeFields_within (.refl _) ..) ..)))) hF h

theorem synStore_within {F : List Area} {s t : State} (h : Within F s t) (i off : Nat) (v : Word)
    (hF : [.regs, .evTick, .events] ⊆ F := by decide) : Within F s (synStore t i off v) := by
  unfold synStore
  exact .after (t := t) (unlessLocked_within (.refl _) _ _ fun _ => .ite (capture_within (.refl _) ..) (writeFields_within
      (.refl _) ..)) hF h

theorem phrefReset_within {F : List Area} {s t : State} (h : Within F s t)
    (hF : [.regs, .evTick, .events, .refs, .reeds, .chans, .voters] ⊆ F := by decide) : Within F s (phrefReset t) := by
  unfold phrefReset
  exact .after (t := t) (unlessLocked_within (.refl _) _ _ fun _ => resetPage_within (.foldl (fun _ _ => refTo_within
      (.refl _) ..) (.refl _)) ..) hF h

theorem ttLoRead_within {F : List Area} {s t : State} (h : Within F s t)
    (hF : [.regs] ⊆ F := by decide) : Within F s (ttLoRead t).2 := by
  unfold ttLoRead
  exact .after (t := t) (.rset (.refl _) _ _ _ (by decide)) hF h

theorem rateStore_within {F : List Area} {s t : State} (h : Within F s t) (v : Word)
    (hF : [.regs, .evTick, .events] ⊆ F := by decide) : Within F s (rateStore t v) := by
  unfold rateStore
  exact .after (t := t) (unlessLocked_within (.refl _) _ _ fun _ => .ite (captureAt_within (.refl _) ..) (.ite
      (captureAt_within (.refl _) ..) (.rset (.refl _) _ _ _ (by decide)))) hF h

theorem ttJump_within {F : List Area} {s t : State} (h : Within F s t) (amount : Int)
    (hF : [.tt, .ttMarks, .voters] ⊆ F := by decide) : Within F s (ttJump t amount) := by
  have base : ∀ (u : State) (a : Nat) (v : KMap Voter), Within [.tt, .ttMarks,
      .voters] u { u with tt := a, voters := v } := fun _ _ _ => ⟨rfl, id⟩
  unfold ttJump
  exact .after (base _ _ _) hF (ttMark_within h _ (List.Subset.trans (by decide) hF))

theorem stepTake_within {F : List Area} {s t : State} (h : Within F s t) (amount : Int)
    (hF : [.tt, .ttMarks, .sync, .voters] ⊆ F := by decide) : Within F s (stepTake t amount) := by
  unfold stepTake
  refine .after (t := t) ?_ hF h
  refine .ite (ttJump_within (.refl _) ..) ?_
  dsimp only
  exact Within.setSync (.refl _) _ (by decide)

theorem stepDue_within {F : List Area} {s t : State} (h : Within F s t)
    (hF : [.tt, .ttMarks, .sync, .voters] ⊆ F := by decide) : Within F s (stepDue t) := by
  unfold stepDue
  refine .after (t := t) ?_ hF h
  dsimp only
  split
  · exact .refl _
  · exact .ite (Within.setSync (ttJump_within (.refl _) ..) _ (by decide)) (.refl _)

theorem stepStore_within {F : List Area} {s t : State} (h : Within F s t) (v : Word)
    (hF : [.regs, .evTick, .events, .tt, .ttMarks, .sync, .voters] ⊆ F := by decide) : Within F s (stepStore t v) := by
  unfold stepStore
  exact .after (t := t) (.rset (.ite (captureAt_within (.refl _) ..) (.ite (captureAt_within (.refl _) ..) (stepTake_within
      (.refl _) ..))) _ _ _ (by decide)) hF h

theorem stepLoStore_within {F : List Area} {s t : State} (h : Within F s t) (v : Word)
    (hF : [.regs, .evTick, .events] ⊆ F := by decide) : Within F s (stepLoStore t v) := by
  unfold stepLoStore
  exact .after (t := t) (.ite (captureAt_within (.refl _) ..) (.rset (.refl _) _ _ _ (by decide))) hF h

theorem ttimeReset_within {F : List Area} {s t : State} (h : Within F s t)
    (hF : [.regs, .evTick, .events] ⊆ F := by decide) : Within F s (ttimeReset t) := by
  unfold ttimeReset
  exact .after (t := t) (unlessLocked_within (.refl _) _ _ fun _ => .rset (resetPage_within (.refl _) ..) _ _ _
      (by decide)) hF h

theorem stackChanged_within {F : List Area} {s t : State} (h : Within F s t)
    (hF : [.regs, .evTick, .events] ⊆ F := by decide) : Within F s (stackChanged t) := by
  unfold stackChanged
  exact .after (t := t) (irqPend_within (.refl _) ..) hF h

theorem linkWaits_within {F : List Area} {s t : State} (h : Within F s t) (i why : Nat)
    (hF : [.regs, .evTick, .events, .links, .cwys] ⊆ F := by decide) : Within F s (linkWaits t i why) := by
  unfold linkWaits
  exact .after (t := t) (capture_within (setCwyState_within (setCwy_within (.refl _) ..) ..) ..) hF h

theorem linkFacts_within {F : List Area} {s t : State} (h : Within F s t) (i : Nat) (peer : PeerFacts)
    (hF : [.cwys] ⊆ F := by decide) : Within F s (linkFacts t i peer) := by
  unfold linkFacts
  exact .after (t := t) (setCwy_within (.refl _) ..) hF h

theorem linkPools_within {F : List Area} {s t : State} (h : Within F s t) (i : Nat)
    (hF : [.regs, .links] ⊆ F := by decide) : Within F s (linkPools t i) := by
  unfold linkPools
  exact .after (t := t) (.ite (exchange_within (exchange_within (.refl _) ..) ..) (setLink_within (setLink_within (.refl _)
      ..) ..)) hF h

theorem showMembers_within {F : List Area} {s t : State} (h : Within F s t)
    (hF : [.cwys] ⊆ F := by decide) : Within F s (showMembers t) := by
  unfold showMembers
  exact .after (t := t) (.foldl (fun _ _ => setCwy_within (.refl _) ..) (.refl _)) hF h

theorem flagPeer_within {F : List Area} {s t : State} (h : Within F s t) (p : PeerFacts) (k : Nat)
    (hF : [.cwys] ⊆ F := by decide) : Within F s (flagPeer t p k) := by
  unfold flagPeer
  exact .after (t := t) (.foldl (fun _ _ => .ite (setCwy_within (.refl _) ..) (.refl _)) (.refl _)) hF h

theorem memberAt_within {F : List Area} {s t : State} (h : Within F s t) (i : Nat) (p : PeerFacts) (k : Nat) (orphan : Bool)
    (hF : [.cwys, .stack] ⊆ F := by decide) : Within F s (memberAt t i p k orphan) := by
  unfold memberAt
  refine .after (t := t) ?_ hF h
  refine flagPeer_within ?_ ..
  refine setCwy_within ?_ ..
  dsimp only
  exact Within.setStack (.refl _) _ (by decide)

theorem holdTo_within {F : List Area} {s t : State} (h : Within F s t) (h' : Bool)
    (hF : [.regs, .evTick, .events, .sync] ⊆ F := by decide) : Within F s (holdTo t h') := by
  unfold holdTo
  refine .after (t := t) ?_ hF h
  refine .ite (.refl _) ?_
  refine irqPend_within ?_ ..
  dsimp only
  exact Within.setSync (.refl _) _ (by decide)

theorem admitPeer_within {F : List Area} {s t : State} (h : Within F s t) (i : Nat) (p : PeerFacts)
    (hF : [.regs, .evTick, .events, .cwys, .stack] ⊆ F := by decide) : Within F s (admitPeer t i p) := by
  unfold admitPeer
  exact .after (t := t) (stackChanged_within (memberAt_within (.refl _) ..) ..) hF h

theorem admitted_within {F : List Area} {s t : State} (h : Within F s t) (i : Nat) (p : PeerFacts) (former : Bool)
    (hF : [.regs, .evTick, .events, .tt, .ttMarks, .sync, .voters, .cwys, .stack] ⊆ F := by decide) :
    Within F s (admitted t i p former) := by
  unfold admitted
  refine .after (t := t) ?_ hF h
  refine holdTo_within ?_ ..
  refine stackChanged_within ?_ ..
  dsimp only
  split
  · split
    · exact Within.setSync (ttJump_within (showMembers_within (setCwy_within (Within.setStack (.refl _) _ (by decide)) ..) ..)
        ..) _ (by decide)
    · exact Within.setSync (ttMark_within (showMembers_within (setCwy_within (Within.setStack (.refl _) _ (by decide)) ..) ..)
        ..) _ (by decide)
  · split
    · exact Within.setSync (ttJump_within (showMembers_within (setCwy_within (Within.setStack (.refl _) _ (by decide)) ..) ..)
        ..) _ (by decide)
    · exact Within.setSync (ttMark_within (showMembers_within (setCwy_within (Within.setStack (.refl _) _ (by decide)) ..) ..)
        ..) _ (by decide)

theorem joinRefused_within {F : List Area} {s t : State} (h : Within F s t) (i why : Nat)
    (hF : [.regs, .evTick, .events, .links, .cwys] ⊆ F := by decide) : Within F s (joinRefused t i why) := by
  unfold joinRefused
  exact .after (t := t) (linkWaits_within (capture_within (.refl _) ..) ..) hF h

theorem followerJoin_within {F : List Area} {s t : State} (h : Within F s t) (i : Nat) (p : PeerFacts)
    (hF : [.regs, .evTick, .events, .links, .cwys, .stack] ⊆ F := by decide) : Within F s (followerJoin t i p) := by
  unfold followerJoin
  refine .after (t := t) ?_ hF h
  refine .ite ?_ (.ite (.ite (memberAt_within (.refl _) ..) (stackChanged_within (memberAt_within (.refl _) ..) ..)) (.ite
      (joinRefused_within (.refl _) ..) (.refl _)))
  split
  · exact stackChanged_within (memberAt_within (.refl _) ..) ..
  · exact capture_within (.refl _) ..

theorem joinDecide_within {F : List Area} {s t : State} (h : Within F s t) (i : Nat) (p : PeerFacts)
    (hF : [.regs, .evTick, .events, .cwys, .stack] ⊆ F := by decide) : Within F s (joinDecide t i p) := by
  unfold joinDecide
  exact .after (t := t) (.ite (admitPeer_within (setCwy_within (.refl _) ..) ..) (capture_within (setCwy_within (.refl _) ..)
      ..)) hF h

theorem joinTick_within {F : List Area} {s t : State} (h : Within F s t)
    (hF : [.regs, .evTick, .events, .cwys, .stack] ⊆ F := by decide) : Within F s (joinTick t) := by
  unfold joinTick
  refine .after (t := t) ?_ hF h
  refine .ite ?_ (.refl _)
  split
  · exact joinDecide_within (.refl _) ..
  · exact .refl _

theorem syncLost_within {F : List Area} {s t : State} (h : Within F s t)
    (hF : [.regs, .evTick, .events, .sync, .refs, .reeds, .chans, .voters] ⊆ F := by decide) : Within F s (syncLost t) := by
  unfold syncLost
  refine .after (t := t) ?_ hF h
  refine .foldl (fun _ _ => .ite (refTo_within (.refl _) ..) (.refl _)) ?_
  refine holdTo_within ?_ ..
  dsimp only
  exact Within.setSync (.refl _) _ (by decide)

theorem forgetPos_within {F : List Area} {s t : State} (h : Within F s t) (k : Nat)
    (hF : [.cwys] ⊆ F := by decide) : Within F s (forgetPos t k) := by
  unfold forgetPos
  exact .after (t := t) (.foldl (fun _ _ => .ite (setCwy_within (.refl _) ..) (.refl _)) (.refl _)) hF h

theorem leaveStack_within {F : List Area} {s t : State} (h : Within F s t)
    (hF : [.regs, .evTick, .events, .sync, .refs, .reeds, .chans, .voters, .cwys, .stack] ⊆ F := by decide) :
    Within F s (leaveStack t) := by
  have base : ∀ (u : State) (a : Stack) (b : Sync), Within [.stack, .sync] u { u with stack := a, sync := b } :=
      fun _ _ _ => ⟨rfl, id⟩
  refine .after (t := t) ?_ hF h
  unfold leaveStack
  refine .ite (.refl t) (refCopies_within (stackChanged_within (.after (base _ _ _) (by decide) (holdTo_within ?_ ..)) ..) ..)
  exact .foldl (fun u _ => setCwy_within (.refl u) ..) (.refl t)

theorem linkOff_within {F : List Area} {s t : State} (h : Within F s t) (i : Nat)
    (hF : [.links, .cwys] ⊆ F := by decide) : Within F s (linkOff t i) := by
  unfold linkOff
  exact .after (t := t) (.ite (.refl _) (setCwyState_within (setCwy_within (.refl _) ..) ..)) hF h

theorem stkcfgStore_within {F : List Area} {s t : State} (h : Within F s t) (v : Word)
    (hF : [.regs, .evTick, .events, .links, .cwys] ⊆ F := by decide) : Within F s (stkcfgStore t v) := by
  unfold stkcfgStore
  exact .after (t := t) (unlessLocked_within (.refl _) _ _ fun _ => .foldl (fun _ _ => .ite (.ite (setCwyState_within
      (.refl _) ..) (.refl _)) (linkOff_within (.refl _) ..)) (writeFields_within (.refl _) ..)) hF h

theorem syncRate_within {F : List Area} {s t : State} (h : Within F s t) (base off : Int)
    (hF : [.fresh] ⊆ F := by decide) : Within F s (syncRate t base off).2 := by
  unfold syncRate
  refine .after (t := t) ?_ hF h
  dsimp only
  exact Within.setFresh (.refl _) _ (by decide)

theorem syncFrom_within {F : List Area} {s t : State} (h : Within F s t) (time : Nat) (off : Int) (good : Nat)
    (hF : [.fresh, .sync] ⊆ F := by decide) : Within F s (syncFrom t time off good) := by
  unfold syncFrom
  refine .after (t := t) ?_ hF h
  dsimp only
  exact Within.setSync (syncRate_within (.refl _) ..) _ (by decide)

theorem remoteRef_within {F : List Area} {s t : State} (h : Within F s t) (i delay : Nat) (x : RefSample)
    (hF : [.regs, .evTick, .events, .refs, .reeds, .chans, .voters] ⊆ F := by decide) : Within F s (remoteRef t i delay x) := by
  unfold remoteRef
  exact .after (t := t) (.ite (setRef_within (.refl _) ..) (.ite (refTo_within (setRef_within (.refl _) ..) ..) (.ite
      (refTo_within (setRef_within (.refl _) ..) ..) (.ite (setRef_within (.refl _) ..) (.ite (refTo_within (refTo_within
      (setRef_within (.refl _) ..) ..) ..) (.ite (refTo_within (.refl _) ..) (setRef_within (refTo_within (setRef_within
      (.refl _) ..) ..) ..))))))) hF h

theorem stepLearn_within {F : List Area} {s t : State} (h : Within F s t) (time : MasterTime)
    (hF : [.sync] ⊆ F := by decide) : Within F s (stepLearn t time) := by
  unfold stepLearn
  refine .after (t := t) ?_ hF h
  refine .ite (.refl _) ?_
  dsimp only
  exact Within.setSync (.refl _) _ (by decide)

theorem remoteRefs_within {F : List Area} {s t : State} (h : Within F s t) (delay : Nat) (refs : List RefSample)
    (hF : [.regs, .evTick, .events, .refs, .reeds, .chans, .voters] ⊆ F := by decide) :
    Within F s (remoteRefs t delay refs) := by
  unfold remoteRefs
  refine .after (t := t) ?_ hF h
  refine .foldl (fun _ _ => ?_) (.refl _)
  refine .ite ?_ (.refl _)
  split
  · exact remoteRef_within (.refl _) ..
  · exact .refl _

theorem syncTick_within {F : List Area} {s t : State} (h : Within F s t)
    (hF : [.cwys] ⊆ F := by decide) : Within F s (syncTick t) := by
  unfold syncTick
  exact .after (t := t) (.ite (.foldl (fun _ _ => setCwy_within (.refl _) ..) (.refl _)) (.refl _)) hF h

theorem stackTick_within {F : List Area} {s t : State} (h : Within F s t)
    (hF : [.regs, .evTick, .events, .cwys, .stack] ⊆ F := by decide) : Within F s (stackTick t) := by
  unfold stackTick
  exact .after (t := t) (syncTick_within (joinTick_within (.refl _) ..) ..) hF h

theorem refTick_within {F : List Area} {s t : State} (h : Within F s t) (i : Nat)
    (hF : [.refs] ⊆ F := by decide) : Within F s (refTick t i) := by
  unfold refTick
  exact .after (t := t) (.ite (.refl _) (setRef_within (.refl _) ..)) hF h

theorem copyTick_within {F : List Area} {s t : State} (h : Within F s t) (i : Nat)
    (hF : [.regs, .evTick, .events, .refs, .reeds, .chans, .voters] ⊆ F := by decide) : Within F s (copyTick t i) := by
  unfold copyTick
  exact .after (t := t) (.ite (setRef_within (refCopy_within (.refl _) ..) ..) (refCopy_within (.refl _) ..)) hF h

theorem refsTick_within {F : List Area} {s t : State} (h : Within F s t)
    (hF : [.regs, .evTick, .events, .refs, .reeds, .chans, .voters] ⊆ F := by decide) : Within F s (refsTick t) := by
  unfold refsTick
  exact .after (t := t) (.foldl (fun _ _ => copyTick_within (.refl _) ..) (.foldl (fun _ _ => refTick_within (.refl _) ..)
      (.refl _))) hF h

theorem waitCycles_within {F : List Area} {s t : State} (h : Within F s t) (n : Nat)
    (hF : [.regs, .evTick, .events, .cores] ⊆ F := by decide) : Within F s (waitCycles t n) := by
  unfold waitCycles
  refine .after (t := t) ?_ hF h
  dsimp only
  split
  · exact perf_within (.refl _) ..
  · exact .ite (perf_within (.refl _) ..) (setCore_within (.refl _) ..)
  · exact .ite (perf_within (.refl _) ..) (setCore_within (.refl _) ..)
  · exact .ite (.refl _) (perf_within (.refl _) ..)
  · exact perf_within (.refl _) ..
  · exact .ite (.refl _) (perf_within (.refl _) ..)
  · exact .refl _

theorem coreTick_within {F : List Area} {s t : State} (h : Within F s t) (n : Nat)
    (hF : [.regs, .evTick, .events, .cores] ⊆ F := by decide) : Within F s (coreTick t n) := by
  unfold coreTick
  exact .after (t := t) (.ite (waitCycles_within (setCore_within (setCore_within (.refl _) ..) ..) ..) (.refl _)) hF h

theorem axleTick_within {F : List Area} {s t : State} (h : Within F s t) (m : Nat)
    (hF : [.chans] ⊆ F := by decide) : Within F s (axleTick t m) := by
  unfold axleTick
  exact .after (t := t) (.ite (setChan_within (.refl _) ..) (.refl _)) hF h

theorem burstTick_within {F : List Area} {s t : State} (h : Within F s t) (m : Nat)
    (hF : [.chans] ⊆ F := by decide) : Within F s (burstTick t m) := by
  unfold burstTick
  exact .after (t := t) (.ite (setChan_within (.refl _) ..) (.refl _)) hF h

theorem chanTick_within {F : List Area} {s t : State} (h : Within F s t) (m : Nat)
    (hF : [.chans] ⊆ F := by decide) : Within F s (chanTick t m) := by
  unfold chanTick
  exact .after (t := t) (edgeTick_within (burstTick_within (axleTick_within (.refl _) ..) ..) ..) hF h

theorem tick_within {F : List Area} {s t : State} (h : Within F s t)
    (hF : [.regs, .evTick, .events, .cores, .tt, .ttSub, .ttRateWas, .ttMarks, .ticks, .sync, .refs, .reeds, .chans, .voters,
        .links, .cwys, .stack] ⊆ F := by decide) :
    Within F s (tick t) := by
  unfold tick
  exact .after (t := t) (.ite (.foldl (fun _ _ => chanTick_within (.refl _) ..) (.foldl (fun _ _ => coreTick_within (.refl _)
      ..) (linksTick_within (stackTick_within (refsTick_within (stepDue_within (ttAdvance_within (Within.setTicks (.refl _) _
      (by decide)) ..) ..) ..) ..) ..))) (.refl _)) hF h

theorem carrWords_stays {F : List Area} (dbg : Bool) (a n : Nat)
    (hF : [.fresh, .eccWb, .regs, .evTick, .events, .heatCnt, .heatDue, .slots, .badPorts] ⊆ F := by decide) :
    Stays F (carrWords dbg a n) := by
  refine .mono (G := [.fresh, .eccWb, .regs, .evTick, .events, .heatCnt, .heatDue, .slots, .badPorts]) ?_ hF
  unfold carrWords
  refine StaysAt.get_then fun s => ?_
  have read : ∀ l, Within [.fresh, .eccWb, .regs, .evTick, .events, .heatCnt, .heatDue, .slots, .badPorts] s
      (physWords s 0 l).2 := fun l => physWords_within (.refl s) ..
  split
  · split
    · exact .of_stays (.pure _)
    · exact .of_stays (.throw _)
  · split
    · exact .set_then (.of_snd ‹_› (read _)) fun _ => .pure _
    · exact .set_then (.of_snd ‹_› (read _)) fun _ => .throw _

theorem carrRead_stays {F : List Area} (dbg : Bool) (a n : Nat)
    (hF : [.fresh, .eccWb, .regs, .evTick, .events, .heatCnt, .heatDue, .slots, .badPorts] ⊆ F := by decide) :
    Stays F (carrRead dbg a n) := by
  unfold carrRead
  refine .mono (G := [.fresh, .eccWb, .regs, .evTick, .events, .heatCnt, .heatDue, .slots, .badPorts]) ?_ hF
  refine .bind (carrWords_stays ..) fun _ => ?_
  refine .foldlM (fun _ _ => ?_) _ _
  split
  · exact .pure _
  · exact .bind (.modify fun _ => capture_within (.refl _) ..) fun _ => .throw _

theorem carrPutWord_stays {F : List Area} (dbg : Bool) (a : Nat) (w : Word)
    (hF : [.fresh, .mem, .eccWb, .regs, .evTick, .events, .heatCnt, .heatDue, .slots, .badPorts] ⊆ F := by decide) :
    Stays F (carrPutWord dbg a w) := by
  refine .mono (G := [.fresh, .mem, .eccWb, .regs, .evTick, .events, .heatCnt, .heatDue, .slots, .badPorts]) ?_ hF
  unfold carrPutWord
  refine StaysAt.get_then fun s => ?_
  split
  · split
    · exact .set_last (.rset (.refl s) _ _ _ (by decide))
    · exact .of_stays (.pure _)
  · split
    · exact .set_last (putFor_within (.refl s) ..)
    · exact .set_then (memMiss_within (.refl s) ..) fun _ => .throw _

theorem carrWrite_stays {F : List Area} (dbg : Bool) (a : Nat) (l : List (BitVec 8))
    (hF : [.fresh, .mem, .eccWb, .regs, .evTick, .events, .heatCnt, .heatDue, .slots, .badPorts] ⊆ F := by decide) :
    Stays F (carrWrite dbg a l) := by
  unfold carrWrite
  exact .mono (G := [.fresh, .mem, .eccWb, .regs, .evTick, .events, .heatCnt, .heatDue, .slots, .badPorts]) (.ite (.bind
      (.throw _) fun _ => .forM (fun _ => carrPutWord_stays ..) _) (.forM (fun _ => carrPutWord_stays ..) _)) hF

theorem rngFailed_within {F : List Area} {s t : State} (h : Within F s t) (d : BitVec 3)
    (hF : [.boot] ⊆ F := by decide) : Within F s (rngFailed t d) := by
  unfold rngFailed
  refine .after (t := t) ?_ hF h
  dsimp only
  split
  · exact Within.setBoot (.refl _) _ (by decide)
  · exact Within.setBoot (.refl _) _ (by decide)

theorem randomUse_stays {F : List Area} (rng : Bool)
    (hF : [.fresh, .boot] ⊆ F := by decide) : Stays F (randomUse rng) := by
  refine .mono (G := [.fresh, .boot]) ?_ hF
  unfold randomUse
  refine .ite (.pure _) ?_
  exact StaysAt.get_then fun s => .set_then (rngFailed_within (.setFresh (.refl s) _ (by decide)) ..) fun _ => .throw _

theorem cmdAttest_stays {F : List Area} (dbg rng : Bool) (a : Nat)
    (hF : [.fresh, .mem, .eccWb, .regs, .evTick, .events, .heatCnt, .heatDue, .slots, .badPorts, .boot] ⊆ F := by decide) :
    Stays F (cmdAttest dbg rng a) := by
  refine .mono (G := [.fresh, .mem, .eccWb, .regs, .evTick, .events, .heatCnt, .heatDue, .slots, .badPorts, .boot]) ?_ hF
  unfold cmdAttest
  refine .bind (carrRead_stays ..) fun _ => .bind (randomUse_stays ..) fun _ => ?_
  exact StaysAt.get_then fun s => .set_then (.setFresh (.refl s) _ (by decide)) fun _ => carrWrite_stays ..

theorem cmdIdkey_stays {F : List Area} (dbg : Bool) (a : Nat)
    (hF : [.fresh, .mem, .eccWb, .regs, .evTick, .events, .heatCnt, .heatDue, .slots, .badPorts] ⊆ F := by decide) :
    Stays F (cmdIdkey dbg a) := by
  unfold cmdIdkey
  exact .mono (G := [.fresh, .mem, .eccWb, .regs, .evTick, .events, .heatCnt, .heatDue, .slots, .badPorts]) (.bind .get
      fun _ => carrWrite_stays ..) hF

theorem cmdChal_stays {F : List Area} (dbg rng : Bool) (a : Nat)
    (hF : [.fresh, .mem, .eccWb, .regs, .evTick, .events, .heatCnt, .heatDue, .slots, .badPorts, .boot,
        .carr] ⊆ F := by decide) :
    Stays F (cmdChal dbg rng a) := by
  refine .mono (G := [.fresh, .mem, .eccWb, .regs, .evTick, .events, .heatCnt, .heatDue, .slots, .badPorts, .boot, .carr]) ?_ hF
  unfold cmdChal
  refine .bind (randomUse_stays ..) fun _ => StaysAt.get_then fun s => ?_
  refine .set_then (.setFresh (.refl s) _ (by decide)) fun _ => .bind (carrWrite_stays ..) fun _ => ?_
  exact .modify fun u => .setCarr (.refl u) _ (by decide)

theorem checkNonce_stays {F : List Area} (r : List (BitVec 8))
    (hF : [.carr] ⊆ F := by decide) : Stays F (checkNonce r) := by
  refine .mono (G := [.carr]) ?_ hF
  unfold checkNonce
  refine StaysAt.get_then fun s => ?_
  split
  · exact .of_stays (.throw _)
  · split
    · exact .set_then (.setCarr (.refl s) _ (by decide)) fun _ => .ite (.pure _) (.throw _)
    · exact .of_stays (.throw _)

theorem checkRequest_stays {F : List Area} (op : Nat) (r : List (BitVec 8))
    (hF : [.carr] ⊆ F := by decide) : Stays F (checkRequest op r) := by
  unfold checkRequest
  exact .mono (G := [.carr]) (.bind (checkNonce_stays ..) fun _ => .bind .get fun _ => .ite (.bind (.throw _) fun _ => .ite
      (.bind (.throw _) fun _ => .ite (.throw _) (.pure _)) (.ite (.throw _) (.pure _))) (.ite (.bind (.throw _) fun _ => .ite
      (.throw _) (.pure _)) (.ite (.throw _) (.pure _)))) hF

theorem grantToken_within {F : List Area} {s t : State} (h : Within F s t) (t' : Token)
    (hF : [.safety, .blocks, .vens, .carr] ⊆ F := by decide) : Within F s (grantToken t t') := by
  unfold grantToken
  refine .after (t := t) ?_ hF h
  refine .ite (.refl _) ?_
  refine .ite ?_ ?_
  · refine toProof_within ?_ ..
    dsimp only
    exact Within.setCarr (.refl _) _ (by decide)
  · dsimp only
    exact Within.setCarr (.refl _) _ (by decide)

theorem carrAccepts_stays {F : List Area} (b : Nat)
    (hF : [] ⊆ F := by decide) : Stays F (carrAccepts b) := by
  unfold carrAccepts
  exact .mono (G := []) (.bind .get fun _ => .ite (.pure _) (.throw _)) hF

theorem cmdDbgresp_stays {F : List Area} (dbg : Bool) (a : Nat)
    (hF : [.fresh, .eccWb, .regs, .evTick, .events, .heatCnt, .heatDue, .slots, .badPorts, .safety, .blocks, .vens,
        .carr] ⊆ F := by decide) :
    Stays F (cmdDbgresp dbg a) := by
  unfold cmdDbgresp
  exact .mono (G := [.fresh, .eccWb, .regs, .evTick, .events, .heatCnt, .heatDue, .slots, .badPorts, .safety, .blocks, .vens,
      .carr]) (.bind (carrRead_stays ..) fun _ => .bind (checkRequest_stays ..) fun _ => .bind (carrAccepts_stays ..) fun _ =>
      .modify fun _ => grantToken_within (.refl _) ..) hF

theorem setFuses_within {F : List Area} {s t : State} (h : Within F s t) (f : Fuses → Fuses)
    (hF : [.fuses] ⊆ F := by decide) : Within F s (setFuses t f) := by
  unfold setFuses
  exact .after (t := t) (Within.setFuses (.refl _) _ (by decide)) hF h

theorem setPend_within {F : List Area} {s t : State} (h : Within F s t) (l : Lifecycle)
    (hF : [.boot] ⊆ F := by decide) : Within F s (setPend t l) :=
  .after (t := t) ⟨rfl, id⟩ hF h

theorem lcTransition_within {F : List Area} {s t u : State} (h : Within F s t) {target : Nat}
    (e : lcTransition t target = some u)
    (hF : [.regs, .evTick, .events, .cores, .safety, .lcs, .heldSvc, .boot, .fuses, .reeds, .chans, .voters, .vens,
        .carr] ⊆ F := by decide) : Within F s u := by
  refine .after (t := t) (G := [.regs, .evTick, .events, .cores, .safety, .lcs, .heldSvc, .boot, .fuses, .reeds, .chans,
      .voters, .vens, .carr]) ?_ hF h
  unfold lcTransition at e
  dsimp only at e
  split at e
  · cases e
    exact setPend_within (setFuses_within (.refl t) ..) ..
  · split at e
    · cases e
      exact setPend_within (.setHeldSvc (.refl t) _ (by decide)) ..
    · split at e
      · cases e
        exact mireEnter_within (.setLcs (setFuses_within (.refl t) ..) _ (by decide)) ..
      · cases e

theorem cmdLctrans_stays {F : List Area} (dbg : Bool) (a : Nat)
    (hF : [.fresh, .eccWb, .regs, .evTick, .events, .cores, .heatCnt, .heatDue, .slots, .badPorts, .safety, .lcs, .heldSvc,
        .boot, .fuses, .reeds, .chans, .voters, .vens, .carr] ⊆ F := by decide) :
    Stays F (cmdLctrans dbg a) := by
  refine .mono (G := [.fresh, .eccWb, .regs, .evTick, .events, .cores, .heatCnt, .heatDue, .slots, .badPorts, .safety, .lcs,
      .heldSvc, .boot, .fuses, .reeds, .chans, .voters, .vens, .carr]) ?_ hF
  unfold cmdLctrans
  refine .bind (carrRead_stays ..) fun r => .bind (checkRequest_stays ..) fun _ => (StaysAt.get_then fun s => ?_)
  split
  · exact .of_stays (.throw _)
  · exact .then_set (carrAccepts_stays ..) (lcTransition_within (.refl s) ‹_›)

theorem cmdRevoke_stays {F : List Area} (dbg : Bool) (a : Nat)
    (hF : [.fresh, .eccWb, .regs, .evTick, .events, .heatCnt, .heatDue, .slots, .badPorts, .fuses, .carr] ⊆ F := by decide) :
    Stays F (cmdRevoke dbg a) := by
  refine .mono (G := [.fresh, .eccWb, .regs, .evTick, .events, .heatCnt, .heatDue, .slots, .badPorts, .fuses, .carr]) ?_ hF
  unfold cmdRevoke
  refine .bind (carrRead_stays ..) fun r => .bind (checkRequest_stays ..) fun _ => (StaysAt.get_then fun s => ?_)
  dsimp only
  split
  · exact .throw_then _ _
  · exact .then_set (carrAccepts_stays ..) (setFuses_within (.refl s) ..)

theorem cmdSvnadv_stays {F : List Area}
    (hF : [.fuses] ⊆ F := by decide) : Stays F (cmdSvnadv) := by
  unfold cmdSvnadv
  exact .mono (G := [.fuses]) (.bind (carrAccepts_stays ..) fun _ => .modify fun _ => setFuses_within (.refl _) ..) hF

theorem cmdProvision_stays {F : List Area} (dbg rng : Bool) (a : Nat)
    (hF : [.fresh, .eccWb, .regs, .evTick, .events, .heatCnt, .heatDue, .slots, .badPorts, .lcs, .boot, .fuses,
        .fusesRead] ⊆ F := by decide) :
    Stays F (cmdProvision dbg rng a) := by
  have base : ∀ (u : State) (a b : Fuses) (k : Nat) (l : Lifecycle),
      Within [.fresh, .eccWb, .regs, .evTick, .events, .heatCnt, .heatDue, .slots, .badPorts, .lcs, .boot, .fuses,
          .fusesRead] u { u with fuses := a, fusesRead := b, fresh := k, lcs := l } := fun _ _ _ _ _ => .mono (G := [.fresh,
          .lcs, .fuses, .fusesRead]) ⟨rfl, id⟩ (by decide)
  unfold cmdProvision
  dsimp only
  exact .mono (G := [.fresh, .eccWb, .regs, .evTick, .events, .heatCnt, .heatDue, .slots, .badPorts, .lcs, .boot, .fuses,
      .fusesRead]) (.bind (carrRead_stays ..) fun _ => .ite (.bind (.throw _) fun _ => .bind (randomUse_stays ..) fun _ =>
      .modify fun _ => base _ _ _ _ _) (.bind (randomUse_stays ..) fun _ => .modify fun _ => base _ _ _ _ _)) hF

theorem carrBody_stays {F : List Area} (die : Nat) (st : Stamp) (op a : Nat) (rng : Bool)
    (hF : [.fresh, .mem, .eccWb, .regs, .evTick, .events, .cores, .heatCnt, .heatDue, .slots, .badPorts, .safety, .lcs,
        .heldSvc, .boot, .fuses, .fusesRead, .reeds, .chans, .voters, .blocks, .vens, .carr] ⊆ F := by decide) :
    Stays F (carrBody die st op a rng) := by
  unfold carrBody
  exact .mono (G := [.fresh, .mem, .eccWb, .regs, .evTick, .events, .cores, .heatCnt, .heatDue, .slots, .badPorts, .safety,
      .lcs, .heldSvc, .boot, .fuses, .fusesRead, .reeds, .chans, .voters, .blocks, .vens, .carr]) (.bind .get fun _ => .ite
      (.bind (.throw _) fun _ => .ite (.bind (.throw _) fun _ => .ite (.bind (.throw _) fun _ => .ite (.bind
      (carrAccepts_stays ..) fun _ => cmdAttest_stays ..) (.ite (.bind (carrAccepts_stays ..) fun _ => cmdIdkey_stays ..)
      (.ite (.bind (carrAccepts_stays ..) fun _ => cmdChal_stays ..) (.ite (cmdDbgresp_stays ..) (.ite (.bind
      (carrAccepts_stays ..) fun _ => .modify fun _ => endToken_within (.refl _) ..) (.ite (cmdLctrans_stays ..) (.ite
      (cmdRevoke_stays ..) (.ite (cmdSvnadv_stays ..) (cmdProvision_stays ..))))))))) (.ite (.bind (carrAccepts_stays ..)
      fun _ => cmdAttest_stays ..) (.ite (.bind (carrAccepts_stays ..) fun _ => cmdIdkey_stays ..) (.ite (.bind
      (carrAccepts_stays ..) fun _ => cmdChal_stays ..) (.ite (cmdDbgresp_stays ..) (.ite (.bind (carrAccepts_stays ..)
      fun _ => .modify fun _ => endToken_within (.refl _) ..) (.ite (cmdLctrans_stays ..) (.ite (cmdRevoke_stays ..) (.ite
      (cmdSvnadv_stays ..) (cmdProvision_stays ..)))))))))) (.ite (.bind (.throw _) fun _ => .ite (.bind (carrAccepts_stays
      ..) fun _ => cmdAttest_stays ..) (.ite (.bind (carrAccepts_stays ..) fun _ => cmdIdkey_stays ..) (.ite (.bind
      (carrAccepts_stays ..) fun _ => cmdChal_stays ..) (.ite (cmdDbgresp_stays ..) (.ite (.bind (carrAccepts_stays ..)
      fun _ => .modify fun _ => endToken_within (.refl _) ..) (.ite (cmdLctrans_stays ..) (.ite (cmdRevoke_stays ..) (.ite
      (cmdSvnadv_stays ..) (cmdProvision_stays ..))))))))) (.ite (.bind (carrAccepts_stays ..) fun _ => cmdAttest_stays ..)
      (.ite (.bind (carrAccepts_stays ..) fun _ => cmdIdkey_stays ..) (.ite (.bind (carrAccepts_stays ..) fun _ =>
      cmdChal_stays ..) (.ite (cmdDbgresp_stays ..) (.ite (.bind (carrAccepts_stays ..) fun _ => .modify
      fun _ => endToken_within (.refl _) ..) (.ite (cmdLctrans_stays ..) (.ite (cmdRevoke_stays ..) (.ite (cmdSvnadv_stays ..)
      (cmdProvision_stays ..))))))))))) (.ite (.bind (.throw _) fun _ => .ite (.bind (.throw _) fun _ => .ite (.bind
      (carrAccepts_stays ..) fun _ => cmdAttest_stays ..) (.ite (.bind (carrAccepts_stays ..) fun _ => cmdIdkey_stays ..)
      (.ite (.bind (carrAccepts_stays ..) fun _ => cmdChal_stays ..) (.ite (cmdDbgresp_stays ..) (.ite (.bind
      (carrAccepts_stays ..) fun _ => .modify fun _ => endToken_within (.refl _) ..) (.ite (cmdLctrans_stays ..) (.ite
      (cmdRevoke_stays ..) (.ite (cmdSvnadv_stays ..) (cmdProvision_stays ..))))))))) (.ite (.bind (carrAccepts_stays ..)
      fun _ => cmdAttest_stays ..) (.ite (.bind (carrAccepts_stays ..) fun _ => cmdIdkey_stays ..) (.ite (.bind
      (carrAccepts_stays ..) fun _ => cmdChal_stays ..) (.ite (cmdDbgresp_stays ..) (.ite (.bind (carrAccepts_stays ..)
      fun _ => .modify fun _ => endToken_within (.refl _) ..) (.ite (cmdLctrans_stays ..) (.ite (cmdRevoke_stays ..) (.ite
      (cmdSvnadv_stays ..) (cmdProvision_stays ..)))))))))) (.ite (.bind (.throw _) fun _ => .ite (.bind (carrAccepts_stays
      ..) fun _ => cmdAttest_stays ..) (.ite (.bind (carrAccepts_stays ..) fun _ => cmdIdkey_stays ..) (.ite (.bind
      (carrAccepts_stays ..) fun _ => cmdChal_stays ..) (.ite (cmdDbgresp_stays ..) (.ite (.bind (carrAccepts_stays ..)
      fun _ => .modify fun _ => endToken_within (.refl _) ..) (.ite (cmdLctrans_stays ..) (.ite (cmdRevoke_stays ..) (.ite
      (cmdSvnadv_stays ..) (cmdProvision_stays ..))))))))) (.ite (.bind (carrAccepts_stays ..) fun _ => cmdAttest_stays ..)
      (.ite (.bind (carrAccepts_stays ..) fun _ => cmdIdkey_stays ..) (.ite (.bind (carrAccepts_stays ..) fun _ =>
      cmdChal_stays ..) (.ite (cmdDbgresp_stays ..) (.ite (.bind (carrAccepts_stays ..) fun _ => .modify
      fun _ => endToken_within (.refl _) ..) (.ite (cmdLctrans_stays ..) (.ite (cmdRevoke_stays ..) (.ite (cmdSvnadv_stays ..)
      (cmdProvision_stays ..)))))))))))) hF

theorem carrEnded_within {F : List Area} {s t : State} (h : Within F s t) (was : State) (op r : Nat)
    (hF : [.regs, .evTick, .events, .carr] ⊆ F := by decide) : Within F s (carrEnded was t op r) := by
  have base : Within [.carr] t { t with carr := { t.carr with
      busy := some { op := op, result := r, fusesWere := was.fuses, svcWas := was.heldSvc } } } := ⟨rfl, id⟩
  refine .after (t := t) ?_ hF h
  unfold carrEnded
  exact .ite (capture_within (base.mono (by decide)) ..) (base.mono (by decide))

theorem carrCmd_within {F : List Area} {s t : State} (h : Within F s t) (die : Nat) (st : Stamp) (op a : Nat) (rng : Bool)
    (hF : [.fresh, .mem, .eccWb, .regs, .evTick, .events, .cores, .heatCnt, .heatDue, .slots, .badPorts, .safety, .lcs,
        .heldSvc, .boot, .fuses, .fusesRead, .reeds, .chans, .voters, .blocks, .vens, .carr] ⊆ F := by decide) :
    Within F s (carrCmd t die st op a rng) := by
  unfold carrCmd
  refine .after (t := t) ?_ hF h
  refine .ite (.refl _) ?_
  refine .ite (capture_within (.refl _) ..) ?_
  refine .ite (.refl _) ?_
  split
  · exact carrEnded_within (Stays.ok (carrBody_stays ..) ‹_ = EStateM.Result.ok _ _› (.refl _)) ..
  · exact carrEnded_within (Stays.error (carrBody_stays ..) ‹_ = EStateM.Result.error _ _› (.refl _)) ..

theorem carrStore_within {F : List Area} {s t : State} (h : Within F s t) (die : Nat) (st : Stamp) (op a : Nat)
    (hF : [.fresh, .mem, .eccWb, .regs, .evTick, .events, .cores, .heatCnt, .heatDue, .slots, .badPorts, .safety, .lcs,
        .heldSvc, .boot, .fuses, .fusesRead, .reeds, .chans, .voters, .blocks, .vens, .carr] ⊆ F := by decide) :
    Within F s (carrStore t die st op a) := by
  unfold carrStore
  exact .after (t := t) (.ite (carrCmd_within (Within.setFresh (.refl _) _ (by decide)) ..) (carrCmd_within (.refl _) ..)) hF h

theorem setFlash_within {F : List Area} {s t : State} (h : Within F s t) (i : Nat) (f : Flash)
    (hF : [.flashes] ⊆ F := by decide) : Within F s (setFlash t i f) :=
  .after (t := t) ⟨rfl, id⟩ hF h

theorem flashJudge_within {F : List Area} {s t : State} (h : Within F s t) (i : Nat) (t' : SfdpFacts)
    (hF : [.regs, .evTick, .events, .flashes] ⊆ F := by decide) : Within F s (flashJudge t i t') := by
  unfold flashJudge
  refine .after (t := t) ?_ hF h
  dsimp only
  split
  · exact setFlash_within (.refl _) ..
  · exact capture_within (.rset (.rset (setFlash_within (.refl _) ..) _ _ _ (by decide)) _ _ _ (by decide)) ..

theorem flashEnd_within {F : List Area} {s t : State} (h : Within F s t) (i result : Nat)
    (hF : [.regs, .evTick, .events] ⊆ F := by decide) : Within F s (flashEnd t i result) := by
  unfold flashEnd
  exact .after (t := t) (irqPend_within (.rset (.refl _) _ _ _ (by decide)) ..) hF h

theorem flcmd_within {F : List Area} {s t : State} (h : Within F s t) (i op e : Nat)
    (hF : [.regs, .evTick, .events, .flashes] ⊆ F := by decide) : Within F s (flcmd t i op e) := by
  unfold flcmd
  refine .after (t := t) ?_ hF h
  refine .ite (.refl _) ?_
  dsimp only
  split
  · exact setFlash_within (.rset (.refl _) _ _ _ (by decide)) ..
  · exact flashEnd_within (.refl _) ..

theorem flashDmaResult_within {F : List Area} {s t : State} (h : Within F s t) (e : DmaErr)
    (hF : [.fresh] ⊆ F := by decide) : Within F s (flashDmaResult t e).2 := by
  unfold flashDmaResult
  refine .after (t := t) ?_ hF h
  split
  · exact .refl _
  · exact .refl _
  · dsimp only
    exact Within.setFresh (.refl _) _ (by decide)

theorem flashSends_within {F : List Area} {s t : State} (h : Within F s t) (i : Nat) (l : List FlashSend)
    (hF : [.flashes] ⊆ F := by decide) : Within F s (flashSends t i l) := by
  unfold flashSends
  exact .after (t := t) (setFlash_within (.refl _) ..) hF h

theorem flashMove_stays {F : List Area} (i : Nat) (j : FlashJob) (octets : List (BitVec 8))
    (hF : [.fresh, .mem, .eccWb, .regs, .evTick, .events, .heatCnt, .heatDue, .slots, .badPorts, .flashes] ⊆ F := by decide) :
    Stays F (flashMove i j octets) := by
  unfold flashMove
  refine .mono (G := [.fresh, .mem, .eccWb, .regs, .evTick, .events, .heatCnt, .heatDue, .slots, .badPorts, .flashes]) ?_ hF
  refine .bind .get fun _ => ?_
  split
  · exact .pure _
  · exact .ite (.bind (.modify fun _ => flashSends_within (.refl _) ..) fun _ => portPutOctets_stays ..) (.ite (.bind
      (portOctets_stays ..) fun _ => .modify fun _ => flashSends_within (.refl _) ..) (.modify fun _ => flashSends_within
      (.refl _) ..))

theorem bootBody_within {F : List Area} {s t : State} (h : Within F s t) (load : Nat) (body : List (BitVec 8))
    (hF : [.mem, .eccWb, .regs, .evTick, .events] ⊆ F := by decide) : Within F s (bootBody t load body) := by
  unfold bootBody
  exact .after (t := t) (.foldl (fun _ _ => memPut_within (memPut_within (.refl _) ..) ..) (.refl _)) hF h

theorem imageCheck_within {F : List Area} {s t : State} (h : Within F s t) (app : Bool) (f : FlashSet)
    (hF : [.mem, .eccWb, .regs, .evTick, .events] ⊆ F := by decide) : Within F s (imageCheck t app f).2 := by
  unfold imageCheck
  refine .after (t := t) ?_ hF h
  dsimp only
  split
  · split
    · exact .ite (bootBody_within (.refl _) ..) (.refl _)
    · split
      · exact .ite (bootBody_within (.refl _) ..) (.refl _)
      · exact .ite (bootBody_within (.refl _) ..) (.refl _)
  · exact .refl _

theorem bootPort_within {F : List Area} {s t : State} (h : Within F s t) (i : Nat) (f : FlashSet)
    (hF : [.regs, .evTick, .events, .flashes] ⊆ F := by decide) : Within F s (bootPort t i f) := by
  unfold bootPort
  exact .after (t := t) (.ite (.rset (flashJudge_within (.rset (.refl _) _ _ _ (by decide)) ..) _ _ _ (by decide))
      (flashJudge_within (.rset (.refl _) _ _ _ (by decide)) ..)) hF h

theorem setRej_within {F : List Area} {s t : State} (h : Within F s t) (k c : Nat)
    (hF : [.boot] ⊆ F := by decide) : Within F s (setRej t k c) :=
  .after (t := t) ⟨rfl, id⟩ hF h

theorem chooseImage_within {F : List Area} {s t : State} (h : Within F s t) (app : Bool) (a b : FlashSet)
    (hF : [.mem, .eccWb, .regs, .evTick, .events, .boot, .flashes] ⊆ F := by decide) :
    Within F s (chooseImage t app a b).2 := by
  unfold chooseImage
  refine .after (t := t) ?_ hF h
  dsimp only
  split
  · exact setRej_within (imageCheck_within (bootPort_within (.refl _) ..) ..) ..
  · exact setRej_within (imageCheck_within (bootPort_within (setRej_within (imageCheck_within (bootPort_within (.refl _) ..)
      ..) ..) ..) ..) ..

theorem agree_within {F : List Area} {s t : State} (h : Within F s t) (c p : Image)
    (hF : [.lcs, .boot] ⊆ F := by decide) : Within F s (agree t c p) := by
  have first : Within [.lcs, .boot] t { t with boot := { t.boot with
      phase := .accepted, carr := some c, app := some p, outcome := outcomeOf c p } } := ⟨rfl, id⟩
  have second : ∀ (u : State) (a : Lifecycle) (b : Boot), Within [.lcs, .boot] u { u with lcs := a, boot := b } :=
      fun _ _ _ => ⟨rfl, id⟩
  refine .after (t := t) ?_ hF h
  unfold agree
  exact .ite (first.trans (second _ _ _)) first

theorem holdInBoot_within {F : List Area} {s t : State} (h : Within F s t)
    (hF : [.boot] ⊆ F := by decide) : Within F s (holdInBoot t) := by
  unfold holdInBoot
  refine .after (t := t) ?_ hF h
  dsimp only
  exact Within.setBoot (.refl _) _ (by decide)

theorem bootImages_within {F : List Area} {s t : State} (h : Within F s t) (a b : FlashSet)
    (hF : [.mem, .eccWb, .regs, .evTick, .events, .lcs, .boot, .flashes] ⊆ F := by decide) : Within F s (bootImages t a b) := by
  refine .after (t := t) ?_ hF h
  have chosen : ∀ {u}, Within [.mem, .eccWb, .regs, .evTick, .events, .lcs, .boot, .flashes] t u → ∀ i, Within [.mem, .eccWb,
      .regs, .evTick, .events, .lcs, .boot, .flashes] t (chooseImage u i a b).2 := fun k i => chooseImage_within k ..
  unfold bootImages
  split
  next s1 e1 => exact holdInBoot_within (.of_snd e1 (chosen (.refl t) _)) ..
  next s1 e1 =>
    have first := Within.of_snd e1 (chosen (.refl t) _)
    split
    next s2 e2 => exact holdInBoot_within (.setBoot (.of_snd e2 (chosen first _)) _ (by decide)) ..
    next s2 e2 => exact agree_within (.of_snd e2 (chosen first _)) ..

theorem writeOffers_within {F : List Area} {s t : State} (h : Within F s t) (c p : Image)
    (hF : [.offers] ⊆ F := by decide) : Within F s (writeOffers t c p) := by
  unfold writeOffers
  exact .after (t := t) (.foldl (fun _ _ => Within.setOffers (.refl _) _ (by decide)) (.refl _)) hF h

theorem bootSets_within {F : List Area} {s t : State} (h : Within F s t) (comp : Nat)
    (hF : [.cores] ⊆ F := by decide) : Within F s (bootSets t comp) := by
  unfold bootSets
  exact .after (t := t) (.foldl (fun _ _ => setCore_within (.refl _) ..) (.refl _)) hF h

theorem releaseFlash_within {F : List Area} {s t : State} (h : Within F s t)
    (hF : [.regs, .flashes] ⊆ F := by decide) : Within F s (releaseFlash t) := by
  unfold releaseFlash
  exact .after (t := t) (.foldl (fun _ _ => rsetf_within (setFlash_within (.refl _) ..) ..) (.refl _)) hF h

theorem sweepExternal_within {F : List Area} {s t : State} (h : Within F s t)
    (hF : [.mem] ⊆ F := by decide) : Within F s (sweepExternal t) := by
  unfold sweepExternal
  exact .after (t := t) (clearTags_within (.refl _) ..) hF h

theorem handover_within {F : List Area} {s t : State} (h : Within F s t) (c p : Image)
    (hF : [.fresh, .mem, .regs, .cores, .boot, .offers, .bootLocks, .flashes] ⊆ F := by decide) :
    Within F s (handover t c p) := by
  refine .after (t := t) ?_ hF h
  have sets : ∀ n, Within [.fresh, .mem, .regs, .cores, .boot, .offers, .bootLocks, .flashes] t (bootSets (sweepExternal
      (newKeys (writeOffers t c p) n)) p.comp0) := fun n =>
    bootSets_within (sweepExternal_within (newKeys_within (writeOffers_within (.refl t) ..) ..) ..) ..
  have base : ∀ (u : State) (l : List Nat) (b : Boot), Within [.fresh, .mem, .regs, .cores, .boot, .offers, .bootLocks,
      .flashes] u { u with bootLocks := l, boot := b } := fun u l b =>
    .setBoot (.setBootLocks (.refl u) l (by decide)) b (by decide)
  unfold handover
  dsimp only
  refine restorePages_within (.after (base _ _ _) (by decide) (releaseFlash_within ?_ ..)) ..
  exact .ite (setCtx_within (sets _) ..) (sets _)

theorem rebuiltBody_within {F : List Area} {s t : State} (h : Within F s t) (p : Image)
    (hF : [.fresh, .eccWb, .regs, .evTick, .events, .heatCnt, .heatDue, .slots, .badPorts] ⊆ F := by decide) :
    Within F s (rebuiltBody t p).2 := by
  unfold rebuiltBody
  refine .after (t := t) ?_ hF h
  split
  · exact .of_snd ‹_ = (_, _)› (physWords_within (.refl _) ..)
  · exact .of_snd ‹_ = (_, _)› (physWords_within (.refl _) ..)

theorem checkerAgrees_within {F : List Area} {s t : State} (h : Within F s t) (p : Image)
    (hF : [.fresh, .eccWb, .regs, .evTick, .events, .heatCnt, .heatDue, .slots, .badPorts] ⊆ F := by decide) :
    Within F s (checkerAgrees t p).2 := by
  unfold checkerAgrees
  refine .after (t := t) ?_ hF h
  split
  · exact .of_snd ‹_ = (_, _)› (rebuiltBody_within (.refl _) ..)
  · exact .of_snd ‹_ = (_, _)› (rebuiltBody_within (.refl _) ..)

theorem finishHandover_within {F : List Area} {s t : State} (h : Within F s t) (c p : Image) (agrees : Bool)
    (hF : [.fresh, .mem, .eccWb, .regs, .evTick, .events, .cores, .heatCnt, .heatDue, .slots, .badPorts, .safety, .boot,
        .offers, .bootLocks, .reeds, .chans, .voters, .blocks, .vens, .flashes, .carr] ⊆ F := by decide) :
    Within F s (finishHandover t c p agrees) := by
  unfold finishHandover
  exact .after (t := t) (.ite (toProof_within (handover_within (checkerAgrees_within (.refl _) ..) ..) ..) (mireEnter_within
      (handover_within (checkerAgrees_within (.refl _) ..) ..) ..)) hF h

theorem setCan_within {F : List Area} {s t : State} (h : Within F s t) (d : Nat) (c : Can)
    (hF : [.cans] ⊆ F := by decide) : Within F s (setCan t d c) :=
  .after (t := t) ⟨rfl, id⟩ hF h

theorem canTxEnd_within {F : List Area} {s t : State} (h : Within F s t) (d a : Nat) (d0 d3 : Word) (status : Nat)
    (hF : [.fresh, .mem, .eccWb, .regs, .evTick, .events, .heatCnt, .heatDue, .slots, .badPorts, .cans] ⊆ F := by decide) :
    Within F s (canTxEnd t d a d0 d3 status) := by
  unfold canTxEnd
  refine .after (t := t) ?_ hF h
  dsimp only
  split
  · exact setCan_within (Stays.ok (.bind (portWrite_stays ..) fun _ => portWrite_stays ..) ‹_ = EStateM.Result.ok _ _›
      (.refl _)) ..
  · exact setCan_within (Stays.error (.bind (portWrite_stays ..) fun _ => portWrite_stays ..) ‹_ = EStateM.Result.error _ _›
      (.refl _)) ..

theorem canAttempt_within {F : List Area} {s t : State} (h : Within F s t) (d a : Nat) (d0 d3 : Word) (f : CanFrame)
    (o : CanOutcome)
    (hF : [.fresh, .mem, .eccWb, .regs, .evTick, .events, .heatCnt, .heatDue, .slots, .badPorts, .cans] ⊆ F := by decide) :
    Within F s (canAttempt t d a d0 d3 f o) := by
  unfold canAttempt
  refine .after (t := t) ?_ hF h
  dsimp only
  split
  · refine .ite ?_ (canTxEnd_within (setCan_within (setCan_within (.refl _) ..) ..) ..)
    split
    · exact canTxEnd_within (Stays.ok (portWrite_stays ..) ‹_ = EStateM.Result.ok _ _› (setCan_within (setCan_within (.refl _)
        ..) ..)) ..
    · exact canTxEnd_within (dmaStatus_within (Stays.error (portWrite_stays ..) ‹_ = EStateM.Result.error _ _› (setCan_within
        (setCan_within (.refl _) ..) ..)) ..) ..
  · exact setCan_within (.refl _) ..
  · exact .ite (canTxEnd_within (setCan_within (.refl _) ..) ..) (setCan_within (.refl _) ..)

theorem canTransmit_within {F : List Area} {s t : State} (h : Within F s t) (d : Nat) (o : CanOutcome)
    (hF : [.fresh, .mem, .eccWb, .regs, .evTick, .events, .heatCnt, .heatDue, .slots, .badPorts, .cans] ⊆ F := by decide) :
    Within F s (canTransmit t d o) := by
  unfold canTransmit
  refine .after (t := t) ?_ hF h
  dsimp only
  split
  · exact setCan_within (Stays.error (.bind (portRead_stays ..) fun _ => .bind (portRead_stays ..) fun _ => .bind
      (portRead_stays ..) fun _ => .pure _) ‹_ = EStateM.Result.error _ _› (.refl _)) ..
  · refine .ite ?_ (setCan_within (Stays.ok (.bind (portRead_stays ..) fun _ => .bind (portRead_stays ..) fun _ => .bind
      (portRead_stays ..) fun _ => .pure _) ‹_ = EStateM.Result.ok _ _› (.refl _)) ..)
    split
    · exact canTxEnd_within (dmaStatus_within (Stays.error (portOctets_stays ..) ‹_ = EStateM.Result.error _ _› (Stays.ok
        (.bind (portRead_stays ..) fun _ => .bind (portRead_stays ..) fun _ => .bind (portRead_stays ..) fun _ =>
        .pure _) ‹_ = EStateM.Result.ok _ _› (.refl _))) ..) ..
    · exact canAttempt_within (Stays.ok (portOctets_stays ..) ‹_ = EStateM.Result.ok _ _› (Stays.ok (.bind (portRead_stays
        ..) fun _ => .bind (portRead_stays ..) fun _ => .bind (portRead_stays ..) fun _ =>
        .pure _) ‹_ = EStateM.Result.ok _ _› (.refl _))) ..

theorem canAbort_within {F : List Area} {s t : State} (h : Within F s t) (d : Nat)
    (hF : [.fresh, .mem, .eccWb, .regs, .evTick, .events, .heatCnt, .heatDue, .slots, .badPorts, .cans] ⊆ F := by decide) :
    Within F s (canAbort t d) := by
  unfold canAbort
  refine .after (t := t) ?_ hF h
  refine .ite ?_ (.refl _)
  dsimp only
  split
  · exact canTxEnd_within (Stays.ok (.bind (portRead_stays ..) fun _ => .bind (portRead_stays ..) fun _ =>
      .pure _) ‹_ = EStateM.Result.ok _ _› (.refl _)) ..
  · exact setCan_within (Stays.error (.bind (portRead_stays ..) fun _ => .bind (portRead_stays ..) fun _ =>
      .pure _) ‹_ = EStateM.Result.error _ _› (.refl _)) ..

theorem canRxGood_within {F : List Area} {s t : State} (h : Within F s t) (d : Nat)
    (hF : [.fresh, .cans] ⊆ F := by decide) : Within F s (canRxGood t d) := by
  unfold canRxGood
  exact .after (t := t) (.ite (setCan_within (Within.setFresh (.refl _) _ (by decide)) ..) (setCan_within (.refl _) ..)) hF h

theorem canRxBad_within {F : List Area} {s t : State} (h : Within F s t) (d k : Nat)
    (hF : [.cans] ⊆ F := by decide) : Within F s (canRxBad t d k) := by
  unfold canRxBad
  exact .after (t := t) (setCan_within (.refl _) ..) hF h

theorem canRxFrame_stays {F : List Area} (d a : Nat) (f : CanFrame) (age : Nat)
    (hF : [.fresh, .mem, .eccWb, .regs, .evTick, .events, .heatCnt, .heatDue, .slots, .badPorts] ⊆ F := by decide) :
    Stays F (canRxFrame d a f age) := by
  unfold canRxFrame
  exact .mono (G := [.fresh, .mem, .eccWb, .regs, .evTick, .events, .heatCnt, .heatDue, .slots, .badPorts]) (.bind
      (portRead_stays ..) fun _ => .bind (portPutOctets_stays ..) fun _ => .bind .get fun _ => .bind (portWrite_stays ..)
      fun _ => .bind (portWrite_stays ..) fun _ => portWrite_stays ..) hF

theorem canRxStop_within {F : List Area} {s t : State} (h : Within F s t) (d : Nat)
    (hF : [.cans] ⊆ F := by decide) : Within F s (canRxStop t d) := by
  unfold canRxStop
  exact .after (t := t) (setCan_within (.refl _) ..) hF h

theorem canRxNext_within {F : List Area} {s t : State} (h : Within F s t) (d : Nat)
    (hF : [.cans] ⊆ F := by decide) : Within F s (canRxNext t d) := by
  unfold canRxNext
  exact .after (t := t) (setCan_within (.refl _) ..) hF h

theorem canDeliver_within {F : List Area} {s t : State} (h : Within F s t) (d : Nat) (f : CanFrame) (age : Nat)
    (hF : [.fresh, .mem, .eccWb, .regs, .evTick, .events, .heatCnt, .heatDue, .slots, .badPorts, .cans] ⊆ F := by decide) :
    Within F s (canDeliver t d f age) := by
  unfold canDeliver
  refine .after (t := t) ?_ hF h
  dsimp only
  split
  · exact canRxStop_within (Stays.error (portRead_stays ..) ‹_ = EStateM.Result.error _ _› (.refl _)) ..
  · refine .ite ?_ (canRxStop_within (Stays.ok (portRead_stays ..) ‹_ = EStateM.Result.ok _ _› (.refl _)) ..)
    split
    · exact canRxNext_within (Stays.ok (canRxFrame_stays ..) ‹_ = EStateM.Result.ok _ _› (Stays.ok (portRead_stays
        ..) ‹_ = EStateM.Result.ok _ _› (.refl _))) ..
    · split
      · exact canRxNext_within (Stays.ok (.bind (portWrite_stays ..) fun _ => portWrite_stays ..) ‹_ = EStateM.Result.ok _ _›
          (dmaStatus_within (Stays.error (canRxFrame_stays ..) ‹_ = EStateM.Result.error _ _› (Stays.ok (portRead_stays
          ..) ‹_ = EStateM.Result.ok _ _› (.refl _))) ..)) ..
      · exact canRxStop_within (Stays.error (.bind (portWrite_stays ..) fun _ => portWrite_stays
          ..) ‹_ = EStateM.Result.error _ _› (dmaStatus_within (Stays.error (canRxFrame_stays
          ..) ‹_ = EStateM.Result.error _ _› (Stays.ok (portRead_stays ..) ‹_ = EStateM.Result.ok _ _› (.refl _))) ..)) ..

theorem canReceive_within {F : List Area} {s t : State} (h : Within F s t) (d : Nat) (f : CanFrame) (age : Nat)
    (hF : [.fresh, .mem, .eccWb, .regs, .evTick, .events, .heatCnt, .heatDue, .slots, .badPorts, .cans] ⊆ F := by decide) :
    Within F s (canReceive t d f age) := by
  unfold canReceive
  exact .after (t := t) (.ite (canDeliver_within (canRxGood_within (.refl _) ..) ..) (canRxGood_within (.refl _) ..)) hF h

theorem putSlot_within {F : List Area} {s t : State} (h : Within F s t) (d i : Nat) (x : Slot)
    (hF : [.reeds] ⊆ F := by decide) : Within F s (putSlot t d i x) := by
  unfold putSlot
  exact .after (t := t) (.setReed (.refl _) _ _ (by decide) fun canon now => .of_ev (now.reed _) rfl) hF h

theorem stageWith_within {F : List Area} {s t : State} (h : Within F s t) (d : Nat) (st : Stamp) (f : Slot → Slot)
    (hF : [.reeds] ⊆ F := by decide) : Within F s (stageWith t d st f) := by
  unfold stageWith
  refine .after (t := t) ?_ hF h
  split
  · exact putSlot_within (.refl _) ..
  · exact .refl _

theorem ins0Store_within {F : List Area} {s t : State} (h : Within F s t) (d : Nat) (st : Stamp) (v : Word)
    (hF : [.reeds] ⊆ F := by decide) : Within F s (ins0Store t d st v) := by
  unfold ins0Store
  exact .after (t := t) (stageWith_within (.refl _) ..) hF h

theorem insStageStore_within {F : List Area} {s t : State} (h : Within F s t) (d : Nat) (st : Stamp) (second : Bool) (v : Word)
    (hF : [.reeds] ⊆ F := by decide) : Within F s (insStageStore t d st second v) := by
  unfold insStageStore
  exact .after (t := t) (stageWith_within (.refl _) ..) hF h

theorem armEntry_within {F : List Area} {s t : State} (h : Within F s t) (d k : Nat) (e : Event)
    (hF : [.reeds, .voters] ⊆ F := by decide) : Within F s (armEntry t d k e) := by
  unfold armEntry
  exact .after (t := t) (.ite (setVoter_within (.setReed (.refl _) _ _ (by decide) fun canon now => .of_ev
      ((now.reed _).put _ _) rfl) ..) (.setReed (.refl _) _ _ (by decide) fun canon now => .of_ev
      ((now.reed _).put _ _) rfl)) hF h

theorem eventSafe_within {F : List Area} {s t : State} (h : Within F s t) (d : Nat) (e : Event) (cause : Nat)
    (hF : [.regs, .evTick, .events, .reeds, .chans, .voters] ⊆ F := by decide) : Within F s (eventSafe t d e cause) := by
  unfold eventSafe
  exact .after (t := t) (.ite (safeEnter_within (.refl _) ..) (.refl _)) hF h

theorem insertEffect_within {F : List Area} {s t : State} (h : Within F s t) (d : Nat) (st : Stamp) (e : Event) (x : Decision)
    (hF : [.regs, .evTick, .events, .reeds, .chans, .voters] ⊆ F := by decide) : Within F s (insertEffect t d st e x).2 := by
  unfold insertEffect
  refine .after (t := t) ?_ hF h
  dsimp only
  split
  · exact .refl _
  · exact eventSafe_within (eventSafe_within (capture_within (retireEntry_within (.refl _) ..) ..) ..) ..
  · exact armEntry_within (.refl _) ..
  · split
    · exact .setReed (.refl _) _ _ (by decide) fun canon now => .of_ev ((now.reed _).put _ _) rfl
    · exact armEntry_within (.refl _) ..

theorem discard_within {F : List Area} {s t : State} (h : Within F s t) (d k : Nat)
    (hF : [.regs, .evTick, .events, .reeds, .chans, .voters] ⊆ F := by decide) : Within F s (discard t d k) := by
  unfold discard
  exact .after (t := t) (eventSafe_within (capture_within (retireEntry_within (.refl _) ..) ..) ..) hF h

theorem discardKey_within {F : List Area} {s t : State} (h : Within F s t) (d key : Nat)
    (hF : [.regs, .evTick, .events, .reeds, .chans, .voters] ⊆ F := by decide) : Within F s (discardKey t d key) := by
  unfold discardKey
  exact .after (t := t) (.foldl (fun _ _ => discard_within (.refl _) ..) (.refl _)) hF h

theorem ins3Store_within {F : List Area} {s t : State} (h : Within F s t) (d : Nat) (st : Stamp) (v : Word)
    (hF : [.regs, .evTick, .events, .reeds, .chans, .voters] ⊆ F := by decide) : Within F s (ins3Store t d st v) := by
  unfold ins3Store
  refine .after (t := t) ?_ hF h
  dsimp only
  split
  · exact .refl _
  · refine .ite (putSlot_within (.refl _) ..) ?_
    split
    · exact putSlot_within (insertEffect_within (discardKey_within (.refl _) ..) ..) ..
    · exact putSlot_within (.refl _) ..

theorem expireCancel_within {F : List Area} {s t : State} (h : Within F s t) (d key : Nat)
    (hF : [.regs, .evTick, .events, .reeds, .chans, .voters] ⊆ F := by decide) : Within F s (expireCancel t d key) := by
  unfold expireCancel
  refine .after (t := t) ?_ hF h
  dsimp only
  split
  · exact .refl _
  · split
    · refine eventSafe_within ?_ ..
      refine retireEntry_within ?_ ..
      with_reducible refine .setReed ?_ _ _ (by decide) fun _ now => ?_
      · exact .refl _
      · exact .of_ev (now.reed _) rfl
    · with_reducible refine .setReed ?_ _ _ (by decide) fun _ now => ?_
      · exact .refl _
      · exact .of_ev (now.reed _) rfl

theorem cancelEffect_within {F : List Area} {s t : State} (h : Within F s t) (d : Nat) (st : Stamp) (v : Word)
    (hF : [.regs, .evTick, .events, .reeds, .chans, .voters] ⊆ F := by decide) : Within F s (cancelEffect t d st v).2 := by
  unfold cancelEffect
  refine .after (t := t) ?_ hF h
  dsimp only
  split
  · split
    · exact expireCancel_within (expireCancel_within (.refl _) ..) ..
    · split
      · exact freeEntry_within (expireCancel_within (expireCancel_within (.refl _) ..) ..) ..
      · split
        · exact expireCancel_within (expireCancel_within (.refl _) ..) ..
        · exact .setReed (expireCancel_within (expireCancel_within (.refl _) ..) ..) _ _ (by decide) fun canon now => .of_ev
            (now.reed _) rfl
  · split
    · exact freeEntry_within (.refl _) ..
    · exact .refl _

theorem cancelStore_within {F : List Area} {s t : State} (h : Within F s t) (d : Nat) (st : Stamp) (v : Word)
    (hF : [.regs, .evTick, .events, .reeds, .chans, .voters] ⊆ F := by decide) : Within F s (cancelStore t d st v) := by
  unfold cancelStore
  refine .after (t := t) ?_ hF h
  dsimp only
  split
  · exact .refl _
  · exact putSlot_within (cancelEffect_within (.refl _) ..) ..

theorem insresLoad_within {F : List Area} {s t : State} (h : Within F s t) (d : Nat) (st : Stamp)
    (hF : [.reeds] ⊆ F := by decide) : Within F s (insresLoad t d st).2 := by
  unfold insresLoad
  refine .after (t := t) ?_ hF h
  dsimp only
  split
  · exact .refl _
  · exact putSlot_within (.refl _) ..

theorem dispatch_within {F : List Area} {s t : State} (h : Within F s t) (d k : Nat)
    (hF : [.regs, .evTick, .events, .reeds, .chans, .voters] ⊆ F := by decide) : Within F s (dispatch t d k) := by
  unfold dispatch
  exact .after (t := t) (.ite (eventSafe_within (retireEntry_within (.refl _) ..) ..) (.ite (retireEntry_within (.refl _) ..)
      (.setReed (.refl _) _ _ (by decide) fun canon now => .of_ev ((now.reed _).put _ _) rfl))) hF h

theorem afterFiring_within {F : List Area} {s t : State} (h : Within F s t) (d k : Nat)
    (hF : [.regs, .evTick, .events, .reeds, .chans, .voters] ⊆ F := by decide) : Within F s (afterFiring t d k) := by
  unfold afterFiring
  exact .after (t := t) (.ite (.refl _) (.ite (freeEntry_within (.refl _) ..) (.ite (dispatch_within (.setReed (.refl _) _ _
      (by decide) fun canon now => .of_ev ((now.reed _).put _ _) rfl) ..) (.setReed (.refl _) _ _ (by decide) fun canon now =>
      .of_ev ((now.reed _).put _ _) rfl)))) hF h

theorem lateEdge_within {F : List Area} {s t : State} (h : Within F s t) (d k m : Nat)
    (hF : [.regs, .evTick, .events] ⊆ F := by decide) : Within F s (lateEdge t d k m) := by
  unfold lateEdge
  exact .after (t := t) (.ite (irqPend_within (rinc_within (capture_within (.refl _) ..) ..) ..) (.refl _)) hF h

theorem drive_within {F : List Area} {s t : State} (h : Within F s t) (d k m : Nat) {f : State → State}
    (hf : ∀ u, Within F u (f u)) (hF : [.fresh, .regs, .evTick, .events, .chans] ⊆ F := by decide) : Within F s
        (drive t d k m f) := by
  have tail : ∀ u : State, Within [.fresh, .regs, .evTick, .events, .chans] u
      (applyGd (if gdWanted u m != (chan u m).gdNext then lateEdge u d k m else u) m) :=
    fun u => applyGd_within (.ite (lateEdge_within (.refl u) ..) (.refl u)) ..
  exact .after (tail (f t)) hF (h.trans (hf t))

theorem fireOutput_within {F : List Area} {s t : State} (h : Within F s t) (d k : Nat) {f : Event → State → State}
    (hf : ∀ e u, Within F u (f e u)) (hF : [.fresh, .regs, .evTick, .events, .reeds, .chans,
        .voters] ⊆ F := by decide) : Within F s (fireOutput t d k f) := by
  have hd : [.fresh, .regs, .evTick, .events, .chans] ⊆ F := fun _ q => hF (by revert q; simp; tauto)
  have gone : Within [.fresh, .regs, .evTick, .events, .reeds, .chans, .voters] t (retireEntry t d k) := retireEntry_within
      (.refl t) ..
  have fired : ∀ e m, Within F s (afterFiring (drive t d k m (f e)) d k) := fun e m =>
    .after (afterFiring_within (.refl _) ..) hF (drive_within h d k m (hf e) hd)
  have none' : ∀ u m c i j, Within [.fresh, .regs, .evTick, .events, .reeds, .chans, .voters] t u → Within F s
      (safeEnter u m c i j) := fun u m c i j q =>
    .after (safeEnter_within q ..) hF h
  unfold fireOutput
  dsimp only
  refine .ite (.after gone hF h) (.ite ?_ (fired _ _))
  split
  · exact none' _ _ _ _ _ (rinc_within gone ..)
  · exact .ite (fired _ _) (none' _ _ _ _ _ gone)

theorem gdonAct_within {F : List Area} {s t : State} (h : Within F s t) (m : Nat)
    (hF : [.chans] ⊆ F := by decide) : Within F s (gdonAct t m) := by
  unfold gdonAct
  exact .after (t := t) (setLit_within (.refl _) ..) hF h

theorem gdoffAct_within {F : List Area} {s t : State} (h : Within F s t) (m k : Nat) (e : Event)
    (hF : [.chans] ⊆ F := by decide) : Within F s (gdoffAct t m k e) := by
  unfold gdoffAct
  exact .after (t := t) (.ite (.ite (setChan_within (.refl _) ..) (setChan_within (.refl _) ..)) (setChan_within
      (setLit_within (.refl _) ..) ..)) hF h

theorem burstAct_within {F : List Area} {s t : State} (h : Within F s t) (m k : Nat) (e : Event)
    (hF : [.chans] ⊆ F := by decide) : Within F s (burstAct t m k e) := by
  unfold burstAct
  exact .after (t := t) (setChan_within (.refl _) ..) hF h

theorem markAct_within {F : List Area} {s t : State} (h : Within F s t) (m : Nat)
    (hF : [.chans] ⊆ F := by decide) : Within F s (markAct t m) := by
  unfold markAct
  exact .after (t := t) (.ite (setChan_within (.refl _) ..) (.ite (setChan_within (.refl _) ..) (.refl _))) hF h

theorem evfifoLoad_within {F : List Area} {s t : State} (h : Within F s t) (d : Nat)
    (hF : [.reeds] ⊆ F := by decide) : Within F s (evfifoLoad t d).2 := by
  unfold evfifoLoad
  refine .after (t := t) ?_ hF h
  dsimp only
  split
  · exact .refl _
  · split
    · exact .refl _
    · exact .setReed (.refl _) _ _ (by decide) fun canon now => .of_ev (now.reed _) rfl

theorem evcnt0Load_within {F : List Area} {s t : State} (h : Within F s t) (d : Nat)
    (hF : [.reeds] ⊆ F := by decide) : Within F s (evcnt0Load t d).2 := by
  unfold evcnt0Load
  exact .after (t := t) (.setReed (.refl _) _ _ (by decide) fun canon now => .of_ev (now.reed _) rfl) hF h

theorem chanDo_within {F : List Area} {s t : State} (h : Within F s t) (m : Nat) {f : State → State}
    (hf : ∀ u, Within F u (f u)) : Within F s (chanDo t m f) := .ite (h.trans (hf t)) h

theorem freeBits_within {F : List Area} {s t : State} (h : Within F s t) (w : Nat)
    (hF : [.fresh] ⊆ F := by decide) : Within F s (freeBits t w).2 := by
  unfold freeBits
  refine .after (t := t) ?_ hF h
  dsimp only
  exact Within.setFresh (.refl _) _ (by decide)

theorem lampSample_within {F : List Area} {s t : State} (h : Within F s t) (m a b : Nat)
    (hF : [.chans] ⊆ F := by decide) : Within F s (lampSample t m a b) := by
  unfold lampSample
  exact .after (t := t) (setChan_within (.refl _) ..) hF h

theorem heaterSample_within {F : List Area} {s t : State} (h : Within F s t) (m a b : Nat)
    (hF : [.chans] ⊆ F := by decide) : Within F s (heaterSample t m a b) := by
  unfold heaterSample
  exact .after (t := t) (setChan_within (.refl _) ..) hF h

theorem genericSample_within {F : List Area} {s t : State} (h : Within F s t) (m a b : Nat)
    (hF : [.chans] ⊆ F := by decide) : Within F s (genericSample t m a b) := by
  unfold genericSample
  exact .after (t := t) (setChan_within (.refl _) ..) hF h

theorem wheelEvent_within {F : List Area} {s t : State} (h : Within F s t) (m : Nat) (dir : Bool) (tt : Nat)
    (hF : [.regs, .evTick, .events, .chans, .blocks] ⊆ F := by decide) : Within F s (wheelEvent t m dir tt) := by
  unfold wheelEvent
  exact .after (t := t) (.ite (irqPend_within (evCount_within (setBlock_within (setChan_within (.refl _) ..) ..) ..) ..)
      (capture_within (setChan_within (.refl _) ..) ..)) hF h

theorem axleSample_within {F : List Area} {s t : State} (h : Within F s t) (m at_ a b : Nat)
    (hF : [.fresh, .regs, .evTick, .events, .chans, .blocks] ⊆ F := by decide) : Within F s (axleSample t m at_ a b) := by
  unfold axleSample
  exact .after (t := t) (.ite (wheelEvent_within (setChan_within (setChan_within (freeBits_within (freeBits_within
      (freeBits_within (freeBits_within (.refl _) ..) ..) ..) ..) ..) ..) ..) (setChan_within (setChan_within (freeBits_within
      (freeBits_within (freeBits_within (freeBits_within (.refl _) ..) ..) ..) ..) ..) ..)) hF h

theorem senseDetect_within {F : List Area} {s t : State} (h : Within F s t) (m a b at_ i : Nat)
    (hF : [.refs] ⊆ F := by decide) : Within F s (senseDetect t m a b at_ i) := by
  unfold senseDetect
  exact .after (t := t) (.ite (.ite (setRef_within (.refl _) ..) (.ite (setRef_within (.refl _) ..) (.refl _))) (.refl _)) hF h

theorem fbSeen_within {F : List Area} {s t : State} (h : Within F s t) (m : Nat) (fb : Bool) (at_ : Nat)
    (hF : [.chans] ⊆ F := by decide) : Within F s (fbSeen t m fb at_) := by
  unfold fbSeen
  exact .after (t := t) (.ite (.refl _) (setChan_within (.refl _) ..)) hF h

theorem dropCycle_within {F : List Area} {s t : State} (h : Within F s t) (m : Nat)
    (hF : [.chans] ⊆ F := by decide) : Within F s (dropCycle t m) := by
  unfold dropCycle
  exact .after (t := t) (.ite (.refl _) (setChan_within (.refl _) ..)) hF h

theorem useSample_within {F : List Area} {s t : State} (h : Within F s t) (g : Nat) (test : Bool) (p : Sample × Nat)
    (hF : [.fresh, .regs, .evTick, .events, .refs, .chans, .blocks] ⊆ F := by decide) : Within F s (useSample t g test p) := by
  unfold useSample
  exact .after (t := t) (.ite (fbSeen_within (.refl _) ..) (.ite (lampSample_within (.foldl (fun _ _ => senseDetect_within
      (.refl _) ..) (dropCycle_within (fbSeen_within (.refl _) ..) ..)) ..) (.ite (heaterSample_within (.foldl
      (fun _ _ => senseDetect_within (.refl _) ..) (dropCycle_within (fbSeen_within (.refl _) ..) ..)) ..) (.ite
      (axleSample_within (.foldl (fun _ _ => senseDetect_within (.refl _) ..) (dropCycle_within (fbSeen_within (.refl _) ..)
      ..)) ..) (.ite (genericSample_within (.foldl (fun _ _ => senseDetect_within (.refl _) ..) (dropCycle_within
      (fbSeen_within (.refl _) ..) ..)) ..) (.foldl (fun _ _ => senseDetect_within (.refl _) ..) (dropCycle_within
      (fbSeen_within (.refl _) ..) ..))))))) hF h

theorem ringWrite_within {F : List Area} {s t : State} (h : Within F s t) (g : Nat) (test : Bool) (xs : List Sample)
    (hF : [.fresh, .mem, .eccWb, .regs, .evTick, .events, .heatCnt, .heatDue, .slots, .badPorts, .blocks] ⊆ F := by decide) :
    Within F s (ringWrite t g test xs) := by
  unfold ringWrite
  exact .after (t := t) (.ite (setBlock_within (.foldl (fun _ _ => .ite (putFor_within (.refl _) ..) (capture_within
      (memMiss_within (.refl _) ..) ..)) (.refl _)) ..) (.refl _)) hF h

theorem judgeTest_within {F : List Area} {s t : State} (h : Within F s t) (g : Nat) (xs : List Sample)
    (hF : [.regs, .evTick, .events, .blocks] ⊆ F := by decide) : Within F s (judgeTest t g xs) := by
  unfold judgeTest
  exact .after (t := t) (.ite (setBlock_within (.refl _) ..) (capture_within (setBlock_within (.refl _) ..) ..)) hF h

theorem selftestReq_within {F : List Area} {s t : State} (h : Within F s t) (g : Nat)
    (hF : [.regs, .evTick, .events, .blocks] ⊆ F := by decide) : Within F s (selftestReq t g) := by
  unfold selftestReq
  exact .after (t := t) (.ite (setBlock_within (.refl _) ..) (captureAt_within (.refl _) ..)) hF h

theorem axevLoad_within {F : List Area} {s t : State} (h : Within F s t) (g : Nat)
    (hF : [.blocks] ⊆ F := by decide) : Within F s (axevLoad t g).2 := by
  unfold axevLoad
  refine .after (t := t) ?_ hF h
  dsimp only
  split
  · exact .refl _
  · split
    · exact .refl _
    · exact setBlock_within (.refl _) ..

theorem judgeLamp_within {F : List Area} {s t : State} (h : Within F s t) (m : Nat)
    (hF : [.regs, .evTick, .events, .reeds, .chans, .voters] ⊆ F := by decide) : Within F s (judgeLamp t m) := by
  unfold judgeLamp
  exact .after (t := t) (.ite (setChan_within (.refl _) ..) (.ite (setChan_within (.refl _) ..) (.ite (.refl _) (.ite
      (setChan_within (.refl _) ..) (.ite (setChan_within (.refl _) ..) (.ite (safeEnter_within (irqPend_within
      (setChan_within (.refl _) ..) ..) ..) (irqPend_within (setChan_within (.refl _) ..) ..))))))) hF h

theorem cycleEnd_within {F : List Area} {s t : State} (h : Within F s t) (m : Nat)
    (hF : [.regs, .evTick, .events, .reeds, .chans, .voters] ⊆ F := by decide) : Within F s (cycleEnd t m) := by
  unfold cycleEnd
  exact .after (t := t) (.ite (judgeLamp_within (.refl _) ..) (.ite (setChan_within (.refl _) ..) (setChan_within (.refl _)
      ..))) hF h

theorem chanRefuse_within {F : List Area} {s t : State} (h : Within F s t) (m cause : Nat)
    (hF : [.regs, .evTick, .events] ⊆ F := by decide) : Within F s (chanRefuse t m cause) := by
  unfold chanRefuse
  exact .after (t := t) (capture_within (.refl _) ..) hF h

theorem reconfigured_within {F : List Area} {s t : State} (h : Within F s t) (s0 : State) (m : Nat)
    (hF : [.chans] ⊆ F := by decide) : Within F s (reconfigured s0 t m) := by
  unfold reconfigured
  exact .after (t := t) (.ite (gdTo_within (setChan_within (.refl _) ..) ..) (setChan_within (.refl _) ..)) hF h

theorem chcfgStore_within {F : List Area} {s t : State} (h : Within F s t) (m : Nat) (v : Word)
    (hF : [.regs, .evTick, .events, .chans] ⊆ F := by decide) : Within F s (chcfgStore t m v) := by
  unfold chcfgStore
  exact .after (t := t) (unlessLocked_within (.refl _) _ _ fun _ => .ite (reconfigured_within (writeFields_within (.refl _)
      ..) ..) (chanRefuse_within (.refl _) ..)) hF h

theorem p0Store_within {F : List Area} {s t : State} (h : Within F s t) (m : Nat) (v : Word)
    (hF : [.regs, .evTick, .events] ⊆ F := by decide) : Within F s (p0Store t m v) := by
  unfold p0Store
  exact .after (t := t) (unlessLocked_within (.refl _) _ _ fun _ => .ite (chanRefuse_within (.refl _) ..) (writeFields_within
      (.refl _) ..)) hF h

theorem relReq_within {F : List Area} {s t : State} (h : Within F s t) (m : Nat)
    (hF : [.regs, .evTick, .events, .chans] ⊆ F := by decide) : Within F s (relReq t m) := by
  unfold relReq
  exact .after (t := t) (.ite (chanRefuse_within (.refl _) ..) (.ite (.refl _) (.ite (safeLeave_within (.refl _) ..)
      (chanRefuse_within (.refl _) ..)))) hF h

theorem gdReq_within {F : List Area} {s t : State} (h : Within F s t) (m v : Nat)
    (hF : [.fresh, .regs, .evTick, .events, .chans] ⊆ F := by decide) : Within F s (gdReq t m v) := by
  unfold gdReq
  exact .after (t := t) (.ite (.refl _) (.ite (chanRefuse_within (.refl _) ..) (applyGd_within (setChan_within (setLit_within
      (.refl _) ..) ..) ..))) hF h

theorem chctlStore_within {F : List Area} {s t : State} (h : Within F s t) (m : Nat) (v : Word)
    (hF : [.fresh, .regs, .evTick, .events, .reeds, .chans, .voters] ⊆ F := by decide) : Within F s (chctlStore t m v) := by
  unfold chctlStore
  exact .after (t := t) (gdReq_within (.ite (relReq_within (.ite (safeEnter_within (.refl _) ..) (.refl _)) ..) (.ite
      (safeEnter_within (.refl _) ..) (.refl _))) ..) hF h

theorem m1Load_within {F : List Area} {s t : State} (h : Within F s t) (m : Nat)
    (hF : [.chans] ⊆ F := by decide) : Within F s (m1Load t m).2 := by
  unfold m1Load
  refine .after (t := t) ?_ hF h
  dsimp only
  split
  · exact setChan_within (.refl _) ..
  · split
    · exact .refl _
    · split
      · exact .refl _
      · split
        · exact .refl _
        · exact .refl _

theorem chanReset_within {F : List Area} {s t : State} (h : Within F s t) (g j : Nat)
    (hF : [.regs, .evTick, .events, .chans] ⊆ F := by decide) : Within F s (chanReset t g j) := by
  refine .after (t := t) ?_ hF h
  unfold chanReset
  dsimp only
  refine unlessLocked_within (.refl t) _ _ fun u => ?_
  refine .foldl (fun _ _ => reconfigured_within (.refl _) ..) ?_
  exact .setRegs (.refl u) _ (by decide) fun c => kwf_kkeep _ _ _ c

theorem burstEdge_within {F : List Area} {s t : State} (h : Within F s t) (m : Nat) (x : Int × Bool × Armed)
    (hF : [.fresh, .regs, .evTick, .events, .chans] ⊆ F := by decide) : Within F s (burstEdge t m x) := by
  unfold burstEdge
  exact .after (t := t) (drive_within (.refl _) _ _ _ fun _ => setChan_within (.refl _) ..) hF h

theorem burstEdges_within {F : List Area} {s t : State} (h : Within F s t) (m : Nat)
    (hF : [.fresh, .regs, .evTick, .events, .chans] ⊆ F := by decide) : Within F s (burstEdges t m) := by
  unfold burstEdges
  exact .after (t := t) (.foldl (fun _ _ => burstEdge_within (.refl _) ..) (.refl _)) hF h

theorem setEmp_within {F : List Area} {s t : State} (h : Within F s t) (i : Nat) (e : Emp)
    (hF : [.emps] ⊆ F := by decide) : Within F s (setEmp t i e) :=
  .after (t := t) ⟨rfl, id⟩ hF h

theorem empJudge_within {F : List Area} {s t : State} (h : Within F s t) (i : Nat) (ok : Bool) (channel : Nat)
    (hF : [.regs, .evTick, .events, .emps] ⊆ F := by decide) : Within F s (empJudge t i ok channel) := by
  unfold empJudge
  exact .after (t := t) (.ite (setEmp_within (.refl _) ..) (capture_within (.rset (setEmp_within (.refl _) ..) _ _ _
      (by decide)) ..)) hF h

theorem scrubWord_within {F : List Area} {s t : State} (h : Within F s t) (a : Nat)
    (hF : [.mem, .eccWb, .regs, .evTick, .events] ⊆ F := by decide) : Within F s (scrubWord t a) := by
  unfold scrubWord
  refine .after (t := t) ?_ hF h
  dsimp only
  split
  · exact .refl _
  · exact eccCorrected_within (Within.setEccWb (.mset (.refl _) _ _ (by decide)) _ (by decide)) ..
  · exact eccLost_within (.refl _) ..

theorem scrubBurst_within {F : List Area} {s t : State} (h : Within F s t) (i : Nat)
    (hF : [.mem, .eccWb, .regs, .evTick, .events, .emps] ⊆ F := by decide) : Within F s (scrubBurst t i) := by
  unfold scrubBurst
  exact .after (t := t) (setEmp_within (.foldl (fun _ _ => scrubWord_within (.refl _) ..) (.refl _)) ..) hF h

theorem dropLaneC_within {F : List Area} {s t : State} (h : Within F s t) (s0 : State) (g : Nat)
    (hF : [.voters] ⊆ F := by decide) : Within F s (dropLaneC s0 t g) := by
  unfold dropLaneC
  exact .after (t := t) (.ite (setVoter_within (.refl _) ..) (.refl _)) hF h

theorem receiptWord_within {F : List Area} {s : State} (g : Nat) {r : Bool × State} (h : Within F s r.2) (w : Nat × Word × Bool)
    (hF : [.fresh, .mem, .eccWb, .regs, .evTick, .events, .heatCnt, .heatDue, .slots, .badPorts] ⊆ F := by decide) :
    Within F s (receiptWord g r w).2 := by
  unfold receiptWord
  dsimp only
  split
  · exact putFor_within h _ _ _ _ (List.Subset.trans (by decide) hF)
  · have miss : Within F s (memMiss r.2 (g / 4) (w.1 % 2 ^ 30)) := memMiss_within h _ _ (List.Subset.trans (by decide) hF)
    split
    · exact miss
    · exact capture_within miss _ _ _ (List.Subset.trans (by decide) hF)

theorem receiptWords_within {F : List Area} {s : State} (g : Nat) (l : List (Nat × Word × Bool)) {r : Bool × State}
    (h : Within F s r.2) (hF : [.fresh, .mem, .eccWb, .regs, .evTick, .events, .heatCnt, .heatDue, .slots,
        .badPorts] ⊆ F := by decide) : Within F s (l.foldl (receiptWord g) r).2 := by
  induction l generalizing r with
  | nil => exact h
  | cons w l ih => exact ih (receiptWord_within g h w hF)

theorem writeReceipt_within {F : List Area} {s t : State} (h : Within F s t) (g : Nat) (c : Commit) (l : Nat)
    (hF : [.fresh, .mem, .eccWb, .regs, .evTick, .events, .heatCnt, .heatDue, .slots, .badPorts] ⊆ F := by decide) :
    Within F s (writeReceipt t g c l) := by
  refine .after (t := t) ?_ hF h
  unfold writeReceipt
  dsimp only
  split
  · exact .rset (receiptWords_within g _ (r := (false, t)) (.refl t)) _ _ _ (by decide)
  · exact .refl t

theorem dissent_within {F : List Area} {s t : State} (h : Within F s t) (g m lane : Nat)
    (hF : [.regs, .evTick, .events] ⊆ F := by decide) : Within F s (dissent t g m lane) := by
  unfold dissent
  exact .after (t := t) (irqPend_within (capture_within (rinc_within (.refl _) ..) ..) ..) hF h

theorem sluiceSafe_within {F : List Area} {s t : State} (h : Within F s t) (m cause : Nat) (key : BitVec 12) (lanes : Nat)
    (hF : [.regs, .evTick, .events, .reeds, .chans, .voters, .vens] ⊆ F := by decide) :
    Within F s (sluiceSafe t m cause key lanes) := by
  unfold sluiceSafe
  exact .after (t := t) (.ite (venMismatch_within (clearVoter_within (safeEnter_within (.ite (rinc_within (.refl _) ..) (.ite
      (rinc_within (.refl _) ..) (.refl _))) ..) ..) ..) (clearVoter_within (safeEnter_within (.ite (rinc_within (.refl _) ..)
      (.ite (rinc_within (.refl _) ..) (.refl _))) ..) ..)) hF h

theorem makeCommit_within {F : List Area} {s t : State} (h : Within F s t) (x : Submit) (w : Window)
    (hF : [.fresh, .mem, .eccWb, .regs, .evTick, .events, .heatCnt, .heatDue, .slots, .badPorts, .voters] ⊆ F := by decide) :
    Within F s (makeCommit t x w) := by
  unfold makeCommit
  exact .after (t := t) (.foldl (fun _ _ => writeReceipt_within (.refl _) ..) (.foldl (fun _ _ => dissent_within (.refl _) ..)
      (irqPend_within (rinc_within (setVoter_within (.refl _) ..) ..) ..))) hF h

theorem joinWindow_within {F : List Area} {s t : State} (h : Within F s t) (x : Submit)
    (hF : [.voters] ⊆ F := by decide) : Within F s (joinWindow t x) := by
  unfold joinWindow
  refine .after (t := t) ?_ hF h
  dsimp only
  split
  · exact setVoter_within (.refl _) ..
  · exact setVoter_within (.refl _) ..

theorem propose_within {F : List Area} {s t : State} (h : Within F s t) (x : Submit)
    (hF : [.fresh, .mem, .eccWb, .regs, .evTick, .events, .heatCnt, .heatDue, .slots, .badPorts, .reeds, .chans, .voters,
        .vens] ⊆ F := by decide) :
    Within F s (propose t x).2 := by
  unfold propose
  refine .after (t := t) ?_ hF h
  dsimp only
  split
  · split
    · exact setVoter_within (.refl _) ..
    · exact dissent_within (setVoter_within (.refl _) ..) ..
  · split
    · exact joinWindow_within (.refl _) ..
    · split
      · exact makeCommit_within (.refl _) ..
      · split
        · dsimp only
          exact sluiceSafe_within (.refl _) ..
        · exact joinWindow_within (.refl _) ..

theorem releaseOp_within {F : List Area} {s t : State} (h : Within F s t) (x : Submit)
    (hF : [.chans, .voters] ⊆ F := by decide) : Within F s (releaseOp t x).2 := by
  unfold releaseOp
  refine .after (t := t) ?_ hF h
  dsimp only
  split
  · split
    · split
      · exact safeLeave_within (setVoter_within (.refl _) ..) ..
      · exact .refl _
    · exact joinWindow_within (.refl _) ..
  · exact joinWindow_within (.refl _) ..

theorem closeWindow_within {F : List Area} {s t : State} (h : Within F s t) (g : Nat) (w : Window)
    (hF : [.regs, .evTick, .events, .reeds, .chans, .voters, .vens] ⊆ F := by decide) : Within F s (closeWindow t g w) := by
  unfold closeWindow
  exact .after (t := t) (.ite (setVoter_within (.refl _) ..) (sluiceSafe_within (setVoter_within (.refl _) ..) ..)) hF h

theorem closeIfPast_within {F : List Area} {s t : State} (h : Within F s t) (x : Submit)
    (hF : [.regs, .evTick, .events, .reeds, .chans, .voters, .vens] ⊆ F := by decide) : Within F s (closeIfPast t x) := by
  unfold closeIfPast
  refine .after (t := t) ?_ hF h
  split
  · exact .ite (closeWindow_within (.refl _) ..) (.refl _)
  · exact .refl _

theorem decideSubmit_within {F : List Area} {s t : State} (h : Within F s t) (x : Submit)
    (hF : [.fresh, .mem, .eccWb, .regs, .evTick, .events, .heatCnt, .heatDue, .slots, .badPorts, .reeds, .chans, .voters,
        .vens] ⊆ F := by decide) :
    Within F s (decideSubmit t x).2 := by
  unfold decideSubmit
  refine .after (t := t) ?_ hF h
  dsimp only
  split
  · exact .refl _
  · split
    · dsimp only
      exact sluiceSafe_within (.refl _) ..
    · split
      · split
        · exact setVoter_within (.refl _) ..
        · exact .refl _
      · split
        · exact releaseOp_within (.refl _) ..
        · exact propose_within (.refl _) ..

theorem putPSlot_within {F : List Area} {s t : State} (h : Within F s t) (g i : Nat) (x : PSlot)
    (hF : [.voters] ⊆ F := by decide) : Within F s (putPSlot t g i x) := by
  unfold putPSlot
  exact .after (t := t) (setVoter_within (.refl _) ..) hF h

theorem markSlot_within {F : List Area} {s t : State} (h : Within F s t) (g l : Nat) (st : Stamp) (on : Bool)
    (hF : [.voters] ⊆ F := by decide) : Within F s (markSlot t g l st on) := by
  unfold markSlot
  exact .after (t := t) (setVoter_within (.refl _) ..) hF h

theorem pargStore_within {F : List Area} {s t : State} (h : Within F s t) (g l : Nat) (st : Stamp) (v : Word)
    (hF : [.voters] ⊆ F := by decide) : Within F s (pargStore t g l st v) := by
  unfold pargStore
  refine .after (t := t) ?_ hF h
  dsimp only
  split
  · exact putPSlot_within (markSlot_within (.refl _) ..) ..
  · exact markSlot_within (.refl _) ..

theorem pcmdStore_within {F : List Area} {s t : State} (h : Within F s t) (g l : Nat) (st : Stamp) (v : Word)
    (hF : [.fresh, .mem, .eccWb, .regs, .evTick, .events, .heatCnt, .heatDue, .slots, .badPorts, .reeds, .chans, .voters,
        .vens] ⊆ F := by decide) :
    Within F s (pcmdStore t g l st v) := by
  unfold pcmdStore
  refine .after (t := t) ?_ hF h
  dsimp only
  split
  · exact capture_within (markSlot_within (markSlot_within (.refl _) ..) ..) ..
  · exact .ite (capture_within (putPSlot_within (decideSubmit_within (closeIfPast_within (markSlot_within (.refl _) ..) ..)
      ..) ..) ..) (putPSlot_within (decideSubmit_within (closeIfPast_within (markSlot_within (.refl _) ..) ..) ..) ..)

theorem presLoad_within {F : List Area} {s t : State} (h : Within F s t) (g l : Nat) (st : Stamp)
    (hF : [.voters] ⊆ F := by decide) : Within F s (presLoad t g l st).2 := by
  unfold presLoad
  refine .after (t := t) ?_ hF h
  dsimp only
  split
  · exact .refl _
  · exact .ite (setVoter_within (.refl _) ..) (putPSlot_within (.refl _) ..)

theorem slcfgStore_within {F : List Area} {s t : State} (h : Within F s t) (g : Nat) (v : Word)
    (hF : [.regs, .evTick, .events] ⊆ F := by decide) : Within F s (slcfgStore t g v) := by
  unfold slcfgStore
  exact .after (t := t) (unlessLocked_within (.refl _) _ _ fun _ => writeFields_within (.refl _) ..) hF h

theorem laneStore_within {F : List Area} {s t : State} (h : Within F s t) (g l : Nat) (v : Word)
    (hF : [.regs, .evTick, .events] ⊆ F := by decide) : Within F s (laneStore t g l v) := by
  unfold laneStore
  exact .after (t := t) (.ite (.refl _) (unlessLocked_within (.refl _) _ _ fun _ => .ite (writeFields_within (.refl _) ..)
      (captureAt_within (.refl _) ..))) hF h

theorem sluiceReset_within {F : List Area} {s t : State} (h : Within F s t) (g : Nat)
    (hF : [.regs, .evTick, .events, .voters] ⊆ F := by decide) : Within F s (sluiceReset t g) := by
  unfold sluiceReset
  exact .after (t := t) (unlessLocked_within (.refl _) _ _ fun _ => .ite (resetPage_within (setVoter_within (.refl _) ..) ..)
      (captureAt_within (.refl _) ..)) hF h

theorem domRefuse_within {F : List Area} {s t : State} (h : Within F s t) (k cause why : Nat)
    (hF : [.regs, .evTick, .events, .doms] ⊆ F := by decide) : Within F s (domRefuse t k cause why) := by
  unfold domRefuse
  exact .after (t := t) (capture_within (setDom_within (.refl _) ..) ..) hF h

theorem domBegin_within {F : List Area} {s t : State} (h : Within F s t) (k : Nat)
    (hF : [.doms] ⊆ F := by decide) : Within F s (domBegin t k) := by
  unfold domBegin
  refine .after (t := t) ?_ hF h
  refine .ite (setDom_within (.refl _) ..) ?_
  refine .ite ?_ (.ite (setDom_within (.refl _) ..) (setDom_within (.refl _) ..))
  dsimp only
  split
  · exact setDom_within (.refl _) ..
  · exact .refl _
  · exact setDom_within (.refl _) ..

theorem domRequest_within {F : List Area} {s t : State} (h : Within F s t) (k r : Nat)
    (hF : [.regs, .evTick, .events, .doms] ⊆ F := by decide) : Within F s (domRequest t k r) := by
  unfold domRequest
  exact .after (t := t) (.ite (setDom_within (.refl _) ..) (.ite (.refl _) (.ite (domRefuse_within (.refl _) ..)
      (domBegin_within (setDom_within (.refl _) ..) ..)))) hF h

theorem bankCleared_within {F : List Area} {s t : State} (h : Within F s t) (k : Nat)
    (hF : [.mem, .eccWb] ⊆ F := by decide) : Within F s (bankCleared t k) := by
  unfold bankCleared
  exact .after (t := t) (.ite (clearWords_within (.refl _) ..) (.refl _)) hF h

theorem empSelfref_within {F : List Area} {s t : State} (h : Within F s t) (k : Nat) (on : Bool)
    (hF : [.emps] ⊆ F := by decide) : Within F s (empSelfref t k on) := by
  unfold empSelfref
  refine .after (t := t) ?_ hF h
  refine .ite ?_ (.refl _)
  dsimp only
  exact Within.setEmps (.refl _) _ (by decide)

theorem retainLogic_within {F : List Area} {s t : State} (h : Within F s t) (k : Nat)
    (hF : [.regs, .emps] ⊆ F := by decide) : Within F s (retainLogic t k) := by
  unfold retainLogic
  exact .after (t := t) (empSelfref_within (clearDoms_within (.refl _) ..) ..) hF h

theorem cwyOff_within {F : List Area} {s t : State} (h : Within F s t) (k : Nat)
    (hF : [.links, .cwys] ⊆ F := by decide) : Within F s (cwyOff t k) := by
  unfold cwyOff
  exact .after (t := t) (.ite (setCwy_within (setLink_within (setLink_within (.refl _) ..) ..) ..) (.refl _)) hF h

theorem domEnter_within {F : List Area} {s t : State} (h : Within F s t) (k : Nat) (dest : Power)
    (hF : [.fresh, .mem, .eccWb, .regs, .evTick, .events, .cores, .heatCnt, .heatDue, .steals, .slots, .badPorts, .doms,
        .sedges, .posts, .sweeps, .chans, .voters, .blocks, .links, .cwys, .eths, .prps, .emps] ⊆ F := by decide) :
    Within F s (domEnter t k dest) := by
  unfold domEnter
  refine .after (t := t) ?_ hF h
  dsimp only
  split
  · exact cwyOff_within (domLogic_within (bankCleared_within (setDom_within (.refl _) ..) ..) ..) ..
  · exact retainLogic_within (setDom_within (.refl _) ..) ..
  · exact .ite (restorePages_within (bankCleared_within (setDom_within (.refl _) ..) ..) ..) (.ite (restorePages_within
      (empSelfref_within (setDom_within (.refl _) ..) ..) ..) (setDom_within (.refl _) ..))
  · exact setDom_within (.refl _) ..

theorem takeHeldEn_within {F : List Area} {s t : State} (h : Within F s t) (k : Nat)
    (hF : [.regs, .evTick, .events, .enHeld] ⊆ F := by decide) : Within F s (takeHeldEn t k) := by
  unfold takeHeldEn
  exact .after (t := t) (.ite (.foldl (fun _ _ => enable_within (.refl _) ..) (Within.setEnHeld (.refl _) _ (by decide)))
      (Within.setEnHeld (.refl _) _ (by decide))) hF h

theorem domArrived_within {F : List Area} {s t : State} (h : Within F s t) (k : Nat) (drained : Bool)
    (hF : [.regs, .evTick, .events, .enHeld, .doms] ⊆ F := by decide) : Within F s (domArrived t k drained) := by
  unfold domArrived
  refine .after (t := t) ?_ hF h
  dsimp only
  split
  · exact domRequest_within (setDom_within (.ite (irqPend_within (.ite (takeHeldEn_within (.refl _) ..) (.refl _)) ..)
      (domBegin_within (.ite (takeHeldEn_within (.refl _) ..) (.refl _)) ..)) ..) ..
  · exact .ite (irqPend_within (.ite (takeHeldEn_within (.refl _) ..) (.refl _)) ..) (domBegin_within (.ite (takeHeldEn_within
      (.refl _) ..) (.refl _)) ..)

theorem domTransition_within {F : List Area} {s t : State} (h : Within F s t) (k : Nat)
    (hF : [.fresh, .mem, .eccWb, .regs, .evTick, .events, .enHeld, .cores, .heatCnt, .heatDue, .steals, .slots, .badPorts,
        .doms, .sedges, .posts, .sweeps, .chans, .voters, .blocks, .links, .cwys, .eths, .prps, .emps] ⊆ F := by decide) :
    Within F s (domTransition t k) := by
  unfold domTransition
  refine .after (t := t) ?_ hF h
  dsimp only
  split
  · exact .ite (domArrived_within (domEnter_within (.refl _) ..) ..) (.refl _)
  · exact .refl _

theorem linkHome_within {F : List Area} {s t : State} (h : Within F s t) (k : Nat)
    (hF : [.links] ⊆ F := by decide) : Within F s (linkHome t k) := by
  unfold linkHome
  exact .after (t := t) (setLink_within (.refl _) ..) hF h

theorem creditsHome_within {F : List Area} {s t : State} (h : Within F s t) (g p : Nat)
    (hF : [.links] ⊆ F := by decide) : Within F s (creditsHome t g p) := by
  unfold creditsHome
  exact .after (t := t) (linkHome_within (.refl _) ..) hF h

theorem drainUnits_within {F : List Area} {s t : State} (h : Within F s t) (k : Nat)
    (hF : [.fresh, .mem, .eccWb, .regs, .evTick, .events, .cores, .heatCnt, .heatDue, .slots, .badPorts, .posts,
        .links] ⊆ F := by decide) :
    Within F s (drainUnits t k) := by
  unfold drainUnits
  exact .after (t := t) (.ite (.ite (ackAll_within (performPosts_within (creditsHome_within (drainAll_within (.refl _) ..) ..)
      ..) ..) (.ite (creditsHome_within (.refl _) ..) (.ite (creditsHome_within (.refl _) ..) (.ite (creditsHome_within
      (creditsHome_within (.refl _) ..) ..) (.refl _))))) (.ite (linkHome_within (linkHome_within (.refl _) ..) ..)
      (.refl _))) hF h

theorem drainDone_within {F : List Area} {s t : State} (h : Within F s t) (k : Nat)
    (hF : [.fresh, .mem, .eccWb, .regs, .evTick, .events, .cores, .heatCnt, .heatDue, .slots, .badPorts, .doms, .posts,
        .links] ⊆ F := by decide) :
    Within F s (drainDone t k) := by
  unfold drainDone
  refine .after (t := t) ?_ hF h
  dsimp only
  split
  · exact setDom_within (drainUnits_within (.refl _) ..) ..
  · exact .refl _

theorem domReset_within {F : List Area} {s t : State} (h : Within F s t) (k : Nat)
    (hF : [.fresh, .mem, .eccWb, .regs, .evTick, .events, .enHeld, .cores, .heatCnt, .heatDue, .steals, .slots, .badPorts,
        .doms, .sedges, .posts, .sweeps, .chans, .voters, .blocks, .links, .cwys, .eths, .prps, .emps] ⊆ F := by decide) :
    Within F s (domReset t k) := by
  unfold domReset
  exact .after (t := t) (.ite (domRefuse_within (.refl _) ..) (domHold_within (.refl _) ..)) hF h

theorem domFields_within {F : List Area} {s t : State} (h : Within F s t) (k : Nat) (v : Word)
    (hF : [.doms] ⊆ F := by decide) : Within F s (domFields t k v) := by
  unfold domFields
  exact .after (t := t) (.ite (setDom_within (.refl _) ..) (.refl _)) hF h

theorem domStore_within {F : List Area} {s t : State} (h : Within F s t) (k : Nat) (v : Word)
    (hF : [.fresh, .mem, .eccWb, .regs, .evTick, .events, .enHeld, .cores, .heatCnt, .heatDue, .steals, .slots, .badPorts,
        .doms, .sedges, .posts, .sweeps, .chans, .voters, .blocks, .links, .cwys, .eths, .prps, .emps] ⊆ F := by decide) :
    Within F s (domStore t k v) := by
  unfold domStore
  exact .after (t := t) (unlessLocked_within (.refl _) _ _ fun _ => .ite (domReset_within (.ite (domFields_within (.refl _)
      ..) (.refl _)) ..) (.ite (domRequest_within (domFields_within (.refl _) ..) ..) (domRefuse_within (.refl _) ..))) hF h

theorem sweepStart_within {F : List Area} {s t : State} (h : Within F s t) (g : Nat)
    (hF : [.regs, .evTick, .events, .sweeps] ⊆ F := by decide) : Within F s (sweepStart t g) := by
  unfold sweepStart
  exact .after (t := t) (.ite (captureAt_within (.refl _) ..) (.ite (captureAt_within (.refl _) ..) (.ite (setSweep_within
      (.refl _) ..) (.rset (setSweep_within (.refl _) ..) _ _ _ (by decide))))) hF h

theorem untagWord_within {F : List Area} {s t : State} (h : Within F s t) (g a : Nat)
    (hF : [.mem, .eccWb, .regs, .evTick, .events, .heatCnt, .heatDue, .slots] ⊆ F := by decide) :
    Within F s (untagWord t g a) := by
  unfold untagWord
  exact .after (t := t) (.mset (Within.setEccWb (noteAccess_within (.refl _) ..) _ (by decide)) _ _ (by decide)) hF h

theorem sweepPair_within {F : List Area} {s t : State} (h : Within F s t) (g : Nat)
    (hF : [.fresh, .mem, .eccWb, .regs, .evTick, .events, .heatCnt, .heatDue, .slots, .badPorts, .sweeps] ⊆ F := by decide) :
    Within F s (sweepPair t g) := by
  unfold sweepPair
  refine .after (t := t) ?_ hF h
  refine .ite (setSweep_within (memMiss_within (.refl _) ..) ..) ?_
  dsimp only
  split
  · refine .ite ?_ (setSweep_within (readFor_within (readFor_within (.refl _) ..) ..) ..)
    refine .ite ?_ ?_
    · refine setSweep_within ?_ ..
      refine untagWord_within ?_ ..
      refine untagWord_within ?_ ..
      split
      · exact readFor_within (readFor_within (.refl _) ..) ..
      · exact revoked_within (readFor_within (readFor_within (.refl _) ..) ..) ..
    · refine setSweep_within ?_ ..
      split
      · exact readFor_within (readFor_within (.refl _) ..) ..
      · exact revoked_within (readFor_within (readFor_within (.refl _) ..) ..) ..
  · exact setSweep_within (readFor_within (readFor_within (.refl _) ..) ..) ..

theorem sweepTurn_within {F : List Area} {s t : State} (h : Within F s t) (g : Nat)
    (hF : [.fresh, .mem, .eccWb, .regs, .evTick, .events, .heatCnt, .heatDue, .slots, .badPorts, .sweeps] ⊆ F := by decide) :
    Within F s (sweepTurn t g) := by
  unfold sweepTurn
  exact .after (t := t) (.ite (sweepPair_within (setSweep_within (.refl _) ..) ..) (setSweep_within (.refl _) ..)) hF h

theorem venWindowEnd_within {F : List Area} {s t : State} (h : Within F s t) (i : Nat)
    (hF : [.vens] ⊆ F := by decide) : Within F s (venWindowEnd t i) := by
  unfold venWindowEnd
  exact .after (t := t) (.ite (.ite (setVen_within (.refl _) ..) (setVen_within (.refl _) ..)) (.refl _)) hF h

theorem kickStore_within {F : List Area} {s t : State} (h : Within F s t) (i : Nat) (st : Stamp) (v : Word)
    (hF : [.regs, .evTick, .events, .vens] ⊆ F := by decide) : Within F s (kickStore t i st v) := by
  unfold kickStore
  exact .after (t := t) (.ite (capture_within (venWindowEnd_within (.refl _) ..) ..) (.ite (venStop_within
      (venWindowEnd_within (.refl _) ..) ..) (.ite (venWindowEnd_within (.refl _) ..) (.ite (setVen_within
      (venWindowEnd_within (.refl _) ..) ..) (setVen_within (venWindowEnd_within (.refl _) ..) ..))))) hF h

theorem venArm_within {F : List Area} {s t : State} (h : Within F s t) (i : Nat)
    (hF : [.regs, .evTick, .events, .vens] ⊆ F := by decide) : Within F s (venArm t i) := by
  unfold venArm
  exact .after (t := t) (.ite (captureAt_within (.refl _) ..) (setVen_within (.refl _) ..)) hF h

theorem venctlStore_within {F : List Area} {s t : State} (h : Within F s t) (i : Nat) (v : Word)
    (hF : [.regs, .evTick, .events, .vens] ⊆ F := by decide) : Within F s (venctlStore t i v) := by
  unfold venctlStore
  exact .after (t := t) (.ite (venStop_within (.refl _) ..) (.ite (venArm_within (.refl _) ..) (.refl _))) hF h

theorem vencfgStore_within {F : List Area} {s t : State} (h : Within F s t) (i : Nat) (v : Word)
    (hF : [.regs, .evTick, .events] ⊆ F := by decide) : Within F s (vencfgStore t i v) := by
  unfold vencfgStore
  exact .after (t := t) (unlessLocked_within (.refl _) _ _ fun _ => .ite (captureAt_within (.refl _) ..) (writeFields_within
      (.refl _) ..)) hF h

theorem featFollow_within {F : List Area} {s t : State} (h : Within F s t) (s0 : State) (pg : Nat)
    (hF : [.regs, .voters] ⊆ F := by decide) : Within F s (featFollow s0 t pg) := by
  unfold featFollow
  exact .after (t := t) (.ite (dropLaneC_within (.rset (.refl _) _ _ _ (by decide)) ..) (.refl _)) hF h

theorem featStore_within {F : List Area} {s t : State} (h : Within F s t) (pg : Nat) (v : Word)
    (hF : [.regs, .evTick, .events, .voters] ⊆ F := by decide) : Within F s (featStore t pg v) := by
  unfold featStore
  exact .after (t := t) (unlessLocked_within (.refl _) _ _ fun _ => .ite (captureAt_within (.refl _) ..) (.ite
      (refuseFeature_within (featFollow_within (.rset (.refl _) _ _ _ (by decide)) ..) ..) (featFollow_within (.rset
      (.refl _) _ _ _ (by decide)) ..))) hF h

theorem bootPage_within {F : List Area} {s t : State} (h : Within F s t) (pg : Nat)
    (hF : [.regs] ⊆ F := by decide) : Within F s (bootPage t pg) := by
  unfold bootPage
  refine .after (t := t) ?_ hF h
  refine .ite ?_ (.refl _)
  split
  · exact .rset (.rset (.rset (.refl _) _ _ _ (by decide)) _ _ _ (by decide)) _ _ _ (by decide)
  · exact .rset (.refl _) _ _ _ (by decide)
  · exact .rset (.refl _) _ _ _ (by decide)
  · exact .refl _

theorem resetPkg_within {F : List Area} {s t : State} (h : Within F s t)
    (hF : [.regs, .links, .cwys] ⊆ F := by decide) : Within F s (resetPkg t) := by
  unfold resetPkg
  exact .after (t := t) (.foldl (fun _ _ => linkOff_within (.refl _) ..) (.rset (.rset (resetPage_within (.refl _) ..) _ _ _
      (by decide)) _ _ _ (by decide))) hF h

theorem resetUnit_within {F : List Area} {s t : State} (h : Within F s t) (pg : Nat) (u : UnitTy)
    (hF : [.reeds, .sweeps, .blocks, .vens, .eths, .prps, .cans, .flashes, .emps] ⊆ F := by decide) :
    Within F s (resetUnit t pg u) := by
  unfold resetUnit
  refine .after (t := t) ?_ hF h
  dsimp only
  split
  · exact setSweep_within (.refl _) ..
  · exact setBlock_within (.refl _) ..
  · exact .setReed (.refl _) _ _ (by decide) fun canon now => .of_ev (now.reed _) rfl
  · exact .setReed (.refl _) _ _ (by decide) fun canon now => .of_ev (now.reed _) rfl
  · exact setVen_within (.refl _) ..
  · exact setEth_within (.refl _) ..
  · exact Within.setPrps (.refl _) _ (by decide)
  · exact setCan_within (.refl _) ..
  · exact setFlash_within (.refl _) ..
  · exact setEmp_within (.refl _) ..
  · exact .refl _

theorem srstPage_within {F : List Area} {s t : State} (h : Within F s t) (pg : Nat)
    (hF : [.regs, .evTick, .events, .enHeld, .refs, .reeds, .sweeps, .chans, .voters, .blocks, .vens, .links, .cwys, .eths,
        .prps, .cans, .flashes, .emps] ⊆ F := by decide) :
    Within F s (srstPage t pg) := by
  unfold srstPage
  refine .after (t := t) ?_ hF h
  dsimp only
  split
  · exact .refl _
  · exact phrefReset_within (.refl _) ..
  · exact ttimeReset_within (.refl _) ..
  · exact sedgeReset_within (.refl _) ..
  · exact sluiceReset_within (.refl _) ..
  · exact chanReset_within (.refl _) ..
  · exact unlessLocked_within (.refl _) _ _ fun _ => resetPkg_within (.refl _) ..
  · exact unlessLocked_within (.refl _) _ _ fun _ => bootPage_within (resetUnit_within (Within.setEnHeld (resetPage_within
      (.refl _) ..) _ (by decide)) ..) ..

theorem ctlFields_within {F : List Area} {s t : State} (h : Within F s t) (pg : Nat) (v : Word)
    (hF : [.regs, .evTick, .events] ⊆ F := by decide) : Within F s (ctlFields t pg v).2 := by
  unfold ctlFields
  refine .after (t := t) ?_ hF h
  dsimp only
  split
  · split
    · exact .refl _
    · split
      · exact .refl _
      · exact captureAt_within (.refl _) ..
  · exact .refl _
  · split
    · dsimp only
      split
      · exact captureAt_within (captureAt_within (.refl _) ..) ..
      · exact captureAt_within (.refl _) ..
    · dsimp only
      split
      · exact captureAt_within (.refl _) ..
      · exact .refl _
  · split
    · dsimp only
      split
      · exact captureAt_within (captureAt_within (.refl _) ..) ..
      · exact captureAt_within (.refl _) ..
    · dsimp only
      split
      · exact captureAt_within (.refl _) ..
      · exact .refl _
  · exact .refl _

theorem ctlFollow_within {F : List Area} {s t : State} (h : Within F s t) (pg : Nat) (held : Word) (wrote : Bool)
    (hF : [.fresh, .mem, .eccWb, .regs, .evTick, .events, .heatCnt, .heatDue, .slots, .badPorts, .eths, .cans, .flashes,
        .emps] ⊆ F := by decide) :
    Within F s (ctlFollow t pg held wrote) := by
  unfold ctlFollow
  refine .after (t := t) ?_ hF h
  dsimp only
  split
  · exact setEth_within (.refl _) ..
  · exact setCan_within (.ite (canAbort_within (.refl _) ..) (.refl _)) ..
  · exact .ite (.refl _) (setFlash_within (.refl _) ..)
  · exact .ite (.refl _) (setEmp_within (.refl _) ..)
  · exact .refl _

theorem ctlEn_within {F : List Area} {s t : State} (h : Within F s t) (pg : Nat) (on : Bool)
    (hF : [.regs, .evTick, .events, .enHeld] ⊆ F := by decide) : Within F s (ctlEn t pg on) := by
  unfold ctlEn
  refine .after (t := t) ?_ hF h
  refine .ite (enable_within (.refl _) ..) ?_
  dsimp only
  exact Within.setEnHeld (.rset (.refl _) _ _ _ (by decide)) _ (by decide)

theorem ctlAct_within {F : List Area} {s t : State} (h : Within F s t) (pg : Nat) (v : Word)
    (hF : [.regs, .evTick, .events, .sweeps, .blocks] ⊆ F := by decide) : Within F s (ctlAct t pg v) := by
  unfold ctlAct
  refine .after (t := t) ?_ hF h
  split
  · exact .ite (sweepStart_within (.refl _) ..) (.refl _)
  · exact .ite (selftestReq_within (.refl _) ..) (.refl _)
  · exact .refl _

theorem ctlStore_within {F : List Area} {s t : State} (h : Within F s t) (pg : Nat) (v : Word)
    (hF : [.fresh, .mem, .eccWb, .regs, .evTick, .events, .enHeld, .heatCnt, .heatDue, .slots, .badPorts, .refs, .reeds,
        .sweeps, .chans, .voters, .blocks, .vens, .links, .cwys, .eths, .prps, .cans, .flashes, .emps] ⊆ F := by decide) :
    Within F s (ctlStore t pg v) := by
  unfold ctlStore
  exact .after (t := t) (.ite (srstPage_within (.refl _) ..) (unlessLocked_within (.refl _) _ _ fun _ => ctlAct_within
      (ctlFollow_within (ctlEn_within (.ite (dropLaneC_within (writeFields_within (ctlFields_within (.refl _) ..) ..) ..)
      (writeFields_within (ctlFields_within (.refl _) ..) ..)) ..) ..) ..)) hF h

theorem excitationFollows_within {F : List Area} {s t : State} (h : Within F s t) (pg : Nat)
    (hF : [.fresh, .chans] ⊆ F := by decide) : Within F s (excitationFollows t pg) := by
  unfold excitationFollows
  exact .after (t := t) (.ite (.foldl (fun _ _ => .ite (applyGd_within (.refl _) ..) (.refl _)) (.refl _)) (.refl _)) hF h

theorem errCountStore_within {F : List Area} {s t : State} (h : Within F s t) (pg : Nat) (v : Word)
    (hF : [.regs] ⊆ F := by decide) : Within F s (errCountStore t pg v) := by
  unfold errCountStore
  exact .after (t := t) (.ite (.rset (.refl _) _ _ _ (by decide)) (.refl _)) hF h

theorem beginTask_within {F : List Area} {s t : State} (h : Within F s t) (d n : Nat) (h' : Nat) (m : Nat) (byCmd : Bool)
    (hF : [.fresh, .sedges] ⊆ F := by decide) : Within F s (beginTask t d n h' m byCmd) := by
  unfold beginTask
  refine .after (t := t) ?_ hF h
  dsimp only
  split
  · exact .setSedge (pickOne_within (.refl _) ..) _ _ (by decide) fun canon now => .of_tables (now.sedge _) rfl rfl
  · exact .refl _

theorem abandonTask_within {F : List Area} {s t : State} (h : Within F s t) (d : Nat)
    (hF : [.sedges] ⊆ F := by decide) : Within F s (abandonTask t d) := by
  unfold abandonTask
  refine .after (t := t) ?_ hF h
  dsimp only
  split
  · exact .setSedge (.refl _) _ _ (by decide) fun canon now => .of_tables (now.sedge _) rfl rfl
  · exact .refl _

theorem readyAbandons_within {F : List Area} {s t : State} (h : Within F s t) (n : Nat) (h' : Nat)
    (hF : [.sedges] ⊆ F := by decide) : Within F s (readyAbandons t n h') := by
  unfold readyAbandons
  refine .after (t := t) ?_ hF h
  refine .foldl (fun _ _ => ?_) (.refl _)
  split
  · exact .ite (abandonTask_within (.refl _) ..) (.refl _)
  · exact .refl _

theorem cmdTmove_within {F : List Area} {s t : State} (h : Within F s t) (d n : Nat) (h' : Nat) (place : Word)
    (hF : [.fresh, .sedges] ⊆ F := by decide) : Within F s (cmdTmove t d n h' place) := by
  unfold cmdTmove
  refine .after (t := t) ?_ hF h
  refine .ite (cmdBusy_within (.refl _) ..) ?_
  dsimp only
  split
  · exact beginTask_within (cmdBusy_within (pickOne_within (.refl _) ..) ..) ..
  · exact cmdBusy_within (.refl _) ..

theorem sedgeCmdStore_within {F : List Area} {s t : State} (h : Within F s t) (d : Nat) (v : Word)
    (hF : [.fresh, .mem, .eccWb, .regs, .evTick, .events, .marks, .heatCnt, .heatDue, .slots, .sedges, .posts,
        .postId] ⊆ F := by decide) :
    Within F s (sedgeCmdStore t d v) := by
  unfold sedgeCmdStore
  refine .after (t := t) ?_ hF h
  refine sedgeCmd_within (.refl _) _ fun _ => ?_
  split
  · exact cmdRegister_within (.refl _) ..
  · exact cmdRelease_within (.refl _) ..
  · exact cmdMove_within (.refl _) ..
  · exact cmdPool_within (.refl _) ..
  · exact cmdReclaim_within (.refl _) ..
  · exact cmdTmove_within (.refl _) ..
  · exact cmdPin_within (.refl _) ..
  · exact .refl _

theorem enter_stays {F : List Area} (n : Nat) (h' : Nat) (t' : Trap) (ret : Cap) (level : Nat)
    (hF : [.fresh, .mem, .eccWb, .regs, .evTick, .events, .cores, .heatCnt, .heatDue, .slots, .badPorts] ⊆ F := by decide) :
    Stays F (enter n h' t' ret level) := by
  unfold enter
  refine .mono (G := [.fresh, .mem, .eccWb, .regs, .evTick, .events, .cores, .heatCnt, .heatDue, .slots, .badPorts]) ?_ hF
  refine .bind (upd_stays fun _ => setCtx_within (drainAll_within (.refl _) ..) ..) fun _ => ?_
  refine .bind ?_ fun _ => ?_
  · refine act_stays fun _ => ?_
    dsimp only
    exact Within.setFresh (.refl _) _ (by decide)
  · refine .bind .get fun _ => ?_
    dsimp only
    split
    · exact .throw _
    · exact .bind (.forM (fun _ => entryWrite_stays ..) _) fun _ => upd_stays fun _ => setCore_within (discardPq_within
        (setCtx_within (.refl _) ..) ..) ..

theorem runEntry_within {F : List Area} {s t : State} (h : Within F s t) (n : Nat) (h' : Nat) (t' : Trap) (ret : Cap)
    (level : Nat)
    {fin : State → State} (hf : ∀ u, Within F u (fin u)) (hF : [.fresh, .mem, .eccWb, .regs, .evTick, .events, .cores,
        .heatCnt, .heatDue, .slots, .badPorts, .safety, .reeds, .chans, .voters, .vens, .carr] ⊆ F := by decide) :
    Within F s (runEntry t n h' t' ret level fin) := by
  have entered : Stays [.fresh, .mem, .eccWb, .regs, .evTick, .events, .cores, .heatCnt, .heatDue, .slots, .badPorts, .safety,
      .reeds, .chans, .voters, .vens, .carr] (enter n h' t' ret level) := enter_stays ..
  unfold runEntry
  split
  · have finished : Within F s (fin _) := (h.trans ((entered.ok ‹_› (.refl t)).mono hF)).trans (hf _)
    exact .ite (irqPend_within finished _ _ (List.Subset.trans (by decide) hF)) finished
  · exact .after (G := [.fresh, .mem, .eccWb, .regs, .evTick, .events, .cores, .heatCnt, .heatDue, .slots, .badPorts, .safety,
      .reeds, .chans, .voters, .vens, .carr]) (mireEnter_within (unentered_within (entered.error ‹_› (.refl t)) ..) ..) hF h
  · exact .after (G := [.fresh, .mem, .eccWb, .regs, .evTick, .events, .cores, .heatCnt, .heatDue, .slots, .badPorts, .safety,
      .reeds, .chans, .voters, .vens, .carr]) (mireEnter_within (unentered_within (entered.error ‹_› (.refl t)) ..) ..) hF h
  · exact .after (G := [.fresh, .mem, .eccWb, .regs, .evTick, .events, .cores, .heatCnt, .heatDue, .slots, .badPorts, .safety,
      .reeds, .chans, .voters, .vens, .carr]) (setCore_within (.refl t) ..) hF h

theorem takeTrap_within {F : List Area} {s t : State} (h : Within F s t) (n : Nat) (h' : Nat) (t' : Trap)
    (hF : [.fresh, .mem, .eccWb, .regs, .evTick, .events, .cores, .heatCnt, .heatDue, .slots, .badPorts, .safety, .reeds,
        .chans, .voters, .vens, .carr] ⊆ F := by decide) :
    Within F s (takeTrap t n h' t') := by
  unfold takeTrap
  exact .after (t := t) (runEntry_within (.refl _) _ _ _ _ _ fun _ => .refl _) hF h

theorem fetchAdded_within {F : List Area} {s t : State} (h : Within F s t) (n pa : Nat)
    (hF : [.fresh] ⊆ F := by decide) : Within F s (fetchAdded t n pa).2 := by
  unfold fetchAdded
  refine .after (t := t) ?_ hF h
  dsimp only
  split
  · split
    · exact .refl _
    · dsimp only
      exact Within.setFresh (.refl _) _ (by decide)
  · split
    · exact .refl _
    · split
      · exact .refl _
      · split
        · exact .refl _
        · exact .refl _

theorem xlatAdded_within {F : List Area} {s t : State} (h : Within F s t) (n va : Nat)
    (hF : [.fresh, .eccWb, .regs, .evTick, .events, .cores, .heatCnt, .heatDue, .slots, .badPorts] ⊆ F := by decide) :
    Within F s (xlatAdded t n va).2.2 := by
  unfold xlatAdded
  refine .after (t := t) ?_ hF h
  dsimp only
  split
  · exact .refl _
  · split
    · split
      · exact .refl _
      · split
        · exact .refl _
        · split
          · exact fetchAdded_within (.refl _) ..
          · exact fetchAdded_within (fetchAdded_within (.refl _) ..) ..
    · exact .refl _

theorem irqLatency_within {F : List Area} {s t : State} (h : Within F s t) (n : Nat) (h' : Nat) (line : Nat)
    (hF : [.fresh, .eccWb, .regs, .evTick, .events, .cores, .heatCnt, .heatDue, .slots, .badPorts] ⊆ F := by decide) :
    Within F s (irqLatency t n h' line).2 := by
  unfold irqLatency
  exact .after (t := t) (fetchAdded_within (xlatAdded_within (.refl _) ..) ..) hF h

theorem switchCtx_within {F : List Area} {s t : State} (h : Within F s t) (n : Nat) (h' : Nat)
    (hF : [.regs, .evTick, .events, .cores] ⊆ F := by decide) : Within F s (switchCtx t n h') := by
  unfold switchCtx
  exact .after (t := t) (.ite (.refl _) (setCore_within (setCtx_within (setCtx_within (discardPq_within (.refl _) ..) ..) ..)
      ..)) hF h

theorem interruptTaken_within {F : List Area} {s t : State} (h : Within F s t) (n : Nat) (h' : Nat) (lat : Nat)
    (hF : [.regs, .evTick, .events, .cores, .sedges] ⊆ F := by decide) : Within F s (interruptTaken n h' lat t) := by
  unfold interruptTaken
  exact .after (t := t) (.rset (setCore_within (switchCtx_within (setCtx_within (readyAbandons_within (setCtx_within (.refl _)
      ..) ..) ..) ..) ..) _ _ _ (by decide)) hF h

theorem takeInterrupt_within {F : List Area} {s t : State} (h : Within F s t) (n : Nat) (h' : Nat) (level line : Nat)
    (hF : [.fresh, .mem, .eccWb, .regs, .evTick, .events, .cores, .heatCnt, .heatDue, .slots, .badPorts, .safety, .reeds,
        .sedges, .chans, .voters, .vens, .carr] ⊆ F := by decide) :
    Within F s (takeInterrupt t n h' level line) := by
  unfold takeInterrupt
  exact .after (t := t) (runEntry_within (irqLatency_within (.refl _) ..) _ _ _ _ _ fun _ => interruptTaken_within (.refl _)
      ..) hF h

theorem wakeContexts_within {F : List Area} {s t : State} (h : Within F s t) (n : Nat)
    (hF : [.cores, .sedges] ⊆ F := by decide) : Within F s (wakeContexts t n) := by
  unfold wakeContexts
  exact .after (t := t) (.ite (.refl _) (.foldl (fun _ _ => .ite (setCtx_within (readyAbandons_within (.refl _) ..) ..)
      (.refl _)) (.refl _))) hF h

theorem takeLate_within {F : List Area} {s t : State} (h : Within F s t) (n : Nat) (h' : Nat)
    (hF : [.fresh, .mem, .eccWb, .regs, .evTick, .events, .cores, .heatCnt, .heatDue, .slots, .badPorts, .safety, .reeds,
        .chans, .voters, .vens, .carr] ⊆ F := by decide) :
    Within F s (takeLate t n h') := by
  unfold takeLate
  refine .after (t := t) ?_ hF h
  dsimp only
  split
  · exact runEntry_within (.refl _) _ _ _ _ _ fun _ => setCtx_within (.refl _) ..
  · exact .refl _

theorem takeDue_within {F : List Area} {s t : State} (h : Within F s t) (n : Nat)
    (hF : [.fresh, .mem, .eccWb, .regs, .evTick, .events, .cores, .heatCnt, .heatDue, .slots, .badPorts, .safety, .reeds,
        .sedges, .chans, .voters, .vens, .carr] ⊆ F := by decide) :
    Within F s (takeDue t n) := by
  unfold takeDue
  refine .after (t := t) ?_ hF h
  split
  · exact takeInterrupt_within (.refl _) ..
  · exact .refl _

theorem byDebug_within {F : List Area} {s t : State} (h : Within F s t) (st : Stamp) (off : Nat) {f : State → State}
    (hf : ∀ u, Within F u (f u)) (hF : [.regs, .evTick, .events] ⊆ F := by decide) : Within F s (byDebug t st off f) :=
  .ite (h.trans (hf t)) (capture_within h _ _ _ hF)

theorem dbgRefuse_within {F : List Area} {s t : State} (h : Within F s t) (n : Nat)
    (hF : [.regs, .evTick, .events] ⊆ F := by decide) : Within F s (dbgRefuse t n) := by
  unfold dbgRefuse
  exact .after (t := t) (capture_within (.refl _) ..) hF h

theorem haltEntry_within {F : List Area} {s t : State} (h : Within F s t) (n : Nat) (h' : Nat)
    (hF : [.fresh, .mem, .eccWb, .regs, .evTick, .events, .cores, .heatCnt, .heatDue, .slots, .badPorts, .safety, .reeds,
        .sedges, .chans, .voters, .vens, .carr] ⊆ F := by decide) :
    Within F s (haltEntry t n h') := by
  unfold haltEntry
  exact .after (t := t) (.ite (.ite (takeLate_within (.refl _) ..) (.ite (takeDue_within (.refl _) ..) (.refl _)))
      (.refl _)) hF h

theorem haltCtx_within {F : List Area} {s t : State} (h : Within F s t) (n : Nat) (h' : Nat)
    (hF : [.fresh, .mem, .eccWb, .regs, .evTick, .events, .cores, .heatCnt, .heatDue, .slots, .badPorts, .safety, .reeds,
        .sedges, .chans, .voters, .vens, .carr] ⊆ F := by decide) :
    Within F s (haltCtx t n h') := by
  unfold haltCtx
  exact .after (t := t) (.ite (dbgRefuse_within (.refl _) ..) (.ite (.refl _) (irqPend_within (setCtx_within (haltEntry_within
      (.refl _) ..) ..) ..))) hF h

theorem stepCtx_within {F : List Area} {s t : State} (h : Within F s t) (n : Nat) (h' : Nat)
    (hF : [.regs, .evTick, .events, .cores] ⊆ F := by decide) : Within F s (stepCtx t n h') := by
  unfold stepCtx
  exact .after (t := t) (.ite (setCtx_within (.refl _) ..) (dbgRefuse_within (.refl _) ..)) hF h

theorem runCtx_within {F : List Area} {s t : State} (h : Within F s t) (n : Nat) (h' : Nat)
    (hF : [.regs, .evTick, .events, .cores] ⊆ F := by decide) : Within F s (runCtx t n h') := by
  unfold runCtx
  exact .after (t := t) (.ite (setCtx_within (.refl _) ..) (dbgRefuse_within (.refl _) ..)) hF h

theorem dbgctl_within {F : List Area} {s t : State} (h : Within F s t) (st : Stamp) (op n : Nat) (h' : Nat)
    (hF : [.fresh, .mem, .eccWb, .regs, .evTick, .events, .cores, .heatCnt, .heatDue, .slots, .badPorts, .safety, .reeds,
        .sedges, .chans, .voters, .vens, .carr] ⊆ F := by decide) :
    Within F s (dbgctl t st op n h') := by
  unfold dbgctl
  exact .after (t := t) (byDebug_within (.refl _) _ _ fun _ => .ite (dbgRefuse_within (.rset (.refl _) _ _ _ (by decide)) ..)
      (.ite (haltCtx_within (.rset (.refl _) _ _ _ (by decide)) ..) (.ite (stepCtx_within (.rset (.refl _) _ _ _ (by decide))
      ..) (.ite (runCtx_within (.rset (.refl _) _ _ _ (by decide)) ..) (.rset (.refl _) _ _ _ (by decide)))))) hF h

theorem regRefuse_within {F : List Area} {s t : State} (h : Within F s t) (i : Nat)
    (hF : [.regs, .evTick, .events] ⊆ F := by decide) : Within F s (regRefuse t i) := by
  unfold regRefuse
  exact .after (t := t) (capture_within (.rset (.refl _) _ _ _ (by decide)) ..) hF h

theorem dbgrdataLoad_within {F : List Area} {s t : State} (h : Within F s t)
    (hF : [.regs, .evTick, .events] ⊆ F := by decide) : Within F s (dbgrdataLoad t).2 := by
  unfold dbgrdataLoad
  refine .after (t := t) ?_ hF h
  dsimp only
  split
  · exact .rset (.refl _) _ _ _ (by decide)
  · exact regRefuse_within (.refl _) ..

theorem dbgrdataStore_within {F : List Area} {s t : State} (h : Within F s t) (st : Stamp) (v : Word)
    (hF : [.regs, .evTick, .events, .cores] ⊆ F := by decide) : Within F s (dbgrdataStore t st v) := by
  unfold dbgrdataStore
  exact .after (t := t) (byDebug_within (.refl _) _ _ fun _ => .ite (.rset (setCtx_within (.refl _) ..) _ _ _ (by decide))
      (regRefuse_within (.refl _) ..)) hF h

theorem frzStore_within {F : List Area} {s t : State} (h : Within F s t) (st : Stamp) (off : Nat) (v : Word)
    (hF : [.fresh, .mem, .eccWb, .regs, .evTick, .events, .cores, .heatCnt, .heatDue, .slots, .badPorts, .safety, .reeds,
        .sedges, .chans, .voters, .vens, .carr] ⊆ F := by decide) :
    Within F s (frzStore t st off v) := by
  unfold frzStore
  exact .after (t := t) (.ite (dbgctl_within (.refl _) ..) (.ite (dbgrdataStore_within (.refl _) ..) (.ite (byDebug_within
      (.refl _) _ _ fun _ => writeFields_within (.refl _) ..) (writeFields_within (.refl _) ..)))) hF h

theorem holdPower_within {F : List Area} {s t : State} (h : Within F s t)
    (hF : (.pins :: Area.ofReset : List Area) ⊆ F := by decide) : Within F s (holdPower t) := by
  unfold holdPower
  refine .after (t := t) ?_ hF h
  refine pkgReset_within ?_ ..
  dsimp only
  exact Within.setPins (.refl _) _ (by decide)

theorem resetBall_within {F : List Area} {s t : State} (h : Within F s t) (p : Pins)
    (hF : [.pins, .chans] ⊆ F := by decide) : Within F s (resetBall t p) := by
  unfold resetBall
  exact .after (t := t) (gdEdges_within (Within.setPins (.refl _) _ (by decide)) ..) hF h

theorem holdSystem_within {F : List Area} {s t : State} (h : Within F s t)
    (hF : (.pins :: Area.ofReset : List Area) ⊆ F := by decide) : Within F s (holdSystem t) := by
  unfold holdSystem
  refine .after (t := t) ?_ hF h
  refine pkgReset_within ?_ ..
  dsimp only
  exact Within.setPins (.refl _) _ (by decide)

theorem bootWhenFree_within {F : List Area} {s t : State} (h : Within F s t)
    (hF : [.regs, .lcs, .heldSvc, .boot, .fuses, .fusesRead, .frozen] ⊆ F := by decide) : Within F s (bootWhenFree t) := by
  unfold bootWhenFree
  exact .after (t := t) (.ite (.refl _) (bootStart_within (.refl _) ..)) hF h

theorem softReset_within {F : List Area} {s t : State} (h : Within F s t)
    (hF : (.lcs :: .fusesRead :: Area.ofReset : List Area) ⊆ F := by decide) : Within F s (softReset t) := by
  unfold softReset
  exact .after (t := t) (bootStart_within (pkgReset_within (.refl _) ..) ..) hF h

theorem srRefuse_within {F : List Area} {s t : State} (h : Within F s t) (info : Nat)
    (hF : [.regs, .evTick, .events] ⊆ F := by decide) : Within F s (srRefuse t info) := by
  unfold srRefuse
  exact .after (t := t) (capture_within (.refl _) ..) hF h

theorem swrstStore_within {F : List Area} {s t : State} (h : Within F s t) (v : Word)
    (hF : (.lcs :: .fusesRead :: Area.ofReset : List Area) ⊆ F := by decide) : Within F s (swrstStore t v) := by
  unfold swrstStore
  exact .after (t := t) (unlessLocked_within (.refl _) _ _ fun _ => .ite (.refl _) (.ite (softReset_within (.refl _) ..)
      (srRefuse_within (.refl _) ..))) hF h

theorem dierstStore_within {F : List Area} {s t : State} (h : Within F s t) (v : Word)
    (hF : (.lcs :: .fusesRead :: Area.ofReset : List Area) ⊆ F := by decide) : Within F s (dierstStore t v) := by
  unfold dierstStore
  exact .after (t := t) (unlessLocked_within (.refl _) _ _ fun _ => .ite (.refl _) (.ite (srRefuse_within (.refl _) ..) (.ite
      (softReset_within (.refl _) ..) (.ite (dieReset_within (.refl _) ..) (.refl _))))) hF h

theorem goAct_within {F : List Area} {s t : State} (h : Within F s t)
    (hF : [.regs, .evTick, .events, .safety] ⊆ F := by decide) : Within F s (goAct t) := by
  unfold goAct
  refine .after (t := t) ?_ hF h
  split
  · exact Within.setSafety (.refl _) _ (by decide)
  · exact srRefuse_within (.refl _) ..

theorem proofAct_within {F : List Area} {s t : State} (h : Within F s t)
    (hF : [.regs, .evTick, .events, .safety, .blocks, .vens] ⊆ F := by decide) : Within F s (proofAct t) := by
  unfold proofAct
  exact .after (t := t) (.ite (toProof_within (.refl _) ..) (srRefuse_within (.refl _) ..)) hF h

theorem srctlStore_within {F : List Area} {s t : State} (h : Within F s t) (v : Word)
    (hF : [.regs, .evTick, .events, .safety, .blocks, .vens] ⊆ F := by decide) : Within F s (srctlStore t v) := by
  unfold srctlStore
  exact .after (t := t) (unlessLocked_within (.refl _) _ _ fun _ => .ite (goAct_within (.ite (proofAct_within (.refl _) ..)
      (.refl _)) ..) (.ite (proofAct_within (.refl _) ..) (.refl _))) hF h

theorem regionReturn_within {F : List Area} {s t : State} (h : Within F s t) (g : Nat)
    (hF : [.regs, .doms, .isol] ⊆ F := by decide) : Within F s (regionReturn t g) := by
  unfold regionReturn
  exact .after (t := t) (restorePages_within (.foldl (fun _ _ => setDom_within (.refl _) ..) (Within.setIsol (.refl _) _
      (by decide))) ..) hF h

theorem regrelStore_within {F : List Area} {s t : State} (h : Within F s t) (v : Word)
    (hF : [.regs, .evTick, .events, .doms, .isol] ⊆ F := by decide) : Within F s (regrelStore t v) := by
  unfold regrelStore
  exact .after (t := t) (unlessLocked_within (.refl _) _ _ fun _ => .ite (.refl _) (.ite (regionReturn_within (.refl _) ..)
      (srRefuse_within (.refl _) ..))) hF h

theorem pageLoad_within {F : List Area} {s t : State} (h : Within F s t) (st : Stamp) (pg off : Nat)
    (hF : [.regs, .evTick, .events, .reeds, .sedges, .chans, .voters, .blocks] ⊆ F := by decide) :
    Within F s (pageLoad t st pg off).2 := by
  unfold pageLoad
  refine .after (t := t) ?_ hF h
  dsimp only
  split
  · exact frames0Load_within (.refl _) ..
  · exact heldmaxLoad_within (.refl _) ..
  · exact evcnt0Load_within (.refl _) ..
  · exact evfifoLoad_within (.refl _) ..
  · exact insresLoad_within (.refl _) ..
  · exact presLoad_within (.refl _) ..
  · exact axevLoad_within (.refl _) ..
  · exact ttLoRead_within (.refl _) ..
  · exact dbgrdataLoad_within (.refl _) ..
  · split
    · exact m1Load_within (.refl _) ..
    · exact .refl _
  · exact .refl _

theorem swpStore_within {F : List Area} {s t : State} (h : Within F s t) (pg off : Nat) (v : Word)
    (hF : [.regs, .evTick, .events] ⊆ F := by decide) : Within F s (swpStore t pg off v) := by
  unfold swpStore
  exact .after (t := t) (.ite (captureAt_within (.refl _) ..) (plainWrite_within (.refl _) ..)) hF h

theorem coreStore_within {F : List Area} {s t : State} (h : Within F s t) (pg n off : Nat) (v : Word)
    (hF : [.fresh, .mem, .eccWb, .regs, .evTick, .events, .cores, .heatCnt, .heatDue, .slots, .badPorts,
        .doms] ⊆ F := by decide) :
    Within F s (coreStore t pg n off v) := by
  unfold coreStore
  refine .after (t := t) ?_ hF h
  split
  · exact pmctlStore_within (.refl _) ..
  · exact tcctlStore_within (.refl _) ..
  · exact dbellStore_within (.refl _) ..
  · exact ctxbindStore_within (.refl _) ..
  · exact plainWrite_within (.refl _) ..

theorem mgateStore_within {F : List Area} {s t : State} (h : Within F s t) (pg n off : Nat) (v : Word)
    (hF : [.regs, .evTick, .events, .cores] ⊆ F := by decide) : Within F s (mgateStore t pg n off v) := by
  unfold mgateStore
  refine .after (t := t) ?_ hF h
  split
  · exact rsloadStore_within (.refl _) ..
  · exact rsdataStore_within (.refl _) ..
  · exact rsctlStore_within (.refl _) ..
  · exact plainWrite_within (.refl _) ..

theorem chanStore_within {F : List Area} {s t : State} (h : Within F s t) (pg off : Nat) (v : Word)
    (hF : [.fresh, .regs, .evTick, .events, .reeds, .chans, .voters] ⊆ F := by decide) : Within F s (chanStore t pg off v) := by
  unfold chanStore
  refine .after (t := t) ?_ hF h
  refine .ite ?_ (plainWrite_within (.refl _) ..)
  split
  · exact chcfgStore_within (.refl _) ..
  · exact chctlStore_within (.refl _) ..
  · exact p0Store_within (.refl _) ..
  · exact plainWrite_within (.refl _) ..

theorem pkgStore_within {F : List Area} {s t : State} (h : Within F s t) (off : Nat) (v : Word)
    (hF : (.lcs :: .fusesRead :: Area.ofReset : List Area) ⊆ F := by decide) : Within F s (pkgStore t off v) := by
  unfold pkgStore
  refine .after (t := t) ?_ hF h
  split
  · exact gatecfgStore_within (.refl _) ..
  · exact stkcfgStore_within (.refl _) ..
  · exact .ite (leaveStack_within (.refl _) ..) (.refl _)
  · exact srctlStore_within (.refl _) ..
  · exact regrelStore_within (.refl _) ..
  · exact swrstStore_within (.refl _) ..
  · exact dierstStore_within (.refl _) ..
  · exact plainWrite_within (.refl _) ..

theorem phrefStore_within {F : List Area} {s t : State} (h : Within F s t) (off : Nat) (v : Word)
    (hF : [.regs, .evTick, .events, .refs, .reeds, .chans, .voters] ⊆ F := by decide) : Within F s (phrefStore t off v) := by
  unfold phrefStore
  refine .after (t := t) ?_ hF h
  refine .ite ?_ (.ite (synStore_within (.refl _) ..) (plainWrite_within (.refl _) ..))
  dsimp only
  split
  · exact refcfgStore_within (.refl _) ..
  · exact synStore_within (.refl _) ..
  · exact .refl _

theorem ttimeStore_within {F : List Area} {s t : State} (h : Within F s t) (off : Nat) (v : Word)
    (hF : [.regs, .evTick, .events, .tt, .ttMarks, .sync, .voters] ⊆ F := by decide) : Within F s (ttimeStore t off v) := by
  unfold ttimeStore
  refine .after (t := t) ?_ hF h
  split
  · exact rateStore_within (.refl _) ..
  · exact stepLoStore_within (.refl _) ..
  · exact stepStore_within (.refl _) ..
  · exact plainWrite_within (.refl _) ..

theorem kickRing_within {F : List Area} {s t : State} (h : Within F s t) (port : PortId) (tx : Bool)
    (hF : [.eths, .cans] ⊆ F := by decide) : Within F s (kickRing t port tx) := by
  unfold kickRing
  refine .after (t := t) ?_ hF h
  dsimp only
  split
  · exact setEth_within (.refl _) ..
  · exact setCan_within (.refl _) ..

theorem portStore_within {F : List Area} {s t : State} (h : Within F s t) (port : PortId) (pg off : Nat) (v : Word)
    (hF : [.regs, .evTick, .events, .eths, .cans] ⊆ F := by decide) : Within F s (portStore t port pg off v) := by
  unfold portStore
  refine .after (t := t) ?_ hF h
  split
  · exact .ite (kickRing_within (.refl _) ..) (.refl _)
  · exact .ite (kickRing_within (.refl _) ..) (.refl _)
  · exact plainWrite_within (.refl _) ..

theorem dsvStore_within {F : List Area} {s t : State} (h : Within F s t) (st : Stamp) (d off : Nat) (v : Word)
    (hF : [.regs, .evTick, .events, .vens] ⊆ F := by decide) : Within F s (dsvStore t st d off v) := by
  unfold dsvStore
  refine .after (t := t) ?_ hF h
  refine .ite (.refl _) ?_
  split
  · exact vencfgStore_within (.refl _) ..
  · exact kickStore_within (.refl _) ..
  · exact venctlStore_within (.refl _) ..
  · exact plainWrite_within (.refl _) ..

theorem reedevStore_within {F : List Area} {s t : State} (h : Within F s t) (st : Stamp) (d off : Nat) (v : Word)
    (hF : [.regs, .evTick, .events, .reeds, .chans, .voters] ⊆ F := by decide) : Within F s (reedevStore t st d off v) := by
  unfold reedevStore
  refine .after (t := t) ?_ hF h
  split
  · exact ins0Store_within (.refl _) ..
  · exact insStageStore_within (.refl _) ..
  · exact insStageStore_within (.refl _) ..
  · exact ins3Store_within (.refl _) ..
  · exact cancelStore_within (.refl _) ..
  · exact plainWrite_within (.refl _) ..

theorem unitStore_within {F : List Area} {s t : State} (h : Within F s t) (st : Stamp) (u : UnitTy) (pg off : Nat) (v : Word)
    (hF : (.lcs :: .fusesRead :: .postId :: Area.ofReset : List Area) ⊆ F := by decide) :
    Within F s (unitStore t st u pg off v) := by
  unfold unitStore
  refine .after (t := t) ?_ hF h
  dsimp only
  split
  · exact dsvStore_within (.refl _) ..
  · exact .ite (domStore_within (.refl _) ..) (.ite (.ite (domStore_within (.refl _) ..) (.refl _)) (plainWrite_within
      (.refl _) ..))
  · exact reedevStore_within (.refl _) ..
  · exact .ite (sedgeCmdStore_within (.refl _) ..) (.ite (compclsStore_within (.refl _) ..) (plainWrite_within (.refl _) ..))
  · exact .ite (carrStore_within (.refl _) ..) (plainWrite_within (.refl _) ..)
  · exact portStore_within (.refl _) ..
  · exact portStore_within (.refl _) ..
  · exact swpStore_within (.refl _) ..
  · exact coreStore_within (.refl _) ..
  · exact mgateStore_within (.refl _) ..
  · exact chanStore_within (.refl _) ..
  · exact .ite (slcfgStore_within (.refl _) ..) (.ite (laneStore_within (.refl _) ..) (plainWrite_within (.refl _) ..))
  · exact .ite (pargStore_within (.refl _) ..) (.ite (pcmdStore_within (.refl _) ..) (plainWrite_within (.refl _) ..))
  · exact pkgStore_within (.refl _) ..
  · exact phrefStore_within (.refl _) ..
  · exact ttimeStore_within (.refl _) ..
  · exact frzStore_within (.refl _) ..
  · exact .ite (flcmd_within (.refl _) ..) (plainWrite_within (.refl _) ..)
  · exact plainWrite_within (.refl _) ..

theorem pageStore_within {F : List Area} {s t : State} (h : Within F s t) (st : Stamp) (pg off : Nat) (v : Word)
    (hF : (.lcs :: .fusesRead :: .postId :: Area.ofReset : List Area) ⊆ F := by decide) :
    Within F s (pageStore t st pg off v) := by
  unfold pageStore
  refine .after (t := t) ?_ hF h
  split
  · exact .refl _
  · split
    · exact featStore_within (.refl _) ..
    · exact ctlStore_within (.refl _) ..
    · exact .ite (errRelease_within (.refl _) ..) (.refl _)
    · exact errCountStore_within (.refl _) ..
    · exact unitStore_within (.refl _) ..

theorem pageStoreHeld_within {F : List Area} {s t : State} (h : Within F s t) (pg off : Nat) (v : Word)
    (hF : [.fresh, .mem, .eccWb, .regs, .evTick, .events, .cores, .heatCnt, .heatDue, .slots, .badPorts,
        .doms] ⊆ F := by decide) :
    Within F s (pageStoreHeld t pg off v) := by
  unfold pageStoreHeld
  refine .after (t := t) ?_ hF h
  split
  · exact ctxbindStore_within (.refl _) ..
  · exact .refl _

theorem requestWaits_within {F : List Area} {s t : State} (h : Within F s t) (st : Stamp) (pg off : Nat)
    (hF : [.cores] ⊆ F := by decide) : Within F s (requestWaits t st pg off) := by
  unfold requestWaits
  exact .after (t := t) (.ite (epochStall_within (.refl _) ..) (.refl _)) hF h

theorem pageRequest_within {F : List Area} {s t : State} (h : Within F s t) (st : Stamp) (addr : Nat) (write : Option Word)
    (k : Kind)
    (hF : (.busReply :: .lcs :: .fusesRead :: .postId :: Area.ofReset : List Area) ⊆ F := by decide) :
    Within F s (pageRequest t st addr write k) := by
  unfold pageRequest
  refine .after (t := t) ?_ hF h
  dsimp only
  split
  · exact .ite (replyWord_within (.refl _) ..) (.refl _)
  · exact unitRequest_within (.refl _) _ _ _ _ fun _ => replyWord_within (pageLoad_within (.refl _) ..) ..
  · exact .ite (.ite (replyWord_within (holdEn_within (.refl _) ..) ..) (replyFault_within (targetCapture_within (.refl _) ..)
      ..)) (.ite (requestWaits_within (pageStoreHeld_within (.refl _) ..) ..) (unitRequest_within (.refl _) _ _ _ _
      fun _ => pageStore_within (.refl _) ..))

theorem remoteRefused_within {F : List Area} {s t : State} (h : Within F s t) (pg : Nat)
    (hF : [.busReply, .regs, .evTick, .events] ⊆ F := by decide) : Within F s (remoteRefused t pg) := by
  unfold remoteRefused
  exact .after (t := t) (replyFault_within (capture_within (.refl _) ..) ..) hF h

theorem memLoad_stays {F : List Area} (n va pa : Nat) (st : Stamp) (k : Kind)
    (hF : [.fresh, .eccWb, .regs, .evTick, .events, .heatCnt, .heatDue, .slots, .badPorts] ⊆ F := by decide) :
    Stays F (memLoad n va pa st k) := by
  unfold memLoad
  refine .mono (G := [.fresh, .eccWb, .regs, .evTick, .events, .heatCnt, .heatDue, .slots, .badPorts]) ?_ hF
  refine .bind .get fun _ => ?_
  split
  · refine .bind (targetGate_stays ..) fun _ => ?_
    refine .bind (act_stays fun _ => readFor_within (.refl _) ..) fun _ => ?_
    split
    · exact .pure _
    · exact fault_stays ..
  · exact busFault_stays ..

theorem seenLoad_stays {F : List Area} (n va pa : Nat) (st : Stamp) (k : Kind)
    (hF : [.fresh, .eccWb, .regs, .evTick, .events, .heatCnt, .heatDue, .slots, .badPorts] ⊆ F := by decide) :
    Stays F (seenLoad n va pa st k) := by
  unfold seenLoad
  exact .mono (G := [.fresh, .eccWb, .regs, .evTick, .events, .heatCnt, .heatDue, .slots, .badPorts]) (.bind .get fun _ =>
      .ite (.pure _) (.bind (memLoad_stays ..) fun _ => .pure _)) hF

theorem corePageLoad_stays {F : List Area} (n va pa : Nat) (st : Stamp) (k : Kind)
    (hF : [.fresh, .regs, .evTick, .events, .badPorts, .reeds, .sedges, .chans, .voters, .blocks] ⊆ F := by decide) :
    Stays F (corePageLoad n va pa st k) := by
  unfold corePageLoad
  refine .mono (G := [.fresh, .regs, .evTick, .events, .badPorts, .reeds, .sedges, .chans, .voters, .blocks]) ?_ hF
  refine .bind .get fun _ => ?_
  split
  · split
    · exact .pure _
    · exact .bind (pageGate_stays ..) fun _ => act_stays fun _ => pageLoad_within (.refl _) ..
  · exact busFault_stays ..

theorem corePageStore_stays {F : List Area} (n va pa : Nat) (st : Stamp) (v : Word)
    (hF : (.lcs :: .fusesRead :: .postId :: Area.ofReset : List Area) ⊆ F := by decide) :
    Stays F (corePageStore n va pa st v) := by
  unfold corePageStore
  refine .mono (G := (.lcs :: .fusesRead :: .postId :: Area.ofReset : List Area)) ?_ hF
  refine .bind .get fun _ => ?_
  dsimp only
  split
  · exact .ite (.bind (targetGate_stays ..) fun _ => .bind (upd_stays fun _ => holdEn_within (.refl _) ..) fun _ => .pure _)
      (.bind (pageGate_stays ..) fun _ => .ite (.bind (upd_stays fun _ => setCore_within (pageStoreHeld_within (.refl _) ..)
      ..) fun _ => .bind (.throw _) fun _ => upd_stays fun _ => pageStore_within (.refl _) ..) (upd_stays
      fun _ => pageStore_within (.refl _) ..))
  · exact busFault_stays ..

theorem bufferStore_stays {F : List Area} (n : Nat) (es : List SbEntry)
    (hF : [.cores] ⊆ F := by decide) : Stays F (bufferStore n es) := by
  unfold bufferStore
  exact .mono (G := [.cores]) (.bind .get fun _ => .ite (.bind (upd_stays fun _ => setCore_within (.refl _) ..) fun _ =>
      .throw _) (upd_stays fun _ => setCore_within (.refl _) ..)) hF

theorem fetchUnit_stays {F : List Area} (n va pa : Nat) (st : Stamp)
    (hF : [.fresh, .eccWb, .regs, .evTick, .events, .heatCnt, .heatDue, .slots, .badPorts] ⊆ F := by decide) :
    Stays F (fetchUnit n va pa st) := by
  unfold fetchUnit
  refine .mono (G := [.fresh, .eccWb, .regs, .evTick, .events, .heatCnt, .heatDue, .slots, .badPorts]) ?_ hF
  refine .bind .get fun _ => ?_
  refine .ite ?_ ?_
  · refine .bind (fault_stays ..) fun _ => ?_
    dsimp only
    split
    · refine .bind (targetGate_stays ..) fun _ => ?_
      refine .bind (act_stays fun _ => readFor_within (.refl _) ..) fun _ => ?_
      split
      · exact .pure _
      · exact fault_stays ..
    · exact fetchFault_stays ..
  · dsimp only
    split
    · refine .bind (targetGate_stays ..) fun _ => ?_
      refine .bind (act_stays fun _ => readFor_within (.refl _) ..) fun _ => ?_
      split
      · exact .pure _
      · exact fault_stays ..
    · exact fetchFault_stays ..

theorem awaitFetch_stays {F : List Area} (n pa : Nat) (st : Stamp)
    (hF : [.cores] ⊆ F := by decide) : Stays F (awaitFetch n pa st) := by
  unfold awaitFetch
  exact .mono (G := [.cores]) (.bind .get fun _ => .ite (.ite (upd_stays fun _ => setCore_within (.refl _) ..) (.bind
      (upd_stays fun _ => setCore_within (.refl _) ..) fun _ => .throw _)) (.pure _)) hF

theorem demandFetch_stays {F : List Area} (n : Nat) (h' : Nat) (va priv : Nat)
    (hF : [.fresh, .eccWb, .regs, .evTick, .events, .cores, .heatCnt, .heatDue, .slots, .badPorts] ⊆ F := by decide) :
    Stays F (demandFetch n h' va priv) := by
  unfold demandFetch
  exact .mono (G := [.fresh, .eccWb, .regs, .evTick, .events, .cores, .heatCnt, .heatDue, .slots, .badPorts]) (.bind
      (resolve_stays ..) fun _ => .bind (awaitFetch_stays ..) fun _ => .bind (fetchUnit_stays ..) fun _ => .pure _) hF

theorem fetchIssue_stays {F : List Area} (n : Nat) (h' : Nat)
    (hF : [.fresh, .eccWb, .regs, .evTick, .events, .cores, .heatCnt, .heatDue, .slots, .badPorts] ⊆ F := by decide) :
    Stays F (fetchIssue n h') := by
  unfold fetchIssue
  refine .mono (G := [.fresh, .eccWb, .regs, .evTick, .events, .cores, .heatCnt, .heatDue, .slots, .badPorts]) ?_ hF
  refine .bind .get fun _ => ?_
  dsimp only
  split
  · exact fault_stays ..
  · split
    · exact .ite (.bind (upd_stays fun _ => setCore_within (.refl _) ..) fun _ => .ite (demandFetch_stays ..) (.pure _))
        (.bind (upd_stays fun _ => discardPq_within (.refl _) ..) fun _ => demandFetch_stays ..)
    · exact .bind (upd_stays fun _ => setCore_within (.refl _) ..) fun _ => demandFetch_stays ..

theorem loadUse_within {F : List Area} {s t : State} (h : Within F s t) (n : Nat) (h' : Nat) (old : Ctx) (raw : Word)
    (hF : [.regs, .evTick, .events] ⊆ F := by decide) : Within F s (loadUse t n h' old raw) := by
  unfold loadUse
  refine .after (t := t) ?_ hF h
  split
  · exact .ite (perf_within (.refl _) ..) (.refl _)
  · exact .refl _

theorem afterIssue_within {F : List Area} {s t : State} (h : Within F s t) (n : Nat) (h' : Nat) (i : Insn) (iss : Iss) (old : Ctx)
    (ran : Bool) (nx : Next)
    (hF : [.regs, .evTick, .events, .cores] ⊆ F := by decide) : Within F s (afterIssue t n h' i iss old ran nx) := by
  unfold afterIssue
  exact .after (t := t) (.ite (irqPend_within (loadUse_within (.ite (.ite (perf_within (setCore_within (setCtx_within
      (.refl _) ..) ..) ..) (perf_within (perf_within (setCore_within (setCtx_within (.refl _) ..) ..) ..) ..)) (perf_within
      (.ite (perf_within (setCore_within (setCtx_within (.refl _) ..) ..) ..) (perf_within (perf_within (setCore_within
      (setCtx_within (.refl _) ..) ..) ..) ..)) ..)) ..) ..) (loadUse_within (.ite (.ite (perf_within (setCore_within
      (setCtx_within (.refl _) ..) ..) ..) (perf_within (perf_within (setCore_within (setCtx_within (.refl _) ..) ..) ..) ..))
      (perf_within (.ite (perf_within (setCore_within (setCtx_within (.refl _) ..) ..) ..) (perf_within (perf_within
      (setCore_within (setCtx_within (.refl _) ..) ..) ..) ..)) ..)) ..)) hF h

theorem counted_stays {F : List Area} (n : Nat) (h' : Nat) {i : Insn} (hi : Stays F (i.body n h'))
    (hF : [.regs, .evTick, .events] ⊆ F := by decide) : Stays F (counted n h' i) := by
  refine ⟨fun s => ?_⟩
  unfold counted
  split
  · exact loadUse_within (perf_within (hi.error ‹_› (.refl s)) _ _ _ _ (List.Subset.trans (by decide) hF)) _ _ _ _
      (List.Subset.trans (by decide) hF)
  · exact hi.at_ s

theorem issueX_stays {F : List Area} (n h' : Nat) (iss : Iss) {i : Insn} (hi : Stays F (i.body n h'))
    (hF : [.fresh, .eccWb, .regs, .evTick, .events, .cores, .heatCnt, .heatDue, .slots, .badPorts] ⊆ F := by decide) :
    Stays F (issueX n h' iss i) := by
  unfold issueX
  refine .bind (fetchIssue_stays _ _ (List.Subset.trans (by decide) hF)) fun _ => .bind .get fun s => ?_
  split
  · exact .throw _
  · split
    · exact .bind (counted_stays _ _ hi (List.Subset.trans (by decide) hF)) fun _ => .pure _
    · exact .pure _

theorem waitState_within {F : List Area} {s t : State} (h : Within F s t) (s0 : State) (n : Nat) (h' : Nat) (w : Word)
    (hF : [.cores] ⊆ F := by decide) : Within F s (waitState s0 t n h' w) := by
  unfold waitState
  exact .after (t := t) (setCore_within (.refl _) ..) hF h

theorem stopDue_within {F : List Area} {s t : State} (h : Within F s t) (n : Nat) (h' : Nat) (stepping : Bool)
    (hF : [.fresh, .mem, .eccWb, .regs, .evTick, .events, .cores, .heatCnt, .heatDue, .slots, .badPorts, .safety, .reeds,
        .sedges, .chans, .voters, .vens, .carr] ⊆ F := by decide) :
    Within F s (stopDue t n h' stepping) := by
  unfold stopDue
  exact .after (t := t) (.ite (setCtx_within (takeDue_within (setCtx_within (.refl _) ..) ..) ..) (takeDue_within (.refl _)
      ..)) hF h

theorem pageStall_within {F : List Area} {s t : State} (h : Within F s t) (n : Nat)
    (hF : [.cores] ⊆ F := by decide) : Within F s (pageStall t n) := by
  unfold pageStall
  exact .after (t := t) (setCore_within (.refl _) ..) hF h

theorem keepUndo_within {F : List Area} {s t : State} (h : Within F s t) (n : Nat) (old : Ctx)
    (hF : [.cores] ⊆ F := by decide) : Within F s (keepUndo t n old) := by
  unfold keepUndo
  refine .after (t := t) ?_ hF h
  dsimp only
  split
  · exact setCore_within (.refl _) ..
  · exact .refl _

theorem issueState_within {F : List Area} {s t : State} (h : Within F s t) (iss : Iss) {i : Insn}
    (hi : ∀ n h, Stays F (i.body n h)) (hF : [.fresh, .mem, .eccWb, .regs, .evTick, .events, .cores, .heatCnt, .heatDue,
        .slots, .badPorts, .safety, .reeds, .sedges, .chans, .voters, .vens, .carr] ⊆ F := by decide) : Within F s
        (issueState t iss i) := by
  refine h.trans ?_
  unfold issueState
  dsimp only
  split
  · exact .refl t
  · next h' _ =>
    have run : Stays F (issueX iss.core.toNat h' iss i) :=
      issueX_stays _ h' iss (hi _ h') (List.Subset.trans (by decide) hF)
    have begun : ∀ x, Within F t (setCtx t iss.core.toNat h' x) := fun _ =>
      setCtx_within (.refl t) _ _ _ (List.Subset.trans (by decide) hF)
    have stalled : Within F t (pageStall t iss.core.toNat) := pageStall_within (.refl t) _ (List.Subset.trans (by decide) hF)
    have after : ∀ {u} h' x r nx, Within F t u → Within F t (afterIssue u iss.core.toNat h' i iss x r nx) := fun _ _ _ _ k =>
      afterIssue_within k _ _ _ _ _ _ _ (List.Subset.trans (by decide) hF)
    split
    · have ran := run.ok ‹_› (begun _)
      refine .ite (.refl t) (.ite stalled (.ite ran (after _ _ _ _ ?_)))
      exact keepUndo_within ran _ _ (List.Subset.trans (by decide) hF)
    · refine .ite (.refl t) (.ite stalled (takeTrap_within (setCtx_within (run.error ‹_› (begun _)) _ _ _ ?_) _ _ _ ?_))
      all_goals exact List.Subset.trans (by decide) hF
    · exact .ite (.refl t) (.ite stalled (waitState_within (run.error ‹_› (begun _)) _ _ _ _ (List.Subset.trans
        (by decide) hF)))
    · refine .ite (.refl t) (stopDue_within (after _ _ _ _ (run.error ‹_› (begun _))) _ _ _ ?_)
      exact List.Subset.trans (by decide) hF
    · exact mireEnter_within (run.error ‹_› (begun _)) _ _ _ (List.Subset.trans (by decide) hF)

theorem modCtx_stays {F : List Area} (n : Nat) (h' : Nat) (f : Ctx → Ctx)
    (hF : [.cores] ⊆ F := by decide) : Stays F (modCtx n h' f) := by
  unfold modCtx
  exact .mono (G := [.cores]) (upd_stays fun _ => setCtx_within (.refl _) ..) hF

theorem loadFrom_stays {F : List Area} (n : Nat) (m : MLoad)
    (hF : [.fresh, .eccWb, .regs, .evTick, .events, .heatCnt, .heatDue, .slots, .badPorts, .reeds, .sedges, .chans, .voters,
        .blocks] ⊆ F := by decide) :
    Stays F (loadFrom n m) := by
  unfold loadFrom
  exact .mono (G := [.fresh, .eccWb, .regs, .evTick, .events, .heatCnt, .heatDue, .slots, .badPorts, .reeds, .sedges, .chans,
      .voters, .blocks]) (.ite (.ite (.bind (pageForm_stays ..) fun _ => .bind (seenLoad_stays ..) fun _ => .bind
      (seenLoad_stays ..) fun _ => .bind (act_stays fun _ => filterTag_within (.refl _) ..) fun _ => .pure _) (.bind
      (seenLoad_stays ..) fun _ => .bind (seenLoad_stays ..) fun _ => .bind (act_stays fun _ => filterTag_within (.refl _)
      ..) fun _ => .pure _)) (.ite (.ite (.bind (pageForm_stays ..) fun _ => .bind (corePageLoad_stays ..) fun _ => .pure _)
      (.bind (corePageLoad_stays ..) fun _ => .pure _)) (.bind (seenLoad_stays ..) fun _ => .ite (.bind (upd_stays
      fun _ => capture_within (.refl _) ..) fun _ => .bind (fault_stays ..) fun _ => .pure _) (.pure _)))) hF

theorem landValue_stays {F : List Area} (n : Nat) (h' : Nat) (m : MLoad) (v : Cap)
    (hF : [.cores] ⊆ F := by decide) : Stays F (landValue n h' m v) := by
  unfold landValue
  exact .mono (G := [.cores]) (modCtx_stays ..) hF

theorem loadBody_stays {F : List Area} (p sel : Nat) (isCap : Bool) (dst : Ctx → Nat) (auth : Ctx → Cap) (reg : Nat) (disp : Int)
    (n : Nat) (h' : Nat)
    (hF : [.fresh, .eccWb, .regs, .evTick, .events, .cores, .heatCnt, .heatDue, .slots, .badPorts, .reeds, .sedges, .chans,
        .voters, .blocks, .links] ⊆ F := by decide) :
    Stays F (loadBody p sel isCap dst auth reg disp n h') := by
  unfold loadBody
  refine .mono (G := [.fresh, .eccWb, .regs, .evTick, .events, .cores, .heatCnt, .heatDue, .slots, .badPorts, .reeds, .sedges,
      .chans, .voters, .blocks, .links]) ?_ hF
  refine .bind .get fun _ => ?_
  dsimp only
  split
  · exact .throw _
  · exact .ite (.bind (fault_stays ..) fun _ => .bind (resolve_stays ..) fun _ => .bind .get fun _ => .ite (.bind (fault_stays
      ..) fun _ => .ite (.bind (loadFrom_stays ..) fun _ => .bind (landValue_stays ..) fun _ => .pure _) (.bind (upd_stays
      fun _ => .ite (remoteSend_within (setCore_within (.refl _) ..) ..) (setCore_within (.refl _) ..)) fun _ => .pure _))
      (.ite (.bind (loadFrom_stays ..) fun _ => .bind (landValue_stays ..) fun _ => .pure _) (.bind (upd_stays fun _ => .ite
      (remoteSend_within (setCore_within (.refl _) ..) ..) (setCore_within (.refl _) ..)) fun _ => .pure _))) (.bind
      (resolve_stays ..) fun _ => .bind .get fun _ => .ite (.bind (fault_stays ..) fun _ => .ite (.bind (loadFrom_stays ..)
      fun _ => .bind (landValue_stays ..) fun _ => .pure _) (.bind (upd_stays fun _ => .ite (remoteSend_within (setCore_within
      (.refl _) ..) ..) (setCore_within (.refl _) ..)) fun _ => .pure _)) (.ite (.bind (loadFrom_stays ..) fun _ => .bind
      (landValue_stays ..) fun _ => .pure _) (.bind (upd_stays fun _ => .ite (remoteSend_within (setCore_within (.refl _) ..)
      ..) (setCore_within (.refl _) ..)) fun _ => .pure _)))

theorem storePage_stays {F : List Area} (n : Nat) (h' : Nat) (va pa : Nat) (st : Stamp) (word : Bool) (v : Word)
    (hF : (.lcs :: .fusesRead :: .postId :: Area.ofReset : List Area) ⊆ F := by decide) :
    Stays F (storePage n h' va pa st word v) := by
  unfold storePage
  exact .mono (G := (.lcs :: .fusesRead :: .postId :: Area.ofReset : List Area)) (.bind .get fun _ => .ite (.ite (.bind
      (fault_stays ..) fun _ => .bind (upd_stays fun _ => remoteSend_within (setCore_within (.refl _) ..) ..) fun _ =>
      .pure _) (.bind (upd_stays fun _ => remoteSend_within (setCore_within (.refl _) ..) ..) fun _ => .pure _)) (.ite (.bind
      (corePageStore_stays ..) fun _ => .pure _) (pageForm_stays ..))) hF

theorem storeBody_stays {F : List Area} (a : Nat) (disp : Int) (word : Bool) (val : Ctx → Word) (mask : Word) (n : Nat) (h' : Nat)
    (hF : (.lcs :: .fusesRead :: .postId :: Area.ofReset : List Area) ⊆ F := by decide) :
    Stays F (storeBody a disp word val mask n h') := by
  unfold storeBody
  refine .mono (G := (.lcs :: .fusesRead :: .postId :: Area.ofReset : List Area)) ?_ hF
  refine .bind .get fun _ => ?_
  dsimp only
  split
  · exact .throw _
  · exact .bind (resolve_stays ..) fun _ => .ite (storePage_stays ..) (.bind .get fun _ => .ite (.bind (busFault_stays ..)
      fun _ => .bind (bufferStore_stays ..) fun _ => .pure _) (.bind (bufferStore_stays ..) fun _ => .pure _))

theorem cstBody_stays {F : List Area} (d a : Nat) (disp : Int) (n : Nat) (h' : Nat)
    (hF : (.lcs :: .fusesRead :: .postId :: Area.ofReset : List Area) ⊆ F := by decide) : Stays F (cstBody d a disp n h') := by
  unfold cstBody
  refine .mono (G := (.lcs :: .fusesRead :: .postId :: Area.ofReset : List Area)) ?_ hF
  refine .bind .get fun _ => ?_
  dsimp only
  split
  · exact .throw _
  · exact .ite (.bind (fault_stays ..) fun _ => .ite (.bind (.throw _) fun _ => .ite (.bind (.throw _) fun _ => .bind
      (resolve_stays ..) fun _ => .ite (storePage_stays ..) (.bind .get fun _ => .ite (.bind (busFault_stays ..) fun _ =>
      .bind (act_stays fun _ => filterTag_within (.refl _) ..) fun _ => .bind .get fun _ => .bind (bufferStore_stays ..)
      fun _ => .pure _) (.bind (act_stays fun _ => filterTag_within (.refl _) ..) fun _ => .bind .get fun _ => .bind
      (bufferStore_stays ..) fun _ => .pure _))) (.bind (resolve_stays ..) fun _ => .ite (storePage_stays ..) (.bind .get
      fun _ => .ite (.bind (busFault_stays ..) fun _ => .bind (act_stays fun _ => filterTag_within (.refl _) ..) fun _ =>
      .bind .get fun _ => .bind (bufferStore_stays ..) fun _ => .pure _) (.bind (act_stays fun _ => filterTag_within (.refl _)
      ..) fun _ => .bind .get fun _ => .bind (bufferStore_stays ..) fun _ => .pure _)))) (.ite (.bind (.throw _) fun _ =>
      .bind (resolve_stays ..) fun _ => .ite (storePage_stays ..) (.bind .get fun _ => .ite (.bind (busFault_stays ..)
      fun _ => .bind (act_stays fun _ => filterTag_within (.refl _) ..) fun _ => .bind .get fun _ => .bind (bufferStore_stays
      ..) fun _ => .pure _) (.bind (act_stays fun _ => filterTag_within (.refl _) ..) fun _ => .bind .get fun _ => .bind
      (bufferStore_stays ..) fun _ => .pure _))) (.bind (resolve_stays ..) fun _ => .ite (storePage_stays ..) (.bind .get
      fun _ => .ite (.bind (busFault_stays ..) fun _ => .bind (act_stays fun _ => filterTag_within (.refl _) ..) fun _ =>
      .bind .get fun _ => .bind (bufferStore_stays ..) fun _ => .pure _) (.bind (act_stays fun _ => filterTag_within (.refl _)
      ..) fun _ => .bind .get fun _ => .bind (bufferStore_stays ..) fun _ => .pure _))))) (.ite (.bind (.throw _) fun _ =>
      .ite (.bind (.throw _) fun _ => .bind (resolve_stays ..) fun _ => .ite (storePage_stays ..) (.bind .get fun _ => .ite
      (.bind (busFault_stays ..) fun _ => .bind (act_stays fun _ => filterTag_within (.refl _) ..) fun _ => .bind .get
      fun _ => .bind (bufferStore_stays ..) fun _ => .pure _) (.bind (act_stays fun _ => filterTag_within (.refl _) ..)
      fun _ => .bind .get fun _ => .bind (bufferStore_stays ..) fun _ => .pure _))) (.bind (resolve_stays ..) fun _ => .ite
      (storePage_stays ..) (.bind .get fun _ => .ite (.bind (busFault_stays ..) fun _ => .bind (act_stays
      fun _ => filterTag_within (.refl _) ..) fun _ => .bind .get fun _ => .bind (bufferStore_stays ..) fun _ => .pure _)
      (.bind (act_stays fun _ => filterTag_within (.refl _) ..) fun _ => .bind .get fun _ => .bind (bufferStore_stays ..)
      fun _ => .pure _)))) (.ite (.bind (.throw _) fun _ => .bind (resolve_stays ..) fun _ => .ite (storePage_stays ..) (.bind
      .get fun _ => .ite (.bind (busFault_stays ..) fun _ => .bind (act_stays fun _ => filterTag_within (.refl _) ..) fun _ =>
      .bind .get fun _ => .bind (bufferStore_stays ..) fun _ => .pure _) (.bind (act_stays fun _ => filterTag_within (.refl _)
      ..) fun _ => .bind .get fun _ => .bind (bufferStore_stays ..) fun _ => .pure _))) (.bind (resolve_stays ..) fun _ =>
      .ite (storePage_stays ..) (.bind .get fun _ => .ite (.bind (busFault_stays ..) fun _ => .bind (act_stays
      fun _ => filterTag_within (.refl _) ..) fun _ => .bind .get fun _ => .bind (bufferStore_stays ..) fun _ => .pure _)
      (.bind (act_stays fun _ => filterTag_within (.refl _) ..) fun _ => .bind .get fun _ => .bind (bufferStore_stays ..)
      fun _ => .pure _)))))

theorem awaitSource_stays {F : List Area} (n va pa : Nat) (st : Stamp)
    (hF : [.cores] ⊆ F := by decide) : Stays F (awaitSource n va pa st) := by
  unfold awaitSource
  exact .mono (G := [.cores]) (.bind .get fun _ => .ite (.bind (upd_stays fun _ => setCore_within (.refl _) ..) fun _ =>
      .throw _) (.pure _)) hF

theorem arrivesBad_within {F : List Area} {s t : State} (h : Within F s t) (pa : Nat)
    (hF : [.badPorts] ⊆ F := by decide) : Within F s (arrivesBad t pa) := by
  unfold arrivesBad
  refine .after (t := t) ?_ hF h
  split
  · exact Within.setBadPorts (.refl _) _ (by decide)
  · exact .refl _

theorem remoteReply_stays {F : List Area} (n : Nat) (m : MLoad) (answer : RemoteAnswer)
    (hF : [.fresh, .regs, .evTick, .events, .badPorts] ⊆ F := by decide) : Stays F (remoteReply n m answer) := by
  unfold remoteReply
  refine .mono (G := [.fresh, .regs, .evTick, .events, .badPorts]) ?_ hF
  refine .bind .get fun _ => ?_
  refine .ite (busFault_stays ..) ?_
  split
  · exact .pure _
  · exact fault_stays ..
  · exact busFault_stays ..
  · exact busFault_stays ..
  · exact busFault_stays ..
  · exact .bind (act_stays fun _ => parityCause_within (.refl _) ..) fun _ => fault_stays ..

theorem returnBody_stays {F : List Area} (n : Nat) (h' : Nat) (m : MLoad) (answer : RemoteAnswer)
    (hF : [.fresh, .eccWb, .regs, .evTick, .events, .cores, .heatCnt, .heatDue, .slots, .badPorts, .reeds, .sedges, .chans,
        .voters, .blocks] ⊆ F := by decide) :
    Stays F (returnBody n h' m answer) := by
  unfold returnBody
  exact .mono (G := [.fresh, .eccWb, .regs, .evTick, .events, .cores, .heatCnt, .heatDue, .slots, .badPorts, .reeds, .sedges,
      .chans, .voters, .blocks]) (.ite (.bind (remoteReply_stays ..) fun _ => .ite (.bind (landValue_stays ..)
      fun _ => modCtx_stays ..) (.pure _)) (.bind (loadFrom_stays ..) fun _ => .ite (.bind (landValue_stays ..)
      fun _ => modCtx_stays ..) (.pure _))) hF

theorem refused_within {F : List Area} {s t : State} (h : Within F s t) (n : Nat) (h' : Nat) (m : MLoad) (u : Option Ctx)
    (t' : Trap)
    (hF : [.fresh, .mem, .eccWb, .regs, .evTick, .events, .cores, .heatCnt, .heatDue, .slots, .badPorts, .safety, .reeds,
        .chans, .voters, .vens, .carr] ⊆ F := by decide) :
    Within F s (refused t n h' m u t') := by
  unfold refused
  refine .after (t := t) ?_ hF h
  split
  · exact takeTrap_within (.ite (setCtx_within (.refl _) ..) (.refl _)) ..
  · exact takeTrap_within (.refl _) ..

theorem returnLoad_within {F : List Area} {s t : State} (h : Within F s t) (n : Nat) (m : MLoad) (answer : RemoteAnswer)
    (hF : [.fresh, .mem, .eccWb, .regs, .evTick, .events, .cores, .heatCnt, .heatDue, .slots, .badPorts, .safety, .reeds,
        .sedges, .chans, .voters, .blocks, .vens, .carr] ⊆ F := by decide) :
    Within F s (returnLoad t n m answer) := by
  unfold returnLoad
  refine .after (t := t) ?_ hF h
  refine .ite (setCore_within (.refl _) ..) ?_
  split
  · exact Stays.ok (returnBody_stays ..) ‹_ = EStateM.Result.ok _ _› (setCore_within (.refl _) ..)
  · exact refused_within (Stays.error (returnBody_stays ..) ‹_ = EStateM.Result.error _ _› (setCore_within (.refl _) ..)) ..
  · exact Stays.error (returnBody_stays ..) ‹_ = EStateM.Result.error _ _› (setCore_within (.refl _) ..)

theorem storeArrives_within {F : List Area} {s t : State} (h : Within F s t) (n : Nat) (bad : Bool)
    (hF : [.badPorts] ⊆ F := by decide) : Within F s (storeArrives t n bad) := by
  unfold storeArrives
  refine .after (t := t) ?_ hF h
  split
  · exact arrivesBad_within (.refl _) ..
  · exact .refl _

theorem transferPq_within {F : List Area} {s t : State} (h : Within F s t) (n : Nat) (h' : Nat) (target : Nat) (hit : Bool)
    (hF : [.regs, .evTick, .events, .cores] ⊆ F := by decide) : Within F s (transferPq t n h' target hit) := by
  unfold transferPq
  exact .after (t := t) (.ite (.refl _) (discardPq_within (.refl _) ..)) hF h

theorem transfer_stays {F : List Area} (n : Nat) (h' : Nat) (iss : Iss) (lost : Nat × Bool) (f : Ctx → Ctx)
    (hF : [.regs, .evTick, .events, .cores] ⊆ F := by decide) : Stays F (transfer n h' iss lost f) := by
  unfold transfer
  exact .mono (G := [.regs, .evTick, .events, .cores]) (.bind (upd_stays fun _ => setCtx_within (.refl _) ..) fun _ => .bind
      (upd_stays fun _ => transferPq_within (.refl _) ..) fun _ => .ite (.bind (upd_stays fun _ => perf_within (.refl _)
      ..) fun _ => .pure _) (.pure _)) hF

theorem shadowResolve_stays {F : List Area} (n : Nat) (h' : Nat) (va : Nat) (k : Kind)
    (hF : [.fresh, .eccWb, .regs, .evTick, .events, .cores, .heatCnt, .heatDue, .slots, .badPorts] ⊆ F := by decide) :
    Stays F (shadowResolve n h' va k) := by
  unfold shadowResolve
  exact .mono (G := [.fresh, .eccWb, .regs, .evTick, .events, .cores, .heatCnt, .heatDue, .slots, .badPorts]) (.bind
      (resolve_stays ..) fun _ => .ite (.bind (pageForm_stays ..) fun _ => .pure _) (.pure _)) hF

theorem shadowLoad_stays {F : List Area} (n va pa : Nat) (st : Stamp)
    (hF : [.fresh, .eccWb, .regs, .evTick, .events, .cores, .heatCnt, .heatDue, .slots, .badPorts] ⊆ F := by decide) :
    Stays F (shadowLoad n va pa st) := by
  unfold shadowLoad
  exact .mono (G := [.fresh, .eccWb, .regs, .evTick, .events, .cores, .heatCnt, .heatDue, .slots, .badPorts]) (.bind .get
      fun _ => .ite (.bind (awaitSource_stays ..) fun _ => seenLoad_stays ..) (seenLoad_stays ..)) hF

theorem shadowEntries_stays {F : List Area} (n : Nat) (h' : Nat) (l : List (ℕ × Word × Bool × Bool))
    (hF : [.fresh, .eccWb, .regs, .evTick, .events, .cores, .heatCnt, .heatDue, .slots, .badPorts] ⊆ F := by decide) :
    Stays F (shadowEntries n h' l) := by
  induction l with
  | nil => exact .pure _
  | cons e r ih =>
    obtain ⟨va, w, tag, pair⟩ := e
    unfold shadowEntries
    refine .bind (shadowResolve_stays _ _ _ _ hF) fun _ => .bind .get fun _ => ?_
    have rest : ∀ f : List SbEntry → List SbEntry, Stays F (shadowEntries n h' r >>= fun es => pure (f es)) :=
      fun f => .bind ih fun _ => .pure _
    exact .ite (.bind (busFault_stays _ _ _ _ (List.Subset.trans (by decide) hF)) fun _ => rest _) (rest _)

theorem pushShadow_stays {F : List Area} (n : Nat) (h' : Nat) (x : Ctx) (w : Word)
    (hF : [.fresh, .eccWb, .regs, .evTick, .events, .cores, .heatCnt, .heatDue, .slots, .badPorts] ⊆ F := by decide) :
    Stays F (pushShadow n h' x w) := by
  unfold pushShadow
  refine .mono (G := [.fresh, .eccWb, .regs, .evTick, .events, .cores, .heatCnt, .heatDue, .slots, .badPorts]) ?_ hF
  split
  · exact .throw _
  · exact .bind (shadowEntries_stays ..) fun _ => bufferStore_stays ..

theorem topShadow_stays {F : List Area} (n : Nat) (h' : Nat) (x : Ctx)
    (hF : [.fresh, .eccWb, .regs, .evTick, .events, .cores, .heatCnt, .heatDue, .slots, .badPorts] ⊆ F := by decide) :
    Stays F (topShadow n h' x) := by
  unfold topShadow
  exact .mono (G := [.fresh, .eccWb, .regs, .evTick, .events, .cores, .heatCnt, .heatDue, .slots, .badPorts]) (.ite (.bind
      (.throw _) fun _ => .ite (.bind (.throw _) fun _ => .bind (shadowResolve_stays ..) fun _ => .bind (shadowLoad_stays
      ..) fun _ => .pure _) (.bind (shadowResolve_stays ..) fun _ => .bind (shadowLoad_stays ..) fun _ => .pure _)) (.ite
      (.bind (.throw _) fun _ => .bind (shadowResolve_stays ..) fun _ => .bind (shadowLoad_stays ..) fun _ => .pure _) (.bind
      (shadowResolve_stays ..) fun _ => .bind (shadowLoad_stays ..) fun _ => .pure _))) hF

theorem checkShadow_stays {F : List Area} (n : Nat) (h' : Nat) (x : Ctx) (t' : Word)
    (hF : [.fresh, .eccWb, .regs, .evTick, .events, .cores, .heatCnt, .heatDue, .slots, .badPorts] ⊆ F := by decide) :
    Stays F (checkShadow n h' x t') := by
  unfold checkShadow
  exact .mono (G := [.fresh, .eccWb, .regs, .evTick, .events, .cores, .heatCnt, .heatDue, .slots, .badPorts]) (.bind
      (topShadow_stays ..) fun _ => .ite (.throw _) (.pure _)) hF

theorem targetCache_stays {F : List Area} (n : Nat) (x : Ctx) (iss : Iss) (target : Nat)
    (hF : [.regs, .evTick, .events, .cores] ⊆ F := by decide) : Stays F (targetCache n x iss target) := by
  unfold targetCache
  exact .mono (G := [.regs, .evTick, .events, .cores]) (.ite (.bind .get fun _ => .bind (upd_stays fun _ => setCore_within
      (.refl _) ..) fun _ => .bind (upd_stays fun _ => perf_within (.refl _) ..) fun _ => .pure _) (.pure _)) hF

theorem callBody_stays {F : List Area} (iss : Iss) (target : Ctx → Int) (cached : Bool) (n : Nat) (h' : Nat)
    (hF : [.fresh, .eccWb, .regs, .evTick, .events, .cores, .heatCnt, .heatDue, .slots, .badPorts] ⊆ F := by decide) :
    Stays F (callBody iss target cached n h') := by
  unfold callBody
  exact .mono (G := [.fresh, .eccWb, .regs, .evTick, .events, .cores, .heatCnt, .heatDue, .slots, .badPorts]) (.bind .get
      fun _ => .ite (.bind (.throw _) fun _ => .bind (pushShadow_stays ..) fun _ => .ite (.bind (targetCache_stays ..)
      fun _ => transfer_stays ..) (.bind (.pure _) fun _ => transfer_stays ..)) (.bind (pushShadow_stays ..) fun _ => .ite
      (.bind (targetCache_stays ..) fun _ => transfer_stays ..) (.bind (.pure _) fun _ => transfer_stays ..))) hF

theorem fcallBody_stays {F : List Area} (iss : Iss) (target : Ctx → Int) (cached : Bool) (n : Nat) (h' : Nat)
    (hF : [.fresh, .eccWb, .regs, .evTick, .events, .cores, .heatCnt, .heatDue, .slots, .badPorts] ⊆ F := by decide) :
    Stays F (fcallBody iss target cached n h') := by
  unfold fcallBody
  exact .mono (G := [.fresh, .eccWb, .regs, .evTick, .events, .cores, .heatCnt, .heatDue, .slots, .badPorts]) (.bind .get
      fun _ => .bind (pushShadow_stays ..) fun _ => .ite (.bind (targetCache_stays ..) fun _ => transfer_stays ..) (.bind
      (.pure _) fun _ => transfer_stays ..)) hF

theorem epochHold_stays {F : List Area} (n : Nat)
    (hF : [.cores] ⊆ F := by decide) : Stays F (epochHold n) := by
  unfold epochHold
  exact .mono (G := [.cores]) (.bind .get fun _ => .ite (.bind (upd_stays fun _ => epochStall_within (.refl _) ..) fun _ =>
      .throw _) (.pure _)) hF

theorem flipSets_within {F : List Area} {s t : State} (h : Within F s t) (n : Nat) (h' : Nat)
    (hF : [.cores] ⊆ F := by decide) : Within F s (flipSets t n h') := by
  unfold flipSets
  exact .after (t := t) (setCore_within (.refl _) ..) hF h

theorem gcallBody_stays {F : List Area} (iss : Iss) (k n : Nat) (h' : Nat)
    (hF : [.fresh, .eccWb, .regs, .evTick, .events, .cores, .heatCnt, .heatDue, .slots, .badPorts] ⊆ F := by decide) :
    Stays F (gcallBody iss k n h') := by
  unfold gcallBody
  refine .mono (G := [.fresh, .eccWb, .regs, .evTick, .events, .cores, .heatCnt, .heatDue, .slots, .badPorts]) ?_ hF
  refine .bind .get fun _ => ?_
  refine .ite ?_ ?_
  · refine .bind (.throw _) fun _ => ?_
    refine .ite ?_ ?_
    · refine .bind (.throw _) fun _ => ?_
      refine .ite ?_ ?_
      · refine .bind (.throw _) fun _ => ?_
        refine .ite ?_ ?_
        · refine .bind (.throw _) fun _ => ?_
          refine .ite ?_ ?_
          · refine .bind (.throw _) fun _ => ?_
            dsimp only
            split
            · exact .throw _
            · exact .ite (.bind (epochHold_stays ..) fun _ => .bind (shadowEntries_stays ..) fun _ => .bind (bufferStore_stays
                ..) fun _ => .ite (.bind (upd_stays fun _ => flipSets_within (.refl _) ..) fun _ => transfer_stays ..)
                (transfer_stays ..)) (.bind (shadowEntries_stays ..) fun _ => .bind (bufferStore_stays ..) fun _ => .ite
                (.bind (upd_stays fun _ => flipSets_within (.refl _) ..) fun _ => transfer_stays ..) (transfer_stays ..))
          · dsimp only
            split
            · exact .throw _
            · exact .ite (.bind (epochHold_stays ..) fun _ => .bind (shadowEntries_stays ..) fun _ => .bind (bufferStore_stays
                ..) fun _ => .ite (.bind (upd_stays fun _ => flipSets_within (.refl _) ..) fun _ => transfer_stays ..)
                (transfer_stays ..)) (.bind (shadowEntries_stays ..) fun _ => .bind (bufferStore_stays ..) fun _ => .ite
                (.bind (upd_stays fun _ => flipSets_within (.refl _) ..) fun _ => transfer_stays ..) (transfer_stays ..))
        · refine .ite ?_ ?_
          · refine .bind (.throw _) fun _ => ?_
            dsimp only
            split
            · exact .throw _
            · exact .ite (.bind (epochHold_stays ..) fun _ => .bind (shadowEntries_stays ..) fun _ => .bind (bufferStore_stays
                ..) fun _ => .ite (.bind (upd_stays fun _ => flipSets_within (.refl _) ..) fun _ => transfer_stays ..)
                (transfer_stays ..)) (.bind (shadowEntries_stays ..) fun _ => .bind (bufferStore_stays ..) fun _ => .ite
                (.bind (upd_stays fun _ => flipSets_within (.refl _) ..) fun _ => transfer_stays ..) (transfer_stays ..))
          · dsimp only
            split
            · exact .throw _
            · exact .ite (.bind (epochHold_stays ..) fun _ => .bind (shadowEntries_stays ..) fun _ => .bind (bufferStore_stays
                ..) fun _ => .ite (.bind (upd_stays fun _ => flipSets_within (.refl _) ..) fun _ => transfer_stays ..)
                (transfer_stays ..)) (.bind (shadowEntries_stays ..) fun _ => .bind (bufferStore_stays ..) fun _ => .ite
                (.bind (upd_stays fun _ => flipSets_within (.refl _) ..) fun _ => transfer_stays ..) (transfer_stays ..))
      · refine .ite ?_ ?_
        · refine .bind (.throw _) fun _ => ?_
          refine .ite ?_ ?_
          · refine .bind (.throw _) fun _ => ?_
            dsimp only
            split
            · exact .throw _
            · exact .ite (.bind (epochHold_stays ..) fun _ => .bind (shadowEntries_stays ..) fun _ => .bind (bufferStore_stays
                ..) fun _ => .ite (.bind (upd_stays fun _ => flipSets_within (.refl _) ..) fun _ => transfer_stays ..)
                (transfer_stays ..)) (.bind (shadowEntries_stays ..) fun _ => .bind (bufferStore_stays ..) fun _ => .ite
                (.bind (upd_stays fun _ => flipSets_within (.refl _) ..) fun _ => transfer_stays ..) (transfer_stays ..))
          · dsimp only
            split
            · exact .throw _
            · exact .ite (.bind (epochHold_stays ..) fun _ => .bind (shadowEntries_stays ..) fun _ => .bind (bufferStore_stays
                ..) fun _ => .ite (.bind (upd_stays fun _ => flipSets_within (.refl _) ..) fun _ => transfer_stays ..)
                (transfer_stays ..)) (.bind (shadowEntries_stays ..) fun _ => .bind (bufferStore_stays ..) fun _ => .ite
                (.bind (upd_stays fun _ => flipSets_within (.refl _) ..) fun _ => transfer_stays ..) (transfer_stays ..))
        · refine .ite ?_ ?_
          · refine .bind (.throw _) fun _ => ?_
            dsimp only
            split
            · exact .throw _
            · exact .ite (.bind (epochHold_stays ..) fun _ => .bind (shadowEntries_stays ..) fun _ => .bind (bufferStore_stays
                ..) fun _ => .ite (.bind (upd_stays fun _ => flipSets_within (.refl _) ..) fun _ => transfer_stays ..)
                (transfer_stays ..)) (.bind (shadowEntries_stays ..) fun _ => .bind (bufferStore_stays ..) fun _ => .ite
                (.bind (upd_stays fun _ => flipSets_within (.refl _) ..) fun _ => transfer_stays ..) (transfer_stays ..))
          · dsimp only
            split
            · exact .throw _
            · exact .ite (.bind (epochHold_stays ..) fun _ => .bind (shadowEntries_stays ..) fun _ => .bind (bufferStore_stays
                ..) fun _ => .ite (.bind (upd_stays fun _ => flipSets_within (.refl _) ..) fun _ => transfer_stays ..)
                (transfer_stays ..)) (.bind (shadowEntries_stays ..) fun _ => .bind (bufferStore_stays ..) fun _ => .ite
                (.bind (upd_stays fun _ => flipSets_within (.refl _) ..) fun _ => transfer_stays ..) (transfer_stays ..))
    · refine .ite ?_ ?_
      · refine .bind (.throw _) fun _ => ?_
        refine .ite ?_ ?_
        · refine .bind (.throw _) fun _ => ?_
          refine .ite ?_ ?_
          · refine .bind (.throw _) fun _ => ?_
            dsimp only
            split
            · exact .throw _
            · exact .ite (.bind (epochHold_stays ..) fun _ => .bind (shadowEntries_stays ..) fun _ => .bind (bufferStore_stays
                ..) fun _ => .ite (.bind (upd_stays fun _ => flipSets_within (.refl _) ..) fun _ => transfer_stays ..)
                (transfer_stays ..)) (.bind (shadowEntries_stays ..) fun _ => .bind (bufferStore_stays ..) fun _ => .ite
                (.bind (upd_stays fun _ => flipSets_within (.refl _) ..) fun _ => transfer_stays ..) (transfer_stays ..))
          · dsimp only
            split
            · exact .throw _
            · exact .ite (.bind (epochHold_stays ..) fun _ => .bind (shadowEntries_stays ..) fun _ => .bind (bufferStore_stays
                ..) fun _ => .ite (.bind (upd_stays fun _ => flipSets_within (.refl _) ..) fun _ => transfer_stays ..)
                (transfer_stays ..)) (.bind (shadowEntries_stays ..) fun _ => .bind (bufferStore_stays ..) fun _ => .ite
                (.bind (upd_stays fun _ => flipSets_within (.refl _) ..) fun _ => transfer_stays ..) (transfer_stays ..))
        · refine .ite ?_ ?_
          · refine .bind (.throw _) fun _ => ?_
            dsimp only
            split
            · exact .throw _
            · exact .ite (.bind (epochHold_stays ..) fun _ => .bind (shadowEntries_stays ..) fun _ => .bind (bufferStore_stays
                ..) fun _ => .ite (.bind (upd_stays fun _ => flipSets_within (.refl _) ..) fun _ => transfer_stays ..)
                (transfer_stays ..)) (.bind (shadowEntries_stays ..) fun _ => .bind (bufferStore_stays ..) fun _ => .ite
                (.bind (upd_stays fun _ => flipSets_within (.refl _) ..) fun _ => transfer_stays ..) (transfer_stays ..))
          · dsimp only
            split
            · exact .throw _
            · exact .ite (.bind (epochHold_stays ..) fun _ => .bind (shadowEntries_stays ..) fun _ => .bind (bufferStore_stays
                ..) fun _ => .ite (.bind (upd_stays fun _ => flipSets_within (.refl _) ..) fun _ => transfer_stays ..)
                (transfer_stays ..)) (.bind (shadowEntries_stays ..) fun _ => .bind (bufferStore_stays ..) fun _ => .ite
                (.bind (upd_stays fun _ => flipSets_within (.refl _) ..) fun _ => transfer_stays ..) (transfer_stays ..))
      · refine .ite ?_ ?_
        · refine .bind (.throw _) fun _ => ?_
          refine .ite ?_ ?_
          · refine .bind (.throw _) fun _ => ?_
            dsimp only
            split
            · exact .throw _
            · exact .ite (.bind (epochHold_stays ..) fun _ => .bind (shadowEntries_stays ..) fun _ => .bind (bufferStore_stays
                ..) fun _ => .ite (.bind (upd_stays fun _ => flipSets_within (.refl _) ..) fun _ => transfer_stays ..)
                (transfer_stays ..)) (.bind (shadowEntries_stays ..) fun _ => .bind (bufferStore_stays ..) fun _ => .ite
                (.bind (upd_stays fun _ => flipSets_within (.refl _) ..) fun _ => transfer_stays ..) (transfer_stays ..))
          · dsimp only
            split
            · exact .throw _
            · exact .ite (.bind (epochHold_stays ..) fun _ => .bind (shadowEntries_stays ..) fun _ => .bind (bufferStore_stays
                ..) fun _ => .ite (.bind (upd_stays fun _ => flipSets_within (.refl _) ..) fun _ => transfer_stays ..)
                (transfer_stays ..)) (.bind (shadowEntries_stays ..) fun _ => .bind (bufferStore_stays ..) fun _ => .ite
                (.bind (upd_stays fun _ => flipSets_within (.refl _) ..) fun _ => transfer_stays ..) (transfer_stays ..))
        · refine .ite ?_ ?_
          · refine .bind (.throw _) fun _ => ?_
            dsimp only
            split
            · exact .throw _
            · exact .ite (.bind (epochHold_stays ..) fun _ => .bind (shadowEntries_stays ..) fun _ => .bind (bufferStore_stays
                ..) fun _ => .ite (.bind (upd_stays fun _ => flipSets_within (.refl _) ..) fun _ => transfer_stays ..)
                (transfer_stays ..)) (.bind (shadowEntries_stays ..) fun _ => .bind (bufferStore_stays ..) fun _ => .ite
                (.bind (upd_stays fun _ => flipSets_within (.refl _) ..) fun _ => transfer_stays ..) (transfer_stays ..))
          · dsimp only
            split
            · exact .throw _
            · exact .ite (.bind (epochHold_stays ..) fun _ => .bind (shadowEntries_stays ..) fun _ => .bind (bufferStore_stays
                ..) fun _ => .ite (.bind (upd_stays fun _ => flipSets_within (.refl _) ..) fun _ => transfer_stays ..)
                (transfer_stays ..)) (.bind (shadowEntries_stays ..) fun _ => .bind (bufferStore_stays ..) fun _ => .ite
                (.bind (upd_stays fun _ => flipSets_within (.refl _) ..) fun _ => transfer_stays ..) (transfer_stays ..))
  · refine .ite ?_ ?_
    · refine .bind (.throw _) fun _ => ?_
      refine .ite ?_ ?_
      · refine .bind (.throw _) fun _ => ?_
        refine .ite ?_ ?_
        · refine .bind (.throw _) fun _ => ?_
          refine .ite ?_ ?_
          · refine .bind (.throw _) fun _ => ?_
            dsimp only
            split
            · exact .throw _
            · exact .ite (.bind (epochHold_stays ..) fun _ => .bind (shadowEntries_stays ..) fun _ => .bind (bufferStore_stays
                ..) fun _ => .ite (.bind (upd_stays fun _ => flipSets_within (.refl _) ..) fun _ => transfer_stays ..)
                (transfer_stays ..)) (.bind (shadowEntries_stays ..) fun _ => .bind (bufferStore_stays ..) fun _ => .ite
                (.bind (upd_stays fun _ => flipSets_within (.refl _) ..) fun _ => transfer_stays ..) (transfer_stays ..))
          · dsimp only
            split
            · exact .throw _
            · exact .ite (.bind (epochHold_stays ..) fun _ => .bind (shadowEntries_stays ..) fun _ => .bind (bufferStore_stays
                ..) fun _ => .ite (.bind (upd_stays fun _ => flipSets_within (.refl _) ..) fun _ => transfer_stays ..)
                (transfer_stays ..)) (.bind (shadowEntries_stays ..) fun _ => .bind (bufferStore_stays ..) fun _ => .ite
                (.bind (upd_stays fun _ => flipSets_within (.refl _) ..) fun _ => transfer_stays ..) (transfer_stays ..))
        · refine .ite ?_ ?_
          · refine .bind (.throw _) fun _ => ?_
            dsimp only
            split
            · exact .throw _
            · exact .ite (.bind (epochHold_stays ..) fun _ => .bind (shadowEntries_stays ..) fun _ => .bind (bufferStore_stays
                ..) fun _ => .ite (.bind (upd_stays fun _ => flipSets_within (.refl _) ..) fun _ => transfer_stays ..)
                (transfer_stays ..)) (.bind (shadowEntries_stays ..) fun _ => .bind (bufferStore_stays ..) fun _ => .ite
                (.bind (upd_stays fun _ => flipSets_within (.refl _) ..) fun _ => transfer_stays ..) (transfer_stays ..))
          · dsimp only
            split
            · exact .throw _
            · exact .ite (.bind (epochHold_stays ..) fun _ => .bind (shadowEntries_stays ..) fun _ => .bind (bufferStore_stays
                ..) fun _ => .ite (.bind (upd_stays fun _ => flipSets_within (.refl _) ..) fun _ => transfer_stays ..)
                (transfer_stays ..)) (.bind (shadowEntries_stays ..) fun _ => .bind (bufferStore_stays ..) fun _ => .ite
                (.bind (upd_stays fun _ => flipSets_within (.refl _) ..) fun _ => transfer_stays ..) (transfer_stays ..))
      · refine .ite ?_ ?_
        · refine .bind (.throw _) fun _ => ?_
          refine .ite ?_ ?_
          · refine .bind (.throw _) fun _ => ?_
            dsimp only
            split
            · exact .throw _
            · exact .ite (.bind (epochHold_stays ..) fun _ => .bind (shadowEntries_stays ..) fun _ => .bind (bufferStore_stays
                ..) fun _ => .ite (.bind (upd_stays fun _ => flipSets_within (.refl _) ..) fun _ => transfer_stays ..)
                (transfer_stays ..)) (.bind (shadowEntries_stays ..) fun _ => .bind (bufferStore_stays ..) fun _ => .ite
                (.bind (upd_stays fun _ => flipSets_within (.refl _) ..) fun _ => transfer_stays ..) (transfer_stays ..))
          · dsimp only
            split
            · exact .throw _
            · exact .ite (.bind (epochHold_stays ..) fun _ => .bind (shadowEntries_stays ..) fun _ => .bind (bufferStore_stays
                ..) fun _ => .ite (.bind (upd_stays fun _ => flipSets_within (.refl _) ..) fun _ => transfer_stays ..)
                (transfer_stays ..)) (.bind (shadowEntries_stays ..) fun _ => .bind (bufferStore_stays ..) fun _ => .ite
                (.bind (upd_stays fun _ => flipSets_within (.refl _) ..) fun _ => transfer_stays ..) (transfer_stays ..))
        · refine .ite ?_ ?_
          · refine .bind (.throw _) fun _ => ?_
            dsimp only
            split
            · exact .throw _
            · exact .ite (.bind (epochHold_stays ..) fun _ => .bind (shadowEntries_stays ..) fun _ => .bind (bufferStore_stays
                ..) fun _ => .ite (.bind (upd_stays fun _ => flipSets_within (.refl _) ..) fun _ => transfer_stays ..)
                (transfer_stays ..)) (.bind (shadowEntries_stays ..) fun _ => .bind (bufferStore_stays ..) fun _ => .ite
                (.bind (upd_stays fun _ => flipSets_within (.refl _) ..) fun _ => transfer_stays ..) (transfer_stays ..))
          · dsimp only
            split
            · exact .throw _
            · exact .ite (.bind (epochHold_stays ..) fun _ => .bind (shadowEntries_stays ..) fun _ => .bind (bufferStore_stays
                ..) fun _ => .ite (.bind (upd_stays fun _ => flipSets_within (.refl _) ..) fun _ => transfer_stays ..)
                (transfer_stays ..)) (.bind (shadowEntries_stays ..) fun _ => .bind (bufferStore_stays ..) fun _ => .ite
                (.bind (upd_stays fun _ => flipSets_within (.refl _) ..) fun _ => transfer_stays ..) (transfer_stays ..))
    · refine .ite ?_ ?_
      · refine .bind (.throw _) fun _ => ?_
        refine .ite ?_ ?_
        · refine .bind (.throw _) fun _ => ?_
          refine .ite ?_ ?_
          · refine .bind (.throw _) fun _ => ?_
            dsimp only
            split
            · exact .throw _
            · exact .ite (.bind (epochHold_stays ..) fun _ => .bind (shadowEntries_stays ..) fun _ => .bind (bufferStore_stays
                ..) fun _ => .ite (.bind (upd_stays fun _ => flipSets_within (.refl _) ..) fun _ => transfer_stays ..)
                (transfer_stays ..)) (.bind (shadowEntries_stays ..) fun _ => .bind (bufferStore_stays ..) fun _ => .ite
                (.bind (upd_stays fun _ => flipSets_within (.refl _) ..) fun _ => transfer_stays ..) (transfer_stays ..))
          · dsimp only
            split
            · exact .throw _
            · exact .ite (.bind (epochHold_stays ..) fun _ => .bind (shadowEntries_stays ..) fun _ => .bind (bufferStore_stays
                ..) fun _ => .ite (.bind (upd_stays fun _ => flipSets_within (.refl _) ..) fun _ => transfer_stays ..)
                (transfer_stays ..)) (.bind (shadowEntries_stays ..) fun _ => .bind (bufferStore_stays ..) fun _ => .ite
                (.bind (upd_stays fun _ => flipSets_within (.refl _) ..) fun _ => transfer_stays ..) (transfer_stays ..))
        · refine .ite ?_ ?_
          · refine .bind (.throw _) fun _ => ?_
            dsimp only
            split
            · exact .throw _
            · exact .ite (.bind (epochHold_stays ..) fun _ => .bind (shadowEntries_stays ..) fun _ => .bind (bufferStore_stays
                ..) fun _ => .ite (.bind (upd_stays fun _ => flipSets_within (.refl _) ..) fun _ => transfer_stays ..)
                (transfer_stays ..)) (.bind (shadowEntries_stays ..) fun _ => .bind (bufferStore_stays ..) fun _ => .ite
                (.bind (upd_stays fun _ => flipSets_within (.refl _) ..) fun _ => transfer_stays ..) (transfer_stays ..))
          · dsimp only
            split
            · exact .throw _
            · exact .ite (.bind (epochHold_stays ..) fun _ => .bind (shadowEntries_stays ..) fun _ => .bind (bufferStore_stays
                ..) fun _ => .ite (.bind (upd_stays fun _ => flipSets_within (.refl _) ..) fun _ => transfer_stays ..)
                (transfer_stays ..)) (.bind (shadowEntries_stays ..) fun _ => .bind (bufferStore_stays ..) fun _ => .ite
                (.bind (upd_stays fun _ => flipSets_within (.refl _) ..) fun _ => transfer_stays ..) (transfer_stays ..))
      · refine .ite ?_ ?_
        · refine .bind (.throw _) fun _ => ?_
          refine .ite ?_ ?_
          · refine .bind (.throw _) fun _ => ?_
            dsimp only
            split
            · exact .throw _
            · exact .ite (.bind (epochHold_stays ..) fun _ => .bind (shadowEntries_stays ..) fun _ => .bind (bufferStore_stays
                ..) fun _ => .ite (.bind (upd_stays fun _ => flipSets_within (.refl _) ..) fun _ => transfer_stays ..)
                (transfer_stays ..)) (.bind (shadowEntries_stays ..) fun _ => .bind (bufferStore_stays ..) fun _ => .ite
                (.bind (upd_stays fun _ => flipSets_within (.refl _) ..) fun _ => transfer_stays ..) (transfer_stays ..))
          · dsimp only
            split
            · exact .throw _
            · exact .ite (.bind (epochHold_stays ..) fun _ => .bind (shadowEntries_stays ..) fun _ => .bind (bufferStore_stays
                ..) fun _ => .ite (.bind (upd_stays fun _ => flipSets_within (.refl _) ..) fun _ => transfer_stays ..)
                (transfer_stays ..)) (.bind (shadowEntries_stays ..) fun _ => .bind (bufferStore_stays ..) fun _ => .ite
                (.bind (upd_stays fun _ => flipSets_within (.refl _) ..) fun _ => transfer_stays ..) (transfer_stays ..))
        · refine .ite ?_ ?_
          · refine .bind (.throw _) fun _ => ?_
            dsimp only
            split
            · exact .throw _
            · exact .ite (.bind (epochHold_stays ..) fun _ => .bind (shadowEntries_stays ..) fun _ => .bind (bufferStore_stays
                ..) fun _ => .ite (.bind (upd_stays fun _ => flipSets_within (.refl _) ..) fun _ => transfer_stays ..)
                (transfer_stays ..)) (.bind (shadowEntries_stays ..) fun _ => .bind (bufferStore_stays ..) fun _ => .ite
                (.bind (upd_stays fun _ => flipSets_within (.refl _) ..) fun _ => transfer_stays ..) (transfer_stays ..))
          · dsimp only
            split
            · exact .throw _
            · exact .ite (.bind (epochHold_stays ..) fun _ => .bind (shadowEntries_stays ..) fun _ => .bind (bufferStore_stays
                ..) fun _ => .ite (.bind (upd_stays fun _ => flipSets_within (.refl _) ..) fun _ => transfer_stays ..)
                (transfer_stays ..)) (.bind (shadowEntries_stays ..) fun _ => .bind (bufferStore_stays ..) fun _ => .ite
                (.bind (upd_stays fun _ => flipSets_within (.refl _) ..) fun _ => transfer_stays ..) (transfer_stays ..))

theorem gretEntry_stays {F : List Area} (n : Nat) (h' : Nat) (x : Ctx)
    (hF : [.fresh, .eccWb, .regs, .evTick, .events, .cores, .heatCnt, .heatDue, .slots, .badPorts] ⊆ F := by decide) :
    Stays F (gretEntry n h' x) := by
  unfold gretEntry
  refine .mono (G := [.fresh, .eccWb, .regs, .evTick, .events, .cores, .heatCnt, .heatDue, .slots, .badPorts]) ?_ hF
  dsimp only
  split
  · exact .pure _
  · exact .ite (.bind (.throw _) fun _ => .bind (shadowResolve_stays ..) fun _ => .bind (shadowLoad_stays ..) fun _ => .bind
      (shadowLoad_stays ..) fun _ => .ite (.bind (.throw _) fun _ => .pure _) (.pure _)) (.bind (shadowResolve_stays ..)
      fun _ => .bind (shadowLoad_stays ..) fun _ => .bind (shadowLoad_stays ..) fun _ => .ite (.bind (.throw _) fun _ =>
      .pure _) (.pure _))

theorem gretBody_stays {F : List Area} (iss : Iss) (n : Nat) (h' : Nat)
    (hF : [.fresh, .eccWb, .regs, .evTick, .events, .cores, .heatCnt, .heatDue, .slots, .badPorts] ⊆ F := by decide) :
    Stays F (gretBody iss n h') := by
  unfold gretBody
  exact .mono (G := [.fresh, .eccWb, .regs, .evTick, .events, .cores, .heatCnt, .heatDue, .slots, .badPorts]) (.bind .get
      fun _ => .bind (topShadow_stays ..) fun _ => .ite (.bind (.throw _) fun _ => .bind (gretEntry_stays ..) fun _ => .bind
      .get fun _ => .ite (.bind (.throw _) fun _ => .ite (.bind (epochHold_stays ..) fun _ => .bind (upd_stays
      fun _ => flipSets_within (.refl _) ..) fun _ => transfer_stays ..) (transfer_stays ..)) (.ite (.bind (epochHold_stays
      ..) fun _ => .bind (upd_stays fun _ => flipSets_within (.refl _) ..) fun _ => transfer_stays ..) (transfer_stays ..)))
      (.bind (gretEntry_stays ..) fun _ => .bind .get fun _ => .ite (.bind (.throw _) fun _ => .ite (.bind (epochHold_stays
      ..) fun _ => .bind (upd_stays fun _ => flipSets_within (.refl _) ..) fun _ => transfer_stays ..) (transfer_stays ..))
      (.ite (.bind (epochHold_stays ..) fun _ => .bind (upd_stays fun _ => flipSets_within (.refl _) ..) fun _ =>
      transfer_stays ..) (transfer_stays ..)))) hF

theorem aheadRead_within {F : List Area} {s t : State} (h : Within F s t) (a : Nat)
    (hF : [.eccWb] ⊆ F := by decide) : Within F s (aheadRead t a).2 := by
  unfold aheadRead
  refine .after (t := t) ?_ hF h
  dsimp only
  split
  · exact .refl _
  · exact queueWriteback_within (.refl _) ..
  · exact .refl _

theorem aheadWord_within {F : List Area} {s t : State} (h : Within F s t) (n : Nat) (h' : Nat) (pa : Nat)
    (hF : [.fresh, .eccWb, .regs, .evTick, .events, .slots, .badPorts] ⊆ F := by decide) :
    Within F s (aheadWord t n h' pa).2 := by
  unfold aheadWord
  refine .after (t := t) ?_ hF h
  dsimp only
  split
  · split
    · exact aheadRead_within (.ite (bookSlots_within (.refl _) ..) (.refl _)) ..
    · split
      · exact portParity_within (.refl _) ..
      · exact .refl _
  · split
    · exact aheadRead_within (.ite (bookSlots_within (.refl _) ..) (.refl _)) ..
    · split
      · exact portParity_within (.refl _) ..
      · exact .refl _

theorem aheadNext_within {F : List Area} {s t : State} (h : Within F s t) (n : Nat) (h' : Nat) (start : Nat)
    (hF : [.regs, .evTick, .events, .cores] ⊆ F := by decide) : Within F s (aheadNext t n h' start).1 := by
  unfold aheadNext
  refine .after (t := t) ?_ hF h
  dsimp only
  split
  · exact .refl _
  · split
    · exact .refl _
    · split
      · exact .refl _
      · exact perf_within (setCore_within (.refl _) ..) ..

theorem stealSlot_within {F : List Area} {s t : State} (h : Within F s t) (b : Nat)
    (hF : [.regs, .evTick, .events, .steals] ⊆ F := by decide) : Within F s (stealSlot t b) := by
  unfold stealSlot
  exact .after (t := t) (perf_within (Within.setSteals (.refl _) _ (by decide)) ..) hF h

theorem record_stays {F : List Area} (n : Nat) (h' : Nat) (kind done rest : Nat)
    (hF : [.cores] ⊆ F := by decide) : Stays F (record n h' kind done rest) := by
  unfold record
  exact .mono (G := [.cores]) (.bind (upd_stays fun _ => setCore_within (.refl _) ..) fun _ => modCtx_stays ..) hF

theorem betweenWords_stays {F : List Area} (n : Nat) (h' : Nat) (kind done rest : Nat)
    (hF : [.cores] ⊆ F := by decide) : Stays F (betweenWords n h' kind done rest) := by
  unfold betweenWords
  exact .mono (G := [.cores]) (.bind (modCtx_stays ..) fun _ => .bind .get fun _ => .ite (.bind (record_stays ..) fun _ =>
      .throw _) (.pure _)) hF

theorem multiLoad_stays {F : List Area} (n : Nat) (h' : Nat) (priv va : Nat) (k : Kind)
    (hF : [.fresh, .eccWb, .regs, .evTick, .events, .cores, .heatCnt, .heatDue, .slots, .badPorts] ⊆ F := by decide) :
    Stays F (multiLoad n h' priv va k) := by
  unfold multiLoad
  exact .mono (G := [.fresh, .eccWb, .regs, .evTick, .events, .cores, .heatCnt, .heatDue, .slots, .badPorts]) (.bind
      (resolve_stays ..) fun _ => .ite (.bind (pageForm_stays ..) fun _ => .bind (awaitSource_stays ..) fun _ => memLoad_stays
      ..) (.bind (awaitSource_stays ..) fun _ => memLoad_stays ..)) hF

theorem multiStore_stays {F : List Area} (n : Nat) (h' : Nat) (priv va : Nat) (k : Kind) (data : Word) (tag : Bool)
    (hF : [.fresh, .mem, .eccWb, .regs, .evTick, .events, .cores, .heatCnt, .heatDue, .slots, .badPorts] ⊆ F := by decide) :
    Stays F (multiStore n h' priv va k data tag) := by
  unfold multiStore
  exact .mono (G := [.fresh, .mem, .eccWb, .regs, .evTick, .events, .cores, .heatCnt, .heatDue, .slots, .badPorts]) (.bind
      (resolve_stays ..) fun _ => .ite (.bind (pageForm_stays ..) fun _ => writeThrough_stays ..) (writeThrough_stays ..)) hF

theorem maskWords_stays {F : List Area} (n h' kind : Nat) {move : Nat → Nat → X Unit} (regs : List Nat) (count rest : Nat)
    (hm : ∀ i k, Stays F (move i k)) (hF : [.cores] ⊆ F := by decide) :
    Stays F (maskWords n h' kind move regs count rest) := by
  induction regs generalizing count rest with
  | nil => exact .pure _
  | cons i r ih =>
    unfold maskWords
    refine .bind (record_stays _ _ _ _ _ hF) fun _ => .bind (hm _ _) fun _ => ?_
    exact .ite (.bind (betweenWords_stays _ _ _ _ _ hF) fun _ => ih _ _) (ih _ _)

theorem restoreRecord_stays {F : List Area} (n : Nat) (h' : Nat)
    (hF : [.cores] ⊆ F := by decide) : Stays F (restoreRecord n h') := by
  unfold restoreRecord
  refine .mono (G := [.cores]) ?_ hF
  refine upd_stays fun _ => ?_
  dsimp only
  split
  · exact setCtx_within (.refl _) ..
  · exact .refl _

theorem maskBody_stays {F : List Area} (kind a b : Nat) (disp : Int) (n : Nat) (h' : Nat)
    (hF : [.fresh, .mem, .eccWb, .regs, .evTick, .events, .cores, .heatCnt, .heatDue, .slots, .badPorts] ⊆ F := by decide) :
    Stays F (maskBody kind a b disp n h') := by
  unfold maskBody
  refine .mono (G := [.fresh, .mem, .eccWb, .regs, .evTick, .events, .cores, .heatCnt, .heatDue, .slots, .badPorts]) ?_ hF
  refine .bind .get fun _ => ?_
  dsimp only
  split
  · exact .throw _
  · exact .bind (upd_stays fun _ => drainAll_within (.refl _) ..) fun _ => .ite (.bind (maskWords_stays _ _ _ _ _ _ fun _ _ =>
      .bind .get fun _ => multiStore_stays ..) fun _ => .bind (restoreRecord_stays ..) fun _ => .pure _) (.bind
      (maskWords_stays _ _ _ _ _ _ fun _ _ => .bind (multiLoad_stays ..) fun _ => modCtx_stays ..) fun _ => .bind
      (restoreRecord_stays ..) fun _ => .pure _)

theorem cmoveCopy_stays {F : List Area} (n : Nat) (h' : Nat) (priv src dst words : Nat) (cd : Cap)
    (hF : [.fresh, .mem, .eccWb, .regs, .evTick, .events, .cores, .heatCnt, .heatDue, .slots, .badPorts] ⊆ F := by decide) :
    Stays F (cmoveCopy n h' priv src dst words cd) := by
  unfold cmoveCopy
  exact .mono (G := [.fresh, .mem, .eccWb, .regs, .evTick, .events, .cores, .heatCnt, .heatDue, .slots, .badPorts]) (.ite
      (.bind (multiLoad_stays ..) fun _ => .bind (multiLoad_stays ..) fun _ => .bind (act_stays fun _ => filterTag_within
      (.refl _) ..) fun _ => .bind (multiStore_stays ..) fun _ => multiStore_stays ..) (.bind (multiLoad_stays ..)
      fun _ => multiStore_stays ..)) hF

theorem cmoveLoop_stays {F : List Area} (n : Nat) (h' : Nat) (priv : Nat) (s' : Nat) (t' : Nat) (len : Nat)
    (down pairs : Bool) (cd : Cap)
    (fuel count : Nat)
    (hF : [.fresh, .mem, .eccWb, .regs, .evTick, .events, .cores, .heatCnt, .heatDue, .slots, .badPorts] ⊆ F := by decide) :
    Stays F (cmoveLoop n h' priv s' t' len down pairs cd fuel count) := by
  induction fuel generalizing count with
  | zero => exact .pure _
  | succ f ih =>
    unfold cmoveLoop
    refine .ite (.pure _) (.bind (record_stays _ _ _ _ _ (List.Subset.trans (by decide) hF)) fun _ =>
      .bind (cmoveCopy_stays _ _ _ _ _ _ _ hF) fun _ => ?_)
    exact .ite (.bind (betweenWords_stays _ _ _ _ _ (List.Subset.trans (by decide) hF)) fun _ => ih _) (ih _)

theorem cmoveBody_stays {F : List Area} (d a b n : Nat) (h' : Nat)
    (hF : [.fresh, .mem, .eccWb, .regs, .evTick, .events, .cores, .heatCnt, .heatDue, .slots, .badPorts] ⊆ F := by decide) :
    Stays F (cmoveBody d a b n h') := by
  unfold cmoveBody
  refine .mono (G := [.fresh, .mem, .eccWb, .regs, .evTick, .events, .cores, .heatCnt, .heatDue, .slots, .badPorts]) ?_ hF
  refine .bind .get fun _ => ?_
  dsimp only
  split
  · exact .throw _
  · split
    · exact .throw _
    · exact .bind (upd_stays fun _ => drainAll_within (.refl _) ..) fun _ => .bind (cmoveLoop_stays ..) fun _ => .bind
        (restoreRecord_stays ..) fun _ => .pure _

theorem probeOne_within {F : List Area} {s t : State} (h : Within F s t) (n k : Nat)
    (hF : [.fresh, .eccWb, .regs, .evTick, .events, .cores, .heatCnt, .heatDue, .slots, .badPorts] ⊆ F := by decide) :
    Within F s (probeOne t n k) := by
  unfold probeOne
  exact .after (t := t) (.ite (.ite (setCtx_within (revoked_within (.refl _) ..) ..) (revoked_within (.refl _) ..))
      (.refl _)) hF h

theorem probeLoop_stays {F : List Area} (n : Nat) (h' : Nat) (fuel k : Nat)
    (hF : [.fresh, .eccWb, .regs, .evTick, .events, .cores, .heatCnt, .heatDue, .slots, .badPorts] ⊆ F := by decide) :
    Stays F (probeLoop n h' fuel k) := by
  induction fuel generalizing k with
  | zero => exact .pure _
  | succ f ih =>
    unfold probeLoop
    refine .bind (upd_stays fun s => probeOne_within (.refl s) _ _ hF) fun _ => ?_
    exact .ite (.bind (betweenWords_stays _ _ _ _ _ (List.Subset.trans (by decide) hF)) fun _ => ih _) (ih _)

theorem readPair_stays {F : List Area} (n : Nat) (h' : Nat) (va : Nat)
    (hF : [.fresh, .eccWb, .regs, .evTick, .events, .cores, .heatCnt, .heatDue, .slots, .badPorts] ⊆ F := by decide) :
    Stays F (readPair n h' va) := by
  unfold readPair
  exact .mono (G := [.fresh, .eccWb, .regs, .evTick, .events, .cores, .heatCnt, .heatDue, .slots, .badPorts]) (.ite (.bind
      (fault_stays ..) fun _ => .bind (resolve_stays ..) fun _ => .ite (.bind (pageForm_stays ..) fun _ => .bind
      (seenLoad_stays ..) fun _ => .bind (seenLoad_stays ..) fun _ => .pure _) (.bind (seenLoad_stays ..) fun _ => .bind
      (seenLoad_stays ..) fun _ => .pure _)) (.bind (resolve_stays ..) fun _ => .ite (.bind (pageForm_stays ..) fun _ => .bind
      (seenLoad_stays ..) fun _ => .bind (seenLoad_stays ..) fun _ => .pure _) (.bind (seenLoad_stays ..) fun _ => .bind
      (seenLoad_stays ..) fun _ => .pure _))) hF

theorem readWord_stays {F : List Area} (n : Nat) (h' : Nat) (va : Nat)
    (hF : [.fresh, .eccWb, .regs, .evTick, .events, .cores, .heatCnt, .heatDue, .slots, .badPorts] ⊆ F := by decide) :
    Stays F (readWord n h' va) := by
  unfold readWord
  exact .mono (G := [.fresh, .eccWb, .regs, .evTick, .events, .cores, .heatCnt, .heatDue, .slots, .badPorts]) (.bind
      (resolve_stays ..) fun _ => .ite (.bind (pageForm_stays ..) fun _ => .bind (seenLoad_stays ..) fun _ => .pure _) (.bind
      (seenLoad_stays ..) fun _ => .pure _)) hF

theorem cmtsBody_stays {F : List Area} (a num n : Nat) (h' : Nat)
    (hF : [.fresh, .eccWb, .regs, .evTick, .events, .cores, .heatCnt, .heatDue, .slots, .badPorts] ⊆ F := by decide) :
    Stays F (cmtsBody a num n h') := by
  unfold cmtsBody
  refine .mono (G := [.fresh, .eccWb, .regs, .evTick, .events, .cores, .heatCnt, .heatDue, .slots, .badPorts]) ?_ hF
  refine .bind .get fun _ => ?_
  refine .ite ?_ ?_
  · split
    · exact .throw _
    · exact modCtx_stays ..
  · refine .ite ?_ (modCtx_stays ..)
    split
    · exact .throw _
    · exact .bind (readPair_stays ..) fun _ => .bind (readPair_stays ..) fun _ => modCtx_stays ..

theorem storesDone_stays {F : List Area} (n : Nat) (h' : Nat)
    (hF : [] ⊆ F := by decide) : Stays F (storesDone n h') := by
  unfold storesDone
  exact .mono (G := []) (.bind .get fun _ => .ite (.throw _) (.pure _)) hF

theorem readWords_stays {F : List Area} (n : Nat) (h' : Nat) (l : List Nat)
    (hF : [.fresh, .eccWb, .regs, .evTick, .events, .cores, .heatCnt, .heatDue, .slots, .badPorts] ⊆ F := by decide) :
    Stays F (readWords n h' l) := by
  induction l with
  | nil => exact .pure _
  | cons a r ih =>
    unfold readWords
    exact .bind (readWord_stays _ _ _ hF) fun _ => .bind ih fun _ => .pure _

theorem readSaved_stays {F : List Area} (n : Nat) (h' : Nat) (long : Bool) (base : Nat)
    (hF : [.fresh, .eccWb, .regs, .evTick, .events, .cores, .heatCnt, .heatDue, .slots, .badPorts] ⊆ F := by decide) :
    Stays F (readSaved n h' long base) := by
  unfold readSaved
  exact .mono (G := [.fresh, .eccWb, .regs, .evTick, .events, .cores, .heatCnt, .heatDue, .slots, .badPorts]) (.bind
      (readPair_stays ..) fun _ => .bind (readWords_stays ..) fun _ => .bind (readPair_stays ..) fun _ => .bind
      (readPair_stays ..) fun _ => .pure _) hF

theorem rfeCheck_stays {F : List Area} (n : Nat) (h' : Nat) (x : Ctx)
    (hF : [.fresh, .eccWb, .regs, .evTick, .events, .cores, .heatCnt, .heatDue, .slots, .badPorts] ⊆ F := by decide) :
    Stays F (rfeCheck n h' x) := by
  unfold rfeCheck
  exact .mono (G := [.fresh, .eccWb, .regs, .evTick, .events, .cores, .heatCnt, .heatDue, .slots, .badPorts]) (.ite (.bind
      (.throw _) fun _ => .bind (readPair_stays ..) fun _ => .ite (.bind (.throw _) fun _ => .bind (readWord_stays ..)
      fun _ => .ite (.bind (.throw _) fun _ => .bind (readSaved_stays ..) fun _ => .ite (.bind (.throw _) fun _ => .ite (.bind
      (.throw _) fun _ => .ite (.bind (.throw _) fun _ => .bind (readWord_stays ..) fun _ => .ite (.bind (readWords_stays
      ..) fun _ => .pure _) (.bind (.pure _) fun _ => .pure _)) (.bind (readWord_stays ..) fun _ => .ite (.bind
      (readWords_stays ..) fun _ => .pure _) (.bind (.pure _) fun _ => .pure _))) (.ite (.bind (.throw _) fun _ => .bind
      (readWord_stays ..) fun _ => .ite (.bind (readWords_stays ..) fun _ => .pure _) (.bind (.pure _) fun _ => .pure _))
      (.bind (readWord_stays ..) fun _ => .ite (.bind (readWords_stays ..) fun _ => .pure _) (.bind (.pure _) fun _ =>
      .pure _)))) (.ite (.bind (.throw _) fun _ => .ite (.bind (.throw _) fun _ => .bind (readWord_stays ..) fun _ => .ite
      (.bind (readWords_stays ..) fun _ => .pure _) (.bind (.pure _) fun _ => .pure _)) (.bind (readWord_stays ..) fun _ =>
      .ite (.bind (readWords_stays ..) fun _ => .pure _) (.bind (.pure _) fun _ => .pure _))) (.ite (.bind (.throw _) fun _ =>
      .bind (readWord_stays ..) fun _ => .ite (.bind (readWords_stays ..) fun _ => .pure _) (.bind (.pure _) fun _ =>
      .pure _)) (.bind (readWord_stays ..) fun _ => .ite (.bind (readWords_stays ..) fun _ => .pure _) (.bind (.pure _)
      fun _ => .pure _))))) (.bind (readSaved_stays ..) fun _ => .ite (.bind (.throw _) fun _ => .ite (.bind (.throw _)
      fun _ => .ite (.bind (.throw _) fun _ => .bind (readWord_stays ..) fun _ => .ite (.bind (readWords_stays ..) fun _ =>
      .pure _) (.bind (.pure _) fun _ => .pure _)) (.bind (readWord_stays ..) fun _ => .ite (.bind (readWords_stays ..)
      fun _ => .pure _) (.bind (.pure _) fun _ => .pure _))) (.ite (.bind (.throw _) fun _ => .bind (readWord_stays ..)
      fun _ => .ite (.bind (readWords_stays ..) fun _ => .pure _) (.bind (.pure _) fun _ => .pure _)) (.bind (readWord_stays
      ..) fun _ => .ite (.bind (readWords_stays ..) fun _ => .pure _) (.bind (.pure _) fun _ => .pure _)))) (.ite (.bind
      (.throw _) fun _ => .ite (.bind (.throw _) fun _ => .bind (readWord_stays ..) fun _ => .ite (.bind (readWords_stays
      ..) fun _ => .pure _) (.bind (.pure _) fun _ => .pure _)) (.bind (readWord_stays ..) fun _ => .ite (.bind
      (readWords_stays ..) fun _ => .pure _) (.bind (.pure _) fun _ => .pure _))) (.ite (.bind (.throw _) fun _ => .bind
      (readWord_stays ..) fun _ => .ite (.bind (readWords_stays ..) fun _ => .pure _) (.bind (.pure _) fun _ => .pure _))
      (.bind (readWord_stays ..) fun _ => .ite (.bind (readWords_stays ..) fun _ => .pure _) (.bind (.pure _) fun _ =>
      .pure _)))))) (.bind (readWord_stays ..) fun _ => .ite (.bind (.throw _) fun _ => .bind (readSaved_stays ..) fun _ =>
      .ite (.bind (.throw _) fun _ => .ite (.bind (.throw _) fun _ => .ite (.bind (.throw _) fun _ => .bind (readWord_stays
      ..) fun _ => .ite (.bind (readWords_stays ..) fun _ => .pure _) (.bind (.pure _) fun _ => .pure _)) (.bind
      (readWord_stays ..) fun _ => .ite (.bind (readWords_stays ..) fun _ => .pure _) (.bind (.pure _) fun _ => .pure _)))
      (.ite (.bind (.throw _) fun _ => .bind (readWord_stays ..) fun _ => .ite (.bind (readWords_stays ..) fun _ => .pure _)
      (.bind (.pure _) fun _ => .pure _)) (.bind (readWord_stays ..) fun _ => .ite (.bind (readWords_stays ..) fun _ =>
      .pure _) (.bind (.pure _) fun _ => .pure _)))) (.ite (.bind (.throw _) fun _ => .ite (.bind (.throw _) fun _ => .bind
      (readWord_stays ..) fun _ => .ite (.bind (readWords_stays ..) fun _ => .pure _) (.bind (.pure _) fun _ => .pure _))
      (.bind (readWord_stays ..) fun _ => .ite (.bind (readWords_stays ..) fun _ => .pure _) (.bind (.pure _) fun _ =>
      .pure _))) (.ite (.bind (.throw _) fun _ => .bind (readWord_stays ..) fun _ => .ite (.bind (readWords_stays ..) fun _ =>
      .pure _) (.bind (.pure _) fun _ => .pure _)) (.bind (readWord_stays ..) fun _ => .ite (.bind (readWords_stays ..)
      fun _ => .pure _) (.bind (.pure _) fun _ => .pure _))))) (.bind (readSaved_stays ..) fun _ => .ite (.bind (.throw _)
      fun _ => .ite (.bind (.throw _) fun _ => .ite (.bind (.throw _) fun _ => .bind (readWord_stays ..) fun _ => .ite (.bind
      (readWords_stays ..) fun _ => .pure _) (.bind (.pure _) fun _ => .pure _)) (.bind (readWord_stays ..) fun _ => .ite
      (.bind (readWords_stays ..) fun _ => .pure _) (.bind (.pure _) fun _ => .pure _))) (.ite (.bind (.throw _) fun _ =>
      .bind (readWord_stays ..) fun _ => .ite (.bind (readWords_stays ..) fun _ => .pure _) (.bind (.pure _) fun _ =>
      .pure _)) (.bind (readWord_stays ..) fun _ => .ite (.bind (readWords_stays ..) fun _ => .pure _) (.bind (.pure _)
      fun _ => .pure _)))) (.ite (.bind (.throw _) fun _ => .ite (.bind (.throw _) fun _ => .bind (readWord_stays ..) fun _ =>
      .ite (.bind (readWords_stays ..) fun _ => .pure _) (.bind (.pure _) fun _ => .pure _)) (.bind (readWord_stays ..)
      fun _ => .ite (.bind (readWords_stays ..) fun _ => .pure _) (.bind (.pure _) fun _ => .pure _))) (.ite (.bind
      (.throw _) fun _ => .bind (readWord_stays ..) fun _ => .ite (.bind (readWords_stays ..) fun _ => .pure _) (.bind
      (.pure _) fun _ => .pure _)) (.bind (readWord_stays ..) fun _ => .ite (.bind (readWords_stays ..) fun _ => .pure _)
      (.bind (.pure _) fun _ => .pure _))))))) (.bind (readPair_stays ..) fun _ => .ite (.bind (.throw _) fun _ => .bind
      (readWord_stays ..) fun _ => .ite (.bind (.throw _) fun _ => .bind (readSaved_stays ..) fun _ => .ite (.bind
      (.throw _) fun _ => .ite (.bind (.throw _) fun _ => .ite (.bind (.throw _) fun _ => .bind (readWord_stays ..) fun _ =>
      .ite (.bind (readWords_stays ..) fun _ => .pure _) (.bind (.pure _) fun _ => .pure _)) (.bind (readWord_stays ..)
      fun _ => .ite (.bind (readWords_stays ..) fun _ => .pure _) (.bind (.pure _) fun _ => .pure _))) (.ite (.bind
      (.throw _) fun _ => .bind (readWord_stays ..) fun _ => .ite (.bind (readWords_stays ..) fun _ => .pure _) (.bind
      (.pure _) fun _ => .pure _)) (.bind (readWord_stays ..) fun _ => .ite (.bind (readWords_stays ..) fun _ => .pure _)
      (.bind (.pure _) fun _ => .pure _)))) (.ite (.bind (.throw _) fun _ => .ite (.bind (.throw _) fun _ => .bind
      (readWord_stays ..) fun _ => .ite (.bind (readWords_stays ..) fun _ => .pure _) (.bind (.pure _) fun _ => .pure _))
      (.bind (readWord_stays ..) fun _ => .ite (.bind (readWords_stays ..) fun _ => .pure _) (.bind (.pure _) fun _ =>
      .pure _))) (.ite (.bind (.throw _) fun _ => .bind (readWord_stays ..) fun _ => .ite (.bind (readWords_stays ..) fun _ =>
      .pure _) (.bind (.pure _) fun _ => .pure _)) (.bind (readWord_stays ..) fun _ => .ite (.bind (readWords_stays ..)
      fun _ => .pure _) (.bind (.pure _) fun _ => .pure _))))) (.bind (readSaved_stays ..) fun _ => .ite (.bind (.throw _)
      fun _ => .ite (.bind (.throw _) fun _ => .ite (.bind (.throw _) fun _ => .bind (readWord_stays ..) fun _ => .ite (.bind
      (readWords_stays ..) fun _ => .pure _) (.bind (.pure _) fun _ => .pure _)) (.bind (readWord_stays ..) fun _ => .ite
      (.bind (readWords_stays ..) fun _ => .pure _) (.bind (.pure _) fun _ => .pure _))) (.ite (.bind (.throw _) fun _ =>
      .bind (readWord_stays ..) fun _ => .ite (.bind (readWords_stays ..) fun _ => .pure _) (.bind (.pure _) fun _ =>
      .pure _)) (.bind (readWord_stays ..) fun _ => .ite (.bind (readWords_stays ..) fun _ => .pure _) (.bind (.pure _)
      fun _ => .pure _)))) (.ite (.bind (.throw _) fun _ => .ite (.bind (.throw _) fun _ => .bind (readWord_stays ..) fun _ =>
      .ite (.bind (readWords_stays ..) fun _ => .pure _) (.bind (.pure _) fun _ => .pure _)) (.bind (readWord_stays ..)
      fun _ => .ite (.bind (readWords_stays ..) fun _ => .pure _) (.bind (.pure _) fun _ => .pure _))) (.ite (.bind
      (.throw _) fun _ => .bind (readWord_stays ..) fun _ => .ite (.bind (readWords_stays ..) fun _ => .pure _) (.bind
      (.pure _) fun _ => .pure _)) (.bind (readWord_stays ..) fun _ => .ite (.bind (readWords_stays ..) fun _ => .pure _)
      (.bind (.pure _) fun _ => .pure _)))))) (.bind (readWord_stays ..) fun _ => .ite (.bind (.throw _) fun _ => .bind
      (readSaved_stays ..) fun _ => .ite (.bind (.throw _) fun _ => .ite (.bind (.throw _) fun _ => .ite (.bind (.throw _)
      fun _ => .bind (readWord_stays ..) fun _ => .ite (.bind (readWords_stays ..) fun _ => .pure _) (.bind (.pure _) fun _ =>
      .pure _)) (.bind (readWord_stays ..) fun _ => .ite (.bind (readWords_stays ..) fun _ => .pure _) (.bind (.pure _)
      fun _ => .pure _))) (.ite (.bind (.throw _) fun _ => .bind (readWord_stays ..) fun _ => .ite (.bind (readWords_stays
      ..) fun _ => .pure _) (.bind (.pure _) fun _ => .pure _)) (.bind (readWord_stays ..) fun _ => .ite (.bind
      (readWords_stays ..) fun _ => .pure _) (.bind (.pure _) fun _ => .pure _)))) (.ite (.bind (.throw _) fun _ => .ite
      (.bind (.throw _) fun _ => .bind (readWord_stays ..) fun _ => .ite (.bind (readWords_stays ..) fun _ => .pure _) (.bind
      (.pure _) fun _ => .pure _)) (.bind (readWord_stays ..) fun _ => .ite (.bind (readWords_stays ..) fun _ => .pure _)
      (.bind (.pure _) fun _ => .pure _))) (.ite (.bind (.throw _) fun _ => .bind (readWord_stays ..) fun _ => .ite (.bind
      (readWords_stays ..) fun _ => .pure _) (.bind (.pure _) fun _ => .pure _)) (.bind (readWord_stays ..) fun _ => .ite
      (.bind (readWords_stays ..) fun _ => .pure _) (.bind (.pure _) fun _ => .pure _))))) (.bind (readSaved_stays ..)
      fun _ => .ite (.bind (.throw _) fun _ => .ite (.bind (.throw _) fun _ => .ite (.bind (.throw _) fun _ => .bind
      (readWord_stays ..) fun _ => .ite (.bind (readWords_stays ..) fun _ => .pure _) (.bind (.pure _) fun _ => .pure _))
      (.bind (readWord_stays ..) fun _ => .ite (.bind (readWords_stays ..) fun _ => .pure _) (.bind (.pure _) fun _ =>
      .pure _))) (.ite (.bind (.throw _) fun _ => .bind (readWord_stays ..) fun _ => .ite (.bind (readWords_stays ..) fun _ =>
      .pure _) (.bind (.pure _) fun _ => .pure _)) (.bind (readWord_stays ..) fun _ => .ite (.bind (readWords_stays ..)
      fun _ => .pure _) (.bind (.pure _) fun _ => .pure _)))) (.ite (.bind (.throw _) fun _ => .ite (.bind (.throw _) fun _ =>
      .bind (readWord_stays ..) fun _ => .ite (.bind (readWords_stays ..) fun _ => .pure _) (.bind (.pure _) fun _ =>
      .pure _)) (.bind (readWord_stays ..) fun _ => .ite (.bind (readWords_stays ..) fun _ => .pure _) (.bind (.pure _)
      fun _ => .pure _))) (.ite (.bind (.throw _) fun _ => .bind (readWord_stays ..) fun _ => .ite (.bind (readWords_stays
      ..) fun _ => .pure _) (.bind (.pure _) fun _ => .pure _)) (.bind (readWord_stays ..) fun _ => .ite (.bind
      (readWords_stays ..) fun _ => .pure _) (.bind (.pure _) fun _ => .pure _)))))))) hF

theorem tailChain_stays {F : List Area} (n : Nat) (h' : Nat) (x : Ctx) (long : Bool) (comp level line : Nat)
    (hF : [.fresh, .mem, .eccWb, .regs, .evTick, .events, .cores, .heatCnt, .heatDue, .slots, .badPorts] ⊆ F := by decide) :
    Stays F (tailChain n h' x long comp level line) := by
  unfold tailChain
  exact .mono (G := [.fresh, .mem, .eccWb, .regs, .evTick, .events, .cores, .heatCnt, .heatDue, .slots, .badPorts]) (.bind
      .get fun _ => .bind (upd_stays fun _ => drainAll_within (.refl _) ..) fun _ => .bind (.forM (fun _ => entryWrite_stays
      ..) _) fun _ => .bind (upd_stays fun _ => .rset (.refl _) _ _ _ (by decide)) fun _ => modCtx_stays ..) hF

theorem rfeBody_stays {F : List Area} (n : Nat) (h' : Nat)
    (hF : [.fresh, .mem, .eccWb, .regs, .evTick, .events, .cores, .heatCnt, .heatDue, .slots, .badPorts] ⊆ F := by decide) :
    Stays F (rfeBody n h') := by
  unfold rfeBody
  refine .mono (G := [.fresh, .mem, .eccWb, .regs, .evTick, .events, .cores, .heatCnt, .heatDue, .slots, .badPorts]) ?_ hF
  refine .bind .get fun _ => ?_
  refine .bind (rfeCheck_stays ..) fun _ => ?_
  refine .bind .get fun _ => ?_
  dsimp only
  split
  · exact .bind (tailChain_stays ..) fun _ => .bind (upd_stays fun _ => discardPq_within (.refl _) ..) fun _ => .pure _
  · exact .ite (.bind (upd_stays fun _ => drainAll_within (.refl _) ..) fun _ => .bind (entryWrite_stays ..) fun _ => .bind
      (modCtx_stays ..) fun _ => .bind (upd_stays fun _ => discardPq_within (.refl _) ..) fun _ => .pure _) (.bind
      (modCtx_stays ..) fun _ => .bind (upd_stays fun _ => discardPq_within (.refl _) ..) fun _ => .pure _)

theorem captureCells_within {F : List Area} {s t : State} (h : Within F s t)
    (hF : [.fresh, .tap] ⊆ F := by decide) : Within F s (captureCells t) := by
  unfold captureCells
  exact .after (t := t) (G := [.fresh, .tap]) ⟨rfl, id⟩ hF h

theorem empsRefresh_within {F : List Area} {s t : State} (h : Within F s t) (on : Bool)
    (hF : [.emps] ⊆ F := by decide) : Within F s (empsRefresh t on) := by
  unfold empsRefresh
  exact .after (t := t) (.foldl (fun _ _ => .ite (setEmp_within (.refl _) ..) (.refl _)) (.refl _)) hF h

theorem freezeNow_within {F : List Area} {s t : State} (h : Within F s t)
    (hF : [.frozen, .emps] ⊆ F := by decide) : Within F s (freezeNow t) := by
  unfold freezeNow
  exact .after (t := t) (.ite (.refl _) (empsRefresh_within (Within.setFrozen (.refl _) _ (by decide)) ..)) hF h

theorem retrainAll_within {F : List Area} {s t : State} (h : Within F s t)
    (hF : [.regs, .evTick, .events, .links, .cwys] ⊆ F := by decide) : Within F s (retrainAll t) := by
  unfold retrainAll
  exact .after (t := t) (.foldl (fun _ _ => .ite (startRetrain_within (.refl _) ..) (.refl _)) (.foldl (fun _ _ => .ite
      (startRetrain_within (.refl _) ..) (.refl _)) (.refl _))) hF h

theorem refThaw_within {F : List Area} {s t : State} (h : Within F s t) (i : Nat)
    (hF : [.regs, .evTick, .events, .refs, .reeds, .chans, .voters] ⊆ F := by decide) : Within F s (refThaw t i) := by
  unfold refThaw
  exact .after (t := t) (.ite (refTo_within (.refl _) ..) (.ite (setRef_within (.refl _) ..) (.refl _))) hF h

theorem frzInfo_within {F : List Area} {s t : State} (h : Within F s t) (f : Freeze)
    (hF : [.regs, .evTick, .events] ⊆ F := by decide) : Within F s (frzInfo t f) := by
  unfold frzInfo
  exact .after (t := t) (.rset (evPut_within (.refl _) ..) _ _ _ (by decide)) hF h

theorem thaw_within {F : List Area} {s t : State} (h : Within F s t) (f : Freeze)
    (hF : [.regs, .evTick, .events, .frozen, .refs, .reeds, .chans, .voters, .links, .cwys, .emps] ⊆ F := by decide) :
    Within F s (thaw t f) := by
  unfold thaw
  exact .after (t := t) (frzInfo_within (refCopies_within (.foldl (fun _ _ => refThaw_within (.refl _) ..) (retrainAll_within
      (empsRefresh_within (gdEdges_within (Within.setFrozen (.refl _) _ (by decide)) ..) ..) ..)) ..) ..) hF h

theorem tapScan_within {F : List Area} {s t : State} (h : Within F s t) (x : BoundaryCells)
    (hF : [.fresh, .tap] ⊆ F := by decide) : Within F s (tapScan t x) := by
  unfold tapScan
  refine .after (t := t) ?_ hF h
  dsimp only
  exact Within.setTap (captureCells_within (.refl _) ..) _ (by decide)

theorem tapSelect_within {F : List Area} {s t : State} (h : Within F s t) (ir : BitVec 8) (dr : BitVec 68)
    (hF : [.tap] ⊆ F := by decide) : Within F s (tapSelect t ir dr) := by
  unfold tapSelect
  refine .after (t := t) ?_ hF h
  dsimp only
  exact Within.setTap (.refl _) _ (by decide)

theorem debugGates_within {F : List Area} {s t : State} (h : Within F s t) (st : Stamp) (a : Nat) (k : Kind)
    (hF : [.regs, .evTick, .events] ⊆ F := by decide) : Within F s (debugGates t st a k).2 := by
  unfold debugGates
  refine .after (t := t) ?_ hF h
  dsimp only
  split
  · exact .refl _
  · split
    · exact .refl _
    · split
      · exact gateCapture_within (.refl _) ..
      · split
        · exact .refl _
        · exact targetCapture_within (.refl _) ..

theorem debugAccess_within {F : List Area} {s t : State} (h : Within F s t) (st : Stamp) (a : Nat) (write : Option Word)
    (hF : (.lcs :: .fusesRead :: .postId :: Area.ofReset : List Area) ⊆ F := by decide) :
    Within F s (debugAccess t st a write).2 := by
  refine .after (t := t) ?_ hF h
  have page : ∀ pg off, Within (.lcs :: .fusesRead :: .postId :: Area.ofReset : List Area) t (pageLoad t st pg off).2 :=
      fun pg off => pageLoad_within (.refl t) ..
  have words : Within (.lcs :: .fusesRead :: .postId :: Area.ofReset : List Area) t (readFor t (.die 0) a).2 := readFor_within
      (.refl t) ..
  have miss : ∀ r, Within (.lcs :: .fusesRead :: .postId :: Area.ofReset : List Area) t (reachRecord t 0 a r) :=
      fun r => reachRecord_within (.refl t) ..
  unfold debugAccess
  dsimp only
  split
  · split
    · split
      · split
        · exact pageStore_within (.refl t) ..
        · exact page _ _
      · split
        · exact .refl t
        · exact miss _
    · split
      · exact .setFresh (.refl t) _ (by decide)
      · exact miss .unpopulated
    · exact miss .unpopulated
  · cases memReach t a
    case ok => cases write with
      | some v => exact putFor_within (.refl t) ..
      | none => exact words
    all_goals
      cases write <;> dsimp only <;> exact miss _

theorem debugMaster_within {F : List Area} {s t : State} (h : Within F s t) (a : Nat) (write : Option Word)
    (hF : (.lcs :: .fusesRead :: .postId :: Area.ofReset : List Area) ⊆ F := by decide) :
    Within F s (debugMaster t a write).2 := by
  unfold debugMaster
  refine .after (t := t) ?_ hF h
  dsimp only
  split
  · split
    · split
      · exact debugAccess_within (debugGates_within (.refl _) ..) ..
      · exact debugGates_within (.refl _) ..
    · split
      · exact debugAccess_within (debugGates_within (.refl _) ..) ..
      · exact debugGates_within (.refl _) ..
  · exact .refl _

theorem moveRoutes_within {F : List Area} {s t : State} (h : Within F s t) (t' : TaskMig)
    (hF : [.regs] ⊆ F := by decide) : Within F s (moveRoutes t t') := by
  unfold moveRoutes
  exact .after (t := t) (.foldl (fun _ _ => .rset (.refl _) _ _ _ (by decide)) (.rset (.foldl (fun _ _ => .rset (.rset
      (.refl _) _ _ _ (by decide)) _ _ _ (by decide)) (.refl _)) _ _ _ (by decide))) hF h

theorem reloadRoots_stays {F : List Area} (n : Nat) (h' : Nat)
    (hF : [.fresh, .eccWb, .regs, .evTick, .events, .cores, .heatCnt, .heatDue, .slots, .badPorts] ⊆ F := by decide) :
    Stays F (reloadRoots n h') := by
  unfold reloadRoots
  exact .mono (G := [.fresh, .eccWb, .regs, .evTick, .events, .cores, .heatCnt, .heatDue, .slots, .badPorts]) (.bind .get
      fun _ => .ite (.bind (readPair_stays ..) fun _ => .bind (readPair_stays ..) fun _ => modCtx_stays ..) (.pure _)) hF

theorem endTask_within {F : List Area} {s t : State} (h : Within F s t) (d : Nat)
    (hF : [.regs, .sedges] ⊆ F := by decide) : Within F s (endTask t d) := by
  unfold endTask
  refine .after (t := t) ?_ hF h
  refine .rset ?_ _ _ _ (by decide)
  with_reducible refine .setSedge ?_ _ _ (by decide) fun _ now => ?_
  · exact .refl _
  · exact .of_tables (now.sedge _) rfl rfl

theorem rootHeld_within {F : List Area} {s t : State} (h : Within F s t) (s1 : State) (d n : Nat) {ended : State}
    (he : Within F s ended) (hF : [.regs, .cores, .sedges] ⊆ F := by decide) : Within F s (rootHeld t s1 d n ended) := by
  unfold rootHeld
  split
  · refine .ite (endTask_within (unitGoesOn_within he _ _ ?_) _ ?_) (unitWaits_within h _ _ _ ?_)
    all_goals exact List.Subset.trans (by decide) hF
  · exact h

theorem commitTask_within {F : List Area} {s t : State} (h : Within F s t) (d : Nat) (t' : TaskMig) (b : Bool)
    (hF : [.fresh, .eccWb, .regs, .evTick, .events, .cores, .heatCnt, .heatDue, .slots, .badPorts, .sedges] ⊆ F := by decide) :
    Within F s (commitTask t d t' b) := by
  refine .after (t := t) ?_ hF h
  have loaded : Stays [.fresh, .eccWb, .regs, .evTick, .events, .cores, .heatCnt, .heatDue, .slots, .badPorts, .sedges]
      (reloadRoots t'.dst t'.dctx) := reloadRoots_stays ..
  unfold commitTask
  dsimp only
  generalize hu : setCtx (setCtx (moveRoutes t t') t'.dst t'.dctx _) t'.src t'.ctx Ctx.init = u
  have before : Within [.fresh, .eccWb, .regs, .evTick, .events, .cores, .heatCnt, .heatDue, .slots, .badPorts,
      .sedges] t u := hu ▸ setCtx_within (setCtx_within (moveRoutes_within (.refl t) ..) ..) ..
  split
  · exact endTask_within (unitGoesOn_within (keepHeld_within (loaded.ok ‹_› before) ..) ..) ..
  · exact rootHeld_within (.refl t) _ _ _ before
  · exact endTask_within (unitGoesOn_within (setCtx_within (keepHeld_within (loaded.error ‹_› before) ..) ..) ..) ..

/-! ### Commands -/

/-- The fields that a command may write: all but the part, the queue and the count of fabric cycles. -/
abbrev Area.ofCommand : List Area :=
  .busReply :: .fusesRead :: .lcs :: .postId :: .straps :: .pins :: .tap :: Area.ofReset

/-- The command answers a next state, which is within F of s. -/
def Leads (F : List Area) (s : State) (o : Host.Outcome State Fault Refusal) : Prop := ∃ t, o = .next t ∧ Within F s t

namespace Leads
variable {F G : List Area} {s t : State} {o : Host.Outcome State Fault Refusal}

theorem done (h : Within F s t) : Leads F s (done t) := ⟨t, rfl, h⟩

theorem mono (h : Leads G s o) (hG : G ⊆ F) : Leads F s o := by
  obtain ⟨t, ho, ht⟩ := h
  exact ⟨t, ho, ht.mono hG⟩

theorem issue (iss : Iss) {i : Insn} (hi : ∀ n h, Stays F (i.body n h))
    (hF : [.fresh, .mem, .eccWb, .regs, .evTick, .events, .cores, .heatCnt, .heatDue, .slots, .badPorts, .safety, .reeds,
        .sedges, .chans, .voters, .vens, .carr] ⊆ F := by decide) :
    Leads F s (issue s iss i) := ⟨_, rfl, issueState_within (.refl s) iss hi hF⟩

end Leads

/-! The bodies of the instructions, by form. -/

theorem regInsn_stays {F : List Area} (raw : Word) (f : Ctx → Ctx) (n h : Nat) (hF : [.cores] ⊆ F := by decide) :
    Stays F ((regInsn raw f).body n h) := .bind (modCtx_stays _ _ _ hF) fun _ => .pure _

theorem mulMove_stays {F : List Area} (raw : Word) (f : Ctx → Ctx) (n h : Nat) (hF : [.cores] ⊆ F := by decide) :
    Stays F ((mulMove raw f).body n h) := .bind (upd_stays fun s => setCtx_within (.refl s) _ _ _ hF) fun _ => .pure _

theorem mulOp_stays {F : List Area} (fn : Nat) (val : Word → Int) (i : Iss) (a b : BitVec 5) (n h : Nat)
    (hF : [.cores] ⊆ F := by decide) : Stays F ((mulOp fn val i a b).body n h) :=
  .bind (upd_stays fun s => setCtx_within (.refl s) _ _ _ hF) fun _ => .pure _

theorem divOp_stays {F : List Area} (fn : Nat) (val : Word → Int) (i : Iss) (a b : BitVec 5) (n h : Nat)
    (hF : [.cores] ⊆ F := by decide) : Stays F ((divOp fn val i a b).body n h) := by
  refine .bind .get fun s => ?_
  dsimp only
  split
  · exact .throw _
  · exact .bind (upd_stays fun s => setCtx_within (.refl s) _ _ _ hF) fun _ => .pure _

theorem tryInsn_stays {F : List Area} (raw : Word) (f : Ctx → Except Trap Ctx) (n h : Nat) (hF : [.cores] ⊆ F := by decide) :
    Stays F ((tryInsn raw f).body n h) := by
  refine .bind .get fun s => ?_
  split
  · exact .bind (upd_stays fun s => setCtx_within (.refl s) _ _ _ hF) fun _ => .pure _
  · exact .throw _

theorem sizeInsn_stays {F : List Area} (fn : Nat) (f : Nat → Word) (i : Iss) (d a : BitVec 5) (n h : Nat)
    (hF : [.fresh, .cores] ⊆ F := by decide) : Stays F ((sizeInsn fn f i d a).body n h) := by
  have mod : ∀ g, Stays F (modCtx n h g) := fun g => modCtx_stays _ _ g (List.Subset.trans (by decide) hF)
  refine .bind .get fun s => ?_
  dsimp only
  split
  · exact .bind (mod _) fun _ => .pure _
  · refine .bind (act_stays fun s => freeTake_within (.refl s) (List.Subset.trans (by decide) hF)) fun _ => ?_
    exact .bind (mod _) fun _ => .pure _

theorem sysInsn_stays {F : List Area} (raw : Word) (dec : State → Nat → Nat → Option Trap) {body : Nat → Nat → X Unit}
    (hb : ∀ n h, Stays F (body n h)) (n h : Nat) : Stays F ((sysInsn raw dec body).body n h) :=
  .bind (hb n h) fun _ => .pure _

theorem loadInsn_stays {F : List Area} (major p sel : Nat) (i : Iss) (d : BitVec 5) (a : BitVec 4) (imm : Nat) (disp : Int)
    (n h : Nat)
    (hF : [.fresh, .eccWb, .regs, .evTick, .events, .cores, .heatCnt, .heatDue, .slots, .badPorts, .reeds, .sedges, .chans,
        .voters, .blocks, .links] ⊆ F := by decide) : Stays F ((loadInsn major p sel i d a imm disp).body n h) :=
  loadBody_stays p sel false (fun x => x.wIdx d.toNat) (fun x => x.cr a.toNat) a.toNat disp n h hF

theorem storeInsn_stays {F : List Area} (major : Nat) (i : Iss) (d : BitVec 5) (a : BitVec 4) (imm : Nat) (disp : Int)
    (word : Bool)
    (f : Word → Word) (mask : Word) (n h : Nat) (hF : (.lcs :: .fusesRead ::
        .postId :: Area.ofReset : List Area) ⊆ F := by decide) :
    Stays F ((storeInsn major i d a imm disp word f mask).body n h) :=
  storeBody_stays a.toNat disp word (fun x => f (x.wr d.toNat)) mask n h hF


theorem execRsload_leads {F : List Area} (core : BitVec 7) (b : Bool) (va : BitVec 30) (s : State)
    (hF : [.regs, .evTick, .events, .cores] ⊆ F := by decide) : Leads F s (execRsload core b va s) := by
  unfold execRsload
  exact .mono (G := [.regs, .evTick, .events, .cores]) (.done (unitDo_within (.refl _) _ fun _ => rsloadStore_within (.refl _)
      ..)) hF

theorem execRsloadDone_leads {F : List Area} (core : BitVec 7) (s : State)
    (hF : [.fresh, .eccWb, .regs, .evTick, .events, .cores, .heatCnt, .heatDue, .slots, .badPorts] ⊆ F := by decide) :
    Leads F s (execRsloadDone core s) := by
  unfold execRsloadDone
  refine .mono (G := [.fresh, .eccWb, .regs, .evTick, .events, .cores, .heatCnt, .heatDue, .slots, .badPorts]) ?_ hF
  refine .done ?_
  refine unitDo_within (.refl _) _ fun _ => ?_
  split
  · exact finishLoad_within (.refl _) ..
  · exact .refl _

theorem execRsctlClear_leads {F : List Area} (core : BitVec 7) (b : Bool) (s : State)
    (hF : [.regs, .evTick, .events, .cores] ⊆ F := by decide) : Leads F s (execRsctlClear core b s) := by
  unfold execRsctlClear
  exact .mono (G := [.regs, .evTick, .events, .cores]) (.done (unitDo_within (.refl _) _ fun _ => rsctlStore_within (.refl _)
      ..)) hF

theorem execRsctlCommit_leads {F : List Area} (core : BitVec 7) (b : Bool) (s : State)
    (hF : [.regs, .evTick, .events, .cores] ⊆ F := by decide) : Leads F s (execRsctlCommit core b s) := by
  unfold execRsctlCommit
  exact .mono (G := [.regs, .evTick, .events, .cores]) (.done (unitDo_within (.refl _) _ fun _ => rsctlStore_within (.refl _)
      ..)) hF

theorem execRsdataWrite_leads {F : List Area} (core : BitVec 7) (v : Word) (s : State)
    (hF : [.regs, .evTick, .events, .cores] ⊆ F := by decide) : Leads F s (execRsdataWrite core v s) := by
  unfold execRsdataWrite
  exact .mono (G := [.regs, .evTick, .events, .cores]) (.done (unitDo_within (.refl _) _ fun _ => .ite (epochStall_within
      (.refl _) ..) (rsdataStore_within (.refl _) ..))) hF

theorem execTargetGateWrite_leads {F : List Area} (gate : BitVec 8) (index : BitVec 4) (v : Word) (s : State)
    (hF : [.regs, .evTick, .events] ⊆ F := by decide) : Leads F s (execTargetGateWrite gate index v s) := by
  unfold execTargetGateWrite
  exact .mono (G := [.regs, .evTick, .events]) (.done (.ite (unitDo_within (.refl _) _ fun _ => plainWrite_within (.refl _)
      ..) (.refl _))) hF

theorem execGatecfgWrite_leads {F : List Area} (v : Word) (s : State)
    (hF : [.regs, .evTick, .events] ⊆ F := by decide) : Leads F s (execGatecfgWrite v s) := by
  unfold execGatecfgWrite
  exact .mono (G := [.regs, .evTick, .events]) (.done (unitDo_within (.refl _) _ fun _ => .ite (.refl _) (gatecfgStore_within
      (.refl _) ..))) hF

theorem execBlockDmaDescriptor_leads {F : List Area} (core : BitVec 7) (x : DmaDesc) (s : State)
    (hF : [.fresh, .busReply, .mem, .eccWb, .regs, .evTick, .events, .cores, .heatCnt, .heatDue, .slots,
        .badPorts] ⊆ F := by decide) :
    Leads F s (execBlockDmaDescriptor core x s) := by
  unfold execBlockDmaDescriptor
  exact .mono (G := [.fresh, .busReply, .mem, .eccWb, .regs, .evTick, .events, .cores, .heatCnt, .heatDue, .slots, .badPorts])
      (.done (.ite (.ite (dmaAnswer_within (setCore_within (.refl _) ..) ..) (dmaDepends_within (setCore_within (.refl _) ..)
      ..)) (.refl _))) hF

theorem execRegister_leads {F : List Area} (die : BitVec 3) (entry : BitVec 30) (comp : BitVec 8) (vpn : BitVec 20)
    (place : Word) (s : State)
    (hF : [.fresh, .mem, .eccWb, .regs, .evTick, .events, .marks, .heatCnt, .heatDue, .slots, .sedges] ⊆ F := by decide) :
    Leads F s (execRegister die entry comp vpn place s) := by
  unfold execRegister
  exact .mono (G := [.fresh, .mem, .eccWb, .regs, .evTick, .events, .marks, .heatCnt, .heatDue, .slots, .sedges]) (.done
      (unitDo_within (.refl _) _ fun _ => sedgeCmd_within (.refl _) _ fun _ => cmdRegister_within (.refl _) ..)) hF

theorem execSedgeRelease_leads {F : List Area} (die : BitVec 3) (entry : BitVec 30) (s : State)
    (hF : [.mem, .eccWb, .regs, .evTick, .events, .heatCnt, .heatDue, .slots, .sedges, .posts, .postId] ⊆ F := by decide) :
    Leads F s (execSedgeRelease die entry s) := by
  unfold execSedgeRelease
  exact .mono (G := [.mem, .eccWb, .regs, .evTick, .events, .heatCnt, .heatDue, .slots, .sedges, .posts, .postId]) (.done
      (unitDo_within (.refl _) _ fun _ => sedgeCmd_within (.refl _) _ fun _ => cmdRelease_within (.refl _) ..)) hF

theorem execMove_leads {F : List Area} (die : BitVec 3) (entry : BitVec 30) (place : Word) (s : State)
    (hF : [.fresh, .regs, .evTick, .events, .sedges] ⊆ F := by decide) : Leads F s (execMove die entry place s) := by
  unfold execMove
  exact .mono (G := [.fresh, .regs, .evTick, .events, .sedges]) (.done (unitDo_within (.refl _) _ fun _ => sedgeCmd_within
      (.refl _) _ fun _ => cmdMove_within (.refl _) ..)) hF

theorem execPool_leads {F : List Area} (die : BitVec 3) (first : BitVec 30) (count : BitVec 20) (s : State)
    (hF : [.regs, .evTick, .events, .sedges] ⊆ F := by decide) : Leads F s (execPool die first count s) := by
  unfold execPool
  exact .mono (G := [.regs, .evTick, .events, .sedges]) (.done (unitDo_within (.refl _) _ fun _ => sedgeCmd_within
      (.refl _) _ fun _ => cmdPool_within (.refl _) ..)) hF

theorem execReclaim_leads {F : List Area} (die : BitVec 3) (first : BitVec 30) (count : BitVec 20) (s : State)
    (hF : [.regs, .evTick, .events, .sedges] ⊆ F := by decide) : Leads F s (execReclaim die first count s) := by
  unfold execReclaim
  exact .mono (G := [.regs, .evTick, .events, .sedges]) (.done (unitDo_within (.refl _) _ fun _ => sedgeCmd_within
      (.refl _) _ fun _ => cmdReclaim_within (.refl _) ..)) hF

theorem execPin_leads {F : List Area} (die : BitVec 3) (entry : BitVec 30) (pin : Bool) (s : State)
    (hF : [.regs, .evTick, .events, .sedges] ⊆ F := by decide) : Leads F s (execPin die entry pin s) := by
  unfold execPin
  exact .mono (G := [.regs, .evTick, .events, .sedges]) (.done (unitDo_within (.refl _) _ fun _ => sedgeCmd_within
      (.refl _) _ fun _ => cmdPin_within (.refl _) ..)) hF

theorem execSedgeCommandDone_leads {F : List Area} (die : BitVec 3) (s : State)
    (hF : [.regs, .evTick, .events, .marks, .sedges] ⊆ F := by decide) : Leads F s (execSedgeCommandDone die s) := by
  unfold execSedgeCommandDone
  refine .mono (G := [.regs, .evTick, .events, .marks, .sedges]) ?_ hF
  refine .done ?_
  refine .ite ?_ (.refl _)
  dsimp only
  split
  · exact .refl _
  · refine .ite (.refl _) ?_
    refine irqPend_within ?_ ..
    refine .rset ?_ _ _ _ (by decide)
    refine .setSedge ?_ _ _ (by decide) fun canon now => .of_tables (now.sedge _) rfl rfl
    split
    · exact endRelease_within (.refl _) ..
    · exact .refl _

theorem execCompclsWrite_leads {F : List Area} (die : BitVec 3) (c : BitVec 8) (v : Word) (s : State)
    (hF : [.regs, .evTick, .events] ⊆ F := by decide) : Leads F s (execCompclsWrite die c v s) := by
  unfold execCompclsWrite
  exact .mono (G := [.regs, .evTick, .events]) (.done (unitDo_within (.refl _) _ fun _ => compclsStore_within (.refl _) ..)) hF

theorem execSedgeSrst_leads {F : List Area} (die : BitVec 3) (s : State)
    (hF : [.regs, .evTick, .events] ⊆ F := by decide) : Leads F s (execSedgeSrst die s) := by
  unfold execSedgeSrst
  exact .mono (G := [.regs, .evTick, .events]) (.done (unitDo_within (.refl _) _ fun _ => sedgeReset_within (.refl _) ..)) hF

theorem execHeatReport_leads {F : List Area} (frame : BitVec 20) (die : BitVec 3) (s : State)
    (hF : [.heatDue, .sedges] ⊆ F := by decide) : Leads F s (execHeatReport frame die s) := by
  unfold execHeatReport
  exact .mono (G := [.heatDue, .sedges]) (.done (.ite (.refl _) (.foldl (fun _ _ => .ite (.foldl (fun _ _ => putDir_within
      (.refl _) ..) (.refl _)) (.refl _)) (Within.setHeatDue (.refl _) _ (by decide))))) hF

theorem execHeatHalving_leads {F : List Area} (die : BitVec 3) (s : State)
    (hF : [.fresh, .cores, .sedges] ⊆ F := by decide) : Leads F s (execHeatHalving die s) := by
  unfold execHeatHalving
  exact .mono (G := [.fresh, .cores, .sedges]) (.done (.ite (heatHalve_within (.refl _) ..) (.refl _))) hF

theorem execHeatMigrationStart_leads {F : List Area} (die : BitVec 3) (index : BitVec 13) (s : State)
    (hF : [.fresh, .sedges] ⊆ F := by decide) : Leads F s (execHeatMigrationStart die index s) := by
  unfold execHeatMigrationStart
  exact .mono (G := [.fresh, .sedges]) (.done (.ite (.ite (heatStart_within (.refl _) ..) (demoteStart_within (.refl _) ..))
      (.refl _))) hF

theorem execMigrationFrameGrant_leads {F : List Area} (die : BitVec 3) (s : State)
    (hF : [.fresh, .mem, .eccWb, .regs, .evTick, .events, .heatCnt, .heatDue, .slots, .sedges, .posts,
        .postId] ⊆ F := by decide) :
    Leads F s (execMigrationFrameGrant die s) := by
  unfold execMigrationFrameGrant
  exact .mono (G := [.fresh, .mem, .eccWb, .regs, .evTick, .events, .heatCnt, .heatDue, .slots, .sedges, .posts, .postId])
      (.done (migStep_within (.refl _) _ _ fun _ _ => migGrant_within (.refl _) ..)) hF

theorem execMigrationCopyPair_leads {F : List Area} (die : BitVec 3) (s : State)
    (hF : [.fresh, .mem, .eccWb, .regs, .evTick, .events, .cores, .heatCnt, .heatDue, .slots, .badPorts,
        .sedges] ⊆ F := by decide) :
    Leads F s (execMigrationCopyPair die s) := by
  unfold execMigrationCopyPair
  exact .mono (G := [.fresh, .mem, .eccWb, .regs, .evTick, .events, .cores, .heatCnt, .heatDue, .slots, .badPorts, .sedges])
      (.done (migStep_within (.refl _) _ _ fun _ _ => migCopy_within (.refl _) ..)) hF

theorem execMigrationMake_leads {F : List Area} (die : BitVec 3) (s : State)
    (hF : [.mem, .eccWb, .regs, .evTick, .events, .cores, .heatCnt, .heatDue, .slots, .sedges] ⊆ F := by decide) :
    Leads F s (execMigrationMake die s) := by
  unfold execMigrationMake
  exact .mono (G := [.mem, .eccWb, .regs, .evTick, .events, .cores, .heatCnt, .heatDue, .slots, .sedges]) (.done
      (migStep_within (.refl _) _ _ fun _ _ => migMake_within (.refl _) ..)) hF

theorem execMigrationConfirm_leads {F : List Area} (die : BitVec 3) (s : State)
    (hF : [.fresh, .regs, .sedges] ⊆ F := by decide) : Leads F s (execMigrationConfirm die s) := by
  unfold execMigrationConfirm
  exact .mono (G := [.fresh, .regs, .sedges]) (.done (migStep_within (.refl _) _ _ fun _ _ => migConfirm_within (.refl _)
      ..)) hF

theorem execHeldmaxRead_leads {F : List Area} (die : BitVec 3) (s : State)
    (hF : [.busReply, .regs] ⊆ F := by decide) : Leads F s (execHeldmaxRead die s) := by
  unfold execHeldmaxRead
  exact .mono (G := [.busReply, .regs]) (.done (unitDo_within (.refl _) _ fun _ => replyWord_within (heldmaxLoad_within
      (.refl _) ..) ..)) hF

theorem execFrames0Read_leads {F : List Area} (die : BitVec 3) (s : State)
    (hF : [.busReply, .sedges] ⊆ F := by decide) : Leads F s (execFrames0Read die s) := by
  unfold execFrames0Read
  exact .mono (G := [.busReply, .sedges]) (.done (unitDo_within (.refl _) _ fun _ => replyWord_within (frames0Load_within
      (.refl _) ..) ..)) hF

theorem execCtxbindStart_leads {F : List Area} (core : BitVec 7) (h : BitVec 2) (addr : BitVec 30) (s : State)
    (hF : [.fresh, .mem, .eccWb, .regs, .evTick, .events, .cores, .heatCnt, .heatDue, .slots, .badPorts,
        .doms] ⊆ F := by decide) :
    Leads F s (execCtxbindStart core h addr s) := by
  unfold execCtxbindStart
  exact .mono (G := [.fresh, .mem, .eccWb, .regs, .evTick, .events, .cores, .heatCnt, .heatDue, .slots, .badPorts, .doms])
      (.done (unitDo_within (.refl _) _ fun _ => bindStart_within (.refl _) ..)) hF

theorem execCtxbindStop_leads {F : List Area} (core : BitVec 7) (h : BitVec 2) (s : State)
    (hF : [.fresh, .mem, .eccWb, .regs, .evTick, .events, .cores, .heatCnt, .heatDue, .slots, .badPorts] ⊆ F := by decide) :
    Leads F s (execCtxbindStop core h s) := by
  unfold execCtxbindStop
  exact .mono (G := [.fresh, .mem, .eccWb, .regs, .evTick, .events, .cores, .heatCnt, .heatDue, .slots, .badPorts]) (.done
      (unitDo_within (.refl _) _ fun _ => bindStop_within (.refl _) ..)) hF

theorem execRing_leads {F : List Area} (core : BitVec 7) (s : State)
    (hF : [.regs, .evTick, .events] ⊆ F := by decide) : Leads F s (execRing core s) := by
  unfold execRing
  exact .mono (G := [.regs, .evTick, .events]) (.done (unitDo_within (.refl _) _ fun _ => dbellStore_within (.refl _) ..)) hF

theorem execFlush_leads {F : List Area} (core : BitVec 7) (s : State)
    (hF : [.cores] ⊆ F := by decide) : Leads F s (execFlush core s) := by
  unfold execFlush
  exact .mono (G := [.cores]) (.done (unitDo_within (.refl _) _ fun _ => tcctlStore_within (.refl _) ..)) hF

theorem execPmctlClr_leads {F : List Area} (core : BitVec 7) (s : State)
    (hF : [.regs] ⊆ F := by decide) : Leads F s (execPmctlClr core s) := by
  unfold execPmctlClr
  exact .mono (G := [.regs]) (.done (unitDo_within (.refl _) _ fun _ => clearCounters_within (.refl _) ..)) hF

theorem execTtbWrite_leads {F : List Area} (core : BitVec 7) (v : Word) (s : State)
    (hF : [.regs, .evTick, .events] ⊆ F := by decide) : Leads F s (execTtbWrite core v s) := by
  unfold execTtbWrite
  exact .mono (G := [.regs, .evTick, .events]) (.done (unitDo_within (.refl _) _ fun _ => plainWrite_within (.refl _) ..)) hF

theorem execRegfileParityError_leads {F : List Area} (core : BitVec 7) (s : State)
    (hF : [.fresh, .mem, .eccWb, .regs, .evTick, .events, .enHeld, .cores, .heatCnt, .heatDue, .steals, .slots, .badPorts,
        .doms, .sedges, .posts, .sweeps, .chans, .voters, .blocks, .links, .cwys, .eths, .prps, .emps] ⊆ F := by decide) :
    Leads F s (execRegfileParityError core s) := by
  unfold execRegfileParityError
  exact .mono (G := [.fresh, .mem, .eccWb, .regs, .evTick, .events, .enHeld, .cores, .heatCnt, .heatDue, .steals, .slots,
      .badPorts, .doms, .sedges, .posts, .sweeps, .chans, .voters, .blocks, .links, .cwys, .eths, .prps, .emps]) (.done
      (unitDo_within (.refl _) _ fun _ => domHold_within (capture_within (Within.setFresh (.refl _) _ (by decide)) ..) ..)) hF

theorem execEthFrameTransmit_leads {F : List Area} (port : BitVec 2) (s : State)
    (hF : [.fresh, .mem, .eccWb, .regs, .evTick, .events, .heatCnt, .heatDue, .slots, .badPorts, .eths] ⊆ F := by decide) :
    Leads F s (execEthFrameTransmit port s) := by
  unfold execEthFrameTransmit
  exact .mono (G := [.fresh, .mem, .eccWb, .regs, .evTick, .events, .heatCnt, .heatDue, .slots, .badPorts, .eths]) (.done
      (.ite (ethTransmit_within (.refl _) ..) (.refl _))) hF

theorem execEthFrameReceive_leads {F : List Area} (port : BitVec 2) (octets : List (BitVec 8)) (s : State)
    (hF : [.fresh, .mem, .eccWb, .regs, .evTick, .events, .heatCnt, .heatDue, .slots, .badPorts, .eths,
        .prps] ⊆ F := by decide) :
    Leads F s (execEthFrameReceive port octets s) := by
  unfold execEthFrameReceive
  exact .mono (G := [.fresh, .mem, .eccWb, .regs, .evTick, .events, .heatCnt, .heatDue, .slots, .badPorts, .eths, .prps])
      (.done (.ite (.ite (prpReceive_within (.refl _) ..) (rinc_within (.refl _) ..)) (.refl _))) hF

theorem execEthLinkChange_leads {F : List Area} (port : BitVec 2) (up : Bool) (s : State)
    (hF : [.eths] ⊆ F := by decide) : Leads F s (execEthLinkChange port up s) := by
  unfold execEthLinkChange
  exact .mono (G := [.eths]) (.done (.ite (setEth_within (.refl _) ..) (.refl _))) hF

theorem execRegionErrorReport_leads {F : List Area} (region cause : BitVec 5) (info : BitVec 30) (response : Containment)
    (s : State)
    (hF : [.fresh, .mem, .eccWb, .regs, .evTick, .events, .enHeld, .cores, .heatCnt, .heatDue, .steals, .slots, .badPorts,
        .safety, .doms, .isol, .reeds, .sedges, .posts, .sweeps, .chans, .voters, .blocks, .vens, .links, .cwys, .eths, .prps,
        .emps, .carr] ⊆ F := by decide) :
    Leads F s (execRegionErrorReport region cause info response s) := by
  unfold execRegionErrorReport
  refine .mono (G := [.fresh, .mem, .eccWb, .regs, .evTick, .events, .enHeld, .cores, .heatCnt, .heatDue, .steals, .slots,
      .badPorts, .safety, .doms, .isol, .reeds, .sedges, .posts, .sweeps, .chans, .voters, .blocks, .vens, .links, .cwys,
      .eths, .prps, .emps, .carr]) ?_ hF
  refine .done ?_
  refine unitDo_within (.refl _) _ fun _ => ?_
  dsimp only
  split
  · exact capture_within (.refl _) ..
  · exact domHold_within (domHold_within (capture_within (.refl _) ..) ..) ..
  · exact domHold_within (capture_within (.refl _) ..) ..
  · exact isolate_within (capture_within (.refl _) ..) ..
  · exact isolate_within (capture_within (capture_within (.refl _) ..) ..) ..
  · exact mireEnter_within (.refl _) ..

theorem execHeartbeatTimeout_leads {F : List Area} (region : BitVec 5) (s : State)
    (hF : [.fresh, .mem, .eccWb, .regs, .evTick, .events, .enHeld, .cores, .heatCnt, .heatDue, .steals, .slots, .badPorts,
        .safety, .doms, .isol, .reeds, .sedges, .posts, .sweeps, .chans, .voters, .blocks, .vens, .links, .cwys, .eths, .prps,
        .emps, .carr] ⊆ F := by decide) :
    Leads F s (execHeartbeatTimeout region s) := by
  unfold execHeartbeatTimeout
  exact .mono (G := [.fresh, .mem, .eccWb, .regs, .evTick, .events, .enHeld, .cores, .heatCnt, .heatDue, .steals, .slots,
      .badPorts, .safety, .doms, .isol, .reeds, .sedges, .posts, .sweeps, .chans, .voters, .blocks, .vens, .links, .cwys,
      .eths, .prps, .emps, .carr]) (.done (.ite (unitDo_within (.refl _) _ fun _ => isolate_within (.refl _) ..) (.refl _))) hF

theorem execCrossbarGrant_leads {F : List Area} (region : BitVec 5) (output input : BitVec 3) (u : CrossbarUnit) (s : State)
    (hF : [.badPorts, .links] ⊆ F := by decide) : Leads F s (execCrossbarGrant region output input u s) := by
  unfold execCrossbarGrant
  exact .mono (G := [.badPorts, .links]) (.done (.ite (.ite (portFails_within (grant_within (.refl _) ..) ..) (grant_within
      (.refl _) ..)) (.refl _))) hF

theorem execUnitTransmit_leads {F : List Area} (link : LinkDir) (traffic : Traffic) (dest : BitVec 3) (s : State)
    (hF : [.links] ⊆ F := by decide) : Leads F s (execUnitTransmit link traffic dest s) := by
  unfold execUnitTransmit
  exact .mono (G := [.links]) (.done (.ite (transmit_within (.refl _) ..) (.refl _))) hF

theorem execUnitReceive_leads {F : List Area} (link : LinkDir) (timed : Bool) (seq : BitVec 12) (bits : UnitBits) (s : State)
    (hF : [.fresh, .mem, .eccWb, .regs, .evTick, .events, .enHeld, .cores, .heatCnt, .heatDue, .steals, .slots, .badPorts,
        .safety, .doms, .isol, .reeds, .sedges, .posts, .sweeps, .chans, .voters, .blocks, .vens, .links, .cwys, .eths, .prps,
        .emps, .carr] ⊆ F := by decide) :
    Leads F s (execUnitReceive link timed seq bits s) := by
  unfold execUnitReceive
  exact .mono (G := [.fresh, .mem, .eccWb, .regs, .evTick, .events, .enHeld, .cores, .heatCnt, .heatDue, .steals, .slots,
      .badPorts, .safety, .doms, .isol, .reeds, .sedges, .posts, .sweeps, .chans, .voters, .blocks, .vens, .links, .cwys,
      .eths, .prps, .emps, .carr]) (.done (.ite (receive_within (.refl _) ..) (.refl _))) hF

theorem execCreditReturn_leads {F : List Area} (link : LinkDir) (c : CreditReturn) (s : State)
    (hF : [.regs, .evTick, .events, .links, .cwys] ⊆ F := by decide) : Leads F s (execCreditReturn link c s) := by
  unfold execCreditReturn
  refine .mono (G := [.regs, .evTick, .events, .links, .cwys]) ?_ hF
  refine .done ?_
  refine .ite ?_ (.refl _)
  dsimp only
  split
  · exact .ite (ackReceived_within (creditBack_within (.refl _) ..) ..) (creditBack_within (.refl _) ..)
  · exact creditBack_within (.refl _) ..

theorem execNak_leads {F : List Area} (link : LinkDir) (seq : BitVec 12) (s : State)
    (hF : [.regs, .evTick, .events, .links, .cwys] ⊆ F := by decide) : Leads F s (execNak link seq s) := by
  unfold execNak
  exact .mono (G := [.regs, .evTick, .events, .links, .cwys]) (.done (.ite (nakReceived_within (.refl _) ..) (.refl _))) hF

theorem execLaneLockLoss_leads {F : List Area} (link : LinkDir) (s : State)
    (hF : [.fresh, .regs, .evTick, .events, .links, .cwys] ⊆ F := by decide) : Leads F s (execLaneLockLoss link s) := by
  unfold execLaneLockLoss
  exact .mono (G := [.fresh, .regs, .evTick, .events, .links, .cwys]) (.done (.ite (lanesLost_within (startRetrain_within
      (.refl _) ..) ..) (.refl _))) hF

theorem execRetrainExchange_leads {F : List Area} (link : LinkDir) (s : State)
    (hF : [.regs, .links, .cwys] ⊆ F := by decide) : Leads F s (execRetrainExchange link s) := by
  unfold execRetrainExchange
  exact .mono (G := [.regs, .links, .cwys]) (.done (.ite (exchange_within (exchange_within (lanesLocked_within (.refl _) ..)
      ..) ..) (.refl _))) hF

theorem execRetrainAttemptEnd_leads {F : List Area} (link : LinkDir) (s : State)
    (hF : [.regs, .evTick, .events, .cores, .safety, .reeds, .chans, .voters, .vens, .links, .carr] ⊆ F := by decide) :
    Leads F s (execRetrainAttemptEnd link s) := by
  unfold execRetrainAttemptEnd
  exact .mono (G := [.regs, .evTick, .events, .cores, .safety, .reeds, .chans, .voters, .vens, .links, .carr]) (.done (.ite
      (.ite (setLink_within (setLink_within (.refl _) ..) ..) (.ite (bridgeFailed_within (setLink_within (setLink_within
      (.refl _) ..) ..) ..) (causewayDown_within (setLink_within (setLink_within (.refl _) ..) ..) ..))) (.refl _))) hF

theorem execCrossingDetected_leads {F : List Area} (i : BitVec 3) (x : Crossing) (s : State)
    (hF : [.regs, .evTick, .events, .refs, .reeds, .chans, .voters] ⊆ F := by decide) :
    Leads F s (execCrossingDetected i x s) := by
  unfold execCrossingDetected
  refine .mono (G := [.regs, .evTick, .events, .refs, .reeds, .chans, .voters]) ?_ hF
  refine .done ?_
  refine unitDo_within (.refl _) _ fun _ => ?_
  refine .ite (.ite (refCopies_within (crossing_within (.refl _) ..) ..) (.refl _)) ?_
  refine .ite ?_ (.refl _)
  dsimp only
  split
  · exact refCopies_within (crossing_within (setRef_within (.refl _) ..) ..) ..
  · exact .refl _

theorem execCrossingTimeout_leads {F : List Area} (i : BitVec 3) (s : State)
    (hF : [.regs, .evTick, .events, .refs, .reeds, .chans, .voters] ⊆ F := by decide) :
    Leads F s (execCrossingTimeout i s) := by
  unfold execCrossingTimeout
  exact .mono (G := [.regs, .evTick, .events, .refs, .reeds, .chans, .voters]) (.done (unitDo_within (.refl _) _ fun _ => .ite
      (refCopies_within (refTo_within (.refl _) ..) ..) (.refl _))) hF

theorem execHoldmaxExpiry_leads {F : List Area} (i : BitVec 3) (s : State)
    (hF : [.regs, .evTick, .events, .refs, .reeds, .chans, .voters] ⊆ F := by decide) : Leads F s (execHoldmaxExpiry i s) := by
  unfold execHoldmaxExpiry
  exact .mono (G := [.regs, .evTick, .events, .refs, .reeds, .chans, .voters]) (.done (unitDo_within (.refl _) _ fun _ => .ite
      (refCopies_within (refTo_within (.refl _) ..) ..) (.refl _))) hF

theorem execRefcfgWrite_leads {F : List Area} (i : BitVec 3) (v : Word) (s : State)
    (hF : [.regs, .evTick, .events, .refs, .reeds, .chans, .voters] ⊆ F := by decide) : Leads F s (execRefcfgWrite i v s) := by
  unfold execRefcfgWrite
  exact .mono (G := [.regs, .evTick, .events, .refs, .reeds, .chans, .voters]) (.done (unitDo_within (.refl _) _
      fun _ => refcfgStore_within (.refl _) ..)) hF

theorem execSyntheticLock_leads {F : List Area} (i : BitVec 3) (s : State)
    (hF : [.regs, .evTick, .events, .refs, .reeds, .chans, .voters] ⊆ F := by decide) : Leads F s (execSyntheticLock i s) := by
  unfold execSyntheticLock
  exact .mono (G := [.regs, .evTick, .events, .refs, .reeds, .chans, .voters]) (.done (unitDo_within (.refl _) _ fun _ => .ite
      (refCopies_within (refTo_within (.refl _) ..) ..) (.refl _))) hF

theorem execPhrefSrst_leads {F : List Area} (s : State)
    (hF : [.regs, .evTick, .events, .refs, .reeds, .chans, .voters] ⊆ F := by decide) : Leads F s (execPhrefSrst s) := by
  unfold execPhrefSrst
  exact .mono (G := [.regs, .evTick, .events, .refs, .reeds, .chans, .voters]) (.done (unitDo_within (.refl _) _
      fun _ => phrefReset_within (.refl _) ..)) hF

theorem execTtLoRead_leads {F : List Area} (s : State)
    (hF : [.busReply, .regs] ⊆ F := by decide) : Leads F s (execTtLoRead s) := by
  unfold execTtLoRead
  exact .mono (G := [.busReply, .regs]) (.done (unitDo_within (.refl _) _ fun _ => replyWord_within (ttLoRead_within (.refl _)
      ..) ..)) hF

theorem execRateWrite_leads {F : List Area} (v : Word) (s : State)
    (hF : [.regs, .evTick, .events] ⊆ F := by decide) : Leads F s (execRateWrite v s) := by
  unfold execRateWrite
  exact .mono (G := [.regs, .evTick, .events]) (.done (unitDo_within (.refl _) _ fun _ => rateStore_within (.refl _) ..)) hF

theorem execStepHi_leads {F : List Area} (v : StepWrite) (s : State)
    (hF : [.regs, .evTick, .events, .tt, .ttMarks, .sync, .voters] ⊆ F := by decide) : Leads F s (execStepHi v s) := by
  unfold execStepHi
  exact .mono (G := [.regs, .evTick, .events, .tt, .ttMarks, .sync, .voters]) (.done (unitDo_within (.refl _) _ fun _ => .ite
      (.rset (captureAt_within (.refl _) ..) _ _ _ (by decide)) (stepStore_within (.refl _) ..))) hF

theorem execTtimeSrst_leads {F : List Area} (s : State)
    (hF : [.regs, .evTick, .events] ⊆ F := by decide) : Leads F s (execTtimeSrst s) := by
  unfold execTtimeSrst
  exact .mono (G := [.regs, .evTick, .events]) (.done (unitDo_within (.refl _) _ fun _ => ttimeReset_within (.refl _) ..)) hF

theorem execLinkUp_leads {F : List Area} (link : BitVec 2) (peer : PeerFacts) (s : State)
    (hF : [.regs, .evTick, .events, .links, .cwys] ⊆ F := by decide) : Leads F s (execLinkUp link peer s) := by
  unfold execLinkUp
  exact .mono (G := [.regs, .evTick, .events, .links, .cwys]) (.done (.ite (.ite (linkWaits_within (capture_within
      (linkFacts_within (linkPools_within (.refl _) ..) ..) ..) ..) (setCwyState_within (linkFacts_within (linkPools_within
      (.refl _) ..) ..) ..)) (.refl _))) hF

theorem execStackDeclare_leads {F : List Area} (s : State)
    (hF : [.regs, .evTick, .events, .cwys, .stack] ⊆ F := by decide) : Leads F s (execStackDeclare s) := by
  unfold execStackDeclare
  exact .mono (G := [.regs, .evTick, .events, .cwys, .stack]) (.done (unitDo_within (.refl _) _ fun _ => .ite
      (stackChanged_within (showMembers_within (Within.setStack (.refl _) _ (by decide)) ..) ..) (.refl _))) hF

theorem execJoinRequest_leads {F : List Area} (link : BitVec 2) (peer : PeerFacts) (s : State)
    (hF : [.regs, .evTick, .events, .tt, .ttMarks, .sync, .voters, .links, .cwys, .stack] ⊆ F := by decide) :
    Leads F s (execJoinRequest link peer s) := by
  unfold execJoinRequest
  exact .mono (G := [.regs, .evTick, .events, .tt, .ttMarks, .sync, .voters, .links, .cwys, .stack]) (.done (.ite (.ite
      (setCwy_within (.refl _) ..) (.ite (followerJoin_within (.refl _) ..) (.ite (.refl _) (.ite (.refl _) (.ite
      (admitted_within (.refl _) ..) (joinRefused_within (.refl _) ..)))))) (.refl _))) hF

theorem execMemberRemoval_leads {F : List Area} (pos : BitVec 2) (s : State)
    (hF : [.regs, .evTick, .events, .sync, .refs, .reeds, .chans, .voters, .cwys, .stack] ⊆ F := by decide) :
    Leads F s (execMemberRemoval pos s) := by
  unfold execMemberRemoval
  refine .mono (G := [.regs, .evTick, .events, .sync, .refs, .reeds, .chans, .voters, .cwys, .stack]) ?_ hF
  refine .done ?_
  refine unitDo_within (.refl _) _ fun _ => ?_
  refine .ite ?_ (.refl _)
  refine .ite ?_ ?_
  · refine syncLost_within ?_ ..
    refine stackChanged_within ?_ ..
    refine capture_within ?_ ..
    refine forgetPos_within ?_ ..
    dsimp only
    exact Within.setStack (.refl _) _ (by decide)
  · refine stackChanged_within ?_ ..
    refine capture_within ?_ ..
    refine forgetPos_within ?_ ..
    dsimp only
    exact Within.setStack (.refl _) _ (by decide)

theorem execLeave_leads {F : List Area} (s : State)
    (hF : [.regs, .evTick, .events, .sync, .refs, .reeds, .chans, .voters, .cwys, .stack] ⊆ F := by decide) :
    Leads F s (execLeave s) := by
  unfold execLeave
  exact .mono (G := [.regs, .evTick, .events, .sync, .refs, .reeds, .chans, .voters, .cwys, .stack]) (.done (unitDo_within
      (.refl _) _ fun _ => leaveStack_within (.refl _) ..)) hF

theorem execSyncPacket_leads {F : List Area} (link : BitVec 2) (time : MasterTime) (refs : List RefSample) (s : State)
    (hF : [.fresh, .regs, .evTick, .events, .sync, .refs, .reeds, .chans, .voters] ⊆ F := by decide) :
    Leads F s (execSyncPacket link time refs s) := by
  unfold execSyncPacket
  exact .mono (G := [.fresh, .regs, .evTick, .events, .sync, .refs, .reeds, .chans, .voters]) (.done (.ite (remoteRefs_within
      (holdTo_within (.rset (syncFrom_within (stepLearn_within (.refl _) ..) ..) _ _ _ (by decide)) ..) ..) (.refl _))) hF

theorem execSyncTimeout_leads {F : List Area} (s : State)
    (hF : [.regs, .evTick, .events, .sync, .refs, .reeds, .chans, .voters] ⊆ F := by decide) :
    Leads F s (execSyncTimeout s) := by
  unfold execSyncTimeout
  exact .mono (G := [.regs, .evTick, .events, .sync, .refs, .reeds, .chans, .voters]) (.done (.ite (syncLost_within (.refl _)
      ..) (.refl _))) hF

theorem execRoundTripMeasure_leads {F : List Area} (link : BitVec 2) (trip : RoundTrip) (s : State)
    (hF : [.cwys] ⊆ F := by decide) : Leads F s (execRoundTripMeasure link trip s) := by
  unfold execRoundTripMeasure
  exact .mono (G := [.cwys]) (.done (.ite (setCwy_within (.refl _) ..) (.refl _))) hF

theorem execAttest_leads {F : List Area} (st : Stamp) (start : CarrStart) (s : State)
    (hF : [.fresh, .mem, .eccWb, .regs, .evTick, .events, .cores, .heatCnt, .heatDue, .slots, .badPorts, .safety, .lcs,
        .heldSvc, .boot, .fuses, .fusesRead, .reeds, .chans, .voters, .blocks, .vens, .carr] ⊆ F := by decide) :
    Leads F s (execAttest st start s) := by
  unfold execAttest
  exact .mono (G := [.fresh, .mem, .eccWb, .regs, .evTick, .events, .cores, .heatCnt, .heatDue, .slots, .badPorts, .safety,
      .lcs, .heldSvc, .boot, .fuses, .fusesRead, .reeds, .chans, .voters, .blocks, .vens, .carr]) (.done (unitDo_within
      (.refl _) _ fun _ => carrCmd_within (.refl _) ..)) hF

theorem execIdkey_leads {F : List Area} (st : Stamp) (addr : BitVec 30) (s : State)
    (hF : [.fresh, .mem, .eccWb, .regs, .evTick, .events, .cores, .heatCnt, .heatDue, .slots, .badPorts, .safety, .lcs,
        .heldSvc, .boot, .fuses, .fusesRead, .reeds, .chans, .voters, .blocks, .vens, .carr] ⊆ F := by decide) :
    Leads F s (execIdkey st addr s) := by
  unfold execIdkey
  exact .mono (G := [.fresh, .mem, .eccWb, .regs, .evTick, .events, .cores, .heatCnt, .heatDue, .slots, .badPorts, .safety,
      .lcs, .heldSvc, .boot, .fuses, .fusesRead, .reeds, .chans, .voters, .blocks, .vens, .carr]) (.done (unitDo_within
      (.refl _) _ fun _ => carrCmd_within (.refl _) ..)) hF

theorem execChal_leads {F : List Area} (st : Stamp) (start : CarrStart) (s : State)
    (hF : [.fresh, .mem, .eccWb, .regs, .evTick, .events, .cores, .heatCnt, .heatDue, .slots, .badPorts, .safety, .lcs,
        .heldSvc, .boot, .fuses, .fusesRead, .reeds, .chans, .voters, .blocks, .vens, .carr] ⊆ F := by decide) :
    Leads F s (execChal st start s) := by
  unfold execChal
  exact .mono (G := [.fresh, .mem, .eccWb, .regs, .evTick, .events, .cores, .heatCnt, .heatDue, .slots, .badPorts, .safety,
      .lcs, .heldSvc, .boot, .fuses, .fusesRead, .reeds, .chans, .voters, .blocks, .vens, .carr]) (.done (unitDo_within
      (.refl _) _ fun _ => carrCmd_within (.refl _) ..)) hF

theorem execDbgresp_leads {F : List Area} (st : Stamp) (addr : BitVec 30) (s : State)
    (hF : [.fresh, .mem, .eccWb, .regs, .evTick, .events, .cores, .heatCnt, .heatDue, .slots, .badPorts, .safety, .lcs,
        .heldSvc, .boot, .fuses, .fusesRead, .reeds, .chans, .voters, .blocks, .vens, .carr] ⊆ F := by decide) :
    Leads F s (execDbgresp st addr s) := by
  unfold execDbgresp
  exact .mono (G := [.fresh, .mem, .eccWb, .regs, .evTick, .events, .cores, .heatCnt, .heatDue, .slots, .badPorts, .safety,
      .lcs, .heldSvc, .boot, .fuses, .fusesRead, .reeds, .chans, .voters, .blocks, .vens, .carr]) (.done (unitDo_within
      (.refl _) _ fun _ => carrCmd_within (.refl _) ..)) hF

theorem execDbgend_leads {F : List Area} (st : Stamp) (addr : BitVec 30) (s : State)
    (hF : [.fresh, .mem, .eccWb, .regs, .evTick, .events, .cores, .heatCnt, .heatDue, .slots, .badPorts, .safety, .lcs,
        .heldSvc, .boot, .fuses, .fusesRead, .reeds, .chans, .voters, .blocks, .vens, .carr] ⊆ F := by decide) :
    Leads F s (execDbgend st addr s) := by
  unfold execDbgend
  exact .mono (G := [.fresh, .mem, .eccWb, .regs, .evTick, .events, .cores, .heatCnt, .heatDue, .slots, .badPorts, .safety,
      .lcs, .heldSvc, .boot, .fuses, .fusesRead, .reeds, .chans, .voters, .blocks, .vens, .carr]) (.done (unitDo_within
      (.refl _) _ fun _ => carrCmd_within (.refl _) ..)) hF

theorem execLctrans_leads {F : List Area} (st : Stamp) (addr : BitVec 30) (s : State)
    (hF : [.fresh, .mem, .eccWb, .regs, .evTick, .events, .cores, .heatCnt, .heatDue, .slots, .badPorts, .safety, .lcs,
        .heldSvc, .boot, .fuses, .fusesRead, .reeds, .chans, .voters, .blocks, .vens, .carr] ⊆ F := by decide) :
    Leads F s (execLctrans st addr s) := by
  unfold execLctrans
  exact .mono (G := [.fresh, .mem, .eccWb, .regs, .evTick, .events, .cores, .heatCnt, .heatDue, .slots, .badPorts, .safety,
      .lcs, .heldSvc, .boot, .fuses, .fusesRead, .reeds, .chans, .voters, .blocks, .vens, .carr]) (.done (unitDo_within
      (.refl _) _ fun _ => carrCmd_within (.refl _) ..)) hF

theorem execRevoke_leads {F : List Area} (st : Stamp) (addr : BitVec 30) (s : State)
    (hF : [.fresh, .mem, .eccWb, .regs, .evTick, .events, .cores, .heatCnt, .heatDue, .slots, .badPorts, .safety, .lcs,
        .heldSvc, .boot, .fuses, .fusesRead, .reeds, .chans, .voters, .blocks, .vens, .carr] ⊆ F := by decide) :
    Leads F s (execRevoke st addr s) := by
  unfold execRevoke
  exact .mono (G := [.fresh, .mem, .eccWb, .regs, .evTick, .events, .cores, .heatCnt, .heatDue, .slots, .badPorts, .safety,
      .lcs, .heldSvc, .boot, .fuses, .fusesRead, .reeds, .chans, .voters, .blocks, .vens, .carr]) (.done (unitDo_within
      (.refl _) _ fun _ => carrCmd_within (.refl _) ..)) hF

theorem execSvnadv_leads {F : List Area} (st : Stamp) (addr : BitVec 30) (s : State)
    (hF : [.fresh, .mem, .eccWb, .regs, .evTick, .events, .cores, .heatCnt, .heatDue, .slots, .badPorts, .safety, .lcs,
        .heldSvc, .boot, .fuses, .fusesRead, .reeds, .chans, .voters, .blocks, .vens, .carr] ⊆ F := by decide) :
    Leads F s (execSvnadv st addr s) := by
  unfold execSvnadv
  exact .mono (G := [.fresh, .mem, .eccWb, .regs, .evTick, .events, .cores, .heatCnt, .heatDue, .slots, .badPorts, .safety,
      .lcs, .heldSvc, .boot, .fuses, .fusesRead, .reeds, .chans, .voters, .blocks, .vens, .carr]) (.done (unitDo_within
      (.refl _) _ fun _ => carrCmd_within (.refl _) ..)) hF

theorem execProvision_leads {F : List Area} (st : Stamp) (start : CarrStart) (s : State)
    (hF : [.fresh, .mem, .eccWb, .regs, .evTick, .events, .cores, .heatCnt, .heatDue, .slots, .badPorts, .safety, .lcs,
        .heldSvc, .boot, .fuses, .fusesRead, .reeds, .chans, .voters, .blocks, .vens, .carr] ⊆ F := by decide) :
    Leads F s (execProvision st start s) := by
  unfold execProvision
  exact .mono (G := [.fresh, .mem, .eccWb, .regs, .evTick, .events, .cores, .heatCnt, .heatDue, .slots, .badPorts, .safety,
      .lcs, .heldSvc, .boot, .fuses, .fusesRead, .reeds, .chans, .voters, .blocks, .vens, .carr]) (.done (unitDo_within
      (.refl _) _ fun _ => carrCmd_within (.refl _) ..)) hF

theorem execCarrCommandDone_leads {F : List Area} (s : State)
    (hF : [.regs, .evTick, .events, .carr] ⊆ F := by decide) : Leads F s (execCarrCommandDone s) := by
  unfold execCarrCommandDone
  refine .mono (G := [.regs, .evTick, .events, .carr]) ?_ hF
  refine .done ?_
  refine unitDo_within (.refl _) _ fun _ => ?_
  dsimp only
  split
  · exact .refl _
  · exact irqPend_within (.rset (Within.setCarr (.refl _) _ (by decide)) _ _ _ (by decide)) ..

theorem execTokenExpiry_leads {F : List Area} (s : State)
    (hF : [.regs, .cores, .carr] ⊆ F := by decide) : Leads F s (execTokenExpiry s) := by
  unfold execTokenExpiry
  refine .mono (G := [.regs, .cores, .carr]) ?_ hF
  refine .done ?_
  split
  · exact .ite (endToken_within (.refl _) ..) (.refl _)
  · exact .refl _

theorem execFlashEnable_leads {F : List Area} (port : Bool) (t : SfdpFacts) (s : State)
    (hF : [.regs, .evTick, .events, .enHeld, .flashes] ⊆ F := by decide) : Leads F s (execFlashEnable port t s) := by
  unfold execFlashEnable
  exact .mono (G := [.regs, .evTick, .events, .enHeld, .flashes]) (.done (unitDo_within (.refl _) _ fun _ =>
      unlessLocked_within (.refl _) _ _ fun _ => .ite (flashJudge_within (.ite (.refl _) (enable_within (.refl _) ..)) ..)
      (.ite (.refl _) (enable_within (.refl _) ..)))) hF

theorem execCopy_leads {F : List Area} (port : Bool) (s : State)
    (hF : [.regs, .evTick, .events, .flashes] ⊆ F := by decide) : Leads F s (execCopy port s) := by
  unfold execCopy
  exact .mono (G := [.regs, .evTick, .events, .flashes]) (.done (unitDo_within (.refl _) _ fun _ => flcmd_within (.refl _)
      ..)) hF

theorem execProgram_leads {F : List Area} (port : Bool) (s : State)
    (hF : [.regs, .evTick, .events, .flashes] ⊆ F := by decide) : Leads F s (execProgram port s) := by
  unfold execProgram
  exact .mono (G := [.regs, .evTick, .events, .flashes]) (.done (unitDo_within (.refl _) _ fun _ => flcmd_within (.refl _)
      ..)) hF

theorem execErase_leads {F : List Area} (port : Bool) (etype : BitVec 2) (s : State)
    (hF : [.regs, .evTick, .events, .flashes] ⊆ F := by decide) : Leads F s (execErase port etype s) := by
  unfold execErase
  exact .mono (G := [.regs, .evTick, .events, .flashes]) (.done (unitDo_within (.refl _) _ fun _ => flcmd_within (.refl _)
      ..)) hF

theorem execFlashCommandDone_leads {F : List Area} (port : Bool) (octets : List (BitVec 8)) (s : State)
    (hF : [.fresh, .mem, .eccWb, .regs, .evTick, .events, .heatCnt, .heatDue, .slots, .badPorts, .flashes] ⊆ F := by decide) :
    Leads F s (execFlashCommandDone port octets s) := by
  unfold execFlashCommandDone
  refine .mono (G := [.fresh, .mem, .eccWb, .regs, .evTick, .events, .heatCnt, .heatDue, .slots, .badPorts, .flashes]) ?_ hF
  refine .done ?_
  refine unitDo_within (.refl _) _ fun _ => ?_
  dsimp only
  split
  · exact .refl _
  · split
    · exact flashEnd_within (Stays.ok (flashMove_stays ..) ‹_ = EStateM.Result.ok _ _› (setFlash_within (.refl _) ..)) ..
    · exact flashEnd_within (flashDmaResult_within (Stays.error (flashMove_stays ..) ‹_ = EStateM.Result.error _ _›
        (setFlash_within (.refl _) ..)) ..) ..

theorem execBootImageCheck_leads {F : List Area} (a b : FlashSet) (rng : Option (BitVec 3)) (s : State)
    (hF : [.mem, .eccWb, .regs, .evTick, .events, .lcs, .boot, .flashes] ⊆ F := by decide) :
    Leads F s (execBootImageCheck a b rng s) := by
  unfold execBootImageCheck
  refine .mono (G := [.mem, .eccWb, .regs, .evTick, .events, .lcs, .boot, .flashes]) ?_ hF
  refine .done ?_
  refine .ite ?_ (.refl _)
  split
  · exact rngFailed_within (.refl _) ..
  · exact .ite (.refl _) (bootImages_within (.refl _) ..)

theorem execHandover_leads {F : List Area} (facts : HandoverFacts) (s : State)
    (hF : [.fresh, .mem, .eccWb, .regs, .evTick, .events, .cores, .heatCnt, .heatDue, .slots, .badPorts, .safety, .boot,
        .offers, .bootLocks, .reeds, .chans, .voters, .blocks, .vens, .flashes, .carr] ⊆ F := by decide) :
    Leads F s (execHandover facts s) := by
  unfold execHandover
  refine .mono (G := [.fresh, .mem, .eccWb, .regs, .evTick, .events, .cores, .heatCnt, .heatDue, .slots, .badPorts, .safety,
      .boot, .offers, .bootLocks, .reeds, .chans, .voters, .blocks, .vens, .flashes, .carr]) ?_ hF
  refine .done ?_
  split
  · refine .ite ?_ (.refl _)
    split
    · exact rngFailed_within (.refl _) ..
    · exact finishHandover_within (.refl _) ..
  · exact .refl _

theorem execCanFrameTransmit_leads {F : List Area} (die : BitVec 3) (o : CanOutcome) (s : State)
    (hF : [.fresh, .mem, .eccWb, .regs, .evTick, .events, .heatCnt, .heatDue, .slots, .badPorts, .cans] ⊆ F := by decide) :
    Leads F s (execCanFrameTransmit die o s) := by
  unfold execCanFrameTransmit
  exact .mono (G := [.fresh, .mem, .eccWb, .regs, .evTick, .events, .heatCnt, .heatDue, .slots, .badPorts, .cans]) (.done
      (.ite (canTransmit_within (.refl _) ..) (.refl _))) hF

theorem execCanFrameReceive_leads {F : List Area} (die : BitVec 3) (x : CanArrival) (s : State)
    (hF : [.fresh, .mem, .eccWb, .regs, .evTick, .events, .heatCnt, .heatDue, .slots, .badPorts, .cans] ⊆ F := by decide) :
    Leads F s (execCanFrameReceive die x s) := by
  unfold execCanFrameReceive
  refine .mono (G := [.fresh, .mem, .eccWb, .regs, .evTick, .events, .heatCnt, .heatDue, .slots, .badPorts, .cans]) ?_ hF
  refine .done ?_
  refine .ite ?_ (.refl _)
  split
  · exact canReceive_within (.refl _) ..
  · exact canRxBad_within (.refl _) ..
  · exact canRxBad_within (.refl _) ..

theorem execCanBusoffRecovery_leads {F : List Area} (die : BitVec 3) (s : State)
    (hF : [.cans] ⊆ F := by decide) : Leads F s (execCanBusoffRecovery die s) := by
  unfold execCanBusoffRecovery
  exact .mono (G := [.cans]) (.done (.ite (setCan_within (.refl _) ..) (.refl _))) hF

theorem execIns0_leads {F : List Area} (st : Stamp) (die : BitVec 3) (v : Word) (s : State)
    (hF : [.fresh, .busReply, .regs, .evTick, .events, .badPorts, .reeds] ⊆ F := by decide) :
    Leads F s (execIns0 st die v s) := by
  unfold execIns0
  exact .mono (G := [.fresh, .busReply, .regs, .evTick, .events, .badPorts, .reeds]) (.done (unitRequest_within
      (.refl _) _ _ _ _ fun _ => ins0Store_within (.refl _) ..)) hF

theorem execInsStage_leads {F : List Area} (st : Stamp) (die : BitVec 3) (second : Bool) (v : Word) (s : State)
    (hF : [.fresh, .busReply, .regs, .evTick, .events, .badPorts, .reeds] ⊆ F := by decide) :
    Leads F s (execInsStage st die second v s) := by
  unfold execInsStage
  exact .mono (G := [.fresh, .busReply, .regs, .evTick, .events, .badPorts, .reeds]) (.done (unitRequest_within
      (.refl _) _ _ _ _ fun _ => insStageStore_within (.refl _) ..)) hF

theorem execIns3_leads {F : List Area} (st : Stamp) (die : BitVec 3) (v : Word) (s : State)
    (hF : [.fresh, .busReply, .regs, .evTick, .events, .badPorts, .reeds, .chans, .voters] ⊆ F := by decide) :
    Leads F s (execIns3 st die v s) := by
  unfold execIns3
  exact .mono (G := [.fresh, .busReply, .regs, .evTick, .events, .badPorts, .reeds, .chans, .voters]) (.done
      (unitRequest_within (.refl _) _ _ _ _ fun _ => ins3Store_within (.refl _) ..)) hF

theorem execCancel_leads {F : List Area} (st : Stamp) (die : BitVec 3) (v : Word) (s : State)
    (hF : [.fresh, .busReply, .regs, .evTick, .events, .badPorts, .reeds, .chans, .voters] ⊆ F := by decide) :
    Leads F s (execCancel st die v s) := by
  unfold execCancel
  exact .mono (G := [.fresh, .busReply, .regs, .evTick, .events, .badPorts, .reeds, .chans, .voters]) (.done
      (unitRequest_within (.refl _) _ _ _ _ fun _ => cancelStore_within (.refl _) ..)) hF

theorem execStagingSlotExpiry_leads {F : List Area} (die : BitVec 3) (slot : BitVec 4) (s : State)
    (hF : [.reeds] ⊆ F := by decide) : Leads F s (execStagingSlotExpiry die slot s) := by
  unfold execStagingSlotExpiry
  refine .mono (G := [.reeds]) ?_ hF
  refine .done ?_
  refine unitDo_within (.refl _) _ fun _ => ?_
  dsimp only
  split
  · exact .ite (.setReed (.refl _) _ _ (by decide) fun canon now => .of_ev (now.reed _) rfl) (.refl _)
  · exact .refl _

theorem execPendingInsertDiscard_leads {F : List Area} (die : BitVec 3) (index : BitVec 12) (s : State)
    (hF : [.regs, .evTick, .events, .reeds, .chans, .voters] ⊆ F := by decide) :
    Leads F s (execPendingInsertDiscard die index s) := by
  unfold execPendingInsertDiscard
  exact .mono (G := [.regs, .evTick, .events, .reeds, .chans, .voters]) (.done (unitDo_within (.refl _) _ fun _ => .ite
      (discard_within (.refl _) ..) (.refl _))) hF

theorem execPendingCancelExpiry_leads {F : List Area} (die : BitVec 3) (key : BitVec 12) (s : State)
    (hF : [.regs, .evTick, .events, .reeds, .chans, .voters] ⊆ F := by decide) :
    Leads F s (execPendingCancelExpiry die key s) := by
  unfold execPendingCancelExpiry
  exact .mono (G := [.regs, .evTick, .events, .reeds, .chans, .voters]) (.done (unitDo_within (.refl _) _
      fun _ => expireCancel_within (.refl _) ..)) hF

theorem execEventDispatch_leads {F : List Area} (die : BitVec 3) (index : BitVec 12) (s : State)
    (hF : [.regs, .evTick, .events, .reeds, .chans, .voters] ⊆ F := by decide) : Leads F s (execEventDispatch die index s) := by
  unfold execEventDispatch
  refine .mono (G := [.regs, .evTick, .events, .reeds, .chans, .voters]) ?_ hF
  dsimp only
  split
  · exact .done (dispatch_within (.refl _) ..)
  · exact .done (.refl _)

theorem execGdon_leads {F : List Area} (die : BitVec 3) (index : BitVec 12) (s : State)
    (hF : [.fresh, .regs, .evTick, .events, .reeds, .chans, .voters] ⊆ F := by decide) : Leads F s (execGdon die index s) := by
  unfold execGdon
  exact .mono (G := [.fresh, .regs, .evTick, .events, .reeds, .chans, .voters]) (.done (.ite (fireOutput_within
      (.refl _) _ _ fun _ _ => gdonAct_within (.refl _) ..) (.refl _))) hF

theorem execGdoff_leads {F : List Area} (die : BitVec 3) (index : BitVec 12) (s : State)
    (hF : [.fresh, .regs, .evTick, .events, .reeds, .chans, .voters] ⊆ F := by decide) : Leads F s (execGdoff die index s) := by
  unfold execGdoff
  exact .mono (G := [.fresh, .regs, .evTick, .events, .reeds, .chans, .voters]) (.done (.ite (fireOutput_within
      (.refl _) _ _ fun _ _ => gdoffAct_within (.refl _) ..) (.refl _))) hF

theorem execLevel_leads {F : List Area} (die : BitVec 3) (index : BitVec 12) (s : State)
    (hF : [.fresh, .regs, .evTick, .events, .reeds, .chans, .voters] ⊆ F := by decide) : Leads F s (execLevel die index s) := by
  unfold execLevel
  exact .mono (G := [.fresh, .regs, .evTick, .events, .reeds, .chans, .voters]) (.done (.ite (fireOutput_within
      (.refl _) _ _ fun _ _ => setLit_within (.refl _) ..) (.refl _))) hF

theorem execBurst_leads {F : List Area} (die : BitVec 3) (index : BitVec 12) (s : State)
    (hF : [.fresh, .regs, .evTick, .events, .reeds, .chans, .voters] ⊆ F := by decide) : Leads F s (execBurst die index s) := by
  unfold execBurst
  exact .mono (G := [.fresh, .regs, .evTick, .events, .reeds, .chans, .voters]) (.done (.ite (fireOutput_within
      (.refl _) _ _ fun _ _ => burstAct_within (.refl _) ..) (.refl _))) hF

theorem execToggle_leads {F : List Area} (die : BitVec 3) (index : BitVec 12) (s : State)
    (hF : [.fresh, .regs, .evTick, .events, .reeds, .chans, .voters] ⊆ F := by decide) :
    Leads F s (execToggle die index s) := by
  unfold execToggle
  exact .mono (G := [.fresh, .regs, .evTick, .events, .reeds, .chans, .voters]) (.done (.ite (fireOutput_within
      (.refl _) _ _ fun _ _ => setLit_within (.refl _) ..) (.refl _))) hF

theorem execBurstEnd_leads {F : List Area} (m : BitVec 10) (s : State)
    (hF : [.fresh, .regs, .evTick, .events, .chans] ⊆ F := by decide) : Leads F s (execBurstEnd m s) := by
  unfold execBurstEnd
  refine .mono (G := [.fresh, .regs, .evTick, .events, .chans]) ?_ hF
  dsimp only
  split
  · exact .done (drive_within (.refl _) _ _ _ fun _ => setChan_within (.refl _) ..)
  · exact .done (.refl _)

theorem execMark_leads {F : List Area} (die : BitVec 3) (index : BitVec 12) (s : State)
    (hF : [.regs, .evTick, .events, .reeds, .chans, .voters] ⊆ F := by decide) : Leads F s (execMark die index s) := by
  unfold execMark
  exact .mono (G := [.regs, .evTick, .events, .reeds, .chans, .voters]) (.done (.ite (afterFiring_within (.ite (markAct_within
      (.refl _) ..) (.refl _)) ..) (.refl _))) hF

theorem execIrq_leads {F : List Area} (die : BitVec 3) (index : BitVec 12) (s : State)
    (hF : [.regs, .evTick, .events, .reeds, .chans, .voters] ⊆ F := by decide) : Leads F s (execIrq die index s) := by
  unfold execIrq
  refine .mono (G := [.regs, .evTick, .events, .reeds, .chans, .voters]) ?_ hF
  refine .done ?_
  refine .ite ?_ (.refl _)
  refine afterFiring_within ?_ ..
  refine .ite ?_ (capture_within (.refl _) ..)
  refine irqPend_within ?_ ..
  refine evCount_within ?_ ..
  with_reducible refine .setReed ?_ _ _ (by decide) fun _ now => ?_
  · exact .refl _
  · exact .of_ev (now.reed _) rfl

theorem execEvfifoRead_leads {F : List Area} (die : BitVec 3) (s : State)
    (hF : [.busReply, .reeds] ⊆ F := by decide) : Leads F s (execEvfifoRead die s) := by
  unfold execEvfifoRead
  exact .mono (G := [.busReply, .reeds]) (.done (unitDo_within (.refl _) _ fun _ => replyWord_within (evfifoLoad_within
      (.refl _) ..) ..)) hF

theorem execEvcnt0Read_leads {F : List Area} (die : BitVec 3) (s : State)
    (hF : [.busReply, .reeds] ⊆ F := by decide) : Leads F s (execEvcnt0Read die s) := by
  unfold execEvcnt0Read
  exact .mono (G := [.busReply, .reeds]) (.done (unitDo_within (.refl _) _ fun _ => replyWord_within (evcnt0Load_within
      (.refl _) ..) ..)) hF

theorem execSampleFrame_leads {F : List Area} (region : BitVec 5) (samples : List Sample) (s : State)
    (hF : [.fresh, .mem, .eccWb, .regs, .evTick, .events, .heatCnt, .heatDue, .slots, .badPorts, .refs, .chans,
        .blocks] ⊆ F := by decide) :
    Leads F s (execSampleFrame region samples s) := by
  unfold execSampleFrame
  exact .mono (G := [.fresh, .mem, .eccWb, .regs, .evTick, .events, .heatCnt, .heatDue, .slots, .badPorts, .refs, .chans,
      .blocks]) (.done (.ite (.ite (judgeTest_within (ringWrite_within (.foldl (fun _ _ => useSample_within (.refl _) ..)
      (.refl _)) ..) ..) (setBlock_within (ringWrite_within (.foldl (fun _ _ => useSample_within (.refl _) ..) (.refl _)) ..)
      ..)) (.refl _))) hF

theorem execSelftest_leads {F : List Area} (region : BitVec 5) (s : State)
    (hF : [.regs, .evTick, .events, .blocks] ⊆ F := by decide) : Leads F s (execSelftest region s) := by
  unfold execSelftest
  exact .mono (G := [.regs, .evTick, .events, .blocks]) (.done (unitDo_within (.refl _) _ fun _ => unlessLocked_within
      (.refl _) _ _ fun _ => selftestReq_within (.refl _) ..)) hF

theorem execCbkEnable_leads {F : List Area} (region : BitVec 5) (s : State)
    (hF : [.regs, .evTick, .events, .enHeld] ⊆ F := by decide) : Leads F s (execCbkEnable region s) := by
  unfold execCbkEnable
  exact .mono (G := [.regs, .evTick, .events, .enHeld]) (.done (unitDo_within (.refl _) _ fun _ => unlessLocked_within
      (.refl _) _ _ fun _ => enable_within (.refl _) ..)) hF

theorem execAxevRead_leads {F : List Area} (region : BitVec 5) (s : State)
    (hF : [.busReply, .blocks] ⊆ F := by decide) : Leads F s (execAxevRead region s) := by
  unfold execAxevRead
  exact .mono (G := [.busReply, .blocks]) (.done (unitDo_within (.refl _) _ fun _ => replyWord_within (axevLoad_within
      (.refl _) ..) ..)) hF

theorem execProvingCycleEnd_leads {F : List Area} (m : BitVec 10) (s : State)
    (hF : [.regs, .evTick, .events, .reeds, .chans, .voters] ⊆ F := by decide) : Leads F s (execProvingCycleEnd m s) := by
  unfold execProvingCycleEnd
  exact .mono (G := [.regs, .evTick, .events, .reeds, .chans, .voters]) (.done (chanDo_within (.refl _) _ fun _ => .ite
      (setChan_within (.ite (cycleEnd_within (.refl _) ..) (.refl _)) ..) (.refl _))) hF

theorem execFeedbackTimeout_leads {F : List Area} (l : FbLevel) (s : State)
    (hF : [.regs, .evTick, .events, .reeds, .chans, .voters] ⊆ F := by decide) : Leads F s (execFeedbackTimeout l s) := by
  unfold execFeedbackTimeout
  exact .mono (G := [.regs, .evTick, .events, .reeds, .chans, .voters]) (.done (chanDo_within (.refl _) _ fun _ => .ite
      (irqPend_within (safeEnter_within (setChan_within (.refl _) ..) ..) ..) (setChan_within (.refl _) ..))) hF

theorem execAxleSupervisionTimeout_leads {F : List Area} (m : BitVec 10) (s : State)
    (hF : [.regs, .evTick, .events, .reeds, .chans, .voters] ⊆ F := by decide) :
    Leads F s (execAxleSupervisionTimeout m s) := by
  unfold execAxleSupervisionTimeout
  exact .mono (G := [.regs, .evTick, .events, .reeds, .chans, .voters]) (.done (chanDo_within (.refl _) _ fun _ => .ite
      (safeEnter_within (setChan_within (.refl _) ..) ..) (.refl _))) hF

theorem execChcfgWrite_leads {F : List Area} (m : BitVec 10) (v : Word) (s : State)
    (hF : [.regs, .evTick, .events, .chans] ⊆ F := by decide) : Leads F s (execChcfgWrite m v s) := by
  unfold execChcfgWrite
  exact .mono (G := [.regs, .evTick, .events, .chans]) (.done (chanDo_within (.refl _) _ fun _ => chcfgStore_within (.refl _)
      ..)) hF

theorem execChctlSafe_leads {F : List Area} (m : BitVec 10) (s : State)
    (hF : [.regs, .evTick, .events, .reeds, .chans, .voters] ⊆ F := by decide) : Leads F s (execChctlSafe m s) := by
  unfold execChctlSafe
  exact .mono (G := [.regs, .evTick, .events, .reeds, .chans, .voters]) (.done (chanDo_within (.refl _) _
      fun _ => safeEnter_within (.refl _) ..)) hF

theorem execRel_leads {F : List Area} (m : BitVec 10) (s : State)
    (hF : [.regs, .evTick, .events, .chans] ⊆ F := by decide) : Leads F s (execRel m s) := by
  unfold execRel
  exact .mono (G := [.regs, .evTick, .events, .chans]) (.done (chanDo_within (.refl _) _ fun _ => relReq_within (.refl _)
      ..)) hF

theorem execChctlGdOn_leads {F : List Area} (m : BitVec 10) (s : State)
    (hF : [.fresh, .regs, .evTick, .events, .chans] ⊆ F := by decide) : Leads F s (execChctlGdOn m s) := by
  unfold execChctlGdOn
  exact .mono (G := [.fresh, .regs, .evTick, .events, .chans]) (.done (chanDo_within (.refl _) _ fun _ => gdReq_within
      (.refl _) ..)) hF

theorem execChctlGdOff_leads {F : List Area} (m : BitVec 10) (s : State)
    (hF : [.fresh, .regs, .evTick, .events, .chans] ⊆ F := by decide) : Leads F s (execChctlGdOff m s) := by
  unfold execChctlGdOff
  exact .mono (G := [.fresh, .regs, .evTick, .events, .chans]) (.done (chanDo_within (.refl _) _ fun _ => gdReq_within
      (.refl _) ..)) hF

theorem execM1Read_leads {F : List Area} (m : BitVec 10) (s : State)
    (hF : [.busReply, .chans] ⊆ F := by decide) : Leads F s (execM1Read m s) := by
  unfold execM1Read
  exact .mono (G := [.busReply, .chans]) (.done (chanDo_within (.refl _) _ fun _ => replyWord_within (m1Load_within (.refl _)
      ..) ..)) hF

theorem execChanSrst_leads {F : List Area} (region : BitVec 5) (j : BitVec 2) (s : State)
    (hF : [.regs, .evTick, .events, .chans] ⊆ F := by decide) : Leads F s (execChanSrst region j s) := by
  unfold execChanSrst
  exact .mono (G := [.regs, .evTick, .events, .chans]) (.done (unitDo_within (.refl _) _ fun _ => .ite (.refl _)
      (chanReset_within (.refl _) ..))) hF

theorem execPhaseControlEdge_leads {F : List Area} (m : BitVec 10) (s : State)
    (hF : [.fresh, .regs, .evTick, .events, .chans] ⊆ F := by decide) : Leads F s (execPhaseControlEdge m s) := by
  unfold execPhaseControlEdge
  exact .mono (G := [.fresh, .regs, .evTick, .events, .chans]) (.done (chanDo_within (.refl _) _ fun _ => applyGd_within
      (burstEdges_within (.refl _) ..) ..)) hF

theorem execEmpEnable_leads {F : List Area} (port trained : Bool) (channel : BitVec 2) (s : State)
    (hF : [.regs, .evTick, .events, .enHeld, .emps] ⊆ F := by decide) : Leads F s (execEmpEnable port trained channel s) := by
  unfold execEmpEnable
  exact .mono (G := [.regs, .evTick, .events, .enHeld, .emps]) (.done (unitDo_within (.refl _) _ fun _ => unlessLocked_within
      (.refl _) _ _ fun _ => .ite (empJudge_within (.ite (.refl _) (enable_within (.refl _) ..)) ..) (.ite (.refl _)
      (enable_within (.refl _) ..)))) hF

theorem execMr4Poll_leads {F : List Area} (port : Bool) (rate : BitVec 3) (s : State)
    (hF : [.regs] ⊆ F := by decide) : Leads F s (execMr4Poll port rate s) := by
  unfold execMr4Poll
  exact .mono (G := [.regs]) (.done (unitDo_within (.refl _) _ fun _ => .ite (.rset (.refl _) _ _ _ (by decide)) (.refl _))) hF

theorem execScrubBurst_leads {F : List Area} (port : Bool) (s : State)
    (hF : [.mem, .eccWb, .regs, .evTick, .events, .emps] ⊆ F := by decide) : Leads F s (execScrubBurst port s) := by
  unfold execScrubBurst
  exact .mono (G := [.mem, .eccWb, .regs, .evTick, .events, .emps]) (.done (unitDo_within (.refl _) _ fun _ => .ite
      (scrubBurst_within (.refl _) ..) (.refl _))) hF

theorem execParg_leads {F : List Area} (st : Stamp) (region : BitVec 5) (lane : BitVec 2) (v : Word) (s : State)
    (hF : [.fresh, .busReply, .regs, .evTick, .events, .badPorts, .voters] ⊆ F := by decide) :
    Leads F s (execParg st region lane v s) := by
  unfold execParg
  exact .mono (G := [.fresh, .busReply, .regs, .evTick, .events, .badPorts, .voters]) (.done (unitRequest_within
      (.refl _) _ _ _ _ fun _ => pargStore_within (.refl _) ..)) hF

theorem execPropose_leads {F : List Area} (st : Stamp) (region : BitVec 5) (lane : BitVec 2) (v : Word) (s : State)
    (hF : [.fresh, .busReply, .mem, .eccWb, .regs, .evTick, .events, .heatCnt, .heatDue, .slots, .badPorts, .reeds, .chans,
        .voters, .vens] ⊆ F := by decide) :
    Leads F s (execPropose st region lane v s) := by
  unfold execPropose
  exact .mono (G := [.fresh, .busReply, .mem, .eccWb, .regs, .evTick, .events, .heatCnt, .heatDue, .slots, .badPorts, .reeds,
      .chans, .voters, .vens]) (.done (unitRequest_within (.refl _) _ _ _ _ fun _ => pcmdStore_within (.refl _) ..)) hF

theorem execSafe_leads {F : List Area} (st : Stamp) (region : BitVec 5) (lane : BitVec 2) (v : Word) (s : State)
    (hF : [.fresh, .busReply, .mem, .eccWb, .regs, .evTick, .events, .heatCnt, .heatDue, .slots, .badPorts, .reeds, .chans,
        .voters, .vens] ⊆ F := by decide) :
    Leads F s (execSafe st region lane v s) := by
  unfold execSafe
  exact .mono (G := [.fresh, .busReply, .mem, .eccWb, .regs, .evTick, .events, .heatCnt, .heatDue, .slots, .badPorts, .reeds,
      .chans, .voters, .vens]) (.done (unitRequest_within (.refl _) _ _ _ _ fun _ => pcmdStore_within (.refl _) ..)) hF

theorem execRelease_leads {F : List Area} (st : Stamp) (region : BitVec 5) (lane : BitVec 2) (v : Word) (s : State)
    (hF : [.fresh, .busReply, .mem, .eccWb, .regs, .evTick, .events, .heatCnt, .heatDue, .slots, .badPorts, .reeds, .chans,
        .voters, .vens] ⊆ F := by decide) :
    Leads F s (execRelease st region lane v s) := by
  unfold execRelease
  exact .mono (G := [.fresh, .busReply, .mem, .eccWb, .regs, .evTick, .events, .heatCnt, .heatDue, .slots, .badPorts, .reeds,
      .chans, .voters, .vens]) (.done (unitRequest_within (.refl _) _ _ _ _ fun _ => pcmdStore_within (.refl _) ..)) hF

theorem execWithdraw_leads {F : List Area} (st : Stamp) (region : BitVec 5) (lane : BitVec 2) (v : Word) (s : State)
    (hF : [.fresh, .busReply, .mem, .eccWb, .regs, .evTick, .events, .heatCnt, .heatDue, .slots, .badPorts, .reeds, .chans,
        .voters, .vens] ⊆ F := by decide) :
    Leads F s (execWithdraw st region lane v s) := by
  unfold execWithdraw
  exact .mono (G := [.fresh, .busReply, .mem, .eccWb, .regs, .evTick, .events, .heatCnt, .heatDue, .slots, .badPorts, .reeds,
      .chans, .voters, .vens]) (.done (unitRequest_within (.refl _) _ _ _ _ fun _ => pcmdStore_within (.refl _) ..)) hF

theorem execPresRead_leads {F : List Area} (st : Stamp) (region : BitVec 5) (lane : BitVec 2) (s : State)
    (hF : [.fresh, .busReply, .regs, .evTick, .events, .badPorts, .voters] ⊆ F := by decide) :
    Leads F s (execPresRead st region lane s) := by
  unfold execPresRead
  exact .mono (G := [.fresh, .busReply, .regs, .evTick, .events, .badPorts, .voters]) (.done (unitRequest_within
      (.refl _) _ _ _ _ fun _ => replyWord_within (presLoad_within (.refl _) ..) ..)) hF

theorem execPropSlotExpiry_leads {F : List Area} (region : BitVec 5) (lane : BitVec 2) (slot : BitVec 3) (s : State)
    (hF : [.voters] ⊆ F := by decide) : Leads F s (execPropSlotExpiry region lane slot s) := by
  unfold execPropSlotExpiry
  refine .mono (G := [.voters]) ?_ hF
  refine .done ?_
  refine unitDo_within (.refl _) _ fun _ => ?_
  dsimp only
  split
  · exact .ite (setVoter_within (.refl _) ..) (.refl _)
  · exact .refl _

theorem execWindowExpiry_leads {F : List Area} (m : BitVec 10) (key : BitVec 12) (s : State)
    (hF : [.regs, .evTick, .events, .reeds, .chans, .voters, .vens] ⊆ F := by decide) :
    Leads F s (execWindowExpiry m key s) := by
  unfold execWindowExpiry
  refine .mono (G := [.regs, .evTick, .events, .reeds, .chans, .voters, .vens]) ?_ hF
  refine .done ?_
  refine unitDo_within (.refl _) _ fun _ => ?_
  split
  · exact .ite (closeWindow_within (.refl _) ..) (.refl _)
  · exact .refl _

theorem execCommitRelease_leads {F : List Area} (m : BitVec 10) (key : BitVec 12) (s : State)
    (hF : [.voters] ⊆ F := by decide) : Leads F s (execCommitRelease m key s) := by
  unfold execCommitRelease
  refine .mono (G := [.voters]) ?_ hF
  refine .done ?_
  refine unitDo_within (.refl _) _ fun _ => ?_
  split
  · exact .ite (setVoter_within (.refl _) ..) (.refl _)
  · exact .refl _

theorem execCholdExpiry_leads {F : List Area} (m : BitVec 10) (key : BitVec 12) (s : State)
    (hF : [.regs, .voters] ⊆ F := by decide) : Leads F s (execCholdExpiry m key s) := by
  unfold execCholdExpiry
  refine .mono (G := [.regs, .voters]) ?_ hF
  refine .done ?_
  refine unitDo_within (.refl _) _ fun _ => ?_
  split
  · exact .ite (rinc_within (setVoter_within (.refl _) ..) ..) (.refl _)
  · exact .refl _

theorem execSluiceEnable_leads {F : List Area} (region : BitVec 5) (s : State)
    (hF : [.regs, .evTick, .events, .enHeld] ⊆ F := by decide) : Leads F s (execSluiceEnable region s) := by
  unfold execSluiceEnable
  exact .mono (G := [.regs, .evTick, .events, .enHeld]) (.done (unitDo_within (.refl _) _ fun _ => unlessLocked_within
      (.refl _) _ _ fun _ => enable_within (.refl _) ..)) hF

theorem execLaneWrite_leads {F : List Area} (region : BitVec 5) (lane : BitVec 2) (v : Word) (s : State)
    (hF : [.regs, .evTick, .events] ⊆ F := by decide) : Leads F s (execLaneWrite region lane v s) := by
  unfold execLaneWrite
  exact .mono (G := [.regs, .evTick, .events]) (.done (unitDo_within (.refl _) _ fun _ => .ite (.refl _) (laneStore_within
      (.refl _) ..))) hF

theorem execSluiceSrst_leads {F : List Area} (region : BitVec 5) (s : State)
    (hF : [.regs, .evTick, .events, .voters] ⊆ F := by decide) : Leads F s (execSluiceSrst region s) := by
  unfold execSluiceSrst
  exact .mono (G := [.regs, .evTick, .events, .voters]) (.done (unitDo_within (.refl _) _ fun _ => sluiceReset_within
      (.refl _) ..)) hF

theorem execDomRequest_leads {F : List Area} (k : BitVec 10) (v : Word) (s : State)
    (hF : [.fresh, .mem, .eccWb, .regs, .evTick, .events, .enHeld, .cores, .heatCnt, .heatDue, .steals, .slots, .badPorts,
        .doms, .sedges, .posts, .sweeps, .chans, .voters, .blocks, .links, .cwys, .eths, .prps, .emps] ⊆ F := by decide) :
    Leads F s (execDomRequest k v s) := by
  unfold execDomRequest
  exact .mono (G := [.fresh, .mem, .eccWb, .regs, .evTick, .events, .enHeld, .cores, .heatCnt, .heatDue, .steals, .slots,
      .badPorts, .doms, .sedges, .posts, .sweeps, .chans, .voters, .blocks, .links, .cwys, .eths, .prps, .emps]) (.done
      (unitDo_within (.refl _) _ fun _ => domStore_within (.refl _) ..)) hF

theorem execDrainEnd_leads {F : List Area} (k : BitVec 10) (s : State)
    (hF : [.fresh, .mem, .eccWb, .regs, .evTick, .events, .cores, .heatCnt, .heatDue, .slots, .badPorts, .doms, .posts,
        .links] ⊆ F := by decide) :
    Leads F s (execDrainEnd k s) := by
  unfold execDrainEnd
  exact .mono (G := [.fresh, .mem, .eccWb, .regs, .evTick, .events, .cores, .heatCnt, .heatDue, .slots, .badPorts, .doms,
      .posts, .links]) (.done (.ite (drainDone_within (.refl _) ..) (.refl _))) hF

theorem execTransitionDone_leads {F : List Area} (k : BitVec 10) (s : State)
    (hF : [.fresh, .mem, .eccWb, .regs, .evTick, .events, .enHeld, .cores, .heatCnt, .heatDue, .steals, .slots, .badPorts,
        .doms, .sedges, .posts, .sweeps, .chans, .voters, .blocks, .links, .cwys, .eths, .prps, .emps] ⊆ F := by decide) :
    Leads F s (execTransitionDone k s) := by
  unfold execTransitionDone
  exact .mono (G := [.fresh, .mem, .eccWb, .regs, .evTick, .events, .enHeld, .cores, .heatCnt, .heatDue, .steals, .slots,
      .badPorts, .doms, .sedges, .posts, .sweeps, .chans, .voters, .blocks, .links, .cwys, .eths, .prps, .emps]) (.done (.ite
      (domTransition_within (.refl _) ..) (.refl _))) hF

theorem execDomRst_leads {F : List Area} (k : BitVec 10) (s : State)
    (hF : [.fresh, .mem, .eccWb, .regs, .evTick, .events, .enHeld, .cores, .heatCnt, .heatDue, .steals, .slots, .badPorts,
        .doms, .sedges, .posts, .sweeps, .chans, .voters, .blocks, .links, .cwys, .eths, .prps, .emps] ⊆ F := by decide) :
    Leads F s (execDomRst k s) := by
  unfold execDomRst
  exact .mono (G := [.fresh, .mem, .eccWb, .regs, .evTick, .events, .enHeld, .cores, .heatCnt, .heatDue, .steals, .slots,
      .badPorts, .doms, .sedges, .posts, .sweeps, .chans, .voters, .blocks, .links, .cwys, .eths, .prps, .emps]) (.done
      (unitDo_within (.refl _) _ fun _ => unlessLocked_within (.refl _) _ _ fun _ => domReset_within (.refl _) ..)) hF

theorem execDomRstRelease_leads {F : List Area} (k : BitVec 10) (s : State)
    (hF : [.regs, .doms] ⊆ F := by decide) : Leads F s (execDomRstRelease k s) := by
  unfold execDomRstRelease
  refine .mono (G := [.regs, .doms]) ?_ hF
  refine .done ?_
  split
  · exact .ite (domRelease_within (.refl _) ..) (.refl _)
  · exact .refl _

theorem execStart_leads {F : List Area} (region : BitVec 5) (s : State)
    (hF : [.regs, .evTick, .events, .sweeps] ⊆ F := by decide) : Leads F s (execStart region s) := by
  unfold execStart
  exact .mono (G := [.regs, .evTick, .events, .sweeps]) (.done (unitDo_within (.refl _) _ fun _ => unlessLocked_within
      (.refl _) _ _ fun _ => sweepStart_within (.refl _) ..)) hF

theorem execSweepPair_leads {F : List Area} (region : BitVec 5) (s : State)
    (hF : [.fresh, .mem, .eccWb, .regs, .evTick, .events, .heatCnt, .heatDue, .slots, .badPorts, .sweeps] ⊆ F := by decide) :
    Leads F s (execSweepPair region s) := by
  unfold execSweepPair
  exact .mono (G := [.fresh, .mem, .eccWb, .regs, .evTick, .events, .heatCnt, .heatDue, .slots, .badPorts, .sweeps]) (.done
      (unitDo_within (.refl _) _ fun _ => .ite (sweepTurn_within (.refl _) ..) (.refl _))) hF

theorem execSweepEnd_leads {F : List Area} (region : BitVec 5) (s : State)
    (hF : [.regs, .evTick, .events, .sweeps] ⊆ F := by decide) : Leads F s (execSweepEnd region s) := by
  unfold execSweepEnd
  exact .mono (G := [.regs, .evTick, .events, .sweeps]) (.done (unitDo_within (.refl _) _ fun _ => .ite (irqPend_within (.rset
      (.ite (setSweep_within (.refl _) ..) (.rset (setSweep_within (.refl _) ..) _ _ _ (by decide))) _ _ _ (by decide)) ..)
      (.refl _))) hF

theorem execVenkick_leads {F : List Area} (st : Stamp) (gen : Bool) (seq : BitVec 18) (s : State)
    (hF : [.fresh, .busReply, .regs, .evTick, .events, .badPorts, .vens] ⊆ F := by decide) :
    Leads F s (execVenkick st gen seq s) := by
  unfold execVenkick
  exact .mono (G := [.fresh, .busReply, .regs, .evTick, .events, .badPorts, .vens]) (.done (unitRequest_within
      (.refl _) _ _ _ _ fun _ => kickStore_within (.refl _) ..)) hF

theorem execVenWindowEnd_leads {F : List Area} (gen : Bool) (s : State)
    (hF : [.vens] ⊆ F := by decide) : Leads F s (execVenWindowEnd gen s) := by
  unfold execVenWindowEnd
  exact .mono (G := [.vens]) (.done (unitDo_within (.refl _) _ fun _ => venWindowEnd_within (.refl _) ..)) hF

theorem execArm_leads {F : List Area} (gen : Bool) (s : State)
    (hF : [.regs, .evTick, .events, .vens] ⊆ F := by decide) : Leads F s (execArm gen s) := by
  unfold execArm
  exact .mono (G := [.regs, .evTick, .events, .vens]) (.done (unitDo_within (.refl _) _ fun _ => venArm_within (.refl _) ..)) hF

theorem execStop_leads {F : List Area} (gen : Bool) (s : State)
    (hF : [.vens] ⊆ F := by decide) : Leads F s (execStop gen s) := by
  unfold execStop
  exact .mono (G := [.vens]) (.done (unitDo_within (.refl _) _ fun _ => venStop_within (.refl _) ..)) hF

theorem execFeatAcceptWrite_leads {F : List Area} (pg : BitVec 15) (v : Word) (s : State)
    (hF : [.regs, .evTick, .events, .voters] ⊆ F := by decide) : Leads F s (execFeatAcceptWrite pg v s) := by
  unfold execFeatAcceptWrite
  exact .mono (G := [.regs, .evTick, .events, .voters]) (.done (unitDo_within (.refl _) _ fun _ => featStore_within (.refl _)
      ..)) hF

theorem execSrst_leads {F : List Area} (pg : BitVec 15) (s : State)
    (hF : [.regs, .evTick, .events, .enHeld, .refs, .reeds, .sweeps, .chans, .voters, .blocks, .vens, .links, .cwys, .eths,
        .prps, .cans, .flashes, .emps] ⊆ F := by decide) :
    Leads F s (execSrst pg s) := by
  unfold execSrst
  exact .mono (G := [.regs, .evTick, .events, .enHeld, .refs, .reeds, .sweeps, .chans, .voters, .blocks, .vens, .links, .cwys,
      .eths, .prps, .cans, .flashes, .emps]) (.done (unitDo_within (.refl _) _ fun _ => srstPage_within (.refl _) ..)) hF

theorem execEn_leads {F : List Area} (pg : BitVec 15) (v : Word) (s : State)
    (hF : [.fresh, .mem, .eccWb, .regs, .evTick, .events, .enHeld, .heatCnt, .heatDue, .slots, .badPorts, .refs, .reeds,
        .sweeps, .chans, .voters, .blocks, .vens, .links, .cwys, .eths, .prps, .cans, .flashes, .emps] ⊆ F := by decide) :
    Leads F s (execEn pg v s) := by
  unfold execEn
  exact .mono (G := [.fresh, .mem, .eccWb, .regs, .evTick, .events, .enHeld, .heatCnt, .heatDue, .slots, .badPorts, .refs,
      .reeds, .sweeps, .chans, .voters, .blocks, .vens, .links, .cwys, .eths, .prps, .cans, .flashes, .emps]) (.done (.ite
      (holdEn_within (.refl _) ..) (unitDo_within (.refl _) _ fun _ => ctlStore_within (.refl _) ..))) hF

theorem execEnabledFollows_leads {F : List Area} (pg : BitVec 15) (s : State)
    (hF : [.fresh, .regs, .chans] ⊆ F := by decide) : Leads F s (execEnabledFollows pg s) := by
  unfold execEnabledFollows
  exact .mono (G := [.fresh, .regs, .chans]) (.done (unitDo_within (.refl _) _ fun _ => excitationFollows_within (.rset
      (.refl _) _ _ _ (by decide)) ..)) hF

theorem execErrFirstRelease_leads {F : List Area} (pg : BitVec 15) (s : State)
    (hF : [.regs, .evTick, .events] ⊆ F := by decide) : Leads F s (execErrFirstRelease pg s) := by
  unfold execErrFirstRelease
  exact .mono (G := [.regs, .evTick, .events]) (.done (unitDo_within (.refl _) _ fun _ => errRelease_within (.refl _) ..)) hF

theorem execErrCountClr_leads {F : List Area} (pg : BitVec 15) (s : State)
    (hF : [.regs] ⊆ F := by decide) : Leads F s (execErrCountClr pg s) := by
  unfold execErrCountClr
  exact .mono (G := [.regs]) (.done (unitDo_within (.refl _) _ fun _ => errCountStore_within (.refl _) ..)) hF

theorem execLk_leads {F : List Area} (pg : BitVec 15) (s : State)
    (hF : [.regs] ⊆ F := by decide) : Leads F s (execLk pg s) := by
  unfold execLk
  exact .mono (G := [.regs]) (.done (unitDo_within (.refl _) _ fun _ => .rset (.refl _) _ _ _ (by decide))) hF

theorem execTmove_leads {F : List Area} (die : BitVec 3) (source : BitVec 12) (ctx : BitVec 2) (place : Word) (s : State)
    (hF : [.fresh, .regs, .evTick, .events, .sedges] ⊆ F := by decide) : Leads F s (execTmove die source ctx place s) := by
  unfold execTmove
  exact .mono (G := [.fresh, .regs, .evTick, .events, .sedges]) (.done (unitDo_within (.refl _) _ fun _ => sedgeCmd_within
      (.refl _) _ fun _ => cmdTmove_within (.refl _) ..)) hF

theorem execTaskMigrationStart_leads {F : List Area} (die : BitVec 3) (source : BitVec 7) (ctx : BitVec 2) (dest : BitVec 7)
    (s : State)
    (hF : [.fresh, .sedges] ⊆ F := by decide) : Leads F s (execTaskMigrationStart die source ctx dest s) := by
  unfold execTaskMigrationStart
  exact .mono (G := [.fresh, .sedges]) (.done (.ite (beginTask_within (.refl _) ..) (.refl _))) hF

theorem execHalt_leads {F : List Area} (st : Stamp) (core : BitVec 7) (h : BitVec 2) (s : State)
    (hF : [.fresh, .busReply, .mem, .eccWb, .regs, .evTick, .events, .cores, .heatCnt, .heatDue, .slots, .badPorts, .safety,
        .reeds, .sedges, .chans, .voters, .vens, .carr] ⊆ F := by decide) :
    Leads F s (execHalt st core h s) := by
  unfold execHalt
  exact .mono (G := [.fresh, .busReply, .mem, .eccWb, .regs, .evTick, .events, .cores, .heatCnt, .heatDue, .slots, .badPorts,
      .safety, .reeds, .sedges, .chans, .voters, .vens, .carr]) (.done (unitRequest_within (.refl _) _ _ _ _
      fun _ => dbgctl_within (.refl _) ..)) hF

theorem execStep_leads {F : List Area} (st : Stamp) (core : BitVec 7) (h : BitVec 2) (s : State)
    (hF : [.fresh, .busReply, .mem, .eccWb, .regs, .evTick, .events, .cores, .heatCnt, .heatDue, .slots, .badPorts, .safety,
        .reeds, .sedges, .chans, .voters, .vens, .carr] ⊆ F := by decide) :
    Leads F s (execStep st core h s) := by
  unfold execStep
  exact .mono (G := [.fresh, .busReply, .mem, .eccWb, .regs, .evTick, .events, .cores, .heatCnt, .heatDue, .slots, .badPorts,
      .safety, .reeds, .sedges, .chans, .voters, .vens, .carr]) (.done (unitRequest_within (.refl _) _ _ _ _
      fun _ => dbgctl_within (.refl _) ..)) hF

theorem execRun_leads {F : List Area} (st : Stamp) (core : BitVec 7) (h : BitVec 2) (s : State)
    (hF : [.fresh, .busReply, .mem, .eccWb, .regs, .evTick, .events, .cores, .heatCnt, .heatDue, .slots, .badPorts, .safety,
        .reeds, .sedges, .chans, .voters, .vens, .carr] ⊆ F := by decide) :
    Leads F s (execRun st core h s) := by
  unfold execRun
  exact .mono (G := [.fresh, .busReply, .mem, .eccWb, .regs, .evTick, .events, .cores, .heatCnt, .heatDue, .slots, .badPorts,
      .safety, .reeds, .sedges, .chans, .voters, .vens, .carr]) (.done (unitRequest_within (.refl _) _ _ _ _
      fun _ => dbgctl_within (.refl _) ..)) hF

theorem execDbgrdataAccess_leads {F : List Area} (st : Stamp) (write : Option Word) (s : State)
    (hF : [.fresh, .busReply, .regs, .evTick, .events, .cores, .badPorts] ⊆ F := by decide) :
    Leads F s (execDbgrdataAccess st write s) := by
  unfold execDbgrdataAccess
  refine .mono (G := [.fresh, .busReply, .regs, .evTick, .events, .cores, .badPorts]) ?_ hF
  refine .done ?_
  dsimp only
  split
  · exact unitRequest_within (.refl _) _ _ _ _ fun _ => dbgrdataStore_within (.refl _) ..
  · exact unitRequest_within (.refl _) _ _ _ _ fun _ => replyWord_within (dbgrdataLoad_within (.refl _) ..) ..

theorem execSupplyFault_leads {F : List Area} (s : State)
    (hF : (.pins :: Area.ofReset : List Area) ⊆ F := by decide) : Leads F s (execSupplyFault s) := by
  have base : ∀ u a b, Within (.pins :: Area.ofReset : List Area) u { u with pins := a, fresh := b } := fun u a b =>
    .setFresh (.setPins (.refl u) a (by decide)) b (by decide)
  exact .mono (.done (holdPower_within (base s _ _) ..)) hF

theorem execSupplyRestore_leads {F : List Area} (s : State)
    (hF : [.regs, .lcs, .heldSvc, .boot, .fuses, .fusesRead, .pins, .frozen] ⊆ F := by decide) :
    Leads F s (execSupplyRestore s) := by
  unfold execSupplyRestore
  refine .mono (G := [.regs, .lcs, .heldSvc, .boot, .fuses, .fusesRead, .pins, .frozen]) ?_ hF
  refine .done ?_
  refine .ite ?_ (.refl _)
  refine bootWhenFree_within ?_ ..
  dsimp only
  exact Within.setPins (.refl _) _ (by decide)

theorem execPorstNAssert_leads {F : List Area} (long : Bool) (s : State)
    (hF : (.pins :: Area.ofReset : List Area) ⊆ F := by decide) : Leads F s (execPorstNAssert long s) := by
  unfold execPorstNAssert
  exact .mono (G := (.pins :: Area.ofReset : List Area)) (.done (.ite (holdPower_within (resetBall_within (.refl _) ..) ..)
      (resetBall_within (.refl _) ..))) hF

theorem execPorstNRelease_leads {F : List Area} (straps : BitVec 4) (s : State)
    (hF : [.regs, .lcs, .heldSvc, .boot, .fuses, .fusesRead, .straps, .pins, .frozen, .chans] ⊆ F := by decide) :
    Leads F s (execPorstNRelease straps s) := by
  have base : ∀ u a b, Within [.regs, .lcs, .heldSvc, .boot, .fuses, .fusesRead, .straps, .pins, .frozen,
      .chans] u { u with straps := a, pins := b } := fun u a b =>
    .setPins (.setStraps (.refl u) a (by decide)) b (by decide)
  refine .mono (G := [.regs, .lcs, .heldSvc, .boot, .fuses, .fusesRead, .straps, .pins, .frozen, .chans]) (.done (.ite
      (.refl s) (.ite ?_ (resetBall_within (.refl s) ..)))) hF
  exact bootWhenFree_within (base s _ _) ..

theorem execSysrstNAssert_leads {F : List Area} (long : Bool) (s : State)
    (hF : (.pins :: Area.ofReset : List Area) ⊆ F := by decide) : Leads F s (execSysrstNAssert long s) := by
  unfold execSysrstNAssert
  exact .mono (G := (.pins :: Area.ofReset : List Area)) (.done (.ite (holdSystem_within (resetBall_within (.refl _) ..) ..)
      (resetBall_within (.refl _) ..))) hF

theorem execSysrstNRelease_leads {F : List Area} (s : State)
    (hF : [.regs, .lcs, .heldSvc, .boot, .fuses, .fusesRead, .pins, .frozen, .chans] ⊆ F := by decide) :
    Leads F s (execSysrstNRelease s) := by
  unfold execSysrstNRelease
  refine .mono (G := [.regs, .lcs, .heldSvc, .boot, .fuses, .fusesRead, .pins, .frozen, .chans]) ?_ hF
  refine .done ?_
  refine .ite (.refl _) ?_
  refine .ite ?_ (resetBall_within (.refl _) ..)
  refine bootWhenFree_within ?_ ..
  dsimp only
  exact Within.setPins (.refl _) _ (by decide)

theorem execSwrst_leads {F : List Area} (v : Word) (s : State)
    (hF : (.lcs :: .fusesRead :: Area.ofReset : List Area) ⊆ F := by decide) : Leads F s (execSwrst v s) := by
  unfold execSwrst
  exact .mono (G := (.lcs :: .fusesRead :: Area.ofReset : List Area)) (.done (unitDo_within (.refl _) _
      fun _ => swrstStore_within (.refl _) ..)) hF

theorem execDierst_leads {F : List Area} (v : Word) (s : State)
    (hF : (.lcs :: .fusesRead :: Area.ofReset : List Area) ⊆ F := by decide) : Leads F s (execDierst v s) := by
  unfold execDierst
  exact .mono (G := (.lcs :: .fusesRead :: Area.ofReset : List Area)) (.done (unitDo_within (.refl _) _
      fun _ => dierstStore_within (.refl _) ..)) hF

theorem execDieResetRelease_leads {F : List Area} (die : BitVec 3) (s : State)
    (hF : [.regs, .dieRst] ⊆ F := by decide) : Leads F s (execDieResetRelease die s) := by
  unfold execDieResetRelease
  exact .mono (G := [.regs, .dieRst]) (.done (.ite (restorePages_within (copyClasses_within (Within.setDieRst (.refl _) _
      (by decide)) ..) ..) (.refl _))) hF

theorem execGo_leads {F : List Area} (s : State)
    (hF : [.regs, .evTick, .events, .safety, .blocks, .vens] ⊆ F := by decide) : Leads F s (execGo s) := by
  unfold execGo
  exact .mono (G := [.regs, .evTick, .events, .safety, .blocks, .vens]) (.done (unitDo_within (.refl _) _
      fun _ => srctlStore_within (.refl _) ..)) hF

theorem execProof_leads {F : List Area} (s : State)
    (hF : [.regs, .evTick, .events, .safety, .blocks, .vens] ⊆ F := by decide) : Leads F s (execProof s) := by
  unfold execProof
  exact .mono (G := [.regs, .evTick, .events, .safety, .blocks, .vens]) (.done (unitDo_within (.refl _) _
      fun _ => srctlStore_within (.refl _) ..)) hF

theorem execRegrel_leads {F : List Area} (v : Word) (s : State)
    (hF : [.regs, .evTick, .events, .doms, .isol] ⊆ F := by decide) : Leads F s (execRegrel v s) := by
  unfold execRegrel
  exact .mono (G := [.regs, .evTick, .events, .doms, .isol]) (.done (unitDo_within (.refl _) _ fun _ => regrelStore_within
      (.refl _) ..)) hF

theorem execRegisterWrite_leads {F : List Area} (st : Stamp) (addr : BitVec 24) (v : Word) (s : State)
    (hF : (.busReply :: .lcs :: .fusesRead :: .postId :: Area.ofReset : List Area) ⊆ F := by decide) :
    Leads F s (execRegisterWrite st addr v s) := by
  unfold execRegisterWrite
  exact .mono (G := (.busReply :: .lcs :: .fusesRead :: .postId :: Area.ofReset : List Area)) (.done (pageRequest_within
      (.refl _) ..)) hF

theorem execTxkick_leads {F : List Area} (port : PortId) (s : State)
    (hF : [.eths, .cans] ⊆ F := by decide) : Leads F s (execTxkick port s) := by
  unfold execTxkick
  exact .mono (G := [.eths, .cans]) (.done (unitDo_within (.refl _) _ fun _ => kickRing_within (.refl _) ..)) hF

theorem execRxkick_leads {F : List Area} (port : PortId) (s : State)
    (hF : [.eths, .cans] ⊆ F := by decide) : Leads F s (execRxkick port s) := by
  unfold execRxkick
  exact .mono (G := [.eths, .cans]) (.done (unitDo_within (.refl _) _ fun _ => kickRing_within (.refl _) ..)) hF

theorem execRemoteRequest_leads {F : List Area} (st : Stamp) (addr : BitVec 24) (store : Bool) (v : Word) (s : State)
    (hF : (.busReply :: .lcs :: .fusesRead :: .postId :: Area.ofReset : List Area) ⊆ F := by decide) :
    Leads F s (execRemoteRequest st addr store v s) := by
  unfold execRemoteRequest
  exact .mono (G := (.busReply :: .lcs :: .fusesRead :: .postId :: Area.ofReset : List Area)) (.done (.ite (.refl _) (.ite
      (remoteRefused_within (.refl _) ..) (.ite (remoteRefused_within (targetCapture_within (.refl _) ..) ..) (.ite
      (replyFault_within (Reach.cause_within (.refl _) ..) ..) (pageRequest_within (.refl _) ..)))))) hF

theorem execCinvoke_leads {F : List Area} (i : Iss) (a b : BitVec 4) (s : State)
    (hF : [.fresh, .mem, .eccWb, .regs, .evTick, .events, .cores, .heatCnt, .heatDue, .slots, .badPorts, .safety, .reeds,
        .sedges, .chans, .voters, .vens, .carr] ⊆ F := by decide) :
    Leads F s (execCinvoke i a b s) := by
  unfold execCinvoke
  refine .issue _ (fun n h => ?_) (List.Subset.trans (by decide) hF)
  refine .mono (G := [.fresh, .mem, .eccWb, .regs, .evTick, .events, .cores, .heatCnt, .heatDue, .slots, .badPorts, .safety,
      .reeds, .sedges, .chans, .voters, .vens, .carr]) ?_ hF
  dsimp only
  refine .bind .get fun _ => ?_
  split
  · exact .throw _
  · exact .bind (upd_stays fun _ => discardPq_within (setCtx_within (.refl _) ..) ..) fun _ => .pure _

theorem execLdpc_leads {F : List Area} (i : Iss) (d : BitVec 5) (imm : BitVec 16) (s : State)
    (hF : [.fresh, .mem, .eccWb, .regs, .evTick, .events, .cores, .heatCnt, .heatDue, .slots, .badPorts, .safety, .reeds,
        .sedges, .chans, .voters, .blocks, .vens, .links, .carr] ⊆ F := by decide) :
    Leads F s (execLdpc i d imm s) := by
  unfold execLdpc
  refine .issue _ (fun n h => ?_) (List.Subset.trans (by decide) hF)
  refine .mono (G := [.fresh, .mem, .eccWb, .regs, .evTick, .events, .cores, .heatCnt, .heatDue, .slots, .badPorts, .safety,
      .reeds, .sedges, .chans, .voters, .blocks, .vens, .links, .carr]) ?_ hF
  dsimp only
  exact loadBody_stays ..

theorem execCld_leads {F : List Area} (i : Iss) (d a : BitVec 4) (disp : BitVec 16) (s : State)
    (hF : [.fresh, .mem, .eccWb, .regs, .evTick, .events, .cores, .heatCnt, .heatDue, .slots, .badPorts, .safety, .reeds,
        .sedges, .chans, .voters, .blocks, .vens, .links, .carr] ⊆ F := by decide) :
    Leads F s (execCld i d a disp s) := by
  unfold execCld
  refine .issue _ (fun n h => ?_) (List.Subset.trans (by decide) hF)
  refine .mono (G := [.fresh, .mem, .eccWb, .regs, .evTick, .events, .cores, .heatCnt, .heatDue, .slots, .badPorts, .safety,
      .reeds, .sedges, .chans, .voters, .blocks, .vens, .links, .carr]) ?_ hF
  dsimp only
  exact loadBody_stays ..

theorem execCst_leads {F : List Area} (i : Iss) (d a : BitVec 4) (disp : BitVec 16) (s : State)
    (hF : (.lcs :: .fusesRead :: .postId :: Area.ofReset : List Area) ⊆ F := by decide) : Leads F s (execCst i d a disp s) := by
  unfold execCst
  refine .issue _ (fun n h => ?_) (List.Subset.trans (by decide) hF)
  refine .mono (G := (.lcs :: .fusesRead :: .postId :: Area.ofReset : List Area)) ?_ hF
  dsimp only
  exact cstBody_stays ..

theorem execLoadDataReturn_leads {F : List Area} (core : BitVec 7) (answer : RemoteAnswer) (s : State)
    (hF : [.fresh, .mem, .eccWb, .regs, .evTick, .events, .cores, .heatCnt, .heatDue, .slots, .badPorts, .safety, .reeds,
        .sedges, .chans, .voters, .blocks, .vens, .carr] ⊆ F := by decide) :
    Leads F s (execLoadDataReturn core answer s) := by
  unfold execLoadDataReturn
  refine .mono (G := [.fresh, .mem, .eccWb, .regs, .evTick, .events, .cores, .heatCnt, .heatDue, .slots, .badPorts, .safety,
      .reeds, .sedges, .chans, .voters, .blocks, .vens, .carr]) ?_ hF
  dsimp only
  split
  · exact .done (.ite (.refl _) (returnLoad_within (.ite (arrivesBad_within (.refl _) ..) (.refl _)) ..))
  · exact .done (.refl _)

theorem execStoreAck_leads {F : List Area} (r : StoreReceipt) (s : State)
    (hF : [.fresh, .mem, .eccWb, .regs, .evTick, .events, .cores, .heatCnt, .heatDue, .slots, .badPorts] ⊆ F := by decide) :
    Leads F s (execStoreAck r s) := by
  unfold execStoreAck
  exact .mono (G := [.fresh, .mem, .eccWb, .regs, .evTick, .events, .cores, .heatCnt, .heatDue, .slots, .badPorts]) (.done
      (.ite (.refl _) (drainOne_within (storeArrives_within (.refl _) ..) ..))) hF

theorem execLateStoreError_leads {F : List Area} (core : BitVec 7) (s : State)
    (hF : [.fresh, .mem, .eccWb, .regs, .evTick, .events, .cores, .heatCnt, .heatDue, .slots, .badPorts, .safety, .reeds,
        .chans, .voters, .vens, .carr] ⊆ F := by decide) :
    Leads F s (execLateStoreError core s) := by
  unfold execLateStoreError
  exact .mono (G := [.fresh, .mem, .eccWb, .regs, .evTick, .events, .cores, .heatCnt, .heatDue, .slots, .badPorts, .safety,
      .reeds, .chans, .voters, .vens, .carr]) (.done (.ite (takeLate_within (.refl _) ..) (.refl _))) hF

theorem execBr_leads {F : List Area} (i : Iss) (off : BitVec 26) (s : State)
    (hF : [.fresh, .mem, .eccWb, .regs, .evTick, .events, .cores, .heatCnt, .heatDue, .slots, .badPorts, .safety, .reeds,
        .sedges, .chans, .voters, .vens, .carr] ⊆ F := by decide) :
    Leads F s (execBr i off s) := by
  unfold execBr
  refine .issue _ (fun n h => ?_) (List.Subset.trans (by decide) hF)
  refine .mono (G := [.fresh, .mem, .eccWb, .regs, .evTick, .events, .cores, .heatCnt, .heatDue, .slots, .badPorts, .safety,
      .reeds, .sedges, .chans, .voters, .vens, .carr]) ?_ hF
  dsimp only
  exact transfer_stays ..

theorem execCall_leads {F : List Area} (i : Iss) (off : BitVec 26) (s : State)
    (hF : [.fresh, .mem, .eccWb, .regs, .evTick, .events, .cores, .heatCnt, .heatDue, .slots, .badPorts, .safety, .reeds,
        .sedges, .chans, .voters, .vens, .carr] ⊆ F := by decide) :
    Leads F s (execCall i off s) := by
  unfold execCall
  refine .issue _ (fun n h => ?_) (List.Subset.trans (by decide) hF)
  refine .mono (G := [.fresh, .mem, .eccWb, .regs, .evTick, .events, .cores, .heatCnt, .heatDue, .slots, .badPorts, .safety,
      .reeds, .sedges, .chans, .voters, .vens, .carr]) ?_ hF
  dsimp only
  exact callBody_stays ..

theorem execFcall_leads {F : List Area} (i : Iss) (off : BitVec 26) (s : State)
    (hF : [.fresh, .mem, .eccWb, .regs, .evTick, .events, .cores, .heatCnt, .heatDue, .slots, .badPorts, .safety, .reeds,
        .sedges, .chans, .voters, .vens, .carr] ⊆ F := by decide) :
    Leads F s (execFcall i off s) := by
  unfold execFcall
  refine .issue _ (fun n h => ?_) (List.Subset.trans (by decide) hF)
  refine .mono (G := [.fresh, .mem, .eccWb, .regs, .evTick, .events, .cores, .heatCnt, .heatDue, .slots, .badPorts, .safety,
      .reeds, .sedges, .chans, .voters, .vens, .carr]) ?_ hF
  dsimp only
  exact fcallBody_stays ..

theorem execJr_leads {F : List Area} (i : Iss) (a : BitVec 5) (s : State)
    (hF : [.fresh, .mem, .eccWb, .regs, .evTick, .events, .cores, .heatCnt, .heatDue, .slots, .badPorts, .safety, .reeds,
        .sedges, .chans, .voters, .vens, .carr] ⊆ F := by decide) :
    Leads F s (execJr i a s) := by
  unfold execJr
  refine .issue _ (fun n h => ?_) (List.Subset.trans (by decide) hF)
  refine .mono (G := [.fresh, .mem, .eccWb, .regs, .evTick, .events, .cores, .heatCnt, .heatDue, .slots, .badPorts, .safety,
      .reeds, .sedges, .chans, .voters, .vens, .carr]) ?_ hF
  dsimp only
  exact .bind .get fun _ => .bind (targetCache_stays ..) fun _ => transfer_stays ..

theorem execCallr_leads {F : List Area} (i : Iss) (a : BitVec 5) (s : State)
    (hF : [.fresh, .mem, .eccWb, .regs, .evTick, .events, .cores, .heatCnt, .heatDue, .slots, .badPorts, .safety, .reeds,
        .sedges, .chans, .voters, .vens, .carr] ⊆ F := by decide) :
    Leads F s (execCallr i a s) := by
  unfold execCallr
  refine .issue _ (fun n h => ?_) (List.Subset.trans (by decide) hF)
  refine .mono (G := [.fresh, .mem, .eccWb, .regs, .evTick, .events, .cores, .heatCnt, .heatDue, .slots, .badPorts, .safety,
      .reeds, .sedges, .chans, .voters, .vens, .carr]) ?_ hF
  dsimp only
  exact callBody_stays ..

theorem execFcallr_leads {F : List Area} (i : Iss) (a : BitVec 5) (s : State)
    (hF : [.fresh, .mem, .eccWb, .regs, .evTick, .events, .cores, .heatCnt, .heatDue, .slots, .badPorts, .safety, .reeds,
        .sedges, .chans, .voters, .vens, .carr] ⊆ F := by decide) :
    Leads F s (execFcallr i a s) := by
  unfold execFcallr
  refine .issue _ (fun n h => ?_) (List.Subset.trans (by decide) hF)
  refine .mono (G := [.fresh, .mem, .eccWb, .regs, .evTick, .events, .cores, .heatCnt, .heatDue, .slots, .badPorts, .safety,
      .reeds, .sedges, .chans, .voters, .vens, .carr]) ?_ hF
  dsimp only
  exact fcallBody_stays ..

theorem execRet_leads {F : List Area} (i : Iss) (s : State)
    (hF : [.fresh, .mem, .eccWb, .regs, .evTick, .events, .cores, .heatCnt, .heatDue, .slots, .badPorts, .safety, .reeds,
        .sedges, .chans, .voters, .vens, .carr] ⊆ F := by decide) :
    Leads F s (execRet i s) := by
  unfold execRet
  refine .issue _ (fun n h => ?_) (List.Subset.trans (by decide) hF)
  refine .mono (G := [.fresh, .mem, .eccWb, .regs, .evTick, .events, .cores, .heatCnt, .heatDue, .slots, .badPorts, .safety,
      .reeds, .sedges, .chans, .voters, .vens, .carr]) ?_ hF
  dsimp only
  exact .bind .get fun _ => .ite (.bind (.throw _) fun _ => .bind (checkShadow_stays ..) fun _ => transfer_stays ..) (.bind
      (checkShadow_stays ..) fun _ => transfer_stays ..)

theorem execFret_leads {F : List Area} (i : Iss) (s : State)
    (hF : [.fresh, .mem, .eccWb, .regs, .evTick, .events, .cores, .heatCnt, .heatDue, .slots, .badPorts, .safety, .reeds,
        .sedges, .chans, .voters, .vens, .carr] ⊆ F := by decide) :
    Leads F s (execFret i s) := by
  unfold execFret
  refine .issue _ (fun n h => ?_) (List.Subset.trans (by decide) hF)
  refine .mono (G := [.fresh, .mem, .eccWb, .regs, .evTick, .events, .cores, .heatCnt, .heatDue, .slots, .badPorts, .safety,
      .reeds, .sedges, .chans, .voters, .vens, .carr]) ?_ hF
  dsimp only
  exact .bind .get fun _ => .bind (checkShadow_stays ..) fun _ => transfer_stays ..

theorem execCjr_leads {F : List Area} (i : Iss) (a : BitVec 4) (s : State)
    (hF : [.fresh, .mem, .eccWb, .regs, .evTick, .events, .cores, .heatCnt, .heatDue, .slots, .badPorts, .safety, .reeds,
        .sedges, .chans, .voters, .vens, .carr] ⊆ F := by decide) :
    Leads F s (execCjr i a s) := by
  unfold execCjr
  refine .issue _ (fun n h => ?_) (List.Subset.trans (by decide) hF)
  refine .mono (G := [.fresh, .mem, .eccWb, .regs, .evTick, .events, .cores, .heatCnt, .heatDue, .slots, .badPorts, .safety,
      .reeds, .sedges, .chans, .voters, .vens, .carr]) ?_ hF
  dsimp only
  exact .bind .get fun _ => .ite (.bind (.throw _) fun _ => .ite (.bind (.throw _) fun _ => .ite (.bind (.throw _) fun _ =>
      .bind (targetCache_stays ..) fun _ => transfer_stays ..) (.bind (targetCache_stays ..) fun _ => transfer_stays ..))
      (.ite (.bind (.throw _) fun _ => .bind (targetCache_stays ..) fun _ => transfer_stays ..) (.bind (targetCache_stays
      ..) fun _ => transfer_stays ..))) (.ite (.bind (.throw _) fun _ => .ite (.bind (.throw _) fun _ => .bind
      (targetCache_stays ..) fun _ => transfer_stays ..) (.bind (targetCache_stays ..) fun _ => transfer_stays ..)) (.ite
      (.bind (.throw _) fun _ => .bind (targetCache_stays ..) fun _ => transfer_stays ..) (.bind (targetCache_stays ..)
      fun _ => transfer_stays ..)))

theorem execGcall_leads {F : List Area} (i : Iss) (k : BitVec 3) (s : State)
    (hF : [.fresh, .mem, .eccWb, .regs, .evTick, .events, .cores, .heatCnt, .heatDue, .slots, .badPorts, .safety, .reeds,
        .sedges, .chans, .voters, .vens, .carr] ⊆ F := by decide) :
    Leads F s (execGcall i k s) := by
  unfold execGcall
  refine .issue _ (fun n h => ?_) (List.Subset.trans (by decide) hF)
  refine .mono (G := [.fresh, .mem, .eccWb, .regs, .evTick, .events, .cores, .heatCnt, .heatDue, .slots, .badPorts, .safety,
      .reeds, .sedges, .chans, .voters, .vens, .carr]) ?_ hF
  dsimp only
  exact gcallBody_stays ..

theorem execGret_leads {F : List Area} (i : Iss) (s : State)
    (hF : [.fresh, .mem, .eccWb, .regs, .evTick, .events, .cores, .heatCnt, .heatDue, .slots, .badPorts, .safety, .reeds,
        .sedges, .chans, .voters, .vens, .carr] ⊆ F := by decide) :
    Leads F s (execGret i s) := by
  unfold execGret
  refine .issue _ (fun n h => ?_) (List.Subset.trans (by decide) hF)
  refine .mono (G := [.fresh, .mem, .eccWb, .regs, .evTick, .events, .cores, .heatCnt, .heatDue, .slots, .badPorts, .safety,
      .reeds, .sedges, .chans, .voters, .vens, .carr]) ?_ hF
  dsimp only
  exact gretBody_stays ..

theorem execInterruptEntry_leads {F : List Area} (core : BitVec 7) (s : State)
    (hF : [.fresh, .mem, .eccWb, .regs, .evTick, .events, .cores, .heatCnt, .heatDue, .slots, .badPorts, .safety, .doms,
        .reeds, .sedges, .chans, .voters, .vens, .carr] ⊆ F := by decide) :
    Leads F s (execInterruptEntry core s) := by
  unfold execInterruptEntry
  refine .mono (G := [.fresh, .mem, .eccWb, .regs, .evTick, .events, .cores, .heatCnt, .heatDue, .slots, .badPorts, .safety,
      .doms, .reeds, .sedges, .chans, .voters, .vens, .carr]) ?_ hF
  dsimp only
  split
  · exact .done (.refl _)
  · split
    · split
      · exact .done (wakeCore_within (wakeContexts_within (.refl _) ..) ..)
      · split
        · exact .done (.ite (takeInterrupt_within (.refl _) ..) (wakeContexts_within (takeInterrupt_within (.refl _) ..) ..))
        · exact .done (wakeContexts_within (.refl _) ..)
    · exact .done (.ite (wakeContexts_within (.refl _) ..) (.refl _))

theorem execContextSelect_leads {F : List Area} (core : BitVec 7) (s : State)
    (hF : [.regs, .evTick, .events, .cores, .sedges] ⊆ F := by decide) : Leads F s (execContextSelect core s) := by
  unfold execContextSelect
  refine .mono (G := [.regs, .evTick, .events, .cores, .sedges]) ?_ hF
  dsimp only
  split
  · split
    · exact .done (switchCtx_within (wakeContexts_within (.refl _) ..) ..)
    · exact .done (wakeContexts_within (.refl _) ..)
  · exact .done (.refl _)

theorem execPrefetch_leads {F : List Area} (core : BitVec 7) (s : State)
    (hF : [.fresh, .eccWb, .regs, .evTick, .events, .cores, .slots, .badPorts] ⊆ F := by decide) :
    Leads F s (execPrefetch core s) := by
  unfold execPrefetch
  refine .mono (G := [.fresh, .eccWb, .regs, .evTick, .events, .cores, .slots, .badPorts]) ?_ hF
  dsimp only
  split
  · exact .done (.refl _)
  · split
    · split
      · split
        · split
          · split
            · exact .done (.refl _)
            · split
              · exact .done (.refl _)
              · exact .done (setCore_within (aheadWord_within (aheadNext_within (.refl _) ..) ..) ..)
          · split
            · exact .done (.refl _)
            · split
              · exact .done (.refl _)
              · exact .done (setCore_within (aheadWord_within (aheadNext_within (.refl _) ..) ..) ..)
        · split
          · exact .done (.refl _)
          · split
            · exact .done (.refl _)
            · exact .done (setCore_within (aheadWord_within (aheadNext_within (.refl _) ..) ..) ..)
      · split
        · split
          · split
            · exact .done (.refl _)
            · split
              · exact .done (.refl _)
              · exact .done (setCore_within (aheadWord_within (aheadNext_within (.refl _) ..) ..) ..)
          · split
            · exact .done (.refl _)
            · split
              · exact .done (.refl _)
              · exact .done (setCore_within (aheadWord_within (aheadNext_within (.refl _) ..) ..) ..)
        · split
          · exact .done (.refl _)
          · split
            · exact .done (.refl _)
            · exact .done (setCore_within (aheadWord_within (aheadNext_within (.refl _) ..) ..) ..)
    · split
      · split
        · split
          · split
            · exact .done (.refl _)
            · split
              · exact .done (.refl _)
              · exact .done (setCore_within (aheadWord_within (aheadNext_within (.refl _) ..) ..) ..)
          · split
            · exact .done (.refl _)
            · split
              · exact .done (.refl _)
              · exact .done (setCore_within (aheadWord_within (aheadNext_within (.refl _) ..) ..) ..)
        · split
          · exact .done (.refl _)
          · split
            · exact .done (.refl _)
            · exact .done (setCore_within (aheadWord_within (aheadNext_within (.refl _) ..) ..) ..)
      · split
        · split
          · split
            · exact .done (.refl _)
            · split
              · exact .done (.refl _)
              · exact .done (setCore_within (aheadWord_within (aheadNext_within (.refl _) ..) ..) ..)
          · split
            · exact .done (.refl _)
            · split
              · exact .done (.refl _)
              · exact .done (setCore_within (aheadWord_within (aheadNext_within (.refl _) ..) ..) ..)
        · split
          · exact .done (.refl _)
          · split
            · exact .done (.refl _)
            · exact .done (setCore_within (aheadWord_within (aheadNext_within (.refl _) ..) ..) ..)

theorem execEccWriteback_leads {F : List Area} (addr : BitVec 30) (s : State)
    (hF : [.mem, .eccWb, .regs, .evTick, .events, .slots] ⊆ F := by decide) : Leads F s (execEccWriteback addr s) := by
  unfold execEccWriteback
  refine .mono (G := [.mem, .eccWb, .regs, .evTick, .events, .slots]) ?_ hF
  dsimp only
  split
  · refine .done ?_
    split
    · exact Within.setEccWb (.mset (bookSlots_within (.refl _) ..) _ _ (by decide)) _ (by decide)
    · exact Within.setEccWb (.mset (.refl _) _ _ (by decide)) _ (by decide)
  · exact .done (.refl _)

theorem execTimedDeadlineSteal_leads {F : List Area} (bank : BitVec 7) (s : State)
    (hF : [.fresh, .mem, .eccWb, .regs, .evTick, .events, .cores, .heatCnt, .heatDue, .steals, .slots, .badPorts, .safety,
        .reeds, .sedges, .chans, .voters, .blocks, .vens, .carr] ⊆ F := by decide) :
    Leads F s (execTimedDeadlineSteal bank s) := by
  unfold execTimedDeadlineSteal
  refine .mono (G := [.fresh, .mem, .eccWb, .regs, .evTick, .events, .cores, .heatCnt, .heatDue, .steals, .slots, .badPorts,
      .safety, .reeds, .sedges, .chans, .voters, .blocks, .vens, .carr]) ?_ hF
  dsimp only
  split
  · split
    · exact .done (drainOne_within (stealSlot_within (.refl _) ..) ..)
    · split
      · exact .done (returnLoad_within (stealSlot_within (.refl _) ..) ..)
      · exact .done (.refl _)
    · exact .done (.refl _)
  · exact .done (.refl _)

theorem execInvalidationArrival_leads {F : List Area} (core : BitVec 7) (post : Nat) (s : State)
    (hF : [.cores, .posts] ⊆ F := by decide) : Leads F s (execInvalidationArrival core post s) := by
  unfold execInvalidationArrival
  refine .mono (G := [.cores, .posts]) ?_ hF
  dsimp only
  split
  · exact .done (.refl _)
  · split
    · exact .done (setCore_within (.refl _) ..)
    · exact .done (Within.setPosts (setCore_within (.refl _) ..) _ (by decide))

theorem execInvalidationAck_leads {F : List Area} (core : BitVec 7) (post : Nat) (s : State)
    (hF : [.posts] ⊆ F := by decide) : Leads F s (execInvalidationAck core post s) := by
  unfold execInvalidationAck
  exact .mono (G := [.posts]) (.done (Within.setPosts (.refl _) _ (by decide))) hF

theorem execWalkRelease_leads {F : List Area} (vpn : BitVec 20) (s : State)
    (hF : [.regs, .evTick, .events, .cores] ⊆ F := by decide) : Leads F s (execWalkRelease vpn s) := by
  unfold execWalkRelease
  exact .mono (G := [.regs, .evTick, .events, .cores]) (.done (.ite (releasePage_within (.refl _) ..) (.refl _))) hF

theorem execHoldLimitExpiry_leads {F : List Area} (core : BitVec 7) (s : State)
    (hF : [.fresh, .mem, .eccWb, .regs, .evTick, .events, .cores, .heatCnt, .heatDue, .slots, .badPorts, .safety, .reeds,
        .chans, .voters, .vens, .carr] ⊆ F := by decide) :
    Leads F s (execHoldLimitExpiry core s) := by
  unfold execHoldLimitExpiry
  refine .mono (G := [.fresh, .mem, .eccWb, .regs, .evTick, .events, .cores, .heatCnt, .heatDue, .slots, .badPorts, .safety,
      .reeds, .chans, .voters, .vens, .carr]) ?_ hF
  dsimp only
  split
  · split
    · exact .done (.refl _)
    · split
      · exact .done (mireEnter_within (setCore_within (releaseWalk_within (.refl _) ..) ..) ..)
      · exact .done (takeTrap_within (setCore_within (releaseWalk_within (.refl _) ..) ..) ..)
  · exact .done (.refl _)

theorem execMulResultWrite_leads {F : List Area} (core : BitVec 7) (ctx : BitVec 2) (s : State)
    (hF : [.cores] ⊆ F := by decide) : Leads F s (execMulResultWrite core ctx s) := by
  unfold execMulResultWrite
  exact .mono (G := [.cores]) (.done (.ite (setCtx_within (.refl _) ..) (.refl _))) hF

theorem execDivComplete_leads {F : List Area} (core : BitVec 7) (ctx : BitVec 2) (s : State)
    (hF : [.cores] ⊆ F := by decide) : Leads F s (execDivComplete core ctx s) := by
  unfold execDivComplete
  refine .mono (G := [.cores]) ?_ hF
  dsimp only
  split
  · exact .done (.refl _)
  · exact .done (.ite (setCtx_within (.refl _) ..) (.refl _))

theorem execStm_leads {F : List Area} (i : Iss) (a : BitVec 4) (b : BitVec 5) (disp : BitVec 11) (s : State)
    (hF : [.fresh, .mem, .eccWb, .regs, .evTick, .events, .cores, .heatCnt, .heatDue, .slots, .badPorts, .safety, .reeds,
        .sedges, .chans, .voters, .vens, .carr] ⊆ F := by decide) :
    Leads F s (execStm i a b disp s) := by
  unfold execStm
  refine .issue _ (fun n h => ?_) (List.Subset.trans (by decide) hF)
  refine .mono (G := [.fresh, .mem, .eccWb, .regs, .evTick, .events, .cores, .heatCnt, .heatDue, .slots, .badPorts, .safety,
      .reeds, .sedges, .chans, .voters, .vens, .carr]) ?_ hF
  dsimp only
  exact maskBody_stays ..

theorem execLdm_leads {F : List Area} (i : Iss) (a : BitVec 4) (b : BitVec 5) (disp : BitVec 11) (s : State)
    (hF : [.fresh, .mem, .eccWb, .regs, .evTick, .events, .cores, .heatCnt, .heatDue, .slots, .badPorts, .safety, .reeds,
        .sedges, .chans, .voters, .vens, .carr] ⊆ F := by decide) :
    Leads F s (execLdm i a b disp s) := by
  unfold execLdm
  refine .issue _ (fun n h => ?_) (List.Subset.trans (by decide) hF)
  refine .mono (G := [.fresh, .mem, .eccWb, .regs, .evTick, .events, .cores, .heatCnt, .heatDue, .slots, .badPorts, .safety,
      .reeds, .sedges, .chans, .voters, .vens, .carr]) ?_ hF
  dsimp only
  exact maskBody_stays ..

theorem execCmove_leads {F : List Area} (i : Iss) (d a : BitVec 4) (b : BitVec 5) (s : State)
    (hF : [.fresh, .mem, .eccWb, .regs, .evTick, .events, .cores, .heatCnt, .heatDue, .slots, .badPorts, .safety, .reeds,
        .sedges, .chans, .voters, .vens, .carr] ⊆ F := by decide) :
    Leads F s (execCmove i d a b s) := by
  unfold execCmove
  refine .issue _ (fun n h => ?_) (List.Subset.trans (by decide) hF)
  refine .mono (G := [.fresh, .mem, .eccWb, .regs, .evTick, .events, .cores, .heatCnt, .heatDue, .slots, .badPorts, .safety,
      .reeds, .sedges, .chans, .voters, .vens, .carr]) ?_ hF
  dsimp only
  exact cmoveBody_stays ..

theorem execRvprobe_leads {F : List Area} (i : Iss) (s : State)
    (hF : [.fresh, .mem, .eccWb, .regs, .evTick, .events, .cores, .heatCnt, .heatDue, .slots, .badPorts, .safety, .reeds,
        .sedges, .chans, .voters, .vens, .carr] ⊆ F := by decide) :
    Leads F s (execRvprobe i s) := by
  unfold execRvprobe
  refine .issue _ (fun n h => ?_) (List.Subset.trans (by decide) hF)
  refine .mono (G := [.fresh, .mem, .eccWb, .regs, .evTick, .events, .cores, .heatCnt, .heatDue, .slots, .badPorts, .safety,
      .reeds, .sedges, .chans, .voters, .vens, .carr]) ?_ hF
  dsimp only
  exact .bind .get fun _ => .bind (probeLoop_stays ..) fun _ => .bind (restoreRecord_stays ..) fun _ => .pure _

theorem execMfs_leads {F : List Area} (i : Iss) (d num : BitVec 5) (s : State)
    (hF : [.fresh, .mem, .eccWb, .regs, .evTick, .events, .cores, .heatCnt, .heatDue, .slots, .badPorts, .safety, .reeds,
        .sedges, .chans, .voters, .vens, .carr] ⊆ F := by decide) :
    Leads F s (execMfs i d num s) := by
  unfold execMfs
  refine .issue _ (fun n h => ?_) (List.Subset.trans (by decide) hF)
  refine .mono (G := [.fresh, .mem, .eccWb, .regs, .evTick, .events, .cores, .heatCnt, .heatDue, .slots, .badPorts, .safety,
      .reeds, .sedges, .chans, .voters, .vens, .carr]) ?_ hF
  refine sysInsn_stays _ _ (fun _ _ => ?_) _ _
  dsimp only
  exact .bind .get fun _ => .ite (.bind (modCtx_stays ..) fun _ => modCtx_stays ..) (modCtx_stays ..)

theorem execBreak_leads {F : List Area} (i : Iss) (s : State)
    (hF : [.fresh, .mem, .eccWb, .regs, .evTick, .events, .cores, .heatCnt, .heatDue, .slots, .badPorts, .safety, .reeds,
        .sedges, .chans, .voters, .vens, .carr] ⊆ F := by decide) :
    Leads F s (execBreak i s) := by
  unfold execBreak
  refine .issue _ (fun n h => ?_) (List.Subset.trans (by decide) hF)
  refine .mono (G := [.fresh, .mem, .eccWb, .regs, .evTick, .events, .cores, .heatCnt, .heatDue, .slots, .badPorts, .safety,
      .reeds, .sedges, .chans, .voters, .vens, .carr]) ?_ hF
  dsimp only
  exact .bind .get fun _ => .ite (.bind (modCtx_stays ..) fun _ => .bind (upd_stays fun _ => irqPend_within (.refl _) ..)
      fun _ => .pure _) (fault_stays ..)

theorem execGbar_leads {F : List Area} (i : Iss) (s : State)
    (hF : [.fresh, .mem, .eccWb, .regs, .evTick, .events, .cores, .heatCnt, .heatDue, .slots, .badPorts, .safety, .reeds,
        .sedges, .chans, .voters, .vens, .carr] ⊆ F := by decide) :
    Leads F s (execGbar i s) := by
  unfold execGbar
  refine .issue _ (fun n h => ?_) (List.Subset.trans (by decide) hF)
  refine .mono (G := [.fresh, .mem, .eccWb, .regs, .evTick, .events, .cores, .heatCnt, .heatDue, .slots, .badPorts, .safety,
      .reeds, .sedges, .chans, .voters, .vens, .carr]) ?_ hF
  refine sysInsn_stays _ _ (fun _ _ => ?_) _ _
  dsimp only
  exact .bind .get fun _ => .bind (modCtx_stays ..) fun _ => .ite (.bind (.throw _) fun _ => upd_stays fun _ =>
      discardPq_within (.refl _) ..) (upd_stays fun _ => discardPq_within (.refl _) ..)

theorem execSwitch_leads {F : List Area} (i : Iss) (a : BitVec 4) (s : State)
    (hF : [.fresh, .mem, .eccWb, .regs, .evTick, .events, .cores, .heatCnt, .heatDue, .slots, .badPorts, .safety, .reeds,
        .sedges, .chans, .voters, .vens, .carr] ⊆ F := by decide) :
    Leads F s (execSwitch i a s) := by
  unfold execSwitch
  refine .issue _ (fun n h => ?_) (List.Subset.trans (by decide) hF)
  refine .mono (G := [.fresh, .mem, .eccWb, .regs, .evTick, .events, .cores, .heatCnt, .heatDue, .slots, .badPorts, .safety,
      .reeds, .sedges, .chans, .voters, .vens, .carr]) ?_ hF
  refine sysInsn_stays _ _ (fun _ _ => ?_) _ _
  dsimp only
  exact .bind .get fun _ => .ite (.bind (.throw _) fun _ => .ite (.bind (.throw _) fun _ => .ite (.bind (fault_stays ..)
      fun _ => .bind (epochHold_stays ..) fun _ => upd_stays fun _ => discardPq_within (flipSets_within (.refl _) ..) ..)
      (.bind (epochHold_stays ..) fun _ => upd_stays fun _ => discardPq_within (flipSets_within (.refl _) ..) ..)) (.ite
      (.bind (fault_stays ..) fun _ => .bind (epochHold_stays ..) fun _ => upd_stays fun _ => discardPq_within
      (flipSets_within (.refl _) ..) ..) (.bind (epochHold_stays ..) fun _ => upd_stays fun _ => discardPq_within
      (flipSets_within (.refl _) ..) ..))) (.ite (.bind (.throw _) fun _ => .ite (.bind (fault_stays ..) fun _ => .bind
      (epochHold_stays ..) fun _ => upd_stays fun _ => discardPq_within (flipSets_within (.refl _) ..) ..) (.bind
      (epochHold_stays ..) fun _ => upd_stays fun _ => discardPq_within (flipSets_within (.refl _) ..) ..)) (.ite (.bind
      (fault_stays ..) fun _ => .bind (epochHold_stays ..) fun _ => upd_stays fun _ => discardPq_within (flipSets_within
      (.refl _) ..) ..) (.bind (epochHold_stays ..) fun _ => upd_stays fun _ => discardPq_within (flipSets_within (.refl _)
      ..) ..)))

theorem execTlbi_leads {F : List Area} (i : Iss) (a : BitVec 5) (s : State)
    (hF : [.fresh, .mem, .eccWb, .regs, .evTick, .events, .cores, .heatCnt, .heatDue, .slots, .badPorts, .safety, .reeds,
        .sedges, .posts, .postId, .chans, .voters, .vens, .carr] ⊆ F := by decide) :
    Leads F s (execTlbi i a s) := by
  unfold execTlbi
  refine .issue _ (fun n h => ?_) (List.Subset.trans (by decide) hF)
  refine .mono (G := [.fresh, .mem, .eccWb, .regs, .evTick, .events, .cores, .heatCnt, .heatDue, .slots, .badPorts, .safety,
      .reeds, .sedges, .posts, .postId, .chans, .voters, .vens, .carr]) ?_ hF
  refine sysInsn_stays _ _ (fun _ _ => ?_) _ _
  dsimp only
  exact .bind (storesDone_stays ..) fun _ => upd_stays fun _ => tlbInvalidate_within (.refl _) ..

theorem execRfe_leads {F : List Area} (i : Iss) (s : State)
    (hF : [.fresh, .mem, .eccWb, .regs, .evTick, .events, .cores, .heatCnt, .heatDue, .slots, .badPorts, .safety, .reeds,
        .sedges, .chans, .voters, .vens, .carr] ⊆ F := by decide) :
    Leads F s (execRfe i s) := by
  unfold execRfe
  refine .issue _ (fun n h => ?_) (List.Subset.trans (by decide) hF)
  refine .mono (G := [.fresh, .mem, .eccWb, .regs, .evTick, .events, .cores, .heatCnt, .heatDue, .slots, .badPorts, .safety,
      .reeds, .sedges, .chans, .voters, .vens, .carr]) ?_ hF
  dsimp only
  exact rfeBody_stays ..

theorem execReservedEncoding_leads {F : List Area} (core : BitVec 7) (word : Word) (s : State)
    (hF : [.fresh, .mem, .eccWb, .regs, .evTick, .events, .cores, .heatCnt, .heatDue, .slots, .badPorts, .safety, .reeds,
        .sedges, .chans, .voters, .vens, .carr] ⊆ F := by decide) :
    Leads F s (execReservedEncoding core word s) := by
  unfold execReservedEncoding
  split
  · exact .issue _ (fun _ _ => .pure _) hF
  · exact .done (.refl s)

theorem execFrzNFall_leads {F : List Area} (long : Bool) (s : State)
    (hF : [.pins, .frozen, .emps] ⊆ F := by decide) : Leads F s (execFrzNFall long s) := by
  unfold execFrzNFall
  refine .mono (G := [.pins, .frozen, .emps]) ?_ hF
  refine .done ?_
  refine .ite ?_ (.refl _)
  refine freezeNow_within ?_ ..
  dsimp only
  exact Within.setPins (.refl _) _ (by decide)

theorem execFrzNRelease_leads {F : List Area} (s : State)
    (hF : [.regs, .evTick, .events, .pins, .frozen, .refs, .reeds, .chans, .voters, .links, .cwys, .emps] ⊆ F := by decide) :
    Leads F s (execFrzNRelease s) := by
  unfold execFrzNRelease
  refine .mono (G := [.regs, .evTick, .events, .pins, .frozen, .refs, .reeds, .chans, .voters, .links, .cwys, .emps]) ?_ hF
  refine .done ?_
  dsimp only
  split
  · exact .ite (thaw_within (Within.setPins (.refl _) _ (by decide)) ..) (Within.setPins (.refl _) _ (by decide))
  · exact Within.setPins (.refl _) _ (by decide)

theorem execTapIrUpdate_leads {F : List Area} (load : TapLoad) (s : State)
    (hF : [.fresh, .tap] ⊆ F := by decide) : Leads F s (execTapIrUpdate load s) := by
  unfold execTapIrUpdate
  refine .mono (G := [.fresh, .tap]) ?_ hF
  refine .done ?_
  refine .ite ?_ ?_
  · refine tapScan_within ?_ ..
    dsimp only
    exact Within.setTap (.refl _) _ (by decide)
  · dsimp only
    exact Within.setTap (.refl _) _ (by decide)

theorem execExtest_leads {F : List Area} (inp out en : List Ball) (s : State)
    (hF : [.fresh, .tap] ⊆ F := by decide) : Leads F s (execExtest inp out en s) := by
  unfold execExtest
  refine .mono (G := [.fresh, .tap]) ?_ hF
  refine .done ?_
  refine tapScan_within ?_ ..
  dsimp only
  exact Within.setTap (.refl _) _ (by decide)

theorem execIdcode_leads {F : List Area} (s : State)
    (hF : [.tap] ⊆ F := by decide) : Leads F s (execIdcode s) := by
  unfold execIdcode
  exact .mono (G := [.tap]) (.done (tapSelect_within (.refl _) ..)) hF

theorem execFrzsel_leads {F : List Area} (v : Word) (s : State)
    (hF : [.tap] ⊆ F := by decide) : Leads F s (execFrzsel v s) := by
  unfold execFrzsel
  refine .mono (G := [.tap]) ?_ hF
  refine .done ?_
  dsimp only
  exact Within.setTap (tapSelect_within (.refl _) ..) _ (by decide)

theorem execFrzread_leads {F : List Area} (s : State)
    (hF : [.tap] ⊆ F := by decide) : Leads F s (execFrzread s) := by
  unfold execFrzread
  refine .mono (G := [.tap]) ?_ hF
  refine .done ?_
  dsimp only
  split
  · exact Within.setTap (tapSelect_within (.refl _) ..) _ (by decide)
  · exact Within.setTap (tapSelect_within (.refl _) ..) _ (by decide)

theorem execDbgacc_leads {F : List Area} (dr : BitVec 68) (s : State)
    (hF : (.lcs :: .fusesRead :: .postId :: .tap :: Area.ofReset : List Area) ⊆ F := by decide) :
    Leads F s (execDbgacc dr s) := by
  unfold execDbgacc
  refine .mono (G := (.lcs :: .fusesRead :: .postId :: .tap :: Area.ofReset : List Area)) ?_ hF
  dsimp only
  split
  · exact .done (tapSelect_within (.refl _) ..)
  · refine .done ?_
    split
    · exact Within.setTap (debugMaster_within (tapSelect_within (.refl _) ..) ..) _ (by decide)
    · exact Within.setTap (debugMaster_within (tapSelect_within (.refl _) ..) ..) _ (by decide)

theorem execTaskMigrationCommit_leads {F : List Area} (die : BitVec 3) (s : State)
    (hF : [.fresh, .eccWb, .regs, .evTick, .events, .cores, .heatCnt, .heatDue, .slots, .badPorts, .sedges] ⊆ F := by decide) :
    Leads F s (execTaskMigrationCommit die s) := by
  unfold execTaskMigrationCommit
  refine .mono (G := [.fresh, .eccWb, .regs, .evTick, .events, .cores, .heatCnt, .heatDue, .slots, .badPorts, .sedges]) ?_ hF
  refine .done ?_
  refine .ite ?_ (.refl _)
  split
  · split
    · exact commitTask_within (.refl _) ..
    · exact abandonTask_within (.refl _) ..
  · exact .refl _

theorem Leads.issued {s : State} {iss : Iss} {i : Insn} (hi : ∀ n h, Stays Area.ofCommand (i.body n h)) :
    Leads Area.ofCommand s (Machine.issue s iss i) := .issue iss hi

/-- Every command answers a next state, and leaves the part, the queue and the count of fabric cycles (R13). -/
theorem exec_leads (i : Instr) (s : State) : Leads Area.ofCommand s (exec i s) :=
  open Leads in
  match i with
  | .add .. => issued fun _ _ => regInsn_stays ..
  | .sub .. => issued fun _ _ => regInsn_stays ..
  | .addv .. => issued fun _ _ => tryInsn_stays ..
  | .subv .. => issued fun _ _ => tryInsn_stays ..
  | .and_ .. => issued fun _ _ => regInsn_stays ..
  | .or_ .. => issued fun _ _ => regInsn_stays ..
  | .xor_ .. => issued fun _ _ => regInsn_stays ..
  | .andn .. => issued fun _ _ => regInsn_stays ..
  | .nor .. => issued fun _ _ => regInsn_stays ..
  | .shl .. => issued fun _ _ => regInsn_stays ..
  | .shr .. => issued fun _ _ => regInsn_stays ..
  | .sar .. => issued fun _ _ => regInsn_stays ..
  | .rol .. => issued fun _ _ => regInsn_stays ..
  | .min_ .. => issued fun _ _ => regInsn_stays ..
  | .max_ .. => issued fun _ _ => regInsn_stays ..
  | .minu .. => issued fun _ _ => regInsn_stays ..
  | .maxu .. => issued fun _ _ => regInsn_stays ..
  | .clz .. => issued fun _ _ => regInsn_stays ..
  | .popc .. => issued fun _ _ => regInsn_stays ..
  | .sxh .. => issued fun _ _ => regInsn_stays ..
  | .sxn .. => issued fun _ _ => regInsn_stays ..
  | .addi .. => issued fun _ _ => regInsn_stays ..
  | .andi .. => issued fun _ _ => regInsn_stays ..
  | .ori .. => issued fun _ _ => regInsn_stays ..
  | .xori .. => issued fun _ _ => regInsn_stays ..
  | .shi .. => issued fun _ _ => regInsn_stays ..
  | .lhi .. => issued fun _ _ => regInsn_stays ..
  | .llo .. => issued fun _ _ => regInsn_stays ..
  | .ceq .. => issued fun _ _ => regInsn_stays ..
  | .cne .. => issued fun _ _ => regInsn_stays ..
  | .clt .. => issued fun _ _ => regInsn_stays ..
  | .cle .. => issued fun _ _ => regInsn_stays ..
  | .cltu .. => issued fun _ _ => regInsn_stays ..
  | .cleu .. => issued fun _ _ => regInsn_stays ..
  | .ceqi .. => issued fun _ _ => regInsn_stays ..
  | .cnei .. => issued fun _ _ => regInsn_stays ..
  | .clti .. => issued fun _ _ => regInsn_stays ..
  | .cltui .. => issued fun _ _ => regInsn_stays ..
  | .qand .. => issued fun _ _ => regInsn_stays ..
  | .qor .. => issued fun _ _ => regInsn_stays ..
  | .qxor .. => issued fun _ _ => regInsn_stays ..
  | .qandn .. => issued fun _ _ => regInsn_stays ..
  | .qnz .. => issued fun _ _ => regInsn_stays ..
  | .qtow .. => issued fun _ _ => regInsn_stays ..
  | .wtoq .. => issued fun _ _ => regInsn_stays ..
  | .mul .. => issued fun _ _ => mulOp_stays ..
  | .mulu .. => issued fun _ _ => mulOp_stays ..
  | .mulResultWrite .. => execMulResultWrite_leads ..
  | .mfmh .. => issued fun _ _ => mulMove_stays ..
  | .mfml .. => issued fun _ _ => mulMove_stays ..
  | .mtm .. => issued fun _ _ => mulMove_stays ..
  | .div .. => issued fun _ _ => divOp_stays ..
  | .divu .. => issued fun _ _ => divOp_stays ..
  | .divComplete .. => execDivComplete_leads ..
  | .mfdq .. => issued fun _ _ => regInsn_stays ..
  | .mfdm .. => issued fun _ _ => regInsn_stays ..
  | .mtd .. => issued fun _ _ => regInsn_stays ..
  | .ldw .. => issued fun _ _ => loadInsn_stays ..
  | .ldh .. => issued fun _ _ => loadInsn_stays ..
  | .ldhs .. => issued fun _ _ => loadInsn_stays ..
  | .ldn .. => issued fun _ _ => loadInsn_stays ..
  | .ldns .. => issued fun _ _ => loadInsn_stays ..
  | .ldo .. => issued fun _ _ => loadInsn_stays ..
  | .ldpc .. => execLdpc_leads ..
  | .loadDataReturn .. => execLoadDataReturn_leads ..
  | .stw .. => issued fun _ _ => storeInsn_stays ..
  | .sth .. => issued fun _ _ => storeInsn_stays ..
  | .stn .. => issued fun _ _ => storeInsn_stays ..
  | .sto .. => issued fun _ _ => storeInsn_stays ..
  | .storeAck .. => execStoreAck_leads ..
  | .lateStoreError .. => execLateStoreError_leads ..
  | .cld .. => execCld_leads ..
  | .cst .. => execCst_leads ..
  | .cstepi .. => issued fun _ _ => tryInsn_stays ..
  | .cmove .. => execCmove_leads ..
  | .stm .. => execStm_leads ..
  | .ldm .. => execLdm_leads ..
  | .br .. => execBr_leads ..
  | .call .. => execCall_leads ..
  | .fcall .. => execFcall_leads ..
  | .gcall .. => execGcall_leads ..
  | .jr .. => execJr_leads ..
  | .callr .. => execCallr_leads ..
  | .fcallr .. => execFcallr_leads ..
  | .ret .. => execRet_leads ..
  | .fret .. => execFret_leads ..
  | .cjr .. => execCjr_leads ..
  | .cgettag .. => issued fun _ _ => regInsn_stays ..
  | .cgetperm .. => issued fun _ _ => regInsn_stays ..
  | .cgettype .. => issued fun _ _ => regInsn_stays ..
  | .cgetaddr .. => issued fun _ _ => regInsn_stays ..
  | .cgetbase .. => issued fun _ _ => regInsn_stays ..
  | .cgettop .. => issued fun _ _ => regInsn_stays ..
  | .cgetlen .. => issued fun _ _ => regInsn_stays ..
  | .cmovr .. => issued fun _ _ => regInsn_stays ..
  | .cclrtag .. => issued fun _ _ => regInsn_stays ..
  | .cgetpcc .. => issued fun _ _ => regInsn_stays ..
  | .cpoint .. => issued fun _ _ => tryInsn_stays ..
  | .cstep .. => issued fun _ _ => tryInsn_stays ..
  | .cmaskp .. => issued fun _ _ => tryInsn_stays ..
  | .cnarrow .. => issued fun _ _ => tryInsn_stays ..
  | .cnarrowx .. => issued fun _ _ => tryInsn_stays ..
  | .cseal .. => issued fun _ _ => tryInsn_stays ..
  | .cunseal .. => issued fun _ _ => tryInsn_stays ..
  | .csealh .. => issued fun _ _ => tryInsn_stays ..
  | .cinvoke .. => execCinvoke_leads ..
  | .csizeup .. => issued fun _ _ => sizeInsn_stays ..
  | .cbasemask .. => issued fun _ _ => sizeInsn_stays ..
  | .nop .. => issued fun _ _ => sysInsn_stays _ _ (fun _ _ => .pure _) _ _
  | .mfs .. => execMfs_leads ..
  | .mts .. => issued fun _ _ => sysInsn_stays _ _ (fun _ _ => modCtx_stays ..) _ _
  | .cmfs .. => issued fun _ _ => sysInsn_stays _ _ (fun _ _ => modCtx_stays ..) _ _
  | .cmts .. => issued fun _ _ => sysInsn_stays _ _ (fun _ _ => cmtsBody_stays ..) _ _
  | .trap .. => issued fun _ _ => sysInsn_stays _ _ (fun _ _ => .bind .get fun _ => .throw _) _ _
  | .break_ .. => execBreak_leads ..
  | .wait .. => issued fun _ _ => sysInsn_stays _ _ (fun _ _ => modCtx_stays ..) _ _
  | .fence .. => issued fun _ _ => sysInsn_stays _ _ (fun _ _ => .bind .get fun _ => .ite (.bind (modCtx_stays ..) fun _ =>
      .throw _) (.pure _)) _ _
  | .gbar .. => execGbar_leads ..
  | .switch .. => execSwitch_leads ..
  | .rfe .. => execRfe_leads ..
  | .gret .. => execGret_leads ..
  | .rvprobe .. => execRvprobe_leads ..
  | .tlbi .. => execTlbi_leads ..
  | .tlbia .. => issued fun _ _ => sysInsn_stays _ _ (fun _ _ => .bind (storesDone_stays ..) fun _ => upd_stays
      fun _ => tlbInvalidate_within (.refl _) ..) _ _
  | .tlbsync .. => issued fun _ _ => sysInsn_stays _ _ (fun _ _ => .bind .get fun _ => .ite (.throw _) (.pure _)) _ _
  | .interruptEntry .. => execInterruptEntry_leads ..
  | .contextSelect .. => execContextSelect_leads ..
  | .prefetch .. => execPrefetch_leads ..
  | .eccWriteback .. => execEccWriteback_leads ..
  | .timedDeadlineSteal .. => execTimedDeadlineSteal_leads ..
  | .regfileParityError .. => execRegfileParityError_leads ..
  | .regionErrorReport .. => execRegionErrorReport_leads ..
  | .heartbeatTimeout .. => execHeartbeatTimeout_leads ..
  | .crossbarGrant .. => execCrossbarGrant_leads ..
  | .unitTransmit .. => execUnitTransmit_leads ..
  | .unitReceive .. => execUnitReceive_leads ..
  | .creditReturn .. => execCreditReturn_leads ..
  | .nak .. => execNak_leads ..
  | .laneLockLoss .. => execLaneLockLoss_leads ..
  | .retrainExchange .. => execRetrainExchange_leads ..
  | .retrainAttemptEnd .. => execRetrainAttemptEnd_leads ..
  | .linkUp .. => execLinkUp_leads ..
  | .stackDeclare => execStackDeclare_leads ..
  | .joinRequest .. => execJoinRequest_leads ..
  | .memberRemoval .. => execMemberRemoval_leads ..
  | .leave => execLeave_leads ..
  | .syncPacket .. => execSyncPacket_leads ..
  | .syncTimeout => execSyncTimeout_leads ..
  | .roundTripMeasure .. => execRoundTripMeasure_leads ..
  | .remoteRequest .. => execRemoteRequest_leads ..
  | .featAcceptWrite .. => execFeatAcceptWrite_leads ..
  | .en .. => execEn_leads ..
  | .enabledFollows .. => execEnabledFollows_leads ..
  | .srst .. => execSrst_leads ..
  | .errFirstRelease .. => execErrFirstRelease_leads ..
  | .errCountClr .. => execErrCountClr_leads ..
  | .lk .. => execLk_leads ..
  | .registerWrite .. => execRegisterWrite_leads ..
  | .start .. => execStart_leads ..
  | .sweepPair .. => execSweepPair_leads ..
  | .sweepEnd .. => execSweepEnd_leads ..
  | .ring .. => execRing_leads ..
  | .ctxbindStart .. => execCtxbindStart_leads ..
  | .ctxbindStop .. => execCtxbindStop_leads ..
  | .flush .. => execFlush_leads ..
  | .pmctlClr .. => execPmctlClr_leads ..
  | .ttbWrite .. => execTtbWrite_leads ..
  | .invalidationArrival .. => execInvalidationArrival_leads ..
  | .invalidationAck .. => execInvalidationAck_leads ..
  | .walkRelease .. => execWalkRelease_leads ..
  | .holdLimitExpiry .. => execHoldLimitExpiry_leads ..
  | .register .. => execRegister_leads ..
  | .sedgeRelease .. => execSedgeRelease_leads ..
  | .move .. => execMove_leads ..
  | .pool .. => execPool_leads ..
  | .reclaim .. => execReclaim_leads ..
  | .tmove .. => execTmove_leads ..
  | .pin .. => execPin_leads ..
  | .sedgeCommandDone .. => execSedgeCommandDone_leads ..
  | .compclsWrite .. => execCompclsWrite_leads ..
  | .sedgeSrst .. => execSedgeSrst_leads ..
  | .heatReport .. => execHeatReport_leads ..
  | .heatHalving .. => execHeatHalving_leads ..
  | .heatMigrationStart .. => execHeatMigrationStart_leads ..
  | .migrationFrameGrant .. => execMigrationFrameGrant_leads ..
  | .migrationCopyPair .. => execMigrationCopyPair_leads ..
  | .migrationMake .. => execMigrationMake_leads ..
  | .migrationConfirm .. => execMigrationConfirm_leads ..
  | .taskMigrationStart .. => execTaskMigrationStart_leads ..
  | .taskMigrationCommit .. => execTaskMigrationCommit_leads ..
  | .heldmaxRead .. => execHeldmaxRead_leads ..
  | .frames0Read .. => execFrames0Read_leads ..
  | .rsload .. => execRsload_leads ..
  | .rsloadDone .. => execRsloadDone_leads ..
  | .rsctlClear .. => execRsctlClear_leads ..
  | .rsctlCommit .. => execRsctlCommit_leads ..
  | .rsdataWrite .. => execRsdataWrite_leads ..
  | .targetGateWrite .. => execTargetGateWrite_leads ..
  | .gatecfgWrite .. => execGatecfgWrite_leads ..
  | .crossingDetected .. => execCrossingDetected_leads ..
  | .crossingTimeout .. => execCrossingTimeout_leads ..
  | .holdmaxExpiry .. => execHoldmaxExpiry_leads ..
  | .refcfgWrite .. => execRefcfgWrite_leads ..
  | .syntheticLock .. => execSyntheticLock_leads ..
  | .phrefSrst => execPhrefSrst_leads ..
  | .ttLoRead => execTtLoRead_leads ..
  | .rateWrite .. => execRateWrite_leads ..
  | .stepHi .. => execStepHi_leads ..
  | .ttimeSrst => execTtimeSrst_leads ..
  | .ins0 .. => execIns0_leads ..
  | .insStage .. => execInsStage_leads ..
  | .ins3 .. => execIns3_leads ..
  | .cancel .. => execCancel_leads ..
  | .stagingSlotExpiry .. => execStagingSlotExpiry_leads ..
  | .pendingInsertDiscard .. => execPendingInsertDiscard_leads ..
  | .pendingCancelExpiry .. => execPendingCancelExpiry_leads ..
  | .eventDispatch .. => execEventDispatch_leads ..
  | .gdon .. => execGdon_leads ..
  | .gdoff .. => execGdoff_leads ..
  | .level .. => execLevel_leads ..
  | .burst .. => execBurst_leads ..
  | .burstEnd .. => execBurstEnd_leads ..
  | .toggle .. => execToggle_leads ..
  | .mark .. => execMark_leads ..
  | .irq .. => execIrq_leads ..
  | .evfifoRead .. => execEvfifoRead_leads ..
  | .evcnt0Read .. => execEvcnt0Read_leads ..
  | .sampleFrame .. => execSampleFrame_leads ..
  | .selftest .. => execSelftest_leads ..
  | .cbkEnable .. => execCbkEnable_leads ..
  | .provingCycleEnd .. => execProvingCycleEnd_leads ..
  | .feedbackTimeout .. => execFeedbackTimeout_leads ..
  | .axleSupervisionTimeout .. => execAxleSupervisionTimeout_leads ..
  | .chcfgWrite .. => execChcfgWrite_leads ..
  | .chctlSafe .. => execChctlSafe_leads ..
  | .rel .. => execRel_leads ..
  | .chctlGdOn .. => execChctlGdOn_leads ..
  | .chctlGdOff .. => execChctlGdOff_leads ..
  | .axevRead .. => execAxevRead_leads ..
  | .m1Read .. => execM1Read_leads ..
  | .chanSrst .. => execChanSrst_leads ..
  | .parg .. => execParg_leads ..
  | .propose .. => execPropose_leads ..
  | .safe .. => execSafe_leads ..
  | .release .. => execRelease_leads ..
  | .withdraw .. => execWithdraw_leads ..
  | .presRead .. => execPresRead_leads ..
  | .propSlotExpiry .. => execPropSlotExpiry_leads ..
  | .windowExpiry .. => execWindowExpiry_leads ..
  | .commitRelease .. => execCommitRelease_leads ..
  | .choldExpiry .. => execCholdExpiry_leads ..
  | .sluiceEnable .. => execSluiceEnable_leads ..
  | .laneWrite .. => execLaneWrite_leads ..
  | .sluiceSrst .. => execSluiceSrst_leads ..
  | .venkick .. => execVenkick_leads ..
  | .venWindowEnd .. => execVenWindowEnd_leads ..
  | .arm .. => execArm_leads ..
  | .stop .. => execStop_leads ..
  | .txkick .. => execTxkick_leads ..
  | .rxkick .. => execRxkick_leads ..
  | .ethFrameReceive .. => execEthFrameReceive_leads ..
  | .ethFrameTransmit .. => execEthFrameTransmit_leads ..
  | .canFrameReceive .. => execCanFrameReceive_leads ..
  | .canFrameTransmit .. => execCanFrameTransmit_leads ..
  | .canBusoffRecovery .. => execCanBusoffRecovery_leads ..
  | .flashEnable .. => execFlashEnable_leads ..
  | .copy .. => execCopy_leads ..
  | .program .. => execProgram_leads ..
  | .erase .. => execErase_leads ..
  | .flashCommandDone .. => execFlashCommandDone_leads ..
  | .empEnable .. => execEmpEnable_leads ..
  | .mr4Poll .. => execMr4Poll_leads ..
  | .scrubBurst .. => execScrubBurst_leads ..
  | .bootImageCheck .. => execBootImageCheck_leads ..
  | .handover .. => execHandover_leads ..
  | .attest .. => execAttest_leads ..
  | .idkey .. => execIdkey_leads ..
  | .chal .. => execChal_leads ..
  | .dbgresp .. => execDbgresp_leads ..
  | .dbgend .. => execDbgend_leads ..
  | .lctrans .. => execLctrans_leads ..
  | .revoke .. => execRevoke_leads ..
  | .svnadv .. => execSvnadv_leads ..
  | .provision .. => execProvision_leads ..
  | .carrCommandDone => execCarrCommandDone_leads ..
  | .tokenExpiry => execTokenExpiry_leads ..
  | .domRequest .. => execDomRequest_leads ..
  | .drainEnd .. => execDrainEnd_leads ..
  | .transitionDone .. => execTransitionDone_leads ..
  | .domRst .. => execDomRst_leads ..
  | .domRstRelease .. => execDomRstRelease_leads ..
  | .supplyFault => execSupplyFault_leads ..
  | .supplyRestore => execSupplyRestore_leads ..
  | .porstNAssert .. => execPorstNAssert_leads ..
  | .porstNRelease .. => execPorstNRelease_leads ..
  | .sysrstNAssert .. => execSysrstNAssert_leads ..
  | .sysrstNRelease => execSysrstNRelease_leads ..
  | .swrst .. => execSwrst_leads ..
  | .dierst .. => execDierst_leads ..
  | .go => execGo_leads ..
  | .proof => execProof_leads ..
  | .regrel .. => execRegrel_leads ..
  | .frzNFall .. => execFrzNFall_leads ..
  | .frzNRelease => execFrzNRelease_leads ..
  | .tapIrUpdate .. => execTapIrUpdate_leads ..
  | .extest .. => execExtest_leads ..
  | .idcode => execIdcode_leads ..
  | .frzsel .. => execFrzsel_leads ..
  | .frzread => execFrzread_leads ..
  | .dbgacc .. => execDbgacc_leads ..
  | .halt .. => execHalt_leads ..
  | .step .. => execStep_leads ..
  | .run .. => execRun_leads ..
  | .dbgrdataAccess .. => execDbgrdataAccess_leads ..
  | .reservedEncoding .. => execReservedEncoding_leads ..
  | .blockDmaDescriptor .. => execBlockDmaDescriptor_leads ..
  | .ethLinkChange .. => execEthLinkChange_leads ..
  | .dieResetRelease .. => execDieResetRelease_leads ..
  | .phaseControlEdge .. => execPhaseControlEdge_leads ..

end Sys2Proof.Machine

namespace Sys2Proof.Machine
open Sys2Proof Sys2Proof.Machine
-- Each lemma rests on the ones before it: the proofs are checked in order.
set_option Elab.async false

/-! ## The queue, the canonical form and the fabric cycle -/

/-- With the queue set aside, the canonical form is that of the rest. -/
theorem Canonical.withQueue {s : State} (h : Canonical s) (q : List Instr) : Canonical { s with pending := q } := h

/-- A step with a command waiting leads within the command's fields from the state with the rest of the queue. -/
theorem step_leads {s t : State} {c : Instr} {rest : List Instr} (hq : s.pending = c :: rest) (h : step s = .next t) :
    Within Area.ofCommand { s with pending := rest } t := by
  obtain ⟨u, hu, hw⟩ := exec_leads c { s with pending := rest }
  have e : step s = exec c { s with pending := rest } := by
    unfold step
    rw [hq]
  rw [e, hu, Host.Outcome.next.injEq] at h
  exact h ▸ hw

theorem step_idle {s : State} (hq : s.pending = []) : step s = .next (tick s) := by
  unfold step
  rw [hq]

/-- The fields that a fabric cycle writes. -/
abbrev Area.ofTick : List Area :=
  [.regs, .evTick, .events, .cores, .tt, .ttSub, .ttRateWas, .ttMarks, .ticks, .sync, .refs, .reeds, .chans, .voters, .links,
   .cwys, .stack]

theorem tick_ofTick (s : State) : Within Area.ofTick s (tick s) := tick_within (.refl s)

/-- The step of an empty queue writes the fields of a fabric cycle. -/
theorem step_idle_within {s t : State} (hq : s.pending = []) (h : step s = .next t) : Within Area.ofTick s t := by
  rw [step_idle hq, Host.Outcome.next.injEq] at h
  exact h ▸ tick_ofTick s

/-- Settles O1: the step's second branch. -/
theorem frontCommandRuns : Obligations.FrontCommandRuns := by
  unfold Obligations.FrontCommandRuns
  intro s c rest hq
  unfold step
  rw [hq]

/-- Settles O3: no command and no fabric cycle writes the queue. -/
theorem eachStepTakesOneCommand : Obligations.EachStepTakesOneCommand := by
  unfold Obligations.EachStepTakesOneCommand
  intro s t h
  cases hq : s.pending with
  | nil => exact (step_idle_within hq h).pending.trans hq
  | cons c rest => exact (step_leads hq h).pending

/-- Settles O4: every command and the fabric cycle keep the canonical form. -/
theorem stepsKeepCanonicalForm : Obligations.StepsKeepCanonicalForm := by
  unfold Obligations.StepsKeepCanonicalForm
  intro s t hc h
  cases hq : s.pending with
  | nil => exact (step_idle_within hq h).canonical hc
  | cons c rest => exact (step_leads hq h).canonical (Canonical.withQueue hc rest)

/-- Settles O6: every command answers a next state, and so does the fabric cycle. -/
theorem everyStepProceeds : Obligations.EveryStepProceeds := by
  unfold Obligations.EveryStepProceeds Proceeds
  intro s
  cases hq : s.pending with
  | nil => exact ⟨_, step_idle hq⟩
  | cons c rest =>
    obtain ⟨t, ht, -⟩ := exec_leads c { s with pending := rest }
    exact ⟨t, (frontCommandRuns s c rest hq).trans ht⟩

/-- Settles O5: the tables of the reset state are empty. -/
theorem resetIsCanonical : Obligations.ResetIsCanonical :=
  (canonical_iff _).mpr ⟨rfl, rfl, fun _ => .init, fun _ => .init⟩

/-- Settles O58: every table of the reset state is empty, so each lookup answers its default. -/
theorem resetState : Obligations.ResetState := by
  refine ⟨rfl, rfl, rfl, rfl, rfl, rfl, fun _ _ => rfl, by decide, by decide, fun _ _ => ⟨rfl, rfl, rfl⟩, fun _ => ⟨rfl, rfl⟩,
    fun _ => rfl, fun _ _ => rfl, fun _ => ⟨rfl, rfl, rfl⟩, fun i => ⟨rfl, ?_⟩, fun _ => rfl⟩
  have hv : ven State.reset i = Ven.init := rfl
  rw [venstat, hv]
  decide

/-! ### The references in a fabric cycle -/

/-- u has the registers, the tables of Reed and the states of the references of s. -/
structure SameStates (s u : State) : Prop where
  regs : u.regs = s.regs
  reeds : u.reeds = s.reeds
  st : ∀ i, (ref u i).st = (ref s i).st

namespace SameStates
variable {s u v : State}

theorem refl (s : State) : SameStates s s := ⟨rfl, rfl, fun _ => rfl⟩

theorem trans (h : SameStates s u) (k : SameStates u v) : SameStates s v :=
  ⟨k.regs.trans h.regs, k.reeds.trans h.reeds, fun i => (k.st i).trans (h.st i)⟩

theorem of_within {F : List Area} (h : Within F s u) (hr : Area.regs ∉ F) (hd : Area.reeds ∉ F) (hf : Area.refs ∉ F) :
    SameStates s u := ⟨h.regs hr, h.reeds hd, fun i => by rw [ref, h.refs hf, ref]⟩

/-- A reference written with its state unchanged. -/
theorem setRef (i : Nat) (r : Ref) (hr : r.st = (ref s i).st) : SameStates s (setRef s i r) := by
  refine ⟨rfl, rfl, fun j => ?_⟩
  have e : ref (Machine.setRef s i r) j = if j = i then r else ref s j := kget_kset _ _ _ _ _
  rw [e]
  split
  · next hj => rw [hr, hj]
  · rfl

theorem foldl {l : List Nat} {f : State → Nat → State} (hf : ∀ u i, i ∈ l → SameStates s u → SameStates u (f u i))
    (h : SameStates s u) : SameStates s (l.foldl f u) := by
  induction l generalizing u with
  | nil => exact h
  | cons i r ih =>
    exact ih (fun u j hj => hf u j (List.mem_cons_of_mem _ hj)) (h.trans (hf u i List.mem_cons_self h))

theorem isCopy_source (h : SameStates s u) (i : Nat)
    (hs : refSrc s i = 4 → (ref s i).st = (ref s (rfld s phrefPg (16 + 4 * i) 19 17)).st) (hi : isCopy u i = true) :
    (copySource u i).st = (ref u i).st := by
  have src : refSrc u i = 4 := (of_decide_eq_true hi).1
  unfold copySource
  simp only [rfld, rget, refSrc, h.regs, h.st] at src hs ⊢
  exact (hs src).symm

end SameStates

theorem refTo_same {s : State} {i : Nat} {st : RefState} (h : (ref s i).st = st) : refTo s i st = s := if_pos h

theorem Ref.tick_st (r : Ref) (follows : Bool) : (r.tick follows).st = r.st := by
  unfold Ref.tick
  split <;> rfl

/-- A copy whose source is in its own state keeps the states of the references. -/
theorem refCopy_same {s : State} (most : Int) (i : Nat) (h : isCopy s i = true → (copySource s i).st = (ref s i).st) :
    SameStates s (refCopy most s i) := by
  unfold refCopy
  split
  · next hi =>
    have hst := h hi
    have same : refTo s i (copySource s i).st = s := refTo_same hst.symm
    dsimp only
    split
    · unfold copySlew
      rw [same]
      exact .setRef _ _ rfl
    · unfold copyTake
      rw [same]
      cases hr : (ref s i).st.runs
      all_goals simp only [hst, hr, Bool.not_false, Bool.not_true, Bool.and_false, Bool.and_true, Bool.false_eq_true, if_false]
      all_goals exact .setRef _ _ rfl
  · exact .refl s

theorem refTick_same (s : State) (i : Nat) : SameStates s (refTick s i) := by
  unfold refTick
  split
  · exact .refl s
  · exact .setRef _ _ (Ref.tick_st _ _)

theorem copyTick_same {s : State} (i : Nat) (h : isCopy s i = true → (copySource s i).st = (ref s i).st) :
    SameStates s (copyTick s i) := by
  have copied := refCopy_same 4 i h
  unfold copyTick
  dsimp only
  split
  · exact copied.trans (.setRef _ _ (Ref.tick_st _ _))
  · exact copied

/-- While every copy is in the state of its source, a cycle of the references writes neither Reed nor a state (R421). -/
theorem refsTick_same {s : State}
    (h : ∀ i, i < 8 → refSrc s i = 4 → (ref s i).st = (ref s (rfld s phrefPg (16 + 4 * i) 19 17)).st) :
    SameStates s (refsTick s) := by
  unfold refsTick
  refine .foldl (fun u i hi k => copyTick_same i (k.isCopy_source i (h i (List.mem_range.mp hi)))) ?_
  exact .foldl (fun u i _ _ => refTick_same u i) (.refl s)

/-- The parts of a fabric cycle: the count and track time, the references, and the rest, which writes no reference and no Reed. -/
theorem tick_clocked {s : State} (hc : clocked s = true) : ∃ u,
    Within [.tt, .ttSub, .ttRateWas, .ttMarks, .sync, .voters] { s with ticks := s.ticks + 1 } u ∧
    Within [.regs, .evTick, .events, .cores, .chans, .links, .cwys, .stack] (refsTick u) (tick s) := by
  refine ⟨stepDue (ttAdvance { s with ticks := s.ticks + 1 }), stepDue_within (ttAdvance_within (.refl _)), ?_⟩
  rw [tick, if_pos hc]
  refine .foldl (fun _ _ => chanTick_within (.refl _) ..) (.foldl (fun _ _ => coreTick_within (.refl _) ..) ?_)
  exact linksTick_within (stackTick_within (.refl _))

theorem tick_ticks {s : State} (hc : clocked s = true) : (tick s).ticks = s.ticks + 1 := by
  obtain ⟨u, hu, ht⟩ := tick_clocked hc
  have refs : Within [.regs, .evTick, .events, .refs, .reeds, .chans, .voters] u (refsTick u) := refsTick_within (.refl u)
  rw [ht.ticks, refs.ticks, hu.ticks]

theorem tick_reeds {s : State}
    (h : ∀ i, i < 8 → refSrc s i = 4 → (ref s i).st = (ref s (rfld s phrefPg (16 + 4 * i) 19 17)).st) :
    (tick s).reeds = s.reeds := by
  by_cases hc : clocked s = true
  · obtain ⟨u, hu, ht⟩ := tick_clocked hc
    have counted : SameStates s { s with ticks := s.ticks + 1 } := ⟨rfl, rfl, fun _ => rfl⟩
    have begun : SameStates s u := counted.trans (.of_within hu (by decide) (by decide) (by decide))
    have calm : SameStates u (refsTick u) := by
      refine refsTick_same fun i hi hs => ?_
      simp only [rfld, rget, refSrc, begun.regs, begun.st] at hs ⊢
      exact h i hi hs
    rw [ht.reeds, calm.reeds, begun.reeds]
  · rw [tick, if_neg hc]

/-- Settles O2: the fields that a fabric cycle writes, and its references where each copy is in the state of its source. -/
theorem idleStepIsOneFabricCycle : Obligations.IdleStepIsOneFabricCycle := by
  unfold Obligations.IdleStepIsOneFabricCycle
  intro s hq
  have w := tick_ofTick s
  refine ⟨tick s, step_idle hq, w.pending.trans hq, w.mem, w.safety, w.doms, tick_reeds, tick_ticks, fun hc => ?_⟩
  rw [tick, hc]
  rfl

end Sys2Proof.Machine

namespace Sys2Proof.Machine
open Sys2Proof Sys2Proof.Machine
set_option Elab.async false

/-! ## Integer, compare and predicate instructions (R167 to R172) -/

/-! ### The values of Table 4.9 and Table 4.10 -/

theorem fld_low (w : Word) (n : Nat) : fld w n 0 = w.toNat % 2 ^ (n + 1) := rfl

theorem wordOfInt_add (a b : Word) : wordOfInt (sval a + sval b) = a + b := by
  rw [wordOfInt, sval, sval, BitVec.ofInt_add, BitVec.ofInt_toInt, BitVec.ofInt_toInt]

theorem wordOfInt_sub (a b : Word) : wordOfInt (sval a - sval b) = a - b := by
  rw [wordOfInt, sval, sval, Int.sub_eq_add_neg, BitVec.ofInt_add, BitVec.ofInt_neg, BitVec.ofInt_toInt, BitVec.ofInt_toInt,
    BitVec.sub_eq_add_neg]

theorem overflows_add (a b : Word) : overflows (sval a + sval b) = a.saddOverflow b := by
  rw [overflows, BitVec.saddOverflow, Bool.or_comm]
  rfl

theorem overflows_sub (a b : Word) : overflows (sval a - sval b) = a.ssubOverflow b := by
  rw [overflows, BitVec.ssubOverflow, Bool.or_comm]
  rfl

/-- Bit 7 set is the word with the mask 128 (Table 4.5). -/
theorem setBit_aov (w : Word) : setBit w 7 true = w ||| 128#36 := by
  ext i hi
  rw [← BitVec.getLsbD_eq_getElem, ← BitVec.getLsbD_eq_getElem, setBit, getLsbD_setFld, BitVec.getLsbD_or]
  have h128 : (128#36 : Word).getLsbD i = decide (i = 7) := by
    interval_cases i <;> rfl
  rw [h128]
  by_cases h : i = 7
  · subst h
    simp
  · simp [h, hi]
    omega

theorem shlW_eq (a : Word) (n : Nat) : shlW a n = a <<< n := by
  unfold shlW
  split
  · rfl
  · exact (BitVec.shiftLeft_eq_zero (by omega)).symm

theorem shrW_eq (a : Word) (n : Nat) : shrW a n = a >>> n := by
  unfold shrW
  split
  · rfl
  · exact (BitVec.ushiftRight_eq_zero (by omega)).symm

theorem sarW_eq (a : Word) (n : Nat) : sarW a n = a.sshiftRight n := by
  unfold sarW
  split
  · rfl
  · ext i hi
    rw [← BitVec.getLsbD_eq_getElem, ← BitVec.getLsbD_eq_getElem, BitVec.getLsbD_sshiftRight, BitVec.getLsbD_sshiftRight]
    simp only [show ¬ 36 + i < 36 by omega, show ¬ n + i < 36 by omega, if_false]

theorem rolW_eq (a : Word) (n : Nat) : rolW a n = a <<< (n % 36) ||| a >>> (36 - n % 36) := by
  rw [rolW, BitVec.rotateLeft, Nat.mod_mod, BitVec.rotateLeftAux]

theorem amount_eq (b : Word) : fld b 5 0 = (b &&& 63#36).toNat := by
  rw [fld_low, BitVec.toNat_and]
  exact (Nat.and_two_pow_sub_one_eq_mod b.toNat 6).symm

theorem popcount_eq (a : Word) : popcount a = ((List.range 36).filter (fun j => a.getLsbD j)).length := by
  have sum : ∀ (l : List Nat) (n : Nat), l.foldl (fun n i => n + bnat (bit a i)) n = n + (l.filter (fun j => a.getLsbD j)).length := by
    intro l
    induction l with
    | nil => exact fun _ => rfl
    | cons i r ih =>
      intro n
      rw [List.foldl_cons, ih]
      cases h : a.getLsbD i
      · simp [bit, bnat, h]
      · simp [bit, bnat, h]
        omega
  rw [popcount, sum, Nat.zero_add]

/-- The count of leading zeros from bit i - 1 down: so many bits are 0, and the next one is 1. -/
theorem clzAux_spec (a : Word) (i : Nat) : clzAux a i ≤ i ∧ (∀ j, j < clzAux a i → a.getLsbD (i - 1 - j) = false) ∧
    (clzAux a i < i → a.getLsbD (i - 1 - clzAux a i) = true) := by
  induction i with
  | zero => exact ⟨Nat.le_refl _, fun j h => absurd h (Nat.not_lt_zero j), fun h => absurd h (Nat.not_lt_zero _)⟩
  | succ i ih =>
    obtain ⟨hle, hzero, hone⟩ := ih
    unfold clzAux
    split
    · next hb => exact ⟨Nat.zero_le _, fun j h => absurd h (Nat.not_lt_zero j), fun _ => hb⟩
    · next hb =>
      refine ⟨by omega, fun j hj => ?_, fun hlt => ?_⟩
      · cases j with
        | zero => exact eq_false_of_ne_true hb
        | succ j =>
          have := hzero j (by omega)
          rwa [show i + 1 - 1 - (j + 1) = i - 1 - j by omega]
      · have := hone (by omega)
        rwa [show i + 1 - 1 - (1 + clzAux a i) = i - 1 - clzAux a i by omega]

/-- A part of a word as a signed number is its sign extension. -/
theorem sxpart_eq {n : Nat} (v : BitVec n) : sxpart n v.toNat = v.signExtend 36 := by
  rw [sxpart, wordOfInt, BitVec.signExtend]
  congr 1
  rw [signed, BitVec.toInt_eq_msb_cond, BitVec.msb_eq_decide]
  simp only [decide_eq_true_eq]

theorem sxpart_half (a : Word) : sxpart 18 (fld a 17 0) = (a.setWidth 18).signExtend 36 := by
  rw [← sxpart_eq, BitVec.toNat_setWidth, fld_low]

theorem sxpart_nonet (a : Word) : sxpart 9 (fld a 8 0) = (a.setWidth 9).signExtend 36 := by
  rw [← sxpart_eq, BitVec.toNat_setWidth, fld_low]

theorem sval_sximm {n : Nat} (hn : n ≤ 36) (v : BitVec n) : sval (sximm v) = simm v :=
  BitVec.toInt_signExtend_of_le hn

theorem slt_eq (a b : Word) : slt a b = a.slt b := rfl
theorem sle_eq (a b : Word) : sle a b = a.sle b := rfl
theorem ult_eq (a b : Word) : ult a b = a.ult b := rfl
theorem ule_eq (a b : Word) : ule a b = a.ule b := rfl

/-- LHI places the 18-bit constant in the upper half (R171). -/
theorem lhi_eq (top : BitVec 2) (imm : BitVec 16) :
    fval 35 34 top.toNat ||| fval 33 18 imm.toNat = ((top ++ imm : BitVec 18).setWidth 36) <<< 18 := by
  ext i hi
  rw [← BitVec.getLsbD_eq_getElem, ← BitVec.getLsbD_eq_getElem, BitVec.getLsbD_or, getLsbD_fval, getLsbD_fval,
    BitVec.getLsbD_shiftLeft, BitVec.getLsbD_setWidth, BitVec.getLsbD_append]
  simp only [BitVec.testBit_toNat]
  by_cases h18 : i < 18
  · simp [h18, show ¬ 34 ≤ i by omega, show ¬ 18 ≤ i by omega]
  · by_cases h34 : i < 34
    · simp [hi, h18, show ¬ 34 ≤ i by omega, show 18 ≤ i by omega, show i ≤ 33 by omega, show i - 18 < 16 by omega,
        show i - 18 < 36 by omega]
    · simp [hi, h18, show 34 ≤ i by omega, show i ≤ 35 by omega, show ¬ i ≤ 33 by omega, show ¬ i - 18 < 16 by omega,
        show i - 18 < 36 by omega, show i - 18 - 16 = i - 34 by omega]

/-- LLO replaces the lower half with the 18-bit constant (R171). -/
theorem llo_eq (w : Word) (top : BitVec 2) (imm : BitVec 16) :
    setFld w 17 0 (65536 * top.toNat + imm.toNat) = (w >>> 18) <<< 18 ||| (top ++ imm : BitVec 18).setWidth 36 := by
  have hv : 65536 * top.toNat + imm.toNat = (top ++ imm : BitVec 18).toNat := by
    rw [BitVec.toNat_append, Nat.shiftLeft_eq, Nat.mul_comm top.toNat, ← Nat.two_pow_add_eq_or_of_lt imm.isLt]
  ext i hi
  rw [← BitVec.getLsbD_eq_getElem, ← BitVec.getLsbD_eq_getElem, getLsbD_setFld, BitVec.getLsbD_or, BitVec.getLsbD_shiftLeft,
    BitVec.getLsbD_ushiftRight, BitVec.getLsbD_setWidth, hv]
  by_cases h18 : i < 18
  · simp [hi, h18, show i ≤ 17 by omega, BitVec.testBit_toNat]
  · simp [hi, h18, show ¬ i ≤ 17 by omega, show 18 + (i - 18) = i by omega, BitVec.getLsbD_of_ge (top ++ imm) i (by omega)]

/-! ### Registers that a write leaves -/

@[simp] theorem setW_rsmKind (x : Ctx) (k : Nat) (v : Word) : (x.setW k v).rsmKind = x.rsmKind := by
  unfold Ctx.setW Ctx.wphysSet
  split <;> rfl

@[simp] theorem setW_psw (x : Ctx) (k : Nat) (v : Word) : (x.setW k v).psw = x.psw := by
  unfold Ctx.setW Ctx.wphysSet
  split <;> rfl

@[simp] theorem setQ_rsmKind (x : Ctx) (k : Nat) (v : Bool) : (x.setQ k v).rsmKind = x.rsmKind := by
  unfold Ctx.setQ
  split <;> rfl

@[simp] theorem setC_rsmKind (x : Ctx) (k : Nat) (v : Cap) : (x.setC k v).rsmKind = x.rsmKind := by
  unfold Ctx.setC Ctx.cphysSet
  split <;> rfl

/-- A result with AOV set where the exact one overflows (R169). -/
theorem setAov_eq (x : Ctx) (d : Nat) (v : Word) (r : Int) : (x.setW d v).setAov r =
    { x.setW d v with psw := if overflows r then x.psw ||| 128#36 else x.psw } := by
  unfold Ctx.setAov
  split
  · rw [setW_psw, setBit_aov]
  · rw [← setW_psw x d v]

/-! ### Instructions of registers alone -/

/-- A ready core's instruction of registers alone, by the context it leaves. -/
theorem Ready.gives {s : State} {iss : Iss} {h : Nat} (hr : Ready s iss h) {raw : Word} {f : Ctx → Ctx} {y : Ctx}
    (hf : f (ctxAt s iss.core.toNat h) = y) (hy : y.rsmKind = (ctxAt s iss.core.toNat h).rsmKind) :
    ∃ t, issue s iss (regInsn raw f) = .next t ∧ Ran s t iss.core.toNat h y := by
  rw [← hf] at hy ⊢
  exact regInsn_runs s iss h raw f hr (hy.trans hr.whole)

/-- A ready core's instruction that may fault, by the context it leaves where it does not. -/
theorem Ready.givesOk {s : State} {iss : Iss} {h : Nat} (hr : Ready s iss h) {raw : Word} {f : Ctx → Except Trap Ctx} {y : Ctx}
    (hf : f (ctxAt s iss.core.toNat h) = .ok y) (hy : y.rsmKind = (ctxAt s iss.core.toNat h).rsmKind) :
    ∃ t, issue s iss (tryInsn raw f) = .next t ∧ Ran s t iss.core.toNat h y :=
  tryInsn_runs s iss h raw f y hr hf (hy.trans hr.whole)

theorem integerResults : Rule.IntegerResults := by
  intro s iss h d a b hr n x va vb amount gives writes writesAov
  have op : ∀ {fn f v}, f va vb = v → ∃ t, issue s iss (regOp fn f iss d a b) = .next t ∧ Ran s t n h (writes v) :=
    fun e => hr.gives (by rw [← e]) (setW_rsmKind ..)
  have arith : ∀ {fn f v o}, wordOfInt (f (sval va) (sval vb)) = v → overflows (f (sval va) (sval vb)) = o →
      ∃ t, issue s iss (regArith fn f iss d a b) = .next t ∧ Ran s t n h (writesAov v o) :=
    fun e o => hr.gives (by rw [← e, ← o]; exact setAov_eq ..) (setW_rsmKind x d.toNat _)
  refine ⟨arith (wordOfInt_add ..) (overflows_add ..), arith (wordOfInt_sub ..) (overflows_sub ..), op rfl, op rfl, op rfl,
    op rfl, op rfl, op ?_, op ?_, op ?_, op ?_, op rfl, op rfl, op rfl, op rfl⟩
  · rw [shlW_eq, amount_eq]
  · rw [shrW_eq, amount_eq]
  · rw [sarW_eq, amount_eq]
  · rw [rolW_eq, amount_eq]

theorem trappingArithmeticInRange : Rule.TrappingArithmeticInRange := by
  intro s iss h d a b hr n x va vb
  have arith : ∀ {fn f v}, wordOfInt (f (sval va) (sval vb)) = v → overflows (f (sval va) (sval vb)) = false →
      ∃ t, issue s iss (regArithV fn f iss d a b) = .next t ∧ Ran s t n h (x.setW d.toNat v) :=
    fun e o => hr.givesOk (by dsimp only; rw [if_neg (ne_true_of_eq_false o), e]) (setW_rsmKind x d.toNat _)
  exact ⟨fun o => arith (wordOfInt_add ..) ((overflows_add ..).trans o), fun o => arith (wordOfInt_sub ..) ((overflows_sub ..).trans o)⟩

/-- Settles O8: each instruction's value is the one that Table 4.9 names, and the issue of an instruction of registers alone
leaves the rest. -/
theorem integerInstructions : Obligations.IntegerInstructions := ⟨integerResults, trappingArithmeticInRange⟩

theorem unaryAndImmediateResults : Rule.UnaryAndImmediateResults := by
  intro s iss h d a imm top kind amt hr n x va gives writes sx zx k
  have write : ∀ {raw f v}, f x = writes v → ∃ t, issue s iss (regInsn raw f) = .next t ∧ Ran s t n h (writes v) :=
    fun e => hr.gives e (setW_rsmKind ..)
  have shift : kind.toNat < 4 := kind.isLt
  obtain ⟨clzLe, clzZero, clzOne⟩ := clzAux_spec va 36
  refine ⟨⟨clzW va, clzLe, clzZero, clzOne, write rfl⟩, write ?_, write ?_, write ?_, ?_, write rfl, write rfl, write rfl,
    fun e => write ?_, fun e => write ?_, fun e => write ?_, fun e => write ?_, write ?_, write ?_⟩
  · exact congrArg (fun v => writes (BitVec.ofNat 36 v)) (popcount_eq va)
  · exact congrArg writes (sxpart_half va)
  · exact congrArg writes (sxpart_nonet va)
  · refine hr.gives ?_ (setW_rsmKind x d.toNat (va + sx))
    have e : sval (x.wr a.toNat) + simm imm = sval va + sval sx := by rw [show sx = sximm imm from rfl, sval_sximm (by decide)]
    dsimp only
    rw [e, wordOfInt_add, setAov_eq, overflows_add]
  · rw [e]
    exact congrArg writes (shlW_eq va k)
  · rw [e]
    exact congrArg writes (shrW_eq va k)
  · rw [e]
    exact congrArg writes (sarW_eq va k)
  · rw [e]
    exact congrArg writes (rolW_eq va k)
  · exact congrArg writes (lhi_eq top imm)
  · exact congrArg writes (llo_eq (x.wr d.toNat) top imm)

/-- QTOW's word: bit j of the eight is Qj, and Q0 reads 1 (R144, R172). -/
theorem qw_bits (x : Ctx) (j : Nat) (hj : j < 36) : x.qw.getLsbD j = (decide (j < 8) && x.qr j) := by
  unfold Ctx.qw Ctx.qr
  rw [BitVec.getLsbD_ofNat]
  have hq := x.q.isLt
  cases j with
  | zero => simp [Nat.testBit_zero]
  | succ j =>
    rw [Nat.testBit_succ, show (x.q.toNat / 2 * 2 + 1) / 2 = x.q.toNat / 2 by omega, ← Nat.testBit_succ, BitVec.testBit_toNat]
    simp only [hj, decide_true, Bool.true_and, Nat.add_one_ne_zero, if_false]
    by_cases h8 : j + 1 < 8
    · simp [h8]
    · simp [h8, BitVec.getLsbD_of_ge x.q (j + 1) (by omega)]

/-- WTOQ writes Q1 to Q7 (R172). -/
theorem setQw_qr (x : Ctx) (v : Word) (j : Nat) (h1 : 1 ≤ j) (h8 : j < 8) : (x.setQw v).qr j = v.getLsbD j := by
  unfold Ctx.setQw Ctx.qr
  obtain ⟨i, rfl⟩ : ∃ i, j = i + 1 := ⟨j - 1, by omega⟩
  rw [if_neg (by omega)]
  dsimp only
  rw [BitVec.getLsbD_ofNat, Nat.testBit_succ, show v.toNat / 2 % 128 * 2 / 2 = v.toNat / 2 % 2 ^ 7 by omega, Nat.testBit_mod_two_pow,
    ← Nat.testBit_succ, BitVec.testBit_toNat]
  simp [h8, show i < 7 by omega]

theorem compareAndPredicateResults : Rule.CompareAndPredicateResults := by
  intro s iss h d p q w a b imm hr n x va vb sx zx vp vq gives sets
  have set : ∀ {raw f v}, f x = x.setQ d.toNat v → ∃ t, issue s iss (regInsn raw f) = .next t ∧ Ran s t n h (x.setQ d.toNat v) :=
    fun e => hr.gives e (setQ_rsmKind ..)
  have equal : ∀ {u v : Word}, x.setQ d.toNat (decide (u = v)) = x.setQ d.toNat (u == v) := by
    intro u v
    rw [beq_eq_decide]
  have unequal : ∀ {u v : Word}, x.setQ d.toNat (decide (u ≠ v)) = x.setQ d.toNat (u != v) := by
    intro u v
    rw [bne, beq_eq_decide, decide_not]
  refine ⟨set equal, set unequal, set rfl, set rfl, set rfl, set rfl, set equal, set unequal, set rfl, set rfl, set rfl, set rfl,
    set ?_, set rfl, set unequal, ⟨x.qw, qw_bits x, hr.gives rfl (setW_rsmKind ..)⟩,
    ⟨x.setQw va, rfl, setQw_qr x va, hr.gives rfl rfl⟩⟩
  rfl

/-- Settles O9: each instruction's value is the one that Tables 4.9 and 4.10 name, and the issue leaves the rest. -/
theorem immediateCompareAndPredicateInstructions : Obligations.ImmediateCompareAndPredicateInstructions :=
  ⟨unaryAndImmediateResults, compareAndPredicateResults⟩

end Sys2Proof.Machine

namespace Sys2Proof.Machine
open Sys2Proof Sys2Proof.Machine
set_option Elab.async false

/-! ## The issue of an instruction that ends -/

/-- A context after an instruction that ends with nx: its bookkeeping, and the next word in order. -/
def Ctx.ended (y : Ctx) (nx : Next) (l : Option (Bool × Nat)) : Ctx :=
  match nx with
  | .seq => y.after l
  | _ => { y with fresh := false, stepping := false, lastLoad := l, barrier := none }

/-- A context as an instruction that ends with nx leaves it: at the next word in order, or where the body has set it. -/
def Ctx.onward (y : Ctx) (nx : Next) : Ctx :=
  match nx with
  | .seq => { y with pcc := y.pcc.move (y.pcc.cursor + 1) }
  | _ => y

/-- What an issue does after its body, with no load of Proof on its way: the context ends, and nothing else changes but counters
and the signal of a debug step. -/
theorem afterIssue_ended (s : State) (n h : Nat) (i : Insn) (iss : Iss) (old : Ctx) (ran : Bool) (nx : Next) (hc : nx ≠ .chain)
    (hp : old.proofLoad = none) (hk : nx = .seq → (ctxAt s n h).rsmKind = 0) :
    ∃ s1, FetchFrame n (landed s n h ((ctxAt s n h).ended nx (loadDst old i.raw))) s1 ∧
      afterIssue s n h i iss old ran nx = if old.stepping then irqPend s1 (pkgPg 3) 1 else s1 := by
  cases nx with
  | seq => exact afterIssue_seq s n h i iss old ran hp (hk rfl)
  | chain => exact absurd rfl hc
  | hold | jump =>
    all_goals
      unfold afterIssue
      simp only [hp]
      refine ⟨_, ?_, rfl⟩
      have t := FetchFrame.trans n
      have counted : ∀ u off k, 65 ≤ off ∧ off ≤ 73 → FetchFrame n u (perf u n h off k) := fun u off k => perf_keeps n h u off k
      have ranOr : ∀ u, FetchFrame n u (if ran = true then perf u n h 65 1 else perf (perf u n h 65 1) n h 66 1) := fun u =>
        .ite (counted u 65 1 (by omega)) (t _ _ _ (counted u 65 1 (by omega)) (counted _ 66 1 (by omega)))
      have guarded : ∀ u, FetchFrame n u (if iss.q = 0 ∧ iss.neg = false then u else perf u n h 67 i.brCost) := fun u =>
        .ite (.refl n u) (counted u 67 _ (by omega))
      unfold loadUse
      split
      · exact t _ _ _ (t _ _ _ (ranOr _) (guarded _)) (.ite (counted _ 68 1 (by omega)) (.refl n _))
      · exact t _ _ _ (ranOr _) (guarded _)

/-- The run of an instruction that is fetched, decoded, and whose guard holds: its body. -/
theorem issueX_of_body {s0 s1 s2 : State} {iss : Iss} {n h : Nat} {i : Insn} {nx : Next} {x : Ctx}
    (hfetch : fetchIssue n h s0 = .ok () s1) (same : ctxAt s1 n h = x) (whole : x.rsmKind = 0)
    (guard : (x.qr iss.q.toNat != iss.neg) = true) (hdec : i.dec s1 n h = none) (hbody : i.body n h s1 = .ok nx s2) :
    issueX n h iss i s0 = .ok (true, nx) s2 := by
  have decoded : decodeFault i s1 n h = none := by
    unfold decodeFault
    rw [same]
    simp only [whole, ne_eq, not_true_eq_false, false_and, if_false]
    exact hdec
  have executed : executes iss (ctxAt s1 n h) = true := by
    unfold executes
    rw [same, guard]
    simp
  unfold issueX
  simp only [Bind.bind, EStateM.bind, hfetch, MonadState.get, getThe, MonadStateOf.get, EStateM.get, decoded, executed, if_true,
    counted, hbody, Pure.pure, EStateM.pure]

/-- The issue of an instruction that runs to its end at a boundary of its context, with the core still in service. -/
theorem issue_of_run {s s2 : State} {iss : Iss} {n h : Nat} {i : Insn} {nx : Next} (hn : n = iss.core.toNat)
    (atIt : atBoundary s n = some h) (notBlocked : (lateDue s n || decide (selected s n ≠ some h)) = false)
    (live : (coreAt s n).mstage = none)
    (ran : issueX n h iss i (setCtx s n h { ctxAt s n h with proofLoad := none }) = .ok (true, nx) s2)
    (hgone : coreGone s2 n = false) :
    issue s iss i = .next (afterIssue (keepUndo s2 n (ctxAt s n h)) n h i iss (ctxAt s n h) true nx) := by
  unfold issue issueState Machine.done
  rw [← hn]
  dsimp only
  rw [atIt]
  dsimp only
  rw [ran, notBlocked]
  simp only [hgone, live, Option.isSome_none, Bool.and_false, Bool.false_and, Bool.false_eq_true, if_false]

/-- The issue of an instruction that a ready core fetches, decodes and executes to its end, where its body leaves the core in
service. -/
theorem issue_body_kept {s s1 s2 : State} {iss : Iss} {h : Nat} {i : Insn} {nx : Next} (hr : Ready s iss h)
    (hfetch : fetchIssue iss.core.toNat h (setCtx s iss.core.toNat h (ctxAt s iss.core.toNat h)) = .ok () s1)
    (hdec : i.dec s1 iss.core.toNat h = none) (hbody : i.body iss.core.toNat h s1 = .ok nx s2) (hc : nx ≠ .chain)
    (hgone : coreGone s2 iss.core.toNat = false)
    (hk : nx = .seq → (ctxAt (keepUndo s2 iss.core.toNat (ctxAt s iss.core.toNat h)) iss.core.toNat h).rsmKind = 0) :
    let kept := keepUndo s2 iss.core.toNat (ctxAt s iss.core.toNat h)
    ∃ u, FetchFrame iss.core.toNat (landed kept iss.core.toNat h
        ((ctxAt kept iss.core.toNat h).ended nx (loadDst (ctxAt s iss.core.toNat h) i.raw))) u ∧
      issue s iss i = .next (if (ctxAt s iss.core.toNat h).stepping then irqPend u (pkgPg 3) 1 else u) := by
  obtain ⟨issues, boundary, unloadedAt, -, whole, guard⟩ := hr
  obtain ⟨n, hn⟩ : ∃ n, n = iss.core.toNat := ⟨_, rfl⟩
  rw [← hn] at issues boundary unloadedAt whole guard hfetch hdec hbody hgone hk ⊢
  have same : ctxAt s1 n h = ctxAt s n h := by rw [(fetchIssue_keeps n h _ _ _ hfetch).ctx, ctxAt_setCtx_same]
  have unloaded : ({ ctxAt s n h with proofLoad := none } : Ctx) = ctxAt s n h := by rw [← unloadedAt]
  have ran := issueX_of_body hfetch same whole guard hdec hbody
  rw [← unloaded] at ran
  obtain ⟨atIt, notBlocked⟩ := issuer_boundary s n h issues boundary
  intro left
  obtain ⟨u, kept, done⟩ := afterIssue_ended left n h i iss (ctxAt s n h) true nx hc unloadedAt hk
  exact ⟨u, kept, by rw [← done]; exact issue_of_run hn atIt notBlocked (coreIssues_live s n h issues).2.2 ran hgone⟩

/-- The same, where the body leaves no access in stage M. -/
theorem issue_body {s s1 s2 : State} {iss : Iss} {h : Nat} {i : Insn} {nx : Next} (hr : Ready s iss h)
    (hfetch : fetchIssue iss.core.toNat h (setCtx s iss.core.toNat h (ctxAt s iss.core.toNat h)) = .ok () s1)
    (hdec : i.dec s1 iss.core.toNat h = none) (hbody : i.body iss.core.toNat h s1 = .ok nx s2) (hc : nx ≠ .chain)
    (hm : (coreAt s2 iss.core.toNat).mstage = none) (hgone : coreGone s2 iss.core.toNat = false)
    (hk : nx = .seq → (ctxAt s2 iss.core.toNat h).rsmKind = 0) :
    ∃ u, FetchFrame iss.core.toNat (landed s2 iss.core.toNat h
        ((ctxAt s2 iss.core.toNat h).ended nx (loadDst (ctxAt s iss.core.toNat h) i.raw))) u ∧
      issue s iss i = .next (if (ctxAt s iss.core.toNat h).stepping then irqPend u (pkgPg 3) 1 else u) := by
  have none_kept := keepUndo_none s2 iss.core.toNat (ctxAt s iss.core.toNat h) hm
  have issued := issue_body_kept hr hfetch hdec hbody hc hgone (by rw [none_kept]; exact hk)
  rwa [none_kept] at issued

/-- What the body of an instruction does that ends in its core: the context h of core n becomes y, the words `es` enter the store
buffer, and what a fetch, a translation or a transfer fills has been filled. -/
structure BodyFrame (n h : Nat) (s t : State) (y : Ctx) (es : List SbEntry) : Prop where
  ctx : ctxAt t n h = y
  contexts : ∀ m k, ¬ (m = n ∧ k = h) → ctxAt t m k = ctxAt s m k
  others : ∀ m, m ≠ n → coreAt t m = coreAt s m
  block : ∃ xs i d l hw q f c a, coreAt t n = { coreAt s n with
    ctxs := xs, itlb := i, dtlb := d, l2tlb := l, held := hw, pq := q, fetchStop := f, tc := c, fetchAt := a
    sb := (coreAt s n).sb ++ es }
  regs : ∀ pg off, off < 512 → ¬ (pg = corePg n ∧ 65 ≤ off ∧ off ≤ 73) → empPage pg = false → rget t pg off = rget s pg off
  rest : SameRest s t

namespace BodyFrame
variable {n h : Nat} {s t u : State} {y z : Ctx} {es fs : List SbEntry}

theorem refl (n h : Nat) (s : State) : BodyFrame n h s s (ctxAt s n h) [] :=
  ⟨rfl, fun _ _ _ => rfl, fun _ _ => rfl, ⟨_, _, _, _, _, _, _, _, _, by rw [List.append_nil]⟩, fun _ _ _ _ _ => rfl, rfl⟩

theorem trans (p : BodyFrame n h s t y es) (q : BodyFrame n h t u z fs) : BodyFrame n h s u z (es ++ fs) := by
  refine ⟨q.ctx, fun m k hne => (q.contexts m k hne).trans (p.contexts m k hne), fun m hm => (q.others m hm).trans (p.others m hm),
    ?_, fun pg off a b c => (q.regs pg off a b c).trans (p.regs pg off a b c), p.rest.trans q.rest⟩
  obtain ⟨_, _, _, _, _, _, _, _, _, e1⟩ := p.block
  obtain ⟨_, _, _, _, _, _, _, _, _, e2⟩ := q.block
  exact ⟨_, _, _, _, _, _, _, _, _, by rw [e2, e1, List.append_assoc]⟩

/-- What a completed fetch or translation leaves. -/
theorem of_fetch (f : FetchFrame n s t) : BodyFrame n h s t (ctxAt s n h) [] := by
  obtain ⟨_, _, _, _, _, _, _, e⟩ := f.block
  exact ⟨f.ctx n h, fun m k _ => f.ctx m k, f.others, ⟨_, _, _, _, _, _, _, _, _, by rw [List.append_nil, e]⟩, f.regs, f.rest⟩

theorem setCtx (s : State) (n h : Nat) (y : Ctx) : BodyFrame n h s (setCtx s n h y) y [] :=
  ⟨ctxAt_setCtx_same s n h y, fun _ _ hne => ctxAt_setCtx_other s y hne, fun _ hm => coreAt_setCtx_other s h y hm,
    ⟨_, _, _, _, _, _, _, _, _, by rw [coreAt_setCtx_same, List.append_nil]; rfl⟩, fun _ _ _ _ _ => rfl, rfl⟩

/-- The context that a body sets last. -/
theorem thenCtx (p : BodyFrame n h s t y es) (z : Ctx) : BodyFrame n h s (Machine.setCtx t n h z) z es := by
  have q := p.trans (setCtx t n h z)
  rwa [List.append_nil] at q

theorem mstage (p : BodyFrame n h s t y es) : (coreAt t n).mstage = (coreAt s n).mstage := by
  obtain ⟨_, _, _, _, _, _, _, _, _, e⟩ := p.block
  rw [e]

theorem coreGone (p : BodyFrame n h s t y es) : coreGone t n = coreGone s n := by
  apply coreGone_congr
  all_goals rw [p.rest]; rfl

end BodyFrame

/-- The state that an issue leaves after a body of that frame. -/
theorem issued_of_body {s s1 s2 u : State} {n h : Nat} {nx : Next} {y : Ctx} {es : List SbEntry}
    (l : Option (Bool × Nat)) (hf : FetchFrame n (setCtx s n h (ctxAt s n h)) s1) (hb : BodyFrame n h s1 s2 y es)
    (hu : FetchFrame n (landed s2 n h (y.ended nx l)) u) :
    Issued s u n h (y.onward nx) es ∧
    Issued s (irqPend u (pkgPg 3) 1) n h (y.onward nx) es := by
  have ctx : ctxAt u n h = y.ended nx l := by rw [hu.ctx, ctxAt_landed, ctxAt_setCtx_same]
  have ended : ∃ l, ctxAt u n h = { (y.onward nx) with
      fresh := false, stepping := false, lastLoad := l, barrier := none } := by
    refine ⟨l, ctx.trans ?_⟩
    cases nx <;> rfl
  have contexts : ∀ m k, ¬ (m = n ∧ k = h) → ctxAt u m k = ctxAt s m k := by
    intro m k hne
    rw [hu.ctx, ctxAt_landed, ctxAt_setCtx_other _ _ hne, hb.contexts m k hne, hf.ctx, ctxAt_setCtx_other _ _ hne]
  have blocks : ∀ m, m ≠ n → coreAt u m = coreAt s m := by
    intro m hm
    rw [hu.others m hm, coreAt_landed_other _ _ _ hm, hb.others m hm, hf.others m hm, coreAt_setCtx_other _ _ _ hm]
  have block : SameBlock s u n es := by
    obtain ⟨_, _, _, _, _, _, _, b1⟩ := hf.block
    obtain ⟨_, _, _, _, _, _, _, _, _, b2⟩ := hb.block
    obtain ⟨_, _, _, _, _, _, _, b3⟩ := hu.block
    rw [coreAt_landed, b2, b1, coreAt_setCtx_same] at b3
    exact ⟨_, _, _, _, _, _, _, _, _, b3⟩
  have rest : SameRest s u := (((SameRest.setCtx s n h _).trans hf.rest).trans hb.rest).trans
    ((show SameRest _ (landed _ n h _) from rfl).trans hu.rest)
  have regs : ∀ pg off, off < 512 → ¬ (pg = corePg n ∧ 65 ≤ off ∧ off ≤ 73) → empPage pg = false →
      rget u pg off = rget s pg off := fun pg off a b c =>
    ((hu.regs pg off a b c).trans (hb.regs pg off a b c)).trans (hf.regs pg off a b c)
  refine ⟨⟨ended, contexts, blocks, block, fun pg off a b c _ => regs pg off a b c, rest⟩,
    ⟨ended, contexts, blocks, block, fun pg off a b c d => ?_, rest.trans (SameRest.irqPend u _ _)⟩⟩
  unfold irqPend
  dsimp only
  rw [rget_rset_other _ _ fun e => d ⟨by omega, by omega⟩]
  exact regs pg off a b c

/-- An instruction whose body ends in its core, by a core that is ready, from the state that the fetch leaves. -/
theorem issue_ends_at {s s1 s2 : State} {iss : Iss} {h : Nat} {i : Insn} {nx : Next} {y : Ctx} {es : List SbEntry}
    (hr : Ready s iss h) (hc : nx ≠ .chain)
    (fetched : fetchIssue iss.core.toNat h (setCtx s iss.core.toNat h (ctxAt s iss.core.toNat h)) = .ok () s1)
    (hdec : i.dec s1 iss.core.toNat h = none) (body : i.body iss.core.toNat h s1 = .ok nx s2)
    (kept : BodyFrame iss.core.toNat h s1 s2 y es) (hk : nx = .seq → y.rsmKind = 0) :
    ∃ t, issue s iss i = .next t ∧ Issued s t iss.core.toNat h (y.onward nx) es := by
  have frame := fetchIssue_keeps _ h _ _ _ fetched
  have live := coreIssues_live s _ h hr.issues
  obtain ⟨_, _, _, _, _, _, _, block⟩ := frame.block
  have hm : (coreAt s2 iss.core.toNat).mstage = none := by
    rw [kept.mstage, block, coreAt_setCtx_same]
    exact live.2.2
  have hgone : coreGone s2 iss.core.toNat = false := by
    rw [kept.coreGone, (BodyFrame.of_fetch (h := h) frame).coreGone]
    exact coreGone_false s _ live.1
  obtain ⟨u, after, done⟩ := issue_body hr fetched hdec body hc hm hgone (fun e => by rw [kept.ctx]; exact hk e)
  rw [kept.ctx] at after
  obtain ⟨plain, signalled⟩ := issued_of_body _ frame kept after
  refine ⟨_, done, ?_⟩
  split
  · exact signalled
  · exact plain

/-- The same, where the body ends after every fetch. -/
theorem issue_ends {s : State} {iss : Iss} {h : Nat} {i : Insn} {nx : Next} {y : Ctx} {es : List SbEntry} (hr : Ready s iss h)
    (hc : nx ≠ .chain)
    (hdec : ∀ s1, FetchFrame iss.core.toNat (setCtx s iss.core.toNat h (ctxAt s iss.core.toNat h)) s1 →
      i.dec s1 iss.core.toNat h = none)
    (hbody : ∀ s1, FetchFrame iss.core.toNat (setCtx s iss.core.toNat h (ctxAt s iss.core.toNat h)) s1 →
      ∃ s2, i.body iss.core.toNat h s1 = .ok nx s2 ∧ BodyFrame iss.core.toNat h s1 s2 y es)
    (hk : nx = .seq → y.rsmKind = 0) :
    ∃ t, issue s iss i = .next t ∧ Issued s t iss.core.toNat h (y.onward nx) es := by
  obtain ⟨s1, fetched⟩ := hr.fetched
  have frame := fetchIssue_keeps _ h _ _ _ fetched
  obtain ⟨s2, body, kept⟩ := hbody s1 frame
  exact issue_ends_at hr hc fetched (hdec s1 frame) body kept hk

end Sys2Proof.Machine

namespace Sys2Proof.Machine
open Sys2Proof Sys2Proof.Machine
set_option Elab.async false

/-! ## Multiplier and divider (R173 to R181) -/

/-! ### The values -/

/-- The two words of a product are its low 72 bits (R173). -/
theorem productWords_append (p : Int) : ((productWords p).1 ++ (productWords p).2 : BitVec 72) = BitVec.ofInt 72 p := by
  apply BitVec.eq_of_toNat_eq
  rw [BitVec.toNat_append, Nat.shiftLeft_eq, Nat.mul_comm, ← Nat.two_pow_add_eq_or_of_lt (productWords p).2.isLt]
  simp only [productWords, wordOfInt, BitVec.toNat_ofInt]
  norm_num
  omega

theorem productWords_signed (a b : Word) :
    ((productWords (sval a * sval b)).1 ++ (productWords (sval a * sval b)).2 : BitVec 72) = a.signExtend 72 * b.signExtend 72 := by
  rw [productWords_append, BitVec.signExtend, BitVec.signExtend, ← BitVec.ofInt_mul]
  rfl

theorem productWords_unsigned (a b : Word) :
    ((productWords ((a.toNat : Int) * b.toNat)).1 ++ (productWords ((a.toNat : Int) * b.toNat)).2 : BitVec 72) =
      a.setWidth 72 * b.setWidth 72 := by
  rw [productWords_append, BitVec.ofInt_mul, BitVec.ofInt_natCast, BitVec.ofInt_natCast]
  simp only [BitVec.ofNat_toNat]

theorem quotient_signed (a b : Word) : wordOfInt ((sval a).tdiv (sval b)) = a.sdiv b := by
  rw [wordOfInt, sval, sval, ← BitVec.toInt_inj, BitVec.toInt_ofInt, BitVec.toInt_sdiv]

theorem remainder_signed (a b : Word) : wordOfInt ((sval a).tmod (sval b)) = a.srem b := by
  rw [wordOfInt, sval, sval, ← BitVec.toInt_srem, BitVec.ofInt_toInt]

theorem quotient_unsigned (a b : Word) : wordOfInt ((a.toNat : Int).tdiv b.toNat) = a / b := by
  rw [wordOfInt, ← Int.ofNat_tdiv, BitVec.ofInt_natCast]
  apply BitVec.eq_of_toNat_eq
  rw [BitVec.toNat_ofNat, BitVec.toNat_udiv, Nat.mod_eq_of_lt]
  exact Nat.lt_of_le_of_lt (Nat.div_le_self ..) a.isLt

theorem remainder_unsigned (a b : Word) : wordOfInt ((a.toNat : Int).tmod b.toNat) = a % b := by
  rw [wordOfInt, ← Int.ofNat_tmod, BitVec.ofInt_natCast]
  apply BitVec.eq_of_toNat_eq
  rw [BitVec.toNat_ofNat, BitVec.toNat_umod, Nat.mod_eq_of_lt]
  exact Nat.lt_of_le_of_lt (Nat.mod_le ..) a.isLt

theorem sval_eq_zero (w : Word) : sval w = 0 ↔ w = 0 := by
  rw [sval, ← BitVec.toInt_inj]
  exact Iff.rfl

/-! ### Products in flight -/

/-- While no product is due, none lands (R174). -/
theorem landDue_early (x : Ctx) (cyc : Nat) (h : ∀ m ∈ x.muls, cyc < m.due) : x.landDue cyc = x := by
  unfold Ctx.landDue
  have none_due : x.muls.takeWhile (fun m => decide (m.due ≤ cyc)) = [] ∧ x.muls.dropWhile (fun m => decide (m.due ≤ cyc)) = x.muls := by
    cases hm : x.muls with
    | nil => exact ⟨rfl, rfl⟩
    | cons m r =>
      have : ¬ m.due ≤ cyc := Nat.not_le.mpr (h m (by rw [hm]; exact List.mem_cons_self))
      simp [this]
  rw [none_due.1, none_due.2]
  rfl

/-- A product that is due lands alone where the next is not (R174, R176). -/
theorem landDue_one (x : Ctx) (cyc : Nat) (m : MulState) (rest : List MulState) (hm : x.muls = m :: rest) (hd : m.due ≤ cyc)
    (h : ∀ r ∈ rest, cyc < r.due) : x.landDue cyc = { x with mh := m.mh, ml := m.ml, muls := rest } := by
  have none_due : rest.takeWhile (fun m => decide (m.due ≤ cyc)) = [] ∧ rest.dropWhile (fun m => decide (m.due ≤ cyc)) = rest := by
    cases rest with
    | nil => exact ⟨rfl, rfl⟩
    | cons r l =>
      have : ¬ r.due ≤ cyc := Nat.not_le.mpr (h r List.mem_cons_self)
      simp [this]
  unfold Ctx.landDue
  rw [hm, List.takeWhile_cons_of_pos (by simpa using hd), List.dropWhile_cons_of_pos (by simpa using hd), none_due.1, none_due.2]
  rfl

/-- The landing of products writes MH:ML and the list of products alone. -/
theorem landDue_writes (x : Ctx) (cyc : Nat) : ∃ p q r, x.landDue cyc = { x with mh := p, ml := q, muls := r } := by
  have fold : ∀ (l : List MulState) (p q : Word) (r : List MulState), ∃ p' q',
      l.foldl (fun y m => { y with mh := m.mh, ml := m.ml }) { x with mh := p, ml := q, muls := r } =
        { x with mh := p', ml := q', muls := r } := by
    intro l
    induction l with
    | nil => exact fun p q _ => ⟨p, q, rfl⟩
    | cons m l ih => exact fun _ _ r => ih m.mh m.ml r
  obtain ⟨p, q, e⟩ := fold (x.muls.takeWhile fun m => decide (m.due ≤ cyc)) x.mh x.ml (x.muls.dropWhile fun m => decide (m.due ≤ cyc))
  exact ⟨p, q, _, e⟩

theorem landDue_rsmKind (x : Ctx) (cyc : Nat) : (x.landDue cyc).rsmKind = x.rsmKind := by
  obtain ⟨p, q, r, e⟩ := landDue_writes x cyc
  rw [e]
  rfl

theorem landDue_wr (x : Ctx) (cyc k : Nat) : (x.landDue cyc).wr k = x.wr k := by
  obtain ⟨p, q, r, e⟩ := landDue_writes x cyc
  rw [e]
  rfl

/-! ### The instructions -/

/-- The cycle count and the power domains after a fetch. -/
theorem FetchFrame.cyc {n : Nat} {s t : State} (f : FetchFrame n s t) : (coreAt t n).cyc = (coreAt s n).cyc := by
  obtain ⟨_, _, _, _, _, _, _, e⟩ := f.block
  rw [e]

theorem FetchFrame.trimScale {n : Nat} {s t : State} (f : FetchFrame n s t) (m : Nat) : trimScale t m = trimScale s m := by
  unfold Machine.trimScale dom
  rw [f.rest]
  rfl

/-- The context of a ready core after its fetch is the one before it. -/
theorem fetched_ctx {s s1 : State} {n h : Nat} (f : FetchFrame n (setCtx s n h (ctxAt s n h)) s1) : ctxAt s1 n h = ctxAt s n h := by
  rw [f.ctx, ctxAt_setCtx_same]

theorem fetched_cyc {s s1 : State} {n h : Nat} (f : FetchFrame n (setCtx s n h (ctxAt s n h)) s1) :
    (coreAt s1 n).cyc = (coreAt s n).cyc := by
  rw [f.cyc, coreAt_setCtx_same]
  rfl

theorem fetched_trimScale {s s1 : State} {n h : Nat} (f : FetchFrame n (setCtx s n h (ctxAt s n h)) s1) :
    trimScale s1 n = trimScale s n := (f.trimScale n).trans rfl

/-- An instruction whose body only sets its context, by a core that is ready. -/
theorem Ready.sets {s : State} {iss : Iss} {h : Nat} (hr : Ready s iss h) {i : Insn} {nx : Next} {y : Ctx} (hc : nx ≠ .chain)
    (hdec : i.dec = decNone)
    (hbody : ∀ s1, FetchFrame iss.core.toNat (setCtx s iss.core.toNat h (ctxAt s iss.core.toNat h)) s1 →
      i.body iss.core.toNat h s1 = .ok nx (setCtx s1 iss.core.toNat h y))
    (hy : y.rsmKind = (ctxAt s iss.core.toNat h).rsmKind) :
    ∃ t, issue s iss i = .next t ∧ Issued s t iss.core.toNat h (y.onward nx) [] :=
  issue_ends hr hc (fun s1 _ => by rw [hdec]; rfl) (fun s1 f => ⟨_, hbody s1 f, .setCtx s1 _ h y⟩) fun _ => hy.trans hr.whole

theorem mulOp_sets {s : State} {iss : Iss} {h : Nat} (hr : Ready s iss h) (fn : Nat) (val : Word → Int) (a b : BitVec 5) :
    let n := iss.core.toNat
    let x := ctxAt s n h
    let p := productWords (val (x.wr a.toNat) * val (x.wr b.toNat))
    ∃ t, issue s iss (mulOp fn val iss a b) = .next t ∧
      Ran s t n h { x with muls := x.muls ++ [{ mh := p.1, ml := p.2, due := (coreAt s n).cyc + 4 * trimScale s n }] } := by
  intro n x p
  refine hr.sets (nx := .seq) (by decide) rfl (fun s1 f => ?_) rfl
  refine congrArg (fun y => EStateM.Result.ok Next.seq (setCtx s1 n h y)) ?_
  rw [fetched_ctx f, fetched_cyc f, fetched_trimScale f]

theorem mulMove_sets {s : State} {iss : Iss} {h : Nat} (hr : Ready s iss h) {raw : Word} {f : Ctx → Ctx} {y : Ctx}
    (hf : f ((ctxAt s iss.core.toNat h).landDue (coreAt s iss.core.toNat).cyc) = y)
    (hy : y.rsmKind = (ctxAt s iss.core.toNat h).rsmKind) :
    ∃ t, issue s iss (mulMove raw f) = .next t ∧ Ran s t iss.core.toNat h y := by
  refine hr.sets (nx := .seq) (by decide) rfl (fun s1 g => ?_) hy
  rw [← hf, ← fetched_cyc g, ← fetched_ctx g]
  rfl

theorem divOp_sets {s : State} {iss : Iss} {h : Nat} (hr : Ready s iss h) (fn : Nat) (val : Word → Int) (a b : BitVec 5)
    (hb : val ((ctxAt s iss.core.toNat h).wr b.toNat) ≠ 0) :
    let n := iss.core.toNat
    let x := ctxAt s n h
    let u := val (x.wr a.toNat)
    let v := val (x.wr b.toNat)
    let r : DivState := { dq := wordOfInt (u.tdiv v), dm := wordOfInt (u.tmod v), due := (coreAt s n).cyc + 36 * trimScale s n }
    ∃ t, issue s iss (divOp fn val iss a b) = .next t ∧ Issued s t n h { x with div := some r } [] := by
  intro n x u v r
  refine hr.sets (nx := .hold) (by decide) rfl (fun s1 f => ?_) rfl
  have hv : ¬ val ((ctxAt s1 n h).wr b.toNat) = 0 := by
    rw [fetched_ctx f]
    exact hb
  let y := ctxAt s1 n h
  let p := val (y.wr a.toNat)
  let q := val (y.wr b.toNat)
  let quotients : DivState := { dq := wordOfInt (p.tdiv q), dm := wordOfInt (p.tmod q), due := (coreAt s1 n).cyc + 36 * trimScale s1 n }
  have body : (divOp fn val iss a b).body n h s1 = .ok .hold (setCtx s1 n h { y with div := some quotients }) := by
    simp only [divOp, Bind.bind, EStateM.bind, MonadState.get, getThe, MonadStateOf.get, EStateM.get, hv, if_false, Pure.pure,
      EStateM.pure, upd, modify, modifyGet, MonadStateOf.modifyGet, EStateM.modifyGet]
    rfl
  rw [body]
  simp only [r, u, v, x, quotients, p, q, y]
  rw [fetched_cyc f, fetched_trimScale f, fetched_ctx f]

theorem multiplier : Rule.Multiplier := by
  intro s iss h d a b hr n x va vb gives cyc y
  let signed := productWords (sval va * sval vb)
  let unsigned := productWords ((va.toNat : Int) * vb.toNat)
  refine ⟨⟨{ mh := signed.1, ml := signed.2, due := cyc + 4 * trimScale s n }, productWords_signed va vb, rfl,
      mulOp_sets hr 1 sval a b⟩,
    ⟨{ mh := unsigned.1, ml := unsigned.2, due := cyc + 4 * trimScale s n }, productWords_unsigned va vb, rfl,
      mulOp_sets hr 2 (fun w => (w.toNat : Int)) a b⟩, mulMove_sets (y := y.setW d.toNat y.mh) hr rfl ?_,
    mulMove_sets (y := y.setW d.toNat y.ml) hr rfl ?_,
    mulMove_sets (y := { y with mh := va, ml := vb }) hr ?_ (landDue_rsmKind x cyc), landDue_early x cyc, landDue_one x cyc⟩
  · exact (setW_rsmKind ..).trans (landDue_rsmKind x cyc)
  · exact (setW_rsmKind ..).trans (landDue_rsmKind x cyc)
  · rw [landDue_wr, landDue_wr]

theorem productsLandInOrder : Rule.ProductsLandInOrder := by
  intro s core ctx m rest n h hc hm hd
  refine ⟨setCtx s n h { ctxAt s n h with mh := m.mh, ml := m.ml, muls := rest }, ?_, ctxAt_setCtx_same ..,
    fun _ _ hne => ctxAt_setCtx_other s _ hne, rfl⟩
  show done (if clocked s then setCtx s n h ((ctxAt s n h).mulWrite (coreAt s n).cyc) else s) = _
  rw [if_pos hc, Ctx.mulWrite, hm]
  dsimp only
  rw [if_pos hd]
  rfl

theorem divider : Rule.Divider := by
  intro s iss h d a b hr n x va vb gives
  have signed : vb ≠ 0 → sval vb ≠ 0 := fun h => (sval_eq_zero vb).not.mpr h
  have unsigned : vb ≠ 0 → (vb.toNat : Int) ≠ 0 := fun h e => h (BitVec.eq_of_toNat_eq (by simpa using e))
  refine ⟨fun hb => ?_, fun hb => ?_, hr.gives rfl (setW_rsmKind ..), hr.gives rfl (setW_rsmKind ..), hr.gives rfl rfl⟩
  · rw [← quotient_signed, ← remainder_signed]
    exact divOp_sets hr 16 sval a b (signed hb)
  · rw [← quotient_unsigned, ← remainder_unsigned]
    exact divOp_sets hr 17 (fun w => (w.toNat : Int)) a b (unsigned hb)

theorem divisionCompletes : Rule.DivisionCompletes := by
  intro s core ctx r n h x hc hx hd hk
  have whole : setFld x.rsm0 35 33 0 = x.rsm0 := setFld_self _ _ _ _ hk
  refine ⟨setCtx s n h { x with dq := r.dq, dm := r.dm, div := none }.advance, ?_, ?_, fun _ _ hne => ctxAt_setCtx_other s _ hne, rfl⟩
  · show (match x.div with | none => done s | some r => _) = _
    rw [hx]
    exact congrArg done (if_pos ⟨hc, hd⟩)
  · rw [ctxAt_setCtx_same, Ctx.advance]
    simp only [whole]

/-- Settles O10: the multiplier and the divider write their pair in its cycle, by the products that are due. -/
theorem multiplierAndDivider : Obligations.MultiplierAndDivider :=
  ⟨multiplier, productsLandInOrder, divider, divisionCompletes⟩

end Sys2Proof.Machine

namespace Sys2Proof.Machine
open Sys2Proof Sys2Proof.Machine
set_option Elab.async false

/-! ## Capability instructions (R94 to R104, R111 to R113) -/

/-! ### Fields as words -/

/-- A field read as a word: the word shifted down, under the field's mask. -/
theorem ofNat_fld (w : Word) {hi lo : Nat} (h : lo ≤ hi) : BitVec.ofNat 36 (fld w hi lo) = (w >>> lo) &&& fmask (hi - lo) 0 := by
  ext i hi36
  rw [← BitVec.getLsbD_eq_getElem, ← BitVec.getLsbD_eq_getElem, BitVec.getLsbD_ofNat, testBit_fld, BitVec.getLsbD_and,
    BitVec.getLsbD_ushiftRight, getLsbD_fmask]
  have e : decide (i < hi + 1 - lo) = decide (i ≤ hi - lo) := decide_eq_decide.mpr (by omega)
  simp [hi36, e, Bool.and_comm]

/-- A number placed at bit lo, of as many bits as the field has. -/
theorem fval_eq {hi lo v : Nat} (h : v < 2 ^ (hi + 1 - lo)) : fval hi lo v = BitVec.ofNat 36 v <<< lo := by
  unfold fval
  rw [Nat.mod_eq_of_lt h]
  apply BitVec.eq_of_toNat_eq
  rw [BitVec.toNat_shiftLeft, BitVec.toNat_ofNat, BitVec.toNat_ofNat, Nat.shiftLeft_eq, Nat.mod_mul_mod]

theorem ofNat_bnat (b : Bool) : BitVec.ofNat 36 (bnat b) = if b then 1 else 0 := by cases b <;> rfl

/-- The permission bits, the highest twelve. -/
theorem ofNat_perm (c : Cap) : BitVec.ofNat 36 c.perm = c.hi >>> 24 := by
  rw [Cap.perm, ofNat_fld _ (by decide)]
  ext i hi
  rw [← BitVec.getLsbD_eq_getElem, ← BitVec.getLsbD_eq_getElem, BitVec.getLsbD_and, BitVec.getLsbD_ushiftRight, getLsbD_fmask]
  by_cases h : i ≤ 11
  · simp [hi, h]
  · simp [h, BitVec.getLsbD_of_ge c.hi (24 + i) (by omega)]

theorem withType_eq (c : Cap) {t : Nat} (h : t < 64) :
    c.withType t = { c with hi := (c.hi &&& ~~~0xfc0000#36) ||| (BitVec.ofNat 36 t <<< 18) } := by
  unfold Cap.withType setFld
  rw [fval_eq (by omega)]
  rfl

theorem withType_zero (c : Cap) : c.withType 0 = { c with hi := c.hi &&& ~~~0xfc0000#36 } := by
  rw [withType_eq c (by decide)]
  simp

/-- The cursor of 30 bits, below the other field of its word. -/
theorem setCursor_eq (w : Word) {v : Nat} (h : v < 2 ^ 30) : setFld w 29 0 v = (w &&& ~~~0x3fffffff#36) ||| BitVec.ofNat 36 v := by
  unfold setFld
  rw [fval_eq (by omega), BitVec.shiftLeft_zero]
  rfl

theorem move_eq (c : Cap) (v : Int) : c.move v =
    { hi := c.hi, lo := (c.lo &&& ~~~0x3fffffff#36) ||| BitVec.ofNat 36 (v % 2 ^ 30).toNat
      tag := c.tag && decide (0 ≤ v ∧ v < 2 ^ 30 ∧ (c.bounds.1 : Int) ≤ v ∧ v < c.bounds.1 + 512 * 2 ^ c.exp) } := by
  have wraps : (v % 2 ^ 30).toNat < 2 ^ 30 := by omega
  rw [Cap.move, setCursor_eq _ wraps]
  have inside : c.representable v = decide (0 ≤ v ∧ v < 2 ^ 30 ∧ (c.bounds.1 : Int) ≤ v ∧ v < c.bounds.1 + 512 * 2 ^ c.exp) := by
    simp only [Cap.representable, Cap.base, Bool.decide_and, Bool.and_assoc]
    rfl
  rw [inside]

/-- The permissions that a mask also holds, under the other fields (R111). -/
theorem maskp_eq (c : Cap) (m : Word) :
    setFld c.hi 35 24 (Nat.land c.perm (fld m 11 0)) = c.hi &&& ((m <<< 24) ||| 0xffffff#36) := by
  have low : ∀ i, i < 36 → (0xffffff#36 : Word).getLsbD i = decide (i < 24) := by
    intro i hi
    interval_cases i <;> rfl
  ext i hi
  rw [← BitVec.getLsbD_eq_getElem, ← BitVec.getLsbD_eq_getElem, getLsbD_setFld, BitVec.getLsbD_and, BitVec.getLsbD_or,
    BitVec.getLsbD_shiftLeft, low i hi]
  by_cases h : i < 24
  · rw [if_neg (by omega)]
    simp [h]
  · rw [if_pos (by omega)]
    have e : (Nat.land c.perm (fld m 11 0)).testBit (i - 24) = (c.perm.testBit (i - 24) && (fld m 11 0).testBit (i - 24)) :=
      Nat.testBit_and ..
    rw [e, Cap.perm, testBit_fld, testBit_fld, show 24 + (i - 24) = i by omega, Nat.zero_add]
    simp [hi, h, show i - 24 < 12 by omega]

/-! ### The bounds that CNARROW encodes (R102) -/

theorem encodeAux_le (rb len e fuel : Nat) : encodeAux rb len e fuel ≤ e + fuel := by
  induction fuel generalizing e with
  | zero => exact Nat.le_refl _
  | succ f ih =>
    unfold encodeAux
    split
    · omega
    · have := ih (e + 1)
      omega

/-- The search ends at an exponent that fits, or at the greatest one. -/
theorem encodeAux_fits (rb len e fuel : Nat) :
    (rb + len + 2 ^ encodeAux rb len e fuel - 1) / 2 ^ encodeAux rb len e fuel - rb / 2 ^ encodeAux rb len e fuel ≤ 511 ∨
      encodeAux rb len e fuel = e + fuel := by
  induction fuel generalizing e with
  | zero => exact .inr rfl
  | succ f ih =>
    unfold encodeAux
    split
    · next h => exact .inl h
    · exact (ih (e + 1)).imp id fun h => h.trans (by omega)

/-- The exponent of a request inside the address space spans at most 511 units. -/
theorem encodeExp_spec (rb len : Nat) (h : rb + len ≤ 2 ^ 30) : encodeExp rb len ≤ 22 ∧
    (rb + len + 2 ^ encodeExp rb len - 1) / 2 ^ encodeExp rb len - rb / 2 ^ encodeExp rb len ≤ 511 := by
  refine ⟨(encodeAux_le rb len 0 22).trans (by decide), ?_⟩
  rcases encodeAux_fits rb len 0 22 with fits | last
  · exact fits
  · rw [encodeExp, last]
    omega

theorem narrowed_fields (c : Cap) (rb len : Nat) (hrb : rb < 2 ^ 30) (he : encodeExp rb len ≤ 22) :
    (c.narrowed rb len).perm = c.perm ∧ (c.narrowed rb len).otype = c.otype ∧ (c.narrowed rb len).cursor = rb ∧
      (c.narrowed rb len).exp = encodeExp rb len ∧ (c.narrowed rb len).bm = rb / 2 ^ encodeExp rb len % 512 ∧
      (c.narrowed rb len).tm = (rb + len + 2 ^ encodeExp rb len - 1) / 2 ^ encodeExp rb len % 512 := by
  unfold Cap.narrowed Cap.perm Cap.otype Cap.cursor Cap.exp Cap.bm Cap.tm
  dsimp only
  refine ⟨?_, ?_, ?_, ?_, ?_, ?_⟩
  · rw [fld_setFld_other _ _ _ _ _ _ (by decide), fld_setFld_other _ _ _ _ _ _ (by decide)]
  · rw [fld_setFld_other _ _ _ _ _ _ (by decide), fld_setFld_other _ _ _ _ _ _ (by decide)]
  · rw [fld_setFld_same _ _ _ _ (by decide), Nat.mod_eq_of_lt hrb]
  · rw [fld_setFld_other _ _ _ _ _ _ (by decide), fld_setFld_same _ _ _ _ (by decide), Nat.mod_eq_of_lt (by omega)]
  · exact (fld_setFld_other _ _ _ _ _ _ (by decide)).trans (fld_setFld_same _ _ _ _ (by decide))
  · exact fld_setFld_same _ _ _ _ (by decide)

/-- Bounds whose fields are a base and a top of at most 511 units more, with the cursor in the base's unit, are decoded as they
were encoded (R99, R102). -/
theorem bounds_of_fields (c : Cap) (e b t : Nat) (he : c.exp = e) (h22 : e ≤ 22) (hb : c.bm = b % 512) (ht : c.tm = t % 512)
    (ha : c.cursor / 2 ^ e = b) (hbt : b ≤ t) (hspan : t ≤ b + 511) (htop : t * 2 ^ e ≤ 2 ^ 30) :
    c.bounds = (b * 2 ^ e, t * 2 ^ e) := by
  have block : c.cursor / 2 ^ (e + 9) = b / 512 := by rw [pow_add, ← Nat.div_div_eq_div_mul, ha]; rfl
  unfold Cap.bounds
  rw [he, hb, ht]
  dsimp only
  have low : b % 512 ≤ c.cursor / 2 ^ e % 512 := by rw [ha]
  rw [if_neg (Nat.not_lt.mpr h22), if_pos low]
  have base : ((c.cursor : Int) / 2 ^ (e + 9)) * 2 ^ (e + 9) + ((b % 512 : Nat) : Int) * 2 ^ e = ((b * 2 ^ e : Nat) : Int) := by
    have : (c.cursor : Int) / 2 ^ (e + 9) = ((b / 512 : Nat) : Int) := by rw [← block]; push_cast; rfl
    rw [this, pow_add, show ((b : Nat) : Nat) = b from rfl]
    have split : b = b / 512 * 512 + b % 512 := by omega
    conv_rhs => rw [split]
    push_cast
    ring
  have top : (if b % 512 ≤ t % 512 then (c.cursor : Int) / 2 ^ (e + 9) else (c.cursor : Int) / 2 ^ (e + 9) + 1) * 2 ^ (e + 9) +
      ((t % 512 : Nat) : Int) * 2 ^ e = ((t * 2 ^ e : Nat) : Int) := by
    have blockOf : (c.cursor : Int) / 2 ^ (e + 9) = ((b / 512 : Nat) : Int) := by rw [← block]; push_cast; rfl
    have above : (if b % 512 ≤ t % 512 then (c.cursor : Int) / 2 ^ (e + 9) else (c.cursor : Int) / 2 ^ (e + 9) + 1) =
        ((t / 512 : Nat) : Int) := by
      rw [blockOf]
      split <;> omega
    rw [above, pow_add]
    have split : t = t / 512 * 512 + t % 512 := by omega
    conv_rhs => rw [split]
    push_cast
    ring
  rw [base, top, if_neg]
  · rfl
  · rintro (h | h)
    · omega
    · have : ((t * 2 ^ e : Nat) : Int) ≤ 2 ^ 30 := by exact_mod_cast htop
      omega

theorem bounds_top_le (c : Cap) : c.bounds.2 ≤ 2 ^ 30 := by
  unfold Cap.bounds
  extract_lets e b9 t9 a s ablk amid bblk base top
  by_cases he : 22 < e
  · rw [if_pos he]
    exact Nat.zero_le _
  · rw [if_neg he]
    by_cases out : base < 0 ∨ (2 ^ 30 : Int) < top
    · rw [if_pos out]
      exact Nat.zero_le _
    · rw [if_neg out]
      dsimp only
      omega

theorem roundUp_ge (a u : Nat) (hu : 0 < u) : a ≤ (a + u - 1) / u * u := by
  have := Nat.div_add_mod (a + u - 1) u
  have := Nat.mod_lt (a + u - 1) hu
  rw [Nat.mul_comm]
  omega

theorem cursor_eq (c : Cap) : c.cursor = c.lo.toNat % 2 ^ 30 := rfl

/-- A capability narrowed to a request inside its bounds has exactly the encoded ones, which hold the request. -/
theorem narrowed_bounds (c : Cap) (rb len : Nat) (hrb : rb < 2 ^ 30) (h : rb + len ≤ 2 ^ 30) (htop : (encodeBounds rb len).2 ≤ 2 ^ 30) :
    (c.narrowed rb len).bounds = encodeBounds rb len ∧ (encodeBounds rb len).1 ≤ rb ∧ rb + len ≤ (encodeBounds rb len).2 := by
  obtain ⟨he, span⟩ := encodeExp_spec rb len h
  obtain ⟨-, -, cursor, exp, bm, tm⟩ := narrowed_fields c rb len hrb he
  have pos : 0 < 2 ^ encodeExp rb len := by positivity
  have covers := roundUp_ge (rb + len) _ pos
  have floor : rb / 2 ^ encodeExp rb len * 2 ^ encodeExp rb len ≤ rb := Nat.div_mul_le_self ..
  refine ⟨?_, floor, covers⟩
  have order : rb / 2 ^ encodeExp rb len ≤ (rb + len + 2 ^ encodeExp rb len - 1) / 2 ^ encodeExp rb len :=
    Nat.div_le_div_right (by omega)
  exact bounds_of_fields _ _ _ _ exp he bm tm (by rw [cursor]) order (by omega) htop

/-! ### The instructions -/

theorem capabilityReads : Rule.CapabilityReads := by
  intro s iss h d a e hr n x c gives writes
  have get : ∀ {fn f v}, BitVec.ofNat 36 (f c) = v → ∃ t, issue s iss (capGet fn f iss d a) = .next t ∧ Ran s t n h (writes v) :=
    fun e => hr.gives (by rw [← e]) (setW_rsmKind ..)
  refine ⟨get (ofNat_bnat c.tag), get (ofNat_perm c), get ?_, get ?_, get rfl, get rfl, get rfl, hr.gives rfl (setC_rsmKind ..),
    hr.gives rfl (setC_rsmKind ..), hr.gives rfl (setC_rsmKind ..)⟩
  · exact ofNat_fld c.hi (by decide)
  · rw [Cap.cursor, ofNat_fld _ (by decide), BitVec.ushiftRight_zero]
    rfl

/-- The guard of CPOINT, CSTEP and CMASKP on an untagged or unsealed capability. -/
theorem unsealed_guard {c : Cap} (h : c.tag = false ∨ c.otype = 0) : ¬ (c.tag && decide (c.otype ≠ 0)) = true := by
  rcases h with h | h <;> simp [h]

theorem capabilityCursorsAndPermissions : Rule.CapabilityCursorsAndPermissions := by
  intro s iss h d a b imm hr n x c w gives inside at_ unsealed
  have guard := unsealed_guard unsealed
  have point : ∀ v : Int, capPoint c v = .ok (c.move v) := fun v => if_neg guard
  have derive : ∀ {fn f r}, f c w = .ok r →
      ∃ t, issue s iss (capDerive fn f iss d a b) = .next t ∧ Ran s t n h (x.setC d.toNat r) :=
    fun e => hr.givesOk (by rw [e]) (setC_rsmKind x d.toNat _)
  have pointed : ∀ v : Int, at_ v = x.setC d.toNat (c.move v) := fun v => congrArg (x.setC d.toNat) (move_eq c v).symm
  refine ⟨?_, ?_, ?_, ?_⟩
  · rw [pointed]
    exact derive (point _)
  · rw [pointed]
    exact derive (point _)
  · rw [pointed]
    exact hr.givesOk (by rw [show capPoint (x.cr a.toNat) _ = _ from point _]; rfl) (setC_rsmKind x d.toNat _)
  · rw [← maskp_eq]
    exact derive (if_neg guard)

theorem capabilityNarrowing : Rule.CapabilityNarrowing := by
  intro s iss h d a b hr n x c len rb nb nt tagged unsealed inSpace above below
  have hrb : rb < 2 ^ 30 := Nat.mod_lt _ (by decide)
  have htop : nt ≤ 2 ^ 30 := below.trans (bounds_top_le c)
  obtain ⟨he, -⟩ := encodeExp_spec rb len inSpace
  obtain ⟨perm, otype, cursor, -⟩ := narrowed_fields c rb len hrb he
  obtain ⟨bounds, lower, upper⟩ := narrowed_bounds c rb len hrb inSpace htop
  have derive : ∀ {fn f r}, f c (x.wr b.toNat) = .ok r →
      ∃ t, issue s iss (capDerive fn f iss d a b) = .next t ∧ Ran s t n h (x.setC d.toNat r) :=
    fun e => hr.givesOk (by rw [e]) (setC_rsmKind x d.toNat _)
  have narrow : ∀ exact, (exact = true → nb = rb ∧ nt = rb + len) → capNarrow c len exact = .ok (c.narrowed rb len) := by
    intro exact hx
    have within : ¬ (nb < c.base ∨ c.top < nt) := by
      rw [not_or]
      exact ⟨Nat.not_lt.mpr above, Nat.not_lt.mpr below⟩
    have exactly : ¬ (exact && decide (nb ≠ rb ∨ nt ≠ rb + len)) = true := by
      cases exact
      · simp
      · simp [hx rfl]
    rw [capNarrow, show c.cursor = rb from rfl]
    rw [if_neg (by simp [tagged]), if_neg (by simp [unsealed]), if_neg (Nat.not_lt.mpr inSpace), if_neg within, if_neg exactly]
  exact ⟨c.narrowed rb len, tagged, perm, otype.trans unsealed, cursor, bounds, lower, upper, derive (narrow false (by simp)),
    fun h1 h2 => derive (narrow true fun _ => ⟨h1, h2⟩)⟩

/-- Settles O11: the fields, the move of the cursor and the encoded bounds as words, and the issue of an instruction of registers
alone. -/
theorem capabilityInstructions : Obligations.CapabilityInstructions :=
  ⟨capabilityReads, capabilityCursorsAndPermissions, capabilityNarrowing⟩

end Sys2Proof.Machine

namespace Sys2Proof.Machine
open Sys2Proof Sys2Proof.Machine
set_option Elab.async false

/-! ## Sealing, invocation and representable lengths (R97, R103, R112, R113) -/

/-- A body that goes on with what a fetch or a transfer of control fills. -/
theorem BodyFrame.thenFetch {n h : Nat} {s t u : State} {y : Ctx} {es : List SbEntry} (p : BodyFrame n h s t y es)
    (f : FetchFrame n t u) : BodyFrame n h s u y es := by
  have q := p.trans (of_fetch f)
  rwa [List.append_nil, p.ctx] at q

/-- The major opcode of a word made of a head and fields below it. -/
theorem majorOf_encR (i : Iss) (major d a b fn : Nat) (h : major < 64) : majorOf (encR i major d a b fn) = major := by
  apply Nat.eq_of_testBit_eq
  intro j
  unfold majorOf encR encHead
  rw [testBit_fld]
  simp only [BitVec.getLsbD_or, getLsbD_fval]
  by_cases hj : j < 6
  · simp [hj, show ¬ 33 ≤ 26 + j by omega, show ¬ 32 ≤ 26 + j by omega, show 26 + j < 36 by omega, show 26 + j ≤ 31 by omega,
      show ¬ 26 + j ≤ 25 by omega, show ¬ 26 + j ≤ 20 by omega, show ¬ 26 + j ≤ 15 by omega, show ¬ 26 + j ≤ 10 by omega]
  · have : major.testBit j = false :=
      Nat.testBit_lt_two_pow (h.trans_le (Nat.pow_le_pow_right (show 0 < 2 by decide) (Nat.not_lt.mp hj : 6 ≤ j)))
    simp [hj, this]

/-- The integer and capability instructions of registers alone are no loads. -/
theorem loadDst_encR (x : Ctx) (i : Iss) (d a b fn : Nat) : loadDst x (encR i 5 d a b fn) = none := by
  unfold loadDst
  rw [majorOf_encR _ _ _ _ _ _ (by decide)]
  rfl

/-! ### Sealing -/

/-- Type 0 and Global only where both capabilities hold it (R112). -/
theorem unsealed_perms (w : Word) (own other : Bool) (h : own = bit w 29) :
    setBit w 29 (own && other) = if other then w else w &&& ~~~0x20000000#36 := by
  subst h
  have mask : ∀ i, i < 36 → (0x20000000#36 : Word).getLsbD i = decide (i = 29) := by
    intro i hi
    interval_cases i <;> rfl
  ext i hi
  rw [← BitVec.getLsbD_eq_getElem, ← BitVec.getLsbD_eq_getElem, setBit, getLsbD_setFld]
  by_cases h29 : i = 29
  · subst h29
    rw [if_pos ⟨Nat.le_refl _, Nat.le_refl _⟩]
    cases other
    · simp only [Bool.and_false, Bool.false_eq_true, if_false, BitVec.getLsbD_and, BitVec.getLsbD_not, mask 29 hi]
      simp
    · simp only [Bool.and_true, if_true, bit]
      cases w.getLsbD 29 <;> rfl
  · rw [if_neg (by omega)]
    cases other
    · simp only [Bool.false_eq_true, if_false, BitVec.getLsbD_and, BitVec.getLsbD_not, mask i hi, h29, hi, decide_true, decide_false,
        Bool.not_false, Bool.and_true]
    · rfl

theorem sealing : Rule.Sealing := by
  intro s iss h d a b k hr n x c ct gives typed
  have pair : ∀ {fn f r}, f c ct = .ok r →
      ∃ t, issue s iss (capPair fn f iss d a b) = .next t ∧ Ran s t n h (x.setC d.toNat r) :=
    fun e => hr.givesOk (by rw [e]) (setC_rsmKind x d.toNat _)
  refine ⟨fun tagged authority unsealed plain permitted base top lo hi => ?_,
    fun tagged authority isSealed entry matching plain permitted base top => ?_, fun system priv tagged unsealed kind => ?_⟩
  · rw [show ({ c with hi := typed ct.cursor } : Cap) = c.withType ct.cursor from (withType_eq c (by omega)).symm]
    refine pair ?_
    have inside : ¬ (ct.cursor < ct.base ∨ ct.top ≤ ct.cursor) := not_or.mpr ⟨Nat.not_lt.mpr base, Nat.not_le.mpr top⟩
    have free : ¬ (ct.cursor < 1 ∨ 55 < ct.cursor) := by omega
    rw [capSeal, if_neg (by simp [tagged, authority]), if_neg (by simp [unsealed, plain]), if_neg (by simp [permitted]), if_neg inside,
      if_neg free]
  · have type0 : c.withType 0 = { c with hi := typed 0 } := withType_eq c (by decide)
    have own : c.has .glob = bit (typed 0) 29 := by
      have : bit (c.withType 0).hi 29 = bit c.hi 29 := bit_setFld_other _ _ _ _ _ (by decide)
      rw [type0] at this
      exact this.symm
    rw [← unsealed_perms (typed 0) (c.has .glob) (ct.has .glob) own]
    refine pair ?_
    have inside : ¬ (ct.cursor < ct.base ∨ ct.top ≤ ct.cursor) := not_or.mpr ⟨Nat.not_lt.mpr base, Nat.not_le.mpr top⟩
    rw [capUnseal, if_neg (by simp [tagged, authority]), if_neg (by simp [isSealed, plain]), if_neg (by simp [permitted]),
      if_neg inside, if_neg (by omega), type0]
  · have kindLt : k.toNat + 32 < 64 := by omega
    rw [show ({ c with hi := typed (k.toNat + 32) } : Cap) = c.withType (k.toNat + 32) from (withType_eq c kindLt).symm]
    refine hr.givesOk ?_ (setC_rsmKind x d.toNat _)
    have entry : ¬ (k.toNat + 32 ≠ 56 ∧ k.toNat + 32 ≠ 59) := by rcases kind with rfl | rfl <;> decide
    have ready : capSealh c (k.toNat + 32) = .ok (c.withType (k.toNat + 32)) := by
      rw [capSealh, if_neg (by simp [tagged]), if_neg (by simp [unsealed]), if_neg entry]
    have executive : ¬ (x.pcc.has .system = false ∨ x.priv ≠ 0) := by simp [system, priv]
    rw [if_neg executive, ready]

/-! ### The steps of a body -/

section
variable {α β : Type}

theorem get_bind (f : State → X α) (s : State) : ((get : X State) >>= f) s = f s s := rfl

theorem upd_bind (g : State → State) (f : Unit → X α) (s : State) : (upd g >>= f) s = f () (g s) := rfl

theorem act_bind (g : State → β × State) (f : β → X α) (s : State) : (act g >>= f) s = f (g s).1 (g s).2 := rfl

theorem pure_run (a : α) (s : State) : (pure a : X α) s = .ok a s := rfl

theorem bind_ok {m : X β} {f : β → X α} {s t : State} {b : β} (h : m s = .ok b t) : (m >>= f) s = f b t := by
  show EStateM.bind m f s = _
  unfold EStateM.bind
  rw [h]

end

/-! ### Invocation -/

theorem invocation : Rule.Invocation := by
  intro s iss h a b hr n x cc cd tagged1 tagged2 isSealed entry matching invoke1 invoke2 code data base top
  have opens : capInvoke cc cd = .ok (cc.withType 0, cd.withType 0) := by
    have inside : ¬ (cc.cursor < cc.base ∨ cc.top ≤ cc.cursor) := not_or.mpr ⟨Nat.not_lt.mpr base, Nat.not_le.mpr top⟩
    rw [capInvoke, if_neg (by simp [tagged1, tagged2]), if_neg (by omega), if_neg (by omega), if_neg (by simp [invoke1, invoke2]),
      if_neg (by simp [code, data]), if_neg inside]
  rw [← withType_zero, ← withType_zero]
  let y : Ctx := { x with pcc := cc.withType 0 }.setC 7 (cd.withType 0)
  refine issue_ends hr (nx := .jump) (y := y) (by decide) (fun _ _ => rfl) (fun s1 f => ⟨_, ?_, (BodyFrame.setCtx s1 n h y).thenFetch
    (FetchFrame.discardPq n h _)⟩) fun e => Next.noConfusion e
  refine (get_bind _ s1).trans ?_
  rw [fetched_ctx f, show capInvoke ((ctxAt s iss.core.toNat h).cr a.toNat) _ = _ from opens]
  rfl

/-! ### Representable lengths (R103) -/

/-- The search of R103 ends at the first exponent that fits. -/
theorem sizeExpAux_eq (len e e0 fuel : Nat) (h0 : e0 ≤ e) (hf : e ≤ e0 + fuel) (least : ∀ f, f < e → 511 < (len + 2 ^ f - 1) / 2 ^ f)
    (fits : (len + 2 ^ e - 1) / 2 ^ e ≤ 511) : sizeExpAux len e0 fuel = e := by
  induction fuel generalizing e0 with
  | zero => exact Nat.le_antisymm h0 hf
  | succ k ih =>
    unfold sizeExpAux
    by_cases h : e0 = e
    · subst h
      exact if_pos fits
    · rw [if_neg (Nat.not_le.mpr (least e0 (by omega)))]
      exact ih (e0 + 1) (by omega) (by omega)

/-- A length that an exponent fits is one that the greatest fits. -/
theorem sizeDefined_of_fits (len e : Nat) (he : e ≤ 22) (fits : (len + 2 ^ e - 1) / 2 ^ e ≤ 511) : sizeDefined len = true := by
  have pos : 0 < 2 ^ e := by positivity
  have small : len ≤ 511 * 2 ^ e :=
    (roundUp_ge len _ pos).trans (Nat.mul_le_mul_right _ fits)
  have : 511 * 2 ^ e ≤ 511 * 2 ^ 22 := Nat.mul_le_mul_left _ (Nat.pow_le_pow_right (by decide) he)
  unfold sizeDefined
  rw [decide_eq_true_eq]
  omega

/-- The mask of a base at an exponent: the bits from it to bit 29. -/
theorem fmask_eq (e : Nat) (he : e ≤ 22) : fmask 29 e = BitVec.ofNat 36 (2 ^ 30 - 2 ^ e) := by
  interval_cases e <;> rfl

@[simp] theorem setW_pcc (x : Ctx) (k : Nat) (v : Word) : (x.setW k v).pcc = x.pcc := by
  unfold Ctx.setW Ctx.wphysSet
  split <;> rfl

/-- A length that no exponent fits: the next free value is written, of which the state notes that it is used. -/
theorem sizeInsn_free {s : State} {iss : Iss} {h : Nat} (hr : Ready s iss h) (fn : Nat) (f : Nat → Word) (d a : BitVec 5)
    (undefined : sizeDefined ((ctxAt s iss.core.toNat h).wr a.toNat).toNat = false) :
    ∃ t v, issue s iss (sizeInsn fn f iss d a) = .next t ∧
      ctxAt t iss.core.toNat h = { (ctxAt s iss.core.toNat h).setW d.toNat v with
        pcc := (ctxAt s iss.core.toNat h).pcc.move ((ctxAt s iss.core.toNat h).pcc.cursor + 1)
        fresh := false, stepping := false, lastLoad := none, barrier := none } ∧ t.mem = s.mem := by
  obtain ⟨s1, fetched⟩ := hr.fetched
  have frame := fetchIssue_keeps _ h _ _ _ fetched
  have live := coreIssues_live s _ h hr.issues
  let v := Config.freeValue 36 s1.fresh
  let x := ctxAt s iss.core.toNat h
  let s2 := setCtx { s1 with fresh := s1.fresh + 1 } iss.core.toNat h (x.setW d.toNat v)
  have body : (sizeInsn fn f iss d a).body iss.core.toNat h s1 = .ok .seq s2 := by
    refine (get_bind _ s1).trans ?_
    rw [fetched_ctx frame]
    dsimp only
    rw [undefined]
    refine (act_bind freeTake _ s1).trans ?_
    refine (upd_bind _ _ _).trans ?_
    rw [show ctxAt (freeTake s1).2 iss.core.toNat h = x from (show _ = ctxAt s1 iss.core.toNat h from rfl).trans (fetched_ctx frame)]
    rfl
  have left : ctxAt s2 iss.core.toNat h = x.setW d.toNat v := ctxAt_setCtx_same ..
  obtain ⟨_, _, _, _, _, _, _, block⟩ := frame.block
  have idle : (coreAt s2 iss.core.toNat).mstage = none := by
    rw [show coreAt s2 iss.core.toNat = (coreAt s1 iss.core.toNat).setCtx h _ from coreAt_setCtx_same .., block, coreAt_setCtx_same]
    exact live.2.2
  have here : coreGone s2 iss.core.toNat = false := by
    rw [show coreGone s2 iss.core.toNat = coreGone s1 iss.core.toNat from rfl, (BodyFrame.of_fetch (h := h) frame).coreGone]
    exact coreGone_false s _ live.1
  have whole : (x.setW d.toNat v).rsmKind = 0 := (setW_rsmKind ..).trans hr.whole
  obtain ⟨u, after, done⟩ := issue_body hr fetched rfl body (by decide) idle here fun _ => by rw [left]; exact whole
  rw [left, show (sizeInsn fn f iss d a).raw = encR iss 5 d.toNat a.toNat 0 fn from rfl, loadDst_encR] at after
  have kept : u.mem = s.mem := by
    rw [after.rest]
    exact (show s1.mem = _ by rw [frame.rest]; rfl)
  have ctx : ctxAt u iss.core.toNat h = (x.setW d.toNat v).after none := by rw [after.ctx, ctxAt_landed, ctxAt_setCtx_same]; rfl
  refine ⟨_, v, done, ?_, ?_⟩
  · have next : (x.setW d.toNat v).after none = { x.setW d.toNat v with
        pcc := x.pcc.move (x.pcc.cursor + 1), fresh := false, stepping := false, lastLoad := none, barrier := none } := by
      rw [Ctx.after, setW_pcc]
    rw [← next, ← ctx]
    split
    · rfl
    · rfl
  · split
    · exact kept
    · exact kept

theorem sizeAndMask : Rule.SizeAndMask := by
  intro s iss h d a hr n x len ceil
  refine ⟨fun e he fits least => ?_, fun wide => ?_⟩
  · have exp : sizeExp len = e := sizeExpAux_eq len e 0 22 (Nat.zero_le _) (by omega) least fits
    have run : ∀ fn (f : Nat → Word), ∃ t, issue s iss (sizeInsn fn f iss d a) = .next t ∧ Ran s t n h (x.setW d.toNat (f len)) := by
      intro fn f
      refine hr.sets (nx := .seq) (by decide) rfl (fun s1 g => ?_) (setW_rsmKind ..)
      refine (get_bind _ s1).trans ?_
      rw [fetched_ctx g]
      dsimp only
      rw [if_pos (sizeDefined_of_fits len e he fits)]
      refine (upd_bind _ _ s1).trans ?_
      rw [fetched_ctx g]
      rfl
    refine ⟨?_, ?_⟩
    · have := run 32 fun len => BitVec.ofNat 36 (sizeUp len)
      rwa [sizeUp, exp] at this
    · have := run 33 baseMask
      rwa [baseMask, exp, fmask_eq e he] at this
  · have undefined : sizeDefined len = false := decide_eq_false (Nat.not_le.mpr wide)
    exact ⟨sizeInsn_free hr 32 _ d a undefined, sizeInsn_free hr 33 _ d a undefined⟩

/-- Settles O12: the checks of R112 and R113 under their premises, and the search of R103. -/
theorem sealingAndInvocation : Obligations.SealingAndInvocation := ⟨sealing, invocation, sizeAndMask⟩

end Sys2Proof.Machine

namespace Sys2Proof.Machine
open Sys2Proof Sys2Proof.Machine
set_option Elab.async false

/-! ## The accesses of a core (R109, R309 to R318, R370, R378) -/

/-! ### A fetch leaves the data TLB -/

/-- The first-level TLB of the data port of core n is the same. -/
def DataTlbKept (n : Nat) (s t : State) : Prop := (coreAt t n).dtlb = (coreAt s n).dtlb

theorem DataTlbKept.pre (n : Nat) : Pre (DataTlbKept n) := ⟨fun _ => rfl, fun _ _ _ h k => k.trans h⟩

theorem DataTlbKept.of_cores {n : Nat} {s t : State} (h : t.cores = s.cores) : DataTlbKept n s t := by
  unfold DataTlbKept coreAt
  rw [h]

theorem DataTlbKept.of_setCore {n : Nat} {s : State} {c : Core} (h : c.dtlb = (coreAt s n).dtlb) : DataTlbKept n s (setCore s n c) := by
  unfold DataTlbKept
  rw [coreAt_setCore_same, h]

/-- The fields that a read of memory, with its check, writes. -/
abbrev Area.ofRead : List Area := [.fresh, .eccWb, .regs, .evTick, .events, .heatCnt, .heatDue, .slots, .badPorts]

/-- What leaves every core block leaves its data TLB. -/
theorem Stays.keepsDataTlb {α : Type} {m : X α} (h : Stays Area.ofRead m) (n : Nat) :
    OkKeeps (DataTlbKept n) m := by
  intro s a t e
  have w := h.at_ s
  rw [e] at w
  exact .of_cores (w.cores)

theorem tableLoad_keepsDataTlb (n m va lvl a : Nat) : OkKeeps (DataTlbKept m) (tableLoad n va lvl a) :=
  Stays.keepsDataTlb (tableLoad_stays n va lvl a) m

theorem holdWalk_keepsDataTlb (n m va since e2a : Nat) : OkKeeps (DataTlbKept m) (holdWalk n va since e2a) := by
  unfold holdWalk
  have P := DataTlbKept.pre m
  refine .bind P (.get P) fun s => ?_
  split
  · exact .bind_throw fun _ => .fault _ _ _ _
  · exact .bind_throw fun _ => .throw _

theorem walkL2_keepsDataTlb (n m va e2a : Nat) {hold : X Xlat} (hh : OkKeeps (DataTlbKept m) hold) :
    OkKeeps (DataTlbKept m) (walkL2 n va e2a hold) := by
  have P := DataTlbKept.pre m
  unfold walkL2
  dsimp only
  repeat' first
    | exact hh
    | exact tableLoad_keepsDataTlb _ _ _ _ _
    | exact .fault _ _ _ _
    | exact .pure P _
    | refine .bind P ?_ fun _ => ?_
    | split

theorem walk_keepsDataTlb (n m ttb va : Nat) {hold : Nat → X Xlat} (hh : ∀ a, OkKeeps (DataTlbKept m) (hold a)) :
    OkKeeps (DataTlbKept m) (walk n ttb va hold) := by
  have P := DataTlbKept.pre m
  unfold walk
  dsimp only
  repeat' first
    | exact walkL2_keepsDataTlb _ _ _ _ (hh _)
    | exact tableLoad_keepsDataTlb _ _ _ _ _
    | exact .fault _ _ _ _
    | exact .pure P _
    | refine .bind P ?_ fun _ => ?_
    | split

theorem coreWalk_keepsDataTlb (n m va : Nat) : OkKeeps (DataTlbKept m) (coreWalk n va) := by
  have P := DataTlbKept.pre m
  have hold : ∀ since e2a, OkKeeps (DataTlbKept m) (holdWalk n va since e2a) := fun _ _ => holdWalk_keepsDataTlb _ _ _ _ _
  unfold coreWalk
  refine .bind P (.get P) fun s => ?_
  dsimp only
  split
  · split
    · split
      · exact walk_keepsDataTlb _ _ _ _ fun _ => hold _ _
      · split
        · exact walkL2_keepsDataTlb _ _ _ _ (hold _ _)
        · exact hold _ _
    · exact walk_keepsDataTlb _ _ _ _ fun _ => hold _ _
  · exact walk_keepsDataTlb _ _ _ _ fun _ => hold _ _

theorem lookup_fetch_keepsDataTlb (n va : Nat) : OkKeeps (DataTlbKept n) (lookup n va .fetch) := by
  have P := DataTlbKept.pre n
  unfold lookup
  refine .bind P (.get P) fun s => ?_
  dsimp only
  split
  · exact .pure P _
  · split
    · exact .bind P (.upd fun _ => .of_setCore rfl) fun _ => .pure P _
    · exact .bind P (coreWalk_keepsDataTlb _ _ _) fun _ => .bind P (.upd fun _ => .of_setCore rfl) fun _ => .pure P _

theorem resolve_fetch_keepsDataTlb (n h va priv : Nat) : OkKeeps (DataTlbKept n) (resolve n h va priv .fetch) := by
  have P := DataTlbKept.pre n
  unfold resolve translate
  dsimp only
  refine .bind P (.bind P (.get P) fun s => ?_) fun _ => .bind P (.get P) fun _ =>
    .bind P (Stays.keepsDataTlb (masterGate_stays ..) n) fun _ => .pure P _
  split
  · exact .pure P _
  · refine .bind P (lookup_fetch_keepsDataTlb _ _) fun _ => ?_
    split
    · exact .bind P (.fault _ _ _ _) fun _ => .pure P _
    · exact .pure P _

theorem awaitFetch_keepsDataTlb (n pa : Nat) (st : Stamp) : OkKeeps (DataTlbKept n) (awaitFetch n pa st) := by
  have P := DataTlbKept.pre n
  unfold awaitFetch
  exact .bind P (.get P) fun s => .ite (.ite (.upd fun _ => .of_setCore rfl) (.bind P (.upd fun _ => .of_setCore rfl) fun _ =>
    .throw _)) (.pure P _)

theorem demandFetch_keepsDataTlb (n h va priv : Nat) : OkKeeps (DataTlbKept n) (demandFetch n h va priv) := by
  have P := DataTlbKept.pre n
  unfold demandFetch
  exact .bind P (resolve_fetch_keepsDataTlb _ _ _ _) fun _ => .bind P (awaitFetch_keepsDataTlb _ _ _) fun _ =>
    .bind P (Stays.keepsDataTlb (fetchUnit_stays ..) n) fun _ => .pure P _

theorem DataTlbKept.discardPq (n h : Nat) (s : State) : DataTlbKept n s (discardPq s n h) := by
  unfold Machine.discardPq
  refine (DataTlbKept.pre n).trans _ (setCore s n { coreAt s n with pq := [], fetchStop := false }) _ (.of_setCore rfl) ?_
  exact .of_cores (perf_within (F := Area.ofRead) (.refl _) ..).cores

theorem fetchIssue_keepsDataTlb (n h : Nat) : OkKeeps (DataTlbKept n) (fetchIssue n h) := by
  have P := DataTlbKept.pre n
  have demand : ∀ va priv, OkKeeps (DataTlbKept n) (demandFetch n h va priv) := fun _ _ => demandFetch_keepsDataTlb _ _ _ _
  unfold fetchIssue
  refine .bind P (.get P) fun s => ?_
  dsimp only
  split
  · exact .fault _ _ _ _
  · split
    · split
      · refine .bind P (.upd fun _ => .of_setCore rfl) fun _ => ?_
        split
        · exact demand _ _
        · exact .pure P _
      · exact .bind P (.upd fun s => .discardPq n h s) fun _ => demand _ _
    · exact .bind P (.upd fun _ => .of_setCore rfl) fun _ => demand _ _

/-! ### Accesses that are granted -/

/-- The state in which a ready core executes: a completed fetch has passed, and the data TLB is as it was. -/
structure Fetched (n : Nat) (s t : State) : Prop where
  frame : FetchFrame n s t
  dtlb : DataTlbKept n s t

/-- An access of kind k of context h of core n at va, at a privilege, is granted at pa. -/
structure Reaches (s : State) (n h priv va : Nat) (k : Kind) (pa : Nat) : Prop where
  translates : Translates s n va k pa
  granted : Granted s n h priv pa k
  there : memReach s pa = .ok

theorem CanStore.reaches {s : State} {n h priv va : Nat} {k : Kind} {pa : Nat} (c : CanStore s n h priv va k pa) :
    Reaches s n h priv va k pa := ⟨c.1, c.2.1, c.2.2⟩

theorem CanLoad.reaches {s : State} {n h priv va : Nat} {k : Kind} {pa : Nat} (c : CanLoad s n h priv va k pa) :
    Reaches s n h priv va k pa := ⟨c.1, c.2.1, c.2.2.1⟩

/-- The access translates without a walk (R309, R313). -/
theorem Translates.run {s : State} {n va : Nat} {k : Kind} {pa : Nat} (h : Translates s n va k pa) :
    translate n va k s = .ok pa s := by
  refine (get_bind _ s).trans ?_
  rcases h with ⟨off, rfl⟩ | ⟨on, e, found, writable, rfl⟩
  · rw [off]
    rfl
  · rw [on]
    have looked : lookup n va k s = .ok { e := e, lvl := 0, ea := 0 } s := by
      refine (get_bind _ s).trans ?_
      dsimp only
      rw [found]
      rfl
    refine (bind_ok looked).trans ?_
    rw [if_neg (by simpa using writable)]
    rfl

/-- The gate of the master grants the access (R370). -/
theorem Granted.master {s : State} {n h priv pa : Nat} {k : Kind} (g : Granted s n h priv pa k) :
    masterGate n h (stampOf s n h priv) pa k s = .ok () s := by
  refine (get_bind _ s).trans ?_
  cases e : slotOf s pa with
  | none => rfl
  | some slot =>
    dsimp only
    by_cases c : masterChecks s pa = true
    · rw [if_pos c, g.1 slot e c]
      rfl
    · rw [if_neg c]
      rfl

/-- The gate of the target grants the access (R378, R380). -/
theorem Granted.target {s : State} {n h priv pa : Nat} {k : Kind} (g : Granted s n h priv pa k) :
    targetGate (stampOf s n h priv) pa k s = .ok () s := by
  refine (get_bind _ s).trans ?_
  rw [if_pos g.2]
  rfl

theorem Reaches.resolve {s : State} {n h priv va : Nat} {k : Kind} {pa : Nat} (r : Reaches s n h priv va k pa) :
    resolve n h va priv k s = .ok (pa, stampOf s n h priv) s := by
  refine (bind_ok r.translates.run).trans ((get_bind _ s).trans ?_)
  exact (bind_ok r.granted.master).trans rfl

/-- Memory is no register page, nor a page of another package (R57). -/
theorem memReach_ok_memory {s : State} {pa : Nat} (h : memReach s pa = .ok) : isPage pa = false ∧ remoteMember s pa = false := by
  have page : isPage pa = false := by
    unfold memReach unitReach at h
    unfold isPage
    rw [decide_eq_false_iff_not]
    intro e
    simp [e] at h
  exact ⟨page, by rw [remoteMember, page]; rfl⟩

/-! ### What the state after a fetch decides as the one before it -/

theorem corePg_lt {n : Nat} (hn : n < 128) : corePg n < pkgPg 0 := by
  unfold corePg regionPg pkgPg pageNo
  omega

theorem mgatePg_lt {b : Nat} (hb : b < 128) : mgatePg b < pkgPg 0 := by
  unfold mgatePg regionPg pkgPg pageNo
  omega

theorem empPage_of_lt {pg : Nat} (h : pg < pkgPg 32) : empPage pg = false := decide_eq_false (Nat.not_le.mpr h)

theorem mgatePg_ne_corePg (b n : Nat) : mgatePg b ≠ corePg n := by
  unfold mgatePg corePg regionPg pageNo
  omega

section
variable {n : Nat} {s t : State}

theorem Fetched.refl (n : Nat) (s : State) : Fetched n s s := ⟨.refl n s, rfl⟩

theorem Fetched.trans {u : State} (f : Fetched n s t) (g : Fetched n t u) : Fetched n s u :=
  ⟨f.frame.trans _ _ _ _ g.frame, g.dtlb.trans f.dtlb⟩

theorem Fetched.of_fetchIssue {h : Nat} (e : fetchIssue n h s = .ok () t) : Fetched n s t :=
  ⟨fetchIssue_keeps n h s () t e, fetchIssue_keepsDataTlb n h s () t e⟩

theorem Fetched.of_readFor (n : Nat) (s : State) (pa : Nat) : Fetched n s (readFor s (.data n) pa).2 :=
  ⟨.readFor n s _ pa (.inr rfl), .of_cores (readFor_within (F := Area.ofRead) (.refl s) ..).cores⟩

theorem FetchFrame.stampOf (f : FetchFrame n s t) (h priv : Nat) : stampOf t n h priv = stampOf s n h priv := by
  obtain ⟨_, _, _, _, _, _, _, block⟩ := f.block
  unfold Machine.stampOf
  rw [block]
  rfl

theorem FetchFrame.sb (f : FetchFrame n s t) : (coreAt t n).sb = (coreAt s n).sb := by
  obtain ⟨_, _, _, _, _, _, _, block⟩ := f.block
  rw [block]

/-- The registers that a fetch leaves. -/
theorem FetchFrame.sameRegs (f : FetchFrame n s t) : SameRegs s t n := fun pg off a b c _ => f.regs pg off a b c

theorem SameRest.mget (f : SameRest s t) (a : Nat) : mget t a = mget s a := by
  unfold Machine.mget
  rw [f]
  rfl

theorem SameRest.memReach (f : SameRest s t) (pa : Nat) : memReach t pa = memReach s pa := by
  rw [f]
  rfl

theorem SameRest.targetOf (f : SameRest s t) (pa : Nat) : targetOf t pa = targetOf s pa := by
  rw [f]
  rfl

theorem SameRest.slotOf (f : SameRest s t) (pa : Nat) : slotOf t pa = slotOf s pa := by
  rw [f]
  rfl

theorem SameRest.coreLive (f : SameRest s t) (m : Nat) : coreLive t m = coreLive s m := by
  rw [f]
  rfl

theorem SameRegs.gateMode (g : SameRegs s t n) (hn : n < 128) : gateMode t = gateMode s := by
  have other : pkgPg 0 ≠ corePg n := (corePg_lt hn).ne'
  unfold Machine.gateMode rfld
  rw [g _ _ (by decide) (fun h => other h.1) (by decide) (by decide)]

/-- The gate of a target of memory decides as before: its entries are not among the registers that a fetch moves. -/
theorem SameRest.targetOk (f : SameRest s t) (g : SameRegs s t n) (hn : n < 128) (st : Stamp) (pa : Nat) (k : Kind) (hp : isPage pa = false) :
    targetOk t st pa k = targetOk s st pa k := by
  unfold Machine.targetOk
  rw [f.targetOf, g.gateMode hn]
  cases e : Machine.targetOf s pa with
  | none => rfl
  | some p =>
    obtain ⟨pg, u⟩ := p
    have bank : ∃ b, b < 128 ∧ pg = mgatePg b := by
      have notPage : pa / 134217728 ≠ 1 := of_decide_eq_false hp
      unfold Machine.targetOf at e
      simp only [notPage, if_false] at e
      split at e
      · split at e
        · next hb =>
          cases e
          exact ⟨_, hb, rfl⟩
        · cases e
      · cases e
    obtain ⟨b, hb, rfl⟩ := bank
    have tokens : tokenEntry t = tokenEntry s := by
      rw [f]
      rfl
    have entries : ∀ i ∈ List.range 16, rget t (mgatePg b) (32 + i) = rget s (mgatePg b) (32 + i) := by
      intro i hi
      have := List.mem_range.mp hi
      refine g _ _ (by omega) (fun h => mgatePg_ne_corePg b n h.1) (empPage_of_lt ((mgatePg_lt hb).trans (by decide))) ?_
      have := (mgatePg_lt hb).trans (show pkgPg 0 < pkgPg 3 by decide)
      omega
    have checks : ∀ opened, targetCheck t (mgatePg b) u st k opened = targetCheck s (mgatePg b) u st k opened := by
      intro opened
      unfold targetCheck
      rw [Bool.eq_iff_iff, List.any_eq_true, List.any_eq_true]
      constructor
      · rintro ⟨i, hi, g⟩
        exact ⟨i, hi, by rwa [entries i hi] at g⟩
      · rintro ⟨i, hi, g⟩
        exact ⟨i, hi, by rwa [entries i hi]⟩
    dsimp only
    rw [checks, tokens]

theorem Fetched.translates (f : Fetched n s t) (hn : n < 128) {va : Nat} {k : Kind} {pa : Nat} (hk : k ≠ .fetch)
    (h : Translates s n va k pa) : Translates t n va k pa := by
  have on : rget t (corePg n) 176 = rget s (corePg n) 176 :=
    f.frame.regs _ _ (by decide) (by omega) (empPage_of_lt ((corePg_lt hn).trans (by decide)))
  have data : (coreAt t n).l1 k = (coreAt s n).l1 k := by
    have e := f.dtlb
    cases k
    case fetch => exact absurd rfl hk
    all_goals exact e
  unfold Translates
  rw [on, data]
  exact h

theorem Fetched.granted (f : Fetched n s t) (hn : n < 128) {h priv pa : Nat} {k : Kind} (hp : isPage pa = false)
    (g : Granted s n h priv pa k) : Granted t n h priv pa k := by
  have checks : masterChecks t pa = masterChecks s pa := by
    unfold masterChecks
    rw [SameRest.targetOf f.frame.rest, f.frame.sameRegs.gateMode hn]
  have set : (coreAt t n).set (ctxAt t n h).setB = (coreAt s n).set (ctxAt s n h).setB := by
    obtain ⟨_, _, _, _, _, _, _, block⟩ := f.frame.block
    rw [f.frame.ctx, block]
    rfl
  unfold Granted
  rw [SameRest.slotOf f.frame.rest, checks, set, f.frame.stampOf, SameRest.targetOk f.frame.rest f.frame.sameRegs hn _ _ _ hp]
  exact g

theorem Fetched.reaches (f : Fetched n s t) (hn : n < 128) {h priv va : Nat} {k : Kind} {pa : Nat} (hk : k ≠ .fetch)
    (r : Reaches s n h priv va k pa) : Reaches t n h priv va k pa :=
  ⟨f.translates hn hk r.translates, f.granted hn (memReach_ok_memory r.there).1 r.granted, (SameRest.memReach f.frame.rest pa).trans r.there⟩

end

end Sys2Proof.Machine

namespace Sys2Proof.Machine
open Sys2Proof Sys2Proof.Machine
set_option Elab.async false

/-! ## Stores (R109, R110, R184, R186, R187, R190, R242) -/

/-- What a ready core's instruction runs from: the state after its fetch, with the same context. -/
theorem Ready.fetches {s : State} {iss : Iss} {h : Nat} (hr : Ready s iss h) : ∃ s1,
    fetchIssue iss.core.toNat h (setCtx s iss.core.toNat h (ctxAt s iss.core.toNat h)) = .ok () s1 ∧
    Fetched iss.core.toNat (setCtx s iss.core.toNat h (ctxAt s iss.core.toNat h)) s1 ∧
    ctxAt s1 iss.core.toNat h = ctxAt s iss.core.toNat h := by
  obtain ⟨s1, e⟩ := hr.fetched
  have f := Fetched.of_fetchIssue e
  exact ⟨s1, e, f, fetched_ctx f.frame⟩

/-- A context put back where it was leaves what an access is judged by. -/
theorem Reaches.of_setCtx {s : State} {n h priv va : Nat} {k : Kind} {pa : Nat} (r : Reaches s n h priv va k pa) :
    Reaches (setCtx s n h (ctxAt s n h)) n h priv va k pa := by
  have core : coreAt (setCtx s n h (ctxAt s n h)) n = (coreAt s n).setCtx h (ctxAt s n h) := coreAt_setCtx_same ..
  have stamp : stampOf (setCtx s n h (ctxAt s n h)) n h priv = stampOf s n h priv := by
    have same : (coreAt (setCtx s n h (ctxAt s n h)) n).ctx h = ctxAt s n h := ctxAt_setCtx_same ..
    unfold stampOf
    dsimp only
    rw [same, core]
    rfl
  refine ⟨?_, ?_, r.there⟩
  · have t := r.translates
    unfold Translates at t ⊢
    rw [core]
    exact t
  · have g := r.granted
    unfold Granted at g ⊢
    rw [stamp, core, ctxAt_setCtx_same]
    exact g

/-- The access of a ready core's instruction, at the state after its fetch. -/
theorem Fetched.access {s s1 : State} {n h priv va : Nat} {k : Kind} {pa : Nat}
    (f : Fetched n (setCtx s n h (ctxAt s n h)) s1) (hn : n < 128) (hk : k ≠ .fetch) (r : Reaches s n h priv va k pa) :
    Reaches s1 n h priv va k pa := f.reaches hn hk r.of_setCtx

/-- Words that enter the store buffer are all that a body does. -/
theorem BodyFrame.buffer {n h : Nat} {s : State} {y : Ctx} (hy : ctxAt s n h = y) (es : List SbEntry) :
    BodyFrame n h s (setCore s n { coreAt s n with sb := (coreAt s n).sb ++ es }) y es := by
  have same : coreAt (setCore s n { coreAt s n with sb := (coreAt s n).sb ++ es }) n = { coreAt s n with sb := (coreAt s n).sb ++ es } :=
    coreAt_setCore_same ..
  have ctx : ∀ m k, ctxAt (setCore s n { coreAt s n with sb := (coreAt s n).sb ++ es }) m k = ctxAt s m k := by
    intro m k
    unfold ctxAt
    by_cases hm : m = n
    · rw [hm, same]
      rfl
    · rw [coreAt_setCore_other _ _ hm]
  exact ⟨(ctx n h).trans hy, fun m k _ => ctx m k, fun m hm => coreAt_setCore_other s _ hm, ⟨_, _, _, _, _, _, _, _, _, same⟩,
    fun _ _ _ _ _ => rfl, rfl⟩

theorem bufferStore_run (n : Nat) (s : State) (es : List SbEntry) (room : (coreAt s n).sb.length + es.length ≤ 4) :
    bufferStore n es s = .ok () (setCore s n { coreAt s n with sb := (coreAt s n).sb ++ es }) := by
  refine (get_bind _ s).trans ?_
  dsimp only
  rw [if_neg (Nat.not_lt.mpr room)]
  rfl

/-! ### The permissions that a store needs -/

/-- A store translates as a load does: the write protection aside (R309, R318). -/
theorem Translates.load {s : State} {n va : Nat} {k : Kind} {pa : Nat} (hk : k ≠ .fetch) (t : Translates s n va k pa) :
    Translates s n va .load pa := by
  rcases t with off | ⟨on, e, found, -, frame⟩
  · exact .inl off
  · refine .inr ⟨on, e, ?_, rfl, frame⟩
    cases k
    case fetch => exact absurd rfl hk
    all_goals exact found

theorem Translates.atProp {s : State} {n va : Nat} {pa : Nat} (t : Translates s n va .load pa) : atProp s n va = isProp pa := by
  unfold Machine.atProp
  rw [t.run]

theorem isProp_memory {pa : Nat} (h : isPage pa = false) : isProp pa = false := by
  unfold isProp
  rw [h]
  rfl

/-- A word of memory needs no Channel permission (R95). -/
theorem storePerms_word {s : State} {n va pa : Nat} {k : Kind} (hk : k ≠ .fetch) (t : Translates s n va k pa)
    (hp : isPage pa = false) : storePerms s n va 1 = [.store] := by
  unfold storePerms
  rw [(t.load hk).atProp, isProp_memory hp]
  rfl

/-- The next word of an even one is in the same page. -/
theorem Translates.next {s : State} {n va : Nat} {k : Kind} {pa : Nat} (even : va % 2 = 0) (t : Translates s n va k pa) :
    Translates s n (va + 1) k (pa + 1) := by
  rcases t with ⟨off, rfl⟩ | ⟨on, e, found, writable, rfl⟩
  · exact .inl ⟨off, rfl⟩
  · refine .inr ⟨on, e, ?_, writable, by omega⟩
    rwa [show (va + 1) / 1024 = va / 1024 by omega]

theorem Translates.even {s : State} {n va : Nat} {k : Kind} {pa : Nat} (even : va % 2 = 0) (t : Translates s n va k pa) :
    pa % 2 = 0 := by
  rcases t with ⟨-, rfl⟩ | ⟨-, e, -, -, rfl⟩ <;> omega

theorem isPage_next {pa : Nat} (even : pa % 2 = 0) : isPage (pa + 1) = isPage pa := by
  unfold isPage
  rw [show (pa + 1) / 134217728 = pa / 134217728 by omega]

/-- A pair of memory needs no Channel permission (R95). -/
theorem storePerms_pair {s : State} {n va pa : Nat} {k : Kind} (hk : k ≠ .fetch) (even : va % 2 = 0) (t : Translates s n va k pa)
    (hp : isPage pa = false) : storePerms s n va 2 = [.store] := by
  have next : isPage (pa + 1) = false := (isPage_next (t.even even)).trans hp
  unfold storePerms
  rw [(t.load hk).atProp, isProp_memory hp, show va + 2 - 1 = va + 1 by omega, ((t.next even).load hk).atProp, isProp_memory next]
  rfl

/-! ### Stores of a word -/

/-- A store of a part of a word, at a word of memory that it reaches, enters the buffer (R184, R190). -/
theorem storeBody_run {s : State} {n h a va pa : Nat} {disp : Int} {word : Bool} {val : Ctx → Word} {mask : Word}
    (hc : capCheck ((ctxAt s n h).cr a) (((ctxAt s n h).cr a).cursor + disp) 1 [.store] = .ok ())
    (hva : (va : Int) = ((ctxAt s n h).cr a).cursor + disp) (r : Reaches s n h (ctxAt s n h).priv va .store pa)
    (room : (coreAt s n).sb.length < 4) :
    let e := sbEntry s n h va pa (stampOf s n h (ctxAt s n h).priv) .store (val (ctxAt s n h)) mask false false
    storeBody a disp word val mask n h s = .ok .seq (setCore s n { coreAt s n with sb := (coreAt s n).sb ++ [e] }) := by
  intro e
  have page := (memReach_ok_memory r.there).1
  refine (get_bind _ s).trans ?_
  dsimp only
  rw [← hva, Int.toNat_natCast, storePerms_word (by decide) r.translates page, hva, hc]
  refine (bind_ok r.resolve).trans ?_
  dsimp only
  rw [page]
  refine (get_bind _ s).trans ?_
  have populated : ¬ memReach s pa = .unpopulated := by
    rw [r.there]
    decide
  rw [if_neg populated]
  exact (bind_ok (bufferStore_run n s [e] room)).trans rfl

theorem storeInsn_enters {s : State} {iss : Iss} {h : Nat} (hr : Ready s iss h) {major : Nat} {d : BitVec 5} {a : BitVec 4}
    {imm : Nat} {disp : Int} {word : Bool} {f : Word → Word} {mask data : Word} {va pa : Nat}
    (hc : let c := (ctxAt s iss.core.toNat h).cr a.toNat; capCheck c (c.cursor + disp) 1 [.store] = .ok ())
    (hva : (va : Int) = ((ctxAt s iss.core.toNat h).cr a.toNat).cursor + disp)
    (hs : CanStore s iss.core.toNat h (ctxAt s iss.core.toNat h).priv va .store pa)
    (room : (coreAt s iss.core.toNat).sb.length < 4)
    (hdata : f ((ctxAt s iss.core.toNat h).wr d.toNat) &&& mask = data &&& mask) :
    let x := ctxAt s iss.core.toNat h
    ∃ t e, issue s iss (storeInsn major iss d a imm disp word f mask) = .next t ∧
      Issued s t iss.core.toNat h { x with pcc := x.pcc.move (x.pcc.cursor + 1) } [e] ∧
      e.pa = pa ∧ e.va = va ∧ e.data &&& e.mask = data &&& mask ∧ e.mask = mask ∧ e.tag = false ∧ e.pair = false := by
  intro x
  obtain ⟨s1, fetched, f1, same⟩ := hr.fetches
  have reaches := f1.access iss.core.isLt (by decide) hs.reaches
  rw [← same] at hc hva reaches hdata
  have sb : (coreAt s1 iss.core.toNat).sb = (coreAt s iss.core.toNat).sb := by
    rw [f1.frame.sb, coreAt_setCtx_same]
    rfl
  have body := storeBody_run (word := word) (val := fun x => f (x.wr d.toNat)) (mask := mask) hc hva reaches (by rwa [sb])
  obtain ⟨t, run, issued⟩ := issue_ends_at (i := storeInsn major iss d a imm disp word f mask) hr (nx := .seq)
    (by decide) fetched rfl body (.buffer same _) fun _ => hr.whole
  exact ⟨t, _, run, issued, rfl, rfl, hdata, rfl, rfl, rfl⟩

/-! ### The parts of a word -/

theorem partMask_eq (wd k m : Nat) (h : m = 2 ^ wd - 1) (hw : 0 < wd) : partMask wd k = BitVec.ofNat 36 m <<< (wd * k) := by
  subst h
  unfold partMask fmask
  rw [show wd * k + wd - 1 + 1 - wd * k = wd by omega]
  apply BitVec.eq_of_toNat_eq
  rw [BitVec.toNat_shiftLeft, BitVec.toNat_ofNat, BitVec.toNat_ofNat, Nat.shiftLeft_eq, Nat.mod_mul_mod]

theorem ofNat_mul_pow (v k : Nat) : BitVec.ofNat 36 (v * 2 ^ k) = BitVec.ofNat 36 v <<< k := by
  apply BitVec.eq_of_toNat_eq
  rw [BitVec.toNat_shiftLeft, BitVec.toNat_ofNat, BitVec.toNat_ofNat, Nat.shiftLeft_eq, Nat.mod_mul_mod]

/-- The sum of some bits, modulo 2, is their parity. -/
theorem sum_parity (w : Word) (l : List Nat) (n : Nat) (p : Bool) (h : n % 2 = bnat p) :
    l.foldl (fun n i => n + w.toNat / 2 ^ i % 2) n % 2 = bnat (l.foldl (fun p i => p != w.getLsbD i) p) := by
  induction l generalizing n p with
  | nil => exact h
  | cons i r ih =>
    refine ih _ _ ?_
    have one : w.toNat / 2 ^ i % 2 = bnat (w.getLsbD i) := by
      rw [← BitVec.testBit_toNat, Nat.testBit_eq_decide_div_mod_eq]
      rcases Nat.mod_two_eq_zero_or_one (w.toNat / 2 ^ i) with e | e <;> rw [e] <;> rfl
    show (n + w.toNat / 2 ^ i % 2) % 2 = bnat (p != w.getLsbD i)
    rw [Nat.add_mod, h, one]
    generalize w.getLsbD i = b
    cases p <;> cases b <;> rfl

/-- The low octet of a word under the parity bit that makes a nonet of it (R89). -/
theorem packOctet_eq (w : Word) : BitVec.ofNat 36 (packOctet w.toNat) =
    ((BitVec.ofBool ((List.range 8).foldl (fun p i => p != w.getLsbD i) false) ++ w.extractLsb' 0 8 : BitVec 9).setWidth 36) := by
  have parity : octParity w.toNat = bnat ((List.range 8).foldl (fun p i => p != w.getLsbD i) false) :=
    sum_parity w _ 0 false rfl
  apply BitVec.eq_of_toNat_eq
  rw [BitVec.toNat_setWidth, BitVec.toNat_append, Nat.shiftLeft_eq, Nat.mul_comm, ← Nat.two_pow_add_eq_or_of_lt (BitVec.isLt _),
    BitVec.toNat_ofNat, packOctet, parity, BitVec.extractLsb'_toNat, Nat.shiftRight_zero, Nat.add_comm]
  generalize (List.range 8).foldl (fun p i => p != w.getLsbD i) false = p
  cases p <;> rfl

theorem storesEnterTheBuffer : Rule.StoresEnterTheBuffer := by
  intro s iss h d a d16 d15 d14 half nonet va pa hr n x c w up parity octet enters addressed room
  have enter : ∀ {major imm disp word f m1 data m2}, addressed disp → m1 = m2 → f w = data →
      ∃ t e, issue s iss (storeInsn major iss d a imm disp word f m1) = .next t ∧
        Issued s t n h { x with pcc := x.pcc.move (x.pcc.cursor + 1) } [e] ∧
        e.pa = pa ∧ e.va = va ∧ e.data &&& e.mask = data &&& m2 ∧ e.mask = m2 ∧ e.tag = false ∧ e.pair = false := by
    rintro _ _ _ _ _ _ _ _ ⟨hc, hva, hs⟩ rfl rfl
    exact storeInsn_enters hr hc hva hs room rfl
  have upward : up = 18 * bnat half := by cases half <;> rfl
  refine ⟨fun h => enter h rfl rfl, fun h => enter h ?_ ?_, fun h => enter h ?_ ?_, fun h => enter h ?_ ?_⟩
  · rw [upward]
    exact partMask_eq 18 (bnat half) 0x3ffff (by decide) (by decide)
  · rw [upward]
    exact (ofNat_mul_pow ..).trans (by rw [BitVec.ofNat_toNat, BitVec.setWidth_eq])
  · exact partMask_eq 9 nonet.toNat 0x1ff (by decide) (by decide)
  · exact (ofNat_mul_pow ..).trans (by rw [BitVec.ofNat_toNat, BitVec.setWidth_eq])
  · exact partMask_eq 9 nonet.toNat 0x1ff (by decide) (by decide)
  · exact (ofNat_mul_pow ..).trans (by rw [packOctet_eq])

/-! ### Stores of a pair -/

/-- While no sweep runs, the filter leaves a tag as it is (R132). -/
theorem filterTag_idle {s : State} (h : filtering s = false) (g : Nat) (c : Cap) : filterTag s g c = (c.tag, s) := by
  unfold filterTag
  rw [h, Bool.and_false]
  rfl

theorem FetchFrame.filtering {n : Nat} {s t : State} (f : FetchFrame n s t) : filtering t = filtering s := by
  rw [f.rest]
  rfl

/-- A store of a pair, at words of memory that it reaches, while no sweep runs (R110, R187). -/
theorem cstBody_run {s : State} {n h d a va pa : Nat} {disp : Int}
    (hc : capCheck ((ctxAt s n h).cr a) (((ctxAt s n h).cr a).cursor + disp) 2 [.store] = .ok ())
    (hva : (va : Int) = ((ctxAt s n h).cr a).cursor + disp) (even : va % 2 = 0)
    (r : Reaches s n h (ctxAt s n h).priv va .capStore pa)
    (storeCap : ((ctxAt s n h).cr d).tag = true → ((ctxAt s n h).cr a).has .storeCap = true)
    (storeLocal : ((ctxAt s n h).cr d).tag = true → ((ctxAt s n h).cr d).has .glob = false → ((ctxAt s n h).cr a).has .storeLocal = true)
    (idle : filtering s = false) (room : (coreAt s n).sb.length < 3) :
    let st := stampOf s n h (ctxAt s n h).priv
    let v := (ctxAt s n h).cr d
    let es := [sbEntry s n h va pa st .capStore v.hi (~~~0) v.tag true,
      sbEntry s n h (va + 1) (pa + 1) st .capStore v.lo (~~~0) v.tag false]
    cstBody d a disp n h s = .ok .seq (setCore s n { coreAt s n with sb := (coreAt s n).sb ++ es }) := by
  intro st v es
  have page := (memReach_ok_memory r.there).1
  refine (get_bind _ s).trans ?_
  dsimp only
  rw [← hva, Int.toNat_natCast, storePerms_pair (by decide) even r.translates page, hva, hc]
  have authority : ¬ (((ctxAt s n h).cr d).tag = true ∧ ((ctxAt s n h).cr a).has .storeCap = false) := fun e => by
    simp [storeCap e.1] at e
  have locals : ¬ (((ctxAt s n h).cr d).tag = true ∧ ((ctxAt s n h).cr d).has .glob = false ∧
      ((ctxAt s n h).cr a).has .storeLocal = false) := fun e => by
    simp [storeLocal e.1 e.2.1] at e
  rw [if_neg (by omega), if_neg authority, if_neg locals]
  refine (bind_ok r.resolve).trans ?_
  dsimp only
  rw [page]
  refine (get_bind _ s).trans ?_
  have populated : ¬ memReach s pa = .unpopulated := by
    rw [r.there]
    decide
  rw [if_neg populated]
  refine (act_bind _ _ s).trans ?_
  rw [filterTag_idle idle]
  refine (get_bind _ s).trans ?_
  exact (bind_ok (bufferStore_run n s es (Nat.succ_le_succ room))).trans rfl

theorem capabilityStores : Rule.CapabilityStores := by
  intro s iss h d a disp va pa hr n x c v hc hva even hs storeCap storeLocal idle room
  obtain ⟨s1, fetched, f1, same⟩ := hr.fetches
  have reaches := f1.access iss.core.isLt (by decide) hs.reaches
  have sb : (coreAt s1 n).sb = (coreAt s n).sb := by
    rw [f1.frame.sb, coreAt_setCtx_same]
    rfl
  have words : v = (ctxAt s1 n h).cr d.toNat := by rw [same]
  have auth : c = (ctxAt s1 n h).cr a.toNat := by rw [same]
  rw [words] at storeCap storeLocal
  rw [auth] at hc hva storeCap storeLocal
  rw [show x = ctxAt s1 n h from same.symm] at reaches
  have body := cstBody_run hc hva even reaches storeCap storeLocal (f1.frame.filtering.trans idle) (by rwa [sb])
  let i : Insn :=
    { raw := encI iss 29 d.toNat a.toNat disp.toNat, kind := 0, dec := decNone, brCost := 0
      body := cstBody d.toNat a.toNat (simm disp) }
  obtain ⟨t, run, issued⟩ := issue_ends_at (i := i) hr (nx := .seq) (by decide) fetched rfl body (.buffer same _) fun _ => hr.whole
  rw [words]
  exact ⟨t, _, _, run, issued, rfl, rfl, rfl, rfl, rfl, rfl, rfl, rfl, rfl⟩

/-! ### The acknowledgement of a buffered word (R242, R248) -/

theorem rget_perf_other (s : State) {n h off k pg o : Nat} (ho : o < 512) (hoff : off < 512) (hne : ¬ (pg = corePg n ∧ o = off)) :
    rget (perf s n h off k) pg o = rget s pg o := by
  unfold perf
  dsimp only
  split
  · rfl
  · exact rget_rset_other _ _ (by omega)

/-- A granted access of the data port moves PC_MEMSTALL of its core alone. -/
theorem rget_noteAccess_data (s : State) {n a k pg off : Nat} (ho : off < 512) (hne : ¬ (pg = corePg n ∧ off = 69)) :
    rget (noteAccess s (.data n) a k) pg off = rget s pg off := by
  have heat : ∀ u d c, rget (noteHeat u d a c) pg off = rget u pg off := by
    intro u d c
    unfold rget
    rw [(noteHeat_within (F := [.heatCnt, .heatDue]) (.refl u) ..).regs]
  unfold noteAccess
  rw [heat]
  split
  · exact rget_perf_other s ho (by decide) hne
  · rfl

theorem rget_eccCorrected (s : State) {a pg off : Nat} (ho : off < 512) (hp : empPage pg = false) :
    rget (eccCorrected s a) pg off = rget s pg off := by
  unfold eccCorrected
  cases e : empPgOf a with
  | none => rfl
  | some q =>
    have other : pg ≠ q := by
      rintro rfl
      rw [empPgOf_emp a pg e] at hp
      cases hp
    unfold rinc
    dsimp only
    rw [rget_rset_other _ _ (by omega), rget_rset_other _ _ (by omega)]

/-- A word that the store buffer sends to an unmarked page of memory. -/
theorem storeWord_effect (s : State) (n : Nat) (e : SbEntry) (plain : marked s e.pa = false) :
    let t := storeWord s n e
    t.cores = s.cores ∧
    t.mem = (mset s e.pa { data := ((mget s e.pa).data &&& ~~~e.mask) ||| (e.data &&& e.mask), tag := e.tag, ecc := .good }).mem ∧
    ∀ pg off, off < 512 → ¬ (pg = corePg n ∧ off = 69) → empPage pg = false → rget t pg off = rget s pg off := by
  intro t
  let s1 := noteAccess s (.data n) e.pa (writeSlots s e.pa)
  let s2 := if e.mask ≠ ~~~0 ∧ (mget s e.pa).ecc = .single then eccCorrected s1 e.pa else s1
  have w1 : Within Area.ofRead s s1 := noteAccess_within (.refl s) ..
  have w2 : Within Area.ofRead s s2 := .ite (eccCorrected_within w1 ..) w1
  have old : mget s2 e.pa = mget s e.pa := by
    unfold mget
    rw [w2.mem]
  have plain2 : marked s2 e.pa = false := by
    unfold marked
    rw [w2.marks]
    exact plain
  have regs : ∀ pg off, off < 512 → ¬ (pg = corePg n ∧ off = 69) → empPage pg = false → rget s2 pg off = rget s pg off := by
    intro pg off ho hne hp
    have first := rget_noteAccess_data s (a := e.pa) (k := writeSlots s e.pa) ho hne
    show rget (if _ then _ else _) pg off = _
    split
    · exact (rget_eccCorrected s1 ho hp).trans first
    · exact first
  have written : t = mset { s2 with eccWb := s2.eccWb.filter (fun b => b != e.pa) } e.pa
      { data := ((mget s e.pa).data &&& ~~~e.mask) ||| (e.data &&& e.mask), tag := e.tag, ecc := .good } := by
    show memWrite s2 e.pa e.data e.mask e.tag = _
    unfold memWrite
    rw [old]
    dsimp only
    rw [if_neg (ne_true_of_eq_false plain2)]
  rw [written]
  refine ⟨w2.cores, ?_, fun pg off ho hne hp => regs pg off ho hne hp⟩
  unfold mset
  dsimp only
  rw [w2.mem]

theorem storesReachMemory : Rule.StoresReachMemory := by
  intro s core e rest n live buffer single reach gate granted whole plain
  let s1 := setCore s n { coreAt s n with sb := rest }
  have isolated : isolatedRegion s (n / 4) = false := by
    unfold coreLive at live
    simpa using (Bool.and_eq_true_iff.mp live).2
  have performed : exec (.storeAck ⟨core, false⟩) s = .next (storeWord s1 n e) := by
    show done (if coreLive s n = false ∨ storeHeldBack s n = true then s else drainOne (storeArrives s n false) n) = _
    rw [if_neg (by simp [live, granted])]
    unfold storeArrives drainOne
    dsimp only
    rw [buffer]
    dsimp only
    rw [show sbUnit e rest = ([], rest) from if_neg (by simp [single])]
    have here : isolatedRegion s1 (n / 4) = false := isolated
    have there : memReach s1 e.pa = .ok := reach
    have target : targetOk s1 e.stamp e.pa e.kind = true := gate
    have readable : ¬ (e.mask ≠ ~~~0 ∧ (mget s1 e.pa).ecc = .double) := fun h => whole.elim h.1 (absurd h.2)
    show done (performStore s1 n e []) = _
    unfold performStore
    rw [here, there, target, if_neg readable]
    rfl
  obtain ⟨cores, mem, regs⟩ := storeWord_effect s1 n e plain
  have word : ∀ p, mget (storeWord s1 n e) p =
      mget (mset s1 e.pa { data := ((mget s e.pa).data &&& ~~~e.mask) ||| (e.data &&& e.mask), tag := e.tag, ecc := .good }) p := by
    intro p
    unfold mget
    rw [mem]
    rfl
  have ctx : ∀ m k, ctxAt (storeWord s1 n e) m k = ctxAt s m k := by
    intro m k
    unfold ctxAt coreAt
    rw [cores]
    by_cases hm : m = n
    · rw [hm]
      show (coreAt s1 n).ctx k = _
      rw [show coreAt s1 n = { coreAt s n with sb := rest } from coreAt_setCore_same ..]
      rfl
    · exact congrArg (fun c : Core => c.ctx k) (coreAt_setCore_other s _ hm)
  refine ⟨_, performed, ?_, ?_, fun p hp => ?_, fun pg off ho hne => ?_, ctx⟩
  · unfold coreAt
    rw [cores]
    exact congrArg Core.sb (coreAt_setCore_same s n _)
  · rw [word, mget_mset_same]
  · rw [word, mget_mset_other _ _ hp]
    rfl
  · obtain ⟨notStall, notPort⟩ := not_or.mp hne
    exact regs pg off ho notStall (eq_false_of_ne_true notPort)

/-- Settles O13: a store enters the buffer as its body says, and its acknowledgement is one write of memory. -/
theorem stores : Obligations.Stores := ⟨storesEnterTheBuffer, capabilityStores, storesReachMemory⟩

end Sys2Proof.Machine

namespace Sys2Proof.Machine
open Sys2Proof Sys2Proof.Machine
set_option Elab.async false

/-! ## Loads (R109, R110, R183 to R190, R214, R223) -/

/-! ### A word as the core sees it -/

/-- Buffered bits over a word: where the buffer holds more bits, the words below it agree in more. -/
theorem sbMerge_agree (sb : List SbEntry) (pa : Nat) (m : Word) (v w : Word × Bool) (bits : v.1 &&& m = w.1 &&& m)
    (tag : m ≠ 0 → v.2 = w.2) :
    (sbMerge sb pa v).1 &&& sb.foldl (fun m e => if e.pa = pa then m ||| e.mask else m) m =
      (sbMerge sb pa w).1 &&& sb.foldl (fun m e => if e.pa = pa then m ||| e.mask else m) m ∧
    (sb.foldl (fun m e => if e.pa = pa then m ||| e.mask else m) m ≠ 0 → (sbMerge sb pa v).2 = (sbMerge sb pa w).2) := by
  unfold sbMerge
  induction sb generalizing m v w with
  | nil => exact ⟨bits, tag⟩
  | cons e r ih =>
    simp only [List.foldl_cons]
    by_cases hit : e.pa = pa
    · simp only [hit, if_true]
      refine ih _ _ _ ?_ fun _ => rfl
      ext i hi
      have b := congrArg (fun u : Word => u.getLsbD i) bits
      simp only [BitVec.getLsbD_and] at b
      simp only [← BitVec.getLsbD_eq_getElem, BitVec.getLsbD_and, BitVec.getLsbD_or, BitVec.getLsbD_not, hi, decide_true, Bool.true_and]
      revert b
      cases v.1.getLsbD i <;> cases w.1.getLsbD i <;> cases m.getLsbD i <;> cases e.mask.getLsbD i <;> cases e.data.getLsbD i <;> simp
    · simp only [hit, if_false]
      exact ih _ _ _ bits tag

/-- A word that the buffer holds whole does not depend on the one below it (R190). -/
theorem sbMerge_whole {sb : List SbEntry} {pa : Nat} (h : sbMask sb pa = ~~~0) (v w : Word × Bool) : sbMerge sb pa v = sbMerge sb pa w := by
  obtain ⟨bits, tag⟩ := sbMerge_agree sb pa 0 v w (by simp) (fun h => absurd rfl h)
  rw [show sb.foldl (fun m e => if e.pa = pa then m ||| e.mask else m) 0 = ~~~0 from h] at bits tag
  have all : ∀ u : Word, u &&& ~~~0 = u := fun u => BitVec.and_allOnes
  rw [all, all] at bits
  exact Prod.ext bits (tag (by decide))

/-- A read of a word whose ECC is good or corrects (R26, R28). -/
theorem memRead_some (s : State) (a : Nat) (h : (mget s a).ecc ≠ .double) : (memRead s a).1 = some ((mget s a).data, (mget s a).tag) := by
  unfold memRead
  dsimp only
  cases e : (mget s a).ecc
  case double => exact absurd e h
  all_goals rfl

/-- A load's view of a word that it reaches: the stored word under the core's own buffered stores (R189, R190). -/
theorem seenLoad_run {s : State} {n pa : Nat} {st : Stamp} {k : Kind} (va : Nat) (there : memReach s pa = .ok)
    (gate : targetOk s st pa k = true) (ecc : (mget s pa).ecc ≠ .double) :
    ∃ t, seenLoad n va pa st k s = .ok (seenWord s n pa) t ∧ Fetched n s t := by
  by_cases whole : sbMask (coreAt s n).sb pa = ~~~0
  · refine ⟨s, ?_, .refl n s⟩
    refine (get_bind _ s).trans ?_
    rw [if_pos whole, sbMerge_whole whole]
    rfl
  · have read : readFor s (.data n) pa = (some ((mget s pa).data, (mget s pa).tag), (readFor s (.data n) pa).2) := by
      refine Prod.ext ?_ rfl
      have same : mget (noteAccess s (.data n) pa 1) pa = mget s pa := by
        unfold mget
        rw [(noteAccess_within (F := Area.ofRead) (.refl s) ..).mem]
      show (memRead (noteAccess s (.data n) pa 1) pa).1 = _
      rw [memRead_some _ _ (by rw [same]; exact ecc), same]
    have load : memLoad n va pa st k s = .ok ((mget s pa).data, (mget s pa).tag) (readFor s (.data n) pa).2 := by
      refine (get_bind _ s).trans ?_
      rw [there]
      have pass : targetGate st pa k s = .ok () s := by
        refine (get_bind _ s).trans ?_
        rw [if_pos gate]
        rfl
      refine (bind_ok pass).trans ((act_bind _ _ s).trans ?_)
      rw [read]
      rfl
    refine ⟨_, ?_, .of_readFor n s pa⟩
    refine (get_bind _ s).trans ?_
    rw [if_neg whole]
    exact (bind_ok load).trans rfl

/-! ### The parts of a word (R184, R185) -/

theorem part_eq (w : Word) (wd k : Nat) (hw : 0 < wd) : part w wd k = (w.extractLsb' (wd * k) wd).toNat := by
  rw [part, fld, show wd * k + wd - 1 + 1 - wd * k = wd by omega, BitVec.extractLsb'_toNat]

theorem ofNat_part (w : Word) (wd k : Nat) (hw : 0 < wd) : BitVec.ofNat 36 (part w wd k) = (w.extractLsb' (wd * k) wd).setWidth 36 := by
  rw [part_eq w wd k hw, BitVec.ofNat_toNat]

theorem octParity_eq {m : Nat} (v : BitVec m) (hm : m ≤ 36) :
    octParity v.toNat = bnat ((List.range 8).foldl (fun p i => p != v.getLsbD i) false) := by
  have h := sum_parity (v.setWidth 36) (List.range 8) 0 false rfl
  rw [BitVec.toNat_setWidth_of_le hm] at h
  rw [octParity, h]
  simp only [BitVec.getLsbD_setWidth]
  congr 1

/-- A nonet whose parity bit fits is good (R89). -/
theorem octetGood_of_parity (v : BitVec 9) (h : v.getLsbD 8 = (List.range 8).foldl (fun p i => p != v.getLsbD i) false) :
    octetGood v.toNat = true := by
  unfold octetGood
  rw [octParity_eq v (by decide), ← h, decide_eq_true_eq, ← BitVec.testBit_toNat, Nat.testBit_eq_decide_div_mod_eq]
  rcases Nat.mod_two_eq_zero_or_one (v.toNat / 2 ^ 8) with e | e
  · rw [show 256 = 2 ^ 8 from rfl, e]
    rfl
  · rw [show 256 = 2 ^ 8 from rfl, e]
    rfl

/-! ### The body of a load -/

/-- What stage M keeps of a load at physical address pa. -/
def loadOf (s : State) (n h p sel : Nat) (isCap : Bool) (dst : Ctx → Nat) (auth : Ctx → Cap) (va pa : Nat) : MLoad :=
  let x := ctxAt s n h
  { isCap := isCap, reg := dst x, part := p, sel := sel, pa := pa, va := va, keepTag := (auth x).has .loadCap
    stamp := stampOf s n h x.priv, inProof := s.safety == .proof, remote := false, store := none, probe := false, since := coreNow s }

/-- The context after the data of a load: at once, or on its way in Proof (R214). -/
def Ctx.loaded (x : Ctx) (m : MLoad) (v : Cap) : Ctx :=
  if m.inProof then { x with proofLoad := some { isCap := m.isCap, reg := m.reg, val := v } }
  else if m.isCap then x.cphysSet m.reg v
  else x.wphysSet m.reg v.lo

section
variable {s : State} {n h p sel va pa : Nat} {isCap : Bool} {dst : Ctx → Nat} {auth : Ctx → Cap} {reg : Nat} {disp : Int}

/-- A load whose checks pass goes on with its data, or with stage M. -/
theorem loadBody_checked
    (hc : capCheck (auth (ctxAt s n h)) ((auth (ctxAt s n h)).cursor + disp) (if p = 6 then 2 else 1) [.load] = .ok ())
    (hva : (va : Int) = (auth (ctxAt s n h)).cursor + disp) (even : p = 6 → va % 2 = 0)
    (r : Reaches s n h (ctxAt s n h).priv va (if p = 6 then .capLoad else .load) pa) :
    let m := loadOf s n h p sel isCap dst auth va pa
    loadBody p sel isCap dst auth reg disp n h s =
      (if loadsAtOnce s n m then (do
          let v ← loadFrom n m
          landValue n h m v
          return .seq)
        else (do
          upd (fun s => setCore s n { coreAt s n with mstage := some m })
          return .hold) : X Next) s := by
  intro m
  have near : remoteMember s pa = false := (memReach_ok_memory r.there).2
  have aligned : ¬ (p = 6 ∧ va % 2 = 1) := fun e => by have := even e.1; omega
  refine (get_bind _ s).trans ?_
  dsimp only
  rw [← hva, Int.toNat_natCast, hva, hc]
  dsimp only
  rw [if_neg aligned]
  refine (bind_ok r.resolve).trans ((get_bind _ s).trans ?_)
  dsimp only
  rw [near, if_neg (fun e => Bool.false_ne_true e.1)]
  rfl

/-- A load of a word that is neither in the own bank nor in the store buffer waits in stage M (R223). -/
theorem loadBody_waits
    (hc : capCheck (auth (ctxAt s n h)) ((auth (ctxAt s n h)).cursor + disp) 1 [.load] = .ok ())
    (hva : (va : Int) = (auth (ctxAt s n h)).cursor + disp) (r : Reaches s n h (ctxAt s n h).priv va .load pa)
    (far : pa / 65536 ≠ n) (empty : (coreAt s n).sb = []) :
    loadBody 0 sel isCap dst auth reg disp n h s =
      .ok .hold (setCore s n { coreAt s n with mstage := some (loadOf s n h 0 sel isCap dst auth va pa) }) := by
  have waits : loadsAtOnce s n (loadOf s n h 0 sel isCap dst auth va pa) = false := by
    have populated : memReach s pa ≠ .unpopulated := by
      rw [r.there]
      decide
    show (!isPage pa && (decide (pa / 65536 = n) || decide (memReach s pa = .unpopulated) ||
      (decide (sbMask (coreAt s n).sb pa = ~~~0) && _))) = false
    rw [empty, show sbMask [] pa = 0 from rfl, decide_eq_false far, decide_eq_false populated,
      decide_eq_false (show ¬ (0 : Word) = ~~~0 by decide)]
    simp
  refine (loadBody_checked (p := 0) hc hva (fun e => absurd e (by decide)) r).trans ?_
  rw [if_neg (ne_true_of_eq_false waits)]
  rfl

theorem landValue_run (m : MLoad) (v : Cap) : landValue n h m v s = .ok () (setCtx s n h ((ctxAt s n h).loaded m v)) := rfl

@[simp] theorem wphysSet_rsmKind (x : Ctx) (k : Nat) (v : Word) : (x.wphysSet k v).rsmKind = x.rsmKind := by
  unfold Ctx.wphysSet
  split <;> rfl

@[simp] theorem cphysSet_rsmKind (x : Ctx) (k : Nat) (v : Cap) : (x.cphysSet k v).rsmKind = x.rsmKind := by
  unfold Ctx.cphysSet
  split <;> rfl

theorem loaded_rsmKind (x : Ctx) (m : MLoad) (v : Cap) : (x.loaded m v).rsmKind = x.rsmKind := by
  unfold Ctx.loaded
  split
  · rfl
  · split
    · exact cphysSet_rsmKind ..
    · exact wphysSet_rsmKind ..

/-- The data of a load of a word, or of a part of it, that the core reaches. -/
theorem loadFrom_word {m : MLoad} (word : m.part ≠ 6) (there : memReach s m.pa = .ok) (gate : targetOk s m.stamp m.pa .load = true)
    (ecc : (mget s m.pa).ecc ≠ .double)
    (good : m.part = 5 → octetGood (Machine.part (seenWord s n m.pa).1 9 m.sel) = true) :
    ∃ t, loadFrom n m s = .ok { hi := 0, lo := loadValue m.part m.sel (seenWord s n m.pa).1, tag := false } t ∧ Fetched n s t := by
  obtain ⟨t, seen, f⟩ := seenLoad_run (n := n) (k := .load) m.va there gate ecc
  refine ⟨t, ?_, f⟩
  unfold loadFrom
  rw [if_neg word, (memReach_ok_memory there).1]
  refine (bind_ok seen).trans ?_
  dsimp only
  rw [if_neg fun e => by rw [good e.1] at e; exact Bool.noConfusion e.2]
  rfl

/-- The data of a load of a pair that the core reaches, while no sweep runs (R110). -/
theorem loadFrom_pair {m : MLoad} (pair : m.part = 6) (there : memReach s m.pa = .ok) (next : memReach s (m.pa + 1) = .ok)
    (hn : n < 128) (gate : targetOk s m.stamp m.pa .capLoad = true) (gateNext : targetOk s m.stamp (m.pa + 1) .capLoad = true)
    (ecc : (mget s m.pa).ecc ≠ .double) (eccNext : (mget s (m.pa + 1)).ecc ≠ .double) (idle : filtering s = false) :
    let hi := seenWord s n m.pa
    let lo := seenWord s n (m.pa + 1)
    ∃ t, loadFrom n m s = .ok { hi := hi.1, lo := lo.1, tag := hi.2 && lo.2 && m.keepTag } t ∧ Fetched n s t := by
  intro hi lo
  obtain ⟨t, seen, f⟩ := seenLoad_run (n := n) (k := .capLoad) m.va there gate ecc
  have rest : SameRest s t := f.frame.rest
  have nextSeen : seenWord t n (m.pa + 1) = lo := by
    show sbMerge (coreAt t n).sb _ _ = _
    rw [f.frame.sb, rest.mget]
    rfl
  obtain ⟨u, seen2, g⟩ := seenLoad_run (s := t) (n := n) (k := .capLoad) (m.va + 1) ((rest.memReach _).trans next)
    ((rest.targetOk f.frame.sameRegs hn _ _ _ (memReach_ok_memory next).1).trans gateNext) (by rw [rest.mget]; exact eccNext)
  refine ⟨u, ?_, f.trans g⟩
  unfold loadFrom
  rw [if_pos pair, (memReach_ok_memory there).1]
  refine (bind_ok seen).trans ((bind_ok seen2).trans ?_)
  rw [nextSeen]
  refine (act_bind _ _ u).trans ?_
  rw [filterTag_idle ((f.trans g).frame.filtering.trans idle)]
  rfl

end

/-- A load of a ready core from its own bank, whose data is v: the register receives it, in Proof after the next instruction. -/
theorem Ready.lands {s : State} {iss : Iss} {h : Nat} (hr : Ready s iss h) {i : Insn} {p sel va pa : Nat} {isCap : Bool}
    {dst : Ctx → Nat} {auth : Ctx → Cap} {reg : Nat} {disp : Int} (hdec : i.dec = decNone)
    (hbody : i.body = loadBody p sel isCap dst auth reg disp) {v : Cap}
    (hc : let c := auth (ctxAt s iss.core.toNat h); capCheck c (c.cursor + disp) (if p = 6 then 2 else 1) [.load] = .ok ())
    (hva : (va : Int) = (auth (ctxAt s iss.core.toNat h)).cursor + disp) (even : p = 6 → va % 2 = 0)
    (r : Reaches s iss.core.toNat h (ctxAt s iss.core.toNat h).priv va (if p = 6 then .capLoad else .load) pa)
    (own : pa / 65536 = iss.core.toNat)
    (hload : ∀ s1, Fetched iss.core.toNat (setCtx s iss.core.toNat h (ctxAt s iss.core.toNat h)) s1 →
      ctxAt s1 iss.core.toNat h = ctxAt s iss.core.toNat h →
      Reaches s1 iss.core.toNat h (ctxAt s1 iss.core.toNat h).priv va (if p = 6 then .capLoad else .load) pa →
      ∃ t, loadFrom iss.core.toNat (loadOf s1 iss.core.toNat h p sel isCap dst auth va pa) s1 = .ok v t ∧
        Fetched iss.core.toNat s1 t) :
    let x := ctxAt s iss.core.toNat h
    ∃ t, issue s iss i = .next t ∧ Ran s t iss.core.toNat h
      (if s.safety = .proof then { x with proofLoad := some { isCap := isCap, reg := dst x, val := v } }
       else if isCap then x.cphysSet (dst x) v else x.wphysSet (dst x) v.lo) := by
  intro x
  obtain ⟨s1, fetched, f1, same⟩ := hr.fetches
  have notFetch : (if p = 6 then Kind.capLoad else Kind.load) ≠ .fetch := by split <;> decide
  have reaches := f1.access iss.core.isLt notFetch r
  rw [← same] at hc hva reaches
  obtain ⟨t, loaded, f2⟩ := hload s1 f1 same reaches
  have once : loadsAtOnce s1 iss.core.toNat (loadOf s1 iss.core.toNat h p sel isCap dst auth va pa) = true := by
    show (!isPage pa && (decide (pa / 65536 = iss.core.toNat) || _ || _)) = true
    rw [(memReach_ok_memory reaches.there).1, own]
    simp
  have body : i.body iss.core.toNat h s1 = .ok .seq (setCtx t iss.core.toNat h
      ((ctxAt t iss.core.toNat h).loaded (loadOf s1 iss.core.toNat h p sel isCap dst auth va pa) v)) := by
    rw [hbody, loadBody_checked hc hva even reaches, if_pos once]
    exact (bind_ok loaded).trans rfl
  have safety : s1.safety = s.safety := by
    rw [f1.frame.rest]
    rfl
  have ctx : (ctxAt t iss.core.toNat h).loaded (loadOf s1 iss.core.toNat h p sel isCap dst auth va pa) v =
      if s.safety = .proof then { x with proofLoad := some { isCap := isCap, reg := dst x, val := v } }
      else if isCap then x.cphysSet (dst x) v else x.wphysSet (dst x) v.lo := by
    unfold Ctx.loaded loadOf
    dsimp only
    rw [f2.frame.ctx, same, safety]
    by_cases e : s.safety = .proof
    · rw [e, if_pos rfl]
      rfl
    · rw [if_neg (by simpa using e), if_neg e]
  rw [← ctx]
  obtain ⟨u, run, issued⟩ := issue_ends_at hr (nx := .seq) (by decide) fetched (by rw [hdec]; rfl) body
    ((BodyFrame.of_fetch f2.frame).thenCtx _) fun _ => by
      rw [loaded_rsmKind, f2.frame.ctx, same]
      exact hr.whole
  exact ⟨u, run, issued⟩

/-- What the buffer and memory show of a word is the same after a fetch. -/
theorem seenWord_fetched {s s1 : State} {n h : Nat} (f : Fetched n (setCtx s n h (ctxAt s n h)) s1) (pa : Nat) :
    seenWord s1 n pa = seenWord s n pa := by
  have sb : (coreAt s1 n).sb = (coreAt s n).sb := by
    rw [f.frame.sb, coreAt_setCtx_same]
    rfl
  unfold seenWord
  rw [sb, SameRest.mget f.frame.rest]
  rfl

theorem loadsFromOwnBank : Rule.LoadsFromOwnBank := by
  intro s iss h d a d16 d15 d14 half nonet va pa hr n x w h18 n9 lands gives addressed
  have load : ∀ (p sel : Nat) (auth : Ctx → Cap) {i : Insn} {reg : Nat} {disp : Int} {v : Word}, addressed (auth x) disp →
      i.dec = decNone → i.body = loadBody p sel false (fun x => x.wIdx d.toNat) auth reg disp → p < 6 →
      (p = 5 → octetGood (part w 9 sel) = true) → loadValue p sel w = v → ∃ t, issue s iss i = .next t ∧ Ran s t n h (lands v) := by
    rintro p sel auth i reg disp v ⟨hc, hva, hs, own⟩ hdec hbody word good rfl
    have single : ¬ p = 6 := by omega
    have reached := hs.reaches
    obtain ⟨-, -, -, ecc⟩ := hs
    refine hr.lands hdec hbody (v := { hi := 0, lo := loadValue p sel w, tag := false }) ?_ hva (fun e => absurd e single) ?_ own
      fun s1 f same reaches => ?_
    · rw [if_neg single]
      exact hc
    · rw [if_neg single]
      exact reached
    · rw [if_neg single] at reaches
      have seen : seenWord s1 n pa = seenWord s n pa := seenWord_fetched f pa
      have := loadFrom_word (s := s1) (n := n) (m := loadOf s1 n h p sel false (fun x => x.wIdx d.toNat) auth va pa) single
        reaches.there reaches.granted.2 (by rw [SameRest.mget f.frame.rest]; exact ecc) (by
          intro e
          rw [show (loadOf s1 n h p sel false _ auth va pa).pa = pa from rfl, seen]
          exact good e)
      rw [show (loadOf s1 n h p sel false _ auth va pa).pa = pa from rfl, seen] at this
      exact this
  have half18 : part w 18 (bnat half) = h18.toNat := by
    rw [part_eq w 18 _ (by decide)]
    cases half <;> rfl
  have nonet9 : part w 9 nonet.toNat = n9.toNat := part_eq w 9 _ (by decide)
  let own : Ctx → Cap := fun x => x.cr a.toNat
  refine ⟨fun h => load 0 0 own h rfl rfl (by decide) (fun e => absurd e (by decide)) rfl,
    fun h => load 1 (bnat half) own h rfl rfl (by decide) (fun e => absurd e (by decide)) ?_,
    fun h => load 2 (bnat half) own h rfl rfl (by decide) (fun e => absurd e (by decide)) ?_,
    fun h => load 3 nonet.toNat own h rfl rfl (by decide) (fun e => absurd e (by decide)) ?_,
    fun h => load 4 nonet.toNat own h rfl rfl (by decide) (fun e => absurd e (by decide)) ?_,
    fun h parity => load 5 nonet.toNat own h rfl rfl (by decide) (fun _ => ?_) ?_,
    fun h => load 0 0 Ctx.pcc h rfl rfl (by decide) (fun e => absurd e (by decide)) rfl⟩
  · show BitVec.ofNat 36 (part w 18 (bnat half)) = _
    rw [half18, BitVec.ofNat_toNat]
  · show sxpart 18 (part w 18 (bnat half)) = _
    rw [half18, sxpart_eq]
  · show BitVec.ofNat 36 (part w 9 nonet.toNat) = _
    rw [nonet9, BitVec.ofNat_toNat]
  · show sxpart 9 (part w 9 nonet.toNat) = _
    rw [nonet9, sxpart_eq]
  · rw [nonet9]
    exact octetGood_of_parity n9 parity
  · show BitVec.ofNat 36 (part w 9 nonet.toNat % 256) = _
    rw [nonet9]
    apply BitVec.eq_of_toNat_eq
    rw [BitVec.toNat_ofNat, BitVec.toNat_setWidth, BitVec.toNat_setWidth]

theorem memReach_next {s : State} {pa : Nat} (even : pa % 2 = 0) (bank : pa / 65536 < 128) : memReach s (pa + 1) = memReach s pa := by
  unfold memReach unitReach inBanks
  rw [show (pa + 1) / 134217728 = pa / 134217728 by omega, show (pa + 1) / 1048576 = pa / 1048576 by omega,
    show (pa + 1) / 262144 = pa / 262144 by omega, show (pa + 1) / 65536 = pa / 65536 by omega,
    show pa / 134217728 = 0 by omega]
  rfl

theorem capabilityLoads : Rule.CapabilityLoads := by
  intro s iss h d a disp va pa hr n x c hi lo v hc hva even hs grantedNext eccNext own idle
  obtain ⟨translates, granted, there, ecc⟩ := hs
  have hn : n < 128 := iss.core.isLt
  have aligned := translates.even even
  have next : memReach s (pa + 1) = .ok := (memReach_next aligned (own.trans_lt hn)).trans there
  let i : Insn :=
    { raw := encI iss 28 d.toNat a.toNat disp.toNat, kind := 0, dec := decNone, brCost := 0
      body := loadBody 6 0 true (fun x => x.cIdx d.toNat) (fun x => x.cr a.toNat) a.toNat (simm disp) }
  suffices hload : ∀ s1, Fetched n (setCtx s n h (ctxAt s n h)) s1 → ctxAt s1 n h = ctxAt s n h →
      Reaches s1 n h (ctxAt s1 n h).priv va .capLoad pa →
      ∃ t, loadFrom n (loadOf s1 n h 6 0 true (fun x => x.cIdx d.toNat) (fun x => x.cr a.toNat) va pa) s1 = .ok v t ∧ Fetched n s1 t by
    obtain ⟨t, run, ran⟩ := hr.lands (i := i) (p := 6) (pa := pa) (v := v) rfl rfl hc hva (fun _ => even)
      ⟨translates, granted, there⟩ own hload
    exact ⟨t, run, ran⟩
  intro s1 f same reaches
  have rest : SameRest (setCtx s n h (ctxAt s n h)) s1 := f.frame.rest
  have gateNext : targetOk s1 (stampOf s1 n h (ctxAt s1 n h).priv) (pa + 1) .capLoad = true := by
    have g := f.granted hn (memReach_ok_memory next).1 (Reaches.granted (Reaches.of_setCtx ⟨translates.next even, grantedNext, next⟩))
    rw [same]
    exact g.2
  have := loadFrom_pair (s := s1) (n := n) (m := loadOf s1 n h 6 0 true (fun x => x.cIdx d.toNat) (fun x => x.cr a.toNat) va pa) rfl
    reaches.there ((rest.memReach _).trans next) hn reaches.granted.2 gateNext (by rw [rest.mget]; exact ecc)
    (by rw [rest.mget]; exact eccNext) (f.frame.filtering.trans idle)
  dsimp only [loadOf] at this ⊢
  rw [seenWord_fetched f, seenWord_fetched f, same] at this
  rw [same]
  exact this

/-! ### A load on its way in Proof (R214, R215) -/

theorem filter_kput {α : Type} (m : KMap α) (k : Nat) (v : α) : kerase (kput m k v) k = kerase m k := by
  unfold kerase
  induction m with
  | nil => simp [kput]
  | cons e r ih =>
    unfold kput
    split
    · simp
    · simp only [List.filter_cons, ih]

theorem kset_kset {α : Type} [DecidableEq α] (d : Nat → α) (m : KMap α) (k : Nat) (v w : α) : kset d (kset d m k v) k w = kset d m k w := by
  have erased : kerase (kset d m k v) k = kerase m k := by
    unfold kset
    split
    · unfold kerase
      rw [List.filter_filter]
      simp
    · rw [filter_kput]
      unfold kerase
      rw [List.filter_filter]
      simp
  rw [kset, erased, kset]

theorem setCore_setCore (s : State) (n : Nat) (c d : Core) : setCore (setCore s n c) n d = setCore s n d := by
  unfold setCore
  rw [kset_kset]

theorem setCtx_setCtx (s : State) (n h : Nat) (x y : Ctx) : setCtx (setCtx s n h x) n h y = setCtx s n h y := by
  rw [setCtx, coreAt_setCtx_same]
  unfold setCtx
  rw [setCore_setCore]
  unfold Core.setCtx
  rw [kset_kset]

/-- The context y that an instruction leaves, where a load on its way lands after it: the instruction's own write of the register
stands (R214, R215). -/
def Ctx.landing (old y : Ctx) (raw : Word) (p : ProofLoad) : Ctx :=
  if (writesOf old (y.begun .seq) raw).contains (p.isCap, p.reg) then y
  else if p.isCap then y.cphysSet p.reg p.val else y.wphysSet p.reg p.val.lo

theorem landing_rsmKind (old y : Ctx) (raw : Word) (p : ProofLoad) : (old.landing y raw p).rsmKind = y.rsmKind := by
  unfold Ctx.landing
  split
  · rfl
  · split
    · exact cphysSet_rsmKind ..
    · exact wphysSet_rsmKind ..

theorem afterIssue_lands (s : State) (n h : Nat) (i : Insn) (iss : Iss) (old : Ctx) (p : ProofLoad) (hp : old.proofLoad = some p) :
    afterIssue s n h i iss old true .seq =
      afterIssue (setCtx s n h (old.landing (ctxAt s n h) i.raw p)) n h i iss { old with proofLoad := none } true .seq := by
  unfold afterIssue
  rw [hp]
  dsimp only
  rw [ctxAt_setCtx_same, setCtx_setCtx]
  rfl

section
variable (s : State) (n h : Nat)

/-- The load on its way in a context taken away. -/
def unloaded : State := setCtx s n h { ctxAt s n h with proofLoad := none }

theorem ctxAt_unloaded (k : Nat) : ctxAt (unloaded s n h) n k = ctxAt s n k ∨ ctxAt (unloaded s n h) n k = { ctxAt s n k with proofLoad := none } := by
  by_cases hk : k = h
  · subst hk
    exact .inr (ctxAt_setCtx_same ..)
  · exact .inl (ctxAt_setCtx_other _ _ fun e => hk e.2)

theorem coreAt_unloaded : coreAt (unloaded s n h) n = (coreAt s n).setCtx h { ctxAt s n h with proofLoad := none } := coreAt_setCtx_same ..

/-- The load on its way has no part in the selection of a context (R261). -/
theorem selected_unloaded : selected (unloaded s n h) n = selected s n := by
  have each : ∀ k, (ctxAt (unloaded s n h) n k).selectable = (ctxAt s n k).selectable ∧
      (ctxAt (unloaded s n h) n k).mlv = (ctxAt s n k).mlv := by
    intro k
    rcases ctxAt_unloaded s n h k with e | e <;> rw [e] <;> exact ⟨rfl, rfl⟩
  unfold selected selectWith
  congr 2
  apply List.filterMap_congr
  intro k _
  dsimp only
  rw [(each k).1, (each k).2]
  rfl

theorem issuer_unloaded : issuer (unloaded s n h) n = issuer s n := by
  have division : (ctxAt (unloaded s n h) n (coreAt s n).cur).div = (ctxAt s n (coreAt s n).cur).div := by
    rcases ctxAt_unloaded s n h (coreAt s n).cur with e | e <;> rw [e]
  have cur : (coreAt (unloaded s n h) n).cur = (coreAt s n).cur := by
    rw [coreAt_unloaded]
    rfl
  have issues : coreIssues (unloaded s n h) n = coreIssues s n := by
    unfold coreIssues
    rw [cur, division, coreAt_unloaded]
    rfl
  unfold issuer
  rw [issues, selected_unloaded, cur]

end

/-- What an issue leaves is the same from a state whose context is put anew. -/
theorem Issued.of_setCtx {s t : State} {n h : Nat} {x y : Ctx} {es : List SbEntry} (i : Issued (setCtx s n h x) t n h y es) :
    Issued s t n h y es := by
  refine ⟨i.ctx, fun m k hne => (i.contexts m k hne).trans (ctxAt_setCtx_other s x hne),
    fun m hm => (i.blocks m hm).trans (coreAt_setCtx_other s h x hm), ?_, i.regs, i.rest⟩
  obtain ⟨_, _, _, _, _, _, _, _, _, e⟩ := i.block
  rw [coreAt_setCtx_same] at e
  exact ⟨_, _, _, _, _, _, _, _, _, e⟩

theorem fld_encR_d (i : Iss) (major d a b fn : Nat) (h : d < 32) : fld (encR i major d a b fn) 25 21 = d := by
  apply Nat.eq_of_testBit_eq
  intro j
  unfold encR encHead
  rw [testBit_fld]
  simp only [BitVec.getLsbD_or, getLsbD_fval]
  by_cases hj : j < 5
  · simp [hj, show ¬ 33 ≤ 21 + j by omega, show ¬ 32 ≤ 21 + j by omega, show ¬ 26 ≤ 21 + j by omega, show 21 + j < 36 by omega,
      show 21 + j ≤ 25 by omega, show ¬ 21 + j ≤ 20 by omega, show ¬ 21 + j ≤ 15 by omega, show ¬ 21 + j ≤ 10 by omega]
  · have : d.testBit j = false :=
      Nat.testBit_lt_two_pow (h.trans_le (Nat.pow_le_pow_right (show 0 < 2 by decide) (Nat.not_lt.mp hj : 5 ≤ j)))
    simp [hj, this]

/-- A two-operand instruction writes the one register it names (Table 4.9). -/
theorem writesOf_regOp (x new : Ctx) (i : Iss) (d a b : BitVec 5) (fn : Nat) :
    writesOf x new (encR i 0 d.toNat a.toNat b.toNat fn) = [(false, x.wIdx d.toNat)] := by
  unfold writesOf
  dsimp only
  rw [majorOf_encR _ _ _ _ _ _ (by decide), fld_encR_d _ _ _ _ _ _ d.isLt]
  rfl

/-- An instruction of registers alone, with a load on its way: it reads the registers as they were, and the load lands after it. -/
theorem regInsn_lands {s : State} {iss : Iss} {h : Nat} {p : ProofLoad} (raw : Word) (f : Ctx → Ctx)
    (hr : Ready (unloaded s iss.core.toNat h) iss h) (onWay : (ctxAt s iss.core.toNat h).proofLoad = some p)
    (hk : (f { ctxAt s iss.core.toNat h with proofLoad := none }).rsmKind = (ctxAt s iss.core.toNat h).rsmKind) :
    ∃ t, issue s iss (regInsn raw f) = .next t ∧
      Ran s t iss.core.toNat h
        ((ctxAt s iss.core.toNat h).landing (f { ctxAt s iss.core.toNat h with proofLoad := none }) raw p) := by
  obtain ⟨n, hn⟩ : ∃ n, n = iss.core.toNat := ⟨_, rfl⟩
  obtain ⟨x0, hx0⟩ : ∃ x0 : Ctx, x0 = { ctxAt s iss.core.toNat h with proofLoad := none } := ⟨_, rfl⟩
  obtain ⟨y, hy⟩ : ∃ y, y = f x0 := ⟨_, rfl⟩
  have own : ctxAt (unloaded s n h) n h = x0 := by
    rw [hx0, ← hn]
    exact ctxAt_setCtx_same ..
  have again : setCtx (unloaded s n h) n h x0 = setCtx s n h x0 := setCtx_setCtx ..
  obtain ⟨s1, fetched, f1, same⟩ := hr.fetches
  have kind := hr.whole
  have guard := hr.guard
  have issues := (issuer_unloaded s n h).symm.trans (hn ▸ hr.issues)
  have boundary := hr.boundary
  rw [← hn] at fetched f1 same kind guard boundary onWay hk hx0 ⊢
  rw [← hx0, ← hy] at hk ⊢
  rw [own] at fetched f1 same kind guard boundary
  have whole : y.rsmKind = 0 := by
    rw [hk, ← kind, hx0]
    rfl
  have here : (ctxAt s n h).lates = [] ∨ (ctxAt s n h).fresh = true := by
    rw [hx0] at boundary
    exact boundary
  obtain ⟨atIt, notBlocked⟩ := issuer_boundary s n h issues here
  have live := coreIssues_live s n h issues
  have body : (regInsn raw f).body n h s1 = .ok .seq (setCtx s1 n h y) := by
    refine (upd_bind _ _ s1).trans ?_
    rw [same, ← hy]
    rfl
  have ran : issueX n h iss (regInsn raw f) (setCtx s n h x0) = .ok (true, .seq) (setCtx s1 n h y) :=
    issueX_of_body (again ▸ fetched) same kind guard rfl body
  have gone : coreGone (setCtx s1 n h y) n = false := by
    rw [(BodyFrame.setCtx s1 n h y).coreGone, (BodyFrame.of_fetch (h := h) f1.frame).coreGone]
    exact coreGone_false s n live.1
  have idle : (coreAt (setCtx s1 n h y) n).mstage = none := by
    obtain ⟨_, _, _, _, _, _, _, block⟩ := f1.frame.block
    rw [(BodyFrame.setCtx s1 n h y).mstage, block, again, coreAt_setCtx_same]
    exact live.2.2
  have run := issue_of_run hn atIt notBlocked live.2.2 (hx0 ▸ ran) gone
  rw [keepUndo_none _ _ _ idle, afterIssue_lands _ n h _ iss _ _ onWay, ctxAt_setCtx_same, setCtx_setCtx, ← hx0] at run
  obtain ⟨z, hz⟩ : ∃ z, z = (ctxAt s n h).landing y raw p := ⟨_, rfl⟩
  rw [show (regInsn raw f).raw = raw from rfl, ← hz] at run
  rw [← hz]
  obtain ⟨u, after, ended⟩ := afterIssue_ended (setCtx s1 n h z) n h (regInsn raw f) iss x0 true .seq (by decide) (hx0 ▸ rfl) fun _ => by
    rw [ctxAt_setCtx_same, hz, landing_rsmKind]
    exact whole
  rw [ctxAt_setCtx_same] at after
  rw [ended] at run
  have frame : FetchFrame n (setCtx (unloaded s n h) n h (ctxAt (unloaded s n h) n h)) s1 := own.symm ▸ f1.frame
  obtain ⟨plain, signalled⟩ := issued_of_body (s := unloaded s n h) _ frame (.setCtx s1 n h z) after
  refine ⟨_, run, Issued.of_setCtx (x := { ctxAt s n h with proofLoad := none }) ?_⟩
  split
  · exact signalled
  · exact plain

theorem proofLoadsLandOneLater : Rule.ProofLoadsLandOneLater := by
  intro s iss h d a b r v n x x0 hr onWay
  let y := x0.setW d.toNat (x0.wr a.toNat ||| x0.wr b.toNat)
  let p : ProofLoad := { isCap := false, reg := r, val := v }
  let raw := encR iss 0 d.toNat a.toNat b.toNat 9
  have landing : x.landing y raw p = if x0.wIdx d.toNat = r then y else y.wphysSet r v.lo := by
    unfold Ctx.landing
    rw [writesOf_regOp]
    by_cases e : x.wIdx d.toNat = r
    · rw [if_pos (by simp [e, p])]
      exact (if_pos e).symm
    · rw [if_neg (by simpa [p] using fun c => e c.symm)]
      exact (if_neg e).symm
  obtain ⟨t, run, ran⟩ := regInsn_lands raw (fun x => x.setW d.toNat (x.wr a.toNat ||| x.wr b.toNat)) hr onWay (setW_rsmKind ..)
  refine ⟨t, run, ?_⟩
  dsimp only
  rw [← landing]
  exact ran

/-! ### A load that holds stage M (R223) -/

/-- The context that R261 selects is one of the four. -/
theorem selected_lt {s : State} {n h : Nat} (hs : selected s n = some h) : h < 4 := by
  unfold selected selectWith bestOf at hs
  split at hs
  · cases hs
  · next a r e =>
    have m := foldl_better_mem r a
    rw [← e, List.mem_filterMap] at m
    obtain ⟨k, hk, found⟩ := m
    have hlt := List.mem_range.mp hk
    have : (r.foldl better a).2.2 = k := by
      dsimp only at found
      split at found
      · rw [← Option.some.inj found]
      · cases found
    rw [← Option.some.inj hs]
    exact this.trans_lt hlt

theorem issuer_lt {s : State} {n h : Nat} (hi : issuer s n = some h) : h < 4 := by
  unfold issuer at hi
  split at hi
  · next c =>
    rw [← Option.some.inj hi]
    exact selected_lt c.2
  · cases hi

/-- What a retry behind a store keeps is one field of the core block (R244). -/
theorem keepUndo_frame (s : State) (n : Nat) (old : Ctx) :
    SameRest s (keepUndo s n old) ∧ (keepUndo s n old).regs = s.regs ∧
    ∃ o, coreAt (keepUndo s n old) n = { coreAt s n with undo := o } := by
  unfold keepUndo
  dsimp only
  split
  · exact ⟨rfl, rfl, _, coreAt_setCore_same ..⟩
  · exact ⟨rfl, rfl, _, rfl⟩

theorem sameRegs_of_regs {s t : State} (n : Nat) (h : t.regs = s.regs) : SameRegs s t n := by
  intro pg off _ _ _ _
  unfold rget
  rw [h]

theorem SameRegs.trans {s t u : State} {n : Nat} (f : SameRegs s t n) (g : SameRegs t u n) : SameRegs s u n :=
  fun pg off a b c d => (g pg off a b c d).trans (f pg off a b c d)

theorem SameRegs.irqPend (s : State) (n : Nat) : SameRegs s (irqPend s (pkgPg 3) 1) n := by
  intro pg off ho _ _ hne
  unfold Machine.irqPend
  dsimp only
  rw [rget_rset_other _ _ fun e => hne (by omega)]
  rfl

/-- The state after the issue of an instruction that has left an access in stage M and holds. -/
structure Held (s t : State) (n h : Nat) (m : MLoad) : Prop where
  rest : SameRest s t
  regs : SameRegs s t n
  stage : (coreAt t n).mstage = some m
  sb : (coreAt t n).sb = (coreAt s n).sb
  ctx : ∃ l, ctxAt t n h = { ctxAt s n h with fresh := false, stepping := false, lastLoad := l, barrier := none }

/-- An instruction that leaves an access in stage M holds its context at the instruction. -/
theorem issue_holds {s s1 : State} {iss : Iss} {h : Nat} {i : Insn} {m : MLoad} (hr : Ready s iss h)
    (fetched : fetchIssue iss.core.toNat h (setCtx s iss.core.toNat h (ctxAt s iss.core.toNat h)) = .ok () s1)
    (hdec : i.dec s1 iss.core.toNat h = none)
    (body : i.body iss.core.toNat h s1 = .ok .hold (setCore s1 iss.core.toNat { coreAt s1 iss.core.toNat with mstage := some m })) :
    ∃ t, issue s iss i = .next t ∧ Held s t iss.core.toNat h m := by
  obtain ⟨n, hn⟩ : ∃ n, n = iss.core.toNat := ⟨_, rfl⟩
  have issues := hr.issues
  have live := coreIssues_live s _ h hr.issues
  have issued := fun gone => issue_body_kept hr fetched hdec body (by decide) gone (by simp)
  rw [← hn] at fetched body live issued ⊢
  have f := fetchIssue_keeps _ h _ _ _ fetched
  obtain ⟨_, _, _, _, _, _, _, block⟩ := f.block
  rw [coreAt_setCtx_same] at block
  have same : ctxAt s1 n h = ctxAt s n h := fetched_ctx f
  let s2 := setCore s1 n { coreAt s1 n with mstage := some m }
  have here : coreAt s2 n = { coreAt s1 n with mstage := some m } := coreAt_setCore_same ..
  have gone : coreGone s2 n = false :=
    (show coreGone s2 n = coreGone s1 n from rfl).trans ((BodyFrame.of_fetch (h := h) f).coreGone.trans (coreGone_false s n live.1))
  obtain ⟨u, after, run⟩ := issued gone
  obtain ⟨restK, regsK, o, coreK⟩ := keepUndo_frame s2 n (ctxAt s n h)
  have ctxK : ctxAt (keepUndo s2 n (ctxAt s n h)) n h = ctxAt s n h := by
    show (coreAt (keepUndo s2 n (ctxAt s n h)) n).ctx h = _
    rw [coreK, here]
    exact same
  rw [ctxK] at after
  obtain ⟨_, _, _, _, _, _, _, blockU⟩ := after.block
  rw [coreAt_landed, coreK, here, block] at blockU
  have rest : SameRest s u := ((SameRest.setCtx s n h _).trans f.rest).trans ((show SameRest s1 s2 from rfl).trans (restK.trans
    ((show SameRest _ (landed _ n h _) from rfl).trans after.rest)))
  have regs : SameRegs s u n := (sameRegs_of_regs (t := setCtx s n h (ctxAt s n h)) n rfl).trans (f.sameRegs.trans
    ((sameRegs_of_regs (t := s2) n rfl).trans ((sameRegs_of_regs n regsK).trans ((sameRegs_of_regs n rfl).trans after.sameRegs))))
  have ctx : ctxAt u n h = { ctxAt s n h with
      fresh := false, stepping := false, lastLoad := loadDst (ctxAt s n h) i.raw, barrier := none } := by
    rw [after.ctx, ctxAt_landed, ctxAt_setCtx_same]
    rfl
  have stage : (coreAt u n).mstage = some m := by rw [blockU]; rfl
  have sb : (coreAt u n).sb = (coreAt s n).sb := by rw [blockU]; rfl
  refine ⟨_, run, ?_⟩
  split
  · exact ⟨rest.trans rfl, regs.trans (.irqPend u n), stage, sb, _, ctx⟩
  · exact ⟨rest, regs, stage, sb, _, ctx⟩

/-- The data of a load in stage M returns: it lands, and the context goes on at the next word (R223). -/
theorem loadDataReturn_run {t u : State} {core : BitVec 7} {m : MLoad} {answer : RemoteAnswer} {v : Cap}
    (live : coreLive t core.toNat = true) (stage : (coreAt t core.toNat).mstage = some m) (probe : m.probe = false)
    (near : m.remote = false) (load : m.store = none) (good : answer ≠ .parity) (granted : loadHeldBack t core.toNat m = false)
    (hload : loadFrom core.toNat m (setCore t core.toNat { coreAt t core.toNat with mstage := none, undo := none, stall := none }) =
      .ok v u) :
    exec (.loadDataReturn core answer) t = .next (setCtx (setCtx u core.toNat m.stamp.ctx.toNat
      ((ctxAt u core.toNat m.stamp.ctx.toNat).loaded m v)) core.toNat m.stamp.ctx.toNat
      ((ctxAt u core.toNat m.stamp.ctx.toNat).loaded m v).advance) := by
  have body : returnBody core.toNat m.stamp.ctx.toNat m answer
      (setCore t core.toNat { coreAt t core.toNat with mstage := none, undo := none, stall := none }) =
      .ok () (setCtx (setCtx u core.toNat m.stamp.ctx.toNat ((ctxAt u core.toNat m.stamp.ctx.toNat).loaded m v)) core.toNat
        m.stamp.ctx.toNat ((ctxAt u core.toNat m.stamp.ctx.toNat).loaded m v).advance) := by
    unfold returnBody
    rw [near, load]
    refine (bind_ok hload).trans ((upd_bind _ _ u).trans ?_)
    show EStateM.Result.ok () (setCtx (setCtx u _ _ _) _ _ (ctxAt (setCtx u _ _ _) _ _).advance) = _
    rw [ctxAt_setCtx_same]
    rfl
  show execLoadDataReturn core answer t = _
  unfold execLoadDataReturn
  dsimp only
  rw [live, stage]
  dsimp only
  rw [granted, if_neg Bool.false_ne_true, if_neg fun e => good e.1]
  unfold returnLoad
  dsimp only
  rw [probe, if_neg Bool.false_ne_true, body]
  rfl

/-- A register written in a context that was held, and the next word (R219, R223). -/
theorem advance_held (x : Ctx) (k : Nat) (v : Word) (l : Option (Bool × Nat)) (whole : x.rsmKind = 0) :
    (({ x with fresh := false, stepping := false, lastLoad := l, barrier := none } : Ctx).wphysSet k v).advance =
      { x.wphysSet k v with
        pcc := x.pcc.move (x.pcc.cursor + 1), fresh := false, stepping := false, lastLoad := l, barrier := none } := by
  have rsm : setFld x.rsm0 35 33 0 = x.rsm0 := setFld_self _ _ _ _ whole
  unfold Ctx.advance Ctx.wphysSet
  split
  · exact congrArg (fun w => { x with
      pcc := x.pcc.move (x.pcc.cursor + 1), fresh := false, stepping := false, lastLoad := l, barrier := none, rsm0 := w }) rsm
  · exact congrArg (fun w => { x with
      w := kset (fun _ => 0) x.w k v, pcc := x.pcc.move (x.pcc.cursor + 1), fresh := false, stepping := false, lastLoad := l
      barrier := none, rsm0 := w }) rsm

theorem loadsHoldStageM : Rule.LoadsHoldStageM := by
  intro s iss h d a disp va pa hr n x c hc hva hs far empty run
  obtain ⟨s1, fetched, f1, same⟩ := hr.fetches
  have hn : n < 128 := iss.core.isLt
  have reaches : Reaches s1 n h (ctxAt s1 n h).priv va .load pa := same ▸ f1.access hn (by decide) hs.reaches
  have rest1 : SameRest s s1 := (SameRest.setCtx s n h _).trans f1.frame.rest
  have regs1 : SameRegs s s1 n := (sameRegs_of_regs (t := setCtx s n h (ctxAt s n h)) n rfl).trans f1.frame.sameRegs
  have buffer : (coreAt s1 n).sb = [] := by
    rw [f1.frame.sb, coreAt_setCtx_same]
    exact empty
  have body := loadBody_waits (sel := 0) (isCap := false) (dst := fun x => x.wIdx d.toNat) (auth := fun x => x.cr a.toNat)
    (reg := a.toNat) (disp := simm disp) (by rw [same]; exact hc) (by rw [same]; exact hva) reaches far buffer
  obtain ⟨m, hm⟩ : ∃ m, m = loadOf s1 n h 0 0 false (fun x => x.wIdx d.toNat) (fun x => x.cr a.toNat) va pa := ⟨_, rfl⟩
  rw [← hm] at body
  obtain ⟨t, issued, held⟩ := issue_holds (i := loadInsn 16 0 0 iss d a disp.toNat (simm disp)) hr fetched rfl body
  obtain ⟨l, ctx⟩ := held.ctx
  refine ⟨t, m, issued, held.stage, ?_, ⟨l, ctx⟩, by rw [hm]; rfl, by rw [hm]; rfl, fun answer good granted => ?_⟩
  · rw [held.rest]
    rfl
  let t1 := setCore t n { coreAt t n with mstage := none, undo := none, stall := none }
  have restT : SameRest s t1 := held.rest.trans rfl
  have regsT : SameRegs s t1 n := held.regs.trans (sameRegs_of_regs n rfl)
  have there : memReach t1 pa = .ok := (restT.memReach pa).trans hs.reaches.there
  have page := (memReach_ok_memory there).1
  have gate : targetOk t1 m.stamp pa .load = true := by
    rw [hm]
    exact (restT.targetOk regsT hn _ _ _ page).trans ((rest1.targetOk regs1 hn _ _ _ page).symm.trans reaches.granted.2)
  have ecc : (mget t1 pa).ecc ≠ .double := by
    rw [restT.mget]
    exact hs.2.2.2
  have here : coreAt t1 n = { coreAt t n with mstage := none, undo := none, stall := none } := coreAt_setCore_same ..
  have seen : (seenWord t1 n pa).1 = (mget s pa).data := by
    unfold seenWord
    rw [here, restT.mget]
    show (sbMerge (coreAt t n).sb pa _).1 = _
    rw [held.sb, empty]
    rfl
  have word : m.part = 0 ∧ m.pa = pa ∧ m.sel = 0 ∧ m.isCap = false ∧ m.reg = x.wIdx d.toNat ∧ m.probe = false ∧ m.remote = false ∧
      m.store = none ∧ m.stamp.ctx.toNat = h ∧ m.inProof = false := by
    rw [hm]
    refine ⟨rfl, rfl, rfl, rfl, ?_, rfl, rfl, rfl, ?_, ?_⟩
    · exact congrArg (fun x : Ctx => x.wIdx d.toNat) same
    · show (BitVec.ofNat 2 h).toNat = h
      rw [BitVec.toNat_ofNat, Nat.mod_eq_of_lt (issuer_lt hr.issues)]
    · show (s1.safety == .proof) = false
      rw [rest1]
      show (s.safety == .proof) = false
      simpa using run
  obtain ⟨part, at_, sel, word, reg, probe, near, load, stamped, fast⟩ := word
  obtain ⟨u, loaded, f⟩ := loadFrom_word (s := t1) (n := n) (m := m) (by omega) (at_ ▸ there) (at_ ▸ gate) (at_ ▸ ecc)
    fun e => by omega
  have returned := loadDataReturn_run (core := iss.core) ((held.rest.coreLive n).trans (coreIssues_live s n h hr.issues).1) held.stage
    probe near load good granted loaded
  rw [stamped] at returned
  refine ⟨_, returned, ?_, ?_, l, ?_⟩
  · obtain ⟨_, _, _, _, _, _, _, block⟩ := f.frame.block
    rw [coreAt_setCtx_same, coreAt_setCtx_same, block, here]
    rfl
  · show u.mem = s.mem
    rw [f.frame.rest]
    exact (show t1.mem = s.mem by rw [restT]; rfl)
  · have own : ctxAt u n h = { x with fresh := false, stepping := false, lastLoad := l, barrier := none } := by
      rw [f.frame.ctx, ← ctx]
      show (coreAt t1 n).ctx h = (coreAt t n).ctx h
      rw [here]
      rfl
    rw [ctxAt_setCtx_same, own, Ctx.loaded, fast, word, if_neg Bool.false_ne_true, if_neg Bool.false_ne_true, part, at_, reg, seen]
    exact advance_held x (x.wIdx d.toNat) _ l hr.whole

/-- Settles O14: a load's data is the stored word under the core's own buffered stores; what follows says where it lands. -/
theorem loads : Obligations.Loads := ⟨loadsFromOwnBank, capabilityLoads, loadsHoldStageM, proofLoadsLandOneLater⟩

end Sys2Proof.Machine

namespace Sys2Proof.Machine
open Sys2Proof Sys2Proof.Machine
set_option Elab.async false

/-! ## Transfers of control (R147, R148, R194 to R198, R286 to R288) -/

/-! ### The steps of a transfer -/

/-- The target cache is a field that an instruction fills. -/
theorem BodyFrame.setTc (n h : Nat) (s : State) (c : KMap (Option TcEntry)) :
    BodyFrame n h s (setCore s n { coreAt s n with tc := c }) (ctxAt s n h) [] := by
  have same : coreAt (setCore s n { coreAt s n with tc := c }) n = { coreAt s n with tc := c } := coreAt_setCore_same ..
  have ctx : ∀ m k, ctxAt (setCore s n { coreAt s n with tc := c }) m k = ctxAt s m k := by
    intro m k
    unfold ctxAt
    by_cases hm : m = n
    · rw [hm, same]
      rfl
    · rw [coreAt_setCore_other _ _ hm]
  exact ⟨ctx n h, fun m k _ => ctx m k, fun m hm => coreAt_setCore_other s _ hm,
    ⟨_, _, _, _, _, _, _, _, _, by rw [same, List.append_nil]⟩, fun _ _ _ _ _ => rfl, rfl⟩

theorem FetchFrame.transferPq (n h : Nat) (s : State) (target : Nat) (hit : Bool) : FetchFrame n s (transferPq s n h target hit) :=
  .ite (.refl n s) (.discardPq n h s)

/-- A taken transfer sets its context, and what the queue and the counters hold. -/
theorem transfer_run (n h : Nat) (iss : Iss) (lost : Nat × Bool) (f : Ctx → Ctx) (s : State) :
    ∃ t, transfer n h iss lost f s = .ok .jump t ∧ BodyFrame n h s t (f (ctxAt s n h)) [] := by
  let s1 := setCtx s n h (f (ctxAt s n h))
  let s2 := transferPq s1 n h (ctxAt s1 n h).pcc.cursor lost.2
  have kept : BodyFrame n h s s2 (f (ctxAt s n h)) [] := (BodyFrame.setCtx s n h _).thenFetch (.transferPq ..)
  by_cases u : uncond iss = true
  · refine ⟨perf s2 n h 67 lost.1, ?_, kept.thenFetch (perf_keeps n h s2 67 _ (by omega))⟩
    refine (upd_bind _ _ s).trans ((upd_bind _ _ s1).trans ?_)
    rw [if_pos u]
    rfl
  · refine ⟨s2, ?_, kept⟩
    refine (upd_bind _ _ s).trans ((upd_bind _ _ s1).trans ?_)
    rw [if_neg u]
    rfl

/-- The lookup of a register transfer's target leaves the context (R236 to R239). -/
theorem targetCache_run (n h : Nat) (x : Ctx) (iss : Iss) (target : Nat) (s : State) :
    ∃ r t, targetCache n x iss target s = .ok r t ∧ BodyFrame n h s t (ctxAt s n h) [] := by
  unfold targetCache
  by_cases u : uncond iss = true
  · rw [if_pos u]
    have counter : ∀ b : Bool, 65 ≤ (if b then 72 else 73) ∧ (if b then 72 else 73) ≤ 73 := by decide
    exact ⟨_, _, rfl, (BodyFrame.setTc n h s _).thenFetch (perf_keeps n _ _ _ 1 (counter _))⟩
  · rw [if_neg u]
    exact ⟨_, s, rfl, .refl n h s⟩

/-! ### The shadow stack -/

/-- An access of the shadow stack that the core reaches (R286). -/
theorem shadowResolve_run {s : State} {n h va pa : Nat} {k : Kind} (r : Reaches s n h 0 va k pa) :
    shadowResolve n h va k s = .ok (pa, stampOf s n h 0) s := by
  refine (bind_ok r.resolve).trans ?_
  dsimp only
  rw [(memReach_ok_memory r.there).1]
  rfl

/-- A word for the shadow region that the core reaches. -/
theorem shadowEntries_word {s : State} {n h va pa : Nat} (r : Reaches s n h 0 va .shadowWrite pa) (w : Word) (tag pair : Bool) :
    shadowEntries n h [(va, w, tag, pair)] s =
      .ok [sbEntry s n h va pa (stampOf s n h 0) .shadowWrite w (~~~0) tag pair] s := by
  have populated : ¬ memReach s pa = .unpopulated := by
    rw [r.there]
    decide
  refine (bind_ok (shadowResolve_run r)).trans ((get_bind _ s).trans ?_)
  dsimp only
  rw [if_neg populated]
  rfl

/-- The state at the execution of an instruction whose push the shadow stack takes (R287, R288). -/
theorem pushShadow_run {s : State} {n h pa : Nat} {x : Ctx} (hx : x = ctxAt s n h) (p : CanPush s n h pa) (w : Word) :
    pushShadow n h x w s = .ok () (setCore s n { coreAt s n with
      sb := (coreAt s n).sb ++ [sbEntry s n h x.sspAddr pa (stampOf s n h 0) .shadowWrite w (~~~0) false false] }) := by
  subst hx
  obtain ⟨low, high, room, store, buffer⟩ := p
  have defined : ¬ ((!(ctxAt s n h).sspOk) = true ∨ (ctxAt s n h).spillAt (ctxAt s n h).spilln ≤ (ctxAt s n h).sspAddr + 1) := by
    unfold Ctx.sspOk Ctx.spillAt Ctx.sspBase
    simp only [low, high, and_self, decide_true, Bool.not_true, Bool.false_eq_true, false_or, Nat.not_le]
    exact room
  unfold pushShadow pushFault
  rw [if_neg defined]
  exact (bind_ok (shadowEntries_word store.reaches w false false)).trans (bufferStore_run n s _ buffer)

/-- A word of the shadow region that no return is waited for (R190, R223). -/
theorem shadowLoad_run {s : State} {n h va pa : Nat} (r : Reaches s n h 0 va .shadowRead pa) (ecc : (mget s pa).ecc ≠ .double)
    (here : sbMask (coreAt s n).sb pa = ~~~0 ∨ pa / 65536 = n ∨ (coreAt s n).arrived = some (sourceOf pa)) :
    ∃ t, shadowLoad n va pa (stampOf s n h 0) s = .ok (seenWord s n pa) t ∧ Fetched n s t := by
  obtain ⟨t, seen, f⟩ := seenLoad_run (n := n) (k := .shadowRead) va r.there r.granted.2 ecc
  refine ⟨t, ?_, f⟩
  refine (get_bind _ s).trans ?_
  by_cases whole : sbMask (coreAt s n).sb pa = ~~~0
  · rw [if_neg (not_not.mpr whole)]
    exact seen
  · have waits : ¬ (pa / 65536 ≠ n ∧ (coreAt s n).arrived ≠ some (sourceOf pa) ∧ memReach s pa = .ok) := by
      rcases here with h | h | h
      · exact absurd h whole
      · exact fun e => e.1 h
      · exact fun e => e.2.1 h
    have arrived : awaitSource n va pa (stampOf s n h 0) s = .ok () s := by
      refine (get_bind _ s).trans ?_
      rw [if_neg waits]
      rfl
    rw [if_pos whole]
    exact (bind_ok arrived).trans seen

theorem topShadow_run {s : State} {n h pa : Nat} {x : Ctx} (hx : x = ctxAt s n h) (p : CanPop s n h pa) :
    ∃ t, topShadow n h x s = .ok (seenWord s n pa).1 t ∧ Fetched n s t := by
  subst hx
  obtain ⟨low, high, nonempty, load, here⟩ := p
  obtain ⟨t, seen, f⟩ := shadowLoad_run load.reaches load.2.2.2 here
  refine ⟨t, ?_, f⟩
  have defined : ¬ (ctxAt s n h).sspOk = false := by simp [Ctx.sspOk, low, high]
  have words : ¬ (ctxAt s n h).sspAddr = (ctxAt s n h).sspBase := nonempty
  unfold topShadow
  simp only [defined, words, if_false]
  exact (bind_ok (shadowResolve_run load.reaches)).trans ((bind_ok seen).trans rfl)

/-- What the shadow stack takes before a fetch it takes after it. -/
theorem CanPush.fetched {s s1 : State} {n h pa : Nat} (p : CanPush s n h pa) (hn : n < 128)
    (f : Fetched n (setCtx s n h (ctxAt s n h)) s1) : CanPush s1 n h pa := by
  obtain ⟨low, high, room, store, buffer⟩ := p
  have r := f.access hn (by decide) store.reaches
  have sb : (coreAt s1 n).sb = (coreAt s n).sb := by
    rw [f.frame.sb, coreAt_setCtx_same]
    rfl
  unfold CanPush
  rw [fetched_ctx f.frame, sb]
  exact ⟨low, high, room, ⟨r.translates, r.granted, r.there⟩, buffer⟩

theorem CanPop.fetched {s s1 : State} {n h pa : Nat} (p : CanPop s n h pa) (hn : n < 128)
    (f : Fetched n (setCtx s n h (ctxAt s n h)) s1) : CanPop s1 n h pa := by
  obtain ⟨low, high, nonempty, load, here⟩ := p
  have r := f.access hn (by decide) load.reaches
  have ecc : (mget s1 pa).ecc ≠ .double := by
    rw [SameRest.mget f.frame.rest]
    exact load.2.2.2
  obtain ⟨_, _, _, _, _, _, _, block⟩ := f.frame.block
  unfold CanPop
  rw [fetched_ctx f.frame, block, coreAt_setCtx_same]
  exact ⟨low, high, nonempty, ⟨r.translates, r.granted, r.there, ecc⟩, here⟩

/-! ### Branches and jumps -/

/-- A ready core's transfer, by the context that it leaves. -/
theorem Ready.transfers {s : State} {iss : Iss} {h : Nat} (hr : Ready s iss h) {i : Insn} {y : Ctx} {es : List SbEntry}
    (hdec : ∀ s1, ctxAt s1 iss.core.toNat h = ctxAt s iss.core.toNat h → i.dec s1 iss.core.toNat h = none)
    (hbody : ∀ s1, Fetched iss.core.toNat (setCtx s iss.core.toNat h (ctxAt s iss.core.toNat h)) s1 →
      ctxAt s1 iss.core.toNat h = ctxAt s iss.core.toNat h →
      ∃ t, i.body iss.core.toNat h s1 = .ok .jump t ∧ BodyFrame iss.core.toNat h s1 t y es) :
    ∃ t, issue s iss i = .next t ∧ Issued s t iss.core.toNat h y es := by
  obtain ⟨s1, fetched, f, same⟩ := hr.fetches
  obtain ⟨t, body, kept⟩ := hbody s1 f same
  exact issue_ends_at hr (nx := .jump) (by decide) fetched (hdec s1 same) body kept fun e => Next.noConfusion e

/-- A jump through a register: the lookup of its target, and the transfer. -/
theorem jump_run (n h : Nat) (x : Ctx) (iss : Iss) (target : Nat) (f : Ctx → Ctx) (s : State) :
    ∃ t, (do let lost ← targetCache n x iss target; transfer n h iss lost f : X Next) s = .ok .jump t ∧
      BodyFrame n h s t (f (ctxAt s n h)) [] := by
  obtain ⟨lost, s1, looked, kept⟩ := targetCache_run n h x iss target s
  obtain ⟨t, ran, kept2⟩ := transfer_run n h iss lost f s1
  rw [kept.ctx] at kept2
  exact ⟨t, (bind_ok looked).trans ran, kept.trans kept2⟩

theorem plainTransfers : Rule.PlainTransfers := by
  intro s iss h a c off hr n x cap goes
  refine ⟨hr.transfers (fun _ _ => rfl) fun s1 f same => ?_, hr.transfers (fun _ _ => rfl) fun s1 f same => ?_,
    fun tag otype exec => hr.transfers (fun _ _ => rfl) fun s1 f same => ?_⟩
  · have := transfer_run n h iss (1, false) (fun x => x.goto (x.pcc.cursor + simm off)) s1
    rwa [same] at this
  · obtain ⟨t, ran, kept⟩ := jump_run n h (ctxAt s1 n h) iss (((ctxAt s1 n h).wr a.toNat).toNat % 2 ^ 30)
      (fun x => x.goto ((ctxAt s1 n h).wr a.toNat).toNat) s1
    rw [same] at kept
    exact ⟨t, (get_bind _ s1).trans ran, kept⟩
  · obtain ⟨t, ran, kept⟩ := jump_run n h (ctxAt s1 n h) iss ((ctxAt s1 n h).cr c.toNat).cursor
      (fun x => { x with pcc := (ctxAt s1 n h).cr c.toNat }) s1
    rw [same] at ran kept
    refine ⟨t, (get_bind _ s1).trans ?_, kept⟩
    rw [same]
    simp only [show (ctxAt s iss.core.toNat h).cr c.toNat = cap from rfl, tag, otype, exec, ne_eq, not_true_eq_false, if_false,
      Bool.true_eq_false]
    exact ran

/-! ### Calls and returns -/

/-- The body of a call: the push, the lookup of a register target, and the transfer. -/
theorem call_run {s : State} {n h pa : Nat} {x : Ctx} (hx : x = ctxAt s n h) (p : CanPush s n h pa) (iss : Iss) (target : Nat)
    (cached : Bool) (f : Ctx → Ctx) :
    ∃ t, (do
        pushShadow n h x x.link
        let lost ← if cached then targetCache n x iss target else pure (1, false)
        transfer n h iss lost f : X Next) s = .ok .jump t ∧
      BodyFrame n h s t (f x) [sbEntry s n h x.sspAddr pa (stampOf s n h 0) .shadowWrite x.link (~~~0) false false] := by
  let e := sbEntry s n h x.sspAddr pa (stampOf s n h 0) .shadowWrite x.link (~~~0) false false
  let s1 := setCore s n { coreAt s n with sb := (coreAt s n).sb ++ [e] }
  have pushed : pushShadow n h x x.link s = .ok () s1 := pushShadow_run hx p x.link
  have kept : BodyFrame n h s s1 x [e] := .buffer hx.symm [e]
  have rest : ∃ t, (do
      let lost ← if cached then targetCache n x iss target else pure (1, false)
      transfer n h iss lost f : X Next) s1 = .ok .jump t ∧ BodyFrame n h s1 t (f x) [] := by
    cases cached with
    | true =>
      have := jump_run n h x iss target f s1
      rwa [kept.ctx] at this
    | false =>
      have := transfer_run n h iss (1, false) f s1
      rwa [kept.ctx] at this
  obtain ⟨t, ran, kept2⟩ := rest
  have both := kept.trans kept2
  exact ⟨t, (bind_ok pushed).trans ran, both⟩

theorem goto_setW (x y : Ctx) (k : Nat) (v : Word) (t : Int) (hp : y.pcc = x.pcc) :
    (y.setW k v).goto t = { y.setW k v with pcc := x.pcc.move t } := by
  unfold Ctx.goto
  rw [setW_pcc, hp]

theorem decBank_none {raw : Word} {s : State} {n h : Nat} (bank : (ctxAt s n h).fb = false) : decBank raw s n h = none := by
  unfold decBank
  dsimp only
  rw [bank]
  rfl

/-- A call that is not refused: the pushed word, and the context at the target. -/
theorem Ready.calls {s : State} {iss : Iss} {h pa : Nat} (hr : Ready s iss h) (push : CanPush s iss.core.toNat h pa) {i : Insn}
    (target : Ctx → Int) (cached : Bool) (up : Ctx → Ctx) (k : Nat) (hup : ∀ x : Ctx, (up x).pcc = x.pcc)
    (hdec : ∀ s1, ctxAt s1 iss.core.toNat h = ctxAt s iss.core.toNat h → i.dec s1 iss.core.toNat h = none)
    (hbody : ∀ s1, ctxAt s1 iss.core.toNat h = ctxAt s iss.core.toNat h → i.body iss.core.toNat h s1 = (do
        let x := ctxAt s iss.core.toNat h
        pushShadow iss.core.toNat h x x.link
        let lost ← if cached then targetCache iss.core.toNat x iss (target x % 2 ^ 30).toNat else pure (1, false)
        transfer iss.core.toNat h iss lost (fun y => ((up y).setW k x.link).goto (target x)) : X Next) s1) :
    let x := ctxAt s iss.core.toNat h
    ∃ t e, issue s iss i = .next t ∧
      Issued s t iss.core.toNat h { (up x).setW k x.link with pcc := x.pcc.move (target x) } [e] ∧
      e.pa = pa ∧ e.va = x.sspAddr ∧ e.data = x.link ∧ e.mask = ~~~0 ∧ e.tag = false := by
  intro x
  obtain ⟨s1, fetched, f, same⟩ := hr.fetches
  obtain ⟨t, ran, kept⟩ := call_run same.symm (push.fetched iss.core.isLt f) iss (target x % 2 ^ 30).toNat cached
    fun y => ((up y).setW k x.link).goto (target x)
  obtain ⟨u, run, issued⟩ := issue_ends_at hr (nx := .jump) (by decide) fetched (hdec s1 same) ((hbody s1 same).trans ran) kept
    fun e => Next.noConfusion e
  rw [goto_setW x (up x) k _ _ (hup x)] at issued
  exact ⟨u, _, run, issued, rfl, rfl, rfl, rfl, rfl⟩

theorem calls : Rule.Calls := by
  intro s iss h a off pa hr n x link pushed up calls push
  refine ⟨fun bank window => ⟨?_, ?_⟩, ?_, ?_⟩
  · refine hr.calls push (fun x => x.pcc.cursor + simm off) false (fun x => x.pushed.windowUp) 8 (fun _ => rfl)
      (fun s1 same => decBank_none (same ▸ bank)) fun s1 same => ?_
    refine (get_bind _ s1).trans ?_
    rw [same, if_neg (show ¬ (ctxAt s iss.core.toNat h).cwp = 7 from window.ne)]
  · refine hr.calls push (fun x => (x.wr a.toNat).toNat) true (fun x => x.pushed.windowUp) 8 (fun _ => rfl)
      (fun s1 same => decBank_none (same ▸ bank)) fun s1 same => ?_
    refine (get_bind _ s1).trans ?_
    rw [same, if_neg (show ¬ (ctxAt s iss.core.toNat h).cwp = 7 from window.ne)]
  · refine hr.calls push (fun x => x.pcc.cursor + simm off) false (fun x => x.pushed) 7 (fun _ => rfl) (fun _ _ => rfl)
      fun s1 same => ?_
    refine (get_bind _ s1).trans ?_
    rw [same]
  · refine hr.calls push (fun x => (x.wr a.toNat).toNat) true (fun x => x.pushed) 7 (fun _ => rfl) (fun _ _ => rfl)
      fun s1 same => ?_
    refine (get_bind _ s1).trans ?_
    rw [same]

/-- The check of a return address, where the shadow stack holds it (R287). -/
theorem checkShadow_run {s : State} {n h pa : Nat} {x : Ctx} (hx : x = ctxAt s n h) (p : CanPop s n h pa) (w : Word)
    (hw : w = (seenWord s n pa).1) : ∃ t, checkShadow n h x w s = .ok () t ∧ Fetched n s t := by
  obtain ⟨t, top, f⟩ := topShadow_run hx p
  refine ⟨t, (bind_ok top).trans ?_, f⟩
  rw [if_neg (not_not.mpr hw.symm)]
  rfl

/-- A return whose address the shadow stack holds: the context at the address. -/
theorem return_run {s : State} {n h pa : Nat} {x : Ctx} (hx : x = ctxAt s n h) (p : CanPop s n h pa) {w : Word}
    (hw : w = (seenWord s n pa).1) (iss : Iss) (f : Ctx → Ctx) :
    ∃ t, (do checkShadow n h x w; transfer n h iss (1, false) f : X Next) s = .ok .jump t ∧ BodyFrame n h s t (f x) [] := by
  obtain ⟨s1, checked, f1⟩ := checkShadow_run hx p w hw
  obtain ⟨t, ran, kept⟩ := transfer_run n h iss (1, false) f s1
  rw [f1.frame.ctx, ← hx] at kept
  exact ⟨t, (bind_ok checked).trans ran, (BodyFrame.of_fetch f1.frame).trans kept⟩

theorem returns : Rule.Returns := by
  intro s iss h pa hr n x popped top pop
  refine ⟨fun bank window matching => hr.transfers (fun s1 same => decBank_none (same ▸ bank)) fun s1 f same => ?_,
    fun matching => hr.transfers (fun _ _ => rfl) fun s1 f same => ?_⟩
  · obtain ⟨t, ran, kept⟩ := return_run same.symm (pop.fetched iss.core.isLt f) (matching.trans (by rw [seenWord_fetched f]))
      iss fun y => ({ y.popped with win := setFld y.win 2 0 (y.cwp - 1) }).goto (x.wr 8).toNat
    refine ⟨t, (get_bind _ s1).trans ?_, ?_⟩
    · rw [same, if_neg (show ¬ (ctxAt s iss.core.toNat h).cwp = 0 from window.ne')]
      exact ran
    · rw [← matching]
      exact kept
  · obtain ⟨t, ran, kept⟩ := return_run same.symm (pop.fetched iss.core.isLt f) (matching.trans (by rw [seenWord_fetched f]))
      iss fun y => y.popped.goto (x.wr 7).toNat
    refine ⟨t, (get_bind _ s1).trans ?_, ?_⟩
    · rw [same]
      exact ran
    · rw [← matching]
      exact kept

/-- Settles O15: a transfer sets its context alone; a call pushes one word before it, a return reads one. -/
theorem transfers : Obligations.Transfers := ⟨plainTransfers, calls, returns⟩

end Sys2Proof.Machine

namespace Sys2Proof.Machine
open Sys2Proof Sys2Proof.Machine
set_option Elab.async false

/-! ## Gate calls and SWITCH (R289, R290, R389) -/

/-! ### The gate call -/

/-- The fields of the marker of a call inside its compartment (R289). -/
theorem gateMarker_fields : ∀ p < 4, ∀ c < 8,
    fld (gateMarker false p c) 35 33 = 7 ∧ bit (gateMarker false p c) 32 = false ∧ fld (gateMarker false p c) 31 30 = p ∧
      fld (gateMarker false p c) 2 0 = c := by
  decide

theorem gateWords_room {x : Ctx} (room : x.srb.length < 8) (marker : Word) :
    gateWords x marker = [(x.sspAddr, marker, false, false)] := by
  unfold gateWords
  rw [decide_eq_false (show ¬ 8 ≤ x.srb.length by omega)]

theorem gateCalled_room {x : Ctx} (room : x.srb.length < 8) (g : Cap) (priv : Nat) : x.gateCalled g priv = { x with
    ssp := setFld x.ssp 29 0 (x.sspAddr + 1)
    win := setFld (setFld x.win 2 0 (x.cwp + 1)) 5 3 (max x.hwm (x.cwp + 1))
    srb := x.srb ++ [x.pcc.move (x.pcc.cursor + 1)]
    psw := setFld x.psw 1 0 priv
    pcc := { g with hi := g.hi &&& ~~~0xfc0000#36 } } := by
  unfold Ctx.gateCalled
  rw [decide_eq_false (show ¬ 8 ≤ x.srb.length by omega), withType_zero]
  rfl

/-- The attributes of a gate are registers that no fetch fills. -/
theorem FetchFrame.geattr {n : Nat} {s t : State} (f : FetchFrame n s t) (hn : n < 128) {h k : Nat} (hh : h < 4) (hk : k < 8) :
    geattr t n h k = geattr s n h k := by
  unfold Machine.geattr
  dsimp only
  rw [f.regs (corePg n) (136 + 8 * h + k) (by omega) (by omega) (empPage_of_lt ((corePg_lt hn).trans_le (by decide)))]

theorem pushFault_none {s : State} {n h pa : Nat} {x : Ctx} (hx : x = ctxAt s n h) (p : CanPush s n h pa) :
    pushFault x x.spilln = none := by
  subst hx
  obtain ⟨low, high, room, -, -⟩ := p
  have defined : ¬ ((!(ctxAt s n h).sspOk) = true ∨ (ctxAt s n h).spillAt (ctxAt s n h).spilln ≤ (ctxAt s n h).sspAddr + 1) := by
    unfold Ctx.sspOk Ctx.spillAt Ctx.sspBase
    simp only [low, high, and_self, decide_true, Bool.not_true, Bool.false_eq_true, false_or, Nat.not_le]
    exact room
  exact if_neg defined

/-- The body of a gate call inside its compartment: the marker enters the store buffer, and the context becomes the gate's. -/
theorem gcallBody_run {s : State} {iss : Iss} {n h k pa : Nat} {g : Cap} (hg : kget (fun _ => Cap.null) (ctxAt s n h).ge k = g)
    (tag : g.tag = true) (otype : g.otype = 56) (invoke : g.has .invoke = true) (execute : g.has .execute = true)
    (window : (ctxAt s n h).cwp < 7) (comp : (geattr s n h k).1 = (ctxAt s n h).comp) (room : (ctxAt s n h).srb.length < 8)
    (p : CanPush s n h pa) :
    ∃ t, gcallBody iss k n h s = .ok .jump t ∧ BodyFrame n h s t ((ctxAt s n h).gateCalled g (geattr s n h k).2)
      [sbEntry s n h (ctxAt s n h).sspAddr pa (stampOf s n h 0) .shadowWrite
        (gateMarker false (ctxAt s n h).priv (ctxAt s n h).cwp) (~~~0) false false] := by
  let x := ctxAt s n h
  let marker := gateMarker false x.priv x.cwp
  let e := sbEntry s n h x.sspAddr pa (stampOf s n h 0) .shadowWrite marker (~~~0) false false
  let s1 := setCore s n { coreAt s n with sb := (coreAt s n).sb ++ [e] }
  have noFault := pushFault_none rfl p
  obtain ⟨-, -, -, store, buffer⟩ := p
  have words : shadowEntries n h (gateWords x marker) s = .ok [e] s := by
    rw [gateWords_room room]
    exact shadowEntries_word store.reaches marker false false
  have buffered : bufferStore n [e] s = .ok () s1 := bufferStore_run n s [e] buffer
  have kept : BodyFrame n h s s1 x [e] := .buffer rfl [e]
  obtain ⟨t, ran, kept2⟩ := transfer_run n h iss (5, false) (fun y => y.gateCalled g (geattr s n h k).2) s1
  rw [kept.ctx] at kept2
  refine ⟨t, (get_bind _ s).trans ?_, kept.trans kept2⟩
  have inside : decide ((geattr s n h k).1 ≠ (ctxAt s n h).comp) = false := decide_eq_false (not_not.mpr comp)
  have notFull : (if 8 ≤ (ctxAt s n h).srb.length then 1 else 0) = 0 := if_neg (by omega)
  simp only [hg, tag, otype, invoke, execute, inside, notFull, noFault, window.ne, ne_eq, not_true_eq_false, Bool.true_eq_false,
    Bool.false_eq_true, or_self, false_and, if_false, Nat.add_zero]
  exact (bind_ok words).trans ((bind_ok buffered).trans ran)

theorem gateCallWithinACompartment : Rule.GateCallWithinACompartment := by
  intro s iss h k pa hr n x g attr priv tag otype invoke execute bank window comp room push
  have small := issuer_lt hr.issues
  obtain ⟨s1, fetched, f, same⟩ := hr.fetches
  have attrs : geattr s1 n h k.toNat = (fld attr 7 0, priv) :=
    (f.frame.geattr iss.core.isLt small k.isLt).trans rfl
  have push1 : CanPush s1 n h pa := push.fetched iss.core.isLt f
  obtain ⟨t, ran, kept⟩ := gcallBody_run (iss := iss) (k := k.toNat) (g := g) (by rw [same]) tag otype invoke execute
    (by rw [same]; exact window) (by rw [attrs, same]; exact comp) (by rw [same]; exact room) push1
  rw [same, attrs, gateCalled_room room] at kept
  obtain ⟨u, run, issued⟩ := issue_ends_at hr (nx := .jump) (i := {
    raw := encB iss 35 k.toNat, kind := 0, dec := decBank (encB iss 35 k.toNat), brCost := 5, body := gcallBody iss k.toNat })
    (by decide) fetched (decBank_none (raw := encB iss 35 k.toNat) (same ▸ bank)) ran kept fun e => Next.noConfusion e
  obtain ⟨f1, f2, f3, f4⟩ := gateMarker_fields x.priv (fld_lt ..) x.cwp (fld_lt ..)
  exact ⟨u, _, run, issued, rfl, rfl, rfl, rfl, f1, f2, f3, f4⟩

/-! ### The gate return -/

theorem gateReturned_newest {x : Ctx} {older : List Cap} {e : Cap} (newest : x.srb = older ++ [e]) (m : Word) :
    x.gateReturned e false m = { x with
      ssp := setFld x.ssp 29 0 (x.sspAddr - 1), win := setFld x.win 2 0 (fld m 2 0), srb := older
      psw := setFld x.psw 1 0 (fld m 31 30), pcc := { e with hi := e.hi &&& ~~~0xfc0000#36 } } := by
  unfold Ctx.gateReturned
  rw [newest, List.dropLast_concat, withType_zero]
  rfl

/-- The body of the return of a gate call inside its compartment. -/
theorem gretBody_run {s : State} {iss : Iss} {n h pa : Nat} {e : Cap} {older : List Cap} {m : Word} (hm : (seenWord s n pa).1 = m)
    (p : CanPop s n h pa) (mark : fld m 35 33 = 7) (inside : bit m 32 = false) (window : fld m 2 0 + 1 = (ctxAt s n h).cwp)
    (newest : (ctxAt s n h).srb = older ++ [e]) :
    ∃ t, gretBody iss n h s = .ok .jump t ∧ BodyFrame n h s t ((ctxAt s n h).gateReturned e false m) [] := by
  obtain ⟨s1, top, f⟩ := topShadow_run rfl p
  have entry : gretEntry n h (ctxAt s n h) s1 = .ok (e, false) s1 := by
    unfold gretEntry
    rw [newest, List.getLast?_concat]
    rfl
  obtain ⟨t, ran, kept⟩ := transfer_run n h iss (5, false) (fun y => y.gateReturned e false m) s1
  rw [f.frame.ctx] at kept
  refine ⟨t, (get_bind _ s).trans ((bind_ok top).trans ?_), (BodyFrame.of_fetch f.frame).trans kept⟩
  simp only [hm, mark, window, ne_eq, not_true_eq_false, or_self, if_false]
  refine (bind_ok entry).trans ((get_bind _ s1).trans ?_)
  simp only [inside, Bool.false_eq_true, false_and, if_false]
  exact ran

theorem gateReturnWithinACompartment : Rule.GateReturnWithinACompartment := by
  intro s iss h pa e older hr n x m pop bank mark inside window newest
  refine hr.transfers (i := {
    raw := encR iss 4 0 0 0 25, kind := 0, dec := decBank (encR iss 4 0 0 0 25), brCost := 5, body := gretBody iss })
    (fun s1 same => decBank_none (same ▸ bank)) fun s1 f same => ?_
  obtain ⟨t, ran, kept⟩ := gretBody_run (iss := iss) (by rw [seenWord_fetched f]) (pop.fetched iss.core.isLt f) mark inside
    (by rw [same]; exact window) (by rw [same]; exact newest)
  rw [same, gateReturned_newest newest] at kept
  exact ⟨t, ran, kept⟩

/-! ### SWITCH -/

/-- The context whose rule sets and task states have exchanged, in the compartment of the set that becomes the active one. -/
def Ctx.flipped (x : Ctx) (comp : Nat) : Ctx := { x with setB := !x.setB, psw := setFld x.psw 29 22 comp }

/-- What the flip of the sets of a context changes: the context, and the epoch of its block (R389, R397). -/
structure Flips (n h : Nat) (s t : State) : Prop where
  ctx : ctxAt t n h = (ctxAt s n h).flipped ((coreAt s n).set (!(ctxAt s n h).setB)).comp
  contexts : ∀ m k, ¬ (m = n ∧ k = h) → ctxAt t m k = ctxAt s m k
  epoch : (coreAt t n).epoch = (coreAt s n).epoch + 1
  sets : (coreAt t n).setA = (coreAt s n).setA ∧ (coreAt t n).setB = (coreAt s n).setB
  mstage : (coreAt t n).mstage = (coreAt s n).mstage
  rest : SameRest s t

theorem flips (s : State) (n h : Nat) : Flips n h s (flipSets s n h) := by
  let c := { coreAt s n with epoch := (coreAt s n).epoch + 1 }
  let y := (ctxAt s n h).flipped ((coreAt s n).set (!(ctxAt s n h).setB)).comp
  have e : flipSets s n h = setCtx (setCore s n c) n h y := by
    unfold setCtx
    rw [setCore_setCore, coreAt_setCore_same]
    rfl
  have block : coreAt (flipSets s n h) n = c.setCtx h y := by rw [e, coreAt_setCtx_same, coreAt_setCore_same]
  have before : ∀ m k, ctxAt (setCore s n c) m k = ctxAt s m k := by
    intro m k
    unfold ctxAt
    by_cases hm : m = n
    · rw [hm, coreAt_setCore_same]
      rfl
    · rw [coreAt_setCore_other _ _ hm]
  refine ⟨by rw [e, ctxAt_setCtx_same], fun m k hne => ?_, by rw [block]; rfl, by rw [block]; exact ⟨rfl, rfl⟩,
    by rw [block]; rfl, rfl⟩
  rw [e, ctxAt_setCtx_other _ _ hne, before]

theorem Flips.of_fetched {n h : Nat} {s s1 t : State} (f : FetchFrame n s s1) (p : Flips n h s1 t) : Flips n h s t := by
  obtain ⟨_, _, _, _, _, _, _, b⟩ := f.block
  refine ⟨?_, fun m k hne => (p.contexts m k hne).trans (f.ctx m k), p.epoch.trans (by rw [b]), ?_, p.mstage.trans (by rw [b]),
    SameRest.trans f.rest p.rest⟩
  · rw [p.ctx, f.ctx, b]
    rfl
  · rw [p.sets.1, p.sets.2, b]
    exact ⟨rfl, rfl⟩

theorem Flips.thenFetch {n h : Nat} {s t u : State} (p : Flips n h s t) (f : FetchFrame n t u) : Flips n h s u := by
  obtain ⟨_, _, _, _, _, _, _, b⟩ := f.block
  refine ⟨(f.ctx n h).trans p.ctx, fun m k hne => (f.ctx m k).trans (p.contexts m k hne), by rw [b]; exact p.epoch,
    by rw [b]; exact p.sets, by rw [b]; exact p.mstage, SameRest.trans p.rest f.rest⟩

theorem ctxAt_setCtx_self (s : State) (n h m k : Nat) : ctxAt (setCtx s n h (ctxAt s n h)) m k = ctxAt s m k := by
  by_cases e : m = n ∧ k = h
  · rw [e.1, e.2, ctxAt_setCtx_same]
  · rw [ctxAt_setCtx_other _ _ e]

theorem Flips.of_setCtx {n h : Nat} {s t : State} (p : Flips n h (setCtx s n h (ctxAt s n h)) t) : Flips n h s t := by
  obtain ⟨ctx, contexts, epoch, sets, mstage, rest⟩ := p
  rw [ctxAt_setCtx_self, coreAt_setCtx_same] at ctx
  rw [coreAt_setCtx_same] at epoch sets mstage
  exact ⟨ctx, fun m k hne => (contexts m k hne).trans (ctxAt_setCtx_self ..), epoch, sets, mstage,
    SameRest.trans (SameRest.setCtx s n h _) rest⟩

/-- What the end of an instruction adds to a flip: the context goes to the next word. -/
theorem Flips.landed {n h : Nat} {s t u : State} {y : Ctx} (p : Flips n h s t) (f : FetchFrame n (landed t n h y) u) :
    ctxAt u n h = y ∧ (coreAt u n).epoch = (coreAt s n).epoch + 1 ∧ (coreAt u n).setA = (coreAt s n).setA ∧
      (coreAt u n).setB = (coreAt s n).setB ∧ u.mem = s.mem ∧ ∀ m k, ¬ (m = n ∧ k = h) → ctxAt u m k = ctxAt s m k := by
  obtain ⟨_, _, _, _, _, _, _, b⟩ := f.block
  rw [coreAt_landed] at b
  refine ⟨by rw [f.ctx, ctxAt_landed, ctxAt_setCtx_same], by rw [b]; exact p.epoch, by rw [b]; exact p.sets.1,
    by rw [b]; exact p.sets.2, ?_, fun m k hne => ?_⟩
  · rw [SameRest.trans p.rest (SameRest.trans (show SameRest t (Machine.landed t n h y) from rfl) f.rest)]
    rfl
  · rw [f.ctx, ctxAt_landed, ctxAt_setCtx_other _ _ hne, p.contexts m k hne]

/-- An instruction that flips the sets of its context and ends. -/
theorem Ready.flips {s : State} {iss : Iss} {h : Nat} (hr : Ready s iss h) {raw : Word} {dec : State → Nat → Nat → Option Trap}
    {body : Nat → Nat → X Unit}
    (hdec : ∀ s1, ctxAt s1 iss.core.toNat h = ctxAt s iss.core.toNat h → dec s1 iss.core.toNat h = none)
    (hbody : ∀ s1, ctxAt s1 iss.core.toNat h = ctxAt s iss.core.toNat h →
      (coreAt s1 iss.core.toNat).set = (coreAt s iss.core.toNat).set →
      (coreAt s1 iss.core.toNat).epochs = (coreAt s iss.core.toNat).epochs →
      body iss.core.toNat h s1 = .ok () (discardPq (flipSets s1 iss.core.toNat h) iss.core.toNat h)) :
    let n := iss.core.toNat
    let x := ctxAt s n h
    ∃ t, issue s iss (sysInsn raw dec body) = .next t ∧
      (∃ l, ctxAt t n h = (x.flipped ((coreAt s n).set (!x.setB)).comp).after l) ∧
      (coreAt t n).epoch = (coreAt s n).epoch + 1 ∧ (coreAt t n).setA = (coreAt s n).setA ∧
      (coreAt t n).setB = (coreAt s n).setB ∧ t.mem = s.mem ∧ ∀ m k, ¬ (m = n ∧ k = h) → ctxAt t m k = ctxAt s m k := by
  intro n x
  obtain ⟨s1, fetched, f, same⟩ := hr.fetches
  obtain ⟨alive, -, free⟩ := coreIssues_live s _ h hr.issues
  have block : (coreAt s1 n).set = (coreAt s n).set ∧ (coreAt s1 n).epochs = (coreAt s n).epochs := by
    obtain ⟨_, _, _, _, _, _, _, b⟩ := f.frame.block
    rw [b, coreAt_setCtx_same]
    exact ⟨rfl, rfl⟩
  have flip : Flips n h s (discardPq (flipSets s1 n h) n h) :=
    ((Machine.flips s1 _ h).thenFetch (.discardPq ..)).of_fetched f.frame |>.of_setCtx
  have gone : coreGone (discardPq (flipSets s1 n h) n h) n = false := by
    rw [coreGone_congr s]
    · exact coreGone_false s _ alive
    all_goals rw [flip.rest]; rfl
  obtain ⟨u, after, run⟩ := issue_body hr (nx := .seq) (i := sysInsn raw dec body) fetched (hdec s1 same)
    ((bind_ok (hbody s1 same block.1 block.2)).trans rfl) (by decide) (flip.mstage.trans free) gone
    (fun _ => by rw [flip.ctx]; exact hr.whole)
  obtain ⟨ctx, rest⟩ := flip.landed after
  rw [flip.ctx] at ctx
  refine ⟨_, run, ?_⟩
  split
  · exact ⟨⟨_, ctx⟩, rest⟩
  · exact ⟨⟨_, ctx⟩, rest⟩

theorem switchFlipsTheSets : Rule.SwitchFlipsTheSets := by
  intro s iss h a hr n x c new priv tag otype ready image room
  show ∃ t, issue s iss (sysInsn (encR iss 4 0 a.toNat 0 18) (decPriv 18 0) _) = .next t ∧ _
  refine (hr.flips ?_ ?_).imp fun t ⟨run, ⟨l, ctx⟩, rest⟩ => ⟨run, ⟨l, ctx⟩, ?_, ?_, rest⟩
  · exact fun s1 same => if_neg (by rw [same, show (ctxAt s iss.core.toNat h).priv = 0 from priv]; decide)
  · intro s1 same sets epochs
    have epoch : epochHold n s1 = .ok () s1 := by
      refine (get_bind _ s1).trans ?_
      rw [if_neg (Nat.not_le.mpr (by rw [epochs]; exact room))]
      rfl
    refine (get_bind _ s1).trans ?_
    simp only [same, sets, show (ctxAt s iss.core.toNat h).cr a.toNat = c from rfl, tag, otype, 
      show (coreAt s iss.core.toNat).set (!(ctxAt s iss.core.toNat h).setB) = new from rfl, ready, image, ne_eq, not_true_eq_false,
      Bool.true_eq_false, or_self, if_false]
    exact bind_ok epoch
  all_goals
    rw [ctx]
    show (if (!x.setB) = true then _ else _) = if x.setB = true then _ else _
    cases x.setB <;> rfl

/-- Settles O16: a gate call pushes its marker and its return capability, a return takes both off, and SWITCH flips the sets. -/
theorem gateCallsAndSwitch : Obligations.GateCallsAndSwitch :=
  ⟨gateCallWithinACompartment, gateReturnWithinACompartment, switchFlipsTheSets⟩

end Sys2Proof.Machine

namespace Sys2Proof.Machine
open Sys2Proof Sys2Proof.Machine
set_option Elab.async false

/-! ## System instructions (R153 to R160, R192, R212, R263, R322 to R326, R398, R667) -/

/-! ### System instructions that end -/

/-- A system instruction whose body ends in its core, by a core that is ready. -/
theorem Ready.systemRuns {s : State} {iss : Iss} {h : Nat} (hr : Ready s iss h) {raw : Word}
    {dec : State → Nat → Nat → Option Trap} {body : Nat → Nat → X Unit} {y : Ctx}
    (hdec : ∀ s1, ctxAt s1 iss.core.toNat h = ctxAt s iss.core.toNat h → dec s1 iss.core.toNat h = none)
    (hbody : ∀ s1, Fetched iss.core.toNat (setCtx s iss.core.toNat h (ctxAt s iss.core.toNat h)) s1 →
      ctxAt s1 iss.core.toNat h = ctxAt s iss.core.toNat h →
      ∃ t, body iss.core.toNat h s1 = .ok () t ∧ BodyFrame iss.core.toNat h s1 t y [])
    (hy : y.rsmKind = (ctxAt s iss.core.toNat h).rsmKind) :
    ∃ t, issue s iss (sysInsn raw dec body) = .next t ∧ Ran s t iss.core.toNat h y := by
  obtain ⟨s1, fetched, f, same⟩ := hr.fetches
  obtain ⟨t, ran, kept⟩ := hbody s1 f same
  exact issue_ends_at hr (nx := .seq) (i := sysInsn raw dec body) (by decide) fetched (hdec s1 same) ((bind_ok ran).trans rfl) kept
    fun _ => hy.trans hr.whole

/-- A system instruction whose body only sets its context. -/
theorem Ready.systemSets {s : State} {iss : Iss} {h : Nat} (hr : Ready s iss h) {raw : Word}
    {dec : State → Nat → Nat → Option Trap} {body : Nat → Nat → X Unit} {y : Ctx}
    (hdec : ∀ s1, ctxAt s1 iss.core.toNat h = ctxAt s iss.core.toNat h → dec s1 iss.core.toNat h = none)
    (hbody : ∀ s1, Fetched iss.core.toNat (setCtx s iss.core.toNat h (ctxAt s iss.core.toNat h)) s1 →
      ctxAt s1 iss.core.toNat h = ctxAt s iss.core.toNat h →
      body iss.core.toNat h s1 = .ok () (setCtx s1 iss.core.toNat h y))
    (hy : y.rsmKind = (ctxAt s iss.core.toNat h).rsmKind) :
    ∃ t, issue s iss (sysInsn raw dec body) = .next t ∧ Ran s t iss.core.toNat h y :=
  hr.systemRuns hdec (fun s1 f same => ⟨_, hbody s1 f same, .setCtx s1 _ h y⟩) hy

theorem modCtx_run {s : State} {n h : Nat} {x : Ctx} (hx : ctxAt s n h = x) (f : Ctx → Ctx) :
    modCtx n h f s = .ok () (setCtx s n h (f x)) := by
  rw [← hx]
  rfl

theorem BodyFrame.idle {s : State} {n h : Nat} {x : Ctx} (hx : ctxAt s n h = x) : BodyFrame n h s s x [] := hx ▸ .refl n h s

theorem decPriv_none {fn level n h : Nat} {s : State} (priv : (ctxAt s n h).priv ≤ level) : decPriv fn level s n h = none :=
  if_neg (Nat.not_lt.mpr priv)

/-! ### What an issued instruction leaves, with what a fetch or a signal adds -/

theorem SameBlock.thenFetch {s t u : State} {n : Nat} {es : List SbEntry} (b : SameBlock s t n es) (f : FetchFrame n t u) :
    SameBlock s u n es := by
  obtain ⟨_, _, _, _, _, _, _, _, _, b1⟩ := b
  obtain ⟨_, _, _, _, _, _, _, b2⟩ := f.block
  exact ⟨_, _, _, _, _, _, _, _, _, b2.trans (by rw [b1])⟩

theorem Issued.thenFetch {s t u : State} {n h : Nat} {y : Ctx} {es : List SbEntry} (i : Issued s t n h y es)
    (f : FetchFrame n t u) : Issued s u n h y es := by
  obtain ⟨⟨l, ctx⟩, contexts, blocks, block, regs, rest⟩ := i
  exact ⟨⟨l, (f.ctx n h).trans ctx⟩, fun m k hne => (f.ctx m k).trans (contexts m k hne),
    fun m hm => (f.others m hm).trans (blocks m hm), block.thenFetch f, SameRegs.trans regs f.sameRegs, SameRest.trans rest f.rest⟩

/-- The signal of a debug event to software (R665). -/
theorem Issued.signalled {s t : State} {n h : Nat} {y : Ctx} {es : List SbEntry} (i : Issued s t n h y es) :
    Issued s (irqPend t (pkgPg 3) 1) n h y es := by
  obtain ⟨ctx, contexts, blocks, block, regs, rest⟩ := i
  exact ⟨ctx, contexts, blocks, block, SameRegs.trans regs (SameRegs.irqPend t n), SameRest.trans rest (SameRest.irqPend t _ _)⟩

/-! ### Waits and barriers -/

theorem storesOfOthers {s s1 : State} {n h : Nat} (f : Fetched n (setCtx s n h (ctxAt s n h)) s1)
    (others : ∀ e ∈ (coreAt s n).sb, e.stamp.ctx.toNat ≠ h) :
    ((coreAt s1 n).sb.any fun e => e.stamp.ctx.toNat == h) = false := by
  rw [f.frame.sb, coreAt_setCtx_same, List.any_eq_false]
  exact fun e he => by simpa using others e he

/-- An epoch at or after the one that GBAR has read does not hold it (R398). -/
theorem epochBefore_false {e b : BitVec 16} (h : e = b ∨ 32768 ≤ (b - e).toNat) : epochBefore e b = false := by
  unfold epochBefore
  rcases h with h | h
  · simp [h]
  · rw [decide_eq_false (show ¬ (b - e).toNat < 32768 by omega), Bool.and_false]

theorem irqPend_pends (s : State) (pg : Nat) {b : Nat} (hb : b < 36) : bit (rget (irqPend s pg b) pg 9) b = true := by
  rw [rget_irqPend s pg b (by decide), if_pos ⟨rfl, rfl⟩, bit_setBit_same _ _ _ hb]

theorem landed_irqPend (s : State) (n h pg b : Nat) (y : Ctx) :
    Machine.landed (irqPend s pg b) n h y = irqPend (Machine.landed s n h y) pg b := by
  have core : ∀ t c, setCore (irqPend t pg b) n c = irqPend (setCore t n c) pg b := fun _ _ => rfl
  have own : ∀ t, coreAt (irqPend t pg b) n = coreAt t n := fun _ => rfl
  unfold Machine.landed setCtx
  rw [own, core, own, core]

/-- A body that sets its context and signals a debug event. -/
theorem Ready.signals {s : State} {iss : Iss} {h : Nat} (hr : Ready s iss h) {i : Insn} {y : Ctx} (hdec : i.dec = decNone)
    (hbody : ∀ s1, Fetched iss.core.toNat (setCtx s iss.core.toNat h (ctxAt s iss.core.toNat h)) s1 →
      ctxAt s1 iss.core.toNat h = ctxAt s iss.core.toNat h →
      i.body iss.core.toNat h s1 = .ok .hold (irqPend (setCtx s1 iss.core.toNat h y) (pkgPg 3) 1)) :
    ∃ t, issue s iss i = .next t ∧ Issued s t iss.core.toNat h y [] ∧ bit (rget t (pkgPg 3) 9) 1 = true := by
  obtain ⟨s1, fetched, f, same⟩ := hr.fetches
  obtain ⟨alive, -, free⟩ := coreIssues_live s _ h hr.issues
  let s2 := setCtx s1 iss.core.toNat h y
  have kept : BodyFrame iss.core.toNat h s1 s2 y [] := .setCtx s1 _ h y
  obtain ⟨_, _, _, _, _, _, _, block⟩ := f.frame.block
  have mstage : (coreAt (irqPend s2 (pkgPg 3) 1) iss.core.toNat).mstage = none := by
    refine kept.mstage.trans ?_
    rw [block, coreAt_setCtx_same]
    exact free
  have gone : coreGone (irqPend s2 (pkgPg 3) 1) iss.core.toNat = false := by
    rw [coreGone_congr s]
    · exact coreGone_false s _ alive
    all_goals rw [SameRest.trans f.frame.rest (show SameRest s1 (irqPend s2 (pkgPg 3) 1) from rfl)]; rfl
  obtain ⟨u, after, run⟩ := issue_body hr (nx := .hold) fetched (by rw [hdec]; rfl) (hbody s1 f same) (by decide) mstage gone
    (fun e => Next.noConfusion e)
  let l := loadDst (ctxAt s iss.core.toNat h) i.raw
  let left := Machine.landed s2 iss.core.toNat h (y.ended .hold l)
  have ended : (ctxAt (irqPend s2 (pkgPg 3) 1) iss.core.toNat h).ended .hold l = y.ended .hold l :=
    congrArg (fun z => z.ended .hold l) kept.ctx
  rw [ended, landed_irqPend] at after
  have done : Issued s u iss.core.toNat h y [] :=
    (issued_of_body (nx := .hold) l f.frame kept (.refl _ left)).1.signalled.thenFetch after
  have pends : bit (rget u (pkgPg 3) 9) 1 = true := by
    rw [after.regs (pkgPg 3) 9 (by decide) (by omega) (by decide)]
    exact irqPend_pends left (pkgPg 3) (by decide)
  refine ⟨_, run, ?_⟩
  split
  · exact ⟨done.signalled, irqPend_pends u (pkgPg 3) (by decide)⟩
  · exact ⟨done, pends⟩

/-- BREAK in a debug state that stops at it (R667). -/
theorem Ready.breaks {s : State} {iss : Iss} {h : Nat} (hr : Ready s iss h) (state : 2 ≤ dbgState s)
    (enabled : bit (rget s (pkgPg 3) 16) 26 = true) :
    ∃ t, exec (.break_ iss) s = .next t ∧
      Issued s t iss.core.toNat h { ctxAt s iss.core.toNat h with halted := true, atBreak := true } [] ∧
      bit (rget t (pkgPg 3) 9) 1 = true := by
  refine hr.signals rfl fun s1 f same => (get_bind _ s1).trans ?_
  have stops : 2 ≤ dbgState s1 ∧ bit (rget s1 (pkgPg 3) 16) 26 = true := by
    refine ⟨?_, ?_⟩
    · unfold dbgState
      rw [f.frame.rest]
      exact state
    · rw [f.frame.regs _ _ (by decide) (by omega) (by decide)]
      exact enabled
  rw [if_pos stops, ← same]
  rfl

theorem waitsAndBarriers : Rule.WaitsAndBarriers := by
  intro s iss h hr n x gives
  refine ⟨hr.systemRuns (fun _ _ => rfl) (fun s1 f same => ⟨s1, rfl, .idle same⟩) rfl, fun priv => ?_,
    fun others noLates => ?_, fun priv epochs => ?_, fun priv posts => ?_, fun state enabled => hr.breaks state enabled⟩
  · exact hr.systemSets (fun s1 same => decPriv_none (same ▸ priv)) (fun s1 f same => modCtx_run same _) rfl
  · have noLates' : (ctxAt s iss.core.toNat h).lates = [] := noLates
    refine hr.systemRuns (fun _ _ => rfl) (fun s1 f same => ⟨s1, (get_bind _ s1).trans ?_, .idle same⟩) rfl
    rw [storesOfOthers f others, same, noLates']
    rfl
  · let b := x.barrier.getD (coreAt s n).epoch
    have runs : ∃ t, exec (.gbar iss) s = .next t ∧ Ran s t n h { x with barrier := some b } := by
      refine hr.systemRuns (fun s1 same => decPriv_none (same ▸ priv))
        (fun s1 f same => ⟨discardPq (setCtx s1 n h { x with barrier := some b }) n h, (get_bind _ s1).trans ?_,
          (BodyFrame.setCtx s1 n h _).thenFetch (.discardPq ..)⟩) rfl
      have block : (coreAt s1 n).epochs = (coreAt s n).epochs ∧ (coreAt s1 n).epoch = (coreAt s n).epoch := by
        obtain ⟨_, _, _, _, _, _, _, e⟩ := f.frame.block
        rw [e, coreAt_setCtx_same]
        exact ⟨rfl, rfl⟩
      have open_ : ¬ ((coreAt s n).epochs.any fun a => epochBefore a b) = true := by
        rw [Bool.not_eq_true, List.any_eq_false]
        exact fun e he => Bool.not_eq_true _ ▸ epochBefore_false (epochs e he)
      rw [same, block.1, block.2]
      refine (bind_ok (modCtx_run same _)).trans ?_
      rw [if_neg open_]
      rfl
    exact runs.imp fun t ⟨run, ran⟩ => ⟨run, ⟨ran.ctx, ran.contexts, ran.blocks, ran.block, ran.regs, ran.rest⟩⟩
  · refine hr.systemRuns (fun s1 same => decPriv_none (same ▸ priv)) (fun s1 f same => ⟨s1, (get_bind _ s1).trans ?_, .idle same⟩) rfl
    have kept : s1.posts = s.posts := by
      rw [f.frame.rest]
      rfl
    have none : (s1.posts.any fun p => p.poster == .core n h) = false := by
      rw [kept, List.any_eq_false]
      exact fun p hp => by simpa using posts p hp
    exact congrFun (if_neg (ne_true_of_eq_false none)) s1

/-! ### The special registers -/

theorem specialCapNumber : ∀ k : BitVec 3, (16 + k.setWidth 5 : BitVec 5).toNat = 16 + k.toNat := by decide

theorem decSpecial_any {num n h : Nat} {raw : Word} {s : State} : decSpecial (some .any) num raw s n h = none := rfl

theorem decSpecial_level {num level n h : Nat} {raw : Word} {s : State} (priv : (ctxAt s n h).priv ≤ level) :
    decSpecial (some (.level level)) num raw s n h = none := if_neg (Nat.not_lt.mpr priv)

theorem decSpecial_system {num n h : Nat} {raw : Word} {s : State} (priv : (ctxAt s n h).priv = 0)
    (system : (ctxAt s n h).pcc.has .system = true) : decSpecial (some .system) num raw s n h = none := by
  refine if_pos ?_
  rw [Ctx.hasSystem, priv, system]
  rfl

/-- A read of a word register other than the cycle counter (Table 4.4). -/
theorem Ready.readsSpecial {s : State} {iss : Iss} {h : Nat} (hr : Ready s iss h) (d num : BitVec 5) {v : Word} (other : num ≠ 6)
    (need : ∀ s1 raw, ctxAt s1 iss.core.toNat h = ctxAt s iss.core.toNat h →
      decSpecial (readNeed num.toNat) num.toNat raw s1 iss.core.toNat h = none)
    (value : ∀ s1, s1.safety = s.safety → ctxAt s1 iss.core.toNat h = ctxAt s iss.core.toNat h →
      specialRead s1 iss.core.toNat h num.toNat = v) :
    ∃ t, exec (.mfs iss d num) s = .next t ∧ Ran s t iss.core.toNat h ((ctxAt s iss.core.toNat h).setW d.toNat v) := by
  refine hr.systemSets (fun s1 same => need s1 _ same) (fun s1 f same => (get_bind _ s1).trans ?_) (setW_rsmKind ..)
  have safety : s1.safety = s.safety := by
    rw [f.frame.rest]
    rfl
  rw [value s1 safety same]
  refine (congrFun (if_neg other) s1).trans ?_
  exact modCtx_run same _

/-- A read of a capability register. -/
theorem Ready.readsSpecialCap {s : State} {iss : Iss} {h : Nat} (hr : Ready s iss h) (d : BitVec 4) (num : BitVec 5) {v : Cap}
    (need : ∀ s1 raw, ctxAt s1 iss.core.toNat h = ctxAt s iss.core.toNat h →
      decSpecial (capReadNeed num.toNat) num.toNat raw s1 iss.core.toNat h = none)
    (value : (ctxAt s iss.core.toNat h).specialCap num.toNat = v) :
    ∃ t, exec (.cmfs iss d num) s = .next t ∧ Ran s t iss.core.toNat h ((ctxAt s iss.core.toNat h).setC d.toNat v) := by
  rw [← value]
  exact hr.systemSets (fun s1 same => need s1 _ same) (fun s1 f same => modCtx_run same _) (setC_rsmKind ..)

theorem gateEntryNeed : ∀ k : BitVec 3, capReadNeed (16 + k.setWidth 5 : BitVec 5).toNat = some (.level 1) ∧
    capWriteNeed (16 + k.setWidth 5 : BitVec 5).toNat = some .system := by decide

/-- The gate entries are the capability registers from 16 on (R276, Table 4.4). -/
theorem specialCap_gate (x : Ctx) (k : BitVec 3) :
    x.specialCap (16 + k.setWidth 5 : BitVec 5).toNat = kget (fun _ => Cap.null) x.ge k.toNat := by
  rw [specialCapNumber, Ctx.specialCap, if_neg (by omega), if_neg (by omega), Nat.add_sub_cancel_left]

theorem specialReads : Rule.SpecialReads := by
  intro s iss h d c k hr n x reads psw caps
  have any : ∀ {num : BitVec 5}, readNeed num.toNat = some .any → ∀ s1 raw, ctxAt s1 iss.core.toNat h = ctxAt s iss.core.toNat h →
      decSpecial (readNeed num.toNat) num.toNat raw s1 iss.core.toNat h = none := fun e s1 raw _ => by rw [e]; rfl
  have level : x.priv ≤ 1 → ∀ {num : BitVec 5}, readNeed num.toNat = some (.level 1) → ∀ s1 raw,
      ctxAt s1 iss.core.toNat h = ctxAt s iss.core.toNat h →
      decSpecial (readNeed num.toNat) num.toNat raw s1 iss.core.toNat h = none :=
    fun priv num e s1 raw same => by rw [e]; exact decSpecial_level (same ▸ priv)
  refine ⟨hr.readsSpecial d 0 (by decide) (any (by decide)) fun s1 safety same => ?_, 
    hr.readsSpecial d 1 (by decide) (any (by decide)) fun s1 _ same => ?_,
    hr.readsSpecial d 5 (by decide) (any (by decide)) fun s1 _ same => rfl,
    hr.readsSpecial d 7 (by decide) (any (by decide)) fun s1 _ same => ?_, ?_, fun priv => ⟨?_, ?_, ?_, ?_⟩, fun priv system => ?_⟩
  · show pswOf s1 h (ctxAt s1 iss.core.toNat h) = psw
    rw [pswOf, safety, same]
    rfl
  · exact congrArg Ctx.win same
  · exact congrArg Ctx.cych same
  · let y := { x with cych := BitVec.ofNat 36 ((coreAt s n).cyc / 2 ^ 36) }
    let v := BitVec.ofNat 36 (coreAt s n).cyc
    refine hr.systemSets (fun _ _ => rfl) (fun s1 f same => (get_bind _ s1).trans ?_) (setW_rsmKind y d.toNat v)
    refine (bind_ok (modCtx_run same _)).trans ((modCtx_run (ctxAt_setCtx_same ..) _).trans ?_)
    rw [setCtx_setCtx, show specialRead s1 iss.core.toNat h (6 : BitVec 5).toNat = BitVec.ofNat 36 (coreAt s1 iss.core.toNat).cyc from rfl,
      fetched_cyc f.frame]
  · exact hr.readsSpecial d 2 (by decide) (level priv (by decide)) fun s1 _ same => congrArg (fun x => x.mlv.setWidth 36) same
  · exact hr.readsSpecial d 3 (by decide) (level priv (by decide)) fun s1 _ same => congrArg Ctx.vba same
  · exact hr.readsSpecial d 4 (by decide) (level priv (by decide)) fun s1 _ same => congrArg Ctx.ssp same
  · exact hr.readsSpecialCap c _ (fun s1 _ same => by rw [(gateEntryNeed k).1]; exact decSpecial_level (same ▸ priv)) (specialCap_gate x k)
  · have need : ∀ {num : BitVec 5}, capReadNeed num.toNat = some .system → ∀ s1 raw,
        ctxAt s1 iss.core.toNat h = ctxAt s iss.core.toNat h →
        decSpecial (capReadNeed num.toNat) num.toNat raw s1 iss.core.toNat h = none :=
      fun e s1 raw same => by rw [e]; exact decSpecial_system (same ▸ priv) (same ▸ system)
    exact ⟨hr.readsSpecialCap c 8 (need (by decide)) rfl, hr.readsSpecialCap c 9 (need (by decide)) rfl⟩

/-- A write of a word register (R155, R158). -/
theorem Ready.writesSpecial {s : State} {iss : Iss} {h : Nat} (hr : Ready s iss h) (a num : BitVec 5) {y : Ctx}
    (need : ∀ s1 raw, ctxAt s1 iss.core.toNat h = ctxAt s iss.core.toNat h →
      decSpecial (writeNeed num.toNat) num.toNat raw s1 iss.core.toNat h = none)
    (value : (ctxAt s iss.core.toNat h).specialWrite num.toNat ((ctxAt s iss.core.toNat h).wr a.toNat) = y)
    (whole : y.rsmKind = (ctxAt s iss.core.toNat h).rsmKind) :
    ∃ t, exec (.mts iss a num) s = .next t ∧ Ran s t iss.core.toNat h y := by
  rw [← value] at whole ⊢
  exact hr.systemSets (fun s1 same => need s1 _ same) (fun s1 f same => modCtx_run same _) whole

theorem writtenPsw (p v : Word) : (if bit v 7 then setBit p 7 false else p) = if v.getLsbD 7 then p &&& ~~~128#36 else p := by
  rw [show setBit p 7 false = p &&& ~~~128#36 ||| 0#36 from rfl, BitVec.or_zero]
  rfl

theorem writtenWin (w v : Word) : setFld w 5 3 (fld v 5 3) = (w &&& ~~~56#36) ||| (v &&& 56#36) := by
  have mask : ∀ i < 36, (56#36).getLsbD i = decide (3 ≤ i ∧ i ≤ 5) := by decide
  ext i hi
  rw [← BitVec.getLsbD_eq_getElem, ← BitVec.getLsbD_eq_getElem, getLsbD_setFld, BitVec.getLsbD_or, BitVec.getLsbD_and,
    BitVec.getLsbD_not, BitVec.getLsbD_and, mask i hi]
  by_cases inside : 3 ≤ i ∧ i ≤ 5
  · rw [if_pos inside, testBit_fld, decide_eq_true inside, Nat.add_sub_cancel' inside.1]
    simp [hi, show i - 3 < 3 by omega]
  · rw [if_neg inside, decide_eq_false inside]
    simp [hi]

theorem writtenLevel (v : Word) :
    BitVec.ofNat 4 (min (fld v 3 0) 14) = if (v.setWidth 4 : BitVec 4) = 15 then 14 else v.setWidth 4 := by
  have value : fld v 3 0 = (v.setWidth 4 : BitVec 4).toNat := by rw [fld_low, BitVec.toNat_setWidth]
  rw [value]
  generalize (v.setWidth 4 : BitVec 4) = m
  revert m
  decide

theorem writtenVba (v : Word) : setFld v 8 0 0 = v &&& ~~~511#36 := by
  rw [show setFld v 8 0 0 = v &&& ~~~511#36 ||| 0#36 from rfl, BitVec.or_zero]

theorem tspFault_none {c : Cap} (tag : c.tag = true) (otype : c.otype = 58) : tspFault c = none := by
  simp [tspFault, tag, otype]

theorem fspFault_none {c : Cap} (tag : c.tag = true) (otype : c.otype = 0) (load : c.has .load = true) (store : c.has .store = true)
    (loadCap : c.has .loadCap = true) (storeCap : c.has .storeCap = true) (aligned : c.cursor % 16 = 0) : fspFault c = none := by
  simp [fspFault, tag, otype, load, store, loadCap, storeCap, aligned]

theorem FetchFrame.seenWord {n : Nat} {s t : State} (f : FetchFrame n s t) (pa : Nat) : seenWord t n pa = seenWord s n pa := by
  unfold Machine.seenWord
  rw [f.sb, SameRest.mget f.rest]

/-- What a pair that the core itself reads gives (R93, R279). -/
def seenPair (s : State) (n p : Nat) : Cap :=
  { hi := (seenWord s n p).1, lo := (seenWord s n (p + 1)).1, tag := (seenWord s n p).2 && (seenWord s n (p + 1)).2 }

/-- A pair that the core itself can read at va. -/
structure CanReadPair (s : State) (n h va p : Nat) : Prop where
  even : va % 2 = 0
  first : Reaches s n h 0 va .capLoad p
  second : Reaches s n h 0 (va + 1) .capLoad (p + 1)
  firstEcc : (mget s p).ecc ≠ .double
  secondEcc : (mget s (p + 1)).ecc ≠ .double

theorem CanReadPair.fetched {s t : State} {n h va p : Nat} (r : CanReadPair s n h va p) (hn : n < 128) (f : Fetched n s t) :
    CanReadPair t n h va p :=
  ⟨r.even, f.reaches hn (by decide) r.first, f.reaches hn (by decide) r.second, SameRest.mget f.frame.rest p ▸ r.firstEcc,
    SameRest.mget f.frame.rest (p + 1) ▸ r.secondEcc⟩

theorem CanReadPair.of_setCtx {s : State} {n h va p : Nat} (r : CanReadPair s n h va p) :
    CanReadPair (setCtx s n h (ctxAt s n h)) n h va p :=
  ⟨r.even, r.first.of_setCtx, r.second.of_setCtx, r.firstEcc, r.secondEcc⟩

theorem readPair_run {s : State} {n h va p : Nat} (hn : n < 128) (r : CanReadPair s n h va p) :
    ∃ t, readPair n h va s = .ok (seenPair s n p) t ∧ Fetched n s t := by
  obtain ⟨even, first, second, firstEcc, secondEcc⟩ := r
  obtain ⟨s1, hi, f1⟩ := seenLoad_run (n := n) (k := .capLoad) va first.there first.granted.2 firstEcc
  have second1 := f1.reaches hn (by decide) second
  obtain ⟨s2, lo, f2⟩ := seenLoad_run (n := n) (k := .capLoad) (va + 1) second1.there second1.granted.2
    (SameRest.mget f1.frame.rest (p + 1) ▸ secondEcc)
  rw [f1.frame.seenWord, f1.frame.stampOf] at lo
  refine ⟨s2, ?_, f1.trans f2⟩
  unfold readPair
  rw [if_neg (show ¬ va % 2 = 1 by omega)]
  refine (bind_ok first.resolve).trans ?_
  dsimp only
  rw [(memReach_ok_memory first.there).1]
  exact (bind_ok hi).trans ((bind_ok lo).trans rfl)

/-- The word of a capability register that CMTS may write. -/
theorem capWrite_need {s s1 : State} {n h : Nat} {num : BitVec 5} (need : capWriteNeed num.toNat = some .system)
    (priv : (ctxAt s n h).priv = 0) (system : (ctxAt s n h).pcc.has .system = true) (same : ctxAt s1 n h = ctxAt s n h) (raw : Word) :
    decSpecial (capWriteNeed num.toNat) num.toNat raw s1 n h = none := by
  rw [need]
  exact decSpecial_system (same ▸ priv) (same ▸ system)

theorem setTspOther_rsmKind (x : Ctx) (c : Cap) : (x.setTspOther c).rsmKind = x.rsmKind := by
  unfold Ctx.setTspOther
  split <;> rfl

/-- The write of the inactive task-state pointer (R276). -/
theorem cmtsBody_tsp {s : State} {n h a : Nat} {x : Ctx} (hx : ctxAt s n h = x) (good : tspFault (x.cr a) = none) :
    cmtsBody a 8 n h s = .ok () (setCtx s n h (x.setTspOther (x.cr a))) := by
  refine (get_bind _ s).trans ?_
  simp only [hx, good, if_true]
  exact modCtx_run hx _

/-- The write of the fault-state pointer, which takes the two handler capabilities from its region's end (R278, R279). -/
theorem cmtsBody_fsp {s : State} {n h a p q : Nat} {x : Ctx} (hn : n < 128) (hx : ctxAt s n h = x) (good : fspFault (x.cr a) = none)
    (hcc : CanReadPair s n h ((x.cr a).top - 4) p) (hdc : CanReadPair s n h ((x.cr a).top - 2) q) :
    ∃ t, cmtsBody a 9 n h s = .ok () t ∧
      BodyFrame n h s t { x with fsp := x.cr a, hcc := seenPair s n p, hdc := seenPair s n q } [] := by
  obtain ⟨s1, first, f1⟩ := readPair_run hn hcc
  obtain ⟨s2, second, f2⟩ := readPair_run hn (hdc.fetched hn f1)
  have pair : seenPair s1 n q = seenPair s n q := by
    unfold seenPair
    rw [f1.frame.seenWord, f1.frame.seenWord]
  rw [pair] at second
  have f := f1.trans f2
  refine ⟨_, (get_bind _ s).trans ?_, (BodyFrame.of_fetch f.frame).thenCtx _⟩
  simp only [hx, good, if_true, Nat.reduceEqDiff, if_false]
  refine (bind_ok first).trans ((bind_ok second).trans ?_)
  exact modCtx_run ((f.frame.ctx n h).trans hx) _

/-- The write of a gate entry (R276). -/
theorem cmtsBody_gate {s : State} {n h a k : Nat} {x : Ctx} (hx : ctxAt s n h = x) :
    cmtsBody a (16 + k) n h s = .ok () (setCtx s n h { x with ge := kset (fun _ => Cap.null) x.ge k (x.cr a) }) := by
  refine (get_bind _ s).trans ?_
  simp only [hx, show ¬ 16 + k = 8 by omega, show ¬ 16 + k = 9 by omega, if_false, Nat.add_sub_cancel_left]
  exact modCtx_run hx _

theorem specialWrites : Rule.SpecialWrites := by
  intro s iss h a c k hr n x v cv pairSeen writes caps
  have level : x.priv ≤ 1 → ∀ {num : BitVec 5}, writeNeed num.toNat = some (.level 1) → ∀ s1 raw,
      ctxAt s1 iss.core.toNat h = ctxAt s iss.core.toNat h →
      decSpecial (writeNeed num.toNat) num.toNat raw s1 iss.core.toNat h = none :=
    fun priv num e s1 raw same => by rw [e]; exact decSpecial_level (same ▸ priv)
  have system : x.priv = 0 → x.pcc.has .system = true → ∀ {num : BitVec 5}, writeNeed num.toNat = some .system → ∀ s1 raw,
      ctxAt s1 iss.core.toNat h = ctxAt s iss.core.toNat h →
      decSpecial (writeNeed num.toNat) num.toNat raw s1 iss.core.toNat h = none :=
    fun priv sys num e s1 raw same => by rw [e]; exact decSpecial_system (same ▸ priv) (same ▸ sys)
  refine ⟨fun priv => ⟨?_, ?_, ?_⟩, fun priv sys => ⟨?_, ?_, fun tag otype => ?_, fun p q tag otype load store loadCap storeCap aligned
    room even first second firstEcc secondEcc firstGate secondGate firstThere secondThere => ?_, ?_⟩⟩
  · exact hr.writesSpecial a 0 (level priv (by decide)) (congrArg (fun p => ({ x with psw := p } : Ctx)) (writtenPsw x.psw v)) rfl
  · exact hr.writesSpecial a 1 (level priv (by decide)) (congrArg (fun p => ({ x with win := p } : Ctx)) (writtenWin x.win v)) rfl
  · exact hr.writesSpecial a 2 (level priv (by decide)) (congrArg (fun p => ({ x with mlv := p } : Ctx)) (writtenLevel v)) rfl
  · exact hr.writesSpecial a 3 (system priv sys (by decide)) (congrArg (fun p => ({ x with vba := p } : Ctx)) (writtenVba v)) rfl
  · exact hr.writesSpecial a 4 (system priv sys (by decide)) rfl rfl
  · exact hr.systemSets (fun s1 same => capWrite_need (by decide) priv sys same _)
      (fun s1 f same => cmtsBody_tsp same (tspFault_none tag otype)) (setTspOther_rsmKind ..)
  · have hcc : CanReadPair s n h (cv.top - 4) p := ⟨by omega, first.reaches,
      ⟨first.reaches.translates.next (by omega), firstGate, firstThere⟩, first.2.2.2, firstEcc⟩
    have hdc : CanReadPair s n h (cv.top - 2) q := ⟨by omega, second.reaches,
      ⟨second.reaches.translates.next (by omega), secondGate, secondThere⟩, second.2.2.2, secondEcc⟩
    refine hr.systemRuns (fun s1 same => capWrite_need (by decide) priv sys same _) (fun s1 f same => ?_) rfl
    obtain ⟨t, run, kept⟩ := cmtsBody_fsp iss.core.isLt same (fspFault_none tag otype load store loadCap storeCap aligned)
      (hcc.of_setCtx.fetched iss.core.isLt f) (hdc.of_setCtx.fetched iss.core.isLt f)
    have pair : ∀ p, seenPair s1 n p = pairSeen p := fun p => by
      unfold seenPair
      rw [seenWord_fetched f, seenWord_fetched f]
    rw [pair, pair] at kept
    exact ⟨t, run, kept⟩
  · refine hr.systemSets (fun s1 same => capWrite_need (gateEntryNeed k).2 priv sys same _) (fun s1 f same => ?_) rfl
    rw [specialCapNumber]
    exact cmtsBody_gate same

/-! ### The maintenance of the TLBs -/

/-- What an issue does after its body, but for the end of the context: it counts, and signals a debug step. -/
theorem afterIssue_counts (s : State) (n h : Nat) (i : Insn) (iss : Iss) (old : Ctx) (hp : old.proofLoad = none)
    (hk : (ctxAt s n h).rsmKind = 0) : Within [.regs, .evTick, .events]
      (landed s n h ((ctxAt s n h).after (loadDst old i.raw))) (afterIssue s n h i iss old true .seq) := by
  have e : Ctx.advance { ctxAt s n h with
        fresh := Next.seq == Next.chain, stepping := false, lastLoad := loadDst old i.raw, barrier := none } =
      (ctxAt s n h).after (loadDst old i.raw) := by
    unfold Ctx.advance Ctx.after
    rw [show setFld (ctxAt s n h).rsm0 35 33 0 = (ctxAt s n h).rsm0 from setFld_self _ _ _ _ hk]
    rfl
  have uses : ∀ {u v}, Within [.regs, .evTick, .events] u v → Within [.regs, .evTick, .events] u (loadUse v n h old i.raw) := by
    intro u v w
    unfold loadUse
    split
    · exact .ite (perf_within w ..) w
    · exact w
  unfold afterIssue
  simp only [hp, e, if_true]
  have counted := uses (.ite (c := iss.q = 0 ∧ iss.neg = false) (perf_within (.refl _) n h 65 1)
    (perf_within (perf_within (.refl (landed s n h ((ctxAt s n h).after (loadDst old i.raw)))) n h 65 1) n h 67 i.brCost))
  exact .ite (irqPend_within counted ..) counted

/-- An instruction whose body leaves no access in stage M, by what its issue does after it. -/
theorem issue_body_counts {s s1 s2 : State} {iss : Iss} {h : Nat} {i : Insn} (hr : Ready s iss h)
    (hfetch : fetchIssue iss.core.toNat h (setCtx s iss.core.toNat h (ctxAt s iss.core.toNat h)) = .ok () s1)
    (hdec : i.dec s1 iss.core.toNat h = none) (hbody : i.body iss.core.toNat h s1 = .ok .seq s2)
    (hm : (coreAt s2 iss.core.toNat).mstage = none) (hgone : coreGone s2 iss.core.toNat = false)
    (hk : (ctxAt s2 iss.core.toNat h).rsmKind = 0) :
    ∃ t, issue s iss i = .next t ∧ Within [.regs, .evTick, .events]
      (landed s2 iss.core.toNat h ((ctxAt s2 iss.core.toNat h).after (loadDst (ctxAt s iss.core.toNat h) i.raw))) t := by
  obtain ⟨issues, boundary, unloadedAt, -, whole, guard⟩ := hr
  have same : ctxAt s1 iss.core.toNat h = ctxAt s iss.core.toNat h := by
    rw [(fetchIssue_keeps _ h _ _ _ hfetch).ctx, ctxAt_setCtx_same]
  have unloaded : ({ ctxAt s iss.core.toNat h with proofLoad := none } : Ctx) = ctxAt s iss.core.toNat h := by rw [← unloadedAt]
  have ran := issueX_of_body hfetch same whole guard hdec hbody
  rw [← unloaded] at ran
  obtain ⟨atIt, notBlocked⟩ := issuer_boundary s _ h issues boundary
  have run := issue_of_run rfl atIt notBlocked (coreIssues_live s _ h issues).2.2 ran hgone
  rw [keepUndo_none s2 _ _ hm] at run
  exact ⟨_, run, afterIssue_counts s2 _ h i iss _ unloadedAt hk⟩

/-- No entry of a first-level TLB or of the DMA engine's that an invalidation covers stays in its block (R322). -/
theorem invalidate_covers (c : Core) (sc : Scope) :
    ∀ e ∈ (c.invalidate sc).itlb ++ (c.invalidate sc).dtlb ++ (c.invalidate sc).dmatlb, sc.covers e.vpn = false := by
  intro e he
  simp only [Core.invalidate, List.mem_append, List.mem_filter, Bool.not_eq_true'] at he
  rcases he with (⟨-, h⟩ | ⟨-, h⟩) | ⟨-, h⟩ <;> exact h

/-- Nor does one of the second level. -/
theorem invalidate_covers_l2 (c : Core) (sc : Scope) :
    ∀ b ∈ (c.invalidate sc).l2tlb, ∀ e, some e ∈ b.2 → sc.covers e.vpn = false := by
  intro b hb e he
  obtain ⟨a, -, rfl⟩ := List.mem_map.mp (List.mem_filter.mp hb).1
  obtain ⟨o, -, ho⟩ := List.mem_map.mp he
  simpa using (Option.filter_eq_some_iff.mp ho).2

theorem postInval_cores (s : State) (p : Poster) (sc : Scope) (dests : List Nat) : (postInval s p sc dests).cores = s.cores := by
  unfold postInval
  split <;> rfl

/-- A posted invalidation is kept where it has a receiver, and takes a number always. -/
theorem postInval_posts (s : State) (p : Poster) (sc : Scope) (dests : List Nat) :
    (postInval s p sc dests).postId = s.postId + 1 ∧ (postInval s p sc dests).mem = s.mem ∧
    (dests ≠ [] → (postInval s p sc dests).posts = s.posts ++ [{ id := s.postId, poster := p, scope := sc, todo := dests, acking := [] }]) ∧
    (dests = [] → (postInval s p sc dests).posts = s.posts) := by
  unfold postInval
  cases dests with
  | nil => exact ⟨rfl, rfl, fun h => absurd rfl h, fun _ => rfl⟩
  | cons a r => exact ⟨rfl, rfl, fun _ => rfl, fun h => absurd h (List.cons_ne_nil a r)⟩

theorem coreGone_postInval (s : State) (p : Poster) (sc : Scope) (dests : List Nat) (n : Nat) :
    coreGone (postInval s p sc dests) n = coreGone s n := by
  unfold postInval
  split <;> exact coreGone_congr _ _ n rfl rfl rfl rfl

theorem SameRest.postTargets {s t : State} (f : SameRest s t) : postTargets t = postTargets s := by
  unfold Machine.postTargets coreNos dom isolatedRegion
  rw [f]
  rfl

theorem coreAt_tlbInvalidate (s : State) (n h : Nat) (sc : Scope) : coreAt (tlbInvalidate s n h sc) n = (coreAt s n).invalidate sc := by
  unfold tlbInvalidate coreAt
  rw [postInval_cores]
  exact coreAt_setCore_same ..

/-- What TLBI does to the posted invalidations and to memory. -/
theorem tlbInvalidate_posts (s : State) (n h : Nat) (sc : Scope) :
    let others := (postTargets s).filter (fun m => m != n)
    let t := tlbInvalidate s n h sc
    t.postId = s.postId + 1 ∧ t.mem = s.mem ∧
    (others ≠ [] → t.posts = s.posts ++ [{ id := s.postId, poster := .core n h, scope := sc, todo := others, acking := [] }]) ∧
    (others = [] → t.posts = s.posts) :=
  postInval_posts (setCore s n ((coreAt s n).invalidate sc)) (.core n h) sc _

theorem coreGone_tlbInvalidate (s : State) (n h : Nat) (sc : Scope) : coreGone (tlbInvalidate s n h sc) n = coreGone s n :=
  (coreGone_postInval ..).trans (coreGone_congr s _ n rfl rfl rfl rfl)

/-- What the end of an instruction leaves of a block's translations. -/
theorem landed_tlbs {s t : State} {n h : Nat} {y : Ctx} (w : Within [.regs, .evTick, .events] (landed s n h y) t) :
    ctxAt t n h = y ∧ (coreAt t n).itlb = (coreAt s n).itlb ∧ (coreAt t n).dtlb = (coreAt s n).dtlb ∧
      (coreAt t n).dmatlb = (coreAt s n).dmatlb ∧ (coreAt t n).l2tlb = (coreAt s n).l2tlb := by
  have block : coreAt t n = coreAt (landed s n h y) n := congrArg (fun c => kget (fun _ => Core.init) c n) w.cores
  have ended : ctxAt (landed s n h y) n h = y := by rw [ctxAt_landed, ctxAt_setCtx_same]
  refine ⟨?_, ?_⟩
  · unfold ctxAt at ended ⊢
    rw [block, ended]
  · rw [block, coreAt_landed]
    exact ⟨rfl, rfl, rfl, rfl⟩

/-- A system instruction that posts an invalidation and ends: its block has performed it. -/
theorem Ready.invalidates {s : State} {iss : Iss} {h : Nat} (hr : Ready s iss h) {raw : Word}
    {dec : State → Nat → Nat → Option Trap} {body : Nat → Nat → X Unit} (sc : Scope)
    (hdec : ∀ s1, ctxAt s1 iss.core.toNat h = ctxAt s iss.core.toNat h → dec s1 iss.core.toNat h = none)
    (hbody : ∀ s1, Fetched iss.core.toNat (setCtx s iss.core.toNat h (ctxAt s iss.core.toNat h)) s1 →
      ctxAt s1 iss.core.toNat h = ctxAt s iss.core.toNat h →
      body iss.core.toNat h s1 = .ok () (tlbInvalidate s1 iss.core.toNat h sc)) :
    ∃ s1 t l, SameRest s s1 ∧ issue s iss (sysInsn raw dec body) = .next t ∧
      Within [.regs, .evTick, .events] (Machine.landed (tlbInvalidate s1 iss.core.toNat h sc) iss.core.toNat h
        ((ctxAt s iss.core.toNat h).after l)) t := by
  obtain ⟨s1, fetched, f, same⟩ := hr.fetches
  obtain ⟨alive, -, free⟩ := coreIssues_live s _ h hr.issues
  have rest : SameRest s s1 := SameRest.trans (SameRest.setCtx s _ h _) f.frame.rest
  have block := coreAt_tlbInvalidate s1 iss.core.toNat h sc
  have ctx : ctxAt (tlbInvalidate s1 iss.core.toNat h sc) iss.core.toNat h = ctxAt s iss.core.toNat h :=
    (congrArg (fun c => Core.ctx c h) block).trans same
  have mstage : (coreAt (tlbInvalidate s1 iss.core.toNat h sc) iss.core.toNat).mstage = none := by
    obtain ⟨_, _, _, _, _, _, _, b⟩ := f.frame.block
    rw [block]
    show (coreAt s1 iss.core.toNat).mstage = none
    rw [b, coreAt_setCtx_same]
    exact free
  have gone : coreGone (tlbInvalidate s1 iss.core.toNat h sc) iss.core.toNat = false := by
    rw [coreGone_tlbInvalidate, coreGone_congr s]
    · exact coreGone_false s _ alive
    all_goals rw [rest]; rfl
  obtain ⟨t, run, counts⟩ := issue_body_counts hr (i := sysInsn raw dec body) fetched (hdec s1 same)
    ((bind_ok (hbody s1 f same)).trans rfl) mstage gone (by rw [ctx]; exact hr.whole)
  rw [ctx] at counts
  exact ⟨s1, t, _, rest, run, counts⟩

theorem storesDone_run {s s1 : State} {n h : Nat} (f : Fetched n (setCtx s n h (ctxAt s n h)) s1)
    (others : ∀ e ∈ (coreAt s n).sb, e.stamp.ctx.toNat ≠ h) : storesDone n h s1 = .ok () s1 := by
  refine (get_bind _ s1).trans ?_
  exact congrFun (if_neg (ne_true_of_eq_false (storesOfOthers f others))) s1

theorem tlbMaintenance : Rule.TlbMaintenance := by
  intro s iss h a hr n x w others priv buffered effect
  have posts : ∀ (i : Instr) (sc : Scope), (∃ s1 t l, SameRest s s1 ∧ exec i s = .next t ∧
      Within [.regs, .evTick, .events] (landed (tlbInvalidate s1 n h sc) n h (x.after l)) t) → effect i sc := by
    rintro i sc ⟨s1, t, l, rest, run, counts⟩
    obtain ⟨postId, mem, posted, unposted⟩ := tlbInvalidate_posts s1 n h sc
    obtain ⟨ctx, itlb, dtlb, dmatlb, l2tlb⟩ := landed_tlbs counts
    have block := coreAt_tlbInvalidate s1 n h sc
    have targets : (postTargets s1).filter (fun m => m != n) = others := by rw [rest.postTargets]
    have kept : s1.posts = s.posts ∧ s1.postId = s.postId ∧ s1.mem = s.mem := by
      rw [rest]
      exact ⟨rfl, rfl, rfl⟩
    rw [targets, kept.1, kept.2.1] at posted
    rw [targets, kept.1] at unposted
    refine ⟨t, run, ?_, ?_, counts.postId.trans (postId.trans (by rw [kept.2.1])), fun some => counts.posts.trans (posted some),
      fun none => counts.posts.trans (unposted none), counts.mem.trans (mem.trans kept.2.2), l, ctx⟩
    · rw [itlb, dtlb, dmatlb, block]
      exact invalidate_covers _ sc
    · rw [l2tlb, block]
      exact invalidate_covers_l2 _ sc
  have named : ∀ (s1 : State) (sc : Scope), ctxAt s1 n h = x →
      (if bit w 35 then Scope.sect (fld w 29 20) else .page (fld w 29 10)) = sc →
      (upd fun s => tlbInvalidate s n h
        (if bit ((ctxAt s n h).wr a.toNat) 35 then .sect (fld ((ctxAt s n h).wr a.toNat) 29 20)
          else .page (fld ((ctxAt s n h).wr a.toNat) 29 10))) s1 = .ok () (tlbInvalidate s1 n h sc) := by
    intro s1 sc same scope
    rw [← scope, ← show (ctxAt s1 n h).wr a.toNat = w from congrArg (fun y => y.wr a.toNat) same]
    rfl
  refine ⟨fun page => posts _ _ ?_, fun sect => posts _ _ ?_, posts _ _ ?_⟩
  · exact hr.invalidates (.page (fld w 29 10)) (fun s1 same => decPriv_none (same ▸ priv)) fun s1 f same =>
      (bind_ok (storesDone_run f buffered)).trans (named s1 _ same (if_neg (ne_true_of_eq_false page)))
  · exact hr.invalidates (.sect (fld w 29 20)) (fun s1 same => decPriv_none (same ▸ priv)) fun s1 f same =>
      (bind_ok (storesDone_run f buffered)).trans (named s1 _ same (if_pos sect))
  · exact hr.invalidates .all (fun s1 same => decPriv_none (same ▸ priv)) fun s1 f same =>
      (bind_ok (storesDone_run f buffered)).trans rfl

/-- Settles O17, instruction by instruction: what each sets of its context, and what TLBI and TLBIA do to the TLBs. -/
theorem systemInstructions : Obligations.SystemInstructions :=
  ⟨waitsAndBarriers, specialReads, specialWrites, tlbMaintenance⟩

end Sys2Proof.Machine

namespace Sys2Proof.Machine
open Sys2Proof Sys2Proof.Machine
set_option Elab.async false

/-! ## The crossbars (R35, R37, R38, R523, R524) -/

section LinkLaws
variable {s : State}

@[simp] theorem linkAt_setLink_same (k : Nat) (l : Link) : linkAt (setLink s k l) k = l := by simp [linkAt, setLink]

theorem linkAt_setLink_other {k m : Nat} (l : Link) (h : m ≠ k) : linkAt (setLink s k l) m = linkAt s m := by
  simp [linkAt, setLink, kget_kset_other _ _ _ h]

end LinkLaws

section PoolLaws
variable (l : Link) (b : Bool)

@[simp] theorem pool_setPool_same (p : Pool) : (l.setPool b p).pool b = p := by cases b <;> rfl
@[simp] theorem pool_setPool_other (p : Pool) : (l.setPool b p).pool (!b) = l.pool (!b) := by cases b <;> rfl
@[simp] theorem pool_setDests (c : Bool) (d : List Nat) : (l.setDests b d).pool c = l.pool c := by cases b <;> cases c <;> rfl
@[simp] theorem dests_setDests (d : List Nat) : (l.setDests b d).dests b = d := by cases b <;> rfl
@[simp] theorem dests_setPool (c : Bool) (p : Pool) : (l.setPool b p).dests c = l.dests c := by cases b <;> cases c <;> rfl

end PoolLaws

/-- The input granted next is the first after the one granted last in the cyclic order (R38). -/
theorem nextInput_turn {l : List Nat} {last p : Nat} (sorted : l.Pairwise (· < ·)) (small : ∀ q ∈ l, q < 7) (hl : last < 7)
    (mem : p ∈ l) (first : ∀ q ∈ l, (p + 13 - last) % 7 ≤ (q + 13 - last) % 7) : nextInput last l = some p := by
  have hp := small p mem
  unfold nextInput
  split
  next q found =>
    obtain ⟨after, before, rest, rfl, skipped⟩ := List.find?_eq_some_iff_append.mp found
    have hq : q ∈ before ++ q :: rest := by simp
    have turn := first q hq
    have q7 := small q hq
    have after : last < q := by simpa using after
    have ahead : last < p ∧ p ≤ q := by omega
    rw [List.mem_append, List.mem_cons] at mem
    rcases mem with mem | rfl | mem
    · exact absurd ahead.1 (by simpa using skipped p mem)
    · rfl
    · have := (List.pairwise_cons.mp (List.pairwise_append.mp sorted).2.1).1 p mem
      omega
  next found =>
    have behind : ∀ q ∈ l, ¬ last < q := by simpa using found
    cases l with
    | nil => exact absurd mem List.not_mem_nil
    | cons a rest =>
      have turn := first a List.mem_cons_self
      have pl := behind p mem
      have al := behind a List.mem_cons_self
      rcases List.mem_cons.mp mem with rfl | mem
      · rfl
      · have := (List.pairwise_cons.mp sorted).1 p mem
        omega

theorem requesters_sorted (s : State) (g o : Nat) (timed : Bool) :
    (requesters s g o timed).Pairwise (· < ·) ∧ ∀ q ∈ requesters s g o timed, q < 7 := by
  unfold requesters
  split
  · exact ⟨.nil, fun q h => absurd h List.not_mem_nil⟩
  · exact ⟨List.pairwise_lt_range.filter _, fun q h => List.mem_range.mp (List.mem_filter.mp h).1⟩

/-- The grant of an output (R37, R38). -/
theorem grantNext_eq {s : State} {g o p : Nat} {timed : Bool} {last : Nat}
    (hlast : (if timed then (linkAt s (8 * g + o)).rrTimed else (linkAt s (8 * g + o)).rrBulk) = last) (hl : last < 7)
    (mem : p ∈ requesters s g o timed) (first : ∀ q ∈ requesters s g o timed, (p + 13 - last) % 7 ≤ (q + 13 - last) % 7)
    (timedFirst : timed = true → requesters s g o false = [] ∨ (linkAt s (8 * g + o)).bulkSkip < 7)
    (bulkDue : timed = false → requesters s g o true = [] ∨ 7 ≤ (linkAt s (8 * g + o)).bulkSkip) :
    grantNext s g o = some (p, timed) := by
  obtain ⟨sorted, small⟩ := requesters_sorted s g o timed
  have next := nextInput_turn sorted small hl mem first
  have asks : (requesters s g o timed).isEmpty = false := by
    cases h : requesters s g o timed with
    | nil => exact absurd (h ▸ mem) List.not_mem_nil
    | cons a r => rfl
  unfold grantNext
  cases timed with
  | true =>
    have timedTurn : ¬ ((requesters s g o false).isEmpty = false ∧
        ((requesters s g o true).isEmpty = true ∨ 7 ≤ (linkAt s (8 * g + o)).bulkSkip)) := by
      rintro ⟨some, none | due⟩
      · rw [asks] at none
        cases none
      · rcases timedFirst rfl with empty | early
        · rw [empty] at some
          cases some
        · omega
    simp only [timedTurn, if_false]
    rw [show (linkAt s (8 * g + o)).rrTimed = last from hlast, next]
    rfl
  | false =>
    have bulkTurn : (requesters s g o false).isEmpty = false ∧
        ((requesters s g o true).isEmpty = true ∨ 7 ≤ (linkAt s (8 * g + o)).bulkSkip) :=
      ⟨asks, (bulkDue rfl).imp_left fun e => by rw [e]; rfl⟩
    simp only [bulkTurn, if_true, and_self]
    rw [show (linkAt s (8 * g + o)).rrBulk = last from hlast, next]
    rfl

/-- The links after a grant of input p at output o. -/
def Link.given (l : Link) (timed : Bool) : Link :=
  let q := l.pool timed
  (l.setPool timed { q with b := q.b - 1, r := q.r + 1 }).setDests timed ((l.dests timed).drop 1)

def Link.granted (l : Link) (p : Nat) (timed waits : Bool) : Link :=
  let q := l.pool timed
  let m := l.setPool timed { q with s := q.s - 1, f := q.f + 1 }
  if timed then { m with rrTimed := p, bulkSkip := if waits then l.bulkSkip + 1 else 0 } else { m with rrBulk := p, bulkSkip := 0 }

theorem grant_eq (s : State) {g o p : Nat} (timed : Bool) (apart : 8 * g + o ≠ 256 + 8 * g + p) : grant s g o p timed =
    setLink (setLink s (256 + 8 * g + p) ((linkAt s (256 + 8 * g + p)).given timed)) (8 * g + o)
      ((linkAt s (8 * g + o)).granted p timed (!(requesters s g o false).isEmpty)) := by
  unfold grant
  dsimp only
  rw [linkAt_setLink_other _ apart]
  rfl

theorem portFails_links (s : State) (g o : Nat) : (portFails s g o).links = s.links ∧
    (o < 4 → 4 * g + o ∈ (portFails s g o).badPorts) ∧ (o = 4 → 128 + g ∈ (portFails s g o).badPorts) ∧
    portFails s g o = { s with badPorts := (portFails s g o).badPorts } := by
  unfold portFails blockPort
  by_cases core : o < 4
  · rw [if_pos core]
    exact ⟨rfl, fun _ => by simp, fun h => by omega, rfl⟩
  · rw [if_neg core]
    by_cases channels : o = 4
    · rw [if_pos channels]
      exact ⟨rfl, fun h => absurd h core, fun _ => by simp, rfl⟩
    · rw [if_neg channels]
      exact ⟨rfl, fun h => absurd h core, fun h => absurd h channels, rfl⟩

theorem ports_of_links {s a b : State} (h : a = { s with links := a.links }) (k : b = { a with badPorts := b.badPorts }) :
    b = { s with links := b.links, badPorts := b.badPorts } := by
  generalize a.links = l at h
  subst h
  generalize b.badPorts = p at k
  subst k
  rfl

/-- Settles O23: the cyclic order names the input, and the grant writes two links alone. -/
theorem crossbarGrants : Obligations.CrossbarGrants := by
  intro s region output input timed parity g o p out inp last turn works mem hl first timedFirst bulkDue x y
  have apart : out ≠ inp := by
    have := region.isLt
    have := output.isLt
    show 8 * g + o ≠ 256 + 8 * g + p
    omega
  have next : grantNext s g o = some (p, timed) := grantNext_eq rfl hl mem first timedFirst bulkDue
  have s1 := grant_eq s timed apart
  let u := if parity then portFails (grant s g o p timed) g o else grant s g o p timed
  have run : exec (.crossbarGrant region output input ⟨timed, parity⟩) s = .next u := congrArg done (if_pos ⟨works, next⟩)
  obtain ⟨fails, corePort, chanPort, rest⟩ := portFails_links (grant s g o p timed) g o
  have links : u.links = (grant s g o p timed).links := by
    cases parity with
    | false => rfl
    | true => exact fails
  have at_ : ∀ k, linkAt u k = linkAt (grant s g o p timed) k := fun k => congrArg (fun l => kget linkDefault l k) links
  have atInp : linkAt u inp = (linkAt s inp).given timed := by
    rw [at_, s1, linkAt_setLink_other _ (Ne.symm apart), linkAt_setLink_same]
  have atOut : linkAt u out = (linkAt s out).granted p timed (!(requesters s g o false).isEmpty) := by
    rw [at_, s1, linkAt_setLink_same]
  refine ⟨u, run, ?_, ?_, ?_, fun isTimed => ?_, fun isBulk => ?_, ?_, ?_, fun k notInp notOut => ?_, fun good => ?_,
    fun bad core => ?_, fun bad channels => ?_, ?_⟩
  · rw [atInp]
    cases timed <;> rfl
  · rw [atInp]
    cases timed <;> rfl
  · rw [atOut]
    cases timed <;> rfl
  · rw [atOut, isTimed]
    cases requesters s g o false <;> exact ⟨rfl, rfl⟩
  · rw [atOut, isBulk]
    exact ⟨rfl, rfl⟩
  · rw [atInp]
    cases timed <;> rfl
  · rw [atOut]
    cases timed <;> rfl
  · rw [at_, s1, linkAt_setLink_other _ notOut, linkAt_setLink_other _ notInp]
  · subst good
    rfl
  · subst bad
    exact corePort core
  · subst bad
    exact chanPort channels
  · cases parity with
    | false => rfl
    | true => exact ports_of_links (by rw [s1]; rfl) rest

end Sys2Proof.Machine

namespace Sys2Proof.Machine
open Sys2Proof Sys2Proof.Machine
set_option Elab.async false

/-! ## Units and credits of a link (R522 to R528) -/

theorem setLink_setLink (s : State) (k : Nat) (a b : Link) : setLink (setLink s k a) k b = setLink s k b := by
  unfold setLink
  dsimp only
  rw [kset_kset]

/-- A state of which one link alone has changed. -/
def OnlyLink (s t : State) (k : Nat) : Prop := (∀ j, j ≠ k → linkAt t j = linkAt s j) ∧ t = { s with links := t.links }

theorem setLink_only (s : State) (k : Nat) (l : Link) : OnlyLink s (setLink s k l) k :=
  ⟨fun _ h => linkAt_setLink_other l h, rfl⟩

/-- What a grant of a direction at a time leaves of it. -/
def Link.afterGrant (l : Link) (k now : Nat) : Link :=
  let t := decide (0 < l.tWait ∧ 0 < l.timed.s)
  let b := decide (0 < l.bWait ∧ 0 < l.bulk.s)
  if l.st ≠ .up ∨ l.sentAt = some now ∨ replayCap k ≤ l.replay.length then l
  else if b && (!t || decide (7 ≤ l.bulkSkip)) then
    { l.send k false with bWait := l.bWait - 1, bulkSkip := 0, sentAt := some now }
  else if t then { l.send k true with tWait := l.tWait - 1, bulkSkip := if b then l.bulkSkip + 1 else 0, sentAt := some now }
  else l

theorem linkGrant_setLink (s : State) (k : Nat) (l : Link) :
    linkGrant (setLink s k l) k = setLink s k (l.afterGrant k s.ticks) := by
  unfold linkGrant
  dsimp only
  rw [linkAt_setLink_same]
  simp only [setLink_setLink]
  show (if _ then setLink s k l else if _ then setLink s k _ else if _ then setLink s k _ else setLink s k l) = _
  rw [← apply_ite (setLink s k), ← apply_ite (setLink s k), ← apply_ite (setLink s k)]
  rfl

section Waiting
variable {l : Link} {k now : Nat}

/-- A direction that has granted in this fabric cycle grants no more. -/
theorem afterGrant_done (granted : l.sentAt = some now) : l.afterGrant k now = l := if_pos (.inr (.inl granted))

theorem mayGrant (up : l.st = .up) (fresh : l.sentAt ≠ some now) (room : l.replay.length < replayCap k) :
    ¬ (l.st ≠ .up ∨ l.sentAt = some now ∨ replayCap k ≤ l.replay.length) := by
  rintro (h | h | h)
  · exact h up
  · exact fresh h
  · omega

/-- The unit that waits alone is granted. -/
theorem afterGrant_alone (timed : Bool) (up : l.st = .up) (fresh : l.sentAt ≠ some now) (room : l.replay.length < replayCap k)
    (credit : 0 < (l.pool timed).s) (noTimed : l.tWait = 0) (noBulk : l.bWait = 0) :
    (l.addWaits timed 1).afterGrant k now = { l.send k timed with bulkSkip := 0, sentAt := some now } := by
  unfold Link.afterGrant
  cases timed with
  | true =>
    refine (if_neg (mayGrant up fresh room)).trans ?_
    have credit : 0 < l.timed.s := credit
    simp [Link.addWaits, Link.send, noTimed, noBulk, credit, Link.pool, Link.setPool]
  | false =>
    refine (if_neg (mayGrant up fresh room)).trans ?_
    have credit : 0 < l.bulk.s := credit
    simp [Link.addWaits, Link.send, noTimed, noBulk, credit, Link.pool, Link.setPool]

/-- Of a timed and a bulk unit that wait, the timed one is granted, but the bulk one when it has waited through 7 grants (R37). -/
theorem afterGrant_bulk (up : l.st = .up) (fresh : l.sentAt ≠ some now) (room : l.replay.length < replayCap k)
    (waits : 0 < l.tWait) (timedCredit : 0 < l.timed.s) (bulkCredit : 0 < l.bulk.s) :
    (l.addWaits false 1).afterGrant k now =
      if 7 ≤ l.bulkSkip then { l.send k false with bulkSkip := 0, sentAt := some now }
      else { l.send k true with
        tWait := l.tWait - 1, bWait := l.bWait + 1, bulkSkip := l.bulkSkip + 1, sentAt := some now } := by
  unfold Link.afterGrant
  refine (if_neg (mayGrant up fresh room)).trans ?_
  by_cases due : 7 ≤ l.bulkSkip <;>
    simp [Link.addWaits, Link.send, waits, timedCredit, bulkCredit, Link.pool, Link.setPool, due]

end Waiting

/-- A unit for a direction of a bridge or of Causeway waits for its grant, which it may get at once. -/
theorem transmit_waits {s : State} {k dest : Nat} (timed : Bool) (up : (linkAt s k).st = .up) (outer : 512 ≤ k)
    (way : onItsWay s k dest = true) :
    transmit s k timed dest = setLink s k (((linkAt s k).addWaits timed 1).afterGrant k s.ticks) := by
  unfold transmit
  have notCrossbar : ¬ ((linkAt s k).st ≠ .up ∧ ((linkAt s k).st ≠ .retrain ∨ k < 512) ∨ k < 256) := by
    rintro (h | h)
    · exact h.1 up
    · omega
  dsimp only
  rw [if_neg notCrossbar, if_neg (by omega), if_pos way, linkGrant_setLink]

/-- At a crossbar input a unit with a credit is sent. -/
theorem transmit_sends {s : State} {k dest : Nat} (timed : Bool) (up : (linkAt s k).st = .up) (low : 256 ≤ k) (high : k < 512)
    (credit : 0 < ((linkAt s k).pool timed).s) (out : dest < 7) :
    transmit s k timed dest = setLink s k (((linkAt s k).setPool timed { (linkAt s k).pool timed with
      s := ((linkAt s k).pool timed).s - 1, f := ((linkAt s k).pool timed).f + 1 }).setDests timed
        ((linkAt s k).dests timed ++ [dest])) := by
  unfold transmit
  have crossbar : ¬ ((linkAt s k).st ≠ .up ∧ ((linkAt s k).st ≠ .retrain ∨ k < 512) ∨ k < 256) := by
    rintro (h | h)
    · exact h.1 up
    · omega
  dsimp only
  rw [if_neg crossbar, if_pos high, if_pos ⟨credit, out⟩]

/-- The arrival of a unit at a buffer with room. -/
theorem receive_room {s : State} {k seq : Nat} (timed good : Bool) (up : (linkAt s k).st = .up)
    (flight : 0 < ((linkAt s k).pool timed).f) (room : ((linkAt s k).pool timed).b < capOf k timed) :
    receive s k timed seq good =
      if k < 512 then setLink s k ((linkAt s k).setPool timed { (linkAt s k).pool timed with
        f := ((linkAt s k).pool timed).f - 1, b := ((linkAt s k).pool timed).b + 1 })
      else if good = true ∧ seq % seqMod k = (linkAt s k).rxSeq then
        setLink s k { (linkAt s k).setPool timed { (linkAt s k).pool timed with
          f := ((linkAt s k).pool timed).f - 1, b := ((linkAt s k).pool timed).b + 1 } with
          rxSeq := ((linkAt s k).rxSeq + 1) % seqMod k, nakOut := none }
      else setLink s k { linkAt s k with nakOut := some (linkAt s k).rxSeq } := by
  unfold receive
  dsimp only
  rw [if_neg (not_not.mpr up), if_neg room.ne, if_neg flight.ne']

/-- A credit on its way back reaches the sender (R523). -/
theorem creditBack_back {s : State} {k : Nat} (timed : Bool) (up : (linkAt s k).st = .up) (back : 0 < ((linkAt s k).pool timed).r) :
    creditBack s k timed = setLink s k ((linkAt s k).setPool timed { (linkAt s k).pool timed with
      s := ((linkAt s k).pool timed).s + 1, r := ((linkAt s k).pool timed).r - 1 }) := by
  unfold creditBack
  have sends : ¬ ((linkAt s k).st = .retrain ∧ 512 ≤ k) := fun h => by
    rw [up] at h
    cases h.1
  dsimp only
  rw [if_neg sends, if_neg (not_not.mpr up), if_pos back]

theorem seqMod_pos (k : Nat) : 0 < seqMod k := by
  unfold seqMod
  split <;> omega

/-- The distance of a sequence number from the first unit of the replay buffer (R528). -/
theorem ackDistance {m q i seq : Nat} (hq : q < m) (hi : i + 1 < m) (hs : seq % m = (q + i) % m) :
    (seq % m + 1 + m - q) % m = i + 1 := by
  rw [hs]
  by_cases wraps : q + i < m
  · rw [Nat.mod_eq_of_lt wraps, show q + i + 1 + m - q = i + 1 + m by omega, Nat.add_mod_right, Nat.mod_eq_of_lt hi]
  · rw [show q + i = q + i - m + m by omega, Nat.add_mod_right,
      Nat.mod_eq_of_lt (show q + i - m < m by omega), show q + i - m + 1 + m - q = i + 1 by omega, Nat.mod_eq_of_lt hi]

theorem setPool_st (l : Link) (timed : Bool) (p : Pool) : (l.setPool timed p).st = l.st ∧ (l.setPool timed p).replay = l.replay ∧
    (l.setPool timed p).txSeq = l.txSeq := by cases timed <;> exact ⟨rfl, rfl, rfl⟩

/-- An acknowledgement that names a unit of the replay buffer. -/
theorem ackReceived_named {s : State} {k seq q i : Nat} {v : Bool} {rest : List (Nat × Bool)} {l : Link} (up : l.st = .up)
    (hr : l.replay = (q, v) :: rest) (hq : q < seqMod k) (hi : i ≤ rest.length) (hm : rest.length + 1 < seqMod k)
    (hs : seq % seqMod k = (q + i) % seqMod k) :
    ackReceived (setLink s k l) k seq = setLink s k { l with replay := rest.drop i } := by
  unfold ackReceived
  dsimp only
  rw [linkAt_setLink_same, if_neg (not_not.mpr up), hr]
  dsimp only
  rw [ackDistance hq (by omega) hs, if_neg (by rw [List.length_cons]; omega), setLink_setLink, List.drop_succ_cons]

/-- Settles O24: each command sets its own link alone. -/
theorem unitsAndCredits : Obligations.UnitsAndCredits := by
  intro s link traffic bits dest seq k l timed p works up only sends sent
  have sets : ∀ {c : Instr} {t : State} {y : Link}, exec c s = .next t → t = setLink s k y → only t ∧ linkAt t k = y := by
    rintro c t y - rfl
    exact ⟨setLink_only s k y, linkAt_setLink_same ..⟩
  have transmits : exec (.unitTransmit link traffic dest) s = .next (transmit s k timed dest.toNat) := congrArg done (if_pos works)
  have receives : exec (.unitReceive link timed seq bits) s = .next (receive s k timed seq.toNat (crcGood k bits)) :=
    congrArg done (if_pos works)
  refine ⟨fun credit low high out => ⟨_, transmits, sets transmits (transmit_sends timed up low high credit out)⟩,
    fun outer way room => ?_, fun flight space inner => ⟨_, receives, sets receives ?_⟩,
    fun flight space outer good next => ⟨_, receives, sets receives ?_⟩,
    fun flight space outer bad => ⟨_, receives, sets receives ?_⟩, fun back => ?_, fun q v rest i back outer hr hq hi hm hs => ?_⟩
  · have waits := transmit_waits timed up outer way
    refine ⟨fun credit noTimed noBulk fresh => ⟨_, transmits, sets transmits (waits.trans ?_)⟩,
      fun isTimed granted => ⟨_, transmits, sets transmits (waits.trans ?_)⟩,
      fun isBulk granted => ⟨_, transmits, sets transmits (waits.trans ?_)⟩,
      fun isBulk fresh some timedCredit bulkCredit => ⟨fun early => ⟨_, transmits, sets transmits (waits.trans ?_)⟩,
        fun due => ⟨_, transmits, sets transmits (waits.trans ?_)⟩⟩⟩
    · rw [afterGrant_alone timed up fresh room credit noTimed noBulk]
      rfl
    · rw [isTimed, afterGrant_done (l := (linkAt s k).addWaits true 1) granted]
      rfl
    · rw [isBulk, afterGrant_done (l := (linkAt s k).addWaits false 1) granted]
      rfl
    · rw [isBulk, afterGrant_bulk up fresh room some timedCredit bulkCredit, if_neg (by omega)]
      rfl
    · rw [isBulk, afterGrant_bulk up fresh room some timedCredit bulkCredit, if_pos due]
      rfl
  · rw [receive_room timed _ up flight space, if_pos inner]
  · rw [receive_room timed _ up flight space, if_neg (by omega), if_pos ⟨good, next⟩]
  · rw [receive_room timed _ up flight space, if_neg (by omega), 
      if_neg fun ⟨good, next⟩ => bad.elim (fun h => absurd (h.symm.trans good) (by decide)) fun h => h next]
  · have run : exec (.creditReturn link ⟨timed, none⟩) s = .next (creditBack s k timed) := congrArg done (if_pos works)
    exact ⟨_, run, sets run (creditBack_back timed up back)⟩
  · have run : exec (.creditReturn link ⟨timed, some seq⟩) s = .next (ackReceived (creditBack s k timed) k seq.toNat) :=
      congrArg done ((if_pos works).trans (if_pos outer))
    obtain ⟨st, replay, -⟩ := setPool_st l timed { p with s := p.s + 1, r := p.r - 1 }
    refine ⟨_, run, sets run ?_⟩
    rw [creditBack_back timed up back, ackReceived_named (st.trans up) (replay.trans hr) hq hi hm hs]

/-! ### The conservation of credits -/

/-- The credits of a pool, wherever they are (R522). -/
def Pool.total (p : Pool) : Nat := p.s + p.f + p.b + p.r

/-- Two directions hold as many credits in each virtual channel. -/
def Link.Balanced (l m : Link) : Prop := ∀ v, (m.pool v).total = (l.pool v).total

/-- Every link holds as many credits in t as in s. -/
def Conserves (s t : State) : Prop := ∀ j, (linkAt s j).Balanced (linkAt t j)

theorem Link.Balanced.refl (l : Link) : l.Balanced l := fun _ => rfl

theorem Link.Balanced.setPool {l : Link} {v : Bool} {p : Pool} (h : p.total = (l.pool v).total) : l.Balanced (l.setPool v p) := by
  intro w
  cases v <;> cases w
  · exact h
  · rfl
  · rfl
  · exact h

theorem Conserves.refl (s : State) : Conserves s s := fun _ => .refl _

theorem Conserves.trans {s t u : State} (p : Conserves s t) (q : Conserves t u) : Conserves s u :=
  fun j v => (q j v).trans (p j v)

theorem Conserves.of_links {s t : State} (h : t.links = s.links) : Conserves s t := by
  intro j v
  unfold linkAt
  rw [h]

theorem Conserves.setLink {s : State} {k : Nat} {m : Link} (h : (linkAt s k).Balanced m) : Conserves s (setLink s k m) := by
  intro j
  by_cases e : j = k
  · rw [e, linkAt_setLink_same]
    exact h
  · rw [linkAt_setLink_other _ e]
    exact .refl _

theorem send_balanced (l : Link) (k : Nat) (v : Bool) (credit : 0 < (l.pool v).s) : l.Balanced (l.send k v) := by
  have moved := Link.Balanced.setPool (l := l) (v := v) (p := { l.pool v with s := (l.pool v).s - 1, f := (l.pool v).f + 1 })
    (by simp only [Pool.total]; omega)
  exact fun w => (show ((l.send k v).pool w).total = _ by cases v <;> cases w <;> rfl).trans (moved w)

theorem afterGrant_balanced (l : Link) (k now : Nat) : l.Balanced (l.afterGrant k now) := by
  unfold Link.afterGrant
  dsimp only
  split
  · exact .refl l
  · split
    next bulk =>
      have credit : 0 < (l.pool false).s := by
        simp only [Bool.and_eq_true, decide_eq_true_eq] at bulk
        exact bulk.1.2
      exact send_balanced l k false credit
    next =>
      split
      next timed => exact send_balanced l k true (of_decide_eq_true timed).2
      next => exact .refl l

theorem transmit_conserves (s : State) (k : Nat) (timed : Bool) (dest : Nat) : Conserves s (transmit s k timed dest) := by
  unfold transmit
  dsimp only
  split
  · exact .refl s
  · split
    · split
      next sends =>
        refine .setLink fun w => (congrArg Pool.total (pool_setDests ..)).trans (Link.Balanced.setPool ?_ w)
        simp only [Pool.total]
        omega
      next => exact .refl s
    · split
      · rw [linkGrant_setLink]
        refine .setLink fun w => (afterGrant_balanced _ _ _ w).trans ?_
        cases timed <;> cases w <;> rfl
      · exact .refl s

theorem receive_conserves {s : State} {k : Nat} {timed : Bool} (seq : Nat) (good : Bool) (room : ((linkAt s k).pool timed).b < capOf k timed) :
    Conserves s (receive s k timed seq good) := by
  unfold receive
  dsimp only
  rw [if_neg room.ne]
  have arrives : ∀ flight : ¬ ((linkAt s k).pool timed).f = 0, (linkAt s k).Balanced ((linkAt s k).setPool timed
      { (linkAt s k).pool timed with f := ((linkAt s k).pool timed).f - 1, b := ((linkAt s k).pool timed).b + 1 }) :=
    fun flight => .setPool (by simp only [Pool.total]; omega)
  split
  · exact .refl s
  · split
    · exact .refl s
    next flight =>
      split
      · exact .setLink (arrives flight)
      · split
        · exact .setLink fun w => arrives flight w
        · exact .setLink fun w => rfl

theorem creditBack_conserves {s : State} {k : Nat} (timed : Bool) (training : (linkAt s k).st ≠ .retrain) :
    Conserves s (creditBack s k timed) ∧ (linkAt (creditBack s k timed) k).replay = (linkAt s k).replay ∧
      (linkAt (creditBack s k timed) k).txSeq = (linkAt s k).txSeq := by
  unfold creditBack
  dsimp only
  rw [if_neg fun h => training h.1]
  have sets : ∀ p : Pool, p.total = ((linkAt s k).pool timed).total → Conserves s (setLink s k ((linkAt s k).setPool timed p)) ∧
      (linkAt (setLink s k ((linkAt s k).setPool timed p)) k).replay = (linkAt s k).replay ∧
      (linkAt (setLink s k ((linkAt s k).setPool timed p)) k).txSeq = (linkAt s k).txSeq := fun p h => by
    refine ⟨.setLink (.setPool h), ?_⟩
    rw [linkAt_setLink_same]
    exact (setPool_st ..).2
  split
  · exact ⟨.refl s, rfl, rfl⟩
  · split
    next back => exact sets _ (by simp only [Pool.total]; omega)
    next =>
      split
      next left => exact sets _ (by simp only [Pool.total]; omega)
      next => exact ⟨.refl s, rfl, rfl⟩

theorem ackReceived_eq (s : State) (k seq : Nat) : ackReceived s k seq =
    if (linkAt s k).st ≠ .up then s
    else if (linkAt s k).replay.length < ackSpan (linkAt s k) k seq then startRetrain s k false
    else setLink s k { linkAt s k with replay := (linkAt s k).replay.drop (ackSpan (linkAt s k) k seq) } := rfl

theorem ackReceived_conserves {s : State} {k seq : Nat} (inside : ackSpan (linkAt s k) k seq ≤ (linkAt s k).replay.length) :
    Conserves s (ackReceived s k seq) := by
  rw [ackReceived_eq]
  split
  · exact .refl s
  · rw [if_neg (Nat.not_lt.mpr inside)]
    exact .setLink fun w => rfl

theorem ackSpan_congr {l m : Link} (k seq : Nat) (h : m.replay = l.replay) (ht : m.txSeq = l.txSeq) : ackSpan m k seq = ackSpan l k seq := by
  unfold ackSpan
  rw [h, ht]

theorem grantNext_asks {s : State} {g o p : Nat} {timed : Bool} (next : grantNext s g o = some (p, timed)) :
    p ∈ requesters s g o timed := by
  have mem : ∀ {last l q}, nextInput last l = some q → q ∈ l := by
    intro last l q h
    unfold nextInput at h
    split at h
    next a found =>
      cases h
      exact List.mem_of_find?_eq_some found
    next => exact List.mem_of_head? h
  unfold grantNext at next
  dsimp only at next
  split at next
  · obtain ⟨q, hq, e⟩ := Option.map_eq_some_iff.mp next
    cases e
    exact mem hq
  · obtain ⟨q, hq, e⟩ := Option.map_eq_some_iff.mp next
    cases e
    exact mem hq

/-- An input whose unit asks has a unit, and an output asked for has a credit. -/
theorem requesters_pools {s : State} {g o p : Nat} {timed : Bool} (asks : p ∈ requesters s g o timed) :
    0 < ((linkAt s (8 * g + o)).pool timed).s ∧ 0 < ((linkAt s (256 + 8 * g + p)).pool timed).b := by
  unfold requesters at asks
  split at asks
  · exact absurd asks List.not_mem_nil
  next credit =>
    refine ⟨Nat.pos_of_ne_zero credit, ?_⟩
    have head := (List.mem_filter.mp asks).2
    unfold headDest at head
    dsimp only at head
    split at head
    · cases head
    next unit => exact Nat.pos_of_ne_zero unit

theorem grant_conserves {s : State} {g o p : Nat} {timed : Bool} (apart : 8 * g + o ≠ 256 + 8 * g + p)
    (asks : p ∈ requesters s g o timed) : Conserves s (grant s g o p timed) := by
  obtain ⟨credit, unit⟩ := requesters_pools asks
  rw [grant_eq s timed apart]
  refine (Conserves.setLink (m := (linkAt s (256 + 8 * g + p)).given timed) fun w => ?_).trans (.setLink fun w => ?_)
  · refine (congrArg Pool.total (pool_setDests ..)).trans (Link.Balanced.setPool ?_ w)
    simp only [Pool.total]
    omega
  · rw [linkAt_setLink_other _ apart]
    refine Eq.trans ?_ (Link.Balanced.setPool (v := timed) (p := { (linkAt s (8 * g + o)).pool timed with
      s := ((linkAt s (8 * g + o)).pool timed).s - 1, f := ((linkAt s (8 * g + o)).pool timed).f + 1 }) ?_ w)
    · cases timed <;> cases w <;> rfl
    · simp only [Pool.total]
      omega

/-- Settles O25: each of the four commands moves a credit within its pool, or moves none. -/
theorem creditsAreConserved : Obligations.CreditsAreConserved := by
  intro s t c link traffic timed dest o i seq bits parity ack region k l room training named mem run
  suffices Conserves s t from this
  have ite : ∀ {c : Prop} [Decidable c] {u : State}, (c → Conserves s u) → (if c then u else s) = t → Conserves s t := by
    rintro c _ u h rfl
    split
    next holds => exact h holds
    next => exact .refl s
  simp only [List.mem_cons, List.not_mem_nil, or_false] at mem
  rcases mem with rfl | rfl | rfl | rfl
  · exact ite (fun _ => transmit_conserves s k _ _) (Host.Outcome.next.inj run)
  · exact ite (fun _ => receive_conserves (k := k) _ _ room) (Host.Outcome.next.inj run)
  · refine ite (fun _ => ?_) (Host.Outcome.next.inj run)
    obtain ⟨back, replay, txSeq⟩ := creditBack_conserves timed training
    cases ack with
    | none => exact back
    | some a =>
      show Conserves s (if 512 ≤ k then ackReceived (creditBack s k timed) k a.toNat else creditBack s k timed)
      split
      next outer =>
        refine back.trans (ackReceived_conserves ?_)
        rw [ackSpan_congr k _ replay txSeq, replay]
        exact (named a rfl).resolve_left (by omega)
      next => exact back
  · refine ite (fun grants => ?_) (Host.Outcome.next.inj run)
    have apart : 8 * region.toNat + o.toNat ≠ 256 + 8 * region.toNat + i.toNat := by
      have := o.isLt
      omega
    have moved := grant_conserves apart (grantNext_asks grants.2)
    dsimp only
    split
    · exact moved.trans (.of_links (portFails_links ..).1)
    · exact moved

end Sys2Proof.Machine

namespace Sys2Proof.Machine
open Sys2Proof Sys2Proof.Machine
set_option Elab.async false

/-! ## Retry and retrain of a link (R45, R528 to R531) -/

/-! ### What leaves the links, and the state of every link -/

/-- The fields that the reports of a link's errors write. -/
abbrev Area.ofReport : List Area := [.regs, .evTick, .events, .cwys, .fresh]

theorem Within.linkAt {F : List Area} {s t : State} (w : Within F s t) (k : Nat) (hF : Area.links ∉ F := by decide) :
    linkAt t k = linkAt s k := by
  unfold Machine.linkAt
  rw [w.links hF]

/-- Every link but k is in the state and has the pools it had; k is in the state it had. -/
def Resent (k : Nat) (s t : State) : Prop :=
  ∀ j, (linkAt t j).st = (linkAt s j).st ∧
    (j ≠ k → (linkAt t j).timed = (linkAt s j).timed ∧ (linkAt t j).bulk = (linkAt s j).bulk)

theorem Resent.refl (k : Nat) (s : State) : Resent k s s := fun _ => ⟨rfl, fun _ => ⟨rfl, rfl⟩⟩

theorem Resent.trans {k : Nat} {s t u : State} (p : Resent k s t) (q : Resent k t u) : Resent k s u := fun j =>
  ⟨(q j).1.trans (p j).1, fun hne => ⟨((q j).2 hne).1.trans ((p j).2 hne).1, ((q j).2 hne).2.trans ((p j).2 hne).2⟩⟩

theorem Resent.of_within {F : List Area} {k : Nat} {s t : State} (w : Within F s t) (hF : Area.links ∉ F := by decide) :
    Resent k s t := fun j => by
  rw [w.linkAt j hF]
  exact ⟨rfl, fun _ => ⟨rfl, rfl⟩⟩

theorem Resent.setLink {k m : Nat} {s : State} {l : Link} (st : l.st = (linkAt s m).st)
    (pools : m ≠ k → l.timed = (linkAt s m).timed ∧ l.bulk = (linkAt s m).bulk) : Resent k s (setLink s m l) := fun j => by
  by_cases e : j = m
  · subst e
    rw [linkAt_setLink_same]
    exact ⟨st, pools⟩
  · rw [linkAt_setLink_other _ e]
    exact ⟨rfl, fun _ => ⟨rfl, rfl⟩⟩

theorem replayOn_resent (s : State) (m : Nat) (timed : Bool) : Resent m s (replayOn s m timed) := by
  unfold replayOn
  dsimp only
  split
  · refine Resent.trans (.setLink ?_ fun h => absurd rfl h) (.of_within (countReplay_within (F := Area.ofReport) (.refl _) ..))
    cases timed <;> rfl
  · refine .setLink ?_ fun h => absurd rfl h
    cases timed <;> rfl

theorem failoverUnits_resent (s : State) (k m : Nat) : Resent m s (failoverUnits s k m) := by
  have units : ∀ (l : List (Nat × Bool)) (t : State), Resent m t (l.foldl (fun s u => replayOn s m u.2) t) := by
    intro l
    induction l with
    | nil => exact fun t => .refl m t
    | cons u r ih => exact fun t => (replayOn_resent t m u.2).trans (ih _)
  exact Resent.trans (t := setLink s k { linkAt s k with replay := [] }) (.setLink rfl fun _ => ⟨rfl, rfl⟩) (units _ _)

theorem failoverWaits_resent (s : State) (k m : Nat) : Resent m s (failoverWaits s k m) :=
  Resent.trans (t := setLink s k { linkAt s k with tWait := 0, bWait := 0 }) (.setLink rfl fun _ => ⟨rfl, rfl⟩)
    (.setLink rfl fun _ => ⟨rfl, rfl⟩)

theorem failoverDir_resent (s : State) (k m : Nat) : Resent m s (failoverDir s k m) := by
  have moved : ∀ t, Resent m t (setLink t k (linkAt t k).moved) := fun t => .setLink rfl fun _ => ⟨rfl, rfl⟩
  exact ((failoverUnits_resent s k m).trans (failoverWaits_resent _ k m)).trans (moved _)

/-- The failover of a Causeway link leaves the state of every link, and its own pools. -/
theorem failover_keeps (s : State) {i : Nat} (hi : i < 4) :
    (∀ j, (linkAt (failover s i) j).st = (linkAt s j).st) ∧
    ∀ k, k = 544 + i ∨ k = 548 + i → (linkAt (failover s i) k).timed = (linkAt s k).timed ∧
      (linkAt (failover s i) k).bulk = (linkAt s k).bulk := by
  unfold failover
  split
  next j found =>
    have port : j < 4 := by
      have : j < s.part.ports := List.mem_range.mp (List.mem_filter.mp (List.mem_of_find?_eq_some found)).1
      cases h : s.part <;> rw [h] at this <;> exact lt_of_lt_of_le this (by decide)
    have other : j ≠ i := by
      have := List.find?_some found
      simp only [Bool.and_eq_true, bne_iff_ne] at this
      exact this.1
    have out := failoverDir_resent s (544 + i) (544 + j)
    have inn := failoverDir_resent (failoverDir s (544 + i) (544 + j)) (548 + i) (548 + j)
    refine ⟨fun x => (inn x).1.trans (out x).1, fun k hk => ?_⟩
    have away : k ≠ 544 + j ∧ k ≠ 548 + j := by omega
    exact ⟨((inn k).2 away.2).1.trans ((out k).2 away.1).1, ((inn k).2 away.2).2.trans ((out k).2 away.1).2⟩
  next => exact ⟨fun _ => rfl, fun _ _ => ⟨rfl, rfl⟩⟩

/-! ### The two directions of a link -/

theorem reverseKey_apart (p : Part) {k : Nat} (low : 512 ≤ k) (high : k < 552) (there : linkExists p k = true) :
    reverseKey p k ≠ k := by
  have all : ∀ j < 40, linkExists p (512 + j) = true → reverseKey p (512 + j) ≠ 512 + j := by
    cases p <;> decide
  have := all (k - 512) (by omega)
  rw [Nat.add_sub_cancel' low] at this
  exact this there

/-- The two directions of a Causeway link. -/
theorem reverseKey_causeway (p : Part) {k : Nat} (low : 544 ≤ k) (high : k < 552) :
    (k = 544 + (k - 544) % 4 ∨ k = 548 + (k - 544) % 4) ∧
      (reverseKey p k = 544 + (k - 544) % 4 ∨ reverseKey p k = 548 + (k - 544) % 4) := by
  unfold reverseKey
  rw [if_neg (by omega), if_neg (by omega), if_neg (by omega)]
  refine ⟨by omega, ?_⟩
  split <;> omega

theorem linkKey_lt (link : LinkDir) : linkKey link < 552 := by
  cases link with
  | xbarTo g p | xbarFrom g p | bridge g p =>
    all_goals
      have := g.isLt
      have := p.isLt
      simp only [linkKey]
      omega
  | cwyOut i | cwyIn i =>
    all_goals
      have := i.isLt
      simp only [linkKey]
      omega

/-- A link of which both directions have stopped: what was in flight is gone (R530). -/
def Stopped (s t : State) (k : Nat) : Prop :=
  (linkAt t k).st = .retrain ∧ (linkAt t (reverseKey s.part k)).st = .retrain ∧
    (linkAt t k).timed = { (linkAt s k).timed with f := 0, r := 0 } ∧ (linkAt t k).bulk = { (linkAt s k).bulk with f := 0, r := 0 } ∧
    ∀ j, j ≠ k → j ≠ reverseKey s.part k → (linkAt t j).st = (linkAt s j).st

theorem Stopped.of_linkAt {s t u : State} {k : Nat} (p : Stopped s t k) (h : ∀ j, linkAt u j = linkAt t j) : Stopped s u k := by
  unfold Stopped at p ⊢
  simp only [h]
  exact p

theorem drop_stopped {s : State} {k : Nat} (apart : reverseKey s.part k ≠ k) :
    Stopped s (setLink (setLink s k (linkAt s k).drop) (reverseKey s.part k)
      (linkAt (setLink s k (linkAt s k).drop) (reverseKey s.part k)).drop) k := by
  unfold Stopped
  rw [linkAt_setLink_other _ apart.symm, linkAt_setLink_same, linkAt_setLink_same]
  exact ⟨rfl, rfl, rfl, rfl, fun j hk hr => by rw [linkAt_setLink_other _ hr, linkAt_setLink_other _ hk]⟩

theorem startRetrain_stopped {s : State} {k : Nat} (low : 512 ≤ k) (high : k < 552) (there : linkExists s.part k = true) :
    Stopped s (startRetrain s k false) k := by
  have apart := reverseKey_apart s.part low high there
  have stopped := drop_stopped apart
  unfold startRetrain
  dsimp only
  by_cases bridge : k < 544
  · rw [if_pos bridge]
    exact stopped.of_linkAt fun j => Within.linkAt (noteRetrain_within (F := Area.ofReport) (noteRetrain_within (.refl _) ..) ..) j
  · rw [if_neg bridge]
    let i := (k - 544) % 4
    let pg := linkPg k
    let s2 := setLink (setLink s k (linkAt s k).drop) (reverseKey s.part k)
      (linkAt (setLink s k (linkAt s k).drop) (reverseKey s.part k)).drop
    let s3 := capture (rinc (setCwy s2 i { cwy s2 i with downSince := s.ticks }) pg 19 17 0) pg 8 0
    have kept : ∀ j, linkAt s3 j = linkAt s2 j := fun j =>
      Within.linkAt (capture_within (F := Area.ofReport) (rinc_within (setCwy_within (.refl _) ..) ..) ..) j
    obtain ⟨st, pools⟩ := failover_keeps s3 (i := i) (Nat.mod_lt _ (by decide))
    obtain ⟨a, b, c, d, e⟩ := stopped.of_linkAt kept
    obtain ⟨own, back⟩ := reverseKey_causeway s.part (k := k) (by omega) high
    exact ⟨(st _).trans a, (st _).trans b, (pools k own).1.trans c, (pools k own).2.trans d, fun j hk hr => (st j).trans (e j hk hr)⟩

/-! ### The exchange, and the end of a retrain -/

/-- A direction after the exchange: the units not accepted are in flight again, with a credit each (R530). -/
def Link.exchanged (l : Link) (k : Nat) : Link :=
  let m := l.acked k
  let n := fun v => (m.replay.filter (fun e => e.2 == v)).length
  let take := fun v => { m.pool v with s := capOf k v - (m.pool v).b - n v, f := n v, r := 0 }
  { m with timed := take true, bulk := take false, st := .up, attempts := 0 }

theorem linkAt_exchange (s : State) (k : Nat) : linkAt (exchange s k) k = (linkAt s k).exchanged k ∧
    ∀ j, j ≠ k → linkAt (exchange s k) j = linkAt s j := by
  have kept : ∀ (t : State) n j, linkAt (countReplay t k n) j = linkAt t j := fun t n j =>
    Within.linkAt (countReplay_within (F := Area.ofReport) (.refl t) ..) j
  unfold exchange
  dsimp only
  exact ⟨(kept ..).trans (linkAt_setLink_same ..), fun j h => (kept ..).trans (linkAt_setLink_other _ h)⟩

theorem exchanged_pool (l : Link) (k : Nat) (v : Bool) :
    let n := (((l.exchanged k).replay).filter (fun e => e.2 == v)).length
    (l.exchanged k).pool v = { s := capOf k v - (l.pool v).b - n, f := n, b := (l.pool v).b, r := 0 } := by
  cases v <;> rfl

/-- Both directions after the exchange. -/
theorem exchange_both (s : State) {k r : Nat} (apart : r ≠ k) :
    let t := exchange (exchange (lanesLocked s k) k) r
    linkAt t k = (linkAt s k).exchanged k ∧ (linkAt t r).st = .up ∧ ∀ j, j ≠ k → j ≠ r → linkAt t j = linkAt s j := by
  have lanes : ∀ j, linkAt (lanesLocked s k) j = linkAt s j := fun j =>
    Within.linkAt (lanesLocked_within (F := Area.ofReport) (.refl s) ..) j
  obtain ⟨first, others⟩ := linkAt_exchange (lanesLocked s k) k
  obtain ⟨second, rest⟩ := linkAt_exchange (exchange (lanesLocked s k) k) r
  refine ⟨(rest k apart.symm).trans (first.trans (by rw [lanes])), ?_, fun j hk hr => ?_⟩
  · rw [second]
    rfl
  · rw [rest j hr, others j hk, lanes]

theorem mireEnter_safety (s : State) (cause die core : Nat) : (mireEnter s cause die core).safety = .mire := by
  unfold mireEnter
  split
  next mire => exact mire
  next =>
    exact (Within.safety (F := [.regs, .evTick, .events, .reeds, .chans, .voters, .vens])
      (channelsSafe_within (freeAll_within (venStopAll_within (.refl _) ..) ..) ..)).trans rfl

/-- A NAK that does not stop the link. -/
theorem nakReceived_resends {s : State} {k seq : Nat} (inside : replayIndex k (linkAt s k) seq < (linkAt s k).replay.length)
    (first : (linkAt s k).nakRun = 0) (many : 1 < retryMax s k) :
    linkAt (nakReceived s k seq) k = { linkAt s k with
      replay := (linkAt s k).replay.drop (replayIndex k (linkAt s k) seq), nakSeq := seq, nakRun := 1, nakOut := none } ∧
    ∀ j, j ≠ k → linkAt (nakReceived s k seq) j = linkAt s j := by
  have counts : ∀ j, linkAt (countNak s k) j = linkAt s j := fun j =>
    Within.linkAt (countNak_within (F := Area.ofReport) (.refl s) ..) j
  have kept : ∀ (t : State) n j, linkAt (countReplay t k n) j = linkAt t j := fun t n j =>
    Within.linkAt (countReplay_within (F := Area.ofReport) (.refl t) ..) j
  have run : (if 0 < (linkAt s k).nakRun ∧ (linkAt s k).nakSeq = seq then (linkAt s k).nakRun + 1 else 1) = 1 :=
    if_neg fun h => by omega
  unfold nakReceived
  dsimp only
  rw [run, if_neg (by omega)]
  exact ⟨(kept ..).trans (linkAt_setLink_same ..), fun j h => (kept ..).trans ((linkAt_setLink_other _ h).trans (counts j))⟩

/-- A NAK that stops the link. -/
theorem nakReceived_stops {s : State} {k seq : Nat} (low : 512 ≤ k) (high : k < 552) (there : linkExists s.part k = true)
    (stops : (linkAt s k).replay.length ≤ replayIndex k (linkAt s k) seq ∨ retryMax s k = 1) : Stopped s (nakReceived s k seq) k := by
  have w : Within Area.ofReport s (countNak s k) := countNak_within (.refl s) ..
  have ran : 1 ≤ (if 0 < (linkAt s k).nakRun ∧ (linkAt s k).nakSeq = seq then (linkAt s k).nakRun + 1 else 1) := by
    split <;> omega
  unfold nakReceived
  dsimp only
  rw [if_pos (by omega)]
  have stopped := startRetrain_stopped (s := countNak s k) low high (by rw [w.part]; exact there)
  unfold Stopped at stopped ⊢
  simp only [w.part, w.linkAt] at stopped
  exact stopped

/-- A credit return with nothing to return. -/
theorem creditBack_none {s : State} {k : Nat} {timed : Bool} (up : (linkAt s k).st = .up) (back : ((linkAt s k).pool timed).r = 0)
    (held : ((linkAt s k).pool timed).b = 0) : creditBack s k timed = s := by
  unfold creditBack
  dsimp only
  rw [if_neg fun h => absurd (up.symm.trans h.1) (by decide), if_neg (not_not.mpr up), back, held, if_neg (by omega), if_neg (by omega)]

/-- The third attempt that fails takes a bridge out of service, and the package to Mire (R45). -/
theorem bridgeFailed_down {s : State} {k : Nat} (apart : reverseKey s.part k ≠ k) :
    (linkAt (bridgeFailed s k) k).st = .down ∧ (linkAt (bridgeFailed s k) (reverseKey s.part k)).st = .down ∧
      (bridgeFailed s k).safety = .mire := by
  unfold bridgeFailed
  dsimp only
  have kept : ∀ (t : State) a b c d e f g i j x, linkAt (mireEnter (capture (capture t a b c) d e f) g i j) x = linkAt t x :=
    fun t a b c d e f g i j x => Within.linkAt (F := [.regs, .evTick, .events, .cores, .safety, .reeds, .chans, .voters, .vens, .carr])
      (mireEnter_within (capture_within (capture_within (.refl t) ..) ..) ..) x
  refine ⟨?_, ?_, mireEnter_safety ..⟩
  · rw [kept, linkAt_setLink_other _ apart.symm, linkAt_setLink_same]
  · rw [kept, linkAt_setLink_same]

theorem setCwyState_st (s : State) (i : Nat) (x : LinkState) {j : Nat} (hj : j = 544 + i ∨ j = 548 + i) :
    (linkAt (setCwyState s i x) j).st = x := by
  unfold setCwyState
  dsimp only
  rcases hj with rfl | rfl
  · rw [linkAt_setLink_other _ (by omega), linkAt_setLink_same]
  · rw [linkAt_setLink_same]

theorem causewayDown_down {s : State} {k : Nat} (low : 544 ≤ k) (high : k < 552) :
    (linkAt (causewayDown s k) k).st = .down ∧ (linkAt (causewayDown s k) (reverseKey s.part k)).st = .down ∧
      (causewayDown s k).safety = s.safety := by
  let i := (k - 544) % 4
  let s1 := capture (setCwyState s i .down) (linkPg k) 10 0
  have kept : ∀ j, linkAt s1 j = linkAt (setCwyState s i .down) j := fun j =>
    Within.linkAt (capture_within (F := Area.ofReport) (.refl _) ..) j
  obtain ⟨st, -⟩ := failover_keeps s1 (i := i) (Nat.mod_lt _ (by decide))
  obtain ⟨own, back⟩ := reverseKey_causeway s.part low high
  have after : ∀ j, j = 544 + i ∨ j = 548 + i → (linkAt (causewayDown s k) j).st = .down := fun j hj =>
    (st j).trans (by rw [kept, setCwyState_st s i .down hj])
  exact ⟨after k own, after _ back, Within.safety (F := [.regs, .evTick, .events, .links])
    (failover_within (capture_within (setCwyState_within (.refl s) ..) ..) ..)⟩

/-- The attempts of a link counted at both of its directions. -/
def State.tried (s : State) (k : Nat) : State :=
  setLink (setLink s k { linkAt s k with attempts := (linkAt s k).attempts + 1 }) (reverseKey s.part k)
    { linkAt s (reverseKey s.part k) with attempts := (linkAt s k).attempts + 1 }

/-- Settles O26, command by command. -/
theorem linkRetryAndRetrain : Obligations.LinkRetryAndRetrain := by
  intro s link seq timed k r l i works outer stopped
  have high : k < 552 := linkKey_lt link
  have there : linkExists s.part k = true := (Bool.and_eq_true_iff.mp works).1
  have apart : r ≠ k := reverseKey_apart s.part outer high there
  have nak : l.st = .up → exec (.nak link seq) s = .next (nakReceived s k (seq.toNat % seqMod k)) := fun up =>
    congrArg done (if_pos ⟨works, outer, up⟩)
  have ends : l.st = .retrain → exec (.retrainAttemptEnd link) s = .next
      (if l.attempts + 1 < 3 then s.tried k else if k < 544 then bridgeFailed (s.tried k) k else causewayDown (s.tried k) k) :=
    fun training => congrArg done (if_pos ⟨works, outer, training⟩)
  have exchanges : l.st = .retrain ∨ (k < 544 ∧ l.st = .off) →
      exec (.retrainExchange link) s = .next (exchange (exchange (lanesLocked s k) k) r) := fun waits =>
    congrArg done (if_pos ⟨works, outer, waits⟩)
  obtain ⟨one, two, others⟩ := exchange_both s apart
  refine ⟨fun up inside first many => ⟨_, nak up, nakReceived_resends inside first many⟩,
    fun up stops => ⟨_, nak up, nakReceived_stops outer high there stops⟩, fun up back held outside => ?_, fun up => ?_,
    fun bridge off => ⟨_, exchanges (.inr ⟨bridge, off⟩), by rw [one]; rfl, two⟩,
    fun training => ⟨_, exchanges (.inl training), by rw [one]; rfl, two, by rw [one]; rfl, by rw [one]; rfl, fun v => ?_, others⟩,
    fun training few => ⟨_, ends training, ?_⟩, fun training many => ⟨_, ends training, ?_⟩⟩
  · have run : exec (.creditReturn link ⟨timed, some seq⟩) s = .next (ackReceived (creditBack s k timed) k seq.toNat) :=
      congrArg done ((if_pos works).trans (if_pos outer))
    refine ⟨_, run, ?_⟩
    rw [creditBack_none up back held, ackReceived_eq, if_neg (not_not.mpr up), if_pos outside]
    exact startRetrain_stopped outer high there
  · have run : exec (.laneLockLoss link) s = .next (lanesLost (startRetrain s k false) k) := congrArg done (if_pos ⟨works, outer, up⟩)
    exact ⟨_, run, (startRetrain_stopped outer high there).of_linkAt fun j =>
      Within.linkAt (lanesLost_within (F := Area.ofReport) (.refl _) ..) j⟩
  · rw [one]
    exact exchanged_pool l k v
  · rw [if_pos (by omega)]
    refine ⟨?_, ?_, rfl⟩
    · rw [State.tried, linkAt_setLink_other _ apart.symm, linkAt_setLink_same]
    · rw [State.tried, linkAt_setLink_same]
  · rw [if_neg (by omega)]
    have part : (s.tried k).part = s.part := rfl
    by_cases bridge : k < 544
    · rw [if_pos bridge]
      obtain ⟨a, b, c⟩ := bridgeFailed_down (s := s.tried k) (k := k) apart
      exact ⟨a, b, fun _ => c, fun h => by omega⟩
    · rw [if_neg bridge]
      obtain ⟨a, b, c⟩ := causewayDown_down (s := s.tried k) (k := k) (by omega) high
      exact ⟨a, b, fun h => absurd h bridge, fun _ => c⟩

end Sys2Proof.Machine

namespace Sys2Proof.Machine
open Sys2Proof Sys2Proof.Machine
set_option Elab.async false

/-! ## The registers that an effect may write -/

namespace RegsKept
variable {s t u : State} {P Q : Nat → Nat → Prop}

theorem refl (s : State) (P : Nat → Nat → Prop) : RegsKept s s P := fun _ _ _ _ => rfl

theorem trans (h : RegsKept s t P) (k : RegsKept t u P) : RegsKept s u P :=
  fun pg off ho hne => (k pg off ho hne).trans (h pg off ho hne)

theorem mono (h : RegsKept s t Q) (hP : ∀ pg off, Q pg off → P pg off) : RegsKept s t P :=
  fun pg off ho hne => h pg off ho fun q => hne (hP pg off q)

theorem of_regs (h : t.regs = s.regs) (P : Nat → Nat → Prop) : RegsKept s t P := fun pg off _ _ => by
  unfold rget
  rw [h]

theorem of_within {F : List Area} (w : Within F s t) (P : Nat → Nat → Prop) (hF : Area.regs ∉ F := by decide) : RegsKept s t P :=
  of_regs (w.regs hF) P

theorem ite {c : Prop} [Decidable c] (h : RegsKept s t P) (k : RegsKept s u P) : RegsKept s (if c then t else u) P := by
  split
  · exact h
  · exact k

theorem foldl {α : Type} {f : State → α → State} (hf : ∀ t x, RegsKept t (f t x) P) (l : List α) (s : State) :
    RegsKept s (l.foldl f s) P := by
  induction l generalizing s with
  | nil => exact refl s P
  | cons x r ih => exact (hf s x).trans (ih (f s x))

theorem rset (s : State) {pg off : Nat} (v : Word) (ho : off < 512) (hP : P pg off) : RegsKept s (Machine.rset s pg off v) P :=
  fun p o h hne => (rget_rset s v ho h).trans (if_neg fun (e : p = pg ∧ o = off) => hne (by rw [e.1, e.2]; exact hP))

theorem rinc (s : State) {pg off : Nat} (hi lo : Nat) (ho : off < 512) (hP : P pg off) :
    RegsKept s (Machine.rinc s pg off hi lo) P := rset s _ ho hP

theorem irqPend (s : State) {pg : Nat} (b : Nat) (hP : P pg 9) : RegsKept s (Machine.irqPend s pg b) P :=
  fun p o h hne => (rget_irqPend s pg b h).trans (if_neg fun (e : p = pg ∧ o = 9) => hne (by rw [e.1, e.2]; exact hP))

theorem capture (s : State) {pg : Nat} (cause info : Nat) (hP : P pg 6 ∧ P pg 7 ∧ P pg 9) :
    RegsKept s (Machine.capture s pg cause info) P :=
  (regsKept_capture s pg cause info).mono fun p o ⟨hp, ho⟩ => by
    subst hp
    rcases ho with rfl | rfl | rfl
    · exact hP.1
    · exact hP.2.1
    · exact hP.2.2

end RegsKept

/-- A capture stands while the page's error registers do. -/
theorem Captured.after {s t u : State} {pg cause info : Nat} (c : Captured s t pg cause info) (h6 : rget u pg 6 = rget t pg 6)
    (h7 : rget u pg 7 = rget t pg 7) (h9 : bit (rget t pg 9) 0 = true → bit (rget u pg 9) 0 = true) : Captured s u pg cause info where
  count := h7 ▸ c.count
  first h := ⟨h6.trans (c.first h).1, h9 (c.first h).2⟩
  held h := h6.trans (c.held h)

/-- A capture is one of any state that agrees on the page's error registers. -/
theorem Captured.of_before {s r t : State} {pg cause info : Nat} (c : Captured r t pg cause info) (h6 : rget r pg 6 = rget s pg 6)
    (h7 : rget r pg 7 = rget s pg 7) : Captured s t pg cause info where
  count := h7 ▸ c.count
  first h := c.first (h6 ▸ h)
  held h := h6 ▸ c.held (h6 ▸ h)

theorem bit_irqPend_kept (s : State) (pg b : Nat) {p c : Nat} (h : bit (rget s p 9) c = true) :
    bit (rget (irqPend s pg b) p 9) c = true := by
  rw [rget_irqPend s pg b (by decide)]
  by_cases e : p = pg ∧ 9 = 9
  · rw [if_pos e, ← e.1]
    by_cases same : c = b
    · subst same
      by_cases small : c < 36
      · exact bit_setBit_same _ _ _ small
      · exact absurd h (by unfold bit; rw [BitVec.getLsbD_of_ge _ _ (by omega)]; decide)
    · rw [bit_setBit_other _ _ _ _ same]
      exact h
  · rw [if_neg e]
    exact h

/-- The signal of a page leaves a capture as it is. -/
theorem Captured.irqPend {s t : State} {pg cause info : Nat} (c : Captured s t pg cause info) (p b : Nat) :
    Captured s (Machine.irqPend t p b) pg cause info :=
  c.after (by rw [rget_irqPend t p b (by decide), if_neg (by omega)]) (by rw [rget_irqPend t p b (by decide), if_neg (by omega)])
    (bit_irqPend_kept t p b)

/-! ## The parts of the state by number -/

section Parts
variable {s : State}

@[simp] theorem ref_setRef_same (i : Nat) (r : Ref) : ref (setRef s i r) i = r := by simp [ref, setRef]
theorem ref_setRef_other {i j : Nat} (r : Ref) (h : j ≠ i) : ref (setRef s i r) j = ref s j := by
  simp [ref, setRef, kget_kset_other _ _ _ h]

@[simp] theorem chan_setChan_same (m : Nat) (c : Chan) : chan (setChan s m c) m = c := by simp [chan, setChan]
theorem chan_setChan_other {m k : Nat} (c : Chan) (h : k ≠ m) : chan (setChan s m c) k = chan s k := by
  simp [chan, setChan, kget_kset_other _ _ _ h]

@[simp] theorem voter_setVoter_same (g : Nat) (v : Voter) : voter (setVoter s g v) g = v := by simp [voter, setVoter]
theorem voter_setVoter_other {g k : Nat} (v : Voter) (h : k ≠ g) : voter (setVoter s g v) k = voter s k := by
  simp [voter, setVoter, kget_kset_other _ _ _ h]

@[simp] theorem reed_setReed_same (d : Nat) (r : Reed) : reed (setReed s d r) d = r := by simp [reed, setReed]
theorem reed_setReed_other {d k : Nat} (r : Reed) (h : k ≠ d) : reed (setReed s d r) k = reed s k := by
  simp [reed, setReed, kget_kset_other _ _ _ h]

@[simp] theorem entry_putEntry_same (r : Reed) (i : Nat) (e : Event) : (r.putEntry i e).entry i = e := by simp [Reed.entry, Reed.putEntry]
theorem entry_putEntry_other (r : Reed) {i j : Nat} (e : Event) (h : j ≠ i) : (r.putEntry i e).entry j = r.entry j := by
  simp [Reed.entry, Reed.putEntry, kget_kset_other _ _ _ h]

@[simp] theorem cwy_setCwy_same (i : Nat) (c : Cwy) : cwy (setCwy s i c) i = c := by simp [cwy, setCwy]
theorem cwy_setCwy_other {i j : Nat} (c : Cwy) (h : j ≠ i) : cwy (setCwy s i c) j = cwy s j := by
  simp [cwy, setCwy, kget_kset_other _ _ _ h]

end Parts

namespace Within
variable {F : List Area} {s t : State}

theorem cwy (w : Within F s t) (i : Nat) (hF : Area.cwys ∉ F := by decide) : cwy t i = Machine.cwy s i := by
  unfold Machine.cwy
  rw [w.cwys hF]

theorem chan (w : Within F s t) (i : Nat) (hF : Area.chans ∉ F := by decide) : chan t i = Machine.chan s i := by
  unfold Machine.chan
  rw [w.chans hF]

theorem voter (w : Within F s t) (i : Nat) (hF : Area.voters ∉ F := by decide) : voter t i = Machine.voter s i := by
  unfold Machine.voter
  rw [w.voters hF]

theorem reed (w : Within F s t) (i : Nat) (hF : Area.reeds ∉ F := by decide) : reed t i = Machine.reed s i := by
  unfold Machine.reed
  rw [w.reeds hF]

theorem ref (w : Within F s t) (i : Nat) (hF : Area.refs ∉ F := by decide) : ref t i = Machine.ref s i := by
  unfold Machine.ref
  rw [w.refs hF]

theorem rget (w : Within F s t) (pg off : Nat) (hF : Area.regs ∉ F := by decide) : rget t pg off = Machine.rget s pg off := by
  unfold Machine.rget
  rw [w.regs hF]

end Within

/-! ## The pages of the units (Table 2.4 to Table 2.6) -/

theorem regionPg_mod (g : Nat) {o : Nat} (h : o < 64) : regionPg g o % 2048 = 64 * (1 + g % 4) + o := by
  unfold regionPg pageNo
  omega

theorem diePg_mod (d : Nat) {p : Nat} (h : p < 64) : diePg d p % 2048 = p := by
  unfold diePg pageNo
  omega

theorem pkgPg_mod {p : Nat} (h : p < 64) : pkgPg p % 2048 = p := by
  unfold pkgPg pageNo
  omega

end Sys2Proof.Machine

namespace Sys2Proof.Machine
open Sys2Proof Sys2Proof.Machine
set_option Elab.async false

/-! ## The safe state of a channel (R445, R501, R502, Table 10.8) -/

/-! ### Retirement -/

/-- The registers that a retirement on a die writes. -/
def retireRegs (d : Nat) (p off : Nat) : Prop := p = reedPg d ∧ (off = 9 ∨ off = 20)

theorem retireEntry_regs (s : State) (d i : Nat) : RegsKept s (retireEntry s d i) (retireRegs d) := by
  unfold retireEntry
  exact RegsKept.trans (RegsKept.trans (.of_within (F := [.reeds]) (freeEntry_within (.refl s) ..) _)
    (.rinc _ _ _ (by decide) ⟨rfl, .inr rfl⟩)) (.irqPend _ _ ⟨rfl, .inl rfl⟩)

theorem reed_retireEntry (s : State) (d i : Nat) : (reed (retireEntry s d i) d).ev = ((reed s d).putEntry i Event.init).ev := by
  show (reed (freeEntry s d i) d).ev = _
  unfold freeEntry
  dsimp only
  rw [reed_setReed_same]

theorem retireEntry_entry (s : State) (d i : Nat) :
    (reed (retireEntry s d i) d).entry i = Event.init ∧
    ∀ j, j ≠ i → (reed (retireEntry s d i) d).entry j = (reed s d).entry j := by
  unfold Reed.entry
  rw [reed_retireEntry]
  exact ⟨entry_putEntry_same (reed s d) i _, fun j h => entry_putEntry_other (reed s d) _ h⟩

/-- A list of entries is retired: those are Free, the others as they were. -/
theorem retireList_entry (d : Nat) (l : List (Nat × Event)) (s : State) :
    (∀ j, (∃ e, (j, e) ∈ l) → (reed (l.foldl (fun s p => retireEntry s d p.1) s) d).entry j = Event.init) ∧
    (∀ j, (∀ e, (j, e) ∉ l) → (reed (l.foldl (fun s p => retireEntry s d p.1) s) d).entry j = (reed s d).entry j) := by
  induction l generalizing s with
  | nil => exact ⟨fun j ⟨e, h⟩ => absurd h List.not_mem_nil, fun _ _ => rfl⟩
  | cons p r ih =>
    obtain ⟨gone, kept⟩ := ih (retireEntry s d p.1)
    obtain ⟨own, other⟩ := retireEntry_entry s d p.1
    refine ⟨fun j ⟨e, h⟩ => ?_, fun j h => ?_⟩
    · by_cases later : ∃ e, (j, e) ∈ r
      · exact gone j later
      · rcases List.mem_cons.mp h with rfl | h
        · exact (kept j fun e h => later ⟨e, h⟩).trans own
        · exact absurd ⟨e, h⟩ later
    · have ne : j ≠ p.1 := fun e => h p.2 (by rw [e]; exact List.mem_cons_self)
      exact (kept j fun e hm => h e (List.mem_cons_of_mem _ hm)).trans (other j ne)

theorem mem_of_kget {α : Type} {d : Nat → α} {m : KMap α} {k : Nat} (h : kget d m k ≠ d k) : (k, kget d m k) ∈ m := by
  induction m with
  | nil => exact absurd rfl h
  | cons p r ih =>
    obtain ⟨j, v⟩ := p
    by_cases e : j = k
    · subst e
      simp [kget]
    · have tail : kget d ((j, v) :: r) k = kget d r k := if_neg e
      rw [tail] at h ⊢
      exact List.mem_cons_of_mem _ (ih h)

theorem kget_of_mem {α : Type} {d : Nat → α} {m : KMap α} {k : Nat} {v : α} (nodup : (m.map Prod.fst).Nodup) (h : (k, v) ∈ m) :
    kget d m k = v := by
  induction m with
  | nil => exact absurd h List.not_mem_nil
  | cons p r ih =>
    obtain ⟨j, u⟩ := p
    rw [List.map_cons, List.nodup_cons] at nodup
    rcases List.mem_cons.mp h with e | h
    · cases e
      simp [kget]
    · have ne : j ≠ k := fun e => nodup.1 (List.mem_map.mpr ⟨(k, v), h, e.symm⟩)
      exact (if_neg ne).trans (ih nodup.2 h)

/-- Retirement of the entries of a kind: they are Free; the others are as they were, in a table without a number twice. -/
theorem retireWhere_entry (s : State) (d : Nat) (f : Event → Bool) :
    (∀ j, (((reed s d).entry j).live && f ((reed s d).entry j)) = true → (reed (retireWhere s d f) d).entry j = Event.init) ∧
    (((reed s d).ev.map Prod.fst).Nodup → ∀ j, (((reed s d).entry j).live && f ((reed s d).entry j)) = false →
      (reed (retireWhere s d f) d).entry j = (reed s d).entry j) := by
  obtain ⟨gone, kept⟩ := retireList_entry d ((reed s d).ev.filter (fun p => p.2.live && f p.2)) s
  refine ⟨fun j h => gone j ⟨(reed s d).entry j, List.mem_filter.mpr ⟨mem_of_kget fun e => ?_, h⟩⟩,
    fun nodup j h => kept j fun e hm => ?_⟩
  · rw [show (reed s d).entry j = Event.init from e] at h
    cases h
  · obtain ⟨mem, holds⟩ := List.mem_filter.mp hm
    rw [show (reed s d).entry j = e from kget_of_mem nodup mem] at h
    exact absurd (holds.symm.trans h) (by decide)

theorem retireWhere_regs (s : State) (d : Nat) (f : Event → Bool) : RegsKept s (retireWhere s d f) (retireRegs d) := by
  unfold retireWhere
  refine RegsKept.foldl (fun t p => ?_) _ s
  exact retireEntry_regs t d p.1

/-! ### The outputs -/

theorem setLit_chan (s : State) (m : Nat) (lit : Bool) (level : Nat) :
    (chan (setLit s m lit level) m).lit = lit ∧ (chan (setLit s m lit level) m).level = level ∧
      (chan (setLit s m lit level) m).safe = (chan s m).safe ∧ (chan (setLit s m lit level) m).cause = (chan s m).cause ∧
      ∀ k, k ≠ m → chan (setLit s m lit level) k = chan s k := by
  unfold setLit
  dsimp only
  by_cases same : (chan s m).lit = lit ∧ (chan s m).level = level
  · rw [if_pos same]
    exact ⟨same.1, same.2, rfl, rfl, fun _ _ => rfl⟩
  · rw [if_neg same]
    split
    all_goals
      rw [chan_setChan_same]
      exact ⟨rfl, rfl, rfl, rfl, fun k h => chan_setChan_other _ h⟩

theorem setGd_chan (s : State) (m : Nat) (v : Bool) :
    ∃ e g f, chan (setGd s m v) m = { chan s m with gd := v, edges := e, gdSince := g, fbSince := f } ∧
      ∀ k, k ≠ m → chan (setGd s m v) k = chan s k := by
  unfold setGd
  dsimp only
  split
  next same =>
    refine ⟨0, (chan s m).gdSince, (chan s m).fbSince, ?_, fun k h => chan_setChan_other _ h⟩
    rw [chan_setChan_same, ← same]
  next =>
    refine ⟨0, s.ticks, s.ticks, ?_, fun k h => chan_setChan_other _ h⟩
    rw [chan_setChan_same]

/-- The outputs of a channel in its safe state. -/
theorem safeOutputs_chan {s t : State} {m : Nat} (ht : t = safeOutputs s m) :
    (chan t m).safe = (chan s m).safe ∧ (chan t m).cause = (chan s m).cause ∧
      (chMode s m ≠ 3 → (chan t m).gd = false ∧ (chan t m).burstOn = false ∧ (chan t m).burstArm = []) ∧
      (chMode s m = 1 ∨ chMode s m = 4 → (chan t m).lit = false) ∧ ∀ k, k ≠ m → chan t k = chan s k := by
  let s1 := if chMode s m = 1 then setLit s m false 65535 else if chMode s m = 4 then setLit s m false (chan s m).level else s
  let s2 := setChan s1 m { chan s1 m with
    burstOn := false, burstArm := [], offArm := [], disturbed := (chan s1 m).disturbed || decide (chMode s m = 3) }
  have dark : (chMode s m = 1 ∨ chMode s m = 4 → (chan s1 m).lit = false) ∧ (chan s1 m).safe = (chan s m).safe ∧
      (chan s1 m).cause = (chan s m).cause ∧ ∀ k, k ≠ m → chan s1 k = chan s k := by
    simp only [s1]
    split
    next =>
      obtain ⟨lit, -, rest⟩ := setLit_chan s m false 65535
      exact ⟨fun _ => lit, rest⟩
    next notLamp =>
      split
      next =>
        obtain ⟨lit, -, rest⟩ := setLit_chan s m false (chan s m).level
        exact ⟨fun _ => lit, rest⟩
      next notGeneric => exact ⟨fun h => h.elim (absurd · notLamp) (absurd · notGeneric), rfl, rfl, fun _ _ => rfl⟩
  obtain ⟨lit, safe, cause, others⟩ := dark
  have own : chan s2 m = _ := chan_setChan_same ..
  have rest : ∀ k, k ≠ m → chan s2 k = chan s k := fun k h => (chan_setChan_other _ h).trans (others k h)
  by_cases axle : chMode s m = 3 ∧ s.safety ≠ .mire
  · have ht : t = s2 := ht.trans (if_pos axle)
    rw [ht, own]
    exact ⟨safe, cause, fun h => absurd axle.1 h, lit, rest⟩
  · have ht : t = setGd s2 m false := ht.trans (if_neg axle)
    obtain ⟨e, g, f, gd, kept⟩ := setGd_chan s2 m false
    rw [ht, gd, own]
    exact ⟨safe, cause, fun _ => ⟨rfl, rfl, rfl⟩, lit, fun k h => (kept k h).trans (rest k h)⟩

/-! ### The entry into the safe state -/

/-- The registers that an entry of channel m into its safe state writes. -/
def safeRegs (m : Nat) (p off : Nat) : Prop :=
  (p = sluicePg (m / 24) ∧ (off = 6 ∨ off = 7 ∨ off = 9)) ∨ retireRegs (m / 96) p off ∨ (p = cbkPg (m / 24) ∧ off = 9)

/-- No retirement touches the pages of a region. -/
theorem regionPg_kept {s t : State} {d : Nat} (k : RegsKept s t (retireRegs d)) (g : Nat) {o off : Nat} (h : o < 64) (ho : off < 512) :
    rget t (regionPg g o) off = rget s (regionPg g o) off :=
  k _ _ ho fun e => by
    have := (regionPg_mod g h).symm.trans ((congrArg (· % 2048) e.1).trans (diePg_mod d (p := 4) (by decide)))
    omega

/-- A channel that enters its safe state, before it reports: its record, its votes, its events and its outputs. -/
def silenced (s : State) (m cause : Nat) (info : Word) : State :=
  let s1 := setChan s m { chan s m with safe := true, cause := cause }
  let s2 := setVoter s1 (m / 24) { voter s1 (m / 24) with
    safeInfo := kset (fun _ => 0) (voter s1 (m / 24)).safeInfo (m % 24) info }
  safeOutputs (retireWhere (clearVoter s2 m) (m / 96) (fun e => decide (e.chan = m % 96) && isOutput e.action)) m

theorem safeEnter_eq {s : State} {m : Nat} (cause key lanes : Nat) (out : (chan s m).safe = false) :
    safeEnter s m cause key lanes =
      let t := irqPend (capture (silenced s m cause (fval 30 19 key ||| fval 18 16 lanes)) (sluicePg (m / 24)) 8 (32 * cause + m % 24))
        (sluicePg (m / 24)) 1
      if cause = 10 ∨ cause = 11 then irqPend t (cbkPg (m / 24)) 2 else t := if_neg (by rw [out]; decide)

/-- The votes of a channel are gone. -/
theorem clearVoter_votes (s : State) (m : Nat) :
    (∀ w ∈ (voter (clearVoter s m) (m / 24)).wins, w.chan ≠ m) ∧ ∀ c ∈ (voter (clearVoter s m) (m / 24)).commits, c.chan ≠ m := by
  unfold clearVoter
  dsimp only
  rw [voter_setVoter_same]
  exact ⟨fun w h => by simpa using (List.mem_filter.mp h).2, fun c h => by simpa using (List.mem_filter.mp h).2⟩

/-- What the silenced channel, its votes and its events are. -/
theorem silenced_parts (s : State) (m cause : Nat) (info : Word) :
    let t := silenced s m cause info
    ((chan t m).safe = true ∧ (chan t m).cause = cause) ∧
    (chMode s m ≠ 3 → (chan t m).gd = false ∧ (chan t m).burstOn = false ∧ (chan t m).burstArm = []) ∧
    (chMode s m = 1 ∨ chMode s m = 4 → (chan t m).lit = false) ∧
    (∀ k, k ≠ m → chan t k = chan s k) ∧
    ((∀ w ∈ (voter t (m / 24)).wins, w.chan ≠ m) ∧ ∀ c ∈ (voter t (m / 24)).commits, c.chan ≠ m) ∧
    (∀ j, ((reed s (m / 96)).entry j).outputOf m = true → (reed t (m / 96)).entry j = Event.init) ∧
    (((reed s (m / 96)).ev.map Prod.fst).Nodup → ∀ j, ((reed s (m / 96)).entry j).outputOf m = false →
      (reed t (m / 96)).entry j = (reed s (m / 96)).entry j) ∧
    RegsKept s t (retireRegs (m / 96)) ∧ t.mem = s.mem ∧ t.cores = s.cores ∧ t.safety = s.safety ∧ t.refs = s.refs := by
  obtain ⟨f, hf⟩ : ∃ f : Event → Bool, f = fun e => decide (e.chan = m % 96) && isOutput e.action := ⟨_, rfl⟩
  obtain ⟨s1, h1⟩ : ∃ s1, s1 = setChan s m { chan s m with safe := true, cause := cause } := ⟨_, rfl⟩
  obtain ⟨s2, h2⟩ : ∃ s2, s2 = clearVoter (setVoter s1 (m / 24) { voter s1 (m / 24) with
    safeInfo := kset (fun _ => 0) (voter s1 (m / 24)).safeInfo (m % 24) info }) m := ⟨_, rfl⟩
  obtain ⟨s3, h3⟩ : ∃ s3, s3 = retireWhere s2 (m / 96) f := ⟨_, rfl⟩
  obtain ⟨t, ht⟩ : ∃ t, t = safeOutputs s3 m := ⟨_, rfl⟩
  have e : silenced s m cause info = t := by rw [ht, h3, h2, h1, hf]; rfl
  have w2 : Within [.voters] s1 s2 := h2 ▸ clearVoter_within (setVoter_within (.refl s1) ..) ..
  have w3 : Within [.regs, .evTick, .events, .reeds] s2 s3 := h3 ▸ retireWhere_within (.refl s2) ..
  have w4 : Within [.chans] s3 t := ht ▸ safeOutputs_within (.refl s3) ..
  have regs3 : RegsKept s s3 (retireRegs (m / 96)) :=
    RegsKept.trans (RegsKept.of_regs (by rw [w2.regs, h1]; rfl) _) (h3 ▸ retireWhere_regs s2 (m / 96) f)
  have regs : RegsKept s t (retireRegs (m / 96)) := RegsKept.trans regs3 (.of_within w4 _)
  have mode : chMode s3 m = chMode s m := by
    unfold chMode chcfg chanReg chanPg
    rw [regionPg_kept regs3 _ (by omega) (by unfold chanOff; omega)]
  have own : chan s3 m = { chan s m with safe := true, cause := cause } := by rw [w3.chan, w2.chan, h1, chan_setChan_same]
  have reeds : reed s2 (m / 96) = reed s (m / 96) := by rw [w2.reed, h1]; rfl
  have entries : ∀ j, (reed t (m / 96)).entry j = (reed s3 (m / 96)).entry j := fun j => by rw [w4.reed]
  have votes : voter t (m / 24) = voter s2 (m / 24) := by rw [w4.voter, w3.voter]
  obtain ⟨safe, hcause, outputs, dark, others⟩ := safeOutputs_chan ht
  obtain ⟨gone, kept⟩ := retireWhere_entry s2 (m / 96) f
  have counts : ∀ e : Event, (e.live && f e) = e.outputOf m := fun e => by
    rw [hf]
    unfold Event.outputOf
    rw [Bool.and_assoc]
  rw [e]
  rw [own] at safe hcause
  rw [mode] at outputs dark
  simp only [reeds, counts, ← h3] at gone kept
  refine ⟨⟨safe, hcause⟩, outputs, dark, fun k h => ?_, ?_, fun j h => (entries j).trans (gone j h),
    fun nodup j h => (entries j).trans (kept nodup j h), regs, ?_⟩
  · rw [others k h, w3.chan, w2.chan, h1, chan_setChan_other _ h]
  · rw [votes, h2]
    exact clearVoter_votes ..
  · refine ⟨?_, ?_, ?_, ?_⟩
    · rw [w4.mem, w3.mem, w2.mem, h1]; rfl
    · rw [w4.cores, w3.cores, w2.cores, h1]; rfl
    · rw [w4.safety, w3.safety, w2.safety, h1]; rfl
    · rw [w4.refs, w3.refs, w2.refs, h1]; rfl

/-- What signals and captures leave of the parts of the state. -/
theorem MadeSafe.of_parts {s t u : State} {m cause : Nat} {info : Word} (ht : t = silenced s m cause info)
    (w : Within [.regs, .evTick, .events] t u)
    (report : Captured s u (sluicePg (m / 24)) 8 (32 * cause + m % 24) ∧ bit (rget u (sluicePg (m / 24)) 9) 1 = true)
    (regs : RegsKept t u (safeRegs m)) : MadeSafe s u m cause ∧ RegsKept s u (safeRegs m) := by
  obtain ⟨safe, outputs, dark, others, votes, gone, kept, before, mem, cores, safety, refs⟩ := silenced_parts s m cause info
  rw [← ht] at safe outputs dark others votes gone kept before mem cores safety refs
  have all : RegsKept s u (safeRegs m) := RegsKept.trans (before.mono fun p o h => .inr (.inl h)) regs
  refine ⟨⟨?_, ?_, ?_, ?_, ?_, ?_, report, ?_, ?_, ?_⟩, all⟩
  · rw [w.chan]
    exact safe
  · rw [w.chan]
    exact outputs
  · rw [w.chan]
    exact dark
  · rw [w.reed]
    exact gone
  · rw [w.reed]
    exact kept
  · rw [w.voter]
    exact votes
  · intro k h
    rw [w.chan, others k h]
  · refine all.mono fun p o h => ?_
    rcases h with ⟨hp, ho⟩ | ⟨hp, ho⟩ | h
    · exact .inl ⟨hp, by omega⟩
    · exact .inr (.inl ⟨hp, ho⟩)
    · exact .inr (.inr h)
  · exact ⟨w.mem.trans mem, w.cores.trans cores, w.safety.trans safety, w.refs.trans refs⟩

/-- A channel that is not safe enters its safe state (R501, R502). -/
theorem safeEnter_safe {s : State} {m : Nat} (cause key lanes : Nat) (out : (chan s m).safe = false) :
    MadeSafe s (safeEnter s m cause key lanes) m cause ∧ RegsKept s (safeEnter s m cause key lanes) (safeRegs m) := by
  obtain ⟨t, ht⟩ : ∃ t, t = silenced s m cause (fval 30 19 key ||| fval 18 16 lanes) := ⟨_, rfl⟩
  obtain ⟨-, -, -, -, -, -, -, before, -⟩ := silenced_parts s m cause (fval 30 19 key ||| fval 18 16 lanes)
  rw [← ht] at before
  rw [safeEnter_eq cause key lanes out, ← ht]
  obtain ⟨u, hu⟩ : ∃ u, u = irqPend (capture t (sluicePg (m / 24)) 8 (32 * cause + m % 24)) (sluicePg (m / 24)) 1 := ⟨_, rfl⟩
  have captured : Captured s u (sluicePg (m / 24)) 8 (32 * cause + m % 24) :=
    hu ▸ ((captured_capture t _ _ _).of_before (regionPg_kept before _ (by decide) (by decide))
      (regionPg_kept before _ (by decide) (by decide))).irqPend _ _
  have pends : bit (rget u (sluicePg (m / 24)) 9) 1 = true := hu ▸ irqPend_pends _ _ (by decide)
  have w : Within [.regs, .evTick, .events] t u := hu ▸ irqPend_within (capture_within (.refl t) ..) ..
  have regs : RegsKept t u (safeRegs m) := hu ▸ RegsKept.trans
    (.capture _ _ _ ⟨.inl ⟨rfl, .inl rfl⟩, .inl ⟨rfl, .inr (.inl rfl)⟩, .inl ⟨rfl, .inr (.inr rfl)⟩⟩)
    (.irqPend _ _ (.inl ⟨rfl, .inr (.inr rfl)⟩))
  dsimp only
  rw [← hu]
  split
  · exact MadeSafe.of_parts ht (irqPend_within w ..) ⟨captured.irqPend _ _, bit_irqPend_kept _ _ _ pends⟩
      (RegsKept.trans regs (.irqPend _ _ (.inr (.inr ⟨rfl, rfl⟩))))
  · exact MadeSafe.of_parts ht w ⟨captured, pends⟩ regs

/-- A channel that is safe already does not enter its safe state again. -/
theorem safeEnter_again {s : State} {m : Nat} (cause key lanes : Nat) (safe : (chan s m).safe = true) :
    safeEnter s m cause key lanes = s := if_pos safe

theorem safeEnter_regs (s : State) (m cause key lanes : Nat) : RegsKept s (safeEnter s m cause key lanes) (safeRegs m) := by
  by_cases safe : (chan s m).safe = true
  · rw [safeEnter_again cause key lanes safe]
    exact .refl s _
  · exact (safeEnter_safe cause key lanes (Bool.not_eq_true _ ▸ safe)).2

end Sys2Proof.Machine

namespace Sys2Proof.Machine
open Sys2Proof Sys2Proof.Machine
set_option Elab.async false

/-- What a capture and a signal write. -/
abbrev Area.ofSignal : List Area := [.regs, .evTick, .events]

/-! ## The ends of the links, one by one -/

/-- What a pass over the first n links leaves at link j, where each turn writes its own link by g. -/
theorem foldlLinks {f : State → Nat → State} {g : Cwy → Cwy} (own : ∀ t i, cwy (f t i) i = g (cwy t i))
    (other : ∀ t i j, j ≠ i → cwy (f t i) j = cwy t j) (s : State) (n j : Nat) :
    cwy ((List.range n).foldl f s) j = if j < n then g (cwy s j) else cwy s j := by
  induction n with
  | zero => rfl
  | succ n ih =>
    rw [List.range_succ, List.foldl_append, List.foldl_cons, List.foldl_nil]
    by_cases e : j = n
    · subst e
      rw [own, ih, if_neg (by omega), if_pos (by omega)]
    · rw [other _ _ _ e, ih]
      by_cases h : j < n
      · rw [if_pos h, if_pos (by omega)]
      · rw [if_neg h, if_neg (by omega)]

/-- What a link shows of a package that has become a member (R540). -/
def Cwy.flagged (p : PeerFacts) (k : Nat) (c : Cwy) : Cwy :=
  if (c.peer.map (fun q => q.serial)) = some p.serial then
    { c with peer := some p, pmem := true, ppos := BitVec.ofNat 2 k, synth := p.synth }
  else c

theorem cwy_flagPeer (s : State) (p : PeerFacts) (k j : Nat) :
    cwy (flagPeer s p k) j = if j < s.part.ports then (cwy s j).flagged p k else cwy s j := by
  refine foldlLinks (fun t i => ?_) (fun t i j h => ?_) s s.part.ports j
  · unfold Cwy.flagged
    split
    · exact cwy_setCwy_same ..
    · rfl
  · split
    · exact cwy_setCwy_other _ h
    · rfl

theorem flagged_joining (p : PeerFacts) (k : Nat) (c : Cwy) : (c.flagged p k).joining = c.joining := by
  unfold Cwy.flagged
  split <;> rfl

/-! ## Links that come up -/

theorem linkWaits_shows {s : State} {i : Nat} (why : Nat) : cwyState (linkWaits s i why) i = .wait ∧
    cwy (linkWaits s i why) i = { cwy s i with waitWhy := why } ∧ (linkWaits s i why).stack = s.stack := by
  unfold linkWaits
  have w := capture_within (F := Area.ofSignal) (.refl (setCwyState (setCwy s i { cwy s i with waitWhy := why }) i .wait))
    (pkgPg (8 + i)) 11 why
  have v := setCwyState_within (F := [.links]) (.refl (setCwy s i { cwy s i with waitWhy := why })) i .wait
  refine ⟨?_, ?_, w.stack.trans (v.stack)⟩
  · unfold cwyState
    rw [w.linkAt]
    exact setCwyState_st _ i .wait (.inl rfl)
  · rw [w.cwy, v.cwy, cwy_setCwy_same]

/-- What a link shows once its ends have exchanged what they are (R536). -/
theorem linkFacts_shows (s : State) (i : Nat) (peer : PeerFacts) :
    (cwy (linkFacts s i peer) i).peer = some peer ∧ (cwy (linkFacts s i peer) i).waitWhy = 0 := by
  unfold linkFacts
  dsimp only
  rw [cwy_setCwy_same]
  exact ⟨rfl, rfl⟩

theorem linkUp_comes {s : State} {link : BitVec 2} (peer : PeerFacts) (works : linkWorks s (544 + link.toNat) = true)
    (on : causewayOn s = true) (out : cwyState s link.toNat ≠ .up) (still : cwyState s link.toNat ≠ .retrain) :
    ∃ t, exec (.linkUp link peer) s = .next t ∧ (cwy t link.toNat).peer = some peer ∧ t.stack = s.stack ∧
      cwyState t link.toNat = (if roleStrap s = 1 ∧ peer.strap = 1 then .wait else .up) ∧
      (cwy t link.toNat).waitWhy = (if roleStrap s = 1 ∧ peer.strap = 1 then 5 else 0) := by
  obtain ⟨u, hu⟩ : ∃ u, u = linkFacts (linkPools s link.toNat) link.toNat peer := ⟨_, rfl⟩
  have run : exec (.linkUp link peer) s = .next (if roleStrap s = 1 ∧ peer.strap = 1 then
      linkWaits (capture u (pkgPg 0) 27 link.toNat) link.toNat 5 else setCwyState u link.toNat .up) :=
    (congrArg done (if_pos ⟨works, on, out, still⟩)).trans (by rw [hu]; rfl)
  obtain ⟨shown, calm⟩ := linkFacts_shows (linkPools s link.toNat) link.toNat peer
  rw [← hu] at shown calm
  have stack : u.stack = s.stack := hu ▸ (linkPools_within (F := [.regs, .links]) (.refl s) link.toNat).stack
  refine ⟨_, run, ?_⟩
  by_cases two : roleStrap s = 1 ∧ peer.strap = 1
  · rw [if_pos two, if_pos two, if_pos two]
    have w := capture_within (F := Area.ofSignal) (.refl u) (pkgPg 0) 27 link.toNat
    obtain ⟨st, shows, kept⟩ := linkWaits_shows (s := capture u (pkgPg 0) 27 link.toNat) (i := link.toNat) 5
    rw [shows, w.cwy]
    exact ⟨shown, kept.trans (w.stack.trans stack), st, rfl⟩
  · rw [if_neg two, if_neg two, if_neg two]
    have w := setCwyState_within (F := [.links]) (.refl u) link.toNat .up
    rw [w.cwy]
    exact ⟨shown, w.stack.trans stack, setCwyState_st u _ .up (.inl rfl), calm⟩

/-! ## Declaration -/

theorem stackDeclare_declares {s : State} {f : Nat} (works : unitWorks s (pkgPg 0) = true) (none_ : s.stack.role = 0)
    (strap : roleStrap s = 1) (on : causewayOn s = true) (ups : upLinks s ≠ []) (first : firstUp s = some f)
    (due : f + 3000000 ≤ s.ticks)
    (peers : ∀ j ∈ upLinks s, ∀ p, (cwy s j).peer = some p → p.members = 0 ∧ p.strap ≠ 1) :
    ∃ t, exec .stackDeclare s = .next t ∧ bit (rget t (pkgPg 0) 9) 1 = true ∧
      t.stack = { role := 1, pos := 0, members := 1, orphan := false, id := s.fusesRead.serno } ∧
      t = { s.noted t with stack := t.stack, regs := t.regs, cwys := t.cwys } := by
  have outrank : ∀ j ∈ upLinks s, (match (cwy s j).peer with
      | some p => decide (p.members ≠ 0) || outranks s p
      | none => true) = true := fun j hj => by
    cases shown : (cwy s j).peer with
    | none => rfl
    | some p =>
      obtain ⟨-, master⟩ := peers j hj p shown
      have : outranks s p = true := by
        unfold outranks
        by_cases h : p.strap = 2
        · exact if_pos h
        · exact (if_neg h).trans (if_pos ⟨strap, master⟩)
      simp [this]
  have may : mayDeclare s = true := by
    unfold mayDeclare
    rw [none_, strap, on, first]
    simp only [beq_self_eq_true, Bool.true_or, Bool.true_and, Bool.and_true, Bool.and_eq_true,
      decide_eq_true_eq, List.all_eq_true, Bool.not_eq_true']
    refine ⟨⟨?_, due⟩, outrank⟩
    simp [ups]
  refine ⟨_, congrArg done ((unitDo_of_works works _).trans (if_pos may)), irqPend_pends _ _ (by decide), ?_, ?_⟩
  · exact (irqPend_within (F := [.regs, .evTick, .events, .cwys]) (showMembers_within (.refl _) ..) ..).stack
  · obtain ⟨u, hu⟩ : ∃ u : State, u = { s with stack := { role := 1, pos := 0, members := 1, orphan := false, id := ownSerial s } } :=
      ⟨_, rfl⟩
    have members : showMembers u = { u with cwys := (showMembers u).cwys } := (showMembers_within (F := [.cwys]) (.refl u)).eq
    rw [← hu, stackChanged, members, hu]
    rfl

/-! ## Admission -/

/-- The request of the lowest serial number is decided next (R538). -/
theorem joinNext_lowest {s : State} {i : Nat} {peer : PeerFacts} (port : i < s.part.ports) (asks : (cwy s i).joining = some peer)
    (lowest : ∀ j q, j < s.part.ports → j ≠ i → (cwy s j).joining = some q → peer.serial < q.serial) :
    joinNext s = some (i, peer) := by
  obtain ⟨f, hf⟩ : ∃ f : Option (Nat × PeerFacts) → Nat → Option (Nat × PeerFacts), f = fun b i =>
    match b, (cwy s i).joining with
    | some x, some p => if p.serial < x.2.serial then some (i, p) else some x
    | none, some p => some (i, p)
    | x, none => x := ⟨_, rfl⟩
  have next : joinNext s = (List.range s.part.ports).foldl f none := by rw [hf]; rfl
  have inv : ∀ n, n ≤ s.part.ports → if i < n then (List.range n).foldl f none = some (i, peer)
      else ∀ x, (List.range n).foldl f none = some x → peer.serial < x.2.serial := by
    intro n
    induction n with
    | zero => exact fun _ => by simp
    | succ n ih =>
      intro hn
      specialize ih (by omega)
      rw [List.range_succ, List.foldl_append, List.foldl_cons, List.foldl_nil]
      obtain ⟨b, hb⟩ : ∃ b, b = (List.range n).foldl f none := ⟨_, rfl⟩
      rw [← hb] at ih ⊢
      by_cases own : n = i
      · subst own
        rw [if_pos (by omega)]
        rw [if_neg (by omega)] at ih
        cases b with
        | none => rw [hf]; simp only [asks]
        | some x => rw [hf]; simp only [asks]; exact if_pos (ih x rfl)
      · cases q : (cwy s n).joining with
        | none =>
          have same : f b n = b := by rw [hf]; cases b <;> simp only [q]
          rw [same]
          by_cases h : i < n
          · rw [if_pos (by omega)]; rwa [if_pos h] at ih
          · rw [if_neg (by omega)]; rwa [if_neg h] at ih
        | some q' =>
          have more := lowest n q' (by omega) own q
          by_cases h : i < n
          · rw [if_pos (by omega)]
            rw [if_pos h] at ih
            rw [ih, hf]
            simp only [q]
            exact if_neg (by bv_omega)
          · rw [if_neg (by omega)]
            rw [if_neg h] at ih
            intro x hx
            rw [hf] at hx
            cases b with
            | none =>
              simp only [q, Option.some.injEq] at hx
              rw [← hx]
              exact more
            | some y =>
              simp only [q] at hx
              split at hx <;> rw [← Option.some.inj hx]
              · exact more
              · exact ih y rfl
  have last := inv _ (Nat.le_refl _)
  rw [if_pos port] at last
  rw [next, last]

/-- The far end of a link as a member (R540, R541). -/
theorem memberAt_members (s : State) (i : Nat) (p : PeerFacts) (k : Nat) (orphan : Bool) :
    (memberAt s i p k orphan).stack = { s.stack with members := withMember s.stack.members k, orphan := orphan } ∧
    (memberAt s i p k orphan).tt = s.tt ∧ (memberAt s i p k orphan).mem = s.mem ∧
    (cwy (memberAt s i p k orphan) i).joining = (cwy s i).joining ∧
    ∀ j, j < s.part.ports → (j = i ∨ (cwy s j).peer.map (fun q => q.serial) = some p.serial) →
      (cwy (memberAt s i p k orphan) j).pmem = true ∧ (cwy (memberAt s i p k orphan) j).ppos = BitVec.ofNat 2 k := by
  obtain ⟨u, hu⟩ : ∃ u : State, u = { s with stack := { s.stack with members := withMember s.stack.members k, orphan := orphan } } :=
    ⟨_, rfl⟩
  have eq : memberAt s i p k orphan = flagPeer (setCwy u i { cwy u i with peer := some p }) p k := by rw [hu]; rfl
  have w : Within [.cwys] u (memberAt s i p k orphan) := eq ▸ flagPeer_within (setCwy_within (.refl u) ..) ..
  have ends : ∀ j, cwy u j = cwy s j := fun j => by rw [hu]; rfl
  have ports : (setCwy u i { cwy u i with peer := some p }).part.ports = s.part.ports := by rw [hu]; rfl
  refine ⟨by rw [w.stack, hu], by rw [w.tt, hu], by rw [w.mem, hu], ?_, fun j hj own => ?_⟩
  · rw [eq, cwy_flagPeer, cwy_setCwy_same, ends]
    split
    · exact flagged_joining ..
    · rfl
  · have flagged : ((cwy (setCwy u i { cwy u i with peer := some p }) j).peer.map (fun q => q.serial)) = some p.serial := by
      by_cases e : j = i
      · rw [e, cwy_setCwy_same]
        rfl
      · rw [cwy_setCwy_other _ e, ends]
        exact own.resolve_left e
    rw [eq, cwy_flagPeer, ports, if_pos hj, Cwy.flagged, if_pos flagged]
    exact ⟨rfl, rfl⟩

/-- The master decides on the request of the lowest serial number (R538 to R540). -/
theorem joinTick_decides {s : State} {i : Nat} {peer : PeerFacts} (master : s.stack.role = 1) (port : i < s.part.ports)
    (asks : (cwy s i).joining = some peer)
    (lowest : ∀ j q, j < s.part.ports → j ≠ i → (cwy s j).joining = some q → peer.serial < q.serial) :
    joinTick s = if masterRefuses s peer = 0 then admitPeer (setCwy s i { cwy s i with joining := none }) i peer
      else capture (setCwy s i { cwy s i with joining := none }) (pkgPg 0) 25 (masterRefuses s peer) := by
  unfold joinTick
  rw [if_pos master, joinNext_lowest port asks lowest]
  rfl

theorem admitPeer_admits (s : State) (i : Nat) (p : PeerFacts) :
    bit (rget (admitPeer s i p) (pkgPg 0) 9) 1 = true ∧
    (admitPeer s i p).stack = { s.stack with members := withMember s.stack.members (freePos s.stack.members) } ∧
    (admitPeer s i p).tt = s.tt ∧ (admitPeer s i p).mem = s.mem ∧ (cwy (admitPeer s i p) i).joining = (cwy s i).joining ∧
    ∀ j, j < s.part.ports → (j = i ∨ (cwy s j).peer.map (fun q => q.serial) = some p.serial) →
      (cwy (admitPeer s i p) j).pmem = true ∧ (cwy (admitPeer s i p) j).ppos = BitVec.ofNat 2 (freePos s.stack.members) := by
  obtain ⟨u, hu⟩ : ∃ u, u = memberAt s i p (freePos s.stack.members) s.stack.orphan := ⟨_, rfl⟩
  obtain ⟨stack, tt, mem, joining, flagged⟩ := memberAt_members s i p (freePos s.stack.members) s.stack.orphan
  rw [← hu] at stack tt mem joining flagged
  have w : Within Area.ofSignal u (admitPeer s i p) := by
    rw [hu]
    exact irqPend_within (.refl _) ..
  refine ⟨irqPend_pends _ _ (by decide), w.stack.trans stack, w.tt.trans tt, w.mem.trans mem, ?_, fun j hj own => ?_⟩
  · rw [w.cwy]
    exact joining
  · rw [w.cwy]
    exact flagged j hj own

theorem joinTick_admits {s : State} {i : Nat} {peer : PeerFacts} (master : s.stack.role = 1) (port : i < s.part.ports)
    (asks : (cwy s i).joining = some peer)
    (lowest : ∀ j q, j < s.part.ports → j ≠ i → (cwy s j).joining = some q → peer.serial < q.serial) :
    let t := joinTick s
    (cwy t i).joining = none ∧ t.tt = s.tt ∧ t.mem = s.mem ∧
    (masterRefuses s peer = 0 → bit (rget t (pkgPg 0) 9) 1 = true ∧
      t.stack = { s.stack with members := s.stack.members ||| BitVec.ofNat 4 (2 ^ freePos s.stack.members) } ∧
      ∀ j, j < s.part.ports → (j = i ∨ ((cwy s j).peer.map (fun q => q.serial)) = some peer.serial) →
        (cwy t j).pmem = true ∧ (cwy t j).ppos = BitVec.ofNat 2 (freePos s.stack.members)) ∧
    (masterRefuses s peer = 1 → t.stack = s.stack ∧ Captured s t (pkgPg 0) 25 1) := by
  obtain ⟨u, hu⟩ : ∃ u, u = setCwy s i { cwy s i with joining := none } := ⟨_, rfl⟩
  have w : Within [.cwys] s u := hu ▸ setCwy_within (.refl s) ..
  have joined : (cwy u i).joining = none := by rw [hu, cwy_setCwy_same]
  have peers : ∀ j, (cwy u j).peer = (cwy s j).peer := fun j => by
    by_cases e : j = i
    · rw [e, hu, cwy_setCwy_same]
    · rw [hu, cwy_setCwy_other _ e]
  intro t
  have ht : t = if masterRefuses s peer = 0 then admitPeer u i peer else capture u (pkgPg 0) 25 (masterRefuses s peer) :=
    hu ▸ joinTick_decides master port asks lowest
  by_cases takes : masterRefuses s peer = 0
  · rw [if_pos takes] at ht
    obtain ⟨noted, stack, tt, mem, joining, flagged⟩ := admitPeer_admits u i peer
    rw [← ht] at noted stack tt mem joining flagged
    refine ⟨joining.trans joined, tt.trans w.tt, mem.trans w.mem, fun _ => ⟨noted, ?_, fun j hj own => ?_⟩, fun h => by omega⟩
    · rw [stack, w.stack]
      rfl
    · rw [w.stack, w.part] at flagged
      exact flagged j hj (by rw [peers]; exact own)
  · rw [if_neg takes] at ht
    have v : Within Area.ofSignal u t := ht ▸ capture_within (.refl u) ..
    refine ⟨?_, v.tt.trans w.tt, v.mem.trans w.mem, fun h => absurd h takes, fun one => ⟨v.stack.trans w.stack, ?_⟩⟩
    · rw [v.cwy]
      exact joined
    · rw [ht, one]
      exact (captured_capture u _ _ _).of_before (w.rget ..) (w.rget ..)

/-! ## This package joins -/

theorem holdTo_hold (s : State) (h : Bool) : (holdTo s h).sync.hold = h := by
  unfold holdTo
  split
  case isTrue e => exact e
  case isFalse => rfl

theorem ttJump_ahead {s : State} {n : Nat} (later : s.tt < n) (small : n < 2 ^ 72) : (ttJump s ((n : Int) - s.tt)).tt = n := by
  have sum : (s.tt : Int) + ((n : Int) - s.tt) = n := by omega
  have eq : (ttJump s ((n : Int) - s.tt)).tt = (((s.tt : Int) + ((n : Int) - s.tt)) % (2 ^ 72 : Nat)).toNat := rfl
  rw [eq, sum]
  omega

/-- This package is admitted at the lowest free position, with a track time not before its own, and holds it (R540, R429). -/
theorem admitted_joins (s : State) (i : Nat) (p : PeerFacts) :
    bit (rget (admitted s i p false) (pkgPg 0) 9) 1 = true ∧
    (admitted s i p false).stack = { role := 2, pos := BitVec.ofNat 2 (freePos p.members), orphan := false, id := p.stackId
                                     members := p.members ||| BitVec.ofNat 4 (2 ^ freePos p.members) } ∧
    (admitted s i p false).tt = max s.tt p.time.toNat ∧ (admitted s i p false).sync.hold = true := by
  obtain ⟨u, hu⟩ : ∃ u : State, u = { s with stack := ⟨2, BitVec.ofNat 2 (freePos p.members), withMember p.members (freePos p.members),
    false, p.stackId⟩ } := ⟨_, rfl⟩
  obtain ⟨v, hv⟩ : ∃ v, v = showMembers (setCwy u i { cwy s i with peer := some p, ppos := p.pos, synth := p.synth }) := ⟨_, rfl⟩
  obtain ⟨x, hx⟩ : ∃ x, x = if v.tt < p.time.toNat then ttJump v ((p.time.toNat : Int) - v.tt) else ttMark v v.ticks := ⟨_, rfl⟩
  obtain ⟨y, hy⟩ : ∃ y, y = stackChanged { x with sync := { Sync.init with last := v.ticks } } := ⟨_, rfl⟩
  have eq : admitted s i p false = holdTo y true := by
    rw [hy, hx, hv, hu]
    unfold admitted
    simp only [true_and]
    rfl
  have wv : Within [.cwys] u v := hv ▸ showMembers_within (setCwy_within (.refl u) ..) ..
  have wx : Within [.tt, .ttMarks, .voters] v x :=
    hx ▸ Within.ite (ttJump_within (.refl v) ..) (ttMark_within (.refl v) ..)
  have wy : Within [.regs, .evTick, .events, .sync] x y := by
    rw [hy]
    have set : Within [.sync] x { x with sync := { Sync.init with last := v.ticks } } := ⟨rfl, id⟩
    exact irqPend_within (set.mono (by decide)) ..
  have wz : Within [.regs, .evTick, .events, .sync] y (holdTo y true) := holdTo_within (.refl y) ..
  have start : v.tt = s.tt := by rw [wv.tt, hu]
  rw [eq]
  refine ⟨?_, ?_, ?_, holdTo_hold y true⟩
  · have noted : bit (rget y (pkgPg 0) 9) 1 = true := hy ▸ irqPend_pends _ _ (by decide)
    unfold holdTo
    split
    · exact noted
    · exact bit_irqPend_kept _ _ _ noted
  · rw [wz.stack, wy.stack, wx.stack, wv.stack, hu]
    rfl
  · rw [wz.tt, wy.tt, hx]
    split
    case isTrue later => rw [ttJump_ahead later p.time.isLt]; omega
    case isFalse early =>
      have : (ttMark v v.ticks).tt = v.tt := rfl
      omega

/-! ## Removal and leaving -/

theorem getLsbD_without (m : BitVec 4) (k j : Nat) :
    (m &&& ~~~(BitVec.ofNat 4 (2 ^ k))).getLsbD j = (m.getLsbD j && !decide (k = j)) := by
  rw [BitVec.getLsbD_and, BitVec.getLsbD_not, BitVec.getLsbD_ofNat, Nat.testBit_two_pow]
  by_cases h : j < 4
  · simp [h]
  · rw [BitVec.getLsbD_of_ge m j (by omega)]
    simp

theorem syncLost_within_sync (s : State) : Within [.regs, .evTick, .events, .refs, .reeds, .chans, .voters]
    (holdTo { s with sync := { s.sync with good := 0 } } true) (syncLost s) := by
  unfold syncLost
  exact .foldl (fun _ _ => .ite (refTo_within (.refl _) ..) (.refl _)) (.refl _)

theorem syncLost_sync (s : State) : (syncLost s).sync = { s.sync with hold := true, good := 0 } := by
  rw [(syncLost_within_sync s).sync]
  unfold holdTo
  split
  case isTrue e =>
    show ({ s.sync with good := 0 } : Sync) = _
    rw [← e]
  case isFalse => rfl

theorem memberRemoval_removes {s : State} {pos : BitVec 2} (works : unitWorks s (pkgPg 0) = true) (stack : s.stack.role ≠ 0)
    (there : s.stack.members.getLsbD pos.toNat = true) (far : pos ≠ s.stack.pos) (gone : memberGone s pos.toNat = true) :
    ∃ t, exec (.memberRemoval pos) s = .next t ∧ t.stack.members.getLsbD pos.toNat = false ∧
      (∀ k, k ≠ pos.toNat → t.stack.members.getLsbD k = s.stack.members.getLsbD k) ∧
      t.stack.orphan = (s.stack.orphan || decide (pos = 0)) ∧ (pos = 0 → t.sync.hold = true) ∧
      t.stack.role = s.stack.role ∧ t.stack.pos = s.stack.pos ∧ t.stack.id = s.stack.id := by
  obtain ⟨u, hu⟩ : ∃ u : State, u = { s with stack := { s.stack with
    members := s.stack.members &&& ~~~(BitVec.ofNat 4 (2 ^ pos.toNat)), orphan := s.stack.orphan || decide (pos.toNat = 0) } } := ⟨_, rfl⟩
  obtain ⟨v, hv⟩ : ∃ v, v = stackChanged (capture (forgetPos u pos.toNat) (pkgPg 0) 26 pos.toNat) := ⟨_, rfl⟩
  have run : exec (.memberRemoval pos) s = .next (if pos.toNat = 0 then syncLost v else v) :=
    (congrArg done ((unitDo_of_works works _).trans (if_pos ⟨stack, there, far, by rw [gone]; rfl⟩))).trans (by rw [hv, hu]; rfl)
  have wv : Within [.cwys, .regs, .evTick, .events] u v := by
    rw [hv]
    exact irqPend_within (capture_within (forgetPos_within (.refl u) ..) ..) ..
  have w : Within [.cwys, .regs, .evTick, .events, .sync, .refs, .reeds, .chans, .voters] u (if pos.toNat = 0 then syncLost v else v) :=
    .ite (syncLost_within (wv.mono (by decide)) ..) (wv.mono (by decide))
  refine ⟨_, run, ?_⟩
  rw [w.stack, hu]
  refine ⟨?_, fun k hk => ?_, ?_, fun master => ?_, rfl, rfl, rfl⟩
  · exact (getLsbD_without _ _ _).trans (by simp)
  · exact (getLsbD_without _ _ k).trans (by simp [hk.symm])
  · have : decide (pos.toNat = 0) = decide (pos = 0) := decide_eq_decide.mpr ⟨fun h => BitVec.eq_of_toNat_eq h, fun h => by rw [h]; rfl⟩
    rw [← this]
  · rw [if_pos (by rw [master]; rfl), syncLost_sync]

theorem leave_leaves {s : State} (works : unitWorks s (pkgPg 0) = true) (stack : s.stack.role ≠ 0) :
    ∃ t, exec .leave s = .next t ∧ t.stack = Stack.init ∧
      t.sync = { Sync.init with steps := s.sync.steps, seen := s.sync.seen } ∧ (∀ j, j < s.part.ports → (cwy t j).pmem = false) ∧
      t.tt = s.tt := by
  obtain ⟨u, hu⟩ : ∃ u, u = (List.range s.part.ports).foldl (fun s i => setCwy s i { cwy s i with pmem := false, joining := none }) s :=
    ⟨_, rfl⟩
  obtain ⟨v, hv⟩ : ∃ v : State, v = { holdTo u false with stack := Stack.init, sync := { Sync.init with steps := s.sync.steps, seen := s.sync.seen } } :=
    ⟨_, rfl⟩
  have run : exec .leave s = .next (refCopies (stackChanged v)) :=
    (congrArg done ((unitDo_of_works works leaveStack).trans (if_neg stack))).trans (by rw [hv, hu]; rfl)
  have wu : Within [.cwys] s u := hu ▸ .foldl (fun _ _ => setCwy_within (.refl _) ..) (.refl _)
  have wh : Within [.regs, .evTick, .events, .sync] u (holdTo u false) := holdTo_within (.refl u) ..
  have w : Within [.regs, .evTick, .events, .refs, .reeds, .chans, .voters] v (refCopies (stackChanged v)) :=
    refCopies_within (irqPend_within (.refl v) ..) ..
  have ends : ∀ j, cwy v j = cwy u j := fun j => (show cwy v j = cwy (holdTo u false) j by rw [hv]; rfl).trans (wh.cwy j)
  refine ⟨_, run, by rw [w.stack, hv], by rw [w.sync, hv], fun j hj => ?_, ?_⟩
  · rw [w.cwy, ends, hu, foldlLinks (g := fun c => { c with pmem := false, joining := none })
      (fun _ _ => cwy_setCwy_same ..) (fun _ _ _ h => cwy_setCwy_other _ h), if_pos hj]
  · have held : v.tt = (holdTo u false).tt := by rw [hv]
    rw [w.tt, held, wh.tt, wu.tt]

/-- Settles O27, command by command. -/
theorem stackMembership : Obligations.StackMembership := by
  intro s link peer pos i free noted
  have joins : linkWorks s (544 + i) = true → cwyState s i = .up → exec (.joinRequest link peer) s = .next
      (if s.stack.role = 1 then setCwy s i { cwy s i with joining := some peer }
       else if s.stack.role = 2 then followerJoin s i peer
       else if peer.members = 0 then s
       else
         let former := decide (peer.stackId = ownSerial s) && !peer.members.getLsbD 0
         let why := joinerRefused s peer former
         if former = false ∧ (peer.members.getLsbD 0 = false ∨ peer.pos ≠ 0) then s
         else if why = 0 then admitted s i peer former
         else joinRefused s i why) := fun works up => congrArg done (if_pos ⟨works, up⟩)
  refine ⟨fun works on out still => linkUp_comes peer works on out still,
    fun f works none_ strap on ups first due peers => stackDeclare_declares works none_ strap on ups first due peers,
    fun works up master => ?_, fun master port asks lowest => ?_,
    fun works up none_ strap zero first room all idle time calm safe other => ?_,
    fun works stack there far gone => memberRemoval_removes works stack there far gone, fun works stack => leave_leaves works stack⟩
  · refine ⟨_, (joins works up).trans (congrArg _ (if_pos master)), cwy_setCwy_same .., rfl⟩
  · obtain ⟨joined, tt, mem, takes, full⟩ := joinTick_admits master port asks lowest
    refine ⟨joined, tt, mem, fun room all refs alone strap time calm safe => takes ?_, fun all => full (if_pos all)⟩
    unfold masterRefuses tenMs
    simp only [room, all, refs, alone, strap, calm, if_false, Bool.not_true, Bool.false_eq_true, ne_eq, not_true_eq_false, Bool.false_or]
    rw [if_neg (by omega), if_neg (by simpa using safe)]
  · have member : peer.members ≠ 0 := fun e => by rw [e] at zero; exact absurd zero (by decide)
    have former : (decide (peer.stackId = ownSerial s) && !peer.members.getLsbD 0) = false := by rw [zero]; simp
    have why : joinerRefused s peer false = 0 := by
      unfold joinerRefused tenMs
      simp only [room, all, idle, strap, calm, if_false, Bool.not_true, Bool.false_eq_true, Bool.false_or, and_true]
      rw [if_neg (by omega), if_neg (by simpa using safe)]
    refine ⟨_, (joins works up).trans (congrArg Host.Outcome.next ?_), admitted_joins s i peer⟩
    rw [none_, if_neg (by decide), if_neg (by decide), if_neg member]
    dsimp only
    rw [former, zero, if_neg (by simp [first]), why, if_pos rfl]

end Sys2Proof.Machine

namespace Sys2Proof.Machine
open Sys2Proof Sys2Proof.Machine
set_option Elab.async false

/-! ## What a change of a reference's state leaves (R410 to R418) -/

/-- The registers that the loss of reference i writes at Reed and at the channels. -/
def goneRegs (p off : Nat) : Prop :=
  (∃ d, p = reedPg d ∧ (off = 6 ∨ off = 7 ∨ off = 9 ∨ off = 20)) ∨ ∃ m, safeRegs m p off

/-- The registers that a change of reference i writes. -/
def refRegs (i : Nat) (p off : Nat) : Prop := (p = phrefPg ∧ (off = 6 ∨ off = 7 ∨ off = 9 ∨ off = 18 + 4 * i)) ∨ goneRegs p off

theorem reedRefGone_regs (s : State) (i d : Nat) : RegsKept s (reedRefGone s i d) goneRegs := by
  obtain ⟨t, ht⟩ : ∃ t, t = ((reed s d).ev.filter (fun p => p.2.live && decide (p.2.refNo = i))).foldl (fun s p =>
    if ((reed s d).entry p.1).live then
      let s1 := retireEntry s d p.1
      if isOutput p.2.action && decide (p.2.chan ≠ 127) then safeEnter s1 (96 * d + p.2.chan) 8 p.2.key 0 else s1
    else s) s := ⟨_, rfl⟩
  have regs : RegsKept s t goneRegs := by
    rw [ht]
    refine RegsKept.foldl (fun u p => .ite ?_ (.refl u _)) _ s
    have retired : RegsKept u (retireEntry u d p.1) goneRegs :=
      (retireEntry_regs u d p.1).mono fun q o ⟨hq, ho⟩ => .inl ⟨d, hq, by omega⟩
    have silent := safeEnter_regs (retireEntry u d p.1) (96 * d + p.2.chan) 8 p.2.key 0
    exact .ite (retired.trans (RegsKept.mono silent fun q o h => .inr ⟨_, h⟩)) retired
  show RegsKept s (if _ then _ else capture _ _ _ _) _
  rw [← ht]
  exact .ite regs (regs.trans (.capture _ _ _ ⟨.inl ⟨d, rfl, .inl rfl⟩, .inl ⟨d, rfl, .inr (.inl rfl)⟩, .inl ⟨d, rfl, .inr (.inr (.inl rfl))⟩⟩))

theorem refGone_regs (s : State) (i : Nat) : RegsKept s (refGone s i) goneRegs := by
  unfold refGone burstRefGone
  refine RegsKept.trans (.foldl (fun t d => reedRefGone_regs t i d) _ s) (.foldl (fun t p => ?_) _ _)
  exact RegsKept.mono (safeEnter_regs t p.1 8 0 0) fun q o h => .inr ⟨_, h⟩

theorem refTo_regs (s : State) {i : Nat} (hi : i < 8) (st : RefState) : RegsKept s (refTo s i st) (refRegs i) := by
  obtain ⟨u, hu⟩ : ∃ u, u = irqPend (setRef s i { ref s i with st := st }) phrefPg (1 + i) := ⟨_, rfl⟩
  have regs : RegsKept s u (refRegs i) := hu ▸ RegsKept.trans (.of_regs (t := setRef s i { ref s i with st := st }) rfl _)
    (.irqPend _ _ (.inl ⟨rfl, .inr (.inr (.inl rfl))⟩))
  have gone : ∀ t, RegsKept t (refGone t i) (refRegs i) := fun t => (refGone_regs t i).mono fun _ _ h => .inr h
  unfold refTo
  refine .ite (.refl s _) ?_
  cases st with
  | lost =>
    dsimp only
    rw [← hu]
    refine regs.trans (RegsKept.trans (.rinc u 31 20 (by omega) (.inl ⟨rfl, .inr (.inr (.inr rfl))⟩)) (RegsKept.trans ?_ (gone _)))
    exact .capture _ _ _ ⟨.inl ⟨rfl, .inl rfl⟩, .inl ⟨rfl, .inr (.inl rfl)⟩, .inl ⟨rfl, .inr (.inr (.inl rfl))⟩⟩
  | off =>
    dsimp only
    rw [← hu]
    exact regs.trans (RegsKept.trans (.of_regs (t := setRef u i Ref.init) rfl _) (gone _))
  | holdover =>
    dsimp only
    rw [← hu]
    exact regs.trans (.of_regs rfl _)
  | acquire => exact hu ▸ regs
  | locked => exact hu ▸ regs

/-- The pages that the loss of a reference writes: a die's REED page or a page of a region. -/
theorem goneRegs_page {p off : Nat} (h : goneRegs p off) : p % 2048 = 4 ∨ 64 ≤ p % 2048 := by
  have region : ∀ g o, o < 64 → 64 ≤ regionPg g o % 2048 := fun g o ho => by rw [regionPg_mod g ho]; omega
  rcases h with ⟨d, rfl, -⟩ | ⟨m, ⟨rfl, -⟩ | ⟨rfl, -⟩ | ⟨rfl, -⟩⟩
  · exact .inl (diePg_mod d (by decide))
  · exact .inr (region _ _ (by decide))
  · exact .inl (diePg_mod _ (by decide))
  · exact .inr (region _ _ (by decide))

/-- The registers that a change of references writes. -/
def refsRegs (p off : Nat) : Prop := ∃ i, refRegs i p off

/-- A change of references writes no page of the package but PHREF. -/
theorem pkgPg_kept {s t : State} (k : RegsKept s t refsRegs) {o off : Nat} (ne : o ≠ 1 ∧ o ≠ 4) (h : o < 64)
    (ho : off < 512) : rget t (pkgPg o) off = rget s (pkgPg o) off :=
  k _ _ ho fun e => by
    have page := pkgPg_mod h
    rcases e with ⟨i, ⟨e, -⟩ | gone⟩
    · rw [e, phrefPg, pkgPg_mod (by decide)] at page
      omega
    · have := goneRegs_page gone
      omega

/-- A change of references leaves the configuration of every reference. -/
theorem phref_kept {s t : State} {k : Nat} (kept : RegsKept s t refsRegs) (hk : k < 8) :
    rget t phrefPg (16 + 4 * k) = rget s phrefPg (16 + 4 * k) :=
  kept _ _ (by omega) fun e => by
    rcases e with ⟨i, ⟨-, e⟩ | gone⟩
    · omega
    · have := goneRegs_page gone
      rw [phrefPg, pkgPg_mod (by decide)] at this
      omega

theorem refGone_ref (s : State) (i j : Nat) : ref (refGone s i) j = ref s j :=
  Within.ref (F := [.regs, .evTick, .events, .reeds, .chans, .voters]) (refGone_within (.refl s) ..) j

/-- A change of a reference leaves every other. -/
theorem ref_refTo_other (s : State) {i j : Nat} (st : RefState) (h : j ≠ i) : ref (refTo s i st) j = ref s j := by
  obtain ⟨u, hu⟩ : ∃ u, u = irqPend (setRef s i { ref s i with st := st }) phrefPg (1 + i) := ⟨_, rfl⟩
  have own : ref u j = ref s j := hu ▸ ref_setRef_other _ h
  unfold refTo
  by_cases same : (ref s i).st = st
  · rw [if_pos same]
  · rw [if_neg same]
    cases st with
    | lost =>
      dsimp only
      rw [← hu, refGone_ref]
      exact (Within.ref (F := [.regs, .evTick, .events]) (capture_within (rinc_within (.refl u) ..) ..) j).trans own
    | off =>
      dsimp only
      rw [← hu, refGone_ref, ref_setRef_other _ h, own]
    | holdover =>
      dsimp only
      rw [← hu, ref_setRef_other _ h, own]
    | acquire => exact hu ▸ own
    | locked => exact hu ▸ own

end Sys2Proof.Machine

namespace Sys2Proof.Machine
open Sys2Proof Sys2Proof.Machine
set_option Elab.async false

/-! ## The master's packets -/

theorem foldlSent (x : SyncSent) (i : Nat) (l : List Nat) (s : State) (h : i ∈ l ∨ (cwy s i).sent = some x) :
    (cwy (l.foldl (fun t i => setCwy t i { cwy t i with sent := some x }) s) i).sent = some x := by
  induction l generalizing s with
  | nil => exact h.resolve_left List.not_mem_nil
  | cons j r ih =>
    refine ih _ ?_
    by_cases e : i = j
    · right
      rw [e, cwy_setCwy_same]
    · rw [cwy_setCwy_other _ e]
      exact h.imp_left fun m => (List.mem_cons.mp m).resolve_left e

/-! ## A packet at a follower -/

theorem remoteRef_regs (s : State) {i : Nat} (hi : i < 8) (delay : Nat) (x : RefSample) :
    RegsKept s (remoteRef s i delay x) (refRegs i) := by
  have set : ∀ (t : State) (r : Ref), RegsKept t (setRef t i r) (refRegs i) := fun _ _ => .of_regs rfl _
  unfold remoteRef
  dsimp only
  refine .ite (set _ _) (.ite ((set _ _).trans (refTo_regs _ hi _)) (.ite ((set _ _).trans (refTo_regs _ hi _)) (.ite (set _ _) (.ite
    (((set _ _).trans (refTo_regs _ hi _)).trans (refTo_regs _ hi _)) (.ite (refTo_regs _ hi _)
    (((set _ _).trans (refTo_regs _ hi _)).trans (set _ _)))))))

theorem remoteRef_other (s : State) {i j : Nat} (delay : Nat) (x : RefSample) (h : j ≠ i) :
    ref (remoteRef s i delay x) j = ref s j := by
  have set : ∀ (t : State) (r : Ref), ref (setRef t i r) j = ref t j := fun _ r => ref_setRef_other r h
  have change : ∀ (t : State) st, ref (refTo t i st) j = ref t j := fun t st => ref_refTo_other t st h
  have both : ∀ {c : Prop} [Decidable c] {a b : State}, ref a j = ref s j → ref b j = ref s j → ref (if c then a else b) j = ref s j :=
    fun ha hb => by split <;> assumption
  unfold remoteRef
  dsimp only
  exact both (set _ _) (both ((change _ _).trans (set _ _)) (both ((change _ _).trans (set _ _)) (both (set _ _)
    (both ((change _ _).trans ((change _ _).trans (set _ _))) (both (change _ _) ((set _ _).trans ((change _ _).trans (set _ _))))))))

theorem measured_keeps (r : Ref) (stamp : Word) (now : Nat) :
    (r.measured stamp now).st = r.st ∧ (r.measured stamp now).stamp = r.stamp := by
  unfold Ref.measured
  dsimp only
  split
  · exact ⟨rfl, rfl⟩
  · split
    · exact ⟨rfl, rfl⟩
    · split
      · exact ⟨rfl, rfl⟩
      · split <;> exact ⟨rfl, rfl⟩

/-- A running reference that follows its master's is not stepped (R421). -/
theorem remoteRef_runs {s : State} {i : Nat} (delay : Nat) {x : RefSample} (locked : (ref s i).st = .locked) (shown : x.state = 2) :
    (ref (remoteRef s i delay x) i).st = .locked ∧ (ref (remoteRef s i delay x) i).stamp = (ref s i).stamp := by
  obtain ⟨r, hr⟩ : ∃ r, r = (ref s i).measured x.stamp s.ticks := ⟨_, rfl⟩
  obtain ⟨st, stamp⟩ := measured_keeps (ref s i) x.stamp s.ticks
  rw [← hr] at st stamp
  rw [locked] at st
  have named : refStateOf x.state.toNat = .locked := by rw [shown]; rfl
  unfold remoteRef
  dsimp only
  rw [← hr, named, st]
  by_cases hold : s.sync.hold = true
  · rw [if_pos hold, ref_setRef_same]
    exact ⟨locked, rfl⟩
  · rw [if_neg hold, if_neg (by decide), if_neg (by decide), if_neg (by rintro ⟨h, -⟩; exact absurd h (by decide)),
      if_neg (by decide), if_neg (by rintro ⟨h, -⟩; exact absurd h (by decide)), refTo_same (by rw [ref_setRef_same]),
      ref_setRef_same, ref_setRef_same]
    exact ⟨rfl, stamp⟩

/-- The references after a packet: a running one whose master runs too is not stepped, and no register of another page of the
package, nor a configuration, is written. -/
theorem remoteRefs_keeps (s : State) (delay : Nat) (refs : List RefSample) :
    RegsKept s (remoteRefs s delay refs) refsRegs ∧ (∀ k, 8 ≤ k → ref (remoteRefs s delay refs) k = ref s k) ∧
    ∀ k x, refSrc s k = 4 → (ref s k).st = .locked → refs[rfld s phrefPg (16 + 4 * k) 19 17]? = some x → x.state = 2 →
      (ref (remoteRefs s delay refs) k).st = .locked ∧ (ref (remoteRefs s delay refs) k).stamp = (ref s k).stamp := by
  obtain ⟨f, hf⟩ : ∃ f : State → Nat → State, f = fun s i => if refSrc s i = 4 then
      match refs[rfld s phrefPg (16 + 4 * i) 19 17]? with
      | some x => remoteRef s i delay x
      | none => s
    else s := ⟨_, rfl⟩
  have other : ∀ t i j, j ≠ i → ref (f t i) j = ref t j := fun t i j h => by
    rw [hf]
    dsimp only
    split
    · split
      · exact remoteRef_other t delay _ h
      · rfl
    · rfl
  have regs : ∀ t i, i < 8 → RegsKept t (f t i) refsRegs := fun t i hi => by
    rw [hf]
    dsimp only
    refine .ite ?_ (.refl t _)
    split
    · exact RegsKept.mono (remoteRef_regs t hi delay _) fun p o h => ⟨i, h⟩
    · exact .refl t _
  have pass : ∀ n, n ≤ 8 → RegsKept s ((List.range n).foldl f s) refsRegs ∧
      (∀ k, n ≤ k → ref ((List.range n).foldl f s) k = ref s k) ∧
      ∀ k x, refSrc s k = 4 → (ref s k).st = .locked → refs[rfld s phrefPg (16 + 4 * k) 19 17]? = some x → x.state = 2 →
        (ref ((List.range n).foldl f s) k).st = .locked ∧ (ref ((List.range n).foldl f s) k).stamp = (ref s k).stamp := by
    intro n
    induction n with
    | zero => exact fun _ => ⟨.refl s _, fun _ _ => rfl, fun k x _ locked _ _ => ⟨locked, rfl⟩⟩
    | succ n ih =>
      intro hn
      obtain ⟨kept, later, runs⟩ := ih (by omega)
      rw [List.range_succ, List.foldl_append, List.foldl_cons, List.foldl_nil]
      generalize (List.range n).foldl f s = t at kept later runs ⊢
      refine ⟨kept.trans (regs t n (by omega)), fun k hk => (other t n k (by omega)).trans (later k (by omega)),
        fun k x follows locked named shown => ?_⟩
      by_cases own : k = n
      · subst own
        have config : rget t phrefPg (16 + 4 * k) = rget s phrefPg (16 + 4 * k) := phref_kept kept (by omega)
        have step : f t k = remoteRef t k delay x := by
          rw [hf]
          unfold refSrc rfld at follows ⊢
          unfold rfld at named
          simp only [config, named]
          exact if_pos follows
        have now := later k (Nat.le_refl k)
        have runs := remoteRef_runs (s := t) delay (by rw [now]; exact locked) shown
        rw [now] at runs
        rw [step]
        exact runs
      · rw [other t n k own]
        exact runs k x follows locked named shown
  obtain ⟨kept, later, runs⟩ := pass 8 (by decide)
  have whole : remoteRefs s delay refs = (List.range 8).foldl f s := by rw [hf]; rfl
  rw [whole]
  exact ⟨kept, later, runs⟩

/-- What a packet that a follower takes leaves, before its references. -/
def State.synced (s s0 : State) (now : Nat) (delay : Nat) : State :=
  let off : Int := (s0.tt : Int) - ((now + delay : Nat) : Int)
  let good := if -8 ≤ off ∧ off ≤ 8 then min 8 (s.sync.good + 1) else 0
  holdTo (rset (syncFrom s0 now off good) ttimePg 21 (fval 17 0 ((max (-131072) (min off 131071)) % 2 ^ 18).toNat))
    (s.sync.hold && decide (good < 8))

theorem syncPacket_runs {s : State} {link : BitVec 2} (time : MasterTime) (refs : List RefSample) (follower : s.stack.role = 2)
    (clock : clocked s = true) (bound : s.stack.orphan = false) (up : cwyState s link.toNat = .up)
    (member : (cwy s link.toNat).pmem = true) (master : (cwy s link.toNat).ppos = 0) :
    exec (.syncPacket link time refs) s = .next (remoteRefs
      (s.synced (stepLearn s time) (masterNow (stepLearn s time) time) (cwy s link.toNat).delay) (cwy s link.toNat).delay refs) :=
  congrArg done (if_pos ⟨follower, clock, bound, up, member, master⟩)

theorem holdTo_sync (s : State) (h : Bool) : (holdTo s h).sync = { s.sync with hold := h } := by
  unfold holdTo
  split
  case isTrue e =>
    rw [← e]
  case isFalse => rfl

/-- The correction of a follower's rate for an offset: none without one, and at most 500 ppm. -/
theorem syncRate_bounds (s : State) {base off : Int} (low : -(2 ^ 34 : Int) ≤ base) (high : base ≤ 2 ^ 34) :
    base - 549755813 ≤ (syncRate s base off).1.toInt ∧ (syncRate s base off).1.toInt ≤ base + 549755813 ∧
      (0 < off → (syncRate s base off).1.toInt < base) ∧ (off < 0 → base < (syncRate s base off).1.toInt) := by
  obtain ⟨most, hm⟩ : ∃ most, most = min maxRate (off.natAbs * (maxRate / 4)) := ⟨_, rfl⟩
  obtain ⟨c, hc⟩ : ∃ c, c = most - (Config.freeValue 31 s.fresh).toNat % (most / 2 + 1) := ⟨_, rfl⟩
  have value : (syncRate s base off).1 = wordOfInt (if 0 < off then base - c else base + c) := by rw [hc, hm]; rfl
  have rest : (Config.freeValue 31 s.fresh).toNat % (most / 2 + 1) ≤ most / 2 := Nat.le_of_lt_succ (Nat.mod_lt _ (by omega))
  have most_le : most ≤ 549755813 := hm ▸ Nat.min_le_left ..
  have some_ : off ≠ 0 → 1 ≤ most := fun h => by
    have : 1 ≤ off.natAbs := by omega
    have : 1 ≤ off.natAbs * (maxRate / 4) := Nat.le_trans (by decide) (Nat.mul_le_mul_right (maxRate / 4) this)
    have : 1 ≤ maxRate := by decide
    omega
  have toInt : ∀ v : Int, -(2 ^ 35 : Int) ≤ v → v < 2 ^ 35 → (wordOfInt v).toInt = v := fun v h k => by
    unfold wordOfInt
    rw [BitVec.toInt_ofInt]
    exact Int.bmod_eq_of_le (by omega) (by omega)
  rw [value, toInt _ (by split <;> omega) (by split <;> omega)]
  have : off ≠ 0 → 1 ≤ c := fun h => by have := some_ h; omega
  refine ⟨?_, ?_, fun h => ?_, fun h => ?_⟩
  · split <;> omega
  · split <;> omega
  · rw [if_pos h]
    have := this (by omega)
    omega
  · rw [if_neg (by omega)]
    have := this (by omega)
    omega

theorem syncerr_value {off : Int} (low : -131072 ≤ off) (high : off ≤ 131071) :
    fval 17 0 ((max (-131072) (min off 131071)) % 2 ^ 18).toNat = (BitVec.ofInt 18 off).setWidth 36 := by
  have clamp : max (-131072) (min off 131071) = off := by omega
  rw [clamp]
  apply BitVec.eq_of_toNat_eq
  rw [BitVec.toNat_setWidth, BitVec.toNat_ofInt]
  unfold fval
  rw [BitVec.toNat_ofNat]
  norm_num
  omega

/-! ## Steps -/

theorem stepDue_waits {s : State} {p : Nat × Nat} {rest : List (Nat × Nat)} (steps : s.sync.steps = p :: rest) (early : s.tt < p.1) :
    stepDue s = s := by
  unfold stepDue
  rw [steps]
  exact if_neg (by omega)

theorem stepDue_takes {s : State} {p : Nat × Nat} {rest : List (Nat × Nat)} (steps : s.sync.steps = p :: rest) (due : p.1 ≤ s.tt) :
    (stepDue s).tt = (s.tt + p.2) % 2 ^ 72 ∧ (stepDue s).sync.steps = rest := by
  have taken : (ttJump s p.2).tt = (s.tt + p.2) % 2 ^ 72 := by
    have : (ttJump s p.2).tt = (((s.tt : Int) + p.2) % (2 ^ 72 : Nat)).toNat := rfl
    rw [this]
    omega
  unfold stepDue
  rw [steps]
  simp only [if_pos due]
  exact ⟨taken, trivial⟩

theorem stepLearn_learns {s : State} {now step stepAt : BitVec 72} (there : step ≠ 0) (later : s.sync.seen < stepAt.toNat) :
    stepLearn s ⟨now, step, stepAt⟩ = { s with sync := { s.sync with
      steps := s.sync.steps ++ [(stepAt.toNat, step.toNat)], seen := stepAt.toNat } } := by
  unfold stepLearn
  dsimp only
  exact if_neg (by rintro (h | h) <;> [exact there h; omega])

theorem masterNow_plain {s : State} (now stepAt : BitVec 72) (steps : s.sync.steps = []) : masterNow s ⟨now, 0, stepAt⟩ = now.toNat := by
  unfold masterNow
  simp [steps]

/-! ## The loss of synchronisation -/

theorem syncLost_pends {s : State} (on : s.sync.hold = false) : bit (rget (syncLost s) ttimePg 9) 1 = true := by
  obtain ⟨u, hu⟩ : ∃ u, u = holdTo { s with sync := { s.sync with good := 0 } } true := ⟨_, rfl⟩
  have pends : bit (rget u ttimePg 9) 1 = true := by
    rw [hu]
    unfold holdTo
    rw [if_neg (fun h : s.sync.hold = true => by rw [on] at h; cases h)]
    exact irqPend_pends _ _ (by decide)
  have pass : ∀ n, n ≤ 8 → RegsKept u ((List.range n).foldl (fun s i =>
      if refSrc s i = 4 ∧ (ref s i).st = .locked then refTo s i .holdover else s) u) refsRegs := by
    intro n
    induction n with
    | zero => exact fun _ => .refl u _
    | succ n ih =>
      intro hn
      rw [List.range_succ, List.foldl_append, List.foldl_cons, List.foldl_nil]
      exact (ih (by omega)).trans (.ite (RegsKept.mono (refTo_regs _ (by omega) _) fun p o h => ⟨n, h⟩) (.refl _ _))
  have whole : syncLost s = (List.range 8).foldl (fun s i =>
      if refSrc s i = 4 ∧ (ref s i).st = .locked then refTo s i .holdover else s) u := by rw [hu]; rfl
  rw [whole, ttimePg, pkgPg_kept (pass 8 (by decide)) (by decide) (by decide) (by decide)]
  exact pends

theorem syncLost_tt (s : State) : (syncLost s).tt = s.tt :=
  Within.tt (F := [.regs, .evTick, .events, .sync, .refs, .reeds, .chans, .voters]) (syncLost_within (.refl s) ..)

/-- A packet with no step on its way (R421, R429, R543). -/
theorem synced_keeps (s : State) (now delay : Nat) :
    let off : Int := (s.tt : Int) - ((now + delay : Nat) : Int)
    let good := if -8 ≤ off ∧ off ≤ 8 then min 8 (s.sync.good + 1) else 0
    let u := s.synced s now delay
    u.sync = { s.sync with
      good := good, hold := s.sync.hold && decide (good < 8), last := s.ticks, base := syncBase s now
      rate := (syncRate s (syncBase s now) off).1, anchor := some (now, s.ticks) } ∧
    (-131072 ≤ off → off ≤ 131071 → rget u ttimePg 21 = (BitVec.ofInt 18 off).setWidth 36) ∧
    (∀ k, ref u k = ref s k) ∧ u.tt = s.tt ∧ u.stack = s.stack ∧ RegsKept s u (fun p o => p = ttimePg ∧ (o = 9 ∨ o = 21)) := by
  intro off good u
  obtain ⟨r, hr⟩ : ∃ r, r = syncFrom s now off good := ⟨_, rfl⟩
  obtain ⟨v, hv⟩ : ∃ v, v = rset r ttimePg 21 (fval 17 0 ((max (-131072) (min off 131071)) % 2 ^ 18).toNat) := ⟨_, rfl⟩
  have eq : u = holdTo v (s.sync.hold && decide (good < 8)) := by rw [hv, hr]; rfl
  have w : Within [.fresh, .sync] s r := hr ▸ syncFrom_within (.refl s) ..
  have wv : Within [.regs] r v := hv ▸ .rset (.refl r) _ _ _ (by decide)
  have wu : Within [.regs, .evTick, .events, .sync] v u := eq ▸ holdTo_within (.refl v) ..
  have hold : RegsKept v u (fun p o => p = ttimePg ∧ o = 9) := by
    rw [eq]
    unfold holdTo
    refine .ite (.refl v _) ?_
    exact RegsKept.trans (.of_regs (t := { v with sync := { v.sync with hold := s.sync.hold && decide (good < 8) } }) rfl _)
      (.irqPend _ _ ⟨rfl, rfl⟩)
  refine ⟨?_, fun low high => ?_, fun k => ?_, ?_, ?_, ?_⟩
  · rw [eq, holdTo_sync, wv.sync, hr]
    rfl
  · rw [hold _ _ (by decide) (by decide), hv, rget_rset r _ (by decide) (by decide), if_pos ⟨rfl, rfl⟩, syncerr_value low high]
  · rw [wu.ref, wv.ref, w.ref]
  · rw [wu.tt, wv.tt, w.tt]
  · rw [wu.stack, wv.stack, w.stack]
  · refine RegsKept.trans (.of_within w _) (RegsKept.trans ?_ (hold.mono fun p o h => ⟨h.1, .inl h.2⟩))
    exact hv ▸ .rset r _ (by decide) ⟨rfl, .inr rfl⟩

/-- A packet leaves the steps that the follower has learnt of. -/
theorem synced_steps (s s0 : State) (now delay : Nat) : (s.synced s0 now delay).sync.steps = s0.sync.steps ∧
    (s.synced s0 now delay).sync.seen = s0.sync.seen ∧ (s.synced s0 now delay).tt = s0.tt := by
  unfold State.synced
  dsimp only
  rw [holdTo_sync, (holdTo_within (F := [.regs, .evTick, .events, .sync]) (.refl _) _).tt]
  exact ⟨rfl, rfl, rfl⟩

/-- Settles O28, command by command. -/
theorem stackTime : Obligations.StackTime := by
  intro s time step stepAt refs link ns synth c off near good
  refine ⟨fun master now i hi => ?_, fun follower clock bound up member master => ⟨fun steps => ?_, fun there later => ?_⟩,
    fun rest steps => ⟨fun early => stepDue_waits steps early, fun due => stepDue_takes steps due⟩, fun follower clock out => ?_,
    fun works up => ?_⟩
  · unfold syncTick
    rw [if_pos ⟨master, now⟩]
    exact foldlSent (syncSent s) i (upLinks s) s (.inl hi)
  · have run := syncPacket_runs ⟨time, 0, stepAt⟩ refs follower clock bound up member master
    have learns : stepLearn s ⟨time, 0, stepAt⟩ = s := by
      unfold stepLearn
      exact if_pos (.inl rfl)
    rw [learns, masterNow_plain time stepAt steps] at run
    obtain ⟨sync, err, running, tt, stack, regs⟩ := synced_keeps s time.toNat (cwy s link.toNat).delay
    generalize s.synced s time.toNat (cwy s link.toNat).delay = u at run sync err running tt stack regs
    obtain ⟨kept, beyond, runs⟩ := remoteRefs_keeps u (cwy s link.toNat).delay refs
    have w : Within [.regs, .evTick, .events, .refs, .reeds, .chans, .voters] u (remoteRefs u (cwy s link.toNat).delay refs) :=
      remoteRefs_within (.refl u) ..
    have judged : good = if -8 ≤ off ∧ off ≤ 8 then min 8 (s.sync.good + 1) else 0 := by
      simp only [good, near, decide_eq_true_eq]
    refine ⟨_, run, ?_, ?_, ?_, fun low high => ?_, fun low high => ?_, fun k x follows locked named shown => ?_, w.tt.trans tt,
      w.stack.trans stack⟩
    · rw [w.sync, sync, judged]
    · rw [w.sync, sync, judged]
    · rw [w.sync, sync]
    · rw [w.sync, sync] at low high ⊢
      exact syncRate_bounds s low high
    · rw [ttimePg, pkgPg_kept kept (by decide) (by decide) (by decide)]
      exact err low high
    · rw [← running k]
      by_cases far : 8 ≤ k
      · rw [beyond k far, running k]
        exact ⟨locked, rfl⟩
      have same : rget u phrefPg (16 + 4 * k) = rget s phrefPg (16 + 4 * k) :=
        regs _ _ (by omega) fun e => absurd e.1 (by decide)
      refine runs k x ?_ (by rw [running]; exact locked) ?_ shown
      · unfold refSrc rfld at follows ⊢
        rw [same]
        exact follows
      · unfold rfld at named ⊢
        rw [same]
        exact named
  · have run := syncPacket_runs ⟨time, step, stepAt⟩ refs follower clock bound up member master
    rw [stepLearn_learns there later] at run
    obtain ⟨steps, seen, tt⟩ := synced_steps s { s with sync := { s.sync with
      steps := s.sync.steps ++ [(stepAt.toNat, step.toNat)], seen := stepAt.toNat } }
      (masterNow { s with sync := { s.sync with
        steps := s.sync.steps ++ [(stepAt.toNat, step.toNat)], seen := stepAt.toNat } } ⟨time, step, stepAt⟩) (cwy s link.toNat).delay
    generalize State.synced s _ _ _ = u at run steps seen tt
    have w : Within [.regs, .evTick, .events, .refs, .reeds, .chans, .voters] u (remoteRefs u (cwy s link.toNat).delay refs) :=
      remoteRefs_within (.refl u) ..
    exact ⟨_, run, by rw [w.sync, steps], by rw [w.sync, seen], by rw [w.tt, tt]⟩
  · exact ⟨_, congrArg done (if_pos ⟨follower, clock, out⟩), syncLost_sync s, syncLost_tt s, syncLost_pends⟩
  · exact ⟨_, congrArg done (if_pos ⟨works, up⟩), cwy_setCwy_same .., rfl⟩

end Sys2Proof.Machine

namespace Sys2Proof.Machine
open Sys2Proof Sys2Proof.Machine
set_option Elab.async false

/-! ## What the reset of a block spares

A block that is held completes its stores and loses its frames. None of that touches a REM page or fills a context. -/

/-- A register of a REM page. -/
def onRem (p : Nat) : Prop := p < 16384 ∧ (64 ≤ p % 2048 ∧ p % 2048 < 320) ∧ p % 64 = 1

/-- t has the REM pages of s, and the contexts of core n empty where they were. -/
structure Spares (n : Nat) (s t : State) : Prop where
  regs : RegsKept s t (fun p _ => ¬ onRem p)
  empty : (∀ h, (ctxAt s n h).st = .empty) → ∀ h, (ctxAt t n h).st = .empty

/-- A page of a region but its REM page. -/
theorem regionPg_offRem (g : Nat) {o : Nat} (h : o < 64) (ne : o ≠ 1) : ¬ onRem (regionPg g o) := by
  rintro ⟨-, -, rem⟩
  unfold regionPg pageNo at rem
  omega

theorem diePg_offRem (d : Nat) {p : Nat} (h : p < 64) : ¬ onRem (diePg d p) := fun ⟨_, low, _⟩ => by
  rw [diePg_mod d h] at low
  omega

theorem pkgPg_offRem (p : Nat) : ¬ onRem (pkgPg p) := fun ⟨low, _, _⟩ => by
  unfold pkgPg pageNo at low
  omega

theorem remPg_onRem {g : Nat} (h : g < 32) : onRem (remPg g) := by
  unfold onRem remPg regionPg pageNo
  omega

namespace Spares
variable {n : Nat} {s t u : State}

theorem refl (s : State) : Spares n s s := ⟨.refl s _, id⟩

theorem trans (a : Spares n s t) (b : Spares n t u) : Spares n s u := ⟨a.regs.trans b.regs, fun h => b.empty (a.empty h)⟩

theorem of_fields (regs : t.regs = s.regs) (cores : t.cores = s.cores) : Spares n s t := by
  refine ⟨.of_regs regs _, fun h k => ?_⟩
  have := h k
  unfold ctxAt coreAt at this ⊢
  rw [cores]
  exact this

theorem of_within {F : List Area} (w : Within F s t) (hr : Area.regs ∉ F := by decide) (hc : Area.cores ∉ F := by decide) :
    Spares n s t := of_fields (w.regs hr) (w.cores hc)

theorem ite {c : Prop} [Decidable c] (a : Spares n s t) (b : Spares n s u) : Spares n s (if c then t else u) := by
  split
  · exact a
  · exact b

theorem foldl {α : Type} {f : State → α → State} (hf : ∀ t x, Spares n t (f t x)) (l : List α) (s : State) :
    Spares n s (l.foldl f s) := by
  induction l generalizing s with
  | nil => exact refl s
  | cons x r ih => exact (hf s x).trans (ih (f s x))

theorem rset (s : State) {pg off : Nat} (v : Word) (ho : off < 512) (h : ¬ onRem pg) : Spares n s (Machine.rset s pg off v) :=
  ⟨.rset s v ho h, id⟩

theorem rinc (s : State) {pg off : Nat} (hi lo : Nat) (ho : off < 512) (h : ¬ onRem pg) : Spares n s (Machine.rinc s pg off hi lo) :=
  ⟨.rinc s hi lo ho h, id⟩

theorem irqPend (s : State) {pg : Nat} (b : Nat) (h : ¬ onRem pg) : Spares n s (Machine.irqPend s pg b) := ⟨.irqPend s b h, id⟩

theorem capture (s : State) {pg : Nat} (cause info : Nat) (h : ¬ onRem pg) : Spares n s (Machine.capture s pg cause info) := by
  refine ⟨.capture s cause info ⟨h, h, h⟩, fun e k => ?_⟩
  have := e k
  unfold ctxAt coreAt at this ⊢
  rw [(capture_within (F := Area.ofSignal) (.refl s) pg cause info).cores]
  exact this

/-- A core block is written whose contexts stay. -/
theorem setCore (s : State) (m : Nat) (c : Core) (h : ∀ k, (c.ctx k).st = .empty ∨ c.ctx k = ctxAt s m k) :
    Spares n s (Machine.setCore s m c) := by
  refine ⟨.of_regs rfl _, fun e k => ?_⟩
  by_cases own : n = m
  · subst own
    have : ctxAt (Machine.setCore s n c) n k = c.ctx k := by unfold ctxAt; rw [coreAt_setCore_same]
    rw [this]
    exact (h k).elim id fun same => by rw [same]; exact e k
  · have : ctxAt (Machine.setCore s m c) n k = ctxAt s n k := by unfold ctxAt; rw [coreAt_setCore_other _ _ own]
    rw [this]
    exact e k

end Spares

/-! ### Stores that complete -/

section
variable {n : Nat}

theorem perf_spares (s : State) (m h off k : Nat) (ho : off < 512) : Spares n s (perf s m h off k) := by
  unfold perf
  exact .ite (.refl s) (Spares.trans (.rset s _ ho (regionPg_offRem _ (by omega) (by omega))) (.of_fields rfl rfl))

theorem noteAccess_spares (s : State) (g : Agent) (pa k : Nat) : Spares n s (noteAccess s g pa k) := by
  have heat : ∀ u d c, Spares n u (noteHeat u d pa c) := fun u d c =>
    .of_within (F := [.heatCnt, .heatDue]) (noteHeat_within (.refl u) ..)
  unfold noteAccess
  refine Spares.trans (.ite ?_ (.refl s)) (heat _ _ _)
  have counted : ∀ o : Option Nat, Spares n s (match o with
      | some m => perf s m (coreAt s m).cur 69 (slotLost s (pa / 65536) g)
      | none => s) := fun o => by
    cases o with
    | none => exact .refl s
    | some m => exact perf_spares s m _ 69 _ (by decide)
  exact Spares.trans (counted g.coreOf) (.of_fields rfl rfl)

theorem empPgOf_offRem {a pg : Nat} (h : empPgOf a = some pg) : ¬ onRem pg := by
  unfold empPgOf at h
  split at h
  · rw [← Option.some.inj h]
    exact pkgPg_offRem _
  · cases h

theorem eccCorrected_spares (s : State) (a : Nat) : Spares n s (eccCorrected s a) := by
  unfold eccCorrected
  cases e : empPgOf a with
  | none => exact .refl s
  | some pg => exact Spares.trans (.rinc s _ _ (by decide) (empPgOf_offRem e)) (.rset _ _ (by decide) (empPgOf_offRem e))

theorem eccLost_spares (s : State) (a : Nat) : Spares n s (eccLost s a) := by
  unfold eccLost
  cases e : empPgOf a with
  | none => exact .refl s
  | some pg => exact Spares.trans (.rinc s _ _ (by decide) (empPgOf_offRem e)) (.capture _ _ _ (empPgOf_offRem e))

theorem memRead_spares (s : State) (a : Nat) : Spares n s (memRead s a).2 := by
  unfold memRead
  dsimp only
  split
  · exact .refl s
  · exact Spares.trans (.of_within (F := [.eccWb]) (queueWriteback_within (.refl s) ..)) (eccCorrected_spares _ _)
  · exact eccLost_spares s a

theorem memWrite_spares (s : State) (a : Nat) (data mask : Word) (tag : Bool) : Spares n s (memWrite s a data mask tag) := by
  unfold memWrite
  dsimp only
  have page : ¬ onRem (diePg (a / 1048576) 6) := diePg_offRem _ (by decide)
  refine .ite (.ite (Spares.trans (Spares.trans ?_ (.rinc _ (off := 32) 17 0 (by decide) page)) (.capture _ _ _ page))
    (.of_fields rfl rfl)) (.of_fields rfl rfl)
  exact .of_fields rfl rfl

theorem lateError_spares (s : State) (e : SbEntry) (cause : Nat) : Spares n s (lateError s n e cause) := by
  unfold lateError
  dsimp only
  split
  · exact .capture s _ _ (regionPg_offRem _ (by omega) (by omega))
  · next full => exact ⟨.of_regs rfl _, fun h => absurd (h _) full⟩

theorem storeWord_spares (s : State) (e : SbEntry) : Spares n s (storeWord s n e) := by
  unfold storeWord
  dsimp only
  refine Spares.trans ?_ (memWrite_spares _ _ _ _ _)
  exact .ite ((noteAccess_spares ..).trans (eccCorrected_spares ..)) (noteAccess_spares ..)

theorem targetCapture_spares (s : State) (st : Stamp) (pa : Nat) (k : Kind) : Spares n s (targetCapture s st pa k) := by
  unfold targetCapture
  cases e : targetOf s pa with
  | none => exact .refl s
  | some x =>
    obtain ⟨pg, i⟩ := x
    have off : ¬ onRem pg := by
      unfold targetOf pageTarget at e
      dsimp only at e
      split at e
      · split at e
        · rw [← (Prod.mk.inj (Option.some.inj e)).1]
          exact regionPg_offRem _ (by omega) (by omega)
        · cases e
      · split at e
        · split at e
          · split at e
            · rw [← (Prod.mk.inj (Option.some.inj e)).1]
              rintro ⟨-, -, rem⟩
              omega
            · cases e
          · cases e
        · cases e
    dsimp only
    unfold gateCapture
    dsimp only
    refine Spares.trans ?_ (.capture _ _ _ off)
    refine .ite ?_ ?_
    · exact .ite (.refl s) (.of_fields rfl rfl)
    · refine Spares.trans (Spares.trans ?_ (.rset _ _ (by decide) off)) (.rset _ _ (by decide) off)
      exact .ite (.refl s) (.of_fields rfl rfl)

theorem reachRecord_spares (s : State) (die pa : Nat) (r : Reach) : Spares n s (reachRecord s die pa r) := by
  cases r with
  | ok => exact .refl s
  | isolated => exact .refl s
  | unpopulated => exact .capture s _ _ (diePg_offRem _ (by decide))
  | down => exact .capture s _ _ (diePg_offRem _ (by decide))
  | parity =>
    show Spares n s (portParity s pa)
    unfold portParity
    cases e : portOf pa with
    | none => exact .refl s
    | some x =>
      obtain ⟨p, pg⟩ := x
      have off : ¬ onRem pg := by
        have bank : ∀ b, ¬ onRem (bankPg b) := fun b => regionPg_offRem _ (by omega) (by omega)
        unfold portOf at e
        split at e
        · rw [← (Prod.mk.inj (Option.some.inj e)).2]
          exact bank _
        · obtain ⟨q, -, hq⟩ := Option.map_eq_some_iff.mp e
          rw [← (Prod.mk.inj hq).2]
          split
          · exact bank _
          · exact regionPg_offRem _ (by decide) (by decide)
      dsimp only
      refine Spares.trans ?_ (.capture _ _ _ off)
      exact .of_fields rfl rfl

theorem performStore_spares (s : State) (e : SbEntry) (rest : List SbEntry) : Spares n s (performStore s n e rest) := by
  unfold performStore
  refine .ite (lateError_spares ..) ?_
  split
  · refine .ite ((targetCapture_spares ..).trans (lateError_spares ..)) (.ite ((eccLost_spares ..).trans (lateError_spares ..)) ?_)
    exact .foldl (fun t x => storeWord_spares t x) _ s
  · exact (reachRecord_spares ..).trans (lateError_spares ..)

theorem drainAll_spares (s : State) : Spares n s (drainAll s n) := by
  have one : ∀ u, Spares n u (drainOne u n) := fun u => by
    unfold drainOne
    dsimp only
    split
    · exact .refl u
    · refine Spares.trans ?_ (performStore_spares _ _ _)
      exact .setCore u n _ fun k => .inr rfl
  have all : ∀ f u, Spares n u (drainAux u n f) := fun f => by
    induction f with
    | zero => exact fun u => .refl u
    | succ f ih => exact fun u => (one u).trans (ih _)
  exact all 4 s

end

end Sys2Proof.Machine

namespace Sys2Proof.Machine
open Sys2Proof Sys2Proof.Machine
set_option Elab.async false

/-! ## The domains by number -/

@[simp] theorem dom_setDom_same (s : State) (k : Nat) (x : Dom) : dom (setDom s k x) k = x := by simp [dom, setDom]

theorem dom_setDom_other {s : State} {k j : Nat} (x : Dom) (h : j ≠ k) : dom (setDom s k x) j = dom s j := by
  simp [dom, setDom, kget_kset_other _ _ _ h]

theorem Within.dom {F : List Area} {s t : State} (w : Within F s t) (k : Nat) (hF : Area.doms ∉ F := by decide) :
    dom t k = Machine.dom s k := by
  unfold Machine.dom
  rw [w.doms hF]

theorem kget_kkeep {α : Type} (d : Nat → α) (m : KMap α) (f : Nat → Bool) (k : Nat) :
    kget d (kkeep m f) k = if f k then kget d m k else d k := by
  induction m with
  | nil => simp [kkeep, kget]
  | cons p r ih =>
    obtain ⟨j, v⟩ := p
    unfold kkeep at ih ⊢
    by_cases e : j = k
    · subst e
      cases h : f j with
      | true => simp [List.filter, h, kget]
      | false =>
        simp only [List.filter, h, Bool.false_eq_true, if_false] at ih ⊢
        exact ih
    · have skip : kget d ((j, v) :: r) k = kget d r k := if_neg e
      rw [skip]
      cases h : f j with
      | true =>
        simp only [List.filter, h]
        exact (if_neg e).trans ih
      | false =>
        simp only [List.filter, h]
        exact ih

/-- The registers of a domain return to their reset values, the others stay. -/
theorem rget_clearDoms (s : State) (p : Nat → Bool) (pg off : Nat) :
    rget (clearDoms s p) pg off = if p (domOfReg (pg * 512 + off)) then regDefault (pg * 512 + off) else rget s pg off := by
  unfold rget clearDoms
  dsimp only
  rw [kget_kkeep]
  cases p (domOfReg (pg * 512 + off)) <;> rfl

/-- The REM page of a region belongs to the domain of its crossbar (Table 13.1). -/
theorem domOfReg_rem {pg off : Nat} (ho : off < 512) (h : onRem pg) :
    domOfReg (pg * 512 + off) = domKey (pg / 2048) (36 + (pg % 2048 / 64 - 1)) := by
  obtain ⟨low, ⟨region, last⟩, rem⟩ := h
  have page : (pg * 512 + off) / 512 = pg := by omega
  unfold domOfReg domOfPage
  rw [page]
  dsimp only
  rw [if_neg (by omega), if_pos (by omega), if_pos region, if_pos (by omega)]

theorem clearDoms_spares {n k : Nat} (s : State) (h : k % 64 < 36) : Spares n s (clearDoms s (fun x => x == k)) := by
  refine ⟨fun pg off ho rem => ?_, id⟩
  have rem := not_not.mp rem
  rw [rget_clearDoms, domOfReg_rem ho rem, if_neg]
  obtain ⟨low, ⟨region, last⟩, -⟩ := rem
  unfold domKey
  simp only [beq_iff_eq]
  omega

/-! ## A core block -/

/-- A core block that is reset has no context left (R635); its stores touch no REM page. -/
theorem coreReset_spares (s : State) (n : Nat) (key : Word) :
    RegsKept s (coreReset s n key) (fun p _ => ¬ onRem p) ∧ ∀ h, (ctxAt (coreReset s n key) n h).st = .empty := by
  obtain ⟨fresh, hf⟩ : ∃ fresh : Core, fresh = { Core.init with
    sb := (coreAt s n).sb, tcKey := key, setA := if booted s then bootSet (bootComp s) else RuleSet.init } := ⟨_, rfl⟩
  have none_ : ∀ h, ctxAt (setCore s n fresh) n h = Ctx.init := fun h => by
    unfold ctxAt
    rw [coreAt_setCore_same, hf]
    rfl
  have late : ∀ u e, Spares n u (captureLate u n e) := fun u e => .capture u _ _ (regionPg_offRem _ (by omega) (by omega))
  have acks : ∀ u, Spares n u (ackAll u n) := fun u => .of_within (F := [.posts]) (ackAll_within (.refl u) ..)
  have rest : Spares n (setCore s n fresh) (coreReset s n key) := by
    unfold coreReset
    dsimp only
    rw [← hf]
    refine Spares.trans (Spares.trans (drainAll_spares _) ?_) (acks _)
    refine .foldl (fun u p => ?_) _ _
    exact .foldl (fun v e => late v e) _ u
  exact ⟨RegsKept.trans (.of_regs rfl _) rest.regs, rest.empty fun h => by rw [none_]; rfl⟩

/-! ## The frames that a bank loses -/

section
variable {n : Nat}

theorem fieldWrite_spares (s : State) (ea kind : Nat) (mng : Bool) (pfn : Nat) : Spares n s (fieldWrite s ea kind mng pfn) := by
  have read : Spares n s (readFor (noteAccess s (.die (ea / 1048576)) ea 1) (.die (ea / 1048576)) ea).2 :=
    (noteAccess_spares ..).trans ((noteAccess_spares ..).trans (memRead_spares ..))
  unfold fieldWrite
  refine .ite ?_ (.refl s)
  split
  · next e =>
    rw [e] at read
    exact read.trans (.of_fields rfl rfl)
  · next e =>
    rw [e] at read
    exact read

theorem putDir_spares (s : State) (d i : Nat) (e : DirEnt) : Spares n s (putDir s d i e) := .of_fields rfl rfl

theorem loseEntry_spares (s : State) (d i : Nat) : Spares n s (loseEntry s d i) := by
  have page : ¬ onRem (sedgePg d) := diePg_offRem d (by decide)
  unfold loseEntry
  dsimp only
  exact ((fieldWrite_spares ..).trans (putDir_spares ..)).trans (Spares.trans (.capture _ _ _ page) (.irqPend _ _ page))

theorem setSedge_spares (s : State) (d : Nat) (x : Sedge) : Spares n s (setSedge s d x) := .of_fields rfl rfl

theorem releaseWalk_spares (s : State) (m : Nat) : Spares n s (releaseWalk s m) := by
  unfold releaseWalk
  split
  · exact .refl s
  · dsimp only
    refine Spares.trans (Spares.trans ?_ (.rset _ _ (by decide) (diePg_offRem _ (by decide)))) (.setCore _ m _ fun k => .inr rfl)
    exact .of_fields rfl rfl

theorem releasePage_spares (s : State) (vpn : Nat) : Spares n s (releasePage s vpn) := by
  unfold releasePage
  refine .foldl (fun t m => ?_) _ s
  split
  · exact .ite (releaseWalk_spares ..) (.refl t)
  · exact .refl t

theorem sedgeLose_spares (s : State) (gone : Nat → Bool) : Spares n s (sedgeLose s gone) := by
  have close : ∀ u d r, Spares n u (closeMig u d r) := fun _ _ _ => .of_fields rfl rfl
  have mig : ∀ u d, Spares n u (migIsolate u d gone) := fun u d => by
    unfold migIsolate
    split
    · exact .refl u
    · dsimp only
      refine .ite ?_ (.ite ?_ (.refl u))
      · refine Spares.trans (Spares.trans (Spares.trans ?_ (loseEntry_spares ..)) (close _ _ _)) (releasePage_spares ..)
        split
        · exact .ite (.of_within (F := [.sedges]) (setPool_within (.refl u) ..)) (.refl u)
        · exact .refl u
      · exact (((fieldWrite_spares ..).trans (putDir_spares ..)).trans (close _ _ _)).trans (releasePage_spares ..)
  unfold sedgeLose
  refine .foldl (fun t d => ?_) _ s
  dsimp only
  have wait : ∀ u, Spares n u (startWaiting u d) := fun u => .of_within (F := [.fresh, .sedges]) (startWaiting_within (.refl u) ..)
  have lost : ∀ (l : List (Nat × DirEnt)) u, Spares n u (l.foldl (fun s p => loseEntry s d p.1) u) := fun l u => by
    refine .foldl (fun v p => ?_) l u
    exact loseEntry_spares v d p.1
  have start := mig t d
  generalize migIsolate t d gone = u at start ⊢
  refine start.trans ?_
  generalize List.filter _ _ = l
  have losing := lost l u
  generalize List.foldl _ u l = v at losing ⊢
  exact (losing.trans (setSedge_spares v d _)).trans (wait _)

end

/-! ## A domain that is held -/

theorem domHold_dom (s : State) (k : Nat) (release : Option Nat) :
    dom (domHold s k release) k = { dom s k with target := none, drain := none, queued := none, held := true, rstUntil := release } ∧
    ∀ j, j ≠ k → dom (domHold s k release) j = dom s j := by
  obtain ⟨u, hu⟩ : ∃ u, u = setDom s k { dom s k with target := none, drain := none, queued := none, held := true, rstUntil := release } :=
    ⟨_, rfl⟩
  have after : ∀ j, dom (domHold s k release) j = dom u j := fun j => by
    have : ∀ v : State, dom (domLogic v k) j = dom v j := fun v => Within.dom (F := [.fresh, .mem, .eccWb, .regs, .evTick, .events,
      .cores, .heatCnt, .heatDue, .steals, .slots, .badPorts, .sedges, .posts, .sweeps, .chans, .voters, .blocks, .links, .cwys,
      .eths, .prps, .emps]) (domLogic_within (.refl v) k) j
    rw [hu]
    exact this _
  refine ⟨by rw [after, hu, dom_setDom_same], fun j h => by rw [after, hu, dom_setDom_other _ h]⟩

/-- What a hold writes before the domain's logic is reset. -/
def State.holding (s : State) (k : Nat) (release : Option Nat) : State :=
  { setDom s k { dom s k with target := none, drain := none, queued := none, held := true, rstUntil := release } with
    enHeld := s.enHeld.filter (fun pg => domOfPage pg != k) }

theorem domHold_eq (s : State) (k : Nat) (release : Option Nat) : domHold s k release = domLogic (s.holding k release) k := rfl

theorem holding_spares {m : Nat} (s : State) (k : Nat) (release : Option Nat) : Spares m s (s.holding k release) := .of_fields rfl rfl

/-- A core block that is held: its contexts are empty, and no REM page is touched. -/
theorem domHold_core (s : State) {n : Nat} (release : Option Nat) (hn : n < 128) :
    RegsKept s (domHold s (domKey (n / 16) (n % 16)) release) (fun p _ => ¬ onRem p) ∧
    ∀ h, (ctxAt (domHold s (domKey (n / 16) (n % 16)) release) n h).st = .empty := by
  obtain ⟨k, hk⟩ : ∃ k, k = domKey (n / 16) (n % 16) := ⟨_, rfl⟩
  unfold domKey at hk
  have unit : 16 * (k / 64) + k % 64 = n := by omega
  have logic : ∀ u, domLogic u k = coreReset (clearDoms u (fun x => x == k)) n (coreAt (clearDoms u (fun x => x == k)) n).tcKey :=
    fun u => by
      unfold domLogic
      dsimp only
      rw [if_neg (by omega), if_pos (by omega), unit]
  rw [show domKey (n / 16) (n % 16) = k from hk.symm]
  rw [domHold_eq, logic]
  obtain ⟨regs, empty⟩ := coreReset_spares (clearDoms (s.holding k release) (fun x => x == k)) n
    (coreAt (clearDoms (s.holding k release) (fun x => x == k)) n).tcKey
  have start : Spares n (s.holding k release) (clearDoms (s.holding k release) (fun x => x == k)) := clearDoms_spares _ (by omega)
  exact ⟨((holding_spares (m := n) s k release).regs.trans start.regs).trans regs, empty⟩

/-- A bank or a channel block that is held touches no REM page, and fills no context. -/
theorem domHold_spares {m : Nat} (s : State) {k : Nat} (release : Option Nat) (hk : k < 512) (kind : 16 ≤ k % 64 ∧ k % 64 < 36) :
    Spares m s (domHold s k release) := by
  have logic : ∀ u : State, Spares m u (domLogic u k) := fun u => by
    unfold domLogic
    dsimp only
    rw [if_neg (by omega), if_neg (by omega)]
    have start : Spares m u (clearDoms u (fun x => x == k)) := clearDoms_spares u (by omega)
    generalize clearDoms u (fun x => x == k) = v at start ⊢
    have tags : ∀ p, Spares m v (clearTags v p) := fun p => .of_within (F := [.mem]) (clearTags_within (.refl v) ..)
    refine start.trans (.ite ?_ ?_)
    · have lose := (tags (inBank (16 * (k / 64) + (k % 64 - 16)))).trans
        (sedgeLose_spares _ (fun f => decide (f / 64 = 16 * (k / 64) + (k % 64 - 16))))
      generalize sedgeLose _ _ = w at lose ⊢
      exact lose.trans (.of_fields rfl rfl)
    · rw [if_pos (by omega)]
      exact .of_within (F := [.chans, .voters, .blocks]) (blockReset_within (.refl v) ..)
  rw [domHold_eq]
  exact (holding_spares s k release).trans (logic _)

end Sys2Proof.Machine

namespace Sys2Proof.Machine
open Sys2Proof Sys2Proof.Machine
set_option Elab.async false

/-- A capture or a signal changes registers alone, beside the books of the fabric cycle. -/
theorem Within.noted {s t : State} (w : Within Area.ofSignal s t) : t = { s.noted t with regs := t.regs } := by
  have books : t.heatCnt = s.heatCnt ∧ t.heatDue = s.heatDue ∧ t.slots = s.slots := ⟨w.heatCnt, w.heatDue, w.slots⟩
  obtain ⟨cnt, due, slots⟩ := books
  have same : s.noted t = { s with evTick := t.evTick, events := t.events } := by
    unfold State.noted
    rw [cnt, due, slots]
  rw [same]
  exact w.eq

/-! ## The isolation of a region (R46, R47) -/

/-- What `domHold` writes. -/
abbrev Area.ofHold : List Area := [.fresh, .mem, .eccWb, .regs, .evTick, .events, .enHeld, .cores, .heatCnt, .heatDue, .steals,
  .slots, .badPorts, .doms, .sedges, .posts, .sweeps, .chans, .voters, .blocks, .links, .cwys, .eths, .prps, .emps]

theorem foldlHold_within (l : List Nat) (s : State) : Within Area.ofHold s (l.foldl (fun s k => domHold s k none) s) :=
  .foldl (fun _ _ => domHold_within (.refl _) ..) (.refl s)

/-- Domains that are held one after the other are held. -/
theorem foldlHold_held (l : List Nat) (s : State) (k : Nat) (h : k ∈ l ∨ (dom s k).held = true) :
    (dom (l.foldl (fun s k => domHold s k none) s) k).held = true := by
  induction l generalizing s with
  | nil => exact h.resolve_left List.not_mem_nil
  | cons j r ih =>
    refine ih _ ?_
    obtain ⟨own, other⟩ := domHold_dom s j none
    by_cases e : k = j
    · right
      rw [e, own]
    · rw [other k e]
      exact h.imp_left fun m => (List.mem_cons.mp m).resolve_left e

/-- An entry of Reed after a retirement is Free or as it was. -/
theorem retireWhere_live (s : State) (d : Nat) (f : Event → Bool) (i : Nat)
    (live : ((reed (retireWhere s d f) d).entry i).live = true) : f ((reed (retireWhere s d f) d).entry i) = false := by
  obtain ⟨gone, -⟩ := retireWhere_entry s d f
  obtain ⟨free, kept⟩ := retireList_entry d ((reed s d).ev.filter (fun p => p.2.live && f p.2)) s
  have whole : retireWhere s d f = ((reed s d).ev.filter (fun p => p.2.live && f p.2)).foldl (fun s p => retireEntry s d p.1) s := rfl
  rw [← whole] at free kept
  by_cases hit : ∃ e, (i, e) ∈ (reed s d).ev.filter (fun p => p.2.live && f p.2)
  · rw [free i hit] at live
    cases live
  · have same := kept i fun e h => hit ⟨e, h⟩
    rw [same] at live ⊢
    by_contra bad
    rw [Bool.not_eq_false] at bad
    have := gone i (by rw [live, bad]; rfl)
    rw [same] at this
    rw [this] at live
    cases live

theorem isol_of_none {s : State} {g : Nat} (none_ : ∀ r, r < 4 → s.isol.getLsbD (4 * (g / 4) + r) = false) :
    s.isol.getLsbD g = false ∧ (List.range 4).any (fun r => s.isol.getLsbD (4 * (g / 4) + r)) = false := by
  refine ⟨?_, ?_⟩
  · have := none_ (g % 4) (Nat.mod_lt _ (by decide))
    rwa [show 4 * (g / 4) + g % 4 = g by omega] at this
  · rw [List.any_eq_false]
    intro r hr
    rw [none_ r (List.mem_range.mp hr)]
    decide

/-- The first region of a die that is isolated. -/
theorem isolate_isolates {s : State} {g : Nat} (low : g < 32)
    (none_ : ∀ r, r < 4 → s.isol.getLsbD (4 * (g / 4) + r) = false) : Isolated s (isolate s g) g := by
  obtain ⟨own, any⟩ := isol_of_none none_
  obtain ⟨f, hf⟩ : ∃ f : Event → Bool, f = fun e => decide (24 * (g % 4) ≤ e.chan ∧ e.chan < 24 * (g % 4) + 24) := ⟨_, rfl⟩
  obtain ⟨u, hu⟩ : ∃ u, u = retireWhere s (g / 4) f := ⟨_, rfl⟩
  obtain ⟨v, hv⟩ : ∃ v : State, v = { u with isol := u.isol ||| BitVec.ofNat 32 (2 ^ g) } := ⟨_, rfl⟩
  obtain ⟨w, hw⟩ : ∃ w, w = (regionDoms g).foldl (fun s k => domHold s k none) (sedgeIsolate v g) := ⟨_, rfl⟩
  have eq : isolate s g = if w.safety = .run then { w with safety := .degraded } else w := by
    unfold isolate
    dsimp only
    rw [own, any, hw, hv, hu, hf]
    rfl
  have wu : Within [.regs, .evTick, .events, .reeds] s u := hu ▸ retireWhere_within (.refl s) ..
  have wi : Within Area.ofHold v (sedgeIsolate v g) := sedgeIsolate_within (.refl v) ..
  have ww : Within Area.ofHold v w := hw ▸ wi.trans (foldlHold_within (regionDoms g) _)
  have safety : w.safety = s.safety := by rw [ww.safety, hv]; exact wu.safety
  have doms : ∀ k ∈ regionDoms g, (dom w k).held = true := fun k hk => hw ▸ foldlHold_held (regionDoms g) _ k (.inl hk)
  have isol : w.isol.getLsbD g = true := by
    rw [ww.isol, hv]
    show (u.isol ||| BitVec.ofNat 32 (2 ^ g)).getLsbD g = true
    rw [BitVec.getLsbD_or, BitVec.getLsbD_ofNat, Nat.testBit_two_pow_self]
    simp [low]
  have events : reed w (g / 4) = reed u (g / 4) := by
    rw [ww.reed, hv]
    rfl
  have quiet : ∀ i, ((reed w (g / 4)).entry i).live = true →
      ¬ (24 * (g % 4) ≤ ((reed w (g / 4)).entry i).chan ∧ ((reed w (g / 4)).entry i).chan < 24 * (g % 4) + 24) := fun i live => by
    rw [events, hu] at live ⊢
    have calm := retireWhere_live s (g / 4) f i live
    generalize (reed (retireWhere s (g / 4) f) (g / 4)).entry i = e at calm ⊢
    rw [hf] at calm
    exact of_decide_eq_false calm
  rw [eq]
  by_cases run : s.safety = .run
  · rw [if_pos (safety.trans run)]
    exact ⟨isol, doms, (if_pos run).symm, quiet⟩
  · rw [if_neg (by rw [safety]; exact run)]
    exact ⟨isol, doms, safety.trans (if_neg run).symm, quiet⟩

/-- A second region of a die moves the package to Mire. -/
theorem isolate_mire {s : State} {g : Nat} (own : s.isol.getLsbD g = false)
    (other : ∃ r, r < 4 ∧ s.isol.getLsbD (4 * (g / 4) + r) = true) : isolate s g = mireEnter s 2 (g / 4) 0 := by
  obtain ⟨r, hr, isol⟩ := other
  have any : (List.range 4).any (fun r => s.isol.getLsbD (4 * (g / 4) + r)) = true :=
    List.any_eq_true.mpr ⟨r, List.mem_range.mpr hr, isol⟩
  unfold isolate
  dsimp only
  rw [own, if_neg (by decide), if_pos any]

/-! ## The move to Mire -/

/-- Nothing after its record writes LASTMIRE. -/
theorem mireEnter_records {s : State} (cause die core : Nat) (out : s.safety ≠ .mire) :
    rget (mireEnter s cause die core) (pkgPg 0) 68 = (fval 35 35 1 ||| fval 34 30 cause ||| fval 29 27 die |||
      (if cause = 3 ∨ cause = 4 then fval 26 20 core else 0)) := by
  obtain ⟨u, hu⟩ : ∃ u, u = rset (evPut { endToken s with safety := .mire } (pkgPg 0) 68 (fval 35 35 1)) (pkgPg 0) 68
    (fval 35 35 1 ||| fval 34 30 cause ||| fval 29 27 die ||| (if cause = 3 ∨ cause = 4 then fval 26 20 core else 0)) := ⟨_, rfl⟩
  have eq : mireEnter s cause die core = channelsSafe (freeAll (venStopAll u 7)) := by
    rw [hu]
    exact if_neg out
  have w : Within [.vens, .reeds, .voters] u (freeAll (venStopAll u 7)) := freeAll_within (venStopAll_within (.refl u) ..) ..
  have silent : ∀ v, RegsKept v (channelsSafe v) (fun p off => ∃ m, safeRegs m p off) := fun v => by
    unfold channelsSafe
    refine RegsKept.foldl (fun t m => .ite ?_ (.refl t _)) _ v
    refine RegsKept.trans (RegsKept.mono (safeEnter_regs t m 13 0 0) fun p o h => ⟨m, h⟩) ?_
    exact .of_within (F := [.chans]) (setGd_within (.refl _) ..) _
  rw [eq, silent _ _ _ (by decide), w.rget, hu, rget_rset_same]
  rintro ⟨m, h⟩
  have page := pkgPg_mod (p := 0) (by decide)
  have := goneRegs_page (.inr ⟨m, h⟩)
  omega

/-! ## Reports -/

/-- A block that is held: its domain, its contexts, and what stays. -/
theorem domHold_block {s t : State} {n : Nat} (hn : n < 128) (w : Within Area.ofSignal s t) :
    let u := domHold t (domKey (n / 16) (n % 16)) none
    ((dom u (domKey (n / 16) (n % 16))).held = true ∧ (dom u (domKey (n / 16) (n % 16))).rstUntil = none ∧
      (∀ h, (ctxAt u n h).st = .empty) ∧ u.safety = s.safety ∧ u.isol = s.isol) ∧
    RegsKept t u (fun p _ => ¬ onRem p) := by
  intro u
  obtain ⟨regs, empty⟩ := domHold_core t (n := n) none hn
  obtain ⟨own, -⟩ := domHold_dom t (domKey (n / 16) (n % 16)) none
  have v : Within Area.ofHold t u := domHold_within (.refl t) ..
  exact ⟨⟨by rw [own], by rw [own], empty, v.safety.trans w.safety, v.isol.trans w.isol⟩, regs⟩

/-- A capture at a REM page stands while the REM pages do. -/
theorem Captured.onRem {s t u : State} {g cause info : Nat} (c : Captured s t (remPg g) cause info) (hg : g < 32)
    (k : RegsKept t u (fun p _ => ¬ Machine.onRem p)) : Captured s u (remPg g) cause info := by
  have same : ∀ o, o < 512 → rget u (remPg g) o = rget t (remPg g) o := fun o ho => k _ _ ho (not_not.mpr (remPg_onRem hg))
  exact c.after (same 6 (by decide)) (same 7 (by decide)) (by rw [same 9 (by decide)]; exact id)

theorem foldlChans (s : State) (g n : Nat) {c : Nat} (hc : c < n) :
    chan ((List.range n).foldl (fun s c => setChan s (24 * g + c) { Chan.init with fb := (chan s (24 * g + c)).fb }) s) (24 * g + c) =
      { Chan.init with fb := (chan s (24 * g + c)).fb } := by
  have later : ∀ n k, n ≤ k → chan ((List.range n).foldl (fun s c => setChan s (24 * g + c)
      { Chan.init with fb := (chan s (24 * g + c)).fb }) s) (24 * g + k) = chan s (24 * g + k) := by
    intro n
    induction n with
    | zero => exact fun _ _ => rfl
    | succ n ih =>
      intro k hk
      rw [List.range_succ, List.foldl_append, List.foldl_cons, List.foldl_nil, chan_setChan_other _ (by omega), ih k (by omega)]
  induction n with
  | zero => omega
  | succ n ih =>
    rw [List.range_succ, List.foldl_append, List.foldl_cons, List.foldl_nil]
    by_cases e : c = n
    · rw [e, chan_setChan_same, later n n (Nat.le_refl n)]
    · rw [chan_setChan_other _ (by omega), ih (by omega)]

/-- A channel block that is held is reset. -/
theorem domHold_channels (s : State) {g : Nat} (hg : g < 32) :
    voter (domHold s (domKey (g / 4) (32 + g % 4)) none) g = Voter.init ∧
    ∀ c, c < 24 → chan (domHold s (domKey (g / 4) (32 + g % 4)) none) (24 * g + c) =
      { Chan.init with fb := (chan s (24 * g + c)).fb } := by
  obtain ⟨k, hk⟩ : ∃ k, k = domKey (g / 4) (32 + g % 4) := ⟨_, rfl⟩
  unfold domKey at hk
  have unit : 4 * (k / 64) + (k % 64 - 32) = g := by omega
  have logic : ∀ u, domLogic u k = blockReset (clearDoms u (fun x => x == k)) g := fun u => by
    unfold domLogic
    dsimp only
    rw [if_neg (by omega), if_neg (by omega), if_neg (by omega), if_pos (by omega), unit]
  rw [show domKey (g / 4) (32 + g % 4) = k from hk.symm, domHold_eq, logic]
  have start : ∀ c, chan (clearDoms (s.holding k none) (fun x => x == k)) c = chan s c := fun _ => rfl
  generalize clearDoms (s.holding k none) (fun x => x == k) = u at start ⊢
  obtain ⟨v, hv⟩ : ∃ v, v = (List.range 24).foldl (fun s c => setChan s (24 * g + c) { Chan.init with fb := (chan s (24 * g + c)).fb }) u :=
    ⟨_, rfl⟩
  have eq : blockReset u g = setBlock (setVoter v g Voter.init) g Block.init := by rw [hv]; rfl
  refine ⟨by rw [eq]; exact voter_setVoter_same g Voter.init, fun c hc => ?_⟩
  rw [eq, ← start]
  show chan v (24 * g + c) = _
  rw [hv]
  exact foldlChans u g 24 hc

/-- Settles O22, response by response. -/
theorem errorContainment : Obligations.ErrorContainment := by
  intro s core region cause info b n g d heldBlock
  have low : g < 32 := region.isLt
  have runs : ∀ f, unitWorks s (remPg g) = true → done (unitDo s (remPg g) f) = .next (f s) := fun f works =>
    congrArg done (unitDo_of_works works f)
  have captured := captured_capture s (remPg g) cause.toNat info.toNat
  have w : Within Area.ofSignal s (capture s (remPg g) cause.toNat info.toNat) := capture_within (.refl s) ..
  have transfer : ∀ t u, Within Area.ofSignal s t → (∀ r, r < 4 → s.isol.getLsbD (4 * d + r) = false) → u = isolate t g →
      Isolated s u g := fun t u wt none_ hu => by
    have := isolate_isolates (s := t) low (by rw [wt.isol]; exact none_)
    rw [hu]
    unfold Isolated at this ⊢
    rwa [wt.safety] at this
  refine ⟨fun works => ?_, fun works => ⟨?_, ?_, ?_, fun none_ => ⟨?_, ?_⟩, fun out => ?_⟩, fun works there => ⟨fun none_ => ?_, fun own other => ?_⟩⟩
  · obtain ⟨u, hu⟩ : ∃ u : State, u = { s with fresh := s.fresh + 2 } := ⟨_, rfl⟩
    obtain ⟨v, hv⟩ : ∃ v, v = capture u (remPg (n / 4)) (Config.freeValue 5 s.fresh).toNat (Config.freeValue 30 (s.fresh + 1)).toNat :=
      ⟨_, rfl⟩
    have wv : Within Area.ofSignal u v := hv ▸ capture_within (.refl u) ..
    obtain ⟨⟨held, until_, empty, safety, isol⟩, regs⟩ := domHold_block core.isLt wv
    have counted : Captured s v (remPg (n / 4)) (Config.freeValue 5 s.fresh).toNat (Config.freeValue 30 (s.fresh + 1)).toNat :=
      hv ▸ (captured_capture u _ _ _).of_before (by rw [hu]; rfl) (by rw [hu]; rfl)
    have run : exec (.regfileParityError core) s = .next (domHold v (domKey (n / 16) (n % 16)) none) :=
      (congrArg done (unitDo_of_works works _)).trans (by rw [hv, hu]; rfl)
    refine ⟨_, run, ⟨held, until_, empty, safety.trans (by rw [hu]), isol.trans (by rw [hu])⟩, ?_⟩
    exact (counted.onRem (by omega) regs).count
  · have run : exec (.regionErrorReport region cause info .record) s = .next (capture s (remPg g) cause.toNat info.toNat) := runs _ works
    exact ⟨_, run, captured, w.noted, regsKept_capture s (remPg g) cause.toNat info.toNat⟩
  · obtain ⟨t, ht⟩ : ∃ t, t = capture s (remPg g) cause.toNat info.toNat := ⟨_, rfl⟩
    rw [← ht] at captured w
    have run : exec (.regionErrorReport region cause info (.holdBlock b)) s = .next
        (domHold (domHold t (domKey d (4 * (g % 4) + b.toNat)) none) (domKey d (16 + (4 * (g % 4) + b.toNat))) none) :=
      (runs _ works).trans (by rw [ht])
    have key : domKey d (4 * (g % 4) + b.toNat) = domKey ((4 * g + b.toNat) / 16) ((4 * g + b.toNat) % 16) := by
      unfold domKey
      omega
    obtain ⟨⟨held, until_, empty, safety, isol⟩, regs⟩ := domHold_block (n := 4 * g + b.toNat) (by omega) w
    rw [← key] at held until_ empty safety isol regs
    generalize domHold t (domKey d (4 * (g % 4) + b.toNat)) none = u at run held until_ empty safety isol regs
    obtain ⟨own, others⟩ := domHold_dom u (domKey d (16 + (4 * (g % 4) + b.toNat))) none
    have spared := domHold_spares (m := 4 * g + b.toNat) u (k := domKey d (16 + (4 * (g % 4) + b.toNat))) none
      (by unfold domKey; omega) (by unfold domKey; omega)
    have v : Within Area.ofHold u (domHold u (domKey d (16 + (4 * (g % 4) + b.toNat))) none) := domHold_within (.refl u) ..
    have other := others (domKey d (4 * (g % 4) + b.toNat)) (by unfold domKey; omega)
    refine ⟨_, run, ⟨?_, ?_, spared.empty empty, v.safety.trans safety, v.isol.trans isol⟩, by rw [own],
      captured.onRem low (regs.trans spared.regs)⟩
    · rw [← key, other, held]
    · rw [← key, other, until_]
  · obtain ⟨t, ht⟩ : ∃ t, t = capture s (remPg g) cause.toNat info.toNat := ⟨_, rfl⟩
    rw [← ht] at captured w
    have run : exec (.regionErrorReport region cause info .holdChannels) s = .next (domHold t (domKey d (32 + g % 4)) none) :=
      (runs _ works).trans (by rw [ht])
    obtain ⟨own, -⟩ := domHold_dom t (domKey d (32 + g % 4)) none
    obtain ⟨voter, chans⟩ := domHold_channels t low
    have spared := domHold_spares (m := 0) t (k := domKey d (32 + g % 4)) none (by unfold domKey; omega) (by unfold domKey; omega)
    refine ⟨_, run, by rw [own], voter, fun c hc => ?_, captured.onRem low spared.regs⟩
    rw [chans c hc, w.chan]
  · exact ⟨_, runs _ works, transfer _ _ w none_ rfl⟩
  · refine ⟨_, runs _ works, transfer _ _ (capture_within w ..) none_ rfl⟩
  · refine ⟨_, runs _ works, mireEnter_safety .., (mireEnter_records 2 d 0 out).trans ?_⟩
    rw [if_neg (by decide)]
    exact BitVec.or_zero
  · exact ⟨_, (congrArg done (if_pos there)).trans (congrArg done (unitDo_of_works works _)), transfer s _ (.refl s) none_ rfl⟩
  · have mire := isolate_mire own other
    refine ⟨_, (congrArg done (if_pos there)).trans (congrArg done (unitDo_of_works works _)), ?_, ?_⟩
    · rw [mire]
      exact mireEnter_safety ..
    · rw [mire]
      exact (mireEnter_within (F := [.regs, .evTick, .events, .cores, .safety, .reeds, .chans, .voters, .vens, .carr]) (.refl s) ..).isol

end Sys2Proof.Machine

namespace Sys2Proof.Machine
open Sys2Proof Sys2Proof.Machine
set_option Elab.async false

/-! ## The registers that an access of a port writes (R550 to R552) -/

/-- The error and capture registers, the counters of ECC and of discarded writes. -/
def accessRegs (_ off : Nat) : Prop := off = 6 ∨ off = 7 ∨ off = 9 ∨ (16 ≤ off ∧ off ≤ 19) ∨ off = 32

namespace RegsKept

/-- A capture writes error registers. -/
theorem capture_access (s : State) (pg cause info : Nat) : RegsKept s (Machine.capture s pg cause info) accessRegs :=
  .capture s cause info ⟨.inl rfl, .inr (.inl rfl), .inr (.inr (.inl rfl))⟩

theorem fst {α : Type} {s t : State} {P : Nat → Nat → Prop} {r : α × State} {a : α} (e : r = (a, t)) (h : RegsKept s r.2 P) :
    RegsKept s t P := by
  rw [e] at h
  exact h

end RegsKept

theorem eccCorrected_access (s : State) (a : Nat) : RegsKept s (eccCorrected s a) accessRegs := by
  unfold eccCorrected
  split
  · exact RegsKept.trans (.rinc s 17 0 (by decide) (.inr (.inr (.inr (.inl (by omega)))))) (.rset _ _ (by decide)
      (.inr (.inr (.inr (.inl (by omega))))))
  · exact .refl s _

theorem eccLost_access (s : State) (a : Nat) : RegsKept s (eccLost s a) accessRegs := by
  unfold eccLost
  split
  · exact RegsKept.trans (.rinc s 17 0 (by decide) (.inr (.inr (.inr (.inl (by omega)))))) (.capture_access _ _ _ _)
  · exact .refl s _

theorem memRead_access (s : State) (a : Nat) : RegsKept s (memRead s a).2 accessRegs := by
  have queue : RegsKept s (queueWriteback s a) accessRegs := .of_within (F := [.eccWb]) (queueWriteback_within (.refl s) ..) _
  unfold memRead
  dsimp only
  split
  · exact .refl s _
  · exact queue.trans (eccCorrected_access _ _)
  · exact eccLost_access s a

theorem memWrite_access (s : State) (a : Nat) (data mask : Word) (tag : Bool) : RegsKept s (memWrite s a data mask tag) accessRegs := by
  have mset : ∀ (u : State) w, RegsKept s u accessRegs → RegsKept s (mset u a w) accessRegs := fun u w h => h.trans (.of_regs rfl _)
  unfold memWrite
  dsimp only
  have start : RegsKept s { s with eccWb := s.eccWb.filter (fun b => b != a) } accessRegs := .of_regs rfl _
  generalize { s with eccWb := s.eccWb.filter (fun b => b != a) } = u at start ⊢
  refine .ite (.ite ?_ (mset u _ start)) (mset u _ start)
  exact ((mset u _ start).trans (.rinc _ 17 0 (by decide) (.inr (.inr (.inr (.inr rfl)))))).trans (.capture_access _ _ _ _)

theorem noteAccess_die (s : State) (d a k : Nat) (P : Nat → Nat → Prop) : RegsKept s (noteAccess s (.die d) a k) P := by
  refine .of_regs ?_ P
  have heat : ∀ u c, (noteHeat u d a c).regs = u.regs := fun u c => (noteHeat_within (F := [.heatCnt, .heatDue]) (.refl u) ..).regs
  unfold noteAccess
  refine (heat _ _).trans ?_
  split <;> rfl

theorem readFor_access (s : State) (d a : Nat) : RegsKept s (readFor s (.die d) a).2 accessRegs :=
  (noteAccess_die s d a 1 _).trans (memRead_access _ _)

theorem putFor_access (s : State) (d a : Nat) (w : Word) (tag : Bool) : RegsKept s (putFor s (.die d) a w tag) accessRegs :=
  (noteAccess_die s d a _ _).trans (memWrite_access _ _ _ _ _)

theorem gateCapture_access (s : State) (pg cause a : Nat) (st : Stamp) (k : Kind) (slot win : Nat) :
    RegsKept s (gateCapture s pg cause a st k slot win) accessRegs := by
  have put : ∀ (u : State) p o w, RegsKept u (evPut u p o w) accessRegs := fun _ _ _ _ => .of_regs rfl _
  have books : RegsKept s (if bit (evNow s pg 6) 35 then s else evPut (evPut s pg 16 (reqWord st)) pg 17 (attrWord st k slot win))
      accessRegs := .ite (.refl s _) ((put _ _ _ _).trans (put _ _ _ _))
  unfold gateCapture
  dsimp only
  generalize (if bit (evNow s pg 6) 35 then s else evPut (evPut s pg 16 (reqWord st)) pg 17 (attrWord st k slot win)) = u at books ⊢
  refine RegsKept.trans (.ite books (books.trans ?_)) (.capture_access _ _ _ _)
  have first : RegsKept u (rset u pg 16 (reqWord st)) accessRegs := .rset u _ (by decide) (.inr (.inr (.inr (.inl (by decide)))))
  exact first.trans (.rset _ _ (by decide) (.inr (.inr (.inr (.inl (by decide))))))

theorem targetCapture_access (s : State) (st : Stamp) (a : Nat) (k : Kind) : RegsKept s (targetCapture s st a k) accessRegs := by
  unfold targetCapture
  split
  · exact .refl s _
  · exact gateCapture_access _ _ _ _ _ _ _ _

theorem reachRecord_access (s : State) (die a : Nat) (r : Reach) : RegsKept s (reachRecord s die a r) accessRegs := by
  unfold reachRecord portParity
  split
  · exact .refl s _
  · exact .capture_access _ _ _ _
  · exact .refl s _
  · exact .capture_access _ _ _ _
  · split
    · refine RegsKept.trans ?_ (.capture_access _ _ _ _)
      exact .of_regs rfl _
    · exact .refl s _

/-! ## Computations of a port -/

/-- Every end of m keeps the registers but those of P. -/
def Leaves {ε α : Type} (P : Nat → Nat → Prop) (m : EStateM ε State α) : Prop := ∀ s, RegsKept s (endOf (m s)) P

namespace Leaves
variable {ε α β : Type} {P : Nat → Nat → Prop} {m : EStateM ε State α}

theorem pure (a : α) : Leaves P (Pure.pure a : EStateM ε State α) := fun s => .refl s P

theorem throw (x : ε) : Leaves P (throw x : EStateM ε State α) := fun s => .refl s P

theorem modify {f : State → State} (hf : ∀ s, RegsKept s (f s) P) : Leaves P (modify f : EStateM ε State PUnit) := hf

theorem get_then {f : State → EStateM ε State β} (hf : ∀ s, RegsKept s (endOf (f s s)) P) :
    Leaves P (MonadState.get >>= f) := hf

theorem bind {f : α → EStateM ε State β} (hm : Leaves P m) (hf : ∀ a, Leaves P (f a)) : Leaves P (m >>= f) := fun s => by
  have first := hm s
  simp only [Bind.bind, EStateM.bind]
  cases e : m s with
  | ok a t =>
    rw [e] at first
    exact first.trans (hf a t)
  | error x t =>
    rw [e] at first
    exact first

end Leaves

theorem portCheck_leaves (p : Port) (a : Nat) (k : Kind) : Leaves accessRegs (portCheck p a k) := by
  refine .get_then fun s => ?_
  have stops : ∀ (f : State → State) (e : DmaErr), (∀ u, RegsKept u (f u) accessRegs) →
      RegsKept s (endOf (((do modify f; MonadExcept.throw e) : P Unit) s)) accessRegs := fun f e hf =>
    Leaves.bind (P := accessRegs) (Leaves.modify hf) (fun _ => Leaves.throw e) s
  by_cases inside : inWindow s p a = true
  · rw [if_pos inside]
    cases memReach s a with
    | ok =>
      dsimp only
      by_cases granted : targetOk s (portStamp s p) a k = true
      · rw [if_pos granted]
        exact .refl s _
      · rw [if_neg granted]
        exact stops _ _ fun u => targetCapture_access u _ a k
    | unpopulated => exact stops _ _ fun u => reachRecord_access u _ a _
    | isolated => exact stops _ _ fun u => reachRecord_access u _ a _
    | down => exact stops _ _ fun u => reachRecord_access u _ a _
    | parity => exact stops _ _ fun u => reachRecord_access u _ a _
  · rw [if_neg inside]
    exact stops _ _ fun u => .capture_access u _ _ _

theorem portRead_leaves (p : Port) (a : Nat) : Leaves accessRegs (portRead p a) := by
  refine .bind (portCheck_leaves p a .load) fun _ => .get_then fun s => ?_
  have read := readFor_access s p.die a
  generalize readFor s (.die p.die) a = r at read ⊢
  obtain ⟨w, t⟩ := r
  cases w with
  | none => exact read
  | some w => exact read

theorem portWrite_leaves (p : Port) (a : Nat) (w : Word) : Leaves accessRegs (portWrite p a w) :=
  .bind (portCheck_leaves p a .store) fun _ => .modify fun s => putFor_access s p.die a w false

end Sys2Proof.Machine

namespace Sys2Proof.Machine
open Sys2Proof Sys2Proof.Machine
set_option Elab.async false

/-! ## Writes of the registers that every page has (R73 to R82) -/

theorem unlessLocked_open {s : State} {pg : Nat} (off : Nat) (f : State → State) (h : locked s pg = false) :
    unlessLocked s pg off f = f s := if_neg (by rw [h]; decide)

theorem unlessLocked_locked {s : State} {pg : Nat} (off : Nat) (f : State → State) (h : locked s pg = true) :
    unlessLocked s pg off f = captureAt s pg 1 off := if_pos h

/-- A refusal alone: it is captured, and nothing else changes. -/
theorem captureAt_only (s : State) (pg cause off : Nat) :
    (RegsKept s (captureAt s pg cause off) (fun p o => p = pg ∧ captureRegs pg pg o) ∧
      captureAt s pg cause off = { s.noted (captureAt s pg cause off) with regs := (captureAt s pg cause off).regs }) ∧
    Captured s (captureAt s pg cause off) pg cause (regAddr pg off) := by
  have w : Within Area.ofSignal s (captureAt s pg cause off) := capture_within (.refl s) ..
  exact ⟨⟨(regsKept_capture s pg cause _).mono fun p o h => ⟨h.1, rfl, h.2⟩, w.noted⟩, captured_capture s pg cause _⟩

/-- A feature that is refused shows at STAT (R74). -/
theorem refuseFeature_shows (s : State) (pg off : Nat) :
    Within Area.ofSignal s (refuseFeature s pg off) ∧
    RegsKept s (refuseFeature s pg off) (fun p o => p = pg ∧ (o = 5 ∨ o = 6 ∨ o = 7 ∨ o = 9)) ∧
    bit (rget (refuseFeature s pg off) pg 5) 2 = true ∧ Captured s (refuseFeature s pg off) pg 2 (regAddr pg off) := by
  obtain ⟨u, hu⟩ : ∃ u, u = evPut (rset s pg 5 (setBit (rget s pg 5) 2 true)) pg 5 (fval 2 2 1) := ⟨_, rfl⟩
  have eq : refuseFeature s pg off = captureAt u pg 2 off := by rw [hu]; rfl
  have wu : Within Area.ofSignal s u := hu ▸ evPut_within (.rset (.refl s) _ _ _ (by decide)) ..
  have regs : ∀ p o, o < 512 → rget u p o = if p = pg ∧ o = 5 then setBit (rget s pg 5) 2 true else rget s p o := fun p o ho => by
    rw [hu, rget_evPut, rget_rset _ _ (by decide) ho]
  have kept : RegsKept s u (fun p o => p = pg ∧ o = 5) := fun p o ho h => by rw [regs p o ho, if_neg h]
  obtain ⟨⟨captures, -⟩, captured⟩ := captureAt_only u pg 2 off
  rw [eq]
  refine ⟨capture_within wu .., (kept.mono fun p o h => ⟨h.1, .inl h.2⟩).trans (captures.mono fun p o h => ⟨h.1, .inr h.2.2⟩), ?_,
    captured.of_before (kept _ _ (by decide) (by omega)) (kept _ _ (by decide) (by omega))⟩
  rw [captures _ _ (by decide) (by rintro ⟨-, -, h⟩; omega), regs pg 5 (by decide), if_pos ⟨rfl, rfl⟩]
  exact bit_setBit_same _ _ _ (by decide)

/-! ### FEAT_ACCEPT -/

theorem featStore_open {s : State} {pg : Nat} (v : Word) (unlocked : locked s pg = false) (off : enabled s pg = false) :
    featStore s pg v = (if v &&& ~~~(offer s pg) ≠ 0 then refuseFeature (featFollow s (rset s pg 3 (v &&& offer s pg)) pg) pg 3
      else featFollow s (rset s pg 3 (v &&& offer s pg)) pg) := by
  unfold featStore
  rw [unlessLocked_open 3 _ unlocked, off]
  rfl

/-- A branch that cannot be. -/
theorem else_of_ne {c : Prop} [Decidable c] {a b x : Option UnitTy} (h : (if c then a else b) = x) (ne : a ≠ x) : ¬ c ∧ b = x := by
  by_cases hc : c
  · exact absurd ((if_pos hc).symm.trans h) ne
  · exact ⟨hc, (if_neg hc).symm.trans h⟩

theorem unitOfPkg_ne_sluice (p : Part) (q : Nat) : unitOfPkg p q ≠ some .sluice := by
  intro h
  unfold unitOfPkg at h
  iterate 6 replace h := (else_of_ne h (by decide)).2
  replace h := (else_of_ne h (by split <;> decide)).2
  iterate 2 replace h := (else_of_ne h (by decide)).2
  cases h

/-- The SLUICE page of a region (Table 2.5). -/
theorem unitOf_sluice {p : Part} {pg : Nat} (h : unitOf p pg = some .sluice) :
    64 ≤ pg % 2048 ∧ pg % 2048 < 320 ∧ pg % 64 = 36 := by
  unfold unitOf at h
  dsimp only at h
  by_cases die : pg / 2048 < p.dies
  · rw [if_pos die] at h
    iterate 9 replace h := (else_of_ne h (by decide)).2
    by_cases region : 64 ≤ pg % 2048 ∧ pg % 2048 < 320
    · rw [if_pos region] at h
      refine ⟨region.1, region.2, ?_⟩
      unfold unitOfRegion at h
      iterate 3 replace h := (else_of_ne h (by decide)).2
      replace h := (else_of_ne h (by split <;> [decide; (split <;> [decide; (split <;> decide)])])).2
      iterate 2 replace h := (else_of_ne h (by decide)).2
      by_cases own : pg % 2048 % 64 = 36
      · omega
      · rw [if_neg own] at h
        replace h := (else_of_ne h (by decide)).2
        replace h := (else_of_ne h (by split <;> decide)).2
        replace h := (else_of_ne h (by decide)).2
        cases h
    · rw [if_neg region] at h
      cases h
  · rw [if_neg die] at h
    by_cases package : pg / 2048 = 8
    · rw [if_pos package] at h
      exact absurd h (unitOfPkg_ne_sluice p _)
    · rw [if_neg package] at h
      cases h

/-- The page of Sluice of a region is that page. -/
theorem sluicePg_of_unit {p : Part} {pg : Nat} (h : unitOf p pg = some .sluice) : sluicePg (pgRegion pg) = pg := by
  obtain ⟨low, high, unit⟩ := unitOf_sluice h
  unfold sluicePg regionPg pgRegion pageNo
  omega

/-- Lane C leaves every window where V3 falls (R485). -/
theorem dropLaneC_wins {s0 s1 : State} {g : Nat} (was : v3On s0 g = true) (now : v3On s1 g = false) :
    ∀ w ∈ (voter (dropLaneC s0 s1 g) g).wins, ∀ p ∈ w.props, p.lane ≠ 2 := by
  unfold dropLaneC
  rw [was, now]
  dsimp only [Bool.not_false, Bool.and_true]
  rw [if_pos (by decide), voter_setVoter_same]
  intro w hw p hp
  obtain ⟨w', -, rfl⟩ := List.mem_map.mp (List.mem_filter.mp hw).1
  have := (List.mem_filter.mp hp).2
  simpa using this

theorem dropLaneC_same {s0 s1 : State} {g : Nat} (was : v3On s0 g = false) : dropLaneC s0 s1 g = s1 := by
  unfold dropLaneC
  rw [was]
  rfl

/-- Without VOTE3 the third lane is off (R485, R715). -/
theorem featStore_sluice {s : State} {pg : Nat} {v : Word} (unlocked : locked s pg = false) (off : enabled s pg = false)
    (unit : unitOf s.part pg = some .sluice) (two : bit (v &&& offer s pg) 1 = false) :
    rget (featStore s pg v) pg 3 = (v &&& offer s pg) ∧ bit (rget (featStore s pg v) pg 4) 2 = false ∧
    (v3On s (pgRegion pg) = true → ∀ w ∈ (voter (featStore s pg v) (pgRegion pg)).wins, ∀ p ∈ w.props, p.lane ≠ 2) := by
  obtain ⟨u, hu⟩ : ∃ u, u = rset s pg 3 (v &&& offer s pg) := ⟨_, rfl⟩
  obtain ⟨x, hx⟩ : ∃ x, x = rset u pg 4 (setBit (rget u pg 4) 2 false) := ⟨_, rfl⟩
  obtain ⟨y, hy⟩ : ∃ y, y = dropLaneC s x (pgRegion pg) := ⟨_, rfl⟩
  have page := sluicePg_of_unit unit
  have follows : featFollow s u pg = y := by
    unfold featFollow
    rw [hy, hx]
    exact if_pos ⟨by rw [hu]; exact unit, by rw [hu, rget_rset_same]; exact two⟩
  have eq : featStore s pg v = if v &&& ~~~(offer s pg) ≠ 0 then refuseFeature y pg 3 else y := by
    rw [featStore_open v unlocked off, ← hu, follows]
  have w : Within [.voters] x y := hy ▸ dropLaneC_within (.refl x) ..
  have three : rget y pg 3 = (v &&& offer s pg) := by
    rw [w.rget, hx, rget_rset u _ (by decide) (by decide), if_neg (by omega), hu, rget_rset_same]
  have four : bit (rget y pg 4) 2 = false := by
    rw [w.rget, hx, rget_rset_same]
    exact bit_setBit_same _ _ _ (by decide)
  have drops : v3On s (pgRegion pg) = true → ∀ w ∈ (voter y (pgRegion pg)).wins, ∀ p ∈ w.props, p.lane ≠ 2 := fun was => by
    rw [hy]
    refine dropLaneC_wins was ?_
    rw [w.rget] at four
    unfold v3On
    rw [page, four]
    simp
  obtain ⟨within, kept, -, -⟩ := refuseFeature_shows y pg 3
  rw [eq]
  split
  · rw [kept _ _ (by decide) (by omega), kept _ _ (by decide) (by omega), within.voter]
    exact ⟨three, four, drops⟩
  · exact ⟨three, four, drops⟩

/-- The features of a page that is not enabled (R74). -/
theorem featStore_takes {s : State} {pg : Nat} {v : Word} {u : UnitTy} (unlocked : locked s pg = false) (off : enabled s pg = false)
    (unit : unitOf s.part pg = some u) (vote : u = .sluice → bit (v &&& offer s pg) 1 = true) :
    let t := featStore s pg v
    (RegsKept s t (fun p o => p = pg ∧ (o = 3 ∨ o = 5 ∨ o = 6 ∨ o = 7 ∨ o = 9)) ∧ t = { s.noted t with regs := t.regs }) ∧
    rget t pg 3 = (v &&& offer s pg) ∧
    (v &&& ~~~(offer s pg) = 0 → rget t pg 5 = rget s pg 5 ∧ rget t pg 7 = rget s pg 7) ∧
    (v &&& ~~~(offer s pg) ≠ 0 → bit (rget t pg 5) 2 = true ∧ Captured s t pg 2 (regAddr pg 3)) := by
  obtain ⟨x, hx⟩ : ∃ x, x = rset s pg 3 (v &&& offer s pg) := ⟨_, rfl⟩
  have follows : featFollow s x pg = x := by
    unfold featFollow
    refine if_neg ?_
    rintro ⟨sluice, clear⟩
    have := vote (by
      have part : x.part = s.part := by rw [hx]; rfl
      rw [part, unit] at sluice
      exact Option.some.inj sluice)
    rw [hx, rget_rset_same, this] at clear
    cases clear
  have eq : featStore s pg v = if v &&& ~~~(offer s pg) ≠ 0 then refuseFeature x pg 3 else x := by
    rw [featStore_open v unlocked off, ← hx, follows]
  have w : Within Area.ofSignal s x := hx ▸ .rset (.refl s) _ _ _ (by decide)
  have kept : RegsKept s x (fun p o => p = pg ∧ o = 3) := hx ▸ .rset s _ (by decide) ⟨rfl, rfl⟩
  have three : rget x pg 3 = (v &&& offer s pg) := by rw [hx, rget_rset_same]
  obtain ⟨within, shows, two, captured⟩ := refuseFeature_shows x pg 3
  intro t
  have ht : t = if v &&& ~~~(offer s pg) ≠ 0 then refuseFeature x pg 3 else x := eq
  by_cases more : v &&& ~~~(offer s pg) ≠ 0
  · rw [if_pos more] at ht
    rw [← ht] at within shows two captured
    refine ⟨⟨?_, (w.trans within).noted⟩, ?_, fun h => absurd h more, fun _ => ⟨two, ?_⟩⟩
    · exact (kept.mono fun p o h => ⟨h.1, .inl h.2⟩).trans (shows.mono fun p o h => ⟨h.1, .inr h.2⟩)
    · rw [shows _ _ (by decide) (by omega), three]
    · exact captured.of_before (kept _ _ (by decide) (by omega)) (kept _ _ (by decide) (by omega))
  · rw [if_neg more] at ht
    rw [← ht] at w kept three
    exact ⟨⟨kept.mono fun p o h => ⟨h.1, .inl h.2⟩, w.noted⟩, three,
      fun _ => ⟨kept _ _ (by decide) (by omega), kept _ _ (by decide) (by omega)⟩, fun h => absurd h more⟩

/-! ### CTL -/

theorem applyWrite_false (fs : List Fld) {old new : Word} {b : Nat} (ho : bit old b = false) (hn : bit new b = false) :
    bit (applyWrite fs old new) b = false := by
  unfold applyWrite
  induction fs generalizing old with
  | nil => exact ho
  | cons f r ih =>
    refine ih ?_
    have ho : old.getLsbD b = false := ho
    have hn : new.getLsbD b = false := hn
    dsimp only
    cases f.acc with
    | rw =>
      show (old &&& ~~~fmask f.hi f.lo ||| new &&& fmask f.hi f.lo).getLsbD b = false
      simp only [BitVec.getLsbD_or, BitVec.getLsbD_and, ho, hn, Bool.false_and, Bool.or_self]
    | wc =>
      show (old &&& ~~~(new &&& fmask f.hi f.lo)).getLsbD b = false
      simp only [BitVec.getLsbD_and, ho, Bool.false_and]
    | ws =>
      show (old ||| new &&& fmask f.hi f.lo).getLsbD b = false
      simp only [BitVec.getLsbD_or, BitVec.getLsbD_and, ho, hn, Bool.false_and, Bool.or_self]
    | ro => exact ho
    | rc => exact ho
    | wo => exact ho

/-- EN is no bit that software clears. -/
theorem wcMask_ctl (u : UnitTy) : bit (wcMask (u.fields 4)) 0 = false := by
  cases u <;> decide

/-- The unit's own fields of CTL, while EN is 0. -/
theorem writeFields_ctl {s : State} {pg : Nat} {u : UnitTy} (v : Word) (unit : unitOf s.part pg = some u)
    (off : bit (rget s pg 4) 0 = false) :
    ∃ w, writeFields s pg 4 (keepFld (rget s pg 4) v 0 0) = rset s pg 4 w ∧ bit w 0 = false := by
  refine ⟨_, by unfold writeFields; rw [unit], ?_⟩
  have kept : bit (keepFld (rget s pg 4) v 0 0) 0 = false := by
    unfold keepFld
    unfold bit at off ⊢
    rw [getLsbD_setFld, if_pos ⟨Nat.le_refl 0, Nat.le_refl 0⟩, testBit_fld]
    simp only [Nat.sub_self, Nat.add_zero, off, Bool.and_false]
  have applied := applyWrite_false (u.fields 4) off kept
  have mask := wcMask_ctl u
  unfold bit at applied mask ⊢
  rw [BitVec.getLsbD_or, BitVec.getLsbD_and, applied, mask]
  simp

theorem ctlFields_quiet {s : State} {pg : Nat} {v : Word} (off : enabled s pg = false) (two : bit v 2 = false)
    (three : bit v 3 = false) (held : bit (rget s pg 4) 2 = false) : ctlFields s pg v = (v, s) := by
  unfold ctlFields
  dsimp only
  split
  · rw [if_pos ⟨two.trans held.symm, .inl two⟩]
  · rw [off]
    rfl
  · simp only [two, three, Bool.false_eq_true, false_and, if_false]
  · simp only [two, three, Bool.false_eq_true, false_and, if_false]
  · rfl

theorem ctlAct_quiet {s : State} {pg : Nat} {v : Word} (two : bit v 2 = false) (three : bit v 3 = false) : ctlAct s pg v = s := by
  unfold ctlAct
  rw [two, three]
  split <;> rfl

/-- A unit whose page was disabled follows with its own records alone. -/
theorem ctlFollow_quiet (s : State) (pg : Nat) {held : Word} (wrote : Bool) (off : bit held 0 = false) :
    Within [.eths, .cans, .flashes, .emps] s (ctlFollow s pg held wrote) := by
  unfold ctlFollow
  dsimp only
  split
  · exact setEth_within (.refl s) ..
  · simp only [off, Bool.false_and, Bool.false_eq_true, if_false]
    exact setCan_within (.refl s) ..
  · exact .ite (.refl s) (setFlash_within (.refl s) ..)
  · exact .ite (.refl s) (setEmp_within (.refl s) ..)
  · exact .refl s

/-- A write of EN = 1 while EN is 0 and the unit's own bits are: CTL's other fields, then the judgement of EN. -/
theorem ctlStore_quiet {s : State} {pg : Nat} {v : Word} {u : UnitTy} (unit : unitOf s.part pg = some u)
    (unlocked : locked s pg = false) (off : enabled s pg = false) (plain : bit v 1 = false) (two : bit v 2 = false)
    (three : bit v 3 = false) (held : bit (rget s pg 4) 2 = false) (on : bit v 0 = true) :
    ∃ w, bit w 0 = false ∧ Within [.eths, .cans, .flashes, .emps] (enable (rset s pg 4 w) pg (enableWhy (rset s pg 4 w) pg))
      (ctlStore s pg v) := by
  obtain ⟨w, writes, low⟩ := writeFields_ctl v unit off
  refine ⟨w, low, ?_⟩
  have lane : unitOf s.part pg = some .sluice → dropLaneC s (rset s pg 4 w) (pgRegion pg) = rset s pg 4 w := fun sluice =>
    dropLaneC_same (by
      unfold v3On
      rw [sluicePg_of_unit sluice, held]
      simp)
  have eq : ctlStore s pg v = ctlFollow (enable (rset s pg 4 w) pg (enableWhy (rset s pg 4 w) pg)) pg (rget s pg 4) true := by
    unfold ctlStore
    rw [plain, if_neg (by decide), unlessLocked_open 4 _ unlocked]
    dsimp only
    rw [ctlFields_quiet off two three held, ctlAct_quiet two three, writes, on]
    congr 1
    show (if true then _ else _) = _
    rw [if_pos rfl]
    by_cases sluice : unitOf s.part pg = some .sluice
    · rw [if_pos sluice, lane sluice]
    · rw [if_neg sluice]
  rw [eq]
  exact ctlFollow_quiet _ pg true off

theorem ctlAct_access (s : State) (pg : Nat) (v : Word) : RegsKept s (ctlAct s pg v) accessRegs := by
  have cap : ∀ p c o, RegsKept s (captureAt s p c o) accessRegs := fun p c o => .capture_access s p c _
  unfold ctlAct
  split
  · refine .ite ?_ (.refl s _)
    unfold sweepStart
    dsimp only
    refine .ite (cap _ _ _) (.ite (cap _ _ _) (.ite (.of_regs rfl _) ?_))
    exact RegsKept.trans (.of_regs (t := setSweep s _ _) rfl _) (.rset _ _ (by decide) (.inr (.inr (.inr (.inl (by decide))))))
  · exact .ite (.ite (.of_regs rfl _) (cap _ _ _)) (.refl s _)
  · exact .refl s _

/-- The end of a transmission of the CAN controller of a die (R562). -/
theorem canTxEnd_access (s : State) (d a : Nat) (d0 d3 : Word) (status : Nat) : RegsKept s (canTxEnd s d a d0 d3 status) accessRegs := by
  have wrote := Leaves.bind (portWrite_leaves (canPort d) (a + 3) (setFld d3 31 27 status))
    (fun _ => portWrite_leaves (canPort d) a (setBit d0 35 false)) s
  unfold canTxEnd
  dsimp only
  generalize (portWrite (canPort d) (a + 3) (setFld d3 31 27 status) >>= fun _ => portWrite (canPort d) a (setBit d0 35 false)) s = r
    at wrote ⊢
  cases r with
  | ok x u => exact RegsKept.trans wrote (.of_regs rfl _)
  | error x u => exact RegsKept.trans wrote (.of_regs rfl _)

theorem canAbort_access (s : State) (d : Nat) : RegsKept s (canAbort s d) accessRegs := by
  obtain ⟨a, ha⟩ : ∃ a, a = ringAt s (canPg d) 19 (can s d).tx := ⟨_, rfl⟩
  have look := Leaves.bind (portRead_leaves (canPort d) a) (fun d0 => Leaves.bind (portRead_leaves (canPort d) (a + 3))
    (fun d3 => Leaves.pure (P := accessRegs) (ε := DmaErr) (d0, d3))) s
  unfold canAbort
  refine .ite ?_ (.refl s _)
  dsimp only
  rw [← ha]
  generalize (portRead (canPort d) a >>= fun d0 => portRead (canPort d) (a + 3) >>= fun d3 => Pure.pure (d0, d3)) s = r at look ⊢
  cases r with
  | ok x u => exact RegsKept.trans look (canTxEnd_access _ _ _ _ _ _)
  | error x u => exact RegsKept.trans look (.of_regs rfl _)

theorem ctlFollow_access (s : State) (pg : Nat) (held : Word) (wrote : Bool) : RegsKept s (ctlFollow s pg held wrote) accessRegs := by
  unfold ctlFollow
  dsimp only
  split
  · exact .of_regs rfl _
  · have abort : RegsKept s (if (bit held 0 && bit held 2 && !(bit (rget s pg 4) 0 && bit (rget s pg 4) 2)) = true
        then canAbort s (pg / 2048) else s) accessRegs := .ite (canAbort_access s _) (.refl s _)
    exact abort.trans (.of_regs rfl _)
  · exact .ite (.refl s _) (.of_regs rfl _)
  · exact .ite (.refl s _) (.of_regs rfl _)
  · exact .refl s _

/-- EN = 0 is always taken (R76). -/
theorem ctlStore_off {s : State} {pg : Nat} {v : Word} (unlocked : locked s pg = false) (plain : bit v 1 = false)
    (off : bit v 0 = false) : enabled (ctlStore s pg v) pg = false := by
  have key : ∃ u, RegsKept (ctlEn u pg false) (ctlStore s pg v) accessRegs := by
    obtain ⟨u, hu⟩ : ∃ u, u = (let s0 := writeFields (ctlFields s pg v).2 pg 4 (keepFld (rget s pg 4) (ctlFields s pg v).1 0 0)
      if unitOf s.part pg = some .sluice then dropLaneC s s0 (pgRegion pg) else s0) := ⟨_, rfl⟩
    have eq : ctlStore s pg v = ctlAct (ctlFollow (ctlEn u pg false) pg (rget s pg 4) false) pg v := by
      unfold ctlStore
      rw [plain, if_neg (by decide), unlessLocked_open 4 _ unlocked]
      dsimp only
      rw [off, hu]
    exact ⟨u, eq ▸ RegsKept.trans (ctlFollow_access _ _ _ _) (ctlAct_access _ _ _)⟩
  obtain ⟨u, kept⟩ := key
  have low : bit (rget (ctlEn u pg false) pg 4) 0 = false := by
    show bit (rget (rset u pg 4 (setBit (rget u pg 4) 0 false)) pg 4) 0 = false
    rw [rget_rset_same]
    exact bit_setBit_same _ _ _ (by decide)
  unfold enabled
  rw [kept _ _ (by decide) (by unfold accessRegs; omega)]
  exact low

/-! ### SRST -/

/-- The reset of a page that no rule of its own names (R703). -/
theorem srstPage_plain {s : State} {pg : Nat} {u : UnitTy} (unit : unitOf s.part pg = some u)
    (other : u ∉ [UnitTy.phref, .ttime, .sedge, .sluice, .chan, .pkg, .carr, .mgate, .tgate]) (unlocked : locked s pg = false) :
    srstPage s pg = resetUnit { resetPage s pg with enHeld := s.enHeld.filter (fun p => p != pg) } pg u := by
  have boot : ∀ t : State, t.part = s.part → bootPage t pg = t := fun t same => by
    unfold bootPage
    rw [same, unit]
    refine ite_eq_right_iff.mpr fun _ => ?_
    cases u with
    | carr => exact absurd (by decide) other
    | mgate => exact absurd (by decide) other
    | tgate => exact absurd (by decide) other
    | _ => rfl
  have reset : srstPage s pg = unlessLocked s pg 4 (fun s =>
      bootPage (resetUnit { resetPage s pg with enHeld := s.enHeld.filter (fun p => p != pg) } pg u) pg) := by
    unfold srstPage
    rw [unit]
    cases u with
    | phref => exact absurd (by decide) other
    | ttime => exact absurd (by decide) other
    | sedge => exact absurd (by decide) other
    | sluice => exact absurd (by decide) other
    | chan => exact absurd (by decide) other
    | pkg => exact absurd (by decide) other
    | _ => rfl
  rw [reset, unlessLocked_open 4 _ unlocked, boot]
  exact (resetUnit_within (F := [.reeds, .sweeps, .blocks, .vens, .eths, .prps, .cans, .flashes, .emps]) (.refl _) ..).part

theorem rget_resetPage (s : State) (pg p : Nat) {o : Nat} (ho : o < 512) :
    rget (resetPage s pg) p o = if p ≠ pg ∨ o = 10 then rget s p o else regDefault (p * 512 + o) := by
  unfold rget resetPage
  dsimp only
  rw [kget_kkeep, show (p * 512 + o) / 512 = p by omega, show (p * 512 + o) % 512 = o by omega]
  by_cases h : p ≠ pg ∨ o = 10
  · rw [if_pos h, if_pos (by simpa using h)]
  · rw [if_neg h, if_neg (by simpa using h)]

/-! ### STAT, ERR_FIRST, ERR_COUNT, LOCK -/

theorem enabledFollows_follows {s : State} {pg : Nat} {u : UnitTy} (unit : unitOf s.part pg = some u) :
    let t := excitationFollows (rset s pg 5 (setBit (rget s pg 5) 0 (enabled s pg && unitReady s pg))) pg
    (u ≠ .chan → RegsKept s t (fun p o => p = pg ∧ o = 5) ∧ t = { s.noted t with regs := t.regs }) ∧ t.mem = s.mem ∧
      bit (rget t pg 5) 0 = (enabled s pg && unitReady s pg) ∧ (∀ b, b ≠ 0 → bit (rget t pg 5) b = bit (rget s pg 5) b) := by
  obtain ⟨x, hx⟩ : ∃ x, x = rset s pg 5 (setBit (rget s pg 5) 0 (enabled s pg && unitReady s pg)) := ⟨_, rfl⟩
  intro t
  have w : Within [.fresh, .chans] x t := hx ▸ excitationFollows_within (.refl _) ..
  have wx : Within Area.ofSignal s x := hx ▸ .rset (.refl s) _ _ _ (by decide)
  have five : rget t pg 5 = setBit (rget s pg 5) 0 (enabled s pg && unitReady s pg) := by rw [w.rget, hx, rget_rset_same]
  refine ⟨fun ne => ?_, w.mem.trans wx.mem, ?_, fun b hb => ?_⟩
  · have same : t = x := by
      have : x.part = s.part := wx.part
      show excitationFollows _ pg = x
      rw [← hx]
      unfold excitationFollows
      rw [this, unit, if_neg fun h => ne (Option.some.inj h)]
    rw [same]
    exact ⟨hx ▸ .rset s _ (by decide) ⟨rfl, rfl⟩, wx.noted⟩
  · rw [five]
    exact bit_setBit_same _ _ _ (by decide)
  · rw [five]
    exact bit_setBit_other _ _ _ _ hb

theorem rset_only (s : State) (pg : Nat) {o : Nat} (v : Word) (ho : o < 512) :
    RegsKept s (rset s pg o v) (fun p x => p = pg ∧ x = o) ∧ rset s pg o v = { s.noted (rset s pg o v) with regs := (rset s pg o v).regs } :=
  ⟨.rset s v ho ⟨rfl, rfl⟩, Within.noted (.rset (.refl s) _ _ _ (by decide))⟩

/-- ERR_FIRST is released, unless an error of the present fabric cycle takes it (R17, R79). -/
theorem errRelease_takes (s : State) (pg : Nat) :
    (bit (evNow s pg 6) 35 = false → (RegsKept s (errRelease s pg) (fun p o => p = pg ∧ o = 6) ∧
        errRelease s pg = { s.noted (errRelease s pg) with regs := (errRelease s pg).regs }) ∧
      bit (rget (errRelease s pg) pg 6) 35 = false ∧ (∀ b, b < 35 → bit (rget (errRelease s pg) pg 6) b = bit (rget s pg 6) b)) ∧
    (bit (evNow s pg 6) 35 = true → rget (errRelease s pg) pg 6 = evNow s pg 6 ∧ bit (rget (errRelease s pg) pg 9) 0 = true) := by
  refine ⟨fun calm => ?_, fun late => ?_⟩
  · have eq : errRelease s pg = rset s pg 6 (setBit (rget s pg 6) 35 false) := if_neg (by rw [calm]; decide)
    rw [eq]
    refine ⟨rset_only s pg _ (by decide), ?_, fun b hb => ?_⟩
    · rw [rget_rset_same]
      exact bit_setBit_same _ _ _ (by decide)
    · rw [rget_rset_same]
      exact bit_setBit_other _ _ _ _ (by omega)
  · obtain ⟨x, hx⟩ : ∃ x, x = irqPend (rset s pg 6 (evNow s pg 6)) pg 0 := ⟨_, rfl⟩
    have eq : errRelease s pg = if unitOf s.part pg = some .mgate ∨ unitOf s.part pg = some .tgate then
        rset (rset x pg 16 (evNow s pg 16)) pg 17 (evNow s pg 17) else x := by
      rw [hx]
      exact if_pos late
    have six : rget x pg 6 = evNow s pg 6 := by
      rw [hx, rget_irqPend _ _ _ (by decide), if_neg (by omega), rget_rset_same]
    have nine : bit (rget x pg 9) 0 = true := hx ▸ irqPend_pends _ _ (by decide)
    rw [eq]
    split
    · rw [rget_rset _ _ (by decide) (by decide), if_neg (by omega), rget_rset _ _ (by decide) (by decide), if_neg (by omega),
        rget_rset _ _ (by decide) (by decide), if_neg (by omega), rget_rset _ _ (by decide) (by decide), if_neg (by omega)]
      exact ⟨six, nine⟩
    · exact ⟨six, nine⟩

/-- Settles O29, register by register. -/
theorem commonRegisters : Obligations.CommonRegisters := by
  intro s page v u pg only quiet
  have cleared : bit (setBit v 1 false) 1 = false := bit_setBit_same _ _ _ (by decide)
  have other : ∀ b, b ≠ 1 → bit (setBit v 1 false) b = bit v b := fun b h => bit_setBit_other _ _ _ _ h
  have store : ∀ t, unitWorks s pg = true → enHolds s pg 4 (setBit v 1 false) = false → ctlStore s pg (setBit v 1 false) = t →
      exec (.en page v) s = .next t := fun t works free ht =>
    (congrArg done (if_neg (by rw [free]; decide))).trans ((congrArg done (unitDo_of_works works _)).trans (by rw [ht]; rfl))
  have feat : ∀ w, rget (rset s pg 4 w) pg 3 = rget s pg 3 := fun w => by
    rw [rget_rset s _ (by decide) (by decide), if_neg (by omega)]
  have idle : (dom s (domOfPage pg)).drain = none → enHolds s pg 4 (setBit v 1 false) = false := fun none_ => by
    unfold enHolds draining
    rw [none_]
    simp
  refine ⟨fun clock drains on => ⟨fun unlocked => ?_, fun locks => ?_⟩, fun works unit =>
    ⟨fun unlocked off sluice two => ?_, fun unlocked off vote => ⟨_, congrArg done (unitDo_of_works works _),
      featStore_takes unlocked off unit vote⟩, fun locks => ?_, fun unlocked on => ?_,
     fun unlocked off calm on rest base why => ?_, fun unlocked off calm on rest base => ?_, fun unlocked off => ?_,
     ⟨_, congrArg done (unitDo_of_works works _), enabledFollows_follows unit⟩,
     ⟨_, congrArg done (unitDo_of_works works _), errRelease_takes s pg⟩, ?_, ?_, fun out unlocked => ?_⟩⟩
  · have holds : enHolds s pg 4 (setBit v 1 false) = true := by
      unfold enHolds
      rw [clock, drains, cleared, other 0 (by decide), on]
      rfl
    have some_ : (dom s (domOfPage pg)).drain.isSome = true := by
      unfold draining at drains
      simp only [Bool.and_eq_true] at drains
      exact drains.1.2
    have eq : holdEn s pg = { s with enHeld := if s.enHeld.contains pg then s.enHeld else s.enHeld ++ [pg] } :=
      (unlessLocked_open 4 _ unlocked).trans (if_pos some_)
    refine ⟨_, (congrArg done (if_pos holds)).trans (congrArg done eq), ?_, rfl⟩
    dsimp only
    split
    next h => simpa using h
    next => simp
  · have holds : enHolds s pg 4 (setBit v 1 false) = true := by
      unfold enHolds
      rw [clock, drains, cleared, other 0 (by decide), on]
      rfl
    exact ⟨_, (congrArg done (if_pos holds)).trans (congrArg done (unlessLocked_locked 4 _ locks)), captureAt_only s pg 1 4⟩
  · exact ⟨_, congrArg done (unitDo_of_works works _), featStore_sluice unlocked off (by rw [unit, sluice]) two⟩
  · exact ⟨_, (congrArg done (unitDo_of_works works _)).trans (congrArg done (unlessLocked_locked 3 _ locks)), captureAt_only s pg 1 3⟩
  · refine ⟨_, (congrArg done (unitDo_of_works works _)).trans (congrArg done ((unlessLocked_open 3 _ unlocked).trans (if_pos on))),
      captureAt_only s pg 2 3⟩
  · obtain ⟨three, two, held⟩ := calm
    obtain ⟨w, low, rest'⟩ := ctlStore_quiet unit unlocked off cleared ((other 2 (by decide)).trans two) ((other 3 (by decide)).trans three)
      held ((other 0 (by decide)).trans on)
    have takes : enable (rset s pg 4 w) pg (enableWhy (rset s pg 4 w) pg) = rset (rset s pg 4 w) pg 4 (setBit (rget (rset s pg 4 w) pg 4) 0 true) := by
      unfold enable
      rw [show (dom (rset s pg 4 w) (domOfPage pg)).drain = none from rest, feat w, base, why]
      rfl
    rw [takes] at rest'
    refine ⟨_, store _ works (idle rest) rfl, ?_, rest'.mem.trans rfl, ?_⟩
    · unfold enabled
      rw [rest'.rget, rget_rset_same]
      exact bit_setBit_same _ _ _ (by decide)
    · exact RegsKept.trans (RegsKept.trans (.rset s _ (by decide) ⟨rfl, rfl⟩) (.rset _ _ (by decide) ⟨rfl, rfl⟩)) (.of_within rest' _)
  · obtain ⟨three, two, held⟩ := calm
    obtain ⟨w, low, rest'⟩ := ctlStore_quiet unit unlocked off cleared ((other 2 (by decide)).trans two) ((other 3 (by decide)).trans three)
      held ((other 0 (by decide)).trans on)
    have refuses : enable (rset s pg 4 w) pg (enableWhy (rset s pg 4 w) pg) = refuseFeature (rset s pg 4 w) pg 4 := by
      unfold enable
      rw [show (dom (rset s pg 4 w) (domOfPage pg)).drain = none from rest, feat w, base]
      rfl
    rw [refuses] at rest'
    obtain ⟨-, kept, shows, captured⟩ := refuseFeature_shows (rset s pg 4 w) pg 4
    have regs : ∀ o, rget (ctlStore s pg (setBit v 1 false)) pg o = rget (refuseFeature (rset s pg 4 w) pg 4) pg o := fun o => rest'.rget ..
    refine ⟨_, store _ works (idle rest) rfl, ?_, ?_, ?_⟩
    · unfold enabled
      rw [regs, kept _ _ (by decide) (by omega), rget_rset_same]
      exact low
    · rw [regs]
      exact shows
    · refine (captured.of_before ?_ ?_).after (regs 6) (regs 7) (by rw [regs]; exact id)
      · rw [rget_rset s _ (by decide) (by decide), if_neg (by omega)]
      · rw [rget_rset s _ (by decide) (by decide), if_neg (by omega)]
  · have free : enHolds s pg 4 (setBit v 1 false) = false := by
      unfold enHolds
      rw [other 0 (by decide), off]
      simp
    exact ⟨_, store _ works free rfl, ctlStore_off unlocked cleared ((other 0 (by decide)).trans off)⟩
  · have eq : errCountStore s pg (fval 35 35 1) = rset s pg 7 (evNow s pg 7) := if_pos (by decide)
    refine ⟨_, (congrArg done (unitDo_of_works works _)).trans (congrArg done eq), rset_only s pg _ (by decide), rget_rset_same .., fun old => ?_⟩
    rw [rget_rset_same]
    exact if_neg old
  · refine ⟨_, congrArg done (unitDo_of_works works _), rset_only s pg _ (by decide), ?_, fun b hb => ?_⟩
    · rw [rget_rset_same]
      exact bit_setBit_same _ _ _ (by decide)
    · rw [rget_rset_same]
      exact bit_setBit_other _ _ _ _ hb
  · have w : Within [.reeds, .sweeps, .blocks, .vens, .eths, .prps, .cans, .flashes, .emps]
        { resetPage s pg with enHeld := s.enHeld.filter (fun p => p != pg) }
        (resetUnit { resetPage s pg with enHeld := s.enHeld.filter (fun p => p != pg) } pg u) := resetUnit_within (.refl _) ..
    have regs : ∀ p o, o < 512 → rget (srstPage s pg) p o = if p ≠ pg ∨ o = 10 then rget s p o else regDefault (p * 512 + o) :=
      fun p o ho => by
        rw [srstPage_plain unit out unlocked, w.rget]
        exact rget_resetPage s pg p ho
    refine ⟨_, congrArg done (unitDo_of_works works _), ?_, ?_, fun p o ho ne => ?_, fun o ho ne => ?_⟩
    · rw [srstPage_plain unit out unlocked]
      exact w.mem
    · exact (regs pg 10 (by decide)).trans (if_pos (.inr rfl))
    · exact (regs p o ho).trans (if_pos (.inl ne))
    · exact (regs pg o ho).trans (if_neg (by omega))

end Sys2Proof.Machine

namespace Sys2Proof.Machine
open Sys2Proof Sys2Proof.Machine
set_option Elab.async false

/-! ## Requests for registers -/

/-- A package whose CARR page of die 1 holds another IRQ_MASK than that of die 0, and which lets the other packages in (RADM). -/
def carrMasked : State :=
  { State.reset with regs := [(carrPg 1 * 512 + 8, 1), (pkgPg 0 * 512 + 55, BitVec.allOnes 36), (pkgPg 0 * 512 + 56, BitVec.allOnes 36)] }

/-- A requester of another package. -/
def carrReader : Stamp := { cls := 0, die := 0, core := 0, ctx := 0, comp := 0, priv := 0, set := false, epoch := 0 }

/-- Register 8 of the CARR page of die 1. -/
def carrMaskAddr : BitVec 24 := BitVec.ofNat 24 (carrPg 1 * 512 + 8)

theorem carrMasked_admits :
    unitOf carrMasked.part (carrMaskAddr.toNat / 512) = some .carr ∧ carrMaskAddr.toNat % 512 = 8 ∧ clocked carrMasked = true ∧
    radmAdmits carrMasked (carrMaskAddr.toNat / 512) = true ∧ portReach carrMasked (carrMaskAddr.toNat / 512) = .ok ∧
    targetOk carrMasked (remoteStamp carrReader) (regAddr (carrMaskAddr.toNat / 512) (carrMaskAddr.toNat % 512)) .load = true := by
  decide

/-- The register holds 1. -/
theorem carrMasked_holds : rget carrMasked (carrMaskAddr.toNat / 512) 8 &&& readMask (UnitTy.carr.fields 8) = 1 := by decide

/-- The read shows the register of die 0, which is 0. -/
theorem carrMasked_shows : ∀ t, exec (.remoteRequest carrReader carrMaskAddr false 0) carrMasked = .next t → t.busReply.data = 0 := by
  have answer : (match exec (.remoteRequest carrReader carrMaskAddr false 0) carrMasked with
    | .next t => t.busReply.data
    | _ => 1) = 0 := by decide
  intro t ht
  rw [ht] at answer
  exact answer

/-- Refutes O30: the CARR page of a die shows IRQ_MASK as the CARR page of die 0 holds it, so a remote read of it at die 1 does not
answer the register that is there. -/
theorem not_registerRequests : ¬ Obligations.RegisterRequests := by
  intro holds
  obtain ⟨unit, off, clock, admits, reach, granted⟩ := carrMasked_admits
  obtain ⟨-, -, -, -, -, read, -⟩ := holds carrMasked carrReader carrMaskAddr 0 .carr clock
  obtain ⟨t, run, answered, -⟩ := read unit admits reach off granted
  have shown := carrMasked_shows t run
  rw [answered] at shown
  have held := carrMasked_holds
  rw [show (carrMaskAddr.toNat % 512) = 8 from off] at shown
  exact absurd (held.symm.trans shown) (by decide)

end Sys2Proof.Machine

namespace Sys2Proof.Machine
open Sys2Proof Sys2Proof.Machine
set_option Elab.async false

/-! ## What a read of die services leaves (R26, R32) -/

/-- The fields that a read writes. -/
abbrev Area.ofTouch : List Area := [.sweeps, .eccWb, .regs, .evTick, .events, .heatCnt, .heatDue, .slots]

theorem Within.mget {F : List Area} {s t : State} (w : Within F s t) (a : Nat) (hF : Area.mem ∉ F := by decide) :
    mget t a = Machine.mget s a := by
  unfold Machine.mget
  rw [w.mem hF]

theorem Within.memReach {s t : State} (w : Within Area.ofTouch s t) (a : Nat) : memReach t a = Machine.memReach s a := by
  rw [w.eq]
  rfl

/-- The registers that a word of memory moves: those of the external memory ports (R578). -/
def empRegs (p _ : Nat) : Prop := empPage p = true

theorem eccCorrected_emp (s : State) (a : Nat) : RegsKept s (eccCorrected s a) empRegs := by
  unfold eccCorrected
  cases e : empPgOf a with
  | none => exact .refl s _
  | some pg => exact RegsKept.trans (.rinc s 17 0 (by decide) (empPgOf_emp a pg e)) (.rset _ _ (by decide) (empPgOf_emp a pg e))

theorem eccLost_emp (s : State) (a : Nat) : RegsKept s (eccLost s a) empRegs := by
  unfold eccLost
  cases e : empPgOf a with
  | none => exact .refl s _
  | some pg =>
    have page := empPgOf_emp a pg e
    exact RegsKept.trans (.rinc s 17 0 (by decide) page) (.capture _ _ _ ⟨page, page, page⟩)

theorem readFor_emp (s : State) (d a : Nat) : RegsKept s (readFor s (.die d) a).2 empRegs := by
  refine (noteAccess_die s d a 1 _).trans ?_
  have queue : ∀ u, RegsKept u (queueWriteback u a) empRegs := fun u => .of_within (F := [.eccWb]) (queueWriteback_within (.refl u) ..) _
  show RegsKept (noteAccess s (.die d) a 1) (memRead (noteAccess s (.die d) a 1) a).2 empRegs
  unfold memRead
  dsimp only
  split
  · exact .refl _ _
  · exact (queue _).trans (eccCorrected_emp _ _)
  · exact eccLost_emp _ a

theorem readFor_fst (s : State) (d a : Nat) : (readFor s (.die d) a).1 =
    if (mget s a).ecc = .double then none else some ((mget s a).data, (mget s a).tag) := by
  have same : mget (noteAccess s (.die d) a 1) a = mget s a :=
    Within.mget (F := [.regs, .evTick, .events, .heatCnt, .heatDue, .slots]) (noteAccess_within (.refl s) ..) a
  unfold readFor memRead
  dsimp only
  rw [same]
  cases (mget s a).ecc <;> rfl

theorem readFor_touch (s : State) (d a : Nat) : Within Area.ofTouch s (readFor s (.die d) a).2 := readFor_within (.refl s) ..

/-! ## A revocation sweep (R121 to R128) -/

@[simp] theorem sweep_setSweep_same (s : State) (g : Nat) (w : Sweep) : sweep (setSweep s g w) g = w := by simp [sweep, setSweep]

@[simp] theorem sweep_rset (s : State) (pg off : Nat) (v : Word) (g : Nat) : sweep (rset s pg off v) g = sweep s g := rfl

@[simp] theorem sweep_irqPend (s : State) (pg b g : Nat) : sweep (irqPend s pg b) g = sweep s g := rfl

theorem Within.sweep {F : List Area} {s t : State} (w : Within F s t) (g : Nat) (hF : Area.sweeps ∉ F := by decide) :
    sweep t g = Machine.sweep s g := by
  unfold Machine.sweep
  rw [w.sweeps hF]

/-- The page of the sweeper is no page of an external memory port. -/
theorem swpPg_emp {g : Nat} (h : g < 32) : empPage (swpPg g) = false := by
  unfold empPage swpPg regionPg pkgPg pageNo
  exact decide_eq_false (by omega)

/-- Whether a capability is revoked, as the bitmap and its word say. -/
theorem revoked_of_look {s t : State} {g : Nat} (hg : g < 32) (w : Within Area.ofTouch s t) (kept : RegsKept s t empRegs) (x : Nat) :
    (revoked t g x).1 = (revoked s g x).1 := by
  have map : bitmapAt t g x = bitmapAt s g x := by
    have reg : ∀ o, o < 512 → rget t (swpPg g) o = rget s (swpPg g) o := fun o ho =>
      kept _ _ ho (by unfold empRegs; rw [swpPg_emp hg]; decide)
    unfold bitmapAt
    rw [reg 18 (by decide), reg 19 (by decide), reg 20 (by decide)]
  unfold revoked
  rw [map]
  cases bitmapAt s g x with
  | none => rfl
  | some p =>
    obtain ⟨a, b⟩ := p
    dsimp only
    rw [w.memReach]
    cases memReach s a with
    | ok =>
      have same : (readFor t (.die (g / 4)) a).1 = (readFor s (.die (g / 4)) a).1 := by rw [readFor_fst, readFor_fst, w.mget]
      dsimp only
      generalize readFor t (.die (g / 4)) a = r at same ⊢
      generalize readFor s (.die (g / 4)) a = q at same ⊢
      obtain ⟨v, r⟩ := r
      obtain ⟨u, q⟩ := q
      subst same
      cases v <;> rfl
    | unpopulated => rfl
    | isolated => rfl
    | down => rfl
    | parity => rfl

theorem mget_untagWord (s : State) (g a p : Nat) :
    mget (untagWord s g a) p = if p = a then { mget s a with tag := false, ecc := .good } else mget s p := by
  have same : ∀ q, mget (noteAccess s (.die (g / 4)) a (writeSlots s a)) q = mget s q := fun q =>
    Within.mget (F := [.regs, .evTick, .events, .heatCnt, .heatDue, .slots]) (noteAccess_within (.refl s) ..) q
  unfold untagWord
  dsimp only
  rw [same]
  generalize noteAccess s (.die (g / 4)) a (writeSlots s a) = u at same ⊢
  by_cases e : p = a
  · subst e
    rw [if_pos rfl, mget_mset_same]
  · rw [if_neg e, mget_mset_other _ _ e]
    exact same p

theorem sweepNext_keeps (s : State) (g : Nat) (w : Sweep) : (sweepNext s g w).on = w.on ∧ (sweepNext s g w).cleared = w.cleared ∧
    (w.addr + 2 < (g + 1) * 262144 → (sweepNext s g w).addr = w.addr + 2) := by
  unfold sweepNext
  split
  next last =>
    split <;> exact ⟨rfl, rfl, fun h => by omega⟩
  next => exact ⟨rfl, rfl, fun _ => rfl⟩

/-- The state t after the reads of a pair in s: memory and the cores are those of s, and the registers but those of external memory. -/
structure PairRead (s t : State) : Prop where
  touch : Within Area.ofTouch s t
  regs : RegsKept s t empRegs

theorem PairRead.of_reads (s : State) (g a : Nat) :
    PairRead s (readFor (readFor s (.die (g / 4)) a).2 (.die (g / 4)) (a + 1)).2 where
  touch := (readFor_touch s _ a).trans (readFor_touch _ _ _)
  regs := (readFor_emp s _ a).trans (readFor_emp _ _ _)

/-- The pair with both tags clear, and every other word as it was. -/
theorem mget_untagPair (s : State) (g a p : Nat) : mget (untagWord (untagWord s g a) g (a + 1)) p =
    if p = a ∨ p = a + 1 then { mget s p with tag := false, ecc := .good } else mget s p := by
  rw [mget_untagWord, mget_untagWord, mget_untagWord]
  by_cases first : p = a
  · subst first
    rw [if_neg (by omega), if_pos rfl, if_pos (.inl rfl)]
  · by_cases second : p = a + 1
    · subst second
      rw [if_pos rfl, if_neg first, if_pos (.inr rfl)]
    · rw [if_neg second, if_neg first, if_neg (by omega)]

/-- What the sweeper reads at a pair whose words can be corrected. -/
theorem pairRead_data {s : State} {a : Nat} (g : Nat) (h : (mget s a).ecc ≠ .double) (h' : (mget s (a + 1)).ecc ≠ .double) :
    (readFor s (.die (g / 4)) a).1 = some ((mget s a).data, (mget s a).tag) ∧
    (readFor (readFor s (.die (g / 4)) a).2 (.die (g / 4)) (a + 1)).1 = some ((mget s (a + 1)).data, (mget s (a + 1)).tag) := by
  refine ⟨by rw [readFor_fst, if_neg h], ?_⟩
  rw [readFor_fst, (readFor_touch s _ a).mget, if_neg h']

/-- The two words at a, as a capability that the sweeper judges. -/
def pairCap (s : State) (a : Nat) : Cap := { hi := (mget s a).data, lo := (mget s (a + 1)).data, tag := true }

/-- The pair at a is a capability whose base is revoked. -/
def deadPair (s : State) (g a : Nat) : Bool := ((mget s a).tag && (mget s (a + 1)).tag) && (revoked s g (pairCap s a).base).1

/-- The state t after the sweeper of region g has handled the pair at a, whose tags it clears where `dead`. -/
structure PairSwept (s t : State) (g a : Nat) (dead : Bool) (w : Sweep) : Prop where
  pair : ∀ p, mget t p = if dead = true ∧ (p = a ∨ p = a + 1) then { mget s p with tag := false, ecc := .good } else mget s p
  sweep : sweep t g = w
  cores : t.cores = s.cores

theorem PairSwept.kept {s u : State} {F : List Area} (w : Within F s u) (g a : Nat) (v : Sweep) (mem : Area.mem ∉ F := by decide)
    (cores : Area.cores ∉ F := by decide) : PairSwept s (setSweep u g v) g a false v where
  pair p := (w.mget p mem).trans (if_neg fun h => absurd h.1 (by decide)).symm
  sweep := sweep_setSweep_same ..
  cores := w.cores cores

theorem PairSwept.cleared {s u : State} {F : List Area} (w : Within F s u) (g a : Nat) (v : Sweep) (mem : Area.mem ∉ F := by decide)
    (cores : Area.cores ∉ F := by decide) : PairSwept s (setSweep (untagWord (untagWord u g a) g (a + 1)) g v) g a true v where
  pair p := by
    show mget (untagWord (untagWord u g a) g (a + 1)) p = _
    rw [mget_untagPair, w.mget p mem]
    exact if_congr ⟨fun h => ⟨rfl, h⟩, And.right⟩ rfl rfl
  sweep := sweep_setSweep_same ..
  cores := by
    have untag : Within [.mem, .eccWb, .regs, .evTick, .events, .heatCnt, .heatDue, .slots] u (untagWord (untagWord u g a) g (a + 1)) :=
      untagWord_within (untagWord_within (.refl u) ..) ..
    exact untag.cores.trans (w.cores cores)

/-- A pair of a sweep that judges by the bitmap (R121, R122). -/
theorem sweepPair_sweeps {s : State} {g : Nat} (hg : g < 32) (bitmap : (sweep s g).clearAll = false)
    (reach : memReach s (sweep s g).addr = .ok) (first : (mget s (sweep s g).addr).ecc ≠ .double)
    (second : (mget s ((sweep s g).addr + 1)).ecc ≠ .double) :
    PairSwept s (sweepPair s g) g (sweep s g).addr (deadPair s g (sweep s g).addr)
      (sweepNext s g (if deadPair s g (sweep s g).addr then { sweep s g with cleared := (sweep s g).cleared + 1 } else sweep s g)) := by
  have read := PairRead.of_reads s g (sweep s g).addr
  obtain ⟨hx, hy⟩ := pairRead_data g first second
  unfold sweepPair
  dsimp only
  rw [if_neg (not_not_intro reach), hx, hy]
  dsimp only
  have judge : ¬ (sweep s g).clearAll = true := by rw [bitmap]; decide
  simp only [if_neg judge]
  generalize (readFor (readFor s (.die (g / 4)) (sweep s g).addr).2 (.die (g / 4)) ((sweep s g).addr + 1)).2 = u at read ⊢
  unfold deadPair
  obtain ⟨touch, regs⟩ := read
  cases (mget s (sweep s g).addr).tag && (mget s ((sweep s g).addr + 1)).tag with
  | false =>
    rw [Bool.false_and, if_neg Bool.false_ne_true, if_neg Bool.false_ne_true]
    exact .kept touch g ..
  | true =>
    have judged : (revoked u g (pairCap s (sweep s g).addr).base).1 = _ := revoked_of_look hg touch regs _
    have after : Within (.badPorts :: .fresh :: Area.ofTouch) s (revoked u g (pairCap s (sweep s g).addr).base).2 :=
      revoked_within (touch.mono (by decide)) ..
    show PairSwept s (if (revoked u g (pairCap s (sweep s g).addr).base).1 then _ else _) g _ _ _
    rw [judged, Bool.true_and]
    cases (revoked s g (pairCap s (sweep s g).addr).base).1 with
    | false => exact .kept after g ..
    | true => exact .cleared after g ..

/-- A new request of the sweeper alone changes neither memory nor what is revoked. -/
theorem deadPair_setSweep {g : Nat} (hg : g < 32) (s : State) (w : Sweep) (a : Nat) : deadPair (setSweep s g w) g a = deadPair s g a := by
  have judged : (revoked (setSweep s g w) g (pairCap s a).base).1 = _ :=
    revoked_of_look hg (setSweep_within (.refl s) g w) (fun _ _ _ _ => rfl) _
  unfold deadPair
  rw [← judged]
  rfl

/-- Settles O31: START, a pair and the end of a sweep. -/
theorem sweeps : Obligations.Sweeps := by
  intro s region g pg w a works
  have hg : g < 32 := region.isLt
  have work (f : State → State) : unitDo s pg f = f s := unitDo_of_works works f
  have start (h : locked s pg = false) : execStart region s = done (sweepStart s g) :=
    congrArg done ((work _).trans (unlessLocked_open 4 _ h))
  have refused (cause : Nat) : Captured s (captureAt s pg cause 4) pg cause (regAddr pg 4) ∧ sweep (captureAt s pg cause 4) g = w :=
    ⟨(captureAt_only s pg cause 4).2, Within.sweep (F := Area.ofSignal) (capture_within (.refl s) ..) g⟩
  have turn (on : w.on = true) (going : sweepOver s g = false) : execSweepPair region s = done (sweepTurn s g) := by
    refine congrArg done ((work _).trans (if_pos ?_))
    rw [going]
    exact (Bool.and_true _).trans on
  refine ⟨fun h off fine => ?begin, fun h on => ?running, fun h off bad => ?badConfig, fun on going waits => ?waits,
    fun on bitmap going granted reach first second => ?pair, fun on bitmap ended => ?ends⟩
  case running => exact ⟨_, (start h).trans (congrArg done (if_pos on)), refused 9⟩
  case badConfig =>
    exact ⟨_, (start h).trans (congrArg done ((if_neg (by rw [off]; decide)).trans (if_pos bad))), refused 10⟩
  case waits => exact ⟨_, (turn on going).trans (congrArg done (if_neg (Bool.eq_false_iff.1 waits))), sweep_setSweep_same .., rfl⟩
  case begin =>
    have begins : sweepStart s g = _ := (if_neg (by rw [off]; decide)).trans (if_neg (by rw [fine]; decide))
    refine ⟨_, (start h).trans (congrArg done begins), ?_⟩
    dsimp only
    cases bit (rget s pg 4) 3 with
    | true =>
      rw [if_pos rfl, if_pos rfl]
      exact ⟨sweep_setSweep_same .., rfl, fun _ _ _ _ => rfl, rfl⟩
    | false =>
      rw [if_neg Bool.false_ne_true, if_neg Bool.false_ne_true]
      exact ⟨(sweep_rset ..).trans (sweep_setSweep_same ..), rget_rset_same _ pg 16 _, .rset _ _ (by decide) ⟨rfl, rfl⟩, rfl⟩
  case pair =>
    have swept := sweepPair_sweeps (s := setSweep s g { w with asked := none }) hg
      (by rw [sweep_setSweep_same]; exact bitmap) (by rw [sweep_setSweep_same]; exact reach)
      (by rw [sweep_setSweep_same]; exact first) (by rw [sweep_setSweep_same]; exact second)
    rw [sweep_setSweep_same, deadPair_setSweep hg] at swept
    have next := sweepNext_keeps (setSweep s g { w with asked := none }) g
    refine ⟨_, (turn on going).trans (congrArg done (if_pos granted)), ?_⟩
    change PairSwept _ _ g a (deadPair s g a) _ at swept
    show mget _ a = (if deadPair s g a then _ else _) ∧ mget _ (a + 1) = (if deadPair s g a then _ else _) ∧ _ ∧
      _ = w.cleared + (if deadPair s g a then 1 else 0) ∧ _
    rw [swept.sweep]
    generalize deadPair s g a = dead at swept ⊢
    cases dead with
    | true =>
      obtain ⟨keepsOn, keepsCleared, moves⟩ := next { w with asked := none, cleared := w.cleared + 1 }
      exact ⟨(swept.pair a).trans (if_pos ⟨rfl, .inl rfl⟩), (swept.pair _).trans (if_pos ⟨rfl, .inr rfl⟩),
        fun p h h' => (swept.pair p).trans (if_neg fun e => e.2.elim h h'), keepsCleared, keepsOn.trans on, moves,
        fun n h => by unfold ctxAt coreAt; rw [swept.cores]; rfl⟩
    | false =>
      obtain ⟨keepsOn, keepsCleared, moves⟩ := next { w with asked := none }
      exact ⟨(swept.pair a).trans (if_neg fun e => absurd e.1 (by decide)), (swept.pair _).trans (if_neg fun e => absurd e.1 (by decide)),
        fun p h h' => (swept.pair p).trans (if_neg fun e => e.2.elim h h'), keepsCleared, keepsOn.trans on, moves,
        fun n h => by unfold ctxAt coreAt; rw [swept.cores]; rfl⟩
  case ends =>
    have goes : execSweepEnd region s = done (irqPend (rset (rset (setSweep s g Sweep.init) pg 16 (rget s pg 16 + 1)) pg 23
        (fval 17 0 (min w.cleared 262143))) pg 1) := by
      refine congrArg done ((work _).trans ((if_pos ?_).trans ?_))
      · rw [ended]
        exact (Bool.and_true _).trans on
      · show irqPend (rset (if w.clearAll then _ else _) pg 23 _) pg 1 = _
        rw [bitmap]
        rfl
    have only (v x : Word) : irqPend (rset (rset (setSweep s g Sweep.init) pg 16 v) pg 23 x) pg 1 =
        { s.noted (irqPend (rset (rset (setSweep s g Sweep.init) pg 16 v) pg 23 x) pg 1) with
          sweeps := (irqPend (rset (rset (setSweep s g Sweep.init) pg 16 v) pg 23 x) pg 1).sweeps,
          regs := (irqPend (rset (rset (setSweep s g Sweep.init) pg 16 v) pg 23 x) pg 1).regs } := rfl
    refine ⟨_, goes, ?_, ?_, ?_, irqPend_pends _ pg (by decide), ?_, only _ _⟩
    · rw [sweep_irqPend, sweep_rset, sweep_rset, sweep_setSweep_same]
    · rw [rget_irqPend _ _ _ (by decide), if_neg (by omega), rget_rset _ _ (by decide) (by decide), if_neg (by omega), rget_rset_same]
    · rw [rget_irqPend _ _ _ (by decide), if_neg (by omega), rget_rset_same]
    · exact RegsKept.trans (.rset _ _ (by decide) ⟨rfl, .inl rfl⟩) (RegsKept.trans (.rset _ _ (by decide) ⟨rfl, .inr (.inl rfl)⟩)
        (.irqPend _ _ ⟨rfl, .inr (.inr rfl)⟩))

end Sys2Proof.Machine

namespace Sys2Proof.Machine
open Sys2Proof Sys2Proof.Machine
set_option Elab.async false

/-! ## Fields of words that are put together of fields -/

theorem fld_or (v w : Word) (hi lo : Nat) : fld (v ||| w) hi lo = fld v hi lo ||| fld w hi lo := by
  apply Nat.eq_of_testBit_eq
  intro i
  rw [Nat.testBit_or, testBit_fld, testBit_fld, testBit_fld, BitVec.getLsbD_or, Bool.and_or_distrib_left]

theorem fld_fval_same (v : Nat) {hi lo : Nat} (h : hi < 36) : fld (fval hi lo v) hi lo = v % 2 ^ (hi + 1 - lo) := by
  apply Nat.eq_of_testBit_eq
  intro i
  rw [testBit_fld, getLsbD_fval, Nat.testBit_mod_two_pow]
  by_cases inside : i < hi + 1 - lo
  · have low : lo ≤ lo + i ∧ lo + i ≤ hi := by omega
    have short : lo + i < 36 := by omega
    simp [inside, low, short]
  · simp [inside]

theorem fld_fval_other (v : Nat) {hi lo hi' lo' : Nat} (h : hi < lo' ∨ hi' < lo) : fld (fval hi' lo' v) hi lo = 0 := by
  apply Nat.eq_of_testBit_eq
  intro i
  rw [testBit_fld, getLsbD_fval, Nat.zero_testBit]
  by_cases inside : i < hi + 1 - lo
  · have outside : ¬ (lo' ≤ lo + i ∧ lo + i ≤ hi') := by omega
    by_cases low : lo' ≤ lo + i
    · simp [low, show ¬ lo + i ≤ hi' by omega]
    · simp [low]
  · simp [inside]

theorem bit_or (v w : Word) (b : Nat) : bit (v ||| w) b = (bit v b || bit w b) := BitVec.getLsbD_or

theorem bit_and (v w : Word) (b : Nat) : bit (v &&& w) b = (bit v b && bit w b) := BitVec.getLsbD_and

theorem bit_fval_same (v : Nat) {b : Nat} (h : b < 36) : bit (fval b b v) b = v.testBit 0 := by
  unfold bit
  rw [getLsbD_fval]
  simp [h]

theorem bit_fval_other (v : Nat) {hi lo b : Nat} (h : b < lo ∨ hi < b) : bit (fval hi lo v) b = false := by
  unfold bit
  rw [getLsbD_fval]
  rcases h with h | h
  · simp [show ¬ lo ≤ b by omega]
  · simp [show ¬ b ≤ hi by omega]

/-- The type of a capability that is made (Table 3.3). -/
theorem mkCap_otype (perm ty b len cur : Nat) : (mkCap perm ty b len cur).otype = ty % 64 := by
  show fld (mkCap perm ty b len cur).hi 23 18 = _
  unfold mkCap
  dsimp only
  rw [fld_or, fld_or, fld_or, fld_fval_other _ (by decide), fld_fval_same _ (by decide), fld_fval_other _ (by decide),
    fld_fval_other _ (by decide)]
  simp

end Sys2Proof.Machine

namespace Sys2Proof.Machine
open Sys2Proof Sys2Proof.Machine
set_option Elab.async false

/-! ## The words that an entry writes (R281) -/

/-- The fields that a write of memory changes. -/
abbrev Area.ofPut : List Area := [.mem, .eccWb, .regs, .evTick, .events, .heatCnt, .heatDue, .slots]

/-- t is s after writes of memory by core n, which move its counters (R256). -/
structure Wrote (n : Nat) (s t : State) : Prop where
  within : Within Area.ofPut s t
  regs : RegsKept s t (fun pg off => pg = corePg n ∧ off = 69)

theorem coreAt_of_cores {s t : State} (h : t.cores = s.cores) (m : Nat) : coreAt t m = coreAt s m := by
  unfold coreAt
  rw [h]

namespace Wrote
variable {n : Nat} {s t u : State}

theorem refl (n : Nat) (s : State) : Wrote n s s := ⟨.refl s, .refl s _⟩

theorem trans (p : Wrote n s t) (q : Wrote n t u) : Wrote n s u := ⟨p.within.trans q.within, p.regs.trans q.regs⟩

theorem core (w : Wrote n s t) (m : Nat) : coreAt t m = coreAt s m := coreAt_of_cores w.within.cores m

theorem ctx (w : Wrote n s t) (m k : Nat) : ctxAt t m k = ctxAt s m k := congrArg (fun c => Core.ctx c k) (w.core m)

/-- But for memory, writes leave what a fetch leaves. -/
theorem fetched (w : Wrote n s t) : Fetched n s { t with mem := s.mem } where
  frame := {
    rest := by
      rw [w.within.eq]
      rfl
    others := fun m _ => w.core m
    block := ⟨_, _, _, _, _, _, _, w.core n⟩
    regs := fun pg off ho hne _ => w.regs pg off ho (by omega) }
  dtlb := .of_cores w.within.cores

end Wrote

/-- An entry's word stays one that can be written while other words of the entry are. -/
theorem EntryWord.wrote {n h a : Nat} {s t : State} (w : Wrote n s t) (hn : n < 128) (e : EntryWord s n h a) : EntryWord t n h a := by
  obtain ⟨store, plain⟩ := e
  obtain ⟨translates, granted, there⟩ := w.fetched.reaches hn (by decide) store.reaches
  refine ⟨⟨translates, granted, there⟩, ?_⟩
  unfold marked
  rw [w.within.marks]
  exact plain

/-- The content of word p after writes of words. -/
def written (p : Nat) : List (Nat × Word × Bool) → MemWord → MemWord
  | [], v => v
  | w :: ws, v => written p ws (if w.1 = p then { data := w.2.1, tag := w.2.2, ecc := .good } else v)

theorem written_append (p : Nat) (xs ys : List (Nat × Word × Bool)) (v : MemWord) :
    written p (xs ++ ys) v = written p ys (written p xs v) := by
  induction xs generalizing v with
  | nil => rfl
  | cons x xs ih => exact ih _

theorem written_of_not_mem (p : Nat) (ws : List (Nat × Word × Bool)) (v : MemWord) (h : ∀ w ∈ ws, w.1 ≠ p) : written p ws v = v := by
  induction ws generalizing v with
  | nil => rfl
  | cons w ws ih =>
    refine (ih _ fun x hx => h x (.tail _ hx)).trans (if_neg (h w (.head _)))

/-- A write of every bit of a word. -/
theorem merge_whole (o w : Word) : (o &&& ~~~(~~~0)) ||| (w &&& ~~~0) = w := by
  have ones : (~~~0 : Word) = BitVec.allOnes 36 := rfl
  rw [ones, BitVec.not_allOnes, BitVec.and_zero, BitVec.zero_or, BitVec.and_allOnes]

/-- A word written to a page without marks. -/
theorem putFor_plain {s : State} {a : Nat} (g : Agent) (w : Word) (tag : Bool) (plain : marked s a = false) :
    let u := noteAccess s g a (writeSlots s a)
    putFor s g a w tag = mset { u with eccWb := u.eccWb.filter (fun b => b != a) } a { data := w, tag := tag, ecc := .good } := by
  intro u
  have noted : marked u a = marked s a := by
    unfold marked
    rw [(noteAccess_within (F := [.regs, .evTick, .events, .heatCnt, .heatDue, .slots]) (.refl s) ..).marks]
  unfold putFor memPut memWrite
  dsimp only
  rw [if_neg (by rw [← noted] at plain; exact Bool.eq_false_iff.1 plain), merge_whole]

theorem mget_putFor {s : State} {a : Nat} (g : Agent) (w : Word) (tag : Bool) (plain : marked s a = false) (p : Nat) :
    mget (putFor s g a w tag) p = if a = p then { data := w, tag := tag, ecc := .good } else mget s p := by
  rw [putFor_plain g w tag plain]
  by_cases e : a = p
  · rw [if_pos e, e, mget_mset_same]
  · rw [if_neg e, mget_mset_other _ _ (Ne.symm e)]
    exact Within.mget (F := [.regs, .evTick, .events, .heatCnt, .heatDue, .slots]) (noteAccess_within (.refl s) ..) p

theorem Wrote.putFor {s : State} {n a : Nat} (w : Word) (tag : Bool) (plain : marked s a = false) :
    Wrote n s (putFor s (.data n) a w tag) where
  within := putFor_within (.refl s) ..
  regs := fun pg off ho hne => by
    rw [putFor_plain _ w tag plain]
    exact rget_noteAccess_data s ho hne

/-- One word of an entry (R281). -/
theorem entryWrite_run {s : State} {n h : Nat} {w : Nat × Word × Bool} (e : EntryWord s n h w.1) :
    ∃ t, entryWrite n h w s = .ok () t ∧ Wrote n s t ∧ ∀ p, mget t p = written p [w] (mget s p) := by
  obtain ⟨store, plain⟩ := e
  have page := (memReach_ok_memory store.reaches.there).1
  refine ⟨putFor s (.data n) w.1 w.2.1 w.2.2, ?_, ?_, ?_⟩
  · refine (bind_ok store.reaches.resolve).trans ?_
    dsimp only
    rw [page]
    refine (get_bind _ s).trans ?_
    rw [store.reaches.there]
    exact (bind_ok store.reaches.granted.target).trans rfl
  · exact .putFor _ _ plain
  · exact mget_putFor _ _ _ plain

/-- The words of an entry, one after the other. -/
theorem entryWrites_run {s : State} {n h : Nat} (hn : n < 128) (ws : List (Nat × Word × Bool)) (e : ∀ w ∈ ws, EntryWord s n h w.1) :
    ∃ t, ws.forM (entryWrite n h) s = .ok () t ∧ Wrote n s t ∧ ∀ p, mget t p = written p ws (mget s p) := by
  induction ws generalizing s with
  | nil => exact ⟨s, rfl, .refl n s, fun _ => rfl⟩
  | cons w ws ih =>
    obtain ⟨t, first, wrote, words⟩ := entryWrite_run (e w (.head _))
    obtain ⟨u, rest, wroteRest, wordsRest⟩ := ih fun x hx => (e x (.tail _ hx)).wrote wrote hn
    refine ⟨u, (bind_ok first).trans rest, wrote.trans wroteRest, fun p => ?_⟩
    rw [wordsRest, words]
    rfl

/-! ## What an entry is made of (R273, R280, R281) -/

/-- A context whose loads and multiplications have completed and whose division is abandoned, as an entry finds it (R178, R182, R214). -/
def Ctx.settled (x : Ctx) : Ctx :=
  { x with w := x.landLoad.finishMuls.w, c := x.landLoad.finishMuls.c, mh := x.landLoad.finishMuls.mh,
           ml := x.landLoad.finishMuls.ml, muls := [], div := none, proofLoad := none }

theorem finishMuls_products (x : Ctx) : ∃ a b, x.finishMuls = { x with muls := [], mh := a, ml := b } := by
  have fold : ∀ (l : List MulState) (y : Ctx), ∃ a b, l.foldl (fun y m => { y with mh := m.mh, ml := m.ml }) y = { y with mh := a, ml := b } := by
    intro l
    induction l with
    | nil => exact fun y => ⟨y.mh, y.ml, rfl⟩
    | cons m l ih =>
      intro y
      obtain ⟨a, b, e⟩ := ih { y with mh := m.mh, ml := m.ml }
      exact ⟨a, b, e⟩
  exact fold x.muls { x with muls := [] }

/-- A context that waits for no load of Proof keeps all its registers but MH:ML. -/
theorem settled_products {x : Ctx} (landed : x.proofLoad = none) :
    ∃ a b, x.settled = { x with muls := [], mh := a, ml := b, div := none } := by
  have same : x.landLoad = x := by
    unfold Ctx.landLoad
    rw [landed]
  obtain ⟨a, b, e⟩ := finishMuls_products x
  refine ⟨a, b, ?_⟩
  unfold Ctx.settled
  rw [same, e, ← landed]

/-- The interrupted state that an entry saves (Table 6.3, Table 6.4). -/
def stateWords (s : State) (h : Nat) (x : Ctx) (ret : Cap) : List (Nat × Word × Bool) :=
  if x.fb then
    capWords (x.frameAt + 16) ret ++ untagged (x.frameAt + 18) (x.saveWords s h) ++ capWords (x.frameAt + 30) (x.cr 6) ++
    capWords (x.frameAt + 32) (x.cr 7) ++ untagged (x.frameAt + 34) ((List.range 24).map (fun i => x.wphys (200 + i)))
  else
    capWords (x.tsbBase + 2) ret ++ untagged (x.tsbBase + 4) (x.saveWords s h) ++ [(x.tsbBase + 15, fval 35 35 1, false)] ++
    capWords (x.tsbBase + 16) (x.cr 6) ++ capWords (x.tsbBase + 18) (x.cr 7)

/-- The words of the frame itself (R281). -/
def frameWords (s : State) (n h : Nat) (x : Ctx) (t : Trap) (perm : Nat) : List (Nat × Word × Bool) :=
  capWords x.frameAt (mkCap perm 60 x.frameAt x.frameSize (x.frameAt + x.priv)) ++
  untagged (x.frameAt + 2) [finfo t.vec t.vec h (t.comp.getD x.comp) t.cause x.fb false, fval 29 0 t.faddr, t.faux, 0,
    BitVec.ofNat 36 (coreAt s n).cyc]

/-- An entry that no condition of R280 stops. -/
def plannedEntry (s : State) (n h : Nat) (x : Ctx) (t : Trap) (ret : Cap) (perm : Nat) : EntryPlan :=
  { vec := t.vec, esc := false, frame := x.frameAt, size := x.frameSize, long := x.fb,
    writes := stateWords s h x ret ++ frameWords s n h x t perm }

theorem entryPlan_planned {s : State} {n h : Nat} {x : Ctx} {t : Trap} (ret : Cap) (perm : Nat)
    (level : 24 ≤ t.vec ∨ (t.vec ≠ 1 ∧ x.mlv.toNat < flvl s n t.vec))
    (stack : x.fsp.tag = true ∧ x.fsp.otype = 0 ∧ x.fsp.base + x.frameSize ≤ x.fsp.cursor)
    (handler : x.hcc.tag = true ∧ x.hcc.otype = 0 ∧ x.hcc.has .execute = true)
    (task : x.fb = false → x.tsp.tag = true ∧ x.tsp.otype = 58) :
    entryPlan s n h x t ret perm = .ok (plannedEntry s n h x t ret perm) := by
  obtain ⟨fspTag, fspType, room⟩ := stack
  obtain ⟨hccTag, -, executable⟩ := handler
  have noEscalation : ¬ (t.vec < 24 ∧ t.vec ≠ 1 ∧ flvl s n t.vec ≤ x.mlv.toNat) := by omega
  have inStack : ¬ (x.fsp.cursor < x.frameSize ∨ x.fsp.cursor - x.frameSize < x.fsp.base) := by omega
  have tasked : ¬ ((!x.fb) = true ∧ ((!x.tsp.tag) = true ∨ x.tsp.otype ≠ 58)) := by
    rintro ⟨short, bad⟩
    obtain ⟨tag, type⟩ := task (by simpa using short)
    simp [tag, type] at bad
  unfold entryPlan
  dsimp only
  rw [decide_eq_false noEscalation, if_neg (by simp), if_neg (by simp [fspTag, fspType])]
  exact (if_neg inStack).trans ((if_neg (by simp [hccTag, executable])).trans ((if_neg tasked).trans rfl))

theorem mem_capWords {a : Nat} {c : Cap} {w : Nat × Word × Bool} (h : w ∈ capWords a c) : a ≤ w.1 ∧ w.1 < a + 2 := by
  unfold capWords at h
  rcases List.mem_pair.1 h with rfl | rfl
  · exact ⟨Nat.le_refl _, Nat.lt_add_of_pos_right (by decide)⟩
  · exact ⟨Nat.le_add_right .., Nat.lt_succ_self _⟩

theorem mem_untagged {a : Nat} {ws : List Word} {w : Nat × Word × Bool} (h : w ∈ untagged a ws) : a ≤ w.1 ∧ w.1 < a + ws.length := by
  unfold untagged at h
  obtain ⟨⟨v, i⟩, inside, rfl⟩ := List.mem_map.1 h
  have := List.snd_lt_of_mem_zipIdx inside
  dsimp only at *
  omega

/-- The saved state lies in the task-state block, or in the long frame behind its first 16 words. -/
theorem mem_stateWords {s : State} {h : Nat} {x : Ctx} {ret : Cap} {w : Nat × Word × Bool} (m : w ∈ stateWords s h x ret) :
    (x.fb = true → x.frameAt + 16 ≤ w.1 ∧ w.1 < x.frameAt + 58) ∧ (x.fb = false → x.tsbBase + 2 ≤ w.1 ∧ w.1 < x.tsbBase + 20) := by
  have saved : (x.saveWords s h).length = 11 := rfl
  unfold stateWords at m
  cases fb : x.fb with
  | true =>
    rw [fb, if_pos rfl] at m
    refine ⟨fun _ => ?_, fun e => absurd e (by decide)⟩
    simp only [List.mem_append] at m
    rcases m with (((m | m) | m) | m) | m
    · have := mem_capWords m; omega
    · have := mem_untagged m; omega
    · have := mem_capWords m; omega
    · have := mem_capWords m; omega
    · have := mem_untagged m
      simp only [List.length_map, List.length_range] at this
      omega
  | false =>
    rw [fb, if_neg Bool.false_ne_true] at m
    refine ⟨fun e => absurd e (by decide), fun _ => ?_⟩
    simp only [List.mem_append, List.mem_singleton] at m
    rcases m with (((m | m) | rfl) | m) | m
    · have := mem_capWords m; omega
    · have := mem_untagged m; omega
    · dsimp only; omega
    · have := mem_capWords m; omega
    · have := mem_capWords m; omega

theorem mem_frameWords {s : State} {n h : Nat} {x : Ctx} {t : Trap} {perm : Nat} {w : Nat × Word × Bool}
    (m : w ∈ frameWords s n h x t perm) : x.frameAt ≤ w.1 ∧ w.1 < x.frameAt + 7 := by
  unfold frameWords at m
  rcases List.mem_append.1 m with m | m
  · have := mem_capWords m; omega
  · have := mem_untagged m
    simp only [List.length_cons, List.length_nil] at this
    omega

theorem EntryWord.of_ctx {s : State} {n h a : Nat} {y : Ctx} (fresh : Nat) (set : y.setB = (ctxAt s n h).setB)
    (comp : y.comp = (ctxAt s n h).comp) (e : EntryWord s n h a) : EntryWord { setCtx s n h y with fresh := fresh } n h a := by
  obtain ⟨⟨translates, granted, there⟩, plain⟩ := e
  have core : coreAt { setCtx s n h y with fresh := fresh } n = (coreAt s n).setCtx h y := coreAt_setCtx_same s n h y
  have ctx : ctxAt { setCtx s n h y with fresh := fresh } n h = y := ctxAt_setCtx_same s n h y
  have stamp : stampOf { setCtx s n h y with fresh := fresh } n h 0 = stampOf s n h 0 := by
    unfold stampOf
    dsimp only
    rw [show ∀ t, (coreAt t n).ctx h = ctxAt t n h from fun _ => rfl, ctx, core, set, comp]
    rfl
  refine ⟨⟨?_, ?_, there⟩, plain⟩
  · unfold Translates
    rw [core]
    exact translates
  · unfold Granted
    rw [stamp, ctx, core, set]
    exact granted

/-! ## An entry (R281) -/

theorem drainAll_empty {s : State} {n : Nat} (h : (coreAt s n).sb = []) : drainAll s n = s := by
  have one : drainOne s n = s := by
    unfold drainOne
    dsimp only
    rw [h]
  unfold drainAll
  simp only [drainAux, one]

/-- The fields that an entry writes. -/
abbrev Area.ofEntry : List Area := [.fresh, .mem, .eccWb, .regs, .evTick, .events, .cores, .heatCnt, .heatDue, .slots]

/-- The state v after an entry of context h of core n from state s, whose words are `ws` and whose handler's context is z. -/
structure EntryDone (n h : Nat) (s v : State) (ws : List (Nat × Word × Bool)) (z : Ctx) : Prop where
  words : ∀ p, mget v p = written p ws (mget s p)
  ctx : ctxAt v n h = z
  block : coreAt v n = { (coreAt s n).setCtx h z with
    pq := [], fetchStop := false, held := none, arrived := none, stall := none, midway := none, undo := none, fetchAt := none }
  others : ∀ m, m ≠ n → coreAt v m = coreAt s m
  regs : RegsKept s v (fun pg off => pg = corePg n ∧ 65 ≤ off ∧ off ≤ 73)
  within : Within Area.ofEntry s v

theorem Core.setCtx_setCtx (c : Core) (h : Nat) (x y : Ctx) : (c.setCtx h x).setCtx h y = c.setCtx h y := by
  unfold Core.setCtx
  rw [kset_kset]

/-- The end of an entry, after its words. -/
theorem EntryDone.of_wrote {n h : Nat} {s r u : State} {y : Ctx} {ws : List (Nat × Word × Bool)} (z : Ctx) (fresh : Nat)
    (start : r = { setCtx s n h y with fresh := fresh }) (w : Wrote n r u) (words : ∀ p, mget u p = written p ws (mget s p)) :
    EntryDone n h s (setCore (discardPq (setCtx u n h z) n h) n { coreAt (discardPq (setCtx u n h z) n h) n with
      held := none, arrived := none, stall := none, midway := none, undo := none, fetchAt := none }) ws z := by
  have begun : Within Area.ofEntry s r := by
    rw [start]
    exact Within.trans (setCtx_within (.refl s) n h y) (.after (t := setCtx s n h y) ⟨rfl, id⟩ (show [.fresh] ⊆ Area.ofEntry by decide) (.refl _))
  have own : coreAt u n = (coreAt s n).setCtx h y := by
    rw [w.core, start]
    exact coreAt_setCtx_same s n h y
  have other {m : Nat} (hm : m ≠ n) : coreAt u m = coreAt s m := by
    rw [w.core, start]
    exact coreAt_setCtx_other s h y hm
  have perfCores (t : State) (off k : Nat) : (perf t n h off k).cores = t.cores :=
    Within.cores (F := [.regs, .evTick, .events]) (perf_within (.refl t) ..)
  obtain ⟨q, hq⟩ : ∃ q, q = discardPq (setCtx u n h z) n h := ⟨_, rfl⟩
  have mem : q.mem = u.mem := by
    rw [hq]
    exact Within.mem (F := [.regs, .evTick, .events, .cores]) (discardPq_within (setCtx_within (.refl u) ..) ..)
  have ownAfter : coreAt q n = { (coreAt s n).setCtx h z with pq := [], fetchStop := false } := by
    rw [hq]
    unfold discardPq
    dsimp only
    rw [coreAt_of_cores (perfCores ..), coreAt_setCore_same, coreAt_setCtx_same, own, Core.setCtx_setCtx]
  have otherAfter {m : Nat} (hm : m ≠ n) : coreAt q m = coreAt s m := by
    rw [hq]
    unfold discardPq
    dsimp only
    rw [coreAt_of_cores (perfCores ..), coreAt_setCore_other _ _ hm, coreAt_setCtx_other _ _ _ hm, other hm]
  have regs : RegsKept s q (fun pg off => pg = corePg n ∧ 65 ≤ off ∧ off ≤ 73) := by
    intro pg off ho hne
    have before : rget u pg off = rget s pg off := by
      rw [w.regs pg off ho (by omega), start]
      rfl
    rw [hq]
    unfold discardPq
    dsimp only
    rw [rget_perf_other _ ho (by decide) (by omega)]
    exact before
  have withinAfter : Within Area.ofEntry s q := by
    rw [hq]
    exact discardPq_within (setCtx_within (begun.trans (w.within.mono (by decide))) ..) ..
  rw [← hq]
  exact {
    words := fun p => by
      rw [← words]
      unfold mget
      rw [← mem]
      rfl
    ctx := by
      unfold ctxAt
      rw [coreAt_setCore_same, ownAfter]
      exact Core.ctx_setCtx_same _ h z
    block := by
      rw [coreAt_setCore_same, ownAfter]
    others := fun m hm => (coreAt_setCore_other _ _ hm).trans (otherAfter hm)
    regs := regs
    within := setCore_within withinAfter .. }

/-- An entry that no condition of R280 stops, of a context that waits for no load of Proof. -/
theorem enter_run {s : State} {n h : Nat} (hn : n < 128) (t : Trap) (ret : Cap) (level : Nat) (can : CanEnter s n h t.vec)
    (landed : (ctxAt s n h).proofLoad = none) : ∃ v perm, enter n h t ret level s = .ok () v ∧
      EntryDone n h s v (stateWords s h (ctxAt s n h).settled ret ++ frameWords s n h (ctxAt s n h).settled t perm)
        ((ctxAt s n h).settled.entered (plannedEntry s n h (ctxAt s n h).settled t ret perm) level) := by
  obtain ⟨drained, above, stack, handler, task, frame, block, -⟩ := can
  obtain ⟨a, b, settled⟩ := settled_products landed
  obtain ⟨x, hx⟩ : ∃ x, x = ctxAt s n h := ⟨_, rfl⟩
  obtain ⟨y, hy⟩ : ∃ y, y = x.settled := ⟨_, rfl⟩
  obtain ⟨perm, hperm⟩ : ∃ perm, perm = (Config.freeValue 12 s.fresh).toNat := ⟨_, rfl⟩
  obtain ⟨r, hr⟩ : ∃ r, r = { setCtx s n h y with fresh := s.fresh + 1 } := ⟨_, rfl⟩
  have core : coreAt r n = (coreAt s n).setCtx h y := by rw [hr]; exact coreAt_setCtx_same s n h y
  have ctx : ctxAt r n h = y := by rw [hr]; exact ctxAt_setCtx_same s n h y
  rw [← hx] at settled stack handler task frame block above ⊢
  rw [← hy] at settled ⊢
  have samePlan : plannedEntry r n h y t ret perm = plannedEntry s n h y t ret perm := by
    unfold plannedEntry frameWords
    rw [core, hr]
    rfl
  have plan : entryPlan r n h y t ret perm = .ok (plannedEntry s n h y t ret perm) := by
    rw [← samePlan]
    have level : flvl r n t.vec = flvl s n t.vec := by rw [hr]; rfl
    rw [settled]
    exact entryPlan_planned ret perm (by rw [level]; exact above) stack handler task
  have all : ∀ w ∈ stateWords s h y ret ++ frameWords s n h y t perm, EntryWord r n h w.1 := by
    intro w m
    have sameWord {p : Nat} (e : EntryWord s n h p) : EntryWord r n h p := by
      rw [hr]
      exact e.of_ctx _ (by rw [settled, ← hx]) (by rw [settled, ← hx]; rfl)
    have sizes : y.frameAt = x.frameAt ∧ y.tsbBase = x.tsbBase ∧ y.fb = x.fb ∧ x.frameAt + x.frameSize = x.fsp.cursor := by
      refine ⟨by rw [settled]; rfl, by rw [settled]; rfl, by rw [settled]; rfl, ?_⟩
      unfold Ctx.frameAt
      omega
    obtain ⟨at_, base, bank, top⟩ := sizes
    have size : x.frameSize = if x.fb then 64 else 16 := rfl
    refine sameWord ?_
    rcases List.mem_append.1 m with m | m
    · obtain ⟨long, short⟩ := mem_stateWords m
      rw [at_, bank] at long
      rw [base, bank] at short
      cases fb : x.fb with
      | true =>
        rw [fb, if_pos rfl] at size
        have := long fb
        exact frame _ (by omega) (by omega)
      | false =>
        have := short fb
        exact block fb _ (by omega) (by omega)
    · have inside := mem_frameWords m
      rw [at_] at inside
      refine frame _ (by omega) ?_
      split at size <;> omega
  obtain ⟨u, ran, wrote, words⟩ := entryWrites_run hn _ all
  refine ⟨_, perm, ?_, .of_wrote _ _ hr wrote fun p => (words p).trans (by rw [hr]; rfl)⟩
  have begins : setCtx (drainAll s n) n h { ctxAt (drainAll s n) n h with
      w := x.landLoad.finishMuls.w, c := x.landLoad.finishMuls.c, mh := x.landLoad.finishMuls.mh,
      ml := x.landLoad.finishMuls.ml, muls := [], div := none, proofLoad := none } = setCtx s n h y := by
    rw [drainAll_empty drained, hy, ← hx]
    rfl
  unfold enter
  refine (upd_bind _ _ _).trans ?_
  dsimp only
  rw [← hx, begins]
  refine (act_bind _ _ _).trans ((get_bind _ _).trans ?_)
  dsimp only at hr ⊢
  have fresh : (setCtx s n h y).fresh = s.fresh := rfl
  rw [fresh, ← hr, ← hperm, ctx, plan]
  exact (bind_ok ran).trans rfl

/-! ### What the words of an entry are -/

theorem written_capWords (a : Nat) (c : Cap) (v : MemWord) :
    written a (capWords a c) v = { data := c.hi, tag := c.tag, ecc := .good } ∧
    written (a + 1) (capWords a c) v = { data := c.lo, tag := c.tag, ecc := .good } := by
  have apart : a + 1 ≠ a := by omega
  exact ⟨(if_neg apart).trans (if_pos rfl), if_pos rfl⟩

theorem written_untagged (a i : Nat) (ws : List Word) (v : MemWord) (h : i < ws.length) :
    written (a + i) (untagged a ws) v = { data := ws[i], tag := false, ecc := .good } := by
  have from_ : ∀ (ws : List Word) (k i : Nat) (v : MemWord) (h : i < ws.length),
      written (a + (k + i)) ((ws.zipIdx k).map (fun p => (a + p.2, p.1, false))) v = { data := ws[i], tag := false, ecc := .good } := by
    intro ws
    induction ws with
    | nil => exact fun k i v h => absurd h (by simp)
    | cons w ws ih =>
      intro k i v h
      cases i with
      | zero =>
        refine (written_of_not_mem _ _ (if a + k = a + (k + 0) then { data := w, tag := false, ecc := .good } else v) ?_).trans
          (if_pos rfl)
        intro x hx
        obtain ⟨⟨u, j⟩, inside, rfl⟩ := List.mem_map.1 hx
        have := List.le_snd_of_mem_zipIdx inside
        dsimp only at *
        omega
      | succ i =>
        have := ih (k + 1) i (if a + k = a + (k + (i + 1)) then { data := w, tag := false, ecc := .good } else v) (by simpa using h)
        rw [show k + 1 + i = k + (i + 1) by omega] at this
        exact this
  have := from_ ws 0 i v h
  rwa [Nat.zero_add] at this

theorem written_after {p : Nat} {xs ys : List (Nat × Word × Bool)} (v : MemWord) (h : ∀ w ∈ ys, w.1 ≠ p) :
    written p (xs ++ ys) v = written p xs v := by
  rw [written_append, written_of_not_mem p ys _ h]

/-- The words of the frame (R281). -/
theorem written_frameWords (s : State) (n h : Nat) (x : Ctx) (t : Trap) (perm : Nat) (v : MemWord) :
    let f := x.frameAt
    let ws := frameWords s n h x t perm
    let c := mkCap perm 60 f x.frameSize (f + x.priv)
    written f ws v = { data := c.hi, tag := c.tag, ecc := .good } ∧
    (written (f + 2) ws v).data = finfo t.vec t.vec h (t.comp.getD x.comp) t.cause x.fb false ∧
    (written (f + 3) ws v).data = fval 29 0 t.faddr ∧ (written (f + 4) ws v).data = t.faux ∧ (written (f + 5) ws v).data = 0 := by
  intro f ws c
  have info (i : Nat) (hi : i < 5) : written (f + (2 + i)) ws v = { data := [finfo t.vec t.vec h (t.comp.getD x.comp) t.cause x.fb false,
      fval 29 0 t.faddr, t.faux, 0, BitVec.ofNat 36 (coreAt s n).cyc][i], tag := false, ecc := .good } := by
    have := written_untagged (f + 2) i [finfo t.vec t.vec h (t.comp.getD x.comp) t.cause x.fb false,
      fval 29 0 t.faddr, t.faux, 0, BitVec.ofNat 36 (coreAt s n).cyc] (written (f + (2 + i)) (capWords f c) v) hi
    rw [show f + 2 + i = f + (2 + i) by omega] at this
    exact (written_append ..).trans this
  refine ⟨?_, congrArg MemWord.data (info 0 (by decide)), congrArg MemWord.data (info 1 (by decide)),
    congrArg MemWord.data (info 2 (by decide)), congrArg MemWord.data (info 3 (by decide))⟩
  refine (written_after v fun w m => ?_).trans (written_capWords f c v).1
  have := mem_untagged m
  omega

/-- Where the saved state begins: in the task-state block, or in the long frame (Table 6.3, Table 6.4). -/
def Ctx.savedAt (x : Ctx) : Nat := if x.fb then x.frameAt + 16 else x.tsbBase + 2

/-- The return address and the PSW among the saved state. -/
theorem written_stateWords (s : State) (h : Nat) (x : Ctx) (ret : Cap) (v : MemWord) :
    let p := x.savedAt
    let ws := stateWords s h x ret
    written p ws v = { data := ret.hi, tag := ret.tag, ecc := .good } ∧
    written (p + 1) ws v = { data := ret.lo, tag := ret.tag, ecc := .good } ∧
    ∀ i (hi : i < 11), written (p + 2 + i) ws v = { data := (x.saveWords s h)[i], tag := false, ecc := .good } := by
  intro p ws
  obtain ⟨rest, shape, far⟩ : ∃ rest, ws = capWords p ret ++ (untagged (p + 2) (x.saveWords s h) ++ rest) ∧ ∀ w ∈ rest, p + 13 ≤ w.1 := by
    have saved : (x.saveWords s h).length = 11 := rfl
    cases fb : x.fb with
    | true =>
      have at_ : p = x.frameAt + 16 := by show x.savedAt = _; unfold Ctx.savedAt; rw [fb, if_pos rfl]
      refine ⟨capWords (x.frameAt + 30) (x.cr 6) ++ (capWords (x.frameAt + 32) (x.cr 7) ++
        untagged (x.frameAt + 34) ((List.range 24).map (fun i => x.wphys (200 + i)))), ?_, fun w m => ?_⟩
      · show stateWords s h x ret = _
        unfold stateWords
        rw [fb, if_pos rfl, at_]
        simp only [List.append_assoc]
      · rcases List.mem_append.1 m with m | m
        · have := mem_capWords m; omega
        · rcases List.mem_append.1 m with m | m
          · have := mem_capWords m; omega
          · have := mem_untagged m; omega
    | false =>
      have at_ : p = x.tsbBase + 2 := by show x.savedAt = _; unfold Ctx.savedAt; rw [fb, if_neg Bool.false_ne_true]
      refine ⟨[(x.tsbBase + 15, fval 35 35 1, false)] ++ (capWords (x.tsbBase + 16) (x.cr 6) ++ capWords (x.tsbBase + 18) (x.cr 7)),
        ?_, fun w m => ?_⟩
      · show stateWords s h x ret = _
        unfold stateWords
        rw [fb, if_neg Bool.false_ne_true, at_]
        simp only [List.append_assoc]
      · rcases List.mem_append.1 m with m | m
        · obtain rfl := List.mem_singleton.1 m
          dsimp only
          omega
        · rcases List.mem_append.1 m with m | m
          · have := mem_capWords m; omega
          · have := mem_capWords m; omega
  have behind : ∀ w ∈ untagged (p + 2) (x.saveWords s h) ++ rest, p + 2 ≤ w.1 := by
    intro w m
    rcases List.mem_append.1 m with m | m
    · exact (mem_untagged m).1
    · have := far w m; omega
  obtain ⟨hi, lo⟩ := written_capWords p ret v
  rw [shape]
  refine ⟨(written_after v fun w m => by have := behind w m; omega).trans hi,
    (written_after v fun w m => by have := behind w m; omega).trans lo, fun i inside => ?_⟩
  rw [written_append, written_after _ fun w m => by have := far w m; omega]
  exact written_untagged _ _ _ _ inside

/-! ### The state after an entry -/

/-- What the handler's context is (R273, R277, R281). -/
theorem settled_entered {x : Ctx} {s : State} {n h perm level : Nat} {t : Trap} {ret : Cap} (landed : x.proofLoad = none)
    (above : 24 ≤ t.vec ∨ (t.vec ≠ 1 ∧ x.mlv.toNat < flvl s n t.vec)) (plain : x.hcc.otype = 0) :
    let z := x.settled.entered (plannedEntry s n h x.settled t ret perm) level
    z.pcc = x.hcc.move (x.vba.toNat + 8 * t.vec) ∧ z.psw = setBit (setFld (setBit x.psw 4 true) 1 0 0) 7 false ∧
    z.mlv = (if 24 ≤ t.vec then BitVec.ofNat 4 level else x.mlv) ∧ z.fsp = x.fsp.withCursor x.frameAt ∧ z.cr 6 = x.hdc ∧
    z.cr 7 = mkCap 0xD00 0 x.frameAt x.frameSize x.frameAt ∧ z.w = x.w ∧ (z.win = x.win ∧ z.ssp = x.ssp ∧ z.q = x.q) ∧
    z.div = none ∧ z.lates = x.lates ∧ z.st = x.st ∧ z.setB = x.setB := by
  intro z
  obtain ⟨a, b, settled⟩ := settled_products landed
  have vec : t.vec ≠ 1 := by omega
  obtain ⟨y, hy⟩ : ∃ y, y = x.settled := ⟨_, rfl⟩
  obtain ⟨p, hp⟩ : ∃ p, p = plannedEntry s n h y t ret perm := ⟨_, rfl⟩
  have shown : z = y.entered p level := by rw [hp, hy]
  rw [← hy] at settled
  have sizes : p.frame = x.frameAt ∧ p.size = x.frameSize ∧ p.vec = t.vec ∧ p.frame = y.frameAt := by
    rw [hp, settled]
    exact ⟨rfl, rfl, rfl, rfl⟩
  obtain ⟨frame, size, line, -⟩ := sizes
  obtain ⟨A, B, tasked⟩ : ∃ A B, (if p.long then y else y.setTsp (y.tsp.withCursor (y.tsp.cursor / 4 * 4 + y.priv))) =
      { y with tspA := A, tspB := B } := by
    unfold Ctx.setTsp
    split
    · exact ⟨y.tspA, y.tspB, rfl⟩
    · split
      · exact ⟨_, _, rfl⟩
      · exact ⟨_, _, rfl⟩
  obtain ⟨u, hu⟩ : ∃ u, u = (({ y with tspA := A, tspB := B } : Ctx).setC 6 y.hdc).setC 7 (mkCap handlerPerm 0 p.frame p.size p.frame) :=
    ⟨_, rfl⟩
  have handled : z = { u with
      fsp := y.fsp.withCursor p.frame, rsm0 := setFld y.rsm0 35 33 0, psw := setBit (setFld (setBit y.psw 4 true) 1 0 0) 7 false,
      mlv := if p.vec = 1 then 15 else if 24 ≤ p.vec then BitVec.ofNat 4 level else y.mlv,
      pcc := y.hcc.retarget (y.vba.toNat + 8 * p.vec), fresh := true, lastLoad := none, stepping := false, barrier := none } := by
    rw [shown, hu, ← tasked]
    rfl
  have kept : u = { y with tspA := A, tspB := B, c := u.c } := by rw [hu, Ctx.setC_frame, Ctx.setC_frame]
  have caps : u.cr 6 = y.hdc ∧ u.cr 7 = mkCap handlerPerm 0 p.frame p.size p.frame := by
    rw [hu, Ctx.cr_setC, Ctx.cr_setC, Ctx.cr_setC, if_neg (by decide), if_pos (by decide), if_pos (by decide)]
    exact ⟨rfl, rfl⟩
  rw [frame, size] at caps
  have target : x.hcc.retarget (x.vba.toNat + 8 * t.vec) = x.hcc.move (x.vba.toNat + 8 * t.vec) := by
    unfold Cap.retarget
    exact if_neg fun e => e.1 plain
  rw [handled, frame, line, if_neg vec]
  obtain ⟨C, hC⟩ : ∃ C, u.c = C := ⟨_, rfl⟩
  rw [hC] at kept
  subst kept
  subst settled
  exact ⟨target, rfl, rfl, rfl, caps.1, caps.2, rfl, ⟨rfl, rfl, rfl⟩, rfl, rfl, rfl, rfl⟩

/-- What memory holds after an entry of a context x (R274, R281). -/
theorem entered_words {s v : State} {n h perm : Nat} {t : Trap} {ret : Cap} {x : Ctx} (landed : x.proofLoad = none)
    (stack : x.fsp.base + x.frameSize ≤ x.fsp.cursor)
    (apart : x.fb = false → x.tsbBase + 32 ≤ x.frameAt ∨ x.fsp.cursor ≤ x.tsbBase)
    (words : ∀ p, mget v p = written p (stateWords s h x.settled ret ++ frameWords s n h x.settled t perm) (mget s p)) :
    let p := if x.fb then x.frameAt + 16 else x.tsbBase + 2
    (mget v x.frameAt).tag = true ∧ fld (mget v x.frameAt).data 23 18 = 60 ∧
    (mget v (x.frameAt + 2)).data = finfo t.vec t.vec h (t.comp.getD x.comp) t.cause x.fb false ∧
    (mget v (x.frameAt + 3)).data = fval 29 0 t.faddr ∧ (mget v (x.frameAt + 4)).data = t.faux ∧ (mget v (x.frameAt + 5)).data = 0 ∧
    (mget v p = { data := ret.hi, tag := ret.tag, ecc := .good } ∧ mget v (p + 1) = { data := ret.lo, tag := ret.tag, ecc := .good } ∧
      mget v (p + 2) = { data := pswOf s h x, tag := false, ecc := .good }) ∧
    ∀ a, (a < x.frameAt ∨ x.fsp.cursor ≤ a) → (x.fb = true ∨ a < x.tsbBase ∨ x.tsbBase + 32 ≤ a) → mget v a = mget s a := by
  intro p
  obtain ⟨a, b, settled⟩ := settled_products landed
  obtain ⟨y, hy⟩ : ∃ y, y = x.settled := ⟨_, rfl⟩
  rw [← hy] at settled words
  have sizes : y.frameAt = x.frameAt ∧ y.tsbBase = x.tsbBase ∧ y.fb = x.fb ∧ y.savedAt = p ∧ pswOf s h y = pswOf s h x ∧ y.comp = x.comp := by
    rw [settled]
    exact ⟨rfl, rfl, rfl, rfl, rfl, rfl⟩
  obtain ⟨at_, base, bank, savedAt, flags, comp⟩ := sizes
  have top : x.frameAt + x.frameSize = x.fsp.cursor := by unfold Ctx.frameAt; omega
  have room : x.frameSize = if x.fb then 64 else 16 := rfl
  have place : p = if x.fb then x.frameAt + 16 else x.tsbBase + 2 := rfl
  have framed (q : Nat) : mget v q = written q (frameWords s n h y t perm) (written q (stateWords s h y ret) (mget s q)) := by
    rw [words, written_append]
  have unframed {q : Nat} (out : q < x.frameAt ∨ x.frameAt + 7 ≤ q) : mget v q = written q (stateWords s h y ret) (mget s q) := by
    rw [framed, written_of_not_mem q (frameWords s n h y t perm)]
    intro w m
    have := mem_frameWords m
    omega
  have frame (q : Nat) := written_frameWords s n h y t perm (written q (stateWords s h y ret) (mget s q))
  have state (q : Nat) := written_stateWords s h y ret (mget s q)
  rw [at_, comp, bank] at frame
  rw [savedAt] at state
  have saved {i : Nat} (hi : i < 3) : mget v (p + i) = written (p + i) (stateWords s h y ret) (mget s (p + i)) := by
    refine unframed ?_
    cases fb : x.fb with
    | true => rw [fb, if_pos rfl] at place; omega
    | false =>
      rw [fb, if_neg Bool.false_ne_true] at place room
      have := apart fb
      omega
  refine ⟨?_, ?_, ?_, ?_, ?_, ?_, ⟨(saved (i := 0) (by decide)).trans (state _).1, (saved (i := 1) (by decide)).trans (state _).2.1, ?_⟩,
    fun q outside free => ?_⟩
  · rw [framed, (frame _).1]
    rfl
  · rw [framed, (frame _).1]
    exact mkCap_otype perm 60 x.frameAt y.frameSize (x.frameAt + y.priv)
  · exact (congrArg MemWord.data (framed _)).trans (frame _).2.1
  · exact (congrArg MemWord.data (framed _)).trans (frame _).2.2.1
  · exact (congrArg MemWord.data (framed _)).trans (frame _).2.2.2.1
  · exact (congrArg MemWord.data (framed _)).trans (frame _).2.2.2.2
  · rw [← flags]
    exact (saved (i := 2) (by decide)).trans ((state _).2.2 0 (by decide))
  · rw [unframed (by rw [room] at top; split at top <;> omega), written_of_not_mem]
    intro w m
    obtain ⟨long, short⟩ := mem_stateWords m
    rw [at_, bank] at long
    rw [base, bank] at short
    cases fb : x.fb with
    | true => have := long fb; rw [fb, if_pos rfl] at room; omega
    | false =>
      have := short fb
      have := free.resolve_left (by rw [fb]; decide)
      omega

/-- What an entry leaves. -/
theorem EntryDone.entered {s v : State} {n h : Nat} {t : Trap} {ret : Cap} {level perm : Nat} (can : CanEnter s n h t.vec)
    (landed : (ctxAt s n h).proofLoad = none)
    (e : EntryDone n h s v (stateWords s h (ctxAt s n h).settled ret ++ frameWords s n h (ctxAt s n h).settled t perm)
      ((ctxAt s n h).settled.entered (plannedEntry s n h (ctxAt s n h).settled t ret perm) level)) :
    Entered s v n h t.vec t.cause t.faddr t.faux ret (t.comp.getD (ctxAt s n h).comp) level := by
  obtain ⟨-, above, stack, handler, -, -, -, apart⟩ := can
  obtain ⟨pcc, psw, mlv, fsp, c6, c7, w, window, -⟩ := settled_entered (s := s) (n := n) (h := h) (t := t) (ret := ret) (perm := perm)
    (level := level) landed above handler.2.1
  obtain ⟨words, ctx, -, others, -, within⟩ := e
  obtain ⟨sealed_, type, info, addr, aux, radj, saved, memory⟩ := entered_words landed stack.2.2 apart words
  rw [← ctx] at pcc psw mlv fsp c6 c7 w window
  exact { pcc := pcc, psw := psw, mlv := mlv, fsp := fsp, c6 := c6, c7 := c7, window := window, saved := saved, memory := memory
          words := fun i _ => by unfold Ctx.wphys; rw [w]
          sealed := ⟨sealed_, type⟩, finfo := info, faddr := addr, faux := aux, radj := radj
          contexts := fun m k hm => congrArg (fun c => Core.ctx c k) (others m hm)
          state := ⟨within.safety, within.doms⟩ }

/-- The signal of the end of a debug step changes nothing of an entry (R665). -/
theorem Entered.irqPend {s v : State} {n h vec cause faddr : Nat} {faux : Word} {ret : Cap} {comp level : Nat}
    (e : Entered s v n h vec cause faddr faux ret comp level) (pg b : Nat) :
    Entered s (Machine.irqPend v pg b) n h vec cause faddr faux ret comp level :=
  { pcc := e.pcc, psw := e.psw, mlv := e.mlv, fsp := e.fsp, c6 := e.c6, c7 := e.c7, words := e.words, window := e.window
    sealed := e.sealed, finfo := e.finfo, faddr := e.faddr, faux := e.faux, radj := e.radj, saved := e.saved
    memory := e.memory, contexts := e.contexts, state := e.state }

/-- What an entry reads of the state it starts from. -/
structure EntryLike (n h : Nat) (s r : State) : Prop where
  ctx : ctxAt r n h = ctxAt s n h
  contexts : ∀ m k, m ≠ n → ctxAt r m k = ctxAt s m k
  mem : ∀ p, mget r p = mget s p
  state : r.safety = s.safety ∧ r.doms = s.doms
  sb : (coreAt r n).sb = (coreAt s n).sb
  level : ∀ vec, flvl r n vec = flvl s n vec
  word : ∀ a, EntryWord s n h a → EntryWord r n h a

namespace EntryLike
variable {n h : Nat} {s r t : State}

theorem trans (p : EntryLike n h s r) (q : EntryLike n h r t) : EntryLike n h s t where
  ctx := q.ctx.trans p.ctx
  contexts m k hm := (q.contexts m k hm).trans (p.contexts m k hm)
  mem a := (q.mem a).trans (p.mem a)
  state := ⟨q.state.1.trans p.state.1, q.state.2.trans p.state.2⟩
  sb := q.sb.trans p.sb
  level v := (q.level v).trans (p.level v)
  word a e := q.word a (p.word a e)

/-- The context is written back as it is, but for fields that no entry reads. -/
theorem of_setCtx (s : State) (n h : Nat) : EntryLike n h s (setCtx s n h (ctxAt s n h)) where
  ctx := ctxAt_setCtx_same ..
  contexts m k hm := ctxAt_setCtx_other _ _ fun e => hm e.1
  mem _ := rfl
  state := ⟨rfl, rfl⟩
  sb := by
    rw [coreAt_setCtx_same]
    rfl
  level _ := rfl
  word _ e := e.of_ctx s.fresh rfl rfl

theorem of_fetched (hn : n < 128) (f : Fetched n s r) : EntryLike n h s r where
  ctx := f.frame.ctx n h
  contexts m k _ := f.frame.ctx m k
  mem := SameRest.mget f.frame.rest
  state := by
    rw [f.frame.rest]
    exact ⟨rfl, rfl⟩
  sb := f.frame.sb
  level v := by
    have reg (o : Nat) (ho : 119 < o ∧ o < 123) : rget r (corePg n) o = rget s (corePg n) o :=
      f.frame.regs _ _ (by omega) (by omega) (empPage_of_lt ((corePg_lt hn).trans (by decide)))
    unfold flvl rfld
    rw [reg 120 (by decide), reg 121 (by decide), reg 122 (by decide)]
  word a e := by
    obtain ⟨store, plain⟩ := e
    obtain ⟨translates, granted, there⟩ := f.reaches hn (by decide) store.reaches
    refine ⟨⟨translates, granted, there⟩, ?_⟩
    unfold marked
    rw [f.frame.rest]
    exact plain

theorem canEnter (l : EntryLike n h s r) {vec : Nat} (c : CanEnter s n h vec) : CanEnter r n h vec := by
  obtain ⟨drained, level, stack, handler, task, frame, block, apart⟩ := c
  rw [← l.ctx] at level stack handler task frame block apart
  exact ⟨l.sb.trans drained, by rw [l.level]; exact level, stack, handler, task, fun a p q => l.word a (frame a p q),
    fun e a p q => l.word a (block e a p q), apart⟩

theorem entered (l : EntryLike n h s r) {v : State} {vec cause faddr : Nat} {faux : Word} {ret : Cap} {comp level : Nat}
    (e : Entered r v n h vec cause faddr faux ret comp level) : Entered s v n h vec cause faddr faux ret comp level := by
  obtain ⟨pcc, psw, mlv, fsp, c6, c7, words, window, sealed_, finfo, faddr, faux, radj, saved, memory, contexts, state⟩ := e
  have flags : pswOf r h (ctxAt s n h) = pswOf s h (ctxAt s n h) := by unfold pswOf; rw [l.state.1]
  rw [l.ctx] at pcc psw mlv fsp c6 c7 words window sealed_ finfo faddr faux radj saved memory
  rw [flags] at saved
  exact ⟨pcc, psw, mlv, fsp, c6, c7, words, window, sealed_, finfo, faddr, faux, radj, saved,
    fun a p q => (memory a p q).trans (l.mem a), fun m k hm => (contexts m k hm).trans (l.contexts m k hm),
    ⟨state.1.trans l.state.1, state.2.trans l.state.2⟩⟩

end EntryLike

/-- An entry that runs, with what a completed entry does besides. -/
theorem runEntry_run {s : State} {n h : Nat} (hn : n < 128) (t : Trap) (ret : Cap) (level : Nat) (fin : State → State)
    (can : CanEnter s n h t.vec) (landed : (ctxAt s n h).proofLoad = none) : ∃ v perm,
    runEntry s n h t ret level fin = (if (ctxAt s n h).stepping then irqPend (fin v) (pkgPg 3) 1 else fin v) ∧
    EntryDone n h s v (stateWords s h (ctxAt s n h).settled ret ++ frameWords s n h (ctxAt s n h).settled t perm)
      ((ctxAt s n h).settled.entered (plannedEntry s n h (ctxAt s n h).settled t ret perm) level) := by
  obtain ⟨v, perm, ran, done⟩ := enter_run hn t ret level can landed
  refine ⟨v, perm, ?_, done⟩
  unfold runEntry
  rw [ran]

/-- A precise fault or a trap enters its vector (R266, R273, R281). -/
theorem takeTrap_enters {s : State} {n h : Nat} (hn : n < 128) (t : Trap) (can : CanEnter s n h t.vec)
    (landed : (ctxAt s n h).proofLoad = none) :
    Entered s (takeTrap s n h t) n h t.vec t.cause t.faddr t.faux
      (if t.after then (ctxAt s n h).pcc.move ((ctxAt s n h).pcc.cursor + 1) else (ctxAt s n h).pcc) (t.comp.getD (ctxAt s n h).comp) 0 := by
  unfold takeTrap
  obtain ⟨v, perm, ran, done⟩ := runEntry_run hn t
    (if t.after then (ctxAt s n h).pcc.move ((ctxAt s n h).pcc.cursor + 1) else (ctxAt s n h).pcc) 0 (fun s => s) can landed
  rw [ran]
  split
  · exact (done.entered can landed).irqPend ..
  · exact done.entered can landed

end Sys2Proof.Machine

namespace Sys2Proof.Machine
open Sys2Proof Sys2Proof.Machine
set_option Elab.async false

/-! ## Instructions that trap (R266, R267) -/

/-- A ready core issues an instruction that raises a trap, in a state that its fetch leaves but for counters. -/
theorem Ready.enters {s s1 : State} {iss g : Iss} {h : Nat} {i : Insn} {t : Trap} (hr : Ready s g h) (core : g.core = iss.core)
    (ran : issueX iss.core.toNat h iss i (setCtx s iss.core.toNat h (ctxAt s iss.core.toNat h)) = .error (.trap t) s1)
    (f : Fetched iss.core.toNat (setCtx s iss.core.toNat h (ctxAt s iss.core.toNat h)) s1) (can : CanEnter s iss.core.toNat h t.vec) :
    let x := ctxAt s iss.core.toNat h
    ∃ v, issue s iss i = .next v ∧ Entered s v iss.core.toNat h t.vec t.cause t.faddr t.faux
      (if t.after then x.pcc.move (x.pcc.cursor + 1) else x.pcc) (t.comp.getD x.comp) 0 := by
  obtain ⟨issues, boundary, unloadedAt, -, -, -⟩ := hr
  have hn : iss.core.toNat < 128 := iss.core.isLt
  obtain ⟨n, en⟩ : ∃ n, n = iss.core.toNat := ⟨_, rfl⟩
  rw [core] at issues boundary unloadedAt
  rw [← en] at issues boundary unloadedAt ran f can hn ⊢
  intro x
  obtain ⟨atIt, notBlocked⟩ := issuer_boundary s n h issues boundary
  have live := (coreIssues_live s n h issues).2.2
  have unloaded : ({ ctxAt s n h with proofLoad := none } : Ctx) = ctxAt s n h := by rw [← unloadedAt]
  have same : ctxAt s1 n h = x := by rw [f.frame.ctx, ctxAt_setCtx_same]
  have unread : keepLoad x (ctxAt s1 n h) i.raw = ctxAt s1 n h := by
    unfold keepLoad
    rw [same, show x.proofLoad = none from unloadedAt]
    exact unloaded
  have like : EntryLike n h s (setCtx s1 n h (ctxAt s1 n h)) :=
    ((EntryLike.of_setCtx s n h).trans (.of_fetched hn f)).trans (.of_setCtx s1 n h)
  have enters := takeTrap_enters hn t (like.canEnter can) (by rw [like.ctx]; exact unloadedAt)
  rw [like.ctx] at enters
  refine ⟨_, ?_, like.entered enters⟩
  unfold issue issueState Machine.done
  rw [← en]
  dsimp only
  rw [atIt]
  dsimp only
  rw [unloaded, ran, notBlocked]
  dsimp only
  rw [live, unread]
  simp only [Bool.and_false, Bool.false_eq_true, if_false, Option.isSome_none]

/-- A decoded fault is raised before the guard is looked at (R163). -/
theorem issueX_of_decFault {s0 s1 : State} {iss : Iss} {n h : Nat} {i : Insn} {t : Trap} (hfetch : fetchIssue n h s0 = .ok () s1)
    (whole : (ctxAt s1 n h).rsmKind = 0) (hdec : i.dec s1 n h = some t) : issueX n h iss i s0 = .error (.trap t) s1 := by
  have decoded : decodeFault i s1 n h = some t := by
    unfold decodeFault
    simp only [whole, ne_eq, not_true_eq_false, false_and, if_false]
    exact hdec
  unfold issueX
  refine (bind_ok hfetch).trans ((get_bind _ s1).trans ?_)
  rw [decoded]
  rfl

/-- A ready core issues an instruction that its decoding refuses, whatever the guard. -/
theorem Ready.refuses {s : State} {iss g : Iss} {h : Nat} {i : Insn} {t : Trap} (hr : Ready s g h) (core : g.core = iss.core)
    (hdec : ∀ s1, ctxAt s1 iss.core.toNat h = ctxAt s iss.core.toNat h → i.dec s1 iss.core.toNat h = some t)
    (can : CanEnter s iss.core.toNat h t.vec) :
    let x := ctxAt s iss.core.toNat h
    ∃ v, issue s iss i = .next v ∧ Entered s v iss.core.toNat h t.vec t.cause t.faddr t.faux
      (if t.after then x.pcc.move (x.pcc.cursor + 1) else x.pcc) (t.comp.getD x.comp) 0 := by
  obtain ⟨s1, fetched⟩ := hr.fetched
  have whole := hr.whole
  rw [core] at fetched whole
  have f := Fetched.of_fetchIssue fetched
  have same : ctxAt s1 iss.core.toNat h = ctxAt s iss.core.toNat h := by rw [f.frame.ctx, ctxAt_setCtx_same]
  exact hr.enters core (issueX_of_decFault fetched (by rw [same]; exact whole) (hdec s1 same)) f can

/-- A ready core issues an instruction whose body raises a trap before it changes anything. -/
theorem Ready.traps {s : State} {iss : Iss} {h : Nat} {i : Insn} {t : Trap} (hr : Ready s iss h) (plain : i.dec = decNone)
    (hbody : ∀ s1, ctxAt s1 iss.core.toNat h = ctxAt s iss.core.toNat h → i.body iss.core.toNat h s1 = .error (.trap t) s1)
    (can : CanEnter s iss.core.toNat h t.vec) :
    let x := ctxAt s iss.core.toNat h
    ∃ v, issue s iss i = .next v ∧ Entered s v iss.core.toNat h t.vec t.cause t.faddr t.faux
      (if t.after then x.pcc.move (x.pcc.cursor + 1) else x.pcc) (t.comp.getD x.comp) 0 := by
  obtain ⟨s1, fetched⟩ := hr.fetched
  have f := Fetched.of_fetchIssue fetched
  have same : ctxAt s1 iss.core.toNat h = ctxAt s iss.core.toNat h := by rw [f.frame.ctx, ctxAt_setCtx_same]
  have decoded : decodeFault i s1 iss.core.toNat h = none := by
    unfold decodeFault
    rw [same, plain]
    simp only [hr.whole, ne_eq, not_true_eq_false, false_and, if_false]
    rfl
  have executed : executes iss (ctxAt s1 iss.core.toNat h) = true := by
    unfold executes
    rw [same, hr.guard, Bool.or_true]
  obtain ⟨n, en⟩ : ∃ n, n = iss.core.toNat := ⟨_, rfl⟩
  rw [← en] at fetched same decoded executed hbody f
  have counts : ∀ u off k, 65 ≤ off ∧ off ≤ 73 → Fetched n u (perf u n h off k) := fun u off k ho =>
    ⟨perf_keeps n h u off k ho, .of_cores (perf_within (F := Area.ofRead) (.refl u) ..).cores⟩
  have use : Fetched n s1 (loadUse (perf s1 n h 65 1) n h (ctxAt s1 n h) i.raw) := by
    refine (counts s1 65 1 (by decide)).trans ?_
    unfold loadUse
    split
    · exact ⟨.ite (counts _ 68 1 (by decide)).frame (.refl n _), .of_cores (by
        split
        · exact (perf_within (F := Area.ofRead) (.refl _) ..).cores
        · rfl)⟩
    · exact .refl n _
  have ran : issueX n h iss i (setCtx s n h (ctxAt s n h)) =
      .error (.trap t) (loadUse (perf s1 n h 65 1) n h (ctxAt s1 n h) i.raw) := by
    unfold issueX
    refine (bind_ok fetched).trans ((get_bind _ s1).trans ?_)
    rw [decoded]
    dsimp only
    rw [if_pos executed]
    have stopped : counted n h i s1 = .error (.trap t) (loadUse (perf s1 n h 65 1) n h (ctxAt s1 n h) i.raw) := by
      unfold counted
      rw [hbody s1 same]
    show EStateM.bind _ _ s1 = _
    unfold EStateM.bind
    rw [stopped]
  rw [en] at ran f use
  exact hr.enters rfl ran (f.trans use) can

/-- The low 32 bits of a word, as a field. -/
theorem fval_low_word (w : Word) : fval 31 0 (fld w 31 0) = w &&& 0xffffffff#36 := by
  have mask : (0xffffffff#36 : Word) = fmask 31 0 := by decide
  rw [mask]
  apply BitVec.eq_of_getLsbD_eq
  intro i hi
  rw [getLsbD_fval, testBit_fld, BitVec.getLsbD_and, getLsbD_fmask]
  simp only [hi, decide_true, Bool.true_and, Nat.zero_le, Nat.sub_zero, Nat.zero_add]
  by_cases low : i ≤ 31
  · simp [low, show i < 32 by omega]
  · simp [low]

theorem tryInsn_traps {raw : Word} {f : Ctx → Except Trap Ctx} {n h : Nat} {s : State} {t : Trap} (e : f (ctxAt s n h) = .error t) :
    (tryInsn raw f).body n h s = .error (.trap t) s := by
  refine (get_bind _ s).trans ?_
  rw [e]
  rfl

/-- TRAP, a reserved encoding, a division by 0 and an overflowing ADDV (R164, R168, R180, R212, R266, R267). -/
theorem trapsAndFaultsEnterTheirVectors : Rule.TrapsAndFaultsEnterTheirVectors := by
  intro s iss h k word d a b n x
  refine ⟨fun hr can => hr.traps rfl (fun s1 same => ?_) (t := { vec := 16 + k.toNat, cause := k.toNat, faddr := x.pcc.cursor, faux := 0, after := true }) can,
    fun hr can isReserved => ?_, fun hr can zero => ?_, fun hr can tooFar => ?_⟩
  · show EStateM.Result.error (Stop.trap ⟨16 + k.toNat, k.toNat, (ctxAt s1 iss.core.toNat h).pcc.cursor, 0, none, true⟩) s1 = _
    rw [same]
  · obtain ⟨v, issued, entered⟩ := hr.refuses (iss := { core := iss.core, q := BitVec.ofNat 3 (fld word 35 33), neg := bit word 32 })
      (i := { raw := word, kind := 0, dec := fun s n h => some (illegal (ctxAt s n h) word), brCost := 0, body := fun _ _ => return .seq })
      rfl (fun s1 same => congrArg (fun y => some (illegal y word)) same) can
    refine ⟨v, ?_, ?_⟩
    · exact (if_pos isReserved).trans issued
    · rw [← fval_low_word]
      exact entered
  · have divides (fn : Nat) (val : Word → Int) (none : val 0 = 0) : ∃ t, issue s iss (divOp fn val iss a b) = .next t ∧
        Entered s t n h 13 2 x.pcc.cursor 0 x.pcc x.comp 0 := by
      refine hr.traps (t := arithFault x 2) rfl (fun s1 same => ?_) can
      refine (get_bind _ s1).trans ?_
      dsimp only
      rw [same, show (ctxAt s iss.core.toNat h).wr b.toNat = 0 from zero, none]
      rfl
    exact ⟨divides 16 sval rfl, divides 17 _ rfl⟩
  · refine hr.traps (t := arithFault x 1) rfl (fun s1 same => tryInsn_traps ?_) can
    rw [same]
    exact if_pos ((overflows_add ..).trans tooFar)

/-- A privileged instruction below its privilege (R155, R163, R212). -/
theorem privilegeIsChecked : Rule.PrivilegeIsChecked := by
  intro s iss h a b n x hr can refused
  have checks (i : Insn) (fn level : Nat) (dec : i.dec = decPriv fn level) (low : level < x.priv) : ∃ t, issue s iss i = .next t ∧
      Entered s t n h 5 0 x.pcc.cursor (BitVec.ofNat 36 fn) x.pcc x.comp 0 := by
    refine hr.refuses (iss := iss) (t := privFault x fn) rfl (fun s1 same => ?_) can
    rw [dec]
    unfold decPriv
    rw [same]
    exact if_pos low
  exact ⟨fun low => ⟨checks _ 10 1 rfl low, checks _ 17 1 rfl low, checks _ 24 1 rfl low, checks _ 32 1 rfl low, checks _ 40 1 rfl low,
    checks _ 41 1 rfl low, checks _ 42 1 rfl low⟩, fun low => checks _ 18 0 rfl low⟩

/-! ## Annulled instructions (R162, R163) -/

/-- A ready core issues an instruction whose guard does not hold. -/
theorem Ready.skips {s : State} {iss g : Iss} {h : Nat} {i : Insn} (hr : Ready s g h) (core : g.core = iss.core)
    (annulled : ((ctxAt s iss.core.toNat h).qr iss.q.toNat == iss.neg) = true) (plain : ∀ s n h, i.dec s n h = none) :
    ∃ t, issue s iss i = .next t ∧ Ran s t iss.core.toNat h (ctxAt s iss.core.toNat h) := by
  obtain ⟨s1, fetched⟩ := hr.fetched
  obtain ⟨issues, boundary, unloadedAt, -, whole, -⟩ := hr
  rw [core] at issues boundary unloadedAt whole fetched
  have f := Fetched.of_fetchIssue fetched
  obtain ⟨n, en⟩ : ∃ n, n = iss.core.toNat := ⟨_, rfl⟩
  rw [← en] at issues boundary unloadedAt whole fetched f annulled ⊢
  obtain ⟨atIt, notBlocked⟩ := issuer_boundary s n h issues boundary
  have live := coreIssues_live s n h issues
  have same : ctxAt s1 n h = ctxAt s n h := by rw [f.frame.ctx, ctxAt_setCtx_same]
  have unloaded : ({ ctxAt s n h with proofLoad := none } : Ctx) = ctxAt s n h := by rw [← unloadedAt]
  have decoded : decodeFault i s1 n h = none := by
    unfold decodeFault
    rw [same]
    simp only [whole, ne_eq, not_true_eq_false, false_and, if_false]
    exact plain s1 n h
  have skipped : executes iss (ctxAt s1 n h) = false := by
    unfold executes
    rw [same, whole, bne, annulled]
    rfl
  have ran : issueX n h iss i (setCtx s n h (ctxAt s n h)) = .ok (false, .seq) s1 := by
    unfold issueX
    refine (bind_ok fetched).trans ((get_bind _ s1).trans ?_)
    rw [decoded]
    dsimp only
    rw [if_neg (by rw [skipped]; decide)]
    rfl
  have stage : (coreAt s1 n).mstage = none := by
    rw [(BodyFrame.of_fetch (h := h) f.frame).mstage, coreAt_setCtx_same]
    exact live.2.2
  have here : coreGone s1 n = false := by
    rw [(BodyFrame.of_fetch (h := h) f.frame).coreGone]
    exact coreGone_false s _ live.1
  have kept := keepUndo_none s1 n (ctxAt s n h) stage
  obtain ⟨u, after, ended⟩ := afterIssue_ended s1 n h i iss (ctxAt s n h) false .seq (by decide) unloadedAt (fun _ => by rw [same]; exact whole)
  rw [same] at after
  obtain ⟨quiet, signalled⟩ := issued_of_body _ f.frame (same ▸ BodyFrame.refl n h s1) after
  refine ⟨if (ctxAt s n h).stepping then irqPend u (pkgPg 3) 1 else u, ?_, ?_⟩
  · unfold issue issueState Machine.done
    rw [← en]
    dsimp only
    rw [atIt]
    dsimp only
    rw [unloaded, ran, notBlocked]
    dsimp only
    rw [here, live.2.2, kept, ended]
    simp only [Option.isSome_none, Bool.and_false, Bool.false_and, Bool.false_eq_true, if_false]
  · split
    · exact signalled
    · exact quiet

/-- An annulled instruction only advances (R162, R163). -/
theorem annulledInstructionsOnlyAdvance : Rule.AnnulledInstructionsOnlyAdvance := by
  intro s iss h d a b c e imm off k n x hr annulled
  have skip (i : Insn) (plain : ∀ s n h, i.dec s n h = none) : ∃ t, issue s iss i = .next t ∧ Ran s t n h x :=
    hr.skips rfl annulled plain
  simp only [List.forall_mem_cons]
  exact ⟨skip _ fun _ _ _ => rfl, skip _ fun _ _ _ => rfl, skip _ fun _ _ _ => rfl, skip _ fun _ _ _ => rfl, skip _ fun _ _ _ => rfl,
    skip _ fun _ _ _ => rfl, skip _ fun _ _ _ => rfl, skip _ fun _ _ _ => rfl, skip _ fun _ _ _ => rfl, skip _ fun _ _ _ => rfl,
    skip _ fun _ _ _ => rfl, skip _ fun _ _ _ => rfl, skip _ fun _ _ _ => rfl, skip _ fun _ _ _ => rfl, skip _ fun _ _ _ => rfl,
    skip _ fun _ _ _ => rfl, skip _ fun _ _ _ => rfl, skip _ fun _ _ _ => rfl, skip _ fun _ _ _ => rfl, skip _ fun _ _ _ => rfl,
    skip _ fun _ _ _ => rfl, skip _ fun _ _ _ => rfl, skip _ fun _ _ _ => rfl, skip _ fun _ _ _ => rfl, skip _ fun _ _ _ => rfl,
    skip _ fun _ _ _ => rfl, skip _ fun _ _ _ => rfl, skip _ fun _ _ _ => rfl, skip _ fun _ _ _ => rfl, skip _ fun _ _ _ => rfl,
    fun _ m => absurd m (by simp)⟩

/-- Settles O18: traps and faults, privilege, and annulment. -/
theorem trapsPrivilegeAndAnnulment : Obligations.TrapsPrivilegeAndAnnulment :=
  ⟨trapsAndFaultsEnterTheirVectors, privilegeIsChecked, annulledInstructionsOnlyAdvance⟩

end Sys2Proof.Machine

namespace Sys2Proof.Machine
open Sys2Proof Sys2Proof.Machine
set_option Elab.async false

/-! ## The entry to Mire releases what a debug token has halted (R611, R640) -/

/-- What every element of a list keeps holds after all of them. -/
theorem foldl_keeps {α β : Type} {P : α → Prop} {f : α → β → α} (keeps : ∀ t x, P t → P (f t x)) (l : List β) (s : α) (h : P s) :
    P (l.foldl f s) := by
  induction l generalizing s with
  | nil => exact h
  | cons x l ih => exact ih _ (keeps s x h)

/-- What one element of a list establishes and the others keep holds after all of them. -/
theorem foldl_settles {α β : Type} {P : α → Prop} {f : α → β → α} {a : β} (keeps : ∀ t x, P t → P (f t x)) (hit : ∀ t, P (f t a)) (l : List β)
    (m : a ∈ l) (s : α) : P (l.foldl f s) := by
  induction l generalizing s with
  | nil => cases m
  | cons x l ih =>
    rcases List.mem_cons.1 m with rfl | m
    · exact foldl_keeps keeps l _ (hit s)
    · exact ih m _

theorem released_halted (x : Ctx) : x.released.halted = false := by
  unfold Ctx.released
  dsimp only
  split <;> rfl

/-- Every context of the package has left its halt (R611). -/
theorem releaseHalted_runs (s : State) {m k : Nat} (hm : m < 16 * s.part.dies) (hk : k < 4) :
    (ctxAt (releaseHalted s) m k).halted = false := by
  have release (t : State) (n h : Nat) : (ctxAt t m k).halted = false →
      (ctxAt (if (ctxAt t n h).halted then setCtx t n h (ctxAt t n h).released else t) m k).halted = false := by
    intro runs
    split
    · by_cases e : m = n ∧ k = h
      · rw [e.1, e.2, ctxAt_setCtx_same]
        exact released_halted _
      · rw [ctxAt_setCtx_other _ _ e]
        exact runs
    · exact runs
  have frees (t : State) : (ctxAt (if (ctxAt t m k).halted then setCtx t m k (ctxAt t m k).released else t) m k).halted = false := by
    split
    · rw [ctxAt_setCtx_same]
      exact released_halted _
    next runs => exact Bool.eq_false_iff.2 runs
  have inCore (t : State) (n : Nat) (runs : (ctxAt t m k).halted = false) : (ctxAt ((List.range 4).foldl (fun s h =>
      if (ctxAt s n h).halted then setCtx s n h (ctxAt s n h).released else s) t) m k).halted = false :=
    foldl_keeps (P := fun u => (ctxAt u m k).halted = false) (fun u h => release u n h) _ t runs
  unfold releaseHalted
  refine foldl_settles (P := fun u => (ctxAt u m k).halted = false) (fun t n => inCore t n) (fun t => ?_) _ (List.mem_range.2 hm) s
  exact foldl_settles (P := fun u => (ctxAt u m k).halted = false) (fun u h => release u m h) frees _ (List.mem_range.2 hk) t

/-- Entering Mire changes no context but as the end of the token in force does. -/
theorem ctxAt_mireEnter {s : State} (cause die core : Nat) (out : s.safety ≠ .mire) (m k : Nat) :
    ctxAt (mireEnter s cause die core) m k = ctxAt (endToken s) m k := by
  obtain ⟨u, hu⟩ : ∃ u, u = rset (evPut { endToken s with safety := .mire } (pkgPg 0) 68 (fval 35 35 1)) (pkgPg 0) 68
    (fval 35 35 1 ||| fval 34 30 cause ||| fval 29 27 die ||| (if cause = 3 ∨ cause = 4 then fval 26 20 core else 0)) := ⟨_, rfl⟩
  have eq : mireEnter s cause die core = channelsSafe (freeAll (venStopAll u 7)) := by
    rw [hu]
    exact if_neg out
  have kept : Within [.regs, .evTick, .events, .reeds, .chans, .voters, .vens] u (channelsSafe (freeAll (venStopAll u 7))) :=
    channelsSafe_within (freeAll_within (venStopAll_within (.refl _) ..) ..) ..
  have cores : u.cores = (endToken s).cores := by
    have stored (t : State) (pg off : Nat) (w : Word) : (rset t pg off w).cores = t.cores := rfl
    have noted (t : State) (pg off : Nat) (w : Word) : (evPut t pg off w).cores = t.cores := rfl
    rw [hu, stored, noted]
  unfold ctxAt
  rw [eq, coreAt_of_cores kept.cores, coreAt_of_cores cores]

/-- A package in Run with a debug token in force, whose core 0 has halted context 1, and whose context 0 waits on a page in the entry
to a handler for longer than the hold limit. -/
def heldInDebug : State :=
  { State.reset with
    safety := .run
    part := .tfw2
    cores := [(0, { Core.init with
      ctxs := [(0, { Ctx.init with st := .ready }), (1, { Ctx.init with st := .ready, halted := true })]
      cyc := 70000
      held := some { va := 0, e2a := 0, since := 0, released := false, entry := true } })]
    carr := { State.reset.carr with token := some { state := 1, dieMask := 0, tgMask := 0, ranges := [], expires := 0 } } }

/-- The walk that context 0 has held too long, as the model describes it. -/
def heldEntry : HeldWalk := { va := 0, e2a := 0, since := 0, released := false, entry := true }

theorem heldInDebug_holds : coreIssues heldInDebug 0 = true ∧ (coreAt heldInDebug 0).cur = 0 ∧ (ctxAt heldInDebug 0 0).selectable = true ∧
    (coreAt heldInDebug 0).held = some heldEntry ∧ 65536 < (coreAt heldInDebug 0).cyc - heldEntry.since := by decide

theorem heldInDebug_halted : (ctxAt heldInDebug 0 1).halted = true := by decide

/-- The state from which the package enters Mire: the walk is gone. -/
def afterHold : State :=
  setCore (releaseWalk heldInDebug 0) 0 { coreAt heldInDebug 0 with held := none }

theorem afterHold_runs : afterHold.safety ≠ .mire := by decide

theorem heldInDebug_ends : exec (.holdLimitExpiry 0) heldInDebug = .next (mireEnter afterHold 4 0 0) := by
  obtain ⟨issues, current, selectable, held, tooLong⟩ := heldInDebug_holds
  have boundary : atBoundary heldInDebug 0 = some 0 := by
    unfold atBoundary
    rw [issues, Bool.true_or, current, if_pos ⟨rfl, selectable⟩]
  have passed : ¬ (heldEntry.released = true ∨ holdPassed heldInDebug 0 heldEntry.since = false) := by decide
  show execHoldLimitExpiry 0 heldInDebug = _
  unfold execHoldLimitExpiry
  rw [show ((0 : BitVec 7).toNat) = 0 from rfl]
  dsimp only
  rw [boundary, held]
  dsimp only
  rw [if_neg passed]
  rfl

theorem afterHold_released : (ctxAt (endToken afterHold) 0 1).halted = false := by
  obtain ⟨k, token⟩ : ∃ k, afterHold.carr.token = some k := ⟨_, rfl⟩
  have same (u : State) : ctxAt (rsetf u frzPg 16 26 26 0) 0 1 = ctxAt u 0 1 := rfl
  have size : 0 < 16 * afterHold.part.dies := by decide
  unfold endToken
  rw [token]
  dsimp only
  rw [same]
  exact releaseHalted_runs _ size (by decide)

/-- Refutes O19: a walk of an entry that is held too long takes the package to Mire, which ends the debug token in force, so a context
that was halted is halted no longer. -/
theorem not_interruptsLateErrorsAndReturns : ¬ Obligations.InterruptsLateErrorsAndReturns := by
  rintro ⟨-, -, limits, -⟩
  obtain ⟨issues, current, selectable, held, tooLong⟩ := heldInDebug_holds
  obtain ⟨t, run, -, -, kept, -⟩ := (limits heldInDebug 0 0 heldEntry issues current selectable held rfl tooLong).2 rfl
  have enters := Host.Outcome.next.inj (heldInDebug_ends.symm.trans run)
  have same := kept 0 1
  rw [← enters, ctxAt_mireEnter _ _ _ afterHold_runs] at same
  have released := afterHold_released
  rw [same, heldInDebug_halted] at released
  cases released

end Sys2Proof.Machine

namespace Sys2Proof.Machine
open Sys2Proof Sys2Proof.Machine
set_option Elab.async false

/-! ## RVPROBE and a bitmap whose port has noted a wrong parity (R35, R118, R129) -/

/-- A capability to the words 0 to 63. -/
def probedCap : Cap := mkCap 4095 0 0 64 0

/-- A package in Run whose context 0 of core 0 holds two capabilities with one base, whose bitmap lies in the bank of core 1, and whose
port of core 1 finds the next request with wrong parity. -/
def probed : State :=
  { State.reset with
    safety := .run
    part := .tfw2
    cores := [(0, { Core.init with
      setA := { RuleSet.init with st := .ready, fill := BitVec.allOnes 36 }
      ctxs := [(0, { Ctx.init with st := .ready, pcc := probedCap, c := [(1, probedCap), (2, probedCap)] })] })]
    regs := [(swpPg 0 * 512 + 18, 65536), (swpPg 0 * 512 + 20, 64)]
    badPorts := [1] }

def probeIss : Iss := { core := 0, q := 0, neg := false }

/-- What the fetch of RVPROBE leaves. -/
def probeFetched : State :=
  match fetchIssue 0 0 (setCtx probed 0 0 (ctxAt probed 0 0)) with
  | .ok _ t => t
  | .error _ t => t

theorem probed_fetches : fetchIssue 0 0 (setCtx probed 0 0 (ctxAt probed 0 0)) = .ok () probeFetched := by
  have ok : (match fetchIssue 0 0 (setCtx probed 0 0 (ctxAt probed 0 0)) with | .ok _ _ => true | .error _ _ => false) = true := by decide
  unfold probeFetched
  cases e : fetchIssue 0 0 (setCtx probed 0 0 (ctxAt probed 0 0)) with
  | ok a t => rfl
  | error a t =>
    rw [e] at ok
    cases ok

theorem probed_ready : Ready probed probeIss 0 where
  issues := by decide
  boundary := .inl (by decide)
  landed := by decide
  fetched := ⟨_, probed_fetches⟩
  whole := by decide
  guard := by decide

/-! ### No interrupt is due where no line is enabled (R268) -/

theorem lineFor_off {s : State} {n : Nat} (off : ∀ i, i < 40 → bit (route s n i) 35 = false) (h : Nat) : lineFor s n h = none := by
  have quiet : ∀ i ∈ List.range 40, (linePending s n i && decide (fld (route s n i) 34 33 = h ∧
      (ctxAt s n h).mlv.toNat < fld (route s n i) 32 29)) = false := by
    intro i hi
    unfold linePending
    dsimp only
    rw [off i (List.mem_range.1 hi)]
    rfl
  unfold lineFor
  rw [List.filter_eq_nil_iff.2 fun i hi => Bool.eq_false_iff.1 (quiet i hi)]
  rfl

theorem interruptDue_off {s : State} {n : Nat} (off : ∀ i, i < 40 → bit (route s n i) 35 = false) : interruptDue s n = none := by
  unfold interruptDue
  split
  · rfl
  · refine foldl_keeps (P := fun b : Option (Nat × Nat × Nat) => b = none) (fun b h none => ?_) _ _ rfl
    rw [none, lineFor_off off]
    dsimp only
    split <;> rfl

/-! ### The registers that a look at the bitmap writes -/

/-- The error registers of any page, and the pages of external memory. -/
def lookRegs (p o : Nat) : Prop := (o = 6 ∨ o = 7 ∨ o = 9) ∨ empPage p = true

theorem capture_look (s : State) (pg cause info : Nat) : RegsKept s (capture s pg cause info) lookRegs :=
  .capture s cause info ⟨.inl (.inl rfl), .inl (.inr (.inl rfl)), .inl (.inr (.inr rfl))⟩

/-- A port that no request has found with wrong parity stays so. -/
theorem portParity_look (s : State) (pa : Nat) : RegsKept s (portParity s pa) lookRegs ∧
    ((portParity s pa).badPorts = s.badPorts ∨ ∃ p, (portParity s pa).badPorts = s.badPorts.filter (fun q => q != p)) := by
  unfold portParity
  cases portOf pa with
  | none => exact ⟨.refl s _, .inl rfl⟩
  | some p =>
    obtain ⟨p, pg⟩ := p
    dsimp only
    refine ⟨RegsKept.trans (t := { s with fresh := s.fresh + 1, badPorts := s.badPorts.filter (fun q => q != p) }) (fun _ _ _ _ => rfl)
      (capture_look _ _ _ _), .inr ⟨p, ?_⟩⟩
    exact Within.badPorts (F := Area.ofSignal) (capture_within (.refl _) ..)

theorem reachRecord_look (s : State) (die pa : Nat) (r : Reach) : RegsKept s (reachRecord s die pa r) lookRegs ∧
    (s.badPorts = [] → (reachRecord s die pa r).badPorts = []) := by
  cases r with
  | ok => exact ⟨.refl s _, id⟩
  | isolated => exact ⟨.refl s _, id⟩
  | unpopulated | down =>
    exact ⟨capture_look _ _ _ _, (Within.badPorts (F := Area.ofSignal) (capture_within (.refl s) ..)).trans⟩
  | parity =>
    obtain ⟨regs, ports⟩ := portParity_look s pa
    refine ⟨regs, fun none => ?_⟩
    show (portParity s pa).badPorts = []
    rcases ports with e | ⟨p, e⟩
    · exact e.trans none
    · rw [e, none]
      rfl

/-- A look at the bitmap of a sweeper. -/
theorem revoked_look (s : State) (g x : Nat) : RegsKept s (revoked s g x).2 lookRegs ∧ (s.badPorts = [] → (revoked s g x).2.badPorts = []) := by
  have missed (a : Nat) : RegsKept s (capture (memMiss s (g / 4) a) (swpPg g) 8 a) lookRegs ∧
      (s.badPorts = [] → (capture (memMiss s (g / 4) a) (swpPg g) 8 a).badPorts = []) := by
    obtain ⟨regs, ports⟩ := reachRecord_look s (g / 4) a (if a / 134217728 = 1 then
      (if a / 16777216 % 8 = 0 ∨ a / 16777216 % 8 = 4 + s.stack.pos.toNat then portReach s (a / 512 % 32768) else .unpopulated)
      else memReach s a)
    exact ⟨RegsKept.trans (t := memMiss s (g / 4) a) regs (capture_look _ _ _ _), fun none =>
      (Within.badPorts (F := Area.ofSignal) (capture_within (.refl (memMiss s (g / 4) a)) ..)).trans (ports none)⟩
  unfold revoked
  cases bitmapAt s g x with
  | none => exact ⟨.refl s _, id⟩
  | some p =>
    obtain ⟨a, b⟩ := p
    dsimp only
    cases memReach s a with
    | ok =>
      have regs : RegsKept s (readFor s (.die (g / 4)) a).2 lookRegs := (readFor_emp s _ a).mono fun _ _ => .inr
      have ports : (readFor s (.die (g / 4)) a).2.badPorts = s.badPorts := (readFor_touch s _ a).badPorts
      dsimp only
      generalize readFor s (.die (g / 4)) a = r at regs ports ⊢
      obtain ⟨v, r⟩ := r
      cases v with
      | some v => exact ⟨regs, ports.trans⟩
      | none => exact ⟨RegsKept.trans (t := r) regs (capture_look _ _ _ _), fun e =>
          (Within.badPorts (F := Area.ofSignal) (capture_within (.refl r) ..)).trans (ports.trans e)⟩
    | unpopulated | isolated | down | parity => exact missed a

/-! ### The registers of core 0, one after the other -/

/-- A state t of the probe, after the first register of s has been tested: no port has noted a wrong parity, no interrupt line is
enabled, the bitmap is that of s, and the second register has its capability. -/
structure Probing (s t : State) : Prop where
  within : Within [.fresh, .eccWb, .regs, .evTick, .events, .cores, .heatCnt, .heatDue, .slots, .badPorts] s t
  regs : RegsKept s t lookRegs
  ports : t.badPorts = []
  core : ∃ c, coreAt t 0 = { coreAt s 0 with ctxs := c }
  second : (ctxAt t 0 0).cphys 2 = probedCap
  whole : (ctxAt t 0 0).rsm0 = (ctxAt s 0 0).rsm0

namespace Probing
variable {s t : State}

/-- A look at the bitmap leaves the registers of the core. -/
theorem look (p : Probing s t) (x : Nat) : Probing s (revoked t 0 x).2 where
  within := revoked_within p.within ..
  regs := p.regs.trans (revoked_look t 0 x).1
  ports := (revoked_look t 0 x).2 p.ports
  core := by
    obtain ⟨c, e⟩ := p.core
    have cores : (revoked t 0 x).2.cores = t.cores :=
      Within.cores (F := [.fresh, .eccWb, .regs, .evTick, .events, .heatCnt, .heatDue, .slots, .badPorts]) (revoked_within (.refl t) ..)
    exact ⟨c, (coreAt_of_cores cores 0).trans e⟩
  second := by
    have cores : (revoked t 0 x).2.cores = t.cores :=
      Within.cores (F := [.fresh, .eccWb, .regs, .evTick, .events, .heatCnt, .heatDue, .slots, .badPorts]) (revoked_within (.refl t) ..)
    unfold ctxAt
    rw [coreAt_of_cores cores]
    exact p.second
  whole := by
    have cores : (revoked t 0 x).2.cores = t.cores :=
      Within.cores (F := [.fresh, .eccWb, .regs, .evTick, .events, .heatCnt, .heatDue, .slots, .badPorts]) (revoked_within (.refl t) ..)
    unfold ctxAt
    rw [coreAt_of_cores cores]
    exact p.whole

/-- Another context of the core, or this one with its second register kept. -/
theorem setCtx (p : Probing s t) (h : Nat) (y : Ctx) (second : h = 0 → y.cphys 2 = probedCap)
    (whole : h = 0 → y.rsm0 = (ctxAt s 0 0).rsm0) : Probing s (setCtx t 0 h y) where
  within := setCtx_within p.within ..
  regs := p.regs
  ports := p.ports
  core := by
    obtain ⟨c, e⟩ := p.core
    rw [coreAt_setCtx_same, e]
    exact ⟨_, rfl⟩
  second := by
    by_cases e : h = 0
    · rw [e, ctxAt_setCtx_same]
      exact second e
    · rw [ctxAt_setCtx_other _ _ fun k => e k.2.symm]
      exact p.second
  whole := by
    by_cases e : h = 0
    · rw [e, ctxAt_setCtx_same]
      exact whole e
    · rw [ctxAt_setCtx_other _ _ fun k => e k.2.symm]
      exact p.whole

end Probing

/-- Clearing the tag of another register than the second of context 0. -/
theorem cphys_probeClear {x : Ctx} {kind i : Nat} (other : ¬ (kind = 0 ∧ i = 2)) :
    (x.probeClear kind i).cphys 2 = x.cphys 2 ∧ (x.probeClear kind i).rsm0 = x.rsm0 := by
  unfold Ctx.probeClear
  split
  next zero =>
    unfold Ctx.cphysSet
    split
    · exact ⟨rfl, rfl⟩
    · refine ⟨?_, rfl⟩
      unfold Ctx.cphys
      exact kget_kset_other _ _ _ fun e => other ⟨zero, e.symm⟩
  next => split <;> exact ⟨rfl, rfl⟩

/-! ### The run of the probe -/

theorem probedCap_base : probedCap.base = 0 := by decide

theorem probeFetched_bitmap : bitmapAt probeFetched 0 0 = some (65536, 0) ∧ unitReach probeFetched 65536 = .ok ∧
    mget probeFetched 65536 = { data := 0, tag := false, ecc := .good } := by decide

theorem probeFetched_lines : ∀ i < 40, bit (route probeFetched 0 i) 35 = false := by decide

namespace Probing
variable {t : State}

/-- The bitmap can be read by now, and does not revoke the second register's capability. -/
theorem spares (p : Probing probeFetched t) : (revoked t 0 probedCap.base).1 = false := by
  obtain ⟨place, reach, word⟩ := probeFetched_bitmap
  have reg : ∀ o, 18 ≤ o ∧ o ≤ 20 → rget t (swpPg 0) o = rget probeFetched (swpPg 0) o := fun o ho =>
    p.regs _ _ (by omega) (by rintro (h | h); omega; exact absurd h (by decide))
  have map : bitmapAt t 0 0 = some (65536, 0) := by
    rw [← place]
    unfold bitmapAt
    rw [reg 18 (by decide), reg 19 (by decide), reg 20 (by decide)]
  have reached : unitReach t 65536 = .ok := by
    rw [← reach, p.within.eq]
    rfl
  have there : memReach t 65536 = .ok := by
    unfold memReach
    rw [reached, p.ports]
    simp
  have held : mget t 65536 = { data := 0, tag := false, ecc := .good } := (p.within.mget 65536).trans word
  have read : (readFor t (.die (0 / 4)) 65536).1 = some (0, false) := by
    rw [readFor_fst, held]
    rfl
  unfold revoked
  rw [probedCap_base, map]
  dsimp only
  rw [there]
  dsimp only
  generalize readFor t (.die (0 / 4)) 65536 = r at read ⊢
  obtain ⟨v, r⟩ := r
  subst read
  rfl

theorem lines (p : Probing probeFetched t) : interruptDue t 0 = none := by
  refine interruptDue_off fun i hi => ?_
  rw [← probeFetched_lines i hi]
  unfold route
  rw [p.regs _ _ (by omega) (by rintro (h | h); omega; exact absurd h (by decide))]

/-- The test of a register, once the port has dropped what it has noted. -/
theorem one (p : Probing probeFetched t) (k : Nat) : Probing probeFetched (probeOne t 0 k) := by
  obtain ⟨h, kind, i, reg⟩ : ∃ h kind i, probeReg k = (h, kind, i) := ⟨_, _, _, rfl⟩
  unfold probeOne
  rw [reg]
  dsimp only
  have looked := p.look ((ctxAt t 0 h).probeGet kind i).base
  split
  · split
    next dead =>
      refine looked.setCtx h _ (fun own => ?_) fun own => ?_
      all_goals
        subst own
        have other : ¬ (kind = 0 ∧ i = 2) := by
          rintro ⟨rfl, rfl⟩
          have cap : (ctxAt t 0 0).probeGet 0 2 = probedCap := p.second
          rw [cap] at dead
          exact absurd (p.spares.symm.trans dead) (by decide)
      · rw [(cphys_probeClear other).1]
        exact looked.second
      · rw [(cphys_probeClear other).2]
        exact looked.whole
    next => exact looked
  · exact p

/-- The registers from index k on. -/
theorem loop (f k : Nat) (hf : k + f = 348) (p : Probing probeFetched t) :
    ∃ u, probeLoop 0 0 f k t = .ok () u ∧ Probing probeFetched u := by
  induction f generalizing k t with
  | zero => exact ⟨t, rfl, p⟩
  | succ f ih =>
    have tested := p.one k
    by_cases last : k + 1 < 348
    · have between := tested.setCtx 0 { ctxAt (probeOne t 0 k) 0 0 with fresh := false } (fun _ => tested.second) fun _ => tested.whole
      have goesOn : betweenWords 0 0 4 (k + 1) 0 (probeOne t 0 k) =
          .ok () (Machine.setCtx (probeOne t 0 k) 0 0 { ctxAt (probeOne t 0 k) 0 0 with fresh := false }) := by
        unfold betweenWords modCtx
        refine (upd_bind _ _ _).trans ((get_bind _ _).trans ?_)
        dsimp only
        rw [between.lines]
        rfl
      obtain ⟨u, rest, probing⟩ := ih (k + 1) (by omega) between
      refine ⟨u, ?_, probing⟩
      unfold probeLoop
      refine (upd_bind _ _ _).trans ?_
      rw [if_pos last]
      exact (bind_ok goesOn).trans rest
    · obtain rfl : f = 0 := by omega
      refine ⟨probeOne t 0 k, ?_, tested⟩
      unfold probeLoop
      refine (upd_bind _ _ _).trans ?_
      rw [if_neg last]
      rfl

end Probing

theorem probeFetched_first : (ctxAt probeFetched 0 0).probeGet 0 1 = probedCap ∧ (ctxAt probeFetched 0 0).cphys 2 = probedCap ∧
    memReach probeFetched 65536 = .parity ∧ probeFetched.badPorts = [1] ∧ portOf 65536 = some (1, bankPg 1) := by decide

/-- The test of the first register meets the wrong parity, which counts as revoked, and the port has noted it no more (R35, R118). -/
theorem probeFirst_probing : Probing probeFetched (probeOne probeFetched 0 0) := by
  obtain ⟨cap, second, parity, noted, port⟩ := probeFetched_first
  obtain ⟨u, hu⟩ : ∃ u, u = { probeFetched with fresh := probeFetched.fresh + 1, badPorts := [] } := ⟨_, rfl⟩
  obtain ⟨v, hv⟩ : ∃ v, v = capture u (bankPg 1) (Config.freeValue 5 probeFetched.fresh).toNat 65536 := ⟨_, rfl⟩
  have missed : memMiss probeFetched (0 / 4) 65536 = v := by
    show reachRecord probeFetched 0 65536 (memReach probeFetched 65536) = v
    rw [parity]
    show portParity probeFetched 65536 = v
    unfold portParity
    rw [port, noted, hv, hu]
    rfl
  have look : revoked probeFetched 0 probedCap.base = (true, capture v (swpPg 0) 8 65536) := by
    unfold revoked
    rw [probedCap_base, probeFetched_bitmap.1]
    dsimp only
    rw [parity]
    exact congrArg (fun w => (true, capture w (swpPg 0) 8 65536)) missed
  have started : Within [.fresh, .badPorts] probeFetched u := by
    rw [hu]
    exact ⟨rfl, id⟩
  have within : Within ([.fresh, .badPorts] ++ Area.ofSignal) u (capture v (swpPg 0) 8 65536) := by
    rw [hv]
    exact capture_within (capture_within (.refl u) ..) ..
  have cores : (capture v (swpPg 0) 8 65536).cores = probeFetched.cores := within.cores.trans started.cores
  have probing : Probing probeFetched (capture v (swpPg 0) 8 65536) := {
    within := (started.mono (by decide)).trans (within.mono (by decide))
    regs := (RegsKept.of_within started _).trans (by
      rw [hv]
      exact RegsKept.trans (t := capture u (bankPg 1) (Config.freeValue 5 probeFetched.fresh).toNat 65536) (capture_look _ _ _ _)
        (capture_look _ _ _ _))
    ports := by
      have kept : (capture v (swpPg 0) 8 65536).badPorts = u.badPorts := by
        rw [hv]
        exact Within.badPorts (F := Area.ofSignal) (capture_within (capture_within (.refl u) ..) ..)
      rw [kept, hu]
    core := ⟨(coreAt probeFetched 0).ctxs, coreAt_of_cores cores 0⟩
    second := by
      unfold ctxAt
      rw [coreAt_of_cores cores]
      exact second
    whole := by
      unfold ctxAt
      rw [coreAt_of_cores cores] }
  unfold probeOne
  rw [show probeReg 0 = (0, 0, 1) from rfl]
  dsimp only
  rw [cap, if_pos (show probedCap.tag = true from rfl), show revoked probeFetched (0 / 4) probedCap.base = _ from look]
  dsimp only
  rw [if_pos rfl]
  obtain ⟨c2, r0⟩ := cphys_probeClear (x := ctxAt (capture v (swpPg 0) 8 65536) 0 0) (kind := 0) (i := 1) (by decide)
  exact probing.setCtx 0 _ (fun _ => c2.trans probing.second) fun _ => r0.trans probing.whole

/-- RVPROBE as an instruction of context 0 of core 0. -/
def probeInsn : Insn :=
  { raw := encR probeIss 4 0 0 0 32, kind := 4, dec := decPriv 32 1, brCost := 0,
    body := fun n h => do
      let s ← get
      let x := ctxAt s n h
      let k := (startAt x 0).1
      probeLoop n h (348 - k) k
      restoreRecord n h
      return .seq }

theorem probeFetched_core : (coreAt probeFetched 0).midway = none ∧ (coreAt probeFetched 0).mstage = none ∧
    coreGone probeFetched 0 = false ∧ (ctxAt probeFetched 0 0).rsmKind = 0 ∧ probeInsn.dec probeFetched 0 0 = none ∧
    (startAt (ctxAt probeFetched 0 0) 0).1 = 0 := by decide

theorem probeInsn_body : ∃ u, probeInsn.body 0 0 probeFetched = .ok .seq u ∧ Probing probeFetched u := by
  obtain ⟨midway, -, -, -, -, start⟩ := probeFetched_core
  obtain ⟨v, hv⟩ : ∃ v, v = probeOne probeFetched 0 0 := ⟨_, rfl⟩
  have begun : Probing probeFetched v := hv ▸ probeFirst_probing
  have first := begun.setCtx 0 { ctxAt v 0 0 with fresh := false } (fun _ => begun.second) fun _ => begun.whole
  obtain ⟨u, rest, probing⟩ := first.loop 347 1 rfl
  have goesOn : betweenWords 0 0 4 1 0 v = .ok () (setCtx v 0 0 { ctxAt v 0 0 with fresh := false }) := by
    unfold betweenWords modCtx
    refine (upd_bind _ _ _).trans ((get_bind _ _).trans ?_)
    dsimp only
    rw [first.lines]
    rfl
  have loop : probeLoop 0 0 348 0 probeFetched = .ok () u := by
    have more : 0 + 1 < 348 := by decide
    rw [show (348 : Nat) = 347 + 1 from rfl]
    unfold probeLoop
    refine (upd_bind _ _ _).trans ?_
    rw [if_pos more, ← hv]
    exact (bind_ok goesOn).trans rest
  have restored : restoreRecord 0 0 u = .ok () u := by
    have idle : (coreAt u 0).midway = none := by
      obtain ⟨c, e⟩ := probing.core
      rw [e]
      exact midway
    unfold restoreRecord
    show EStateM.Result.ok () _ = _
    dsimp only
    rw [idle]
  refine ⟨u, (get_bind _ _).trans ?_, probing⟩
  rw [start]
  exact (bind_ok loop).trans ((bind_ok restored).trans rfl)

/-- The second register keeps its capability. -/
theorem probed_keeps : ∃ t, exec (.rvprobe probeIss) probed = .next t ∧ (ctxAt t 0 0).cphys 2 = probedCap := by
  obtain ⟨-, stage, here, whole, dec, -⟩ := probeFetched_core
  obtain ⟨u, body, probing⟩ := probeInsn_body
  obtain ⟨c, core⟩ := probing.core
  have gone : coreGone u 0 = false := by
    rw [← here]
    exact coreGone_congr _ _ _ probing.within.safety probing.within.isol probing.within.dieRst probing.within.doms
  obtain ⟨v, frame, issued⟩ := issue_body probed_ready probed_fetches dec body (by decide) (by
      show (coreAt u 0).mstage = none
      rw [core]
      exact stage) gone (fun _ => by
      show fld (ctxAt u 0 0).rsm0 35 33 = 0
      rw [probing.whole]
      exact whole)
  have kept : (ctxAt v 0 0).cphys 2 = probedCap := by
    have ctx : ctxAt v 0 0 = _ := (frame.ctx 0 0).trans (ctxAt_landed ..)
    rw [ctx, show probeIss.core.toNat = 0 from rfl, ctxAt_setCtx_same]
    exact probing.second
  refine ⟨_, issued, ?_⟩
  split
  · exact kept
  · exact kept

/-- Refutes O20: a look at the bitmap whose request the port has found with wrong parity counts as revoked, and the port has then
dropped what it noted, so of two registers with one base the first loses its tag and the second keeps it. -/
theorem not_multiWordInstructions : ¬ Obligations.MultiWordInstructions := by
  rintro ⟨-, -, -, probe⟩
  obtain ⟨-, second, -⟩ := probeFetched_first
  have low : (ctxAt probed probeIss.core.toNat 0).priv ≤ 1 := by decide
  have lines : ∀ i, i < 40 → bit (route probed probeIss.core.toNat i) 35 = false := by decide
  obtain ⟨t, run, -, caps, -⟩ := probe probed probeIss 0 probed_ready low lines
  obtain ⟨u, ran, kept⟩ := probed_keeps
  have same : t = u := Host.Outcome.next.inj (run.symm.trans ran)
  have cleared := caps 0 2 (by decide) (by decide) (by decide)
  have tagged : ((ctxAt probed 0 0).cphys 2).tag = true ∧ (revoked probed (0 / 4) ((ctxAt probed 0 0).cphys 2).base).1 = true := by decide
  have lost : ((ctxAt t 0 0).cphys 2).tag = false := by
    rw [show (ctxAt t 0 0).cphys 2 = _ from cleared]
    show (((ctxAt probed 0 0).cphys 2).tag && !(revoked probed (0 / 4) ((ctxAt probed 0 0).cphys 2).base).1) = false
    rw [tagged.1, tagged.2]
    rfl
  rw [same, kept] at lost
  exact absurd lost (by decide)

end Sys2Proof.Machine

namespace Sys2Proof.Machine
open Sys2Proof Sys2Proof.Machine
set_option Elab.async false

/-! ## Pages of a region -/

/-- The unit of a page of a region. -/
theorem unitOf_regionPg (p : Part) {g o : Nat} (hg : g < 32) (ho : o < 64) :
    unitOf p (regionPg g o) = if g / 4 < p.dies then unitOfRegion p o else none := by
  have die : regionPg g o / 2048 = g / 4 := by unfold regionPg pageNo; omega
  have page : regionPg g o % 2048 = 64 * (1 + g % 4) + o := by unfold regionPg pageNo; omega
  have unit : regionPg g o % 2048 % 64 = o := by omega
  have dies : p.dies ≤ 8 := by cases p <;> decide
  unfold unitOf
  dsimp only
  rw [unit, die, page]
  by_cases inside : g / 4 < p.dies
  · rw [if_pos inside, if_pos inside]
    iterate 9 rw [if_neg (by omega)]
    exact if_pos ⟨by omega, by omega⟩
  · rw [if_neg inside, if_neg inside, if_neg (by omega)]

/-- A page that works is a page of a unit. -/
theorem unit_of_works {s : State} {pg : Nat} (works : unitWorks s pg = true) : ∃ u, unitOf s.part pg = some u := by
  unfold unitWorks pageReach at works
  cases e : unitOf s.part pg with
  | some u => exact ⟨u, rfl⟩
  | none =>
    rw [e] at works
    simp at works

theorem unitOf_corePg {s : State} {n : Nat} (hn : n < 128) (works : unitWorks s (corePg n) = true) :
    unitOf s.part (corePg n) = some .core := by
  obtain ⟨u, e⟩ := unit_of_works works
  unfold corePg at e ⊢
  rw [unitOf_regionPg _ (by omega) (by omega)] at e ⊢
  by_cases inside : n / 4 / 4 < s.part.dies
  · rw [if_pos inside]
    unfold unitOfRegion
    iterate 3 rw [if_neg (by omega)]
    rw [if_pos (by omega), if_pos (by omega)]
  · rw [if_neg inside] at e
    cases e

/-! ## Writes of registers by field (R13, R16) -/

/-- A write of a register whose fields are all RW. -/
theorem getLsbD_applyWrite_rw (fs : List Fld) (plain : ∀ f ∈ fs, f.acc = .rw) (old new : Word) (i : Nat) :
    (applyWrite fs old new).getLsbD i = if fs.any (fun f => decide (f.lo ≤ i) && decide (i ≤ f.hi)) then new.getLsbD i else old.getLsbD i := by
  unfold applyWrite
  induction fs generalizing old with
  | nil => rfl
  | cons f r ih =>
    rw [List.foldl_cons, ih (fun x hx => plain x (.tail _ hx)), List.any_cons, plain f (.head _)]
    dsimp only
    by_cases later : (r.any fun f => decide (f.lo ≤ i) && decide (i ≤ f.hi)) = true
    · rw [later, if_pos rfl, Bool.or_true, if_pos rfl]
    · rw [if_neg later, Bool.eq_false_iff.2 later, Bool.or_false, BitVec.getLsbD_or, BitVec.getLsbD_and, BitVec.getLsbD_not,
        BitVec.getLsbD_and, getLsbD_fmask]
      by_cases inside : (decide (f.lo ≤ i) && decide (i ≤ f.hi)) = true
      · rw [inside, if_pos rfl]
        by_cases wide : i < 36
        · simp [wide]
        · simp [wide, BitVec.getLsbD_of_ge new i (by omega)]
      · rw [if_neg inside, Bool.eq_false_iff.2 inside]
        by_cases wide : i < 36
        · simp [wide]
        · simp [wide, BitVec.getLsbD_of_ge old i (by omega)]

/-- A field reads the same in two words that agree on its bits. -/
theorem fld_congr {v w : Word} {hi lo : Nat} (h : ∀ i, lo ≤ i → i ≤ hi → v.getLsbD i = w.getLsbD i) : fld v hi lo = fld w hi lo := by
  apply Nat.eq_of_testBit_eq
  intro i
  rw [testBit_fld, testBit_fld]
  by_cases inside : i < hi + 1 - lo
  · rw [h _ (by omega) (by omega)]
  · simp [inside]

/-- A write that no lock and no bit of hardware touches. -/
theorem plainWrite_unlocked {s : State} {pg off : Nat} {u : UnitTy} (v : Word) (unit : unitOf s.part pg = some u)
    (unlocked : locked s pg = false) (still : wcMask (u.fields off) = 0) :
    plainWrite s pg off v = rset s pg off (applyWrite (u.fields off) (rget s pg off) v) := by
  unfold plainWrite writeFields
  rw [unit]
  dsimp only
  rw [unlocked, Bool.and_false, if_neg Bool.false_ne_true, still]
  simp

end Sys2Proof.Machine

namespace Sys2Proof.Machine
open Sys2Proof Sys2Proof.Machine
set_option Elab.async false

/-! ## Commands of the CORE page (R241, R257, R307, R310) -/

theorem evNow_rset (s : State) (pg off : Nat) (v : Word) (p o : Nat) : evNow (rset s pg off v) p o = evNow s p o := rfl

/-- The counters hold what the present fabric cycle has counted, and no other register changes. -/
theorem clearCounters_clears (s : State) (n : Nat) :
    Within [.regs] s (clearCounters s n) ∧ RegsKept s (clearCounters s n) (fun p off => p = corePg n ∧ (65 ≤ off ∧ off ≤ 73)) ∧
    ∀ off, 65 ≤ off → off ≤ 73 → rget (clearCounters s n) (corePg n) off = evNow s (corePg n) off := by
  have cleared : ∀ k ≤ 9, ∃ t, t = (List.range k).foldl (fun s k => rset s (corePg n) (65 + k) (evNow s (corePg n) (65 + k))) s ∧
      Within [.regs] s t ∧ (∀ p o, evNow t p o = evNow s p o) ∧
      RegsKept s t (fun p off => p = corePg n ∧ (65 ≤ off ∧ off ≤ 73)) ∧
      ∀ j < k, rget t (corePg n) (65 + j) = evNow s (corePg n) (65 + j) := by
    intro k
    induction k with
    | zero => exact fun _ => ⟨s, rfl, .refl s, fun _ _ => rfl, .refl s _, fun _ h => absurd h (by omega)⟩
    | succ k ih =>
      intro small
      obtain ⟨t, ht, within, now, kept, done⟩ := ih (by omega)
      refine ⟨rset t (corePg n) (65 + k) (evNow t (corePg n) (65 + k)), ?_, .rset within _ _ _ (by decide),
        fun p o => (evNow_rset ..).trans (now p o), kept.trans (.rset t _ (by omega) ⟨rfl, by omega, by omega⟩), fun j hj => ?_⟩
      · rw [List.range_succ, List.foldl_append, ← ht]
        rfl
      · rw [rget_rset _ _ (by omega) (by omega)]
        by_cases e : j = k
        · rw [if_pos ⟨rfl, by rw [e]⟩, now, e]
        · rw [if_neg (by omega)]
          exact done j (by omega)
  obtain ⟨t, ht, within, -, kept, done⟩ := cleared 9 (Nat.le_refl 9)
  have same : clearCounters s n = t := ht.symm
  rw [same]
  refine ⟨within, kept, fun off low high => ?_⟩
  have := done (off - 65) (by omega)
  rwa [show 65 + (off - 65) = off by omega] at this

/-- TTB takes its fields (R310). -/
theorem ttb_takes {s : State} {n : Nat} (hn : n < 128) (works : unitWorks s (corePg n) = true) (unlocked : locked s (corePg n) = false)
    (v : Word) : ∃ w, plainWrite s (corePg n) 176 v = rset s (corePg n) 176 w ∧ bit w 35 = bit v 35 ∧ fld w 29 10 = fld v 29 10 := by
  have fields : UnitTy.core.fields 176 = [⟨35, 35, .rw, 0⟩, ⟨29, 10, .rw, 0⟩] := by decide
  have taken : ∀ i, (10 ≤ i ∧ i ≤ 29) ∨ i = 35 →
      (applyWrite (UnitTy.core.fields 176) (rget s (corePg n) 176) v).getLsbD i = v.getLsbD i := by
    intro i hi
    rw [fields, getLsbD_applyWrite_rw _ (by decide), if_pos]
    simp only [List.any_cons, List.any_nil, Bool.or_eq_true, Bool.and_eq_true, decide_eq_true_eq]
    omega
  exact ⟨_, plainWrite_unlocked v (unitOf_corePg hn works) unlocked (by decide), taken 35 (.inr rfl),
    fld_congr fun i low high => taken i (.inl ⟨low, high⟩)⟩

/-! ## Reads of a core page's engine -/

/-- What die services read for a unit of a core page: the words, and a state that the reads leave. -/
theorem physWords_reads (s : State) (die : Nat) (l : List Nat) (good : ∀ a ∈ l, memReach s a = .ok ∧ (mget s a).ecc ≠ .double) :
    ∃ t, physWords s die l = (some (l.map fun a => ((mget s a).data, (mget s a).tag)), t) ∧ PairRead s t := by
  have from_ : ∀ (l : List Nat) (ws : List (Word × Bool)) (u : State), PairRead s u →
      (∀ a ∈ l, memReach s a = .ok ∧ (mget s a).ecc ≠ .double) →
      ∃ t, l.foldl (fun r a => match r with
        | (none, s) => (none, s)
        | (some l, s) => if memReach s a = .ok then match readFor s (.die die) a with
          | (some w, s1) => (some (l ++ [w]), s1)
          | (none, s1) => (none, s1)
          else (none, memMiss s die a)) (some ws, u) = (some (ws ++ l.map fun a => ((mget s a).data, (mget s a).tag)), t) ∧ PairRead s t := by
    intro l
    induction l with
    | nil => exact fun ws u read _ => ⟨u, by rw [List.map_nil, List.append_nil]; rfl, read⟩
    | cons a l ih =>
      intro ws u read good
      obtain ⟨there, single⟩ := good a (.head _)
      have next : PairRead s (readFor u (.die die) a).2 := ⟨read.touch.trans (readFor_touch u _ a), read.regs.trans (readFor_emp u _ a)⟩
      have word : (readFor u (.die die) a).1 = some ((mget s a).data, (mget s a).tag) := by
        rw [readFor_fst, read.touch.mget, if_neg single]
      obtain ⟨t, run, done⟩ := ih (ws ++ [((mget s a).data, (mget s a).tag)]) _ next fun x hx => good x (.tail _ hx)
      refine ⟨t, ?_, done⟩
      rw [List.foldl_cons]
      dsimp only
      rw [read.touch.memReach, if_pos there]
      generalize readFor u (.die die) a = r at word run ⊢
      obtain ⟨w, r⟩ := r
      subst word
      dsimp only at run ⊢
      rw [run, List.map_cons, List.append_assoc]
      rfl
  obtain ⟨t, run, read⟩ := from_ l [] s ⟨.refl s, .refl s _⟩ good
  refine ⟨t, ?_, read⟩
  unfold physWords
  exact run

/-! ## CTXBIND START (R264, R350, R392) -/

theorem cursor_move_self (c : Cap) : (c.move c.cursor).cursor = c.cursor := by
  have short : c.cursor < 2 ^ 30 := fld_lt c.lo 29 0
  unfold Cap.move Cap.cursor
  rw [fld_setFld_same _ _ _ _ (by decide)]
  have same : (((fld c.lo 29 0 : Nat) : Int) % 2 ^ 30).toNat = fld c.lo 29 0 := by
    rw [Int.emod_eq_of_lt (by omega) (by unfold Cap.cursor at short; omega)]
    rfl
  rw [same]
  exact Nat.mod_eq_of_lt short

/-- What START makes of the block's words (Table 6.3). -/
theorem boundCtx_fields (v : Saved) (self : Cap) (b : Bool) :
    let y := boundCtx v self b
    y.st = .ready ∧ y.pcc = v.pcc.move v.pcc.cursor ∧ y.psw = v.word 0 &&& pswMask ∧ y.win = v.word 1 &&& 63#36 ∧ y.ssp = v.word 3 ∧
    y.setB = b ∧ y.tsp = (self.withType 58).withCursor (self.base + fld (v.word 0) 1 0) ∧ y.fsp = Cap.null ∧ ∀ i, y.wphys i = 0 := by
  have pcc : v.pcc.retarget (v.pcc.cursor + sval 0) = v.pcc.move v.pcc.cursor := by
    unfold Cap.retarget
    rw [show (v.pcc.cursor : Int) + sval 0 = v.pcc.cursor by simp [sval]]
    exact if_neg fun e => e.2 (cursor_move_self v.pcc)
  have six : fmask 5 0 = 63#36 := by decide
  have words : ∀ c : Ctx, c.w = [] → ∀ i, c.wphys i = 0 := by
    intro c none i
    unfold Ctx.wphys
    rw [none]
    exact ite_self _
  have ends : ∀ (x : Ctx) (k : Nat) (c : Cap), (x.cphysSet k c).w = x.w := fun x k c => by
    unfold Ctx.cphysSet
    split <;> rfl
  have none : ((Ctx.init.cphysSet 6 v.c6).cphysSet 7 v.c7).w = [] := (ends _ 7 v.c7).trans (ends _ 6 v.c6)
  cases b with
  | false | true => exact ⟨rfl, pcc, rfl, by rw [← six]; rfl, rfl, rfl, rfl, rfl, words _ none⟩

/-- The class of a compartment is read as before a look at memory. -/
theorem PairRead.compcls {s t : State} (r : PairRead s t) {d c : Nat} (hd : d < 8) (hc : c < 256) : compcls t d c = Machine.compcls s d c := by
  refine r.regs _ _ (by omega) fun emp => ?_
  unfold empRegs empPage sedgePg diePg pkgPg pageNo at emp
  have := of_decide_eq_true emp
  omega

theorem bindStart_starts {s : State} {n h a : Nat} {b : Bool} (hn : n < 128) (empty : (ctxAt s n h).st = .empty)
    (good : ∀ i, i < 20 → memReach s (a + i) = .ok ∧ (mget s (a + i)).ecc ≠ .double) (plain : marked s (a + 15) = false) :
    let ws := ((List.range 20).map fun i => a + i).map fun p => ((mget s p).data, (mget s p).tag)
    let comp := fld ((savedOf ws).word 0) 29 22
    selfOk (pairAt ws 0) = true → fld ((savedOf ws).word 0) 1 0 ≠ 3 → readySetOf (coreAt s n) comp = some b → placeOk s n comp = true →
    let t := bindStart s n h a
    ctxAt t n h = boundCtx (savedOf ws) (pairAt ws 0) b ∧
    (∀ p, mget t p = if a + 15 = p then { data := 0, tag := false, ecc := .good } else mget s p) ∧
    ∀ m k, ¬ (m = n ∧ k = h) → ctxAt t m k = ctxAt s m k := by
  intro ws comp valid priv image place t
  obtain ⟨u, read, look⟩ := physWords_reads s (n / 16) ((List.range 20).map fun k => a + k) (by
    intro p hp
    obtain ⟨i, hi, rfl⟩ := List.mem_map.1 hp
    exact good i (List.mem_range.1 hi))
  have comp256 : comp < 256 := fld_lt _ 29 22
  have placed : placeOk u n comp = true := by
    rw [← place]
    unfold placeOk
    rw [look.compcls (by omega) comp256]
  have core : coreAt u n = coreAt s n := coreAt_of_cores look.touch.cores n
  obtain ⟨r, hr⟩ : ∃ r, r = setCtx (putFor u (.data n) (a + 15) 0 false) n h (boundCtx (savedOf ws) (pairAt ws 0) b) := ⟨_, rfl⟩
  have starts : t = wakeCore r n := by
    show bindStart s n h a = _
    unfold bindStart
    rw [if_neg (not_not_intro empty), read]
    dsimp only
    rw [core, show readySetOf (coreAt s n) (fld ((savedOf ws).word 0) 29 22) = some b from image]
    dsimp only
    rw [if_neg, hr]
    rintro (bad | bad | bad)
    · rw [show selfOk (pairAt ws 0) = true from valid] at bad
      cases bad
    · rw [show placeOk u n (fld ((savedOf ws).word 0) 29 22) = true from placed] at bad
      cases bad
    · exact priv bad
  have woken : Within [.doms] r t := by
    rw [starts]
    exact wakeCore_within (.refl r) ..
  have unmarked : marked u (a + 15) = false := by
    unfold marked
    rw [look.touch.marks]
    exact plain
  have ctxs (m k : Nat) : ctxAt t m k = ctxAt r m k := congrArg (fun c => Core.ctx c k) (coreAt_of_cores woken.cores m)
  refine ⟨?_, fun p => ?_, fun m k other => ?_⟩
  · rw [ctxs, hr, ctxAt_setCtx_same]
  · rw [woken.mget, ← look.touch.mget p, ← mget_putFor (.data n) 0 false unmarked p, hr]
    rfl
  · rw [ctxs, hr, ctxAt_setCtx_other _ _ other]
    have cores : (putFor u (.data n) (a + 15) 0 false).cores = s.cores :=
      (Within.cores (F := Area.ofPut) (putFor_within (.refl u) ..)).trans look.touch.cores
    exact congrArg (fun c => Core.ctx c k) (coreAt_of_cores cores m)

/-! ## CTXBIND STOP (R264) -/

/-- A load of Proof that lands and the products that are written change only the registers of the context. -/
theorem landed_products (x : Ctx) : ∃ w c l a b,
    x.landLoad.finishMuls = { x with w := w, c := c, proofLoad := l, muls := [], mh := a, ml := b } := by
  obtain ⟨w, c, l, e⟩ : ∃ w c l, x.landLoad = { x with w := w, c := c, proofLoad := l } := by
    unfold Ctx.landLoad
    cases x.proofLoad with
    | none => exact ⟨x.w, x.c, x.proofLoad, rfl⟩
    | some p =>
      dsimp only
      unfold Ctx.cphysSet Ctx.wphysSet
      split
      · split <;> exact ⟨_, _, _, rfl⟩
      · split <;> exact ⟨_, _, _, rfl⟩
  obtain ⟨a, b, f⟩ := finishMuls_products x.landLoad
  exact ⟨w, c, l, a, b, by rw [f, e]⟩

theorem stopWords_eq {s : State} {h : Nat} {x : Ctx} (short : x.fb = false) : stopWords s h x = stateWords s h x x.pcc := by
  unfold stopWords stateWords
  rw [short, if_neg Bool.false_ne_true]

theorem bindStop_stops {s : State} {n h a : Nat} (hn : n < 128) (waiting : (ctxAt s n h).st = .waiting) (short : (ctxAt s n h).fb = false)
    (task : (ctxAt s n h).tsp.tag = true ∧ (ctxAt s n h).tsp.otype = 58) (drained : (coreAt s n).sb = []) (none : (ctxAt s n h).lates = [])
    (block : ∀ p, (ctxAt s n h).tsbBase ≤ p → p < (ctxAt s n h).tsbBase + 32 → EntryWord s n h p) :
    let y := (ctxAt s n h).landLoad.finishMuls
    let t := (bindStop s n h a).2
    ctxAt t n h = Ctx.init ∧ (∀ p, mget t p = written p (stateWords s h y y.pcc) (mget s p)) ∧
    ∀ m k, ¬ (m = n ∧ k = h) → ctxAt t m k = ctxAt s m k := by
  intro y t
  obtain ⟨w, c, l, p, q, same⟩ := landed_products (ctxAt s n h)
  have fields : y.fb = false ∧ y.tsp = (ctxAt s n h).tsp ∧ y.tsbBase = (ctxAt s n h).tsbBase := by
    show (ctxAt s n h).landLoad.finishMuls.fb = false ∧ (ctxAt s n h).landLoad.finishMuls.tsp = _ ∧ (ctxAt s n h).landLoad.finishMuls.tsbBase = _
    rw [same]
    exact ⟨short, rfl, rfl⟩
  obtain ⟨short, tsp, base⟩ := fields
  obtain ⟨u, ran, wrote, words⟩ := entryWrites_run hn (stopWords s h y) (by
    intro w m
    rw [stopWords_eq short] at m
    have := (mem_stateWords m).2 short
    exact block _ (by omega) (by omega))
  obtain ⟨r, hr⟩ : ∃ r, r = unitGoesOn (keepHeld s u n) n 2 := ⟨_, rfl⟩
  have ctxs (m k : Nat) : ctxAt r m k = ctxAt s m k := by
    rw [hr]
    unfold unitGoesOn keepHeld ctxAt
    by_cases e : m = n
    · subst e
      rw [coreAt_setCore_same, coreAt_setCore_same, wrote.core]
      rfl
    · rw [coreAt_setCore_other _ _ e, coreAt_setCore_other _ _ e, wrote.core]
  have clears : stopClear r n h = setCtx r n h Ctx.init := by
    unfold stopClear
    rw [ctxs, none]
    rfl
  have stops : t = setCtx r n h Ctx.init := by
    show (bindStop s n h a).2 = _
    rw [← clears, hr]
    unfold bindStop
    dsimp only
    rw [if_neg (not_not_intro waiting), if_neg (by rw [show (ctxAt s n h).landLoad.finishMuls.fb = false from short]; decide),
      if_neg (by
        rw [show (ctxAt s n h).landLoad.finishMuls.tsp = _ from tsp, task.1, task.2]
        decide), drainAll_empty drained, show List.forM (stopWords s h (ctxAt s n h).landLoad.finishMuls) (entryWrite n h) s = _ from ran]
  rw [stops]
  refine ⟨ctxAt_setCtx_same .., fun p => ?_, fun m k other => (ctxAt_setCtx_other _ _ other).trans (ctxs m k)⟩
  rw [← stopWords_eq short, ← words, hr]
  rfl

/-- The words that STOP writes (R264, Table 6.3). -/
theorem stopped_words {s : State} {h : Nat} {x : Ctx} (short : x.fb = false) (v : Nat → MemWord) :
    let y := x.landLoad.finishMuls
    let tb := x.tsbBase
    let t := fun p => written p (stateWords s h y y.pcc) (v p)
    t (tb + 2) = { data := x.pcc.hi, tag := x.pcc.tag, ecc := .good } ∧ t (tb + 3) = { data := x.pcc.lo, tag := x.pcc.tag, ecc := .good } ∧
    (t (tb + 4)).data = pswOf s h x ∧ (t (tb + 5)).data = x.win ∧ (t (tb + 7)).data = x.ssp ∧ bit (t (tb + 15)).data 35 = true ∧
    ∀ p, (p < tb ∨ tb + 32 ≤ p) → t p = v p := by
  intro y tb t
  obtain ⟨w, c, l, a, b, same⟩ := landed_products x
  have fields : y.fb = false ∧ y.tsbBase = tb ∧ y.savedAt = tb + 2 ∧ y.pcc = x.pcc ∧ pswOf s h y = pswOf s h x ∧ y.win = x.win ∧ y.ssp = x.ssp := by
    show x.landLoad.finishMuls.fb = false ∧ x.landLoad.finishMuls.tsbBase = _ ∧ x.landLoad.finishMuls.savedAt = _ ∧
      x.landLoad.finishMuls.pcc = _ ∧ pswOf s h x.landLoad.finishMuls = _ ∧ x.landLoad.finishMuls.win = _ ∧ x.landLoad.finishMuls.ssp = _
    rw [same]
    refine ⟨short, rfl, ?_, rfl, rfl, rfl, rfl⟩
    exact if_neg (by rw [show ({ x with w := w, c := c, proofLoad := l, muls := [], mh := a, ml := b } : Ctx).fb = false from short]; decide)
  obtain ⟨short', base, at_, pcc, flags, win, ssp⟩ := fields
  have state (p : Nat) := written_stateWords s h y y.pcc (v p)
  rw [at_, pcc] at state
  have words (i : Nat) (hi : i < 11) : t (tb + 2 + 2 + i) = { data := (y.saveWords s h)[i], tag := false, ecc := .good } := by
    show written _ (stateWords s h y y.pcc) _ = _
    rw [pcc]
    exact (state _).2.2 i hi
  refine ⟨?_, ?_, (congrArg MemWord.data (words 0 (by decide))).trans flags, (congrArg MemWord.data (words 1 (by decide))).trans win,
    (congrArg MemWord.data (words 3 (by decide))).trans ssp, ?_, fun p out => written_of_not_mem _ _ _ fun w m => ?_⟩
  · show written (tb + 2) (stateWords s h y y.pcc) _ = _
    rw [pcc]
    exact (state _).1
  · show written (tb + 2 + 1) (stateWords s h y y.pcc) _ = _
    rw [pcc]
    exact (state _).2.1
  · have last : t (tb + 15) = { data := fval 35 35 1, tag := false, ecc := .good } := by
      show written (tb + 15) (stateWords s h y y.pcc) _ = _
      unfold stateWords
      rw [short', if_neg Bool.false_ne_true, base, written_after _ fun w m => by have := mem_capWords m; omega,
        written_after _ fun w m => by have := mem_capWords m; omega, written_append]
      exact if_pos rfl
    rw [last]
    decide
  · have := (mem_stateWords m).2 short'
    omega

/-- Settles O32: the commands of the CORE page and CTXBIND. -/
theorem corePageCommands : Obligations.CorePageCommands := by
  intro s core ctx addr v b n h pg x a g pair comp self tb regs works
  have hn : n < 128 := core.isLt
  have work (f : State → State) : unitDo s pg f = f s := unitDo_of_works works f
  have refused (info : Nat) : Captured s (bindRefused s n info) pg 9 info ∧
      bindRefused s n info = { s.noted (bindRefused s n info) with regs := (bindRefused s n info).regs } :=
    ⟨captured_capture .., Within.noted (capture_within (.refl s) ..)⟩
  refine ⟨?ring, ?flush, ?clear, fun unlocked => ?ttb, fun empty good plain valid priv image place => ?start,
    fun busy => ⟨_, congrArg done ((work _).trans (if_pos busy)), refused a⟩,
    fun waiting short tag type drained none block => ?stop,
    fun other => ⟨_, congrArg done ((work _).trans (congrArg Prod.snd (if_pos other))), ⟨_, (refused 0).1⟩, (refused 0).2⟩⟩
  case ring =>
    refine ⟨irqPend s pg 1, congrArg done ((work _).trans rfl), ⟨.irqPend s 1 ⟨rfl, rfl⟩, rfl⟩, irqPend_pends s pg (by decide)⟩
  case flush => exact ⟨_, congrArg done ((work _).trans rfl), coreAt_setCore_same .., rfl⟩
  case clear =>
    obtain ⟨within, kept, cleared⟩ := clearCounters_clears s n
    exact ⟨_, congrArg done (work _), ⟨kept, Within.noted (within.mono (by decide))⟩, cleared⟩
  case ttb =>
    obtain ⟨w, takes, bit35, field⟩ := ttb_takes hn works unlocked v
    refine ⟨rset s pg 176 w, congrArg done ((work _).trans takes), rset_only s pg w (by decide), ?_, ?_⟩
    · rw [rget_rset_same]
      exact bit35
    · rw [rget_rset_same]
      exact field
  case start =>
    have saved : (savedOf (((List.range 20).map fun i => a + i).map fun p => ((mget s p).data, (mget s p).tag))).word 0 = g 4 ∧
        (savedOf (((List.range 20).map fun i => a + i).map fun p => ((mget s p).data, (mget s p).tag))).word 1 = g 5 ∧
        (savedOf (((List.range 20).map fun i => a + i).map fun p => ((mget s p).data, (mget s p).tag))).word 3 = g 7 ∧
        (savedOf (((List.range 20).map fun i => a + i).map fun p => ((mget s p).data, (mget s p).tag))).pcc = pair 2 ∧
        pairAt (((List.range 20).map fun i => a + i).map fun p => ((mget s p).data, (mget s p).tag)) 0 = self := ⟨rfl, rfl, rfl, rfl, rfl⟩
    obtain ⟨psw, win, ssp, pcc, own⟩ := saved
    obtain ⟨made, words, others⟩ := bindStart_starts hn empty good plain ((congrArg (fun c => selfOk c = true) own).mpr valid)
      ((congrArg (fun w => fld w 1 0 ≠ 3) psw).mpr priv) ((congrArg (fun w => readySetOf (coreAt s n) (fld w 29 22) = some b) psw).mpr image)
      ((congrArg (fun w => placeOk s n (fld w 29 22) = true) psw).mpr place)
    obtain ⟨st, pccOf, pswOf_, winOf, sspOf, setOf, tspOf, fspOf, none⟩ :=
      boundCtx_fields (savedOf (((List.range 20).map fun i => a + i).map fun p => ((mget s p).data, (mget s p).tag))) self b
    rw [own] at made
    rw [← made] at st pccOf pswOf_ winOf sspOf setOf tspOf fspOf none
    rw [psw] at pswOf_ tspOf
    rw [pcc] at pccOf
    rw [win] at winOf
    rw [ssp] at sspOf
    have masked (hi lo : Nat) (covered : ∀ i, lo ≤ i → i ≤ hi → pswMask.getLsbD i = true) :
        fld (ctxAt (bindStart s n h a) n h).psw hi lo = fld (g 4) hi lo := by
      rw [pswOf_]
      refine fld_congr fun i low high => ?_
      rw [BitVec.getLsbD_and, covered i low high, Bool.and_true]
    refine ⟨_, congrArg done (work _), st, pccOf, masked 29 22 (by decide), masked 1 0 (by decide), winOf, sspOf, setOf, tspOf, fspOf, none,
      (words _).trans (if_pos rfl), fun p other => (words p).trans (if_neg (Ne.symm other)), others⟩
  case stop =>
    obtain ⟨cleared, words, others⟩ := bindStop_stops (a := 0) hn waiting short ⟨tag, type⟩ drained none block
    obtain ⟨hi, lo, flags, win, ssp, valid, outside⟩ := stopped_words (s := s) (h := h) short (mget s)
    refine ⟨_, congrArg done (work _), cleared, ?_, ?_, ?_, ?_, ?_, ?_, fun p out => (words p).trans (outside p out), others⟩
    · rw [words]; exact hi
    · rw [words]; exact lo
    · rw [words]; exact flags
    · rw [words]; exact win
    · rw [words]; exact ssp
    · rw [words]; exact valid

end Sys2Proof.Machine

namespace Sys2Proof.Machine
open Sys2Proof
set_option Elab.async false

/-! ## The commit of a task's move whose destination is no context of the four

The number of the destination context is state that no statement bounds; the registers of a context's routes are found from it, so
that a number beyond the four of a core writes registers of other pages (R361, R363). -/

/-- The context number whose route register, at the CORE page of core 1, is MIGCNT of tasks of Sedge 1. -/
def farSlot : Nat := sedgePg 1 * 512 + 31 - (corePg 1 * 512 + 128)

/-- The move of context 0 of core 0 to that context of core 1. -/
def farMove : TaskMig := { src := 0, ctx := 0, dst := 1, dctx := farSlot, byCmd := true }

/-- A state in which Sedge 1, which has counted five moves, commits it. -/
def movesFar : State :=
  let s := { State.reset with
    part := .tfw2
    safety := .run
    cores := [(0, { Core.init with ctxs := [(0, { Ctx.init with st := .waiting })] }),
      (1, { Core.init with setA := { RuleSet.init with st := .ready } })]
    sedges := [(1, { Sedge.init with tmig := some farMove })] }
  rset s (sedgePg 1) 31 5

theorem movesFar_ready : sedgeWorks movesFar 1 = true ∧ (sedge movesFar 1).tmig = some farMove ∧
    taskEligible movesFar farMove.src farMove.ctx farMove.dst (!farMove.byCmd) = true ∧
    (ctxAt movesFar farMove.dst farMove.dctx).st = .empty ∧
    readySetOf (coreAt movesFar farMove.dst) (ctxAt movesFar farMove.src farMove.ctx).comp = some false := by decide

theorem movesFar_counted : rget movesFar (sedgePg 1) 31 = 5 ∧ rget (commitTask movesFar 1 farMove false) (sedgePg 1) 31 = 1 := by decide

theorem movesFar_commits : exec (.taskMigrationCommit 1) movesFar = .next (commitTask movesFar 1 farMove false) := by
  obtain ⟨works, moving, eligible, empty, image⟩ := movesFar_ready
  show execTaskMigrationCommit 1 movesFar = _
  unfold execTaskMigrationCommit
  rw [show ((1 : BitVec 3).toNat) = 1 from rfl]
  dsimp only
  rw [if_pos works, moving]
  dsimp only
  rw [eligible, empty, image]
  rfl

/-- Refutes O35: the move to a context beyond the four of its core writes the source's route register over the count of the moves,
which is then 1 where it has been 5. -/
theorem not_taskMigrationAndSedgePage : ¬ Obligations.TaskMigrationAndSedgePage := by
  intro all
  obtain ⟨works, moving, eligible, empty, image⟩ := movesFar_ready
  obtain ⟨-, commits, -⟩ := all movesFar 1 0 0 0 0 0 farMove false
  obtain ⟨t, run, -, -, -, counts, -⟩ := commits works moving eligible empty image rfl (Or.inl rfl)
  have ends := Host.Outcome.next.inj (movesFar_commits.symm.trans run)
  rw [← ends] at counts
  obtain ⟨before, after⟩ := movesFar_counted
  rw [show ((1 : BitVec 3).toNat) = 1 from rfl, before, after] at counts
  exact absurd counts (by decide)

end Sys2Proof.Machine

namespace Sys2Proof.Machine
open Sys2Proof
set_option Elab.async false

/-! ## Track time -/

/-- A function of the values of a table that keeps the default is one of every value read. -/
theorem kget_map {α : Type} (d : Nat → α) (m : KMap α) (f : α → α) (k : Nat) (fixed : f (d k) = d k) :
    kget d (m.map fun p => (p.1, f p.2)) k = f (kget d m k) := by
  induction m with
  | nil => exact fixed.symm
  | cons p r ih =>
    simp only [List.map_cons, kget]
    by_cases same : p.1 = k
    · rw [if_pos same, if_pos same]
    · rw [if_neg same, if_neg same, ih]

/-- A voter whose windows and commits began n later. -/
def Voter.later (n : Nat) (v : Voter) : Voter :=
  { v with wins := v.wins.map fun w => { w with t0 := w.t0 + n }, commits := v.commits.map fun c => { c with start := c.start + n } }

theorem voter_ttJump (s : State) (n g : Nat) : voter (ttJump s n) g = (voter s g).later n := by
  have moved (t : Nat) : ((t : Int) + n).toNat = t + n := by omega
  have all : (ttJump s n).voters = s.voters.map fun p => (p.1, p.2.later n) := by
    unfold ttJump
    simp only [moved]
    rfl
  unfold voter
  rw [all, kget_map _ _ (Voter.later n) g rfl]

/-- A jump forward moves the starts of windows and commits along (R490). -/
theorem ttJump_moves (s : State) (n g : Nat) :
    (voter (ttJump s n) g).wins.map (fun w => w.t0) = (voter s g).wins.map (fun w => w.t0 + n) ∧
    (voter (ttJump s n) g).commits.map (fun c => c.start) = (voter s g).commits.map (fun c => c.start + n) := by
  rw [voter_ttJump]
  exact ⟨List.map_map, List.map_map⟩

theorem ttJump_tt (s : State) (amount : Int) : ((ttJump s amount).tt : Int) = (s.tt + amount) % 2 ^ 72 := by
  have eq : (ttJump s amount).tt = (((s.tt : Int) + amount) % (2 ^ 72 : Nat)).toNat := rfl
  rw [eq]
  omega

theorem stepDue_moves {s : State} {p : Nat × Nat} {rest : List (Nat × Nat)} (steps : s.sync.steps = p :: rest) (due : p.1 ≤ s.tt) (g : Nat) :
    (voter (stepDue s) g).wins.map (fun w => w.t0) = (voter s g).wins.map (fun w => w.t0 + p.2) ∧
    (voter (stepDue s) g).commits.map (fun c => c.start) = (voter s g).commits.map (fun c => c.start + p.2) := by
  have same : voter (stepDue s) g = voter (ttJump s p.2) g := by
    unfold stepDue
    rw [steps]
    dsimp only
    rw [if_pos due]
    rfl
  rw [same]
  exact ttJump_moves s p.2 g

/-- A refused write of STEP_HI is captured, and clears STEP_LO. -/
theorem stepRefused_captured (s : State) (cause : Nat) :
    let t := rset (captureAt s ttimePg cause 20) ttimePg 19 0
    t.tt = s.tt ∧ t.sync = s.sync ∧ rget t ttimePg 19 = 0 ∧ Captured s t ttimePg cause (regAddr ttimePg 20) := by
  intro t
  obtain ⟨⟨-, only⟩, captured⟩ := captureAt_only s ttimePg cause 20
  have w : Within Area.ofSignal s (captureAt s ttimePg cause 20) := capture_within (.refl s) ..
  have kept (o : Nat) (other : o ≠ 19) : rget t ttimePg o = rget (captureAt s ttimePg cause 20) ttimePg o :=
    rget_rset_other _ _ (by omega)
  exact ⟨w.tt, w.sync, rget_rset_same .., captured.after (kept 6 (by decide)) (kept 7 (by decide)) fun h => by rw [kept 9 (by decide)]; exact h⟩

/-- Settles O39: track time, its rate and its steps. -/
theorem trackTime : Obligations.TrackTime := by
  intro s v far x rest amount alone moved
  refine ⟨fun steps => ⟨fun due => ⟨(stepDue_takes steps due).1, (stepDue_takes steps due).2, fun g => stepDue_moves steps due g⟩,
    fun early => stepDue_waits steps early⟩, fun works => ?_⟩
  have work (f : State → State) : unitDo s ttimePg f = f s := unitDo_of_works works f
  refine ⟨?read, fun unlocked free low high => ?rate, fun unlocked free out => ?range, fun unlocked follower => ?follower,
    fun free on none ahead lone => ?step, fun free on none ahead stack => ?noted, fun free refused => ?refused, fun follower => ?far,
    fun unlocked => ?reset⟩
  case read =>
    refine ⟨_, congrArg done (work _), rfl, rget_rset_same .., rfl, ?_⟩
    exact .rset s _ (by decide) ⟨rfl, rfl⟩
  case rate =>
    have takes : rateStore s v = rset s ttimePg 18 v := by
      unfold rateStore
      rw [unlessLocked_open _ _ unlocked, if_neg free, if_neg (by unfold sval; omega)]
    refine ⟨_, congrArg done ((work _).trans takes), rget_rset_same .., .rset s _ (by decide) ⟨rfl, rfl⟩, rfl⟩
  case range =>
    have refuses : rateStore s v = captureAt s ttimePg 9 18 := by
      unfold rateStore
      rw [unlessLocked_open _ _ unlocked, if_neg free, if_pos (by unfold sval; omega)]
    exact ⟨_, congrArg done ((work _).trans refuses), captured_capture .., regsKept_capture s _ _ _⟩
  case follower =>
    have refuses : rateStore s v = captureAt s ttimePg 8 18 := by
      unfold rateStore
      rw [unlessLocked_open _ _ unlocked, if_pos follower]
    exact ⟨_, congrArg done ((work _).trans refuses), captured_capture .., regsKept_capture s _ _ _⟩
  case step =>
    have accepted : ¬ (bit (rget s ttimePg 4) 2 = false ∨ synthOn s = true ∨ amount < 0) := by
      rw [on, none]
      rintro (h | h | h)
      · cases h
      · cases h
      · omega
    have takes : stepStore s v = rset (ttJump s amount) ttimePg 19 0 := by
      unfold stepStore stepTake
      dsimp only
      rw [if_neg free, if_neg accepted, if_pos lone]
    have whole : (amount.toNat : Int) = amount := Int.toNat_of_nonneg ahead
    refine ⟨rset (ttJump s amount) ttimePg 19 0, congrArg done ((work _).trans takes), ttJump_tt s amount, rget_rset_same .., fun g => ?_⟩
    have moves := ttJump_moves s amount.toNat g
    rw [whole] at moves
    exact moves
  case noted =>
    have accepted : ¬ (bit (rget s ttimePg 4) 2 = false ∨ synthOn s = true ∨ amount < 0) := by
      rw [on, none]
      rintro (h | h | h)
      · cases h
      · cases h
      · omega
    have notes : stepStore s v = rset { s with sync := { s.sync with
        steps := s.sync.steps ++ [(max s.tt s.sync.seen + stepLead s, amount.toNat)], seen := max s.tt s.sync.seen + stepLead s } } ttimePg 19 0 := by
      unfold stepStore stepTake
      dsimp only
      rw [if_neg free, if_neg accepted, if_neg stack]
    exact ⟨_, congrArg done ((work _).trans notes), rfl, rget_rset_same .., rfl, rfl⟩
  case refused =>
    refine ⟨_, congrArg done ((work _).trans ?_), stepRefused_captured s 10⟩
    by_cases hf : far = true
    · exact if_pos (by rw [hf]; simpa using free)
    · rw [Bool.not_eq_true] at hf
      subst hf
      have which := refused.resolve_left (by decide)
      show stepStore s v = _
      unfold stepStore
      dsimp only
      rw [if_neg free, if_pos which]
  case far =>
    refine ⟨_, congrArg done ((work _).trans ?_), stepRefused_captured s 8⟩
    have master : (far && ttRole s != 2) = false := by rw [follower]; simp
    dsimp only
    rw [if_neg (by rw [master]; decide)]
    unfold stepStore
    dsimp only
    rw [if_pos follower]
  case reset =>
    have resets : ttimeReset s = rset (resetPage s ttimePg) ttimePg 21 (rget s ttimePg 21) := unlessLocked_open _ _ unlocked
    refine ⟨_, congrArg done ((work _).trans resets), rfl, rget_rset_same .., fun o ho not10 not21 => ?_, rfl⟩
    rw [rget_rset_other _ _ (by omega), rget_resetPage _ _ _ ho, if_neg (by omega)]

end Sys2Proof.Machine

namespace Sys2Proof.Machine
open Sys2Proof
set_option Elab.async false

/-! ## What keeps a table of Reed from filling (R415, R417, R434) -/

/-- Every entry of Reed in t is that of s, or holds no event. -/
structure Quiet (s t : State) : Prop where
  entry : ∀ d j, (reed t d).entry j = (reed s d).entry j ∨ ((reed t d).entry j).live = false

namespace Quiet
variable {s t u : State}

theorem refl (s : State) : Quiet s s := ⟨fun _ _ => .inl rfl⟩

theorem trans (h : Quiet s t) (k : Quiet t u) : Quiet s u := ⟨fun d j =>
  (k.entry d j).elim (fun same => (h.entry d j).imp same.trans fun dead => same.symm ▸ dead) .inr⟩

theorem of_within {F : List Area} (w : Within F s t) (hF : Area.reeds ∉ F := by decide) : Quiet s t := ⟨fun d _ =>
  .inl (by rw [w.reed d hF])⟩

theorem ite {c : Prop} [Decidable c] (h : Quiet s t) (k : Quiet s u) : Quiet s (if c then t else u) := by
  split
  · exact h
  · exact k

theorem foldl {α : Type} {f : State → α → State} (hf : ∀ t x, Quiet t (f t x)) (l : List α) (s : State) : Quiet s (l.foldl f s) := by
  induction l generalizing s with
  | nil => exact refl s
  | cons x r ih => exact (hf s x).trans (ih (f s x))

/-- An entry that holds no event holds none afterwards. -/
theorem dead (h : Quiet s t) {d j : Nat} (empty : ((reed s d).entry j).live = false) : ((reed t d).entry j).live = false :=
  (h.entry d j).elim (fun same => same.symm ▸ empty) id

end Quiet

theorem retireEntry_quiet (s : State) (d i : Nat) : Quiet s (retireEntry s d i) := by
  refine ⟨fun k j => ?_⟩
  obtain ⟨own, others⟩ := retireEntry_entry s d i
  by_cases die : k = d
  · subst die
    by_cases entry : j = i
    · exact .inr (by rw [entry, own]; rfl)
    · exact .inl (others j entry)
  · refine .inl ?_
    show (reed (freeEntry s d i) k).entry j = _
    rw [freeEntry, reed_setReed_other _ die]

theorem retireWhere_quiet (s : State) (d : Nat) (f : Event → Bool) : Quiet s (retireWhere s d f) := by
  unfold retireWhere
  refine Quiet.foldl (fun t p => ?_) _ s
  exact retireEntry_quiet t d p.1

theorem silenced_quiet (s : State) (m cause : Nat) (info : Word) : Quiet s (silenced s m cause info) := by
  unfold silenced
  dsimp only
  refine Quiet.trans ?_ (.of_within (F := [.chans]) (safeOutputs_within (.refl _) ..))
  exact Quiet.trans (.of_within (F := [.chans, .voters]) (clearVoter_within (setVoter_within (setChan_within (.refl s) ..) ..) ..))
    (retireWhere_quiet ..)

theorem safeEnter_quiet (s : State) (m cause key lanes : Nat) : Quiet s (safeEnter s m cause key lanes) := by
  by_cases safe : (chan s m).safe = true
  · rw [safeEnter_again _ _ _ safe]
    exact .refl s
  · rw [safeEnter_eq _ _ _ (Bool.not_eq_true _ ▸ safe)]
    refine (silenced_quiet s m cause (fval 30 19 key ||| fval 18 16 lanes)).trans (.ite ?_ ?_)
    · exact .of_within (F := Area.ofSignal) (irqPend_within (irqPend_within (capture_within (.refl _) ..) ..) ..)
    · exact .of_within (F := Area.ofSignal) (irqPend_within (capture_within (.refl _) ..) ..)

/-- The loss of one event: it is retired, with the channel that it drives. -/
def loseEvent (d : Nat) (s : State) (p : Nat × Event) : State :=
  if ((reed s d).entry p.1).live then
    let s1 := retireEntry s d p.1
    if isOutput p.2.action && decide (p.2.chan ≠ 127) then safeEnter s1 (96 * d + p.2.chan) 8 p.2.key 0 else s1
  else s

theorem loseEvent_quiet (d : Nat) (s : State) (p : Nat × Event) : Quiet s (loseEvent d s p) := by
  unfold loseEvent
  exact .ite (.ite ((retireEntry_quiet s d p.1).trans (safeEnter_quiet ..)) (retireEntry_quiet s d p.1)) (.refl s)

theorem loseEvent_dead (d : Nat) (s : State) (p : Nat × Event) : ((reed (loseEvent d s p) d).entry p.1).live = false := by
  by_cases live : ((reed s d).entry p.1).live = true
  · have retired : ((reed (retireEntry s d p.1) d).entry p.1).live = false := by
      rw [(retireEntry_entry s d p.1).1]
      rfl
    have quiet : Quiet (retireEntry s d p.1) (loseEvent d s p) := by
      unfold loseEvent
      rw [if_pos live]
      exact .ite (safeEnter_quiet ..) (.refl _)
    exact quiet.dead retired
  · rw [Bool.not_eq_true] at live
    exact (loseEvent_quiet d s p).dead live

theorem reedRefGone_eq (s : State) (i d : Nat) :
    let es := (reed s d).ev.filter (fun p => p.2.live && decide (p.2.refNo = i))
    reedRefGone s i d = if es.isEmpty then es.foldl (loseEvent d) s else capture (es.foldl (loseEvent d) s) (reedPg d) 10 i := rfl

theorem loseEvents_dead (d : Nat) (l : List (Nat × Event)) (s : State) {p : Nat × Event} (h : p ∈ l) :
    ((reed (l.foldl (loseEvent d) s) d).entry p.1).live = false := by
  induction l generalizing s with
  | nil => cases h
  | cons q r ih =>
    rcases List.mem_cons.1 h with rfl | later
    · exact (Quiet.foldl (loseEvent_quiet d) r _).dead (loseEvent_dead d s p)
    · exact ih _ later

theorem reedRefGone_quiet (s : State) (i d : Nat) : Quiet s (reedRefGone s i d) := by
  rw [reedRefGone_eq]
  have lost := Quiet.foldl (loseEvent_quiet d) ((reed s d).ev.filter fun p => p.2.live && decide (p.2.refNo = i)) s
  exact .ite lost (lost.trans (.of_within (F := Area.ofSignal) (capture_within (.refl _) ..)))

/-- The loss of a reference leaves no event of a die that names it (R415, R417). -/
theorem reedRefGone_gone (s : State) (i d j : Nat) (live : ((reed (reedRefGone s i d) d).entry j).live = true) :
    ((reed (reedRefGone s i d) d).entry j).refNo ≠ i := by
  obtain ⟨es, hes⟩ : ∃ es, es = (reed s d).ev.filter (fun p => p.2.live && decide (p.2.refNo = i)) := ⟨_, rfl⟩
  have same : reed (reedRefGone s i d) d = reed (es.foldl (loseEvent d) s) d := by
    rw [reedRefGone_eq, ← hes]
    split
    · rfl
    · exact Within.reed (F := Area.ofSignal) (capture_within (.refl _) ..) d
  rw [same] at live ⊢
  rcases Quiet.foldl (loseEvent_quiet d) es s |>.entry d j with kept | dead
  · rw [kept]
    intro named
    rw [kept] at live
    have mem : (j, (reed s d).entry j) ∈ es := by
      rw [hes, List.mem_filter]
      refine ⟨mem_of_kget fun e => ?_, by rw [live, named]; simp⟩
      rw [show (reed s d).entry j = Event.init from e] at live
      cases live
    have := loseEvents_dead d es s mem
    rw [kept, live] at this
    cases this
  · rw [dead] at live
    cases live

theorem burstRefGone_quiet (s : State) (i : Nat) : Quiet s (burstRefGone s i) := by
  unfold burstRefGone
  refine Quiet.foldl (fun t p => ?_) _ s
  exact safeEnter_quiet t p.1 8 0 0

theorem refGone_quiet (s : State) (i : Nat) : Quiet s (refGone s i) := by
  unfold refGone
  refine Quiet.trans (Quiet.foldl (fun t d => ?_) _ s) (burstRefGone_quiet ..)
  exact reedRefGone_quiet t i d

theorem NoEventOf.kept {s t : State} {k : Nat} (none : NoEventOf s k) (quiet : Quiet s t) (part : t.part = s.part) : NoEventOf t k := by
  intro d j inside live
  rcases quiet.entry d j with same | dead
  · rw [same] at live ⊢
    exact none d j (part ▸ inside) live
  · rw [dead] at live
    cases live

/-- Everything that named a reference that is gone is retired (R415, R417). -/
theorem refGone_noEvent (s : State) (i : Nat) : NoEventOf (refGone s i) i := by
  have dies : ∀ n, ∀ d < n, ∀ j, ((reed ((List.range n).foldl (fun t d => reedRefGone t i d) s) d).entry j).live = true →
      ((reed ((List.range n).foldl (fun t d => reedRefGone t i d) s) d).entry j).refNo ≠ i := by
    intro n
    induction n with
    | zero => exact fun d h => absurd h (Nat.not_lt_zero d)
    | succ n ih =>
      intro d inside j live
      rw [List.range_succ, List.foldl_append, List.foldl_cons, List.foldl_nil] at live ⊢
      by_cases last : d = n
      · rw [last] at live ⊢
        exact reedRefGone_gone _ i n j live
      · rcases (reedRefGone_quiet ((List.range n).foldl (fun t d => reedRefGone t i d) s) i n).entry d j with same | dead
        · rw [same] at live ⊢
          exact ih d (by omega) j live
        · rw [dead] at live
          cases live
  have part : (refGone s i).part = s.part :=
    Within.part (F := [.regs, .evTick, .events, .reeds, .chans, .voters]) (refGone_within (.refl s) ..)
  intro d j inside live
  rcases (burstRefGone_quiet ((List.range s.part.dies).foldl (fun t d => reedRefGone t i d) s) i).entry d j with same | dead
  · rw [show (reed (refGone s i) d).entry j = _ from same] at live ⊢
    exact dies _ d (part ▸ inside) j live
  · rw [show ((reed (refGone s i) d).entry j).live = false from dead] at live
    cases live

end Sys2Proof.Machine

namespace Sys2Proof.Machine
open Sys2Proof
set_option Elab.async false

/-! ## What a change of one reference leaves of another (R409, R417, R421) -/

theorem bit_capture_kept (s : State) (pg cause info : Nat) {p c : Nat} (h : bit (rget s p 9) c = true) :
    bit (rget (capture s pg cause info) p 9) c = true := by
  unfold capture
  dsimp only
  have counted (t : State) : rget (rinc t pg 7 17 0) p 9 = rget t p 9 := by
    rw [rget_rinc _ (by decide) (by decide), if_neg (by rintro ⟨-, h⟩; cases h)]
  split
  · rw [counted]
    split <;> exact h
  · refine bit_irqPend_kept _ _ _ ?_
    rw [rget_rset _ _ (by decide) (by decide), if_neg (by rintro ⟨-, h⟩; cases h), counted]
    split <;> exact h

/-- From s to t references other than k may have changed, with all that a change of a reference does: k is as it was, as are the
configurations; no interrupt of the page and no event is new. -/
structure Follows (k : Nat) (s t : State) : Prop where
  ref : ref t k = ref s k
  regs : RegsKept s t refsRegs
  quiet : Quiet s t
  pends : ∀ b, bit (rget s phrefPg 9) b = true → bit (rget t phrefPg 9) b = true
  within : Within [.regs, .evTick, .events, .refs, .reeds, .chans, .voters] s t

namespace Follows
variable {k : Nat} {s t u : State}

theorem refl (k : Nat) (s : State) : Follows k s s := ⟨rfl, .refl s _, .refl s, fun _ => id, .refl s⟩

theorem trans (h : Follows k s t) (g : Follows k t u) : Follows k s u :=
  ⟨g.ref.trans h.ref, h.regs.trans g.regs, h.quiet.trans g.quiet, fun b x => g.pends b (h.pends b x), h.within.trans g.within⟩

theorem ite {c : Prop} [Decidable c] (h : Follows k s t) (g : Follows k s u) : Follows k s (if c then t else u) := by
  split
  · exact h
  · exact g

theorem setRef (s : State) {i : Nat} (r : Ref) (other : k ≠ i) : Follows k s (setRef s i r) :=
  ⟨ref_setRef_other r other, .of_regs rfl _, .of_within (F := [.refs]) (setRef_within (.refl s) ..), fun _ => id,
    setRef_within (.refl s) ..⟩

end Follows

theorem refGone_phref (s : State) (i : Nat) {off : Nat} (ho : off < 512) : rget (refGone s i) phrefPg off = rget s phrefPg off :=
  refGone_regs s i _ _ ho fun gone => by
    have := goneRegs_page gone
    rw [phrefPg, pkgPg_mod (by decide)] at this
    omega

theorem refTo_quiet (s : State) (i : Nat) (st : RefState) : Quiet s (refTo s i st) := by
  have marked : Quiet s (irqPend (setRef s i { ref s i with st := st }) phrefPg (1 + i)) :=
    .of_within (F := [.regs, .evTick, .events, .refs]) (irqPend_within (setRef_within (.refl s) ..) ..)
  unfold refTo
  refine .ite (.refl s) ?_
  dsimp only
  cases st with
  | lost =>
    refine marked.trans (Quiet.trans ?_ (refGone_quiet ..))
    exact .of_within (F := Area.ofSignal) (capture_within (rinc_within (.refl _) ..) ..)
  | off => exact marked.trans (Quiet.trans (.of_within (F := [.refs]) (setRef_within (.refl _) ..)) (refGone_quiet ..))
  | holdover => exact marked.trans (.of_within (F := [.refs]) (setRef_within (.refl _) ..))
  | acquire => exact marked
  | locked => exact marked

/-- A change of a reference's state sets interrupts of the page alone, its own among them. -/
theorem refTo_pends (s : State) {i : Nat} (hi : i < 8) (st : RefState) :
    (∀ b, bit (rget s phrefPg 9) b = true → bit (rget (refTo s i st) phrefPg 9) b = true) ∧
    ((ref s i).st ≠ st → bit (rget (refTo s i st) phrefPg 9) (1 + i) = true) := by
  by_cases same : (ref s i).st = st
  · rw [refTo_same same]
    exact ⟨fun _ => id, absurd same⟩
  · obtain ⟨u, hu⟩ : ∃ u, u = irqPend (setRef s i { ref s i with st := st }) phrefPg (1 + i) := ⟨_, rfl⟩
    have up (b : Nat) (h : bit (rget u phrefPg 9) b = true) : bit (rget (refTo s i st) phrefPg 9) b = true := by
      unfold refTo
      rw [if_neg same]
      dsimp only
      rw [← hu]
      cases st with
      | lost =>
        dsimp only
        rw [refGone_phref _ _ (by decide)]
        refine bit_capture_kept _ _ _ _ ?_
        rw [rget_rinc _ (by omega) (by decide), if_neg (by omega)]
        exact h
      | off =>
        dsimp only
        rw [refGone_phref _ _ (by decide)]
        exact h
      | holdover => exact h
      | acquire => exact h
      | locked => exact h
    exact ⟨fun b h => up b (hu ▸ bit_irqPend_kept _ _ _ h), fun _ => up _ (hu ▸ irqPend_pends _ _ (by omega))⟩

theorem refTo_follows {k : Nat} (s : State) {i : Nat} (hi : i < 8) (st : RefState) (other : k ≠ i) : Follows k s (refTo s i st) :=
  ⟨ref_refTo_other s st other, (refTo_regs s hi st).mono fun _ _ h => ⟨i, h⟩, refTo_quiet s i st, (refTo_pends s hi st).1,
    refTo_within (.refl s) ..⟩

theorem Follows.refSrc {k : Nat} {s t : State} (h : RegsKept s t refsRegs) (hk : k < 8) : refSrc t k = Machine.refSrc s k := by
  unfold Machine.refSrc rfld
  rw [phref_kept h hk]

/-- The copies follow their sources; a reference that is no copy is left (R421). -/
theorem refCopies_follows {k : Nat} (s : State) (hk : k < 8) (own : isCopy s k = false) : Follows k s (refCopies s) := by
  have steps : ∀ n ≤ 8, Follows k s ((List.range n).foldl (refCopy 0) s) := by
    intro n
    induction n with
    | zero => exact fun _ => .refl k s
    | succ n ih =>
      intro hn
      obtain ⟨t, ht⟩ : ∃ t, t = (List.range n).foldl (refCopy 0) s := ⟨_, rfl⟩
      have before : Follows k s t := ht ▸ ih (by omega)
      rw [List.range_succ, List.foldl_append, List.foldl_cons, List.foldl_nil, ← ht]
      have alone : isCopy t k = false := by
        rw [← own]
        unfold isCopy ttRole
        rw [Follows.refSrc before.regs hk, before.within.stack]
      refine before.trans ?_
      by_cases self : k = n
      · subst self
        unfold refCopy
        rw [alone, if_neg Bool.false_ne_true]
        exact .refl k t
      · unfold refCopy copySlew copyTake
        dsimp only
        refine .ite (.ite ?_ ?_) (.refl k t)
        · exact (refTo_follows t hn _ self).trans (.setRef _ _ self)
        · refine Follows.trans (.ite ?_ (refTo_follows t hn _ self)) (.setRef _ _ self)
          exact (refTo_follows t hn _ self).trans (refTo_follows _ hn _ self)
  exact steps 8 (Nat.le_refl 8)

/-! ## Changes of state (Table 9.2) -/

/-- A reference that changes to a state in which nothing is lost. -/
theorem refTo_plain {s : State} {i : Nat} {st : RefState} (change : (ref s i).st ≠ st) :
    (st = .acquire ∨ st = .locked → ref (refTo s i st) i = { ref s i with st := st }) ∧
    (st = .holdover → ref (refTo s i st) i = { ref s i with st := .holdover, err := 0 }) ∧
    (st = .lost → ref (refTo s i st) i = { ref s i with st := .lost } ∧ NoEventOf (refTo s i st) i) ∧
    (st = .off → ref (refTo s i st) i = Ref.init ∧ NoEventOf (refTo s i st) i) := by
  obtain ⟨u, hu⟩ : ∃ u, u = irqPend (setRef s i { ref s i with st := st }) phrefPg (1 + i) := ⟨_, rfl⟩
  have own : ref u i = { ref s i with st := st } := hu ▸ ref_setRef_same ..
  have changed : refTo s i st = match st with
      | .lost => refGone (capture (rinc u phrefPg (18 + 4 * i) 31 20) phrefPg 9 i) i
      | .off => refGone (setRef u i Ref.init) i
      | .holdover => setRef u i { ref u i with err := 0 }
      | _ => u := by
    rw [hu]
    exact if_neg change
  rw [changed]
  refine ⟨?_, ?_, ?_, ?_⟩
  · rintro (rfl | rfl) <;> exact own
  · rintro rfl
    dsimp only
    rw [ref_setRef_same, own]
  · rintro rfl
    refine ⟨?_, refGone_noEvent _ _⟩
    dsimp only
    rw [refGone_ref]
    exact (Within.ref (F := Area.ofSignal) (capture_within (rinc_within (.refl u) ..) ..) i).trans own
  · rintro rfl
    refine ⟨?_, refGone_noEvent _ _⟩
    dsimp only
    rw [refGone_ref, ref_setRef_same]

end Sys2Proof.Machine

namespace Sys2Proof.Machine
open Sys2Proof
set_option Elab.async false

/-! ## Crossings (Table 9.2, R410 to R416) -/

theorem crossing_regs (s : State) {i : Nat} (hi : i < 8) (at_ age : Nat) : RegsKept s (crossing s i at_ age) refsRegs := by
  have turned (t : State) (st : RefState) : RegsKept t (refTo t i st) refsRegs := (refTo_regs t hi st).mono fun _ _ h => ⟨i, h⟩
  have put (r : Ref) : RegsKept s (setRef s i r) refsRegs := .of_regs rfl _
  unfold crossing
  split
  · exact .refl s _
  · unfold crossAcquire
    dsimp only
    split
    · exact put _
    · exact .ite (put _) (.ite ((put _).trans (turned _ _)) (put _))
  · exact .ite (turned _ _) (put _)
  · exact .ite ((put _).trans (turned _ _)) (turned _ _)
  · exact (put _).trans (turned _ _)

/-- What a crossing leaves is followed by the copies; the reference of the crossing, which is tracked, is left to itself. -/
theorem copies_follow {s t : State} {k : Nat} (hk : k < 8) (kept : RegsKept s t refsRegs) (source : refSrc s k ≠ 4) :
    Follows k t (refCopies t) := by
  refine refCopies_follows t hk ?_
  unfold isCopy
  rw [Follows.refSrc kept hk]
  exact decide_eq_false fun h => source h.1

/-- A crossing that counts is taken as one of the tracked reference, whose detection is no longer due. -/
theorem crossing_taken {s : State} {i : BitVec 3} {age : BitVec 24} {low : BitVec 12} {cross ago : Nat} (works : unitWorks s phrefPg = true)
    (seen : (refSrc s i.toNat = 1 ∧ 10 * 2 ^ fld (rget s phrefPg (16 + 4 * i.toNat)) 15 14 < low.toNat ∧ age.toNat + 12 ≤ s.ticks ∧
        cross = s.ticks - age.toNat - 12 ∧ ago = s.ticks - cross) ∨
      (refSrc s i.toNat = 2 ∧ (ref s i.toNat).due = some cross ∧ ago = s.ticks - cross)) :
    ∃ s' t, (∀ off, rget s' phrefPg off = rget s phrefPg off) ∧ (∃ due, ref s' i.toNat = { ref s i.toNat with due := due }) ∧
      exec (.crossingDetected i ⟨age, low⟩) s = .next t ∧ Follows i.toNat (crossing s' i.toNat cross ago) t := by
  have hk := i.isLt
  rcases seen with ⟨source, armed, -, at_, since⟩ | ⟨source, due, since⟩
  · refine ⟨s, _, fun _ => rfl, ⟨(ref s i.toNat).due, rfl⟩, ?_, copies_follow hk (crossing_regs s hk cross ago) (by omega)⟩
    refine congrArg done ((unitDo_of_works works _).trans ?_)
    rw [if_pos source, if_pos (show hystMv s i.toNat < low.toNat from armed), since, at_]
    rfl
  · obtain ⟨s', hs'⟩ : ∃ s', s' = setRef s i.toNat { ref s i.toNat with due := none } := ⟨_, rfl⟩
    have regs : RegsKept s (crossing s' i.toNat cross ago) refsRegs :=
      RegsKept.trans (.of_regs (hs' ▸ rfl) _) (crossing_regs s' hk cross ago)
    refine ⟨s', _, fun _ => by rw [hs']; rfl, ⟨none, by rw [hs', ref_setRef_same]⟩, ?_, copies_follow hk regs (by omega)⟩
    refine congrArg done ((unitDo_of_works works _).trans ?_)
    rw [if_neg (by omega), if_pos source, due, since, hs']

variable {s : State} {i at_ age : Nat}

theorem crossing_lost (st : (ref s i).st = .lost) :
    ref (crossing s i at_ age) i = { ref s i with st := .acquire, lastCross := some at_, periods := [] } := by
  unfold crossing
  rw [st]
  dsimp only
  rw [(refTo_plain (by rw [ref_setRef_same]; exact st ▸ by decide)).1 (.inl rfl), ref_setRef_same]

/-- What a crossing does in Acquire, from the period p that it ends and the periods ps with it (R416). -/
theorem crossing_acquire (st : (ref s i).st = .acquire) {l : Nat} (last : (ref s i).lastCross = some l) :
    let p := at_ - l
    let ps := ((ref s i).periods ++ [p]).drop ((ref s i).periods.length + 1 - lockN s i)
    (periodInRange p = false → ref (crossing s i at_ age) i = { ref s i with lastCross := some at_, periods := [] }) ∧
    (periodInRange p = true → locksNow (lockN s i) ps = false →
      ref (crossing s i at_ age) i = { ref s i with lastCross := some at_, periods := ps }) ∧
    (periodInRange p = true → locksNow (lockN s i) ps = true → i < 8 →
      ref (crossing s i at_ age) i = { ref s i with
        st := .locked, lastCross := some at_, periods := [], period := p, err := 0, slew := false, sub := 0,
        stamp := stampAfter ((ref s i).stamp.toNat / 2 ^ 24 + 1) age p } ∧
      bit (rget (crossing s i at_ age) phrefPg 9) (1 + i) = true) := by
  intro p ps
  have taken : crossing s i at_ age = crossAcquire s i at_ age := by
    unfold crossing
    rw [st]
  rw [taken]
  unfold crossAcquire
  dsimp only
  rw [last]
  dsimp only
  refine ⟨fun out => ?_, fun inside unlocked => ?_, fun inside locks hi => ?_⟩
  · rw [if_pos out, ref_setRef_same]
  · rw [if_neg (by rw [inside]; decide), if_neg (by rw [show locksNow _ _ = false from unlocked]; decide), ref_setRef_same]
  · rw [if_neg (by rw [inside]; decide), if_pos (show locksNow _ _ = true from locks)]
    refine ⟨?_, ?_⟩
    · rw [(refTo_plain (by rw [ref_setRef_same]; exact st ▸ by decide)).1 (.inr rfl), ref_setRef_same]
    · exact (refTo_pends _ hi _).2 (by rw [ref_setRef_same]; exact st ▸ by decide)

/-- What a crossing does in Locked (R411, R412). -/
theorem crossing_locked (st : (ref s i).st = .locked) :
    let p := at_ - (ref s i).lastCross.getD at_
    let off := periodInRange p = false ∨ (ref s i).period < 50 * (p - (ref s i).period) ∨ (ref s i).period < 50 * ((ref s i).period - p)
    (off → i < 8 → ref (crossing s i at_ age) i = { ref s i with st := .holdover, err := 0 } ∧
      bit (rget (crossing s i at_ age) phrefPg 9) (1 + i) = true) ∧
    (¬ off → ∃ err slew, ref (crossing s i at_ age) i =
      { ref s i with lastCross := some at_, period := p, sub := 0, err := err, slew := slew }) := by
  intro p off
  have taken : crossing s i at_ age = crossLocked s i at_ age := by
    unfold crossing
    rw [st]
  rw [taken]
  unfold crossLocked
  dsimp only
  refine ⟨fun out hi => ?_, fun inside => ?_⟩
  · rw [if_pos (show off from out)]
    exact ⟨(refTo_plain (by rw [st]; decide)).2.1 rfl, (refTo_pends s hi _).2 (by rw [st]; decide)⟩
  · rw [if_neg (show ¬ off from inside), ref_setRef_same]
    exact ⟨_, _, rfl⟩

/-- What a crossing does in Holdover (R413). -/
theorem crossing_holdover (st : (ref s i).st = .holdover) :
    let e := phaseError (ref s i) age
    (-(2 ^ 21 : Int) ≤ e ∧ e ≤ 2 ^ 21 → ∃ err slew, ref (crossing s i at_ age) i =
      { ref s i with st := .locked, lastCross := some at_, err := err, slew := slew }) ∧
    (¬ (-(2 ^ 21 : Int) ≤ e ∧ e ≤ 2 ^ 21) → ref (crossing s i at_ age) i = { ref s i with st := .lost } ∧
      NoEventOf (crossing s i at_ age) i) := by
  intro e
  have taken : crossing s i at_ age = crossHoldover s i at_ age := by
    unfold crossing
    rw [st]
  rw [taken]
  unfold crossHoldover
  dsimp only
  refine ⟨fun near => ?_, fun far => ?_⟩
  · rw [if_pos (show _ from near), (refTo_plain (by rw [ref_setRef_same]; exact st ▸ by decide)).1 (.inr rfl), ref_setRef_same]
    exact ⟨_, _, rfl⟩
  · rw [if_neg (show ¬ _ from far)]
    exact (refTo_plain (by rw [st]; decide)).2.2.1 rfl

end Sys2Proof.Machine

namespace Sys2Proof.Machine
open Sys2Proof
set_option Elab.async false

/-! ## The configuration of a reference (R410, R417, R707) -/

theorem refcfg_fields : ∀ k < 8, UnitTy.phref.fields (16 + 4 * k) =
    [⟨35, 33, .rw, 0⟩, ⟨32, 32, .rw, 0⟩, ⟨31, 22, .rw, 0⟩, ⟨19, 17, .rw, 0⟩, ⟨16, 16, .rw, 0⟩, ⟨15, 14, .rw, 1⟩, ⟨13, 8, .rw, 8⟩,
      ⟨7, 0, .rw, 10⟩] := by decide

/-- A write of REFCFG takes every bit but the two that no field covers. -/
theorem refcfg_written (s : State) {k : Nat} (hk : k < 8) (v : Word) : ∃ w, writeFields s phrefPg (16 + 4 * k) v = rset s phrefPg (16 + 4 * k) w ∧
    ∀ b, b < 36 → b ≠ 20 → b ≠ 21 → bit w b = bit v b := by
  have unit : unitOf s.part phrefPg = some .phref := by
    cases s.part <;> decide
  have still : wcMask (UnitTy.phref.fields (16 + 4 * k)) = 0 := by
    rw [refcfg_fields k hk]
    decide
  refine ⟨applyWrite (UnitTy.phref.fields (16 + 4 * k)) (rget s phrefPg (16 + 4 * k)) v, ?_, fun b hb n20 n21 => ?_⟩
  · unfold writeFields
    rw [unit]
    dsimp only
    rw [still]
    simp
  · unfold bit
    rw [refcfg_fields k hk, getLsbD_applyWrite_rw _ (by decide), if_pos]
    simp only [List.any_cons, List.any_nil, Bool.or_eq_true, Bool.and_eq_true, decide_eq_true_eq]
    omega

theorem fld_of_bits {v w : Word} {hi lo : Nat} (h : ∀ b, lo ≤ b → b ≤ hi → bit w b = bit v b) : fld w hi lo = fld v hi lo :=
  fld_congr h

/-- A write of REFCFG that is not refused: the register, with the source that it gives, before the states follow. -/
theorem refcfgStore_takes {s : State} {k : Nat} (hk : k < 8) {v : Word} (unlocked : locked s phrefPg = false) (free : refcfgRefused s k v = false) :
    ∃ s1, s1 = rset s phrefPg (16 + 4 * k) (rget s1 phrefPg (16 + 4 * k)) ∧
      (∀ b, b < 36 → b ≠ 20 → b ≠ 21 → bit (rget s1 phrefPg (16 + 4 * k)) b = bit v b) ∧
      refSrc s1 k = (if 5 ≤ fld v 35 33 then 0 else fld v 35 33) ∧
      refcfgStore s k v =
        if refSrc s1 k = 0 then refCopies (refTo s1 k .off)
        else if (refSrc s1 k = 1 ∨ refSrc s1 k = 2) ∧ (ref s k).st = .off then refCopies (refTo (setRef s1 k Ref.init) k .acquire)
        else refCopies s1 := by
  obtain ⟨w, written, bits⟩ := refcfg_written s hk v
  have read : rget (rset s phrefPg (16 + 4 * k) w) phrefPg (16 + 4 * k) = w := rget_rset_same ..
  refine ⟨rset s phrefPg (16 + 4 * k) w, by rw [read], fun b hb n20 n21 => by rw [read]; exact bits b hb n20 n21, ?_, ?_⟩
  · unfold refSrc rfld
    rw [read, fld_of_bits fun b low high => bits b (by omega) (by omega) (by omega)]
  · unfold refcfgStore
    rw [unlessLocked_open _ _ unlocked, if_neg (by rw [free]; decide), written]

theorem refcfg_kept {s t : State} {k : Nat} (hk : k < 8) (kept : RegsKept s t refsRegs) {v : Word}
    (bits : ∀ b, b < 36 → b ≠ 20 → b ≠ 21 → bit (rget s phrefPg (16 + 4 * k)) b = bit v b) :
    ∀ b, b < 36 → b ≠ 20 → b ≠ 21 → bit (rget t phrefPg (16 + 4 * k)) b = bit v b := by
  rw [phref_kept kept hk]
  exact bits

/-- A change to Off, from any state, of a reference that is no copy. -/
theorem refOff_copies {s : State} {k : Nat} (hk : k < 8) (source : refSrc s k ≠ 4) :
    let t := refCopies (refTo s k .off)
    (ref t k).st = .off ∧ ((ref s k).st ≠ .off → NoEventOf t k) ∧ RegsKept s t refsRegs := by
  intro t
  have turned : RegsKept s (refTo s k .off) refsRegs := (refTo_regs s hk .off).mono fun _ _ h => ⟨k, h⟩
  have follows : Follows k (refTo s k .off) t := copies_follow hk turned source
  refine ⟨?_, fun change => ?_, turned.trans follows.regs⟩
  · rw [follows.ref]
    by_cases same : (ref s k).st = .off
    · rw [refTo_same same, same]
    · rw [((refTo_plain same).2.2.2 rfl).1]
      rfl
  · exact NoEventOf.kept ((refTo_plain change).2.2.2 rfl).2 follows.quiet follows.within.part

/-- SRST of the page leaves every reference Off. -/
theorem allOff (s : State) : ∀ j < 8, (ref ((List.range 8).foldl (fun s i => refTo s i .off) s) j).st = .off := by
  have steps : ∀ n ≤ 8, ∀ j < n, (ref ((List.range n).foldl (fun s i => refTo s i .off) s) j).st = .off := by
    intro n
    induction n with
    | zero => exact fun _ j h => absurd h (Nat.not_lt_zero j)
    | succ n ih =>
      intro hn j hj
      rw [List.range_succ, List.foldl_append, List.foldl_cons, List.foldl_nil]
      by_cases own : j = n
      · subst own
        by_cases same : (ref ((List.range j).foldl (fun s i => refTo s i .off) s) j).st = .off
        · rw [refTo_same same, same]
        · rw [((refTo_plain same).2.2.2 rfl).1]
          rfl
      · rw [ref_refTo_other _ _ own]
        exact ih (by omega) j (by omega)
  exact steps 8 (Nat.le_refl 8)

/-- Settles O38: the states of a phase reference. -/
theorem phaseReferences : Obligations.PhaseReferences := by
  intro s i age low cross ago v k r p ps e seen off works detects
  have hk : k < 8 := i.isLt
  have work (f : State → State) : unitDo s phrefPg f = f s := unitDo_of_works works f
  have lockN_eq {s' : State} (same : ∀ off, rget s' phrefPg off = rget s phrefPg off) : lockN s' k = lockN s k := by
    unfold lockN rfld
    rw [same]
  refine ⟨?quiet, fun st => ?lost, fun st last inside locks => ?locks, fun st last inside open_ => ?collects,
    fun st last outside => ?discards, fun st inside high low => ?tracks, fun st out => ?slips, fun st low high => ?returns,
    fun st far => ?fails, fun l source st last late => ?timeout, fun l st last late source => ?expiry, fun unlocked source => ?off,
    fun unlocked source st free => ?start, fun unlocked refuses => ?refused, fun source st => ?synthetic, fun unlocked => ?reset⟩
  case quiet =>
    intro source short
    refine ⟨s, congrArg done ((work _).trans ?_), rfl⟩
    rw [if_pos source, if_neg (show ¬ hystMv s k < low.toNat from Nat.not_lt.2 short)]
  case lost =>
    intro seen
    obtain ⟨s', t, same, ⟨due, own⟩, run, follows⟩ := crossing_taken works seen
    refine ⟨t, run, ?_⟩
    rw [follows.ref, crossing_lost (by rw [own]; exact st), own]
    exact ⟨rfl, rfl, rfl, rfl⟩
  case locks =>
    intro seen
    obtain ⟨s', t, same, ⟨due, own⟩, run, follows⟩ := crossing_taken works seen
    obtain ⟨l, hl⟩ := Option.isSome_iff_exists.1 last
    have period : p = cross - l := by
      show cross - r.lastCross.getD cross = _
      rw [hl, Option.getD_some]
    obtain ⟨-, -, taken⟩ := crossing_acquire (s := s') (i := i.toNat) (at_ := cross) (age := ago) (by rw [own]; exact st)
      (l := l) (by rw [own]; exact hl)
    rw [lockN_eq same, own, ← period] at taken
    obtain ⟨becomes, pends⟩ := taken inside locks hk
    refine ⟨t, run, ?_⟩
    rw [follows.ref, becomes]
    exact ⟨rfl, rfl, rfl, follows.pends _ pends⟩
  case collects =>
    intro seen
    obtain ⟨s', t, same, ⟨due, own⟩, run, follows⟩ := crossing_taken works seen
    obtain ⟨l, hl⟩ := Option.isSome_iff_exists.1 last
    have period : p = cross - l := by
      show cross - r.lastCross.getD cross = _
      rw [hl, Option.getD_some]
    obtain ⟨-, taken, -⟩ := crossing_acquire (s := s') (i := i.toNat) (at_ := cross) (age := ago) (by rw [own]; exact st)
      (l := l) (by rw [own]; exact hl)
    rw [lockN_eq same, own, ← period] at taken
    refine ⟨t, run, ?_⟩
    rw [follows.ref, taken inside open_]
    exact ⟨st, rfl, rfl⟩
  case discards =>
    intro seen
    obtain ⟨s', t, same, ⟨due, own⟩, run, follows⟩ := crossing_taken works seen
    obtain ⟨l, hl⟩ := Option.isSome_iff_exists.1 last
    have period : p = cross - l := by
      show cross - r.lastCross.getD cross = _
      rw [hl, Option.getD_some]
    obtain ⟨taken, -, -⟩ := crossing_acquire (s := s') (i := i.toNat) (at_ := cross) (age := ago) (by rw [own]; exact st)
      (l := l) (by rw [own]; exact hl)
    rw [own, ← period] at taken
    refine ⟨t, run, ?_⟩
    rw [follows.ref, taken outside]
    exact ⟨st, rfl, rfl⟩
  case tracks =>
    intro seen
    obtain ⟨s', t, same, ⟨due, own⟩, run, follows⟩ := crossing_taken works seen
    obtain ⟨-, taken⟩ := crossing_locked (s := s') (i := i.toNat) (at_ := cross) (age := ago) (by rw [own]; exact st)
    rw [own] at taken
    obtain ⟨err, slew, becomes⟩ := taken (by
      rintro (out | out | out)
      · rw [show periodInRange _ = true from inside] at out
        cases out
      · exact absurd out (Nat.not_lt.2 high)
      · exact absurd out (Nat.not_lt.2 low))
    refine ⟨t, run, ?_⟩
    rw [follows.ref, becomes]
    exact ⟨st, rfl, rfl, rfl⟩
  case slips =>
    intro seen
    obtain ⟨s', t, same, ⟨due, own⟩, run, follows⟩ := crossing_taken works seen
    obtain ⟨taken, -⟩ := crossing_locked (s := s') (i := i.toNat) (at_ := cross) (age := ago) (by rw [own]; exact st)
    rw [own] at taken
    obtain ⟨becomes, pends⟩ := taken out hk
    refine ⟨t, run, ?_⟩
    rw [follows.ref, becomes]
    exact ⟨rfl, rfl, rfl, follows.pends _ pends⟩
  case returns =>
    intro seen
    obtain ⟨s', t, same, ⟨due, own⟩, run, follows⟩ := crossing_taken works seen
    obtain ⟨taken, -⟩ := crossing_holdover (s := s') (i := i.toNat) (at_ := cross) (age := ago) (by rw [own]; exact st)
    rw [own] at taken
    obtain ⟨err, slew, becomes⟩ := taken ⟨low, high⟩
    refine ⟨t, run, ?_⟩
    rw [follows.ref, becomes]
    exact ⟨rfl, rfl⟩
  case fails =>
    intro seen
    obtain ⟨s', t, same, ⟨due, own⟩, run, follows⟩ := crossing_taken works seen
    obtain ⟨-, taken⟩ := crossing_holdover (s := s') (i := i.toNat) (at_ := cross) (age := ago) (by rw [own]; exact st)
    rw [own] at taken
    obtain ⟨becomes, retired⟩ := taken far
    refine ⟨t, run, ?_, NoEventOf.kept retired follows.quiet follows.within.part⟩
    rw [follows.ref, becomes]
  case timeout =>
    have change : (ref s k).st ≠ .holdover := by rw [show (ref s k).st = .locked from st]; decide
    have follows : Follows k (refTo s k .holdover) (refCopies (refTo s k .holdover)) :=
      copies_follow hk ((refTo_regs s hk .holdover).mono fun _ _ h => ⟨k, h⟩) (by omega)
    refine ⟨_, congrArg done ((work _).trans (if_pos ⟨source, st, ?_⟩)), ?_⟩
    · rw [follows.ref, (refTo_plain change).2.1 rfl]
      exact ⟨rfl, rfl, rfl⟩
    · rw [show (ref s i.toNat).lastCross = some l from last]
      exact late
  case expiry =>
    have change : (ref s k).st ≠ .lost := by rw [show (ref s k).st = .holdover from st]; decide
    have follows : Follows k (refTo s k .lost) (refCopies (refTo s k .lost)) :=
      copies_follow hk ((refTo_regs s hk .lost).mono fun _ _ h => ⟨k, h⟩) source
    obtain ⟨becomes, retired⟩ := (refTo_plain change).2.2.1 rfl
    refine ⟨_, congrArg done ((work _).trans (if_pos ⟨st, fun h => source h.1, ?_⟩)), ?_, NoEventOf.kept retired follows.quiet follows.within.part⟩
    · rw [follows.ref, becomes]
    · rw [show (ref s i.toNat).lastCross = some l from last]
      exact late
  case off =>
    have free : refcfgRefused s k v = false := by
      unfold refcfgRefused
      dsimp only
      rw [decide_eq_false (by omega), Bool.false_and]
    obtain ⟨s1, only, bits, source', store⟩ := refcfgStore_takes hk unlocked free
    have gone : refSrc s1 k = 0 := by
      rw [source']
      split <;> omega
    have same : ref s1 k = ref s k := by
      rw [only]
      rfl
    obtain ⟨st, retired, kept⟩ := refOff_copies (s := s1) hk (by omega)
    rw [if_pos gone] at store
    rw [same] at retired
    exact ⟨_, congrArg done ((work _).trans store), st, retired, refcfg_kept hk kept bits⟩
  case start =>
    obtain ⟨s1, only, bits, source', store⟩ := refcfgStore_takes hk unlocked free
    rw [if_neg (by omega)] at source'
    obtain ⟨u, hu⟩ : ∃ u, u = refTo (setRef s1 k Ref.init) k .acquire := ⟨_, rfl⟩
    have kept : RegsKept s1 u refsRegs := hu ▸ RegsKept.trans (.of_regs (t := setRef s1 k Ref.init) rfl _)
      ((refTo_regs _ hk .acquire).mono fun _ _ h => ⟨k, h⟩)
    have follows : Follows k u (refCopies u) := copies_follow hk kept (by omega)
    rw [if_neg (by omega), if_pos ⟨by omega, st⟩, ← hu] at store
    refine ⟨_, congrArg done ((work _).trans store), ?_, refcfg_kept hk (kept.trans follows.regs) bits⟩
    rw [follows.ref, hu, (refTo_plain (by rw [ref_setRef_same]; decide)).1 (.inl rfl)]
  case refused =>
    have store : refcfgStore s k v = capture s phrefPg 8 k := by
      unfold refcfgStore
      rw [unlessLocked_open _ _ unlocked, if_pos refuses]
    have within : Within Area.ofSignal s (capture s phrefPg 8 k) := capture_within (.refl s) ..
    have other : ¬ captureRegs phrefPg phrefPg (16 + 4 * k) := fun h => by
      have := h.2
      omega
    exact ⟨capture s phrefPg 8 k, congrArg done ((work _).trans store), regsKept_capture s phrefPg 8 k _ _ (by omega) other,
      within.refs, captured_capture s phrefPg 8 k⟩
  case synthetic =>
    have change : (ref s k).st ≠ .locked := by rw [show (ref s k).st = .off from st]; decide
    have follows : Follows k (refTo s k .locked) (refCopies (refTo s k .locked)) :=
      copies_follow hk ((refTo_regs s hk .locked).mono fun _ _ h => ⟨k, h⟩) (by omega)
    refine ⟨_, congrArg done ((work _).trans (if_pos ⟨source, st⟩)), ?_⟩
    rw [follows.ref, (refTo_plain change).1 (.inr rfl)]
  case reset =>
    obtain ⟨u, hu⟩ : ∃ u, u = (List.range 8).foldl (fun s i => refTo s i .off) s := ⟨_, rfl⟩
    have all := allOff s
    rw [← hu] at all
    have resets : phrefReset s = resetPage u phrefPg := by
      rw [hu]
      exact unlessLocked_open _ _ unlocked
    refine ⟨resetPage u phrefPg, congrArg done ((work _).trans resets), all, fun o ho other => ?_⟩
    rw [rget_resetPage _ _ _ ho, if_neg (by omega)]

end Sys2Proof.Machine

namespace Sys2Proof.Machine
open Sys2Proof
set_option Elab.async false

/-! ## A submission to Sluice through a port with parity errors -/

/-- A package in Run that has found wrong parity at the port of the channel block of region 0. -/
def voteBadPort : State := { State.reset with part := .tfw2, safety := .run, badPorts := [128] }

/-- A requester of that package. -/
def voteStamp : Stamp := { cls := 0, die := 0, core := 0, ctx := 0, comp := 0, priv := 0, set := false, epoch := 0 }

theorem voteBadPort_admits : clocked voteBadPort = true ∧ pageReach voteBadPort (propPg 0 0) = .ok ∧
    unitOf voteBadPort.part (propPg 0 0) = some .prop ∧ (voter voteBadPort 0).slotFor 0 voteStamp = some 0 ∧
    targetOk voteBadPort voteStamp (regAddr (propPg 0 0) 16) .store = true := by decide

theorem voteBadPort_away : portReach voteBadPort (propPg 0 0) = .parity := by decide

theorem voteBadPort_noSlot : pslotAt voteBadPort 0 0 = none := by decide

/-- The store of PARG does not reach its page. -/
theorem voteBadPort_parg : exec (.parg voteStamp 0 0 0) voteBadPort = .next (unreached voteBadPort 0 (propPg 0 0) 16 .parity) := by
  show done (unitRequest voteBadPort voteStamp (propPg 0 0) 16 .store fun s => pargStore s 0 0 voteStamp 0) = _
  unfold unitRequest
  rw [voteBadPort_admits.1, voteBadPort_away]
  rfl

/-- Refutes O45: the port of the channel block discards a store of PARG that arrives with wrong parity (R35), so the page in reach
is not enough for the slot to be taken. -/
theorem not_sluiceSubmissions : ¬ Obligations.SluiceSubmissions := by
  intro all
  obtain ⟨clock, reach, unit, free, granted⟩ := voteBadPort_admits
  obtain ⟨stages, -⟩ := all voteBadPort voteStamp 0 0 0 0 0 0 { chan := 0, key := 0, t0 := 0, props := [] }
    { lane := 0, die := 0, release := false, action := 0, arg := 0 } clock reach (by decide) unit
  obtain ⟨t, run, staged, -⟩ := stages free granted
  have ends := Host.Outcome.next.inj (voteBadPort_parg.symm.trans run)
  have kept : Within [.fresh, .busReply, .regs, .evTick, .events, .badPorts] voteBadPort
      (unreached voteBadPort 0 (propPg 0 0) 16 .parity) := unreached_within (.refl _) ..
  have slots : pslotAt t 0 0 = pslotAt voteBadPort 0 0 := by
    rw [← ends]
    exact congrArg (fun x => kget (fun _ => none) x.slots 0) (kept.voter 0)
  exact absurd (staged.symm.trans (slots.trans voteBadPort_noSlot)) (Option.some_ne_none _)

end Sys2Proof.Machine

namespace Sys2Proof.Machine
open Sys2Proof
set_option Elab.async false

/-! ## The debug commands (R656, R657, R663 to R668) -/

section
variable {s : State}

/-! ### Requests to the FRZ page -/

/-- A request to the FRZ page, which no target gate and no port stands before, reaches it. -/
theorem unitRequest_frzPg {off : Nat} (hoff : off < 512) (clock : clocked s = true) (reach : pageReach s frzPg = .ok) (st : Stamp) (k : Kind)
    (f : State → State) : unitRequest s st frzPg off k f = f (replyWord s 0) := by
  have port : portReach s frzPg = .ok := by
    unfold portReach
    rw [reach, show portOfPage frzPg = none by decide]
  have space : regAddr frzPg off / 134217728 = 1 := by
    unfold regAddr frzPg pkgPg pageNo
    omega
  have page : regAddr frzPg off / 512 % 32768 = frzPg := by
    unfold regAddr frzPg pkgPg pageNo
    omega
  have gate : targetOf s (regAddr frzPg off) = none := by
    unfold targetOf
    simp only [space, one_ne_zero, if_false, if_true]
    unfold pageAddr
    dsimp only
    rw [page]
    split
    · next h =>
      split at h
      · cases h
        decide
      · split at h <;> cases h
    · rfl
  have granted : targetOk s st (regAddr frzPg off) k = true := by
    unfold targetOk
    rw [gate]
  unfold unitRequest
  rw [clock, port, granted]
  rfl

/-- The registers of the FRZ page that a debug command may write. -/
def debugRegs (p off : Nat) : Prop := p = frzPg ∧ (off = 6 ∨ off = 7 ∨ off = 9 ∨ off = 17 ∨ off = 21)

/-- A refusal at the FRZ page, which has taken a register of the debugger before. -/
theorem debugRefusal_shows (off : Nat) (v : Word) (cause info : Nat) (ho : off = 17 ∨ off = 21) :
    let t := capture (rset (replyWord s 0) frzPg off v) frzPg cause info
    Captured s t frzPg cause info ∧ t.cores = s.cores ∧ RegsKept s t debugRegs ∧ t.mem = s.mem ∧ rget t frzPg off = v := by
  intro t
  have small : off < 512 := by omega
  have same {o : Nat} (h : o ≠ off) (hs : o < 512) : rget (rset (replyWord s 0) frzPg off v) frzPg o = rget s frzPg o := by
    rw [rget_rset _ v small hs, if_neg fun e => h e.2]
    rfl
  have captured : Within [.regs, .evTick, .events] (rset (replyWord s 0) frzPg off v) t := capture_within (.refl _) ..
  refine ⟨(captured_capture ..).of_before (same (by omega) (by decide)) (same (by omega) (by decide)), captured.cores, ?_, captured.mem, ?_⟩
  · refine RegsKept.trans (t := rset (replyWord s 0) frzPg off v) ?_ (.capture _ _ _ ⟨⟨rfl, by omega⟩, ⟨rfl, by omega⟩, ⟨rfl, by omega⟩⟩)
    exact RegsKept.trans (t := replyWord s 0) (.of_regs rfl _) (.rset _ _ small ⟨rfl, by omega⟩)
  · show rget (capture _ frzPg cause info) frzPg off = v
    rw [regsKept_capture (rset (replyWord s 0) frzPg off v) frzPg cause info frzPg off small (fun h => by have := h.2; omega)]
    exact rget_rset_same ..

/-- A refusal at the FRZ page of a requester that is not the debug master. -/
theorem strangerRefusal_shows (cause info : Nat) :
    let t := capture (replyWord s 0) frzPg cause info
    Captured s t frzPg cause info ∧ t.cores = s.cores ∧ RegsKept s t debugRegs ∧ t.mem = s.mem := by
  intro t
  have captured : Within [.regs, .evTick, .events] (replyWord s 0) t := capture_within (.refl _) ..
  refine ⟨(captured_capture ..).of_before rfl rfl, captured.cores, ?_, captured.mem⟩
  exact RegsKept.trans (t := replyWord s 0) (.of_regs rfl _) (.capture _ _ _ ⟨⟨rfl, by omega⟩, ⟨rfl, by omega⟩, ⟨rfl, by omega⟩⟩)

/-! ### The commands of DBGCTL -/

/-- The state in which DBGCTL has named a core. -/
def dbgNamed (s : State) (n : Nat) : State := rset (replyWord s 0) frzPg 17 (fval 32 26 n)

theorem dbgctl_master {st : Stamp} (master : st.cls = 2) (allowed : 2 ≤ dbgState s) (op n h : Nat) :
    dbgctl (replyWord s 0) st op n h = if op = 1 then haltCtx (dbgNamed s n) n h else if op = 2 then stepCtx (dbgNamed s n) n h
      else if op = 3 then runCtx (dbgNamed s n) n h else dbgNamed s n := by
  unfold dbgctl byDebug
  rw [if_pos master]
  exact if_neg (Nat.not_lt.2 allowed)

theorem dbgctl_halt {st : Stamp} (master : st.cls = 2) (allowed : 2 ≤ dbgState s) (n h : Nat) :
    dbgctl (replyWord s 0) st 1 n h = haltCtx (dbgNamed s n) n h :=
  (dbgctl_master master allowed 1 n h).trans (if_pos rfl)

theorem dbgctl_step {st : Stamp} (master : st.cls = 2) (allowed : 2 ≤ dbgState s) (n h : Nat) :
    dbgctl (replyWord s 0) st 2 n h = stepCtx (dbgNamed s n) n h :=
  ((dbgctl_master master allowed 2 n h).trans (if_neg (by decide))).trans (if_pos rfl)

theorem dbgctl_run {st : Stamp} (master : st.cls = 2) (allowed : 2 ≤ dbgState s) (n h : Nat) :
    dbgctl (replyWord s 0) st 3 n h = runCtx (dbgNamed s n) n h :=
  (((dbgctl_master master allowed 3 n h).trans (if_neg (by decide))).trans (if_neg (by decide))).trans (if_pos rfl)

theorem dbgctl_closed {st : Stamp} (master : st.cls = 2) (closed : dbgState s < 2) (op n h : Nat) :
    dbgctl (replyWord s 0) st op n h = dbgRefuse (dbgNamed s n) n := by
  unfold dbgctl byDebug
  rw [if_pos master]
  exact if_pos closed

theorem dbgctl_stranger {st : Stamp} (stranger : st.cls ≠ 2) (op n h : Nat) :
    dbgctl (replyWord s 0) st op n h = capture (replyWord s 0) frzPg 8 17 := if_neg stranger

/-- The registers that a context's change at the FRZ page leaves. -/
theorem dbgNamed_setCtx (n h : Nat) (x : Ctx) : RegsKept s (setCtx (dbgNamed s n) n h x) debugRegs ∧ (setCtx (dbgNamed s n) n h x).mem = s.mem := by
  refine ⟨?_, rfl⟩
  refine RegsKept.trans (t := dbgNamed s n) ?_ (.of_regs rfl _)
  exact RegsKept.trans (t := replyWord s 0) (.of_regs rfl _) (.rset _ _ (by decide) ⟨rfl, by omega⟩)

/-- Multiplications that complete move only what they deliver (R664). -/
theorem Ctx.finishMuls_keeps (x : Ctx) :
    x.finishMuls.muls = [] ∧ x.finishMuls.pcc = x.pcc ∧ x.finishMuls.w = x.w ∧ x.finishMuls.c = x.c := by
  unfold Ctx.finishMuls
  refine foldl_keeps (P := fun y : Ctx => y.muls = [] ∧ y.pcc = x.pcc ∧ y.w = x.w ∧ y.c = x.c) ?_ _ _ ?_
  · exact fun _ _ kept => kept
  · exact ⟨rfl, rfl, rfl, rfl⟩

theorem Ctx.finishMuls_none {x : Ctx} (done_ : x.muls = []) : x.finishMuls = x := by
  unfold Ctx.finishMuls
  rw [done_]
  cases x
  subst done_
  rfl

theorem ctxAt_dbgNamed (n m k : Nat) : ctxAt (dbgNamed s n) m k = ctxAt s m k := congrArg (·.ctx k) (coreAt_of_cores rfl m)

/-- The interrupts that are due do not depend on what DBGCTL names. -/
theorem interruptDue_dbgNamed {n : Nat} (hn : n < 128) : interruptDue (dbgNamed s n) n = interruptDue s n := by
  have other : corePg n ≠ frzPg := ((corePg_lt hn).trans (by decide)).ne
  have reads {pg off : Nat} (ho : off < 512) (apart : pg ≠ frzPg ∨ off ≠ 17) : rget (dbgNamed s n) pg off = rget s pg off := by
    unfold dbgNamed
    rw [rget_rset _ _ (by decide) ho, if_neg fun e => apart.elim (absurd e.1) (absurd e.2)]
    rfl
  have ctx (h : Nat) : ctxAt (dbgNamed s n) n h = ctxAt s n h := ctxAt_dbgNamed n n h
  have routes (i : Nat) (hi : i < 40) : route (dbgNamed s n) n i = route s n i := reads (by omega) (Or.inl other)
  have pri (h : Nat) (hh : h < 4) : ctxPri (dbgNamed s n) n h = ctxPri s n h :=
    congrArg (fun w => fld w 33 32) (reads (by omega) (Or.inl other))
  have drives (pg : Nat) : pageDrives (dbgNamed s n) pg = pageDrives s pg := by
    unfold pageDrives
    rw [reads (by decide) (Or.inr (by decide)), reads (by decide) (Or.inr (by decide))]
  have pending (i : Nat) (hi : i < 40) : linePending (dbgNamed s n) n i = linePending s n i := by
    unfold linePending
    rw [routes i hi]
    dsimp only
    rw [drives]
  have line (h : Nat) : lineFor (dbgNamed s n) n h = lineFor s n h := by
    unfold lineFor
    have lines : (List.range 40).filter (fun i => linePending (dbgNamed s n) n i && decide (fld (route (dbgNamed s n) n i) 34 33 = h ∧
        (ctxAt (dbgNamed s n) n h).mlv.toNat < fld (route (dbgNamed s n) n i) 32 29)) =
        (List.range 40).filter (fun i => linePending s n i && decide (fld (route s n i) 34 33 = h ∧
        (ctxAt s n h).mlv.toNat < fld (route s n i) 32 29)) :=
      List.filter_congr fun i hi => by rw [pending i (List.mem_range.1 hi), routes i (List.mem_range.1 hi), ctx]
    rw [lines]
    exact List.foldl_ext _ _ none fun b i hi => by rw [routes i (List.mem_range.1 (List.mem_of_mem_filter hi))]
  have wakes (k : Nat) : woken (dbgNamed s n) n k = woken s n k := by
    unfold woken
    rw [line, ctx]
  have selects (up : Nat → Option Nat) : selectWith (dbgNamed s n) n up = selectWith s n up := by
    unfold selectWith
    refine congrArg (fun l => (bestOf l).map fun t => t.2.2) (List.filterMap_congr fun h hh => ?_)
    rw [pri h (List.mem_range.1 hh), ctx]
  have first : handlerFirst (dbgNamed s n) n = handlerFirst s n := rfl
  unfold interruptDue
  simp only [first, line, wakes, selects, ctx]

/-! ### Halting -/

/-- No entry is due at the boundary of a context that has no event of R299 waiting (R664). -/
theorem haltEntry_idle {t : State} {n h : Nat} (idle : (ctxAt t n h).fresh = true ∨ ((ctxAt t n h).lates = [] ∧ interruptDue t n = none)) :
    haltEntry t n h = t := by
  unfold haltEntry
  rcases idle with fresh | ⟨lates, due⟩
  · exact if_neg fun c => absurd (fresh.symm.trans c.2) (by decide)
  · rw [lates, due]
    split
    · rw [if_neg (fun c => absurd c.2 (by decide)), if_neg (by simp)]
    · rfl

/-- HALT of a context that is not Empty and has no event waiting (R664). -/
theorem haltCtx_stops {n h : Nat} (hn : n < 128) (live : (ctxAt s n h).st ≠ .empty) (able : haltable s n = true)
    (runs : (ctxAt s n h).halted = false)
    (idle : (ctxAt s n h).fresh = true ∨ ((ctxAt s n h).lates = [] ∧ interruptDue s n = none)) :
    haltCtx (dbgNamed s n) n h = irqPend (setCtx (dbgNamed s n) n h (ctxAt s n h).stopped) frzPg 1 := by
  have entry : haltEntry (dbgNamed s n) n h = dbgNamed s n :=
    haltEntry_idle (idle.imp_right fun i => ⟨i.1, (interruptDue_dbgNamed hn).trans i.2⟩)
  unfold haltCtx
  rw [if_neg (show ¬ ((ctxAt (dbgNamed s n) n h).st = .empty ∨ haltable (dbgNamed s n) n = false) from
    fun c => c.elim live fun no => absurd (able.symm.trans no) (by decide)),
    if_neg (show ¬ (ctxAt (dbgNamed s n) n h).halted = true from fun c => absurd (runs.symm.trans c) (by decide))]
  dsimp only
  rw [entry]
  rfl

/-- HALT of a context that is Empty, or of a core whose domain does not run (R664). -/
theorem haltCtx_refuses {n h : Nat} (bad : (ctxAt s n h).st = .empty ∨ haltable s n = false) :
    haltCtx (dbgNamed s n) n h = dbgRefuse (dbgNamed s n) n := if_pos bad

theorem released_pcc (x : Ctx) : x.released.pcc = if x.atBreak then x.pcc.move (x.pcc.cursor + 1) else x.pcc := by
  unfold Ctx.released
  dsimp only
  split <;> rfl

theorem released_words (x : Ctx) : x.released.w = x.w ∧ x.released.stepping = false := by
  unfold Ctx.released
  dsimp only
  split <;> exact ⟨rfl, rfl⟩

theorem stepCtx_named (n h : Nat) : stepCtx (dbgNamed s n) n h = if (ctxAt s n h).halted then
    setCtx (dbgNamed s n) n h { (ctxAt s n h).released with halted := true, stepping := true } else dbgRefuse (dbgNamed s n) n := by
  unfold stepCtx
  rw [ctxAt_dbgNamed]

theorem runCtx_named (n h : Nat) : runCtx (dbgNamed s n) n h =
    if (ctxAt s n h).halted then setCtx (dbgNamed s n) n h (ctxAt s n h).released else dbgRefuse (dbgNamed s n) n := by
  unfold runCtx
  rw [ctxAt_dbgNamed]

/-- What a change of one context leaves of the others. -/
theorem others_setCtx {t : State} (n h : Nat) (x : Ctx) (same : ∀ m k, ctxAt t m k = ctxAt s m k) :
    ∀ m k, ¬ (m = n ∧ k = h) → ctxAt (setCtx t n h x) m k = ctxAt s m k :=
  fun m k apart => (ctxAt_setCtx_other _ x apart).trans (same m k)

/-! ### The registers of a halted context (R668, Table 14.4) -/

/-- A read of a register that is reached shows it and its tag. -/
theorem dbgrdataLoad_shows {w : Word} {tag : Bool} (reached : regReach s (dbgTarget s).1 (dbgTarget s).2.1 (dbgTarget s).2.2 false = true)
    (shows : ctxReg s (dbgTarget s).2.1 (ctxAt s (dbgTarget s).1 (dbgTarget s).2.1) (dbgTarget s).2.2 = some (w, tag)) :
    dbgrdataLoad s = (w, rset s frzPg 21 (fval 35 35 (bnat tag) ||| fval 34 34 1)) := by
  unfold dbgrdataLoad
  dsimp only
  rw [reached, shows]

theorem dbgrdataLoad_refuses (away : regReach s (dbgTarget s).1 (dbgTarget s).2.1 (dbgTarget s).2.2 false = false) :
    dbgrdataLoad s = (0, regRefuse s (dbgTarget s).2.2) := by
  unfold dbgrdataLoad
  dsimp only
  rw [away]

theorem dbgrdataStore_writes {st : Stamp} (master : st.cls = 2) (v : Word)
    (reached : regReach s (dbgTarget s).1 (dbgTarget s).2.1 (dbgTarget s).2.2 true = true) :
    dbgrdataStore s st v = rset (setCtx s (dbgTarget s).1 (dbgTarget s).2.1
      (ctxRegSet (ctxAt s (dbgTarget s).1 (dbgTarget s).2.1) (dbgTarget s).2.2 v)) frzPg 21 (fval 34 34 1) := by
  unfold dbgrdataStore byDebug
  rw [if_pos master]
  exact if_pos reached

theorem dbgrdataStore_refuses {st : Stamp} (master : st.cls = 2) (v : Word)
    (away : regReach s (dbgTarget s).1 (dbgTarget s).2.1 (dbgTarget s).2.2 true = false) :
    dbgrdataStore s st v = regRefuse s (dbgTarget s).2.2 := by
  unfold dbgrdataStore byDebug
  rw [if_pos master]
  exact if_neg (Bool.eq_false_iff.1 away)

theorem regReach_read {n h i : Nat} (halted : (ctxAt s n h).halted = true) (seen : s.lcs = .blank ∨ tokenSlot s n = true)
    (hi : i < 404) (allowed : 2 ≤ dbgState s) : regReach s n h i false = true := by
  unfold regReach
  rw [halted, decide_eq_true hi, if_neg (by decide), decide_eq_true allowed]
  rcases seen with blank | token
  · rw [blank]
    rfl
  · rw [token, Bool.or_true]
    rfl

theorem regReach_write {n h i : Nat} (halted : (ctxAt s n h).halted = true) (seen : s.lcs = .blank ∨ tokenSlot s n = true)
    (hi : i < 404) (full : dbgState s = 3) : regReach s n h i true = true := by
  unfold regReach
  rw [halted, decide_eq_true hi, if_pos rfl, decide_eq_true full]
  rcases seen with blank | token
  · rw [blank]
    rfl
  · rw [token, Bool.or_true]
    rfl

theorem regReach_away {n h i : Nat} {write : Bool} (away : (ctxAt s n h).halted = false ∨ 404 ≤ i ∨ (write = true ∧ dbgState s ≠ 3)) :
    regReach s n h i write = false := by
  unfold regReach
  rcases away with runs | beyond | ⟨rfl, partial_⟩
  · rw [runs]
    rfl
  · rw [decide_eq_false (Nat.not_lt.2 beyond), Bool.and_false]
    rfl
  · rw [if_pos rfl, decide_eq_false partial_, Bool.and_false]

theorem ctxReg_word (h : Nat) (x : Ctx) {i : Nat} (hi : i < 224) : ctxReg s h x i = some (x.wphys i, false) := if_pos hi

theorem ctxReg_cap (h : Nat) (x : Ctx) {i : Nat} (low : 224 ≤ i) (high : i < 240) :
    ctxReg s h x i = some (if i % 2 = 1 then (x.cphys ((i - 224) / 2)).lo else (x.cphys ((i - 224) / 2)).hi, (x.cphys ((i - 224) / 2)).tag) := by
  unfold ctxReg capWord
  rw [if_neg (Nat.not_lt.2 low), if_pos high]
  by_cases odd : i % 2 = 1
  · rw [odd]
    rfl
  · rw [if_neg odd, show (i % 2 == 1) = false from beq_false_of_ne odd]
    rfl

/-- A word register that a debugger writes; the others stay. -/
theorem ctxRegSet_word (x : Ctx) {i : Nat} (first : 1 ≤ i) (hi : i < 224) (v : Word) :
    (ctxRegSet x i v).wphys i = v ∧ (∀ j, j ≠ i → (ctxRegSet x i v).wphys j = x.wphys j) ∧ (ctxRegSet x i v).c = x.c ∧
      (ctxRegSet x i v).psw = x.psw := by
  have set : ctxRegSet x i v = { x with w := kset (fun _ => 0) x.w i v } := by
    unfold ctxRegSet Ctx.wphysSet
    rw [if_pos hi, if_neg (by omega)]
  rw [set]
  refine ⟨?_, fun j other => ?_, rfl, rfl⟩
  · unfold Ctx.wphys
    rw [if_neg (by omega)]
    exact kget_kset_same ..
  · unfold Ctx.wphys
    split
    · rfl
    · exact kget_kset_other _ _ _ other

/-- A word of a capability register that a debugger writes untags it. -/
theorem ctxRegSet_cap (x : Ctx) {i : Nat} (low : 226 ≤ i) (high : i < 240) (v : Word) :
    ((ctxRegSet x i v).cphys ((i - 224) / 2)).tag = false ∧
    (if i % 2 = 1 then ((ctxRegSet x i v).cphys ((i - 224) / 2)).lo = v else ((ctxRegSet x i v).cphys ((i - 224) / 2)).hi = v) ∧
    (ctxRegSet x i v).w = x.w := by
  have some_ : (i - 224) / 2 ≠ 0 := by omega
  have set : ctxRegSet x i v = { x with
      c := kset (fun _ => Cap.null) x.c ((i - 224) / 2) (capPut (x.cphys ((i - 224) / 2)) (i % 2 == 1) v) } := by
    unfold ctxRegSet Ctx.cphysSet
    rw [if_neg (by omega), if_pos high, if_neg some_]
  have read : (ctxRegSet x i v).cphys ((i - 224) / 2) = capPut (x.cphys ((i - 224) / 2)) (i % 2 == 1) v := by
    rw [set]
    unfold Ctx.cphys
    rw [if_neg some_]
    exact kget_kset_same ..
  rw [read]
  refine ⟨?_, ?_, by rw [set]⟩
  · unfold capPut
    split <;> rfl
  · by_cases odd : i % 2 = 1
    · rw [if_pos odd, odd]
      rfl
    · rw [if_neg odd, show (i % 2 == 1) = false from beq_false_of_ne odd]
      rfl

/-! ### The statement -/

section
variable (clock : clocked s = true) (reach : pageReach s frzPg = .ok)
include clock reach

theorem exec_halt (st : Stamp) (core : BitVec 7) (ctx : BitVec 2) :
    exec (.halt st core ctx) s = .next (dbgctl (replyWord s 0) st 1 core.toNat ctx.toNat) :=
  congrArg done (unitRequest_frzPg (by decide) clock reach ..)

theorem exec_step (st : Stamp) (core : BitVec 7) (ctx : BitVec 2) :
    exec (.step st core ctx) s = .next (dbgctl (replyWord s 0) st 2 core.toNat ctx.toNat) :=
  congrArg done (unitRequest_frzPg (by decide) clock reach ..)

theorem exec_run (st : Stamp) (core : BitVec 7) (ctx : BitVec 2) :
    exec (.run st core ctx) s = .next (dbgctl (replyWord s 0) st 3 core.toNat ctx.toNat) :=
  congrArg done (unitRequest_frzPg (by decide) clock reach ..)

theorem exec_dbgRead (st : Stamp) : exec (.dbgrdataAccess st none) s =
    .next (replyWord (dbgrdataLoad (replyWord s 0)).2 (dbgrdataLoad (replyWord s 0)).1) :=
  congrArg done (unitRequest_frzPg (by decide) clock reach ..)

theorem exec_dbgWrite (st : Stamp) (v : Word) : exec (.dbgrdataAccess st (some v)) s = .next (dbgrdataStore (replyWord s 0) st v) :=
  congrArg done (unitRequest_frzPg (by decide) clock reach ..)

end

/-- A command of DBGCTL that is refused. -/
theorem dbgRefuse_shows (n : Nat) :
    Captured s (dbgRefuse (dbgNamed s n) n) frzPg 9 n ∧ (dbgRefuse (dbgNamed s n) n).cores = s.cores ∧
      RegsKept s (dbgRefuse (dbgNamed s n) n) debugRegs ∧ (dbgRefuse (dbgNamed s n) n).mem = s.mem := by
  obtain ⟨captured, cores, regs, mem, -⟩ := debugRefusal_shows (s := s) 17 (fval 32 26 n) 9 n (Or.inl rfl)
  exact ⟨captured, cores, regs, mem⟩

/-- A change of one register of a halted context, and DBGRSTAT that shows it. -/
theorem debugWrite_shows (n h : Nat) (x : Ctx) (w : Word) :
    let t := rset (setCtx (replyWord s 0) n h x) frzPg 21 w
    ctxAt t n h = x ∧ (∀ m k, ¬ (m = n ∧ k = h) → ctxAt t m k = ctxAt s m k) ∧ rget t frzPg 21 = w ∧ RegsKept s t debugRegs ∧ t.mem = s.mem := by
  refine ⟨(ctxAt_rset ..).trans (ctxAt_setCtx_same ..), fun m k apart => (ctxAt_rset ..).trans (ctxAt_setCtx_other _ x apart),
    rget_rset_same .., ?_, rfl⟩
  exact RegsKept.trans (t := setCtx (replyWord s 0) n h x) (.of_regs rfl _) (.rset _ _ (by decide) ⟨rfl, by omega⟩)

/-- DBGRSTAT after a read that shows a register. -/
theorem debugRead_regs (w u : Word) :
    let t := replyWord (rset (replyWord s 0) frzPg 21 u) w
    rget t frzPg 21 = u ∧ RegsKept s t debugRegs ∧ t.mem = s.mem := by
  refine ⟨(rget_rset_same (replyWord s 0) ..), ?_, rfl⟩
  exact RegsKept.trans (t := replyWord s 0) (.of_regs rfl _) (RegsKept.trans (.rset _ u (by decide) ⟨rfl, by omega⟩) (.of_regs rfl _))

theorem ctxAt_irqPend (t : State) (pg b m k : Nat) : ctxAt (irqPend t pg b) m k = ctxAt t m k := rfl

/-- HALT stops a context (R664). -/
theorem halted_shows {n h : Nat} :
    let x := ctxAt s n h
    let t := irqPend (setCtx (dbgNamed s n) n h x.stopped) frzPg 1
    (ctxAt t n h).halted = true ∧ (ctxAt t n h).pcc = x.pcc ∧ (ctxAt t n h).muls = [] ∧ (ctxAt t n h).div = none ∧ (ctxAt t n h).w = x.w ∧
      (ctxAt t n h).c = x.c ∧ (x.muls = [] → (ctxAt t n h).mh = x.mh ∧ (ctxAt t n h).ml = x.ml) ∧
      (∀ m k, ¬ (m = n ∧ k = h) → ctxAt t m k = ctxAt s m k) ∧ bit (rget t frzPg 9) 1 = true ∧ rget t frzPg 17 = fval 32 26 n ∧
      RegsKept s t debugRegs ∧ t.mem = s.mem := by
  intro x t
  obtain ⟨muls, pcc, words, caps⟩ := x.finishMuls_keeps
  obtain ⟨u, hu⟩ : ∃ u, u = setCtx (dbgNamed s n) n h x.stopped := ⟨_, rfl⟩
  have same : t = irqPend u frzPg 1 := congrArg (irqPend · frzPg 1) hu.symm
  obtain ⟨regs, mem⟩ := dbgNamed_setCtx (s := s) n h x.stopped
  have others := others_setCtx n h x.stopped (ctxAt_dbgNamed (s := s) n)
  have stored : ctxAt (setCtx (dbgNamed s n) n h x.stopped) n h = x.stopped := ctxAt_setCtx_same ..
  have named : rget (setCtx (dbgNamed s n) n h x.stopped) frzPg 17 = fval 32 26 n := rget_rset_same ..
  rw [← hu] at regs mem others stored named
  rw [same]
  simp only [ctxAt_irqPend, stored]
  refine ⟨rfl, pcc, muls, rfl, words, caps, fun none_ => ?_, others, irqPend_pends _ _ (by decide), ?_, regs.trans (.irqPend _ _ ⟨rfl, by omega⟩), mem⟩
  · have stays := Ctx.finishMuls_none none_
    exact ⟨show x.finishMuls.mh = x.mh from congrArg Ctx.mh stays, show x.finishMuls.ml = x.ml from congrArg Ctx.ml stays⟩
  · rw [rget_irqPend _ _ _ (by decide), if_neg (by decide)]
    exact named

end

/-- Settles O60: DBGCTL names a core, and each command then writes the context that it names, or is refused. -/
theorem debugCommands : Obligations.DebugCommands := by
  intro s st core ctx v n h x tn th i y others named open_ notes clock reach
  have hn : n < 128 := core.isLt
  have halt := exec_halt clock reach st core ctx
  have step := exec_step clock reach st core ctx
  have run := exec_run clock reach st core ctx
  have read := exec_dbgRead clock reach st
  have write := exec_dbgWrite clock reach st v
  have refusal := dbgRefuse_shows (s := s) n
  have stranger := strangerRefusal_shows (s := s)
  have closed := debugRefusal_shows (s := s) 21 0 10 i (Or.inr rfl)
  obtain ⟨closedCaptured, closedCores, closedRegs, closedMem, closedShown⟩ := closed
  refine ⟨fun master allowed => ⟨fun live able runs idle => ?_, fun bad => ?_, fun halted => ⟨?_, ?_⟩, fun runs c hc => ?_⟩,
    fun master shut c hc => ?_, fun other c hc => ?_, fun opened allowed => ⟨fun hi => ?_, fun low high => ?_⟩,
    fun master opened full => ⟨fun first hi => ?_, fun low high => ?_⟩, fun away => ?_, fun master away => ?_, fun other => ?_⟩
  · have stops := (dbgctl_halt master allowed n h).trans (haltCtx_stops hn live able runs idle)
    exact ⟨_, halt.trans (congrArg _ stops), halted_shows⟩
  · exact ⟨_, halt.trans (congrArg _ ((dbgctl_halt master allowed n h).trans (haltCtx_refuses bad))), refusal⟩
  · have goes : stepCtx (dbgNamed s n) n h = setCtx (dbgNamed s n) n h { x.released with halted := true, stepping := true } :=
      (stepCtx_named n h).trans (if_pos halted)
    refine ⟨_, step.trans (congrArg _ ((dbgctl_step master allowed n h).trans goes)), ?_⟩
    rw [ctxAt_setCtx_same]
    exact ⟨rfl, rfl, released_pcc x, (released_words x).1, others_setCtx n h _ (ctxAt_dbgNamed n), dbgNamed_setCtx n h _⟩
  · have goes : runCtx (dbgNamed s n) n h = setCtx (dbgNamed s n) n h x.released := (runCtx_named n h).trans (if_pos halted)
    refine ⟨_, run.trans (congrArg _ ((dbgctl_run master allowed n h).trans goes)), ?_⟩
    rw [ctxAt_setCtx_same]
    exact ⟨released_halted x, (released_words x).2, released_pcc x, (released_words x).1, others_setCtx n h _ (ctxAt_dbgNamed n),
      dbgNamed_setCtx n h _⟩
  · have no : ¬ (ctxAt s n h).halted = true := Bool.eq_false_iff.1 runs
    rcases List.mem_pair.1 hc with rfl | rfl
    · exact ⟨_, step.trans (congrArg _ ((dbgctl_step master allowed n h).trans ((stepCtx_named n h).trans (if_neg no)))), refusal⟩
    · exact ⟨_, run.trans (congrArg _ ((dbgctl_run master allowed n h).trans ((runCtx_named n h).trans (if_neg no)))), refusal⟩
  · have shuts := fun op => dbgctl_closed (s := s) master shut op n h
    rcases List.mem_cons.1 hc with rfl | hc
    · exact ⟨_, halt.trans (congrArg _ (shuts 1)), refusal⟩
    · rcases List.mem_pair.1 hc with rfl | rfl
      · exact ⟨_, step.trans (congrArg _ (shuts 2)), refusal⟩
      · exact ⟨_, run.trans (congrArg _ (shuts 3)), refusal⟩
  · have refuses := fun op => dbgctl_stranger (s := s) other op n h
    rcases List.mem_cons.1 hc with rfl | hc
    · exact ⟨_, halt.trans (congrArg _ (refuses 1)), stranger 8 17⟩
    · rcases List.mem_pair.1 hc with rfl | rfl
      · exact ⟨_, step.trans (congrArg _ (refuses 2)), stranger 8 17⟩
      · exact ⟨_, run.trans (congrArg _ (refuses 3)), stranger 8 17⟩
  · have shows := dbgrdataLoad_shows (s := replyWord s 0) (regReach_read opened.1 opened.2 (show i < 404 by omega) allowed) (ctxReg_word th y hi)
    refine ⟨_, read, ?_⟩
    rw [shows]
    exact ⟨rfl, rfl, debugRead_regs ..⟩
  · have shows := dbgrdataLoad_shows (s := replyWord s 0) (regReach_read opened.1 opened.2 (show i < 404 by omega) allowed) (ctxReg_cap th y low high)
    refine ⟨_, read, ?_⟩
    rw [shows]
    exact ⟨rfl, rfl, debugRead_regs ..⟩
  · obtain ⟨set, rest, caps, psw⟩ := ctxRegSet_word y first hi v
    obtain ⟨stored, others, shown, regs, mem⟩ := debugWrite_shows (s := s) tn th (ctxRegSet y i v) (fval 34 34 1)
    refine ⟨rset (setCtx (replyWord s 0) tn th (ctxRegSet y i v)) frzPg 21 (fval 34 34 1), write.trans (congrArg _
      (dbgrdataStore_writes master v (regReach_write opened.1 opened.2 (show i < 404 by omega) full))), ?_⟩
    rw [stored]
    exact ⟨set, rest, caps, psw, others, shown, regs, mem⟩
  · obtain ⟨untagged, set, words⟩ := ctxRegSet_cap y low high v
    obtain ⟨stored, others, -, regs, mem⟩ := debugWrite_shows (s := s) tn th (ctxRegSet y i v) (fval 34 34 1)
    refine ⟨rset (setCtx (replyWord s 0) tn th (ctxRegSet y i v)) frzPg 21 (fval 34 34 1), write.trans (congrArg _
      (dbgrdataStore_writes master v (regReach_write opened.1 opened.2 (show i < 404 by omega) full))), ?_⟩
    rw [stored]
    exact ⟨untagged, set, words, others, regs, mem⟩
  · have refuses := dbgrdataLoad_refuses (s := replyWord s 0) (regReach_away (away.imp_right Or.inl))
    refine ⟨_, read, ?_⟩
    rw [refuses]
    exact ⟨rfl, closedShown, closedCaptured.after rfl rfl id, closedCores, closedRegs, closedMem⟩
  · have bad : y.halted = false ∨ 404 ≤ i ∨ (true = true ∧ dbgState s ≠ 3) := away.imp_right fun a => a.imp_right fun a => ⟨rfl, a⟩
    have refuses := dbgrdataStore_refuses (s := replyWord s 0) master v (regReach_away bad)
    exact ⟨_, write.trans (congrArg _ refuses), closedCaptured, closedCores, closedRegs, closedMem⟩
  · exact ⟨_, write.trans (congrArg _ (if_neg other)), stranger 8 20⟩

end Sys2Proof.Machine

namespace Sys2Proof.Machine
open Sys2Proof
set_option Elab.async false

/-! ## External memory ports (R575 to R578, R580) -/

section
variable {s : State} {i : Nat}

@[simp] theorem emp_setEmp_same (s : State) (i : Nat) (e : Emp) : emp (setEmp s i e) i = e := by simp [emp, setEmp]

/-! ### Enable -/

/-- The state in which CTL.EN of the port's page is 1, before the training. -/
def empEnabled (s : State) (i : Nat) : State :=
  if enabled s (empPg i) then s else enable s (empPg i) (empWhy s i)

/-- A page that its unit lets be enabled takes EN (R76). -/
theorem empEnabled_takes (idle : (dom s (domOfPage (empPg i))).drain = none) (base : bit (rget s (empPg i) 3) 0 = true)
    (dense : rfld s (empPg i) 4 4 3 ≠ 0) :
    enabled (empEnabled s i) (empPg i) = true ∧ RegsKept s (empEnabled s i) (fun p off => p = empPg i ∧ off = 4) ∧
      (∀ b, b ≠ 0 → bit (rget (empEnabled s i) (empPg i) 4) b = bit (rget s (empPg i) 4) b) ∧ (empEnabled s i).emps = s.emps ∧
      (empEnabled s i).mem = s.mem := by
  unfold empEnabled
  split
  next on => exact ⟨on, .refl _ _, fun _ _ => rfl, rfl, rfl⟩
  · have takes : enable s (empPg i) (empWhy s i) = rset s (empPg i) 4 (setBit (rget s (empPg i) 4) 0 true) := by
      unfold enable empWhy
      rw [idle, base, if_neg dense]
      rfl
    have read : rget (rset s (empPg i) 4 (setBit (rget s (empPg i) 4) 0 true)) (empPg i) 4 = setBit (rget s (empPg i) 4) 0 true :=
      rget_rset_same ..
    rw [takes]
    unfold enabled
    rw [read]
    exact ⟨bit_setBit_same _ _ _ (by decide), .rset _ _ (by decide) ⟨rfl, rfl⟩, fun b other => bit_setBit_other _ _ _ _ other, rfl, rfl⟩

theorem exec_empEnable {port : Bool} (works : unitWorks s (empPg (bnat port)) = true) (opened : locked s (empPg (bnat port)) = false)
    (ok : Bool) (channel : BitVec 2) :
    exec (.empEnable port ok channel) s = .next (if enabled (empEnabled s (bnat port)) (empPg (bnat port))
      then empJudge (empEnabled s (bnat port)) (bnat port) ok channel.toNat else empEnabled s (bnat port)) :=
  congrArg done ((unitDo_of_works works _).trans (unlessLocked_open 4 _ opened))

/-- A training that ends well puts DENS and RATE in force (R575). -/
theorem empEnable_trains {port : Bool} (works : unitWorks s (empPg (bnat port)) = true) (opened : locked s (empPg (bnat port)) = false)
    (idle : (dom s (domOfPage (empPg (bnat port)))).drain = none) (base : bit (rget s (empPg (bnat port)) 3) 0 = true)
    (dense : rfld s (empPg (bnat port)) 4 4 3 ≠ 0) (channel : BitVec 2) :
    ∃ t, exec (.empEnable port true channel) s = .next t ∧ enabled t (empPg (bnat port)) = true ∧
      emp t (bnat port) = { emp s (bnat port) with
        trained := true
        dens := rfld s (empPg (bnat port)) 4 4 3
        rate := if rfld s (empPg (bnat port)) 4 6 5 = 3 then 0 else rfld s (empPg (bnat port)) 4 6 5 } ∧ t.mem = s.mem ∧
      RegsKept s t (fun p off => p = empPg (bnat port) ∧ off = 4) := by
  obtain ⟨on, regs, bits, emps, mem⟩ := empEnabled_takes idle base dense
  have dens : rfld (empEnabled s (bnat port)) (empPg (bnat port)) 4 4 3 = rfld s (empPg (bnat port)) 4 4 3 :=
    fld_of_bits fun b low _ => bits b (by omega)
  have rate : rfld (empEnabled s (bnat port)) (empPg (bnat port)) 4 6 5 = rfld s (empPg (bnat port)) 4 6 5 :=
    fld_of_bits fun b low _ => bits b (by omega)
  have before : emp (empEnabled s (bnat port)) (bnat port) = emp s (bnat port) := congrArg (fun m => kget _ m (bnat port)) emps
  have judged : empJudge (empEnabled s (bnat port)) (bnat port) true channel.toNat = setEmp (empEnabled s (bnat port)) (bnat port)
      { emp s (bnat port) with
        trained := true
        dens := rfld s (empPg (bnat port)) 4 4 3
        rate := if rfld s (empPg (bnat port)) 4 6 5 = 3 then 0 else rfld s (empPg (bnat port)) 4 6 5 } := by
    unfold empJudge
    dsimp only
    rw [if_pos rfl, dens, rate, before]
  have run := exec_empEnable works opened true channel
  rw [if_pos on, judged] at run
  exact ⟨_, run, on, emp_setEmp_same .., mem, regs.trans (.of_regs rfl _)⟩

/-- A training that fails leaves the port disabled, with the channel that failed (R580). -/
theorem empEnable_fails {port : Bool} (works : unitWorks s (empPg (bnat port)) = true) (opened : locked s (empPg (bnat port)) = false)
    (idle : (dom s (domOfPage (empPg (bnat port)))).drain = none) (base : bit (rget s (empPg (bnat port)) 3) 0 = true)
    (dense : rfld s (empPg (bnat port)) 4 4 3 ≠ 0) (channel : BitVec 2) :
    ∃ t, exec (.empEnable port false channel) s = .next t ∧ enabled t (empPg (bnat port)) = false ∧
      emp t (bnat port) = { emp s (bnat port) with trained := false } ∧ t.mem = s.mem ∧
      Captured s t (empPg (bnat port)) 8 channel.toNat := by
  obtain ⟨on, regs, -, emps, mem⟩ := empEnabled_takes idle base dense
  have before : emp (empEnabled s (bnat port)) (bnat port) = emp s (bnat port) := congrArg (fun m => kget _ m (bnat port)) emps
  obtain ⟨u, hu⟩ : ∃ u, u = rset (setEmp (empEnabled s (bnat port)) (bnat port) { emp s (bnat port) with trained := false })
    (empPg (bnat port)) 4 (setBit (rget (empEnabled s (bnat port)) (empPg (bnat port)) 4) 0 false) := ⟨_, rfl⟩
  have judged : empJudge (empEnabled s (bnat port)) (bnat port) false channel.toNat = capture u (empPg (bnat port)) 8 channel.toNat := by
    unfold empJudge
    dsimp only
    rw [if_neg (by decide), before, hu]
  have off : rget u (empPg (bnat port)) 4 = setBit (rget (empEnabled s (bnat port)) (empPg (bnat port)) 4) 0 false := by
    rw [hu]
    exact rget_rset_same ..
  have port_ : emp u (bnat port) = { emp s (bnat port) with trained := false } := by
    rw [hu]
    exact emp_setEmp_same ..
  have memory : u.mem = s.mem := by
    rw [hu]
    exact mem
  have kept : RegsKept s u (fun p off => p = empPg (bnat port) ∧ off = 4) := by
    rw [hu]
    exact regs.trans (RegsKept.trans (.of_regs rfl _) (.rset (setEmp (empEnabled s (bnat port)) (bnat port) _) _ (by decide) ⟨rfl, rfl⟩))
  have run := exec_empEnable works opened false channel
  rw [if_pos on, judged] at run
  have w : Within Area.ofSignal u (capture u (empPg (bnat port)) 8 channel.toNat) := capture_within (.refl _) ..
  refine ⟨_, run, ?_, (congrArg (fun m => kget _ m (bnat port)) w.emps).trans port_, w.mem.trans memory,
    (captured_capture u (empPg (bnat port)) 8 channel.toNat).of_before (kept _ _ (by decide) (by omega)) (kept _ _ (by decide) (by omega))⟩
  unfold enabled
  rw [regsKept_capture u (empPg (bnat port)) 8 channel.toNat (empPg (bnat port)) 4 (by decide) (fun h => by have := h.2; omega), off]
  exact bit_setBit_same _ _ _ (by decide)

/-- A port without a density is not enabled (Table 11.15). -/
theorem empEnable_refuses {port : Bool} (works : unitWorks s (empPg (bnat port)) = true) (opened : locked s (empPg (bnat port)) = false)
    (idle : (dom s (domOfPage (empPg (bnat port)))).drain = none) (base : bit (rget s (empPg (bnat port)) 3) 0 = true)
    (closed : enabled s (empPg (bnat port)) = false) (none_ : rfld s (empPg (bnat port)) 4 4 3 = 0) (ok : Bool) (channel : BitVec 2) :
    ∃ t, exec (.empEnable port ok channel) s = .next t ∧ rget t (empPg (bnat port)) 4 = rget s (empPg (bnat port)) 4 ∧
      emp t (bnat port) = emp s (bnat port) ∧ Captured s t (empPg (bnat port)) 10 (regAddr (empPg (bnat port)) 4) := by
  obtain ⟨u, hu⟩ : ∃ u, u = rset s (empPg (bnat port)) 5 (setBit (rget s (empPg (bnat port)) 5) 2 true) := ⟨_, rfl⟩
  have refused : empEnabled s (bnat port) = captureAt u (empPg (bnat port)) 10 4 := by
    unfold empEnabled enable empWhy
    rw [closed, idle, base, if_pos none_, hu]
    rfl
  obtain ⟨⟨regs, only⟩, captured⟩ := captureAt_only u (empPg (bnat port)) 10 4
  have status (off : Nat) (ho : off < 512) (h : off ≠ 5) : rget u (empPg (bnat port)) off = rget s (empPg (bnat port)) off := by
    rw [hu]
    exact rget_rset_other s _ (by omega)
  have ctl : rget (captureAt u (empPg (bnat port)) 10 4) (empPg (bnat port)) 4 = rget s (empPg (bnat port)) 4 :=
    (regs _ _ (by decide) (fun h => by have := h.2.2; omega)).trans (status 4 (by decide) (by decide))
  have run := exec_empEnable works opened ok channel
  rw [refused, if_neg (show ¬ enabled (captureAt u (empPg (bnat port)) 10 4) (empPg (bnat port)) = true by
    unfold enabled
    rw [ctl]
    exact Bool.eq_false_iff.1 closed)] at run
  have w : Within Area.ofSignal u (captureAt u (empPg (bnat port)) 10 4) := captureAt_within (.refl _) ..
  exact ⟨_, run, ctl, (congrArg (fun m => kget _ m (bnat port)) w.emps).trans (by rw [hu]; rfl),
    captured.of_before (status 6 (by decide) (by decide)) (status 7 (by decide) (by decide))⟩

/-! ### The patrol scrub (R578) -/

/-- What a scrub leaves in a word: a single error is corrected. -/
def scrubbed (w : MemWord) : MemWord := if w.ecc = .single then { w with ecc := .good } else w

theorem mget_scrubWord (s : State) (a q : Nat) : mget (scrubWord s a) q = if q = a then scrubbed (mget s a) else mget s q := by
  have stays : ∀ t : State, t.mem = s.mem → (mget s a).ecc ≠ .single →
      mget t q = if q = a then scrubbed (mget s a) else mget s q := by
    intro t mem sound
    have same : mget t q = mget s q := congrArg (fun m => kget memDefault m q) mem
    split
    next e => rw [same, e, scrubbed, if_neg sound]
    · exact same
  unfold scrubWord
  dsimp only
  split
  next ecc => exact stays s rfl (by rw [ecc]; decide)
  next ecc =>
    have fixes : Within [.regs] { mset s a { mget s a with ecc := .good } with eccWb := s.eccWb.filter (fun b => b != a) }
      (eccCorrected { mset s a { mget s a with ecc := .good } with eccWb := s.eccWb.filter (fun b => b != a) } a) :=
      eccCorrected_within (.refl _) ..
    rw [show mget (eccCorrected { mset s a { mget s a with ecc := .good } with eccWb := s.eccWb.filter (fun b => b != a) } a) q =
      mget (mset s a { mget s a with ecc := .good }) q from congrArg (fun m => kget memDefault m q) fixes.mem]
    split
    next e => rw [e, mget_mset_same, scrubbed, if_pos ecc]
    next other => exact mget_mset_other s _ other
  next ecc =>
    have lost : Within Area.ofSignal s (eccLost s a) := eccLost_within (.refl _) ..
    exact stays _ lost.mem (by rw [ecc]; decide)

theorem scrubbed_scrubbed (w : MemWord) : scrubbed (scrubbed w) = scrubbed w := by
  unfold scrubbed
  split
  · rfl
  · rfl

/-- The words that a burst reads. -/
def scrubWords (s : State) (base : Nat) (l : List Nat) : State := l.foldl (fun s k => scrubWord s (base + k)) s

theorem mget_scrubWords (base q : Nat) (l : List Nat) : ∀ s : State,
    mget (scrubWords s base l) q = if ∃ k ∈ l, q = base + k then scrubbed (mget s q) else mget s q := by
  induction l with
  | nil => exact fun s => (if_neg (by simp)).symm
  | cons k l ih =>
    intro s
    refine (ih (scrubWord s (base + k))).trans ?_
    rw [mget_scrubWord]
    by_cases here : q = base + k
    · rw [if_pos here, if_pos (show ∃ j ∈ k :: l, q = base + j from ⟨k, List.mem_cons_self, here⟩), ← here, scrubbed_scrubbed, ite_self]
    · rw [if_neg here]
      refine if_congr ?_ rfl rfl
      simp [here]

theorem scrubWords_within (s : State) (base : Nat) (l : List Nat) :
    Within [.mem, .eccWb, .regs, .evTick, .events] s (scrubWords s base l) :=
  .foldl (fun _ _ => scrubWord_within (.refl _) ..) (.refl s)

/-- A burst over words without an error leaves every register. -/
theorem scrubWords_good (base : Nat) (l : List Nat) : (∀ k ∈ l, (mget s (base + k)).ecc = .good) → scrubWords s base l = s := by
  induction l with
  | nil => exact fun _ => rfl
  | cons k l ih =>
    intro good
    have first : scrubWord s (base + k) = s := by
      unfold scrubWord
      dsimp only
      rw [good k List.mem_cons_self]
    show scrubWords (scrubWord s (base + k)) base l = s
    rw [first]
    exact ih fun j hj => good j (List.mem_cons_of_mem _ hj)

/-- A burst is due (R578). -/
theorem scrubDue_iff (s : State) (i : Nat) :
    scrubDue s i = true ↔ ∀ l, (emp s i).scrubAt = some l → l + max 1 (rfld s (empPg i) 16 17 0) * 300 ≤ s.ticks := by
  unfold scrubDue
  cases e : (emp s i).scrubAt with
  | none => simp
  | some l =>
    show decide (l + max 1 (rfld s (empPg i) 16 17 0) * 300 ≤ s.ticks) = true ↔ _
    simp

end

/-- Settles O51: the training judges an enable, and a burst corrects its words one after another. -/
theorem memoryPorts : Obligations.MemoryPorts := by
  intro s port channel rate i pg e dens r base works due
  refine ⟨fun opened idle feature => ⟨fun dense => empEnable_trains works opened idle feature dense channel,
    fun dense => empEnable_fails works opened idle feature dense channel,
    fun closed none_ ok => empEnable_refuses works opened idle feature closed none_ ok channel⟩,
    fun trained => ?_, fun trained on early => ?_, fun trained on now => ?_⟩
  · refine ⟨rset s pg 20 (fval 2 0 rate.toNat), congrArg done ((unitDo_of_works works _).trans (if_pos trained)), rget_rset_same ..,
      .rset _ _ (by decide) ⟨rfl, rfl⟩, rfl⟩
  · refine ⟨s, congrArg done ((unitDo_of_works works _).trans (if_neg ?_)), rfl⟩
    rw [Bool.and_eq_true, not_and]
    exact fun _ asked => early ((scrubDue_iff s i).1 asked)
  · have runs : exec (.scrubBurst port) s = .next (scrubBurst s i) :=
      congrArg done ((unitDo_of_works works _).trans (if_pos (by rw [trained, on, (scrubDue_iff s i).2 now]; rfl)))
    obtain ⟨u, hu⟩ : ∃ u, u = scrubWords s base (List.range 16) := ⟨_, rfl⟩
    have burst : scrubBurst s i = setEmp u i { e with scrub := (e.scrub + 16) % empWords e.dens, scrubAt := some s.ticks } := by
      rw [hu]
      rfl
    have words (q : Nat) : mget u q = if ∃ k ∈ List.range 16, q = base + k then scrubbed (mget s q) else mget s q := by
      rw [hu]
      exact mget_scrubWords ..
    have w : Within [.mem, .eccWb, .regs, .evTick, .events] s u := hu ▸ scrubWords_within ..
    rw [burst] at runs
    refine ⟨_, runs, fun k hk => ?_, fun q away => ?_, emp_setEmp_same .., fun good => ?_, w.cores⟩
    · exact (words (base + k)).trans (if_pos ⟨k, List.mem_range.2 hk, rfl⟩)
    · refine (words q).trans (if_neg ?_)
      rintro ⟨k, hk, rfl⟩
      have := List.mem_range.1 hk
      omega
    · have same : u = s := hu.trans (scrubWords_good base _ fun k hk => good k (List.mem_range.1 hk))
      exact (show u.regs = s.regs from congrArg State.regs same)

end Sys2Proof.Machine

namespace Sys2Proof.Machine
open Sys2Proof
set_option Elab.async false

/-! ## The choice of the images (R590 to R594) -/

section
variable {s : State}

/-! ### The code of an image (R591, Table 12.4) -/

/-- The code that the body of an image gives whose header passes. -/
def bodyCode (app : Bool) (f : FlashSet) : Nat :=
  if (f.body app).length < octNum (f.header app) 0x28 4 then 8
  else if ecdsaVerify (reqOcts (f.header app) 0x80 97) (sha384 (signedOctets (f.header app) (f.body app))) (reqOcts (f.header app) 0x280 96)
    then 15 else 6

/-- The state in which the body of an image has been loaded. -/
def bodyLoaded (s : State) (app : Bool) (f : FlashSet) : State :=
  if app then bootBody s (octNum (f.header app) 0x2C 4) (f.body app) else s

theorem imageCheck_rejected {app : Bool} {f : FlashSet} {c : Nat} (head : headCheck s app f = c) (bad : c ≠ 0) : imageCheck s app f = (c, s) := by
  obtain ⟨k, rfl⟩ := Nat.exists_eq_succ_of_ne_zero bad
  unfold imageCheck
  rw [head]
  rfl

theorem imageCheck_read {app : Bool} {f : FlashSet} (head : headCheck s app f = 0) :
    imageCheck s app f = (bodyCode app f, bodyLoaded s app f) := by
  unfold imageCheck bodyCode
  rw [head]
  show (if (f.body app).length < octNum (f.header app) 0x28 4 then (8, bodyLoaded s app f)
    else if ecdsaVerify (reqOcts (f.header app) 0x80 97) (sha384 (signedOctets (f.header app) (f.body app)))
      (reqOcts (f.header app) 0x280 96) then (15, bodyLoaded s app f) else (6, bodyLoaded s app f)) = _
  split
  · rfl
  · split <;> rfl

/-- The checks of a header accept no image by themselves. -/
theorem headCheck_ne_accepted (s : State) (app : Bool) (f : FlashSet) : headCheck s app f ≠ 15 := by
  unfold headCheck
  dsimp only
  split_ifs <;> decide

/-- The checks of a header read only the part and the fuses that Carr has read. -/
theorem headCheck_congr {t : State} (part : t.part = s.part) (fuses : t.fusesRead = s.fusesRead) (app : Bool) (f : FlashSet) :
    headCheck t app f = headCheck s app f := by
  have formed (h : List (BitVec 8)) : headerOk t app h = headerOk s app h := by
    unfold headerOk
    rw [part]
  have least : minSvn t app = minSvn s app := by
    unfold minSvn
    rw [fuses]
  unfold headCheck
  dsimp only
  rw [formed, least, part, fuses]

/-- The code of an image, in a state with the same part and fuses. -/
theorem imageCheck_congr {t : State} (part : t.part = s.part) (fuses : t.fusesRead = s.fusesRead) (app : Bool) (f : FlashSet) :
    (imageCheck t app f).1 = (imageCheck s app f).1 := by
  have head := headCheck_congr part fuses app f
  by_cases good : headCheck s app f = 0
  · rw [imageCheck_read good, imageCheck_read (head.trans good)]
  · rw [imageCheck_rejected rfl good, imageCheck_rejected head good]

/-! ### What a check loads (R590) -/

/-- The words that a check of an image may write. -/
def InBody (app : Bool) (f : FlashSet) (q : Nat) : Prop :=
  app = true ∧ octNum (f.header true) 0x2C 4 ≤ q ∧ q < octNum (f.header true) 0x2C 4 + 2 * ((f.body true).length / 9)

/-- A word that boot loads. -/
def bootWord (body : List (BitVec 8)) (k : Nat) (low : Bool) : MemWord :=
  { data := if low then BitVec.ofNat 36 (octNum body (9 * k) 9) else BitVec.ofNat 36 (octNum body (9 * k) 9 / 2 ^ 36)
    tag := false
    ecc := .good }

theorem mget_memPut_other (s : State) {a q : Nat} (w : Word) (tag : Bool) (h : q ≠ a) : mget (memPut s a w tag) q = mget s q := by
  unfold memPut memWrite
  dsimp only
  split
  · split
    · have kept (u : State) (x pg : Nat) : mget (capture (rinc u pg 32 17 0) pg 8 x) q = mget u q :=
        Within.mget (F := Area.ofSignal) (capture_within (rinc_within (.refl u) ..) ..) q
      rw [kept]
      exact mget_mset_other (s := { s with eccWb := _ }) _ h
    · exact mget_mset_other (s := { s with eccWb := _ }) _ h
  · exact mget_mset_other (s := { s with eccWb := _ }) _ h

theorem mget_memPut_same {a : Nat} (w : Word) (tag : Bool) (plain : marked s a = false) :
    mget (memPut s a w tag) a = { data := w, tag := tag, ecc := .good } := by
  unfold memPut memWrite
  dsimp only
  rw [if_neg (Bool.eq_false_iff.1 plain), merge_whole]
  exact mget_mset_same ..

/-- The words of a body, as many as have been loaded. -/
theorem bootBody_loads (s : State) (load : Nat) (body : List (BitVec 8)) (n : Nat) :
    let t := (List.range n).foldl (fun s k =>
      let v := octNum body (9 * k) 9
      memPut (memPut s (load + 2 * k) (BitVec.ofNat 36 (v / 2 ^ 36)) false) (load + 2 * k + 1) (BitVec.ofNat 36 v) false) s
    (∀ q, (q < load ∨ load + 2 * n ≤ q) → mget t q = mget s q) ∧ t.marks = s.marks ∧
    ((∀ q, load ≤ q → q < load + 2 * n → marked s q = false) → ∀ k, k < n →
      mget t (load + 2 * k) = bootWord body k false ∧ mget t (load + 2 * k + 1) = bootWord body k true) := by
  induction n with
  | zero => exact ⟨fun _ _ => rfl, rfl, fun _ _ h => absurd h (Nat.not_lt_zero _)⟩
  | succ n ih =>
    obtain ⟨outside, marks, words⟩ := ih
    intro t
    obtain ⟨u, hu⟩ : ∃ u, u = (List.range n).foldl (fun s k =>
      let v := octNum body (9 * k) 9
      memPut (memPut s (load + 2 * k) (BitVec.ofNat 36 (v / 2 ^ 36)) false) (load + 2 * k + 1) (BitVec.ofNat 36 v) false) s := ⟨_, rfl⟩
    have next : t = memPut (memPut u (load + 2 * n) (bootWord body n false).data false) (load + 2 * n + 1) (bootWord body n true).data false := by
      show (List.range (n + 1)).foldl _ s = _
      rw [List.range_succ, List.foldl_append, ← hu]
      rfl
    rw [← hu] at outside marks words
    have first (q : Nat) (h : q ≠ load + 2 * n) (h' : q ≠ load + 2 * n + 1) : mget t q = mget u q := by
      rw [next, mget_memPut_other _ _ _ h', mget_memPut_other _ _ _ h]
    have same : t.marks = u.marks := by
      rw [next]
      exact (memPut_within (F := [.mem, .eccWb, .regs, .evTick, .events]) (memPut_within (.refl u) ..) ..).marks
    refine ⟨fun q away => (first q (by omega) (by omega)).trans (outside q (by omega)), same.trans marks, fun plain k hk => ?_⟩
    by_cases last : k = n
    · subst last
      have unmarked (a : Nat) (v : State) (e : v.marks = s.marks) (low : load ≤ a) (high : a < load + 2 * (k + 1)) : marked v a = false := by
        unfold marked
        rw [e]
        exact plain a low high
      rw [next]
      refine ⟨?_, mget_memPut_same _ _ (unmarked _ _ ?_ (by omega) (by omega))⟩
      · rw [mget_memPut_other _ _ _ (by omega)]
        exact mget_memPut_same _ _ (unmarked _ _ marks (by omega) (by omega))
      · exact (memPut_within (F := [.mem, .eccWb, .regs, .evTick, .events]) (.refl u) ..).marks.trans marks
    · rw [first _ (by omega) (by omega), first _ (by omega) (by omega)]
      exact words (fun q low high => plain q low (by omega)) k (by omega)

/-- What a check leaves of memory, and what it loads of an image that it accepts. -/
theorem imageCheck_loads (s : State) (app : Bool) (f : FlashSet) :
    (∀ q, ¬ InBody app f q → mget (imageCheck s app f).2 q = mget s q) ∧
    ((imageCheck s app f).1 = 15 → app = true → (∀ q, InBody app f q → marked s q = false) → ∀ k, k < (f.body true).length / 9 →
      mget (imageCheck s app f).2 (octNum (f.header true) 0x2C 4 + 2 * k) = bootWord (f.body true) k false ∧
      mget (imageCheck s app f).2 (octNum (f.header true) 0x2C 4 + 2 * k + 1) = bootWord (f.body true) k true) := by
  by_cases good : headCheck s app f = 0
  · rw [imageCheck_read good]
    unfold bodyLoaded
    cases app with
    | false => exact ⟨fun _ _ => rfl, fun _ no => absurd no (by decide)⟩
    | true =>
      obtain ⟨outside, -, words⟩ := bootBody_loads s (octNum (f.header true) 0x2C 4) (f.body true) ((f.body true).length / 9)
      refine ⟨fun q away => outside q ?_, fun _ _ plain => words fun q low high => plain q ⟨rfl, low, high⟩⟩
      by_contra inside
      exact away ⟨rfl, by omega, by omega⟩
  · rw [imageCheck_rejected rfl good]
    exact ⟨fun _ _ => rfl, fun accepted => absurd accepted (headCheck_ne_accepted s app f)⟩

theorem imageCheck_mem_carr (s : State) (f : FlashSet) : (imageCheck s false f).2 = s := by
  by_cases good : headCheck s false f = 0
  · rw [imageCheck_read good]
    rfl
  · rw [imageCheck_rejected rfl good]

/-! ### The choice (R591, R592) -/

/-- A rejection code that boot has recorded. -/
def rejAt (s : State) (k : Nat) : Nat := kget (fun _ => 0) s.boot.rej k

/-- The state t after the check of a set in s: its code is recorded at k. -/
structure SetChecked (s t : State) (app : Bool) (f : FlashSet) (k : Nat) : Prop where
  within : Within [.mem, .eccWb, .regs, .evTick, .events, .boot, .flashes] s t
  boot : t.boot = { s.boot with rej := kset (fun _ => 0) s.boot.rej k (imageCheck s app f).1 }
  mem : app = false → t.mem = s.mem
  outside : ∀ q, ¬ InBody app f q → mget t q = mget s q
  words : (imageCheck s app f).1 = 15 → app = true → (∀ q, InBody app f q → marked s q = false) → ∀ k, k < (f.body true).length / 9 →
    mget t (octNum (f.header true) 0x2C 4 + 2 * k) = bootWord (f.body true) k false ∧
    mget t (octNum (f.header true) 0x2C 4 + 2 * k + 1) = bootWord (f.body true) k true

theorem setChecked (s : State) (i : Nat) (app : Bool) (f : FlashSet) (k : Nat) :
    (imageCheck (bootPort s i f) app f).1 = (imageCheck s app f).1 ∧
      SetChecked s (setRej (imageCheck (bootPort s i f) app f).2 k (imageCheck (bootPort s i f) app f).1) app f k := by
  obtain ⟨u, hu⟩ : ∃ u, u = bootPort s i f := ⟨_, rfl⟩
  have port : Within [.regs, .evTick, .events, .flashes] s u := hu ▸ bootPort_within (.refl s) ..
  have check : Within [.mem, .eccWb, .regs, .evTick, .events] u (imageCheck u app f).2 := imageCheck_within (.refl u) ..
  have code : (imageCheck u app f).1 = (imageCheck s app f).1 := imageCheck_congr port.part port.fusesRead app f
  have memory (q : Nat) : mget u q = mget s q := port.mget q
  obtain ⟨outside, words⟩ := imageCheck_loads u app f
  have plain (q : Nat) (h : marked s q = false) : marked u q = false := by
    unfold marked
    rw [port.marks]
    exact h
  rw [← hu]
  refine ⟨code, ⟨?_, ?_, fun carr => ?_, fun q away => (outside q away).trans (memory q), fun accepted image free => ?_⟩⟩
  · exact setRej_within ((port.mono (by decide)).trans (check.mono (by decide))) ..
  · show { (imageCheck u app f).2.boot with rej := kset (fun _ => 0) (imageCheck u app f).2.boot.rej k (imageCheck u app f).1 } = _
    rw [check.boot, port.boot, code]
  · show (imageCheck u app f).2.mem = s.mem
    subst carr
    rw [imageCheck_mem_carr]
    exact port.mem
  · exact words (code.trans accepted) image fun q inside => plain q (free q inside)

theorem chooseImage_first {app : Bool} {a : FlashSet} (b : FlashSet) (good : (imageCheck s app a).1 = 15) :
    ∃ t, chooseImage s app a b = (some (imageOf false app a), t) ∧ SetChecked s t app a (if app then 2 else 0) := by
  obtain ⟨code, checked⟩ := setChecked s 0 app a (if app then 2 else 0)
  exact ⟨_, if_pos (code.trans good), checked⟩

theorem chooseImage_second {app : Bool} {a b : FlashSet} (bad : (imageCheck s app a).1 ≠ 15) :
    ∃ u t, chooseImage s app a b = (if (imageCheck s app b).1 = 15 then some (imageOf true app b) else none, t) ∧
      SetChecked s u app a (if app then 2 else 0) ∧ SetChecked u t app b ((if app then 2 else 0) + 1) ∧
      (imageCheck u app b).1 = (imageCheck s app b).1 := by
  obtain ⟨code, checked⟩ := setChecked s 0 app a (if app then 2 else 0)
  obtain ⟨u, hu⟩ : ∃ u, u = setRej (imageCheck (bootPort s 0 a) app a).2 (if app then 2 else 0) (imageCheck (bootPort s 0 a) app a).1 := ⟨_, rfl⟩
  obtain ⟨next, later⟩ := setChecked u 1 app b ((if app then 2 else 0) + 1)
  rw [← hu] at checked
  have same : (imageCheck u app b).1 = (imageCheck s app b).1 := imageCheck_congr checked.within.part checked.within.fusesRead app b
  refine ⟨u, _, ?_, checked, later, same⟩
  have second : chooseImage s app a b = (if (imageCheck (bootPort u 1 b) app b).1 = 15 then some (imageOf true app b) else none,
      setRej (imageCheck (bootPort u 1 b) app b).2 ((if app then 2 else 0) + 1) (imageCheck (bootPort u 1 b) app b).1) := by
    rw [hu]
    exact if_neg (code.symm ▸ bad)
  rw [second, next, same]

/-- The first image of a kind that passes, of set A and then of set B (R591). -/
def chosen (s : State) (app : Bool) (a b : FlashSet) : Option Image :=
  if (imageCheck s app a).1 = 15 then some (imageOf false app a)
  else if (imageCheck s app b).1 = 15 then some (imageOf true app b) else none

/-- The state t after the choice of an image of a kind in s. -/
structure KindChosen (s t : State) (app : Bool) (a b : FlashSet) (k : Nat) : Prop where
  within : Within [.mem, .eccWb, .regs, .evTick, .events, .boot, .flashes] s t
  boot : t.boot = { s.boot with rej := t.boot.rej }
  rejA : rejAt t k = (imageCheck s app a).1
  rejB : (imageCheck s app a).1 ≠ 15 → rejAt t (k + 1) = (imageCheck s app b).1
  rejs : ∀ j, j ≠ k → j ≠ k + 1 → rejAt t j = rejAt s j
  mem : app = false → t.mem = s.mem
  outside : ∀ q, ¬ InBody app a q → ((imageCheck s app a).1 = 15 ∨ ¬ InBody app b q) → mget t q = mget s q
  words : (imageCheck s app a).1 = 15 → app = true → (∀ q, InBody app a q → marked s q = false) → ∀ k, k < (a.body true).length / 9 →
    mget t (octNum (a.header true) 0x2C 4 + 2 * k) = bootWord (a.body true) k false ∧
    mget t (octNum (a.header true) 0x2C 4 + 2 * k + 1) = bootWord (a.body true) k true

theorem SetChecked.rejAt {t : State} {app : Bool} {f : FlashSet} {k : Nat} (c : SetChecked s t app f k) (j : Nat) :
    rejAt t j = if j = k then (imageCheck s app f).1 else Machine.rejAt s j := by
  unfold Machine.rejAt
  rw [c.boot]
  exact kget_kset ..

theorem chooseImage_chooses (s : State) (app : Bool) (a b : FlashSet) :
    ∃ t, chooseImage s app a b = (chosen s app a b, t) ∧ KindChosen s t app a b (if app then 2 else 0) := by
  by_cases good : (imageCheck s app a).1 = 15
  · obtain ⟨t, chooses, checked⟩ := chooseImage_first b good
    refine ⟨t, chooses.trans (by rw [chosen, if_pos good]), ⟨checked.within, ?_, ?_, fun bad => absurd good bad, fun j first _ => ?_,
      checked.mem, fun q away _ => checked.outside q away, checked.words⟩⟩
    · rw [checked.boot]
    · rw [checked.rejAt, if_pos rfl]
    · rw [checked.rejAt, if_neg first]
  · obtain ⟨u, t, chooses, first, second, code⟩ := chooseImage_second (b := b) good
    refine ⟨t, chooses.trans (by rw [chosen, if_neg good]), ⟨first.within.trans second.within, ?_, ?_, fun _ => ?_, fun j other other' => ?_,
      fun carr => (second.mem carr).trans (first.mem carr), fun q away either => ?_, fun accepted => absurd accepted good⟩⟩
    · rw [second.boot, first.boot]
    · rw [second.rejAt, if_neg (by omega), first.rejAt, if_pos rfl]
    · rw [second.rejAt, if_pos rfl, code]
    · rw [second.rejAt, if_neg other', first.rejAt, if_neg other]
    · exact (second.outside q (either.resolve_left good)).trans (first.outside q away)

/-- The choice of the application image in the state that the choice of the Carr image leaves. -/
theorem chosen_congr {t : State} (part : t.part = s.part) (fuses : t.fusesRead = s.fusesRead) (app : Bool) (a b : FlashSet) :
    chosen t app a b = chosen s app a b := by
  unfold chosen
  rw [imageCheck_congr part fuses app a, imageCheck_congr part fuses app b]

theorem bootImages_none {a b : FlashSet} {u : State} (carr : chooseImage s false a b = (none, u)) : bootImages s a b = holdInBoot u := by
  unfold bootImages
  rw [carr]

theorem bootImages_carrOnly {a b : FlashSet} {c : Image} {u v : State} (carr : chooseImage s false a b = (some c, u))
    (app : chooseImage u true a b = (none, v)) :
    bootImages s a b = holdInBoot { v with boot := { v.boot with carr := some c } } := by
  unfold bootImages
  rw [carr]
  dsimp only
  rw [app]

theorem bootImages_both {a b : FlashSet} {c p : Image} {u v : State} (carr : chooseImage s false a b = (some c, u))
    (app : chooseImage u true a b = (some p, v)) : bootImages s a b = agree v c p := by
  unfold bootImages
  rw [carr]
  dsimp only
  rw [app]

/-- Version agreement moves the boot state and the lifecycle alone (R594, R602). -/
theorem agree_agrees (v : State) (c p : Image) :
    (agree v c p).boot.phase = .accepted ∧ (agree v c p).boot.carr = some c ∧ (agree v c p).boot.app = some p ∧
      (agree v c p).boot.outcome = outcomeOf c p ∧ (agree v c p).boot.rej = v.boot.rej ∧
      (2 ≤ outcomeOf c p → (agree v c p).lcs = .service) ∧ (outcomeOf c p < 2 → (agree v c p).lcs = v.lcs) ∧
      (agree v c p).mem = v.mem ∧ (agree v c p).safety = v.safety ∧ (agree v c p).cores = v.cores ∧ (agree v c p).fuses = v.fuses := by
  unfold agree
  dsimp only
  split
  next service => exact ⟨rfl, rfl, rfl, rfl, rfl, fun _ => rfl, fun low => absurd service.1 (by omega), rfl, rfl, rfl, rfl⟩
  next same =>
    refine ⟨rfl, rfl, rfl, rfl, rfl, fun high => ?_, fun _ => rfl, rfl, rfl, rfl, rfl⟩
    by_contra other
    exact same ⟨high, other⟩

/-- The state t in which boot has chosen in s, but for what the versions decide: safety, cores, fuses, codes and memory. -/
structure BootChose (s t : State) (a b : FlashSet) : Prop where
  safety : t.safety = s.safety
  cores : t.cores = s.cores
  fuses : t.fuses = s.fuses
  carrA : rejAt t 0 = (imageCheck s false a).1
  carrB : (imageCheck s false a).1 ≠ 15 → rejAt t 1 = (imageCheck s false b).1
  appA : chosen s false a b ≠ none → rejAt t 2 = (imageCheck s true a).1
  appB : chosen s false a b ≠ none → (imageCheck s true a).1 ≠ 15 → rejAt t 3 = (imageCheck s true b).1
  outside : ∀ q, ¬ InBody true a q → ((imageCheck s true a).1 = 15 ∨ ¬ InBody true b q) → mget t q = mget s q
  words : chosen s false a b ≠ none → (imageCheck s true a).1 = 15 → (∀ q, InBody true a q → marked s q = false) →
    ∀ k, k < (a.body true).length / 9 →
    mget t (octNum (a.header true) 0x2C 4 + 2 * k) = bootWord (a.body true) k false ∧
    mget t (octNum (a.header true) 0x2C 4 + 2 * k + 1) = bootWord (a.body true) k true

/-- What boot has done stands when the boot state changes, its codes apart, or the lifecycle. -/
theorem BootChose.after {t u : State} {a b : FlashSet} (c : BootChose s t a b) (safety : u.safety = t.safety) (cores : u.cores = t.cores)
    (fuses : u.fuses = t.fuses) (rej : u.boot.rej = t.boot.rej) (mem : u.mem = t.mem) : BootChose s u a b := by
  have codes (k : Nat) : rejAt u k = rejAt t k := congrArg (fun m => kget _ m k) rej
  have words (q : Nat) : mget u q = mget t q := congrArg (fun m => kget memDefault m q) mem
  exact {
    safety := safety.trans c.safety
    cores := cores.trans c.cores
    fuses := fuses.trans c.fuses
    carrA := (codes 0).trans c.carrA
    carrB := fun h => (codes 1).trans (c.carrB h)
    appA := fun h => (codes 2).trans (c.appA h)
    appB := fun h h' => (codes 3).trans (c.appB h h')
    outside := fun q h h' => (words q).trans (c.outside q h h')
    words := fun h h' free k hk => by
      rw [words, words]
      exact c.words h h' free k hk }

/-- After the choice of the Carr image, where there is none. -/
theorem KindChosen.carrAlone {t : State} {a b : FlashSet} (c : KindChosen s t false a b 0) (none_ : chosen s false a b = none) :
    BootChose s t a b where
  safety := c.within.safety
  cores := c.within.cores
  fuses := c.within.fuses
  carrA := c.rejA
  carrB := c.rejB
  appA := fun some_ => absurd none_ some_
  appB := fun some_ => absurd none_ some_
  outside := fun q _ _ => congrArg (fun m => kget memDefault m q) (c.mem rfl)
  words := fun some_ => absurd none_ some_

/-- After the choices of both images. -/
theorem KindChosen.both {t u : State} {a b : FlashSet} (c : KindChosen s t false a b 0) (d : KindChosen t u true a b 2) : BootChose s u a b := by
  have code (f : FlashSet) : (imageCheck t true f).1 = (imageCheck s true f).1 := imageCheck_congr c.within.part c.within.fusesRead true f
  have memory (q : Nat) : mget t q = mget s q := congrArg (fun m => kget memDefault m q) (c.mem rfl)
  have free (q : Nat) (h : marked s q = false) : marked t q = false := by
    unfold marked
    rw [c.within.marks]
    exact h
  exact {
    safety := d.within.safety.trans c.within.safety
    cores := d.within.cores.trans c.within.cores
    fuses := d.within.fuses.trans c.within.fuses
    carrA := (d.rejs 0 (by decide) (by decide)).trans c.rejA
    carrB := fun h => (d.rejs 1 (by decide) (by decide)).trans (c.rejB h)
    appA := fun _ => d.rejA.trans (code a)
    appB := fun _ h => (d.rejB (by rwa [code])).trans (code b)
    outside := fun q h h' => (d.outside q h (by rwa [code])).trans (memory q)
    words := fun _ h plain => d.words (by rwa [code]) rfl fun q inside => free q (plain q inside) }

/-- Boot chooses the images in s and ends in t (R591 to R594). -/
theorem bootImages_chooses (s : State) (a b : FlashSet) :
    BootChose s (bootImages s a b) a b ∧
    (chosen s false a b = none → (bootImages s a b).boot.phase = .holding ∧ (bootImages s a b).mem = s.mem) ∧
    (∀ x, chosen s false a b = some x → chosen s true a b = none →
      (bootImages s a b).boot.phase = .holding ∧ (bootImages s a b).boot.carr = some x) ∧
    (∀ x y, chosen s false a b = some x → chosen s true a b = some y → (bootImages s a b).boot.phase = .accepted ∧
      (bootImages s a b).boot.carr = some x ∧ (bootImages s a b).boot.app = some y ∧ (bootImages s a b).boot.outcome = outcomeOf x y ∧
      (2 ≤ outcomeOf x y → (bootImages s a b).lcs = .service) ∧ (outcomeOf x y < 2 → (bootImages s a b).lcs = s.lcs)) := by
  obtain ⟨u, carr, first⟩ := chooseImage_chooses s false a b
  obtain ⟨v, app, second⟩ := chooseImage_chooses u true a b
  rw [chosen_congr first.within.part first.within.fusesRead] at app
  cases hc : chosen s false a b with
  | none =>
    rw [hc] at carr
    rw [bootImages_none carr]
    refine ⟨(first.carrAlone hc).after rfl rfl rfl rfl rfl, fun _ => ⟨rfl, first.mem rfl⟩, fun x h => ?_, fun x y h => ?_⟩ <;> cases h
  | some x =>
    rw [hc] at carr
    have both := first.both second
    cases hp : chosen s true a b with
    | none =>
      rw [hp] at app
      rw [bootImages_carrOnly carr app]
      refine ⟨both.after rfl rfl rfl rfl rfl, fun h => ?_, fun x' h _ => ⟨rfl, h⟩, fun x' y' _ h => ?_⟩ <;> cases h
    | some y =>
      rw [hp] at app
      obtain ⟨phase, ofCarr, ofApp, outcome, rej, service, keeps, mem, safety, cores, fuses⟩ := agree_agrees v x y
      rw [bootImages_both carr app]
      refine ⟨both.after safety cores fuses rej mem, fun h => ?_, fun x' _ h => ?_, fun x' y' hx hy => ?_⟩
      · cases h
      · cases h
      · cases hx
        cases hy
        exact ⟨phase, ofCarr, ofApp, outcome, service, fun low => (keeps low).trans (second.within.lcs.trans first.within.lcs)⟩

/-! ### The codes of a Carr image (Table 12.4) -/

section
variable (f : FlashSet)

/-- The checks of a Carr image's header in their order. -/
theorem headCheck_carr : headCheck s false f =
    if flashSetOn f = false ∨ f.dir.length < 16 then 8
    else if dirOk f.dir = false then 1
    else if (f.header false).length < 768 then 8
    else if octNum (f.header false) 0 4 ≠ 0x54465743 then 1
    else if headerOk s false (f.header false) = false then 2
    else if octNum (f.header false) 0x14 1 / 2 ^ s.part.num % 2 = 0 then 3
    else if octNum (f.header false) 0x10 4 / 2 ^ 9 % 2 = 0 then 4
    else if s.fusesRead.valid (octNum (f.header false) 7 1) = false ∨
      s.fusesRead.hash (octNum (f.header false) 7 1) ≠ sha384 (reqOcts (f.header false) 0x80 97) then 5
    else if octNum (f.header false) 0xC 4 < minSvn s false then 7
    else 0 := by
  unfold headCheck
  rfl

/-- The set's port is enabled and its directory read. -/
def SetFound : Prop := flashSetOn f = true ∧ 16 ≤ f.dir.length

/-- The image's header is read. -/
def HeaderReached : Prop := (SetFound f ∧ dirOk f.dir = true) ∧ 768 ≤ (f.header false).length

/-- The header is a well-formed one of a Carr image. -/
def HeaderFormed (s : State) (f : FlashSet) : Prop :=
  HeaderReached f ∧ octNum (f.header false) 0 4 = 0x54465743 ∧ headerOk s false (f.header false) = true

/-- The image is for this part and this silicon. -/
def HeaderFits (s : State) (f : FlashSet) : Prop :=
  HeaderFormed s f ∧ octNum (f.header false) 0x14 1 / 2 ^ s.part.num % 2 = 1 ∧ octNum (f.header false) 0x10 4 / 2 ^ 9 % 2 = 1

/-- The image's key is that of a valid slot. -/
def HeaderKeyed (s : State) (f : FlashSet) : Prop :=
  s.fusesRead.valid (octNum (f.header false) 7 1) = true ∧
    s.fusesRead.hash (octNum (f.header false) 7 1) = sha384 (reqOcts (f.header false) 0x80 97)

variable {f}

theorem headCheck_found (h : SetFound f) : headCheck s false f =
    if dirOk f.dir = false then 1
    else if (f.header false).length < 768 then 8
    else if octNum (f.header false) 0 4 ≠ 0x54465743 then 1
    else if headerOk s false (f.header false) = false then 2
    else if octNum (f.header false) 0x14 1 / 2 ^ s.part.num % 2 = 0 then 3
    else if octNum (f.header false) 0x10 4 / 2 ^ 9 % 2 = 0 then 4
    else if s.fusesRead.valid (octNum (f.header false) 7 1) = false ∨
      s.fusesRead.hash (octNum (f.header false) 7 1) ≠ sha384 (reqOcts (f.header false) 0x80 97) then 5
    else if octNum (f.header false) 0xC 4 < minSvn s false then 7
    else 0 := by
  rw [headCheck_carr, if_neg]
  rw [h.1]
  exact fun bad => bad.elim (fun no => absurd no (by decide)) (Nat.not_lt.2 h.2)

theorem headCheck_reached (h : HeaderReached f) : headCheck s false f =
    if octNum (f.header false) 0 4 ≠ 0x54465743 then 1
    else if headerOk s false (f.header false) = false then 2
    else if octNum (f.header false) 0x14 1 / 2 ^ s.part.num % 2 = 0 then 3
    else if octNum (f.header false) 0x10 4 / 2 ^ 9 % 2 = 0 then 4
    else if s.fusesRead.valid (octNum (f.header false) 7 1) = false ∨
      s.fusesRead.hash (octNum (f.header false) 7 1) ≠ sha384 (reqOcts (f.header false) 0x80 97) then 5
    else if octNum (f.header false) 0xC 4 < minSvn s false then 7
    else 0 := by
  obtain ⟨⟨found, dir⟩, long⟩ := h
  rw [headCheck_found found, if_neg (by rw [dir]; decide), if_neg (Nat.not_lt.2 long)]

theorem headCheck_formed (h : HeaderFormed s f) : headCheck s false f =
    if octNum (f.header false) 0x14 1 / 2 ^ s.part.num % 2 = 0 then 3
    else if octNum (f.header false) 0x10 4 / 2 ^ 9 % 2 = 0 then 4
    else if s.fusesRead.valid (octNum (f.header false) 7 1) = false ∨
      s.fusesRead.hash (octNum (f.header false) 7 1) ≠ sha384 (reqOcts (f.header false) 0x80 97) then 5
    else if octNum (f.header false) 0xC 4 < minSvn s false then 7
    else 0 := by
  obtain ⟨reached, magic, formed⟩ := h
  rw [headCheck_reached reached, if_neg (not_not_intro magic), if_neg (by rw [formed]; decide)]

theorem headCheck_fits (h : HeaderFits s f) : headCheck s false f =
    if s.fusesRead.valid (octNum (f.header false) 7 1) = false ∨
      s.fusesRead.hash (octNum (f.header false) 7 1) ≠ sha384 (reqOcts (f.header false) 0x80 97) then 5
    else if octNum (f.header false) 0xC 4 < minSvn s false then 7
    else 0 := by
  obtain ⟨formed, part, silicon⟩ := h
  rw [headCheck_formed formed, if_neg (by rw [part]; decide), if_neg (by rw [silicon]; decide)]

theorem headCheck_keyed (h : HeaderFits s f) (keyed : HeaderKeyed s f) : headCheck s false f =
    if octNum (f.header false) 0xC 4 < minSvn s false then 7 else 0 := by
  rw [headCheck_fits h, if_neg]
  rw [keyed.1]
  exact fun bad => bad.elim (fun no => absurd no (by decide)) fun no => no keyed.2

/-- The code of an image whose header a check rejects. -/
theorem imageCode {c : Nat} (head : headCheck s false f = c) (bad : c ≠ 0) : (imageCheck s false f).1 = c :=
  congrArg Prod.fst (imageCheck_rejected head bad)

theorem imageCode_body (fits : HeaderFits s f) (keyed : HeaderKeyed s f) (new : minSvn s false ≤ octNum (f.header false) 0xC 4) :
    (imageCheck s false f).1 = bodyCode false f :=
  congrArg Prod.fst (imageCheck_read ((headCheck_keyed fits keyed).trans (if_neg (Nat.not_lt.2 new))))

end

end

/-- Boot's choice, and the codes of the images that it checks. -/
theorem bootChoosesImages : Rule.BootChoosesImages := by
  intro s a b d rng starts chooses ca cb pa pb c p rej load pairs outside
  have inBody (f : FlashSet) (q : Nat) : outside f q ↔ ¬ InBody true f q := by
    show q < load f ∨ load f + 2 * pairs f ≤ q ↔ ¬ (true = true ∧ load f ≤ q ∧ q < load f + 2 * pairs f)
    simp only [true_and, not_and, not_lt]
    omega
  have waits (rng : Option (BitVec 3)) : ¬ starts → exec (.bootImageCheck a b rng) s = .next s := fun h => congrArg done (if_neg h)
  refine ⟨fun choose => ?_, fun start => ⟨_, congrArg done (if_pos start), ?_, rfl, rfl⟩, fun h => ⟨s, waits rng h, rfl⟩,
    fun start none_ => ⟨s, (congrArg done (if_pos start)).trans (congrArg done (if_pos ?_)), rfl⟩, ?_⟩
  · obtain ⟨start, notBlank, notRetired⟩ := choose
    obtain ⟨both, holds, carrOnly, agrees⟩ := bootImages_chooses s a b
    refine ⟨bootImages s a b, (congrArg done (if_pos start)).trans (congrArg done (if_neg fun h => h.elim notBlank notRetired)),
      both.safety.trans start.2.1, both.cores, both.fuses, both.carrA, both.carrB, both.appA, both.appB, holds, carrOnly, fun x y hx hy => ?_,
      fun q away either => both.outside q ((inBody a q).1 away) (either.imp_right (inBody b q).1), fun some_ accepted free => ?_⟩
    · obtain ⟨phase, ofCarr, ofApp, outcome, service, keeps⟩ := agrees x y hx hy
      exact ⟨phase, ofCarr, ofApp, outcome, fun high => service (outcome ▸ high), fun low => keeps (outcome ▸ low)⟩
    · exact both.words some_ accepted fun q inside => free q fun away => (inBody a q).1 away inside
  · show (if s.safety = .boot then BootPhase.holding else s.boot.phase) = .holding
    exact if_pos start.2.1
  · by_contra other
    exact none_ ⟨start, fun blank => other (Or.inl blank), fun retired => other (Or.inr retired)⟩
  · intro h found named reached formed fits keyed current whole signed
    refine ⟨fun lost => ?_, fun set dir => ?_, fun set short => ?_, fun set magic => ?_, fun set magic bad => ?_, fun set part => ?_,
      fun set part silicon => ?_, fun set key => ?_, fun set key old => ?_, fun now cut => ?_, fun now all_ forged => ?_,
      fun now all_ good => ?_⟩
    · refine imageCode ((headCheck_carr a).trans (if_pos ?_)) (by decide)
      by_contra other
      rw [not_or, Bool.not_eq_false, Nat.not_lt] at other
      exact lost other
    · exact imageCode ((headCheck_found set).trans (if_pos dir)) (by decide)
    · exact imageCode (((headCheck_found set.1).trans (if_neg (by rw [set.2]; decide))).trans (if_pos short)) (by decide)
    · exact imageCode ((headCheck_reached set).trans (if_pos magic)) (by decide)
    · exact imageCode (((headCheck_reached set).trans (if_neg (not_not_intro magic))).trans (if_pos bad)) (by decide)
    · exact imageCode ((headCheck_formed set).trans (if_pos part)) (by decide)
    · exact imageCode (((headCheck_formed set).trans (if_neg (by rw [part]; decide))).trans (if_pos silicon)) (by decide)
    · refine imageCode ((headCheck_fits set).trans (if_pos ?_)) (by decide)
      by_contra other
      rw [not_or, Bool.not_eq_false, not_not] at other
      exact key other
    · exact imageCode ((headCheck_keyed set key).trans (if_pos old)) (by decide)
    · exact (imageCode_body now.1 now.2.1 now.2.2).trans (if_pos (Nat.not_le.1 cut))
    · exact (imageCode_body now.1 now.2.1 now.2.2).trans ((if_neg (Nat.not_lt.2 all_)).trans (if_neg forged))
    · exact (imageCode_body now.1 now.2.1 now.2.2).trans ((if_neg (Nat.not_lt.2 all_)).trans (if_pos good))

end Sys2Proof.Machine

namespace Sys2Proof.Machine
open Sys2Proof
set_option Elab.async false

/-! ## Tags that a sweep clears (R597) -/

/-- A canonical table with its values changed by key, those that are then the default left out. -/
theorem kget_map_filter {α : Type} [DecidableEq α] (d : Nat → α) (m : KMap α) (f : Nat → α → α) (k : Nat) (fixed : f k (d k) = d k)
    (h : kwf d m = true) :
    kget d ((m.map fun e => (e.1, f e.1 e.2)).filter fun e => decide (e.2 ≠ d e.1)) k = f k (kget d m k) := by
  induction m with
  | nil => exact fixed.symm
  | cons e r ih =>
    obtain ⟨j, v⟩ := e
    obtain ⟨-, later, tail⟩ := (kwf_cons d j v r).1 h
    simp only [List.map_cons, List.filter_cons, kget]
    by_cases here : j = k
    · subst here
      rw [if_pos rfl]
      split
      · simp only [kget, if_pos]
      next gone =>
        rw [ih tail, kwf_keys_ge d j r later, fixed]
        exact (not_not.1 (of_decide_eq_false (Bool.eq_false_iff.2 gone))).symm
    · rw [if_neg here, ← ih tail]
      split
      · simp only [kget, if_neg here]
      · rfl

theorem mget_clearTags {s : State} (p : Nat → Bool) (q : Nat) (h : kwf memDefault s.mem = true) :
    mget (clearTags s p) q = if p q then { mget s q with tag := false } else mget s q := by
  have entries : (s.mem.map fun e => if p e.1 then (e.1, { e.2 with tag := false }) else e) =
      s.mem.map fun e => (e.1, if p e.1 then { e.2 with tag := false } else e.2) := by
    refine List.map_congr_left fun e _ => ?_
    split <;> rfl
  show kget memDefault ((s.mem.map fun e => if p e.1 then (e.1, { e.2 with tag := false }) else e).filter fun e =>
    decide (e.2 ≠ memDefault e.1)) q = _
  rw [entries]
  exact kget_map_filter memDefault s.mem (fun a w => if p a then { w with tag := false } else w) q (ite_self _) h

/-! ## The handover (R582, R595 to R598) -/

section
variable {s : State}

/-! ### What the Carrs write -/

/-- The state in which the offers are written, the keys new, the tags of the external ranges clear and every set A open. -/
def handoverSets (s : State) (c p : Image) : State :=
  bootSets (sweepExternal (newKeys (writeOffers s c p) (coreNos (writeOffers s c p)))) p.comp0

/-- The state in which the boot context has its roots. -/
def handoverCtx (s : State) (c p : Image) : State :=
  if p.bootcore % 128 < 16 * s.part.dies then setCtx (handoverSets s c p) (p.bootcore % 128) 0 (bootCtx p) else handoverSets s c p

/-- The state whose pages are then restored. -/
def handoverBoot (s : State) (c p : Image) : State :=
  { releaseFlash (handoverCtx s c p) with
    bootLocks := carrLocks s c p
    boot := { (releaseFlash (handoverCtx s c p)).boot with phase := .done } }

theorem UnitTy.code_injective {u v : UnitTy} (h : u.code = v.code) : u = v := by
  have codes : ((UnitTy.pkg :: offerTypes).map UnitTy.code).Nodup := by decide
  have all (w : UnitTy) : w ∈ UnitTy.pkg :: offerTypes := by cases w <;> decide
  exact List.inj_on_of_nodup_map codes (all u) (all v) h

/-- The state in which the offers of a list of types are written. -/
def offersOf (c p : Image) (l : List UnitTy) (s : State) : State :=
  l.foldl (fun s u => { s with offers := kset (fun _ => 1) s.offers u.code (offerOf s c p u) }) s

/-- A type's offer is written once it has had its turn. -/
theorem offersOf_offers (c p : Image) (u : UnitTy) (l : List UnitTy) : ∀ t : State, t = { s with offers := t.offers } →
    (u ∈ l ∨ kget (fun _ => 1) t.offers u.code = offerOf s c p u) →
    kget (fun _ => 1) (offersOf c p l t).offers u.code = offerOf s c p u := by
  induction l with
  | nil => exact fun t _ turn => turn.resolve_left List.not_mem_nil
  | cons v l ih =>
    intro t same turn
    have offer : offerOf t c p v = offerOf s c p v := by
      rw [same]
      rfl
    refine ih { t with offers := kset (fun _ => 1) t.offers v.code (offerOf t c p v) } (by rw [same]) ?_
    dsimp only
    rw [kget_kset, offer]
    by_cases e : u = v
    · exact Or.inr ((if_pos (congrArg UnitTy.code e)).trans (by rw [e]))
    · rw [if_neg fun h => e (UnitTy.code_injective h)]
      exact turn.imp_left fun h => (List.mem_cons.1 h).resolve_left e

/-- Every type's offer is written (R595). -/
theorem writeOffers_offers (c p : Image) {u : UnitTy} (hu : u ∈ offerTypes) :
    kget (fun _ => 1) (writeOffers s c p).offers u.code = offerOf s c p u :=
  offersOf_offers c p u offerTypes s rfl (Or.inl hu)

/-! ### The cores -/

/-- New keys leave the contexts. -/
theorem newKeys_ctx (s : State) (l : List Nat) (m k : Nat) : ctxAt (newKeys s l) m k = ctxAt s m k := by
  unfold newKeys
  refine foldl_keeps (P := fun t => ctxAt t m k = ctxAt s m k) (fun t n same => ?_) l s rfl
  rw [← same]
  show (coreAt (setCore t n { coreAt t n with tcKey := Config.freeValue 36 t.fresh }) m).ctx k = (coreAt t m).ctx k
  by_cases e : m = n
  · rw [e, coreAt_setCore_same]
    rfl
  · rw [coreAt_setCore_other _ _ e]

theorem bootSets_ctx (s : State) (comp m k : Nat) : ctxAt (bootSets s comp) m k = ctxAt s m k := by
  unfold bootSets
  refine foldl_keeps (P := fun t => ctxAt t m k = ctxAt s m k) (fun t n same => ?_) _ s rfl
  rw [← same]
  show (coreAt (setCore t n { coreAt t n with setA := bootSet comp, setB := RuleSet.init }) m).ctx k = (coreAt t m).ctx k
  by_cases e : m = n
  · rw [e, coreAt_setCore_same]
    rfl
  · rw [coreAt_setCore_other _ _ e]

/-- Every core of the part has the open set A (R406). -/
theorem bootSets_setA (s : State) (comp : Nat) {m : Nat} (hm : m < 16 * s.part.dies) : (coreAt (bootSets s comp) m).setA = bootSet comp := by
  unfold bootSets
  refine foldl_settles (P := fun t => (coreAt t m).setA = bootSet comp) (a := m) (fun t n set => ?_) (fun t => ?_) _ (List.mem_range.2 hm) s
  · by_cases e : m = n
    · rw [e, coreAt_setCore_same]
    · rw [coreAt_setCore_other _ _ e]
      exact set
  · rw [coreAt_setCore_same]

/-- A set that R406 gives: every slot under its rule, in the compartment of the image. -/
theorem bootSet_opens (comp : Nat) {slot : Nat} (hs : slot < 642) :
    (bootSet comp).st = .ready ∧ (bootSet comp).rule slot = 0o3776 ∧ (bootSet comp).comp = comp % 256 := by
  have rules : ∀ r < 3, fld openRules (12 * r + 10) (12 * r) = 0o3776 := by decide
  have word : (bootSet comp).word (4 + slot / 3) = openRules :=
    (kget_kset_other _ _ _ (by omega)).trans (if_pos ⟨by omega, by omega⟩)
  have own : (bootSet comp).word 2 = fval 7 0 comp := kget_kset_same ..
  refine ⟨rfl, ?_, ?_⟩
  · unfold RuleSet.rule
    rw [word]
    exact rules _ (Nat.mod_lt _ (by decide))
  · unfold RuleSet.comp
    rw [own]
    exact fld_fval_same comp (by decide)

/-- The contexts after the handover: the boot context has its roots, the others are as they were (R106). -/
theorem handoverCtx_ctx (c p : Image) (m k : Nat) : ctxAt (handoverCtx s c p) m k =
    if m = p.bootcore % 128 ∧ k = 0 ∧ p.bootcore % 128 < 16 * s.part.dies then bootCtx p else ctxAt s m k := by
  have sets : ctxAt (handoverSets s c p) m k = ctxAt s m k := by
    unfold handoverSets
    have offers : (writeOffers s c p).cores = s.cores := (writeOffers_within (F := [.offers]) (.refl s) ..).cores
    have swept (t : State) : (sweepExternal t).cores = t.cores := (sweepExternal_within (F := [.mem]) (.refl t)).cores
    rw [bootSets_ctx]
    unfold ctxAt
    rw [coreAt_of_cores (swept _)]
    exact (newKeys_ctx _ _ m k).trans (congrArg (·.ctx k) (coreAt_of_cores offers m))
  unfold handoverCtx
  by_cases present : p.bootcore % 128 < 16 * s.part.dies
  · rw [if_pos present]
    by_cases here : m = p.bootcore % 128 ∧ k = 0
    · rw [if_pos ⟨here.1, here.2, present⟩, here.1, here.2, ctxAt_setCtx_same]
    · rw [if_neg fun h => here ⟨h.1, h.2.1⟩, ctxAt_setCtx_other _ _ here, sets]
  · rw [if_neg present, if_neg fun h => present h.2.2, sets]

theorem coreAt_setCtx_setA (t : State) (n h m : Nat) (x : Ctx) : (coreAt (setCtx t n h x) m).setA = (coreAt t m).setA := by
  unfold setCtx
  by_cases e : m = n
  · rw [e, coreAt_setCore_same]
    rfl
  · rw [coreAt_setCore_other _ _ e]

/-- Every core's set A after the handover (R406). -/
theorem handoverCtx_setA (c p : Image) {m : Nat} (hm : m < 16 * s.part.dies) :
    (coreAt (handoverCtx s c p) m).setA = bootSet p.comp0 := by
  have part : (sweepExternal (newKeys (writeOffers s c p) (coreNos (writeOffers s c p)))).part = s.part :=
    (sweepExternal_within (F := [.fresh, .offers, .cores, .mem]) (newKeys_within (writeOffers_within (.refl s) ..) ..) ..).part
  have sets : (coreAt (handoverSets s c p) m).setA = bootSet p.comp0 := bootSets_setA _ p.comp0 (by rw [part]; exact hm)
  unfold handoverCtx
  split
  · rw [coreAt_setCtx_setA]
    exact sets
  · exact sets

/-! ### Flash ports, pages and memory -/

theorem flash_rsetf (t : State) (pg off hi lo v i : Nat) : flash (rsetf t pg off hi lo v) i = flash t i := rfl

theorem flash_setFlash (t : State) (j i : Nat) (f : Flash) : flash (setFlash t j f) i = if i = j then f else flash t i := kget_kset ..

/-- Both flash ports are released (R598). -/
theorem releaseFlash_carr (s : State) {i : Nat} (hi : i < 2) : (flash (releaseFlash s) i).carr = false := by
  unfold releaseFlash
  rw [List.foldl_cons, List.foldl_cons, List.foldl_nil, flash_rsetf, flash_setFlash]
  split
  · rfl
  · rw [flash_rsetf, flash_setFlash, if_pos (by omega)]

/-- A page whose lock Carr sets is locked once its pages are restored (R596). -/
theorem restorePages_locks {p : Nat → Bool} {pg : Nat} (ready : booted s = true) (listed : pg ∈ s.bootLocks) (own : p (domOfPage pg) = true) :
    rget (restorePages s p) pg 10 = 3 := by
  obtain ⟨u, restored, within⟩ : ∃ u, restorePages s p = u.bootLocks.foldl (fun s pg => if p (domOfPage pg) then rset s pg 10 3 else s) u ∧
      Within [.regs] s u :=
    ⟨_, by unfold restorePages; exact if_pos ready, .foldl (fun t d => .ite (.rset (.rset (.rset (.refl _) _ _ _ (by decide)) _ _ _ (by decide)) _ _ _ (by decide))
      (.refl _)) (restoreGates_within (.refl s) ..)⟩
  rw [restored]
  refine foldl_settles (P := fun t => rget t pg 10 = 3) (a := pg) (fun t x set => ?_) (fun t => ?_) _ (within.bootLocks ▸ listed) u
  · split
    · rw [rget_rset _ _ (by decide) (by decide)]
      split
      · rfl
      · exact set
    · exact set
  · rw [if_pos own]
    exact rget_rset_same ..

/-! ### The checker (R582) -/

/-- The body that the checker rebuilds from the words loaded. -/
def loadedBody (s : State) (p : Image) : List (BitVec 8) :=
  (List.range (p.blen / 9)).flatMap fun k =>
    numOct ((mget s (p.load + 2 * k)).data.toNat * 2 ^ 36 + (mget s (p.load + (2 * k + 1))).data.toNat) 9

theorem checkerAgrees_measures {p : Image}
    (readable : ∀ k, k < p.blen / 9 * 2 → memReach s (p.load + k) = .ok ∧ (mget s (p.load + k)).ecc = .good) :
    ∃ t, checkerAgrees s p = (decide (sha384 (p.head ++ loadedBody s p) = p.digest), t) ∧ PairRead s t := by
  obtain ⟨t, reads, read⟩ := physWords_reads s 1 ((List.range (p.blen / 9 * 2)).map fun k => p.load + k) (by
    intro a ha
    obtain ⟨k, hk, rfl⟩ := List.mem_map.1 ha
    obtain ⟨there, good⟩ := readable k (List.mem_range.1 hk)
    exact ⟨there, by rw [good]; decide⟩)
  have body : rebuiltBody s p = (some (loadedBody s p), t) := by
    unfold rebuiltBody
    rw [reads]
    have word (j : Nat) (hj : j < p.blen / 9 * 2) : ((((List.range (p.blen / 9 * 2)).map fun k => p.load + k).map fun a =>
        ((mget s a).data, (mget s a).tag))[j]?).getD (0, false) = ((mget s (p.load + j)).data, (mget s (p.load + j)).tag) := by
      rw [List.getElem?_map, List.getElem?_map, List.getElem?_range hj]
      rfl
    refine congrArg (fun l => (some l, t)) (List.flatMap_congr fun k hk => ?_)
    have := List.mem_range.1 hk
    rw [word _ (by omega), word _ (by omega)]
  refine ⟨t, ?_, read⟩
  unfold checkerAgrees
  rw [body]

/-! ### The entry to Proof -/

theorem ven_toProof_stops (s : State) {i : Nat} (hi : i < 2) : (ven (toProof s) i).running = false := by
  have stops (t : State) (j why : Nat) : (ven (venStop t j why) j).running = false := by
    unfold venStop
    dsimp only
    split
    · rw [ven_setVen_same]
    next off =>
      split
      · rw [ven_setVen_same]
        exact Bool.eq_false_iff.2 off
      · exact Bool.eq_false_iff.2 off
  rw [ven_toProof]
  obtain rfl | rfl : i = 0 ∨ i = 1 := by omega
  · rw [ven_venStopAll_zero]
    exact stops ..
  · exact stops ..

theorem toProof_safety (s : State) : (toProof s).safety = .proof := by
  have blocks : Within [.vens, .blocks] { s with safety := .proof } (toProof s) := by
    unfold toProof
    exact .foldl (fun _ _ => setBlock_within (.refl _) ..) (venStopAll_within (.refl _) ..)
  exact blocks.safety

theorem block_toProof (s : State) {g : Nat} (hg : g < 4 * s.part.dies) : (block (toProof s) g).chkDone = false := by
  have write (t : State) (k : Nat) (b : Block) : block (setBlock t k b) g = if g = k then b else block t g := kget_kset ..
  unfold toProof
  dsimp only
  refine foldl_settles (P := fun t => (block t g).chkDone = false) (a := g) (fun t k done_ => ?_) (fun t => ?_) _
    (List.mem_range.2 hg) _
  · rw [write]
    split
    · rfl
    · exact done_
  · rw [write, if_pos rfl]

/-! ### The handover as a whole -/

/-- The words after the handover: those of the external ranges have lost their tags (R597). -/
theorem mget_handover (c p : Image) (q : Nat) (h : kwf memDefault s.mem = true) : mget (handover s c p) q =
    if 4 ≤ q / 134217728 ∧ q / 134217728 < 8 then { mget s q with tag := false } else mget s q := by
  obtain ⟨u, hu⟩ : ∃ u, u = newKeys (writeOffers s c p) (coreNos (writeOffers s c p)) := ⟨_, rfl⟩
  have before : u.mem = s.mem := hu ▸ (newKeys_within (F := [.fresh, .offers, .cores]) (writeOffers_within (.refl s) ..) ..).mem
  have sets : (handoverSets s c p).mem = (sweepExternal u).mem := hu ▸ (bootSets_within (F := [.cores]) (.refl _) ..).mem
  have ctx : (handoverCtx s c p).mem = (handoverSets s c p).mem := by
    unfold handoverCtx
    split
    · exact (setCtx_within (F := [.cores]) (.refl _) ..).mem
    · rfl
  have after : (handover s c p).mem = (handoverCtx s c p).mem := by
    refine (restorePages_within (F := [.regs]) (.refl (handoverBoot s c p)) fun _ => true).mem.trans ?_
    exact (releaseFlash_within (F := [.regs, .flashes]) (.refl _)).mem
  have same : mget (handover s c p) q = mget (sweepExternal u) q :=
    congrArg (fun m => kget memDefault m q) (after.trans (ctx.trans sets))
  have word : mget u q = mget s q := congrArg (fun m => kget memDefault m q) before
  have range : (inEmp 0 q || inEmp 1 q) = decide (4 ≤ q / 134217728 ∧ q / 134217728 < 8) := by
    unfold inEmp
    rw [← Bool.decide_or]
    exact decide_eq_decide.2 (by omega)
  rw [same]
  unfold sweepExternal
  rw [mget_clearTags _ _ (before ▸ h), word, range]
  exact if_congr decide_eq_true_iff rfl rfl

/-- What the handover leaves in the package's other parts (R406, R595 to R598). -/
theorem handover_shows (c p : Image) :
    (handover s c p).boot.phase = .done ∧ (handover s c p).tt = s.tt ∧
    (∀ m k, ctxAt (handover s c p) m k =
      if m = p.bootcore % 128 ∧ k = 0 ∧ p.bootcore % 128 < 16 * s.part.dies then bootCtx p else ctxAt s m k) ∧
    (∀ m, m < 16 * s.part.dies → (coreAt (handover s c p) m).setA = bootSet p.comp0) ∧
    (∀ u ∈ offerTypes, kget (fun _ => 1) (handover s c p).offers u.code = offerOf s c p u) ∧
    (∀ i, i < 2 → (flash (handover s c p) i).carr = false) ∧
    (∀ pg ∈ carrLocks s c p, rget (handover s c p) pg 10 = 3) := by
  have w : Within [.fresh, .mem, .regs, .cores, .boot, .offers, .bootLocks, .flashes] s (handover s c p) := handover_within (.refl s) ..
  have restored : Within [.regs] (handoverBoot s c p) (handover s c p) := restorePages_within (.refl _) (fun _ => true)
  have ports : Within [.regs, .flashes] (handoverCtx s c p) (releaseFlash (handoverCtx s c p)) := releaseFlash_within (.refl _)
  have cores : (handover s c p).cores = (handoverCtx s c p).cores := restored.cores.trans ports.cores
  have offers : (handover s c p).offers = (writeOffers s c p).offers := by
    refine restored.offers.trans (ports.offers.trans ?_)
    have sets : (handoverSets s c p).offers = (writeOffers s c p).offers :=
      (bootSets_within (F := [.fresh, .mem, .cores]) (sweepExternal_within (newKeys_within (.refl (writeOffers s c p)) ..) ..) ..).offers
    unfold handoverCtx
    split
    · exact (setCtx_within (F := [.cores]) (.refl _) ..).offers.trans sets
    · exact sets
  refine ⟨?_, w.tt, fun m k => ?_, fun m hm => ?_, fun u hu => ?_, fun i hi => ?_, fun pg listed => ?_⟩
  · rw [restored.boot]
    rfl
  · exact (congrArg (·.ctx k) (coreAt_of_cores cores m)).trans (handoverCtx_ctx ..)
  · exact (congrArg (·.setA) (coreAt_of_cores cores m)).trans (handoverCtx_setA c p hm)
  · rw [offers]
    exact writeOffers_offers c p hu
  · have same : flash (handover s c p) i = flash (releaseFlash (handoverCtx s c p)) i :=
      congrArg (fun m => kget (fun _ => Flash.init) m i) restored.flashes
    rw [same]
    exact releaseFlash_carr _ hi
  · exact restorePages_locks (s := handoverBoot s c p) rfl listed rfl

/-- The pages that Carr locks (R597, R598). -/
theorem carrLocks_lists (c p : Image) : (∀ e, e < s.part.dies → carrPg e ∈ carrLocks s c p) ∧
    (s.lcs = .field → flashPg (bnat c.src) ∈ carrLocks s c p) := by
  unfold carrLocks
  refine ⟨fun e he => List.mem_append_right _ (List.mem_map_of_mem (List.mem_range.2 he)), fun field => List.mem_append_left _ ?_⟩
  rw [if_pos field]
  split
  · exact List.mem_singleton.2 rfl
  · cases c.src
    · exact List.mem_cons_self
    · exact List.mem_cons_of_mem _ List.mem_cons_self

theorem locked_of_lock {pg : Nat} (lock : rget s pg 10 = 3) (other : pg ≠ pkgPg 3) : locked s pg = true := by
  unfold locked
  rw [lock, decide_eq_true other]
  rfl

end

/-- The roots of the boot context (R106, Table 3.7). -/
theorem bootCtx_roots (p : Image) :
    (bootCtx p).st = .ready ∧ (bootCtx p).comp = p.comp0 % 256 ∧ (bootCtx p).priv = 0 ∧
    (bootCtx p).pcc = { hi := 0xb26000100#36, lo := fval 35 30 0x16 ||| fval 29 0 p.entry, tag := true } ∧
    (bootCtx p).cr 1 = { hi := 0xde3000100#36, lo := 0x580000000#36, tag := true } ∧
    (bootCtx p).cr 2 = { hi := 0x38000040#36, lo := 0, tag := true } ∧ (∀ k, 1 ≤ k → k < 32 → (bootCtx p).wr k = 0) :=
  ⟨rfl, fld_fval_same p.comp0 (by decide), fld_fval_other p.comp0 (by decide), rfl, rfl, rfl, fun k _ _ => by
    unfold Ctx.wr Ctx.wphys
    split <;> rfl⟩

/-- The handover as the checker ends it. -/
theorem handoverStartsProof : Rule.HandoverStartsProof := by
  intro s x y agrees d facts n accepted readable word measured
  have starts (f : HandoverFacts) : accepted → exec (.handover f) s = .next (match f.rngFail with
      | some d => rngFailed s d
      | none => finishHandover s x y f.agrees) := by
    rintro ⟨phase, ofCarr, ofApp, clock, safety⟩
    show execHandover f s = _
    unfold execHandover
    rw [phase, ofCarr, ofApp]
    exact congrArg done (if_pos ⟨clock, safety⟩)
  have checks (reads : readable) : ∃ u, checkerAgrees s y = (decide (measured = y.digest), u) ∧ PairRead s u :=
    checkerAgrees_measures reads
  refine ⟨fun accept reads same => ?_, fun accept reads differs => ?_, fun accept => ⟨_, starts ⟨agrees, some d⟩ accept, ?_, rfl, rfl⟩,
    fun none_ => ⟨s, ?_, rfl⟩⟩
  · obtain ⟨u, checked, read⟩ := checks reads
    have run := starts ⟨true, none⟩ accept
    have ends : finishHandover s x y true = toProof (handover u x y) := by
      unfold finishHandover
      rw [checked, decide_eq_true same]
      rfl
    obtain ⟨phase, time, ctxs, sets, offers, ports, locks⟩ := handover_shows (s := u) x y
    obtain ⟨listed, field⟩ := carrLocks_lists (s := u) x y
    have proof_ : Within [.safety, .blocks, .vens] (handover u x y) (toProof (handover u x y)) := toProof_within (.refl _)
    have part : u.part = s.part := read.touch.part
    have ctx (m k : Nat) : ctxAt (toProof (handover u x y)) m k =
        if m = n ∧ k = 0 ∧ n < 16 * s.part.dies then bootCtx y else ctxAt s m k := by
      have before : ctxAt u m k = ctxAt s m k := congrArg (·.ctx k) (coreAt_of_cores read.touch.cores m)
      rw [← part, ← before]
      exact (congrArg (·.ctx k) (coreAt_of_cores proof_.cores m)).trans (ctxs m k)
    have offer (w : UnitTy) : offerOf u x y w = offerOf s x y w := by
      unfold offerOf fuseFeat featBits
      rw [part, read.touch.boot, read.touch.fusesRead]
    have lock (pg : Nat) (h : pg ∈ carrLocks u x y) (other : pg ≠ pkgPg 3) : locked (toProof (handover u x y)) pg = true :=
      locked_of_lock ((proof_.rget pg 10).trans (locks pg h)) other
    refine ⟨toProof (handover u x y), run.trans (congrArg _ ends), ?_, (congrArg Boot.phase proof_.boot).trans phase,
      proof_.tt.trans (time.trans read.touch.tt), fun form q => ?_, fun present => ?_, fun m k other => ?_, fun m slot hm hs => ?_,
      fun w hw => ?_, fun i hi => ⟨?_, ven_toProof_stops _ hi⟩, fun g hg => ?_, fun e he => ?_, fun inField => ?_⟩
    · exact toProof_safety _
    · rw [← read.touch.mem] at form
      have words (q : Nat) : mget u q = mget s q := read.touch.mget q
      rw [proof_.mget, mget_handover x y q form, words]
    · rw [ctx, if_pos ⟨rfl, rfl, present⟩]
      exact bootCtx_roots y
    · rw [ctx, if_neg fun h => other ⟨h.1, h.2.1⟩]
    · have set : (coreAt (toProof (handover u x y)) m).setA = bootSet y.comp0 :=
        (congrArg (·.setA) (coreAt_of_cores proof_.cores m)).trans (sets m (by rw [part]; exact hm))
      rw [set]
      exact bootSet_opens y.comp0 hs
    · rw [proof_.offers, offers w hw, offer]
    · exact (congrArg (fun m => (kget (fun _ => Flash.init) m i).carr) proof_.flashes).trans (ports i hi)
    · have same : (handover u x y).part = s.part :=
        (handover_within (F := [.fresh, .mem, .regs, .cores, .boot, .offers, .bootLocks, .flashes]) (.refl u) ..).part.trans part
      exact block_toProof _ (by rw [same]; exact hg)
    · exact lock _ (listed e (by rw [part]; exact he)) (by unfold carrPg diePg pkgPg pageNo; omega)
    · exact lock _ (field (read.touch.lcs.trans inField)) (by cases x.src <;> decide)
  · obtain ⟨u, checked, read⟩ := checks reads
    have run := starts ⟨agrees, none⟩ accept
    have ends : finishHandover s x y agrees = mireEnter (handover u x y) 5 0 0 := by
      unfold finishHandover
      rw [checked]
      refine if_neg ?_
      rcases differs with other | no
      · rw [decide_eq_false other, Bool.false_and]
        decide
      · rw [no, Bool.and_false]
        decide
    have w : Within [.fresh, .mem, .regs, .cores, .boot, .offers, .bootLocks, .flashes] u (handover u x y) := handover_within (.refl u) ..
    have boot : (handover u x y).safety = .boot := w.safety.trans (read.touch.safety.trans accept.2.2.2.2)
    have records := mireEnter_records (s := handover u x y) 5 0 0 (by rw [boot]; decide)
    refine ⟨_, run.trans (congrArg _ ends), mireEnter_safety .., ?_⟩
    rw [records]
    decide
  · show (if s.safety = .boot then BootPhase.holding else s.boot.phase) = .holding
    exact if_pos accept.2.2.2.2
  · show execHandover facts s = _
    unfold execHandover
    split
    next phase _ _ => exact absurd phase none_
    · rfl

/-- Settles O52: the choice of the images, and the handover that starts the first application instruction. -/
theorem bootAndHandover : Obligations.BootAndHandover := ⟨bootChoosesImages, handoverStartsProof⟩

end Sys2Proof.Machine

namespace Sys2Proof.Machine
open Sys2Proof
set_option Elab.async false

/-! ## What time does in Sluice (R489, R492, R495, R505) -/

section
variable {s s1 t u : State} {m cause : Nat}

/-- The counts of the SLUICE page of a channel's region. -/
def sluiceCounts (m : Nat) (p off : Nat) : Prop := p = sluicePg (m / 24) ∧ (off = 23 ∨ off = 24)

theorem chMode_of_counts (kept : RegsKept s s1 (sluiceCounts m)) (k : Nat) : chMode s1 k = chMode s k := by
  unfold chMode chcfg chanReg
  rw [kept _ _ (by unfold chanOff; omega)]
  rintro ⟨same, -⟩
  unfold chanPg sluicePg regionPg pageNo at same
  omega

/-- A channel made safe from a state that differs in votes and counts alone is made safe. -/
theorem MadeSafe.from (w : Within [.voters, .regs, .evTick, .events] s s1) (kept : RegsKept s s1 (sluiceCounts m))
    (made : MadeSafe s1 t m cause) : MadeSafe s t m cause := by
  obtain ⟨safe, outputs, dark, events, eventsKept, votes, ⟨captured, pends⟩, others, regs, mem, cores, safety, refs⟩ := made
  rw [chMode_of_counts kept] at outputs dark
  rw [w.reed] at events eventsKept
  have same {off : Nat} (h : off < 512) (n : off ≠ 23 ∧ off ≠ 24) : rget s1 (sluicePg (m / 24)) off = rget s (sluicePg (m / 24)) off :=
    kept _ _ h fun e => by
      obtain ⟨-, e⟩ := e
      omega
  refine ⟨safe, outputs, dark, events, eventsKept, votes,
    ⟨captured.of_before (same (by decide) (by decide)) (same (by decide) (by decide)), pends⟩, fun k h => (others k h).trans (w.chan k),
    RegsKept.trans (kept.mono fun p off h => .inl ⟨h.1, .inr (.inr (.inr h.2))⟩) regs,
    mem.trans w.mem, cores.trans w.cores, safety.trans w.safety, refs.trans w.refs⟩

/-- What follows that touches votes and vital enables alone leaves the channel made safe. -/
theorem MadeSafe.then (made : MadeSafe s t m cause) (w : Within [.voters, .vens] t u)
    (votes : (∀ w ∈ (voter u (m / 24)).wins, w.chan ≠ m) ∧ ∀ c ∈ (voter u (m / 24)).commits, c.chan ≠ m) : MadeSafe s u m cause := by
  obtain ⟨safe, outputs, dark, events, eventsKept, -, ⟨captured, pends⟩, others, regs, mem, cores, safety, refs⟩ := made
  refine ⟨?_, ?_, ?_, ?_, ?_, votes, ⟨captured.after (w.rget _ _) (w.rget _ _) fun h => by rwa [w.rget], ?_⟩, fun k h => (w.chan k).trans (others k h), RegsKept.trans regs (.of_within w _),
    w.mem.trans mem, w.cores.trans cores, w.safety.trans safety, w.refs.trans refs⟩
  · rwa [w.chan]
  · rwa [w.chan]
  · rwa [w.chan]
  · rwa [w.reed]
  · rwa [w.reed]
  · rwa [w.rget]

/-- Sluice makes a channel safe (R489, R492). -/
theorem sluiceSafe_safe (key : BitVec 12) (lanes : Nat) (out : (chan s m).safe = false) :
    MadeSafe s (sluiceSafe s m cause key lanes) m cause := by
  obtain ⟨s1, h1⟩ : ∃ s1, s1 = if cause = 1 then rinc s (sluicePg (m / 24)) 23 17 0 else
    if cause = 2 then rinc s (sluicePg (m / 24)) 24 35 24 else s := ⟨_, rfl⟩
  have w1 : Within [.voters, .regs, .evTick, .events] s s1 := h1 ▸ .ite (rinc_within (.refl s) ..) (.ite (rinc_within (.refl s) ..) (.refl s))
  have kept : RegsKept s s1 (sluiceCounts m) :=
    h1 ▸ .ite (.rinc _ _ _ (by decide) ⟨rfl, .inl rfl⟩) (.ite (.rinc _ _ _ (by decide) ⟨rfl, .inr rfl⟩) (.refl _ _))
  have made := MadeSafe.from w1 kept (safeEnter_safe (s := s1) cause key.toNat lanes (by rw [w1.chan, out])).1
  obtain ⟨t, ht⟩ : ∃ t, t = clearVoter (safeEnter s1 m cause key.toNat lanes) m := ⟨_, rfl⟩
  have votes := clearVoter_votes (safeEnter s1 m cause key.toNat lanes) m
  have wt : Within [.voters, .vens] (safeEnter s1 m cause key.toNat lanes) t := ht ▸ clearVoter_within (.refl _) ..
  rw [← ht] at votes
  have ends : sluiceSafe s m cause key lanes = if cause = 2 then venMismatch t else t := by
    rw [ht, h1]
    rfl
  rw [ends]
  split
  · have wm : Within [.vens] t (venMismatch t) := venMismatch_within (.refl t)
    exact made.then (wt.trans (wm.mono (by decide))) (by rw [wm.voter]; exact votes)
  · exact made.then wt votes

/-- A saturating field of 12 bits counts one more, up to its largest value. -/
theorem fld_incSat_unused (w : Word) : fld (incSat w 11 0) 11 0 = min 4095 (fld w 11 0 + 1) := by
  have below : fld w 11 0 < 2 ^ 12 := fld_lt w 11 0
  unfold incSat
  split <;> rw [fld_setFld_same _ _ _ _ (by decide)] <;> omega

theorem window_found {v : Voter} {key : BitVec 12} {w : Window} (found : v.window m key = some w) : w.chan = m ∧ w.key = key :=
  by
  unfold Voter.window at found
  have holds := List.find?_some found
  exact of_decide_eq_true holds

theorem window_dropWin (v : Voter) (m : Nat) (key : BitVec 12) : (v.dropWin m key).window m key = none := by
  unfold Voter.window Voter.dropWin
  simp +contextual [List.find?_eq_none, imp_iff_not_or]

theorem commit_dropCommit (v : Voter) (m : Nat) (key : BitVec 12) : (v.dropCommit m key).commit m key = none := by
  unfold Voter.commit Voter.dropCommit
  simp +contextual [List.find?_eq_none, imp_iff_not_or]

end

section
variable {s : State} {ch : BitVec 10} {key : BitVec 12} {w : Window} {c : Commit}

theorem exec_windowExpiry (works : unitWorks s (sluicePg (ch.toNat / 24)) = true)
    (found : (voter s (ch.toNat / 24)).window ch.toNat key = some w) :
    exec (.windowExpiry ch key) s =
      .next (if w.t0 + cwin s (ch.toNat / 24) ≤ s.tt then closeWindow s (ch.toNat / 24) w else s) := by
  show done (unitDo s _ _) = _
  rw [unitDo_of_works works, found]
  rfl

/-- A window with proposals ends without an agreement: its channel is made safe (R489). -/
theorem closeWindow_asked {m : Nat} (found : w.chan = m) (asked : w.props.filter (fun p => !p.release) ≠ []) (out : (chan s m).safe = false) :
    MadeSafe s (closeWindow s (m / 24) w) m (if 2 ≤ (w.props.filter (fun p => !p.release)).length then 2 else 1) := by
  obtain ⟨s1, h1⟩ : ∃ s1, s1 = setVoter s (m / 24) ((voter s (m / 24)).dropWin w.chan w.key) := ⟨_, rfl⟩
  have w1 : Within [.voters] s s1 := h1 ▸ setVoter_within (.refl s) ..
  have closes : closeWindow s (m / 24) w = sluiceSafe s1 m (if 2 ≤ (w.props.filter (fun p => !p.release)).length then 2 else 1) w.key
      (laneMask ((w.props.filter (fun p => !p.release)).map (fun p => p.lane))) := by
    unfold closeWindow
    dsimp only
    rw [if_neg (by simpa using asked), ← h1, found]
  rw [closes]
  exact MadeSafe.from (w1.mono (by decide)) (.of_within w1 _) (sluiceSafe_safe _ _ (by rw [w1.chan, out]))

/-- A window of releases alone ends (R505). -/
theorem closeWindow_releases (g : Nat) (none_ : w.props.filter (fun p => !p.release) = []) :
    closeWindow s g w = setVoter s g ((voter s g).dropWin w.chan w.key) := by
  unfold closeWindow
  dsimp only
  rw [none_]
  rfl

theorem exec_commitRelease (works : unitWorks s (sluicePg (ch.toNat / 24)) = true)
    (found : (voter s (ch.toNat / 24)).commit ch.toNat key = some c) :
    exec (.commitRelease ch key) s = .next (
      if (c.armed && !(reed s (ch.toNat / 96)).ev.any (fun p => p.2.live && p.2.st != .pending &&
        decide (p.2.chan = ch.toNat % 96 ∧ p.2.key = key.toNat))) = true
      then setVoter s (ch.toNat / 24) ((voter s (ch.toNat / 24)).dropCommit ch.toNat key) else s) := by
  show done (unitDo s _ _) = _
  rw [unitDo_of_works works, found]
  rfl

/-- No entry of Reed that is Armed or Dispatched carries the commit (R492). -/
theorem commit_unused {l : KMap Event} {x k : Nat} (none_ : ∀ p ∈ l, p.2.chan = x → p.2.key = k → p.2.st = .free ∨ p.2.st = .pending) :
    l.any (fun p => p.2.live && p.2.st != .pending && decide (p.2.chan = x ∧ p.2.key = k)) = false := by
  rw [List.any_eq_false]
  intro p mem carries
  simp only [Bool.and_eq_true, decide_eq_true_eq, bne_iff_ne, ne_eq] at carries
  obtain ⟨⟨live, notPending⟩, chan_, key_⟩ := carries
  rcases none_ p mem chan_ key_ with free | pending
  · unfold Event.live at live
    rw [free] at live
    exact absurd live (by decide)
  · exact notPending pending

theorem exec_choldExpiry (works : unitWorks s (sluicePg (ch.toNat / 24)) = true)
    (found : (voter s (ch.toNat / 24)).commit ch.toNat key = some c) :
    exec (.choldExpiry ch key) s = .next (if (!c.armed && decide (c.start + chold s (ch.toNat / 24) ≤ s.tt)) = true
      then rinc (setVoter s (ch.toNat / 24) ((voter s (ch.toNat / 24)).dropCommit ch.toNat key)) (sluicePg (ch.toNat / 24)) 24 11 0
      else s) := by
  show done (unitDo s _ _) = _
  rw [unitDo_of_works works, found]
  rfl

/-- A commit that was not used in CHOLD ends and is counted (R495). -/
theorem commitUnused_counts (s : State) (m : Nat) (key : BitVec 12) :
    let t := rinc (setVoter s (m / 24) ((voter s (m / 24)).dropCommit m key)) (sluicePg (m / 24)) 24 11 0
    (voter t (m / 24)).commit m key = none ∧ t.chans = s.chans ∧
      fld (rget t (sluicePg (m / 24)) 24) 11 0 = min 4095 (fld (rget s (sluicePg (m / 24)) 24) 11 0 + 1) ∧
      RegsKept s t (fun p o => p = sluicePg (m / 24) ∧ o = 24) := by
  obtain ⟨u, hu⟩ : ∃ u, u = setVoter s (m / 24) ((voter s (m / 24)).dropCommit m key) := ⟨_, rfl⟩
  have regs : u.regs = s.regs := hu ▸ rfl
  have counted : rget (rinc u (sluicePg (m / 24)) 24 11 0) (sluicePg (m / 24)) 24 = incSat (rget s (sluicePg (m / 24)) 24) 11 0 := by
    rw [rget_rinc u (by decide) (by decide), if_pos ⟨rfl, rfl⟩, hu]
    rfl
  have w : Within [.regs] u (rinc u (sluicePg (m / 24)) 24 11 0) := rinc_within (.refl u) ..
  rw [← hu]
  refine ⟨?_, w.chans.trans (hu ▸ rfl), by rw [counted, fld_incSat_unused],
    RegsKept.trans (.of_regs regs _) (.rinc _ _ _ (by decide) ⟨rfl, rfl⟩)⟩
  rw [w.voter, hu, voter_setVoter_same]
  exact commit_dropCommit ..

end

/-! ## The configuration of Sluice (R484, R485, R708) -/

section
variable {s : State} {pg : Nat}

/-- A page whose unit has a reason against it is not enabled (R76). -/
theorem enable_refused (idle : (dom s (domOfPage pg)).drain = none) (base : bit (rget s pg 3) 0 = true) (cause : Nat) :
    Captured s (enable s pg (some cause)) pg cause (regAddr pg 4) ∧ rget (enable s pg (some cause)) pg 4 = rget s pg 4 ∧
      bit (rget (enable s pg (some cause)) pg 5) 2 = true := by
  obtain ⟨u, hu⟩ : ∃ u, u = rset s pg 5 (setBit (rget s pg 5) 2 true) := ⟨_, rfl⟩
  have refuses : enable s pg (some cause) = capture u pg cause (regAddr pg 4) := by
    unfold enable
    rw [idle, base, hu]
    rfl
  have kept : RegsKept s u (fun p off => p = pg ∧ off = 5) := hu ▸ .rset _ _ (by decide) ⟨rfl, rfl⟩
  have shown : rget u pg 5 = setBit (rget s pg 5) 2 true := hu ▸ rget_rset_same ..
  have after : RegsKept u (capture u pg cause (regAddr pg 4)) (captureRegs pg) := (regsKept_capture u pg cause _).mono fun p o h => ⟨h.1, h.2⟩
  rw [refuses]
  refine ⟨(captured_capture u pg cause _).of_before (kept _ _ (by decide) (by omega)) (kept _ _ (by decide) (by omega)),
    (after _ _ (by decide) (by unfold captureRegs; omega)).trans (kept _ _ (by decide) (by omega)), ?_⟩
  rw [after _ _ (by decide) (by unfold captureRegs; omega), shown]
  exact bit_setBit_same _ _ _ (by decide)

/-- A page with BASE accepted and nothing against it is enabled (R76). -/
theorem enable_takes (idle : (dom s (domOfPage pg)).drain = none) (base : bit (rget s pg 3) 0 = true) :
    enabled (enable s pg none) pg = true ∧ RegsKept s (enable s pg none) (fun p off => p = pg ∧ off = 4) := by
  have takes : enable s pg none = rset s pg 4 (setBit (rget s pg 4) 0 true) := by
    unfold enable
    rw [idle, base]
    rfl
  rw [takes]
  unfold enabled
  rw [rget_rset_same]
  exact ⟨bit_setBit_same _ _ _ (by decide), .rset _ _ (by decide) ⟨rfl, rfl⟩⟩

theorem lane_fields : ∀ l < 3, wcMask (UnitTy.sluice.fields (17 + l)) = 0 := by decide

/-- The SLUICE page of a region that works. -/
theorem unitOf_sluicePg {g : Nat} (hg : g < 32) (works : unitWorks s (sluicePg g) = true) : unitOf s.part (sluicePg g) = some .sluice := by
  obtain ⟨u, e⟩ := unit_of_works works
  unfold sluicePg at e ⊢
  rw [unitOf_regionPg _ hg (by decide)] at e ⊢
  split at e
  next inside => exact if_pos inside
  · cases e

/-- A lane is bound while the voter is off, in Boot or Proof (R485). -/
theorem laneStore_binds {g l : Nat} (hl : l < 3) (v : Word) (unit : unitOf s.part (sluicePg g) = some .sluice)
    (unlocked : locked s (sluicePg g) = false) (third : l = 2 → s.part = .tfw8x) (may : mayBind s g = true) :
    laneStore s g l v = rset s (sluicePg g) (17 + l) (applyWrite (UnitTy.sluice.fields (17 + l)) (laneReg s g l) v) := by
  unfold laneStore
  dsimp only
  rw [if_neg fun h => h.2 (third h.1), unlessLocked_open _ _ unlocked, may, if_pos rfl]
  unfold writeFields
  rw [unit]
  dsimp only
  rw [lane_fields l hl, show ∀ w e : Word, w ||| (e &&& 0) = w by simp]
  rfl

theorem laneStore_refuses {g l : Nat} (v : Word) (unlocked : locked s (sluicePg g) = false) (third : l = 2 → s.part = .tfw8x)
    (may : mayBind s g = false) : laneStore s g l v = captureAt s (sluicePg g) 9 (17 + l) := by
  unfold laneStore
  dsimp only
  rw [if_neg fun h => h.2 (third h.1), unlessLocked_open _ _ unlocked, may]
  rfl

/-- SRST of a voter drops its windows and commits, and returns its page to reset (R703, R708). -/
theorem sluiceReset_drops {g : Nat} (unlocked : locked s (sluicePg g) = false) (may : mayBind s g = true) :
    (voter (sluiceReset s g) g).wins = [] ∧ (voter (sluiceReset s g) g).commits = [] ∧
      rget (sluiceReset s g) (sluicePg g) 10 = rget s (sluicePg g) 10 ∧
      (∀ o, o < 512 → o ≠ 10 → rget (sluiceReset s g) (sluicePg g) o = regDefault (sluicePg g * 512 + o)) ∧
      (sluiceReset s g).chans = s.chans := by
  obtain ⟨u, hu⟩ : ∃ u, u = setVoter s g { voter s g with
    wins := []
    commits := []
    safeInfo := [] } := ⟨_, rfl⟩
  have resets : sluiceReset s g = resetPage u (sluicePg g) := by
    unfold sluiceReset
    dsimp only
    rw [unlessLocked_open _ _ unlocked, may, hu]
    rfl
  have votes : voter (resetPage u (sluicePg g)) g = voter u g := rfl
  rw [resets, votes, hu, voter_setVoter_same]
  refine ⟨rfl, rfl, ?_, fun o ho n => ?_, rfl⟩
  · rw [rget_resetPage _ _ _ (by decide), if_pos (.inr rfl)]
    rfl
  · rw [rget_resetPage _ _ _ ho, if_neg (by simpa using n)]

theorem sluiceReset_refuses {g : Nat} (unlocked : locked s (sluicePg g) = false) (may : mayBind s g = false) :
    sluiceReset s g = captureAt s (sluicePg g) 9 4 := by
  unfold sluiceReset
  dsimp only
  rw [unlessLocked_open _ _ unlocked, may]
  rfl

end

/-- Settles O46: each command's branches, by the laws of windows, commits, enables and resets above. -/
theorem sluiceTimeAndConfiguration : Obligations.SluiceTimeAndConfiguration := by
  intro s ch key region lane v w c m k g pg asks
  refine ⟨fun works => ⟨fun found => ?_, fun found => ?_⟩, fun works opened => ⟨fun idle base => ?_, fun third has => ?_, fun may => ?_, fun may => ?_⟩⟩
  · obtain ⟨chan_, key_⟩ := window_found found
    have run := exec_windowExpiry works found
    refine ⟨fun due asked out => ?_, fun due none_ => ?_, fun early => ?_⟩
    · rw [if_pos due] at run
      exact ⟨_, run, closeWindow_asked chan_ asked out⟩
    · rw [if_pos due, closeWindow_releases _ none_, chan_, key_] at run
      refine ⟨_, run, ?_, ?_, rfl⟩
      · rw [voter_setVoter_same]
        exact window_dropWin ..
      · rw [voter_setVoter_same]
        rfl
    · rw [if_neg (Nat.not_le.2 early)] at run
      exact ⟨s, run, rfl⟩
  · have release := exec_commitRelease works found
    have hold := exec_choldExpiry works found
    refine ⟨fun armed free => ?_, fun armed => ?_, fun armed due => ?_, fun armed early => ?_⟩
    · rw [armed, commit_unused free, if_pos (by decide)] at release
      refine ⟨_, release, ?_, ?_, rfl⟩
      · rw [voter_setVoter_same]
        exact commit_dropCommit ..
      · rw [voter_setVoter_same]
        rfl
    · rw [armed] at release
      exact ⟨s, release, rfl⟩
    · rw [armed, decide_eq_true due, if_pos (by decide)] at hold
      exact ⟨_, hold, commitUnused_counts s m key⟩
    · rw [armed, decide_eq_false (Nat.not_le.2 early), if_neg (by decide)] at hold
      exact ⟨s, hold, rfl⟩
  · have run : exec (.sluiceEnable region) s = .next (enable s pg (if laneOk s g (v3On s g) then none else some 9)) :=
      congrArg done ((unitDo_of_works works _).trans (unlessLocked_open 4 _ opened))
    refine ⟨fun ok => ?_, fun bad => ?_⟩
    · rw [ok] at run
      exact ⟨_, run, enable_takes idle base⟩
    · rw [bad] at run
      exact ⟨_, run, enable_refused idle base 9⟩
  · have run : exec (.laneWrite region lane v) s = .next (laneStore s g lane.toNat v) :=
      congrArg done ((unitDo_of_works works _).trans (if_neg (by omega)))
    have unit := unitOf_sluicePg region.isLt works
    refine ⟨fun may => ?_, fun may => ?_⟩
    · rw [laneStore_binds third v unit opened has may] at run
      exact ⟨_, run, rget_rset_same .., .rset _ _ (by omega) ⟨rfl, rfl⟩, rfl⟩
    · rw [laneStore_refuses v opened has may] at run
      obtain ⟨⟨kept, only⟩, captured⟩ := captureAt_only s pg 9 (17 + lane.toNat)
      exact ⟨_, run, captured, kept.mono fun p o h => ⟨h.1, h.2.2⟩, only⟩
  · have run : exec (.sluiceSrst region) s = .next (sluiceReset s g) := congrArg done (unitDo_of_works works _)
    exact ⟨_, run, sluiceReset_drops opened may⟩
  · have run : exec (.sluiceSrst region) s = .next (sluiceReset s g) := congrArg done (unitDo_of_works works _)
    rw [sluiceReset_refuses opened may] at run
    have w : Within Area.ofSignal s (captureAt s pg 9 4) := capture_within (.refl s) ..
    exact ⟨_, run, (captureAt_only s pg 9 4).2, w.voters⟩

end Sys2Proof.Machine

namespace Sys2Proof.Machine
open Sys2Proof
set_option Elab.async false

/-! ## Packed octets (R8) -/

theorem octParity_le (v : Nat) : octParity v ≤ 1 := by
  unfold octParity
  exact Nat.le_of_lt_succ (Nat.mod_lt _ (by decide))

theorem packOctet_lt (v : Nat) : packOctet v < 512 := by
  have := octParity_le v
  unfold packOctet
  omega

/-- The bits above the octet do not count for its parity. -/
theorem octParity_mod (v q : Nat) : octParity (v % 256 + 256 * q) = octParity v := by
  unfold octParity
  have digit : ∀ i, i < 8 → (v % 256 + 256 * q) / 2 ^ i % 2 = v / 2 ^ i % 2 := fun i hi => by
    obtain rfl | rfl | rfl | rfl | rfl | rfl | rfl | rfl : i = 0 ∨ i = 1 ∨ i = 2 ∨ i = 3 ∨ i = 4 ∨ i = 5 ∨ i = 6 ∨ i = 7 := by omega
    all_goals omega
  refine congrArg (· % 2) ?_
  show (((((((0 + _) + _) + _) + _) + _) + _) + _) + _ = (((((((0 + _) + _) + _) + _) + _) + _) + _) + _
  rw [digit 0 (by decide), digit 1 (by decide), digit 2 (by decide), digit 3 (by decide), digit 4 (by decide), digit 5 (by decide),
    digit 6 (by decide), digit 7 (by decide)]

/-- A packed octet has the parity that R8 asks for. -/
theorem octetGood_packOctet (v : Nat) : octetGood (packOctet v) = true := by
  unfold octetGood packOctet
  rw [octParity_mod]
  have := octParity_le v
  exact decide_eq_true (by omega)

/-- Octet i of four packed ones. -/
theorem part_packFour (l : List (BitVec 8)) : ∀ i < 4, part (packFour l) 9 (3 - i) = packOctet ((l[i]?).getD 0).toNat := by
  obtain ⟨p, hp⟩ : ∃ p : Nat → Nat, p = fun i => packOctet ((l[i]?).getD 0).toNat := ⟨_, rfl⟩
  have small (i : Nat) : p i % 2 ^ 9 = p i := Nat.mod_eq_of_lt (hp ▸ packOctet_lt _)
  have word : packFour l = setFld (setFld (setFld (setFld 0 35 27 (p 0)) 26 18 (p 1)) 17 9 (p 2)) 8 0 (p 3) := by
    rw [hp]
    rfl
  have at_ (i : Nat) : packOctet ((l[i]?).getD 0).toNat = p i := by rw [hp]
  intro i hi
  rw [word, at_]
  unfold part
  obtain rfl | rfl | rfl | rfl : i = 0 ∨ i = 1 ∨ i = 2 ∨ i = 3 := by omega
  · rw [fld_setFld_other _ _ _ _ _ _ (by decide), fld_setFld_other _ _ _ _ _ _ (by decide), fld_setFld_other _ _ _ _ _ _ (by decide)]
    exact (fld_setFld_same _ _ _ _ (by decide)).trans (small 0)
  · rw [fld_setFld_other _ _ _ _ _ _ (by decide), fld_setFld_other _ _ _ _ _ _ (by decide)]
    exact (fld_setFld_same _ _ _ _ (by decide)).trans (small 1)
  · rw [fld_setFld_other _ _ _ _ _ _ (by decide)]
    exact (fld_setFld_same _ _ _ _ (by decide)).trans (small 2)
  · exact (fld_setFld_same _ _ _ _ (by decide)).trans (small 3)

/-- The octets of a word come back as they were packed. -/
theorem unpackWord_packFour {l : List (BitVec 8)} : ∀ {k : Nat}, k ≤ 4 → k ≤ l.length → unpackWord (packFour l) k = some (l.take k)
  | 0, _, _ => rfl
  | k + 1, four, long => by
    have before := unpackWord_packFour (l := l) (k := k) (by omega) (by omega)
    unfold unpackWord at before ⊢
    rw [List.range_succ, List.foldl_append, before]
    have octet : l[k]? = some l[k] := List.getElem?_eq_getElem (by omega)
    have back : BitVec.ofNat 8 (packOctet l[k].toNat) = l[k] := by
      apply BitVec.eq_of_toNat_eq
      rw [BitVec.toNat_ofNat]
      unfold packOctet
      omega
    simp only [List.foldl_cons, List.foldl_nil, part_packFour l k (by omega), octetGood_packOctet, octet, Option.getD_some, back, if_true]
    rw [List.take_add_one, octet]
    rfl

/-- The octets of word n of a packed string. -/
theorem unpackWord_drop {l : List (BitVec 8)} {n : Nat} (inside : n * 4 < l.length) :
    unpackWord (packFour (l.drop (4 * n))) (min 4 (l.length - 4 * n)) = some ((l.drop (4 * n)).take 4) := by
  rw [unpackWord_packFour (Nat.min_le_left ..) (by rw [List.length_drop]; exact Nat.min_le_right ..)]
  congr 1
  rw [← List.length_drop, ← List.take_eq_take_min]

theorem wordsFor_covers (n : Nat) : n ≤ 4 * wordsFor n := by
  unfold wordsFor
  omega

/-! ## The DMA of a port (R550 to R552) -/

/-- The fields that the words of a DMA move. -/
abbrev Area.ofDma : List Area := [.mem, .eccWb, .regs, .evTick, .events, .heatCnt, .heatDue, .slots]

/-- The state t after words that a port has read from, or written to, memory in s, without an error. -/
structure Moved (s t : State) : Prop where
  within : Within Area.ofDma s t
  regs : t.regs = s.regs

namespace Moved

variable {s t u : State}

theorem refl (s : State) : Moved s s := ⟨.refl s, rfl⟩

theorem trans (p : Moved s t) (q : Moved t u) : Moved s u := ⟨p.within.trans q.within, q.regs.trans p.regs⟩

theorem rget (m : Moved s t) (pg off : Nat) : rget t pg off = Machine.rget s pg off := by
  unfold Machine.rget
  rw [m.regs]

theorem rfld (m : Moved s t) (pg off hi lo : Nat) : rfld t pg off hi lo = Machine.rfld s pg off hi lo := by
  unfold Machine.rfld
  rw [m.rget]

theorem inWindow (m : Moved s t) (p : Port) (a : Nat) : inWindow t p a = Machine.inWindow s p a := by
  unfold Machine.inWindow
  rw [m.rfld, m.rfld]

theorem memReach (m : Moved s t) (a : Nat) : memReach t a = Machine.memReach s a := by
  rw [m.within.eq]
  rfl

theorem marked (m : Moved s t) (a : Nat) : marked t a = Machine.marked s a := by
  unfold Machine.marked
  rw [m.within.marks]

theorem portStamp (m : Moved s t) (p : Port) : portStamp t p = Machine.portStamp s p := by
  unfold Machine.portStamp
  rw [m.rfld]

theorem targetOk (m : Moved s t) (st : Stamp) (a : Nat) (k : Kind) : targetOk t st a k = Machine.targetOk s st a k := by
  have target : targetOf t a = targetOf s a := by
    rw [m.within.eq]
    rfl
  unfold Machine.targetOk
  rw [target]
  cases targetOf s a with
  | none => rfl
  | some x =>
    obtain ⟨pg, unit⟩ := x
    have opened : tokenEntry t (pg / 2048) = tokenEntry s (pg / 2048) := by
      unfold tokenEntry
      rw [m.within.carr]
    have check : targetCheck t pg unit st k (tokenEntry s (pg / 2048)) = targetCheck s pg unit st k (tokenEntry s (pg / 2048)) := by
      unfold targetCheck
      simp only [m.rget]
    dsimp only
    unfold gateMode
    rw [m.rfld, opened, check]

end Moved

/-- The fields that an access books. -/
abbrev Area.ofNote : List Area := [.regs, .evTick, .events, .heatCnt, .heatDue, .slots]

/-- The state t after words without an error that die services have read in s. -/
structure Looked (s t : State) : Prop where
  within : Within Area.ofNote s t
  regs : t.regs = s.regs

namespace Looked

variable {s t u : State}

theorem refl (s : State) : Looked s s := ⟨.refl s, rfl⟩

theorem trans (p : Looked s t) (q : Looked t u) : Looked s u := ⟨p.within.trans q.within, q.regs.trans p.regs⟩

theorem moved (l : Looked s t) : Moved s t := ⟨l.within.mono (by decide), l.regs⟩

theorem mget (l : Looked s t) (a : Nat) : mget t a = Machine.mget s a := l.within.mget a

/-- Nothing but the books of the memory differs. -/
theorem noted (l : Looked s t) : t = s.noted t := by
  have kept : t = { s.upTo t Area.ofNote with regs := s.regs } := by
    conv_rhs => rw [← l.regs]
    exact l.within.eq
  exact kept

end Looked

/-- A word that a port may move (R550 to R552). -/
def WordOk (s : State) (p : Port) (k : Kind) (a : Nat) : Prop :=
  inWindow s p a = true ∧ memReach s a = .ok ∧ targetOk s (portStamp s p) a k = true ∧ marked s a = false

section
variable {s t : State} {p : Port} {k : Kind} {a : Nat}

theorem WordOk.of_portOk {n q : Nat} (ok : PortOk s p a n k) (low : a ≤ q) (high : q < a + n) : WordOk s p k q := by
  obtain ⟨window, reach, grant, -, plain⟩ := ok q low high
  exact ⟨window, reach, grant, plain⟩

theorem WordOk.moved (m : Moved s t) (ok : WordOk s p k a) : WordOk t p k a := by
  unfold WordOk
  rwa [m.inWindow, m.memReach, m.portStamp, m.targetOk, m.marked]

theorem portCheck_run (ok : WordOk s p k a) : portCheck p a k s = .ok () s := by
  obtain ⟨window, reach, grant, -⟩ := ok
  show (if inWindow s p a then _ else _ : P Unit) s = _
  rw [if_pos window, reach]
  dsimp only
  rw [if_pos grant]
  rfl

theorem noteAccess_looked (s : State) (d a n : Nat) : Looked s (noteAccess s (.die d) a n) where
  within := noteAccess_within (.refl s) ..
  regs := by
    have heat : ∀ u c, (noteHeat u d a c).regs = u.regs := fun u c => (noteHeat_within (F := [.heatCnt, .heatDue]) (.refl u) ..).regs
    unfold noteAccess
    refine (heat _ _).trans ?_
    split <;> rfl

theorem noteAccess_moved (s : State) (d a n : Nat) : Moved s (noteAccess s (.die d) a n) := (noteAccess_looked s d a n).moved

/-- A word without error that is read. -/
theorem readFor_looked (d : Nat) (good : (mget s a).ecc = .good) :
    ∃ t, readFor s (.die d) a = (some ((mget s a).data, (mget s a).tag), t) ∧ Looked s t := by
  have w := (noteAccess_looked s d a 1).within
  refine ⟨noteAccess s (.die d) a 1, ?_, noteAccess_looked ..⟩
  unfold readFor memRead
  dsimp only
  rw [w.mget, good]

/-- A word written to a page without marks. -/
theorem putFor_moved (d : Nat) (w : Word) (plain : marked s a = false) :
    Moved s (putFor s (.die d) a w false) ∧ mget (putFor s (.die d) a w false) a = plainWord w ∧
      ∀ q, q ≠ a → mget (putFor s (.die d) a w false) q = mget s q := by
  refine ⟨⟨putFor_within (.refl s) .., ?_⟩, ?_, fun q other => ?_⟩
  · rw [putFor_plain _ w false plain]
    exact (noteAccess_moved s d a _).regs
  · rw [mget_putFor _ w false plain, if_pos rfl]
    rfl
  · rw [mget_putFor _ w false plain, if_neg (Ne.symm other)]

/-- A word without error that a port reads. -/
theorem portRead_run (ok : WordOk s p .load a) (good : (mget s a).ecc = .good) :
    ∃ t, portRead p a s = .ok (mget s a).data t ∧ Looked s t := by
  obtain ⟨t, reads, looked⟩ := readFor_looked p.die good
  refine ⟨t, ?_, looked⟩
  have checked := portCheck_run ok
  unfold portRead
  show EStateM.bind (portCheck p a .load) _ s = _
  unfold EStateM.bind
  rw [checked]
  dsimp only
  show (match readFor s (.die p.die) a with | (some w, s1) => _ | (none, s1) => _ : P Word) s = _
  rw [reads]
  rfl

/-- A word that a port writes. -/
theorem portWrite_run (w : Word) (ok : WordOk s p .store a) :
    ∃ t, portWrite p a w s = .ok () t ∧ Moved s t ∧ mget t a = plainWord w ∧ ∀ q, q ≠ a → mget t q = mget s q := by
  refine ⟨putFor s (.die p.die) a w false, ?_, putFor_moved p.die w ok.2.2.2⟩
  have checked := portCheck_run ok
  unfold portWrite
  show EStateM.bind (portCheck p a .store) _ s = _
  unfold EStateM.bind
  rw [checked]
  rfl

/-- A way to write a word, at the addresses of Good. -/
def Writes {ε : Type} (put : Nat → Word → EStateM ε State Unit) (Good : State → Nat → Prop) : Prop :=
  (∀ s t a, Moved s t → Good s a → Good t a) ∧ ∀ s a w, Good s a →
    ∃ t, put a w s = .ok () t ∧ Moved s t ∧ mget t a = plainWord w ∧ ∀ q, q ≠ a → mget t q = mget s q

theorem portWrite_writes (p : Port) : Writes (portWrite p) (fun s a => WordOk s p .store a) :=
  ⟨fun _ _ _ moved ok => ok.moved moved, fun _ _ w ok => portWrite_run w ok⟩

theorem length_packWords (l : List (BitVec 8)) : (packWords l).length = wordsFor l.length := by
  unfold packWords
  rw [List.length_map, List.length_range]

/-- Words written from address a + i on. -/
theorem writes_run {ε : Type} {put : Nat → Word → EStateM ε State Unit} {Good : State → Nat → Prop} (writes : Writes put Good) (a : Nat) :
    ∀ (ws : List Word) (i : Nat) (s : State), (∀ j, j < ws.length → Good s (a + (i + j))) →
      ∃ t, ((ws.zipIdx i).forM (fun w => put (a + w.2) w.1)) s = .ok ⟨⟩ t ∧ Moved s t ∧
        (∀ j (h : j < ws.length), mget t (a + (i + j)) = plainWord ws[j]) ∧
        ∀ q, (q < a + i ∨ a + i + ws.length ≤ q) → mget t q = mget s q
  | [], _, s, _ => ⟨s, rfl, .refl s, fun j h => absurd h (Nat.not_lt_zero j), fun _ _ => rfl⟩
  | w :: ws, i, s, ok => by
    obtain ⟨t, run, moved, word, others⟩ := writes.2 _ _ w (ok 0 (Nat.zero_lt_succ _))
    obtain ⟨u, rest, onwards, words, kept⟩ := writes_run writes a ws (i + 1) t fun j h =>
      writes.1 _ _ _ moved ((show i + (j + 1) = i + 1 + j by omega) ▸ ok (j + 1) (Nat.succ_lt_succ h))
    refine ⟨u, ?_, moved.trans onwards, fun j h => ?_, fun q out => ?_⟩
    · show EStateM.bind (put (a + i) w) _ s = _
      unfold EStateM.bind
      rw [show put (a + i) w s = .ok () t from run]
      exact rest
    · cases j with
      | zero =>
        rw [kept _ (.inl (by omega))]
        exact word
      | succ j => exact (congrArg (mget u) (by omega)).trans (words j (Nat.lt_of_succ_lt_succ h))
    · have longer : (w :: ws).length = ws.length + 1 := rfl
      rw [kept q (by omega), others q (by omega)]

/-- Octets written to memory, packed; no other word changes. -/
theorem writes_octets {ε : Type} {put : Nat → Word → EStateM ε State Unit} {Good : State → Nat → Prop} (writes : Writes put Good)
    {l : List (BitVec 8)} (ok : ∀ q, a ≤ q → q < a + wordsFor l.length → Good s q) :
    ∃ t, (((packWords l).zipIdx).forM (fun w => put (a + w.2) w.1)) s = .ok ⟨⟩ t ∧ Moved s t ∧ OctetsAt s t a l := by
  have length := length_packWords l
  obtain ⟨t, run, moved, words, kept⟩ := writes_run writes a (packWords l) 0 s fun j h => ok _ (by omega) (by omega)
  refine ⟨t, run, moved, fun j h => ?_, fun q out => kept q (by omega)⟩
  have word := words j (by omega)
  rw [Nat.zero_add] at word
  rw [word]
  unfold packWords
  rw [List.getElem_map, List.getElem_range]

/-- Octets that a port writes to memory (R552). -/
theorem portPutOctets_run {l : List (BitVec 8)} (ok : ∀ q, a ≤ q → q < a + wordsFor l.length → WordOk s p .store q) :
    ∃ t, portPutOctets p a l s = .ok ⟨⟩ t ∧ Moved s t ∧ OctetsAt s t a l := writes_octets (portWrite_writes p) ok

/-- The octets that memory holds, as a port reads them (R9, R552). -/
theorem portOctets_run {l : List (BitVec 8)} (holds : HoldsOctets s a l)
    (ok : ∀ q, a ≤ q → q < a + wordsFor l.length → WordOk s p .load q ∧ (mget s q).ecc = .good) :
    ∃ t, portOctets p a l.length s = .ok l t ∧ Looked s t := by
  have upTo : ∀ n ≤ wordsFor l.length, ∃ t, ((List.range n).foldlM (fun l' k => do
      let w ← portRead p (a + k)
      match unpackWord w (min 4 (l.length - 4 * k)) with
      | some o => return l' ++ o
      | none => do
        modify (fun s => capture s p.pg 4 (a + k))
        throw .parity) [] : P (List (BitVec 8))) s = .ok (l.take (4 * n)) t ∧ Looked s t := by
    intro n
    induction n with
    | zero => exact fun _ => ⟨s, rfl, .refl s⟩
    | succ n ih =>
      intro le
      obtain ⟨t, run, looked⟩ := ih (by omega)
      have inside := ok (a + n) (by omega) (by omega)
      have word := looked.mget (a + n)
      obtain ⟨u, read, onwards⟩ := portRead_run (inside.1.moved looked.moved) (word ▸ inside.2)
      have short : n * 4 < l.length := by
        unfold wordsFor at le
        omega
      rw [word, holds n (by omega)] at read
      have octets := unpackWord_drop (l := l) (n := n) (by omega)
      refine ⟨u, ?_, looked.trans onwards⟩
      rw [List.range_succ, List.foldlM_append]
      show EStateM.bind _ _ s = _
      unfold EStateM.bind
      rw [run]
      dsimp only
      rw [List.foldlM_cons]
      show EStateM.bind (EStateM.bind (portRead p (a + n)) _) _ t = _
      unfold EStateM.bind
      rw [read]
      dsimp only
      rw [octets]
      dsimp only
      rw [show 4 * (n + 1) = 4 * n + 4 by omega, List.take_add]
      rfl
  obtain ⟨t, run, looked⟩ := upTo (wordsFor l.length) le_rfl
  refine ⟨t, ?_, looked⟩
  rw [List.take_of_length_le (wordsFor_covers _)] at run
  exact run

/-- A word outside the window is not moved: the port shows the address (R550). -/
theorem portCheck_outside (out : inWindow s p a = false) : portCheck p a k s = .error .window (capture s p.pg 8 a) := by
  show (if inWindow s p a then _ else _ : P Unit) s = _
  rw [if_neg (by rw [out]; decide)]
  rfl

/-- Octets whose first word is outside the window are not moved. -/
theorem portPutOctets_outside {l : List (BitVec 8)} (some_ : l ≠ []) (out : inWindow s p a = false) :
    portPutOctets p a l s = .error .window (capture s p.pg 8 a) := by
  have first : ∃ w ws, packWords l = w :: ws := by
    cases e : packWords l with
    | cons w ws => exact ⟨w, ws, rfl⟩
    | nil =>
      have length := length_packWords l
      have := List.length_pos_iff.2 some_
      rw [e] at length
      unfold wordsFor at length
      simp at length
      omega
  obtain ⟨w, ws, e⟩ := first
  unfold portPutOctets
  rw [e]
  show EStateM.bind (EStateM.bind (portCheck p (a + 0) .store) _) _ s = _
  unfold EStateM.bind
  rw [portCheck_outside (show inWindow s p (a + 0) = false from out)]
  rfl

end

end Sys2Proof.Machine

namespace Sys2Proof.Machine
open Sys2Proof
set_option Elab.async false

/-! ## The flash ports (R566 to R571) -/

section
variable {s : State} {i : Nat} {x : SfdpFacts}

theorem flash_setFlash_same (s : State) (i : Nat) (f : Flash) : flash (setFlash s i f) i = f := by
  unfold flash setFlash
  rw [kget_kset_same]

theorem Within.flash {F : List Area} {s t : State} (w : Within F s t) (i : Nat) (hF : Area.flashes ∉ F := by decide) :
    flash t i = Machine.flash s i := by
  unfold Machine.flash
  rw [w.flashes hF]

/-! ### Enable -/

/-- The port with EN at 1, as its tables are judged (R566). -/
def flashEnabled (s : State) (i : Nat) : State := if enabled s (flashPg i) then s else enable s (flashPg i) none

theorem flashEnabled_takes (may : enabled s (flashPg i) = true ∨ ((dom s (domOfPage (flashPg i))).drain = none ∧ bit (rget s (flashPg i) 3) 0 = true)) :
    enabled (flashEnabled s i) (flashPg i) = true ∧ RegsKept s (flashEnabled s i) (fun p off => p = flashPg i ∧ off = 4) ∧
      rfld (flashEnabled s i) (flashPg i) 4 3 2 = rfld s (flashPg i) 4 3 2 ∧
      (flashEnabled s i).flashes = s.flashes ∧ (flashEnabled s i).mem = s.mem := by
  unfold flashEnabled
  by_cases on : enabled s (flashPg i) = true
  · rw [if_pos on]
    exact ⟨on, .refl s _, rfl, rfl, rfl⟩
  · rw [if_neg on]
    obtain ⟨idle, base⟩ := may.resolve_left on
    obtain ⟨takes, kept⟩ := enable_takes idle base
    have w : Within [.regs] s (rset s (flashPg i) 4 (setBit (rget s (flashPg i) 4) 0 true)) := .rset (.refl s) _ _ _ (by decide)
    have is : enable s (flashPg i) none = rset s (flashPg i) 4 (setBit (rget s (flashPg i) 4) 0 true) := by
      unfold enable
      rw [idle, base]
      rfl
    refine ⟨takes, kept, ?_, by rw [is]; exact w.flashes, by rw [is]; exact w.mem⟩
    rw [is]
    unfold rfld
    rw [rget_rset_same]
    exact fld_of_bits fun b low _ => bit_setBit_other _ _ _ _ (by omega)

theorem exec_flashEnable {port : Bool} (works : unitWorks s (flashPg (bnat port)) = true) (opened : locked s (flashPg (bnat port)) = false)
    (on : enabled (flashEnabled s (bnat port)) (flashPg (bnat port)) = true) :
    exec (.flashEnable port x) s = .next (flashJudge (flashEnabled s (bnat port)) (bnat port) x) :=
  congrArg done ((unitDo_of_works works _).trans ((unlessLocked_open 4 _ opened).trans (if_pos on)))

/-- Tables that fail leave the port disabled, with the case as INFO (R567). -/
theorem flashJudge_fails {w : Nat} (why : sfdpWhy s i x = w) (bad : w ≠ 0) :
    let t := flashJudge s i x
    enabled t (flashPg i) = false ∧ bit (rget t (flashPg i) 5) 2 = true ∧ Captured s t (flashPg i) 9 w ∧ (flash t i).sfdp = none ∧
      t.mem = s.mem := by
  obtain ⟨u, hu⟩ : ∃ u, u = rset (setFlash s i { flash s i with sfdp := none }) (flashPg i) 4 (setBit (rget s (flashPg i) 4) 0 false) :=
    ⟨_, rfl⟩
  obtain ⟨v, hv⟩ : ∃ v, v = rset u (flashPg i) 5 (setBit (rget u (flashPg i) 5) 2 true) := ⟨_, rfl⟩
  have judged : flashJudge s i x = capture v (flashPg i) 9 w := by
    unfold flashJudge
    rw [why]
    cases w with
    | zero => exact absurd rfl bad
    | succ n =>
      rw [hv, hu]
      rfl
  have kept : RegsKept s v (fun p off => p = flashPg i ∧ (off = 4 ∨ off = 5)) := by
    rw [hv, hu]
    exact RegsKept.trans (RegsKept.trans (.of_regs rfl _) (.rset (setFlash s i _) _ (by decide) ⟨rfl, .inl rfl⟩))
      (.rset _ _ (by decide) ⟨rfl, .inr rfl⟩)
  have off : rget v (flashPg i) 4 = setBit (rget s (flashPg i) 4) 0 false := by
    rw [hv, rget_rset_other _ _ (by omega), hu]
    exact rget_rset_same ..
  have shown : bit (rget v (flashPg i) 5) 2 = true := by
    rw [hv, rget_rset_same]
    exact bit_setBit_same _ _ _ (by decide)
  have port_ : (flash v i).sfdp = none := by
    rw [hv, hu]
    exact congrArg Flash.sfdp (flash_setFlash_same s i _)
  have memory : v.mem = s.mem := by
    rw [hv, hu]
    rfl
  have w_ : Within Area.ofSignal v (capture v (flashPg i) 9 w) := capture_within (.refl v) ..
  intro t
  have after (o : Nat) (h : o = 4 ∨ o = 5) : rget t (flashPg i) o = rget v (flashPg i) o := by
    show rget (flashJudge s i x) (flashPg i) o = _
    rw [judged]
    exact regsKept_capture _ _ _ _ _ _ (by omega) (by rintro ⟨-, e⟩; omega)
  refine ⟨?_, ?_, ?_, ?_, ?_⟩
  · unfold enabled
    rw [after 4 (.inl rfl), off]
    exact bit_setBit_same _ _ _ (by decide)
  · rw [after 5 (.inr rfl), shown]
  · show Captured s (flashJudge s i x) _ _ _
    rw [judged]
    exact (captured_capture v (flashPg i) 9 w).of_before (kept _ _ (by decide) (by omega)) (kept _ _ (by decide) (by omega))
  · show (flash (flashJudge s i x) i).sfdp = none
    rw [judged, w_.flash, port_]
  · show (flashJudge s i x).mem = s.mem
    rw [judged, w_.mem, memory]

theorem flashEnable_fails {port : Bool} (works : unitWorks s (flashPg (bnat port)) = true) (opened : locked s (flashPg (bnat port)) = false)
    (may : enabled s (flashPg (bnat port)) = true ∨
      ((dom s (domOfPage (flashPg (bnat port)))).drain = none ∧ bit (rget s (flashPg (bnat port)) 3) 0 = true))
    {w : Nat} (why : sfdpWhy s (bnat port) x = w) (bad : w ≠ 0) :
    ∃ t, exec (.flashEnable port x) s = .next t ∧ enabled t (flashPg (bnat port)) = false ∧ bit (rget t (flashPg (bnat port)) 5) 2 = true ∧
      Captured s t (flashPg (bnat port)) 9 w ∧ (flash t (bnat port)).sfdp = none ∧ t.mem = s.mem := by
  obtain ⟨on, kept, mode, flashes, mem⟩ := flashEnabled_takes may
  have same : sfdpWhy (flashEnabled s (bnat port)) (bnat port) x = w := by
    rw [← why]
    unfold sfdpWhy
    rw [mode]
  obtain ⟨disabled, shown, captured, none_, memory⟩ := flashJudge_fails same bad
  exact ⟨_, exec_flashEnable works opened on, disabled, shown,
    captured.of_before (kept _ _ (by decide) (by omega)) (kept _ _ (by decide) (by omega)), none_, memory.trans mem⟩

/-! ### Commands -/

/-- The end of a command shows its result and pends DONE (R570). -/
theorem flashEnd_shows (s : State) (i result : Nat) :
    rget (flashEnd s i result) (flashPg i) 23 = fval 35 31 result ∧ bit (rget (flashEnd s i result) (flashPg i) 9) 1 = true ∧
      Within Area.ofSignal s (flashEnd s i result) ∧
      RegsKept s (flashEnd s i result) (fun p off => p = flashPg i ∧ (off = 23 ∨ off = 9)) := by
  obtain ⟨u, hu⟩ : ∃ u, u = rset s (flashPg i) 23 (fval 35 31 result) := ⟨_, rfl⟩
  have ends : flashEnd s i result = irqPend u (flashPg i) 1 := by rw [hu]; rfl
  have wu : Within Area.ofSignal s u := by
    rw [hu]
    exact .rset (.refl s) _ _ _ (by decide)
  have kept : RegsKept s u (fun p off => p = flashPg i ∧ (off = 23 ∨ off = 9)) := by
    rw [hu]
    exact .rset _ _ (by decide) ⟨rfl, .inl rfl⟩
  rw [ends]
  refine ⟨?_, irqPend_pends _ _ (by decide), wu.trans (irqPend_within (.refl u) ..), kept.trans (.irqPend _ _ ⟨rfl, .inr rfl⟩)⟩
  rw [rget_irqPend _ _ _ (by decide), if_neg (by omega), hu]
  exact rget_rset_same ..

/-- The state t after a command of flash port i that ends at once in s, with the result shown. -/
def FlashRefused (s t : State) (i result : Nat) : Prop :=
  rget t (flashPg i) 23 = fval 35 31 result ∧ bit (rget t (flashPg i) 9) 1 = true ∧ flash t i = flash s i ∧ t.mem = s.mem ∧
    RegsKept s t (fun p off => p = flashPg i ∧ (off = 23 ∨ off = 9))

/-- The command that a write of FLCMD gives (R570). -/
def flashJob (s : State) (i op e : Nat) : FlashJob where
  op := op
  addr := rfld s (flashPg i) 20 31 0
  mem := rfld s (flashPg i) 21 29 0
  len := rfld s (flashPg i) 22 23 0
  etype := e

/-- A port that takes commands: it is enabled, or Carr holds it. -/
def flashTakes (s : State) (i : Nat) : Prop := ¬ (enabled s (flashPg i) = false ∧ (flash s i).carr = false)

theorem flcmd_refuses {op e w : Nat} (takes : flashTakes s i) (hop : op ≠ 0 ∧ op ≤ 3) (why : flashWhy s i op e = w) (bad : w ≠ 0) :
    FlashRefused s (flcmd s i op e) i w := by
  have ends : flcmd s i op e = flashEnd s i w := by
    unfold flcmd
    rw [if_neg (by rintro (h | h); exacts [takes h, by omega]), why]
    cases w with
    | zero => exact absurd rfl bad
    | succ n => rfl
  obtain ⟨shown, pends, w_, kept⟩ := flashEnd_shows s i w
  rw [ends]
  exact ⟨shown, pends, w_.flash i, w_.mem, kept⟩

theorem flcmd_starts {op e : Nat} (takes : flashTakes s i) (hop : op ≠ 0 ∧ op ≤ 3) (why : flashWhy s i op e = 0) :
    flash (flcmd s i op e) i = { flash s i with
      busy := some (flashJob s i op e)
      sent := [] } ∧
      rget (flcmd s i op e) (flashPg i) 23 = fval 35 31 31 ∧
      RegsKept s (flcmd s i op e) (fun p off => p = flashPg i ∧ off = 23) ∧ (flcmd s i op e).mem = s.mem := by
  have starts : flcmd s i op e = setFlash (rset s (flashPg i) 23 (fval 35 31 31)) i { flash s i with
      busy := some (flashJob s i op e)
      sent := [] } := by
    unfold flcmd
    rw [if_neg (by rintro (h | h); exacts [takes h, by omega]), why]
    rfl
  rw [starts]
  exact ⟨flash_setFlash_same .., rget_rset_same s _ _ _, RegsKept.trans (.rset _ _ (by decide) ⟨rfl, rfl⟩) (.of_regs rfl _), rfl⟩

theorem flashWhy_busy {op e : Nat} (busy : (flash s i).busy.isSome = true ∨ (flash s i).carr = true) : flashWhy s i op e = 1 := by
  unfold flashWhy
  exact if_pos (by simpa using busy)

/-- Why a command of a port that is free is refused, or 0. -/
theorem flashWhy_free (op e : Nat) (idle : (flash s i).busy = none) (own : (flash s i).carr = false) (tables : (flash s i).sfdp = some x) :
    flashWhy s i op e =
      if x.modes.getLsbD (rfld s (flashPg i) 4 3 2) = false then 3
      else if op = 1 then (if x.density.toNat < rfld s (flashPg i) 20 31 0 + rfld s (flashPg i) 22 23 0 then 2 else 0)
      else if op = 2 then (if (bit (rget s (flashPg i) 4) 6 && x.program.isSome) = false then 3
        else if x.density.toNat < rfld s (flashPg i) 20 31 0 + rfld s (flashPg i) 22 23 0 then 2 else 0)
      else if (bit (rget s (flashPg i) 4) 6 && x.program.isSome) = false ∨ eraseSize x e = 0 then 3
      else if rfld s (flashPg i) 20 31 0 % eraseSize x e ≠ 0 then 6
      else if x.density.toNat < rfld s (flashPg i) 20 31 0 + eraseSize x e then 2
      else 0 := by
  unfold flashWhy
  dsimp only
  rw [if_neg (by rw [idle, own]; decide), tables]

/-! ### The end of a command -/

theorem wordOk_setFlash {f : Flash} {p : Port} {k : Kind} {a : Nat} (ok : WordOk s p k a) : WordOk (setFlash s i f) p k a := ok

/-- The port while its command ends. -/
def flashIdle (s : State) (i : Nat) : State := setFlash s i { flash s i with busy := none }

theorem exec_flashCommandDone {port : Bool} {job : FlashJob} (works : unitWorks s (flashPg (bnat port)) = true)
    (busy : (flash s (bnat port)).busy = some job) (l : List (BitVec 8)) :
    exec (.flashCommandDone port l) s = .next (match flashMove (bnat port) job l (flashIdle s (bnat port)) with
      | .ok _ t => flashEnd t (bnat port) 0
      | .error e t => flashEnd (flashDmaResult t e).2 (bnat port) (flashDmaResult t e).1) := by
  show done (unitDo s _ _) = _
  rw [unitDo_of_works works, busy]
  rfl

theorem flashIdle_sfdp (s : State) (i : Nat) : (flash (flashIdle s i) i).sfdp = (flash s i).sfdp := by
  unfold flashIdle
  rw [flash_setFlash_same]

/-- A COPY writes its octets to memory (R570). -/
theorem flashMove_copies {job : FlashJob} {l : List (BitVec 8)} (tables : (flash s i).sfdp = some x) (op : job.op = 1) (length : l.length = job.len)
    (ok : PortOk s (flashPort i) job.mem (wordsFor l.length) .store) :
    ∃ t, flashMove i job l (flashIdle s i) = .ok () t ∧ (flash t i).busy = none ∧
      (∀ k, k < wordsFor l.length → mget t (job.mem + k) = plainWord (packFour (l.drop (4 * k)))) ∧
      ∀ q, (q < job.mem ∨ job.mem + wordsFor l.length ≤ q) → mget t q = mget s q := by
  have octets : (l ++ List.replicate job.len 0).take job.len = l := by rw [← length, List.take_left]
  obtain ⟨u, hu⟩ : ∃ u, u = flashSends (flashIdle s i) i [{ code := readCode (flashIdle s i) i x, addr := job.addr, octets := [] }] := ⟨_, rfl⟩
  obtain ⟨t, run, moved, ⟨words, kept⟩⟩ := portPutOctets_run (s := u) (p := flashPort i) (a := job.mem) (l := l) fun q low high => by
    rw [hu]
    exact wordOk_setFlash (wordOk_setFlash (.of_portOk ok low high))
  refine ⟨t, ?_, ?_, words, fun q out => (kept q out).trans (hu ▸ rfl)⟩
  · unfold flashMove
    show (match (flash (flashIdle s i) i).sfdp with | none => _ | some t => _ : P Unit) (flashIdle s i) = _
    rw [flashIdle_sfdp, tables]
    dsimp only
    rw [if_pos op, octets]
    show portPutOctets (flashPort i) job.mem l (flashSends _ _ _) = _
    rw [← hu]
    exact run
  · rw [moved.within.flash, hu]
    unfold flashSends flashIdle
    rw [flash_setFlash_same, flash_setFlash_same]

/-- A COPY outside the window moves nothing (R550). -/
theorem flashMove_outside {job : FlashJob} (l : List (BitVec 8)) (tables : (flash s i).sfdp = some x) (op : job.op = 1) (some_ : 0 < job.len)
    (out : inWindow s (flashPort i) job.mem = false) :
    ∃ u, flashMove i job l (flashIdle s i) = .error .window (capture u (flashPg i) 8 job.mem) ∧ (flash u i).busy = none ∧
      u.mem = s.mem ∧ u.regs = s.regs := by
  obtain ⟨u, hu⟩ : ∃ u, u = flashSends (flashIdle s i) i [{ code := readCode (flashIdle s i) i x, addr := job.addr, octets := [] }] := ⟨_, rfl⟩
  have octets : (l ++ List.replicate job.len 0).take job.len ≠ [] := by
    rw [ne_eq, ← List.length_eq_zero_iff, List.length_take, List.length_append, List.length_replicate]
    omega
  refine ⟨u, ?_, ?_, hu ▸ rfl, hu ▸ rfl⟩
  · unfold flashMove
    show (match (flash (flashIdle s i) i).sfdp with | none => _ | some t => _ : P Unit) (flashIdle s i) = _
    rw [flashIdle_sfdp, tables]
    dsimp only
    rw [if_pos op]
    show portPutOctets (flashPort i) job.mem _ (flashSends _ _ _) = _
    rw [← hu]
    exact portPutOctets_outside octets (by rw [hu]; exact out)
  · rw [hu]
    unfold flashSends flashIdle
    rw [flash_setFlash_same, flash_setFlash_same]

/-- A PROGRAM sends the octets of memory, page by page (R570). -/
theorem flashMove_programs {job : FlashJob} {l : List (BitVec 8)} (tables : (flash s i).sfdp = some x) (op : job.op = 2) (length : l.length = job.len)
    (ok : PortOk s (flashPort i) job.mem (wordsFor l.length) .load) (holds : HoldsOctets s job.mem l) :
    ∃ t, flashMove i job [] (flashIdle s i) = .ok () t ∧ (flash t i).busy = none ∧ t.mem = s.mem ∧
      (flash t i).sent = pageSends x.program (2 ^ x.pageLog2.toNat) job.addr l.length l := by
  obtain ⟨t, run, looked⟩ := portOctets_run (s := flashIdle s i) (p := flashPort i) (a := job.mem) (l := l) holds fun q low high =>
    ⟨wordOk_setFlash (.of_portOk ok low high), (ok q low high).2.2.2.1⟩
  refine ⟨flashSends t i (pageSends x.program (2 ^ x.pageLog2.toNat) job.addr l.length l), ?_, ?_, looked.within.mem, ?_⟩
  · unfold flashMove
    show (match (flash (flashIdle s i) i).sfdp with | none => _ | some t => _ : P Unit) (flashIdle s i) = _
    rw [flashIdle_sfdp, tables]
    dsimp only
    rw [if_neg (by omega), if_pos op, ← length]
    show EStateM.bind (portOctets (flashPort i) job.mem l.length) _ (flashIdle s i) = _
    unfold EStateM.bind
    rw [run]
    rfl
  · unfold flashSends
    rw [flash_setFlash_same, looked.within.flash]
    unfold flashIdle
    rw [flash_setFlash_same]
  · unfold flashSends
    rw [flash_setFlash_same]

/-- An ERASE sends its address with the instruction of its type (R571). -/
theorem flashMove_erases {job : FlashJob} (tables : (flash s i).sfdp = some x) (op : job.op = 3) :
    ∃ t, flashMove i job [] (flashIdle s i) = .ok () t ∧ (flash t i).busy = none ∧ t.mem = s.mem ∧
      (flash t i).sent = [{ code := some ((x.eraseCode >>> (8 * job.etype)).setWidth 8), addr := job.addr, octets := [] }] := by
  refine ⟨flashSends (flashIdle s i) i [{ code := some ((x.eraseCode >>> (8 * job.etype)).setWidth 8), addr := job.addr, octets := [] }],
    ?_, ?_, rfl, ?_⟩
  · unfold flashMove
    show (match (flash (flashIdle s i) i).sfdp with | none => _ | some t => _ : P Unit) (flashIdle s i) = _
    rw [flashIdle_sfdp, tables]
    dsimp only
    rw [if_neg (by omega), if_neg (by omega)]
    rfl
  · unfold flashSends flashIdle
    rw [flash_setFlash_same, flash_setFlash_same]
  · unfold flashSends
    rw [flash_setFlash_same]

/-- What the end of a command shows of the move before it. -/
theorem flashEnd_keeps (t : State) (i result : Nat) :
    flash (flashEnd t i result) i = flash t i ∧ (flashEnd t i result).mem = t.mem ∧ ∀ q, mget (flashEnd t i result) q = mget t q := by
  obtain ⟨-, -, w, -⟩ := flashEnd_shows t i result
  exact ⟨w.flash i, w.mem, fun q => w.mget q⟩

end

/-- Settles O50: the enable by its tables, the commands by the reasons against them, their ends by what they move. -/
theorem flashPorts : Obligations.FlashPorts := by
  intro s port x etype l i pg p y a mem n size mode fails starts ends same writable works
  have copy : exec (.copy port) s = .next (flcmd s i 1 0) := congrArg done (unitDo_of_works works _)
  have program : exec (.program port) s = .next (flcmd s i 2 0) := congrArg done (unitDo_of_works works _)
  have erase : exec (.erase port etype) s = .next (flcmd s i 3 etype.toNat) := congrArg done (unitDo_of_works works _)
  have refused {c : Instr} {op e w : Nat} (run : exec c s = .next (flcmd s i op e)) (hop : op ≠ 0 ∧ op ≤ 3) (takes : flashTakes s i)
      (why : flashWhy s i op e = w) (bad : w ≠ 0) : ends c w same := by
    obtain ⟨shown, pends, kept, memory, regs⟩ := flcmd_refuses takes hop why bad
    exact ⟨_, run, shown, pends, kept, memory, regs⟩
  have started {c : Instr} {op e : Nat} (run : exec c s = .next (flcmd s i op e)) (hop : op ≠ 0 ∧ op ≤ 3) (takes : flashTakes s i)
      (why : flashWhy s i op e = 0) (type : e = if op = 3 then etype.toNat else 0) : starts c op := by
    obtain ⟨busy, shown, regs, memory⟩ := flcmd_starts takes hop why
    exact ⟨_, run, by rw [busy, type]; rfl, shown, regs, memory⟩
  have each {w : Nat} (takes : flashTakes s i) (bad : w ≠ 0) (why : ∀ op e, op ≠ 0 ∧ op ≤ 3 → flashWhy s i op e = w) :
      ∀ c ∈ [Instr.copy port, .program port, .erase port etype], ends c w same := by
    intro c mem
    simp only [List.mem_cons, List.not_mem_nil, or_false] at mem
    rcases mem with rfl | rfl | rfl
    · exact refused copy (by decide) takes (why _ _ (by decide)) bad
    · exact refused program (by decide) takes (why _ _ (by decide)) bad
    · exact refused erase (by decide) takes (why _ _ (by decide)) bad
  refine ⟨fun opened may => ⟨fun signed long mode_ => ?_, fun unsigned => ?_, fun signed short => ?_, fun signed long mode_ => ?_⟩,
    fun busy => ?_, fun on idle own tables mode_ => ?_, fun on idle own tables mode_ => ?_, fun job busy tables => ?_⟩
  · obtain ⟨on, kept, same_, flashes, memory⟩ := flashEnabled_takes may
    have good : flashJudge (flashEnabled s i) i x = setFlash (flashEnabled s i) i { flash (flashEnabled s i) i with sfdp := some x } := by
      unfold flashJudge sfdpWhy
      rw [signed, if_neg (by decide), if_neg (by omega), same_, mode_, if_neg (by decide)]
      rfl
    have run : exec (.flashEnable port x) s = .next (flashJudge (flashEnabled s i) i x) := exec_flashEnable works opened on
    rw [good] at run
    exact ⟨_, run, on, congrArg Flash.sfdp (flash_setFlash_same ..), RegsKept.trans kept (.of_regs rfl _), memory⟩
  · exact flashEnable_fails works opened may (by unfold sfdpWhy; rw [if_pos unsigned]) (by decide)
  · exact flashEnable_fails works opened may (by unfold sfdpWhy; rw [signed, if_neg (by decide), if_pos short]) (by decide)
  · exact flashEnable_fails works opened may
      (by unfold sfdpWhy; rw [signed, if_neg (by decide), if_neg (by omega), if_pos mode_]) (by decide)
  · refine each (fun off => ?_) (by decide) fun op e _ => flashWhy_busy (by tauto)
    rcases busy with carr | ⟨on, -⟩
    · exact Bool.false_ne_true (off.2.symm.trans carr)
    · exact Bool.false_ne_true (off.1.symm.trans on)
  · refine each (fun off => Bool.false_ne_true (off.1.symm.trans on)) (by decide) fun op e _ => ?_
    rw [flashWhy_free op e idle own tables, if_pos mode_]
  · have takes : flashTakes s i := fun off => Bool.false_ne_true (off.1.symm.trans on)
    have why (op e : Nat) := flashWhy_free op e idle own tables
    simp only [if_neg (show ¬ x.modes.getLsbD (rfld s (flashPg i) 4 3 2) = false from fun h => Bool.false_ne_true (h.symm.trans mode_))] at why
    have copying := why 1 0
    have programming := why 2 0
    have erasing := why 3 etype.toNat
    rw [if_pos rfl] at copying
    rw [if_neg (by decide), if_pos rfl] at programming
    rw [if_neg (by decide), if_neg (by decide)] at erasing
    have may : writable → ¬ (bit (rget s (flashPg i) 4) 6 && x.program.isSome) = false := fun w => by
      rw [show bit (rget s (flashPg i) 4) 6 = true from w.1, w.2]
      decide
    have mayNot : ¬ writable → (bit (rget s (flashPg i) 4) 6 && x.program.isSome) = false := fun w => by
      rw [← Bool.not_eq_true, Bool.and_eq_true]
      exact w
    refine ⟨fun fits => ?_, fun beyond => ?_, fun w fits => ?_, fun w beyond => ?_, fun w => ⟨?_, ?_⟩, fun absent => ?_,
      fun w present aligned fits => ?_, fun w present aligned beyond => ?_, fun w present misaligned => ?_⟩
    · exact started copy (by decide) takes (copying.trans (if_neg (Nat.not_lt.2 fits))) rfl
    · exact refused copy (by decide) takes (copying.trans (if_pos beyond)) (by decide)
    · exact started program (by decide) takes (programming.trans ((if_neg (may w)).trans (if_neg (Nat.not_lt.2 fits)))) rfl
    · exact refused program (by decide) takes (programming.trans ((if_neg (may w)).trans (if_pos beyond))) (by decide)
    · exact refused program (by decide) takes (programming.trans (if_pos (mayNot w))) (by decide)
    · exact refused erase (by decide) takes (erasing.trans (if_pos (.inl (mayNot w)))) (by decide)
    · exact refused erase (by decide) takes (erasing.trans (if_pos (.inr absent))) (by decide)
    · have type : ¬ ((bit (rget s (flashPg i) 4) 6 && x.program.isSome) = false ∨ eraseSize x etype.toNat = 0) := by
        rintro (h | h)
        exacts [may w h, present h]
      exact started erase (by decide) takes
        (erasing.trans ((if_neg type).trans ((if_neg (not_not.2 aligned)).trans (if_neg (Nat.not_lt.2 fits))))) rfl
    · have type : ¬ ((bit (rget s (flashPg i) 4) 6 && x.program.isSome) = false ∨ eraseSize x etype.toNat = 0) := by
        rintro (h | h)
        exacts [may w h, present h]
      exact refused erase (by decide) takes
        (erasing.trans ((if_neg type).trans ((if_neg (not_not.2 aligned)).trans (if_pos beyond)))) (by decide)
    · have type : ¬ ((bit (rget s (flashPg i) 4) 6 && x.program.isSome) = false ∨ eraseSize x etype.toNat = 0) := by
        rintro (h | h)
        exacts [may w h, present h]
      exact refused erase (by decide) takes (erasing.trans ((if_neg type).trans (if_pos misaligned))) (by decide)
  · have finish (o : List (BitVec 8)) := exec_flashCommandDone works busy o
    have ended (t : State) {P : State → Prop} {o : List (BitVec 8)} (moves : flashMove i job o (flashIdle s i) = .ok () t)
        (holds : P (flashEnd t i 0)) : ends (.flashCommandDone port o) 0 P := by
      have run := finish o
      rw [moves] at run
      obtain ⟨shown, pends, -⟩ := flashEnd_shows t i 0
      exact ⟨_, run, shown, pends, holds⟩
    refine ⟨fun op length ok => ?_, fun op some_ out => ?_, fun op length ok holds => ?_, fun op => ?_⟩
    · obtain ⟨t, moves, idle, words, kept⟩ := flashMove_copies tables op length ok
      obtain ⟨port_, -, same_⟩ := flashEnd_keeps t i 0
      exact ended t moves ⟨by rw [port_, idle], fun k h => (same_ _).trans (words k h), fun q h => (same_ q).trans (kept q h)⟩
    · obtain ⟨u, moves, idle, memory, regs⟩ := flashMove_outside l tables op some_ out
      obtain ⟨v, hv⟩ : ∃ v, v = capture u (flashPg i) 8 job.mem := ⟨_, rfl⟩
      have run := finish l
      have w : Within Area.ofSignal u v := hv ▸ capture_within (.refl u) ..
      have captured : Captured s v (flashPg i) 8 job.mem := hv ▸ (captured_capture u _ 8 job.mem).of_before
        (RegsKept.of_regs regs (fun _ _ => False) _ _ (by decide) id) (RegsKept.of_regs regs (fun _ _ => False) _ _ (by decide) id)
      rw [moves, ← hv] at run
      obtain ⟨shown, pends, -, -⟩ := flashEnd_shows v i 4
      obtain ⟨port_, memory_, -⟩ := flashEnd_keeps v i 4
      refine ⟨_, run, shown, pends, ?_, memory_.trans (w.mem.trans memory), ?_⟩
      · rw [show flash (flashEnd (flashDmaResult v .window).2 i (flashDmaResult v .window).1) i = flash v i from port_, w.flash, idle]
      · have after : Captured s (rset v (flashPg i) 23 (fval 35 31 4)) (flashPg i) 8 job.mem := captured.after
          (rget_rset_other _ _ (by omega)) (rget_rset_other _ _ (by omega)) fun h => by rwa [rget_rset_other _ _ (by omega)]
        exact after.irqPend _ _
    · obtain ⟨t, moves, idle, memory, sent⟩ := flashMove_programs tables op length ok holds
      obtain ⟨port_, memory_, -⟩ := flashEnd_keeps t i 0
      exact ended t moves ⟨by rw [port_, idle], memory_.trans memory, by rw [port_, sent]⟩
    · obtain ⟨t, moves, idle, memory, sent⟩ := flashMove_erases tables op
      obtain ⟨port_, memory_, -⟩ := flashEnd_keeps t i 0
      exact ended t moves ⟨by rw [port_, idle], memory_.trans memory, by rw [port_, sent]⟩

end Sys2Proof.Machine

namespace Sys2Proof.Machine
open Sys2Proof
set_option Elab.async false

/-! ## The buffers of Carr's commands (R604, R661) -/

theorem getState_bind {ε α : Type} (f : State → EStateM ε State α) (s : State) : ((get : EStateM ε State State) >>= f) s = f s s := rfl

section
variable {s t : State} {a : Nat} {l : List (BitVec 8)}

/-- A word of a command's buffer in memory. -/
def BufferWord (s : State) (q : Nat) : Prop := memReach s q = .ok ∧ marked s q = false

theorem BufferWord.moved {q : Nat} (m : Moved s t) (b : BufferWord s q) : BufferWord t q := by
  unfold BufferWord
  rwa [m.memReach, m.marked]

theorem carrPutWord_writes : Writes (carrPutWord false) BufferWord := by
  refine ⟨fun _ _ _ moved ok => ok.moved moved, fun s a w ⟨reach, plain⟩ => ⟨putFor s (.die 0) a w false, ?_, putFor_moved 0 w plain⟩⟩
  unfold carrPutWord
  show (if memReach s a = .ok then _ else _ : K Unit) s = _
  rw [if_pos reach]
  rfl

/-- Octets written to a command's buffer in memory. -/
theorem carrWrite_run (buffer : CarrBuffer s a (wordsFor l.length)) :
    ∃ t, carrWrite false a l s = .ok ⟨⟩ t ∧ Moved s t ∧ OctetsAt s t a l :=
  writes_octets carrPutWord_writes fun q low high => ⟨(buffer q low high).1, (buffer q low high).2.2⟩

/-- Words without error that die services read. -/
theorem physWords_moved (d : Nat) (qs : List Nat) (good : ∀ q ∈ qs, memReach s q = .ok ∧ (mget s q).ecc = .good) :
    ∃ t, physWords s d qs = (some (qs.map fun q => ((mget s q).data, (mget s q).tag)), t) ∧ Moved s t ∧ t.mem = s.mem := by
  induction qs using List.reverseRecOn with
  | nil => exact ⟨s, rfl, .refl s, rfl⟩
  | append_singleton qs q ih =>
    obtain ⟨t, run, moved, mem⟩ := ih fun x hx => good x (List.mem_append_left _ hx)
    obtain ⟨there, single⟩ := good q (List.mem_append_right _ (.head _))
    have same : mget t q = mget s q := by
      unfold mget
      rw [mem]
    obtain ⟨u, reads, onwards⟩ := readFor_looked (s := t) d (same ▸ single)
    refine ⟨u, ?_, moved.trans onwards.moved, onwards.within.mem.trans mem⟩
    unfold physWords at run ⊢
    rw [List.foldl_append, run, List.foldl_cons, List.foldl_nil]
    dsimp only
    rw [moved.memReach, if_pos there, reads, same, List.map_append]
    rfl

/-- The octets of packed words. -/
theorem packWords_decode (a : Nat) (l : List (BitVec 8)) (s : State) : ((packWords l).zipIdx.foldlM (fun l' w =>
    match unpackWord w.1 (min 4 (l.length - 4 * w.2)) with
    | some o => return l' ++ o
    | none => do
      modify (fun s => capture s (carrPg 0) 4 (a + w.2))
      throw 6) [] : K (List (BitVec 8))) s = .ok l s := by
  have upTo : ∀ n ≤ wordsFor l.length, (((List.range n).map fun k => packFour (l.drop (4 * k))).zipIdx.foldlM (fun l' w =>
      match unpackWord w.1 (min 4 (l.length - 4 * w.2)) with
      | some o => return l' ++ o
      | none => do
        modify (fun s => capture s (carrPg 0) 4 (a + w.2))
        throw 6) [] : K (List (BitVec 8))) s = .ok (l.take (4 * n)) s := by
    intro n
    induction n with
    | zero => exact fun _ => rfl
    | succ n ih =>
      intro le
      have octets := unpackWord_drop (l := l) (n := n) (by unfold wordsFor at le; omega)
      rw [List.range_succ, List.map_append, List.zipIdx_append, List.foldlM_append]
      show EStateM.bind _ _ s = _
      unfold EStateM.bind
      rw [ih (by omega)]
      dsimp only
      rw [List.length_map, List.length_range, List.map_singleton, List.zipIdx_singleton, List.foldlM_cons, Nat.zero_add]
      dsimp only
      rw [octets, show 4 * (n + 1) = 4 * n + 4 by omega, List.take_add]
      rfl
  have all := upTo (wordsFor l.length) le_rfl
  rwa [List.take_of_length_le (wordsFor_covers _)] at all

/-- The octets of a command's buffer in memory (R9). -/
theorem carrRead_run (buffer : CarrBuffer s a (wordsFor l.length)) (holds : HoldsOctets s a l) :
    ∃ t, carrRead false a l.length s = .ok l t ∧ Moved s t ∧ t.mem = s.mem := by
  obtain ⟨t, reads, moved, mem⟩ := physWords_moved (s := s) 0 ((List.range (wordsFor l.length)).map (fun k => a + k)) fun q hq => by
    obtain ⟨k, hk, rfl⟩ := List.mem_map.1 hq
    have inside := buffer (a + k) (by omega) (by have := List.mem_range.1 hk; omega)
    exact ⟨inside.1, inside.2.1⟩
  refine ⟨t, ?_, moved, mem⟩
  have words : ((List.range (wordsFor l.length)).map (fun k => a + k)).map (fun q => (mget s q).data) = packWords l := by
    unfold packWords
    rw [List.map_map]
    exact List.map_congr_left fun k hk => holds k (List.mem_range.1 hk)
  have given : carrWords false a (wordsFor l.length) s = .ok (packWords l) t := by
    unfold carrWords
    show (match physWords s 0 ((List.range (wordsFor l.length)).map (fun k => a + k)) with | (some ws, s1) => _ | (none, s1) => _ : K _) s = _
    rw [reads, ← words]
    dsimp only
    rw [show ((List.range (wordsFor l.length)).map (fun k => a + k)).map (fun q => (mget s q).data) =
      (((List.range (wordsFor l.length)).map (fun k => a + k)).map fun q => ((mget s q).data, (mget s q).tag)).map (fun w => w.1) by
        rw [List.map_map (l := (List.range (wordsFor l.length)).map (fun k => a + k))]; rfl]
    rfl
  unfold carrRead
  show EStateM.bind (carrWords false a (wordsFor l.length)) _ s = _
  unfold EStateM.bind
  rw [given]
  exact packWords_decode a l t

/-- The octets of DBGBUF, from the debug master (R661). -/
theorem carrRead_dbgBuf (short : wordsFor l.length ≤ 76) (holds : ∀ k, k < wordsFor l.length → rget s frzPg (64 + k) = packFour (l.drop (4 * k))) :
    carrRead true (regAddr frzPg 64) l.length s = .ok l s := by
  have place : regAddr frzPg 64 % 512 = 64 ∧ regAddr frzPg 140 = regAddr frzPg 64 + 76 := by decide
  have given : carrWords true (regAddr frzPg 64) (wordsFor l.length) s = .ok (packWords l) s := by
    have words : (List.range (wordsFor l.length)).map (fun k => dbgBufWord s (regAddr frzPg 64 + k)) = packWords l := by
      unfold packWords
      refine List.map_congr_left fun k hk => ?_
      have inside := List.mem_range.1 hk
      unfold dbgBufWord
      rw [if_pos (by omega), show (regAddr frzPg 64 + k) % 512 = 64 + k by omega]
      exact holds k inside
    unfold carrWords
    rw [getState_bind, if_pos rfl, if_pos (show inDbgBuf (regAddr frzPg 64) = true by decide), ← words]
    rfl
  unfold carrRead
  show EStateM.bind (carrWords true (regAddr frzPg 64) (wordsFor l.length)) _ s = _
  unfold EStateM.bind
  rw [given]
  exact packWords_decode _ l s

end

/-! ## A command, from its start to its result (R604, R605) -/

section
variable {s t : State} {st : Stamp} {op a : Nat} {rng : Bool}

/-- The work of a command, its requester and the lifecycle state admitted (R605). -/
def carrWork (st : Stamp) (op a : Nat) (rng : Bool) : K Unit :=
  let dbg := decide (st.cls = 2)
  if op = 1 then do
    carrAccepts 1
    cmdAttest dbg rng a
  else if op = 2 then do
    carrAccepts 1
    cmdIdkey dbg a
  else if op = 3 then do
    carrAccepts 2
    cmdChal dbg rng a
  else if op = 4 then cmdDbgresp dbg a
  else if op = 5 then do
    carrAccepts 2
    modify endToken
  else if op = 6 then cmdLctrans dbg a
  else if op = 7 then cmdRevoke dbg a
  else if op = 8 then cmdSvnadv
  else cmdProvision dbg rng a

theorem carrBody_works (lifecycle : carrLcOk op s.lcs = true) (requester : carrFrom 0 op st = true) :
    carrBody 0 st op a rng s = carrWork st op a rng s := by
  unfold carrBody
  rw [getState_bind]
  dsimp only
  rw [if_neg (by decide), lifecycle, if_neg (by decide), requester, if_neg (by decide)]
  rfl

theorem carrBody_lifecycle (bad : carrLcOk op s.lcs = false) : carrBody 0 st op a rng s = .error 2 s := by
  unfold carrBody
  rw [getState_bind]
  dsimp only
  rw [if_neg (by decide), bad, if_pos (by decide)]
  rfl

theorem carrBody_requester (lifecycle : carrLcOk op s.lcs = true) (bad : carrFrom 0 op st = false) :
    carrBody 0 st op a rng s = .error 3 s := by
  unfold carrBody
  rw [getState_bind]
  dsimp only
  rw [if_neg (by decide), lifecycle, if_neg (by decide), bad, if_pos (by decide)]
  rfl

/-- A command that has ended well. -/
def carrResult (was : State) (op : Nat) : EStateM.Result Nat State Unit → State
  | .ok _ t => carrEnded was t op 0
  | .error r t => carrEnded was t op r

theorem carrCmd_runs (answers : carrAnswers s = true) (idle : s.carr.busy = none) (known : op ≠ 0 ∧ op ≤ 9) :
    carrCmd s 0 st op a rng = carrResult s op (carrBody 0 st op a rng s) := by
  unfold carrCmd
  rw [answers, idle, if_neg (by decide), if_neg (by decide), if_neg (by omega)]
  cases carrBody 0 st op a rng s <;> rfl

/-- Carr holds a command with its result until its end is reported. -/
theorem carrEnded_ended (was t : State) (op r : Nat) : CarrEnded was (carrEnded was t op r) op r := by
  unfold CarrEnded carrEnded
  dsimp only
  split
  · exact congrArg Carr.busy (capture_within (F := [.regs, .evTick, .events]) (.refl _) ..).carr
  · rfl

/-- A result that is not captured changes Carr alone. -/
theorem carrEnded_quiet (was t : State) (op : Nat) {r : Nat} (quiet : ¬ (4 ≤ r ∧ r ≤ 10)) :
    carrEnded was t op r = { t with carr := { t.carr with busy := some { op := op, result := r, fusesWere := was.fuses, svcWas := was.heldSvc } } } :=
  if_neg quiet

/-- The nonce and the token of a command that has ended. -/
theorem carrEnded_carr (was t : State) (op r : Nat) :
    (carrEnded was t op r).carr.nonce = t.carr.nonce ∧ (carrEnded was t op r).carr.token = t.carr.token := by
  unfold carrEnded
  dsimp only
  split
  · rw [(capture_within (F := [.regs, .evTick, .events]) (.refl _) ..).carr]
    exact ⟨rfl, rfl⟩
  · exact ⟨rfl, rfl⟩

/-- Results 4 to 10 are captured (R604). -/
theorem carrEnded_captured (was t : State) (op : Nat) {r : Nat} (shown : 4 ≤ r ∧ r ≤ 10) :
    Captured t (carrEnded was t op r) (carrPg 0) 9 r := by
  unfold carrEnded
  dsimp only
  rw [if_pos shown]
  exact (captured_capture { t with carr := { t.carr with busy := some { op := op, result := r, fusesWere := was.fuses, svcWas := was.heldSvc } } }
    (carrPg 0) 9 r).of_before rfl rfl

end

/-! ## What the commands of Carr do (R605, R608, R611) -/

section
variable {s t : State} {a : Nat}

theorem carrAccepts_yes {b : Nat} (yes : bit (rget s (carrPg 0) 3) b = true) : carrAccepts b s = .ok () s := by
  unfold carrAccepts
  rw [getState_bind, if_pos yes]
  rfl

theorem carrAccepts_no {b : Nat} (no : ¬ bit (rget s (carrPg 0) 3) b = true) : carrAccepts b s = .error 11 s := by
  unfold carrAccepts
  rw [getState_bind, if_neg no]
  rfl

theorem carrAccepts_then {b : Nat} (yes : bit (rget s (carrPg 0) 3) b = true) (f : Unit → K Unit) :
    (carrAccepts b >>= f) s = f () s := by
  show EStateM.bind _ _ s = _
  unfold EStateM.bind
  rw [carrAccepts_yes yes]

theorem carrAccepts_stop {b : Nat} (no : ¬ bit (rget s (carrPg 0) 3) b = true) (f : Unit → K Unit) :
    (carrAccepts b >>= f) s = .error 11 s := by
  show EStateM.bind _ _ s = _
  unfold EStateM.bind
  rw [carrAccepts_no no]

/-- A random source that fails its test draws nothing (R583). -/
theorem randomUse_fails (s : State) (f : Unit → K Unit) :
    (randomUse false >>= f) s = .error (Config.freeValue 5 s.fresh).toNat (rngFailed { s with fresh := s.fresh + 1 } 0) := rfl

theorem randomUse_draws (s : State) (f : Unit → K Unit) : (randomUse true >>= f) s = f () s := rfl

/-- What a command shows that drew nothing. -/
theorem undrawn_shows {u : State} (moved : Moved s u) (mem : u.mem = s.mem) (op r : Nat) :
    let t := carrEnded s (rngFailed { u with fresh := u.fresh + 1 } 0) op r
    t.boot.rngFail = some 0 ∧ t.mem = s.mem ∧ t.fuses = s.fuses ∧ t.lcs = s.lcs ∧ t.carr.nonce = s.carr.nonce ∧ t.carr.token = s.carr.token := by
  obtain ⟨v, hv⟩ : ∃ v, v = rngFailed { u with fresh := u.fresh + 1 } 0 := ⟨_, rfl⟩
  have w : Within [.carr, .regs, .evTick, .events] v (carrEnded s v op r) := carrEnded_within (.refl v) ..
  have kept := carrEnded_carr s v op r
  have carr : v.carr = s.carr := by rw [hv]; exact moved.within.carr
  intro t
  show (carrEnded s (rngFailed { u with fresh := u.fresh + 1 } 0) op r).boot.rngFail = some 0 ∧ _
  rw [show t = carrEnded s v op r from by rw [hv], ← hv]
  refine ⟨?_, ?_, ?_, ?_, kept.1.trans (congrArg Carr.nonce carr), kept.2.trans (congrArg Carr.token carr)⟩
  · rw [w.boot, hv]
    rfl
  · rw [w.mem, hv]
    exact mem
  · rw [w.fuses, hv]
    exact moved.within.fuses
  · rw [w.lcs, hv]
    exact moved.within.lcs

/-- CHAL writes a fresh nonce and holds it. -/
theorem cmdChal_draws (buffer : CarrBuffer s a 12) :
    ∃ t, cmdChal false true a s = .ok () t ∧ t.carr = { s.carr with nonce := some (Config.freeValue 384 s.fresh, s.ticks) } ∧
      OctetsAt s t a (numOct (Config.freeValue 384 s.fresh).toNat 48) ∧ t.regs = s.regs := by
  have length : (numOct (Config.freeValue 384 s.fresh).toNat 48).length = 48 := by
    unfold numOct
    rw [List.length_map, List.length_range]
  obtain ⟨u, run, moved, words⟩ := carrWrite_run (s := { s with fresh := s.fresh + 1 }) (a := a)
    (l := numOct (Config.freeValue 384 s.fresh).toNat 48) (by rw [length]; exact buffer)
  refine ⟨{ u with carr := { u.carr with nonce := some (Config.freeValue 384 s.fresh, u.ticks) } }, ?_, ?_, words, moved.regs⟩
  · unfold cmdChal
    rw [randomUse_draws]
    show EStateM.bind (carrWrite false a (numOct (Config.freeValue 384 s.fresh).toNat 48)) _ { s with fresh := s.fresh + 1 } = _
    unfold EStateM.bind
    rw [run]
    rfl
  · show { u.carr with nonce := some (Config.freeValue 384 s.fresh, u.ticks) } = _
    rw [moved.within.carr, moved.within.ticks]

/-- The report of a state that differs in the words that Carr has read. -/
theorem report_moved (moved : Moved s t) (n : List (BitVec 8)) : report t n = report s n := by
  rw [moved.within.eq]
  rfl

theorem length_numOct (n k : Nat) : (numOct n k).length = k := by
  unfold numOct
  rw [List.length_map, List.length_range]

theorem length_num48 (v : Nat) : (num48 v).length = 48 := by
  unfold num48
  rw [List.length_map, List.length_range]

/-- A report is 352 octets long (Table 12.11). -/
theorem length_report {n : List (BitVec 8)} (length : n.length = 48) : (report s n).length = 352 := by
  have body : (reportBody s n).length = 256 := by
    unfold reportBody
    simp only [List.length_append, length_numOct, length]
  have sign (d k : Nat) (h : BitVec 384) : (ecdsaSign d h k).length = 96 := by
    unfold ecdsaSign
    dsimp only
    rw [List.length_append, length_num48, length_num48]
  unfold report
  dsimp only
  rw [List.length_append, body, sign]

/-- A public key with its 3 zero octets is 100 octets long. -/
theorem length_idkey (d : Nat) : (publicKey d ++ [0, 0, 0]).length = 100 := by
  unfold publicKey
  simp only [List.length_append, length_num48, List.length_cons, List.length_nil]

/-- ATTEST writes the report over the nonce given. -/
theorem cmdAttest_reports {l : List (BitVec 8)} (buffer : CarrBuffer s a 88) (length : l.length = 48) (holds : HoldsOctets s a l) :
    ∃ t, cmdAttest false true a s = .ok () t ∧ OctetsAt s t a (report s l) ∧ t.regs = s.regs := by
  have words : wordsFor l.length = 12 := by rw [length]; rfl
  obtain ⟨u, read, moved, mem⟩ := carrRead_run (s := s) (a := a) (l := l) (by rw [words]; exact fun q low high => buffer q low (by omega)) holds
  have same (q : Nat) : mget u q = mget s q := by
    unfold mget
    rw [mem]
  have long : wordsFor (report s l).length = 88 := by rw [length_report length]; rfl
  obtain ⟨v, write, onwards, ⟨there, others⟩⟩ := carrWrite_run (s := { u with fresh := u.fresh + 1 }) (a := a) (l := report s l) (by
    rw [long]
    exact fun q low high => ⟨(moved.memReach q).trans (buffer q low high).1, (congrArg MemWord.ecc (same q)).trans (buffer q low high).2.1,
      (moved.marked q).trans (buffer q low high).2.2⟩)
  refine ⟨v, ?_, ⟨there, fun q out => (others q out).trans (same q)⟩, onwards.regs.trans moved.regs⟩
  unfold cmdAttest
  show EStateM.bind (carrRead false a 48) _ s = _
  unfold EStateM.bind
  rw [length] at read
  rw [read]
  show carrWrite false a (report u l) { u with fresh := u.fresh + 1 } = _
  rw [report_moved moved]
  exact write

/-- An ATTEST whose random source fails its test. -/
theorem cmdAttest_undrawn {l : List (BitVec 8)} (buffer : CarrBuffer s a 12) (length : l.length = 48) (holds : HoldsOctets s a l) :
    ∃ u r, cmdAttest false false a s = .error r (rngFailed { u with fresh := u.fresh + 1 } 0) ∧ Moved s u ∧ u.mem = s.mem := by
  have words : wordsFor l.length = 12 := by rw [length]; rfl
  obtain ⟨u, read, moved, mem⟩ := carrRead_run (s := s) (a := a) (l := l) (by rw [words]; exact buffer) holds
  refine ⟨u, (Config.freeValue 5 u.fresh).toNat, ?_, moved, mem⟩
  unfold cmdAttest
  show EStateM.bind (carrRead false a 48) _ s = _
  unfold EStateM.bind
  rw [length] at read
  rw [read]
  rfl

/-- IDKEY writes the public key. -/
theorem cmdIdkey_writes (buffer : CarrBuffer s a 25) :
    ∃ t, cmdIdkey false a s = .ok () t ∧ OctetsAt s t a (publicKey (privateKey s) ++ [0, 0, 0]) ∧ t.regs = s.regs := by
  obtain ⟨t, write, moved, words⟩ := carrWrite_run (s := s) (a := a) (l := publicKey (privateKey s) ++ [0, 0, 0]) (by
    rw [length_idkey]
    exact buffer)
  have zeros : numOct 0 3 = [0, 0, 0] := by decide
  refine ⟨t, ?_, words, moved.regs⟩
  unfold cmdIdkey
  rw [getState_bind, zeros]
  exact write

/-- The end of a token releases what is halted (R611, R669). -/
theorem endToken_releases {x : Token} (token : s.carr.token = some x) :
    (endToken s).carr.token = none ∧ (endToken s).mem = s.mem ∧ bit (rget (endToken s) frzPg 16) 26 = false ∧
      ∀ n h, n < 16 * s.part.dies → h < 4 → (ctxAt (endToken s) n h).halted = false := by
  obtain ⟨v, hv⟩ : ∃ v, v = { s with carr := { s.carr with token := none } } := ⟨_, rfl⟩
  obtain ⟨u, hu⟩ : ∃ u, u = releaseHalted v := ⟨_, rfl⟩
  have ends : endToken s = rset u frzPg 16 (setFld (rget u frzPg 16) 26 26 0) := by
    unfold endToken
    rw [token, hu, hv]
    rfl
  have w : Within [.cores] v u := hu ▸ releaseHalted_within (.refl v) ..
  rw [ends]
  refine ⟨?_, ?_, ?_, fun n h hn hh => ?_⟩
  · show u.carr.token = none
    rw [w.carr, hv]
  · show u.mem = s.mem
    rw [w.mem, hv]
  · unfold bit
    rw [rget_rset_same, getLsbD_setFld, if_pos (by decide)]
    rfl
  · rw [ctxAt_rset, hu]
    exact releaseHalted_runs v (by rw [hv]; exact hn) hh

theorem endToken_none (token : s.carr.token = none) : endToken s = s := by
  unfold endToken
  rw [token]

/-- PROVISION, once the roots are read, with one of them programmed. -/
theorem cmdProvision_reads {l : List (BitVec 8)} (length : l.length = 193)
    (holds : ∀ k, k < 49 → rget s frzPg (64 + k) = packFour (l.drop (4 * k))) (rng : Bool) :
    cmdProvision true rng (regAddr frzPg 64) s = (do
      let hs := (List.range 4).map (fun k => BitVec.ofNat 384 (octNum l (48 * k) 48))
      if hs.all (fun h => h == 0) then throw 6
      randomUse rng
      modify (fun s =>
        let f := { s.fuses with
          roothash := hs.zipIdx.foldl (fun m h => kset (fun _ => 0) m h.2 h.1) []
          dbgslot := BitVec.ofNat 4 (octNum l 192 1)
          prov := 3
          idkey := Config.freeValue 416 s.fresh }
        { s with
          fuses := f
          fusesRead := f
          fresh := s.fresh + 1
          lcs := .provisioned }) : K Unit) s := by
  have words : wordsFor l.length = 49 := by rw [length]; rfl
  have read := carrRead_dbgBuf (s := s) (l := l) (by rw [words]; decide) (by rw [words]; exact holds)
  rw [length] at read
  unfold cmdProvision
  show EStateM.bind (carrRead true (regAddr frzPg 64) 193) _ s = _
  unfold EStateM.bind
  rw [read]

/-- The roots that PROVISION programs. -/
theorem hash_programmed {h : Nat → BitVec 384} : ∀ k < 4,
    kget (fun _ => 0) (((List.range 4).map h).zipIdx.foldl (fun m h => kset (fun _ => 0) m h.2 h.1) []) k = h k := by
  intro k hk
  show kget (fun _ => 0) (kset (fun _ => 0) (kset (fun _ => 0) (kset (fun _ => 0) (kset (fun _ => 0) [] 0 (h 0)) 1 (h 1)) 2 (h 2)) 3 (h 3)) k = h k
  obtain rfl | rfl | rfl | rfl : k = 0 ∨ k = 1 ∨ k = 2 ∨ k = 3 := by omega
  · rw [kget_kset_other _ _ _ (by decide), kget_kset_other _ _ _ (by decide), kget_kset_other _ _ _ (by decide), kget_kset_same]
  · rw [kget_kset_other _ _ _ (by decide), kget_kset_other _ _ _ (by decide), kget_kset_same]
  · rw [kget_kset_other _ _ _ (by decide), kget_kset_same]
  · rw [kget_kset_same]

theorem roots_all_zero {h : Nat → BitVec 384} : ((List.range 4).map h).all (fun h => h == 0) = true ↔ ∀ k < 4, h k = 0 := by
  rw [List.all_eq_true]
  simp only [List.mem_map, List.mem_range, forall_exists_index, and_imp, beq_iff_eq]
  exact ⟨fun all k hk => all (h k) k hk rfl, fun all x k hk e => e ▸ all k hk⟩

end

/-- A command of Carr, with its number, is written to CMD. -/
theorem exec_carrCommands {s : State} (works : unitWorks s (carrPg 0) = true) (st : Stamp) (addr : BitVec 30) (rng : Bool) :
    ∀ c ∈ ([(.attest st ⟨addr, rng⟩, 1), (.idkey st addr, 2), (.chal st ⟨addr, rng⟩, 3), (.dbgresp st addr, 4), (.dbgend st addr, 5),
      (.lctrans st addr, 6), (.revoke st addr, 7), (.svnadv st addr, 8), (.provision st ⟨addr, rng⟩, 9)] : List (Instr × Nat)),
      ∃ r, exec c.1 s = .next (carrCmd s 0 st c.2 addr.toNat r) ∧ c.2 ≠ 0 ∧ c.2 ≤ 9 := by
  have each (op : Nat) (r : Bool) : done (unitDo s (carrPg 0) (fun s => carrCmd s 0 st op addr.toNat r)) =
      .next (carrCmd s 0 st op addr.toNat r) := congrArg done (unitDo_of_works works _)
  simp only [List.forall_mem_cons, List.not_mem_nil, false_imp_iff, implies_true, and_true]
  exact ⟨⟨rng, each 1 rng, by decide⟩, ⟨true, each 2 true, by decide⟩, ⟨rng, each 3 rng, by decide⟩, ⟨true, each 4 true, by decide⟩,
    ⟨true, each 5 true, by decide⟩, ⟨true, each 6 true, by decide⟩, ⟨true, each 7 true, by decide⟩, ⟨true, each 8 true, by decide⟩,
    ⟨rng, each 9 rng, by decide⟩⟩

/-- An interrupt shown by a state that differs in Carr and the registers. -/
theorem irqPend_carr {s u : State} (same : u = { s with
    carr := u.carr
    regs := u.regs }) (pg b : Nat) : irqPend u pg b = { s.noted (irqPend u pg b) with
    carr := (irqPend u pg b).carr
    regs := (irqPend u pg b).regs } := by
  rw [same]
  rfl

/-- Settles O53: a command is refused, ends with the result of the first check that fails, or does its work. -/
theorem carrCommands : Obligations.CarrCommands := by
  intro s st addr rng l job pg a accepts core usual ends alone commands undrawn dbgAt hash works
  have execs := exec_carrCommands works st addr
  have runs {c : Instr} {op : Nat} {r : Bool} (run : exec c s = .next (carrCmd s 0 st op a r)) (answers : carrAnswers s = true)
      (idle : s.carr.busy = none) (known : op ≠ 0 ∧ op ≤ 9) : exec c s = .next (carrResult s op (carrBody 0 st op a r s)) :=
    run.trans (congrArg _ (carrCmd_runs answers idle known))
  have quiet (op r : Nat) (small : ¬ (4 ≤ r ∧ r ≤ 10)) : alone (carrEnded s s op r) := by
    show carrEnded s s op r = { s with carr := (carrEnded s s op r).carr }
    rw [carrEnded_quiet s s op small]
  refine ⟨fun answers busy c hc => ?_, fun answers idle => ?_, fun busy => ?_, fun idle => ?_, fun x token => ?_, fun token => ?_⟩
  · obtain ⟨r, run, -⟩ := execs rng c hc
    have refused : carrCmd s 0 st c.2 addr.toNat r = capture s pg 8 (regAddr pg 24) := by
      unfold carrCmd
      rw [answers, if_neg (by decide), if_pos busy]
    rw [refused] at run
    have w : Within Area.ofSignal s (capture s pg 8 (regAddr pg 24)) := capture_within (.refl s) ..
    exact ⟨_, run, captured_capture .., w.noted⟩
  · have work {c : Instr} {op : Nat} {r : Bool} (run : exec c s = .next (carrCmd s 0 st op a r)) (known : op ≠ 0 ∧ op ≤ 9)
        (lifecycle : carrLcOk op s.lcs = true) (requester : carrFrom 0 op st = true) :
        exec c s = .next (carrResult s op (carrWork st op a r s)) :=
      (runs run answers idle known).trans (by rw [carrBody_works lifecycle requester])
    refine ⟨fun c hc bad => ?_, fun c hc good bad => ?_, fun core_ usual_ => ?_, fun core_ yes => ?_, fun core_ lifecycle yes => ?_,
      fun port_ blank place length holds => ?_⟩
    · obtain ⟨r, run, known⟩ := execs rng c hc
      have run := runs run answers idle known
      rw [carrBody_lifecycle bad] at run
      exact ⟨_, run, carrEnded_ended .., quiet c.2 2 (by decide)⟩
    · obtain ⟨r, run, known⟩ := execs rng c hc
      have stranger : carrFrom 0 c.2 st = false := by
        unfold carrFrom
        rcases bad with class_ | ⟨class_, level⟩
        · simp [class_]
        · rw [class_, decide_eq_true level]
          simp
      have run := runs run answers idle known
      rw [carrBody_requester good stranger] at run
      exact ⟨_, run, carrEnded_ended .., quiet c.2 3 (by decide)⟩
    · have from_ (op : Nat) (other : op ≠ 9) : carrFrom 0 op st = true := by
        unfold carrFrom
        rw [core_.1, core_.2]
        simp [other]
      have lc (op : Nat) (h : op = 1 ∨ op = 2 ∨ op = 3) : carrLcOk op s.lcs = true := by
        unfold carrLcOk
        rw [if_neg (by omega), if_neg (by omega), if_neg (by omega), if_neg (by omega)]
        rcases usual_ with e | e | e <;> rw [e] <;> rfl
      have memory : decide (st.cls = 2) = false := by rw [core_.1]; rfl
      have does {c : Instr} {op : Nat} {r : Bool} (run : exec c s = .next (carrCmd s 0 st op a r)) (h : op = 1 ∨ op = 2 ∨ op = 3) :
          exec c s = .next (carrResult s op (carrWork st op a r s)) := work run (by omega) (lc op h) (from_ op (by omega))
      have attest (r : Bool) := does (c := .attest st ⟨addr, r⟩) (r := r) (congrArg done (unitDo_of_works works _)) (.inl rfl)
      have idkey := does (c := .idkey st addr) (r := true) (congrArg done (unitDo_of_works works _)) (.inr (.inl rfl))
      have chal (r : Bool) := does (c := .chal st ⟨addr, r⟩) (r := r) (congrArg done (unitDo_of_works works _)) (.inr (.inr rfl))
      have attests (r : Bool) : carrWork st 1 a r s = (carrAccepts 1 >>= fun _ => cmdAttest false r a) s := by
        unfold carrWork
        rw [memory]
        rfl
      have idkeys : carrWork st 2 a true s = (carrAccepts 1 >>= fun _ => cmdIdkey false a) s := by
        unfold carrWork
        rw [memory]
        rfl
      have chals (r : Bool) : carrWork st 3 a r s = (carrAccepts 2 >>= fun _ => cmdChal false r a) s := by
        unfold carrWork
        rw [memory]
        rfl
      have shut {c : Instr} {op : Nat} (run : exec c s = .next (carrResult s op (.error 11 s))) : ends c op 11 alone :=
        ⟨_, run, carrEnded_ended .., quiet op 11 (by decide)⟩
      have finish {c : Instr} {op : Nat} {t : State} {P : State → Prop} (run : exec c s = .next (carrResult s op (.ok () t)))
          (holds : P (carrEnded s t op 0)) : ends c op 0 P := ⟨_, run, carrEnded_ended .., holds⟩
      refine ⟨fun no => ⟨?_, ?_⟩, fun no => ?_, fun yes => ?_, fun yes buffer => ?_, fun yes buffer length holds => ?_,
        fun yes buffer length holds => ?_, fun yes buffer => ?_⟩
      · exact shut ((attest rng).trans (by rw [attests, carrAccepts_stop no]))
      · exact shut (idkey.trans (by rw [idkeys, carrAccepts_stop no]))
      · exact shut ((chal rng).trans (by rw [chals, carrAccepts_stop no]))
      · have run := chal false
        rw [chals, carrAccepts_then yes, show cmdChal false false a s = .error (Config.freeValue 5 s.fresh).toNat
          (rngFailed { s with fresh := s.fresh + 1 } 0) from rfl] at run
        exact ⟨_, _, run, carrEnded_ended .., undrawn_shows (.refl s) rfl 3 _⟩
      · obtain ⟨t, draws, carr, words, regs⟩ := cmdChal_draws buffer
        have run := chal true
        rw [chals, carrAccepts_then yes, draws] at run
        refine finish run ⟨Config.freeValue 384 s.fresh, ?_, ?_, ?_, ?_⟩
        · rw [(carrEnded_carr s t 3 0).1, carr]
        · rw [carrEnded_quiet s t 3 (by decide)]
          exact words
        · rw [carrEnded_quiet s t 3 (by decide)]
          exact regs
        · rw [(carrEnded_carr s t 3 0).2, carr]
      · obtain ⟨u, r, fails, moved, mem⟩ := cmdAttest_undrawn buffer length holds
        have run := attest false
        rw [attests, carrAccepts_then yes, fails] at run
        exact ⟨_, r, run, carrEnded_ended .., undrawn_shows moved mem 1 r⟩
      · obtain ⟨t, reports, words, regs⟩ := cmdAttest_reports buffer length holds
        have run := attest true
        rw [attests, carrAccepts_then yes, reports] at run
        refine finish run ?_
        rw [carrEnded_quiet s t 1 (by decide)]
        exact ⟨words, length_report length, regs⟩
      · obtain ⟨t, writes, words, regs⟩ := cmdIdkey_writes buffer
        rw [idkeys, carrAccepts_then yes, writes] at idkey
        refine finish idkey ?_
        rw [carrEnded_quiet s t 2 (by decide)]
        exact ⟨words, regs⟩
    · have from_ : carrFrom 0 5 st = true := by
        unfold carrFrom
        rw [core_.1, core_.2]
        decide
      have run := work (c := .dbgend st addr) (r := true) (congrArg done (unitDo_of_works works _)) (by decide) rfl from_
      rw [show carrWork st 5 a true s = (carrAccepts 2 >>= fun _ => modify endToken) s from rfl, carrAccepts_then yes,
        show (modify endToken : K Unit) s = .ok () (endToken s) from rfl] at run
      have held := (carrEnded_carr s (endToken s) 5 0).2
      have quiet_ := carrEnded_quiet s (endToken s) 5 (r := 0) (by decide)
      refine ⟨_, run, carrEnded_ended .., ?_⟩
      show (carrEnded s (endToken s) 5 0).carr.token = none ∧ (carrEnded s (endToken s) 5 0).mem = s.mem ∧ _ ∧ _
      cases token : s.carr.token with
      | none =>
        rw [endToken_none token] at held quiet_
        refine ⟨by rw [endToken_none token, held, token], ?_, fun some_ => absurd rfl some_, fun _ => ?_⟩
        · rw [endToken_none token, quiet_]
        · show (carrEnded s (endToken s) 5 0).cores = s.cores ∧ (carrEnded s (endToken s) 5 0).regs = s.regs
          rw [endToken_none token, quiet_]
          exact ⟨rfl, rfl⟩
      | some x =>
        obtain ⟨gone, memory, cleared, halts⟩ := endToken_releases token
        refine ⟨held.trans gone, by rw [quiet_]; exact memory, fun _ => ?_, fun none_ => absurd none_ (Option.some_ne_none x)⟩
        show bit (rget (carrEnded s (endToken s) 5 0) frzPg 16) 26 = false ∧
          ∀ n h, n < 16 * s.part.dies → h < 4 → (ctxAt (carrEnded s (endToken s) 5 0) n h).halted = false
        rw [quiet_]
        exact ⟨cleared, halts⟩
    · have from_ : carrFrom 0 8 st = true := by
        unfold carrFrom
        rw [core_.1, core_.2]
        decide
      have lc : carrLcOk 8 s.lcs = true := by
        rcases lifecycle with e | e <;> rw [e] <;> rfl
      have run := work (c := .svnadv st addr) (r := true) (congrArg done (unitDo_of_works works _)) (by decide) lc from_
      rw [show carrWork st 8 a true s = cmdSvnadv s from rfl] at run
      unfold cmdSvnadv at run
      rw [carrAccepts_then yes] at run
      refine ⟨_, run, carrEnded_ended .., ?_⟩
      exact ⟨rfl, rfl, rfl⟩
    · have from_ : carrFrom 0 9 st = true := by
        unfold carrFrom
        rw [port_]
        simp
      have provision (r : Bool) := work (c := .provision st ⟨addr, r⟩) (r := r) (congrArg done (unitDo_of_works works _)) (by decide)
        (by rw [blank]; rfl) from_
      have reads (r : Bool) : carrWork st 9 a r s = cmdProvision true r (regAddr frzPg 64) s := by
        show cmdProvision (decide (st.cls = 2)) r a s = _
        rw [port_, show a = regAddr frzPg 64 from place]
        rfl
      have roots := roots_all_zero (h := hash)
      refine ⟨fun programmed => ?_, fun zero => ?_⟩
      · have no : ¬ ((List.range 4).map hash).all (fun h => h == 0) = true := fun all => by
          obtain ⟨k, hk, ne⟩ := programmed
          exact ne (roots.1 all k hk)
        refine ⟨?_, ?_⟩
        · have run := provision false
          rw [reads, cmdProvision_reads length holds] at run
          dsimp only at run
          rw [if_neg no] at run
          exact ⟨_, _, run, carrEnded_ended .., undrawn_shows (.refl s) rfl 9 _⟩
        · have run := provision true
          rw [reads, cmdProvision_reads length holds] at run
          dsimp only at run
          rw [if_neg no] at run
          refine ⟨_, run, carrEnded_ended .., rfl, rfl, rfl, fun k hk => ?_, rfl, rfl, rfl⟩
          exact hash_programmed (h := hash) k hk
      · have run := provision rng
        rw [reads, cmdProvision_reads length holds] at run
        dsimp only at run
        rw [if_pos (roots.2 zero)] at run
        have w : Within [.carr, .regs, .evTick, .events] s (carrEnded s s 9 6) := carrEnded_within (.refl s) ..
        exact ⟨_, run, carrEnded_ended .., w.lcs.trans blank, w.fuses, carrEnded_captured s s 9 (r := 6) (by decide)⟩
  · have step : exec .carrCommandDone s = .next (irqPend (rset { s with carr := { s.carr with busy := none } } pg 25
        (fval 35 32 job.op ||| fval 31 27 job.result)) pg 1) := by
      show done (unitDo s _ _) = _
      rw [unitDo_of_works works, busy]
      rfl
    obtain ⟨u, hu⟩ : ∃ u, u = rset { s with carr := { s.carr with busy := none } } pg 25 (fval 35 32 job.op ||| fval 31 27 job.result) := ⟨_, rfl⟩
    have kept : RegsKept s u (fun p off => p = pg ∧ (off = 25 ∨ off = 9)) := by
      rw [hu]
      exact RegsKept.trans (.of_regs (t := { s with carr := { s.carr with busy := none } }) rfl _) (.rset _ _ (by decide) ⟨rfl, .inl rfl⟩)
    have shown : rget u pg 25 = (fval 35 32 job.op ||| fval 31 27 job.result) := by
      rw [hu]
      exact rget_rset_same ..
    have carr : u.carr = { s.carr with busy := none } := by
      rw [hu]
      rfl
    have rest := irqPend_carr (s := s) (u := u) (by rw [hu]; rfl) pg 1
    rw [← hu] at step
    refine ⟨_, step, carr, ?_, irqPend_pends _ _ (by decide), kept.trans (.irqPend _ _ ⟨rfl, .inr rfl⟩), rest⟩
    rw [rget_irqPend _ _ _ (by decide), if_neg (by omega), shown]
  · have step : exec .carrCommandDone s = .next s := by
      show done (unitDo s _ _) = _
      rw [unitDo_of_works works, idle]
      rfl
    exact ⟨s, step, rfl⟩
  · have clock : clocked s = true := by
      unfold unitWorks at works
      rw [Bool.and_eq_true] at works
      exact works.1
    have step : exec .tokenExpiry s = .next (if x.expires ≤ s.ticks then endToken s else s) := by
      show done (match clocked s, s.carr.token with | true, some t => if t.expires ≤ s.ticks then endToken s else s | _, _ => s) = _
      rw [clock, token]
      rfl
    refine ⟨fun due => ?_, fun early => ?_⟩
    · rw [if_pos due] at step
      obtain ⟨gone, memory, cleared, halts⟩ := endToken_releases token
      exact ⟨_, step, gone, cleared, halts, memory⟩
    · rw [if_neg (by omega)] at step
      exact ⟨s, step, rfl⟩
  · have step : exec .tokenExpiry s = .next s := by
      show done (match clocked s, s.carr.token with | true, some t => if t.expires ≤ s.ticks then endToken s else s | _, _ => s) = _
      rw [token]
      cases clocked s <;> rfl
    exact ⟨s, step, rfl⟩

end Sys2Proof.Machine

namespace Sys2Proof.Machine
open Sys2Proof
set_option Elab.async false

/-! ## Signed requests (R606, Table 12.10) -/

section
variable {s u w : State} {r : List (BitVec 8)} {v : BitVec 384} {since op : Nat}

/-- The state with the outstanding nonce withdrawn. -/
def spent (u : State) : State := { u with carr := { u.carr with nonce := none } }

theorem checkNonce_stranger (other : u.carr.nonce = none ∨ (u.carr.nonce = some (v, since) ∧ octNum r 0x10 48 ≠ v.toNat)) :
    checkNonce r u = .error 5 u := by
  unfold checkNonce
  rw [getState_bind]
  rcases other with none_ | ⟨some_, ne⟩
  · rw [none_]
    rfl
  · rw [some_]
    dsimp only
    rw [if_neg ne]
    rfl

theorem checkNonce_late (nonce : u.carr.nonce = some (v, since)) (same : octNum r 0x10 48 = v.toNat) (late : since + 60000000 * ticksPerUs ≤ u.ticks) :
    checkNonce r u = .error 5 (spent u) := by
  unfold checkNonce
  rw [getState_bind, nonce]
  dsimp only
  rw [if_pos same, if_neg (Nat.not_lt.2 late)]
  rfl

theorem checkNonce_inTime (nonce : u.carr.nonce = some (v, since)) (same : octNum r 0x10 48 = v.toNat) (early : u.ticks < since + 60000000 * ticksPerUs) :
    checkNonce r u = .ok () (spent u) := by
  unfold checkNonce
  rw [getState_bind, nonce]
  dsimp only
  rw [if_pos same, if_pos early]
  rfl

/-- A request that its nonce refuses. -/
theorem checkRequest_nonce (refused : checkNonce r u = .error 5 w) (f : Unit → K Unit) : (checkRequest op r >>= f) u = .error 5 w := by
  show EStateM.bind (EStateM.bind (checkNonce r) _) f u = _
  unfold EStateM.bind
  rw [refused]

/-- A request that carries the outstanding nonce in time, at its other checks. -/
theorem checkRequest_checks (good : checkNonce r u = .ok () w) (f : Unit → K Unit) :
    (checkRequest op r >>= f) u =
      if reqFormed w op r = false then .error 6 w
      else if reqSlotOk w.fusesRead op r = false then .error 7 w
      else if ecdsaVerify (reqOcts r 0x60 97) (sha384 (r.take 0xD0)) (reqOcts r 0xD0 96) = false then .error 8 w
      else f () w := by
  show EStateM.bind (EStateM.bind (checkNonce r) _) f u = _
  unfold EStateM.bind
  rw [good]
  dsimp only
  rw [getState_bind]
  cases reqFormed w op r with
  | false => rfl
  | true =>
    cases reqSlotOk w.fusesRead op r with
    | false => rfl
    | true => cases ecdsaVerify (reqOcts r 0x60 97) (sha384 (r.take 0xD0)) (reqOcts r 0xD0 96) <;> rfl

/-- The state w, in which a command of Carr has read a request in s and done nothing but to withdraw the nonce. -/
structure Unaltered (s w : State) : Prop where
  within : Within [.carr, .mem, .eccWb, .regs, .evTick, .events, .heatCnt, .heatDue, .slots] s w
  regs : w.regs = s.regs
  mem : w.mem = s.mem
  token : w.carr.token = s.carr.token

theorem Unaltered.of_moved (moved : Moved s u) (mem : u.mem = s.mem) : Unaltered s u where
  within := moved.within.mono (by decide)
  regs := moved.regs
  mem := mem
  token := congrArg Carr.token moved.within.carr

theorem Unaltered.of_spent (kept : Unaltered s u) : Unaltered s (spent u) where
  within := Within.setCarr kept.within _ (by decide)
  regs := kept.regs
  mem := kept.mem
  token := kept.token

theorem Unaltered.rget (kept : Unaltered s w) (pg off : Nat) : rget w pg off = Machine.rget s pg off := by
  unfold Machine.rget
  rw [kept.regs]

theorem Unaltered.formed (kept : Unaltered s w) : reqFormed w op r = reqFormed s op r := by
  unfold reqFormed
  rw [kept.within.fusesRead]

/-- A request that fails: its result is captured, and nothing else changes (R606). -/
theorem Unaltered.fails (kept : Unaltered s w) (op result : Nat) (shown : 4 ≤ result ∧ result ≤ 10) :
    let t := carrEnded s w op result
    Captured s t (carrPg 0) 9 result ∧ t.fuses = s.fuses ∧ t.lcs = s.lcs ∧ t.carr.token = s.carr.token ∧ t.mem = s.mem ∧
      t.safety = s.safety := by
  have wt : Within [.carr, .regs, .evTick, .events] w (carrEnded s w op result) := carrEnded_within (.refl w) ..
  exact ⟨(carrEnded_captured s w op shown).of_before (kept.rget _ _) (kept.rget _ _), wt.fuses.trans kept.within.fuses,
    wt.lcs.trans kept.within.lcs, (carrEnded_carr s w op result).2.trans kept.token, wt.mem.trans kept.mem,
    wt.safety.trans kept.within.safety⟩

/-- The token of a request, once its nonce is withdrawn. -/
theorem Unaltered.tokenOf (kept : Unaltered s w) : tokenOf w r = Machine.tokenOf s r := by
  unfold Machine.tokenOf
  rw [kept.within.lcs, kept.within.ticks]

/-- In Mire no token comes into force (R611). -/
theorem grantToken_mire (mire : w.safety = .mire) (lcs : w.lcs ≠ .blank) (x : Token) : grantToken w x = w := if_pos ⟨mire, lcs⟩

/-- A token is put in force; one of Halt or Full stops Run and Degraded (R609, R658). -/
theorem grantToken_takes (out : w.safety ≠ .mire) (x : Token) :
    let t := grantToken w x
    t.carr = { w.carr with token := some x } ∧ t.mem = w.mem ∧ t.regs = w.regs ∧
      (2 ≤ x.state → w.safety = .run ∨ w.safety = .degraded → t.safety = .proof ∧ (ven t 0).running = false ∧ (ven t 1).running = false) ∧
      (x.state < 2 ∨ (w.safety ≠ .run ∧ w.safety ≠ .degraded) → t.safety = w.safety ∧ t.vens = w.vens) := by
  obtain ⟨y, hy⟩ : ∃ y, y = { w with carr := { w.carr with token := some x } } := ⟨_, rfl⟩
  have takes : grantToken w x = if 2 ≤ x.state ∧ (w.safety = .run ∨ w.safety = .degraded) then toProof y else y := by
    rw [hy]
    exact if_neg fun h => out h.1
  have carr : y.carr = { w.carr with token := some x } := hy ▸ rfl
  have mem : y.mem = w.mem := hy ▸ rfl
  have regs : y.regs = w.regs := hy ▸ rfl
  have safety : y.safety = w.safety := hy ▸ rfl
  have vens : y.vens = w.vens := hy ▸ rfl
  dsimp only
  rw [takes]
  by_cases stops : 2 ≤ x.state ∧ (w.safety = .run ∨ w.safety = .degraded)
  · have p : Within [.safety, .blocks, .vens] y (toProof y) := toProof_within (.refl y)
    rw [if_pos stops]
    refine ⟨p.carr.trans carr, p.mem.trans mem, p.regs.trans regs, fun _ _ => ⟨toProof_safety _, ?_, ?_⟩, fun no => ?_⟩
    · exact ven_toProof_stops y (by decide)
    · exact ven_toProof_stops y (by decide)
    · rcases no with small | ⟨notRun, notDegraded⟩
      · omega
      · rcases stops.2 with run | degraded
        exacts [absurd run notRun, absurd degraded notDegraded]
  · rw [if_neg stops]
    exact ⟨carr, mem, regs, fun full run => absurd ⟨full, run⟩ stops, fun _ => ⟨safety, vens⟩⟩

/-- The rest of a command, once its request has been checked. -/
def requestRest (op : Nat) (r : List (BitVec 8)) : K Unit :=
  if op = 4 then do
    carrAccepts 2
    modify (fun s => grantToken s (Machine.tokenOf s r))
  else if op = 6 then do
    let s ← get
    match lcTransition s (reqArg r) with
    | none => throw 10
    | some s1 => do
      carrAccepts 3
      set s1
  else do
    let s ← get
    let f := { s.fuses with rvk := kset (fun _ => 0) s.fuses.rvk (reqArg r) 3 }
    if f.validMask = 0 then throw 9
    carrAccepts 4
    set (setFuses s (fun _ => f))

end

/-- A command of a signed request, once Carr has read the request: its checks, then the rest. -/
theorem exec_request {s : State} {st : Stamp} {addr : BitVec 30} {r : List (BitVec 8)} (works : unitWorks s (carrPg 0) = true)
    (answers : carrAnswers s = true) (idle : s.carr.busy = none) (core : st.cls = 0) (level : st.priv = 0)
    (lifecycle : (s.lcs = .provisioned ∨ s.lcs = .field) ∨ s.lcs = .service) (buffer : CarrBuffer s addr.toNat 76) (length : r.length = 304)
    (holds : HoldsOctets s addr.toNat r) : ∃ u, Moved s u ∧ u.mem = s.mem ∧
      ∀ c ∈ ([(.dbgresp st addr, 4), (.lctrans st addr, 6), (.revoke st addr, 7)] : List (Instr × Nat)),
        exec c.1 s = .next (carrResult s c.2 ((checkRequest c.2 r >>= fun _ => requestRest c.2 r) u)) := by
  have words : wordsFor r.length = 76 := by rw [length]; rfl
  obtain ⟨u, read, moved, mem⟩ := carrRead_run (s := s) (a := addr.toNat) (l := r) (by rw [words]; exact buffer) holds
  rw [length] at read
  refine ⟨u, moved, mem, ?_⟩
  have then_ {f : List (BitVec 8) → K Unit} : (carrRead false addr.toNat 304 >>= f) s = f r u := by
    show EStateM.bind _ _ s = _
    unfold EStateM.bind
    rw [read]
  have from_ (op : Nat) (other : op ≠ 9) : carrFrom 0 op st = true := by
    unfold carrFrom
    rw [core, level]
    simp [other]
  have lc (op : Nat) (h : op = 4 ∨ op = 6 ∨ op = 7) : carrLcOk op s.lcs = true := by
    rcases h with rfl | rfl | rfl <;> rcases lifecycle with (e | e) | e <;> rw [e] <;> rfl
  have memory : decide (st.cls = 2) = false := by rw [core]; rfl
  have work (op : Nat) (h : op = 4 ∨ op = 6 ∨ op = 7) : carrCmd s 0 st op addr.toNat true =
      carrResult s op (carrWork st op addr.toNat true s) := by
    rw [carrCmd_runs answers idle (by omega), carrBody_works (lc op h) (from_ op (by omega))]
  have writes (op : Nat) : done (unitDo s (carrPg 0) (fun s => carrCmd s 0 st op addr.toNat true)) = .next (carrCmd s 0 st op addr.toNat true) :=
    congrArg done (unitDo_of_works works _)
  simp only [List.forall_mem_cons, List.not_mem_nil, false_imp_iff, implies_true, and_true]
  refine ⟨(writes 4).trans (congrArg _ ((work 4 (by decide)).trans (congrArg _ ?_))),
    (writes 6).trans (congrArg _ ((work 6 (by decide)).trans (congrArg _ ?_))),
    (writes 7).trans (congrArg _ ((work 7 (by decide)).trans (congrArg _ ?_)))⟩
  · show cmdDbgresp (decide (st.cls = 2)) addr.toNat s = _
    rw [memory]
    exact then_
  · show cmdLctrans (decide (st.cls = 2)) addr.toNat s = _
    rw [memory]
    exact then_
  · show cmdRevoke (decide (st.cls = 2)) addr.toNat s = _
    rw [memory]
    exact then_

/-! ### What the request does (R603, R607, R609) -/

section
variable {s w : State} {r : List (BitVec 8)}

theorem requestRest_dbgresp (w : State) (r : List (BitVec 8)) : requestRest 4 r w =
    if bit (rget w (carrPg 0) 3) 2 = true then .ok () (grantToken w (tokenOf w r)) else .error 11 w := by
  show (carrAccepts 2 >>= fun _ => modify (fun s => grantToken s (tokenOf s r))) w = _
  by_cases yes : bit (rget w (carrPg 0) 3) 2 = true
  · rw [carrAccepts_then yes, if_pos yes]
    rfl
  · rw [carrAccepts_stop yes, if_neg yes]

theorem requestRest_unlisted (none_ : lcTransition w (reqArg r) = none) : requestRest 6 r w = .error 10 w := by
  show ((get : K State) >>= fun s => match lcTransition s (reqArg r) with
    | none => throw 10
    | some s1 => do
      carrAccepts 3
      set s1) w = _
  rw [getState_bind, none_]
  rfl

theorem requestRest_lctrans {x : State} (listed : lcTransition w (reqArg r) = some x) : requestRest 6 r w =
    if bit (rget w (carrPg 0) 3) 3 = true then .ok () x else .error 11 w := by
  show ((get : K State) >>= fun s => match lcTransition s (reqArg r) with
    | none => throw 10
    | some s1 => do
      carrAccepts 3
      set s1) w = _
  rw [getState_bind, listed]
  dsimp only
  by_cases yes : bit (rget w (carrPg 0) 3) 3 = true
  · rw [carrAccepts_then yes, if_pos yes]
    rfl
  · rw [carrAccepts_stop yes, if_neg yes]

/-- The fuses with the slot of a request revoked. -/
def revokedFuses (s : State) (r : List (BitVec 8)) : Fuses := { s.fuses with rvk := kset (fun _ => 0) s.fuses.rvk (reqArg r) 3 }

theorem requestRest_revoke (w : State) (r : List (BitVec 8)) : requestRest 7 r w =
    if (revokedFuses w r).validMask = 0 then .error 9 w
    else if bit (rget w (carrPg 0) 3) 4 = true then .ok () { w with fuses := revokedFuses w r } else .error 11 w := by
  show ((get : K State) >>= fun s => do
    let f := { s.fuses with rvk := kset (fun _ => 0) s.fuses.rvk (reqArg r) 3 }
    if f.validMask = 0 then throw 9
    carrAccepts 4
    set (setFuses s (fun _ => f))) w = _
  rw [getState_bind]
  dsimp only
  by_cases last : (revokedFuses w r).validMask = 0
  · rw [if_pos last]
    exact congrFun (if_pos last) w
  · rw [if_neg last]
    refine (congrFun (if_neg last) w).trans ?_
    show (carrAccepts 4 >>= fun _ => set (setFuses w (fun _ => revokedFuses w r))) w = _
    by_cases yes : bit (rget w (carrPg 0) 3) 4 = true
    · rw [carrAccepts_then yes, if_pos yes]
      rfl
    · rw [carrAccepts_stop yes, if_neg yes]

/-- A transition that Table 12.8 lists not. -/
theorem lcTransition_unlisted {arg : Nat} (unlisted : ¬ ((arg = 2 ∧ w.lcs = .provisioned) ∨ (arg = 3 ∧ (w.lcs = .provisioned ∨ w.lcs = .field)) ∨
    (arg = 4 ∧ ((w.lcs = .provisioned ∨ w.lcs = .field) ∨ w.lcs = .service)))) : lcTransition w arg = none := by
  unfold lcTransition
  simp only [decide_eq_true_eq]
  rw [if_neg (by tauto), if_neg (by tauto), if_neg (by tauto)]

/-- The end of a token withdraws no nonce. -/
theorem endToken_nonce (s : State) : (endToken s).carr.nonce = s.carr.nonce := by
  unfold endToken
  split
  · rfl
  · obtain ⟨v, hv⟩ : ∃ v, v = { s with carr := { s.carr with token := none } } := ⟨_, rfl⟩
    have w : Within [.cores] v (releaseHalted v) := releaseHalted_within (.refl v)
    have record (z : State) (p q hi lo n : Nat) : (rsetf z p q hi lo n).carr = z.carr := rfl
    rw [← hv, record, w.carr, hv]

theorem mireEnter_nonce (s : State) (cause die core : Nat) : (mireEnter s cause die core).carr.nonce = s.carr.nonce := by
  by_cases mire : s.safety = .mire
  · rw [show mireEnter s cause die core = s from if_pos mire]
  · obtain ⟨y, hy⟩ : ∃ y, y = rset (evPut { endToken s with safety := .mire } (pkgPg 0) 68 (fval 35 35 1)) (pkgPg 0) 68
      (fval 35 35 1 ||| fval 34 30 cause ||| fval 29 27 die ||| (if cause = 3 ∨ cause = 4 then fval 26 20 core else 0)) := ⟨_, rfl⟩
    have enters : mireEnter s cause die core = channelsSafe (freeAll (venStopAll y 7)) := by
      rw [hy]
      exact if_neg mire
    have w : Within [.regs, .evTick, .events, .reeds, .chans, .voters, .vens] y (channelsSafe (freeAll (venStopAll y 7))) :=
      channelsSafe_within (freeAll_within (venStopAll_within (.refl y) ..) ..) ..
    have record (z : State) (p q : Nat) (v v' : Word) : (rset (evPut z p q v) p q v').carr = z.carr := rfl
    rw [enters, w.carr, hy, record]
    exact endToken_nonce s

/-- The transitions of Table 12.8. -/
theorem lcTransition_listed {arg : Nat} (listed : (arg = 2 ∧ w.lcs = .provisioned) ∨ (arg = 3 ∧ (w.lcs = .provisioned ∨ w.lcs = .field)) ∨
    (arg = 4 ∧ ((w.lcs = .provisioned ∨ w.lcs = .field) ∨ w.lcs = .service))) :
    ∃ x, lcTransition w arg = some x ∧ x.carr.nonce = w.carr.nonce ∧
      (arg = 2 → x.fuses.fieldF = 3 ∧ x.boot.pend = 2 ∧ x.lcs = w.lcs) ∧
      (arg = 3 → x.heldSvc = true ∧ x.boot.pend = 3 ∧ x.lcs = w.lcs ∧ x.fuses = w.fuses) ∧
      (arg = 4 → x.lcs = .retired ∧ x.safety = .mire ∧ x.fuses.retired = 3 ∧ x.fuses.idzero = 3) := by
  unfold lcTransition
  simp only [decide_eq_true_eq]
  rcases listed with h | h | h
  · rw [if_pos h]
    exact ⟨_, rfl, rfl, fun _ => ⟨rfl, rfl, rfl⟩, fun h' => absurd (h.1.symm.trans h') (by decide), fun h' => absurd (h.1.symm.trans h') (by decide)⟩
  · rw [if_neg fun h' => absurd (h'.1.symm.trans h.1) (by decide), if_pos h]
    exact ⟨_, rfl, rfl, fun h' => absurd (h.1.symm.trans h') (by decide), fun _ => ⟨rfl, rfl, rfl, rfl⟩,
      fun h' => absurd (h.1.symm.trans h') (by decide)⟩
  · rw [if_neg fun h' => absurd (h'.1.symm.trans h.1) (by decide), if_neg fun h' => absurd (h'.1.symm.trans h.1) (by decide), if_pos h]
    obtain ⟨y, hy⟩ : ∃ y, y = { setFuses w (fun f => { f with
        retired := 3
        idzero := 3 }) with lcs := .retired } := ⟨_, rfl⟩
    refine ⟨mireEnter y 6 0 0, by rw [hy], ?_, fun h' => absurd (h.1.symm.trans h') (by decide),
      fun h' => absurd (h.1.symm.trans h') (by decide), fun _ => ⟨?_, mireEnter_safety .., ?_, ?_⟩⟩
    · rw [mireEnter_nonce, hy]
      rfl
    · have wm : Within [.regs, .evTick, .events, .cores, .safety, .reeds, .chans, .voters, .vens, .carr] y (mireEnter y 6 0 0) :=
        mireEnter_within (.refl y) ..
      rw [wm.lcs, hy]
    · have wm : Within [.regs, .evTick, .events, .cores, .safety, .reeds, .chans, .voters, .vens, .carr] y (mireEnter y 6 0 0) :=
        mireEnter_within (.refl y) ..
      rw [wm.fuses, hy]
      rfl
    · have wm : Within [.regs, .evTick, .events, .cores, .safety, .reeds, .chans, .voters, .vens, .carr] y (mireEnter y 6 0 0) :=
        mireEnter_within (.refl y) ..
      rw [wm.fuses, hy]
      rfl

end

/-- Settles O54: the checks of a request in the order of their results, then what it asks for. -/
theorem signedRequests : Obligations.SignedRequests := by
  intro s st addr r v since pg commands ends fails inTime signed arg tok revoked open_ listed accepts works answers idle core level lifecycle
    buffer length holds
  obtain ⟨u, moved, mem, runs⟩ := exec_request works answers idle core level lifecycle buffer length holds
  have read : Unaltered s u := .of_moved moved mem
  have done_ : Unaltered s (spent u) := read.of_spent
  have carr : u.carr = s.carr := moved.within.carr
  have ticks : u.ticks = s.ticks := moved.within.ticks
  have fuses : (spent u).fusesRead = s.fusesRead := done_.within.fusesRead
  have three : ∀ c ∈ commands, c.2 = 4 ∨ c.2 = 6 ∨ c.2 = 7 := by
    simp only [commands, List.forall_mem_cons, List.not_mem_nil, false_imp_iff, implies_true, and_true]
    decide
  have carries (fresh : inTime) : checkNonce r u = .ok () (spent u) :=
    checkNonce_inTime (carr ▸ fresh.1) fresh.2.1 (ticks ▸ fresh.2.2)
  have checks (op : Nat) (fresh : inTime) := checkRequest_checks (op := op) (carries fresh) (fun _ => requestRest op r)
  have unsigned {c : Instr × Nat} (hc : c ∈ commands) (fresh : inTime) (formed : reqFormed s c.2 r = true) (no : ¬ signed c.2) :
      ∃ t, exec c.1 s = .next t ∧ t.carr.nonce = none ∧ (reqSlotOk s.fusesRead c.2 r = false → CarrEnded s t c.2 7 ∧ fails t 7) ∧
        (reqSlotOk s.fusesRead c.2 r = true → CarrEnded s t c.2 8 ∧ fails t 8) := by
    have run := runs c hc
    rw [checks c.2 fresh, done_.formed, if_neg (by rw [formed]; decide), fuses] at run
    by_cases slot : reqSlotOk s.fusesRead c.2 r = false
    · rw [if_pos slot] at run
      exact ⟨_, run, (carrEnded_carr s (spent u) c.2 7).1, fun _ => ⟨carrEnded_ended .., done_.fails _ 7 (by decide)⟩,
        fun h => absurd (slot.symm.trans h) (by decide)⟩
    · have bad : ecdsaVerify (reqOcts r 0x60 97) (sha384 (r.take 0xD0)) (reqOcts r 0xD0 96) = false :=
        Bool.eq_false_iff.2 fun good => no ⟨Bool.eq_true_of_not_eq_false slot, good⟩
      rw [if_neg slot, if_pos bad] at run
      exact ⟨_, run, (carrEnded_carr s (spent u) c.2 8).1, fun h => absurd h slot, fun _ => ⟨carrEnded_ended .., done_.fails _ 8 (by decide)⟩⟩
  have signedRun {c : Instr × Nat} (hc : c ∈ commands) (fresh : inTime) (formed : reqFormed s c.2 r = true) (yes : signed c.2) :
      exec c.1 s = .next (carrResult s c.2 (requestRest c.2 r (spent u))) := by
    have run := runs c hc
    rw [checks c.2 fresh, done_.formed, if_neg (by rw [formed]; decide), fuses, if_neg (by rw [yes.1]; decide),
      if_neg (by rw [yes.2]; decide)] at run
    exact run
  have accepted (b : Nat) : bit (rget (spent u) (carrPg 0) 3) b = true ↔ accepts b := by
    rw [done_.rget]
  refine ⟨fun c hc other => ?_, fun c hc nonce same late => ?_, fun c hc fresh bad => ?_, fun c hc fresh formed no => unsigned hc fresh formed no,
    fun fresh formed => ?_, fun fresh formed => ?_, fun fresh formed => ?_⟩
  · have run := runs c hc
    rw [checkRequest_nonce (checkNonce_stranger (carr ▸ other))] at run
    exact ⟨_, run, carrEnded_ended .., read.fails _ 5 (by decide), (carrEnded_carr s u c.2 5).1.trans (congrArg Carr.nonce carr)⟩
  · have run := runs c hc
    rw [checkRequest_nonce (checkNonce_late (carr ▸ nonce) same (ticks ▸ late))] at run
    exact ⟨_, run, carrEnded_ended .., done_.fails _ 5 (by decide), (carrEnded_carr s (spent u) c.2 5).1⟩
  · have run := runs c hc
    rw [checks c.2 fresh, done_.formed, if_pos bad] at run
    exact ⟨_, run, carrEnded_ended .., done_.fails _ 6 (by decide), (carrEnded_carr s (spent u) c.2 6).1⟩
  · have mem4 : ((.dbgresp st addr, 4) : Instr × Nat) ∈ commands := .head _
    by_cases yes : signed 4
    · have run := signedRun mem4 fresh formed yes
      rw [requestRest_dbgresp] at run
      by_cases on : accepts 2
      · rw [if_pos ((accepted 2).2 on), done_.tokenOf] at run
        by_cases mire : s.safety = .mire
        · have lcs : (spent u).lcs ≠ .blank := by
            rw [done_.within.lcs]
            rcases lifecycle with (e | e) | e <;> rw [e] <;> decide
          rw [grantToken_mire (done_.within.safety.trans mire) lcs] at run
          have w : Within [.carr, .regs, .evTick, .events] (spent u) (carrEnded s (spent u) 4 0) := carrEnded_within (.refl _) ..
          have kept := carrEnded_carr s (spent u) 4 0
          exact ⟨_, run, kept.1, fun _ _ _ => ⟨carrEnded_ended .., kept.2.trans done_.token, w.safety.trans (done_.within.safety.trans mire)⟩,
            fun _ _ out => absurd mire out, fun _ off => absurd on off⟩
        · obtain ⟨token, memory, regs, stops, runsOn⟩ := grantToken_takes (w := spent u) (by rw [done_.within.safety]; exact mire) (tokenOf s r)
          obtain ⟨y, hy⟩ : ∃ y, y = grantToken (spent u) (tokenOf s r) := ⟨_, rfl⟩
          rw [← hy] at token memory regs stops runsOn run
          rw [done_.within.safety] at stops runsOn
          rw [show (spent u).vens = s.vens from done_.within.vens] at runsOn
          have quiet := carrEnded_quiet s y 4 (r := 0) (by decide)
          have kept := carrEnded_carr s y 4 0
          refine ⟨_, run, kept.1.trans (congrArg Carr.nonce token), fun _ _ h => absurd h mire, fun _ _ _ => ⟨carrEnded_ended ..,
            kept.2.trans (congrArg Carr.token token), rfl, rfl, ?_, ?_, fun full run_ => ?_, fun small => ?_⟩, fun _ off => absurd on off⟩
          · show (carrEnded s y 4 0).mem = s.mem
            rw [quiet]
            exact memory.trans done_.mem
          · show (carrEnded s y 4 0).regs = s.regs
            rw [quiet]
            exact regs.trans done_.regs
          · show (carrEnded s y 4 0).safety = .proof ∧ (ven (carrEnded s y 4 0) 0).running = false ∧ (ven (carrEnded s y 4 0) 1).running = false
            rw [quiet]
            exact stops full run_
          · show (carrEnded s y 4 0).safety = s.safety ∧ (carrEnded s y 4 0).vens = s.vens
            rw [quiet]
            exact runsOn small
      · rw [if_neg fun h => on ((accepted 2).1 h)] at run
        have kept := carrEnded_carr s (spent u) 4 11
        exact ⟨_, run, kept.1, fun _ h => absurd h on, fun _ h => absurd h on, fun _ _ => ⟨carrEnded_ended .., kept.2.trans done_.token⟩⟩
    · obtain ⟨t, run, nonce, -⟩ := unsigned mem4 fresh formed yes
      exact ⟨t, run, nonce, fun h => absurd h yes, fun h => absurd h yes, fun h => absurd h yes⟩
  · have mem6 : ((.lctrans st addr, 6) : Instr × Nat) ∈ commands := .tail _ (.head _)
    by_cases yes : signed 6
    · have run := signedRun mem6 fresh formed yes
      have lcs : (spent u).lcs = s.lcs := done_.within.lcs
      by_cases given : listed
      · obtain ⟨x, transition, nonce, field_, service, retired⟩ := lcTransition_listed (w := spent u) (arg := arg) (by rw [lcs]; exact given)
        rw [requestRest_lctrans transition] at run
        by_cases on : accepts 3
        · rw [if_pos ((accepted 3).2 on)] at run
          have quiet := carrEnded_quiet s x 6 (r := 0) (by decide)
          have kept := carrEnded_carr s x 6 0
          refine ⟨_, run, kept.1.trans nonce, fun _ no => absurd given no, fun _ _ off => absurd on off, fun _ _ _ => ⟨carrEnded_ended ..,
            fun e => ?_, fun e => ?_, fun e => ?_⟩⟩
          · show (carrEnded s x 6 0).fuses.fieldF = 3 ∧ (carrEnded s x 6 0).boot.pend = 2 ∧ (carrEnded s x 6 0).lcs = s.lcs
            rw [quiet, ← lcs]
            exact field_ e
          · show (carrEnded s x 6 0).heldSvc = true ∧ (carrEnded s x 6 0).boot.pend = 3 ∧ (carrEnded s x 6 0).lcs = s.lcs ∧
              (carrEnded s x 6 0).fuses = s.fuses
            rw [quiet, ← lcs, ← show (spent u).fuses = s.fuses from done_.within.fuses]
            exact service e
          · show (carrEnded s x 6 0).lcs = .retired ∧ (carrEnded s x 6 0).safety = .mire ∧ (carrEnded s x 6 0).fuses.retired = 3 ∧
              (carrEnded s x 6 0).fuses.idzero = 3
            rw [quiet]
            exact retired e
        · rw [if_neg fun h => on ((accepted 3).1 h)] at run
          have w : Within [.carr, .regs, .evTick, .events] (spent u) (carrEnded s (spent u) 6 11) := carrEnded_within (.refl _) ..
          exact ⟨_, run, (carrEnded_carr s (spent u) 6 11).1, fun _ no => absurd given no, fun _ _ _ => ⟨carrEnded_ended ..,
            w.fuses.trans done_.within.fuses, w.lcs.trans lcs, w.heldSvc.trans done_.within.heldSvc⟩, fun _ _ h => absurd h on⟩
      · rw [requestRest_unlisted (lcTransition_unlisted (by rw [lcs]; exact given))] at run
        exact ⟨_, run, (carrEnded_carr s (spent u) 6 10).1, fun _ _ => ⟨carrEnded_ended .., done_.fails _ 10 (by decide)⟩, fun _ h => absurd h given,
          fun _ h => absurd h given⟩
    · obtain ⟨t, run, nonce, -⟩ := unsigned mem6 fresh formed yes
      exact ⟨t, run, nonce, fun h => absurd h yes, fun h => absurd h yes, fun h => absurd h yes⟩
  · have mem7 : ((.revoke st addr, 7) : Instr × Nat) ∈ commands := .tail _ (.tail _ (.head _))
    by_cases yes : signed 7
    · have run := signedRun mem7 fresh formed yes
      have slots : revokedFuses (spent u) r = revoked := by
        unfold revokedFuses
        rw [done_.within.fuses]
      rw [requestRest_revoke, slots] at run
      by_cases last : revoked.validMask = 0
      · rw [if_pos last] at run
        exact ⟨_, run, (carrEnded_carr s (spent u) 7 9).1, fun _ _ => ⟨carrEnded_ended .., done_.fails _ 9 (by decide)⟩, fun _ h => absurd last h,
          fun _ h => absurd last h⟩
      · rw [if_neg last] at run
        by_cases on : accepts 4
        · rw [if_pos ((accepted 4).2 on)] at run
          have kept := carrEnded_carr s { spent u with fuses := revoked } 7 0
          refine ⟨_, run, kept.1, fun _ h => absurd h last, fun _ _ _ => ⟨carrEnded_ended .., ?_⟩, fun _ _ off => absurd on off⟩
          show (carrEnded s { spent u with fuses := revoked } 7 0).fuses = revoked ∧
            (carrEnded s { spent u with fuses := revoked } 7 0).fusesRead = s.fusesRead ∧
            (carrEnded s { spent u with fuses := revoked } 7 0).regs = s.regs
          rw [carrEnded_quiet s { spent u with fuses := revoked } 7 (r := 0) (by decide)]
          exact ⟨rfl, fuses, done_.regs⟩
        · rw [if_neg fun h => on ((accepted 4).1 h)] at run
          have w : Within [.carr, .regs, .evTick, .events] (spent u) (carrEnded s (spent u) 7 11) := carrEnded_within (.refl _) ..
          exact ⟨_, run, (carrEnded_carr s (spent u) 7 11).1, fun _ h => absurd h last, fun _ _ h => absurd h on,
            fun _ _ _ => ⟨carrEnded_ended .., w.fuses.trans done_.within.fuses⟩⟩
    · obtain ⟨t, run, nonce, -⟩ := unsigned mem7 fresh formed yes
      exact ⟨t, run, nonce, fun h => absurd h yes, fun h => absurd h yes, fun h => absurd h yes⟩

end Sys2Proof.Machine

namespace Sys2Proof.Machine
open Sys2Proof
set_option Elab.async false

/-! ## The integer square root (R473) -/

theorem isqrtAux_root {n : Nat} : ∀ (f r : Nat), r * r ≤ n → n < (r + 2 ^ f) * (r + 2 ^ f) →
    isqrtAux n f r * isqrtAux n f r ≤ n ∧ n < (isqrtAux n f r + 1) * (isqrtAux n f r + 1)
  | 0, r, low, high => ⟨low, high⟩
  | f + 1, r, low, high => by
    unfold isqrtAux
    split
    next fits => exact isqrtAux_root f _ fits (by rw [show r + 2 ^ f + 2 ^ f = r + 2 ^ (f + 1) by omega]; exact high)
    next big => exact isqrtAux_root f r low (Nat.lt_of_not_le big)

/-- The root of a number below 2^128 is the one whose square is nearest below it. -/
theorem isqrt_eq {n a : Nat} (small : a < 65536) (low : a * a ≤ n) (high : n < (a + 1) * (a + 1)) : isqrt n = a := by
  have bound : (a + 1) * (a + 1) ≤ 65536 * 65536 := Nat.mul_le_mul small small
  have below : n < (0 + 2 ^ 64) * (0 + 2 ^ 64) := by
    have : 65536 * 65536 ≤ (0 + 2 ^ 64) * (0 + 2 ^ 64) := by decide
    omega
  obtain ⟨low', high'⟩ := isqrtAux_root (n := n) 64 0 (Nat.zero_le n) below
  show isqrtAux n 64 0 = a
  have up : isqrtAux n 64 0 < a + 1 := Nat.mul_self_lt_mul_self_iff.1 (Nat.lt_of_le_of_lt low' high)
  have down : a < isqrtAux n 64 0 + 1 := Nat.mul_self_lt_mul_self_iff.1 (Nat.lt_of_le_of_lt low high')
  omega

/-! ## What an entry into the safe state leaves of a channel -/

/-- The figures of a channel that an entry into its safe state leaves. -/
def SameFigures (c d : Chan) : Prop :=
  d.provfail = c.provfail ∧ d.proved = c.proved ∧ d.darkok = c.darkok ∧ (c.disturbed = true → d.disturbed = true)

theorem SameFigures.refl (c : Chan) : SameFigures c c := ⟨rfl, rfl, rfl, id⟩

theorem SameFigures.trans {c d e : Chan} (p : SameFigures c d) (q : SameFigures d e) : SameFigures c e := by
  obtain ⟨p1, p2, p3, p4⟩ := p
  obtain ⟨q1, q2, q3, q4⟩ := q
  exact ⟨q1.trans p1, q2.trans p2, q3.trans p3, fun h => q4 (p4 h)⟩

section
variable {s : State} {m : Nat}

theorem setLit_figures (s : State) (m : Nat) (lit : Bool) (level : Nat) : SameFigures (chan s m) (chan (setLit s m lit level) m) := by
  unfold setLit
  dsimp only
  split
  · exact .refl _
  · split
    all_goals
      rw [chan_setChan_same]
      exact ⟨rfl, rfl, rfl, id⟩

theorem setGd_figures (s : State) (m : Nat) (v : Bool) : SameFigures (chan s m) (chan (setGd s m v) m) := by
  obtain ⟨e, g, f, own, -⟩ := setGd_chan s m v
  rw [own]
  exact ⟨rfl, rfl, rfl, id⟩

theorem safeOutputs_figures (s : State) (m : Nat) : SameFigures (chan s m) (chan (safeOutputs s m) m) := by
  obtain ⟨s1, h1⟩ : ∃ s1, s1 = if chMode s m = 1 then setLit s m false 65535 else if chMode s m = 4 then setLit s m false (chan s m).level
    else s := ⟨_, rfl⟩
  obtain ⟨s2, h2⟩ : ∃ s2, s2 = setChan s1 m { chan s1 m with
    burstOn := false
    burstArm := []
    offArm := []
    disturbed := (chan s1 m).disturbed || decide (chMode s m = 3) } := ⟨_, rfl⟩
  have dark : SameFigures (chan s m) (chan s1 m) := by
    rw [h1]
    split
    · exact setLit_figures ..
    · split
      · exact setLit_figures ..
      · exact .refl _
  have quiet : SameFigures (chan s1 m) (chan s2 m) := by
    rw [h2, chan_setChan_same]
    exact ⟨rfl, rfl, rfl, fun h => by rw [h]; rfl⟩
  have ends : safeOutputs s m = if chMode s m = 3 ∧ s.safety ≠ .mire then s2 else setGd s2 m false := by
    rw [h2, h1]
    rfl
  rw [ends]
  split
  · exact dark.trans quiet
  · exact (dark.trans quiet).trans (setGd_figures ..)

theorem safeEnter_figures (s : State) (m cause key lanes : Nat) : SameFigures (chan s m) (chan (safeEnter s m cause key lanes) m) := by
  by_cases out : (chan s m).safe = false
  · obtain ⟨s1, h1⟩ : ∃ s1, s1 = setChan s m { chan s m with
      safe := true
      cause := cause } := ⟨_, rfl⟩
    obtain ⟨v, hv⟩ : ∃ v : Voter, v = { voter s1 (m / 24) with
      safeInfo := kset (fun _ => 0) (voter s1 (m / 24)).safeInfo (m % 24) (fval 30 19 key ||| fval 18 16 lanes) } := ⟨_, rfl⟩
    obtain ⟨s2, h2⟩ : ∃ s2, s2 = retireWhere (clearVoter (setVoter s1 (m / 24) v) m) (m / 96)
      (fun e => decide (e.chan = m % 96) && isOutput e.action) := ⟨_, rfl⟩
    have w2 : Within [.voters, .regs, .evTick, .events, .reeds] s1 s2 := h2 ▸ retireWhere_within (clearVoter_within (setVoter_within (.refl s1) ..) ..) ..
    have entered : SameFigures (chan s m) (chan s2 m) := by
      rw [w2.chan, h1, chan_setChan_same]
      exact ⟨rfl, rfl, rfl, id⟩
    have ends : silenced s m cause (fval 30 19 key ||| fval 18 16 lanes) = safeOutputs s2 m := by
      rw [h2, hv, h1]
      rfl
    rw [safeEnter_eq cause key lanes out, ends]
    dsimp only
    have w (u : State) (p c i q b : Nat) : Within [.regs, .evTick, .events] u (irqPend (capture u p c i) q b) :=
      irqPend_within (capture_within (.refl u) ..) ..
    have outputs := entered.trans (safeOutputs_figures s2 m)
    split
    · rw [(irqPend_within (F := [.regs, .evTick, .events]) (w ..) _ _).chan]
      exact outputs
    · rw [(w ..).chan]
      exact outputs
  · rw [safeEnter_again cause key lanes (Bool.eq_true_of_not_eq_false out)]
    exact .refl _

/-- A cause of supervision shows at the CBK page (R516). -/
theorem safeEnter_prove {cause key lanes : Nat} (supervised : cause = 10 ∨ cause = 11) (out : (chan s m).safe = false) :
    bit (rget (safeEnter s m cause key lanes) (cbkPg (m / 24)) 9) 2 = true := by
  rw [safeEnter_eq cause key lanes out]
  dsimp only
  rw [if_pos supervised]
  exact irqPend_pends _ _ (by decide)

/-- A channel made safe from a state that differs in its own record and in the interrupts of its CBK page. -/
theorem MadeSafe.judged {s1 t : State} {cause : Nat} (w : Within [.chans, .regs, .evTick, .events] s s1)
    (kept : RegsKept s s1 (fun p off => p = cbkPg (m / 24) ∧ off = 9)) (others : ChansKept s s1 m) (made : MadeSafe s1 t m cause) :
    MadeSafe s t m cause := by
  obtain ⟨safe, outputs, dark, events, eventsKept, votes, ⟨captured, pends⟩, chans, regs, mem, cores, safety, refs⟩ := made
  have mode : chMode s1 m = chMode s m := by
    unfold chMode chcfg chanReg
    rw [kept _ _ (by unfold chanOff; omega)]
    rintro ⟨same, -⟩
    unfold chanPg cbkPg regionPg pageNo at same
    omega
  rw [mode] at outputs dark
  rw [w.reed] at events eventsKept
  have page (off : Nat) (h : off < 512) : rget s1 (sluicePg (m / 24)) off = rget s (sluicePg (m / 24)) off :=
    kept _ _ h fun e => by
      have same := e.1
      unfold sluicePg cbkPg regionPg pageNo at same
      omega
  exact ⟨safe, outputs, dark, events, eventsKept, votes, ⟨captured.of_before (page 6 (by decide)) (page 7 (by decide)), pends⟩,
    fun k h => (chans k h).trans (others k h), RegsKept.trans (kept.mono fun p off h => .inr (.inr h)) regs,
    mem.trans w.mem, cores.trans w.cores, safety.trans w.safety, refs.trans w.refs⟩

/-- An interrupt of the CBK page leaves a channel made safe. -/
theorem MadeSafe.shown {t : State} {cause : Nat} (made : MadeSafe s t m cause) : MadeSafe s (irqPend t (cbkPg (m / 24)) 2) m cause := by
  obtain ⟨safe, outputs, dark, events, eventsKept, votes, ⟨captured, pends⟩, others, regs, mem, cores, safety, refs⟩ := made
  have w : Within [.regs, .evTick, .events] t (irqPend t (cbkPg (m / 24)) 2) := irqPend_within (.refl t) ..
  refine ⟨?_, ?_, ?_, ?_, ?_, ?_, ⟨captured.irqPend _ _, bit_irqPend_kept _ _ _ pends⟩, fun k h => (w.chan k).trans (others k h),
    RegsKept.trans regs (.irqPend _ _ (.inr (.inr ⟨rfl, rfl⟩))), w.mem.trans mem, w.cores.trans cores, w.safety.trans safety, w.refs.trans refs⟩
  · rwa [w.chan]
  · rwa [w.chan]
  · rwa [w.chan]
  · rwa [w.reed]
  · rwa [w.reed]
  · rwa [w.voter]

/-- What follows in the record of a channel made safe, but for its safe state and its outputs, leaves it made safe. -/
theorem MadeSafe.figures {t : State} {cause : Nat} {z : Chan} (made : MadeSafe s t m cause) (safe : z.safe = (chan t m).safe)
    (cause_ : z.cause = (chan t m).cause) (gd : z.gd = (chan t m).gd) (lit : z.lit = (chan t m).lit)
    (burst : z.burstOn = (chan t m).burstOn ∧ z.burstArm = (chan t m).burstArm) : MadeSafe s (setChan t m z) m cause := by
  obtain ⟨safe', outputs, dark, events, eventsKept, votes, ⟨captured, pends⟩, others, regs, rest⟩ := made
  have own : chan (setChan t m z) m = z := chan_setChan_same ..
  refine ⟨?_, ?_, ?_, events, eventsKept, votes, ⟨captured.after rfl rfl id, pends⟩, fun k h => (chan_setChan_other _ h).trans (others k h),
    RegsKept.trans regs (.of_regs rfl _), rest⟩
  · rw [own, safe, cause_]
    exact safe'
  · rw [own, gd, burst.1, burst.2]
    exact outputs
  · rw [own, lit]
    exact dark

end

/-! ## The cycles of a channel, and what supervises it -/

section
variable {s : State} {ch : BitVec 10} {m : Nat}

theorem chanDo_works (inside : m < chanCount s) (works : blockWorks s (m / 24) = true) (f : State → State) : chanDo s m f = f s :=
  if_pos ⟨inside, works⟩

/-- The record of a channel whose cycle begins. -/
def Chan.begins (c : Chan) (now : Nat) : Chan := { c with
  cycAt := some now
  sumA := 0
  sumB := 0
  nSamp := 0
  encyc := 0 }

/-- A cycle of the channel's reference ends, and the next one begins. -/
theorem exec_provingCycleEnd (inside : ch.toNat < chanCount s) (works : blockWorks s (ch.toNat / 24) = true)
    (runs : (ref s (chRef s ch.toNat)).st = .locked ∨ (ref s (chRef s ch.toNat)).st = .holdover)
    (new : (chan s ch.toNat).cycAt ≠ some ((refNow s (chRef s ch.toNat)).toNat / 2 ^ 24)) :
    let s1 := if (chan s ch.toNat).cycAt.isSome then cycleEnd s ch.toNat else s
    exec (.provingCycleEnd ch) s = .next (setChan s1 ch.toNat
      ((chan s1 ch.toNat).begins ((refNow s (chRef s ch.toNat)).toNat / 2 ^ 24))) := by
  intro s1
  show done (chanDo s ch.toNat _) = _
  rw [chanDo_works inside works, if_pos ⟨runs, new⟩]
  rfl

/-- The state in which ball FB has been seen at a level. -/
def ballSeen (s : State) (m : Nat) (fb : Bool) (since : Nat) : State := setChan s m { chan s m with
  fb := fb
  fbSince := since }

/-- Ball FB has had a level for a time (R469). -/
theorem exec_feedbackTimeout (inside : ch.toNat < chanCount s) (works : blockWorks s (ch.toNat / 24) = true) (fb : Bool) (age : BitVec 32) :
    let since := max (chan s ch.toNat).fbSince (s.ticks - age.toNat)
    exec (.feedbackTimeout ⟨ch, fb, age⟩) s = .next (
      if bit (chcfg s ch.toNat) 26 = true ∧ (fb != bit (chcfg s ch.toNat) 27) ≠ gdBall s ch.toNat ∧
        max 1 (fld (chcfg s ch.toNat) 25 18) * 300 < s.ticks - since
      then irqPend (safeEnter (ballSeen s ch.toNat fb since) ch.toNat 10 0 0) (cbkPg (ch.toNat / 24)) 2
      else ballSeen s ch.toNat fb since) := by
  intro since
  obtain ⟨u, hu⟩ : ∃ u, u = ballSeen s ch.toNat fb since := ⟨_, rfl⟩
  have own : chan u ch.toNat = { chan s ch.toNat with
    fb := fb
    fbSince := since } := by
    rw [hu]
    exact chan_setChan_same ..
  have cfg : chcfg u ch.toNat = chcfg s ch.toNat := by
    rw [hu]
    rfl
  have does : exec (.feedbackTimeout ⟨ch, fb, age⟩) s = .next (
      if (bit (chcfg s ch.toNat) 26 && (conducts u ch.toNat != gdBall s ch.toNat) &&
        decide (max 1 (fld (chcfg s ch.toNat) 25 18) * ticksPerUs < s.ticks - (chan u ch.toNat).fbSince)) = true
      then irqPend (safeEnter u ch.toNat 10 0 0) (cbkPg (ch.toNat / 24)) 2 else u) := by
    rw [hu]
    exact congrArg done (chanDo_works inside works _)
  rw [does, ← hu]
  unfold conducts
  rw [own, cfg]
  dsimp only
  simp only [Bool.and_eq_true, bne_iff_ne, decide_eq_true_eq, and_assoc]
  rfl

/-- A condition that has lasted longer than a limit. -/
def tooLong (limit now : Nat) (t : Option Nat) : Bool := match t with | some t => decide (limit < now - t) | none => false

/-- Whether a condition of an Axle channel has lasted too long (R482). -/
def supLate (c : Chan) (limit now : Nat) : Bool :=
  tooLong limit now c.supA || tooLong limit now c.supB || tooLong limit now c.supC || tooLong limit now c.dampA || tooLong limit now c.dampB

theorem exec_axleSupervisionTimeout (inside : ch.toNat < chanCount s) (works : blockWorks s (ch.toNat / 24) = true) :
    exec (.axleSupervisionTimeout ch) s = .next (
      if chMode s ch.toNat = 3 ∧ supLate (chan s ch.toNat) (fld (chanReg s ch.toNat 7) 35 18 * 300) s.ticks = true
      then safeEnter (setChan s ch.toNat { chan s ch.toNat with disturbed := true }) ch.toNat 12 0 0 else s) :=
  congrArg done (chanDo_works inside works _)

/-- The cycle of a change is not judged (R473). -/
theorem judgeLamp_changed (changed : (chan s m).changed = true) : ∃ w, judgeLamp s m = setChan s m { chan s m with
    rms := w
    changed := false
    skip := 1 } :=
  ⟨_, if_pos changed⟩

/-- The cycle after a change is not judged (R473). -/
theorem judgeLamp_skipped (still : (chan s m).changed = false) (next : (chan s m).skip ≠ 0) : ∃ w, judgeLamp s m = setChan s m { chan s m with
    rms := w
    skip := 0 } :=
  ⟨_, (if_neg (by rw [still]; decide)).trans (if_pos next)⟩

/-- The judgement of a cycle with samples, by the roots of their mean squares (R473). -/
theorem judgeLamp_judges {a b : Nat} (still : (chan s m).changed = false) (next : (chan s m).skip = 0) (some_ : (chan s m).nSamp ≠ 0)
    (rootA : isqrt ((chan s m).sumA / (chan s m).nSamp) = a) (rootB : isqrt ((chan s m).sumB / (chan s m).nSamp) = b) :
    judgeLamp s m =
      if (chan s m).lit = true ∧ fld (chanReg s m 4) 35 18 ≤ a ∧ a ≤ fld (chanReg s m 4) 17 0 then
        setChan s m { chan s m with
          rms := fval 35 18 a ||| fval 17 0 b
          proved := true
          darkok := false }
      else if (chan s m).lit = false ∧ a ≤ fld (chanReg s m 5) 35 18 then
        setChan s m { chan s m with
          rms := fval 35 18 a ||| fval 17 0 b
          darkok := true
          proved := false }
      else
        let s1 := irqPend (setChan s m { chan s m with
          rms := fval 35 18 a ||| fval 17 0 b
          proved := false
          darkok := false
          provfail := ((chan s m).provfail + 1) % 2 ^ 36 }) (cbkPg (m / 24)) 2
        if bit (chcfg s m) 17 then safeEnter s1 m 11 0 0 else s1 := by
  unfold judgeLamp
  dsimp only
  rw [rootA, rootB, if_neg some_, if_neg some_, if_neg (by rw [still]; decide), if_neg (by rw [next]; decide)]

/-- The state with an outcome of proving that counts. -/
def proveFailed (s : State) (m : Nat) (rms : Word) : State :=
  irqPend (setChan s m { chan s m with
    rms := rms
    proved := false
    darkok := false
    provfail := ((chan s m).provfail + 1) % 2 ^ 36 }) (cbkPg (m / 24)) 2

/-- What an outcome of proving that counts shows. -/
theorem proveFailed_shows (s : State) (m : Nat) (rms : Word) :
    let t := proveFailed s m rms
    chan t m = { chan s m with
      rms := rms
      proved := false
      darkok := false
      provfail := ((chan s m).provfail + 1) % 2 ^ 36 } ∧ ChansKept s t m ∧ bit (rget t (cbkPg (m / 24)) 9) 2 = true ∧
      Within [.chans, .regs, .evTick, .events] s t ∧ RegsKept s t (fun p off => p = cbkPg (m / 24) ∧ off = 9) := by
  obtain ⟨u, hu⟩ : ∃ u, u = setChan s m { chan s m with
    rms := rms
    proved := false
    darkok := false
    provfail := ((chan s m).provfail + 1) % 2 ^ 36 } := ⟨_, rfl⟩
  have w : Within [.regs, .evTick, .events] u (irqPend u (cbkPg (m / 24)) 2) := irqPend_within (.refl u) ..
  have wu : Within [.chans, .regs, .evTick, .events] s u := hu ▸ setChan_within (.refl s) ..
  have is : proveFailed s m rms = irqPend u (cbkPg (m / 24)) 2 := hu ▸ rfl
  dsimp only
  rw [is]
  refine ⟨by rw [w.chan, hu, chan_setChan_same], fun k h => by rw [w.chan, hu, chan_setChan_other _ h], irqPend_pends _ _ (by decide),
    wu.trans (w.mono (by decide)), RegsKept.trans (.of_regs (hu ▸ rfl) _) (.irqPend _ _ ⟨rfl, rfl⟩)⟩

end

/-- Settles O43: the record of the channel is judged, then begins its next cycle; a fault enters its safe state. -/
theorem channelSupervision : Obligations.ChannelSupervision := by
  intro s ch x a b fb age m y i now inLit inDark begun limit since differs inside works
  refine ⟨fun runs was new => ?_, fun same => ?_, fun runs none_ => ?_, fun differ out => ?_, fun differ safe => ?_, fun same => ?_,
    fun u axle out cond late => ?_, fun a0 b0 c0 d0 e0 => ?_⟩
  · intro ends
    have shows (P : State → Chan → Prop) : (∃ t, exec (.provingCycleEnd ch) s = .next t ∧ ChansKept s t m ∧ begun (chan t m) ∧ P t (chan t m)) →
        ends P := id
    clear_value ends
    have step := exec_provingCycleEnd inside works runs (ch := ch) (by rw [show (chan s ch.toNat).cycAt = some x from was]; exact fun h => new (Option.some.inj h))
    dsimp only at step
    rw [if_pos (by rw [show (chan s ch.toNat).cycAt = some x from was]; rfl)] at step
    have finish {s1 : State} {P : State → Chan → Prop} (ended : cycleEnd s m = s1) (others : ChansKept s s1 m)
        (holds : P (setChan s1 m ((chan s1 m).begins now)) ((chan s1 m).begins now)) : ends P := by
      rw [show cycleEnd s ch.toNat = s1 from ended] at step
      have own : chan (setChan s1 m ((chan s1 m).begins now)) m = (chan s1 m).begins now := chan_setChan_same ..
      refine shows P ⟨_, step, fun k h => (chan_setChan_other _ h).trans (others k h), ?_, ?_⟩
      · show begun (chan (setChan s1 m ((chan s1 m).begins now)) m)
        rw [own]
        exact ⟨rfl, rfl, rfl, rfl, rfl⟩
      · show P _ (chan (setChan s1 m ((chan s1 m).begins now)) m)
        rw [own]
        exact holds
    have plain {z : Chan} {P : State → Chan → Prop} (ended : cycleEnd s m = setChan s m z) (holds : ∀ t : State, t.regs = s.regs → P t (z.begins now)) :
        ends P := by
      refine finish ended (fun k h => chan_setChan_other _ h) ?_
      rw [chan_setChan_same]
      exact holds _ rfl
    have lamp (mode : chMode s m = 1) : cycleEnd s m = judgeLamp s m := if_pos mode
    refine ⟨fun mode changed => ?_, fun mode still next => ?_, fun mode still next samples smallA smallB lowA highA lowB highB => ?_, fun mode => ?_⟩
    · obtain ⟨w, judged⟩ := judgeLamp_changed changed
      exact plain ((lamp mode).trans judged) fun t regs => ⟨rfl, rfl, rfl, rfl, regs⟩
    · obtain ⟨w, judged⟩ := judgeLamp_skipped still next
      exact plain ((lamp mode).trans judged) fun t regs => ⟨rfl, rfl, rfl, regs⟩
    · have judged := (lamp mode).trans (judgeLamp_judges still next samples (isqrt_eq smallA lowA highA) (isqrt_eq smallB lowB highB))
      refine ⟨fun lit bounds => ?_, fun dark bounds => ?_, fun notLit notDark => ?_⟩
      · exact plain (judged.trans (if_pos ⟨lit, bounds⟩)) fun t regs => ⟨rfl, rfl, rfl, rfl, regs⟩
      · exact plain (judged.trans ((if_neg fun h => by rw [show (chan s m).lit = false from dark] at h; exact absurd h.1 (by decide)).trans
          (if_pos ⟨dark, bounds⟩))) fun t regs => ⟨rfl, rfl, rfl, rfl, regs⟩
      · replace judged := judged.trans ((if_neg notLit).trans (if_neg notDark))
        obtain ⟨own, others, shown, w, kept⟩ := proveFailed_shows s m (fval 35 18 a ||| fval 17 0 b)
        obtain ⟨u, hu⟩ : ∃ u, u = proveFailed s m (fval 35 18 a ||| fval 17 0 b) := ⟨_, rfl⟩
        replace judged : cycleEnd s m = if bit (chcfg s m) 17 then safeEnter u m 11 0 0 else u := judged.trans (by rw [hu]; rfl)
        rw [← hu] at own others shown w kept
        by_cases trips : bit (chcfg s m) 17 = true ∧ y.safe = false
        · obtain ⟨reacts, out⟩ := trips
          rw [if_pos reacts] at judged
          have out' : (chan u m).safe = false := by rw [own]; exact out
          have made := (safeEnter_safe (s := u) (m := m) 11 0 0 out').1
          have shown' : bit (rget (safeEnter u m 11 0 0) (cbkPg (m / 24)) 9) 2 = true := safeEnter_prove (.inr rfl) out'
          obtain ⟨provfail, proved, darkok, -⟩ := safeEnter_figures u m 11 0 0
          rw [own] at provfail proved darkok
          refine finish judged (fun k h => (made.others k h).trans (others k h)) ⟨proved, darkok, provfail, shown', fun _ _ => ?_,
            fun no => absurd (no.symm.trans reacts) (by decide)⟩
          exact (MadeSafe.judged w kept others made).figures rfl rfl rfl rfl ⟨rfl, rfl⟩
        · have stays : (if bit (chcfg s m) 17 then safeEnter u m 11 0 0 else u) = u := by
            split
            next reacts =>
              refine safeEnter_again 11 0 0 ?_
              rw [own]
              exact Bool.eq_true_of_not_eq_false fun out => trips ⟨reacts, out⟩
            · rfl
          rw [stays] at judged
          refine finish judged others ?_
          rw [own]
          exact ⟨rfl, rfl, rfl, shown, fun out reacts => absurd ⟨reacts, out⟩ trips, fun _ => ⟨rfl, rfl⟩⟩
    · exact plain ((if_neg (by rw [mode]; decide)).trans (if_pos mode)) fun t regs => ⟨rfl, rfl, rfl, regs⟩
  · have run : exec (.provingCycleEnd ch) s = .next s := by
      show done (chanDo s ch.toNat _) = _
      rw [chanDo_works inside works, if_neg fun h => h.2 same]
      rfl
    exact ⟨s, run, rfl⟩
  · have step := exec_provingCycleEnd inside works runs (ch := ch) (by rw [show (chan s ch.toNat).cycAt = none from none_]; exact Option.some_ne_none _ ∘ Eq.symm)
    dsimp only at step
    rw [if_neg (by rw [show (chan s ch.toNat).cycAt = none from none_]; decide)] at step
    have own : chan (setChan s m ((chan s m).begins now)) m = (chan s m).begins now := chan_setChan_same ..
    refine ⟨_, step, ?_, ?_, ?_, rfl⟩
    · show begun (chan (setChan s m ((chan s m).begins now)) m)
      rw [own]
      exact ⟨rfl, rfl, rfl, rfl, rfl⟩
    · show (chan (setChan s m ((chan s m).begins now)) m).proved = (chan s m).proved
      rw [own]
      rfl
    · show (chan (setChan s m ((chan s m).begins now)) m).skip = (chan s m).skip
      rw [own]
      rfl
  · have w : Within [.chans] s (ballSeen s m fb since) := setChan_within (.refl s) ..
    have out' : (chan (ballSeen s m fb since) m).safe = false := (congrArg Chan.safe (chan_setChan_same ..)).trans out
    have made := (safeEnter_safe (s := ballSeen s m fb since) (m := m) 10 0 0 out').1
    have step := (exec_feedbackTimeout inside works fb age).trans (congrArg _ (if_pos differ))
    refine ⟨_, step, MadeSafe.shown (made.judged (w.mono (by decide)) (.of_within w _) fun k h => chan_setChan_other _ h), irqPend_pends _ _ (by decide)⟩
  · have step := (exec_feedbackTimeout inside works fb age).trans (congrArg _ (if_pos differ))
    rw [safeEnter_again 10 0 0 (show (chan (ballSeen s m fb since) m).safe = true from (congrArg Chan.safe (chan_setChan_same ..)).trans safe)] at step
    have w : Within [.regs, .evTick, .events] (ballSeen s m fb since) (irqPend (ballSeen s m fb since) (cbkPg (m / 24)) 2) := irqPend_within (.refl _) ..
    exact ⟨_, step, (w.chan m).trans (chan_setChan_same ..), fun k h => (w.chan k).trans (chan_setChan_other _ h), irqPend_pends _ _ (by decide)⟩
  · have step := (exec_feedbackTimeout inside works fb age).trans (congrArg _ (if_neg same))
    exact ⟨_, step, chan_setChan_same .., fun k h => chan_setChan_other _ h, rfl⟩
  · have late' : supLate (chan s m) limit s.ticks = true := by
      unfold supLate
      have one {t : Option Nat} (e : t = some u) : tooLong limit s.ticks t = true := by
        rw [e]
        exact decide_eq_true late
      rcases cond with e | e | e | e | e
      all_goals
        rw [one e]
        simp
    have step := (exec_axleSupervisionTimeout inside works).trans (congrArg _ (if_pos ⟨axle, late'⟩))
    obtain ⟨v, hv⟩ : ∃ v, v = setChan s m { chan s m with disturbed := true } := ⟨_, rfl⟩
    have w : Within [.chans] s v := hv ▸ setChan_within (.refl s) ..
    have own : chan v m = { chan s m with disturbed := true } := hv ▸ chan_setChan_same ..
    have out' : (chan v m).safe = false := (congrArg Chan.safe own).trans out
    have made := (safeEnter_safe (s := v) (m := m) 12 0 0 out').1
    obtain ⟨-, -, -, disturbed⟩ := safeEnter_figures v m 12 0 0
    rw [show setChan s ch.toNat { chan s ch.toNat with disturbed := true } = v from hv.symm] at step
    exact ⟨_, step, made.judged (w.mono (by decide)) (.of_within w _) fun k h => hv ▸ chan_setChan_other _ h,
      disturbed (congrArg Chan.disturbed own)⟩
  · have none_ : supLate (chan s m) limit s.ticks = false := by
      unfold supLate
      rw [show (chan s m).supA = none from a0, show (chan s m).supB = none from b0, show (chan s m).supC = none from c0,
        show (chan s m).dampA = none from d0, show (chan s m).dampB = none from e0]
      rfl
    exact ⟨s, (exec_axleSupervisionTimeout inside works).trans (congrArg _ (if_neg fun h => by
      rw [show supLate (chan s ch.toNat) (fld (chanReg s ch.toNat 7) 35 18 * 300) s.ticks = false from none_] at h
      exact Bool.false_ne_true h.2)), rfl⟩

end Sys2Proof.Machine

namespace Sys2Proof.Machine
open Sys2Proof
set_option Elab.async false

/-! ## The gate drive of a channel (R444, R470) -/

/-- A record that differs in the gate drive and its times alone. -/
def Redriven (c d : Chan) : Prop := ∃ gd edges gdSince fbSince, d = { c with
  gd := gd
  edges := edges
  gdSince := gdSince
  fbSince := fbSince }

theorem Redriven.refl (c : Chan) : Redriven c c := ⟨_, _, _, _, rfl⟩

theorem Redriven.trans {c d e : Chan} (p : Redriven c d) (q : Redriven d e) : Redriven c e := by
  obtain ⟨g, x, t, f, hq⟩ := q
  obtain ⟨_, _, _, _, hp⟩ := p
  exact ⟨g, x, t, f, by rw [hq, hp]⟩

/-- The last edge of the gate drive lies 100 ns back, and none waits. -/
def Spaced (c : Chan) (now : Nat) : Prop := c.edges = 0 ∧ 30 ≤ now - c.gdSince

/-- The gate drive can go to a level at once. -/
def Settled (c : Chan) (v : Bool) (now : Nat) : Prop := c.edges = 0 ∧ (c.gd = v ∨ 30 ≤ now - c.gdSince)

theorem Spaced.settled {c : Chan} {now : Nat} (h : Spaced c now) (v : Bool) : Settled c v now := ⟨h.1, .inr h.2⟩

/-- With no edge waiting, the gate drive is what it will be. -/
theorem gdNext_of_edges {c : Chan} (h : c.edges = 0) : c.gdNext = c.gd := by
  unfold Chan.gdNext
  rw [h]
  cases c.gd <;> rfl

theorem edgeDelay_of_spaced {c : Chan} {now : Nat} (edges : c.edges = 0) (late : 30 ≤ now - c.gdSince) : c.edgeDelay now = 0 := by
  unfold Chan.edgeDelay
  rw [edges]
  omega

section
variable {s t : State} {m : Nat} {v : Bool}

/-- What asking the gate drive for a level changes. -/
theorem gdTo_chan (s : State) (m : Nat) (v : Bool) :
    Redriven (chan s m) (chan (gdTo s m v) m) ∧ ChansKept s (gdTo s m v) m ∧ Within [.chans] s (gdTo s m v) := by
  have w : Within [.chans] s (gdTo s m v) := gdTo_within (.refl s) ..
  refine ⟨?_, fun k h => ?_, w⟩ <;> unfold gdTo <;> dsimp only
  · split
    · exact .refl _
    · split
      · obtain ⟨e, g, f, own, -⟩ := setGd_chan s m v
        exact ⟨_, _, _, _, own⟩
      · exact ⟨_, _, _, _, chan_setChan_same ..⟩
  · split
    · rfl
    · split
      · obtain ⟨e, g, f, -, kept⟩ := setGd_chan s m v
        exact kept k h
      · exact chan_setChan_other _ h

theorem setGd_edges (s : State) (m : Nat) (v : Bool) : (chan (setGd s m v) m).gd = v ∧ (chan (setGd s m v) m).edges = 0 := by
  unfold setGd
  dsimp only
  split
  next same =>
    rw [chan_setChan_same]
    exact ⟨same, rfl⟩
  · rw [chan_setChan_same]
    exact ⟨rfl, rfl⟩

/-- The gate drive goes to the level once every edge that waits has been placed. -/
theorem gdNext_gdTo (s : State) (m : Nat) (v : Bool) : (chan (gdTo s m v) m).gdNext = v := by
  unfold gdTo
  dsimp only
  split
  next same => exact same.symm
  next differs =>
    split
    · obtain ⟨gd, edges⟩ := setGd_edges s m v
      rw [gdNext_of_edges edges, gd]
    · rw [chan_setChan_same]
      unfold Chan.gdNext at differs ⊢
      dsimp only
      rcases Nat.mod_two_eq_zero_or_one (chan s m).edges with e | e <;> rw [e] at differs
      · rw [show ((chan s m).edges + 1) % 2 = 1 by omega]
        cases v <;> cases h : (chan s m).gd <;> simp_all
      · rw [show ((chan s m).edges + 1) % 2 = 0 by omega]
        cases v <;> cases h : (chan s m).gd <;> simp_all

/-- A gate drive that can go to the level at once does. -/
theorem gdTo_settled (settled : Settled (chan s m) v s.ticks) : (chan (gdTo s m v) m).gd = v ∧ (chan (gdTo s m v) m).edges = 0 := by
  obtain ⟨edges, at_⟩ := settled
  unfold gdTo
  dsimp only
  rw [gdNext_of_edges edges]
  split
  next same => exact ⟨same.symm, edges⟩
  next differs =>
    have late : 30 ≤ s.ticks - (chan s m).gdSince := at_.resolve_left fun same => differs same.symm
    rw [if_pos (edgeDelay_of_spaced edges late)]
    exact setGd_edges s m v

/-- An edge less than 100 ns after the last one waits. -/
theorem gdTo_waits (early : s.ticks - (chan s m).gdSince < 30) (v : Bool) :
    (chan (gdTo s m v) m).gd = (chan s m).gd := by
  unfold gdTo
  dsimp only
  split
  · rfl
  · have waits : (chan s m).edgeDelay s.ticks ≠ 0 := by
      unfold Chan.edgeDelay
      omega
    rw [if_neg waits, chan_setChan_same]

/-- What bringing the gate drive to what the mode asks for changes. -/
theorem applyGd_chan (s : State) (m : Nat) : chan (applyGd s m) = chan (gdTo s m (gdWanted s m)) := by
  unfold applyGd
  dsimp only
  split <;> rfl

theorem applyGd_kept (s : State) (m : Nat) : Redriven (chan s m) (chan (applyGd s m) m) ∧ ChansKept s (applyGd s m) m ∧
    Within [.chans, .fresh] s (applyGd s m) := by
  obtain ⟨own, others, -⟩ := gdTo_chan s m (gdWanted s m)
  refine ⟨?_, fun k h => ?_, applyGd_within (.refl s) ..⟩
  · rw [applyGd_chan]
    exact own
  · rw [applyGd_chan]
    exact others k h

theorem applyGd_settled (settled : Settled (chan s m) (gdWanted s m) s.ticks) :
    (chan (applyGd s m) m).gd = gdWanted s m ∧ (chan (applyGd s m) m).edges = 0 := by
  rw [applyGd_chan]
  exact gdTo_settled settled

/-- No edge of a settled gate drive is late. -/
theorem drive_settled {f : State → State} (d k : Nat) (settled : Settled (chan (f s) m) (gdWanted (f s) m) (f s).ticks) :
    drive s d k m f = applyGd (f s) m := by
  unfold drive
  dsimp only
  split
  next differs =>
    rw [gdNext_of_edges settled.1] at differs
    have late := settled.2.resolve_left fun same => by
      rw [same] at differs
      simp at differs
    unfold lateEdge
    rw [edgeDelay_of_spaced settled.1 late]
    rfl
  · rfl

/-! ### The crossings that a channel waits for (R475) -/

/-- The parts of a channel's record that its gate drive depends on beside a burst. -/
def SameShape (c d : Chan) : Prop := d.safe = c.safe ∧ d.lit = c.lit ∧ d.level = c.level ∧ d.phase = c.phase

theorem SameShape.trans {c d e : Chan} (p : SameShape c d) (q : SameShape d e) : SameShape c e := by
  obtain ⟨p1, p2, p3, p4⟩ := p
  obtain ⟨q1, q2, q3, q4⟩ := q
  exact ⟨q1.trans p1, q2.trans p2, q3.trans p3, q4.trans p4⟩

theorem Redriven.shape {c d : Chan} (h : Redriven c d) : SameShape c d := by
  obtain ⟨g, e, t, f, rfl⟩ := h
  exact ⟨rfl, rfl, rfl, rfl⟩

/-- The state t, in which a channel's bursts and its gate drive have moved, and nothing else. -/
structure Moving (s t : State) (m : Nat) (v : Bool) : Prop where
  within : Within [.chans, .fresh] s t
  others : ChansKept s t m
  shape : SameShape (chan s m) (chan t m)
  settled : Settled (chan t m) v s.ticks

theorem Moving.applyGd (h : Moving s t m v) (wanted : gdWanted t m = v) :
    Moving s (applyGd t m) m v ∧ (chan (applyGd t m) m).gd = v := by
  obtain ⟨w, others, shape, settled⟩ := h
  obtain ⟨own, kept, wa⟩ := applyGd_kept t m
  have ticks : t.ticks = s.ticks := w.ticks
  obtain ⟨gd, edges⟩ := applyGd_settled (s := t) (m := m) (by rw [wanted, ticks]; exact settled)
  rw [wanted] at gd
  exact ⟨⟨w.trans wa, fun k h => (kept k h).trans (others k h), shape.trans own.shape, edges, .inl gd⟩, gd⟩

/-- A crossing that comes while the gate drive is asked for one level. -/
theorem Moving.burstEdge (h : Moving s t m v)
    (wanted : ∀ u, Within [.chans, .fresh] s u → SameShape (chan s m) (chan u m) → gdWanted u m = v) (x : Int × Bool × Armed) :
    Moving s (burstEdge t m x) m v := by
  obtain ⟨w, others, shape, settled⟩ := h
  obtain ⟨z, hz⟩ : ∃ z, z = if x.2.1 then (chan t m).burst x.2.2 else { chan t m with
    burstOn := false
    offArm := (chan t m).offArm.filter (fun b => b.ref != x.2.2.ref) } := ⟨_, rfl⟩
  have own : chan (setChan t m z) m = z := chan_setChan_same ..
  have same : SameShape (chan t m) z ∧ z.edges = (chan t m).edges ∧ z.gd = (chan t m).gd ∧ z.gdSince = (chan t m).gdSince := by
    rw [hz]
    split <;> exact ⟨⟨rfl, rfl, rfl, rfl⟩, rfl, rfl, rfl⟩
  obtain ⟨shape', edges, gd, since⟩ := same
  have moved : Moving s (setChan t m z) m v := by
    refine ⟨w.trans (setChan_within (.refl t) ..), fun k h => (chan_setChan_other _ h).trans (others k h), ?_, ?_⟩
    · rw [own]
      exact shape.trans shape'
    · unfold Settled
      rw [own, edges, gd, since]
      exact settled
  have level := wanted _ moved.within moved.shape
  have drives : Machine.burstEdge t m x = Machine.applyGd (setChan t m z) m := by
    have ticks : (setChan t m z).ticks = s.ticks := moved.within.ticks
    obtain ⟨f, hf⟩ : ∃ f : State → State, f = fun s => setChan s m (if x.2.1 then (chan s m).burst x.2.2 else { chan s m with
      burstOn := false
      offArm := (chan s m).offArm.filter (fun b => b.ref != x.2.2.ref) }) := ⟨_, rfl⟩
    have at_ : f t = setChan t m z := by rw [hf, hz]
    have is : Machine.burstEdge t m x = drive t (m / 96) x.2.2.idx m f := by
      rw [hf]
      rfl
    rw [is, drive_settled (m / 96) x.2.2.idx (by rw [at_, level, ticks]; exact moved.settled), at_]
  rw [drives]
  exact (moved.applyGd level).1

/-- The crossings that have come, while the gate drive is asked for one level. -/
theorem burstEdges_moves (settled : Settled (chan s m) v s.ticks)
    (wanted : ∀ u, Within [.chans, .fresh] s u → SameShape (chan s m) (chan u m) → gdWanted u m = v) :
    Moving s (applyGd (burstEdges s m) m) m v ∧ (chan (applyGd (burstEdges s m) m) m).gd = v := by
  have all : ∀ (l : List (Int × Bool × Armed)) (t : State), Moving s t m v → Moving s (l.foldl (burstEdge · m ·) t) m v := by
    intro l
    induction l with
    | nil => exact fun t h => h
    | cons x l ih => exact fun t h => ih _ (h.burstEdge wanted x)
  have moved : Moving s (burstEdges s m) m v := all _ s ⟨.refl s, fun _ _ => rfl, ⟨rfl, rfl, rfl, rfl⟩, settled⟩
  exact moved.applyGd (wanted _ moved.within moved.shape)

/-- No crossing that the channel waits for has come. -/
theorem burstEdges_none (none_ : ∀ x ∈ (chan s m).burstArm ++ (chan s m).offArm, ¬ 0 ≤ stampDiff (refNow s x.ref) (BitVec.ofNat 36 x.at_)) :
    burstEdges s m = s := by
  have empty (l : List Armed) (on : Bool) (h : ∀ x ∈ l, ¬ 0 ≤ stampDiff (refNow s x.ref) (BitVec.ofNat 36 x.at_)) : armsDue s l on = [] := by
    unfold armsDue
    rw [List.filter_eq_nil_iff.2 fun x hx => by simpa using h x hx]
    rfl
  unfold burstEdges
  rw [empty _ true fun x hx => none_ x (List.mem_append_left _ hx), empty _ false fun x hx => none_ x (List.mem_append_right _ hx)]
  rfl

end

/-! ### What the mode asks for -/

section
variable {s u : State} {m : Nat}

theorem chanReg_within (w : Within [.chans, .fresh] s u) (m k : Nat) : chanReg u m k = chanReg s m k := w.rget _ _

theorem chMode_within (w : Within [.chans, .fresh] s u) (m : Nat) : chMode u m = chMode s m := by
  unfold chMode chcfg
  rw [chanReg_within w]

theorem chLed_within (w : Within [.chans, .fresh] s u) (m : Nat) : chLed u m = chLed s m := by
  unfold chLed chcfg
  rw [chanReg_within w]

theorem refNow_within (w : Within [.chans, .fresh] s u) (i : Nat) : refNow u i = refNow s i := by
  rw [w.eq]
  rfl

/-- In Boot, in mode Off and in the safe state of a channel without excitation the drive is low (Table 14.9). -/
theorem gdWanted_low (low : s.safety = .boot ∨ chMode s m = 0 ∨ ((chan s m).safe = true ∧ chMode s m ≠ 3)) : gdWanted s m = false := by
  unfold gdWanted
  dsimp only
  by_cases boot : s.safety = .boot
  · rw [if_pos boot]
  rw [if_neg boot]
  rcases low with b | off | ⟨safe, notAxle⟩
  · exact absurd b boot
  · rw [off]
    rfl
  · rw [safe, if_neg notAxle]
    split
    · rfl
    · split
      · rfl
      · split <;> rfl

/-- A lit Lamp under phase control conducts in the first part of each half period (R471). -/
theorem gdWanted_phase (run : s.safety ≠ .boot) (mode : chMode s m = 1) (led : chLed s m = false) (out : (chan s m).safe = false)
    (lit : (chan s m).lit = true) (runs : (ref s (chRef s m)).st = .locked ∨ (ref s (chRef s m)).st = .holdover)
    (part_ : (chan s m).level < 65535) :
    gdWanted s m = decide ((refNow s (chRef s m)).toNat % 2 ^ 23 < (chan s m).level * 128) := by
  unfold gdWanted lampLevel phaseHigh
  dsimp only
  rw [if_neg run, if_pos mode, out, led, lit, if_neg (by decide), if_pos rfl, decide_eq_false (by omega)]
  rcases runs with e | e <;> rw [e] <;> rfl

/-- A lit Lamp at full level conducts always (R471). -/
theorem gdWanted_full (run : s.safety ≠ .boot) (mode : chMode s m = 1) (out : (chan s m).safe = false) (lit : (chan s m).lit = true)
    (full : 65535 ≤ (chan s m).level) : gdWanted s m = true := by
  unfold gdWanted lampLevel phaseHigh pwmHigh
  dsimp only
  rw [if_neg run, if_pos mode, out, lit, if_pos rfl, if_pos full, decide_eq_true full]
  cases chLed s m <;> rfl

/-- A Heater conducts in a burst alone (R475). -/
theorem gdWanted_heater (run : s.safety ≠ .boot) (mode : chMode s m = 2) :
    gdWanted s m = (!(chan s m).safe && (chan s m).burstOn) := by
  unfold gdWanted
  dsimp only
  rw [if_neg run, if_neg (by omega), if_pos mode]

theorem gdWanted_heater_off (mode : chMode s m = 2) (off : (chan s m).burstOn = false) : gdWanted s m = false := by
  by_cases boot : s.safety = .boot
  · exact gdWanted_low (.inl boot)
  · rw [gdWanted_heater boot mode, off, Bool.and_false]

/-- The excitation of an enabled Axle channel is a square wave (R479). -/
theorem gdWanted_axle (run : s.safety ≠ .boot) (notMire : s.safety ≠ .mire) (mode : chMode s m = 3) (on : bit (rget s (chanPg m) 5) 0 = true) :
    gdWanted s m = decide ((chan s m).phase < 150000000) := by
  have free : (s.safety != .mire) = true := bne_iff_ne.2 notMire
  unfold gdWanted axleHigh
  dsimp only
  rw [if_neg run, if_neg (by omega), if_neg (by omega), if_pos mode, on, free, Bool.true_and, Bool.true_and]

/-- A crossing that comes alone. -/
theorem burstEdge_alone {v : Bool} {z : Chan} {x : Int × Bool × Armed} (spaced : Spaced (chan s m) s.ticks)
    (gives : z = if x.2.1 then (chan s m).burst x.2.2 else { chan s m with
      burstOn := false
      offArm := (chan s m).offArm.filter (fun b => b.ref != x.2.2.ref) })
    (wanted : ∀ u, Within [.chans, .fresh] s u → Redriven z (chan u m) → gdWanted u m = v) :
    let t := applyGd (burstEdge s m x) m
    Redriven z (chan t m) ∧ (chan t m).gd = v ∧ ChansKept s t m ∧ Within [.chans, .fresh] s t := by
  obtain ⟨y, hy⟩ : ∃ y, y = setChan s m z := ⟨_, rfl⟩
  have wy : Within [.chans, .fresh] s y := hy ▸ setChan_within (.refl s) ..
  have own : chan y m = z := hy ▸ chan_setChan_same ..
  have others : ChansKept s y m := fun k h => hy ▸ chan_setChan_other _ h
  have still : z.edges = (chan s m).edges ∧ z.gdSince = (chan s m).gdSince := by
    rw [gives]
    split <;> exact ⟨rfl, rfl⟩
  have settled : Settled (chan y m) v y.ticks := by
    rw [own, wy.ticks]
    exact ⟨still.1.trans spaced.1, .inr (by rw [still.2]; exact spaced.2)⟩
  have drives : burstEdge s m x = applyGd y m := by
    obtain ⟨f, hf⟩ : ∃ f : State → State, f = fun s => setChan s m (if x.2.1 then (chan s m).burst x.2.2 else { chan s m with
      burstOn := false
      offArm := (chan s m).offArm.filter (fun b => b.ref != x.2.2.ref) }) := ⟨_, rfl⟩
    have at_ : f s = y := by rw [hf, hy, gives]
    have is : burstEdge s m x = drive s (m / 96) x.2.2.idx m f := by
      rw [hf]
      rfl
    rw [is, drive_settled (m / 96) x.2.2.idx (by rw [at_, wanted y wy (own ▸ .refl _)]; exact settled), at_]
  intro t
  show Redriven z (chan (applyGd (burstEdge s m x) m) m) ∧ (chan (applyGd (burstEdge s m x) m) m).gd = v ∧
    ChansKept s (applyGd (burstEdge s m x) m) m ∧ Within [.chans, .fresh] s (applyGd (burstEdge s m x) m)
  rw [drives]
  obtain ⟨own1, kept1, w1⟩ := applyGd_kept y m
  have level := wanted y wy (own ▸ .refl _)
  obtain ⟨gd1, edges1⟩ := applyGd_settled (s := y) (m := m) (by rw [level]; exact settled)
  rw [own] at own1
  have ws := wy.trans w1
  have level1 := wanted _ ws own1
  obtain ⟨own2, kept2, w2⟩ := applyGd_kept (applyGd y m) m
  obtain ⟨gd2, -⟩ := applyGd_settled (s := applyGd y m) (m := m) ⟨edges1, .inl (by rw [gd1, level, level1])⟩
  exact ⟨own1.trans own2, by rw [gd2, level1], fun k h => ((kept2 k h).trans (kept1 k h)).trans (others k h), ws.trans w2⟩

end

/-! ### The reads of a channel block -/

section
variable {s : State} {m : Nat}

theorem exec_m1Read {ch : BitVec 10} (inside : ch.toNat < chanCount s) (works : blockWorks s (ch.toNat / 24) = true) :
    exec (.m1Read ch) s = .next (replyWord (m1Load s ch.toNat).2 (m1Load s ch.toNat).1) :=
  congrArg done (chanDo_works inside works _)

theorem measMode_eq (s : State) (m : Nat) : measMode s m = if chMode s m = 0 then (chan s m).measMode else chMode s m := rfl

/-- A page of a region with a reason against it is not enabled; one without it is. -/
theorem cbkWhy_some {g : Nat} (bad : rfld s (cbkPg g) 17 17 9 = 0 ∨
    rfld s (cbkPg g) 16 29 0 / 65536 ≠ (rfld s (cbkPg g) 16 29 0 + 24 * rfld s (cbkPg g) 17 17 9 - 1) / 65536 ∨
    rfld s (cbkPg g) 16 29 0 / 262144 ≠ g) : cbkWhy s g = some 10 := if_pos bad

theorem cbkWhy_none {g : Nat} (some_ : 1 ≤ rfld s (cbkPg g) 17 17 9)
    (bank : rfld s (cbkPg g) 16 29 0 / 65536 = (rfld s (cbkPg g) 16 29 0 + 24 * rfld s (cbkPg g) 17 17 9 - 1) / 65536)
    (region : rfld s (cbkPg g) 16 29 0 / 262144 = g) : cbkWhy s g = none :=
  if_neg (by rintro (h | h | h); exacts [by omega, h bank, h region])

end

/-- The schedule of a channel's drive, and the reads and enables of its block. -/
theorem channelDriveAndReads : Rule.ChannelDriveAndReads := by
  intro s ch region a w e rest m g pg y spaced mm half runs reached nfr lo edge taken reads
  refine ⟨fun inside works => ?_, fun works fifo fresh => ?_, fun works empty => ?_, fun take proof_ => ?_, fun take other => ?_,
    fun take idle base frames bank region_ => ?_, fun take idle base bad => ?_⟩
  · have step : exec (.phaseControlEdge ch) s = .next (applyGd (burstEdges s m) m) := congrArg done (chanDo_works inside works _)
    have shows (P : Chan → Prop) : (∃ t, exec (.phaseControlEdge ch) s = .next t ∧ P (chan t m) ∧ ChansKept s t m ∧
      (chan t m).lit = y.lit ∧ (chan t m).level = y.level ∧ (chan t m).safe = y.safe ∧ t.regs = s.regs ∧ t.mem = s.mem) → edge P := id
    have moves {v : Bool} (settled : Settled (chan s m) v s.ticks)
        (wanted : ∀ u, Within [.chans, .fresh] s u → SameShape (chan s m) (chan u m) → gdWanted u m = v) : edge (fun z => z.gd = v) := by
      obtain ⟨⟨w, others, ⟨safe, lit, level, -⟩, -⟩, gd⟩ := burstEdges_moves settled wanted
      exact shows (fun z => z.gd = v) ⟨_, step, gd, others, lit, level, safe, w.regs, w.mem⟩
    have alone {v : Bool} {z : Chan} {x : Int × Bool × Armed} {P : Chan → Prop} (sp : spaced) (one : burstEdges s m = burstEdge s m x)
        (gives : z = if x.2.1 then (chan s m).burst x.2.2 else { chan s m with
          burstOn := false
          offArm := (chan s m).offArm.filter (fun b => b.ref != x.2.2.ref) })
        (wanted : ∀ u, Within [.chans, .fresh] s u → Redriven z (chan u m) → gdWanted u m = v)
        (holds : ∀ c, Redriven z c → c.gd = v → P c) : edge P := by
      obtain ⟨own, gd, others, w⟩ := burstEdge_alone sp gives wanted
      have kept : SameShape (chan s m) z := by
        rw [gives]
        split <;> exact ⟨rfl, rfl, rfl, rfl⟩
      obtain ⟨safe, lit, level, -⟩ := kept.trans own.shape
      rw [one] at step
      exact shows _ ⟨_, step, holds _ own gd, others, lit, level, safe, w.regs, w.mem⟩
    clear_value edge
    have comes {l : List Armed} {on : Bool} (here : l = [a]) (due : reached a) :
        armsDue s l on = [(stampDiff (refNow s a.ref) (BitVec.ofNat 36 a.at_) * (refPeriod s a.ref : Nat), on, a)] := by
      unfold armsDue
      rw [here, List.filter_singleton, show decide (0 ≤ stampDiff (refNow s a.ref) (BitVec.ofNat 36 a.at_)) = true from decide_eq_true due]
      rfl
    refine ⟨fun safe mode at_ => ?_, fun arms offs early => ?_, fun low sp => ?_, fun run => ⟨fun mode led out lit runs_ sp part_ => ?_,
      fun mode out lit full sp => ?_, fun mode out arms due offs sp => ?_, fun mode notMire on sp => ?_⟩, fun mode arms offs due sp => ?_,
      fun mode none_ off sp => ?_, fun mode => ?_, fun mode => ?_, fun mode => ?_, fun mode => ?_, fun mode => ?_⟩
    · refine moves (v := false) ?_ fun u w shape => gdWanted_low (.inr (.inr ⟨shape.1.trans safe, by rw [chMode_within w]; exact mode⟩))
      rcases at_ with sp | ⟨low, edges⟩
      · exact Spaced.settled sp false
      · exact ⟨edges, .inl low⟩
    · have nothing : burstEdges s m = s := burstEdges_none fun x hx => by
        rw [show (chan s m).burstArm = [] from arms, show (chan s m).offArm = [] from offs] at hx
        cases hx
      obtain ⟨own, others, w⟩ := applyGd_kept s m
      obtain ⟨safe, lit, level, -⟩ := own.shape
      rw [nothing] at step
      refine shows _ ⟨_, step, ?_, others, lit, level, safe, w.regs, w.mem⟩
      rw [applyGd_chan]
      exact gdTo_waits early _
    · refine moves (v := false) (Spaced.settled sp false) fun u w shape => gdWanted_low ?_
      rcases low with off | boot
      · exact .inr (.inl ((chMode_within w m).trans off))
      · exact .inl (w.safety.trans boot)
    · refine moves (Spaced.settled sp _) fun u w shape => ?_
      obtain ⟨safe, lit', level, -⟩ := shape
      have ref_ : chRef u m = chRef s m := by
        unfold chRef chcfg
        rw [chanReg_within w]
      have wanted := gdWanted_phase (s := u) (m := m) (by rw [w.safety]; exact run) ((chMode_within w m).trans mode)
        ((chLed_within w m).trans led) (safe.trans out) (lit'.trans lit) (by rw [w.ref, ref_]; exact runs_) (by rw [level]; exact part_)
      rw [refNow_within w, ref_, level] at wanted
      exact wanted
    · exact moves (Spaced.settled sp _) fun u w shape => gdWanted_full (by rw [w.safety]; exact run) ((chMode_within w m).trans mode)
        (shape.1.trans out) (shape.2.1.trans lit) (by rw [shape.2.2.1]; exact full)
    · have one : burstEdges s m = burstEdge s m
          (stampDiff (refNow s a.ref) (BitVec.ofNat 36 a.at_) * (refPeriod s a.ref : Nat), true, a) := by
        unfold burstEdges
        rw [comes arms due, show (chan s m).offArm = [] from offs]
        rfl
      refine alone (v := true) sp one rfl (fun u w shape => ?_) fun c own gd => ?_
      · obtain ⟨_, _, _, _, own⟩ := shape
        rw [gdWanted_heater (by rw [w.safety]; exact run) ((chMode_within w m).trans mode), own]
        show (!(chan s m).safe && true) = true
        rw [show (chan s m).safe = false from out]
        rfl
      · obtain ⟨_, _, _, _, own⟩ := own
        refine ⟨gd, ?_⟩
        rw [own]
        refine ⟨rfl, rfl, rfl, rfl, ?_⟩
        show (chan s m).burstArm.filter (fun b => b.ref != a.ref) = []
        rw [show (chan s m).burstArm = [a] from arms]
        simp
    · refine moves (Spaced.settled sp _) fun u w shape => ?_
      rw [gdWanted_axle (by rw [w.safety]; exact run) (by rw [w.safety]; exact notMire) ((chMode_within w m).trans mode)
        (by rw [w.rget]; exact on), shape.2.2.2]
    · have one : burstEdges s m = burstEdge s m
          (stampDiff (refNow s a.ref) (BitVec.ofNat 36 a.at_) * (refPeriod s a.ref : Nat), false, a) := by
        unfold burstEdges
        rw [comes offs due, show (chan s m).burstArm = [] from arms]
        rfl
      refine alone (v := false) sp one rfl (fun u w shape => ?_) fun c own gd => ?_
      · obtain ⟨_, _, _, _, own⟩ := shape
        exact gdWanted_heater_off ((chMode_within w m).trans mode) (by rw [own]; rfl)
      · obtain ⟨_, _, _, _, own⟩ := own
        refine ⟨gd, ?_⟩
        rw [own]
        refine ⟨rfl, ?_⟩
        show (chan s m).offArm.filter (fun b => b.ref != a.ref) = []
        rw [show (chan s m).offArm = [a] from offs]
        simp
    · have nothing : burstEdges s m = s := burstEdges_none none_
      obtain ⟨own, others, w⟩ := applyGd_kept s m
      obtain ⟨safe, lit, level, -⟩ := own.shape
      have wanted : gdWanted s m = false := gdWanted_heater_off mode off
      obtain ⟨gd, -⟩ := applyGd_settled (s := s) (m := m) (Spaced.settled sp _)
      rw [nothing] at step
      refine shows _ ⟨_, step, ⟨gd.trans wanted, ?_⟩, others, lit, level, safe, w.regs, w.mem⟩
      obtain ⟨_, _, _, _, own⟩ := own
      rw [own]
      exact ⟨rfl, rfl⟩
    · have read := exec_m1Read inside works
      have loads : m1Load s m = ((chan s m).enlast.setWidth 36, setChan s m { chan s m with m2 := ((chan s m).enlast >>> 36).setWidth 36 }) :=
        if_pos mode
      rw [loads] at read
      exact ⟨_, read, rfl, chan_setChan_same .., fun k h => chan_setChan_other _ h, rfl⟩
    all_goals
      have read := exec_m1Read inside works
    · have loads : m1Load s m = (BitVec.ofNat 36 (chan s m).provfail, s) :=
        (if_neg (by rw [measMode_eq]; show ¬ mm = 2; omega)).trans (if_pos mode)
      rw [loads] at read
      exact ⟨_, read, rfl, rfl, fun _ _ => rfl, rfl⟩
    · have loads : m1Load s m = (fval 35 18 (chan s m).cnt0 ||| fval 17 0 (chan s m).cnt1, s) :=
        (if_neg (by rw [measMode_eq]; show ¬ mm = 2; omega)).trans ((if_neg (by rw [measMode_eq]; show ¬ mm = 1; omega)).trans (if_pos mode))
      rw [loads] at read
      exact ⟨_, read, rfl, rfl, fun _ _ => rfl, rfl⟩
    · have loads : m1Load s m = ((chan s m).g1, s) :=
        (if_neg (by rw [measMode_eq]; show ¬ mm = 2; omega)).trans ((if_neg (by rw [measMode_eq]; show ¬ mm = 1; omega)).trans
          ((if_neg (by rw [measMode_eq]; show ¬ mm = 3; omega)).trans (if_pos mode)))
      rw [loads] at read
      exact ⟨_, read, rfl, rfl, fun _ _ => rfl, rfl⟩
    · have loads : m1Load s m = (0, s) :=
        (if_neg (by rw [measMode_eq]; show ¬ mm = 2; omega)).trans ((if_neg (by rw [measMode_eq]; show ¬ mm = 1; omega)).trans
          ((if_neg (by rw [measMode_eq]; show ¬ mm = 3; omega)).trans (if_neg (by rw [measMode_eq]; show ¬ mm = 4; omega))))
      rw [loads] at read
      exact ⟨_, read, rfl, rfl, fun _ _ => rfl, rfl⟩
  · have step : exec (.axevRead region) s = .next (replyWord (axevLoad s g).2 (axevLoad s g).1) := congrArg done (unitDo_of_works works _)
    have loads : axevLoad s g = (w, setBlock s g { block s g with
        axfifo := rest
        axev1 := e }) := by
      unfold axevLoad
      dsimp only
      rw [fifo]
      exact if_neg (by rw [List.length_cons]; exact Nat.not_le.2 (Nat.lt_succ_of_le fresh))
    rw [loads] at step
    refine ⟨_, step, rfl, ?_, rfl, rfl⟩
    show kget (fun _ => Block.init) (kset (fun _ => Block.init) s.blocks g _) g = _
    rw [kget_kset_same]
  · have step : exec (.axevRead region) s = .next (replyWord (axevLoad s g).2 (axevLoad s g).1) := congrArg done (unitDo_of_works works _)
    have loads : axevLoad s g = (0, s) := by
      unfold axevLoad
      dsimp only
      split
      · rfl
      next fifo =>
        rw [if_pos]
        exact empty
    rw [loads] at step
    exact ⟨_, step, rfl, rfl, rfl, rfl⟩
  · have step : exec (.selftest region) s = .next (selftestReq s g) :=
      congrArg done ((unitDo_of_works take.1 _).trans (unlessLocked_open 4 _ take.2))
    rw [show selftestReq s g = setBlock s g { block s g with testPending := true } from if_pos proof_] at step
    refine ⟨_, step, ?_, rfl⟩
    show (kget (fun _ => Block.init) (kset (fun _ => Block.init) s.blocks g _) g).testPending = true
    rw [kget_kset_same]
  · have step : exec (.selftest region) s = .next (selftestReq s g) :=
      congrArg done ((unitDo_of_works take.1 _).trans (unlessLocked_open 4 _ take.2))
    rw [show selftestReq s g = captureAt s pg 8 4 from if_neg other] at step
    obtain ⟨⟨kept, only⟩, captured⟩ := captureAt_only s pg 8 4
    exact ⟨_, step, captured, kept.mono fun p o h => ⟨h.1, h.2.2⟩, only⟩
  · have step : exec (.cbkEnable region) s = .next (enable s pg (cbkWhy s g)) :=
      congrArg done ((unitDo_of_works take.1 _).trans (unlessLocked_open 4 _ take.2))
    rw [cbkWhy_none frames bank region_] at step
    obtain ⟨on, kept⟩ := enable_takes idle base
    refine ⟨_, step, on, kept, ?_⟩
    have w : Within [.regs] s (rset s pg 4 (setBit (rget s pg 4) 0 true)) := .rset (.refl s) _ _ _ (by decide)
    have takes : enable s pg none = rset s pg 4 (setBit (rget s pg 4) 0 true) := by
      unfold enable
      rw [idle, base]
      rfl
    rw [takes]
    exact w.eq
  · have step : exec (.cbkEnable region) s = .next (enable s pg (cbkWhy s g)) :=
      congrArg done ((unitDo_of_works take.1 _).trans (unlessLocked_open 4 _ take.2))
    rw [cbkWhy_some bad] at step
    obtain ⟨captured, kept, shown⟩ := enable_refused idle base 10
    exact ⟨_, step, captured, shown, kept⟩

end Sys2Proof.Machine

namespace Sys2Proof.Machine
open Sys2Proof
set_option Elab.async false

/-! ## The configuration of a channel (R451, R464 to R466, R709) -/

section
variable {s s0 s1 t u : State} {m : Nat}

theorem chan_fields : ∀ k < 8, wcMask (UnitTy.chan.fields (64 + 32 * k)) = 0 := by decide

/-- The CHAN page of a channel whose block works. -/
theorem unitOf_chanPg (inside : m < chanCount s) (works : blockWorks s (m / 24) = true) : unitOf s.part (chanPg m) = some .chan := by
  have dies : s.part.dies ≤ 8 := by cases s.part <;> decide
  unfold chanCount at inside
  unfold chanPg
  rw [unitOf_regionPg _ (by omega) (by omega), if_pos (by omega)]
  unfold unitOfRegion
  rw [if_neg (by omega), if_neg (by omega), if_neg (by omega), if_neg (by omega), if_neg (by omega), if_pos (by omega)]

/-- What a new CHCFG makes of a channel's record, from c in a state with the registers of s1. -/
structure Reconfigured (s0 s1 : State) (m : Nat) (c z : Chan) : Prop where
  shape : z.lit = c.lit ∧ z.safe = c.safe
  sameMode : chMode s1 m = chMode s0 m → z.gd = c.gd ∧ z.edges = c.edges
  newMode : chMode s1 m ≠ chMode s0 m → z.gdNext = false ∧ (Spaced c s1.ticks → z.gd = false) ∧ (chMode s1 m = 0 → z.measMode = chMode s0 m)
  newRef : chRef s1 m ≠ chRef s0 m → z.cycAt = none
  newFeedback : fld (chcfg s1 m) 27 26 ≠ fld (chcfg s0 m) 27 26 → z.fbSince = s1.ticks
  same : chMode s1 m = chMode s0 m → chRef s1 m = chRef s0 m → fld (chcfg s1 m) 27 26 = fld (chcfg s0 m) 27 26 → z = c

/-- The record before its gate drive goes low. -/
def reconfiguredChan (s0 s1 : State) (m : Nat) : Chan :=
  let c := chan s1 m
  let c1 := if chMode s1 m ≠ chMode s0 m ∨ chRef s1 m ≠ chRef s0 m then c.noCycle else c
  if fld (chcfg s1 m) 27 26 = fld (chcfg s0 m) 27 26 then c1 else { c1 with fbSince := s1.ticks }

theorem reconfigured_eq (s0 s1 : State) (m : Nat) : reconfigured s0 s1 m =
    if chMode s1 m ≠ chMode s0 m then
      gdTo (setChan s1 m { reconfiguredChan s0 s1 m with
        supA := none
        supB := none
        supC := none
        dampA := none
        dampB := none
        common := false
        dampedA := 0
        dampedB := 0
        iA := 0
        qA := 0
        iB := 0
        qB := 0
        measMode := if chMode s1 m = 0 then chMode s0 m else 0 }) m false
    else setChan s1 m (reconfiguredChan s0 s1 m) := by
  unfold reconfigured reconfiguredChan
  dsimp only
  simp only [bne_iff_ne, Bool.or_eq_true]

/-- What a new configuration leaves of the record. -/
theorem reconfiguredChan_keeps (s0 s1 : State) (m : Nat) :
    (reconfiguredChan s0 s1 m).lit = (chan s1 m).lit ∧ (reconfiguredChan s0 s1 m).safe = (chan s1 m).safe ∧
      (reconfiguredChan s0 s1 m).gd = (chan s1 m).gd ∧ (reconfiguredChan s0 s1 m).edges = (chan s1 m).edges ∧
      (reconfiguredChan s0 s1 m).gdSince = (chan s1 m).gdSince ∧
      (chRef s1 m ≠ chRef s0 m → (reconfiguredChan s0 s1 m).cycAt = none) ∧
      (fld (chcfg s1 m) 27 26 ≠ fld (chcfg s0 m) 27 26 → (reconfiguredChan s0 s1 m).fbSince = s1.ticks) ∧
      (chMode s1 m = chMode s0 m → chRef s1 m = chRef s0 m → fld (chcfg s1 m) 27 26 = fld (chcfg s0 m) 27 26 →
        reconfiguredChan s0 s1 m = chan s1 m) := by
  unfold reconfiguredChan
  dsimp only
  by_cases cycle : chMode s1 m ≠ chMode s0 m ∨ chRef s1 m ≠ chRef s0 m
  · rw [if_pos cycle]
    by_cases feedback : fld (chcfg s1 m) 27 26 = fld (chcfg s0 m) 27 26
    · rw [if_pos feedback]
      exact ⟨rfl, rfl, rfl, rfl, rfl, fun _ => rfl, fun h => absurd feedback h, fun mode ref_ _ => absurd cycle (by simp [mode, ref_])⟩
    · rw [if_neg feedback]
      exact ⟨rfl, rfl, rfl, rfl, rfl, fun _ => rfl, fun _ => rfl, fun _ _ h => absurd h feedback⟩
  · rw [if_neg cycle]
    by_cases feedback : fld (chcfg s1 m) 27 26 = fld (chcfg s0 m) 27 26
    · rw [if_pos feedback]
      exact ⟨rfl, rfl, rfl, rfl, rfl, fun h => absurd (.inr h) cycle, fun h => absurd feedback h, fun _ _ _ => rfl⟩
    · rw [if_neg feedback]
      exact ⟨rfl, rfl, rfl, rfl, rfl, fun h => absurd (.inr h) cycle, fun _ => rfl, fun _ _ h => absurd h feedback⟩

/-- An edge of the gate drive restarts the comparison of its feedback. -/
theorem fbSince_gdTo {v : Bool} (now : (chan s m).fbSince = s.ticks) : (chan (gdTo s m v) m).fbSince = s.ticks := by
  unfold gdTo
  dsimp only
  split
  · exact now
  · split
    · unfold setGd
      dsimp only
      split
      · rw [chan_setChan_same]
        exact now
      · rw [chan_setChan_same]
    · rw [chan_setChan_same]
      exact now

theorem reconfigured_chan (s0 s1 : State) (m : Nat) : Reconfigured s0 s1 m (chan s1 m) (chan (reconfigured s0 s1 m) m) ∧
    ChansKept s1 (reconfigured s0 s1 m) m ∧ Within [.chans] s1 (reconfigured s0 s1 m) := by
  have w : Within [.chans] s1 (reconfigured s0 s1 m) := reconfigured_within (.refl s1) ..
  obtain ⟨lit, safe, gd, edges, since, ref_, feedback, same⟩ := reconfiguredChan_keeps s0 s1 m
  refine ⟨?_, ?_, w⟩
  · by_cases new : chMode s1 m ≠ chMode s0 m
    · obtain ⟨z, hz⟩ : ∃ z : Chan, z = { reconfiguredChan s0 s1 m with
        supA := none
        supB := none
        supC := none
        dampA := none
        dampB := none
        common := false
        dampedA := 0
        dampedB := 0
        iA := 0
        qA := 0
        iB := 0
        qB := 0
        measMode := if chMode s1 m = 0 then chMode s0 m else 0 } := ⟨_, rfl⟩
      have is : reconfigured s0 s1 m = gdTo (setChan s1 m z) m false := by
        rw [reconfigured_eq, if_pos new, hz]
      have own : chan (setChan s1 m z) m = z := chan_setChan_same ..
      obtain ⟨redriven, -, -⟩ := gdTo_chan (setChan s1 m z) m false
      rw [is]
      have next := gdNext_gdTo (setChan s1 m z) m false
      have low : Spaced (chan s1 m) s1.ticks → (chan (gdTo (setChan s1 m z) m false) m).gd = false := fun sp =>
        (gdTo_settled (v := false) (s := setChan s1 m z) (by
          rw [own, hz]
          exact ⟨edges.trans sp.1, .inr (by show 30 ≤ s1.ticks - (reconfiguredChan s0 s1 m).gdSince; rw [since]; exact sp.2)⟩)).1
      have fb : fld (chcfg s1 m) 27 26 ≠ fld (chcfg s0 m) 27 26 → (chan (gdTo (setChan s1 m z) m false) m).fbSince = s1.ticks := fun h =>
        fbSince_gdTo (s := setChan s1 m z) (by rw [own, hz]; exact feedback h)
      rw [own] at redriven
      obtain ⟨_, _, _, _, after⟩ := redriven
      refine ⟨?_, fun h => absurd h new, fun _ => ⟨next, low, fun off => ?_⟩, fun h => ?_, fb, fun h => absurd h new⟩
      · rw [after, hz]
        exact ⟨lit, safe⟩
      · rw [after, hz]
        exact if_pos off
      · rw [after, hz]
        exact ref_ h
    · rw [reconfigured_eq, if_neg new, chan_setChan_same]
      exact ⟨⟨lit, safe⟩, fun _ => ⟨gd, edges⟩, fun h => absurd h new, ref_, feedback, same⟩
  · intro k h
    rw [reconfigured_eq]
    split
    · rw [(gdTo_chan _ m false).2.1 k h, chan_setChan_other _ h]
    · exact chan_setChan_other _ h

/-- The configuration of a channel is the same where the registers are. -/
theorem Reconfigured.congr {c z : Chan} (w : Within [.chans] s1 t) (h : Reconfigured s0 t m c z) : Reconfigured s0 s1 m c z := by
  have cfg : chcfg t m = chcfg s1 m := w.rget _ _
  have mode : chMode t m = chMode s1 m := by unfold chMode; rw [cfg]
  have ref_ : chRef t m = chRef s1 m := by unfold chRef; rw [cfg]
  obtain ⟨shape, sameMode, newMode, newRef, newFeedback, same⟩ := h
  rw [mode] at sameMode newMode same
  rw [ref_] at newRef same
  rw [cfg] at newFeedback same
  rw [w.ticks] at newFeedback newMode
  exact ⟨shape, sameMode, newMode, newRef, newFeedback, same⟩

/-- The channels of a list, reconfigured one after the other. -/
theorem reconfigured_list (s0 : State) (base : Nat) : ∀ (l : List Nat) (s1 : State), l.Nodup →
    let t := l.foldl (fun t k => reconfigured s0 t (base + k)) s1
    Within [.chans] s1 t ∧ (∀ k ∈ l, Reconfigured s0 s1 (base + k) (chan s1 (base + k)) (chan t (base + k))) ∧
      ∀ j, (∀ k ∈ l, j ≠ base + k) → chan t j = chan s1 j
  | [], s1, _ => ⟨.refl s1, fun k h => (List.not_mem_nil h).elim, fun _ _ => rfl⟩
  | x :: l, s1, nodup => by
    obtain ⟨notin, rest⟩ := List.nodup_cons.1 nodup
    obtain ⟨first, others, w⟩ := reconfigured_chan s0 s1 (base + x)
    obtain ⟨w', later, kept⟩ := reconfigured_list s0 base l (reconfigured s0 s1 (base + x)) rest
    have apart {k : Nat} (hk : k ∈ l) : base + k ≠ base + x := fun e => notin (by rwa [show x = k by omega])
    refine ⟨w.trans w', fun k hk => ?_, fun j h => ?_⟩
    · rcases List.mem_cons.1 hk with rfl | hk
      · show Reconfigured s0 s1 (base + k) _ (chan (l.foldl _ (reconfigured s0 s1 (base + k))) (base + k))
        rw [kept (base + k) fun j hj => (apart hj).symm]
        exact first
      · have before : chan (reconfigured s0 s1 (base + x)) (base + k) = chan s1 (base + k) := others _ (apart hk)
        rw [← before]
        exact (later k hk).congr w
    · exact (kept j fun k hk => h k (.tail _ hk)).trans (others j (h x (.head _)))

end

/-! ## The control of a channel (R483, R501, R506, R518) -/

section
variable {s : State} {m : Nat}

/-- A refused write of a CHAN page: it is captured, and nothing else changes. -/
theorem chanRefuse_only (s : State) (m cause : Nat) : Captured s (chanRefuse s m cause) (chanPg m) cause (m % 24) ∧
    RegsKept s (chanRefuse s m cause) (captureRegs (chanPg m)) ∧
    chanRefuse s m cause = { s.noted (chanRefuse s m cause) with regs := (chanRefuse s m cause).regs } := by
  have w : Within Area.ofSignal s (chanRefuse s m cause) := capture_within (.refl s) ..
  exact ⟨captured_capture .., (regsKept_capture s _ cause _).mono fun p o h => ⟨h.1, h.2⟩, w.noted⟩

/-- A Generic channel that software drives, before its gate drive follows. -/
def gdLit (s : State) (m : Nat) (lit : Bool) : State :=
  setChan (setLit s m lit (chan s m).level) m { chan (setLit s m lit (chan s m).level) m with
    burstOn := false
    burstArm := []
    offArm := [] }

theorem gdLit_chan (s : State) (m : Nat) (lit : Bool) :
    let z := chan (gdLit s m lit) m
    (z.lit = lit ∧ z.level = (chan s m).level ∧ z.safe = (chan s m).safe ∧ z.burstOn = false ∧ z.burstArm = [] ∧ z.offArm = []) ∧
      (z.edges = (chan s m).edges ∧ z.gdSince = (chan s m).gdSince) ∧ ChansKept s (gdLit s m lit) m ∧ Within [.chans] s (gdLit s m lit) := by
  obtain ⟨u, hu⟩ : ∃ u, u = setLit s m lit (chan s m).level := ⟨_, rfl⟩
  obtain ⟨lit', level, safe, -, others⟩ := setLit_chan s m lit (chan s m).level
  have times : (chan u m).edges = (chan s m).edges ∧ (chan u m).gdSince = (chan s m).gdSince := by
    rw [hu]
    unfold setLit
    dsimp only
    split
    · exact ⟨rfl, rfl⟩
    · split
      all_goals
        rw [chan_setChan_same]
        exact ⟨rfl, rfl⟩
  have w : Within [.chans] s u := hu ▸ setLit_within (.refl s) ..
  rw [← hu] at lit' level safe others
  unfold gdLit
  rw [← hu]
  dsimp only
  rw [chan_setChan_same]
  exact ⟨⟨lit', level, safe, rfl, rfl, rfl⟩, times, fun k h => (chan_setChan_other _ h).trans (others k h), w.trans (setChan_within (.refl u) ..)⟩

/-- GD of a Generic channel (R483). -/
theorem gdReq_drives {v : Nat} (known : v = 1 ∨ v = 2) (free : chVital s m = false) (generic : chMode s m = 4)
    (out : v = 2 → (chan s m).safe = false) : gdReq s m v = applyGd (gdLit s m (decide (v = 2))) m := by
  unfold gdReq
  rw [if_neg (by omega), if_neg]
  · rfl
  · rintro (h | h | h | ⟨h, safe⟩)
    · omega
    · exact Bool.false_ne_true (free.symm.trans h)
    · exact h generic
    · exact Bool.false_ne_true ((out h).symm.trans safe)

theorem gdReq_refuses {v : Nat} (known : v = 1 ∨ v = 2) (bad : chVital s m = true ∨ chMode s m ≠ 4 ∨ (v = 2 ∧ (chan s m).safe = true)) :
    gdReq s m v = chanRefuse s m 9 := by
  unfold gdReq
  rw [if_neg (by omega), if_pos (.inr bad)]

/-- What a Generic channel asks of its gate drive with no burst. -/
theorem gdWanted_generic (run : s.safety ≠ .boot) (generic : chMode s m = 4) (off : (chan s m).burstOn = false) :
    gdWanted s m = (!(chan s m).safe && ((chan s m).lit && pwmHigh s m (chan s m).level)) := by
  unfold gdWanted
  dsimp only
  rw [if_neg run, if_neg (by omega), if_neg (by omega), if_neg (by omega), if_pos generic, off, Bool.false_or]

/-- A Generic channel that is not lit is low. -/
theorem gdWanted_unlit (generic : chMode s m = 4) (off : (chan s m).burstOn = false)
    (low : (chan s m).lit = false ∨ (chan s m).level = 0) : gdWanted s m = false := by
  by_cases boot : s.safety = .boot
  · exact gdWanted_low (.inl boot)
  · rw [gdWanted_generic boot generic off]
    rcases low with dark | zero
    · rw [dark, Bool.false_and, Bool.and_false]
    · have nothing : pwmHigh s m 0 = false := by
        unfold pwmHigh
        dsimp only
        rw [if_neg (by decide), if_pos rfl]
      rw [zero, nothing, Bool.and_false, Bool.and_false]

/-- What GD does to a Generic channel (R483). -/
theorem gdLit_applied (lit : Bool) (generic : chMode s m = 4) :
    let t := applyGd (gdLit s m lit) m
    ((chan t m).lit = lit ∧ (chan t m).level = (chan s m).level ∧ (chan t m).safe = (chan s m).safe ∧ (chan t m).burstOn = false ∧
      (chan t m).burstArm = [] ∧ (chan t m).offArm = []) ∧
    (Spaced (chan s m) s.ticks → lit = true → (chan s m).safe = false → s.safety ≠ .boot → 65535 ≤ (chan s m).level → (chan t m).gd = true) ∧
    (Spaced (chan s m) s.ticks → lit = false ∨ (chan s m).level = 0 → (chan t m).gd = false) ∧ ChansKept s t m ∧ t.regs = s.regs := by
  obtain ⟨u, hu⟩ : ∃ u, u = gdLit s m lit := ⟨_, rfl⟩
  obtain ⟨⟨lit', level, safe, burst, arms, offs⟩, ⟨edges, since⟩, others, w⟩ := gdLit_chan s m lit
  rw [← hu] at lit' level safe burst arms offs edges since others w
  obtain ⟨own, kept, wa⟩ := applyGd_kept u m
  have mode : chMode u m = 4 := (show chMode u m = chMode s m from congrArg (fun x => fld x 35 33) (w.rget _ _)).trans generic
  have settles (sp : Spaced (chan s m) s.ticks) (v : Bool) : Settled (chan u m) v u.ticks := by
    refine Spaced.settled ⟨edges.trans sp.1, ?_⟩ v
    rw [since, w.ticks]
    exact sp.2
  dsimp only
  rw [← hu]
  refine ⟨?_, fun sp on out run full => ?_, fun sp low => ?_, fun k h => (kept k h).trans (others k h), wa.regs.trans w.regs⟩
  · obtain ⟨_, _, _, _, own⟩ := own
    rw [own]
    exact ⟨lit', level, safe, burst, arms, offs⟩
  · have high : pwmHigh u m (chan u m).level = true := by
      unfold pwmHigh
      dsimp only
      rw [level, if_pos full]
    rw [(applyGd_settled (settles sp _)).1, gdWanted_generic (by rw [w.safety]; exact run) mode burst, safe, out, lit', on, high]
    rfl
  · rw [(applyGd_settled (settles sp _)).1]
    exact gdWanted_unlit mode burst (by rw [lit', level]; exact low)

/-- A write of CHCFG that is performed. -/
theorem chcfgStore_takes {v : Word} (unit : unitOf s.part (chanPg m) = some .chan) (opened : locked s (chanPg m) = false)
    (allowed : chcfgAllowed s m v = true) : chcfgStore s m v =
      reconfigured s (rset s (chanPg m) (chanOff m 0) (applyWrite (UnitTy.chan.fields (chanOff m 0)) (rget s (chanPg m) (chanOff m 0)) v)) m := by
  have still : wcMask (UnitTy.chan.fields (chanOff m 0)) = 0 := chan_fields (m % 24 % 8) (Nat.mod_lt _ (by decide))
  unfold chcfgStore
  rw [unlessLocked_open _ _ opened, allowed, if_pos rfl]
  unfold writeFields
  rw [unit]
  dsimp only
  rw [still, show ∀ w e : Word, w ||| (e &&& 0) = w by simp]

theorem chcfgStore_refuses {v : Word} (opened : locked s (chanPg m) = false) (no : chcfgAllowed s m v = false) :
    chcfgStore s m v = chanRefuse s m 8 := by
  unfold chcfgStore
  rw [unlessLocked_open _ _ opened, no]
  rfl

theorem chcfgAllowed_no {v : Word} (bad : quiet s m = false ∨ 4 < fld v 35 33 ∨ (bit v 32 = true ∧ (fld v 35 33 = 0 ∨ fld v 35 33 = 3)) ∨
    (s.safety ≠ .boot ∧ s.safety ≠ .proof ∧ (bit v 32 = true ∨ chVital s m = true) ∧
      (fld v 35 33 ≠ chMode s m ∨ bit v 32 ≠ chVital s m))) : chcfgAllowed s m v = false := by
  unfold chcfgAllowed
  dsimp only
  rcases bad with busy | mode | ⟨vital, mode⟩ | ⟨boot, proof_, vital, change⟩
  · rw [busy]
    rfl
  · rw [decide_eq_false (by omega), Bool.and_false]
    rfl
  · rw [vital, decide_eq_true mode]
    simp
  · have b : (s.safety == .boot) = false := beq_eq_false_iff_ne.2 boot
    have p : (s.safety == .proof) = false := beq_eq_false_iff_ne.2 proof_
    have v' : (bit v 32 || chVital s m) = true := by rcases vital with h | h <;> rw [h] <;> simp
    have c' : (decide (fld v 35 33 ≠ chMode s m) || (bit v 32 != chVital s m)) = true := by
      rcases change with h | h
      · rw [decide_eq_true h, Bool.true_or]
      · rw [bne_iff_ne.2 h, Bool.or_true]
    rw [b, p, v', c']
    simp

end

/-! ## SRST of a CHAN page (R709) -/

section
variable {s : State} {g j : Nat}

/-- The registers that SRST of a CHAN page keeps. -/
def chanKeeps (s : State) (g j key : Nat) : Bool :=
  decide (key / 512 ≠ regionPg g (33 + j)) || decide (key % 512 = 10) ||
    (decide (64 ≤ key % 512) && !(decide (key % 32 < 8) &&
      chcfgAllowed s (24 * g + 8 * j + (key % 512 / 32 - 2)) (regDefault (regionPg g (33 + j) * 512 + 64 + 32 * (key % 512 / 32 - 2)))))

/-- The state with the registers of a CHAN page reset. -/
def chanRegsReset (s : State) (g j : Nat) : State := { s with regs := kkeep s.regs (chanKeeps s g j) }

theorem rget_chanRegsReset (p : Nat) {o : Nat} (ho : o < 512) :
    rget (chanRegsReset s g j) p o = if chanKeeps s g j (p * 512 + o) = true then rget s p o else regDefault (p * 512 + o) := by
  unfold rget chanRegsReset
  dsimp only
  rw [kget_kkeep]

theorem chanReset_runs (opened : locked s (regionPg g (33 + j)) = false) :
    chanReset s g j = (List.range 8).foldl (fun t k => reconfigured s t (24 * g + 8 * j + k)) (chanRegsReset s g j) := by
  unfold chanReset
  rw [unlessLocked_open _ _ opened]
  rfl

/-- The channels of a CHAN page. -/
theorem chanPg_region {k : Nat} (h : chanPg k = regionPg g (33 + j)) (hj : j < 3) : ∃ i < 8, k = 24 * g + 8 * j + i := by
  unfold chanPg regionPg pageNo at h
  exact ⟨k % 8, Nat.mod_lt _ (by decide), by omega⟩

/-- What SRST of a CHAN page does to a channel. -/
theorem chanReset_chan (opened : locked s (regionPg g (33 + j)) = false) (hj : j < 3) (k : Nat) :
    let t := chanReset s g j
    (chan t k).lit = (chan s k).lit ∧ (chan t k).safe = (chan s k).safe ∧
      (chMode t k ≠ chMode s k → (chan t k).gdNext = false ∧ (chMode t k = 0 → (chan t k).measMode = chMode s k)) ∧
      (chMode t k = chMode s k → chRef t k = chRef s k → fld (chcfg t k) 27 26 = fld (chcfg s k) 27 26 → chan t k = chan s k) := by
  obtain ⟨u, hu⟩ : ∃ u, u = chanRegsReset s g j := ⟨_, rfl⟩
  obtain ⟨w, own, others⟩ := reconfigured_list s (24 * g + 8 * j) (List.range 8) u List.nodup_range
  have is := chanReset_runs opened
  rw [← hu] at is
  have before (i : Nat) : chan u i = chan s i := hu ▸ rfl
  obtain ⟨t, ht⟩ : ∃ t, t = (List.range 8).foldl (fun t k => reconfigured s t (24 * g + 8 * j + k)) u := ⟨_, rfl⟩
  dsimp only at w own others ⊢
  rw [← ht] at w own others is
  rw [is]
  have cfg : chcfg t k = chcfg u k := w.rget _ _
  have mode : chMode t k = chMode u k := by unfold chMode; rw [cfg]
  have ref_ : chRef t k = chRef u k := by unfold chRef; rw [cfg]
  rw [mode, ref_, cfg]
  by_cases here : chanPg k = regionPg g (33 + j)
  · obtain ⟨i, hi, e⟩ := chanPg_region here hj
    have r := own i (List.mem_range.2 hi)
    rw [← e, before k] at r
    exact ⟨r.shape.1, r.shape.2, fun new => ⟨(r.newMode new).1, (r.newMode new).2.2⟩, r.same⟩
  · have same : chan t k = chan s k := by
      refine (others k fun i hi e => here ?_).trans (before k)
      have := List.mem_range.1 hi
      rw [e]
      unfold chanPg regionPg pageNo
      omega
    have kept : chcfg u k = chcfg s k := by
      unfold chcfg chanReg
      rw [hu, rget_chanRegsReset _ (by unfold chanOff; omega), if_pos]
      unfold chanKeeps
      rw [show (chanPg k * 512 + chanOff k 0) / 512 = chanPg k by unfold chanOff; omega, decide_eq_true here]
      rfl
    have modes : chMode u k = chMode s k := by unfold chMode; rw [kept]
    rw [same]
    exact ⟨rfl, rfl, fun new => absurd modes new, fun _ _ _ => rfl⟩

/-- The registers after SRST of a CHAN page. -/
theorem chanReset_regs (opened : locked s (regionPg g (33 + j)) = false) :
    let t := chanReset s g j
    let spg := regionPg g (33 + j)
    t = { s with
      regs := t.regs
      chans := t.chans } ∧ RegsKept s t (fun p _ => p = spg) ∧ rget t spg 10 = rget s spg 10 ∧
      (∀ o, o < 64 → o ≠ 10 → rget t spg o = regDefault (spg * 512 + o)) ∧
      ∀ k r, k < 8 → r < 8 → rget t spg (64 + 32 * k + r) =
        if chcfgAllowed s (24 * g + 8 * j + k) (regDefault (spg * 512 + 64 + 32 * k)) = true then regDefault (spg * 512 + 64 + 32 * k + r)
        else rget s spg (64 + 32 * k + r) := by
  obtain ⟨u, hu⟩ : ∃ u, u = chanRegsReset s g j := ⟨_, rfl⟩
  obtain ⟨w, -, -⟩ := reconfigured_list s (24 * g + 8 * j) (List.range 8) u List.nodup_range
  have is := chanReset_runs opened
  rw [← hu] at is
  obtain ⟨t, ht⟩ : ∃ t, t = (List.range 8).foldl (fun t k => reconfigured s t (24 * g + 8 * j + k)) u := ⟨_, rfl⟩
  dsimp only at w ⊢
  rw [← ht] at w is
  rw [is]
  obtain ⟨spg, hs⟩ : ∃ spg, spg = regionPg g (33 + j) := ⟨_, rfl⟩
  have reads (p : Nat) {o : Nat} (ho : o < 512) :
      rget t p o = if chanKeeps s g j (p * 512 + o) = true then rget s p o else regDefault (p * 512 + o) := by
    rw [w.rget, hu, rget_chanRegsReset _ ho]
  have own {o : Nat} (ho : o < 512) : chanKeeps s g j (spg * 512 + o) = (decide (o = 10) || (decide (64 ≤ o) && !(decide (o % 32 < 8) &&
      chcfgAllowed s (24 * g + 8 * j + (o / 32 - 2)) (regDefault (spg * 512 + 64 + 32 * (o / 32 - 2)))))) := by
    unfold chanKeeps
    rw [← hs, show (spg * 512 + o) / 512 = spg by omega, show (spg * 512 + o) % 512 = o by omega, show (spg * 512 + o) % 32 = o % 32 by omega,
      decide_eq_false (fun h => h rfl), Bool.false_or]
  rw [← hs]
  refine ⟨?_, fun p o ho other => ?_, ?_, fun o ho n => ?_, fun k r hk hr => ?_⟩
  · rw [hu] at w
    rw [w.eq]
    rfl
  · rw [reads p ho, if_pos]
    unfold chanKeeps
    rw [← hs, show (p * 512 + o) / 512 = p by omega, decide_eq_true other]
    rfl
  · rw [reads spg (by decide), own (by decide)]
    exact if_pos rfl
  · rw [reads spg (by omega), own (by omega), decide_eq_false n, decide_eq_false (by omega)]
    exact if_neg Bool.false_ne_true
  · rw [reads spg (by omega), own (by omega), decide_eq_false (by omega), decide_eq_true (by omega), decide_eq_true (by omega),
      show (64 + 32 * k + r) / 32 - 2 = k by omega]
    cases chcfgAllowed s (24 * g + 8 * j + k) (regDefault (spg * 512 + 64 + 32 * k)) with
    | true => exact congrArg regDefault (by omega)
    | false => rfl

end

/-- Channels as software controls them. -/
theorem channelControl : Rule.ChannelControl := by
  intro s ch v region j m y spaced pg off spg refused
  refine ⟨fun inside works => ?_, fun third works opened => ?_⟩
  · have runs (f : State → State) : done (chanDo s m f) = .next (f s) := congrArg done (chanDo_works inside works f)
    have relRun : exec (.rel ch) s = .next (relReq s m) := runs _
    have onRun : exec (.chctlGdOn ch) s = .next (gdReq s m 2) := runs _
    have offRun : exec (.chctlGdOff ch) s = .next (gdReq s m 1) := runs _
    have cfgRun : exec (.chcfgWrite ch v) s = .next (chcfgStore s m v) := runs _
    have refuses {c : Instr} {cause : Nat} (run : exec c s = .next (chanRefuse s m cause)) : refused c cause := by
      obtain ⟨captured, kept, only⟩ := chanRefuse_only s m cause
      exact ⟨_, run, captured, kept, only⟩
    refine ⟨fun out => ?_, fun safe => ?_, fun free safe low quiet_ notMire => ?_, fun bad => ?_, fun free out => ?_, fun free generic out => ?_,
      fun free generic => ?_, fun bad => ?_, fun bad => ?_, fun opened allowed => ?_, fun opened bad => ?_, fun locked_ => ?_⟩
    · exact ⟨_, runs _, (safeEnter_safe 9 0 0 out).1⟩
    · have run : exec (.chctlSafe ch) s = .next (safeEnter s m 9 0 0) := runs _
      rw [safeEnter_again 9 0 0 safe] at run
      exact ⟨s, run, rfl⟩
    · have leaves : relReq s m = safeLeave s m := by
        unfold relReq
        rw [free, if_neg (by decide), if_neg (by rw [show (chan s m).safe = true from safe]; decide), if_pos ⟨low, quiet_, notMire⟩]
      rw [leaves] at relRun
      exact ⟨_, relRun, chan_setChan_same .., fun k h => chan_setChan_other _ h, rfl, rfl⟩
    · refine refuses (relRun.trans (congrArg _ ?_))
      unfold relReq
      rcases bad with vital | ⟨safe, held⟩
      · rw [if_pos vital]
      · split
        · rfl
        · rw [if_neg (by rw [show (chan s m).safe = true from safe]; decide), if_neg]
          rintro ⟨low, quiet_, notMire⟩
          rcases held with h | h | h
          · exact Bool.false_ne_true (low.symm.trans h)
          · exact Bool.false_ne_true (quiet_.symm.trans h)
          · exact notMire h
    · have stays : relReq s m = s := by
        unfold relReq
        rw [free, if_neg (by decide), if_pos (show (chan s m).safe = false from out)]
      rw [stays] at relRun
      exact ⟨s, relRun, rfl⟩
    · rw [gdReq_drives (.inr rfl) free generic fun _ => out] at onRun
      obtain ⟨⟨lit, level, -, burst, arms, offs⟩, high, low, others, regs⟩ := gdLit_applied (s := s) (m := m) (decide (2 = 2)) generic
      exact ⟨_, onRun, lit, level, burst, arms, offs, fun sp run full => high sp rfl out run full, fun sp zero => low sp (.inr zero), others, regs⟩
    · rw [gdReq_drives (.inl rfl) free generic fun h => absurd h (by decide)] at offRun
      obtain ⟨⟨lit, level, safe, -⟩, -, low, others, regs⟩ := gdLit_applied (s := s) (m := m) (decide (1 = 2)) generic
      exact ⟨_, offRun, lit, level, fun sp => low sp (.inl rfl), safe, others, regs⟩
    · exact refuses (onRun.trans (congrArg _ (gdReq_refuses (.inr rfl) (by tauto))))
    · exact refuses (offRun.trans (congrArg _ (gdReq_refuses (.inl rfl) (by tauto))))
    · rw [chcfgStore_takes (unitOf_chanPg inside works) opened allowed] at cfgRun
      obtain ⟨u, hu⟩ : ∃ u, u = rset s (chanPg m) (chanOff m 0) (applyWrite (UnitTy.chan.fields (chanOff m 0)) (rget s (chanPg m) (chanOff m 0)) v) :=
        ⟨_, rfl⟩
      have small : chanOff m 0 < 512 := by unfold chanOff; omega
      have written : rget u (chanPg m) (chanOff m 0) = applyWrite (UnitTy.chan.fields (chanOff m 0)) (rget s (chanPg m) (chanOff m 0)) v := by
        rw [hu]
        exact rget_rset_same ..
      have kept : RegsKept s u (fun p o => p = pg ∧ o = off) := hu ▸ .rset _ _ small ⟨rfl, rfl⟩
      have chans : ∀ k, chan u k = chan s k := fun k => hu ▸ rfl
      have ticks : u.ticks = s.ticks := hu ▸ rfl
      rw [← hu] at cfgRun
      obtain ⟨record, others, w⟩ := reconfigured_chan s u m
      obtain ⟨t, ht⟩ : ∃ t, t = reconfigured s u m := ⟨_, rfl⟩
      rw [← ht] at record others w cfgRun
      have cfg : chcfg t m = chcfg u m := w.rget _ _
      have mode : chMode t m = chMode u m := by unfold chMode; rw [cfg]
      have ref_ : chRef t m = chRef u m := by unfold chRef; rw [cfg]
      obtain ⟨shape, sameMode, newMode, newRef, newFeedback, -⟩ := record
      rw [chans m, ticks, ← mode] at newMode
      rw [chans m, ← mode] at sameMode
      rw [chans m] at shape
      rw [← ref_] at newRef
      rw [ticks, ← cfg] at newFeedback
      refine ⟨_, cfgRun, (w.rget _ _).trans written, kept.trans (.of_within w _), fun k h => (others k h).trans (chans k), sameMode, newMode,
        shape.1, shape.2, newRef, fun differs => newFeedback fun same => differs ?_⟩
      have bits := congrArg (fun n => n.testBit 0) same
      simp only [testBit_fld] at bits
      exact bits
    · exact refuses (cfgRun.trans (congrArg _ (chcfgStore_refuses opened (chcfgAllowed_no bad))))
    · have locks : chcfgStore s m v = captureAt s (chanPg m) 1 (chanOff m 0) := unlessLocked_locked _ _ locked_
      rw [locks] at cfgRun
      obtain ⟨⟨kept, -⟩, captured⟩ := captureAt_only s (chanPg m) 1 (chanOff m 0)
      have w : Within Area.ofSignal s (captureAt s (chanPg m) 1 (chanOff m 0)) := capture_within (.refl s) ..
      exact ⟨_, cfgRun, captured, kept.mono fun p o h => ⟨h.1, h.2.2⟩, w.chans⟩
  · have run : exec (.chanSrst region j) s = .next (chanReset s region.toNat j.toNat) :=
      congrArg done ((unitDo_of_works works _).trans (if_neg (by omega)))
    obtain ⟨only, kept, lock, reset_, config⟩ := chanReset_regs opened
    exact ⟨_, run, only, fun k => chanReset_chan opened third k, kept, lock, reset_, config⟩

/-- Settles O44: the control of channels, their drive, and the reads and enables of a channel block. -/
theorem channelControlAndDrive : Obligations.ChannelControlAndDrive := ⟨channelControl, channelDriveAndReads⟩

end Sys2Proof.Machine

namespace Sys2Proof.Machine
open Sys2Proof
set_option Elab.async false

/-! ## Insertion, cancel and expiry of events (R432 to R439, R445) -/

/-! ### What the safe state of a channel leaves of Reed -/

/-- From s to t Reed's entries and cancels have only gone: no Free entry has been taken, no cancel been added; EVFIFO, the error
registers of its pages and their pending bits hold what they held. -/
structure Thinned (s t : State) : Prop where
  entry : ∀ d j, (reed s d).entry j = Event.init → (reed t d).entry j = Event.init
  cancels : ∀ d c, c ∈ (reed t d).cancels → c ∈ (reed s d).cancels
  fifo : ∀ d, (reed t d).fifo = (reed s d).fifo
  errors : ∀ d, rget t (reedPg d) 6 = rget s (reedPg d) 6 ∧ rget t (reedPg d) 7 = rget s (reedPg d) 7
  pending : ∀ d b, bit (rget s (reedPg d) 9) b = true → bit (rget t (reedPg d) 9) b = true

namespace Thinned
variable {s t u : State}

theorem refl (s : State) : Thinned s s := ⟨fun _ _ => id, fun _ _ => id, fun _ => rfl, fun _ => ⟨rfl, rfl⟩, fun _ _ => id⟩

theorem trans (h : Thinned s t) (k : Thinned t u) : Thinned s u where
  entry d j e := k.entry d j (h.entry d j e)
  cancels d c m := h.cancels d c (k.cancels d c m)
  fifo d := (k.fifo d).trans (h.fifo d)
  errors d := ⟨(k.errors d).1.trans (h.errors d).1, (k.errors d).2.trans (h.errors d).2⟩
  pending d b e := k.pending d b (h.pending d b e)

theorem of_within {F : List Area} (w : Within F s t) (hF : Area.reeds ∉ F ∧ Area.regs ∉ F := by decide) : Thinned s t where
  entry d j e := by rw [w.reed d hF.1, e]
  cancels d c m := by rwa [w.reed d hF.1] at m
  fifo d := by rw [w.reed d hF.1]
  errors d := ⟨w.rget _ _ hF.2, w.rget _ _ hF.2⟩
  pending d b e := by rwa [w.rget _ _ hF.2]

theorem ite {c : Prop} [Decidable c] (h : Thinned s t) (k : Thinned s u) : Thinned s (if c then t else u) := by
  split
  · exact h
  · exact k

theorem foldl {α : Type} {f : State → α → State} (hf : ∀ t x, Thinned t (f t x)) (l : List α) (s : State) : Thinned s (l.foldl f s) := by
  induction l generalizing s with
  | nil => exact refl s
  | cons x r ih => exact (hf s x).trans (ih (f s x))

/-- What pends an interrupt, or writes registers of other pages than Reed's. -/
theorem of_pends (same : t.reeds = s.reeds) (errors : ∀ d o, o = 6 ∨ o = 7 → rget t (reedPg d) o = rget s (reedPg d) o)
    (pending : ∀ d b, bit (rget s (reedPg d) 9) b = true → bit (rget t (reedPg d) 9) b = true) : Thinned s t where
  entry d j e := by
    unfold reed
    rw [same]
    exact e
  cancels d c m := by
    unfold reed at m
    rw [same] at m
    exact m
  fifo d := by
    unfold reed
    rw [same]
  errors d := ⟨errors d 6 (.inl rfl), errors d 7 (.inr rfl)⟩
  pending := pending

theorem irqPend (s : State) (pg b : Nat) : Thinned s (irqPend s pg b) :=
  of_pends rfl (fun d o h => by
    rw [rget_irqPend _ _ _ (by omega), if_neg (by omega)]) fun d c => bit_irqPend_kept s pg b

/-- A capture at a page that is none of Reed's. -/
theorem capture {pg : Nat} (other : ∀ d, reedPg d ≠ pg) (cause info : Nat) : Thinned s (capture s pg cause info) := by
  have w : Within [.regs, .evTick, .events] s (Machine.capture s pg cause info) := capture_within (.refl s) ..
  have kept {d o : Nat} (h : o < 512) : rget (Machine.capture s pg cause info) (reedPg d) o = rget s (reedPg d) o :=
    regsKept_capture s pg cause info _ _ h fun e => other d e.1
  refine of_pends (w.reeds) (fun d o h => kept (by omega)) fun d b h => ?_
  rwa [kept (by decide)]

end Thinned

theorem reedPg_ne_regionPg (d g : Nat) {o : Nat} (h : o < 64) : reedPg d ≠ regionPg g o := fun e => by
  have := (diePg_mod d (p := 4) (by decide)).symm.trans ((congrArg (· % 2048) e).trans (regionPg_mod g h))
  omega

theorem freeEntry_entry (s : State) (d i : Nat) :
    (reed (freeEntry s d i) d).entry i = Event.init ∧
    (∀ j, j ≠ i → (reed (freeEntry s d i) d).entry j = (reed s d).entry j) ∧
    (∀ c, c ∈ (reed (freeEntry s d i) d).cancels → c ∈ (reed s d).cancels) ∧
    (reed (freeEntry s d i) d).fifo = (reed s d).fifo ∧ ∀ e, e ≠ d → reed (freeEntry s d i) e = reed s e := by
  unfold freeEntry
  rw [reed_setReed_same]
  dsimp only
  exact ⟨entry_putEntry_same (reed s d) i Event.init, fun j h => entry_putEntry_other (reed s d) Event.init h,
    fun c h => (List.mem_filter.mp h).1, rfl, fun e h => reed_setReed_other _ h⟩

theorem freeEntry_thinned (s : State) (d i : Nat) : Thinned s (freeEntry s d i) := by
  obtain ⟨own, others, fewer, fifo, dies⟩ := freeEntry_entry s d i
  have w : Within [.reeds] s (freeEntry s d i) := freeEntry_within (.refl s) ..
  refine ⟨fun e j empty => ?_, fun e c m => ?_, fun e => ?_, fun e => ⟨w.rget _ _, w.rget _ _⟩, fun e b h => by rwa [w.rget]⟩
  · by_cases die : e = d
    · subst die
      by_cases index : j = i
      · exact index ▸ own
      · rw [others j index, empty]
    · rw [dies e die, empty]
  · by_cases die : e = d
    · subst die
      exact fewer c m
    · rwa [dies e die] at m
  · by_cases die : e = d
    · exact die ▸ fifo
    · rw [dies e die]

theorem retireEntry_thinned (s : State) (d i : Nat) : Thinned s (retireEntry s d i) := by
  have counted : Thinned (freeEntry s d i) (rinc (freeEntry s d i) (reedPg d) 20 17 0) := by
    have w : Within [.regs, .evTick, .events] (freeEntry s d i) (rinc (freeEntry s d i) (reedPg d) 20 17 0) := rinc_within (.refl _) ..
    have kept {e o : Nat} (h : o < 512 ∧ o ≠ 20) :
        rget (rinc (freeEntry s d i) (reedPg d) 20 17 0) (reedPg e) o = rget (freeEntry s d i) (reedPg e) o :=
      RegsKept.rinc (P := fun _ o => o = 20) _ _ _ (by decide) rfl _ _ h.1 h.2
    refine .of_pends w.reeds (fun e o h => kept (by omega)) fun e b h => ?_
    rwa [kept (by decide)]
  exact ((freeEntry_thinned s d i).trans counted).trans (.irqPend ..)

theorem silenced_thinned (s : State) (m cause : Nat) (info : Word) : Thinned s (silenced s m cause info) := by
  unfold silenced retireWhere
  dsimp only
  refine Thinned.trans ?_ (.of_within (F := [.chans]) (safeOutputs_within (.refl _) ..))
  exact Thinned.trans (.of_within (F := [.chans, .voters, .vens]) (clearVoter_within (setVoter_within (setChan_within (.refl s) ..) ..) ..))
    (.foldl (fun t p => retireEntry_thinned t ..) _ _)

theorem safeEnter_thinned (s : State) (m cause key lanes : Nat) : Thinned s (safeEnter s m cause key lanes) := by
  by_cases safe : (chan s m).safe = true
  · rw [safeEnter_again _ _ _ safe]
    exact .refl s
  · rw [safeEnter_eq _ _ _ (Bool.not_eq_true _ ▸ safe)]
    have reports (t : State) : Thinned t (irqPend (capture t (sluicePg (m / 24)) 8 (32 * cause + m % 24)) (sluicePg (m / 24)) 1) :=
      (Thinned.capture (fun d => reedPg_ne_regionPg d _ (by decide)) ..).trans (.irqPend ..)
    exact (silenced_thinned ..).trans (.ite ((reports _).trans (.irqPend ..)) (reports _))

theorem eventSafe_thinned (s : State) (d : Nat) (e : Event) (cause : Nat) : Thinned s (eventSafe s d e cause) :=
  .ite (safeEnter_thinned ..) (.refl s)

/-- The channel that an event names, out of its safe state, enters it. -/
theorem eventSafe_safe {s : State} {d : Nat} {e : Event} (cause : Nat) (names : e.chan < 96) (there : 96 * d + e.chan < chanCount s)
    (out : (chan s (96 * d + e.chan)).safe = false) :
    (chan (eventSafe s d e cause) (96 * d + e.chan)).safe = true ∧ (chan (eventSafe s d e cause) (96 * d + e.chan)).cause = cause := by
  unfold eventSafe
  rw [if_pos ⟨names, there⟩]
  exact (safeEnter_safe cause e.key 0 out).1.safe

/-! ### Requests to a REEDEV page -/

section
variable {s : State}

/-- A request to the page of a die reaches it: no port and no target gate stands before it. -/
theorem unitRequest_diePg {d p off : Nat} (hd : d < 8) (hp : p < 64) (ho : off < 512) (works : unitWorks s (diePg d p) = true) (st : Stamp)
    (k : Kind) (f : State → State) : unitRequest s st (diePg d p) off k f = f (replyWord s 0) := by
  obtain ⟨clock, reach⟩ := Bool.and_eq_true_iff.mp works
  have page : diePg d p = 2048 * d + p := by
    unfold diePg pageNo
    omega
  have port : portReach s (diePg d p) = .ok := by
    have none_ : portOfPage (diePg d p) = none := by
      unfold portOfPage
      exact if_neg fun h => by
        have := h.2
        rw [diePg_mod d hp] at this
        omega
    unfold portReach
    rw [eq_of_beq reach, none_]
  have space : regAddr (diePg d p) off / 134217728 = 1 := by
    unfold regAddr
    omega
  have index : regAddr (diePg d p) off / 512 % 32768 = diePg d p := by
    unfold regAddr
    omega
  have gate : targetOf s (regAddr (diePg d p) off) = none := by
    have open_ : pageTarget (diePg d p) = none := by
      unfold pageTarget
      exact if_neg fun h => by
        have := h.2.1
        rw [diePg_mod d hp] at this
        omega
    unfold targetOf
    simp only [space, one_ne_zero, if_false, if_true]
    unfold pageAddr
    dsimp only
    rw [index]
    split
    · next h =>
      split at h
      · cases h
        exact open_
      · split at h <;> cases h
    · rfl
  have granted : targetOk s st (regAddr (diePg d p) off) k = true := by
    unfold targetOk
    rw [gate]
  unfold unitRequest
  rw [clock, port, granted]
  rfl

/-! ### Slots -/

/-- A store to a slot writes it and leaves the entries. -/
theorem putSlot_slot (s : State) (d i : Nat) (x : Slot) :
    slotAt (putSlot s d i x) d i = some { x with last := s.ticks } ∧ (reed (putSlot s d i x) d).ev = (reed s d).ev := by
  unfold slotAt putSlot
  dsimp only
  rw [reed_setReed_same]
  refine ⟨?_, rfl⟩
  dsimp only
  rw [kget_kset_same]

theorem stageWith_slot {d i : Nat} {st : Stamp} (f : Slot → Slot) (holds : (reed s d).slotFor st = some i) :
    slotAt (stageWith s d st f) d i = some { f ((reed s d).slotAt i st) with last := s.ticks } ∧
      (reed (stageWith s d st f) d).ev = (reed s d).ev := by
  unfold stageWith
  rw [holds]
  exact putSlot_slot ..

/-! ### The decision -/

variable {d : Nat} {st : Stamp} {e : Event}

/-- No insert of a KEY is due for its discard, none is discarded. -/
theorem discardKey_none {key : Nat} (none_ : ∀ q ∈ (reed s d).ev, q.2.key = key → discardDue s d q.2 = false) : discardKey s d key = s := by
  unfold discardKey
  rw [List.filter_eq_nil_iff.mpr fun q hq h => ?_]
  · rfl
  · obtain ⟨same, due⟩ := Bool.and_eq_true_iff.mp h
    rw [none_ q hq (of_decide_eq_true same)] at due
    cases due

/-- A third store with its words staged decides the event that they spell, and shows the result in the slot. -/
theorem ins3Store_decides {i : Nat} {v a b c : Word} (holds : (reed s d).slotFor st = some i)
    (w0 : ((reed s d).slotAt i st).w0 = some a) (w1 : ((reed s d).slotAt i st).w1 = some b) (w2 : ((reed s d).slotAt i st).w2 = some c)
    (boot : s.safety ≠ .boot) (mire : s.safety ≠ .mire)
    (due : ∀ q ∈ (reed s d).ev, q.2.key = (eventOf a b c v).key → discardDue s d q.2 = false) :
    ins3Store s d st v =
      let r := insertEffect s d st (eventOf a b c v) (decideInsert s d st (eventOf a b c v))
      putSlot r.2 d i { (reed s d).slotAt i st with result := some r.1 } := by
  unfold ins3Store
  rw [holds]
  dsimp only
  rw [if_neg (fun h => h.elim boot mire), w0, w1, w2]
  dsimp only
  rw [discardKey_none due]

/-- A reference that is not running refuses its events. -/
theorem decideInsert_stopped (stopped : ¬ ((ref s e.refNo).st = .locked ∨ (ref s e.refNo).st = .holdover)) :
    decideInsert s d st e = .refused 3 := by
  unfold decideInsert
  dsimp only
  rw [if_pos]
  cases h : (ref s e.refNo).st <;> simp [h] at stopped ⊢

/-- An event that no row of Table 9.7 above the seventh refuses takes an entry, or meets the pending one of its pair. -/
theorem decideInsert_accepts (running : (ref s e.refNo).st = .locked ∨ ((ref s e.refNo).st = .holdover ∧ e.vital = false))
    (words : badWords s d e = false) (requester : vitalRefused s d st e = false)
    (soon : 7500 ≤ stampTicks s e.refNo (stampDiff e.trig (refNow s e.refNo)))
    (far : stampDiff e.trig (refNow s e.refNo) ≤ 2047 * 2 ^ 24) (count : e.count = 0) (period : e.period = 0)
    (key : keyHeld s d st.comp.toNat e = false) :
    (∀ k, pairPending s d st.comp.toNat e = none → (reed s d).freeIndex = some k →
      (reed s d).used st.comp.toNat ≠ rfld s (reedPg d) (256 + st.comp.toNat) 25 13 → decideInsert s d st e = .take k) ∧
    (∀ k p, pairPending s d st.comp.toNat e = some (k, p) → (reed s d).freeIndex.isSome = true →
      decideInsert s d st e = if p.sameWords e then .matched k p else .mismatch k p) := by
  have near : ¬ stampTicks s e.refNo (stampDiff e.trig (refNow s e.refNo)) < 25 * (ticksPerUs : Int) := by
    have : (ticksPerUs : Int) = 300 := rfl
    omega
  have within_ : ¬ ((maxAhead : Int) < stampDiff e.trig (refNow s e.refNo) ∨
      (e.count ≠ 0 ∧ (e.period.toNat < 16384 ∨ maxAhead < e.period.toNat)) ∨ (e.count = 0 ∧ e.period ≠ 0)) := by
    have : (maxAhead : Int) = 2047 * 2 ^ 24 := by
      unfold maxAhead
      norm_num
    rintro (h | h | h)
    · omega
    · exact h.1 count
    · exact h.2 period
  unfold decideInsert
  dsimp only
  rw [if_neg (by rcases running with h | ⟨h, -⟩ <;> rw [h] <;> decide), if_neg (fun h => ?_), if_neg (by rw [words]; decide),
    if_neg (by rw [requester]; decide), if_neg near, if_neg within_, if_neg (by rw [key]; decide)]
  · refine ⟨fun k alone free room => ?_, fun k p pair free => ?_⟩
    · rw [alone, free]
      exact if_neg room
    · obtain ⟨j, free⟩ := Option.isSome_iff_exists.mp free
      rw [pair, free]
  · rcases running with k | ⟨-, k⟩
    · rw [k] at h
      exact absurd h.2 (by decide)
    · rw [k] at h
      exact absurd h.1 (by decide)

/-- An event that is not vital meets no entry of a pair, and no requester is refused it. -/
theorem pairPending_plain (plain : e.vital = false) (comp : Nat) : pairPending s d comp e = none := by
  unfold pairPending
  exact if_neg (by rw [plain]; decide)

theorem vitalRefused_plain (plain : e.vital = false) : vitalRefused s d st e = false := by
  unfold vitalRefused
  rw [plain]
  rfl

/-! ### The effect -/

/-- An entry that becomes Armed is the only one written. -/
theorem armEntry_entry (s : State) (d k : Nat) (e : Event) :
    (reed (armEntry s d k e) d).entry k = { e with st := .armed, since := s.ticks } ∧
    ∀ j, j ≠ k → (reed (armEntry s d k e) d).entry j = (reed s d).entry j := by
  have same : reed (armEntry s d k e) d = (reed s d).putEntry k { e with st := .armed, since := s.ticks } := by
    unfold armEntry
    dsimp only
    split
    · rw [(setVoter_within (F := [.voters]) (.refl _) ..).reed, reed_setReed_same]
    · exact reed_setReed_same ..
  rw [same]
  exact ⟨entry_putEntry_same .., fun j h => entry_putEntry_other _ _ h⟩

/-- The second insert of a pair with other words: the first is retired, the error captured, the channels of both safe. -/
theorem mismatch_shows (s : State) (d : Nat) (st : Stamp) (e p : Event) (k : Nat) :
    (reed (insertEffect s d st e (.mismatch k p)).2 d).entry k = Event.init ∧
      Captured s (insertEffect s d st e (.mismatch k p)).2 (reedPg d) 9 e.key := by
  obtain ⟨s1, h1⟩ : ∃ s1, s1 = retireEntry s d k := ⟨_, rfl⟩
  obtain ⟨s2, h2⟩ : ∃ s2, s2 = capture s1 (reedPg d) 9 e.key := ⟨_, rfl⟩
  have gone : (reed s2 d).entry k = Event.init := by
    have w : Within [.regs, .evTick, .events] s1 s2 := h2 ▸ capture_within (.refl _) ..
    rw [w.reed, h1]
    exact (retireEntry_entry s d k).1
  obtain ⟨six, seven⟩ := (retireEntry_thinned s d k).errors d
  have captured : Captured s s2 (reedPg d) 9 e.key := by
    rw [h2]
    exact (captured_capture ..).of_before (h1 ▸ six) (h1 ▸ seven)
  have thin : Thinned s2 (insertEffect s d st e (.mismatch k p)).2 := by
    show Thinned s2 (eventSafe (eventSafe (capture (retireEntry s d k) (reedPg d) 9 e.key) d p 6) d e 6)
    rw [← h1, ← h2]
    exact (eventSafe_thinned ..).trans (eventSafe_thinned ..)
  exact ⟨thin.entry d k gone, captured.after (thin.errors d).1 (thin.errors d).2 (thin.pending d 0)⟩

/-- A discard: the entry is Free, the error captured, and the channel that its event named safe. -/
theorem discard_shows (s : State) (d k : Nat) :
    let x := (reed s d).entry k
    let m := 96 * d + x.chan
    (reed (discard s d k) d).entry k = Event.init ∧ Captured s (discard s d k) (reedPg d) 8 k ∧
      (x.chan < 96 → m < chanCount s → (chan s m).safe = false → (chan (discard s d k) m).safe = true ∧ (chan (discard s d k) m).cause = 5) := by
  intro x m
  obtain ⟨s1, h1⟩ : ∃ s1, s1 = retireEntry s d k := ⟨_, rfl⟩
  obtain ⟨s2, h2⟩ : ∃ s2, s2 = capture s1 (reedPg d) 8 k := ⟨_, rfl⟩
  have is : discard s d k = eventSafe s2 d x 5 := by
    rw [h2, h1]
    rfl
  have w1 : Within [.regs, .evTick, .events, .reeds] s s1 := h1 ▸ retireEntry_within (.refl s) ..
  have w2 : Within [.regs, .evTick, .events] s1 s2 := h2 ▸ capture_within (.refl _) ..
  have gone : (reed s2 d).entry k = Event.init := by
    rw [w2.reed, h1]
    exact (retireEntry_entry s d k).1
  obtain ⟨six, seven⟩ := (retireEntry_thinned s d k).errors d
  have captured : Captured s s2 (reedPg d) 8 k := by
    rw [h2]
    exact (captured_capture ..).of_before (h1 ▸ six) (h1 ▸ seven)
  have thin := eventSafe_thinned s2 d x 5
  rw [is]
  refine ⟨thin.entry d k gone, captured.after (thin.errors d).1 (thin.errors d).2 (thin.pending d 0), fun names there out => ?_⟩
  refine eventSafe_safe 5 names ?_ ?_
  · unfold chanCount at there ⊢
    rwa [w2.part, w1.part]
  · rw [w2.chan, w1.chan]
    exact out

/-- An expiry of a cancel: it is dropped, the entry it named is Free, and the channel of the event safe. -/
theorem expireCancel_shows {key : Nat} {y : PendCancel} {j : Nat} {x : Event}
    (due : (reed s d).cancels.find? (fun z => decide (z.key.toNat = key ∧ insWindow s d ≤ s.ticks - z.since)) = some y)
    (names : (reed s d).findLive (cancelOf s d y) = some (j, x)) :
    let m := 96 * d + x.chan
    (reed (expireCancel s d key) d).entry j = Event.init ∧ y ∉ (reed (expireCancel s d key) d).cancels ∧
      (x.chan < 96 → m < chanCount s → (chan s m).safe = false →
        (chan (expireCancel s d key) m).safe = true ∧ (chan (expireCancel s d key) m).cause = 5) := by
  intro m
  obtain ⟨s1, h1⟩ : ∃ s1, s1 = setReed s d { reed s d with cancels := (reed s d).cancels.filter (fun x => !decide (x = y)) } := ⟨_, rfl⟩
  obtain ⟨s2, h2⟩ : ∃ s2, s2 = retireEntry s1 d j := ⟨_, rfl⟩
  have is : expireCancel s d key = eventSafe s2 d x 5 := by
    unfold expireCancel
    dsimp only
    rw [due]
    dsimp only
    rw [names, h2, h1]
  have w1 : Within [.reeds] s s1 := h1 ▸ Within.setReed (.refl s) d _ (by decide) fun c _ => (Canonical.reed c d).of_ev rfl
  have w2 : Within [.regs, .evTick, .events, .reeds] s1 s2 := h2 ▸ retireEntry_within (.refl _) ..
  have dropped : y ∉ (reed s1 d).cancels := by
    rw [h1, reed_setReed_same]
    intro h
    have := (List.mem_filter.mp h).2
    simp at this
  have thin := eventSafe_thinned s2 d x 5
  have thin2 : Thinned s1 s2 := h2 ▸ retireEntry_thinned ..
  rw [is]
  refine ⟨thin.entry d j (h2 ▸ (retireEntry_entry s1 d j).1), fun h => dropped (thin2.cancels d y (thin.cancels d y h)),
    fun few there out => eventSafe_safe 5 few ?_ ?_⟩
  · unfold chanCount at there ⊢
    rwa [w2.part, w1.part]
  · rw [w2.chan, w1.chan]
    exact out

/-! ### A store to INS_3 -/

/-- What a third store leaves, whatever is decided: the result in the slot, and the effect of the decision on Reed's entries and its
page. -/
structure Decided (s t : State) (d i : Nat) (r : (Nat × Nat) × State) : Prop where
  shows : ∃ y, slotAt t d i = some y ∧ y.result = some r.1
  events : (reed t d).ev = (reed r.2 d).ev
  captured : ∀ {cause info}, Captured s r.2 (reedPg d) cause info → Captured s t (reedPg d) cause info

namespace Decided
variable {t : State} {i k : Nat}

theorem entry {r : (Nat × Nat) × State} (h : Decided s t d i r) (j : Nat) : (reed t d).entry j = (reed r.2 d).entry j := by
  unfold Reed.entry
  rw [h.events]

/-- An event that is not vital takes its entry, Armed. -/
theorem plain (h : Decided s t d i (insertEffect s d st e (.take k))) (plain : e.vital = false) :
    (∃ y, slotAt t d i = some y ∧ y.result = some (0, k)) ∧
    (reed t d).entry k = { e with comp := st.comp, pdie := st.die, since := s.ticks, st := .armed } ∧
    ∀ j, j ≠ k → (reed t d).entry j = (reed s d).entry j := by
  have is : insertEffect s d st e (.take k) = ((0, k), armEntry s d k { e with comp := st.comp, pdie := st.die, since := s.ticks }) :=
    if_neg (by rw [plain]; decide)
  rw [is] at h
  obtain ⟨own, others⟩ := armEntry_entry s d k { e with comp := st.comp, pdie := st.die, since := s.ticks }
  exact ⟨h.shows, (h.entry k).trans own, fun j ne => (h.entry j).trans (others j ne)⟩

/-- The first event of a vital pair takes its entry, Pending. -/
theorem first (h : Decided s t d i (insertEffect s d st e (.take k))) (vital : e.vital = true) :
    (∃ y, slotAt t d i = some y ∧ y.result = some (1, k)) ∧ ((reed t d).entry k).st = .pending ∧
    ((reed t d).entry k).sameWords e = true := by
  have is : insertEffect s d st e (.take k) = ((1, k), setReed s d ((reed s d).putEntry k
      { e with comp := st.comp, pdie := st.die, since := s.ticks, st := .pending })) := if_pos vital
  rw [is] at h
  refine ⟨h.shows, ?_⟩
  rw [h.entry k]
  dsimp only
  rw [reed_setReed_same, entry_putEntry_same]
  exact ⟨rfl, decide_eq_true ⟨rfl, rfl, rfl, rfl⟩⟩

/-- The second event of a vital pair with the words of the first arms it. -/
theorem second {p : Event} (h : Decided s t d i (insertEffect s d st e (.matched k p))) :
    (∃ y, slotAt t d i = some y ∧ y.result = some (0, k)) ∧ (reed t d).entry k = { p with st := .armed, since := s.ticks } :=
  ⟨h.shows, (h.entry k).trans (armEntry_entry s d k p).1⟩

/-- The second event of a vital pair with other words discards the first. -/
theorem other {p : Event} (h : Decided s t d i (insertEffect s d st e (.mismatch k p))) :
    (∃ y, slotAt t d i = some y ∧ y.result = some (11, k)) ∧ (reed t d).entry k = Event.init ∧ Captured s t (reedPg d) 9 e.key := by
  obtain ⟨gone, captured⟩ := mismatch_shows s d st e p k
  exact ⟨h.shows, (h.entry k).trans gone, h.captured captured⟩

end Decided

theorem ins3Store_decided {i : Nat} {v a b c : Word} {x : Decision} (holds : (reed s d).slotFor st = some i)
    (w0 : ((reed s d).slotAt i st).w0 = some a) (w1 : ((reed s d).slotAt i st).w1 = some b) (w2 : ((reed s d).slotAt i st).w2 = some c)
    (boot : s.safety ≠ .boot) (mire : s.safety ≠ .mire)
    (due : ∀ q ∈ (reed s d).ev, q.2.key = (eventOf a b c v).key → discardDue s d q.2 = false)
    (decision : decideInsert s d st (eventOf a b c v) = x) :
    Decided s (ins3Store s d st v) d i (insertEffect s d st (eventOf a b c v) x) := by
  obtain ⟨r, hr⟩ : ∃ r, r = insertEffect s d st (eventOf a b c v) x := ⟨_, rfl⟩
  have is := ins3Store_decides holds w0 w1 w2 boot mire due
  rw [decision, ← hr] at is
  rw [is, ← hr]
  obtain ⟨slot, events⟩ := putSlot_slot r.2 d i { (reed s d).slotAt i st with result := some r.1 }
  have w : Within [.reeds] r.2 (putSlot r.2 d i { (reed s d).slotAt i st with result := some r.1 }) := putSlot_within (.refl _) ..
  exact ⟨⟨_, slot, rfl⟩, events, fun h => h.after (w.rget _ _) (w.rget _ _) fun k => by rwa [w.rget]⟩

/-! ### A store to CANCEL -/

theorem cancelStore_shows {i : Nat} {v : Word} (holds : (reed s d).slotFor st = some i) :
    let t := cancelStore s d st v
    let r := cancelEffect s d st v
    (∃ y, slotAt t d i = some y ∧ y.result = some r.1) ∧ (reed t d).ev = (reed r.2 d).ev := by
  unfold cancelStore
  rw [holds]
  dsimp only
  obtain ⟨slot, events⟩ := putSlot_slot (cancelEffect s d st v).2 d i { (reed s d).slotAt i st with result := some (cancelEffect s d st v).1 }
  exact ⟨⟨_, slot, rfl⟩, events⟩

/-- A cancel of an event that is not vital decides by the live entry of its KEY and compartment. -/
theorem cancelEffect_plain {v : Word} (plain : bit v 35 = false) :
    (∀ k p, (reed s d).findLive (fun x => !x.vital && decide (x.key = fld v 11 0) && decide (x.comp = st.comp)) = some (k, p) →
      cancelEffect s d st v = ((13, k), freeEntry s d k)) ∧
    ((reed s d).findLive (fun x => !x.vital && decide (x.key = fld v 11 0) && decide (x.comp = st.comp)) = none →
      cancelEffect s d st v = ((15, 0), s)) := by
  unfold cancelEffect
  dsimp only
  rw [if_neg (by rw [plain]; decide)]
  refine ⟨fun k p found => ?_, fun none_ => ?_⟩
  · rw [found]
  · rw [none_]

/-! ### Expiry of a slot -/

theorem slotExpiry_frees {i : Nat} {x : Slot} (works : unitWorks s (diePg d 5) = true) (held : slotAt s d i = some x)
    (idle : 65536 ≤ s.ticks - x.last) :
    unitDo s (diePg d 5) (fun s =>
        let r := reed s d
        match kget (fun _ => (none : Option Slot)) r.slots i with
        | some x => if 65536 ≤ s.ticks - x.last then setReed s d { r with slots := kset (fun _ => none) r.slots i none } else s
        | none => s) =
      setReed s d { reed s d with slots := kset (fun _ => none) (reed s d).slots i none } := by
  refine (unitDo_of_works works _).trans ?_
  unfold slotAt at held
  dsimp only
  rw [held]
  exact if_pos idle

end

/-- Settles O40: slots, the decision of an insertion by the first row of Table 9.7 that applies, cancels, and what expires. -/
theorem eventInsertion : Obligations.EventInsertion := by
  unfold Obligations.EventInsertion
  intro s st die v second i k slot index key a b c d old e ahead diff running shows works
  have hd : d < 8 := die.isLt
  refine ⟨fun holds => ⟨?_, ?_, fun w0 w1 w2 boot mire due => ⟨fun stopped => ?_, ?_, ?_⟩, ?_, ?_⟩, ?_, fun reeds => ⟨?_, ?_⟩⟩
  · obtain ⟨slot, events⟩ := stageWith_slot (s := replyWord s 0) (fun x => { x with w0 := some v, w1 := none, w2 := none, result := none }) holds
    exact ⟨_, congrArg done (unitRequest_diePg hd (by decide) (by decide) works ..), events, slot⟩
  · obtain ⟨slot, events⟩ := stageWith_slot (s := replyWord s 0) (fun x => if second then { x with w2 := some v } else { x with w1 := some v }) holds
    exact ⟨_, congrArg done (unitRequest_diePg hd (by decide) (by cases second <;> decide) works ..), events, slot⟩
  · obtain ⟨shown, events, -⟩ := ins3Store_decided (s := replyWord s 0) holds w0 w1 w2 boot mire due (decideInsert_stopped stopped)
    exact ⟨_, congrArg done (unitRequest_diePg hd (by decide) (by decide) works ..), shown, events⟩
  · intro running plain words soon far count period key free room
    have takes := (decideInsert_accepts (s := replyWord s 0) (running.imp_right fun h => ⟨h, plain⟩) words (vitalRefused_plain plain) soon far
      count period key).1 k (pairPending_plain plain _) free room
    exact ⟨_, congrArg done (unitRequest_diePg hd (by decide) (by decide) works ..),
      (ins3Store_decided (s := replyWord s 0) holds w0 w1 w2 boot mire due takes).plain plain⟩
  · intro locked vital words requester soon far count period key
    obtain ⟨takes, meets⟩ := decideInsert_accepts (s := replyWord s 0) (.inl locked) words requester soon far count period key
    refine ⟨fun alone free room => ?_, fun p free pair same => ?_, fun p free pair differs => ?_⟩
    · exact ⟨_, congrArg done (unitRequest_diePg hd (by decide) (by decide) works ..),
        (ins3Store_decided (s := replyWord s 0) holds w0 w1 w2 boot mire due (takes k alone free room)).first vital⟩
    · exact ⟨_, congrArg done (unitRequest_diePg hd (by decide) (by decide) works ..),
        (ins3Store_decided (s := replyWord s 0) holds w0 w1 w2 boot mire due ((meets k p pair free).trans (if_pos same))).second⟩
    · obtain ⟨shown, gone, captured⟩ := (ins3Store_decided (s := replyWord s 0) holds w0 w1 w2 boot mire due
        ((meets k p pair free).trans (if_neg (by rw [differs]; decide)))).other
      exact ⟨_, congrArg done (unitRequest_diePg hd (by decide) (by decide) works ..), shown, gone, captured.of_before rfl rfl⟩
  · intro plain p found
    obtain ⟨shown, events⟩ := cancelStore_shows (s := replyWord s 0) (v := v) holds
    have effect_ := (cancelEffect_plain (s := replyWord s 0) plain).1 k p found
    rw [effect_] at shown events
    refine ⟨_, congrArg done (unitRequest_diePg hd (by decide) (by decide) works ..), shown, ?_⟩
    unfold Reed.entry
    rw [events]
    exact (freeEntry_entry (replyWord s 0) d k).1
  · intro plain none_
    obtain ⟨shown, events⟩ := cancelStore_shows (s := replyWord s 0) (v := v) holds
    have effect_ := (cancelEffect_plain (s := replyWord s 0) plain).2 none_
    rw [effect_] at shown events
    exact ⟨_, congrArg done (unitRequest_diePg hd (by decide) (by decide) works ..), shown, events⟩
  · intro x held idle
    refine ⟨_, congrArg done (slotExpiry_frees works held idle), ?_, ?_, rfl⟩
    · unfold slotAt
      rw [reed_setReed_same]
      exact kget_kset_same (fun _ => (none : Option Slot)) (reed s d).slots slot.toNat none
    · rw [reed_setReed_same]
  · intro x m pending late
    have due : discardDue s d ((reed s d).entry index.toNat) = true := by
      have late' : insWindow s d ≤ s.ticks - x.since ∨
          stampTicks s x.refNo (stampDiff x.trig (refNow s x.refNo)) ≤ 25 * (ticksPerUs : Int) := late
      show (x.st == .pending && _) = true
      rw [pending, Bool.and_eq_true, Bool.or_eq_true, decide_eq_true_iff, decide_eq_true_iff]
      exact ⟨rfl, late'⟩
    exact ⟨_, congrArg done ((unitDo_of_works reeds _).trans (if_pos due)), discard_shows s d index.toNat⟩
  · intro y j x overdue names
    exact ⟨_, congrArg done (unitDo_of_works reeds _), expireCancel_shows overdue names⟩

end Sys2Proof.Machine

namespace Sys2Proof.Machine
open Sys2Proof
set_option Elab.async false

/-! ## Dispatch and firing of events (R440 to R443, R447, R449, R470, R475, R478, R493, R713) -/

section
variable {s t : State} {d k : Nat}

/-! ### Dispatch and what follows a firing -/

/-- A write of an entry that holds an event takes no Free one. -/
theorem putEntry_thinned (live : ((reed s d).entry k).live = true) (e : Event) : Thinned s (setReed s d ((reed s d).putEntry k e)) := by
  refine ⟨fun c j empty => ?_, fun c y h => ?_, fun c => ?_, fun _ => ⟨rfl, rfl⟩, fun _ _ => id⟩
  all_goals by_cases die : c = d
  · subst die
    rw [reed_setReed_same, entry_putEntry_other _ _ fun same => ?_]
    · exact empty
    · rw [← same, empty] at live
      exact absurd live (by decide)
  · rw [reed_setReed_other _ die]
    exact empty
  · subst die
    rwa [reed_setReed_same] at h
  · rwa [reed_setReed_other _ die] at h
  · subst die
    rw [reed_setReed_same]
    rfl
  · rw [reed_setReed_other _ die]

/-- The loss of an event that Holdover refuses (R442). -/
theorem heldBack_shows (s : State) (d k : Nat) :
    let e := (reed s d).entry k
    let m := 96 * d + e.chan
    let t := eventSafe (retireEntry s d k) d e 7
    (reed t d).entry k = Event.init ∧
      (e.chan < 96 → m < chanCount s → (chan s m).safe = false → (chan t m).safe = true ∧ (chan t m).cause = 7) := by
  intro e m t
  have w : Within [.regs, .evTick, .events, .reeds] s (retireEntry s d k) := retireEntry_within (.refl s) ..
  refine ⟨(eventSafe_thinned ..).entry d k (retireEntry_entry s d k).1, fun names there out => eventSafe_safe 7 names ?_ ?_⟩
  · unfold chanCount at there ⊢
    rwa [w.part]
  · rw [w.chan]
    exact out

theorem dispatch_thinned (live : ((reed s d).entry k).live = true) : Thinned s (dispatch s d k) :=
  .ite ((retireEntry_thinned ..).trans (eventSafe_thinned ..)) (.ite (retireEntry_thinned ..) (putEntry_thinned live _))

/-- The entry of a series as it goes on after a firing (R443). -/
def nextOf (e : Event) : Event :=
  { e with
    trig := e.trig + e.period
    dispatched := false
    st := .armed
    ctrl := if e.count = 4095 then e.ctrl else setFld e.ctrl 20 9 (e.count - 1) }

theorem nextOf_count {e : Event} (h : e.count ≠ 0) : (nextOf e).count = if e.count = 4095 then 4095 else e.count - 1 := by
  have small : e.count < 4096 := fld_lt e.ctrl 20 9
  show fld (if e.count = 4095 then e.ctrl else setFld e.ctrl 20 9 (e.count - 1)) 20 9 = _
  split
  next all => exact all
  · rw [fld_setFld_same _ _ _ _ (by decide), Nat.mod_eq_of_lt (by omega)]

/-- After its firing an event that is the last of its series is Free, and another goes on. -/
theorem afterFiring_one (live : ((reed s d).entry k).live = true) (last : ((reed s d).entry k).count = 0) :
    afterFiring s d k = freeEntry s d k := by
  unfold afterFiring
  dsimp only
  rw [if_neg (by rw [live]; decide), if_pos last]

theorem afterFiring_series (live : ((reed s d).entry k).live = true) (more : ((reed s d).entry k).count ≠ 0) :
    afterFiring s d k =
      let t := setReed s d ((reed s d).putEntry k (nextOf ((reed s d).entry k)))
      if stampTicks s ((reed s d).entry k).refNo (((reed s d).entry k).period.toNat : Int) < 20 * (ticksPerUs : Int) then dispatch t d k
      else t := by
  unfold afterFiring
  dsimp only
  rw [if_neg (by rw [live]; decide), if_neg more]
  rfl

theorem afterFiring_thinned (s : State) (d k : Nat) : Thinned s (afterFiring s d k) := by
  by_cases live : ((reed s d).entry k).live = true
  · by_cases last : ((reed s d).entry k).count = 0
    · rw [afterFiring_one live last]
      exact freeEntry_thinned ..
    · rw [afterFiring_series live last]
      have goes := putEntry_thinned live (nextOf ((reed s d).entry k))
      refine .ite (goes.trans (dispatch_thinned ?_)) goes
      rw [reed_setReed_same, entry_putEntry_same]
      rfl
  · have is : afterFiring s d k = s := if_pos (Bool.not_eq_true _ ▸ live)
    rw [is]
    exact .refl s

/-- The next dispatch of a series lies 20 µs ahead, or there is none. -/
def Later (s : State) (e : Event) : Prop := e.count = 0 ∨ 6000 ≤ stampTicks s e.refNo (e.period.toNat : Nat)

/-- After a firing, Reed alone has changed: the entry is Free, or goes on. -/
theorem afterFiring_later (live : ((reed s d).entry k).live = true) (later : Later s ((reed s d).entry k)) :
    let e := (reed s d).entry k
    let t := afterFiring s d k
    t = { s with reeds := t.reeds } ∧ (e.count = 0 → (reed t d).entry k = Event.init) ∧
      (e.count ≠ 0 → (reed t d).entry k = nextOf e) := by
  intro e t
  by_cases last : e.count = 0
  · have is : t = freeEntry s d k := afterFiring_one live last
    rw [is]
    exact ⟨rfl, fun _ => (freeEntry_entry s d k).1, fun h => absurd last h⟩
  · have far : ¬ stampTicks s e.refNo (e.period.toNat : Int) < 20 * (ticksPerUs : Int) := by
      have at_ : 6000 ≤ stampTicks s e.refNo (e.period.toNat : Nat) := later.resolve_left last
      have : (ticksPerUs : Int) = 300 := rfl
      omega
    have is : t = setReed s d ((reed s d).putEntry k (nextOf e)) := (afterFiring_series live last).trans (if_neg far)
    rw [is, reed_setReed_same]
    exact ⟨rfl, fun h => absurd h last, fun _ => entry_putEntry_same ..⟩

/-! ### The drive of an action -/

variable {m : Nat} {f : State → State}

/-- The registers that a late edge of a die writes. -/
def lateRegs (d : Nat) (p off : Nat) : Prop := p = reedPg d ∧ (off = 6 ∨ off = 7 ∨ off = 9 ∨ off = 21)

theorem lateEdge_kept (s : State) (d k m : Nat) : Within [.regs, .evTick, .events] s (lateEdge s d k m) ∧
    RegsKept s (lateEdge s d k m) (lateRegs d) := by
  refine ⟨lateEdge_within (.refl s) .., .ite ?_ (.refl s _)⟩
  exact RegsKept.trans (RegsKept.trans (.capture _ _ _ ⟨⟨rfl, .inl rfl⟩, ⟨rfl, .inr (.inl rfl)⟩, ⟨rfl, .inr (.inr (.inl rfl))⟩⟩)
    (.rinc _ _ _ (by decide) ⟨rfl, .inr (.inr (.inr rfl))⟩)) (.irqPend _ _ ⟨rfl, .inr (.inr (.inl rfl))⟩)

/-- What taking effect at the gate drive leaves of an action: the channel but for its gate drive, the other channels, and every
register but those of a late edge. -/
theorem drive_kept (s : State) (d k m : Nat) (f : State → State) :
    Redriven (chan (f s) m) (chan (drive s d k m f) m) ∧ ChansKept (f s) (drive s d k m f) m ∧
    Within [.chans, .fresh, .regs, .evTick, .events] (f s) (drive s d k m f) ∧ RegsKept (f s) (drive s d k m f) (lateRegs d) := by
  obtain ⟨u, hu⟩ : ∃ u, u = if gdWanted (f s) m != (chan (f s) m).gdNext then lateEdge (f s) d k m else f s := ⟨_, rfl⟩
  have at_ : Within [.regs, .evTick, .events] (f s) u ∧ RegsKept (f s) u (lateRegs d) := by
    obtain ⟨w, kept⟩ := lateEdge_kept (f s) d k m
    exact hu ▸ ⟨.ite w (.refl _), .ite kept (.refl _ _)⟩
  obtain ⟨w, kept⟩ := at_
  obtain ⟨own, others, wa⟩ := applyGd_kept u m
  have is : drive s d k m f = applyGd u m := hu ▸ rfl
  rw [is]
  refine ⟨?_, fun n h => (others n h).trans (w.chan n), (w.mono (by decide)).trans (wa.mono (by decide)),
    RegsKept.trans kept (.of_within wa _)⟩
  rw [← w.chan]
  exact own

/-- Half a stamp's value in fabric cycles rests on no register of Reed. -/
theorem stampTicks_of_late {t : State} (refs : t.refs = s.refs) (kept : RegsKept s t (lateRegs d)) {i : Nat} (hi : i < 8) (n : Int) :
    stampTicks t i n = stampTicks s i n := by
  have reads {o : Nat} (ho : o < 512) : rget t phrefPg o = rget s phrefPg o := kept _ _ ho fun e => by
    have := (pkgPg_mod (p := 1) (by decide)).symm.trans ((congrArg (· % 2048) e.1).trans (diePg_mod d (p := 4) (by decide)))
    omega
  unfold stampTicks refPeriod refSrc rfld ref
  rw [reads (by omega), reads (by omega), refs]

/-! ### An output event at its trigger -/

theorem refNo_lt (e : Event) : e.refNo < 8 := fld_lt e.ctrl 35 33

theorem triggered_parts {action : Nat} (h : triggered s d k action = true) :
    ((reed s d).entry k).live = true ∧ ((reed s d).entry k).action = action ∧ s.safety ≠ .boot ∧ s.safety ≠ .mire := by
  unfold triggered reedFires at h
  simp only [Bool.and_eq_true, bne_iff_ne, decide_eq_true_iff] at h
  obtain ⟨⟨⟨⟨⟨⟨-, boot⟩, mire⟩, live⟩, -⟩, action⟩, -⟩ := h
  exact ⟨live, action, boot, mire⟩

/-- An output event may act: its channel is up and not safe, its commit is there where it is vital, and its series is done or goes on
later. -/
structure Permitted (s : State) (e : Event) (m : Nat) : Prop where
  up : chanUp s m = true
  out : (chan s m).safe = false
  later : Later s e
  commit : e.vital = false ∨ ∃ c, commitFor s m e = some c ∧ c.action = e.action ∧ c.arg = e.argv

/-- An action on a channel alone. -/
structure ActsOn (s t : State) (m : Nat) : Prop where
  within : Within [.chans] s t
  others : ChansKept s t m

theorem fireOutput_acts {act : Event → State → State} (permitted : Permitted s ((reed s d).entry k) (96 * d + ((reed s d).entry k).chan)) :
    fireOutput s d k act = afterFiring (drive s d k (96 * d + ((reed s d).entry k).chan) (act ((reed s d).entry k))) d k := by
  obtain ⟨up, out, -, commit⟩ := permitted
  unfold fireOutput
  dsimp only
  rw [if_neg (by rw [up, out]; decide)]
  rcases commit with plain | ⟨c, found, same⟩
  · rw [if_neg (by rw [plain]; decide)]
  · rw [found]
    dsimp only
    rw [if_pos same, ite_self]

/-- An output event that acts: its channel is as the action leaves it, with the gate drive as it asks when no edge is near; the
other channels are as they were; and the event is Free, or goes on. -/
theorem fireOutput_fires {act : Event → State → State} {action : Nat} (trig : triggered s d k action = true) :
    let e := (reed s d).entry k
    let m := 96 * d + e.chan
    let z := chan (act e s) m
    let t := fireOutput s d k act
    Permitted s e m → ActsOn s (act e s) m →
      Redriven z (chan t m) ∧ (Settled z (gdWanted (act e s) m) s.ticks → (chan t m).gd = gdWanted (act e s) m) ∧
      ChansKept s t m ∧ (e.count = 0 → (reed t d).entry k = Event.init) ∧ (e.count ≠ 0 → (reed t d).entry k = nextOf e) := by
  intro e m z t permitted acts
  obtain ⟨live, -, -, -⟩ := triggered_parts trig
  obtain ⟨own, others, w, kept⟩ := drive_kept s d k m (act e)
  obtain ⟨u, hu⟩ : ∃ u, u = drive s d k m (act e) := ⟨_, rfl⟩
  rw [← hu] at own others w kept
  have is : t = afterFiring u d k := hu ▸ fireOutput_acts permitted
  have entry : (reed u d).entry k = e := by rw [w.reed, acts.within.reed]
  have later : Later u ((reed u d).entry k) := by
    rw [entry]
    refine permitted.later.imp_right fun h => ?_
    rwa [stampTicks_of_late (w.refs.trans acts.within.refs)
      (RegsKept.trans (.of_within acts.within _) kept) (refNo_lt e)]
  obtain ⟨rest, last, goes⟩ := afterFiring_later (by rw [entry]; exact live) later
  rw [entry] at last goes
  have chans : chan t = chan u := by
    rw [is, rest]
    rfl
  rw [chans]
  refine ⟨own, fun settled => ?_, fun n h => (congrFun chans n).trans ((others n h).trans (acts.others n h)), is ▸ last, is ▸ goes⟩
  have drives : u = applyGd (act e s) m := hu.trans (drive_settled d k (by rw [acts.within.ticks]; exact settled))
  rw [drives]
  exact (applyGd_settled (by rw [acts.within.ticks]; exact settled)).1

/-! ### An output event that is refused -/

theorem fireOutput_retires {act : Event → State → State}
    (refused : chanUp s (96 * d + ((reed s d).entry k).chan) = false ∨ (chan s (96 * d + ((reed s d).entry k).chan)).safe = true) :
    fireOutput s d k act = retireEntry s d k := if_pos refused

/-- A count of 18 bits saturates. -/
theorem fld_incSat_low (w : Word) : fld (incSat w 17 0) 17 0 = min 262143 (fld w 17 0 + 1) := by
  have small : fld w 17 0 < 2 ^ 18 := fld_lt w 17 0
  unfold incSat
  split <;> rw [fld_setFld_same _ _ _ _ (by decide)] <;> omega

theorem retireEntry_counts (s : State) (d k : Nat) : (retireEntry s d k).chans = s.chans ∧
    fld (rget (retireEntry s d k) (reedPg d) 20) 17 0 = min 262143 (fld (rget s (reedPg d) 20) 17 0 + 1) := by
  have w : Within [.regs, .evTick, .events, .reeds] s (retireEntry s d k) := retireEntry_within (.refl s) ..
  have wf : Within [.reeds] s (freeEntry s d k) := freeEntry_within (.refl s) ..
  refine ⟨w.chans, ?_⟩
  unfold retireEntry
  rw [rget_irqPend _ _ _ (by decide), if_neg fun h => absurd h.2 (by decide)]
  unfold rinc
  rw [rget_rset_same, wf.rget, fld_incSat_low]

/-- A vital event at its trigger without its commit, or with another one. -/
theorem fireOutput_unvoted {act : Event → State → State} (up : chanUp s (96 * d + ((reed s d).entry k).chan) = true)
    (out : (chan s (96 * d + ((reed s d).entry k).chan)).safe = false) (vital : ((reed s d).entry k).vital = true) :
    let e := (reed s d).entry k
    let m := 96 * d + e.chan
    let t := fireOutput s d k act
    (commitFor s m e = none → (reed t d).entry k = Event.init ∧ (chan t m).safe = true ∧ (chan t m).cause = 3) ∧
    (∀ y, commitFor s m e = some y → (y.action ≠ e.action ∨ y.arg ≠ e.argv) →
      (reed t d).entry k = Event.init ∧ (chan t m).safe = true ∧ (chan t m).cause = 4) := by
  intro e m t
  have gone := (retireEntry_entry s d k).1
  have w : Within [.regs, .evTick, .events, .reeds] s (retireEntry s d k) := retireEntry_within (.refl s) ..
  have refused : ¬ (chanUp s m = false ∨ (chan s m).safe = true) := by
    rw [up, out]
    decide
  refine ⟨fun none_ => ?_, fun y found differs => ?_⟩
  · obtain ⟨u, hu⟩ : ∃ u, u = rinc (retireEntry s d k) (sluicePg (m / 24)) 23 17 0 := ⟨_, rfl⟩
    have wu : Within [.regs] (retireEntry s d k) u := hu ▸ rinc_within (.refl _) ..
    have is : t = safeEnter u m 3 e.key 0 := by
      refine hu ▸ ((if_neg refused).trans (if_pos vital)).trans ?_
      rw [none_]
    rw [is]
    exact ⟨(safeEnter_thinned ..).entry d k (by rw [wu.reed, gone]), (safeEnter_safe 3 e.key 0 (by rw [wu.chan, w.chan]; exact out)).1.safe⟩
  · have is : t = safeEnter (retireEntry s d k) m 4 e.key 0 := by
      refine ((if_neg refused).trans (if_pos vital)).trans ?_
      rw [found]
      exact if_neg fun h => differs.elim (fun n => n h.1) fun n => n h.2
    rw [is]
    exact ⟨(safeEnter_thinned ..).entry d k gone, (safeEnter_safe 4 e.key 0 (by rw [w.chan]; exact out)).1.safe⟩

/-! ### The actions -/

/-- A channel dark without a burst asks for no gate drive, but for a phase-controlled Lamp. -/
theorem gdWanted_dark (mode : chMode s m = 4 ∨ (chMode s m = 1 ∧ chLed s m = true)) (dark : (chan s m).lit = false)
    (idle : (chan s m).burstOn = false) : gdWanted s m = false := by
  rcases mode with mode | ⟨mode, led⟩
  · exact gdWanted_unlit mode idle (.inl dark)
  by_cases boot : s.safety = .boot
  · exact gdWanted_low (.inl boot)
  unfold gdWanted lampLevel pwmHigh
  dsimp only
  rw [if_neg boot, if_pos mode, if_pos led, dark, led]
  exact Bool.and_false _

/-- A Generic channel lit at its full level, or in a burst, asks for its gate drive. -/
theorem gdWanted_driven (run : s.safety ≠ .boot) (mode : chMode s m = 4) (out : (chan s m).safe = false)
    (on : (chan s m).burstOn = true ∨ ((chan s m).lit = true ∧ (chan s m).level = 65535)) : gdWanted s m = true := by
  unfold gdWanted
  dsimp only
  rw [if_neg run, if_neg (by omega), if_neg (by omega), if_neg (by omega), if_pos mode, out]
  rcases on with burst | ⟨lit, full⟩
  · rw [burst]
    rfl
  · have high : pwmHigh s m (chan s m).level = true := if_pos (by omega)
    rw [lit, high, Bool.and_self, Bool.or_true]
    rfl

/-- A channel's light and level, and when its proving goes on. -/
theorem setLit_record (s : State) (m : Nat) (lit : Bool) (level : Nat) :
    (∃ changed skip, chan (setLit s m lit level) m = { chan s m with
      lit := lit
      level := level
      changed := changed
      skip := skip }) ∧ ActsOn s (setLit s m lit level) m := by
  obtain ⟨-, -, -, -, others⟩ := setLit_chan s m lit level
  refine ⟨?_, setLit_within (.refl s) .., fun n h => others n h⟩
  unfold setLit
  dsimp only
  split
  next same => exact ⟨(chan s m).changed, (chan s m).skip, by rw [← same.1, ← same.2]⟩
  · split
    · exact ⟨true, (chan s m).skip, chan_setChan_same ..⟩
    · exact ⟨(chan s m).changed, 1, chan_setChan_same ..⟩

theorem gdonAct_lights (s : State) (m : Nat) : (∃ changed skip, chan (gdonAct s m) m = { chan s m with
    lit := true
    changed := changed
    skip := skip }) ∧ ActsOn s (gdonAct s m) m := setLit_record s m true (chan s m).level

theorem setChan_acts (s : State) (m : Nat) (z : Chan) : ActsOn s (setChan s m z) m :=
  ⟨setChan_within (.refl s) .., fun _ h => chan_setChan_other _ h⟩

/-- A burst asks for the gate drive of a Heater and of a Generic channel. -/
theorem gdWanted_burst (run : s.safety ≠ .boot) (mode : chMode s m = 2 ∨ chMode s m = 4) (out : (chan s m).safe = false)
    (on : (chan s m).burstOn = true) : gdWanted s m = true := by
  rcases mode with heater | generic
  · rw [gdWanted_heater run heater, out, on]
    rfl
  · exact gdWanted_driven run generic out (.inl on)

/-- A lit Lamp or Generic channel at its full level asks for its gate drive. -/
theorem gdWanted_lit (run : s.safety ≠ .boot) (mode : chMode s m = 1 ∨ chMode s m = 4) (out : (chan s m).safe = false)
    (lit : (chan s m).lit = true) (full : (chan s m).level = 65535) : gdWanted s m = true := by
  rcases mode with lamp | generic
  · exact gdWanted_full run lamp out lit (by omega)
  · exact gdWanted_driven run generic out (.inr ⟨lit, full⟩)

theorem gdoffAct_acts (s : State) (m k : Nat) (e : Event) : ActsOn s (gdoffAct s m k e) m := by
  unfold gdoffAct
  dsimp only
  split
  · split <;> exact setChan_acts ..
  · obtain ⟨-, w, others⟩ := setLit_record s m false (chan s m).level
    exact ⟨w.trans (setChan_acts ..).within, fun n h => (chan_setChan_other _ h).trans (others n h)⟩

/-- The crossing of an event whose trigger lies at one, or between two. -/
theorem nextCrossing_at {w : Word} (at_ : w.toNat % 2 ^ 24 = 0) : nextCrossing w = w.toNat := by
  have := w.isLt
  unfold nextCrossing
  omega

theorem nextCrossing_between {w : Word} (between : w.toNat % 2 ^ 24 ≠ 0) :
    nextCrossing w = (w.toNat / 2 ^ 24 + 1) * 2 ^ 24 % 2 ^ 36 ∧ nextCrossing w ≠ w.toNat := by
  have := w.isLt
  unfold nextCrossing
  omega

/-- GDOFF of a Lamp or a Generic channel unlights it and ends its bursts. -/
theorem gdoffAct_unlights {e : Event} (notHeater : chMode s m ≠ 2) : ∃ changed skip, chan (gdoffAct s m k e) m = { chan s m with
    lit := false
    changed := changed
    skip := skip
    burstOn := false
    burstArm := []
    offArm := [] } := by
  obtain ⟨⟨changed, skip, is⟩, -⟩ := setLit_record s m false (chan s m).level
  refine ⟨changed, skip, ?_⟩
  unfold gdoffAct
  dsimp only
  rw [if_neg notHeater, chan_setChan_same, is]

/-- GDOFF of a Heater at a crossing ends its burst, and one between two waits for the next. -/
theorem gdoffAct_now {e : Event} (heater : chMode s m = 2) (at_ : e.trig.toNat % 2 ^ 24 = 0) :
    ∃ arm, chan (gdoffAct s m k e) m = { chan s m with
      burstOn := false
      burstArm := arm } := by
  unfold gdoffAct
  dsimp only
  rw [if_pos heater, if_pos (nextCrossing_at at_)]
  exact ⟨_, chan_setChan_same ..⟩

theorem gdoffAct_later {e : Event} (heater : chMode s m = 2) (between : e.trig.toNat % 2 ^ 24 ≠ 0) :
    ∃ arm, chan (gdoffAct s m k e) m = { chan s m with
      burstArm := arm
      offArm := armFor { ref := e.refNo, idx := k, at_ := (e.trig.toNat / 2 ^ 24 + 1) * 2 ^ 24 % 2 ^ 36, arg := 0 } (chan s m).offArm } := by
  obtain ⟨next_, later⟩ := nextCrossing_between between
  unfold gdoffAct
  dsimp only
  rw [if_pos heater, if_neg later, next_]
  exact ⟨_, chan_setChan_same ..⟩

/-- BURST at a crossing begins the burst, and one between two waits for the next. -/
theorem burstAct_now {e : Event} (at_ : e.trig.toNat % 2 ^ 24 = 0) :
    ∃ arm, chan (burstAct s m k e) m = { chan s m with
      burstOn := true
      burstRef := e.refNo
      burstIdx := k
      burstArm := arm
      burstFrom := e.trig
      burstLeft := e.argv * 2 ^ 24 } := by
  refine ⟨(chan s m).burstArm.filter (fun b => b.ref != e.refNo), ?_⟩
  unfold burstAct
  dsimp only
  rw [nextCrossing_at at_, if_pos rfl, chan_setChan_same]
  unfold Chan.burst
  dsimp only
  rw [BitVec.ofNat_toNat, BitVec.setWidth_eq]

theorem burstAct_later {e : Event} (between : e.trig.toNat % 2 ^ 24 ≠ 0) :
    chan (burstAct s m k e) m = { chan s m with
      burstArm := armFor { ref := e.refNo, idx := k, at_ := (e.trig.toNat / 2 ^ 24 + 1) * 2 ^ 24 % 2 ^ 36, arg := e.argv } (chan s m).burstArm } := by
  obtain ⟨next_, later⟩ := nextCrossing_between between
  unfold burstAct
  dsimp only
  rw [if_neg later, next_, chan_setChan_same]

/-- A command of an output action fires the event where it is triggered. -/
def Outputs (d k : Nat) (c : Instr) (action : Nat) (act : Event → State → State) : Prop :=
  (∀ s, exec c s = done (if triggered s d k action then fireOutput s d k act else s)) ∧
    ∀ s e, ActsOn s (act e s) (96 * d + e.chan)

theorem outputs_gdon (die : BitVec 3) (index : BitVec 12) :
    Outputs die.toNat index.toNat (.gdon die index) 1 (fun e s => gdonAct s (96 * die.toNat + e.chan)) :=
  ⟨fun _ => rfl, fun _ _ => (setLit_record ..).2⟩

theorem outputs_gdoff (die : BitVec 3) (index : BitVec 12) :
    Outputs die.toNat index.toNat (.gdoff die index) 2 (fun e s => gdoffAct s (96 * die.toNat + e.chan) index.toNat e) :=
  ⟨fun _ => rfl, fun _ _ => gdoffAct_acts ..⟩

theorem outputs_level (die : BitVec 3) (index : BitVec 12) :
    Outputs die.toNat index.toNat (.level die index) 3
      (fun e s => setLit s (96 * die.toNat + e.chan) (chan s (96 * die.toNat + e.chan)).lit (e.argv % 65536)) :=
  ⟨fun _ => rfl, fun _ _ => (setLit_record ..).2⟩

theorem outputs_burst (die : BitVec 3) (index : BitVec 12) :
    Outputs die.toNat index.toNat (.burst die index) 4 (fun e s => burstAct s (96 * die.toNat + e.chan) index.toNat e) :=
  ⟨fun _ => rfl, fun _ _ => setChan_acts ..⟩

theorem outputs_toggle (die : BitVec 3) (index : BitVec 12) :
    Outputs die.toNat index.toNat (.toggle die index) 5
      (fun e s => setLit s (96 * die.toNat + e.chan) (!(chan s (96 * die.toNat + e.chan)).lit) (chan s (96 * die.toNat + e.chan)).level) :=
  ⟨fun _ => rfl, fun _ _ => (setLit_record ..).2⟩

section
variable {c : Instr} {action : Nat} {act : Event → State → State} {e : Event}

/-- What a command of an output action shows of its channel when its event may act. -/
theorem Outputs.fires (outputs : Outputs d k c action act) (trig : triggered s d k action = true) (he : (reed s d).entry k = e)
    (hm : 96 * d + e.chan = m) (permitted : Permitted s e m) :
    ∃ t, exec c s = .next t ∧ Redriven (chan (act e s) m) (chan t m) ∧
      ∀ v, (chan (act e s) m).edges = (chan s m).edges → (chan (act e s) m).gdSince = (chan s m).gdSince → Spaced (chan s m) s.ticks →
        gdWanted (act e s) m = v → (chan t m).gd = v := by
  subst he hm
  obtain ⟨runs, acts⟩ := outputs
  obtain ⟨own, gd, -⟩ := fireOutput_fires trig permitted (acts s _)
  refine ⟨_, (runs s).trans (congrArg done (if_pos trig)), own, fun v edges since near wanted => ?_⟩
  have settled (v : Bool) : Settled (chan (act ((reed s d).entry k) s) (96 * d + ((reed s d).entry k).chan)) v s.ticks :=
    Spaced.settled ⟨edges.trans near.1, by rw [since]; exact near.2⟩ v
  rw [gd (settled _), wanted]

/-- A command of an output action, at whatever outcome. -/
theorem Outputs.outcomes (outputs : Outputs d k c action act) (trig : triggered s d k action = true) (he : (reed s d).entry k = e)
    (hm : 96 * d + e.chan = m) :
    (Permitted s e m → ∃ t, exec c s = .next t ∧ (e.count = 0 → (reed t d).entry k = Event.init) ∧
      (e.count ≠ 0 → (reed t d).entry k = nextOf e) ∧ ChansKept s t m) ∧
    (chanUp s m = false ∨ (chan s m).safe = true → ∃ t, exec c s = .next t ∧ (reed t d).entry k = Event.init ∧ t.chans = s.chans ∧
      fld (rget t (reedPg d) 20) 17 0 = min 262143 (fld (rget s (reedPg d) 20) 17 0 + 1)) ∧
    (chanUp s m = true → (chan s m).safe = false → e.vital = true →
      (commitFor s m e = none → ∃ t, exec c s = .next t ∧ (reed t d).entry k = Event.init ∧ (chan t m).safe = true ∧
        (chan t m).cause = 3) ∧
      (∀ y, commitFor s m e = some y → (y.action ≠ e.action ∨ y.arg ≠ e.argv) →
        ∃ t, exec c s = .next t ∧ (reed t d).entry k = Event.init ∧ (chan t m).safe = true ∧ (chan t m).cause = 4)) := by
  subst he hm
  obtain ⟨runs, acts⟩ := outputs
  have run : exec c s = .next (fireOutput s d k act) := (runs s).trans (congrArg done (if_pos trig))
  refine ⟨fun permitted => ?_, fun refused => ?_, fun up out vital => ?_⟩
  · obtain ⟨-, -, others, last, goes⟩ := fireOutput_fires trig permitted (acts s _)
    exact ⟨_, run, last, goes, others⟩
  · refine ⟨_, run, ?_⟩
    rw [fireOutput_retires refused]
    exact ⟨(retireEntry_entry s d k).1, retireEntry_counts ..⟩
  · obtain ⟨absent, other⟩ := fireOutput_unvoted (act := act) up out vital
    exact ⟨fun none_ => ⟨_, run, absent none_⟩, fun y found differs => ⟨_, run, other y found differs⟩⟩

end

/-! ### Bursts that end, MARK, IRQ and the reads -/

/-- The crossing at which a burst ends. -/
theorem burstEnd_ends {ch : BitVec 10} (clock : clocked s = true) (up : chanUp s ch.toNat = true) (on : (chan s ch.toNat).burstOn = true)
    (over_ : ((chan s ch.toNat).burstLeft : Int) ≤ stampDiff (refNow s (chan s ch.toNat).burstRef) (chan s ch.toNat).burstFrom) :
    ∃ t, exec (.burstEnd ch) s = .next t ∧ (chan t ch.toNat).burstOn = false ∧
      (Spaced (chan s ch.toNat) s.ticks → chMode s ch.toNat = 2 → (chan t ch.toNat).gd = false) ∧ ChansKept s t ch.toNat := by
  obtain ⟨k, hk⟩ : ∃ k, k = ch.toNat := ⟨_, rfl⟩
  have run : exec (.burstEnd ch) s = .next (drive s (k / 96) (chan s k).burstIdx k (fun u => setChan u k { chan s k with burstOn := false })) := by
    rw [hk]
    exact if_pos ⟨clock, up, on, over_⟩
  rw [← hk] at up on over_ ⊢
  obtain ⟨f, hf⟩ : ∃ f : State → State, f = fun u => setChan u k { chan s k with burstOn := false } := ⟨_, rfl⟩
  rw [← hf] at run
  have at_ : f s = setChan s k { chan s k with burstOn := false } := congrFun hf s
  obtain ⟨⟨_, _, _, _, own⟩, others, -, -⟩ := drive_kept s (k / 96) (chan s k).burstIdx k f
  have z : chan (f s) k = { chan s k with burstOn := false } := by rw [at_, chan_setChan_same]
  have w : Within [.chans] s (f s) := at_ ▸ setChan_within (.refl s) ..
  refine ⟨_, run, by rw [own, z], fun near heater => ?_, fun n h => (others n h).trans (at_ ▸ chan_setChan_other _ h)⟩
  have wanted : gdWanted (f s) k = false :=
    gdWanted_heater_off ((chMode_within (w.mono (by decide)) k).trans heater) (congrArg Chan.burstOn z :)
  have settled : Settled (chan (f s) k) (gdWanted (f s) k) (f s).ticks := by
    rw [z, w.ticks]
    exact Spaced.settled near _
  rw [drive_settled _ _ settled, (applyGd_settled settled).1, wanted]

/-- MARK closes the metering interval of a Heater (R478). -/
theorem mark_closes {die : BitVec 3} {index : BitVec 12} {e : Event} (he : (reed s die.toNat).entry index.toNat = e)
    (hm : 96 * die.toNat + e.chan = m) (trig : triggered s die.toNat index.toNat 6 = true) (later : Later s e) (names : e.chan < 96)
    (up : chanUp s m = true) (heater : chMode s m = 2) :
    ∃ t, exec (.mark die index) s = .next t ∧ (chan t m).enlast = (chan s m).enacc ∧ (chan t m).enacc = 0 ∧
      (chan t m).cycles = (chan s m).cyclesNow ∧ (chan t m).gd = (chan s m).gd ∧ ChansKept s t m := by
  obtain ⟨u, hu⟩ : ∃ u, u = setChan s m { chan s m with
      enlast := (chan s m).enacc
      enacc := 0
      cycles := (chan s m).cyclesNow
      cyclesNow := 0 } := ⟨_, rfl⟩
  have marks : markAct s m = u := hu ▸ if_pos heater
  have run : exec (.mark die index) s = .next (afterFiring u die.toNat index.toNat) := by
    refine congrArg done ((if_pos trig).trans ?_)
    rw [he, hm, if_pos ⟨names, up⟩, marks]
  have w : Within [.chans] s u := hu ▸ setChan_within (.refl s) ..
  have entry : (reed u die.toNat).entry index.toNat = e := by rw [w.reed, he]
  have later' : Later u e := by
    unfold Later stampTicks refPeriod refSrc rfld
    rw [w.rget, w.rget, w.ref]
    exact later
  obtain ⟨rest, -⟩ := afterFiring_later (s := u) (d := die.toNat) (k := index.toNat)
    (by rw [entry, ← he]; exact (triggered_parts trig).1) (by rw [entry]; exact later')
  have chans : chan (afterFiring u die.toNat index.toNat) = chan u := by
    rw [rest]
    rfl
  have own : chan u m = _ := hu ▸ chan_setChan_same ..
  refine ⟨_, run, ?_⟩
  unfold ChansKept
  rw [chans, own]
  exact ⟨rfl, rfl, rfl, rfl, fun n h => hu ▸ chan_setChan_other _ h⟩

/-- IRQ puts the event into EVFIFO (R713). -/
theorem irq_puts {die : BitVec 3} {index : BitVec 12} {e : Event} (he : (reed s die.toNat).entry index.toNat = e)
    (trig : triggered s die.toNat index.toNat 7 = true) (room : (reed s die.toNat).fifo.length < 16) :
    ∃ t, exec (.irq die index) s = .next t ∧
      (reed t die.toNat).fifo = (reed s die.toNat).fifo ++ [fval 35 35 1 ||| fval 34 27 e.comp.toNat ||| fval 26 15 e.key |||
        fval 14 12 e.refNo ||| fval 11 0 index.toNat] ∧
      bit (rget t (reedPg die.toNat) 9) 1 = true := by
  obtain ⟨w, hw⟩ : ∃ w, w = fval 35 35 1 ||| fval 34 27 e.comp.toNat ||| fval 26 15 e.key ||| fval 14 12 e.refNo |||
    fval 11 0 index.toNat := ⟨_, rfl⟩
  obtain ⟨u, hu⟩ : ∃ u, u = setReed s die.toNat { reed s die.toNat with fifo := (reed s die.toNat).fifo ++ [w] } := ⟨_, rfl⟩
  obtain ⟨v, hv⟩ : ∃ v, v = irqPend (evCount u (reedPg die.toNat) 19) (reedPg die.toNat) 1 := ⟨_, rfl⟩
  have run : exec (.irq die index) s = .next (afterFiring v die.toNat index.toNat) := by
    refine congrArg done ((if_pos trig).trans ?_)
    rw [if_pos room, he, ← hw, ← hu, ← hv]
  have within_ : Within [.regs, .evTick, .events] u v := hv ▸ irqPend_within (evCount_within (.refl _) ..) ..
  have thin := afterFiring_thinned v die.toNat index.toNat
  refine ⟨_, run, ?_, thin.pending _ _ ?_⟩
  · rw [thin.fifo, within_.reed, hu, reed_setReed_same, hw]
  · exact hv ▸ irqPend_pends _ _ (by decide)

/-- The reads of EVFIFO and EVCNT_0 (R447, R449). -/
theorem evfifoRead_takes {die : BitVec 3} {w : Word} {rest : List Word} (works : unitWorks s (reedPg die.toNat) = true)
    (holds : (reed s die.toNat).fifo = w :: rest) (old : (evNow s (reedPg die.toNat) 19).toNat ≤ rest.length) :
    ∃ t, exec (.evfifoRead die) s = .next t ∧ t.busReply.data = w ∧ (reed t die.toNat).fifo = rest ∧
      (reed t die.toNat).ev = (reed s die.toNat).ev := by
  have load : evfifoLoad s die.toNat = (w, setReed s die.toNat { reed s die.toNat with fifo := rest }) := by
    unfold evfifoLoad
    rw [holds]
    dsimp only
    rw [if_neg (by rw [List.length_cons]; omega)]
  obtain ⟨u, hu⟩ : ∃ u, u = setReed s die.toNat { reed s die.toNat with fifo := rest } := ⟨_, rfl⟩
  refine ⟨replyWord u w, congrArg done ((unitDo_of_works works _).trans ?_), rfl, ?_, ?_⟩
  · dsimp only
    rw [load, hu]
  · show (reed u die.toNat).fifo = rest
    rw [hu, reed_setReed_same]
  · show (reed u die.toNat).ev = _
    rw [hu, reed_setReed_same]

theorem evfifoRead_none {die : BitVec 3} (works : unitWorks s (reedPg die.toNat) = true)
    (fresh : (reed s die.toNat).fifo.length ≤ (evNow s (reedPg die.toNat) 19).toNat) :
    ∃ t, exec (.evfifoRead die) s = .next t ∧ t.busReply.data = 0 ∧ t.reeds = s.reeds := by
  have load : evfifoLoad s die.toNat = (0, s) := by
    unfold evfifoLoad
    split
    · rfl
    · exact if_pos fresh
  refine ⟨replyWord s 0, congrArg done ((unitDo_of_works works _).trans ?_), rfl, rfl⟩
  dsimp only
  rw [load]

theorem evcnt0Read_counts {die : BitVec 3} (works : unitWorks s (reedPg die.toNat) = true) :
    let r := reed s die.toNat
    ∃ t, exec (.evcnt0Read die) s = .next t ∧ t.busReply.data = (fval 35 18 (4096 - r.countIn .pending - r.countIn .armed -
      r.countIn .fire) ||| fval 17 0 (r.countIn .pending)) ∧
      (reed t die.toNat).evcnt1 = (fval 35 18 (r.countIn .armed) ||| fval 17 0 (r.countIn .fire)) ∧ (reed t die.toNat).ev = r.ev := by
  intro r
  obtain ⟨u, hu⟩ : ∃ u, u = setReed s die.toNat { r with evcnt1 := fval 35 18 (r.countIn .armed) ||| fval 17 0 (r.countIn .fire) } := ⟨_, rfl⟩
  have own : reed u die.toNat = _ := hu ▸ reed_setReed_same ..
  refine ⟨replyWord u (fval 35 18 (4096 - r.countIn .pending - r.countIn .armed - r.countIn .fire) ||| fval 17 0 (r.countIn .pending)),
    congrArg done ((unitDo_of_works works _).trans ?_), rfl, ?_, ?_⟩
  · rw [hu]
    rfl
  · show (reed u die.toNat).evcnt1 = _
    rw [own]
  · show (reed u die.toNat).ev = _
    rw [own]

end

/-- Settles O41: dispatch, the output actions at their triggers with what refuses them, the end of a burst, MARK, IRQ and the reads
of EVFIFO and EVCNT. -/
theorem eventFiring : Obligations.EventFiring := by
  unfold Obligations.EventFiring
  intro s die index w rest ch d k r e m x mode outputs crossingAfter spaced later permitted fires
  have he : (reed s d).entry k = e := rfl
  have hm : 96 * d + e.chan = m := rfl
  have may (p : permitted) : Permitted s e m := ⟨p.1, p.2.1, p.2.2.1, p.2.2.2⟩
  have asks {u : State} (w : Within [.chans] s u) : chMode u m = mode := chMode_within (w.mono (by decide)) m
  have run_ {u : State} {action : Nat} (w : Within [.chans] s u) (trig : triggered s d k action = true) : u.safety ≠ .boot := by
    rw [w.safety]
    exact (triggered_parts trig).2.2.1
  have each (c : Instr × Nat) (h : c ∈ outputs) : ∃ act, Outputs d k c.1 c.2 act := by
    simp only [outputs, List.mem_cons, List.not_mem_nil, or_false] at h
    rcases h with rfl | rfl | rfl | rfl | rfl
    · exact ⟨_, outputs_gdon die index⟩
    · exact ⟨_, outputs_gdoff die index⟩
    · exact ⟨_, outputs_level die index⟩
    · exact ⟨_, outputs_burst die index⟩
    · exact ⟨_, outputs_toggle die index⟩
  refine ⟨?_, ?_, ?_, ?_, ?_, ?_, ?_, ?_, ?_, ?_, ?_, ?_, ?_, ?_, ?_, ?_⟩
  · intro fires_ armed sent near first
    have run (h : State) (is : dispatch s d k = h) : exec (.eventDispatch die index) s = .next h :=
      is ▸ (if_pos ⟨fires_, armed, sent, near, first⟩)
    refine ⟨fun may => ?_, fun vital held bare => ?_⟩
    · refine ⟨_, run _ ((if_neg fun h => ?_).trans (if_neg fun h => ?_)), rfl, ?_, fun j other => ?_⟩
      · exact may.elim (fun p => absurd (h.1.symm.trans p) (by decide)) fun v => v.1 h.2.1
      · exact may.elim (fun p => absurd (h.1.symm.trans p) (by decide)) fun v => absurd (h.2.symm.trans v.2) (by decide)
      · rw [reed_setReed_same, entry_putEntry_same]
      · rw [reed_setReed_same, entry_putEntry_other _ _ other]
    · exact ⟨_, run _ (if_pos ⟨vital, held, bare⟩), heldBack_shows s d k⟩
  · intro trig p
    obtain ⟨t, run, ⟨_, _, _, _, own⟩, gd⟩ := (outputs_gdon die index).fires trig he hm (may p)
    obtain ⟨⟨changed, skip, is⟩, acts⟩ := gdonAct_lights s m
    refine ⟨t, run, by rw [own]; exact (congrArg Chan.lit is :), by rw [own]; exact (congrArg Chan.level is :), fun near mode_ full => ?_⟩
    exact gd true (congrArg Chan.edges is :) (congrArg Chan.gdSince is :) near
      (gdWanted_lit (run_ acts.within trig) (mode_.imp (asks acts.within).trans (asks acts.within).trans) ((congrArg Chan.safe is :).trans p.2.1)
        (congrArg Chan.lit is :) ((congrArg Chan.level is :).trans full))
  · intro notHeater trig p
    obtain ⟨t, run, ⟨_, _, _, _, own⟩, gd⟩ := (outputs_gdoff die index).fires trig he hm (may p)
    obtain ⟨changed, skip, is⟩ := gdoffAct_unlights (k := k) (e := e) notHeater
    refine ⟨t, run, by rw [own]; exact (congrArg Chan.lit is :), by rw [own]; exact (congrArg Chan.burstOn is :), fun near mode_ => ?_⟩
    exact gd false (congrArg Chan.edges is :) (congrArg Chan.gdSince is :) near
      (gdWanted_dark (by
        rw [asks (gdoffAct_acts s m k e).within, chLed_within ((gdoffAct_acts s m k e).within.mono (by decide))]
        exact mode_) (congrArg Chan.lit is :) (congrArg Chan.burstOn is :))
  · intro heater at_ trig p
    obtain ⟨t, run, ⟨_, _, _, _, own⟩, gd⟩ := (outputs_gdoff die index).fires trig he hm (may p)
    obtain ⟨arm, is⟩ := gdoffAct_now (k := k) heater at_
    refine ⟨t, run, by rw [own]; exact (congrArg Chan.burstOn is :), by rw [own]; exact (congrArg Chan.offArm is :), fun near => ?_⟩
    exact gd false (congrArg Chan.edges is :) (congrArg Chan.gdSince is :) near
      (gdWanted_heater_off ((asks (gdoffAct_acts s m k e).within).trans heater) (congrArg Chan.burstOn is :))
  · intro heater between trig p
    obtain ⟨t, run, ⟨_, _, _, _, own⟩, -⟩ := (outputs_gdoff die index).fires trig he hm (may p)
    obtain ⟨arm, is⟩ := gdoffAct_later (k := k) heater between
    exact ⟨t, run, by rw [own]; exact (congrArg Chan.burstOn is :), by rw [own]; exact (congrArg Chan.offArm is :)⟩
  · intro trig p
    obtain ⟨t, run, ⟨_, _, _, _, own⟩, -⟩ := (outputs_level die index).fires trig he hm (may p)
    obtain ⟨⟨changed, skip, is⟩, -⟩ := setLit_record s m x.lit (e.argv % 65536)
    exact ⟨t, run, by rw [own]; exact (congrArg Chan.level is :), by rw [own]; exact (congrArg Chan.lit is :)⟩
  · clear_value e m
    intro at_ trig p
    obtain ⟨t, run, ⟨_, _, _, _, own⟩, gd⟩ := (outputs_burst die index).fires trig he hm (may p)
    obtain ⟨arm, is⟩ := burstAct_now (s := s) (m := m) (k := k) at_
    have acts : ActsOn s (burstAct s m k e) m := setChan_acts ..
    have boot := run_ acts.within trig
    have asked := asks acts.within
    rw [hm] at own gd
    have begun : (chan t m).burstOn = true ∧ (chan t m).burstRef = e.refNo ∧ (chan t m).burstFrom = e.trig ∧
        (chan t m).burstLeft = e.argv * 2 ^ 24 := by
      rw [own, is]
      exact ⟨rfl, rfl, rfl, rfl⟩
    obtain ⟨on, ref_, from_, left⟩ := begun
    refine ⟨t, run, on, ref_, from_, left, fun near mode_ => ?_⟩
    exact gd true (congrArg Chan.edges is :) (congrArg Chan.gdSince is :) near
      (gdWanted_burst boot (mode_.imp asked.trans asked.trans) ((congrArg Chan.safe is :).trans p.2.1) (congrArg Chan.burstOn is :))
  · clear_value e m
    intro between trig p
    obtain ⟨t, run, ⟨_, _, _, _, own⟩, -⟩ := (outputs_burst die index).fires trig he hm (may p)
    rw [hm] at own
    exact ⟨t, run, by rw [own, burstAct_later between]⟩
  · intro trig p
    obtain ⟨t, run, ⟨_, _, _, _, own⟩, -⟩ := (outputs_toggle die index).fires trig he hm (may p)
    obtain ⟨⟨changed, skip, is⟩, -⟩ := setLit_record s m (!x.lit) x.level
    exact ⟨t, run, by rw [own]; exact (congrArg Chan.lit is :), by rw [own]; exact (congrArg Chan.level is :)⟩
  · intro c h trig p
    obtain ⟨act, outs⟩ := each c h
    obtain ⟨t, run, last, goes, others⟩ := (outs.outcomes trig he hm).1 (may p)
    refine ⟨t, run, last, fun more _ => ?_, others⟩
    rw [goes more]
    exact ⟨rfl, rfl, nextOf_count more⟩
  · intro c h trig refused
    obtain ⟨act, outs⟩ := each c h
    exact (outs.outcomes trig he hm).2.1 refused
  · intro c h trig up out vital
    obtain ⟨act, outs⟩ := each c h
    exact (outs.outcomes trig he hm).2.2 up out vital
  · exact fun clock up on over_ => burstEnd_ends clock up on over_
  · exact fun trig later_ names up heater => mark_closes he hm trig later_ names up heater
  · exact fun trig room => irq_puts he trig room
  · exact fun works => ⟨fun holds old => evfifoRead_takes works holds old, fun fresh => evfifoRead_none works fresh, evcnt0Read_counts works⟩

end Sys2Proof.Machine

namespace Sys2Proof.Machine
open Sys2Proof
set_option Elab.async false

/-! ## The test access port and freeze (R644 to R655, R659 to R662) -/

/-! ### A capture of the boundary register -/

section
variable {s : State}

/-- A cell that takes one level at whatever place of the register its ball stands is captured with it. -/
theorem contains_taken {l : List Ball} {f : Ball → Nat → Bool} {b : Ball} {v : Bool} (there : b ∈ l) (takes : ∀ j, f b j = v) :
    ((l.zipIdx.filter (fun x => f x.1 (3 * x.2))).map (fun x => x.1)).contains b = v := by
  rw [Bool.eq_iff_iff, List.contains_iff_mem, List.mem_map]
  constructor
  · rintro ⟨⟨c, j⟩, hm, rfl⟩
    have := (List.mem_filter.mp hm).2
    rwa [takes] at this
  · intro on
    obtain ⟨j, hj⟩ := List.getElem?_of_mem there
    exact ⟨(b, j), List.mem_filter.mpr ⟨List.mk_mem_zipIdx_iff_getElem?.mpr hj, by rw [takes]; exact on⟩, rfl⟩

/-- The cells of a ball whose level rests on no free value. -/
theorem captureCells_inp {b : Ball} {v : Bool} (there : b ∈ boundaryBalls s.part) (takes : ∀ c, ballLevel s c b = v) :
    (captureCells s).tap.seen.inp.contains b = v :=
  contains_taken (f := fun b j => ballLevel s ((Config.freeValue 1 (s.fresh + j)).getLsbD 0) b) there fun _ => takes _

theorem captureCells_out {b : Ball} {v : Bool} (there : b ∈ boundaryBalls s.part) (takes : ∀ c, coreOut s c b = v) :
    (captureCells s).tap.seen.out.contains b = v :=
  contains_taken (f := fun b j => coreOut s ((Config.freeValue 1 (s.fresh + (j + 1))).getLsbD 0) b) there fun _ => takes _

theorem captureCells_en {b : Ball} {v : Bool} (there : b ∈ boundaryBalls s.part) (takes : ∀ c, coreEn c b = v) :
    (captureCells s).tap.seen.en.contains b = v :=
  contains_taken (f := fun b j => coreEn ((Config.freeValue 1 (s.fresh + (j + 2))).getLsbD 0) b) there fun _ => takes _

theorem gd_mem_boundary {m : Nat} (h : m < chanCount s) : Ball.gd (BitVec.ofNat 10 m) ∈ boundaryBalls s.part :=
  List.mem_append_left _ (List.mem_append_left _ (List.mem_append_left _ (List.mem_map.mpr ⟨m, List.mem_range.mpr h, rfl⟩)))

theorem fb_mem_boundary {m : Nat} (h : m < chanCount s) : Ball.fb (BitVec.ofNat 10 m) ∈ boundaryBalls s.part :=
  List.mem_append_left _ (List.mem_append_left _ (List.mem_append_right _ (List.mem_map.mpr ⟨m, List.mem_range.mpr h, rfl⟩)))

theorem service_mem_boundary (p : Part) {k : Nat} (h : k < 3) : Ball.service (BitVec.ofNat 6 k) ∈ boundaryBalls p :=
  List.mem_append_left _ (List.mem_append_right _ (List.mem_map.mpr ⟨k, List.mem_filter.mpr
    ⟨List.mem_range.mpr (by omega), by unfold serviceCells; rw [decide_eq_true h, Bool.true_or]⟩, rfl⟩))

theorem chanCount_small (s : State) : chanCount s ≤ 768 := by
  unfold chanCount
  cases s.part <;> decide

/-- What a capture holds of the balls whose levels the model holds (R697), while the balls are as the device drives them. -/
theorem captureCells_samples (own : s.tap.extest = false) {m : Nat} :
    let x := (captureCells s).tap.seen
    (m < chanCount s → x.out.contains (.gd (BitVec.ofNat 10 m)) = gdBall s m ∧ x.en.contains (.gd (BitVec.ofNat 10 m)) = true ∧
      x.en.contains (.fb (BitVec.ofNat 10 m)) = false ∧ x.inp.contains (.fb (BitVec.ofNat 10 m)) = (chan s m).fb ∧
      (s.pins.io33 = true → x.inp.contains (.gd (BitVec.ofNat 10 m)) = gdBall s m)) ∧
    x.inp.contains (.service 0) = s.pins.porst ∧ x.inp.contains (.service 2) = s.pins.frz := by
  refine ⟨fun there => ?_, captureCells_inp (service_mem_boundary s.part (k := 0) (by decide)) fun _ => rfl,
    captureCells_inp (service_mem_boundary s.part (k := 2) (by decide)) fun _ => rfl⟩
  have number : (BitVec.ofNat 10 m).toNat = m := by
    have := chanCount_small s
    rw [BitVec.toNat_ofNat]
    omega
  refine ⟨captureCells_out (gd_mem_boundary there) fun _ => congrArg (gdBall s) number,
    captureCells_en (gd_mem_boundary there) fun _ => rfl, captureCells_en (fb_mem_boundary there) fun _ => rfl,
    captureCells_inp (fb_mem_boundary there) fun _ => congrArg (fun n => (chan s n).fb) number,
    fun powered => captureCells_inp (gd_mem_boundary there) fun c => ?_⟩
  show (gdPin s (BitVec.ofNat 10 m).toNat).getD c = _
  unfold gdPin padOf
  rw [own, powered, number]
  rfl

/-! ### The read-out (R653 to R655) -/

/-- A read-out of a word, and one of none: the port alone changes. -/
theorem frzread_word {f : Freeze} {w : Word} {tag : Bool} (frozen : s.frozen = some f) (named : readout s f s.tap.sel = some (w, tag)) :
    ∃ t, exec .frzread s = .next t ∧ t = { s with tap := t.tap } ∧ t.tap.sel = selNext s.tap.sel ∧
      t.tap.dr = BitVec.ofNat 68 (2 ^ 37 + bnat tag * 2 ^ 36 + w.toNat) := by
  refine ⟨_, rfl, rfl, rfl, ?_⟩
  show BitVec.ofNat 68 _ = _
  rw [frozen]
  dsimp only
  rw [named]

theorem frzread_none (none_ : s.frozen = none ∨ ∃ f, s.frozen = some f ∧ readout s f s.tap.sel = none) :
    ∃ t, exec .frzread s = .next t ∧ t = { s with tap := t.tap } ∧ t.tap.dr = 0 := by
  refine ⟨_, rfl, rfl, ?_⟩
  show BitVec.ofNat 68 _ = _
  rcases none_ with off | ⟨f, frozen, named⟩
  · rw [off]
    rfl
  · rw [frozen]
    dsimp only
    rw [named]
    rfl

/-- The word of memory that a selector names. -/
theorem readout_mem {f : Freeze} {v : Word} (kind : fld v 35 33 = 5) : readout s f v = readoutMem s f (fld v 29 0) := by
  unfold readout
  rw [kind]
  rfl

theorem powered_of_run {k : Nat} (run : (dom s k).st = .run) : powered s k = true := by
  unfold powered
  rw [run]
  rfl

variable {f : Freeze} {a : Nat}

theorem readoutMem_blank (inside : a / 65536 < 16 * s.part.dies)
    (run : (dom s (domKey (a / 1048576) (16 + a / 65536 % 16))).st = .run) (blank : f.lcs = .blank) :
    readoutMem s f a = if (mget s a).ecc ≠ .double then some ((mget s a).data, (mget s a).tag) else none := by
  have opens : readoutOpen s f (some (a / 65536)) = true := by
    unfold readoutOpen
    rw [blank]
    rfl
  have die : a / 65536 / 16 = a / 1048576 := Nat.div_div_eq_div_mul ..
  unfold readoutMem
  dsimp only
  rw [die]
  by_cases good : (mget s a).ecc ≠ .double
  · rw [if_pos ⟨inside, powered_of_run run, opens, good⟩, if_pos good]
  · rw [if_neg fun h => good h.2.2.2, if_neg good]

theorem readoutMem_closed (other : f.lcs ≠ .blank) (shut : f.dbg = 0 ∨ s.carr.token = none) : readoutMem s f a = none := by
  have closed : readoutOpen s f (some (a / 65536)) = false := by
    unfold readoutOpen tokenSlot
    rw [beq_false_of_ne other]
    rcases shut with off | none_
    · rw [off]
      rfl
    · rw [none_]
      exact Bool.and_false _
  unfold readoutMem
  dsimp only
  rw [closed]
  exact if_neg fun h => absurd h.2.2.1 Bool.false_ne_true

/-! ### The debug master (R659 to R662) -/

theorem isPage_off (h : a / 134217728 ≠ 1) : isPage a = false := decide_eq_false h

theorem debugWaits_off (v : Nat) (h : a / 134217728 ≠ 1) : debugWaits s a v = false := by
  unfold debugWaits
  rw [isPage_off h]
  rfl

/-- A debug access of a word of memory in a Blank part. -/
theorem debugMaster_blank (blank : s.lcs = .blank) (word : a / 134217728 ≠ 1) (reach : memReach s a = .ok) :
    (debugMaster s a none = let r := readFor s (.die 0) a; (match r.1 with | some w => (false, w.2, w.1) | none => (true, false, 0), r.2)) ∧
    ∀ v, debugMaster s a (some v) = ((false, false, 0), putFor s (.die 0) a v false) := by
  have lets (w : Bool) : debugState s a w = true := if_pos blank
  have gates (st : Stamp) (k : Kind) : debugGates s st a k = (true, s) := if_pos (.inl blank)
  have access (st : Stamp) (w : Option Word) : debugAccess s st a w = match memReach s a, w with
    | .ok, some v => ((false, false, 0), putFor s (.die 0) a v false)
    | .ok, none => let r := readFor s (.die 0) a; (match r.1 with | some w => (false, w.2, w.1) | none => (true, false, 0), r.2)
    | r, _ => ((true, false, 0), reachRecord s 0 a r) := by
    unfold debugAccess
    dsimp only
    rw [isPage_off word]
    rfl
  unfold debugMaster
  dsimp only
  refine ⟨?_, fun v => ?_⟩
  all_goals
    rw [lets, gates, access, reach]
    rfl

/-- Without a debug state the debug master reaches no word. -/
theorem debugMaster_shut (other : s.lcs ≠ .blank) (none_ : s.carr.token = none) (word : a / 134217728 ≠ 1) (w : Option Word) :
    debugMaster s a w = ((true, false, 0), s) := by
  have off : dbgState s = 0 := by
    unfold dbgState
    rw [none_]
    exact if_neg other
  have shut : debugState s a w.isSome = false := by
    unfold debugState debugOpen
    rw [if_neg other, decide_eq_false word, off]
    cases w <;> rfl
  unfold debugMaster
  dsimp only
  rw [shut]
  rfl

/-- The debug master's access runs. -/
theorem dbgacc_runs {dr : BitVec 68} (clock : clocked s = true) (up : domUp s (domKey 0 43) = true)
    (word : dr.toNat / 2 ^ 36 % 2 ^ 30 / 134217728 ≠ 1) (op : dr.toNat / 2 ^ 66 = 1 ∨ dr.toNat / 2 ^ 66 = 2) :
    exec (.dbgacc dr) s =
      let r := debugMaster (tapSelect s 130 s.tap.dr) (dr.toNat / 2 ^ 36 % 2 ^ 30)
        (if dr.toNat / 2 ^ 66 = 2 then some (BitVec.ofNat 36 (dr.toNat % 2 ^ 36)) else none)
      .next { r.2 with tap := { r.2.tap with
        dr := BitVec.ofNat 68 (2 ^ 67 + bnat r.1.1 * 2 ^ 66 + bnat r.1.2.1 * 2 ^ 65 + r.1.2.2.toNat) } } := by
  show execDbgacc dr s = _
  unfold execDbgacc
  dsimp only
  rw [if_neg]
  · rfl
  · rw [clock, up, debugWaits_off _ word]
    rintro (h | h | h | h | h)
    · cases h
    · cases h
    · omega
    · omega
    · cases h.2

/-- A read of a good word that is granted is booked, and nothing else. -/
theorem readFor_noted (d : Nat) (good : (mget s a).ecc = .good) :
    readFor s (.die d) a = (some ((mget s a).data, (mget s a).tag), noteAccess s (.die d) a 1) := by
  have w : Within [.regs, .evTick, .events, .heatCnt, .heatDue, .slots] s (noteAccess s (.die d) a 1) := noteAccess_within (.refl s) ..
  unfold readFor memRead
  dsimp only
  rw [w.mget, good]

theorem noteAccess_noted (s : State) (d a k : Nat) : noteAccess s (.die d) a k = s.noted (noteAccess s (.die d) a k) :=
  (noteAccess_looked s d a k).noted

theorem noted_tap {u : State} {y : Tap} (booked : u = State.noted { s with tap := y } u) (x : Tap) :
    { u with tap := x } = { s.noted { u with tap := x } with tap := x } := by
  refine (congrArg (fun v : State => { v with tap := x }) booked).trans ?_
  rfl

section
variable {dr : BitVec 68} (clock : clocked s = true) (up : domUp s (domKey 0 43) = true) (at_ : dr.toNat / 2 ^ 36 % 2 ^ 30 = a)
  (word : a / 134217728 ≠ 1)
include clock up at_ word

/-- A read of the debug master in a Blank part. -/
theorem dbgacc_reads (blank : s.lcs = .blank) (reach : memReach s a = .ok) (good : (mget s a).ecc = .good) (one : dr.toNat / 2 ^ 66 = 1) :
    ∃ t, exec (.dbgacc dr) s = .next t ∧ t = { s.noted t with tap := t.tap } ∧
      t.tap.dr = BitVec.ofNat 68 (2 ^ 67 + bnat false * 2 ^ 66 + bnat (mget s a).tag * 2 ^ 65 + (mget s a).data.toNat) := by
  subst at_
  obtain ⟨reads, -⟩ := debugMaster_blank (s := tapSelect s 130 s.tap.dr) blank word reach
  have run := dbgacc_runs clock up word (.inl one)
  have booked := noteAccess_noted (tapSelect s 130 s.tap.dr) 0 (dr.toNat / 2 ^ 36 % 2 ^ 30) 1
  rw [if_neg (by omega), reads, readFor_noted (s := tapSelect s 130 s.tap.dr) 0 good] at run
  obtain ⟨u, hu⟩ : ∃ u, u = noteAccess (tapSelect s 130 s.tap.dr) (.die 0) (dr.toNat / 2 ^ 36 % 2 ^ 30) 1 := ⟨_, rfl⟩
  rw [← hu] at run booked
  dsimp only at run
  refine ⟨_, run, ?_, ?_⟩
  · exact noted_tap booked _
  · dsimp only
    rfl

/-- A write. -/
theorem dbgacc_writes (blank : s.lcs = .blank) (reach : memReach s a = .ok) (plain : marked s a = false) (two : dr.toNat / 2 ^ 66 = 2) :
    ∃ t, exec (.dbgacc dr) s = .next t ∧ t.tap.dr = BitVec.ofNat 68 (2 ^ 67 + bnat false * 2 ^ 66 + bnat false * 2 ^ 65 + (0 : Word).toNat) ∧
      mget t a = { data := BitVec.ofNat 36 (dr.toNat % 2 ^ 36), tag := false, ecc := .good } ∧ (∀ q, q ≠ a → mget t q = mget s q) ∧
      t.regs = s.regs ∧ t.cores = s.cores := by
  subst at_
  obtain ⟨-, writes⟩ := debugMaster_blank (s := tapSelect s 130 s.tap.dr) blank word reach
  have run := dbgacc_runs clock up word (.inr two)
  obtain ⟨moved, own, others⟩ := putFor_moved (s := tapSelect s 130 s.tap.dr) 0 (BitVec.ofNat 36 (dr.toNat % 2 ^ 36)) plain
  rw [if_pos two, writes] at run
  obtain ⟨u, hu⟩ : ∃ u, u = putFor (tapSelect s 130 s.tap.dr) (.die 0) (dr.toNat / 2 ^ 36 % 2 ^ 30) (BitVec.ofNat 36 (dr.toNat % 2 ^ 36)) false :=
    ⟨_, rfl⟩
  rw [← hu] at run moved own others
  dsimp only at run
  refine ⟨_, run, ?_, ?_, ?_, ?_, ?_⟩
  · dsimp only
  · exact own
  · exact others
  · exact moved.regs
  · exact moved.within.cores

/-- An access without a debug state. -/
theorem dbgacc_refused (other : s.lcs ≠ .blank) (none_ : s.carr.token = none) (op : dr.toNat / 2 ^ 66 = 1 ∨ dr.toNat / 2 ^ 66 = 2) :
    ∃ t, exec (.dbgacc dr) s = .next t ∧ t = { s with tap := t.tap } ∧
      t.tap.dr = BitVec.ofNat 68 (2 ^ 67 + bnat true * 2 ^ 66 + bnat false * 2 ^ 65 + (0 : Word).toNat) := by
  subst at_
  have run := dbgacc_runs clock up word op
  rw [debugMaster_shut (s := tapSelect s 130 s.tap.dr) other none_ word] at run
  dsimp only at run
  refine ⟨_, run, rfl, ?_⟩
  dsimp only

end

/-! ### The instructions of the port -/

/-- The port in EXTEST, with cells loaded. -/
def Tested (s t : State) (x : BoundaryCells) : Prop :=
  t.tap.extest = true ∧ t.tap.cells = x ∧ t = { s with
    tap := t.tap
    fresh := t.fresh }

/-- What the balls drive under EXTEST (R646). -/
theorem Tested.drives {t : State} {inp out en : List Ball} (h : Tested s t ⟨inp, out, en⟩) (m : Nat) :
    (s.pins.io33 = false → gdPin t m = none) ∧
    (s.lcs = .blank → s.pins.io33 = true → ∀ b, extestDrive t b = if en.contains b then some (out.contains b) else none) ∧
    (s.lcs ≠ .blank → s.pins.io33 = true → gdPin t m = some false ∧ extestDrive t (.service 16) = some false ∧
      extestDrive t (.service 17) = some false) ∧ gdPin t m = extestDrive t (.gd (BitVec.ofNat 10 m)) := by
  obtain ⟨test, cells, rest⟩ := h
  have pins : t.pins = s.pins := by rw [rest]
  have lcs : t.lcs = s.lcs := by rw [rest]
  have gd : gdPin t m = extestDrive t (.gd (BitVec.ofNat 10 m)) := if_pos test
  have low (other : s.lcs ≠ .blank) {b : Ball} (safety : safetyBall b = true) : extestDrive t b = padOf t false := by
    unfold extestDrive
    rw [safety, lcs, bne_iff_ne.mpr other]
    rfl
  refine ⟨fun off => ?_, fun blank on b => ?_, fun other on => ?_, gd⟩
  · rw [gd]
    unfold extestDrive padOf
    rw [pins, off]
    simp only [Bool.false_eq_true, if_false, ite_self]
  · unfold extestDrive padOf
    rw [pins, on, lcs, blank, cells]
    simp
  · have level : padOf t false = some false := by
      unfold padOf
      rw [pins, on]
      rfl
    exact ⟨by rw [gd, low other rfl, level], by rw [low other rfl, level], by rw [low other rfl, level]⟩

end

/-- The code of an instruction of the port: one that is listed, or BYPASS. -/
theorem tapInstr_listed {code : BitVec 8} :
    (code ∈ ([0, 1, 2, 128, 129, 130] : List (BitVec 8)) → tapInstr code = code) ∧
    (code ∉ ([0, 1, 2, 128, 129, 130] : List (BitVec 8)) → tapInstr code = 255) := by
  have listed : [0, 1, 2, 128, 129, 130].contains code.toNat = true ↔ code ∈ ([0, 1, 2, 128, 129, 130] : List (BitVec 8)) := by
    rw [List.contains_iff_mem]
    simp only [List.mem_cons, List.not_mem_nil, or_false, BitVec.toNat_eq]
    rfl
  exact ⟨fun h => if_pos (listed.mpr h), fun h => if_neg fun c => h (listed.mp c)⟩

/-- A load of the instruction register. -/
theorem tapIrUpdate_loads {s : State} (code : BitVec 8) (cells : BoundaryCells) (m : Nat) :
    ∃ t, exec (.tapIrUpdate ⟨code, cells⟩) s = .next t ∧ t = { s with
        tap := t.tap
        fresh := t.fresh } ∧
      (code ≠ 1 → t = { s with tap := t.tap } ∧ t.tap.cells = s.tap.cells) ∧
      t.tap.extest = decide (code = 0) ∧ t.tap.dr = s.tap.dr ∧ t.tap.sel = s.tap.sel ∧
      (code = 1 → t.tap.cells = cells ∧
        (m < chanCount s → (t.tap.seen.out.contains (.gd (BitVec.ofNat 10 m)) = true ↔ gdBall s m = true) ∧
          t.tap.seen.en.contains (.gd (BitVec.ofNat 10 m)) = true ∧ t.tap.seen.en.contains (.fb (BitVec.ofNat 10 m)) = false ∧
          (t.tap.seen.inp.contains (.fb (BitVec.ofNat 10 m)) = true ↔ (chan s m).fb = true) ∧
          (s.pins.io33 = true → t.tap.seen.inp.contains (.gd (BitVec.ofNat 10 m)) = gdBall s m)) ∧
        (t.tap.seen.inp.contains (.service 0) = true ↔ s.pins.porst = true) ∧
        (t.tap.seen.inp.contains (.service 2) = true ↔ s.pins.frz = true)) ∧
      (code ∈ ([0, 1, 2, 128, 129, 130] : List (BitVec 8)) → t.tap.ir = code) ∧
      (code ∉ ([0, 1, 2, 128, 129, 130] : List (BitVec 8)) → t.tap.ir = 255) := by
  obtain ⟨listed, other⟩ := tapInstr_listed (code := code)
  obtain ⟨u, hu⟩ : ∃ u, u = { s with tap := { s.tap with
      ir := tapInstr code
      extest := decide (code = 0) } } := ⟨_, rfl⟩
  by_cases sample : code = 1
  · have own : u.tap.extest = false := by
      rw [hu, sample]
      rfl
    obtain ⟨cells_, porst, frz⟩ := captureCells_samples own (m := m)
    have same : chanCount u = chanCount s ∧ gdBall u m = gdBall s m ∧ chan u m = chan s m ∧ u.pins = s.pins := by
      rw [hu]
      exact ⟨rfl, rfl, rfl, rfl⟩
    obtain ⟨count, gd, chan_, pins⟩ := same
    rw [count, gd, chan_, pins] at cells_
    rw [pins] at porst frz
    refine ⟨tapScan u cells, by rw [hu]; exact congrArg done (if_pos sample), by rw [hu]; rfl, fun n => absurd sample n,
      by rw [hu]; rfl, by rw [hu]; rfl, by rw [hu]; rfl, fun _ => ⟨rfl, fun there => ?_, Bool.eq_iff_iff.mp porst, Bool.eq_iff_iff.mp frz⟩,
      by rw [hu]; exact listed, by rw [hu]; exact other⟩
    obtain ⟨out, en, fbEn, fb, inp⟩ := cells_ there
    exact ⟨Bool.eq_iff_iff.mp out, en, fbEn, Bool.eq_iff_iff.mp fb, inp⟩
  · refine ⟨u, by rw [hu]; exact congrArg done (if_neg sample), by rw [hu], fun _ => by rw [hu]; exact ⟨rfl, rfl⟩, by rw [hu],
      by rw [hu], by rw [hu], fun h => absurd h sample, by rw [hu]; exact listed, by rw [hu]; exact other⟩

theorem testAccessPort : Rule.TestAccessPort := by
  unfold Rule.TestAccessPort
  intro s code cells inp out en v dr f m alone at_ op a w answer runs samples
  refine ⟨?_, ?_, ⟨_, rfl, rfl, rfl, rfl, rfl⟩, ⟨_, rfl, rfl, rfl, rfl⟩, fun none_ => ?_, fun frozen sel => ?_,
    fun frozen kind inside run => ?_, fun on blank word reach plain good => ?_, fun on other none_ word ops => ?_, fun off => ?_⟩
  · exact tapIrUpdate_loads code cells m
  · obtain ⟨t, ht⟩ : ∃ t, t = tapScan { s with tap := { s.tap with
      ir := 0
      extest := true } } { inp := inp, out := out, en := en } := ⟨_, rfl⟩
    have test : Tested s t ⟨inp, out, en⟩ := by
      rw [ht]
      exact ⟨rfl, rfl, rfl⟩
    exact ⟨t, ht ▸ rfl, test.2.2, test.1, test.2.1, test.drives m⟩
  · exact frzread_none (.inl none_)
  · obtain ⟨t, run, rest, next_, word⟩ := frzread_word (w := fval 35 33 f.safety.num ||| fval 32 30 f.lcs.num ||| fval 29 28 f.dbg |||
      fval 27 27 (bnat f.resume)) (tag := false) frozen (by rw [sel]; rfl)
    refine ⟨t, run, rest, ?_, word⟩
    rw [next_, sel]
    decide
  · have named : readout s f s.tap.sel = readoutMem s f at_ := readout_mem kind
    refine ⟨fun blank lost => ?_, fun blank held => ?_, fun other shut => ?_⟩
    · exact frzread_none (.inr ⟨f, frozen, by rw [named, readoutMem_blank inside run blank, if_neg fun h => h lost]⟩)
    · obtain ⟨t, exec_, rest, -, word⟩ := frzread_word frozen (named.trans ((readoutMem_blank inside run blank).trans (if_pos held)))
      exact ⟨t, exec_, rest, word⟩
    · exact frzread_none (.inr ⟨f, frozen, by rw [named, readoutMem_closed other shut]⟩)
  · obtain ⟨clock, up⟩ := on
    exact ⟨fun one => dbgacc_reads clock up rfl word blank reach good one, fun two => dbgacc_writes clock up rfl word blank reach plain two⟩
  · obtain ⟨clock, up⟩ := on
    exact dbgacc_refused clock up rfl word other none_ ops
  · exact ⟨_, if_pos (.inl off), rfl, rfl, rfl⟩

/-! ### Freeze and its release (R647 to R652) -/

/-- Every register but those of the FRZ page is as it was. -/
abbrev OffFreeze (s t : State) : Prop := RegsKept s t (fun p _ => p ≠ frzPg)

theorem linkPg_ne_frzPg (k : Nat) : linkPg k ≠ frzPg := by
  unfold linkPg frzPg
  intro h
  split at h
  · have := (regionPg_mod (k % 256 / 8) (o := 0) (by decide)).symm.trans ((congrArg (· % 2048) h).trans (pkgPg_mod (p := 3) (by decide)))
    omega
  · split at h
    · unfold diePg pkgPg pageNo at h
      omega
    · unfold pkgPg pageNo at h
      omega

section
variable {s : State}

theorem offFreeze_capture {pg : Nat} (other : pg ≠ frzPg) (s : State) (cause info : Nat) : OffFreeze s (capture s pg cause info) :=
  .capture _ _ _ ⟨other, other, other⟩

theorem noteRetrain_offFreeze (s : State) (k : Nat) : OffFreeze s (noteRetrain s k) := by
  unfold noteRetrain
  exact RegsKept.trans (.rinc (off := 28 + k % 4) _ _ _ (by omega) (linkPg_ne_frzPg k)) (offFreeze_capture (linkPg_ne_frzPg k) _ _ _)

theorem countReplay_offFreeze (s : State) (k n : Nat) : OffFreeze s (countReplay s k n) := by
  unfold countReplay
  split
  next o found =>
    have small : o < 512 := by
      unfold countOff at found
      split at found
      · have := Option.some.inj found
        omega
      · split at found
        · have := Option.some.inj found
          omega
        · cases found
    exact .rset _ _ small (linkPg_ne_frzPg k)
  · exact .refl s _

theorem replayOn_offFreeze (s : State) (k : Nat) (timed : Bool) : OffFreeze s (replayOn s k timed) := by
  unfold replayOn
  dsimp only
  split
  · exact RegsKept.trans (.of_within (F := [.links]) (setLink_within (.refl s) ..) _) (countReplay_offFreeze _ _ _)
  · exact .of_within (F := [.links]) (setLink_within (.refl s) ..) _

theorem failoverDir_offFreeze (s : State) (k m : Nat) : OffFreeze s (failoverDir s k m) := by
  have link {t : State} (j : Nat) (l : Link) : OffFreeze t (setLink t j l) := .of_within (F := [.links]) (setLink_within (.refl t) ..) _
  unfold failoverDir failoverWaits failoverUnits
  exact RegsKept.trans (RegsKept.trans (RegsKept.trans (link _ _) (.foldl (f := fun s (u : Nat × Bool) => replayOn s m u.2) (fun t u => replayOn_offFreeze t m u.2) _ _))
    (RegsKept.trans (link _ _) (link _ _))) (link _ _)

theorem failover_offFreeze (s : State) (i : Nat) : OffFreeze s (failover s i) := by
  unfold failover
  split
  · exact RegsKept.trans (failoverDir_offFreeze _ _ _) (failoverDir_offFreeze _ _ _)
  · exact .refl s _

theorem startRetrain_offFreeze (s : State) (k : Nat) (violation : Bool) : OffFreeze s (startRetrain s k violation) := by
  have dropped : OffFreeze s (setLink (setLink s k (linkAt s k).drop) (reverseKey s.part k)
      (linkAt (setLink s k (linkAt s k).drop) (reverseKey s.part k)).drop) :=
    .of_within (F := [.links]) (setLink_within (setLink_within (.refl s) ..) ..) _
  have page := linkPg_ne_frzPg
  unfold startRetrain
  dsimp only
  split
  · exact dropped.trans (RegsKept.trans (RegsKept.trans (.ite (offFreeze_capture (page _) _ _ _) (.refl _ _)) (noteRetrain_offFreeze _ _))
      (noteRetrain_offFreeze _ _))
  · have marked_ (t : State) : OffFreeze t (if violation = true then capture t (linkPg k) 9 0 else t) :=
      .ite (offFreeze_capture (page k) _ _ _) (.refl t _)
    exact dropped.trans (RegsKept.trans (.of_within (F := [.cwys]) (setCwy_within (.refl _) ..) _) (RegsKept.trans (RegsKept.trans
      (RegsKept.trans (marked_ _) (.rinc (off := 19) _ _ _ (by decide) (page k))) (offFreeze_capture (page k) _ _ _))
      (failover_offFreeze _ _)))

theorem retrainAll_offFreeze (s : State) : OffFreeze s (retrainAll s) := by
  unfold retrainAll
  exact RegsKept.trans (.foldl (fun t k => .ite (startRetrain_offFreeze _ _ _) (.refl t _)) _ s)
    (.foldl (fun t k => .ite (startRetrain_offFreeze _ _ _) (.refl t _)) _ _)

theorem refTo_offFreeze (s : State) {i : Nat} (hi : i < 8) (st : RefState) : OffFreeze s (refTo s i st) :=
  (refTo_regs s hi st).mono fun p o h same => by
    rcases h with ⟨page, -⟩ | gone
    · exact absurd (page.symm.trans same) (by decide)
    · have := goneRegs_page gone
      rw [same] at this
      exact absurd this (by decide)

theorem refThaw_offFreeze (s : State) {i : Nat} (hi : i < 8) : OffFreeze s (refThaw s i) :=
  .ite (refTo_offFreeze s hi _) (.ite (.of_within (F := [.refs]) (setRef_within (.refl s) ..) _) (.refl s _))

theorem refCopy_offFreeze (most : Int) (s : State) {i : Nat} (hi : i < 8) : OffFreeze s (refCopy most s i) := by
  have put {t : State} (r : Ref) : OffFreeze t (setRef t i r) := .of_within (F := [.refs]) (setRef_within (.refl t) ..) _
  unfold refCopy copySlew copyTake
  exact .ite (.ite (RegsKept.trans (refTo_offFreeze s hi _) (put _))
    (RegsKept.trans (.ite (RegsKept.trans (refTo_offFreeze s hi _) (refTo_offFreeze _ hi _)) (refTo_offFreeze s hi _)) (put _))) (.refl s _)

/-- A fold over the references. -/
theorem refs_offFreeze {f : State → Nat → State} (hf : ∀ t i, i < 8 → OffFreeze t (f t i)) (s : State) :
    OffFreeze s ((List.range 8).foldl f s) := by
  have all : ∀ (l : List Nat) (t : State), (∀ i ∈ l, i < 8) → OffFreeze t (l.foldl f t) := by
    intro l
    induction l with
    | nil => exact fun t _ => .refl t _
    | cons i r ih => exact fun t h => RegsKept.trans (hf t i (h i List.mem_cons_self)) (ih _ fun j m => h j (List.mem_cons_of_mem _ m))
  exact all _ s fun i => List.mem_range.mp

/-- FRZINFO after a resumed freeze. -/
theorem thaw_frzInfo (s : State) (f : Freeze) :
    rget (thaw s f) frzPg 24 = (fval 35 35 1 ||| fval 34 32 f.safety.num ||| fval 17 0 (min 262143 (rfld s frzPg 24 17 0 + 1))) := by
  obtain ⟨u, hu⟩ : ∃ u, u = empsRefresh (gdEdges { s with frozen := none }) false := ⟨_, rfl⟩
  obtain ⟨v, hv⟩ : ∃ v, v = refCopies ((List.range 8).foldl refThaw (retrainAll u)) := ⟨_, rfl⟩
  have wu : Within [.frozen, .chans, .emps] s u :=
    hu ▸ empsRefresh_within (gdEdges_within (Within.setFrozen (.refl s) _ (by decide)) ..) ..
  have kept : OffFreeze s v := hv ▸ RegsKept.trans (RegsKept.trans (RegsKept.trans (.of_within wu _) (retrainAll_offFreeze u))
    (refs_offFreeze (fun t _ => refThaw_offFreeze t) _)) (refs_offFreeze (fun t _ => refCopy_offFreeze 0 t) _)
  have is : thaw s f = frzInfo v f := by
    rw [hv, hu]
    rfl
  rw [is]
  unfold frzInfo
  dsimp only
  rw [rget_rset_same]
  unfold rfld
  rw [kept frzPg 24 (by decide) fun h => h rfl]

theorem thaw_frozen (s : State) (f : Freeze) : (thaw s f).frozen = none := by
  have w : Within [.regs, .evTick, .events, .refs, .reeds, .chans, .voters, .links, .cwys, .emps] { s with frozen := none } (thaw s f) :=
    frzInfo_within (refCopies_within (.foldl (fun _ _ => refThaw_within (.refl _) ..) (retrainAll_within
      (empsRefresh_within (gdEdges_within (.refl _) ..) ..) ..)) ..) ..
  exact w.frozen

/-- A step of a device whose clocks stand is none. -/
theorem tick_stopped (stopped : clocked s = false) : tick s = s := by
  unfold tick
  rw [stopped]
  rfl

end

theorem freezeAndResume : Rule.FreezeAndResume := by
  unfold Rule.FreezeAndResume
  intro s f
  refine ⟨fun runs por sys high => ?_, fun high => ⟨_, rfl, rfl⟩, fun frozen resume low por sys => ?_, fun frozen stays => ?_⟩
  · obtain ⟨u, hu⟩ : ∃ u, u = { s with
      pins := { s.pins with frz := false }
      frozen := some (freezeOf { s with pins := { s.pins with frz := false } }) } := ⟨_, rfl⟩
    obtain ⟨t, ht⟩ : ∃ t, t = empsRefresh u true := ⟨_, rfl⟩
    have w : Within [.emps] u t := ht ▸ empsRefresh_within (.refl u) ..
    have run : exec (.frzNFall true) s = .next t := by
      rw [ht, hu]
      refine congrArg done ((if_pos (by rw [high]; rfl)).trans (if_neg ?_))
      rintro (h | h | h)
      · rw [show s.frozen = none from runs] at h
        cases h
      · exact absurd (por.symm.trans h) (by decide)
      · exact absurd (sys.symm.trans h) (by decide)
    have held : t.frozen = some (freezeOf { s with pins := { s.pins with frz := false } }) := by rw [w.frozen, hu]
    have stopped (l : List Instr) : clocked { t with pending := l } = false := by
      show ((t.frozen.isNone && _) && _) = false
      rw [held]
      rfl
    refine ⟨t, run, stopped t.pending, by rw [w.pins, hu], ?_, ?_, congrArg Host.Outcome.next (tick_stopped (stopped []))⟩
    · rw [held]
      refine congrArg some ?_
      unfold freezeOf
      refine congrArg (Freeze.mk s.safety s.lcs (dbgState s)) ?_
      show ((s.safety == .boot || s.safety == .proof) && decide (dbgState s = 3)) = _
      rw [Bool.eq_iff_iff]
      simp
    · rw [w.eq, hu]
      rfl
  · obtain ⟨u, hu⟩ : ∃ u, u = { s with pins := { s.pins with frz := true } } := ⟨_, rfl⟩
    have w : Within [.regs, .evTick, .events, .frozen, .refs, .reeds, .chans, .voters, .links, .cwys, .emps] u (thaw u f) :=
      thaw_within (.refl u) f
    have run : exec .frzNRelease s = .next (thaw u f) := by
      show execFrzNRelease s = _
      unfold execFrzNRelease
      rw [frozen, hu]
      dsimp only
      rw [resume, low]
      rfl
    have open_ : (thaw u f).frozen = none := thaw_frozen u f
    have info := thaw_frzInfo u f
    rw [hu] at info
    refine ⟨_, run, open_, ?_, by rw [w.pins, hu], by rw [w.mem, hu], by rw [w.cores, hu], by rw [w.safety, hu], by rw [w.tt, hu], ?_⟩
    · unfold clocked
      rw [open_, w.pins, hu]
      show ((true && !s.pins.porHeld) && !s.pins.sysHeld) = true
      rw [por, sys]
      rfl
    · rw [hu]
      exact info
  · refine ⟨{ s with pins := { s.pins with frz := true } }, ?_, frozen, rfl, rfl⟩
    show execFrzNRelease s = _
    unfold execFrzNRelease
    rw [frozen]
    dsimp only
    rw [stays]
    rfl

/-- Settles O59: the instructions of the port, the capture of the balls, the read-out and the debug master; the freezing edge and the
release. -/
theorem testPortAndFreeze : Obligations.TestPortAndFreeze := ⟨testAccessPort, freezeAndResume⟩

end Sys2Proof.Machine

namespace Sys2Proof.Machine
open Sys2Proof
set_option Elab.async false

/-! ## Rule sets and gate configuration (R377, R381, R384 to R387, R393 to R397, R404, R405) -/

section
variable {s t : State} {n : Nat} {set : Bool}

/-! ### The sets of a master gate -/

@[simp] theorem set_putSet_same (c : Core) (b : Bool) (r : RuleSet) : (c.putSet b r).set b = r := by cases b <;> rfl

@[simp] theorem set_putSet_other (c : Core) (b : Bool) (r : RuleSet) : (c.putSet b r).set (!b) = c.set (!b) := by cases b <;> rfl

theorem putSet_rest (c : Core) (b : Bool) (r : RuleSet) : (c.putSet b r).rsload = c.rsload ∧ (c.putSet b r).epoch = c.epoch := by
  cases b <;> exact ⟨rfl, rfl⟩

theorem coreAt_putRules (s : State) (n : Nat) (b : Bool) (r : RuleSet) : coreAt (putRules s n b r) n = (coreAt s n).putSet b r :=
  coreAt_setCore_same ..

theorem coreAt_irqPend (s : State) (pg b n : Nat) : coreAt (irqPend s pg b) n = coreAt s n := rfl

/-- A refused command of a master gate's page is captured alone. -/
theorem refuseCmd_only (s : State) (n : Nat) (v : Word) :
    let t := refuseCmd s n v
    Captured s t (mgatePg n) 12 (fld v 29 0) ∧ coreAt t n = coreAt s n ∧ t = { s.noted t with regs := t.regs } := by
  have w : Within Area.ofSignal s (refuseCmd s n v) := capture_within (.refl s) ..
  refine ⟨captured_capture .., ?_, w.noted⟩
  unfold coreAt
  rw [w.cores]

/-- No load of a set runs: none of its words is queued. -/
theorem filter_rsload_idle {c : Core} {b : Bool} (idle : setLoading c b = false) : c.rsload.filter (fun x => x.1 != b) = c.rsload := by
  unfold setLoading at idle
  rw [List.any_eq_false] at idle
  exact List.filter_eq_self.mpr fun x hx => by simpa using idle x hx

/-- The end of a load. -/
theorem endLoad_ends (s : State) (n : Nat) (b : Bool) :
    let t := endLoad s n b
    coreAt t n = { coreAt s n with rsload := (coreAt s n).rsload.filter (fun x => x.1 != b) } ∧ bit (rget t (mgatePg n) 9) 1 = true ∧
      RegsKept s t (fun p off => p = mgatePg n ∧ off = 9) ∧ Within [.cores, .regs, .evTick, .events] s t := by
  obtain ⟨u, hu⟩ : ∃ u, u = setCore s n { coreAt s n with rsload := (coreAt s n).rsload.filter (fun x => x.1 != b) } := ⟨_, rfl⟩
  have is : endLoad s n b = irqPend u (mgatePg n) 1 := hu ▸ rfl
  have w : Within [.cores] s u := hu ▸ setCore_within (.refl s) ..
  have wi : Within [.regs, .evTick, .events] u (irqPend u (mgatePg n) 1) := irqPend_within (.refl u) ..
  rw [is]
  refine ⟨?_, irqPend_pends _ _ (by decide), RegsKept.trans (.of_within w _) (.irqPend _ _ ⟨rfl, rfl⟩), (w.mono (by decide)).trans (wi.mono (by decide))⟩
  show coreAt u n = _
  rw [hu, coreAt_setCore_same]

/-- A command that ends a load of a set leaves every other load. -/
theorem stopLoad_stops (s : State) (n : Nat) (b : Bool) :
    let t := stopLoad s n b
    coreAt t n = { coreAt s n with rsload := (coreAt s n).rsload.filter (fun x => x.1 != b) } ∧
      RegsKept s t (fun p off => p = mgatePg n ∧ off = 9) ∧ Within [.cores, .regs, .evTick, .events] s t := by
  unfold stopLoad
  split
  · obtain ⟨core, -, kept, w⟩ := endLoad_ends s n b
    exact ⟨core, kept, w⟩
  next idle =>
    refine ⟨?_, .refl s _, .refl s⟩
    rw [filter_rsload_idle (Bool.not_eq_true _ ▸ idle)]

/-! ### RSLOAD -/

theorem rsload_word (set : Bool) (va : BitVec 30) : bit (fval 35 35 (bnat set) ||| va.setWidth 36) 35 = set ∧
    fld (fval 35 35 (bnat set) ||| va.setWidth 36) 29 0 = va.toNat := by
  constructor
  · unfold bit
    rw [BitVec.getLsbD_or, BitVec.getLsbD_setWidth, BitVec.getLsbD_of_ge va 35 (by decide), Bool.and_false, Bool.or_false]
    cases set <;> decide
  · apply Nat.eq_of_testBit_eq
    intro i
    rw [testBit_fld, BitVec.getLsbD_or, BitVec.getLsbD_setWidth, getLsbD_fval, Nat.zero_add, ← BitVec.testBit_toNat]
    by_cases low : i < 30
    · simp [low, show i < 36 by omega, show ¬ 35 ≤ i by omega]
    · simp [low, Nat.testBit_lt_two_pow (va.isLt.trans_le (Nat.pow_le_pow_right (by decide) (Nat.not_lt.mp low)))]

theorem rsloadStarts : Rule.RsloadStarts := by
  unfold Rule.RsloadStarts
  intro s core set va n c works opened
  obtain ⟨which, address⟩ := rsload_word set va
  have run (t : State) (is : (if setInUse c set || setLoading c set then refuseCmd s n (fval 35 35 (bnat set) ||| va.setWidth 36)
      else setCore s n { c.putSet set { c.set set with st := .loading } with rsload := c.rsload ++ [(set, va.toNat)] }) = t) :
      exec (.rsload core set va) s = .next t := by
    refine congrArg done ((unitDo_of_works works _).trans ?_)
    unfold rsloadStore
    rw [unlessLocked_open _ _ opened]
    dsimp only
    rw [which, address]
    exact is
  refine ⟨fun idle free => ?_, fun busy => ?_⟩
  · refine ⟨_, run _ (if_neg (by rw [idle, free]; decide)), ?_, ?_, ?_, rfl⟩
    all_goals rw [coreAt_setCore_same]
    · cases set <;> rfl
    · cases set <;> rfl
  · obtain ⟨captured, same, only⟩ := refuseCmd_only s n (fval 35 35 (bnat set) ||| va.setWidth 36)
    rw [address] at captured
    exact ⟨_, run _ (if_pos busy), captured, same, only⟩

/-! ### CLEAR and COMMIT -/

theorem clear_word (set : Bool) : bit (fval 35 35 (bnat set) ||| fval 0 0 1) 35 = set ∧ bit (fval 35 35 (bnat set) ||| fval 0 0 1) 0 = true ∧
    bit (fval 35 35 (bnat set) ||| fval 0 0 1) 1 = false ∧ fld (fval 35 35 (bnat set) ||| fval 0 0 1) 29 0 = 1 := by
  cases set <;> decide

theorem commit_word (set : Bool) : bit (fval 35 35 (bnat set) ||| fval 1 1 1) 35 = set ∧ bit (fval 35 35 (bnat set) ||| fval 1 1 1) 0 = false ∧
    bit (fval 35 35 (bnat set) ||| fval 1 1 1) 1 = true ∧ fld (fval 35 35 (bnat set) ||| fval 1 1 1) 29 0 = 2 := by
  cases set <;> decide

/-- CLEAR and COMMIT of a set, at a page that is not locked. -/
theorem exec_rsctl {core : BitVec 7} (works : unitWorks s (mgatePg core.toNat) = true) (opened : locked s (mgatePg core.toNat) = false) (set : Bool) :
    exec (.rsctlClear core set) s = .next (clearSet s core.toNat set (fval 35 35 (bnat set) ||| fval 0 0 1)) ∧
    exec (.rsctlCommit core set) s = .next (commitOpen s core.toNat set (fval 35 35 (bnat set) ||| fval 1 1 1)) := by
  obtain ⟨which, clears, keeps, -⟩ := clear_word set
  obtain ⟨which', keeps', commits, -⟩ := commit_word set
  constructor
  all_goals
    refine congrArg done ((unitDo_of_works works _).trans ?_)
    unfold rsctlStore
    rw [unlessLocked_open _ _ opened]
    dsimp only
  · rw [clears, keeps, which, if_pos rfl, if_neg Bool.false_ne_true]
  · rw [commits, keeps', which', if_pos rfl, if_neg Bool.false_ne_true]

/-- A set that fails its commit. -/
theorem setFault_faults (s : State) (n : Nat) (b : Bool) (code slot win : Nat) :
    let t := setFault s n b code slot win
    coreAt t n = (coreAt s n).putSet b { (coreAt s n).set b with
      st := .fault
      fcode := code
      fslot := slot
      fwin := win } ∧ Within [.cores, .regs, .evTick, .events] s t := by
  obtain ⟨u, hu⟩ : ∃ u, u = setCore s n ((coreAt s n).putSet b { (coreAt s n).set b with
    st := .fault
    fcode := code
    fslot := slot
    fwin := win }) := ⟨_, rfl⟩
  have w : Within [.cores] s u := hu ▸ setCore_within (.refl s) ..
  have is : setFault s n b code slot win = capture u (mgatePg n) 11 ((coreAt s n).set b).imgva := hu ▸ rfl
  have wc : Within [.regs, .evTick, .events] u (capture u (mgatePg n) 11 ((coreAt s n).set b).imgva) := capture_within (.refl u) ..
  rw [is]
  refine ⟨?_, (w.mono (by decide)).trans (wc.mono (by decide))⟩
  have same : coreAt (capture u (mgatePg n) 11 ((coreAt s n).set b).imgva) n = coreAt u n := congrArg (kget (fun _ => Core.init) · n) wc.cores
  rw [same, hu, coreAt_setCore_same]

/-- The commit of a set that the checks of R377 pass, and of another. -/
theorem commitSet_commits (s : State) (n : Nat) (b : Bool) :
    let t := commitSet s n b
    let r := (coreAt s n).set b
    (commitFault r (List.range 768) allWindows = none → coreAt t n = (coreAt s n).putSet b { r with
      st := .ready
      fcode := 0
      fslot := 0
      fwin := 0 }) ∧
    (∀ code slot win, commitFault r (List.range 768) allWindows = some (code, slot, win) → coreAt t n = (coreAt s n).putSet b { r with
      st := .fault
      fcode := code
      fslot := slot
      fwin := win }) ∧ Within [.cores, .regs, .evTick, .events] s t := by
  dsimp only
  obtain ⟨x, found⟩ : ∃ x, commitFault ((coreAt s n).set b) (List.range 768) allWindows = x := ⟨_, rfl⟩
  unfold commitSet
  dsimp only
  rw [found]
  cases x with
  | none =>
    exact ⟨fun _ => coreAt_setCore_same _ _ _, fun _ _ _ bad => (nomatch bad), setCore_within (.refl s) _ _⟩
  | some x =>
    obtain ⟨core, w⟩ := setFault_faults s n b x.1 x.2.1 x.2.2
    exact ⟨fun fits => (nomatch fits), fun code slot win bad => Option.some.inj bad ▸ core, w⟩

theorem word_init (x : Nat) (k : Nat) : RuleSet.word { RuleSet.init with imgva := x } k = 0 := by
  show (if 4 ≤ k ∧ k < 218 then (0 : Word) else 0) = 0
  exact ite_self _

theorem clearAndCommit : Rule.ClearAndCommit := by
  unfold Rule.ClearAndCommit
  intro s core set n pg c works opened
  obtain ⟨clears, commits⟩ := exec_rsctl works opened set
  refine ⟨fun idle => ?_, fun busy => ?_, fun open_ fits => ?_, fun code slot win open_ bad => ?_, fun shut => ?_⟩
  · obtain ⟨core_, kept, w⟩ := stopLoad_stops s n set
    have is : clearSet s n set (fval 35 35 (bnat set) ||| fval 0 0 1) = putRules (stopLoad s n set) n set { RuleSet.init with imgva := (c.set set).imgva } :=
      if_neg (by rw [idle]; decide)
    have own := coreAt_putRules (stopLoad s n set) n set { RuleSet.init with imgva := (c.set set).imgva }
    have wp : Within [.cores] (stopLoad s n set) (putRules (stopLoad s n set) n set { RuleSet.init with imgva := (c.set set).imgva }) :=
      putRules_within (.refl _) ..
    rw [core_] at own
    refine ⟨_, clears.trans (congrArg Host.Outcome.next is), ?_, ?_, fun k => ?_, ?_, ?_, RegsKept.trans kept (.of_within wp _)⟩
    · rw [own, set_putSet_same]
      rfl
    · rw [wp.mem, w.mem]
    · rw [own, set_putSet_same, word_init]
    · rw [own, set_putSet_other]
      cases set <;> rfl
    · rw [own, (putSet_rest ..).1]
  · obtain ⟨captured, same, only⟩ := refuseCmd_only s n (fval 35 35 (bnat set) ||| fval 0 0 1)
    rw [(clear_word set).2.2.2] at captured
    exact ⟨_, clears.trans (congrArg Host.Outcome.next (if_pos busy)), captured, same, only⟩
  all_goals obtain ⟨ready, fault, -⟩ := commitSet_commits s n set
  · have is : commitOpen s n set (fval 35 35 (bnat set) ||| fval 1 1 1) = irqPend (commitSet s n set) (mgatePg n) 1 :=
      if_neg (by rw [open_]; decide)
    have own := (coreAt_irqPend (commitSet s n set) (mgatePg n) 1 n).trans (ready fits)
    refine ⟨_, commits.trans (congrArg Host.Outcome.next is), ?_, irqPend_pends _ _ (by decide), fun k => ?_, ?_⟩
    · rw [own, set_putSet_same]
    · rw [own, set_putSet_same]
      rfl
    · rw [own, set_putSet_other]
  · have is : commitOpen s n set (fval 35 35 (bnat set) ||| fval 1 1 1) = irqPend (commitSet s n set) (mgatePg n) 1 :=
      if_neg (by rw [open_]; decide)
    have own := (coreAt_irqPend (commitSet s n set) (mgatePg n) 1 n).trans (fault code slot win bad)
    refine ⟨_, commits.trans (congrArg Host.Outcome.next is), irqPend_pends _ _ (by decide), ?_⟩
    rw [own, set_putSet_same]
  · obtain ⟨captured, same, only⟩ := refuseCmd_only s n (fval 35 35 (bnat set) ||| fval 1 1 1)
    rw [(commit_word set).2.2.2] at captured
    exact ⟨_, commits.trans (congrArg Host.Outcome.next (if_pos (beq_false_of_ne shut))), captured, same, only⟩

/-! ### RSDATA -/

theorem word_setWord_same (r : RuleSet) (i : Nat) (v : Word) : (r.setWord i v).word i = v := by
  unfold RuleSet.word RuleSet.setWord
  exact kget_kset_same ..

theorem word_setWord_other (r : RuleSet) {i k : Nat} (v : Word) (h : k ≠ i) : (r.setWord i v).word k = r.word k := by
  unfold RuleSet.word RuleSet.setWord
  exact kget_kset_other _ _ _ h

/-- A write of RSDATA at a page that is not locked: held where it would open a fifth epoch. -/
theorem exec_rsdata {core : BitVec 7} (works : unitWorks s (mgatePg core.toNat) = true) (opened : locked s (mgatePg core.toNat) = false) (v : Word) :
    exec (.rsdataWrite core v) s = .next (if rsdataWaits s core.toNat v then epochStall s core.toNat core.toNat else rsdataWrite s core.toNat v) := by
  refine congrArg done ((unitDo_of_works works _).trans ?_)
  unfold rsdataStore
  rw [unlessLocked_open _ _ opened]

/-- Where an RSDATA write is held. -/
theorem rsdataWaits_iff {v : Word} (opened : locked s (mgatePg n) = false) :
    rsdataWaits s n v = true ↔ (2 ≤ fld (rget s (mgatePg n) 24) 9 0 ∧ fld (rget s (mgatePg n) 24) 9 0 < 768) ∧
      setInUse (coreAt s n) (rsSel s n) = true ∧
      rsdataRefused ((coreAt s n).set (rsSel s n)) (fld (rget s (mgatePg n) 24) 9 0) v = false ∧ 4 ≤ (coreAt s n).epochs.length := by
  unfold rsdataWaits rfld
  simp only [opened, Bool.not_false, Bool.true_and, Bool.and_eq_true, decide_eq_true_iff, Bool.not_eq_true', and_assoc]

theorem rsdataRefused_iff (r : RuleSet) (i : Nat) (v : Word) : rsdataRefused r i v = false ↔ i ≠ 2 ∧
    commitFault (r.setWord i v) [i] ((slotsOfWord i).flatMap (fun sl => if sl < 130 then (List.range 4).map (fun w => (sl, w)) else [])) =
      none := by
  unfold rsdataRefused
  simp only [Bool.or_eq_false_iff, decide_eq_false_iff_not, Option.isSome_eq_false_iff, Option.isNone_iff_eq_none]

theorem rsdataWrites : Rule.RsdataWrites := by
  unfold Rule.RsdataWrites
  intro s core v n pg c sel i r wins allowed takes works opened
  have run := exec_rsdata works opened v
  have waits := rsdataWaits_iff (v := v) opened
  have refused := rsdataRefused_iff r i v
  have flows (h : ¬ (setInUse c sel = true ∧ rsdataRefused r i v = false ∧ 4 ≤ c.epochs.length)) :
      exec (.rsdataWrite core v) s = .next (rsdataWrite s n v) := run.trans (congrArg Host.Outcome.next (if_neg fun w => h (waits.mp w).2))
  refine ⟨fun outside => ?_, fun low high => ⟨fun idle => ?_, fun busy may room => ?_, fun busy may full => ?_, fun busy mayNot => ?_⟩⟩
  · refine run.trans (congrArg Host.Outcome.next ((if_neg fun w => ?_).trans (if_pos outside)))
    have : 2 ≤ i ∧ i < 768 := (waits.mp w).1
    omega
  all_goals have inside : ¬ (i < 2 ∨ 768 ≤ i) := by omega
  · obtain ⟨core_, -, w⟩ := stopLoad_stops s n sel
    have is : rsdataWrite s n v = putRules (stopLoad s n sel) n sel { r.setWord i v with st := .open } :=
      (if_neg inside).trans (if_neg fun h => absurd (idle.symm.trans h) Bool.false_ne_true)
    have own := coreAt_putRules (stopLoad s n sel) n sel { r.setWord i v with st := .open }
    have wp : Within [.cores] (stopLoad s n sel) (putRules (stopLoad s n sel) n sel { r.setWord i v with st := .open }) := putRules_within (.refl _) ..
    rw [core_] at own
    refine ⟨_, (flows fun h => absurd (idle.symm.trans h.1) Bool.false_ne_true).trans (congrArg Host.Outcome.next is),
      ⟨?_, fun k h => ?_, ?_, ?_⟩, ?_, ?_, ?_⟩
    · rw [own, set_putSet_same]
      exact (word_setWord_same r i v :)
    · rw [own, set_putSet_same]
      exact (word_setWord_other r v h :)
    · rw [own, set_putSet_other]
      cases sel <;> rfl
    · rw [wp.mem, w.mem]
    · rw [own, set_putSet_same]
    · rw [own, (putSet_rest ..).2]
    · rw [own, (putSet_rest ..).1]
  · have is : rsdataWrite s n v = setCore s n { c.putSet sel (r.setWord i v) with epoch := c.epoch + 1 } :=
      (if_neg inside).trans ((if_pos busy).trans (if_neg fun h => absurd ((refused.mpr may).symm.trans h) Bool.false_ne_true))
    have own : coreAt (setCore s n { c.putSet sel (r.setWord i v) with epoch := c.epoch + 1 }) n = _ := coreAt_setCore_same ..
    have sets (b : Bool) : ({ c.putSet sel (r.setWord i v) with epoch := c.epoch + 1 } : Core).set b = (c.putSet sel (r.setWord i v)).set b := by
      cases b <;> rfl
    refine ⟨_, (flows fun h => by omega).trans (congrArg Host.Outcome.next is), ⟨?_, fun k h => ?_, ?_, rfl⟩, ?_, ?_, rfl⟩
    · rw [own, sets, set_putSet_same]
      exact word_setWord_same ..
    · rw [own, sets, set_putSet_same]
      exact word_setWord_other _ _ h
    · rw [own, sets, set_putSet_other]
    · rw [own, sets, set_putSet_same]
      rfl
    · rw [own]
  · refine ⟨_, run.trans (congrArg Host.Outcome.next (if_pos (waits.mpr ⟨⟨low, high⟩, busy, refused.mpr may, full⟩))), coreAt_setCore_same .., rfl⟩
  · have bad : rsdataRefused r i v = true := Bool.not_eq_false _ ▸ fun h => mayNot (refused.mp h)
    obtain ⟨captured, same, -⟩ := refuseCmd_only s n v
    have is : rsdataWrite s n v = refuseCmd s n v := (if_neg inside).trans ((if_pos busy).trans (if_pos bad))
    exact ⟨_, (flows fun h => absurd (h.2.1.symm.trans bad) Bool.false_ne_true).trans (congrArg Host.Outcome.next is), same, captured⟩

/-! ### Target gates and the gate mode -/

/-- A write of a register whose fields are the two halves of a gate entry. -/
theorem entry_write {pg off : Nat} {u : UnitTy} (unit : unitOf s.part pg = some u)
    (fields : u.fields off = [⟨35, 15, .rw, 0⟩, ⟨11, 0, .rw, 0⟩]) (ho : off < 512) (v : Word) (opened : locked s pg = false) :
    let t := plainWrite s pg off v
    fld (rget t pg off) 35 15 = fld v 35 15 ∧ fld (rget t pg off) 11 0 = fld v 11 0 ∧
      fld (rget t pg off) 14 12 = fld (rget s pg off) 14 12 ∧ RegsKept s t (fun p o => p = pg ∧ o = off) ∧ t = { s with regs := t.regs } := by
  have bits (i : Nat) : (applyWrite (u.fields off) (rget s pg off) v).getLsbD i =
      if (15 ≤ i ∧ i ≤ 35) ∨ i ≤ 11 then v.getLsbD i else (rget s pg off).getLsbD i := by
    rw [fields, getLsbD_applyWrite_rw _ (by decide)]
    simp only [List.any_cons, List.any_nil, Bool.or_false, Bool.or_eq_true, Bool.and_eq_true, decide_eq_true_eq, Nat.zero_le, true_and]
  have is : plainWrite s pg off v = rset s pg off (applyWrite (u.fields off) (rget s pg off) v) :=
    plainWrite_unlocked v unit opened (by rw [fields]; decide)
  dsimp only
  rw [is, rget_rset_same]
  refine ⟨fld_congr fun i low high => ?_, fld_congr fun i low high => ?_, fld_congr fun i low high => ?_, .rset s _ ho ⟨rfl, rfl⟩, rfl⟩
  · rw [bits, if_pos (by omega)]
  · rw [bits, if_pos (by omega)]
  · rw [bits, if_neg (by omega)]

/-- The page of a target gate is one of a bank's gate or of a region's. -/
theorem gatePg_unit {gate : Nat} (h : gate < 160) (works : unitWorks s (gatePg gate) = true) :
    ∃ u, unitOf s.part (gatePg gate) = some u ∧ (u = .mgate ∨ u = .tgate) := by
  obtain ⟨u, e⟩ := unit_of_works works
  refine ⟨u, e, ?_⟩
  unfold gatePg at e
  by_cases bank : gate < 128
  · rw [if_pos bank] at e
    unfold mgatePg at e
    rw [unitOf_regionPg _ (by omega) (by omega)] at e
    split at e
    · unfold unitOfRegion at e
      iterate 3 rw [if_neg (by omega)] at e
      rw [if_pos (by omega), if_neg (by omega), if_pos (by omega)] at e
      exact .inl (Option.some.inj e).symm
    · cases e
  · rw [if_neg bank, unitOf_regionPg _ (by omega) (by decide)] at e
    split at e
    · exact .inr (Option.some.inj e).symm
    · cases e

theorem gateEntry_fields {u : UnitTy} (h : u = .mgate ∨ u = .tgate) : ∀ i < 16,
    u.fields (32 + i) = [⟨35, 15, .rw, 0⟩, ⟨11, 0, .rw, 0⟩] ∧ u.lockable (32 + i) = true := by
  rcases h with rfl | rfl <;> decide

theorem targetGateEntries : Rule.TargetGateEntries := by
  unfold Rule.TargetGateEntries
  intro s gate index v gp off
  have run (here : gate.toNat < 160) (works : unitWorks s gp = true) : exec (.targetGateWrite gate index v) s = .next (plainWrite s gp off v) :=
    congrArg done ((if_pos here).trans (unitDo_of_works works _))
  have small : index.toNat < 16 := index.isLt
  refine ⟨fun here works opened => ?_, fun here works shut => ?_⟩
  all_goals
    obtain ⟨u, unit, kind⟩ := gatePg_unit here works
    obtain ⟨fields, lockable⟩ := gateEntry_fields kind index.toNat small
  · exact ⟨_, run here works, entry_write unit fields (by omega) v opened⟩
  · have is : plainWrite s gp off v = captureAt s gp 1 off := by
      unfold plainWrite
      rw [unit]
      dsimp only
      rw [lockable, shut]
      rfl
    obtain ⟨⟨kept, -⟩, captured⟩ := captureAt_only s gp 1 off
    exact ⟨_, (run here works).trans (congrArg Host.Outcome.next is), captured, kept.mono fun p o h => ⟨h.1, h.2.2⟩⟩

theorem gateModes : Rule.GateModes := by
  unfold Rule.GateModes
  intro s v works opened
  obtain ⟨u, unit⟩ := unit_of_works works
  have pkg : unitOf s.part (pkgPg 0) = some .pkg := by cases s.part <;> decide
  have store : gatecfgStore s v = if s.safety = .boot ∨ s.safety = .proof then writeFields s (pkgPg 0) 40 v else captureAt s (pkgPg 0) 24 40 :=
    unlessLocked_open _ _ opened
  have run : exec (.gatecfgWrite v) s = .next
      (if (s.safety = .boot ∨ s.safety = .proof) ∧ locked s (pkgPg 0) = false ∧ anyOutstanding s = true then s else gatecfgStore s v) :=
    congrArg done (unitDo_of_works works _)
  refine ⟨fun may free => ?_, fun may busy => ?_, fun boot proof => ?_⟩
  · have is : gatecfgStore s v = rset s (pkgPg 0) 40 (applyWrite (UnitTy.pkg.fields 40) (rget s (pkgPg 0) 40) v) := by
      rw [store, if_pos may]
      unfold writeFields
      rw [pkg]
      dsimp only
      rw [show wcMask (UnitTy.pkg.fields 40) = 0 by decide]
      simp
    refine ⟨_, run.trans (congrArg Host.Outcome.next ((if_neg fun h => ?_).trans is)), ?_, .rset s _ (by decide) ⟨rfl, rfl⟩, rfl⟩
    · exact absurd (free.symm.trans h.2.2) Bool.false_ne_true
    · unfold gateMode rfld
      rw [rget_rset_same]
      refine fld_congr fun i low high => ?_
      rw [show UnitTy.pkg.fields 40 = [⟨1, 0, .rw, 0⟩] by decide, getLsbD_applyWrite_rw _ (by decide), if_pos]
      simp only [List.any_cons, List.any_nil, Bool.or_false, Bool.and_eq_true, decide_eq_true_eq]
      omega
  · exact run.trans (congrArg Host.Outcome.next (if_pos ⟨may, opened, busy⟩))
  · obtain ⟨⟨kept, -⟩, captured⟩ := captureAt_only s (pkgPg 0) 24 40
    refine ⟨_, run.trans (congrArg Host.Outcome.next ((if_neg fun h => h.1.elim boot proof).trans
      (store.trans (if_neg fun h => h.elim boot proof)))), ?_, captured⟩
    unfold gateMode rfld
    rw [kept _ _ (by decide) fun h => by have := h.2.2; omega]

/-! ### The loader (R385, R386) -/

/-- The fields that a read of a word writes. -/
abbrev Area.ofLook : List Area := [.eccWb, .regs, .evTick, .events, .heatCnt, .heatDue, .slots]

/-- A word that the loader reads while the core's translation is off. -/
theorem loaderRead_run {va : Nat} (off : bit (rget s (corePg n) 176) 35 = false) (reach : memReach s va = .ok)
    (held : (mget s va).ecc ≠ .double) : ∃ t, loaderRead n va s = .ok ((mget s va).data, (mget s va).tag) t ∧ Within Area.ofLook s t ∧
      RegsKept s t accessRegs := by
  have translate : dmaTranslate n 1 va false s = .ok va s := by
    unfold dmaTranslate
    rw [get_bind]
    dsimp only
    rw [off]
    rfl
  have wn : Within [.regs, .evTick, .events, .heatCnt, .heatDue, .slots] s (noteAccess s (.die (n / 16)) va 1) := noteAccess_within (.refl s) ..
  have some_ : (readFor s (.die (n / 16)) va).1 = some ((mget s va).data, (mget s va).tag) := by
    unfold readFor
    rw [memRead_some _ _ (by rw [wn.mget]; exact held), wn.mget]
  refine ⟨(readFor s (.die (n / 16)) va).2, ?_, readFor_within (.refl s) .., readFor_access _ _ _⟩
  unfold loaderRead
  rw [bind_ok translate, get_bind, reach]
  dsimp only
  rw [act_bind, some_]
  rfl

/-- What a look leaves for the next. -/
structure Readable (s : State) (n a : Nat) : Prop where
  off : bit (rget s (corePg n) 176) 35 = false
  words : ∀ k, k < 768 → memReach s (a + k) = .ok ∧ (mget s (a + k)).ecc ≠ .double

theorem Readable.of_look {a : Nat} (h : Readable s n a) (w : Within (.cores :: Area.ofLook) s t) (kept : RegsKept s t accessRegs) :
    Readable t n a := by
  refine ⟨?_, fun k hk => ?_⟩
  · rw [kept _ _ (by decide) fun h => by unfold accessRegs at h; omega]
    exact h.off
  · obtain ⟨reach, held⟩ := h.words k hk
    rw [w.mget]
    refine ⟨?_, held⟩
    rw [w.eq]
    exact reach

theorem putSet_putSet (c : Core) (b : Bool) (r q : RuleSet) : (c.putSet b r).putSet b q = c.putSet b q := by cases b <;> rfl

/-- The state t after the loader has read words of the image at va: the set has taken those of the list. -/
structure Took (s t : State) (n va : Nat) (b : Bool) (l : List Nat) : Prop where
  within : Within (.cores :: Area.ofLook) s t
  kept : RegsKept s t accessRegs
  core : ∃ ws, coreAt t n = (coreAt s n).putSet b { (coreAt s n).set b with words := ws } ∧
    (∀ k ∈ l, RuleSet.word { (coreAt s n).set b with words := ws } k = (mget s (va + k)).data) ∧
    ∀ k, k ∉ l → RuleSet.word { (coreAt s n).set b with words := ws } k = ((coreAt s n).set b).word k

theorem loadWords_run {va : Nat} (b : Bool) (l : List Nat) : ∀ s : State, Readable s n va → (∀ i ∈ l, i < 768) →
    ∃ t, loadWords n va b l s = .ok () t ∧ Took s t n va b l := by
  induction l with
  | nil =>
    intro s _ _
    refine ⟨s, rfl, .refl s, .refl s _, ((coreAt s n).set b).words, ?_, fun k h => absurd h List.not_mem_nil, fun _ _ => rfl⟩
    cases b <;> rfl
  | cons i r ih =>
    intro s readable inside
    obtain ⟨reach, held⟩ := readable.words i (inside i List.mem_cons_self)
    obtain ⟨s1, read, w1, kept1⟩ := loaderRead_run readable.off reach held
    obtain ⟨s2, h2⟩ : ∃ s2, s2 = setCore s1 n ((coreAt s1 n).putSet b (((coreAt s1 n).set b).setWord i (mget s (va + i)).data)) := ⟨_, rfl⟩
    have w2 : Within [.cores] s1 s2 := h2 ▸ setCore_within (.refl s1) ..
    have w : Within (.cores :: Area.ofLook) s s2 := (w1.mono (by decide)).trans (w2.mono (by decide))
    have kept : RegsKept s s2 accessRegs := kept1.trans (.of_within w2 _)
    have core2 : coreAt s2 n = (coreAt s n).putSet b (((coreAt s n).set b).setWord i (mget s (va + i)).data) := by
      have same : coreAt s1 n = coreAt s n := congrArg (kget (fun _ => Core.init) · n) w1.cores
      rw [h2, coreAt_setCore_same, same]
    obtain ⟨t, run, w', kept', ws, core, taken, others⟩ := ih s2 (readable.of_look w kept) fun j hj => inside j (List.mem_cons_of_mem _ hj)
    refine ⟨t, ?_, w.trans w', kept.trans kept', ws, ?_, fun k hk => ?_, fun k hk => ?_⟩
    · show (loaderRead n (va + i) >>= _) s = _
      rw [bind_ok read, upd_bind, ← h2]
      exact run
    · rw [core, core2, putSet_putSet, set_putSet_same]
      rfl
    all_goals rw [core2, set_putSet_same] at taken others
    · by_cases later : k ∈ r
      · exact (taken k later).trans (congrArg MemWord.data (w.mget (va + k)))
      · have is : k = i := (List.mem_cons.mp hk).resolve_right later
        subst is
        exact (others k later).trans (word_setWord_same ..)
    · rw [List.mem_cons, not_or] at hk
      exact (others k hk.2).trans (word_setWord_other _ _ hk.1)

/-- The image at va, as SELF names it. -/
def imageSelf (s : State) (va : Nat) : Cap :=
  { hi := (mget s va).data, lo := (mget s (va + 1)).data, tag := (mget s va).tag && (mget s (va + 1)).tag }

/-- A sealed capability of type 59 to the 768 words of an image. -/
def ImageGood (s : State) (va : Nat) : Prop :=
  (imageSelf s va).tag = true ∧ (imageSelf s va).otype = 59 ∧ (imageSelf s va).base = va ∧ (imageSelf s va).top = va + 768 ∧ va % 2 = 0

/-- The load of an image, with the words of the set, or without. -/
theorem loadImage_run {va : Nat} (b : Bool) (readable : Readable s n va) (still : filtering s = false) :
    (ImageGood s va → ∃ t, loadImage n va b s = .ok true t ∧ Within (.cores :: Area.ofLook) s t ∧ RegsKept s t accessRegs ∧
      ∃ ws, coreAt t n = (coreAt s n).putSet b { (coreAt s n).set b with
          words := ws
          fill := 0 } ∧
        ∀ k, 2 ≤ k → k < 768 → RuleSet.word { (coreAt s n).set b with
          words := ws
          fill := 0 } k = (mget s (va + k)).data) ∧
    (¬ ImageGood s va → ∃ t, loadImage n va b s = .ok false t ∧ Within (.cores :: Area.ofLook) s t ∧ RegsKept s t accessRegs ∧
      coreAt t n = coreAt s n) := by
  obtain ⟨reach0, held0⟩ := readable.words 0 (by decide)
  rw [Nat.add_zero] at reach0 held0
  obtain ⟨s1, read1, w1, kept1⟩ := loaderRead_run readable.off reach0 held0
  have readable1 := readable.of_look (w1.mono (by decide)) kept1
  obtain ⟨reach1, held1⟩ := readable1.words 1 (by decide)
  obtain ⟨s2, read2, w2, kept2⟩ := loaderRead_run readable1.off reach1 held1
  have w : Within Area.ofLook s s2 := w1.trans w2
  have kept := RegsKept.trans kept1 kept2
  have readable2 := readable.of_look (w.mono (by decide)) kept
  have same : coreAt s2 n = coreAt s n := congrArg (kget (fun _ => Core.init) · n) w.cores
  rw [w1.mget] at read2
  obtain ⟨self, hself⟩ : ∃ self, self = imageSelf s va := ⟨_, rfl⟩
  have passes : filterTag s2 (n / 4) self = (self.tag, s2) := by
    have still2 : filtering s2 = false := by
      rw [w.eq]
      exact still
    unfold filterTag
    rw [still2, Bool.and_false]
    rfl
  have begins : loadImage n va b s = (if self.tag = false ∨ self.otype ≠ 59 ∨ self.base ≠ va ∨ self.top ≠ va + 768 ∨ va % 2 = 1 then
      (pure false : X Bool)
    else do
      upd (fun s => setCore s n ((coreAt s n).putSet b { (coreAt s n).set b with
        words := []
        fill := 0 }))
      loadWords n va b ((List.range 766).map (fun i => i + 2))
      return true) s2 := by
    unfold loadImage
    rw [bind_ok read1, bind_ok read2]
    dsimp only
    rw [act_bind, ← imageSelf, ← hself, passes]
  refine ⟨fun good => ?_, fun bad => ?_⟩
  · unfold ImageGood at good
    rw [← hself] at good
    obtain ⟨tag, type, base, top, even⟩ := good
    obtain ⟨s3, h3⟩ : ∃ s3, s3 = setCore s2 n ((coreAt s2 n).putSet b { (coreAt s2 n).set b with
      words := []
      fill := 0 }) := ⟨_, rfl⟩
    have w3 : Within [.cores] s2 s3 := h3 ▸ setCore_within (.refl s2) ..
    have all : Within (.cores :: Area.ofLook) s s3 := (w.mono (by decide)).trans (w3.mono (by decide))
    have kept3 : RegsKept s s3 accessRegs := kept.trans (.of_within w3 _)
    obtain ⟨t, run, w4, kept4, ws, core, taken, -⟩ := loadWords_run b ((List.range 766).map (fun i => i + 2)) s3 (readable.of_look all kept3)
      fun i hi => by
        obtain ⟨j, hj, rfl⟩ := List.mem_map.mp hi
        have := List.mem_range.mp hj
        omega
    have core3 : coreAt s3 n = (coreAt s n).putSet b { (coreAt s n).set b with
        words := []
        fill := 0 } := by rw [h3, coreAt_setCore_same, same]
    rw [core3, set_putSet_same] at core taken
    refine ⟨t, ?_, all.trans w4, kept3.trans kept4, ws, ?_, fun k low high => ?_⟩
    · have fits : ¬ (self.tag = false ∨ self.otype ≠ 59 ∨ self.base ≠ va ∨ self.top ≠ va + 768 ∨ va % 2 = 1) := by
        rintro (h | h | h | h | h)
        · exact absurd (tag.symm.trans h) (by decide)
        · exact h type
        · exact h base
        · exact h top
        · omega
      rw [begins, if_neg fits]
      show (upd _ >>= _) s2 = _
      rw [upd_bind, ← h3, bind_ok run]
      rfl
    · rw [core, putSet_putSet]
    · exact (taken k (List.mem_map.mpr ⟨k - 2, List.mem_range.mpr (by omega), by omega⟩)).trans (congrArg MemWord.data (all.mget (va + k)))
  · refine ⟨s2, ?_, w.mono (by decide), kept, same⟩
    rw [begins, if_pos]
    · rfl
    · unfold ImageGood at bad
      rw [← hself] at bad
      by_contra none_
      simp only [not_or, Bool.not_eq_false, ne_eq, not_not] at none_
      obtain ⟨tag, type, base, top, even⟩ := none_
      exact bad ⟨tag, type, base, top, by omega⟩

/-! ### The end of a load -/

/-- The checks of a commit read the words of a set. -/
theorem commitFault_words {r q : RuleSet} (words : q.words = r.words) (fill : q.fill = r.fill) (l : List Nat) (wins : List (Nat × Nat)) :
    commitFault q l wins = commitFault r l wins := by
  have word (k : Nat) : q.word k = r.word k := by
    unfold RuleSet.word
    rw [words, fill]
  have reserved : reservedSlot q = reservedSlot r := by
    funext i
    unfold reservedSlot
    rw [word]
  have window (slot w : Nat) : q.window slot w = r.window slot w := word _
  have bad : windowBad q = windowBad r := by
    funext slot w
    unfold windowBad
    rw [window]
  have overlaps : windowOverlaps q = windowOverlaps r := by
    funext slot w
    unfold windowOverlaps
    simp only [window]
  unfold commitFault
  rw [reserved, bad, overlaps]

/-- The end of a load at whatever state its set has reached: it is no longer in progress, and IRQ_PEND.SETDONE is set. -/
theorem ended_shows (s : State) (n : Nat) (b : Bool) :
    let t := endLoad (unitGoesOn s n 1) n b
    (∀ x, (coreAt t n).set x = (coreAt s n).set x) ∧ (coreAt t n).rsload = (coreAt s n).rsload.filter (fun x => x.1 != b) ∧
      bit (rget t (mgatePg n) 9) 1 = true ∧ Within [.cores, .regs, .evTick, .events] s t := by
  have wu : Within [.cores] s (unitGoesOn s n 1) := setCore_within (.refl s) ..
  have own : coreAt (unitGoesOn s n 1) n = _ := coreAt_setCore_same ..
  obtain ⟨core, pends, -, w⟩ := endLoad_ends (unitGoesOn s n 1) n b
  rw [own] at core
  dsimp only
  rw [core]
  exact ⟨fun x => by cases x <;> rfl, rfl, pends, (wu.mono (by decide)).trans w⟩

theorem rsloadEnds : Rule.RsloadEnds := by
  unfold Rule.RsloadEnds
  intro s core set a rest n c self good works
  have run : exec (.rsloadDone core) s = .next (match c.rsload with
      | (b, va) :: _ => finishLoad s n b va
      | [] => s) := congrArg done (unitDo_of_works works _)
  refine ⟨fun empty => ?_, fun queued off still words => ?_⟩
  · rw [run, empty]
  · obtain ⟨loads, fails⟩ := loadImage_run set ⟨off, words⟩ still
    have finish : exec (.rsloadDone core) s = .next (finishLoad s n set a) := by rw [run, queued]
    have others (r : RuleSet) : (c.putSet set r).set (!set) = c.set (!set) := set_putSet_other ..
    by_cases fit : ImageGood s a
    · obtain ⟨s1, load, w1, -, ws, core1, taken⟩ := loads fit
      obtain ⟨r, hr⟩ : ∃ r, r = { c.set set with
        words := ws
        fill := 0
        imgva := a } := ⟨_, rfl⟩
      obtain ⟨s2, h2⟩ : ∃ s2, s2 = setCore s1 n ((coreAt s1 n).putSet set { (coreAt s1 n).set set with imgva := a }) := ⟨_, rfl⟩
      have core2 : coreAt s2 n = c.putSet set r := by
        rw [h2, coreAt_setCore_same, core1, putSet_putSet, set_putSet_same, hr]
      have w2 : Within [.cores] s1 s2 := h2 ▸ setCore_within (.refl s1) ..
      obtain ⟨ready, fault, w3⟩ := commitSet_commits s2 n set
      obtain ⟨sets, queue, pends, w4⟩ := ended_shows (commitSet s2 n set) n set
      have is : finishLoad s n set a = endLoad (unitGoesOn (commitSet s2 n set) n 1) n set := by
        unfold finishLoad
        rw [load, h2]
      have w : Within (.cores :: Area.ofLook) s (endLoad (unitGoesOn (commitSet s2 n set) n 1) n set) :=
        w1.trans ((w2.mono (by decide)).trans ((w3.mono (by decide)).trans (w4.mono (by decide))))
      rw [core2, set_putSet_same] at ready fault
      have own : ∃ q, coreAt (commitSet s2 n set) n = c.putSet set q ∧ q.words = r.words ∧ q.fill = r.fill ∧ q.imgva = r.imgva ∧
          (commitFault r (List.range 768) allWindows = none → q.st = .ready) ∧
          (commitFault r (List.range 768) allWindows ≠ none → q.st = .fault) := by
        cases found : commitFault r (List.range 768) allWindows with
        | none => exact ⟨_, (ready found).trans (putSet_putSet ..), rfl, rfl, rfl, fun _ => rfl, fun h => absurd rfl h⟩
        | some x => exact ⟨_, (fault x.1 x.2.1 x.2.2 found).trans (putSet_putSet ..), rfl, rfl, rfl, fun h => (nomatch h), fun _ => rfl⟩
      obtain ⟨q, core3, words_, fill, imgva, passes, misses⟩ := own
      have taken' (k : Nat) (low : 2 ≤ k) (high : k < 768) : q.word k = (mget s (a + k)).data := by
        refine Eq.trans ?_ (taken k low high)
        unfold RuleSet.word
        rw [words_, fill, hr]
      refine ⟨_, finish.trans (congrArg Host.Outcome.next is), ?_, pends, fun p => w.mget p, ?_, fun _ => ?_, fun bad => absurd fit bad⟩
      · rw [queue, core3, (putSet_rest ..).1]
      · rw [sets, core3, others]
      · rw [sets, core3, set_putSet_same, commitFault_words words_ fill]
        exact ⟨taken', imgva.trans (by rw [hr]), passes, misses⟩
    · obtain ⟨s1, load, w1, -, core1⟩ := fails fit
      obtain ⟨core2, w2⟩ := setFault_faults s1 n set 1 0 0
      obtain ⟨sets, queue, pends, w4⟩ := ended_shows (setFault s1 n set 1 0 0) n set
      have is : finishLoad s n set a = endLoad (unitGoesOn (setFault s1 n set 1 0 0) n 1) n set := by
        unfold finishLoad
        rw [load]
      have w : Within (.cores :: Area.ofLook) s (endLoad (unitGoesOn (setFault s1 n set 1 0 0) n 1) n set) :=
        w1.trans ((w2.mono (by decide)).trans (w4.mono (by decide)))
      rw [core1] at core2
      refine ⟨_, finish.trans (congrArg Host.Outcome.next is), ?_, pends, fun p => w.mget p, ?_, fun fits => absurd fits fit, fun _ => ?_⟩
      · rw [queue, core2, (putSet_rest ..).1]
      · rw [sets, core2, others]
      · rw [sets, core2, set_putSet_same]
        exact ⟨rfl, rfl⟩

end

/-- Settles O36: the load of a set and its end, CLEAR and COMMIT, writes of RSDATA, gate entries and the gate mode. -/
theorem gateConfiguration : Obligations.GateConfiguration :=
  ⟨rsloadStarts, rsloadEnds, clearAndCommit, rsdataWrites, targetGateEntries, gateModes⟩

end Sys2Proof.Machine

namespace Sys2Proof.Machine
open Sys2Proof
set_option Elab.async false

/-! ## The block DMA engine (R321, R391, Table 3.9) -/

/-- The state t after words that die services have read, or written, in s. -/
structure Touched (s t : State) : Prop where
  within : Within Area.ofDma s t
  regs : RegsKept s t empRegs

namespace Touched

variable {s t u : State}

theorem refl (s : State) : Touched s s := ⟨.refl s, .refl s _⟩

theorem trans (p : Touched s t) (q : Touched t u) : Touched s u := ⟨p.within.trans q.within, p.regs.trans q.regs⟩

theorem core (m : Touched s t) (n : Nat) : coreAt t n = coreAt s n := coreAt_of_cores m.within.cores n

theorem rget (m : Touched s t) {pg off : Nat} (hp : pg < pkgPg 32) (ho : off < 512) : rget t pg off = Machine.rget s pg off :=
  m.regs pg off ho (by rw [empRegs, empPage_of_lt hp]; decide)

theorem gateMode (m : Touched s t) : gateMode t = Machine.gateMode s := by
  unfold Machine.gateMode rfld
  rw [m.rget (by decide) (by decide)]

theorem memReach (m : Touched s t) (a : Nat) : memReach t a = Machine.memReach s a := by
  rw [m.within.eq]
  rfl

theorem marked (m : Touched s t) (a : Nat) : marked t a = Machine.marked s a := by
  unfold Machine.marked
  rw [m.within.marks]

theorem targetOf (m : Touched s t) (a : Nat) : targetOf t a = Machine.targetOf s a := by
  rw [m.within.eq]
  rfl

theorem slotOf (m : Touched s t) (a : Nat) : slotOf t a = Machine.slotOf s a := by
  rw [m.within.eq]
  rfl

theorem masterChecks (m : Touched s t) (a : Nat) : masterChecks t a = Machine.masterChecks s a := by
  unfold Machine.masterChecks
  rw [m.targetOf, m.gateMode]

end Touched

/-- The gate that checks an access to memory at its target is that of a bank (R378). -/
theorem targetOf_bank {s : State} {a pg u : Nat} (memory : isPage a = false) (e : targetOf s a = some (pg, u)) :
    ∃ b, b < 128 ∧ pg = mgatePg b := by
  have notPage : a / 134217728 ≠ 1 := of_decide_eq_false memory
  unfold targetOf at e
  simp only [notPage, if_false] at e
  split at e
  · split at e
    · next hb =>
      cases e
      exact ⟨_, hb, rfl⟩
    · cases e
  · cases e

theorem Touched.targetOk {s t : State} (m : Touched s t) (st : Stamp) {a : Nat} (k : Kind) (memory : isPage a = false) :
    targetOk t st a k = targetOk s st a k := by
  unfold Machine.targetOk
  rw [m.targetOf, m.gateMode]
  cases e : Machine.targetOf s a with
  | none => rfl
  | some p =>
    obtain ⟨pg, u⟩ := p
    obtain ⟨b, hb, rfl⟩ := targetOf_bank memory e
    have tokens : tokenEntry t = tokenEntry s := by
      unfold tokenEntry
      rw [m.within.carr]
    have entries : ∀ i ∈ List.range 16, Machine.rget t (mgatePg b) (32 + i) = Machine.rget s (mgatePg b) (32 + i) := fun i hi => by
      have := List.mem_range.mp hi
      exact m.rget ((mgatePg_lt hb).trans (by decide)) (by omega)
    have checks (opened : Nat → Bool) : targetCheck t (mgatePg b) u st k opened = targetCheck s (mgatePg b) u st k opened := by
      unfold targetCheck
      rw [Bool.eq_iff_iff, List.any_eq_true, List.any_eq_true]
      exact ⟨fun ⟨i, hi, g⟩ => ⟨i, hi, by rwa [entries i hi] at g⟩, fun ⟨i, hi, g⟩ => ⟨i, hi, by rwa [entries i hi]⟩⟩
    dsimp only
    rw [checks, tokens]

/-- A word of memory that the DMA engine of block n may access for descriptor x, with set b of its block. -/
structure DmaReach (s : State) (n : Nat) (x : DmaDesc) (b : Bool) (k : Kind) (a : Nat) : Prop where
  untranslated : bit (rget s (corePg n) 176) 35 = false
  ready : readySetOf (coreAt s n) x.comp.toNat = some b
  there : memReach s a = .ok
  target : targetOk s (dmaStamp s n x b) a k = true
  master : ∀ slot, slotOf s a = some slot → masterChecks s a = true →
    masterCheck ((coreAt s n).set b) slot a k x.priv.toNat false = none

section
variable {s t : State} {n : Nat} {x : DmaDesc} {b : Bool} {k : Kind} {a : Nat}

theorem DmaReach.touched (hn : n < 128) (m : Touched s t) (r : DmaReach s n x b k a) : DmaReach t n x b k a where
  untranslated := by rw [m.rget ((corePg_lt hn).trans (by decide)) (by decide), r.untranslated]
  ready := by rw [m.core, r.ready]
  there := (m.memReach a).trans r.there
  target := by
    have stamp : dmaStamp t n x b = dmaStamp s n x b := by
      unfold dmaStamp
      rw [m.core]
    rw [m.targetOk _ _ (memReach_ok_memory r.there).1, stamp, r.target]
  master := by
    rw [m.slotOf, m.masterChecks, m.core]
    exact r.master

theorem DmaReach.translate (r : DmaReach s n x b k a) (write : Bool) : dmaTranslate n 0 a write s = .ok a s := by
  refine (get_bind _ s).trans ?_
  rw [r.untranslated]
  rfl

theorem DmaReach.masterGate (r : DmaReach s n x b k a) : dmaMaster n a x k s = .ok (dmaStamp s n x b) s := by
  refine (get_bind _ s).trans ?_
  rw [r.ready]
  cases e : slotOf s a with
  | none => rfl
  | some slot =>
    dsimp only
    by_cases c : masterChecks s a = true
    · rw [if_pos c, r.master slot e c]
      rfl
    · rw [if_neg c]
      rfl

theorem DmaReach.gate (r : DmaReach s n x b k a) (va : Nat) : dmaGate n va a x k s = .ok () s := by
  refine (bind_ok r.masterGate).trans ?_
  rw [(memReach_ok_memory r.there).1, if_neg (by decide)]
  refine (get_bind _ s).trans ?_
  rw [r.there]
  refine (get_bind _ s).trans ?_
  rw [if_pos r.target]
  rfl

/-- A word that the engine reads. -/
theorem dmaRead_run (r : DmaReach s n x b .load a) (good : (mget s a).ecc ≠ .double) :
    ∃ t, dmaRead n a x .load s = .ok ((mget s a).data, (mget s a).tag) t ∧ Touched s t ∧ t.mem = s.mem := by
  have w := readFor_touch s (n / 16) a
  refine ⟨(readFor s (.die (n / 16)) a).2, ?_, ⟨readFor_within (.refl s) .., readFor_emp s _ a⟩, w.mem⟩
  refine (bind_ok (r.translate false)).trans ((bind_ok (r.gate a)).trans ((act_bind _ _ s).trans ?_))
  rw [readFor_fst, if_neg good]
  rfl

/-- A word that the engine writes. -/
theorem dmaWrite_run (w : Word) (r : DmaReach s n x b .store a) (plain : marked s a = false) :
    ∃ t, dmaWrite n a x .store w false s = .ok () t ∧ Touched s t ∧
      ∀ q, mget t q = if a = q then { data := w, tag := false, ecc := .good } else mget s q := by
  refine ⟨putFor s (.die (n / 16)) a w false, ?_, ⟨putFor_within (.refl s) .., ?_⟩, mget_putFor _ w false plain⟩
  · exact (bind_ok (r.translate true)).trans ((bind_ok (r.gate a)).trans rfl)
  · rw [putFor_plain _ w false plain]
    exact noteAccess_die s (n / 16) a _ _

end

/-- The words i on that descriptor x copies can be accessed. -/
def CanCopy (s : State) (n : Nat) (x : DmaDesc) (b : Bool) (i : Nat) : Prop :=
  ∀ j, i ≤ j → j < x.count.toNat →
    (DmaReach s n x b .load (x.src.cursor + j) ∧ (mget s (x.src.cursor + j)).ecc ≠ .double) ∧
    DmaReach s n x b .store (x.dst.cursor + j) ∧ marked s (x.dst.cursor + j) = false

/-- The copy of words one by one (Table 3.9). -/
theorem dmaCopy_run {n : Nat} {x : DmaDesc} {b : Bool} (hn : n < 128)
    (apart : x.src.cursor + x.count.toNat ≤ x.dst.cursor ∨ x.dst.cursor + x.count.toNat ≤ x.src.cursor) :
    ∀ (fuel i : Nat) (s : State), fuel + i = x.count.toNat → CanCopy s n x b i →
      ∃ t, dmaCopy n x false fuel i s = .ok () t ∧ Touched s t ∧
        (∀ j, i ≤ j → j < x.count.toNat →
          mget t (x.dst.cursor + j) = { data := (mget s (x.src.cursor + j)).data, tag := false, ecc := .good }) ∧
        ∀ a, (a < x.dst.cursor + i ∨ x.dst.cursor + x.count.toNat ≤ a) → mget t a = mget s a
  | 0, i, s, all, _ => ⟨s, rfl, .refl s, fun j _ _ => by omega, fun _ _ => rfl⟩
  | fuel + 1, i, s, all, can => by
    obtain ⟨⟨load, good⟩, store, plain⟩ := can i le_rfl (by omega)
    obtain ⟨r, read, looked, mem⟩ := dmaRead_run load good
    obtain ⟨w, write, wrote, word⟩ := dmaWrite_run (mget s (x.src.cursor + i)).data (store.touched hn looked) ((looked.marked _).trans plain)
    have moved := looked.trans wrote
    have kept : ∀ a, a ≠ x.dst.cursor + i → mget w a = mget s a := fun a other => by
      rw [word, if_neg other.symm]
      unfold mget
      rw [mem]
    have later : CanCopy w n x b (i + 1) := fun j low high => by
      obtain ⟨⟨load, good⟩, store, plain⟩ := can j (by omega) high
      refine ⟨⟨load.touched hn moved, ?_⟩, store.touched hn moved, (moved.marked _).trans plain⟩
      rwa [kept _ (by omega)]
    obtain ⟨t, rest, onwards, words, others⟩ := dmaCopy_run hn apart fuel (i + 1) w (by omega) later
    refine ⟨t, ?_, moved.trans onwards, fun j low high => ?_, fun a out => ?_⟩
    · unfold dmaCopy
      dsimp only
      rw [if_neg (by omega), Bool.false_and, if_neg (by decide)]
      exact (bind_ok read).trans ((bind_ok write).trans rest)
    · obtain rfl | more := Nat.eq_or_lt_of_le low
      · rw [others _ (.inl (by omega)), word, if_pos rfl]
      · rw [words j more high, kept _ (by omega)]
    · rw [others a (by omega), kept a (by omega)]

/-- A descriptor whose checks pass and whose words can be accessed. -/
theorem dmaRun_run {s : State} {n : Nat} {x : DmaDesc} {b : Bool} (hn : n < 128) (words : x.copyCaps = false)
    (src : capCheck x.src (x.src.cursor : Nat) x.count.toNat [.load] = .ok ())
    (dst : capCheck x.dst (x.dst.cursor : Nat) x.count.toNat [.store] = .ok ()) (can : CanCopy s n x b 0)
    (apart : x.src.cursor + x.count.toNat ≤ x.dst.cursor ∨ x.dst.cursor + x.count.toNat ≤ x.src.cursor) :
    ∃ t, dmaRun n x s = .ok () t ∧ Touched s t ∧
      (∀ j, j < x.count.toNat →
        mget t (x.dst.cursor + j) = { data := (mget s (x.src.cursor + j)).data, tag := false, ecc := .good }) ∧
      ∀ a, (a < x.dst.cursor ∨ x.dst.cursor + x.count.toNat ≤ a) → mget t a = mget s a := by
  obtain ⟨t, run, moved, copied, others⟩ := dmaCopy_run hn apart x.count.toNat 0 s rfl can
  refine ⟨t, ?_, moved, fun j => copied j (Nat.zero_le j), others⟩
  unfold dmaRun
  rw [src, dst]
  dsimp only
  rw [words]
  exact run

/-- What the answer to a descriptor that has ended leaves of the blocks. -/
theorem answer_core (s : State) (n : Nat) :
    let t := replyWord (unitGoesOn (dmaDepends s n none) n 0) 0
    (coreAt t n).dmaAt = (coreAt s n).dmaAt ∧ (coreAt t n).setA.dma = false ∧ (coreAt t n).setB.dma = false ∧
      ∀ m h, ctxAt t m h = ctxAt s m h := by
  intro t
  have block : coreAt t n = coreAt (unitGoesOn (dmaDepends s n none) n 0) n := rfl
  have other (m : Nat) (h : m ≠ n) : coreAt t m = coreAt s m :=
    (coreAt_setCore_other _ _ h).trans (coreAt_setCore_other _ _ h)
  unfold unitGoesOn dmaDepends at block
  rw [coreAt_setCore_same, coreAt_setCore_same] at block
  refine ⟨by rw [block], by rw [block]; rfl, by rw [block]; rfl, fun m h => ?_⟩
  show (coreAt t m).ctx h = (coreAt s m).ctx h
  by_cases same : m = n
  · rw [same, block]
    rfl
  · rw [other m same]

/-- Settles O37: a descriptor that is not granted leaves its block waiting; one that is granted copies word by word, and each word
moved leaves what the checks of the next ones read. -/
theorem blockDma : Obligations.BlockDma := by
  unfold Obligations.BlockDma
  intro s core x b n len src dst st reach works noMire noBoot since
  have ready : unitWorks s (dmaPg n) = true ∧ s.safety ≠ .mire ∧ s.safety ≠ .boot := ⟨works, noMire, noBoot⟩
  refine ⟨fun waits => ⟨dmaDepends (setCore s n { coreAt s n with dmaAt := some since }) n (readySetOf (coreAt s n) x.comp.toNat),
    ?_, ?_, ?_⟩, fun granted untranslated set words srcOk dstOk each apart => ?_⟩
  · refine congrArg done ((if_pos ready).trans (if_neg ?_))
    exact fun h => Bool.false_ne_true (waits.symm.trans h)
  · unfold dmaDepends
    dsimp only
    rw [coreAt_setCore_same, coreAt_setCore_same]
  · rfl
  · obtain ⟨u, hu⟩ : ∃ u, u = setCore s n { coreAt s n with dmaAt := none } := ⟨_, rfl⟩
    have block : coreAt u n = { coreAt s n with dmaAt := none } := by rw [hu, coreAt_setCore_same]
    have mem (a : Nat) : mget u a = mget s a := by rw [hu]; rfl
    have reaches {k : Kind} {a : Nat} (r : reach k a) : DmaReach u n x b k a := by
      obtain ⟨there, target, master⟩ := r
      refine ⟨by rw [hu]; exact untranslated, by rw [block]; exact set, by rw [hu]; exact there, ?_, ?_⟩
      · have stamp : dmaStamp u n x b = dmaStamp s n x b := by
          unfold dmaStamp
          rw [block]
        rw [stamp, hu]
        exact target
      · rw [block, hu]
        exact master
    have can : CanCopy u n x b 0 := fun j _ high => by
      obtain ⟨load, good, store, plain⟩ := each j high
      exact ⟨⟨reaches load, by rwa [mem]⟩, reaches store, by rw [hu]; exact plain⟩
    obtain ⟨t, run, moved, copied, others⟩ := dmaRun_run core.isLt words srcOk dstOk can apart
    have answer : exec (.blockDmaDescriptor core x) s = .next (replyWord (unitGoesOn (dmaDepends t n none) n 0) 0) := by
      refine congrArg done ((if_pos ready).trans ((if_pos granted).trans ?_))
      rw [← hu]
      unfold dmaAnswer
      rw [run]
    have after : coreAt t n = { coreAt s n with dmaAt := none } := (moved.core n).trans block
    obtain ⟨dma, setA, setB, ctxs⟩ := answer_core t n
    refine ⟨_, answer, rfl, fun j high => ?_, fun a out => ?_, ?_, setA, setB, fun m h => ?_⟩
    · exact (copied j high).trans (by rw [mem])
    · exact (others a out).trans (mem a)
    · rw [dma, after]
    · rw [ctxs]
      show (coreAt t m).ctx h = (coreAt s m).ctx h
      rw [moved.core m]
      by_cases same : m = n
      · rw [same, block]
        rfl
      · rw [hu, coreAt_setCore_other _ _ same]

end Sys2Proof.Machine

namespace Sys2Proof.Machine
open Sys2Proof
set_option Elab.async false

/-! ## The state of Sedge (R341 to R344) -/

section
variable {s t : State}

@[simp] theorem sedge_setSedge_same (s : State) (d : Nat) (x : Sedge) : sedge (setSedge s d x) d = x := by simp [sedge, setSedge]

theorem sedge_setSedge_other (s : State) {d k : Nat} (x : Sedge) (h : k ≠ d) : sedge (setSedge s d x) k = sedge s k := by
  simp [sedge, setSedge, kget_kset_other _ _ _ h]

theorem sedge_setSedge (s : State) (d k : Nat) (x : Sedge) : sedge (setSedge s d x) k = if k = d then x else sedge s k := by
  by_cases e : k = d
  · rw [if_pos e, e, sedge_setSedge_same]
  · rw [if_neg e, sedge_setSedge_other _ _ e]

theorem sedge_of_sedges (h : t.sedges = s.sedges) (d : Nat) : sedge t d = sedge s d := by
  unfold sedge
  rw [h]

@[simp] theorem Sedge.entry_putEntry_same (x : Sedge) (i : Nat) (e : DirEnt) : (x.putEntry i e).entry i = e := by
  simp [Sedge.entry, Sedge.putEntry]

theorem Sedge.entry_putEntry_other (x : Sedge) {i j : Nat} (e : DirEnt) (h : j ≠ i) : (x.putEntry i e).entry j = x.entry j := by
  simp [Sedge.entry, Sedge.putEntry, kget_kset_other _ _ _ h]

theorem poolAt_setPool (s : State) (d f : Nat) (x : Frame) (e g : Nat) :
    poolAt (setPool s d f x) e g = if e = d ∧ g = f then x else poolAt s e g := by
  unfold poolAt setPool
  dsimp only
  rw [sedge_setSedge]
  by_cases die : e = d
  · rw [if_pos die]
    dsimp only
    rw [kget_kset, die]
    by_cases same : g = f
    · rw [if_pos same, if_pos ⟨rfl, same⟩]
    · rw [if_neg same, if_neg fun h => same h.2]
  · rw [if_neg die, if_neg fun h => die h.1]

theorem poolAt_of_pool {d : Nat} (h : (sedge t d).pool = (sedge s d).pool) (f : Nat) : poolAt t d f = poolAt s d f := by
  unfold poolAt
  rw [h]

/-- A change of Sedge that leaves its pool. -/
theorem poolAt_setSedge {d : Nat} {x : Sedge} (h : x.pool = (sedge s d).pool) (e f : Nat) :
    poolAt (setSedge s d x) e f = poolAt s e f := by
  refine poolAt_of_pool ?_ f
  rw [sedge_setSedge]
  by_cases die : e = d
  · rw [if_pos die, h, die]
  · rw [if_neg die]

theorem poolAt_putDir (s : State) (d i : Nat) (x : DirEnt) (e f : Nat) : poolAt (putDir s d i x) e f = poolAt s e f :=
  poolAt_setSedge (x := (sedge s d).putEntry i x) rfl e f

theorem poolAt_cmdBusy (s : State) (d op r i e f : Nat) : poolAt (cmdBusy s d op r i) e f = poolAt s e f :=
  poolAt_setSedge (x := { sedge s d with busy := some (op, r, i) }) rfl e f

theorem poolAt_of_sedges (h : t.sedges = s.sedges) (d f : Nat) : poolAt t d f = poolAt s d f := by
  unfold poolAt
  rw [sedge_of_sedges h]

theorem poolDie_of_poolAt (part : t.part = s.part) (h : ∀ d, poolAt t d = poolAt s d) (f : Nat) : poolDie t f = poolDie s f := by
  unfold poolDie
  rw [part]
  simp only [h]

theorem freeFrames_of_sedges (part : t.part = s.part) (h : t.sedges = s.sedges) (ok : Nat → Bool) : freeFrames t ok = freeFrames s ok := by
  unfold freeFrames sedge
  rw [part, h]

/-- What a setPool leaves of Sedge. -/
theorem sedge_setPool (s : State) (d f : Nat) (x : Frame) (k : Nat) :
    sedge (setPool s d f x) k = { sedge s k with pool := (sedge (setPool s d f x) k).pool } := by
  unfold setPool
  dsimp only
  rw [sedge_setSedge]
  by_cases die : k = d
  · rw [if_pos die, die]
  · rw [if_neg die]

theorem sedge_cmdBusy (s : State) (d op r i : Nat) : sedge (cmdBusy s d op r i) d = { sedge s d with busy := some (op, r, i) } :=
  sedge_setSedge_same ..

theorem sedge_putDir (s : State) (d i : Nat) (e : DirEnt) : sedge (putDir s d i e) d = (sedge s d).putEntry i e := sedge_setSedge_same ..

end

/-! ## The words that Sedge writes (R338, R343) -/

theorem fld_setBit_other (w : Word) (b hi lo : Nat) (v : Bool) (h : b < lo ∨ hi < b) : fld (setBit w b v) hi lo = fld w hi lo :=
  fld_of_bits fun c low high => bit_setBit_other w b c v (by omega)

/-- The word of an L2 entry as Sedge writes it. -/
def entryWord (w : Word) (kind : Nat) (mng : Bool) (pfn : Nat) : Word := setFld (setBit (setFld w 35 34 kind) 33 mng) 29 10 pfn

theorem entryWord_fields (w : Word) (kind : Nat) (mng : Bool) (pfn : Nat) : fld (entryWord w kind mng pfn) 35 34 = kind % 4 ∧
    bit (entryWord w kind mng pfn) 33 = mng ∧ fld (entryWord w kind mng pfn) 29 10 = pfn % 2 ^ 20 := by
  unfold entryWord
  refine ⟨?_, ?_, fld_setFld_same _ _ _ _ (by decide)⟩
  · rw [fld_setFld_other _ _ _ _ _ _ (by decide), fld_setBit_other _ _ _ _ _ (by decide)]
    exact fld_setFld_same _ _ _ _ (by decide)
  · rw [bit_setFld_other _ _ _ _ _ (by decide), bit_setBit_same _ _ _ (by decide)]

/-- An L2 entry that Sedge writes; no other word changes. -/
theorem mget_fieldWrite {s : State} {ea : Nat} (there : memReach s ea = .ok) (good : (mget s ea).ecc ≠ .double) (kind : Nat) (mng : Bool)
    (pfn a : Nat) : mget (fieldWrite s ea kind mng pfn) a =
      if ea = a then { data := entryWord (mget s ea).data kind mng pfn, tag := false, ecc := .good } else mget s a := by
  obtain ⟨u, hu⟩ : ∃ u, u = noteAccess s (.die (ea / 1048576)) ea 1 := ⟨_, rfl⟩
  have noted : Within [.regs, .evTick, .events, .heatCnt, .heatDue, .slots] s u := hu ▸ noteAccess_within (.refl s) ..
  have word : mget u ea = mget s ea := noted.mget ea
  have value := readFor_fst u (ea / 1048576) ea
  have looked := readFor_touch u (ea / 1048576) ea
  unfold fieldWrite
  rw [if_pos there, ← hu]
  obtain ⟨r, hr⟩ : ∃ r, r = readFor u (.die (ea / 1048576)) ea := ⟨_, rfl⟩
  rw [← hr] at value looked ⊢
  rw [word, if_neg good] at value
  obtain ⟨o, v⟩ := r
  dsimp only at value looked ⊢
  rw [value]
  dsimp only
  by_cases e : ea = a
  · rw [if_pos e, e, mget_mset_same]
    rfl
  · rw [if_neg e, mget_mset_other _ _ (Ne.symm e)]
    exact (looked.mget a).trans (noted.mget a)

theorem mget_zeroFrame (s : State) (d f a : Nat) : mget (zeroFrame s d f) a = if a / 1024 = f then memDefault a else mget s a := by
  have noted : Within [.regs, .evTick, .events, .heatCnt, .heatDue, .slots] s (noteMany s (.die d) (f * 1024) 1024) :=
    noteMany_within (.refl s) ..
  have kept := noted.mget a
  unfold mget at kept ⊢
  unfold zeroFrame
  dsimp only
  rw [kget_kkeep, kept]
  by_cases e : a / 1024 = f
  · rw [if_pos e, if_neg (by simpa using e)]
  · rw [if_neg e, if_pos (by simpa using e)]

/-! ## The commands of Sedge (R365, R366, Table 7.15) -/

/-- A command that a SEDGE page takes. -/
theorem sedgeCmd_taken {s : State} {d : Nat} (noMire : s.safety ≠ .mire) (idle : (sedge s d).busy = none) (f : State → State) :
    sedgeCmd s d f = f s := by
  unfold sedgeCmd
  rw [if_neg noMire, idle]
  rfl

theorem foldl_setPool (d : Nat) (x : Frame) (fs : List Nat) (s : State) (e f : Nat) :
    poolAt (fs.foldl (fun s f => setPool s d f x) s) e f = if e = d ∧ f ∈ fs then x else poolAt s e f := by
  induction fs generalizing s with
  | nil => rw [if_neg fun h => List.not_mem_nil h.2]; rfl
  | cons g r ih =>
    rw [List.foldl_cons, ih, poolAt_setPool]
    simp only [List.mem_cons]
    by_cases die : e = d
    · by_cases here : f = g
      · simp [die, here]
      · by_cases later : f ∈ r
        · simp [die, later]
        · simp [die, here, later]
    · simp [die]

/-- POOL of frames that may join (R342). -/
theorem cmdPool_adds {s : State} {d first count : Nat}
    (free : ∀ x, first / 1024 ≤ x ∧ x < first / 1024 + count → (onChip x = true → x / 1024 = d) ∧
      (onChip x = false → sedgeFeature s d 1 = true) ∧ memReach s (x * 1024) ≠ .unpopulated ∧ poolDie s x = none)
    (room : (sedge s d).pool.length + count ≤ 16384) :
    (sedge (cmdPool s d first count) d).busy = some (4, 0, 0) ∧
      ∀ x, poolAt (cmdPool s d first count) d x = if first / 1024 ≤ x ∧ x < first / 1024 + count then .free else poolAt s d x := by
  obtain ⟨fs, hfs⟩ : ∃ fs, fs = (List.range count).map (fun i => first / 1024 + i) := ⟨_, rfl⟩
  have mem (x : Nat) : x ∈ fs ↔ first / 1024 ≤ x ∧ x < first / 1024 + count := by
    rw [hfs, List.mem_map]
    constructor
    · rintro ⟨i, hi, rfl⟩
      have := List.mem_range.1 hi
      omega
    · exact fun h => ⟨x - first / 1024, List.mem_range.2 (by omega), by omega⟩
  have good : fs.any (fun f => (onChip f && decide (f / 1024 ≠ d)) || (!onChip f && !sedgeFeature s d 1) ||
      (memReach s (f * 1024) == .unpopulated) || (poolDie s f).isSome) = false := by
    rw [List.any_eq_false]
    intro f hf
    obtain ⟨chip, ext, there, none⟩ := free f ((mem f).1 hf)
    rw [none]
    cases onChipped : onChip f with
    | true => simp [chip onChipped, there]
    | false => simp [ext onChipped, there]
  have shape : cmdPool s d first count = cmdBusy (fs.foldl (fun s f => setPool s d f .free) s) d 4 0 0 := by
    unfold cmdPool
    dsimp only
    rw [← hfs]
    exact if_neg fun h => h.elim (fun h => by omega) fun h => Bool.false_ne_true (good.symm.trans h)
  rw [shape]
  refine ⟨by rw [sedge_cmdBusy], fun x => ?_⟩
  rw [poolAt_cmdBusy, foldl_setPool]
  by_cases inside : first / 1024 ≤ x ∧ x < first / 1024 + count
  · rw [if_pos inside, if_pos ⟨rfl, (mem x).2 inside⟩]
  · rw [if_neg inside, if_neg fun h => inside ((mem x).1 h.2)]

/-- The frames that stay in a table of which the free ones of a range leave. -/
theorem kget_reclaim (m : KMap Frame) (p : Nat → Bool) (x : Nat) :
    let r := kget (fun _ => Frame.none) (m.filter (fun e => !(e.2 == .free && p e.1))) x
    (p x = false → r = kget (fun _ => Frame.none) m x) ∧
      (p x = true → r ≠ .free ∧ (kget (fun _ => Frame.none) m x ≠ .free → r = kget (fun _ => Frame.none) m x)) := by
  induction m with
  | nil => exact ⟨fun _ => rfl, fun _ => ⟨Frame.noConfusion, fun _ => rfl⟩⟩
  | cons e r ih =>
    obtain ⟨j, v⟩ := e
    rw [List.filter_cons]
    by_cases here : j = x
    · subst here
      have own (l : KMap Frame) : kget (fun _ => Frame.none) ((j, v) :: l) j = v := if_pos rfl
      by_cases free : v = .free
      · subst free
        cases inside : p j with
        | false => simp [own]
        | true =>
          obtain ⟨-, gone⟩ := ih
          simp only [own]
          exact ⟨fun h => absurd h (by decide), fun _ => ⟨(gone inside).1, fun h => absurd rfl h⟩⟩
      · have stays : (!(v == Frame.free && p j)) = true := by simp [free]
        simp only [stays, if_true, own]
        exact ⟨fun _ => trivial, fun _ => ⟨free, fun _ => trivial⟩⟩
    · have skip (l : KMap Frame) : kget (fun _ => Frame.none) ((j, v) :: l) x = kget (fun _ => Frame.none) l x := if_neg here
      simp only [skip]
      split
      · simp only [skip]
        exact ih
      · exact ih

/-- RECLAIM (R366). -/
theorem cmdReclaim_takes (s : State) (d first count : Nat) :
    (sedge (cmdReclaim s d first count) d).busy = some (5, 0, 0) ∧
      (∀ x, first / 1024 ≤ x ∧ x < first / 1024 + count → poolAt (cmdReclaim s d first count) d x ≠ .free ∧
        (poolAt s d x ≠ .free → poolAt (cmdReclaim s d first count) d x = poolAt s d x)) ∧
      ∀ x, ¬ (first / 1024 ≤ x ∧ x < first / 1024 + count) → poolAt (cmdReclaim s d first count) d x = poolAt s d x := by
  have pool (x : Nat) : poolAt (cmdReclaim s d first count) d x = kget (fun _ => Frame.none)
      ((sedge s d).pool.filter (fun e => !(e.2 == .free && decide (first / 1024 ≤ e.1 ∧ e.1 < first / 1024 + count)))) x := by
    unfold cmdReclaim
    dsimp only
    rw [poolAt_cmdBusy]
    unfold poolAt
    rw [sedge_setSedge_same]
  refine ⟨by unfold cmdReclaim; rw [sedge_cmdBusy], fun x inside => ?_, fun x out => ?_⟩
  · rw [pool]
    exact (kget_reclaim _ (fun x => decide (first / 1024 ≤ x ∧ x < first / 1024 + count)) x).2 (decide_eq_true inside)
  · rw [pool]
    exact (kget_reclaim _ (fun x => decide (first / 1024 ≤ x ∧ x < first / 1024 + count)) x).1 (decide_eq_false out)

/-- A choice among some. -/
theorem pickOne_mem {α : Type} (s : State) {l : List α} (some_ : l ≠ []) : ∃ x ∈ l, (pickOne s l).1 = some x := by
  match l with
  | [x] => exact ⟨x, .head _, rfl⟩
  | x :: y :: r =>
    have inside : (Config.freeValue 20 s.fresh).toNat % (x :: y :: r).length < (x :: y :: r).length :=
      Nat.mod_lt _ (Nat.zero_lt_succ _)
    exact ⟨_, List.getElem_mem inside, List.getElem?_eq_getElem inside⟩

theorem pickOne_same {α : Type} (s : State) (l : List α) : Within [.fresh] s (pickOne s l).2 := pickOne_within (.refl s) l

/-- A frame that REGISTER, or MOVE, is told (Table 7.13). -/
theorem placeFrame_exact {s : State} {w place : Word} {pd : Nat} (named : fld place 29 10 ≠ 0) (whole : bit place 35 = false)
    (allowed : pageAllowed w (fld place 29 10) true = true)
    (free : (freeFrames s (fun x => x == fld place 29 10)).head? = some (pd, fld place 29 10)) :
    placeFrame s w place = (0, some (pd, fld place 29 10), s) := by
  unfold placeFrame
  dsimp only
  rw [whole, allowed, free, decide_eq_true named]
  rfl

/-- A frame that REGISTER chooses (Table 7.8). -/
theorem placeFrame_chosen {s : State} {w : Word} (free : freeFrames s (fun x => pageAllowed w x false) ≠ []) :
    ∃ pd f t, placeFrame s w 0 = (0, some (pd, f), t) ∧ (pd, f) ∈ freeFrames s (fun x => pageAllowed w x false) ∧ Within [.fresh] s t := by
  obtain ⟨ok, hok⟩ : ∃ ok, ok = freeFrames s (fun x => pageAllowed w x false) := ⟨_, rfl⟩
  obtain ⟨pick, hpick⟩ : ∃ pick, pick = if (ok.filter (fun p => pagePrefers w p.2)).isEmpty then ok else ok.filter (fun p => pagePrefers w p.2) :=
    ⟨_, rfl⟩
  have sub : ∀ q ∈ pick, q ∈ ok := by
    rw [hpick]
    split
    · exact fun _ h => h
    · exact fun _ h => List.mem_of_mem_filter h
  rw [← hok] at free ⊢
  have some_ : pick ≠ [] := by
    rw [hpick]
    split
    · exact free
    next h => exact fun e => h (by rw [e]; rfl)
  obtain ⟨⟨pd, f⟩, member, picked⟩ := pickOne_mem s some_
  refine ⟨pd, f, (pickOne s pick).2, ?_, sub _ member, pickOne_same s pick⟩
  have any : (fun f => placeMatches 0 f && pageAllowed w f false) = fun f => pageAllowed w f false := by
    funext f
    have all : placeMatches 0 f = true := rfl
    rw [all, Bool.true_and]
  have nowhere : placeForbidden w 0 = false := rfl
  have unnamed : (decide (fld (0 : Word) 29 10 ≠ 0) && !bit (0 : Word) 35) = false := rfl
  unfold placeFrame
  dsimp only
  rw [unnamed, any, nowhere, ← hok, ← hpick, if_neg (by decide), if_neg (by decide), if_neg (by simpa using free), picked]

/-- REGISTER of an entry for which a frame is found (R343, R366). -/
theorem cmdRegister_places {s r : State} {d ea comp vpn i pd f c : Nat} {place : Word} {w : Word} (low : ea < 1048576 * s.part.dies)
    (there : memReach s ea = .ok) (good : (mget s ea).ecc ≠ .double) (managed : bit (mget s ea).data 33 = true)
    (empty : fld (mget s ea).data 35 34 = 0) (found : (List.range 8192).find? (fun j => !((sedge s d).entry j).v) = some i)
    (hw : w = compcls s d comp)
    (placed : placeFrame (readFor s (.die d) ea).2 w (registerPlace w place) = (c, some (pd, f), r))
    (fresh : Within [.fresh] (readFor s (.die d) ea).2 r) (apart : ea / 1024 ≠ f) :
    let t := cmdRegister s d ea comp vpn place
    (sedge t d).busy = some (1, 0, i) ∧
      (sedge t d).entry i = { DirEnt.init with v := true, comp := BitVec.ofNat 8 comp, vpn := vpn, eaddr := ea, pfn := f, marked := true } ∧
      poolAt t pd f = .mapped ∧ fld (mget t ea).data 35 34 = 1 ∧ bit (mget t ea).data 33 = true ∧
      fld (mget t ea).data 29 10 = f % 2 ^ 20 ∧ (∀ a, a / 1024 = f → mget t a = memDefault a) ∧
      (∀ a, a ≠ ea → a / 1024 ≠ f → mget t a = mget s a) ∧
      kget (fun _ => 0) t.marks (ea / 1024) = kget (fun _ => 0) s.marks (ea / 1024) + 1 := by
  intro t
  obtain ⟨e, he⟩ : ∃ e : DirEnt, e = { DirEnt.init with
    v := true, comp := BitVec.ofNat 8 comp, vpn := vpn, eaddr := ea, pfn := f, marked := true } := ⟨_, rfl⟩
  obtain ⟨u, hu⟩ : ∃ u, u = setPool r pd f .mapped := ⟨_, rfl⟩
  obtain ⟨z, hz⟩ : ∃ z, z = zeroFrame u d f := ⟨_, rfl⟩
  obtain ⟨v, hv⟩ : ∃ v, v = fieldWrite z ea 1 true f := ⟨_, rfl⟩
  obtain ⟨y, hy⟩ : ∃ y, y = markPage v ea true := ⟨_, rfl⟩
  have shape : t = cmdBusy (putDir y d i e) d 1 0 i := by
    show cmdRegister s d ea comp vpn place = _
    unfold cmdRegister
    dsimp only
    have inside : ¬ (1048576 * s.part.dies ≤ ea ∨ memReach s ea ≠ .ok) := fun h => h.elim (fun h => by omega) fun h => h there
    rw [if_pos there, readFor_fst, if_neg good, ← hw, placed, if_neg inside]
    have fits : ¬ (bit (mget s ea).data 33 = false ∨ fld (mget s ea).data 35 34 ≠ 0) := by
      rw [managed, empty]
      decide
    refine (if_neg fits).trans ?_
    rw [found]
    dsimp only
    rw [← hu, ← hz, ← hv, ← hy, ← he]
  clear_value t
  rw [shape, sedge_cmdBusy, poolAt_cmdBusy, poolAt_putDir, sedge_putDir]
  have looked := readFor_touch s d ea
  have fromRead : Within [.sweeps, .eccWb, .regs, .evTick, .events, .heatCnt, .heatDue, .slots, .fresh, .sedges] s u :=
    hu ▸ setPool_within ((looked.mono (by decide)).trans (fresh.mono (by decide))) ..
  have zeroed : Within [.sweeps, .eccWb, .regs, .evTick, .events, .heatCnt, .heatDue, .slots, .fresh, .sedges, .mem] s z :=
    hz ▸ zeroFrame_within (fromRead.mono (by decide)) ..
  have mem (a : Nat) : mget z a = if a / 1024 = f then memDefault a else mget s a := by rw [hz, mget_zeroFrame, fromRead.mget]
  have reach : memReach z ea = .ok := by
    rw [zeroed.eq]
    exact there
  have word : mget z ea = mget s ea := by rw [mem, if_neg apart]
  have wrote (a : Nat) : mget v a = if ea = a then { data := entryWord (mget z ea).data 1 true f, tag := false, ecc := .good } else mget z a := by
    rw [hv]
    exact mget_fieldWrite reach (word ▸ good) 1 true f a
  have last : Within [.sedges, .marks] v (cmdBusy (putDir y d i e) d 1 0 i) :=
    cmdBusy_within (putDir_within (hy ▸ markPage_within (.refl v) ..) ..) ..
  obtain ⟨kind, mng, pfn⟩ := entryWord_fields (mget z ea).data 1 true f
  have own : mget (cmdBusy (putDir y d i e) d 1 0 i) ea = { data := entryWord (mget z ea).data 1 true f, tag := false, ecc := .good } := by
    rw [last.mget, wrote, if_pos rfl]
  have pools : v.sedges = u.sedges := by
    rw [hv, (fieldWrite_within (F := [.mem, .eccWb, .regs, .evTick, .events, .heatCnt, .heatDue, .slots]) (.refl z) ..).sedges, hz,
      (zeroFrame_within (F := [.mem, .regs, .evTick, .events, .heatCnt, .heatDue, .slots]) (.refl u) ..).sedges]
  have same : y.sedges = v.sedges := by rw [hy, (markPage_within (F := [.marks]) (.refl v) ..).sedges]
  have marks : v.marks = s.marks := by
    rw [hv, (fieldWrite_within (F := [.mem, .eccWb, .regs, .evTick, .events, .heatCnt, .heatDue, .slots]) (.refl z) ..).marks, zeroed.marks]
  refine ⟨rfl, he ▸ Sedge.entry_putEntry_same .., ?_, by rw [own]; exact kind, by rw [own]; exact mng, by rw [own]; exact pfn, ?_, ?_, ?_⟩
  · rw [poolAt_of_sedges (same.trans pools), hu, poolAt_setPool, if_pos ⟨rfl, rfl⟩]
  · intro a inside
    rw [last.mget, wrote, if_neg fun h : ea = a => apart (h ▸ inside), mem, if_pos inside]
  · intro a other out
    rw [last.mget, wrote, if_neg other.symm, mem, if_neg out]
  · have counted : (cmdBusy (putDir y d i e) d 1 0 i).marks = y.marks := rfl
    rw [counted, hy]
    unfold markPage
    dsimp only
    rw [kget_kset_same, marks]
    rfl

theorem postTargets_of_within {s t : State} (w : Within [.mem, .eccWb, .regs, .evTick, .events, .heatCnt, .heatDue, .slots, .sedges] s t) :
    postTargets t = postTargets s := by
  rw [w.eq]
  rfl

/-- What a page invalidation that is posted leaves (R326). -/
theorem sedgePost_posts (s : State) (d vpn : Nat) : (sedgePost s d vpn).1 = s.postId ∧ Within [.posts, .postId] s (sedgePost s d vpn).2 ∧
    (postTargets s ≠ [] → ∃ p ∈ (sedgePost s d vpn).2.posts, p.id = s.postId ∧ p.poster = .sedge d ∧ p.scope = .page vpn ∧
      p.todo = postTargets s) := by
  refine ⟨rfl, sedgePost_within (.refl s) .., fun some_ => ?_⟩
  unfold sedgePost postInval
  rw [if_neg (by simpa using some_)]
  exact ⟨_, List.mem_append_right _ (.head _), rfl, rfl, rfl, rfl⟩

/-- RELEASE of an entry that is not moving (R366). -/
theorem cmdRelease_posts {s : State} {d ea i : Nat} {e : DirEnt} (found : (sedge s d).find ea = some (i, e)) (still : e.st ≠ .moving)
    (there : memReach s ea = .ok) (good : (mget s ea).ecc ≠ .double) :
    let t := cmdRelease s d ea
    (sedge t d).busy = some (2, 0, i) ∧ (sedge t d).relPost = some (s.postId, i) ∧ fld (mget t ea).data 35 34 = 0 ∧
      bit (mget t ea).data 33 = false ∧ (∀ a, a ≠ ea → mget t a = mget s a) ∧
      (postTargets s ≠ [] → ∃ p ∈ t.posts, p.id = s.postId ∧ p.poster = .sedge d ∧ p.scope = .page e.vpn ∧ p.todo = postTargets s) := by
  intro t
  obtain ⟨v, hv⟩ : ∃ v, v = fieldWrite (dropStart s d i) ea 0 false 0 := ⟨_, rfl⟩
  have dropped : Within [.sedges] s (dropStart s d i) := dropStart_within (.refl s) ..
  have changed : Within [.mem, .eccWb, .regs, .evTick, .events, .heatCnt, .heatDue, .slots, .sedges] s v :=
    hv ▸ fieldWrite_within (dropped.mono (by decide)) ..
  have reach : memReach (dropStart s d i) ea = .ok := by
    rw [dropped.eq]
    exact there
  have word := dropped.mget ea
  obtain ⟨number, posted, targets⟩ := sedgePost_posts v d e.vpn
  obtain ⟨p, hp⟩ : ∃ p, p = sedgePost v d e.vpn := ⟨_, rfl⟩
  have shape : t = setSedge (cmdBusy p.2 d 2 0 i) d { sedge (cmdBusy p.2 d 2 0 i) d with relPost := some (p.1, i) } := by
    show cmdRelease s d ea = _
    unfold cmdRelease
    rw [found]
    dsimp only
    rw [if_neg still, ← hv, ← hp]
  clear_value t
  rw [← hp] at number posted targets
  have mem (a : Nat) : mget t a = mget v a := by
    rw [shape]
    exact posted.mget a
  have wrote := mget_fieldWrite reach (word ▸ good) 0 false 0
  rw [← hv] at wrote
  obtain ⟨kind, mng, -⟩ := entryWord_fields (mget (dropStart s d i) ea).data 0 false 0
  refine ⟨?_, ?_, ?_, ?_, fun a other => ?_, fun some_ => ?_⟩
  · rw [shape, sedge_setSedge_same, sedge_cmdBusy]
  · rw [shape, sedge_setSedge_same, number, changed.postId]
  · rw [mem, wrote, if_pos rfl]
    exact kind
  · rw [mem, wrote, if_pos rfl]
    exact mng
  · rw [mem, wrote, if_neg other.symm, dropped.mget]
  · have same := postTargets_of_within changed
    obtain ⟨q, member, id, poster, scope, todo⟩ := targets (by rwa [same])
    refine ⟨q, ?_, by rw [id, changed.postId], poster, scope, by rw [todo, same]⟩
    rw [shape]
    exact member

/-- MOVE of a placed page to a frame that it names (R355, R366). -/
theorem cmdMove_begins {s : State} {d ea i pd : Nat} {e : DirEnt} {place : Word} (found : (sedge s d).find ea = some (i, e))
    (entry : (sedge s d).entry i = e) (idle : (sedge s d).mig = none) (placed : e.st = .placed) (named : fld place 29 10 ≠ 0)
    (whole : bit place 35 = false) (allowed : pageAllowed (compcls s d e.comp.toNat) (fld place 29 10) true = true)
    (free : (freeFrames s (fun x => x == fld place 29 10)).head? = some (pd, fld place 29 10)) :
    cmdMove s d ea place = beginMig (cmdBusy s d 3 0 i) d i (fld place 29 10) true := by
  unfold cmdMove
  rw [found]
  dsimp only
  rw [idle, if_neg (by simp), if_neg (by simp [placed]), if_neg (by decide)]
  unfold tryMove
  dsimp only
  rw [entry, placeFrame_exact named whole allowed free]

theorem sedge_beginMig (s : State) (d i f : Nat) (byMove : Bool) : sedge (beginMig s d i f byMove) d =
    { sedge s d with mig := some { index := i, dest := f, stage := .start, pair := 0, byMove := byMove, post := 0 } } :=
  sedge_setSedge_same ..

/-- Where a task may go rests on the region of its core alone (Table 7.8). -/
theorem taskAllowed_region (w : Word) (m : Nat) (heat : Bool) : taskAllowed w (4 * (m / 4)) heat = taskAllowed w m heat := by
  have region : 4 * (m / 4) / 4 = m / 4 := by omega
  have die : 4 * (m / 4) / 16 = m / 16 := by omega
  unfold taskAllowed
  rw [region, die]

theorem taskEligible_parts {s : State} {n h m : Nat} {heat : Bool} (ok : taskEligible s n h m heat = true) :
    taskAllowed (compcls s (n / 16) (ctxAt s n h).comp) m heat = true ∧ emptyCtxs s m ≠ [] := by
  unfold taskEligible at ok
  simp only [Bool.and_eq_true, Bool.not_eq_true', List.isEmpty_eq_false_iff] at ok
  exact ⟨ok.1.2, ok.1.1.1.2⟩

/-- TMOVE of a task to a core that Table 7.8 allows (R360, R366). -/
theorem cmdTmove_begins {s : State} {d n h : Nat} {place : Word} (idle : (sedge s d).tmig = none) (feature : sedgeFeature s d 3 = true)
    (some_ : ∃ m ∈ coreNos s, (fld place 29 18 = 0 ∨ m / 4 = fld place 29 18) ∧ taskEligible s n h m false = true) :
    ∃ m j, (fld place 29 18 = 0 ∨ m / 4 = fld place 29 18) ∧ taskEligible s n h m false = true ∧ (ctxAt s m j).st = .empty ∧
      (sedge (cmdTmove s d n h place) d).busy = some (6, 0, 0) ∧
      (sedge (cmdTmove s d n h place) d).tmig = some { src := n, ctx := h, dst := m, dctx := j, byCmd := true } := by
  obtain ⟨l, hl⟩ : ∃ l, l = (coreNos s).filter (fun m =>
    (decide (fld place 29 18 = 0) || decide (m / 4 = fld place 29 18)) && taskEligible s n h m false) := ⟨_, rfl⟩
  have member (m : Nat) : m ∈ l ↔ m ∈ coreNos s ∧ (fld place 29 18 = 0 ∨ m / 4 = fld place 29 18) ∧ taskEligible s n h m false = true := by
    rw [hl, List.mem_filter, Bool.and_eq_true, Bool.or_eq_true, decide_eq_true_iff, decide_eq_true_iff]
  obtain ⟨m, mine, where_, eligible⟩ := some_
  have nonempty : l ≠ [] := fun e => by
    have := (member m).2 ⟨mine, where_, eligible⟩
    rw [e] at this
    exact List.not_mem_nil this
  have allowed : ¬ (fld place 29 18 ≠ 0 ∧ taskAllowed (compcls s (n / 16) (ctxAt s n h).comp) (4 * fld place 29 18) false = false) := by
    rintro ⟨named, refused⟩
    rw [← where_.resolve_left named, taskAllowed_region, (taskEligible_parts eligible).1] at refused
    exact absurd refused (by decide)
  obtain ⟨k, inside, picked⟩ := pickOne_mem s nonempty
  obtain ⟨-, whereK, eligibleK⟩ := (member k).1 inside
  obtain ⟨u, hu⟩ : ∃ u, u = cmdBusy (pickOne s l).2 d 6 0 0 := ⟨_, rfl⟩
  have busied : Within [.fresh, .sedges] s u := hu ▸ cmdBusy_within ((pickOne_same s l).mono (by decide)) ..
  have ctx (a b : Nat) : ctxAt u a b = ctxAt s a b := congrArg (fun c => Core.ctx c b) (coreAt_of_cores busied.cores a)
  have empties : emptyCtxs u k = emptyCtxs s k := by
    unfold emptyCtxs
    simp only [ctx]
  obtain ⟨j, free, chosen⟩ := pickOne_mem u (l := emptyCtxs u k) (by rw [empties]; exact (taskEligible_parts eligibleK).2)
  have shape : cmdTmove s d n h place = beginTask u d n h k true := by
    unfold cmdTmove
    dsimp only
    rw [if_neg allowed, ← hl, feature, if_pos rfl, picked, idle, ← hu]
  have begun : sedge (beginTask u d n h k true) d =
      { sedge u d with tmig := some { src := n, ctx := h, dst := k, dctx := j, byCmd := true } } := by
    unfold beginTask
    dsimp only
    rw [chosen]
    dsimp only
    rw [sedge_setSedge_same, sedge_of_sedges (pickOne_same u _).sedges]
  rw [empties] at free
  refine ⟨k, j, whereK, eligibleK, ?_, ?_, ?_⟩
  · exact eq_of_beq (List.mem_filter.1 free).2
  · rw [shape, begun, hu, sedge_cmdBusy]
  · rw [shape, begun]

/-- TMOVE where task migration is not in force. -/
theorem cmdTmove_off {s : State} {d n h : Nat} {place : Word} (off : sedgeFeature s d 3 = false) (anywhere : fld place 29 18 = 0) :
    cmdTmove s d n h place = cmdBusy s d 6 7 0 := by
  unfold cmdTmove
  dsimp only
  rw [if_neg fun h => h.1 anywhere, off, if_neg (by decide)]

/-- The end of a RELEASE: its entry is gone, and its frame free (R366). -/
theorem endRelease_frees {s : State} {d k pd : Nat} (kept : ((sedge s d).entry k).st ≠ .lost)
    (pool : poolDie s ((sedge s d).entry k).pfn = some pd) :
    (sedge (endRelease s d k) d).entry k = DirEnt.init ∧ poolAt (endRelease s d k) pd ((sedge s d).entry k).pfn = .free := by
  obtain ⟨e, he⟩ : ∃ e, e = (sedge s d).entry k := ⟨_, rfl⟩
  obtain ⟨u, hu⟩ : ∃ u, u = if e.marked then markPage (putDir s d k DirEnt.init) e.eaddr false else putDir s d k DirEnt.init := ⟨_, rfl⟩
  have marked : u.sedges = (putDir s d k DirEnt.init).sedges := by
    rw [hu]
    split <;> rfl
  have part : u.part = s.part := by
    rw [hu]
    split <;> rfl
  have pools (a f : Nat) : poolAt u a f = poolAt s a f := by rw [poolAt_of_sedges marked, poolAt_putDir]
  rw [← he] at kept pool ⊢
  have die : poolDie u e.pfn = some pd := by rw [poolDie_of_poolAt part fun a => funext (pools a), pool]
  have shape : endRelease s d k = setSedge (setPool u pd e.pfn .free) d { sedge (setPool u pd e.pfn .free) d with relPost := none } := by
    unfold endRelease
    dsimp only
    rw [← he, ← hu, if_neg kept, die]
  rw [shape]
  refine ⟨?_, ?_⟩
  · rw [sedge_setSedge_same, sedge_setPool, sedge_of_sedges marked, sedge_putDir]
    exact Sedge.entry_putEntry_same (sedge s d) k DirEnt.init
  · rw [poolAt_setSedge (s := setPool u pd e.pfn .free) (x := { sedge (setPool u pd e.pfn .free) d with relPost := none }) rfl,
      poolAt_setPool, if_pos ⟨rfl, rfl⟩]

theorem shown_rget (s : State) (pg : Nat) (w : Word) :
    rget (irqPend (rset s pg 20 w) pg 1) pg 20 = w ∧ bit (rget (irqPend (rset s pg 20 w) pg 1) pg 9) 1 = true := by
  refine ⟨?_, irqPend_pends _ _ (by decide)⟩
  rw [rget_irqPend _ _ _ (by decide), if_neg fun h => absurd h.2 (by decide), rget_rset_same]

/-- The end of a command shows its result (R365). -/
theorem commandDone_shows (u : State) (d pg : Nat) (w : Word) :
    let t := irqPend (rset (setSedge u d { sedge u d with busy := none }) pg 20 w) pg 1
    (sedge t d).busy = none ∧ rget t pg 20 = w ∧
      bit (rget t pg 9) 1 = true ∧ t.mem = u.mem ∧ (sedge t d).entry = (sedge u d).entry ∧
      ∀ a f, poolAt t a f = poolAt u a f := by
  intro t
  obtain ⟨v, hv⟩ : ∃ v, v = setSedge u d { sedge u d with busy := none } := ⟨_, rfl⟩
  have inner : sedge v d = { sedge u d with busy := none } := by rw [hv, sedge_setSedge_same]
  have same : t.sedges = v.sedges ∧ t.mem = u.mem := hv ▸ ⟨rfl, rfl⟩
  have own : sedge t d = sedge v d := sedge_of_sedges same.1 d
  obtain ⟨shown, pends⟩ := shown_rget v pg w
  have shape : t = irqPend (rset v pg 20 w) pg 1 := hv ▸ rfl
  rw [← shape] at shown pends
  clear_value t
  refine ⟨by rw [own, inner], shown, pends, same.2, by rw [own, inner]; rfl, fun a f => ?_⟩
  rw [poolAt_of_sedges same.1, hv]
  exact poolAt_setSedge (s := u) (x := { sedge u d with busy := none }) rfl a f

/-- The end of a command that waits for nothing (R365). -/
theorem sedgeCommandDone_ends {s : State} {die : BitVec 3} {op r x : Nat} (works : sedgeWorks s die.toNat = true)
    (busy : (sedge s die.toNat).busy = some (op, r, x)) (noMove : op ≠ 3) (noTask : op ≠ 6)
    (posted : ∀ id k, (sedge s die.toNat).relPost = some (id, k) → postDone s id = true) :
    let d := die.toNat
    let u := (sedge s d).relPost.elim s (fun p => endRelease s d p.2)
    execSedgeCommandDone die s = done (irqPend (rset (setSedge u d { sedge u d with busy := none }) (sedgePg d) 20
      (fval 35 32 op ||| fval 31 27 r ||| fval 12 0 x)) (sedgePg d) 1) := by
  unfold execSedgeCommandDone
  dsimp only
  rw [if_pos works, busy]
  dsimp only
  rw [decide_eq_false noMove, decide_eq_false noTask]
  cases e : (sedge s die.toNat).relPost with
  | none => rfl
  | some p =>
    obtain ⟨id, k⟩ := p
    dsimp only
    refine congrArg done (if_neg ?_)
    rw [Bool.false_and, Bool.false_and, posted id k e]
    decide

/-- Settles O33: a SEDGE page without a command takes each command, whose lemma above says what it does; a page with one refuses. -/
theorem sedgeCommands : Obligations.SedgeCommands := by
  unfold Obligations.SedgeCommands
  intro s die entry first count vpn comp place pin source ctx i pd k e d ea f lo inRange w works noMire
  have runs (idle : (sedge s d).busy = none) (c : State → State) : done (unitDo s (sedgePg d) (fun s => sedgeCmd s d c)) = .next (c s) :=
    congrArg done ((unitDo_of_works works _).trans (sedgeCmd_taken noMire idle c))
  have ready : sedgeWorks s d = true := by
    unfold sedgeWorks
    rw [works, Bool.true_and]
    exact bne_iff_ne.2 noMire
  refine ⟨fun idle => ⟨fun free room => ?_, ?_, fun low there good managed empty timed vital mode found named whole allowed free apart => ?_,
    fun low there good managed empty class_ found free apart => ?_, fun found still there good => ?_,
    fun found own noMig placed named whole allowed free => ?_, fun off anywhere => ?_, fun noTask feature some_ => ?_, fun found => ?_,
    fun found => ?_⟩, fun busy => ?_, fun op r x busy noMove noTask => ⟨fun noPost => ?_, fun id posted over_ kept pool => ?_⟩⟩
  · obtain ⟨shows, pools⟩ := cmdPool_adds free room
    refine ⟨_, runs idle _, shows, fun x inside => (pools x).trans (if_pos inside), fun x out => (pools x).trans (if_neg out), ?_⟩
    exact (cmdPool_within (F := [.sedges]) (.refl s) ..).eq
  · obtain ⟨shows, taken, others⟩ := cmdReclaim_takes s d first.toNat count.toNat
    exact ⟨_, runs idle _, shows, taken, others, (cmdReclaim_within (F := [.sedges]) (.refl s) ..).eq⟩
  · have looked := readFor_touch s d ea
    have fixed : registerPlace w place = place := by
      unfold registerPlace
      rw [timed, vital, mode]
      rfl
    have free' : (freeFrames (readFor s (.die d) ea).2 (fun x => x == f)).head? = some (pd, f) := by
      rw [freeFrames_of_sedges looked.part looked.sedges, free]
    obtain ⟨shows, inside, pool, kind, mng, pfn, zero, others, marks⟩ := cmdRegister_places (vpn := vpn.toNat) (comp := comp.toNat) (place := place)
      low there good managed empty found rfl ((congrArg _ fixed).trans (placeFrame_exact named whole allowed free')) (.refl _) apart
    have small : f % 2 ^ 20 = f := Nat.mod_eq_of_lt (fld_lt place 29 10)
    exact ⟨_, runs idle _, shows, inside.trans (by rw [BitVec.ofNat_toNat, BitVec.setWidth_eq]), pool, kind, mng, pfn.trans small, zero,
      others, marks⟩
  · have looked := readFor_touch s d ea
    have nowhere : registerPlace w place = 0 := if_pos class_
    have same := freeFrames_of_sedges looked.part looked.sedges (fun x => pageAllowed w x false)
    obtain ⟨qd, g, r, placed, member, fresh⟩ := placeFrame_chosen (w := w) (same.symm ▸ free)
    rw [same] at member
    obtain ⟨shows, inside, pool, kind, mng, pfn, -, others, -⟩ := cmdRegister_places (vpn := vpn.toNat) (place := place) low there good
      managed empty found rfl (nowhere.symm ▸ placed) fresh (apart _ member)
    exact ⟨_, qd, g, runs idle _, shows, member, pool, inside.trans (by rw [BitVec.ofNat_toNat, BitVec.setWidth_eq]), kind, mng, pfn, others⟩
  · exact ⟨_, runs idle _, cmdRelease_posts found still there good⟩
  · have shape := cmdMove_begins found own noMig placed named whole allowed free
    refine ⟨_, (runs idle _).trans (congrArg _ shape), ?_, ?_, ?_⟩
    · rw [sedge_beginMig, sedge_cmdBusy]
    · rfl
    · rw [sedge_beginMig]
  · refine ⟨_, (runs idle _).trans (congrArg _ (cmdTmove_off off anywhere)), (cmdBusy_within (F := [.sedges]) (.refl s) ..).eq, ?_⟩
    rw [sedge_cmdBusy]
  · obtain ⟨m, j, where_, eligible, free, shows, begun⟩ := cmdTmove_begins noTask feature some_
    have changed : Within [.fresh, .sedges] s (cmdTmove s d source.toNat ctx.toNat place) := cmdTmove_within (.refl s) ..
    exact ⟨_, m, j, runs idle _, shows, where_, eligible, free, begun, changed.mem, changed.cores⟩
  · have shape : cmdPin s d ea pin = cmdBusy (putDir s d i { e with pin := pin }) d 7 0 i := by
      unfold cmdPin
      rw [found]
    have own := sedge_cmdBusy (putDir s d i { e with pin := pin }) d 7 0 i
    rw [sedge_putDir] at own
    refine ⟨_, (runs idle _).trans (congrArg _ shape), by rw [own], ?_, fun j other => ?_, ?_⟩
    · rw [own]
      exact Sedge.entry_putEntry_same (sedge s d) i { e with pin := pin }
    · rw [own]
      exact Sedge.entry_putEntry_other (sedge s d) { e with pin := pin } other
    · exact (cmdBusy_within (putDir_within (F := [.sedges]) (.refl s) ..) ..).eq
  · have shape : cmdPin s d ea pin = cmdBusy s d 7 2 0 := by
      unfold cmdPin
      rw [found]
    exact ⟨_, (runs idle _).trans (congrArg _ shape), by rw [sedge_cmdBusy]⟩
  · have refused : sedgeCmd s d (fun s => cmdPin s d ea pin) = captureAt s (sedgePg d) 9 16 := by
      unfold sedgeCmd
      rw [if_neg noMire, if_pos (Option.isSome_iff_ne_none.2 busy)]
    obtain ⟨⟨-, only⟩, captured⟩ := captureAt_only s (sedgePg d) 9 16
    exact ⟨_, congrArg done ((unitDo_of_works works _).trans refused), captured, only⟩
  · have shape := sedgeCommandDone_ends ready busy noMove noTask fun id k e => absurd (noPost.symm.trans e) (by simp)
    obtain ⟨idle, shown, pends, mem, -, -⟩ := commandDone_shows s d (sedgePg d) (fval 35 32 op ||| fval 31 27 r ||| fval 12 0 x)
    dsimp only at shape
    rw [noPost] at shape
    exact ⟨_, shape, idle, shown, pends, mem⟩
  · have shape := sedgeCommandDone_ends ready busy noMove noTask fun id' k' e => by
      rw [posted] at e
      cases e
      exact over_
    obtain ⟨gone, freed⟩ := endRelease_frees kept pool
    obtain ⟨idle, -, -, mem, entries, pools⟩ :=
      commandDone_shows (endRelease s d k) d (sedgePg d) (fval 35 32 op ||| fval 31 27 r ||| fval 12 0 x)
    dsimp only at shape
    rw [posted] at shape
    refine ⟨_, shape, idle, (congrFun entries k).trans gone, (pools _ _).trans freed, mem.trans ?_⟩
    exact (endRelease_within (F := [.marks, .sedges]) (.refl s) ..).mem

end Sys2Proof.Machine

namespace Sys2Proof.Machine
open Sys2Proof
set_option Elab.async false

/-! ## What is done once for each of many -/

/-- What the step of one element makes of its own part, where no other step touches it. -/
theorem foldl_once {α β γ : Type} {F : α → β → α} {own : α → γ} {C : α → Prop} {G : γ → γ} {k : β} (keeps : ∀ t x, C t → C (F t x))
    (hit : ∀ t, C t → own (F t k) = G (own t)) (others : ∀ t x, x ≠ k → own (F t x) = own t) :
    ∀ (l : List β) (s : α), l.Nodup → k ∈ l → C s → own (l.foldl F s) = G (own s)
  | x :: l, s, nodup, m, c => by
    obtain ⟨fresh, rest⟩ := List.nodup_cons.1 nodup
    by_cases here : x = k
    · subst here
      have later : ∀ (l : List β) (t : α), x ∉ l → own (l.foldl F t) = own t := by
        intro l
        induction l with
        | nil => exact fun _ _ => rfl
        | cons y l ih =>
          intro t out
          rw [List.foldl_cons, ih _ fun h => out (.tail _ h), others t y fun h => out (h ▸ .head _)]
      rw [List.foldl_cons, later _ _ fresh, hit s c]
    · rw [List.foldl_cons, foldl_once keeps hit others l _ rest ((List.mem_cons.1 m).resolve_left (Ne.symm here)) (keeps s x c), others s x here]

/-! ## Heat reports (R351) -/

/-- An entry that a report of die r for frame f counts. -/
def DirEnt.reported (e : DirEnt) (f r : Nat) : DirEnt :=
  if onChip f ∧ f / 1024 = r then { e with heatL := heatUp e.heatL }
  else { e with heat := kset (fun _ => 0) e.heat r (heatUp (kget (fun _ => 0) e.heat r)) }

/-- A directory whose entries of frame f a report of die r has counted. -/
def Sedge.reported (x : Sedge) (f r : Nat) : Sedge :=
  (x.entries (fun e => decide (e.pfn = f) && e.st != .lost)).foldl (fun y p => y.putEntry p.1 (p.2.reported f r)) x

/-- The work of one die for a report of die r for frame f. -/
def reportDie (f r : Nat) (s : State) (d : Nat) : State :=
  if sedgeWorks s d then
    ((sedge s d).entries (fun e => decide (e.pfn = f) && e.st != .lost)).foldl (fun s p => putDir s d p.1 (p.2.reported f r)) s
  else s

theorem execHeatReport_dies {s : State} {frame : BitVec 20} {die : BitVec 3} (due : (frame.toNat, die.toNat) ∈ s.heatDue) :
    execHeatReport frame die s = done ((List.range s.part.dies).foldl (reportDie frame.toNat die.toNat)
      { s with heatDue := s.heatDue.erase (frame.toNat, die.toNat) }) := by
  unfold execHeatReport
  have there : ¬ (s.heatDue.contains (frame.toNat, die.toNat) = false) := by
    rw [List.contains_iff_mem.2 due]
    decide
  exact congrArg done (if_neg there)

theorem sedge_foldl_putDir (d : Nat) (g : DirEnt → DirEnt) (l : List (Nat × DirEnt)) (s : State) (k : Nat) :
    sedge (l.foldl (fun s p => putDir s d p.1 (g p.2)) s) k =
      if k = d then l.foldl (fun y p => y.putEntry p.1 (g p.2)) (sedge s d) else sedge s k := by
  induction l generalizing s with
  | nil =>
    by_cases e : k = d
    · rw [if_pos e, e]; rfl
    · rw [if_neg e]; rfl
  | cons p l ih =>
    rw [List.foldl_cons, ih, sedge_putDir]
    by_cases e : k = d
    · rw [if_pos e, if_pos e]; rfl
    · rw [if_neg e, if_neg e]
      exact sedge_setSedge_other _ _ e

theorem reportDie_within (f r : Nat) (s : State) (d : Nat) : Within [.sedges] s (reportDie f r s d) := by
  unfold reportDie
  exact .ite (.foldl (fun _ _ => putDir_within (.refl _) ..) (.refl s)) (.refl s)

theorem sedge_reportDie (f r : Nat) (s : State) (d k : Nat) : sedge (reportDie f r s d) k =
    if k = d ∧ sedgeWorks s d = true then (sedge s k).reported f r else sedge s k := by
  unfold reportDie
  by_cases works : sedgeWorks s d = true
  · rw [if_pos works, sedge_foldl_putDir d (fun e => e.reported f r)]
    by_cases e : k = d
    · rw [if_pos e, if_pos ⟨e, works⟩, e]
      rfl
    · rw [if_neg e, if_neg fun h => e h.1]
  · rw [if_neg works, if_neg fun h => works h.2]

theorem entry_foldl_putEntry (g : DirEnt → DirEnt) (l : List (Nat × DirEnt)) (nodup : (l.map Prod.fst).Nodup) (x : Sedge) :
    (∀ i e, (i, e) ∈ l → (l.foldl (fun y p => y.putEntry p.1 (g p.2)) x).entry i = g e) ∧
      ∀ i, (∀ p ∈ l, p.1 ≠ i) → (l.foldl (fun y p => y.putEntry p.1 (g p.2)) x).entry i = x.entry i := by
  induction l generalizing x with
  | nil => exact ⟨fun _ _ h => absurd h List.not_mem_nil, fun _ _ => rfl⟩
  | cons p l ih =>
    obtain ⟨fresh, rest⟩ := List.nodup_cons.1 (List.map_cons ▸ nodup)
    obtain ⟨inside, outside⟩ := ih rest (x.putEntry p.1 (g p.2))
    refine ⟨fun i e m => ?_, fun i out => ?_⟩
    · rw [List.foldl_cons]
      rcases List.mem_cons.1 m with rfl | m
      · rw [outside i fun q hq h => fresh (List.mem_map.2 ⟨q, hq, h⟩)]
        exact Sedge.entry_putEntry_same ..
      · exact inside i e m
    · rw [List.foldl_cons, outside i fun q hq => out q (.tail _ hq)]
      exact Sedge.entry_putEntry_other _ _ (out p (.head _)).symm

theorem Sedge.mem_entries {x : Sedge} (h : x.Listed) {f : DirEnt → Bool} {i : Nat} {e : DirEnt} (m : (i, e) ∈ x.entries f) :
    x.entry i = e ∧ f e = true := by
  obtain ⟨mem, holds⟩ := List.mem_filter.1 m
  exact ⟨kget_of_mem h.1 mem, (Bool.and_eq_true ..▸ holds).2⟩

/-- An entry that is used stands in its directory. -/
theorem Sedge.mem_dir {x : Sedge} {i : Nat} (used : (x.entry i).v = true) : (i, x.entry i) ∈ x.dir :=
  mem_of_kget fun h => by
    rw [Sedge.entry, h] at used
    exact Bool.false_ne_true used

theorem Sedge.entry_reported {x : Sedge} (h : x.Listed) (f r i : Nat) :
    ((x.entry i).v = true → (x.entry i).pfn = f → (x.entry i).st ≠ .lost → (x.reported f r).entry i = (x.entry i).reported f r) ∧
      ((x.entry i).pfn ≠ f → (x.reported f r).entry i = x.entry i) := by
  have nodup : ((x.entries (fun e => decide (e.pfn = f) && e.st != .lost)).map Prod.fst).Nodup := h.1.sublist (List.filter_sublist.map _)
  obtain ⟨inside, outside⟩ := entry_foldl_putEntry (fun e => e.reported f r) _ nodup x
  refine ⟨fun used frame kept => inside i _ (List.mem_filter.2 ⟨Sedge.mem_dir used, ?_⟩), fun other => outside i fun p hp e => ?_⟩
  · simp [used, frame, kept]
  · obtain ⟨j, v⟩ := p
    obtain ⟨own, holds⟩ := Sedge.mem_entries h hp
    rw [Bool.and_eq_true, decide_eq_true_iff] at holds
    exact other (by rw [← show j = i from e, own]; exact holds.1)

/-- The directories after a report. -/
theorem sedge_reports {s u : State} (f r : Nat) (same : u.sedges = s.sedges) (works : ∀ d, sedgeWorks u d = sedgeWorks s d) (n k : Nat) :
    sedge ((List.range n).foldl (reportDie f r) u) k = if k < n ∧ sedgeWorks s k = true then (sedge s k).reported f r else sedge s k := by
  have others : ∀ t x, x ≠ k → sedge (reportDie f r t x) k = sedge t k := fun t x other => by
    rw [sedge_reportDie, if_neg fun h => other h.1.symm]
  rw [← sedge_of_sedges same]
  by_cases inside : k < n
  · have once := foldl_once (F := reportDie f r) (own := fun t => sedge t k) (C := fun t => sedgeWorks t k = sedgeWorks s k) (k := k)
      (G := fun y => if sedgeWorks s k = true then y.reported f r else y) (fun t x c => ?_) (fun t c => ?_) others
      (List.range n) u List.nodup_range (List.mem_range.2 inside) (works k)
    · rw [once]
      simp [inside]
    · rw [(reportDie_within f r t x).eq]
      exact c
    · rw [sedge_reportDie, c]
      simp
  · rw [if_neg fun h => inside h.1]
    have keep : ∀ (l : List Nat) (t : State), k ∉ l → sedge (l.foldl (reportDie f r) t) k = sedge t k := by
      intro l
      induction l with
      | nil => exact fun _ _ => rfl
      | cons y l ih =>
        intro t out
        rw [List.foldl_cons, ih _ fun h => out (.tail _ h), others t y fun h => out (h ▸ .head _)]
    exact keep _ _ fun h => inside (List.mem_range.1 h)

/-! ## The halving of heat (R351, R354) -/

theorem kget_map_used {α : Type} {d : Nat → α} {m : KMap α} (f : α → α) {k : Nat} (used : kget d m k ≠ d k) :
    kget d (m.map (fun p => (p.1, f p.2))) k = f (kget d m k) := by
  induction m with
  | nil => exact absurd rfl used
  | cons p r ih =>
    obtain ⟨j, v⟩ := p
    by_cases here : j = k
    · have own (w : α) (l : KMap α) : kget d ((j, w) :: l) k = w := if_pos here
      rw [List.map_cons, own, own]
    · have skip (w : α) (l : KMap α) : kget d ((j, w) :: l) k = kget d l k := if_neg here
      rw [skip] at used ⊢
      rw [List.map_cons, skip, ih used]

/-- What the choice of a page to move leaves. -/
structure Begun (d : Nat) (s t : State) : Prop where
  within : Within [.fresh, .sedges] s t
  dir : (sedge t d).dir = (sedge s d).dir
  halved : (sedge t d).lastHalf = (sedge s d).lastHalf

theorem Begun.refl (d : Nat) (s : State) : Begun d s s := ⟨.refl s, rfl, rfl⟩

theorem Begun.trans {d : Nat} {s t u : State} (p : Begun d s t) (q : Begun d t u) : Begun d s u :=
  ⟨p.within.trans q.within, q.dir.trans p.dir, q.halved.trans p.halved⟩

theorem beginMig_begun {d : Nat} {s t : State} (fresh : Within [.fresh] s t) (i f : Nat) (byMove : Bool) : Begun d s (beginMig t d i f byMove) where
  within := beginMig_within (fresh.mono (by decide)) ..
  dir := by rw [sedge_beginMig, sedge_of_sedges fresh.sedges]
  halved := by rw [sedge_beginMig, sedge_of_sedges fresh.sedges]

theorem demoteStart_begun (s : State) (d i : Nat) : Begun d s (demoteStart s d i) := by
  unfold demoteStart
  dsimp only
  split
  · split
    · exact beginMig_begun (pickOne_same s _) ..
    · exact .refl d s
  · exact .refl d s

/-- A halving halves the counters of every entry, and moves none. -/
theorem heatHalve_halves (s : State) (d : Nat) : (sedge (heatHalve s d) d).lastHalf = s.ticks ∧ (heatHalve s d).mem = s.mem ∧
    ∀ i, ((sedge s d).entry i).v = true → (sedge (heatHalve s d) d).entry i = ((sedge s d).entry i).halve := by
  obtain ⟨u, hu⟩ : ∃ u, u = setSedge s d { sedge s d with dir := (sedge s d).dir.map (fun p => (p.1, p.2.halve)), lastHalf := s.ticks } := ⟨_, rfl⟩
  obtain ⟨v, hv⟩ : ∃ v, v = loadPeriod u d := ⟨_, rfl⟩
  have period : Within [.cores] u v := hv ▸ loadPeriod_within (.refl u) ..
  have chosen : Begun d v (heatHalve s d) := by
    unfold heatHalve
    dsimp only
    rw [← hu, ← hv]
    split
    · exact foldl_keeps (P := Begun d v) (fun t p h => by
        split
        · exact h
        · exact h.trans (demoteStart_begun t d p.1)) _ _ (.refl d v)
    · exact .refl d v
  have own : sedge v d = { sedge s d with dir := (sedge s d).dir.map (fun p => (p.1, p.2.halve)), lastHalf := s.ticks } := by
    rw [sedge_of_sedges period.sedges, hu, sedge_setSedge_same]
  refine ⟨by rw [chosen.halved, own], ?_, fun i used => ?_⟩
  · rw [chosen.within.mem, period.mem, hu]
    rfl
  · have changed : (sedge s d).entry i ≠ DirEnt.init := fun h => by
      rw [h] at used
      exact Bool.false_ne_true used
    unfold Sedge.entry
    rw [chosen.dir, own]
    exact kget_map_used DirEnt.halve changed

/-! ## The decision to move a page (R352) -/

theorem mem_heatFrames {s : State} {w : Word} {t p f : Nat} (h : (p, f) ∈ heatFrames s w t) :
    onChip f = true ∧ f / 1024 = t ∧ heatAllowed w f = true := by
  obtain ⟨all, -⟩ := List.mem_filter.1 h
  obtain ⟨free, allowed⟩ := List.mem_filter.1 all
  obtain ⟨d, -, inside⟩ := List.mem_flatMap.1 free
  obtain ⟨q, member, same⟩ := List.mem_map.1 inside
  obtain ⟨-, holds⟩ := List.mem_filter.1 member
  cases same
  simp only [Bool.and_eq_true, decide_eq_true_iff] at holds allowed
  exact ⟨holds.2.1, holds.2.2, allowed.2⟩

theorem heatStart_begins {s : State} {d i : Nat} (used : ((sedge s d).entry i).v = true) (free : ((sedge s d).entry i).pin = false)
    (placed : ((sedge s d).entry i).st = .placed) (stays : releasing s d i = false)
    (hot : 2 * ((sedge s d).entry i).heatL + rfld s (sedgePg d) 28 17 9 ≤ ((sedge s d).entry i).remote.1)
    (frames : heatFrames s (compcls s d ((sedge s d).entry i).comp.toNat) ((sedge s d).entry i).remote.2 ≠ []) :
    ∃ p f t, (p, f) ∈ heatFrames s (compcls s d ((sedge s d).entry i).comp.toNat) ((sedge s d).entry i).remote.2 ∧
      heatStart s d i = beginMig t d i f false ∧ Within [.fresh] s t := by
  obtain ⟨⟨p, f⟩, member, picked⟩ := pickOne_mem s frames
  refine ⟨p, f, (pickOne s (heatFrames s (compcls s d ((sedge s d).entry i).comp.toNat) ((sedge s d).entry i).remote.2)).2, member, ?_,
    pickOne_same s _⟩
  unfold heatStart
  dsimp only
  rw [used, free, placed, stays, decide_eq_true hot, picked]
  rfl

/-! ## The steps of a migration (R355, R356) -/

theorem migStep_runs {s : State} {d : Nat} {m : Migration} {ok : Migration → Bool} (f : State → Nat → Migration → State)
    (works : sedgeWorks s d = true) (mig : (sedge s d).mig = some m) (at_ : ok m = true) : migStep s d ok f = f s d m := by
  unfold migStep
  rw [mig]
  dsimp only
  rw [works, at_]
  rfl

/-- The destination is reserved and the entry held (R355). -/
theorem migGrant_holds {s : State} {d pd : Nat} {m : Migration} {e : DirEnt} (he : (sedge s d).entry m.index = e)
    (pool : poolDie s m.dest = some pd) (free : poolAt s pd m.dest = .free) (placed : e.st = .placed)
    (there : memReach s e.eaddr = .ok) (good : (mget s e.eaddr).ecc ≠ .double) :
    let t := migGrant s d m
    poolAt t pd m.dest = .reserved ∧ ((sedge t d).entry m.index).st = .moving ∧
      (sedge t d).mig = some { m with stage := .breaking, post := s.postId } ∧
      fld (mget t e.eaddr).data 35 34 = 2 ∧ bit (mget t e.eaddr).data 33 = true ∧ (∀ a, a ≠ e.eaddr → mget t a = mget s a) ∧
      (postTargets s ≠ [] → ∃ p ∈ t.posts, p.id = s.postId ∧ p.scope = .page e.vpn ∧ p.todo = postTargets s) := by
  intro t
  obtain ⟨r, hr⟩ : ∃ r, r = setPool s pd m.dest .reserved := ⟨_, rfl⟩
  obtain ⟨u, hu⟩ : ∃ u, u = putDir r d m.index { e with st := .moving } := ⟨_, rfl⟩
  obtain ⟨v, hv⟩ : ∃ v, v = fieldWrite u e.eaddr 2 true e.pfn := ⟨_, rfl⟩
  obtain ⟨p, hp⟩ : ∃ p, p = sedgePost v d e.vpn := ⟨_, rfl⟩
  have shape : t = setSedge p.2 d { sedge p.2 d with mig := some { m with stage := .breaking, post := p.1 } } := by
    show migGrant s d m = _
    unfold migGrant
    dsimp only
    rw [he, pool]
    dsimp only
    rw [if_neg (fun h => h placed), if_pos free, ← hr, ← hu, ← hv, ← hp]
  clear_value t
  have noted : Within [.sedges] s u := hu ▸ putDir_within (hr ▸ setPool_within (.refl s) ..) ..
  have wrote : Within [.mem, .eccWb, .regs, .evTick, .events, .heatCnt, .heatDue, .slots] u v := hv ▸ fieldWrite_within (.refl u) ..
  have changed : Within [.mem, .eccWb, .regs, .evTick, .events, .heatCnt, .heatDue, .slots, .sedges] s v :=
    (noted.mono (by decide)).trans (wrote.mono (by decide))
  obtain ⟨number, posted, targets⟩ := sedgePost_posts v d e.vpn
  rw [← hp] at number posted targets
  have reach : memReach u e.eaddr = .ok := by
    rw [noted.eq]
    exact there
  have word := noted.mget e.eaddr
  have entry := mget_fieldWrite reach (word ▸ good) 2 true e.pfn
  rw [← hv] at entry
  obtain ⟨kind, mng, -⟩ := entryWord_fields (mget u e.eaddr).data 2 true e.pfn
  have mem (a : Nat) : mget t a = mget v a := by
    rw [shape]
    exact posted.mget a
  have sedges : p.2.sedges = u.sedges := posted.sedges.trans wrote.sedges
  refine ⟨?_, ?_, ?_, ?_, ?_, fun a other => ?_, fun some_ => ?_⟩
  · rw [shape, poolAt_setSedge (s := p.2) (x := { sedge p.2 d with mig := some { m with stage := .breaking, post := p.1 } }) rfl,
      poolAt_of_sedges sedges, hu, poolAt_putDir, hr, poolAt_setPool, if_pos ⟨rfl, rfl⟩]
  · rw [shape, sedge_setSedge_same, sedge_of_sedges sedges, hu, sedge_putDir]
    exact congrArg DirEnt.st (Sedge.entry_putEntry_same (sedge r d) m.index { e with st := .moving })
  · rw [shape, sedge_setSedge_same, number, changed.postId]
  · rw [mem, entry, if_pos rfl]
    exact kind
  · rw [mem, entry, if_pos rfl]
    exact mng
  · rw [mem, entry, if_neg other.symm, noted.mget]
  · have same := postTargets_of_within changed
    obtain ⟨q, member, id, -, scope, todo⟩ := targets (by rwa [same])
    refine ⟨q, ?_, by rw [id, changed.postId], scope, by rw [todo, same]⟩
    rw [shape]
    exact member

/-- A pair is copied with both tags (R356). -/
theorem migCopy_copies {s : State} {d : Nat} {m : Migration} {e : DirEnt} (he : (sedge s d).entry m.index = e)
    (good : (mget s (e.pfn * 1024 + 2 * m.pair)).ecc ≠ .double) (good1 : (mget s (e.pfn * 1024 + 2 * m.pair + 1)).ecc ≠ .double)
    (inside : m.pair < 512) (plain : marked s (m.dest * 1024 + 2 * m.pair) = false) (apart : e.pfn ≠ m.dest)
    (unfiltered : filtering s = false) (sound : copyParity s (e.pfn * 1024 + 2 * m.pair) (m.dest * 1024 + 2 * m.pair) = none)
    (granted : copyGranted s d m = true) :
    let t := migCopy s d m
    (sedge t d).mig = some { m with stage := .copying, pair := m.pair + 1 } ∧
      mget t (m.dest * 1024 + 2 * m.pair) = { mget s (e.pfn * 1024 + 2 * m.pair) with ecc := .good } ∧
      mget t (m.dest * 1024 + 2 * m.pair + 1) = { mget s (e.pfn * 1024 + 2 * m.pair + 1) with ecc := .good } ∧
      ∀ a, a ≠ m.dest * 1024 + 2 * m.pair → a ≠ m.dest * 1024 + 2 * m.pair + 1 → mget t a = mget s a := by
  intro t
  obtain ⟨src, hsrc⟩ : ∃ src, src = e.pfn * 1024 + 2 * m.pair := ⟨_, rfl⟩
  obtain ⟨dst, hdst⟩ : ∃ dst, dst = m.dest * 1024 + 2 * m.pair := ⟨_, rfl⟩
  have far : ∀ i j, i < 2 → j < 2 → src + i ≠ dst + j := fun i j hi hj h => apart (by omega)
  have page : (dst + 1) / 1024 = dst / 1024 := by omega
  rw [← hsrc] at good good1 sound ⊢
  rw [← hdst] at plain sound ⊢
  obtain ⟨r, hr⟩ : ∃ r, r = readFor s (.die d) src := ⟨_, rfl⟩
  have first := readFor_fst s d src
  have looked : Within Area.ofLook s (readFor s (.die d) src).2 := readFor_within (.refl s) ..
  obtain ⟨q, hq⟩ : ∃ q, q = readFor r.2 (.die d) (src + 1) := ⟨_, rfl⟩
  have second := readFor_fst r.2 d (src + 1)
  have looked1 : Within Area.ofLook r.2 (readFor r.2 (.die d) (src + 1)).2 := readFor_within (.refl r.2) ..
  rw [← hr] at first looked
  rw [← hq, looked.mget] at second
  rw [← hq] at looked1
  rw [if_neg good] at first
  rw [if_neg good1] at second
  have read : Within Area.ofLook s q.2 := looked.trans looked1
  have filter (g : Nat) (c : Cap) : filterTag q.2 g c = (c.tag, q.2) := by
    have off : filtering q.2 = false := by
      rw [← unfiltered]
      unfold filtering sweep
      rw [read.part, read.sweeps]
    unfold filterTag
    rw [off, Bool.and_false]
    rfl
  obtain ⟨u, hu⟩ : ∃ u, u = putFor q.2 (.die d) dst (mget s src).data (mget s src).tag := ⟨_, rfl⟩
  obtain ⟨v, hv⟩ : ∃ v, v = putFor u (.die d) (dst + 1) (mget s (src + 1)).data (mget s (src + 1)).tag := ⟨_, rfl⟩
  have shape : t = setSedge v d { sedge v d with mig := some { m with stage := .copying, pair := m.pair + 1 } } := by
    have keep : ∀ a b : Bool, (a && ((a && b) || !(a && b))) = a ∧ (b && ((a && b) || !(a && b))) = b := by decide
    show migCopy s d m = _
    unfold migCopy
    dsimp only
    rw [he, ← hsrc, ← hdst, sound, granted, ← hr, show r = (some ((mget s src).data, (mget s src).tag), r.2) from Prod.ext first rfl]
    dsimp only
    rw [← hq, show q = (some ((mget s (src + 1)).data, (mget s (src + 1)).tag), q.2) from Prod.ext second rfl]
    dsimp only
    rw [filter]
    dsimp only
    rw [(keep _ _).1, (keep _ _).2, ← hu, ← hv]
  clear_value t
  have plain0 : marked q.2 dst = false := by
    unfold marked at plain ⊢
    rw [read.marks, plain]
  have plain1 : marked u (dst + 1) = false := by
    unfold marked at plain ⊢
    rw [hu, (putFor_within (F := Area.ofDma) (.refl q.2) ..).marks, read.marks, page, plain]
  have mem (a : Nat) : mget t a = mget v a := by rw [shape]; rfl
  have put1 := mget_putFor (.die d) (mget s (src + 1)).data (mget s (src + 1)).tag plain1
  have put0 := mget_putFor (.die d) (mget s src).data (mget s src).tag plain0
  rw [← hv] at put1
  rw [← hu] at put0
  refine ⟨by rw [shape, sedge_setSedge_same], ?_, ?_, fun a other other1 => ?_⟩
  · rw [mem, put1, if_neg (by omega), put0, if_pos rfl]
  · rw [mem, put1, if_pos rfl]
  · rw [mem, put1, if_neg other1.symm, put0, if_neg other.symm, read.mget]

/-! ### The release of a page (R339, R355) -/

theorem held_releaseWalk {s : State} {n : Nat} {w : HeldWalk} (held : (coreAt s n).held = some w) :
    (coreAt (releaseWalk s n) n).held = some { w with released := true } := by
  unfold releaseWalk
  rw [held]
  dsimp only
  rw [coreAt_setCore_same]

theorem core_releaseWalk_other (s : State) {n k : Nat} (h : k ≠ n) : coreAt (releaseWalk s n) k = coreAt s k := by
  unfold releaseWalk
  split
  · rfl
  · exact coreAt_setCore_other _ _ h

/-- A walk held on a page that is released. -/
theorem held_releasePage {s : State} {vpn n : Nat} {w : HeldWalk} (there : n < 16 * s.part.dies) (held : (coreAt s n).held = some w)
    (page : w.va / 1024 = vpn) : (coreAt (releasePage s vpn) n).held = some { w with released := true } := by
  have once := foldl_once (own := fun t => (coreAt t n).held) (C := fun _ : State => True) (k := n)
    (G := fun o => o.map fun w => if w.va / 1024 = vpn then { w with released := true } else w)
    (F := fun s n => match (coreAt s n).held with
      | some w => if w.va / 1024 = vpn then releaseWalk s n else s
      | none => s) (fun _ _ _ => trivial) (fun t _ => ?_) (fun t x other => ?_)
    (coreNos s) s List.nodup_range (List.mem_range.2 there) trivial
  · have after : (coreAt (releasePage s vpn) n).held = _ := once
    rw [after, held]
    simp [page]
  · cases e : (coreAt t n).held with
    | none => simp [e]
    | some w =>
      by_cases here : w.va / 1024 = vpn
      · simp [here, held_releaseWalk e]
      · simp [here, e]
  · split
    · split
      · rw [core_releaseWalk_other _ (Ne.symm other)]
      · rfl
    · rfl

/-- The entry is written with the new frame (R355). -/
theorem migMake_writes {s : State} {d : Nat} {m : Migration} {e : DirEnt} (he : (sedge s d).entry m.index = e)
    (there : memReach s e.eaddr = .ok) (good : (mget s e.eaddr).ecc ≠ .double) :
    let t := migMake s d m
    (sedge t d).mig = some { m with stage := .made } ∧ fld (mget t e.eaddr).data 35 34 = 1 ∧ bit (mget t e.eaddr).data 33 = true ∧
      fld (mget t e.eaddr).data 29 10 = m.dest % 2 ^ 20 ∧ (∀ a, a ≠ e.eaddr → mget t a = mget s a) ∧
      ∀ n w, n < 16 * s.part.dies → (coreAt s n).held = some w → w.va / 1024 = e.vpn →
        (coreAt t n).held = some { w with released := true } := by
  intro t
  obtain ⟨u, hu⟩ : ∃ u, u = fieldWrite s e.eaddr 1 true m.dest := ⟨_, rfl⟩
  obtain ⟨v, hv⟩ : ∃ v, v = releasePage u e.vpn := ⟨_, rfl⟩
  have shape : t = setSedge v d { sedge v d with mig := some { m with stage := .made } } := by
    show migMake s d m = _
    unfold migMake
    dsimp only
    rw [he, ← hu, ← hv]
  clear_value t
  have wrote : Within [.mem, .eccWb, .regs, .evTick, .events, .heatCnt, .heatDue, .slots] s u := hu ▸ fieldWrite_within (.refl s) ..
  have released : Within [.regs, .evTick, .events, .cores] u v := hv ▸ releasePage_within (.refl u) ..
  have entry := mget_fieldWrite there good 1 true m.dest
  rw [← hu] at entry
  obtain ⟨kind, mng, pfn⟩ := entryWord_fields (mget s e.eaddr).data 1 true m.dest
  have mem (a : Nat) : mget t a = mget u a := by
    rw [shape]
    exact released.mget a
  refine ⟨by rw [shape, sedge_setSedge_same], ?_, ?_, ?_, fun a other => ?_, fun n w inside held page => ?_⟩
  · rw [mem, entry, if_pos rfl]
    exact kind
  · rw [mem, entry, if_pos rfl]
    exact mng
  · rw [mem, entry, if_pos rfl]
    exact pfn
  · rw [mem, entry, if_neg other.symm]
  · have core : coreAt t n = coreAt v n := by rw [shape]; rfl
    rw [core, hv]
    refine held_releasePage (wrote.part ▸ inside) ?_ page
    rw [coreAt_of_cores wrote.cores, held]

/-- A migration that is over: Sedge has none, with its directory and its pool as they were. -/
theorem closeMig_closes (s : State) (d result : Nat) : ∃ z, closeMig s d result = setSedge s d z ∧ z.mig = none ∧
    z.waitMove = (sedge s d).waitMove ∧ z.dir = (sedge s d).dir ∧ z.pool = (sedge s d).pool := ⟨_, rfl, rfl, rfl, rfl, rfl⟩

theorem endMig_closes {s : State} {d : Nat} (waits : (sedge s d).waitMove = none) (result : Nat) :
    ∃ z, endMig s d result = setSedge s d z ∧ z.mig = none ∧ z.dir = (sedge s d).dir ∧ z.pool = (sedge s d).pool := by
  obtain ⟨z, closed, noMig, same, dir, pools⟩ := closeMig_closes s d result
  refine ⟨z, ?_, noMig, dir, pools⟩
  unfold endMig startWaiting
  rw [closed, sedge_setSedge_same, noMig, same, waits]

/-- The destination maps its frame, and the source frees its own (R344, R355). -/
theorem migConfirm_maps {s : State} {d pd qd : Nat} {m : Migration} {e : DirEnt} (he : (sedge s d).entry m.index = e)
    (waits : (sedge s d).waitMove = none) (pool : poolDie s m.dest = some pd) (source : poolDie s e.pfn = some qd) (apart : e.pfn ≠ m.dest) :
    let t := migConfirm s d m
    poolAt t pd m.dest = .mapped ∧ poolAt t qd e.pfn = .free ∧ (sedge t d).mig = none ∧ ((sedge t d).entry m.index).pfn = m.dest ∧
      ((sedge t d).entry m.index).st = .placed ∧ rget t (sedgePg d) 30 = rget s (sedgePg d) 30 + 1 ∧ t.mem = s.mem := by
  intro t
  obtain ⟨u, hu⟩ : ∃ u, u = setPool s pd m.dest .mapped := ⟨_, rfl⟩
  obtain ⟨v, hv⟩ : ∃ v, v = setPool u qd e.pfn .free := ⟨_, rfl⟩
  obtain ⟨f, hf⟩ : ∃ f : DirEnt, f = { e with st := .placed, pfn := m.dest, heatL := 0, heat := [], coldPeriods := 0 } := ⟨_, rfl⟩
  obtain ⟨w, hw⟩ : ∃ w, w = putDir v d m.index f := ⟨_, rfl⟩
  obtain ⟨y, hy⟩ : ∃ y, y = rset w (sedgePg d) 30 (rget w (sedgePg d) 30 + 1) := ⟨_, rfl⟩
  have still : poolDie u e.pfn = some qd := by
    have same (k : Nat) : poolAt u k e.pfn = poolAt s k e.pfn := by rw [hu, poolAt_setPool, if_neg fun h => apart h.2]
    have part : u.part = s.part := by
      rw [hu]
      exact (setPool_within (F := [.sedges]) (.refl s) ..).part
    unfold poolDie at source ⊢
    rw [part]
    simp only [same]
    exact source
  have mapped : Within [.sedges] s u := hu ▸ setPool_within (.refl s) ..
  have freed : Within [.sedges] s v := hv ▸ setPool_within mapped ..
  have put : Within [.sedges] s w := hw ▸ putDir_within freed ..
  have counted : Within [.regs] w y := hy ▸ .rset (.refl w) _ _ _ (by decide)
  have regs : w.regs = s.regs := put.regs
  have mem : y.mem = s.mem := counted.mem.trans put.mem
  have own : sedge y d = (sedge v d).putEntry m.index f := by
    rw [sedge_of_sedges counted.sedges, hw, sedge_putDir]
  have waiting : (sedge y d).waitMove = none := by
    rw [own]
    show (sedge v d).waitMove = none
    rw [hv, sedge_setPool, hu, sedge_setPool]
    exact waits
  have shape : t = endMig y d 0 := by
    show migConfirm s d m = _
    unfold migConfirm
    dsimp only
    rw [he, pool]
    dsimp only
    rw [← hu, still]
    dsimp only
    rw [← hv, ← hf, ← hw, ← hy]
  clear_value t
  obtain ⟨z, closed, noMig, dir, pools⟩ := endMig_closes waiting 0
  rw [← shape] at closed
  have pool' (k g : Nat) : poolAt t k g = poolAt v k g := by
    rw [closed, poolAt_setSedge pools, poolAt_of_sedges counted.sedges, hw, poolAt_putDir]
  have inside : (sedge t d).entry m.index = f := by
    rw [closed, sedge_setSedge_same]
    unfold Sedge.entry
    rw [dir, own]
    exact Sedge.entry_putEntry_same (sedge v d) m.index f
  refine ⟨?_, ?_, by rw [closed, sedge_setSedge_same, noMig], by rw [inside, hf], by rw [inside, hf], ?_, ?_⟩
  · rw [pool', hv, poolAt_setPool, if_neg fun h => apart h.2.symm, hu, poolAt_setPool, if_pos ⟨rfl, rfl⟩]
  · rw [pool', hv, poolAt_setPool, if_pos ⟨rfl, rfl⟩]
  · have same : rget t (sedgePg d) 30 = rget y (sedgePg d) 30 := by rw [closed]; rfl
    rw [same, hy, rget_rset_same]
    unfold rget
    rw [regs]
  · rw [closed]
    exact mem

/-- The stages at which a pair may be copied (R356). -/
theorem copies {s : State} {m : Migration} (stage : m.stage = .copying ∨ (m.stage = .breaking ∧ postDone s m.post = true)) (inside : m.pair < 512) :
    ((m.stage == .copying || (m.stage == .breaking && postDone s m.post)) && decide (m.pair < 512)) = true := by
  rw [decide_eq_true inside, Bool.and_true]
  rcases stage with copying | ⟨breaking, over_⟩
  · rw [copying]
    rfl
  · rw [breaking, over_]
    rfl

/-- Settles O34: each step of a migration, as its lemma above says. -/
theorem pageMigration : Obligations.PageMigration := by
  unfold Obligations.PageMigration
  intro s die frame index m pd canon d x e src dst h
  refine ⟨fun due => ?_, fun works due => ?_, fun works ready used free placed stays hot frames => ?_,
    fun works mig start pool free placed there good => ?_,
    fun works mig stage inside good good1 plain apart unfiltered sound soundDst => ⟨fun waits => ?_, fun granted => ?_⟩,
    fun works mig stage all there good => ?_, fun qd works mig stage waits pool source apart => ?_⟩
  · obtain ⟨u, hu⟩ : ∃ u : State, u = { s with heatDue := s.heatDue.erase (frame.toNat, d) } := ⟨_, rfl⟩
    have works (k : Nat) : sedgeWorks u k = sedgeWorks s k := by rw [hu]; rfl
    have dirs := sedge_reports frame.toNat d (s := s) (u := u) (by rw [hu]) works s.part.dies
    have shape := execHeatReport_dies due
    rw [← hu] at shape
    have only : Within [.sedges] u ((List.range s.part.dies).foldl (reportDie frame.toNat d) u) :=
      .foldl (fun t k => reportDie_within _ _ t k) (.refl u)
    refine ⟨_, shape, ?_, fun k i inside works' used own kept => ?_, fun k i other => ?_⟩
    · have eq := only.eq
      rw [eq, hu]
      rfl
    · have entry := (Sedge.entry_reported (Canonical.sedge canon k) frame.toNat d i).1 used own kept
      have after := (dirs k).trans (if_pos ⟨inside, works'⟩)
      rw [after, entry]
      unfold DirEnt.reported
      refine ⟨fun near => ?_, fun far => ?_⟩
      · rw [if_pos near]
        rfl
      · rw [if_neg far]
        exact kget_kset_same ..
    · rw [dirs k]
      split
      · exact (Sedge.entry_reported (Canonical.sedge canon k) frame.toNat d i).2 other
      · rfl
  · obtain ⟨halved, mem, entries⟩ := heatHalve_halves s d
    refine ⟨_, congrArg done (if_pos ⟨works, due⟩), halved, mem, fun i used => ?_⟩
    rw [entries i used]
    exact ⟨rfl, rfl, rfl⟩
  · obtain ⟨p, f, t, member, begins, fresh⟩ := heatStart_begins used free placed stays hot frames
    obtain ⟨chip, die_, allowed⟩ := mem_heatFrames member
    have begun : (sedge (beginMig t d index.toNat f false) d).mig =
        some { index := index.toNat, dest := f, stage := .start, pair := 0, byMove := false, post := 0 } := by rw [sedge_beginMig]
    refine ⟨beginMig t d index.toNat f false, f, ?_, chip, die_, allowed, fresh.mem, begun⟩
    refine congrArg done ((if_pos (by rw [works, ready]; rfl)).trans ?_)
    dsimp only
    rw [begins, begun]
    rfl
  · exact ⟨_, congrArg done (migStep_runs migGrant works mig (by rw [start]; rfl)), migGrant_holds rfl pool free placed there good⟩
  · have ok : copyParity s src dst = none := by
      unfold copyParity
      rw [if_neg sound, if_neg soundDst]
    have stays : migCopy s d m = s := by
      unfold migCopy
      dsimp only
      rw [ok, waits]
    exact congrArg done ((migStep_runs migCopy works mig (copies stage inside)).trans stays)
  · have ok : copyParity s src dst = none := by
      unfold copyParity
      rw [if_neg sound, if_neg soundDst]
    exact ⟨_, congrArg done (migStep_runs migCopy works mig (copies stage inside)),
      migCopy_copies rfl good good1 inside plain apart unfiltered ok granted⟩
  · exact ⟨_, congrArg done (migStep_runs migMake works mig (by rw [stage, all]; rfl)), migMake_writes rfl there good⟩
  · exact ⟨_, congrArg done (migStep_runs migConfirm works mig (by rw [stage]; rfl)), migConfirm_maps rfl waits pool source apart⟩

end Sys2Proof.Machine
